-- ==== Sys2Proof/Word.lean ====
section
/-! DEFINITION. The plainest types: bytes, legs, agents, and the sparse table in one canonical form
that holds registers, table entries and buffer bytes. -/

namespace Sys2Proof

abbrev Byte := BitVec 8

/-- The two attachments (R3). -/
inductive Leg where
  | a | b
deriving DecidableEq, Repr

/-- Leg A is 0 and leg B is 1 wherever the manual numbers legs. -/
def Leg.n : Leg → Nat
  | .a => 0
  | .b => 1

def Leg.other : Leg → Leg
  | .a => .b
  | .b => .a

def Leg.ofBit : Nat → Leg
  | 0 => .a
  | _ => .b

/-- Who writes or reads (R318, R408): the PF, a VF (1 to 128), one of firmware's four management cores, the BMC. -/
inductive Agent where
  | pf
  | vf (n : Nat)
  | fw (core : Fin 4)
  | bmc
deriving DecidableEq, Repr

/-- The source ID of R318. -/
def Agent.id : Agent → Nat
  | .pf => 0
  | .vf n => n
  | .fw c => 0xC0 + c.val
  | .bmc => 0xE0

/-- Firmware, whichever core issues the access: the cores share one instance of each command register (R408). (DESIGN CHOICE, log 59.) -/
def Agent.isFw : Agent → Bool
  | .fw _ => true
  | _ => false

/-- The kinds of ring of R286, and the two admin rings of R330. -/
inductive RingKind where
  | tx | rx | cq | eq | asq | acq
deriving DecidableEq, Repr

/-- A pair held once for each leg. -/
structure Two (α : Type) where
  a : α
  b : α
deriving DecidableEq, Repr

def Two.get {α : Type} (t : Two α) : Leg → α
  | .a => t.a
  | .b => t.b

def Two.upd {α : Type} (t : Two α) (l : Leg) (f : α → α) : Two α :=
  match l with
  | .a => { t with a := f t.a }
  | .b => { t with b := f t.b }

/-- Four of a kind, one for each downstream wave D0 to D3; a number above 3 reads D3 and writes nothing. -/
structure Four (α : Type) where
  w0 : α
  w1 : α
  w2 : α
  w3 : α
deriving DecidableEq, Repr

def Four.get {α : Type} (t : Four α) : Nat → α
  | 0 => t.w0
  | 1 => t.w1
  | 2 => t.w2
  | _ => t.w3

def Four.upd {α : Type} (t : Four α) (i : Nat) (f : α → α) : Four α :=
  match i with
  | 0 => { t with w0 := f t.w0 }
  | 1 => { t with w1 := f t.w1 }
  | 2 => { t with w2 := f t.w2 }
  | 3 => { t with w3 := f t.w3 }
  | _ => t

def Four.toList {α : Type} (t : Four α) : List α := [t.w0, t.w1, t.w2, t.w3]

/-- A sparse table: (key, value) pairs, keys strictly rising; an unlisted key reads as the table's default, and
no listed value equals that default. -/
abbrev Tab (α : Type) := List (Nat × α)

/-- How a read of host memory fails: UR, CA or poison, a malformed completion, no completion in time (R282), or the link lost (R304). -/
inductive ReadFault where
  | errored | malformed | timedOut | linkLost
deriving DecidableEq, Repr

/-- The status code a failed read leaves (R317). -/
def ReadFault.status : ReadFault → Nat
  | .errored => 2
  | .malformed => 2
  | .timedOut => 7
  | .linkLost => 9

/-- What a read of host memory, or a fetch of a message body, brought: bytes, or a failure (R282). (DESIGN CHOICE, log 57.) -/
inductive HostRead where
  | data (bytes : List Byte)
  | fail (why : ReadFault)
deriving DecidableEq, Repr

/-- One change of a Greros bundle (R206): what TABLE_BULK_LOAD applies. -/
inductive BulkItem where
  | node (idx : Nat) (v : BitVec 128)
  | root (idx : Nat) (v : BitVec 64)
  | prof (idx : Nat) (v : BitVec 64)
  | stream (idx : Nat) (v : BitVec 128)
  | commit (version : Nat)
deriving DecidableEq, Repr

/-- The work a long operation has done since its last report (R331, R336). -/
inductive OpWork where
  | units (n : Nat)
  | block (host : HostRead) (compareOk : Bool) (retryOk : Bool)
  | bulk (items : List BulkItem)
  | scrub (corrected uncorrected : Nat)
  | roll
deriving DecidableEq, Repr

/-- How a long operation's work ended: a status code of R317 found outside the model (0: none), the figures it measured, and whether a
self test found a receive chain faulty (R275). -/
structure OpFinish where
  status : Fin 16
  units : Nat
  failed : Nat
  chainBad : Bool
deriving DecidableEq, Repr

/-- What the terminal finds at a cold start (R338, R361, R385, R412). (DESIGN CHOICE, log 48.) -/
structure BootInput where
  refOk : Bool
  capacityMiB : Nat
  addr4 : Bool
  quadRead : Bool
  erase4k : Bool
  erase64k : Bool
  marginLow : Bool
  fuseEcc : Bool
deriving DecidableEq, Repr

/-- What one telemetry cycle reads from a module (R403). -/
structure Telemetry where
  modTemp : Nat
  vdm : Option (Nat × Nat)
  bias0 : Nat
  bias1 : Nat
  rxPower : Four Nat
deriving DecidableEq, Repr

/-- What an identity read brings from a module's pages (R400, R403, R404). -/
structure ModuleId where
  cmisRev : Nat
  vendor : List Byte
  part : List Byte
  serial : List Byte
  rev : List Byte
  date : List Byte
  fast : Bool
  biasHigh0 : Nat
  biasHigh1 : Nat
  life : List Byte
  laser : Option (List Byte)
deriving DecidableEq, Repr

/-- The supply rails of R421. -/
inductive Rail where
  | vddCore | vddSram | vddaLn | vddh | vddio | vaon
deriving DecidableEq, Repr

/-- The configuration-space items the manual names (R143, R278, R281, R305, R307, R313). -/
inductive ConfigItem where
  | busMasterEnable | vfEnable | msixEnable | relaxedOrdering | ptmEnable | aerCorr | aerUncorr
  | maxPayload | maxReadRequest | completionTimeout | powerState | aspm | ltrEnable | tag10Enable | tag14Enable | msixFunctionMask
deriving DecidableEq, Repr

/-- The features the terminal does not support (R279). -/
inductive Unsupported where
  | ats | pri | pasid | resizableBar | peerToPeer | msi | intx | atomicOp | tph | ide | l0p | l0s | l1ss
deriving DecidableEq, Repr

/-- The access types of R8. -/
inductive RegType where
  | rw | ro | w1c | w1s | wo | rc | rws | rwl
deriving DecidableEq, Repr

/-- One register field: where it lies, how many copies it has, its type and its reset value (R7, R8, R11). -/
structure Row where
  addr : Nat
  legStride : Nat
  n : Nat
  stride : Nat
  lo : Nat
  width : Nat
  ty : RegType
  reset : Nat
deriving DecidableEq, Repr

end Sys2Proof
end

