-- ==== Sys2Proof/Syntax.lean ====
section
/-! DEFINITION. The commands and events of the opcode table, one constructor per row, with the operands the rows carry:
what comes from the line, the host, a pin or a measurement. The comment names each row and its rule. -/

namespace Sys2Proof

inductive Instr where
  /-- SYNC_CANDIDATE (R34). -/
  | syncCandidate (l : Leg) (w : Nat) (raw : BitVec 64) (ofs : Nat)
  /-- DELINEATION_MARKER (R34). -/
  | delineationMarker (l : Leg) (w : Nat) (raw : BitVec 64) (hdr : BitVec 128) (rel : Int) (words : Int) (ofs : Int)
  /-- CODEWORD_DECODE (R54). -/
  | codewordDecode (l : Leg) (w : Nat) (idx : Nat) (corr : Nat) (ok : Bool)
  /-- PARTITION_HEADER (R38). -/
  | partitionHeader (l : Leg) (word : BitVec 64)
  /-- TOD_ANNOUNCEMENT (R106). -/
  | todAnnouncement (l : Leg) (word : BitVec 256)
  /-- ALLOCATION_STRUCTURE (R42). -/
  | allocationStructure (l : Leg) (word : BitVec 64)
  /-- SLUICE_REGION (R44). -/
  | sluiceRegion (l : Leg) (slots : List (BitVec 128)) (crc : BitVec 32)
  /-- CHANNEL_FRAME (R177). -/
  | channelFrame (l : Leg) (w : Nat) (off : Nat) (hdr : BitVec 64) (payload : List Byte) (next : BitVec 64) (ecc : Option Nat)
  /-- FRAME_DELIVERY (R296). -/
  | frameDelivery (ring : Nat) (ecc : Bool)
  /-- BURST_PROFILE (R69). -/
  | burstProfile (l : Leg) (msg : BitVec 384)
  /-- PROFILE_EFFECTIVE (R69). -/
  | profileEffective (l : Leg) (p : Nat)
  /-- ASSIGN_TN (R80). -/
  | assignTn (l : Leg) (msg : BitVec 384)
  /-- EQD_SET (R83). -/
  | eqdSet (l : Leg) (msg : BitVec 384)
  /-- EQD_APPLY (R84). -/
  | eqdApply (l : Leg)
  /-- CONTAINER (R69). -/
  | container (l : Leg) (msg : BitVec 384)
  /-- CONTAINER_EFFECTIVE (R81). -/
  | containerEffective (l : Leg) (slot : Nat)
  /-- DEACTIVATE (R74). -/
  | deactivate (l : Leg) (msg : BitVec 384)
  /-- EMERGENCY_STOP (R96). -/
  | emergencyStop (l : Leg) (msg : BitVec 384)
  /-- ROGUE_RELEASE (R96). -/
  | rogueRelease (l : Leg) (msg : BitVec 384)
  /-- ALLOC_REVISE (R57). -/
  | allocRevise (l : Leg) (msg : BitVec 384)
  /-- KEEP_RANGED (R86). -/
  | keepRanged (l : Leg) (msg : BitVec 384)
  /-- KEY_EXCHANGE (R222). -/
  | keyExchange (l : Leg) (msg : BitVec 384)
  /-- KEY_SWITCH (R228). -/
  | keySwitch (l : Leg) (msg : BitVec 384)
  /-- KEY_SWITCH_UP_EFFECTIVE (R226). -/
  | keySwitchUpEffective (l : Leg)
  /-- KEY_SWITCH_DN_EFFECTIVE (R226). -/
  | keySwitchDnEffective (l : Leg)
  /-- GENERATION_ERASE (R227). -/
  | generationErase (l : Leg) (up : Bool)
  /-- SLEEP (R370). -/
  | sleep (l : Leg) (msg : BitVec 384)
  /-- PROT_SWITCH (R260). -/
  | protSwitch (l : Leg) (msg : BitVec 384)
  /-- RESPONSE (R69). -/
  | response (l : Leg) (msg : BitVec 384)
  /-- MSG_UNKNOWN (R68). -/
  | msgUnknown (l : Leg) (msg : BitVec 384)
  /-- REQUEST_RETRY_TIMER (R71). -/
  | requestRetryTimer (txid : Nat)
  /-- ACT_CTL_WRITE (R74). -/
  | actCtlWrite (ag : Agent) (l : Leg) (v : BitVec 32)
  /-- REGISTRATION_TIMEOUT (R78). -/
  | registrationTimeout (l : Leg)
  /-- RANGING_TIMEOUT (R74). -/
  | rangingTimeout (l : Leg)
  /-- RANGE_MISS (R86). -/
  | rangeMiss (l : Leg)
  /-- WAKE_ATTEMPT_TIMEOUT (R79). -/
  | wakeAttemptTimeout (l : Leg)
  /-- UPSTREAM_FRAME_START (R56). -/
  | upstreamFrameStart (l : Leg) (sfc : BitVec 48) (fn : Nat)
  /-- LANE_POWER_UP (R393). -/
  | lanePowerUp (l : Leg) (u : Nat)
  /-- WINDOW_OPEN (R87). -/
  | windowOpen (l : Leg) (u : Nat) (start : Nat)
  /-- WINDOW_END (R166). -/
  | windowEnd (l : Leg) (u : Nat) (light : Bool)
  /-- ROGUE_LATCH (R95). -/
  | rogueLatch (l : Leg) (u : Nat) (samples : Nat)
  /-- HG_CTL_WRITE (R93). -/
  | hgCtlWrite (ag : Agent) (l : Leg) (v : BitVec 32)
  /-- LIMITER_STEP (R103). -/
  | limiterStep
  /-- SERVO_UPDATE (R435). -/
  | servoUpdate
  /-- QUALITY_EVALUATE (R120). -/
  | qualityEvaluate
  /-- TOD_MISSING (R108). -/
  | todMissing (l : Leg)
  /-- HOLDOVER_BOUND_ADVANCE (R122). -/
  | holdoverBoundAdvance
  /-- INCR_HO_UPDATE (R121). -/
  | incrHoUpdate (incrF : BitVec 48) (yref : Int) (y0 : Nat)
  /-- DISPERSION_FIT (R113). -/
  | dispersionFit (l : Leg)
  /-- LASER_LOW_CONF (R116). -/
  | laserLowConf (l : Leg)
  /-- LASER_CONF_RESTORED (R116). -/
  | laserConfRestored (l : Leg)
  /-- TIME_VOTE (R101). -/
  | timeVote (c0 : Nat) (c1 : Nat) (c2 : Nat) (i0 : BitVec 48) (i1 : BitVec 48) (i2 : BitVec 48)
  /-- TIME_SNAP (R126). -/
  | timeSnap (ag : Agent)
  /-- TIME_APPLY (R128). -/
  | timeApply (ag : Agent) (mode : Nat)
  /-- TIME_CANCEL (R128). -/
  | timeCancel (ag : Agent)
  /-- APPLY_TICK (R127). -/
  | applyTick
  /-- TIME_STAGE_WRITE (R128). -/
  | timeStageWrite (ag : Agent) (off : Nat) (v : BitVec 32)
  /-- TEV_ARM (R130). -/
  | tevArm (n : Nat)
  /-- TEV_DISARM (R134). -/
  | tevDisarm (n : Nat)
  /-- TEV_CONFIG_WRITE (R135). -/
  | tevConfigWrite (n : Nat) (off : Nat) (v : BitVec 32)
  /-- TEV_FIRE (R131). -/
  | tevFire (n : Nat)
  /-- TEV_PULSE_END (R137). -/
  | tevPulseEnd (n : Nat)
  /-- PPS_OUT_PULSE (R139). -/
  | ppsOutPulse
  /-- PPS_PULSE_END (R139). -/
  | ppsPulseEnd
  /-- TCAP_EDGE (R140). -/
  | tcapEdge (i : Nat) (rising : Bool) (widthPs : Nat) (wide : Bool) (fine : Nat)
  /-- TCAP_HEAD_POP (R141). -/
  | tcapHeadPop (i : Nat)
  /-- PTM_AUTO_TIMER (R143). -/
  | ptmAutoTimer
  /-- PTM_TRIGGER (R143). -/
  | ptmTrigger
  /-- PTM_RESPONSE (R143). -/
  | ptmResponse (master : BitVec 64) (pdelay : BitVec 32)
  /-- PTM_TIMEOUT (R143). -/
  | ptmTimeout
  /-- LATCHED_READ (R409). -/
  | latchedRead (ag : Agent) (addr : Nat)
  /-- DOORBELL (R289). -/
  | doorbell (f : Nat) (kind : RingKind) (k : Nat) (v : BitVec 64) (width : Nat) (hi : Bool)
  /-- DESCRIPTOR_FETCH (R293). -/
  | descriptorFetch (kind : RingKind) (ring : Nat) (data : Option (List Byte))
  /-- HOST_READ_COMPLETION (R282). -/
  | hostReadCompletion (tag : Nat) (mine : Bool) (bytes : List Byte) (lenOk : Bool) (good : Bool)
  /-- COMPLETION_TIMEOUT (R282). -/
  | completionTimeout (tag : Nat)
  /-- TOKEN_REFILL (R152). -/
  | tokenRefill
  /-- BURST_BUILD (R164). -/
  | burstBuild (l : Leg) (u : Nat) (start : Nat) (mem : List (Nat × List Byte)) (failed : List (Nat × ReadFault)) (ecc : List Nat)
  /-- BUILD_DEADLINE (R165). -/
  | buildDeadline (l : Leg) (u : Nat) (start : Nat) (finished : Nat)
  /-- FALLBACK_END (R158). -/
  | fallbackEnd (slot : Nat)
  /-- USCH_RESET (R176). -/
  | uschReset (ag : Agent)
  /-- USCH_RESET_DONE (R176). -/
  | uschResetDone
  /-- QUEUE_READ (R155). -/
  | queueRead (ag : Agent)
  /-- QUEUE_WRITE (R155). -/
  | queueWrite (ag : Agent)
  /-- RESET_BUCKETS (R155). -/
  | resetBuckets (ag : Agent)
  /-- CONTAINER_SLOT_WRITE (R147). -/
  | containerSlotWrite (ag : Agent) (slot : Nat) (off : Nat) (v : BitVec 32)
  /-- USCH_AUDIT_SNAP (R175). -/
  | uschAuditSnap (ag : Agent) (v : BitVec 32)
  /-- STBL_READ (R187). -/
  | stblRead (ag : Agent) (view : Nat)
  /-- STBL_WRITE (R188). -/
  | stblWrite (ag : Agent) (stage : Bool)
  /-- STBL_INVALIDATE (R188). -/
  | stblInvalidate (ag : Agent) (stage : Bool)
  /-- COMPARE_AND_WRITE (R187). -/
  | compareAndWrite (ag : Agent) (stage : Bool)
  /-- STBL_CMD_DONE (R187). -/
  | stblCmdDone (ag : Agent)
  /-- LEARN_HOLD_EXPIRY (R184). -/
  | learnHoldExpiry (sid : Nat)
  /-- LEARN_REARM (R184). -/
  | learnRearm (ag : Agent)
  /-- STAT_LATCH (R181). -/
  | statLatch (ag : Agent) (idx : Nat)
  /-- READ_NODE (R192). -/
  | readNode (ag : Agent)
  /-- WRITE_NODE (R194). -/
  | writeNode (ag : Agent)
  /-- READ_ROOT (R191). -/
  | readRoot (ag : Agent)
  /-- WRITE_ROOT (R191). -/
  | writeRoot (ag : Agent)
  /-- READ_PROF (R190). -/
  | readProf (ag : Agent)
  /-- WRITE_PROF (R190). -/
  | writeProf (ag : Agent)
  /-- CLS_CMD_DONE (R194). -/
  | clsCmdDone (ag : Agent)
  /-- COMMIT_OPEN (R203). -/
  | commitOpen (ag : Agent)
  /-- COMMIT (R202). -/
  | commit (ag : Agent) (version : Nat)
  /-- COMMIT_CANCEL (R203). -/
  | commitCancel (ag : Agent)
  /-- COMMIT_EFFECTIVE (R202). -/
  | commitEffective
  /-- DRAIN_DONE (R204). -/
  | drainDone
  /-- VERSION_EXPIRED (R204). -/
  | versionExpired
  /-- PIPELINE_COMPARE (R206). -/
  | pipelineCompare (differ : List (Nat × Nat))
  /-- LOOKASIDE_REQUEST (R230). -/
  | lookasideRequest (ring : Nat) (src : HostRead)
  /-- LOOKASIDE_DONE (R231). -/
  | lookasideDone (ring : Nat)
  /-- QUERY (R233). -/
  | query (ag : Agent)
  /-- SLOT_READ (R232). -/
  | slotRead (ag : Agent)
  /-- SLOT_ERASE (R232). -/
  | slotErase (ag : Agent)
  /-- SLOT_CMD_DONE (R233). -/
  | slotCmdDone (ag : Agent)
  /-- KEY_REFRESH (R70). -/
  | keyRefresh (ag : Agent) (mask : Nat)
  /-- CIPH_LOCK (R9). -/
  | ciphLock (ag : Agent)
  /-- RNG_FAIL (R236). -/
  | rngFail
  /-- RNG_RECOVER (R236). -/
  | rngRecover
  /-- SLUICE_RECORD_WRITE (R243). -/
  | sluiceRecordWrite (lane : Nat)
  /-- SLUICE_RECORD_READ (R244). -/
  | sluiceRecordRead (lane : Nat) (sfc : BitVec 48) (fn : Nat) (data : HostRead)
  /-- SWAP_REQUEST (R246). -/
  | swapRequest (ag : Agent) (v : BitVec 32)
  /-- SWAP_CANCEL (R247). -/
  | swapCancel (ag : Agent)
  /-- SWAP_EFFECTIVE (R247). -/
  | swapEffective (up : Bool)
  /-- CM_READ (R248). -/
  | cmRead (ag : Agent) (up : Bool) (active : Bool)
  /-- CM_WRITE (R248). -/
  | cmWrite (ag : Agent) (up : Bool)
  /-- CM_COPY (R248). -/
  | cmCopy (ag : Agent) (up : Bool)
  /-- CM_CLEAR (R248). -/
  | cmClear (ag : Agent) (up : Bool)
  /-- CM_CMD_DONE (R248). -/
  | cmCmdDone (ag : Agent)
  /-- LOS_DECLARE (R254). -/
  | losDeclare (l : Leg) (w : Nat)
  /-- LOS_CLEAR (R254). -/
  | losClear (l : Leg) (w : Nat)
  /-- SF_EVALUATE (R254). -/
  | sfEvaluate (l : Leg) (w : Nat)
  /-- HOLDOFF_EXPIRY (R258). -/
  | holdoffExpiry
  /-- CLEAR (R259). -/
  | clear
  /-- FORCED (R259). -/
  | forced (l : Leg)
  /-- MANUAL (R260). -/
  | manual (l : Leg)
  /-- FW_FORCED (R257). -/
  | fwForced (l : Leg)
  /-- SWITCH_DONE (R264). -/
  | switchDone
  /-- WTR_EXPIRY (R261). -/
  | wtrExpiry
  /-- PM_SECOND (R273). -/
  | pmSecond
  /-- PM_SECOND_COMMIT (R274). -/
  | pmSecondCommit
  /-- BIN_ROLL (R269). -/
  | binRoll
  /-- PM_BIN_LATCH (R271). -/
  | pmBinLatch (ag : Agent) (v : BitVec 32)
  /-- PM_TEST_WRITE (R268). -/
  | pmTestWrite (ag : Agent) (l : Leg) (v : BitVec 32)
  /-- LINK_DOWN (R304). -/
  | linkDown
  /-- LINK_TRAINED (R280). -/
  | linkTrained (rate : Nat) (width : Nat)
  /-- RESUME (R305). -/
  | resume (ag : Agent)
  /-- DISCARD (R306). -/
  | discard (ag : Agent)
  /-- LINK_HOLD_EXPIRED (R306). -/
  | linkHoldExpired
  /-- BME_SET (R305). -/
  | bmeSet (f : Nat)
  /-- RING_ENABLE (R287). -/
  | ringEnable (ag : Agent) (kind : RingKind) (ring : Nat) (v : BitVec 32)
  /-- RING_DISABLE (R287). -/
  | ringDisable (ag : Agent) (kind : RingKind) (ring : Nat) (v : BitVec 32)
  /-- FLUSH (R303). -/
  | flush (ag : Agent) (q : Nat)
  /-- FLUSH_DONE (R303). -/
  | flushDone (q : Nat)
  /-- COMPLETION_WRITE (R299). -/
  | completionWrite (cq : Nat)
  /-- MSIX_MODERATION_TIMER (R300). -/
  | msixModerationTimer (kind : RingKind) (ring : Nat)
  /-- RX_STARVED (R296). -/
  | rxStarved (ring : Nat)
  /-- REPLAY (R302). -/
  | replay (ag : Agent) (v : BitVec 32)
  /-- VF_FLR (R307). -/
  | vfFlr (f : Nat)
  /-- PF_FLR (R307). -/
  | pfFlr
  /-- FLR_DONE (R307). -/
  | flrDone (f : Nat)
  /-- HIF_AUDIT_CHECK (R308). -/
  | hifAuditCheck
  /-- HIF_AUDIT_SNAP (R308). -/
  | hifAuditSnap (ag : Agent) (v : BitVec 32)
  /-- EVT_LOG_POP (R315). -/
  | evtLogPop (ag : Agent)
  /-- ERRLOG_POP (R316). -/
  | errlogPop (f : Nat)
  /-- BAR_ACCESS (R407). -/
  | barAccess (f : Nat) (write : Bool) (v : BitVec 64)
  /-- MBX_SEND (R320). -/
  | mbxSend (ag : Agent) (v : BitVec 32)
  /-- MBX_STATUS_READ (R323). -/
  | mbxStatusRead (ag : Agent) (n : Nat)
  /-- MBX_ACK (R324). -/
  | mbxAck (ag : Agent) (n : Nat) (seq : Nat)
  /-- MBX_FETCH (R325). -/
  | mbxFetch (ag : Agent) (v : BitVec 32)
  /-- MBX_FETCH_DONE (R325). -/
  | mbxFetchDone (ag : Agent) (result : HostRead)
  /-- MBX_SW_ACCESS (R327). -/
  | mbxSwAccess (ag : Agent) (write : Bool) (v : BitVec 32)
  /-- MBX_OWNER_WRITE (R319). -/
  | mbxOwnerWrite (ag : Agent) (n : Nat) (owner : Nat)
  /-- MCTP_MBX_SEND (R329). -/
  | mctpMbxSend (n : Nat) (off : BitVec 32) (len : Nat)
  /-- MCTP_MBX_READ (R329). -/
  | mctpMbxRead (n : Nat)
  /-- MCTP_MBX_ACK (R329). -/
  | mctpMbxAck (n : Nat) (seq : Nat)
  /-- SW_WRITE (R329). -/
  | swWrite (off : BitVec 32) (data : List Byte)
  /-- SW_READ (R329). -/
  | swRead (off : BitVec 32) (len : Nat)
  /-- NOP (R333). -/
  | nop (e : List Byte)
  /-- IDENTIFY (R333). -/
  | identify (e : List Byte)
  /-- QUERY_OP (R333). -/
  | queryOp (e : List Byte)
  /-- SUSPEND (R336). -/
  | suspend (e : List Byte)
  /-- RESUME_OP (R336). -/
  | resumeOp (e : List Byte)
  /-- CANCEL (R336). -/
  | cancel (e : List Byte)
  /-- SETTINGS_SAVE (R358). -/
  | settingsSave (e : List Byte)
  /-- KEY_LOAD_CMD (R334). -/
  | keyLoadCmd (e : List Byte) (key : HostRead)
  /-- KEY_ERASE (R233). -/
  | keyErase (e : List Byte)
  /-- FW_ACTIVATE (R354). -/
  | fwActivate (e : List Byte)
  /-- FW_CONFIRM (R356). -/
  | fwConfirm (e : List Byte)
  /-- LC_TRANSITION (R362). -/
  | lcTransition (e : List Byte)
  /-- COSIGN_ENROL (R342). -/
  | cosignEnrol (e : List Byte) (key : HostRead)
  /-- FW_DOWNLOAD (R351). -/
  | fwDownload (e : List Byte) (hdr : HostRead)
  /-- FW_VERIFY (R352). -/
  | fwVerify (e : List Byte)
  /-- SCRUB_FULL (R337). -/
  | scrubFull (e : List Byte)
  /-- TABLE_BULK_LOAD (R337). -/
  | tableBulkLoad (e : List Byte)
  /-- DISPERSION_SWEEP (R333). -/
  | dispersionSweep (e : List Byte)
  /-- LASER_CHARACTERISE (R337). -/
  | laserCharacterise (e : List Byte)
  /-- SELF_TEST (R333). -/
  | selfTest (e : List Byte)
  /-- PM_EXPORT (R333). -/
  | pmExport (e : List Byte)
  /-- LONG_OP_PROGRESS (R331). -/
  | longOpProgress (h : Nat) (work : OpWork)
  /-- LONG_OP_SAFE_POINT (R336). -/
  | longOpSafePoint (h : Nat)
  /-- LONG_OP_COMPLETE (R336). -/
  | longOpComplete (h : Nat) (fin : OpFinish)
  /-- SUSPEND_TIMEOUT (R336). -/
  | suspendTimeout (h : Nat)
  /-- HEARTBEAT (R348). -/
  | heartbeat (v : BitVec 16)
  /-- HB_LOST (R348). -/
  | hbLost
  /-- AUTOPILOT_EXPIRED (R26). -/
  | autopilotExpired
  /-- FIRST_HEARTBEAT_LATE (R348). -/
  | firstHeartbeatLate
  /-- PLANNED_ABSENCE (R350). -/
  | plannedAbsence
  /-- MICROCODE_BANK_SWITCH (R354). -/
  | microcodeBankSwitch (l : Leg)
  /-- TRIAL_WINDOW_EXPIRY (R356). -/
  | trialWindowExpiry
  /-- LC_ARM (R362). -/
  | lcArm (ag : Agent) (v : BitVec 32)
  /-- IDLE_ENTER (R366). -/
  | idleEnter
  /-- PERST_ASSERT (R368). -/
  | perstAssert
  /-- PERST_DEASSERT (R384). -/
  | perstDeassert
  /-- BMC_POWER_REQUEST (R368). -/
  | bmcPowerRequest (target : Option Nat)
  /-- SLEEP_START (R371). -/
  | sleepStart
  /-- AWAKE_START (R371). -/
  | awakeStart
  /-- DOZE_START (R371). -/
  | dozeStart
  /-- SLEEP_ENDED (R373). -/
  | sleepEnded (code : Nat)
  /-- SLEEP_RETRY (R369). -/
  | sleepRetry
  /-- WAKE_IN (R381). -/
  | wakeIn
  /-- AON_TIMER (R381). -/
  | aonTimer
  /-- MODULE_PRESENCE (R402). -/
  | modulePresence (l : Leg) (present : Bool)
  /-- DEEP_SLEEP_ENTRY (R374). -/
  | deepSleepEntry
  /-- DEEP_SLEEP_EXIT (R375). -/
  | deepSleepExit (ticks : Nat) (crcOk : Bool)
  /-- BROWN_OUT (R380). -/
  | brownOut
  /-- PWR_GOOD_RISE (R385). -/
  | pwrGoodRise (boot : BootInput)
  /-- PWR_GOOD_FALL (R382). -/
  | pwrGoodFall
  /-- COLD (R382). -/
  | cold (ag : Agent) (v : BitVec 32)
  /-- WARM (R382). -/
  | warm (ag : Agent) (v : BitVec 32)
  /-- REF_LOSS (R386). -/
  | refLoss
  /-- REF_RESTORED (R386). -/
  | refRestored
  /-- BRINGUP_START (R394). -/
  | bringupStart (ag : Agent) (l : Leg) (v : BitVec 32)
  /-- BRINGUP_ATTEMPT_FAIL (R395). -/
  | bringupAttemptFail (l : Leg)
  /-- BRINGUP_RETRY (R395). -/
  | bringupRetry (l : Leg)
  /-- SLIP_WRITE (R396). -/
  | slipWrite (ag : Agent) (l : Leg) (w : Nat) (slip : Nat)
  /-- REHUNT (R396). -/
  | rehunt (ag : Agent) (l : Leg) (mask : Nat)
  /-- SAFETY_POLL (R401). -/
  | safetyPoll (l : Leg) (ack : Bool) (txFault : Bool) (ready : Bool) (duringTelem : Bool)
  /-- MODULE_INTERRUPT (R401). -/
  | moduleInterrupt (l : Leg)
  /-- TELEMETRY_READ (R403). -/
  | telemetryRead (l : Leg) (t : Telemetry)
  /-- RXOVL (R398). -/
  | rxovl (l : Leg) (w : Nat) (clipped : Nat)
  /-- LIFE_RECORD_WRITE (R404). -/
  | lifeRecordWrite (l : Leg) (acked : Bool)
  /-- BIAS_SAMPLE (R405). -/
  | biasSample (l : Leg)
  /-- SCRUB_VISIT (R413). -/
  | scrubVisit (inst : Nat) (row : Nat) (err : Nat) (table : Nat) (idx : Nat)
  /-- REGISTER_WRITE (R8). -/
  | registerWrite (ag : Agent) (addr : Nat) (v : BitVec 32)
  /-- TIME_TICK (R98). -/
  | timeTick
  /-- MSG_CRC_ERR (R64). -/
  | msgCrcErr (l : Leg) (msg : BitVec 384)
  /-- CDR_LOCK (R395). -/
  | cdrLock (l : Leg) (w : Nat)
  /-- MODULE_IDENTITY_READ (R400). -/
  | moduleIdentityRead (l : Leg) (id : ModuleId)
  /-- RAIL_LOSS (R423). -/
  | railLoss (rail : Rail)
  /-- CONFIGURATION_WRITE (R313). -/
  | configurationWrite (f : Nat) (item : ConfigItem) (v : Nat)
  /-- UNSUPPORTED_REQUEST (R279). -/
  | unsupportedRequest (f : Nat) (kind : Unsupported)
  /-- REGISTER_ACCESS (R367). -/
  | registerAccess (ag : Agent) (addr : Nat)
  /-- ACTIVATE_WARM_RESET (R353). -/
  | activateWarmReset
  /-- XT32K_STABLE (R385). -/
  | xt32kStable
deriving DecidableEq, Repr

end Sys2Proof
end

