-- ==== Sys2Proof/Config.lean ====
section
/-! DEFINITION. The free values: what the manual leaves open and the machine goes on after. None has a body. -/

namespace Sys2Proof.Config

/-- A draw of the on-die random number generator (R77, R78, R223, R234). (DESIGN CHOICE, log 56.) -/
opaque random : Nat → BitVec 384

/-- The frequency estimate of R435, the INCR at which theta would stay constant, as the image makes it from the latest estimates (newest
first, 2^-16 ns) and INCR: the manual names it and leaves its computation to the image. (DESIGN CHOICE, log 28.) -/
opaque freqEstimate : List Int → Nat → BitVec 48

/-- Coefficients that LASER_CHARACTERISE measures (KT, KI, T_REF, I_REF as four 16-bit fields). (DESIGN CHOICE, log 28.) -/
opaque laserCoeff : Nat → BitVec 64

/-- The module-class defaults of the laser coefficients (R115, R403), the same four fields. (DESIGN CHOICE, log 28.) -/
opaque moduleClassCoeff : Nat → BitVec 64

/-- SLOPE of R405 when every sample was taken at one accumulated on-time, where least squares gives none. (DEDUCED, log 55.) -/
opaque biasSlope : Nat → BitVec 32

/-- The last row of each on-die memory (R412): the manual gives no sizes in rows. (DESIGN CHOICE, log 51.) -/
opaque lastRow : Nat → BitVec 24

/-- Which of two valid life records is in force when neither count is 1 or 2 ahead of the other (R404 is silent). (DEDUCED, log 55.) -/
opaque lifeCopy : Nat → Bool

/-- The parity bits of a codeword: the check matrix is outside the manual (R53). (DESIGN CHOICE, log 56.) -/
opaque ldpcParity : Nat → BitVec 1920

/-- The PCIe receive buffer of each credit kind (PH, PD, NPH, NPD), and the read completion buffer: the manual names these ledger columns
(R308) and gives no sizes. (DESIGN CHOICE, log 56.) -/
opaque fcBuffer : Nat → BitVec 64
/-- The size of the read completion buffer (R308). (DESIGN CHOICE, log 56.) -/
opaque cplBuffer : Nat → BitVec 64

/-- The bytes that one change takes in a Greros bundle, by its kind (node, root, profile, stream, commit): the manual gives the bundle no format.
(DESIGN CHOICE, log 47.) -/
opaque bundleBytes : Nat → BitVec 16

/-- How many nanoseconds a write of the flash goes on, and how many bytes of it stand when power fails meanwhile (R357). (DESIGN CHOICE, log 70.) -/
opaque flashWriteNs : Nat → BitVec 32
/-- The bytes of a torn write that were programmed. (DESIGN CHOICE, log 70.) -/
opaque flashTorn : Nat → BitVec 20

/-- The units of a long operation whose count the manual does not give: the rows of SCRUB_FULL's memories and the superframes of
LASER_CHARACTERISE, by 256 x parameter + opcode. (DESIGN CHOICE, log 47.) -/
opaque opUnits : Nat → BitVec 32

end Sys2Proof.Config
end

