-- ==== Sys2Proof/Machine/RegsHost.lean ====
section
/-! DEFINITION. The register fields of the windows HIF, EVT, MBX, ADM, FW, MEM: address of instance 0 of leg A, leg stride (0: one copy), instances and stride,
first bit, width, type (R8) and reset. One definition per field; the rule that names the register stands above its block. -/

namespace Sys2Proof.Machine

/-! HIF (11_host_interface_and_rings.md): R72, R280, R283, R285, R287, R289, R299, R300, R301, R302, R305, R308, R309, R310, R316 -/
def Reg.HIF_TX_BASE_LO : Row := ⟨0x100000, 0x0, 8192, 0x20, 0, 32, .rw, 0⟩
def Reg.HIF_TX_BASE_HI : Row := ⟨0x100004, 0x0, 8192, 0x20, 0, 32, .rw, 0⟩
def Reg.HIF_TX_CTL_SIZE : Row := ⟨0x100008, 0x0, 8192, 0x20, 0, 5, .rw, 6⟩
def Reg.HIF_TX_CTL_EN : Row := ⟨0x100008, 0x0, 8192, 0x20, 8, 1, .rw, 0⟩
def Reg.HIF_TX_CTL_ERR : Row := ⟨0x100008, 0x0, 8192, 0x20, 9, 1, .ro, 0⟩
def Reg.HIF_TX_CTL_FLUSH : Row := ⟨0x100008, 0x0, 8192, 0x20, 10, 1, .wo, 0⟩
def Reg.HIF_TX_CTL_FLUSH_BUSY : Row := ⟨0x100008, 0x0, 8192, 0x20, 11, 1, .ro, 0⟩
def Reg.HIF_TX_CTL_HOLD : Row := ⟨0x100008, 0x0, 8192, 0x20, 13, 1, .ro, 0⟩
def Reg.HIF_TX_CTL_OWNER : Row := ⟨0x100008, 0x0, 8192, 0x20, 16, 8, .ro, 0⟩
def Reg.HIF_TX_CTL_ERRCODE : Row := ⟨0x100008, 0x0, 8192, 0x20, 24, 8, .ro, 0⟩
def Reg.HIF_TX_IDX_PROD : Row := ⟨0x10000C, 0x0, 8192, 0x20, 0, 16, .ro, 0⟩
def Reg.HIF_TX_IDX_CONS : Row := ⟨0x10000C, 0x0, 8192, 0x20, 16, 16, .ro, 0⟩
def Reg.HIF_TX_CQ : Row := ⟨0x100010, 0x0, 8192, 0x20, 0, 10, .rw, 0⟩
def Reg.HIF_TX_HELD : Row := ⟨0x100014, 0x0, 8192, 0x20, 0, 16, .ro, 0⟩
def Reg.HIF_RX_BASE_LO : Row := ⟨0x140000, 0x0, 4096, 0x20, 0, 32, .rw, 0⟩
def Reg.HIF_RX_BASE_HI : Row := ⟨0x140004, 0x0, 4096, 0x20, 0, 32, .rw, 0⟩
def Reg.HIF_RX_CTL_SIZE : Row := ⟨0x140008, 0x0, 4096, 0x20, 0, 5, .rw, 6⟩
def Reg.HIF_RX_CTL_EN : Row := ⟨0x140008, 0x0, 4096, 0x20, 8, 1, .rw, 0⟩
def Reg.HIF_RX_CTL_ERR : Row := ⟨0x140008, 0x0, 4096, 0x20, 9, 1, .ro, 0⟩
def Reg.HIF_RX_CTL_LA : Row := ⟨0x140008, 0x0, 4096, 0x20, 12, 1, .rw, 0⟩
def Reg.HIF_RX_CTL_HOLD : Row := ⟨0x140008, 0x0, 4096, 0x20, 13, 1, .ro, 0⟩
def Reg.HIF_RX_CTL_OWNER : Row := ⟨0x140008, 0x0, 4096, 0x20, 16, 8, .rw, 0⟩
def Reg.HIF_RX_CTL_ERRCODE : Row := ⟨0x140008, 0x0, 4096, 0x20, 24, 8, .ro, 0⟩
def Reg.HIF_RX_IDX_PROD : Row := ⟨0x14000C, 0x0, 4096, 0x20, 0, 16, .ro, 0⟩
def Reg.HIF_RX_IDX_CONS : Row := ⟨0x14000C, 0x0, 4096, 0x20, 16, 16, .ro, 0⟩
def Reg.HIF_RX_CQ : Row := ⟨0x140010, 0x0, 4096, 0x20, 0, 10, .rw, 0⟩
def Reg.HIF_RX_HELD : Row := ⟨0x140014, 0x0, 4096, 0x20, 0, 16, .ro, 0⟩
def Reg.HIF_CQ_BASE_LO : Row := ⟨0x160000, 0x0, 1024, 0x20, 0, 32, .rw, 0⟩
def Reg.HIF_CQ_BASE_HI : Row := ⟨0x160004, 0x0, 1024, 0x20, 0, 32, .rw, 0⟩
def Reg.HIF_CQ_CTL_SIZE : Row := ⟨0x160008, 0x0, 1024, 0x20, 0, 5, .rw, 6⟩
def Reg.HIF_CQ_CTL_EN : Row := ⟨0x160008, 0x0, 1024, 0x20, 8, 1, .rw, 0⟩
def Reg.HIF_CQ_CTL_ERR : Row := ⟨0x160008, 0x0, 1024, 0x20, 9, 1, .ro, 0⟩
def Reg.HIF_CQ_CTL_OWNER : Row := ⟨0x160008, 0x0, 1024, 0x20, 16, 8, .rw, 0⟩
def Reg.HIF_CQ_CTL_ERRCODE : Row := ⟨0x160008, 0x0, 1024, 0x20, 24, 8, .ro, 0⟩
def Reg.HIF_CQ_IDX_PROD : Row := ⟨0x16000C, 0x0, 1024, 0x20, 0, 16, .ro, 0⟩
def Reg.HIF_CQ_IDX_CONS : Row := ⟨0x16000C, 0x0, 1024, 0x20, 16, 16, .ro, 0⟩
def Reg.HIF_CQ_INT_VEC : Row := ⟨0x160010, 0x0, 1024, 0x20, 0, 7, .rw, 0⟩
def Reg.HIF_CQ_INT_INT_EN : Row := ⟨0x160010, 0x0, 1024, 0x20, 7, 1, .rw, 0⟩
def Reg.HIF_CQ_INT_MOD_CNT : Row := ⟨0x160010, 0x0, 1024, 0x20, 8, 8, .rw, 1⟩
def Reg.HIF_CQ_INT_MOD_US : Row := ⟨0x160010, 0x0, 1024, 0x20, 16, 16, .rw, 0⟩
def Reg.HIF_CQ_SEQ : Row := ⟨0x160014, 0x0, 1024, 0x20, 0, 16, .ro, 0⟩
def Reg.HIF_CQ_SEQ_LOST : Row := ⟨0x160014, 0x0, 1024, 0x20, 16, 16, .ro, 0⟩
def Reg.HIF_CQ_CWR_CNT : Row := ⟨0x160018, 0x0, 1024, 0x20, 0, 64, .ro, 0⟩
def Reg.HIF_EQ_BASE_LO : Row := ⟨0x168000, 0x0, 256, 0x20, 0, 32, .rw, 0⟩
def Reg.HIF_EQ_BASE_HI : Row := ⟨0x168004, 0x0, 256, 0x20, 0, 32, .rw, 0⟩
def Reg.HIF_EQ_CTL_SIZE : Row := ⟨0x168008, 0x0, 256, 0x20, 0, 5, .rw, 6⟩
def Reg.HIF_EQ_CTL_EN : Row := ⟨0x168008, 0x0, 256, 0x20, 8, 1, .rw, 0⟩
def Reg.HIF_EQ_CTL_ERR : Row := ⟨0x168008, 0x0, 256, 0x20, 9, 1, .ro, 0⟩
def Reg.HIF_EQ_CTL_OWNER : Row := ⟨0x168008, 0x0, 256, 0x20, 16, 8, .rw, 0⟩
def Reg.HIF_EQ_CTL_ERRCODE : Row := ⟨0x168008, 0x0, 256, 0x20, 24, 8, .ro, 0⟩
def Reg.HIF_EQ_IDX_PROD : Row := ⟨0x16800C, 0x0, 256, 0x20, 0, 16, .ro, 0⟩
def Reg.HIF_EQ_IDX_CONS : Row := ⟨0x16800C, 0x0, 256, 0x20, 16, 16, .ro, 0⟩
def Reg.HIF_EQ_INT_VEC : Row := ⟨0x168010, 0x0, 256, 0x20, 0, 7, .rw, 0⟩
def Reg.HIF_EQ_INT_INT_EN : Row := ⟨0x168010, 0x0, 256, 0x20, 7, 1, .rw, 0⟩
def Reg.HIF_EQ_INT_MOD_CNT : Row := ⟨0x168010, 0x0, 256, 0x20, 8, 8, .rw, 1⟩
def Reg.HIF_EQ_INT_MOD_US : Row := ⟨0x168010, 0x0, 256, 0x20, 16, 16, .rw, 0⟩
def Reg.HIF_EQ_SEQ : Row := ⟨0x168014, 0x0, 256, 0x20, 0, 16, .ro, 0⟩
def Reg.HIF_EQ_SEQ_LOST : Row := ⟨0x168014, 0x0, 256, 0x20, 16, 16, .ro, 0⟩
def Reg.HIF_EQ_CWR_CNT : Row := ⟨0x168018, 0x0, 256, 0x20, 0, 64, .ro, 0⟩
def Reg.HIF_FN_STATUS_ENABLED : Row := ⟨0x170000, 0x0, 129, 0x100, 0, 1, .ro, 0⟩
def Reg.HIF_FN_STATUS_BME : Row := ⟨0x170000, 0x0, 129, 0x100, 1, 1, .ro, 0⟩
def Reg.HIF_FN_STATUS_FLR_BUSY : Row := ⟨0x170000, 0x0, 129, 0x100, 2, 1, .ro, 0⟩
def Reg.HIF_FN_STATUS_HOLD : Row := ⟨0x170000, 0x0, 129, 0x100, 3, 1, .ro, 0⟩
def Reg.HIF_FN_EQ_DEF_EQ : Row := ⟨0x170004, 0x0, 129, 0x100, 0, 8, .rw, 0⟩
def Reg.HIF_FN_EQ_DEF_EQ_EN : Row := ⟨0x170004, 0x0, 129, 0x100, 8, 1, .rw, 0⟩
def Reg.HIF_LINK_RATE : Row := ⟨0x180000, 0x0, 1, 0x0, 0, 4, .ro, 0⟩
def Reg.HIF_LINK_WIDTH : Row := ⟨0x180000, 0x0, 1, 0x0, 4, 5, .ro, 0⟩
def Reg.HIF_LINK_UP : Row := ⟨0x180000, 0x0, 1, 0x0, 9, 1, .ro, 0⟩
def Reg.HIF_LINK_USABLE : Row := ⟨0x180000, 0x0, 1, 0x0, 10, 1, .ro, 0⟩
def Reg.HIF_LINK_HOLD : Row := ⟨0x180000, 0x0, 1, 0x0, 11, 1, .ro, 0⟩
def Reg.HIF_LL_CTL_HOLD_MS : Row := ⟨0x180004, 0x0, 1, 0x0, 0, 16, .rw, 1000⟩
def Reg.HIF_LL_CTL_RESUME : Row := ⟨0x180004, 0x0, 1, 0x0, 16, 1, .wo, 0⟩
def Reg.HIF_LL_CTL_DISCARD : Row := ⟨0x180004, 0x0, 1, 0x0, 17, 1, .wo, 0⟩
def Reg.HIF_STATUS_WERR : Row := ⟨0x180008, 0x0, 1, 0x0, 0, 1, .w1c, 0⟩
def Reg.HIF_REPLAY_CTL_RP_CQ : Row := ⟨0x180010, 0x0, 1, 0x0, 0, 10, .rw, 0⟩
def Reg.HIF_REPLAY_CTL_RP_CSEQ : Row := ⟨0x180010, 0x0, 1, 0x0, 16, 16, .rw, 0⟩
def Reg.HIF_REPLAY_STATUS_RP_BUSY : Row := ⟨0x180014, 0x0, 1, 0x0, 0, 1, .ro, 0⟩
def Reg.HIF_REPLAY_STATUS_RP_STATUS : Row := ⟨0x180014, 0x0, 1, 0x0, 8, 8, .ro, 0⟩
def Reg.HIF_REPLAY_DATA : Row := ⟨0x180020, 0x0, 8, 0x4, 0, 32, .ro, 0⟩
def Reg.HIF_AUD_CTL_AUD_SNAP : Row := ⟨0x180040, 0x0, 1, 0x0, 0, 1, .wo, 0⟩
def Reg.HIF_AUD_CTL_AUD_RING : Row := ⟨0x180040, 0x0, 1, 0x0, 16, 12, .rw, 0⟩
def Reg.HIF_AUD_STATUS_AUD_BUSY : Row := ⟨0x180044, 0x0, 1, 0x0, 0, 1, .ro, 0⟩
def Reg.HIF_AUD_STATUS_MISMATCH : Row := ⟨0x180044, 0x0, 1, 0x0, 1, 3, .w1c, 0⟩
def Reg.HIF_ERRLOG_POP : Row := ⟨0x180050, 0x0, 4, 0x4, 0, 32, .ro, 0⟩
def Reg.HIF_ERRLOG_STATUS_ERRLOG_LEVEL : Row := ⟨0x180060, 0x0, 1, 0x0, 0, 7, .ro, 0⟩
def Reg.HIF_ERRLOG_STATUS_ERRLOG_LOST : Row := ⟨0x180060, 0x0, 1, 0x0, 16, 16, .ro, 0⟩
def Reg.HIF_AUDP_POST_POSTED : Row := ⟨0x180200, 0x0, 1, 0x0, 0, 64, .ro, 0⟩
def Reg.HIF_AUDP_POST_IN_HOST : Row := ⟨0x180208, 0x0, 1, 0x0, 0, 64, .ro, 0⟩
def Reg.HIF_AUDP_POST_HELD : Row := ⟨0x180210, 0x0, 1, 0x0, 0, 64, .ro, 0⟩
def Reg.HIF_AUDP_POST_USED : Row := ⟨0x180218, 0x0, 1, 0x0, 0, 64, .ro, 0⟩
def Reg.HIF_AUDP_POST_DISCARDED : Row := ⟨0x180220, 0x0, 1, 0x0, 0, 64, .ro, 0⟩
def Reg.HIF_AUDC_ADVERTISED : Row := ⟨0x180240, 0x0, 4, 0x28, 0, 64, .ro, 0⟩
def Reg.HIF_AUDC_RECEIVED : Row := ⟨0x180248, 0x0, 4, 0x28, 0, 64, .ro, 0⟩
def Reg.HIF_AUDC_FREE : Row := ⟨0x180250, 0x0, 4, 0x28, 0, 64, .ro, 0⟩
def Reg.HIF_AUDC_OCCUPIED : Row := ⟨0x180258, 0x0, 4, 0x28, 0, 64, .ro, 0⟩
def Reg.HIF_AUDC_BUFFER : Row := ⟨0x180260, 0x0, 4, 0x28, 0, 64, .ro, 0⟩
def Reg.HIF_AUDR_CPL_BUFFER : Row := ⟨0x1802E0, 0x0, 1, 0x0, 0, 64, .ro, 0⟩
def Reg.HIF_AUDR_CPL_RESERVED : Row := ⟨0x1802E8, 0x0, 1, 0x0, 0, 64, .ro, 0⟩
def Reg.HIF_AUDR_CPL_OCCUPIED : Row := ⟨0x1802F0, 0x0, 1, 0x0, 0, 64, .ro, 0⟩
def Reg.HIF_AUDR_CPL_FREE : Row := ⟨0x1802F8, 0x0, 1, 0x0, 0, 64, .ro, 0⟩
def Reg.HIF_CNT_DB_ACCEPTED : Row := ⟨0x180400, 0x0, 1, 0x0, 0, 64, .ro, 0⟩
def Reg.HIF_CNT_DB_DISCARDED : Row := ⟨0x180408, 0x0, 1, 0x0, 0, 64, .ro, 0⟩
def Reg.HIF_CNT_DESC_FETCHED : Row := ⟨0x180410, 0x0, 1, 0x0, 0, 64, .ro, 0⟩
def Reg.HIF_CNT_RX_FRAMES : Row := ⟨0x180418, 0x0, 1, 0x0, 0, 64, .ro, 0⟩
def Reg.HIF_CNT_RX_BYTES : Row := ⟨0x180420, 0x0, 1, 0x0, 0, 64, .ro, 0⟩
def Reg.HIF_CNT_TX_COMPLETIONS : Row := ⟨0x180428, 0x0, 1, 0x0, 0, 64, .ro, 0⟩
def Reg.HIF_CNT_CPL_TIMEOUT : Row := ⟨0x180430, 0x0, 1, 0x0, 0, 64, .ro, 0⟩
def Reg.HIF_CNT_CPL_MALFORMED : Row := ⟨0x180438, 0x0, 1, 0x0, 0, 64, .ro, 0⟩
def Reg.HIF_CNT_CPL_UNEXPECTED : Row := ⟨0x180440, 0x0, 1, 0x0, 0, 64, .ro, 0⟩
def Reg.HIF_CNT_LINK_DOWNS : Row := ⟨0x180448, 0x0, 1, 0x0, 0, 64, .ro, 0⟩
def Reg.HIF_CNT_REPLAYED : Row := ⟨0x180450, 0x0, 1, 0x0, 0, 64, .ro, 0⟩
def Reg.HIF_CNT_FLRS : Row := ⟨0x180458, 0x0, 1, 0x0, 0, 64, .ro, 0⟩
def Reg.HIF_CNT_AUD_FAIL : Row := ⟨0x180460, 0x0, 1, 0x0, 0, 64, .ro, 0⟩

def Reg.tableHIF0 : List Row := [Reg.HIF_TX_BASE_LO, Reg.HIF_TX_BASE_HI, Reg.HIF_TX_CTL_SIZE, Reg.HIF_TX_CTL_EN, Reg.HIF_TX_CTL_ERR,
  Reg.HIF_TX_CTL_FLUSH, Reg.HIF_TX_CTL_FLUSH_BUSY, Reg.HIF_TX_CTL_HOLD, Reg.HIF_TX_CTL_OWNER, Reg.HIF_TX_CTL_ERRCODE, Reg.HIF_TX_IDX_PROD,
  Reg.HIF_TX_IDX_CONS, Reg.HIF_TX_CQ, Reg.HIF_TX_HELD, Reg.HIF_RX_BASE_LO, Reg.HIF_RX_BASE_HI, Reg.HIF_RX_CTL_SIZE, Reg.HIF_RX_CTL_EN,
  Reg.HIF_RX_CTL_ERR, Reg.HIF_RX_CTL_LA, Reg.HIF_RX_CTL_HOLD, Reg.HIF_RX_CTL_OWNER, Reg.HIF_RX_CTL_ERRCODE, Reg.HIF_RX_IDX_PROD]
def Reg.tableHIF1 : List Row := [Reg.HIF_RX_IDX_CONS, Reg.HIF_RX_CQ, Reg.HIF_RX_HELD, Reg.HIF_CQ_BASE_LO, Reg.HIF_CQ_BASE_HI,
  Reg.HIF_CQ_CTL_SIZE, Reg.HIF_CQ_CTL_EN, Reg.HIF_CQ_CTL_ERR, Reg.HIF_CQ_CTL_OWNER, Reg.HIF_CQ_CTL_ERRCODE, Reg.HIF_CQ_IDX_PROD,
  Reg.HIF_CQ_IDX_CONS, Reg.HIF_CQ_INT_VEC, Reg.HIF_CQ_INT_INT_EN, Reg.HIF_CQ_INT_MOD_CNT, Reg.HIF_CQ_INT_MOD_US, Reg.HIF_CQ_SEQ,
  Reg.HIF_CQ_SEQ_LOST, Reg.HIF_CQ_CWR_CNT, Reg.HIF_EQ_BASE_LO, Reg.HIF_EQ_BASE_HI, Reg.HIF_EQ_CTL_SIZE, Reg.HIF_EQ_CTL_EN,
  Reg.HIF_EQ_CTL_ERR]
def Reg.tableHIF2 : List Row := [Reg.HIF_EQ_CTL_OWNER, Reg.HIF_EQ_CTL_ERRCODE, Reg.HIF_EQ_IDX_PROD, Reg.HIF_EQ_IDX_CONS, Reg.HIF_EQ_INT_VEC,
  Reg.HIF_EQ_INT_INT_EN, Reg.HIF_EQ_INT_MOD_CNT, Reg.HIF_EQ_INT_MOD_US, Reg.HIF_EQ_SEQ, Reg.HIF_EQ_SEQ_LOST, Reg.HIF_EQ_CWR_CNT,
  Reg.HIF_FN_STATUS_ENABLED, Reg.HIF_FN_STATUS_BME, Reg.HIF_FN_STATUS_FLR_BUSY, Reg.HIF_FN_STATUS_HOLD, Reg.HIF_FN_EQ_DEF_EQ,
  Reg.HIF_FN_EQ_DEF_EQ_EN, Reg.HIF_LINK_RATE, Reg.HIF_LINK_WIDTH, Reg.HIF_LINK_UP, Reg.HIF_LINK_USABLE, Reg.HIF_LINK_HOLD,
  Reg.HIF_LL_CTL_HOLD_MS, Reg.HIF_LL_CTL_RESUME]
def Reg.tableHIF3 : List Row := [Reg.HIF_LL_CTL_DISCARD, Reg.HIF_STATUS_WERR, Reg.HIF_REPLAY_CTL_RP_CQ, Reg.HIF_REPLAY_CTL_RP_CSEQ,
  Reg.HIF_REPLAY_STATUS_RP_BUSY, Reg.HIF_REPLAY_STATUS_RP_STATUS, Reg.HIF_REPLAY_DATA, Reg.HIF_AUD_CTL_AUD_SNAP, Reg.HIF_AUD_CTL_AUD_RING,
  Reg.HIF_AUD_STATUS_AUD_BUSY, Reg.HIF_AUD_STATUS_MISMATCH, Reg.HIF_ERRLOG_POP, Reg.HIF_ERRLOG_STATUS_ERRLOG_LEVEL,
  Reg.HIF_ERRLOG_STATUS_ERRLOG_LOST, Reg.HIF_AUDP_POST_POSTED, Reg.HIF_AUDP_POST_IN_HOST, Reg.HIF_AUDP_POST_HELD, Reg.HIF_AUDP_POST_USED,
  Reg.HIF_AUDP_POST_DISCARDED, Reg.HIF_AUDC_ADVERTISED, Reg.HIF_AUDC_RECEIVED, Reg.HIF_AUDC_FREE, Reg.HIF_AUDC_OCCUPIED,
  Reg.HIF_AUDC_BUFFER]
def Reg.tableHIF4 : List Row := [Reg.HIF_AUDR_CPL_BUFFER, Reg.HIF_AUDR_CPL_RESERVED, Reg.HIF_AUDR_CPL_OCCUPIED, Reg.HIF_AUDR_CPL_FREE,
  Reg.HIF_CNT_DB_ACCEPTED, Reg.HIF_CNT_DB_DISCARDED, Reg.HIF_CNT_DESC_FETCHED, Reg.HIF_CNT_RX_FRAMES, Reg.HIF_CNT_RX_BYTES,
  Reg.HIF_CNT_TX_COMPLETIONS, Reg.HIF_CNT_CPL_TIMEOUT, Reg.HIF_CNT_CPL_MALFORMED, Reg.HIF_CNT_CPL_UNEXPECTED, Reg.HIF_CNT_LINK_DOWNS,
  Reg.HIF_CNT_REPLAYED, Reg.HIF_CNT_FLRS, Reg.HIF_CNT_AUD_FAIL]
def Reg.tableHIF : List Row := Reg.tableHIF0 ++ Reg.tableHIF1 ++ Reg.tableHIF2 ++ Reg.tableHIF3 ++ Reg.tableHIF4

/-! EVT (11_host_interface_and_rings.md): R310, R311, R315 -/
def Reg.EVT_ROUTE_RING : Row := ⟨0x340000, 0x0, 640, 0x4, 0, 8, .rw, 0⟩
def Reg.EVT_ROUTE_EN : Row := ⟨0x340000, 0x0, 640, 0x4, 8, 1, .rw, 0⟩
def Reg.EVT_ROUTE_MODE : Row := ⟨0x340000, 0x0, 640, 0x4, 9, 1, .rw, 0⟩
def Reg.EVT_LOG_POP : Row := ⟨0x341000, 0x0, 4, 0x4, 0, 32, .ro, 0⟩
def Reg.EVT_LOG_LEVEL : Row := ⟨0x341010, 0x0, 1, 0x0, 0, 13, .ro, 0⟩
def Reg.EVT_LOG_EVT_LOG_LOST : Row := ⟨0x341018, 0x0, 1, 0x0, 0, 64, .ro, 0⟩
def Reg.EVT_CNT_EVT_WRITTEN : Row := ⟨0x341100, 0x0, 1, 0x0, 0, 64, .ro, 0⟩
def Reg.EVT_CNT_EVT_DROPPED : Row := ⟨0x341108, 0x0, 1, 0x0, 0, 64, .ro, 0⟩

def Reg.tableEVT0 : List Row := [Reg.EVT_ROUTE_RING, Reg.EVT_ROUTE_EN, Reg.EVT_ROUTE_MODE, Reg.EVT_LOG_POP, Reg.EVT_LOG_LEVEL,
  Reg.EVT_LOG_EVT_LOG_LOST, Reg.EVT_CNT_EVT_WRITTEN, Reg.EVT_CNT_EVT_DROPPED]
def Reg.tableEVT : List Row := Reg.tableEVT0

/-! MBX (12_mailboxes_and_admin.md): R72, R319 -/
def Reg.MBX_OWN_OWNER : Row := ⟨0x301000, 0x0, 64, 0x4, 0, 8, .rw, 255⟩  -- reset: fw
def Reg.MBX_STATUS_WERR : Row := ⟨0x301100, 0x0, 1, 0x0, 0, 1, .w1c, 0⟩
def Reg.MBX_CNT_MESSAGES : Row := ⟨0x301200, 0x0, 1, 0x0, 0, 64, .ro, 0⟩
def Reg.MBX_CNT_REFUSED : Row := ⟨0x301208, 0x0, 1, 0x0, 0, 64, .ro, 0⟩
def Reg.MBX_CNT_COLLISIONS : Row := ⟨0x301210, 0x0, 1, 0x0, 0, 64, .ro, 0⟩
def Reg.MBX_CNT_ACK_STALE : Row := ⟨0x301218, 0x0, 1, 0x0, 0, 64, .ro, 0⟩
def Reg.MBX_CNT_FETCHES : Row := ⟨0x301220, 0x0, 1, 0x0, 0, 64, .ro, 0⟩
def Reg.MBX_CNT_FETCH_FAILS : Row := ⟨0x301228, 0x0, 1, 0x0, 0, 64, .ro, 0⟩
def Reg.MBX_CNT_NOTICES : Row := ⟨0x301230, 0x0, 1, 0x0, 0, 64, .ro, 0⟩
def Reg.MBX_CNT_NOTICE_LOST : Row := ⟨0x301238, 0x0, 1, 0x0, 0, 64, .ro, 0⟩

def Reg.tableMBX0 : List Row := [Reg.MBX_OWN_OWNER, Reg.MBX_STATUS_WERR, Reg.MBX_CNT_MESSAGES, Reg.MBX_CNT_REFUSED, Reg.MBX_CNT_COLLISIONS,
  Reg.MBX_CNT_ACK_STALE, Reg.MBX_CNT_FETCHES, Reg.MBX_CNT_FETCH_FAILS, Reg.MBX_CNT_NOTICES, Reg.MBX_CNT_NOTICE_LOST]
def Reg.tableMBX : List Row := Reg.tableMBX0

/-! ADM (12_mailboxes_and_admin.md): R72, R330, R331, R336, R348 -/
def Reg.ADM_SQ_BASE_LO : Row := ⟨0x310000, 0x0, 1, 0x0, 0, 32, .rw, 0⟩
def Reg.ADM_SQ_BASE_HI : Row := ⟨0x310004, 0x0, 1, 0x0, 0, 32, .rw, 0⟩
def Reg.ADM_SQ_CTL_SQ_SIZE : Row := ⟨0x310008, 0x0, 1, 0x0, 0, 4, .rw, 6⟩
def Reg.ADM_SQ_CTL_SQ_EN : Row := ⟨0x310008, 0x0, 1, 0x0, 8, 1, .rw, 0⟩
def Reg.ADM_SQ_CTL_SQ_ERR : Row := ⟨0x310008, 0x0, 1, 0x0, 9, 1, .ro, 0⟩
def Reg.ADM_SQ_CTL_SQ_ERRCODE : Row := ⟨0x310008, 0x0, 1, 0x0, 24, 8, .ro, 0⟩
def Reg.ADM_SQ_IDX_SQ_PROD : Row := ⟨0x31000C, 0x0, 1, 0x0, 0, 16, .rw, 0⟩
def Reg.ADM_SQ_IDX_SQ_CONS : Row := ⟨0x31000C, 0x0, 1, 0x0, 16, 16, .ro, 0⟩
def Reg.ADM_CQ_BASE_LO : Row := ⟨0x310010, 0x0, 1, 0x0, 0, 32, .rw, 0⟩
def Reg.ADM_CQ_BASE_HI : Row := ⟨0x310014, 0x0, 1, 0x0, 0, 32, .rw, 0⟩
def Reg.ADM_CQ_CTL_CQ_SIZE : Row := ⟨0x310018, 0x0, 1, 0x0, 0, 4, .rw, 6⟩
def Reg.ADM_CQ_CTL_CQ_EN : Row := ⟨0x310018, 0x0, 1, 0x0, 8, 1, .rw, 0⟩
def Reg.ADM_CQ_CTL_VEC : Row := ⟨0x310018, 0x0, 1, 0x0, 16, 7, .rw, 0⟩
def Reg.ADM_CQ_CTL_INT_EN : Row := ⟨0x310018, 0x0, 1, 0x0, 23, 1, .rw, 0⟩
def Reg.ADM_CQ_IDX_CQ_CONS : Row := ⟨0x31001C, 0x0, 1, 0x0, 0, 16, .rw, 0⟩
def Reg.ADM_CQ_IDX_CQ_PROD : Row := ⟨0x31001C, 0x0, 1, 0x0, 16, 16, .ro, 0⟩
def Reg.ADM_CTL_PROG_MS : Row := ⟨0x310020, 0x0, 1, 0x0, 0, 16, .rw, 1000⟩
def Reg.ADM_CTL_SUSP_MAX_S : Row := ⟨0x310020, 0x0, 1, 0x0, 16, 16, .rw, 3600⟩
def Reg.ADM_STATUS_FW_PRESENT : Row := ⟨0x310024, 0x0, 1, 0x0, 0, 1, .ro, 0⟩
def Reg.ADM_STATUS_LIVE : Row := ⟨0x310024, 0x0, 1, 0x0, 8, 4, .ro, 0⟩
def Reg.ADM_LOP0_HANDLE : Row := ⟨0x310100, 0x0, 8, 0x10, 0, 16, .ro, 0⟩
def Reg.ADM_LOP0_OPCODE : Row := ⟨0x310100, 0x0, 8, 0x10, 16, 8, .ro, 0⟩
def Reg.ADM_LOP0_STATE : Row := ⟨0x310100, 0x0, 8, 0x10, 24, 3, .ro, 0⟩
def Reg.ADM_LOP1_PERMILLE : Row := ⟨0x310104, 0x0, 8, 0x10, 0, 16, .ro, 0⟩
def Reg.ADM_LOP1_CID : Row := ⟨0x310104, 0x0, 8, 0x10, 16, 16, .ro, 0⟩
def Reg.ADM_LOP2_DONE : Row := ⟨0x310108, 0x0, 8, 0x10, 0, 32, .ro, 0⟩
def Reg.ADM_LOP3_TOTAL : Row := ⟨0x31010C, 0x0, 8, 0x10, 0, 32, .ro, 0⟩
def Reg.ADM_CNT_COMMANDS : Row := ⟨0x310200, 0x0, 1, 0x0, 0, 64, .ro, 0⟩
def Reg.ADM_CNT_REFUSED : Row := ⟨0x310208, 0x0, 1, 0x0, 0, 64, .ro, 0⟩
def Reg.ADM_CNT_LONG_STARTED : Row := ⟨0x310210, 0x0, 1, 0x0, 0, 64, .ro, 0⟩
def Reg.ADM_CNT_LONG_OK : Row := ⟨0x310218, 0x0, 1, 0x0, 0, 64, .ro, 0⟩
def Reg.ADM_CNT_LONG_CANCELLED : Row := ⟨0x310220, 0x0, 1, 0x0, 0, 64, .ro, 0⟩
def Reg.ADM_CNT_LONG_FAILED : Row := ⟨0x310228, 0x0, 1, 0x0, 0, 64, .ro, 0⟩

def Reg.tableADM0 : List Row := [Reg.ADM_SQ_BASE_LO, Reg.ADM_SQ_BASE_HI, Reg.ADM_SQ_CTL_SQ_SIZE, Reg.ADM_SQ_CTL_SQ_EN,
  Reg.ADM_SQ_CTL_SQ_ERR, Reg.ADM_SQ_CTL_SQ_ERRCODE, Reg.ADM_SQ_IDX_SQ_PROD, Reg.ADM_SQ_IDX_SQ_CONS, Reg.ADM_CQ_BASE_LO, Reg.ADM_CQ_BASE_HI,
  Reg.ADM_CQ_CTL_CQ_SIZE, Reg.ADM_CQ_CTL_CQ_EN, Reg.ADM_CQ_CTL_VEC, Reg.ADM_CQ_CTL_INT_EN, Reg.ADM_CQ_IDX_CQ_CONS, Reg.ADM_CQ_IDX_CQ_PROD,
  Reg.ADM_CTL_PROG_MS, Reg.ADM_CTL_SUSP_MAX_S, Reg.ADM_STATUS_FW_PRESENT, Reg.ADM_STATUS_LIVE, Reg.ADM_LOP0_HANDLE, Reg.ADM_LOP0_OPCODE,
  Reg.ADM_LOP0_STATE, Reg.ADM_LOP1_PERMILLE]
def Reg.tableADM1 : List Row := [Reg.ADM_LOP1_CID, Reg.ADM_LOP2_DONE, Reg.ADM_LOP3_TOTAL, Reg.ADM_CNT_COMMANDS, Reg.ADM_CNT_REFUSED,
  Reg.ADM_CNT_LONG_STARTED, Reg.ADM_CNT_LONG_OK, Reg.ADM_CNT_LONG_CANCELLED, Reg.ADM_CNT_LONG_FAILED]
def Reg.tableADM : List Row := Reg.tableADM0 ++ Reg.tableADM1

/-! FW (13_firmware_and_lifecycle.md): R72, R338, R340, R344, R345, R348, R349, R358, R360, R362 -/
def Reg.FW_STATUS_STATE : Row := ⟨0x320000, 0x0, 1, 0x0, 0, 3, .ro, 0⟩
def Reg.FW_STATUS_SLOT : Row := ⟨0x320000, 0x0, 1, 0x0, 3, 1, .ro, 0⟩
def Reg.FW_STATUS_TRIAL : Row := ⟨0x320000, 0x0, 1, 0x0, 4, 1, .ro, 0⟩
def Reg.FW_STATUS_STARTS : Row := ⟨0x320000, 0x0, 1, 0x0, 5, 2, .ro, 0⟩
def Reg.FW_STATUS_OVERRIDE : Row := ⟨0x320000, 0x0, 1, 0x0, 7, 1, .ro, 0⟩
def Reg.FW_STATUS_SETTINGS_OK : Row := ⟨0x320000, 0x0, 1, 0x0, 8, 1, .ro, 0⟩
def Reg.FW_STATUS_TRIAL_LEFT : Row := ⟨0x320000, 0x0, 1, 0x0, 16, 16, .ro, 0⟩
def Reg.FW_CTL_TRIAL_MIN : Row := ⟨0x320004, 0x0, 1, 0x0, 0, 11, .rw, 30⟩  -- reset: fw
def Reg.FW_CTL_ALLOW_UNTESTED : Row := ⟨0x320004, 0x0, 1, 0x0, 11, 1, .rw, 0⟩
def Reg.FW_DR_SILENCE_MS : Row := ⟨0x320008, 0x0, 1, 0x0, 0, 8, .ro, 50⟩  -- reset: fuse
def Reg.FW_DR_AUTOPILOT_MS : Row := ⟨0x320008, 0x0, 1, 0x0, 8, 10, .ro, 500⟩  -- reset: fuse
def Reg.FW_DR_RESTART_MAX : Row := ⟨0x320008, 0x0, 1, 0x0, 18, 4, .ro, 3⟩  -- reset: fuse
def Reg.FW_DR_WINDOW_MIN : Row := ⟨0x320008, 0x0, 1, 0x0, 22, 8, .ro, 10⟩  -- reset: fuse
def Reg.FW_DR_STATUS_IN_WINDOW : Row := ⟨0x32000C, 0x0, 1, 0x0, 0, 4, .ro, 0⟩
def Reg.FW_DR_STATUS_LAST_CAUSE : Row := ⟨0x32000C, 0x0, 1, 0x0, 4, 3, .ro, 0⟩
def Reg.FW_HB : Row := ⟨0x320010, 0x0, 1, 0x0, 0, 16, .ro, 0⟩
def Reg.FW_SLOT0_HDR_OK : Row := ⟨0x320040, 0x0, 2, 0x20, 0, 1, .ro, 0⟩
def Reg.FW_SLOT0_VERIFIED : Row := ⟨0x320040, 0x0, 2, 0x20, 1, 1, .ro, 0⟩
def Reg.FW_SLOT0_COSIGNED : Row := ⟨0x320040, 0x0, 2, 0x20, 2, 1, .ro, 0⟩
def Reg.FW_SLOT0_TESTED : Row := ⟨0x320040, 0x0, 2, 0x20, 3, 1, .ro, 0⟩
def Reg.FW_SLOT0_SCHEMA_WRITE : Row := ⟨0x320040, 0x0, 2, 0x20, 16, 16, .ro, 0⟩
def Reg.FW_SLOT_IMAGE_VER : Row := ⟨0x320044, 0x0, 2, 0x20, 0, 32, .ro, 0⟩
def Reg.FW_SLOT_TROEB_VER : Row := ⟨0x320048, 0x0, 2, 0x20, 0, 32, .ro, 0⟩
def Reg.FW_SLOT_FLUME_VER : Row := ⟨0x32004C, 0x0, 2, 0x20, 0, 32, .ro, 0⟩
def Reg.FW_SLOT_STEP_STEP_MIN : Row := ⟨0x320050, 0x0, 2, 0x20, 0, 16, .ro, 0⟩
def Reg.FW_SLOT_STEP_STEP_MAX : Row := ⟨0x320050, 0x0, 2, 0x20, 16, 16, .ro, 0⟩
def Reg.FW_SLOT_SCHEMA_SCHEMA_READ_MIN : Row := ⟨0x320054, 0x0, 2, 0x20, 0, 16, .ro, 0⟩
def Reg.FW_BOOTREC_SEQ : Row := ⟨0x320080, 0x0, 1, 0x0, 0, 32, .ro, 0⟩
def Reg.FW_BOOTREC_FLAGS : Row := ⟨0x320084, 0x0, 1, 0x0, 0, 8, .ro, 0⟩
def Reg.FW_BOOTREC_FLAGS_TRIAL_MIN : Row := ⟨0x320084, 0x0, 1, 0x0, 16, 11, .ro, 0⟩
def Reg.FW_SETTINGS_SCHEMA : Row := ⟨0x320090, 0x0, 1, 0x0, 0, 16, .ro, 0⟩
def Reg.FW_SETTINGS_COPY : Row := ⟨0x320090, 0x0, 1, 0x0, 16, 1, .ro, 0⟩
def Reg.FW_SETTINGS_UNREADABLE : Row := ⟨0x320090, 0x0, 1, 0x0, 17, 1, .ro, 0⟩
def Reg.FW_LC_STATE : Row := ⟨0x320100, 0x0, 1, 0x0, 0, 2, .ro, 2⟩  -- reset: fuse
def Reg.FW_LC_PENDING : Row := ⟨0x320100, 0x0, 1, 0x0, 2, 1, .ro, 0⟩  -- reset: fuse
def Reg.FW_LC_PEND_TGT : Row := ⟨0x320100, 0x0, 1, 0x0, 3, 2, .ro, 0⟩  -- reset: fuse
def Reg.FW_LC_COSIGN_USED : Row := ⟨0x320100, 0x0, 1, 0x0, 5, 3, .ro, 0⟩  -- reset: fuse
def Reg.FW_LC_MARGIN_LOW : Row := ⟨0x320100, 0x0, 1, 0x0, 8, 1, .ro, 0⟩  -- reset: fuse
def Reg.FW_LC_ARM_TARGET : Row := ⟨0x320104, 0x0, 1, 0x0, 0, 2, .wo, 0⟩
def Reg.FW_FLASH_SFDP_OK : Row := ⟨0x320108, 0x0, 1, 0x0, 0, 1, .ro, 0⟩
def Reg.FW_FLASH_SIZE_MIB : Row := ⟨0x320108, 0x0, 1, 0x0, 8, 8, .ro, 0⟩
def Reg.FW_CNT_RESTARTS : Row := ⟨0x320200, 0x0, 1, 0x0, 0, 64, .ro, 0⟩
def Reg.FW_CNT_AUTOPILOTS : Row := ⟨0x320208, 0x0, 1, 0x0, 0, 64, .ro, 0⟩
def Reg.FW_CNT_AUTOPILOT_EXPIRED : Row := ⟨0x320210, 0x0, 1, 0x0, 0, 64, .ro, 0⟩
def Reg.FW_CNT_FALLBACKS : Row := ⟨0x320218, 0x0, 1, 0x0, 0, 64, .ro, 0⟩
def Reg.FW_CNT_ACTIVATIONS : Row := ⟨0x320220, 0x0, 1, 0x0, 0, 64, .ro, 0⟩
def Reg.FW_CNT_REVERTS : Row := ⟨0x320228, 0x0, 1, 0x0, 0, 64, .ro, 0⟩
def Reg.FW_CNT_BLOCKS_WRITTEN : Row := ⟨0x320230, 0x0, 1, 0x0, 0, 64, .ro, 0⟩
def Reg.FW_CNT_VERIFY_FAIL : Row := ⟨0x320238, 0x0, 1, 0x0, 0, 64, .ro, 0⟩
def Reg.FW_CNT_HB_BAD : Row := ⟨0x320240, 0x0, 1, 0x0, 0, 64, .ro, 0⟩

def Reg.tableFW0 : List Row := [Reg.FW_STATUS_STATE, Reg.FW_STATUS_SLOT, Reg.FW_STATUS_TRIAL, Reg.FW_STATUS_STARTS, Reg.FW_STATUS_OVERRIDE,
  Reg.FW_STATUS_SETTINGS_OK, Reg.FW_STATUS_TRIAL_LEFT, Reg.FW_CTL_TRIAL_MIN, Reg.FW_CTL_ALLOW_UNTESTED, Reg.FW_DR_SILENCE_MS,
  Reg.FW_DR_AUTOPILOT_MS, Reg.FW_DR_RESTART_MAX, Reg.FW_DR_WINDOW_MIN, Reg.FW_DR_STATUS_IN_WINDOW, Reg.FW_DR_STATUS_LAST_CAUSE, Reg.FW_HB,
  Reg.FW_SLOT0_HDR_OK, Reg.FW_SLOT0_VERIFIED, Reg.FW_SLOT0_COSIGNED, Reg.FW_SLOT0_TESTED, Reg.FW_SLOT0_SCHEMA_WRITE, Reg.FW_SLOT_IMAGE_VER,
  Reg.FW_SLOT_TROEB_VER, Reg.FW_SLOT_FLUME_VER]
def Reg.tableFW1 : List Row := [Reg.FW_SLOT_STEP_STEP_MIN, Reg.FW_SLOT_STEP_STEP_MAX, Reg.FW_SLOT_SCHEMA_SCHEMA_READ_MIN,
  Reg.FW_BOOTREC_SEQ, Reg.FW_BOOTREC_FLAGS, Reg.FW_BOOTREC_FLAGS_TRIAL_MIN, Reg.FW_SETTINGS_SCHEMA, Reg.FW_SETTINGS_COPY,
  Reg.FW_SETTINGS_UNREADABLE, Reg.FW_LC_STATE, Reg.FW_LC_PENDING, Reg.FW_LC_PEND_TGT, Reg.FW_LC_COSIGN_USED, Reg.FW_LC_MARGIN_LOW,
  Reg.FW_LC_ARM_TARGET, Reg.FW_FLASH_SFDP_OK, Reg.FW_FLASH_SIZE_MIB, Reg.FW_CNT_RESTARTS, Reg.FW_CNT_AUTOPILOTS,
  Reg.FW_CNT_AUTOPILOT_EXPIRED, Reg.FW_CNT_FALLBACKS, Reg.FW_CNT_ACTIVATIONS, Reg.FW_CNT_REVERTS, Reg.FW_CNT_BLOCKS_WRITTEN]
def Reg.tableFW2 : List Row := [Reg.FW_CNT_VERIFY_FAIL, Reg.FW_CNT_HB_BAD]
def Reg.tableFW : List Row := Reg.tableFW0 ++ Reg.tableFW1 ++ Reg.tableFW2

/-! MEM (16_register_map_and_wrap.md): R412, R413 -/
def Reg.MEM_SCRUB_CTL_EN : Row := ⟨0x330000, 0x0, 1, 0x0, 0, 1, .rw, 1⟩
def Reg.MEM_SCRUB_STATUS_PASS_MS : Row := ⟨0x330004, 0x0, 1, 0x0, 0, 32, .ro, 0⟩
def Reg.MEM_INST_SPARES_TOTAL : Row := ⟨0x330100, 0x0, 8, 0x20, 0, 16, .ro, 0⟩  -- reset: fuse
def Reg.MEM_INST_SPARES_USED : Row := ⟨0x330100, 0x0, 8, 0x20, 16, 16, .ro, 0⟩
def Reg.MEM_INST_STATUS_LOW : Row := ⟨0x330104, 0x0, 8, 0x20, 0, 1, .ro, 0⟩
def Reg.MEM_INST_STATUS_EXHAUSTED : Row := ⟨0x330104, 0x0, 8, 0x20, 1, 1, .ro, 0⟩
def Reg.MEM_INST_STATUS_LAST_ROW : Row := ⟨0x330104, 0x0, 8, 0x20, 8, 24, .ro, 0⟩
def Reg.MEM_INSTC_CORR : Row := ⟨0x330108, 0x0, 8, 0x20, 0, 64, .ro, 0⟩
def Reg.MEM_INSTC_UNCORR : Row := ⟨0x330110, 0x0, 8, 0x20, 0, 64, .ro, 0⟩

def Reg.tableMEM0 : List Row := [Reg.MEM_SCRUB_CTL_EN, Reg.MEM_SCRUB_STATUS_PASS_MS, Reg.MEM_INST_SPARES_TOTAL, Reg.MEM_INST_SPARES_USED,
  Reg.MEM_INST_STATUS_LOW, Reg.MEM_INST_STATUS_EXHAUSTED, Reg.MEM_INST_STATUS_LAST_ROW, Reg.MEM_INSTC_CORR, Reg.MEM_INSTC_UNCORR]
def Reg.tableMEM : List Row := Reg.tableMEM0

end Sys2Proof.Machine
end

