-- ==== Sys2Proof/Machine/RegsLine.lean ====
section
/-! DEFINITION. The register fields of the windows GEN, PWR, LINE, ACT, HG, TIME, TEV: address of instance 0 of leg A, leg stride (0: one copy), instances and stride,
first bit, width, type (R8) and reset. One definition per field; the rule that names the register stands above its block. -/

namespace Sys2Proof.Machine

/-! GEN (16_register_map_and_wrap.md): R411 -/
def Reg.GEN_ID_PART : Row := ⟨0x000000, 0x0, 1, 0x0, 0, 16, .ro, 16680⟩  -- reset: fuse
def Reg.GEN_ID_STEPPING : Row := ⟨0x000000, 0x0, 1, 0x0, 16, 16, .ro, 2816⟩  -- reset: fuse
def Reg.GEN_LC_LC_STATE : Row := ⟨0x000004, 0x0, 1, 0x0, 0, 2, .ro, 2⟩  -- reset: fuse
def Reg.GEN_LC_LC_PENDING : Row := ⟨0x000004, 0x0, 1, 0x0, 2, 1, .ro, 0⟩  -- reset: fuse
def Reg.GEN_LC_ORDER_X : Row := ⟨0x000004, 0x0, 1, 0x0, 3, 1, .ro, 0⟩  -- reset: fuse
def Reg.GEN_SERIAL_LO : Row := ⟨0x000008, 0x0, 1, 0x0, 0, 32, .ro, 0⟩  -- reset: fuse
def Reg.GEN_SERIAL_HI : Row := ⟨0x00000C, 0x0, 1, 0x0, 0, 32, .ro, 0⟩  -- reset: fuse
def Reg.GEN_ENTERPRISE : Row := ⟨0x000010, 0x0, 1, 0x0, 0, 32, .ro, 0⟩  -- reset: fuse
def Reg.GEN_IDKEY : Row := ⟨0x000040, 0x0, 24, 0x4, 0, 32, .ro, 0⟩  -- reset: fuse
def Reg.GEN_ROOTHASH : Row := ⟨0x0000A0, 0x0, 12, 0x4, 0, 32, .ro, 0⟩  -- reset: fuse

def Reg.tableGEN0 : List Row := [Reg.GEN_ID_PART, Reg.GEN_ID_STEPPING, Reg.GEN_LC_LC_STATE, Reg.GEN_LC_LC_PENDING, Reg.GEN_LC_ORDER_X,
  Reg.GEN_SERIAL_LO, Reg.GEN_SERIAL_HI, Reg.GEN_ENTERPRISE, Reg.GEN_IDKEY, Reg.GEN_ROOTHASH]
def Reg.tableGEN : List Row := Reg.tableGEN0

/-! PWR (14_power_clocks_reset.md): R365, R366, R369, R371, R375, R376, R381, R382 -/
def Reg.PWR_STATUS_STATE : Row := ⟨0x010000, 0x0, 1, 0x0, 0, 3, .ro, 0⟩
def Reg.PWR_STATUS_READY : Row := ⟨0x010000, 0x0, 1, 0x0, 3, 1, .ro, 0⟩
def Reg.PWR_STATUS_LAST_WAKE : Row := ⟨0x010000, 0x0, 1, 0x0, 4, 4, .ro, 0⟩
def Reg.PWR_STATUS_REF_OK : Row := ⟨0x010000, 0x0, 1, 0x0, 8, 1, .ro, 0⟩
def Reg.PWR_STATUS_XT_OK : Row := ⟨0x010000, 0x0, 1, 0x0, 9, 1, .ro, 0⟩
def Reg.PWR_STATUS_PERST : Row := ⟨0x010000, 0x0, 1, 0x0, 10, 1, .ro, 1⟩
def Reg.PWR_STATUS_LP_MODE : Row := ⟨0x010000, 0x0, 1, 0x0, 11, 1, .ro, 0⟩
def Reg.PWR_STATUS_BROWN_OUT : Row := ⟨0x010000, 0x0, 1, 0x0, 12, 1, .w1c, 0⟩
def Reg.PWR_STATUS_KEPT_LEG : Row := ⟨0x010000, 0x0, 1, 0x0, 13, 1, .ro, 0⟩
def Reg.PWR_CTL_IDLE_EN : Row := ⟨0x010004, 0x0, 1, 0x0, 0, 1, .rws, 1⟩
def Reg.PWR_CTL_IDLE_US : Row := ⟨0x010004, 0x0, 1, 0x0, 4, 12, .rws, 100⟩
def Reg.PWR_CTL_TARGET : Row := ⟨0x010004, 0x0, 1, 0x0, 16, 2, .rws, 0⟩  -- reset: fw
def Reg.PWR_SLEEP_CTL_CYCLE_REQ : Row := ⟨0x010008, 0x0, 1, 0x0, 0, 5, .rws, 16⟩
def Reg.PWR_SLEEP_CTL_CYCLE_SF : Row := ⟨0x010008, 0x0, 1, 0x0, 8, 8, .ro, 0⟩
def Reg.PWR_SLEEP_CTL_LEAD_US : Row := ⟨0x010008, 0x0, 1, 0x0, 16, 10, .rws, 200⟩
def Reg.PWR_SLEEP_CTL_RETRY_S : Row := ⟨0x010008, 0x0, 1, 0x0, 26, 6, .rws, 10⟩
def Reg.PWR_SLEEP_EFF_LO : Row := ⟨0x01000C, 0x0, 1, 0x0, 0, 32, .ro, 0⟩
def Reg.PWR_SLEEP_EFF_HI : Row := ⟨0x010010, 0x0, 1, 0x0, 0, 16, .ro, 0⟩
def Reg.PWR_AON_TIMER_SECONDS : Row := ⟨0x010014, 0x0, 1, 0x0, 0, 32, .rws, 0⟩
def Reg.PWR_AON_CTL_PPM : Row := ⟨0x010018, 0x0, 1, 0x0, 0, 8, .rws, 50⟩
def Reg.PWR_AON_CTL_LP_LIMIT_MA : Row := ⟨0x010018, 0x0, 1, 0x0, 8, 8, .ro, 15⟩
def Reg.PWR_WAKE_EN : Row := ⟨0x01001C, 0x0, 1, 0x0, 1, 7, .rws, 127⟩
def Reg.PWR_RST_CTL_WARM : Row := ⟨0x010020, 0x0, 1, 0x0, 0, 1, .wo, 0⟩
def Reg.PWR_RST_CTL_COLD : Row := ⟨0x010020, 0x0, 1, 0x0, 1, 1, .wo, 0⟩
def Reg.PWR_RST_CTL_KEY : Row := ⟨0x010020, 0x0, 1, 0x0, 8, 8, .wo, 0⟩
def Reg.PWR_RST_CAUSE : Row := ⟨0x010024, 0x0, 1, 0x0, 0, 4, .ro, 0⟩
def Reg.PWR_CNT_IDLE_ENTRIES : Row := ⟨0x010100, 0x0, 1, 0x0, 0, 64, .ro, 0⟩
def Reg.PWR_CNT_SLEEP_ENTRIES : Row := ⟨0x010108, 0x0, 1, 0x0, 0, 64, .ro, 0⟩
def Reg.PWR_CNT_AWAKE_SF : Row := ⟨0x010110, 0x0, 1, 0x0, 0, 64, .ro, 0⟩
def Reg.PWR_CNT_DEEP_ENTRIES : Row := ⟨0x010118, 0x0, 1, 0x0, 0, 64, .ro, 0⟩
def Reg.PWR_CNT_BROWN_OUTS : Row := ⟨0x010120, 0x0, 1, 0x0, 0, 64, .ro, 0⟩
def Reg.PWR_CNT_WARM_RESETS : Row := ⟨0x010128, 0x0, 1, 0x0, 0, 64, .ro, 0⟩

def Reg.tablePWR0 : List Row := [Reg.PWR_STATUS_STATE, Reg.PWR_STATUS_READY, Reg.PWR_STATUS_LAST_WAKE, Reg.PWR_STATUS_REF_OK,
  Reg.PWR_STATUS_XT_OK, Reg.PWR_STATUS_PERST, Reg.PWR_STATUS_LP_MODE, Reg.PWR_STATUS_BROWN_OUT, Reg.PWR_STATUS_KEPT_LEG,
  Reg.PWR_CTL_IDLE_EN, Reg.PWR_CTL_IDLE_US, Reg.PWR_CTL_TARGET, Reg.PWR_SLEEP_CTL_CYCLE_REQ, Reg.PWR_SLEEP_CTL_CYCLE_SF,
  Reg.PWR_SLEEP_CTL_LEAD_US, Reg.PWR_SLEEP_CTL_RETRY_S, Reg.PWR_SLEEP_EFF_LO, Reg.PWR_SLEEP_EFF_HI, Reg.PWR_AON_TIMER_SECONDS,
  Reg.PWR_AON_CTL_PPM, Reg.PWR_AON_CTL_LP_LIMIT_MA, Reg.PWR_WAKE_EN, Reg.PWR_RST_CTL_WARM, Reg.PWR_RST_CTL_COLD]
def Reg.tablePWR1 : List Row := [Reg.PWR_RST_CTL_KEY, Reg.PWR_RST_CAUSE, Reg.PWR_CNT_IDLE_ENTRIES, Reg.PWR_CNT_SLEEP_ENTRIES,
  Reg.PWR_CNT_AWAKE_SF, Reg.PWR_CNT_DEEP_ENTRIES, Reg.PWR_CNT_BROWN_OUTS, Reg.PWR_CNT_WARM_RESETS]
def Reg.tablePWR : List Row := Reg.tablePWR0 ++ Reg.tablePWR1

/-! LINE (02_line_format.md): R34, R35, R69, R71, R72 -/
def Reg.LINE_DLN_CTL_SYNC_TOL : Row := ⟨0x020000, 0x10000, 1, 0x0, 0, 4, .rw, 6⟩
def Reg.LINE_DLN_CTL_SYNC_CONFIRM : Row := ⟨0x020000, 0x10000, 1, 0x0, 4, 4, .rw, 2⟩
def Reg.LINE_DLN_CTL_SYNC_LOSE : Row := ⟨0x020000, 0x10000, 1, 0x0, 8, 4, .rw, 4⟩
def Reg.LINE_DLN_STATUS_STATE : Row := ⟨0x020004, 0x10000, 1, 0x0, 0, 8, .ro, 0⟩
def Reg.LINE_DLN_STATUS_CF_HUNT : Row := ⟨0x020004, 0x10000, 1, 0x0, 8, 4, .ro, 0⟩
def Reg.LINE_SFC_LO : Row := ⟨0x020008, 0x10000, 1, 0x0, 0, 32, .ro, 0⟩
def Reg.LINE_SFC_HI : Row := ⟨0x02000C, 0x10000, 1, 0x0, 0, 16, .ro, 0⟩
def Reg.LINE_SFC_HI_FN : Row := ⟨0x02000C, 0x10000, 1, 0x0, 16, 3, .ro, 0⟩
def Reg.LINE_REQ_CTL_RETRY_SF : Row := ⟨0x020020, 0x10000, 1, 0x0, 0, 8, .rw, 8⟩
def Reg.LINE_REQ_CTL_RETRIES : Row := ⟨0x020020, 0x10000, 1, 0x0, 8, 4, .rw, 3⟩
def Reg.LINE_PROF_PRE_GRAINS : Row := ⟨0x020040, 0x10000, 4, 0x10, 0, 8, .ro, 0⟩
def Reg.LINE_PROF_PRE_PAT : Row := ⟨0x020040, 0x10000, 4, 0x10, 8, 1, .ro, 0⟩
def Reg.LINE_PROF_DLM_GRAINS : Row := ⟨0x020040, 0x10000, 4, 0x10, 9, 2, .ro, 0⟩
def Reg.LINE_PROF_WAVES : Row := ⟨0x020040, 0x10000, 4, 0x10, 12, 2, .ro, 0⟩
def Reg.LINE_PROF_VALID : Row := ⟨0x020040, 0x10000, 4, 0x10, 31, 1, .ro, 0⟩
def Reg.LINE_PROF_DLM_LO : Row := ⟨0x020044, 0x10000, 4, 0x10, 0, 32, .ro, 0⟩
def Reg.LINE_PROF_DLM_HI : Row := ⟨0x020048, 0x10000, 4, 0x10, 0, 32, .ro, 0⟩
def Reg.LINE_WCNT_FRAMES : Row := ⟨0x020200, 0x10000, 4, 0x40, 0, 64, .ro, 0⟩
def Reg.LINE_WCNT_HDR_CRC_ERR : Row := ⟨0x020208, 0x10000, 4, 0x40, 0, 64, .ro, 0⟩
def Reg.LINE_WCNT_HDR_MISMATCH : Row := ⟨0x020210, 0x10000, 4, 0x40, 0, 64, .ro, 0⟩
def Reg.LINE_WCNT_CF_HEC_ERR : Row := ⟨0x020218, 0x10000, 4, 0x40, 0, 64, .ro, 0⟩
def Reg.LINE_WCNT_CF_INVALID : Row := ⟨0x020220, 0x10000, 4, 0x40, 0, 64, .ro, 0⟩
def Reg.LINE_WCNT_CORR_BITS : Row := ⟨0x020228, 0x10000, 4, 0x40, 0, 64, .ro, 0⟩
def Reg.LINE_WCNT_UNCORR_CW : Row := ⟨0x020230, 0x10000, 4, 0x40, 0, 64, .ro, 0⟩
def Reg.LINE_D0CNT_PART_CRC_ERR : Row := ⟨0x020300, 0x10000, 1, 0x0, 0, 64, .ro, 0⟩
def Reg.LINE_D0CNT_ALLOC_HEC_ERR : Row := ⟨0x020308, 0x10000, 1, 0x0, 0, 64, .ro, 0⟩
def Reg.LINE_D0CNT_ALLOC_DROPPED : Row := ⟨0x020310, 0x10000, 1, 0x0, 0, 64, .ro, 0⟩
def Reg.LINE_D0CNT_TOD_REJECT : Row := ⟨0x020318, 0x10000, 1, 0x0, 0, 64, .ro, 0⟩
def Reg.LINE_D0CNT_MSG_CRC_ERR : Row := ⟨0x020320, 0x10000, 1, 0x0, 0, 64, .ro, 0⟩
def Reg.LINE_D0CNT_MSG_UNKNOWN : Row := ⟨0x020328, 0x10000, 1, 0x0, 0, 64, .ro, 0⟩
def Reg.LINE_D0CNT_MSG_DUP : Row := ⟨0x020330, 0x10000, 1, 0x0, 0, 64, .ro, 0⟩
def Reg.LINE_D0CNT_REVISE_IGNORED : Row := ⟨0x020338, 0x10000, 1, 0x0, 0, 64, .ro, 0⟩
def Reg.LINE_D0CNT_SLU_CRC_ERR : Row := ⟨0x020340, 0x10000, 1, 0x0, 0, 64, .ro, 0⟩
def Reg.LINE_D0CNT_MSG_OVERFLOW : Row := ⟨0x020348, 0x10000, 1, 0x0, 0, 64, .ro, 0⟩
def Reg.LINE_D0CNT_EFF_REFUSED : Row := ⟨0x020350, 0x10000, 1, 0x0, 0, 64, .ro, 0⟩
def Reg.LINE_D0CNT_FIELD_REFUSED : Row := ⟨0x020358, 0x10000, 1, 0x0, 0, 64, .ro, 0⟩

def Reg.tableLINE0 : List Row := [Reg.LINE_DLN_CTL_SYNC_TOL, Reg.LINE_DLN_CTL_SYNC_CONFIRM, Reg.LINE_DLN_CTL_SYNC_LOSE,
  Reg.LINE_DLN_STATUS_STATE, Reg.LINE_DLN_STATUS_CF_HUNT, Reg.LINE_SFC_LO, Reg.LINE_SFC_HI, Reg.LINE_SFC_HI_FN, Reg.LINE_REQ_CTL_RETRY_SF,
  Reg.LINE_REQ_CTL_RETRIES, Reg.LINE_PROF_PRE_GRAINS, Reg.LINE_PROF_PRE_PAT, Reg.LINE_PROF_DLM_GRAINS, Reg.LINE_PROF_WAVES,
  Reg.LINE_PROF_VALID, Reg.LINE_PROF_DLM_LO, Reg.LINE_PROF_DLM_HI, Reg.LINE_WCNT_FRAMES, Reg.LINE_WCNT_HDR_CRC_ERR,
  Reg.LINE_WCNT_HDR_MISMATCH, Reg.LINE_WCNT_CF_HEC_ERR, Reg.LINE_WCNT_CF_INVALID, Reg.LINE_WCNT_CORR_BITS, Reg.LINE_WCNT_UNCORR_CW]
def Reg.tableLINE1 : List Row := [Reg.LINE_D0CNT_PART_CRC_ERR, Reg.LINE_D0CNT_ALLOC_HEC_ERR, Reg.LINE_D0CNT_ALLOC_DROPPED,
  Reg.LINE_D0CNT_TOD_REJECT, Reg.LINE_D0CNT_MSG_CRC_ERR, Reg.LINE_D0CNT_MSG_UNKNOWN, Reg.LINE_D0CNT_MSG_DUP, Reg.LINE_D0CNT_REVISE_IGNORED,
  Reg.LINE_D0CNT_SLU_CRC_ERR, Reg.LINE_D0CNT_MSG_OVERFLOW, Reg.LINE_D0CNT_EFF_REFUSED, Reg.LINE_D0CNT_FIELD_REFUSED]
def Reg.tableLINE : List Row := Reg.tableLINE0 ++ Reg.tableLINE1

/-! ACT (03_activation_and_headgate.md): R72, R73, R74, R76, R82, R83, R86 -/
def Reg.ACT_CTL_ENABLE : Row := ⟨0x040000, 0x1000, 1, 0x0, 0, 1, .rw, 0⟩
def Reg.ACT_STATUS_STATE : Row := ⟨0x040004, 0x1000, 1, 0x0, 0, 3, .ro, 0⟩
def Reg.ACT_STATUS_TN_VALID : Row := ⟨0x040004, 0x1000, 1, 0x0, 3, 1, .ro, 0⟩
def Reg.ACT_STATUS_RANGED : Row := ⟨0x040004, 0x1000, 1, 0x0, 4, 1, .ro, 0⟩
def Reg.ACT_STATUS_TN : Row := ⟨0x040004, 0x1000, 1, 0x0, 5, 10, .ro, 0⟩
def Reg.ACT_ATTEMPT_ATTEMPTS : Row := ⟨0x040008, 0x1000, 1, 0x0, 0, 16, .ro, 0⟩
def Reg.ACT_ATTEMPT_SKIP_LEFT : Row := ⟨0x040008, 0x1000, 1, 0x0, 16, 8, .ro, 0⟩
def Reg.ACT_REG_CTL_LISTEN_SF : Row := ⟨0x04000C, 0x1000, 1, 0x0, 0, 4, .rw, 2⟩
def Reg.ACT_RNG_CTL_TIMEOUT_SF : Row := ⟨0x040010, 0x1000, 1, 0x0, 0, 12, .rw, 256⟩
def Reg.ACT_EQD_EQD_FINE : Row := ⟨0x040014, 0x1000, 1, 0x0, 0, 6, .ro, 0⟩
def Reg.ACT_EQD_EQD_GRAINS : Row := ⟨0x040014, 0x1000, 1, 0x0, 6, 20, .ro, 0⟩
def Reg.ACT_EQD_PENDING : Row := ⟨0x040014, 0x1000, 1, 0x0, 31, 1, .ro, 0⟩
def Reg.ACT_EQD_NEXT : Row := ⟨0x040018, 0x1000, 1, 0x0, 0, 26, .ro, 0⟩
def Reg.ACT_EQD_EFF_LO : Row := ⟨0x04001C, 0x1000, 1, 0x0, 0, 32, .ro, 0⟩
def Reg.ACT_EQD_EFF_HI : Row := ⟨0x040020, 0x1000, 1, 0x0, 0, 16, .ro, 0⟩
def Reg.ACT_KR_CTL_INTERVAL_SF : Row := ⟨0x040024, 0x1000, 1, 0x0, 0, 11, .ro, 16⟩
def Reg.ACT_KR_CTL_MISS_LIMIT : Row := ⟨0x040024, 0x1000, 1, 0x0, 12, 4, .rw, 4⟩
def Reg.ACT_KR_STATUS_SF_SINCE : Row := ⟨0x040028, 0x1000, 1, 0x0, 0, 16, .ro, 0⟩
def Reg.ACT_CNT_REG_ATTEMPTS : Row := ⟨0x040100, 0x1000, 1, 0x0, 0, 64, .ro, 0⟩
def Reg.ACT_CNT_REG_COLLISIONS : Row := ⟨0x040108, 0x1000, 1, 0x0, 0, 64, .ro, 0⟩
def Reg.ACT_CNT_RANGE_BURSTS : Row := ⟨0x040110, 0x1000, 1, 0x0, 0, 64, .ro, 0⟩
def Reg.ACT_CNT_RANGE_MISSES : Row := ⟨0x040118, 0x1000, 1, 0x0, 0, 64, .ro, 0⟩
def Reg.ACT_CNT_EQD_APPLIED : Row := ⟨0x040120, 0x1000, 1, 0x0, 0, 64, .ro, 0⟩
def Reg.ACT_CNT_EQD_REFUSED : Row := ⟨0x040128, 0x1000, 1, 0x0, 0, 64, .ro, 0⟩
def Reg.ACT_CNT_DEACTIVATIONS : Row := ⟨0x040130, 0x1000, 1, 0x0, 0, 64, .ro, 0⟩
def Reg.ACT_CNT_WAKE_ATTEMPTS : Row := ⟨0x040138, 0x1000, 1, 0x0, 0, 64, .ro, 0⟩

def Reg.tableACT0 : List Row := [Reg.ACT_CTL_ENABLE, Reg.ACT_STATUS_STATE, Reg.ACT_STATUS_TN_VALID, Reg.ACT_STATUS_RANGED,
  Reg.ACT_STATUS_TN, Reg.ACT_ATTEMPT_ATTEMPTS, Reg.ACT_ATTEMPT_SKIP_LEFT, Reg.ACT_REG_CTL_LISTEN_SF, Reg.ACT_RNG_CTL_TIMEOUT_SF,
  Reg.ACT_EQD_EQD_FINE, Reg.ACT_EQD_EQD_GRAINS, Reg.ACT_EQD_PENDING, Reg.ACT_EQD_NEXT, Reg.ACT_EQD_EFF_LO, Reg.ACT_EQD_EFF_HI,
  Reg.ACT_KR_CTL_INTERVAL_SF, Reg.ACT_KR_CTL_MISS_LIMIT, Reg.ACT_KR_STATUS_SF_SINCE, Reg.ACT_CNT_REG_ATTEMPTS, Reg.ACT_CNT_REG_COLLISIONS,
  Reg.ACT_CNT_RANGE_BURSTS, Reg.ACT_CNT_RANGE_MISSES, Reg.ACT_CNT_EQD_APPLIED, Reg.ACT_CNT_EQD_REFUSED]
def Reg.tableACT1 : List Row := [Reg.ACT_CNT_DEACTIVATIONS, Reg.ACT_CNT_WAKE_ATTEMPTS]
def Reg.tableACT : List Row := Reg.tableACT0 ++ Reg.tableACT1

/-! HG (03_activation_and_headgate.md): R72, R81, R90, R91, R93, R95 -/
def Reg.HG_CTL_TX_ALLOW : Row := ⟨0x050000, 0x1000, 1, 0x0, 0, 1, .rw, 0⟩
def Reg.HG_CTL_FORCE_TXDIS : Row := ⟨0x050000, 0x1000, 1, 0x0, 1, 1, .rw, 0⟩
def Reg.HG_STATUS_ROGUE : Row := ⟨0x050004, 0x1000, 1, 0x0, 0, 1, .ro, 0⟩
def Reg.HG_STATUS_ESTOP : Row := ⟨0x050004, 0x1000, 1, 0x0, 1, 1, .ro, 0⟩
def Reg.HG_STATUS_RANGED : Row := ⟨0x050004, 0x1000, 1, 0x0, 2, 1, .ro, 0⟩
def Reg.HG_STATUS_TN_VALID : Row := ⟨0x050004, 0x1000, 1, 0x0, 3, 1, .ro, 0⟩
def Reg.HG_STATUS_TN : Row := ⟨0x050004, 0x1000, 1, 0x0, 4, 10, .ro, 0⟩
def Reg.HG_STATUS_ACTIVE : Row := ⟨0x050004, 0x1000, 1, 0x0, 14, 1, .ro, 0⟩
def Reg.HG_STATUS_TXDIS : Row := ⟨0x050004, 0x1000, 1, 0x0, 15, 1, .ro, 1⟩
def Reg.HG_STATUS_BEN : Row := ⟨0x050004, 0x1000, 1, 0x0, 16, 2, .ro, 0⟩
def Reg.HG_CAP_CEIL : Row := ⟨0x050008, 0x1000, 1, 0x0, 0, 17, .ro, 45000⟩  -- reset: fuse
def Reg.HG_CAP_LIMIT : Row := ⟨0x05000C, 0x1000, 2, 0x4, 0, 17, .rw, 45000⟩
def Reg.HG_MAXB_CEIL : Row := ⟨0x050014, 0x1000, 1, 0x0, 0, 17, .ro, 36000⟩  -- reset: fuse
def Reg.HG_MAXB_LIMIT : Row := ⟨0x050018, 0x1000, 1, 0x0, 0, 17, .rw, 36000⟩
def Reg.HG_ROGUE_CTL_FILTER : Row := ⟨0x05001C, 0x1000, 1, 0x0, 0, 4, .rw, 8⟩
def Reg.HG_ROGUE_CTL_TAIL : Row := ⟨0x05001C, 0x1000, 1, 0x0, 8, 4, .ro, 2⟩  -- reset: fuse
def Reg.HG_USED_GRAINS : Row := ⟨0x050020, 0x1000, 2, 0x4, 0, 17, .ro, 0⟩
def Reg.HG_LATCH_ALLOC_ID : Row := ⟨0x050400, 0x1000, 128, 0x4, 0, 14, .ro, 0⟩
def Reg.HG_LATCH_VALID : Row := ⟨0x050400, 0x1000, 128, 0x4, 14, 1, .ro, 0⟩
def Reg.HG_LATCH_MASK : Row := ⟨0x050400, 0x1000, 128, 0x4, 15, 1, .rw, 0⟩
def Reg.HG_LATCH_PENDING : Row := ⟨0x050400, 0x1000, 128, 0x4, 16, 1, .ro, 0⟩
def Reg.HG_CNT_WINDOWS : Row := ⟨0x050100, 0x1000, 1, 0x0, 0, 64, .ro, 0⟩
def Reg.HG_CNT_GRAINS : Row := ⟨0x050108, 0x1000, 1, 0x0, 0, 64, .ro, 0⟩
def Reg.HG_CNT_REFUSED_CAP : Row := ⟨0x050110, 0x1000, 1, 0x0, 0, 64, .ro, 0⟩
def Reg.HG_CNT_REFUSED_MAXB : Row := ⟨0x050118, 0x1000, 1, 0x0, 0, 64, .ro, 0⟩
def Reg.HG_CNT_REFUSED_ROLE : Row := ⟨0x050120, 0x1000, 1, 0x0, 0, 64, .ro, 0⟩
def Reg.HG_CNT_REFUSED_OTHER : Row := ⟨0x050128, 0x1000, 1, 0x0, 0, 64, .ro, 0⟩
def Reg.HG_CNT_REFUSED_EQD : Row := ⟨0x050130, 0x1000, 1, 0x0, 0, 64, .ro, 0⟩
def Reg.HG_CNT_DISAGREE : Row := ⟨0x050138, 0x1000, 1, 0x0, 0, 64, .ro, 0⟩
def Reg.HG_CNT_ROGUE_EVENTS : Row := ⟨0x050140, 0x1000, 1, 0x0, 0, 64, .ro, 0⟩
def Reg.HG_CNT_TX_DARK : Row := ⟨0x050148, 0x1000, 1, 0x0, 0, 64, .ro, 0⟩
def Reg.HG_CNT_TX_ABORTED : Row := ⟨0x050150, 0x1000, 1, 0x0, 0, 64, .ro, 0⟩

def Reg.tableHG0 : List Row := [Reg.HG_CTL_TX_ALLOW, Reg.HG_CTL_FORCE_TXDIS, Reg.HG_STATUS_ROGUE, Reg.HG_STATUS_ESTOP, Reg.HG_STATUS_RANGED,
  Reg.HG_STATUS_TN_VALID, Reg.HG_STATUS_TN, Reg.HG_STATUS_ACTIVE, Reg.HG_STATUS_TXDIS, Reg.HG_STATUS_BEN, Reg.HG_CAP_CEIL, Reg.HG_CAP_LIMIT,
  Reg.HG_MAXB_CEIL, Reg.HG_MAXB_LIMIT, Reg.HG_ROGUE_CTL_FILTER, Reg.HG_ROGUE_CTL_TAIL, Reg.HG_USED_GRAINS, Reg.HG_LATCH_ALLOC_ID,
  Reg.HG_LATCH_VALID, Reg.HG_LATCH_MASK, Reg.HG_LATCH_PENDING, Reg.HG_CNT_WINDOWS, Reg.HG_CNT_GRAINS, Reg.HG_CNT_REFUSED_CAP]
def Reg.tableHG1 : List Row := [Reg.HG_CNT_REFUSED_MAXB, Reg.HG_CNT_REFUSED_ROLE, Reg.HG_CNT_REFUSED_OTHER, Reg.HG_CNT_REFUSED_EQD,
  Reg.HG_CNT_DISAGREE, Reg.HG_CNT_ROGUE_EVENTS, Reg.HG_CNT_TX_DARK, Reg.HG_CNT_TX_ABORTED]
def Reg.tableHG : List Row := Reg.tableHG0 ++ Reg.tableHG1

/-! TIME (04_time_transfer.md): R72, R98, R99, R100, R101, R103, R106, R108, R109, R111, R113, R114, R115, R116, R117, R120, R121, R122, R123, R126, R127, R128, R435 -/
def Reg.TIME_CTL_SNAP : Row := ⟨0x060000, 0x0, 1, 0x0, 0, 1, .wo, 0⟩
def Reg.TIME_CTL_APPLY : Row := ⟨0x060000, 0x0, 1, 0x0, 1, 1, .wo, 0⟩
def Reg.TIME_CTL_APPLY_MODE : Row := ⟨0x060000, 0x0, 1, 0x0, 2, 2, .rw, 0⟩
def Reg.TIME_CTL_CANCEL : Row := ⟨0x060000, 0x0, 1, 0x0, 4, 1, .wo, 0⟩
def Reg.TIME_CTL_SERVO_EN : Row := ⟨0x060000, 0x0, 1, 0x0, 8, 1, .rw, 1⟩
def Reg.TIME_STATUS_SNAP_BUSY : Row := ⟨0x060004, 0x0, 1, 0x0, 0, 1, .ro, 0⟩
def Reg.TIME_STATUS_APPLY_PENDING : Row := ⟨0x060004, 0x0, 1, 0x0, 1, 1, .ro, 0⟩
def Reg.TIME_STATUS_APPLY_RESULT : Row := ⟨0x060004, 0x0, 1, 0x0, 4, 8, .ro, 0⟩
def Reg.TIME_STATUS_STAGE_WERR : Row := ⟨0x060004, 0x0, 1, 0x0, 12, 1, .w1c, 0⟩
def Reg.TIME_STATUS_REBASE_REQ : Row := ⟨0x060004, 0x0, 1, 0x0, 13, 1, .ro, 0⟩
def Reg.TIME_STATUS_SQUELCHED : Row := ⟨0x060004, 0x0, 1, 0x0, 14, 1, .ro, 0⟩
def Reg.TIME_STATUS_VOTE_FAIL : Row := ⟨0x060004, 0x0, 1, 0x0, 15, 1, .w1c, 0⟩
def Reg.TIME_STATUS_SRC : Row := ⟨0x060004, 0x0, 1, 0x0, 16, 2, .ro, 2⟩
def Reg.TIME_QUAL_QUALITY : Row := ⟨0x060008, 0x0, 1, 0x0, 0, 3, .ro, 0⟩
def Reg.TIME_QUAL_STEP_DONE : Row := ⟨0x060008, 0x0, 1, 0x0, 3, 1, .ro, 0⟩
def Reg.TIME_QUAL_GEN : Row := ⟨0x060008, 0x0, 1, 0x0, 16, 16, .ro, 0⟩
def Reg.TIME_BOUND : Row := ⟨0x06000C, 0x0, 1, 0x0, 0, 16, .ro, 65535⟩
def Reg.TIME_BOUND_OWN : Row := ⟨0x06000C, 0x0, 1, 0x0, 16, 16, .ro, 65535⟩
def Reg.TIME_SEC_LO : Row := ⟨0x060010, 0x0, 1, 0x0, 0, 32, .ro, 0⟩
def Reg.TIME_SEC_HI : Row := ⟨0x060014, 0x0, 1, 0x0, 0, 16, .ro, 0⟩
def Reg.TIME_NS : Row := ⟨0x060018, 0x0, 1, 0x0, 0, 30, .ro, 0⟩
def Reg.TIME_FRAC : Row := ⟨0x06001C, 0x0, 1, 0x0, 0, 32, .ro, 0⟩
def Reg.TIME_SNAP_SEC_LO : Row := ⟨0x060020, 0x0, 1, 0x0, 0, 32, .ro, 0⟩
def Reg.TIME_SNAP_SEC_HI : Row := ⟨0x060024, 0x0, 1, 0x0, 0, 16, .ro, 0⟩
def Reg.TIME_SNAP_SEC_HI_SNAP_SEQ : Row := ⟨0x060024, 0x0, 1, 0x0, 16, 16, .ro, 0⟩
def Reg.TIME_SNAP_NS : Row := ⟨0x060028, 0x0, 1, 0x0, 0, 30, .ro, 0⟩
def Reg.TIME_SNAP_FRAC : Row := ⟨0x06002C, 0x0, 1, 0x0, 0, 32, .ro, 0⟩
def Reg.TIME_SNAP_INCR_LO : Row := ⟨0x060030, 0x0, 1, 0x0, 0, 32, .ro, 0⟩
def Reg.TIME_SNAP_INCR_HI : Row := ⟨0x060034, 0x0, 1, 0x0, 0, 16, .ro, 0⟩
def Reg.TIME_SNAP_QUAL : Row := ⟨0x060038, 0x0, 1, 0x0, 0, 32, .ro, 0⟩
def Reg.TIME_SNAP_BOUND : Row := ⟨0x06003C, 0x0, 1, 0x0, 0, 32, .ro, 0⟩
def Reg.TIME_STAGE_SEC_LO : Row := ⟨0x060040, 0x0, 1, 0x0, 0, 32, .rw, 0⟩
def Reg.TIME_STAGE_SEC_HI : Row := ⟨0x060044, 0x0, 1, 0x0, 0, 16, .rw, 0⟩
def Reg.TIME_STAGE_NS : Row := ⟨0x060048, 0x0, 1, 0x0, 0, 30, .rw, 0⟩
def Reg.TIME_STAGE_FRAC : Row := ⟨0x06004C, 0x0, 1, 0x0, 0, 32, .rw, 0⟩
def Reg.TIME_STAGE_INCR_LO : Row := ⟨0x060050, 0x0, 1, 0x0, 0, 32, .rw, 265121438⟩
def Reg.TIME_STAGE_INCR_HI : Row := ⟨0x060054, 0x0, 1, 0x0, 0, 16, .rw, 395⟩
def Reg.TIME_APPLY_AT_LO : Row := ⟨0x060058, 0x0, 1, 0x0, 0, 32, .rw, 0⟩
def Reg.TIME_APPLY_AT_HI : Row := ⟨0x06005C, 0x0, 1, 0x0, 0, 8, .rw, 0⟩
def Reg.TIME_STAGE_SEL : Row := ⟨0x060060, 0x0, 1, 0x0, 0, 4, .rw, 0⟩
def Reg.TIME_INCR_LO_INCR : Row := ⟨0x060070, 0x0, 1, 0x0, 0, 32, .ro, 265121438⟩
def Reg.TIME_INCR_HI_INCR : Row := ⟨0x060074, 0x0, 1, 0x0, 0, 16, .ro, 395⟩
def Reg.TIME_INCR_TGT_LO_INCR_TGT : Row := ⟨0x060078, 0x0, 1, 0x0, 0, 32, .ro, 265121438⟩
def Reg.TIME_INCR_TGT_HI_INCR_TGT : Row := ⟨0x06007C, 0x0, 1, 0x0, 0, 16, .ro, 395⟩
def Reg.TIME_INCR_NOM_LO_INCR_NOM : Row := ⟨0x060080, 0x0, 1, 0x0, 0, 32, .ro, 265121438⟩
def Reg.TIME_INCR_NOM_HI_INCR_NOM : Row := ⟨0x060084, 0x0, 1, 0x0, 0, 16, .ro, 395⟩
def Reg.TIME_UTC_UTC_OFFSET : Row := ⟨0x060088, 0x0, 1, 0x0, 0, 16, .ro, 0⟩
def Reg.TIME_UTC_LI61 : Row := ⟨0x060088, 0x0, 1, 0x0, 16, 1, .ro, 0⟩
def Reg.TIME_UTC_LI59 : Row := ⟨0x060088, 0x0, 1, 0x0, 17, 1, .ro, 0⟩
def Reg.TIME_UTC_UTC_VALID : Row := ⟨0x060088, 0x0, 1, 0x0, 18, 1, .ro, 0⟩
def Reg.TIME_UTC_TRACEABLE : Row := ⟨0x060088, 0x0, 1, 0x0, 19, 1, .ro, 0⟩
def Reg.TIME_UTC_HE_CLASS : Row := ⟨0x060088, 0x0, 1, 0x0, 20, 8, .ro, 0⟩
def Reg.TIME_SERVO_TC : Row := ⟨0x06008C, 0x0, 1, 0x0, 0, 8, .rw, 100⟩
def Reg.TIME_SERVO_TC_BASE : Row := ⟨0x06008C, 0x0, 1, 0x0, 16, 16, .ro, 16⟩  -- reset: fuse
def Reg.TIME_SERVO_CTL_LOCK_Q : Row := ⟨0x060090, 0x0, 1, 0x0, 0, 8, .rw, 8⟩
def Reg.TIME_SERVO_CTL_LOCK_SF : Row := ⟨0x060090, 0x0, 1, 0x0, 8, 8, .rw, 64⟩
def Reg.TIME_SERVO_CTL_UNLOCK_Q : Row := ⟨0x060090, 0x0, 1, 0x0, 16, 8, .rw, 40⟩
def Reg.TIME_SERVO_CTL_UNLOCK_SF : Row := ⟨0x060090, 0x0, 1, 0x0, 24, 8, .rw, 16⟩
def Reg.TIME_HO_CTL_LIMIT : Row := ⟨0x060094, 0x0, 1, 0x0, 0, 16, .rw, 400⟩
def Reg.TIME_HO_CTL_SQ_PPS : Row := ⟨0x060094, 0x0, 1, 0x0, 16, 1, .rw, 0⟩
def Reg.TIME_HO_CTL_SQ_TEV : Row := ⟨0x060094, 0x0, 1, 0x0, 17, 8, .rw, 0⟩
def Reg.TIME_HO_AGING : Row := ⟨0x060098, 0x0, 1, 0x0, 0, 32, .rw, 5787⟩
def Reg.TIME_HO_TEMP : Row := ⟨0x06009C, 0x0, 1, 0x0, 0, 32, .rw, 1000⟩
def Reg.TIME_HO_Y0 : Row := ⟨0x0600A0, 0x0, 1, 0x0, 0, 32, .ro, 0⟩
def Reg.TIME_HO_ELAPSED : Row := ⟨0x0600A4, 0x0, 1, 0x0, 0, 32, .ro, 0⟩
def Reg.TIME_REF_OFS : Row := ⟨0x0600A8, 0x0, 1, 0x0, 0, 32, .ro, 0⟩
def Reg.TIME_VOTE_CTL_PERSIST : Row := ⟨0x0600AC, 0x0, 1, 0x0, 0, 8, .rw, 16⟩
def Reg.TIME_LEG_TEQ : Row := ⟨0x060100, 0x100, 1, 0x0, 0, 26, .rw, 0⟩
def Reg.TIME_LEG_TEQ_TEQ_VALID : Row := ⟨0x060100, 0x100, 1, 0x0, 31, 1, .rw, 0⟩
def Reg.TIME_LEG_STATUS_USABLE : Row := ⟨0x060104, 0x100, 1, 0x0, 0, 1, .ro, 0⟩
def Reg.TIME_LEG_STATUS_FIT_VALID : Row := ⟨0x060104, 0x100, 1, 0x0, 1, 1, .ro, 0⟩
def Reg.TIME_LEG_STATUS_LASER_LOW : Row := ⟨0x060104, 0x100, 1, 0x0, 2, 1, .ro, 0⟩
def Reg.TIME_LEG_STATUS_RWAVE : Row := ⟨0x060104, 0x100, 1, 0x0, 3, 1, .ro, 0⟩
def Reg.TIME_LEG_MARK_SEC_LO : Row := ⟨0x060108, 0x100, 1, 0x0, 0, 32, .ro, 0⟩
def Reg.TIME_LEG_MARK_SEC_HI : Row := ⟨0x06010C, 0x100, 1, 0x0, 0, 16, .ro, 0⟩
def Reg.TIME_LEG_MARK_SEC_HI_MARK_GEN : Row := ⟨0x06010C, 0x100, 1, 0x0, 16, 16, .ro, 0⟩
def Reg.TIME_LEG_MARK_NS : Row := ⟨0x060110, 0x100, 1, 0x0, 0, 30, .ro, 0⟩
def Reg.TIME_LEG_MARK_FRAC : Row := ⟨0x060114, 0x100, 1, 0x0, 0, 16, .ro, 0⟩
def Reg.TIME_LEG_OFFSET : Row := ⟨0x060118, 0x100, 1, 0x0, 0, 64, .ro, 0⟩
def Reg.TIME_LEG_DT : Row := ⟨0x060120, 0x100, 3, 0x4, 0, 32, .ro, 0⟩
def Reg.TIME_LEG_FIT_K : Row := ⟨0x06012C, 0x100, 1, 0x0, 0, 32, .ro, 0⟩
def Reg.TIME_LEG_FIT_L0 : Row := ⟨0x060130, 0x100, 1, 0x0, 0, 32, .ro, 0⟩
def Reg.TIME_LEG_FIT_LEN : Row := ⟨0x060134, 0x100, 1, 0x0, 0, 32, .ro, 0⟩
def Reg.TIME_LEG_FIT_RESID : Row := ⟨0x060138, 0x100, 1, 0x0, 0, 32, .ro, 0⟩
def Reg.TIME_LEG_ASYM : Row := ⟨0x06013C, 0x100, 2, 0x4, 0, 32, .ro, 0⟩
def Reg.TIME_LEG_LASER_U_KT : Row := ⟨0x060144, 0x100, 2, 0x4, 0, 16, .ro, 0⟩  -- reset: fw
def Reg.TIME_LEG_LASER_U_KI : Row := ⟨0x060144, 0x100, 2, 0x4, 16, 16, .ro, 0⟩  -- reset: fw
def Reg.TIME_LEG_LASER_REF_T_REF : Row := ⟨0x06014C, 0x100, 1, 0x0, 0, 16, .ro, 0⟩  -- reset: fw
def Reg.TIME_LEG_LASER_REF_I_REF : Row := ⟨0x06014C, 0x100, 1, 0x0, 16, 16, .ro, 0⟩  -- reset: fw
def Reg.TIME_LEG_LASER_WORST : Row := ⟨0x060150, 0x100, 1, 0x0, 0, 16, .rw, 1000⟩
def Reg.TIME_LEG_FIT_CTL_WINDOW_SF : Row := ⟨0x060158, 0x100, 1, 0x0, 0, 12, .rw, 1024⟩
def Reg.TIME_LEG_FIT_CTL_RESID_MAX : Row := ⟨0x060158, 0x100, 1, 0x0, 16, 12, .rw, 32⟩
def Reg.TIME_LEG_RX_FACT : Row := ⟨0x060160, 0x100, 1, 0x0, 0, 32, .ro, 0⟩  -- reset: fw
def Reg.TIME_LEG_RX_TRIM : Row := ⟨0x060164, 0x100, 1, 0x0, 0, 32, .rw, 0⟩
def Reg.TIME_LEG_TXU_FACT : Row := ⟨0x060168, 0x100, 2, 0x8, 0, 32, .ro, 0⟩  -- reset: fw
def Reg.TIME_LEG_TXU_TRIM : Row := ⟨0x06016C, 0x100, 2, 0x8, 0, 32, .rw, 0⟩
def Reg.TIME_LEG_SKEW_FACT : Row := ⟨0x060178, 0x100, 3, 0x8, 0, 32, .ro, 0⟩  -- reset: fw
def Reg.TIME_LEG_SKEW_TRIM : Row := ⟨0x06017C, 0x100, 3, 0x8, 0, 32, .rw, 0⟩
def Reg.TIME_CNT_VOTE_CORR : Row := ⟨0x060400, 0x0, 1, 0x0, 0, 64, .ro, 0⟩
def Reg.TIME_CNT_VOTE_FAIL : Row := ⟨0x060408, 0x0, 1, 0x0, 0, 64, .ro, 0⟩
def Reg.TIME_CNT_TOD_USED_A : Row := ⟨0x060410, 0x0, 1, 0x0, 0, 64, .ro, 0⟩
def Reg.TIME_CNT_TOD_USED_B : Row := ⟨0x060418, 0x0, 1, 0x0, 0, 64, .ro, 0⟩
def Reg.TIME_CNT_MARK_EXCL_A : Row := ⟨0x060420, 0x0, 1, 0x0, 0, 64, .ro, 0⟩
def Reg.TIME_CNT_MARK_EXCL_B : Row := ⟨0x060428, 0x0, 1, 0x0, 0, 64, .ro, 0⟩
def Reg.TIME_CNT_APPLY_DONE : Row := ⟨0x060430, 0x0, 1, 0x0, 0, 64, .ro, 0⟩
def Reg.TIME_CNT_APPLY_REFUSED : Row := ⟨0x060438, 0x0, 1, 0x0, 0, 64, .ro, 0⟩
def Reg.TIME_CNT_REBASES : Row := ⟨0x060440, 0x0, 1, 0x0, 0, 64, .ro, 0⟩
def Reg.TIME_CNT_HOLDOVER_ENTRIES : Row := ⟨0x060448, 0x0, 1, 0x0, 0, 64, .ro, 0⟩

def Reg.tableTIME0 : List Row := [Reg.TIME_CTL_SNAP, Reg.TIME_CTL_APPLY, Reg.TIME_CTL_APPLY_MODE, Reg.TIME_CTL_CANCEL,
  Reg.TIME_CTL_SERVO_EN, Reg.TIME_STATUS_SNAP_BUSY, Reg.TIME_STATUS_APPLY_PENDING, Reg.TIME_STATUS_APPLY_RESULT, Reg.TIME_STATUS_STAGE_WERR,
  Reg.TIME_STATUS_REBASE_REQ, Reg.TIME_STATUS_SQUELCHED, Reg.TIME_STATUS_VOTE_FAIL, Reg.TIME_STATUS_SRC, Reg.TIME_QUAL_QUALITY,
  Reg.TIME_QUAL_STEP_DONE, Reg.TIME_QUAL_GEN, Reg.TIME_BOUND, Reg.TIME_BOUND_OWN, Reg.TIME_SEC_LO, Reg.TIME_SEC_HI, Reg.TIME_NS,
  Reg.TIME_FRAC, Reg.TIME_SNAP_SEC_LO, Reg.TIME_SNAP_SEC_HI]
def Reg.tableTIME1 : List Row := [Reg.TIME_SNAP_SEC_HI_SNAP_SEQ, Reg.TIME_SNAP_NS, Reg.TIME_SNAP_FRAC, Reg.TIME_SNAP_INCR_LO,
  Reg.TIME_SNAP_INCR_HI, Reg.TIME_SNAP_QUAL, Reg.TIME_SNAP_BOUND, Reg.TIME_STAGE_SEC_LO, Reg.TIME_STAGE_SEC_HI, Reg.TIME_STAGE_NS,
  Reg.TIME_STAGE_FRAC, Reg.TIME_STAGE_INCR_LO, Reg.TIME_STAGE_INCR_HI, Reg.TIME_APPLY_AT_LO, Reg.TIME_APPLY_AT_HI, Reg.TIME_STAGE_SEL,
  Reg.TIME_INCR_LO_INCR, Reg.TIME_INCR_HI_INCR, Reg.TIME_INCR_TGT_LO_INCR_TGT, Reg.TIME_INCR_TGT_HI_INCR_TGT, Reg.TIME_INCR_NOM_LO_INCR_NOM,
  Reg.TIME_INCR_NOM_HI_INCR_NOM, Reg.TIME_UTC_UTC_OFFSET, Reg.TIME_UTC_LI61]
def Reg.tableTIME2 : List Row := [Reg.TIME_UTC_LI59, Reg.TIME_UTC_UTC_VALID, Reg.TIME_UTC_TRACEABLE, Reg.TIME_UTC_HE_CLASS,
  Reg.TIME_SERVO_TC, Reg.TIME_SERVO_TC_BASE, Reg.TIME_SERVO_CTL_LOCK_Q, Reg.TIME_SERVO_CTL_LOCK_SF, Reg.TIME_SERVO_CTL_UNLOCK_Q,
  Reg.TIME_SERVO_CTL_UNLOCK_SF, Reg.TIME_HO_CTL_LIMIT, Reg.TIME_HO_CTL_SQ_PPS, Reg.TIME_HO_CTL_SQ_TEV, Reg.TIME_HO_AGING, Reg.TIME_HO_TEMP,
  Reg.TIME_HO_Y0, Reg.TIME_HO_ELAPSED, Reg.TIME_REF_OFS, Reg.TIME_VOTE_CTL_PERSIST, Reg.TIME_LEG_TEQ, Reg.TIME_LEG_TEQ_TEQ_VALID,
  Reg.TIME_LEG_STATUS_USABLE, Reg.TIME_LEG_STATUS_FIT_VALID, Reg.TIME_LEG_STATUS_LASER_LOW]
def Reg.tableTIME3 : List Row := [Reg.TIME_LEG_STATUS_RWAVE, Reg.TIME_LEG_MARK_SEC_LO, Reg.TIME_LEG_MARK_SEC_HI,
  Reg.TIME_LEG_MARK_SEC_HI_MARK_GEN, Reg.TIME_LEG_MARK_NS, Reg.TIME_LEG_MARK_FRAC, Reg.TIME_LEG_OFFSET, Reg.TIME_LEG_DT, Reg.TIME_LEG_FIT_K,
  Reg.TIME_LEG_FIT_L0, Reg.TIME_LEG_FIT_LEN, Reg.TIME_LEG_FIT_RESID, Reg.TIME_LEG_ASYM, Reg.TIME_LEG_LASER_U_KT, Reg.TIME_LEG_LASER_U_KI,
  Reg.TIME_LEG_LASER_REF_T_REF, Reg.TIME_LEG_LASER_REF_I_REF, Reg.TIME_LEG_LASER_WORST, Reg.TIME_LEG_FIT_CTL_WINDOW_SF,
  Reg.TIME_LEG_FIT_CTL_RESID_MAX, Reg.TIME_LEG_RX_FACT, Reg.TIME_LEG_RX_TRIM, Reg.TIME_LEG_TXU_FACT, Reg.TIME_LEG_TXU_TRIM]
def Reg.tableTIME4 : List Row := [Reg.TIME_LEG_SKEW_FACT, Reg.TIME_LEG_SKEW_TRIM, Reg.TIME_CNT_VOTE_CORR, Reg.TIME_CNT_VOTE_FAIL,
  Reg.TIME_CNT_TOD_USED_A, Reg.TIME_CNT_TOD_USED_B, Reg.TIME_CNT_MARK_EXCL_A, Reg.TIME_CNT_MARK_EXCL_B, Reg.TIME_CNT_APPLY_DONE,
  Reg.TIME_CNT_APPLY_REFUSED, Reg.TIME_CNT_REBASES, Reg.TIME_CNT_HOLDOVER_ENTRIES]
def Reg.tableTIME : List Row := Reg.tableTIME0 ++ Reg.tableTIME1 ++ Reg.tableTIME2 ++ Reg.tableTIME3 ++ Reg.tableTIME4

/-! TEV (05_time_outputs_and_triggers.md): R72, R130, R131, R132, R133, R138, R139, R140, R141, R143, R145 -/
def Reg.TEV_PPS_CTL_EN : Row := ⟨0x070010, 0x0, 1, 0x0, 0, 1, .rw, 0⟩  -- reset: fw
def Reg.TEV_PPS_CTL_POL : Row := ⟨0x070010, 0x0, 1, 0x0, 1, 1, .rw, 0⟩
def Reg.TEV_PPS_CTL_COMP : Row := ⟨0x070010, 0x0, 1, 0x0, 2, 10, .rw, 0⟩
def Reg.TEV_PPS_WIDTH : Row := ⟨0x070014, 0x0, 1, 0x0, 0, 20, .rw, 100000⟩
def Reg.TEV_LT_CTL_HORIZON_MS : Row := ⟨0x070018, 0x0, 1, 0x0, 0, 20, .rw, 1000⟩
def Reg.TEV_LT_CTL_REBASE_FLUSH : Row := ⟨0x070018, 0x0, 1, 0x0, 20, 1, .rw, 0⟩
def Reg.TEV_PTM_CTL_AUTO : Row := ⟨0x070020, 0x0, 1, 0x0, 0, 1, .rw, 0⟩
def Reg.TEV_PTM_CTL_TRIGGER : Row := ⟨0x070020, 0x0, 1, 0x0, 1, 1, .wo, 0⟩
def Reg.TEV_PTM_CTL_PERIOD_MS : Row := ⟨0x070020, 0x0, 1, 0x0, 4, 12, .rw, 10⟩
def Reg.TEV_PTM_STATUS_BUSY : Row := ⟨0x070024, 0x0, 1, 0x0, 0, 1, .ro, 0⟩
def Reg.TEV_PTM_STATUS_RESULT : Row := ⟨0x070024, 0x0, 1, 0x0, 4, 8, .ro, 0⟩
def Reg.TEV_PTM_T1 : Row := ⟨0x070040, 0x0, 5, 0x4, 0, 32, .ro, 0⟩
def Reg.TEV_PTM_T4 : Row := ⟨0x070054, 0x0, 5, 0x4, 0, 32, .ro, 0⟩
def Reg.TEV_PTM_MASTER : Row := ⟨0x070068, 0x0, 2, 0x4, 0, 32, .ro, 0⟩
def Reg.TEV_PTM_PDELAY : Row := ⟨0x070070, 0x0, 1, 0x0, 0, 32, .ro, 0⟩
def Reg.TEV_PTM_PREV_T1 : Row := ⟨0x070080, 0x0, 5, 0x4, 0, 32, .ro, 0⟩
def Reg.TEV_PTM_PREV_T4 : Row := ⟨0x070094, 0x0, 5, 0x4, 0, 32, .ro, 0⟩
def Reg.TEV_CH_CTL_ARM : Row := ⟨0x070100, 0x0, 16, 0x40, 0, 1, .wo, 0⟩
def Reg.TEV_CH_CTL_DISARM : Row := ⟨0x070100, 0x0, 16, 0x40, 1, 1, .wo, 0⟩
def Reg.TEV_CH_CTL_MODE : Row := ⟨0x070100, 0x0, 16, 0x40, 4, 3, .rw, 0⟩
def Reg.TEV_CH_CTL_POL : Row := ⟨0x070100, 0x0, 16, 0x40, 8, 1, .rw, 0⟩
def Reg.TEV_CH_CTL_STOP_SRC : Row := ⟨0x070100, 0x0, 16, 0x40, 9, 1, .rw, 0⟩
def Reg.TEV_CH_CTL_REBASE_POL : Row := ⟨0x070100, 0x0, 16, 0x40, 10, 1, .rw, 0⟩
def Reg.TEV_CH_CTL_RESYNC : Row := ⟨0x070100, 0x0, 16, 0x40, 11, 1, .rw, 0⟩
def Reg.TEV_CH_STATUS_STATE : Row := ⟨0x070104, 0x0, 16, 0x40, 0, 2, .ro, 0⟩
def Reg.TEV_CH_STATUS_LATCHED : Row := ⟨0x070104, 0x0, 16, 0x40, 2, 1, .ro, 0⟩
def Reg.TEV_CH_STATUS_RESULT : Row := ⟨0x070104, 0x0, 16, 0x40, 4, 8, .ro, 0⟩
def Reg.TEV_CH_STATUS_LATE : Row := ⟨0x070104, 0x0, 16, 0x40, 12, 1, .w1c, 0⟩
def Reg.TEV_CH_STATUS_WERR : Row := ⟨0x070104, 0x0, 16, 0x40, 13, 1, .w1c, 0⟩
def Reg.TEV_CH_TGT_SEC_LO : Row := ⟨0x070108, 0x0, 16, 0x40, 0, 32, .rw, 0⟩
def Reg.TEV_CH_TGT_SEC_HI : Row := ⟨0x07010C, 0x0, 16, 0x40, 0, 16, .rw, 0⟩
def Reg.TEV_CH_TGT_NS : Row := ⟨0x070110, 0x0, 16, 0x40, 0, 30, .rw, 0⟩
def Reg.TEV_CH_WIDTH : Row := ⟨0x070114, 0x0, 16, 0x40, 0, 30, .rw, 100⟩
def Reg.TEV_CH_PERIOD_NS : Row := ⟨0x070118, 0x0, 16, 0x40, 0, 32, .rw, 1000⟩
def Reg.TEV_CH_PERIOD_FRAC : Row := ⟨0x07011C, 0x0, 16, 0x40, 0, 16, .rw, 0⟩
def Reg.TEV_CH_COUNT : Row := ⟨0x070120, 0x0, 16, 0x40, 0, 32, .rw, 0⟩
def Reg.TEV_CH_FIRED : Row := ⟨0x070124, 0x0, 16, 0x40, 0, 32, .ro, 0⟩
def Reg.TEV_CH_COMP : Row := ⟨0x070128, 0x0, 16, 0x40, 0, 10, .rw, 0⟩
def Reg.TEV_CH_LIN_LO : Row := ⟨0x07012C, 0x0, 16, 0x40, 0, 32, .ro, 0⟩
def Reg.TEV_CH_LIN_HI : Row := ⟨0x070130, 0x0, 16, 0x40, 0, 8, .ro, 0⟩
def Reg.TEV_CNT_ARM_REFUSED : Row := ⟨0x070600, 0x0, 1, 0x0, 0, 64, .ro, 0⟩
def Reg.TEV_CNT_LT_REFUSED : Row := ⟨0x070608, 0x0, 1, 0x0, 0, 64, .ro, 0⟩
def Reg.TEV_CNT_LT_LATE : Row := ⟨0x070610, 0x0, 1, 0x0, 0, 64, .ro, 0⟩
def Reg.TEV_CNT_PTM_DIALOGUES : Row := ⟨0x070618, 0x0, 1, 0x0, 0, 64, .ro, 0⟩
def Reg.TEV_CNT_PTM_FAILED : Row := ⟨0x070620, 0x0, 1, 0x0, 0, 64, .ro, 0⟩
def Reg.TEV_TCAP_CTL_EN : Row := ⟨0x070800, 0x0, 8, 0x40, 0, 1, .rw, 0⟩
def Reg.TEV_TCAP_CTL_EDGE : Row := ⟨0x070800, 0x0, 8, 0x40, 1, 2, .rw, 1⟩
def Reg.TEV_TCAP_CTL_COMP : Row := ⟨0x070800, 0x0, 8, 0x40, 3, 10, .rw, 0⟩
def Reg.TEV_TCAP_STATUS_LEVEL : Row := ⟨0x070804, 0x0, 8, 0x40, 0, 7, .ro, 0⟩
def Reg.TEV_TCAP_STATUS_OVF : Row := ⟨0x070804, 0x0, 8, 0x40, 7, 1, .w1c, 0⟩
def Reg.TEV_TCAP_STATUS_PIN : Row := ⟨0x070804, 0x0, 8, 0x40, 8, 1, .ro, 0⟩
def Reg.TEV_TCAP_HEAD0 : Row := ⟨0x070810, 0x0, 8, 0x40, 0, 32, .ro, 0⟩
def Reg.TEV_TCAP_HEAD1 : Row := ⟨0x070814, 0x0, 8, 0x40, 0, 32, .ro, 0⟩
def Reg.TEV_TCAP_HEAD2 : Row := ⟨0x070818, 0x0, 8, 0x40, 0, 32, .ro, 0⟩
def Reg.TEV_TCAP_HEAD3 : Row := ⟨0x07081C, 0x0, 8, 0x40, 0, 32, .ro, 0⟩
def Reg.TEV_TCAP_HEAD4 : Row := ⟨0x070820, 0x0, 8, 0x40, 0, 32, .ro, 0⟩
def Reg.TEV_TCAP_CNT_CAPTURED : Row := ⟨0x070C00, 0x0, 8, 0x18, 0, 64, .ro, 0⟩
def Reg.TEV_TCAP_CNT_NARROW : Row := ⟨0x070C08, 0x0, 8, 0x18, 0, 64, .ro, 0⟩
def Reg.TEV_TCAP_CNT_LOST : Row := ⟨0x070C10, 0x0, 8, 0x18, 0, 64, .ro, 0⟩

def Reg.tableTEV0 : List Row := [Reg.TEV_PPS_CTL_EN, Reg.TEV_PPS_CTL_POL, Reg.TEV_PPS_CTL_COMP, Reg.TEV_PPS_WIDTH,
  Reg.TEV_LT_CTL_HORIZON_MS, Reg.TEV_LT_CTL_REBASE_FLUSH, Reg.TEV_PTM_CTL_AUTO, Reg.TEV_PTM_CTL_TRIGGER, Reg.TEV_PTM_CTL_PERIOD_MS,
  Reg.TEV_PTM_STATUS_BUSY, Reg.TEV_PTM_STATUS_RESULT, Reg.TEV_PTM_T1, Reg.TEV_PTM_T4, Reg.TEV_PTM_MASTER, Reg.TEV_PTM_PDELAY,
  Reg.TEV_PTM_PREV_T1, Reg.TEV_PTM_PREV_T4, Reg.TEV_CH_CTL_ARM, Reg.TEV_CH_CTL_DISARM, Reg.TEV_CH_CTL_MODE, Reg.TEV_CH_CTL_POL,
  Reg.TEV_CH_CTL_STOP_SRC, Reg.TEV_CH_CTL_REBASE_POL, Reg.TEV_CH_CTL_RESYNC]
def Reg.tableTEV1 : List Row := [Reg.TEV_CH_STATUS_STATE, Reg.TEV_CH_STATUS_LATCHED, Reg.TEV_CH_STATUS_RESULT, Reg.TEV_CH_STATUS_LATE,
  Reg.TEV_CH_STATUS_WERR, Reg.TEV_CH_TGT_SEC_LO, Reg.TEV_CH_TGT_SEC_HI, Reg.TEV_CH_TGT_NS, Reg.TEV_CH_WIDTH, Reg.TEV_CH_PERIOD_NS,
  Reg.TEV_CH_PERIOD_FRAC, Reg.TEV_CH_COUNT, Reg.TEV_CH_FIRED, Reg.TEV_CH_COMP, Reg.TEV_CH_LIN_LO, Reg.TEV_CH_LIN_HI,
  Reg.TEV_CNT_ARM_REFUSED, Reg.TEV_CNT_LT_REFUSED, Reg.TEV_CNT_LT_LATE, Reg.TEV_CNT_PTM_DIALOGUES, Reg.TEV_CNT_PTM_FAILED,
  Reg.TEV_TCAP_CTL_EN, Reg.TEV_TCAP_CTL_EDGE, Reg.TEV_TCAP_CTL_COMP]
def Reg.tableTEV2 : List Row := [Reg.TEV_TCAP_STATUS_LEVEL, Reg.TEV_TCAP_STATUS_OVF, Reg.TEV_TCAP_STATUS_PIN, Reg.TEV_TCAP_HEAD0,
  Reg.TEV_TCAP_HEAD1, Reg.TEV_TCAP_HEAD2, Reg.TEV_TCAP_HEAD3, Reg.TEV_TCAP_HEAD4, Reg.TEV_TCAP_CNT_CAPTURED, Reg.TEV_TCAP_CNT_NARROW,
  Reg.TEV_TCAP_CNT_LOST]
def Reg.tableTEV : List Row := Reg.tableTEV0 ++ Reg.tableTEV1 ++ Reg.tableTEV2

end Sys2Proof.Machine
end

