-- ==== Sys2Proof/Machine/RegsPath.lean ====
section
/-! DEFINITION. The register fields of the windows USCH, STBL, CLS, CIPH, SLU, PROT, PM, OPT: address of instance 0 of leg A, leg stride (0: one copy), instances and stride,
first bit, width, type (R8) and reset. One definition per field; the rule that names the register stands above its block. -/

namespace Sys2Proof.Machine

/-! USCH (06_upstream_scheduling.md): R72, R147, R150, R151, R152, R153, R155, R156, R158, R160, R162, R173, R175, R176 -/
def Reg.USCH_CTL_RESET : Row := ⟨0x080000, 0x0, 1, 0x0, 0, 1, .wo, 0⟩
def Reg.USCH_STATUS_RESET_BUSY : Row := ⟨0x080004, 0x0, 1, 0x0, 0, 1, .ro, 0⟩
def Reg.USCH_STATUS_FB_ALL : Row := ⟨0x080004, 0x0, 1, 0x0, 1, 1, .ro, 0⟩
def Reg.USCH_STATUS_LEG : Row := ⟨0x080004, 0x0, 1, 0x0, 2, 1, .ro, 0⟩
def Reg.USCH_STATUS_RSV_U0 : Row := ⟨0x080004, 0x0, 1, 0x0, 3, 1, .ro, 0⟩
def Reg.USCH_STATUS_RSV_U1 : Row := ⟨0x080004, 0x0, 1, 0x0, 4, 1, .ro, 0⟩
def Reg.USCH_STATUS_WERR : Row := ⟨0x080004, 0x0, 1, 0x0, 5, 1, .w1c, 0⟩
def Reg.USCH_FB_CTL_FREEBOARD : Row := ⟨0x080008, 0x0, 1, 0x0, 0, 16, .rw, 64⟩
def Reg.USCH_FB_CTL_BUILD_LEAD : Row := ⟨0x080008, 0x0, 1, 0x0, 16, 16, .rw, 1440⟩
def Reg.USCH_QCMD_OP : Row := ⟨0x080010, 0x0, 1, 0x0, 0, 2, .wo, 0⟩
def Reg.USCH_QCMD_BUSY : Row := ⟨0x080010, 0x0, 1, 0x0, 4, 1, .ro, 0⟩
def Reg.USCH_QCMD_STATUS : Row := ⟨0x080010, 0x0, 1, 0x0, 8, 8, .ro, 0⟩
def Reg.USCH_QIDX : Row := ⟨0x080014, 0x0, 1, 0x0, 0, 13, .rw, 0⟩
def Reg.USCH_QDATA0_MODE : Row := ⟨0x080020, 0x0, 1, 0x0, 0, 2, .rw, 0⟩
def Reg.USCH_QDATA0_SHAPE_EN : Row := ⟨0x080020, 0x0, 1, 0x0, 2, 1, .rw, 0⟩
def Reg.USCH_QDATA0_OVH : Row := ⟨0x080020, 0x0, 1, 0x0, 8, 8, .rw, 0⟩
def Reg.USCH_QDATA0_WEIGHT : Row := ⟨0x080020, 0x0, 1, 0x0, 16, 16, .rw, 1⟩
def Reg.USCH_QDATA1_RATE0 : Row := ⟨0x080024, 0x0, 1, 0x0, 0, 24, .rw, 0⟩
def Reg.USCH_QDATA2_BURST0 : Row := ⟨0x080028, 0x0, 1, 0x0, 0, 25, .rw, 1048576⟩
def Reg.USCH_QDATA3_RATE1 : Row := ⟨0x08002C, 0x0, 1, 0x0, 0, 24, .rw, 0⟩
def Reg.USCH_QDATA4_BURST1 : Row := ⟨0x080030, 0x0, 1, 0x0, 0, 25, .rw, 1048576⟩
def Reg.USCH_QDATA5_LEVEL0 : Row := ⟨0x080034, 0x0, 1, 0x0, 0, 32, .ro, 0⟩
def Reg.USCH_QDATA6_LEVEL1 : Row := ⟨0x080038, 0x0, 1, 0x0, 0, 32, .ro, 0⟩
def Reg.USCH_QDATA7_RESV0 : Row := ⟨0x08003C, 0x0, 1, 0x0, 0, 32, .ro, 0⟩
def Reg.USCH_QDATA8_CREDIT : Row := ⟨0x080040, 0x0, 1, 0x0, 0, 32, .ro, 0⟩
def Reg.USCH_QDATA9_HEAD : Row := ⟨0x080044, 0x0, 1, 0x0, 0, 1, .ro, 0⟩
def Reg.USCH_QDATA9_BLOCK : Row := ⟨0x080044, 0x0, 1, 0x0, 1, 3, .ro, 0⟩
def Reg.USCH_AUD_CTL_SNAP : Row := ⟨0x080100, 0x0, 1, 0x0, 0, 1, .wo, 0⟩
def Reg.USCH_AUD_CTL_SLOT : Row := ⟨0x080100, 0x0, 1, 0x0, 8, 7, .rw, 0⟩
def Reg.USCH_AUD_CTL_BUCKET : Row := ⟨0x080100, 0x0, 1, 0x0, 16, 14, .rw, 0⟩
def Reg.USCH_AUD_CTL_B1 : Row := ⟨0x080100, 0x0, 1, 0x0, 30, 1, .rw, 0⟩
def Reg.USCH_AUD_STATUS_BUSY : Row := ⟨0x080104, 0x0, 1, 0x0, 0, 1, .ro, 0⟩
def Reg.USCH_AUD_STATUS_MISMATCH : Row := ⟨0x080104, 0x0, 1, 0x0, 1, 5, .w1c, 0⟩
def Reg.USCH_AUD_STATUS_SNAP_SEQ : Row := ⟨0x080104, 0x0, 1, 0x0, 16, 16, .ro, 0⟩
def Reg.USCH_AUD_CELL_FREE : Row := ⟨0x080110, 0x0, 1, 0x0, 0, 64, .ro, 65536⟩
def Reg.USCH_AUD_CELL_RESERVED : Row := ⟨0x080118, 0x0, 1, 0x0, 0, 64, .ro, 0⟩
def Reg.USCH_AUD_CELL_COMMITTED : Row := ⟨0x080120, 0x0, 1, 0x0, 0, 64, .ro, 0⟩
def Reg.USCH_AUD_TOK_FILLED : Row := ⟨0x080128, 0x0, 1, 0x0, 0, 64, .ro, 0⟩
def Reg.USCH_AUD_TOK_TRIMMED : Row := ⟨0x080130, 0x0, 1, 0x0, 0, 64, .ro, 0⟩
def Reg.USCH_AUD_TOK_LEVEL : Row := ⟨0x080138, 0x0, 1, 0x0, 0, 64, .ro, 0⟩
def Reg.USCH_AUD_TOK_RESERVED : Row := ⟨0x080140, 0x0, 1, 0x0, 0, 64, .ro, 0⟩
def Reg.USCH_AUD_TOK_DEBITED : Row := ⟨0x080148, 0x0, 1, 0x0, 0, 64, .ro, 0⟩
def Reg.USCH_AUD_DESC_POSTED : Row := ⟨0x080150, 0x0, 1, 0x0, 0, 64, .ro, 0⟩
def Reg.USCH_AUD_DESC_IN_HOST : Row := ⟨0x080158, 0x0, 1, 0x0, 0, 64, .ro, 0⟩
def Reg.USCH_AUD_DESC_HEAD : Row := ⟨0x080160, 0x0, 1, 0x0, 0, 64, .ro, 0⟩
def Reg.USCH_AUD_DESC_RESERVED : Row := ⟨0x080168, 0x0, 1, 0x0, 0, 64, .ro, 0⟩
def Reg.USCH_AUD_DESC_COMMITTED : Row := ⟨0x080170, 0x0, 1, 0x0, 0, 64, .ro, 0⟩
def Reg.USCH_AUD_DESC_COMPLETED : Row := ⟨0x080178, 0x0, 1, 0x0, 0, 64, .ro, 0⟩
def Reg.USCH_AUD_GR_ACCEPTED_U0 : Row := ⟨0x080180, 0x0, 1, 0x0, 0, 64, .ro, 0⟩
def Reg.USCH_AUD_GR_OPENED_U0 : Row := ⟨0x080188, 0x0, 1, 0x0, 0, 64, .ro, 0⟩
def Reg.USCH_AUD_GR_REFUSED_U0 : Row := ⟨0x080190, 0x0, 1, 0x0, 0, 64, .ro, 0⟩
def Reg.USCH_AUD_GR_ACCEPTED_U1 : Row := ⟨0x080198, 0x0, 1, 0x0, 0, 64, .ro, 0⟩
def Reg.USCH_AUD_GR_OPENED_U1 : Row := ⟨0x0801A0, 0x0, 1, 0x0, 0, 64, .ro, 0⟩
def Reg.USCH_AUD_GR_REFUSED_U1 : Row := ⟨0x0801A8, 0x0, 1, 0x0, 0, 64, .ro, 0⟩
def Reg.USCH_AUD_BY_CAPACITY : Row := ⟨0x0801B0, 0x0, 1, 0x0, 0, 64, .ro, 0⟩
def Reg.USCH_AUD_BY_HEADER : Row := ⟨0x0801B8, 0x0, 1, 0x0, 0, 64, .ro, 0⟩
def Reg.USCH_AUD_BY_FRAME : Row := ⟨0x0801C0, 0x0, 1, 0x0, 0, 64, .ro, 0⟩
def Reg.USCH_AUD_BY_IDLE : Row := ⟨0x0801C8, 0x0, 1, 0x0, 0, 64, .ro, 0⟩
def Reg.USCH_AUD_GR_OTHER_U0 : Row := ⟨0x0801D0, 0x0, 1, 0x0, 0, 64, .ro, 0⟩
def Reg.USCH_AUD_GR_OTHER_U1 : Row := ⟨0x0801D8, 0x0, 1, 0x0, 0, 64, .ro, 0⟩
def Reg.USCH_CT_CTL_DISC : Row := ⟨0x081000, 0x0, 128, 0x40, 0, 1, .rw, 0⟩
def Reg.USCH_CT_CTL_SHAPE_EN : Row := ⟨0x081000, 0x0, 128, 0x40, 1, 1, .rw, 0⟩
def Reg.USCH_CT_CTL_SMODE : Row := ⟨0x081000, 0x0, 128, 0x40, 2, 2, .rw, 0⟩
def Reg.USCH_CT_CTL_OVH : Row := ⟨0x081000, 0x0, 128, 0x40, 4, 8, .rw, 0⟩
def Reg.USCH_CT_CTL_OWNER : Row := ⟨0x081000, 0x0, 128, 0x40, 16, 8, .rw, 0⟩
def Reg.USCH_CT_RATE0 : Row := ⟨0x081004, 0x0, 128, 0x40, 0, 24, .rw, 0⟩
def Reg.USCH_CT_BURST0 : Row := ⟨0x081008, 0x0, 128, 0x40, 0, 25, .rw, 1048576⟩
def Reg.USCH_CT_RATE1 : Row := ⟨0x08100C, 0x0, 128, 0x40, 0, 24, .rw, 0⟩
def Reg.USCH_CT_BURST1 : Row := ⟨0x081010, 0x0, 128, 0x40, 0, 25, .rw, 1048576⟩
def Reg.USCH_CT_QUANTUM : Row := ⟨0x081014, 0x0, 128, 0x40, 0, 16, .rw, 2048⟩
def Reg.USCH_CT_CREDIT_CAP : Row := ⟨0x081018, 0x0, 128, 0x40, 0, 25, .rw, 65536⟩
def Reg.USCH_CT_BUFREP_EST : Row := ⟨0x08101C, 0x0, 128, 0x40, 0, 16, .rw, 512⟩
def Reg.USCH_CT_STATUS_FB : Row := ⟨0x081020, 0x0, 128, 0x40, 0, 1, .ro, 0⟩
def Reg.USCH_CT_STATUS_FB_AUTO : Row := ⟨0x081020, 0x0, 128, 0x40, 1, 1, .ro, 0⟩
def Reg.USCH_CT_STATUS_LAST_CAUSE : Row := ⟨0x081020, 0x0, 128, 0x40, 4, 4, .ro, 0⟩
def Reg.USCH_CT_STATUS_STARVED : Row := ⟨0x081020, 0x0, 128, 0x40, 8, 1, .w1c, 0⟩
def Reg.USCH_CT_LEVEL0 : Row := ⟨0x081024, 0x0, 128, 0x40, 0, 32, .ro, 0⟩
def Reg.USCH_CT_LEVEL1 : Row := ⟨0x081028, 0x0, 128, 0x40, 0, 32, .ro, 0⟩
def Reg.USCH_CT_BUFREP : Row := ⟨0x08102C, 0x0, 128, 0x40, 0, 24, .ro, 0⟩
def Reg.USCH_CNT_BURSTS_BUILT : Row := ⟨0x083000, 0x0, 1, 0x0, 0, 64, .ro, 0⟩
def Reg.USCH_CNT_BURSTS_SENT : Row := ⟨0x083008, 0x0, 1, 0x0, 0, 64, .ro, 0⟩
def Reg.USCH_CNT_IDLE_GRANTS : Row := ⟨0x083010, 0x0, 1, 0x0, 0, 64, .ro, 0⟩
def Reg.USCH_CNT_UNWOUND_BURSTS : Row := ⟨0x083018, 0x0, 1, 0x0, 0, 64, .ro, 0⟩
def Reg.USCH_CNT_UNWOUND_FRAMES : Row := ⟨0x083020, 0x0, 1, 0x0, 0, 64, .ro, 0⟩
def Reg.USCH_CNT_BUILD_LATE : Row := ⟨0x083028, 0x0, 1, 0x0, 0, 64, .ro, 0⟩
def Reg.USCH_CNT_FRAMES_SENT : Row := ⟨0x083030, 0x0, 1, 0x0, 0, 64, .ro, 0⟩
def Reg.USCH_CNT_BYTES_SENT : Row := ⟨0x083038, 0x0, 1, 0x0, 0, 64, .ro, 0⟩
def Reg.USCH_CNT_NO_CELLS : Row := ⟨0x083040, 0x0, 1, 0x0, 0, 64, .ro, 0⟩
def Reg.USCH_CNT_FB_ENTRIES : Row := ⟨0x083048, 0x0, 1, 0x0, 0, 64, .ro, 0⟩
def Reg.USCH_CNT_SEQ_SKIPPED : Row := ⟨0x083050, 0x0, 1, 0x0, 0, 64, .ro, 0⟩
def Reg.USCH_CNT_REVISE_LATE : Row := ⟨0x083058, 0x0, 1, 0x0, 0, 64, .ro, 0⟩
def Reg.USCH_CNT_AUD_FAIL : Row := ⟨0x083060, 0x0, 1, 0x0, 0, 64, .ro, 0⟩
def Reg.USCH_SCNT_FRAMES : Row := ⟨0x084000, 0x0, 128, 0x20, 0, 64, .ro, 0⟩
def Reg.USCH_SCNT_BYTES : Row := ⟨0x084008, 0x0, 128, 0x20, 0, 64, .ro, 0⟩
def Reg.USCH_SCNT_UNWINDS : Row := ⟨0x084010, 0x0, 128, 0x20, 0, 64, .ro, 0⟩
def Reg.USCH_SCNT_STARVED : Row := ⟨0x084018, 0x0, 128, 0x20, 0, 64, .ro, 0⟩

def Reg.tableUSCH0 : List Row := [Reg.USCH_CTL_RESET, Reg.USCH_STATUS_RESET_BUSY, Reg.USCH_STATUS_FB_ALL, Reg.USCH_STATUS_LEG,
  Reg.USCH_STATUS_RSV_U0, Reg.USCH_STATUS_RSV_U1, Reg.USCH_STATUS_WERR, Reg.USCH_FB_CTL_FREEBOARD, Reg.USCH_FB_CTL_BUILD_LEAD,
  Reg.USCH_QCMD_OP, Reg.USCH_QCMD_BUSY, Reg.USCH_QCMD_STATUS, Reg.USCH_QIDX, Reg.USCH_QDATA0_MODE, Reg.USCH_QDATA0_SHAPE_EN,
  Reg.USCH_QDATA0_OVH, Reg.USCH_QDATA0_WEIGHT, Reg.USCH_QDATA1_RATE0, Reg.USCH_QDATA2_BURST0, Reg.USCH_QDATA3_RATE1, Reg.USCH_QDATA4_BURST1,
  Reg.USCH_QDATA5_LEVEL0, Reg.USCH_QDATA6_LEVEL1, Reg.USCH_QDATA7_RESV0]
def Reg.tableUSCH1 : List Row := [Reg.USCH_QDATA8_CREDIT, Reg.USCH_QDATA9_HEAD, Reg.USCH_QDATA9_BLOCK, Reg.USCH_AUD_CTL_SNAP,
  Reg.USCH_AUD_CTL_SLOT, Reg.USCH_AUD_CTL_BUCKET, Reg.USCH_AUD_CTL_B1, Reg.USCH_AUD_STATUS_BUSY, Reg.USCH_AUD_STATUS_MISMATCH,
  Reg.USCH_AUD_STATUS_SNAP_SEQ, Reg.USCH_AUD_CELL_FREE, Reg.USCH_AUD_CELL_RESERVED, Reg.USCH_AUD_CELL_COMMITTED, Reg.USCH_AUD_TOK_FILLED,
  Reg.USCH_AUD_TOK_TRIMMED, Reg.USCH_AUD_TOK_LEVEL, Reg.USCH_AUD_TOK_RESERVED, Reg.USCH_AUD_TOK_DEBITED, Reg.USCH_AUD_DESC_POSTED,
  Reg.USCH_AUD_DESC_IN_HOST, Reg.USCH_AUD_DESC_HEAD, Reg.USCH_AUD_DESC_RESERVED, Reg.USCH_AUD_DESC_COMMITTED, Reg.USCH_AUD_DESC_COMPLETED]
def Reg.tableUSCH2 : List Row := [Reg.USCH_AUD_GR_ACCEPTED_U0, Reg.USCH_AUD_GR_OPENED_U0, Reg.USCH_AUD_GR_REFUSED_U0,
  Reg.USCH_AUD_GR_ACCEPTED_U1, Reg.USCH_AUD_GR_OPENED_U1, Reg.USCH_AUD_GR_REFUSED_U1, Reg.USCH_AUD_BY_CAPACITY, Reg.USCH_AUD_BY_HEADER,
  Reg.USCH_AUD_BY_FRAME, Reg.USCH_AUD_BY_IDLE, Reg.USCH_AUD_GR_OTHER_U0, Reg.USCH_AUD_GR_OTHER_U1, Reg.USCH_CT_CTL_DISC,
  Reg.USCH_CT_CTL_SHAPE_EN, Reg.USCH_CT_CTL_SMODE, Reg.USCH_CT_CTL_OVH, Reg.USCH_CT_CTL_OWNER, Reg.USCH_CT_RATE0, Reg.USCH_CT_BURST0,
  Reg.USCH_CT_RATE1, Reg.USCH_CT_BURST1, Reg.USCH_CT_QUANTUM, Reg.USCH_CT_CREDIT_CAP, Reg.USCH_CT_BUFREP_EST]
def Reg.tableUSCH3 : List Row := [Reg.USCH_CT_STATUS_FB, Reg.USCH_CT_STATUS_FB_AUTO, Reg.USCH_CT_STATUS_LAST_CAUSE,
  Reg.USCH_CT_STATUS_STARVED, Reg.USCH_CT_LEVEL0, Reg.USCH_CT_LEVEL1, Reg.USCH_CT_BUFREP, Reg.USCH_CNT_BURSTS_BUILT,
  Reg.USCH_CNT_BURSTS_SENT, Reg.USCH_CNT_IDLE_GRANTS, Reg.USCH_CNT_UNWOUND_BURSTS, Reg.USCH_CNT_UNWOUND_FRAMES, Reg.USCH_CNT_BUILD_LATE,
  Reg.USCH_CNT_FRAMES_SENT, Reg.USCH_CNT_BYTES_SENT, Reg.USCH_CNT_NO_CELLS, Reg.USCH_CNT_FB_ENTRIES, Reg.USCH_CNT_SEQ_SKIPPED,
  Reg.USCH_CNT_REVISE_LATE, Reg.USCH_CNT_AUD_FAIL, Reg.USCH_SCNT_FRAMES, Reg.USCH_SCNT_BYTES, Reg.USCH_SCNT_UNWINDS, Reg.USCH_SCNT_STARVED]
def Reg.tableUSCH : List Row := Reg.tableUSCH0 ++ Reg.tableUSCH1 ++ Reg.tableUSCH2 ++ Reg.tableUSCH3

/-! STBL (07_downstream_classification.md): R180, R181, R183, R184, R186, R187, R195, R196, R200, R207 -/
def Reg.STBL_CMD_OP : Row := ⟨0x090000, 0x0, 1, 0x0, 0, 3, .wo, 0⟩
def Reg.STBL_CMD_STAGE : Row := ⟨0x090000, 0x0, 1, 0x0, 3, 1, .wo, 0⟩
def Reg.STBL_CMD_BUSY : Row := ⟨0x090000, 0x0, 1, 0x0, 4, 1, .ro, 0⟩
def Reg.STBL_CMD_VIEW : Row := ⟨0x090000, 0x0, 1, 0x0, 5, 2, .wo, 0⟩
def Reg.STBL_CMD_STATUS : Row := ⟨0x090000, 0x0, 1, 0x0, 8, 8, .ro, 0⟩
def Reg.STBL_IDX : Row := ⟨0x090004, 0x0, 1, 0x0, 0, 16, .rw, 0⟩
def Reg.STBL_DATA : Row := ⟨0x090010, 0x0, 4, 0x4, 0, 32, .rw, 0⟩
def Reg.STBL_CMP : Row := ⟨0x090020, 0x0, 4, 0x4, 0, 32, .rw, 0⟩
def Reg.STBL_OCC_VALID_VALID_CNT : Row := ⟨0x090030, 0x0, 1, 0x0, 0, 17, .ro, 0⟩
def Reg.STBL_OCC_LEARNED_LEARNED_CNT : Row := ⟨0x090034, 0x0, 1, 0x0, 0, 17, .ro, 0⟩
def Reg.STBL_UNK_CTL_ACTION : Row := ⟨0x090040, 0x0, 1, 0x0, 0, 1, .rw, 0⟩
def Reg.STBL_UNK_CTL_CPU : Row := ⟨0x090040, 0x0, 1, 0x0, 1, 1, .rw, 0⟩
def Reg.STBL_LEARN_CTL_EN : Row := ⟨0x090044, 0x0, 1, 0x0, 0, 1, .rw, 0⟩
def Reg.STBL_LEARN_CTL_DEST : Row := ⟨0x090044, 0x0, 1, 0x0, 1, 1, .rw, 0⟩
def Reg.STBL_LEARN_CTL_REARM : Row := ⟨0x090044, 0x0, 1, 0x0, 2, 1, .wo, 0⟩
def Reg.STBL_LEARN_CTL_HOLD_SF : Row := ⟨0x090044, 0x0, 1, 0x0, 4, 12, .rw, 1000⟩
def Reg.STBL_LEARN_CTL_RATE : Row := ⟨0x090044, 0x0, 1, 0x0, 16, 16, .rw, 1024⟩
def Reg.STBL_LEARN_BASE_LO : Row := ⟨0x090048, 0x0, 1, 0x0, 0, 32, .rw, 0⟩
def Reg.STBL_LEARN_BASE_HI : Row := ⟨0x09004C, 0x0, 1, 0x0, 0, 32, .rw, 0⟩
def Reg.STBL_LEARN_SIZE : Row := ⟨0x090050, 0x0, 1, 0x0, 0, 5, .rw, 6⟩
def Reg.STBL_LEARN_PROD : Row := ⟨0x090054, 0x0, 1, 0x0, 0, 16, .ro, 0⟩
def Reg.STBL_LEARN_CONS : Row := ⟨0x090058, 0x0, 1, 0x0, 0, 16, .rw, 0⟩
def Reg.STBL_EXC_CTL_EXC_RING : Row := ⟨0x090060, 0x0, 1, 0x0, 0, 12, .rw, 0⟩
def Reg.STBL_EXC_CTL_MIRROR_RING : Row := ⟨0x090060, 0x0, 1, 0x0, 12, 12, .rw, 0⟩
def Reg.STBL_SPILL_CTL_THRESH : Row := ⟨0x090068, 0x0, 1, 0x0, 0, 16, .rw, 0⟩
def Reg.STBL_STAT_IDX : Row := ⟨0x090070, 0x0, 1, 0x0, 0, 14, .rw, 0⟩
def Reg.STBL_STAT_FRAMES : Row := ⟨0x090078, 0x0, 1, 0x0, 0, 64, .ro, 0⟩
def Reg.STBL_STAT_BYTES : Row := ⟨0x090080, 0x0, 1, 0x0, 0, 64, .ro, 0⟩
def Reg.STBL_TXTAG_OP : Row := ⟨0x090100, 0x0, 129, 0x8, 0, 2, .rw, 0⟩
def Reg.STBL_TXTAG_TCI_C_TCI : Row := ⟨0x090104, 0x0, 129, 0x8, 0, 16, .rw, 0⟩
def Reg.STBL_TXTAG_TCI_S_TCI : Row := ⟨0x090104, 0x0, 129, 0x8, 16, 16, .rw, 0⟩
def Reg.STBL_SPILL_A_DROPS : Row := ⟨0x090800, 0x0, 17, 0x8, 0, 64, .ro, 0⟩
def Reg.STBL_SPILL_B_DROPS : Row := ⟨0x090900, 0x0, 17, 0x8, 0, 64, .ro, 0⟩
def Reg.STBL_SPILLW_A_DROPS : Row := ⟨0x090A00, 0x0, 6, 0x8, 0, 64, .ro, 0⟩
def Reg.STBL_SPILLW_B_DROPS : Row := ⟨0x090A40, 0x0, 6, 0x8, 0, 64, .ro, 0⟩
def Reg.STBL_RGT_BASE : Row := ⟨0x091000, 0x0, 1024, 0x4, 0, 12, .rw, 0⟩
def Reg.STBL_RGT_SIZE_LOG2 : Row := ⟨0x091000, 0x0, 1024, 0x4, 12, 3, .rw, 0⟩

def Reg.tableSTBL0 : List Row := [Reg.STBL_CMD_OP, Reg.STBL_CMD_STAGE, Reg.STBL_CMD_BUSY, Reg.STBL_CMD_VIEW, Reg.STBL_CMD_STATUS,
  Reg.STBL_IDX, Reg.STBL_DATA, Reg.STBL_CMP, Reg.STBL_OCC_VALID_VALID_CNT, Reg.STBL_OCC_LEARNED_LEARNED_CNT, Reg.STBL_UNK_CTL_ACTION,
  Reg.STBL_UNK_CTL_CPU, Reg.STBL_LEARN_CTL_EN, Reg.STBL_LEARN_CTL_DEST, Reg.STBL_LEARN_CTL_REARM, Reg.STBL_LEARN_CTL_HOLD_SF,
  Reg.STBL_LEARN_CTL_RATE, Reg.STBL_LEARN_BASE_LO, Reg.STBL_LEARN_BASE_HI, Reg.STBL_LEARN_SIZE, Reg.STBL_LEARN_PROD, Reg.STBL_LEARN_CONS,
  Reg.STBL_EXC_CTL_EXC_RING, Reg.STBL_EXC_CTL_MIRROR_RING]
def Reg.tableSTBL1 : List Row := [Reg.STBL_SPILL_CTL_THRESH, Reg.STBL_STAT_IDX, Reg.STBL_STAT_FRAMES, Reg.STBL_STAT_BYTES,
  Reg.STBL_TXTAG_OP, Reg.STBL_TXTAG_TCI_C_TCI, Reg.STBL_TXTAG_TCI_S_TCI, Reg.STBL_SPILL_A_DROPS, Reg.STBL_SPILL_B_DROPS,
  Reg.STBL_SPILLW_A_DROPS, Reg.STBL_SPILLW_B_DROPS, Reg.STBL_RGT_BASE, Reg.STBL_RGT_SIZE_LOG2]
def Reg.tableSTBL : List Row := Reg.tableSTBL0 ++ Reg.tableSTBL1

/-! CLS (07_downstream_classification.md): R72, R189, R192, R194, R202, R203, R204 -/
def Reg.CLS_CMD_OP : Row := ⟨0x0A0000, 0x0, 1, 0x0, 0, 3, .wo, 0⟩
def Reg.CLS_CMD_BUSY : Row := ⟨0x0A0000, 0x0, 1, 0x0, 4, 1, .ro, 0⟩
def Reg.CLS_CMD_STATUS : Row := ⟨0x0A0000, 0x0, 1, 0x0, 8, 8, .ro, 0⟩
def Reg.CLS_IDX : Row := ⟨0x0A0004, 0x0, 1, 0x0, 0, 19, .rw, 0⟩
def Reg.CLS_IDX_BANK : Row := ⟨0x0A0004, 0x0, 1, 0x0, 20, 2, .rw, 0⟩
def Reg.CLS_DATA : Row := ⟨0x0A0010, 0x0, 4, 0x4, 0, 32, .rw, 0⟩
def Reg.CLS_COMMIT_OPEN : Row := ⟨0x0A0020, 0x0, 1, 0x0, 0, 1, .wo, 0⟩
def Reg.CLS_COMMIT : Row := ⟨0x0A0020, 0x0, 1, 0x0, 1, 1, .wo, 0⟩
def Reg.CLS_COMMIT_CANCEL : Row := ⟨0x0A0020, 0x0, 1, 0x0, 2, 1, .wo, 0⟩
def Reg.CLS_COMMIT_VERSION : Row := ⟨0x0A0020, 0x0, 1, 0x0, 8, 8, .rw, 0⟩
def Reg.CLS_COMMIT_STATUS_GROUP : Row := ⟨0x0A0024, 0x0, 1, 0x0, 0, 2, .ro, 0⟩
def Reg.CLS_COMMIT_STATUS_DRAINING : Row := ⟨0x0A0024, 0x0, 1, 0x0, 2, 1, .ro, 0⟩
def Reg.CLS_COMMIT_STATUS_RESULT : Row := ⟨0x0A0024, 0x0, 1, 0x0, 8, 8, .ro, 0⟩
def Reg.CLS_COMMIT_STATUS_CUR_VER : Row := ⟨0x0A0024, 0x0, 1, 0x0, 16, 8, .ro, 0⟩
def Reg.CLS_COMMIT_STATUS_DRAIN_VER : Row := ⟨0x0A0024, 0x0, 1, 0x0, 24, 8, .ro, 0⟩
def Reg.CLS_COMMIT_EFF_LO : Row := ⟨0x0A0028, 0x0, 1, 0x0, 0, 32, .ro, 0⟩
def Reg.CLS_COMMIT_EFF_HI : Row := ⟨0x0A002C, 0x0, 1, 0x0, 0, 16, .ro, 0⟩
def Reg.CLS_STAGE_CNT_STAGED : Row := ⟨0x0A0030, 0x0, 1, 0x0, 0, 13, .ro, 0⟩
def Reg.CLS_DRAIN_IN_FLIGHT : Row := ⟨0x0A0034, 0x0, 1, 0x0, 0, 32, .ro, 0⟩
def Reg.CLS_CNT_COMMITS : Row := ⟨0x0A0100, 0x0, 1, 0x0, 0, 64, .ro, 0⟩
def Reg.CLS_CNT_COMMITS_REFUSED : Row := ⟨0x0A0108, 0x0, 1, 0x0, 0, 64, .ro, 0⟩
def Reg.CLS_CNT_LEARN_RECORDS : Row := ⟨0x0A0110, 0x0, 1, 0x0, 0, 64, .ro, 0⟩
def Reg.CLS_CNT_LEARN_LOST : Row := ⟨0x0A0118, 0x0, 1, 0x0, 0, 64, .ro, 0⟩
def Reg.CLS_CNT_DIVERGE : Row := ⟨0x0A0120, 0x0, 1, 0x0, 0, 64, .ro, 0⟩
def Reg.CLS_CNT_MIRRORS : Row := ⟨0x0A0128, 0x0, 1, 0x0, 0, 64, .ro, 0⟩
def Reg.CLS_CNT_PROC_COPIES : Row := ⟨0x0A0130, 0x0, 1, 0x0, 0, 64, .ro, 0⟩
def Reg.CLS_CNT_FAULT_A : Row := ⟨0x0A0138, 0x0, 1, 0x0, 0, 64, .ro, 0⟩
def Reg.CLS_CNT_FAULT_B : Row := ⟨0x0A0140, 0x0, 1, 0x0, 0, 64, .ro, 0⟩

def Reg.tableCLS0 : List Row := [Reg.CLS_CMD_OP, Reg.CLS_CMD_BUSY, Reg.CLS_CMD_STATUS, Reg.CLS_IDX, Reg.CLS_IDX_BANK, Reg.CLS_DATA,
  Reg.CLS_COMMIT_OPEN, Reg.CLS_COMMIT, Reg.CLS_COMMIT_CANCEL, Reg.CLS_COMMIT_VERSION, Reg.CLS_COMMIT_STATUS_GROUP,
  Reg.CLS_COMMIT_STATUS_DRAINING, Reg.CLS_COMMIT_STATUS_RESULT, Reg.CLS_COMMIT_STATUS_CUR_VER, Reg.CLS_COMMIT_STATUS_DRAIN_VER,
  Reg.CLS_COMMIT_EFF_LO, Reg.CLS_COMMIT_EFF_HI, Reg.CLS_STAGE_CNT_STAGED, Reg.CLS_DRAIN_IN_FLIGHT, Reg.CLS_CNT_COMMITS,
  Reg.CLS_CNT_COMMITS_REFUSED, Reg.CLS_CNT_LEARN_RECORDS, Reg.CLS_CNT_LEARN_LOST, Reg.CLS_CNT_DIVERGE]
def Reg.tableCLS1 : List Row := [Reg.CLS_CNT_MIRRORS, Reg.CLS_CNT_PROC_COPIES, Reg.CLS_CNT_FAULT_A, Reg.CLS_CNT_FAULT_B]
def Reg.tableCLS : List Row := Reg.tableCLS0 ++ Reg.tableCLS1

/-! CIPH (08_line_cipher.md): R72, R212, R219, R222, R223, R226, R230, R233, R236 -/
def Reg.CIPH_CTL_LA_EN : Row := ⟨0x0B0000, 0x0, 1, 0x0, 0, 1, .rw, 0⟩
def Reg.CIPH_STATUS_RNG_FAIL : Row := ⟨0x0B0004, 0x0, 1, 0x0, 0, 1, .ro, 0⟩
def Reg.CIPH_PART_LINE_SLOTS : Row := ⟨0x0B0008, 0x0, 1, 0x0, 0, 10, .rwl, 256⟩
def Reg.CIPH_PART_LOCK : Row := ⟨0x0B0008, 0x0, 1, 0x0, 31, 1, .w1s, 0⟩
def Reg.CIPH_KX_CTL_REFRESH : Row := ⟨0x0B000C, 0x0, 1, 0x0, 0, 2, .wo, 0⟩
def Reg.CIPH_SLOT_CMD_OP : Row := ⟨0x0B0010, 0x0, 1, 0x0, 0, 2, .wo, 0⟩
def Reg.CIPH_SLOT_CMD_BUSY : Row := ⟨0x0B0010, 0x0, 1, 0x0, 4, 1, .ro, 0⟩
def Reg.CIPH_SLOT_CMD_STATUS : Row := ⟨0x0B0010, 0x0, 1, 0x0, 8, 8, .ro, 0⟩
def Reg.CIPH_SLOT_IDX : Row := ⟨0x0B0014, 0x0, 1, 0x0, 0, 9, .rw, 0⟩
def Reg.CIPH_SLOT_INFO_KIND : Row := ⟨0x0B0018, 0x0, 1, 0x0, 0, 2, .ro, 0⟩
def Reg.CIPH_SLOT_INFO_OWNER : Row := ⟨0x0B0018, 0x0, 1, 0x0, 8, 8, .ro, 0⟩
def Reg.CIPH_SLOT_INFO_LOADED : Row := ⟨0x0B0018, 0x0, 1, 0x0, 16, 16, .ro, 0⟩
def Reg.CIPH_GEN_DN_CUR : Row := ⟨0x0B0040, 0x20, 1, 0x0, 0, 2, .ro, 0⟩
def Reg.CIPH_GEN_DN_PEND : Row := ⟨0x0B0040, 0x20, 1, 0x0, 2, 1, .ro, 0⟩
def Reg.CIPH_GEN_DN_NEXT : Row := ⟨0x0B0040, 0x20, 1, 0x0, 3, 2, .ro, 0⟩
def Reg.CIPH_GEN_UP_CUR : Row := ⟨0x0B0040, 0x20, 1, 0x0, 8, 2, .ro, 0⟩
def Reg.CIPH_GEN_UP_PEND : Row := ⟨0x0B0040, 0x20, 1, 0x0, 10, 1, .ro, 0⟩
def Reg.CIPH_GEN_UP_NEXT : Row := ⟨0x0B0040, 0x20, 1, 0x0, 11, 2, .ro, 0⟩
def Reg.CIPH_GEN_EPOCH : Row := ⟨0x0B0040, 0x20, 1, 0x0, 16, 16, .ro, 0⟩
def Reg.CIPH_DN_EFF_LO : Row := ⟨0x0B0044, 0x20, 1, 0x0, 0, 32, .ro, 0⟩
def Reg.CIPH_DN_EFF_HI : Row := ⟨0x0B0048, 0x20, 1, 0x0, 0, 16, .ro, 0⟩
def Reg.CIPH_UP_EFF_LO : Row := ⟨0x0B004C, 0x20, 1, 0x0, 0, 32, .ro, 0⟩
def Reg.CIPH_UP_EFF_HI : Row := ⟨0x0B0050, 0x20, 1, 0x0, 0, 16, .ro, 0⟩
def Reg.CIPH_KX_KX_STATE : Row := ⟨0x0B0054, 0x20, 1, 0x0, 0, 3, .ro, 0⟩
def Reg.CIPH_KX_KX_STATUS : Row := ⟨0x0B0054, 0x20, 1, 0x0, 8, 8, .ro, 0⟩
def Reg.CIPH_HEKEY_HASH : Row := ⟨0x0B0100, 0x40, 12, 0x4, 0, 32, .rwl, 0⟩
def Reg.CIPH_CNT_DN_FRAMES : Row := ⟨0x0B0200, 0x0, 1, 0x0, 0, 64, .ro, 0⟩
def Reg.CIPH_CNT_UP_FRAMES : Row := ⟨0x0B0208, 0x0, 1, 0x0, 0, 64, .ro, 0⟩
def Reg.CIPH_CNT_SB_AUTH_OK : Row := ⟨0x0B0210, 0x0, 1, 0x0, 0, 64, .ro, 0⟩
def Reg.CIPH_CNT_SB_AUTH_FAIL : Row := ⟨0x0B0218, 0x0, 1, 0x0, 0, 64, .ro, 0⟩
def Reg.CIPH_CNT_LA_REQUESTS : Row := ⟨0x0B0220, 0x0, 1, 0x0, 0, 64, .ro, 0⟩
def Reg.CIPH_CNT_LA_BYTES : Row := ⟨0x0B0228, 0x0, 1, 0x0, 0, 64, .ro, 0⟩
def Reg.CIPH_CNT_LA_AUTH_FAIL : Row := ⟨0x0B0230, 0x0, 1, 0x0, 0, 64, .ro, 0⟩
def Reg.CIPH_CNT_DENIED : Row := ⟨0x0B0238, 0x0, 1, 0x0, 0, 64, .ro, 0⟩
def Reg.CIPH_CNT_KX_DONE : Row := ⟨0x0B0240, 0x0, 1, 0x0, 0, 64, .ro, 0⟩
def Reg.CIPH_CNT_KX_FAIL : Row := ⟨0x0B0248, 0x0, 1, 0x0, 0, 64, .ro, 0⟩
def Reg.CIPH_CNT_KEY_LOADS : Row := ⟨0x0B0250, 0x0, 1, 0x0, 0, 64, .ro, 0⟩
def Reg.CIPH_CNT_KEYS_ERASED : Row := ⟨0x0B0258, 0x0, 1, 0x0, 0, 64, .ro, 0⟩
def Reg.CIPH_CNT_NOKEY_TX : Row := ⟨0x0B0260, 0x0, 1, 0x0, 0, 64, .ro, 0⟩
def Reg.CIPH_USLOT_KEY_SLOT : Row := ⟨0x0B0400, 0x0, 128, 0x4, 0, 9, .rw, 0⟩
def Reg.CIPH_USLOT_ENC : Row := ⟨0x0B0400, 0x0, 128, 0x4, 9, 1, .rw, 0⟩

def Reg.tableCIPH0 : List Row := [Reg.CIPH_CTL_LA_EN, Reg.CIPH_STATUS_RNG_FAIL, Reg.CIPH_PART_LINE_SLOTS, Reg.CIPH_PART_LOCK,
  Reg.CIPH_KX_CTL_REFRESH, Reg.CIPH_SLOT_CMD_OP, Reg.CIPH_SLOT_CMD_BUSY, Reg.CIPH_SLOT_CMD_STATUS, Reg.CIPH_SLOT_IDX,
  Reg.CIPH_SLOT_INFO_KIND, Reg.CIPH_SLOT_INFO_OWNER, Reg.CIPH_SLOT_INFO_LOADED, Reg.CIPH_GEN_DN_CUR, Reg.CIPH_GEN_DN_PEND,
  Reg.CIPH_GEN_DN_NEXT, Reg.CIPH_GEN_UP_CUR, Reg.CIPH_GEN_UP_PEND, Reg.CIPH_GEN_UP_NEXT, Reg.CIPH_GEN_EPOCH, Reg.CIPH_DN_EFF_LO,
  Reg.CIPH_DN_EFF_HI, Reg.CIPH_UP_EFF_LO, Reg.CIPH_UP_EFF_HI, Reg.CIPH_KX_KX_STATE]
def Reg.tableCIPH1 : List Row := [Reg.CIPH_KX_KX_STATUS, Reg.CIPH_HEKEY_HASH, Reg.CIPH_CNT_DN_FRAMES, Reg.CIPH_CNT_UP_FRAMES,
  Reg.CIPH_CNT_SB_AUTH_OK, Reg.CIPH_CNT_SB_AUTH_FAIL, Reg.CIPH_CNT_LA_REQUESTS, Reg.CIPH_CNT_LA_BYTES, Reg.CIPH_CNT_LA_AUTH_FAIL,
  Reg.CIPH_CNT_DENIED, Reg.CIPH_CNT_KX_DONE, Reg.CIPH_CNT_KX_FAIL, Reg.CIPH_CNT_KEY_LOADS, Reg.CIPH_CNT_KEYS_ERASED, Reg.CIPH_CNT_NOKEY_TX,
  Reg.CIPH_USLOT_KEY_SLOT, Reg.CIPH_USLOT_ENC]
def Reg.tableCIPH : List Row := Reg.tableCIPH0 ++ Reg.tableCIPH1

/-! SLU (09_sluice_lanes.md): R72, R237, R239, R241, R243, R244, R246, R247, R248, R249 -/
def Reg.SLU_CTL_EN : Row := ⟨0x0C0000, 0x0, 1, 0x0, 0, 1, .rw, 0⟩  -- reset: fw
def Reg.SLU_STATUS_DN_PAGE : Row := ⟨0x0C0004, 0x0, 1, 0x0, 0, 1, .ro, 0⟩
def Reg.SLU_STATUS_UP_PAGE : Row := ⟨0x0C0004, 0x0, 1, 0x0, 1, 1, .ro, 0⟩
def Reg.SLU_STATUS_SWAP_PEND : Row := ⟨0x0C0004, 0x0, 1, 0x0, 2, 1, .ro, 0⟩
def Reg.SLU_STATUS_LEG : Row := ⟨0x0C0004, 0x0, 1, 0x0, 3, 1, .ro, 0⟩
def Reg.SLU_STATUS_FAIL : Row := ⟨0x0C0004, 0x0, 1, 0x0, 4, 1, .ro, 0⟩
def Reg.SLU_STATUS_MISMATCH : Row := ⟨0x0C0004, 0x0, 1, 0x0, 5, 3, .w1c, 0⟩
def Reg.SLU_LAT_DN_LAT_NS : Row := ⟨0x0C0008, 0x0, 1, 0x0, 0, 16, .ro, 20000⟩
def Reg.SLU_LAT_UP_LEAD_NS : Row := ⟨0x0C0008, 0x0, 1, 0x0, 16, 16, .ro, 50000⟩
def Reg.SLU_SWAP_CTL_REQ : Row := ⟨0x0C0010, 0x0, 1, 0x0, 0, 1, .wo, 0⟩
def Reg.SLU_SWAP_CTL_DN : Row := ⟨0x0C0010, 0x0, 1, 0x0, 1, 1, .rw, 0⟩
def Reg.SLU_SWAP_CTL_UP : Row := ⟨0x0C0010, 0x0, 1, 0x0, 2, 1, .rw, 0⟩
def Reg.SLU_SWAP_CTL_CANCEL : Row := ⟨0x0C0010, 0x0, 1, 0x0, 3, 1, .wo, 0⟩
def Reg.SLU_SWAP_CTL_RESULT : Row := ⟨0x0C0010, 0x0, 1, 0x0, 8, 8, .ro, 0⟩
def Reg.SLU_SWAP_SFC_LO_EFF_LO : Row := ⟨0x0C0014, 0x0, 1, 0x0, 0, 32, .rw, 0⟩
def Reg.SLU_SWAP_SFC_HI_EFF_HI : Row := ⟨0x0C0018, 0x0, 1, 0x0, 0, 16, .rw, 0⟩
def Reg.SLU_CM_CMD_OP : Row := ⟨0x0C0020, 0x0, 1, 0x0, 0, 2, .wo, 0⟩
def Reg.SLU_CM_CMD_DIR : Row := ⟨0x0C0020, 0x0, 1, 0x0, 2, 1, .wo, 0⟩
def Reg.SLU_CM_CMD_PAGE : Row := ⟨0x0C0020, 0x0, 1, 0x0, 3, 1, .wo, 0⟩
def Reg.SLU_CM_CMD_BUSY : Row := ⟨0x0C0020, 0x0, 1, 0x0, 4, 1, .ro, 0⟩
def Reg.SLU_CM_CMD_STATUS : Row := ⟨0x0C0020, 0x0, 1, 0x0, 8, 8, .ro, 0⟩
def Reg.SLU_CM_IDX : Row := ⟨0x0C0024, 0x0, 1, 0x0, 0, 12, .rw, 0⟩
def Reg.SLU_CM_DATA : Row := ⟨0x0C0028, 0x0, 1, 0x0, 0, 32, .rw, 0⟩
def Reg.SLU_GRP_ACTION : Row := ⟨0x0C0040, 0x0, 16, 0x4, 0, 2, .rw, 0⟩
def Reg.SLU_GRP_FAILED : Row := ⟨0x0C0040, 0x0, 16, 0x4, 2, 1, .ro, 0⟩
def Reg.SLU_DLANE_CTL_EN : Row := ⟨0x0C1000, 0x0, 128, 0x20, 0, 1, .rw, 0⟩
def Reg.SLU_DLANE_CTL_WIDTH : Row := ⟨0x0C1000, 0x0, 128, 0x20, 1, 7, .rw, 1⟩
def Reg.SLU_DLANE_CTL_GROUP : Row := ⟨0x0C1000, 0x0, 128, 0x20, 8, 4, .rw, 0⟩
def Reg.SLU_DLANE_CTL_OWNER : Row := ⟨0x0C1000, 0x0, 128, 0x20, 16, 8, .rw, 0⟩
def Reg.SLU_DLANE_CTL_WERR : Row := ⟨0x0C1000, 0x0, 128, 0x20, 24, 1, .w1c, 0⟩
def Reg.SLU_DLANE_BASE_LO : Row := ⟨0x0C1004, 0x0, 128, 0x20, 0, 32, .rw, 0⟩
def Reg.SLU_DLANE_BASE_HI : Row := ⟨0x0C1008, 0x0, 128, 0x20, 0, 32, .rw, 0⟩
def Reg.SLU_DLANE_SIZE : Row := ⟨0x0C100C, 0x0, 128, 0x20, 0, 5, .rw, 6⟩
def Reg.SLU_DLANE_PROD : Row := ⟨0x0C1010, 0x0, 128, 0x20, 0, 16, .ro, 0⟩
def Reg.SLU_DLANE_CONS : Row := ⟨0x0C1014, 0x0, 128, 0x20, 0, 16, .rw, 0⟩
def Reg.SLU_ULANE_CTL_EN : Row := ⟨0x0C2000, 0x0, 128, 0x20, 0, 1, .rw, 0⟩
def Reg.SLU_ULANE_CTL_WIDTH : Row := ⟨0x0C2000, 0x0, 128, 0x20, 1, 7, .rw, 1⟩
def Reg.SLU_ULANE_CTL_OWNER : Row := ⟨0x0C2000, 0x0, 128, 0x20, 16, 8, .rw, 0⟩
def Reg.SLU_ULANE_CTL_WERR : Row := ⟨0x0C2000, 0x0, 128, 0x20, 24, 1, .w1c, 0⟩
def Reg.SLU_ULANE_BASE_LO : Row := ⟨0x0C2004, 0x0, 128, 0x20, 0, 32, .rw, 0⟩
def Reg.SLU_ULANE_BASE_HI : Row := ⟨0x0C2008, 0x0, 128, 0x20, 0, 32, .rw, 0⟩
def Reg.SLU_ULANE_SIZE : Row := ⟨0x0C200C, 0x0, 128, 0x20, 0, 5, .rw, 6⟩
def Reg.SLU_ULANE_PROD : Row := ⟨0x0C2010, 0x0, 128, 0x20, 0, 16, .rw, 0⟩
def Reg.SLU_ULANE_CONS : Row := ⟨0x0C2014, 0x0, 128, 0x20, 0, 16, .ro, 0⟩
def Reg.SLU_CNT_DN_RX : Row := ⟨0x0C3000, 0x0, 1, 0x0, 0, 64, .ro, 0⟩
def Reg.SLU_CNT_DN_MAPPED : Row := ⟨0x0C3008, 0x0, 1, 0x0, 0, 64, .ro, 0⟩
def Reg.SLU_CNT_DN_UNMAPPED : Row := ⟨0x0C3010, 0x0, 1, 0x0, 0, 64, .ro, 0⟩
def Reg.SLU_CNT_DN_ERR : Row := ⟨0x0C3018, 0x0, 1, 0x0, 0, 64, .ro, 0⟩
def Reg.SLU_CNT_DN_SHORT : Row := ⟨0x0C3020, 0x0, 1, 0x0, 0, 64, .ro, 0⟩
def Reg.SLU_CNT_DN_OVERRUN : Row := ⟨0x0C3028, 0x0, 1, 0x0, 0, 64, .ro, 0⟩
def Reg.SLU_CNT_UP_GRANTED : Row := ⟨0x0C3030, 0x0, 1, 0x0, 0, 64, .ro, 0⟩
def Reg.SLU_CNT_UP_SENT : Row := ⟨0x0C3038, 0x0, 1, 0x0, 0, 64, .ro, 0⟩
def Reg.SLU_CNT_UP_UNMAPPED : Row := ⟨0x0C3040, 0x0, 1, 0x0, 0, 64, .ro, 0⟩
def Reg.SLU_CNT_UP_MAPPED : Row := ⟨0x0C3048, 0x0, 1, 0x0, 0, 64, .ro, 0⟩
def Reg.SLU_CNT_UP_SHORT : Row := ⟨0x0C3050, 0x0, 1, 0x0, 0, 64, .ro, 0⟩
def Reg.SLU_CNT_UP_UNDERRUN : Row := ⟨0x0C3058, 0x0, 1, 0x0, 0, 64, .ro, 0⟩
def Reg.SLU_CNT_UP_FETCH_FAIL : Row := ⟨0x0C3060, 0x0, 1, 0x0, 0, 64, .ro, 0⟩
def Reg.SLU_CNT_UP_U1 : Row := ⟨0x0C3068, 0x0, 1, 0x0, 0, 64, .ro, 0⟩
def Reg.SLU_CNT_SWAPS : Row := ⟨0x0C3070, 0x0, 1, 0x0, 0, 64, .ro, 0⟩
def Reg.SLU_CNT_AIS_RECORDS : Row := ⟨0x0C3078, 0x0, 1, 0x0, 0, 64, .ro, 0⟩
def Reg.SLU_CNT_AUD_FAIL : Row := ⟨0x0C3080, 0x0, 1, 0x0, 0, 64, .ro, 0⟩

def Reg.tableSLU0 : List Row := [Reg.SLU_CTL_EN, Reg.SLU_STATUS_DN_PAGE, Reg.SLU_STATUS_UP_PAGE, Reg.SLU_STATUS_SWAP_PEND,
  Reg.SLU_STATUS_LEG, Reg.SLU_STATUS_FAIL, Reg.SLU_STATUS_MISMATCH, Reg.SLU_LAT_DN_LAT_NS, Reg.SLU_LAT_UP_LEAD_NS, Reg.SLU_SWAP_CTL_REQ,
  Reg.SLU_SWAP_CTL_DN, Reg.SLU_SWAP_CTL_UP, Reg.SLU_SWAP_CTL_CANCEL, Reg.SLU_SWAP_CTL_RESULT, Reg.SLU_SWAP_SFC_LO_EFF_LO,
  Reg.SLU_SWAP_SFC_HI_EFF_HI, Reg.SLU_CM_CMD_OP, Reg.SLU_CM_CMD_DIR, Reg.SLU_CM_CMD_PAGE, Reg.SLU_CM_CMD_BUSY, Reg.SLU_CM_CMD_STATUS,
  Reg.SLU_CM_IDX, Reg.SLU_CM_DATA, Reg.SLU_GRP_ACTION]
def Reg.tableSLU1 : List Row := [Reg.SLU_GRP_FAILED, Reg.SLU_DLANE_CTL_EN, Reg.SLU_DLANE_CTL_WIDTH, Reg.SLU_DLANE_CTL_GROUP,
  Reg.SLU_DLANE_CTL_OWNER, Reg.SLU_DLANE_CTL_WERR, Reg.SLU_DLANE_BASE_LO, Reg.SLU_DLANE_BASE_HI, Reg.SLU_DLANE_SIZE, Reg.SLU_DLANE_PROD,
  Reg.SLU_DLANE_CONS, Reg.SLU_ULANE_CTL_EN, Reg.SLU_ULANE_CTL_WIDTH, Reg.SLU_ULANE_CTL_OWNER, Reg.SLU_ULANE_CTL_WERR, Reg.SLU_ULANE_BASE_LO,
  Reg.SLU_ULANE_BASE_HI, Reg.SLU_ULANE_SIZE, Reg.SLU_ULANE_PROD, Reg.SLU_ULANE_CONS, Reg.SLU_CNT_DN_RX, Reg.SLU_CNT_DN_MAPPED,
  Reg.SLU_CNT_DN_UNMAPPED, Reg.SLU_CNT_DN_ERR]
def Reg.tableSLU2 : List Row := [Reg.SLU_CNT_DN_SHORT, Reg.SLU_CNT_DN_OVERRUN, Reg.SLU_CNT_UP_GRANTED, Reg.SLU_CNT_UP_SENT,
  Reg.SLU_CNT_UP_UNMAPPED, Reg.SLU_CNT_UP_MAPPED, Reg.SLU_CNT_UP_SHORT, Reg.SLU_CNT_UP_UNDERRUN, Reg.SLU_CNT_UP_FETCH_FAIL,
  Reg.SLU_CNT_UP_U1, Reg.SLU_CNT_SWAPS, Reg.SLU_CNT_AIS_RECORDS, Reg.SLU_CNT_AUD_FAIL]
def Reg.tableSLU : List Row := Reg.tableSLU0 ++ Reg.tableSLU1 ++ Reg.tableSLU2

/-! PROT (10_protection_and_monitoring.md): R72, R254, R257, R258, R259, R261, R264, R275 -/
def Reg.PROT_CTL_REVERT : Row := ⟨0x0D0000, 0x0, 1, 0x0, 0, 1, .rw, 0⟩
def Reg.PROT_CTL_PREF : Row := ⟨0x0D0000, 0x0, 1, 0x0, 1, 1, .rw, 0⟩
def Reg.PROT_CTL_SD_SWITCH : Row := ⟨0x0D0000, 0x0, 1, 0x0, 2, 1, .rw, 0⟩
def Reg.PROT_CTL_FW_SWITCH : Row := ⟨0x0D0000, 0x0, 1, 0x0, 3, 1, .rw, 0⟩
def Reg.PROT_CTL_HOLDOFF : Row := ⟨0x0D0000, 0x0, 1, 0x0, 8, 7, .rw, 0⟩
def Reg.PROT_CTL_WTR_MIN : Row := ⟨0x0D0000, 0x0, 1, 0x0, 16, 6, .rw, 5⟩
def Reg.PROT_AUTO_CTL_MASK : Row := ⟨0x0D0004, 0x0, 1, 0x0, 0, 6, .rw, 63⟩
def Reg.PROT_CMD_OP : Row := ⟨0x0D0008, 0x0, 1, 0x0, 0, 3, .wo, 0⟩
def Reg.PROT_CMD_BUSY : Row := ⟨0x0D0008, 0x0, 1, 0x0, 4, 1, .ro, 0⟩
def Reg.PROT_CMD_RESULT : Row := ⟨0x0D0008, 0x0, 1, 0x0, 8, 8, .ro, 0⟩
def Reg.PROT_STATUS_ACTIVE : Row := ⟨0x0D000C, 0x0, 1, 0x0, 0, 1, .ro, 0⟩
def Reg.PROT_STATUS_SWITCHING : Row := ⟨0x0D000C, 0x0, 1, 0x0, 1, 1, .ro, 0⟩
def Reg.PROT_STATUS_HOLDOFF : Row := ⟨0x0D000C, 0x0, 1, 0x0, 2, 1, .ro, 0⟩
def Reg.PROT_STATUS_WTR : Row := ⟨0x0D000C, 0x0, 1, 0x0, 3, 1, .ro, 0⟩
def Reg.PROT_STATUS_FORCED : Row := ⟨0x0D000C, 0x0, 1, 0x0, 4, 2, .ro, 0⟩
def Reg.PROT_STATUS_CMD_PEND : Row := ⟨0x0D000C, 0x0, 1, 0x0, 6, 1, .ro, 0⟩
def Reg.PROT_STATUS_NO_PROT : Row := ⟨0x0D000C, 0x0, 1, 0x0, 7, 1, .ro, 0⟩
def Reg.PROT_STATUS_AVAIL_A : Row := ⟨0x0D000C, 0x0, 1, 0x0, 8, 1, .ro, 0⟩
def Reg.PROT_STATUS_AVAIL_B : Row := ⟨0x0D000C, 0x0, 1, 0x0, 9, 1, .ro, 0⟩
def Reg.PROT_STATUS_LAST_CAUSE : Row := ⟨0x0D000C, 0x0, 1, 0x0, 12, 4, .ro, 0⟩
def Reg.PROT_WTR_LEFT_SECONDS : Row := ⟨0x0D0010, 0x0, 1, 0x0, 0, 12, .ro, 0⟩
def Reg.PROT_LAST_SFC_LO : Row := ⟨0x0D0014, 0x0, 1, 0x0, 0, 32, .ro, 0⟩
def Reg.PROT_LAST_SFC_HI : Row := ⟨0x0D0018, 0x0, 1, 0x0, 0, 16, .ro, 0⟩
def Reg.PROT_LOS_CTL_LEVEL : Row := ⟨0x0D0020, 0x0, 1, 0x0, 0, 7, .rw, 6⟩
def Reg.PROT_LOS_CTL_DET_US : Row := ⟨0x0D0020, 0x0, 1, 0x0, 8, 8, .rw, 4⟩
def Reg.PROT_LOS_CTL_LOS_CLR_FR : Row := ⟨0x0D0020, 0x0, 1, 0x0, 16, 8, .rw, 8⟩
def Reg.PROT_LOF_CTL_CLR_FR : Row := ⟨0x0D0024, 0x0, 1, 0x0, 0, 8, .rw, 8⟩
def Reg.PROT_LOSY_CTL_ENTRY_FR : Row := ⟨0x0D0028, 0x0, 1, 0x0, 0, 4, .rw, 2⟩
def Reg.PROT_LOSY_CTL_CLR_FR : Row := ⟨0x0D0028, 0x0, 1, 0x0, 8, 4, .rw, 8⟩
def Reg.PROT_SF_CTL_SF_CW : Row := ⟨0x0D002C, 0x0, 1, 0x0, 0, 16, .rw, 60⟩
def Reg.PROT_SF_CTL_SF_CLR : Row := ⟨0x0D002C, 0x0, 1, 0x0, 16, 8, .rw, 10⟩
def Reg.PROT_SD_CW : Row := ⟨0x0D0030, 0x0, 1, 0x0, 0, 32, .rw, 6⟩
def Reg.PROT_SD_WIN : Row := ⟨0x0D0034, 0x0, 1, 0x0, 0, 16, .rw, 1000⟩
def Reg.PROT_RR_STATUS_REASONS : Row := ⟨0x0D0040, 0x0, 1, 0x0, 0, 6, .ro, 0⟩
def Reg.PROT_RR_DETAIL_LEG : Row := ⟨0x0D0044, 0x0, 1, 0x0, 0, 1, .ro, 0⟩
def Reg.PROT_RR_DETAIL_MEM_ID : Row := ⟨0x0D0044, 0x0, 1, 0x0, 8, 8, .ro, 0⟩
def Reg.PROT_DEF_LOS : Row := ⟨0x0D0100, 0x10, 1, 0x0, 0, 4, .ro, 0⟩
def Reg.PROT_DEF_LOF : Row := ⟨0x0D0100, 0x10, 1, 0x0, 4, 4, .ro, 0⟩
def Reg.PROT_DEF_SF : Row := ⟨0x0D0100, 0x10, 1, 0x0, 8, 4, .ro, 0⟩
def Reg.PROT_DEF_SD : Row := ⟨0x0D0100, 0x10, 1, 0x0, 12, 4, .ro, 0⟩
def Reg.PROT_DEF_LOSS_OF_SYNC : Row := ⟨0x0D0100, 0x10, 1, 0x0, 16, 1, .ro, 0⟩
def Reg.PROT_DEF_RNG_LOSS : Row := ⟨0x0D0100, 0x10, 1, 0x0, 17, 1, .ro, 0⟩
def Reg.PROT_DEF_ROGUE : Row := ⟨0x0D0100, 0x10, 1, 0x0, 18, 1, .ro, 0⟩
def Reg.PROT_DEF_ESTOP : Row := ⟨0x0D0100, 0x10, 1, 0x0, 19, 1, .ro, 0⟩
def Reg.PROT_DEF_AVAILABLE : Row := ⟨0x0D0100, 0x10, 1, 0x0, 20, 1, .ro, 0⟩
def Reg.PROT_DEF_LATCHED : Row := ⟨0x0D0104, 0x10, 1, 0x0, 0, 20, .w1c, 0⟩
def Reg.PROT_CNT_SWITCHES : Row := ⟨0x0D0200, 0x0, 8, 0x8, 0, 64, .ro, 0⟩
def Reg.PROT_CNT2_REFUSED : Row := ⟨0x0D0240, 0x0, 1, 0x0, 0, 64, .ro, 0⟩
def Reg.PROT_CNT2_HOLDOFF_ABANDONED : Row := ⟨0x0D0248, 0x0, 1, 0x0, 0, 64, .ro, 0⟩
def Reg.PROT_CNT2_WTR_CANCELLED : Row := ⟨0x0D0250, 0x0, 1, 0x0, 0, 64, .ro, 0⟩
def Reg.PROT_CNT2_NO_PROT_ENTRIES : Row := ⟨0x0D0258, 0x0, 1, 0x0, 0, 64, .ro, 0⟩

def Reg.tablePROT0 : List Row := [Reg.PROT_CTL_REVERT, Reg.PROT_CTL_PREF, Reg.PROT_CTL_SD_SWITCH, Reg.PROT_CTL_FW_SWITCH,
  Reg.PROT_CTL_HOLDOFF, Reg.PROT_CTL_WTR_MIN, Reg.PROT_AUTO_CTL_MASK, Reg.PROT_CMD_OP, Reg.PROT_CMD_BUSY, Reg.PROT_CMD_RESULT,
  Reg.PROT_STATUS_ACTIVE, Reg.PROT_STATUS_SWITCHING, Reg.PROT_STATUS_HOLDOFF, Reg.PROT_STATUS_WTR, Reg.PROT_STATUS_FORCED,
  Reg.PROT_STATUS_CMD_PEND, Reg.PROT_STATUS_NO_PROT, Reg.PROT_STATUS_AVAIL_A, Reg.PROT_STATUS_AVAIL_B, Reg.PROT_STATUS_LAST_CAUSE,
  Reg.PROT_WTR_LEFT_SECONDS, Reg.PROT_LAST_SFC_LO, Reg.PROT_LAST_SFC_HI, Reg.PROT_LOS_CTL_LEVEL]
def Reg.tablePROT1 : List Row := [Reg.PROT_LOS_CTL_DET_US, Reg.PROT_LOS_CTL_LOS_CLR_FR, Reg.PROT_LOF_CTL_CLR_FR, Reg.PROT_LOSY_CTL_ENTRY_FR,
  Reg.PROT_LOSY_CTL_CLR_FR, Reg.PROT_SF_CTL_SF_CW, Reg.PROT_SF_CTL_SF_CLR, Reg.PROT_SD_CW, Reg.PROT_SD_WIN, Reg.PROT_RR_STATUS_REASONS,
  Reg.PROT_RR_DETAIL_LEG, Reg.PROT_RR_DETAIL_MEM_ID, Reg.PROT_DEF_LOS, Reg.PROT_DEF_LOF, Reg.PROT_DEF_SF, Reg.PROT_DEF_SD,
  Reg.PROT_DEF_LOSS_OF_SYNC, Reg.PROT_DEF_RNG_LOSS, Reg.PROT_DEF_ROGUE, Reg.PROT_DEF_ESTOP, Reg.PROT_DEF_AVAILABLE, Reg.PROT_DEF_LATCHED,
  Reg.PROT_CNT_SWITCHES, Reg.PROT_CNT2_REFUSED]
def Reg.tablePROT2 : List Row := [Reg.PROT_CNT2_HOLDOFF_ABANDONED, Reg.PROT_CNT2_WTR_CANCELLED, Reg.PROT_CNT2_NO_PROT_ENTRIES]
def Reg.tablePROT : List Row := Reg.tablePROT0 ++ Reg.tablePROT1 ++ Reg.tablePROT2

/-! PM (10_protection_and_monitoring.md): R72, R268, R269, R271, R272, R273 -/
def Reg.PM_CTL_EN : Row := ⟨0x0E0000, 0x0, 1, 0x0, 0, 1, .rw, 1⟩
def Reg.PM_CTL_ALIGN_OFS : Row := ⟨0x0E0000, 0x0, 1, 0x0, 16, 16, .rw, 0⟩
def Reg.PM_LEG_STATE : Row := ⟨0x0E0004, 0x4, 1, 0x0, 0, 2, .ro, 1⟩
def Reg.PM_LEG_TEST : Row := ⟨0x0E0004, 0x4, 1, 0x0, 2, 1, .rw, 0⟩
def Reg.PM_LEG_UNAVAIL : Row := ⟨0x0E0004, 0x4, 1, 0x0, 3, 5, .ro, 0⟩
def Reg.PM_BIN_SEL_LEG : Row := ⟨0x0E0010, 0x0, 1, 0x0, 0, 1, .rw, 0⟩
def Reg.PM_BIN_SEL_WAVE : Row := ⟨0x0E0010, 0x0, 1, 0x0, 1, 3, .rw, 0⟩
def Reg.PM_BIN_SEL_KIND : Row := ⟨0x0E0010, 0x0, 1, 0x0, 4, 1, .rw, 0⟩
def Reg.PM_BIN_SEL_INDEX : Row := ⟨0x0E0010, 0x0, 1, 0x0, 8, 7, .rw, 0⟩
def Reg.PM_BIN_SEL_BUSY : Row := ⟨0x0E0010, 0x0, 1, 0x0, 16, 1, .ro, 0⟩
def Reg.PM_BIN_DATA : Row := ⟨0x0E0020, 0x0, 16, 0x4, 0, 32, .ro, 0⟩
def Reg.PM_TCA_THRESH : Row := ⟨0x0E0080, 0x0, 6, 0x4, 0, 32, .rw, 0⟩
def Reg.PM_TCA_STATUS_COUNTER : Row := ⟨0x0E00A0, 0x4, 1, 0x0, 0, 6, .w1c, 0⟩
def Reg.PM_TCA_STATUS_WAVE : Row := ⟨0x0E00A0, 0x4, 1, 0x0, 6, 6, .w1c, 0⟩
def Reg.PM_SEC_ES : Row := ⟨0x0E0400, 0x100, 5, 0x20, 0, 64, .ro, 0⟩
def Reg.PM_SEC_SES : Row := ⟨0x0E0408, 0x100, 5, 0x20, 0, 64, .ro, 0⟩
def Reg.PM_SEC_UAS : Row := ⟨0x0E0410, 0x100, 5, 0x20, 0, 64, .ro, 0⟩
def Reg.PM_SEC_SECONDS : Row := ⟨0x0E0418, 0x100, 5, 0x20, 0, 64, .ro, 0⟩
def Reg.PM_CNT_BINS_15M : Row := ⟨0x0E0800, 0x0, 1, 0x0, 0, 64, .ro, 0⟩
def Reg.PM_CNT_BINS_24H : Row := ⟨0x0E0808, 0x0, 1, 0x0, 0, 64, .ro, 0⟩
def Reg.PM_CNT_TCA_EVENTS : Row := ⟨0x0E0810, 0x0, 1, 0x0, 0, 64, .ro, 0⟩

def Reg.tablePM0 : List Row := [Reg.PM_CTL_EN, Reg.PM_CTL_ALIGN_OFS, Reg.PM_LEG_STATE, Reg.PM_LEG_TEST, Reg.PM_LEG_UNAVAIL,
  Reg.PM_BIN_SEL_LEG, Reg.PM_BIN_SEL_WAVE, Reg.PM_BIN_SEL_KIND, Reg.PM_BIN_SEL_INDEX, Reg.PM_BIN_SEL_BUSY, Reg.PM_BIN_DATA,
  Reg.PM_TCA_THRESH, Reg.PM_TCA_STATUS_COUNTER, Reg.PM_TCA_STATUS_WAVE, Reg.PM_SEC_ES, Reg.PM_SEC_SES, Reg.PM_SEC_UAS, Reg.PM_SEC_SECONDS,
  Reg.PM_CNT_BINS_15M, Reg.PM_CNT_BINS_24H, Reg.PM_CNT_TCA_EVENTS]
def Reg.tablePM : List Row := Reg.tablePM0

/-! OPT (15_optical_modules.md): R72, R390, R391, R394, R395, R396, R398, R400, R402, R403, R404, R405 -/
def Reg.OPT_CTL_LANES_EN : Row := ⟨0x0F0000, 0x1000, 1, 0x0, 0, 1, .rw, 0⟩
def Reg.OPT_CTL_AUTO_RETRY : Row := ⟨0x0F0000, 0x1000, 1, 0x0, 1, 1, .rw, 1⟩
def Reg.OPT_CTL_LOCK_MS : Row := ⟨0x0F0000, 0x1000, 1, 0x0, 4, 4, .rw, 5⟩
def Reg.OPT_STATUS_PRESENT : Row := ⟨0x0F0004, 0x1000, 1, 0x0, 0, 1, .ro, 0⟩
def Reg.OPT_STATUS_ID_VALID : Row := ⟨0x0F0004, 0x1000, 1, 0x0, 1, 1, .ro, 0⟩
def Reg.OPT_STATUS_BRINGUP : Row := ⟨0x0F0004, 0x1000, 1, 0x0, 2, 2, .ro, 0⟩
def Reg.OPT_STATUS_CDR_LOCK : Row := ⟨0x0F0004, 0x1000, 1, 0x0, 4, 4, .ro, 0⟩
def Reg.OPT_STATUS_RXOVL : Row := ⟨0x0F0004, 0x1000, 1, 0x0, 8, 4, .w1c, 0⟩
def Reg.OPT_STATUS_HIST_UNKNOWN : Row := ⟨0x0F0004, 0x1000, 1, 0x0, 12, 1, .ro, 0⟩
def Reg.OPT_STATUS_FAILS : Row := ⟨0x0F0004, 0x1000, 1, 0x0, 13, 2, .ro, 0⟩
def Reg.OPT_LANE_POL : Row := ⟨0x0F0010, 0x1000, 6, 0x4, 0, 1, .rw, 0⟩  -- reset: fw
def Reg.OPT_LANE_MODE : Row := ⟨0x0F0010, 0x1000, 6, 0x4, 1, 3, .ro, 0⟩
def Reg.OPT_DSK_SLIP : Row := ⟨0x0F0030, 0x1000, 4, 0x4, 0, 6, .rw, 0⟩
def Reg.OPT_DSK_CAND_OFS : Row := ⟨0x0F0030, 0x1000, 4, 0x4, 8, 6, .ro, 0⟩
def Reg.OPT_DSK_CAND_VALID : Row := ⟨0x0F0030, 0x1000, 4, 0x4, 14, 1, .ro, 0⟩
def Reg.OPT_DSK_DSK_WORDS : Row := ⟨0x0F0030, 0x1000, 4, 0x4, 16, 8, .ro, 0⟩
def Reg.OPT_DSK_CMD_REHUNT : Row := ⟨0x0F0040, 0x1000, 1, 0x0, 0, 4, .wo, 0⟩
def Reg.OPT_DSK_CMD_ALIGNED : Row := ⟨0x0F0040, 0x1000, 1, 0x0, 4, 1, .ro, 0⟩
def Reg.OPT_TXFFE_PRE : Row := ⟨0x0F0048, 0x1000, 2, 0x4, 0, 6, .rw, 0⟩  -- reset: fw
def Reg.OPT_TXFFE_MAIN : Row := ⟨0x0F0048, 0x1000, 2, 0x4, 8, 7, .rw, 0⟩  -- reset: fw
def Reg.OPT_TXFFE_POST : Row := ⟨0x0F0048, 0x1000, 2, 0x4, 16, 6, .rw, 0⟩  -- reset: fw
def Reg.OPT_OVL_CTL_THRESH : Row := ⟨0x0F0050, 0x1000, 1, 0x0, 0, 8, .rw, 16⟩
def Reg.OPT_BUS_CTL_FAST : Row := ⟨0x0F0054, 0x1000, 1, 0x0, 0, 1, .ro, 0⟩
def Reg.OPT_BUS_CTL_TELEM_MS : Row := ⟨0x0F0054, 0x1000, 1, 0x0, 4, 12, .rw, 100⟩
def Reg.OPT_SAFE_FAULT : Row := ⟨0x0F0058, 0x1000, 1, 0x0, 0, 1, .ro, 0⟩
def Reg.OPT_SAFE_CAUSE : Row := ⟨0x0F0058, 0x1000, 1, 0x0, 1, 4, .ro, 0⟩
def Reg.OPT_ID_VENDOR : Row := ⟨0x0F0100, 0x1000, 4, 0x4, 0, 32, .ro, 0⟩
def Reg.OPT_ID_PART : Row := ⟨0x0F0110, 0x1000, 4, 0x4, 0, 32, .ro, 0⟩
def Reg.OPT_ID_SERIAL : Row := ⟨0x0F0120, 0x1000, 4, 0x4, 0, 32, .ro, 0⟩
def Reg.OPT_ID_REV : Row := ⟨0x0F0130, 0x1000, 1, 0x0, 0, 16, .ro, 0⟩
def Reg.OPT_ID_DATE : Row := ⟨0x0F0134, 0x1000, 2, 0x4, 0, 32, .ro, 0⟩
def Reg.OPT_ID_CMIS_CMIS_REV : Row := ⟨0x0F013C, 0x1000, 1, 0x0, 0, 8, .ro, 0⟩
def Reg.OPT_TELEM_TEMP_MOD_TEMP : Row := ⟨0x0F0140, 0x1000, 1, 0x0, 0, 16, .ro, 0⟩
def Reg.OPT_TELEM_LASER_LASER_T : Row := ⟨0x0F0144, 0x1000, 2, 0x4, 0, 16, .ro, 0⟩
def Reg.OPT_TELEM_LASER_FROM_CASE : Row := ⟨0x0F0144, 0x1000, 2, 0x4, 16, 1, .ro, 0⟩
def Reg.OPT_TELEM_BIAS : Row := ⟨0x0F014C, 0x1000, 2, 0x4, 0, 16, .ro, 0⟩
def Reg.OPT_TELEM_RXP_RX_POWER : Row := ⟨0x0F0154, 0x1000, 4, 0x4, 0, 16, .ro, 0⟩
def Reg.OPT_TELEM_AGE_AGE_MS : Row := ⟨0x0F0164, 0x1000, 1, 0x0, 0, 32, .ro, 0⟩
def Reg.OPT_LIFE_ON_NS : Row := ⟨0x0F0200, 0x1000, 2, 0x20, 0, 64, .ro, 0⟩
def Reg.OPT_LIFE_I_I_BOL : Row := ⟨0x0F0208, 0x1000, 2, 0x20, 0, 16, .ro, 0⟩  -- reset: fw
def Reg.OPT_LIFE_I_I_EOL : Row := ⟨0x0F0208, 0x1000, 2, 0x20, 16, 16, .ro, 0⟩  -- reset: fw
def Reg.OPT_LIFE_SLOPE : Row := ⟨0x0F020C, 0x1000, 2, 0x20, 0, 32, .ro, 0⟩
def Reg.OPT_LIFE_STAT_DAYS_LEFT : Row := ⟨0x0F0210, 0x1000, 2, 0x20, 0, 16, .ro, 65535⟩
def Reg.OPT_LIFE_STAT_DARK_FAIL : Row := ⟨0x0F0210, 0x1000, 2, 0x20, 16, 1, .ro, 0⟩
def Reg.OPT_LIFE_STAT_FIT_VALID : Row := ⟨0x0F0210, 0x1000, 2, 0x20, 17, 1, .ro, 0⟩
def Reg.OPT_LIFE_DUTY_DUTY_PM : Row := ⟨0x0F0214, 0x1000, 2, 0x20, 0, 10, .ro, 0⟩
def Reg.OPT_CNT_BRINGUPS : Row := ⟨0x0F0300, 0x1000, 1, 0x0, 0, 64, .ro, 0⟩
def Reg.OPT_CNT_BRINGUP_FAILS : Row := ⟨0x0F0308, 0x1000, 1, 0x0, 0, 64, .ro, 0⟩
def Reg.OPT_CNT_SLIPS : Row := ⟨0x0F0310, 0x1000, 1, 0x0, 0, 64, .ro, 0⟩
def Reg.OPT_CNT_REHUNTS : Row := ⟨0x0F0318, 0x1000, 1, 0x0, 0, 64, .ro, 0⟩
def Reg.OPT_CNT_SAFETY_POLLS : Row := ⟨0x0F0320, 0x1000, 1, 0x0, 0, 64, .ro, 0⟩
def Reg.OPT_CNT_SAFETY_FAULTS : Row := ⟨0x0F0328, 0x1000, 1, 0x0, 0, 64, .ro, 0⟩
def Reg.OPT_CNT_TELEM_PREEMPT : Row := ⟨0x0F0330, 0x1000, 1, 0x0, 0, 64, .ro, 0⟩
def Reg.OPT_CNT_BUS_ERRORS : Row := ⟨0x0F0338, 0x1000, 1, 0x0, 0, 64, .ro, 0⟩
def Reg.OPT_CNT_PAGE_WRITES : Row := ⟨0x0F0340, 0x1000, 1, 0x0, 0, 64, .ro, 0⟩
def Reg.OPT_CNT_OVL_FRAMES : Row := ⟨0x0F0348, 0x1000, 1, 0x0, 0, 64, .ro, 0⟩

def Reg.tableOPT0 : List Row := [Reg.OPT_CTL_LANES_EN, Reg.OPT_CTL_AUTO_RETRY, Reg.OPT_CTL_LOCK_MS, Reg.OPT_STATUS_PRESENT,
  Reg.OPT_STATUS_ID_VALID, Reg.OPT_STATUS_BRINGUP, Reg.OPT_STATUS_CDR_LOCK, Reg.OPT_STATUS_RXOVL, Reg.OPT_STATUS_HIST_UNKNOWN,
  Reg.OPT_STATUS_FAILS, Reg.OPT_LANE_POL, Reg.OPT_LANE_MODE, Reg.OPT_DSK_SLIP, Reg.OPT_DSK_CAND_OFS, Reg.OPT_DSK_CAND_VALID,
  Reg.OPT_DSK_DSK_WORDS, Reg.OPT_DSK_CMD_REHUNT, Reg.OPT_DSK_CMD_ALIGNED, Reg.OPT_TXFFE_PRE, Reg.OPT_TXFFE_MAIN, Reg.OPT_TXFFE_POST,
  Reg.OPT_OVL_CTL_THRESH, Reg.OPT_BUS_CTL_FAST, Reg.OPT_BUS_CTL_TELEM_MS]
def Reg.tableOPT1 : List Row := [Reg.OPT_SAFE_FAULT, Reg.OPT_SAFE_CAUSE, Reg.OPT_ID_VENDOR, Reg.OPT_ID_PART, Reg.OPT_ID_SERIAL,
  Reg.OPT_ID_REV, Reg.OPT_ID_DATE, Reg.OPT_ID_CMIS_CMIS_REV, Reg.OPT_TELEM_TEMP_MOD_TEMP, Reg.OPT_TELEM_LASER_LASER_T,
  Reg.OPT_TELEM_LASER_FROM_CASE, Reg.OPT_TELEM_BIAS, Reg.OPT_TELEM_RXP_RX_POWER, Reg.OPT_TELEM_AGE_AGE_MS, Reg.OPT_LIFE_ON_NS,
  Reg.OPT_LIFE_I_I_BOL, Reg.OPT_LIFE_I_I_EOL, Reg.OPT_LIFE_SLOPE, Reg.OPT_LIFE_STAT_DAYS_LEFT, Reg.OPT_LIFE_STAT_DARK_FAIL,
  Reg.OPT_LIFE_STAT_FIT_VALID, Reg.OPT_LIFE_DUTY_DUTY_PM, Reg.OPT_CNT_BRINGUPS, Reg.OPT_CNT_BRINGUP_FAILS]
def Reg.tableOPT2 : List Row := [Reg.OPT_CNT_SLIPS, Reg.OPT_CNT_REHUNTS, Reg.OPT_CNT_SAFETY_POLLS, Reg.OPT_CNT_SAFETY_FAULTS,
  Reg.OPT_CNT_TELEM_PREEMPT, Reg.OPT_CNT_BUS_ERRORS, Reg.OPT_CNT_PAGE_WRITES, Reg.OPT_CNT_OVL_FRAMES]
def Reg.tableOPT : List Row := Reg.tableOPT0 ++ Reg.tableOPT1 ++ Reg.tableOPT2

end Sys2Proof.Machine
end

