-- ==== Sys2Proof/Machine/Bits.lean ====
section
/-! DEFINITION. Operations on the sparse table and the bit-field, sign and byte-order helpers that every later file uses. -/

namespace Sys2Proof

def Tab.find {α : Type} (k : Nat) : Tab α → Option α
  | [] => none
  | (j, v) :: r => if j = k then some v else Tab.find k r

def Tab.get {α : Type} (d : α) (k : Nat) (t : Tab α) : α :=
  match Tab.find k t with
  | some v => v
  | none => d

def Tab.del {α : Type} (k : Nat) : Tab α → Tab α
  | [] => []
  | (j, v) :: r => if j = k then Tab.del k r else (j, v) :: Tab.del k r

def Tab.ins {α : Type} (k : Nat) (v : α) : Tab α → Tab α
  | [] => [(k, v)]
  | (j, w) :: r => if j = k then (k, v) :: r else if k < j then (k, v) :: (j, w) :: r else (j, w) :: Tab.ins k v r

/-- Writing the default removes the entry, so that equal tables are equal lists. -/
def Tab.put {α : Type} [DecidableEq α] (d : α) (k : Nat) (v : α) (t : Tab α) : Tab α :=
  if v = d then Tab.del k t else Tab.ins k v t

/-- Change every listed value; an entry that becomes the default goes. -/
def Tab.mapv {α : Type} [DecidableEq α] (d : α) (f : Nat → α → α) : Tab α → Tab α
  | [] => []
  | (j, v) :: r => if f j v = d then Tab.del j (Tab.mapv d f r) else (j, f j v) :: Tab.mapv d f r

/-- The canonical form. -/
def Tab.wf {α : Type} [DecidableEq α] (d : α) : Tab α → Bool
  | [] => true
  | [(_, v)] => v ≠ d
  | (j, v) :: (k, w) :: r => v ≠ d && j < k && Tab.wf d ((k, w) :: r)

/-- Bit i of a number. -/
def bit (x i : Nat) : Nat := (x / 2 ^ i) % 2

/-- Bits [hi:lo] of a number. -/
def bits (x hi lo : Nat) : Nat := (x / 2 ^ lo) % 2 ^ (hi + 1 - lo)

def b2n (b : Bool) : Nat := if b then 1 else 0

/-- The two's complement value of a w-bit field (R4). -/
def signed (w x : Nat) : Int := if x % 2 ^ w < 2 ^ (w - 1) then ((x % 2 ^ w : Nat) : Int) else ((x % 2 ^ w : Nat) : Int) - 2 ^ w

/-- The w-bit field that holds a signed value. -/
def unsigned (w : Nat) (x : Int) : Nat := (x % (2 ^ w : Int)).toNat

/-- The number whose bytes are listed most significant first (R5). -/
def beNat (l : List Byte) : Nat := l.foldl (fun n b => n * 256 + b.toNat) 0

/-- The number whose bytes are listed least significant first (R6). -/
def leNat : List Byte → Nat
  | [] => 0
  | b :: r => b.toNat + 256 * leNat r

/-- n bytes, most significant first. -/
def beBytes (n x : Nat) : List Byte := (List.range n).map fun i => BitVec.ofNat 8 (x / 2 ^ (8 * (n - 1 - i)))

/-- n bytes, least significant first. -/
def leBytes (n x : Nat) : List Byte := (List.range n).map fun i => BitVec.ofNat 8 (x / 2 ^ (8 * i))

def zeros (n : Nat) : List Byte := List.replicate n 0

/-- The bytes at [off, off + n) of a structure; bytes past its end read as zero. -/
def slice (l : List Byte) (off n : Nat) : List Byte :=
  let x := (l.drop off).take n
  x ++ zeros (n - x.length)

end Sys2Proof
end

