-- ==== Sys2Proof/Machine/State.lean ====
section
/-! DEFINITION. The machine's state as plain data. Register fields live in `State.regs` (see the Regs files), held as the
exclusive-or with their reset value so that an unlisted field reads its reset; everything else the manual gives the terminal
stands in the typed fields below. A field's default is its value after a cold reset. -/

namespace Sys2Proof.Machine

/-- Delineation states of R34. -/
inductive Delin where
  | hunt | presync | sync
deriving DecidableEq, Repr

/-- One downstream wave of one leg (R33 to R35, R51, R254, R273). -/
structure Wave where
  deln : Delin := .hunt
  confirm : Nat := 0
  miss : Nat := 0
  sfc : Nat := 0
  fn : Nat := 0
  idleCw : Nat := 750
  hunting : Bool := false        -- hunting for a channel header (R51)
  lastSeq : Option Nat := none   -- SEQ of the last data frame of this wave frame (R50)
  badCw : List Nat := []         -- uncorrected codewords of this wave frame (R52)
  marked : Bool := false         -- this frame's marker was latched (R35)
  rel : Int := 0                 -- its arrival relative to D0, 1/16 ps (R111)
  words : Int := 0               -- its frame start relative to D0, words (R396)
  rxovl : Bool := false          -- this frame is marked RXOVL (R398)
  deliver : Bool := false        -- its leg was active at this frame's boundary (R205, R264)
  syncFr : Nat := 0              -- consecutive frames in SYNC (LOF exit, R76)
  whole : Bool := false          -- in SYNC throughout this superframe
  uncorr : Nat := 0              -- uncorrected codewords of this superframe
  sfGood : Nat := 0              -- SF exit run
  sdWin : List Nat := []         -- uncorrected codewords of the last superframes, newest first (SD)
  cwSec : Nat := 0               -- codewords decoded this second (R273)
  badSec : Nat := 0              -- of them uncorrected
  losSec : Bool := false         -- LOF or LOS at any point of this second
  cand : Option Nat := none      -- 8 x SFC + FN of the last agreeing header, in PRESYNC
deriving DecidableEq, Repr

/-- A burst profile (R69 type 0x01). -/
structure Prof where
  waves : Nat := 0
  preGrains : Nat := 0
  prePat : Nat := 0
  dlmGrains : Nat := 0
  dlmWord : Nat := 0
  valid : Bool := false
deriving DecidableEq, Repr

/-- An item that awaits its EFF_SFC. -/
structure Pend (α : Type) where
  eff : Nat
  val : α
deriving DecidableEq, Repr

/-- An EQD_SET that awaits its EFF_SFC (R83), with the wave of the last RANGE burst sent before it came (R107). -/
structure EqdPend where
  eff : Nat
  relative : Bool
  val : Int
  rwave : Nat
deriving DecidableEq, Repr

/-- What an accepted allocation is for (R41, R87). -/
inductive AllocKind where
  | registration | wake | range | sluice | data
deriving DecidableEq, Repr

/-- An accepted allocation of a target upstream frame, with both units' decisions (R43, R91, R173). -/
structure Alloc where
  sfc : Nat
  fn : Nat
  id : Nat
  wave : Nat
  start : Nat
  len : Nat
  typ : Nat
  prof : Prof
  kind : AllocKind
  slot : Nat := 0
  sched : Bool := false     -- activation has scheduled a contention burst in it (R77)
  offset : Nat := 0         -- the burst's offset inside the window
  decided : Bool := false
  hgOpen : Bool := false    -- the headgate will open its window
  admitted : Bool := false  -- the scheduler admits it (data grants)
  withdrawn : Bool := false
  opened : Bool := false
  nonce : Nat := 0
  gain : Nat := 0           -- grains it added to OPENED or OTHER (R173)
  cap : Nat := 0            -- the emission cap under which it was decided (R91)
  role : Bool := false      -- refused for its leg's role alone, and not yet counted (R89, R264)
deriving DecidableEq, Repr

/-- A window that is open now (R87, R88). -/
structure Win where
  alloc : Alloc
  openedAt : Nat
deriving DecidableEq, Repr

/-- A D0 superframe marker latched against the counter (R106, R111). -/
structure Mark where
  sfc : Nat
  at40 : Nat
  run40 : Nat               -- the same instant in running time
  gen : Nat
  eqd : Nat
  excluded : Bool
deriving DecidableEq, Repr

/-- A head end message acted on, remembered for R67. -/
structure Seen where
  txid : Nat
  typ : Nat
  frag : Nat
  sfc : Nat
  status : Option Nat      -- the status acknowledged, if the type is acknowledged
deriving DecidableEq, Repr

/-- Key exchange content being reassembled on a leg (R222). -/
structure KxAsm where
  txid : Nat
  nfrag : Nat
  tn : Nat
  bytes : List Byte
  next : Nat
deriving DecidableEq, Repr

/-- One leg: line, activation, headgate, estimator and module state that no register field holds. (DESIGN CHOICE, log 2.) -/
structure LegSt where
  waves : Four Wave := ⟨{}, {}, {}, {}⟩
  partOk : Bool := false               -- the current D0 frame's partition header passed (R38)
  bwLeft : Nat := 0                    -- BWmap structures of the current frame still to come (R36)
  todp : Bool := false                 -- its time-of-day announcement is still to come
  nmsg : Nat := 0                      -- its messages still to come
  nslot : Nat := 0
  slotBase : Nat := 0                  -- byte offset of the sluice region
  chanBase : Nat := 0                  -- byte at which D0's channel frames begin (R36)
  slots : List Nat := []               -- the sluice slots of the current D0 frame
  slotsSeen : Bool := false
  sluBad : Bool := false               -- their trailer failed (R44)
  profPend : Four (List (Pend Prof)) := ⟨[], [], [], []⟩   -- pending items of one kind stand in EFF_SFC order
  hgProf : Four Prof := ⟨{}, {}, {}, {}⟩              -- the headgate's own copies
  hgProfPend : Four (List (Pend Prof)) := ⟨[], [], [], []⟩
  ctn : Tab Nat := []                  -- the scheduler's container IDs by slot, ID + 1 (0: none)
  ctnPend : Tab (List (Pend Nat)) := []     -- pending CONTAINERs by slot; value as in ctn
  ctnDue : Tab (List (Pend Nat)) := []      -- changes that govern upstream frames not yet begun (R81)
  hgPend : Tab (List (Pend Nat)) := []      -- the headgate's own copies of the last two
  hgDue : Tab (List (Pend Nat)) := []
  eqdPend : List EqdPend := []
  eqdOld : List (Nat × Nat) := []      -- EqD of upstream frames before an EFF_SFC that has come, oldest first (R84)
  lastRangeWave : Nat := 0
  scheduled : Bool := false            -- a registration or wake burst is scheduled (R74, R79)
  wakeSent : Bool := false             -- a wake burst was sent and its 4 SF answer time runs (R79)
  wakeN : Nat := 0                     -- unanswered wake attempts (R79)
  wakeSkip : Nat := 0
  windowUsed : Option Nat := none      -- the upstream frame (8 x SFC + FN) whose contention window is taken (R76)
  rangeMissed : Bool := false          -- RANGE_MISS stands for the present gap (R86)
  upSfc : Nat := 0
  upFn : Nat := 0
  allocs : List Alloc := []
  win0 : Option Win := none
  win1 : Option Win := none
  tail0 : Nat := 0                     -- end of the last window of U0 and its tail, 2^-16 ns of running time (R95)
  tail1 : Nat := 0
  gained : Nat × Nat := (0, 0)         -- grains OPENED and OTHER gained for the last completed upstream frame (R173)
  capped : Nat × Nat := (0, 0)         -- the emission cap under which that frame was decided
  rogueAt : List Nat := []             -- seconds of rogue latches within 24 h (R275)
  darkRun : Nat × Nat := (0, 0)        -- consecutive dark windows by wave (R405)
  acks : List Nat := []                -- pending ACK messages, oldest first, as 384-bit numbers
  alarms : List Nat := []
  kxOut : List Nat := []               -- KEY_EXCHANGE fragments waiting to be sent
  asgAck : Option Nat := none          -- the ACK of ASSIGN_TN, held for the first RANGE burst of its number (R80)
  seen : List Seen := []
  kx : Option KxAsm := none
  kxLast : Option (Nat × Nat × Nat) := none  -- TXID, FRAG and superframe of the last fragment (R67, R222)
  kxAck : Option Nat := none           -- status that answered the content the last fragment completed
  kek : Option Nat := none
  epochSet : Bool := false             -- an EPOCH has been accepted since cold reset or deep sleep (R223)
  lseq : Option Nat := none
  dnRet : Option Nat := none           -- retired generation whose keys await erasure (R227)
  upRet : Option Nat := none
  todAge : Option Nat := none          -- announcement age over TRACEABLE announcements (R108)
  todSince : Option Nat := none        -- superframe boundaries since the last announcement
  todWait : List (Nat × Nat) := []     -- accepted announcements whose marker is still to come: REF_SFC and time, 2^-16 ns (R106)
  todRaised : Bool := false
  marks : List Mark := []              -- the latest superframe markers, newest first
  theta : Option Int := none           -- the latest estimate, 2^-16 ns
  thetas : List Int := []              -- the last 16 estimates, newest first (R105)
  dts : List (Nat × Int × Int × Int) := []   -- the window of R111, newest first: superframe and three differences, 1/16 ps
  lastBad : Option Nat := none         -- superframes since D0 to D3 were last not all in SYNC throughout one (R113)
  dtKeep : Nat := 0                    -- the window of a dispersion sweep that runs on the leg (R113, R333)
  drift : Int × Int := (0, 0)          -- the modelled laser drift of U0 and U1 (R115), 1/320,000 pm
  fitEver : Bool := false              -- a valid fit since the leg last became RANGED (R108)
  fitBad : Bool := false               -- the last fit was invalid, or is held without fresh markers (R117)
  laserTerm : Nat := 0                 -- R116, 0.25 ns
  losyBad : Nat := 0
  losyGood : Nat := 0
  defSeen : Nat := 0                   -- the defect word of the last ALARM (R266)
  once : List Nat := []                -- sources already raised in this superframe
  drops : Nat := 0                     -- spillway drops of this superframe (R207)
  pollFail : Nat := 0
  pollClean : Nat := 0
  pollDue : Bool := false              -- a poll is due to a module interrupt (R401)
  alignRun : Nat := 0                  -- consecutive aligned D0 markers (R396)
  wasRemoved : Bool := true            -- power-on, a removal, an insertion or a bus failure still needs a successful bring-up (R402)
  safeHeld : Bool := false             -- FORCE_TXDIS stands from a safety fault
  laserRange : Option (List Byte) := none   -- the module's stated range (R403)
  telemOut : Bool := false             -- last telemetry lay outside the range
  bias0 : List (Nat × Nat) := []       -- bias samples of U0 and U1, newest first: burst-on ns and 2 uA (R405)
  bias1 : List (Nat × Nat) := []
  onLog : List (Nat × Nat) := []       -- ON_NS of U0 and U1 at each hour of the last day, newest first
  lifeCount : Nat := 0                 -- write count of page 03h (R404)
  lifeCopy : Nat := 0                  -- the copy to write next
  biasHigh : Nat × Nat := (0, 0)       -- TX bias high-warning thresholds, 2 uA
  failed : Bool := false               -- LEG_FAILED: firmware keeps the leg disabled (R275)
  rejoin : Bool := false               -- departed in sleep, to be enabled again (R369, R373)
deriving DecidableEq, Repr

/-- An armed apply (R127): whose staging set, when, and what. -/
structure Arm where
  fw : Bool
  pps : Bool
  sel : Nat
  target : Nat              -- AT_TICK: linear ns; AT_PPS: the running time before which no roll counts (R127)
  due : Bool := false       -- its tick has come
deriving DecidableEq, Repr

/-- The time engine beyond its registers (R98, R101, R117, R121, R122, R127). (DESIGN CHOICE, log 2.) -/
structure TimeSt where
  now40 : Nat := 0                     -- the counter with its hidden bits, 2^-40 ns
  run40 : Nat := 0                     -- the same sum of INCR since the cold start, which no step moves
  incr : Nat := 0x018B0FCD6E9E
  tgt : Nat := 0x018B0FCD6E9E
  incrHo : Nat := 0x018B0FCD6E9E
  y0Next : Nat := 0                    -- the uncertainty of y_REF to take at entry to holdover
  lockRun : Nat := 0
  unlockRun : Nat := 0
  voter : Nat := 0                     -- the voter term of R117, 0.25 ns
  hoOn : Bool := false                 -- R122 applies
  hoB0 : Nat := 0
  hoVoter : Nat := 0
  hoSeen : Bool := false               -- an estimate has come since that term was added (R117)
  voteLog : List (Nat × Nat) := []     -- (copy, ms of running time) of recent disagreements
  arm : Option Arm := none
  heBound : Nat := 0                   -- HE_BOUND of the last accepted announcement
  sqOn : Bool := false                 -- HOLDOVER_EXCEEDED has been entered and LOCKED not since (R123)
  trims : Tab Nat := []                -- the TRIM values in effect, by register key (R127)
  widened : Nat := 0                   -- which terms of R117 stand (for BOUND_WIDENED)
  fed : Bool := false                  -- the active leg was usable when the engine last looked (R108)
  rolled : Bool := false               -- TIME_NS rolled to zero by counting in this tick (R139)
deriving DecidableEq, Repr

/-- One timer channel beyond its registers (R130 to R137, R437). Times are in 2^-16 ns of counter time. -/
structure Chan where
  base : Nat := 0          -- the target
  next : Nat := 0          -- the next firing
  k : Nat := 0             -- edges of the sequence already passed, sent or skipped
  sent : Bool := false     -- an edge has been sent since the arm
  stopping : Bool := false -- stopped or disarmed; the pulse in progress is completed
  rebase : Nat := 0        -- status to report when the pulse in progress ends a disarm
  pulse : Bool := false    -- an active part of the sequence runs
  shown : Bool := false    -- and drives the pin (R123)
  edge : Nat := 0          -- its leading edge, and its length, in 25 ps steps (R131 to R133)
  wide : Nat := 0
  endAt : Nat := 0         -- running time, 2^-16 ns, at which it ends, and at which its GATED cycle ends (R134)
  cycEnd : Nat := 0
deriving DecidableEq, Repr

/-- A capture FIFO (R141): entries of five words, oldest first. -/
structure Cap where
  fifo : List (List Nat) := []
  seq : Nat := 0
deriving DecidableEq, Repr

/-- Timer channels, captures, PPS_OUT and PTM. (DESIGN CHOICE, log 2.) -/
structure TevSt where
  ch : Tab Chan := []
  cap : Tab Cap := []
  pps : Bool := false                  -- PPS_OUT is in its active part
  ppsEdge : Nat := 0                   -- its trailing edge, in 25 ps steps, and the running time of it, 2^-16 ns (R139)
  ppsEnd : Nat := 0
  ptmAt : Option Nat := none           -- ms of running time of the last automatic dialogue (R143)
  ptmOn : Bool := false                -- PTM enabled in configuration space
  ptmSeq : Nat := 0
  ptmT1 : List Nat := []
  ptmCur : List Nat := []              -- T1, T4, MASTER, PDELAY words of the current record
  ptmPrev : List Nat := []             -- T1 and T4 words of the previous one
deriving DecidableEq, Repr

/-- A token bucket with its ledger columns, units of 1/500 token (R152, R173). -/
structure Bucket where
  level : Nat := 0
  resv : Nat := 0
  filled : Nat := 0
  trimmed : Nat := 0
  debited : Nat := 0
deriving DecidableEq, Repr

/-- The configuration words of a queue entry, QDATA0 to QDATA4 (R151, R152). -/
structure QCfg where
  mode : Nat := 0
  shapeEn : Bool := false
  ovh : Nat := 0
  weight : Nat := 1
  rate0 : Nat := 0
  burst0 : Nat := 1048576
  rate1 : Nat := 0
  burst1 : Nat := 1048576
deriving DecidableEq, Repr

/-- A transmit descriptor as fetched (R292). -/
structure Desc where
  idx : Nat
  addr : Nat
  blen : Nat
  first : Bool
  last : Bool
  stream : Nat
  lt : Option Nat
  tagReq : Bool
  tagOp : Nat
  cTci : Nat
  sTci : Nat
  rsvd : Bool
deriving DecidableEq, Repr

/-- Where a transmit frame stands (R164, R166, R294). -/
inductive FrameSt where
  | head | reserved | committed | done
deriving DecidableEq, Repr

/-- A transmit frame: its chain and its progress (R293, R294). -/
structure TxFrame where
  didx : Nat
  descs : List Desc
  st : FrameSt := .head
  status : Nat := 0
  bytes : Nat := 0            -- frame bytes (R151)
  bAt : Nat := 0              -- the instant B (R144), 2^-40 ns
  bGen : Nat := 0             -- time generation, quality and total bound at B (R119)
  bQual : Nat := 0
  bBound : Nat := 0
  wave : Nat := 0
  leg : Nat := 0
  placed : Bool := false
  ltLate : Bool := false
  stream : Nat := 0
  lt : Option Nat := none
  tagOp : Nat := 0            -- the insertion chosen under R200
  cTci : Nat := 0
  sTci : Nat := 0
deriving DecidableEq, Repr

/-- One transmit queue (R146 to R157, R303). -/
structure TxQ where
  cfg : QCfg := {}
  b0 : Bucket := {}
  b1 : Bucket := {}
  credit : Int := 0
  s : Nat := 0
  f : Nat := 0
  fLast : Nat := 0
  fetchIdx : Nat := 0                 -- next descriptor to fetch
  part : List Desc := []              -- a chain not yet complete
  frames : List TxFrame := []         -- oldest first
  flushTo : Option Nat := none
  disabling : Bool := false           -- the flush ends with EN = 0 (R287)
  posted : Nat := 0
  completed : Nat := 0
  block : Option (Nat × Nat) := none  -- the head frame a build last refused for its place, and the reason (R150)
deriving DecidableEq, Repr

/-- The weighted-group state of a slot and its container buckets (R153, R156 to R158). -/
structure SlotSt where
  b0 : Bucket := {}
  b1 : Bucket := {}
  rr : Nat := 0
  v : Nat := 0
  fb : Nat := 0                       -- superframe boundaries until the automatic fall-back ends
deriving DecidableEq, Repr

/-- A frame placed in a burst. -/
structure Placed where
  q : Nat
  didx : Nat
  seq : Nat
  enc : Bool
  e : Nat                             -- encoded length (R159)
  bytes : Nat
  cost : Nat × Nat                    -- tokens charged to the queue's buckets 0 and 1
  cpay : Nat × Nat                    -- and to the container's
  chan : List Byte                    -- the channel frame as it goes on the line
deriving DecidableEq, Repr

/-- The weighted-group state saved when a build begins (R169). -/
structure SchedSnap where
  slot : Nat
  rr : Nat
  v : Nat
  qs : List (Nat × Int × Nat × Nat × Nat)   -- queue, credit, s, f, fLast
deriving DecidableEq, Repr

/-- A reserved or committed burst (R164, R166). -/
structure Burst where
  leg : Leg
  alloc : Alloc
  frames : List Placed
  msg : Option (Nat × Nat)            -- which pending list the message block came from, and the message
  snap : SchedSnap
  bufrep : Nat
  capacity : Nat
  header : Nat
  cells : Nat
  committed : Bool := false
deriving DecidableEq, Repr

/-- The scheduler's cumulative ledger columns (R173), by upstream wave where there are two numbers. -/
structure Ledger where
  cellFree : Nat := 65536
  accepted : Nat × Nat := (0, 0)
  opened : Nat × Nat := (0, 0)
  refused : Nat × Nat := (0, 0)
  other : Nat × Nat := (0, 0)
  capacity : Nat := 0
  header : Nat := 0
  frame : Nat := 0
  idle : Nat := 0
deriving DecidableEq, Repr

/-- A receive post as fetched (R295). -/
structure Post where
  idx : Nat
  addr : Nat
  blen : Nat
deriving DecidableEq, Repr

/-- A lookaside request taken, with its result (R229 to R231). -/
structure LaReq where
  idx : Nat
  reqId : Nat
  len : Nat
  status : Nat
  authFail : Bool
  dst : Nat
  output : List Byte
deriving DecidableEq, Repr

/-- One receive ring (R295 to R297). -/
structure RxR where
  fetchIdx : Nat := 0
  posts : List Post := []
  reqs : List (Nat × List Byte) := []   -- lookaside entries fetched and not yet taken
  la : List LaReq := []                 -- requests taken and not yet completed
  starvedMs : Option Nat := none
  posted : Nat := 0
  used : Nat := 0
  discarded : Nat := 0
deriving DecidableEq, Repr

/-- What leaves the part: the model's trace of it, newest last. (DESIGN CHOICE, log 4; DESIGN CHOICE, log 57.) -/
inductive Output where
  | hostWrite (f addr : Nat) (relaxed : Bool) (data : List Byte)
  | hostRead (tag f addr len : Nat)
  | msix (f vec addr data : Nat)
  | burst (leg : Leg) (wave : Nat) (info : List Byte) (symbols : List Nat)
  | regRead (addr value : Nat)
  | mctp (status : Nat) (data : List Byte)
  | unsupported (f : Nat)
  | ptmRequest
  | moduleWrite (leg : Leg) (page off : Nat) (data : List Byte)
  | i3cAlert (asserted : Bool)
  | fwWrite (what addr : Nat) (data : List Byte)   -- into management SRAM: 0 a learn record, 1 a lane record, 2 a fetched body
  | edge (pin : Nat) (high : Bool) (step : Nat)    -- an output edge, in 25 ps steps of counter time (R131)
deriving DecidableEq, Repr

/-- An entry not yet written, without its sequence number and PHASE, with the data writes a receive entry describes (R305). -/
structure Cpl where
  body : List Byte
  data : List Output := []
  live : Bool := false                    -- its timestamp is that of its issue (R298)
  pass : Option (RingKind × Nat × Nat) := none   -- the ring whose CONS its issue advances, and by how many entries (R294, R297)
deriving DecidableEq, Repr

/-- One completion or event ring (R299 to R302, R309, R311). -/
structure CqR where
  waiting : List Cpl := []              -- entries not yet written, oldest first
  last16 : List (Nat × List Byte) := [] -- newest first (R302)
  count : Nat := 0                      -- entries written since EN was set (CSEQ, and with its higher bits PHASE)
  unsig : Nat := 0                      -- entries written since the last message
  fullMs : Option Nat := none
  dropping : Bool := false              -- a full event ring is discarding
  pendLost : Bool := false
deriving DecidableEq, Repr

/-- A read request outstanding in host memory (R282, R288). -/
structure Read where
  tag : Nat
  kind : Nat          -- R313: 0 transmit queue, 1 receive ring, 2 admin, 3 upstream lane, 4 mailbox fetch
  ring : Nat
  idx : Nat
  len : Nat
  addr : Nat
deriving DecidableEq, Repr

/-- A frame in the packet buffer, or a copy of one, on its way to a ring (R177, R195 to R201). -/
structure BufFrame where
  ring : Nat
  mirror : Option Nat                 -- the ring of the mirror copy made at delivery (R17, R197)
  mirrorAct : Bool                    -- the action is MIRROR: the copy does not wait on the delivery
  func : Nat
  grp : Option (Nat × Nat)            -- ring group and ring select, read at delivery
  data : List Byte                    -- before tag removal
  ntag : Nat                          -- tags that delivery removes
  tci0 : Nat
  tci1 : Nat
  stream : Nat
  version : Nat
  leg : Leg
  wave : Nat
  at40 : Nat
  gen : Nat
  qual : Nat
  bound : Nat
  replayed : Bool
deriving DecidableEq, Repr

/-- The host interface beyond its registers. (DESIGN CHOICE, log 2; DESIGN CHOICE, log 19.) -/
structure HostSt where
  txq : Tab TxQ := []
  rxr : Tab RxR := []
  cqs : Tab CqR := []
  eqs : Tab CqR := []
  reads : List Read := []
  buf : List BufFrame := []
  fwQueue : List BufFrame := []       -- firmware's receive queue, 256 frames (R196)
  log : List (Nat × Nat × Nat × Nat) := []       -- the event log (R315), oldest first
  logSeq : Nat := 0
  errs : Tab (List (Nat × Nat × Nat × Nat)) := []  -- function error logs (R316), oldest first
  errLost : Tab Nat := []             -- entries overwritten in a VF's log
  errPop : Tab (List Nat) := []       -- a VF's latched POP words
  rsel : Tab Nat := []                -- VF_RSEL, by VF (R284)
  msixEn : Tab Nat := []
  relaxed : Tab Nat := []
  cfg : Tab Nat := []                 -- other configuration-space items of R278, by 16 x function + item, exclusive-or with reset
  aerC : Nat := 0                     -- correctable and uncorrectable error status of the PF's AER (R282)
  aerU : Nat := 0
  fcRecv : Four Nat := ⟨0, 0, 0, 0⟩   -- PH, PD, NPH and NPD credits received, and given back (R308)
  fcBack : Four Nat := ⟨0, 0, 0, 0⟩
deriving DecidableEq, Repr

/-- Stream table, trees and commits (R180 to R207). -/
structure ClsSt where
  streams : Tab Nat := []             -- current version
  before : Tab Nat := []              -- before-images of the draining version, entry + 1
  staged : Tab Nat := []              -- staged stream changes, entry + 1
  nodes : Tab Nat := []
  roots : Tab Nat := []
  rootsD : Tab Nat := []
  rootsS : Tab Nat := []
  profs : Tab Nat := []
  profsD : Tab Nat := []
  profsS : Tab Nat := []
  commitAt : Nat := 0                 -- ns of running time at acceptance or at the switch (R202, R205)
  pendVer : Nat := 0
  learnPend : List Nat := []
  learnSf : Nat := 0                  -- records written this superframe (R185)
  rseq : Nat := 0
  stats : Tab (Nat × Nat) := []
  stblSt : Option Nat := none         -- status held until STBL_CMD_DONE, PF's instance
  stblStFw : Option Nat := none
  clsSt : Option Nat := none
  clsStFw : Option Nat := none
deriving DecidableEq, Repr

/-- A key slot (R219): line keys by 8 x leg + 4 x DIR + KIDX, or one lookaside key. -/
structure Slot where
  kind : Nat := 0
  owner : Nat := 0
  keys : Tab Nat := []                -- key + 1
deriving DecidableEq, Repr

/-- The cipher's key slots and the commands on them that have not completed (R219, R233). (DESIGN CHOICE, log 2.) -/
structure CiphSt where
  slots : Tab Slot := []
  cmdSt : Option Nat := none          -- status held until SLOT_CMD_DONE
  cmdStFw : Option Nat := none
  laLast : Nat := 0                   -- the lookaside ring served last (R231)
deriving DecidableEq, Repr

/-- The sluice: connection memory, the swap under way and lane records (R239, R246 to R252). -/
structure SluSt where
  cm : Tab Nat := []                  -- key: 8192 x direction + 4096 x page + position
  cmSt : Option Nat := none
  cmStFw : Option Nat := none
  swapEff : Nat := 0                  -- EFF_SFC of the pending swap, held at its request (R247)
  swapDn : Bool := false
  swapUp : Bool := false
  dnDone : Bool := false
  upDone : Bool := false
  recs : Tab (List Byte) := []        -- upstream lane records of the frame now placed, by lane
  nextRecs : Tab (List Byte) := []    -- those read for a frame to come
  nextFor : Nat := 0                  -- that frame, 2 x (8 x SFC + FN) + leg, and the lanes served for it (R244)
  nextSeen : List Nat := []
  wrote : List Nat := []              -- lanes whose record of the current D0 frame has been dealt with (R241)
  late : List (Leg × Nat × Nat) := [] -- records of the old leg's last frame still due after a switch: leg, 8 x SFC + FN, lane (R251)
  upOn : Bool := false                -- an upstream frame of the active leg is being placed
  upMapped : Nat := 0                 -- its mapped positions, and those carried so far
  upCarried : Nat := 0
  aisGrp : List Nat := []             -- groups in AIS since the declaration (R250)
  aisOn : List Nat := []              -- of them, those with AIS_ON raised
  asked : List Nat := []              -- groups whose request for a switch stands (R249)
  onceSf : List Nat := []
deriving DecidableEq, Repr

/-- A one-shot request (R257): its cause code, the leg it asks for, and the PROT_SWITCH to acknowledge. -/
structure ProtReq where
  cause : Nat
  target : Leg
  ack : Option (Leg × Nat) := none
deriving DecidableEq, Repr

/-- The protection unit beyond its registers (R257 to R267). -/
structure ProtSt where
  holdDone : Bool := false            -- the hold-off has run out for the defect that stands
  lastAuto : Bool := false            -- the last switch away from the preferred leg was automatic
  deferred : List (Nat × Leg) := []   -- PROT_CMD held for firmware (R267): cause code, 0 for CLEAR, and leg
  cmdAck : Option (Leg × Nat) := none -- the PROT_SWITCH to acknowledge when the switch completes
  revertDue : Bool := false           -- a REVERT request waits for firmware (R267)
  waiting : List ProtReq := []        -- one-shot requests that came during a switch
  roleAt : Nat := 0                   -- ns of running time at the decision (R264)
deriving DecidableEq, Repr

/-- A performance bin (R270). -/
structure Bin where
  start : Nat := 0
  gen : Nat := 0
  insvc : Nat := 0
  valid : Bool := false
  part : Bool := true
  step : Bool := false
  unlocked : Bool := true
  roleMixed : Bool := false
  active : Bool := false
  cnt : List Nat := [0, 0, 0, 0, 0, 0]
  tca : List Nat := []                -- counters whose threshold this bin has reached
deriving DecidableEq, Repr

/-- A second classified and not yet committed (R273, R274): SES and ES bits, waves 0 to 3 and the leg at 4. -/
structure Sec where
  es : Nat
  ses : Nat
  counts : Bool                       -- it fell in ACQUIRING, TEST or RECOVERING
deriving DecidableEq, Repr

/-- Performance monitoring: bins and seconds (R268 to R274). -/
structure PmSt where
  cur15 : Tab Bin := []               -- key: 8 x leg + wave
  cur24 : Tab Bin := []
  hist15 : Tab (List Bin) := []
  hist24 : Tab (List Bin) := []
  secs : Two (List Sec) := ⟨[], []⟩   -- newest first
  clean : Two Nat := ⟨0, 0⟩           -- seconds without a hard defect
  testOps : Two Nat := ⟨0, 0⟩         -- operations that hold the leg in TEST
deriving DecidableEq, Repr

/-- A mailbox (R320 to R326). -/
structure Mbox where
  full : Bool := false
  collided : Bool := false
  fail : Bool := false
  seq : Nat := 0                      -- of the current message
  src : Nat := 0
  fstatus : Nat := 0
  ptr : Nat := 0
  len : Nat := 0
  space : Nat := 0
  orig : Nat := 0
  dead : Bool := false                -- its sender was reset after sending (R325)
  lostSeq : Nat := 0
  lostSrc : Nat := 0
  cnt : Nat := 0                      -- the sequence counter
deriving DecidableEq, Repr

/-- One agent's own mailbox registers and latches (R320, R323, R325, R327). -/
structure View where
  ptr : Nat := 0
  result : Nat := 0
  seq : Nat := 0
  overwrote : Bool := false
  latch : Tab (Option Mbox) := []
  dst : Nat := 0
  fMbx : Nat := 0
  dspace : Nat := 0
  busy : Bool := false
  fstatus : Nat := 0
  swAddr : Nat := 0
  cur : Option Mbox := none           -- the running fetch: its message, mailbox, destination and destination space (R325)
  curBox : Nat := 0
  curDst : Nat := 0
  curSpace : Nat := 0
deriving DecidableEq, Repr

/-- Mailboxes, each agent's view of them, and the shared window (R319 to R327). (DESIGN CHOICE, log 2; DEDUCED, log 59.) -/
structure MbxSt where
  box : Tab Mbox := []
  view : Tab View := []               -- by source ID
  sw : Tab Nat := []                  -- the shared window, bytes by offset; unlisted bytes are zero
deriving DecidableEq, Repr

/-- A live long operation beyond its ADM_LOP entry (R336, R337). -/
structure LongOp where
  params : List Byte
  suspCid : Option Nat := none
  cancelCid : Option Nat := none
  a : Nat := 0                        -- figures the operation gathers
  b : Nat := 0
  committed : Bool := false           -- boot record written, or bundle's commit accepted
  passed : Bool := false              -- and that commit's boundary has passed (R337)
  quiet : Bool := false               -- ended by a link event: no entry is written (R332)
deriving DecidableEq, Repr

/-- The admin queue: live long operations and completions that wait (R330 to R336). -/
structure AdmSt where
  ops : Tab LongOp := []              -- by ADM_LOP index
  nextHandle : Nat := 1
  cqWait : List (List Byte) := []     -- admin completions waiting for room or for firmware
  fullMs : Option Nat := none         -- host millisecond of the admin ring's last CQ_FULL (R299)
  ended : List (Nat × Nat) := []      -- CID and handle of operations ended by firmware's stop, reported at its return (R332)
deriving DecidableEq, Repr

/-- What a boot record copy says (R345). -/
structure BootRec where
  seq : Nat := 0
  active : Nat := 0
  prev : Nat := 1
  trial : Bool := false
  ovr : Bool := false
  starts : Nat := 0
  trialMin : Nat := 30
deriving DecidableEq, Repr

/-- What a settings copy says (R358): its schema and SEQ, and the stored fields by register key. -/
structure Settings where
  schema : Nat := 0
  seq : Nat := 0
  fields : List (Nat × Nat) := []
deriving DecidableEq, Repr

/-- The flash (R339): what each region holds, from its first byte; a byte beyond what is listed is erased and reads 0xFF. -/
structure FlashSt where
  rec0 : List Byte := []              -- boot record copies
  rec1 : List Byte := []
  ver0 : List Byte := []              -- VERIFIED records of the slots
  ver1 : List Byte := []
  jour : List Byte := []              -- download journal
  set0 : List Byte := []              -- settings copies
  set1 : List Byte := []
  img0 : Tab (List Byte) := []        -- 64 KiB blocks of slot 0
  img1 : Tab (List Byte) := []
  going : Option (Nat × Nat) := none  -- the last write, whose end a power failure may still cut off, and its ns of running time (R357)
deriving DecidableEq, Repr

/-- Fuses (R222, R341, R342, R361, R411). (DESIGN CHOICE, log 1.) -/
structure FuseSt where
  idPriv : Nat := 0
  intent1 : List Nat := [0x3C5A, 0x3C5A, 0x3C5A]   -- the three copies of each record, 16 bits each (R361)
  commit1 : List Nat := [0xA5C3, 0xA5C3, 0xA5C3]
  intent2 : List Nat := [0x3C5A, 0x3C5A, 0x3C5A]
  commit2 : List Nat := [0xA5C3, 0xA5C3, 0xA5C3]
  intent3 : List Nat := [0, 0, 0]
  commit3 : List Nat := [0, 0, 0]
  testOff : Bool := true              -- vendor-test disable fuse
  cosign : List Nat := []             -- SHA-384 of enrolled keys, oldest first, at most four
deriving DecidableEq, Repr

/-- Firmware, ditch rider and life cycle beyond their registers (R344 to R364). (DESIGN CHOICE, log 2.) -/
structure FwSt where
  flash : FlashSt := {}
  fuse : FuseSt := {}
  apBuf : List (Leg × Nat) := []      -- messages waiting for firmware (R25), oldest first
  autopilot : Bool := false
  closed : Bool := false              -- autopilot ran out: the headgate closes every grant (R26)
  restarts : List Nat := []           -- milliseconds of running time of counted restarts
  trialAt : Nat := 0                  -- milliseconds of running time at which the trial window began
  lcArm : Option (Nat × Nat) := none   -- target and milliseconds of running time of the last FW_LC_ARM
  activate : Option (Nat × Nat) := none  -- CID and handle carried across a hitless activation (R354)
  revertStatus : Option Nat := none
  bank : Two Nat := ⟨0, 0⟩            -- microcode version each leg's lanes run
  lastFlume : Nat := 0
  warmAt : Bool := false              -- a warm reset is due (R353)
  bootCold : Bool := false            -- the next first heartbeat follows a cold start
  deepBoot : Bool := false
deriving DecidableEq, Repr

/-- Power states, sleep and resets beyond their registers (R365 to R386). (DESIGN CHOICE, log 2.) -/
structure PwrSt where
  cause : Nat := 0                    -- the move's cause: 0 none, 1 PERST#, 2 BMC (R368)
  wakeArisen : Bool := false
  pendWake : List Nat := []           -- wake causes recorded during an entry to deep sleep
  sleepReq : List Nat := []           -- TXIDs of the SLEEP requests outstanding
  granted : Option (Nat × Nat) := none -- CYCLE_SF and EFF_SFC of an accepted SLEEP
  asleep : Bool := false              -- in sleep
  awake : Bool := false               -- within an awake span of it (R371)
  wakeReq : Option Nat := none        -- TXID of the REQUEST WAKE
  coarse : Nat := 0                   -- the latched time, 2^-40 ns
  entryBound : Nat := 0
  savedEnable : Nat × Nat := (0, 0)
  off : Bool := false
  brownCell : Bool := false           -- the comparator cell's flag (R380)
  poweredOnce : Bool := false
  firstMark : Bool := false           -- the next marker follows a doze (R35, R372)
  held : Bool := true                 -- PWR_GOOD low
  moveDue : Bool := false             -- a move of R368 waits for firmware
  bmcWait : List (Option Nat) := []   -- requests of the BMC that wait for firmware, oldest first
  entering : Bool := false            -- entry step 1 of R374 has begun
  bootIn : BootInput := ⟨false, 0, false, false, false, false, false, false⟩  -- what the last cold start found
  bootWait : Bool := false            -- the cold start waits for REF (R385)
  retryAt : Nat := 0                  -- nanosecond of running time from which RETRY_S counts (R369, R373)
deriving DecidableEq, Repr

/-- Row histories of the protected memories (R412): key 2^24 x instance + row; 2 asks for a spare at the next visit. (DESIGN CHOICE, log 2.) -/
structure MemSt where
  corrVisits : Tab Nat := []
  covered : List Nat := []             -- instances whose last row the present pass has visited (R413)
  passAt : Nat := 0                    -- milliseconds of running time at which the present pass began
deriving DecidableEq, Repr

/-- A request to a head end that awaits its RESPONSE (R71). (DESIGN CHOICE, log 22.) -/
structure Req where
  txid : Nat
  leg : Leg
  code : Nat
  msg : Nat
  frags : List Nat := []              -- a TERM_REPLY's fragments, sent as KEY_EXCHANGE messages (R223)
  retries : Nat := 0
  due : Bool := true                  -- to be sent at the leg's next opportunity; a TERM_REPLY until its last fragment is sent
  sent : Bool := false                -- it has been sent on that leg
deriving DecidableEq, Repr

/-- The functions' MSI-X tables and pending bits (R283, R284). (PRESUMED, log 63.) -/
structure MsiSt where
  tab : Tab Nat := []     -- words by 512 x function + 4 x vector + word, exclusive-or with reset (Vector Control resets to masked)
  pend : Tab Nat := []    -- pending bits by 128 x function + vector
deriving DecidableEq, Repr

structure State where
  regs : Tab Nat := []                -- register fields (Regs files), exclusive-or with reset
  fwRegs : Tab Nat := []              -- firmware's own instances of the command registers (R408)
  latches : Tab Nat := []             -- each agent's latched high words (R409)
  la : LegSt := {}
  lb : LegSt := {}
  time : TimeSt := {}
  tev : TevSt := {}
  slots : Tab SlotSt := []
  bursts : List Burst := []           -- in the order built
  led : Ledger := {}
  seqs : Tab Nat := []                -- SEQ counters (R164): key 2^4 x upstream frame + 2 x leg + wave
  host : HostSt := {}
  cls : ClsSt := {}
  ciph : CiphSt := {}
  slu : SluSt := {}
  prot : ProtSt := {}
  pm : PmSt := {}
  mbx : MbxSt := {}
  adm : AdmSt := {}
  fw : FwSt := {}
  pwr : PwrSt := {}
  mem : MemSt := {}
  reqs : List Req := []
  txid : Nat := 0x8000                -- next terminal-originated TXID (R71; the first is a DESIGN CHOICE, log 22)
  msi : MsiSt := {}
  freeIdx : Nat := 0                  -- the model's own: how many free values have been taken
  out : List Output := []             -- the model's own: what has left the part
  pending : List Instr := []          -- the model's own: commands waiting
deriving DecidableEq, Repr

/-- The machine after reset: every field at the value the lists above and the Regs files give; the first TXID is
0x8000, the lowest of R71's range. (DESIGN CHOICE, log 1; DESIGN CHOICE, log 2; DESIGN CHOICE, log 22.) -/
def State.reset : State := {}

/-- No command of the table stops the machine: no fault is raised. -/
inductive Fault where
  | none
deriving DecidableEq, Repr

/-- Refusals: none is raised by a meaning; the one constructor names a row whose meaning is not written. -/
inductive Refusal where
  | notModelled (mnemonic : String)
deriving DecidableEq, Repr

end Sys2Proof.Machine
end

