-- ==== Sys2Proof/Machine/Ops.lean ====
section
/-! DEFINITION. The named operations over State that every family shares: register fields, the agents' own command registers,
free values, the trace of what leaves the part, interrupts, events (R309 to R315) and error logs (R316). -/

namespace Sys2Proof

/-- Where a field of instance i of leg l is kept in the register store. (DESIGN CHOICE, log 5.) -/
def Row.key (R : Row) (l i : Nat) : Nat := (R.addr + l * R.legStride + i * R.stride) * 64 + R.lo

/-- A field of a register store. (DESIGN CHOICE, log 5.) -/
def Row.get (R : Row) (l i : Nat) (t : Tab Nat) : Nat :=
  if i < R.n then (Tab.get 0 (R.key l i) t).xor R.reset else R.reset

/-- Set a field of a register store; an instance that does not exist is not written. (DESIGN CHOICE, log 5; DESIGN CHOICE, log 7.) -/
def Row.set (R : Row) (l i v : Nat) (t : Tab Nat) : Tab Nat :=
  if i < R.n then Tab.put 0 (R.key l i) ((v % 2 ^ R.width).xor R.reset) t else t

end Sys2Proof

namespace Sys2Proof.Machine

abbrev Out := Host.Outcome State Fault Refusal

/-! ### Register fields -/

/-- A register field. (DESIGN CHOICE, log 5.) -/
def State.rd (s : State) (R : Row) (l : Nat := 0) (i : Nat := 0) : Nat := R.get l i s.regs

/-- A register field written. (DESIGN CHOICE, log 5.) -/
def State.wr (s : State) (R : Row) (v : Nat) (l : Nat := 0) (i : Nat := 0) : State := { s with regs := R.set l i v s.regs }

def State.isOn (s : State) (R : Row) (l : Nat := 0) (i : Nat := 0) : Bool := s.rd R l i ≠ 0

/-- A counter advances; a 64-bit counter wraps (R415). -/
def State.inc (s : State) (R : Row) (l : Nat := 0) (i : Nat := 0) (by' : Nat := 1) : State := s.wr R (s.rd R l i + by') l i

/-- A count that saturates at the field's largest value. -/
def State.incSat (s : State) (R : Row) (l : Nat := 0) (i : Nat := 0) (by' : Nat := 1) : State :=
  s.wr R (min (s.rd R l i + by') (2 ^ R.width - 1)) l i

/-- A count of what is held goes down, never below zero. -/
def State.dec (s : State) (R : Row) (l : Nat := 0) (i : Nat := 0) (by' : Nat := 1) : State := s.wr R (s.rd R l i - by') l i

/-- Set a field's bit i. -/
def State.setBit (s : State) (R : Row) (l i : Nat) : State :=
  if bit (s.rd R l) i = 1 then s else s.wr R (s.rd R l + 2 ^ i) l

/-- A pair of LO and HI fields (R7). -/
def State.rd2 (s : State) (lo hi : Row) (l : Nat := 0) (i : Nat := 0) : Nat := s.rd lo l i + 2 ^ lo.width * s.rd hi l i

def State.wr2 (s : State) (lo hi : Row) (v : Nat) (l : Nat := 0) (i : Nat := 0) : State :=
  (s.wr lo v l i).wr hi (v / 2 ^ lo.width) l i

/-- A command register of the agent's own instance (R408): firmware has one, every other agent uses the PF's. -/
def State.rdA (s : State) (ag : Agent) (R : Row) (l : Nat := 0) (i : Nat := 0) : Nat :=
  if ag.isFw then R.get l i s.fwRegs else R.get l i s.regs

def State.wrA (s : State) (ag : Agent) (R : Row) (v : Nat) (l : Nat := 0) (i : Nat := 0) : State :=
  if ag.isFw then { s with fwRegs := R.set l i v s.fwRegs } else { s with regs := R.set l i v s.regs }

/-! ### Legs, free values, the trace -/

def State.leg (s : State) : Leg → LegSt
  | .a => s.la
  | .b => s.lb

def State.upd (s : State) (l : Leg) (f : LegSt → LegSt) : State :=
  match l with
  | .a => { s with la := f s.la }
  | .b => { s with lb := f s.lb }

def State.wave (s : State) (l : Leg) (w : Nat) : Wave := (s.leg l).waves.get w

def State.updWave (s : State) (l : Leg) (w : Nat) (f : Wave → Wave) : State :=
  s.upd l fun g => { g with waves := g.waves.upd w f }

/-- The active leg (R13). -/
def State.active (s : State) : Leg := Leg.ofBit (s.rd Reg.PROT_STATUS_ACTIVE)

/-- The next index at which a free value is taken. -/
def State.spend (s : State) : State := { s with freeIdx := s.freeIdx + 1 }

/-- Something leaves the part. (DESIGN CHOICE, log 4.) -/
def State.emit (s : State) (o : Output) : State := { s with out := s.out ++ [o] }

/-! ### The counter as seconds and nanoseconds (R98) -/

def State.ns16 (s : State) : Nat := s.time.now40 / 2 ^ 24          -- 2^-16 ns
def State.nsNow (s : State) : Nat := s.time.now40 / 2 ^ 40
def State.secNow (s : State) : Nat := s.nsNow / 1000000000
def State.msNow (s : State) : Nat := s.nsNow / 1000000

/-! ### Running time: what intervals are measured in, which a step or a REBASE does not move. (DEDUCED, log 64.) -/

/-- Running time in 2^-16 ns. (DEDUCED, log 64.) -/
def State.run16 (s : State) : Nat := s.time.run40 / 2 ^ 24
def State.runNs (s : State) : Nat := s.time.run40 / 2 ^ 40
def State.runMs (s : State) : Nat := s.runNs / 1000000
def State.runSec (s : State) : Nat := s.runNs / 1000000000

/-! ### Clock domains (R21) -/

/-- The domains whose stopping R21 makes visible; CORE in idle keeps the branches that R365 names. -/
inductive Dom where
  | core | mgmt | time | pcie | side
deriving DecidableEq, Repr

/-- The PCIe domain runs: from PERST#'s deassertion, and not after a request of the BMC, in run and idle (R21, R368, R385). -/
def State.pcieOn (s : State) : Bool := s.rd Reg.PWR_STATUS_STATE ≤ 1 && !s.isOn Reg.PWR_STATUS_PERST && s.pwr.cause != 2

/-- A domain runs in the present power state (R21). -/
def State.runs (s : State) (d : Dom) : Bool :=
  !s.pwr.off && (match d with
    | .core => s.rd Reg.PWR_STATUS_STATE ≤ 1
    | .pcie => s.pcieOn
    | .mgmt => s.rd Reg.PWR_STATUS_STATE ≤ 3
    | .time => s.rd Reg.PWR_STATUS_STATE ≤ 3
    | .side => s.rd Reg.PWR_STATUS_STATE ≤ 3)

/-- What a stopped domain would do does not happen. -/
def State.inDom (s : State) (d : Dom) (f : State → State) : State := if s.runs d then f s else s

/-- The items of `HostSt.cfg` and their reset values: Max Payload 128, Max Read Request 512, the rest 0. (PRESUMED, log 68.) -/
def Cfg.maxPayload : Nat := 0
def Cfg.maxRead : Nat := 1
def Cfg.cplTimeout : Nat := 2
def Cfg.d3hot : Nat := 3
def Cfg.aspm : Nat := 4
def Cfg.ltr : Nat := 5
def Cfg.tag10 : Nat := 6
def Cfg.tag14 : Nat := 7
def Cfg.fnMask : Nat := 8

def Cfg.reset (item : Nat) : Nat := if item = 1 then 2 else 0

/-- An item of a function's configuration space. (PRESUMED, log 68.) -/
def State.cfg (s : State) (f item : Nat) : Nat := (Tab.get 0 (16 * f + item) s.host.cfg).xor (Cfg.reset item)

def State.setCfg (s : State) (f item v : Nat) : State :=
  { s with host := { s.host with cfg := Tab.put 0 (16 * f + item) (v.xor (Cfg.reset item)) s.host.cfg } }

/-- The PF and firmware reach the register windows (R408) while their clock domain runs (R21), the PF in D0 (R278); a VF and the BMC have no path to them
(R406, R329). -/
def State.reach (s : State) : Agent → Bool
  | .pf => s.runs .pcie && s.cfg 0 Cfg.d3hot == 0
  | .fw _ => s.runs .mgmt
  | _ => false

/-- The path of an agent to the mailboxes runs: PCIe, the management cores or the sideband (R318, R21). -/
def State.path (s : State) : Agent → Bool
  | .pf => s.runs .pcie && s.cfg 0 Cfg.d3hot == 0
  | .vf n => s.runs .pcie && s.cfg n Cfg.d3hot == 0
  | .fw _ => s.runs .mgmt
  | .bmc => s.runs .side

def State.via (s : State) (ag : Agent) (f : State → State) : State := if s.path ag then f s else s

def State.reg (s : State) (ag : Agent) (f : State → State) : State := if s.reach ag then f s else s

/-- Some element of a list of numbers; `List.any` over a membership test. -/
def has (l : List Nat) (n : Nat) : Bool := l.any fun m => m == n

/-- A superframe of the kept leg is awake (R371). -/
def State.awakeSf (s : State) (sfc : Nat) : Bool :=
  let eff := s.rd2 Reg.PWR_SLEEP_EFF_LO Reg.PWR_SLEEP_EFF_HI
  sfc < eff || (sfc - eff) % max 1 (s.rd Reg.PWR_SLEEP_CTL_CYCLE_SF) == 0

/-- The life cycle gives line service and key exchange (R360). -/
def State.lineService (s : State) : Bool := let st := s.rd Reg.FW_LC_STATE; st == 1 || st == 2

/-! ### Host interface: who may issue requests, ring geometry, interrupts -/

/-- The link is up, usable (R280) and not in hold (R304). -/
def State.linkOk (s : State) : Bool := s.isOn Reg.HIF_LINK_UP && s.isOn Reg.HIF_LINK_USABLE && !s.isOn Reg.HIF_LINK_HOLD

/-- The link is up, usable (R280) and not in hold (R304), and the function may issue requests (R305): it is not in D3hot (R278). -/
def State.canDma (s : State) (f : Nat) : Bool :=
  s.linkOk && s.isOn Reg.HIF_FN_STATUS_BME 0 f && !s.isOn Reg.HIF_FN_STATUS_HOLD 0 f && !s.isOn Reg.HIF_FN_STATUS_FLR_BUSY 0 f && s.cfg f Cfg.d3hot == 0

/-- The sizes of R278 by code: Max Payload to 512 bytes, Max Read Request to 4,096. (PRESUMED, log 68.) -/
def State.maxPayload (s : State) : Nat := 128 * 2 ^ min (s.cfg 0 Cfg.maxPayload) 2
def State.maxRead (s : State) : Nat := 128 * 2 ^ min (s.cfg 0 Cfg.maxRead) 5

/-- A run of bytes cut at the multiples of a size: each piece's address and length. -/
def pieces (size : Nat) : Nat → Nat → Nat → List (Nat × Nat)
  | 0, _, _ => []
  | fuel + 1, addr, len =>
    if len = 0 then [] else
    let n := min len (size - addr % size)
    (addr, n) :: pieces size fuel (addr + n) (len - n)

/-- The writes of host memory that carry data: one request for each Max Payload of it. (DESIGN CHOICE, log 68.) -/
def State.dmaWrites (s : State) (f addr : Nat) (relaxed : Bool) (data : List Byte) : List Output :=
  (pieces s.maxPayload (data.length / 128 + 2) addr data.length).map fun (a, n) => .hostWrite f a relaxed (slice data (a - addr) n)

def State.emits (s : State) (os : List Output) : State := { s with out := s.out ++ os }

/-- The tags a requester may have outstanding: 8-bit, 10-bit or 14-bit (R278). (PRESUMED, log 68.) -/
def State.tagLimit (s : State) : Nat := if s.cfg 0 Cfg.tag14 ≠ 0 then 16384 else if s.cfg 0 Cfg.tag10 ≠ 0 then 1024 else 256

/-- The lowest tag that no read holds. -/
def State.freshTag (s : State) : Nat :=
  ((List.range (s.host.reads.length + 1)).find? fun t => !s.host.reads.any fun r => r.tag == t).getD s.host.reads.length

/-- Bytes of the read completion buffer that outstanding reads have reserved (R308). -/
def State.cplReserved (s : State) : Nat := s.host.reads.foldl (fun n r => n + r.len) 0

/-- A read of n bytes may be issued: the function may, a tag is free, and its completions have room (R308), which they have when nothing
else is outstanding. (DESIGN CHOICE, log 56.) -/
def State.canRead (s : State) (f n : Nat) : Bool :=
  s.canDma f && decide (s.host.reads.length < s.tagLimit) &&
  (s.host.reads.isEmpty || decide (s.cplReserved + n ≤ (Config.cplBuffer 0).toNat))

/-- The read requests of a transfer whose data the same command brings: one for each Max Read Request of it. (DESIGN CHOICE, log 68.) -/
def State.askHost (s : State) (f addr n : Nat) : State :=
  s.emits ((pieces s.maxRead (n / 128 + 2) addr n).map fun (a, k) => .hostRead s.freshTag f a k)

/-- log2 of a ring's entries: a SIZE below 6 acts as 6, above 16 as 16. -/
def ringLog (size : Nat) : Nat := if size < 6 then 6 else if size > 16 then 16 else size

/-- The capacity of R286. -/
def ringCap (size : Nat) : Nat := if ringLog size = 16 then 65535 else 2 ^ ringLog size

/-- (x - y) mod 2^16. -/
def sub16 (x y : Nat) : Nat := (x + 65536 - y % 65536) % 65536

/-- The MSI-X table size of a function (R278). -/
def vecCount (f : Nat) : Nat := if f = 0 then 128 else 15

/-- A word of a function's MSI-X table (R283, R284): of four words per vector, address, upper address, data, Vector Control.
(PRESUMED, log 63.) -/
def State.msixWord (s : State) (f i : Nat) : Nat := (Tab.get 0 (512 * f + i) s.msi.tab).xor (b2n (i % 4 = 3))

/-- The function may send messages: its MSI-X is enabled, the vector exists, and it may issue requests (R278, R280). -/
def State.msixCan (s : State) (f vec : Nat) : Bool :=
  vec < vecCount f && Tab.get 0 f s.host.msixEn ≠ 0 && s.canDma f

/-- The vector is masked: by its own Mask bit or the function's (R300). -/
def State.msixMasked (s : State) (f vec : Nat) : Bool := s.msixWord f (4 * vec + 3) % 2 == 1 || s.cfg f Cfg.fnMask != 0

/-- Set or clear a pending bit. -/
def State.msixPend (s : State) (f vec v : Nat) : State :=
  { s with msi := { s.msi with pend := Tab.put 0 (128 * f + vec) v s.msi.pend } }

/-- The vector's message: its data, written to its address. -/
def State.msixMessage (s : State) (f vec : Nat) : State :=
  s.emit (.msix f vec (s.msixWord f (4 * vec) + 2 ^ 32 * s.msixWord f (4 * vec + 1)) (s.msixWord f (4 * vec + 2)))

/-- Send a vector's message when the function's MSI-X is enabled and the vector exists (R300); a masked vector's waits in the pending bit
array. (PRESUMED, log 63.) -/
def State.msix (s : State) (f vec : Nat) : State :=
  if s.msixCan f vec then (if s.msixMasked f vec then s.msixPend f vec 1 else s.msixMessage f vec) else s

/-- Send the pending message of a vector that is not masked any more. -/
def State.msixFlush (s : State) (f vec : Nat) : State :=
  if Tab.get 0 (128 * f + vec) s.msi.pend ≠ 0 && !s.msixMasked f vec && s.msixCan f vec then (s.msixPend f vec 0).msixMessage f vec else s

/-- The same for every vector of a function. -/
def State.msixFlushAll (s : State) (f : Nat) : State := (List.range (vecCount f)).foldl (fun s vec => s.msixFlush f vec) s

/-- A write of a word of the table: the address is DWORD aligned, and of Vector Control only the mask bit is there. (PRESUMED, log 63.) -/
def State.msixWrite (s : State) (f i v : Nat) : State :=
  if i < 4 * vecCount f then
    let v := if i % 4 = 0 then v - v % 4 else if i % 4 = 3 then v % 2 else v
    { s with msi := { s.msi with tab := Tab.put 0 (512 * f + i) (v.xor (b2n (i % 4 = 3))) s.msi.tab } }.msixFlush f (i / 4)
  else s

/-- A word of the pending bit array: 32 vectors, the lowest in bit 0. (PRESUMED, log 63.) -/
def State.msixPba (s : State) (f j : Nat) : Nat :=
  ((List.range 32).map fun k => if 32 * j + k < vecCount f && Tab.get 0 (128 * f + 32 * j + k) s.msi.pend ≠ 0 then 2 ^ k else 0).sum

/-- The table and the pending bits of one function return to reset. (PRESUMED, log 63.) -/
def State.msixReset (s : State) (f : Nat) : State :=
  { s with msi := ⟨s.msi.tab.filter fun p => p.1 / 512 != f, s.msi.pend.filter fun p => p.1 / 128 != f⟩ }

/-- The instances of a field that hold v, where v is not the reset value (R285: the rings a VF owns, lowest first). -/
def State.owned (s : State) (R : Row) (v : Nat) : List Nat :=
  s.regs.filterMap fun (k, x) =>
    if R.key 0 0 ≤ k && (k - R.key 0 0) % (R.stride * 64) == 0 && (k - R.key 0 0) / (R.stride * 64) < R.n && x.xor R.reset == v
    then some ((k - R.key 0 0) / (R.stride * 64)) else none

/-- The place of x in a list. -/
def place (l : List Nat) (x : Nat) : Nat :=
  match l with
  | [] => 0
  | y :: r => if y = x then 0 else place r x + 1

/-- A transmit queue's owner is its container slot's (R147). -/
def State.txOwner (s : State) (q : Nat) : Nat := s.rd Reg.USCH_CT_CTL_OWNER 0 (q / 64)

def State.ringOwner (s : State) : RingKind → Nat → Nat
  | .tx, q => s.txOwner q
  | .rx, r => s.rd Reg.HIF_RX_CTL_OWNER 0 r
  | .cq, c => s.rd Reg.HIF_CQ_CTL_OWNER 0 c
  | .eq, e => s.rd Reg.HIF_EQ_CTL_OWNER 0 e
  | .asq, _ => 0
  | .acq, _ => 0

/-- A ring's number as a function numbers it: a VF by local index (R285), the PF by the global number. -/
def State.localIdx (s : State) (kind : RingKind) (f ring : Nat) : Nat :=
  if f = 0 then ring else
  match kind with
  | .tx => 64 * place (s.owned Reg.USCH_CT_CTL_OWNER f) (ring / 64) + ring % 64
  | .rx => place (s.owned Reg.HIF_RX_CTL_OWNER f) ring
  | .cq => place (s.owned Reg.HIF_CQ_CTL_OWNER f) ring
  | .eq => place (s.owned Reg.HIF_EQ_CTL_OWNER f) ring
  | _ => ring

/-- The k-th of a function's rings of a kind (R285); for the PF, ring k itself. -/
def State.globalIdx (s : State) (kind : RingKind) (f k : Nat) : Option Nat :=
  if f = 0 then some k else
  match kind with
  | .tx => (s.owned Reg.USCH_CT_CTL_OWNER f)[k / 64]?.map fun c => 64 * c + k % 64
  | .rx => (s.owned Reg.HIF_RX_CTL_OWNER f)[k]?
  | .cq => (s.owned Reg.HIF_CQ_CTL_OWNER f)[k]?
  | .eq => (s.owned Reg.HIF_EQ_CTL_OWNER f)[k]?
  | _ => some k

/-! ### Event rings -/

def State.eq (s : State) (e : Nat) : CqR := Tab.get {} e s.host.eqs
def State.setEq (s : State) (e : Nat) (f : CqR → CqR) : State :=
  { s with host := { s.host with eqs := Tab.put {} e (f (s.eq e)) s.host.eqs } }

/-- Write the entry a ring holds back first: position PROD, with its sequence number and PHASE, then the interrupt (R299, R300, R309).
`body` has zeros where the ring's sequence number and PHASE go. -/
def State.eqWrite (s : State) (e : Nat) (body : List Byte) : State :=
  let r := s.eq e
  let sz := ringLog (s.rd Reg.HIF_EQ_CTL_SIZE 0 e)
  let own := s.rd Reg.HIF_EQ_CTL_OWNER 0 e
  let phase := 1 - (r.count / 2 ^ sz) % 2
  let w0 := leNat (body.take 2) + 32768 * phase + 1024 * b2n r.pendLost
  let entry := leBytes 2 w0 ++ leBytes 2 r.count ++ body.drop 4
  let addr := s.rd2 Reg.HIF_EQ_BASE_LO Reg.HIF_EQ_BASE_HI 0 e + 16 * (r.count % 2 ^ sz)
  let s := s.emit (.hostWrite own addr false entry)
  let s := (s.wr Reg.HIF_EQ_IDX_PROD (r.count + 1) 0 e).wr Reg.HIF_EQ_SEQ (r.count + 1) 0 e
  let s := (s.inc Reg.HIF_EQ_CWR_CNT 0 e).inc Reg.EVT_CNT_EVT_WRITTEN
  let full := s.rd Reg.HIF_EQ_INT_MOD_CNT 0 e
  let fire := s.isOn Reg.HIF_EQ_INT_INT_EN 0 e && r.unsig + 1 ≥ max full 1
  let s := s.setEq e fun _ => { r with count := r.count + 1, unsig := if fire then 0 else r.unsig + 1,
                                       dropping := r.dropping && !r.pendLost, pendLost := false }
  if fire then s.msix own (s.rd Reg.HIF_EQ_INT_VEC 0 e) else s

/-- The 16-byte body of an event entry or log entry, without sequence number, PHASE and LOST (R309). -/
def State.evtBody (s : State) (src det : Nat) : List Byte :=
  leBytes 2 src ++ zeros 2 ++ leBytes 4 det ++ leBytes 4 s.secNow ++ leBytes 4 (s.nsNow % 1000000000)

/-- Write an event to the on-die log (R315): 4,096 entries, the oldest overwritten when full. -/
def State.evtLog (s : State) (src det : Nat) : State :=
  let h := s.host
  let e := (src + 65536 * (h.logSeq % 65536), det % 2 ^ 32, s.secNow % 2 ^ 32, s.nsNow % 1000000000)
  if h.log.length ≥ 4096 then
    { s with host := { h with log := h.log.drop 1 ++ [e], logSeq := h.logSeq + 1 } }.inc Reg.EVT_LOG_EVT_LOG_LOST
  else { s with host := { h with log := h.log ++ [e], logSeq := h.logSeq + 1 } }

/-- An event that goes to no ring, though it was routed to one (R310, R311). -/
def State.evtDrop (s : State) : State := s.inc Reg.EVT_CNT_EVT_DROPPED

/-- Sources whose MODE = OWNER means their owner: containers, mailboxes and host sources (R310). -/
def ownedSource (src : Nat) : Bool := (192 ≤ src && src < 448) || (512 ≤ src && src < 600)

/-- Raise source src: the log, then the route of R310 and the ring rules of R311. `own` is the owning function where R313 gives
one; `detL` is DETAIL with ring numbers as that function numbers them. `fuel` bounds the EQ_OVERFLOW that a full ring raises. -/
def State.raiseFuel (fuel : Nat) (s : State) (src : Nat) (own : Option Nat) (det detL : Nat) : State :=
  let s := s.evtLog src det
  if !s.isOn Reg.EVT_ROUTE_EN 0 src then s else
  let byOwner : Option Nat := if s.isOn Reg.EVT_ROUTE_MODE 0 src && ownedSource src then own.filter (· ≤ 128) else none
  let target : Option (Nat × Nat) :=
    match byOwner with
    | some f =>
      let e := s.rd Reg.HIF_FN_EQ_DEF_EQ 0 f
      if s.isOn Reg.HIF_FN_EQ_DEF_EQ_EN 0 f && s.isOn Reg.HIF_EQ_CTL_EN 0 e && s.rd Reg.HIF_EQ_CTL_OWNER 0 e == f
      then some (e, if f = 0 then det else detL) else none
    | none =>
      let e := s.rd Reg.EVT_ROUTE_RING 0 src
      if s.isOn Reg.HIF_EQ_CTL_EN 0 e && s.rd Reg.HIF_EQ_CTL_OWNER 0 e == 0 then some (e, det) else none
  match target with
  | none => s.evtDrop
  | some (e, d) =>
    let r := s.eq e
    let held := sub16 (s.rd Reg.HIF_EQ_IDX_PROD 0 e + r.waiting.length) (s.rd Reg.HIF_EQ_IDX_CONS 0 e)
    if held ≥ ringCap (s.rd Reg.HIF_EQ_CTL_SIZE 0 e) then
      let s := (s.evtDrop).incSat Reg.HIF_EQ_SEQ_LOST 0 e
      let s := s.setEq e fun _ => { r with dropping := true, pendLost := true }
      match fuel with
      | 0 => s
      | k + 1 => if r.dropping then s else State.raiseFuel k s 594 (some 0) e e
    else if s.canDma (s.rd Reg.HIF_EQ_CTL_OWNER 0 e) then s.eqWrite e (s.evtBody src d)
    else s.setEq e fun _ => { r with waiting := r.waiting ++ [{ body := s.evtBody src d }] }

def State.raiseFor (s : State) (src : Nat) (own : Option Nat) (det detL : Nat) : State := s.raiseFuel 3 src own det detL

/-- Raise a source that has no owner. (DEDUCED, log 25; DEDUCED, log 26.) -/
def State.event (s : State) (src : Nat) (det : Nat := 0) : State := s.raiseFor src none det det

/-- Raise host source k of R313 for function f. -/
def State.hostEvent (s : State) (k f det detL : Nat) : State := s.raiseFor (576 + k) (some f) det detL

/-- Raise a host source that belongs to the PF. -/
def State.pfEvent (s : State) (k : Nat) (det : Nat := 0) : State := s.hostEvent k 0 det det

/-! ### Error logs (R316) -/

/-- Add an entry to function f's error log. (DEDUCED, log 24.) -/
def State.errLog (s : State) (f code status ring value : Nat) : State :=
  let l := Tab.get [] f s.host.errs
  let e := (code + 256 * status + 65536 * (ring % 65536), value % 2 ^ 32, s.secNow % 2 ^ 32, s.nsNow % 1000000000)
  if l.length ≥ 64 then
    let s := { s with host := { s.host with errs := Tab.put [] f (l.drop 1 ++ [e]) s.host.errs } }
    let s := if f = 0 then s.incSat Reg.HIF_ERRLOG_STATUS_ERRLOG_LOST
      else { s with host := { s.host with errLost := Tab.put 0 f (min (Tab.get 0 f s.host.errLost + 1) 65535) s.host.errLost } }
    s.hostEvent 19 f f f
  else { s with host := { s.host with errs := Tab.put [] f (l ++ [e]) s.host.errs } }

/-- DETAIL of RING_ERROR, DMA_READ_ERR and CPL_TIMEOUT (R313). -/
def ringDetail (f ring kind : Nat) : Nat := f + 65536 * ring + 2 ^ 29 * kind

/-- The PF's AER reports an uncorrectable error; an advisory one is reported as correctable (R278, R282). (PRESUMED, log 67.) -/
def State.aerReport (s : State) (bit' : Nat) (advisory : Bool) : State :=
  let s := { s with host := { s.host with aerU := Nat.lor s.host.aerU (2 ^ bit'),
                                          aerC := if advisory then Nat.lor s.host.aerC 8192 else s.host.aerC } }
  if advisory then s.pfEvent 10 s.host.aerC else s.pfEvent 11 s.host.aerU

def Aer.unexpected : Nat := 16
def Aer.malformed : Nat := 18

/-- A read of host memory that failed (R282, R304): what it counts, the source it raises with the kind of R313, and its entry in the owner's
error log (R316); an owner above 128 is no function and has none. `loc` is the ring as the owner numbers it. (PRESUMED, log 67.) -/
def State.readFault (s : State) (own ring loc kind addr : Nat) (why : ReadFault) : State :=
  let s := match why with
    | .errored => s.hostEvent 6 own (ringDetail own ring kind) (ringDetail own loc kind)
    | .malformed => ((s.inc Reg.HIF_CNT_CPL_MALFORMED).aerReport Aer.malformed false).pfEvent 9
    | .timedOut => (s.inc Reg.HIF_CNT_CPL_TIMEOUT).hostEvent 8 own (ringDetail own ring kind) (ringDetail own loc kind)
    | .linkLost => s
  if own > 128 then s else
  match why with
  | .errored => s.errLog own 3 why.status loc addr
  | .malformed => s.errLog own 5 why.status loc addr
  | .timedOut => s.errLog own 4 why.status loc addr
  | .linkLost => s.errLog own 6 why.status loc 0

/-! ### Event source numbers (R312) -/

/-- Per-wave source k of a leg and a wave (0 to 3 D0 to D3, 4 U0, 5 U1). -/
def Ev.wave (l : Leg) (w k : Nat) : Nat := 48 * l.n + 8 * w + k
/-- The number of a leg's source (R312). (DEDUCED, log 25.) -/
def Ev.leg (l : Leg) (k : Nat) : Nat := 96 + 12 * l.n + k
def Ev.act (l : Leg) (k : Nat) : Nat := 120 + 8 * l.n + k
def Ev.hg (l : Leg) (k : Nat) : Nat := 136 + 4 * l.n + k
def Ev.time (k : Nat) : Nat := 144 + k
def Ev.timeLeg (l : Leg) (k : Nat) : Nat := 160 + 4 * l.n + k
def Ev.chan (n : Nat) : Nat := 168 + n
def Ev.cap (n : Nat) : Nat := 184 + n
def Ev.slot (n k : Nat) : Nat := 192 + 2 * n + k
def Ev.cls (k : Nat) : Nat := 448 + k
def Ev.ciph (k : Nat) : Nat := 468 + k
def Ev.slu (k : Nat) : Nat := 480 + k
def Ev.prot (k : Nat) : Nat := 496 + k
def Ev.mbx (n : Nat) : Nat := 512 + n
def Ev.pwr (k : Nat) : Nat := 600 + k
def Ev.fw (k : Nat) : Nat := 612 + k
def Ev.mem (k : Nat) : Nat := 624 + k

/-- Raise a container source for the slot's owner (R310, R313). -/
def State.slotEvent (s : State) (slot k det : Nat) : State :=
  s.raiseFor (Ev.slot slot k) (some (s.rd Reg.USCH_CT_CTL_OWNER 0 slot)) det det

/-! ### Status codes of R317 -/

def St.ok : Nat := 0
def St.busy : Nat := 1
def St.invalid : Nat := 2
def St.denied : Nat := 3
def St.notFound : Nat := 4
def St.suspended : Nat := 5
def St.cancelled : Nat := 6
def St.timeout : Nat := 7
def St.versionMismatch : Nat := 8
def St.hostLinkLost : Nat := 9
def St.flushedPartial : Nat := 10
def St.busyRestarting : Nat := 11
def St.settingsUnreadable : Nat := 12
def St.untested : Nat := 13
def St.outOfWindow : Nat := 14
def St.noResources : Nat := 15

end Sys2Proof.Machine
end

