-- ==== Sys2Proof/Machine/Restore.lean ====
section
/-! DEFINITION. Which register fields the settings store holds (R358) and which deep sleep retains (R376). -/

namespace Sys2Proof.Machine

/-- A key of the register store belongs to some instance of a field. -/
def Row.covers (R : Row) (k : Nat) : Bool :=
  let at' := fun (base : Nat) =>
    base ≤ k / 64 && (if R.stride = 0 then k / 64 == base else (k / 64 - base) % R.stride == 0 && (k / 64 - base) / R.stride < R.n)
  k % 64 == R.lo && (at' R.addr || (R.legStride != 0 && at' (R.addr + R.legStride)))

/-- What SETTINGS_SAVE stores and the boot restores: the fields whose reset is fw, T_EQ, the TRIM values, CIPH_HEKEY and
CIPH_PART, mailbox ownership, the trial window and the preferred leg (R358, R385). -/
def settingRows : List Row := [
  Reg.MBX_OWN_OWNER, Reg.FW_CTL_TRIAL_MIN, Reg.PWR_CTL_TARGET, Reg.TIME_LEG_LASER_U_KT, Reg.TIME_LEG_LASER_U_KI,
  Reg.TIME_LEG_LASER_REF_T_REF, Reg.TIME_LEG_LASER_REF_I_REF, Reg.TIME_LEG_RX_FACT, Reg.TIME_LEG_RX_TRIM, Reg.TIME_LEG_TXU_FACT,
  Reg.TIME_LEG_TXU_TRIM, Reg.TIME_LEG_SKEW_FACT, Reg.TIME_LEG_SKEW_TRIM, Reg.TIME_LEG_TEQ, Reg.TIME_LEG_TEQ_TEQ_VALID,
  Reg.TEV_PPS_CTL_EN, Reg.SLU_CTL_EN, Reg.OPT_LANE_POL, Reg.OPT_TXFFE_PRE, Reg.OPT_TXFFE_MAIN, Reg.OPT_TXFFE_POST,
  Reg.OPT_LIFE_I_I_BOL, Reg.OPT_LIFE_I_I_EOL, Reg.CIPH_PART_LINE_SLOTS, Reg.CIPH_HEKEY_HASH, Reg.PROT_CTL_PREF]

/-- What the store also holds for firmware's own bring-up writes (R385). -/
def bringUpRows : List Row := [
  Reg.ACT_CTL_ENABLE, Reg.HG_CTL_TX_ALLOW]

/-- Power group of R376. -/
def retainPower : List Row := [
  Reg.PWR_CTL_IDLE_EN, Reg.PWR_CTL_IDLE_US, Reg.PWR_CTL_TARGET, Reg.PWR_SLEEP_CTL_CYCLE_REQ, Reg.PWR_SLEEP_CTL_LEAD_US,
  Reg.PWR_SLEEP_CTL_RETRY_S, Reg.PWR_WAKE_EN, Reg.PWR_AON_TIMER_SECONDS, Reg.PWR_AON_CTL_PPM, Reg.PWR_CNT_IDLE_ENTRIES,
  Reg.PWR_CNT_SLEEP_ENTRIES, Reg.PWR_CNT_AWAKE_SF, Reg.PWR_CNT_DEEP_ENTRIES, Reg.PWR_CNT_BROWN_OUTS, Reg.PWR_CNT_WARM_RESETS,
  Reg.PWR_RST_CAUSE]

/-- Time engine group of R376. -/
def retainTimeEngine : List Row := [
  Reg.TIME_CTL_SERVO_EN, Reg.TIME_QUAL_QUALITY, Reg.TIME_QUAL_STEP_DONE, Reg.TIME_QUAL_GEN, Reg.TIME_BOUND, Reg.TIME_BOUND_OWN,
  Reg.TIME_SERVO_TC, Reg.TIME_SERVO_CTL_LOCK_Q, Reg.TIME_SERVO_CTL_LOCK_SF, Reg.TIME_SERVO_CTL_UNLOCK_Q,
  Reg.TIME_SERVO_CTL_UNLOCK_SF, Reg.TIME_HO_CTL_LIMIT, Reg.TIME_HO_CTL_SQ_PPS, Reg.TIME_HO_CTL_SQ_TEV, Reg.TIME_HO_AGING,
  Reg.TIME_HO_TEMP, Reg.TIME_VOTE_CTL_PERSIST, Reg.TIME_LEG_TEQ, Reg.TIME_LEG_TEQ_TEQ_VALID, Reg.TIME_LEG_LASER_U_KT,
  Reg.TIME_LEG_LASER_U_KI, Reg.TIME_LEG_LASER_REF_T_REF, Reg.TIME_LEG_LASER_REF_I_REF, Reg.TIME_LEG_RX_FACT, Reg.TIME_LEG_RX_TRIM,
  Reg.TIME_LEG_TXU_FACT, Reg.TIME_LEG_TXU_TRIM, Reg.TIME_LEG_SKEW_FACT, Reg.TIME_LEG_SKEW_TRIM, Reg.TIME_LEG_FIT_K,
  Reg.TIME_LEG_FIT_L0, Reg.TIME_LEG_FIT_LEN, Reg.TIME_LEG_FIT_RESID]

/-- Time services group of R376. -/
def retainTimeServices : List Row := [
  Reg.TEV_CH_CTL_MODE, Reg.TEV_CH_CTL_POL, Reg.TEV_CH_CTL_STOP_SRC, Reg.TEV_CH_CTL_REBASE_POL, Reg.TEV_CH_CTL_RESYNC,
  Reg.TEV_CH_TGT_SEC_LO, Reg.TEV_CH_TGT_SEC_HI, Reg.TEV_CH_TGT_NS, Reg.TEV_CH_WIDTH, Reg.TEV_CH_PERIOD_NS, Reg.TEV_CH_PERIOD_FRAC,
  Reg.TEV_CH_COUNT, Reg.TEV_CH_COMP, Reg.TEV_PPS_CTL_EN, Reg.TEV_PPS_CTL_POL, Reg.TEV_PPS_CTL_COMP, Reg.TEV_PPS_WIDTH,
  Reg.TEV_TCAP_CTL_EN, Reg.TEV_TCAP_CTL_EDGE, Reg.TEV_TCAP_CTL_COMP, Reg.TEV_LT_CTL_HORIZON_MS, Reg.TEV_LT_CTL_REBASE_FLUSH,
  Reg.TEV_PTM_CTL_AUTO, Reg.TEV_PTM_CTL_PERIOD_MS]

/-- Activation and headgate group of R376. -/
def retainActivationAndHeadgate : List Row := [
  Reg.ACT_CTL_ENABLE, Reg.ACT_REG_CTL_LISTEN_SF, Reg.ACT_RNG_CTL_TIMEOUT_SF, Reg.ACT_KR_CTL_MISS_LIMIT, Reg.HG_CTL_TX_ALLOW,
  Reg.HG_CTL_FORCE_TXDIS, Reg.HG_CAP_LIMIT, Reg.HG_MAXB_LIMIT, Reg.HG_ROGUE_CTL_FILTER, Reg.HG_LATCH_MASK, Reg.HG_STATUS_ROGUE,
  Reg.HG_STATUS_ESTOP]

/-- Line group of R376. -/
def retainLine : List Row := [
  Reg.LINE_DLN_CTL_SYNC_TOL, Reg.LINE_DLN_CTL_SYNC_CONFIRM, Reg.LINE_DLN_CTL_SYNC_LOSE, Reg.LINE_REQ_CTL_RETRY_SF,
  Reg.LINE_REQ_CTL_RETRIES]

/-- Protection and PM group of R376. -/
def retainProtectionAndPm : List Row := [
  Reg.PROT_CTL_REVERT, Reg.PROT_CTL_PREF, Reg.PROT_CTL_SD_SWITCH, Reg.PROT_CTL_FW_SWITCH, Reg.PROT_CTL_HOLDOFF,
  Reg.PROT_CTL_WTR_MIN, Reg.PROT_AUTO_CTL_MASK, Reg.PROT_LOS_CTL_LEVEL, Reg.PROT_LOS_CTL_DET_US, Reg.PROT_LOS_CTL_LOS_CLR_FR,
  Reg.PROT_LOF_CTL_CLR_FR, Reg.PROT_LOSY_CTL_ENTRY_FR, Reg.PROT_LOSY_CTL_CLR_FR, Reg.PROT_SF_CTL_SF_CW, Reg.PROT_SF_CTL_SF_CLR,
  Reg.PROT_SD_CW, Reg.PROT_SD_WIN, Reg.PROT_RR_STATUS_REASONS, Reg.PM_CTL_EN, Reg.PM_CTL_ALIGN_OFS, Reg.PM_TCA_THRESH]

/-- Cipher group of R376. -/
def retainCipher : List Row := [
  Reg.CIPH_CTL_LA_EN, Reg.CIPH_PART_LINE_SLOTS, Reg.CIPH_PART_LOCK, Reg.CIPH_HEKEY_HASH, Reg.CIPH_USLOT_KEY_SLOT,
  Reg.CIPH_USLOT_ENC]

/-- Mailboxes and routing group of R376. -/
def retainMailboxesAndRouting : List Row := [
  Reg.MBX_OWN_OWNER, Reg.EVT_ROUTE_RING, Reg.EVT_ROUTE_EN, Reg.EVT_ROUTE_MODE]

/-- The fields that deep sleep retains. -/
def retainRows : List Row := retainPower ++ retainTimeEngine ++ retainTimeServices ++ retainActivationAndHeadgate ++ retainLine ++ retainProtectionAndPm ++ retainCipher ++ retainMailboxesAndRouting

/-- The settings store restores the field (R358). (DEDUCED, log 42.) -/
def isSetting (k : Nat) : Bool := settingRows.any fun R => Row.covers R k
/-- The settings store holds the field (R358). (DEDUCED, log 42.) -/
def isStored (k : Nat) : Bool := isSetting k || bringUpRows.any fun R => Row.covers R k
def isRetained (k : Nat) : Bool := retainRows.any fun R => Row.covers R k

end Sys2Proof.Machine
end

