-- ==== Sys2Proof/Machine/Count.lean ====
section
/-! DEFINITION. What every family counts through: sources raised once a superframe (R277), performance bins and threshold crossings
(R270, R272), the spillway (R207), memory errors (R412, R414) and replacement requests (R275). -/

namespace Sys2Proof.Machine

/-- Raise a source of a leg at most once in the leg's superframe (R277). (DEDUCED, log 26.) -/
def State.once (s : State) (l : Leg) (src det : Nat) : State :=
  if has (s.leg l).once src then s else (s.upd l fun g => { g with once := src :: g.once }).event src det

/-! ### Performance bins -/

def pmKey (l : Leg) (w : Nat) : Nat := 8 * l.n + w

def addAt : List Nat → Nat → Nat → List Nat
  | [], _, _ => []
  | x :: r, 0, n => (x + n) % 2 ^ 64 :: r
  | x :: r, k + 1, n => x :: addAt r k n

/-- Counter k of the current bins of a wave takes an increment, while its leg is IN_SERVICE (R270); the 15-minute bin's threshold is
checked (R272). -/
def State.pmCount (s : State) (l : Leg) (w k n : Nat) : State :=
  if !s.isOn Reg.PM_CTL_EN || s.rd Reg.PM_LEG_STATE l.n ≠ 0 || n = 0 then s else
  let b := Tab.get {} (pmKey l w) s.pm.cur15
  let d := Tab.get {} (pmKey l w) s.pm.cur24
  let b := { b with valid := true, cnt := addAt b.cnt k n }
  let d := { d with valid := true, cnt := addAt d.cnt k n }
  let th := s.rd Reg.PM_TCA_THRESH 0 k
  let hit := th ≠ 0 && b.cnt.getD k 0 ≥ th && !has b.tca k
  let b := if hit then { b with tca := k :: b.tca } else b
  let s := { s with pm := { s.pm with cur15 := Tab.put {} (pmKey l w) b s.pm.cur15, cur24 := Tab.put {} (pmKey l w) d s.pm.cur24 } }
  if hit then
    let s := s.wr Reg.PM_TCA_STATUS_COUNTER (Nat.lor (s.rd Reg.PM_TCA_STATUS_COUNTER l.n) (2 ^ k)) l.n
    let s := s.wr Reg.PM_TCA_STATUS_WAVE (Nat.lor (s.rd Reg.PM_TCA_STATUS_WAVE l.n) (2 ^ w)) l.n
    (s.inc Reg.PM_CNT_TCA_EVENTS).event (Ev.prot 14)
  else s

/-- A bin as it closes, and the bin that opens after it (R269). -/
def State.closeBin (s : State) (l : Leg) (step : Bool) (b : Bin) : Bin :=
  { b with valid := true, step := b.step || step, active := s.active == l }

def State.openBin (s : State) (l : Leg) (step : Bool) : Bin :=
  { start := s.secNow, gen := s.rd Reg.TIME_QUAL_GEN, part := s.rd Reg.PM_LEG_STATE l.n ≠ 0, step := step,
    unlocked := s.rd Reg.TIME_QUAL_QUALITY ≠ 2 }

/-- The twelve (leg, wave) pairs with bins. -/
def binWaves : List (Leg × Nat) := [(.a, 0), (.a, 1), (.a, 2), (.a, 3), (.a, 4), (.a, 5), (.b, 0), (.b, 1), (.b, 2), (.b, 3), (.b, 4), (.b, 5)]

def State.rollBins15 (s : State) (step : Bool) : State :=
  binWaves.foldl (fun s (l, w) =>
    let k := pmKey l w
    let old := Tab.get {} k s.pm.cur15
    { s with pm := { s.pm with cur15 := Tab.put {} k (s.openBin l step) s.pm.cur15,
                               hist15 := Tab.put [] k ((s.closeBin l step old :: Tab.get [] k s.pm.hist15).take 96) s.pm.hist15 } }) s

def State.rollBins24 (s : State) (step : Bool) : State :=
  binWaves.foldl (fun s (l, w) =>
    let k := pmKey l w
    let old := Tab.get {} k s.pm.cur24
    { s with pm := { s.pm with cur24 := Tab.put {} k (s.openBin l step) s.pm.cur24,
                               hist24 := Tab.put [] k ((s.closeBin l step old :: Tab.get [] k s.pm.hist24).take 7) s.pm.hist24 } }) s

/-- Change every current bin of the legs that `p` selects. -/
def State.markBins (s : State) (p : Leg → Bool) (f : Bin → Bin) : State :=
  binWaves.foldl (fun s (l, w) =>
    if !p l then s else
    let k := pmKey l w
    { s with pm := { s.pm with cur15 := Tab.put {} k (f (Tab.get {} k s.pm.cur15)) s.pm.cur15,
                               cur24 := Tab.put {} k (f (Tab.get {} k s.pm.cur24)) s.pm.cur24 } }) s

/-- A REBASE or the initial step closes and opens every current bin (R105, R269). -/
def State.stepBins (s : State) : State :=
  if s.isOn Reg.PM_CTL_EN then (s.rollBins15 true).rollBins24 true else s

/-! ### The spillway (R207) -/

/-- Count one drop of a leg and wave (4 and 5 are U0 and U1) under a cause. -/
def State.spill (s : State) (l : Leg) (w cause : Nat) : State :=
  let s := match l with
    | .a => (s.inc Reg.STBL_SPILL_A_DROPS 0 cause).inc Reg.STBL_SPILLW_A_DROPS 0 w
    | .b => (s.inc Reg.STBL_SPILL_B_DROPS 0 cause).inc Reg.STBL_SPILLW_B_DROPS 0 w
  let s := s.pmCount l w 5 1
  let s := s.upd l fun g => { g with drops := g.drops + 1 }
  let s := if w ≥ 4 then s.once l (Ev.wave l w 7) 0 else s
  let th := s.rd Reg.STBL_SPILL_CTL_THRESH
  if th ≠ 0 && (s.leg l).drops > th then s.once l (Ev.cls (13 + l.n)) 0 else s

/-! ### Memory errors and replacement requests -/

/-- The pair of R314 that an instance belongs to (R412). -/
def eccPair (inst : Nat) : Nat :=
  match inst with
  | 0 => 0
  | 1 => 1
  | 2 => 1
  | 3 => 2
  | 4 => 2
  | 5 => 3
  | _ => 4

/-- Count an uncorrectable error of an instance and raise its pair's event (R414). -/
def State.eccUncorr (s : State) (inst det : Nat) : State :=
  (s.inc Reg.MEM_INSTC_UNCORR 0 inst).event (Ev.mem (2 * eccPair inst + 1)) det

/-- Set a reason of R275; the event follows a bit that goes from 0 to 1 (R276). (DEDUCED, log 25.) -/
def State.replaceRequest (s : State) (k : Nat) : State :=
  let r := s.rd Reg.PROT_RR_STATUS_REASONS
  if bit r k = 1 then s else (s.wr Reg.PROT_RR_STATUS_REASONS (r + 2 ^ k)).event (Ev.prot 15)

def State.replaceLeg (s : State) (l : Leg) : State := (s.wr Reg.PROT_RR_DETAIL_LEG l.n).replaceRequest 0

/-! ### Power state changes and wakes (R365, R381, R387) -/

def State.setPower (s : State) (st : Nat) : State :=
  if s.rd Reg.PWR_STATUS_STATE = st then s else (s.wr Reg.PWR_STATUS_STATE st).event (Ev.pwr 0)

/-- Record a wake code; WAKE carries it in DETAIL. -/
def State.recordWake (s : State) (code : Nat) : State := (s.wr Reg.PWR_STATUS_LAST_WAKE code).event (Ev.pwr 6) code

/-- A wake source whose bit of PWR_WAKE_EN is 0 is ignored; PERST_DEASSERT always wakes (R381). -/
def State.wakeEnabled (s : State) (code : Nat) : Bool := code == 2 || (1 ≤ code && code ≤ 7 && bit (s.rd Reg.PWR_WAKE_EN) (code - 1) == 1)

/-- A wake cause of R373 arises: SLEEP_ENDED or DEEP_SLEEP_EXIT acts on it. -/
def State.wakeCause (s : State) (code : Nat) : State :=
  if !s.wakeEnabled code then s else
  let w := s.pwr
  let held := w.asleep || s.rd Reg.PWR_STATUS_STATE == 4 || w.off || w.entering
  { s with pwr := { w with wakeArisen := true, pendWake := if held then w.pendWake ++ [code] else w.pendWake } }

/-- A wake event of R367 ends idle. (DEDUCED, log 16.) -/
def State.idleExit (s : State) (code : Nat) : State :=
  if s.rd Reg.PWR_STATUS_STATE = 1 then ((s.setPower 0).recordWake code).event (Ev.pwr 2) else s

/-- An access to a register of a block that idle gates: one from the host ends idle (R367). (DEDUCED, log 16.) -/
def State.gated (s : State) (ag : Agent) (f : State → State) : State :=
  s.reg ag fun s => f (if ag = .pf then s.idleExit 11 else s)

end Sys2Proof.Machine
end

