-- ==== Sys2Proof/Machine/Crypto.lean ====
section
/-! DEFINITION. The standards the cipher chapter names, written out as arithmetic: AES-256 in GCM (R213, R214, R224, R229), SHA-384
(FIPS 180-4), and P-384 with ECDH and ECDSA (R222, R223). -/

namespace Sys2Proof.Crypto

def sbox0 : List Nat := [99, 124, 119, 123, 242, 107, 111, 197, 48, 1, 103, 43, 254, 215, 171, 118, 202, 130, 201, 125, 250, 89, 71, 240, 173, 212, 162, 175, 156, 164, 114, 192, 183, 253, 147, 38, 54, 63, 247, 204, 52, 165, 229, 241, 113, 216, 49, 21, 4, 199, 35, 195, 24, 150, 5, 154, 7, 18, 128, 226, 235, 39, 178, 117]
def sbox1 : List Nat := [9, 131, 44, 26, 27, 110, 90, 160, 82, 59, 214, 179, 41, 227, 47, 132, 83, 209, 0, 237, 32, 252, 177, 91, 106, 203, 190, 57, 74, 76, 88, 207, 208, 239, 170, 251, 67, 77, 51, 133, 69, 249, 2, 127, 80, 60, 159, 168, 81, 163, 64, 143, 146, 157, 56, 245, 188, 182, 218, 33, 16, 255, 243, 210]
def sbox2 : List Nat := [205, 12, 19, 236, 95, 151, 68, 23, 196, 167, 126, 61, 100, 93, 25, 115, 96, 129, 79, 220, 34, 42, 144, 136, 70, 238, 184, 20, 222, 94, 11, 219, 224, 50, 58, 10, 73, 6, 36, 92, 194, 211, 172, 98, 145, 149, 228, 121, 231, 200, 55, 109, 141, 213, 78, 169, 108, 86, 244, 234, 101, 122, 174, 8]
def sbox3 : List Nat := [186, 120, 37, 46, 28, 166, 180, 198, 232, 221, 116, 31, 75, 189, 139, 138, 112, 62, 181, 102, 72, 3, 246, 14, 97, 53, 87, 185, 134, 193, 29, 158, 225, 248, 152, 17, 105, 217, 142, 148, 155, 30, 135, 233, 206, 85, 40, 223, 140, 161, 137, 13, 191, 230, 66, 104, 65, 153, 45, 15, 176, 84, 187, 22]
def sbox : List Nat := sbox0 ++ sbox1 ++ sbox2 ++ sbox3

def sub (b : Nat) : Nat := sbox.getD b 0

/-- Multiplication by x in the AES field. -/
def xtime (b : Nat) : Nat := if b < 128 then 2 * b else (2 * b % 256).xor 27

def xorL : List Nat → List Nat → List Nat
  | a :: r, b :: t => a.xor b :: xorL r t
  | _, _ => []

/-- The AES-256 key schedule, words newest first: word i from words i - 1 and i - 8. -/
def expand : Nat → Nat → Nat → List (List Nat) → List (List Nat)
  | 0, _, _, ws => ws
  | k + 1, i, rc, ws =>
    let p := ws.getD 0 []
    let t :=
      if i % 8 = 0 then
        match p with
        | [a, b, c, d] => [(sub b).xor rc, sub c, sub d, sub a]
        | x => x
      else if i % 8 = 4 then p.map sub else p
    let w := xorL (ws.getD 7 []) t
    expand k (i + 1) (if i % 8 = 0 then xtime rc else rc) (w :: ws)

/-- The fifteen round keys of a 32-byte key. -/
def roundKeys (key : List Nat) : List (List Nat) :=
  let w := (List.range 8).map fun i => (key.drop (4 * i)).take 4
  let all := (expand 52 8 1 w.reverse).reverse
  (List.range 15).map fun r => ((all.drop (4 * r)).take 4).flatten

def shiftRows (s : List Nat) : List Nat := (List.range 16).map fun i => s.getD ((i + 4 * (i % 4)) % 16) 0

def mixColumn (c : List Nat) : List Nat :=
  match c with
  | [a, b, c, d] =>
    let f := fun x y z w => (((xtime x).xor ((xtime y).xor y)).xor z).xor w
    [f a b c d, f b c d a, f c d a b, f d a b c]
  | x => x

def mixColumns (s : List Nat) : List Nat := (List.range 4).flatMap fun i => mixColumn ((s.drop (4 * i)).take 4)

def rounds : List (List Nat) → List Nat → List Nat
  | [], s => s
  | [k], s => xorL (shiftRows (s.map sub)) k
  | k :: r, s => rounds r (xorL (mixColumns (shiftRows (s.map sub))) k)

/-- One block of AES-256, from its round keys. -/
def aesBlock (rk : List (List Nat)) (x : List Nat) : List Nat := rounds (rk.drop 1) (xorL x (rk.getD 0 []))

def toNats (l : List Byte) : List Nat := l.map BitVec.toNat
def natOf (l : List Nat) : Nat := l.foldl (fun n b => n * 256 + b) 0
def blockOf (x : Nat) : List Nat := (List.range 16).map fun i => x / 256 ^ (15 - i) % 256

/-- Multiplication in the GHASH field, bit 0 the leftmost. -/
def gmul (x y : Nat) : Nat :=
  ((List.range 128).foldl (fun (acc : Nat × Nat) i =>
    let (z, v) := acc
    (if bit x (127 - i) = 1 then z.xor v else z, if v % 2 = 1 then (v / 2).xor (0xE1 * 2 ^ 120) else v / 2)) (0, y)).1

/-- The 16-byte blocks of a byte string, the last one extended with zeros (R214). -/
def blocks : Nat → List Nat → List (List Nat)
  | 0, _ => []
  | _ + 1, [] => []
  | k + 1, l => (l.take 16 ++ List.replicate (16 - (l.take 16).length) 0) :: blocks k (l.drop 16)

def blocksOf (l : List Nat) : List (List Nat) := blocks (l.length / 16 + 1) l

def ghash (h : Nat) (bs : List (List Nat)) : Nat := bs.foldl (fun y b => gmul (y.xor (natOf b)) h) 0

/-- Counter mode from counter value c. -/
def ctr (rk : List (List Nat)) (iv : Nat) : Nat → List (List Nat) → List Nat
  | _, [] => []
  | c, b :: r => xorL b (aesBlock rk (blockOf (iv * 2 ^ 32 + c))) ++ ctr rk iv (c + 1) r

def gcmTag (rk : List (List Nat)) (iv : Nat) (aad ct : List Nat) : List Nat :=
  let h := natOf (aesBlock rk (blockOf 0))
  let y := ghash h (blocksOf aad ++ blocksOf ct ++ [blockOf (aad.length * 8 * 2 ^ 64 + ct.length * 8)])
  xorL (blockOf y) (aesBlock rk (blockOf (iv * 2 ^ 32 + 1)))

def ofNats (l : List Nat) : List Byte := l.map (BitVec.ofNat 8)

/-- AES-256-GCM encryption: ciphertext and 16-byte tag. Key and IV are numbers, most significant byte first. (DEDUCED, log 58.) -/
def gcmEnc (key iv : Nat) (aad pt : List Byte) : List Byte × List Byte :=
  let rk := roundKeys (toNats (beBytes 32 key))
  let ct := (ctr rk iv 2 (blocksOf (toNats pt))).take pt.length
  (ofNats ct, ofNats (gcmTag rk iv (toNats aad) ct))

/-- AES-256-GCM decryption: the plaintext, when the tag verifies. (DEDUCED, log 58.) -/
def gcmDec (key iv : Nat) (aad ct tag : List Byte) : Option (List Byte) :=
  let rk := roundKeys (toNats (beBytes 32 key))
  if gcmTag rk iv (toNats aad) (toNats ct) == toNats tag then
    some (ofNats ((ctr rk iv 2 (blocksOf (toNats ct))).take ct.length))
  else none

/-! ### SHA-384 -/

/-- The largest number below 2^k over r's bits whose e-th power does not exceed n, bit by bit from the top. -/
def rootFrom (e n : Nat) : Nat → Nat → Nat
  | 0, r => r
  | k + 1, r => rootFrom e n k (if (r + 2 ^ k) ^ e ≤ n then r + 2 ^ k else r)

/-- The first 64 bits of the fraction of a number's e-th root. -/
def rootFraction (e p : Nat) : Nat := rootFrom e (p * 2 ^ (64 * e)) 70 0 % 2 ^ 64

/-- The first eighty primes: below 410, none has a factor but itself up to 20. -/
def primes : List Nat := (List.range 410).filter fun n => 2 ≤ n && (List.range 19).all fun i => n == i + 2 || n % (i + 2) != 0

/-- The round constants: the fractions of the primes' cube roots (FIPS 180-4). -/
def shaK : List Nat := primes.map (rootFraction 3)

/-- Word i of a packed row of 64-bit words, the last being word 0. -/
def word (x i : Nat) : Nat := x / 2 ^ (64 * i) % 2 ^ 64

def rotr (n x : Nat) : Nat := x / 2 ^ n + x % 2 ^ n * 2 ^ (64 - n)

/-- The next word of the message schedule enters the sixteen latest words, and the oldest leaves. -/
def shaNext (w : Nat) : Nat :=
  let x := word w 14
  let y := word w 1
  let s0 := ((rotr 1 x).xor (rotr 8 x)).xor (x / 2 ^ 7)
  let s1 := ((rotr 19 y).xor (rotr 61 y)).xor (y / 2 ^ 6)
  w % 2 ^ 960 * 2 ^ 64 + (s1 + word w 6 + s0 + word w 15) % 2 ^ 64

/-- One round with a constant and the schedule's oldest word; the state packs the words a to h, a first. -/
def shaRound (st k w : Nat) : Nat :=
  let a := word st 7
  let e := word st 3
  let s1 := ((rotr 14 e).xor (rotr 18 e)).xor (rotr 41 e)
  let ch := (Nat.land e (word st 2)).xor (Nat.land (2 ^ 64 - 1 - e) (word st 1))
  let t := word st 0 + s1 + ch + k + w
  let s0 := ((rotr 28 a).xor (rotr 34 a)).xor (rotr 39 a)
  let mj := ((Nat.land a (word st 6)).xor (Nat.land a (word st 5))).xor (Nat.land (word st 6) (word st 5))
  (t + s0 + mj) % 2 ^ 64 * 2 ^ 448 + st / 2 ^ 320 * 2 ^ 256 % 2 ^ 448 + (word st 4 + t) % 2 ^ 64 * 2 ^ 192 + st / 2 ^ 64 % 2 ^ 192

/-- The rounds of a block, with the constants still to come. -/
def shaRounds : List Nat → Nat → Nat → Nat
  | [], st, _ => st
  | k :: r, st, w => shaRounds r (shaRound st k (word w 15)) (shaNext w)

/-- A block of sixteen words. -/
def shaBlock (st w : Nat) : Nat :=
  let e := shaRounds shaK st w
  (List.range 8).foldl (fun n i => n + (word st i + word e i) % 2 ^ 64 * 2 ^ (64 * i)) 0

def shaBlocks : Nat → List Nat → Nat → Nat
  | 0, _, st => st
  | k + 1, l, st => shaBlocks k (l.drop 128) (shaBlock st (natOf (l.take 128)))

/-- The initial hash value of SHA-384: the fractions of the square roots of the ninth to the sixteenth prime (FIPS 180-4). -/
def shaInit : Nat := ((primes.drop 8).take 8).foldl (fun x p => x * 2 ^ 64 + rootFraction 2 p) 0

/-- SHA-384 of a byte string, as a 384-bit number. (DEDUCED, log 58.) -/
def sha384 (m : List Byte) : Nat :=
  let n := m.length
  let l := toNats m ++ [128] ++ List.replicate ((239 - n % 128) % 128) 0 ++ toNats (beBytes 16 (8 * n))
  shaBlocks (l.length / 128) l shaInit / 2 ^ 128

/-! ### P-384 -/

def p384 : Nat := 2 ^ 384 - 2 ^ 128 - 2 ^ 96 + 2 ^ 32 - 1
def order : Nat := 0xffffffffffffffffffffffffffffffffffffffffffffffffc7634d81f4372ddf581a0db248b0a77aecec196accc52973
def curveB : Nat := 0xb3312fa7e23ee7e4988e056be3f82d19181d9c6efe8141120314088f5013875ac656398d8a2ed19d2a85c8edd3ec2aef
def baseX : Nat := 0xaa87ca22be8b05378eb1c71ef320ad746e1d3b628ba79b9859f741e082542a385502f25dbf55296c3a545e3872760ab7
def baseY : Nat := 0x3617de4a96262c6f5d9e98bf9292dc29f8f41dbd289a147ce9da3113b5f0b8c00a60b1ce1d7e819d7a431d7c90ea0e5f

/-- b to the power e modulo m, over the low k bits of e. -/
def powMod (m b : Nat) : Nat → Nat → Nat
  | 0, _ => 1 % m
  | k + 1, e =>
    let h := powMod m b k (e / 2)
    if e % 2 = 1 then h * h % m * b % m else h * h % m

/-- Euclid's algorithm modulo m: what the remainder 1 multiplies, when u and v multiply the remainders a and b. -/
def euclid (m : Nat) : Nat → Nat → Nat → Nat → Nat → Nat
  | 0, _, _, _, v => v
  | k + 1, a, b, u, v => if b ≤ 1 then v else euclid m k b (a % b) v ((u + (m - v) * (a / b)) % m)

/-- The inverse modulo a prime of 384 bits, which Euclid's algorithm reaches in fewer than 600 divisions. -/
def inv (m x : Nat) : Nat := euclid m 600 m (x % m) 0 1

/-- Points: none is infinity. -/
def padd (p q : Option (Nat × Nat)) : Option (Nat × Nat) :=
  match p, q with
  | none, q => q
  | p, none => p
  | some (x1, y1), some (x2, y2) =>
    if x1 = x2 ∧ (y1 + y2) % p384 = 0 then none else
    let s := if x1 = x2 then (3 * x1 * x1 + (p384 - 3)) % p384 * inv p384 (2 * y1) % p384
      else (y2 + p384 - y1) * inv p384 (x2 + p384 - x1) % p384
    let x3 := (s * s + 2 * p384 - x1 - x2) % p384
    some (x3, (s * (x1 + p384 - x3) + p384 - y1) % p384)

def mulP (a b : Nat) : Nat := a * b % p384
def subP (a b : Nat) : Nat := (a + (p384 - b)) % p384

/-- A point in Jacobian coordinates: (x / z^2, y / z^3), infinity where z is 0. -/
structure Jac where
  x : Nat
  y : Nat
  z : Nat
deriving DecidableEq, Repr

def Jac.zero : Jac := ⟨1, 1, 0⟩

/-- Twice a point. -/
def jdouble (p : Jac) : Jac :=
  let d := mulP p.z p.z
  let g := mulP p.y p.y
  let b := mulP p.x g
  let a := mulP 3 (mulP (subP p.x d) (p.x + d))
  let x := subP (mulP a a) (mulP 8 b)
  ⟨x, subP (mulP a (subP (mulP 4 b) x)) (mulP 8 (mulP g g)), mulP 2 (mulP p.y p.z)⟩

/-- A point plus the point (x, y). -/
def jadd (p : Jac) (x y : Nat) : Jac :=
  if p.z = 0 then ⟨x, y, 1⟩ else
  let zz := mulP p.z p.z
  let h := subP (mulP x zz) p.x
  let r := subP (mulP y (mulP p.z zz)) p.y
  if h = 0 then (if r = 0 then jdouble p else .zero) else
  let hh := mulP h h
  let hhh := mulP h hh
  let v := mulP p.x hh
  let x3 := subP (subP (mulP r r) hhh) (mulP 2 v)
  ⟨x3, subP (mulP r (subP v x3)) (mulP p.y hhh), mulP p.z h⟩

/-- k times the point (x, y), over the low n bits of k. -/
def jmul (x y : Nat) : Nat → Nat → Jac
  | 0, _ => .zero
  | n + 1, k =>
    let d := jdouble (jmul x y n (k / 2))
    if k % 2 = 1 then jadd d x y else d

/-- The point with one inversion at the end. -/
def affine (j : Jac) : Option (Nat × Nat) :=
  if j.z = 0 then none else
  let i := inv p384 j.z
  some (mulP j.x (mulP i i), mulP j.y (mulP i (mulP i i)))

/-- k times a point, over the low n bits of k. -/
def pmul (p : Option (Nat × Nat)) (n k : Nat) : Option (Nat × Nat) := p.bind fun (x, y) => affine (jmul x y n k)

/-- The validation of R223 step 5. -/
def onCurve (x y : Nat) : Bool := x < p384 && y < p384 && y * y % p384 == (x * x % p384 * x + (p384 - 3) * x + curveB) % p384

/-- ECDSA verification over a 384-bit hash. (DEDUCED, log 58.) -/
def ecdsaVerify (qx qy h r s : Nat) : Bool :=
  if 0 < r && r < order && 0 < s && s < order && onCurve qx qy then
    let w := inv order s
    match padd (pmul (some (baseX, baseY)) 384 (h * w % order)) (pmul (some (qx, qy)) 384 (r * w % order)) with
    | some (x, _) => x % order == r
    | none => false
  else false

/-- ECDSA signature with private key d and per-message number k: r and s. -/
def ecdsaSign (d h k : Nat) : Nat × Nat :=
  match pmul (some (baseX, baseY)) 384 k with
  | some (x, _) => (x % order, inv order k * (h + x % order * d) % order)
  | none => (0, 0)

/-- The shared x-coordinate of ECDH, and the public key of a private key. -/
def ecdhX (d qx qy : Nat) : Nat := ((pmul (some (qx, qy)) 384 d).getD (0, 0)).1
def pubKey (d : Nat) : Nat × Nat := (pmul (some (baseX, baseY)) 384 d).getD (0, 0)

end Sys2Proof.Crypto
end

