-- ==== Sys2Proof/Machine/Flags.lean ====
section
/-! DEFINITION. Checks and line coding: the cyclic checks of R48 and R49, the scrambler of R28 and R29, codeword shortening (R55),
burst symbols (R27, R58, R60), and idle fill (R47). -/

namespace Sys2Proof

/-- One step of a w-bit check register, most significant bit first, no reflection. -/
def crcStep (w poly reg b : Nat) : Nat :=
  if (reg / 2 ^ (w - 1) + b) % 2 = 1 then (reg * 2 % 2 ^ w).xor poly else reg * 2 % 2 ^ w

/-- The low n bits of x, most significant first. -/
def msbBits (n x : Nat) : List Nat := (List.range n).map fun i => x / 2 ^ (n - 1 - i) % 2

def byteBits (l : List Byte) : List Nat := l.flatMap fun b => msbBits 8 b.toNat

def crcOf (w poly init : Nat) (l : List Nat) : Nat := l.foldl (crcStep w poly) init

/-- The HEC of R48 over n covered bits of x. -/
def hecOf (n x : Nat) : Nat := (crcOf 10 0x233 0 (msbBits n x)).xor 0x155

/-- The 10-bit check of a 64-bit word whose field is its low ten bits (AHEC, HEC). -/
def hecOk (word : Nat) : Bool := hecOf 54 (word / 1024) == word % 1024

/-- Give a word with zero low bits its HEC. -/
def withHec (word : Nat) : Nat := word / 1024 * 1024 + hecOf 54 (word / 1024)

/-- CRC-16 of R49 over a bit list. -/
def crc16 (l : List Nat) : Nat := crcOf 16 0x1021 0xFFFF l

/-- CRC-32 of R49 over a bit list. -/
def crc32 (l : List Nat) : Nat := (crcOf 32 0x04C11DB7 0xFFFFFFFF l).xor 0xFFFFFFFF

/-- Hamming weight of the low n bits. -/
def popcount (n x : Nat) : Nat := (msbBits n x).foldl (· + ·) 0

/-- The 58-bit seed of R29. -/
def scramSeed (wave fn sfc : Nat) : Nat := 2 ^ 57 + (wave % 8) * 2 ^ 54 + (fn % 8) * 2 ^ 51 + (sfc % 2 ^ 48) * 8 + 5

/-- The scrambler of R29 over a bit list. -/
def scramble : Nat → List Nat → List Nat
  | _, [] => []
  | s, d :: r =>
    let o := bit s 57 ^^^ bit s 38
    (d ^^^ o) :: scramble ((s * 2 + o) % 2 ^ 58) r

def bitsNat (l : List Nat) : Nat := l.foldl (fun n b => 2 * n + b) 0

/-- The grains that b information bytes take after a delimiter of dlm grains (R55). -/
def grainsFor (dlm b : Nat) : Nat :=
  let q := b / 1920
  let r := b % 1920
  let g := dlm + 120 * q
  if r = 0 then g else g + 14 + (if r ≤ 12 then 0 else (r - 12 + 17) / 18)

/-- The information capacity in bytes of a burst of len grains (R59). -/
def burstCapacity (dlm len : Nat) : Nat :=
  let g := len - dlm
  let r := g % 120
  1920 * (g / 120) + (if r < 14 then 0 else 12 + 18 * (r - 14))

/-- The PAM4 level of two consecutive bits (R27). -/
def pamLevel (hi lo : Nat) : Nat := if hi = 0 then (if lo = 0 then 0 else 1) else (if lo = 0 then 3 else 2)

def pamLevels : List Nat → List Nat
  | a :: b :: r => pamLevel a b :: pamLevels r
  | _ => []

/-- PRBS-7 of R60: the next n bits from a 7-bit state. -/
def prbs7 : Nat → Nat → List Nat
  | 0, _ => []
  | n + 1, s => bit s 6 :: prbs7 n ((s * 2 + (bit s 6 ^^^ bit s 5)) % 128)

/-- The preamble levels of R60: 72 symbols a grain. -/
def preambleLevels (pat grains : Nat) : List Nat :=
  if pat = 0 then (List.range (72 * grains)).map fun i => if i % 2 = 0 then 3 else 0
  else (prbs7 (72 * grains) 127).map fun b => 3 * b

/-- The delimiter bytes of R58. -/
def delimiterBytes (dlm word : Nat) : List Byte :=
  let w := beBytes 8 word
  let n := 18 * dlm - 10
  ((List.range n).map fun i => w.getD (i % 8) 0) ++ beBytes 8 (2 ^ 64 - 1 - word % 2 ^ 64) ++ [0x00, 0xFF]

/-- The line bits of information bits cut into codewords of 15,360: each followed by its parity over the scrambled bits; a short
last codeword is encoded behind zero bits that are not sent (R53, R55). -/
def codewordBits : Nat → List Nat → List Nat
  | 0, _ => []
  | _ + 1, [] => []
  | k + 1, l =>
    let cw := l.take 15360
    cw ++ msbBits 1920 (Config.ldpcParity (bitsNat cw)).toNat ++ codewordBits k (l.drop 15360)

/-- Every symbol of a burst: preamble, delimiter, codewords (R58 to R60). -/
def burstSymbols (pat grains dlm dlmWord seed : Nat) (info : List Byte) : List Nat :=
  preambleLevels pat grains ++ pamLevels (byteBits (delimiterBytes dlm dlmWord)) ++
    pamLevels (codewordBits (info.length / 1920 + 1) (scramble seed (byteBits info)))

/-- A channel header (R45). -/
def chanHeader (stream plen kidx pti seq : Nat) : Nat :=
  withHec (stream % 65536 * 2 ^ 48 + plen % 16384 * 2 ^ 34 + kidx % 4 * 2 ^ 32 + pti % 4 * 2 ^ 30 + seq % 2 ^ 20 * 1024)

/-- Bytes padded with zeros to a multiple of eight. -/
def pad8 (n : Nat) : Nat := (n + 7) / 8 * 8

/-- Idle fill over the r bytes that remain (R47): the largest frames first, then fewer than eight zero bytes. -/
def idleFill : Nat → Nat → List Byte
  | 0, r => zeros r
  | k + 1, r =>
    if r < 8 then zeros r else
    let p := min 9232 ((r - 8) / 8 * 8)
    beBytes 8 (chanHeader 0 p 0 3 0) ++ zeros p ++ idleFill k (r - 8 - p)

/-- The burst header (R61). -/
def burstHeader (tn alloc msgp bufrep : Nat) : Nat :=
  withHec (tn % 1024 * 2 ^ 54 + alloc % 16384 * 2 ^ 40 + msgp % 2 * 2 ^ 39 + bufrep % 2 ^ 24 * 2 ^ 14)

end Sys2Proof
end

