-- ==== Sys2Proof/Machine/Sched.lean ====
section
/-! DEFINITION. The upstream scheduler: queues, shapers, the weighted group, candidates, bursts, unwinding and the ledgers
(06_upstream_scheduling.md), with the completions of transmit frames (R294, R298). -/

namespace Sys2Proof.Machine

/-! ### Access -/

def State.txq (s : State) (q : Nat) : TxQ := Tab.get {} q s.host.txq
def State.setTxq (s : State) (q : Nat) (f : TxQ → TxQ) : State :=
  { s with host := { s.host with txq := Tab.put {} q (f (s.txq q)) s.host.txq } }

def State.slotSt (s : State) (c : Nat) : SlotSt := Tab.get {} c s.slots
def State.setSlot (s : State) (c : Nat) (f : SlotSt → SlotSt) : State := { s with slots := Tab.put {} c (f (s.slotSt c)) s.slots }

def State.cq (s : State) (c : Nat) : CqR := Tab.get {} c s.host.cqs
def State.setCq (s : State) (c : Nat) (f : CqR → CqR) : State :=
  { s with host := { s.host with cqs := Tab.put {} c (f (s.cq c)) s.host.cqs } }

/-- The queues of a slot that hold anything, lowest first. -/
def State.slotQueues (s : State) (c : Nat) : List Nat := (s.host.txq.map Prod.fst).filter fun q => q / 64 == c

/-- The head frame of a queue: the first whose chain is fetched and that is in no burst. -/
def TxQ.head (x : TxQ) : Option TxFrame := x.frames.find? fun f => f.st == .head

def TxQ.setFrame (x : TxQ) (didx : Nat) (f : TxFrame → TxFrame) : TxQ :=
  { x with frames := x.frames.map fun y => if y.didx = didx then f y else y }

/-! ### Buckets (R151 to R155), in units of 1/500 token -/

/-- OVH as a signed number; values below -32 act as -32. -/
def ovhOf (x : Nat) : Int := max (signed 8 x) (-32)

/-- The byte cost of a frame: max(1, frame bytes + OVH). -/
def byteCost (bytes ovh : Nat) : Nat := (max 1 ((bytes : Int) + ovhOf ovh)).toNat

/-- Tokens charged to buckets 0 and 1 by a shaper. -/
def shaperCost (en : Bool) (mode ovh bytes : Nat) : Nat × Nat :=
  if !en then (0, 0) else
  match mode with
  | 1 => (1, 0)
  | 2 => (byteCost bytes ovh, 1)
  | _ => (byteCost bytes ovh, 0)

/-- A bucket's size in units: at least 9,344 tokens for a byte bucket, at most 16,777,216. -/
def burstUnits (isBytes : Bool) (burst : Nat) : Nat := 500 * max (if isBytes then 9344 else 1) (min burst 16777216)

def rateOf (r : Nat) : Nat := min r 12500000

/-- Move the level to a target, keeping FILLED - TRIMMED = LEVEL + RESERVED + DEBITED. -/
def Bucket.setLevel (b : Bucket) (t : Nat) : Bucket :=
  if t ≥ b.level then { b with level := t, filled := b.filled + (t - b.level) }
  else { b with level := t, trimmed := b.trimmed + (b.level - t) }

def Bucket.full (b : Bucket) (burst : Nat) : Bucket := b.setLevel (burst - b.resv)

/-- A lowered BURST trims the level. -/
def Bucket.trim (b : Bucket) (burst : Nat) : Bucket := if burst < b.level + b.resv then b.setLevel (burst - b.resv) else b

/-- One microsecond of refill: RATE units, stopping where LEVEL + RESERVED reaches BURST. -/
def Bucket.refill (b : Bucket) (rate burst : Nat) : Bucket :=
  let add := min rate (burst - (b.level + b.resv))
  { b with level := b.level + add, filled := b.filled + add }

def Bucket.reserve (b : Bucket) (tok : Nat) : Bucket := { b with level := b.level - 500 * tok, resv := b.resv + 500 * tok }
def Bucket.refund (b : Bucket) (tok : Nat) : Bucket := { b with level := b.level + 500 * tok, resv := b.resv - 500 * tok }
def Bucket.debit (b : Bucket) (tok : Nat) : Bucket := { b with resv := b.resv - 500 * tok, debited := b.debited + 500 * tok }

def QCfg.size0 (c : QCfg) : Nat := burstUnits (c.mode ≠ 1) c.burst0
def QCfg.size1 (c : QCfg) : Nat := burstUnits false c.burst1

def State.ctSize0 (s : State) (c : Nat) : Nat := burstUnits (s.rd Reg.USCH_CT_CTL_SMODE 0 c ≠ 1) (s.rd Reg.USCH_CT_BURST0 0 c)
def State.ctSize1 (s : State) (c : Nat) : Nat := burstUnits false (s.rd Reg.USCH_CT_BURST1 0 c)

/-- What placing a frame charges: the queue's buckets and the container's. -/
def State.costs (s : State) (q bytes : Nat) : (Nat × Nat) × (Nat × Nat) :=
  let c := (s.txq q).cfg
  (shaperCost c.shapeEn c.mode c.ovh bytes,
   shaperCost (s.isOn Reg.USCH_CT_CTL_SHAPE_EN 0 (q / 64)) (s.rd Reg.USCH_CT_CTL_SMODE 0 (q / 64))
     (s.rd Reg.USCH_CT_CTL_OVH 0 (q / 64)) bytes)

def State.conforms (s : State) (q bytes : Nat) : Bool :=
  let (k, c) := s.costs q bytes
  let x := s.txq q
  let y := s.slotSt (q / 64)
  500 * k.1 ≤ x.b0.level && 500 * k.2 ≤ x.b1.level && 500 * c.1 ≤ y.b0.level && 500 * c.2 ≤ y.b1.level

/-- Apply one bucket operation to every bucket a frame is charged to. -/
def State.charge (s : State) (q : Nat) (k c : Nat × Nat) (f : Bucket → Nat → Bucket) : State :=
  (s.setTxq q fun x => { x with b0 := f x.b0 k.1, b1 := f x.b1 k.2 }).setSlot (q / 64)
    fun y => { y with b0 := f y.b0 c.1, b1 := f y.b1 c.2 }

/-! ### Encoded length, keys and time -/

/-- E of R159. -/
def encLen (bytes : Nat) (enc : Bool) : Nat := 8 + pad8 (bytes + if enc then 16 else 0)

def State.slotEnc (s : State) (c : Nat) : Bool := s.isOn Reg.CIPH_USLOT_ENC 0 c

/-- The upstream generation in force for an upstream frame of superframe sfc (R212, R226). -/
def State.upKidx (s : State) (l : Leg) (sfc : Nat) : Nat :=
  if s.isOn Reg.CIPH_GEN_UP_PEND l.n && s.rd2 Reg.CIPH_UP_EFF_LO Reg.CIPH_UP_EFF_HI l.n ≤ sfc then s.rd Reg.CIPH_GEN_UP_NEXT l.n
  else s.rd Reg.CIPH_GEN_UP_CUR l.n

/-- A line key of a slot, by leg, direction (1 up) and KIDX (R219). -/
def State.lineKey (s : State) (slot : Nat) (l : Leg) (dir kidx : Nat) : Option Nat :=
  let k := Tab.get {} slot s.ciph.slots
  if k.kind = 1 then (Tab.find (8 * l.n + 4 * dir + kidx) k.keys).map (· - 1) else none

/-- The IV of R217 as a 96-bit number. -/
def lineIv (sfc fn wave dir : Nat) (l : Leg) (seq : Nat) : Nat :=
  sfc % 2 ^ 48 * 2 ^ 48 + fn % 8 * 2 ^ 45 + wave % 8 * 2 ^ 42 + dir % 2 * 2 ^ 41 + l.n * 2 ^ 40 + seq % 2 ^ 20 * 2 ^ 20

/-- EqD in 1/64 grains in force for an upstream frame (R84): an earlier one before the EFF_SFC that replaced it, the pending one from its
EFF_SFC on. -/
def State.eqdFor (s : State) (l : Leg) (sfc : Nat) : Nat :=
  let cur := s.rd Reg.ACT_EQD_EQD_FINE l.n + 64 * s.rd Reg.ACT_EQD_EQD_GRAINS l.n
  match (s.leg l).eqdOld.find? fun p => sfc < p.1 with
  | some p => p.2
  | none => if s.isOn Reg.ACT_EQD_PENDING l.n && s.rd2 Reg.ACT_EQD_EFF_LO Reg.ACT_EQD_EFF_HI l.n ≤ sfc then s.rd Reg.ACT_EQD_NEXT l.n else cur

/-- The running time, in 2^-40 ns, at which a grain of an upstream frame begins at the pins: EqD after the D0 marker of that frame (R56),
reckoned from the latest superframe marker at 125 us a frame; without one, now. -/
def State.grainRun (s : State) (l : Leg) (sfc fn grain : Nat) : Nat :=
  match (s.leg l).marks with
  | [] => s.time.run40
  | m :: _ =>
    let frames : Int := ((sfc : Int) - m.sfc) * 8 + fn
    let d : Int := frames * (125000 * 2 ^ 40) + (((64 * grain + s.eqdFor l sfc) * 2 ^ 40 * 25 / (18 * 64) : Nat) : Int)
    ((m.run40 : Int) + d).toNat

/-- The same instant in counter time as the counter now stands: a step or REBASE moves it with the counter (R144, R145). -/
def State.grainAt (s : State) (l : Leg) (sfc fn grain : Nat) : Nat :=
  ((s.grainRun l sfc fn grain : Int) + ((s.time.now40 : Int) - s.time.run40)).toNat

/-- The signed 40-bit difference of linear nanoseconds (R131, R144). -/
def linDiff (a b : Nat) : Int := signed 40 (a % 2 ^ 40 + 2 ^ 40 - b % 2 ^ 40)

/-! ### VTIME and the automatic fall-back (R157, R158) -/

def State.inVtime (s : State) (c : Nat) : Bool := s.isOn Reg.USCH_CT_CTL_DISC 0 c || (s.slotSt c).fb ≠ 0

/-- Tags of a queue's new head (R157); strict queues have none. -/
def State.newHead (s : State) (q : Nat) : State :=
  if q % 64 < 4 || !s.inVtime (q / 64) then s else
  let x := s.txq q
  match x.head with
  | none => s
  | some f =>
    let st := max (s.slotSt (q / 64)).v x.fLast
    s.setTxq q fun x => { x with s := st, f := st + encLen f.bytes (s.slotEnc (q / 64)) * 65536 / max 1 x.cfg.weight }

/-- The steps of every entry to VTIME (R158). -/
def State.enterVtime (s : State) (c : Nat) : State :=
  let qs := (s.slotQueues c).filter fun q => q % 64 ≥ 4
  let s := s.setSlot c fun y => { y with v := 0 }
  let s := qs.foldl (fun s q => s.setTxq q fun x => { x with credit := min x.credit 0, s := 0, f := 0, fLast := 0 }) s
  let s := s.wr Reg.USCH_CT_STATUS_FB 1 0 c
  qs.foldl (fun s q => s.newHead q) s

/-- Start an automatic fall-back on some slots, for one cause: it ends at the second superframe boundary (fb counts 3, 2, 1). -/
def State.fallback (s : State) (cs : List Nat) : State :=
  cs.foldl (fun s c => ((s.setSlot c fun y => { y with fb := 3 }).wr Reg.USCH_CT_STATUS_FB_AUTO 1 0 c).enterVtime c)
    (s.inc Reg.USCH_CNT_FB_ENTRIES)

/-- A superframe boundary passes for every fall-back that runs. -/
def State.fallbackBoundary (s : State) : State :=
  { s with slots := Tab.mapv {} (fun _ (y : SlotSt) => if y.fb > 1 then { y with fb := y.fb - 1 } else y) s.slots }

/-! ### Completions of transmit frames (R294, R298) -/

/-- Leave an entry for a completion ring. -/
def State.cqPush (s : State) (c : Nat) (e : Cpl) : State := s.setCq c fun r => { r with waiting := r.waiting ++ [e] }

/-- The last 20 bytes of a completion: leg and wave, quality and generation, time, bound and the removed tags. -/
def cplTail (version leg wave qual gen at40 bound tci0 tci1 : Nat) : List Byte :=
  let ns := at40 / 2 ^ 40
  leBytes 1 version ++ leBytes 1 (leg + 2 * wave + 16 * qual) ++ leBytes 2 gen ++
    leBytes 6 (ns / 1000000000) ++ leBytes 4 (ns % 1000000000) ++ leBytes 2 bound ++ leBytes 2 tci0 ++ leBytes 2 tci1

/-- A transmit completion (R298), with CSEQ and PHASE zero: OK carries the instant B, anything else the instant of its issue. -/
def txEntry (q : Nat) (f : TxFrame) : List Byte :=
  let len := if f.status = St.ok then f.bytes else min (f.descs.foldl (fun n d => n + d.blen) 0) 16383
  leBytes 2 0 ++ leBytes 1 (2 + 32 * b2n f.ltLate) ++ leBytes 1 f.status ++ leBytes 2 len ++ leBytes 2 f.stream ++ leBytes 2 q ++
    leBytes 2 f.didx ++ cplTail 0 (if f.placed then f.leg else 0) (if f.placed then f.wave else 0) f.bQual f.bGen f.bAt f.bBound 0 0

/-- Leave the completions at the front of a queue that are ready, in descriptor order; the issue of each passes CONS over its frame's
descriptors. -/
def State.popDone : Nat → State → Nat → State
  | 0, s, _ => s
  | k + 1, s, q =>
    match (s.txq q).frames with
    | f :: r =>
      if f.st ≠ .done then s else
      let n := f.descs.length
      let s := s.cqPush (s.rd Reg.HIF_TX_CQ 0 q) { body := txEntry q f, live := f.status != St.ok, pass := some (.tx, q, n) }
      State.popDone k (s.setTxq q fun x => { x with frames := r, completed := x.completed + n }) q
    | [] => s

def State.complete (s : State) (q : Nat) : State := s.popDone (s.txq q).frames.length q

/-- Complete a frame with a status; it is issued when every earlier frame of its queue has been. -/
def State.finish (s : State) (q didx status : Nat) : State :=
  let wasHead := (s.txq q).head.any fun f => f.didx == didx
  let s := s.setTxq q fun x => x.setFrame didx fun f => { f with st := .done, status := status }
  let s := s.complete q
  if wasHead then s.newHead q else s

/-! ### Pending messages of a leg (R85) -/

/-- A message as it goes out: the leg's terminal number, and MCRC over bytes 0 to 43 (R63). -/
def finishMsg (tn m : Nat) : Nat :=
  let body := m / 2 ^ 32 % 2 ^ 336 + tn % 1024 * 2 ^ 336
  body * 2 ^ 32 + crc32 (msbBits 352 body)

/-- Build a message: type, TXID and its 38 body bytes. -/
def mkMsg (typ txid : Nat) (body : List Byte) : Nat :=
  (typ % 256 * 2 ^ 24 + txid % 65536) * 2 ^ 336 + beNat (slice body 0 38) * 2 ^ 32

/-- Take the message of the next message block: ACK, then ALARM, then REQUEST, then key exchange fragments, then none (NULL).
The first number says which list it came from. A REQUEST WAKE goes here only once a protection switch has moved it off the kept leg (R79,
R71). While firmware is absent ALARM and LEG_ROLE_NOTICE wait (R267). R85 gives KEY_EXCHANGE no place in its order. (DESIGN CHOICE, log 65.) -/
def State.takeMsg (s : State) (l : Leg) : Option (Nat × Nat) × State :=
  let g := s.leg l
  let fw := s.isOn Reg.ADM_STATUS_FW_PRESENT
  match g.acks, (if fw then g.alarms else []) with
  | m :: r, _ => (some (0, m), s.upd l fun g => { g with acks := r })
  | [], m :: r => (some (1, m), s.upd l fun g => { g with alarms := r })
  | [], [] =>
    match s.reqs.find? fun q => q.due && q.leg == l && q.frags.isEmpty && (q.code != 1 || l.n != s.rd Reg.PWR_STATUS_KEPT_LEG) &&
        (fw || q.code != 3) with
    | some q => (some (2, q.msg), { s with reqs := s.reqs.map fun (p : Req) => if p.txid = q.txid then { p with due := false } else p })
    | none =>
      match g.kxOut with
      | m :: r => (some (3, m), s.upd l fun g => { g with kxOut := r })
      | [] => (none, s)

/-- Put an unwound burst's message back at the head of the pending messages (R162). -/
def State.untakeMsg (s : State) (l : Leg) : Option (Nat × Nat) → State
  | some (0, m) => s.upd l fun g => { g with acks := m :: g.acks }
  | some (1, m) => s.upd l fun g => { g with alarms := m :: g.alarms }
  | some (2, m) => { s with reqs := s.reqs.map fun (p : Req) => if p.msg = m then { p with due := true } else p }
  | some (_, m) => s.upd l fun g => { g with kxOut := m :: g.kxOut }
  | none => s

/-- The message of a burst goes out: a request is sent, a TERM_REPLY once its last fragment is (R71, R223). -/
def State.msgSent (s : State) (l : Leg) : Option (Nat × Nat) → State
  | some (2, m) => { s with reqs := s.reqs.map fun (p : Req) => if p.msg = m then { p with sent := true } else p }
  | some (3, m) =>
    let sent := fun (p : Req) => if has p.frags m then { p with sent := true, due := (s.leg l).kxOut.any (has p.frags) } else p
    { s with reqs := s.reqs.map sent }
  | _ => s

/-! ### Window order and the bursts held -/

/-- The order in which windows of a leg open. -/
def Alloc.opensAt (a : Alloc) : Nat := (a.sfc * 8 + a.fn) * 90000 + a.start - a.prof.preGrains

def Alloc.same (a b : Alloc) : Bool := a.sfc == b.sfc && a.fn == b.fn && a.wave == b.wave && a.start == b.start && a.id == b.id

def Burst.cellsHeld (b : Burst) : Nat := b.cells

def State.reserved (s : State) (l : Leg) : List Burst := s.bursts.filter fun b => b.leg == l && !b.committed

/-! ### Unwinding (R167 to R170) -/

def State.restoreSnap (s : State) (n : SchedSnap) : State :=
  let s := s.setSlot n.slot fun y => { y with rr := n.rr, v := n.v }
  (s.slotQueues n.slot).foldl (fun s q =>
    if q % 64 < 4 then s else
    match n.qs.find? fun t => t.1 == q with
    | some (_, c, st, f, fl) => s.setTxq q fun x => { x with credit := c, s := st, f := f, fLast := fl }
    | none => s.setTxq q fun x => { x with credit := 0, s := 0, f := 0, fLast := 0 }) s

/-- Return one placed frame: its descriptors to the head of their queue, its tokens and cells; its SEQ is skipped. -/
def State.unplace (s : State) (p : Placed) : State :=
  let s := s.setTxq p.q fun x => x.setFrame p.didx fun f => { f with st := .head, placed := false }
  let s := s.charge p.q p.cost p.cpay Bucket.refund
  let s := { s with led := { s.led with cellFree := s.led.cellFree + (p.e + 255) / 256 } }
  (s.inc Reg.USCH_CNT_UNWOUND_FRAMES).inc Reg.USCH_CNT_SEQ_SKIPPED

/-- Report an unwinding to a slot (R167, R169). -/
def State.unwindSlot (s : State) (c cause : Nat) : State :=
  let s := s.wr Reg.USCH_CT_STATUS_LAST_CAUSE cause 0 c
  (s.inc Reg.USCH_SCNT_UNWINDS 0 c).slotEvent c 0 0

/-- Unwind one reserved burst whole. -/
def State.unwindBurst (s : State) (b : Burst) : State :=
  let s := { s with bursts := s.bursts.filter fun x => !(x.leg == b.leg && x.alloc.same b.alloc) }
  let s := b.frames.reverse.foldl State.unplace s
  let s := s.restoreSnap b.snap
  let s := s.untakeMsg b.leg b.msg
  s.inc Reg.USCH_CNT_UNWOUND_BURSTS

/-- The slots whose frames an unwinding takes, each once. -/
def unwoundSlots (bs : List Burst) : List Nat := ((bs.filter fun b => !b.frames.isEmpty).map fun b => b.alloc.slot).eraseDups

/-- Unwind bursts given in the order built: the most recently built first, then one report for each slot (R168, R169). -/
def State.unwindList (s : State) (bs : List Burst) (cause : Nat) : State :=
  (unwoundSlots bs).foldl (fun s c => s.unwindSlot c cause) (bs.reverse.foldl State.unwindBurst s)

/-- The bursts of a list in the order built that go with the one of an allocation: it, and those that open later, or at the same instant on
the other wave and were built later (R168). -/
def burstsFrom (bs : List Burst) (a : Alloc) : List Burst :=
  let later := bs.dropWhile fun b => !b.alloc.same a
  bs.filter fun b => b.alloc.opensAt > a.opensAt || later.any fun x => x.alloc.same b.alloc

/-- Unwind the reserved burst of an allocation, if there is one, and those after it. -/
def State.unwindAlloc (s : State) (l : Leg) (a : Alloc) (cause : Nat) : State :=
  if (s.reserved l).any fun b => b.alloc.same a then s.unwindList (burstsFrom (s.reserved l) a) cause else s

/-- Unwind the first built of the reserved bursts that `p` selects, and those after it. -/
def State.unwindWhere (s : State) (l : Leg) (p : Burst → Bool) (cause : Nat) : State :=
  match (s.reserved l).find? p with
  | some b => s.unwindAlloc l b.alloc cause
  | none => s

/-- Unwind every reserved burst of a leg that opens after a moment (R167). -/
def State.unwindAfter (s : State) (l : Leg) (opens cause : Nat) : State :=
  s.unwindList ((s.reserved l).filter fun b => b.alloc.opensAt > opens) cause

def State.unwindAll (s : State) (l : Leg) (cause : Nat) : State := s.unwindList (s.reserved l) cause

/-! ### Candidates (R150) and selection (R149, R156, R157) -/

/-- A launch time not yet reached at instant B in 2^-40 ns (R144), and one passed by more than 125 us (R145). -/
def ltWaits (lt : Option Nat) (b40 : Nat) : Bool :=
  match lt with
  | some t => decide (linDiff (b40 / 2 ^ 40) t < 0)
  | none => false

def ltLateAt (lt : Option Nat) (b40 : Nat) : Bool :=
  match lt with
  | some t => decide (linDiff (b40 / 2 ^ 40) t > 125000)
  | none => false

/-- The head frame of a queue as a candidate at an offset of a burst, or the reason it is none (USCH_QDATA9.BLOCK). -/
def State.candidate (s : State) (l : Leg) (a : Alloc) (q off : Nat) : Except Nat TxFrame :=
  let x := s.txq q
  if x.flushTo.isSome then .error 6 else
  match x.head with
  | none => .error 1
  | some f =>
    let e := encLen f.bytes (s.slotEnc (q / 64))
    if !s.conforms q f.bytes then .error 2
    else if ltWaits f.lt (s.grainAt l a.sfc a.fn a.start) then .error 3
    else if grainsFor a.prof.dlmGrains (off + e) > a.len - s.rd Reg.USCH_FB_CTL_FREEBOARD then .error 4
    else if (e + 255) / 256 > s.led.cellFree then .error 5
    else .ok f

def State.isCandidate (s : State) (l : Leg) (a : Alloc) (q off : Nat) : Bool :=
  match s.candidate l a q off with
  | .ok _ => true
  | .error _ => false

/-- The queue with the smallest start tag, ties to the lowest. -/
def State.minTag (s : State) : List Nat → Option Nat
  | [] => none
  | q :: r =>
    match s.minTag r with
    | none => some q
    | some p => if (s.txq q).s ≤ (s.txq p).s then some q else some p

/-- Replenishment rounds until some candidate covers its head (R156), in one step. -/
def roundsFor (cap : Nat) (need credit : Int) (step : Nat) : Nat :=
  if credit ≥ need then 0 else ((need - min credit cap + step - 1) / step).toNat

def minList : List Nat → Nat
  | [] => 0
  | [x] => x
  | x :: r => min x (minList r)

/-- Choose the next queue of a slot: strict priority, then the weighted group under its discipline. CREDIT may change credits. A queue whose
owner can issue no read has no frame whose payload can be fetched (R304). (DEDUCED, log 68.) -/
def State.pick (s : State) (l : Leg) (a : Alloc) (off : Nat) : Option Nat × State :=
  let c := a.slot
  let cand := (s.slotQueues c).filter fun q => s.canDma (s.txOwner q) && s.isCandidate l a q off
  match cand.find? fun q => q % 64 < 4 with
  | some q => (some q, s)
  | none =>
    if cand.isEmpty then (none, s)
    else if s.inVtime c then (s.minTag cand, s)
    else
      let cap := max 9240 (s.rd Reg.USCH_CT_CREDIT_CAP 0 c)
      let quantum := max 1 (s.rd Reg.USCH_CT_QUANTUM 0 c)
      let e := fun q => match (s.txq q).head with
        | some f => ((encLen f.bytes (s.slotEnc c) : Nat) : Int)
        | none => 0
      let step := fun q => quantum * max 1 (s.txq q).cfg.weight
      let n := minList (cand.map fun q => roundsFor cap (e q) (s.txq q).credit (step q))
      let s := if n = 0 then s else
        cand.foldl (fun s q => s.setTxq q fun x => { x with credit := min (x.credit + (n * step q : Nat)) cap }) s
      let rr := (s.slotSt c).rr
      let ready := cand.filter fun q => (s.txq q).credit ≥ e q
      let later := ready.find? fun q => q % 64 - 4 ≥ rr
      match later.or (ready.find? fun _ => true) with
      | some q => (some q, s.setSlot c fun y => { y with rr := q % 64 - 4 })
      | none => (none, s)

/-! ### Building (R163 to R165) -/

/-- Tag bytes inserted after the source address (R200). -/
def insertTags (op cTci sTci : Nat) (b : List Byte) : List Byte :=
  let c := beBytes 2 0x8100 ++ beBytes 2 cTci
  let t := beBytes 2 0x88A8 ++ beBytes 2 sTci
  match op with
  | 0 => b
  | 1 => b.take 12 ++ c ++ b.drop 12
  | 2 => b.take 12 ++ t ++ b.drop 12
  | _ => b.take 12 ++ t ++ c ++ b.drop 12

def tagBytes (op : Nat) : Nat := if op = 0 then 0 else if op = 3 then 8 else 4

/-- A frame's Ethernet bytes, from what host memory held at its buffers: concatenated, tagged, padded to 60 (R200, R293). -/
def payloadOf (mem : List (Nat × List Byte)) (f : TxFrame) : List Byte :=
  let raw := f.descs.flatMap fun d =>
    match mem.find? fun m => m.1 == d.addr with
    | some m => slice m.2 0 d.blen
    | none => zeros d.blen
  let t := insertTags f.tagOp f.cTci f.sTci raw
  t ++ zeros (60 - t.length)

def State.seqKey (l : Leg) (a : Alloc) : Nat := 16 * (a.sfc * 8 + a.fn) + 2 * l.n + a.wave

/-- Place a frame: costs and cells to RESERVED, the weighted group charged. -/
def State.placeFrame (s : State) (l : Leg) (a : Alloc) (q : Nat) (f : TxFrame) : Placed × State :=
  let enc := s.slotEnc a.slot
  let e := encLen f.bytes enc
  let (k, c) := s.costs q f.bytes
  let b := s.grainAt l a.sfc a.fn a.start
  let vt := s.inVtime a.slot
  let s := s.setTxq q fun x => x.setFrame f.didx fun f => { f with st := .reserved, placed := true, leg := l.n, wave := 4 + a.wave, bAt := b }
  let s := s.charge q k c Bucket.reserve
  let s := { s with led := { s.led with cellFree := s.led.cellFree - (e + 255) / 256 } }
  let s :=
    if q % 64 < 4 then s
    else if vt then
      let x := s.txq q
      (s.setSlot a.slot fun y => { y with v := x.s }).setTxq q fun x => { x with fLast := x.f }
    else s.setTxq q fun x => { x with credit := x.credit - e }
  ({ q := q, didx := f.didx, seq := 0, enc := enc, e := e, bytes := f.bytes, cost := k, cpay := c, chan := [] }, s.newHead q)

/-- The reason a build has refused the head frame of a queue for its place, if it has (R150). -/
def TxQ.refusedFor (x : TxQ) : Option Nat :=
  match x.block, x.head with
  | some (d, k), some f => if d = f.didx then some k else none
  | _, _ => none

/-- One queue's head as a build finds it at an offset: the reason it is no candidate is kept, and a head refused for lack of cells is counted
once in the build (R150). -/
def State.noteBlock (s : State) (l : Leg) (a : Alloc) (off q : Nat) : State :=
  match s.candidate l a q off, (s.txq q).head with
  | .error k, some f =>
    let s := if k = 5 && (s.txq q).refusedFor != some 5 then s.inc Reg.USCH_CNT_NO_CELLS else s
    s.setTxq q fun x => { x with block := some (f.didx, k) }
  | _, _ => s.setTxq q fun x => { x with block := none }

def State.noteBlocks (s : State) (l : Leg) (a : Alloc) (off : Nat) : State :=
  (s.slotQueues a.slot).foldl (fun s q => s.noteBlock l a off q) s

/-- A build starts: what an earlier one noted is forgotten. -/
def State.clearBlocks (s : State) (c : Nat) : State := (s.slotQueues c).foldl (fun s q => s.setTxq q fun x => { x with block := none }) s

/-- Select frames until no queue has a candidate. -/
def State.selectFrames : Nat → State → Leg → Alloc → Nat → List Placed → List Placed × State
  | 0, s, _, _, _, acc => (acc, s)
  | k + 1, s, l, a, off, acc =>
    match (s.noteBlocks l a off).pick l a off with
    | (none, s) => (acc, s)
    | (some q, s) =>
      match (s.txq q).head with
      | none => (acc, s)
      | some f =>
        let (p, s) := s.placeFrame l a q f
        State.selectFrames k s l a (off + p.e) (acc ++ [p])

/-- Without a key every frame that would be a candidate is completed DENIED (R212). -/
def State.denyFrames : Nat → State → Leg → Alloc → Nat → State
  | 0, s, _, _, _ => s
  | k + 1, s, l, a, off =>
    match (s.slotQueues a.slot).find? fun q => s.isCandidate l a q off with
    | none => s
    | some q =>
      match (s.txq q).head with
      | none => s
      | some f =>
        let s := ((s.finish q f.didx St.denied).inc Reg.CIPH_CNT_NOKEY_TX).event (Ev.ciph 8)
        State.denyFrames k s l a off

/-- Release a placed frame whose payload failed: as in an unwind, but completed with a status (R294, R414). -/
def State.failPlaced (s : State) (p : Placed) (status : Nat) : State :=
  let s := s.charge p.q p.cost p.cpay Bucket.refund
  let s := { s with led := { s.led with cellFree := s.led.cellFree + (p.e + 255) / 256 } }
  s.finish p.q p.didx status

/-- The address at which a frame's payload read failed: its first buffer that brought nothing. -/
def failAddr (mem : List (Nat × List Byte)) (f : TxFrame) : Nat :=
  match f.descs.find? (fun d => !mem.any fun m => m.1 == d.addr), f.descs with
  | some d, _ => d.addr
  | none, d :: _ => d.addr
  | none, [] => 0

/-- Read a frame's payload from its buffers (R164 step 2). -/
def State.askPayload (s : State) (q : Nat) (f : TxFrame) : State :=
  f.descs.foldl (fun s d => s.askHost (s.txOwner q) d.addr d.blen) s

/-- Fetch, number and encode the placed frames in order (R164 steps 2 to 4). `failed` holds the places whose payload read failed, `ecc` those
with an uncorrectable buffer error. -/
def State.encodeFrames : State → Leg → Alloc → List (Nat × List Byte) → List (Nat × ReadFault) → List Nat → Nat → List Placed →
    List Placed × State
  | s, _, _, _, _, _, _, [] => ([], s)
  | s, l, a, mem, failed, ecc, i, p :: r =>
    let key := State.seqKey l a
    let seq := Tab.get 0 key s.seqs
    let fr := (s.txq p.q).frames.find? fun f => f.didx == p.didx
    let s := { s with seqs := Tab.put 0 key (seq + 1) s.seqs }
    let s := match fr with
      | some f => s.askPayload p.q f
      | none => s
    match failed.find? fun x => x.1 == i with
    | some (_, why) =>
      let own := s.txOwner p.q
      let s := s.readFault own p.q (s.localIdx .tx own p.q) 0 ((fr.map (failAddr mem)).getD 0) why
      let s := s.failPlaced p why.status
      State.encodeFrames s l a mem failed ecc (i + 1) r
    | none =>
    if has ecc i then
      let s := (s.eccUncorr 0 0).failPlaced p St.invalid
      State.encodeFrames s l a mem failed ecc (i + 1) r
    else
      match fr with
      | none => State.encodeFrames s l a mem failed ecc (i + 1) r
      | some f =>
        let data := payloadOf mem f
        let kidx := s.upKidx l a.sfc
        let slot := s.rd Reg.CIPH_USLOT_KEY_SLOT 0 a.slot
        let (hdr, body, s) :=
          match p.enc, s.lineKey slot l 1 kidx with
          | true, some k =>
            let h := chanHeader f.stream (data.length + 16) kidx 1 seq
            let (ct, tag) := Crypto.gcmEnc k (lineIv a.sfc a.fn (4 + a.wave) 1 l seq) (beBytes 8 h) data
            (h, ct ++ tag, s.inc Reg.CIPH_CNT_UP_FRAMES)
          | _, _ => (chanHeader f.stream data.length 0 0 seq, data, s)
        let chan := beBytes 8 hdr ++ body ++ zeros (pad8 body.length - body.length)
        let (rest, s) := State.encodeFrames s l a mem failed ecc (i + 1) r
        ({ p with seq := seq, chan := chan } :: rest, s)

/-- BUFREP of a slot in units of 256 bytes (R162), leaving out the frames of a burst. -/
def State.bufrep (s : State) (c : Nat) (mine : List Placed) : Nat :=
  let qs := s.slotQueues c
  let held := qs.foldl (fun n q => (s.txq q).frames.foldl (fun n f =>
    if f.st == .done || mine.any (fun p => p.q == q && p.didx == f.didx) then n else n + encLen f.bytes (s.slotEnc c)) n) 0
  let unf := qs.foldl (fun n q => n + sub16 (s.rd Reg.HIF_TX_IDX_PROD 0 q) (s.txq q).fetchIdx) 0
  min 0xFFFFFF ((held + s.rd Reg.USCH_CT_BUFREP_EST 0 c * unf + 255) / 256)

def State.snapOf (s : State) (c : Nat) : SchedSnap :=
  { slot := c, rr := (s.slotSt c).rr, v := (s.slotSt c).v,
    qs := ((s.slotQueues c).filter fun q => q % 64 ≥ 4).map fun q => let x := s.txq q; (q, x.credit, x.s, x.f, x.fLast) }

/-- Some queue of a slot holds a fetched head frame. -/
def State.slotWaits (s : State) (c : Nat) : Bool := (s.slotQueues c).any fun q => (s.txq q).head.isSome

/-- Build the burst of a data grant (R164); a grant with no frame is an idle grant (R161). -/
def State.build (s : State) (l : Leg) (a : Alloc) (mem : List (Nat × List Byte)) (failed : List (Nat × ReadFault)) (ecc : List Nat) : State :=
  let snap := s.snapOf a.slot
  let off := 8 + if a.typ = 1 then 48 else 0
  let enc := s.slotEnc a.slot
  let keyOk := !enc || (s.lineKey (s.rd Reg.CIPH_USLOT_KEY_SLOT 0 a.slot) l 1 (s.upKidx l a.sfc)).isSome
  let fuel := (s.slotQueues a.slot).foldl (fun n q => n + (s.txq q).frames.length) 1
  let s := s.clearBlocks a.slot
  let (ps, s) := if keyOk then State.selectFrames fuel s l a off [] else ([], (State.denyFrames fuel s l a off).noteBlocks l a off)
  let (ps, s) := s.encodeFrames l a mem failed ecc 0 ps
  let (msg, s) := if a.typ = 1 then s.takeMsg l else (none, s)
  let b : Burst := { leg := l, alloc := a, frames := ps, msg := msg, snap := snap, bufrep := s.bufrep a.slot ps,
                     capacity := burstCapacity a.prof.dlmGrains a.len, header := off, cells := ps.foldl (fun n p => n + (p.e + 255) / 256) 0 }
  let s := { s with bursts := s.bursts ++ [b] }.inc Reg.USCH_CNT_BURSTS_BUILT
  if s.slotWaits a.slot && ps.isEmpty then
    ((s.wr Reg.USCH_CT_STATUS_STARVED 1 0 a.slot).inc Reg.USCH_SCNT_STARVED 0 a.slot).slotEvent a.slot 1 0
  else s

/-- The data grants of a leg that wait for their build, in window order (R163): admitted, not refused, not withdrawn, not opened. -/
def State.unbuilt (s : State) (l : Leg) : List Alloc :=
  (s.leg l).allocs.filter fun a => a.kind == .data && a.decided && a.admitted && a.hgOpen && !a.withdrawn && !a.opened &&
    !s.bursts.any fun b => b.leg == l && b.alloc.same a

/-! ### Committing (R166) -/

/-- The information bytes of a data burst: header, message block, channel frames, idle fill (R58, R61, R62). -/
def State.burstInfo (s : State) (b : Burst) : List Byte :=
  let tn := s.rd Reg.ACT_STATUS_TN b.leg.n
  let chans := b.frames.flatMap Placed.chan
  let m := if b.alloc.typ = 1 then beBytes 48 (finishMsg tn (b.msg.getD (0, 0)).2) else []
  let head := beBytes 8 (burstHeader tn b.alloc.id (b2n (b.alloc.typ = 1)) b.bufrep) ++ m ++ chans
  head ++ idleFill (b.capacity / 9240 + 2) (b.capacity - head.length)

/-- Send information bytes as a burst in an allocation's profile, from a lane that is on (R391, R393). -/
def State.sendBurst (s : State) (l : Leg) (a : Alloc) (info : List Byte) : State :=
  if s.rd Reg.OPT_LANE_MODE l.n (4 + a.wave) ≠ 5 then s else
  s.emit (.burst l a.wave info (burstSymbols a.prof.prePat a.prof.preGrains a.prof.dlmGrains a.prof.dlmWord
    (scramSeed (4 + a.wave) a.fn a.sfc) info))

def addW (p : Nat × Nat) (w n : Nat) : Nat × Nat := if w = 0 then (p.1 + n, p.2) else (p.1, p.2 + n)

/-- A reserved burst's window opens: costs to DEBITED, descriptors to COMMITTED, the burst goes out. -/
def State.commitBurst (s : State) (b : Burst) : State :=
  let info := s.burstInfo b
  let c := b.alloc.slot
  let s := { s with bursts := s.bursts.map fun (x : Burst) =>
    if x.leg == b.leg && x.alloc.same b.alloc then { x with committed := true } else x }
  let s := b.frames.foldl (fun s p =>
    let s := s.charge p.q p.cost p.cpay Bucket.debit
    let at40 := s.grainAt b.leg b.alloc.sfc b.alloc.fn b.alloc.start
    let late := ((s.txq p.q).frames.find? fun f => f.didx == p.didx).any fun f => ltLateAt f.lt at40
    let s := s.setTxq p.q fun x => x.setFrame p.didx fun f =>
      { f with st := .committed, bAt := at40, ltLate := late, bGen := s.rd Reg.TIME_QUAL_GEN, bQual := s.rd Reg.TIME_QUAL_QUALITY,
               bBound := s.rd Reg.TIME_BOUND }
    let s := if late then s.inc Reg.TEV_CNT_LT_LATE else s
    let s := (s.inc Reg.USCH_CNT_FRAMES_SENT).inc Reg.USCH_CNT_BYTES_SENT 0 0 p.bytes
    (s.inc Reg.USCH_SCNT_FRAMES 0 c).inc Reg.USCH_SCNT_BYTES 0 c p.bytes) s
  let s := if b.frames.isEmpty then (s.inc Reg.USCH_CNT_IDLE_GRANTS).once b.leg (Ev.wave b.leg (4 + b.alloc.wave) 6) 0 else s
  let s := (s.inc Reg.USCH_CNT_BURSTS_SENT).wr Reg.USCH_CT_BUFREP b.bufrep 0 c
  let fr := b.frames.foldl (fun n p => n + p.e) 0
  let s := { s with led := { s.led with capacity := s.led.capacity + b.capacity, header := s.led.header + b.header,
                                        frame := s.led.frame + fr, idle := s.led.idle + (b.capacity - b.header - fr) } }
  let s := (match b.msg with
    | some (1, _) => s.event (Ev.leg b.leg 10)
    | _ => s).msgSent b.leg b.msg
  s.sendBurst b.leg b.alloc info

/-- A committed burst's window has closed: its cells are free and its frames complete, OK or, when the window was cut, CANCELLED (R92, R166). -/
def State.endBurst (s : State) (b : Burst) (cut : Bool) : State :=
  let s := { s with bursts := s.bursts.filter fun x => !(x.leg == b.leg && x.alloc.same b.alloc) }
  let s := { s with led := { s.led with cellFree := s.led.cellFree + b.cells } }
  b.frames.foldl (fun s p =>
    let s := if cut then s.spill b.leg (4 + b.alloc.wave) 16 else s
    s.finish p.q p.didx (if cut then St.cancelled else St.ok)) s

/-- Some queue of a slot has frames in a burst (R147). -/
def State.slotBusy (s : State) (c : Nat) : Bool := s.bursts.any fun b => b.frames.any fun p => p.q / 64 == c

end Sys2Proof.Machine
end

