-- ==== Sys2Proof/Machine/Upstream.lean ====
section
/-! DEFINITION. The meanings of the scheduler's commands: refill, building, deadlines, fall-back, reset, the queue table, container
slots and the audit (06_upstream_scheduling.md). -/

namespace Sys2Proof.Machine

/-- TOKEN_REFILL (R152): one microsecond of CORE time for every enabled bucket. -/
def State.refillAll (s : State) : State :=
  let s := { s with host := { s.host with txq := Tab.mapv {} (fun _ (x : TxQ) =>
    if !x.cfg.shapeEn then x else
    { x with b0 := x.b0.refill (rateOf x.cfg.rate0) x.cfg.size0,
             b1 := if x.cfg.mode = 2 then x.b1.refill (rateOf x.cfg.rate1) x.cfg.size1 else x.b1 }) s.host.txq } }
  (List.range 128).foldl (fun s c =>
    if !s.isOn Reg.USCH_CT_CTL_SHAPE_EN 0 c then s else
    s.setSlot c fun y =>
      { y with b0 := y.b0.refill (rateOf (s.rd Reg.USCH_CT_RATE0 0 c)) (s.ctSize0 c),
               b1 := if s.rd Reg.USCH_CT_CTL_SMODE 0 c = 2 then y.b1.refill (rateOf (s.rd Reg.USCH_CT_RATE1 0 c)) (s.ctSize1 c) else y.b1 }) s

def execTokenRefill (s : State) : Out := .next (s.inDom .core State.refillAll)

/-- The next grant to build opens at a wave and START, and its wave holds no reserved burst (R163). -/
def State.nextBuild (s : State) (l : Leg) (u start : Nat) : Option Alloc :=
  let u' := s.unbuilt l
  let first := u'.find? fun a => u'.all fun b => a.opensAt ≤ b.opensAt
  match first with
  | some a => if a.wave = u ∧ a.start = start ∧ l = s.active ∧ !((s.reserved l).any fun b => b.alloc.wave == u) then some a else none
  | none => none

def execBurstBuild (l : Leg) (u start : Nat) (mem : List (Nat × List Byte)) (failed : List (Nat × ReadFault)) (ecc : List Nat)
    (s : State) : Out :=
  .next <| s.inDom .core fun s =>
    match s.nextBuild l u start with
    | some a => s.build l a mem failed ecc
    | none => s

/-- BUILD_DEADLINE (R165): the frames not finished, with every frame after them, are unwound; the burst keeps the others, and its BUFREP is
sampled again (R162). -/
def State.buildDeadline (s : State) (l : Leg) (u start finished : Nat) : State :=
  match (s.reserved l).find? fun b => b.alloc.wave == u && b.alloc.start == start with
  | none => s
  | some b =>
    if b.frames.length ≤ finished then s else
    let bs := burstsFrom (s.reserved l) b.alloc
    let s := (bs.filter fun x => !x.alloc.same b.alloc).reverse.foldl State.unwindBurst s
    let kept := b.frames.take finished
    let s := (b.frames.drop finished).reverse.foldl State.unplace s
    let s := s.restoreSnap b.snap
    let b' := { b with frames := kept, cells := kept.foldl (fun n p => n + (p.e + 255) / 256) 0, bufrep := s.bufrep b.alloc.slot kept }
    let s := { s with bursts := s.bursts.map fun (x : Burst) => if x.leg == l && x.alloc.same b.alloc then b' else x }
    let s := ((s.inc Reg.USCH_CNT_UNWOUND_BURSTS).inc Reg.USCH_CNT_BUILD_LATE).once l (Ev.wave l (4 + u) 5) 0
    (unwoundSlots bs).foldl (fun s c => s.unwindSlot c 5) s

def execBuildDeadline (l : Leg) (u start finished : Nat) (s : State) : Out :=
  .next <| s.inDom .core fun s => s.buildDeadline l u start finished

/-- The end of a slot's automatic fall-back, once its second superframe boundary has passed (R158). -/
def State.fallbackEnd (s : State) (c : Nat) : State :=
  if (s.slotSt c).fb ≠ 1 then s else
  let s := (s.setSlot c fun y => { y with fb := 0 }).wr Reg.USCH_CT_STATUS_FB_AUTO 0 0 c
  s.wr Reg.USCH_CT_STATUS_FB (s.rd Reg.USCH_CT_CTL_DISC 0 c) 0 c

def execFallbackEnd (slot : Nat) (s : State) : Out := .next (s.fallbackEnd slot)

/-- Scheduler reset (R176); warm reset performs the same steps. -/
def State.schedReset (s : State) : State :=
  let s := (s.unwindAll .a 6).unwindAll .b 6
  let s := { s with host := { s.host with txq := Tab.mapv {} (fun _ (x : TxQ) =>
    { x with credit := 0, s := 0, f := 0, fLast := 0,
             b0 := if x.cfg.shapeEn then x.b0.full x.cfg.size0 else x.b0,
             b1 := if x.cfg.shapeEn && x.cfg.mode == 2 then x.b1.full x.cfg.size1 else x.b1 }) s.host.txq } }
  let s := (List.range 128).foldl (fun s c =>
    let s := s.setSlot c fun y => { y with v := 0 }
    if !s.isOn Reg.USCH_CT_CTL_SHAPE_EN 0 c then s else
    s.setSlot c fun y => { y with b0 := y.b0.full (s.ctSize0 c),
                                  b1 := if s.rd Reg.USCH_CT_CTL_SMODE 0 c = 2 then y.b1.full (s.ctSize1 c) else y.b1 }) s
  s.fallback (List.range 128)

def State.uschReset (s : State) : State :=
  if s.isOn Reg.USCH_STATUS_RESET_BUSY then s else s.schedReset.wr Reg.USCH_STATUS_RESET_BUSY 1

def execUschReset (ag : Agent) (s : State) : Out := .next <| s.gated ag State.uschReset

def execUschResetDone (s : State) : Out := .next (s.wr Reg.USCH_STATUS_RESET_BUSY 0)

/-! ### The queue table -/

/-- USCH_QDATA9.BLOCK: what holds of the queue now, and for its head the place, launch time or cells that its slot's last build lacked (R150). -/
def State.blockOf (s : State) (q : Nat) : Nat :=
  let x := s.txq q
  if x.flushTo.isSome then 6 else
  match x.head with
  | none => 1
  | some f =>
    if !s.conforms q f.bytes then 2 else
    match x.refusedFor with
    | some 3 => 3
    | some 4 => 4
    | some 5 => if (encLen f.bytes (s.slotEnc (q / 64)) + 255) / 256 > s.led.cellFree then 5 else 0
    | _ => 0

def State.queueRead (s : State) (ag : Agent) : State :=
  let q := s.rdA ag Reg.USCH_QIDX
  let x := s.txq q
  (((((((((((((s.wrA ag Reg.USCH_QDATA0_MODE x.cfg.mode).wrA ag Reg.USCH_QDATA0_SHAPE_EN (b2n x.cfg.shapeEn)).wrA ag
    Reg.USCH_QDATA0_OVH x.cfg.ovh).wrA ag Reg.USCH_QDATA0_WEIGHT x.cfg.weight).wrA ag Reg.USCH_QDATA1_RATE0 x.cfg.rate0).wrA ag
    Reg.USCH_QDATA2_BURST0 x.cfg.burst0).wrA ag Reg.USCH_QDATA3_RATE1 x.cfg.rate1).wrA ag Reg.USCH_QDATA4_BURST1 x.cfg.burst1).wrA ag
    Reg.USCH_QDATA5_LEVEL0 (x.b0.level / 500)).wrA ag Reg.USCH_QDATA6_LEVEL1 (x.b1.level / 500)).wrA ag
    Reg.USCH_QDATA7_RESV0 (x.b0.resv / 500)).wrA ag Reg.USCH_QDATA8_CREDIT (unsigned 32 x.credit)).wrA ag
    Reg.USCH_QDATA9_HEAD (b2n x.head.isSome)).wrA ag Reg.USCH_QDATA9_BLOCK (s.blockOf q) |>.wrA ag Reg.USCH_QCMD_STATUS St.ok

def execQueueRead (ag : Agent) (s : State) : Out := .next <| s.gated ag fun s => s.queueRead ag

/-- The buckets of a queue after a WRITE: filled when the shaper becomes enabled, trimmed when BURST fell (R155). -/
def TxQ.reconf (x : TxQ) (c : QCfg) : TxQ :=
  let y := { x with cfg := c }
  if c.shapeEn && !x.cfg.shapeEn then
    { y with b0 := y.b0.full c.size0, b1 := if c.mode = 2 then y.b1.full c.size1 else y.b1 }
  else { y with b0 := y.b0.trim c.size0, b1 := y.b1.trim c.size1 }

/-- WRITE of a queue entry (R151, R152). (DEDUCED, log 14.) -/
def State.queueWrite (s : State) (ag : Agent) : State :=
  let q := s.rdA ag Reg.USCH_QIDX
  let x := s.txq q
  let m := s.rdA ag Reg.USCH_QDATA0_MODE
  let c : QCfg := { mode := if m = 3 then 0 else m, shapeEn := s.rdA ag Reg.USCH_QDATA0_SHAPE_EN ≠ 0,
                    ovh := s.rdA ag Reg.USCH_QDATA0_OVH, weight := s.rdA ag Reg.USCH_QDATA0_WEIGHT,
                    rate0 := s.rdA ag Reg.USCH_QDATA1_RATE0, burst0 := s.rdA ag Reg.USCH_QDATA2_BURST0,
                    rate1 := s.rdA ag Reg.USCH_QDATA3_RATE1, burst1 := s.rdA ag Reg.USCH_QDATA4_BURST1 }
  if c.mode ≠ x.cfg.mode ∧ (x.b0.resv ≠ 0 ∨ x.b1.resv ≠ 0) then s.wrA ag Reg.USCH_QCMD_STATUS St.busy
  else (s.setTxq q fun x => x.reconf c).wrA ag Reg.USCH_QCMD_STATUS St.ok

def execQueueWrite (ag : Agent) (s : State) : Out := .next <| s.gated ag fun s => s.queueWrite ag

/-- RESET_BUCKETS applies R155 and clears the queue's credit. -/
def State.resetBuckets (s : State) (ag : Agent) : State :=
  let q := s.rdA ag Reg.USCH_QIDX
  (s.setTxq q fun x => { x with b0 := x.b0.full x.cfg.size0, b1 := if x.cfg.mode = 2 then x.b1.full x.cfg.size1 else x.b1,
                                credit := 0 }).wrA ag Reg.USCH_QCMD_STATUS St.ok

def execResetBuckets (ag : Agent) (s : State) : Out := .next <| s.gated ag fun s => s.resetBuckets ag

/-! ### Container slots -/

/-- An OWNER write is refused while frames of the slot are in a burst (R147), while one of its queues is enabled, or past the 32 slots a VF may
own (R285). -/
def State.ownerRefused (s : State) (c new : Nat) : Option Row :=
  if new = s.rd Reg.USCH_CT_CTL_OWNER 0 c then none
  else if s.slotBusy c then some Reg.USCH_STATUS_WERR
  else if (List.range 64).any (fun k => s.isOn Reg.HIF_TX_CTL_EN 0 (64 * c + k)) then some Reg.HIF_STATUS_WERR
  else if 1 ≤ new ∧ new ≤ 128 ∧ (s.owned Reg.USCH_CT_CTL_OWNER new).length ≥ 32 then some Reg.HIF_STATUS_WERR
  else none

/-- A write of one word of USCH_CT_s: the first word may start the shaper or VTIME; a lowered BURST trims (R155, R158). -/
def State.slotWrite (s : State) (c off v : Nat) : State :=
  if c ≥ 128 then s else
  match off with
  | 0 =>
    match s.ownerRefused c (bits v 23 16) with
    | some r => s.wr r 1
    | none =>
      let was := s.inVtime c
      let en := s.isOn Reg.USCH_CT_CTL_SHAPE_EN 0 c
      let s := ((((s.wr Reg.USCH_CT_CTL_DISC (bit v 0) 0 c).wr Reg.USCH_CT_CTL_SHAPE_EN (bit v 1) 0 c).wr Reg.USCH_CT_CTL_SMODE
        (bits v 3 2) 0 c).wr Reg.USCH_CT_CTL_OVH (bits v 11 4) 0 c).wr Reg.USCH_CT_CTL_OWNER (bits v 23 16) 0 c
      let s := if bit v 1 = 1 && !en then
          s.setSlot c fun y => { y with b0 := y.b0.full (s.ctSize0 c),
                                        b1 := if s.rd Reg.USCH_CT_CTL_SMODE 0 c = 2 then y.b1.full (s.ctSize1 c) else y.b1 }
        else s.setSlot c fun y => { y with b0 := y.b0.trim (s.ctSize0 c), b1 := y.b1.trim (s.ctSize1 c) }
      if s.inVtime c && !was then s.enterVtime c else s.wr Reg.USCH_CT_STATUS_FB (b2n (s.inVtime c)) 0 c
  | 0x04 => s.wr Reg.USCH_CT_RATE0 v 0 c
  | 0x08 =>
    let s := s.wr Reg.USCH_CT_BURST0 v 0 c
    s.setSlot c fun y => { y with b0 := y.b0.trim (s.ctSize0 c) }
  | 0x0C => s.wr Reg.USCH_CT_RATE1 v 0 c
  | 0x10 =>
    let s := s.wr Reg.USCH_CT_BURST1 v 0 c
    s.setSlot c fun y => { y with b1 := y.b1.trim (s.ctSize1 c) }
  | 0x14 => s.wr Reg.USCH_CT_QUANTUM v 0 c
  | 0x18 => s.wr Reg.USCH_CT_CREDIT_CAP v 0 c
  | 0x1C => s.wr Reg.USCH_CT_BUFREP_EST v 0 c
  | 0x20 => if bit v 8 = 1 then s.wr Reg.USCH_CT_STATUS_STARVED 0 0 c else s
  | _ => s

def execContainerSlotWrite (ag : Agent) (slot off : Nat) (v : BitVec 32) (s : State) : Out :=
  .next <| s.gated ag fun s => s.slotWrite slot off v.toNat

/-! ### The ledgers (R173, R175) -/

def State.cellsIn (s : State) (committed : Bool) : Nat :=
  (s.bursts.filter fun b => b.committed == committed).foldl (fun n b => n + b.cells) 0

/-- The bucket that USCH_AUD_CTL selects; a number above 8,319 acts as 0. -/
def State.auditBucket (s : State) : Bucket :=
  let n := s.rd Reg.USCH_AUD_CTL_BUCKET
  let b1 := s.isOn Reg.USCH_AUD_CTL_B1
  if 8192 ≤ n ∧ n ≤ 8319 then (if b1 then (s.slotSt (n - 8192)).b1 else (s.slotSt (n - 8192)).b0)
  else let q := if n < 8192 then n else 0; if b1 then (s.txq q).b1 else (s.txq q).b0

def TxQ.count (x : TxQ) (p : TxFrame → Bool) : Nat := x.frames.foldl (fun n f => if p f then n + f.descs.length else n) 0

/-- Descriptors of a slot: posted, in host, head, reserved, committed, completed. A finished frame that waits for earlier ones counts under
COMMITTED when it was placed, under HEAD when it was not. -/
def State.descLedger (s : State) (c : Nat) : List Nat :=
  let qs := s.slotQueues c
  let sum := fun (g : Nat → Nat) => qs.foldl (fun n q => n + g q) 0
  [sum fun q => (s.txq q).posted,
   sum fun q => sub16 (s.rd Reg.HIF_TX_IDX_PROD 0 q) (s.txq q).fetchIdx,
   sum fun q => (s.txq q).part.length + (s.txq q).count fun f => f.st == .head || (f.st == .done && !f.placed),
   sum fun q => (s.txq q).count fun f => f.st == .reserved,
   sum fun q => (s.txq q).count fun f => f.st == .committed || (f.st == .done && f.placed),
   sum fun q => (s.txq q).completed]

/-- The per-frame grain equation of a wave of the active leg: the grains gained for the last completed upstream frame are HG_USED, within the
cap (R173). -/
def State.frameGrainsOk (s : State) (u : Nat) : Bool :=
  let g := s.leg s.active
  let gained := if u = 0 then g.gained.1 else g.gained.2
  let cap := if u = 0 then g.capped.1 else g.capped.2
  gained == s.rd Reg.HG_USED_GRAINS s.active.n u && gained ≤ cap

/-- The equations of R173 for the selected bucket and slot: the place of each one's USCH_AUD_STATUS.MISMATCH bit, and whether it fails. -/
def State.auditEqs (s : State) : List (Nat × Bool) :=
  let b := s.auditBucket
  let d := s.descLedger (s.rd Reg.USCH_AUD_CTL_SLOT)
  let g := fun k => d.getD k 0
  let e := s.led
  [(0, decide (e.cellFree + s.cellsIn false + s.cellsIn true ≠ 65536)),
   (1, decide ((b.filled + 2 ^ 64 - b.trimmed % 2 ^ 64) % 2 ^ 64 ≠ (b.level + b.resv + b.debited) % 2 ^ 64)),
   (2, decide (g 0 ≠ g 1 + g 2 + g 3 + g 4 + g 5)),
   (3, decide (e.accepted.1 ≠ e.opened.1 + e.refused.1)), (3, decide (e.accepted.2 ≠ e.opened.2 + e.refused.2)),
   (3, !s.frameGrainsOk 0), (3, !s.frameGrainsOk 1),
   (4, decide (e.capacity ≠ e.header + e.frame + e.idle))]

/-- A failed equation: its bit, its count and its event (R175). -/
def State.auditFail (s : State) (k : Nat) : State :=
  ((s.setBit Reg.USCH_AUD_STATUS_MISMATCH 0 k).inc Reg.USCH_CNT_AUD_FAIL).event (Ev.mem 13)

/-- The check at each upstream frame boundary (R175). -/
def State.auditCheck (s : State) : State := (s.auditEqs.filter Prod.snd).foldl (fun s p => s.auditFail p.1) s

/-- Latch every column. -/
def State.auditLatch (s : State) : State :=
  let b := s.auditBucket
  let d := s.descLedger (s.rd Reg.USCH_AUD_CTL_SLOT)
  let e := s.led
  let put := fun (s : State) (rv : Row × Nat) => s.wr rv.1 rv.2
  [(Reg.USCH_AUD_CELL_FREE, e.cellFree), (Reg.USCH_AUD_CELL_RESERVED, s.cellsIn false), (Reg.USCH_AUD_CELL_COMMITTED, s.cellsIn true),
   (Reg.USCH_AUD_TOK_FILLED, b.filled), (Reg.USCH_AUD_TOK_TRIMMED, b.trimmed), (Reg.USCH_AUD_TOK_LEVEL, b.level),
   (Reg.USCH_AUD_TOK_RESERVED, b.resv), (Reg.USCH_AUD_TOK_DEBITED, b.debited),
   (Reg.USCH_AUD_DESC_POSTED, d.getD 0 0), (Reg.USCH_AUD_DESC_IN_HOST, d.getD 1 0), (Reg.USCH_AUD_DESC_HEAD, d.getD 2 0),
   (Reg.USCH_AUD_DESC_RESERVED, d.getD 3 0), (Reg.USCH_AUD_DESC_COMMITTED, d.getD 4 0), (Reg.USCH_AUD_DESC_COMPLETED, d.getD 5 0),
   (Reg.USCH_AUD_GR_ACCEPTED_U0, e.accepted.1), (Reg.USCH_AUD_GR_OPENED_U0, e.opened.1), (Reg.USCH_AUD_GR_REFUSED_U0, e.refused.1),
   (Reg.USCH_AUD_GR_ACCEPTED_U1, e.accepted.2), (Reg.USCH_AUD_GR_OPENED_U1, e.opened.2), (Reg.USCH_AUD_GR_REFUSED_U1, e.refused.2),
   (Reg.USCH_AUD_BY_CAPACITY, e.capacity), (Reg.USCH_AUD_BY_HEADER, e.header), (Reg.USCH_AUD_BY_FRAME, e.frame),
   (Reg.USCH_AUD_BY_IDLE, e.idle), (Reg.USCH_AUD_GR_OTHER_U0, e.other.1), (Reg.USCH_AUD_GR_OTHER_U1, e.other.2)].foldl put s

/-- A write of USCH_AUD_CTL: the selection, and with SNAP = 1 the latch. -/
def State.uschSnap (s : State) (v : Nat) : State :=
  let s := ((s.wr Reg.USCH_AUD_CTL_SLOT (bits v 14 8)).wr Reg.USCH_AUD_CTL_BUCKET (bits v 29 16)).wr Reg.USCH_AUD_CTL_B1 (bit v 30)
  if bit v 0 = 1 then s.auditLatch.inc Reg.USCH_AUD_STATUS_SNAP_SEQ else s

def execUschAuditSnap (ag : Agent) (v : BitVec 32) (s : State) : Out := .next <| s.gated ag fun s => s.uschSnap v.toNat

end Sys2Proof.Machine
end

