-- ==== Sys2Proof/Machine/HostRings.lean ====
section
/-! DEFINITION. The host rings: doorbells, fetches, receive posts, completions, flush, interrupts, replay, the host ledgers, the event
log and the error logs (11_host_interface_and_rings.md, and the admin rings of R330). -/

namespace Sys2Proof.Machine

/-- The registers of a ring kind. -/
structure RingRows where
  baseLo : Row
  baseHi : Row
  size : Row
  en : Row
  prod : Row
  cons : Row
  err : Option (Row × Row)

def ringRows : RingKind → RingRows
  | .tx => ⟨Reg.HIF_TX_BASE_LO, Reg.HIF_TX_BASE_HI, Reg.HIF_TX_CTL_SIZE, Reg.HIF_TX_CTL_EN, Reg.HIF_TX_IDX_PROD, Reg.HIF_TX_IDX_CONS,
            some (Reg.HIF_TX_CTL_ERR, Reg.HIF_TX_CTL_ERRCODE)⟩
  | .rx => ⟨Reg.HIF_RX_BASE_LO, Reg.HIF_RX_BASE_HI, Reg.HIF_RX_CTL_SIZE, Reg.HIF_RX_CTL_EN, Reg.HIF_RX_IDX_PROD, Reg.HIF_RX_IDX_CONS,
            some (Reg.HIF_RX_CTL_ERR, Reg.HIF_RX_CTL_ERRCODE)⟩
  | .cq => ⟨Reg.HIF_CQ_BASE_LO, Reg.HIF_CQ_BASE_HI, Reg.HIF_CQ_CTL_SIZE, Reg.HIF_CQ_CTL_EN, Reg.HIF_CQ_IDX_PROD, Reg.HIF_CQ_IDX_CONS,
            some (Reg.HIF_CQ_CTL_ERR, Reg.HIF_CQ_CTL_ERRCODE)⟩
  | .eq => ⟨Reg.HIF_EQ_BASE_LO, Reg.HIF_EQ_BASE_HI, Reg.HIF_EQ_CTL_SIZE, Reg.HIF_EQ_CTL_EN, Reg.HIF_EQ_IDX_PROD, Reg.HIF_EQ_IDX_CONS,
            some (Reg.HIF_EQ_CTL_ERR, Reg.HIF_EQ_CTL_ERRCODE)⟩
  | .asq => ⟨Reg.ADM_SQ_BASE_LO, Reg.ADM_SQ_BASE_HI, Reg.ADM_SQ_CTL_SQ_SIZE, Reg.ADM_SQ_CTL_SQ_EN, Reg.ADM_SQ_IDX_SQ_PROD,
             Reg.ADM_SQ_IDX_SQ_CONS, some (Reg.ADM_SQ_CTL_SQ_ERR, Reg.ADM_SQ_CTL_SQ_ERRCODE)⟩
  | .acq => ⟨Reg.ADM_CQ_BASE_LO, Reg.ADM_CQ_BASE_HI, Reg.ADM_CQ_CTL_CQ_SIZE, Reg.ADM_CQ_CTL_CQ_EN, Reg.ADM_CQ_IDX_CQ_PROD,
             Reg.ADM_CQ_IDX_CQ_CONS, none⟩

/-- log2 of a ring's entries: 6 to 16 (R286), or 6 to 12 for the admin rings (R330). -/
def State.ringBits (s : State) (kind : RingKind) (ring : Nat) : Nat :=
  let x := ringLog (s.rd (ringRows kind).size 0 ring)
  match kind with
  | .asq => min x 12
  | .acq => min x 12
  | _ => x

/-- The capacity of R286. -/
def State.ringRoom (s : State) (kind : RingKind) (ring : Nat) : Nat :=
  if s.ringBits kind ring = 16 then 65535 else 2 ^ s.ringBits kind ring

def State.ringErr (s : State) (kind : RingKind) (ring : Nat) : Bool :=
  match (ringRows kind).err with
  | some (e, _) => s.isOn e 0 ring
  | none => false

/-- Show or clear a ring's ERR and ERRCODE (R288). (DEDUCED, log 24.) -/
def State.setRingErr (s : State) (kind : RingKind) (ring on status : Nat) : State :=
  match (ringRows kind).err with
  | some (e, c) => (s.wr e on 0 ring).wr c status 0 ring
  | none => s

def State.rxr (s : State) (r : Nat) : RxR := Tab.get {} r s.host.rxr
def State.setRxr (s : State) (r : Nat) (f : RxR → RxR) : State :=
  { s with host := { s.host with rxr := Tab.put {} r (f (s.rxr r)) s.host.rxr } }

/-! ### Admin completion entries (R330, R331) -/

/-- A completion of a command: CID, FINAL and PROGRESS, STATUS, HANDLE, PERMILLE, RESULT; PHASE is added when it is written. -/
def admEntry (cid : Nat) (final progress : Bool) (status handle permille result : Nat) : List Byte :=
  leBytes 2 cid ++ leBytes 1 (2 * b2n final + 4 * b2n progress) ++ leBytes 1 status ++ leBytes 2 handle ++ leBytes 2 permille ++
    leBytes 8 result

/-- CQ_FULL of the admin completion ring, at most once per host millisecond (R299, R330). -/
def State.admCqFull (s : State) : State :=
  if s.adm.fullMs = some s.msNow then s else { s with adm := { s.adm with fullMs := some s.msNow } }.pfEvent 17

/-- Write the entries that the admin completion ring has room for. -/
def State.admFlush : Nat → State → State
  | 0, s => s
  | k + 1, s =>
    match s.adm.cqWait with
    | [] => s
    | e :: r =>
      let prod := s.rd Reg.ADM_CQ_IDX_CQ_PROD
      if !s.isOn Reg.ADM_CQ_CTL_CQ_EN || !s.canDma 0 then s
      else if sub16 prod (s.rd Reg.ADM_CQ_IDX_CQ_CONS) ≥ s.ringRoom .acq 0 then s.admCqFull else
      let sz := s.ringBits .acq 0
      let phase := 1 - (prod / 2 ^ sz) % 2
      let addr := s.rd2 Reg.ADM_CQ_BASE_LO Reg.ADM_CQ_BASE_HI + 16 * (prod % 2 ^ sz)
      let entry := e.take 2 ++ leBytes 1 (leNat (slice e 2 1) + phase) ++ e.drop 3
      let s := (s.emit (.hostWrite 0 addr false entry)).wr Reg.ADM_CQ_IDX_CQ_PROD (prod + 1)
      let s := if s.isOn Reg.ADM_CQ_CTL_INT_EN then s.msix 0 (s.rd Reg.ADM_CQ_CTL_VEC) else s
      State.admFlush k { s with adm := { s.adm with cqWait := r } }

/-- Complete to the admin ring. -/
def State.admPush (s : State) (entry : List Byte) : State :=
  let s := { s with adm := { s.adm with cqWait := s.adm.cqWait ++ [entry] } }
  s.admFlush s.adm.cqWait.length

/-! ### Doorbells (R289, R290) -/

/-- The test of R289 on a new index. -/
def State.dbFits (s : State) (kind : RingKind) (ring new : Nat) : Bool :=
  let R := ringRows kind
  let prod := s.rd R.prod 0 ring
  let cons := s.rd R.cons 0 ring
  match kind with
  | .cq => sub16 new cons ≤ sub16 prod cons
  | .eq => sub16 new cons ≤ sub16 prod cons
  | .acq => sub16 new cons ≤ sub16 prod cons
  | _ => sub16 new cons ≤ s.ringRoom kind ring && sub16 new prod ≤ sub16 new cons

/-- A doorbell that the terminal discards: logged in the writer's error log under the ring number the writer used. -/
def State.dbDiscard (s : State) (f ring k v : Nat) : State :=
  ((s.inc Reg.HIF_CNT_DB_DISCARDED).errLog f 1 0 k v).hostEvent 4 f (f + 65536 * ring) (f + 65536 * k)

/-- An accepted doorbell; it wakes an idle terminal (R367). -/
def State.dbAccept (s : State) (kind : RingKind) (ring new : Nat) : State :=
  let R := ringRows kind
  let n := sub16 new (s.rd R.prod 0 ring)
  let s := s.inc Reg.HIF_CNT_DB_ACCEPTED
  let s :=
    match kind with
    | .tx => (s.wr R.prod new 0 ring).setTxq ring fun x => { x with posted := x.posted + n }
    | .rx => (s.wr R.prod new 0 ring).setRxr ring fun x => if s.isOn Reg.HIF_RX_CTL_LA 0 ring then x else { x with posted := x.posted + n }
    | .asq => s.wr R.prod new 0 ring
    | .acq =>
      let s := s.wr R.cons new 0 ring
      s.admFlush s.adm.cqWait.length
    | _ => s.wr R.cons new 0 ring
  s.idleExit 8

/-- A write to a doorbell address: `k` is the ring as the writer numbers it, `hi` an access at offset +4. -/
def State.doorbell (s : State) (f : Nat) (kind : RingKind) (k v width : Nat) (hi : Bool) : State :=
  if hi && width == 32 then s else
  match s.globalIdx kind f k with
  | none => s.dbDiscard f k k v
  | some ring =>
    if s.ringOwner kind ring = f ∧ s.isOn (ringRows kind).en 0 ring = true ∧ s.ringErr kind ring = false ∧ hi = false ∧
       (width = 32 ∨ width = 64) ∧ s.dbFits kind ring (v % 65536) = true then s.dbAccept kind ring (v % 65536)
    else s.dbDiscard f ring k v

/-- A request from the host arrives and is taken from the receive buffer in the same command: its credits of PH, PD, NPH and NPD are
received and given back (R308). -/
def State.fcTake (s : State) (ph pd nph npd : Nat) : State :=
  let add := fun (t : Four Nat) => (⟨t.w0 + ph, t.w1 + pd, t.w2 + nph, t.w3 + npd⟩ : Four Nat)
  { s with host := { s.host with fcRecv := add s.host.fcRecv, fcBack := add s.host.fcBack } }

def execDoorbell (f : Nat) (kind : RingKind) (k : Nat) (v : BitVec 64) (width : Nat) (hi : Bool) (s : State) : Out :=
  .next <| s.inDom .pcie fun s =>
    let s := s.fcTake 1 1 0 0
    if s.cfg f Cfg.d3hot = 0 then s.doorbell f kind k v.toNat width hi else s.emit (.unsupported f)

/-! ### Ring errors (R288) -/

def kindCode : RingKind → Nat
  | .tx => 0
  | .rx => 1
  | _ => 2

/-- A ring enters ERR with a status: logged for its owner, RING_ERROR raised. -/
def State.ringFail (s : State) (kind : RingKind) (ring status : Nat) : State :=
  let own := s.ringOwner kind ring
  let loc := s.localIdx kind own ring
  ((s.setRingErr kind ring 1 status).errLog own 2 status loc 0).hostEvent 5 own (ringDetail own ring (kindCode kind))
    (ringDetail own loc (kindCode kind))

/-! ### Transmit descriptors (R292, R293) -/

/-- A descriptor as laid out in host memory; bytes 11 to 21 count in a FIRST descriptor only. -/
def descOf (idx : Nat) (b : List Byte) : Desc :=
  let w := leNat (slice b 8 2)
  let t := leNat (slice b 17 1)
  { idx := idx, addr := leNat (slice b 0 8), blen := w % 16384, first := bit w 14 == 1, last := bit w 15 == 1,
    stream := leNat (slice b 10 2), lt := if bit t 0 = 1 then some (leNat (slice b 12 5)) else none,
    tagReq := bit t 1 == 1, tagOp := bits t 3 2, cTci := leNat (slice b 18 2), sTci := leNat (slice b 20 2),
    rsvd := (bit w 14 == 1 && t / 16 != 0) || leNat (slice b 22 10) != 0 }

def chainBytes (ds : List Desc) : Nat := ds.foldl (fun n d => n + d.blen) 0

/-- Add a frame to its queue: a candidate, or one that completes as soon as those before it have. -/
def State.addFrame (s : State) (q : Nat) (f : TxFrame) : State :=
  let fresh := (s.txq q).head.isNone
  let s := s.setTxq q fun x => { x with frames := x.frames ++ [f] }
  if f.st == .head then (if fresh then s.newHead q else s) else s.complete q

/-- Complete a chain INVALID (R293). -/
def State.chainInvalid (s : State) (q : Nat) (ds : List Desc) : State :=
  match ds with
  | [] => s
  | d :: _ =>
    let own := s.txOwner q
    let s := s.addFrame q { didx := d.idx, descs := ds, st := .done, status := St.invalid, stream := d.stream }
    s.hostEvent 21 own (own + 65536 * q) (own + 65536 * s.localIdx .tx own q)

/-- The tag insertion of a chain (R200): the descriptor's request, or its function's default. -/
def State.tagsOf (s : State) (q : Nat) (d : Desc) : Nat × Nat × Nat :=
  if d.tagReq then (d.tagOp, d.cTci, d.sTci) else
  let f := s.txOwner q
  (s.rd Reg.STBL_TXTAG_OP 0 f, s.rd Reg.STBL_TXTAG_TCI_C_TCI 0 f, s.rd Reg.STBL_TXTAG_TCI_S_TCI 0 f)

/-- A whole chain has been fetched: its form (R293), its launch time (R145), then its place in the queue; a flush in progress cancels it. -/
def State.chainWhole (s : State) (q : Nat) (ds : List Desc) : State :=
  match ds with
  | [] => s
  | d :: _ =>
    let (op, c, t) := s.tagsOf q d
    let raw := chainBytes ds
    if ds.any (fun d => d.rsvd || d.blen == 0) || raw < 14 || raw + tagBytes op > 9216 then s.chainInvalid q ds else
    let f : TxFrame := { didx := d.idx, descs := ds, bytes := max 60 (raw + tagBytes op), stream := d.stream, lt := d.lt,
                         tagOp := op, cTci := c, sTci := t }
    let far := match d.lt with
      | some t => decide (linDiff t s.nsNow > (min (s.rd Reg.TEV_LT_CTL_HORIZON_MS) 549755 * 1000000 : Nat))
      | none => false
    if far then (s.inc Reg.TEV_CNT_LT_REFUSED).addFrame q { f with st := .done, status := St.outOfWindow }
    else if (s.txq q).flushTo.isSome then s.addFrame q { f with st := .done, status := St.cancelled }
    else s.addFrame q f

/-- One descriptor arrives from host memory and joins its chain. -/
def State.txDesc (s : State) (q : Nat) (b : List Byte) : State :=
  let x := s.txq q
  let d := descOf x.fetchIdx b
  let s := (s.inc Reg.HIF_CNT_DESC_FETCHED).inc Reg.HIF_TX_HELD 0 q
  let s := s.setTxq q fun x => { x with fetchIdx := (x.fetchIdx + 1) % 65536 }
  if x.part.isEmpty && !d.first then s.chainInvalid q [d] else
  let (s, part) := if d.first && !x.part.isEmpty then ((s.setTxq q fun x => { x with part := [] }).chainInvalid q x.part, [])
    else (s, x.part)
  let ds := part ++ [d]
  if d.last then (s.setTxq q fun x => { x with part := [] }).chainWhole q ds
  else if ds.length ≥ 16 then (s.setTxq q fun x => { x with part := [] }).chainInvalid q ds
  else s.setTxq q fun x => { x with part := ds }

/-! ### Receive posts and lookaside requests (R295, R297) -/

/-- One post arrives; BLEN below 64 or a reserved bit puts the ring in ERR. -/
def State.rxPost (s : State) (r : Nat) (b : List Byte) : State :=
  let w := leNat (slice b 8 2)
  let s := s.inc Reg.HIF_CNT_DESC_FETCHED
  if w % 16384 < 64 ∨ w ≥ 16384 ∨ leNat (slice b 10 6) ≠ 0 then s.ringFail .rx r St.invalid else
  let x := s.rxr r
  (s.inc Reg.HIF_RX_HELD 0 r).setRxr r fun y =>
    { y with fetchIdx := (x.fetchIdx + 1) % 65536, posts := y.posts ++ [⟨x.fetchIdx, leNat (slice b 0 8), w % 16384⟩] }

def State.rxRequest (s : State) (r : Nat) (b : List Byte) : State :=
  let x := s.rxr r
  ((s.inc Reg.HIF_CNT_DESC_FETCHED).inc Reg.HIF_RX_HELD 0 r).setRxr r fun y =>
    { y with fetchIdx := (x.fetchIdx + 1) % 65536, reqs := y.reqs ++ [(x.fetchIdx, slice b 0 64)] }

/-! ### Fetching (R288, R303) -/

/-- The next entry a ring would fetch: its index and its bytes' length. -/
def State.fetchNext (s : State) (kind : RingKind) (ring : Nat) : Option (Nat × Nat) :=
  let R := ringRows kind
  let prod := s.rd R.prod 0 ring
  if !s.isOn R.en 0 ring || s.ringErr kind ring || !s.canDma (s.ringOwner kind ring) ||
     s.host.reads.any (fun r => r.kind == kindCode kind && r.ring == ring) then none else
  match kind with
  | .tx => let i := (s.txq ring).fetchIdx; if i = prod ∨ (s.txq ring).flushTo = some i then none else some (i, 32)
  | .rx => let i := (s.rxr ring).fetchIdx; if i = prod then none else some (i, if s.isOn Reg.HIF_RX_CTL_LA 0 ring then 64 else 16)
  | .asq => let i := s.rd R.cons; if i = prod then none else some (i, 64)
  | _ => none

/-- A fetched entry reaches its ring. An admin command then runs as its own command. -/
def State.fetched (s : State) (kind : RingKind) (ring : Nat) (b : List Byte) : State :=
  match kind with
  | .tx => s.txDesc ring b
  | .rx => if s.isOn Reg.HIF_RX_CTL_LA 0 ring then s.rxRequest ring b else s.rxPost ring b
  | .asq => s.inc Reg.HIF_CNT_DESC_FETCHED
  | _ => s

/-- DESCRIPTOR_FETCH: with its data at once, or as a read request that a completion answers. -/
def State.descriptorFetch (s : State) (kind : RingKind) (ring : Nat) (data : Option (List Byte)) : State :=
  match s.fetchNext kind ring with
  | none => s
  | some (i, n) =>
    if !s.canRead (s.ringOwner kind ring) n then s else
    let R := ringRows kind
    let tag := s.freshTag
    let addr := s.rd2 R.baseLo R.baseHi 0 ring + n * (i % 2 ^ s.ringBits kind ring)
    let t := s.emit (.hostRead tag (s.ringOwner kind ring) addr n)
    match data with
    | some b => t.fetched kind ring b
    | none =>
      { t with host := { t.host with reads := t.host.reads ++ [({ tag := tag, kind := kindCode kind, ring := ring, idx := i, len := n, addr := addr } : Read)] } }

def execDescriptorFetch (kind : RingKind) (ring : Nat) (data : Option (List Byte)) (s : State) : Out :=
  .next <| s.inDom .core fun s => s.descriptorFetch kind ring data

def readKind (r : Read) : RingKind :=
  match r.kind with
  | 0 => .tx
  | 1 => .rx
  | _ => .asq

def State.closeRead (s : State) (tag : Nat) : State :=
  { s with host := { s.host with reads := s.host.reads.filter fun r => r.tag != tag } }

/-- A read of a ring fails: reported with its failing address, then the ring's ERR (R282, R288). -/
def State.readFail (s : State) (r : Read) (why : ReadFault) : State :=
  let kind := readKind r
  let own := s.ringOwner kind r.ring
  ((s.closeRead r.tag).readFault own r.ring (s.localIdx kind own r.ring) r.kind r.addr why).ringFail kind r.ring why.status

/-- A completion of no outstanding read (R282): an advisory non-fatal error. -/
def State.unexpectedCpl (s : State) : State := (s.inc Reg.HIF_CNT_CPL_UNEXPECTED).aerReport Aer.unexpected true

/-- HOST_READ_COMPLETION (R282). -/
def State.readCompletion (s : State) (tag : Nat) (mine : Bool) (b : List Byte) (lenOk good : Bool) : State :=
  match s.host.reads.find? fun r => r.tag == tag with
  | none => s.unexpectedCpl
  | some r =>
    if !mine then s.unexpectedCpl
    else if !lenOk then s.readFail r .malformed
    else if !good then s.readFail r .errored
    else (s.closeRead tag).fetched (readKind r) r.ring b

def execHostReadCompletion (tag : Nat) (mine : Bool) (bytes : List Byte) (lenOk good : Bool) (s : State) : Out :=
  .next <| s.inDom .pcie fun s => s.readCompletion tag mine bytes lenOk good

/-- COMPLETION_TIMEOUT (R282). -/
def State.readTimeout (s : State) (tag : Nat) : State :=
  match s.host.reads.find? fun r => r.tag == tag with
  | none => s
  | some r => s.readFail r .timedOut

def execCompletionTimeout (tag : Nat) (s : State) : Out := .next <| s.inDom .pcie fun s => s.readTimeout tag

/-! ### Flush (R303) -/

/-- Start a flush up to the accepted producer index; one that comes while another runs is discarded, save that a disable is remembered. -/
def State.flushStart (s : State) (q : Nat) (disable : Bool) : State :=
  if s.isOn Reg.HIF_TX_CTL_FLUSH_BUSY 0 q then (if disable then s.setTxq q fun x => { x with disabling := true } else s) else
  let p := s.rd Reg.HIF_TX_IDX_PROD 0 q
  let s := (s.wr Reg.HIF_TX_CTL_FLUSH_BUSY 1 0 q).setTxq q fun x => { x with flushTo := some p, disabling := disable }
  let s := s.unwindWhere s.active (fun b => b.frames.any fun p => p.q == q) 3
  ((s.txq q).frames.filter fun f => f.st == .head).foldl (fun s f => s.finish q f.didx St.cancelled) s

def execFlush (ag : Agent) (q : Nat) (s : State) : Out :=
  .next <| s.via ag fun s => match ag with
    | .vf n => if s.txOwner q = n ∧ s.isOn Reg.HIF_TX_CTL_EN 0 q = true then s.flushStart q false else s
    | .bmc => s
    | _ => if s.isOn Reg.HIF_TX_CTL_EN 0 q then s.flushStart q false else s

/-- FLUSH_DONE: every descriptor up to the flushed index has been seen (or the ring is in ERR and fetches no more). -/
def State.flushEnd (s : State) (q : Nat) : State :=
  let x := s.txq q
  if x.flushTo ≠ some x.fetchIdx ∧ (x.flushTo = none ∨ s.ringErr .tx q = false) then s else
  let own := s.txOwner q
  let s := match x.part with
    | [] => s
    | d :: _ => (s.setTxq q fun x => { x with part := [] }).addFrame q
        { didx := d.idx, descs := x.part, st := .done, status := St.flushedPartial, stream := d.stream }
  let s := s.setTxq q fun x => { x with flushTo := none, disabling := false }
  let s := s.wr Reg.HIF_TX_CTL_FLUSH_BUSY 0 0 q
  let s := if x.disabling then s.wr Reg.HIF_TX_CTL_EN 0 0 q else s
  s.hostEvent 20 own (own + 65536 * q) (own + 65536 * s.localIdx .tx own q)

def execFlushDone (q : Nat) (s : State) : Out := .next <| s.inDom .core fun s => s.flushEnd q

/-! ### Enabling and disabling (R285, R287, R300) -/

/-- The ring's start is refused: BASE, its completion ring, or its vector. -/
def State.startRefused (s : State) (kind : RingKind) (ring : Nat) : Bool :=
  let R := ringRows kind
  let own := s.ringOwner kind ring
  let cqBad := fun c => !s.isOn Reg.HIF_CQ_CTL_EN 0 c || s.rd Reg.HIF_CQ_CTL_OWNER 0 c != own
  s.rd R.baseLo 0 ring % 64 != 0 ||
  match kind with
  | .tx => cqBad (s.rd Reg.HIF_TX_CQ 0 ring)
  | .rx => cqBad (s.rd Reg.HIF_RX_CQ 0 ring)
  | .cq => s.rd Reg.HIF_CQ_INT_VEC 0 ring ≥ vecCount own
  | .eq => s.rd Reg.HIF_EQ_INT_VEC 0 ring ≥ vecCount own
  | .asq => !s.isOn Reg.ADM_CQ_CTL_CQ_EN
  | .acq => s.rd Reg.ADM_CQ_CTL_VEC ≥ vecCount 0

/-- Reads that a ring has outstanding are forgotten: their completions are unexpected from then on. -/
def State.dropReads (s : State) (kind ring : Nat) : State :=
  { s with host := { s.host with reads := s.host.reads.filter fun r => !(r.kind == kind && r.ring == ring) } }

/-- Entries that wait to be issued no longer advance a ring that starts afresh. -/
def State.dropPass (s : State) (kind : RingKind) (ring : Nat) : State :=
  let f := fun (e : Cpl) => if e.pass.any fun p => p.1 == kind && p.2.1 == ring then { e with pass := none } else e
  { s with host := { s.host with cqs := Tab.mapv {} (fun _ (r : CqR) => { r with waiting := r.waiting.map f }) s.host.cqs } }

/-- EN goes from 0 to 1: PROD = CONS = 0 and nothing held, or ERR with INVALID. -/
def State.ringStart (s : State) (kind : RingKind) (ring : Nat) : State :=
  if s.startRefused kind ring then s.setRingErr kind ring 1 St.invalid else
  let R := ringRows kind
  let s := (((s.setRingErr kind ring 0 0).wr R.en 1 0 ring).wr R.prod 0 0 ring).wr R.cons 0 0 ring
  match kind with
  | .tx => (((s.wr Reg.HIF_TX_HELD 0 0 ring).dropReads 0 ring).dropPass .tx ring).setTxq ring fun x =>
      { x with frames := [], part := [], fetchIdx := 0, completed := x.posted, flushTo := none, disabling := false }
  | .rx => (((s.wr Reg.HIF_RX_HELD 0 0 ring).dropReads 1 ring).dropPass .rx ring).setRxr ring fun x =>
      { x with fetchIdx := 0, posts := [], reqs := [], la := [], starvedMs := none }
  | .cq => (s.wr Reg.HIF_CQ_SEQ 0 0 ring).setCq ring fun _ => {}
  | .eq => (s.wr Reg.HIF_EQ_SEQ 0 0 ring).setEq ring fun _ => {}
  | .asq => s.dropReads 2 ring
  | .acq => { s with adm := { s.adm with cqWait := [], fullMs := none } }

/-- Drop a receive ring's posts and requests without completions; the ledger counts the posts as discarded. -/
def State.rxDrop (s : State) (r : Nat) : State :=
  let left := if s.isOn Reg.HIF_RX_CTL_LA 0 r then 0 else sub16 (s.rd Reg.HIF_RX_IDX_PROD 0 r) (s.rxr r).fetchIdx
  let s := ((s.wr Reg.HIF_RX_CTL_EN 0 0 r).wr Reg.HIF_RX_HELD 0 0 r).dropReads 1 r
  s.setRxr r fun x => { x with discarded := x.discarded + x.posts.length + left, posts := [], reqs := [], la := [],
                               fetchIdx := s.rd Reg.HIF_RX_IDX_PROD 0 r }

/-- Some enabled ring completes to ring c. -/
def State.cqNamed (s : State) (c : Nat) : Bool :=
  (s.owned Reg.HIF_TX_CTL_EN 1).any (fun q => s.rd Reg.HIF_TX_CQ 0 q == c) ||
  (s.owned Reg.HIF_RX_CTL_EN 1).any (fun r => s.rd Reg.HIF_RX_CQ 0 r == c)

/-- EN goes from 1 to 0. -/
def State.ringStop (s : State) (kind : RingKind) (ring : Nat) : State :=
  match kind with
  | .tx => s.flushStart ring true
  | .rx => s.rxDrop ring
  | .cq => if s.cqNamed ring then s.wr Reg.HIF_STATUS_WERR 1 else s.wr Reg.HIF_CQ_CTL_EN 0 0 ring
  | .eq => s.wr Reg.HIF_EQ_CTL_EN 0 0 ring
  | .asq => s.wr Reg.ADM_SQ_CTL_SQ_EN 0
  | .acq => if s.isOn Reg.ADM_SQ_CTL_SQ_EN then s.wr Reg.HIF_STATUS_WERR 1 else s.wr Reg.ADM_CQ_CTL_CQ_EN 0

/-- An agent may write a ring's control: a VF its own rings, through VF_RSEL; the BMC none. -/
def State.mayRing (s : State) (ag : Agent) (kind : RingKind) (ring : Nat) : Bool :=
  match ag with
  | .vf n => s.ringOwner kind ring == n && (match kind with
      | .asq => false
      | .acq => false
      | _ => true)
  | .bmc => false
  | .fw _ => !(kind == .asq || kind == .acq)
  | .pf => true

def isVf : Agent → Bool
  | .vf _ => true
  | _ => false

/-- OWNER of the kinds that have one of their own, with R285's limit. -/
def ownerRow : RingKind → Option (Row × Nat)
  | .rx => some (Reg.HIF_RX_CTL_OWNER, 512)
  | .cq => some (Reg.HIF_CQ_CTL_OWNER, 128)
  | .eq => some (Reg.HIF_EQ_CTL_OWNER, 32)
  | _ => none

/-- What a control word asks for OWNER: only the PF writes it. -/
def ownerAsked (ag : Agent) (kind : RingKind) (v : Nat) : Option (Row × Nat × Nat) :=
  if isVf ag then none else (ownerRow kind).map fun (r, lim) => (r, lim, bits v 23 16)

def sizeWidth : RingKind → Nat
  | .asq => 16
  | .acq => 16
  | _ => 32

/-- A word that would change SIZE, LA or OWNER. -/
def State.ctlChanges (s : State) (ag : Agent) (kind : RingKind) (ring v : Nat) : Bool :=
  s.rd (ringRows kind).size 0 ring != v % sizeWidth kind ||
  (kind == .rx && s.rd Reg.HIF_RX_CTL_LA 0 ring != bit v 12) ||
  (match ownerAsked ag kind v with
   | some (r, _, o) => s.rd r 0 ring != o
   | none => false)

/-- An ownership change past the limit of R285. -/
def State.ownerFull (s : State) (ag : Agent) (kind : RingKind) (ring v : Nat) : Bool :=
  match ownerAsked ag kind v with
  | some (r, lim, o) => s.rd r 0 ring != o && 1 ≤ o && o ≤ 128 && (s.owned r o).length ≥ lim
  | none => false

def State.ctlFields (s : State) (ag : Agent) (kind : RingKind) (ring v : Nat) : State :=
  let s := s.wr (ringRows kind).size (v % sizeWidth kind) 0 ring
  let s := if kind = .rx then s.wr Reg.HIF_RX_CTL_LA (bit v 12) 0 ring else s
  match ownerAsked ag kind v with
  | some (r, _, o) => s.wr r o 0 ring
  | none => s

/-- A write of a ring's control word (R287, R303). The admin completion ring's VEC and INT_EN stand in the same word. -/
def State.ringCtl (s : State) (ag : Agent) (kind : RingKind) (ring v : Nat) : State :=
  if !s.mayRing ag kind ring then s else
  let vec := fun (s : State) => if kind = .acq then (s.wr Reg.ADM_CQ_CTL_VEC (bits v 22 16)).wr Reg.ADM_CQ_CTL_INT_EN (bit v 23) else s
  if s.isOn (ringRows kind).en 0 ring then
    if s.ctlChanges ag kind ring v then s.wr Reg.HIF_STATUS_WERR 1
    else if bit v 8 = 0 then (vec s).ringStop kind ring
    else if kind = .tx ∧ bit v 10 = 1 then s.flushStart ring false
    else vec s
  else if s.ownerFull ag kind ring v then s.wr Reg.HIF_STATUS_WERR 1
  else
    let s := vec (s.ctlFields ag kind ring v)
    if bit v 8 = 1 then s.ringStart kind ring else s

def execRingEnable (ag : Agent) (kind : RingKind) (ring : Nat) (v : BitVec 32) (s : State) : Out :=
  .next <| s.via ag fun s => s.ringCtl ag kind ring (v.toNat / 512 * 512 + 256 + v.toNat % 256)

def execRingDisable (ag : Agent) (kind : RingKind) (ring : Nat) (v : BitVec 32) (s : State) : Out :=
  .next <| s.via ag fun s => s.ringCtl ag kind ring (v.toNat / 512 * 512 + v.toNat % 256)

/-! ### Completion entries (R298 to R300) -/

def State.cqFull (s : State) (c : Nat) : Bool :=
  sub16 (s.rd Reg.HIF_CQ_IDX_PROD 0 c) (s.rd Reg.HIF_CQ_IDX_CONS 0 c) ≥ ringCap (s.rd Reg.HIF_CQ_CTL_SIZE 0 c)

/-- CQ_FULL, at most once per host millisecond per ring. -/
def State.raiseCqFull (s : State) (c : Nat) : State :=
  if (s.cq c).fullMs = some s.msNow then s else
  let own := s.rd Reg.HIF_CQ_CTL_OWNER 0 c
  (s.setCq c fun r => { r with fullMs := some s.msNow }).hostEvent 17 own (own + 65536 * c) (own + 65536 * s.localIdx .cq own c)

/-- Count an entry by its KIND as it is written. -/
def State.countCpl (s : State) (e : List Byte) : State :=
  match bits (leNat (slice e 2 1)) 2 1 with
  | 0 => (s.inc Reg.HIF_CNT_RX_FRAMES).inc Reg.HIF_CNT_RX_BYTES 0 0 (leNat (slice e 4 2) % 16384)
  | 1 => s.inc Reg.HIF_CNT_TX_COMPLETIONS
  | _ => s

/-- An entry whose timestamp is its issue's: time, quality, generation and bound as they stand (R298, R119). -/
def State.stamped (s : State) (e : Cpl) : List Byte :=
  if !e.live then e.body else
  let b13 := leNat (slice e.body 13 1)
  e.body.take 13 ++ leBytes 1 (b13 % 16 + 16 * s.rd Reg.TIME_QUAL_QUALITY) ++ leBytes 2 (s.rd Reg.TIME_QUAL_GEN) ++ leBytes 6 s.secNow ++
    leBytes 4 (s.nsNow % 1000000000) ++ leBytes 2 (s.rd Reg.TIME_BOUND) ++ e.body.drop 28

/-- An issued entry passes CONS and HELD of its ring over what it covers (R294). -/
def State.passCons (s : State) : Option (RingKind × Nat × Nat) → State
  | some (.tx, q, n) => (s.wr Reg.HIF_TX_IDX_CONS (s.rd Reg.HIF_TX_IDX_CONS 0 q + n) 0 q).dec Reg.HIF_TX_HELD 0 q n
  | some (_, r, n) => (s.wr Reg.HIF_RX_IDX_CONS (s.rd Reg.HIF_RX_IDX_CONS 0 r + n) 0 r).dec Reg.HIF_RX_HELD 0 r n
  | none => s

/-- Write the oldest waiting entry: position PROD, CSEQ and PHASE, then the interrupt. -/
def State.cqWrite (s : State) (c : Nat) : State :=
  let r := s.cq c
  match r.waiting with
  | [] => s
  | e :: rest =>
    let own := s.rd Reg.HIF_CQ_CTL_OWNER 0 c
    if !s.isOn Reg.HIF_CQ_CTL_EN 0 c || !s.canDma own then s
    else if s.cqFull c then s.raiseCqFull c
    else
      let sz := ringLog (s.rd Reg.HIF_CQ_CTL_SIZE 0 c)
      let phase := 1 - (r.count / 2 ^ sz) % 2
      let body := s.stamped e
      let b2 := leNat (slice body 2 1)
      let entry := leBytes 2 r.count ++ leBytes 1 (b2 / 2 * 2 + phase) ++ body.drop 3
      let s := s.emit (.hostWrite own (s.rd2 Reg.HIF_CQ_BASE_LO Reg.HIF_CQ_BASE_HI 0 c + 32 * (r.count % 2 ^ sz)) false entry)
      let s := ((s.wr Reg.HIF_CQ_IDX_PROD (r.count + 1) 0 c).wr Reg.HIF_CQ_SEQ (r.count + 1) 0 c).inc Reg.HIF_CQ_CWR_CNT 0 c
      let s := (s.countCpl entry).passCons e.pass
      let fire := s.isOn Reg.HIF_CQ_INT_INT_EN 0 c && r.unsig + 1 ≥ max (s.rd Reg.HIF_CQ_INT_MOD_CNT 0 c) 1
      let s := s.setCq c fun r => { r with waiting := rest, last16 := ((r.count % 65536, entry) :: r.last16).take 16,
                                           count := r.count + 1, unsig := if fire then 0 else r.unsig + 1 }
      if fire then s.msix own (s.rd Reg.HIF_CQ_INT_VEC 0 c) else s

def execCompletionWrite (cq : Nat) (s : State) : Out := .next <| s.inDom .pcie fun s => s.cqWrite cq

/-- MSIX_MODERATION_TIMER: MOD_US have passed since the first entry not yet signalled (R300). -/
def State.moderation (s : State) (kind : RingKind) (ring : Nat) : State :=
  match kind with
  | .cq =>
    if s.isOn Reg.HIF_CQ_INT_INT_EN 0 ring && s.rd Reg.HIF_CQ_INT_MOD_US 0 ring != 0 && (s.cq ring).unsig != 0 then
      (s.setCq ring fun r => { r with unsig := 0 }).msix (s.rd Reg.HIF_CQ_CTL_OWNER 0 ring) (s.rd Reg.HIF_CQ_INT_VEC 0 ring)
    else s
  | .eq =>
    if s.isOn Reg.HIF_EQ_INT_INT_EN 0 ring && s.rd Reg.HIF_EQ_INT_MOD_US 0 ring != 0 && (s.eq ring).unsig != 0 then
      (s.setEq ring fun r => { r with unsig := 0 }).msix (s.rd Reg.HIF_EQ_CTL_OWNER 0 ring) (s.rd Reg.HIF_EQ_INT_VEC 0 ring)
    else s
  | _ => s

def execMsixModerationTimer (kind : RingKind) (ring : Nat) (s : State) : Out := .next <| s.inDom .pcie fun s => s.moderation kind ring

/-- REPLAY (R302): the entry with the CSEQ asked for, if it is among the last 16. -/
def State.replayCopy (s : State) (ag : Agent) (v : Nat) : State :=
  let c := bits v 9 0
  let s := (s.wrA ag Reg.HIF_REPLAY_CTL_RP_CQ c).wrA ag Reg.HIF_REPLAY_CTL_RP_CSEQ (bits v 31 16)
  match (s.cq c).last16.find? fun e => e.1 == bits v 31 16 with
  | none => s.wrA ag Reg.HIF_REPLAY_STATUS_RP_STATUS St.notFound
  | some (_, e) =>
    ((List.range 8).foldl (fun s i => s.wrA ag Reg.HIF_REPLAY_DATA (leNat (slice e (4 * i) 4)) 0 i) s).wrA ag Reg.HIF_REPLAY_STATUS_RP_STATUS St.ok

def execReplay (ag : Agent) (v : BitVec 32) (s : State) : Out := .next <| s.reg ag fun s => s.replayCopy ag v.toNat

/-! ### The ledgers of R308 -/

/-- The posts ledger of a receive ring: POSTED, IN_HOST, HELD, USED, DISCARDED. -/
def State.postLedger (s : State) (r : Nat) : List Nat :=
  let x := s.rxr r
  [x.posted, if s.isOn Reg.HIF_RX_CTL_LA 0 r then 0 else sub16 (s.rd Reg.HIF_RX_IDX_PROD 0 r) x.fetchIdx, x.posts.length, x.used, x.discarded]

/-- ADVERTISED, RECEIVED, FREE, OCCUPIED and BUFFER of one credit kind: what was received and not given back occupies the buffer. The
columns count the requests that the doorbell, BAR, configuration and register-access commands stand for. (DESIGN CHOICE, log 56.) -/
def State.creditLedger (s : State) (t : Nat) : List Nat :=
  let buf := (Config.fcBuffer t).toNat
  let rcv := s.host.fcRecv.get t
  let back := s.host.fcBack.get t
  [(buf + back) % 2 ^ 64, rcv % 2 ^ 64, buf + back - rcv, rcv - back, buf]

/-- BUFFER, RESERVED, OCCUPIED and FREE of the read completion buffer; a completion is used in the command that brings it. -/
def State.cplLedger (s : State) : List Nat :=
  let buf := (Config.cplBuffer 0).toNat
  [buf, s.cplReserved, 0, buf - s.cplReserved]

/-- The equations of R308: the place of each one's HIF_AUD_STATUS.MISMATCH bit (0 posts, 1 credits, 2 completion space), and whether it fails. -/
def State.hifEqs (s : State) : List (Nat × Bool) :=
  let p := s.postLedger (s.rd Reg.HIF_AUD_CTL_AUD_RING)
  let g := fun (l : List Nat) k => l.getD k 0
  let c := s.cplLedger
  (0, decide (g p 0 ≠ g p 1 + g p 2 + g p 3 + g p 4)) ::
  (List.range 4).flatMap (fun t =>
    let k := s.creditLedger t
    [(1, decide ((g k 0 + 2 ^ 64 - g k 1) % 2 ^ 64 ≠ g k 2 % 2 ^ 64)), (1, decide (g k 2 + g k 3 ≠ g k 4))]) ++
  [(2, decide (g c 0 ≠ g c 1 + g c 2 + g c 3))]

/-- A failed equation: its bit, its count and its event. -/
def State.hifFail (s : State) (k : Nat) : State :=
  let s := (s.setBit Reg.HIF_AUD_STATUS_MISMATCH 0 k).inc Reg.HIF_CNT_AUD_FAIL
  if k = 0 then s.pfEvent 23 (s.rd Reg.HIF_AUD_CTL_AUD_RING) else s.pfEvent 22 (2 ^ k)

def State.hifCheck (s : State) : State := (s.hifEqs.filter Prod.snd).foldl (fun s p => s.hifFail p.1) s

def execHifAuditCheck (s : State) : Out := .next <| s.inDom .pcie State.hifCheck

def State.hifLatch (s : State) : State :=
  let p := s.postLedger (s.rd Reg.HIF_AUD_CTL_AUD_RING)
  let c := s.cplLedger
  let s := (((((s.wr Reg.HIF_AUDP_POST_POSTED (p.getD 0 0)).wr Reg.HIF_AUDP_POST_IN_HOST (p.getD 1 0)).wr Reg.HIF_AUDP_POST_HELD
    (p.getD 2 0)).wr Reg.HIF_AUDP_POST_USED (p.getD 3 0)).wr Reg.HIF_AUDP_POST_DISCARDED (p.getD 4 0))
  let s := (List.range 4).foldl (fun (s : State) t =>
    let k := s.creditLedger t
    ((((s.wr Reg.HIF_AUDC_ADVERTISED (k.getD 0 0) 0 t).wr Reg.HIF_AUDC_RECEIVED (k.getD 1 0) 0 t).wr Reg.HIF_AUDC_FREE (k.getD 2 0) 0 t).wr
      Reg.HIF_AUDC_OCCUPIED (k.getD 3 0) 0 t).wr Reg.HIF_AUDC_BUFFER (k.getD 4 0) 0 t) s
  (((s.wr Reg.HIF_AUDR_CPL_BUFFER (c.getD 0 0)).wr Reg.HIF_AUDR_CPL_RESERVED (c.getD 1 0)).wr Reg.HIF_AUDR_CPL_OCCUPIED (c.getD 2 0)).wr
    Reg.HIF_AUDR_CPL_FREE (c.getD 3 0)

/-- A write of HIF_AUD_CTL: the ring, and with AUD_SNAP the latch. -/
def State.hifSnap (s : State) (v : Nat) : State :=
  let s := s.wr Reg.HIF_AUD_CTL_AUD_RING (bits v 27 16)
  if bit v 0 = 1 then s.hifLatch else s

def execHifAuditSnap (ag : Agent) (v : BitVec 32) (s : State) : Out := .next <| s.reg ag fun s => s.hifSnap v.toNat

/-! ### The event log and the error logs (R315, R316) -/

/-- The next unread entry of the event log goes to POP0 to POP3; an empty log makes POP0 zero. -/
def State.logPop (s : State) : State :=
  match s.host.log with
  | [] => (s.wr Reg.EVT_LOG_POP 0).emit (.regRead 0x341000 0)
  | (a, b, c, d) :: r =>
    (((({ s with host := { s.host with log := r } }.wr Reg.EVT_LOG_POP a 0 0).wr Reg.EVT_LOG_POP b 0 1).wr Reg.EVT_LOG_POP c 0 2).wr
      Reg.EVT_LOG_POP d 0 3).emit (.regRead 0x341000 a)

def execEvtLogPop (ag : Agent) (s : State) : Out := .next <| s.reg ag State.logPop

/-- The next entry of function f's error log; a VF's words stand in its own BAR. -/
def State.errPopOf (s : State) (f : Nat) : State :=
  let l := Tab.get [] f s.host.errs
  let words := match l with
    | [] => if f = 0 then [0] else 0 :: (Tab.get [] f s.host.errPop).drop 1
    | (a, b, c, d) :: _ => [a, b, c, d]
  let s := { s with host := { s.host with errs := Tab.put [] f (l.drop 1) s.host.errs } }
  let s := if f = 0 then words.zipIdx.foldl (fun s (w, i) => s.wr Reg.HIF_ERRLOG_POP w 0 i) s
    else { s with host := { s.host with errPop := Tab.put [] f words s.host.errPop } }
  s.emit (.regRead (if f = 0 then 0x180050 else 0x9000) (words.getD 0 0))

def execErrlogPop (f : Nat) (s : State) : Out := .next <| s.inDom .pcie fun s => s.errPopOf f

end Sys2Proof.Machine
end

