-- ==== Sys2Proof/Machine/Mailbox.lean ====
section
/-! DEFINITION. Mailboxes, the shared window and the BMC's commands over them (R318 to R329). -/

namespace Sys2Proof.Machine

def State.box (s : State) (n : Nat) : Mbox := Tab.get {} n s.mbx.box
def State.setBox (s : State) (n : Nat) (f : Mbox → Mbox) : State :=
  { s with mbx := { s.mbx with box := Tab.put {} n (f (s.box n)) s.mbx.box } }

def State.view (s : State) (ag : Agent) : View := Tab.get {} ag.id s.mbx.view
def State.setView (s : State) (ag : Agent) (f : View → View) : State :=
  { s with mbx := { s.mbx with view := Tab.put {} ag.id (f (s.view ag)) s.mbx.view } }

def State.mbxOwner (s : State) (n : Nat) : Nat := s.rd Reg.MBX_OWN_OWNER 0 n

def State.ownsBox (s : State) (ag : Agent) (n : Nat) : Bool := s.mbxOwner n == ag.id

/-- SB_ALERT_N is asserted while a mailbox of the BMC is FULL (R329). -/
def State.bmcAlert (s : State) : Bool := (List.range 64).any fun n => s.mbxOwner n == 0xE0 && (s.box n).full

/-- Follow a change of the alert with its output. -/
def State.withAlert (s t : State) : State := if s.bmcAlert = t.bmcAlert then t else t.emit (.i3cAlert t.bmcAlert)

def isFn : Agent → Bool
  | .pf => true
  | .vf _ => true
  | _ => false

/-- SPACE encodings of R320 that an agent may use. -/
def spaceOk (ag : Agent) (space : Nat) : Bool :=
  match space with
  | 0 => isFn ag
  | 1 => true
  | 2 => ag.isFw
  | _ => false

/-- A message takes effect in a mailbox (R321, R322): an unacknowledged one is overwritten and remembered as lost. -/
def State.mbxPut (s : State) (n : Nat) (m : Mbox) : State :=
  let b := s.box n
  let s := if b.full then s.inc Reg.MBX_CNT_COLLISIONS else s
  let m := { m with full := true, collided := b.full || b.collided, lostSeq := if b.full then b.seq else b.lostSeq,
                    lostSrc := if b.full then b.src else b.lostSrc }
  let det := m.src + 256 * m.seq + 65536 * b2n m.collided + 131072 * b2n m.fail
  (s.setBox n fun _ => m).raiseFor (Ev.mbx n) (some (s.mbxOwner n)) det det

/-- The refusals of R320. -/
def State.sendRefused (s : State) (ag : Agent) (n ptr len space rsvd : Nat) : Bool :=
  s.mbxOwner n == 0xFF || rsvd != 0 || (len != 0 && (!spaceOk ag space || (space == 1 && ptr % 1048576 + len > 1048576)))

/-- MBX_SEND (R320, R321). -/
def State.mbxSend (s : State) (ag : Agent) (n ptr len space rsvd : Nat) : State :=
  if s.sendRefused ag n ptr len space rsvd then (s.inc Reg.MBX_CNT_REFUSED).setView ag fun v => { v with result := St.invalid } else
  let b := s.box n
  let seq := (b.cnt + 1) % 256
  let t := (s.inc Reg.MBX_CNT_MESSAGES).mbxPut n { seq := seq, src := ag.id, ptr := ptr, len := len, space := space, cnt := seq }
  s.withAlert (t.setView ag fun v => { v with result := St.ok, seq := seq, overwrote := b.full })

def execMbxSend (ag : Agent) (v : BitVec 32) (s : State) : Out :=
  let x := v.toNat
  .next <| s.via ag fun s => s.mbxSend ag (bits x 21 16) (s.view ag).ptr (bits x 15 0) (bits x 23 22) (bits x 31 24)

/-- The five words STATUS to LOST of a message as its owner sees them. -/
def mboxWords (b : Mbox) : List Nat :=
  [b2n b.full + 2 * b2n b.collided + 4 * b2n b.fail + 8 + 256 * b.seq + 65536 * b.src + 2 ^ 24 * b.fstatus,
   b.ptr % 2 ^ 32, b.ptr / 2 ^ 32, b.len + 65536 * b.space + 2 ^ 24 * b.orig, b.lostSeq + 256 * b.lostSrc]

/-- A read of MBX_n_STATUS: the owner's latch, or FULL alone (R323). -/
def State.mbxLatch (s : State) (ag : Agent) (n : Nat) : List Nat × State :=
  let b := s.box n
  if s.ownsBox ag n then (mboxWords b, s.setView ag fun v => { v with latch := Tab.put none n (some b) v.latch })
  else ([b2n b.full, 0, 0, 0, 0], s)

def execMbxStatusRead (ag : Agent) (n : Nat) (s : State) : Out :=
  .next <| s.via ag fun s =>
    let (w, s) := s.mbxLatch ag n
    s.emit (.regRead (0x300000 + 0x20 * n) (w.getD 0 0))

/-- MBX_ACK (R324): the status is what the BMC is answered. (DEDUCED, log 60.) -/
def State.mbxAck (s : State) (ag : Agent) (n seq : Nat) : Nat × State :=
  let b := s.box n
  if !s.ownsBox ag n then (St.denied, s)
  else if b.full && b.seq == seq % 256 then (St.ok, s.withAlert (s.setBox n fun b => { b with full := false, collided := false }))
  else (St.notFound, s.inc Reg.MBX_CNT_ACK_STALE)

def execMbxAck (ag : Agent) (n seq : Nat) (s : State) : Out := .next <| s.via ag fun s => (s.mbxAck ag n seq).2

/-! ### Fetches (R325, R326) -/

/-- A function's memory can be read: Bus Master Enable set, no FLR, not reset since it sent. -/
def State.senderOk (s : State) (m : Mbox) : Bool :=
  m.space != 0 || m.len == 0 || (s.isOn Reg.HIF_FN_STATUS_BME 0 m.src && !s.isOn Reg.HIF_FN_STATUS_FLR_BUSY 0 m.src && !m.dead)

/-- The failure notice to the sender's home mailbox (R326); a notice has no sender that owns one. (DEDUCED, log 60.) -/
def State.notice (s : State) (n : Nat) (m : Mbox) (status : Nat) : State :=
  match (List.range 64).find? fun k => s.mbxOwner k == m.src && m.src != 0xFF with
  | none => s.inc Reg.MBX_CNT_NOTICE_LOST
  | some k => s.withAlert ((s.inc Reg.MBX_CNT_NOTICES).mbxPut k
      { m with src := 0xFF, fail := true, fstatus := status, orig := n, cnt := (s.box k).cnt, dead := false })

/-- A fetch ends otherwise than OK. -/
def State.fetchFail (s : State) (ag : Agent) (status : Nat) : State :=
  (s.inc Reg.MBX_CNT_FETCH_FAILS).setView ag fun v => { v with busy := false, fstatus := status, cur := none }

/-- A copy needs host memory, at its source or at its destination. -/
def onHost (m : Mbox) (ds : Nat) : Bool := m.len != 0 && (m.space == 0 || ds == 0)

/-- A fetch that the link ends (R304, R316, R325). -/
def State.fetchLost (s : State) (ag : Agent) (n : Nat) : State := (s.readFault ag.id n n 4 0 .linkLost).fetchFail ag St.hostLinkLost

/-- MBX_FETCH: a write of MBX_FETCH_CTL. The running copy keeps its own message and destination. With the link down it ends at once.
(DEDUCED, log 60.) -/
def State.mbxFetch (s : State) (ag : Agent) (x : Nat) : State :=
  if (s.view ag).busy then s else
  let n := bits x 5 0
  let ds := bits x 7 6
  let s := s.setView ag fun v => { v with fMbx := n, dspace := ds }
  if bit x 8 = 0 then s else
  let v := s.view ag
  match Tab.get none n v.latch with
  | none => s.fetchFail ag St.invalid
  | some m =>
    if !s.ownsBox ag n || !spaceOk ag ds || (ds == 1 && v.dst % 1048576 + m.len > 1048576) then s.fetchFail ag St.invalid
    else if !s.senderOk m then (s.fetchFail ag St.invalid).notice n m St.invalid
    else if onHost m ds && !s.linkOk then s.fetchLost ag n
    else
      let s := s.setView ag fun v => { v with busy := true, fstatus := St.ok, cur := some m, curBox := n, curDst := v.dst, curSpace := ds }
      if m.space = 0 then s.askHost m.src m.ptr m.len else s

def execMbxFetch (ag : Agent) (v : BitVec 32) (s : State) : Out := .next <| s.via ag fun s => s.mbxFetch ag v.toNat

/-- Bytes of the shared window (R327). (DEDUCED, log 59.) -/
def State.swRead (s : State) (off len : Nat) : List Byte :=
  (List.range len).map fun i => BitVec.ofNat 8 (Tab.get 0 ((off + i) % 1048576) s.mbx.sw)

/-- Bytes put into the shared window (R327). (DEDUCED, log 59.) -/
def State.swWrite (s : State) (off : Nat) : List Byte → State
  | [] => s
  | b :: r =>
    let t : State := { s with mbx := { s.mbx with sw := Tab.put 0 (off % 1048576) b.toNat s.mbx.sw } }
    State.swWrite t (off + 1) r

/-- The bytes of a fetched body arrive and go to the destination; a function that may not write its memory yet keeps the fetch waiting. -/
def State.fetchOk (s : State) (ag : Agent) (m : Mbox) (data : List Byte) : State :=
  let v := s.view ag
  let b := slice data 0 m.len
  if v.curSpace = 0 && m.len != 0 && !s.canDma ag.id then s else
  let s := match v.curSpace with
    | 0 => s.emits (s.dmaWrites ag.id v.curDst false b)
    | 1 => s.swWrite (v.curDst % 1048576) b
    | _ => s.emit (.fwWrite 2 v.curDst b)
  (s.inc Reg.MBX_CNT_FETCHES).setView ag fun v => { v with busy := false, fstatus := St.ok, cur := none }

/-- MBX_FETCH_DONE: a fetch ends with bytes, or with a failed read of the sender's memory. -/
def State.fetchDone (s : State) (ag : Agent) (r : HostRead) : State :=
  let v := s.view ag
  match v.cur with
  | none => s
  | some m =>
    if !s.senderOk m then (s.fetchFail ag St.invalid).notice v.curBox m St.invalid else
    if m.space = 1 then s.fetchOk ag m (s.swRead (m.ptr % 1048576) m.len) else
    match r with
    | .data b => s.fetchOk ag m b
    | .fail .linkLost => s.fetchLost ag v.curBox
    | .fail why => ((s.readFault ag.id v.curBox v.curBox 4 m.ptr why).fetchFail ag why.status).notice v.curBox m why.status

def execMbxFetchDone (ag : Agent) (result : HostRead) (s : State) : Out := .next (s.fetchDone ag result)

/-! ### The shared window (R327) and ownership (R319) -/

/-- An access to MBX_SW_DATA: four bytes at SW_ADDR, which then advances. -/
def State.swAccess (s : State) (ag : Agent) (write : Bool) (x : Nat) : State :=
  let a := (s.view ag).swAddr
  let t := if write then s.swWrite a (leBytes 4 x) else s.emit (.regRead 0x300824 (leNat (s.swRead a 4)))
  t.setView ag fun v => { v with swAddr := (a + 4) % 1048576 }

def execMbxSwAccess (ag : Agent) (write : Bool) (v : BitVec 32) (s : State) : Out :=
  .next <| s.via ag fun s => s.swAccess ag write v.toNat

def fnOwner (o : Nat) : Bool := o ≤ 128 || o == 0xFF

/-- A write of MBX_OWN_n: by the PF alone, between functions and none, and not while the mailbox is FULL. (DEDUCED, log 60.) -/
def State.mbxOwnWrite (s : State) (n o : Nat) : State :=
  if o = s.mbxOwner n then (if fnOwner o && !(s.box n).full then s else s.wr Reg.MBX_STATUS_WERR 1)
  else if fnOwner (s.mbxOwner n) && fnOwner o && !(s.box n).full then s.wr Reg.MBX_OWN_OWNER o 0 n
  else s.wr Reg.MBX_STATUS_WERR 1

def execMbxOwnerWrite (ag : Agent) (n owner : Nat) (s : State) : Out :=
  .next <| s.via ag fun s => if ag = .pf then s.mbxOwnWrite n (owner % 256) else s

/-! ### The BMC (R329) -/

/-- What the BMC sends: message type 0x7F, the enterprise number, most significant byte first, then the command byte and its operands,
little-endian (R6, R329). (PRESUMED, log 60.) -/
def State.mctpCommand (s : State) (msg : List Byte) : Option Instr :=
  let b := fun i n => leNat (slice msg i n)
  if b 0 1 ≠ 0x7F ∨ beNat (slice msg 1 4) ≠ s.rd Reg.GEN_ENTERPRISE then none else
  match b 5 1 with
  | 1 => if msg.length = 13 then some (.mctpMbxSend (b 6 1) (BitVec.ofNat 32 (b 7 4)) (b 11 2)) else none
  | 2 => if msg.length = 7 then some (.mctpMbxRead (b 6 1)) else none
  | 3 => if msg.length = 8 then some (.mctpMbxAck (b 6 1) (b 7 1)) else none
  | 4 => if 11 ≤ msg.length ∧ msg.length ≤ 74 then some (.swWrite (BitVec.ofNat 32 (b 6 4)) (msg.drop 10)) else none
  | 5 => if msg.length = 11 then some (.swRead (BitVec.ofNat 32 (b 6 4)) (b 10 1)) else none
  | _ => none

def execMctpMbxSend (n : Nat) (off : BitVec 32) (len : Nat) (s : State) : Out :=
  .next <| s.via .bmc fun s =>
    let bad := len ≠ 0 && off.toNat + len > 1048576
    let t := if bad then (s.inc Reg.MBX_CNT_REFUSED).setView .bmc fun v => { v with result := St.invalid }
      else s.mbxSend .bmc n off.toNat (len % 65536) 1 (len / 65536)
    let v := t.view .bmc
    t.emit (.mctp v.result (if v.result = St.ok then leBytes 1 v.seq else []))

def execMctpMbxRead (n : Nat) (s : State) : Out :=
  .next <| s.via .bmc fun s =>
    let (w, t) := s.mbxLatch .bmc n
    t.emit (.mctp St.ok (w.flatMap (leBytes 4)))

def execMctpMbxAck (n seq : Nat) (s : State) : Out :=
  .next <| s.via .bmc fun s =>
    let (st, t) := s.mbxAck .bmc n seq
    t.emit (.mctp st [])

def swRange (off len : Nat) : Bool := 1 ≤ len && len ≤ 64 && off + len ≤ 1048576

def execSwWrite (off : BitVec 32) (data : List Byte) (s : State) : Out :=
  .next <| s.via .bmc fun s =>
    if swRange off.toNat data.length then (s.swWrite off.toNat data).emit (.mctp St.ok []) else s.emit (.mctp St.invalid [])

def execSwRead (off : BitVec 32) (len : Nat) (s : State) : Out :=
  .next <| s.via .bmc fun s =>
    if swRange off.toNat len then s.emit (.mctp St.ok (s.swRead off.toNat len)) else s.emit (.mctp St.invalid [])

/-! ### Function reset (R328) -/

def killSender (f : Nat) (b : Mbox) : Mbox := if b.src = f ∧ b.fail = false ∧ b ≠ {} then { b with dead := true } else b

/-- The FLR row of R328 for a function, and the marking of what it sent (R325). -/
def State.mbxFlr (s : State) (f : Nat) : State :=
  let v : View := Tab.get {} f s.mbx.view
  let box := Tab.mapv {} (fun n (b : Mbox) =>
    let b := if s.mbxOwner n = f then { b with full := false, collided := false } else b
    killSender f b) s.mbx.box
  let vs := Tab.mapv {} (fun _ (v : View) =>
    { v with latch := Tab.mapv none (fun _ (x : Option Mbox) => x.map (killSender f)) v.latch, cur := v.cur.map (killSender f) })
    (Tab.del f s.mbx.view)
  let s := { s with mbx := { s.mbx with box := box, view := if v.busy then Tab.put {} f { fstatus := St.invalid } vs else vs } }
  if v.busy then s.inc Reg.MBX_CNT_FETCH_FAILS else s

/-- A running fetch waits on host memory. -/
def State.fetchWaits (s : State) (ag : Agent) : Bool := (s.view ag).cur.any fun m => onHost m (s.view ag).curSpace

/-- A link loss ends the fetches that wait on host memory (R304, R325). -/
def State.mbxLinkLost (s : State) : State :=
  ([Agent.pf, .fw 0, .fw 1, .fw 2, .fw 3, .bmc] ++ (List.range 128).map fun k => Agent.vf (k + 1)).foldl (fun s ag =>
    if s.fetchWaits ag then s.fetchLost ag (s.view ag).curBox else s) s

end Sys2Proof.Machine
end

