-- ==== Sys2Proof/Machine/Requests.lean ====
section
/-! DEFINITION. Head end messages and terminal requests in general: checks, duplicates, acknowledgements, the autopilot buffer, requests
(R63 to R71, R436, R25). -/

namespace Sys2Proof.Machine

/-! ### Fields of a message -/

def msgBytes (m : BitVec 384) : List Byte := beBytes 48 m.toNat

/-- n bytes of a message from an offset, most significant first. -/
def mfield (m : BitVec 384) (off n : Nat) : Nat := m.toNat / 2 ^ (8 * (48 - off - n)) % 2 ^ (8 * n)

def msgTn (m : BitVec 384) : Nat := mfield m 0 2 % 1024
def msgType (m : BitVec 384) : Nat := mfield m 2 1
def msgTxid (m : BitVec 384) : Nat := mfield m 4 2

/-- MCRC is right (R63). -/
def mcrcOk (m : BitVec 384) : Bool := crc32 (msbBits 352 (m.toNat / 2 ^ 32)) == m.toNat % 2 ^ 32

def State.hasTn (s : State) (l : Leg) : Bool := s.isOn Reg.ACT_STATUS_TN_VALID l.n

def State.serial (s : State) : Nat := s.rd2 Reg.GEN_SERIAL_LO Reg.GEN_SERIAL_HI

/-- A message is for this terminal (R64); `serialAt` says that its body has a SERIAL field. -/
def State.addressed (s : State) (l : Leg) (m : BitVec 384) (serialAt : Bool) : Bool :=
  msgTn m == 0x3FF || (s.hasTn l && msgTn m == s.rd Reg.ACT_STATUS_TN l.n) ||
  (msgTn m == 0x3FE && serialAt && mfield m 6 8 == s.serial)

def State.cur (s : State) (l : Leg) : Nat := (s.wave l 0).sfc

/-- The window of R66. -/
def State.effOk (s : State) (l : Leg) (eff : Nat) : Bool := s.cur l < eff && eff ≤ s.cur l + 4096

/-! ### Acknowledgements and duplicates (R67, R68) -/

/-- Queue an ACK; a leg without a terminal number has no burst that can carry one. -/
def State.ack (s : State) (l : Leg) (txid typ status : Nat) : State :=
  if s.hasTn l then s.upd l fun g => { g with acks := g.acks ++ [mkMsg 0x81 txid [BitVec.ofNat 8 status, BitVec.ofNat 8 typ]] } else s

/-- A message of the same type and TXID (and FRAG) taken on this leg within the last 64 superframes. -/
def State.dupOf (s : State) (l : Leg) (typ txid frag : Nat) : Option Seen :=
  if txid ≥ 0x8000 then none else
  (s.leg l).seen.find? fun e => e.typ == typ && e.txid == txid && e.frag == frag && s.cur l ≤ e.sfc + 64

/-- Remember a message that was taken, dropping those past R67's horizon. (DEDUCED, log 21.) -/
def State.remember (s : State) (l : Leg) (e : Seen) : State :=
  s.upd l fun g => { g with seen := e :: (g.seen.filter fun x => s.cur l ≤ x.sfc + 64 && !(x.typ == e.typ && x.txid == e.txid && x.frag == e.frag)) }

/-- What a message came to: not acted on, acted on without an ACK, or answered with a status. -/
inductive Took where
  | ignored | silent | answered (status : Nat)
deriving DecidableEq, Repr

/-- The answer to a field outside its range (R436): INVALID where it can be acknowledged, else counted. -/
def State.fieldBad (s : State) (l : Leg) (acked : Bool) : Took × State :=
  if acked && s.hasTn l then (.answered St.invalid, s) else (.ignored, s.inc Reg.LINE_D0CNT_FIELD_REFUSED l.n)

/-- The status of an acknowledgement, if one goes out. -/
def Took.status : Took → Option Nat
  | .answered st => some st
  | _ => none

/-- Act on a message that passes R64 and is no duplicate. One that was not acted on is not remembered; one answered with a refusal is.
(DEDUCED, log 21.) -/
def State.onMsg (s : State) (l : Leg) (typ : Nat) (m : BitVec 384) (serialAt : Bool) (frag : Nat)
    (act : State → Took × State) : State :=
  if msgType m ≠ typ then s
  else if !mcrcOk m then s.inc Reg.LINE_D0CNT_MSG_CRC_ERR l.n
  else if !s.addressed l m serialAt then s
  else
    match s.dupOf l typ (msgTxid m) frag with
    | some e =>
      let s := s.inc Reg.LINE_D0CNT_MSG_DUP l.n
      match e.status with
      | some st => s.ack l (msgTxid m) typ st
      | none => s
    | none =>
      let (took, s) := act s
      let keep := fun (s : State) => s.remember l { txid := msgTxid m, typ := typ, frag := frag, sfc := s.cur l, status := took.status }
      match took with
      | .ignored => s
      | .silent => keep s
      | .answered st => (keep s).ack l (msgTxid m) typ st

/-- A message arrives in its place of the present D0 frame (R36): a partition header that passed announced it, and D0 is in SYNC. A frame
whose header failed has none (R38). -/
def State.inFrame (s : State) (l : Leg) (f : State → State) : State :=
  if (s.leg l).partOk && (s.leg l).nmsg != 0 then f (s.upd l fun g => { g with nmsg := g.nmsg - 1 }) else s

/-! ### Firmware's presence and the autopilot buffer (R25) -/

/-- Firmware is present (R25). (DESIGN CHOICE, log 6.) -/
def State.fwPresent (s : State) : Bool := s.isOn Reg.ADM_STATUS_FW_PRESENT

/-- A message that firmware takes, or whose action waits for it: taken now, or buffered while firmware is absent. (DESIGN CHOICE, log 6; DEDUCED, log 21.) -/
def State.fwMsg (s : State) (l : Leg) (typ : Nat) (m : BitVec 384) (take : State → State) : State :=
  if s.fwPresent then take s
  else if msgType m ≠ typ then s
  else if !mcrcOk m then s.inc Reg.LINE_D0CNT_MSG_CRC_ERR l.n
  else if !s.addressed l m false then s
  else if s.fw.apBuf.length ≥ 512 then s.inc Reg.LINE_D0CNT_MSG_OVERFLOW l.n
  else { s with fw := { s.fw with apBuf := s.fw.apBuf ++ [(l, m.toNat)] } }

/-! ### Requests (R70, R71) -/

/-- The next transaction ID of the terminal (R71). (DESIGN CHOICE, log 22.) -/
def nextTxid (x : Nat) : Nat := if x = 0xFFFF then 0x8000 else x + 1

/-- Start a request on a leg: REQ_CODE and its parameters. The first TXID after a cold reset is 0x8000. (DESIGN CHOICE, log 22.) -/
def State.sendReq (s : State) (l : Leg) (code : Nat) (params : List Byte) : State :=
  let q : Req := { txid := s.txid, leg := l, code := code, msg := mkMsg 0x83 s.txid (BitVec.ofNat 8 code :: params) }
  let s := { s with reqs := s.reqs ++ [q] }
  { s with txid := nextTxid s.txid }

def State.dropReq (s : State) (txid : Nat) : State := { s with reqs := s.reqs.filter fun q => q.txid != txid }

/-- A request is to be sent again with the same TXID. -/
def State.resend (s : State) (q : Req) (l : Leg) : State :=
  let s := { s with reqs := s.reqs.map fun (p : Req) =>
    if p.txid = q.txid then { p with leg := l, retries := p.retries + 1, due := true } else p }
  s.upd l fun g => { g with kxOut := g.kxOut ++ q.frags }

/-! ### Items that await an EFF_SFC (R65, R66) -/

/-- Insert by EFF_SFC; a later message for the same boundary wins. -/
def addPend {α : Type} (p : Pend α) : List (Pend α) → List (Pend α)
  | [] => [p]
  | x :: r => if x.eff = p.eff then p :: r else if p.eff < x.eff then p :: x :: r else x :: addPend p r

/-- What is in force at a superframe. -/
def inForce {α : Type} (sfc : Nat) : α → List (Pend α) → α
  | cur, [] => cur
  | cur, x :: r => if x.eff ≤ sfc then inForce sfc x.val r else cur

end Sys2Proof.Machine
end

