-- ==== Sys2Proof/Machine/Cipher.lean ====
section
/-! DEFINITION. The line cipher: key slots, erasure, key exchange, generations, lookaside requests, slot commands and the random number
generator's health (08_line_cipher.md). -/

namespace Sys2Proof.Machine

/-! ### Key slots (R219, R221) -/

def State.slot (s : State) (n : Nat) : Slot := Tab.get {} n s.ciph.slots
def State.setKeySlot (s : State) (n : Nat) (k : Slot) : State := { s with ciph := { s.ciph with slots := Tab.put {} n k s.ciph.slots } }

/-- LINE_SLOTS; values above 512 act as 512. -/
def State.lineSlots (s : State) : Nat := min 512 (s.rd Reg.CIPH_PART_LINE_SLOTS)

/-- A slot with all its keys erased is EMPTY. -/
def Slot.settle (k : Slot) : Slot := if k.keys.isEmpty then {} else k

/-- Erase the keys of every slot that `p` selects, counting them. -/
def State.eraseKeys (s : State) (p : Nat → Slot → Nat → Bool) : State :=
  let n := s.ciph.slots.foldl (fun n (i, k) => n + (k.keys.filter fun (j, _) => p i k j).length) 0
  { s with ciph := { s.ciph with slots := Tab.mapv {} (fun i (k : Slot) =>
      ({ k with keys := k.keys.filter fun (j, _) => !p i k j } : Slot).settle) s.ciph.slots } }.inc Reg.CIPH_CNT_KEYS_ERASED 0 0 n

def State.eraseAll (s : State) : State := s.eraseKeys fun _ _ _ => true
def State.eraseSlot (s : State) (n : Nat) : State := s.eraseKeys fun i _ _ => i == n
def State.eraseLookaside (s : State) (own : Nat → Bool) : State := s.eraseKeys fun _ k _ => k.kind == 2 && own k.owner

/-- The keys of a generation of a leg and direction, in every LINE slot (R227). -/
def State.eraseGen (s : State) (l : Leg) (dir kidx : Nat) : State :=
  s.eraseKeys fun _ k j => k.kind == 1 && j == 8 * l.n + 4 * dir + kidx

/-- Admin KEY_LOAD on a lookaside slot (R232): the status, and the slot with its key. -/
def State.loadLookaside (s : State) (n owner key : Nat) : Nat × State :=
  if n < s.lineSlots ∨ n ≥ 512 ∨ (s.slot n).kind ≠ 0 then (St.denied, s)
  else (St.ok, s.setKeySlot n { kind := 2, owner := owner, keys := [(0, key + 1)] })

/-- Erasure of a named lookaside slot, by CIPH_SLOT_CMD or the admin queue (R232). -/
def State.eraseNamed (s : State) (n : Nat) : Nat × State :=
  if (s.slot n).kind = 2 then (St.ok, s.eraseSlot n) else (St.denied, s)

/-- A DENIED is counted and raised (R233). -/
def State.countDenied (s : State) (status : Nat) : State :=
  if status = St.denied then (s.inc Reg.CIPH_CNT_DENIED).event (Ev.ciph 9) else s

/-! ### Slot commands (R233, R410) -/

/-- Start a slot command; one written while BUSY is refused. `act` gives the status reported when it completes. (DEDUCED, log 14.) -/
def State.slotCmd (s : State) (ag : Agent) (act : State → Nat × State) : State :=
  if s.rdA ag Reg.CIPH_SLOT_CMD_BUSY ≠ 0 then s.wrA ag Reg.CIPH_SLOT_CMD_STATUS St.busy else
  let (st, s) := act s
  let s := s.wrA ag Reg.CIPH_SLOT_CMD_BUSY 1
  if ag.isFw then { s with ciph := { s.ciph with cmdStFw := some st } } else { s with ciph := { s.ciph with cmdSt := some st } }

/-- LOADED of CIPH_SLOT_INFO. -/
def loadedBits (k : Slot) : Nat := if k.kind = 1 then k.keys.foldl (fun n (j, _) => n + 2 ^ j) 0 else 0

def State.slotQuery (s : State) (ag : Agent) : State := s.slotCmd ag fun s =>
    let k := s.slot (s.rdA ag Reg.CIPH_SLOT_IDX)
    (St.ok, ((s.wrA ag Reg.CIPH_SLOT_INFO_KIND k.kind).wrA ag Reg.CIPH_SLOT_INFO_OWNER k.owner).wrA ag Reg.CIPH_SLOT_INFO_LOADED (loadedBits k))

def execQuery (ag : Agent) (s : State) : Out := .next <| s.gated ag fun s => s.slotQuery ag

/-- READ is always refused. -/
def State.slotRead (s : State) (ag : Agent) : State := s.slotCmd ag fun s => (St.denied, s)

def execSlotRead (ag : Agent) (s : State) : Out := .next <| s.gated ag fun s => s.slotRead ag

def State.slotErase (s : State) (ag : Agent) : State := s.slotCmd ag fun s => s.eraseNamed (s.rdA ag Reg.CIPH_SLOT_IDX)

def execSlotErase (ag : Agent) (s : State) : Out := .next <| s.gated ag fun s => s.slotErase ag

/-- SLOT_CMD_DONE: 2 us after the command began its status stands and BUSY clears. -/
def State.slotDone (s : State) (ag : Agent) : State :=
  match (if ag.isFw then s.ciph.cmdStFw else s.ciph.cmdSt) with
  | none => s
  | some st =>
    let s := if ag.isFw then { s with ciph := { s.ciph with cmdStFw := none } } else { s with ciph := { s.ciph with cmdSt := none } }
    ((s.wrA ag Reg.CIPH_SLOT_CMD_BUSY 0).wrA ag Reg.CIPH_SLOT_CMD_STATUS st).countDenied st

def execSlotCmdDone (ag : Agent) (s : State) : Out := .next <| s.reg ag fun s => s.slotDone ag

/-! ### Refresh, lock, generator health (R70, R9, R236) -/

/-- A KEY_REFRESH on each leg of the mask. -/
def State.keyRefresh (s : State) (mask : Nat) : State :=
  let s := if bit mask 0 = 1 then s.sendReq .a 4 [] else s
  if bit mask 1 = 1 then s.sendReq .b 4 [] else s

def execKeyRefresh (ag : Agent) (mask : Nat) (s : State) : Out := .next <| s.gated ag fun s => s.keyRefresh mask

def execCiphLock (ag : Agent) (s : State) : Out := .next <| s.gated ag fun s => s.wr Reg.CIPH_PART_LOCK 1

def execRngFail (s : State) : Out := .next <| (s.wr Reg.CIPH_STATUS_RNG_FAIL 1).event (Ev.ciph 10)
def execRngRecover (s : State) : Out := .next <| s.wr Reg.CIPH_STATUS_RNG_FAIL 0

/-! ### The key exchange (R222 to R224) -/

/-- An exchange step refused: reported, counted and raised. (DEDUCED, log 23.) -/
def State.kxRefuse (s : State) (l : Leg) (status : Nat) : Nat × State :=
  (status, (((s.wr Reg.CIPH_KX_KX_STATUS status l.n).wr Reg.CIPH_KX_KX_STATE 4 l.n).inc Reg.CIPH_CNT_KX_FAIL).event (Ev.ciph (2 + l.n)))

/-- The enrolled hash of a leg's head end. -/
def State.heKey (s : State) (l : Leg) : Nat := (List.range 12).foldl (fun n i => n * 2 ^ 32 + s.rd Reg.CIPH_HEKEY_HASH l.n i) 0

/-- A draw from 1 to the group order less 1. -/
def drawScalar (i : Nat) : Nat := (Config.random i).toNat % (Crypto.order - 1) + 1

/-- Cut a content into fragments of 36 bytes as KEY_EXCHANGE messages (R222). -/
def fragments (txid : Nat) (content : List Byte) : List Nat :=
  let n := (content.length + 35) / 36
  (List.range n).map fun i => mkMsg 0x82 txid (BitVec.ofNat 8 i :: BitVec.ofNat 8 n :: slice content (36 * i) 36)

/-- TERM_REPLY to an accepted offer: 244 bytes. -/
def State.termReply (s : State) (l : Leg) (offer : List Byte) (qt : Nat × Nat) : List Byte :=
  let body := [0x02, BitVec.ofNat 8 l.n] ++ slice offer 2 2 ++ beBytes 48 qt.1 ++ beBytes 48 qt.2 ++ beBytes 48 (Crypto.sha384 offer)
  let (r, t) := Crypto.ecdsaSign s.fw.fuse.idPriv (Crypto.sha384 body) (drawScalar (s.freeIdx + 1))
  body ++ beBytes 48 r ++ beBytes 48 t

/-- The KEK of R223 step 7. -/
def State.deriveKek (s : State) (l : Leg) (z : Nat) (epoch : List Byte) : Nat :=
  Crypto.sha384 (beBytes 4 1 ++ beBytes 48 z ++ beBytes 8 s.serial ++ [BitVec.ofNat 8 l.n] ++ epoch) / 2 ^ 128

/-- A HE_OFFER (R223): refused at the first step that fails, DENIED where the life cycle gives no key exchange; otherwise a KEK is derived
and TERM_REPLY starts as a transaction. (DEDUCED, log 23.) -/
def State.heOffer (s : State) (l : Leg) (c : List Byte) : Nat × State :=
  let s := (s.upd l fun g => { g with kek := none, kxOut := [] })
  let s := { s with reqs := s.reqs.filter fun (q : Req) => !(q.leg == l && !q.frags.isEmpty) }
  let epoch := beNat (slice c 2 2)
  let ph := slice c 100 96
  if beNat (slice c 1 1) ≠ l.n ∨ ((s.leg l).epochSet = true ∧ epoch ≤ s.rd Reg.CIPH_GEN_EPOCH l.n) then s.kxRefuse l St.invalid
  else if s.lineService = false ∨ s.heKey l = 0 ∨ Crypto.sha384 ph ≠ s.heKey l then s.kxRefuse l St.denied
  else if !Crypto.ecdsaVerify (beNat (slice c 100 48)) (beNat (slice c 148 48)) (Crypto.sha384 (c.take 196 ++ beBytes 8 s.serial))
      (beNat (slice c 196 48)) (beNat (slice c 244 48)) then s.kxRefuse l St.denied
  else if !Crypto.onCurve (beNat (slice c 4 48)) (beNat (slice c 52 48)) then s.kxRefuse l St.invalid
  else if s.isOn Reg.CIPH_STATUS_RNG_FAIL then s.kxRefuse l St.noResources
  else
    let d := drawScalar s.freeIdx
    let z := Crypto.ecdhX d (beNat (slice c 4 48)) (beNat (slice c 52 48))
    let fr := fragments s.txid (s.termReply l c (Crypto.pubKey d))
    let kek := s.deriveKek l z (slice c 2 2)
    let s := s.upd l fun g => { g with kek := some kek, lseq := none, epochSet := true, kxOut := g.kxOut ++ fr }
    let s := { s with reqs := s.reqs ++ [({ txid := s.txid, leg := l, code := 5, msg := 0, frags := fr } : Req)] }
    let s := { s with txid := nextTxid s.txid }
    let s := s.spend.spend
    (St.ok, ((s.wr Reg.CIPH_GEN_EPOCH epoch l.n).wr Reg.CIPH_KX_KX_STATE 1 l.n).wr Reg.CIPH_KX_KX_STATUS St.ok l.n)

/-- The current generation of a leg and direction. -/
def State.curGen (s : State) (l : Leg) (dir : Nat) : Nat :=
  if dir = 0 then s.rd Reg.CIPH_GEN_DN_CUR l.n else s.rd Reg.CIPH_GEN_UP_CUR l.n

/-- Store a line key. A load into a retired generation first lets that generation's erasure happen, so that it cannot reach the new key. -/
def State.storeLine (s : State) (l : Leg) (slot dir kidx key : Nat) : State :=
  let ret := if dir = 0 then (s.leg l).dnRet else (s.leg l).upRet
  let s := if ret = some kidx then
      (s.eraseGen l dir kidx).upd l fun g => if dir = 0 then { g with dnRet := none } else { g with upRet := none }
    else s
  let k := s.slot slot
  s.setKeySlot slot { kind := 1, owner := 0, keys := Tab.put 0 (8 * l.n + 4 * dir + kidx) (key + 1) k.keys }

/-- A KEY_LOAD (R224). -/
def State.keyLoad (s : State) (l : Leg) (c : List Byte) : Nat × State :=
  let epoch := beNat (slice c 2 2)
  let lseq := beNat (slice c 4 4)
  let slot := beNat (slice c 8 2) % 512
  let b := beNat (slice c 10 1)
  let kidx := b % 4
  let dir := bit b 2
  match (s.leg l).kek with
  | none => s.kxRefuse l St.invalid
  | some kek =>
    if epoch ≠ s.rd Reg.CIPH_GEN_EPOCH l.n ∨ (match (s.leg l).lseq with | some x => decide (lseq ≤ x) | none => false) = true then
      s.kxRefuse l St.invalid
    else
      match Crypto.gcmDec kek (beNat (slice c 2 6) * 2 ^ 48) (slice c 0 12) (slice c 12 32) (slice c 44 16) with
      | none => s.kxRefuse l St.invalid
      | some key =>
        if slot ≥ s.lineSlots ∨ (s.slot slot).kind = 2 then s.kxRefuse l St.denied
        else if kidx = s.curGen l dir ∨ beNat (slice c 1 1) ≠ l.n then s.kxRefuse l St.invalid
        else
          let first := (s.leg l).lseq.isNone
          let s := (s.storeLine l slot dir kidx (beNat key)).upd l fun g => { g with lseq := some lseq }
          let s := ((s.inc Reg.CIPH_CNT_KEY_LOADS).wr Reg.CIPH_KX_KX_STATE 3 l.n).wr Reg.CIPH_KX_KX_STATUS St.ok l.n
          (St.ok, if first then (s.inc Reg.CIPH_CNT_KX_DONE).event (Ev.ciph l.n) else s)

/-- A whole content. -/
def State.kxContent (s : State) (l : Leg) (bytes : List Byte) : Nat × State :=
  match beNat (slice bytes 0 1) with
  | 1 => s.heOffer l (slice bytes 0 292)
  | 3 => s.keyLoad l (slice bytes 0 60)
  | _ => s.kxRefuse l St.invalid

/-- One fragment (R222). (DEDUCED, log 23.) -/
def State.kxFragment (s : State) (l : Leg) (m : BitVec 384) : State :=
  let g := s.leg l
  let txid := msgTxid m
  let frag := mfield m 6 1
  let nfrag := mfield m 7 1
  let part := slice (msgBytes m) 8 36
  let recent := g.kxLast.filter fun x => x.1 == txid && s.cur l ≤ x.2.2 + 64
  if recent.any fun x => x.2.1 == frag then
    let s := s.inc Reg.LINE_D0CNT_MSG_DUP l.n
    match g.kxAck with
    | some st => s.ack l txid 0x0A st
    | none => s
  else
    let fresh := frag == 0 && recent.isNone
    let c : Option KxAsm :=
      if fresh then some { txid := txid, nfrag := nfrag, tn := msgTn m, bytes := part, next := 1 }
      else match g.kx with
        | some c => if c.txid = txid ∧ c.nfrag = nfrag ∧ c.tn = msgTn m ∧ c.next = frag then
            some { c with bytes := c.bytes ++ part, next := c.next + 1 } else none
        | none => none
    let bad := nfrag == 0 || nfrag > 16
    let s := s.upd l fun g => { g with kxLast := some (txid, frag, s.cur l), kxAck := none }
    match c with
    | some c =>
      if bad then ((s.upd l fun g => { g with kx := none }).kxRefuse l St.invalid).2.ack l txid 0x0A St.invalid
      else if c.next < c.nfrag then s.upd l fun g => { g with kx := some c }
      else
        let (st, s) := (s.upd l fun g => { g with kx := none }).kxContent l c.bytes
        (s.upd l fun g => { g with kxAck := some st }).ack l txid 0x0A st
    | none => ((s.upd l fun g => { g with kx := none }).kxRefuse l St.invalid).2.ack l txid 0x0A St.invalid

/-- KEY_EXCHANGE is firmware's message; its duplicates are R222's. (DEDUCED, log 21; DEDUCED, log 23.) -/
def State.keyExchange (s : State) (l : Leg) (m : BitVec 384) : State :=
  s.fwMsg l 0x0A m fun s =>
    if msgType m ≠ 0x0A then s
    else if !mcrcOk m then s.inc Reg.LINE_D0CNT_MSG_CRC_ERR l.n
    else if !s.addressed l m false then s
    else s.kxFragment l m

def execKeyExchange (l : Leg) (msg : BitVec 384) (s : State) : Out := .next (s.inFrame l fun s => s.keyExchange l msg)

/-! ### Generations (R226 to R228) -/

/-- The effect and status of a KEY_SWITCH. -/
def State.keySwitchAct (s : State) (l : Leg) (m : BitVec 384) : Took × State :=
  let kidx := mfield m 6 1 % 4
  let dir := mfield m 7 1 % 2
  let eff := mfield m 8 6
  if !s.effOk l eff || eff < s.cur l + 2 then (.answered St.outOfWindow, s) else
  let pend := if kidx = s.curGen l dir then 0 else 1
  (.answered St.ok, if dir = 0 then
      let s := s.wr Reg.CIPH_GEN_DN_PEND pend l.n
      if pend = 0 then s else (s.wr Reg.CIPH_GEN_DN_NEXT kidx l.n).wr2 Reg.CIPH_DN_EFF_LO Reg.CIPH_DN_EFF_HI eff l.n
    else
      let s := s.wr Reg.CIPH_GEN_UP_PEND pend l.n
      if pend = 0 then s else (s.wr Reg.CIPH_GEN_UP_NEXT kidx l.n).wr2 Reg.CIPH_UP_EFF_LO Reg.CIPH_UP_EFF_HI eff l.n)

def State.keySwitch (s : State) (l : Leg) (m : BitVec 384) : State := s.onMsg l 0x0B m false 0 fun s => s.keySwitchAct l m

def execKeySwitch (l : Leg) (msg : BitVec 384) (s : State) : Out := .next (s.inFrame l fun s => s.keySwitch l msg)

/-- A retired generation whose erasure is still due is erased before another takes its place. -/
def State.eraseRetired (s : State) (l : Leg) (up : Bool) : State :=
  match (if up then (s.leg l).upRet else (s.leg l).dnRet) with
  | none => s
  | some k => (s.eraseGen l (b2n up) k).upd l fun g => if up then { g with upRet := none } else { g with dnRet := none }

/-- The pending upstream generation becomes current as upstream frame (EFF_SFC, 0) starts (R16, R226). -/
def State.upSwitch (s : State) (l : Leg) : State :=
  if !s.isOn Reg.CIPH_GEN_UP_PEND l.n || (s.leg l).upFn ≠ 0 || (s.leg l).upSfc < s.rd2 Reg.CIPH_UP_EFF_LO Reg.CIPH_UP_EFF_HI l.n then s else
  let old := s.rd Reg.CIPH_GEN_UP_CUR l.n
  let s := (s.eraseRetired l true).upd l fun g => { g with upRet := some old }
  ((s.wr Reg.CIPH_GEN_UP_CUR (s.rd Reg.CIPH_GEN_UP_NEXT l.n) l.n).wr Reg.CIPH_GEN_UP_PEND 0 l.n).event (Ev.ciph (4 + l.n))

def execKeySwitchUpEffective (l : Leg) (s : State) : Out := .next (s.upSwitch l)

/-- The pending downstream generation becomes current as the superframe marker of EFF_SFC arrives (R16, R226). -/
def State.dnSwitch (s : State) (l : Leg) : State :=
  if !s.isOn Reg.CIPH_GEN_DN_PEND l.n || (s.wave l 0).fn ≠ 0 || s.cur l < s.rd2 Reg.CIPH_DN_EFF_LO Reg.CIPH_DN_EFF_HI l.n then s else
  let old := s.rd Reg.CIPH_GEN_DN_CUR l.n
  let s := (s.eraseRetired l false).upd l fun g => { g with dnRet := some old }
  ((s.wr Reg.CIPH_GEN_DN_CUR (s.rd Reg.CIPH_GEN_DN_NEXT l.n) l.n).wr Reg.CIPH_GEN_DN_PEND 0 l.n).event (Ev.ciph (4 + l.n))

def execKeySwitchDnEffective (l : Leg) (s : State) : Out := .next (s.dnSwitch l)

/-- GENERATION_ERASE: 250 us after the boundary. -/
def execGenerationErase (l : Leg) (up : Bool) (s : State) : Out := .next (s.eraseRetired l up)

/-! ### Lookaside (R229 to R231) -/

/-- The checks of R230 and the GCM work of one request; `src` is what was read at SRC. -/
def State.lookaside (s : State) (ring idx : Nat) (e : List Byte) (src : HostRead) : LaReq × State :=
  let len := leNat (slice e 16 2)
  let w := leNat (slice e 18 2)
  let aadLen := w % 8192
  let k := leNat (slice e 20 2)
  let iv := beNat (slice e 24 12)
  let base : LaReq := { idx := idx, reqId := leNat (slice e 22 2), len := len, status := St.ok, authFail := false,
                        dst := leNat (slice e 8 8), output := [] }
  let slot := s.slot (k % 512)
  if !s.isOn Reg.CIPH_CTL_LA_EN || aadLen > 4096 || w ≥ 8192 || k ≥ 1024 || leNat (slice e 36 28) != 0 then
    ({ base with status := St.invalid }, s)
  else if slot.kind ≠ 2 ∨ slot.owner ≠ s.rd Reg.HIF_RX_CTL_OWNER 0 ring then ({ base with status := St.denied }, s)
  else if s.isOn Reg.CIPH_STATUS_RNG_FAIL then ({ base with status := St.noResources }, s)
  else
    let f := s.rd Reg.HIF_RX_CTL_OWNER 0 ring
    let src0 := leNat (slice e 0 8)
    let s := s.askHost f src0 (aadLen + len + 16 * bit k 9)
    match src with
    | .fail why =>
      ({ base with status := if why = .linkLost then St.hostLinkLost else St.invalid },
       s.readFault f ring (s.localIdx .rx f ring) 1 src0 why)
    | .data b =>
      let key := Tab.get 1 0 slot.keys - 1
      let aad := slice b 0 aadLen
      let data := slice b aadLen len
      if bit k 9 = 0 then
        let (ct, tag) := Crypto.gcmEnc key iv aad data
        ({ base with output := ct ++ tag }, s)
      else
        match Crypto.gcmDec key iv aad data (slice b (aadLen + len) 16) with
        | some pt => ({ base with output := pt }, s)
        | none => ({ base with status := St.invalid, authFail := true }, s.inc Reg.CIPH_CNT_LA_AUTH_FAIL)

/-- A ring in lookaside mode whose next request can be taken: its owner's memory can be read. -/
def State.laReady (s : State) (ring : Nat) : Bool :=
  s.isOn Reg.HIF_RX_CTL_EN 0 ring && s.isOn Reg.HIF_RX_CTL_LA 0 ring && s.canDma (s.rd Reg.HIF_RX_CTL_OWNER 0 ring) &&
  !(s.rxr ring).reqs.isEmpty && (s.rxr ring).la.isEmpty

/-- The ring served next: the first one ready after the ring served last, round-robin (R231). -/
def State.laTurn (s : State) : Option Nat :=
  let ready := (s.host.rxr.map Prod.fst).filter s.laReady
  (ready.find? fun r => r > s.ciph.laLast).or ready.head?

/-- LOOKASIDE_REQUEST: the request at the head of a ring in lookaside mode is taken in the ring's turn; one at a time (R231). -/
def State.takeLookaside (s : State) (ring : Nat) (src : HostRead) : State :=
  if s.laTurn ≠ some ring then s else
  match (s.rxr ring).reqs with
  | (idx, e) :: rest =>
    let (r, s) := s.lookaside ring idx e src
    { s with ciph := { s.ciph with laLast := ring } }.setRxr ring fun x => { x with reqs := rest, la := [r] }
  | [] => s

def execLookasideRequest (ring : Nat) (src : HostRead) (s : State) : Out := .next <| s.inDom .core fun s => s.takeLookaside ring src

/-- A lookaside completion (R298). -/
def laEntry (ring : Nat) (r : LaReq) : List Byte :=
  leBytes 2 0 ++ leBytes 1 (4 + 16 * b2n r.authFail) ++ leBytes 1 r.status ++ leBytes 2 r.len ++ leBytes 2 r.reqId ++ leBytes 2 ring ++
    leBytes 2 r.idx ++ cplTail 0 0 0 0 0 0 0 0 0

/-- Complete a request: its counters and events, and its entry for the ring's completion ring, whose issue passes CONS over it. -/
def State.laComplete (s : State) (ring : Nat) (r : LaReq) : State :=
  let s := if r.status = St.ok then (s.inc Reg.CIPH_CNT_LA_REQUESTS).inc Reg.CIPH_CNT_LA_BYTES 0 0 r.len else s
  let s := if r.status = St.invalid then s.event (Ev.ciph 11) else s
  let s := s.countDenied r.status
  (s.cqPush (s.rd Reg.HIF_RX_CQ 0 ring) { body := laEntry ring r, live := true, pass := some (.rx, ring, 1) }).setRxr ring
    fun x => { x with la := x.la.drop 1 }

/-- LOOKASIDE_DONE: the output goes to DST, then the completion. -/
def State.laDone (s : State) (ring : Nat) : State :=
  let f := s.rd Reg.HIF_RX_CTL_OWNER 0 ring
  match (s.rxr ring).la with
  | [] => s
  | r :: _ =>
    if !s.canDma f then s else
    (s.emits (s.dmaWrites f r.dst (Tab.get 0 f s.host.relaxed != 0) r.output)).laComplete ring r

def execLookasideDone (ring : Nat) (s : State) : Out := .next <| s.inDom .core fun s => s.laDone ring

/-- A link loss completes the requests in progress with HOST_LINK_LOST (R304, R316). -/
def State.laLost (s : State) : State :=
  s.host.rxr.foldl (fun s (ring, x) =>
    x.la.foldl (fun s r =>
      let f := s.rd Reg.HIF_RX_CTL_OWNER 0 ring
      (s.readFault f ring (s.localIdx .rx f ring) 1 0 .linkLost).laComplete ring
        { r with status := St.hostLinkLost, authFail := false, output := [] }) s) s

end Sys2Proof.Machine
end

