-- ==== Sys2Proof/Machine/Tev.lean ====
section
/-! DEFINITION. Timer channels, PPS_OUT, captures and PTM dialogues (05_time_outputs_and_triggers.md). -/

namespace Sys2Proof.Machine

def State.ch (s : State) (n : Nat) : Chan := Tab.get {} n s.tev.ch
def State.setCh (s : State) (n : Nat) (f : Chan → Chan) : State :=
  { s with tev := { s.tev with ch := Tab.put {} n (f (s.ch n)) s.tev.ch } }

/-- An instant in 25 ps steps as a count of 2^-16 ns. -/
def stepsTo16 (n : Nat) : Nat := n / 40 * 65536 + n % 40 * 65536 / 40

/-- The 25 ps step nearest to an instant in 2^-16 ns (R133). -/
def nearestStep (at16 : Nat) : Nat := (at16 * 40 + 32768) / 65536

/-- The five-word timestamp TS5 of an instant in 2^-16 ns: seconds, generation, nanoseconds with two flag bits, fraction in whole 25 ps steps,
bound, quality and a sequence number. -/
def State.ts5 (s : State) (at16 qual gen edge seq : Nat) : List Nat :=
  let ns := at16 / 65536
  let sec := ns / 1000000000
  [sec % 2 ^ 32, sec / 2 ^ 32 % 65536 + 65536 * gen, ns % 1000000000 + 2 ^ 30 * edge + 2 ^ 31,
   stepsTo16 (at16 * 40 / 65536) % 65536 + 65536 * s.rd Reg.TIME_BOUND, qual + 65536 * (seq % 65536)]

/-! ### The edge sequence (R133); times in 2^-16 ns -/

def nsec16 : Nat := 1000000000 * 65536

def State.chPeriod (s : State) (n : Nat) : Nat := s.rd Reg.TEV_CH_PERIOD_NS 0 n * 65536 + s.rd Reg.TEV_CH_PERIOD_FRAC 0 n

/-- Edges of one second when the sequence restarts every second. -/
def edgesPerSec (base p : Nat) : Nat := (nsec16 - base % nsec16 + p - 1) / max 1 p

/-- The instant of edge k. -/
def edgeAt (resync : Bool) (base p k : Nat) : Nat :=
  if resync then
    let m := max 1 (edgesPerSec base p)
    base + k / m * nsec16 + k % m * p
  else base + k * p

/-- The first edge that does not lie before an instant. -/
def firstEdge (resync : Bool) (base p t : Nat) : Nat :=
  if t ≤ base then 0 else
  let d := t - base
  if resync then
    let m := max 1 (edgesPerSec base p)
    let j := (d % nsec16 + p - 1) / max 1 p
    if j ≥ m then (d / nsec16 + 1) * m else d / nsec16 * m + j
  else (d + p - 1) / max 1 p

/-- 16 ticks of 125/81 ns, rounded up. -/
def ticks16 : Nat := (16 * 125 * 65536 + 80) / 81

/-- A mode with a sequence of edges. -/
def seqMode (m : Nat) : Bool := m == 2 || m == 3

def State.chMode (s : State) (n : Nat) : Nat := s.rd Reg.TEV_CH_CTL_MODE 0 n
def State.chState (s : State) (n : Nat) : Nat := s.rd Reg.TEV_CH_STATUS_STATE 0 n

/-- COUNT has been used up at edge k. -/
def State.chSpent (s : State) (n k : Nat) : Bool := s.isOn Reg.TEV_CH_COUNT 0 n && k ≥ s.rd Reg.TEV_CH_COUNT 0 n

/-- Set the next compare target, shown as linear nanoseconds. -/
def State.setNext (s : State) (n k at16 : Nat) : State :=
  ((s.setCh n fun c => { c with k := k, next := at16 }).wr Reg.TEV_CH_LIN_LO (at16 / 65536) 0 n).wr Reg.TEV_CH_LIN_HI (at16 / 65536 / 2 ^ 32) 0 n

def State.chEvent (s : State) (n : Nat) : State := s.event (Ev.chan n)

/-- The channel is idle; nothing of a sequence runs. -/
def State.chIdle (s : State) (n : Nat) : State :=
  (s.wr Reg.TEV_CH_STATUS_STATE 0 0 n).setCh n fun c => { c with stopping := false, rebase := 0, pulse := false, shown := false }

/-! ### Squelch (R123) -/

def State.tevSquelched (s : State) (n : Nat) : Bool := s.time.sqOn && bit (s.rd Reg.TIME_HO_CTL_SQ_TEV) n == 1
def State.ppsSquelched (s : State) : Bool := s.time.sqOn && s.isOn Reg.TIME_HO_CTL_SQ_PPS

/-- The level of pin TEV n. -/
def State.tevPin (s : State) (n : Nat) : Bool :=
  let active := (s.ch n).shown || (s.isOn Reg.TEV_CH_STATUS_LATCHED 0 n && !s.tevSquelched n)
  if s.isOn Reg.TEV_CH_CTL_POL 0 n then !active else active

/-- The level of pin PPS_OUT. -/
def State.ppsPin (s : State) : Bool := if s.isOn Reg.TEV_PPS_CTL_POL then !s.tev.pps else s.tev.pps

/-! ### Output edges (R131, R138) -/

/-- An edge at a 25 ps step with the output's compensation added. -/
def withComp (step comp : Nat) : Nat := ((step : Int) + signed 10 comp).toNat

/-- An edge of pin TEV n (channels 8 to 15 have no pin); POL gives the level of the active part. -/
def State.chEdge (s : State) (n : Nat) (active : Bool) (step : Nat) : State :=
  if n ≥ 8 then s else s.emit (.edge n (active != s.isOn Reg.TEV_CH_CTL_POL 0 n) (withComp step (s.rd Reg.TEV_CH_COMP 0 n)))

/-- The length of an active part in 25 ps steps: WIDTH, or half the period rounded. -/
def State.chSteps (s : State) (n : Nat) : Nat :=
  if s.chMode n = 3 then (s.chPeriod n * 20 + 32768) / 65536 else 40 * s.rd Reg.TEV_CH_WIDTH 0 n

/-- The running time of an instant of counter time, 2^-16 ns. -/
def State.runOf (s : State) (at16 : Nat) : Nat := ((s.run16 : Int) + at16 - s.ns16).toNat

/-- An active part starts at an instant: its edge is placed there unless the pin is squelched (R123). -/
def State.chPulse (s : State) (n at16 : Nat) : State :=
  let w := s.chSteps n
  let e := nearestStep at16
  let sq := s.tevSquelched n
  let run := s.runOf at16
  let cyc := if s.chMode n = 3 then run + s.chPeriod n else 0
  let s := s.setCh n fun c => { c with sent := true, pulse := true, shown := !sq, edge := e, wide := w, endAt := run + stepsTo16 w, cycEnd := cyc }
  if sq then s else s.chEdge n true e

/-- It ends. -/
def State.chFall (s : State) (n : Nat) : State :=
  let c := s.ch n
  let s := s.setCh n fun c => { c with pulse := false, shown := false }
  if c.shown then s.chEdge n false (c.edge + c.wide) else s

/-! ### Arming (R130, R135) -/

/-- Why an arm is refused, apart from the window. -/
def State.armRefused (s : State) (n : Nat) : Option Nat :=
  let m := s.chMode n
  let w := s.rd Reg.TEV_CH_WIDTH 0 n * 65536
  let p := s.chPeriod n
  if s.chState n ≠ 0 ∨ (s.isOn Reg.TEV_CH_STATUS_LATCHED 0 n = true ∧ 1 ≤ m ∧ m ≤ 3) then some St.busy
  else if (8 ≤ n ∧ 1 ≤ m) ∨ 5 < m ∨ (8 ≤ n ∧ s.isOn Reg.TEV_CH_CTL_STOP_SRC 0 n = true) ∨ s.rd Reg.TEV_CH_TGT_NS 0 n ≥ 1000000000 ∨
     ((m = 1 ∨ m = 2) ∧ w < 4 * 65536) ∨ (m = 2 ∧ w + 4 * 65536 > p) ∨ (seqMode m = true ∧ p < 8 * 65536) then some St.invalid
  else none

def State.refuseArm (s : State) (n status : Nat) : State := (s.wr Reg.TEV_CH_STATUS_RESULT status 0 n).inc Reg.TEV_CNT_ARM_REFUSED

/-- Arm a channel (R130, R131). (DEDUCED, log 31.) -/
def State.tevArm (s : State) (n : Nat) : State :=
  if n ≥ 16 then s else
  match s.armRefused n with
  | some st => s.refuseArm n st
  | none =>
    let base := (s.rd2 Reg.TEV_CH_TGT_SEC_LO Reg.TEV_CH_TGT_SEC_HI 0 n * 1000000000 + s.rd Reg.TEV_CH_TGT_NS 0 n) * 65536
    if base * 2 ^ 24 > s.time.now40 + 2 ^ 79 then s.refuseArm n St.outOfWindow else
    let late := base < s.ns16 + ticks16
    let s := ((s.wr Reg.TEV_CH_STATUS_STATE 1 0 n).wr Reg.TEV_CH_STATUS_RESULT St.ok 0 n).wr Reg.TEV_CH_FIRED 0 0 n
    let s := if late then s.wr Reg.TEV_CH_STATUS_LATE 1 0 n else s
    let s := s.setCh n fun _ => { base := base }
    if seqMode (s.chMode n) then
      let k := if late then firstEdge (s.isOn Reg.TEV_CH_CTL_RESYNC 0 n) base (s.chPeriod n) (s.ns16 + ticks16) else 0
      if s.chSpent n k then (s.chIdle n).chEvent n
      else s.setNext n k (edgeAt (s.isOn Reg.TEV_CH_CTL_RESYNC 0 n) base (s.chPeriod n) k)
    else s.setNext n 0 (if late then s.ns16 + ticks16 else base)

def execTevArm (n : Nat) (s : State) : Out := .next <| s.inDom .time fun s => s.tevArm n

/-! ### Stopping (R134) -/

/-- A pulse, or a GATED cycle, has started and is not complete. (DEDUCED, log 8.) -/
def State.chRuns (s : State) (n : Nat) : Bool :=
  (s.ch n).pulse || (s.chMode n == 3 && (s.ch n).sent && decide (s.run16 < (s.ch n).cycEnd))

/-- Stop a channel: a pulse or cycle in progress is completed first. A TRAIN or GATED sequence ends with its event. -/
def State.chStop (s : State) (n : Nat) : State :=
  if s.chState n = 0 then s
  else if s.chRuns n then s.setCh n fun c => { c with stopping := true }
  else if seqMode (s.chMode n) then (s.chIdle n).chEvent n
  else s.chIdle n

/-- DISARM also releases a latched pin (R437). -/
def State.tevDisarm (s : State) (n : Nat) : State :=
  if n ≥ 16 then s else (s.chStop n).wr Reg.TEV_CH_STATUS_LATCHED 0 0 n

def execTevDisarm (n : Nat) (s : State) : Out := .next <| s.inDom .time fun s => s.tevDisarm n

/-! ### Configuration (R135) -/

/-- A write of one word of TEV_CHn. ARM and DISARM are commands of their own. -/
def State.tevConfig (s : State) (n off v : Nat) : State :=
  if n ≥ 16 then s else
  let busy := s.chState n ≠ 0
  let guard := fun (R : Row) (x : Nat) => if busy && s.rd R 0 n != x % 2 ^ R.width then s.wr Reg.TEV_CH_STATUS_WERR 1 0 n else s.wr R x 0 n
  match off with
  | 0x00 =>
    if busy && s.chMode n != bits v 6 4 then s.wr Reg.TEV_CH_STATUS_WERR 1 0 n else
    ((((s.wr Reg.TEV_CH_CTL_MODE (bits v 6 4) 0 n).wr Reg.TEV_CH_CTL_POL (bit v 8) 0 n).wr Reg.TEV_CH_CTL_STOP_SRC (bit v 9) 0 n).wr
      Reg.TEV_CH_CTL_REBASE_POL (bit v 10) 0 n).wr Reg.TEV_CH_CTL_RESYNC (bit v 11) 0 n
  | 0x04 =>
    let s := if bit v 12 = 1 then s.wr Reg.TEV_CH_STATUS_LATE 0 0 n else s
    if bit v 13 = 1 then s.wr Reg.TEV_CH_STATUS_WERR 0 0 n else s
  | 0x08 => guard Reg.TEV_CH_TGT_SEC_LO v
  | 0x0C => guard Reg.TEV_CH_TGT_SEC_HI v
  | 0x10 => guard Reg.TEV_CH_TGT_NS v
  | 0x14 => guard Reg.TEV_CH_WIDTH v
  | 0x18 => guard Reg.TEV_CH_PERIOD_NS v
  | 0x1C => guard Reg.TEV_CH_PERIOD_FRAC v
  | 0x20 => guard Reg.TEV_CH_COUNT v
  | 0x28 => s.wr Reg.TEV_CH_COMP v 0 n
  | _ => s

def execTevConfigWrite (n off : Nat) (v : BitVec 32) (s : State) : Out := .next <| s.inDom .time fun s => s.tevConfig n off v.toNat

/-! ### Firing (R131, R132, R137) -/

/-- The 40-bit compare: the signed difference of now and the next target is zero or more. -/
def State.chDue (s : State) (n : Nat) : Bool := decide (signed 56 (s.ns16 % 2 ^ 56 + 2 ^ 56 - (s.ch n).next % 2 ^ 56) ≥ 0)

/-- Channel n + 8 stops channel n. -/
def State.stopPartner (s : State) (n : Nat) : State :=
  if n ≥ 8 && seqMode (s.chMode (n - 8)) && s.isOn Reg.TEV_CH_CTL_STOP_SRC 0 (n - 8) then s.chStop (n - 8) else s

/-- A channel's edge is due (R132, R133): the edge is placed at its instant (R131). The trailing edge of a pulse comes before the next
leading one. (DEDUCED, log 8.) -/
def State.tevFire (s : State) (n : Nat) : State :=
  let c := s.ch n
  if n ≥ 16 || s.chState n = 0 || c.stopping || !s.chDue n || c.pulse || (seqMode (s.chMode n) && s.chSpent n c.k) then s
  else
  let s := s.incSat Reg.TEV_CH_FIRED 0 n
  let sq := s.tevSquelched n
  match s.chMode n with
  | 0 => ((s.chIdle n).chEvent n).stopPartner n
  | 1 => ((s.wr Reg.TEV_CH_STATUS_STATE 2 0 n).chPulse n c.next).chEvent n
  | 4 =>
    let t := if sq || s.isOn Reg.TEV_CH_STATUS_LATCHED 0 n then s else s.chEdge n true (nearestStep c.next)
    ((t.wr Reg.TEV_CH_STATUS_LATCHED 1 0 n).chIdle n).chEvent n
  | 5 =>
    let t := if sq || !s.isOn Reg.TEV_CH_STATUS_LATCHED 0 n then s else s.chEdge n false (nearestStep c.next)
    ((t.wr Reg.TEV_CH_STATUS_LATCHED 0 0 n).chIdle n).chEvent n
  | _ =>
    let s := (s.wr Reg.TEV_CH_STATUS_STATE 2 0 n).chPulse n c.next
    let s := s.setNext n (c.k + 1) (edgeAt (s.isOn Reg.TEV_CH_CTL_RESYNC 0 n) c.base (s.chPeriod n) (c.k + 1))
    if c.sent then s else s.chEvent n

/-- TEV_PULSE_END: the active part ends once its length has passed (R134); a sequence that has reached COUNT or been stopped ends with its
event, a stopped GATED one at the end of its cycle. (DEDUCED, log 8.) -/
def State.tevPulseEnd (s : State) (n : Nat) : State :=
  let c := s.ch n
  if n ≥ 16 then s
  else if c.pulse then
    if s.run16 < c.endAt then s else
    let s := s.chFall n
    if !seqMode (s.chMode n) || c.rebase ≠ 0 then s.chIdle n
    else if s.chSpent n c.k || (c.stopping && !s.chRuns n) then (s.chIdle n).chEvent n
    else s
  else if c.stopping && !s.chRuns n then (s.chIdle n).chEvent n
  else s

def execTevPulseEnd (n : Nat) (s : State) : Out := .next <| s.inDom .time fun s => s.tevPulseEnd n

/-! ### A REBASE or the initial step (R136), and deep sleep (R142) -/

/-- The terminal disarms a channel with a status and raises its event; a pulse in progress is completed. -/
def State.chCancel (s : State) (n status : Nat) : State :=
  let s := (s.wr Reg.TEV_CH_STATUS_RESULT status 0 n).chEvent n
  if (s.ch n).pulse then s.setCh n fun c => { c with stopping := true, rebase := status } else s.chIdle n

/-- One channel against the new time. -/
def State.chRebase (s : State) (n : Nat) : State :=
  let c := s.ch n
  if s.chState n = 0 || c.stopping then s
  else if s.isOn Reg.TEV_CH_CTL_REBASE_POL 0 n then s.chCancel n St.cancelled
  else
    let resync := s.isOn Reg.TEV_CH_CTL_RESYNC 0 n
    let soon := s.ns16 + ticks16
    if seqMode (s.chMode n) then
      if s.chSpent n c.k then s else
      let k := max c.k (firstEdge resync c.base (s.chPeriod n) soon)
      if s.chSpent n k then
        if c.pulse then s.setCh n fun c => { c with k := k, stopping := true } else (s.chIdle n).chEvent n
      else
        let at16 := edgeAt resync c.base (s.chPeriod n) k
        if at16 * 2 ^ 24 > s.time.now40 + 2 ^ 79 then s.chCancel n St.outOfWindow else s.setNext n k at16
    else if c.pulse then s
    else if c.base * 2 ^ 24 > s.time.now40 + 2 ^ 79 then s.chCancel n St.outOfWindow
    else if c.base < soon then (s.wr Reg.TEV_CH_STATUS_LATE 1 0 n).setNext n 0 soon
    else s.setNext n 0 c.base

def State.rebaseChannels (s : State) : State := (List.range 16).foldl (fun s n => s.chRebase n) s

/-- Entry to deep sleep: each armed or running channel is disarmed and raises its event, latches are released, captures are emptied. -/
def State.tevSleep (s : State) : State :=
  let s := (List.range 16).foldl (fun s n =>
    (if s.chState n = 0 then s else (s.chIdle n).chEvent n).wr Reg.TEV_CH_STATUS_LATCHED 0 0 n) s
  { s with tev := { s.tev with cap := Tab.mapv {} (fun _ (c : Cap) => { c with fifo := [] }) s.tev.cap } }

/-! ### PPS_OUT (R139) -/

/-- The pulse length in µs: WIDTH, held within 1 to 999,999. -/
def State.ppsWidth (s : State) : Nat := min (max 1 (s.rd Reg.TEV_PPS_WIDTH)) 999999

/-- An edge of PPS_OUT, pin 8. -/
def State.ppsEdge (s : State) (active : Bool) (step : Nat) : State :=
  s.emit (.edge 8 (active != s.isOn Reg.TEV_PPS_CTL_POL) (withComp step (s.rd Reg.TEV_PPS_CTL_COMP)))

/-- PPS_OUT_PULSE, in a tick in which TIME_NS rolled to zero by counting: the edge stands at the second's instant. -/
def State.ppsPulse (s : State) : State :=
  if !s.time.rolled || !s.isOn Reg.TEV_PPS_CTL_EN || s.ppsSquelched || s.tev.pps then s else
  let e := s.secNow * 40000000000
  let w := s.ppsWidth * 40000
  { s with tev := { s.tev with pps := true, ppsEdge := e + w, ppsEnd := s.runOf (s.secNow * nsec16) + stepsTo16 w } }.ppsEdge true e

def execPpsOutPulse (s : State) : Out := .next (s.inDom .time State.ppsPulse)

/-- PPS_PULSE_END: WIDTH has passed since the edge. -/
def State.ppsFall (s : State) : State :=
  if !s.tev.pps || s.run16 < s.tev.ppsEnd then s else { s with tev := { s.tev with pps := false } }.ppsEdge false s.tev.ppsEdge

def execPpsPulseEnd (s : State) : Out := .next (s.inDom .time State.ppsFall)

/-! ### Captures (R140, R141) -/

def State.cap (s : State) (i : Nat) : Cap := Tab.get {} i s.tev.cap
def State.setCap (s : State) (i : Nat) (f : Cap → Cap) : State :=
  { s with tev := { s.tev with cap := Tab.put {} i (f (s.cap i)) s.tev.cap } }

/-- An accepted edge: the tick's counter value refined by `fine` steps of 25 ps, less COMP; before the initial step its generation is 0 and
its quality FREERUN (R142). -/
def State.capture (s : State) (i : Nat) (rising : Bool) (fine : Nat) : State :=
  let c := s.cap i
  let s := s.inc Reg.TEV_TCAP_CNT_CAPTURED 0 i
  if c.fifo.length ≥ 64 then
    let was := s.isOn Reg.TEV_TCAP_STATUS_OVF 0 i
    let s := ((s.inc Reg.TEV_TCAP_CNT_LOST 0 i).wr Reg.TEV_TCAP_STATUS_OVF 1 0 i).setCap i fun c => { c with seq := (c.seq + 1) % 65536 }
    if was then s else s.event (Ev.cap i)
  else
    let steps := ((s.ns16 * 40 / 65536 + fine : Nat) : Int) - signed 10 (s.rd Reg.TEV_TCAP_CTL_COMP 0 i)
    let w := s.ts5 (stepsTo16 steps.toNat) (if s.isOn Reg.TIME_QUAL_STEP_DONE then s.rd Reg.TIME_QUAL_QUALITY else 0)
      (if s.isOn Reg.TIME_QUAL_STEP_DONE then s.rd Reg.TIME_QUAL_GEN else 0) (b2n rising) c.seq
    let s := s.setCap i fun c => { c with fifo := c.fifo ++ [w], seq := (c.seq + 1) % 65536 }
    if c.fifo.isEmpty then s.event (Ev.cap i) else s

/-- TCAP_EDGE: `widthPs` is how long the input then held the new level, `wide` the choice made between 2.0 and 2.2 ns. The second edge of an
ignored pulse returns to the level the input already has and is ignored with it (R140). -/
def State.tcapEdge (s : State) (i : Nat) (rising : Bool) (widthPs : Nat) (wide : Bool) (fine : Nat) : State :=
  if i ≥ 8 || s.rd Reg.TEV_TCAP_STATUS_PIN 0 i = b2n rising then s
  else if widthPs < 2000 || (widthPs ≤ 2200 && !wide) then
    if s.isOn Reg.TEV_TCAP_CTL_EN 0 i then s.inc Reg.TEV_TCAP_CNT_NARROW 0 i else s
  else
    let s := s.wr Reg.TEV_TCAP_STATUS_PIN (b2n rising) 0 i
    if s.isOn Reg.TEV_TCAP_CTL_EN 0 i && bit (s.rd Reg.TEV_TCAP_CTL_EDGE 0 i) (if rising then 0 else 1) == 1 then s.capture i rising fine
    else s

/-- A read of TCAPi_HEAD0: the head entry is latched into the five words and removed; an empty FIFO latches an entry without VALID. -/
def State.tcapPop (s : State) (i : Nat) : State :=
  if i ≥ 8 then s else
  let w := ((s.cap i).fifo.head?).getD [0, 0, 0, 0, 0]
  let s := s.setCap i fun c => { c with fifo := c.fifo.drop 1 }
  let s := ((((s.wr Reg.TEV_TCAP_HEAD0 (w.getD 0 0) 0 i).wr Reg.TEV_TCAP_HEAD1 (w.getD 1 0) 0 i).wr Reg.TEV_TCAP_HEAD2 (w.getD 2 0) 0 i).wr
    Reg.TEV_TCAP_HEAD3 (w.getD 3 0) 0 i).wr Reg.TEV_TCAP_HEAD4 (w.getD 4 0) 0 i
  s.emit (.regRead (Reg.TEV_TCAP_HEAD0.addr + Reg.TEV_TCAP_HEAD0.stride * i) (w.getD 0 0))

def execTcapHeadPop (i : Nat) (s : State) : Out := .next <| s.inDom .time fun s => s.tcapPop i

/-! ### PTM dialogues (R143) -/

/-- End a dialogue with a status. -/
def State.ptmEnd (s : State) (status : Nat) : State :=
  let s := (s.wr Reg.TEV_PTM_STATUS_BUSY 0).wr Reg.TEV_PTM_STATUS_RESULT status
  (s.inc (if status = St.ok then Reg.TEV_CNT_PTM_DIALOGUES else Reg.TEV_CNT_PTM_FAILED)).pfEvent 3 status

/-- The counter now as a PTM record keeps it. -/
def State.ptmStamp (s : State) (seq : Nat) : List Nat := s.ts5 s.ns16 (s.rd Reg.TIME_QUAL_QUALITY) (s.rd Reg.TIME_QUAL_GEN) 0 seq

/-- Start a dialogue: t1 is the counter as the request leaves. -/
def State.ptmStart (s : State) : State :=
  let s := s.wr Reg.TEV_PTM_STATUS_BUSY 1
  ({ s with tev := { s.tev with ptmT1 := s.ptmStamp s.tev.ptmSeq, ptmSeq := (s.tev.ptmSeq + 1) % 65536 } }).emit .ptmRequest

/-- PERIOD_MS have passed since the last automatic dialogue; 0 acts as 1. -/
def State.ptmDue (s : State) : Bool :=
  match s.tev.ptmAt with
  | none => true
  | some t => decide (t + max 1 (s.rd Reg.TEV_PTM_CTL_PERIOD_MS) ≤ s.runMs)

def State.ptmAuto (s : State) : State :=
  if s.isOn Reg.TEV_PTM_CTL_AUTO && s.tev.ptmOn && !s.isOn Reg.TEV_PTM_STATUS_BUSY && s.ptmDue && s.linkOk then
    { s with tev := { s.tev with ptmAt := some s.runMs } }.ptmStart
  else s

def execPtmAutoTimer (s : State) : Out := .next (s.inDom .time State.ptmAuto)

/-- TRIGGER without PTM enabled, or during a dialogue, is a dialogue that ends INVALID at once; the one that runs goes on. -/
def State.ptmTrigger (s : State) : State :=
  if !s.tev.ptmOn then s.ptmEnd St.invalid
  else if s.isOn Reg.TEV_PTM_STATUS_BUSY then (s.ptmEnd St.invalid).wr Reg.TEV_PTM_STATUS_BUSY 1
  else if !s.linkOk then s.ptmEnd St.hostLinkLost
  else s.ptmStart

def execPtmTrigger (s : State) : Out := .next (s.inDom .time State.ptmTrigger)

/-- PTM_RESPONSE: t4 is the counter now; the record takes its place and the one before moves to PREV. -/
def State.ptmResponse (s : State) (master pdelay : Nat) : State :=
  if !s.isOn Reg.TEV_PTM_STATUS_BUSY then s else
  let t := s.tev
  let t4 := s.ptmStamp (t.ptmT1.getD 4 0 / 65536)
  ({ s with tev := { t with ptmPrev := t.ptmCur.take 10, ptmCur := t.ptmT1 ++ t4 ++ [master % 2 ^ 32, master / 2 ^ 32, pdelay], ptmT1 := [] } }).ptmEnd St.ok

def execPtmResponse (master : BitVec 64) (pdelay : BitVec 32) (s : State) : Out :=
  .next <| s.inDom .time fun s => s.ptmResponse master.toNat pdelay.toNat

def State.ptmTimeout (s : State) : State := if s.isOn Reg.TEV_PTM_STATUS_BUSY then s.ptmEnd St.timeout else s

def execPtmTimeout (s : State) : Out := .next (s.inDom .time State.ptmTimeout)

end Sys2Proof.Machine
end

