-- ==== Sys2Proof/Machine/TimeEngine.lean ====
section
/-! DEFINITION. The time engine: the counter, its limiter and voter, the estimators, the dispersion fit, the error bound, the quality states,
holdover, snapshots and staged writes (04_time_transfer.md). -/

namespace Sys2Proof.Machine

/-! ### The counter and INCR (R98, R103) -/

/-- The counter wraps with its 48 bits of seconds. -/
def counterMod : Nat := 2 ^ 48 * 1000000000 * 2 ^ 40

def incrNom : Nat := 1696777203358
def incrMin : Nat := 1696607525638
def incrMax : Nat := 1696946881078

def clampIncr (x : Nat) : Nat := max incrMin (min x incrMax)

/-- The 40-bit compare of AT_TICK, or for AT_PPS a roll of TIME_NS at least two ticks after the write (R127), as a tick finds it. -/
def Arm.tick (a : Arm) (ns run40 : Nat) (rolled : Bool) : Arm :=
  { a with due := a.due || if a.pps then rolled && decide (a.target ≤ run40) else decide (linDiff ns a.target ≥ 0) }

/-- TIME_TICK (R98): the counter adds INCR; a roll of TIME_NS by counting, and the tick of an armed apply, are noted. -/
def State.tick (s : State) : State :=
  let now := (s.time.now40 + s.time.incr) % counterMod
  let run := s.time.run40 + s.time.incr
  let rolled := now / (1000000000 * 2 ^ 40) != s.time.now40 / (1000000000 * 2 ^ 40)
  { s with time := { s.time with now40 := now, run40 := run, rolled := rolled,
                                 arm := s.time.arm.map fun a => a.tick (now / 2 ^ 40) run rolled } }

def execTimeTick (s : State) : Out := .next (s.inDom .time State.tick)

/-- The limiter moves by at most 16,967 LSB. -/
def limited (incr tgt : Nat) : Nat := if incr ≤ tgt then min tgt (incr + 16967) else max tgt (incr - 16967)

def State.limiterStep (s : State) : State := { s with time := { s.time with incr := limited s.time.incr (clampIncr s.time.tgt) } }

def execLimiterStep (s : State) : Out := .next (s.inDom .time State.limiterStep)

def State.setTgt (s : State) (x : Nat) : State := { s with time := { s.time with tgt := clampIncr x } }

/-! ### Compensation values (R106, R127), in 1/16 ps -/

/-- A FACT register and the TRIM value in effect. -/
def State.comp (s : State) (fact trim : Row) (l : Leg) (i : Nat) : Int :=
  signed 32 (s.rd fact l.n i) + signed 32 (Tab.get 0 (trim.key l.n i) s.time.trims)

def State.mRx (s : State) (l : Leg) : Int := s.comp Reg.TIME_LEG_RX_FACT Reg.TIME_LEG_RX_TRIM l 0
def State.mTx (s : State) (l : Leg) (u : Nat) : Int := s.comp Reg.TIME_LEG_TXU_FACT Reg.TIME_LEG_TXU_TRIM l u
def State.skew (s : State) (l : Leg) (w : Nat) : Int := s.comp Reg.TIME_LEG_SKEW_FACT Reg.TIME_LEG_SKEW_TRIM l (w - 1)

/-- The TRIM registers of both legs: their rows and instance counts. -/
def trimRows : List (Row × Nat) := [(Reg.TIME_LEG_RX_TRIM, 1), (Reg.TIME_LEG_TXU_TRIM, 2), (Reg.TIME_LEG_SKEW_TRIM, 3)]

/-- Every TRIM written takes effect. -/
def State.applyTrims (s : State) : State :=
  { s with time := { s.time with trims := trimRows.foldl (fun t (R, n) => [0, 1].foldl (fun t l =>
      (List.range n).foldl (fun t i => Tab.put 0 (R.key l i) (s.rd R l i) t) t) t) s.time.trims } }

/-! ### Rounding -/

def roundRat (x : Rat) : Int := (x + 1 / 2).floor
def ceilRat (x : Rat) : Int := -(-x).floor

/-! ### Usable legs (R108, R109) -/

def State.eqdNow (s : State) (l : Leg) : Nat := s.rd Reg.ACT_EQD_EQD_FINE l.n + 64 * s.rd Reg.ACT_EQD_EQD_GRAINS l.n

/-- T_EQ has been written and is less than EqD. -/
def State.teqShort (s : State) (l : Leg) : Bool := s.isOn Reg.TIME_LEG_TEQ_TEQ_VALID l.n && s.rd Reg.TIME_LEG_TEQ l.n < s.eqdNow l

/-- A leg is usable for time (R108). (DEDUCED, log 27.) -/
def State.legUsable (s : State) (l : Leg) : Bool :=
  (s.wave l 0).deln == .sync && s.rd Reg.ACT_STATUS_STATE l.n == 5 && s.isOn Reg.TIME_LEG_TEQ_TEQ_VALID l.n && !s.teqShort l &&
  ((s.leg l).todAge.any fun a => a < 8) && (s.leg l).fitEver

/-! ### The own bound (R117, R122, R439), units of 0.25 ns -/

def absNat (x : Int) : Nat := x.natAbs

/-- |theta| of the active leg. -/
def State.residual (s : State) : Nat :=
  match (s.leg s.active).theta with
  | some t => (absNat t * 4 + 65535) / 65536
  | none => 0

/-- The asymmetry on the ranging wave. -/
def State.asymRanging (s : State) (l : Leg) : Int := signed 32 (s.rd Reg.TIME_LEG_ASYM l.n (s.rd Reg.TIME_LEG_STATUS_RWAVE l.n))

def State.fitTerm (s : State) : Nat :=
  if (s.leg s.active).fitBad then 1 + (absNat (s.asymRanging s.active) + 7999) / 8000 else 0

def State.laserTerm (s : State) : Nat := if s.isOn Reg.TIME_LEG_STATUS_LASER_LOW s.active.n then (s.leg s.active).laserTerm else 0

def State.sleepTerm (s : State) : Nat := if s.pwr.asleep then 64 else 0

/-- (Y0 + TEMP) t + AGING t^2 / 2 after t milliseconds, rounded up. (DESIGN CHOICE, log 30.) -/
def holdoverTerm (y0 temp aging t : Nat) : Nat := ((y0 + temp) * t * 40000000 + 2 * aging * t * t + 999999999999999) / 1000000000000000

/-- TIME runs from the REF synthesiser while REF is lost (R386). -/
def State.noRef (s : State) : Bool := s.rd Reg.TIME_STATUS_SRC == 2 && !s.isOn Reg.PWR_STATUS_REF_OK && !s.pwr.held

/-- The own bound, and which terms other than the residual offset stand in it (1 fit, 2 laser, 4 voter, 8 sleep, 16 holdover). -/
def State.ownBound (s : State) : Nat × Nat :=
  let q := s.rd Reg.TIME_QUAL_QUALITY
  let m := fun (n : Nat) (k : Nat) => if n = 0 then 0 else k
  if q = 0 ∨ (q = 1 ∧ s.isOn Reg.TIME_QUAL_STEP_DONE = false) ∨ s.noRef = true then (65535, 0)
  else if s.time.hoOn then
    (s.time.hoB0 + s.time.hoVoter + holdoverTerm (s.rd Reg.TIME_HO_Y0) (s.rd Reg.TIME_HO_TEMP) (s.rd Reg.TIME_HO_AGING) (s.rd Reg.TIME_HO_ELAPSED),
     Nat.lor s.time.widened (16 + m s.time.hoVoter 4))
  else
    let res := if q = 1 ∨ q = 4 then s.residual else 0
    (s.rd Reg.TIME_SERVO_TC_BASE + res + s.fitTerm + s.laserTerm + s.time.voter + s.sleepTerm,
     m s.fitTerm 1 + m s.laserTerm 2 + m s.time.voter 4 + m s.sleepTerm 8)

/-- Report the bounds. While firmware is absent in ACQUIRING or LOCKED they stay as last reported (R25). A term added raises BOUND_WIDENED. -/
def State.settleBound (s : State) : State :=
  let q := s.rd Reg.TIME_QUAL_QUALITY
  if !s.fwPresent && (q == 1 || q == 2) then s else
  let (own, mask) := s.ownBound
  let own := min own 65535
  let total := if own = 65535 then own else min (own + s.time.heBound) 65535
  let new := Nat.lor mask s.time.widened != s.time.widened
  let s := { (s.wr Reg.TIME_BOUND_OWN own).wr Reg.TIME_BOUND total with time := { s.time with widened := mask } }
  if new then s.event (Ev.time 14) else s

/-! ### Squelch, holdover and the quality state (R120 to R123) -/

def State.settleSquelch (s : State) : State :=
  let on := s.time.sqOn && (s.isOn Reg.TIME_HO_CTL_SQ_PPS || s.isOn Reg.TIME_HO_CTL_SQ_TEV)
  if on && !s.isOn Reg.TIME_STATUS_SQUELCHED then (s.wr Reg.TIME_STATUS_SQUELCHED 1).event (Ev.time 8)
  else if !on then s.wr Reg.TIME_STATUS_SQUELCHED 0
  else s

/-- R122 begins to apply, from the own bound that stood, or ends; a voter term added meanwhile stands on until the next estimate. -/
def State.settleHo (s : State) (b0 : Nat) : State :=
  let q := s.rd Reg.TIME_QUAL_QUALITY
  let want := q == 3 || (q == 4 && !s.legUsable s.active)
  if want && !s.time.hoOn then
    ({ s with time := { s.time with hoOn := true, hoB0 := b0, hoVoter := 0, hoSeen := false } }.wr Reg.TIME_HO_Y0 s.time.y0Next).wr
      Reg.TIME_HO_ELAPSED 0
  else if !want && s.time.hoOn then
    { s with time := { s.time with hoOn := false, voter := s.time.voter + if s.time.hoSeen then 0 else s.time.hoVoter } }
  else s

/-- Enter a quality state (0 FREERUN, 1 ACQUIRING, 2 LOCKED, 3 HOLDOVER, 4 HOLDOVER_EXCEEDED); in HOLDOVER hardware keeps INCR_HO as the
target (R435). -/
def State.setQuality (s : State) (q : Nat) : State :=
  if s.rd Reg.TIME_QUAL_QUALITY = q then s else
  let b0 := s.rd Reg.TIME_BOUND_OWN
  let s := { s.wr Reg.TIME_QUAL_QUALITY q with time := { s.time with lockRun := 0, unlockRun := 0 } }.event (Ev.time 0)
  let s := if q = 2 then s else s.markBins (fun _ => true) fun b => { b with unlocked := true }
  let s := if q = 3 then (s.inc Reg.TIME_CNT_HOLDOVER_ENTRIES).event (Ev.time 6) else s
  let s := if q = 3 ∧ s.isOn Reg.TIME_CTL_SERVO_EN = true then s.setTgt s.time.incrHo else s
  let s := if q = 4 then { s with time := { s.time with sqOn := true } }.event (Ev.time 7) else s
  let s := if q = 2 then { s with time := { s.time with sqOn := false } } else s
  ((s.settleSquelch).settleHo b0).settleBound

/-- REBASE_REQUEST is raised as REBASE_REQ goes from 0 to 1. -/
def State.rebaseRequest (s : State) : State :=
  if s.isOn Reg.TIME_STATUS_REBASE_REQ then s else (s.wr Reg.TIME_STATUS_REBASE_REQ 1).event (Ev.time 3)

/-- The TIME domain's source (R22). -/
def State.settleSource (s : State) : State :=
  let want := if s.legUsable s.active && !s.pwr.asleep then s.active.n else 2
  if s.rd Reg.TIME_STATUS_SRC = want then s else (s.wr Reg.TIME_STATUS_SRC want).event (Ev.time 15)

/-- Follow every condition of R108: the USABLE bits, the source, the loss of the active leg (R121), the bound. -/
def State.settleTime (s : State) : State :=
  let s := (s.wr Reg.TIME_LEG_STATUS_USABLE (b2n (s.legUsable .a)) 0).wr Reg.TIME_LEG_STATUS_USABLE (b2n (s.legUsable .b)) 1
  let u := s.legUsable s.active
  let s := s.settleSource
  let s := if s.time.fed && !u then s.event (Ev.time 0) else s
  let s := if !u && s.isOn Reg.TIME_CTL_SERVO_EN && (s.time.fed || s.rd Reg.TIME_QUAL_QUALITY ≥ 3) then s.setTgt s.time.incrHo else s
  let s := { s with time := { s.time with fed := u } }
  (s.settleHo (s.rd Reg.TIME_BOUND_OWN)).settleBound

/-- HOLDOVER for want of the active leg, from ACQUIRING or LOCKED once the initial step is done (R120). -/
def State.toHoldover (s : State) : State :=
  let q := s.rd Reg.TIME_QUAL_QUALITY
  if (q == 1 || q == 2) && s.isOn Reg.TIME_QUAL_STEP_DONE then s.setQuality 3 else s

/-! ### Steps of the counter (R104, R105, R127, R136, R145) -/

/-- Frames still waiting for their launch time are cancelled (R145). -/
def State.flushLaunch (s : State) (old40 : Nat) : State :=
  s.host.txq.foldl (fun s (q, x) =>
    (x.frames.filter fun f => f.st == .head && ltWaits f.lt old40).foldl (fun s f => s.finish q f.didx St.cancelled) s) s

/-- Load the counter: a new time generation; channels, waiting frames and bins follow. Offsets are re-expressed in the new time. (DEDUCED, log 27.) -/
def State.stepCounter (s : State) (new40 : Nat) : State :=
  let old := s.time.now40
  let d : Int := (new40 : Int) / 2 ^ 24 - (old : Int) / 2 ^ 24
  let shift := fun (g : LegSt) => { g with theta := g.theta.map (· + d), thetas := [] }
  let s := { s with time := { s.time with now40 := new40 % counterMod, lockRun := 0, unlockRun := 0, rolled := false } }.inc Reg.TIME_QUAL_GEN
  let s := (s.upd .a shift).upd .b shift
  let s := s.rebaseChannels
  let s := if s.isOn Reg.TEV_LT_CTL_REBASE_FLUSH then s.flushLaunch old else s
  s.stepBins

/-- The counter less an offset in 2^-16 ns. -/
def State.lessTheta (s : State) (t : Int) : Nat := ((s.time.now40 : Int) - t * 2 ^ 24).toNat

def spread (l : List Int) : Int := l.foldl max (l.headD 0) - l.foldl min (l.headD 0)

/-- The condition of R105. -/
def State.stepReady (s : State) (l : Leg) : Bool :=
  (s.leg l).thetas.length ≥ 16 && spread (s.leg l).thetas ≤ ((s.rd Reg.TIME_SERVO_CTL_UNLOCK_Q * 16384 : Nat) : Int)

def State.initialStep (s : State) : State :=
  match (s.leg s.active).theta with
  | none => s
  | some t => (((s.stepCounter (s.lessTheta t)).wr Reg.TIME_QUAL_STEP_DONE 1).event (Ev.time 1)).settleBound

/-- A REBASE to a value: R127's effects beyond the load. -/
def State.rebase (s : State) (new40 : Nat) : State :=
  let s := ((s.stepCounter new40).wr Reg.TIME_STATUS_REBASE_REQ 0).inc Reg.TIME_CNT_REBASES
  let s := (s.setQuality (if s.legUsable s.active then 1 else 0)).event (Ev.time 2)
  s.settleBound

/-! ### Estimates (R106, R107, R110) -/

/-- theta in 2^-16 ns from a marker and its announced time, both in 2^-16 ns: M - (T + d). -/
def State.thetaOf (s : State) (l : Leg) (m16 t16 eqd : Nat) : Int :=
  let rtt : Int := (s.rd Reg.TIME_LEG_TEQ l.n : Int) - eqd
  let x := s.mRx l - s.mTx l (s.rd Reg.TIME_LEG_STATUS_RWAVE l.n) + s.asymRanging l
  (m16 : Int) - t16 - roundRat ((2 ^ 15 * (3125 * rtt + 9 * x) : Int) / 144000)

/-- A new estimate of a leg; the active leg's feeds the runs of R120 and ends the voter term. -/
def State.takeTheta (s : State) (l : Leg) (t : Int) : State :=
  let ok := s.legUsable l
  let s := s.upd l fun g => { g with theta := some t, thetas := if ok then (t :: g.thetas).take 16 else [] }
  let s := s.wr Reg.TIME_LEG_OFFSET (unsigned 64 t) l.n
  let s := s.inc (if l = .a then Reg.TIME_CNT_TOD_USED_A else Reg.TIME_CNT_TOD_USED_B)
  if l ≠ s.active then s else
  let lock := decide (absNat t ≤ s.rd Reg.TIME_SERVO_CTL_LOCK_Q * 16384)
  let unl := decide (absNat t > s.rd Reg.TIME_SERVO_CTL_UNLOCK_Q * 16384)
  { s with time := { s.time with lockRun := if ok && lock then s.time.lockRun + 1 else 0,
                                 unlockRun := if ok && unl then s.time.unlockRun + 1 else 0, voter := 0, hoSeen := true } }

/-- The offset of an announcement, when its marker was latched in this generation and is not excluded; an announcement of a marker still to
come waits for it. (DEDUCED, log 27.) -/
def State.estimate (s : State) (l : Leg) (ref t16 : Nat) : State :=
  match (s.leg l).marks.find? fun m => m.sfc == ref with
  | none => if (s.leg l).marks.all fun m => m.sfc < ref then s.upd l fun g => { g with todWait := ((ref, t16) :: g.todWait).take 16 } else s
  | some m =>
    if m.excluded then s.inc (match l with | .a => Reg.TIME_CNT_MARK_EXCL_A | .b => Reg.TIME_CNT_MARK_EXCL_B)
    else if m.gen ≠ s.rd Reg.TIME_QUAL_GEN || !s.isOn Reg.TIME_LEG_TEQ_TEQ_VALID l.n || s.rd Reg.TIME_LEG_TEQ l.n < m.eqd then s
    else s.takeTheta l (s.thetaOf l (m.at40 / 2 ^ 24) t16 m.eqd)

/-- A marker has been latched: the announcement that waits for it gives its offset; those of markers passed over are dropped (R106). -/
def State.markerCame (s : State) (l : Leg) (sfc : Nat) : State :=
  match (s.leg l).todWait.find? fun w => w.1 == sfc with
  | none => s
  | some w =>
    let s := s.upd l fun g => { g with todWait := g.todWait.filter fun x => x.1 > sfc }
    if s.fwPresent then (s.estimate l sfc w.2).settleTime else s

/-- UTC information from the active leg (R99). -/
def State.copyUtc (s : State) (ofs flags cls : Nat) : State :=
  let leap := (bit flags 7 == 1 && !s.isOn Reg.TIME_UTC_LI61) || (bit flags 6 == 1 && !s.isOn Reg.TIME_UTC_LI59)
  let moved := s.rd Reg.TIME_UTC_UTC_OFFSET != ofs
  let s := (((((s.wr Reg.TIME_UTC_UTC_OFFSET ofs).wr Reg.TIME_UTC_LI61 (bit flags 7)).wr Reg.TIME_UTC_LI59 (bit flags 6)).wr
    Reg.TIME_UTC_UTC_VALID (bit flags 5)).wr Reg.TIME_UTC_TRACEABLE (bit flags 4)).wr Reg.TIME_UTC_HE_CLASS cls
  let s := if leap then s.event (Ev.time 12) else s
  if moved then s.event (Ev.time 13) else s

/-- The time-of-day announcement of a D0 frame whose header says it has one (R36, R39, R99, R106). -/
def State.todAnnounce (s : State) (l : Leg) (w : Nat) : State :=
  let fld := fun off n => w / 2 ^ (8 * (32 - off - n)) % 2 ^ (8 * n)
  let ref := fld 0 6
  if (s.wave l 0).deln != .sync || !(s.leg l).partOk || !(s.leg l).todp then s else
  let s := s.upd l fun g => { g with todp := false }
  if crc32 (msbBits 224 (w / 2 ^ 32)) != w % 2 ^ 32 || ref > s.cur l + 8 || s.cur l > ref + 8 then s.inc Reg.LINE_D0CNT_TOD_REJECT l.n
  else
    let flags := fld 20 1
    let s := s.upd l fun g => { g with todSince := some 0, todRaised := false, todAge := if bit flags 4 = 1 then some 0 else g.todAge }
    let s := if l = s.active then
        { s.copyUtc (fld 18 2) flags (fld 21 1) with time := { (s.copyUtc (fld 18 2) flags (fld 21 1)).time with heBound := fld 22 2 } }
      else s
    let s := if s.fwPresent then s.estimate l ref (((fld 6 6) * 1000000000 + fld 12 4 % 2 ^ 30) * 65536 + fld 16 2) else s
    s.settleTime

def execTodAnnouncement (l : Leg) (word : BitVec 256) (s : State) : Out := .next (s.todAnnounce l word.toNat)

/-- TOD_MISSING, once per gap, when 8 superframe boundaries have passed since the last accepted announcement. (DEDUCED, log 8.) -/
def State.todMissing (s : State) (l : Leg) : State :=
  if (s.leg l).todRaised || !((s.leg l).todSince.any fun n => n ≥ 8) then s else
  ((s.upd l fun g => { g with todRaised := true }).event (Ev.timeLeg l 3)).settleTime

def execTodMissing (l : Leg) (s : State) : Out := .next (s.todMissing l)

def State.fitWindow (s : State) (l : Leg) : Nat := max 64 (s.rd Reg.TIME_LEG_FIT_CTL_WINDOW_SF l.n)

/-- The means of the three differences over the last `win` superframes (R111), in 1/16 ps. -/
def State.windowMeans (s : State) (l : Leg) (win : Nat) : Option (Rat × Rat × Rat) :=
  let dts := (s.leg l).dts.filter fun d => s.cur l < d.1 + win
  let n := dts.length
  if n = 0 then none else
  let mean := fun (f : Nat × Int × Int × Int → Int) => ((dts.foldl (fun a d => a + f d) 0 : Int) : Rat) / n
  some (mean fun d => d.2.1, mean fun d => d.2.2.1, mean fun d => d.2.2.2)

/-- A superframe boundary of a leg's D0 passes: announcement ages, and whether D0 to D3 were all in SYNC throughout (R108, R113). -/
def State.timeBoundary (s : State) (l : Leg) (whole : Bool) : State :=
  let g := s.leg l
  let win := s.fitWindow l
  let keep := max win g.dtKeep
  let bad := if !whole then some 0 else match g.lastBad with
    | some n => if n + 1 ≥ 65536 then none else some (n + 1)
    | none => none
  let dts := g.dts.filter fun d => s.cur l < d.1 + keep
  let s := s.upd l fun g => { g with todAge := g.todAge.map fun a => min (a + 1) 8, todSince := g.todSince.map (· + 1), lastBad := bad, dts := dts }
  match s.windowMeans l win with
  | none => s
  | some (a, b, c) =>
    ((s.wr Reg.TIME_LEG_DT (unsigned 32 (roundRat a)) l.n 0).wr Reg.TIME_LEG_DT (unsigned 32 (roundRat b)) l.n 1).wr Reg.TIME_LEG_DT
      (unsigned 32 (roundRat c)) l.n 2

/-! ### The dispersion fit and the laser model (R111 to R116) -/

/-- g of R112 at a wavelength in nm. -/
def gOf (lam l0 : Rat) : Rat := (lam - l0 * l0 / lam) * (lam - l0 * l0 / lam)

def lamNom (u : Nat) : Rat := if u = 0 then 1290 else 1300

/-- The modelled wavelength of an upstream wave (R115). -/
def State.lamU (s : State) (l : Leg) (u : Nat) : Rat :=
  let d := if u = 0 then (s.leg l).drift.1 else (s.leg l).drift.2
  lamNom u + (d : Rat) / 320000000

/-- The drift of R115 from the telemetry last read. -/
def State.driftOf (s : State) (l : Leg) (u : Nat) : Int :=
  let dt := signed 16 (s.rd Reg.OPT_TELEM_LASER_LASER_T l.n u) - signed 16 (s.rd Reg.TIME_LEG_LASER_REF_T_REF l.n)
  let di : Int := (s.rd Reg.OPT_TELEM_BIAS l.n u : Int) - s.rd Reg.TIME_LEG_LASER_REF_I_REF l.n
  signed 16 (s.rd Reg.TIME_LEG_LASER_U_KT l.n u) * dt * 125 + signed 16 (s.rd Reg.TIME_LEG_LASER_U_KI l.n u) * di * 64

/-- K in ps/nm^2 and lambda0 in nm of the leg's last valid fit. -/
def State.fitK (s : State) (l : Leg) : Rat := (s.rd Reg.TIME_LEG_FIT_K l.n : Rat) / 16777216
def State.fitL0 (s : State) (l : Leg) : Rat := (s.rd Reg.TIME_LEG_FIT_L0 l.n : Rat) / 1024

/-- A of R114 in 1/16 ps for both upstream waves, from the last valid fit; before the first there is none. -/
def State.putAsym (s : State) (l : Leg) : State :=
  if !s.isOn Reg.TIME_LEG_FIT_K l.n then s else
  let a := fun u => unsigned 32 (roundRat (16 * s.fitK l * (gOf 1342 (s.fitL0 l) - gOf (s.lamU l u) (s.fitL0 l))))
  (s.wr Reg.TIME_LEG_ASYM (a 0) l.n 0).wr Reg.TIME_LEG_ASYM (a 1) l.n 1

/-- Follow telemetry: while in confidence the wavelengths are modelled afresh. -/
def State.followLaser (s : State) (l : Leg) : State :=
  if s.isOn Reg.TIME_LEG_STATUS_LASER_LOW l.n then s else
  (s.upd l fun g => { g with drift := (s.driftOf l 0, s.driftOf l 1) }).putAsym l

/-- A fit of a leg: K in 2^-24 ps/nm^2, lambda0 in 1/1024 nm, the residual in 1/16 ps, L in km. -/
structure Fit where
  k : Nat
  l0 : Nat
  resid : Nat
  len : Rat

/-- The integer part of a rational that is not negative. -/
def floorNat (x : Rat) : Nat := x.floor.toNat

/-- The sum of products of two triples. -/
def dot3 (a b : Rat × Rat × Rat) : Rat := a.1 * b.1 + a.2.1 * b.2.1 + a.2.2 * b.2.2

/-- g(lambda_i) - g(lambda_D0) = P_i + lambda0^4 Q_i at the nominal wavelengths of D1 to D3: R112's model is linear in K and K lambda0^4. -/
def fitP : Rat × Rat × Rat := (1350 ^ 2 - 1342 ^ 2, 1358 ^ 2 - 1342 ^ 2, 1366 ^ 2 - 1342 ^ 2)
def fitQ : Rat × Rat × Rat := (1 / 1350 ^ 2 - 1 / 1342 ^ 2, 1 / 1358 ^ 2 - 1 / 1342 ^ 2, 1 / 1366 ^ 2 - 1 / 1342 ^ 2)

/-- The least-squares K in ps/nm^2 and K lambda0^4 for three differences in ps (R112, R113). -/
def leastSquares (d : Rat × Rat × Rat) : Rat × Rat :=
  let pp := dot3 fitP fitP
  let qq := dot3 fitQ fitQ
  let pq := dot3 fitP fitQ
  let det := pp * qq - pq * pq
  ((dot3 fitP d * qq - dot3 fitQ d * pq) / det, (dot3 fitQ d * pp - dot3 fitP d * pq) / det)

/-- The RMS of what a fit leaves of the differences, in 1/16 ps, rounded up (R113). -/
def fitResidual (d : Rat × Rat × Rat) (k m : Rat) : Nat :=
  let r : Rat × Rat × Rat := (d.1 - k * fitP.1 - m * fitQ.1, d.2.1 - k * fitP.2.1 - m * fitQ.2.1, d.2.2 - k * fitP.2.2 - m * fitQ.2.2)
  let n := floorNat (256 * dot3 r r / 3)
  if n = 0 then 0 else Nat.sqrt (n - 1) + 1

/-- lambda0 in 1/1024 nm from its fourth power in nm^4, to the nearest. -/
def lambda0 (x : Rat) : Nat := (Nat.sqrt (Nat.sqrt (floorNat (x * 2 ^ 44))) + 1) / 2

/-- The fit of a leg over the last `win` superframes (R113): K and lambda0 by least squares, then L. A fit without a positive K has no lambda0
and is not valid. (DESIGN CHOICE, log 28.) -/
def State.fit (s : State) (l : Leg) (win : Nat) : Fit :=
  let (a, b, c) := (s.windowMeans l win).getD (0, 0, 0)
  let d : Rat × Rat × Rat := (a / 16, b / 16, c / 16)
  let (kr, m) := leastSquares d
  let k := (roundRat (kr * 16777216)).toNat
  let l0 := if kr ≤ 0 ∨ m < 0 then 0 else lambda0 (m / kr)
  let u := s.rd Reg.TIME_LEG_STATUS_RWAVE l.n
  let rtt : Rat := (((s.rd Reg.TIME_LEG_TEQ l.n : Int) - s.eqdNow l : Int) : Rat) * 25 / 1152
  let mm : Rat := ((s.mRx l + s.mTx l u : Int) : Rat) / 16000
  let g := (k : Rat) / 16777216 * (gOf 1342 ((l0 : Rat) / 1024) + gOf (lamNom u) ((l0 : Rat) / 1024)) / 1000
  { k := k, l0 := l0, resid := fitResidual d kr m, len := (rtt - mm - g) / (979344 / 100) }

/-- The validity conditions of R113. -/
def State.fitOk (s : State) (l : Leg) (f : Fit) : Bool :=
  let k8 : Rat := 8 * (f.k : Rat) / 16777216
  f.resid ≤ s.rd Reg.TIME_LEG_FIT_CTL_RESID_MAX l.n && 1260 * 1024 ≤ f.l0 && f.l0 ≤ 1340 * 1024 &&
  decide (0 < f.len) && decide (f.len ≤ 81 / 2) && decide (f.len * (7 / 100) ≤ k8) && decide (k8 ≤ f.len * (1 / 10))

/-- Take a valid fit into service, or note an invalid one. -/
def State.adoptFit (s : State) (l : Leg) (f : Fit) : State :=
  if s.fitOk l f then
    let s := (((s.wr Reg.TIME_LEG_FIT_K f.k l.n).wr Reg.TIME_LEG_FIT_L0 f.l0 l.n).wr Reg.TIME_LEG_FIT_LEN (roundRat (f.len * 1000)).toNat l.n).wr
      Reg.TIME_LEG_FIT_RESID f.resid l.n
    let s := (s.wr Reg.TIME_LEG_STATUS_FIT_VALID 1 l.n).upd l fun g => { g with fitEver := true, fitBad := false }
    (s.putAsym l).event (Ev.timeLeg l 0)
  else ((s.wr Reg.TIME_LEG_STATUS_FIT_VALID 0 l.n).upd l fun g => { g with fitBad := true }).event (Ev.timeLeg l 1)

/-- D1 to D3 were in SYNC throughout the last `win` superframes and markers came. -/
def State.windowWhole (s : State) (l : Leg) (win : Nat) : Bool :=
  !((s.leg l).lastBad.any fun n => n < win) && (s.windowMeans l win).isSome

/-- DISPERSION_FIT: none is computed without markers of all four waves throughout the window, nor before T_EQ and EqD are held. (DEDUCED, log 29.) -/
def State.dispersionFit (s : State) (l : Leg) : State :=
  if !s.fwPresent || s.rd Reg.ACT_STATUS_STATE l.n != 5 || !s.isOn Reg.TIME_LEG_TEQ_TEQ_VALID l.n then s
  else if s.teqShort l then
    (((s.wr Reg.TIME_LEG_STATUS_FIT_VALID 0 l.n).upd l fun g => { g with fitBad := true }).event (Ev.timeLeg l 1)).settleTime
  else if !s.windowWhole l (s.fitWindow l) then (s.upd l fun g => { g with fitBad := true }).settleTime
  else (s.adoptFit l (s.fit l (s.fitWindow l))).settleTime

def execDispersionFit (l : Leg) (s : State) : Out := .next (s.dispersionFit l)

/-- The widening of R116 for the ranging wave. -/
def State.laserWidening (s : State) (l : Leg) : Nat :=
  let lam := s.lamU l (s.rd Reg.TIME_LEG_STATUS_RWAVE l.n)
  let l0 := s.fitL0 l
  let slope := s.fitK l * 2 * (lam - l0 * l0 / lam) * (1 + l0 * l0 / (lam * lam))
  (ceilRat ((if slope < 0 then -slope else slope) * (s.rd Reg.TIME_LEG_LASER_WORST l.n : Rat) / 1000 / 2 / 250)).toNat

def State.laserLow (s : State) (l : Leg) : State :=
  if s.isOn Reg.TIME_LEG_STATUS_LASER_LOW l.n then s else
  let w := s.laserWidening l
  (((s.wr Reg.TIME_LEG_STATUS_LASER_LOW 1 l.n).upd l fun g => { g with laserTerm := w }).event (Ev.timeLeg l 2)).settleBound

def execLaserLowConf (l : Leg) (s : State) : Out := .next (s.laserLow l)

/-- Confidence returns one second after telemetry is again current and in range. -/
def State.laserBack (s : State) (l : Leg) : State :=
  if !s.isOn Reg.TIME_LEG_STATUS_LASER_LOW l.n || (s.leg l).telemOut then s else
  (((s.wr Reg.TIME_LEG_STATUS_LASER_LOW 0 l.n).upd l fun g => { g with laserTerm := 0 }).followLaser l).settleBound

def execLaserConfRestored (l : Leg) (s : State) : Out := .next (s.laserBack l)

/-! ### Superframe work of firmware (R120, R435, R121) -/

/-- |theta| of the active leg is at most 1 ms. -/
def State.near (s : State) : Bool :=
  match (s.leg s.active).theta with
  | some t => absNat t ≤ 1000000 * 65536
  | none => false

/-- The rows of R120 that firmware evaluates each superframe. (DEDUCED, log 29.) -/
def State.evaluate (s : State) : State :=
  let u := s.legUsable s.active
  let done := s.isOn Reg.TIME_QUAL_STEP_DONE
  let known := (s.leg s.active).theta.isSome
  let s := if u then s else s.toHoldover
  match s.rd Reg.TIME_QUAL_QUALITY with
  | 0 =>
    if u && !done then (s.upd s.active fun g => { g with thetas := [] }).setQuality 1
    else if u && s.near then s.setQuality 1
    else if u && known then (s.setQuality 4).rebaseRequest
    else s
  | 1 =>
    if !u && !done then s.setQuality 0
    else if !done && u && s.stepReady s.active then s.initialStep
    else if s.time.lockRun ≥ max 1 (s.rd Reg.TIME_SERVO_CTL_LOCK_SF) then s.setQuality 2
    else s
  | 2 => if s.time.unlockRun ≥ max 1 (s.rd Reg.TIME_SERVO_CTL_UNLOCK_SF) then s.setQuality 1 else s
  | _ =>
    if u && s.near then s.setQuality 1
    else if u && known then (s.setQuality 4).rebaseRequest
    else s

/-- QUALITY_EVALUATE is firmware's: it stands still while firmware is absent (R25). -/
def execQualityEvaluate (s : State) : Out :=
  .next <| s.inDom .mgmt fun s => if s.fwPresent then (s.settleTime.evaluate).settleTime else s

/-- theta, in 2^-16 ns, that the limiter's ramp of 16,967 LSB per ms removes while INCR moves over a distance (R103, R435). -/
def rampTheta (dist : Nat) : Nat := dist * dist * 65536000000 / (2 * 16967 * incrNom)

/-- The time-optimal target (R435): full speed against theta until the ramp back to the frequency estimate removes what is left. -/
def slewTarget (theta : Int) (f incr lockQ : Nat) : Nat :=
  let away := if theta > 0 then f - incr else incr - f
  if absNat theta ≤ lockQ * 16384 ∨ (0 < away ∧ absNat theta ≤ rampTheta away) then f
  else if theta > 0 then incrMin else incrMax

/-- One superframe of a critically damped second-order loop of time constant TC seconds (R435): rate' = - 2 rate / TC - theta / TC^2. -/
def loopTarget (theta : Int) (f incr tc : Nat) : Nat :=
  let tc : Rat := (max 1 tc : Nat)
  let rate : Rat := ((incr : Int) - f : Int)
  ((incr : Int) + roundRat (- (2 * rate / (1000 * tc)) - (incrNom : Rat) * theta / (65536 * 1000000000 * 1000 * tc * tc))).toNat

/-- The frequency estimate of the active leg (R435). -/
def State.freqNow (s : State) : Nat := (Config.freqEstimate (s.leg s.active).thetas s.time.incr).toNat

/-- SERVO_UPDATE (R435), from the active leg's latest theta and its frequency estimate. (DEDUCED, log 29.) -/
def State.servo (s : State) : State :=
  if !s.fwPresent || !s.isOn Reg.TIME_CTL_SERVO_EN then s else
  let q := s.rd Reg.TIME_QUAL_QUALITY
  let u := s.legUsable s.active
  match q, (s.leg s.active).theta with
  | 1, some t => s.setTgt (slewTarget t s.freqNow s.time.incr (s.rd Reg.TIME_SERVO_CTL_LOCK_Q))
  | 2, some t => s.setTgt (loopTarget t s.freqNow s.time.incr (s.rd Reg.TIME_SERVO_TC))
  | 1, none => s
  | 2, none => s
  | 4, _ => if u then s.setTgt s.freqNow else s.setTgt s.time.incrHo
  | 0, _ => if u then s else s.setTgt s.time.incrHo
  | _, _ => s.setTgt s.time.incrHo

def execServoUpdate (s : State) : Out := .next (s.inDom .mgmt State.servo)

/-- INCR_HO = INCR_F / (1 + y_REF), y_REF in 10^-12. -/
def incrHoOf (f : Nat) (y : Int) : Nat := (roundRat ((f : Rat) * 1000000000000 / ((1000000000000 + y : Int) : Rat))).toNat

/-- INCR_HO and the uncertainty of its rate (R121). (DEDUCED, log 29.) -/
def State.incrHoUpdate (s : State) (f : Nat) (y : Int) (y0 : Nat) : State :=
  if !s.fwPresent || !(s.legUsable .a || s.legUsable .b) then s else
  let s := { s with time := { s.time with incrHo := incrHoOf f y, y0Next := y0 % 2 ^ 32 } }.wr Reg.TIME_REF_OFS (unsigned 32 y)
  let s := if absNat y > 40000000 then s.replaceRequest 4 else s
  if !s.legUsable s.active && s.isOn Reg.TIME_CTL_SERVO_EN && s.rd Reg.TIME_QUAL_QUALITY ≥ 3 then s.setTgt s.time.incrHo else s

def execIncrHoUpdate (incrF : BitVec 48) (yref : Int) (y0 : Nat) (s : State) : Out := .next (s.incrHoUpdate incrF.toNat yref y0)

/-- The rows of R120 that the own bound decides. -/
def State.holdoverJudge (s : State) : State :=
  let own := s.rd Reg.TIME_BOUND_OWN
  let s := if s.rd Reg.TIME_QUAL_QUALITY = 3 ∧ own > s.rd Reg.TIME_HO_CTL_LIMIT then s.setQuality 4 else s
  if s.rd Reg.TIME_QUAL_QUALITY = 4 ∧ own = 65535 ∧ s.legUsable s.active = false then s.setQuality 0 else s

/-- HOLDOVER_BOUND_ADVANCE: one millisecond of R122, and the rows of R120 that the bound decides. (DEDUCED, log 29.) -/
def State.holdoverTick (s : State) : State :=
  if !s.time.hoOn then s else
  ((s.incSat Reg.TIME_HO_ELAPSED).settleBound).holdoverJudge

def execHoldoverBoundAdvance (s : State) : Out := .next (s.inDom .time State.holdoverTick)

/-! ### Voting (R101) -/

def median (a b c : Nat) : Nat := max (min a b) (min (max a b) c)

/-- What three copies give: the voted value, the copy that disagreed (if one), the spread when none agree. -/
def vote (a b c : Nat) : Nat × Option Nat × Option Nat :=
  if a = b ∧ b = c then (a, none, none)
  else if a = b then (a, some 2, none)
  else if a = c then (a, some 1, none)
  else if b = c then (b, some 0, none)
  else (median a b c, none, some (max a (max b c) - min a (min b c)))

/-- Count what one vote found; `base` tells the counter's copies from INCR's in the record of the last second. Each spread is a term added to
the bound (R117). -/
def State.voteResult (s : State) (base : Nat) (odd fail : Option Nat) : State :=
  let s := match odd with
    | none => s
    | some k =>
      let log := (base + k, s.runMs) :: s.time.voteLog.filter fun e => s.runMs < e.2 + 1000
      let s := { s with time := { s.time with voteLog := log } }
      let s := (s.inc Reg.TIME_CNT_VOTE_CORR).event (Ev.time 9)
      if (log.filter fun e => e.1 == base + k).length ≥ max 1 (s.rd Reg.TIME_VOTE_CTL_PERSIST) then
        ({ s with time := { s.time with voteLog := log.filter fun e => e.1 != base + k } }.event (Ev.time 10)).replaceRequest 2
      else s
  match fail with
  | none => s
  | some d =>
    let units := (d + 2 ^ 38 - 1) / 2 ^ 38
    let seen := s.time.widened - s.time.widened / 4 % 2 * 4
    let s := if s.time.hoOn then { s with time := { s.time with hoVoter := s.time.hoVoter + units, hoSeen := false, widened := seen } }
      else { s with time := { s.time with voter := s.time.voter + units, widened := seen } }
    (((s.inc Reg.TIME_CNT_VOTE_FAIL).wr Reg.TIME_STATUS_VOTE_FAIL 1).event (Ev.time 11)).settleBound

/-- TIME_VOTE: the three copies of the counter (2^-40 ns) and of INCR as the voter finds them. -/
def State.timeVote (s : State) (c0 c1 c2 i0 i1 i2 : Nat) : State :=
  let (v, odd, fail) := vote c0 c1 c2
  let (i, iodd, ifail) := vote i0 i1 i2
  let s := { s with time := { s.time with now40 := v % counterMod, incr := i } }
  (s.voteResult 0 odd fail).voteResult 3 iodd ifail

def execTimeVote (c0 c1 c2 : Nat) (i0 i1 i2 : BitVec 48) (s : State) : Out :=
  .next <| s.inDom .time fun s => s.timeVote c0 c1 c2 i0.toNat i1.toNat i2.toNat

/-! ### Snapshots and staged writes (R126 to R128) -/

/-- TIME_SNAP into the agent's own set. (DEDUCED, log 31.) -/
def State.snap (s : State) (ag : Agent) : State :=
  let q := s.rd Reg.TIME_QUAL_QUALITY + 8 * s.rd Reg.TIME_QUAL_STEP_DONE + 65536 * s.rd Reg.TIME_QUAL_GEN
  let b := s.rd Reg.TIME_BOUND + 65536 * s.rd Reg.TIME_BOUND_OWN
  ((((((((s.wrA ag Reg.TIME_SNAP_SEC_LO s.secNow).wrA ag Reg.TIME_SNAP_SEC_HI (s.secNow / 2 ^ 32)).wrA ag Reg.TIME_SNAP_SEC_HI_SNAP_SEQ
    (s.rdA ag Reg.TIME_SNAP_SEC_HI_SNAP_SEQ + 1)).wrA ag Reg.TIME_SNAP_NS (s.nsNow % 1000000000)).wrA ag Reg.TIME_SNAP_FRAC
    (s.time.now40 / 256)).wrA ag Reg.TIME_SNAP_INCR_LO s.time.incr).wrA ag Reg.TIME_SNAP_INCR_HI (s.time.incr / 2 ^ 32)).wrA ag
    Reg.TIME_SNAP_QUAL q).wrA ag Reg.TIME_SNAP_BOUND b

/-- A refused apply. -/
def State.applyRefuse (s : State) (status : Nat) : State :=
  ((s.wr Reg.TIME_STATUS_APPLY_RESULT status).inc Reg.TIME_CNT_APPLY_REFUSED).event (Ev.time 5)

/-- The refusals of R128 that depend on the selection and the state of the moment. -/
def State.selRefused (s : State) (sel : Nat) : Bool :=
  (bit sel 0 == 1 && s.isOn Reg.TIME_CTL_SERVO_EN) ||
  (bit sel 2 == 1 && (!s.legUsable s.active || (s.leg s.active).theta.isNone))

/-- TIME_APPLY: arm the staged write, or refuse it. (DEDUCED, log 31.) -/
def State.timeApply (s : State) (ag : Agent) (mode : Nat) : State :=
  let s := s.wr Reg.TIME_CTL_APPLY_MODE mode
  if s.isOn Reg.TIME_STATUS_APPLY_PENDING then s.applyRefuse St.busy else
  let sel := s.rdA ag Reg.TIME_STAGE_SEL
  let tgt := s.rdA ag Reg.TIME_APPLY_AT_LO + 2 ^ 32 * s.rdA ag Reg.TIME_APPLY_AT_HI
  let pps := mode % 4 ≠ 0
  if pps = false ∧ (tgt + 2 ^ 40 - s.nsNow % 2 ^ 40) % 2 ^ 40 > 2 ^ 39 then s.applyRefuse St.outOfWindow
  else if s.selRefused sel || (bit sel 2 == 1 && bit sel 3 == 1) || s.rdA ag Reg.TIME_STAGE_NS ≥ 1000000000 then s.applyRefuse St.invalid
  else
    let target := if pps then s.time.run40 + 2 * incrMin else tgt
    { s with time := { s.time with arm := some { fw := ag.isFw, pps := pps, sel := sel, target := target } } }.wr
      Reg.TIME_STATUS_APPLY_PENDING 1

def execTimeApply (ag : Agent) (mode : Nat) (s : State) : Out := .next <| s.reg ag fun s => s.timeApply ag mode

/-- End a pending apply. -/
def State.disarmApply (s : State) : State := { s with time := { s.time with arm := none } }.wr Reg.TIME_STATUS_APPLY_PENDING 0

def State.timeCancel (s : State) : State := if s.time.arm.isSome then s.disarmApply.applyRefuse St.cancelled else s

def execTimeCancel (ag : Agent) (s : State) : Out := .next <| s.reg ag State.timeCancel

/-- What a selection does at the apply tick (R127). -/
def State.applyItems (s : State) (ag : Agent) (sel : Nat) : State :=
  let s := if bit sel 0 = 1 then s.setTgt (s.rdA ag Reg.TIME_STAGE_INCR_LO + 2 ^ 32 * s.rdA ag Reg.TIME_STAGE_INCR_HI) else s
  let s := if bit sel 1 = 1 then s.applyTrims else s
  if bit sel 2 = 1 then s.rebase (s.lessTheta ((s.leg s.active).theta.getD 0))
  else if bit sel 3 = 1 then
    s.rebase (((s.rdA ag Reg.TIME_STAGE_SEC_LO + 2 ^ 32 * s.rdA ag Reg.TIME_STAGE_SEC_HI) * 1000000000 + s.rdA ag Reg.TIME_STAGE_NS) * 2 ^ 40 +
      256 * s.rdA ag Reg.TIME_STAGE_FRAC)
  else s

/-- The instant of an armed apply has come (R127); what R128 refuses of its selection is judged again with the state of that tick.
(DEDUCED, log 8; DEDUCED, log 31.) -/
def State.applyTick (s : State) : State :=
  match s.time.arm with
  | none => s
  | some a =>
    if !a.due then s else
    let s := s.disarmApply
    if s.selRefused a.sel then s.applyRefuse St.invalid else
    (((s.applyItems (if a.fw then .fw 0 else .pf) a.sel).wr Reg.TIME_STATUS_APPLY_RESULT St.ok).inc Reg.TIME_CNT_APPLY_DONE).event (Ev.time 4)

def execApplyTick (s : State) : Out := .next (s.inDom .time State.applyTick)

/-- A snapshot, a channel's compare and a capture in the tick of an apply take the values after it (R126, R131, R141). -/
def execTimeSnap (ag : Agent) (s : State) : Out := .next <| s.reg ag fun s => s.applyTick.snap ag

def execTevFire (n : Nat) (s : State) : Out := .next <| s.inDom .time fun s => s.applyTick.tevFire n

def execTcapEdge (i : Nat) (rising : Bool) (widthPs : Nat) (wide : Bool) (fine : Nat) (s : State) : Out :=
  .next <| s.inDom .time fun s => s.applyTick.tcapEdge i rising widthPs wide fine

/-- The staging field at an offset of the TIME window, or a TRIM field with its leg and instance. -/
def stageRow (off : Nat) : Option Row :=
  match off with
  | 0x40 => some Reg.TIME_STAGE_SEC_LO
  | 0x44 => some Reg.TIME_STAGE_SEC_HI
  | 0x48 => some Reg.TIME_STAGE_NS
  | 0x4C => some Reg.TIME_STAGE_FRAC
  | 0x50 => some Reg.TIME_STAGE_INCR_LO
  | 0x54 => some Reg.TIME_STAGE_INCR_HI
  | 0x58 => some Reg.TIME_APPLY_AT_LO
  | 0x5C => some Reg.TIME_APPLY_AT_HI
  | 0x60 => some Reg.TIME_STAGE_SEL
  | _ => none

def trimRow (off : Nat) : Option (Row × Nat × Nat) :=
  let l := if off < 0x200 then 0 else 1
  match off - 0x100 * (l + 1) with
  | 0x64 => some (Reg.TIME_LEG_RX_TRIM, l, 0)
  | 0x6C => some (Reg.TIME_LEG_TXU_TRIM, l, 0)
  | 0x74 => some (Reg.TIME_LEG_TXU_TRIM, l, 1)
  | 0x7C => some (Reg.TIME_LEG_SKEW_TRIM, l, 0)
  | 0x84 => some (Reg.TIME_LEG_SKEW_TRIM, l, 1)
  | 0x8C => some (Reg.TIME_LEG_SKEW_TRIM, l, 2)
  | _ => none

/-- TIME_STAGE_WRITE: taken, or discarded with STAGE_WERR while an apply is pending. -/
def State.stageWrite (s : State) (ag : Agent) (off v : Nat) : State :=
  match stageRow off with
  | some R => if s.isOn Reg.TIME_STATUS_APPLY_PENDING then s.wr Reg.TIME_STATUS_STAGE_WERR 1 else s.wrA ag R v
  | none =>
    if off < 0x100 then s else
    match trimRow off with
    | some (R, l, i) => if s.isOn Reg.TIME_STATUS_APPLY_PENDING then s.wr Reg.TIME_STATUS_STAGE_WERR 1 else s.wr R v l i
    | none => s

def execTimeStageWrite (ag : Agent) (off : Nat) (v : BitVec 32) (s : State) : Out := .next <| s.reg ag fun s => s.stageWrite ag off v.toNat

end Sys2Proof.Machine
end

