-- ==== Sys2Proof/Machine/Link.lean ====
section
/-! DEFINITION. The PCIe link, functions and their resets: link loss, hold and resume, FLR, configuration space, unsupported requests
(11_host_interface_and_rings.md, R278 to R281, R304 to R307). -/

namespace Sys2Proof.Machine

/-! ### Configuration space -/

/-- Clear a one-bit field in every instance where it is set. -/
def State.clearSet (s : State) (R : Row) : State := (s.owned R 1).foldl (fun s i => s.wr R 0 0 i) s

/-- Clear VF Enable. -/
def State.vfsOff (s : State) : State :=
  ((s.owned Reg.HIF_FN_STATUS_ENABLED 1).filter fun f => f != 0).foldl (fun s f => s.wr Reg.HIF_FN_STATUS_ENABLED 0 0 f) s

/-- Every function's configuration space returns to its reset state. -/
def State.configReset (s : State) : State :=
  let s := (s.clearSet Reg.HIF_FN_STATUS_BME).vfsOff
  let s := { s with tev := { s.tev with ptmOn := false } }
  let s := { s with msi := {} }
  { s with host := { s.host with msixEn := [], relaxed := [], cfg := [] } }

/-! ### Dropping held state (R306) -/

/-- Unwind the earliest reserved burst of each leg that holds frames of some queue, and those after it. -/
def State.unwindIf (s : State) (p : Nat → Bool) (cause : Nat) : State :=
  [Leg.a, Leg.b].foldl (fun s l => s.unwindWhere l (fun b => b.frames.any fun f => p f.q) cause) s

/-- Disable a transmit queue and drop what it holds; the frames of committed bursts are still sent, without a completion. -/
def State.txDrop (s : State) (q : Nat) : State :=
  let s := (((s.wr Reg.HIF_TX_CTL_EN 0 0 q).wr Reg.HIF_TX_CTL_FLUSH_BUSY 0 0 q).wr Reg.HIF_TX_HELD 0 0 q).dropReads 0 q
  s.setTxq q fun x => { x with frames := [], part := [], fetchIdx := s.rd Reg.HIF_TX_IDX_PROD 0 q, completed := x.posted, flushTo := none,
                               disabling := false }

def State.cqDrop (s : State) (c : Nat) : State := (s.wr Reg.HIF_CQ_CTL_EN 0 0 c).setCq c fun r => { r with waiting := [] }
def State.eqDrop (s : State) (e : Nat) : State := (s.wr Reg.HIF_EQ_CTL_EN 0 0 e).setEq e fun r => { r with waiting := [] }

/-- Disable the rings of the functions that `p` selects: reserved bursts unwound, held descriptors, posts and completions dropped. -/
def State.dropRings (s : State) (p : Nat → Bool) : State :=
  let s := s.unwindIf (fun q => p (s.txOwner q)) 3
  let s := ((s.owned Reg.HIF_TX_CTL_EN 1).filter fun q => p (s.txOwner q)).foldl (fun s q => s.txDrop q) s
  let s := ((s.owned Reg.HIF_RX_CTL_EN 1).filter fun r => p (s.rd Reg.HIF_RX_CTL_OWNER 0 r)).foldl (fun s r => s.rxDrop r) s
  let s := ((s.owned Reg.HIF_CQ_CTL_EN 1).filter fun c => p (s.rd Reg.HIF_CQ_CTL_OWNER 0 c)).foldl (fun s c => s.cqDrop c) s
  let s := ((s.owned Reg.HIF_EQ_CTL_EN 1).filter fun e => p (s.rd Reg.HIF_EQ_CTL_OWNER 0 e)).foldl (fun s e => s.eqDrop e) s
  { s with host := { s.host with reads := s.host.reads.filter fun r => !p (s.ringOwner (readKind r) r.ring) } }

/-- All held state: every ring is disabled, the admin rings among them. -/
def State.dropHeld (s : State) : State :=
  let s := ((s.dropRings fun _ => true).wr Reg.ADM_SQ_CTL_SQ_EN 0).wr Reg.ADM_CQ_CTL_CQ_EN 0
  { s with adm := { s.adm with cqWait := [] } }

/-- A PF FLR, PERST# or an expired hold ends every long operation as CANCEL would, with no entry written (R332). -/
def State.quietOps (s : State) : State :=
  s.adm.ops.foldl (fun s (i, op) =>
    let s := { s with adm := { s.adm with ops := Tab.put { params := [] } i { op with quiet := true, suspCid := none, cancelCid := none } s.adm.ops } }
    let keep := if s.rd Reg.ADM_LOP0_OPCODE 0 i = 0x43 then op.passed else op.committed
    if keep then s else s.wr Reg.ADM_LOP0_STATE 4 0 i) s

/-! ### Link loss (R280, R304) -/

/-- Everything that going to DL_Down does, and that a link outside service does. -/
def State.linkLost (s : State) : State :=
  let s := (s.wr Reg.HIF_LINK_USABLE 0).wr Reg.HIF_LINK_HOLD 1
  let s := s.configReset
  let s := { s with host := { s.host with reads := [], buf := s.host.buf.map fun (b : BufFrame) => { b with replayed := true } } }
  let s := s.laLost.mbxLinkLost
  let s := if s.isOn Reg.TEV_PTM_STATUS_BUSY then s.ptmEnd St.hostLinkLost else s
  s.pfEvent 0

/-- LINK_DOWN. -/
def State.linkDown (s : State) : State :=
  if !s.isOn Reg.HIF_LINK_UP then s else ((s.wr Reg.HIF_LINK_UP 0).inc Reg.HIF_CNT_LINK_DOWNS).linkLost

def execLinkDown (s : State) : Out := .next s.linkDown

/-- R278's rates and widths in service. -/
def linkInService (rate width : Nat) : Bool := (rate == 4 || rate == 5 || rate == 6) && (width == 8 || width == 16)

/-- LINK_TRAINED. -/
def State.linkTrained (s : State) (rate width : Nat) : State :=
  let was := s.isOn Reg.HIF_LINK_USABLE
  let s := ((s.wr Reg.HIF_LINK_RATE rate).wr Reg.HIF_LINK_WIDTH width).wr Reg.HIF_LINK_UP 1
  let s := s.wr Reg.HIF_FN_STATUS_ENABLED 1 0 0
  if linkInService rate width then s.wr Reg.HIF_LINK_USABLE 1
  else
    let s := (s.wr Reg.HIF_LINK_USABLE 0).pfEvent 2 (rate % 16 + 16 * (width % 32))
    if was then s.linkLost else s

def execLinkTrained (rate width : Nat) (s : State) : Out := .next <| s.inDom .pcie fun s => s.linkTrained rate width

/-! ### Resume (R305) -/

/-- A receive entry. -/
def Cpl.isRx (x : Cpl) : Bool := bits (leNat (slice x.body 2 1)) 2 1 == 0

/-- A receive entry with REPLAYED set. -/
def Cpl.replay (x : Cpl) : Cpl :=
  if x.isRx then { x with body := x.body.take 2 ++ [BitVec.ofNat 8 (Nat.lor (leNat (slice x.body 2 1)) 64)] ++ x.body.drop 3 } else x

/-- Receive data whose entry has not been written goes out again, and the entry says so. -/
def State.replayRx (s : State) (c : Nat) : State :=
  let r := s.cq c
  let s := r.waiting.foldl (fun s x => if x.isRx then (x.data.foldl State.emit s).inc Reg.HIF_CNT_REPLAYED else s) s
  s.setCq c fun r => { r with waiting := r.waiting.map Cpl.replay }

/-- Write the first n of a completion ring's waiting entries, as far as it has room. -/
def State.cqFlush (s : State) (c n : Nat) : State := (List.range n).foldl (fun s _ => s.cqWrite c) s

/-- Write an event ring's held entries. -/
def State.eqFlush (s : State) (e : Nat) : State :=
  let w := (s.eq e).waiting
  w.foldl (fun s x => s.eqWrite e x.body) (s.setEq e fun r => { r with waiting := [] })

/-- The enabled completion rings of a function. -/
def State.cqsOf (s : State) (f : Nat) : List Nat :=
  (s.host.cqs.map Prod.fst).filter fun c => s.isOn Reg.HIF_CQ_CTL_EN 0 c && s.rd Reg.HIF_CQ_CTL_OWNER 0 c == f

/-- Step 1 of R305 for a completion ring: the entries that are not of receive frames go first, and are written. -/
def State.cqResume (s : State) (c : Nat) : State :=
  let held := (s.cq c).waiting.filter fun x => !x.isRx
  (s.setCq c fun r => { r with waiting := held ++ r.waiting.filter Cpl.isRx }).cqFlush c held.length

/-- Step 1 of R305 for a function: held completions other than receive entries, held events and admin completions are written. -/
def State.resumeHeld (s : State) (f : Nat) : State :=
  if !s.canDma f then s else
  let es := (s.host.eqs.map Prod.fst).filter fun e => s.isOn Reg.HIF_EQ_CTL_EN 0 e && s.rd Reg.HIF_EQ_CTL_OWNER 0 e == f
  let s := (s.cqsOf f).foldl State.cqResume s
  let s := es.foldl State.eqFlush s
  if f = 0 then s.admFlush s.adm.cqWait.length else s

/-- Step 2: receive frames whose completion was not issued are written again, then their entries. -/
def State.resumeRx (s : State) (f : Nat) : State :=
  if !s.canDma f then s else (s.cqsOf f).foldl (fun s c => (s.replayRx c).cqFlush c (s.cq c).waiting.length) s

/-- A function's rings go on; what was abandoned is fetched again by the fetches that follow (step 3). -/
def State.fnResume (s : State) (f : Nat) : State := (s.resumeHeld f).resumeRx f

/-- RESUME: functions without Bus Master Enable keep their hold until it is set. -/
def State.resume (s : State) : State :=
  if !s.isOn Reg.HIF_LINK_HOLD || !s.isOn Reg.HIF_LINK_UP || !s.isOn Reg.HIF_LINK_USABLE then s else
  let s := s.wr Reg.HIF_LINK_HOLD 0
  let s := (List.range 129).foldl (fun s f => s.wr Reg.HIF_FN_STATUS_HOLD (1 - s.rd Reg.HIF_FN_STATUS_BME 0 f) 0 f) s
  let s := (List.range 129).foldl State.resumeHeld s
  let s := (List.range 129).foldl State.resumeRx s
  s.pfEvent 1

def execResume (ag : Agent) (s : State) : Out := .next <| s.reg ag fun s => s.resume

/-- DISCARD ends the hold and drops what it held. -/
def State.discard (s : State) : State :=
  if s.isOn Reg.HIF_LINK_HOLD then (s.wr Reg.HIF_LINK_HOLD 0).dropHeld else s

def execDiscard (ag : Agent) (s : State) : Out := .next <| s.reg ag fun s => s.discard

/-- LINK_HOLD_EXPIRED (R306). -/
def State.holdExpired (s : State) : State :=
  if s.isOn Reg.HIF_LINK_HOLD then ((s.wr Reg.HIF_LINK_HOLD 0).dropHeld.quietOps).pfEvent 7 else s

def execLinkHoldExpired (s : State) : Out := .next s.holdExpired

/-- BME_SET: Bus Master Enable of a function is set; it resumes if it was waiting. -/
def State.bmeSet (s : State) (f : Nat) : State :=
  if s.isOn Reg.HIF_FN_STATUS_BME 0 f || f > 128 then s else
  let held := s.isOn Reg.HIF_FN_STATUS_HOLD 0 f
  let s := ((s.wr Reg.HIF_FN_STATUS_BME 1 0 f).wr Reg.HIF_FN_STATUS_HOLD 0 0 f).pfEvent 14 f
  if held then s.fnResume f else s

def execBmeSet (f : Nat) (s : State) : Out := .next <| s.inDom .pcie fun s => s.bmeSet f

/-! ### Function-level reset (R307) -/

/-- The configuration of one function returns to its reset state. -/
def State.fnConfigReset (s : State) (f : Nat) : State :=
  let s := (s.wr Reg.HIF_FN_STATUS_BME 0 0 f).msixReset f
  { s with host := { s.host with msixEn := Tab.put 0 f 0 s.host.msixEn, relaxed := Tab.put 0 f 0 s.host.relaxed,
                                 cfg := s.host.cfg.filter fun p => p.1 / 16 != f } }

/-- VF_FLR. -/
def State.vfFlr (s : State) (f : Nat) : State :=
  if f = 0 || f > 128 then s else
  let s := (s.wr Reg.HIF_FN_STATUS_FLR_BUSY 1 0 f).pfEvent 12 f
  let s := (s.dropRings fun o => o == f).eraseLookaside fun o => o == f
  let h := s.host
  let s := { s with host := { h with errs := Tab.put [] f [] h.errs, errPop := Tab.put [] f [] h.errPop, rsel := Tab.put 0 f 0 h.rsel } }
  (s.mbxFlr f).fnConfigReset f

def execVfFlr (f : Nat) (s : State) : Out := .next <| s.inDom .pcie fun s => s.vfFlr f

/-- PF_FLR: VF Enable clears and R306 applies to every function. -/
def State.pfFlr (s : State) : State :=
  let s := (s.wr Reg.HIF_FN_STATUS_FLR_BUSY 1 0 0).pfEvent 12 0
  let s := (s.dropHeld.quietOps).eraseLookaside fun _ => true
  let s := (List.range 129).foldl (fun s f => (s.mbxFlr f).fnConfigReset f) s
  { s.vfsOff with tev := { s.tev with ptmOn := false } }

def execPfFlr (s : State) : Out := .next <| s.inDom .pcie fun s => s.pfFlr

def State.flrDone (s : State) (f : Nat) : State :=
  if s.isOn Reg.HIF_FN_STATUS_FLR_BUSY 0 f then ((s.wr Reg.HIF_FN_STATUS_FLR_BUSY 0 0 f).inc Reg.HIF_CNT_FLRS).pfEvent 13 f else s

def execFlrDone (f : Nat) (s : State) : Out := .next <| s.inDom .pcie fun s => s.flrDone f

/-! ### Configuration writes and unsupported requests (R278, R279, R281, R313) -/

/-- VF Enable: written on the PF it enables the first v VFs and no others; on a VF it is that VF's own. -/
def State.vfEnable (s : State) (f v : Nat) : State :=
  if f = 0 then (List.range 128).foldl (fun s k => s.wr Reg.HIF_FN_STATUS_ENABLED (b2n (k < v)) 0 (k + 1)) s
  else s.wr Reg.HIF_FN_STATUS_ENABLED (b2n (v ≠ 0)) 0 f

/-- A write of one item; those of Device Control are the PF's, an AER status write clears the bits written 1. (PRESUMED, log 67;
PRESUMED, log 68.) -/
def State.configWrite (s : State) (f : Nat) (item : ConfigItem) (v : Nat) : State :=
  if f > 128 then s else
  match item with
  | .busMasterEnable =>
    if v ≠ 0 then s.bmeSet f
    else if s.isOn Reg.HIF_FN_STATUS_BME 0 f then ((s.wr Reg.HIF_FN_STATUS_BME 0 0 f).pfEvent 14 f).pfEvent 15 f
    else s
  | .vfEnable =>
    let t := s.vfEnable f v
    if t = s then s else t.pfEvent 14 f
  | .msixEnable =>
    if Tab.get 0 f s.host.msixEn = b2n (v ≠ 0) then s
    else ({ s with host := { s.host with msixEn := Tab.put 0 f (b2n (v ≠ 0)) s.host.msixEn } }.msixFlushAll f).pfEvent 14 f
  | .relaxedOrdering => { s with host := { s.host with relaxed := Tab.put 0 f (b2n (v ≠ 0)) s.host.relaxed } }
  | .ptmEnable => if f = 0 then { s with tev := { s.tev with ptmOn := v ≠ 0 } } else s
  | .aerCorr => if f = 0 then { s with host := { s.host with aerC := Nat.land s.host.aerC (2 ^ 32 - 1 - v % 2 ^ 32) } } else s
  | .aerUncorr => if f = 0 then { s with host := { s.host with aerU := Nat.land s.host.aerU (2 ^ 32 - 1 - v % 2 ^ 32) } } else s
  | .maxPayload => if f = 0 then s.setCfg 0 Cfg.maxPayload (v % 8) else s
  | .maxReadRequest => if f = 0 then s.setCfg 0 Cfg.maxRead (v % 8) else s
  | .completionTimeout => if f = 0 then s.setCfg 0 Cfg.cplTimeout (v % 32) else s
  | .powerState => if v % 4 = 0 ∨ v % 4 = 3 then s.setCfg f Cfg.d3hot (v % 4) else s
  | .aspm => if f = 0 then s.setCfg 0 Cfg.aspm (v % 4) else s
  | .ltrEnable => if f = 0 then s.setCfg 0 Cfg.ltr (v % 2) else s
  | .tag10Enable => if f = 0 then s.setCfg 0 Cfg.tag10 (v % 2) else s
  | .tag14Enable => if f = 0 then s.setCfg 0 Cfg.tag14 (v % 2) else s
  | .msixFunctionMask => (s.setCfg f Cfg.fnMask (v % 2)).msixFlushAll f

def execConfigurationWrite (f : Nat) (item : ConfigItem) (v : Nat) (s : State) : Out :=
  .next <| s.inDom .pcie fun s => (s.fcTake 0 0 1 1).configWrite f item v

/-- UNSUPPORTED_REQUEST: answered as an unsupported request, whatever the feature; nothing else changes. -/
def execUnsupportedRequest (f : Nat) (_kind : Unsupported) (s : State) : Out :=
  .next <| s.inDom .pcie fun s => (s.fcTake 0 0 1 0).emit (.unsupported f)

end Sys2Proof.Machine
end

