-- ==== Sys2Proof/Machine/Classifier.lean ====
section
/-! DEFINITION. The stream table, the trees and profiles, versions and commits: their command interfaces and their effects
(07_downstream_classification.md, R180 to R194, R201 to R206). -/

namespace Sys2Proof.Machine

/-! ### Stream entries (R180) and their views -/

def State.stream (s : State) (idx : Nat) : Nat := Tab.get 0 idx s.cls.streams

/-- Views of an entry: current, draining, staged (R187). -/
def State.streamDrain (s : State) (idx : Nat) : Nat :=
  match Tab.get 0 idx s.cls.before with
  | 0 => s.stream idx
  | e + 1 => e

def State.streamStaged (s : State) (idx : Nat) : Nat :=
  match Tab.get 0 idx s.cls.staged with
  | 0 => s.stream idx
  | e + 1 => e

def State.streamView (s : State) (view idx : Nat) : Nat :=
  match view with
  | 1 => s.streamDrain idx
  | 2 => s.streamStaged idx
  | _ => s.stream idx

def State.groupSize (s : State) (g : Nat) : Nat := 2 ^ min 6 (s.rd Reg.STBL_RGT_SIZE_LOG2 0 g)

/-- The refusals of R182. -/
def State.entryRefused (s : State) (e : Nat) : Bool :=
  bits e 9 2 > 128 || bits e 42 39 > 4 ||
  ((bits e 45 44 == 1 || bits e 45 44 == 3) && bits e 51 46 ≥ s.groupSize (bits e 19 10)) ||
  bits e 31 29 != 0 || bits e 63 54 != 0 || bits e 95 79 != 0 || bits e 127 109 != 0

/-! ### LEARN's pending bits (R184) -/

def State.unlearn (s : State) (sid : Nat) : State :=
  { s with cls := { s.cls with learnPend := s.cls.learnPend.filter fun x => x != sid } }

def execLearnHoldExpiry (sid : Nat) (s : State) : Out := .next (s.unlearn sid)

def State.rearm (s : State) : State := { s with cls := { s.cls with learnPend := [] } }

def execLearnRearm (ag : Agent) (s : State) : Out := .next <| s.gated ag State.rearm

/-! ### The STBL_CMD interface (R187 to R189) -/

/-- Four 32-bit words of an agent's own registers as one number, word 0 lowest. -/
def State.rdWords (s : State) (ag : Agent) (R : Row) : Nat :=
  (List.range 4).foldr (fun i n => s.rdA ag R 0 i + 2 ^ 32 * n) 0

def State.wrWords (s : State) (ag : Agent) (R : Row) (v : Nat) : State :=
  (List.range 4).foldl (fun s i => s.wrA ag R (bits v (32 * i + 31) (32 * i)) 0 i) s

def State.holdStbl (s : State) (ag : Agent) (st : Option Nat) : State :=
  if ag.isFw then { s with cls := { s.cls with stblStFw := st } } else { s with cls := { s.cls with stblSt := st } }

/-- Start a stream command; one written while BUSY is refused. `act` gives the status reported when it completes. (DEDUCED, log 14.) -/
def State.stblCmd (s : State) (ag : Agent) (act : State → Nat × State) : State :=
  if s.rdA ag Reg.STBL_CMD_BUSY ≠ 0 then s.wrA ag Reg.STBL_CMD_STATUS St.busy else
  let (st, s) := if s.fwPresent then act s else (St.busyRestarting, s)
  (s.wrA ag Reg.STBL_CMD_BUSY 1).holdStbl ag (some st)

def State.stblRead (s : State) (ag : Agent) (view : Nat) : State := s.stblCmd ag fun s =>
    (St.ok, s.wrWords ag Reg.STBL_DATA (s.streamView view (s.rdA ag Reg.STBL_IDX)))

def execStblRead (ag : Agent) (view : Nat) (s : State) : Out := .next <| s.gated ag fun s => s.stblRead ag view

/-- Add a change to the open group (R189). -/
def State.stageStream (s : State) (idx e : Nat) : Nat × State :=
  if s.rd Reg.CLS_COMMIT_STATUS_GROUP ≠ 1 then (St.invalid, s)
  else if Tab.get 0 idx s.cls.staged = 0 ∧ s.rd Reg.CLS_STAGE_CNT_STAGED ≥ 4096 then (St.noResources, s.event (Ev.cls 19))
  else
    let s := if Tab.get 0 idx s.cls.staged = 0 then s.inc Reg.CLS_STAGE_CNT_STAGED else s
    (St.ok, { s with cls := { s.cls with staged := Tab.put 0 idx (e + 1) s.cls.staged } })

/-- An immediate insertion (R188). -/
def State.insertStream (s : State) (idx e : Nat) : Nat × State :=
  if bit (s.stream idx) 0 = 1 ∨ bit (s.streamDrain idx) 0 = 1 ∨ Tab.get 0 idx s.cls.staged ≠ 0 then (St.versionMismatch, s)
  else (St.ok, ({ s with cls := { s.cls with streams := Tab.put 0 idx e s.cls.streams, before := Tab.put 0 idx 0 s.cls.before } }).unlearn idx)

def State.putStream (s : State) (stage : Bool) (idx e : Nat) : Nat × State :=
  if stage then s.stageStream idx e else s.insertStream idx e

def State.stblWrite (s : State) (ag : Agent) (stage : Bool) : Nat × State :=
  let e := s.rdWords ag Reg.STBL_DATA
  if stage && s.rd Reg.CLS_COMMIT_STATUS_GROUP != 1 then (St.invalid, s)
  else if s.entryRefused e then (St.invalid, s) else s.putStream stage (s.rdA ag Reg.STBL_IDX) e

def execStblWrite (ag : Agent) (stage : Bool) (s : State) : Out :=
  .next <| s.gated ag fun s => s.stblCmd ag fun s => s.stblWrite ag stage

/-- INVALIDATE takes effect only through a group. -/
def State.stblInvalidate (s : State) (ag : Agent) (stage : Bool) : Nat × State :=
  if stage then s.stageStream (s.rdA ag Reg.STBL_IDX) 0 else (St.versionMismatch, s)

def execStblInvalidate (ag : Agent) (stage : Bool) (s : State) : Out :=
  .next <| s.gated ag fun s => s.stblCmd ag fun s => s.stblInvalidate ag stage

/-- COMPARE_AND_WRITE: the entry compared is the staged one when STAGE = 1. -/
def State.stblCompare (s : State) (ag : Agent) (stage : Bool) : Nat × State :=
  let idx := s.rdA ag Reg.STBL_IDX
  let e := s.rdWords ag Reg.STBL_DATA
  let old := s.streamView (if stage then 2 else 0) idx
  if stage && s.rd Reg.CLS_COMMIT_STATUS_GROUP != 1 then (St.invalid, s)
  else if s.entryRefused e then (St.invalid, s)
  else if old ≠ s.rdWords ag Reg.STBL_CMP then (St.notFound, s.wrWords ag Reg.STBL_DATA old)
  else s.putStream stage idx e

def execCompareAndWrite (ag : Agent) (stage : Bool) (s : State) : Out :=
  .next <| s.gated ag fun s => s.stblCmd ag fun s => s.stblCompare ag stage

/-- STBL_CMD_DONE: BUSY clears and the status stands. -/
def State.stblDone (s : State) (ag : Agent) : State :=
  match (if ag.isFw then s.cls.stblStFw else s.cls.stblSt) with
  | none => s
  | some st => (((s.holdStbl ag none).wrA ag Reg.STBL_CMD_BUSY 0).wrA ag Reg.STBL_CMD_STATUS st).event (Ev.cls 2)

def execStblCmdDone (ag : Agent) (s : State) : Out := .next <| s.reg ag fun s => s.stblDone ag

/-- STAT_LATCH (R181): the sums over both pipelines. -/
def State.statLatch (s : State) (ag : Agent) (idx : Nat) : State :=
    let c := Tab.get (0, 0) (idx % 16384) s.cls.stats
    ((s.wrA ag Reg.STBL_STAT_IDX idx).wrA ag Reg.STBL_STAT_FRAMES c.1).wrA ag Reg.STBL_STAT_BYTES c.2

def execStatLatch (ag : Agent) (idx : Nat) (s : State) : Out := .next <| s.gated ag fun s => s.statLatch ag idx

/-! ### Nodes, roots and profiles (R190 to R194) -/

/-- A root as stored: BASE in [18:0], COUNT in [51:32], PROFILE in [55:52], VALID in [63]. -/
def rootBase (r : Nat) : Nat := bits r 18 0
def rootCount (r : Nat) : Nat := bits r 51 32
def rootProf (r : Nat) : Nat := bits r 55 52
def rootValid (r : Nat) : Bool := bit r 63 == 1

def rootCovers (n r : Nat) : Bool := rootValid r && rootBase r ≤ n && n < rootBase r + rootCount r

/-- A node inside a valid root of the current bank, or of the draining bank while a version drains. -/
def State.nodeLive (s : State) (n : Nat) : Bool :=
  (s.cls.roots.any fun p => rootCovers n p.2) || (s.cls.rootsD.any fun p => rootCovers n p.2)

/-- Roots and profiles of a bank; bank 3 acts as 0. -/
def State.bankRoots (s : State) (bank : Nat) : Tab Nat :=
  match bank with
  | 1 => s.cls.rootsD
  | 2 => s.cls.rootsS
  | _ => s.cls.roots

def State.bankProfs (s : State) (bank : Nat) : Tab Nat :=
  match bank with
  | 1 => s.cls.profsD
  | 2 => s.cls.profsS
  | _ => s.cls.profs

def State.holdCls (s : State) (ag : Agent) (st : Option Nat) : State :=
  if ag.isFw then { s with cls := { s.cls with clsStFw := st } } else { s with cls := { s.cls with clsSt := st } }

/-- Start a classifier command; one written while BUSY is refused (R410). (DEDUCED, log 14.) -/
def State.clsCmd (s : State) (ag : Agent) (act : State → Nat × State) : State :=
  if s.rdA ag Reg.CLS_CMD_BUSY ≠ 0 then s.wrA ag Reg.CLS_CMD_STATUS St.busy else
  let (st, s) := if s.fwPresent then act s else (St.busyRestarting, s)
  (s.wrA ag Reg.CLS_CMD_BUSY 1).holdCls ag (some st)

def State.readNode (s : State) (ag : Agent) : State := s.clsCmd ag fun s =>
    (St.ok, s.wrWords ag Reg.CLS_DATA (Tab.get 0 (s.rdA ag Reg.CLS_IDX) s.cls.nodes))

def execReadNode (ag : Agent) (s : State) : Out := .next <| s.gated ag fun s => s.readNode ag

/-- Write one node, refused BUSY in a live range. -/
def State.nodeWrite (s : State) (n v : Nat) : Nat × State :=
  if s.nodeLive n then (St.busy, s) else (St.ok, { s with cls := { s.cls with nodes := Tab.put 0 n (v % 2 ^ 128) s.cls.nodes } })

def State.writeNode (s : State) (ag : Agent) : State := s.clsCmd ag fun s => s.nodeWrite (s.rdA ag Reg.CLS_IDX) (s.rdWords ag Reg.CLS_DATA)

def execWriteNode (ag : Agent) (s : State) : Out := .next <| s.gated ag fun s => s.writeNode ag

/-- The first two words of an entry of a bank. -/
def State.readPair (s : State) (ag : Agent) (v : Nat) : State :=
  (s.wrA ag Reg.CLS_DATA (v % 2 ^ 32) 0 0).wrA ag Reg.CLS_DATA (v / 2 ^ 32) 0 1

def State.readRoot (s : State) (ag : Agent) : State := s.clsCmd ag fun s =>
    let i := s.rdA ag Reg.CLS_IDX
    if i ≥ 64 then (St.invalid, s) else (St.ok, s.readPair ag (Tab.get 0 i (s.bankRoots (s.rdA ag Reg.CLS_IDX_BANK))))

def execReadRoot (ag : Agent) (s : State) : Out := .next <| s.gated ag fun s => s.readRoot ag

/-- Write a staged root: COUNT = 0 or a range past the tree memory is refused. -/
def State.rootWrite (s : State) (i v : Nat) : Nat × State :=
  let r := bits v 18 0 + 2 ^ 32 * bits v 51 32 + 2 ^ 52 * bits v 55 52 + 2 ^ 63 * bit v 63
  if i ≥ 64 ∨ rootCount r = 0 ∨ rootBase r + rootCount r > 524288 then (St.invalid, s)
  else (St.ok, { s with cls := { s.cls with rootsS := Tab.put 0 i r s.cls.rootsS } })

def State.writeRoot (s : State) (ag : Agent) : State := s.clsCmd ag fun s => s.rootWrite (s.rdA ag Reg.CLS_IDX) (s.rdWords ag Reg.CLS_DATA)

def execWriteRoot (ag : Agent) (s : State) : Out := .next <| s.gated ag fun s => s.writeRoot ag

def State.readProf (s : State) (ag : Agent) : State := s.clsCmd ag fun s =>
    let i := s.rdA ag Reg.CLS_IDX
    if i ≥ 512 then (St.invalid, s) else (St.ok, s.readPair ag (Tab.get 0 i (s.bankProfs (s.rdA ag Reg.CLS_IDX_BANK))))

def execReadProf (ag : Agent) (s : State) : Out := .next <| s.gated ag fun s => s.readProf ag

/-- Bytes a field descriptor takes: WIDTH 0, 1, 2 for 1, 2, 4 bytes. -/
def fieldBytes (w : Nat) : Nat := 2 ^ w

/-- Write a staged field descriptor: WIDTH = 3 or a field past byte 63 is refused. -/
def State.profWrite (s : State) (i v : Nat) : Nat × State :=
  if i ≥ 512 ∨ bits v 7 6 = 3 ∨ bits v 5 0 + fieldBytes (bits v 7 6) > 64 then (St.invalid, s)
  else (St.ok, { s with cls := { s.cls with profsS := Tab.put 0 i (bits v 8 0 + 2 ^ 32 * bits v 63 32) s.cls.profsS } })

def State.writeProf (s : State) (ag : Agent) : State := s.clsCmd ag fun s => s.profWrite (s.rdA ag Reg.CLS_IDX) (s.rdWords ag Reg.CLS_DATA)

def execWriteProf (ag : Agent) (s : State) : Out := .next <| s.gated ag fun s => s.writeProf ag

/-- CLS_CMD_DONE. -/
def State.clsDone (s : State) (ag : Agent) : State :=
  match (if ag.isFw then s.cls.clsStFw else s.cls.clsSt) with
  | none => s
  | some st => (((s.holdCls ag none).wrA ag Reg.CLS_CMD_BUSY 0).wrA ag Reg.CLS_CMD_STATUS st).event (Ev.cls 3)

def execClsCmdDone (ag : Agent) (s : State) : Out := .next <| s.reg ag fun s => s.clsDone ag

/-! ### Classification (R190, R192, R193) -/

/-- The value of field k of a profile over a frame's first 64 bytes. -/
def State.fieldValue (s : State) (prof k : Nat) (data : List Byte) : Nat :=
  let d := Tab.get 0 (32 * prof + k) s.cls.profs
  if bit d 8 = 0 then 0 else (beNat (slice (data.take 64) (bits d 5 0) (fieldBytes (bits d 7 6)))).land (bits d 63 32)

/-- A leaf's action, ring select and processor. -/
structure Leaf where
  action : Nat
  ring : Nat
  cpu : Nat
deriving DecidableEq, Repr

def nodeTest (op value x : Nat) : Bool :=
  match op with
  | 0 => x == value
  | 1 => x < value
  | _ => x.land value != 0

/-- A walk: at most `fuel` nodes; none is a fault. -/
def State.walk (s : State) (root : Nat) (data : List Byte) : Nat → Nat → Option Leaf
  | 0, _ => none
  | k + 1, rel =>
    if rel ≥ rootCount root then none else
    let n := Tab.get 0 (rootBase root + rel) s.cls.nodes
    match bits n 127 126 with
    | 0 =>
      let op := bits n 120 119
      if op = 3 then none else
      let x := (s.fieldValue (rootProf root) (bits n 125 121) data).land (bits n 63 32)
      State.walk s root data k (if nodeTest op (bits n 31 0) x then bits n 118 100 else bits n 99 81)
    | 1 => some { action := bits n 125 124, ring := 8 * bits n 123 121 + bits n 120 118, cpu := bit n 117 }
    | _ => none

/-- Classify a frame under a stream entry: its tree, or its default action. -/
def State.classify (s : State) (e : Nat) (data : List Byte) : Option Leaf :=
  if bit e 38 = 0 then some { action := bits e 45 44, ring := bits e 51 46, cpu := bit e 52 } else
  let r := Tab.get 0 (bits e 37 32) s.cls.roots
  if rootValid r then s.walk r data 32 0 else none

/-! ### Versions (R201 to R206) -/

/-- Record the result of a commit operation; a refusal is counted and raised. -/
def State.commitResult (s : State) (st : Nat) : State := s.wr Reg.CLS_COMMIT_STATUS_RESULT st

def State.commitRefuse (s : State) (st : Nat) : State := ((s.commitResult st).inc Reg.CLS_CNT_COMMITS_REFUSED).event (Ev.cls 5)

/-- OPEN: the staged banks start as the current ones. -/
def State.commitOpen (s : State) : State :=
  if !s.fwPresent then s.commitRefuse St.busyRestarting
  else if s.rd Reg.CLS_COMMIT_STATUS_GROUP ≠ 0 then s.commitRefuse St.busy
  else
    let s := { s with cls := { s.cls with staged := [], rootsS := s.cls.roots, profsS := s.cls.profs } }
    ((s.wr Reg.CLS_COMMIT_STATUS_GROUP 1).wr Reg.CLS_STAGE_CNT_STAGED 0).commitResult St.ok

def execCommitOpen (ag : Agent) (s : State) : Out := .next <| s.gated ag State.commitOpen

def State.draining (s : State) : Bool := s.isOn Reg.CLS_COMMIT_STATUS_DRAINING

/-- The refusal of a COMMIT (R203); while firmware is absent it is always BUSY_RESTARTING (R25). -/
def State.commitRefusal (s : State) (version : Nat) : Option Nat :=
  if !s.fwPresent then some St.busyRestarting
  else if s.rd Reg.CLS_COMMIT_STATUS_GROUP ≠ 1 then some St.invalid
  else if version = s.rd Reg.CLS_COMMIT_STATUS_CUR_VER ∨ (s.draining = true ∧ version = s.rd Reg.CLS_COMMIT_STATUS_DRAIN_VER) then some St.invalid
  else if s.draining then some St.busy
  else none

/-- COMMIT: the group waits for the first boundary at least 50 us away. -/
def State.commit (s : State) (version : Nat) : State :=
  match s.commitRefusal version with
  | some st => s.commitRefuse st
  | none =>
    let s := { s with cls := { s.cls with commitAt := s.runNs, pendVer := version } }
    ((s.wr Reg.CLS_COMMIT_STATUS_GROUP 2).commitResult St.ok).event (Ev.cls 4)

def execCommit (ag : Agent) (version : Nat) (s : State) : Out :=
  .next <| s.gated ag fun s => (s.wr Reg.CLS_COMMIT_VERSION version).commit (version % 256)

/-- The commit that a TABLE_BULK_LOAD asked for, refused while a version was draining, is tried again (R337). -/
def State.bulkRetry (s : State) : State :=
  s.adm.ops.foldl (fun s (i, op) =>
    if s.rd Reg.ADM_LOP0_OPCODE 0 i ≠ 0x43 || op.a = 0 || op.committed then s else
    match s.commitRefusal (op.a - 1) with
    | none =>
      let s := s.commit (op.a - 1)
      { s with adm := { s.adm with ops := Tab.put { params := [] } i { op with committed := true } s.adm.ops } }
    | some st =>
      if st = St.busy then s
      else { s with adm := { s.adm with ops := Tab.put { params := [] } i { op with b := st } s.adm.ops } }) s

/-- CANCEL discards an open or pending group. -/
def State.commitCancel (s : State) : State :=
  if s.rd Reg.CLS_COMMIT_STATUS_GROUP = 0 then s else
  let s := { s with cls := { s.cls with staged := [] } }
  (((s.wr Reg.CLS_COMMIT_STATUS_GROUP 0).wr Reg.CLS_STAGE_CNT_STAGED 0).commitResult St.cancelled).event (Ev.cls 7)

def execCommitCancel (ag : Agent) (s : State) : Out := .next <| s.gated ag State.commitCancel

/-- A protection switch restarts the 50 us of a pending commit (R205). -/
def State.commitSwitch (s : State) : State :=
  if s.rd Reg.CLS_COMMIT_STATUS_GROUP = 2 then { s with cls := { s.cls with commitAt := s.runNs } } else s

/-- The staged stream changes become current, leaving before-images. -/
def State.applyStaged (s : State) : State :=
  s.cls.staged.foldl (fun s (idx, e) =>
    ({ s with cls := { s.cls with before := Tab.put 0 idx (s.stream idx + 1) s.cls.before,
                                  streams := Tab.put 0 idx (e - 1) s.cls.streams } }).unlearn idx) s

/-- The commit that a TABLE_BULK_LOAD waits for took effect: its boundary has passed, and gives the RESULT of its FINAL entry (R333, R337). -/
def State.bulkPassed (s : State) : State :=
  let res := s.rd Reg.CLS_COMMIT_STATUS_CUR_VER + 256 * s.rd Reg.CLS_COMMIT_EFF_LO
  let f := fun (i : Nat) (o : LongOp) =>
    if s.rd Reg.ADM_LOP0_OPCODE 0 i = 0x43 && o.committed && !o.passed then { o with passed := true, a := res } else o
  { s with adm := { s.adm with ops := Tab.mapv { params := [] } f s.adm.ops } }

/-- COMMIT_EFFECTIVE: a superframe boundary of the active leg (R16) at least 50 us after the acceptance. (DEDUCED, log 8.) -/
def State.commitEffective (s : State) : State :=
  if s.rd Reg.CLS_COMMIT_STATUS_GROUP ≠ 2 ∨ (s.wave s.active 0).fn ≠ 0 ∨ s.runNs < s.cls.commitAt + 50000 then s else
  let s := s.applyStaged
  let c := s.cls
  let s := { s with cls := { c with staged := [], rootsD := c.roots, roots := c.rootsS, profsD := c.profs, profs := c.profsS } }
  let s := (s.wr Reg.CLS_COMMIT_STATUS_DRAIN_VER (s.rd Reg.CLS_COMMIT_STATUS_CUR_VER)).wr Reg.CLS_COMMIT_STATUS_DRAINING 1
  let s := ((s.wr Reg.CLS_COMMIT_STATUS_CUR_VER s.cls.pendVer).wr Reg.CLS_COMMIT_STATUS_GROUP 0).wr Reg.CLS_STAGE_CNT_STAGED 0
  let s := s.wr2 Reg.CLS_COMMIT_EFF_LO Reg.CLS_COMMIT_EFF_HI (s.wave s.active 0).sfc
  ((s.inc Reg.CLS_CNT_COMMITS).event (Ev.cls 6)).bulkPassed

def execCommitEffective (s : State) : Out := .next s.commitEffective

/-- Entries not yet written that carry a version. -/
def rxOfVersion (v : Nat) (x : Cpl) : Bool := x.isRx && leNat (slice x.body 12 1) == v

/-- Frames of a version still in the terminal: in the packet buffer, or delivered without their completion written. -/
def State.inFlight (s : State) (v : Nat) : Nat :=
  (s.host.buf.filter fun b => b.version == v).length +
  s.host.cqs.foldl (fun n p => n + (p.2.waiting.filter (rxOfVersion v)).length) 0

/-- The draining version retires. -/
def State.retire (s : State) : State :=
  let s := { s with cls := { s.cls with before := [], rootsD := [], profsD := [] } }
  ((s.wr Reg.CLS_COMMIT_STATUS_DRAINING 0).event (Ev.cls 8)).bulkRetry

/-- DRAIN_DONE: nothing of the draining version is left. (DEDUCED, log 8.) -/
def State.drainDone (s : State) : State :=
  if s.draining && s.inFlight (s.rd Reg.CLS_COMMIT_STATUS_DRAIN_VER) == 0 then s.retire else s

def execDrainDone (s : State) : Out := .next s.drainDone

/-- The leg and wave of a receive entry (R298). -/
def Cpl.rxLeg (x : Cpl) : Leg := Leg.ofBit (leNat (slice x.body 13 1) % 2)
def Cpl.rxWave (x : Cpl) : Nat := leNat (slice x.body 13 1) / 2 % 8

/-- Receive entries of a version that still wait leave their rings, each frame spilt as VERSION_EXPIRED; the posts it filled are consumed
with the next entry of its ring. (DESIGN CHOICE, log 69.) -/
def State.expireWaiting (s : State) (v : Nat) : State :=
  let gone := s.host.cqs.flatMap fun p => p.2.waiting.filter (rxOfVersion v)
  let s := { s with host := { s.host with cqs := Tab.mapv {} (fun _ (r : CqR) =>
    { r with waiting := r.waiting.filter fun x => !rxOfVersion v x }) s.host.cqs } }
  gone.foldl (fun s x => s.spill x.rxLeg x.rxWave 15) s

/-- VERSION_EXPIRED: 2 SF after its boundary the version's undelivered frames are dropped, those whose entries still wait too (R204). -/
def State.versionExpired (s : State) : State :=
  if !s.draining then s else
  let v := s.rd Reg.CLS_COMMIT_STATUS_DRAIN_VER
  let any := s.inFlight v ≠ 0
  let gone := s.host.buf.filter fun b => b.version == v
  let s := { s with host := { s.host with buf := s.host.buf.filter fun b => b.version != v } }
  let s := (gone.foldl (fun s b => s.spill b.leg b.wave 15) s).expireWaiting v
  (if any then s.event (Ev.cls 9) else s).retire

def execVersionExpired (s : State) : Out := .next s.versionExpired

/-- PIPELINE_COMPARE (R206): each differing copy is rewritten from the active leg's, which is the copy State holds. -/
def State.repairCopy (s : State) : State := (s.inc Reg.CLS_CNT_DIVERGE).event (Ev.cls 12)

def execPipelineCompare (differ : List (Nat × Nat)) (s : State) : Out :=
  .next (if s.fwPresent then differ.foldl (fun s _ => s.repairCopy) s else s)

end Sys2Proof.Machine
end

