-- ==== Sys2Proof/Machine/Downstream.lean ====
section
/-! DEFINITION. The path of a downstream channel frame: delineation, lookup, decryption, classification, admission, and delivery to
rings, mirrors and firmware (R13 to R20, R45 to R52, R177 to R186, R195 to R199, R213 to R217, R296). -/

namespace Sys2Proof.Machine

/-! ### Channel headers (R45, R50, R51) -/

def hdrStream (h : Nat) : Nat := bits h 63 48
def hdrPlen (h : Nat) : Nat := bits h 47 34
def hdrKidx (h : Nat) : Nat := bits h 33 32
def hdrPti (h : Nat) : Nat := bits h 31 30
def hdrSeq (h : Nat) : Nat := bits h 29 10

/-- Bytes of the information field (R30). -/
def infoBytes : Nat := 1440000

/-- The padded end of a channel frame at an offset. -/
def frameEnd (off h : Nat) : Nat := off + 8 + pad8 (hdrPlen h)

/-- Rejections other than the SEQ case. -/
def hdrBad (off h : Nat) : Bool := hdrPlen h > 9232 || hdrPti h == 2 || frameEnd off h > infoBytes

def isData (h : Nat) : Bool := hdrPti h == 0 || hdrPti h == 1

/-- SEQ does not exceed that of the previous data frame of the wave frame. -/
def Wave.seqBad (v : Wave) (h : Nat) : Bool := isData h && v.lastSeq.any fun x => hdrSeq h ≤ x

/-- Some byte of the frame lies in an uncorrected codeword (R52). -/
def Wave.badSpan (v : Wave) (off h : Nat) : Bool := v.badCw.any fun k => off < 1920 * (k + 1) && 1920 * k < frameEnd off h

/-- A hunt resumes here: the header passes and its implied next header passes or ends the field. -/
def Wave.resumes (v : Wave) (off h next : Nat) : Bool :=
  hecOk h && !hdrBad off h && !v.seqBad h && (frameEnd off h == infoBytes || hecOk next)

/-! ### The packet buffer (R20) -/

def bufCells (n : Nat) : Nat := (n + 255) / 256

/-- Cells of the downstream packet buffer in use; it has 196,608. -/
def State.bufUsed (s : State) : Nat := s.host.buf.foldl (fun n b => n + bufCells b.data.length) 0

/-- The buffer has no room for a frame. -/
def State.bufFull (s : State) (b : BufFrame) : Bool := decide (s.bufUsed + bufCells b.data.length > 196608)

/-- Admit a frame, or drop it as HOST_BACKPRESSURE. -/
def State.takeIn (s : State) (b : BufFrame) : State :=
  if s.bufFull b then s.spill b.leg b.wave 11
  else { s with host := { s.host with buf := s.host.buf ++ [b] } }

/-! ### Rings at delivery (R195 to R197, R296 to R298) -/

/-- The ring a buffered frame goes to: its group's entry is read now. -/
def State.bufRing (s : State) (b : BufFrame) : Nat :=
  match b.grp with
  | none => b.ring
  | some (g, r) => s.rd Reg.STBL_RGT_BASE 0 g + r % s.groupSize g

/-- A ring that takes frames of a function. -/
def State.ringTakes (s : State) (ring f : Nat) : Bool :=
  s.isOn Reg.HIF_RX_CTL_EN 0 ring && !s.isOn Reg.HIF_RX_CTL_LA 0 ring && s.rd Reg.HIF_RX_CTL_OWNER 0 ring == f

/-- The posts that cover n bytes, in order, or none when too few are held. -/
def takePosts : Nat → List Post → Option (List Post × List Post)
  | 0, ps => some ([], ps)
  | _ + 1, [] => none
  | n + 1, p :: r => (takePosts (n + 1 - p.blen) r).map fun x => (p :: x.1, x.2)

/-- Cut bytes along posts, as the writes that carry them. -/
def State.postWrites (s : State) (f : Nat) (relaxed : Bool) : List Post → List Byte → List Output
  | [], _ => []
  | p :: r, b => s.dmaWrites f p.addr relaxed (b.take p.blen) ++ State.postWrites s f relaxed r (b.drop p.blen)

/-- A receive entry; sequence number and PHASE are added when it is written. -/
def rxEntry (b : BufFrame) (ring didx len ntag tci0 tci1 status : Nat) (mirror : Bool) : List Byte :=
  let ns := b.at40 / 2 ^ 40
  leBytes 2 0 ++ leBytes 1 (8 * b2n mirror + 64 * b2n b.replayed) ++ leBytes 1 status ++ leBytes 2 (len % 16384 + 16384 * ntag) ++
    leBytes 2 b.stream ++ leBytes 2 ring ++ leBytes 2 didx ++ leBytes 1 b.version ++ leBytes 1 (b.leg.n + 2 * b.wave + 16 * b.qual) ++
    leBytes 2 b.gen ++ leBytes 6 (ns / 1000000000) ++ leBytes 4 (ns % 1000000000) ++ leBytes 2 b.bound ++ leBytes 2 tci0 ++ leBytes 2 tci1

/-- Write bytes into a ring's posts and leave the completion; none when it must wait. -/
def State.toRing (s : State) (b : BufFrame) (ring : Nat) (data : List Byte) (ntag tci0 tci1 status : Nat) (mirror : Bool) : Option State :=
  let f := s.rd Reg.HIF_RX_CTL_OWNER 0 ring
  let c := s.rd Reg.HIF_RX_CQ 0 ring
  let x := s.rxr ring
  if !s.canDma f || s.cqFull c then none else
  (takePosts data.length x.posts).map fun (used, left) =>
    let didx := match x.posts with
      | p :: _ => p.idx
      | [] => x.fetchIdx
    let ws := s.postWrites f (Tab.get 0 f s.host.relaxed != 0) used data
    let s := (s.emits ws).setRxr ring fun x => { x with posts := left, used := x.used + used.length }
    let s := (s.wr Reg.HIF_RX_IDX_CONS (s.rd Reg.HIF_RX_IDX_CONS 0 ring + used.length) 0 ring).dec Reg.HIF_RX_HELD 0 ring used.length
    s.cqPush c { body := rxEntry b ring didx data.length ntag tci0 tci1 status mirror, data := ws }

/-- The mirror copy of a frame, before tag removal (R197), to the ring that was the mirror ring at its lookup (R17). -/
def State.mirrorCopy (s : State) (b : BufFrame) : State :=
  match b.mirror with
  | none => s
  | some r =>
    match (if s.ringTakes r 0 then s.toRing b r b.data 0 0 0 St.ok true else none) with
    | some s => s.inc Reg.CLS_CNT_MIRRORS
    | none => (s.spill b.leg b.wave 14).event (Ev.cls 15)

/-- Remove n tags: four bytes from byte 12 for each (R199). -/
def dropTags (n : Nat) (data : List Byte) : List Byte := data.take 12 ++ data.drop (12 + 4 * n)

def State.unbuffer (s : State) (b : BufFrame) : State := { s with host := { s.host with buf := s.host.buf.erase b } }

/-- FRAME_DELIVERY: the oldest frame in the packet buffer for a ring. (DEDUCED, log 18.) -/
def State.deliver (s : State) (ring : Nat) (ecc : Bool) : State :=
  match s.host.buf.find? fun b => s.bufRing b == ring with
  | none => s
  | some b =>
    if !s.ringTakes ring b.func then
      let s := (s.unbuffer b).spill b.leg b.wave 12
      if b.mirrorAct then s.mirrorCopy b else s
    else
    match s.toRing b ring (dropTags b.ntag b.data) b.ntag b.tci0 b.tci1 (if ecc then St.invalid else St.ok) false with
    | none => if s.canDma b.func && s.cqFull (s.rd Reg.HIF_RX_CQ 0 ring) then s.raiseCqFull (s.rd Reg.HIF_RX_CQ 0 ring) else s
    | some s =>
      let s := s.unbuffer b
      let s := if b.replayed then s.inc Reg.HIF_CNT_REPLAYED else s
      let s := if b.grp.isNone then s.inc Reg.CLS_CNT_PROC_COPIES else s
      let s := if ecc then s.eccUncorr 0 0 else s
      s.mirrorCopy b

def execFrameDelivery (ring : Nat) (ecc : Bool) (s : State) : Out := .next <| s.inDom .core fun s => s.deliver ring ecc

/-- RX_STARVED: a frame has waited 1 ms for posts; at most once per host millisecond per ring. -/
def State.starved (s : State) (ring : Nat) : State :=
  match s.host.buf.find? fun b => s.bufRing b == ring with
  | none => s
  | some b =>
    if !s.ringTakes ring b.func || (takePosts (dropTags b.ntag b.data).length (s.rxr ring).posts).isSome ||
       (s.rxr ring).starvedMs == some s.msNow then s else
    let own := s.rd Reg.HIF_RX_CTL_OWNER 0 ring
    (s.setRxr ring fun x => { x with starvedMs := some s.msNow }).hostEvent 16 own (own + 65536 * ring) (own + 65536 * s.localIdx .rx own ring)

def execRxStarved (ring : Nat) (s : State) : Out := .next (s.starved ring)

/-! ### Processors (R196) -/

/-- A copy for a processor: the PF exception ring through the packet buffer, or firmware's queue of 256 frames; either is admitted to the
packet buffer first (R177, step 12). -/
def State.toProcessor (s : State) (cpu : Nat) (b : BufFrame) : State :=
  if cpu = 0 then s.takeIn { b with grp := none, func := 0, ring := s.rd Reg.STBL_EXC_CTL_EXC_RING }
  else if s.bufFull b then s.spill b.leg b.wave 11
  else if !s.fwPresent || s.host.fwQueue.length ≥ 256 then (s.spill b.leg b.wave 13).event (Ev.cls 16)
  else
    ({ s with host := { s.host with fwQueue := s.host.fwQueue ++ [b] } }.inc Reg.CLS_CNT_PROC_COPIES).mirrorCopy b

/-! ### LEARN (R183 to R186) -/

/-- The 128-byte record. -/
def State.learnRecord (s : State) (l : Leg) (w h : Nat) (payload : List Byte) : List Byte :=
  leBytes 2 (hdrStream h) ++ leBytes 1 (l.n + 2 * w + 16 * hdrKidx h + 64 * hdrPti h) ++ leBytes 1 (s.rd Reg.CLS_COMMIT_STATUS_CUR_VER) ++
    leBytes 2 (hdrPlen h) ++ leBytes 2 s.cls.rseq ++ leBytes 6 s.secNow ++ leBytes 2 (s.rd Reg.TIME_QUAL_GEN) ++
    leBytes 4 (s.nsNow % 1000000000) ++ leBytes 2 (s.rd Reg.TIME_BOUND) ++ leBytes 1 (s.rd Reg.TIME_QUAL_QUALITY) ++ zeros 9 ++
    slice (payload.take (hdrPlen h)) 0 64 ++ zeros 32

/-- log2 of the learn ring: 6 to 16, others as 6. -/
def learnLog (size : Nat) : Nat := if size < 6 ∨ size > 16 then 6 else size

/-- The ring is full exactly when PROD - CONS, modulo 2^16, equals its capacity. -/
def State.learnFull (s : State) : Bool :=
  sub16 (s.rd Reg.STBL_LEARN_PROD) (s.rd Reg.STBL_LEARN_CONS) ==
    if learnLog (s.rd Reg.STBL_LEARN_SIZE) = 16 then 65535 else 2 ^ learnLog (s.rd Reg.STBL_LEARN_SIZE)

/-- A record is written, or lost (R185). -/
def State.learn (s : State) (l : Leg) (w h : Nat) (payload : List Byte) : State :=
  if !s.isOn Reg.STBL_LEARN_CTL_EN || has s.cls.learnPend (hdrStream h) then s else
  let fw := s.isOn Reg.STBL_LEARN_CTL_DEST
  if s.cls.learnSf ≥ max 1 (s.rd Reg.STBL_LEARN_CTL_RATE) || (if fw then !s.fwPresent else s.learnFull) then
    (s.inc Reg.CLS_CNT_LEARN_LOST).event (Ev.cls 1)
  else
    let rec' := s.learnRecord l w h payload
    let s :=
      if fw then s.emit (.fwWrite 0 0 rec') else
      let p := s.rd Reg.STBL_LEARN_PROD
      let addr := s.rd2 Reg.STBL_LEARN_BASE_LO Reg.STBL_LEARN_BASE_HI + 128 * (p % 2 ^ learnLog (s.rd Reg.STBL_LEARN_SIZE))
      (if s.canDma 0 then s.emits (s.dmaWrites 0 addr false rec') else s).wr Reg.STBL_LEARN_PROD (p + 1)
    let s := { s with cls := { s.cls with rseq := (s.cls.rseq + 1) % 65536, learnSf := s.cls.learnSf + 1,
                                          learnPend := hdrStream h :: s.cls.learnPend } }
    (s.inc Reg.CLS_CNT_LEARN_RECORDS).event (Ev.cls 0)

/-! ### Tags (R199) -/

/-- The TCI of a tag of a kind (1 C, 2 S, 3 either) that lies at byte 12 after n removed tags. -/
def tagAt (n kind : Nat) (data : List Byte) : Option Nat :=
  let t := beNat (slice data (12 + 4 * n) 2)
  if data.length < 16 + 4 * n then none
  else if (t = 0x8100 ∧ kind % 2 = 1) ∨ (t = 0x88A8 ∧ kind / 2 = 1) then some (beNat (slice data (14 + 4 * n) 2)) else none

/-- The TCIs of the tags that TAG_OP removes, outermost first. -/
def poppedTags (op : Nat) (data : List Byte) : List Nat :=
  match op with
  | 1 => (tagAt 0 1 data).toList
  | 2 => (tagAt 0 2 data).toList
  | 3 => match tagAt 0 2 data with
    | none => []
    | some t => t :: (tagAt 1 1 data).toList
  | 4 => (tagAt 0 3 data).toList
  | _ => []

/-! ### Decryption (R213 to R217) -/

/-- The downstream key for a frame: loaded, and its generation not retired. -/
def State.downKey (s : State) (l : Leg) (slot kidx : Nat) : Option Nat :=
  if (s.leg l).dnRet = some kidx then none else s.lineKey slot l 0 kidx

/-- Plaintext and whether the tag agrees. -/
def State.decrypt (s : State) (l : Leg) (w key h : Nat) (payload : List Byte) : List Byte × Bool :=
  let v := s.wave l w
  let n := hdrPlen h - 16
  let iv := lineIv v.sfc v.fn w 0 l (hdrSeq h)
  let ct := slice payload 0 n
  ((Crypto.gcmEnc key iv (beBytes 8 h) ct).1, (Crypto.gcmDec key iv (beBytes 8 h) ct (slice payload n 16)).isSome)

/-! ### The steps of R177 -/

/-- Steps 10 to 13: statistics, tags, admission, delivery. (DEDUCED, log 18.) -/
def State.frameOut (s : State) (l : Leg) (w h e : Nat) (f : Leaf) (data : List Byte) : State :=
  let s := if bit e 78 = 0 then s else
    let c := Tab.get (0, 0) (bits e 77 64) s.cls.stats
    { s with cls := { s.cls with stats := Tab.put (0, 0) (bits e 77 64) ((c.1 + 1) % 2 ^ 64, (c.2 + data.length) % 2 ^ 64) s.cls.stats } }
  if f.action = 0 then s.spill l w 8 else
  let tags := poppedTags (bits e 42 39) data
  if bit e 108 = 1 ∧ (match tags with
      | t :: _ => t % 4096 != bits e 107 96
      | [] => true) = true then (s.spill l w 10).event (Ev.cls 17) else
  let b : BufFrame := { ring := 0, mirror := if f.action = 3 || bit e 43 = 1 then some (s.rd Reg.STBL_EXC_CTL_MIRROR_RING) else none,
                        mirrorAct := f.action == 3, func := bits e 9 2, grp := some (bits e 19 10, f.ring),
                        data := data, ntag := tags.length, tci0 := tags.getD 0 0, tci1 := tags.getD 1 0, stream := hdrStream h,
                        version := s.rd Reg.CLS_COMMIT_STATUS_CUR_VER, leg := l, wave := w, at40 := s.time.now40,
                        gen := s.rd Reg.TIME_QUAL_GEN, qual := s.rd Reg.TIME_QUAL_QUALITY, bound := s.rd Reg.TIME_BOUND, replayed := false }
  if f.action = 2 then s.toProcessor f.cpu b else s.takeIn b

def State.clsFault (s : State) (l : Leg) (w : Nat) : State :=
  let s := (s.spill l w 9).event (Ev.cls (10 + l.n))
  match l with
  | .a => s.inc Reg.CLS_CNT_FAULT_A
  | .b => s.inc Reg.CLS_CNT_FAULT_B

/-- An uncorrectable error in a pipeline's table or trees (R414, instances 1 to 4). -/
def State.tableEcc (s : State) (l : Leg) (w inst : Nat) : State := ((s.eccUncorr inst 0).repairCopy).spill l w 9

/-- The unknown-stream action (R183): the frame as received. -/
def State.unknownStream (s : State) (l : Leg) (w h : Nat) (payload : List Byte) : State :=
  let s := s.learn l w h payload
  if !s.isOn Reg.STBL_UNK_CTL_ACTION then s.spill l w 4 else
  s.toProcessor (s.rd Reg.STBL_UNK_CTL_CPU)
    { ring := 0, mirror := none, mirrorAct := false, func := 0, grp := none, data := slice payload 0 (hdrPlen h), ntag := 0, tci0 := 0, tci1 := 0,
      stream := hdrStream h, version := s.rd Reg.CLS_COMMIT_STATUS_CUR_VER, leg := l, wave := w, at40 := s.time.now40,
      gen := s.rd Reg.TIME_QUAL_GEN, qual := s.rd Reg.TIME_QUAL_QUALITY, bound := s.rd Reg.TIME_BOUND, replayed := false }

/-- Steps 8 and 9 and what follows, for the plaintext. A leaf acts only once the tag agrees (R178). -/
def State.classified (s : State) (l : Leg) (w h e : Nat) (ecc : Option Nat) (data : List Byte) (auth : Bool) : State :=
  if bit e 38 = 1 ∧ ecc = some (3 + l.n) then s.tableEcc l w (3 + l.n) else
  match s.classify e data with
  | none => s.clsFault l w
  | some f => if auth then s.frameOut l w h e f data else s.spill l w 7

/-- Steps 4 to 13 on the active leg. (DEDUCED, log 18.) -/
def State.activeFrame (s : State) (l : Leg) (w h : Nat) (payload : List Byte) (ecc : Option Nat) : State :=
  if ecc = some (1 + l.n) then s.tableEcc l w (1 + l.n) else
  let e := s.stream (hdrStream h)
  if bit e 0 = 0 then s.unknownStream l w h payload
  else if hdrPti h = 0 then
    if bit e 53 = 1 then (s.spill l w 5).event (Ev.cls 18) else s.classified l w h e ecc (slice payload 0 (hdrPlen h)) true
  else
    match s.downKey l (bits e 28 20) (hdrKidx h) with
    | none => s.spill l w 6
    | some key =>
      if hdrPlen h < 16 then s.spill l w 7 else
      let (pt, ok) := s.decrypt l w key h payload
      (s.inc Reg.CIPH_CNT_DN_FRAMES).classified l w h e ecc pt ok

/-- A standby frame: on D0 it is decrypted and checked, then discarded uncounted (R13, R216); in idle the checks pause (R367). -/
def State.standbyFrame (s : State) (l : Leg) (w h : Nat) (payload : List Byte) : State :=
  let e := s.stream (hdrStream h)
  if w ≠ 0 ∨ hdrPti h ≠ 1 ∨ bit e 0 = 0 ∨ s.rd Reg.PWR_STATUS_STATE ≠ 0 then s else
  let ok := match s.downKey l (bits e 28 20) (hdrKidx h) with
    | none => false
    | some key => decide (hdrPlen h ≥ 16) && (s.decrypt l w key h payload).2
  if ok then s.inc Reg.CIPH_CNT_SB_AUTH_OK else (s.inc Reg.CIPH_CNT_SB_AUTH_FAIL).once l (Ev.ciph (6 + l.n)) 0

/-- A frame whose header stands: steps 1 (codewords) to 3. (DEDUCED, log 18.) -/
def State.frameIn (s : State) (l : Leg) (w off h : Nat) (payload : List Byte) (ecc : Option Nat) : State :=
  let v := s.wave l w
  let s := s.updWave l w fun v => { v with hunting := false, lastSeq := if isData h then some (hdrSeq h) else v.lastSeq }
  if v.badSpan off h then s.spill l w 3
  else if hdrPti h = 3 then s
  else if !v.deliver then s.standbyFrame l w h payload
  else (s.idleExit 9).activeFrame l w h payload ecc

/-- A hunt begins: its one LINE_HEC drop (R51). (DEDUCED, log 17.) -/
def State.huntFrom (s : State) (l : Leg) (w : Nat) : State := (s.updWave l w fun v => { v with hunting := true }).spill l w 1

/-- Where a wave frame's channel frames begin: after D0's partitions (R36), after the 24-byte frame header on the other waves. (DEDUCED, log 17.) -/
def State.chanBase (s : State) (l : Leg) (w : Nat) : Nat := if w = 0 then (s.leg l).chanBase else 24

/-- CHANNEL_FRAME: the next header position of a wave frame, or, while hunting, a later offset. A data frame rejected for its SEQ is not
the previous data frame of the next one: each is compared with the last that was not rejected. (DESIGN CHOICE, log 65.) -/
def State.channelFrame (s : State) (l : Leg) (w off h : Nat) (payload : List Byte) (next : Nat) (ecc : Option Nat) : State :=
  let v := s.wave l w
  if v.deln ≠ .sync ∨ (w = 0 ∧ (s.leg l).partOk = false) ∨ off < s.chanBase l w ∨ off % 8 ≠ 0 ∨ s.rd Reg.PWR_STATUS_STATE ≥ 2 then s
  else if v.hunting then (if v.resumes off h next then s.frameIn l w off h payload ecc else s)
  else if !hecOk h then ((s.inc Reg.LINE_WCNT_CF_HEC_ERR l.n w).pmCount l w 4 1).huntFrom l w
  else if hdrBad off h then (s.inc Reg.LINE_WCNT_CF_INVALID l.n w).huntFrom l w
  else if v.seqBad h then (s.inc Reg.LINE_WCNT_CF_INVALID l.n w).spill l w 2
  else s.frameIn l w off h payload ecc

/-- CHANNEL_FRAME: a header as it is met, and the payload that follows it (R45, R50, R51, R177). (DEDUCED, log 17.) -/
def execChannelFrame (l : Leg) (w off : Nat) (hdr : BitVec 64) (payload : List Byte) (next : BitVec 64) (ecc : Option Nat) (s : State) : Out :=
  .next (s.channelFrame l w off hdr.toNat payload next.toNat ecc)

end Sys2Proof.Machine
end

