-- ==== Sys2Proof/Machine/Sluice.lean ====
section
/-! DEFINITION. Sluice lanes: the slot region, lane records, the connection memory, swaps, lane failure and the slot ledger
(09_sluice_lanes.md). -/

namespace Sys2Proof.Machine

/-! ### Connection memory (R239, R240, R248) -/

def cmKey (up : Bool) (page pos : Nat) : Nat := 8192 * b2n up + 4096 * page + pos

def State.cmEntry (s : State) (up : Bool) (page pos : Nat) : Nat := Tab.get 0 (cmKey up page pos) s.slu.cm

def cmLane (e : Nat) : Nat := bits e 6 0
def cmOrder (e : Nat) : Nat := bits e 12 7
def cmValid (e : Nat) : Bool := bit e 13 == 1

def State.cmPage (s : State) (up : Bool) : Nat := if up then s.rd Reg.SLU_STATUS_UP_PAGE else s.rd Reg.SLU_STATUS_DN_PAGE

/-- The valid entries of a page: position and entry. -/
def State.cmMap (s : State) (up : Bool) (page : Nat) : List (Nat × Nat) :=
  (s.slu.cm.filter fun p => p.1 / 4096 == 2 * b2n up + page && cmValid p.2).map fun p => (p.1 % 4096, p.2)

def laneWidth (x : Nat) : Nat := if x = 0 then 1 else min x 64

def State.widthOf (s : State) (up : Bool) (lane : Nat) : Nat :=
  laneWidth (if up then s.rd Reg.SLU_ULANE_CTL_WIDTH 0 lane else s.rd Reg.SLU_DLANE_CTL_WIDTH 0 lane)

/-- Every lane of the page meets R240. -/
def State.wellFormedPage (s : State) (up : Bool) (page : Nat) : Bool :=
  let m := s.cmMap up page
  m.all fun p =>
    let os := (m.filter fun q => cmLane q.2 == cmLane p.2).map fun q => cmOrder q.2
    os.length ≤ 64 && os.length ≤ s.widthOf up (cmLane p.2) && (List.range os.length).all fun i => has os i

def State.swapPending (s : State) : Bool := s.isOn Reg.SLU_STATUS_SWAP_PEND

def State.holdCm (s : State) (ag : Agent) (st : Option Nat) : State :=
  if ag.isFw then { s with slu := { s.slu with cmStFw := st } } else { s with slu := { s.slu with cmSt := st } }

def State.cmCmd (s : State) (ag : Agent) (act : State → Nat × State) : State :=
  if s.rdA ag Reg.SLU_CM_CMD_BUSY ≠ 0 then s.wrA ag Reg.SLU_CM_CMD_STATUS St.busy else
  let (st, s) := act s
  (s.wrA ag Reg.SLU_CM_CMD_BUSY 1).holdCm ag (some st)

def State.cmRead (s : State) (ag : Agent) (up active : Bool) : State := s.cmCmd ag fun s =>
    let page := if active then s.cmPage up else 1 - s.cmPage up
    (St.ok, s.wrA ag Reg.SLU_CM_DATA (s.cmEntry up page (s.rdA ag Reg.SLU_CM_IDX)))

def execCmRead (ag : Agent) (up active : Bool) (s : State) : Out := .next <| s.reg ag fun s => s.cmRead ag up active

/-- A change of the standby page, refused while a swap is pending. -/
def State.cmChange (s : State) (up : Bool) (f : Nat → Tab Nat → Tab Nat) : Nat × State :=
  if s.swapPending then (St.busy, s) else (St.ok, { s with slu := { s.slu with cm := f (1 - s.cmPage up) s.slu.cm } })

/-- WRITE of a connection memory entry (R239, R248). (DEDUCED, log 14.) -/
def State.cmWrite (s : State) (ag : Agent) (up : Bool) : State := s.cmCmd ag fun s =>
    let d := s.rdA ag Reg.SLU_CM_DATA
    if d ≥ 16384 then (if s.swapPending then St.busy else St.invalid, s)
    else s.cmChange up fun page t => Tab.put 0 (cmKey up page (s.rdA ag Reg.SLU_CM_IDX)) d t

def execCmWrite (ag : Agent) (up : Bool) (s : State) : Out := .next <| s.reg ag fun s => s.cmWrite ag up

/-- Remove a page's entries. -/
def cmClearPage (up : Bool) (page : Nat) (t : Tab Nat) : Tab Nat := t.filter fun p => p.1 / 4096 != 2 * b2n up + page

/-- COPY of the active page to the standby page (R248). (DEDUCED, log 20.) -/
def State.cmCopy (s : State) (ag : Agent) (up : Bool) : State := s.cmCmd ag fun s =>
    s.cmChange up fun page t =>
      let src := t.filter fun p => p.1 / 4096 == 2 * b2n up + (1 - page)
      src.foldr (fun p t => Tab.put 0 (cmKey up page (p.1 % 4096)) p.2 t) (cmClearPage up page t)

def execCmCopy (ag : Agent) (up : Bool) (s : State) : Out := .next <| s.reg ag fun s => s.cmCopy ag up

def State.cmClear (s : State) (ag : Agent) (up : Bool) : State := s.cmCmd ag fun s => s.cmChange up fun page t => cmClearPage up page t

def execCmClear (ag : Agent) (up : Bool) (s : State) : Out := .next <| s.reg ag fun s => s.cmClear ag up

def State.cmDone (s : State) (ag : Agent) : State :=
  match (if ag.isFw then s.slu.cmStFw else s.slu.cmSt) with
  | none => s
  | some st => ((s.holdCm ag none).wrA ag Reg.SLU_CM_CMD_BUSY 0).wrA ag Reg.SLU_CM_CMD_STATUS st

def execCmCmdDone (ag : Agent) (s : State) : Out := .next <| s.reg ag fun s => s.cmDone ag

/-! ### Sources raised at most once a superframe of the active leg -/

def State.sluOnce (s : State) (k : Nat) : State :=
  if has s.slu.onceSf k then s else { s with slu := { s.slu with onceSf := k :: s.slu.onceSf } }.event (Ev.slu k)

/-! ### Lane rings -/

/-- log2 of a lane ring's entries: 6 to 16, others as 6. -/
def laneLog (size : Nat) : Nat := learnLog size
def laneRoom (size : Nat) : Nat := if laneLog size = 16 then 65535 else 2 ^ laneLog size

/-- The owner can take or give a record (R252). -/
def State.laneOwnerUp (s : State) (o : Nat) : Bool :=
  if o = 0xFF then s.fwPresent else s.canDma o && s.rd Reg.PWR_STATUS_STATE ≤ 1

/-! ### The slot region (R44, R242) -/

def slotBytes (x : BitVec 128) : List Byte := beBytes 16 x.toNat

/-- SLUICE_REGION: the slots of the current D0 frame and their trailer's check. Positions count on the active leg. -/
def State.sluiceRegion (s : State) (l : Leg) (slots : List (BitVec 128)) (crc : Nat) : State :=
  let g := s.leg l
  if !g.partOk || g.nslot = 0 || g.slotsSeen || (s.wave l 0).deln != .sync then s else
  let xs := (List.range g.nslot).map fun i => (slots.getD i 0).toNat
  let bad := crc32 (xs.flatMap fun x => msbBits 128 x) != crc
  let s := if bad then s.inc Reg.LINE_D0CNT_SLU_CRC_ERR l.n else s
  let s := s.upd l fun g => { g with slots := xs, slotsSeen := true, sluBad := bad }
  if !s.isOn Reg.SLU_CTL_EN || !(s.wave l 0).deliver then s else
  let mapped := ((s.cmMap false (s.cmPage false)).filter fun p => p.1 < g.nslot).length
  ((s.inc Reg.SLU_CNT_DN_RX 0 0 g.nslot).inc Reg.SLU_CNT_DN_MAPPED 0 0 mapped).inc Reg.SLU_CNT_DN_UNMAPPED 0 0 (g.nslot - mapped)

/-- SLUICE_REGION: the slots of a D0 frame and their check (R44, R237). (DEDUCED, log 20.) -/
def execSluiceRegion (l : Leg) (slots : List (BitVec 128)) (crc : BitVec 32) (s : State) : Out :=
  .next (s.sluiceRegion l slots crc.toNat)

/-! ### Downstream records (R241 to R243, R250, R251) -/

/-- The leg whose frames the records describe. -/
def State.sluLeg (s : State) : Leg := Leg.ofBit (s.rd Reg.SLU_STATUS_LEG)

/-- No slot of the current frame could be located: not delineated, a bad partition header, or cut by a protection switch. -/
def State.sluLost (s : State) : Bool :=
  let l := s.sluLeg
  (s.wave l 0).deln != .sync || !(s.leg l).partOk || s.active != l

/-- Slot p of the current frame is errored: its trailer failed, or one of its bytes lies in an uncorrected codeword. -/
def LegSt.slotBad (g : LegSt) (p : Nat) : Bool :=
  let a := g.slotBase + 16 * p
  g.sluBad || !g.slotsSeen || (g.waves.get 0).badCw.any fun k => a < 1920 * (k + 1) && 1920 * k < a + 16

/-- The record of a lane for frame `key` of a leg: NSL, ERR and the data (R241, R242). -/
def State.laneRecord (s : State) (lane : Nat) (l : Leg) (key : Nat) (ais lost : Bool) : List Byte :=
  let g := s.leg l
  let m := (s.cmMap false (s.cmPage false)).filter fun p => cmLane p.2 == lane
  let nsl := m.length
  let err := m.foldl (fun n p => if lost || p.1 ≥ g.nslot || g.slotBad p.1 then n ||| 2 ^ cmOrder p.2 else n) 0
  let slot := fun o =>
    match m.find? fun p => cmOrder p.2 == o with
    | some p => if ais then List.replicate 16 0xFF else if lost || p.1 ≥ g.nslot then zeros 16 else beBytes 16 (g.slots.getD p.1 0)
    | none => zeros 16
  leBytes 6 (key / 8) ++ leBytes 1 (key % 8 + 8 * l.n + 16 * b2n ais + 32 * b2n (lost && !ais)) ++ leBytes 1 nsl ++ leBytes 8 err ++
    slice ((List.range nsl).flatMap slot) 0 (16 * s.widthOf false lane)

/-- The lane has a valid entry in the active downstream page. -/
def State.laneMapped (s : State) (lane : Nat) : Bool := (s.cmMap false (s.cmPage false)).any fun p => cmLane p.2 == lane

def State.aisGroup (s : State) (g : Nat) : Bool := s.rd Reg.SLU_GRP_ACTION 0 g == 1 || s.rd Reg.SLU_GRP_ACTION 0 g == 3

/-- The current frame ends AIS: in SYNC, with a good partition header and trailer. -/
def State.sluGood (s : State) : Bool :=
  let g := s.leg s.sluLeg
  !s.sluLost && (g.nslot == 0 || (g.slotsSeen && !g.sluBad))

/-- AIS of a group ends; AIS_OFF follows AIS_ON (R250). -/
def State.aisEnd (s : State) (g : Nat) : State :=
  let s := { s with slu := { s.slu with aisGrp := s.slu.aisGrp.filter fun x => x != g } }
  if has s.slu.aisOn g then { s with slu := { s.slu with aisOn := s.slu.aisOn.filter fun x => x != g } }.event (Ev.slu 6) else s

/-! ### Groups in a lane failure (R249, R250) -/

/-- The group holds an affected lane. -/
def State.groupHit (s : State) (g : Nat) : Bool :=
  s.isOn Reg.SLU_STATUS_FAIL && (List.range 128).any fun l =>
    s.isOn Reg.SLU_DLANE_CTL_EN 0 l && s.rd Reg.SLU_DLANE_CTL_GROUP 0 l == g && s.laneMapped l

/-- One group follows the failure: FAILED, its request for protection with PROT or AIS_PROT, and AIS with AIS or AIS_PROT. -/
def State.settleGroup (s : State) (g : Nat) : State :=
  let hit := s.groupHit g
  let ask := hit && s.rd Reg.SLU_GRP_ACTION 0 g ≥ 2
  let s := s.wr Reg.SLU_GRP_FAILED (b2n hit) 0 g
  let s :=
    if ask && !has s.slu.asked g then { s with slu := { s.slu with asked := g :: s.slu.asked } }.event (Ev.slu 7)
    else if !ask then { s with slu := { s.slu with asked := s.slu.asked.filter fun x => x != g } }
    else s
  if !s.aisGroup g then (if has s.slu.aisGrp g then s.aisEnd g else s)
  else if hit && !has s.slu.aisGrp g then { s with slu := { s.slu with aisGrp := g :: s.slu.aisGrp } }
  else s

/-- The groups follow the failure; only while one stands, or has left a trace, is there anything to follow. -/
def State.settleGroups (s : State) : State :=
  if s.isOn Reg.SLU_STATUS_FAIL || !s.slu.asked.isEmpty || !s.slu.aisGrp.isEmpty || (List.range 16).any (fun g => s.isOn Reg.SLU_GRP_FAILED 0 g)
  then (List.range 16).foldl State.settleGroup s else s

/-- The record of a lane whose group has been in AIS since the declaration is an AIS record, until the failure has ended and a good frame comes;
AIS_ON is raised with the group's first. -/
def State.aisStep (s : State) (lane : Nat) (good : Bool) : Bool × State :=
  let g := s.rd Reg.SLU_DLANE_CTL_GROUP 0 lane
  if !has s.slu.aisGrp g then (false, s)
  else if !s.isOn Reg.SLU_STATUS_FAIL && good then (false, s.aisEnd g)
  else if !s.laneMapped lane then (false, s)
  else (true, if has s.slu.aisOn g then s else { s with slu := { s.slu with aisOn := g :: s.slu.aisOn } }.event (Ev.slu 5))

/-- Count the errored and missing slots of a record. -/
def State.countSlots (s : State) (lane : Nat) (l : Leg) (lost : Bool) : State :=
  let g := s.leg l
  let m := (s.cmMap false (s.cmPage false)).filter fun p => cmLane p.2 == lane
  let short := if lost then 0 else (m.filter fun p => p.1 ≥ g.nslot).length
  let err := (m.filter fun p => lost || p.1 ≥ g.nslot || g.slotBad p.1).length
  let s := (s.inc Reg.SLU_CNT_DN_ERR 0 0 err).inc Reg.SLU_CNT_DN_SHORT 0 0 short
  let s := if err = 0 then s else s.sluOnce 13
  if short = 0 then s else s.event (Ev.slu 9)

/-- A record goes to its lane's owner: into the ring in host memory, or to firmware. -/
def State.putRecord (s : State) (own addr : Nat) (r : List Byte) : State :=
  if own = 0xFF then s.emit (.fwWrite 1 addr r) else s.emits (s.dmaWrites own addr false r)

/-- The ring is full exactly when PROD - CONS, modulo 2^16, equals its capacity (R243). -/
def State.laneFull (s : State) (lane : Nat) : Bool :=
  sub16 (s.rd Reg.SLU_DLANE_PROD 0 lane) (s.rd Reg.SLU_DLANE_CONS 0 lane) == laneRoom (s.rd Reg.SLU_DLANE_SIZE 0 lane)

/-- Write one record of a lane, for frame `key` of a leg, or discard it. -/
def State.frameRecord (s : State) (lane : Nat) (l : Leg) (key : Nat) (lost : Bool) : State :=
  let own := s.rd Reg.SLU_DLANE_CTL_OWNER 0 lane
  let prod := s.rd Reg.SLU_DLANE_PROD 0 lane
  if own = 0xFF && s.pwr.asleep && !s.pwr.awake then s
  else if !s.laneOwnerUp own || s.laneFull lane then (s.inc Reg.SLU_CNT_DN_OVERRUN).sluOnce 8
  else
    let (ais, s) := s.aisStep lane (!lost && s.sluGood)
    let s := s.countSlots lane l lost
    let s := if ais then s.inc Reg.SLU_CNT_AIS_RECORDS else s
    let addr := s.rd2 Reg.SLU_DLANE_BASE_LO Reg.SLU_DLANE_BASE_HI 0 lane +
      (16 + 16 * s.widthOf false lane) * (prod % 2 ^ laneLog (s.rd Reg.SLU_DLANE_SIZE 0 lane))
    (s.putRecord own addr (s.laneRecord lane l key ais lost)).wr Reg.SLU_DLANE_PROD (prod + 1) 0 lane

/-- SLUICE_RECORD_WRITE: 20.000 us after the marker of the frame, one record for each enabled lane and D0 frame. A frame of the old leg that was
incomplete at a switch gives its LOST record first (R251). -/
def State.recordWrite (s : State) (lane : Nat) : State :=
  if !s.isOn Reg.SLU_CTL_EN || !s.isOn Reg.SLU_DLANE_CTL_EN 0 lane then s else
  match s.slu.late.find? fun x => x.2.2 == lane with
  | some (l, key, _) => { s with slu := { s.slu with late := s.slu.late.filter fun x => x.2.2 != lane } }.frameRecord lane l key true
  | none =>
    if has s.slu.wrote lane then s else
    let v := s.wave s.sluLeg 0
    { s with slu := { s.slu with wrote := lane :: s.slu.wrote } }.frameRecord lane s.sluLeg (8 * v.sfc + v.fn) s.sluLost

/-- A D0 frame of the active leg begins: the records describe it from here on, and those that the leg before it had not yet given stay due. -/
def State.sluTakes (s : State) (l : Leg) : State :=
  let o := s.sluLeg
  let v := s.wave o 0
  let left := (List.range 128).filter fun n => s.isOn Reg.SLU_DLANE_CTL_EN 0 n && !has s.slu.wrote n
  let late := if o = l then [] else left.map fun n => (o, 8 * v.sfc + v.fn, n)
  { s.wr Reg.SLU_STATUS_LEG l.n with slu := { s.slu with wrote := [], late := late } }

def execSluiceRecordWrite (lane : Nat) (s : State) : Out := .next (s.recordWrite lane)

/-! ### Upstream records and bursts (R244, R245, R62, R238) -/

/-- A lane has no record for the frame: its slots there are zero. -/
def State.underrun (s : State) : State := (s.inc Reg.SLU_CNT_UP_UNDERRUN).sluOnce 10

/-- Read the entry at CONS for a frame (R244); `data` is what the memory of the owner gives. -/
def State.laneRead (s : State) (lane : Nat) (data : HostRead) : State :=
  let own := s.rd Reg.SLU_ULANE_CTL_OWNER 0 lane
  let cons := s.rd Reg.SLU_ULANE_CONS 0 lane
  if !s.laneOwnerUp own || cons = s.rd Reg.SLU_ULANE_PROD 0 lane then s.underrun else
  let n := 16 * s.widthOf true lane
  let addr := s.rd2 Reg.SLU_ULANE_BASE_LO Reg.SLU_ULANE_BASE_HI 0 lane + n * (cons % 2 ^ laneLog (s.rd Reg.SLU_ULANE_SIZE 0 lane))
  let s := if own = 0xFF then s else s.askHost own addr n
  match data with
  | .data b =>
    { s.wr Reg.SLU_ULANE_CONS (cons + 1) 0 lane with slu := { s.slu with nextRecs := Tab.put [] lane (slice b 0 n) s.slu.nextRecs } }
  | .fail why => (s.underrun.inc Reg.SLU_CNT_UP_FETCH_FAIL).readFault own lane lane 3 addr why

/-- SLUICE_RECORD_READ: 50.000 us before upstream frame `key` of the active leg starts, one read for each enabled lane; firmware's lanes are
read for awake superframes only (R252). -/
def State.recordRead (s : State) (lane key : Nat) (data : HostRead) : State :=
  let l := s.active
  let g := s.leg l
  if !s.isOn Reg.SLU_CTL_EN || !s.isOn Reg.SLU_ULANE_CTL_EN 0 lane || key ≤ 8 * g.upSfc + g.upFn ||
     (s.rd Reg.SLU_ULANE_CTL_OWNER 0 lane = 0xFF && s.pwr.asleep && !s.awakeSf (key / 8)) then s else
  let s := if s.slu.nextFor = 2 * key + l.n then s else { s with slu := { s.slu with nextFor := 2 * key + l.n, nextRecs := [], nextSeen := [] } }
  if has s.slu.nextSeen lane then s else
  { s with slu := { s.slu with nextSeen := lane :: s.slu.nextSeen } }.laneRead lane data

def execSluiceRecordRead (lane : Nat) (sfc : BitVec 48) (fn : Nat) (data : HostRead) (s : State) : Out :=
  .next (s.recordRead lane (8 * sfc.toNat + fn % 8) data)

/-- Slots of a SLUICE burst (R62). -/
def sluiceCount (a : Alloc) : Nat := (burstCapacity a.prof.dlmGrains a.len - 16) / 16

/-- The position of a SLUICE burst's first slot: after the slots of the frame's earlier SLUICE bursts on U0, in BWmap order. -/
def State.sluiceFrom (s : State) (l : Leg) (a : Alloc) : Nat :=
  let before := (s.leg l).allocs.takeWhile fun x => !x.same a
  (before.filter fun x => x.kind == .sluice && x.wave == 0 && x.sfc == a.sfc && x.fn == a.fn && x.decided && x.hgOpen && !x.withdrawn).foldl
    (fun n x => n + sluiceCount x) 0

/-- The 16 bytes of an upstream position. -/
def State.upSlot (s : State) (pos : Nat) : List Byte :=
  let e := if pos < 4096 then s.cmEntry true (s.cmPage true) pos else 0
  if cmValid e then slice (Tab.get [] (cmLane e) s.slu.recs) (16 * cmOrder e) 16 else zeros 16

/-- The slots of a SLUICE burst, counted; on U1 every slot is zero. -/
def State.sluiceSlots (s : State) (l : Leg) (a : Alloc) : List Byte × State :=
  let k := sluiceCount a
  if a.wave ≠ 0 then (zeros (16 * k), (s.inc Reg.SLU_CNT_UP_U1).event (Ev.slu 12)) else
  let p := s.sluiceFrom l a
  let ps := (List.range k).map fun i => p + i
  let sent := ((s.cmMap true (s.cmPage true)).filter fun m => p ≤ m.1 && m.1 < p + k).length
  let data := if s.isOn Reg.SLU_CTL_EN then ps.flatMap s.upSlot else zeros (16 * k)
  let s := ((s.inc Reg.SLU_CNT_UP_GRANTED 0 0 k).inc Reg.SLU_CNT_UP_SENT 0 0 sent).inc Reg.SLU_CNT_UP_UNMAPPED 0 0 (k - sent)
  (data, { s with slu := { s.slu with upCarried := s.slu.upCarried + sent } })

/-- The information bytes of a SLUICE burst. -/
def State.sluiceInfo (s : State) (l : Leg) (a : Alloc) : List Byte × State :=
  let (slots, s) := s.sluiceSlots l a
  let cap := burstCapacity a.prof.dlmGrains a.len
  let head := beBytes 8 (burstHeader (s.rd Reg.ACT_STATUS_TN l.n) a.id 0 0) ++ slots ++ beBytes 4 (crc32 (byteBits slots)) ++ zeros 4
  (head ++ idleFill (cap / 9240 + 2) (cap - head.length), s)

/-! ### The ledger (R253) -/

/-- SLU_STATUS.MISMATCH bits of the equations that fail, modulo 2^64. -/
def State.sluFails (s : State) : Nat :=
  let g := fun (r : Row) => s.rd r
  b2n (g Reg.SLU_CNT_DN_RX ≠ (g Reg.SLU_CNT_DN_MAPPED + g Reg.SLU_CNT_DN_UNMAPPED) % 2 ^ 64) +
  2 * b2n (g Reg.SLU_CNT_UP_GRANTED ≠ (g Reg.SLU_CNT_UP_SENT + g Reg.SLU_CNT_UP_UNMAPPED) % 2 ^ 64) +
  4 * b2n (g Reg.SLU_CNT_UP_MAPPED ≠ (g Reg.SLU_CNT_UP_SENT + g Reg.SLU_CNT_UP_SHORT) % 2 ^ 64)

/-- A frame boundary checks the equations of `mask`, those whose columns are whole there: the downstream one at a D0 frame, the upstream ones at
an upstream frame. Each that fails sets its bit, is counted and raised. (DEDUCED, log 20.) -/
def State.sluAudit (s : State) (mask : Nat) : State :=
  let f := s.sluFails.land mask
  (List.range 3).foldl (fun s i =>
    if bit f i = 0 then s
    else ((s.wr Reg.SLU_STATUS_MISMATCH (Nat.lor (s.rd Reg.SLU_STATUS_MISMATCH) (2 ^ i))).inc Reg.SLU_CNT_AUD_FAIL).event (Ev.slu 15)) s

/-- The valid upstream entries in the page in force. -/
def State.upMappedNow (s : State) : Nat := (s.cmMap true (s.cmPage true)).length

/-- An upstream frame of the active leg starts: the last one's mapped positions are accounted, the upstream ledger is checked, and the lane
records that were read for this frame are placed in it. -/
def State.sluFrame (s : State) (l : Leg) (key : Nat) : State :=
  let u := s.slu
  let s := if !u.upOn then s else
    let short := u.upMapped - u.upCarried
    let s := (s.inc Reg.SLU_CNT_UP_MAPPED 0 0 u.upMapped).inc Reg.SLU_CNT_UP_SHORT 0 0 short
    let s := if short = 0 then s else s.sluOnce 11
    s.sluAudit 6
  let mine := s.slu.nextFor = 2 * key + l.n
  { s with slu := { s.slu with upOn := true, upMapped := s.upMappedNow, upCarried := 0, recs := if mine then s.slu.nextRecs else [] } }

/-! ### Swaps (R246, R247) -/

def State.swapRefusal (s : State) (dn up : Bool) : Nat :=
  let eff := s.rd2 Reg.SLU_SWAP_SFC_LO_EFF_LO Reg.SLU_SWAP_SFC_HI_EFF_HI
  let cur := s.cur s.active
  if s.swapPending then St.busy
  else if !dn && !up then St.invalid
  else if (dn && !s.wellFormedPage false (1 - s.cmPage false)) || (up && !s.wellFormedPage true (1 - s.cmPage true)) then St.invalid
  else if eff < cur + 2 || eff > cur + 4096 then St.outOfWindow
  else St.ok

/-- SWAP_REQUEST: a write of SLU_SWAP_CTL with REQ. -/
def State.swapRequest (s : State) (v : Nat) : State :=
  let dn := bit v 1 == 1
  let up := bit v 2 == 1
  let s := (s.wr Reg.SLU_SWAP_CTL_DN (bit v 1)).wr Reg.SLU_SWAP_CTL_UP (bit v 2)
  let st := s.swapRefusal dn up
  let s := s.wr Reg.SLU_SWAP_CTL_RESULT st
  if st ≠ St.ok then s.event (Ev.slu 1) else
  let eff := s.rd2 Reg.SLU_SWAP_SFC_LO_EFF_LO Reg.SLU_SWAP_SFC_HI_EFF_HI
  { s with slu := { s.slu with swapEff := eff, swapDn := dn, swapUp := up, dnDone := false, upDone := false } }.wr Reg.SLU_STATUS_SWAP_PEND 1

def execSwapRequest (ag : Agent) (v : BitVec 32) (s : State) : Out := .next <| s.reg ag fun s => s.swapRequest v.toNat

/-- A pending swap is cancelled, by CANCEL or by a protection switch. -/
def State.swapDrop (s : State) : State :=
  if !s.swapPending then s else ((s.wr Reg.SLU_STATUS_SWAP_PEND 0).wr Reg.SLU_SWAP_CTL_RESULT St.cancelled).event (Ev.slu 2)

/-- CANCEL has no effect once a named direction has swapped. -/
def State.swapCancel (s : State) : State := if s.slu.dnDone || s.slu.upDone then s else s.swapDrop

def execSwapCancel (ag : Agent) (s : State) : Out := .next <| s.reg ag State.swapCancel

/-- A direction's boundary: D0 frame (EFF_SFC, 0), or upstream frame (EFF_SFC, 0), of the active leg (R16, R247). -/
def State.swapDue (s : State) (up : Bool) : Bool :=
  let g := s.leg s.active
  if up then s.slu.upOn && 8 * g.upSfc + g.upFn == 8 * s.slu.swapEff
  else 8 * (s.wave s.active 0).sfc + (s.wave s.active 0).fn == 8 * s.slu.swapEff

/-- A direction exchanges its pages; the positions mapped in the upstream frame that begins are those of the new page. -/
def State.swapPages (s : State) (up : Bool) : State :=
  if up then
    let s := s.wr Reg.SLU_STATUS_UP_PAGE (1 - s.cmPage true)
    { s with slu := { s.slu with upDone := true, upMapped := s.upMappedNow } }
  else { s.wr Reg.SLU_STATUS_DN_PAGE (1 - s.cmPage false) with slu := { s.slu with dnDone := true } }

/-- SWAP_EFFECTIVE: EFF_SFC has come for a direction; SWAP_DONE follows the last. -/
def State.swapEffective (s : State) (up : Bool) : State :=
  if !s.swapPending || (if up then !s.slu.swapUp || s.slu.upDone else !s.slu.swapDn || s.slu.dnDone) || !s.swapDue up then s else
  let s := s.swapPages up
  if (s.slu.swapDn && !s.slu.dnDone) || (s.slu.swapUp && !s.slu.upDone) then s.settleGroups
  else (((s.wr Reg.SLU_STATUS_SWAP_PEND 0).inc Reg.SLU_CNT_SWAPS).event (Ev.slu 0)).settleGroups

def execSwapEffective (up : Bool) (s : State) : Out := .next (s.swapEffective up)

/-! ### Lane failure (R249) -/

/-- The active leg has LOS, LOF or SF. -/
def State.laneFail (s : State) : Bool :=
  s.isOn Reg.PROT_DEF_LOS s.active.n || s.isOn Reg.PROT_DEF_LOF s.active.n || s.isOn Reg.PROT_DEF_SF s.active.n

/-- Follow the lane failure, and with it every group. -/
def State.settleSluice (s : State) : State :=
  let fail := s.laneFail && s.isOn Reg.SLU_CTL_EN
  let s := if fail = s.isOn Reg.SLU_STATUS_FAIL then s else (s.wr Reg.SLU_STATUS_FAIL (b2n fail)).event (Ev.slu (if fail then 3 else 4))
  s.settleGroups

/-- Some failed group asks for an automatic switch. -/
def State.sluProtect (s : State) : Bool :=
  s.isOn Reg.SLU_STATUS_FAIL && (List.range 16).any fun g => s.isOn Reg.SLU_GRP_FAILED 0 g && s.rd Reg.SLU_GRP_ACTION 0 g ≥ 2

end Sys2Proof.Machine
end

