-- ==== Sys2Proof/Machine/LegBase.lean ====
section
/-! DEFINITION. What several families do to a leg: its activation state (R73, R74), withdrawal of a scheduled burst, the headgate's pins
and cut windows (R92 to R96), lane modes and detectors (R255, R391, R393), loss of delineation (R34, R74). -/

namespace Sys2Proof.Machine

/-! ### Defects as register bits (R254, PROT_DEF) -/

/-- Whole frames that a wave has been in SYNC when D0's marker arrives; a wave that starts after D0 has its frame end with D0's. -/
def Wave.frames (v : Wave) (d0 : Bool) : Nat := if d0 || v.words < 0 then v.syncFr - 1 else v.syncFr

/-- The defect word of a leg, bits [19:0] of PROT_DEF_x. -/
def State.defWord (s : State) (l : Leg) : Nat :=
  s.rd Reg.PROT_DEF_LOS l.n + 16 * s.rd Reg.PROT_DEF_LOF l.n + 256 * s.rd Reg.PROT_DEF_SF l.n + 4096 * s.rd Reg.PROT_DEF_SD l.n +
  65536 * s.rd Reg.PROT_DEF_LOSS_OF_SYNC l.n + 131072 * s.rd Reg.PROT_DEF_RNG_LOSS l.n + 262144 * s.rd Reg.PROT_DEF_ROGUE l.n +
  524288 * s.rd Reg.PROT_DEF_ESTOP l.n

def State.clrBit (s : State) (R : Row) (l i : Nat) : State :=
  if bit (s.rd R l) i = 1 then s.wr R (s.rd R l - 2 ^ i) l else s

/-- The per-wave defects: the field, its event (R277) and its place in LATCHED. -/
structure WaveDef where
  row : Row
  ev : Nat
  place : Nat

def defLos : WaveDef := ⟨Reg.PROT_DEF_LOS, 0, 0⟩
def defLof : WaveDef := ⟨Reg.PROT_DEF_LOF, 1, 4⟩
def defSf : WaveDef := ⟨Reg.PROT_DEF_SF, 2, 8⟩
def defSd : WaveDef := ⟨Reg.PROT_DEF_SD, 3, 12⟩

/-- Declare a wave's defect: LATCHED, its event once a superframe, and the second it falls in. -/
def State.declare (s : State) (l : Leg) (w : Nat) (d : WaveDef) : State :=
  if bit (s.rd d.row l.n) w = 1 then s else
  let s := (s.setBit d.row l.n w).setBit Reg.PROT_DEF_LATCHED l.n (d.place + w)
  let s := s.once l (Ev.wave l w d.ev) 0
  let s := if d.ev = 1 then s.pmCount l w 2 1 else s
  if d.ev ≤ 1 then s.updWave l w fun v => { v with losSec := true } else s

/-- Some defect of a wave stands. -/
def State.waveDefect (s : State) (l : Leg) (w : Nat) : Bool :=
  [defLos, defLof, defSf, defSd].any fun d => bit (s.rd d.row l.n) w == 1

/-- Clear a wave's defect; CLEAR follows the wave's last. -/
def State.clearDefect (s : State) (l : Leg) (w : Nat) (d : WaveDef) : State :=
  if bit (s.rd d.row l.n) w = 0 then s else
  let s := s.clrBit d.row l.n w
  if s.waveDefect l w then s else s.event (Ev.wave l w 4)

/-- The defects of a wave whose detectors stop are cleared without CLEAR, and the SF and SD windows restart (R255). -/
def State.stopDetectors (s : State) (l : Leg) (w : Nat) : State :=
  let s := [defLos, defLof, defSf, defSd].foldl (fun s d => s.clrBit d.row l.n w) s
  s.updWave l w fun v => { v with sfGood := 0, sdWin := [], uncorr := 0, syncFr := 0, whole := false }

/-- Declare a leg's defect: the field, its place in LATCHED, its event. -/
def State.declareLeg (s : State) (l : Leg) (R : Row) (place ev : Nat) : State :=
  if s.isOn R l.n then s else ((s.wr R 1 l.n).setBit Reg.PROT_DEF_LATCHED l.n place).event (Ev.leg l ev)

/-! ### Activation states (R73 to R75) -/

/-- Enter an activation state. Leaving RANGED declares RNG_LOSS (R254) and forgets that a fit was ever valid (R108). -/
def State.setAct (s : State) (l : Leg) (st : Nat) : State :=
  let old := s.rd Reg.ACT_STATUS_STATE l.n
  if old = st then s else
  let s := (s.wr Reg.ACT_STATUS_STATE st l.n).wr Reg.ACT_STATUS_RANGED (b2n (st = 5)) l.n
  let s := (s.wr Reg.HG_STATUS_RANGED (b2n (st = 5)) l.n).event (Ev.act l 0)
  if old = 5 then (s.upd l fun g => { g with fitEver := false }).declareLeg l Reg.PROT_DEF_RNG_LOSS 17 1 else s

/-- A contention burst of a leg that is scheduled and whose window has not opened. -/
def Alloc.waits (a : Alloc) : Bool := a.sched && !a.opened

/-- Withdraw any scheduled contention burst. -/
def State.withdraw (s : State) (l : Leg) : State :=
  s.upd l fun g => { g with scheduled := false, allocs := g.allocs.filter fun a => !a.waits }

/-- Drop the terminal number, the container IDs, any pending EQD_SET and the EqD; the attempt count and skip go to zero (R74). -/
def State.dropNumber (s : State) (l : Leg) : State :=
  let s := s.withdraw l
  let s := (((s.wr Reg.ACT_STATUS_TN_VALID 0 l.n).wr Reg.ACT_STATUS_TN 0 l.n).wr Reg.HG_STATUS_TN_VALID 0 l.n).wr Reg.HG_STATUS_TN 0 l.n
  let s := (List.range 128).foldl (fun s c =>
    ((s.wr Reg.HG_LATCH_ALLOC_ID 0 l.n c).wr Reg.HG_LATCH_VALID 0 l.n c).wr Reg.HG_LATCH_PENDING 0 l.n c) s
  let s := ((s.wr Reg.ACT_EQD_EQD_FINE 0 l.n).wr Reg.ACT_EQD_EQD_GRAINS 0 l.n).wr Reg.ACT_EQD_PENDING 0 l.n
  let s := ((s.wr Reg.ACT_EQD_NEXT 0 l.n).wr Reg.ACT_EQD_EFF_LO 0 l.n).wr Reg.ACT_EQD_EFF_HI 0 l.n
  let s := (s.wr Reg.ACT_ATTEMPT_ATTEMPTS 0 l.n).wr Reg.ACT_ATTEMPT_SKIP_LEFT 0 l.n
  s.upd l fun g => { g with ctn := [], ctnPend := [], ctnDue := [], hgPend := [], hgDue := [], eqdPend := [], eqdOld := [], asgAck := none,
                            wakeSent := false }

/-! ### The headgate's pins (R93, R95, R96) -/

def State.win (s : State) (l : Leg) (u : Nat) : Option Win := if u = 0 then (s.leg l).win0 else (s.leg l).win1

def State.setWin (s : State) (l : Leg) (u : Nat) (w : Option Win) : State :=
  let s := s.upd l fun g => if u = 0 then { g with win0 := w } else { g with win1 := w }
  s.wr Reg.HG_STATUS_BEN (b2n (s.leg l).win0.isSome + 2 * b2n (s.leg l).win1.isSome) l.n

/-- The instant to which a wave's last window and its extinction tail extend (R95). -/
def State.tailEnd (s : State) (l : Leg) (u : Nat) : Nat := if u = 0 then (s.leg l).tail0 else (s.leg l).tail1

/-- A window closes: for the rogue latch it extends TAIL grains further (R95), a grain being 25/18 ns. -/
def State.closeWin (s : State) (l : Leg) (u : Nat) : State :=
  let t := s.run16 + (s.rd Reg.HG_ROGUE_CTL_TAIL l.n * 25 * 65536 + 17) / 18
  (s.upd l fun g => if u = 0 then { g with tail0 := t } else { g with tail1 := t }).setWin l u none

/-- The burst that activation scheduled in a window has ended; a wake burst's 4 SF answer time begins (R74, R79). -/
def State.burstOver (s : State) (l : Leg) (a : Alloc) : State :=
  if a.sched then s.upd l fun g => { g with scheduled := false, wakeSent := a.kind == .wake } else s

/-- MA_TXDIS: asserted by FORCE_TXDIS and both latches, and from power-on until TX_ALLOW = 1 with neither latch set. (DEDUCED, log 37.) -/
def State.settlePins (s : State) (l : Leg) : State :=
  if s.isOn Reg.HG_CTL_FORCE_TXDIS l.n || s.isOn Reg.HG_STATUS_ROGUE l.n || s.isOn Reg.HG_STATUS_ESTOP l.n then
    s.wr Reg.HG_STATUS_TXDIS 1 l.n
  else if s.isOn Reg.HG_CTL_TX_ALLOW l.n then s.wr Reg.HG_STATUS_TXDIS 0 l.n
  else s

/-- Burst-on time of a laser (R404). -/
def State.burnt (s : State) (l : Leg) (u ns : Nat) : State := s.inc Reg.OPT_LIFE_ON_NS l.n u ns

/-- Grains of an allocation's window. -/
def Alloc.grains (a : Alloc) : Nat := a.prof.preGrains + if a.sched then a.prof.dlmGrains + 17 else a.len

/-- Nanoseconds of the window, rounded down: a grain is 25/18 ns. -/
def Alloc.winNs (a : Alloc) : Nat := a.grains * 25 / 18

/-- Mark the lane of an upstream wave. -/
def State.txLane (s : State) (l : Leg) (u mode : Nat) : State := s.wr Reg.OPT_LANE_MODE mode l.n (4 + u)

/-- Cut short the window that is open on a wave (R92). -/
def State.cutWindow (s : State) (l : Leg) (u : Nat) : State :=
  match s.win l u with
  | none => s
  | some w =>
    let s := (s.closeWin l u).burnt l u (min ((s.run16 - w.openedAt) / 65536) (w.alloc.winNs))
    let s := ((s.inc Reg.HG_CNT_TX_ABORTED l.n).once l (Ev.wave l (4 + u) 1) 0).burstOver l w.alloc
    match s.bursts.find? fun b => b.leg == l && b.committed && b.alloc.same w.alloc with
    | some b => s.endBurst b true
    | none => s

def State.cutWindows (s : State) (l : Leg) : State := (s.cutWindow l 0).cutWindow l 1

/-! ### Lane modes (R391) -/

/-- The receive and transmit lanes of a leg are enabled: a module is present, LANES_EN is 1 and no failed attempt has disabled them. -/
def State.lanesOn (s : State) (l : Leg) : Bool :=
  s.isOn Reg.OPT_STATUS_PRESENT l.n && s.isOn Reg.OPT_CTL_LANES_EN l.n && s.rd Reg.OPT_STATUS_BRINGUP l.n ≠ 0

/-- The leg kept in sleep (R369). -/
def State.kept (s : State) : Leg := Leg.ofBit (s.rd Reg.PWR_STATUS_KEPT_LEG)

/-- The mode of a receive lane: 0 OFF, 1 FULL, 2 TRACK, 3 DOZE. The leg left by a switch stays FULL to its next frame boundary (R392). -/
def State.rxMode (s : State) (l : Leg) (w : Nat) : Nat :=
  if !s.lanesOn l || s.rd Reg.PWR_STATUS_STATE ≥ 4 || s.pwr.off then 0
  else if s.pwr.asleep then (if s.kept ≠ l ∨ w ≠ 0 then 0 else if s.pwr.awake then 1 else 3)
  else if s.active = l ∨ (s.wave l w).deliver then 1
  else 2

/-- The mode of a transmit lane outside its windows: 0 OFF, 4 GATED. In sleep it runs over the upstream frames of awake superframes. -/
def State.txMode (s : State) (l : Leg) : Nat :=
  if !s.lanesOn l || s.rd Reg.PWR_STATUS_STATE ≥ 4 || s.pwr.off || !s.isOn Reg.ACT_CTL_ENABLE l.n || s.isOn Reg.HG_STATUS_ROGUE l.n ||
     s.isOn Reg.HG_STATUS_ESTOP l.n || s.isOn Reg.HG_CTL_FORCE_TXDIS l.n || (s.pwr.asleep && !(s.kept == l && s.awakeSf (s.leg l).upSfc)) then 0
  else 4

/-- The detectors of a wave run in FULL and TRACK. -/
def State.detecting (s : State) (l : Leg) (w : Nat) : Bool := let m := s.rd Reg.OPT_LANE_MODE l.n w; m == 1 || m == 2

/-- A wave whose lane is OFF has LOS (R255). -/
def State.darkLane (s : State) (l : Leg) : Bool :=
  !s.pwr.asleep && s.rd Reg.PWR_STATUS_STATE < 4 &&
  (!s.isOn Reg.OPT_STATUS_PRESENT l.n || (!s.isOn Reg.OPT_CTL_LANES_EN l.n && s.isOn Reg.ACT_CTL_ENABLE l.n))

/-! ### Loss of delineation (R34, R74) -/

/-- What a D0 frame announced and had still to come is forgotten. -/
def State.dropFrame (s : State) (l : Leg) : State :=
  s.upd l fun g => { g with partOk := false, bwLeft := 0, todp := false, nmsg := 0, nslot := 0, slotBase := 0, chanBase := 0 }

/-- A wave leaves SYNC: LOSS_OF_SYNC ends (R254), and with the active leg's D0 the time goes to holdover (R120). -/
def State.syncOver (s : State) (l : Leg) (w : Nat) : State :=
  if (s.wave l w).deln ≠ .sync then s else
  let s := (s.wr Reg.PROT_DEF_LOSS_OF_SYNC 0 l.n).upd l fun g => { g with losyBad := 0, losyGood := 0, alignRun := 0 }
  if w = 0 && l = s.active then s.toHoldover else s

/-- A wave returns to HUNT. When D0 leaves SYNC an unfinished registration goes back to listening. -/
def State.toHunt (s : State) (l : Leg) (w : Nat) : State :=
  let s := s.syncOver l w
  let s := s.updWave l w fun v => { v with deln := .hunt, confirm := 0, miss := 0, syncFr := 0, whole := false, deliver := false,
                                           hunting := false, lastSeq := none, badCw := [] }
  let s := (s.wr Reg.OPT_DSK_CAND_VALID 0 l.n w).wr Reg.OPT_DSK_CAND_OFS 0 l.n w
  if w ≠ 0 then s else
  let s := s.dropFrame l
  let st := s.rd Reg.ACT_STATUS_STATE l.n
  if st = 1 ∨ st = 2 ∨ st = 3 then ((s.withdraw l).wr Reg.ACT_ATTEMPT_SKIP_LEFT 0 l.n).setAct l 1 else s

/-- Set one receive lane's mode; a lane that stops loses its wave, one that dozes keeps the flywheel (R372, R392). -/
def State.settleRx (s : State) (l : Leg) (w : Nat) : State :=
  let old := s.rd Reg.OPT_LANE_MODE l.n w
  let new := s.rxMode l w
  let ran := s.detecting l w
  let s := s.wr Reg.OPT_LANE_MODE new l.n w
  let s := if ran && !s.detecting l w then s.stopDetectors l w else s
  let s := if w = 0 && !s.detecting l 0 then s.dropFrame l else s
  let s := if old ≠ 0 && new = 0 then s.toHunt l w else s
  if new ≠ 0 then s
  else if s.darkLane l then s.declare l w defLos
  else s.clrBit Reg.PROT_DEF_LOS l.n w

/-- Set one transmit lane's mode. -/
def State.settleTx (s : State) (l : Leg) (u : Nat) : State :=
  let m := s.txMode l
  if m = 4 && s.rd Reg.OPT_LANE_MODE l.n (4 + u) = 5 then s else s.txLane l u m

/-- Follow R391 and R255 on a leg. -/
def State.settleLanes (s : State) (l : Leg) : State :=
  let s := [0, 1, 2, 3].foldl (fun s w => s.settleRx l w) s
  (s.settleTx l 0).settleTx l 1

end Sys2Proof.Machine
end

