-- ==== Sys2Proof/Machine/Grants.lean ====
section
/-! DEFINITION. The BWmap: acceptance of allocation structures (R40 to R42), registration and wake windows (R74 to R79), and the decisions
of the headgate and the scheduler (R43, R84, R87 to R91, R264). -/

namespace Sys2Proof.Machine

/-! ### Upstream frames -/

/-- An upstream frame as one number: 8 x superframe count + frame number. -/
def upKey (sfc fn : Nat) : Nat := 8 * sfc + fn

def Alloc.key (a : Alloc) : Nat := upKey a.sfc a.fn

/-- The present D0 frame of a leg as one number. -/
def State.d0Key (s : State) (l : Leg) : Nat := upKey (s.wave l 0).sfc (s.wave l 0).fn

/-- In sleep, and after a wake until its request is answered, the kept leg uses only its awake superframes for grants (R371, R373). -/
def State.grantSf (s : State) (l : Leg) (sfc : Nat) : Bool :=
  if s.kept == l && (s.pwr.asleep || s.pwr.wakeReq.isSome) then s.awakeSf sfc else true

/-! ### The latches in force for an upstream frame (R81) -/

/-- The scheduler's container ID of a slot at a superframe: ID + 1, or 0. -/
def State.ctnAt (s : State) (l : Leg) (slot sfc : Nat) : Nat :=
  inForce sfc (inForce sfc (Tab.get 0 slot (s.leg l).ctn) (Tab.get [] slot (s.leg l).ctnDue)) (Tab.get [] slot (s.leg l).ctnPend)

/-- What the headgate's latch of a slot holds for the current upstream frame: ID + 1, or 0. -/
def State.hgNow (s : State) (l : Leg) (slot : Nat) : Nat :=
  if s.isOn Reg.HG_LATCH_VALID l.n slot then s.rd Reg.HG_LATCH_ALLOC_ID l.n slot + 1 else 0

/-- The headgate's own container ID of a slot at a superframe. -/
def State.hgAt (s : State) (l : Leg) (slot sfc : Nat) : Nat :=
  inForce sfc (inForce sfc (s.hgNow l slot) (Tab.get [] slot (s.leg l).hgDue)) (Tab.get [] slot (s.leg l).hgPend)

/-- Upstream superframe sfc begins: the changes that governed it from afar are now the slot's latches. -/
def State.latchSlot (s : State) (l : Leg) (slot sfc : Nat) : State :=
  let late := fun (q : List (Pend Nat)) => q.filter fun x => sfc < x.eff
  let c := inForce sfc (Tab.get 0 slot (s.leg l).ctn) (Tab.get [] slot (s.leg l).ctnDue)
  let h := inForce sfc (s.hgNow l slot) (Tab.get [] slot (s.leg l).hgDue)
  let s := s.upd l fun g => { g with ctn := Tab.put 0 slot c g.ctn, ctnDue := Tab.put [] slot (late (Tab.get [] slot g.ctnDue)) g.ctnDue,
                                     hgDue := Tab.put [] slot (late (Tab.get [] slot g.hgDue)) g.hgDue }
  ((s.wr Reg.HG_LATCH_ALLOC_ID (h - 1) l.n slot).wr Reg.HG_LATCH_VALID (b2n (h ≠ 0)) l.n slot).wr Reg.HG_LATCH_PENDING
    (b2n (!(Tab.get [] slot (s.leg l).hgPend).isEmpty || !(Tab.get [] slot (s.leg l).hgDue).isEmpty)) l.n slot

/-- The slots with such a change. -/
def State.latchSlots (s : State) (l : Leg) (sfc : Nat) : State :=
  (((s.leg l).ctnDue ++ (s.leg l).hgDue).map Prod.fst).foldl (fun s slot => s.latchSlot l slot sfc) s

def State.slotFor (s : State) (l : Leg) (id sfc : Nat) : Option Nat := (List.range 128).find? fun c => s.ctnAt l c sfc == id + 1
def State.hgSlotFor (s : State) (l : Leg) (id sfc : Nat) : Option Nat := (List.range 128).find? fun c => s.hgAt l c sfc == id + 1

/-- The profile in force (R69): the receiver's copy and the headgate's. -/
def State.profAt (s : State) (l : Leg) (p sfc : Nat) : Prof :=
  let n := l.n
  let cur : Prof := { waves := s.rd Reg.LINE_PROF_WAVES n p, preGrains := s.rd Reg.LINE_PROF_PRE_GRAINS n p,
                      prePat := s.rd Reg.LINE_PROF_PRE_PAT n p, dlmGrains := s.rd Reg.LINE_PROF_DLM_GRAINS n p,
                      dlmWord := s.rd2 Reg.LINE_PROF_DLM_LO Reg.LINE_PROF_DLM_HI n p, valid := s.isOn Reg.LINE_PROF_VALID n p }
  inForce sfc cur ((s.leg l).profPend.get p)

def State.hgProfAt (s : State) (l : Leg) (p sfc : Nat) : Prof := inForce sfc ((s.leg l).hgProf.get p) ((s.leg l).hgProfPend.get p)

/-! ### Windows (R88) -/

/-- The first grain of the window. -/
def Alloc.first (a : Alloc) : Nat := a.start + (if a.sched then a.offset else 0) - a.prof.preGrains

/-- The span that R42 compares. -/
def Alloc.overlaps (a b : Alloc) : Bool :=
  a.wave == b.wave && a.key == b.key && a.start - a.prof.preGrains < b.start + b.len && b.start - b.prof.preGrains < a.start + a.len

/-- An allocation that only the active leg opens (R89). -/
def Alloc.roleBound (a : Alloc) : Bool := a.kind == .data || a.kind == .sluice

/-! ### The decision (R87 to R91) -/

/-- The window would begin less than 1 us after the switch that made the leg active (R264). -/
def State.tooEarly (s : State) (l : Leg) (a : Alloc) : Bool :=
  s.isOn Reg.PROT_STATUS_LAST_CAUSE && s.grainRun l a.sfc a.fn a.first < (s.prot.roleAt + 1000) * 2 ^ 40

/-- The rows of R87 that concern one kind of allocation; `slot` is the latch that names a container. Sleep honours no data allocation (R371).
A RANGE or SLUICE window that a BWmap before an ASSIGN_TN granted to the old number meets the new number here, and stays dark.
(DEDUCED, log 65.) -/
def State.kindOk (s : State) (l : Leg) (a : Alloc) (slot : Option Nat) : Bool :=
  match a.kind with
  | .registration => !s.isOn Reg.HG_STATUS_TN_VALID l.n && a.sched
  | .wake => s.isOn Reg.HG_STATUS_TN_VALID l.n && s.isOn Reg.HG_STATUS_RANGED l.n && a.sched
  | .range => s.isOn Reg.HG_STATUS_TN_VALID l.n && a.id == 0x3000 + s.rd Reg.HG_STATUS_TN l.n
  | .sluice => s.isOn Reg.HG_STATUS_RANGED l.n && s.isOn Reg.HG_STATUS_TN_VALID l.n && a.id == 0x3000 + s.rd Reg.HG_STATUS_TN l.n
  | .data => s.isOn Reg.HG_STATUS_RANGED l.n && !s.pwr.asleep && slot.any fun c => !s.isOn Reg.HG_LATCH_MASK l.n c

/-- The rows of R87 that concern every allocation, with R26 and R360. -/
def State.mayEmit (s : State) (l : Leg) : Bool :=
  s.isOn Reg.HG_CTL_TX_ALLOW l.n && !s.isOn Reg.HG_CTL_FORCE_TXDIS l.n && !s.isOn Reg.HG_STATUS_ROGUE l.n &&
  !s.isOn Reg.HG_STATUS_ESTOP l.n && s.isOn Reg.ACT_CTL_ENABLE l.n && !s.fw.closed && s.lineService

/-- A window of frame (EFF_SFC - 1, 7) that ends after the new start of (EFF_SFC, 0) (R84). -/
def State.eqdCuts (s : State) (l : Leg) (a : Alloc) : Bool :=
  let now := s.eqdFor l a.sfc
  let next := s.eqdFor l (a.sfc + 1)
  a.fn == 7 && next < now && 64 * (a.first + a.grains) + now > 64 * 90000 + next

/-- The effective emission cap of R91. -/
def State.emitCap (s : State) (l : Leg) (u : Nat) : Nat := min (s.rd Reg.HG_CAP_CEIL l.n) (s.rd Reg.HG_CAP_LIMIT l.n u)

/-- The counter under which a window is refused, or none; `cap` says whether the cap's running sum is tested, with `used` grains. The manual
ranks no two refusals: the model takes role, other, burst length, EqD and cap in that order. (DEDUCED, log 35; DEDUCED, log 38.) -/
def State.refusal (s : State) (l : Leg) (a : Alloc) (slot : Option Nat) (cap : Bool) (used : Nat) : Option Row :=
  if a.roleBound && (s.active != l || s.tooEarly l a) then some Reg.HG_CNT_REFUSED_ROLE
  else if !s.kindOk l a slot || !s.mayEmit l then some Reg.HG_CNT_REFUSED_OTHER
  else if a.grains > min (s.rd Reg.HG_MAXB_CEIL l.n) (s.rd Reg.HG_MAXB_LIMIT l.n) then some Reg.HG_CNT_REFUSED_MAXB
  else if s.eqdCuts l a then some Reg.HG_CNT_REFUSED_EQD
  else if cap && used + a.grains > s.emitCap l a.wave then some Reg.HG_CNT_REFUSED_CAP
  else none

/-- Grains decided open for an upstream frame of a wave. -/
def State.decided (s : State) (l : Leg) (key u : Nat) : Nat :=
  (s.leg l).allocs.foldl (fun n a => if a.key == key && a.wave == u && a.hgOpen && !a.withdrawn then n + a.grains else n) 0

/-- Change the allocations that are the same as a. -/
def State.setAlloc (s : State) (l : Leg) (a : Alloc) (f : Alloc → Alloc) : State :=
  s.upd l fun g => { g with allocs := g.allocs.map fun (x : Alloc) => if x.same a then f x else x }

/-- A scheduled contention burst whose window is not opened (R74, R79). -/
def State.attemptDark (s : State) (l : Leg) (a : Alloc) : State :=
  if !a.sched then s else
  let s := s.withdraw l
  if a.kind == .registration && s.rd Reg.ACT_STATUS_STATE l.n == 2 then (s.dec Reg.ACT_ATTEMPT_ATTEMPTS l.n).setAct l 1 else s

/-- Count a refusal, and withdraw the attempt it ends. -/
def State.refuse (s : State) (l : Leg) (a : Alloc) (R : Row) : State :=
  let s := s.inc R l.n
  let s := if R = Reg.HG_CNT_REFUSED_CAP then s.event (Ev.hg l 3) else s
  (s.once l (Ev.wave l (4 + a.wave) 2) 0).attemptDark l a

/-- Enter a decision into the grain ledger (R173), whose columns cover the active leg; the grains it gives its frame stay with the allocation.
What a withdrawn allocation added stays in the cumulative columns and leaves the sum over the frame's allocations. (DESIGN CHOICE, log 66.) -/
def State.ledger (s : State) (l : Leg) (a : Alloc) (admitted hgOpen : Bool) : State :=
  let g := a.grains
  let gain := if hgOpen && (a.kind != .data || admitted) then g else 0
  let s := s.setAlloc l a fun x => { x with gain := gain }
  if l ≠ s.active then s else
  let e := s.led
  let e := if a.kind == .data then
      (if admitted then
         { e with accepted := addW e.accepted a.wave g, opened := if hgOpen then addW e.opened a.wave g else e.opened,
                  refused := if hgOpen then e.refused else addW e.refused a.wave g }
       else e)
    else if hgOpen then { e with other := addW e.other a.wave g } else e
  { s with led := e }

/-- Grains that the ledger gained over a frame's allocations on a wave. -/
def State.gainedIn (s : State) (l : Leg) (key u : Nat) : Nat :=
  (s.leg l).allocs.foldl (fun n a => if a.key == key && a.wave == u && !a.withdrawn then n + a.gain else n) 0

/-- The largest cap under which one of a frame's windows on a wave was decided open, or the present cap. -/
def State.capOf (s : State) (l : Leg) (key u : Nat) : Nat :=
  (s.leg l).allocs.foldl (fun n a => if a.key == key && a.wave == u && a.hgOpen then max n a.cap else n) (s.emitCap l u)

/-- Decide one allocation in both units. (DEDUCED, log 35.) -/
def State.decide1 (s : State) (l : Leg) (a : Alloc) : State :=
  let used := s.decided l a.key a.wave
  let slot := s.slotFor l a.id a.sfc
  let why := if (List.range 4).any (fun p => s.hgProfAt l p a.sfc == a.prof) then s.refusal l a (s.hgSlotFor l a.id a.sfc) true used
    else some Reg.HG_CNT_REFUSED_OTHER
  let admitted := a.kind == .data && (s.refusal l a slot true used).isNone
  let s := s.setAlloc l a fun x => { x with decided := true, hgOpen := why.isNone, admitted := admitted, cap := s.emitCap l a.wave }
  let s := s.ledger l a admitted why.isNone
  let s := if admitted && why.isSome then (s.inc Reg.HG_CNT_DISAGREE l.n).event (Ev.hg l 2) else s
  match why with
  | some R => if R = Reg.HG_CNT_REFUSED_ROLE && l ≠ s.active then s.setAlloc l a fun x => { x with role := true } else s.refuse l a R
  | none => s

/-- Count the role refusals of windows that have passed, for upstream frames before `key`: a window that a later switch opens is none (R264).
(DEDUCED, log 71.) -/
def State.countRole (s : State) (l : Leg) (key : Nat) : State :=
  ((s.leg l).allocs.filter fun a => a.role && !a.opened && !a.withdrawn && a.key < key).foldl (fun s a => s.refuse l a Reg.HG_CNT_REFUSED_ROLE) s

/-- Insert by START. -/
def byStart (a : Alloc) : List Alloc → List Alloc
  | [] => [a]
  | x :: r => if a.start < x.start then a :: x :: r else x :: byStart a r

def sortStart (l : List Alloc) : List Alloc := l.foldl (fun acc a => byStart a acc) []

/-- Decide what the BWmap left undecided, in order of START on each wave (R91). -/
def State.decideAll (s : State) (l : Leg) : State :=
  (sortStart ((s.leg l).allocs.filter fun a => !a.decided && !a.withdrawn)).foldl (fun s a => s.decide1 l a) s

/-- At a switch the new leg's data and SLUICE windows, dark until then, are decided again; one that stays dark is counted (R264). -/
def State.redecide (s : State) (l : Leg) : State :=
  (sortStart ((s.leg l).allocs.filter fun a => a.roleBound && a.decided && !a.hgOpen && !a.withdrawn && !a.opened)).foldl (fun s a =>
    let used := s.decided l a.key a.wave
    match s.refusal l a (s.hgSlotFor l a.id a.sfc) true used with
    | some R => if a.role then (s.setAlloc l a fun x => { x with role := false }).refuse l a R else s
    | none =>
    let admitted := a.kind == .data && (s.refusal l a (s.slotFor l a.id a.sfc) true used).isNone
    (s.setAlloc l a fun x => { x with hgOpen := true, role := false, admitted := admitted, cap := s.emitCap l a.wave }).ledger l a admitted true) s

/-! ### Contention windows (R76 to R79) -/

/-- An integer drawn uniformly from 0 to n - 1 (R77, R78). -/
def drawBelow (i n : Nat) : Nat := (Config.random i).toNat % max n 1

/-- The conditions of R76. -/
def State.eligible (s : State) (l : Leg) (key : Nat) : Bool :=
  (s.wave l 0).deln == .sync && (s.wave l 0).frames true ≥ 8 * max 1 (s.rd Reg.ACT_REG_CTL_LISTEN_SF l.n) &&
  (s.leg l).partOk && !s.isOn Reg.ACT_STATUS_TN_VALID l.n && s.fwPresent && (s.leg l).windowUsed != some key

/-- Place and schedule a contention burst in a window: the offset, and for a registration the NONCE, are drawn afresh (R77). -/
def State.schedule (s : State) (l : Leg) (a : Alloc) : State :=
  let o := drawBelow s.freeIdx (a.len - a.prof.dlmGrains - 16)
  let nonce := drawBelow (s.freeIdx + 1) (2 ^ 32)
  let s := s.setAlloc l a fun x => { x with sched := true, offset := o, nonce := nonce }
  { s.upd l fun g => { g with scheduled := true, windowUsed := some a.key } with freeIdx := s.freeIdx + 2 }

/-- A registration window (R74). -/
def State.regWindow (s : State) (l : Leg) (a : Alloc) : State :=
  let st := s.rd Reg.ACT_STATUS_STATE l.n
  if st = 3 && s.isOn Reg.ACT_ATTEMPT_SKIP_LEFT l.n then s.dec Reg.ACT_ATTEMPT_SKIP_LEFT l.n
  else if (st = 1 || st = 3) && s.eligible l a.key then ((s.schedule l a).incSat Reg.ACT_ATTEMPT_ATTEMPTS l.n).setAct l 2
  else s

/-- A wake window: used only while RANGED with a wake request outstanding (R79). -/
def State.wakeWindow (s : State) (l : Leg) (a : Alloc) : State :=
  if s.rd Reg.ACT_STATUS_STATE l.n ≠ 5 || s.pwr.wakeReq.isNone || s.kept ≠ l || (s.leg l).scheduled || (s.leg l).wakeSent ||
     !s.reqs.any (fun q => q.code == 1 && q.leg == l) then s
  else if (s.leg l).wakeSkip > 0 then s.upd l fun g => { g with wakeSkip := g.wakeSkip - 1 }
  else if (s.leg l).windowUsed = some a.key then s
  else s.schedule l a

/-! ### Acceptance (R42) -/

/-- What an ALLOC_ID names for this terminal (R41): a kind for each TYPE, or none when it is not addressed to it. -/
def State.addressee (s : State) (l : Leg) (id sfc : Nat) : Option (Nat → Option AllocKind) :=
  if id = 0x3FFF then some fun t => if t = 3 then some .registration else none
  else if id = 0x3FFE then some fun t => if t = 3 then some .wake else none
  else if id ≥ 0x3000 then
    (if s.hasTn l && id == 0x3000 + s.rd Reg.ACT_STATUS_TN l.n then
       some fun t => if t = 3 then some .range else if t = 2 then some .sluice else none
     else none)
  else if (s.slotFor l id sfc).isSome || (s.hgSlotFor l id sfc).isSome then some fun t => if t ≤ 1 then some .data else none
  else none

/-- The checks of R42 on an allocation addressed to the terminal. -/
def State.allocOk (s : State) (l : Leg) (a : Alloc) : Bool :=
  a.prof.valid && bit a.prof.waves a.wave == 1 && a.start + a.len ≤ 90000 && a.start ≥ a.prof.preGrains &&
  a.len ≥ a.prof.dlmGrains + (if a.typ = 3 then 17 else 14) && !(s.leg l).allocs.any fun b => !b.withdrawn && a.overlaps b

/-- Accept an allocation for its target frame, or count it. -/
def State.accept (s : State) (l : Leg) (id wave start len typ prof sfc fn : Nat) : State :=
  match s.addressee l id sfc with
  | none => s
  | some kinds =>
    match kinds typ with
    | none => s.inc Reg.LINE_D0CNT_ALLOC_DROPPED l.n
    | some k =>
      let a : Alloc := { sfc := sfc, fn := fn, id := id, wave := wave, start := start, len := len, typ := typ,
                         prof := s.profAt l prof sfc, kind := k, slot := (s.slotFor l id sfc).getD 0 }
      if !s.allocOk l a then s.inc Reg.LINE_D0CNT_ALLOC_DROPPED l.n
      else if !s.grantSf l sfc then s else
      let s := s.upd l fun g => { g with allocs := g.allocs ++ [a] }
      match k with
      | .registration => s.regWindow l a
      | .wake => s.wakeWindow l a
      | .range => s.upd l fun g => { g with rangeMissed := false }
      | .sluice => s
      | .data => if l = s.active then s.idleExit 10 else s

/-- ALLOCATION_STRUCTURE: one word of the BWmap that the present D0 frame's partition header announced (R36, R38), which allocates the
frame two later (R57). The decisions follow the last word of the BWmap. -/
def State.allocStruct (s : State) (l : Leg) (w : Nat) : State :=
  if !(s.leg l).partOk || (s.leg l).bwLeft == 0 then s else
  let key := s.d0Key l + 2
  let s :=
    if !hecOk w then (s.inc Reg.LINE_D0CNT_ALLOC_HEC_ERR l.n).pmCount l 0 3 1
    else s.accept l (bits w 63 50) (bit w 49) (bits w 48 32) (bits w 31 15) (bits w 14 13) (bits w 12 11) (key / 8) (key % 8)
  let last := (s.leg l).bwLeft ≤ 1
  let s := s.upd l fun g => { g with bwLeft := g.bwLeft - 1 }
  if last then s.decideAll l else s

def execAllocationStructure (l : Leg) (word : BitVec 64) (s : State) : Out := .next (s.allocStruct l word.toNat)

/-! ### ALLOC_REVISE (R57, R69, R171) -/

/-- Put the replacement in place: checked under R42 and decided; bursts that now open after it are unwound (R167). It stands after the
frame's other allocations, in the order of upstream slot positions too (R62). (DESIGN CHOICE, log 65.) -/
def State.replaceAlloc (s : State) (l : Leg) (a : Alloc) (start len : Nat) : State :=
  let b : Alloc := { a with start := start, len := len, sched := false, offset := 0, decided := false, hgOpen := false, admitted := false,
                            withdrawn := false, opened := false, nonce := 0, gain := 0, cap := 0 }
  if len = 0 then s
  else if !s.allocOk l b then s.inc Reg.LINE_D0CNT_ALLOC_DROPPED l.n
  else
    let s := (s.upd l fun g => { g with allocs := g.allocs ++ [b] }).decide1 l b
    if (s.unbuilt l).any fun x => x.same b then s.unwindAfter l b.opensAt 1 else s

/-- The revision itself: only in the D0 frame after the one that carried the allocation (R57), and not once its window has opened (R171). -/
def State.revise (s : State) (l : Leg) (m : BitVec 384) : State :=
  let key := upKey (mfield m 6 6) (mfield m 12 1 % 8)
  let u := bit (mfield m 12 1) 3
  let ignored := s.inc Reg.LINE_D0CNT_REVISE_IGNORED l.n
  match (s.leg l).allocs.find? fun a => a.key == key && a.wave == u && a.id == mfield m 13 2 % 2 ^ 14 && a.start == mfield m 15 3 % 2 ^ 17 &&
      !a.withdrawn with
  | none => ignored
  | some a =>
    if a.opened then (ignored.inc Reg.USCH_CNT_REVISE_LATE).once l (Ev.wave l (4 + u) 4) 0
    else if key ≠ s.d0Key l + 1 then ignored else
    let s := (s.unwindAlloc l a 1).setAlloc l a fun x => { x with withdrawn := true }
    let s := (s.once l (Ev.wave l (4 + u) 3) 0).attemptDark l a
    s.replaceAlloc l a (mfield m 18 3 % 2 ^ 17) (mfield m 21 3 % 2 ^ 17)

def execAllocRevise (l : Leg) (msg : BitVec 384) (s : State) : Out :=
  .next (s.inFrame l fun s => s.onMsg l 0x08 msg false 0 fun s => (.silent, s.revise l msg))

end Sys2Proof.Machine
end

