-- ==== Sys2Proof/Machine/LongOps.lean ====
section
/-! DEFINITION. Hard and soft defects (R256), monitoring states that operations hold (R268), and what ends a long operation (R331, R332,
R336, R337). -/

namespace Sys2Proof.Machine

/-! ### Hard and soft defects, availability (R256) -/

def State.hard (s : State) (l : Leg) : Bool :=
  s.isOn Reg.PROT_DEF_LOS l.n || s.isOn Reg.PROT_DEF_LOF l.n || s.isOn Reg.PROT_DEF_SF l.n || s.isOn Reg.PROT_DEF_LOSS_OF_SYNC l.n ||
  s.isOn Reg.PROT_DEF_ROGUE l.n || s.isOn Reg.PROT_DEF_ESTOP l.n

def State.soft (s : State) (l : Leg) : Bool := s.isOn Reg.PROT_DEF_SD l.n || s.isOn Reg.PROT_DEF_RNG_LOSS l.n

def State.available (s : State) (l : Leg) : Bool :=
  s.isOn Reg.ACT_CTL_ENABLE l.n && s.rd Reg.ACT_STATUS_STATE l.n == 5 && !s.hard l

/-! ### Monitoring states (R268) -/

/-- Enter a PM state; the current bins of a leg that leaves IN_SERVICE are partial. -/
def State.setPm (s : State) (l : Leg) (st : Nat) : State :=
  let s := if s.rd Reg.PM_LEG_STATE l.n = 0 && st ≠ 0 then s.markBins (· == l) fun b => { b with part := true } else s
  (s.wr Reg.PM_LEG_STATE st l.n).event (Ev.leg l 6)

/-- Where a leg goes when nothing holds it in TEST any longer. -/
def State.testOver (s : State) (l : Leg) : State :=
  if s.rd Reg.PM_LEG_STATE l.n ≠ 2 || s.isOn Reg.PM_LEG_TEST l.n || s.pm.testOps.get l ≠ 0 then s
  else s.setPm l (if s.rd Reg.ACT_STATUS_STATE l.n = 5 && !s.hard l then 0 else 3)

/-- An operation that holds a leg in TEST begins or ends. -/
def State.testBegin (s : State) (l : Leg) : State := { s.setPm l 2 with pm := { s.pm with testOps := s.pm.testOps.upd l (· + 1) } }
def State.testEnd (s : State) (l : Leg) : State := { s with pm := { s.pm with testOps := s.pm.testOps.upd l (· - 1) } }.testOver l

/-! ### Long operations -/

def State.op (s : State) (i : Nat) : LongOp := Tab.get { params := [] } i s.adm.ops
def State.setOp (s : State) (i : Nat) (f : LongOp → LongOp) : State :=
  { s with adm := { s.adm with ops := Tab.put { params := [] } i (f (s.op i)) s.adm.ops } }

/-- The entry of ADM_LOP that holds a live handle. -/
def State.opOf (s : State) (h : Nat) : Option Nat := (List.range 8).find? fun i => h != 0 && s.rd Reg.ADM_LOP0_HANDLE 0 i == h

def State.opCode (s : State) (i : Nat) : Nat := s.rd Reg.ADM_LOP0_OPCODE 0 i
def State.opState (s : State) (i : Nat) : Nat := s.rd Reg.ADM_LOP0_STATE 0 i

/-- n bytes of an operation's parameters, at the command's byte offset. -/
def LongOp.par (o : LongOp) (off n : Nat) : Nat := leNat (slice o.params (off - 8) n)

/-- The leg that an operation holds in TEST: sweeps, laser characterisation and self-test. -/
def State.opLeg (s : State) (i : Nat) : Option Leg :=
  let c := s.opCode i
  let b := (s.op i).par 8 1
  if c = 0x44 ∨ c = 0x45 then some (Leg.ofBit (b % 2))
  else if c = 0x46 ∧ b ≤ 1 then some (Leg.ofBit b)
  else none

/-- Free an entry of ADM_LOP. -/
def State.freeOp (s : State) (i : Nat) : State :=
  let s := match s.opLeg i with
    | some l => (if s.opCode i = 0x44 then s.upd l fun g => { g with dtKeep := 0 } else s).testEnd l
    | none => s
  let s := ((s.wr Reg.ADM_LOP0_HANDLE 0 0 i).wr Reg.ADM_LOP0_OPCODE 0 0 i).wr Reg.ADM_LOP0_STATE 0 0 i
  let s := ((s.wr Reg.ADM_LOP1_PERMILLE 0 0 i).wr Reg.ADM_LOP1_CID 0 0 i).wr Reg.ADM_LOP2_DONE 0 0 i
  (s.wr Reg.ADM_LOP3_TOTAL 0 0 i).setOp i fun _ => { params := [] }

/-- Complete a command with its FINAL entry. -/
def State.admDone (s : State) (cid status result : Nat) : State :=
  let s := s.admPush (admEntry cid true false status 0 0 result)
  if status = St.ok then s else s.inc Reg.ADM_CNT_REFUSED

/-- A SUSPEND that waits on an operation that ends completes with CANCELLED, a CANCEL with OK. (DEDUCED, log 46.) -/
def State.endWaits (s : State) (i : Nat) : State :=
  let o := s.op i
  let s := o.suspCid.toList.foldl (fun s c => s.admDone c St.cancelled 0) s
  o.cancelCid.toList.foldl (fun s c => s.admDone c St.ok 0) s

/-- End an operation: its FINAL entry, unless a link event ended it, and the counter of its outcome. -/
def State.endOp (s : State) (i status result : Nat) : State :=
  let e := admEntry (s.rd Reg.ADM_LOP1_CID 0 i) true false status (s.rd Reg.ADM_LOP0_HANDLE 0 i) (s.rd Reg.ADM_LOP1_PERMILLE 0 i) result
  let s := s.endWaits i
  let s := if (s.op i).quiet then s else s.admPush e
  let s := if status = St.ok then s.inc Reg.ADM_CNT_LONG_OK else if status = St.cancelled then s.inc Reg.ADM_CNT_LONG_CANCELLED
    else s.inc Reg.ADM_CNT_LONG_FAILED
  s.freeOp i

/-- A switch that makes its leg active ends LASER_CHARACTERISE (R337). -/
def State.endLaser (s : State) (l : Leg) : State :=
  s.adm.ops.foldl (fun s (i, _) => if s.opCode i = 0x45 ∧ s.opLeg i = some l then s.endOp i St.cancelled 0 else s) s

/-- A 15-minute roll restarts PM_EXPORT from its first bin, at once or at its RESUME (R337). -/
def State.exportRoll (s : State) : State :=
  s.adm.ops.foldl (fun s (i, _) =>
    if s.opCode i ≠ 0x47 then s
    else if s.opState i = 1 then (s.wr Reg.ADM_LOP2_DONE 0 0 i).wr Reg.ADM_LOP1_PERMILLE 0 0 i
    else s.setOp i fun o => { o with a := 1 }) s

end Sys2Proof.Machine
end

