-- ==== Sys2Proof/Machine/Protect.lean ====
section
/-! DEFINITION. Leg protection: defects, availability, requests, hold-off and wait-to-restore, the switch, alarms and notices
(10_protection_and_monitoring.md, R254 to R268, R277). -/

namespace Sys2Proof.Machine

/-! ### Alarms (R266) -/

/-- Bits 7 to 0 of the ALARM word: the leg's defect set. -/
def State.defSet (s : State) (l : Leg) : Nat :=
  b2n (s.isOn Reg.PROT_DEF_LOS l.n) + 2 * b2n (s.isOn Reg.PROT_DEF_LOF l.n) + 4 * b2n (s.isOn Reg.PROT_DEF_LOSS_OF_SYNC l.n) +
  8 * b2n (s.isOn Reg.PROT_DEF_SF l.n) + 16 * b2n (s.isOn Reg.PROT_DEF_SD l.n) + 32 * b2n (s.isOn Reg.PROT_DEF_RNG_LOSS l.n) +
  64 * b2n (s.isOn Reg.PROT_DEF_ROGUE l.n) + 128 * b2n (s.isOn Reg.PROT_DEF_ESTOP l.n)

/-- The ALARM word that describes a leg. -/
def State.alarmWord (s : State) (l : Leg) : Nat :=
  let q := s.rd Reg.TIME_QUAL_QUALITY
  s.defSet l + 1024 * b2n (s.rd Reg.PROT_STATUS_FORCED == l.n + 1) + 2048 * b2n (s.isOn Reg.SLU_STATUS_FAIL) +
  4096 * b2n (s.isOn Reg.PROT_RR_STATUS_REASONS) + 8192 * b2n (q == 0 || q ≥ 3) + 16384 * b2n (s.active == l) + 32768 * l.n

/-- A leg that can carry a notice: RANGED, with neither rogue latch nor emergency stop. -/
def State.canNotify (s : State) (l : Leg) : Bool :=
  s.rd Reg.ACT_STATUS_STATE l.n == 5 && !s.isOn Reg.HG_STATUS_ROGUE l.n && !s.isOn Reg.HG_STATUS_ESTOP l.n

/-- Queue an ALARM about a leg on every leg that can carry one. (DESIGN CHOICE, log 22.) -/
def State.queueAlarm (s : State) (about : Leg) : State :=
  let m := mkMsg 0x84 0x8000 (beBytes 2 (s.alarmWord about))
  [Leg.a, Leg.b].foldl (fun s l => if s.canNotify l then s.upd l fun g => { g with alarms := g.alarms ++ [m] } else s) s

/-! ### Monitoring states (R268) -/

/-- A hard defect, or leaving RANGED, ends IN_SERVICE; a hard defect also restarts the 10 s run. -/
def State.settlePm (s : State) (l : Leg) : State :=
  let s := if s.hard l then { s with pm := { s.pm with clean := s.pm.clean.upd l fun _ => 0 } } else s
  if s.rd Reg.PM_LEG_STATE l.n = 0 && (s.hard l || s.rd Reg.ACT_STATUS_STATE l.n ≠ 5) then s.setPm l 3 else s

/-! ### The switch (R264) -/

/-- Every pending request last sent on the old leg moves to the new one, to be sent again there, which counts a retry; one never sent stays
(R71). Fragments of a moved TERM_REPLY that had still to go are dropped from the old leg. -/
def State.moveReqs (s : State) (old new : Leg) : State :=
  (s.reqs.filter fun q => q.leg == old && q.sent).foldl (fun s q =>
    (s.upd old fun g => { g with kxOut := g.kxOut.filter fun x => !has q.frags x }).resend q new) s

/-- Wait-to-restore ends early (R261). -/
def State.wtrCancel (s : State) : State :=
  if !s.isOn Reg.PROT_STATUS_WTR then s else
  (((s.wr Reg.PROT_STATUS_WTR 0).wr Reg.PROT_WTR_LEFT_SECONDS 0).inc Reg.PROT_CNT2_WTR_CANCELLED).event (Ev.prot 6)

/-- Everything that happens at the decision instant, for a cause code of PROT_STATUS.LAST_CAUSE. -/
def State.doSwitch (s : State) (cause : Nat) (new : Leg) : State :=
  let old := s.active
  let s := ((s.wtrCancel.wr Reg.PROT_STATUS_ACTIVE new.n).wr Reg.PROT_STATUS_SWITCHING 1).wr Reg.PROT_STATUS_LAST_CAUSE cause
  let s := ((s.wr Reg.HG_STATUS_ACTIVE 0 old.n).wr Reg.HG_STATUS_ACTIVE 1 new.n).inc Reg.PROT_CNT_SWITCHES 0 (cause - 1)
  let s := { s with prot := { s.prot with lastAuto := cause ≤ 3, holdDone := false, roleAt := s.runNs } }
  let s := s.wr Reg.PROT_STATUS_HOLDOFF 0
  let s := ((s.event (Ev.prot 0)).event (Ev.leg old 11)).event (Ev.leg new 11)
  let s := (s.unwindAll old 2).fallback (List.range 128)
  let s := ((s.redecide new).commitSwitch.swapDrop).moveReqs old new
  let s := (s.markBins (fun _ => true) fun b => { b with roleMixed := true }).endLaser new
  ((s.settleLanes old).settleLanes new).settleSluice.settleTime

/-! ### Standing requests (R257 to R262, R267) -/

/-- Some defect of the active leg that PROT_AUTO_CTL enables; on autopilot only LOS, LOF, LOSS_OF_SYNC and SF. -/
def State.autoHard (s : State) : Bool :=
  let l := s.active
  let m := s.rd Reg.PROT_AUTO_CTL_MASK
  (bit m 0 == 1 && s.isOn Reg.PROT_DEF_LOS l.n) || (bit m 1 == 1 && s.isOn Reg.PROT_DEF_LOF l.n) ||
  (bit m 2 == 1 && s.isOn Reg.PROT_DEF_LOSS_OF_SYNC l.n) || (bit m 3 == 1 && s.isOn Reg.PROT_DEF_SF l.n) ||
  (s.fwPresent && ((bit m 4 == 1 && s.isOn Reg.PROT_DEF_ROGUE l.n) || (bit m 5 == 1 && s.isOn Reg.PROT_DEF_ESTOP l.n)))

/-- SD on the active leg, when SD_SWITCH is set. -/
def State.autoSd (s : State) : Bool := s.isOn Reg.PROT_CTL_SD_SWITCH && s.isOn Reg.PROT_DEF_SD s.active.n && s.fwPresent

/-- An AUTO_HARD or LANE request stands: its hold-off is over. -/
def State.rank4 (s : State) : Bool := (s.autoHard || s.sluProtect) && s.prot.holdDone

/-- The smallest rank that stands (R257). -/
def State.standing (s : State) : Nat :=
  if s.isOn Reg.PROT_STATUS_FORCED then 1 else if s.rank4 then 4 else if s.autoSd then 5 else 8

/-- Hold-off (R258). (DEDUCED, log 36.) -/
def State.settleHold (s : State) : State :=
  let want := s.autoHard || s.sluProtect
  if want then
    if s.isOn Reg.PROT_STATUS_HOLDOFF || s.prot.holdDone then s
    else if s.rd Reg.PROT_CTL_HOLDOFF = 0 then { s with prot := { s.prot with holdDone := true } }
    else (s.wr Reg.PROT_STATUS_HOLDOFF 1).event (Ev.prot 3)
  else
    let s := { s with prot := { s.prot with holdDone := false } }
    if s.isOn Reg.PROT_STATUS_HOLDOFF then ((s.wr Reg.PROT_STATUS_HOLDOFF 0).inc Reg.PROT_CNT2_HOLDOFF_ABANDONED).event (Ev.prot 4) else s

/-- NO_PROT (R262). -/
def State.settleNoProt (s : State) : State :=
  if s.isOn Reg.PROT_STATUS_NO_PROT then
    (if s.available .a || s.available .b then (s.wr Reg.PROT_STATUS_NO_PROT 0).event (Ev.prot 9) else s)
  else if s.hard s.active && !s.available s.active.other then
    ((s.wr Reg.PROT_STATUS_NO_PROT 1).inc Reg.PROT_CNT2_NO_PROT_ENTRIES).event (Ev.prot 8)
  else s

/-- FORCED is lost when its leg leaves RANGED (R259). -/
def State.settleForced (s : State) : State :=
  let f := s.rd Reg.PROT_STATUS_FORCED
  if f ≠ 0 && s.rd Reg.ACT_STATUS_STATE (f - 1) ≠ 5 then (s.wr Reg.PROT_STATUS_FORCED 0).event (Ev.prot 11) else s

def State.pref (s : State) : Leg := Leg.ofBit (s.rd Reg.PROT_CTL_PREF)

/-- WTR_MIN in seconds. -/
def State.wtrSeconds (s : State) : Nat := 60 * max 1 (min 60 (s.rd Reg.PROT_CTL_WTR_MIN))

/-- Wait-to-restore starts or is cancelled (R261). A standing FORCED keeps it from starting. -/
def State.settleWtr (s : State) : State :=
  let want := s.isOn Reg.PROT_CTL_REVERT && s.pref ≠ s.active && s.available s.pref && !s.soft s.pref && s.prot.lastAuto &&
    !s.isOn Reg.PROT_STATUS_FORCED
  if want && s.prot.revertDue then s
  else if want && !s.isOn Reg.PROT_STATUS_WTR then
    ((s.wr Reg.PROT_STATUS_WTR 1).wr Reg.PROT_WTR_LEFT_SECONDS s.wtrSeconds).event (Ev.prot 5)
  else if !want then s.wtrCancel
  else s

/-- Evaluate every standing request; nothing is evaluated while a switch is in progress (R263). -/
def State.settleProt (s : State) : State :=
  if s.isOn Reg.PROT_STATUS_SWITCHING then s else
  let s := s.settleForced.settleHold.settleNoProt.settleWtr
  let other := s.active.other
  if s.isOn Reg.PROT_STATUS_FORCED then s
  else if s.rank4 && s.available other then s.doSwitch (if s.autoHard then 1 else 3) other
  else if s.autoSd && s.available other && !s.soft other then s.doSwitch 2 other
  else s

/-- AVAILABLE and its events. -/
def State.settleAvail (s : State) (l : Leg) : State :=
  let v := s.available l
  if v = s.isOn Reg.PROT_DEF_AVAILABLE l.n then s else
  let s := s.wr Reg.PROT_DEF_AVAILABLE (b2n v) l.n
  let s := s.wr (if l = .a then Reg.PROT_STATUS_AVAIL_A else Reg.PROT_STATUS_AVAIL_B) (b2n v)
  s.event (Ev.leg l (if v then 4 else 5))

/-- A defect follows a latch of the headgate; LATCHED is set as it is declared. -/
def State.followLatch (s : State) (l : Leg) (latch defect : Row) (place : Nat) : State :=
  if !s.isOn latch l.n then s.wr defect 0 l.n
  else if s.isOn defect l.n then s
  else (s.wr defect 1 l.n).setBit Reg.PROT_DEF_LATCHED l.n place

/-- ROGUE and ESTOP follow the headgate's latches. -/
def State.settleLatches (s : State) (l : Leg) : State :=
  (s.followLatch l Reg.HG_STATUS_ROGUE Reg.PROT_DEF_ROGUE 18).followLatch l Reg.HG_STATUS_ESTOP Reg.PROT_DEF_ESTOP 19

/-- A leg's defect set has changed: LEG_DEFECT or LEG_CLEAR, and the ALARM. -/
def State.settleSet (s : State) (l : Leg) : State :=
  let d := s.defSet l
  let old := (s.leg l).defSeen
  if d = old then s else
  let s := s.upd l fun g => { g with defSeen := d }
  let s := if old = 0 then s.event (Ev.leg l 2) else if d = 0 then s.event (Ev.leg l 3) else s
  s.queueAlarm l

/-- Follow every consequence of a change in a leg's defects, activation state or latches. (DEDUCED, log 36.) -/
def State.settleDef (s : State) (l : Leg) : State :=
  let s := ((s.settleLatches l).settlePm l).settleAvail l
  let s := s.settleSluice
  let s := if s.pwr.asleep && l = s.kept && s.hard l then s.wakeCause 7 else s
  ((s.settleSet l).settleTime).settleProt

/-! ### One-shot requests (R257, R260) -/

/-- The rank of a one-shot cause. -/
def rankOf (cause : Nat) : Nat := if cause = 5 then 2 else if cause = 6 then 3 else if cause = 7 then 6 else 7

def State.switchRefused (s : State) : State := (s.inc Reg.PROT_CNT2_REFUSED).event (Ev.prot 2)

/-- Answer a PROT_SWITCH; the status is remembered for duplicates (R67). -/
def State.answer (s : State) (ack : Option (Leg × Nat)) (st : Nat) : State :=
  match ack with
  | none => s
  | some (l, txid) =>
    let s := s.upd l fun g => { g with seen := g.seen.map fun (e : Seen) => if e.typ = 0x0D ∧ e.txid = txid then { e with status := some st } else e }
    s.ack l txid 0x0D st

/-- A one-shot request when no switch is in progress: its status, or none while the switch it starts runs. -/
def State.oneShot (s : State) (r : ProtReq) : Option Nat × State :=
  let s := if r.cause = 6 && r.target ≠ s.active then s.event (Ev.prot 10) else s
  if r.target = s.active then (some St.ok, s)
  else if s.standing < rankOf r.cause then (some St.denied, s.switchRefused)
  else if !s.available r.target then (some St.invalid, s.switchRefused)
  else (none, { s with prot := { s.prot with cmdAck := r.ack } }.doSwitch r.cause r.target)

/-- A one-shot request; one that comes during a switch waits for its end (R263). -/
def State.request (s : State) (r : ProtReq) : State :=
  if s.isOn Reg.PROT_STATUS_SWITCHING then { s with prot := { s.prot with waiting := s.prot.waiting ++ [r] } } else
  match s.oneShot r with
  | (some st, s) => s.answer r.ack st
  | (none, s) => s

/-! ### PROT_CMD (R257, R259, R260, R263, R267) -/

/-- Evaluate a command (cause code 0 CLEAR, 4 FORCED, 7 MANUAL) and write RESULT. -/
def State.protEval (s : State) (cause : Nat) (l : Leg) : State :=
  let res := fun (s : State) (st : Nat) => s.wr Reg.PROT_CMD_RESULT st
  if s.isOn Reg.PROT_STATUS_SWITCHING then res s St.busy
  else if cause = 0 then (res (s.wr Reg.PROT_STATUS_FORCED 0) St.ok).settleProt
  else if cause = 4 then
    if s.rd Reg.ACT_STATUS_STATE l.n ≠ 5 then res s.switchRefused St.invalid
    else
      let s := (s.wtrCancel).wr Reg.PROT_STATUS_FORCED (l.n + 1)
      if l = s.active then (res s St.ok).settleProt else res (s.doSwitch 4 l) St.ok
  else
    match s.oneShot { cause := 7, target := l } with
    | (some st, s) => res s st
    | (none, s) => res s St.ok

/-- A write of PROT_CMD. While firmware is absent it is held, after those held before it (R267). (DEDUCED, log 36.) -/
def State.protCmd (s : State) (cause : Nat) (l : Leg) : State :=
  if s.isOn Reg.PROT_STATUS_SWITCHING then s.wr Reg.PROT_CMD_RESULT St.busy
  else if s.fwPresent then s.protEval cause l
  else { s.wr Reg.PROT_STATUS_CMD_PEND 1 with prot := { s.prot with deferred := s.prot.deferred ++ [(cause, l)] } }

/-- The request that wait-to-restore makes at its expiry. -/
def State.revert (s : State) : State := { s with prot := { s.prot with revertDue := false } }.request { cause := 8, target := s.pref }

/-- WTR_EXPIRY: wait-to-restore is over and a REVERT request is made (R261); without firmware the request waits (R267). (DEDUCED, log 36.) -/
def State.wtrExpiry (s : State) : State :=
  if !s.isOn Reg.PROT_STATUS_WTR then s else
  let s := ((s.wr Reg.PROT_STATUS_WTR 0).wr Reg.PROT_WTR_LEFT_SECONDS 0).event (Ev.prot 7)
  if s.fwPresent then s.revert else { s with prot := { s.prot with revertDue := true } }

/-- The held commands in order; during a switch the rest waits for its end (R263). -/
def State.protDrain : List (Nat × Leg) → State → State
  | [], s => { s.wr Reg.PROT_STATUS_CMD_PEND 0 with prot := { s.prot with deferred := [] } }
  | (c, l) :: r, s =>
    if s.isOn Reg.PROT_STATUS_SWITCHING then { s with prot := { s.prot with deferred := (c, l) :: r } }
    else State.protDrain r (s.protEval c l)

/-- Firmware is back, or a switch has ended that it found under way: the held commands, then the requests that waited for firmware. -/
def State.protResume (s : State) : State :=
  let s := (State.protDrain s.prot.deferred s).settleProt
  if s.prot.revertDue && s.isOn Reg.PROT_CTL_REVERT then s.revert else { s with prot := { s.prot with revertDue := false } }

def execClear (s : State) : Out := .next (s.protCmd 0 .a)
def execForced (l : Leg) (s : State) : Out := .next (s.protCmd 4 l)
def execManual (l : Leg) (s : State) : Out := .next (s.protCmd 7 l)

/-- FW_FORCED: firmware asks for a leg, when FW_SWITCH allows it. -/
def execFwForced (l : Leg) (s : State) : Out :=
  .next (if s.isOn Reg.PROT_CTL_FW_SWITCH && s.fwPresent then s.request { cause := 5, target := l } else s)

/-- PROT_SWITCH: ROLE 1 asks for the leg it comes on, 0 for the other. -/
def State.protSwitch (s : State) (l : Leg) (m : BitVec 384) : State :=
  let want := if mfield m 6 1 % 2 = 1 then l else l.other
  s.fwMsg l 0x0D m fun s =>
    s.onMsg l 0x0D m false 0 fun s =>
      if s.isOn Reg.PROT_STATUS_SWITCHING then
        (.silent, { s with prot := { s.prot with waiting := s.prot.waiting ++ [{ cause := 6, target := want, ack := some (l, msgTxid m) }] } })
      else
        match s.oneShot { cause := 6, target := want, ack := some (l, msgTxid m) } with
        | (some st, s) => (.answered st, s)
        | (none, s) => (.silent, s)

def execProtSwitch (l : Leg) (msg : BitVec 384) (s : State) : Out := .next (s.inFrame l fun s => s.protSwitch l msg)

/-! ### The end of a switch and the timers -/

/-- LEG_ROLE_NOTICE on each leg that can carry it (R266). -/
def State.roleNotices (s : State) : State :=
  let c := s.rd Reg.PROT_STATUS_LAST_CAUSE
  [Leg.a, Leg.b].foldl (fun s l => if s.canNotify l then s.sendReq l 3 [BitVec.ofNat 8 (b2n (s.active == l)), BitVec.ofNat 8 c] else s) s

/-- SWITCH_DONE: delivery begins on the new active leg, at its first D0 frame boundary; what waited is evaluated now (R263, R264). -/
def State.switchDone (s : State) : State :=
  if !s.isOn Reg.PROT_STATUS_SWITCHING then s else
  let l := s.active
  let s := (s.wr Reg.PROT_STATUS_SWITCHING 0).wr2 Reg.PROT_LAST_SFC_LO Reg.PROT_LAST_SFC_HI (s.cur l)
  let s := (s.updWave l 0 fun v => { v with deliver := v.deln == .sync }).event (Ev.prot 1)
  let ack := s.prot.cmdAck
  let wait := s.prot.waiting
  let s := { s with prot := { s.prot with cmdAck := none, waiting := [] } }
  let s := (s.answer ack St.ok).roleNotices
  let s := (wait.filter fun r => rankOf r.cause < 4).foldl (fun s r => s.request r) s
  let s := ((s.settleDef .a).settleDef .b)
  let s := (wait.filter fun r => rankOf r.cause ≥ 4).foldl (fun s r => s.request r) s
  if s.fwPresent && !s.prot.deferred.isEmpty then s.protResume else s

def execSwitchDone (s : State) : Out := .next s.switchDone

/-- HOLDOFF_EXPIRY (R258). -/
def execHoldoffExpiry (s : State) : Out :=
  .next (if s.isOn Reg.PROT_STATUS_HOLDOFF then
      ({ s.wr Reg.PROT_STATUS_HOLDOFF 0 with prot := { s.prot with holdDone := true } }).settleProt
    else s)

def execWtrExpiry (s : State) : Out := .next s.wtrExpiry

/-! ### Detectors (R254, R255) -/

def execLosDeclare (l : Leg) (w : Nat) (s : State) : Out :=
  .next (if w < 4 && s.detecting l w then (s.declare l w defLos).settleDef l else s)

def execLosClear (l : Leg) (w : Nat) (s : State) : Out :=
  .next (if w < 4 && s.detecting l w then (s.clearDefect l w defLos).settleDef l else s)

/-- SF at the end of a superframe that the wave was in SYNC throughout. (DEDUCED, log 36.) -/
def State.sfStep (s : State) (l : Leg) (w n : Nat) : State :=
  let th := max 1 (s.rd Reg.PROT_SF_CTL_SF_CW)
  if n ≥ th then (s.updWave l w fun v => { v with sfGood := 0 }).declare l w defSf
  else if n < th / 10 then
    let s := s.updWave l w fun v => { v with sfGood := v.sfGood + 1 }
    if (s.wave l w).sfGood ≥ max 1 (s.rd Reg.PROT_SF_CTL_SF_CLR) then s.clearDefect l w defSf else s
  else s.updWave l w fun v => { v with sfGood := 0 }

/-- SD over its window. -/
def State.sdStep (s : State) (l : Leg) (w n : Nat) : State :=
  let win := max 10 (s.rd Reg.PROT_SD_WIN)
  let th := max 1 (s.rd Reg.PROT_SD_CW)
  let s := s.updWave l w fun v => { v with sdWin := (n :: v.sdWin).take win }
  let sum := (s.wave l w).sdWin.foldl (· + ·) 0
  if sum ≥ th then s.declare l w defSd
  else if (s.wave l w).sdWin.length ≥ win && sum ≤ th / 10 then s.clearDefect l w defSd
  else s

/-- SF_EVALUATE: a wave's superframe has ended; one it was not in SYNC throughout is not evaluated. -/
def execSfEvaluate (l : Leg) (w : Nat) (s : State) : Out :=
  .next (
    if w ≥ 4 then s else
    let v := s.wave l w
    let s := if v.whole && s.detecting l w then ((s.sfStep l w v.uncorr).sdStep l w v.uncorr).settleDef l else s
    s.updWave l w fun v => { v with uncorr := 0, whole := v.deln == .sync })

end Sys2Proof.Machine
end

