-- ==== Sys2Proof/Machine/Monitor.lean ====
section
/-! DEFINITION. Performance monitoring: seconds, bins, monitoring states and the replacement reasons (R268 to R276). -/

namespace Sys2Proof.Machine

/-! ### Monitoring states (R268) -/

/-- ENABLE written 1, or cold reset. -/
def State.pmAcquire (s : State) (l : Leg) : State := s.setPm l 1

/-- A write of PM_LEG_x. -/
def State.pmTest (s : State) (l : Leg) (v : Nat) : State :=
  let s := s.wr Reg.PM_LEG_TEST (bit v 2) l.n
  if bit v 2 = 1 then s.setPm l 2 else s.testOver l

def execPmTestWrite (ag : Agent) (l : Leg) (v : BitVec 32) (s : State) : Out := .next <| s.reg ag fun s => s.pmTest l v.toNat

/-! ### Seconds (R273, R274) -/

/-- A wave second is errored, severely errored. -/
def Wave.es (v : Wave) : Bool := v.badSec > 0 || v.losSec
def Wave.ses (v : Wave) : Bool := (v.badSec > 0 && v.badSec * 1000 ≥ v.cwSec) || v.losSec

def State.secondOf (s : State) (l : Leg) (counts : Bool) : Sec :=
  let f := fun (p : Wave → Bool) => [0, 1, 2, 3].foldl (fun n w => if p (s.wave l w) then n + 2 ^ w + (if bit n 4 = 1 then 0 else 16) else n) 0
  { es := f Wave.es, ses := f Wave.ses, counts := counts }

/-- Begin the next second on a leg's waves: a LOS or LOF that stands is in it from its start. -/
def State.nextSecond (s : State) (l : Leg) : State :=
  [0, 1, 2, 3].foldl (fun s w => s.updWave l w fun v =>
    { v with cwSec := 0, badSec := 0, losSec := bit (s.rd Reg.PROT_DEF_LOS l.n) w == 1 || bit (s.rd Reg.PROT_DEF_LOF l.n) w == 1 }) s

/-- One more second in service in the current bins of a leg. -/
def State.inService (s : State) (l : Leg) : State := s.markBins (· == l) fun b => { b with insvc := b.insvc + 1, valid := true }

/-- A leg's second ends. -/
def State.pmLegSecond (s : State) (l : Leg) : State :=
  let inSvc := s.rd Reg.PM_LEG_STATE l.n = 0
  let open' := (s.pm.secs.get l).any fun x => x.counts
  let s := if !s.isOn Reg.PM_CTL_EN || (inSvc && !open') then s
    else { s with pm := { s.pm with secs := s.pm.secs.upd l fun q => s.secondOf l (!inSvc) :: q } }
  let s := if s.isOn Reg.PM_CTL_EN && inSvc then s.inService l else s
  let s := s.nextSecond l
  let c := if s.hard l then 0 else min 11 (s.pm.clean.get l + 1)
  let s := { s with pm := { s.pm with clean := s.pm.clean.upd l fun _ => c } }
  let st := s.rd Reg.PM_LEG_STATE l.n
  if (st = 1 || st = 3) && c ≥ 11 && s.rd Reg.ACT_STATUS_STATE l.n = 5 then s.setPm l 0 else s

/-- PM_SECOND: a second boundary of the counter; wait-to-restore counts down with it (R261). -/
def State.pmSecond (s : State) : State :=
  let s := if s.isOn Reg.PROT_STATUS_WTR then s.dec Reg.PROT_WTR_LEFT_SECONDS else s
  (s.pmLegSecond .a).pmLegSecond .b

def execPmSecond (s : State) : Out := .next s.pmSecond

/-- Commit the oldest second of a leg for one wave (4: the leg), given the ten seconds that begin with it. -/
def State.commitSec (s : State) (l : Leg) (x : Sec) (ten : List Sec) (w : Nat) : State :=
  let was := bit (s.rd Reg.PM_LEG_UNAVAIL l.n) w == 1
  let now := if was then !(ten.all fun y => bit y.ses w == 0) else ten.all fun y => bit y.ses w == 1
  let s := if now && !was then s.setBit Reg.PM_LEG_UNAVAIL l.n w else if was && !now then s.clrBit Reg.PM_LEG_UNAVAIL l.n w else s
  let s := if w = 4 && now ≠ was then s.event (Ev.leg l (if now then 7 else 8)) else s
  if !x.counts then s else
  let s := s.inc Reg.PM_SEC_SECONDS l.n w
  if now then s.inc Reg.PM_SEC_UAS l.n w
  else
    let s := if bit x.es w = 1 then s.inc Reg.PM_SEC_ES l.n w else s
    if bit x.ses w = 1 then s.inc Reg.PM_SEC_SES l.n w else s

/-- Commit every second of a leg that ended 10 s ago: ten later ones have ended, and the first nine of them settle its class. -/
def State.commitLeg : Nat → State → Leg → State
  | 0, s, _ => s
  | k + 1, s, l =>
    let q := s.pm.secs.get l
    if q.length < 11 then s else
    let ten := q.drop (q.length - 10)
    match ten.getLast? with
    | none => s
    | some x =>
      let s := [0, 1, 2, 3, 4].foldl (fun s w => s.commitSec l x ten w) s
      let rest := q.take (q.length - 1)
      let s := { s with pm := { s.pm with secs := s.pm.secs.upd l fun _ => if rest.any fun y => y.counts then rest else [] } }
      State.commitLeg k s l

def State.pmCommit (s : State) : State :=
  let s := s.commitLeg (s.pm.secs.get .a).length .a
  s.commitLeg (s.pm.secs.get .b).length .b

def execPmSecondCommit (s : State) : Out := .next s.pmCommit

/-! ### Bins (R269 to R271) -/

/-- Reasons 1, 3, 4 and 5 follow their conditions (R275, R276). -/
def State.reviewReasons (s : State) : State :=
  let low := (List.range 8).any fun i => s.isOn Reg.MEM_INST_STATUS_LOW 0 i
  let eol := [0, 1].any fun l => [0, 1].any fun u => s.rd Reg.OPT_LIFE_STAT_DAYS_LEFT l u < 90
  let osc := (signed 32 (s.rd Reg.TIME_REF_OFS)).natAbs > 40000000
  let fuse := s.isOn Reg.FW_LC_MARGIN_LOW
  [(1, low), (3, eol), (4, osc), (5, fuse)].foldl (fun s (k, on) => if on then s.replaceRequest k else s.clrBit Reg.PROT_RR_STATUS_REASONS 0 k) s

/-- The aligned second. -/
def State.alignedSec (s : State) : Int := (s.secNow : Int) - signed 16 (s.rd Reg.PM_CTL_ALIGN_OFS)

/-- BIN_ROLL: an aligned multiple of 900 s, or of 86,400 s, has come. (DEDUCED, log 8.) -/
def State.binRoll (s : State) : State :=
  if !s.isOn Reg.PM_CTL_EN || s.alignedSec % 900 ≠ 0 then s else
  let s := ((((s.rollBins15 false).inc Reg.PM_CNT_BINS_15M).event (Ev.prot 12)).reviewReasons).exportRoll
  if s.alignedSec % 86400 ≠ 0 then s else ((s.rollBins24 false).inc Reg.PM_CNT_BINS_24H).event (Ev.prot 13)

def execBinRoll (s : State) : Out := .next s.binRoll

/-- The sixteen words of a bin. -/
def Bin.words (b : Bin) : List Nat :=
  [b.start % 2 ^ 32, b.start / 2 ^ 32 % 65536 + 65536 * (b.gen % 65536),
   b.insvc % 2 ^ 17 + 2 ^ 17 * b2n b.valid + 2 ^ 18 * b2n b.part + 2 ^ 19 * b2n b.step + 2 ^ 20 * b2n b.unlocked + 2 ^ 21 * b2n b.roleMixed +
     2 ^ 22 * b2n b.active, 0] ++ (List.range 12).map fun i => b.cnt.getD (i / 2) 0 / 2 ^ (32 * (i % 2)) % 2 ^ 32

/-- The bin that PM_BIN_SEL names; none past the history, or for waves 6 and 7. -/
def State.binAt (s : State) (l : Leg) (w kind idx : Nat) : Option Bin :=
  if w > 5 then none
  else if idx = 0 then
    let b := Tab.get {} (pmKey l w) (if kind = 0 then s.pm.cur15 else s.pm.cur24)
    some { b with active := s.active == l }
  else (Tab.get [] (pmKey l w) (if kind = 0 then s.pm.hist15 else s.pm.hist24))[idx - 1]?

/-- A write of PM_BIN_SEL: the selected bin is latched. -/
def State.binLatch (s : State) (ag : Agent) (v : Nat) : State :=
  let s := (((s.wrA ag Reg.PM_BIN_SEL_LEG (bit v 0)).wrA ag Reg.PM_BIN_SEL_WAVE (bits v 3 1)).wrA ag Reg.PM_BIN_SEL_KIND (bit v 4)).wrA ag
    Reg.PM_BIN_SEL_INDEX (bits v 14 8)
  let w := match s.binAt (Leg.ofBit (bit v 0)) (bits v 3 1) (bit v 4) (bits v 14 8) with
    | some b => b.words
    | none => []
  (List.range 16).foldl (fun s i => s.wrA ag Reg.PM_BIN_DATA (w.getD i 0) 0 i) s

def execPmBinLatch (ag : Agent) (v : BitVec 32) (s : State) : Out := .next <| s.reg ag fun s => s.binLatch ag v.toNat

end Sys2Proof.Machine
end

