-- ==== Sys2Proof/Machine/LineRx.lean ====
section
/-! DEFINITION. Downstream reception of a leg: delineation (R34, R35, R372), frame and superframe boundaries, marker latching (R111), frame
alignment of the waves (R254, R396), codewords (R54) and the partition header (R38). -/

namespace Sys2Proof.Machine

/-! ### Sync words and frame headers (R31, R34) -/

def syncPlain : Nat := 0x7A1DC3B45E690F82
def syncComp : Nat := 0x85E23C4BA196F07D

def State.syncTol (s : State) (l : Leg) : Nat := min 8 (s.rd Reg.LINE_DLN_CTL_SYNC_TOL l.n)

/-- The raw bits lie within SYNC_TOL of a SYNC value. -/
def State.syncNear (s : State) (l : Leg) (raw sync : Nat) : Bool := popcount 64 (raw.xor sync) ≤ s.syncTol l

def State.syncMatch (s : State) (l : Leg) (raw : Nat) : Bool := s.syncNear l raw syncPlain || s.syncNear l raw syncComp

/-- Bytes 8 to 23 of a frame header as a 128-bit number. -/
def hcrcOk (h : Nat) : Bool := crc16 (msbBits 112 (h / 65536)) == h % 65536
def hdrSfc (h : Nat) : Nat := bits h 127 80
def hdrFn (h : Nat) : Nat := bits h 79 77
def hdrWave (h : Nat) : Nat := bits h 76 74
def hdrLver (h : Nat) : Nat := bits h 71 68

/-- IDLE_CW; a value above 750 in a header whose HCRC is right acts as 750. (DESIGN CHOICE, log 65.) -/
def hdrIdleCw (h : Nat) : Nat := min 750 (bits h 57 48)

def hdrKey (h : Nat) : Nat := 8 * hdrSfc h + hdrFn h

/-- The header agrees. -/
def State.agrees (s : State) (l : Leg) (w raw h : Nat) : Bool :=
  hcrcOk h && hdrWave h == w && hdrLver h == 1 && s.syncNear l raw (if hdrFn h = 0 then syncComp else syncPlain)

def Wave.key (v : Wave) : Nat := 8 * v.sfc + v.fn

/-- The flywheel: one frame on. -/
def nextKey (k : Nat) : Nat := (k + 1) % 2 ^ 51

/-! ### SYNC_CANDIDATE -/

def State.candidateAt (s : State) (l : Leg) (w raw ofs : Nat) : State :=
  if w ≥ 4 || (s.wave l w).deln != .hunt || !s.detecting l w || !s.syncMatch l raw then s else
  let s := s.updWave l w fun v => { v with deln := .presync, confirm := 1, cand := none }
  (s.wr Reg.OPT_DSK_CAND_OFS ofs l.n w).wr Reg.OPT_DSK_CAND_VALID 1 l.n w

def execSyncCandidate (l : Leg) (w : Nat) (raw : BitVec 64) (ofs : Nat) (s : State) : Out := .next (s.candidateAt l w raw.toNat ofs)

/-! ### Frame boundaries -/

/-- A wave frame begins under a superframe count and frame number: an empty reassembly state (R15), and the frame's role (R205, R264). -/
def State.frameStart (s : State) (l : Leg) (w key idle : Nat) : State :=
  let s := s.updWave l w fun v => { v with
    sfc := key / 8, fn := key % 8, idleCw := idle, hunting := false, lastSeq := none, badCw := [], marked := false, rxovl := false,
    deliver := s.active == l, syncFr := v.syncFr + 1 }
  (s.inc Reg.LINE_WCNT_FRAMES l.n w).settleRx l w

/-- All four waves of a leg are in SYNC. -/
def State.allSync (s : State) (l : Leg) : Bool := (s.leg l).waves.toList.all fun v => v.deln == .sync

/-- A leg's superframe begins. -/
def State.superframe (s : State) (l : Leg) : State :=
  let g := s.leg l
  let whole := s.allSync l && g.waves.w0.frames true ≥ 8 && [g.waves.w1, g.waves.w2, g.waves.w3].all fun v => v.frames false ≥ 8
  let s := s.upd l fun g => { g with once := [], drops := 0 }
  let s := (s.incSat Reg.ACT_KR_STATUS_SF_SINCE l.n).timeBoundary l whole
  if s.active ≠ l then s else
  let s := { s with slu := { s.slu with onceSf := [] } }
  { s with cls := { s.cls with learnSf := 0 } }.fallbackBoundary

/-- The whole-symbol offset of a wave in 1/16 ps (R397): a symbol is 25000/81 sixteenths of a picosecond. (DESIGN CHOICE, log 30.) -/
def State.slipShift (s : State) (l : Leg) (w : Nat) : Int :=
  let n := l.n
  let sym : Int := (s.rd Reg.OPT_DSK_SLIP n w : Int) - s.rd Reg.OPT_DSK_SLIP n 0 +
    64 * (signed 8 (s.rd Reg.OPT_DSK_DSK_WORDS n w) - signed 8 (s.rd Reg.OPT_DSK_DSK_WORDS n 0))
  roundRat ((sym * 25000 : Int) / 81)

/-- Some wave of a leg shows RXOVL in frame 0 of a superframe (R110). -/
def LegSt.overloaded (g : LegSt) (sfc : Nat) : Bool := g.waves.toList.any fun v => v.rxovl && v.key == 8 * sfc

/-- Latch a marker's arrival; the last of the four of a frame completes an entry of the window (R111). -/
def State.latchMark (s : State) (l : Leg) (w : Nat) (rel : Int) : State :=
  let s := s.updWave l w fun v => { v with marked := true, rel := rel }
  let s := if w = 0 && (s.wave l 0).fn = 0 then
      let v := s.wave l 0
      (s.upd l fun g => { g with marks := ({ sfc := v.sfc, at40 := s.time.now40, run40 := s.time.run40, gen := s.rd Reg.TIME_QUAL_GEN,
                                             eqd := s.eqdFor l v.sfc, excluded := g.overloaded v.sfc } :: g.marks).take 17 }).markerCame l v.sfc
    else s
  let g := s.leg l
  let k := g.waves.w0.key
  if s.allSync l && g.waves.toList.all (fun v => v.marked && v.key == k && !v.rxovl) then
    let d := fun i => (g.waves.get i).rel - s.skew l i - s.slipShift l i
    s.upd l fun g => { g with dts := (k / 8, d 1, d 2, d 3) :: g.dts }
  else s

/-- The measured deskew of a wave (R396): the delay that brings it level with D0, until deskew is complete. (DEDUCED, log 32.) -/
def State.measure (s : State) (l : Leg) (w : Nat) (words : Int) : State :=
  let s := s.updWave l w fun v => { v with words := words }
  if w = 0 || s.isOn Reg.OPT_DSK_CMD_ALIGNED l.n then s else
  let d := unsigned 8 (max (-32) (min 32 (-words)))
  if s.rd Reg.OPT_DSK_DSK_WORDS l.n w = d then s
  else (s.wr Reg.OPT_DSK_DSK_WORDS d l.n w).upd l fun g => { g with dts := [] }

/-- Firmware takes back a FORCE_TXDIS that a safety fault set, once R402 lets it. (DEDUCED, log 35.) -/
def State.safeRelease (s : State) (l : Leg) : State :=
  let g := s.leg l
  if g.safeHeld && s.rd Reg.OPT_SAFE_CAUSE l.n = 0 && !g.wasRemoved && s.fwPresent then
    (((s.upd l fun g => { g with safeHeld := false }).wr Reg.HG_CTL_FORCE_TXDIS 0 l.n).settlePins l).settleLanes l
  else s

/-- A bring-up attempt succeeds (R395). -/
def State.broughtUp (s : State) (l : Leg) : State :=
  let s := ((s.wr Reg.OPT_STATUS_BRINGUP 3 l.n).wr Reg.OPT_STATUS_FAILS 0 l.n).inc Reg.OPT_CNT_BRINGUPS l.n
  (s.upd l fun g => { g with wasRemoved := false }).safeRelease l

/-- A wave carries D0's frame at D0's marker: a wave whose frame starts after D0's still carries the frame before. -/
def Wave.carries (v : Wave) (key : Nat) : Bool := if v.words < 0 then v.key == key else nextKey v.key == key

/-- The comparison of the waves at a D0 marker: LOSS_OF_SYNC (R254) and deskew (R396). (DEDUCED, log 32.) -/
def State.compareWaves (s : State) (l : Leg) : State :=
  if !s.allSync l then s.upd l fun g => { g with losyBad := 0, losyGood := 0, alignRun := 0 } else
  let g := s.leg l
  let rest := [g.waves.w1, g.waves.w2, g.waves.w3]
  let same := rest.all fun v => v.carries g.waves.w0.key
  let near := rest.all fun v => decide (-32 ≤ v.words) && decide (v.words ≤ 32)
  let s := s.upd l fun g => { g with losyBad := if same then 0 else g.losyBad + 1, losyGood := if same then g.losyGood + 1 else 0,
                                     alignRun := if same && near then g.alignRun + 1 else 0 }
  let g := s.leg l
  let s := if g.losyBad ≥ max 1 (s.rd Reg.PROT_LOSY_CTL_ENTRY_FR) then s.declareLeg l Reg.PROT_DEF_LOSS_OF_SYNC 16 0
    else if g.losyGood ≥ max 1 (s.rd Reg.PROT_LOSY_CTL_CLR_FR) then s.wr Reg.PROT_DEF_LOSS_OF_SYNC 0 l.n
    else s
  if g.alignRun < 2 then s else
  let s := s.wr Reg.OPT_DSK_CMD_ALIGNED 1 l.n
  if s.rd Reg.OPT_STATUS_BRINGUP l.n = 2 && !s.isOn Reg.PROT_DEF_LOS l.n then s.broughtUp l else s

/-- What a D0 frame boundary does beyond its wave: the last BWmap is decided, the partitions start afresh, the sluice lanes follow the
active leg (R16, R251) and audit (R253). -/
def State.d0Start (s : State) (l : Leg) : State :=
  let s := if s.active = l then s.sluAudit 1 else s
  let s := (s.dropFrame l).upd l fun g => { g with slots := [], slotsSeen := false, sluBad := false }
  let s := if s.active = l then s.sluTakes l else s
  let s := if (s.wave l 0).fn = 0 then s.superframe l else s
  s.compareWaves l

/-! ### DELINEATION_MARKER -/

/-- A frame begins in SYNC: its boundary, its marker if one was received, and the exit of LOF. -/
def State.inSync (s : State) (l : Leg) (w key idle : Nat) (received : Bool) (rel words : Int) : State :=
  let s := if w = 0 then s.decideAll l else s
  let s := s.frameStart l w key idle
  let s := if received then (s.measure l w words) else s
  let s := if w = 0 then s.d0Start l else s
  let s := if received then s.latchMark l w rel else s
  let s := if (s.wave l w).syncFr > max 1 (s.rd Reg.PROT_LOF_CTL_CLR_FR) then s.clearDefect l w defLof else s
  s.settleDef l

/-- The wave enters SYNC and adopts the header's position. -/
def State.enterSync (s : State) (l : Leg) (w h : Nat) (rel words : Int) : State :=
  let s := s.updWave l w fun v => { v with deln := .sync, cand := none, syncFr := 0, whole := hdrFn h == 0 }
  (s.once l (Ev.wave l w 5) 0).inSync l w (hdrKey h) (hdrIdleCw h) true rel words

/-- The wave leaves SYNC: LOF, and the end of LOSS_OF_SYNC. -/
def State.loseSync (s : State) (l : Leg) (w : Nat) : State :=
  let s := if w = 0 then s.decideAll l else s
  let s := s.toHunt l w
  let s := if s.detecting l w then s.declare l w defLof else s
  let s := if w = 0 && s.pwr.asleep && l = s.kept then s.wakeCause 7 else s
  s.settleDef l

/-- The expected position in PRESYNC: agreeing sync words must be consistent from the second header on. (DEDUCED, log 32.) -/
def State.presync (s : State) (l : Leg) (w h : Nat) (ok : Bool) (rel words : Int) : State :=
  let v := s.wave l w
  if !ok || v.cand.any fun k => hdrKey h != nextKey k then (s.toHunt l w).updWave l w fun x => { x with miss := v.miss + 1 }
  else if v.confirm + 1 ≥ max 1 (s.rd Reg.LINE_DLN_CTL_SYNC_CONFIRM l.n) then s.enterSync l w h rel words
  else s.updWave l w fun v => { v with confirm := v.confirm + 1, cand := some (hdrKey h) }

/-- The expected position in SYNC. -/
def State.syncStep (s : State) (l : Leg) (w h : Nat) (found ok strict : Bool) (rel words : Int) : State :=
  let key := nextKey (s.wave l w).key
  if ok && hdrKey h = key then (s.updWave l w fun v => { v with miss := 0 }).inSync l w key (hdrIdleCw h) true rel words
  else if found && !hcrcOk h then
    ((s.inc Reg.LINE_WCNT_HDR_CRC_ERR l.n w).updWave l w fun v => { v with miss := 0 }).inSync l w key 750 true rel words
  else
    let s := if found then s.inc Reg.LINE_WCNT_HDR_MISMATCH l.n w else s
    if strict || (s.wave l w).miss + 1 ≥ max 1 (s.rd Reg.LINE_DLN_CTL_SYNC_LOSE l.n) then s.loseSync l w
    else (s.updWave l w fun v => { v with miss := v.miss + 1 }).inSync l w key 750 false rel words

/-- The flywheel alone: in doze, and on D0 after a loss of delineation, whose frame and superframe boundaries pass without a frame (R35, R372).
(DEDUCED, log 33.) -/
def State.flywheel (s : State) (l : Leg) (w : Nat) : State :=
  let s := s.updWave l w fun v => { v with sfc := nextKey v.key / 8, fn := nextKey v.key % 8 }
  if w ≠ 0 then s
  else if !s.pwr.asleep then (s.d0Start l).settleDef l
  else if (s.wave l 0).fn = 0 then (s.upd l fun g => { g with once := [], drops := 0 }).incSat Reg.ACT_KR_STATUS_SF_SINCE l.n
  else s

/-- DELINEATION_MARKER: the expected marker position of a wave. The match must lie at it, except at the first marker after a doze, which is
accepted within 32 symbols and must match. (DEDUCED, log 32; DEDUCED, log 33.) -/
def State.marker (s : State) (l : Leg) (w raw h : Nat) (rel words ofs : Int) : State :=
  if w ≥ 4 then s else
  let first := w == 0 && s.pwr.firstMark && s.pwr.asleep && l == s.kept
  let here := if first then decide (-32 ≤ ofs) && decide (ofs ≤ 32) else ofs == 0
  let found := here && s.syncMatch l raw
  let ok := found && s.agrees l w raw h
  match (s.wave l w).deln with
  | .hunt => if w = 0 && (s.wave l 0).key ≠ 0 then s.flywheel l 0 else s
  | .presync => s.presync l w h ok rel words
  | .sync =>
    if !s.detecting l w then s.flywheel l w else
    let s := if first then { s with pwr := { s.pwr with firstMark := false } } else s
    s.syncStep l w h found ok first rel words

def execDelineationMarker (l : Leg) (w : Nat) (raw : BitVec 64) (hdr : BitVec 128) (rel words ofs : Int) (s : State) : Out :=
  .next (s.marker l w raw.toNat hdr.toNat rel words ofs)

/-! ### CODEWORD_DECODE (R52, R54) -/

def State.codeword (s : State) (l : Leg) (w idx corr : Nat) (ok : Bool) : State :=
  if w ≥ 4 || idx ≥ 750 || (s.wave l w).deln != .sync || !s.detecting l w then s
  else if ok then
    ((s.inc Reg.LINE_WCNT_CORR_BITS l.n w corr).pmCount l w 0 corr).updWave l w fun v => { v with cwSec := v.cwSec + 1 }
  else
    let s := ((s.inc Reg.LINE_WCNT_UNCORR_CW l.n w).pmCount l w 1 1).once l (Ev.wave l w 6) 0
    s.updWave l w fun v => { v with cwSec := v.cwSec + 1, badSec := v.badSec + 1, uncorr := v.uncorr + 1, badCw := idx :: v.badCw }

def execCodewordDecode (l : Leg) (w idx corr : Nat) (ok : Bool) (s : State) : Out := .next (s.codeword l w idx corr ok)

/-! ### PARTITION_HEADER (R36 to R38) -/

def State.partition (s : State) (l : Leg) (x : Nat) : State :=
  if (s.wave l 0).deln != .sync || !s.detecting l 0 then s
  else if crc16 (msbBits 48 (x / 65536)) != x % 65536 || bits x 45 33 > 4096 then
    let s := ((s.inc Reg.LINE_D0CNT_PART_CRC_ERR l.n).pmCount l 0 3 1).spill l 0 2
    s.dropFrame l
  else
    let nalloc := bits x 63 53
    let nslot := bits x 45 33
    let base := 32 + 32 * bit x 46 + 8 * nalloc + 48 * bits x 52 47
    s.upd l fun g => { g with partOk := true, bwLeft := nalloc, todp := bit x 46 == 1, nmsg := bits x 52 47, nslot := nslot, slotBase := base,
                              chanBase := base + if nslot = 0 then 0 else 16 * nslot + 8 }

def execPartitionHeader (l : Leg) (word : BitVec 64) (s : State) : Out := .next (s.partition l word.toNat)

end Sys2Proof.Machine
end

