-- ==== Sys2Proof/Machine/Activation.lean ====
section
/-! DEFINITION. Activation of a leg: its messages, timers and control register (R69, R74 to R86), and messages that no other unit takes
(R64, R68). -/

namespace Sys2Proof.Machine

/-! ### ACT_CTL (R74, R255, R268) -/

/-- Stop emission at once and drop what R74 drops, for DISABLED or LISTENING. -/
def State.depart (s : State) (l : Leg) (st : Nat) : State :=
  ((((s.cutWindows l).dropNumber l).setAct l st).settleLanes l).settleDef l

/-- A write of ACT_CTL; firmware keeps a failed leg disabled (R275). (DEDUCED, log 71.) -/
def State.actCtl (s : State) (l : Leg) (v : Nat) : State :=
  if v % 2 = 1 && (s.leg l).failed && s.fwPresent then s
  else if v % 2 = 1 then
    let s := s.wr Reg.ACT_CTL_ENABLE 1 l.n
    let s := if s.rd Reg.ACT_STATUS_STATE l.n = 0 then
        ((s.wr Reg.ACT_ATTEMPT_ATTEMPTS 0 l.n).wr Reg.ACT_ATTEMPT_SKIP_LEFT 0 l.n).setAct l 1
      else s
    ((s.pmAcquire l).settleLanes l).settleDef l
  else if s.isOn Reg.ACT_CTL_ENABLE l.n then (s.wr Reg.ACT_CTL_ENABLE 0 l.n).depart l 0
  else s

def execActCtlWrite (ag : Agent) (l : Leg) (v : BitVec 32) (s : State) : Out := .next <| s.reg ag fun s => s.actCtl l v.toNat

/-- Firmware takes a failed leg out of service, when it is present (R275). -/
def State.retireLeg (s : State) (l : Leg) : State := if (s.leg l).failed && s.fwPresent then s.actCtl l 0 else s

/-- A leg is out of service: LEG_FAILED, and firmware keeps it disabled (R275). -/
def State.legFailed (s : State) (l : Leg) : State := ((s.replaceLeg l).upd l fun g => { g with failed := true }).retireLeg l

/-! ### Burst profiles (R69 type 0x01) -/

/-- BURST_PROFILE (R69, R66). (DEDUCED, log 34.) -/
def State.burstProfile (s : State) (l : Leg) (m : BitVec 384) : Took × State :=
  let p : Prof := { waves := mfield m 7 1 % 4, preGrains := mfield m 8 1, prePat := bit (mfield m 9 1) 7, dlmGrains := mfield m 9 1 % 4,
                    dlmWord := mfield m 10 8, valid := true }
  let eff := mfield m 18 6
  if p.preGrains = 0 || p.dlmGrains = 0 then s.fieldBad l false
  else if !s.effOk l eff then (.ignored, s.inc Reg.LINE_D0CNT_EFF_REFUSED l.n)
  else
    let n := mfield m 6 1 / 64
    (.silent, s.upd l fun g => { g with profPend := g.profPend.upd n (addPend ⟨eff, p⟩), hgProfPend := g.hgProfPend.upd n (addPend ⟨eff, p⟩) })

def execBurstProfile (l : Leg) (msg : BitVec 384) (s : State) : Out :=
  .next (s.inFrame l fun s => s.onMsg l 0x01 msg false 0 fun s => s.burstProfile l msg)

/-- The staged profiles whose superframe has come are in force, in the receiver and in the headgate. -/
def State.profileEffective (s : State) (l : Leg) (p : Nat) : State :=
  if p ≥ 4 then s else
  let sfc := s.cur l
  let v := s.profAt l p sfc
  let h := s.hgProfAt l p sfc
  let n := l.n
  let s := (((s.wr Reg.LINE_PROF_WAVES v.waves n p).wr Reg.LINE_PROF_PRE_GRAINS v.preGrains n p).wr Reg.LINE_PROF_PRE_PAT v.prePat n p).wr
    Reg.LINE_PROF_DLM_GRAINS v.dlmGrains n p
  let s := (s.wr2 Reg.LINE_PROF_DLM_LO Reg.LINE_PROF_DLM_HI v.dlmWord n p).wr Reg.LINE_PROF_VALID (b2n v.valid) n p
  s.upd l fun g => { g with hgProf := g.hgProf.upd p (fun _ => h), profPend := g.profPend.upd p (fun q => q.filter fun x => sfc < x.eff),
                            hgProfPend := g.hgProfPend.upd p (fun q => q.filter fun x => sfc < x.eff) }

def execProfileEffective (l : Leg) (p : Nat) (s : State) : Out := .next (s.profileEffective l p)

/-! ### ASSIGN_TN (R74, R80) -/

/-- Note the status of a message that was taken without one. -/
def State.noteAck (s : State) (l : Leg) (typ txid st : Nat) : State :=
  s.upd l fun g => { g with seen := g.seen.map fun (e : Seen) => if e.typ = typ ∧ e.txid = txid then { e with status := some st } else e }

/-- Latch a terminal number in activation and in the headgate; its ACK waits for the first RANGE burst of the number. (DEDUCED, log 34.) -/
def State.latchTn (s : State) (l : Leg) (tn txid : Nat) : State :=
  let s := ((s.wr Reg.ACT_STATUS_TN tn l.n).wr Reg.ACT_STATUS_TN_VALID 1 l.n).wr Reg.HG_STATUS_TN tn l.n
  let s := (s.wr Reg.HG_STATUS_TN_VALID 1 l.n).upd l fun g => { g with asgAck := some (mkMsg 0x81 txid [0, 0x02]) }
  s.event (Ev.act l 1)

def State.assignTn (s : State) (l : Leg) (m : BitVec 384) : Took × State :=
  let tn := mfield m 14 2 % 1024
  let st := s.rd Reg.ACT_STATUS_STATE l.n
  if tn ≥ 0x3FE then s.fieldBad l true
  else if st = 4 || st = 5 then (.silent, s.latchTn l tn (msgTxid m))
  else if st = 2 || st = 3 then
    let s := (s.withdraw l).latchTn l tn (msgTxid m)
    (.silent, (((s.wr Reg.ACT_ATTEMPT_ATTEMPTS 0 l.n).wr Reg.ACT_ATTEMPT_SKIP_LEFT 0 l.n).setAct l 4).settleDef l)
  else (.ignored, s)

/-- ASSIGN_TN (R69, R78, R80). (DEDUCED, log 34.) -/
def State.assignMsg (s : State) (l : Leg) (m : BitVec 384) : State :=
  if msgType m = 0x02 && mcrcOk m && mfield m 6 8 != s.serial then s else
  let right := msgType m = 0x02 && mcrcOk m && s.addressed l m true
  let s := s.onMsg l 0x02 m true 0 fun s => s.assignTn l m
  if right && (s.leg l).asgAck = some (mkMsg 0x81 (msgTxid m) [0, 0x02]) then s.noteAck l 0x02 (msgTxid m) St.ok else s

def execAssignTn (l : Leg) (msg : BitVec 384) (s : State) : Out := .next (s.inFrame l fun s => s.assignMsg l msg)

/-! ### EQD_SET and EQD_APPLY (R82 to R84) -/

/-- Show the earliest pending EQD_SET, resolved against the EqD in force. A relative one that a message received after it, with an earlier
EFF_SFC, has brought out of range is held to the range. (DESIGN CHOICE, log 65.) -/
def State.showEqd (s : State) (l : Leg) : State :=
  match (s.leg l).eqdPend with
  | [] => ((s.wr Reg.ACT_EQD_PENDING 0 l.n).wr Reg.ACT_EQD_NEXT 0 l.n).wr2 Reg.ACT_EQD_EFF_LO Reg.ACT_EQD_EFF_HI 0 l.n
  | p :: _ =>
    let cur : Int := s.rd Reg.ACT_EQD_EQD_FINE l.n + 64 * s.rd Reg.ACT_EQD_EQD_GRAINS l.n
    let v := if p.relative then cur + p.val else p.val
    let s := (s.wr Reg.ACT_EQD_PENDING 1 l.n).wr Reg.ACT_EQD_NEXT (max 0 (min v (2 ^ 26 - 1))).toNat l.n
    s.wr2 Reg.ACT_EQD_EFF_LO Reg.ACT_EQD_EFF_HI p.eff l.n

/-- The EqD that pending items up to a superframe give, leaving out one that a new message for it would replace. -/
def State.eqdBase (s : State) (l : Leg) (eff : Nat) : Int :=
  let cur : Int := s.rd Reg.ACT_EQD_EQD_FINE l.n + 64 * s.rd Reg.ACT_EQD_EQD_GRAINS l.n
  ((s.leg l).eqdPend.filter fun p => p.eff < eff).foldl (fun (x : Int) (p : EqdPend) => if p.relative then x + p.val else p.val) cur

def addEqd (p : EqdPend) : List EqdPend → List EqdPend
  | [] => [p]
  | x :: r => if x.eff = p.eff then p :: r else if p.eff < x.eff then p :: x :: r else x :: addEqd p r

/-- The values that R83 rejects. -/
def State.eqdBad (s : State) (l : Leg) (rel : Bool) (v eff : Nat) : Bool :=
  if rel then
    s.rd Reg.ACT_STATUS_STATE l.n ≠ 5 || bits v 31 26 ≠ 63 * bit v 25 ||
    decide (s.eqdBase l eff + signed 26 v < 0) || decide (s.eqdBase l eff + signed 26 v ≥ 2 ^ 26)
  else bits v 31 26 ≠ 0

def State.eqdRefused (s : State) (l : Leg) : State := (s.inc Reg.ACT_CNT_EQD_REFUSED l.n).event (Ev.act l 4)

/-- EQD_SET (R69, R83). (DEDUCED, log 34.) -/
def State.eqdSet (s : State) (l : Leg) (m : BitVec 384) : Took × State :=
  let rel := mfield m 6 1 % 2 == 1
  let v := mfield m 7 4
  let eff := mfield m 11 6
  if !s.hasTn l then
    (.ignored, if rel && bits v 31 26 != 63 * bit v 25 then (s.eqdRefused l).inc Reg.LINE_D0CNT_FIELD_REFUSED l.n else s.eqdRefused l)
  else if s.eqdBad l rel v eff then (.answered St.invalid, s.eqdRefused l)
  else if !s.effOk l eff then (.answered St.outOfWindow, s)
  else
    let p : EqdPend := { eff := eff, relative := rel, val := if rel then signed 26 v else (v : Int), rwave := (s.leg l).lastRangeWave }
    (.answered St.ok, (s.upd l fun g => { g with eqdPend := addEqd p g.eqdPend }).showEqd l)

def execEqdSet (l : Leg) (msg : BitVec 384) (s : State) : Out := .next (s.inFrame l fun s => s.onMsg l 0x03 msg false 0 fun s => s.eqdSet l msg)

/-- The pending EqD takes effect at its superframe; an absolute one ends ranging. Upstream frames before (EFF_SFC, 0) keep the old one. -/
def State.eqdApply (s : State) (l : Leg) : State :=
  match (s.leg l).eqdPend with
  | [] => s
  | p :: r =>
    if s.cur l < p.eff then s else
    let v := s.rd Reg.ACT_EQD_NEXT l.n
    let old := s.rd Reg.ACT_EQD_EQD_FINE l.n + 64 * s.rd Reg.ACT_EQD_EQD_GRAINS l.n
    let s := ((s.wr Reg.ACT_EQD_EQD_FINE (v % 64) l.n).wr Reg.ACT_EQD_EQD_GRAINS (v / 64) l.n).wr Reg.TIME_LEG_STATUS_RWAVE p.rwave l.n
    let s := (s.upd l fun g => { g with eqdPend := r, eqdOld := g.eqdOld ++ [(p.eff, old)] }).showEqd l
    let s := (s.inc Reg.ACT_CNT_EQD_APPLIED l.n).event (Ev.act l 3)
    if s.rd Reg.ACT_STATUS_STATE l.n = 4 && !p.relative then (((s.setAct l 5).event (Ev.act l 2)).settleLanes l).settleDef l
    else s.settleTime

def execEqdApply (l : Leg) (s : State) : Out := .next (s.eqdApply l)

/-! ### CONTAINER (R69, R81) -/

/-- CONTAINER (R69, R81). Whether the ID is latched in another slot is judged at the message's EFF_SFC, pending changes included.
(DEDUCED, log 34; DESIGN CHOICE, log 65.) -/
def State.containerAct (s : State) (l : Leg) (m : BitVec 384) : Took × State :=
  let add := mfield m 6 1 % 2 == 1
  let slot := mfield m 7 1 % 128
  let id := mfield m 8 2 % 2 ^ 14
  let eff := mfield m 10 6
  if id > 0x2FFF then s.fieldBad l true
  else if !s.effOk l eff then (.answered St.outOfWindow, s)
  else if add && (List.range 128).any (fun c => c != slot && s.ctnAt l c eff == id + 1) then (.answered St.invalid, s)
  else
    let p : Pend Nat := ⟨eff, if add then id + 1 else 0⟩
    let s := s.upd l fun g => { g with ctnPend := Tab.put [] slot (addPend p (Tab.get [] slot g.ctnPend)) g.ctnPend,
                                       hgPend := Tab.put [] slot (addPend p (Tab.get [] slot g.hgPend)) g.hgPend }
    (.answered St.ok, s.wr Reg.HG_LATCH_PENDING 1 l.n slot)

/-- CONTAINER; an assignment waits for firmware (R25), a removal does not. (DEDUCED, log 21.) -/
def State.container (s : State) (l : Leg) (m : BitVec 384) : State :=
  let take := fun (s : State) => s.onMsg l 0x04 m false 0 fun s => s.containerAct l m
  if mfield m 6 1 % 2 = 1 then s.fwMsg l 0x04 m take else take s

def execContainer (l : Leg) (msg : BitVec 384) (s : State) : Out := .next (s.inFrame l fun s => s.container l msg)

/-- Changes of a slot that govern the upstream frame which the present BWmap allocates are in force for it in the scheduler and in the
headgate; frames before it keep what they had. An assignment on the active leg starts a fall-back of the slot (R158). -/
def State.containerEffective (s : State) (l : Leg) (slot : Nat) : State :=
  if slot ≥ 128 then s else
  let sfc := (s.d0Key l + 2) / 8
  let due := (Tab.get [] slot (s.leg l).ctnPend).filter fun (x : Pend Nat) => x.eff ≤ sfc
  let hdue := (Tab.get [] slot (s.leg l).hgPend).filter fun (x : Pend Nat) => x.eff ≤ sfc
  let late := fun (q : List (Pend Nat)) => q.filter fun x => sfc < x.eff
  let s := s.upd l fun g => { g with
    ctnDue := Tab.put [] slot (due.foldl (fun q p => addPend p q) (Tab.get [] slot g.ctnDue)) g.ctnDue,
    hgDue := Tab.put [] slot (hdue.foldl (fun q p => addPend p q) (Tab.get [] slot g.hgDue)) g.hgDue,
    ctnPend := Tab.put [] slot (late (Tab.get [] slot g.ctnPend)) g.ctnPend,
    hgPend := Tab.put [] slot (late (Tab.get [] slot g.hgPend)) g.hgPend }
  let s := s.latchSlot l slot (s.leg l).upSfc
  if due.any (fun x => x.val ≠ 0) && l = s.active then s.fallback [slot] else s

def execContainerEffective (l : Leg) (slot : Nat) (s : State) : Out := .next (s.containerEffective l slot)

/-! ### DEACTIVATE and KEEP_RANGED -/

def State.deactivate (s : State) (l : Leg) : State :=
  if s.rd Reg.ACT_STATUS_STATE l.n = 0 then s else (s.inc Reg.ACT_CNT_DEACTIVATIONS l.n).depart l 1

def execDeactivate (l : Leg) (msg : BitVec 384) (s : State) : Out :=
  .next (s.inFrame l fun s => s.onMsg l 0x05 msg false 0 fun s => (.silent, s.deactivate l))

def execKeepRanged (l : Leg) (msg : BitVec 384) (s : State) : Out :=
  .next (s.inFrame l fun s => s.onMsg l 0x09 msg false 0 fun s =>
    let n := mfield msg 6 2
    if n = 0 || n > 1024 then s.fieldBad l true else (.answered St.ok, s.wr Reg.ACT_KR_CTL_INTERVAL_SF n l.n))

/-! ### Timers (R74, R78, R79, R86) -/

/-- REGISTRATION_TIMEOUT: 4 SF after the end of the registration burst. -/
def State.registrationTimeout (s : State) (l : Leg) : State :=
  if s.rd Reg.ACT_STATUS_STATE l.n ≠ 2 || (s.leg l).scheduled then s else
  let skip := drawBelow s.freeIdx (2 ^ min 8 (s.rd Reg.ACT_ATTEMPT_ATTEMPTS l.n))
  let s := (s.spend.wr Reg.ACT_ATTEMPT_SKIP_LEFT skip l.n).inc Reg.ACT_CNT_REG_COLLISIONS l.n
  (s.event (Ev.act l 6)).setAct l 3

def execRegistrationTimeout (l : Leg) (s : State) : Out := .next (s.registrationTimeout l)

/-- RANGING_TIMEOUT: TIMEOUT_SF superframes in RANGING. -/
def State.rangingTimeout (s : State) (l : Leg) : State :=
  if s.rd Reg.ACT_STATUS_STATE l.n ≠ 4 then s else (((s.dropNumber l).setAct l 1).event (Ev.act l 7)).settleDef l

def execRangingTimeout (l : Leg) (s : State) : Out := .next (s.rangingTimeout l)

/-- RANGE_MISS, once for a gap. -/
def State.rangeMiss (s : State) (l : Leg) : State :=
  if !s.hasTn l || (s.leg l).rangeMissed then s else
  let s := ((s.upd l fun g => { g with rangeMissed := true }).inc Reg.ACT_CNT_RANGE_MISSES l.n).event (Ev.act l 5)
  (s.declareLeg l Reg.PROT_DEF_RNG_LOSS 17 1).settleDef l

def execRangeMiss (l : Leg) (s : State) : Out := .next (s.rangeMiss l)

/-- WAKE_ATTEMPT_TIMEOUT: a wake burst unanswered 4 SF after its end. -/
def State.wakeTimeout (s : State) (l : Leg) : State :=
  if s.pwr.wakeReq.isNone || s.kept ≠ l || !(s.leg l).wakeSent then s else
  let n := (s.leg l).wakeN + 1
  let skip := drawBelow s.freeIdx (2 ^ min 8 n)
  s.spend.upd l fun g => { g with wakeSent := false, wakeN := n, wakeSkip := skip }

def execWakeAttemptTimeout (l : Leg) (s : State) : Out := .next (s.wakeTimeout l)

/-! ### Messages that change nothing else (R64, R68) -/

def knownType (t : Nat) : Bool := 1 ≤ t && t ≤ 0x0E

def State.msgUnknown (s : State) (l : Leg) (m : BitVec 384) : State :=
  if knownType (msgType m) then s
  else if !mcrcOk m then s.inc Reg.LINE_D0CNT_MSG_CRC_ERR l.n
  else
    let own := s.hasTn l && msgTn m == s.rd Reg.ACT_STATUS_TN l.n
    if !own && msgTn m != 0x3FF && msgTn m != 0x3FE then s else
    let s := s.inc Reg.LINE_D0CNT_MSG_UNKNOWN l.n
    if own then s.ack l (msgTxid m) (msgType m) St.invalid else s

def execMsgUnknown (l : Leg) (msg : BitVec 384) (s : State) : Out := .next (s.inFrame l fun s => s.msgUnknown l msg)

def execMsgCrcErr (l : Leg) (msg : BitVec 384) (s : State) : Out :=
  .next (s.inFrame l fun s => if mcrcOk msg then s else s.inc Reg.LINE_D0CNT_MSG_CRC_ERR l.n)

end Sys2Proof.Machine
end

