-- ==== Sys2Proof/Machine/Headgate.lean ====
section
/-! DEFINITION. The headgate: upstream frames, windows and bursts, rogue latch, emergency stop and HG_CTL (R56, R58 to R62, R85, R87 to R97,
R166, R393, R404, R405). -/

namespace Sys2Proof.Machine

/-! ### UPSTREAM_FRAME_START (R56, R91, R175) -/

/-- An upstream frame of a leg begins: the frame before it is complete, its grains are known (R91, R173), and the latches and the EqD are those
of the new frame (R81, R84). A window that opened is kept for 16 frames, for R171. -/
def State.upFrame (s : State) (l : Leg) (sfc fn : Nat) : State :=
  let key := upKey sfc fn
  let used := fun u => s.decided l (key - 1) u
  let s := (s.wr Reg.HG_USED_GRAINS (used 0) l.n 0).wr Reg.HG_USED_GRAINS (used 1) l.n 1
  let s := (s.unwindWhere l (fun b => b.alloc.key < key) 4).countRole l key
  let gained := (s.gainedIn l (key - 1) 0, s.gainedIn l (key - 1) 1)
  let capped := (s.capOf l (key - 1) 0, s.capOf l (key - 1) 1)
  let s := s.upd l fun g => { g with upSfc := sfc, upFn := fn, gained := gained, capped := capped,
                                     allocs := g.allocs.filter fun a => a.key ≥ key || (a.opened && a.key + 16 ≥ key),
                                     eqdOld := g.eqdOld.filter fun p => sfc < p.1 }
  let s := if s.pwr.asleep && fn = 0 then ((s.latchSlots l sfc).settleTx l 0).settleTx l 1 else s.latchSlots l sfc
  let s := { s with seqs := s.seqs.filter fun p => p.1 / 16 ≥ key || p.1 % 4 / 2 ≠ l.n }
  if l = s.active then (s.sluFrame l key).auditCheck else s

def execUpstreamFrameStart (l : Leg) (sfc : BitVec 48) (fn : Nat) (s : State) : Out := .next (s.upFrame l sfc.toNat (fn % 8))

/-! ### Transmit lanes (R393) -/

/-- LANE_POWER_UP: a gated lane is powered for a window that the headgate will open. -/
def State.lanePowerUp (s : State) (l : Leg) (u : Nat) : State :=
  if u < 2 && s.rd Reg.OPT_LANE_MODE l.n (4 + u) = 4 &&
     (s.leg l).allocs.any (fun a => a.wave == u && a.hgOpen && !a.opened && !a.withdrawn) then s.txLane l u 5 else s

def execLanePowerUp (l : Leg) (u : Nat) (s : State) : Out := .next (s.lanePowerUp l u)

/-! ### What each window sends (R61, R62, R70, R85) -/

/-- The 66 information bytes of a RANGE-format burst. -/
def rangeInfo (tn id msg : Nat) : List Byte := beBytes 8 (burstHeader tn id 1 0) ++ beBytes 48 msg ++ idleFill 2 10

/-- REGISTER (R70, R438). -/
def State.registerMsg (s : State) (l : Leg) (nonce : Nat) : Nat :=
  finishMsg 0x3FE (mkMsg 0x80 0x8000 (beBytes 8 s.serial ++ [BitVec.ofNat 8 l.n, 1] ++ beBytes 4 nonce))

def State.sendRegistration (s : State) (l : Leg) (a : Alloc) : State :=
  (s.inc Reg.ACT_CNT_REG_ATTEMPTS l.n).sendBurst l a (rangeInfo 0x3FE 0x3FFF (s.registerMsg l a.nonce))

/-- REQUEST WAKE in its window (R79). -/
def State.sendWake (s : State) (l : Leg) (a : Alloc) : State :=
  let tn := s.rd Reg.ACT_STATUS_TN l.n
  let m := (s.reqs.find? fun q => q.code == 1).elim 0 Req.msg
  let s := { s with reqs := s.reqs.map fun (q : Req) => if q.code = 1 then { q with due := false, sent := true } else q }
  (s.inc Reg.ACT_CNT_WAKE_ATTEMPTS l.n).sendBurst l a (rangeInfo tn 0x3FFE (finishMsg tn m))

/-- The message block of a RANGE burst: the ACK of ASSIGN_TN first, then the pending messages in their order, and with none a NULL message,
whose TXID is 0. (DESIGN CHOICE, log 65.) -/
def State.rangeMsg (s : State) (l : Leg) : Nat × State :=
  match (s.leg l).asgAck with
  | some m => (m, s.upd l fun g => { g with asgAck := none })
  | none =>
    let (m, s) := s.takeMsg l
    let s := match m with
      | some (1, _) => s.event (Ev.leg l 10)
      | _ => s
    ((m.getD (0, 0)).2, s.msgSent l m)

/-- A RANGE burst, which ends RNG_LOSS while RANGED (R254). -/
def State.sendRange (s : State) (l : Leg) (a : Alloc) : State :=
  let tn := s.rd Reg.ACT_STATUS_TN l.n
  let (m, s) := s.rangeMsg l
  let s := ((s.inc Reg.ACT_CNT_RANGE_BURSTS l.n).wr Reg.ACT_KR_STATUS_SF_SINCE 0 l.n).upd l fun g => { g with lastRangeWave := a.wave }
  let s := s.sendBurst l a (rangeInfo tn a.id (finishMsg tn m))
  if s.rd Reg.ACT_STATUS_STATE l.n = 5 then (s.wr Reg.PROT_DEF_RNG_LOSS 0 l.n).settleDef l else s

def State.sendSluice (s : State) (l : Leg) (a : Alloc) : State :=
  let (info, s) := s.sluiceInfo l a
  s.sendBurst l a info

/-- The reserved burst of a data grant, built empty if there is none, is committed. -/
def State.sendData (s : State) (l : Leg) (a : Alloc) : State :=
  let mine := fun (b : Burst) => b.leg == l && b.alloc.same a
  match s.bursts.find? mine with
  | some b => s.commitBurst b
  | none =>
    let snap := s.snapOf a.slot
    let off := 8 + if a.typ = 1 then 48 else 0
    let (msg, s) := if a.typ = 1 then s.takeMsg l else (none, s)
    let b : Burst := { leg := l, alloc := a, frames := [], msg := msg, snap := snap, bufrep := s.bufrep a.slot [],
                       capacity := burstCapacity a.prof.dlmGrains a.len, header := off, cells := 0 }
    let s := { s with bursts := s.bursts ++ [b] }.inc Reg.USCH_CNT_BURSTS_BUILT
    let s := if s.slotWaits a.slot then
        ((s.wr Reg.USCH_CT_STATUS_STARVED 1 0 a.slot).inc Reg.USCH_SCNT_STARVED 0 a.slot).slotEvent a.slot 1 0
      else s
    s.commitBurst b

def State.sendWindow (s : State) (l : Leg) (a : Alloc) : State :=
  match a.kind with
  | .registration => s.sendRegistration l a
  | .wake => s.sendWake l a
  | .range => s.sendRange l a
  | .sluice => s.sendSluice l a
  | .data => s.sendData l a

/-! ### WINDOW_END (R88, R97, R166, R405) -/

/-- 64 dark windows in a row are a failed laser. -/
def State.darkWindow (s : State) (l : Leg) (u : Nat) : State :=
  let s := (s.inc Reg.HG_CNT_TX_DARK l.n).once l (Ev.wave l (4 + u) 0) 0
  let s := s.upd l fun g => { g with darkRun := addW g.darkRun u 1 }
  let n := if u = 0 then (s.leg l).darkRun.1 else (s.leg l).darkRun.2
  if n < 64 then s else
  let s := (s.wr Reg.OPT_LIFE_STAT_DARK_FAIL 1 l.n u).wr Reg.OPT_LIFE_STAT_DAYS_LEFT 0 l.n u
  (s.wr Reg.PROT_RR_DETAIL_LEG l.n).replaceRequest 3

def State.windowEnd (s : State) (l : Leg) (u : Nat) (light : Bool) : State :=
  match s.win l u with
  | none => s
  | some w =>
    let a := w.alloc
    let s := (s.closeWin l u).burnt l u a.winNs
    let s := if !light then s.darkWindow l u
      else s.upd l fun g => { g with darkRun := if u = 0 then (0, g.darkRun.2) else (g.darkRun.1, 0) }
    let s := s.txLane l u (s.txMode l)
    let s := s.burstOver l a
    match s.bursts.find? fun b => b.leg == l && b.committed && b.alloc.same a with
    | some b => s.endBurst b false
    | none => s

def execWindowEnd (l : Leg) (u : Nat) (light : Bool) (s : State) : Out := .next (s.windowEnd l u light)

/-! ### WINDOW_OPEN (R87) -/

/-- The window is not opened at its time, for a condition that arose after decode (R43, R74). -/
def State.stayDark (s : State) (l : Leg) (a : Alloc) (R : Row) : State :=
  let s := (s.refuse l a R).setAlloc l a fun x => { x with opened := true, role := false }
  if a.kind = .data then s.unwindAlloc l a 4 else s

/-- BEN rises for an allocation. -/
def State.openWindow (s : State) (l : Leg) (u : Nat) (a : Alloc) : State :=
  let s := (s.setAlloc l a fun x => { x with opened := true }).setWin l u (some { alloc := a, openedAt := s.run16 })
  let s := (s.inc Reg.HG_CNT_WINDOWS l.n).inc Reg.HG_CNT_GRAINS l.n 0 a.grains
  let s := if s.txMode l = 4 then s.txLane l u 5 else s
  s.sendWindow l a

/-- WINDOW_OPEN: the window of the allocation at START, if the headgate decided it open and every row of R87 still holds. -/
def State.windowOpen (s : State) (l : Leg) (u start : Nat) : State :=
  let g := s.leg l
  let key := upKey g.upSfc g.upFn
  match g.allocs.find? fun a => a.key == key && a.wave == u && a.start == start && (a.hgOpen || a.role) && !a.withdrawn && !a.opened with
  | none => s
  | some a =>
    match s.refusal l a (s.hgSlotFor l a.id a.sfc) false 0 with
    | some R => s.stayDark l a R
    | none => (s.windowEnd l u true).openWindow l u a

def execWindowOpen (l : Leg) (u start : Nat) (s : State) : Out := .next (s.windowOpen l u start)

/-! ### Rogue latch and emergency stop (R95, R96) -/

/-- Both latches have the same effect on the pins. (DEDUCED, log 37.) -/
def State.stopPins (s : State) (l : Leg) : State := (((s.cutWindows l).settlePins l).settleLanes l).settleDef l

def rogueFilter (x : Nat) : Nat := if x = 0 then 1 else min x 8

/-- Three rogue latches within 24 hours fail the leg (R275). -/
def State.rogueCount (s : State) (l : Leg) : State :=
  let now := s.runSec
  let s := s.upd l fun g => { g with rogueAt := now :: g.rogueAt.filter fun t => now < t + 86400 }
  if (s.leg l).rogueAt.length ≥ 3 then s.legFailed l else s

/-- ROGUE_LATCH: light for FILTER consecutive samples outside the wave's windows, each extended by its tail. (DEDUCED, log 35.) -/
def State.rogueLatch (s : State) (l : Leg) (u samples : Nat) : State :=
  if u ≥ 2 || samples < rogueFilter (s.rd Reg.HG_ROGUE_CTL_FILTER l.n) || (s.win l u).isSome || s.run16 < s.tailEnd l u ||
     s.isOn Reg.HG_STATUS_ROGUE l.n then s else
  let s := ((s.wr Reg.HG_STATUS_ROGUE 1 l.n).inc Reg.HG_CNT_ROGUE_EVENTS l.n).event (Ev.hg l 0)
  (s.stopPins l).rogueCount l

def execRogueLatch (l : Leg) (u samples : Nat) (s : State) : Out := .next (s.rogueLatch l u samples)

def State.emergencyStop (s : State) (l : Leg) : State :=
  if s.isOn Reg.HG_STATUS_ESTOP l.n then s else ((s.wr Reg.HG_STATUS_ESTOP 1 l.n).event (Ev.hg l 1)).stopPins l

def execEmergencyStop (l : Leg) (msg : BitVec 384) (s : State) : Out :=
  .next (s.inFrame l fun s => s.onMsg l 0x06 msg true 0 fun s => (.silent, s.emergencyStop l))

def State.rogueRelease (s : State) (l : Leg) : State :=
  ((((s.wr Reg.HG_STATUS_ROGUE 0 l.n).wr Reg.HG_STATUS_ESTOP 0 l.n).settlePins l).settleLanes l).settleDef l

def execRogueRelease (l : Leg) (msg : BitVec 384) (s : State) : Out :=
  .next (s.inFrame l fun s => s.onMsg l 0x07 msg true 0 fun s => (.answered St.ok, s.rogueRelease l))

/-! ### HG_CTL (R92, R93, R402) -/

/-- FORCE_TXDIS becomes 1. -/
def State.forceTxdis (s : State) (l : Leg) : State :=
  if s.isOn Reg.HG_CTL_FORCE_TXDIS l.n then s
  else (((s.wr Reg.HG_CTL_FORCE_TXDIS 1 l.n).cutWindows l).settlePins l).settleLanes l

/-- A write of HG_CTL; a 0 to FORCE_TXDIS is discarded while OPT_SAFE.CAUSE is nonzero. (DEDUCED, log 35; DEDUCED, log 37.) -/
def State.hgCtl (s : State) (l : Leg) (v : Nat) : State :=
  let s := s.wr Reg.HG_CTL_TX_ALLOW (bit v 0) l.n
  if bit v 1 = 1 then (s.forceTxdis l).settlePins l
  else if s.rd Reg.OPT_SAFE_CAUSE l.n ≠ 0 then s.settlePins l
  else (((s.wr Reg.HG_CTL_FORCE_TXDIS 0 l.n).upd l fun g => { g with safeHeld := false }).settlePins l).settleLanes l

def execHgCtlWrite (ag : Agent) (l : Leg) (v : BitVec 32) (s : State) : Out := .next <| s.reg ag fun s => s.hgCtl l v.toNat

end Sys2Proof.Machine
end

