-- ==== Sys2Proof/Machine/Sleep.lean ====
section
/-! DEFINITION. Cyclic sleep: the move of R368, the requests of R369, the SLEEP message, the sleep cycle and its end (R370 to R373), and
the terminal's requests as they close (R69, R71). -/

namespace Sys2Proof.Machine

/-! ### Asking to sleep (R368, R369) -/

/-- CYCLE_REQ as it acts. -/
def State.cycleReq (s : State) : Nat := max 2 (min 16 (s.rd Reg.PWR_SLEEP_CTL_CYCLE_REQ))

/-- REQUEST SLEEP on a leg that is RANGED; MODE 1 asks for the cycle, MODE 0 departs. -/
def State.sleepOn (s : State) (l : Leg) (mode : Nat) : State :=
  if s.rd Reg.ACT_STATUS_STATE l.n ≠ 5 then s else
  { s.sendReq l 2 (BitVec.ofNat 8 mode :: beBytes 2 s.cycleReq) with pwr := { s.pwr with sleepReq := s.pwr.sleepReq ++ [s.txid] } }

/-- The requests of R369, or those of entry step 1 of R374 when TARGET is DEEP_SLEEP or OFF. -/
def State.askSleep (s : State) : State :=
  let t := s.rd Reg.PWR_CTL_TARGET
  let s := { s with pwr := { s.pwr with wakeArisen := false, entering := decide (t ≥ 2), pendWake := [] } }
  if t = 0 then s else
  (s.sleepOn .a (b2n (t = 1 && s.active == .a))).sleepOn .b (b2n (t = 1 && s.active == .b))

/-- No request, grant or sleep is under way. (DEDUCED, log 40.) -/
def State.moveIdle (s : State) : Bool :=
  s.pwr.sleepReq.isEmpty && s.pwr.granted.isNone && !s.pwr.asleep && !s.pwr.entering && s.rd Reg.PWR_STATUS_STATE ≤ 1

/-- Firmware moves the terminal toward TARGET, now or when it is back (R368). (DEDUCED, log 40.) -/
def State.move (s : State) : State :=
  if !s.fwPresent then { s with pwr := { s.pwr with moveDue := true } }
  else
    let s := { s with pwr := { s.pwr with moveDue := false } }
    if s.pwr.cause ≠ 0 && s.moveIdle then s.askSleep else s

/-- RETRY_S seconds have passed since a refused sleep, or since one that its head end ended. -/
def State.retryDue (s : State) : Bool := s.pwr.retryAt + 1000000000 * max 1 (s.rd Reg.PWR_SLEEP_CTL_RETRY_S) ≤ s.runNs

/-- RETRY_S after a refused sleep. -/
def State.sleepRetry (s : State) : State :=
  if s.fwPresent && s.rd Reg.PWR_CTL_TARGET == 1 && s.pwr.cause ≠ 0 && s.moveIdle && s.retryDue then s.askSleep else s

def execSleepRetry (s : State) : Out := .next s.sleepRetry

/-! ### A request closes (R69, R71, R369) -/

/-- Firmware enables a departed leg again. -/
def State.rejoinLeg (s : State) (l : Leg) : State :=
  if (s.leg l).rejoin then (s.upd l fun g => { g with rejoin := false }).actCtl l 1 else s

/-- A sleep refused: the terminal stays as it is, and every outstanding sleep request is given up. -/
def State.sleepRefused (s : State) : State :=
  let ids := s.pwr.sleepReq
  let s := { s with reqs := s.reqs.filter fun q => !has ids q.txid }
  let s := { s with pwr := { s.pwr with sleepReq := [], retryAt := s.runNs } }
  ((s.event (Ev.pwr 4)).rejoinLeg .a).rejoinLeg .b

/-- MODE of a SLEEP request. -/
def Req.cyclic (q : Req) : Bool := q.msg / 2 ^ 320 % 2 == 1

/-- A SLEEP request is answered, or given up (none). On the way to deep sleep the legs depart at step 2 of R374. -/
def State.closeSleep (s : State) (q : Req) (status : Option Nat) : State :=
  let s := { s with pwr := { s.pwr with sleepReq := s.pwr.sleepReq.filter fun t => t != q.txid } }
  if q.cyclic then (if status = some St.ok then s else s.sleepRefused)
  else if !s.pwr.entering then (s.upd q.leg fun g => { g with rejoin := true }).actCtl q.leg 0
  else s

/-- The wake request is answered: the kept leg is free of its cycle (R79, R373). -/
def State.wakeAnswered (s : State) : State :=
  let s := match s.pwr.wakeReq with
    | some t => s.dropReq t
    | none => s
  let l := s.kept
  let s := if s.rd Reg.ACT_STATUS_STATE l.n = 5 then s.withdraw l else s
  { s with pwr := { s.pwr with wakeReq := none } }.upd l fun g => { g with wakeSent := false, wakeN := 0, wakeSkip := 0 }

/-- A RESPONSE closes the request with its TXID. -/
def State.response (s : State) (l : Leg) (m : BitVec 384) : State :=
  s.fwMsg l 0x0E m fun s => s.onMsg l 0x0E m false 0 fun s =>
    match s.reqs.find? fun q => q.txid == msgTxid m with
    | none => (.ignored, s)
    | some q =>
      let s := s.dropReq q.txid
      let s := if q.code = 1 then s.wakeAnswered else if q.code = 2 then s.closeSleep q (some (mfield m 6 1)) else s
      (.silent, s)

def execResponse (l : Leg) (msg : BitVec 384) (s : State) : Out := .next (s.inFrame l fun s => s.response l msg)

/-- RETRY_SF have passed on a request: it is sent again, or abandoned. WAKE on the kept leg follows R79 instead. (DEDUCED, log 39.) -/
def State.requestRetry (s : State) (txid : Nat) : State :=
  match s.reqs.find? fun q => q.txid == txid with
  | none => s
  | some q =>
    if (q.code = 1 && q.leg = s.kept) || q.due || !q.sent then s
    else if q.retries ≥ s.rd Reg.LINE_REQ_CTL_RETRIES q.leg.n then
      let s := (s.dropReq txid).event (Ev.leg q.leg 9)
      if q.code = 2 then s.closeSleep q none else s
    else s.resend q q.leg

def execRequestRetryTimer (txid : Nat) (s : State) : Out := .next (s.requestRetry txid)

/-! ### The SLEEP message (R370, R373) -/

/-- A SLEEP with OP = 1: its answer, and sleep from EFF_SFC when it is OK. -/
def State.sleepGrant (s : State) (l : Leg) (cycle eff : Nat) : Took × State :=
  if cycle < 2 || cycle > 16 then s.fieldBad l true
  else if s.rd Reg.PWR_CTL_TARGET ≠ 1 || s.pwr.cause = 0 then (.answered St.denied, s)
  else if s.pwr.wakeArisen then (.answered St.cancelled, s)
  else if !s.effOk l eff then (.answered St.outOfWindow, s)
  else
    let s := { s with pwr := { s.pwr with granted := some (cycle, eff) } }
    let s := ((s.wr Reg.PWR_SLEEP_CTL_CYCLE_SF cycle).wr2 Reg.PWR_SLEEP_EFF_LO Reg.PWR_SLEEP_EFF_HI eff).wr Reg.PWR_STATUS_KEPT_LEG l.n
    (.answered St.ok, s.event (Ev.pwr 3))

/-- A SLEEP with OP = 0 ends a sleep or its grant, and answers a wake request: at once, since R373 makes its arrival the wake cause; its
EFF_SFC is only held to R66. (DEDUCED, log 39; DESIGN CHOICE, log 65.) -/
def State.sleepEnd (s : State) (l : Leg) : State :=
  let s := if s.pwr.asleep && l = s.kept then s.wakeCause 6 else s
  let s := { s with pwr := { s.pwr with granted := none } }
  if s.pwr.wakeReq.isSome then s.wakeAnswered else s

/-- SLEEP (R370). (DEDUCED, log 39.) -/
def State.sleepMsg (s : State) (l : Leg) (m : BitVec 384) : State :=
  s.fwMsg l 0x0C m fun s => s.onMsg l 0x0C m false 0 fun s =>
    if mfield m 6 1 % 2 = 1 then s.sleepGrant l (mfield m 7 2) (mfield m 9 6)
    else if !s.effOk l (mfield m 9 6) then (.answered St.outOfWindow, s)
    else (.answered St.ok, s.sleepEnd l)

def execSleep (l : Leg) (msg : BitVec 384) (s : State) : Out := .next (s.inFrame l fun s => s.sleepMsg l msg)

/-! ### The cycle (R371, R372) -/

def State.settleBoth (s : State) : State := ((s.settleLanes .a).settleLanes .b).settleTime

/-- SLEEP_START: from the kept leg's superframe EFF_SFC on, which is awake. (DEDUCED, log 38; DEDUCED, log 39.) -/
def State.sleepStart (s : State) : State :=
  if !(s.pwr.granted.any fun p => 8 * p.2 ≤ s.d0Key s.kept) || s.pwr.asleep then s else
  let s := { s with pwr := { s.pwr with granted := none, asleep := true, awake := true, firstMark := false, pendWake := [] } }
  (((s.setPower 3).inc Reg.PWR_CNT_SLEEP_ENTRIES).inc Reg.PWR_CNT_AWAKE_SF).settleBoth

def execSleepStart (s : State) : Out := .next s.sleepStart

/-- D0 frames that LEAD_US reaches into before the marker of (a - 1, 6). -/
def State.leadFrames (s : State) : Nat := (max 100 (s.rd Reg.PWR_SLEEP_CTL_LEAD_US) + 124) / 125

/-- AWAKE_START: LEAD_US before the marker of (a - 1, 6) of an awake superframe a. (DEDUCED, log 38.) -/
def State.awakeStart (s : State) : State :=
  if !s.pwr.asleep || s.pwr.awake || !s.awakeSf ((s.d0Key s.kept + s.leadFrames + 2) / 8) then s else
  let s := { s with pwr := { s.pwr with awake := true } }
  ((s.setPower 3).inc Reg.PWR_CNT_AWAKE_SF).settleBoth

def execAwakeStart (s : State) : Out := .next s.awakeStart

/-- DOZE_START: the end of D0 frame (a, 7) of an awake superframe a. (DEDUCED, log 38.) -/
def State.dozeStart (s : State) : State :=
  if !s.pwr.asleep || !s.pwr.awake || s.d0Key s.kept % 8 ≠ 7 || !s.awakeSf (s.d0Key s.kept / 8) then s else
  let s := { s with pwr := { s.pwr with awake := false, firstMark := true } }
  (s.setPower 2).settleBoth

def execDozeStart (s : State) : Out := .next s.dozeStart

/-- SLEEP_ENDED: the steps of R373 on a wake cause that has arisen in this sleep. -/
def State.sleepEnded (s : State) (code : Nat) : State :=
  if !s.pwr.asleep || !has s.pwr.pendWake code then s else
  let s := { s with pwr := { s.pwr with asleep := false, awake := false, firstMark := false, pendWake := [],
                                        retryAt := if code = 6 then s.runNs else s.pwr.retryAt } }
  let s := (((s.setPower 0).recordWake code).settleBoth).event (Ev.pwr 5)
  let l := s.kept
  let s := if code = 6 then s else
    { s.sendReq l 1 [] with pwr := { s.pwr with wakeReq := some s.txid } }.upd l fun g => { g with wakeN := 0, wakeSkip := 0 }
  (s.rejoinLeg .a).rejoinLeg .b

def execSleepEnded (code : Nat) (s : State) : Out := .next (s.sleepEnded code)

end Sys2Proof.Machine
end

