-- ==== Sys2Proof/Machine/Firmware.lean ====
section
/-! DEFINITION. Flash and images, the boot ROM, the ditch rider, restarts and heartbeats, settings, the life cycle
(13_firmware_and_lifecycle.md, R338 to R364; R25, R26). -/

namespace Sys2Proof.Machine

/-! ### The flash (R338, R339) -/

/-- n bytes from an offset of what was programmed; erased flash reads 0xFF. -/
def ffTake (l : List Byte) (off n : Nat) : List Byte :=
  let x := (l.drop off).take n
  x ++ List.replicate (n - x.length) 0xFF

/-- What a region of the flash holds. -/
inductive FlashRegion where
  | bootRec (copy : Nat)
  | verified (slot : Nat)
  | journal
  | settings (copy : Nat)
  | image (slot : Nat)
  | reserved
deriving DecidableEq, Repr

/-- The map of the lowest 64 MiB: offset, size and content (R339). -/
def flashMap : List (Nat × Nat × FlashRegion) := [
  (0x0000000, 0x1000, .bootRec 0), (0x0001000, 0x1000, .bootRec 1), (0x0002000, 0x1000, .verified 0), (0x0003000, 0x1000, .verified 1),
  (0x0004000, 0xC000, .reserved), (0x0010000, 0x10000, .journal), (0x0020000, 0x80000, .settings 0), (0x00A0000, 0x80000, .settings 1),
  (0x0120000, 0x2E0000, .reserved), (0x0400000, 0x1C00000, .image 0), (0x2000000, 0x1C00000, .image 1), (0x3C00000, 0x400000, .reserved)]

def State.img (s : State) (slot : Nat) : Tab (List Byte) := if slot = 0 then s.fw.flash.img0 else s.fw.flash.img1

/-- n bytes of a slot from an offset; one block holds what does not pass its end. -/
def State.imgBytes (s : State) (slot off n : Nat) : List Byte :=
  if off % 65536 + n ≤ 65536 then ffTake (Tab.get [] (off / 65536) (s.img slot)) (off % 65536) n else
  (((List.range ((off + n + 65535) / 65536)).flatMap fun b => ffTake (Tab.get [] b (s.img slot)) 0 65536).drop off).take n

/-- n bytes of a region from an offset in it; reserved regions are not read. -/
def State.regionBytes (s : State) (r : FlashRegion) (off n : Nat) : List Byte :=
  let f := s.fw.flash
  match r with
  | .bootRec c => ffTake (if c = 0 then f.rec0 else f.rec1) off n
  | .verified k => ffTake (if k = 0 then f.ver0 else f.ver1) off n
  | .journal => ffTake f.jour off n
  | .settings c => ffTake (if c = 0 then f.set0 else f.set1) off n
  | .image k => s.imgBytes k off n
  | .reserved => []

/-- Read n bytes at an offset of the flash, within one region. -/
def State.flashRead (s : State) (off n : Nat) : List Byte :=
  match flashMap.find? fun p => p.1 ≤ off && off + n ≤ p.1 + p.2.1 with
  | some (base, _, r) => s.regionBytes r (off - base) n
  | none => []

def State.setFlash (s : State) (f : FlashSt → FlashSt) : State := { s with fw := { s.fw with flash := f s.fw.flash } }

/-- Bit k of the journal's map, at byte 52: 1 until block k is committed. (DESIGN CHOICE, log 70.) -/
def jourBit (j : List Byte) (k : Nat) : Nat := bit (j.getD (52 + k / 8) 0xFF).toNat (k % 8)

/-- The journal with bit k programmed to 0, or back at 1. -/
def jourMark (j : List Byte) (k v : Nat) : List Byte :=
  let j := ffTake j 0 108
  let x := (j.getD (52 + k / 8) 0).toNat
  j.set (52 + k / 8) (BitVec.ofNat 8 (x - x / 2 ^ (k % 8) % 2 * 2 ^ (k % 8) + v * 2 ^ (k % 8)))

/-- Program a boot record copy (0, 1), a VERIFIED record (2, 3), the journal (4) or a settings copy (5, 6) anew. -/
def FlashSt.put (f : FlashSt) (what : Nat) (b : List Byte) : FlashSt :=
  match what with
  | 0 => { f with rec0 := b }
  | 1 => { f with rec1 := b }
  | 2 => { f with ver0 := b }
  | 3 => { f with ver1 := b }
  | 4 => { f with jour := b }
  | 5 => { f with set0 := b }
  | 6 => { f with set1 := b }
  | _ => f

def FlashSt.has (f : FlashSt) (what : Nat) : List Byte :=
  match what with
  | 0 => f.rec0
  | 1 => f.rec1
  | 2 => f.ver0
  | 3 => f.ver1
  | 4 => f.jour
  | 5 => f.set0
  | _ => f.set1

/-- Program block idx of a slot's image. -/
def FlashSt.putBlock (f : FlashSt) (slot idx : Nat) (b : List Byte) : FlashSt :=
  if slot = 0 then { f with img0 := Tab.put [] idx b f.img0 } else { f with img1 := Tab.put [] idx b f.img1 }

/-- Begin a write, which a power failure may cut off: an item of `FlashSt.put`, or a block, 8 + 448 x slot + block. -/
def State.program (s : State) (what : Nat) (b : List Byte) : State :=
  s.setFlash fun f => { f.put what b with going := some (what, s.runNs) }

/-- A write that is cut off leaves its first n bytes; a block cut off keeps its map bit at 1 (R357). -/
def FlashSt.tear (f : FlashSt) (what n : Nat) : FlashSt :=
  if what < 8 then f.put what ((f.has what).take n) else
  let k := (what - 8) / 448
  let idx := (what - 8) % 448
  { f.putBlock k idx ((Tab.get [] idx (if k = 0 then f.img0 else f.img1)).take n) with jour := jourMark f.jour idx 1 }

/-- Power fails, or the cores stop unforeseen, at a moment when a write may still go on. (DESIGN CHOICE, log 70.) -/
def State.tearFlash (s : State) : State :=
  match s.fw.flash.going with
  | none => s
  | some (w, t) =>
    let n := (Config.flashTorn s.freeIdx).toNat
    let cut := s.runNs < t + (Config.flashWriteNs s.freeIdx).toNat
    (s.setFlash fun f => { (if cut then f.tear w n else f) with going := none }).spend

/-! ### Image headers (R340) -/

/-- The 4,096-byte header of a slot. -/
def State.hdr (s : State) (slot : Nat) : List Byte := s.flashRead (if slot = 0 then 0x400000 else 0x2000000) 4096

/-- A header field of n bytes, little-endian. -/
def hLe (h : List Byte) (off n : Nat) : Nat := leNat (slice h off n)

/-- MAGIC and FORMAT are right. -/
def hdrOk (h : List Byte) : Bool := hLe h 0 4 == 0x4E54494D && hLe h 4 2 == 1

/-- D, the header digest. -/
def hdrDigest (h : List Byte) : Nat := Crypto.sha384 (h.take 2400)

def lenOk (n : Nat) : Bool := 8192 ≤ n && n ≤ 29360128

/-- The length fields lie within R340's ranges. -/
def hdrLens (h : List Byte) : Bool := lenOk (hLe h 8 4) && hLe h 20 4 ≤ 3145728 && hLe h 28 4 ≤ 1048576 && hLe h 56 2 ≤ 128

/-- x to the power e, modulo the field prime. -/
def sqrtP (a : Nat) : Nat := Crypto.powMod Crypto.p384 a 384 ((Crypto.p384 + 1) / 4)

/-- The public keys under which (r, s) verifies over h: the points Q of r Q = s R - h G, for each point R whose x is r modulo the order. -/
def recoverKeys (h r s : Nat) : List (Nat × Nat) :=
  if 0 < r && r < Crypto.order && 0 < s && s < Crypto.order then
    [r, r + Crypto.order].flatMap fun x =>
      let y := sqrtP ((x * x % Crypto.p384 * x + (Crypto.p384 - 3) * x + Crypto.curveB) % Crypto.p384)
      if !Crypto.onCurve x y then [] else
      [y, Crypto.p384 - y].filterMap fun y =>
        let w := Crypto.inv Crypto.order r
        Crypto.padd (Crypto.pmul (some (x, y)) 384 (s * w % Crypto.order))
          (Crypto.pmul (some (Crypto.baseX, Crypto.baseY)) 384 ((Crypto.order - h % Crypto.order) * w % Crypto.order))
  else []

/-- COSIG verifies under the key whose SHA-384 the fuses hold (R341, R342). -/
def cosigOk (h : List Byte) (keyHash : Nat) : Bool :=
  (recoverKeys (hdrDigest h) (beNat (slice h 2496 48)) (beNat (slice h 2544 48))).any fun q =>
    Crypto.sha384 (beBytes 48 q.1 ++ beBytes 48 q.2) == keyHash

/-- The co-signing key in force: the record blown last. -/
def State.cosignHash (s : State) : Option Nat := s.fw.fuse.cosign.getLast?

def State.rootHash (s : State) : Nat := (List.range 12).foldl (fun n i => n * 2 ^ 32 + s.rd Reg.GEN_ROOTHASH 0 i) 0

def State.stepping (s : State) : Nat := s.rd Reg.GEN_ID_STEPPING

/-- The first check of R352 that an image fails, 0 when it is authentic (R341) and consistent (R343). -/
def State.imgFail (s : State) (slot : Nat) : Nat :=
  let h := s.hdr slot
  let d := hdrDigest h
  if !hdrOk h then 1
  else if !hdrLens h then 2
  else if Crypto.sha384 (slice h 2304 96) ≠ s.rootHash then 3
  else if !Crypto.ecdsaVerify (beNat (slice h 2304 48)) (beNat (slice h 2352 48)) d (beNat (slice h 2400 48)) (beNat (slice h 2448 48)) then 4
  else if s.cosignHash.any fun k => !cosigOk h k then 5
  else if Crypto.sha384 (s.imgBytes slot 4096 (hLe h 8 4 - 4096)) ≠ beNat (slice h 64 48) then 6
  else if !(hLe h 32 2 ≤ s.stepping && s.stepping ≤ hLe h 34 2) then 7
  else if !(hLe h 36 4 ≤ hLe h 24 4 && hLe h 24 4 ≤ hLe h 40 4 && hLe h 44 4 ≤ hLe h 16 4 && hLe h 16 4 ≤ hLe h 48 4) then 8
  else if hLe h 54 2 > hLe h 52 2 then 9
  else 0

/-- An image whose header is consistent (R343). (DEDUCED, log 44.) -/
def State.consistent (s : State) (slot : Nat) : Bool :=
  let h := s.hdr slot
  hdrOk h && hdrLens h && hLe h 32 2 ≤ s.stepping && s.stepping ≤ hLe h 34 2 && hLe h 36 4 ≤ hLe h 24 4 && hLe h 24 4 ≤ hLe h 40 4 &&
    hLe h 44 4 ≤ hLe h 16 4 && hLe h 16 4 ≤ hLe h 48 4 && hLe h 54 2 ≤ hLe h 52 2

/-- The combination is in the compatibility table (R344). -/
def State.tested (s : State) (slot : Nat) : Bool :=
  let h := s.hdr slot
  (List.range (min 128 (hLe h 56 2))).any fun i =>
    let e := 256 + 16 * i
    hLe h e 2 ≤ s.stepping && s.stepping ≤ hLe h (e + 2) 2 && hLe h (e + 4) 4 ≤ hLe h 24 4 && hLe h 24 4 ≤ hLe h (e + 8) 4

/-- A little-endian record of 60 bytes and its CRC-32, which R345 lays out for the boot record; the model gives a VERIFIED record the same
form. (DESIGN CHOICE, log 70.) -/
def crcSeal (b : List Byte) : List Byte := b ++ leBytes 4 (crc32 (byteBits b))

def crcGood (b : List Byte) : Bool := leNat (slice b 60 4) == crc32 (byteBits (b.take 60))

/-- A VERIFIED record: MAGIC, the slot number, D and a CRC-32 (R345). (DESIGN CHOICE, log 70.) -/
def verRecord (slot d : Nat) : List Byte := crcSeal (leBytes 4 0x4E545652 ++ leBytes 4 slot ++ beBytes 48 d ++ zeros 4)

/-- The slot's VERIFIED record is valid for it (R345). -/
def State.verified (s : State) (slot : Nat) : Bool :=
  let b := s.flashRead (if slot = 0 then 0x2000 else 0x3000) 64
  hLe b 0 4 == 0x4E545652 && hLe b 4 4 == (if slot = 0 then 0 else 1) && crcGood b && beNat (slice b 8 48) == hdrDigest (s.hdr slot)

/-- Erase a slot's VERIFIED record, or write it for D. -/
def State.setVerified (s : State) (slot : Nat) (d : Option Nat) : State :=
  let k := if slot = 0 then 2 else 3
  match d with
  | none => s.setFlash fun f => f.put k []
  | some d => s.program k (verRecord (if slot = 0 then 0 else 1) d)

/-- FW_SLOT_s: a header without the right MAGIC and FORMAT reads as zeros. (DEDUCED, log 43.) -/
def State.settleSlot (s : State) (k : Nat) : State :=
  let h := s.hdr k
  let ok := hdrOk h
  let g := fun off n => if ok then hLe h off n else 0
  let s := (((s.wr Reg.FW_SLOT0_HDR_OK (b2n ok) 0 k).wr Reg.FW_SLOT0_VERIFIED (b2n (ok && s.verified k)) 0 k).wr Reg.FW_SLOT0_COSIGNED
    (b2n (ok && beNat (slice h 2496 96) != 0)) 0 k).wr Reg.FW_SLOT0_TESTED (b2n (ok && s.tested k)) 0 k
  let s := (((s.wr Reg.FW_SLOT0_SCHEMA_WRITE (g 52 2) 0 k).wr Reg.FW_SLOT_IMAGE_VER (g 12 4) 0 k).wr Reg.FW_SLOT_TROEB_VER (g 16 4) 0 k).wr
    Reg.FW_SLOT_FLUME_VER (g 24 4) 0 k
  ((s.wr Reg.FW_SLOT_STEP_STEP_MIN (g 32 2) 0 k).wr Reg.FW_SLOT_STEP_STEP_MAX (g 34 2) 0 k).wr Reg.FW_SLOT_SCHEMA_SCHEMA_READ_MIN (g 54 2) 0 k

/-! ### Boot records (R345) -/

/-- Byte 8 of a record. -/
def BootRec.flags (r : BootRec) : Nat := r.active % 2 + 2 * (r.prev % 2) + 4 * b2n r.trial + 8 * b2n r.ovr + 16 * (r.starts % 4)

/-- The 64 bytes of a copy. -/
def BootRec.bytes (r : BootRec) : List Byte :=
  crcSeal (leBytes 4 0x4E544252 ++ leBytes 4 r.seq ++ leBytes 1 r.flags ++ zeros 1 ++ leBytes 2 r.trialMin ++ zeros 48)

/-- A copy is valid when its MAGIC and CRC-32 are correct. -/
def bootRecOf (b : List Byte) : Option BootRec :=
  let f := hLe b 8 1
  if hLe b 0 4 = 0x4E544252 && crcGood b then
    some { seq := hLe b 4 4, active := bit f 0, prev := bit f 1, trial := bit f 2 == 1, ovr := bit f 3 == 1, starts := bits f 5 4,
           trialMin := hLe b 10 2 }
  else none

/-- Copy c, if it is valid. -/
def State.bootCopy (s : State) (c : Nat) : Option BootRec := bootRecOf (s.flashRead (if c = 0 then 0 else 0x1000) 64)

/-- The record in force, and which copy it is: the valid copy with the greater SEQ. (DEDUCED, log 43.) -/
def State.bootIn (s : State) : Option (BootRec × Nat) :=
  match s.bootCopy 0, s.bootCopy 1 with
  | some a, some b => if b.seq > a.seq then some (b, 1) else some (a, 0)
  | some a, none => some (a, 0)
  | none, some b => some (b, 1)
  | none, none => none

/-- The record in force, and R346's default when no copy is valid. -/
def State.bootRec (s : State) : BootRec := (s.bootIn.map Prod.fst).getD {}

def State.settleRec (s : State) : State :=
  match s.bootIn with
  | none => s
  | some (r, _) => ((s.wr Reg.FW_BOOTREC_SEQ r.seq).wr Reg.FW_BOOTREC_FLAGS r.flags).wr Reg.FW_BOOTREC_FLAGS_TRIAL_MIN r.trialMin

/-- Write a record into the sector of the other copy, with SEQ one greater. -/
def State.writeRec (s : State) (r : BootRec) : State :=
  let c := match s.bootIn with
    | some (_, 0) => 1
    | _ => 0
  (s.program c { r with seq := (s.bootRec.seq + 1) % 2 ^ 32 }.bytes).settleRec

/-! ### The life cycle in fuses (R360 to R364) -/

/-- The bits of a copy that is present, of an intent and of a commit. -/
def intentBits : Nat := 0x3C5A
def commitBits : Nat := 0xA5C3

/-- A record is present when at least two of its copies read exactly its bits. -/
def present (bits : Nat) (copies : List Nat) : Bool := 2 ≤ (copies.filter fun c => c == bits).length

/-- Blow a record's bits in every copy; a blown bit stays. -/
def blown (bits : Nat) (copies : List Nat) : List Nat := copies.map fun c => c.lor bits

def FuseSt.intent (f : FuseSt) (k : Nat) : Bool := present intentBits (if k = 1 then f.intent1 else if k = 2 then f.intent2 else f.intent3)
def FuseSt.commit (f : FuseSt) (k : Nat) : Bool := present commitBits (if k = 1 then f.commit1 else if k = 2 then f.commit2 else f.commit3)

/-- The state is the target of the highest transition whose commit is present. -/
def FuseSt.lc (f : FuseSt) : Nat := if f.commit 3 then 3 else if f.commit 2 then 2 else if f.commit 1 then 1 else 0

/-- The target of a pending transition. -/
def FuseSt.pendingTarget (f : FuseSt) : Option Nat := [1, 2, 3].find? fun k => decide (f.lc < k) && f.intent k && !f.commit k

def State.setFuse (s : State) (f : FuseSt → FuseSt) : State := { s with fw := { s.fw with fuse := f s.fw.fuse } }

/-- Blow the missing copies of a transition's intent, or of its commit. -/
def FuseSt.blowIntent (f : FuseSt) (k : Nat) : FuseSt :=
  if k = 1 then { f with intent1 := blown intentBits f.intent1 } else if k = 2 then { f with intent2 := blown intentBits f.intent2 }
  else { f with intent3 := blown intentBits f.intent3 }
def FuseSt.blowCommit (f : FuseSt) (k : Nat) : FuseSt :=
  if k = 1 then { f with commit1 := blown commitBits f.commit1 } else if k = 2 then { f with commit2 := blown commitBits f.commit2 }
  else { f with commit3 := blown commitBits f.commit3 }

/-- FW_LC, GEN_LC and the override follow the fuses (R344, R363). -/
def State.settleLc (s : State) : State :=
  let f := s.fw.fuse
  let p := f.pendingTarget
  let s := ((s.wr Reg.FW_LC_STATE f.lc).wr Reg.GEN_LC_LC_STATE f.lc).wr Reg.FW_LC_COSIGN_USED f.cosign.length
  let s := ((s.wr Reg.FW_LC_PENDING (b2n p.isSome)).wr Reg.GEN_LC_LC_PENDING (b2n p.isSome)).wr Reg.FW_LC_PEND_TGT (p.getD 0)
  if f.lc = 1 then s else s.wr Reg.FW_CTL_ALLOW_UNTESTED 0

/-- Zeroise a leg's enrolled head end key. -/
def State.wipeHeKey (s : State) (l : Leg) : State := (List.range 12).foldl (fun s i => s.wr Reg.CIPH_HEKEY_HASH 0 l.n i) s

/-- Erase every key slot and every KEK (R221). -/
def State.zeroiseKeys (s : State) : State := (s.eraseAll.upd .a fun g => { g with kek := none }).upd .b fun g => { g with kek := none }

/-- Retirement's zeroising, in order (R364). -/
def State.zeroise (s : State) : State :=
  let s := s.zeroiseKeys.setFuse fun f => { f with idPriv := 2 ^ 384 - 1 }
  let s := ((s.wipeHeKey .a).wipeHeKey .b).setFlash fun f => { f with set0 := [], set1 := [] }
  let s := { s with mbx := { s.mbx with sw := [] } }
  { s with host := { s.host with fwQueue := [] } }

/-- A transition's work (R362). -/
def State.lcWork (s : State) (k : Nat) : State :=
  if k = 1 then s.setFuse fun f => { f with testOff := true } else if k = 3 then s.zeroise else s

/-- Blow the intent, do the work, blow the commit, raise LC_CHANGE (R362, R363). -/
def State.lcRun (s : State) (k : Nat) : State :=
  let s := (s.setFuse fun f => f.blowIntent k).lcWork k
  (((s.setFuse fun f => f.blowCommit k).settleLc).event (Ev.fw 11))

/-- The boot ROM completes an interrupted retirement first (R346 step 1). -/
def State.finishRetire (s : State) : State := if s.fw.fuse.pendingTarget = some 3 then s.lcRun 3 else s

/-- Troeb completes a pending T1 or T2, and blows intents that a commit lacks, before it offers any service (R361, R363). -/
def State.finishPending (s : State) : State :=
  let s := s.setFuse fun f => [1, 2, 3].foldl (fun f k => if f.commit k && !f.intent k then f.blowIntent k else f) f
  match s.fw.fuse.pendingTarget with
  | some k => s.lcRun k
  | none => s

/-- LC_ARM: a write of FW_LC_ARM. (DEDUCED, log 41.) -/
def State.lcArm (s : State) (v : Nat) : State := { s with fw := { s.fw with lcArm := some (v % 4, s.runMs) } }

def execLcArm (ag : Agent) (v : BitVec 32) (s : State) : Out := .next (if ag = .pf then s.reg .pf fun s => s.lcArm v.toNat else s)

/-! ### Settings (R358, R359) -/

/-- The body of a settings copy: 8 bytes of each field's key and 8 of its value. (DESIGN CHOICE, log 70.) -/
def settingsBody (fields : List (Nat × Nat)) : List Byte := fields.flatMap fun p => leBytes 8 p.1 ++ leBytes 8 p.2

def fieldsOf : Nat → List Byte → List (Nat × Nat)
  | 0, _ => []
  | n + 1, b => (leNat (b.take 8), leNat ((b.drop 8).take 8)) :: fieldsOf n (b.drop 16)

/-- A copy: 28 bytes of header, MAGIC, SCHEMA, SEQ and LEN, then a CRC-32 over them and the body, then the body. (DESIGN CHOICE, log 70.) -/
def Settings.bytes (x : Settings) : List Byte :=
  let body := settingsBody x.fields
  let h := leBytes 4 0x4E545354 ++ leBytes 2 x.schema ++ zeros 2 ++ leBytes 4 x.seq ++ leBytes 4 body.length ++ zeros 12
  h ++ leBytes 4 (crc32 (byteBits (h ++ body))) ++ body

/-- A copy whose MAGIC and CRC-32 are correct. -/
def State.settingsCopy (s : State) (c : Nat) : Option Settings :=
  let off := if c = 0 then 0x20000 else 0xA0000
  let h := s.flashRead off 32
  if hLe h 0 4 ≠ 0x4E545354 || hLe h 12 4 > 0x80000 - 32 then none else
  let body := s.flashRead (off + 32) (hLe h 12 4)
  if hLe h 28 4 = crc32 (byteBits (h.take 28 ++ body)) then
    some { schema := hLe h 4 2, seq := hLe h 8 4, fields := fieldsOf (body.length / 16) body }
  else none

/-- A copy that the image in a slot can read: its CRC is correct, and its schema is one the image reads. -/
def State.readable (s : State) (slot c : Nat) : Option Settings :=
  let h := s.hdr slot
  (s.settingsCopy c).filter fun x => hLe h 54 2 ≤ x.schema && x.schema ≤ hLe h 52 2

/-- The copy an image reads, and which it is: the highest SEQ among those it can read. -/
def State.settingsOf (s : State) (slot : Nat) : Option (Settings × Nat) :=
  match s.readable slot 0, s.readable slot 1 with
  | some a, some b => if b.seq > a.seq then some (b, 1) else some (a, 0)
  | some a, none => some (a, 0)
  | none, some b => some (b, 1)
  | none, none => none

/-- The image can read no copy; a store that is blank holds none (R359). (DEDUCED, log 42.) -/
def State.unreadable (s : State) (slot : Nat) : Bool := (s.settingsOf slot).isNone

def State.runSlot (s : State) : Nat := s.rd Reg.FW_STATUS_SLOT

/-- The image reads the store. -/
def State.readSettings (s : State) (slot : Nat) : State :=
  let s := s.wr Reg.FW_SETTINGS_UNREADABLE (b2n (s.unreadable slot))
  match s.settingsOf slot with
  | some (x, c) => ((s.wr Reg.FW_STATUS_SETTINGS_OK 1).wr Reg.FW_SETTINGS_SCHEMA x.schema).wr Reg.FW_SETTINGS_COPY c
  | none => s.wr Reg.FW_STATUS_SETTINGS_OK 0

/-- Put the stored fields that `p` selects into their registers. -/
def State.restore (s : State) (x : Settings) (p : Nat → Bool) : State :=
  { s with regs := x.fields.foldl (fun t (k, v) => if isSetting k && p k then Tab.put 0 k v t else t) s.regs }

/-- The ownership that firmware assigns when the store holds none (R319). -/
def State.defaultOwners (s : State) : State :=
  (List.range 16).foldl (fun s n => s.wr Reg.MBX_OWN_OWNER (if n < 8 then 0xC0 else if n < 10 then 0xE0 else 0) 0 n) s

/-- Restore at a boot; after deep sleep only what retention does not hold (R377). (DEDUCED, log 42.) -/
def State.restoreAll (s : State) (deep : Bool) : State :=
  let s := match s.settingsOf s.runSlot with
    | some (x, _) => s.restore x fun k => !(deep && isRetained k)
    | none => if deep then s else s.defaultOwners
  s.applyTrims

/-- Every setting stands at its reset value, as for an image that can read no copy (R359). -/
def State.runReset (s : State) : State := { s with regs := s.regs.filter fun p => !isSetting p.1 }.applyTrims

/-- Write the restorable settings to the copy that the image does not read, with SEQ one greater; without one it reads, it writes neither. -/
def State.saveSettings (s : State) (schema : Nat) : State :=
  match s.settingsOf s.runSlot with
  | some (y, c) =>
    let x : Settings := { schema := schema, seq := (y.seq + 1) % 2 ^ 32, fields := s.regs.filter fun p => isStored p.1 }
    s.program (if c = 0 then 6 else 5) x.bytes
  | none => s

/-! ### The boot ROM (R346, R347) -/

def State.provisioned (s : State) : Bool := s.fw.fuse.lc == 1

/-- A slot can be booted: authentic, consistent and, under R344, bootable. -/
def State.canBoot (s : State) (slot : Nat) : Bool := s.imgFail slot == 0 && (s.tested slot || (s.bootRec.ovr && s.provisioned))

/-- The image of a slot starts: FW_STATUS, the trial window, its settings, the flume microcode to run. -/
def State.startSlot (s : State) (slot : Nat) : State :=
  let r := s.bootRec
  let s := (((s.wr Reg.FW_STATUS_SLOT slot).wr Reg.FW_STATUS_TRIAL (b2n r.trial)).wr Reg.FW_STATUS_STARTS r.starts).wr Reg.FW_STATUS_OVERRIDE (b2n r.ovr)
  let fl := hLe (s.hdr slot) 24 4
  let s := { s with fw := { s.fw with trialAt := s.runMs, lastFlume := fl, bank := if s.fw.bootCold then ⟨fl, fl⟩ else s.fw.bank } }
  s.readSettings slot

/-- Step 3: a trial image is counted, or given up at its fourth start. -/
def State.trialStep (s : State) : State :=
  let r := s.bootRec
  if !r.trial then s
  else if r.starts ≥ 3 then
    ((s.writeRec { r with active := r.prev, prev := r.active, trial := false, ovr := false, starts := 0 }).inc Reg.FW_CNT_REVERTS).event (Ev.fw 9)
  else s.writeRec { r with starts := r.starts + 1 }

/-- Step 5: the other slot is booted. -/
def State.fallbackTo (s : State) (alt : Nat) : State :=
  let r := s.bootRec
  let s := s.writeRec { r with active := alt, prev := r.active, trial := false, ovr := false, starts := 0 }
  ((s.inc Reg.FW_CNT_FALLBACKS).event (Ev.fw 5)).startSlot alt

/-- The other slot may be booted by step 5. -/
def State.canFallback (s : State) : Bool := let alt := 1 - s.bootRec.active; s.canBoot alt && s.verified alt

/-- The boot ROM at a start of firmware, which does not touch a flash that R338 refuses; `other` asks for the other slot first (R349). (DEDUCED, log 43.) -/
def State.bootRom (s : State) (other : Bool) : State :=
  if !s.isOn Reg.FW_FLASH_SFDP_OK then s.wr Reg.FW_STATUS_STATE 5
  else
    let s := ((s.finishRetire.settleLc.settleRec).settleSlot 0).settleSlot 1
    if other && s.canFallback then s.fallbackTo (1 - s.bootRec.active)
    else
      let s := (if other then s.event (Ev.fw 6) else s).trialStep
      let a := s.bootRec.active
      if s.canBoot a then s.startSlot a
      else if s.canFallback then s.fallbackTo (1 - a)
      else s.wr Reg.FW_STATUS_STATE 4

/-! ### Firmware stops (R25, R332, R348 to R350) -/

/-- What CANCEL undoes: a bundle whose boundary has not passed is discarded, open or pending. -/
def State.undoOp (s : State) (i : Nat) : State :=
  if s.opCode i = 0x43 && !(s.op i).passed && s.rd Reg.CLS_COMMIT_STATUS_GROUP ≠ 0 then s.commitCancel else s

/-- A live operation ends because firmware stops; its FINAL entry, and those of commands that wait on it, are written at the return. -/
def State.stopOp (s : State) (i : Nat) : State :=
  let o := s.op i
  let mine := if o.quiet then [] else [(s.rd Reg.ADM_LOP1_CID 0 i, s.rd Reg.ADM_LOP0_HANDLE 0 i)]
  let waits := (o.suspCid.toList ++ o.cancelCid.toList).map fun c => (c, 0)
  let s := { s with adm := { s.adm with ended := s.adm.ended ++ waits ++ mine } }
  ((s.undoOp i).inc Reg.ADM_CNT_LONG_FAILED).freeOp i

/-- End every live operation, except an activation that the handover region carries. (DEDUCED, log 44; DEDUCED, log 46.) -/
def State.stopOps (s : State) : State :=
  s.adm.ops.foldl (fun s (i, _) =>
    if s.fw.activate.any fun p => p.2 == s.rd Reg.ADM_LOP0_HANDLE 0 i then s else s.stopOp i) s

/-- Firmware is absent from now on; FW_STATUS.STATE says how. (DEDUCED, log 41.) -/
def State.fwStop (s : State) (st : Nat) : State := ((s.wr Reg.ADM_STATUS_FW_PRESENT 0).wr Reg.FW_STATUS_STATE st).stopOps

def State.autopilotOn (s : State) : State :=
  ({ s with fw := { s.fw with autopilot := true } }.inc Reg.FW_CNT_AUTOPILOTS).event (Ev.fw 1)

def State.autopilotOff (s : State) : State :=
  if s.fw.autopilot then { s with fw := { s.fw with autopilot := false } }.event (Ev.fw 2) else s

/-- Counted restarts of the last ten minutes. -/
def State.restartWindow (s : State) : List Nat :=
  s.fw.restarts.filter fun t => s.runMs ≤ t + 60000 * s.rd Reg.FW_DR_WINDOW_MIN

/-- A restart (R349). -/
def State.restart (s : State) (cause : Nat) (counted : Bool) : State :=
  let w := s.restartWindow
  let full := counted && w.length ≥ s.rd Reg.FW_DR_RESTART_MAX
  let s := ((s.wr Reg.FW_DR_STATUS_LAST_CAUSE cause).inc Reg.FW_CNT_RESTARTS).event (Ev.fw 4)
  let s := { s with host := { s.host with fwQueue := [] } }
  let cleared := full && s.canFallback
  let s := { s with fw := { s.fw with restarts := if cleared then [] else if counted then s.runMs :: w else w } }
  s.bootRom full

/-- R355: an activated image that cannot read the store gives way to the image before it, under the same autopilot. -/
def State.settingsRevert (s : State) : State :=
  let r := s.bootRec
  if s.fw.activate.isSome && r.trial && s.isOn Reg.FW_SETTINGS_UNREADABLE && s.rd Reg.FW_STATUS_STATE ≤ 3 then
    let s := s.writeRec { r with active := r.prev, prev := r.active, trial := false, ovr := false, starts := 0 }
    let s := { s with fw := { s.fw with revertStatus := some St.settingsUnreadable } }.inc Reg.FW_CNT_REVERTS
    s.restart 4 false
  else s

/-- A planned absence (R350). -/
def State.planned (s : State) : State :=
  if s.rd Reg.FW_STATUS_STATE ≠ 1 then s else (((s.autopilotOn.fwStop 2).restart 4 false)).settingsRevert

def execPlannedAbsence (s : State) : Out := .next s.planned

/-- HB_LOST: 50 ms of silence. -/
def State.hbLost (s : State) : State :=
  if s.rd Reg.FW_STATUS_STATE ≠ 1 then s else (((((s.tearFlash.event (Ev.fw 0)).autopilotOn).fwStop 2).restart 1 true).settingsRevert)

def execHbLost (s : State) : Out := .next s.hbLost

/-- R26: every grant is closed, emission stops on both legs, and the quality is HOLDOVER. -/
def State.closeGrants (s : State) : State :=
  let s := { s with fw := { s.fw with closed := true, autopilot := false } }
  let s := (s.cutWindows .a).cutWindows .b
  let q := s.rd Reg.TIME_QUAL_QUALITY
  if q = 1 || q = 2 then s.setQuality 3 else s

/-- AUTOPILOT_EXPIRED: 500 ms of autopilot. -/
def State.autopilotExpired (s : State) : State :=
  if !s.fw.autopilot then s else
  let s := s.tearFlash.closeGrants.wr Reg.FW_STATUS_STATE 3
  ((s.inc Reg.FW_CNT_AUTOPILOT_EXPIRED).event (Ev.fw 3)).restart 2 true

def execAutopilotExpired (s : State) : Out := .next s.autopilotExpired

/-- FIRST_HEARTBEAT_LATE: 2,000 ms since the cores' release, or since a restart without autopilot. -/
def State.firstHbLate (s : State) : State :=
  let st := s.rd Reg.FW_STATUS_STATE
  if s.pwr.held || s.fw.autopilot || (st ≠ 0 && st ≠ 3) then s else (s.tearFlash.wr Reg.FW_STATUS_STATE 3).restart 3 true

def execFirstHeartbeatLate (s : State) : Out := .next s.firstHbLate

/-! ### Firmware returns (R25, R348, R354 to R356) -/

/-- The entry of the activation that the handover region carries. -/
def State.activation (s : State) : Option Nat := s.fw.activate.bind fun p => s.opOf p.2

/-- Write the activation's FINAL entry. -/
def State.endActivate (s : State) (status : Nat) : State :=
  match s.activation with
  | none => { s with fw := { s.fw with activate := none } }
  | some i =>
    let s := { s with fw := { s.fw with activate := none, revertStatus := none } }.endOp i status 0
    if status ≠ St.ok then s else
    let s := s.inc Reg.FW_CNT_ACTIVATIONS
    if s.bootRec.trial then s.event (Ev.fw 7) else s

/-- Both legs run the loaded microcode. -/
def State.banksDone (s : State) : Bool := s.fw.bank.a == s.fw.lastFlume && s.fw.bank.b == s.fw.lastFlume

/-- The image that runs after a hitless activation: the new one ends it once the lanes have changed, another reports why. -/
def State.settleActivate (s : State) : State :=
  match s.activation with
  | none => s
  | some i =>
    if s.runSlot = (s.op i).par 8 1 % 2 && s.fw.revertStatus.isNone then (if s.banksDone then s.endActivate St.ok else s)
    else
      let st := s.fw.revertStatus.getD St.busyRestarting
      (if st = St.settingsUnreadable then s.event (Ev.fw 10) else s).endActivate st

/-- MICROCODE_BANK_SWITCH. -/
def State.bankSwitch (s : State) (l : Leg) : State :=
  if !s.fwPresent then s else
  { s with fw := { s.fw with bank := s.fw.bank.upd l fun _ => s.fw.lastFlume } }.settleActivate

def execMicrocodeBankSwitch (l : Leg) (s : State) : Out := .next (s.bankSwitch l)

/-- A buffered message is evaluated now. -/
def State.takeBuffered (s : State) (l : Leg) (m : BitVec 384) : State :=
  match msgType m with
  | 0x04 => s.container l m
  | 0x0A => s.keyExchange l m
  | 0x0C => s.sleepMsg l m
  | 0x0D => s.protSwitch l m
  | 0x0E => s.response l m
  | _ => s

def State.takeAll (s : State) : State :=
  let q := s.fw.apBuf
  q.foldl (fun s (l, m) => s.takeBuffered l (BitVec.ofNat 384 m)) { s with fw := { s.fw with apBuf := [] } }

/-- Some line key of a leg is loaded. -/
def State.keyed (s : State) (l : Leg) : Bool := s.ciph.slots.any fun p => p.2.kind == 1 && p.2.keys.any fun k => k.1 / 8 == l.n

/-- The KEY_REFRESH of a start: for a RANGED leg that holds no line keys. -/
def State.bootRefresh (s : State) : State :=
  let need := fun l : Leg => s.rd Reg.ACT_STATUS_STATE l.n == 5 && !s.keyed l
  s.keyRefresh (b2n (need .a) + 2 * b2n (need .b))

/-- A request of the BMC, as firmware takes it (R368). -/
def State.bmcTake (s : State) (target : Option Nat) : State :=
  match target with
  | some t =>
    let s := (s.wakeCause 5).wr Reg.PWR_CTL_TARGET t
    let s := { s with pwr := { s.pwr with cause := 2 } }
    s.linkDown.move
  | none => if s.pwr.cause = 2 then { s with pwr := { s.pwr with cause := 0 } }.wakeCause 5 else s

/-- The FINAL entries of operations that ended with firmware's stop. -/
def State.flushEnded (s : State) : State :=
  s.adm.ended.foldl (fun (s : State) (c, h) => s.admPush (admEntry c true false St.busyRestarting h 0 0)) { s with adm := { s.adm with ended := [] } }

/-- What firmware does once it is present: buffered messages in order, ended operations, deferred commands and moves. -/
def State.fwResume (s : State) : State :=
  let s := { (s.wr Reg.ADM_STATUS_FW_PRESENT 1).wr Reg.FW_STATUS_STATE 1 with fw := { s.fw with closed := false } }
  let s := s.takeAll.flushEnded
  let s := (((s.protResume.safeRelease .a).safeRelease .b).retireLeg .a).retireLeg .b
  let w := s.pwr.bmcWait
  let s : State := w.foldl (fun (s : State) t => s.bmcTake t) { s with pwr := { s.pwr with bmcWait := [] } }
  let s := if s.pwr.moveDue then s.move else s
  s.bootRefresh.settleActivate

/-- The first heartbeat after a cold start or an exit from deep sleep: settings, then READY (R363, R385). -/
def State.firstBoot (s : State) : State :=
  let deep := s.fw.deepBoot
  let s := { s with fw := { s.fw with bootCold := false, deepBoot := false } }
  let s := (s.finishPending.restoreAll deep).wr Reg.PWR_STATUS_READY 1
  if s.isOn Reg.FW_SETTINGS_UNREADABLE then s.event (Ev.fw 10) else s

/-- An image on trial that cannot read the settings store writes no heartbeat, so that the ditch rider brings back the one before it (R346, R359). -/
def State.mute (s : State) : Bool :=
  s.isOn Reg.FW_STATUS_TRIAL && s.isOn Reg.FW_SETTINGS_UNREADABLE && (s.rd Reg.FW_STATUS_STATE == 0 || s.rd Reg.FW_STATUS_STATE ≥ 2) &&
  s.rd Reg.FW_STATUS_STATE ≤ 3

/-- The first heartbeat after a restart; an image that can read no copy raises SETTINGS_UNREADABLE and runs with reset values (R359). -/
def State.restarted (s : State) : State := if s.isOn Reg.FW_SETTINGS_UNREADABLE then s.runReset.event (Ev.fw 10) else s

/-- HEARTBEAT: a write of FW_HB. (DESIGN CHOICE, log 6; DESIGN CHOICE, log 19; DEDUCED, log 41.) -/
def State.heartbeat (s : State) (v : Nat) : State :=
  if s.pwr.held || s.mute then s
  else if v ≠ (s.rd Reg.FW_HB + 1) % 65536 then s.inc Reg.FW_CNT_HB_BAD
  else
    let s := s.wr Reg.FW_HB v
    let s := { s with host := { s.host with fwQueue := [] } }
    let st := s.rd Reg.FW_STATUS_STATE
    if st = 4 || st = 5 then s.autopilotOff
    else if st = 1 then s
    else
      let s := s.autopilotOff
      (if s.fw.bootCold then s.firstBoot else s.restarted).fwResume

def execHeartbeat (v : BitVec 16) (s : State) : Out := .next <| s.inDom .mgmt fun s => s.heartbeat v.toNat

/-- TRIAL_WINDOW_EXPIRY: the image reverts hitlessly (R356). -/
def State.trialExpiry (s : State) : State :=
  if !s.isOn Reg.FW_STATUS_TRIAL || s.rd Reg.FW_STATUS_STATE ≠ 1 then s else
  let r := s.bootRec
  let s := s.writeRec { r with active := r.prev, prev := r.active, trial := false, ovr := false, starts := 0 }
  ((s.inc Reg.FW_CNT_REVERTS).event (Ev.fw 9)).planned

def execTrialWindowExpiry (s : State) : Out := .next s.trialExpiry

end Sys2Proof.Machine
end

