-- ==== Sys2Proof/Machine/Admin.lean ====
section
/-! DEFINITION. The admin queue: commands, long operations and their completions (12_mailboxes_and_admin.md, R330 to R337; R342, R344,
R351 to R356, R358, R362). -/

namespace Sys2Proof.Machine

/-! ### Taking a command (R330 to R333) -/

def admOp (e : List Byte) : Nat := leNat (slice e 0 1)
def admCid (e : List Byte) : Nat := leNat (slice e 2 2)
def admHandle (e : List Byte) : Nat := leNat (slice e 4 2)
/-- A parameter: n bytes at a byte offset of the command. -/
def admPar (e : List Byte) (off n : Nat) : Nat := leNat (slice e off n)

/-- n whole bytes from an offset carry a parameter. -/
def wholeBytes (off n : Nat) : List (Nat × Nat) := (List.range n).map fun i => (off + i, 255)

/-- The bits of byte i that carry a parameter. -/
def usedMask (used : List (Nat × Nat)) (i : Nat) : Nat := ((used.find? fun p => p.1 == i).map Prod.snd).getD 0

/-- Every reserved bit is zero: byte 1, bytes 6 and 7, and what the opcode leaves unused of PARAMS. (DEDUCED, log 45.) -/
def admClean (e : List Byte) (used : List (Nat × Nat)) : Bool :=
  leNat (slice e 1 1) == 0 && leNat (slice e 6 2) == 0 &&
  (List.range 56).all fun i => let b := leNat (slice e (8 + i) 1); b.land (usedMask used (8 + i)) == b

/-- The opcodes that firmware takes in RETIRED (R360), and the boot ROM in recovery (R347). -/
def retiredOps : List Nat := [0x00, 0x01, 0x02, 0x47]
def recoveryOps : List Nat := [0x00, 0x01, 0x02, 0x03, 0x04, 0x05, 0x0A, 0x40, 0x41]

/-- The refusal that the terminal's state gives a command, before its own checks. (DEDUCED, log 45.) -/
def State.admGate (s : State) (op : Nat) : Option Nat :=
  let st := s.rd Reg.FW_STATUS_STATE
  if st = 5 then (if op ≤ 1 then none else some St.invalid)
  else if st = 4 then (if has recoveryOps op then none else some St.invalid)
  else if !s.fwPresent || s.fw.fuse.pendingTarget.isSome then some St.busyRestarting
  else if s.fw.fuse.lc = 3 && !has retiredOps op then some St.denied
  else none

/-- The command ring holds a command to take: it is enabled, not in ERR, and not empty (R286, R288, R330). -/
def State.admReady (s : State) : Bool :=
  s.isOn Reg.ADM_SQ_CTL_SQ_EN && !s.isOn Reg.ADM_SQ_CTL_SQ_ERR && s.rd Reg.ADM_SQ_IDX_SQ_CONS != s.rd Reg.ADM_SQ_IDX_SQ_PROD

/-- Take one entry of the command ring, which a fetch of it brought. `act` gives a short command's status and RESULT, or none where it
completes otherwise. (DEDUCED, log 45.) -/
def State.admTake (s : State) (e : List Byte) (op : Nat) (used : List (Nat × Nat)) (act : State → Option (Nat × Nat) × State) : State :=
  if !s.admReady then s else
  let s := (s.inc Reg.ADM_CNT_COMMANDS).wr Reg.ADM_SQ_IDX_SQ_CONS (s.rd Reg.ADM_SQ_IDX_SQ_CONS + 1)
  match s.admGate op with
  | some st => s.admDone (admCid e) st 0
  | none =>
    if admOp e ≠ op || !admClean e used then s.admDone (admCid e) St.invalid 0 else
    match act s with
    | (some (st, r), s) => s.admDone (admCid e) st r
    | (none, s) => s

/-! ### Short commands -/

def execNop (e : List Byte) (s : State) : Out := .next <| s.admTake e 0x00 [] fun s => (some (St.ok, 0), s)

/-- A 32-bit word of the GEN block. -/
def State.genWord (s : State) (addr : Nat) : Nat :=
  Reg.tableGEN0.foldl (fun n R => (List.range R.n).foldl (fun n i =>
    if R.addr + i * R.stride = addr then n + s.rd R 0 i * 2 ^ R.lo else n) n) 0

/-- The first 4 KiB of the GEN block. -/
def State.genBytes (s : State) : List Byte := ((List.range 52).flatMap fun i => leBytes 4 (s.genWord (4 * i))) ++ zeros 3888

/-- A slot's header as IDENTIFY writes it; a flash that R338 refuses is not read. -/
def State.idHeader (s : State) (slot : Nat) : List Byte :=
  let h := s.hdr slot
  if s.isOn Reg.FW_FLASH_SFDP_OK && hLe h 0 4 == 0x4E54494D then h else zeros 4096

/-- Write to PF host memory; without a usable link the command ends HOST_LINK_LOST. -/
def State.admWrite (s : State) (addr : Nat) (data : List Byte) : Nat × State :=
  if s.canDma 0 then (St.ok, s.emits (s.dmaWrites 0 addr false data)) else (St.hostLinkLost, s)

/-- Read n bytes of a buffer that a command names: what the read brought, which is HOST_LINK_LOST without a usable link; a failed read is
reported with kind 2 and ring 0 (R282, R304, R313). -/
def State.admRead (s : State) (addr n : Nat) (r : HostRead) : HostRead × State :=
  let r := if s.canDma 0 then r else .fail .linkLost
  let s := if s.canDma 0 then s.askHost 0 addr n else s
  match r with
  | .fail why => (r, s.readFault 0 0 0 2 addr why)
  | .data _ => (r, s)

def execIdentify (e : List Byte) (s : State) : Out :=
  .next <| s.admTake e 0x01 (wholeBytes 16 8) fun s =>
    let (st, s) := s.admWrite (admPar e 16 8) (s.genBytes ++ s.idHeader 0 ++ s.idHeader 1)
    (some (st, 0), s)

/-- QUERY_OP: state, opcode, PERMILLE. -/
def execQueryOp (e : List Byte) (s : State) : Out :=
  .next <| s.admTake e 0x02 [] fun s =>
    match s.opOf (admHandle e) with
    | none => (some (St.notFound, 0), s)
    | some i => (some (St.ok, s.opState i + 256 * s.opCode i + 65536 * s.rd Reg.ADM_LOP1_PERMILLE 0 i), s)

/-- SETTINGS_SAVE. While on trial an image writes the schema it read (R358). -/
def State.saveNow (s : State) : State :=
  let h := s.hdr s.runSlot
  let read := (s.settingsOf s.runSlot).map fun p => p.1.schema
  s.saveSettings (if s.isOn Reg.FW_STATUS_TRIAL then read.getD (hLe h 52 2) else hLe h 52 2)

def execSettingsSave (e : List Byte) (s : State) : Out :=
  .next <| s.admTake e 0x06 [] fun s =>
    if s.unreadable s.runSlot then (some (St.settingsUnreadable, 0), s) else (some (St.ok, 0), s.saveNow)

/-- KEY_LOAD (R334). -/
def execKeyLoadCmd (e : List Byte) (key : HostRead) (s : State) : Out :=
  .next <| s.admTake e 0x08 ([(8, 255), (9, 1), (10, 255)] ++ wholeBytes 16 8) fun s =>
    if admPar e 10 1 > 128 then (some (St.invalid, 0), s) else
    match s.admRead (admPar e 16 8) 32 key with
    | (.fail why, s) => (some (why.status, 0), s)
    | (.data b, s) =>
      let (st, s) := s.loadLookaside (admPar e 8 2 % 512) (admPar e 10 1) (beNat (slice b 0 32))
      (some (st, 0), s.countDenied st)

def execKeyErase (e : List Byte) (s : State) : Out :=
  .next <| s.admTake e 0x09 [(8, 255), (9, 1)] fun s =>
    let (st, s) := s.eraseNamed (admPar e 8 2 % 512)
    (some (st, 0), s.countDenied st)

/-- FW_CONFIRM (R356, R358). -/
def State.confirm (s : State) : State :=
  let s := ((s.writeRec { s.bootRec with trial := false }).wr Reg.FW_STATUS_TRIAL 0).event (Ev.fw 8)
  if s.unreadable s.runSlot then s else s.saveSettings (hLe (s.hdr s.runSlot) 52 2)

def execFwConfirm (e : List Byte) (s : State) : Out :=
  .next <| s.admTake e 0x0B [] fun s => if s.isOn Reg.FW_STATUS_TRIAL then (some (St.ok, 1), s.confirm) else (some (St.ok, 0), s)

/-- Live operations, by ADM_LOP entry. -/
def State.liveOps (s : State) : List Nat := (List.range 8).filter fun i => s.isOn Reg.ADM_LOP0_HANDLE 0 i

/-- LC_TRANSITION's checks (R362): one step ahead, armed for that target within 10 s, nothing live. -/
def State.lcRefusal (s : State) (target : Nat) : Option Nat :=
  let armed := s.fw.lcArm.any fun a => a.1 == target && s.runMs ≤ a.2 + 10000
  if target ≠ s.fw.fuse.lc + 1 || !armed then some St.invalid
  else if !s.liveOps.isEmpty then some St.busy
  else none

def execLcTransition (e : List Byte) (s : State) : Out :=
  .next <| s.admTake e 0x0C [(8, 3)] fun s =>
    match s.lcRefusal (admPar e 8 1) with
    | some st => (some (st, 0), s)
    | none => (some (St.ok, 0), s.lcRun (admPar e 8 1))

/-- COSIGN_ENROL with the key read (R342). -/
def State.enrol (s : State) (key : List Byte) : Nat × State :=
  let h := s.hdr s.runSlot
  if !Crypto.ecdsaVerify (beNat (slice key 0 48)) (beNat (slice key 48 48)) (hdrDigest h) (beNat (slice h 2496 48)) (beNat (slice h 2544 48)) then
    (St.invalid, s)
  else if s.fw.fuse.cosign.length ≥ 4 then (St.noResources, s)
  else
    let k := Crypto.sha384 (slice key 0 96)
    let s := (s.setFuse fun f => { f with cosign := f.cosign ++ [k] }).settleLc
    let other := 1 - s.runSlot
    (St.ok, if cosigOk (s.hdr other) k then s else (s.setVerified other none).settleSlot other)

def execCosignEnrol (e : List Byte) (key : HostRead) (s : State) : Out :=
  .next <| s.admTake e 0x0D (wholeBytes 16 8) fun s =>
    if !s.provisioned then (some (St.denied, 0), s) else
    match s.admRead (admPar e 16 8) 96 key with
    | (.fail why, s) => (some (why.status, 0), s)
    | (.data b, s) => let (st, s) := s.enrol b; (some (st, 0), s)

/-! ### Long operations: start (R331, R336) -/

/-- The next handle that is neither 0 nor live. -/
def State.freshHandle (s : State) : Nat → Nat → Nat
  | 0, h => h
  | k + 1, h => if h = 0 || (s.opOf h).isSome then s.freshHandle k ((h + 1) % 65536) else h

/-- An operation of an opcode is live. -/
def State.running (s : State) (op : Nat) : Bool := s.liveOps.any fun i => s.opCode i == op

/-- An operation of an opcode is live on a leg. -/
def State.runningOn (s : State) (op : Nat) (l : Leg) : Bool := s.liveOps.any fun i => s.opCode i == op && s.opLeg i == some l

/-- Start a long operation, or complete it with its refusal. `go` acts on the entry it took. -/
def State.startLong (s : State) (e : List Byte) (refusal : Option Nat) (total : Nat) (go : State → Nat → State) : State :=
  match refusal with
  | some st => s.admDone (admCid e) st 0
  | none =>
    match (List.range 8).find? fun i => !s.isOn Reg.ADM_LOP0_HANDLE 0 i with
    | none => s.admDone (admCid e) St.noResources 0
    | some i =>
      let h := s.freshHandle 9 s.adm.nextHandle
      let s := { s with adm := { s.adm with nextHandle := (h + 1) % 65536 } }
      let s := ((s.wr Reg.ADM_LOP0_HANDLE h 0 i).wr Reg.ADM_LOP0_OPCODE (admOp e) 0 i).wr Reg.ADM_LOP0_STATE 1 0 i
      let s := (s.wr Reg.ADM_LOP1_CID (admCid e) 0 i).wr Reg.ADM_LOP3_TOTAL total 0 i
      let s := s.setOp i fun _ => { params := slice e 8 56 }
      let s := s.inc Reg.ADM_CNT_LONG_STARTED
      let s := s.admPush (admEntry (admCid e) false false St.ok h 0 0)
      let s := match s.opLeg i with
        | some l => s.testBegin l
        | none => s
      go s i

/-- A long command's row. -/
def State.longTake (s : State) (e : List Byte) (op : Nat) (used : List (Nat × Nat)) (refusal : State → Option Nat) (total : State → Nat)
    (go : State → Nat → State) : State :=
  s.admTake e op used fun s => (none, s.startLong e (refusal s) (total s) go)

/-! ### Long operations: the table of R337 -/

/-- SUSPEND is allowed now. (DEDUCED, log 46.) -/
def State.suspendable (s : State) (i : Nat) : Bool :=
  let c := s.opCode i
  if c = 0x43 then !(s.op i).committed else c != 0x0A && c != 0x46

/-- CANCEL is allowed now: not after a boot record is written, nor after a bundle's commit boundary. (DEDUCED, log 46.) -/
def State.cancellable (s : State) (i : Nat) : Bool :=
  if s.opCode i = 0x43 then !(s.op i).passed else !(s.op i).committed

/-- Conflicts of a live operation's RESUME: another operation now stands in its way. (DEDUCED, log 46.) -/
def State.conflicts (s : State) (i : Nat) : Bool :=
  let c := s.opCode i
  let other := fun op => s.liveOps.any fun j => j != i && s.opCode j == op
  if c = 0x40 then other 0x40 || other 0x41 || other 0x0A
  else if c = 0x41 then other 0x40 || other 0x41
  else if c = 0x44 || c = 0x45 then s.liveOps.any fun j => j != i && s.opCode j == c && s.opLeg j == s.opLeg i
  else other c

/-! ### SUSPEND, RESUME and CANCEL (R335, R336) -/

/-- Act on the live operation with the command's handle. -/
def State.onHandle (s : State) (e : List Byte) (op : Nat) (act : State → Nat → Option (Nat × Nat) × State) : State :=
  s.admTake e op [] fun s =>
    match s.opOf (admHandle e) with
    | none => (some (St.notFound, 0), s)
    | some i => act s i

def execSuspend (e : List Byte) (s : State) : Out :=
  .next <| s.onHandle e 0x03 fun s i =>
    if s.opState i = 2 then (some (St.busy, 0), s)
    else if s.opState i = 1 && s.suspendable i then
      (none, (s.wr Reg.ADM_LOP0_STATE 2 0 i).setOp i fun o => { o with suspCid := some (admCid e) })
    else (some (St.invalid, 0), s)

/-- A PM_EXPORT that a roll met while it was suspended starts again (R337). -/
def State.resumeOpAt (s : State) (i : Nat) : State :=
  let s := s.wr Reg.ADM_LOP0_STATE 1 0 i
  if s.opCode i = 0x47 && (s.op i).a = 1 then
    ((s.wr Reg.ADM_LOP2_DONE 0 0 i).wr Reg.ADM_LOP1_PERMILLE 0 0 i).setOp i fun o => { o with a := 0 }
  else s

def execResumeOp (e : List Byte) (s : State) : Out :=
  .next <| s.onHandle e 0x04 fun s i =>
    if s.opState i = 2 then (some (St.busy, 0), s)
    else if s.opState i = 3 then (if s.conflicts i then (some (St.busy, 0), s) else (some (St.ok, 0), s.resumeOpAt i))
    else (some (St.invalid, 0), s)

/-- A SUSPEND that waits completes with a status. -/
def State.endSuspend (s : State) (i status : Nat) : State :=
  match (s.op i).suspCid with
  | none => s
  | some c => (s.setOp i fun o => { o with suspCid := none }).admDone c status 0

def execCancel (e : List Byte) (s : State) : Out :=
  .next <| s.onHandle e 0x05 fun s i =>
    if s.opState i ≤ 3 && s.cancellable i then
      let s := (s.endSuspend i St.cancelled).wr Reg.ADM_LOP0_STATE 4 0 i
      (none, s.setOp i fun o => { o with cancelCid := some (admCid e) })
    else (some (St.invalid, 0), s)

/-! ### Firmware operations (R351 to R354) -/

/-- The slot a download writes: the one not running, or in recovery the one the boot record does not name. -/
def State.target (s : State) : Nat := if s.rd Reg.FW_STATUS_STATE = 4 then 1 - s.bootRec.active else 1 - s.runSlot

/-- Bytes of a block of an image. -/
def blockLen (len idx : Nat) : Nat := min 65536 (len - 65536 * idx)

/-- Bytes in committed blocks. -/
def doneBytes (len : Nat) (blocks : List Nat) : Nat := blocks.foldl (fun n b => n + blockLen len b) 0

/-- The journal: D, IMAGE_LEN and the map. -/
def State.journal (s : State) : List Byte := s.flashRead 0x10000 108

/-- IMAGE_LEN as the journal has it, after the 48 bytes of D. (DESIGN CHOICE, log 70.) -/
def jourLen (j : List Byte) : Nat := leNat (slice j 48 4)

/-- Blocks of an image of n bytes. -/
def blockCount (n : Nat) : Nat := (n + 65535) / 65536

/-- The journal matches a header's D and IMAGE_LEN. -/
def State.journalFits (s : State) (h : List Byte) : Bool := beNat (slice s.journal 0 48) == hdrDigest h && jourLen s.journal == hLe h 8 4

/-- What stands in a download's way (R351). -/
def State.downloadBusy (s : State) : Bool :=
  s.running 0x40 || s.running 0x41 || s.running 0x0A || (s.isOn Reg.FW_STATUS_TRIAL && s.rd Reg.FW_STATUS_STATE == 1)

/-- FW_DOWNLOAD's refusal once nothing stands in its way, with the header read at ADDR. -/
def State.downloadRefusal (s : State) (e : List Byte) (hdr : HostRead) : Option Nat :=
  match hdr with
  | .fail why => some why.status
  | .data h =>
    let n := admPar e 24 4
    if n ≠ hLe h 8 4 || !lenOk n then some St.invalid
    else if admPar e 8 1 = 0 && !s.journalFits h then some St.invalid
    else none

/-- Begin a download: a matching journal goes on; otherwise the VERIFIED record and the journal are erased and a new header written. -/
def State.downloadGo (s : State) (e : List Byte) (hdr : HostRead) (i : Nat) : State :=
  match hdr with
  | .fail _ => s
  | .data h =>
    let n := admPar e 24 4
    if admPar e 8 1 = 0 then
      let j := s.journal
      s.wr Reg.ADM_LOP2_DONE (doneBytes n ((List.range (blockCount n)).filter fun k => jourBit j k == 0)) 0 i
    else
      ((s.setVerified s.target none).program 4 (beBytes 48 (hdrDigest h) ++ leBytes 4 n)).settleSlot s.target

/-- FW_DOWNLOAD reads the header at ADDR unless something stands in its way. -/
def State.downloadStart (s : State) (e : List Byte) (hdr : HostRead) : State :=
  if s.downloadBusy then s.admDone (admCid e) St.busy 0 else
  let (r, s) := s.admRead (admPar e 16 8) 2400 hdr
  s.startLong e (s.downloadRefusal e r) (admPar e 24 4) fun s i => s.downloadGo e r i

def execFwDownload (e : List Byte) (hdr : HostRead) (s : State) : Out :=
  .next <| s.admTake e 0x40 ([(8, 1)] ++ wholeBytes 16 8 ++ wholeBytes 24 4) fun s => (none, s.downloadStart e hdr)

def execFwVerify (e : List Byte) (s : State) : Out :=
  .next <| s.longTake e 0x41 [(8, 1)] (fun s => if s.running 0x40 || s.running 0x41 then some St.busy else none)
    (fun s => let h := s.hdr (admPar e 8 1); if hdrOk h && lenOk (hLe h 8 4) then hLe h 8 4 else 4096) fun s _ => s

/-- FW_ACTIVATE's refusal (R353). (DEDUCED, log 44.) -/
def State.activateRefusal (s : State) (slot mode : Nat) : Option Nat :=
  let rec' := s.rd Reg.FW_STATUS_STATE = 4
  if s.fw.fuse.lc = 3 then some St.denied
  else if rec' && mode = 0 then some St.invalid
  else if !rec' && slot = s.runSlot then some St.invalid
  else if !s.verified slot || !s.consistent slot then some St.invalid
  else if s.running 0x40 || s.running 0x41 || s.running 0x0A then some St.busy
  else if !s.tested slot && !(s.provisioned && s.isOn Reg.FW_CTL_ALLOW_UNTESTED) then some St.untested
  else none

/-- TRIAL_MIN as it acts. -/
def State.trialMin (s : State) : Nat := max 1 (min 1440 (s.rd Reg.FW_CTL_TRIAL_MIN))

/-- The record that an activation writes; on trial it reverts to the previous slot. -/
def State.activateRec (s : State) (slot : Nat) : State :=
  let r := s.bootRec
  let r' : BootRec := { r with active := slot, prev := r.active, trial := true, ovr := !s.tested slot, starts := 0, trialMin := s.trialMin }
  if s.isOn Reg.FW_STATUS_TRIAL && s.rd Reg.FW_STATUS_STATE = 1 then
    ((s.writeRec { r' with trial := false }).inc Reg.FW_CNT_REVERTS).event (Ev.fw 9)
  else s.writeRec r'

/-- An accepted activation begins; a hitless one ends every other live operation first (R354). -/
def State.activateGo (s : State) (mode i : Nat) : State :=
  if mode = 1 then s else s.adm.ops.foldl (fun s (j, _) => if j = i then s else s.stopOp j) s

/-- The boot record is written, its safe point: MODE 1 ends, its warm reset due; MODE 0 goes on through a planned absence. -/
def State.activateSafe (s : State) (i : Nat) : State :=
  let o := s.op i
  let s := s.activateRec (o.par 8 1 % 2)
  if o.par 9 1 % 2 = 1 then { s.endOp i St.ok 0 with fw := { s.fw with warmAt := true } }
  else
    let h := s.rd Reg.ADM_LOP0_HANDLE 0 i
    let s := s.setOp i fun o => { o with committed := true }
    { s with fw := { s.fw with activate := some (s.rd Reg.ADM_LOP1_CID 0 i, h), revertStatus := none } }

def execFwActivate (e : List Byte) (s : State) : Out :=
  .next <| s.longTake e 0x0A [(8, 1), (9, 1)] (fun s => s.activateRefusal (admPar e 8 1) (admPar e 9 1)) (fun _ => 1)
    fun s i => s.activateGo (admPar e 9 1) i

/-! ### The other long operations (R333, R337) -/

def execScrubFull (e : List Byte) (s : State) : Out :=
  .next <| s.longTake e 0x42 [(8, 31)] (fun s => if s.running 0x42 then some St.busy else none)
    (fun _ => (Config.opUnits (256 * admPar e 8 1 + 0x42)).toNat) fun s _ => s

def execTableBulkLoad (e : List Byte) (s : State) : Out :=
  .next <| s.longTake e 0x43 (wholeBytes 16 8 ++ wholeBytes 24 4)
    (fun s => if s.running 0x43 || s.rd Reg.CLS_COMMIT_STATUS_GROUP ≠ 0 then some St.busy else none) (fun _ => admPar e 24 4)
    fun s _ => s.commitOpen

def execDispersionSweep (e : List Byte) (s : State) : Out :=
  .next <| s.longTake e 0x44 ([(8, 3), (10, 255), (11, 255)] ++ wholeBytes 16 8)
    (fun s => if admPar e 10 2 < 1024 then some St.invalid else if s.runningOn 0x44 (Leg.ofBit (admPar e 8 1 % 2)) then some St.busy else none)
    (fun _ => admPar e 10 2) fun s _ => s.upd (Leg.ofBit (admPar e 8 1 % 2)) fun g => { g with dtKeep := admPar e 10 2 }

def execLaserCharacterise (e : List Byte) (s : State) : Out :=
  let l := Leg.ofBit (admPar e 8 1 % 2)
  .next <| s.longTake e 0x45 ([(8, 7)] ++ wholeBytes 16 8)
    (fun s => if s.active = l then some St.invalid else if s.runningOn 0x45 l then some St.busy else none)
    (fun _ => (Config.opUnits (256 * admPar e 8 1 + 0x45)).toNat) fun s _ => s

def execSelfTest (e : List Byte) (s : State) : Out :=
  .next <| s.longTake e 0x46 [(8, 3), (9, 15)]
    (fun s =>
      let g := admPar e 8 1
      if g = 2 || (bit (admPar e 9 1) 0 = 1 && g ≤ 1 && s.isOn Reg.ACT_CTL_ENABLE g) then some St.invalid
      else if s.running 0x46 then some St.busy else none)
    (fun _ => popcount 4 (admPar e 9 1)) fun s _ => s

/-- The bins a PM_EXPORT selects, in order: leg, wave, kind, index. -/
def exportSel (legs waves kinds : Nat) : List (Leg × Nat × Nat × Nat) :=
  ([Leg.a, Leg.b].filter fun l => bit legs l.n == 1).flatMap fun l =>
    ((List.range 6).filter fun w => bit waves w == 1).flatMap fun w =>
      ((List.range 2).filter fun k => bit kinds k == 1).flatMap fun k => (List.range (if k = 0 then 97 else 8)).map fun i => (l, w, k, i)

/-- A bin's 64 bytes in the layout of R270. -/
def State.binBytes (s : State) (b : Leg × Nat × Nat × Nat) : List Byte :=
  match s.binAt b.1 b.2.1 b.2.2.1 b.2.2.2 with
  | some x => x.words.flatMap fun w => leBytes 4 w
  | none => zeros 64

def execPmExport (e : List Byte) (s : State) : Out :=
  let n := (exportSel (admPar e 8 1) (admPar e 9 1) (admPar e 10 1)).length
  .next <| s.longTake e 0x47 ([(8, 3), (9, 63), (10, 3)] ++ wholeBytes 16 8 ++ wholeBytes 24 4)
    (fun s => if admPar e 24 4 < 64 * n then some St.invalid else if s.running 0x47 then some St.busy else none) (fun _ => n) fun s _ => s

/-! ### Long operations: work -/

/-- Units done, and PERMILLE from them. -/
def State.opDone (s : State) (i n : Nat) : State :=
  let t := s.rd Reg.ADM_LOP3_TOTAL 0 i
  let d := min t (s.rd Reg.ADM_LOP2_DONE 0 i + n)
  (s.wr Reg.ADM_LOP2_DONE d 0 i).wr Reg.ADM_LOP1_PERMILLE (if t = 0 then 0 else 1000 * d / t) 0 i

/-- PM_EXPORT writes its next n bins. -/
def State.exportBins (s : State) (i n : Nat) : State :=
  let o := s.op i
  let d := s.rd Reg.ADM_LOP2_DONE 0 i
  let sel := ((exportSel (o.par 8 1) (o.par 9 1) (o.par 10 1)).drop d).take n
  if sel.isEmpty then s else
  match s.admWrite (o.par 16 8 + 64 * d) (sel.flatMap fun b => s.binBytes b) with
  | (0, s) => s.opDone i sel.length
  | (st, s) => s.endOp i st 0

/-- The next block of a download, the first whose bit is 1: erased, programmed from host memory and compared, then its bit (R351). What a
block that failed its compare holds is what was programmed. (DESIGN CHOICE, log 70.) -/
def State.downloadBlock (s : State) (i : Nat) (host : HostRead) (ok : Bool) : State :=
  let n := jourLen s.journal
  match (List.range (blockCount n)).find? fun k => jourBit s.journal k == 1 with
  | none => s
  | some k =>
    let t := s.target
    let s := s.setFlash fun f => f.putBlock t k []
    match s.admRead ((s.op i).par 16 8 + 65536 * k) (blockLen n k) host with
    | (.fail why, s) => (s.settleSlot t).endOp i why.status 0
    | (.data b, s) =>
      let s := s.setFlash fun f => { f.putBlock t k (slice b 0 (blockLen n k)) with going := some (8 + 448 * t + k, s.runNs) }
      if !ok then (s.settleSlot t).endOp i St.noResources 0
      else
        let s := s.setFlash fun f => { f with jour := jourMark f.jour k 0 }
        ((s.settleSlot t).inc Reg.FW_CNT_BLOCKS_WRITTEN).opDone i (blockLen n k)

/-- One change of a bundle, through the paths of the registers (R187 to R205). -/
def State.bulkItem (s : State) (i : Nat) (x : BulkItem) : Nat × State :=
  match x with
  | .node idx v => s.nodeWrite (idx % 524288) v.toNat
  | .root idx v => s.rootWrite idx v.toNat
  | .prof idx v => s.profWrite idx v.toNat
  | .stream idx v => if s.entryRefused v.toNat then (St.invalid, s) else s.stageStream (idx % 65536) v.toNat
  | .commit v => (St.ok, (s.setOp i fun o => { o with a := v % 256 + 1 }).bulkRetry)

/-- The bytes that a change takes in its bundle. -/
def bulkBytes (x : BulkItem) : Nat :=
  (Config.bundleBytes (match x with
    | .node .. => 0
    | .root .. => 1
    | .prof .. => 2
    | .stream .. => 3
    | .commit .. => 4)).toNat

/-- A failure ends TABLE_BULK_LOAD with its status, and the group is discarded. (DEDUCED, log 46.) -/
def State.bulkFail (s : State) (i st : Nat) : State := (s.undoOp i).endOp i st 0

/-- The changes reported, up to the first that fails; DONE counts the bundle's bytes applied. (DEDUCED, log 46.) -/
def State.bulkItems (s : State) (i : Nat) : List BulkItem → State
  | [] => if (s.op i).b ≠ 0 then s.bulkFail i (s.op i).b else s
  | x :: r =>
    match s.bulkItem i x with
    | (0, s) => (s.opDone i (bulkBytes x)).bulkItems i r
    | (st, s) => s.bulkFail i st

/-- The next changes of the bundle, read from host memory. -/
def State.bulkWork (s : State) (i : Nat) (items : List BulkItem) : State :=
  let n := items.foldl (fun n x => n + bulkBytes x) 0
  match s.admRead ((s.op i).par 16 8 + s.rd Reg.ADM_LOP2_DONE 0 i) n (.data []) with
  | (.fail why, s) => s.bulkFail i why.status
  | (.data _, s) => s.bulkItems i items

/-- Work done by a live operation that is not at rest. -/
def State.opWork (s : State) (i : Nat) (w : OpWork) : State :=
  let c := s.opCode i
  match w with
  | .units n => if c = 0x47 then s.exportBins i n else s.opDone i n
  | .block host cmp retry => if c = 0x40 then s.downloadBlock i host (cmp || retry) else s
  | .bulk items => if c = 0x43 && !(s.op i).committed then s.bulkWork i items else s
  | .scrub a b => if c = 0x42 then s.setOp i fun o => { o with a := o.a + a, b := o.b + b } else s
  | .roll => if c = 0x47 then (s.wr Reg.ADM_LOP2_DONE 0 0 i).wr Reg.ADM_LOP1_PERMILLE 0 0 i else s

/-- LONG_OP_PROGRESS: the work, then a PROGRESS entry while the operation still runs. -/
def State.progress (s : State) (h : Nat) (w : OpWork) : State :=
  match s.opOf h with
  | none => s
  | some i =>
    if s.opState i = 3 then s else
    let s := s.opWork i w
    if s.opState i = 1 && s.isOn Reg.ADM_CTL_PROG_MS && !(s.op i).quiet then
      s.admPush (admEntry (s.rd Reg.ADM_LOP1_CID 0 i) false true St.ok h (s.rd Reg.ADM_LOP1_PERMILLE 0 i) 0)
    else s

def execLongOpProgress (h : Nat) (work : OpWork) (s : State) : Out := .next (s.progress h work)

/-- A cancelled operation at its safe point; one whose commit boundary passed meanwhile, or whose boot record stands, ends as it would. -/
def State.cancelSafe (s : State) (i : Nat) : State :=
  if s.opCode i = 0x0A then s.flushEnded.endOp i St.cancelled 0
  else if s.opCode i = 0x43 && (s.op i).passed then s.endOp i St.ok (s.op i).a
  else (s.undoOp i).endOp i St.cancelled 0

/-- LONG_OP_SAFE_POINT. (DEDUCED, log 46.) -/
def State.safePoint (s : State) (h : Nat) : State :=
  match s.opOf h with
  | none => s
  | some i =>
    if s.opState i = 2 then
      let s := (s.wr Reg.ADM_LOP0_STATE 3 0 i).endSuspend i St.ok
      s.admPush (admEntry (s.rd Reg.ADM_LOP1_CID 0 i) false true St.suspended h (s.rd Reg.ADM_LOP1_PERMILLE 0 i) 0)
    else if s.opState i = 4 then s.cancelSafe i
    else if s.opState i = 1 && s.opCode i = 0x0A && !(s.op i).committed then s.activateSafe i
    else s

def execLongOpSafePoint (h : Nat) (s : State) : Out := .next (s.safePoint h)

/-- SUSPEND_TIMEOUT: SUSP_MAX_S seconds in SUSPENDED. -/
def State.suspendTimeout (s : State) (h : Nat) : State :=
  match s.opOf h with
  | none => s
  | some i => if s.opState i = 3 then (s.undoOp i).endOp i St.timeout 0 else s

def execSuspendTimeout (h : Nat) (s : State) : Out := .next (s.suspendTimeout h)

/-! ### Long operations: completion -/

/-- FW_VERIFY ends (R352). -/
def State.verifyEnd (s : State) (i : Nat) : State :=
  let k := (s.op i).par 8 1 % 2
  let f := s.imgFail k
  if f = 0 then ((s.setVerified k (some (hdrDigest (s.hdr k)))).settleSlot k).endOp i St.ok 0
  else (s.inc Reg.FW_CNT_VERIFY_FAIL).endOp i (if f = 3 || f = 4 || f = 5 then St.denied else St.invalid) f

/-- End with a 64-byte record written to ADDR. -/
def State.recordEnd (s : State) (i : Nat) (rec' : List Byte) (adopted : Bool) : State :=
  let (st, s) := s.admWrite ((s.op i).par 16 8) (rec' ++ zeros (64 - rec'.length))
  s.endOp i st (b2n (adopted && st = St.ok))

/-- DISPERSION_SWEEP ends, with the fit over its own window: K, lambda0, L, S0 and the residual as words, then the valid flag. -/
def State.sweepEnd (s : State) (i : Nat) : State :=
  match s.opLeg i with
  | none => s.endOp i St.invalid 0
  | some l =>
    let win := (s.op i).par 10 2
    let f := s.fit l win
    let ok := s.windowWhole l win && s.fitOk l f
    let len := (roundRat (f.len * 1000)).toNat
    let s0 := if f.len ≤ 0 then 0 else (roundRat (8 * (f.k : Rat) / f.len)).toNat
    let rec' := leBytes 4 f.k ++ leBytes 4 f.l0 ++ leBytes 4 len ++ leBytes 4 s0 ++ leBytes 4 f.resid ++ leBytes 4 (b2n ok)
    let adopt := ok && bit ((s.op i).par 8 1) 1 == 1
    (if adopt then (s.adoptFit l f).settleTime else s).recordEnd i rec' adopt

/-- Take laser coefficients (four 16-bit fields) into service for an upstream wave. -/
def State.adoptLaser (s : State) (l : Leg) (u c : Nat) : State :=
  let s := (s.wr Reg.TIME_LEG_LASER_U_KT (bits c 15 0) l.n u).wr Reg.TIME_LEG_LASER_U_KI (bits c 31 16) l.n u
  ((s.wr Reg.TIME_LEG_LASER_REF_T_REF (bits c 47 32) l.n).wr Reg.TIME_LEG_LASER_REF_I_REF (bits c 63 48) l.n).followLaser l

/-- LASER_CHARACTERISE ends: KT, KI, T_REF and I_REF. -/
def State.laserEnd (s : State) (i : Nat) : State :=
  match s.opLeg i with
  | none => s.endOp i St.invalid 0
  | some l =>
    let c := (Config.laserCoeff s.freeIdx).toNat
    let p := (s.op i).par 8 1
    let rec' := leBytes 2 (bits c 15 0) ++ leBytes 2 (bits c 31 16) ++ leBytes 2 (bits c 47 32) ++ leBytes 2 (bits c 63 48)
    let adopt := bit p 2 == 1
    (if adopt then s.adoptLaser l (bit p 1) c else s).spend.recordEnd i rec' adopt

/-- TABLE_BULK_LOAD ends once its boundary has passed, with the version and SFC[31:0] of the boundary; CANCELLED where its pending group was
discarded through CLS_COMMIT. (DEDUCED, log 46.) -/
def State.bulkEnd (s : State) (i st : Nat) : State :=
  let o := s.op i
  if o.b ≠ 0 then s.bulkFail i o.b
  else if o.passed then s.endOp i St.ok o.a
  else if o.committed then
    if s.rd Reg.CLS_COMMIT_STATUS_GROUP = 2 then s else s.endOp i St.cancelled 0
  else if o.a ≠ 0 && st = 0 then s
  else s.bulkFail i (if st = 0 then St.invalid else st)

/-- PM_EXPORT ends with its last bins. -/
def State.exportEnd (s : State) (i : Nat) : State :=
  let h := s.rd Reg.ADM_LOP0_HANDLE 0 i
  let s := s.exportBins i (s.rd Reg.ADM_LOP3_TOTAL 0 i)
  if s.rd Reg.ADM_LOP0_HANDLE 0 i = h then s.endOp i St.ok (s.rd Reg.ADM_LOP2_DONE 0 i) else s

/-- A download is complete when every block is committed. -/
def State.downloadEnd (s : State) (i st : Nat) : State :=
  if st ≠ 0 then s.endOp i st 0
  else if s.rd Reg.ADM_LOP2_DONE 0 i = s.rd Reg.ADM_LOP3_TOTAL 0 i then s.endOp i St.ok 0
  else s

/-- SELF_TEST ends; a receive chain found faulty fails the leg that was tested (R275). -/
def State.selfTestEnd (s : State) (i : Nat) (fin : OpFinish) : State :=
  let bad := fin.chainBad && bit ((s.op i).par 9 1) 0 == 1
  let leg := s.opLeg i
  let s := s.endOp i St.ok (fin.units % 256 + 256 * (fin.failed % 256))
  match leg with
  | some l => if bad then s.legFailed l else s
  | none => s

/-- LONG_OP_COMPLETE. -/
def State.completeOp (s : State) (h : Nat) (fin : OpFinish) : State :=
  match s.opOf h with
  | none => s
  | some i =>
    if s.opState i ≠ 1 then s else
    let c := s.opCode i
    let st := fin.status.val
    let other := fun (f : State → State) => if st = 0 then f s else s.endOp i st 0
    if c = 0x40 then s.downloadEnd i st
    else if c = 0x41 then other fun s => s.verifyEnd i
    else if c = 0x42 then other fun s => let o := s.op i; s.endOp i St.ok (o.a % 2 ^ 32 + 2 ^ 32 * o.b)
    else if c = 0x43 then s.bulkEnd i st
    else if c = 0x44 then other fun s => s.sweepEnd i
    else if c = 0x45 then other fun s => s.laserEnd i
    else if c = 0x46 then other fun s => s.selfTestEnd i fin
    else if c = 0x47 then other fun s => s.exportEnd i
    else s

def execLongOpComplete (h : Nat) (fin : OpFinish) (s : State) : Out := .next (s.completeOp h fin)

end Sys2Proof.Machine
end

