-- ==== Sys2Proof/Machine/Power.lean ====
section
/-! DEFINITION. Power states, resets, the cold start and the clocks' supervision (14_power_clocks_reset.md, R365 to R368, R374 to R386;
R142, R423). -/

namespace Sys2Proof.Machine

/-! ### Idle (R366) -/

/-- No transmit queue holds a posted or fetched descriptor. -/
def State.txEmpty (s : State) : Bool :=
  s.host.txq.all fun p => p.2.frames.isEmpty && p.2.part.isEmpty && p.2.fetchIdx == s.rd Reg.HIF_TX_IDX_PROD 0 p.1

/-- No lookaside request is pending, posted ones included. -/
def State.laEmpty (s : State) : Bool :=
  (s.owned Reg.HIF_RX_CTL_LA 1).all fun r =>
    let x := s.rxr r
    x.reqs.isEmpty && x.la.isEmpty && (!s.isOn Reg.HIF_RX_CTL_EN 0 r || x.fetchIdx == s.rd Reg.HIF_RX_IDX_PROD 0 r)

/-- The conditions of R366. -/
def State.idleReady (s : State) : Bool :=
  s.txEmpty && s.bursts.isEmpty && s.host.buf.isEmpty && s.laEmpty && s.rd Reg.CLS_COMMIT_STATUS_GROUP ≠ 2 && !s.draining && s.liveOps.isEmpty

/-- IDLE_ENTER. -/
def State.idleEnter (s : State) : State :=
  if s.rd Reg.PWR_STATUS_STATE ≠ 0 || !s.isOn Reg.PWR_CTL_IDLE_EN || !s.idleReady then s
  else ((s.setPower 1).inc Reg.PWR_CNT_IDLE_ENTRIES).event (Ev.pwr 1)

def execIdleEnter (s : State) : Out := .next s.idleEnter

/-! ### The start of the machine (R385) -/

/-- Levels that a reset does not make: module presence, PERST#, the crystal, the capture pins. -/
def pinRows : List Row := [Reg.OPT_STATUS_PRESENT, Reg.PWR_STATUS_PERST, Reg.PWR_STATUS_XT_OK, Reg.TEV_TCAP_STATUS_PIN]

/-- Everything at its cold-reset value, but flash, fuses, the comparator cell's flag and the levels outside (R380, R383). (DESIGN CHOICE, log 48.) -/
def State.cleared (s : State) : State :=
  s.withAlert { State.reset with
    regs := s.regs.filter fun p => pinRows.any fun R => Row.covers R p.1
    fw := { flash := { s.fw.flash with going := none }, fuse := s.fw.fuse }
    pwr := { held := s.pwr.held, brownCell := s.pwr.brownCell, poweredOnce := s.pwr.poweredOnce, bootIn := s.pwr.bootIn }
    freeIdx := s.freeIdx
    out := s.out
    pending := s.pending }

/-- The flash meets R338. -/
def sfdpOk (b : BootInput) : Bool := decide (b.capacityMiB ≥ 64) && b.addr4 && b.quadRead && b.erase4k && b.erase64k

/-- Leg A starts as the active one, or the leg that retention names; the lanes and their defects follow the modules (R255, R391). -/
def State.startLegs (s : State) : State :=
  let s := (s.wr Reg.HG_STATUS_ACTIVE 1 s.active.n).wr Reg.HG_STATUS_ACTIVE 0 s.active.other.n
  (((s.settleLanes .a).settleLanes .b).settleDef .a).settleDef .b

/-- Cores released: SFDP, then the boot ROM. -/
def State.release (s : State) : State :=
  let ok := sfdpOk s.pwr.bootIn
  let s := (s.wr Reg.FW_FLASH_SFDP_OK (b2n ok)).wr Reg.FW_FLASH_SIZE_MIB (if ok then 64 else 0)
  { s with fw := { s.fw with bootCold := true } }.bootRom false

/-- REF presence, fuses, then the cores. Without REF the sequence waits (R385). (DESIGN CHOICE, log 48.) -/
def State.bootUp (s : State) : State :=
  let b := s.pwr.bootIn
  let s := { s with pwr := { s.pwr with bootWait := !b.refOk } }
  if !b.refOk then s.event (Ev.pwr 10)
  else
    let s := s.wr Reg.PWR_STATUS_REF_OK 1
    let s := (s.wr Reg.FW_LC_MARGIN_LOW (b2n b.marginLow)).settleLc
    let s := if b.marginLow then s.replaceRequest 5 else s
    let s := if b.fuseEcc then s.event (Ev.mem 14) else s
    s.release

/-- A cold start with its cause and wake code: the cold reset, what it reports, the sequence. (DESIGN CHOICE, log 48.) -/
def State.coldStart (s : State) (cause wake : Nat) : State :=
  let brown := s.pwr.brownCell
  let s := ((s.tearFlash.cleared.startLegs).pmAcquire .a).pmAcquire .b
  let s := { s with pwr := { s.pwr with poweredOnce := true, brownCell := false } }
  let s := s.wr Reg.PWR_RST_CAUSE (if brown then 2 else cause)
  let s := if brown then ((s.wr Reg.PWR_STATUS_BROWN_OUT 1).inc Reg.PWR_CNT_BROWN_OUTS).event (Ev.pwr 7) else s
  let code := if brown then 12 else wake
  (if code = 0 then s else s.recordWake code).bootUp

/-- PWR_GOOD_RISE. From off the start waits for WAKE_IN too (R378). -/
def State.pwrGoodRise (s : State) (b : BootInput) : State :=
  if !s.pwr.held then s else
  let s := { s with pwr := { s.pwr with held := false, bootIn := b } }
  if s.pwr.off then (if has s.pwr.pendWake 1 then s.coldStart 3 1 else s)
  else s.coldStart (if s.pwr.poweredOnce then 1 else 0) 0

def execPwrGoodRise (boot : BootInput) (s : State) : Out := .next (s.pwrGoodRise boot)

/-- PWR_GOOD_FALL: transmit disable, and the cold reset; the start follows its rise. In off it only shows that the rails are gone. -/
def State.pwrGoodFall (s : State) : State :=
  if s.pwr.off then { s with pwr := { s.pwr with held := true } }
  else ({ s.tearFlash with pwr := { s.pwr with held := true } }.cleared).wr Reg.PWR_RST_CAUSE 1

def execPwrGoodFall (s : State) : Out := .next s.pwrGoodFall

/-- BROWN_OUT: the always-on domain resets; the next start, at once while PWR_GOOD is high, is a cold reset. -/
def State.brownOut (s : State) : State :=
  let s := { s with pwr := { s.pwr with brownCell := true } }
  if s.pwr.off then s else if s.pwr.held then s.tearFlash.cleared else s.coldStart 2 12

def execBrownOut (s : State) : Out := .next s.brownOut

/-- COLD: PWR_RST_CTL written with COLD alone and the key. -/
def State.askCold (s : State) (ag : Agent) (v : Nat) : State :=
  if ag = .pf ∧ v % 4 = 2 ∧ bits v 15 8 = 0xC5 then s.coldStart 5 0 else s

def execCold (ag : Agent) (v : BitVec 32) (s : State) : Out := .next <| s.reg ag fun s => s.askCold ag v.toNat

/-! ### Warm reset (R382, R383) -/

/-- The trial window after the reset of FW_CTL: from the settings, or its default. (DEDUCED, log 49.) -/
def State.restoreTrial (s : State) : State :=
  let v := match s.settingsOf s.runSlot with
    | some (x, _) => Reg.FW_CTL_TRIAL_MIN.get 0 0 x.fields
    | none => Reg.FW_CTL_TRIAL_MIN.reset
  (s.wr Reg.FW_CTL_ALLOW_UNTESTED 0).wr Reg.FW_CTL_TRIAL_MIN v

/-- A warm reset with its cause (R383): the scheduler as by its own reset (R176), the management cores; the link, the rings and all else
are kept. Autopilot runs for the duration of the firmware boot. (DEDUCED, log 49.) -/
def State.warmReset (s : State) (cause : Nat) : State :=
  let s := if s.fw.autopilot then s else s.autopilotOn
  let s := { s with fw := { s.fw with activate := none, warmAt := false } }
  let s := (s.schedReset).fwStop 2
  let s := { s with host := { s.host with fwQueue := [] } }
  let s := ((s.wr Reg.PWR_RST_CAUSE cause).inc Reg.PWR_CNT_WARM_RESETS).event (Ev.pwr 9)
  (s.bootRom false).restoreTrial

/-- WARM: PWR_RST_CTL written with WARM alone and the key. -/
def State.askWarm (s : State) (ag : Agent) (v : Nat) : State :=
  if ag = .pf ∧ v % 4 = 1 ∧ bits v 15 8 = 0xC5 then s.tearFlash.warmReset 6 else s

def execWarm (ag : Agent) (v : BitVec 32) (s : State) : Out := .next <| s.reg ag fun s => s.askWarm ag v.toNat

/-- ACTIVATE_WARM_RESET: 1 ms after FW_ACTIVATE with MODE = 1. (DEDUCED, log 44.) -/
def State.activateWarm (s : State) : State :=
  if !s.fw.warmAt then s else
  let s := (s.warmReset 7).inc Reg.FW_CNT_ACTIVATIONS
  let r := s.bootRec
  if r.trial && r.starts = 1 then s.event (Ev.fw 7) else s

def execActivateWarmReset (s : State) : Out := .next s.activateWarm

/-! ### PERST# and the BMC (R368, R383, R384) -/

/-- PERST_ASSERT: what R383 resets, then the move of R368. -/
def State.perstAssert (s : State) : State :=
  if s.isOn Reg.PWR_STATUS_PERST then s else
  let s := (s.wr Reg.PWR_STATUS_PERST 1).event (Ev.pwr 11)
  let s := s.linkDown
  let s := ((s.wr Reg.HIF_LINK_HOLD 0).dropHeld.quietOps).eraseLookaside fun _ => true
  let s := (List.range 129).foldl (fun s f => (s.mbxFlr f).fnConfigReset f) s
  let s := s.vfsOff
  let s := { s with tev := { s.tev with ptmOn := false } }
  let s := { s with pwr := { s.pwr with cause := if s.pwr.cause = 2 then 2 else 1 } }
  s.move

def execPerstAssert (s : State) : Out := .next s.perstAssert

/-- PERST_DEASSERT: a move that it caused ends, and a sleeping terminal wakes. Link training follows as its own command. -/
def State.perstDeassert (s : State) : State :=
  if !s.isOn Reg.PWR_STATUS_PERST then s else
  let s := (s.wr Reg.PWR_STATUS_PERST 0).event (Ev.pwr 11)
  let s := { s with pwr := { s.pwr with moveDue := s.pwr.moveDue && s.pwr.cause == 2,
                                        cause := if s.pwr.cause = 1 then 0 else s.pwr.cause } }
  s.wakeCause 2

def execPerstDeassert (s : State) : Out := .next s.perstDeassert

/-- BMC_POWER_REQUEST: firmware takes it when it is present. -/
def execBmcPowerRequest (target : Option Nat) (s : State) : Out :=
  .next <| s.via .bmc fun s =>
    if s.fwPresent then s.bmcTake target else { s with pwr := { s.pwr with bmcWait := s.pwr.bmcWait ++ [target] } }

/-! ### Wake sources (R381) -/

/-- WAKE_IN. In off the start waits for PWR_GOOD too. -/
def State.wakeIn (s : State) : State :=
  if s.pwr.off then
    (if s.pwr.held then { s with pwr := { s.pwr with pendWake := [1] } } else s.coldStart 3 1)
  else s.wakeCause 1

def execWakeIn (s : State) : Out := .next s.wakeIn

/-- AON_TIMER: SECONDS after the entry to sleep or deep sleep. -/
def execAonTimer (s : State) : Out :=
  .next (if s.isOn Reg.PWR_AON_TIMER_SECONDS && (s.pwr.asleep || s.rd Reg.PWR_STATUS_STATE == 4) && !s.pwr.off then s.wakeCause 3 else s)

/-! ### Deep sleep and off (R374 to R378) -/

/-- DEEP_SLEEP_ENTRY: steps 2 to 6, once every request of step 1 is closed. (DEDUCED, log 40.) -/
def State.deepEntry (s : State) : State :=
  if !s.pwr.entering || !s.pwr.sleepReq.isEmpty || !s.fwPresent || s.pwr.asleep then s else
  let off := s.rd Reg.PWR_CTL_TARGET == 3
  let en := (s.rd Reg.ACT_CTL_ENABLE 0, s.rd Reg.ACT_CTL_ENABLE 1)
  let s := (((s.actCtl .a 0).actCtl .b 0).wr Reg.HG_STATUS_TXDIS 1 0).wr Reg.HG_STATUS_TXDIS 1 1
  let s := s.tevSleep.zeroiseKeys.setFlash fun f => { f with going := none }
  let s := { s with mbx := { s.mbx with sw := [] } }
  let s := { s with pwr := { s.pwr with savedEnable := en, coarse := s.time.now40, entryBound := s.rd Reg.TIME_BOUND_OWN, entering := false,
                                        granted := none, wakeReq := none, off := off } }
  let s := (s.wr Reg.ADM_STATUS_FW_PRESENT 0).linkDown
  let s := if off then s else (s.wr Reg.PWR_STATUS_LP_MODE 1).inc Reg.PWR_CNT_DEEP_ENTRIES
  let s := (s.setPower 4).settleBoth
  if off && has s.pwr.pendWake 1 then s.coldStart 3 1 else s

def execDeepSleepEntry (s : State) : Out := .next s.deepEntry

/-- Elapsed AON32K ticks as 2^-40 ns: a tick is 30,517.578125 ns. -/
def aonTicks40 (ticks : Nat) : Nat := ticks * 1953125 * 2 ^ 34

/-- What the elapsed time adds to the own bound, in 0.25 ns, rounded up. (DESIGN CHOICE, log 30; DEDUCED, log 50.) -/
def coarseBound (ticks ppm : Nat) : Nat := (ticks * 1953125 * ppm * 4 + 63999999) / 64000000

/-- Hardware's part of the exit: the retention list, the counter, the bound and the quality (R375, R377). (DEDUCED, log 50.) -/
def State.retained (s : State) (ticks : Nat) : State :=
  let c := s.cleared
  let t := s.time
  let own := min 65535 (s.pwr.entryBound + coarseBound ticks (max 1 (s.rd Reg.PWR_AON_CTL_PPM)))
  let q := if own ≤ s.rd Reg.TIME_HO_CTL_LIMIT then 3 else 4
  let regs := s.regs.filter fun p => isRetained p.1 || pinRows.any fun R => Row.covers R p.1
  let n : State := { c with
    regs := regs, txid := s.txid
    time := { now40 := s.pwr.coarse + aonTicks40 ticks, incr := t.incr, tgt := t.tgt, incrHo := t.incrHo, hoOn := true, hoB0 := own,
              sqOn := decide (q = 4) }
    mbx := { c.mbx with box := Tab.mapv {} (fun _ (m : Mbox) => { cnt := m.cnt }) s.mbx.box }
    fw := { c.fw with restarts := s.fw.restarts, deepBoot := true } }
  (((n.wr Reg.TIME_QUAL_QUALITY q).wr Reg.TIME_BOUND_OWN own).wr Reg.TIME_BOUND own).applyTrims

/-- A leg's ACT_CTL as it stood before entry step 2. -/
def State.reEnable (s : State) (l : Leg) (en : Nat) : State := if en = 1 then s.actCtl l 1 else s

/-- DEEP_SLEEP_EXIT, on the wake cause recorded with the lowest code. (DEDUCED, log 50.) -/
def State.deepExit (s : State) (ticks : Nat) (crcOk : Bool) : State :=
  if s.rd Reg.PWR_STATUS_STATE ≠ 4 || s.pwr.off || s.pwr.held then s else
  match s.pwr.pendWake with
  | [] => s
  | w :: r =>
    let code := r.foldl min w
    if !crcOk then ((s.coldStart 4 code).event (Ev.pwr 8)).event (Ev.mem 15)
    else
      let en := s.pwr.savedEnable
      let s := ((s.retained ticks).event (Ev.pwr 0)).recordWake code
      let s := (s.wr Reg.PWR_STATUS_REF_OK (b2n s.pwr.bootIn.refOk)).settleLc
      let s := (s.reEnable .a en.1).reEnable .b en.2
      s.startLegs.settleSquelch.release

def execDeepSleepExit (ticks : Nat) (crcOk : Bool) (s : State) : Out := .next (s.deepExit ticks crcOk)

/-! ### REF, the crystal, the rails (R385, R386, R423) -/

/-- REF_LOSS: while TIME runs from the REF synthesiser the own bound is 0xFFFF, and the quality follows it. -/
def State.refLoss (s : State) : State :=
  if !s.isOn Reg.PWR_STATUS_REF_OK then s else
  let s := (s.wr Reg.PWR_STATUS_REF_OK 0).event (Ev.pwr 10)
  if !s.noRef then s
  else ({ s with time := { s.time with hoB0 := 65535 } }.settleBound).holdoverJudge

def execRefLoss (s : State) : Out := .next s.refLoss

/-- REF_RESTORED: a cold start that waits for REF goes on. -/
def State.refRestored (s : State) : State :=
  if s.pwr.held then s
  else if s.pwr.bootWait then
    { s with pwr := { s.pwr with bootIn := { s.pwr.bootIn with refOk := true } } }.bootUp
  else (s.wr Reg.PWR_STATUS_REF_OK 1).settleBound

def execRefRestored (s : State) : Out := .next s.refRestored

def execXt32kStable (s : State) : Out := .next (s.wr Reg.PWR_STATUS_XT_OK 1)

/-- RAIL_LOSS: transmit disable is driven high when VDD_CORE, VDDH or VDDIO falls. -/
def execRailLoss (rail : Rail) (s : State) : Out :=
  .next (if rail = .vddCore ∨ rail = .vddh ∨ rail = .vddio then (s.wr Reg.HG_STATUS_TXDIS 1 0).wr Reg.HG_STATUS_TXDIS 1 1 else s)

end Sys2Proof.Machine
end

