-- ==== Sys2Proof/Machine/Optical.lean ====
section
/-! DEFINITION. Optical modules: presence, identity, bring-up, deskew writes, receive overload, safety polling, telemetry and life
accounting (15_optical_modules.md, R388 to R405). -/

namespace Sys2Proof.Machine

/-! ### Presence (R402) -/

/-- A bring-up ends: its state and its locks. -/
def State.bringupOver (s : State) (l : Leg) : State :=
  (((s.wr Reg.OPT_STATUS_BRINGUP 0 l.n).wr Reg.OPT_STATUS_CDR_LOCK 0 l.n).settleLanes l).settleDef l

/-- MODULE_PRESENCE: a removal clears ID_VALID, sets the lanes OFF and ends bring-up; an insertion wakes. -/
def State.presence (s : State) (l : Leg) (present : Bool) : State :=
  if s.isOn Reg.OPT_STATUS_PRESENT l.n = present then s else
  let s := (s.wr Reg.OPT_STATUS_PRESENT (b2n present) l.n).upd l fun g => { g with wasRemoved := true }
  if present then ((s.wakeCause 4).settleLanes l).settleDef l
  else (s.wr Reg.OPT_STATUS_ID_VALID 0 l.n).bringupOver l

def execModulePresence (l : Leg) (present : Bool) (s : State) : Out := .next (s.presence l present)

/-! ### Identity (R390, R400, R403, R404) -/

/-- Four bytes to a register word, the lowest address in [7:0]. -/
def State.idWords (s : State) (l : Leg) (R : Row) (b : List Byte) : State :=
  (List.range R.n).foldl (fun s i => s.wr R (leNat (slice b (4 * i) 4)) l.n i) s

/-- A life record copy is valid. (PRESUMED, log 54.) -/
def lifeOk (c : List Byte) : Bool := (c.getD 29 0).toNat == 0x5C && crc16 (byteBits (c.take 30)) == beNat (slice c 30 2)

def lifeCountOf (c : List Byte) : Nat := (c.getD 28 0).toNat

/-- x is 1 or 2 ahead of y, modulo 256. -/
def ahead (x y : Nat) : Bool := let d := (x + 256 - y) % 256; d == 1 || d == 2

/-- The copy in force: 0 or 1. `choice` decides between two valid copies whose counts do not. -/
def lifeInForce (c0 c1 : List Byte) (choice : Bool) : Option Nat :=
  match lifeOk c0, lifeOk c1 with
  | true, true =>
    let m := lifeCountOf c0
    let n := lifeCountOf c1
    some (if ahead n m then 1 else if ahead m n then 0 else b2n choice)
  | true, false => some 0
  | false, true => some 1
  | false, false => none

/-- I_BOL of a laser, and with it I_EOL: the lower of 1.5 x I_BOL and the high-warning threshold (R405). -/
def State.setBol (s : State) (l : Leg) (u v : Nat) : State :=
  let high := if u = 0 then (s.leg l).biasHigh.1 else (s.leg l).biasHigh.2
  (s.wr Reg.OPT_LIFE_I_I_BOL v l.n u).wr Reg.OPT_LIFE_I_I_EOL (min (v * 3 / 2) high) l.n u

/-- The counters resume from the copy in force, or start at 0 with HIST_UNKNOWN. (PRESUMED, log 54; DEDUCED, log 55.) -/
def State.loadLife (s : State) (l : Leg) (page : List Byte) : State :=
  let c0 := slice page 0 32
  let c1 := slice page 32 32
  let choice := Config.lifeCopy s.freeIdx
  match lifeInForce c0 c1 choice with
  | some k =>
    let c := if k = 1 then c1 else c0
    let s := (s.wr Reg.OPT_LIFE_ON_NS (leNat (slice c 0 8)) l.n 0).wr Reg.OPT_LIFE_ON_NS (leNat (slice c 8 8)) l.n 1
    let s := ((s.setBol l 0 (leNat (slice c 24 2))).setBol l 1 (leNat (slice c 26 2))).wr Reg.OPT_STATUS_HIST_UNKNOWN 0 l.n
    (s.upd l fun g => { g with lifeCount := lifeCountOf c, lifeCopy := 1 - k }).spend
  | none =>
    let s := ((s.wr Reg.OPT_LIFE_ON_NS 0 l.n 0).wr Reg.OPT_LIFE_ON_NS 0 l.n 1).wr Reg.OPT_STATUS_HIST_UNKNOWN 1 l.n
    ((s.setBol l 0 0).setBol l 1 0).upd l fun g => { g with lifeCount := 0, lifeCopy := 0 }

/-- One laser's coefficients in service: KT, KI. -/
def State.putCoeff (s : State) (l : Leg) (u kt ki : Nat) : State :=
  (s.wr Reg.TIME_LEG_LASER_U_KT kt l.n u).wr Reg.TIME_LEG_LASER_U_KI ki l.n u

/-- Page B0h holds a correct CRC-32. (PRESUMED, log 54.) -/
def laserPageOk (p : List Byte) : Bool := crc32 (byteBits (slice p 0 36)) == beNat (slice p 36 4)

/-- The coefficients of R115, and the stated range, from page B0h; else the defaults of the module class and no range. -/
def State.loadLaser (s : State) (l : Leg) (page : Option (List Byte)) : State :=
  match page.filter laserPageOk with
  | some p =>
    let f := fun off => beNat (slice p off 2)
    let s := (s.putCoeff l 0 (f 0) (f 4)).putCoeff l 1 (f 2) (f 6)
    let s := (s.wr Reg.TIME_LEG_LASER_REF_T_REF (f 8) l.n).wr Reg.TIME_LEG_LASER_REF_I_REF (f 10) l.n
    s.upd l fun g => { g with laserRange := some (slice p 12 4) }
  | none =>
    let c := fun u => (Config.moduleClassCoeff u).toNat
    let s := (s.putCoeff l 0 (bits (c 0) 15 0) (bits (c 0) 31 16)).putCoeff l 1 (bits (c 1) 15 0) (bits (c 1) 31 16)
    let s := (s.wr Reg.TIME_LEG_LASER_REF_T_REF (bits (c 0) 47 32) l.n).wr Reg.TIME_LEG_LASER_REF_I_REF (bits (c 0) 63 48) l.n
    s.upd l fun g => { g with laserRange := none }

/-- A laser that was not here before has no samples and no dark windows behind it. -/
def State.freshLaser (s : State) (l : Leg) (u : Nat) : State :=
  let s := (s.wr Reg.OPT_LIFE_SLOPE 0 l.n u).wr Reg.OPT_LIFE_STAT_DAYS_LEFT 65535 l.n u
  (s.wr Reg.OPT_LIFE_STAT_DARK_FAIL 0 l.n u).wr Reg.OPT_LIFE_STAT_FIT_VALID 0 l.n u

/-- The serial number that OPT_ID holds. -/
def State.idSerial (s : State) (l : Leg) : List Byte := (List.range 4).flatMap fun i => leBytes 4 (s.rd Reg.OPT_ID_SERIAL l.n i)

def State.newModule (s : State) (l : Leg) (serial : List Byte) : State :=
  if s.idSerial l = slice serial 0 16 then s
  else ((s.freshLaser l 0).freshLaser l 1).upd l fun g => { g with bias0 := [], bias1 := [], darkRun := (0, 0) }

/-- The identity registers. -/
def State.putIdentity (s : State) (l : Leg) (id : ModuleId) : State :=
  let s := ((s.idWords l Reg.OPT_ID_VENDOR id.vendor).idWords l Reg.OPT_ID_PART id.part).idWords l Reg.OPT_ID_SERIAL id.serial
  let s := (s.wr Reg.OPT_ID_REV (leNat (slice id.rev 0 2)) l.n).idWords l Reg.OPT_ID_DATE id.date
  (s.wr Reg.OPT_ID_CMIS_CMIS_REV id.cmisRev l.n).wr Reg.OPT_BUS_CTL_FAST (b2n id.fast) l.n

/-- MODULE_IDENTITY_READ: a module below revision 0x50 is refused. -/
def State.identity (s : State) (l : Leg) (id : ModuleId) : State :=
  if !s.isOn Reg.OPT_STATUS_PRESENT l.n || !s.fwPresent then s
  else if id.cmisRev < 0x50 then s.wr Reg.OPT_STATUS_ID_VALID 0 l.n
  else
    let s := ((s.newModule l id.serial).putIdentity l id).upd l fun g => { g with biasHigh := (id.biasHigh0, id.biasHigh1) }
    let s := s.loadLife l id.life
    let s := s.upd l fun g => { g with onLog := [(s.rd Reg.OPT_LIFE_ON_NS l.n 0, s.rd Reg.OPT_LIFE_ON_NS l.n 1)] }
    ((s.loadLaser l id.laser).followLaser l).wr Reg.OPT_STATUS_ID_VALID 1 l.n

def execModuleIdentityRead (l : Leg) (id : ModuleId) (s : State) : Out := .next (s.identity l id)

/-! ### Bring-up (R394, R395) -/

/-- An attempt begins: all six lanes at once. (DEDUCED, log 52.) -/
def State.attempt (s : State) (l : Leg) : State :=
  let s := ((s.wr Reg.OPT_STATUS_BRINGUP 1 l.n).wr Reg.OPT_STATUS_CDR_LOCK 0 l.n).wr Reg.OPT_DSK_CMD_ALIGNED 0 l.n
  ((s.upd l fun g => { g with alignRun := 0 }).settleLanes l).settleDef l

/-- A module that has been identified. -/
def State.moduleReady (s : State) (l : Leg) : Bool := s.isOn Reg.OPT_STATUS_PRESENT l.n && s.isOn Reg.OPT_STATUS_ID_VALID l.n

/-- A write of OPT_CTL: LANES_EN = 1 starts bring-up, LANES_EN = 0 ends it. -/
def State.optCtl (s : State) (l : Leg) (v : Nat) : State :=
  let s := ((s.wr Reg.OPT_CTL_LANES_EN (bit v 0) l.n).wr Reg.OPT_CTL_AUTO_RETRY (bit v 1) l.n).wr Reg.OPT_CTL_LOCK_MS (bits v 7 4) l.n
  if bit v 0 = 0 then s.bringupOver l
  else if s.rd Reg.OPT_STATUS_BRINGUP l.n = 0 && s.moduleReady l then s.attempt l
  else (s.settleLanes l).settleDef l

def execBringupStart (ag : Agent) (l : Leg) (v : BitVec 32) (s : State) : Out := .next <| s.reg ag fun s => s.optCtl l v.toNat

/-- CDR_LOCK: with all four locked, LOCKING becomes DESKEW. -/
def State.cdrLock (s : State) (l : Leg) (w : Nat) : State :=
  if w ≥ 4 || !s.detecting l w then s else
  let s := s.setBit Reg.OPT_STATUS_CDR_LOCK l.n w
  if s.rd Reg.OPT_STATUS_CDR_LOCK l.n = 15 && s.rd Reg.OPT_STATUS_BRINGUP l.n = 1 then s.wr Reg.OPT_STATUS_BRINGUP 2 l.n else s

def execCdrLock (l : Leg) (w : Nat) (s : State) : Out := .next (s.cdrLock l w)

/-- BRINGUP_ATTEMPT_FAIL: an attempt in which a lane shows LOS does not fail. The third in a row fails the leg. (DEDUCED, log 52.) -/
def State.attemptFail (s : State) (l : Leg) : State :=
  let b := s.rd Reg.OPT_STATUS_BRINGUP l.n
  if b = 0 || b = 3 || s.isOn Reg.PROT_DEF_LOS l.n then s else
  let s := ((s.incSat Reg.OPT_STATUS_FAILS l.n).inc Reg.OPT_CNT_BRINGUP_FAILS l.n).bringupOver l
  if s.rd Reg.OPT_STATUS_FAILS l.n = 3 then s.legFailed l else s

def execBringupAttemptFail (l : Leg) (s : State) : Out := .next (s.attemptFail l)

/-- BRINGUP_RETRY: the second after a failed attempt is over. (DEDUCED, log 52.) -/
def State.retryBringup (s : State) (l : Leg) : State :=
  let f := s.rd Reg.OPT_STATUS_FAILS l.n
  if s.isOn Reg.OPT_CTL_LANES_EN l.n && s.isOn Reg.OPT_CTL_AUTO_RETRY l.n && s.rd Reg.OPT_STATUS_BRINGUP l.n = 0 && s.moduleReady l &&
     decide (0 < f) && decide (f < 3) then s.attempt l else s

def execBringupRetry (l : Leg) (s : State) : Out := .next (s.retryBringup l)

/-! ### Deskew writes (R396, R397) -/

/-- SLIP and REHUNT are open to the PF and firmware while ENABLE = 0, and to firmware alone after LOSS_OF_SYNC while it is 1. -/
def State.mayDeskew (s : State) (ag : Agent) (l : Leg) : Bool :=
  !s.isOn Reg.ACT_CTL_ENABLE l.n || (ag.isFw && s.isOn Reg.PROT_DEF_LOSS_OF_SYNC l.n)

/-- A wave goes back to HUNT; one that was in SYNC loses it. -/
def State.rehuntWave (s : State) (l : Leg) (w : Nat) : State :=
  let s := (s.wr Reg.OPT_DSK_CMD_ALIGNED 0 l.n).upd l fun g => { g with alignRun := 0 }
  if (s.wave l w).deln = .sync then s.loseSync l w else s.toHunt l w

/-- SLIP_WRITE. A change restarts the leg's accumulation of R111. -/
def State.slipWrite (s : State) (ag : Agent) (l : Leg) (w slip : Nat) : State :=
  if w ≥ 4 || !s.mayDeskew ag l then s else
  let s := if s.rd Reg.OPT_DSK_SLIP l.n w = slip % 64 then s else s.upd l fun g => { g with dts := [] }
  ((s.wr Reg.OPT_DSK_SLIP slip l.n w).inc Reg.OPT_CNT_SLIPS l.n).rehuntWave l w

def execSlipWrite (ag : Agent) (l : Leg) (w slip : Nat) (s : State) : Out := .next <| s.reg ag fun s => s.slipWrite ag l w slip

/-- REHUNT of the waves named in a mask. -/
def State.rehunt (s : State) (ag : Agent) (l : Leg) (mask : Nat) : State :=
  if !s.mayDeskew ag l then s else
  ((List.range 4).filter fun w => bit mask w == 1).foldl (fun s w => (s.inc Reg.OPT_CNT_REHUNTS l.n).rehuntWave l w) s

def execRehunt (ag : Agent) (l : Leg) (mask : Nat) (s : State) : Out := .next <| s.reg ag fun s => s.rehunt ag l mask

/-! ### Receive overload (R398) -/

/-- The latched markers of a frame marked RXOVL are excluded (R110, R111). -/
def LegSt.excludeMarks (g : LegSt) (key : Nat) : LegSt :=
  { g with marks := g.marks.map fun (m : Mark) => if key = 8 * m.sfc then { m with excluded := true } else m
           dts := if g.waves.w0.key = key then g.dts.drop (b2n (g.waves.toList.all fun v => v.marked && v.key == key)) else g.dts }

/-- RXOVL: a microsecond with more than THRESH clipped samples. -/
def State.overload (s : State) (l : Leg) (w clipped : Nat) : State :=
  if w ≥ 4 || !s.detecting l w || clipped ≤ max 1 (s.rd Reg.OPT_OVL_CTL_THRESH l.n) then s else
  let s := (s.setBit Reg.OPT_STATUS_RXOVL l.n w).once l (Ev.wave l w 7) 0
  let v := s.wave l w
  if v.rxovl then s else
  let s := if (s.leg l).waves.toList.any fun x => x.rxovl && x.key == v.key then s else s.upd l fun g => g.excludeMarks v.key
  (s.inc Reg.OPT_CNT_OVL_FRAMES l.n).updWave l w fun v => { v with rxovl := true }

def execRxovl (l : Leg) (w clipped : Nat) (s : State) : Out := .next (s.overload l w clipped)

/-! ### Safety polling (R401, R402) -/

/-- MODULE_INTERRUPT: a poll is due within 50 us. -/
def execModuleInterrupt (l : Leg) (s : State) : Out := .next (s.upd l fun g => { g with pollDue := true })

/-- The conditions that a poll finds, as bits of CAUSE. Three polls in a row without acknowledgement are a bus failure. -/
def State.pollCause (s : State) (l : Leg) (ack txFault ready : Bool) : Nat :=
  b2n (ack && txFault) + 2 * b2n (ack && !ready) + 4 * b2n (!s.isOn Reg.OPT_STATUS_PRESENT l.n) + 8 * b2n ((s.leg l).pollFail ≥ 3)

/-- A safety fault is declared for causes not yet standing. -/
def State.safetyFault (s : State) (l : Leg) (c : Nat) : State :=
  let old := s.rd Reg.OPT_SAFE_CAUSE l.n
  let s := if c.lor old = old then s else s.inc Reg.OPT_CNT_SAFETY_FAULTS l.n
  let s := (s.wr Reg.OPT_SAFE_CAUSE (c.lor old) l.n).wr Reg.OPT_SAFE_FAULT 1 l.n
  (s.upd l fun g => { g with safeHeld := true, pollClean := 0, wasRemoved := g.wasRemoved || bit c 2 == 1 || bit c 3 == 1 }).forceTxdis l

/-- A poll without any condition: the tenth in a row clears CAUSE. -/
def State.cleanPoll (s : State) (l : Leg) : State :=
  let s := s.upd l fun g => { g with pollClean := g.pollClean + 1 }
  if (s.leg l).pollClean ≥ 10 && s.rd Reg.OPT_SAFE_CAUSE l.n ≠ 0 then
    ((s.wr Reg.OPT_SAFE_CAUSE 0 l.n).wr Reg.OPT_SAFE_FAULT 0 l.n).safeRelease l
  else s

/-- What a poll counts, and the millisecond of telemetry age that a poll of the 1 ms cycle marks. -/
def State.pollCount (s : State) (l : Leg) (ack duringTelem : Bool) : State :=
  let s := if duringTelem then s.inc Reg.OPT_CNT_TELEM_PREEMPT l.n else s
  let s := s.inc (if ack then Reg.OPT_CNT_SAFETY_POLLS else Reg.OPT_CNT_BUS_ERRORS) l.n
  let s := if (s.leg l).pollDue then s else s.incSat Reg.OPT_TELEM_AGE_AGE_MS l.n
  s.upd l fun g => { g with pollDue := false, pollFail := if ack then 0 else g.pollFail + 1 }

/-- SAFETY_POLL (R401). (DEDUCED, log 53.) -/
def State.safetyPoll (s : State) (l : Leg) (ack txFault ready duringTelem : Bool) : State :=
  let s := s.pollCount l ack duringTelem
  let c := s.pollCause l ack txFault ready
  if c ≠ 0 then s.safetyFault l c
  else if !ack then s.upd l fun g => { g with pollClean := 0 }
  else s.cleanPoll l

def execSafetyPoll (l : Leg) (ack txFault ready duringTelem : Bool) (s : State) : Out := .next (s.safetyPoll l ack txFault ready duringTelem)

/-! ### Telemetry (R403, R115, R116) -/

/-- Temperature (1/256 degree, 16 bits signed) and bias (2 uA) lie in the range the module states: degrees signed, and mA. -/
def inRange (r : List Byte) (t i : Nat) : Bool :=
  let b := fun k => (r.getD k 0).toNat
  decide (signed 8 (b 0) * 256 ≤ signed 16 t) && decide (signed 16 t ≤ signed 8 (b 1) * 256) && decide (b 2 * 500 ≤ i) &&
  decide (i ≤ b 3 * 500)

/-- Some laser lies outside the stated range, or its temperature is the module's. -/
def State.laserOut (s : State) (l : Leg) : Bool :=
  [0, 1].any fun u =>
    s.isOn Reg.OPT_TELEM_LASER_FROM_CASE l.n u ||
    (s.leg l).laserRange.any fun r => !inRange r (s.rd Reg.OPT_TELEM_LASER_LASER_T l.n u) (s.rd Reg.OPT_TELEM_BIAS l.n u)

def State.putLaser (s : State) (l : Leg) (u t fromCase bias : Nat) : State :=
  ((s.wr Reg.OPT_TELEM_LASER_LASER_T t l.n u).wr Reg.OPT_TELEM_LASER_FROM_CASE fromCase l.n u).wr Reg.OPT_TELEM_BIAS bias l.n u

/-- TELEMETRY_READ (R402, R403). (DEDUCED, log 53.) -/
def State.telemetry (s : State) (l : Leg) (t : Telemetry) : State :=
  if !s.moduleReady l || !s.fwPresent then s else
  let case := b2n t.vdm.isNone
  let lt := t.vdm.getD (t.modTemp, t.modTemp)
  let s := ((s.wr Reg.OPT_TELEM_TEMP_MOD_TEMP t.modTemp l.n).putLaser l 0 lt.1 case t.bias0).putLaser l 1 lt.2 case t.bias1
  let s := [0, 1, 2, 3].foldl (fun s w => s.wr Reg.OPT_TELEM_RXP_RX_POWER (t.rxPower.get w) l.n w) s
  let s := s.wr Reg.OPT_TELEM_AGE_AGE_MS 0 l.n
  let out := s.laserOut l
  let s := s.upd l fun g => { g with telemOut := out }
  if out then s.laserLow l else s.followLaser l

def execTelemetryRead (l : Leg) (t : Telemetry) (s : State) : Out := .next (s.telemetry l t)

/-! ### Life accounting (R404, R405) -/

/-- The 30 bytes of a life record before its CRC. -/
def State.lifeBody (s : State) (l : Leg) : List Byte :=
  leBytes 8 (s.rd Reg.OPT_LIFE_ON_NS l.n 0) ++ leBytes 8 (s.rd Reg.OPT_LIFE_ON_NS l.n 1) ++ leBytes 8 (s.secNow % 2 ^ 48) ++
  leBytes 2 (s.rd Reg.OPT_LIFE_I_I_BOL l.n 0) ++ leBytes 2 (s.rd Reg.OPT_LIFE_I_I_BOL l.n 1) ++
  leBytes 1 ((s.leg l).lifeCount + 1) ++ [0x5C]

/-- LIFE_RECORD_WRITE to the copy whose turn it is. (DEDUCED, log 53.) -/
def State.lifeWrite (s : State) (l : Leg) (acked : Bool) : State :=
  if !s.moduleReady l || !s.fwPresent then s else
  let b := s.lifeBody l
  let s := s.emit (.moduleWrite l 3 (128 + 32 * (s.leg l).lifeCopy) (b ++ beBytes 2 (crc16 (byteBits b))))
  if !acked then s.inc Reg.OPT_CNT_BUS_ERRORS l.n
  else (s.inc Reg.OPT_CNT_PAGE_WRITES l.n).upd l fun g => { g with lifeCount := (g.lifeCount + 1) % 256, lifeCopy := 1 - g.lifeCopy }

def execLifeRecordWrite (l : Leg) (acked : Bool) (s : State) : Out := .next (s.lifeWrite l acked)

/-- Sums of a list of samples against burst-on nanoseconds. -/
def sumR (l : List Rat) : Rat := l.foldl (· + ·) 0

/-- Least squares of bias (2 uA) against burst-on nanoseconds: the slope, if the samples give one, and the mean point. (DEDUCED, log 55.) -/
def fitBias (l : List (Nat × Nat)) : Option Rat × Rat × Rat :=
  let n : Rat := l.length
  let mx := sumR (l.map fun p => (p.1 : Rat)) / n
  let my := sumR (l.map fun p => (p.2 : Rat)) / n
  let sxx := sumR (l.map fun p => ((p.1 : Rat) - mx) * ((p.1 : Rat) - mx))
  let sxy := sumR (l.map fun p => ((p.1 : Rat) - mx) * ((p.2 : Rat) - my))
  (if sxx = 0 then none else some (sxy / sxx), mx, my)

/-- Days left: (I_EOL - I_fit) over SLOPE over the on-hours of the last day; bias in 2 uA, SLOPE in nA per on-hour, on-time in ns. -/
def daysLeft (eol : Nat) (ifit : Rat) (slope : Int) (onDay : Nat) : Nat :=
  if slope ≤ 0 then 65535
  else if (eol : Rat) ≤ ifit then 0
  else if onDay = 0 then 65535
  else min 65535 (((eol : Rat) - ifit) * 2000 / (slope : Rat) / ((onDay : Rat) / 3600000000000)).floor.toNat

def LegSt.bias (g : LegSt) (u : Nat) : List (Nat × Nat) := if u = 0 then g.bias0 else g.bias1

/-- Burst-on time of a laser within the last day. -/
def State.onDay (s : State) (l : Leg) (u : Nat) : Nat :=
  match (s.leg l).onLog.getLast? with
  | none => 0
  | some p => (s.rd Reg.OPT_LIFE_ON_NS l.n u + 2 ^ 64 - (if u = 0 then p.1 else p.2)) % 2 ^ 64

/-- The projection, from 48 samples on. -/
def State.project (s : State) (l : Leg) (u : Nat) : State :=
  let x := (s.leg l).bias u
  if x.length < 48 then s else
  let (m, mx, my) := fitBias x
  let free := (Config.biasSlope s.freeIdx).toNat
  let (slope, s) : Int × State := match m with
    | some m => (roundRat (m * 2000 * 3600000000000), s)
    | none => (signed 32 free, s.spend)
  let s := (s.wr Reg.OPT_LIFE_SLOPE (unsigned 32 slope) l.n u).wr Reg.OPT_LIFE_STAT_FIT_VALID 1 l.n u
  if s.isOn Reg.OPT_LIFE_STAT_DARK_FAIL l.n u then s else
  let ifit := my + m.getD 0 * ((s.rd Reg.OPT_LIFE_ON_NS l.n u : Rat) - mx)
  s.wr Reg.OPT_LIFE_STAT_DAYS_LEFT (daysLeft (s.rd Reg.OPT_LIFE_I_I_EOL l.n u) ifit slope (s.onDay l u)) l.n u

/-- A laser's hourly sample, taken within 2 degrees of T_REF. -/
def State.sample (s : State) (l : Leg) (u : Nat) : State :=
  let s := s.wr Reg.OPT_LIFE_DUTY_DUTY_PM (s.onDay l u * 1000 / 86400000000000) l.n u
  let t := signed 16 (s.rd Reg.OPT_TELEM_LASER_LASER_T l.n u) - signed 16 (s.rd Reg.TIME_LEG_LASER_REF_T_REF l.n)
  if t < -512 ∨ 512 < t then s else
  let i := s.rd Reg.OPT_TELEM_BIAS l.n u
  let s := if s.isOn Reg.OPT_STATUS_HIST_UNKNOWN l.n && ((s.leg l).bias u).isEmpty then s.setBol l u i else s
  let p := (s.rd Reg.OPT_LIFE_ON_NS l.n u, i)
  let s := s.upd l fun g => if u = 0 then { g with bias0 := (p :: g.bias0).take 720 } else { g with bias1 := (p :: g.bias1).take 720 }
  s.project l u

/-- BIAS_SAMPLE of both lasers; below 90 days the module is near its end of life. -/
def State.biasSample (s : State) (l : Leg) : State :=
  if !s.moduleReady l || !s.fwPresent then s else
  let now := (s.rd Reg.OPT_LIFE_ON_NS l.n 0, s.rd Reg.OPT_LIFE_ON_NS l.n 1)
  let s := (s.sample l 0).sample l 1
  let s := s.upd l fun g => { g with onLog := (now :: g.onLog).take 24 }
  if s.rd Reg.OPT_LIFE_STAT_DAYS_LEFT l.n 0 < 90 ∨ s.rd Reg.OPT_LIFE_STAT_DAYS_LEFT l.n 1 < 90 then
    (s.wr Reg.PROT_RR_DETAIL_LEG l.n).replaceRequest 3
  else s

def execBiasSample (l : Leg) (s : State) : Out := .next (s.biasSample l)

end Sys2Proof.Machine
end

