-- ==== Sys2Proof/Machine/Memory.lean ====
section
/-! DEFINITION. ECC, scrub and sparing of the on-die memories (16_register_map_and_wrap.md, R412 to R414). -/

namespace Sys2Proof.Machine

/-! ### Sparing (R412) -/

def rowKey (inst row : Nat) : Nat := 2 ^ 24 * inst + row % 2 ^ 24

/-- Corrected visits of a row so far; two ask for a spare, as one uncorrectable error does. -/
def State.rowAge (s : State) (inst row : Nat) : Nat := Tab.get 0 (rowKey inst row) s.mem.corrVisits

def State.setRowAge (s : State) (inst row n : Nat) : State :=
  { s with mem := { s.mem with corrVisits := Tab.put 0 (rowKey inst row) n s.mem.corrVisits } }

/-- Fewer than 10 % of an instance's spares are unused. -/
def State.sparesLow (s : State) (inst : Nat) : Bool :=
  let n := s.rd Reg.MEM_INST_SPARES_TOTAL 0 inst
  decide (10 * (n - s.rd Reg.MEM_INST_SPARES_USED 0 inst) < n)

/-- LOW, when the unused spares fall below 10 %. -/
def State.settleSpares (s : State) (inst : Nat) : State :=
  let n := s.rd Reg.MEM_INST_SPARES_TOTAL 0 inst
  let s := s.wr Reg.MEM_INST_STATUS_EXHAUSTED (b2n (n = s.rd Reg.MEM_INST_SPARES_USED 0 inst)) 0 inst
  if !s.sparesLow inst || s.isOn Reg.MEM_INST_STATUS_LOW 0 inst then s
  else (((s.wr Reg.MEM_INST_STATUS_LOW 1 0 inst).event (Ev.mem 11)).wr Reg.PROT_RR_DETAIL_MEM_ID inst).replaceRequest 1

/-- Replace a row that asks for it, while a spare is left. -/
def State.spareRow (s : State) (inst row : Nat) : State :=
  if s.rowAge inst row < 2 || s.rd Reg.MEM_INST_SPARES_USED 0 inst ≥ s.rd Reg.MEM_INST_SPARES_TOTAL 0 inst then s
  else (((s.setRowAge inst row 0).inc Reg.MEM_INST_SPARES_USED 0 inst).event (Ev.mem 10)).settleSpares inst

/-! ### The tables of instance 7 (R412, R414), numbered in the order R412 lists them -/

/-- The fields at [base, base + size) of instance i of a block read zero. -/
def State.zeroRows (s : State) (rows : List Row) (base size i : Nat) : State :=
  (rows.filter fun R => base ≤ R.addr && R.addr < base + size).foldl (fun s R => s.wr R 0 0 i) s

def State.zeroQueue (s : State) (q : Nat) : State :=
  s.setTxq q fun t => { t with cfg := ⟨0, false, 0, 0, 0, 0, 0, 0⟩, b0 := {}, b1 := {}, credit := 0, s := 0, f := 0, fLast := 0 }

def State.zeroContainer (s : State) (c : Nat) : State := (s.zeroRows Reg.tableUSCH 0x081000 0x40 c).setSlot c fun _ => {}

/-- Ring state: transmit queues from 0, receive rings from 8,192, completion rings from 12,288, event rings from 13,312. -/
def State.zeroRing (s : State) (n : Nat) : State :=
  if n < 8192 then
    (s.zeroRows Reg.tableHIF 0x100000 0x20 n).setTxq n fun t =>
      { ({} : TxQ) with cfg := t.cfg, b0 := t.b0, b1 := t.b1, credit := t.credit, s := t.s, f := t.f, fLast := t.fLast }
  else if n < 12288 then (s.zeroRows Reg.tableHIF 0x140000 0x20 (n - 8192)).setRxr (n - 8192) fun _ => {}
  else if n < 13312 then (s.zeroRows Reg.tableHIF 0x160000 0x20 (n - 12288)).setCq (n - 12288) fun _ => {}
  else if n < 13568 then (s.zeroRows Reg.tableHIF 0x168000 0x20 (n - 13312)).setEq (n - 13312) fun _ => {}
  else s

def State.zeroWindow (s : State) (n : Nat) : State :=
  { s with mbx := { s.mbx with sw := s.mbx.sw.filter fun p => p.1 / 4 ≠ n } }

/-- The n-th waiting message becomes zeros, which no message is. -/
def State.zeroMessage (s : State) (n : Nat) : State :=
  { s with fw := { s.fw with apBuf := s.fw.apBuf.set n (.a, 0) } }

/-- An entry of instance 7 is lost: a key slot's keys are erased, any other entry reads as zero. (DESIGN CHOICE, log 51.) -/
def State.zeroEntry (s : State) (table idx : Nat) : State :=
  match table with
  | 0 => s.zeroQueue idx
  | 1 => s.zeroContainer idx
  | 2 => s.zeroRing idx
  | 3 => { s with slu := { s.slu with cm := Tab.put 0 idx 0 s.slu.cm } }
  | 4 => s.eraseSlot idx
  | 5 => s.zeroWindow idx
  | 6 => s.zeroMessage idx
  | _ => s

/-! ### SCRUB_VISIT (R413, R414) -/

/-- An uncorrectable error that the scrub finds. -/
def State.scrubUncorr (s : State) (inst table idx : Nat) : State :=
  match inst with
  | 1 | 2 | 3 | 4 => (s.eccUncorr inst 0).repairCopy
  | 5 => let s := s.eccUncorr inst 0
         if s.fwPresent then s.planned else s
  | 7 => (s.eccUncorr inst (if table = 4 then 0 else table % 256 + 256 * (idx % 2 ^ 24))).zeroEntry table idx
  | _ => s.eccUncorr inst 0

/-- The visit's finding: 1 a corrected error, 2 an uncorrectable one. -/
def State.scrubFind (s : State) (inst row err table idx : Nat) : State :=
  if err = 1 then
    let s := ((s.inc Reg.MEM_INSTC_CORR 0 inst).wr Reg.MEM_INST_STATUS_LAST_ROW row 0 inst).event (Ev.mem (2 * eccPair inst))
    s.setRowAge inst row (min 2 (s.rowAge inst row + 1))
  else if err = 2 then ((s.wr Reg.MEM_INST_STATUS_LAST_ROW row 0 inst).setRowAge inst row 2).scrubUncorr inst table idx
  else s

/-- Every instance's last row has been visited: a background pass is over. -/
def State.scrubCover (s : State) (inst row : Nat) : State :=
  if row ≠ (Config.lastRow inst).toNat || has s.mem.covered inst then s else
  let c := inst :: s.mem.covered
  if c.length < 8 then { s with mem := { s.mem with covered := c } }
  else
    let s := (s.wr Reg.MEM_SCRUB_STATUS_PASS_MS (min (2 ^ 32 - 1) (s.runMs - s.mem.passAt))).event (Ev.mem 12)
    { s with mem := { s.mem with covered := [], passAt := s.runMs } }

/-- SCRUB_VISIT (R412 to R414). (DESIGN CHOICE, log 51.) -/
def State.scrub (s : State) (inst row err table idx : Nat) : State :=
  if inst ≥ 8 || !s.isOn Reg.MEM_SCRUB_CTL_EN then s
  else ((s.spareRow inst row).scrubFind inst row err table idx).scrubCover inst row

def execScrubVisit (inst row err table idx : Nat) (s : State) : Out := .next (s.scrub inst row err table idx)

end Sys2Proof.Machine
end

