-- ==== Sys2Proof/Machine/RegRead.lean ====
section
/-! DEFINITION. Reads of registers: where a field lies, values that the terminal computes as they are read, latched high words
(R72, R408, R409) and the reads that have an effect. -/

namespace Sys2Proof.Machine

/-! ### Where a field lies -/

/-- The place of an address among the copies of one leg's field: instance, and whether it is the high word. -/
def Row.place (R : Row) (base a : Nat) : Option (Nat × Bool) :=
  if a < base then none else
  let i := (a - base) / R.stride
  let r := (a - base) % R.stride
  if i ≥ R.n then none
  else if r = 0 then some (i, false)
  else if r = 4 ∧ R.width > 32 then some (i, true)
  else none

/-- The leg, instance and word of a field that an address reaches. -/
def Row.reach (R : Row) (a : Nat) : Option (Nat × Nat × Bool) :=
  match Row.place R R.addr a with
  | some (i, hi) => some (0, i, hi)
  | none => if R.legStride = 0 then none else (Row.place R (R.addr + R.legStride) a).map fun (i, hi) => (1, i, hi)

/-- The fields of the window an address lies in (R406). -/
def windowRows (a : Nat) : List Row :=
  match a / 65536 with
  | 0x00 => Reg.tableGEN
  | 0x01 => Reg.tablePWR
  | 0x02 => Reg.tableLINE
  | 0x03 => Reg.tableLINE
  | 0x04 => Reg.tableACT
  | 0x05 => Reg.tableHG
  | 0x06 => Reg.tableTIME
  | 0x07 => Reg.tableTEV
  | 0x08 => Reg.tableUSCH
  | 0x09 => Reg.tableSTBL
  | 0x0A => Reg.tableCLS
  | 0x0B => Reg.tableCIPH
  | 0x0C => Reg.tableSLU
  | 0x0D => Reg.tablePROT
  | 0x0E => Reg.tablePM
  | 0x0F => Reg.tableOPT
  | 0x30 => Reg.tableMBX
  | 0x31 => Reg.tableADM
  | 0x32 => Reg.tableFW
  | 0x33 => Reg.tableMEM
  | 0x34 => Reg.tableEVT
  | w => if 0x10 ≤ w ∧ w ≤ 0x2F then Reg.tableHIF else []

def within (a lo hi : Nat) : Bool := lo ≤ a && a < hi

/-- The registers of which the PF and firmware each have their own instance: the time snapshot and staging sets (R126, R127) and the
command interfaces of R410. -/
def ownInstance (a : Nat) : Bool :=
  within a 0x060020 0x060064 || within a 0x080010 0x080048 || within a 0x090000 0x090030 || within a 0x090070 0x090088 ||
  within a 0x0A0000 0x0A0020 || within a 0x0B0010 0x0B001C || within a 0x0C0020 0x0C002C || within a 0x0E0010 0x0E0060 ||
  within a 0x180010 0x180040

/-! ### Values computed as they are read -/

/-- M of TIME_LEG_MARK, 2^-40 ns. -/
def State.markAt (s : State) (l : Nat) : Nat := (((s.leg (Leg.ofBit l)).marks.head?).map Mark.at40).getD 0
def State.markGen (s : State) (l : Nat) : Nat := (((s.leg (Leg.ofBit l)).marks.head?).map Mark.gen).getD 0

/-- Four wave states of two bits, and the four bits of CF_HUNT. -/
def State.delinWord (s : State) (l : Nat) : Nat :=
  (List.range 4).foldr (fun w n => (match (s.wave (Leg.ofBit l) w).deln with
    | .hunt => 0
    | .presync => 1
    | .sync => 2) + 4 * n) 0

def State.huntWord (s : State) (l : Nat) : Nat :=
  (List.range 4).foldr (fun w n => b2n (s.wave (Leg.ofBit l) w).hunting + 2 * n) 0

/-- A ring waits after a loss of the link, or for its function's resume (R304, R305). -/
def State.ringHeld (s : State) (own : Nat) : Bool := s.isOn Reg.HIF_LINK_HOLD || s.isOn Reg.HIF_FN_STATUS_HOLD 0 own

def State.streamCount (s : State) (p : Nat → Bool) : Nat := (s.cls.streams.filter fun e => bit e.2 0 == 1 && p e.2).length

/-- Minutes of the trial window left. -/
def State.trialLeft (s : State) : Nat :=
  if s.isOn Reg.FW_STATUS_TRIAL then max 1 (min 1440 s.bootRec.trialMin) - (s.runMs - s.fw.trialAt) / 60000 else 0

/-- A lane's mode. A transmit lane stays on for its tail after a window, and on to the next window of its wave when that begins within 320
grains of the tail's end (R393). -/
def State.laneMode (s : State) (l : Leg) (w : Nat) : Nat :=
  let m := s.rd Reg.OPT_LANE_MODE l.n w
  if w < 4 || m ≠ 4 then m else
  let u := w - 4
  let limit := s.tailEnd l u * 2 ^ 24 + 320 * 25 * 2 ^ 40 / 18
  let near := (s.leg l).allocs.any fun a => a.wave == u && a.hgOpen && !a.opened && !a.withdrawn && s.grainRun l a.sfc a.fn a.first ≤ limit
  if s.run16 < s.tailEnd l u || (near && decide (0 < s.tailEnd l u)) then 5 else 4

/-- The fields whose value the state holds elsewhere. -/
def liveRows : List (Row × (State → Nat → Nat → Nat)) := [
  (Reg.TIME_SEC_LO, fun s _ _ => s.secNow),
  (Reg.TIME_SEC_HI, fun s _ _ => s.secNow / 2 ^ 32),
  (Reg.TIME_NS, fun s _ _ => s.nsNow % 1000000000),
  (Reg.TIME_FRAC, fun s _ _ => s.time.now40 / 256),
  (Reg.TIME_INCR_LO_INCR, fun s _ _ => s.time.incr),
  (Reg.TIME_INCR_HI_INCR, fun s _ _ => s.time.incr / 2 ^ 32),
  (Reg.TIME_INCR_TGT_LO_INCR_TGT, fun s _ _ => s.time.tgt),
  (Reg.TIME_INCR_TGT_HI_INCR_TGT, fun s _ _ => s.time.tgt / 2 ^ 32),
  (Reg.TIME_LEG_MARK_SEC_LO, fun s l _ => s.markAt l / 2 ^ 40 / 1000000000),
  (Reg.TIME_LEG_MARK_SEC_HI, fun s l _ => s.markAt l / 2 ^ 40 / 1000000000 / 2 ^ 32),
  (Reg.TIME_LEG_MARK_SEC_HI_MARK_GEN, fun s l _ => s.markGen l),
  (Reg.TIME_LEG_MARK_NS, fun s l _ => s.markAt l / 2 ^ 40 % 1000000000),
  (Reg.TIME_LEG_MARK_FRAC, fun s l _ => s.markAt l / 2 ^ 24),
  (Reg.TEV_PTM_T1, fun s _ i => s.tev.ptmCur.getD i 0),
  (Reg.TEV_PTM_T4, fun s _ i => s.tev.ptmCur.getD (5 + i) 0),
  (Reg.TEV_PTM_MASTER, fun s _ i => s.tev.ptmCur.getD (10 + i) 0),
  (Reg.TEV_PTM_PDELAY, fun s _ _ => s.tev.ptmCur.getD 12 0),
  (Reg.TEV_PTM_PREV_T1, fun s _ i => s.tev.ptmPrev.getD i 0),
  (Reg.TEV_PTM_PREV_T4, fun s _ i => s.tev.ptmPrev.getD (5 + i) 0),
  (Reg.TEV_TCAP_STATUS_LEVEL, fun s _ i => (s.cap i).fifo.length),
  (Reg.LINE_DLN_STATUS_STATE, fun s l _ => s.delinWord l),
  (Reg.LINE_DLN_STATUS_CF_HUNT, fun s l _ => s.huntWord l),
  (Reg.LINE_SFC_LO, fun s l _ => (s.wave (Leg.ofBit l) 0).sfc),
  (Reg.LINE_SFC_HI, fun s l _ => (s.wave (Leg.ofBit l) 0).sfc / 2 ^ 32),
  (Reg.LINE_SFC_HI_FN, fun s l _ => (s.wave (Leg.ofBit l) 0).fn),
  (Reg.HIF_TX_CTL_HOLD, fun s _ i => b2n (s.ringHeld (s.txOwner i))),
  (Reg.HIF_TX_CTL_OWNER, fun s _ i => s.txOwner i),
  (Reg.HIF_RX_CTL_HOLD, fun s _ i => b2n (s.ringHeld (s.rd Reg.HIF_RX_CTL_OWNER 0 i))),
  (Reg.HIF_ERRLOG_STATUS_ERRLOG_LEVEL, fun s _ _ => (Tab.get [] 0 s.host.errs).length),
  (Reg.STBL_OCC_VALID_VALID_CNT, fun s _ _ => s.streamCount fun _ => true),
  (Reg.STBL_OCC_LEARNED_LEARNED_CNT, fun s _ _ => s.streamCount fun e => bit e 1 == 1),
  (Reg.EVT_LOG_LEVEL, fun s _ _ => s.host.log.length),
  (Reg.USCH_STATUS_FB_ALL, fun s _ _ => b2n ((List.range 128).all fun c => (s.slotSt c).fb != 0)),
  (Reg.USCH_STATUS_LEG, fun s _ _ => s.active.n),
  (Reg.USCH_STATUS_RSV_U0, fun s _ _ => b2n (s.bursts.any fun b => !b.committed && b.alloc.wave == 0)),
  (Reg.USCH_STATUS_RSV_U1, fun s _ _ => b2n (s.bursts.any fun b => !b.committed && b.alloc.wave == 1)),
  (Reg.USCH_CT_LEVEL0, fun s _ i => (s.slotSt i).b0.level / 500),
  (Reg.USCH_CT_LEVEL1, fun s _ i => (s.slotSt i).b1.level / 500),
  (Reg.CIPH_KX_KX_STATE, fun s l _ =>
    if s.rd Reg.CIPH_KX_KX_STATE l = 1 ∧ (s.reqs.any fun q => q.leg == Leg.ofBit l && !q.frags.isEmpty && q.due) = false then 2
    else s.rd Reg.CIPH_KX_KX_STATE l),
  (Reg.OPT_LANE_MODE, fun s l i => s.laneMode (Leg.ofBit l) i),
  (Reg.CLS_DRAIN_IN_FLIGHT, fun s _ _ => if s.draining then s.inFlight (s.rd Reg.CLS_COMMIT_STATUS_DRAIN_VER) else 0),
  (Reg.ADM_STATUS_LIVE, fun s _ _ => s.liveOps.length),
  (Reg.FW_STATUS_TRIAL_LEFT, fun s _ _ => s.trialLeft),
  (Reg.FW_DR_STATUS_IN_WINDOW, fun s _ _ => s.restartWindow.length)]

/-- The value an agent reads in a field. -/
def State.fieldOf (s : State) (ag : Agent) (R : Row) (l i : Nat) (own : Bool) : Nat :=
  if R.ty = .wo then 0 else
  match liveRows.find? fun p => p.1 == R with
  | some (_, f) => f s l i % 2 ^ R.width
  | none => if own then s.rdA ag R l i else s.rd R l i

/-- The rings of a kind that function f owns (R285). -/
def State.ringsOf (s : State) (R : Row) (f : Nat) : Nat :=
  if f = 0 then R.n - (s.regs.filter fun p => Row.covers R p.1).length else (s.owned R f).length

/-- N_TX to N_EQ of a function, words +0x08 and +0x0C of HIF_FN. -/
def State.fnCounts (s : State) (f hi : Nat) : Nat :=
  if hi = 0 then 64 * s.ringsOf Reg.USCH_CT_CTL_OWNER f + 65536 * s.ringsOf Reg.HIF_RX_CTL_OWNER f
  else s.ringsOf Reg.HIF_CQ_CTL_OWNER f + 65536 * s.ringsOf Reg.HIF_EQ_CTL_OWNER f

/-- The word at an address of the register windows; a place with no register reads zero (R10). (DESIGN CHOICE, log 9.) -/
def State.regWord (s : State) (ag : Agent) (a : Nat) : Nat :=
  let own := ownInstance a
  let extra := if within a 0x170000 0x178100 && a % 256 == 8 then s.fnCounts ((a - 0x170000) / 256) 0
    else if within a 0x170000 0x178100 && a % 256 == 12 then s.fnCounts ((a - 0x170000) / 256) 1 else 0
  (windowRows a).foldl (fun n R =>
    match Row.reach R a with
    | none => n
    | some (l, i, hi) =>
      let v := s.fieldOf ag R l i own
      n + 2 ^ R.lo * (if hi then v / 2 ^ 32 else if R.width > 32 then v % 2 ^ 32 else v)) extra

/-! ### Latched high words (R72, R409) -/

/-- Windows whose 64-bit counters are read per R72. -/
def countedWindow (a : Nat) : Bool :=
  let w := a / 65536
  (1 ≤ w && w ≤ 0x0D) || w == 0x0F || (0x10 ≤ w && w ≤ 0x2F) || (0x30 ≤ w && w ≤ 0x32)

/-- 64-bit values that are no counters: the ledger columns, the stream statistics, theta and burst-on time. -/
def plainPair (a : Nat) : Bool :=
  within a 0x080110 0x0801E0 || within a 0x090078 0x090088 || within a 0x060118 0x060120 || within a 0x060218 0x060220 ||
  within a 0x0F0200 0x0F0240 || within a 0x0F1200 0x0F1240 || within a 0x180200 0x180300

/-- `_LO` registers whose description says that reading them latches the next word. -/
def latchLows : List Nat := [0x01000C, 0x020008, 0x030008, 0x04001C, 0x04101C, 0x0A0028, 0x0B0044, 0x0B004C, 0x0B0064, 0x0B006C, 0x0D0014]

/-- The addresses that a read of an address latches. (DEDUCED, log 10.) -/
def latchSet (a : Nat) : List Nat :=
  if a = 0x070040 then (List.range 25).map fun i => 0x070044 + 4 * i
  else if a = 0x060108 ∨ a = 0x060208 then [a + 4, a + 8, a + 12]
  else if has latchLows a then [a + 4]
  else if countedWindow a && !plainPair a && (windowRows a).any (fun R => R.width > 32 && (Row.reach R a).any fun p => !p.2.2) then [a + 4]
  else []

/-- An address whose read returns a latched word. (DEDUCED, log 10.) -/
def isLatched (a : Nat) : Bool :=
  within a 0x070044 0x0700A8 || within a 0x06010C 0x060118 || within a 0x06020C 0x060218 || (a ≥ 4 && has (latchSet (a - 4)) a)

/-- Where an agent's latch of a word is kept (R409). (DEDUCED, log 10.) -/
def latchKey (ag : Agent) (a : Nat) : Nat := ag.id * 2 ^ 24 + a

/-- What a read returns: a latched word reads zero before its first latch. -/
def State.readWord (s : State) (ag : Agent) (a : Nat) : Nat :=
  if isLatched a then Tab.get 0 (latchKey ag a) s.latches else s.regWord ag a

def State.latchFrom (s : State) (ag : Agent) (a : Nat) : State :=
  { s with latches := (latchSet a).foldl (fun t h => Tab.put 0 (latchKey ag h) (s.regWord ag h) t) s.latches }

/-- A read with no effect but its latch. (DESIGN CHOICE, log 9.) -/
def State.plainRead (s : State) (ag : Agent) (a : Nat) : State := (s.latchFrom ag a).emit (.regRead a (s.readWord ag a))

/-! ### The mailbox view (R320 to R327) -/

/-- FULL of the owned mailboxes from n on. -/
def State.fullWord (s : State) (ag : Agent) (n : Nat) : Nat :=
  (List.range 32).foldr (fun i x => b2n (s.ownsBox ag (n + i) && (s.box (n + i)).full) + 2 * x) 0

/-- A word of an agent's view, by offset; the status words and the window's data have reads of their own. -/
def State.viewWord (s : State) (ag : Agent) (off : Nat) : Nat :=
  let v := s.view ag
  if off < 0x800 then
    if !s.ownsBox ag (off / 32) then 0 else
    match Tab.get none (off / 32) v.latch with
    | some m => if off % 32 ≤ 0x10 then (mboxWords m).getD (off % 32 / 4) 0 else 0
    | none => 0
  else
    match off with
    | 0x800 => v.ptr % 2 ^ 32
    | 0x804 => v.ptr / 2 ^ 32
    | 0x80C => v.result + 256 * v.seq + 65536 * b2n v.overwrote
    | 0x810 => v.dst % 2 ^ 32
    | 0x814 => v.dst / 2 ^ 32
    | 0x818 => v.fMbx + 64 * v.dspace + 512 * b2n v.busy + 65536 * v.fstatus
    | 0x820 => v.swAddr
    | 0x830 => s.fullWord ag 0
    | 0x834 => s.fullWord ag 32
    | _ => 0

def State.viewRead (s : State) (ag : Agent) (off : Nat) : State :=
  if off < 0x800 ∧ off % 32 = 0 then
    let (w, s) := s.mbxLatch ag (off / 32)
    s.emit (.regRead (0x300000 + off) (w.getD 0 0))
  else if off = 0x824 then s.swAccess ag false 0
  else s.emit (.regRead (0x300000 + off) (s.viewWord ag off))

/-! ### Reads by the PF and firmware -/

def State.winRead (s : State) (ag : Agent) (a : Nat) : State :=
  if a % 4 ≠ 0 then s
  else if within a 0x070800 0x070A00 && a % 64 == 0x10 then s.tcapPop ((a - 0x070800) / 64)
  else if within a 0x300000 0x301000 then s.viewRead ag (a - 0x300000)
  else if a = 0x341000 then s.logPop
  else if a = 0x180050 then s.errPopOf 0
  else s.plainRead ag a

/-! ### The BAR of a VF (R284) -/

/-- The ring that VF_RSEL selects: bits [15:0] the local index, bits [17:16] the kind. (DESIGN CHOICE, log 13.) -/
def State.selected (s : State) (n : Nat) : Option (RingKind × Nat) :=
  let v := Tab.get 0 n s.host.rsel
  let kind : RingKind := match bits v 17 16 with
    | 0 => .tx
    | 1 => .rx
    | 2 => .cq
    | _ => .eq
  (s.globalIdx kind n (v % 65536)).map fun g => (kind, g)

def ringAddr (kind : RingKind) (g : Nat) : Nat :=
  match kind with
  | .tx => 0x100000 + 32 * g
  | .rx => 0x140000 + 32 * g
  | .cq => 0x160000 + 32 * g
  | _ => 0x168000 + 32 * g

/-- A word of a lane's indices that a VF owns: +0 PROD, +4 CONS. -/
def State.laneWord (s : State) (n a : Nat) : Nat :=
  let up := a ≥ 0xA800
  let l := (if up then a - 0xA800 else a - 0xA000) / 8
  if s.rd (if up then Reg.SLU_ULANE_CTL_OWNER else Reg.SLU_DLANE_CTL_OWNER) 0 l ≠ n then 0
  else if a % 8 = 0 then s.rd (if up then Reg.SLU_ULANE_PROD else Reg.SLU_DLANE_PROD) 0 l
  else s.rd (if up then Reg.SLU_ULANE_CONS else Reg.SLU_DLANE_CONS) 0 l

def isLaneAddr (a : Nat) : Bool := within a 0xA000 0xA400 || within a 0xA800 0xAC00

/-- A word that a VF reads without effect. -/
def State.vfWord (s : State) (n a : Nat) : Nat :=
  if isLaneAddr a then s.laneWord n a
  else if within a 0xC000 0xC0F0 then s.msixWord n ((a - 0xC000) / 4)
  else if a = 0xD000 then s.msixPba n 0
  else if within a 0x9004 0x9010 then (Tab.get [] n s.host.errPop).getD ((a - 0x9000) / 4) 0
  else
    match a with
    | 0x6000 => Tab.get 0 n s.host.rsel
    | 0x7000 => s.regWord .pf (0x170000 + 256 * n) + 2 ^ 24 * n
    | 0x7008 => s.fnCounts n 0
    | 0x700C => s.fnCounts n 1
    | 0x9010 => (Tab.get [] n s.host.errs).length + 65536 * Tab.get 0 n s.host.errLost
    | _ => 0

def State.vfRead (s : State) (n a : Nat) : State :=
  if within a 0x6020 0x6040 then
    match s.selected n with
    | some (kind, g) => s.plainRead (.vf n) (ringAddr kind g + (a - 0x6020))
    | none => s.emit (.regRead a 0)
  else if within a 0x8000 0x9000 then s.viewRead (.vf n) (a - 0x8000)
  else if a = 0x9000 then s.errPopOf n
  else s.emit (.regRead a (s.vfWord n a))

/-! ### BAR2 of the PF (R283) -/

/-- A REGISTER_ACCESS or REGISTER_WRITE of the PF names an offset of BAR2 as 0x400000 and the offset: BAR0 ends there.
(DESIGN CHOICE, log 63.) -/
def inBar2 (a : Nat) : Bool := within a 0x400000 0x420000

/-- A word of BAR2, by its offset: the MSI-X table and the pending bit array; a doorbell reads as zero. -/
def State.bar2Word (s : State) (a : Nat) : Nat :=
  if within a 0x1C000 0x1C800 then s.msixWord 0 ((a - 0x1C000) / 4)
  else if within a 0x1D000 0x1D010 then s.msixPba 0 ((a - 0x1D000) / 4)
  else 0

/-- The blocks whose branches idle gates (R366): the upstream scheduler, the stream table, the classifier, the cipher. (DEDUCED, log 16.) -/
def gatedBlock (a : Nat) : Bool := within a 0x080000 0x0C0000

/-- A read by an agent; an access of the host to a gated block ends idle first. -/
def State.regAccess (s : State) (ag : Agent) (a : Nat) : State :=
  match ag with
  | .pf =>
    if inBar2 a && a % 4 == 0 then s.emit (.regRead a (s.bar2Word (a - 0x400000)))
    else (if gatedBlock a then s.idleExit 11 else s).winRead .pf a
  | .fw c => s.winRead (.fw c) a
  | .vf n => if 1 ≤ n ∧ n ≤ 128 then s.vfRead n a else s
  | .bmc => s

/-- An access to the windows or to a BAR happens while the way to it is clocked (R21). One through PCIe takes its credits; a function in
D3hot answers it as unsupported, one that does not exist not at all (R278, R308). (PRESUMED, log 68.) -/
def State.barred (s : State) (ag : Agent) (write : Bool) (f : State → State) : State :=
  let fn := match ag with
    | .pf => some 0
    | .vf n => some n
    | _ => none
  match fn with
  | none => s.reg ag f
  | some n =>
    if n > 128 then s else
    s.inDom .pcie fun s =>
      let s := if write then s.fcTake 1 1 0 0 else s.fcTake 0 0 1 0
      if s.cfg n Cfg.d3hot = 0 then f s else s.emit (.unsupported n)

def execRegisterAccess (ag : Agent) (addr : Nat) (s : State) : Out := .next <| s.barred ag false fun s => s.regAccess ag addr

/-- The register-window address that a VF reaches at an address of its BAR, for the reads that latch. -/
def State.latchAddr (s : State) (ag : Agent) (a : Nat) : Nat :=
  match ag with
  | .vf n =>
    if within a 0x6020 0x6040 then
      match s.selected n with
      | some (kind, g) => ringAddr kind g + (a - 0x6020)
      | none => a
    else a
  | _ => a

/-- LATCHED_READ: a read of a low word that latches. -/
def State.latchedRead (s : State) (ag : Agent) (a : Nat) : State :=
  if latchSet (s.latchAddr ag a) = [] then s else s.regAccess ag a

def execLatchedRead (ag : Agent) (addr : Nat) (s : State) : Out := .next <| s.barred ag false fun s => s.latchedRead ag addr

end Sys2Proof.Machine
end

