-- ==== Sys2Proof/Machine/RegAccess.lean ====
section
/-! DEFINITION. Writes of registers: the field types of R8 and R9, and the effect of each register that starts something, as its block's
chapter gives it; the BAR of a VF (R284); accesses of another form (R407). -/

namespace Sys2Proof.Machine

/-! ### The types of R8 -/

/-- Write one field of a word under its type. The lock bit of R9 is CIPH_PART.LOCK, the one lock that RWL fields name. -/
def State.fieldWrite (s : State) (ag : Agent) (own locked : Bool) (R : Row) (l i v : Nat) : State :=
  let x := v / 2 ^ R.lo % 2 ^ R.width
  let old := if own then s.rdA ag R l i else s.rd R l i
  let put := fun (n : Nat) => if own then s.wrA ag R n l i else s.wr R n l i
  match R.ty with
  | .rw => put x
  | .rws => put x
  | .w1c => put (old - old.land x)
  | .w1s => put (old.lor x)
  | .rwl => if locked then s else put x
  | _ => s

/-- Write every field of a word. -/
def State.wordWrite (s : State) (ag : Agent) (a v : Nat) : State :=
  let own := ownInstance a
  let locked := s.isOn Reg.CIPH_PART_LOCK
  (windowRows a).foldl (fun s R =>
    match Row.reach R a with
    | some (l, i, false) => s.fieldWrite ag own locked R l i v
    | _ => s) s

/-! ### Blocks whose registers start something -/

/-- A write of the TIME window (R126, R127). (DEDUCED, log 12.) -/
def State.timeWrite (s : State) (ag : Agent) (off v : Nat) : State :=
  match off with
  | 0x000 =>
    let s := s.wordWrite ag 0x060000 v
    let s := if bit v 0 = 1 then s.snap ag else s
    let s := if bit v 4 = 1 then s.timeCancel else s
    if bit v 1 = 1 then s.timeApply ag (bits v 3 2) else s
  | 0x094 => (s.wordWrite ag 0x060094 v).settleSquelch
  | 0x100 => (s.wordWrite ag 0x060100 v).settleTime
  | 0x200 => (s.wordWrite ag 0x060200 v).settleTime
  | _ =>
    if (stageRow off).isSome || (0x100 ≤ off && (trimRow off).isSome) then s.stageWrite ag off v
    else s.wordWrite ag (0x060000 + off) v

/-- TEV_CHn_CTL: the configuration, then DISARM, then ARM. A word that is discarded for its MODE does nothing (R135). (DEDUCED, log 12.) -/
def State.chCtl (s : State) (n v : Nat) : State :=
  if s.chState n ≠ 0 ∧ s.chMode n ≠ bits v 6 4 then s.tevConfig n 0 v else
  let s := s.tevConfig n 0 v
  let s := if bit v 1 = 1 then s.tevDisarm n else s
  if bit v 0 = 1 then s.tevArm n else s

def State.tevWrite (s : State) (ag : Agent) (off v : Nat) : State :=
  if within off 0x100 0x500 then
    let n := (off - 0x100) / 64
    if off % 64 = 0 then s.chCtl n v else s.tevConfig n (off % 64) v
  else
    let s := s.wordWrite ag (0x070000 + off) v
    if off = 0x020 ∧ bit v 1 = 1 then s.ptmTrigger else s

def State.uschWrite (s : State) (ag : Agent) (off v : Nat) : State :=
  if within off 0x1000 0x3000 then s.slotWrite ((off - 0x1000) / 64) (off % 64) v
  else
    match off with
    | 0x000 => if bit v 0 = 1 then s.uschReset else s
    | 0x010 =>
      match v % 4 with
      | 0 => s.queueRead ag
      | 1 => s.queueWrite ag
      | 2 => s.resetBuckets ag
      | _ => s.wrA ag Reg.USCH_QCMD_STATUS St.invalid
    | 0x100 => s.uschSnap v
    | _ => s.wordWrite ag (0x080000 + off) v

def State.stblWriteReg (s : State) (ag : Agent) (off v : Nat) : State :=
  match off with
  | 0x00 =>
    let stage := bit v 3 == 1
    match v % 8 with
    | 0 => s.stblRead ag (bits v 6 5)
    | 1 => s.stblCmd ag fun s => s.stblWrite ag stage
    | 2 => s.stblCmd ag fun s => s.stblInvalidate ag stage
    | 3 => s.stblCmd ag fun s => s.stblCompare ag stage
    | _ => s.stblCmd ag fun s => (St.invalid, s)
  | 0x44 =>
    let s := s.wordWrite ag 0x090044 v
    if bit v 2 = 1 then s.rearm else s
  | 0x70 => s.statLatch ag (v % 16384)
  | _ => s.wordWrite ag (0x090000 + off) v

/-- CLS_COMMIT: VERSION, then OPEN, COMMIT and CANCEL in this order. (DEDUCED, log 12.) -/
def State.commitWrite (s : State) (v : Nat) : State :=
  let s := s.wr Reg.CLS_COMMIT_VERSION (bits v 15 8)
  let s := if bit v 0 = 1 then s.commitOpen else s
  let s := if bit v 1 = 1 then s.commit (bits v 15 8) else s
  if bit v 2 = 1 then s.commitCancel else s

def State.clsWrite (s : State) (ag : Agent) (off v : Nat) : State :=
  match off with
  | 0x00 =>
    match v % 8 with
    | 0 => s.readNode ag
    | 1 => s.writeNode ag
    | 2 => s.readRoot ag
    | 3 => s.writeRoot ag
    | 4 => s.readProf ag
    | 5 => s.writeProf ag
    | _ => s.clsCmd ag fun s => (St.invalid, s)
  | 0x20 => s.commitWrite v
  | _ => s.wordWrite ag (0x0A0000 + off) v

def State.ciphWrite (s : State) (ag : Agent) (off v : Nat) : State :=
  match off with
  | 0x0C => s.keyRefresh (v % 4)
  | 0x10 =>
    match v % 4 with
    | 0 => s.slotQuery ag
    | 1 => s.slotRead ag
    | 2 => s.slotErase ag
    | _ => s.slotCmd ag fun s => (St.invalid, s)
  | _ => s.wordWrite ag (0x0B0000 + off) v

/-! ### Sluice lanes -/

/-- The EN, BASE, OWNER and WERR fields of a lane ring. -/
structure LaneRows where
  en : Row
  baseLo : Row
  owner : Row
  werr : Row

def laneRows (up : Bool) : LaneRows :=
  if up then ⟨Reg.SLU_ULANE_CTL_EN, Reg.SLU_ULANE_BASE_LO, Reg.SLU_ULANE_CTL_OWNER, Reg.SLU_ULANE_CTL_WERR⟩
  else ⟨Reg.SLU_DLANE_CTL_EN, Reg.SLU_DLANE_BASE_LO, Reg.SLU_DLANE_CTL_OWNER, Reg.SLU_DLANE_CTL_WERR⟩

/-- A word of a lane's setting that would change a field other than EN. -/
def State.laneChanges (s : State) (up : Bool) (a v : Nat) : Bool :=
  Reg.tableSLU.any fun R =>
    R.ty == .rw && R != (laneRows up).en &&
    match Row.reach R a with
    | some (l, i, false) => s.rd R l i != v / 2 ^ R.lo % 2 ^ R.width
    | _ => false

/-- EN stays 0 for a misplaced base or an owner that does not exist. (DEDUCED, log 15.) -/
def State.laneSettle (s : State) (up : Bool) (l : Nat) : State :=
  let o := s.rd (laneRows up).owner 0 l
  if s.rd (laneRows up).baseLo 0 l % 16 ≠ 0 ∨ (o > 128 ∧ o ≠ 255) then s.wr (laneRows up).en 0 0 l else s

/-- A write of the registers of a sluice lane (SLU_DLANE_l, SLU_ULANE_l of 09_sluice_lanes.md). (DEDUCED, log 15.) -/
def State.laneWrite (s : State) (ag : Agent) (a v : Nat) : State :=
  let up := a ≥ 0x0C2000
  let l := a % 4096 / 32
  if a % 32 ≤ 0x0C && s.isOn (laneRows up).en 0 l && s.laneChanges up a v then (s.wr (laneRows up).werr 1 0 l).event (Ev.slu 14)
  else
    let was := s.isOn (laneRows up).en 0 l
    let s := s.wordWrite ag a v
    if a % 32 = 0 ∧ was = false then s.laneSettle up l else s

/-- A write of the SLU window. (DEDUCED, log 12.) -/
def State.sluWrite (s : State) (ag : Agent) (off v : Nat) : State :=
  if within off 0x1000 0x3000 then (s.laneWrite ag (0x0C0000 + off) v).settleSluice.settleProt
  else
    match off with
    | 0x10 =>
      let s := if bit v 0 = 1 then s.swapRequest v
        else (s.wr Reg.SLU_SWAP_CTL_DN (bit v 1)).wr Reg.SLU_SWAP_CTL_UP (bit v 2)
      if bit v 3 = 1 then s.swapCancel else s
    | 0x20 =>
      let up := bit v 2 == 1
      match v % 4 with
      | 0 => s.cmRead ag up (bit v 3 == 1)
      | 1 => s.cmWrite ag up
      | 2 => s.cmCopy ag up
      | _ => s.cmClear ag up
    | _ => (s.wordWrite ag (0x0C0000 + off) v).settleSluice.settleProt

/-! ### Protection, monitoring, modules -/

def State.protWrite (s : State) (ag : Agent) (off v : Nat) : State :=
  match off with
  | 0x08 =>
    match v % 8 with
    | 0 => s.protCmd 0 .a
    | 1 => s.protCmd 4 .a
    | 2 => s.protCmd 4 .b
    | 3 => s.protCmd 7 .a
    | 4 => s.protCmd 7 .b
    | _ => s.wr Reg.PROT_CMD_RESULT St.invalid
  | _ => (s.wordWrite ag (0x0D0000 + off) v).settleProt

def State.pmWrite (s : State) (ag : Agent) (off v : Nat) : State :=
  match off with
  | 0x04 => s.pmTest .a v
  | 0x08 => s.pmTest .b v
  | 0x10 => s.binLatch ag v
  | _ => s.wordWrite ag (0x0E0000 + off) v

def State.optWrite (s : State) (ag : Agent) (off v : Nat) : State :=
  let l := Leg.ofBit (off / 4096)
  let o := off % 4096
  if off ≥ 0x2000 then s
  else if o = 0 then s.optCtl l v
  else if within o 0x30 0x40 then s.slipWrite ag l ((o - 0x30) / 4) (v % 64)
  else if o = 0x40 then s.rehunt ag l (v % 16)
  else s.wordWrite ag (0x0F0000 + off) v

/-! ### Rings (R285, R287) -/

/-- A field that an enabled ring does not change. -/
def State.ringField (s : State) (kind : RingKind) (R : Row) (ring v : Nat) : State :=
  if s.isOn (ringRows kind).en 0 ring then
    if s.rd R 0 ring = v % 2 ^ R.width then s else s.wr Reg.HIF_STATUS_WERR 1
  else s.wr R v 0 ring

/-- VEC, INT_EN, MOD_CNT and MOD_US. -/
def State.ringInt (s : State) (vec en cnt us : Row) (ring v : Nat) : State :=
  (((s.wr vec v 0 ring).wr en (bit v 7) 0 ring).wr cnt (bits v 15 8) 0 ring).wr us (bits v 31 16) 0 ring

def State.ringWrite (s : State) (ag : Agent) (kind : RingKind) (ring off v : Nat) : State :=
  if !s.mayRing ag kind ring then s else
  match off with
  | 0x00 => s.ringField kind (ringRows kind).baseLo ring v
  | 0x04 => s.ringField kind (ringRows kind).baseHi ring v
  | 0x08 => s.ringCtl ag kind ring v
  | 0x10 =>
    match kind with
    | .tx => if isVf ag then s else s.ringField .tx Reg.HIF_TX_CQ ring v
    | .rx => if isVf ag then s else s.ringField .rx Reg.HIF_RX_CQ ring v
    | .cq => s.ringInt Reg.HIF_CQ_INT_VEC Reg.HIF_CQ_INT_INT_EN Reg.HIF_CQ_INT_MOD_CNT Reg.HIF_CQ_INT_MOD_US ring v
    | .eq => s.ringInt Reg.HIF_EQ_INT_VEC Reg.HIF_EQ_INT_INT_EN Reg.HIF_EQ_INT_MOD_CNT Reg.HIF_EQ_INT_MOD_US ring v
    | _ => s
  | _ => s

def State.hifWrite (s : State) (ag : Agent) (a v : Nat) : State :=
  if within a 0x100000 0x140000 then s.ringWrite ag .tx ((a - 0x100000) / 32) (a % 32) v
  else if within a 0x140000 0x160000 then s.ringWrite ag .rx ((a - 0x140000) / 32) (a % 32) v
  else if within a 0x160000 0x168000 then s.ringWrite ag .cq ((a - 0x160000) / 32) (a % 32) v
  else if within a 0x168000 0x16A000 then s.ringWrite ag .eq ((a - 0x168000) / 32) (a % 32) v
  else
    match a with
    | 0x180004 =>
      let s := s.wordWrite ag a v
      let s := if bit v 16 = 1 then s.resume else s
      if bit v 17 = 1 then s.discard else s
    | 0x180010 => s.replayCopy ag v
    | 0x180040 => s.hifSnap v
    | _ => s.wordWrite ag a v

/-! ### Mailboxes, the admin rings, firmware, power -/

def State.viewWrite (s : State) (ag : Agent) (off v : Nat) : State :=
  if off < 0x800 then (if off % 32 = 0x14 then (s.mbxAck ag (off / 32) (v % 256)).2 else s)
  else
    match off with
    | 0x800 => s.setView ag fun w => { w with ptr := w.ptr / 2 ^ 32 * 2 ^ 32 + v % 2 ^ 32 }
    | 0x804 => s.setView ag fun w => { w with ptr := w.ptr % 2 ^ 32 + 2 ^ 32 * (v % 2 ^ 32) }
    | 0x808 => s.mbxSend ag (bits v 21 16) (s.view ag).ptr (bits v 15 0) (bits v 23 22) (bits v 31 24)
    | 0x810 => s.setView ag fun w => { w with dst := w.dst / 2 ^ 32 * 2 ^ 32 + v % 2 ^ 32 }
    | 0x814 => s.setView ag fun w => { w with dst := w.dst % 2 ^ 32 + 2 ^ 32 * (v % 2 ^ 32) }
    | 0x818 => s.mbxFetch ag v
    | 0x820 => s.setView ag fun w => { w with swAddr := v % 1048576 / 4 * 4 }
    | 0x824 => s.swAccess ag true v
    | _ => s

/-- A write of the MBX window (R319, R320). (DEDUCED, log 11.) -/
def State.mbxWrite (s : State) (ag : Agent) (off v : Nat) : State :=
  if off < 0x1000 then s.viewWrite ag off v
  else if ag ≠ .pf then s
  else if within off 0x1000 0x1100 then s.mbxOwnWrite ((off - 0x1000) / 4) (v % 256)
  else s.wordWrite ag (0x300000 + off) v

/-- A write of the ADM window, which is the PF's alone (R330). -/
def State.admWriteReg (s : State) (ag : Agent) (off v : Nat) : State :=
  if ag ≠ .pf then s else
  match off with
  | 0x00 => s.ringField .asq Reg.ADM_SQ_BASE_LO 0 v
  | 0x04 => s.ringField .asq Reg.ADM_SQ_BASE_HI 0 v
  | 0x08 => s.ringCtl ag .asq 0 v
  | 0x0C => s.doorbell 0 .asq 0 v 32 false
  | 0x10 => s.ringField .acq Reg.ADM_CQ_BASE_LO 0 v
  | 0x14 => s.ringField .acq Reg.ADM_CQ_BASE_HI 0 v
  | 0x18 => s.ringCtl ag .acq 0 v
  | 0x1C => s.doorbell 0 .acq 0 v 32 false
  | _ => s.wordWrite ag (0x310000 + off) v

/-- The FW window: the PF's, but for the heartbeat. ALLOW_UNTESTED takes writes in PROVISIONED alone (R344). (DEDUCED, log 11.) -/
def State.fwWrite (s : State) (ag : Agent) (off v : Nat) : State :=
  match ag with
  | .fw _ => if off = 0x10 then s.heartbeat (v % 65536) else s
  | .pf =>
    match off with
    | 0x004 =>
      let s := s.wr Reg.FW_CTL_TRIAL_MIN v
      if s.rd Reg.FW_LC_STATE = 1 then s.wr Reg.FW_CTL_ALLOW_UNTESTED (bit v 11) else s
    | 0x104 => s.lcArm v
    | _ => s.wordWrite ag (0x320000 + off) v
  | _ => s

/-- A write of the PWR window (R382). (DEDUCED, log 11.) -/
def State.pwrWrite (s : State) (ag : Agent) (off v : Nat) : State :=
  if off = 0x20 then (s.askCold ag v).askWarm ag v else s.wordWrite ag (0x010000 + off) v

/-! ### The windows -/

/-- A write through the PF's or firmware's port. (DEDUCED, log 11.) -/
def State.winWrite (s : State) (ag : Agent) (a v : Nat) : State :=
  let off := a % 65536
  if a % 4 ≠ 0 then s else
  match a / 65536 with
  | 0x01 => s.pwrWrite ag off v
  | 0x04 => if off = 0 then s.actCtl .a v else if off = 0x1000 then s.actCtl .b v else s.wordWrite ag a v
  | 0x05 => if off = 0 then s.hgCtl .a v else if off = 0x1000 then s.hgCtl .b v else s.wordWrite ag a v
  | 0x06 => s.timeWrite ag off v
  | 0x07 => s.tevWrite ag off v
  | 0x08 => s.uschWrite ag off v
  | 0x09 => s.stblWriteReg ag off v
  | 0x0A => s.clsWrite ag off v
  | 0x0B => s.ciphWrite ag off v
  | 0x0C => s.sluWrite ag off v
  | 0x0D => s.protWrite ag off v
  | 0x0E => s.pmWrite ag off v
  | 0x0F => s.optWrite ag off v
  | 0x30 => s.mbxWrite ag off v
  | 0x31 => s.admWriteReg ag off v
  | 0x32 => s.fwWrite ag off v
  | w => if 0x10 ≤ w ∧ w ≤ 0x2F then s.hifWrite ag a v else s.wordWrite ag a v

/-! ### The BAR of a VF (R284) -/

/-- A lane index: an owned lane's writable one; a lane of another is discarded and logged. (DESIGN CHOICE, log 13.) -/
def State.vfLane (s : State) (n a v : Nat) : State :=
  let up := a ≥ 0xA800
  let l := (if up then a - 0xA800 else a - 0xA000) / 8
  if s.rd (if up then Reg.SLU_ULANE_CTL_OWNER else Reg.SLU_DLANE_CTL_OWNER) 0 l ≠ n then s.errLog n 7 0 0 v
  else if up then (if a % 8 = 0 then s.wr Reg.SLU_ULANE_PROD v 0 l else s)
  else if a % 8 = 4 then s.wr Reg.SLU_DLANE_CONS v 0 l else s

/-- A write through a VF's BAR (R284). (DESIGN CHOICE, log 13.) -/
def State.vfWrite (s : State) (n a v : Nat) : State :=
  if a % 4 ≠ 0 then s
  else if a < 0x4000 then s.doorbell n .tx (a / 8) v 32 (a % 8 == 4)
  else if a < 0x5000 then s.doorbell n .rx ((a - 0x4000) / 8) v 32 (a % 8 == 4)
  else if a < 0x5400 then s.doorbell n .cq ((a - 0x5000) / 8) v 32 (a % 8 == 4)
  else if a < 0x5500 then s.doorbell n .eq ((a - 0x5400) / 8) v 32 (a % 8 == 4)
  else if a = 0x6000 then { s with host := { s.host with rsel := Tab.put 0 n (v % 2 ^ 18) s.host.rsel } }
  else if within a 0x6020 0x6040 then
    match s.selected n with
    | some (kind, g) => s.ringWrite (.vf n) kind g (a - 0x6020) v
    | none => s
  else if within a 0x8000 0x9000 then s.viewWrite (.vf n) (a - 0x8000) v
  else if isLaneAddr a then s.vfLane n a v
  else if within a 0xC000 0xC0F0 then s.msixWrite n ((a - 0xC000) / 4) v
  else s

/-- A write through the PF's BAR2, by its offset (R283): a doorbell or a word of the MSI-X table. -/
def State.bar2Write (s : State) (a v : Nat) : State :=
  if a % 4 ≠ 0 then s
  else if a < 0x10000 then s.doorbell 0 .tx (a / 8) v 32 (a % 8 == 4)
  else if a < 0x18000 then s.doorbell 0 .rx ((a - 0x10000) / 8) v 32 (a % 8 == 4)
  else if a < 0x1A000 then s.doorbell 0 .cq ((a - 0x18000) / 8) v 32 (a % 8 == 4)
  else if a < 0x1A800 then s.doorbell 0 .eq ((a - 0x1A000) / 8) v 32 (a % 8 == 4)
  else if within a 0x1C000 0x1C800 then s.msixWrite 0 ((a - 0x1C000) / 4) v
  else s

/-! ### The commands -/

/-- A write by an agent; an access of the host to a gated block ends idle first (R367). The BMC has no path to the windows. (DEDUCED, log 11.) -/
def State.regWrite (s : State) (ag : Agent) (a v : Nat) : State :=
  match ag with
  | .pf => if inBar2 a then s.bar2Write (a - 0x400000) v else (if gatedBlock a then s.idleExit 11 else s).winWrite .pf a v
  | .fw c => s.winWrite (.fw c) a v
  | .vf n => if 1 ≤ n ∧ n ≤ 128 then s.vfWrite n a v else s
  | .bmc => s

def execRegisterWrite (ag : Agent) (addr : Nat) (v : BitVec 32) (s : State) : Out :=
  .next <| s.barred ag true fun s => s.regWrite ag addr v.toNat

/-- BAR_ACCESS: an access that is not a single aligned DWORD with all its bytes enabled (R407). (DESIGN CHOICE, log 61.) -/
def State.barAccess (s : State) (f : Nat) (write : Bool) (v : Nat) : State :=
  if f > 128 then s
  else if write then s.errLog f 7 0 0 v
  else (s.errLog f 7 0 0 0).emit (.regRead 0 0)

def execBarAccess (f : Nat) (write : Bool) (v : BitVec 64) (s : State) : Out :=
  .next <| s.barred (if f = 0 then .pf else .vf f) write fun s => s.barAccess f write v.toNat

end Sys2Proof.Machine
end

