-- ==== Sys2Proof/Machine/Dispatch.lean ====
section
/-! DEFINITION. One arm per command of the table, each a direct call of its meaning. -/

namespace Sys2Proof.Machine

def exec (i : Instr) (s : State) : Host.Outcome State Fault Refusal :=
  match i with
  | .syncCandidate l w raw ofs => Sys2Proof.Machine.execSyncCandidate l w raw ofs s
  | .delineationMarker l w raw hdr rel words ofs => Sys2Proof.Machine.execDelineationMarker l w raw hdr rel words ofs s
  | .codewordDecode l w idx corr ok => Sys2Proof.Machine.execCodewordDecode l w idx corr ok s
  | .partitionHeader l word => Sys2Proof.Machine.execPartitionHeader l word s
  | .todAnnouncement l word => Sys2Proof.Machine.execTodAnnouncement l word s
  | .allocationStructure l word => Sys2Proof.Machine.execAllocationStructure l word s
  | .sluiceRegion l slots crc => Sys2Proof.Machine.execSluiceRegion l slots crc s
  | .channelFrame l w off hdr payload next ecc => Sys2Proof.Machine.execChannelFrame l w off hdr payload next ecc s
  | .frameDelivery ring ecc => Sys2Proof.Machine.execFrameDelivery ring ecc s
  | .burstProfile l msg => Sys2Proof.Machine.execBurstProfile l msg s
  | .profileEffective l p => Sys2Proof.Machine.execProfileEffective l p s
  | .assignTn l msg => Sys2Proof.Machine.execAssignTn l msg s
  | .eqdSet l msg => Sys2Proof.Machine.execEqdSet l msg s
  | .eqdApply l => Sys2Proof.Machine.execEqdApply l s
  | .container l msg => Sys2Proof.Machine.execContainer l msg s
  | .containerEffective l slot => Sys2Proof.Machine.execContainerEffective l slot s
  | .deactivate l msg => Sys2Proof.Machine.execDeactivate l msg s
  | .emergencyStop l msg => Sys2Proof.Machine.execEmergencyStop l msg s
  | .rogueRelease l msg => Sys2Proof.Machine.execRogueRelease l msg s
  | .allocRevise l msg => Sys2Proof.Machine.execAllocRevise l msg s
  | .keepRanged l msg => Sys2Proof.Machine.execKeepRanged l msg s
  | .keyExchange l msg => Sys2Proof.Machine.execKeyExchange l msg s
  | .keySwitch l msg => Sys2Proof.Machine.execKeySwitch l msg s
  | .keySwitchUpEffective l => Sys2Proof.Machine.execKeySwitchUpEffective l s
  | .keySwitchDnEffective l => Sys2Proof.Machine.execKeySwitchDnEffective l s
  | .generationErase l up => Sys2Proof.Machine.execGenerationErase l up s
  | .sleep l msg => Sys2Proof.Machine.execSleep l msg s
  | .protSwitch l msg => Sys2Proof.Machine.execProtSwitch l msg s
  | .response l msg => Sys2Proof.Machine.execResponse l msg s
  | .msgUnknown l msg => Sys2Proof.Machine.execMsgUnknown l msg s
  | .requestRetryTimer txid => Sys2Proof.Machine.execRequestRetryTimer txid s
  | .actCtlWrite ag l v => Sys2Proof.Machine.execActCtlWrite ag l v s
  | .registrationTimeout l => Sys2Proof.Machine.execRegistrationTimeout l s
  | .rangingTimeout l => Sys2Proof.Machine.execRangingTimeout l s
  | .rangeMiss l => Sys2Proof.Machine.execRangeMiss l s
  | .wakeAttemptTimeout l => Sys2Proof.Machine.execWakeAttemptTimeout l s
  | .upstreamFrameStart l sfc fn => Sys2Proof.Machine.execUpstreamFrameStart l sfc fn s
  | .lanePowerUp l u => Sys2Proof.Machine.execLanePowerUp l u s
  | .windowOpen l u start => Sys2Proof.Machine.execWindowOpen l u start s
  | .windowEnd l u light => Sys2Proof.Machine.execWindowEnd l u light s
  | .rogueLatch l u samples => Sys2Proof.Machine.execRogueLatch l u samples s
  | .hgCtlWrite ag l v => Sys2Proof.Machine.execHgCtlWrite ag l v s
  | .limiterStep => Sys2Proof.Machine.execLimiterStep s
  | .servoUpdate => Sys2Proof.Machine.execServoUpdate s
  | .qualityEvaluate => Sys2Proof.Machine.execQualityEvaluate s
  | .todMissing l => Sys2Proof.Machine.execTodMissing l s
  | .holdoverBoundAdvance => Sys2Proof.Machine.execHoldoverBoundAdvance s
  | .incrHoUpdate incrF yref y0 => Sys2Proof.Machine.execIncrHoUpdate incrF yref y0 s
  | .dispersionFit l => Sys2Proof.Machine.execDispersionFit l s
  | .laserLowConf l => Sys2Proof.Machine.execLaserLowConf l s
  | .laserConfRestored l => Sys2Proof.Machine.execLaserConfRestored l s
  | .timeVote c0 c1 c2 i0 i1 i2 => Sys2Proof.Machine.execTimeVote c0 c1 c2 i0 i1 i2 s
  | .timeSnap ag => Sys2Proof.Machine.execTimeSnap ag s
  | .timeApply ag mode => Sys2Proof.Machine.execTimeApply ag mode s
  | .timeCancel ag => Sys2Proof.Machine.execTimeCancel ag s
  | .applyTick => Sys2Proof.Machine.execApplyTick s
  | .timeStageWrite ag off v => Sys2Proof.Machine.execTimeStageWrite ag off v s
  | .tevArm n => Sys2Proof.Machine.execTevArm n s
  | .tevDisarm n => Sys2Proof.Machine.execTevDisarm n s
  | .tevConfigWrite n off v => Sys2Proof.Machine.execTevConfigWrite n off v s
  | .tevFire n => Sys2Proof.Machine.execTevFire n s
  | .tevPulseEnd n => Sys2Proof.Machine.execTevPulseEnd n s
  | .ppsOutPulse => Sys2Proof.Machine.execPpsOutPulse s
  | .ppsPulseEnd => Sys2Proof.Machine.execPpsPulseEnd s
  | .tcapEdge n rising widthPs wide fine => Sys2Proof.Machine.execTcapEdge n rising widthPs wide fine s
  | .tcapHeadPop n => Sys2Proof.Machine.execTcapHeadPop n s
  | .ptmAutoTimer => Sys2Proof.Machine.execPtmAutoTimer s
  | .ptmTrigger => Sys2Proof.Machine.execPtmTrigger s
  | .ptmResponse master pdelay => Sys2Proof.Machine.execPtmResponse master pdelay s
  | .ptmTimeout => Sys2Proof.Machine.execPtmTimeout s
  | .latchedRead ag addr => Sys2Proof.Machine.execLatchedRead ag addr s
  | .doorbell f kind k v width hi => Sys2Proof.Machine.execDoorbell f kind k v width hi s
  | .descriptorFetch kind ring data => Sys2Proof.Machine.execDescriptorFetch kind ring data s
  | .hostReadCompletion tag mine bytes lenOk good => Sys2Proof.Machine.execHostReadCompletion tag mine bytes lenOk good s
  | .completionTimeout tag => Sys2Proof.Machine.execCompletionTimeout tag s
  | .tokenRefill => Sys2Proof.Machine.execTokenRefill s
  | .burstBuild l u start mem failed ecc => Sys2Proof.Machine.execBurstBuild l u start mem failed ecc s
  | .buildDeadline l u start finished => Sys2Proof.Machine.execBuildDeadline l u start finished s
  | .fallbackEnd slot => Sys2Proof.Machine.execFallbackEnd slot s
  | .uschReset ag => Sys2Proof.Machine.execUschReset ag s
  | .uschResetDone => Sys2Proof.Machine.execUschResetDone s
  | .queueRead ag => Sys2Proof.Machine.execQueueRead ag s
  | .queueWrite ag => Sys2Proof.Machine.execQueueWrite ag s
  | .resetBuckets ag => Sys2Proof.Machine.execResetBuckets ag s
  | .containerSlotWrite ag slot off v => Sys2Proof.Machine.execContainerSlotWrite ag slot off v s
  | .uschAuditSnap ag v => Sys2Proof.Machine.execUschAuditSnap ag v s
  | .stblRead ag view => Sys2Proof.Machine.execStblRead ag view s
  | .stblWrite ag stage => Sys2Proof.Machine.execStblWrite ag stage s
  | .stblInvalidate ag stage => Sys2Proof.Machine.execStblInvalidate ag stage s
  | .compareAndWrite ag stage => Sys2Proof.Machine.execCompareAndWrite ag stage s
  | .stblCmdDone ag => Sys2Proof.Machine.execStblCmdDone ag s
  | .learnHoldExpiry sid => Sys2Proof.Machine.execLearnHoldExpiry sid s
  | .learnRearm ag => Sys2Proof.Machine.execLearnRearm ag s
  | .statLatch ag idx => Sys2Proof.Machine.execStatLatch ag idx s
  | .readNode ag => Sys2Proof.Machine.execReadNode ag s
  | .writeNode ag => Sys2Proof.Machine.execWriteNode ag s
  | .readRoot ag => Sys2Proof.Machine.execReadRoot ag s
  | .writeRoot ag => Sys2Proof.Machine.execWriteRoot ag s
  | .readProf ag => Sys2Proof.Machine.execReadProf ag s
  | .writeProf ag => Sys2Proof.Machine.execWriteProf ag s
  | .clsCmdDone ag => Sys2Proof.Machine.execClsCmdDone ag s
  | .commitOpen ag => Sys2Proof.Machine.execCommitOpen ag s
  | .commit ag version => Sys2Proof.Machine.execCommit ag version s
  | .commitCancel ag => Sys2Proof.Machine.execCommitCancel ag s
  | .commitEffective => Sys2Proof.Machine.execCommitEffective s
  | .drainDone => Sys2Proof.Machine.execDrainDone s
  | .versionExpired => Sys2Proof.Machine.execVersionExpired s
  | .pipelineCompare differ => Sys2Proof.Machine.execPipelineCompare differ s
  | .lookasideRequest ring src => Sys2Proof.Machine.execLookasideRequest ring src s
  | .lookasideDone ring => Sys2Proof.Machine.execLookasideDone ring s
  | .query ag => Sys2Proof.Machine.execQuery ag s
  | .slotRead ag => Sys2Proof.Machine.execSlotRead ag s
  | .slotErase ag => Sys2Proof.Machine.execSlotErase ag s
  | .slotCmdDone ag => Sys2Proof.Machine.execSlotCmdDone ag s
  | .keyRefresh ag mask => Sys2Proof.Machine.execKeyRefresh ag mask s
  | .ciphLock ag => Sys2Proof.Machine.execCiphLock ag s
  | .rngFail => Sys2Proof.Machine.execRngFail s
  | .rngRecover => Sys2Proof.Machine.execRngRecover s
  | .sluiceRecordWrite lane => Sys2Proof.Machine.execSluiceRecordWrite lane s
  | .sluiceRecordRead lane sfc fn data => Sys2Proof.Machine.execSluiceRecordRead lane sfc fn data s
  | .swapRequest ag v => Sys2Proof.Machine.execSwapRequest ag v s
  | .swapCancel ag => Sys2Proof.Machine.execSwapCancel ag s
  | .swapEffective up => Sys2Proof.Machine.execSwapEffective up s
  | .cmRead ag up active => Sys2Proof.Machine.execCmRead ag up active s
  | .cmWrite ag up => Sys2Proof.Machine.execCmWrite ag up s
  | .cmCopy ag up => Sys2Proof.Machine.execCmCopy ag up s
  | .cmClear ag up => Sys2Proof.Machine.execCmClear ag up s
  | .cmCmdDone ag => Sys2Proof.Machine.execCmCmdDone ag s
  | .losDeclare l w => Sys2Proof.Machine.execLosDeclare l w s
  | .losClear l w => Sys2Proof.Machine.execLosClear l w s
  | .sfEvaluate l w => Sys2Proof.Machine.execSfEvaluate l w s
  | .holdoffExpiry => Sys2Proof.Machine.execHoldoffExpiry s
  | .clear => Sys2Proof.Machine.execClear s
  | .forced l => Sys2Proof.Machine.execForced l s
  | .manual l => Sys2Proof.Machine.execManual l s
  | .fwForced l => Sys2Proof.Machine.execFwForced l s
  | .switchDone => Sys2Proof.Machine.execSwitchDone s
  | .wtrExpiry => Sys2Proof.Machine.execWtrExpiry s
  | .pmSecond => Sys2Proof.Machine.execPmSecond s
  | .pmSecondCommit => Sys2Proof.Machine.execPmSecondCommit s
  | .binRoll => Sys2Proof.Machine.execBinRoll s
  | .pmBinLatch ag v => Sys2Proof.Machine.execPmBinLatch ag v s
  | .pmTestWrite ag l v => Sys2Proof.Machine.execPmTestWrite ag l v s
  | .linkDown => Sys2Proof.Machine.execLinkDown s
  | .linkTrained rate width => Sys2Proof.Machine.execLinkTrained rate width s
  | .resume ag => Sys2Proof.Machine.execResume ag s
  | .discard ag => Sys2Proof.Machine.execDiscard ag s
  | .linkHoldExpired => Sys2Proof.Machine.execLinkHoldExpired s
  | .bmeSet f => Sys2Proof.Machine.execBmeSet f s
  | .ringEnable ag kind ring v => Sys2Proof.Machine.execRingEnable ag kind ring v s
  | .ringDisable ag kind ring v => Sys2Proof.Machine.execRingDisable ag kind ring v s
  | .flush ag q => Sys2Proof.Machine.execFlush ag q s
  | .flushDone q => Sys2Proof.Machine.execFlushDone q s
  | .completionWrite cq => Sys2Proof.Machine.execCompletionWrite cq s
  | .msixModerationTimer kind ring => Sys2Proof.Machine.execMsixModerationTimer kind ring s
  | .rxStarved ring => Sys2Proof.Machine.execRxStarved ring s
  | .replay ag v => Sys2Proof.Machine.execReplay ag v s
  | .vfFlr f => Sys2Proof.Machine.execVfFlr f s
  | .pfFlr => Sys2Proof.Machine.execPfFlr s
  | .flrDone f => Sys2Proof.Machine.execFlrDone f s
  | .hifAuditCheck => Sys2Proof.Machine.execHifAuditCheck s
  | .hifAuditSnap ag v => Sys2Proof.Machine.execHifAuditSnap ag v s
  | .evtLogPop ag => Sys2Proof.Machine.execEvtLogPop ag s
  | .errlogPop f => Sys2Proof.Machine.execErrlogPop f s
  | .barAccess f write v => Sys2Proof.Machine.execBarAccess f write v s
  | .mbxSend ag v => Sys2Proof.Machine.execMbxSend ag v s
  | .mbxStatusRead ag n => Sys2Proof.Machine.execMbxStatusRead ag n s
  | .mbxAck ag n seq => Sys2Proof.Machine.execMbxAck ag n seq s
  | .mbxFetch ag v => Sys2Proof.Machine.execMbxFetch ag v s
  | .mbxFetchDone ag result => Sys2Proof.Machine.execMbxFetchDone ag result s
  | .mbxSwAccess ag write v => Sys2Proof.Machine.execMbxSwAccess ag write v s
  | .mbxOwnerWrite ag n owner => Sys2Proof.Machine.execMbxOwnerWrite ag n owner s
  | .mctpMbxSend n off len => Sys2Proof.Machine.execMctpMbxSend n off len s
  | .mctpMbxRead n => Sys2Proof.Machine.execMctpMbxRead n s
  | .mctpMbxAck n seq => Sys2Proof.Machine.execMctpMbxAck n seq s
  | .swWrite off data => Sys2Proof.Machine.execSwWrite off data s
  | .swRead off len => Sys2Proof.Machine.execSwRead off len s
  | .nop e => Sys2Proof.Machine.execNop e s
  | .identify e => Sys2Proof.Machine.execIdentify e s
  | .queryOp e => Sys2Proof.Machine.execQueryOp e s
  | .suspend e => Sys2Proof.Machine.execSuspend e s
  | .resumeOp e => Sys2Proof.Machine.execResumeOp e s
  | .cancel e => Sys2Proof.Machine.execCancel e s
  | .settingsSave e => Sys2Proof.Machine.execSettingsSave e s
  | .keyLoadCmd e key => Sys2Proof.Machine.execKeyLoadCmd e key s
  | .keyErase e => Sys2Proof.Machine.execKeyErase e s
  | .fwActivate e => Sys2Proof.Machine.execFwActivate e s
  | .fwConfirm e => Sys2Proof.Machine.execFwConfirm e s
  | .lcTransition e => Sys2Proof.Machine.execLcTransition e s
  | .cosignEnrol e key => Sys2Proof.Machine.execCosignEnrol e key s
  | .fwDownload e hdr => Sys2Proof.Machine.execFwDownload e hdr s
  | .fwVerify e => Sys2Proof.Machine.execFwVerify e s
  | .scrubFull e => Sys2Proof.Machine.execScrubFull e s
  | .tableBulkLoad e => Sys2Proof.Machine.execTableBulkLoad e s
  | .dispersionSweep e => Sys2Proof.Machine.execDispersionSweep e s
  | .laserCharacterise e => Sys2Proof.Machine.execLaserCharacterise e s
  | .selfTest e => Sys2Proof.Machine.execSelfTest e s
  | .pmExport e => Sys2Proof.Machine.execPmExport e s
  | .longOpProgress h work => Sys2Proof.Machine.execLongOpProgress h work s
  | .longOpSafePoint h => Sys2Proof.Machine.execLongOpSafePoint h s
  | .longOpComplete h fin => Sys2Proof.Machine.execLongOpComplete h fin s
  | .suspendTimeout h => Sys2Proof.Machine.execSuspendTimeout h s
  | .heartbeat v => Sys2Proof.Machine.execHeartbeat v s
  | .hbLost => Sys2Proof.Machine.execHbLost s
  | .autopilotExpired => Sys2Proof.Machine.execAutopilotExpired s
  | .firstHeartbeatLate => Sys2Proof.Machine.execFirstHeartbeatLate s
  | .plannedAbsence => Sys2Proof.Machine.execPlannedAbsence s
  | .microcodeBankSwitch l => Sys2Proof.Machine.execMicrocodeBankSwitch l s
  | .trialWindowExpiry => Sys2Proof.Machine.execTrialWindowExpiry s
  | .lcArm ag v => Sys2Proof.Machine.execLcArm ag v s
  | .idleEnter => Sys2Proof.Machine.execIdleEnter s
  | .perstAssert => Sys2Proof.Machine.execPerstAssert s
  | .perstDeassert => Sys2Proof.Machine.execPerstDeassert s
  | .bmcPowerRequest target => Sys2Proof.Machine.execBmcPowerRequest target s
  | .sleepStart => Sys2Proof.Machine.execSleepStart s
  | .awakeStart => Sys2Proof.Machine.execAwakeStart s
  | .dozeStart => Sys2Proof.Machine.execDozeStart s
  | .sleepEnded code => Sys2Proof.Machine.execSleepEnded code s
  | .sleepRetry => Sys2Proof.Machine.execSleepRetry s
  | .wakeIn => Sys2Proof.Machine.execWakeIn s
  | .aonTimer => Sys2Proof.Machine.execAonTimer s
  | .modulePresence l present => Sys2Proof.Machine.execModulePresence l present s
  | .deepSleepEntry => Sys2Proof.Machine.execDeepSleepEntry s
  | .deepSleepExit ticks crcOk => Sys2Proof.Machine.execDeepSleepExit ticks crcOk s
  | .brownOut => Sys2Proof.Machine.execBrownOut s
  | .pwrGoodRise boot => Sys2Proof.Machine.execPwrGoodRise boot s
  | .pwrGoodFall => Sys2Proof.Machine.execPwrGoodFall s
  | .cold ag v => Sys2Proof.Machine.execCold ag v s
  | .warm ag v => Sys2Proof.Machine.execWarm ag v s
  | .refLoss => Sys2Proof.Machine.execRefLoss s
  | .refRestored => Sys2Proof.Machine.execRefRestored s
  | .bringupStart ag l v => Sys2Proof.Machine.execBringupStart ag l v s
  | .bringupAttemptFail l => Sys2Proof.Machine.execBringupAttemptFail l s
  | .bringupRetry l => Sys2Proof.Machine.execBringupRetry l s
  | .slipWrite ag l w slip => Sys2Proof.Machine.execSlipWrite ag l w slip s
  | .rehunt ag l mask => Sys2Proof.Machine.execRehunt ag l mask s
  | .safetyPoll l ack txFault ready duringTelem => Sys2Proof.Machine.execSafetyPoll l ack txFault ready duringTelem s
  | .moduleInterrupt l => Sys2Proof.Machine.execModuleInterrupt l s
  | .telemetryRead l t => Sys2Proof.Machine.execTelemetryRead l t s
  | .rxovl l w clipped => Sys2Proof.Machine.execRxovl l w clipped s
  | .lifeRecordWrite l acked => Sys2Proof.Machine.execLifeRecordWrite l acked s
  | .biasSample l => Sys2Proof.Machine.execBiasSample l s
  | .scrubVisit inst row err table idx => Sys2Proof.Machine.execScrubVisit inst row err table idx s
  | .registerWrite ag addr v => Sys2Proof.Machine.execRegisterWrite ag addr v s
  | .timeTick => Sys2Proof.Machine.execTimeTick s
  | .msgCrcErr l msg => Sys2Proof.Machine.execMsgCrcErr l msg s
  | .cdrLock l w => Sys2Proof.Machine.execCdrLock l w s
  | .moduleIdentityRead l id => Sys2Proof.Machine.execModuleIdentityRead l id s
  | .railLoss rail => Sys2Proof.Machine.execRailLoss rail s
  | .configurationWrite f item v => Sys2Proof.Machine.execConfigurationWrite f item v s
  | .unsupportedRequest f kind => Sys2Proof.Machine.execUnsupportedRequest f kind s
  | .registerAccess ag addr => Sys2Proof.Machine.execRegisterAccess ag addr s
  | .activateWarmReset => Sys2Proof.Machine.execActivateWarmReset s
  | .xt32kStable => Sys2Proof.Machine.execXt32kStable s

end Sys2Proof.Machine
end

