-- ==== Sys2Proof/Safety.lean ====
section
/-! DEFINITION. What a safe state of this block is, in the terms the claims use. -/

namespace Sys2Proof.Machine

/-- The stores that hold numbers by key (register fields, firmware's own instances, the shared window) are in their canonical form:
keys strictly rising, nothing listed that equals what an unlisted key reads. So equal contents are equal data. -/
structure Canon (s : State) : Prop where
  regs : Tab.wf 0 s.regs = true
  fwRegs : Tab.wf 0 s.fwRegs = true
  sw : Tab.wf 0 s.mbx.sw = true

/-- The logs and the receive queue hold no more than the manual gives them: 4,096 events (R315), 64 errors a function (R316), 256
frames (R196). -/
structure Bounded (h : HostSt) : Prop where
  log : h.log.length ≤ 4096
  errs : ∀ p ∈ h.errs, p.2.length ≤ 64
  fwQueue : h.fwQueue.length ≤ 256

/-- A field of the register map: one of the rows of the Regs files. -/
def Row.inMap (R : Row) : Bool := (windowRows R.addr).elem R

/-- A copy of a field that exists: fields of two legs have legs 0 and 1, the others one. -/
def Row.copy (R : Row) (l i : Nat) : Prop := i < R.n ∧ (l < 2 ∨ R.legStride = 0)

/-- Every field of the register map but the rows named reads as before. -/
def RegsBut (rows : List Row) (s t : State) : Prop :=
  ∀ R l i, Row.inMap R = true → R ∉ rows → Row.copy R l i → t.rd R l i = s.rd R l i

/-- The invariant that every command keeps. -/
structure Inv (s : State) : Prop where
  canon : Canon s
  bounded : Bounded s.host

/-! ### What a command leaves as it was -/

/-- The parts of State beside the register fields. `out` takes in the MSI-X tables and pending bits, through which messages leave. -/
inductive Part where
  | fwRegs | latches | legA | legB | time | timers | slots | bursts | ledger | seqs | host | classifier | cipher | sluice
  | protection | monitor | mailboxes | admin | firmware | power | memory | requests | txid | freeIdx | out
deriving DecidableEq, Repr

/-- A part is the same in both states. -/
def Part.same (s t : State) : Part → Prop
  | .fwRegs => t.fwRegs = s.fwRegs
  | .latches => t.latches = s.latches
  | .legA => t.la = s.la
  | .legB => t.lb = s.lb
  | .time => t.time = s.time
  | .timers => t.tev = s.tev
  | .slots => t.slots = s.slots
  | .bursts => t.bursts = s.bursts
  | .ledger => t.led = s.led
  | .seqs => t.seqs = s.seqs
  | .host => t.host = s.host
  | .classifier => t.cls = s.cls
  | .cipher => t.ciph = s.ciph
  | .sluice => t.slu = s.slu
  | .protection => t.prot = s.prot
  | .monitor => t.pm = s.pm
  | .mailboxes => t.mbx = s.mbx
  | .admin => t.adm = s.adm
  | .firmware => t.fw = s.fw
  | .power => t.pwr = s.pwr
  | .memory => t.mem = s.mem
  | .requests => t.reqs = s.reqs
  | .txid => t.txid = s.txid
  | .freeIdx => t.freeIdx = s.freeIdx
  | .out => t.out = s.out ∧ t.msi = s.msi

/-- Every part but those named is the same, and so is the queue. -/
def PartsBut (parts : List Part) (s t : State) : Prop := (∀ p : Part, p ∉ parts → Part.same s t p) ∧ t.pending = s.pending

/-- Every register field but the rows named, every part but those named, and the queue are as before. -/
def Unchanged (rows : List Row) (parts : List Part) (s t : State) : Prop := RegsBut rows s t ∧ PartsBut parts s t

/-! ### What the statements say of a state -/

/-- The commands that a cold reset, or the loss of the part's power, can be a part of (R383, R385, R377, R378). -/
def mayLosePower : Instr → Bool
  | .cold _ _ => true
  | .brownOut => true
  | .wakeIn => true
  | .pwrGoodRise _ => true
  | .pwrGoodFall => true
  | .deepSleepEntry => true
  | .deepSleepExit _ _ => true
  | .registerWrite .pf addr _ => addr == 0x010020
  | _ => false

/-- A counter field has advanced by n, at its own width (R415). -/
abbrev Counted (R : Row) (l i n : Nat) (s t : State) : Prop := t.rd R l i % 2 ^ R.width = (s.rd R l i + n) % 2 ^ R.width

/-- What the allocation of a RANGE structure of D0 becomes: two frames later, under the profile and slot of its superframe (R40, R57). -/
def rangeAlloc (s : State) (l : Leg) (w : Nat) : Alloc :=
  let key := s.d0Key l + 2
  { sfc := key / 8, fn := key % 8, id := bits w 63 50, wave := bit w 49, start := bits w 48 32, len := bits w 31 15, typ := bits w 14 13,
    prof := s.profAt l (bits w 12 11) (key / 8), kind := .range, slot := (s.slotFor l (bits w 63 50) (key / 8)).getD 0 }

/-- A message that the terminal acts on: of the type, with a right check, for it, and not taken before (R63, R64, R67). -/
def State.takes (s : State) (l : Leg) (typ : Nat) (m : BitVec 384) (serialAt : Bool) (frag : Nat) : Bool :=
  msgType m == typ && mcrcOk m && s.addressed l m serialAt && (s.dupOf l typ (msgTxid m) frag).isNone

/-- A message stands in its place of the present D0 frame: a partition header that passed announced it (R36, R38). -/
abbrev Hears (s : State) (l : Leg) : Prop := (s.leg l).partOk = true ∧ (s.leg l).nmsg ≠ 0

/-- The profile that a BURST_PROFILE carries (R69). -/
def profOf (m : BitVec 384) : Prof :=
  { waves := mfield m 7 1 % 4, preGrains := mfield m 8 1, prePat := bit (mfield m 9 1) 7, dlmGrains := mfield m 9 1 % 4,
    dlmWord := mfield m 10 8, valid := true }

/-- The ACK of a message stands last in the leg's list. -/
abbrev Acked (l : Leg) (m : BitVec 384) (typ status : Nat) (s t : State) : Prop :=
  (t.leg l).acks = (s.leg l).acks ++ [mkMsg 0x81 (msgTxid m) [BitVec.ofNat 8 status, BitVec.ofNat 8 typ]]

/-- The drop counter of a leg (R207). -/
def spillRow : Leg → Row
  | .a => Reg.STBL_SPILL_A_DROPS
  | .b => Reg.STBL_SPILL_B_DROPS

/-- One drop of a leg is counted under a cause (R207). -/
abbrev Dropped (l : Leg) (cause : Nat) (s t : State) : Prop := Counted (spillRow l) 0 cause 1 s t

/-- A channel frame that a leaf sends to ring `f.ring` of its stream's group, as it enters the packet buffer (R177, R195, R199). -/
def plainFrame (s : State) (l : Leg) (w h e : Nat) (f : Leaf) (data : List Byte) : BufFrame :=
  let tags := poppedTags (bits e 42 39) data
  { ring := 0, mirror := if f.action = 3 || bit e 43 = 1 then some (s.rd Reg.STBL_EXC_CTL_MIRROR_RING) else none,
    mirrorAct := f.action == 3, func := bits e 9 2, grp := some (bits e 19 10, f.ring), data := data,
    ntag := tags.length, tci0 := tags.getD 0 0, tci1 := tags.getD 1 0, stream := hdrStream h,
    version := s.rd Reg.CLS_COMMIT_STATUS_CUR_VER, leg := l, wave := w, at40 := s.time.now40, gen := s.rd Reg.TIME_QUAL_GEN,
    qual := s.rd Reg.TIME_QUAL_QUALITY, bound := s.rd Reg.TIME_BOUND, replayed := false }

/-- A wave takes a channel frame at an offset now: it is in SYNC, its partitions are read, the terminal is neither asleep nor waking, and
the offset lies behind the partitions at a multiple of 8 (R36, R45, R51, R367, R371). -/
abbrev Reads (s : State) (l : Leg) (w off : Nat) : Prop :=
  (s.wave l w).deln = .sync ∧ (w ≠ 0 ∨ (s.leg l).partOk = true) ∧ s.rd Reg.PWR_STATUS_STATE < 2 ∧ s.chanBase l w ≤ off ∧ off % 8 = 0

/-- A header that stands: right HEC, no rejection, SEQ in order (R45, R50). -/
abbrev Stands (s : State) (l : Leg) (w off : Nat) (h : Nat) : Prop :=
  hecOk h = true ∧ hdrBad off h = false ∧ (s.wave l w).seqBad h = false

/-- The admin completion ring can take an entry now (R330). -/
def State.admCan (s : State) : Bool :=
  s.isOn Reg.ADM_CQ_CTL_CQ_EN && s.canDma 0 && sub16 (s.rd Reg.ADM_CQ_IDX_CQ_PROD) (s.rd Reg.ADM_CQ_IDX_CQ_CONS) < s.ringRoom .acq 0

/-- What writes an entry at the ring's next position, with its PHASE (R330). -/
def admWritten (s : State) (e : List Byte) : Output :=
  let prod := s.rd Reg.ADM_CQ_IDX_CQ_PROD
  let sz := s.ringBits .acq 0
  .hostWrite 0 (s.rd2 Reg.ADM_CQ_BASE_LO Reg.ADM_CQ_BASE_HI + 16 * (prod % 2 ^ sz)) false
    (e.take 2 ++ leBytes 1 (leNat (slice e 2 1) + (1 - (prod / 2 ^ sz) % 2)) ++ e.drop 3)

/-- A completion entry is written where the admin ring can take it, and waits where it cannot. -/
abbrev Completed (e : List Byte) (s t : State) : Prop :=
  (s.adm.cqWait = [] → s.admCan = true → admWritten s e ∈ t.out.drop s.out.length) ∧ (s.admCan = false → t.adm.cqWait = s.adm.cqWait ++ [e])

/-- A short command's FINAL entry. -/
abbrev Answered (e : List Byte) (status result : Nat) (s t : State) : Prop := Completed (admEntry (admCid e) true false status 0 0 result) s t

/-- A long operation has started in entry i of ADM_LOP: its opcode, RUNNING, its CID and parameters, and its STARTED entry (R331, R333). -/
abbrev Started (e : List Byte) (op i : Nat) (s t : State) : Prop :=
  t.opCode i = op ∧ t.opState i = 1 ∧ t.rd Reg.ADM_LOP1_CID 0 i = admCid e % 2 ^ Reg.ADM_LOP1_CID.width ∧ (t.op i).params = slice e 8 56 ∧
  Counted Reg.ADM_CNT_LONG_STARTED 0 0 1 s t ∧ Completed (admEntry (admCid e) false false 0 (t.rd Reg.ADM_LOP0_HANDLE 0 i) 0 0) s t

end Sys2Proof.Machine
end

