-- ==== Sys2Proof/Certificates/Slice0/Obligations.lean ====
section
/-! DEFINITION. The statements for the provers, each under the name that OBLIGATIONS.json lists. First the lists of register fields that
several frames share; then the statements, family by family in the order of the manual's chapters; the frames last. -/

open Sys2Proof Sys2Proof.Machine

namespace Sys2Proof.Machine

/-- The fields that the delivery of an event (R309 to R315) may write. -/
def eventRows : List Row :=
  [Reg.HIF_EQ_IDX_PROD, Reg.HIF_EQ_SEQ, Reg.HIF_EQ_SEQ_LOST, Reg.HIF_EQ_CWR_CNT, Reg.EVT_LOG_EVT_LOG_LOST, Reg.EVT_CNT_EVT_WRITTEN,
  Reg.EVT_CNT_EVT_DROPPED]

/-- The fields that the end of idle (R367) may write. -/
def idleExitRows : List Row :=
  eventRows ++ [Reg.PWR_STATUS_STATE, Reg.PWR_STATUS_LAST_WAKE]

/-- The fields that a failure of a ring (R288) may write. -/
def ringErrRows : List Row :=
  [Reg.HIF_TX_CTL_ERR, Reg.HIF_TX_CTL_ERRCODE, Reg.HIF_RX_CTL_ERR, Reg.HIF_RX_CTL_ERRCODE, Reg.HIF_CQ_CTL_ERR, Reg.HIF_CQ_CTL_ERRCODE,
  Reg.HIF_EQ_CTL_ERR, Reg.HIF_EQ_CTL_ERRCODE, Reg.ADM_SQ_CTL_SQ_ERR, Reg.ADM_SQ_CTL_SQ_ERRCODE]

/-- The fields that a command taken from the admin ring (R330, R331) may write. -/
def takeRows : List Row :=
  eventRows ++ [Reg.ADM_SQ_IDX_SQ_CONS, Reg.ADM_CQ_IDX_CQ_PROD, Reg.ADM_CNT_COMMANDS, Reg.ADM_CNT_REFUSED]

/-- The fields that an image slot's header (R341) may write. -/
def slotRows : List Row :=
  [Reg.FW_SLOT0_HDR_OK, Reg.FW_SLOT0_VERIFIED, Reg.FW_SLOT0_COSIGNED, Reg.FW_SLOT0_TESTED, Reg.FW_SLOT0_SCHEMA_WRITE,
  Reg.FW_SLOT_IMAGE_VER, Reg.FW_SLOT_TROEB_VER, Reg.FW_SLOT_FLUME_VER, Reg.FW_SLOT_STEP_STEP_MIN, Reg.FW_SLOT_STEP_STEP_MAX,
  Reg.FW_SLOT_SCHEMA_SCHEMA_READ_MIN]

/-- The fields that a change of the time quality (R120) may write. -/
def qualityRows : List Row :=
  eventRows ++ [Reg.TIME_STATUS_SQUELCHED, Reg.TIME_QUAL_QUALITY, Reg.TIME_BOUND, Reg.TIME_BOUND_OWN, Reg.TIME_HO_Y0, Reg.TIME_HO_ELAPSED,
  Reg.TIME_CNT_HOLDOVER_ENTRIES]

/-- The fields that a drop counted in the spillway (R207) may write. -/
def spillRows : List Row :=
  eventRows ++ [Reg.STBL_SPILL_A_DROPS, Reg.STBL_SPILL_B_DROPS, Reg.STBL_SPILLW_A_DROPS, Reg.STBL_SPILLW_B_DROPS,
  Reg.PM_TCA_STATUS_COUNTER, Reg.PM_TCA_STATUS_WAVE, Reg.PM_CNT_TCA_EVENTS]

/-- The fields that a long command taken from the admin ring (R331, R336) may write. -/
def longRows : List Row :=
  takeRows ++ [Reg.PM_LEG_STATE, Reg.ADM_LOP0_HANDLE, Reg.ADM_LOP0_OPCODE, Reg.ADM_LOP0_STATE, Reg.ADM_LOP1_CID, Reg.ADM_LOP3_TOTAL,
  Reg.ADM_CNT_LONG_STARTED]

/-- The fields that the end of long operations (R332, R336) may write. -/
def opsRows : List Row :=
  eventRows ++ [Reg.CLS_COMMIT_STATUS_GROUP, Reg.CLS_COMMIT_STATUS_RESULT, Reg.CLS_STAGE_CNT_STAGED, Reg.PM_LEG_STATE, Reg.ADM_LOP0_HANDLE,
  Reg.ADM_LOP0_OPCODE, Reg.ADM_LOP0_STATE, Reg.ADM_LOP1_PERMILLE, Reg.ADM_LOP1_CID, Reg.ADM_LOP2_DONE, Reg.ADM_LOP3_TOTAL,
  Reg.ADM_CNT_LONG_FAILED]

/-- The fields that the decision of an allocation (R87) may write. -/
def decideRows : List Row :=
  eventRows ++ [Reg.ACT_STATUS_STATE, Reg.ACT_STATUS_RANGED, Reg.ACT_ATTEMPT_ATTEMPTS, Reg.HG_STATUS_RANGED, Reg.HG_CNT_REFUSED_CAP,
  Reg.HG_CNT_REFUSED_MAXB, Reg.HG_CNT_REFUSED_ROLE, Reg.HG_CNT_REFUSED_OTHER, Reg.HG_CNT_REFUSED_EQD, Reg.HG_CNT_DISAGREE,
  Reg.PROT_DEF_RNG_LOSS, Reg.PROT_DEF_LATCHED]

/-- The fields that the end of held state (R306) may write. -/
def heldRows : List Row :=
  eventRows ++ [Reg.USCH_CT_STATUS_LAST_CAUSE, Reg.USCH_CNT_UNWOUND_BURSTS, Reg.USCH_CNT_UNWOUND_FRAMES, Reg.USCH_CNT_SEQ_SKIPPED,
  Reg.USCH_SCNT_UNWINDS, Reg.HIF_TX_CTL_EN, Reg.HIF_TX_CTL_FLUSH_BUSY, Reg.HIF_TX_HELD, Reg.HIF_RX_CTL_EN, Reg.HIF_RX_HELD,
  Reg.HIF_CQ_CTL_EN, Reg.HIF_EQ_CTL_EN, Reg.ADM_SQ_CTL_SQ_EN, Reg.ADM_CQ_CTL_CQ_EN]

/-- The fields that the loss of the host link (R304) may write. -/
def linkRows : List Row :=
  eventRows ++ [Reg.TEV_PTM_STATUS_BUSY, Reg.TEV_PTM_STATUS_RESULT, Reg.TEV_CNT_PTM_DIALOGUES, Reg.TEV_CNT_PTM_FAILED,
  Reg.CIPH_CNT_LA_REQUESTS, Reg.CIPH_CNT_LA_BYTES, Reg.CIPH_CNT_DENIED, Reg.HIF_FN_STATUS_ENABLED, Reg.HIF_FN_STATUS_BME,
  Reg.HIF_LINK_USABLE, Reg.HIF_LINK_HOLD, Reg.HIF_ERRLOG_STATUS_ERRLOG_LOST, Reg.HIF_CNT_CPL_TIMEOUT, Reg.HIF_CNT_CPL_MALFORMED,
  Reg.MBX_CNT_FETCH_FAILS]

/-- The fields that a change of the module lanes' modes (R391) may write. -/
def lanesRows : List Row :=
  qualityRows ++ [Reg.ACT_STATUS_STATE, Reg.ACT_STATUS_RANGED, Reg.ACT_ATTEMPT_SKIP_LEFT, Reg.HG_STATUS_RANGED, Reg.PROT_DEF_LOS,
  Reg.PROT_DEF_LOF, Reg.PROT_DEF_SF, Reg.PROT_DEF_SD, Reg.PROT_DEF_LOSS_OF_SYNC, Reg.PROT_DEF_RNG_LOSS, Reg.PROT_DEF_LATCHED,
  Reg.PM_TCA_STATUS_COUNTER, Reg.PM_TCA_STATUS_WAVE, Reg.PM_CNT_TCA_EVENTS, Reg.OPT_LANE_MODE, Reg.OPT_DSK_CAND_OFS,
  Reg.OPT_DSK_CAND_VALID]

/-- The fields that the boot ROM (R346) may write. -/
def bootRows : List Row :=
  slotRows ++ eventRows ++ [Reg.GEN_LC_LC_STATE, Reg.GEN_LC_LC_PENDING, Reg.CIPH_HEKEY_HASH, Reg.CIPH_CNT_KEYS_ERASED, Reg.FW_STATUS_STATE,
  Reg.FW_STATUS_SLOT, Reg.FW_STATUS_TRIAL, Reg.FW_STATUS_STARTS, Reg.FW_STATUS_OVERRIDE, Reg.FW_STATUS_SETTINGS_OK,
  Reg.FW_CTL_ALLOW_UNTESTED, Reg.FW_BOOTREC_SEQ, Reg.FW_BOOTREC_FLAGS, Reg.FW_BOOTREC_FLAGS_TRIAL_MIN, Reg.FW_SETTINGS_SCHEMA,
  Reg.FW_SETTINGS_COPY, Reg.FW_SETTINGS_UNREADABLE, Reg.FW_LC_STATE, Reg.FW_LC_PENDING, Reg.FW_LC_PEND_TGT, Reg.FW_LC_COSIGN_USED,
  Reg.FW_CNT_FALLBACKS, Reg.FW_CNT_REVERTS]

/-- The fields that a switch of the active leg (R264) may write. -/
def switchRows : List Row :=
  lanesRows ++ [Reg.ACT_ATTEMPT_ATTEMPTS, Reg.HG_STATUS_ACTIVE, Reg.HG_CNT_REFUSED_CAP, Reg.HG_CNT_REFUSED_MAXB, Reg.HG_CNT_REFUSED_ROLE,
  Reg.HG_CNT_REFUSED_OTHER, Reg.HG_CNT_REFUSED_EQD, Reg.TIME_STATUS_SRC, Reg.TIME_LEG_STATUS_USABLE, Reg.USCH_CT_STATUS_FB,
  Reg.USCH_CT_STATUS_FB_AUTO, Reg.USCH_CT_STATUS_LAST_CAUSE, Reg.USCH_CNT_UNWOUND_BURSTS, Reg.USCH_CNT_UNWOUND_FRAMES,
  Reg.USCH_CNT_FB_ENTRIES, Reg.USCH_CNT_SEQ_SKIPPED, Reg.USCH_SCNT_UNWINDS, Reg.SLU_STATUS_SWAP_PEND, Reg.SLU_STATUS_FAIL,
  Reg.SLU_SWAP_CTL_RESULT, Reg.SLU_GRP_FAILED, Reg.PROT_STATUS_ACTIVE, Reg.PROT_STATUS_SWITCHING, Reg.PROT_STATUS_HOLDOFF,
  Reg.PROT_STATUS_WTR, Reg.PROT_STATUS_LAST_CAUSE, Reg.PROT_WTR_LEFT_SECONDS, Reg.PROT_CNT_SWITCHES, Reg.PROT_CNT2_WTR_CANCELLED,
  Reg.PM_LEG_STATE, Reg.ADM_CQ_IDX_CQ_PROD, Reg.ADM_LOP0_HANDLE, Reg.ADM_LOP0_OPCODE, Reg.ADM_LOP0_STATE, Reg.ADM_LOP1_PERMILLE,
  Reg.ADM_LOP1_CID, Reg.ADM_LOP2_DONE, Reg.ADM_LOP3_TOTAL, Reg.ADM_CNT_REFUSED, Reg.ADM_CNT_LONG_OK, Reg.ADM_CNT_LONG_CANCELLED,
  Reg.ADM_CNT_LONG_FAILED]

/-- The fields that a change of a leg's defects (R254 to R264) may write. -/
def defectRows : List Row :=
  switchRows ++ [Reg.HG_STATUS_ROGUE, Reg.HG_STATUS_ESTOP, Reg.PROT_STATUS_FORCED, Reg.PROT_STATUS_NO_PROT, Reg.PROT_STATUS_AVAIL_A,
  Reg.PROT_STATUS_AVAIL_B, Reg.PROT_DEF_ROGUE, Reg.PROT_DEF_ESTOP, Reg.PROT_DEF_AVAILABLE, Reg.PROT_CNT2_HOLDOFF_ABANDONED,
  Reg.PROT_CNT2_NO_PROT_ENTRIES]

/-- The fields that a leg that leaves the tree (R74) may write. -/
def departRows : List Row :=
  defectRows ++ spillRows ++ [Reg.ACT_STATUS_TN_VALID, Reg.ACT_STATUS_TN, Reg.ACT_EQD_EQD_FINE, Reg.ACT_EQD_EQD_GRAINS,
  Reg.ACT_EQD_PENDING, Reg.ACT_EQD_NEXT, Reg.ACT_EQD_EFF_LO, Reg.ACT_EQD_EFF_HI, Reg.HG_STATUS_TN_VALID, Reg.HG_STATUS_TN,
  Reg.HG_STATUS_BEN, Reg.HG_LATCH_ALLOC_ID, Reg.HG_LATCH_VALID, Reg.HG_LATCH_PENDING, Reg.HG_CNT_TX_ABORTED, Reg.OPT_LIFE_ON_NS]

/-- The fields that the loss of an entry of instance 7 (R414) may write. -/
def lossRows : List Row :=
  [Reg.USCH_CTL_RESET, Reg.USCH_STATUS_RESET_BUSY, Reg.USCH_STATUS_FB_ALL, Reg.USCH_STATUS_LEG, Reg.USCH_STATUS_RSV_U0,
  Reg.USCH_STATUS_RSV_U1, Reg.USCH_STATUS_WERR, Reg.USCH_FB_CTL_FREEBOARD, Reg.USCH_FB_CTL_BUILD_LEAD, Reg.USCH_QCMD_OP,
  Reg.USCH_QCMD_BUSY, Reg.USCH_QCMD_STATUS, Reg.USCH_QIDX, Reg.USCH_QDATA0_MODE, Reg.USCH_QDATA0_SHAPE_EN, Reg.USCH_QDATA0_OVH,
  Reg.USCH_QDATA0_WEIGHT, Reg.USCH_QDATA1_RATE0, Reg.USCH_QDATA2_BURST0, Reg.USCH_QDATA3_RATE1, Reg.USCH_QDATA4_BURST1,
  Reg.USCH_QDATA5_LEVEL0, Reg.USCH_QDATA6_LEVEL1, Reg.USCH_QDATA7_RESV0, Reg.USCH_QDATA8_CREDIT, Reg.USCH_QDATA9_HEAD,
  Reg.USCH_QDATA9_BLOCK, Reg.USCH_AUD_CTL_SNAP, Reg.USCH_AUD_CTL_SLOT, Reg.USCH_AUD_CTL_BUCKET, Reg.USCH_AUD_CTL_B1,
  Reg.USCH_AUD_STATUS_BUSY, Reg.USCH_AUD_STATUS_MISMATCH, Reg.USCH_AUD_STATUS_SNAP_SEQ, Reg.USCH_AUD_CELL_FREE, Reg.USCH_AUD_CELL_RESERVED,
  Reg.USCH_AUD_CELL_COMMITTED, Reg.USCH_AUD_TOK_FILLED, Reg.USCH_AUD_TOK_TRIMMED, Reg.USCH_AUD_TOK_LEVEL, Reg.USCH_AUD_TOK_RESERVED,
  Reg.USCH_AUD_TOK_DEBITED, Reg.USCH_AUD_DESC_POSTED, Reg.USCH_AUD_DESC_IN_HOST, Reg.USCH_AUD_DESC_HEAD, Reg.USCH_AUD_DESC_RESERVED,
  Reg.USCH_AUD_DESC_COMMITTED, Reg.USCH_AUD_DESC_COMPLETED, Reg.USCH_AUD_GR_ACCEPTED_U0, Reg.USCH_AUD_GR_OPENED_U0,
  Reg.USCH_AUD_GR_REFUSED_U0, Reg.USCH_AUD_GR_ACCEPTED_U1, Reg.USCH_AUD_GR_OPENED_U1, Reg.USCH_AUD_GR_REFUSED_U1, Reg.USCH_AUD_BY_CAPACITY,
  Reg.USCH_AUD_BY_HEADER, Reg.USCH_AUD_BY_FRAME, Reg.USCH_AUD_BY_IDLE, Reg.USCH_AUD_GR_OTHER_U0, Reg.USCH_AUD_GR_OTHER_U1,
  Reg.USCH_CT_CTL_DISC, Reg.USCH_CT_CTL_SHAPE_EN, Reg.USCH_CT_CTL_SMODE, Reg.USCH_CT_CTL_OVH, Reg.USCH_CT_CTL_OWNER, Reg.USCH_CT_RATE0,
  Reg.USCH_CT_BURST0, Reg.USCH_CT_RATE1, Reg.USCH_CT_BURST1, Reg.USCH_CT_QUANTUM, Reg.USCH_CT_CREDIT_CAP, Reg.USCH_CT_BUFREP_EST,
  Reg.USCH_CT_STATUS_FB, Reg.USCH_CT_STATUS_FB_AUTO, Reg.USCH_CT_STATUS_LAST_CAUSE, Reg.USCH_CT_STATUS_STARVED, Reg.USCH_CT_LEVEL0,
  Reg.USCH_CT_LEVEL1, Reg.USCH_CT_BUFREP, Reg.USCH_CNT_BURSTS_BUILT, Reg.USCH_CNT_BURSTS_SENT, Reg.USCH_CNT_IDLE_GRANTS,
  Reg.USCH_CNT_UNWOUND_BURSTS, Reg.USCH_CNT_UNWOUND_FRAMES, Reg.USCH_CNT_BUILD_LATE, Reg.USCH_CNT_FRAMES_SENT, Reg.USCH_CNT_BYTES_SENT,
  Reg.USCH_CNT_NO_CELLS, Reg.USCH_CNT_FB_ENTRIES, Reg.USCH_CNT_SEQ_SKIPPED, Reg.USCH_CNT_REVISE_LATE, Reg.USCH_CNT_AUD_FAIL,
  Reg.USCH_SCNT_FRAMES, Reg.USCH_SCNT_BYTES, Reg.USCH_SCNT_UNWINDS, Reg.USCH_SCNT_STARVED, Reg.CIPH_CNT_KEYS_ERASED, Reg.HIF_TX_BASE_LO,
  Reg.HIF_TX_BASE_HI, Reg.HIF_TX_CTL_SIZE, Reg.HIF_TX_CTL_EN, Reg.HIF_TX_CTL_ERR, Reg.HIF_TX_CTL_FLUSH, Reg.HIF_TX_CTL_FLUSH_BUSY,
  Reg.HIF_TX_CTL_HOLD, Reg.HIF_TX_CTL_OWNER, Reg.HIF_TX_CTL_ERRCODE, Reg.HIF_TX_IDX_PROD, Reg.HIF_TX_IDX_CONS, Reg.HIF_TX_CQ,
  Reg.HIF_TX_HELD, Reg.HIF_RX_BASE_LO, Reg.HIF_RX_BASE_HI, Reg.HIF_RX_CTL_SIZE, Reg.HIF_RX_CTL_EN, Reg.HIF_RX_CTL_ERR, Reg.HIF_RX_CTL_LA,
  Reg.HIF_RX_CTL_HOLD, Reg.HIF_RX_CTL_OWNER, Reg.HIF_RX_CTL_ERRCODE, Reg.HIF_RX_IDX_PROD, Reg.HIF_RX_IDX_CONS, Reg.HIF_RX_CQ,
  Reg.HIF_RX_HELD, Reg.HIF_CQ_BASE_LO, Reg.HIF_CQ_BASE_HI, Reg.HIF_CQ_CTL_SIZE, Reg.HIF_CQ_CTL_EN, Reg.HIF_CQ_CTL_ERR,
  Reg.HIF_CQ_CTL_OWNER, Reg.HIF_CQ_CTL_ERRCODE, Reg.HIF_CQ_IDX_PROD, Reg.HIF_CQ_IDX_CONS, Reg.HIF_CQ_INT_VEC, Reg.HIF_CQ_INT_INT_EN,
  Reg.HIF_CQ_INT_MOD_CNT, Reg.HIF_CQ_INT_MOD_US, Reg.HIF_CQ_SEQ, Reg.HIF_CQ_SEQ_LOST, Reg.HIF_CQ_CWR_CNT, Reg.HIF_EQ_BASE_LO,
  Reg.HIF_EQ_BASE_HI, Reg.HIF_EQ_CTL_SIZE, Reg.HIF_EQ_CTL_EN, Reg.HIF_EQ_CTL_ERR, Reg.HIF_EQ_CTL_OWNER, Reg.HIF_EQ_CTL_ERRCODE,
  Reg.HIF_EQ_IDX_PROD, Reg.HIF_EQ_IDX_CONS, Reg.HIF_EQ_INT_VEC, Reg.HIF_EQ_INT_INT_EN, Reg.HIF_EQ_INT_MOD_CNT, Reg.HIF_EQ_INT_MOD_US,
  Reg.HIF_EQ_SEQ, Reg.HIF_EQ_SEQ_LOST, Reg.HIF_EQ_CWR_CNT, Reg.HIF_FN_STATUS_ENABLED, Reg.HIF_FN_STATUS_BME, Reg.HIF_FN_STATUS_FLR_BUSY,
  Reg.HIF_FN_STATUS_HOLD, Reg.HIF_FN_EQ_DEF_EQ, Reg.HIF_FN_EQ_DEF_EQ_EN, Reg.HIF_LINK_RATE, Reg.HIF_LINK_WIDTH, Reg.HIF_LINK_UP,
  Reg.HIF_LINK_USABLE, Reg.HIF_LINK_HOLD, Reg.HIF_LL_CTL_HOLD_MS, Reg.HIF_LL_CTL_RESUME, Reg.HIF_LL_CTL_DISCARD, Reg.HIF_STATUS_WERR,
  Reg.HIF_REPLAY_CTL_RP_CQ, Reg.HIF_REPLAY_CTL_RP_CSEQ, Reg.HIF_REPLAY_STATUS_RP_BUSY, Reg.HIF_REPLAY_STATUS_RP_STATUS,
  Reg.HIF_REPLAY_DATA, Reg.HIF_AUD_CTL_AUD_SNAP, Reg.HIF_AUD_CTL_AUD_RING, Reg.HIF_AUD_STATUS_AUD_BUSY, Reg.HIF_AUD_STATUS_MISMATCH,
  Reg.HIF_ERRLOG_POP, Reg.HIF_ERRLOG_STATUS_ERRLOG_LEVEL, Reg.HIF_ERRLOG_STATUS_ERRLOG_LOST, Reg.HIF_AUDP_POST_POSTED,
  Reg.HIF_AUDP_POST_IN_HOST, Reg.HIF_AUDP_POST_HELD, Reg.HIF_AUDP_POST_USED, Reg.HIF_AUDP_POST_DISCARDED, Reg.HIF_AUDC_ADVERTISED,
  Reg.HIF_AUDC_RECEIVED, Reg.HIF_AUDC_FREE, Reg.HIF_AUDC_OCCUPIED, Reg.HIF_AUDC_BUFFER, Reg.HIF_AUDR_CPL_BUFFER, Reg.HIF_AUDR_CPL_RESERVED,
  Reg.HIF_AUDR_CPL_OCCUPIED, Reg.HIF_AUDR_CPL_FREE, Reg.HIF_CNT_DB_ACCEPTED, Reg.HIF_CNT_DB_DISCARDED, Reg.HIF_CNT_DESC_FETCHED,
  Reg.HIF_CNT_RX_FRAMES, Reg.HIF_CNT_RX_BYTES, Reg.HIF_CNT_TX_COMPLETIONS, Reg.HIF_CNT_CPL_TIMEOUT, Reg.HIF_CNT_CPL_MALFORMED,
  Reg.HIF_CNT_CPL_UNEXPECTED, Reg.HIF_CNT_LINK_DOWNS, Reg.HIF_CNT_REPLAYED, Reg.HIF_CNT_FLRS, Reg.HIF_CNT_AUD_FAIL]

end Sys2Proof.Machine

/-- For every command c and state, a step of a state whose queue is c and a rest is exec of c on that state with the rest as its queue. With an
empty queue a step changes nothing. The queue is the model's own, and idling on an empty queue is its choice (log entry 3). Rests on R408,
95_what_each_step_holds.md. -/
def Obligations.AStepRunsTheCommandAtTheFront : Prop :=
  (∀ (c : Instr) (rest : List Instr) (s : State), s.pending = c :: rest → step s = exec c { s with pending := rest }) ∧
  (∀ s : State, s.pending = [] → step s = .next s)

/-- At reset the stores that hold numbers by key are in their canonical form, and the event log, the error logs and firmware's receive queue
are within the sizes the manual gives. Rests on R11, R315, R316, R327. -/
def Obligations.ResetMeetsTheInvariant : Prop :=
  Inv State.reset

/-- From every state that meets the invariant, whatever command stands first in its queue, a step that answers a next state gives a state that
meets it: register fields, firmware's own instances and the shared window stay in the one canonical form (equal contents are equal data),
the event log holds at most 4,096 events, each error log at most 64 entries and firmware's receive queue at most 256 frames. Rests on R196,
R315, R316, R327. -/
def Obligations.EveryStepKeepsTheInvariant : Prop :=
  ∀ s t : State, Inv s → step s = .next t → Inv t

/-- After reset the time counter and generation are zero, INCR is nominal, the quality is FREERUN; on both legs transmit is disabled, the
burst-enable pins are low, TX_ALLOW is 0, the ceilings are those of B0, activation is DISABLED with a keep-ranged interval of 16; rings
have SIZE 6, the link-loss hold is 1,000 ms, LINE_SLOTS is 256; the shared window, the key slots and the event log hold nothing, and the
next transaction ID is 0x8000. The empty queue is the model's own. Rests on R74, R81, R102, R327, R424, 03_activation_and_headgate.md,
08_line_cipher.md, 11_host_interface_and_rings.md. -/
def Obligations.ResetLeavesTheValuesOfTheSpec : Prop :=
  State.reset.time.now40 = 0 ∧
  State.reset.time.incr = 0x018B0FCD6E9E ∧
  State.reset.rd Reg.TIME_QUAL_GEN = 0 ∧
  State.reset.rd Reg.TIME_QUAL_QUALITY = 0 ∧
  (∀ l : Leg, State.reset.rd Reg.HG_STATUS_TXDIS l.n = 1 ∧ State.reset.rd Reg.HG_STATUS_BEN l.n = 0 ∧ State.reset.rd Reg.HG_CTL_TX_ALLOW l.n =
    0 ∧ State.reset.rd Reg.HG_CAP_CEIL l.n = 45000 ∧ State.reset.rd Reg.HG_MAXB_CEIL l.n = 36000 ∧ State.reset.rd Reg.ACT_STATUS_STATE l.n = 0
    ∧ State.reset.rd Reg.ACT_KR_CTL_INTERVAL_SF l.n = 16) ∧
  State.reset.rd Reg.HIF_LL_CTL_HOLD_MS = 1000 ∧
  State.reset.rd Reg.HIF_TX_CTL_SIZE 0 8191 = 6 ∧
  State.reset.rd Reg.CIPH_PART_LINE_SLOTS = 256 ∧
  State.reset.mbx.sw = [] ∧
  State.reset.ciph.slots = [] ∧
  State.reset.host.log = [] ∧
  State.reset.txid = 0x8000 ∧
  State.reset.pending = []

/-- Whatever command is run on whatever state, a rogue latch or an emergency stop that stands on a leg stands after it, unless the command is a
ROGUE_RELEASE that the terminal accepts on that leg, or one that a cold reset or a loss of the part's power can be a part of: warm reset,
function-level resets, DEACTIVATE, firmware's stop and restart and every register write but that of the reset register leave both set.
Rests on R94, R96, 03_activation_and_headgate.md. -/
def Obligations.OnlyReleaseOrColdResetEndsAnEmissionStop : Prop :=
  ∀ (c : Instr) (l : Leg) (s t : State), exec c s = .next t → mayLosePower c = false →
    (∀ m, c = .rogueRelease l m → ¬(Hears s l ∧ s.takes l 0x07 m true 0 = true)) →
    (s.isOn Reg.HG_STATUS_ROGUE l.n = true → t.isOn Reg.HG_STATUS_ROGUE l.n = true) ∧
    (s.isOn Reg.HG_STATUS_ESTOP l.n = true → t.isOn Reg.HG_STATUS_ESTOP l.n = true)

/-- For a wave of 0 to 3. SYNC_CANDIDATE: in HUNT, with its detectors on and a value within SYNC_TOL of a SYNC word, the wave enters PRESYNC
with one header counted and the candidate's offset shown; a wave not in HUNT is left as it was. DELINEATION_MARKER, where the marker is not
the first after a doze: in PRESYNC, a position without a SYNC word at it or without an agreeing header returns the wave to HUNT with one
miss more; with the lanes on and the terminal awake, an agreeing header that follows the candidate, where it completes SYNC_CONFIRM, brings
the wave to SYNC at the header's superframe and frame, and one that does not complete it counts one header more. In SYNC with detectors on,
the lanes on and the terminal awake, the agreeing header of the next frame clears the misses, moves the wave to that frame and counts one
frame; with detectors on, where no SYNC word is found and the misses come to SYNC_LOSE, the wave goes to HUNT and LOF is declared on it.
CODEWORD_DECODE, in SYNC with detectors on and an index below 750: a decoded codeword adds its corrected bits and counts in the second; one
not decoded counts as uncorrected, counts in the second and is remembered for the frame. Shown to complete, under conditions on the state
and the operands alone: SYNC_CANDIDATE, DELINEATION_MARKER, CODEWORD_DECODE. Rests on R34, R35, R54, R254. -/
def Obligations.DelineationAdvancesByItsMarkers : Prop :=
  (∀ (l : Leg) (w : Nat) (raw : BitVec 64) (ofs : Nat) (s : State), w < 4 → (s.wave l w).deln = .hunt → s.detecting l w = true → s.syncMatch
    l raw.toNat = true → ∃ t, exec (.syncCandidate l w raw ofs) s = .next t ∧ (t.wave l w).deln = .presync ∧ (t.wave l w).confirm = 1 ∧ t.rd
    Reg.OPT_DSK_CAND_OFS l.n w = ofs % 2 ^ Reg.OPT_DSK_CAND_OFS.width ∧ t.rd Reg.OPT_DSK_CAND_VALID l.n w = 1) ∧
  (∀ (l : Leg) (w : Nat) (raw : BitVec 64) (ofs : Nat) (s : State), (s.wave l w).deln ≠ .hunt → exec (.syncCandidate l w raw ofs) s = .next
    s) ∧
  (∀ (l : Leg) (w : Nat) (raw : BitVec 64) (hdr : BitVec 128) (rel : Int) (words : Int) (ofs : Int) (s : State), w < 4 → (s.wave l w).deln =
    .presync → s.pwr.firstMark = false → ¬(ofs = 0 ∧ s.syncMatch l raw.toNat = true ∧ s.agrees l w raw.toNat hdr.toNat = true) → ∃ t, exec
    (.delineationMarker l w raw hdr rel words ofs) s = .next t ∧ (t.wave l w).deln = .hunt ∧ (t.wave l w).miss = (s.wave l w).miss + 1) ∧
  (∀ (l : Leg) (w : Nat) (raw : BitVec 64) (hdr : BitVec 128) (rel : Int) (words : Int) (ofs : Int) (s : State), s.lanesOn l = true → s.runs
    .core = true → s.pwr.asleep = false → w < 4 → (s.wave l w).deln = .presync → ofs = 0 → s.pwr.firstMark = false → s.syncMatch l raw.toNat =
    true → s.agrees l w raw.toNat hdr.toNat = true → (s.wave l w).cand.all (fun k => hdrKey hdr.toNat == nextKey k) = true → max 1 (s.rd
    Reg.LINE_DLN_CTL_SYNC_CONFIRM l.n) ≤ (s.wave l w).confirm + 1 → ∃ t, exec (.delineationMarker l w raw hdr rel words ofs) s = .next t ∧
    (t.wave l w).deln = .sync ∧ (t.wave l w).sfc = hdrKey hdr.toNat / 8 ∧ (t.wave l w).fn = hdrKey hdr.toNat % 8 ∧ Counted Reg.LINE_WCNT_FRAMES
    l.n w 1 s t) ∧
  (∀ (l : Leg) (w : Nat) (raw : BitVec 64) (hdr : BitVec 128) (rel : Int) (words : Int) (ofs : Int) (s : State), w < 4 → (s.wave l w).deln =
    .presync → ofs = 0 → s.pwr.firstMark = false → s.syncMatch l raw.toNat = true → s.agrees l w raw.toNat hdr.toNat = true → (s.wave l
    w).cand.all (fun k => hdrKey hdr.toNat == nextKey k) = true → (s.wave l w).confirm + 1 < s.rd Reg.LINE_DLN_CTL_SYNC_CONFIRM l.n → ∃ t, exec
    (.delineationMarker l w raw hdr rel words ofs) s = .next t ∧ (t.wave l w).deln = .presync ∧ (t.wave l w).confirm = (s.wave l w).confirm +
    1) ∧
  (∀ (l : Leg) (w : Nat) (raw : BitVec 64) (hdr : BitVec 128) (rel : Int) (words : Int) (ofs : Int) (s : State), s.lanesOn l = true → s.runs
    .core = true → s.pwr.asleep = false → w < 4 → (s.wave l w).deln = .sync → s.detecting l w = true → ofs = 0 → s.pwr.firstMark = false →
    s.syncMatch l raw.toNat = true → s.agrees l w raw.toNat hdr.toNat = true → hdrKey hdr.toNat = nextKey (s.wave l w).key → ∃ t, exec
    (.delineationMarker l w raw hdr rel words ofs) s = .next t ∧ (t.wave l w).deln = .sync ∧ (t.wave l w).miss = 0 ∧ (t.wave l w).key = nextKey
    (s.wave l w).key ∧ Counted Reg.LINE_WCNT_FRAMES l.n w 1 s t) ∧
  (∀ (l : Leg) (w : Nat) (raw : BitVec 64) (hdr : BitVec 128) (rel : Int) (words : Int) (ofs : Int) (s : State), w < 4 → (s.wave l w).deln =
    .sync → s.detecting l w = true → s.pwr.firstMark = false → s.syncMatch l raw.toNat = false → max 1 (s.rd Reg.LINE_DLN_CTL_SYNC_LOSE l.n) ≤
    (s.wave l w).miss + 1 → ∃ t, exec (.delineationMarker l w raw hdr rel words ofs) s = .next t ∧ (t.wave l w).deln = .hunt ∧ bit (t.rd
    Reg.PROT_DEF_LOF l.n) w = 1) ∧
  (∀ (l : Leg) (w : Nat) (idx : Nat) (corr : Nat) (ok : Bool) (s : State), w < 4 → idx < 750 → (s.wave l w).deln = .sync → s.detecting l w =
    true → ok = true → ∃ t, exec (.codewordDecode l w idx corr ok) s = .next t ∧ Counted Reg.LINE_WCNT_CORR_BITS l.n w corr s t ∧ (t.wave l
    w).cwSec = (s.wave l w).cwSec + 1) ∧
  (∀ (l : Leg) (w : Nat) (idx : Nat) (corr : Nat) (ok : Bool) (s : State), w < 4 → idx < 750 → (s.wave l w).deln = .sync → s.detecting l w =
    true → ok = false → ∃ t, exec (.codewordDecode l w idx corr ok) s = .next t ∧ Counted Reg.LINE_WCNT_UNCORR_CW l.n w 1 s t ∧ (t.wave l
    w).cwSec = (s.wave l w).cwSec + 1 ∧ (t.wave l w).badCw = idx :: (s.wave l w).badCw)

/-- With D0 in SYNC. A partition header whose CRC is right and whose NSLOT is at most 4,096 sets the numbers of BWmap structures and sluice
slots to come; one whose CRC is wrong is counted and the partitions of the frame are not read. Where the header announced a time
announcement, one with a wrong CRC is counted as rejected and leaves the count of superframes since the last one; one with a right CRC and
a REF_SFC within 8 superframes of the present restarts that count. Where a header that passed leaves BWmap structures still to come: one
whose AHEC is wrong is counted; one with a right AHEC, not the last, whose ALLOC_ID names nothing of the leg is passed over and adds no
allocation; a RANGE structure with a right AHEC, not the last, for the leg's number that passes R42, in a superframe whose grants are
taken, is added with the profile and slot of its upstream frame. The sluice region that brings the announced number of slots under a right
CRC gives the frame its slots. Shown to complete, under conditions on the state and the operands alone: PARTITION_HEADER, TOD_ANNOUNCEMENT,
ALLOCATION_STRUCTURE, SLUICE_REGION. Rests on R38, R39, R42, R44, R106. -/
def Obligations.PartitionsOfAFrameAreRead : Prop :=
  (∀ (l : Leg) (word : BitVec 64) (s : State), (s.wave l 0).deln = .sync → s.detecting l 0 = true → crc16 (msbBits 48 (word.toNat / 65536)) =
    word.toNat % 65536 → bits word.toNat 45 33 ≤ 4096 → ∃ t, exec (.partitionHeader l word) s = .next t ∧ (t.leg l).partOk = true ∧ (t.leg
    l).bwLeft = bits word.toNat 63 53 ∧ (t.leg l).nslot = bits word.toNat 45 33) ∧
  (∀ (l : Leg) (word : BitVec 64) (s : State), (s.wave l 0).deln = .sync → s.detecting l 0 = true → crc16 (msbBits 48 (word.toNat / 65536)) ≠
    word.toNat % 65536 → ∃ t, exec (.partitionHeader l word) s = .next t ∧ Counted Reg.LINE_D0CNT_PART_CRC_ERR l.n 0 1 s t ∧ (t.leg l).partOk =
    false) ∧
  (∀ (l : Leg) (word : BitVec 256) (s : State), (s.wave l 0).deln = .sync → (s.leg l).partOk = true → (s.leg l).todp = true → crc32 (msbBits
    224 (word.toNat / 2 ^ 32)) ≠ word.toNat % 2 ^ 32 → ∃ t, exec (.todAnnouncement l word) s = .next t ∧ Counted Reg.LINE_D0CNT_TOD_REJECT l.n
    0 1 s t ∧ (t.leg l).todSince = (s.leg l).todSince) ∧
  (∀ (l : Leg) (word : BitVec 256) (s : State), (s.wave l 0).deln = .sync → (s.leg l).partOk = true → (s.leg l).todp = true → crc32 (msbBits
    224 (word.toNat / 2 ^ 32)) = word.toNat % 2 ^ 32 → word.toNat / 2 ^ 208 ≤ s.cur l + 8 → s.cur l ≤ word.toNat / 2 ^ 208 + 8 → ∃ t, exec
    (.todAnnouncement l word) s = .next t ∧ (t.leg l).todSince = some 0 ∧ (t.leg l).todRaised = false) ∧
  (∀ (l : Leg) (word : BitVec 64) (s : State), (s.leg l).partOk = true → (s.leg l).bwLeft ≠ 0 → hecOk word.toNat = false → ∃ t, exec
    (.allocationStructure l word) s = .next t ∧ Counted Reg.LINE_D0CNT_ALLOC_HEC_ERR l.n 0 1 s t) ∧
  (∀ (l : Leg) (word : BitVec 64) (s : State), (s.leg l).partOk = true → (s.leg l).bwLeft ≠ 0 → 2 ≤ (s.leg l).bwLeft → hecOk word.toNat =
    true → s.addressee l (bits word.toNat 63 50) ((s.d0Key l + 2) / 8) = none → ∃ t, exec (.allocationStructure l word) s = .next t ∧ (t.leg
    l).bwLeft = (s.leg l).bwLeft - 1 ∧ (t.leg l).allocs = (s.leg l).allocs) ∧
  (∀ (l : Leg) (word : BitVec 64) (s : State), (s.leg l).partOk = true → (s.leg l).bwLeft ≠ 0 → s.grantSf l ((s.d0Key l + 2) / 8) = true → 2
    ≤ (s.leg l).bwLeft → hecOk word.toNat = true → bits word.toNat 14 13 = 3 → s.hasTn l = true → bits word.toNat 63 50 = 0x3000 + s.rd
    Reg.ACT_STATUS_TN l.n → s.rd Reg.ACT_STATUS_TN l.n < 0x3FE → s.allocOk l (rangeAlloc s l word.toNat) = true → ∃ t, exec
    (.allocationStructure l word) s = .next t ∧ (t.leg l).allocs = (s.leg l).allocs ++ [rangeAlloc s l word.toNat]) ∧
  (∀ (l : Leg) (slots : List (BitVec 128)) (crc : BitVec 32) (s : State), (s.leg l).partOk = true → (s.leg l).nslot ≠ 0 → (s.leg l).slotsSeen
    = false → (s.wave l 0).deln = .sync → slots.length = (s.leg l).nslot → crc32 ((slots.map fun x => x.toNat).flatMap fun x => msbBits 128 x)
    = crc.toNat → ∃ t, exec (.sluiceRegion l slots crc) s = .next t ∧ (t.leg l).slots = slots.map (fun x => x.toNat) ∧ (t.leg l).sluBad = false
    ∧ (t.leg l).slotsSeen = true)

/-- Each message in its place of a D0 frame that passes R64 and is no duplicate. A burst profile with non-zero lengths and an EFF_SFC inside
the window of R66 is staged in the receiver and in the headgate. ASSIGN_TN with the terminal's serial number and a TN below 0x3FE, in
RANGING, latches the number in activation and in the headgate and holds its ACK. EQD_SET, on a leg with a terminal number, with a value R83
allows and an EFF_SFC inside the window joins the pending ones and is acknowledged OK; on a leg without a number it is counted as refused.
CONTAINER (an assignment with firmware present, or a removal), on a leg with a number, with an ID up to 0x2FFF that no other slot holds at
its EFF_SFC and an EFF_SFC inside the window, is shown as pending in its slot and acknowledged OK. DEACTIVATE on a leg that is not DISABLED
is counted and leaves it LISTENING without a number in activation or in the headgate. KEEP_RANGED on a leg with a number sets the interval
where it is 1 to 1,024 and is acknowledged OK; any other interval is acknowledged INVALID and sets nothing. Shown to complete, under
conditions on the state and the operands alone: BURST_PROFILE, ASSIGN_TN, EQD_SET, CONTAINER, DEACTIVATE, KEEP_RANGED. Rests on R67, R69,
R74, R80, R83, R84, R436. -/
def Obligations.ActivationMessagesTakeEffect : Prop :=
  (∀ (l : Leg) (msg : BitVec 384) (s : State), Hears s l → s.takes l 0x01 msg false 0 = true → mfield msg 8 1 ≠ 0 → mfield msg 9 1 % 4 ≠ 0 →
    s.effOk l (mfield msg 18 6) = true → ∃ t, exec (.burstProfile l msg) s = .next t ∧ (t.leg l).profPend.get (mfield msg 6 1 / 64) = addPend
    ⟨mfield msg 18 6, profOf msg⟩ ((s.leg l).profPend.get (mfield msg 6 1 / 64)) ∧ (t.leg l).hgProfPend.get (mfield msg 6 1 / 64) = addPend
    ⟨mfield msg 18 6, profOf msg⟩ ((s.leg l).hgProfPend.get (mfield msg 6 1 / 64))) ∧
  (∀ (l : Leg) (msg : BitVec 384) (s : State), Hears s l → s.takes l 0x02 msg true 0 = true → mfield msg 6 8 = s.serial → mfield msg 14 2 %
    1024 < 0x3FE → s.rd Reg.ACT_STATUS_STATE l.n = 4 → ∃ t, exec (.assignTn l msg) s = .next t ∧ t.rd Reg.ACT_STATUS_TN l.n = mfield msg 14 2 %
    1024 ∧ t.rd Reg.ACT_STATUS_TN_VALID l.n = 1 ∧ t.rd Reg.HG_STATUS_TN l.n = mfield msg 14 2 % 1024 ∧ t.rd Reg.HG_STATUS_TN_VALID l.n = 1 ∧
    (t.leg l).asgAck = some (mkMsg 0x81 (msgTxid msg) [0, 0x02])) ∧
  (∀ (l : Leg) (msg : BitVec 384) (s : State), Hears s l → s.takes l 0x03 msg false 0 = true → s.hasTn l = true → s.eqdBad l (mfield msg 6 1
    % 2 == 1) (mfield msg 7 4) (mfield msg 11 6) = false → s.effOk l (mfield msg 11 6) = true → ∃ t, exec (.eqdSet l msg) s = .next t ∧ (t.leg
    l).eqdPend = addEqd
    { eff := mfield msg 11 6, relative := mfield msg 6 1 % 2 == 1, val := if mfield msg 6 1 % 2 == 1 then signed 26 (mfield msg 7 4) else (mfield msg 7 4 : Int), rwave := (s.leg l).lastRangeWave }
    (s.leg l).eqdPend ∧ t.rd Reg.ACT_EQD_PENDING l.n = 1 ∧ Acked l msg 0x03 0 s t) ∧
  (∀ (l : Leg) (msg : BitVec 384) (s : State), Hears s l → s.takes l 0x03 msg false 0 = true → s.hasTn l = false → ∃ t, exec (.eqdSet l msg)
    s = .next t ∧ Counted Reg.ACT_CNT_EQD_REFUSED l.n 0 1 s t ∧ (t.leg l).eqdPend = (s.leg l).eqdPend) ∧
  (∀ (l : Leg) (msg : BitVec 384) (s : State), Hears s l → s.takes l 0x04 msg false 0 = true → s.fwPresent = true ∨ mfield msg 6 1 % 2 = 0 →
    s.hasTn l = true → mfield msg 8 2 % 2 ^ 14 ≤ 0x2FFF → s.effOk l (mfield msg 10 6) = true → (List.range 128).any (fun c => c != mfield msg 7
    1 % 128 && s.ctnAt l c (mfield msg 10 6) == mfield msg 8 2 % 2 ^ 14 + 1) = false → ∃ t, exec (.container l msg) s = .next t ∧ t.rd
    Reg.HG_LATCH_PENDING l.n (mfield msg 7 1 % 128) = 1 ∧ Acked l msg 0x04 0 s t) ∧
  (∀ (l : Leg) (msg : BitVec 384) (s : State), Hears s l → s.takes l 0x05 msg false 0 = true → s.rd Reg.ACT_STATUS_STATE l.n ≠ 0 → ∃ t, exec
    (.deactivate l msg) s = .next t ∧ Counted Reg.ACT_CNT_DEACTIVATIONS l.n 0 1 s t ∧ t.rd Reg.ACT_STATUS_STATE l.n = 1 ∧ t.rd
    Reg.ACT_STATUS_TN_VALID l.n = 0 ∧ t.rd Reg.HG_STATUS_TN_VALID l.n = 0) ∧
  (∀ (l : Leg) (msg : BitVec 384) (s : State), Hears s l → s.takes l 0x09 msg false 0 = true → s.hasTn l = true → 1 ≤ mfield msg 6 2 → mfield
    msg 6 2 ≤ 1024 → ∃ t, exec (.keepRanged l msg) s = .next t ∧ t.rd Reg.ACT_KR_CTL_INTERVAL_SF l.n = mfield msg 6 2 ∧ Acked l msg 0x09 0 s t) ∧
  (∀ (l : Leg) (msg : BitVec 384) (s : State), Hears s l → s.takes l 0x09 msg false 0 = true → s.hasTn l = true → mfield msg 6 2 = 0 ∨ 1024 <
    mfield msg 6 2 → ∃ t, exec (.keepRanged l msg) s = .next t ∧ t.rd Reg.ACT_KR_CTL_INTERVAL_SF l.n = s.rd Reg.ACT_KR_CTL_INTERVAL_SF l.n ∧
    Acked l msg 0x09 2 s t)

/-- Each message in its place of a D0 frame. One whose MCRC is wrong is counted and brings no ACK. One of an unknown type with a right MCRC
that carries the leg's terminal number is counted and answered INVALID. A KEEP_RANGED that repeats one answered with a status, within the
horizon of R67, is counted as a duplicate and answered with that status again, and leaves the interval as it was. Shown to complete, under
conditions on the state and the operands alone: MSG_CRC_ERR, MSG_UNKNOWN, KEEP_RANGED. Rests on R63, R67, R68. -/
def Obligations.MessagesAreCheckedAndDuplicatesAnswered : Prop :=
  (∀ (l : Leg) (msg : BitVec 384) (s : State), Hears s l → mcrcOk msg = false → ∃ t, exec (.msgCrcErr l msg) s = .next t ∧ Counted
    Reg.LINE_D0CNT_MSG_CRC_ERR l.n 0 1 s t ∧ (t.leg l).acks = (s.leg l).acks) ∧
  (∀ (l : Leg) (msg : BitVec 384) (s : State), Hears s l → knownType (msgType msg) = false → mcrcOk msg = true → s.hasTn l = true → msgTn msg
    = s.rd Reg.ACT_STATUS_TN l.n → ∃ t, exec (.msgUnknown l msg) s = .next t ∧ Counted Reg.LINE_D0CNT_MSG_UNKNOWN l.n 0 1 s t ∧ Acked l msg
    (msgType msg) 2 s t) ∧
  (∀ (l : Leg) (msg : BitVec 384) (s : State), Hears s l → knownType (msgType msg) = false → mcrcOk msg = false → ∃ t, exec (.msgUnknown l
    msg) s = .next t ∧ Counted Reg.LINE_D0CNT_MSG_CRC_ERR l.n 0 1 s t ∧ (t.leg l).acks = (s.leg l).acks) ∧
  (∀ (l : Leg) (msg : BitVec 384) (e : Seen) (st : Nat) (s : State), Hears s l → msgType msg = 0x09 → mcrcOk msg = true → s.addressed l msg
    false = true → s.hasTn l = true → s.dupOf l 0x09 (msgTxid msg) 0 = some e → e.status = some st → ∃ t, exec (.keepRanged l msg) s = .next t
    ∧ Counted Reg.LINE_D0CNT_MSG_DUP l.n 0 1 s t ∧ Acked l msg 0x09 st s t ∧ t.rd Reg.ACT_KR_CTL_INTERVAL_SF l.n = s.rd
    Reg.ACT_KR_CTL_INTERVAL_SF l.n)

/-- PROFILE_EFFECTIVE for profile 0 to 3: the profile that the staged ones put in force at D0's superframe stands in all fields of its entry in
the receiver, and the headgate's own copy is its own staged one. CONTAINER_EFFECTIVE for slot 0 to 127: of the staged changes of the slot,
in the scheduler and in the headgate, those of a later superframe than the one that the present BWmap allocates stay staged and the others
leave; where the upstream frame now sent is of that superframe or later, no change was waiting for its upstream frame and the staged ones
stand in order, the headgate's latch shows the container that they put in force at that superframe. EQD_APPLY, where the first pending
EQD_SET's superframe has come: the EqD becomes ACT_EQD.NEXT, the item leaves the pending ones and the change is counted.
REGISTRATION_TIMEOUT, in REGISTERING with no burst scheduled: a collision is counted and the state is BACKOFF with the drawn number of
windows to skip. RANGING_TIMEOUT in RANGING: the state is LISTENING and the number is dropped in activation and headgate. RANGE_MISS with a
number: a miss is counted and RNG_LOSS declared, once for a gap. WAKE_ATTEMPT_TIMEOUT on the kept leg with a wake request open and a wake
burst sent: the attempt counts as unanswered and its skip is drawn. ACT_CTL written by an agent that reaches it: ENABLE 1 on a DISABLED leg
that has not failed makes it LISTENING; ENABLE 0 on an enabled leg makes it DISABLED without a number. Shown to complete, under conditions
on the state and the operands alone: PROFILE_EFFECTIVE, CONTAINER_EFFECTIVE, EQD_APPLY, REGISTRATION_TIMEOUT, RANGING_TIMEOUT, RANGE_MISS,
WAKE_ATTEMPT_TIMEOUT, ACT_CTL_WRITE. Rests on R66, R74, R78, R79, R81, R84, R86, R254. -/
def Obligations.StagedItemsTakeEffectAndTimersExpire : Prop :=
  (∀ (l : Leg) (p : Nat) (v : Prof) (s : State), p < 4 → s.profAt l p (s.cur l) = v → ∃ t, exec (.profileEffective l p) s = .next t ∧ t.rd
    Reg.LINE_PROF_PRE_GRAINS l.n p = v.preGrains % 2 ^ Reg.LINE_PROF_PRE_GRAINS.width ∧ t.rd Reg.LINE_PROF_WAVES l.n p = v.waves % 2 ^
    Reg.LINE_PROF_WAVES.width ∧ t.rd Reg.LINE_PROF_PRE_PAT l.n p = v.prePat % 2 ^ Reg.LINE_PROF_PRE_PAT.width ∧ t.rd Reg.LINE_PROF_DLM_GRAINS
    l.n p = v.dlmGrains % 2 ^ Reg.LINE_PROF_DLM_GRAINS.width ∧ t.rd2 Reg.LINE_PROF_DLM_LO Reg.LINE_PROF_DLM_HI l.n p = v.dlmWord % 2 ^ 64 ∧
    t.rd Reg.LINE_PROF_VALID l.n p = b2n v.valid ∧ (t.leg l).hgProf.get p = s.hgProfAt l p (s.cur l)) ∧
  (∀ (l : Leg) (slot : Nat) (sfc : Nat) (s : State), slot < 128 → (s.d0Key l + 2) / 8 = sfc → ∃ t, exec (.containerEffective l slot) s =
    .next t ∧ Tab.get [] slot (t.leg l).ctnPend = (Tab.get [] slot (s.leg l).ctnPend).filter (fun x => sfc < x.eff) ∧ Tab.get [] slot (t.leg
    l).hgPend = (Tab.get [] slot (s.leg l).hgPend).filter (fun x => sfc < x.eff)) ∧
  (∀ (l : Leg) (slot : Nat) (id sfc : Nat) (s : State), slot < 128 → (s.d0Key l + 2) / 8 = sfc → sfc ≤ (s.leg l).upSfc → Tab.get [] slot
    (s.leg l).hgDue = [] → (Tab.get [] slot (s.leg l).hgPend).Pairwise (fun x y => x.eff < y.eff) → s.hgAt l slot sfc = id + 1 → id < 2 ^ 14 →
    ∃ t, exec (.containerEffective l slot) s = .next t ∧ t.rd Reg.HG_LATCH_ALLOC_ID l.n slot = id ∧ t.rd Reg.HG_LATCH_VALID l.n slot = 1) ∧
  (∀ (l : Leg) (p : EqdPend) (r : List EqdPend) (s : State), (s.leg l).eqdPend = p :: r → p.eff ≤ s.cur l → ∃ t, exec (.eqdApply l) s = .next
    t ∧ t.rd Reg.ACT_EQD_EQD_FINE l.n = s.rd Reg.ACT_EQD_NEXT l.n % 64 ∧ t.rd Reg.ACT_EQD_EQD_GRAINS l.n = s.rd Reg.ACT_EQD_NEXT l.n / 64 % 2 ^
    Reg.ACT_EQD_EQD_GRAINS.width ∧ Counted Reg.ACT_CNT_EQD_APPLIED l.n 0 1 s t ∧ (t.leg l).eqdPend = r) ∧
  (∀ (l : Leg) (s : State), s.rd Reg.ACT_STATUS_STATE l.n = 2 → (s.leg l).scheduled = false → ∃ t, exec (.registrationTimeout l) s = .next t
    ∧ t.rd Reg.ACT_STATUS_STATE l.n = 3 ∧ Counted Reg.ACT_CNT_REG_COLLISIONS l.n 0 1 s t ∧ t.rd Reg.ACT_ATTEMPT_SKIP_LEFT l.n = drawBelow
    s.freeIdx (2 ^ min 8 (s.rd Reg.ACT_ATTEMPT_ATTEMPTS l.n))) ∧
  (∀ (l : Leg) (s : State), s.rd Reg.ACT_STATUS_STATE l.n = 4 → ∃ t, exec (.rangingTimeout l) s = .next t ∧ t.rd Reg.ACT_STATUS_STATE l.n = 1
    ∧ t.rd Reg.ACT_STATUS_TN_VALID l.n = 0 ∧ t.rd Reg.HG_STATUS_TN_VALID l.n = 0) ∧
  (∀ (l : Leg) (s : State), s.hasTn l = true → (s.leg l).rangeMissed = false → ∃ t, exec (.rangeMiss l) s = .next t ∧ Counted
    Reg.ACT_CNT_RANGE_MISSES l.n 0 1 s t ∧ t.isOn Reg.PROT_DEF_RNG_LOSS l.n = true ∧ (t.leg l).rangeMissed = true) ∧
  (∀ (l : Leg) (s : State), (s.leg l).rangeMissed = true → exec (.rangeMiss l) s = .next s) ∧
  (∀ (l : Leg) (s : State), s.pwr.wakeReq.isSome = true → s.kept = l → (s.leg l).wakeSent = true → ∃ t, exec (.wakeAttemptTimeout l) s =
    .next t ∧ (t.leg l).wakeN = (s.leg l).wakeN + 1 ∧ (t.leg l).wakeSkip = drawBelow s.freeIdx (2 ^ min 8 ((s.leg l).wakeN + 1)) ∧ (t.leg
    l).wakeSent = false) ∧
  (∀ (ag : Agent) (l : Leg) (v : BitVec 32) (s : State), s.reach ag = true → v.toNat % 2 = 1 → s.rd Reg.ACT_STATUS_STATE l.n = 0 → (s.leg
    l).failed = false → ∃ t, exec (.actCtlWrite ag l v) s = .next t ∧ t.rd Reg.ACT_CTL_ENABLE l.n = 1 ∧ t.rd Reg.ACT_STATUS_STATE l.n = 1) ∧
  (∀ (ag : Agent) (l : Leg) (v : BitVec 32) (s : State), s.reach ag = true → v.toNat % 2 = 0 → s.isOn Reg.ACT_CTL_ENABLE l.n = true → ∃ t,
    exec (.actCtlWrite ag l v) s = .next t ∧ t.rd Reg.ACT_CTL_ENABLE l.n = 0 ∧ t.rd Reg.ACT_STATUS_STATE l.n = 0 ∧ t.rd Reg.ACT_STATUS_TN_VALID
    l.n = 0)

/-- WINDOW_OPEN on wave 0 or 1, for the allocation of the present upstream frame that starts there and was decided open (or dark for its role
alone), is neither withdrawn nor opened: where every row of R87 allows it still, the window is counted with its grains; where one refuses
it, it is counted under that refusal and no window is. WINDOW_END of an open window on wave 0 or 1 closes it; with light seen it adds the
window's nanoseconds to the laser's on-time and no dark window, without light it counts a dark window; on a wave without an open window it
changes nothing. ROGUE_LATCH on wave 0 or 1, with at least FILTER samples, no window open on the wave, the last window's tail past and
ROGUE not set: ROGUE is latched, MA_TXDIS asserted and the latch counted; with fewer samples nothing changes. EMERGENCY_STOP that the
terminal acts on, with ESTOP not set, latches ESTOP and asserts MA_TXDIS; ROGUE_RELEASE that it acts on clears both latches and, on a leg
with a terminal number, is acknowledged OK. HG_CTL written by an agent that reaches it sets TX_ALLOW; with FORCE_TXDIS = 1 it sets
FORCE_TXDIS and asserts MA_TXDIS; with FORCE_TXDIS = 0 it clears FORCE_TXDIS, or leaves it while a safety fault stands. Shown to complete,
under conditions on the state and the operands alone: WINDOW_OPEN, WINDOW_END, ROGUE_LATCH, EMERGENCY_STOP, ROGUE_RELEASE, HG_CTL_WRITE.
Rests on R87, R88, R92, R93, R95, R96, R97. -/
def Obligations.HeadgateOpensEndsAndStops : Prop :=
  (∀ (l : Leg) (u : Nat) (start : Nat) (a : Alloc) (s : State), u < 2 → (s.leg l).allocs.find? (fun a => a.key == upKey (s.leg l).upSfc
    (s.leg l).upFn && a.wave == u && a.start == start && (a.hgOpen || a.role) && !a.withdrawn && !a.opened) = some a → s.refusal l a
    (s.hgSlotFor l a.id a.sfc) false 0 = none → ∃ t, exec (.windowOpen l u start) s = .next t ∧ Counted Reg.HG_CNT_WINDOWS l.n 0 1 s t ∧
    Counted Reg.HG_CNT_GRAINS l.n 0 a.grains s t) ∧
  (∀ (l : Leg) (u : Nat) (start : Nat) (a : Alloc) (R : Row) (s : State), u < 2 → (s.leg l).allocs.find? (fun a => a.key == upKey (s.leg
    l).upSfc (s.leg l).upFn && a.wave == u && a.start == start && (a.hgOpen || a.role) && !a.withdrawn && !a.opened) = some a → s.refusal l a
    (s.hgSlotFor l a.id a.sfc) false 0 = some R → ∃ t, exec (.windowOpen l u start) s = .next t ∧ Counted R l.n 0 1 s t ∧ t.rd
    Reg.HG_CNT_WINDOWS l.n = s.rd Reg.HG_CNT_WINDOWS l.n) ∧
  (∀ (l : Leg) (u : Nat) (light : Bool) (w : Win) (s : State), u < 2 → s.win l u = some w → light = true → ∃ t, exec (.windowEnd l u light) s
    = .next t ∧ t.win l u = none ∧ Counted Reg.OPT_LIFE_ON_NS l.n u w.alloc.winNs s t ∧ t.rd Reg.HG_CNT_TX_DARK l.n = s.rd Reg.HG_CNT_TX_DARK
    l.n) ∧
  (∀ (l : Leg) (u : Nat) (light : Bool) (w : Win) (s : State), u < 2 → s.win l u = some w → light = false → ∃ t, exec (.windowEnd l u light)
    s = .next t ∧ t.win l u = none ∧ Counted Reg.HG_CNT_TX_DARK l.n 0 1 s t) ∧
  (∀ (l : Leg) (u : Nat) (light : Bool) (s : State), s.win l u = none → exec (.windowEnd l u light) s = .next s) ∧
  (∀ (l : Leg) (u : Nat) (samples : Nat) (s : State), u < 2 → rogueFilter (s.rd Reg.HG_ROGUE_CTL_FILTER l.n) ≤ samples → s.win l u = none →
    s.tailEnd l u ≤ s.run16 → s.isOn Reg.HG_STATUS_ROGUE l.n = false → ∃ t, exec (.rogueLatch l u samples) s = .next t ∧ t.rd
    Reg.HG_STATUS_ROGUE l.n = 1 ∧ t.rd Reg.HG_STATUS_TXDIS l.n = 1 ∧ Counted Reg.HG_CNT_ROGUE_EVENTS l.n 0 1 s t) ∧
  (∀ (l : Leg) (u : Nat) (samples : Nat) (s : State), samples < rogueFilter (s.rd Reg.HG_ROGUE_CTL_FILTER l.n) → exec (.rogueLatch l u
    samples) s = .next s) ∧
  (∀ (l : Leg) (msg : BitVec 384) (s : State), Hears s l → s.takes l 0x06 msg true 0 = true → s.isOn Reg.HG_STATUS_ESTOP l.n = false → ∃ t,
    exec (.emergencyStop l msg) s = .next t ∧ t.rd Reg.HG_STATUS_ESTOP l.n = 1 ∧ t.rd Reg.HG_STATUS_TXDIS l.n = 1) ∧
  (∀ (l : Leg) (msg : BitVec 384) (s : State), Hears s l → s.takes l 0x07 msg true 0 = true → s.hasTn l = true → ∃ t, exec (.rogueRelease l
    msg) s = .next t ∧ t.rd Reg.HG_STATUS_ROGUE l.n = 0 ∧ t.rd Reg.HG_STATUS_ESTOP l.n = 0 ∧ Acked l msg 0x07 0 s t) ∧
  (∀ (l : Leg) (msg : BitVec 384) (s : State), Hears s l → s.takes l 0x07 msg true 0 = true → s.hasTn l = false → ∃ t, exec (.rogueRelease l
    msg) s = .next t ∧ t.rd Reg.HG_STATUS_ROGUE l.n = 0 ∧ t.rd Reg.HG_STATUS_ESTOP l.n = 0) ∧
  (∀ (ag : Agent) (l : Leg) (v : BitVec 32) (s : State), s.reach ag = true → bit v.toNat 1 = 1 → ∃ t, exec (.hgCtlWrite ag l v) s = .next t ∧
    t.rd Reg.HG_CTL_TX_ALLOW l.n = bit v.toNat 0 ∧ t.rd Reg.HG_CTL_FORCE_TXDIS l.n = 1 ∧ t.rd Reg.HG_STATUS_TXDIS l.n = 1) ∧
  (∀ (ag : Agent) (l : Leg) (v : BitVec 32) (s : State), s.reach ag = true → bit v.toNat 1 = 0 → s.rd Reg.OPT_SAFE_CAUSE l.n ≠ 0 → ∃ t, exec
    (.hgCtlWrite ag l v) s = .next t ∧ t.rd Reg.HG_CTL_TX_ALLOW l.n = bit v.toNat 0 ∧ t.rd Reg.HG_CTL_FORCE_TXDIS l.n = s.rd
    Reg.HG_CTL_FORCE_TXDIS l.n) ∧
  (∀ (ag : Agent) (l : Leg) (v : BitVec 32) (s : State), s.reach ag = true → bit v.toNat 1 = 0 → s.rd Reg.OPT_SAFE_CAUSE l.n = 0 → ∃ t, exec
    (.hgCtlWrite ag l v) s = .next t ∧ t.rd Reg.HG_CTL_TX_ALLOW l.n = bit v.toNat 0 ∧ t.rd Reg.HG_CTL_FORCE_TXDIS l.n = 0)

/-- At the start of an upstream frame the leg stands at that frame and holds, of earlier frames, only allocations that opened in the last 16
frames. A transmit lane of wave 0 or 1 that is gated and has an allocation decided open, not yet opened and not withdrawn, is powered; a
lane that is not gated stays as it is. An ALLOC_REVISE that the terminal acts on: where it names no allocation of the leg, it is counted as
ignored and changes no allocation; where the window of the one it names has opened, it is counted as ignored and as late and changes none;
where it names one whose window has not opened but is not for the frame after D0's present one, it is counted as ignored and changes none;
where it is, and LEN is 0, every copy of the allocation is withdrawn. Shown to complete, under conditions on the state and the operands
alone: UPSTREAM_FRAME_START, LANE_POWER_UP, ALLOC_REVISE. Rests on R56, R57, R171, R393. -/
def Obligations.UpstreamFramesAndRevisions : Prop :=
  (∀ (l : Leg) (sfc : BitVec 48) (fn : Nat) (s : State), fn < 8 → ∃ t, exec (.upstreamFrameStart l sfc fn) s = .next t ∧ (t.leg l).upSfc =
    sfc.toNat ∧ (t.leg l).upFn = fn ∧ (t.leg l).allocs.all (fun a => a.key ≥ upKey sfc.toNat fn || (a.opened && a.key + 16 ≥ upKey sfc.toNat
    fn)) = true) ∧
  (∀ (l : Leg) (u : Nat) (s : State), u < 2 → s.rd Reg.OPT_LANE_MODE l.n (4 + u) = 4 → (s.leg l).allocs.any (fun a => a.wave == u && a.hgOpen
    && !a.opened && !a.withdrawn) = true → exec (.lanePowerUp l u) s = .next (s.wr Reg.OPT_LANE_MODE 5 l.n (4 + u))) ∧
  (∀ (l : Leg) (u : Nat) (s : State), s.rd Reg.OPT_LANE_MODE l.n (4 + u) ≠ 4 → exec (.lanePowerUp l u) s = .next s) ∧
  (∀ (l : Leg) (msg : BitVec 384) (s : State), Hears s l → s.takes l 0x08 msg false 0 = true → (s.leg l).allocs.find? (fun a => a.key ==
    upKey (mfield msg 6 6) (mfield msg 12 1 % 8) && a.wave == bit (mfield msg 12 1) 3 && a.id == mfield msg 13 2 % 2 ^ 14 && a.start == mfield
    msg 15 3 % 2 ^ 17 && !a.withdrawn) = none → ∃ t, exec (.allocRevise l msg) s = .next t ∧ Counted Reg.LINE_D0CNT_REVISE_IGNORED l.n 0 1 s t
    ∧ (t.leg l).allocs = (s.leg l).allocs) ∧
  (∀ (l : Leg) (msg : BitVec 384) (a : Alloc) (s : State), Hears s l → s.takes l 0x08 msg false 0 = true → (s.leg l).allocs.find? (fun a =>
    a.key == upKey (mfield msg 6 6) (mfield msg 12 1 % 8) && a.wave == bit (mfield msg 12 1) 3 && a.id == mfield msg 13 2 % 2 ^ 14 && a.start
    == mfield msg 15 3 % 2 ^ 17 && !a.withdrawn) = some a → a.opened = true → ∃ t, exec (.allocRevise l msg) s = .next t ∧ Counted
    Reg.LINE_D0CNT_REVISE_IGNORED l.n 0 1 s t ∧ (t.leg l).allocs = (s.leg l).allocs ∧ Counted Reg.USCH_CNT_REVISE_LATE 0 0 1 s t) ∧
  (∀ (l : Leg) (msg : BitVec 384) (a : Alloc) (s : State), Hears s l → s.takes l 0x08 msg false 0 = true → (s.leg l).allocs.find? (fun a =>
    a.key == upKey (mfield msg 6 6) (mfield msg 12 1 % 8) && a.wave == bit (mfield msg 12 1) 3 && a.id == mfield msg 13 2 % 2 ^ 14 && a.start
    == mfield msg 15 3 % 2 ^ 17 && !a.withdrawn) = some a → a.opened = false → upKey (mfield msg 6 6) (mfield msg 12 1 % 8) ≠ s.d0Key l + 1 → ∃
    t, exec (.allocRevise l msg) s = .next t ∧ Counted Reg.LINE_D0CNT_REVISE_IGNORED l.n 0 1 s t ∧ (t.leg l).allocs = (s.leg l).allocs) ∧
  (∀ (l : Leg) (msg : BitVec 384) (a : Alloc) (s : State), Hears s l → s.takes l 0x08 msg false 0 = true → (s.leg l).allocs.find? (fun a =>
    a.key == upKey (mfield msg 6 6) (mfield msg 12 1 % 8) && a.wave == bit (mfield msg 12 1) 3 && a.id == mfield msg 13 2 % 2 ^ 14 && a.start
    == mfield msg 15 3 % 2 ^ 17 && !a.withdrawn) = some a → a.opened = false → upKey (mfield msg 6 6) (mfield msg 12 1 % 8) = s.d0Key l + 1 →
    mfield msg 21 3 % 2 ^ 17 = 0 → ∃ t, exec (.allocRevise l msg) s = .next t ∧ (t.leg l).allocs.all (fun b => !(b.same a) || b.withdrawn) =
    true)

/-- A wave of 0 to 3 that takes no channel frame at the offset (not in SYNC, partitions of D0 unread, asleep, or an offset where none begins)
ignores it. Where it takes one and is not hunting: a header whose HEC fails is counted and starts a hunt with one LINE_HEC drop; a header
rejected for its length, its PTI or its end likewise counts as invalid and starts a hunt with a LINE_HEC drop; a header whose SEQ does not
exceed the last is counted as invalid with one LINE_INVALID drop. A header that does not resume a hunt is skipped. A frame whose header
stands and that touches an uncorrected codeword is dropped LINE_UNCORRECTED, its SEQ noted where it is a data frame; a fill frame that
touches none changes nothing. On the wave whose frames are delivered, a data frame with no error in the pipeline's table: of a stream
without an entry, with learning off and the action DROP, is dropped UNKNOWN_STREAM; an encrypted one whose key is not there is dropped
KEY_INVALID; in neither case does it enter the packet buffer. Shown to complete, under conditions on the state and the operands alone:
CHANNEL_FRAME. Rests on R45, R50, R51, R52, R177, R207. -/
def Obligations.ChannelFramesAreDelineated : Prop :=
  (∀ (l : Leg) (w : Nat) (off : Nat) (hdr : BitVec 64) (payload : List Byte) (next : BitVec 64) (ecc : Option Nat) (s : State), ¬ Reads s l w
    off → exec (.channelFrame l w off hdr payload next ecc) s = .next s) ∧
  (∀ (l : Leg) (w : Nat) (off : Nat) (hdr : BitVec 64) (payload : List Byte) (next : BitVec 64) (ecc : Option Nat) (s : State), w < 4 → Reads
    s l w off → (s.wave l w).hunting = false → hecOk hdr.toNat = false → ∃ t, exec (.channelFrame l w off hdr payload next ecc) s = .next t ∧
    Counted Reg.LINE_WCNT_CF_HEC_ERR l.n w 1 s t ∧ (t.wave l w).hunting = true ∧ Dropped l 1 s t) ∧
  (∀ (l : Leg) (w : Nat) (off : Nat) (hdr : BitVec 64) (payload : List Byte) (next : BitVec 64) (ecc : Option Nat) (s : State), w < 4 → Reads
    s l w off → (s.wave l w).hunting = false → hecOk hdr.toNat = true → hdrBad off hdr.toNat = true → ∃ t, exec (.channelFrame l w off hdr
    payload next ecc) s = .next t ∧ Counted Reg.LINE_WCNT_CF_INVALID l.n w 1 s t ∧ (t.wave l w).hunting = true ∧ Dropped l 1 s t) ∧
  (∀ (l : Leg) (w : Nat) (off : Nat) (hdr : BitVec 64) (payload : List Byte) (next : BitVec 64) (ecc : Option Nat) (s : State), w < 4 → Reads
    s l w off → (s.wave l w).hunting = false → hecOk hdr.toNat = true → hdrBad off hdr.toNat = false → (s.wave l w).seqBad hdr.toNat = true → ∃
    t, exec (.channelFrame l w off hdr payload next ecc) s = .next t ∧ Counted Reg.LINE_WCNT_CF_INVALID l.n w 1 s t ∧ Dropped l 2 s t) ∧
  (∀ (l : Leg) (w : Nat) (off : Nat) (hdr : BitVec 64) (payload : List Byte) (next : BitVec 64) (ecc : Option Nat) (s : State), (s.wave l
    w).hunting = true → (s.wave l w).resumes off hdr.toNat next.toNat = false → exec (.channelFrame l w off hdr payload next ecc) s = .next s) ∧
  (∀ (l : Leg) (w : Nat) (off : Nat) (hdr : BitVec 64) (payload : List Byte) (next : BitVec 64) (ecc : Option Nat) (s : State), w < 4 → Reads
    s l w off → (s.wave l w).hunting = false → Stands s l w off hdr.toNat → (s.wave l w).badSpan off hdr.toNat = true → ∃ t, exec
    (.channelFrame l w off hdr payload next ecc) s = .next t ∧ (t.wave l w).lastSeq = (if isData hdr.toNat then some (hdrSeq hdr.toNat) else
    (s.wave l w).lastSeq) ∧ Dropped l 3 s t) ∧
  (∀ (l : Leg) (w : Nat) (off : Nat) (hdr : BitVec 64) (payload : List Byte) (next : BitVec 64) (ecc : Option Nat) (s : State), w < 4 → Reads
    s l w off → (s.wave l w).hunting = false → Stands s l w off hdr.toNat → (s.wave l w).badSpan off hdr.toNat = false → hdrPti hdr.toNat = 3 →
    exec (.channelFrame l w off hdr payload next ecc) s = .next s) ∧
  (∀ (l : Leg) (w : Nat) (off : Nat) (hdr : BitVec 64) (payload : List Byte) (next : BitVec 64) (ecc : Option Nat) (s : State), w < 4 → Reads
    s l w off → (s.wave l w).hunting = false → Stands s l w off hdr.toNat → (s.wave l w).badSpan off hdr.toNat = false → (s.wave l w).deliver =
    true → hdrPti hdr.toNat < 2 → ecc ≠ some (1 + l.n) → bit (s.stream (hdrStream hdr.toNat)) 0 = 0 → s.isOn Reg.STBL_LEARN_CTL_EN = false →
    s.isOn Reg.STBL_UNK_CTL_ACTION = false → ∃ t, exec (.channelFrame l w off hdr payload next ecc) s = .next t ∧ t.host.buf = s.host.buf ∧
    Dropped l 4 s t) ∧
  (∀ (l : Leg) (w : Nat) (off : Nat) (hdr : BitVec 64) (payload : List Byte) (next : BitVec 64) (ecc : Option Nat) (s : State), w < 4 → Reads
    s l w off → (s.wave l w).hunting = false → Stands s l w off hdr.toNat → (s.wave l w).badSpan off hdr.toNat = false → (s.wave l w).deliver =
    true → hdrPti hdr.toNat = 1 → ecc ≠ some (1 + l.n) → bit (s.stream (hdrStream hdr.toNat)) 0 = 1 → s.downKey l (bits (s.stream (hdrStream
    hdr.toNat)) 28 20) (hdrKidx hdr.toNat) = none → ∃ t, exec (.channelFrame l w off hdr payload next ecc) s = .next t ∧ t.host.buf =
    s.host.buf ∧ Dropped l 6 s t)

/-- A frame on a delivered wave whose header stands, without an uncorrected codeword or an error in the pipeline's memories, of a stream with
an entry. Cleartext, of a stream that takes cleartext: where its leaf delivers it and no VLAN check applies and the packet buffer has room,
it enters the packet buffer last, with its stream, version, leg, wave, time and tags; where its leaf drops it, it is dropped CLS_DROP;
where no leaf is found, it is dropped CLS_FAULT. Cleartext of a stream that needs encryption is dropped CLEAR_REFUSED. An encrypted frame
of at least 16 bytes whose key is there and whose tag disagrees counts one frame deciphered and is dropped AUTH_FAIL where a leaf is found.
Only the first case changes the packet buffer. Shown to complete, under conditions on the state and the operands alone: CHANNEL_FRAME.
Rests on R177, R178, R190, R195, R207, R213. -/
def Obligations.ChannelFramesAreClassifiedAndAdmitted : Prop :=
  (∀ (l : Leg) (w : Nat) (off : Nat) (hdr : BitVec 64) (payload : List Byte) (next : BitVec 64) (ecc : Option Nat) (f : Leaf) (s : State), w
    < 4 → Reads s l w off → (s.wave l w).hunting = false → Stands s l w off hdr.toNat → (s.wave l w).badSpan off hdr.toNat = false → (s.wave l
    w).deliver = true → hdrPti hdr.toNat = 0 → ecc = none → bit (s.stream (hdrStream hdr.toNat)) 0 = 1 → bit (s.stream (hdrStream hdr.toNat))
    53 = 0 → s.classify (s.stream (hdrStream hdr.toNat)) (slice payload 0 (hdrPlen hdr.toNat)) = some f → f.action = 1 → bit (s.stream
    (hdrStream hdr.toNat)) 108 = 0 → s.bufUsed + bufCells (slice payload 0 (hdrPlen hdr.toNat)).length ≤ 196608 → ∃ t, exec (.channelFrame l w
    off hdr payload next ecc) s = .next t ∧ t.host.buf = s.host.buf ++ [plainFrame s l w hdr.toNat (s.stream (hdrStream hdr.toNat)) f (slice
    payload 0 (hdrPlen hdr.toNat))]) ∧
  (∀ (l : Leg) (w : Nat) (off : Nat) (hdr : BitVec 64) (payload : List Byte) (next : BitVec 64) (ecc : Option Nat) (f : Leaf) (s : State), w
    < 4 → Reads s l w off → (s.wave l w).hunting = false → Stands s l w off hdr.toNat → (s.wave l w).badSpan off hdr.toNat = false → (s.wave l
    w).deliver = true → hdrPti hdr.toNat = 0 → ecc = none → bit (s.stream (hdrStream hdr.toNat)) 0 = 1 → bit (s.stream (hdrStream hdr.toNat))
    53 = 0 → s.classify (s.stream (hdrStream hdr.toNat)) (slice payload 0 (hdrPlen hdr.toNat)) = some f → f.action = 0 → ∃ t, exec
    (.channelFrame l w off hdr payload next ecc) s = .next t ∧ t.host.buf = s.host.buf ∧ Dropped l 8 s t) ∧
  (∀ (l : Leg) (w : Nat) (off : Nat) (hdr : BitVec 64) (payload : List Byte) (next : BitVec 64) (ecc : Option Nat) (s : State), w < 4 → Reads
    s l w off → (s.wave l w).hunting = false → Stands s l w off hdr.toNat → (s.wave l w).badSpan off hdr.toNat = false → (s.wave l w).deliver =
    true → hdrPti hdr.toNat = 0 → ecc = none → bit (s.stream (hdrStream hdr.toNat)) 0 = 1 → bit (s.stream (hdrStream hdr.toNat)) 53 = 0 →
    s.classify (s.stream (hdrStream hdr.toNat)) (slice payload 0 (hdrPlen hdr.toNat)) = none → ∃ t, exec (.channelFrame l w off hdr payload
    next ecc) s = .next t ∧ t.host.buf = s.host.buf ∧ Dropped l 9 s t) ∧
  (∀ (l : Leg) (w : Nat) (off : Nat) (hdr : BitVec 64) (payload : List Byte) (next : BitVec 64) (ecc : Option Nat) (s : State), w < 4 → Reads
    s l w off → (s.wave l w).hunting = false → Stands s l w off hdr.toNat → (s.wave l w).badSpan off hdr.toNat = false → (s.wave l w).deliver =
    true → hdrPti hdr.toNat = 0 → ecc = none → bit (s.stream (hdrStream hdr.toNat)) 0 = 1 → bit (s.stream (hdrStream hdr.toNat)) 53 = 1 → ∃ t,
    exec (.channelFrame l w off hdr payload next ecc) s = .next t ∧ t.host.buf = s.host.buf ∧ Dropped l 5 s t) ∧
  (∀ (l : Leg) (w : Nat) (off : Nat) (hdr : BitVec 64) (payload : List Byte) (next : BitVec 64) (ecc : Option Nat) (key : Nat) (s : State), w
    < 4 → Reads s l w off → (s.wave l w).hunting = false → Stands s l w off hdr.toNat → (s.wave l w).badSpan off hdr.toNat = false → (s.wave l
    w).deliver = true → hdrPti hdr.toNat = 1 → ecc = none → bit (s.stream (hdrStream hdr.toNat)) 0 = 1 → s.downKey l (bits (s.stream (hdrStream
    hdr.toNat)) 28 20) (hdrKidx hdr.toNat) = some key → 16 ≤ hdrPlen hdr.toNat → (s.decrypt l w key hdr.toNat payload).2 = false → (s.classify
    (s.stream (hdrStream hdr.toNat)) (s.decrypt l w key hdr.toNat payload).1).isSome = true → ∃ t, exec (.channelFrame l w off hdr payload next
    ecc) s = .next t ∧ Counted Reg.CIPH_CNT_DN_FRAMES 0 0 1 s t ∧ t.host.buf = s.host.buf ∧ Dropped l 7 s t)

/-- FRAME_DELIVERY of a ring below 1,024 while the core runs. The oldest buffered frame of the ring, without a mirror copy: where the ring does
not take frames of its function, it leaves the buffer dropped RING_INVALID; where the ring takes it, its function may issue requests, the
completion ring has room, the posts held cover it and its data is whole, it leaves the buffer, the posts it used leave the ring, CONS
passes them and one completion more waits in the completion ring. With no frame for the ring nothing changes. RX_STARVED, where the oldest
frame of a ring that takes it is not covered by the posts held, and the ring was not so marked in this host millisecond: the ring is marked
with the millisecond and the buffer stays as it is; where it was marked in this millisecond, nothing changes. Shown to complete, under
conditions on the state and the operands alone: FRAME_DELIVERY, RX_STARVED. Rests on R195, R196, R296, R297, R177. -/
def Obligations.FramesAreDeliveredToRings : Prop :=
  (∀ (ring : Nat) (ecc : Bool) (s : State), s.host.buf.find? (fun b => s.bufRing b == ring) = none → exec (.frameDelivery ring ecc) s = .next
    s) ∧
  (∀ (ring : Nat) (ecc : Bool) (b : BufFrame) (s : State), s.runs .core = true → s.host.buf.find? (fun b => s.bufRing b == ring) = some b →
    b.mirror = none → s.ringTakes ring b.func = false → ∃ t, exec (.frameDelivery ring ecc) s = .next t ∧ t.host.buf = s.host.buf.erase b ∧
    Dropped b.leg 12 s t) ∧
  (∀ (ring : Nat) (ecc : Bool) (b : BufFrame) (used left : List Post) (s : State), s.runs .core = true → s.host.buf.find? (fun b => s.bufRing
    b == ring) = some b → ring < 1024 → s.ringTakes ring b.func = true → s.canDma b.func = true → s.cqFull (s.rd Reg.HIF_RX_CQ 0 ring) = false
    → takePosts (dropTags b.ntag b.data).length (s.rxr ring).posts = some (used, left) → b.mirror = none → ecc = false → ∃ t, exec
    (.frameDelivery ring ecc) s = .next t ∧ t.host.buf = s.host.buf.erase b ∧ (t.rxr ring).posts = left ∧ Counted Reg.HIF_RX_IDX_CONS 0 ring
    used.length s t ∧ (t.cq (s.rd Reg.HIF_RX_CQ 0 ring)).waiting.length = (s.cq (s.rd Reg.HIF_RX_CQ 0 ring)).waiting.length + 1) ∧
  (∀ (ring : Nat) (b : BufFrame) (s : State), s.host.buf.find? (fun b => s.bufRing b == ring) = some b → s.ringTakes ring b.func = true →
    takePosts (dropTags b.ntag b.data).length (s.rxr ring).posts = none → (s.rxr ring).starvedMs ≠ some s.msNow → ∃ t, exec (.rxStarved ring) s
    = .next t ∧ (t.rxr ring).starvedMs = some s.msNow ∧ t.host.buf = s.host.buf) ∧
  (∀ (ring : Nat) (s : State), (s.rxr ring).starvedMs = some s.msNow → exec (.rxStarved ring) s = .next s)

/-- TOKEN_REFILL while the core runs: each bucket of a shaped queue, and of a shaped container slot 0 to 127, gains RATE units up to its size
(the second bucket only in the mode that has two), and the queue's configuration and frames stay; a queue that is not shaped stays as it
was. Of the commands of an agent that reaches the registers, outside idle: RESET_BUCKETS fills the buckets of the queue selected (the
second in the mode that has two), clears its credit and reports OK; USCH_RESET with none running clears the credit of every queue, sets
RESET_BUSY and counts a fall-back entry, and while one is running changes nothing. USCH_RESET_DONE clears RESET_BUSY. Shown to complete,
under conditions on the state and the operands alone: TOKEN_REFILL, RESET_BUCKETS, USCH_RESET, USCH_RESET_DONE. Rests on R151, R152, R155,
R176. -/
def Obligations.ShapersRefillAndReset : Prop :=
  (∀ (q : Nat) (s : State), s.runs .core = true → (s.txq q).cfg.shapeEn = true → ∃ t, exec .tokenRefill s = .next t ∧ (t.txq q).b0 = (s.txq
    q).b0.refill (rateOf (s.txq q).cfg.rate0) (s.txq q).cfg.size0 ∧ (t.txq q).b1 = (if (s.txq q).cfg.mode = 2 then (s.txq q).b1.refill (rateOf
    (s.txq q).cfg.rate1) (s.txq q).cfg.size1 else (s.txq q).b1) ∧ (t.txq q).cfg = (s.txq q).cfg ∧ (t.txq q).frames = (s.txq q).frames) ∧
  (∀ (c : Nat) (s : State), s.runs .core = true → c < 128 → s.isOn Reg.USCH_CT_CTL_SHAPE_EN 0 c = true → ∃ t, exec .tokenRefill s = .next t ∧
    (t.slotSt c).b0 = (s.slotSt c).b0.refill (rateOf (s.rd Reg.USCH_CT_RATE0 0 c)) (s.ctSize0 c) ∧ (t.slotSt c).b1 = (if s.rd
    Reg.USCH_CT_CTL_SMODE 0 c = 2 then (s.slotSt c).b1.refill (rateOf (s.rd Reg.USCH_CT_RATE1 0 c)) (s.ctSize1 c) else (s.slotSt c).b1)) ∧
  (∀ (q : Nat) (s : State), (s.txq q).cfg.shapeEn = false → ∃ t, exec .tokenRefill s = .next t ∧ t.txq q = s.txq q) ∧
  (∀ (ag : Agent) (s : State), s.reach ag = true → s.rd Reg.PWR_STATUS_STATE ≠ 1 → ∃ t, exec (.resetBuckets ag) s = .next t ∧ t.rdA ag
    Reg.USCH_QCMD_STATUS = 0 ∧ (t.txq (s.rdA ag Reg.USCH_QIDX)).credit = 0 ∧ (t.txq (s.rdA ag Reg.USCH_QIDX)).b0 = (s.txq (s.rdA ag
    Reg.USCH_QIDX)).b0.full (s.txq (s.rdA ag Reg.USCH_QIDX)).cfg.size0 ∧ (t.txq (s.rdA ag Reg.USCH_QIDX)).b1 = (if (s.txq (s.rdA ag
    Reg.USCH_QIDX)).cfg.mode = 2 then (s.txq (s.rdA ag Reg.USCH_QIDX)).b1.full (s.txq (s.rdA ag Reg.USCH_QIDX)).cfg.size1 else (s.txq (s.rdA ag
    Reg.USCH_QIDX)).b1)) ∧
  (∀ (ag : Agent) (q : Nat) (s : State), s.reach ag = true → s.rd Reg.PWR_STATUS_STATE ≠ 1 → s.isOn Reg.USCH_STATUS_RESET_BUSY = false → ∃ t,
    exec (.uschReset ag) s = .next t ∧ t.rd Reg.USCH_STATUS_RESET_BUSY = 1 ∧ (t.txq q).credit = 0 ∧ Counted Reg.USCH_CNT_FB_ENTRIES 0 0 1 s t) ∧
  (∀ (ag : Agent) (s : State), s.reach ag = true → s.rd Reg.PWR_STATUS_STATE ≠ 1 → s.isOn Reg.USCH_STATUS_RESET_BUSY = true → exec
    (.uschReset ag) s = .next s) ∧
  (∀ (s : State), exec .uschResetDone s = .next (s.wr Reg.USCH_STATUS_RESET_BUSY 0))

/-- Of the commands of an agent that reaches the registers, outside idle. QUEUE_WRITE takes the agent's configuration words into the queue
selected, its buckets following, and reports OK; where it would change MODE while a bucket has tokens reserved it reports BUSY and leaves
the queue. QUEUE_READ puts the queue's configuration, levels, reserved tokens, credit, head and block reason into the agent's words and
reports OK. Of the words of container slot 0 to 127: RATE0 is taken and no bucket moves; the first word, where no rule refuses its OWNER,
is taken field by field; where one refuses it, the WERR that the rule names is set and nothing else changes. A write of USCH_AUD_CTL with
SNAP = 1 selects slot and bucket, counts a snapshot and latches the cells free, reserved and committed. FALLBACK_END of slot 0 to 127 in an
automatic fall-back clears FB_AUTO and leaves FB as DISC says; on a slot in none it changes nothing. Shown to complete, under conditions on
the state and the operands alone: QUEUE_WRITE, QUEUE_READ, CONTAINER_SLOT_WRITE, USCH_AUDIT_SNAP, FALLBACK_END. Rests on R147, R150, R151,
R155, R158, R173, R175. -/
def Obligations.QueueAndContainerTablesAreWritten : Prop :=
  (∀ (ag : Agent) (s : State), s.reach ag = true → s.rd Reg.PWR_STATUS_STATE ≠ 1 → (⟨if s.rdA ag Reg.USCH_QDATA0_MODE = 3 then 0 else s.rdA
    ag Reg.USCH_QDATA0_MODE, decide (s.rdA ag Reg.USCH_QDATA0_SHAPE_EN ≠ 0), s.rdA ag Reg.USCH_QDATA0_OVH, s.rdA ag Reg.USCH_QDATA0_WEIGHT,
    s.rdA ag Reg.USCH_QDATA1_RATE0, s.rdA ag Reg.USCH_QDATA2_BURST0, s.rdA ag Reg.USCH_QDATA3_RATE1, s.rdA ag Reg.USCH_QDATA4_BURST1⟩ :
    QCfg).mode = (s.txq (s.rdA ag Reg.USCH_QIDX)).cfg.mode ∨ ((s.txq (s.rdA ag Reg.USCH_QIDX)).b0.resv = 0 ∧ (s.txq (s.rdA ag
    Reg.USCH_QIDX)).b1.resv = 0) → ∃ t, exec (.queueWrite ag) s = .next t ∧ t.rdA ag Reg.USCH_QCMD_STATUS = 0 ∧ t.txq (s.rdA ag Reg.USCH_QIDX)
    = (s.txq (s.rdA ag Reg.USCH_QIDX)).reconf (⟨if s.rdA ag Reg.USCH_QDATA0_MODE = 3 then 0 else s.rdA ag Reg.USCH_QDATA0_MODE, decide (s.rdA
    ag Reg.USCH_QDATA0_SHAPE_EN ≠ 0), s.rdA ag Reg.USCH_QDATA0_OVH, s.rdA ag Reg.USCH_QDATA0_WEIGHT, s.rdA ag Reg.USCH_QDATA1_RATE0, s.rdA ag
    Reg.USCH_QDATA2_BURST0, s.rdA ag Reg.USCH_QDATA3_RATE1, s.rdA ag Reg.USCH_QDATA4_BURST1⟩ : QCfg)) ∧
  (∀ (ag : Agent) (s : State), s.reach ag = true → s.rd Reg.PWR_STATUS_STATE ≠ 1 → (s.txq (s.rdA ag Reg.USCH_QIDX)).b0.resv ≠ 0 ∨ (s.txq
    (s.rdA ag Reg.USCH_QIDX)).b1.resv ≠ 0 → (⟨if s.rdA ag Reg.USCH_QDATA0_MODE = 3 then 0 else s.rdA ag Reg.USCH_QDATA0_MODE, decide (s.rdA ag
    Reg.USCH_QDATA0_SHAPE_EN ≠ 0), s.rdA ag Reg.USCH_QDATA0_OVH, s.rdA ag Reg.USCH_QDATA0_WEIGHT, s.rdA ag Reg.USCH_QDATA1_RATE0, s.rdA ag
    Reg.USCH_QDATA2_BURST0, s.rdA ag Reg.USCH_QDATA3_RATE1, s.rdA ag Reg.USCH_QDATA4_BURST1⟩ : QCfg).mode ≠ (s.txq (s.rdA ag
    Reg.USCH_QIDX)).cfg.mode → ∃ t, exec (.queueWrite ag) s = .next t ∧ t.rdA ag Reg.USCH_QCMD_STATUS = 1 ∧ t.txq (s.rdA ag Reg.USCH_QIDX) =
    s.txq (s.rdA ag Reg.USCH_QIDX)) ∧
  (∀ (ag : Agent) (s : State), s.reach ag = true → s.rd Reg.PWR_STATUS_STATE ≠ 1 → ∃ t, exec (.queueRead ag) s = .next t ∧ t.rdA ag
    Reg.USCH_QCMD_STATUS = 0 ∧ t.rdA ag Reg.USCH_QDATA0_MODE = ((s.txq (s.rdA ag Reg.USCH_QIDX)).cfg.mode) % 2 ^ Reg.USCH_QDATA0_MODE.width ∧
    t.rdA ag Reg.USCH_QDATA0_SHAPE_EN = (b2n (s.txq (s.rdA ag Reg.USCH_QIDX)).cfg.shapeEn) % 2 ^ Reg.USCH_QDATA0_SHAPE_EN.width ∧ t.rdA ag
    Reg.USCH_QDATA0_OVH = ((s.txq (s.rdA ag Reg.USCH_QIDX)).cfg.ovh) % 2 ^ Reg.USCH_QDATA0_OVH.width ∧ t.rdA ag Reg.USCH_QDATA0_WEIGHT =
    ((s.txq (s.rdA ag Reg.USCH_QIDX)).cfg.weight) % 2 ^ Reg.USCH_QDATA0_WEIGHT.width ∧ t.rdA ag Reg.USCH_QDATA1_RATE0 = ((s.txq (s.rdA ag
    Reg.USCH_QIDX)).cfg.rate0) % 2 ^ Reg.USCH_QDATA1_RATE0.width ∧ t.rdA ag Reg.USCH_QDATA2_BURST0 = ((s.txq (s.rdA ag
    Reg.USCH_QIDX)).cfg.burst0) % 2 ^ Reg.USCH_QDATA2_BURST0.width ∧ t.rdA ag Reg.USCH_QDATA3_RATE1 = ((s.txq (s.rdA ag
    Reg.USCH_QIDX)).cfg.rate1) % 2 ^ Reg.USCH_QDATA3_RATE1.width ∧ t.rdA ag Reg.USCH_QDATA4_BURST1 = ((s.txq (s.rdA ag
    Reg.USCH_QIDX)).cfg.burst1) % 2 ^ Reg.USCH_QDATA4_BURST1.width ∧ t.rdA ag Reg.USCH_QDATA5_LEVEL0 = ((s.txq (s.rdA ag
    Reg.USCH_QIDX)).b0.level / 500) % 2 ^ Reg.USCH_QDATA5_LEVEL0.width ∧ t.rdA ag Reg.USCH_QDATA6_LEVEL1 = ((s.txq (s.rdA ag
    Reg.USCH_QIDX)).b1.level / 500) % 2 ^ Reg.USCH_QDATA6_LEVEL1.width ∧ t.rdA ag Reg.USCH_QDATA7_RESV0 = ((s.txq (s.rdA ag
    Reg.USCH_QIDX)).b0.resv / 500) % 2 ^ Reg.USCH_QDATA7_RESV0.width ∧ t.rdA ag Reg.USCH_QDATA8_CREDIT = (unsigned 32 (s.txq (s.rdA ag
    Reg.USCH_QIDX)).credit) % 2 ^ Reg.USCH_QDATA8_CREDIT.width ∧ t.rdA ag Reg.USCH_QDATA9_HEAD = (b2n (s.txq (s.rdA ag
    Reg.USCH_QIDX)).head.isSome) % 2 ^ Reg.USCH_QDATA9_HEAD.width ∧ t.rdA ag Reg.USCH_QDATA9_BLOCK = (s.blockOf (s.rdA ag Reg.USCH_QIDX)) % 2 ^
    Reg.USCH_QDATA9_BLOCK.width) ∧
  (∀ (ag : Agent) (slot : Nat) (off : Nat) (v : BitVec 32) (s : State), s.reach ag = true → s.rd Reg.PWR_STATUS_STATE ≠ 1 → slot < 128 → off
    = 4 → ∃ t, exec (.containerSlotWrite ag slot off v) s = .next t ∧ t.rd Reg.USCH_CT_RATE0 0 slot = v.toNat % 2 ^ Reg.USCH_CT_RATE0.width ∧
    t.slots = s.slots) ∧
  (∀ (ag : Agent) (slot : Nat) (off : Nat) (v : BitVec 32) (s : State), s.reach ag = true → s.rd Reg.PWR_STATUS_STATE ≠ 1 → slot < 128 → off
    = 0 → s.ownerRefused slot (bits v.toNat 23 16) = none → ∃ t, exec (.containerSlotWrite ag slot off v) s = .next t ∧ t.rd
    Reg.USCH_CT_CTL_DISC 0 slot = bit v.toNat 0 ∧ t.rd Reg.USCH_CT_CTL_SHAPE_EN 0 slot = bit v.toNat 1 ∧ t.rd Reg.USCH_CT_CTL_SMODE 0 slot =
    bits v.toNat 3 2 ∧ t.rd Reg.USCH_CT_CTL_OVH 0 slot = bits v.toNat 11 4 ∧ t.rd Reg.USCH_CT_CTL_OWNER 0 slot = bits v.toNat 23 16) ∧
  (∀ (ag : Agent) (slot : Nat) (off : Nat) (v : BitVec 32) (R : Row) (s : State), s.reach ag = true → s.rd Reg.PWR_STATUS_STATE ≠ 1 → slot <
    128 → off = 0 → s.ownerRefused slot (bits v.toNat 23 16) = some R → exec (.containerSlotWrite ag slot off v) s = .next (s.wr R 1)) ∧
  (∀ (ag : Agent) (v : BitVec 32) (s : State), s.reach ag = true → s.rd Reg.PWR_STATUS_STATE ≠ 1 → bit v.toNat 0 = 1 → ∃ t, exec
    (.uschAuditSnap ag v) s = .next t ∧ t.rd Reg.USCH_AUD_CTL_SLOT = bits v.toNat 14 8 ∧ t.rd Reg.USCH_AUD_CTL_BUCKET = bits v.toNat 29 16 ∧
    Counted Reg.USCH_AUD_STATUS_SNAP_SEQ 0 0 1 s t ∧ t.rd Reg.USCH_AUD_CELL_FREE = s.led.cellFree % 2 ^ Reg.USCH_AUD_CELL_FREE.width ∧ t.rd
    Reg.USCH_AUD_CELL_RESERVED = s.cellsIn false % 2 ^ Reg.USCH_AUD_CELL_RESERVED.width ∧ t.rd Reg.USCH_AUD_CELL_COMMITTED = s.cellsIn true % 2
    ^ Reg.USCH_AUD_CELL_COMMITTED.width) ∧
  (∀ (slot : Nat) (s : State), slot < 128 → (s.slotSt slot).fb = 1 → ∃ t, exec (.fallbackEnd slot) s = .next t ∧ t.rd
    Reg.USCH_CT_STATUS_FB_AUTO 0 slot = 0 ∧ t.rd Reg.USCH_CT_STATUS_FB 0 slot = s.rd Reg.USCH_CT_CTL_DISC 0 slot % 2 ^
    Reg.USCH_CT_STATUS_FB.width ∧ (t.slotSt slot).fb = 0) ∧
  (∀ (slot : Nat) (s : State), (s.slotSt slot).fb ≠ 1 → exec (.fallbackEnd slot) s = .next s)

/-- BURST_BUILD while the core runs, for the next grant to build: a burst of its leg and allocation is held last, the others staying in their
places, and the burst is counted; where the command names no such grant nothing changes. BUILD_DEADLINE of a burst whose frames were all
finished changes nothing; where it is the only burst, its slot is 0 to 127, the core runs and some of its frames were not finished, it
keeps the finished frames only, is counted as late, and one unwinding of its slot is counted with cause 5. Shown to complete, under
conditions on the state and the operands alone: BURST_BUILD, BUILD_DEADLINE. Rests on R163, R164, R165, R161, R169. -/
def Obligations.BurstsAreBuilt : Prop :=
  (∀ (l : Leg) (u : Nat) (start : Nat) (mem : List (Nat × List Byte)) (failed : List (Nat × ReadFault)) (ecc : List Nat) (s : State),
    s.nextBuild l u start = none → exec (.burstBuild l u start mem failed ecc) s = .next s) ∧
  (∀ (l : Leg) (u : Nat) (start : Nat) (mem : List (Nat × List Byte)) (failed : List (Nat × ReadFault)) (ecc : List Nat) (a : Alloc) (s :
    State), s.runs .core = true → s.nextBuild l u start = some a → ∃ t, exec (.burstBuild l u start mem failed ecc) s = .next t ∧ Counted
    Reg.USCH_CNT_BURSTS_BUILT 0 0 1 s t ∧ t.bursts.map (fun b => (b.leg, b.alloc)) = s.bursts.map (fun b => (b.leg, b.alloc)) ++ [(l, a)]) ∧
  (∀ (l : Leg) (u : Nat) (start : Nat) (finished : Nat) (b : Burst) (s : State), (s.reserved l).find? (fun b => b.alloc.wave == u &&
    b.alloc.start == start) = some b → b.frames.length ≤ finished → exec (.buildDeadline l u start finished) s = .next s) ∧
  (∀ (l : Leg) (u : Nat) (start : Nat) (finished : Nat) (b : Burst) (s : State), s.runs .core = true → (s.reserved l).find? (fun b =>
    b.alloc.wave == u && b.alloc.start == start) = some b → s.bursts = [b] → finished < b.frames.length → b.alloc.slot < 128 → ∃ t, exec
    (.buildDeadline l u start finished) s = .next t ∧ Counted Reg.USCH_CNT_BUILD_LATE 0 0 1 s t ∧ t.bursts.map (fun x => (x.alloc, x.frames)) =
    [(b.alloc, b.frames.take finished)] ∧ t.rd Reg.USCH_CT_STATUS_LAST_CAUSE 0 b.alloc.slot = 5 ∧ Counted Reg.USCH_SCNT_UNWINDS 0 b.alloc.slot
    1 s t)

/-- While the TIME domain runs: a tick adds INCR to the counter, which wraps with its 48 bits of seconds, and to the running time, and writes
no register; a limiter step moves INCR by at most 16,967 LSB towards its target, held within the limits of INCR, and moves neither the
counter nor a register; a vote on three equal copies of the counter and of INCR takes them and writes no register; with INCR's copies
equal, two equal copies of the counter win over a third that differs, counted as a correction, and three different ones give their median,
counted as a failure with VOTE_FAIL set. While the management domain runs, with firmware present and SERVO_EN = 1, SERVO_UPDATE sets the
limiter's target and leaves INCR: in HOLDOVER it is INCR_HO within the limits; in ACQUIRING, with an offset past LOCK_Q and INCR at or
beyond the frequency estimate on the side of the offset, it is the limit that removes the offset fastest; in LOCKED it lies within the
limits where the target before did. With firmware absent or SERVO_EN = 0 it changes nothing. Shown to complete, under conditions on the
state and the operands alone: TIME_TICK, LIMITER_STEP, TIME_VOTE, SERVO_UPDATE. Rests on R98, R101, R103, R435. -/
def Obligations.TheCounterTicksAndTheLimiterMoves : Prop :=
  (∀ (s : State), s.runs .time = true → ∃ t, exec .timeTick s = .next t ∧ t.time.now40 = (s.time.now40 + s.time.incr) % (2 ^ 48 * 1000000000
    * 2 ^ 40) ∧ t.time.run40 = s.time.run40 + s.time.incr ∧ t.time.incr = s.time.incr ∧ t.regs = s.regs) ∧
  (∀ (s : State), s.runs .time = true → ∃ t, exec .limiterStep s = .next t ∧ t.time.incr = (if s.time.incr ≤ clampIncr s.time.tgt then min
    (clampIncr s.time.tgt) (s.time.incr + 16967) else max (clampIncr s.time.tgt) (s.time.incr - 16967)) ∧ t.regs = s.regs ∧ t.time.now40 =
    s.time.now40) ∧
  (∀ (c0 : Nat) (c1 : Nat) (c2 : Nat) (i0 : BitVec 48) (i1 : BitVec 48) (i2 : BitVec 48) (s : State), s.runs .time = true → c1 = c0 → c2 = c0
    → i1 = i0 → i2 = i0 → ∃ t, exec (.timeVote c0 c1 c2 i0 i1 i2) s = .next t ∧ t.time.now40 = c0 % counterMod ∧ t.time.incr = i0.toNat ∧
    t.regs = s.regs) ∧
  (∀ (c0 : Nat) (c1 : Nat) (c2 : Nat) (i0 : BitVec 48) (i1 : BitVec 48) (i2 : BitVec 48) (v : Nat) (s : State), s.runs .time = true → (c0 = v
    ∧ c1 = v ∧ c2 ≠ v) ∨ (c0 = v ∧ c2 = v ∧ c1 ≠ v) ∨ (c1 = v ∧ c2 = v ∧ c0 ≠ v) → i1 = i0 → i2 = i0 → ∃ t, exec (.timeVote c0 c1 c2 i0 i1 i2)
    s = .next t ∧ t.time.now40 = v % counterMod ∧ t.time.incr = i0.toNat ∧ Counted Reg.TIME_CNT_VOTE_CORR 0 0 1 s t) ∧
  (∀ (c0 : Nat) (c1 : Nat) (c2 : Nat) (i0 : BitVec 48) (i1 : BitVec 48) (i2 : BitVec 48) (s : State), s.runs .time = true → c0 ≠ c1 → c1 ≠ c2
    → c0 ≠ c2 → i1 = i0 → i2 = i0 → ∃ t, exec (.timeVote c0 c1 c2 i0 i1 i2) s = .next t ∧ t.time.now40 = median c0 c1 c2 % counterMod ∧ Counted
    Reg.TIME_CNT_VOTE_FAIL 0 0 1 s t ∧ t.rd Reg.TIME_STATUS_VOTE_FAIL = 1) ∧
  (∀ (s : State), s.runs .mgmt = true → s.fwPresent = true → s.isOn Reg.TIME_CTL_SERVO_EN = true → s.rd Reg.TIME_QUAL_QUALITY = 3 → ∃ t, exec
    .servoUpdate s = .next t ∧ t.time.tgt = clampIncr s.time.incrHo ∧ t.time.incr = s.time.incr) ∧
  (∀ (th : Int) (s : State), s.runs .mgmt = true → s.fwPresent = true → s.isOn Reg.TIME_CTL_SERVO_EN = true → s.rd Reg.TIME_QUAL_QUALITY = 1
    → (s.leg s.active).theta = some th → (s.rd Reg.TIME_SERVO_CTL_LOCK_Q : Int) * 16384 < th → s.freqNow ≤ s.time.incr → ∃ t, exec .servoUpdate
    s = .next t ∧ t.time.tgt = incrMin ∧ t.time.incr = s.time.incr) ∧
  (∀ (th : Int) (s : State), s.runs .mgmt = true → s.fwPresent = true → s.isOn Reg.TIME_CTL_SERVO_EN = true → s.rd Reg.TIME_QUAL_QUALITY = 1
    → (s.leg s.active).theta = some th → th < -((s.rd Reg.TIME_SERVO_CTL_LOCK_Q : Int) * 16384) → s.time.incr ≤ s.freqNow → ∃ t, exec
    .servoUpdate s = .next t ∧ t.time.tgt = incrMax ∧ t.time.incr = s.time.incr) ∧
  (∀ (s : State), s.runs .mgmt = true → s.fwPresent = true → s.isOn Reg.TIME_CTL_SERVO_EN = true → s.rd Reg.TIME_QUAL_QUALITY = 2 → incrMin ≤
    s.time.tgt → s.time.tgt ≤ incrMax → ∃ t, exec .servoUpdate s = .next t ∧ incrMin ≤ t.time.tgt ∧ t.time.tgt ≤ incrMax ∧ t.time.incr =
    s.time.incr) ∧
  (∀ (s : State), s.fwPresent = false ∨ s.isOn Reg.TIME_CTL_SERVO_EN = false → exec .servoUpdate s = .next s)

/-- QUALITY_EVALUATE, while the management domain runs, with firmware present and the active leg usable: ACQUIRING after the initial step
becomes LOCKED where at least LOCK_SF estimates in a row lay in the lock window, and LOCKED becomes ACQUIRING where at least UNLOCK_SF lay
outside; with firmware absent it changes nothing. HOLDOVER_BOUND_ADVANCE, while the TIME domain runs, counts ELAPSED by one millisecond,
stopping at its width, where R122 applies, and changes nothing where it does not. TOD_MISSING marks a gap of 8 superframes or more and
leaves its length; where the gap is marked it changes nothing. INCR_HO_UPDATE, with firmware present and a leg usable, sets INCR_HO and
y_REF; with y_REF above 40 ppm either way it requests replacement for reason 4; with firmware absent it changes nothing. Shown to complete,
under conditions on the state and the operands alone: QUALITY_EVALUATE, HOLDOVER_BOUND_ADVANCE, TOD_MISSING, INCR_HO_UPDATE. Rests on R39,
R108, R120, R121, R122, R25. -/
def Obligations.QualityHoldoverAndAnnouncements : Prop :=
  (∀ (s : State), s.runs .mgmt = true → s.fwPresent = true → s.legUsable s.active = true → s.rd Reg.TIME_QUAL_QUALITY = 1 → s.isOn
    Reg.TIME_QUAL_STEP_DONE = true → max 1 (s.rd Reg.TIME_SERVO_CTL_LOCK_SF) ≤ s.time.lockRun → ∃ t, exec .qualityEvaluate s = .next t ∧ t.rd
    Reg.TIME_QUAL_QUALITY = 2) ∧
  (∀ (s : State), s.runs .mgmt = true → s.fwPresent = true → s.legUsable s.active = true → s.rd Reg.TIME_QUAL_QUALITY = 2 → max 1 (s.rd
    Reg.TIME_SERVO_CTL_UNLOCK_SF) ≤ s.time.unlockRun → ∃ t, exec .qualityEvaluate s = .next t ∧ t.rd Reg.TIME_QUAL_QUALITY = 1) ∧
  (∀ (s : State), s.fwPresent = false → exec .qualityEvaluate s = .next s) ∧
  (∀ (s : State), s.time.hoOn = false → exec .holdoverBoundAdvance s = .next s) ∧
  (∀ (s : State), s.runs .time = true → s.time.hoOn = true → ∃ t, exec .holdoverBoundAdvance s = .next t ∧ t.rd Reg.TIME_HO_ELAPSED = min
    (s.rd Reg.TIME_HO_ELAPSED + 1) (2 ^ Reg.TIME_HO_ELAPSED.width - 1)) ∧
  (∀ (l : Leg) (n : Nat) (s : State), (s.leg l).todRaised = false → (s.leg l).todSince = some n → 8 ≤ n → ∃ t, exec (.todMissing l) s = .next
    t ∧ (t.leg l).todRaised = true ∧ (t.leg l).todSince = some n) ∧
  (∀ (l : Leg) (s : State), (s.leg l).todRaised = true → exec (.todMissing l) s = .next s) ∧
  (∀ (incrF : BitVec 48) (yref : Int) (y0 : Nat) (s : State), s.fwPresent = true → s.legUsable .a = true ∨ s.legUsable .b = true → ∃ t, exec
    (.incrHoUpdate incrF yref y0) s = .next t ∧ t.time.incrHo = incrHoOf incrF.toNat yref ∧ t.rd Reg.TIME_REF_OFS = unsigned 32 yref) ∧
  (∀ (incrF : BitVec 48) (yref : Int) (y0 : Nat) (s : State), s.fwPresent = true → s.legUsable .a = true ∨ s.legUsable .b = true → 40000000 <
    yref ∨ yref < -40000000 → ∃ t, exec (.incrHoUpdate incrF yref y0) s = .next t ∧ bit (t.rd Reg.PROT_RR_STATUS_REASONS) 4 = 1) ∧
  (∀ (incrF : BitVec 48) (yref : Int) (y0 : Nat) (s : State), s.fwPresent = false → exec (.incrHoUpdate incrF yref y0) s = .next s)

/-- DISPERSION_FIT, with firmware present on a RANGED leg that holds T_EQ: where T_EQ is below EqD, FIT_VALID is cleared and the leg is noted
without a fit; where T_EQ is not below and a wave was out of SYNC or sent no markers in the window, FIT_VALID stays and the leg is noted
without a fit; otherwise FIT_VALID says whether the window's fit meets R113, and the note says the opposite. Without firmware, RANGED or
T_EQ it changes nothing. LASER_LOW_CONF on a leg in confidence sets LASER_LOW with the widening of R116, and on one without changes
nothing. LASER_CONF_RESTORED on a leg with LASER_LOW whose telemetry is in range clears both, and on any other changes nothing. Shown to
complete, under conditions on the state and the operands alone: DISPERSION_FIT, LASER_LOW_CONF, LASER_CONF_RESTORED. Rests on R113, R114,
R116. -/
def Obligations.DispersionFitsAndLaserConfidence : Prop :=
  (∀ (l : Leg) (s : State), s.fwPresent = true → s.rd Reg.ACT_STATUS_STATE l.n = 5 → s.isOn Reg.TIME_LEG_TEQ_TEQ_VALID l.n = true →
    s.teqShort l = true → ∃ t, exec (.dispersionFit l) s = .next t ∧ t.rd Reg.TIME_LEG_STATUS_FIT_VALID l.n = 0 ∧ (t.leg l).fitBad = true) ∧
  (∀ (l : Leg) (s : State), s.fwPresent = true → s.rd Reg.ACT_STATUS_STATE l.n = 5 → s.isOn Reg.TIME_LEG_TEQ_TEQ_VALID l.n = true →
    s.teqShort l = false → s.windowWhole l (s.fitWindow l) = false → ∃ t, exec (.dispersionFit l) s = .next t ∧ t.rd
    Reg.TIME_LEG_STATUS_FIT_VALID l.n = s.rd Reg.TIME_LEG_STATUS_FIT_VALID l.n ∧ (t.leg l).fitBad = true) ∧
  (∀ (l : Leg) (s : State), s.fwPresent = true → s.rd Reg.ACT_STATUS_STATE l.n = 5 → s.isOn Reg.TIME_LEG_TEQ_TEQ_VALID l.n = true →
    s.teqShort l = false → s.windowWhole l (s.fitWindow l) = true → ∃ t, exec (.dispersionFit l) s = .next t ∧ t.rd
    Reg.TIME_LEG_STATUS_FIT_VALID l.n = b2n (s.fitOk l (s.fit l (s.fitWindow l))) ∧ (t.leg l).fitBad = !(s.fitOk l (s.fit l (s.fitWindow l)))) ∧
  (∀ (l : Leg) (s : State), s.fwPresent = false ∨ s.rd Reg.ACT_STATUS_STATE l.n ≠ 5 ∨ s.isOn Reg.TIME_LEG_TEQ_TEQ_VALID l.n = false → exec
    (.dispersionFit l) s = .next s) ∧
  (∀ (l : Leg) (s : State), s.isOn Reg.TIME_LEG_STATUS_LASER_LOW l.n = false → ∃ t, exec (.laserLowConf l) s = .next t ∧ t.rd
    Reg.TIME_LEG_STATUS_LASER_LOW l.n = 1 ∧ (t.leg l).laserTerm = s.laserWidening l) ∧
  (∀ (l : Leg) (s : State), s.isOn Reg.TIME_LEG_STATUS_LASER_LOW l.n = true → exec (.laserLowConf l) s = .next s) ∧
  (∀ (l : Leg) (s : State), s.isOn Reg.TIME_LEG_STATUS_LASER_LOW l.n = true → (s.leg l).telemOut = false → ∃ t, exec (.laserConfRestored l) s
    = .next t ∧ t.rd Reg.TIME_LEG_STATUS_LASER_LOW l.n = 0 ∧ (t.leg l).laserTerm = 0) ∧
  (∀ (l : Leg) (s : State), s.isOn Reg.TIME_LEG_STATUS_LASER_LOW l.n = false ∨ (s.leg l).telemOut = true → exec (.laserConfRestored l) s =
    .next s)

/-- Each by an agent that reaches the registers. TIME_SNAP, with no apply due in the tick, puts the counter, INCR, the quality word and the
bounds into the agent's own set and advances its SNAP_SEQ. TIME_APPLY: with an apply pending it is BUSY; an AT_TICK target behind the
counter is OUT_OF_WINDOW; in AT_PPS a selection that R128 refuses, or one of both REBASE items, or a STAGE_NS of 10^9 or more, is INVALID;
each of these is counted as refused and leaves what is armed; an AT_PPS apply, or an AT_TICK apply whose target is not behind, that none of
these refuses is armed and pending with the counter unmoved. TIME_CANCEL ends an armed apply with CANCELLED, and with none armed changes
nothing. TIME_STAGE_WRITE of a staging word is taken into the agent's own copy while nothing is pending; while an apply is pending it sets
STAGE_WERR and nothing else. APPLY_TICK, while the TIME domain runs, of a due apply of the PF that selects INCR alone, with SERVO_EN = 0:
the limiter's target becomes the staged INCR within its limits, the result is OK and the apply counted; with nothing armed, or not due,
nothing changes. Shown to complete, under conditions on the state and the operands alone: TIME_SNAP, TIME_APPLY, TIME_CANCEL,
TIME_STAGE_WRITE, APPLY_TICK. Rests on R126, R127, R128. -/
def Obligations.SnapshotsAndStagedTimeWrites : Prop :=
  (∀ (ag : Agent) (s : State), s.reach ag = true → s.time.arm.all (fun a => !a.due) = true → ∃ t, exec (.timeSnap ag) s = .next t ∧ t.rdA ag
    Reg.TIME_SNAP_SEC_LO = s.secNow % 2 ^ 32 ∧ t.rdA ag Reg.TIME_SNAP_SEC_HI = s.secNow / 2 ^ 32 % 2 ^ Reg.TIME_SNAP_SEC_HI.width ∧ t.rdA ag
    Reg.TIME_SNAP_NS = s.nsNow % 1000000000 % 2 ^ Reg.TIME_SNAP_NS.width ∧ t.rdA ag Reg.TIME_SNAP_FRAC = s.time.now40 / 256 % 2 ^
    Reg.TIME_SNAP_FRAC.width ∧ t.rdA ag Reg.TIME_SNAP_INCR_LO = s.time.incr % 2 ^ 32 ∧ t.rdA ag Reg.TIME_SNAP_INCR_HI = s.time.incr / 2 ^ 32 %
    2 ^ Reg.TIME_SNAP_INCR_HI.width ∧ t.rdA ag Reg.TIME_SNAP_QUAL = (s.rd Reg.TIME_QUAL_QUALITY + 8 * s.rd Reg.TIME_QUAL_STEP_DONE + 65536 *
    s.rd Reg.TIME_QUAL_GEN) % 2 ^ Reg.TIME_SNAP_QUAL.width ∧ t.rdA ag Reg.TIME_SNAP_BOUND = (s.rd Reg.TIME_BOUND + 65536 * s.rd
    Reg.TIME_BOUND_OWN) % 2 ^ Reg.TIME_SNAP_BOUND.width ∧ t.rdA ag Reg.TIME_SNAP_SEC_HI_SNAP_SEQ = (s.rdA ag Reg.TIME_SNAP_SEC_HI_SNAP_SEQ + 1)
    % 2 ^ Reg.TIME_SNAP_SEC_HI_SNAP_SEQ.width) ∧
  (∀ (ag : Agent) (mode : Nat) (s : State), s.reach ag = true → s.isOn Reg.TIME_STATUS_APPLY_PENDING = true → ∃ t, exec (.timeApply ag mode)
    s = .next t ∧ t.rd Reg.TIME_STATUS_APPLY_RESULT = 1 ∧ Counted Reg.TIME_CNT_APPLY_REFUSED 0 0 1 s t ∧ t.time.arm = s.time.arm) ∧
  (∀ (ag : Agent) (mode : Nat) (s : State), s.reach ag = true → s.isOn Reg.TIME_STATUS_APPLY_PENDING = false → mode % 4 = 0 → 2 ^ 39 < (s.rdA
    ag Reg.TIME_APPLY_AT_LO + 2 ^ 32 * s.rdA ag Reg.TIME_APPLY_AT_HI + 2 ^ 40 - s.nsNow % 2 ^ 40) % 2 ^ 40 → ∃ t, exec (.timeApply ag mode) s =
    .next t ∧ t.rd Reg.TIME_STATUS_APPLY_RESULT = 14 ∧ Counted Reg.TIME_CNT_APPLY_REFUSED 0 0 1 s t ∧ t.time.arm = s.time.arm) ∧
  (∀ (ag : Agent) (mode : Nat) (s : State), s.reach ag = true → s.isOn Reg.TIME_STATUS_APPLY_PENDING = false → mode % 4 ≠ 0 → s.selRefused
    (s.rdA ag Reg.TIME_STAGE_SEL) = true ∨ (bit (s.rdA ag Reg.TIME_STAGE_SEL) 2 = 1 ∧ bit (s.rdA ag Reg.TIME_STAGE_SEL) 3 = 1) ∨ 1000000000 ≤
    s.rdA ag Reg.TIME_STAGE_NS → ∃ t, exec (.timeApply ag mode) s = .next t ∧ t.rd Reg.TIME_STATUS_APPLY_RESULT = 2 ∧ Counted
    Reg.TIME_CNT_APPLY_REFUSED 0 0 1 s t ∧ t.time.arm = s.time.arm) ∧
  (∀ (ag : Agent) (mode : Nat) (s : State), s.reach ag = true → s.isOn Reg.TIME_STATUS_APPLY_PENDING = false → mode % 4 ≠ 0 ∨ (s.rdA ag
    Reg.TIME_APPLY_AT_LO + 2 ^ 32 * s.rdA ag Reg.TIME_APPLY_AT_HI + 2 ^ 40 - s.nsNow % 2 ^ 40) % 2 ^ 40 ≤ 2 ^ 39 → s.selRefused (s.rdA ag
    Reg.TIME_STAGE_SEL) = false → bit (s.rdA ag Reg.TIME_STAGE_SEL) 2 = 0 ∨ bit (s.rdA ag Reg.TIME_STAGE_SEL) 3 = 0 → s.rdA ag
    Reg.TIME_STAGE_NS < 1000000000 → ∃ t, exec (.timeApply ag mode) s = .next t ∧ t.rd Reg.TIME_STATUS_APPLY_PENDING = 1 ∧ t.time.arm.map (fun
    a => (a.pps, a.sel)) = some (decide (mode % 4 ≠ 0), s.rdA ag Reg.TIME_STAGE_SEL) ∧ t.time.now40 = s.time.now40) ∧
  (∀ (ag : Agent) (s : State), s.reach ag = true → s.time.arm.isSome = true → ∃ t, exec (.timeCancel ag) s = .next t ∧ t.time.arm = none ∧
    t.rd Reg.TIME_STATUS_APPLY_PENDING = 0 ∧ t.rd Reg.TIME_STATUS_APPLY_RESULT = 6) ∧
  (∀ (ag : Agent) (s : State), s.time.arm = none → exec (.timeCancel ag) s = .next s) ∧
  (∀ (ag : Agent) (off : Nat) (v : BitVec 32) (R : Row) (s : State), s.reach ag = true → s.isOn Reg.TIME_STATUS_APPLY_PENDING = false →
    stageRow off = some R → ∃ t, exec (.timeStageWrite ag off v) s = .next t ∧ t.rdA ag R = v.toNat % 2 ^ R.width) ∧
  (∀ (ag : Agent) (off : Nat) (v : BitVec 32) (R : Row) (s : State), s.reach ag = true → s.isOn Reg.TIME_STATUS_APPLY_PENDING = true →
    stageRow off = some R → exec (.timeStageWrite ag off v) s = .next (s.wr Reg.TIME_STATUS_STAGE_WERR 1)) ∧
  (∀ (a : Arm) (s : State), s.runs .time = true → s.time.arm = some a → a.due = true → a.sel % 16 = 1 → s.isOn Reg.TIME_CTL_SERVO_EN = false
    → a.fw = false → ∃ t, exec .applyTick s = .next t ∧ t.time.arm = none ∧ t.time.tgt = clampIncr (s.rd Reg.TIME_STAGE_INCR_LO + 2 ^ 32 * s.rd
    Reg.TIME_STAGE_INCR_HI) ∧ t.rd Reg.TIME_STATUS_APPLY_PENDING = 0 ∧ t.rd Reg.TIME_STATUS_APPLY_RESULT = 0 ∧ Counted Reg.TIME_CNT_APPLY_DONE
    0 0 1 s t) ∧
  (∀ (s : State), s.time.arm.all (fun a => !a.due) = true → exec .applyTick s = .next s)

/-- For channel 0 to 15 while the TIME domain runs. TEV_ARM that no rule refuses, of a target at most 2^39 ns ahead: the channel is armed with
result OK and FIRED zero; for a single action at least 16 ticks ahead the next compare is the target, and for one nearer LATE is set and it
is 16 ticks ahead. One that a rule refuses reports the rule's status, is counted, and changes no channel. TEV_FIRE of an armed or running
channel that is due, not stopping and without a pulse, with no apply due in the tick: a compare goes idle with one more FIRED; a single
pulse starts, its state RUNNING, and on channels 0 to 7 without squelch its leading edge is placed at the 25 ps step nearest the target
with COMP added; a latch goes idle with the pin latched; a train or gate that has edges left starts its pulse and compares with the next
edge of its sequence. An idle channel or one that is not due stays as it is, with no apply due. TEV_PULSE_END: before the pulse's length
has passed nothing changes; after it, a single pulse leaves the channel idle without a pulse, and a sequence that goes on, is not stopping
and has not used up COUNT only ends its pulse; without a pulse and not stopping nothing changes. TEV_DISARM of a channel with no pulse or
cycle running leaves it idle and unlatched; with one running it is marked to stop after it. Of the configuration words, TGT_NS is taken
while the channel is idle, and a word 0 with another MODE while it is not sets WERR and nothing else. Shown to complete, under conditions
on the state and the operands alone: TEV_ARM, TEV_FIRE, TEV_PULSE_END, TEV_DISARM, TEV_CONFIG_WRITE. Rests on R130, R131, R132, R133, R134,
R135, R137. -/
def Obligations.TimerChannelsArmFireAndStop : Prop :=
  (∀ (n : Nat) (s : State), s.runs .time = true → n < 16 → s.armRefused n = none → (s.rd2 Reg.TEV_CH_TGT_SEC_LO Reg.TEV_CH_TGT_SEC_HI 0 n *
    1000000000 + s.rd Reg.TEV_CH_TGT_NS 0 n) * 65536 * 2 ^ 24 ≤ s.time.now40 + 2 ^ 79 → seqMode (s.chMode n) = false → s.ns16 + ticks16 ≤
    (s.rd2 Reg.TEV_CH_TGT_SEC_LO Reg.TEV_CH_TGT_SEC_HI 0 n * 1000000000 + s.rd Reg.TEV_CH_TGT_NS 0 n) * 65536 → ∃ t, exec (.tevArm n) s = .next
    t ∧ t.rd Reg.TEV_CH_STATUS_STATE 0 n = 1 ∧ t.rd Reg.TEV_CH_STATUS_RESULT 0 n = 0 ∧ t.rd Reg.TEV_CH_FIRED 0 n = 0 ∧ (t.ch n).next = (s.rd2
    Reg.TEV_CH_TGT_SEC_LO Reg.TEV_CH_TGT_SEC_HI 0 n * 1000000000 + s.rd Reg.TEV_CH_TGT_NS 0 n) * 65536) ∧
  (∀ (n : Nat) (s : State), s.runs .time = true → n < 16 → s.armRefused n = none → (s.rd2 Reg.TEV_CH_TGT_SEC_LO Reg.TEV_CH_TGT_SEC_HI 0 n *
    1000000000 + s.rd Reg.TEV_CH_TGT_NS 0 n) * 65536 * 2 ^ 24 ≤ s.time.now40 + 2 ^ 79 → seqMode (s.chMode n) = false → (s.rd2
    Reg.TEV_CH_TGT_SEC_LO Reg.TEV_CH_TGT_SEC_HI 0 n * 1000000000 + s.rd Reg.TEV_CH_TGT_NS 0 n) * 65536 < s.ns16 + ticks16 → ∃ t, exec (.tevArm
    n) s = .next t ∧ t.rd Reg.TEV_CH_STATUS_STATE 0 n = 1 ∧ t.rd Reg.TEV_CH_STATUS_RESULT 0 n = 0 ∧ t.rd Reg.TEV_CH_FIRED 0 n = 0 ∧ t.rd
    Reg.TEV_CH_STATUS_LATE 0 n = 1 ∧ (t.ch n).next = s.ns16 + ticks16) ∧
  (∀ (n : Nat) (st : Nat) (s : State), s.runs .time = true → n < 16 → s.armRefused n = some st → ∃ t, exec (.tevArm n) s = .next t ∧ t.rd
    Reg.TEV_CH_STATUS_RESULT 0 n = st % 2 ^ Reg.TEV_CH_STATUS_RESULT.width ∧ Counted Reg.TEV_CNT_ARM_REFUSED 0 0 1 s t ∧ t.tev = s.tev) ∧
  (∀ (n : Nat) (s : State), s.runs .time = true → s.time.arm.all (fun a => !a.due) = true → n < 16 → s.chState n ≠ 0 → (s.ch n).stopping =
    false → s.chDue n = true → (s.ch n).pulse = false → s.chMode n = 0 → ∃ t, exec (.tevFire n) s = .next t ∧ t.rd Reg.TEV_CH_STATUS_STATE 0 n
    = 0 ∧ t.rd Reg.TEV_CH_FIRED 0 n = min (s.rd Reg.TEV_CH_FIRED 0 n + 1) (2 ^ Reg.TEV_CH_FIRED.width - 1)) ∧
  (∀ (n : Nat) (s : State), s.runs .time = true → s.time.arm.all (fun a => !a.due) = true → n < 16 → s.chState n ≠ 0 → (s.ch n).stopping =
    false → s.chDue n = true → (s.ch n).pulse = false → s.chMode n = 1 → ∃ t, exec (.tevFire n) s = .next t ∧ t.rd Reg.TEV_CH_STATUS_STATE 0 n
    = 2 ∧ (t.ch n).pulse = true ∧ (t.ch n).shown = !(s.tevSquelched n)) ∧
  (∀ (n : Nat) (s : State), s.runs .time = true → s.time.arm.all (fun a => !a.due) = true → n < 16 → s.chState n ≠ 0 → (s.ch n).stopping =
    false → s.chDue n = true → (s.ch n).pulse = false → s.chMode n = 1 → n < 8 → s.tevSquelched n = false → ∃ t, exec (.tevFire n) s = .next t
    ∧ t.out.take (s.out.length + 1) = s.out ++ [.edge n (!(s.isOn Reg.TEV_CH_CTL_POL 0 n)) (withComp (nearestStep (s.ch n).next) (s.rd
    Reg.TEV_CH_COMP 0 n))]) ∧
  (∀ (n : Nat) (s : State), s.runs .time = true → s.time.arm.all (fun a => !a.due) = true → n < 16 → s.chState n ≠ 0 → (s.ch n).stopping =
    false → s.chDue n = true → (s.ch n).pulse = false → s.chMode n = 4 → ∃ t, exec (.tevFire n) s = .next t ∧ t.rd Reg.TEV_CH_STATUS_STATE 0 n
    = 0 ∧ t.rd Reg.TEV_CH_STATUS_LATCHED 0 n = 1) ∧
  (∀ (n : Nat) (s : State), s.runs .time = true → s.time.arm.all (fun a => !a.due) = true → n < 16 → s.chState n ≠ 0 → (s.ch n).stopping =
    false → s.chDue n = true → (s.ch n).pulse = false → seqMode (s.chMode n) = true → s.chSpent n (s.ch n).k = false → ∃ t, exec (.tevFire n) s
    = .next t ∧ t.rd Reg.TEV_CH_STATUS_STATE 0 n = 2 ∧ (t.ch n).pulse = true ∧ (t.ch n).k = (s.ch n).k + 1 ∧ (t.ch n).next = edgeAt (s.isOn
    Reg.TEV_CH_CTL_RESYNC 0 n) (s.ch n).base (s.chPeriod n) ((s.ch n).k + 1)) ∧
  (∀ (n : Nat) (s : State), s.time.arm.all (fun a => !a.due) = true → s.chState n = 0 ∨ s.chDue n = false → exec (.tevFire n) s = .next s) ∧
  (∀ (n : Nat) (s : State), (s.ch n).pulse = true → s.run16 < (s.ch n).endAt → exec (.tevPulseEnd n) s = .next s) ∧
  (∀ (n : Nat) (s : State), s.runs .time = true → n < 16 → (s.ch n).pulse = true → (s.ch n).endAt ≤ s.run16 → seqMode (s.chMode n) = false →
    ∃ t, exec (.tevPulseEnd n) s = .next t ∧ t.rd Reg.TEV_CH_STATUS_STATE 0 n = 0 ∧ (t.ch n).pulse = false ∧ (t.ch n).shown = false) ∧
  (∀ (n : Nat) (s : State), s.runs .time = true → n < 16 → (s.ch n).pulse = true → (s.ch n).endAt ≤ s.run16 → seqMode (s.chMode n) = true →
    (s.ch n).rebase = 0 → (s.ch n).stopping = false → s.chSpent n (s.ch n).k = false → ∃ t, exec (.tevPulseEnd n) s = .next t ∧ (t.ch n).pulse
    = false ∧ (t.ch n).shown = false ∧ t.rd Reg.TEV_CH_STATUS_STATE 0 n = s.rd Reg.TEV_CH_STATUS_STATE 0 n ∧ (t.ch n).next = (s.ch n).next) ∧
  (∀ (n : Nat) (s : State), (s.ch n).pulse = false → (s.ch n).stopping = false → exec (.tevPulseEnd n) s = .next s) ∧
  (∀ (n : Nat) (s : State), s.runs .time = true → n < 16 → s.chRuns n = false → ∃ t, exec (.tevDisarm n) s = .next t ∧ t.rd
    Reg.TEV_CH_STATUS_STATE 0 n = 0 ∧ t.rd Reg.TEV_CH_STATUS_LATCHED 0 n = 0) ∧
  (∀ (n : Nat) (s : State), s.runs .time = true → n < 16 → s.chState n ≠ 0 → s.chRuns n = true → ∃ t, exec (.tevDisarm n) s = .next t ∧ (t.ch
    n).stopping = true ∧ t.rd Reg.TEV_CH_STATUS_STATE 0 n = s.rd Reg.TEV_CH_STATUS_STATE 0 n) ∧
  (∀ (n : Nat) (off : Nat) (v : BitVec 32) (s : State), s.runs .time = true → n < 16 → off = 16 → s.chState n = 0 → exec (.tevConfigWrite n
    off v) s = .next (s.wr Reg.TEV_CH_TGT_NS v.toNat 0 n)) ∧
  (∀ (n : Nat) (off : Nat) (v : BitVec 32) (s : State), s.runs .time = true → n < 16 → off = 0 → s.chState n ≠ 0 → bits v.toNat 6 4 ≠
    s.chMode n → exec (.tevConfigWrite n off v) s = .next (s.wr Reg.TEV_CH_STATUS_WERR 1 0 n))

/-- While the TIME domain runs. PPS_OUT_PULSE in a tick in which TIME_NS rolled, with PPS_OUT enabled, not squelched and not active: it becomes
active, its edge placed at the second's instant with COMP added; where it did not roll, or PPS_OUT is off or squelched, nothing changes.
PPS_PULSE_END once its length has passed makes it inactive, and before that changes nothing. TCAP_EDGE on input 0 to 7, to the level the
input does not have, with no apply due: one that holds for less than 2.0 ns on an enabled input is counted as narrow and captures nothing;
one that holds for more than 2.2 ns in a direction that is captured sets the level and is counted, and its entry stands last in the FIFO,
or with 64 entries held is lost, counted, and sets OVF. A read of HEAD0 takes the oldest entry out of the FIFO into the five words. PTM: an
automatic request that is due, or a trigger, with PTM enabled, none running and the link usable, sets BUSY and sends one request; a trigger
without PTM enabled ends INVALID at once and is counted as failed, and one during a dialogue likewise, the dialogue going on. A response
ends the dialogue with OK, is counted and moves the last record to PREV; a timeout ends it with TIMEOUT and is counted as failed. Shown to
complete, under conditions on the state and the operands alone: PPS_OUT_PULSE, PPS_PULSE_END, TCAP_EDGE, TCAP_HEAD_POP, PTM_AUTO_TIMER,
PTM_TRIGGER, PTM_RESPONSE, PTM_TIMEOUT. Rests on R138, R139, R140, R141, R143. -/
def Obligations.PulsesCapturesAndPtm : Prop :=
  (∀ (s : State), s.runs .time = true → s.time.rolled = true → s.isOn Reg.TEV_PPS_CTL_EN = true → s.ppsSquelched = false → s.tev.pps = false
    → ∃ t, exec .ppsOutPulse s = .next t ∧ t.tev.pps = true ∧ t.out = s.out ++ [.edge 8 (!(s.isOn Reg.TEV_PPS_CTL_POL)) (withComp (s.secNow *
    40000000000) (s.rd Reg.TEV_PPS_CTL_COMP))]) ∧
  (∀ (s : State), s.time.rolled = false ∨ s.isOn Reg.TEV_PPS_CTL_EN = false ∨ s.ppsSquelched = true → exec .ppsOutPulse s = .next s) ∧
  (∀ (s : State), s.runs .time = true → s.tev.pps = true → s.tev.ppsEnd ≤ s.run16 → ∃ t, exec .ppsPulseEnd s = .next t ∧ t.tev.pps = false) ∧
  (∀ (s : State), s.tev.pps = false ∨ s.run16 < s.tev.ppsEnd → exec .ppsPulseEnd s = .next s) ∧
  (∀ (i : Nat) (rising : Bool) (widthPs : Nat) (wide : Bool) (fine : Nat) (s : State), s.runs .time = true → s.time.arm.all (fun a => !a.due)
    = true → i < 8 → s.rd Reg.TEV_TCAP_STATUS_PIN 0 i ≠ b2n rising → s.isOn Reg.TEV_TCAP_CTL_EN 0 i = true → 2200 < widthPs → bit (s.rd
    Reg.TEV_TCAP_CTL_EDGE 0 i) (if rising then 0 else 1) = 1 → (s.cap i).fifo.length < 64 → ∃ t, exec (.tcapEdge i rising widthPs wide fine) s
    = .next t ∧ Counted Reg.TEV_TCAP_CNT_CAPTURED 0 i 1 s t ∧ (t.cap i).fifo.length = (s.cap i).fifo.length + 1 ∧ (t.cap i).fifo.take (s.cap
    i).fifo.length = (s.cap i).fifo ∧ t.rd Reg.TEV_TCAP_STATUS_PIN 0 i = b2n rising) ∧
  (∀ (i : Nat) (rising : Bool) (widthPs : Nat) (wide : Bool) (fine : Nat) (s : State), s.runs .time = true → s.time.arm.all (fun a => !a.due)
    = true → i < 8 → s.rd Reg.TEV_TCAP_STATUS_PIN 0 i ≠ b2n rising → s.isOn Reg.TEV_TCAP_CTL_EN 0 i = true → 2200 < widthPs → bit (s.rd
    Reg.TEV_TCAP_CTL_EDGE 0 i) (if rising then 0 else 1) = 1 → 64 ≤ (s.cap i).fifo.length → ∃ t, exec (.tcapEdge i rising widthPs wide fine) s
    = .next t ∧ Counted Reg.TEV_TCAP_CNT_CAPTURED 0 i 1 s t ∧ Counted Reg.TEV_TCAP_CNT_LOST 0 i 1 s t ∧ t.rd Reg.TEV_TCAP_STATUS_OVF 0 i = 1 ∧
    (t.cap i).fifo = (s.cap i).fifo ∧ t.rd Reg.TEV_TCAP_STATUS_PIN 0 i = b2n rising) ∧
  (∀ (i : Nat) (rising : Bool) (widthPs : Nat) (wide : Bool) (fine : Nat) (s : State), s.runs .time = true → s.time.arm.all (fun a => !a.due)
    = true → i < 8 → s.rd Reg.TEV_TCAP_STATUS_PIN 0 i ≠ b2n rising → s.isOn Reg.TEV_TCAP_CTL_EN 0 i = true → widthPs < 2000 → ∃ t, exec
    (.tcapEdge i rising widthPs wide fine) s = .next t ∧ Counted Reg.TEV_TCAP_CNT_NARROW 0 i 1 s t ∧ t.tev = s.tev) ∧
  (∀ (i : Nat) (s : State), s.runs .time = true → i < 8 → ∃ t, exec (.tcapHeadPop i) s = .next t ∧ (t.cap i).fifo = (s.cap i).fifo.drop 1 ∧
    t.rd Reg.TEV_TCAP_HEAD0 0 i = (((s.cap i).fifo.head?).getD [0, 0, 0, 0, 0]).getD 0 0 % 2 ^ 32 ∧ t.rd Reg.TEV_TCAP_HEAD1 0 i = (((s.cap
    i).fifo.head?).getD [0, 0, 0, 0, 0]).getD 1 0 % 2 ^ 32 ∧ t.rd Reg.TEV_TCAP_HEAD2 0 i = (((s.cap i).fifo.head?).getD [0, 0, 0, 0, 0]).getD 2
    0 % 2 ^ 32 ∧ t.rd Reg.TEV_TCAP_HEAD3 0 i = (((s.cap i).fifo.head?).getD [0, 0, 0, 0, 0]).getD 3 0 % 2 ^ 32 ∧ t.rd Reg.TEV_TCAP_HEAD4 0 i =
    (((s.cap i).fifo.head?).getD [0, 0, 0, 0, 0]).getD 4 0 % 2 ^ 32) ∧
  (∀ (s : State), s.runs .time = true → s.isOn Reg.TEV_PTM_CTL_AUTO = true → s.tev.ptmOn = true → s.isOn Reg.TEV_PTM_STATUS_BUSY = false →
    s.ptmDue = true → s.linkOk = true → ∃ t, exec .ptmAutoTimer s = .next t ∧ t.rd Reg.TEV_PTM_STATUS_BUSY = 1 ∧ t.out = s.out ++
    [.ptmRequest]) ∧
  (∀ (s : State), s.runs .time = true → s.tev.ptmOn = true → s.isOn Reg.TEV_PTM_STATUS_BUSY = false → s.linkOk = true → ∃ t, exec .ptmTrigger
    s = .next t ∧ t.rd Reg.TEV_PTM_STATUS_BUSY = 1 ∧ t.out = s.out ++ [.ptmRequest]) ∧
  (∀ (s : State), s.runs .time = true → s.tev.ptmOn = false → ∃ t, exec .ptmTrigger s = .next t ∧ t.rd Reg.TEV_PTM_STATUS_BUSY = 0 ∧ t.rd
    Reg.TEV_PTM_STATUS_RESULT = 2 ∧ Counted Reg.TEV_CNT_PTM_FAILED 0 0 1 s t) ∧
  (∀ (s : State), s.runs .time = true → s.tev.ptmOn = true → s.isOn Reg.TEV_PTM_STATUS_BUSY = true → ∃ t, exec .ptmTrigger s = .next t ∧ t.rd
    Reg.TEV_PTM_STATUS_BUSY = 1 ∧ t.rd Reg.TEV_PTM_STATUS_RESULT = 2 ∧ Counted Reg.TEV_CNT_PTM_FAILED 0 0 1 s t ∧ t.tev = s.tev) ∧
  (∀ (master : BitVec 64) (pdelay : BitVec 32) (s : State), s.runs .time = true → s.isOn Reg.TEV_PTM_STATUS_BUSY = true → ∃ t, exec
    (.ptmResponse master pdelay) s = .next t ∧ t.rd Reg.TEV_PTM_STATUS_BUSY = 0 ∧ t.rd Reg.TEV_PTM_STATUS_RESULT = 0 ∧ Counted
    Reg.TEV_CNT_PTM_DIALOGUES 0 0 1 s t ∧ t.tev.ptmPrev = s.tev.ptmCur.take 10) ∧
  (∀ (s : State), s.runs .time = true → s.isOn Reg.TEV_PTM_STATUS_BUSY = true → ∃ t, exec .ptmTimeout s = .next t ∧ t.rd
    Reg.TEV_PTM_STATUS_BUSY = 0 ∧ t.rd Reg.TEV_PTM_STATUS_RESULT = 7 ∧ Counted Reg.TEV_CNT_PTM_FAILED 0 0 1 s t)

/-- While PCIe runs and the function is not in D3hot: a doorbell of 32 or 64 bits at offset +0, of a ring that is the writer's own, enabled and
not in ERR, with an index that fits R289, is counted as accepted and moves the index: PROD of a transmit, receive or admin submission ring
(adding the posts of a transmit or plain receive ring to its ledger), CONS of a completion, event or admin completion ring. One whose ring
does not exist for the writer, is not its own, is disabled or in ERR, whose access is of 64 bits at +4 or of another size, or whose index
does not fit, is counted as discarded with an entry in the writer's error log, and the ring keeps its indices. One of 32 bits at +4 only
uses the link's credits. With PCIe stopped it changes nothing. Shown to complete, under conditions on the state and the operands alone:
DOORBELL. Rests on R285, R286, R289, R290, R316. -/
def Obligations.DoorbellsAreTakenOrDiscarded : Prop :=
  (∀ (f : Nat) (kind : RingKind) (k : Nat) (v : BitVec 64) (width : Nat) (hi : Bool) (ring : Nat) (s : State), kind = .tx → ring < 8192 →
    s.runs .pcie = true → s.cfg f Cfg.d3hot = 0 → s.globalIdx kind f k = some ring → s.ringOwner kind ring = f → s.isOn (ringRows kind).en 0
    ring = true → s.ringErr kind ring = false → hi = false → width = 32 ∨ width = 64 → s.dbFits kind ring (v.toNat % 65536) = true → ∃ t, exec
    (.doorbell f kind k v width hi) s = .next t ∧ t.rd Reg.HIF_TX_IDX_PROD 0 ring = v.toNat % 65536 ∧ Counted Reg.HIF_CNT_DB_ACCEPTED 0 0 1 s t
    ∧ (t.txq ring).posted = (s.txq ring).posted + sub16 (v.toNat % 65536) (s.rd Reg.HIF_TX_IDX_PROD 0 ring)) ∧
  (∀ (f : Nat) (kind : RingKind) (k : Nat) (v : BitVec 64) (width : Nat) (hi : Bool) (ring : Nat) (s : State), kind = .rx → ring < 4096 →
    s.runs .pcie = true → s.cfg f Cfg.d3hot = 0 → s.globalIdx kind f k = some ring → s.ringOwner kind ring = f → s.isOn (ringRows kind).en 0
    ring = true → s.ringErr kind ring = false → hi = false → width = 32 ∨ width = 64 → s.dbFits kind ring (v.toNat % 65536) = true → ∃ t, exec
    (.doorbell f kind k v width hi) s = .next t ∧ t.rd Reg.HIF_RX_IDX_PROD 0 ring = v.toNat % 65536 ∧ Counted Reg.HIF_CNT_DB_ACCEPTED 0 0 1 s t
    ∧ (t.rxr ring).posted = (s.rxr ring).posted + (if s.isOn Reg.HIF_RX_CTL_LA 0 ring then 0 else sub16 (v.toNat % 65536) (s.rd
    Reg.HIF_RX_IDX_PROD 0 ring))) ∧
  (∀ (f : Nat) (kind : RingKind) (k : Nat) (v : BitVec 64) (width : Nat) (hi : Bool) (ring : Nat) (s : State), kind = .asq → ring = 0 →
    s.runs .pcie = true → s.cfg f Cfg.d3hot = 0 → s.globalIdx kind f k = some ring → s.ringOwner kind ring = f → s.isOn (ringRows kind).en 0
    ring = true → s.ringErr kind ring = false → hi = false → width = 32 ∨ width = 64 → s.dbFits kind ring (v.toNat % 65536) = true → ∃ t, exec
    (.doorbell f kind k v width hi) s = .next t ∧ t.rd Reg.ADM_SQ_IDX_SQ_PROD = v.toNat % 65536 ∧ Counted Reg.HIF_CNT_DB_ACCEPTED 0 0 1 s t) ∧
  (∀ (f : Nat) (kind : RingKind) (k : Nat) (v : BitVec 64) (width : Nat) (hi : Bool) (ring : Nat) (s : State), kind = .cq ∨ kind = .eq ∨ kind
    = .acq → ring < (ringRows kind).cons.n → s.runs .pcie = true → s.cfg f Cfg.d3hot = 0 → s.globalIdx kind f k = some ring → s.ringOwner kind
    ring = f → s.isOn (ringRows kind).en 0 ring = true → s.ringErr kind ring = false → hi = false → width = 32 ∨ width = 64 → s.dbFits kind
    ring (v.toNat % 65536) = true → ∃ t, exec (.doorbell f kind k v width hi) s = .next t ∧ t.rd (ringRows kind).cons 0 ring = v.toNat % 65536
    ∧ Counted Reg.HIF_CNT_DB_ACCEPTED 0 0 1 s t) ∧
  (∀ (f : Nat) (kind : RingKind) (k : Nat) (v : BitVec 64) (width : Nat) (hi : Bool) (s : State), s.runs .pcie = true → s.cfg f Cfg.d3hot = 0
    → (hi && width == 32) = false → (s.globalIdx kind f k).all (fun ring => !decide (s.ringOwner kind ring = f ∧ s.isOn (ringRows kind).en 0
    ring = true ∧ s.ringErr kind ring = false ∧ hi = false ∧ (width = 32 ∨ width = 64) ∧ s.dbFits kind ring (v.toNat % 65536) = true)) = true →
    ∃ t, exec (.doorbell f kind k v width hi) s = .next t ∧ Counted Reg.HIF_CNT_DB_DISCARDED 0 0 1 s t ∧ (Tab.get [] f t.host.errs).getLast? =
    some (1 + 65536 * (k % 65536), v.toNat % 2 ^ 32, s.secNow % 2 ^ 32, s.nsNow % 1000000000)) ∧
  (∀ (f : Nat) (kind : RingKind) (k : Nat) (v : BitVec 64) (width : Nat) (hi : Bool) (ring : Nat) (s : State), s.runs .pcie = true → s.cfg f
    Cfg.d3hot = 0 → s.globalIdx kind f k = some ring → (hi && width == 32) = false → s.dbFits kind ring (v.toNat % 65536) = false → ∃ t, exec
    (.doorbell f kind k v width hi) s = .next t ∧ t.rd (ringRows kind).prod 0 ring = s.rd (ringRows kind).prod 0 ring ∧ t.rd (ringRows
    kind).cons 0 ring = s.rd (ringRows kind).cons 0 ring) ∧
  (∀ (f : Nat) (kind : RingKind) (k : Nat) (v : BitVec 64) (width : Nat) (hi : Bool) (s : State), s.runs .pcie = true → s.cfg f Cfg.d3hot = 0
    → hi = true → width = 32 → exec (.doorbell f kind k v width hi) s = .next (s.fcTake 1 1 0 0)) ∧
  (∀ (f : Nat) (kind : RingKind) (k : Nat) (v : BitVec 64) (width : Nat) (hi : Bool) (s : State), s.runs .pcie = false → exec (.doorbell f
    kind k v width hi) s = .next s)

/-- While the core runs, DESCRIPTOR_FETCH of a ring with an entry to fetch, whose owner may read it, leaves a read request that names it where
the data come later; where they come at once, it counts the fetch and takes in a post of a receive ring with BLEN 64 or more and no
reserved bit, or a descriptor of a transmit ring, and advances the ring's fetch index. With no entry to fetch it changes nothing. While
PCIe runs: a completion that no request waits for, or not for this terminal, is counted as unexpected and leaves the requests; one with
right length and good data closes its request, and for a lookaside ring the request entry is taken in; one in error closes its request and
puts a receive ring in ERR with INVALID. A timeout closes its request, is counted, and puts a transmit ring in ERR with TIMEOUT; with no
such request it changes nothing. Shown to complete, under conditions on the state and the operands alone: DESCRIPTOR_FETCH,
HOST_READ_COMPLETION, COMPLETION_TIMEOUT. Rests on R282, R288, R292, R293, R295. -/
def Obligations.RingEntriesAreFetched : Prop :=
  (∀ (kind : RingKind) (ring : Nat) (data : Option (List Byte)) (s : State), s.fetchNext kind ring = none → exec (.descriptorFetch kind ring
    data) s = .next s) ∧
  (∀ (kind : RingKind) (ring : Nat) (data : Option (List Byte)) (i n : Nat) (s : State), s.runs .core = true → s.fetchNext kind ring = some
    (i, n) → s.canRead (s.ringOwner kind ring) n = true → data = none → ∃ t, exec (.descriptorFetch kind ring data) s = .next t ∧
    t.host.reads.length = s.host.reads.length + 1 ∧ t.out = s.out ++ [.hostRead s.freshTag (s.ringOwner kind ring) (s.rd2 (ringRows
    kind).baseLo (ringRows kind).baseHi 0 ring + n * (i % 2 ^ s.ringBits kind ring)) n] ∧ t.regs = s.regs) ∧
  (∀ (kind : RingKind) (ring : Nat) (data : Option (List Byte)) (i : Nat) (b : List Byte) (s : State), s.runs .core = true → kind = .rx →
    ring < 4096 → s.fetchNext kind ring = some (i, 16) → s.canRead (s.ringOwner kind ring) 16 = true → data = some b → 64 ≤ leNat (slice b 8 2)
    % 16384 → leNat (slice b 8 2) < 16384 → leNat (slice b 10 6) = 0 → s.isOn Reg.HIF_RX_CTL_LA 0 ring = false → ∃ t, exec (.descriptorFetch
    kind ring data) s = .next t ∧ Counted Reg.HIF_CNT_DESC_FETCHED 0 0 1 s t ∧ (t.rxr ring).posts = (s.rxr ring).posts ++ [⟨(s.rxr
    ring).fetchIdx, leNat (slice b 0 8), leNat (slice b 8 2) % 16384⟩] ∧ (t.rxr ring).fetchIdx = ((s.rxr ring).fetchIdx + 1) % 65536) ∧
  (∀ (kind : RingKind) (ring : Nat) (data : Option (List Byte)) (i : Nat) (b : List Byte) (s : State), s.runs .core = true → kind = .tx →
    ring < 8192 → s.fetchNext kind ring = some (i, 32) → s.canRead (s.ringOwner kind ring) 32 = true → data = some b → ∃ t, exec
    (.descriptorFetch kind ring data) s = .next t ∧ Counted Reg.HIF_CNT_DESC_FETCHED 0 0 1 s t ∧ (t.txq ring).fetchIdx = ((s.txq ring).fetchIdx
    + 1) % 65536) ∧
  (∀ (tag : Nat) (mine : Bool) (bytes : List Byte) (lenOk : Bool) (good : Bool) (s : State), s.runs .pcie = true → s.host.reads.find? (fun r
    => r.tag == tag) = none ∨ mine = false → ∃ t, exec (.hostReadCompletion tag mine bytes lenOk good) s = .next t ∧ Counted
    Reg.HIF_CNT_CPL_UNEXPECTED 0 0 1 s t ∧ t.host.reads = s.host.reads) ∧
  (∀ (tag : Nat) (mine : Bool) (bytes : List Byte) (lenOk : Bool) (good : Bool) (r : Read) (s : State), s.runs .pcie = true →
    s.host.reads.find? (fun r => r.tag == tag) = some r → mine = true → lenOk = true → good = true → r.kind = 1 → r.ring < 4096 → s.isOn
    Reg.HIF_RX_CTL_LA 0 r.ring = true → ∃ t, exec (.hostReadCompletion tag mine bytes lenOk good) s = .next t ∧ t.host.reads =
    s.host.reads.filter (fun r => r.tag != tag) ∧ Counted Reg.HIF_CNT_DESC_FETCHED 0 0 1 s t ∧ (t.rxr r.ring).reqs = (s.rxr r.ring).reqs ++
    [((s.rxr r.ring).fetchIdx, slice bytes 0 64)]) ∧
  (∀ (tag : Nat) (mine : Bool) (bytes : List Byte) (lenOk : Bool) (good : Bool) (r : Read) (s : State), s.runs .pcie = true →
    s.host.reads.find? (fun r => r.tag == tag) = some r → mine = true → lenOk = true → good = false → r.kind = 1 → r.ring < 4096 → ∃ t, exec
    (.hostReadCompletion tag mine bytes lenOk good) s = .next t ∧ t.host.reads = s.host.reads.filter (fun r => r.tag != tag) ∧ t.rd
    Reg.HIF_RX_CTL_ERR 0 r.ring = 1 ∧ t.rd Reg.HIF_RX_CTL_ERRCODE 0 r.ring = 2) ∧
  (∀ (tag : Nat) (r : Read) (s : State), s.runs .pcie = true → s.host.reads.find? (fun r => r.tag == tag) = some r → r.kind = 0 → r.ring <
    8192 → ∃ t, exec (.completionTimeout tag) s = .next t ∧ t.host.reads = s.host.reads.filter (fun r => r.tag != tag) ∧ t.rd
    Reg.HIF_TX_CTL_ERR 0 r.ring = 1 ∧ t.rd Reg.HIF_TX_CTL_ERRCODE 0 r.ring = 7 ∧ Counted Reg.HIF_CNT_CPL_TIMEOUT 0 0 1 s t) ∧
  (∀ (tag : Nat) (s : State), s.host.reads.find? (fun r => r.tag == tag) = none → exec (.completionTimeout tag) s = .next s)

/-- By an agent with a path to the rings, who may control the ring (a VF its own). Enabling a disabled ring with a word that leaves SIZE, LA
and OWNER as they are: where its start is not refused, EN is set with PROD = CONS = 0, and a receive ring holds nothing; a refused start
leaves EN at 0 and sets ERR with INVALID where the ring has it (not the admin completion ring). A word that would change SIZE, LA or OWNER
while EN = 1 sets WERR and nothing else. Disabling with a word that changes none of them: a receive ring drops its posts and its EN and
HELD; an event ring or the admin submission ring loses EN; a completion ring that no enabled ring names loses EN, and one that is named
sets WERR and keeps it. The BMC's changes nothing. FLUSH of an enabled transmit queue that is not flushing, by the PF, firmware or its
owner, sets FLUSH_BUSY up to the accepted index; of a disabled one it changes nothing. FLUSH_DONE, while the core runs, of a flush that has
seen its last descriptor with no partial chain clears FLUSH_BUSY, and EN where the flush was a disable; where no flush runs it changes
nothing. Shown to complete, under conditions on the state and the operands alone: RING_ENABLE, RING_DISABLE, FLUSH, FLUSH_DONE. Rests on
R287, R303, R285, R300. -/
def Obligations.RingsStartStopAndFlush : Prop :=
  (∀ (ag : Agent) (kind : RingKind) (ring : Nat) (v : BitVec 32) (s : State), s.path ag = true → s.mayRing ag kind ring = true → s.isOn
    (ringRows kind).en 0 ring = false → ring < (ringRows kind).en.n → s.ctlChanges ag kind ring (v.toNat / 512 * 512 + 256 + v.toNat % 256) =
    false → kind ≠ .acq ∨ s.rd Reg.ADM_CQ_CTL_VEC = bits v.toNat 22 16 → s.startRefused kind ring = false → ∃ t, exec (.ringEnable ag kind ring
    v) s = .next t ∧ t.rd (ringRows kind).en 0 ring = 1 ∧ t.rd (ringRows kind).prod 0 ring = 0 ∧ t.rd (ringRows kind).cons 0 ring = 0 ∧ (kind =
    .rx → (t.rxr ring).posts = [] ∧ (t.rxr ring).fetchIdx = 0 ∧ t.rd Reg.HIF_RX_HELD 0 ring = 0)) ∧
  (∀ (ag : Agent) (kind : RingKind) (ring : Nat) (v : BitVec 32) (e c : Row) (s : State), s.path ag = true → s.mayRing ag kind ring = true →
    s.isOn (ringRows kind).en 0 ring = false → ring < (ringRows kind).en.n → s.ctlChanges ag kind ring (v.toNat / 512 * 512 + 256 + v.toNat %
    256) = false → kind ≠ .acq → (ringRows kind).err = some (e, c) → s.startRefused kind ring = true → ∃ t, exec (.ringEnable ag kind ring v) s
    = .next t ∧ t.rd (ringRows kind).en 0 ring = 0 ∧ t.rd e 0 ring = 1 ∧ t.rd c 0 ring = 2) ∧
  (∀ (ag : Agent) (kind : RingKind) (ring : Nat) (v : BitVec 32) (s : State), s.path ag = true → s.mayRing ag kind ring = true → s.isOn
    (ringRows kind).en 0 ring = true → s.ctlChanges ag kind ring (v.toNat / 512 * 512 + 256 + v.toNat % 256) = true → exec (.ringEnable ag kind
    ring v) s = .next (s.wr Reg.HIF_STATUS_WERR 1)) ∧
  (∀ (ag : Agent) (kind : RingKind) (ring : Nat) (v : BitVec 32) (s : State), ag = .bmc → exec (.ringEnable ag kind ring v) s = .next s) ∧
  (∀ (ag : Agent) (kind : RingKind) (ring : Nat) (v : BitVec 32) (s : State), s.path ag = true → s.mayRing ag kind ring = true → s.isOn
    (ringRows kind).en 0 ring = true → s.ctlChanges ag kind ring (v.toNat / 512 * 512 + v.toNat % 256) = false → kind = .rx → ring < 4096 → ∃
    t, exec (.ringDisable ag kind ring v) s = .next t ∧ t.rd Reg.HIF_RX_CTL_EN 0 ring = 0 ∧ t.rd Reg.HIF_RX_HELD 0 ring = 0 ∧ (t.rxr
    ring).posts = []) ∧
  (∀ (ag : Agent) (kind : RingKind) (ring : Nat) (v : BitVec 32) (s : State), s.path ag = true → s.mayRing ag kind ring = true → s.isOn
    (ringRows kind).en 0 ring = true → s.ctlChanges ag kind ring (v.toNat / 512 * 512 + v.toNat % 256) = false → kind = .eq ∨ kind = .asq →
    ring < (ringRows kind).en.n → ∃ t, exec (.ringDisable ag kind ring v) s = .next t ∧ t.rd (ringRows kind).en 0 ring = 0) ∧
  (∀ (ag : Agent) (kind : RingKind) (ring : Nat) (v : BitVec 32) (s : State), s.path ag = true → s.mayRing ag kind ring = true → s.isOn
    (ringRows kind).en 0 ring = true → s.ctlChanges ag kind ring (v.toNat / 512 * 512 + v.toNat % 256) = false → kind = .cq → ring < 1024 →
    s.cqNamed ring = false → exec (.ringDisable ag kind ring v) s = .next (s.wr Reg.HIF_CQ_CTL_EN 0 0 ring)) ∧
  (∀ (ag : Agent) (kind : RingKind) (ring : Nat) (v : BitVec 32) (s : State), s.path ag = true → s.mayRing ag kind ring = true → s.isOn
    (ringRows kind).en 0 ring = true → s.ctlChanges ag kind ring (v.toNat / 512 * 512 + v.toNat % 256) = false → kind = .cq → ring < 1024 →
    s.cqNamed ring = true → exec (.ringDisable ag kind ring v) s = .next (s.wr Reg.HIF_STATUS_WERR 1)) ∧
  (∀ (ag : Agent) (kind : RingKind) (ring : Nat) (v : BitVec 32) (s : State), s.path ag = true → s.mayRing ag kind ring = true → s.isOn
    (ringRows kind).en 0 ring = true → s.ctlChanges ag kind ring (v.toNat / 512 * 512 + v.toNat % 256) = true → exec (.ringDisable ag kind ring
    v) s = .next (s.wr Reg.HIF_STATUS_WERR 1)) ∧
  (∀ (ag : Agent) (kind : RingKind) (ring : Nat) (v : BitVec 32) (s : State), ag = .bmc → exec (.ringDisable ag kind ring v) s = .next s) ∧
  (∀ (ag : Agent) (q : Nat) (s : State), s.path ag = true → ag = .pf ∨ ag.isFw = true ∨ ag = .vf (s.txOwner q) → q < 8192 → s.isOn
    Reg.HIF_TX_CTL_EN 0 q = true → s.isOn Reg.HIF_TX_CTL_FLUSH_BUSY 0 q = false → ∃ t, exec (.flush ag q) s = .next t ∧ t.rd
    Reg.HIF_TX_CTL_FLUSH_BUSY 0 q = 1 ∧ (t.txq q).flushTo = some (s.rd Reg.HIF_TX_IDX_PROD 0 q)) ∧
  (∀ (ag : Agent) (q : Nat) (s : State), s.isOn Reg.HIF_TX_CTL_EN 0 q = false → exec (.flush ag q) s = .next s) ∧
  (∀ (q : Nat) (s : State), s.runs .core = true → q < 8192 → (s.txq q).flushTo = some (s.txq q).fetchIdx → (s.txq q).part = [] → ∃ t, exec
    (.flushDone q) s = .next t ∧ t.rd Reg.HIF_TX_CTL_FLUSH_BUSY 0 q = 0 ∧ (t.txq q).flushTo = none ∧ t.rd Reg.HIF_TX_CTL_EN 0 q = (if (s.txq
    q).disabling then 0 else s.rd Reg.HIF_TX_CTL_EN 0 q)) ∧
  (∀ (q : Nat) (s : State), (s.txq q).flushTo = none → exec (.flushDone q) s = .next s)

/-- While PCIe runs: the oldest waiting entry of an enabled completion ring with room, whose owner may issue requests, is issued, PROD and the
count of entries advance by one, and it is counted for the ring; a full ring keeps the entry and PROD; with nothing waiting nothing
changes. A moderation timer of a ring with INT_EN, MOD_US not 0 and an entry not yet signalled signals its vector; where that vector is
masked its message only waits in the pending bit array. The PF, not in D3hot, masks a vector by a write of its Vector Control, and clearing
it sends the waiting message with the vector's address and data (the table's layout, its offset in a REGISTER_WRITE and the order are the
model's, log entry 63). REPLAY, by an agent that reaches the registers, of a CSEQ that is held copies the entry with OK, of another answers
NOT_FOUND. HIF_AUDIT_CHECK, while PCIe runs, changes nothing where every equation of R308 holds, and otherwise counts AUD_FAIL once for
each that fails. HIF_AUD_CTL with AUD_SNAP selects the ring and latches its posts ledger. A pop by an agent that reaches the registers
takes the oldest entry of the event log, and of an empty log reads 0; a pop of the PF's error log takes its oldest entry. Shown to
complete, under conditions on the state and the operands alone: COMPLETION_WRITE, MSIX_MODERATION_TIMER, REGISTER_WRITE, REPLAY,
HIF_AUDIT_CHECK, HIF_AUDIT_SNAP, EVT_LOG_POP, ERRLOG_POP. Rests on R299, R300, R302, R308, R315, R316. -/
def Obligations.CompletionsInterruptsAndLogs : Prop :=
  (∀ (cq : Nat) (e : Cpl) (rest : List Cpl) (s : State), s.runs .pcie = true → cq < 1024 → (s.cq cq).waiting = e :: rest → s.isOn
    Reg.HIF_CQ_CTL_EN 0 cq = true → s.canDma (s.rd Reg.HIF_CQ_CTL_OWNER 0 cq) = true → s.cqFull cq = false → ∃ t, exec (.completionWrite cq) s
    = .next t ∧ (t.cq cq).waiting = rest ∧ (t.cq cq).count = (s.cq cq).count + 1 ∧ t.rd Reg.HIF_CQ_IDX_PROD 0 cq = ((s.cq cq).count + 1) %
    65536 ∧ Counted Reg.HIF_CQ_CWR_CNT 0 cq 1 s t) ∧
  (∀ (cq : Nat) (s : State), s.runs .pcie = true → cq < 1024 → s.cqFull cq = true → s.isOn Reg.HIF_CQ_CTL_EN 0 cq = true → s.canDma (s.rd
    Reg.HIF_CQ_CTL_OWNER 0 cq) = true → (s.cq cq).waiting ≠ [] → ∃ t, exec (.completionWrite cq) s = .next t ∧ (t.cq cq).waiting = (s.cq
    cq).waiting ∧ t.rd Reg.HIF_CQ_IDX_PROD 0 cq = s.rd Reg.HIF_CQ_IDX_PROD 0 cq) ∧
  (∀ (cq : Nat) (s : State), (s.cq cq).waiting = [] → exec (.completionWrite cq) s = .next s) ∧
  (∀ (kind : RingKind) (ring : Nat) (s : State), s.runs .pcie = true → kind = .cq → s.isOn Reg.HIF_CQ_INT_INT_EN 0 ring = true → s.rd
    Reg.HIF_CQ_INT_MOD_US 0 ring ≠ 0 → (s.cq ring).unsig ≠ 0 → exec (.msixModerationTimer kind ring) s = .next ((s.setCq ring fun r =>
    { r with unsig := 0 }).msix (s.rd Reg.HIF_CQ_CTL_OWNER 0 ring) (s.rd Reg.HIF_CQ_INT_VEC 0 ring))) ∧
  (∀ (kind : RingKind) (ring : Nat) (s : State), s.runs .pcie = true → kind = .eq → s.isOn Reg.HIF_EQ_INT_INT_EN 0 ring = true → s.rd
    Reg.HIF_EQ_INT_MOD_US 0 ring ≠ 0 → (s.eq ring).unsig ≠ 0 → exec (.msixModerationTimer kind ring) s = .next ((s.setEq ring fun r =>
    { r with unsig := 0 }).msix (s.rd Reg.HIF_EQ_CTL_OWNER 0 ring) (s.rd Reg.HIF_EQ_INT_VEC 0 ring))) ∧
  (∀ (kind : RingKind) (ring : Nat) (s : State), s.runs .pcie = true → kind = .cq → s.isOn Reg.HIF_CQ_INT_INT_EN 0 ring = true → s.rd
    Reg.HIF_CQ_INT_MOD_US 0 ring ≠ 0 → (s.cq ring).unsig ≠ 0 → s.msixCan (s.rd Reg.HIF_CQ_CTL_OWNER 0 ring) (s.rd Reg.HIF_CQ_INT_VEC 0 ring) =
    true → s.msixMasked (s.rd Reg.HIF_CQ_CTL_OWNER 0 ring) (s.rd Reg.HIF_CQ_INT_VEC 0 ring) = true → ∃ t, exec (.msixModerationTimer kind ring)
    s = .next t ∧ t.out = s.out ∧ Tab.get 0 (128 * s.rd Reg.HIF_CQ_CTL_OWNER 0 ring + s.rd Reg.HIF_CQ_INT_VEC 0 ring) t.msi.pend = 1) ∧
  (∀ (ag : Agent) (addr : Nat) (v : BitVec 32) (vec : Nat) (s : State), s.runs .pcie = true → s.cfg 0 Cfg.d3hot = 0 → ag = .pf → vec < 128 →
    addr = 0x41C00C + 16 * vec → v = 1 → ∃ t, exec (.registerWrite ag addr v) s = .next t ∧ t.out = s.out ∧ t.msixMasked 0 vec = true) ∧
  (∀ (ag : Agent) (addr : Nat) (v : BitVec 32) (vec : Nat) (s : State), s.runs .pcie = true → s.cfg 0 Cfg.d3hot = 0 → ag = .pf → vec < 128 →
    addr = 0x41C00C + 16 * vec → v = 0 → Tab.get 0 vec s.msi.pend ≠ 0 → s.msixCan 0 vec = true → s.cfg 0 Cfg.fnMask = 0 → ∃ t, exec
    (.registerWrite ag addr v) s = .next t ∧ t.out = s.out ++ [.msix 0 vec (s.msixWord 0 (4 * vec) + 2 ^ 32 * s.msixWord 0 (4 * vec + 1))
    (s.msixWord 0 (4 * vec + 2))] ∧ t.msixMasked 0 vec = false ∧ Tab.get 0 vec t.msi.pend = 0) ∧
  (∀ (ag : Agent) (v : BitVec 32) (e : Nat × List Byte) (s : State), s.reach ag = true → (s.cq (bits v.toNat 9 0)).last16.find? (fun e => e.1
    == bits v.toNat 31 16) = some e → ∃ t, exec (.replay ag v) s = .next t ∧ t.rdA ag Reg.HIF_REPLAY_STATUS_RP_STATUS = 0 ∧ ∀ i ∈ List.range 8,
    t.rdA ag Reg.HIF_REPLAY_DATA 0 i = leNat (slice e.2 (4 * i) 4) % 2 ^ 32) ∧
  (∀ (ag : Agent) (v : BitVec 32) (s : State), s.reach ag = true → (s.cq (bits v.toNat 9 0)).last16.find? (fun e => e.1 == bits v.toNat 31
    16) = none → ∃ t, exec (.replay ag v) s = .next t ∧ t.rdA ag Reg.HIF_REPLAY_STATUS_RP_STATUS = 4) ∧
  (∀ (s : State), ∀ p ∈ s.hifEqs, p.2 = false → exec .hifAuditCheck s = .next s) ∧
  (∀ (s : State), s.runs .pcie = true → ∃ t, exec .hifAuditCheck s = .next t ∧ Counted Reg.HIF_CNT_AUD_FAIL 0 0 (s.hifEqs.filter
    Prod.snd).length s t) ∧
  (∀ (ag : Agent) (v : BitVec 32) (s : State), s.reach ag = true → bit v.toNat 0 = 1 → ∃ t, exec (.hifAuditSnap ag v) s = .next t ∧ t.rd
    Reg.HIF_AUD_CTL_AUD_RING = bits v.toNat 27 16 ∧ t.rd Reg.HIF_AUDP_POST_POSTED = (s.rxr (bits v.toNat 27 16)).posted % 2 ^
    Reg.HIF_AUDP_POST_POSTED.width ∧ t.rd Reg.HIF_AUDP_POST_HELD = (s.rxr (bits v.toNat 27 16)).posts.length % 2 ^ Reg.HIF_AUDP_POST_HELD.width
    ∧ t.rd Reg.HIF_AUDP_POST_USED = (s.rxr (bits v.toNat 27 16)).used % 2 ^ Reg.HIF_AUDP_POST_USED.width ∧ t.rd Reg.HIF_AUDP_POST_DISCARDED =
    (s.rxr (bits v.toNat 27 16)).discarded % 2 ^ Reg.HIF_AUDP_POST_DISCARDED.width) ∧
  (∀ (ag : Agent) (a b c d : Nat) (r : List (Nat × Nat × Nat × Nat)) (s : State), s.reach ag = true → s.host.log = (a, b, c, d) :: r → ∃ t,
    exec (.evtLogPop ag) s = .next t ∧ t.host.log = r ∧ t.rd Reg.EVT_LOG_POP 0 0 = a % 2 ^ 32 ∧ t.rd Reg.EVT_LOG_POP 0 1 = b % 2 ^ 32 ∧ t.rd
    Reg.EVT_LOG_POP 0 2 = c % 2 ^ 32 ∧ t.rd Reg.EVT_LOG_POP 0 3 = d % 2 ^ 32) ∧
  (∀ (ag : Agent) (s : State), s.reach ag = true → s.host.log = [] → ∃ t, exec (.evtLogPop ag) s = .next t ∧ t.rd Reg.EVT_LOG_POP 0 0 = 0) ∧
  (∀ (f : Nat) (a b c d : Nat) (r : List (Nat × Nat × Nat × Nat)) (s : State), s.runs .pcie = true → f = 0 → Tab.get [] 0 s.host.errs = (a,
    b, c, d) :: r → ∃ t, exec (.errlogPop f) s = .next t ∧ Tab.get [] 0 t.host.errs = r ∧ t.rd Reg.HIF_ERRLOG_POP 0 0 = a % 2 ^ 32 ∧ t.rd
    Reg.HIF_ERRLOG_POP 0 1 = b % 2 ^ 32 ∧ t.rd Reg.HIF_ERRLOG_POP 0 2 = c % 2 ^ 32 ∧ t.rd Reg.HIF_ERRLOG_POP 0 3 = d % 2 ^ 32)

/-- Loss of an up link clears UP and USABLE, sets HOLD and is counted; of a down link it changes nothing. While PCIe runs: training at a rate
and width in service sets UP, USABLE, RATE and WIDTH; and at others it sets UP and clears USABLE. By an agent that reaches the registers,
RESUME of a hold on a usable link clears HOLD and holds each function 0 exactly where its Bus Master Enable is 0; DISCARD of a hold clears
it and disables the admin submission ring with nothing waiting; neither changes anything without a hold. An expired hold clears HOLD and
disables the admin submission ring; without a hold it changes nothing. While PCIe runs, Bus Master Enable set on a function that lacks it
sets BME and ends its hold; on one that has it, nothing changes. A VF FLR sets FLR_BUSY, clears BME, the error log and MSI-X enable of the
VF, and of no VF changes nothing; a PF FLR sets the PF's FLR_BUSY, clears its BME and PTM and disables the admin submission ring; the end
of an FLR in progress clears FLR_BUSY and is counted, and with none changes nothing. While PCIe runs, a configuration write of Bus Master
Enable to 0 clears it, of Bus Master Enable to 1 sets it; of Enable Relaxed Ordering, of MSI-X Enable, of PTM Enable (of the PF), of the
power state and of VF Enable (of a VF, its own) sets that item; an item of a function above 128 only uses credits. An unsupported request
uses credits and is answered as one, and changes nothing else. Shown to complete, under conditions on the state and the operands alone:
LINK_DOWN, LINK_TRAINED, RESUME, DISCARD, LINK_HOLD_EXPIRED, BME_SET, VF_FLR, PF_FLR, FLR_DONE, CONFIGURATION_WRITE, UNSUPPORTED_REQUEST.
Rests on R278, R280, R281, R304, R305, R306, R307. -/
def Obligations.TheLinkIsLostResumedAndReset : Prop :=
  (∀ (s : State), s.isOn Reg.HIF_LINK_UP = true → ∃ t, exec .linkDown s = .next t ∧ t.rd Reg.HIF_LINK_UP = 0 ∧ t.rd Reg.HIF_LINK_USABLE = 0 ∧
    t.rd Reg.HIF_LINK_HOLD = 1 ∧ Counted Reg.HIF_CNT_LINK_DOWNS 0 0 1 s t) ∧
  (∀ (s : State), s.isOn Reg.HIF_LINK_UP = false → exec .linkDown s = .next s) ∧
  (∀ (rate : Nat) (width : Nat) (s : State), s.runs .pcie = true → linkInService rate width = true → ∃ t, exec (.linkTrained rate width) s =
    .next t ∧ t.rd Reg.HIF_LINK_UP = 1 ∧ t.rd Reg.HIF_LINK_USABLE = 1 ∧ t.rd Reg.HIF_LINK_RATE = rate % 2 ^ Reg.HIF_LINK_RATE.width ∧ t.rd
    Reg.HIF_LINK_WIDTH = width % 2 ^ Reg.HIF_LINK_WIDTH.width) ∧
  (∀ (rate : Nat) (width : Nat) (s : State), s.runs .pcie = true → linkInService rate width = false → ∃ t, exec (.linkTrained rate width) s =
    .next t ∧ t.rd Reg.HIF_LINK_UP = 1 ∧ t.rd Reg.HIF_LINK_USABLE = 0) ∧
  (∀ (ag : Agent) (s : State), s.reach ag = true → s.isOn Reg.HIF_LINK_HOLD = true → s.isOn Reg.HIF_LINK_UP = true → s.isOn
    Reg.HIF_LINK_USABLE = true → ∃ t, exec (.resume ag) s = .next t ∧ t.rd Reg.HIF_LINK_HOLD = 0 ∧ t.rd Reg.HIF_FN_STATUS_HOLD 0 0 = (1 - s.rd
    Reg.HIF_FN_STATUS_BME 0 0) % 2 ^ Reg.HIF_FN_STATUS_HOLD.width) ∧
  (∀ (ag : Agent) (s : State), s.isOn Reg.HIF_LINK_HOLD = false → exec (.resume ag) s = .next s) ∧
  (∀ (ag : Agent) (s : State), s.reach ag = true → s.isOn Reg.HIF_LINK_HOLD = true → ∃ t, exec (.discard ag) s = .next t ∧ t.rd
    Reg.HIF_LINK_HOLD = 0 ∧ t.rd Reg.ADM_SQ_CTL_SQ_EN = 0 ∧ t.adm.cqWait = []) ∧
  (∀ (ag : Agent) (s : State), s.isOn Reg.HIF_LINK_HOLD = false → exec (.discard ag) s = .next s) ∧
  (∀ (s : State), s.isOn Reg.HIF_LINK_HOLD = true → ∃ t, exec .linkHoldExpired s = .next t ∧ t.rd Reg.HIF_LINK_HOLD = 0 ∧ t.rd
    Reg.ADM_SQ_CTL_SQ_EN = 0) ∧
  (∀ (s : State), s.isOn Reg.HIF_LINK_HOLD = false → exec .linkHoldExpired s = .next s) ∧
  (∀ (f : Nat) (s : State), s.runs .pcie = true → f ≤ 128 → s.isOn Reg.HIF_FN_STATUS_BME 0 f = false → ∃ t, exec (.bmeSet f) s = .next t ∧
    t.rd Reg.HIF_FN_STATUS_BME 0 f = 1 ∧ t.rd Reg.HIF_FN_STATUS_HOLD 0 f = 0) ∧
  (∀ (f : Nat) (s : State), s.isOn Reg.HIF_FN_STATUS_BME 0 f = true → exec (.bmeSet f) s = .next s) ∧
  (∀ (f : Nat) (s : State), s.runs .pcie = true → 1 ≤ f → f ≤ 128 → ∃ t, exec (.vfFlr f) s = .next t ∧ t.rd Reg.HIF_FN_STATUS_FLR_BUSY 0 f =
    1 ∧ t.rd Reg.HIF_FN_STATUS_BME 0 f = 0 ∧ Tab.get [] f t.host.errs = [] ∧ Tab.get 0 f t.host.msixEn = 0) ∧
  (∀ (f : Nat) (s : State), f = 0 ∨ 128 < f → exec (.vfFlr f) s = .next s) ∧
  (∀ (s : State), s.runs .pcie = true → ∃ t, exec .pfFlr s = .next t ∧ t.rd Reg.HIF_FN_STATUS_FLR_BUSY 0 0 = 1 ∧ t.rd Reg.HIF_FN_STATUS_BME 0
    0 = 0 ∧ t.rd Reg.ADM_SQ_CTL_SQ_EN = 0 ∧ t.tev.ptmOn = false) ∧
  (∀ (f : Nat) (s : State), s.runs .pcie = true → f ≤ 128 → s.isOn Reg.HIF_FN_STATUS_FLR_BUSY 0 f = true → ∃ t, exec (.flrDone f) s = .next t
    ∧ t.rd Reg.HIF_FN_STATUS_FLR_BUSY 0 f = 0 ∧ Counted Reg.HIF_CNT_FLRS 0 0 1 s t) ∧
  (∀ (f : Nat) (s : State), s.isOn Reg.HIF_FN_STATUS_FLR_BUSY 0 f = false → exec (.flrDone f) s = .next s) ∧
  (∀ (f : Nat) (item : ConfigItem) (v : Nat) (s : State), s.runs .pcie = true → f ≤ 128 → item = .busMasterEnable → v = 0 → ∃ t, exec
    (.configurationWrite f item v) s = .next t ∧ t.rd Reg.HIF_FN_STATUS_BME 0 f = 0) ∧
  (∀ (f : Nat) (item : ConfigItem) (v : Nat) (s : State), s.runs .pcie = true → f ≤ 128 → item = .busMasterEnable → v ≠ 0 → s.isOn
    Reg.HIF_FN_STATUS_BME 0 f = false → ∃ t, exec (.configurationWrite f item v) s = .next t ∧ t.rd Reg.HIF_FN_STATUS_BME 0 f = 1) ∧
  (∀ (f : Nat) (item : ConfigItem) (v : Nat) (s : State), s.runs .pcie = true → f ≤ 128 → item = .relaxedOrdering → ∃ t, exec
    (.configurationWrite f item v) s = .next t ∧ Tab.get 0 f t.host.relaxed = b2n (v ≠ 0) ∧ t.regs = s.regs) ∧
  (∀ (f : Nat) (item : ConfigItem) (v : Nat) (s : State), s.runs .pcie = true → f ≤ 128 → item = .msixEnable → ∃ t, exec (.configurationWrite
    f item v) s = .next t ∧ Tab.get 0 f t.host.msixEn = b2n (v ≠ 0)) ∧
  (∀ (f : Nat) (item : ConfigItem) (v : Nat) (s : State), s.runs .pcie = true → f = 0 → item = .ptmEnable → ∃ t, exec (.configurationWrite f
    item v) s = .next t ∧ t.tev.ptmOn = decide (v ≠ 0) ∧ t.regs = s.regs) ∧
  (∀ (f : Nat) (item : ConfigItem) (v : Nat) (s : State), s.runs .pcie = true → f ≤ 128 → item = .powerState → v % 4 = 0 ∨ v % 4 = 3 → ∃ t,
    exec (.configurationWrite f item v) s = .next t ∧ t.cfg f Cfg.d3hot = v % 4 ∧ t.regs = s.regs) ∧
  (∀ (f : Nat) (item : ConfigItem) (v : Nat) (s : State), s.runs .pcie = true → 1 ≤ f → f ≤ 128 → item = .vfEnable → ∃ t, exec
    (.configurationWrite f item v) s = .next t ∧ t.rd Reg.HIF_FN_STATUS_ENABLED 0 f = b2n (v ≠ 0)) ∧
  (∀ (f : Nat) (item : ConfigItem) (v : Nat) (s : State), s.runs .pcie = true → 128 < f → exec (.configurationWrite f item v) s = .next
    (s.fcTake 0 0 1 1)) ∧
  (∀ (f : Nat) (kind : Unsupported) (s : State), s.runs .pcie = true → exec (.unsupportedRequest f kind) s = .next ((s.fcTake 0 0 1 0).emit
    (.unsupported f)))

/-- By an agent whose path to the mailboxes runs: a send that R320 does not refuse makes the mailbox FULL with the next sequence number, the
sender's ID and length, gives the sender OK, and is counted; a refused one gives INVALID, is counted, and changes no mailbox. The owner's
read of STATUS latches the message and answers its first word; another agent's read answers FULL alone and latches nothing. An
acknowledgement by the owner of the SEQ of a FULL mailbox empties it; of another SEQ, or of an empty one, it is counted as stale; by
another agent it changes nothing. The PF moves an empty mailbox between functions and none; an owner that is no function, or a move while
the mailbox is FULL, sets WERR; another agent's write changes nothing. Shown to complete, under conditions on the state and the operands
alone: MBX_SEND, MBX_STATUS_READ, MBX_ACK, MBX_OWNER_WRITE. Rests on R319, R320, R321, R323, R324. -/
def Obligations.MailboxesCarryMessages : Prop :=
  (∀ (ag : Agent) (v : BitVec 32) (s : State), s.path ag = true → s.sendRefused ag (bits v.toNat 21 16) (s.view ag).ptr (bits v.toNat 15 0)
    (bits v.toNat 23 22) (bits v.toNat 31 24) = false → ∃ t, exec (.mbxSend ag v) s = .next t ∧ (t.box (bits v.toNat 21 16)).full = true ∧
    (t.box (bits v.toNat 21 16)).seq = ((s.box (bits v.toNat 21 16)).cnt + 1) % 256 ∧ (t.box (bits v.toNat 21 16)).src = ag.id ∧ (t.box (bits
    v.toNat 21 16)).len = bits v.toNat 15 0 ∧ (t.view ag).result = 0 ∧ Counted Reg.MBX_CNT_MESSAGES 0 0 1 s t) ∧
  (∀ (ag : Agent) (v : BitVec 32) (s : State), s.path ag = true → s.sendRefused ag (bits v.toNat 21 16) (s.view ag).ptr (bits v.toNat 15 0)
    (bits v.toNat 23 22) (bits v.toNat 31 24) = true → ∃ t, exec (.mbxSend ag v) s = .next t ∧ t.mbx.box = s.mbx.box ∧ (t.view ag).result = 2 ∧
    Counted Reg.MBX_CNT_REFUSED 0 0 1 s t) ∧
  (∀ (ag : Agent) (n : Nat) (s : State), s.path ag = true → s.ownsBox ag n = true → ∃ t, exec (.mbxStatusRead ag n) s = .next t ∧ Tab.get
    none n (t.view ag).latch = some (s.box n) ∧ t.out = s.out ++ [.regRead (0x300000 + 0x20 * n) ((mboxWords (s.box n)).getD 0 0)] ∧ t.mbx.box
    = s.mbx.box) ∧
  (∀ (ag : Agent) (n : Nat) (s : State), s.path ag = true → s.ownsBox ag n = false → exec (.mbxStatusRead ag n) s = .next (s.emit (.regRead
    (0x300000 + 0x20 * n) (b2n (s.box n).full)))) ∧
  (∀ (ag : Agent) (n : Nat) (seq : Nat) (s : State), s.path ag = true → s.ownsBox ag n = true → (s.box n).full = true → (s.box n).seq = seq %
    256 → ∃ t, exec (.mbxAck ag n seq) s = .next t ∧ (t.box n).full = false ∧ (t.box n).collided = false ∧ t.regs = s.regs) ∧
  (∀ (ag : Agent) (n : Nat) (seq : Nat) (s : State), s.path ag = true → s.ownsBox ag n = true → (s.box n).full = false ∨ (s.box n).seq ≠ seq
    % 256 → exec (.mbxAck ag n seq) s = .next (s.inc Reg.MBX_CNT_ACK_STALE)) ∧
  (∀ (ag : Agent) (n : Nat) (seq : Nat) (s : State), s.ownsBox ag n = false → exec (.mbxAck ag n seq) s = .next s) ∧
  (∀ (ag : Agent) (n : Nat) (owner : Nat) (s : State), s.path ag = true → ag = .pf → n < 64 → fnOwner (s.mbxOwner n) = true → fnOwner (owner
    % 256) = true → owner % 256 ≠ s.mbxOwner n → (s.box n).full = false → ∃ t, exec (.mbxOwnerWrite ag n owner) s = .next t ∧ t.rd
    Reg.MBX_OWN_OWNER 0 n = owner % 256 ∧ t.mbx = s.mbx) ∧
  (∀ (ag : Agent) (n : Nat) (owner : Nat) (s : State), s.path ag = true → ag = .pf → fnOwner (owner % 256) = false ∨ (s.box n).full = true →
    exec (.mbxOwnerWrite ag n owner) s = .next (s.wr Reg.MBX_STATUS_WERR 1)) ∧
  (∀ (ag : Agent) (n : Nat) (owner : Nat) (s : State), ag ≠ .pf → exec (.mbxOwnerWrite ag n owner) s = .next s)

/-- By an agent whose path runs and that has no fetch running: a fetch of a latched message of a mailbox of its own, from the shared window to
inside the shared window, starts and keeps that message; one without a latched message fails with INVALID and is counted; while one runs a
further one changes nothing. A running copy inside the shared window, no longer than the window, ends with the body at its destination, OK,
and is counted; with none running the end changes nothing. A word access of the window at SW_ADDR writes or reads four bytes there and
advances the address by four. The BMC, while its path runs: a window write inside the window puts its bytes there and is answered OK, a
read there is answered with the bytes, others are answered INVALID and change nothing; a send that R320 does not refuse makes the mailbox
FULL with the BMC's ID and the next sequence number, and one beyond the window is answered INVALID and counted as refused; a read of a
mailbox of its own answers its words and latches the message; an acknowledgement of its own mailbox by its SEQ empties it and is answered
OK, and of another's is answered DENIED. Shown to complete, under conditions on the state and the operands alone: MBX_FETCH,
MBX_FETCH_DONE, MBX_SW_ACCESS, SW_WRITE, SW_READ, MCTP_MBX_SEND, MCTP_MBX_READ, MCTP_MBX_ACK. Rests on R325, R326, R327, R329. -/
def Obligations.MailboxBodiesAndTheSharedWindow : Prop :=
  (∀ (ag : Agent) (v : BitVec 32) (m : Mbox) (s : State), s.path ag = true → (s.view ag).busy = false → bit v.toNat 8 = 1 → Tab.get none
    (bits v.toNat 5 0) (s.view ag).latch = some m → s.ownsBox ag (bits v.toNat 5 0) = true → bits v.toNat 7 6 = 1 → (s.view ag).dst % 1048576 +
    m.len ≤ 1048576 → m.space = 1 → ∃ t, exec (.mbxFetch ag v) s = .next t ∧ (t.view ag).busy = true ∧ (t.view ag).cur = some m ∧ (t.view
    ag).curDst = (s.view ag).dst ∧ t.out = s.out ∧ t.regs = s.regs) ∧
  (∀ (ag : Agent) (v : BitVec 32) (s : State), s.path ag = true → (s.view ag).busy = false → bit v.toNat 8 = 1 → Tab.get none (bits v.toNat 5
    0) (s.view ag).latch = none → ∃ t, exec (.mbxFetch ag v) s = .next t ∧ (t.view ag).fstatus = 2 ∧ (t.view ag).busy = false ∧ Counted
    Reg.MBX_CNT_FETCH_FAILS 0 0 1 s t) ∧
  (∀ (ag : Agent) (v : BitVec 32) (s : State), (s.view ag).busy = true → exec (.mbxFetch ag v) s = .next s) ∧
  (∀ (ag : Agent) (result : HostRead) (m : Mbox) (s : State), (s.view ag).cur = some m → m.space = 1 → m.len ≤ 1048576 → (s.view ag).curSpace
    = 1 → ∃ t, exec (.mbxFetchDone ag result) s = .next t ∧ t.swRead ((s.view ag).curDst % 1048576) m.len = s.swRead (m.ptr % 1048576) m.len ∧
    (t.view ag).busy = false ∧ (t.view ag).fstatus = 0 ∧ Counted Reg.MBX_CNT_FETCHES 0 0 1 s t) ∧
  (∀ (ag : Agent) (result : HostRead) (s : State), (s.view ag).cur = none → exec (.mbxFetchDone ag result) s = .next s) ∧
  (∀ (ag : Agent) (write : Bool) (v : BitVec 32) (s : State), s.path ag = true → write = true → (s.view ag).swAddr < 1048576 - 4 → ∃ t, exec
    (.mbxSwAccess ag write v) s = .next t ∧ t.swRead (s.view ag).swAddr 4 = leBytes 4 v.toNat ∧ (t.view ag).swAddr = (s.view ag).swAddr + 4 ∧
    t.regs = s.regs) ∧
  (∀ (ag : Agent) (write : Bool) (v : BitVec 32) (s : State), s.path ag = true → write = false → ∃ t, exec (.mbxSwAccess ag write v) s =
    .next t ∧ t.out = s.out ++ [.regRead 0x300824 (leNat (s.swRead (s.view ag).swAddr 4))] ∧ t.mbx.sw = s.mbx.sw ∧ (t.view ag).swAddr =
    ((s.view ag).swAddr + 4) % 1048576) ∧
  (∀ (off : BitVec 32) (data : List Byte) (s : State), s.path .bmc = true → swRange off.toNat data.length = true → ∃ t, exec (.swWrite off
    data) s = .next t ∧ t.swRead off.toNat data.length = data ∧ t.out = s.out ++ [.mctp 0 []] ∧ t.regs = s.regs) ∧
  (∀ (off : BitVec 32) (data : List Byte) (s : State), s.path .bmc = true → swRange off.toNat data.length = false → exec (.swWrite off data)
    s = .next (s.emit (.mctp 2 []))) ∧
  (∀ (off : BitVec 32) (len : Nat) (s : State), s.path .bmc = true → swRange off.toNat len = true → exec (.swRead off len) s = .next (s.emit
    (.mctp 0 (s.swRead off.toNat len)))) ∧
  (∀ (off : BitVec 32) (len : Nat) (s : State), s.path .bmc = true → swRange off.toNat len = false → exec (.swRead off len) s = .next (s.emit
    (.mctp 2 []))) ∧
  (∀ (n : Nat) (off : BitVec 32) (len : Nat) (s : State), s.path .bmc = true → off.toNat + len ≤ 1048576 → s.sendRefused .bmc n off.toNat
    (len % 65536) 1 (len / 65536) = false → ∃ t, exec (.mctpMbxSend n off len) s = .next t ∧ (t.box n).full = true ∧ (t.box n).src =
    Agent.bmc.id ∧ (t.box n).seq = ((s.box n).cnt + 1) % 256 ∧ (t.view .bmc).result = 0) ∧
  (∀ (n : Nat) (off : BitVec 32) (len : Nat) (s : State), s.path .bmc = true → len ≠ 0 → off.toNat + len > 1048576 → ∃ t, exec (.mctpMbxSend
    n off len) s = .next t ∧ t.mbx.box = s.mbx.box ∧ t.out = s.out ++ [.mctp 2 []] ∧ Counted Reg.MBX_CNT_REFUSED 0 0 1 s t) ∧
  (∀ (n : Nat) (s : State), s.path .bmc = true → s.ownsBox .bmc n = true → ∃ t, exec (.mctpMbxRead n) s = .next t ∧ t.out = s.out ++ [.mctp 0
    ((mboxWords (s.box n)).flatMap (leBytes 4))] ∧ Tab.get none n (t.view .bmc).latch = some (s.box n)) ∧
  (∀ (n : Nat) (seq : Nat) (s : State), s.path .bmc = true → s.ownsBox .bmc n = true → (s.box n).full = true → (s.box n).seq = seq % 256 → ∃
    t, exec (.mctpMbxAck n seq) s = .next t ∧ (t.box n).full = false ∧ t.out.getLast? = some (.mctp 0 [])) ∧
  (∀ (n : Nat) (seq : Nat) (s : State), s.path .bmc = true → s.ownsBox .bmc n = false → exec (.mctpMbxAck n seq) s = .next (s.emit (.mctp 3
    [])))

/-- In its place of a D0 frame and with firmware present: a first fragment of a content of 2 to 16 fragments, for the terminal and with a right
MCRC, where no fragment came before, is kept and waits for the next, with no ACK; a KEY_EXCHANGE with a wrong MCRC is counted. A KEY_SWITCH
that the terminal acts on, with an EFF_SFC inside the window and two superframes ahead or more, makes a generation that is not current
pending in its direction, with EFF_SFC, and of the current generation ends a pending switch; both are acknowledged OK. One with an EFF_SFC
less than two superframes ahead is acknowledged OUT_OF_WINDOW and writes no register. A switch that is effective as frame 0 of its EFF_SFC
or of a later superframe starts (upstream) or has its marker (downstream) makes the pending generation current and retires the old one;
where nothing is pending, or before that frame, nothing changes. The erasure of a retired upstream generation empties it of every LINE key;
where none is retired it changes nothing. Shown to complete, under conditions on the state and the operands alone: KEY_EXCHANGE,
KEY_SWITCH, KEY_SWITCH_UP_EFFECTIVE, KEY_SWITCH_DN_EFFECTIVE, GENERATION_ERASE. Rests on R222, R226, R227, R228, R67. -/
def Obligations.KeysAreExchangedAndSwitched : Prop :=
  (∀ (l : Leg) (msg : BitVec 384) (s : State), msgType msg = 0x0A → s.fwPresent = true → Hears s l → mcrcOk msg = true → s.addressed l msg
    false = true → mfield msg 6 1 = 0 → 2 ≤ mfield msg 7 1 → mfield msg 7 1 ≤ 16 → (s.leg l).kxLast = none → ∃ t, exec (.keyExchange l msg) s =
    .next t ∧ (t.leg l).kx = some
    { txid := msgTxid msg, nfrag := mfield msg 7 1, tn := msgTn msg, bytes := slice (msgBytes msg) 8 36, next := 1 } ∧ (t.leg l).kxLast = some
    (msgTxid msg, 0, s.cur l) ∧ (t.leg l).acks = (s.leg l).acks ∧ t.regs = s.regs) ∧
  (∀ (l : Leg) (msg : BitVec 384) (s : State), msgType msg = 0x0A → s.fwPresent = true → Hears s l → mcrcOk msg = false → ∃ t, exec
    (.keyExchange l msg) s = .next t ∧ Counted Reg.LINE_D0CNT_MSG_CRC_ERR l.n 0 1 s t ∧ (t.leg l).kx = (s.leg l).kx ∧ (t.leg l).acks = (s.leg
    l).acks) ∧
  (∀ (l : Leg) (msg : BitVec 384) (s : State), Hears s l → s.takes l 0x0B msg false 0 = true → s.hasTn l = true → s.effOk l (mfield msg 8 6)
    = true → s.cur l + 2 ≤ mfield msg 8 6 → mfield msg 7 1 % 2 = 0 → mfield msg 6 1 % 4 ≠ s.rd Reg.CIPH_GEN_DN_CUR l.n → ∃ t, exec (.keySwitch
    l msg) s = .next t ∧ t.rd Reg.CIPH_GEN_DN_PEND l.n = 1 ∧ t.rd Reg.CIPH_GEN_DN_NEXT l.n = mfield msg 6 1 % 4 ∧ t.rd2 Reg.CIPH_DN_EFF_LO
    Reg.CIPH_DN_EFF_HI l.n = mfield msg 8 6 ∧ Acked l msg 0x0B 0 s t) ∧
  (∀ (l : Leg) (msg : BitVec 384) (s : State), Hears s l → s.takes l 0x0B msg false 0 = true → s.hasTn l = true → s.effOk l (mfield msg 8 6)
    = true → s.cur l + 2 ≤ mfield msg 8 6 → mfield msg 7 1 % 2 = 0 → mfield msg 6 1 % 4 = s.rd Reg.CIPH_GEN_DN_CUR l.n → ∃ t, exec (.keySwitch
    l msg) s = .next t ∧ t.rd Reg.CIPH_GEN_DN_PEND l.n = 0 ∧ t.rd Reg.CIPH_GEN_DN_CUR l.n = s.rd Reg.CIPH_GEN_DN_CUR l.n ∧ Acked l msg 0x0B 0 s
    t) ∧
  (∀ (l : Leg) (msg : BitVec 384) (s : State), Hears s l → s.takes l 0x0B msg false 0 = true → s.hasTn l = true → s.effOk l (mfield msg 8 6)
    = true → s.cur l + 2 ≤ mfield msg 8 6 → mfield msg 7 1 % 2 = 1 → mfield msg 6 1 % 4 ≠ s.rd Reg.CIPH_GEN_UP_CUR l.n → ∃ t, exec (.keySwitch
    l msg) s = .next t ∧ t.rd Reg.CIPH_GEN_UP_PEND l.n = 1 ∧ t.rd Reg.CIPH_GEN_UP_NEXT l.n = mfield msg 6 1 % 4 ∧ t.rd2 Reg.CIPH_UP_EFF_LO
    Reg.CIPH_UP_EFF_HI l.n = mfield msg 8 6 ∧ Acked l msg 0x0B 0 s t) ∧
  (∀ (l : Leg) (msg : BitVec 384) (s : State), Hears s l → s.takes l 0x0B msg false 0 = true → s.hasTn l = true → s.effOk l (mfield msg 8 6)
    = true → s.cur l + 2 ≤ mfield msg 8 6 → mfield msg 7 1 % 2 = 1 → mfield msg 6 1 % 4 = s.rd Reg.CIPH_GEN_UP_CUR l.n → ∃ t, exec (.keySwitch
    l msg) s = .next t ∧ t.rd Reg.CIPH_GEN_UP_PEND l.n = 0 ∧ t.rd Reg.CIPH_GEN_UP_CUR l.n = s.rd Reg.CIPH_GEN_UP_CUR l.n ∧ Acked l msg 0x0B 0 s
    t) ∧
  (∀ (l : Leg) (msg : BitVec 384) (s : State), Hears s l → s.takes l 0x0B msg false 0 = true → s.hasTn l = true → mfield msg 8 6 < s.cur l +
    2 → ∃ t, exec (.keySwitch l msg) s = .next t ∧ Acked l msg 0x0B 14 s t ∧ t.regs = s.regs) ∧
  (∀ (l : Leg) (s : State), s.isOn Reg.CIPH_GEN_UP_PEND l.n = true → (s.leg l).upFn = 0 → s.rd2 Reg.CIPH_UP_EFF_LO Reg.CIPH_UP_EFF_HI l.n ≤
    (s.leg l).upSfc → ∃ t, exec (.keySwitchUpEffective l) s = .next t ∧ t.rd Reg.CIPH_GEN_UP_CUR l.n = s.rd Reg.CIPH_GEN_UP_NEXT l.n ∧ t.rd
    Reg.CIPH_GEN_UP_PEND l.n = 0 ∧ (t.leg l).upRet = some (s.rd Reg.CIPH_GEN_UP_CUR l.n)) ∧
  (∀ (l : Leg) (s : State), s.isOn Reg.CIPH_GEN_UP_PEND l.n = false ∨ ¬((s.leg l).upFn = 0) ∨ ¬(s.rd2 Reg.CIPH_UP_EFF_LO Reg.CIPH_UP_EFF_HI
    l.n ≤ (s.leg l).upSfc) → exec (.keySwitchUpEffective l) s = .next s) ∧
  (∀ (l : Leg) (s : State), s.isOn Reg.CIPH_GEN_DN_PEND l.n = true → (s.wave l 0).fn = 0 → s.rd2 Reg.CIPH_DN_EFF_LO Reg.CIPH_DN_EFF_HI l.n ≤
    s.cur l → ∃ t, exec (.keySwitchDnEffective l) s = .next t ∧ t.rd Reg.CIPH_GEN_DN_CUR l.n = s.rd Reg.CIPH_GEN_DN_NEXT l.n ∧ t.rd
    Reg.CIPH_GEN_DN_PEND l.n = 0 ∧ (t.leg l).dnRet = some (s.rd Reg.CIPH_GEN_DN_CUR l.n)) ∧
  (∀ (l : Leg) (s : State), s.isOn Reg.CIPH_GEN_DN_PEND l.n = false ∨ ¬((s.wave l 0).fn = 0) ∨ ¬(s.rd2 Reg.CIPH_DN_EFF_LO Reg.CIPH_DN_EFF_HI
    l.n ≤ s.cur l) → exec (.keySwitchDnEffective l) s = .next s) ∧
  (∀ (l : Leg) (up : Bool) (k n : Nat) (s : State), up = true → (s.leg l).upRet = some k → (s.slot n).kind = 1 → ∃ t, exec (.generationErase
    l up) s = .next t ∧ Tab.get 0 (8 * l.n + 4 + k) (t.slot n).keys = 0 ∧ (t.leg l).upRet = none) ∧
  (∀ (l : Leg) (up : Bool) (s : State), up = false → (s.leg l).dnRet = none → exec (.generationErase l up) s = .next s)

/-- By an agent that reaches the registers: a slot command on its idle registers makes them BUSY; QUERY shows the slot's KIND, OWNER and LOADED
and changes no slot; READ sends nothing out, changes no slot and will answer DENIED; ERASE empties a lookaside slot and will answer OK, and
of another slot changes nothing and will answer DENIED. One written while BUSY reports BUSY and changes no slot. Its end shows the status,
counts a DENIED and clears BUSY; with no command running it changes nothing. KEY_REFRESH of legs starts a REQUEST on each leg named (ending
idle first where the PF writes), and CIPH_LOCK sets the lock. The failure of the generator and its recovery set and clear RNG_FAIL. While
the core runs: the lookaside request at the head of the ring whose turn it is, well formed, with the service enabled and a lookaside slot
of the ring's owner, the generator healthy and its bytes read, is taken with the AES-GCM output of its bytes where it encrypts, and where
it decrypts and its tag fails, with INVALID and AUTH_FAIL, counted; with a slot of another owner it is taken with DENIED; a ring whose turn
it is not changes nothing. The end of a request with OK, where its owner may issue requests, takes it off the ring, counts it and its
bytes, and adds its entry to the ring's completion ring; with none running it changes nothing. Shown to complete, under conditions on the
state and the operands alone: QUERY, SLOT_READ, SLOT_ERASE, SLOT_CMD_DONE, KEY_REFRESH, CIPH_LOCK, RNG_FAIL, RNG_RECOVER,
LOOKASIDE_REQUEST, LOOKASIDE_DONE. Rests on R229, R230, R232, R233, R236, R231, R298, R9. -/
def Obligations.KeySlotsAnswerAndLookasideRuns : Prop :=
  (∀ (ag : Agent) (s : State), s.reach ag = true → s.rdA ag Reg.CIPH_SLOT_CMD_BUSY = 0 → ∃ t, exec (.query ag) s = .next t ∧ t.rdA ag
    Reg.CIPH_SLOT_CMD_BUSY = 1 ∧ t.rdA ag Reg.CIPH_SLOT_INFO_KIND = (s.slot (s.rdA ag Reg.CIPH_SLOT_IDX)).kind % 2 ^
    Reg.CIPH_SLOT_INFO_KIND.width ∧ t.rdA ag Reg.CIPH_SLOT_INFO_OWNER = (s.slot (s.rdA ag Reg.CIPH_SLOT_IDX)).owner % 2 ^
    Reg.CIPH_SLOT_INFO_OWNER.width ∧ t.rdA ag Reg.CIPH_SLOT_INFO_LOADED = loadedBits (s.slot (s.rdA ag Reg.CIPH_SLOT_IDX)) % 2 ^
    Reg.CIPH_SLOT_INFO_LOADED.width ∧ t.ciph.slots = s.ciph.slots) ∧
  (∀ (ag : Agent) (s : State), s.reach ag = true → s.rdA ag Reg.CIPH_SLOT_CMD_BUSY ≠ 0 → ∃ t, exec (.query ag) s = .next t ∧ t.rdA ag
    Reg.CIPH_SLOT_CMD_STATUS = 1 ∧ t.ciph = s.ciph) ∧
  (∀ (ag : Agent) (s : State), s.reach ag = true → s.rdA ag Reg.CIPH_SLOT_CMD_BUSY = 0 → ∃ t, exec (.slotRead ag) s = .next t ∧ t.rdA ag
    Reg.CIPH_SLOT_CMD_BUSY = 1 ∧ (if ag.isFw then t.ciph.cmdStFw else t.ciph.cmdSt) = some 3 ∧ t.ciph.slots = s.ciph.slots ∧ t.out = (if ag =
    .pf then s.idleExit 11 else s).out) ∧
  (∀ (ag : Agent) (s : State), s.reach ag = true → s.rdA ag Reg.CIPH_SLOT_CMD_BUSY = 0 → (s.slot (s.rdA ag Reg.CIPH_SLOT_IDX)).kind = 2 → ∃
    t, exec (.slotErase ag) s = .next t ∧ t.slot (s.rdA ag Reg.CIPH_SLOT_IDX) = {} ∧ t.rdA ag Reg.CIPH_SLOT_CMD_BUSY = 1 ∧ (if ag.isFw then
    t.ciph.cmdStFw else t.ciph.cmdSt) = some 0) ∧
  (∀ (ag : Agent) (s : State), s.reach ag = true → s.rdA ag Reg.CIPH_SLOT_CMD_BUSY = 0 → (s.slot (s.rdA ag Reg.CIPH_SLOT_IDX)).kind ≠ 2 → ∃
    t, exec (.slotErase ag) s = .next t ∧ t.ciph.slots = s.ciph.slots ∧ (if ag.isFw then t.ciph.cmdStFw else t.ciph.cmdSt) = some 3) ∧
  (∀ (ag : Agent) (st : Nat) (s : State), s.reach ag = true → (if ag.isFw then s.ciph.cmdStFw else s.ciph.cmdSt) = some st → st < 16 → ∃ t,
    exec (.slotCmdDone ag) s = .next t ∧ t.rdA ag Reg.CIPH_SLOT_CMD_BUSY = 0 ∧ t.rdA ag Reg.CIPH_SLOT_CMD_STATUS = st ∧ (if ag.isFw then
    t.ciph.cmdStFw else t.ciph.cmdSt) = none ∧ Counted Reg.CIPH_CNT_DENIED 0 0 (if st = 3 then 1 else 0) s t) ∧
  (∀ (ag : Agent) (s : State), (if ag.isFw then s.ciph.cmdStFw else s.ciph.cmdSt) = none → exec (.slotCmdDone ag) s = .next s) ∧
  (∀ (ag : Agent) (mask : Nat) (s : State), s.reach ag = true → mask % 4 = 1 → exec (.keyRefresh ag mask) s = .next ((if ag = .pf then
    s.idleExit 11 else s).sendReq .a 4 [])) ∧
  (∀ (ag : Agent) (mask : Nat) (s : State), s.reach ag = true → mask % 4 = 2 → exec (.keyRefresh ag mask) s = .next ((if ag = .pf then
    s.idleExit 11 else s).sendReq .b 4 [])) ∧
  (∀ (ag : Agent) (mask : Nat) (s : State), s.reach ag = true → mask % 4 = 3 → exec (.keyRefresh ag mask) s = .next (((if ag = .pf then
    s.idleExit 11 else s).sendReq .a 4 []).sendReq .b 4 [])) ∧
  (∀ (ag : Agent) (mask : Nat) (s : State), s.reach ag = true → mask % 4 = 0 → exec (.keyRefresh ag mask) s = .next ((if ag = .pf then
    s.idleExit 11 else s))) ∧
  (∀ (ag : Agent) (s : State), s.reach ag = true → exec (.ciphLock ag) s = .next ((if ag = .pf then s.idleExit 11 else s).wr
    Reg.CIPH_PART_LOCK 1)) ∧
  (∀ (s : State), ∃ t, exec .rngFail s = .next t ∧ t.rd Reg.CIPH_STATUS_RNG_FAIL = 1 ∧ t.ciph = s.ciph) ∧
  (∀ (s : State), exec .rngRecover s = .next (s.wr Reg.CIPH_STATUS_RNG_FAIL 0)) ∧
  (∀ (ring : Nat) (src : HostRead) (idx : Nat) (e : List Byte) (rest : List (Nat × List Byte)) (b : List Byte) (s : State), s.runs .core =
    true → s.laTurn = some ring → (s.rxr ring).reqs = (idx, e) :: rest → s.isOn Reg.CIPH_CTL_LA_EN = true → leNat (slice e 18 2) ≤ 4096 → leNat
    (slice e 20 2) < 512 → leNat (slice e 36 28) = 0 → (s.slot (leNat (slice e 20 2))).kind = 2 → (s.slot (leNat (slice e 20 2))).owner = s.rd
    Reg.HIF_RX_CTL_OWNER 0 ring → s.isOn Reg.CIPH_STATUS_RNG_FAIL = false → src = .data b → ∃ t, exec (.lookasideRequest ring src) s = .next t
    ∧ (t.rxr ring).reqs = rest ∧ (t.rxr ring).la =
    [{ idx := idx, reqId := leNat (slice e 22 2), len := leNat (slice e 16 2), status := 0, authFail := false, dst := leNat (slice e 8 8), output := (Crypto.gcmEnc (Tab.get 1 0 (s.slot (leNat (slice e 20 2))).keys - 1) (beNat (slice e 24 12)) (slice b 0 (leNat (slice e 18 2))) (slice b (leNat (slice e 18 2)) (leNat (slice e 16 2)))).1 ++ (Crypto.gcmEnc (Tab.get 1 0 (s.slot (leNat (slice e 20 2))).keys - 1) (beNat (slice e 24 12)) (slice b 0 (leNat (slice e 18 2))) (slice b (leNat (slice e 18 2)) (leNat (slice e 16 2)))).2 }]
    ∧ t.regs = s.regs) ∧
  (∀ (ring : Nat) (src : HostRead) (idx : Nat) (e : List Byte) (rest : List (Nat × List Byte)) (b : List Byte) (s : State), s.runs .core =
    true → s.laTurn = some ring → (s.rxr ring).reqs = (idx, e) :: rest → s.isOn Reg.CIPH_CTL_LA_EN = true → leNat (slice e 18 2) ≤ 4096 → 512 ≤
    leNat (slice e 20 2) → leNat (slice e 20 2) < 1024 → leNat (slice e 36 28) = 0 → (s.slot (leNat (slice e 20 2) % 512)).kind = 2 → (s.slot
    (leNat (slice e 20 2) % 512)).owner = s.rd Reg.HIF_RX_CTL_OWNER 0 ring → s.isOn Reg.CIPH_STATUS_RNG_FAIL = false → src = .data b →
    Crypto.gcmDec (Tab.get 1 0 (s.slot (leNat (slice e 20 2) % 512)).keys - 1) (beNat (slice e 24 12)) (slice b 0 (leNat (slice e 18 2)))
    (slice b (leNat (slice e 18 2)) (leNat (slice e 16 2))) (slice b (leNat (slice e 18 2) + leNat (slice e 16 2)) 16) = none → ∃ t, exec
    (.lookasideRequest ring src) s = .next t ∧ (t.rxr ring).reqs = rest ∧ (t.rxr ring).la =
    [{ idx := idx, reqId := leNat (slice e 22 2), len := leNat (slice e 16 2), status := 2, authFail := true, dst := leNat (slice e 8 8), output := [] }]
    ∧ Counted Reg.CIPH_CNT_LA_AUTH_FAIL 0 0 1 s t) ∧
  (∀ (ring : Nat) (src : HostRead) (idx : Nat) (e : List Byte) (rest : List (Nat × List Byte)) (s : State), s.runs .core = true → s.laTurn =
    some ring → (s.rxr ring).reqs = (idx, e) :: rest → s.isOn Reg.CIPH_CTL_LA_EN = true → leNat (slice e 18 2) ≤ 4096 → leNat (slice e 20 2) <
    512 → leNat (slice e 36 28) = 0 → (s.slot (leNat (slice e 20 2))).kind = 2 → (s.slot (leNat (slice e 20 2))).owner ≠ s.rd
    Reg.HIF_RX_CTL_OWNER 0 ring → ∃ t, exec (.lookasideRequest ring src) s = .next t ∧ (t.rxr ring).reqs = rest ∧ (t.rxr ring).la =
    [{ idx := idx, reqId := leNat (slice e 22 2), len := leNat (slice e 16 2), status := 3, authFail := false, dst := leNat (slice e 8 8), output := [] }]) ∧
  (∀ (ring : Nat) (src : HostRead) (s : State), s.laTurn ≠ some ring → exec (.lookasideRequest ring src) s = .next s) ∧
  (∀ (ring : Nat) (r : LaReq) (rest : List LaReq) (s : State), s.runs .core = true → (s.rxr ring).la = r :: rest → s.canDma (s.rd
    Reg.HIF_RX_CTL_OWNER 0 ring) = true → r.status = 0 → ∃ t, exec (.lookasideDone ring) s = .next t ∧ (t.rxr ring).la = rest ∧ Counted
    Reg.CIPH_CNT_LA_REQUESTS 0 0 1 s t ∧ Counted Reg.CIPH_CNT_LA_BYTES 0 0 r.len s t ∧
    { body := laEntry ring r, live := true, pass := some (.rx, ring, 1) } ∈ (t.cq (s.rd Reg.HIF_RX_CQ 0 ring)).waiting) ∧
  (∀ (ring : Nat) (s : State), (s.rxr ring).la = [] → exec (.lookasideDone ring) s = .next s)

/-- By an agent that reaches the registers, on its idle registers, with firmware present: a read makes them BUSY and puts the view of the entry
selected in the four DATA words, to report OK. A write, outside a group, of an entry R182 does not refuse, inserts it where the entry is
invalid in the current and the draining view and not staged (OK), and answers VERSION_MISMATCH with no entry changed where the current
entry is valid. With STAGE = 1 in an open group of fewer than 4,096 a write of an entry R182 does not refuse, or an INVALIDATE, of an entry
not yet staged stages it and counts it (OK), and changes no current entry; with STAGE = 1 and no open group a write is INVALID and changes
nothing. INVALIDATE without STAGE answers VERSION_MISMATCH and changes no entry. A COMPARE_AND_WRITE without STAGE that R182 does not
refuse and whose entry differs answers NOT_FOUND with the entry found, changing none; with STAGE, in an open group, of a staged entry that
agrees, it stages the new one without a further count (OK). A command while BUSY reports BUSY and changes no entry; one with firmware
absent answers BUSY_RESTARTING and changes none. The end of a command shows its status and clears BUSY, and with none running changes
nothing. STAT_LATCH shows the counters of a stream. LEARN's pending bit of a stream ends by its expiry, and all of them by REARM. Shown to
complete, under conditions on the state and the operands alone: STBL_READ, STBL_WRITE, STBL_INVALIDATE, COMPARE_AND_WRITE, STBL_CMD_DONE,
STAT_LATCH, LEARN_HOLD_EXPIRY, LEARN_REARM. Rests on R182, R184, R187, R188, R189, R25. -/
def Obligations.StreamEntriesAreReadAndWritten : Prop :=
  (∀ (ag : Agent) (view : Nat) (s : State), s.reach ag = true → s.rdA ag Reg.STBL_CMD_BUSY = 0 → s.fwPresent = true → ∃ t, exec (.stblRead ag
    view) s = .next t ∧ t.rdA ag Reg.STBL_CMD_BUSY = 1 ∧ (if ag.isFw then t.cls.stblStFw else t.cls.stblSt) = some 0 ∧ ∀ i ∈ List.range 4,
    t.rdA ag Reg.STBL_DATA 0 i = bits (s.streamView view (s.rdA ag Reg.STBL_IDX)) (32 * i + 31) (32 * i)) ∧
  (∀ (ag : Agent) (view : Nat) (s : State), s.reach ag = true → s.rdA ag Reg.STBL_CMD_BUSY ≠ 0 → ∃ t, exec (.stblRead ag view) s = .next t ∧
    t.rdA ag Reg.STBL_CMD_STATUS = 1 ∧ t.cls = s.cls) ∧
  (∀ (ag : Agent) (view : Nat) (s : State), s.reach ag = true → s.rdA ag Reg.STBL_CMD_BUSY = 0 → s.fwPresent = false → ∃ t, exec (.stblRead
    ag view) s = .next t ∧ t.rdA ag Reg.STBL_CMD_BUSY = 1 ∧ (if ag.isFw then t.cls.stblStFw else t.cls.stblSt) = some 11 ∧ t.cls.streams =
    s.cls.streams ∧ t.cls.staged = s.cls.staged) ∧
  (∀ (ag : Agent) (stage : Bool) (s : State), s.reach ag = true → s.rdA ag Reg.STBL_CMD_BUSY ≠ 0 → ∃ t, exec (.stblWrite ag stage) s = .next
    t ∧ t.rdA ag Reg.STBL_CMD_STATUS = 1 ∧ t.cls = s.cls) ∧
  (∀ (ag : Agent) (stage : Bool) (s : State), s.reach ag = true → s.rdA ag Reg.STBL_CMD_BUSY = 0 → s.fwPresent = false → ∃ t, exec
    (.stblWrite ag stage) s = .next t ∧ t.rdA ag Reg.STBL_CMD_BUSY = 1 ∧ (if ag.isFw then t.cls.stblStFw else t.cls.stblSt) = some 11 ∧
    t.cls.streams = s.cls.streams ∧ t.cls.staged = s.cls.staged) ∧
  (∀ (ag : Agent) (stage : Bool) (s : State), s.reach ag = true → s.rdA ag Reg.STBL_CMD_BUSY ≠ 0 → ∃ t, exec (.stblInvalidate ag stage) s =
    .next t ∧ t.rdA ag Reg.STBL_CMD_STATUS = 1 ∧ t.cls = s.cls) ∧
  (∀ (ag : Agent) (stage : Bool) (s : State), s.reach ag = true → s.rdA ag Reg.STBL_CMD_BUSY = 0 → s.fwPresent = false → ∃ t, exec
    (.stblInvalidate ag stage) s = .next t ∧ t.rdA ag Reg.STBL_CMD_BUSY = 1 ∧ (if ag.isFw then t.cls.stblStFw else t.cls.stblSt) = some 11 ∧
    t.cls.streams = s.cls.streams ∧ t.cls.staged = s.cls.staged) ∧
  (∀ (ag : Agent) (stage : Bool) (s : State), s.reach ag = true → s.rdA ag Reg.STBL_CMD_BUSY ≠ 0 → ∃ t, exec (.compareAndWrite ag stage) s =
    .next t ∧ t.rdA ag Reg.STBL_CMD_STATUS = 1 ∧ t.cls = s.cls) ∧
  (∀ (ag : Agent) (stage : Bool) (s : State), s.reach ag = true → s.rdA ag Reg.STBL_CMD_BUSY = 0 → s.fwPresent = false → ∃ t, exec
    (.compareAndWrite ag stage) s = .next t ∧ t.rdA ag Reg.STBL_CMD_BUSY = 1 ∧ (if ag.isFw then t.cls.stblStFw else t.cls.stblSt) = some 11 ∧
    t.cls.streams = s.cls.streams ∧ t.cls.staged = s.cls.staged) ∧
  (∀ (ag : Agent) (stage : Bool) (s : State), s.reach ag = true → s.rdA ag Reg.STBL_CMD_BUSY = 0 → s.fwPresent = true → stage = false →
    s.entryRefused (s.rdWords ag Reg.STBL_DATA) = false → bit (s.stream (s.rdA ag Reg.STBL_IDX)) 0 = 0 → bit (s.streamDrain (s.rdA ag
    Reg.STBL_IDX)) 0 = 0 → Tab.get 0 (s.rdA ag Reg.STBL_IDX) s.cls.staged = 0 → ∃ t, exec (.stblWrite ag stage) s = .next t ∧ t.stream (s.rdA
    ag Reg.STBL_IDX) = s.rdWords ag Reg.STBL_DATA ∧ (if ag.isFw then t.cls.stblStFw else t.cls.stblSt) = some 0 ∧ t.rdA ag Reg.STBL_CMD_BUSY =
    1) ∧
  (∀ (ag : Agent) (stage : Bool) (s : State), s.reach ag = true → s.rdA ag Reg.STBL_CMD_BUSY = 0 → s.fwPresent = true → stage = false →
    s.entryRefused (s.rdWords ag Reg.STBL_DATA) = false → bit (s.stream (s.rdA ag Reg.STBL_IDX)) 0 = 1 → ∃ t, exec (.stblWrite ag stage) s =
    .next t ∧ t.cls.streams = s.cls.streams ∧ (if ag.isFw then t.cls.stblStFw else t.cls.stblSt) = some 8) ∧
  (∀ (ag : Agent) (stage : Bool) (s : State), s.reach ag = true → s.rdA ag Reg.STBL_CMD_BUSY = 0 → s.fwPresent = true → stage = true →
    s.entryRefused (s.rdWords ag Reg.STBL_DATA) = false → s.rd Reg.CLS_COMMIT_STATUS_GROUP = 1 → Tab.get 0 (s.rdA ag Reg.STBL_IDX) s.cls.staged
    = 0 → s.rd Reg.CLS_STAGE_CNT_STAGED < 4096 → ∃ t, exec (.stblWrite ag stage) s = .next t ∧ t.streamStaged (s.rdA ag Reg.STBL_IDX) =
    s.rdWords ag Reg.STBL_DATA ∧ t.rd Reg.CLS_STAGE_CNT_STAGED = s.rd Reg.CLS_STAGE_CNT_STAGED + 1 ∧ (if ag.isFw then t.cls.stblStFw else
    t.cls.stblSt) = some 0 ∧ t.cls.streams = s.cls.streams) ∧
  (∀ (ag : Agent) (stage : Bool) (s : State), s.reach ag = true → s.rdA ag Reg.STBL_CMD_BUSY = 0 → s.fwPresent = true → stage = true → s.rd
    Reg.CLS_COMMIT_STATUS_GROUP ≠ 1 → ∃ t, exec (.stblWrite ag stage) s = .next t ∧ t.cls.streams = s.cls.streams ∧ t.cls.staged = s.cls.staged
    ∧ (if ag.isFw then t.cls.stblStFw else t.cls.stblSt) = some 2) ∧
  (∀ (ag : Agent) (stage : Bool) (s : State), s.reach ag = true → s.rdA ag Reg.STBL_CMD_BUSY = 0 → s.fwPresent = true → stage = false → ∃ t,
    exec (.stblInvalidate ag stage) s = .next t ∧ t.cls.streams = s.cls.streams ∧ (if ag.isFw then t.cls.stblStFw else t.cls.stblSt) = some 8) ∧
  (∀ (ag : Agent) (stage : Bool) (s : State), s.reach ag = true → s.rdA ag Reg.STBL_CMD_BUSY = 0 → s.fwPresent = true → stage = true → s.rd
    Reg.CLS_COMMIT_STATUS_GROUP = 1 → Tab.get 0 (s.rdA ag Reg.STBL_IDX) s.cls.staged = 0 → s.rd Reg.CLS_STAGE_CNT_STAGED < 4096 → ∃ t, exec
    (.stblInvalidate ag stage) s = .next t ∧ t.streamStaged (s.rdA ag Reg.STBL_IDX) = 0 ∧ t.rd Reg.CLS_STAGE_CNT_STAGED = s.rd
    Reg.CLS_STAGE_CNT_STAGED + 1 ∧ (if ag.isFw then t.cls.stblStFw else t.cls.stblSt) = some 0) ∧
  (∀ (ag : Agent) (stage : Bool) (s : State), s.reach ag = true → s.rdA ag Reg.STBL_CMD_BUSY = 0 → s.fwPresent = true → stage = false →
    s.entryRefused (s.rdWords ag Reg.STBL_DATA) = false → s.stream (s.rdA ag Reg.STBL_IDX) ≠ s.rdWords ag Reg.STBL_CMP → ∃ t, exec
    (.compareAndWrite ag stage) s = .next t ∧ t.cls.streams = s.cls.streams ∧ (if ag.isFw then t.cls.stblStFw else t.cls.stblSt) = some 4 ∧
    t.rdA ag Reg.STBL_DATA 0 0 = bits (s.stream (s.rdA ag Reg.STBL_IDX)) 31 0) ∧
  (∀ (ag : Agent) (stage : Bool) (s : State), s.reach ag = true → s.rdA ag Reg.STBL_CMD_BUSY = 0 → s.fwPresent = true → stage = true →
    s.entryRefused (s.rdWords ag Reg.STBL_DATA) = false → s.rd Reg.CLS_COMMIT_STATUS_GROUP = 1 → s.streamStaged (s.rdA ag Reg.STBL_IDX) =
    s.rdWords ag Reg.STBL_CMP → Tab.get 0 (s.rdA ag Reg.STBL_IDX) s.cls.staged ≠ 0 → ∃ t, exec (.compareAndWrite ag stage) s = .next t ∧
    t.streamStaged (s.rdA ag Reg.STBL_IDX) = s.rdWords ag Reg.STBL_DATA ∧ t.rd Reg.CLS_STAGE_CNT_STAGED = s.rd Reg.CLS_STAGE_CNT_STAGED ∧ (if
    ag.isFw then t.cls.stblStFw else t.cls.stblSt) = some 0) ∧
  (∀ (ag : Agent) (st : Nat) (s : State), s.reach ag = true → (if ag.isFw then s.cls.stblStFw else s.cls.stblSt) = some st → st < 16 → ∃ t,
    exec (.stblCmdDone ag) s = .next t ∧ t.rdA ag Reg.STBL_CMD_BUSY = 0 ∧ t.rdA ag Reg.STBL_CMD_STATUS = st ∧ (if ag.isFw then t.cls.stblStFw
    else t.cls.stblSt) = none) ∧
  (∀ (ag : Agent) (s : State), (if ag.isFw then s.cls.stblStFw else s.cls.stblSt) = none → exec (.stblCmdDone ag) s = .next s) ∧
  (∀ (ag : Agent) (idx : Nat) (s : State), s.reach ag = true → idx < 16384 → ∃ t, exec (.statLatch ag idx) s = .next t ∧ t.rdA ag
    Reg.STBL_STAT_FRAMES = (Tab.get (0, 0) idx s.cls.stats).1 % 2 ^ Reg.STBL_STAT_FRAMES.width ∧ t.rdA ag Reg.STBL_STAT_BYTES = (Tab.get (0, 0)
    idx s.cls.stats).2 % 2 ^ Reg.STBL_STAT_BYTES.width) ∧
  (∀ (sid : Nat) (s : State), exec (.learnHoldExpiry sid) s = .next
    ({ s with cls := { s.cls with learnPend := s.cls.learnPend.filter fun x => x != sid } })) ∧
  (∀ (ag : Agent) (s : State), s.reach ag = true → ∃ t, exec (.learnRearm ag) s = .next t ∧ t.cls = { s.cls with learnPend := [] })

/-- By an agent that reaches the registers, on its idle registers, with firmware present: a node outside every live root is written (OK), one
inside is refused BUSY with no node changed; a node, and a root or a field of the bank selected whose index is 63 or 511 at most, is read
into DATA (OK), and one past these is INVALID with DATA as it was. A root up to index 63 with COUNT 1 or more inside the tree memory, and a
field up to index 511 with WIDTH below 3 inside 64 bytes, are written in the staged bank (OK), and the current bank stays; one past these
indices, a root with COUNT 0 or past the tree memory, and a field with WIDTH 3 or past byte 63, are INVALID and change nothing. A command
while BUSY reports BUSY; one with firmware absent answers BUSY_RESTARTING; neither changes a node, root or field. The end of a command
shows its status and clears BUSY, and with none running changes nothing. Shown to complete, under conditions on the state and the operands
alone: READ_NODE, WRITE_NODE, READ_ROOT, WRITE_ROOT, READ_PROF, WRITE_PROF, CLS_CMD_DONE. Rests on R190, R191, R192, R193, R194, R410, R25. -/
def Obligations.TreesAndProfilesAreReadAndWritten : Prop :=
  (∀ (ag : Agent) (s : State), s.reach ag = true → s.rdA ag Reg.CLS_CMD_BUSY = 0 → s.fwPresent = true → ∃ t, exec (.readNode ag) s = .next t
    ∧ t.rdA ag Reg.CLS_CMD_BUSY = 1 ∧ (if ag.isFw then t.cls.clsStFw else t.cls.clsSt) = some 0 ∧ ∀ i ∈ List.range 4, t.rdA ag Reg.CLS_DATA 0 i
    = bits (Tab.get 0 (s.rdA ag Reg.CLS_IDX) s.cls.nodes) (32 * i + 31) (32 * i)) ∧
  (∀ (ag : Agent) (s : State), s.reach ag = true → s.rdA ag Reg.CLS_CMD_BUSY = 0 → s.fwPresent = false → ∃ t, exec (.readNode ag) s = .next t
    ∧ t.rdA ag Reg.CLS_CMD_BUSY = 1 ∧ (if ag.isFw then t.cls.clsStFw else t.cls.clsSt) = some 11 ∧ t.cls.nodes = s.cls.nodes ∧ t.cls.rootsS =
    s.cls.rootsS ∧ t.cls.profsS = s.cls.profsS) ∧
  (∀ (ag : Agent) (s : State), s.reach ag = true → s.rdA ag Reg.CLS_CMD_BUSY ≠ 0 → ∃ t, exec (.readNode ag) s = .next t ∧ t.rdA ag
    Reg.CLS_CMD_STATUS = 1 ∧ t.cls.nodes = s.cls.nodes ∧ t.cls.rootsS = s.cls.rootsS ∧ t.cls.profsS = s.cls.profsS) ∧
  (∀ (ag : Agent) (s : State), s.reach ag = true → s.rdA ag Reg.CLS_CMD_BUSY = 0 → s.fwPresent = false → ∃ t, exec (.writeNode ag) s = .next
    t ∧ t.rdA ag Reg.CLS_CMD_BUSY = 1 ∧ (if ag.isFw then t.cls.clsStFw else t.cls.clsSt) = some 11 ∧ t.cls.nodes = s.cls.nodes ∧ t.cls.rootsS =
    s.cls.rootsS ∧ t.cls.profsS = s.cls.profsS) ∧
  (∀ (ag : Agent) (s : State), s.reach ag = true → s.rdA ag Reg.CLS_CMD_BUSY ≠ 0 → ∃ t, exec (.writeNode ag) s = .next t ∧ t.rdA ag
    Reg.CLS_CMD_STATUS = 1 ∧ t.cls.nodes = s.cls.nodes ∧ t.cls.rootsS = s.cls.rootsS ∧ t.cls.profsS = s.cls.profsS) ∧
  (∀ (ag : Agent) (s : State), s.reach ag = true → s.rdA ag Reg.CLS_CMD_BUSY = 0 → s.fwPresent = false → ∃ t, exec (.readRoot ag) s = .next t
    ∧ t.rdA ag Reg.CLS_CMD_BUSY = 1 ∧ (if ag.isFw then t.cls.clsStFw else t.cls.clsSt) = some 11 ∧ t.cls.nodes = s.cls.nodes ∧ t.cls.rootsS =
    s.cls.rootsS ∧ t.cls.profsS = s.cls.profsS) ∧
  (∀ (ag : Agent) (s : State), s.reach ag = true → s.rdA ag Reg.CLS_CMD_BUSY ≠ 0 → ∃ t, exec (.readRoot ag) s = .next t ∧ t.rdA ag
    Reg.CLS_CMD_STATUS = 1 ∧ t.cls.nodes = s.cls.nodes ∧ t.cls.rootsS = s.cls.rootsS ∧ t.cls.profsS = s.cls.profsS) ∧
  (∀ (ag : Agent) (s : State), s.reach ag = true → s.rdA ag Reg.CLS_CMD_BUSY = 0 → s.fwPresent = false → ∃ t, exec (.writeRoot ag) s = .next
    t ∧ t.rdA ag Reg.CLS_CMD_BUSY = 1 ∧ (if ag.isFw then t.cls.clsStFw else t.cls.clsSt) = some 11 ∧ t.cls.nodes = s.cls.nodes ∧ t.cls.rootsS =
    s.cls.rootsS ∧ t.cls.profsS = s.cls.profsS) ∧
  (∀ (ag : Agent) (s : State), s.reach ag = true → s.rdA ag Reg.CLS_CMD_BUSY ≠ 0 → ∃ t, exec (.writeRoot ag) s = .next t ∧ t.rdA ag
    Reg.CLS_CMD_STATUS = 1 ∧ t.cls.nodes = s.cls.nodes ∧ t.cls.rootsS = s.cls.rootsS ∧ t.cls.profsS = s.cls.profsS) ∧
  (∀ (ag : Agent) (s : State), s.reach ag = true → s.rdA ag Reg.CLS_CMD_BUSY = 0 → s.fwPresent = false → ∃ t, exec (.readProf ag) s = .next t
    ∧ t.rdA ag Reg.CLS_CMD_BUSY = 1 ∧ (if ag.isFw then t.cls.clsStFw else t.cls.clsSt) = some 11 ∧ t.cls.nodes = s.cls.nodes ∧ t.cls.rootsS =
    s.cls.rootsS ∧ t.cls.profsS = s.cls.profsS) ∧
  (∀ (ag : Agent) (s : State), s.reach ag = true → s.rdA ag Reg.CLS_CMD_BUSY ≠ 0 → ∃ t, exec (.readProf ag) s = .next t ∧ t.rdA ag
    Reg.CLS_CMD_STATUS = 1 ∧ t.cls.nodes = s.cls.nodes ∧ t.cls.rootsS = s.cls.rootsS ∧ t.cls.profsS = s.cls.profsS) ∧
  (∀ (ag : Agent) (s : State), s.reach ag = true → s.rdA ag Reg.CLS_CMD_BUSY = 0 → s.fwPresent = false → ∃ t, exec (.writeProf ag) s = .next
    t ∧ t.rdA ag Reg.CLS_CMD_BUSY = 1 ∧ (if ag.isFw then t.cls.clsStFw else t.cls.clsSt) = some 11 ∧ t.cls.nodes = s.cls.nodes ∧ t.cls.rootsS =
    s.cls.rootsS ∧ t.cls.profsS = s.cls.profsS) ∧
  (∀ (ag : Agent) (s : State), s.reach ag = true → s.rdA ag Reg.CLS_CMD_BUSY ≠ 0 → ∃ t, exec (.writeProf ag) s = .next t ∧ t.rdA ag
    Reg.CLS_CMD_STATUS = 1 ∧ t.cls.nodes = s.cls.nodes ∧ t.cls.rootsS = s.cls.rootsS ∧ t.cls.profsS = s.cls.profsS) ∧
  (∀ (ag : Agent) (s : State), s.reach ag = true → s.rdA ag Reg.CLS_CMD_BUSY = 0 → s.fwPresent = true → s.nodeLive (s.rdA ag Reg.CLS_IDX) =
    false → ∃ t, exec (.writeNode ag) s = .next t ∧ Tab.get 0 (s.rdA ag Reg.CLS_IDX) t.cls.nodes = s.rdWords ag Reg.CLS_DATA % 2 ^ 128 ∧ (if
    ag.isFw then t.cls.clsStFw else t.cls.clsSt) = some 0) ∧
  (∀ (ag : Agent) (s : State), s.reach ag = true → s.rdA ag Reg.CLS_CMD_BUSY = 0 → s.fwPresent = true → s.nodeLive (s.rdA ag Reg.CLS_IDX) =
    true → ∃ t, exec (.writeNode ag) s = .next t ∧ t.cls.nodes = s.cls.nodes ∧ (if ag.isFw then t.cls.clsStFw else t.cls.clsSt) = some 1) ∧
  (∀ (ag : Agent) (s : State), s.reach ag = true → s.rdA ag Reg.CLS_CMD_BUSY = 0 → s.fwPresent = true → (s.rdA ag Reg.CLS_IDX) < 64 → ∃ t,
    exec (.readRoot ag) s = .next t ∧ t.rdA ag Reg.CLS_DATA 0 0 = Tab.get 0 (s.rdA ag Reg.CLS_IDX) (s.bankRoots (s.rdA ag Reg.CLS_IDX_BANK)) %
    2 ^ 32 ∧ t.rdA ag Reg.CLS_DATA 0 1 = Tab.get 0 (s.rdA ag Reg.CLS_IDX) (s.bankRoots (s.rdA ag Reg.CLS_IDX_BANK)) / 2 ^ 32 % 2 ^
    Reg.CLS_DATA.width ∧ (if ag.isFw then t.cls.clsStFw else t.cls.clsSt) = some 0) ∧
  (∀ (ag : Agent) (s : State), s.reach ag = true → s.rdA ag Reg.CLS_CMD_BUSY = 0 → s.fwPresent = true → 64 ≤ (s.rdA ag Reg.CLS_IDX) → ∃ t,
    exec (.readRoot ag) s = .next t ∧ (if ag.isFw then t.cls.clsStFw else t.cls.clsSt) = some 2 ∧ t.rdA ag Reg.CLS_DATA 0 0 = s.rdA ag
    Reg.CLS_DATA 0 0) ∧
  (∀ (ag : Agent) (s : State), s.reach ag = true → s.rdA ag Reg.CLS_CMD_BUSY = 0 → s.fwPresent = true → (s.rdA ag Reg.CLS_IDX) < 512 → ∃ t,
    exec (.readProf ag) s = .next t ∧ t.rdA ag Reg.CLS_DATA 0 0 = Tab.get 0 (s.rdA ag Reg.CLS_IDX) (s.bankProfs (s.rdA ag Reg.CLS_IDX_BANK)) %
    2 ^ 32 ∧ t.rdA ag Reg.CLS_DATA 0 1 = Tab.get 0 (s.rdA ag Reg.CLS_IDX) (s.bankProfs (s.rdA ag Reg.CLS_IDX_BANK)) / 2 ^ 32 % 2 ^
    Reg.CLS_DATA.width ∧ (if ag.isFw then t.cls.clsStFw else t.cls.clsSt) = some 0) ∧
  (∀ (ag : Agent) (s : State), s.reach ag = true → s.rdA ag Reg.CLS_CMD_BUSY = 0 → s.fwPresent = true → 512 ≤ (s.rdA ag Reg.CLS_IDX) → ∃ t,
    exec (.readProf ag) s = .next t ∧ (if ag.isFw then t.cls.clsStFw else t.cls.clsSt) = some 2 ∧ t.rdA ag Reg.CLS_DATA 0 0 = s.rdA ag
    Reg.CLS_DATA 0 0) ∧
  (∀ (ag : Agent) (s : State), s.reach ag = true → s.rdA ag Reg.CLS_CMD_BUSY = 0 → s.fwPresent = true → (s.rdA ag Reg.CLS_IDX) < 64 → 1 ≤
    bits (s.rdWords ag Reg.CLS_DATA) 51 32 → bits (s.rdWords ag Reg.CLS_DATA) 18 0 + bits (s.rdWords ag Reg.CLS_DATA) 51 32 ≤ 524288 → ∃ t,
    exec (.writeRoot ag) s = .next t ∧ rootBase (Tab.get 0 (s.rdA ag Reg.CLS_IDX) t.cls.rootsS) = bits (s.rdWords ag Reg.CLS_DATA) 18 0 ∧
    rootCount (Tab.get 0 (s.rdA ag Reg.CLS_IDX) t.cls.rootsS) = bits (s.rdWords ag Reg.CLS_DATA) 51 32 ∧ t.cls.roots = s.cls.roots ∧ (if
    ag.isFw then t.cls.clsStFw else t.cls.clsSt) = some 0) ∧
  (∀ (ag : Agent) (s : State), s.reach ag = true → s.rdA ag Reg.CLS_CMD_BUSY = 0 → s.fwPresent = true → 64 ≤ (s.rdA ag Reg.CLS_IDX) ∨ bits
    (s.rdWords ag Reg.CLS_DATA) 51 32 = 0 ∨ 524288 < bits (s.rdWords ag Reg.CLS_DATA) 18 0 + bits (s.rdWords ag Reg.CLS_DATA) 51 32 → ∃ t, exec
    (.writeRoot ag) s = .next t ∧ t.cls.rootsS = s.cls.rootsS ∧ (if ag.isFw then t.cls.clsStFw else t.cls.clsSt) = some 2) ∧
  (∀ (ag : Agent) (s : State), s.reach ag = true → s.rdA ag Reg.CLS_CMD_BUSY = 0 → s.fwPresent = true → (s.rdA ag Reg.CLS_IDX) < 512 → bits
    (s.rdWords ag Reg.CLS_DATA) 7 6 < 3 → bits (s.rdWords ag Reg.CLS_DATA) 5 0 + 2 ^ bits (s.rdWords ag Reg.CLS_DATA) 7 6 ≤ 64 → ∃ t, exec
    (.writeProf ag) s = .next t ∧ Tab.get 0 (s.rdA ag Reg.CLS_IDX) t.cls.profsS = bits (s.rdWords ag Reg.CLS_DATA) 8 0 + 2 ^ 32 * bits
    (s.rdWords ag Reg.CLS_DATA) 63 32 ∧ t.cls.profs = s.cls.profs ∧ (if ag.isFw then t.cls.clsStFw else t.cls.clsSt) = some 0) ∧
  (∀ (ag : Agent) (s : State), s.reach ag = true → s.rdA ag Reg.CLS_CMD_BUSY = 0 → s.fwPresent = true → 512 ≤ (s.rdA ag Reg.CLS_IDX) ∨ bits
    (s.rdWords ag Reg.CLS_DATA) 7 6 = 3 ∨ 64 < bits (s.rdWords ag Reg.CLS_DATA) 5 0 + 2 ^ bits (s.rdWords ag Reg.CLS_DATA) 7 6 → ∃ t, exec
    (.writeProf ag) s = .next t ∧ t.cls.profsS = s.cls.profsS ∧ (if ag.isFw then t.cls.clsStFw else t.cls.clsSt) = some 2) ∧
  (∀ (ag : Agent) (st : Nat) (s : State), s.reach ag = true → (if ag.isFw then s.cls.clsStFw else s.cls.clsSt) = some st → st < 16 → ∃ t,
    exec (.clsCmdDone ag) s = .next t ∧ t.rdA ag Reg.CLS_CMD_BUSY = 0 ∧ t.rdA ag Reg.CLS_CMD_STATUS = st ∧ (if ag.isFw then t.cls.clsStFw else
    t.cls.clsSt) = none) ∧
  (∀ (ag : Agent) (s : State), (if ag.isFw then s.cls.clsStFw else s.cls.clsSt) = none → exec (.clsCmdDone ag) s = .next s)

/-- By an agent that reaches the registers, with firmware present: OPEN without a group opens one whose staged banks start as the current ones,
with nothing staged and OK; with a group it is BUSY. COMMIT of an open group, with nothing draining and a version not the current one,
makes it pending with OK, from the present running time, and changes no current entry; of the current version it is INVALID; while a
version drains, of a third version, it is BUSY. With firmware absent OPEN and COMMIT are BUSY_RESTARTING. Each refusal is counted and
changes no bank. CANCEL discards the group with CANCELLED, and without a group changes no bank. At frame 0 of the active leg, 50 us of
running time or more after the acceptance, a pending group takes effect: the staged banks become current and the current ones drain,
CUR_VER and DRAIN_VER move, nothing is staged, and it is counted; at another frame, earlier, or without a pending group, nothing changes. A
draining version of which nothing is left retires: DRAINING clears and its banks go; while something is left, or nothing drains, DRAIN_DONE
changes nothing. A draining version that expires retires with its frames dropped from the packet buffer; with none draining nothing
changes. A pipeline that agrees changes nothing; with firmware present a copy that differs is counted, and the tables stay. Shown to
complete, under conditions on the state and the operands alone: COMMIT_OPEN, COMMIT, COMMIT_CANCEL, COMMIT_EFFECTIVE, DRAIN_DONE,
VERSION_EXPIRED, PIPELINE_COMPARE. Rests on R201, R202, R203, R204, R205, R206, R25. -/
def Obligations.VersionsAreCommittedAndDrained : Prop :=
  (∀ (ag : Agent) (s : State), s.reach ag = true → s.rd Reg.CLS_COMMIT_STATUS_GROUP = 0 → s.fwPresent = true → ∃ t, exec (.commitOpen ag) s =
    .next t ∧ t.rd Reg.CLS_COMMIT_STATUS_GROUP = 1 ∧ t.rd Reg.CLS_STAGE_CNT_STAGED = 0 ∧ t.rd Reg.CLS_COMMIT_STATUS_RESULT = 0 ∧ t.cls.staged =
    [] ∧ t.cls.rootsS = s.cls.roots ∧ t.cls.profsS = s.cls.profs) ∧
  (∀ (ag : Agent) (s : State), s.reach ag = true → s.fwPresent = true → s.rd Reg.CLS_COMMIT_STATUS_GROUP ≠ 0 → ∃ t, exec (.commitOpen ag) s =
    .next t ∧ t.rd Reg.CLS_COMMIT_STATUS_RESULT = 1 ∧ Counted Reg.CLS_CNT_COMMITS_REFUSED 0 0 1 s t ∧ t.cls = s.cls) ∧
  (∀ (ag : Agent) (s : State), s.reach ag = true → s.fwPresent = false → ∃ t, exec (.commitOpen ag) s = .next t ∧ t.rd
    Reg.CLS_COMMIT_STATUS_RESULT = 11 ∧ Counted Reg.CLS_CNT_COMMITS_REFUSED 0 0 1 s t ∧ t.cls = s.cls) ∧
  (∀ (ag : Agent) (version : Nat) (s : State), s.reach ag = true → s.fwPresent = false → ∃ t, exec (.commit ag version) s = .next t ∧ t.rd
    Reg.CLS_COMMIT_STATUS_RESULT = 11 ∧ Counted Reg.CLS_CNT_COMMITS_REFUSED 0 0 1 s t ∧ t.cls = s.cls) ∧
  (∀ (ag : Agent) (version : Nat) (s : State), s.reach ag = true → s.rd Reg.CLS_COMMIT_STATUS_GROUP = 1 → s.draining = false → s.fwPresent =
    true → version % 256 ≠ s.rd Reg.CLS_COMMIT_STATUS_CUR_VER → ∃ t, exec (.commit ag version) s = .next t ∧ t.rd Reg.CLS_COMMIT_STATUS_GROUP =
    2 ∧ t.rd Reg.CLS_COMMIT_STATUS_RESULT = 0 ∧ t.cls.pendVer = version % 256 ∧ t.cls.commitAt = s.runNs ∧ t.cls.streams = s.cls.streams) ∧
  (∀ (ag : Agent) (version : Nat) (s : State), s.reach ag = true → s.fwPresent = true → version % 256 = s.rd Reg.CLS_COMMIT_STATUS_CUR_VER →
    ∃ t, exec (.commit ag version) s = .next t ∧ t.rd Reg.CLS_COMMIT_STATUS_RESULT = 2 ∧ Counted Reg.CLS_CNT_COMMITS_REFUSED 0 0 1 s t ∧ t.cls
    = s.cls) ∧
  (∀ (ag : Agent) (version : Nat) (s : State), s.reach ag = true → s.fwPresent = true → s.rd Reg.CLS_COMMIT_STATUS_GROUP = 1 → s.draining =
    true → version % 256 ≠ s.rd Reg.CLS_COMMIT_STATUS_CUR_VER → version % 256 ≠ s.rd Reg.CLS_COMMIT_STATUS_DRAIN_VER → ∃ t, exec (.commit ag
    version) s = .next t ∧ t.rd Reg.CLS_COMMIT_STATUS_RESULT = 1 ∧ Counted Reg.CLS_CNT_COMMITS_REFUSED 0 0 1 s t ∧ t.cls = s.cls) ∧
  (∀ (ag : Agent) (s : State), s.reach ag = true → s.rd Reg.CLS_COMMIT_STATUS_GROUP ≠ 0 → ∃ t, exec (.commitCancel ag) s = .next t ∧ t.rd
    Reg.CLS_COMMIT_STATUS_GROUP = 0 ∧ t.rd Reg.CLS_STAGE_CNT_STAGED = 0 ∧ t.rd Reg.CLS_COMMIT_STATUS_RESULT = 6 ∧ t.cls =
    { s.cls with staged := [] }) ∧
  (∀ (ag : Agent) (s : State), s.reach ag = true → s.rd Reg.CLS_COMMIT_STATUS_GROUP = 0 → ∃ t, exec (.commitCancel ag) s = .next t ∧ t.cls =
    s.cls) ∧
  (∀ (s : State), s.rd Reg.CLS_COMMIT_STATUS_GROUP = 2 → (s.wave s.active 0).fn = 0 → s.cls.commitAt + 50000 ≤ s.runNs → ∃ t, exec
    .commitEffective s = .next t ∧ t.rd Reg.CLS_COMMIT_STATUS_CUR_VER = s.cls.pendVer % 2 ^ Reg.CLS_COMMIT_STATUS_CUR_VER.width ∧ t.rd
    Reg.CLS_COMMIT_STATUS_DRAIN_VER = s.rd Reg.CLS_COMMIT_STATUS_CUR_VER ∧ t.rd Reg.CLS_COMMIT_STATUS_DRAINING = 1 ∧ t.rd
    Reg.CLS_COMMIT_STATUS_GROUP = 0 ∧ t.cls.roots = s.cls.rootsS ∧ t.cls.rootsD = s.cls.roots ∧ t.cls.staged = [] ∧ Counted Reg.CLS_CNT_COMMITS
    0 0 1 s t) ∧
  (∀ (s : State), s.rd Reg.CLS_COMMIT_STATUS_GROUP ≠ 2 ∨ (s.wave s.active 0).fn ≠ 0 ∨ s.runNs < s.cls.commitAt + 50000 → exec
    .commitEffective s = .next s) ∧
  (∀ (s : State), s.draining = true → s.inFlight (s.rd Reg.CLS_COMMIT_STATUS_DRAIN_VER) = 0 → ∃ t, exec .drainDone s = .next t ∧ t.rd
    Reg.CLS_COMMIT_STATUS_DRAINING = 0 ∧ t.cls.before = [] ∧ t.cls.rootsD = []) ∧
  (∀ (s : State), s.inFlight (s.rd Reg.CLS_COMMIT_STATUS_DRAIN_VER) ≠ 0 ∨ s.draining = false → exec .drainDone s = .next s) ∧
  (∀ (s : State), s.draining = true → ∃ t, exec .versionExpired s = .next t ∧ t.rd Reg.CLS_COMMIT_STATUS_DRAINING = 0 ∧ t.cls.before = [] ∧
    t.host.buf = s.host.buf.filter fun b => b.version != s.rd Reg.CLS_COMMIT_STATUS_DRAIN_VER) ∧
  (∀ (s : State), s.draining = false → exec .versionExpired s = .next s) ∧
  (∀ (differ : List (Nat × Nat)) (s : State), differ = [] → exec (.pipelineCompare differ) s = .next s) ∧
  (∀ (differ : List (Nat × Nat)) (x : Nat × Nat) (s : State), s.fwPresent = true → differ = [x] → ∃ t, exec (.pipelineCompare differ) s =
    .next t ∧ Counted Reg.CLS_CNT_DIVERGE 0 0 1 s t ∧ t.cls = s.cls)

/-- By an agent that reaches the registers, on its idle registers: a read makes them BUSY, puts an entry of the page selected in DATA (OK) and
changes no entry. While no swap is pending, a write of a word without reserved bits sets the entry of the standby page, a copy of the
active page gives the standby page its entries, and a clear empties the standby page (OK each), and the active page stays; while a swap is
pending each is refused BUSY and changes no entry. A command while BUSY reports BUSY and changes no entry. The end of a command shows its
status and clears BUSY, and with none running changes nothing. A swap request, with none pending, that names a direction, with well-formed
standby pages of the directions named and an EFF_SFC 2 to 4,096 superframes ahead, is pending with RESULT OK and that EFF_SFC; one while
another is pending is refused BUSY, one that names no direction or a page that is not well formed is INVALID, one outside those superframes
OUT_OF_WINDOW, and a refused one changes no page and leaves what is pending. CANCEL ends a pending swap of which no direction has swapped,
with CANCELLED; once one has, it changes nothing. A pending direction at its frame 0 of EFF_SFC changes its page; the swap ends, counted,
with its last direction; where none is pending, or before that frame, nothing changes. Shown to complete, under conditions on the state and
the operands alone: CM_READ, CM_WRITE, CM_COPY, CM_CLEAR, CM_CMD_DONE, SWAP_REQUEST, SWAP_CANCEL, SWAP_EFFECTIVE. Rests on R240, R246,
R247, R248, R410. -/
def Obligations.CrossConnectMapsAreEditedAndSwapped : Prop :=
  (∀ (ag : Agent) (up : Bool) (active : Bool) (s : State), s.reach ag = true → s.rdA ag Reg.SLU_CM_CMD_BUSY = 0 → active = true → ∃ t, exec
    (.cmRead ag up active) s = .next t ∧ t.rdA ag Reg.SLU_CM_DATA = s.cmEntry up (s.cmPage up) (s.rdA ag Reg.SLU_CM_IDX) % 2 ^
    Reg.SLU_CM_DATA.width ∧ t.rdA ag Reg.SLU_CM_CMD_BUSY = 1 ∧ (if ag.isFw then t.slu.cmStFw else t.slu.cmSt) = some 0 ∧ t.slu.cm = s.slu.cm) ∧
  (∀ (ag : Agent) (up : Bool) (active : Bool) (s : State), s.reach ag = true → s.rdA ag Reg.SLU_CM_CMD_BUSY = 0 → active = false → ∃ t, exec
    (.cmRead ag up active) s = .next t ∧ t.rdA ag Reg.SLU_CM_DATA = s.cmEntry up (1 - s.cmPage up) (s.rdA ag Reg.SLU_CM_IDX) % 2 ^
    Reg.SLU_CM_DATA.width ∧ (if ag.isFw then t.slu.cmStFw else t.slu.cmSt) = some 0 ∧ t.slu.cm = s.slu.cm) ∧
  (∀ (ag : Agent) (up : Bool) (active : Bool) (s : State), s.reach ag = true → s.rdA ag Reg.SLU_CM_CMD_BUSY ≠ 0 → ∃ t, exec (.cmRead ag up
    active) s = .next t ∧ t.rdA ag Reg.SLU_CM_CMD_STATUS = 1 ∧ t.slu = s.slu) ∧
  (∀ (ag : Agent) (up : Bool) (s : State), s.reach ag = true → s.rdA ag Reg.SLU_CM_CMD_BUSY ≠ 0 → ∃ t, exec (.cmWrite ag up) s = .next t ∧
    t.rdA ag Reg.SLU_CM_CMD_STATUS = 1 ∧ t.slu = s.slu) ∧
  (∀ (ag : Agent) (up : Bool) (s : State), s.reach ag = true → s.rdA ag Reg.SLU_CM_CMD_BUSY ≠ 0 → ∃ t, exec (.cmCopy ag up) s = .next t ∧
    t.rdA ag Reg.SLU_CM_CMD_STATUS = 1 ∧ t.slu = s.slu) ∧
  (∀ (ag : Agent) (up : Bool) (s : State), s.reach ag = true → s.rdA ag Reg.SLU_CM_CMD_BUSY ≠ 0 → ∃ t, exec (.cmClear ag up) s = .next t ∧
    t.rdA ag Reg.SLU_CM_CMD_STATUS = 1 ∧ t.slu = s.slu) ∧
  (∀ (ag : Agent) (up : Bool) (pos : Nat) (s : State), s.reach ag = true → s.rdA ag Reg.SLU_CM_CMD_BUSY = 0 → s.rdA ag Reg.SLU_CM_DATA <
    16384 → (s.rdA ag Reg.SLU_CM_IDX) < 4096 → pos < 4096 → s.swapPending = false → s.cmPage up ≤ 1 → ∃ t, exec (.cmWrite ag up) s = .next t ∧
    t.cmEntry up (1 - s.cmPage up) (s.rdA ag Reg.SLU_CM_IDX) = s.rdA ag Reg.SLU_CM_DATA ∧ t.cmEntry up (s.cmPage up) pos = s.cmEntry up
    (s.cmPage up) pos ∧ (if ag.isFw then t.slu.cmStFw else t.slu.cmSt) = some 0) ∧
  (∀ (ag : Agent) (up : Bool) (s : State), s.reach ag = true → s.rdA ag Reg.SLU_CM_CMD_BUSY = 0 → s.swapPending = true → ∃ t, exec (.cmWrite
    ag up) s = .next t ∧ t.slu.cm = s.slu.cm ∧ (if ag.isFw then t.slu.cmStFw else t.slu.cmSt) = some 1) ∧
  (∀ (ag : Agent) (up : Bool) (pos : Nat) (s : State), s.reach ag = true → s.rdA ag Reg.SLU_CM_CMD_BUSY = 0 → pos < 4096 → s.swapPending =
    false → s.cmPage up ≤ 1 → ∃ t, exec (.cmCopy ag up) s = .next t ∧ t.cmEntry up (1 - s.cmPage up) pos = s.cmEntry up (s.cmPage up) pos ∧
    t.cmEntry up (s.cmPage up) pos = s.cmEntry up (s.cmPage up) pos ∧ (if ag.isFw then t.slu.cmStFw else t.slu.cmSt) = some 0) ∧
  (∀ (ag : Agent) (up : Bool) (s : State), s.reach ag = true → s.rdA ag Reg.SLU_CM_CMD_BUSY = 0 → s.swapPending = true → ∃ t, exec (.cmCopy
    ag up) s = .next t ∧ t.slu.cm = s.slu.cm ∧ (if ag.isFw then t.slu.cmStFw else t.slu.cmSt) = some 1) ∧
  (∀ (ag : Agent) (up : Bool) (pos : Nat) (s : State), s.reach ag = true → s.rdA ag Reg.SLU_CM_CMD_BUSY = 0 → pos < 4096 → s.swapPending =
    false → s.cmPage up ≤ 1 → ∃ t, exec (.cmClear ag up) s = .next t ∧ t.cmEntry up (1 - s.cmPage up) pos = 0 ∧ t.cmEntry up (s.cmPage up) pos
    = s.cmEntry up (s.cmPage up) pos ∧ (if ag.isFw then t.slu.cmStFw else t.slu.cmSt) = some 0) ∧
  (∀ (ag : Agent) (up : Bool) (s : State), s.reach ag = true → s.rdA ag Reg.SLU_CM_CMD_BUSY = 0 → s.swapPending = true → ∃ t, exec (.cmClear
    ag up) s = .next t ∧ t.slu.cm = s.slu.cm ∧ (if ag.isFw then t.slu.cmStFw else t.slu.cmSt) = some 1) ∧
  (∀ (ag : Agent) (st : Nat) (s : State), s.reach ag = true → (if ag.isFw then s.slu.cmStFw else s.slu.cmSt) = some st → st < 16 → ∃ t, exec
    (.cmCmdDone ag) s = .next t ∧ t.rdA ag Reg.SLU_CM_CMD_BUSY = 0 ∧ t.rdA ag Reg.SLU_CM_CMD_STATUS = st ∧ (if ag.isFw then t.slu.cmStFw else
    t.slu.cmSt) = none) ∧
  (∀ (ag : Agent) (s : State), (if ag.isFw then s.slu.cmStFw else s.slu.cmSt) = none → exec (.cmCmdDone ag) s = .next s) ∧
  (∀ (ag : Agent) (v : BitVec 32) (s : State), s.reach ag = true → s.swapPending = false → bit v.toNat 1 + bit v.toNat 2 ≠ 0 → bit v.toNat 1
    = 0 ∨ s.wellFormedPage false (1 - s.cmPage false) = true → bit v.toNat 2 = 0 ∨ s.wellFormedPage true (1 - s.cmPage true) = true → s.cur
    s.active + 2 ≤ s.rd2 Reg.SLU_SWAP_SFC_LO_EFF_LO Reg.SLU_SWAP_SFC_HI_EFF_HI → s.rd2 Reg.SLU_SWAP_SFC_LO_EFF_LO Reg.SLU_SWAP_SFC_HI_EFF_HI ≤
    s.cur s.active + 4096 → ∃ t, exec (.swapRequest ag v) s = .next t ∧ t.rd Reg.SLU_STATUS_SWAP_PEND = 1 ∧ t.rd Reg.SLU_SWAP_CTL_RESULT = 0 ∧
    t.slu.swapDn = (bit v.toNat 1 == 1) ∧ t.slu.swapUp = (bit v.toNat 2 == 1) ∧ t.slu.swapEff = s.rd2 Reg.SLU_SWAP_SFC_LO_EFF_LO
    Reg.SLU_SWAP_SFC_HI_EFF_HI ∧ t.slu.cm = s.slu.cm) ∧
  (∀ (ag : Agent) (v : BitVec 32) (s : State), s.reach ag = true → s.swapPending = true → ∃ t, exec (.swapRequest ag v) s = .next t ∧ t.rd
    Reg.SLU_SWAP_CTL_RESULT = 1 ∧ t.slu = s.slu ∧ t.rd Reg.SLU_STATUS_SWAP_PEND = s.rd Reg.SLU_STATUS_SWAP_PEND) ∧
  (∀ (ag : Agent) (v : BitVec 32) (s : State), s.reach ag = true → s.swapPending = false → (bit v.toNat 1 = 0 ∧ bit v.toNat 2 = 0) ∨ ¬(bit
    v.toNat 1 = 0 ∨ s.wellFormedPage false (1 - s.cmPage false) = true) ∨ ¬(bit v.toNat 2 = 0 ∨ s.wellFormedPage true (1 - s.cmPage true) =
    true) → ∃ t, exec (.swapRequest ag v) s = .next t ∧ t.rd Reg.SLU_SWAP_CTL_RESULT = 2 ∧ t.slu = s.slu ∧ t.rd Reg.SLU_STATUS_SWAP_PEND = s.rd
    Reg.SLU_STATUS_SWAP_PEND) ∧
  (∀ (ag : Agent) (v : BitVec 32) (s : State), s.reach ag = true → s.swapPending = false → bit v.toNat 1 + bit v.toNat 2 ≠ 0 → bit v.toNat 1
    = 0 ∨ s.wellFormedPage false (1 - s.cmPage false) = true → bit v.toNat 2 = 0 ∨ s.wellFormedPage true (1 - s.cmPage true) = true → s.rd2
    Reg.SLU_SWAP_SFC_LO_EFF_LO Reg.SLU_SWAP_SFC_HI_EFF_HI < s.cur s.active + 2 ∨ s.cur s.active + 4096 < s.rd2 Reg.SLU_SWAP_SFC_LO_EFF_LO
    Reg.SLU_SWAP_SFC_HI_EFF_HI → ∃ t, exec (.swapRequest ag v) s = .next t ∧ t.rd Reg.SLU_SWAP_CTL_RESULT = 14 ∧ t.slu = s.slu ∧ t.rd
    Reg.SLU_STATUS_SWAP_PEND = s.rd Reg.SLU_STATUS_SWAP_PEND) ∧
  (∀ (ag : Agent) (s : State), s.reach ag = true → s.swapPending = true → s.slu.dnDone = false → s.slu.upDone = false → ∃ t, exec
    (.swapCancel ag) s = .next t ∧ t.rd Reg.SLU_STATUS_SWAP_PEND = 0 ∧ t.rd Reg.SLU_SWAP_CTL_RESULT = 6 ∧ t.slu = s.slu) ∧
  (∀ (ag : Agent) (s : State), s.slu.dnDone = true ∨ s.slu.upDone = true → exec (.swapCancel ag) s = .next s) ∧
  (∀ (up : Bool) (s : State), up = false → s.swapDue false = true → s.swapPending = true → s.slu.swapDn = true → s.slu.dnDone = false →
    s.slu.swapUp = false ∨ s.slu.upDone = true → s.rd Reg.SLU_STATUS_DN_PAGE ≤ 1 → ∃ t, exec (.swapEffective up) s = .next t ∧ t.rd
    Reg.SLU_STATUS_DN_PAGE = 1 - s.rd Reg.SLU_STATUS_DN_PAGE ∧ t.rd Reg.SLU_STATUS_SWAP_PEND = 0 ∧ Counted Reg.SLU_CNT_SWAPS 0 0 1 s t ∧
    t.slu.cm = s.slu.cm) ∧
  (∀ (up : Bool) (s : State), up = true → s.swapDue true = true → s.swapPending = true → s.slu.swapUp = true → s.slu.upDone = false →
    s.slu.swapDn = true → s.slu.dnDone = false → s.rd Reg.SLU_STATUS_UP_PAGE ≤ 1 → ∃ t, exec (.swapEffective up) s = .next t ∧ t.rd
    Reg.SLU_STATUS_UP_PAGE = 1 - s.rd Reg.SLU_STATUS_UP_PAGE ∧ t.rd Reg.SLU_STATUS_SWAP_PEND = s.rd Reg.SLU_STATUS_SWAP_PEND ∧ t.slu.upDone =
    true) ∧
  (∀ (up : Bool) (s : State), s.swapPending = false ∨ s.swapDue up = false → exec (.swapEffective up) s = .next s)

/-- With lanes on and no record of an earlier leg's frame due: a downstream lane that is enabled, has no record of the frame yet, whose owner
is a function that can take one and whose ring is not full, gives one record to its owner: PROD advances by one and no overrun is counted;
where the ring is full or the function cannot take it, the record is dropped and counted as an overrun, and PROD stays. A lane that is not
enabled does nothing. For an upstream frame that has not started, an enabled upstream lane of a function that can give one, with a record
to send and not yet read for the frame, takes its bytes for that frame and CONS advances by one; with none to send, an underrun is counted
and CONS stays; where the read fails, an underrun and a failed fetch are counted and CONS stays. A lane that is not enabled, or whose lanes
are off, does nothing. Shown to complete, under conditions on the state and the operands alone: SLUICE_RECORD_WRITE, SLUICE_RECORD_READ.
Rests on R241, R242, R243, R244, R252. -/
def Obligations.SluiceRecordsMove : Prop :=
  (∀ (lane : Nat) (s : State), lane < 128 → s.isOn Reg.SLU_CTL_EN = true → s.isOn Reg.SLU_DLANE_CTL_EN 0 lane = true → s.slu.late = [] → lane
    ∉ s.slu.wrote → s.rd Reg.SLU_DLANE_CTL_OWNER 0 lane ≠ 255 → s.laneOwnerUp (s.rd Reg.SLU_DLANE_CTL_OWNER 0 lane) = true → s.laneFull lane =
    false → ∃ t, exec (.sluiceRecordWrite lane) s = .next t ∧ t.rd Reg.SLU_DLANE_PROD 0 lane = (s.rd Reg.SLU_DLANE_PROD 0 lane + 1) % 65536 ∧
    t.rd Reg.SLU_CNT_DN_OVERRUN = s.rd Reg.SLU_CNT_DN_OVERRUN ∧ s.out.length < t.out.length) ∧
  (∀ (lane : Nat) (s : State), lane < 128 → s.isOn Reg.SLU_CTL_EN = true → s.isOn Reg.SLU_DLANE_CTL_EN 0 lane = true → s.slu.late = [] → lane
    ∉ s.slu.wrote → s.rd Reg.SLU_DLANE_CTL_OWNER 0 lane ≠ 255 → s.laneOwnerUp (s.rd Reg.SLU_DLANE_CTL_OWNER 0 lane) = false ∨ s.laneFull lane =
    true → ∃ t, exec (.sluiceRecordWrite lane) s = .next t ∧ Counted Reg.SLU_CNT_DN_OVERRUN 0 0 1 s t ∧ t.rd Reg.SLU_DLANE_PROD 0 lane = s.rd
    Reg.SLU_DLANE_PROD 0 lane) ∧
  (∀ (lane : Nat) (s : State), s.isOn Reg.SLU_DLANE_CTL_EN 0 lane = false → exec (.sluiceRecordWrite lane) s = .next s) ∧
  (∀ (lane : Nat) (sfc : BitVec 48) (fn : Nat) (data : HostRead) (b : List Byte) (s : State), lane < 128 → s.isOn Reg.SLU_CTL_EN = true →
    s.isOn Reg.SLU_ULANE_CTL_EN 0 lane = true → 8 * (s.leg s.active).upSfc + (s.leg s.active).upFn < 8 * sfc.toNat + fn % 8 → lane ∉ (if
    s.slu.nextFor = 2 * (8 * sfc.toNat + fn % 8) + s.active.n then s.slu.nextSeen else []) → s.rd Reg.SLU_ULANE_CTL_OWNER 0 lane ≠ 255 →
    s.laneOwnerUp (s.rd Reg.SLU_ULANE_CTL_OWNER 0 lane) = true → s.rd Reg.SLU_ULANE_CONS 0 lane ≠ s.rd Reg.SLU_ULANE_PROD 0 lane → data = .data
    b → ∃ t, exec (.sluiceRecordRead lane sfc fn data) s = .next t ∧ t.rd Reg.SLU_ULANE_CONS 0 lane = (s.rd Reg.SLU_ULANE_CONS 0 lane + 1) %
    65536 ∧ Tab.get [] lane t.slu.nextRecs = slice b 0 (16 * s.widthOf true lane) ∧ t.slu.nextFor = 2 * (8 * sfc.toNat + fn % 8) + s.active.n ∧
    t.host = s.host) ∧
  (∀ (lane : Nat) (sfc : BitVec 48) (fn : Nat) (data : HostRead) (s : State), lane < 128 → s.isOn Reg.SLU_CTL_EN = true → s.isOn
    Reg.SLU_ULANE_CTL_EN 0 lane = true → 8 * (s.leg s.active).upSfc + (s.leg s.active).upFn < 8 * sfc.toNat + fn % 8 → lane ∉ (if s.slu.nextFor
    = 2 * (8 * sfc.toNat + fn % 8) + s.active.n then s.slu.nextSeen else []) → s.rd Reg.SLU_ULANE_CTL_OWNER 0 lane ≠ 255 → s.rd
    Reg.SLU_ULANE_CONS 0 lane = s.rd Reg.SLU_ULANE_PROD 0 lane → ∃ t, exec (.sluiceRecordRead lane sfc fn data) s = .next t ∧ Counted
    Reg.SLU_CNT_UP_UNDERRUN 0 0 1 s t ∧ t.rd Reg.SLU_ULANE_CONS 0 lane = s.rd Reg.SLU_ULANE_CONS 0 lane) ∧
  (∀ (lane : Nat) (sfc : BitVec 48) (fn : Nat) (data : HostRead) (why : ReadFault) (s : State), lane < 128 → s.isOn Reg.SLU_CTL_EN = true →
    s.isOn Reg.SLU_ULANE_CTL_EN 0 lane = true → 8 * (s.leg s.active).upSfc + (s.leg s.active).upFn < 8 * sfc.toNat + fn % 8 → lane ∉ (if
    s.slu.nextFor = 2 * (8 * sfc.toNat + fn % 8) + s.active.n then s.slu.nextSeen else []) → s.rd Reg.SLU_ULANE_CTL_OWNER 0 lane ≠ 255 →
    s.laneOwnerUp (s.rd Reg.SLU_ULANE_CTL_OWNER 0 lane) = true → s.rd Reg.SLU_ULANE_CONS 0 lane ≠ s.rd Reg.SLU_ULANE_PROD 0 lane → data = .fail
    why → ∃ t, exec (.sluiceRecordRead lane sfc fn data) s = .next t ∧ Counted Reg.SLU_CNT_UP_UNDERRUN 0 0 1 s t ∧ Counted
    Reg.SLU_CNT_UP_FETCH_FAIL 0 0 1 s t ∧ t.rd Reg.SLU_ULANE_CONS 0 lane = s.rd Reg.SLU_ULANE_CONS 0 lane) ∧
  (∀ (lane : Nat) (sfc : BitVec 48) (fn : Nat) (data : HostRead) (s : State), s.isOn Reg.SLU_CTL_EN = false ∨ s.isOn Reg.SLU_ULANE_CTL_EN 0
    lane = false → exec (.sluiceRecordRead lane sfc fn data) s = .next s)

/-- On a wave D0 to D3 whose detectors run, of a leg whose lanes are on, outside deep sleep and sleep and powered: LOS declared stands in
PROT_DEF, and LOS cleared does not; a superframe that the wave was in SYNC throughout, with as many uncorrected codewords as SF_CW (at
least 1) or more, declares SF, and the count of them restarts. A superframe that the wave was not in SYNC throughout restarts the count and
writes no register. A report of LOS, or of its end, on a lane whose detectors do not run or that is not D0 to D3 changes nothing, nor does
an evaluation of another wave. The end of a hold-off that runs clears HOLDOFF, and without one changes nothing. Shown to complete, under
conditions on the state and the operands alone: LOS_DECLARE, LOS_CLEAR, SF_EVALUATE, HOLDOFF_EXPIRY. Rests on R254, R255, R258, R277. -/
def Obligations.DefectsAreDeclaredAndCleared : Prop :=
  (∀ (l : Leg) (w : Nat) (s : State), w < 4 → s.detecting l w = true → s.lanesOn l = true → s.rd Reg.PWR_STATUS_STATE < 4 → s.pwr.off = false
    → s.pwr.asleep = false → ∃ t, exec (.losDeclare l w) s = .next t ∧ bit (t.rd Reg.PROT_DEF_LOS l.n) w = 1) ∧
  (∀ (l : Leg) (w : Nat) (s : State), s.detecting l w = false ∨ 4 ≤ w → exec (.losDeclare l w) s = .next s) ∧
  (∀ (l : Leg) (w : Nat) (s : State), w < 4 → s.detecting l w = true → s.lanesOn l = true → s.rd Reg.PWR_STATUS_STATE < 4 → s.pwr.off = false
    → s.pwr.asleep = false → ∃ t, exec (.losClear l w) s = .next t ∧ bit (t.rd Reg.PROT_DEF_LOS l.n) w = 0) ∧
  (∀ (l : Leg) (w : Nat) (s : State), s.detecting l w = false ∨ 4 ≤ w → exec (.losClear l w) s = .next s) ∧
  (∀ (l : Leg) (w : Nat) (s : State), 4 ≤ w → exec (.sfEvaluate l w) s = .next s) ∧
  (∀ (l : Leg) (w : Nat) (s : State), w < 4 → (s.wave l w).whole = false → ∃ t, exec (.sfEvaluate l w) s = .next t ∧ (t.wave l w).uncorr = 0
    ∧ (t.wave l w).whole = ((s.wave l w).deln == .sync) ∧ t.regs = s.regs) ∧
  (∀ (l : Leg) (w : Nat) (s : State), w < 4 → (s.wave l w).whole = true → s.detecting l w = true → s.lanesOn l = true → s.rd
    Reg.PWR_STATUS_STATE < 4 → s.pwr.off = false → s.pwr.asleep = false → max 1 (s.rd Reg.PROT_SF_CTL_SF_CW) ≤ (s.wave l w).uncorr → ∃ t, exec
    (.sfEvaluate l w) s = .next t ∧ bit (t.rd Reg.PROT_DEF_SF l.n) w = 1 ∧ (t.wave l w).uncorr = 0) ∧
  (∀ (s : State), s.isOn Reg.PROT_STATUS_HOLDOFF = true → ∃ t, exec .holdoffExpiry s = .next t ∧ t.rd Reg.PROT_STATUS_HOLDOFF = 0) ∧
  (∀ (s : State), s.isOn Reg.PROT_STATUS_HOLDOFF = false → exec .holdoffExpiry s = .next s)

/-- With firmware present and no switch in progress: FORCED of a RANGED leg that is not active makes it active, with FORCED shown; MANUAL of an
available leg that is not active, with nothing of a smaller rank than 6 standing, makes it active; a firmware request that FW_SWITCH
allows, of an available leg that is not active, with nothing of a smaller rank than 2 standing; a PROT_SWITCH that the terminal acts on, of
an available leg that is not active, with nothing of a smaller rank than 3 standing, which then awaits its ACK; and the expiry of
wait-to-restore, with the preferred leg available and not active and nothing of a smaller rank than 7 standing, which ends WTR: each makes
that leg active with SWITCHING set and its cause shown, and the first two answer OK. FORCED of a leg not RANGED is INVALID, and MANUAL of
the other leg under a smaller rank is DENIED; both are counted and leave the active leg. CLEAR ends FORCED with OK; MANUAL of the active
leg answers OK, and PROT_SWITCH to the active leg, on a leg with a number, is acknowledged OK and writes no register. During a switch each
command answers BUSY and nothing else, and a firmware request that FW_SWITCH allows waits. Without firmware, and no switch in progress,
each command is held after those held before, with CMD_PEND; a firmware request changes nothing; wait-to-restore ends at its expiry and its
request waits. A request with FW_SWITCH off changes nothing. The end of a switch for which nothing waits records the active leg's
superframe and awaits no ACK; without a switch it changes nothing. The expiry without wait-to-restore changes nothing. Shown to complete,
under conditions on the state and the operands alone: CLEAR, FORCED, MANUAL, FW_FORCED, PROT_SWITCH, SWITCH_DONE, WTR_EXPIRY. Rests on
R257, R259, R260, R263, R264, R267. -/
def Obligations.ProtectionCommandsSwitchTheLeg : Prop :=
  (∀ (s : State), s.isOn Reg.PROT_STATUS_SWITCHING = false → s.fwPresent = true → ∃ t, exec .clear s = .next t ∧ t.rd Reg.PROT_STATUS_FORCED
    = 0 ∧ t.rd Reg.PROT_CMD_RESULT = 0) ∧
  (∀ (s : State), s.isOn Reg.PROT_STATUS_SWITCHING = true → exec .clear s = .next (s.wr Reg.PROT_CMD_RESULT 1)) ∧
  (∀ (s : State), s.isOn Reg.PROT_STATUS_SWITCHING = false → s.fwPresent = false → exec .clear s = .next
    ({ s.wr Reg.PROT_STATUS_CMD_PEND 1 with prot := { s.prot with deferred := s.prot.deferred ++ [(0, .a)] } })) ∧
  (∀ (l : Leg) (s : State), s.isOn Reg.PROT_STATUS_SWITCHING = true → exec (.forced l) s = .next (s.wr Reg.PROT_CMD_RESULT 1)) ∧
  (∀ (l : Leg) (s : State), s.isOn Reg.PROT_STATUS_SWITCHING = false → s.fwPresent = false → exec (.forced l) s = .next
    ({ s.wr Reg.PROT_STATUS_CMD_PEND 1 with prot := { s.prot with deferred := s.prot.deferred ++ [(4, l)] } })) ∧
  (∀ (l : Leg) (s : State), s.isOn Reg.PROT_STATUS_SWITCHING = true → exec (.manual l) s = .next (s.wr Reg.PROT_CMD_RESULT 1)) ∧
  (∀ (l : Leg) (s : State), s.isOn Reg.PROT_STATUS_SWITCHING = false → s.fwPresent = false → exec (.manual l) s = .next
    ({ s.wr Reg.PROT_STATUS_CMD_PEND 1 with prot := { s.prot with deferred := s.prot.deferred ++ [(7, l)] } })) ∧
  (∀ (l : Leg) (s : State), s.isOn Reg.PROT_STATUS_SWITCHING = false → s.fwPresent = true → s.rd Reg.ACT_STATUS_STATE l.n = 5 → l ≠ s.active
    → ∃ t, exec (.forced l) s = .next t ∧ t.rd Reg.PROT_STATUS_ACTIVE = l.n ∧ t.rd Reg.PROT_STATUS_SWITCHING = 1 ∧ t.rd
    Reg.PROT_STATUS_LAST_CAUSE = 4 ∧ t.rd Reg.PROT_STATUS_FORCED = l.n + 1 ∧ t.rd Reg.PROT_CMD_RESULT = 0) ∧
  (∀ (l : Leg) (s : State), s.isOn Reg.PROT_STATUS_SWITCHING = false → s.fwPresent = true → s.rd Reg.ACT_STATUS_STATE l.n ≠ 5 → ∃ t, exec
    (.forced l) s = .next t ∧ t.rd Reg.PROT_CMD_RESULT = 2 ∧ Counted Reg.PROT_CNT2_REFUSED 0 0 1 s t ∧ t.rd Reg.PROT_STATUS_ACTIVE = s.rd
    Reg.PROT_STATUS_ACTIVE) ∧
  (∀ (l : Leg) (s : State), s.isOn Reg.PROT_STATUS_SWITCHING = false → s.fwPresent = true → l ≠ s.active → s.available l = true → 6 ≤
    s.standing → ∃ t, exec (.manual l) s = .next t ∧ t.rd Reg.PROT_STATUS_ACTIVE = l.n ∧ t.rd Reg.PROT_STATUS_SWITCHING = 1 ∧ t.rd
    Reg.PROT_STATUS_LAST_CAUSE = 7 ∧ t.rd Reg.PROT_CMD_RESULT = 0) ∧
  (∀ (l : Leg) (s : State), s.isOn Reg.PROT_STATUS_SWITCHING = false → s.fwPresent = true → l = s.active → exec (.manual l) s = .next (s.wr
    Reg.PROT_CMD_RESULT 0)) ∧
  (∀ (l : Leg) (s : State), s.isOn Reg.PROT_STATUS_SWITCHING = false → s.fwPresent = true → l ≠ s.active → s.standing < 6 → ∃ t, exec
    (.manual l) s = .next t ∧ t.rd Reg.PROT_CMD_RESULT = 3 ∧ Counted Reg.PROT_CNT2_REFUSED 0 0 1 s t ∧ t.rd Reg.PROT_STATUS_ACTIVE = s.rd
    Reg.PROT_STATUS_ACTIVE) ∧
  (∀ (l : Leg) (s : State), s.isOn Reg.PROT_CTL_FW_SWITCH = true → s.fwPresent = true → s.isOn Reg.PROT_STATUS_SWITCHING = false → l ≠
    s.active → s.available l = true → 2 ≤ s.standing → ∃ t, exec (.fwForced l) s = .next t ∧ t.rd Reg.PROT_STATUS_ACTIVE = l.n ∧ t.rd
    Reg.PROT_STATUS_SWITCHING = 1 ∧ t.rd Reg.PROT_STATUS_LAST_CAUSE = 5) ∧
  (∀ (l : Leg) (s : State), s.isOn Reg.PROT_CTL_FW_SWITCH = true → s.fwPresent = true → s.isOn Reg.PROT_STATUS_SWITCHING = true → exec
    (.fwForced l) s = .next ({ s with prot := { s.prot with waiting := s.prot.waiting ++ [{ cause := 5, target := l }] } })) ∧
  (∀ (l : Leg) (s : State), s.isOn Reg.PROT_CTL_FW_SWITCH = false ∨ s.fwPresent = false → exec (.fwForced l) s = .next s) ∧
  (∀ (l : Leg) (msg : BitVec 384) (s : State), Hears s l → s.takes l 0x0D msg false 0 = true → s.fwPresent = true → s.isOn
    Reg.PROT_STATUS_SWITCHING = false → (if mfield msg 6 1 % 2 = 1 then l else l.other) ≠ s.active → s.available (if mfield msg 6 1 % 2 = 1
    then l else l.other) = true → 3 ≤ s.standing → ∃ t, exec (.protSwitch l msg) s = .next t ∧ t.rd Reg.PROT_STATUS_ACTIVE = (if mfield msg 6 1
    % 2 = 1 then l else l.other).n ∧ t.rd Reg.PROT_STATUS_SWITCHING = 1 ∧ t.rd Reg.PROT_STATUS_LAST_CAUSE = 6 ∧ t.prot.cmdAck = some (l,
    msgTxid msg) ∧ t.rd Reg.PROT_CNT2_REFUSED = s.rd Reg.PROT_CNT2_REFUSED) ∧
  (∀ (l : Leg) (msg : BitVec 384) (s : State), Hears s l → s.takes l 0x0D msg false 0 = true → s.fwPresent = true → s.hasTn l = true → s.isOn
    Reg.PROT_STATUS_SWITCHING = false → (if mfield msg 6 1 % 2 = 1 then l else l.other) = s.active → ∃ t, exec (.protSwitch l msg) s = .next t
    ∧ Acked l msg 0x0D 0 s t ∧ t.regs = s.regs) ∧
  (∀ (s : State), s.isOn Reg.PROT_STATUS_SWITCHING = true → s.prot.waiting = [] → s.prot.deferred = [] → s.cur s.active < 2 ^ 48 → ∃ t, exec
    .switchDone s = .next t ∧ t.rd2 Reg.PROT_LAST_SFC_LO Reg.PROT_LAST_SFC_HI = s.cur s.active ∧ t.prot.cmdAck = none ∧ t.prot.waiting = []) ∧
  (∀ (s : State), s.isOn Reg.PROT_STATUS_SWITCHING = false → exec .switchDone s = .next s) ∧
  (∀ (s : State), s.isOn Reg.PROT_STATUS_WTR = true → s.fwPresent = true → s.isOn Reg.PROT_STATUS_SWITCHING = false → s.pref ≠ s.active →
    s.available s.pref = true → 7 ≤ s.standing → ∃ t, exec .wtrExpiry s = .next t ∧ t.rd Reg.PROT_STATUS_ACTIVE = s.pref.n ∧ t.rd
    Reg.PROT_STATUS_SWITCHING = 1 ∧ t.rd Reg.PROT_STATUS_LAST_CAUSE = 8 ∧ t.rd Reg.PROT_STATUS_WTR = 0) ∧
  (∀ (s : State), s.isOn Reg.PROT_STATUS_WTR = true → s.fwPresent = false → ∃ t, exec .wtrExpiry s = .next t ∧ t.rd Reg.PROT_STATUS_WTR = 0 ∧
    t.rd Reg.PROT_WTR_LEFT_SECONDS = 0 ∧ t.prot.revertDue = true ∧ t.rd Reg.PROT_STATUS_ACTIVE = s.rd Reg.PROT_STATUS_ACTIVE) ∧
  (∀ (s : State), s.isOn Reg.PROT_STATUS_WTR = false → exec .wtrExpiry s = .next s)

/-- At a second boundary a running wait-to-restore counts down, and with monitoring on the current bins of a leg in service gain a second in
service. The oldest of a leg's seconds is committed when ten later ones have ended: one that counts, of a wave that is available and in
which it was not severely errored, counts SECONDS, and ES where it was errored, and no UAS; while neither leg has eleven, nothing changes.
With monitoring on, at an aligned quarter hour that is no day's end, the current 15-minute bin of every wave closes as the newest of its
history, counted, and no 24-hour bin is counted; with monitoring off, or at another second, nothing changes. Selecting a bin, by an agent
that reaches the registers, shows the start and the first count of a bin that there is, and zeros where there is none. TEST written by such
an agent puts a leg in test; by an agent that does not reach the registers it changes nothing. Shown to complete, under conditions on the
state and the operands alone: PM_SECOND, PM_SECOND_COMMIT, BIN_ROLL, PM_BIN_LATCH, PM_TEST_WRITE. Rests on R261, R268, R269, R270, R271,
R273, R274. -/
def Obligations.SecondsAndBinsAreKept : Prop :=
  (∀ (s : State), s.isOn Reg.PROT_STATUS_WTR = true → ∃ t, exec .pmSecond s = .next t ∧ t.rd Reg.PROT_WTR_LEFT_SECONDS = (s.rd
    Reg.PROT_WTR_LEFT_SECONDS - 1) % 2 ^ Reg.PROT_WTR_LEFT_SECONDS.width) ∧
  (∀ (l : Leg) (w : Nat) (s : State), w < 6 → s.isOn Reg.PM_CTL_EN = true → s.rd Reg.PM_LEG_STATE l.n = 0 → ∃ t, exec .pmSecond s = .next t ∧
    (Tab.get {} (pmKey l w) t.pm.cur15).insvc = (Tab.get {} (pmKey l w) s.pm.cur15).insvc + 1 ∧ (Tab.get {} (pmKey l w) t.pm.cur24).insvc =
    (Tab.get {} (pmKey l w) s.pm.cur24).insvc + 1) ∧
  (∀ (x : Sec) (w : Nat) (s : State), (s.pm.secs.get .a).length = 11 → (s.pm.secs.get .b).length < 11 → (s.pm.secs.get .a).getLast? = some x
    → x.counts = true → w ≤ 4 → bit (s.rd Reg.PM_LEG_UNAVAIL 0) w = 0 → bit x.ses w = 0 → ∃ t, exec .pmSecondCommit s = .next t ∧ Counted
    Reg.PM_SEC_SECONDS 0 w 1 s t ∧ Counted Reg.PM_SEC_ES 0 w (bit x.es w) s t ∧ t.rd Reg.PM_SEC_UAS 0 w = s.rd Reg.PM_SEC_UAS 0 w) ∧
  (∀ (s : State), (s.pm.secs.get .a).length < 11 → (s.pm.secs.get .b).length < 11 → exec .pmSecondCommit s = .next s) ∧
  (∀ (l : Leg) (w : Nat) (s : State), w < 6 → s.isOn Reg.PM_CTL_EN = true → s.alignedSec % 900 = 0 → s.alignedSec % 86400 ≠ 0 → ∃ t, exec
    .binRoll s = .next t ∧ (Tab.get [] (pmKey l w) t.pm.hist15).head? = some (s.closeBin l false (Tab.get {} (pmKey l w) s.pm.cur15)) ∧ Counted
    Reg.PM_CNT_BINS_15M 0 0 1 s t ∧ t.rd Reg.PM_CNT_BINS_24H = s.rd Reg.PM_CNT_BINS_24H) ∧
  (∀ (s : State), s.isOn Reg.PM_CTL_EN = false ∨ s.alignedSec % 900 ≠ 0 → exec .binRoll s = .next s) ∧
  (∀ (ag : Agent) (v : BitVec 32) (b : Bin) (s : State), s.reach ag = true → s.binAt (Leg.ofBit (bit v.toNat 0)) (bits v.toNat 3 1) (bit
    v.toNat 4) (bits v.toNat 14 8) = some b → ∃ t, exec (.pmBinLatch ag v) s = .next t ∧ t.rdA ag Reg.PM_BIN_DATA 0 0 = b.start % 2 ^ 32 ∧
    t.rdA ag Reg.PM_BIN_DATA 0 4 = b.cnt.getD 0 0 % 2 ^ 32 ∧ t.rdA ag Reg.PM_BIN_SEL_WAVE = bits v.toNat 3 1) ∧
  (∀ (ag : Agent) (v : BitVec 32) (s : State), s.reach ag = true → s.binAt (Leg.ofBit (bit v.toNat 0)) (bits v.toNat 3 1) (bit v.toNat 4)
    (bits v.toNat 14 8) = none → ∃ t, exec (.pmBinLatch ag v) s = .next t ∧ t.rdA ag Reg.PM_BIN_DATA 0 0 = 0 ∧ t.rdA ag Reg.PM_BIN_DATA 0 15 =
    0) ∧
  (∀ (ag : Agent) (l : Leg) (v : BitVec 32) (s : State), s.reach ag = true → bit v.toNat 2 = 1 → ∃ t, exec (.pmTestWrite ag l v) s = .next t
    ∧ t.rd Reg.PM_LEG_STATE l.n = 2 ∧ t.rd Reg.PM_LEG_TEST l.n = 1) ∧
  (∀ (ag : Agent) (l : Leg) (v : BitVec 32) (s : State), s.reach ag = false → exec (.pmTestWrite ag l v) s = .next s)

/-- With the command ring enabled, not in ERR and not empty, a short command is counted. What the terminal's state refuses (R338, R347, R25,
R360) is answered with that status and counted as refused; one of another opcode, or with a reserved bit set, is answered INVALID and
counted as refused. Of the others: NOP is answered OK and counts no refusal; IDENTIFY writes the GEN block and both headers where the PF
may issue requests, and otherwise ends HOST_LINK_LOST; QUERY_OP answers the state, opcode and PERMILLE of a live handle, and NOT_FOUND of
another; SETTINGS_SAVE, where the image can read a copy, writes the stored fields to the other copy with the next SEQ and the image's
schema (on trial, the schema read), and where it can read none answers SETTINGS_UNREADABLE and leaves firmware's state; KEY_LOAD of an
owner up to 128, where the PF may issue requests and the key is read, fills an empty lookaside slot, and of a slot that is not empty
answers DENIED, counted, with no slot changed; without the link it ends HOST_LINK_LOST with no slot changed; KEY_ERASE empties a lookaside
slot, and of another answers DENIED, counted; FW_CONFIRM on trial ends the trial and answers 1, and off trial answers 0 and leaves
firmware's state; LC_TRANSITION that R362 does not refuse, whose commit fuses can be blown, moves the life cycle to its target, and one not
armed is INVALID and leaves firmware's state; COSIGN_ENROL in PROVISIONED with fewer than four records, where the PF may issue requests and
the key is read, enrols the hash of a key under which the running image verifies, and outside PROVISIONED is DENIED and leaves firmware's
state. Shown to complete, under conditions on the state and the operands alone: NOP, IDENTIFY, QUERY_OP, SETTINGS_SAVE, KEY_LOAD_CMD,
KEY_ERASE, FW_CONFIRM, LC_TRANSITION, COSIGN_ENROL. Rests on R330, R331, R333, R334, R342, R356, R358, R359, R360, R362. -/
def Obligations.ShortAdminCommandsAreAnswered : Prop :=
  (∀ (e : List Byte) (st : Nat) (s : State), s.admReady = true → s.admGate 0x00 = some st → st ≠ 0 → ∃ t, exec (.nop e) s = .next t ∧
    Answered e st 0 s t ∧ Counted Reg.ADM_CNT_COMMANDS 0 0 1 s t ∧ Counted Reg.ADM_CNT_REFUSED 0 0 1 s t) ∧
  (∀ (e : List Byte) (s : State), s.admReady = true → s.admGate 0x00 = none → admOp e ≠ 0x00 ∨ admClean e ([]) = false → ∃ t, exec (.nop e) s
    = .next t ∧ Answered e 2 0 s t ∧ Counted Reg.ADM_CNT_COMMANDS 0 0 1 s t ∧ Counted Reg.ADM_CNT_REFUSED 0 0 1 s t) ∧
  (∀ (e : List Byte) (st : Nat) (s : State), s.admReady = true → s.admGate 0x01 = some st → st ≠ 0 → ∃ t, exec (.identify e) s = .next t ∧
    Answered e st 0 s t ∧ Counted Reg.ADM_CNT_COMMANDS 0 0 1 s t ∧ Counted Reg.ADM_CNT_REFUSED 0 0 1 s t) ∧
  (∀ (e : List Byte) (s : State), s.admReady = true → s.admGate 0x01 = none → admOp e ≠ 0x01 ∨ admClean e (wholeBytes 16 8) = false → ∃ t,
    exec (.identify e) s = .next t ∧ Answered e 2 0 s t ∧ Counted Reg.ADM_CNT_COMMANDS 0 0 1 s t ∧ Counted Reg.ADM_CNT_REFUSED 0 0 1 s t) ∧
  (∀ (e : List Byte) (st : Nat) (s : State), s.admReady = true → s.admGate 0x02 = some st → st ≠ 0 → ∃ t, exec (.queryOp e) s = .next t ∧
    Answered e st 0 s t ∧ Counted Reg.ADM_CNT_COMMANDS 0 0 1 s t ∧ Counted Reg.ADM_CNT_REFUSED 0 0 1 s t) ∧
  (∀ (e : List Byte) (s : State), s.admReady = true → s.admGate 0x02 = none → admOp e ≠ 0x02 ∨ admClean e ([]) = false → ∃ t, exec (.queryOp
    e) s = .next t ∧ Answered e 2 0 s t ∧ Counted Reg.ADM_CNT_COMMANDS 0 0 1 s t ∧ Counted Reg.ADM_CNT_REFUSED 0 0 1 s t) ∧
  (∀ (e : List Byte) (st : Nat) (s : State), s.admReady = true → s.admGate 0x06 = some st → st ≠ 0 → ∃ t, exec (.settingsSave e) s = .next t
    ∧ Answered e st 0 s t ∧ Counted Reg.ADM_CNT_COMMANDS 0 0 1 s t ∧ Counted Reg.ADM_CNT_REFUSED 0 0 1 s t) ∧
  (∀ (e : List Byte) (s : State), s.admReady = true → s.admGate 0x06 = none → admOp e ≠ 0x06 ∨ admClean e ([]) = false → ∃ t, exec
    (.settingsSave e) s = .next t ∧ Answered e 2 0 s t ∧ Counted Reg.ADM_CNT_COMMANDS 0 0 1 s t ∧ Counted Reg.ADM_CNT_REFUSED 0 0 1 s t) ∧
  (∀ (e : List Byte) (key : HostRead) (st : Nat) (s : State), s.admReady = true → s.admGate 0x08 = some st → st ≠ 0 → ∃ t, exec (.keyLoadCmd
    e key) s = .next t ∧ Answered e st 0 s t ∧ Counted Reg.ADM_CNT_COMMANDS 0 0 1 s t ∧ Counted Reg.ADM_CNT_REFUSED 0 0 1 s t) ∧
  (∀ (e : List Byte) (key : HostRead) (s : State), s.admReady = true → s.admGate 0x08 = none → admOp e ≠ 0x08 ∨ admClean e ([(8, 255), (9,
    1), (10, 255)] ++ wholeBytes 16 8) = false → ∃ t, exec (.keyLoadCmd e key) s = .next t ∧ Answered e 2 0 s t ∧ Counted Reg.ADM_CNT_COMMANDS
    0 0 1 s t ∧ Counted Reg.ADM_CNT_REFUSED 0 0 1 s t) ∧
  (∀ (e : List Byte) (st : Nat) (s : State), s.admReady = true → s.admGate 0x09 = some st → st ≠ 0 → ∃ t, exec (.keyErase e) s = .next t ∧
    Answered e st 0 s t ∧ Counted Reg.ADM_CNT_COMMANDS 0 0 1 s t ∧ Counted Reg.ADM_CNT_REFUSED 0 0 1 s t) ∧
  (∀ (e : List Byte) (s : State), s.admReady = true → s.admGate 0x09 = none → admOp e ≠ 0x09 ∨ admClean e ([(8, 255), (9, 1)]) = false → ∃ t,
    exec (.keyErase e) s = .next t ∧ Answered e 2 0 s t ∧ Counted Reg.ADM_CNT_COMMANDS 0 0 1 s t ∧ Counted Reg.ADM_CNT_REFUSED 0 0 1 s t) ∧
  (∀ (e : List Byte) (st : Nat) (s : State), s.admReady = true → s.admGate 0x0B = some st → st ≠ 0 → ∃ t, exec (.fwConfirm e) s = .next t ∧
    Answered e st 0 s t ∧ Counted Reg.ADM_CNT_COMMANDS 0 0 1 s t ∧ Counted Reg.ADM_CNT_REFUSED 0 0 1 s t) ∧
  (∀ (e : List Byte) (s : State), s.admReady = true → s.admGate 0x0B = none → admOp e ≠ 0x0B ∨ admClean e ([]) = false → ∃ t, exec
    (.fwConfirm e) s = .next t ∧ Answered e 2 0 s t ∧ Counted Reg.ADM_CNT_COMMANDS 0 0 1 s t ∧ Counted Reg.ADM_CNT_REFUSED 0 0 1 s t) ∧
  (∀ (e : List Byte) (st : Nat) (s : State), s.admReady = true → s.admGate 0x0C = some st → st ≠ 0 → ∃ t, exec (.lcTransition e) s = .next t
    ∧ Answered e st 0 s t ∧ Counted Reg.ADM_CNT_COMMANDS 0 0 1 s t ∧ Counted Reg.ADM_CNT_REFUSED 0 0 1 s t) ∧
  (∀ (e : List Byte) (s : State), s.admReady = true → s.admGate 0x0C = none → admOp e ≠ 0x0C ∨ admClean e ([(8, 3)]) = false → ∃ t, exec
    (.lcTransition e) s = .next t ∧ Answered e 2 0 s t ∧ Counted Reg.ADM_CNT_COMMANDS 0 0 1 s t ∧ Counted Reg.ADM_CNT_REFUSED 0 0 1 s t) ∧
  (∀ (e : List Byte) (key : HostRead) (st : Nat) (s : State), s.admReady = true → s.admGate 0x0D = some st → st ≠ 0 → ∃ t, exec (.cosignEnrol
    e key) s = .next t ∧ Answered e st 0 s t ∧ Counted Reg.ADM_CNT_COMMANDS 0 0 1 s t ∧ Counted Reg.ADM_CNT_REFUSED 0 0 1 s t) ∧
  (∀ (e : List Byte) (key : HostRead) (s : State), s.admReady = true → s.admGate 0x0D = none → admOp e ≠ 0x0D ∨ admClean e (wholeBytes 16 8)
    = false → ∃ t, exec (.cosignEnrol e key) s = .next t ∧ Answered e 2 0 s t ∧ Counted Reg.ADM_CNT_COMMANDS 0 0 1 s t ∧ Counted
    Reg.ADM_CNT_REFUSED 0 0 1 s t) ∧
  (∀ (e : List Byte) (s : State), s.admReady = false → exec (.nop e) s = .next s) ∧
  (∀ (e : List Byte) (s : State), s.admReady = true → s.admGate 0x00 = none → admOp e = 0x00 → admClean e ([]) = true → ∃ t, exec (.nop e) s
    = .next t ∧ Answered e 0 0 s t ∧ Counted Reg.ADM_CNT_COMMANDS 0 0 1 s t ∧ t.rd Reg.ADM_CNT_REFUSED = s.rd Reg.ADM_CNT_REFUSED) ∧
  (∀ (e : List Byte) (s : State), s.admReady = true → s.admGate 0x01 = none → admOp e = 0x01 → admClean e (wholeBytes 16 8) = true → s.canDma
    0 = true → ∃ t, exec (.identify e) s = .next t ∧ (t.out.drop s.out.length).take (s.dmaWrites 0 (admPar e 16 8) false (s.genBytes ++
    s.idHeader 0 ++ s.idHeader 1)).length = (s.dmaWrites 0 (admPar e 16 8) false (s.genBytes ++ s.idHeader 0 ++ s.idHeader 1)) ∧ Counted
    Reg.ADM_CNT_COMMANDS 0 0 1 s t) ∧
  (∀ (e : List Byte) (s : State), s.admReady = true → s.admGate 0x01 = none → admOp e = 0x01 → admClean e (wholeBytes 16 8) = true → s.canDma
    0 = false → ∃ t, exec (.identify e) s = .next t ∧ Answered e 9 0 s t ∧ Counted Reg.ADM_CNT_COMMANDS 0 0 1 s t) ∧
  (∀ (e : List Byte) (i : Nat) (s : State), s.admReady = true → s.admGate 0x02 = none → admOp e = 0x02 → admClean e ([]) = true → s.opOf
    (admHandle e) = some i → ∃ t, exec (.queryOp e) s = .next t ∧ Answered e 0 (s.opState i + 256 * s.opCode i + 65536 * s.rd
    Reg.ADM_LOP1_PERMILLE 0 i) s t ∧ Counted Reg.ADM_CNT_COMMANDS 0 0 1 s t) ∧
  (∀ (e : List Byte) (s : State), s.admReady = true → s.admGate 0x02 = none → admOp e = 0x02 → admClean e ([]) = true → s.opOf (admHandle e)
    = none → ∃ t, exec (.queryOp e) s = .next t ∧ Answered e 4 0 s t ∧ Counted Reg.ADM_CNT_COMMANDS 0 0 1 s t) ∧
  (∀ (e : List Byte) (y : Settings) (s : State), s.admReady = true → s.admGate 0x06 = none → admOp e = 0x06 → admClean e ([]) = true →
    s.settingsOf s.runSlot = some (y, 0) → ∃ t, exec (.settingsSave e) s = .next t ∧ Answered e 0 0 s t ∧ t.fw.flash.set1 = (Settings.bytes
    { schema := (if s.isOn Reg.FW_STATUS_TRIAL = true then y.schema else hLe (s.hdr s.runSlot) 52 2), seq := (y.seq + 1) % 2 ^ 32, fields := s.regs.filter fun p => isStored p.1 })
    ∧ t.fw.flash.set0 = s.fw.flash.set0 ∧ Counted Reg.ADM_CNT_COMMANDS 0 0 1 s t) ∧
  (∀ (e : List Byte) (y : Settings) (s : State), s.admReady = true → s.admGate 0x06 = none → admOp e = 0x06 → admClean e ([]) = true →
    s.settingsOf s.runSlot = some (y, 1) → ∃ t, exec (.settingsSave e) s = .next t ∧ Answered e 0 0 s t ∧ t.fw.flash.set0 = (Settings.bytes
    { schema := (if s.isOn Reg.FW_STATUS_TRIAL = true then y.schema else hLe (s.hdr s.runSlot) 52 2), seq := (y.seq + 1) % 2 ^ 32, fields := s.regs.filter fun p => isStored p.1 })
    ∧ t.fw.flash.set1 = s.fw.flash.set1 ∧ Counted Reg.ADM_CNT_COMMANDS 0 0 1 s t) ∧
  (∀ (e : List Byte) (s : State), s.admReady = true → s.admGate 0x06 = none → admOp e = 0x06 → admClean e ([]) = true → s.unreadable
    s.runSlot = true → ∃ t, exec (.settingsSave e) s = .next t ∧ Answered e 12 0 s t ∧ t.fw = s.fw ∧ Counted Reg.ADM_CNT_COMMANDS 0 0 1 s t) ∧
  (∀ (e : List Byte) (key : HostRead) (b : List Byte) (s : State), s.admReady = true → s.admGate 0x08 = none → admOp e = 0x08 → admClean e
    ([(8, 255), (9, 1), (10, 255)] ++ wholeBytes 16 8) = true → s.canDma 0 = true → key = .data b → admPar e 10 1 ≤ 128 → s.lineSlots ≤ (admPar
    e 8 2 % 512) → (s.slot (admPar e 8 2 % 512)).kind = 0 → ∃ t, exec (.keyLoadCmd e key) s = .next t ∧ t.slot (admPar e 8 2 % 512) =
    { kind := 2, owner := admPar e 10 1, keys := [(0, beNat (slice b 0 32) + 1)] } ∧ Answered e 0 0 s t ∧ Counted Reg.ADM_CNT_COMMANDS 0 0 1 s
    t) ∧
  (∀ (e : List Byte) (key : HostRead) (b : List Byte) (s : State), s.admReady = true → s.admGate 0x08 = none → admOp e = 0x08 → admClean e
    ([(8, 255), (9, 1), (10, 255)] ++ wholeBytes 16 8) = true → s.canDma 0 = true → key = .data b → admPar e 10 1 ≤ 128 → (s.slot (admPar e 8 2
    % 512)).kind ≠ 0 → ∃ t, exec (.keyLoadCmd e key) s = .next t ∧ t.ciph.slots = s.ciph.slots ∧ Answered e 3 0 s t ∧ Counted
    Reg.CIPH_CNT_DENIED 0 0 1 s t ∧ Counted Reg.ADM_CNT_COMMANDS 0 0 1 s t) ∧
  (∀ (e : List Byte) (key : HostRead) (s : State), s.admReady = true → s.admGate 0x08 = none → admOp e = 0x08 → admClean e ([(8, 255), (9,
    1), (10, 255)] ++ wholeBytes 16 8) = true → s.canDma 0 = false → admPar e 10 1 ≤ 128 → ∃ t, exec (.keyLoadCmd e key) s = .next t ∧
    t.ciph.slots = s.ciph.slots ∧ Answered e 9 0 s t ∧ Counted Reg.ADM_CNT_COMMANDS 0 0 1 s t) ∧
  (∀ (e : List Byte) (s : State), s.admReady = true → s.admGate 0x09 = none → admOp e = 0x09 → admClean e ([(8, 255), (9, 1)]) = true →
    (s.slot (admPar e 8 2 % 512)).kind = 2 → ∃ t, exec (.keyErase e) s = .next t ∧ t.slot (admPar e 8 2 % 512) = {} ∧ Answered e 0 0 s t ∧
    Counted Reg.ADM_CNT_COMMANDS 0 0 1 s t) ∧
  (∀ (e : List Byte) (s : State), s.admReady = true → s.admGate 0x09 = none → admOp e = 0x09 → admClean e ([(8, 255), (9, 1)]) = true →
    (s.slot (admPar e 8 2 % 512)).kind ≠ 2 → ∃ t, exec (.keyErase e) s = .next t ∧ t.ciph.slots = s.ciph.slots ∧ Answered e 3 0 s t ∧ Counted
    Reg.CIPH_CNT_DENIED 0 0 1 s t ∧ Counted Reg.ADM_CNT_COMMANDS 0 0 1 s t) ∧
  (∀ (e : List Byte) (s : State), s.admReady = true → s.admGate 0x0B = none → admOp e = 0x0B → admClean e ([]) = true → s.isOn
    Reg.FW_STATUS_TRIAL = true → s.bootRec.seq < 2 ^ 32 - 1 → ∃ t, exec (.fwConfirm e) s = .next t ∧ t.rd Reg.FW_STATUS_TRIAL = 0 ∧
    t.bootRec.trial = false ∧ t.bootRec.active = s.bootRec.active ∧ Answered e 0 1 s t ∧ Counted Reg.ADM_CNT_COMMANDS 0 0 1 s t) ∧
  (∀ (e : List Byte) (s : State), s.admReady = true → s.admGate 0x0B = none → admOp e = 0x0B → admClean e ([]) = true → s.isOn
    Reg.FW_STATUS_TRIAL = false → ∃ t, exec (.fwConfirm e) s = .next t ∧ Answered e 0 0 s t ∧ t.fw = s.fw ∧ Counted Reg.ADM_CNT_COMMANDS 0 0 1
    s t) ∧
  (∀ (e : List Byte) (s : State), s.admReady = true → s.admGate 0x0C = none → admOp e = 0x0C → admClean e ([(8, 3)]) = true → s.lcRefusal
    (admPar e 8 1) = none → present commitBits (blown commitBits (if admPar e 8 1 = 1 then s.fw.fuse.commit1 else if admPar e 8 1 = 2 then
    s.fw.fuse.commit2 else s.fw.fuse.commit3)) = true → ∃ t, exec (.lcTransition e) s = .next t ∧ t.fw.fuse.lc = admPar e 8 1 ∧ t.rd
    Reg.FW_LC_STATE = admPar e 8 1 ∧ Answered e 0 0 s t ∧ Counted Reg.ADM_CNT_COMMANDS 0 0 1 s t) ∧
  (∀ (e : List Byte) (s : State), s.admReady = true → s.admGate 0x0C = none → admOp e = 0x0C → admClean e ([(8, 3)]) = true → s.fw.lcArm =
    none → ∃ t, exec (.lcTransition e) s = .next t ∧ t.fw = s.fw ∧ Answered e 2 0 s t ∧ Counted Reg.ADM_CNT_COMMANDS 0 0 1 s t) ∧
  (∀ (e : List Byte) (key : HostRead) (b : List Byte) (s : State), s.admReady = true → s.admGate 0x0D = none → admOp e = 0x0D → admClean e
    (wholeBytes 16 8) = true → s.canDma 0 = true → key = .data b → s.provisioned = true → s.fw.fuse.cosign.length < 4 → Crypto.ecdsaVerify
    (beNat (slice b 0 48)) (beNat (slice b 48 48)) (hdrDigest (s.hdr s.runSlot)) (beNat (slice (s.hdr s.runSlot) 2496 48)) (beNat (slice (s.hdr
    s.runSlot) 2544 48)) = true → ∃ t, exec (.cosignEnrol e key) s = .next t ∧ t.fw.fuse.cosign = s.fw.fuse.cosign ++ [Crypto.sha384 (slice b 0
    96)] ∧ t.rd Reg.FW_LC_COSIGN_USED = (s.fw.fuse.cosign.length + 1) % 2 ^ Reg.FW_LC_COSIGN_USED.width ∧ Answered e 0 0 s t ∧ Counted
    Reg.ADM_CNT_COMMANDS 0 0 1 s t) ∧
  (∀ (e : List Byte) (key : HostRead) (s : State), s.admReady = true → s.admGate 0x0D = none → admOp e = 0x0D → admClean e (wholeBytes 16 8)
    = true → s.provisioned = false → ∃ t, exec (.cosignEnrol e key) s = .next t ∧ t.fw = s.fw ∧ Answered e 3 0 s t ∧ Counted
    Reg.ADM_CNT_COMMANDS 0 0 1 s t)

/-- With the command ring enabled, not in ERR and not empty, a long command is counted. What the terminal's state refuses is answered with that
status, and one of another opcode or with a reserved bit set INVALID; both are counted as refused. One that is well formed and that nothing
stands in the way of starts, where an entry of ADM_LOP is free: the first free entry shows the opcode, RUNNING and the CID and holds the
parameters, its STARTED completion goes to the admin ring, and it is counted. FW_DOWNLOAD, of a new image, where the PF may issue requests,
nothing is in its way and the header read at ADDR fits, has IMAGE_LEN as TOTAL and programs the journal with the header's digest and
IMAGE_LEN. FW_VERIFY, with neither a download nor another check live, leaves firmware's state and the flash as they are. FW_ACTIVATE that
R353 does not refuse writes nothing of the flash yet and, with MODE 0, ends every other live operation. SCRUB_FULL starts where no other is
live. TABLE_BULK_LOAD, with none live and no group pending or open, opens the commit group and has LEN as TOTAL. DISPERSION_SWEEP of 1,024
superframes or more, with none live on its leg, puts the leg in TEST with the window as TOTAL; LASER_CHARACTERISE of a leg that is not
active, with none live on it, puts the leg in TEST. SELF_TEST of the shared parts, with none live, has the number of its tests as TOTAL.
PM_EXPORT into a buffer that holds 64 bytes for every bin selected, with none live, has their number as TOTAL. SCRUB_FULL with every entry
taken is answered NO_RESOURCES, and a second one BUSY; FW_DOWNLOAD with something in its way is answered BUSY; DISPERSION_SWEEP of fewer
than 1,024 superframes and SELF_TEST of group 2 are answered INVALID; FW_ACTIVATE that R353 refuses has that status; each is counted as
refused. Shown to complete, under conditions on the state and the operands alone: FW_DOWNLOAD, FW_VERIFY, FW_ACTIVATE, SCRUB_FULL,
TABLE_BULK_LOAD, DISPERSION_SWEEP, LASER_CHARACTERISE, SELF_TEST, PM_EXPORT. Rests on R330, R331, R333, R336, R337, R338, R347, R351, R352,
R353, 12_mailboxes_and_admin.md, 13_firmware_and_lifecycle.md. -/
def Obligations.LongAdminCommandsStart : Prop :=
  (∀ (e : List Byte) (hdr : HostRead) (st : Nat) (s : State), s.admReady = true → s.admGate 0x40 = some st → st ≠ 0 → ∃ t, exec (.fwDownload
    e hdr) s = .next t ∧ Answered e st 0 s t ∧ Counted Reg.ADM_CNT_COMMANDS 0 0 1 s t ∧ Counted Reg.ADM_CNT_REFUSED 0 0 1 s t) ∧
  (∀ (e : List Byte) (hdr : HostRead) (s : State), s.admReady = true → s.admGate 0x40 = none → admOp e ≠ 0x40 ∨ admClean e ([(8, 1)] ++
    wholeBytes 16 8 ++ wholeBytes 24 4) = false → ∃ t, exec (.fwDownload e hdr) s = .next t ∧ Answered e 2 0 s t ∧ Counted Reg.ADM_CNT_COMMANDS
    0 0 1 s t ∧ Counted Reg.ADM_CNT_REFUSED 0 0 1 s t) ∧
  (∀ (e : List Byte) (st : Nat) (s : State), s.admReady = true → s.admGate 0x41 = some st → st ≠ 0 → ∃ t, exec (.fwVerify e) s = .next t ∧
    Answered e st 0 s t ∧ Counted Reg.ADM_CNT_COMMANDS 0 0 1 s t ∧ Counted Reg.ADM_CNT_REFUSED 0 0 1 s t) ∧
  (∀ (e : List Byte) (s : State), s.admReady = true → s.admGate 0x41 = none → admOp e ≠ 0x41 ∨ admClean e ([(8, 1)]) = false → ∃ t, exec
    (.fwVerify e) s = .next t ∧ Answered e 2 0 s t ∧ Counted Reg.ADM_CNT_COMMANDS 0 0 1 s t ∧ Counted Reg.ADM_CNT_REFUSED 0 0 1 s t) ∧
  (∀ (e : List Byte) (st : Nat) (s : State), s.admReady = true → s.admGate 0x0A = some st → st ≠ 0 → ∃ t, exec (.fwActivate e) s = .next t ∧
    Answered e st 0 s t ∧ Counted Reg.ADM_CNT_COMMANDS 0 0 1 s t ∧ Counted Reg.ADM_CNT_REFUSED 0 0 1 s t) ∧
  (∀ (e : List Byte) (s : State), s.admReady = true → s.admGate 0x0A = none → admOp e ≠ 0x0A ∨ admClean e ([(8, 1), (9, 1)]) = false → ∃ t,
    exec (.fwActivate e) s = .next t ∧ Answered e 2 0 s t ∧ Counted Reg.ADM_CNT_COMMANDS 0 0 1 s t ∧ Counted Reg.ADM_CNT_REFUSED 0 0 1 s t) ∧
  (∀ (e : List Byte) (st : Nat) (s : State), s.admReady = true → s.admGate 0x42 = some st → st ≠ 0 → ∃ t, exec (.scrubFull e) s = .next t ∧
    Answered e st 0 s t ∧ Counted Reg.ADM_CNT_COMMANDS 0 0 1 s t ∧ Counted Reg.ADM_CNT_REFUSED 0 0 1 s t) ∧
  (∀ (e : List Byte) (s : State), s.admReady = true → s.admGate 0x42 = none → admOp e ≠ 0x42 ∨ admClean e ([(8, 31)]) = false → ∃ t, exec
    (.scrubFull e) s = .next t ∧ Answered e 2 0 s t ∧ Counted Reg.ADM_CNT_COMMANDS 0 0 1 s t ∧ Counted Reg.ADM_CNT_REFUSED 0 0 1 s t) ∧
  (∀ (e : List Byte) (st : Nat) (s : State), s.admReady = true → s.admGate 0x43 = some st → st ≠ 0 → ∃ t, exec (.tableBulkLoad e) s = .next t
    ∧ Answered e st 0 s t ∧ Counted Reg.ADM_CNT_COMMANDS 0 0 1 s t ∧ Counted Reg.ADM_CNT_REFUSED 0 0 1 s t) ∧
  (∀ (e : List Byte) (s : State), s.admReady = true → s.admGate 0x43 = none → admOp e ≠ 0x43 ∨ admClean e (wholeBytes 16 8 ++ wholeBytes 24
    4) = false → ∃ t, exec (.tableBulkLoad e) s = .next t ∧ Answered e 2 0 s t ∧ Counted Reg.ADM_CNT_COMMANDS 0 0 1 s t ∧ Counted
    Reg.ADM_CNT_REFUSED 0 0 1 s t) ∧
  (∀ (e : List Byte) (st : Nat) (s : State), s.admReady = true → s.admGate 0x44 = some st → st ≠ 0 → ∃ t, exec (.dispersionSweep e) s = .next
    t ∧ Answered e st 0 s t ∧ Counted Reg.ADM_CNT_COMMANDS 0 0 1 s t ∧ Counted Reg.ADM_CNT_REFUSED 0 0 1 s t) ∧
  (∀ (e : List Byte) (s : State), s.admReady = true → s.admGate 0x44 = none → admOp e ≠ 0x44 ∨ admClean e ([(8, 3), (10, 255), (11, 255)] ++
    wholeBytes 16 8) = false → ∃ t, exec (.dispersionSweep e) s = .next t ∧ Answered e 2 0 s t ∧ Counted Reg.ADM_CNT_COMMANDS 0 0 1 s t ∧
    Counted Reg.ADM_CNT_REFUSED 0 0 1 s t) ∧
  (∀ (e : List Byte) (st : Nat) (s : State), s.admReady = true → s.admGate 0x45 = some st → st ≠ 0 → ∃ t, exec (.laserCharacterise e) s =
    .next t ∧ Answered e st 0 s t ∧ Counted Reg.ADM_CNT_COMMANDS 0 0 1 s t ∧ Counted Reg.ADM_CNT_REFUSED 0 0 1 s t) ∧
  (∀ (e : List Byte) (s : State), s.admReady = true → s.admGate 0x45 = none → admOp e ≠ 0x45 ∨ admClean e ([(8, 7)] ++ wholeBytes 16 8) =
    false → ∃ t, exec (.laserCharacterise e) s = .next t ∧ Answered e 2 0 s t ∧ Counted Reg.ADM_CNT_COMMANDS 0 0 1 s t ∧ Counted
    Reg.ADM_CNT_REFUSED 0 0 1 s t) ∧
  (∀ (e : List Byte) (st : Nat) (s : State), s.admReady = true → s.admGate 0x46 = some st → st ≠ 0 → ∃ t, exec (.selfTest e) s = .next t ∧
    Answered e st 0 s t ∧ Counted Reg.ADM_CNT_COMMANDS 0 0 1 s t ∧ Counted Reg.ADM_CNT_REFUSED 0 0 1 s t) ∧
  (∀ (e : List Byte) (s : State), s.admReady = true → s.admGate 0x46 = none → admOp e ≠ 0x46 ∨ admClean e ([(8, 3), (9, 15)]) = false → ∃ t,
    exec (.selfTest e) s = .next t ∧ Answered e 2 0 s t ∧ Counted Reg.ADM_CNT_COMMANDS 0 0 1 s t ∧ Counted Reg.ADM_CNT_REFUSED 0 0 1 s t) ∧
  (∀ (e : List Byte) (st : Nat) (s : State), s.admReady = true → s.admGate 0x47 = some st → st ≠ 0 → ∃ t, exec (.pmExport e) s = .next t ∧
    Answered e st 0 s t ∧ Counted Reg.ADM_CNT_COMMANDS 0 0 1 s t ∧ Counted Reg.ADM_CNT_REFUSED 0 0 1 s t) ∧
  (∀ (e : List Byte) (s : State), s.admReady = true → s.admGate 0x47 = none → admOp e ≠ 0x47 ∨ admClean e ([(8, 3), (9, 63), (10, 3)] ++
    wholeBytes 16 8 ++ wholeBytes 24 4) = false → ∃ t, exec (.pmExport e) s = .next t ∧ Answered e 2 0 s t ∧ Counted Reg.ADM_CNT_COMMANDS 0 0 1
    s t ∧ Counted Reg.ADM_CNT_REFUSED 0 0 1 s t) ∧
  (∀ (e : List Byte) (hdr : HostRead) (i : Nat) (h : List Byte) (s : State), s.admReady = true → s.admGate 0x40 = none → admOp e = 0x40 →
    admClean e ([(8, 1)] ++ wholeBytes 16 8 ++ wholeBytes 24 4) = true → (List.range 8).find? (fun i => !s.isOn Reg.ADM_LOP0_HANDLE 0 i) = some
    i → s.canDma 0 = true → s.downloadBusy = false → hdr = .data h → s.downloadRefusal e hdr = none → admPar e 8 1 ≠ 0 → ∃ t, exec (.fwDownload
    e hdr) s = .next t ∧ Started e 0x40 i s t ∧ Counted Reg.ADM_CNT_COMMANDS 0 0 1 s t ∧ t.rd Reg.ADM_LOP3_TOTAL 0 i = admPar e 24 4 ∧
    t.fw.flash.jour = beBytes 48 (hdrDigest h) ++ leBytes 4 (admPar e 24 4)) ∧
  (∀ (e : List Byte) (i : Nat) (s : State), s.admReady = true → s.admGate 0x41 = none → admOp e = 0x41 → admClean e ([(8, 1)]) = true →
    (List.range 8).find? (fun i => !s.isOn Reg.ADM_LOP0_HANDLE 0 i) = some i → s.running 0x40 = false → s.running 0x41 = false → ∃ t, exec
    (.fwVerify e) s = .next t ∧ Started e 0x41 i s t ∧ Counted Reg.ADM_CNT_COMMANDS 0 0 1 s t ∧ t.fw = s.fw) ∧
  (∀ (e : List Byte) (i : Nat) (s : State), s.admReady = true → s.admGate 0x0A = none → admOp e = 0x0A → admClean e ([(8, 1), (9, 1)]) = true
    → (List.range 8).find? (fun i => !s.isOn Reg.ADM_LOP0_HANDLE 0 i) = some i → s.activateRefusal (admPar e 8 1) (admPar e 9 1) = none → ∃ t,
    exec (.fwActivate e) s = .next t ∧ Started e 0x0A i s t ∧ Counted Reg.ADM_CNT_COMMANDS 0 0 1 s t ∧ t.fw.flash = s.fw.flash ∧ (admPar e 9 1
    = 0 → ∀ j ∈ List.range 8, j ≠ i → (s.op j).params ≠ [] → t.rd Reg.ADM_LOP0_HANDLE 0 j = 0)) ∧
  (∀ (e : List Byte) (i : Nat) (s : State), s.admReady = true → s.admGate 0x42 = none → admOp e = 0x42 → admClean e ([(8, 31)]) = true →
    (List.range 8).find? (fun i => !s.isOn Reg.ADM_LOP0_HANDLE 0 i) = some i → s.running 0x42 = false → ∃ t, exec (.scrubFull e) s = .next t ∧
    Started e 0x42 i s t ∧ Counted Reg.ADM_CNT_COMMANDS 0 0 1 s t) ∧
  (∀ (e : List Byte) (i : Nat) (s : State), s.admReady = true → s.admGate 0x43 = none → admOp e = 0x43 → admClean e (wholeBytes 16 8 ++
    wholeBytes 24 4) = true → (List.range 8).find? (fun i => !s.isOn Reg.ADM_LOP0_HANDLE 0 i) = some i → s.running 0x43 = false → s.rd
    Reg.CLS_COMMIT_STATUS_GROUP = 0 → ∃ t, exec (.tableBulkLoad e) s = .next t ∧ Started e 0x43 i s t ∧ Counted Reg.ADM_CNT_COMMANDS 0 0 1 s t
    ∧ t.rd Reg.CLS_COMMIT_STATUS_GROUP = 1 ∧ t.rd Reg.ADM_LOP3_TOTAL 0 i = admPar e 24 4) ∧
  (∀ (e : List Byte) (i : Nat) (s : State), s.admReady = true → s.admGate 0x44 = none → admOp e = 0x44 → admClean e ([(8, 3), (10, 255), (11,
    255)] ++ wholeBytes 16 8) = true → (List.range 8).find? (fun i => !s.isOn Reg.ADM_LOP0_HANDLE 0 i) = some i → 1024 ≤ admPar e 10 2 →
    s.runningOn 0x44 (Leg.ofBit (admPar e 8 1 % 2)) = false → ∃ t, exec (.dispersionSweep e) s = .next t ∧ Started e 0x44 i s t ∧ Counted
    Reg.ADM_CNT_COMMANDS 0 0 1 s t ∧ t.rd Reg.PM_LEG_STATE (admPar e 8 1 % 2) = 2 ∧ t.rd Reg.ADM_LOP3_TOTAL 0 i = admPar e 10 2) ∧
  (∀ (e : List Byte) (i : Nat) (s : State), s.admReady = true → s.admGate 0x45 = none → admOp e = 0x45 → admClean e ([(8, 7)] ++ wholeBytes
    16 8) = true → (List.range 8).find? (fun i => !s.isOn Reg.ADM_LOP0_HANDLE 0 i) = some i → s.active ≠ Leg.ofBit (admPar e 8 1 % 2) →
    s.runningOn 0x45 (Leg.ofBit (admPar e 8 1 % 2)) = false → ∃ t, exec (.laserCharacterise e) s = .next t ∧ Started e 0x45 i s t ∧ Counted
    Reg.ADM_CNT_COMMANDS 0 0 1 s t ∧ t.rd Reg.PM_LEG_STATE (admPar e 8 1 % 2) = 2) ∧
  (∀ (e : List Byte) (i : Nat) (s : State), s.admReady = true → s.admGate 0x46 = none → admOp e = 0x46 → admClean e ([(8, 3), (9, 15)]) =
    true → (List.range 8).find? (fun i => !s.isOn Reg.ADM_LOP0_HANDLE 0 i) = some i → admPar e 8 1 = 3 → s.running 0x46 = false → ∃ t, exec
    (.selfTest e) s = .next t ∧ Started e 0x46 i s t ∧ Counted Reg.ADM_CNT_COMMANDS 0 0 1 s t ∧ t.rd Reg.ADM_LOP3_TOTAL 0 i = popcount 4
    (admPar e 9 1) % 2 ^ Reg.ADM_LOP3_TOTAL.width) ∧
  (∀ (e : List Byte) (i : Nat) (s : State), s.admReady = true → s.admGate 0x47 = none → admOp e = 0x47 → admClean e ([(8, 3), (9, 63), (10,
    3)] ++ wholeBytes 16 8 ++ wholeBytes 24 4) = true → (List.range 8).find? (fun i => !s.isOn Reg.ADM_LOP0_HANDLE 0 i) = some i → s.running
    0x47 = false → 64 * (exportSel (admPar e 8 1) (admPar e 9 1) (admPar e 10 1)).length ≤ admPar e 24 4 → ∃ t, exec (.pmExport e) s = .next t
    ∧ Started e 0x47 i s t ∧ Counted Reg.ADM_CNT_COMMANDS 0 0 1 s t ∧ t.rd Reg.ADM_LOP3_TOTAL 0 i = (exportSel (admPar e 8 1) (admPar e 9 1)
    (admPar e 10 1)).length % 2 ^ Reg.ADM_LOP3_TOTAL.width) ∧
  (∀ (e : List Byte) (s : State), s.admReady = true → s.admGate 0x42 = none → admOp e = 0x42 → admClean e ([(8, 31)]) = true → s.running 0x42
    = false → (List.range 8).find? (fun i => !s.isOn Reg.ADM_LOP0_HANDLE 0 i) = none → ∃ t, exec (.scrubFull e) s = .next t ∧ Answered e 15 0 s
    t ∧ Counted Reg.ADM_CNT_COMMANDS 0 0 1 s t ∧ Counted Reg.ADM_CNT_REFUSED 0 0 1 s t) ∧
  (∀ (e : List Byte) (s : State), s.admReady = true → s.admGate 0x42 = none → admOp e = 0x42 → admClean e ([(8, 31)]) = true → s.running 0x42
    = true → ∃ t, exec (.scrubFull e) s = .next t ∧ Answered e 1 0 s t ∧ Counted Reg.ADM_CNT_COMMANDS 0 0 1 s t ∧ Counted Reg.ADM_CNT_REFUSED 0
    0 1 s t) ∧
  (∀ (e : List Byte) (hdr : HostRead) (s : State), s.admReady = true → s.admGate 0x40 = none → admOp e = 0x40 → admClean e ([(8, 1)] ++
    wholeBytes 16 8 ++ wholeBytes 24 4) = true → s.downloadBusy = true → ∃ t, exec (.fwDownload e hdr) s = .next t ∧ Answered e 1 0 s t ∧
    Counted Reg.ADM_CNT_COMMANDS 0 0 1 s t ∧ Counted Reg.ADM_CNT_REFUSED 0 0 1 s t) ∧
  (∀ (e : List Byte) (s : State), s.admReady = true → s.admGate 0x44 = none → admOp e = 0x44 → admClean e ([(8, 3), (10, 255), (11, 255)] ++
    wholeBytes 16 8) = true → admPar e 10 2 < 1024 → ∃ t, exec (.dispersionSweep e) s = .next t ∧ Answered e 2 0 s t ∧ Counted
    Reg.ADM_CNT_COMMANDS 0 0 1 s t ∧ Counted Reg.ADM_CNT_REFUSED 0 0 1 s t) ∧
  (∀ (e : List Byte) (s : State), s.admReady = true → s.admGate 0x46 = none → admOp e = 0x46 → admClean e ([(8, 3), (9, 15)]) = true → admPar
    e 8 1 = 2 → ∃ t, exec (.selfTest e) s = .next t ∧ Answered e 2 0 s t ∧ Counted Reg.ADM_CNT_COMMANDS 0 0 1 s t ∧ Counted Reg.ADM_CNT_REFUSED
    0 0 1 s t) ∧
  (∀ (e : List Byte) (st : Nat) (s : State), s.admReady = true → s.admGate 0x0A = none → admOp e = 0x0A → admClean e ([(8, 1), (9, 1)]) =
    true → s.activateRefusal (admPar e 8 1) (admPar e 9 1) = some st → ∃ t, exec (.fwActivate e) s = .next t ∧ Answered e st 0 s t ∧ Counted
    Reg.ADM_CNT_COMMANDS 0 0 1 s t ∧ Counted Reg.ADM_CNT_REFUSED 0 0 1 s t)

/-- SUSPEND of a RUNNING operation that allows it completes nothing yet and leaves it SUSPENDING, of a SUSPENDING one it is BUSY; at the next
safe point the operation is SUSPENDED with its entry kept, and the FINAL entry of the SUSPEND and then a PROGRESS entry go to the admin
ring. RESUME of a SUSPENDED operation that nothing conflicts with sets it RUNNING and is OK, of a SUSPENDING one is BUSY. CANCEL of one
that can be cancelled, which no SUSPEND waits on, completes nothing yet and leaves it CANCELLING; at the safe point it is counted as
cancelled and its entry is free, an activation leaving the flash as it is; a bulk load whose boundary has passed ends OK. A dead handle is
NOT_FOUND. Progress of a RUNNING operation other than PM_EXPORT counts the units done, up to the total, and PERMILLE follows; with progress
entries off nothing completes; a SUSPENDED operation is unchanged. The safe point of a RUNNING activation, not on trial and with a SEQ
below the greatest, writes the boot record: the slot on trial, the slot before as the previous one; with MODE 1 it ends OK and a warm reset
is due, with MODE 0 it goes on and a planned absence carries it. Where no command waits and no link event ended the operation: a SELF_TEST
completed OK is counted and completes FINAL with the units done and failed; FW_VERIFY of an image that fails a check completes FINAL with
the number of the check, DENIED for keys and signatures and INVALID for the others, and counts as failed and VERIFY_FAIL; a scrub with
another status completes FINAL with it, failed unless CANCELLED; a SUSPENDED operation but a bulk load that waits too long fails with
TIMEOUT. A receive chain found faulty by the test of bit 0 fails the leg; an image that passes every check leaves its slot VERIFIED. Rows
of a dead handle change nothing. Shown to complete, under conditions on the state and the operands alone: SUSPEND, RESUME_OP, CANCEL,
LONG_OP_PROGRESS, LONG_OP_SAFE_POINT, LONG_OP_COMPLETE, SUSPEND_TIMEOUT. Rests on R331, R332, R335, R336, R337, R352, R353, R356,
12_mailboxes_and_admin.md, 13_firmware_and_lifecycle.md. -/
def Obligations.LongOperationsSuspendWorkAndEnd : Prop :=
  (∀ (e : List Byte) (s : State), s.admReady = true → s.admGate 0x03 = none → admOp e = 0x03 → admClean e [] = true → s.opOf (admHandle e) =
    none → ∃ t, exec (.suspend e) s = .next t ∧ Answered e 4 0 s t ∧ Counted Reg.ADM_CNT_COMMANDS 0 0 1 s t ∧ Counted Reg.ADM_CNT_REFUSED 0 0 1
    s t) ∧
  (∀ (e : List Byte) (s : State), s.admReady = true → s.admGate 0x04 = none → admOp e = 0x04 → admClean e [] = true → s.opOf (admHandle e) =
    none → ∃ t, exec (.resumeOp e) s = .next t ∧ Answered e 4 0 s t ∧ Counted Reg.ADM_CNT_COMMANDS 0 0 1 s t ∧ Counted Reg.ADM_CNT_REFUSED 0 0
    1 s t) ∧
  (∀ (e : List Byte) (s : State), s.admReady = true → s.admGate 0x05 = none → admOp e = 0x05 → admClean e [] = true → s.opOf (admHandle e) =
    none → ∃ t, exec (.cancel e) s = .next t ∧ Answered e 4 0 s t ∧ Counted Reg.ADM_CNT_COMMANDS 0 0 1 s t ∧ Counted Reg.ADM_CNT_REFUSED 0 0 1
    s t) ∧
  (∀ (e : List Byte) (i : Nat) (s : State), s.admReady = true → s.admGate 0x03 = none → admOp e = 0x03 → admClean e [] = true → s.opOf
    (admHandle e) = some i → s.opState i = 1 → s.suspendable i = true → ∃ t, exec (.suspend e) s = .next t ∧ t.opState i = 2 ∧ (t.op i).suspCid
    = some (admCid e) ∧ t.out = s.out ∧ t.adm.cqWait = s.adm.cqWait) ∧
  (∀ (e : List Byte) (i : Nat) (s : State), s.admReady = true → s.admGate 0x03 = none → admOp e = 0x03 → admClean e [] = true → s.opOf
    (admHandle e) = some i → s.opState i = 2 → ∃ t, exec (.suspend e) s = .next t ∧ t.opState i = 2 ∧ Answered e 1 0 s t) ∧
  (∀ (e : List Byte) (i : Nat) (s : State), s.admReady = true → s.admGate 0x04 = none → admOp e = 0x04 → admClean e [] = true → s.opOf
    (admHandle e) = some i → s.opState i = 3 → s.conflicts i = false → ∃ t, exec (.resumeOp e) s = .next t ∧ t.opState i = 1 ∧ Answered e 0 0 s
    t) ∧
  (∀ (e : List Byte) (i : Nat) (s : State), s.admReady = true → s.admGate 0x04 = none → admOp e = 0x04 → admClean e [] = true → s.opOf
    (admHandle e) = some i → s.opState i = 2 → ∃ t, exec (.resumeOp e) s = .next t ∧ t.opState i = 2 ∧ Answered e 1 0 s t) ∧
  (∀ (e : List Byte) (i : Nat) (s : State), s.admReady = true → s.admGate 0x05 = none → admOp e = 0x05 → admClean e [] = true → s.opOf
    (admHandle e) = some i → s.opState i ≤ 3 → s.cancellable i = true → (s.op i).suspCid = none → ∃ t, exec (.cancel e) s = .next t ∧ t.opState
    i = 4 ∧ (t.op i).cancelCid = some (admCid e) ∧ t.out = s.out ∧ t.adm.cqWait = s.adm.cqWait) ∧
  (∀ (h : Nat) (work : OpWork) (i n : Nat) (s : State), s.opOf h = some i → s.opState i = 1 → s.opCode i ≠ 0x47 → work = .units n → s.isOn
    Reg.ADM_CTL_PROG_MS = false → ∃ t, exec (.longOpProgress h work) s = .next t ∧ t.rd Reg.ADM_LOP2_DONE 0 i = min (s.rd Reg.ADM_LOP3_TOTAL 0
    i) (s.rd Reg.ADM_LOP2_DONE 0 i + n) ∧ (0 < s.rd Reg.ADM_LOP3_TOTAL 0 i → t.rd Reg.ADM_LOP1_PERMILLE 0 i = 1000 * min (s.rd
    Reg.ADM_LOP3_TOTAL 0 i) (s.rd Reg.ADM_LOP2_DONE 0 i + n) / s.rd Reg.ADM_LOP3_TOTAL 0 i % 2 ^ Reg.ADM_LOP1_PERMILLE.width) ∧ t.adm = s.adm ∧
    t.out = s.out) ∧
  (∀ (h : Nat) (work : OpWork) (i : Nat) (s : State), s.opOf h = some i → s.opState i = 3 → exec (.longOpProgress h work) s = .next s) ∧
  (∀ (h : Nat) (work : OpWork) (s : State), s.opOf h = none → exec (.longOpProgress h work) s = .next s) ∧
  (∀ (h : Nat) (i c : Nat) (s : State), s.opOf h = some i → s.opState i = 2 → (s.op i).suspCid = some c → ∃ t, exec (.longOpSafePoint h) s =
    .next t ∧ t.opState i = 3 ∧ (t.op i).suspCid = none ∧ t.rd Reg.ADM_LOP0_HANDLE 0 i = s.rd Reg.ADM_LOP0_HANDLE 0 i ∧ (s.adm.cqWait = [] →
    s.admCan = true → admWritten s (admEntry c true false 0 0 0 0) ∈ t.out.drop s.out.length) ∧ (s.admCan = false → t.adm.cqWait = s.adm.cqWait
    ++ [(admEntry c true false 0 0 0 0), (admEntry (s.rd Reg.ADM_LOP1_CID 0 i) false true 5 h (s.rd Reg.ADM_LOP1_PERMILLE 0 i) 0)])) ∧
  (∀ (h : Nat) (i : Nat) (s : State), s.opOf h = some i → s.opState i = 4 → s.opCode i ≠ 0x43 → ∃ t, exec (.longOpSafePoint h) s = .next t ∧
    t.rd Reg.ADM_LOP0_HANDLE 0 i = 0 ∧ t.opState i = 0 ∧ Counted Reg.ADM_CNT_LONG_CANCELLED 0 0 1 s t ∧ (s.opCode i = 0x0A → t.fw.flash =
    s.fw.flash)) ∧
  (∀ (h : Nat) (i : Nat) (s : State), s.opOf h = some i → s.opState i = 4 → s.opCode i = 0x43 → (s.op i).passed = true → ∃ t, exec
    (.longOpSafePoint h) s = .next t ∧ t.rd Reg.ADM_LOP0_HANDLE 0 i = 0 ∧ Counted Reg.ADM_CNT_LONG_OK 0 0 1 s t) ∧
  (∀ (h : Nat) (i : Nat) (s : State), s.opOf h = some i → s.opState i = 1 → s.opCode i = 0x0A → (s.op i).committed = false → s.isOn
    Reg.FW_STATUS_TRIAL = false → s.bootRec.seq < 2 ^ 32 - 1 → (s.op i).par 9 1 % 2 = 1 → ∃ t, exec (.longOpSafePoint h) s = .next t ∧
    t.bootRec.active = (s.op i).par 8 1 % 2 ∧ t.bootRec.prev = s.bootRec.active ∧ t.bootRec.trial = true ∧ t.fw.warmAt = true ∧ t.rd
    Reg.ADM_LOP0_HANDLE 0 i = 0 ∧ Counted Reg.ADM_CNT_LONG_OK 0 0 1 s t) ∧
  (∀ (h : Nat) (i : Nat) (s : State), s.opOf h = some i → s.opState i = 1 → s.opCode i = 0x0A → (s.op i).committed = false → s.isOn
    Reg.FW_STATUS_TRIAL = false → s.bootRec.seq < 2 ^ 32 - 1 → (s.op i).par 9 1 % 2 = 0 → ∃ t, exec (.longOpSafePoint h) s = .next t ∧
    t.bootRec.active = (s.op i).par 8 1 % 2 ∧ t.bootRec.prev = s.bootRec.active ∧ t.bootRec.trial = true ∧ t.fw.activate = some (s.rd
    Reg.ADM_LOP1_CID 0 i, s.rd Reg.ADM_LOP0_HANDLE 0 i) ∧ t.opState i = 1 ∧ (t.op i).committed = true) ∧
  (∀ (h : Nat) (s : State), s.opOf h = none → exec (.longOpSafePoint h) s = .next s) ∧
  (∀ (h : Nat) (fin : OpFinish) (i : Nat) (s : State), s.opOf h = some i → s.opState i = 1 → s.opCode i = 0x46 → fin.status = 0 →
    fin.chainBad = false → (s.op i).suspCid = none → (s.op i).cancelCid = none → (s.op i).quiet = false → ∃ t, exec (.longOpComplete h fin) s =
    .next t ∧ t.rd Reg.ADM_LOP0_HANDLE 0 i = 0 ∧ Counted Reg.ADM_CNT_LONG_OK 0 0 1 s t ∧ Completed (admEntry (s.rd Reg.ADM_LOP1_CID 0 i) true
    false 0 (s.rd Reg.ADM_LOP0_HANDLE 0 i) (s.rd Reg.ADM_LOP1_PERMILLE 0 i) (fin.units % 256 + 256 * (fin.failed % 256))) s t) ∧
  (∀ (h : Nat) (fin : OpFinish) (i : Nat) (l : Leg) (s : State), s.opOf h = some i → s.opState i = 1 → s.opCode i = 0x46 → fin.status = 0 →
    fin.chainBad = true → bit ((s.op i).par 9 1) 0 = 1 → s.opLeg i = some l → ∃ t, exec (.longOpComplete h fin) s = .next t ∧ (t.leg l).failed
    = true ∧ Counted Reg.ADM_CNT_LONG_OK 0 0 1 s t) ∧
  (∀ (h : Nat) (fin : OpFinish) (i : Nat) (s : State), s.opOf h = some i → s.opState i = 1 → s.opCode i = 0x41 → fin.status = 0 → s.imgFail
    ((s.op i).par 8 1 % 2) = 0 → ∃ t, exec (.longOpComplete h fin) s = .next t ∧ t.verified ((s.op i).par 8 1 % 2) = true ∧ Counted
    Reg.ADM_CNT_LONG_OK 0 0 1 s t ∧ t.rd Reg.ADM_LOP0_HANDLE 0 i = 0) ∧
  (∀ (h : Nat) (fin : OpFinish) (i : Nat) (s : State), s.opOf h = some i → s.opState i = 1 → s.opCode i = 0x41 → fin.status = 0 → s.imgFail
    ((s.op i).par 8 1 % 2) ≠ 0 → (s.op i).suspCid = none → (s.op i).cancelCid = none → (s.op i).quiet = false → ∃ t, exec (.longOpComplete h
    fin) s = .next t ∧ Counted Reg.FW_CNT_VERIFY_FAIL 0 0 1 s t ∧ Counted Reg.ADM_CNT_LONG_FAILED 0 0 1 s t ∧ Completed (admEntry (s.rd
    Reg.ADM_LOP1_CID 0 i) true false (if 3 ≤ s.imgFail ((s.op i).par 8 1 % 2) ∧ s.imgFail ((s.op i).par 8 1 % 2) ≤ 5 then 3 else 2) (s.rd
    Reg.ADM_LOP0_HANDLE 0 i) (s.rd Reg.ADM_LOP1_PERMILLE 0 i) (s.imgFail ((s.op i).par 8 1 % 2))) s t) ∧
  (∀ (h : Nat) (fin : OpFinish) (i : Nat) (s : State), s.opOf h = some i → s.opState i = 1 → s.opCode i = 0x42 → fin.status ≠ 0 → (s.op
    i).suspCid = none → (s.op i).cancelCid = none → (s.op i).quiet = false → ∃ t, exec (.longOpComplete h fin) s = .next t ∧ t.rd
    Reg.ADM_LOP0_HANDLE 0 i = 0 ∧ (fin.status ≠ 6 → Counted Reg.ADM_CNT_LONG_FAILED 0 0 1 s t) ∧ Completed (admEntry (s.rd Reg.ADM_LOP1_CID 0
    i) true false fin.status.val (s.rd Reg.ADM_LOP0_HANDLE 0 i) (s.rd Reg.ADM_LOP1_PERMILLE 0 i) 0) s t) ∧
  (∀ (h : Nat) (fin : OpFinish) (s : State), s.opOf h = none → exec (.longOpComplete h fin) s = .next s) ∧
  (∀ (h : Nat) (i : Nat) (s : State), s.opOf h = some i → s.opState i = 3 → s.opCode i ≠ 0x43 → (s.op i).suspCid = none → (s.op i).cancelCid
    = none → (s.op i).quiet = false → ∃ t, exec (.suspendTimeout h) s = .next t ∧ t.rd Reg.ADM_LOP0_HANDLE 0 i = 0 ∧ Counted
    Reg.ADM_CNT_LONG_FAILED 0 0 1 s t ∧ Completed (admEntry (s.rd Reg.ADM_LOP1_CID 0 i) true false 7 (s.rd Reg.ADM_LOP0_HANDLE 0 i) (s.rd
    Reg.ADM_LOP1_PERMILLE 0 i) 0) s t) ∧
  (∀ (h : Nat) (s : State), s.opOf h = none → exec (.suspendTimeout h) s = .next s)

/-- With the management domain running, the cores released and the image not one on trial that can read no settings: a heartbeat with the wrong
value is counted and does nothing else; the right one stands in FW_HB and empties firmware's receive queue and, with firmware running,
leaves firmware's state and sends nothing; with firmware restarting it makes firmware present and running, and after a cold start READY
too. With the management domain stopped, the cores held, or such an image on trial, a heartbeat does nothing. While firmware runs with no
activation carried, silence and a planned absence restart it with cause 1 and 4 in LAST_CAUSE, counted, firmware absent, and autopilot
counted as begun; they do nothing unless firmware runs. The end of autopilot restarts it with cause 2, counted, and is itself counted; a
quality that was ACQUIRING or LOCKED is HOLDOVER; without autopilot it does nothing. With the cores released and no autopilot, a first
heartbeat that is late after a start or a restart restarts it with cause 3, counted; with firmware running it does nothing. A trial window
that runs out, with firmware running, no activation carried and a boot record whose SEQ is not the greatest a record can hold, restarts it
with cause 4, counted, and is counted as a revert; off trial it does nothing. With firmware present and no activation carried, a leg's
lanes take the loaded microcode and nothing else changes; without firmware nothing does. A write of FW_LC_ARM by the PF, while it reaches
the registers, notes its target and the running time; one by a management core is discarded. Shown to complete, under conditions on the
state and the operands alone: HEARTBEAT, HB_LOST, AUTOPILOT_EXPIRED, FIRST_HEARTBEAT_LATE, PLANNED_ABSENCE, MICROCODE_BANK_SWITCH,
TRIAL_WINDOW_EXPIRY, LC_ARM. Rests on R25, R26, R348, R349, R350, R356, R362, 13_firmware_and_lifecycle.md. -/
def Obligations.FirmwareComesAndGoes : Prop :=
  (∀ (v : BitVec 16) (s : State), s.runs .mgmt = true → s.mute = false → s.pwr.held = false → v.toNat ≠ (s.rd Reg.FW_HB + 1) % 65536 → exec
    (.heartbeat v) s = .next (s.inc Reg.FW_CNT_HB_BAD)) ∧
  (∀ (v : BitVec 16) (s : State), s.runs .mgmt = true → s.mute = false → s.pwr.held = false → v.toNat = (s.rd Reg.FW_HB + 1) % 65536 → s.rd
    Reg.FW_STATUS_STATE = 1 → ∃ t, exec (.heartbeat v) s = .next t ∧ t.rd Reg.FW_HB = v.toNat ∧ t.fw = s.fw ∧ t.host.fwQueue = [] ∧ t.out =
    s.out) ∧
  (∀ (v : BitVec 16) (s : State), s.runs .mgmt = true → s.mute = false → s.pwr.held = false → v.toNat = (s.rd Reg.FW_HB + 1) % 65536 → s.rd
    Reg.FW_STATUS_STATE = 2 ∨ s.rd Reg.FW_STATUS_STATE = 3 → ∃ t, exec (.heartbeat v) s = .next t ∧ t.rd Reg.FW_HB = v.toNat ∧ t.rd
    Reg.ADM_STATUS_FW_PRESENT = 1 ∧ t.rd Reg.FW_STATUS_STATE = 1) ∧
  (∀ (v : BitVec 16) (s : State), s.runs .mgmt = true → s.mute = false → s.pwr.held = false → v.toNat = (s.rd Reg.FW_HB + 1) % 65536 → s.rd
    Reg.FW_STATUS_STATE = 0 → s.fw.bootCold = true → ∃ t, exec (.heartbeat v) s = .next t ∧ t.rd Reg.FW_HB = v.toNat ∧ t.rd
    Reg.ADM_STATUS_FW_PRESENT = 1 ∧ t.rd Reg.FW_STATUS_STATE = 1 ∧ t.rd Reg.PWR_STATUS_READY = 1) ∧
  (∀ (v : BitVec 16) (s : State), s.runs .mgmt = false ∨ s.mute = true ∨ s.pwr.held = true → exec (.heartbeat v) s = .next s) ∧
  (∀ (s : State), s.rd Reg.FW_STATUS_STATE = 1 → s.fw.activate = none → ∃ t, exec .hbLost s = .next t ∧ t.rd Reg.FW_DR_STATUS_LAST_CAUSE = 1
    ∧ Counted Reg.FW_CNT_RESTARTS 0 0 1 s t ∧ Counted Reg.FW_CNT_AUTOPILOTS 0 0 1 s t ∧ t.rd Reg.ADM_STATUS_FW_PRESENT = 0) ∧
  (∀ (s : State), s.rd Reg.FW_STATUS_STATE ≠ 1 → exec .hbLost s = .next s) ∧
  (∀ (s : State), s.fw.autopilot = true → ∃ t, exec .autopilotExpired s = .next t ∧ t.rd Reg.FW_DR_STATUS_LAST_CAUSE = 2 ∧ Counted
    Reg.FW_CNT_RESTARTS 0 0 1 s t ∧ Counted Reg.FW_CNT_AUTOPILOT_EXPIRED 0 0 1 s t ∧ (s.rd Reg.TIME_QUAL_QUALITY = 1 ∨ s.rd
    Reg.TIME_QUAL_QUALITY = 2 → t.rd Reg.TIME_QUAL_QUALITY = 3)) ∧
  (∀ (s : State), s.fw.autopilot = false → exec .autopilotExpired s = .next s) ∧
  (∀ (s : State), s.pwr.held = false → s.fw.autopilot = false → s.rd Reg.FW_STATUS_STATE = 0 ∨ s.rd Reg.FW_STATUS_STATE = 3 → ∃ t, exec
    .firstHeartbeatLate s = .next t ∧ t.rd Reg.FW_DR_STATUS_LAST_CAUSE = 3 ∧ Counted Reg.FW_CNT_RESTARTS 0 0 1 s t) ∧
  (∀ (s : State), s.rd Reg.FW_STATUS_STATE = 1 → exec .firstHeartbeatLate s = .next s) ∧
  (∀ (s : State), s.rd Reg.FW_STATUS_STATE = 1 → s.fw.activate = none → ∃ t, exec .plannedAbsence s = .next t ∧ t.rd
    Reg.FW_DR_STATUS_LAST_CAUSE = 4 ∧ Counted Reg.FW_CNT_RESTARTS 0 0 1 s t ∧ Counted Reg.FW_CNT_AUTOPILOTS 0 0 1 s t ∧ t.rd
    Reg.ADM_STATUS_FW_PRESENT = 0) ∧
  (∀ (s : State), s.rd Reg.FW_STATUS_STATE ≠ 1 → exec .plannedAbsence s = .next s) ∧
  (∀ (l : Leg) (s : State), s.fwPresent = true → s.fw.activate = none → exec (.microcodeBankSwitch l) s = .next
    ({ s with fw := { s.fw with bank := s.fw.bank.upd l fun _ => s.fw.lastFlume } })) ∧
  (∀ (l : Leg) (s : State), s.fwPresent = false → exec (.microcodeBankSwitch l) s = .next s) ∧
  (∀ (s : State), s.isOn Reg.FW_STATUS_TRIAL = true → s.rd Reg.FW_STATUS_STATE = 1 → s.bootRec.seq < 2 ^ 32 - 1 → s.fw.activate = none → ∃ t,
    exec .trialWindowExpiry s = .next t ∧ t.rd Reg.FW_DR_STATUS_LAST_CAUSE = 4 ∧ Counted Reg.FW_CNT_RESTARTS 0 0 1 s t ∧ Counted
    Reg.FW_CNT_REVERTS 0 0 1 s t) ∧
  (∀ (s : State), s.isOn Reg.FW_STATUS_TRIAL = false → exec .trialWindowExpiry s = .next s) ∧
  (∀ (ag : Agent) (v : BitVec 32) (s : State), ag = .pf → s.reach .pf = true → exec (.lcArm ag v) s = .next
    ({ s with fw := { s.fw with lcArm := some (v.toNat % 4, s.runMs) } })) ∧
  (∀ (ag : Agent) (v : BitVec 32) (s : State), ag.isFw = true → exec (.lcArm ag v) s = .next s)

/-- Idle begins from RUN where it is enabled and its conditions hold, and is counted; without its conditions it does not begin. PERST# asserted
shows, takes the link down, leaves no hold and disables PTM; deasserted it no longer shows; a level that stands already changes nothing. A
request of the BMC over the sideband that runs, for a target, sets TARGET and is the cause of the move where firmware is present; while
firmware is absent it waits. WAKE_IN in sleep, where it is enabled and the part is not off, is noted as a cause with code 1, and does
nothing where it is not enabled; the always-on timer that is set, in sleep and enabled, is noted with code 3; a timer of zero does nothing.
Deep sleep, entered once its requests are closed with firmware present and TARGET not OFF, shows DEEP_SLEEP with the modules in low power,
is counted, disables both transmitters, leaves firmware absent, every key slot empty and the shared window zero. Its exit on one wake
cause, with PWR_GOOD high and the retained data good, shows RUN and the cause's code; with the data bad, and no brown-out flag, the reset
cause is 4 and the code shows. Neither entry nor exit acts when it is not due. Shown to complete, under conditions on the state and the
operands alone: IDLE_ENTER, PERST_ASSERT, PERST_DEASSERT, BMC_POWER_REQUEST, WAKE_IN, AON_TIMER, DEEP_SLEEP_ENTRY, DEEP_SLEEP_EXIT. Rests
on R366, R367, R368, R374, R375, R377, R381, R384, 14_power_clocks_reset.md. -/
def Obligations.PowerStatesAreEnteredAndLeft : Prop :=
  (∀ (s : State), s.rd Reg.PWR_STATUS_STATE = 0 → s.isOn Reg.PWR_CTL_IDLE_EN = true → s.idleReady = true → ∃ t, exec .idleEnter s = .next t ∧
    t.rd Reg.PWR_STATUS_STATE = 1 ∧ Counted Reg.PWR_CNT_IDLE_ENTRIES 0 0 1 s t) ∧
  (∀ (s : State), s.idleReady = false → exec .idleEnter s = .next s) ∧
  (∀ (s : State), s.isOn Reg.PWR_STATUS_PERST = false → ∃ t, exec .perstAssert s = .next t ∧ t.rd Reg.PWR_STATUS_PERST = 1 ∧ t.rd
    Reg.HIF_LINK_UP = 0 ∧ t.rd Reg.HIF_LINK_HOLD = 0 ∧ t.tev.ptmOn = false) ∧
  (∀ (s : State), s.isOn Reg.PWR_STATUS_PERST = true → exec .perstAssert s = .next s) ∧
  (∀ (s : State), s.isOn Reg.PWR_STATUS_PERST = true → ∃ t, exec .perstDeassert s = .next t ∧ t.rd Reg.PWR_STATUS_PERST = 0) ∧
  (∀ (s : State), s.isOn Reg.PWR_STATUS_PERST = false → exec .perstDeassert s = .next s) ∧
  (∀ (target : Option Nat) (n : Nat) (s : State), s.runs .side = true → s.fwPresent = true → target = some n → n < 4 → ∃ t, exec
    (.bmcPowerRequest target) s = .next t ∧ t.rd Reg.PWR_CTL_TARGET = n ∧ t.pwr.cause = 2) ∧
  (∀ (target : Option Nat) (s : State), s.runs .side = true → s.fwPresent = false → exec (.bmcPowerRequest target) s = .next
    ({ s with pwr := { s.pwr with bmcWait := s.pwr.bmcWait ++ [target] } })) ∧
  (∀ (s : State), s.pwr.off = false → s.pwr.asleep = true → s.wakeEnabled 1 = true → exec .wakeIn s = .next
    ({ s with pwr := { s.pwr with wakeArisen := true, pendWake := s.pwr.pendWake ++ [1] } })) ∧
  (∀ (s : State), s.pwr.off = false → s.wakeEnabled 1 = false → exec .wakeIn s = .next s) ∧
  (∀ (s : State), s.isOn Reg.PWR_AON_TIMER_SECONDS = true → s.pwr.asleep = true → s.pwr.off = false → s.wakeEnabled 3 = true → exec .aonTimer
    s = .next ({ s with pwr := { s.pwr with wakeArisen := true, pendWake := s.pwr.pendWake ++ [3] } })) ∧
  (∀ (s : State), s.isOn Reg.PWR_AON_TIMER_SECONDS = false → exec .aonTimer s = .next s) ∧
  (∀ (n : Nat) (s : State), s.pwr.entering = true → s.pwr.sleepReq = [] → s.fwPresent = true → s.pwr.asleep = false → s.rd Reg.PWR_CTL_TARGET
    ≠ 3 → ∃ t, exec .deepSleepEntry s = .next t ∧ t.rd Reg.PWR_STATUS_STATE = 4 ∧ t.rd Reg.PWR_STATUS_LP_MODE = 1 ∧ Counted
    Reg.PWR_CNT_DEEP_ENTRIES 0 0 1 s t ∧ t.rd Reg.HG_STATUS_TXDIS 0 = 1 ∧ t.rd Reg.HG_STATUS_TXDIS 1 = 1 ∧ t.rd Reg.ADM_STATUS_FW_PRESENT = 0 ∧
    t.slot n = {} ∧ t.mbx.sw = []) ∧
  (∀ (s : State), s.pwr.entering = false → exec .deepSleepEntry s = .next s) ∧
  (∀ (ticks : Nat) (crcOk : Bool) (w : Nat) (s : State), s.rd Reg.PWR_STATUS_STATE = 4 → s.pwr.off = false → s.pwr.held = false →
    s.pwr.pendWake = [w] → w < 16 → crcOk = true → ∃ t, exec (.deepSleepExit ticks crcOk) s = .next t ∧ t.rd Reg.PWR_STATUS_STATE = 0 ∧ t.rd
    Reg.PWR_STATUS_LAST_WAKE = w) ∧
  (∀ (ticks : Nat) (crcOk : Bool) (w : Nat) (s : State), s.rd Reg.PWR_STATUS_STATE = 4 → s.pwr.off = false → s.pwr.held = false →
    s.pwr.pendWake = [w] → 1 ≤ w → w < 16 → crcOk = false → s.pwr.brownCell = false → ∃ t, exec (.deepSleepExit ticks crcOk) s = .next t ∧ t.rd
    Reg.PWR_RST_CAUSE = 4 ∧ t.rd Reg.PWR_STATUS_LAST_WAKE = w) ∧
  (∀ (ticks : Nat) (crcOk : Bool) (s : State), s.rd Reg.PWR_STATUS_STATE ≠ 4 → exec (.deepSleepExit ticks crcOk) s = .next s)

/-- A brown-out with PWR_GOOD high and the part not off is a cold start with cause 2, wake code 12, the flag and a count of one, and firmware
is absent; in off only the comparator's flag is set. PWR_GOOD falling, the part not off, holds the part in reset with cause 1, both
transmitters disabled and firmware absent, keeps the fuses and, when nothing is being written to it, the flash; rising on a part that had
power before, not off, with the reference and no brown-out flag, is a cold start with cause 1. A write of PWR_RST_CTL with the key by the
PF, which reaches it, of COLD alone is a cold start with cause 5, without a brown-out flag, and of WARM alone a warm reset with cause 6,
counted; without the key COLD does nothing, and without WARM alone no warm reset happens. A warm reset leaves firmware absent, and keeps
the link, the enable of every transmit ring, both legs' rogue latch, the time counter, the timers and the stream table. The warm reset that
an activation left due has cause 7, is counted, and counts the activation; none happens when none is due. The loss of a reference that was
there shows in REF_OK, as does its return, with PWR_GOOD high, where it also lets a start that waits go on; a loss where it was not there
changes nothing. A stable crystal shows. The fall of VDD_CORE, VDDH or VDDIO disables both transmitters. Shown to complete, under
conditions on the state and the operands alone: BROWN_OUT, PWR_GOOD_RISE, PWR_GOOD_FALL, COLD, WARM, ACTIVATE_WARM_RESET, REF_LOSS,
REF_RESTORED, XT32K_STABLE, RAIL_LOSS. Rests on R378, R379, R380, R382, R383, R385, R386, R423, 14_power_clocks_reset.md. -/
def Obligations.ResetsAndTheClocksSupervision : Prop :=
  (∀ (s : State), s.pwr.off = false → s.pwr.held = false → ∃ t, exec .brownOut s = .next t ∧ t.rd Reg.PWR_RST_CAUSE = 2 ∧ t.rd
    Reg.PWR_STATUS_BROWN_OUT = 1 ∧ t.rd Reg.PWR_STATUS_LAST_WAKE = 12 ∧ t.rd Reg.PWR_CNT_BROWN_OUTS = 1 ∧ t.rd Reg.ADM_STATUS_FW_PRESENT = 0) ∧
  (∀ (s : State), s.pwr.off = true → exec .brownOut s = .next ({ s with pwr := { s.pwr with brownCell := true } })) ∧
  (∀ (boot : BootInput) (s : State), s.pwr.held = true → s.pwr.off = false → s.pwr.poweredOnce = true → boot.refOk = true → s.pwr.brownCell =
    false → ∃ t, exec (.pwrGoodRise boot) s = .next t ∧ t.rd Reg.PWR_RST_CAUSE = 1 ∧ t.pwr.held = false ∧ t.rd Reg.PWR_STATUS_REF_OK = 1) ∧
  (∀ (boot : BootInput) (s : State), s.pwr.held = false → exec (.pwrGoodRise boot) s = .next s) ∧
  (∀ (s : State), s.pwr.off = false → ∃ t, exec .pwrGoodFall s = .next t ∧ t.pwr.held = true ∧ t.rd Reg.PWR_RST_CAUSE = 1 ∧ t.rd
    Reg.HG_STATUS_TXDIS 0 = 1 ∧ t.rd Reg.HG_STATUS_TXDIS 1 = 1 ∧ t.rd Reg.ADM_STATUS_FW_PRESENT = 0 ∧ (s.fw.flash.going = none → t.fw.flash =
    s.fw.flash) ∧ t.fw.fuse = s.fw.fuse) ∧
  (∀ (ag : Agent) (v : BitVec 32) (s : State), ag = .pf → s.reach .pf = true → v.toNat % 4 = 2 → bits v.toNat 15 8 = 0xC5 → s.pwr.brownCell =
    false → ∃ t, exec (.cold ag v) s = .next t ∧ t.rd Reg.PWR_RST_CAUSE = 5 ∧ t.rd Reg.ADM_STATUS_FW_PRESENT = 0) ∧
  (∀ (ag : Agent) (v : BitVec 32) (s : State), bits v.toNat 15 8 ≠ 0xC5 → exec (.cold ag v) s = .next s) ∧
  (∀ (ag : Agent) (v : BitVec 32) (q : Nat) (s : State), ag = .pf → s.reach .pf = true → v.toNat % 4 = 1 → bits v.toNat 15 8 = 0xC5 → ∃ t,
    exec (.warm ag v) s = .next t ∧ t.rd Reg.PWR_RST_CAUSE = 6 ∧ Counted Reg.PWR_CNT_WARM_RESETS 0 0 1 s t ∧ t.rd Reg.ADM_STATUS_FW_PRESENT = 0
    ∧ t.rd Reg.HIF_LINK_UP = s.rd Reg.HIF_LINK_UP ∧ t.rd Reg.HIF_TX_CTL_EN 0 q = s.rd Reg.HIF_TX_CTL_EN 0 q ∧ t.rd Reg.HG_STATUS_ROGUE 0 = s.rd
    Reg.HG_STATUS_ROGUE 0 ∧ t.rd Reg.HG_STATUS_ROGUE 1 = s.rd Reg.HG_STATUS_ROGUE 1 ∧ t.cls.streams = s.cls.streams ∧ t.tev = s.tev ∧ t.time =
    s.time) ∧
  (∀ (ag : Agent) (v : BitVec 32) (s : State), v.toNat % 4 ≠ 1 → exec (.warm ag v) s = .next s) ∧
  (∀ (s : State), s.fw.warmAt = true → ∃ t, exec .activateWarmReset s = .next t ∧ t.rd Reg.PWR_RST_CAUSE = 7 ∧ Counted
    Reg.PWR_CNT_WARM_RESETS 0 0 1 s t ∧ Counted Reg.FW_CNT_ACTIVATIONS 0 0 1 s t) ∧
  (∀ (s : State), s.fw.warmAt = false → exec .activateWarmReset s = .next s) ∧
  (∀ (s : State), s.isOn Reg.PWR_STATUS_REF_OK = true → ∃ t, exec .refLoss s = .next t ∧ t.rd Reg.PWR_STATUS_REF_OK = 0) ∧
  (∀ (s : State), s.isOn Reg.PWR_STATUS_REF_OK = false → exec .refLoss s = .next s) ∧
  (∀ (s : State), s.pwr.held = false → s.pwr.bootWait = false → ∃ t, exec .refRestored s = .next t ∧ t.rd Reg.PWR_STATUS_REF_OK = 1) ∧
  (∀ (s : State), s.pwr.held = false → s.pwr.bootWait = true → ∃ t, exec .refRestored s = .next t ∧ t.rd Reg.PWR_STATUS_REF_OK = 1 ∧
    t.pwr.bootWait = false) ∧
  (∀ (s : State), exec .xt32kStable s = .next (s.wr Reg.PWR_STATUS_XT_OK 1)) ∧
  (∀ (rail : Rail) (s : State), rail = .vddCore ∨ rail = .vddh ∨ rail = .vddio → ∃ t, exec (.railLoss rail) s = .next t ∧ t.rd
    Reg.HG_STATUS_TXDIS 0 = 1 ∧ t.rd Reg.HG_STATUS_TXDIS 1 = 1)

/-- A response in its place that passes R64 and is no duplicate, with firmware present, closes the request with its TXID, if that asks for
neither a wake nor a sleep, and leaves every register field; one to no request leaves requests, fields and output. A request that was sent,
is not due, and is no WAKE is marked to be sent again on its leg with the same TXID and one retry more, if it has retries left; one with
none left, and no SLEEP, is given up; a TXID of no request does nothing. A SLEEP with OP = 1 in its place that passes R64 and is no
duplicate, with firmware present and on a leg with a terminal number: of a cycle of 2 to 16 and an EFF_SFC inside the window, with TARGET
SLEEP, a cause of the move and no wake cause since, it is held, its cycle, superframe and leg show, and it is acknowledged OK; of another
cycle it is acknowledged INVALID, and power state and register fields stay; with TARGET not SLEEP or no cause it is acknowledged DENIED and
the power state stays. One with OP = 0 and an EFF_SFC inside the window withdraws the grant and is acknowledged OK. At or after the granted
superframe of the kept leg sleep starts, awake, with SLEEP shown, and is counted with its first awake superframe; without a grant it does
not start. In sleep the terminal dozes at the end of frame 7 of an awake superframe, wakes when LEAD_US before frame 6 of the superframe
before an awake one has come, which is counted, and does neither out of sleep. A wake cause that has arisen in this sleep ends it: RUN
shows with the cause's code; without sleep nothing ends. With firmware present, TARGET SLEEP, a cause of the move, nothing under way,
RETRY_S passed, leg A RANGED and leg B not, a sleep is asked for again with a new request on leg A, and no register field changes; without
firmware it is not. Shown to complete, under conditions on the state and the operands alone: RESPONSE, REQUEST_RETRY_TIMER, SLEEP,
SLEEP_START, AWAKE_START, DOZE_START, SLEEP_ENDED, SLEEP_RETRY. Rests on R70, R71, R369, R370, R371, R372, R373, 14_power_clocks_reset.md. -/
def Obligations.RequestsAndTheSleepCycle : Prop :=
  (∀ (l : Leg) (msg : BitVec 384) (q : Req) (s : State), Hears s l → s.takes l 0x0E msg false 0 = true → s.fwPresent = true → s.reqs.find?
    (fun q => q.txid == msgTxid msg) = some q → q.code ≠ 1 → q.code ≠ 2 → ∃ t, exec (.response l msg) s = .next t ∧ t.reqs = s.reqs.filter (fun
    p => p.txid != q.txid) ∧ t.regs = s.regs) ∧
  (∀ (l : Leg) (msg : BitVec 384) (s : State), Hears s l → s.takes l 0x0E msg false 0 = true → s.fwPresent = true → s.reqs.find? (fun q =>
    q.txid == msgTxid msg) = none → ∃ t, exec (.response l msg) s = .next t ∧ t.reqs = s.reqs ∧ t.regs = s.regs ∧ t.out = s.out) ∧
  (∀ (txid : Nat) (q : Req) (s : State), s.reqs.find? (fun q => q.txid == txid) = some q → q.code ≠ 1 → q.due = false → q.sent = true →
    q.retries < s.rd Reg.LINE_REQ_CTL_RETRIES q.leg.n → ∃ t, exec (.requestRetryTimer txid) s = .next t ∧ t.reqs = s.reqs.map (fun p => if
    p.txid = q.txid then { p with leg := q.leg, retries := p.retries + 1, due := true } else p) ∧ t.regs = s.regs) ∧
  (∀ (txid : Nat) (q : Req) (s : State), s.reqs.find? (fun q => q.txid == txid) = some q → q.code ≠ 1 → q.due = false → q.sent = true →
    q.code ≠ 2 → s.rd Reg.LINE_REQ_CTL_RETRIES q.leg.n ≤ q.retries → ∃ t, exec (.requestRetryTimer txid) s = .next t ∧ t.reqs = s.reqs.filter
    fun p => p.txid != txid) ∧
  (∀ (txid : Nat) (s : State), s.reqs.find? (fun q => q.txid == txid) = none → exec (.requestRetryTimer txid) s = .next s) ∧
  (∀ (l : Leg) (msg : BitVec 384) (s : State), Hears s l → s.takes l 0x0C msg false 0 = true → s.fwPresent = true → s.hasTn l = true → mfield
    msg 6 1 % 2 = 1 → 2 ≤ mfield msg 7 2 → mfield msg 7 2 ≤ 16 → s.rd Reg.PWR_CTL_TARGET = 1 → s.pwr.cause ≠ 0 → s.pwr.wakeArisen = false →
    s.effOk l (mfield msg 9 6) = true → ∃ t, exec (.sleep l msg) s = .next t ∧ t.pwr.granted = some (mfield msg 7 2, mfield msg 9 6) ∧ t.rd
    Reg.PWR_SLEEP_CTL_CYCLE_SF = mfield msg 7 2 ∧ t.rd Reg.PWR_STATUS_KEPT_LEG = l.n ∧ t.rd2 Reg.PWR_SLEEP_EFF_LO Reg.PWR_SLEEP_EFF_HI = mfield
    msg 9 6 ∧ Acked l msg 0x0C 0 s t) ∧
  (∀ (l : Leg) (msg : BitVec 384) (s : State), Hears s l → s.takes l 0x0C msg false 0 = true → s.fwPresent = true → s.hasTn l = true → mfield
    msg 6 1 % 2 = 1 → mfield msg 7 2 < 2 ∨ 16 < mfield msg 7 2 → ∃ t, exec (.sleep l msg) s = .next t ∧ Acked l msg 0x0C 2 s t ∧ t.pwr = s.pwr
    ∧ t.regs = s.regs) ∧
  (∀ (l : Leg) (msg : BitVec 384) (s : State), Hears s l → s.takes l 0x0C msg false 0 = true → s.fwPresent = true → s.hasTn l = true → mfield
    msg 6 1 % 2 = 1 → 2 ≤ mfield msg 7 2 → mfield msg 7 2 ≤ 16 → s.rd Reg.PWR_CTL_TARGET ≠ 1 ∨ s.pwr.cause = 0 → ∃ t, exec (.sleep l msg) s =
    .next t ∧ Acked l msg 0x0C 3 s t ∧ t.pwr = s.pwr) ∧
  (∀ (l : Leg) (msg : BitVec 384) (s : State), Hears s l → s.takes l 0x0C msg false 0 = true → s.fwPresent = true → s.hasTn l = true → mfield
    msg 6 1 % 2 = 0 → s.effOk l (mfield msg 9 6) = true → ∃ t, exec (.sleep l msg) s = .next t ∧ t.pwr.granted = none ∧ Acked l msg 0x0C 0 s t) ∧
  (∀ (c e : Nat) (s : State), s.pwr.granted = some (c, e) → 8 * e ≤ s.d0Key s.kept → s.pwr.asleep = false → ∃ t, exec .sleepStart s = .next t
    ∧ t.pwr.asleep = true ∧ t.pwr.awake = true ∧ t.pwr.granted = none ∧ t.rd Reg.PWR_STATUS_STATE = 3 ∧ Counted Reg.PWR_CNT_SLEEP_ENTRIES 0 0 1
    s t ∧ Counted Reg.PWR_CNT_AWAKE_SF 0 0 1 s t) ∧
  (∀ (s : State), s.pwr.granted = none → exec .sleepStart s = .next s) ∧
  (∀ (s : State), s.pwr.asleep = true → s.pwr.awake = false → s.awakeSf ((s.d0Key s.kept + s.leadFrames + 2) / 8) = true → ∃ t, exec
    .awakeStart s = .next t ∧ t.pwr.awake = true ∧ t.rd Reg.PWR_STATUS_STATE = 3 ∧ Counted Reg.PWR_CNT_AWAKE_SF 0 0 1 s t) ∧
  (∀ (s : State), s.pwr.asleep = false → exec .awakeStart s = .next s) ∧
  (∀ (s : State), s.pwr.asleep = true → s.pwr.awake = true → s.d0Key s.kept % 8 = 7 → s.awakeSf (s.d0Key s.kept / 8) = true → ∃ t, exec
    .dozeStart s = .next t ∧ t.pwr.awake = false ∧ t.rd Reg.PWR_STATUS_STATE = 2) ∧
  (∀ (s : State), s.pwr.asleep = false → exec .dozeStart s = .next s) ∧
  (∀ (code : Nat) (s : State), s.pwr.asleep = true → has s.pwr.pendWake code = true → code < 16 → ∃ t, exec (.sleepEnded code) s = .next t ∧
    t.pwr.asleep = false ∧ t.rd Reg.PWR_STATUS_STATE = 0 ∧ t.rd Reg.PWR_STATUS_LAST_WAKE = code) ∧
  (∀ (code : Nat) (s : State), s.pwr.asleep = false → exec (.sleepEnded code) s = .next s) ∧
  (∀ (s : State), s.fwPresent = true → s.rd Reg.PWR_CTL_TARGET = 1 → s.pwr.cause ≠ 0 → s.moveIdle = true → s.retryDue = true → s.rd
    Reg.ACT_STATUS_STATE 0 = 5 → s.rd Reg.ACT_STATUS_STATE 1 ≠ 5 → ∃ t, exec .sleepRetry s = .next t ∧ t.reqs = s.reqs ++
    [{ txid := s.txid, leg := .a, code := 2, msg := mkMsg 0x83 s.txid (2 :: BitVec.ofNat 8 (b2n (s.active == .a)) :: beBytes 2 s.cycleReq) }] ∧
    t.pwr.sleepReq = [s.txid] ∧ t.regs = s.regs) ∧
  (∀ (s : State), s.fwPresent = false → exec .sleepRetry s = .next s)

/-- A module inserted or removed shows in PRESENT; removal clears ID_VALID and ends bring-up; a level that stands changes nothing. With
firmware present, the identity of a module that is there, of revision 0x50 or above, shows with ID_VALID, its revision and the first word
of its serial number, and where the first life record alone is valid laser 0's burst-on counter resumes from it with a known history; with
a lower revision only ID_VALID changes, to 0. A write of OPT_CTL by an agent that reaches it, with LANES_EN = 1 on an identified module at
rest, starts bring-up, sets AUTO_RETRY as written and clears the locks; with LANES_EN = 0 it ends bring-up and the locks. A detecting lane
that locks as the last of four shows in CDR_LOCK, and LOCKING becomes DESKEW; a lane that does not detect locks nothing. A failed attempt
without LOS, in LOCKING or DESKEW, ends, is counted, and FAILS counts to 3; in the aligned state nothing fails. A retry with LANES_EN and
AUTO_RETRY on an identified module at rest after one or two failures starts a new attempt and keeps FAILS; without AUTO_RETRY none starts.
SLIP by an agent that reaches it, where it is allowed, sets the wave's slip, is counted and clears ALIGNED; by the PF on an enabled leg it
does nothing. REHUNT of wave D3 by an agent that reaches it, where it is allowed, is counted and clears ALIGNED; of no wave it does
nothing. Shown to complete, under conditions on the state and the operands alone: MODULE_PRESENCE, MODULE_IDENTITY_READ, BRINGUP_START,
CDR_LOCK, BRINGUP_ATTEMPT_FAIL, BRINGUP_RETRY, SLIP_WRITE, REHUNT. Rests on R390, R394, R395, R396, R397, R402, R404,
15_optical_modules.md. -/
def Obligations.ModulesComeUp : Prop :=
  (∀ (l : Leg) (present : Bool) (s : State), present = true → s.isOn Reg.OPT_STATUS_PRESENT l.n = false → ∃ t, exec (.modulePresence l
    present) s = .next t ∧ t.rd Reg.OPT_STATUS_PRESENT l.n = 1) ∧
  (∀ (l : Leg) (present : Bool) (s : State), present = false → s.isOn Reg.OPT_STATUS_PRESENT l.n = true → ∃ t, exec (.modulePresence l
    present) s = .next t ∧ t.rd Reg.OPT_STATUS_PRESENT l.n = 0 ∧ t.rd Reg.OPT_STATUS_ID_VALID l.n = 0 ∧ t.rd Reg.OPT_STATUS_BRINGUP l.n = 0) ∧
  (∀ (l : Leg) (present : Bool) (s : State), present = false → s.isOn Reg.OPT_STATUS_PRESENT l.n = false → exec (.modulePresence l present) s
    = .next s) ∧
  (∀ (l : Leg) (id : ModuleId) (s : State), s.isOn Reg.OPT_STATUS_PRESENT l.n = true → s.fwPresent = true → 0x50 ≤ id.cmisRev → id.cmisRev <
    2 ^ Reg.OPT_ID_CMIS_CMIS_REV.width → lifeOk (slice id.life 0 32) = true → lifeOk (slice id.life 32 32) = false → ∃ t, exec
    (.moduleIdentityRead l id) s = .next t ∧ t.rd Reg.OPT_STATUS_ID_VALID l.n = 1 ∧ t.rd Reg.OPT_ID_CMIS_CMIS_REV l.n = id.cmisRev ∧ t.rd
    Reg.OPT_ID_SERIAL l.n 0 = leNat (slice id.serial 0 4) % 2 ^ 32 ∧ t.rd Reg.OPT_LIFE_ON_NS l.n 0 = leNat (slice (slice id.life 0 32) 0 8) % 2
    ^ 64 ∧ t.rd Reg.OPT_STATUS_HIST_UNKNOWN l.n = 0) ∧
  (∀ (l : Leg) (id : ModuleId) (s : State), s.isOn Reg.OPT_STATUS_PRESENT l.n = true → s.fwPresent = true → id.cmisRev < 0x50 → exec
    (.moduleIdentityRead l id) s = .next (s.wr Reg.OPT_STATUS_ID_VALID 0 l.n)) ∧
  (∀ (ag : Agent) (l : Leg) (v : BitVec 32) (s : State), s.reach ag = true → bit v.toNat 0 = 1 → s.rd Reg.OPT_STATUS_BRINGUP l.n = 0 →
    s.moduleReady l = true → ∃ t, exec (.bringupStart ag l v) s = .next t ∧ t.rd Reg.OPT_STATUS_BRINGUP l.n = 1 ∧ t.rd Reg.OPT_CTL_LANES_EN l.n
    = 1 ∧ t.rd Reg.OPT_CTL_AUTO_RETRY l.n = bit v.toNat 1 ∧ t.rd Reg.OPT_STATUS_CDR_LOCK l.n = 0) ∧
  (∀ (ag : Agent) (l : Leg) (v : BitVec 32) (s : State), s.reach ag = true → bit v.toNat 0 = 0 → ∃ t, exec (.bringupStart ag l v) s = .next t
    ∧ t.rd Reg.OPT_STATUS_BRINGUP l.n = 0 ∧ t.rd Reg.OPT_CTL_LANES_EN l.n = 0 ∧ t.rd Reg.OPT_STATUS_CDR_LOCK l.n = 0) ∧
  (∀ (l : Leg) (w : Nat) (s : State), w < 4 → s.detecting l w = true → s.rd Reg.OPT_STATUS_CDR_LOCK l.n = 15 - 2 ^ w → s.rd
    Reg.OPT_STATUS_BRINGUP l.n = 1 → ∃ t, exec (.cdrLock l w) s = .next t ∧ t.rd Reg.OPT_STATUS_CDR_LOCK l.n = 15 ∧ t.rd Reg.OPT_STATUS_BRINGUP
    l.n = 2) ∧
  (∀ (l : Leg) (w : Nat) (s : State), s.detecting l w = false → exec (.cdrLock l w) s = .next s) ∧
  (∀ (l : Leg) (s : State), s.rd Reg.OPT_STATUS_BRINGUP l.n = 1 ∨ s.rd Reg.OPT_STATUS_BRINGUP l.n = 2 → s.isOn Reg.PROT_DEF_LOS l.n = false →
    ∃ t, exec (.bringupAttemptFail l) s = .next t ∧ t.rd Reg.OPT_STATUS_BRINGUP l.n = 0 ∧ Counted Reg.OPT_CNT_BRINGUP_FAILS l.n 0 1 s t ∧ t.rd
    Reg.OPT_STATUS_FAILS l.n = min (s.rd Reg.OPT_STATUS_FAILS l.n + 1) 3) ∧
  (∀ (l : Leg) (s : State), s.rd Reg.OPT_STATUS_BRINGUP l.n = 3 → exec (.bringupAttemptFail l) s = .next s) ∧
  (∀ (l : Leg) (s : State), s.isOn Reg.OPT_CTL_LANES_EN l.n = true → s.isOn Reg.OPT_CTL_AUTO_RETRY l.n = true → s.rd Reg.OPT_STATUS_BRINGUP
    l.n = 0 → s.moduleReady l = true → 1 ≤ s.rd Reg.OPT_STATUS_FAILS l.n → s.rd Reg.OPT_STATUS_FAILS l.n < 3 → ∃ t, exec (.bringupRetry l) s =
    .next t ∧ t.rd Reg.OPT_STATUS_BRINGUP l.n = 1 ∧ t.rd Reg.OPT_STATUS_FAILS l.n = s.rd Reg.OPT_STATUS_FAILS l.n) ∧
  (∀ (l : Leg) (s : State), s.isOn Reg.OPT_CTL_AUTO_RETRY l.n = false → exec (.bringupRetry l) s = .next s) ∧
  (∀ (ag : Agent) (l : Leg) (w : Nat) (slip : Nat) (s : State), s.reach ag = true → w < 4 → s.mayDeskew ag l = true → ∃ t, exec (.slipWrite
    ag l w slip) s = .next t ∧ t.rd Reg.OPT_DSK_SLIP l.n w = slip % 64 ∧ Counted Reg.OPT_CNT_SLIPS l.n 0 1 s t ∧ t.rd Reg.OPT_DSK_CMD_ALIGNED
    l.n = 0) ∧
  (∀ (ag : Agent) (l : Leg) (w : Nat) (slip : Nat) (s : State), ag = .pf → s.isOn Reg.ACT_CTL_ENABLE l.n = true → exec (.slipWrite ag l w
    slip) s = .next s) ∧
  (∀ (ag : Agent) (l : Leg) (mask : Nat) (s : State), s.reach ag = true → mask % 16 = 8 → s.mayDeskew ag l = true → ∃ t, exec (.rehunt ag l
    mask) s = .next t ∧ Counted Reg.OPT_CNT_REHUNTS l.n 0 1 s t ∧ t.rd Reg.OPT_DSK_CMD_ALIGNED l.n = 0) ∧
  (∀ (ag : Agent) (l : Leg) (mask : Nat) (s : State), s.reach ag = true → mask % 16 = 0 → exec (.rehunt ag l mask) s = .next s)

/-- A microsecond with more clipped samples than THRESH, at least 1, of a detecting wave whose frame is not yet marked shows in RXOVL, is
counted and marks the frame; one with no more than THRESH changes nothing. An acknowledged safety poll that finds a module present, no
transmit fault and the module ready, no bus failure before it, and that no interrupt brought and no telemetry read met, is counted, ages
the telemetry by a millisecond to its limit, and counts no fault. One that finds a transmit fault where no cause stood sets FAULT and bit 0
of CAUSE, forces transmit disable and counts a fault. One not acknowledged, met by no telemetry read, counts as a bus error and as no poll.
An interrupt of the module makes a poll due and changes nothing else. With firmware present and the module identified: telemetry shows the
module's temperature, laser 0's bias and every wave's received power, at age 0; a life record goes out to the copy whose turn it is, with
its CRC, and when acknowledged is counted, its count goes up by one modulo 256 and the other copy's turn comes; not acknowledged it is a
bus error and the count and the turn stay; a bias sample within 2 degrees of the reference temperature joins laser 0's samples with its
burst-on time, and both lasers' burst-on times join the day's log. Telemetry of a module that is not identified, or without firmware, and a
sample of a module that is not identified change nothing. Shown to complete, under conditions on the state and the operands alone: RXOVL,
SAFETY_POLL, MODULE_INTERRUPT, TELEMETRY_READ, LIFE_RECORD_WRITE, BIAS_SAMPLE. Rests on R398, R401, R402, R403, R404, R405,
15_optical_modules.md. -/
def Obligations.ModulesAreWatchedAndAccounted : Prop :=
  (∀ (l : Leg) (w : Nat) (clipped : Nat) (s : State), w < 4 → s.detecting l w = true → max 1 (s.rd Reg.OPT_OVL_CTL_THRESH l.n) < clipped →
    (s.wave l w).rxovl = false → ∃ t, exec (.rxovl l w clipped) s = .next t ∧ bit (t.rd Reg.OPT_STATUS_RXOVL l.n) w = 1 ∧ Counted
    Reg.OPT_CNT_OVL_FRAMES l.n 0 1 s t ∧ (t.wave l w).rxovl = true) ∧
  (∀ (l : Leg) (w : Nat) (clipped : Nat) (s : State), clipped ≤ s.rd Reg.OPT_OVL_CTL_THRESH l.n → exec (.rxovl l w clipped) s = .next s) ∧
  (∀ (l : Leg) (ack : Bool) (txFault : Bool) (ready : Bool) (duringTelem : Bool) (s : State), ack = true → txFault = false → ready = true →
    duringTelem = false → s.isOn Reg.OPT_STATUS_PRESENT l.n = true → (s.leg l).pollDue = false → (s.leg l).pollFail < 3 → ∃ t, exec
    (.safetyPoll l ack txFault ready duringTelem) s = .next t ∧ Counted Reg.OPT_CNT_SAFETY_POLLS l.n 0 1 s t ∧ t.rd Reg.OPT_TELEM_AGE_AGE_MS
    l.n = min (s.rd Reg.OPT_TELEM_AGE_AGE_MS l.n + 1) (2 ^ Reg.OPT_TELEM_AGE_AGE_MS.width - 1) ∧ t.rd Reg.OPT_CNT_SAFETY_FAULTS l.n = s.rd
    Reg.OPT_CNT_SAFETY_FAULTS l.n) ∧
  (∀ (l : Leg) (ack : Bool) (txFault : Bool) (ready : Bool) (duringTelem : Bool) (s : State), ack = true → txFault = true → s.rd
    Reg.OPT_SAFE_CAUSE l.n = 0 → ∃ t, exec (.safetyPoll l ack txFault ready duringTelem) s = .next t ∧ t.rd Reg.OPT_SAFE_FAULT l.n = 1 ∧ bit
    (t.rd Reg.OPT_SAFE_CAUSE l.n) 0 = 1 ∧ t.isOn Reg.HG_CTL_FORCE_TXDIS l.n = true ∧ Counted Reg.OPT_CNT_SAFETY_FAULTS l.n 0 1 s t) ∧
  (∀ (l : Leg) (ack : Bool) (txFault : Bool) (ready : Bool) (duringTelem : Bool) (s : State), ack = false → duringTelem = false → ∃ t, exec
    (.safetyPoll l ack txFault ready duringTelem) s = .next t ∧ Counted Reg.OPT_CNT_BUS_ERRORS l.n 0 1 s t ∧ t.rd Reg.OPT_CNT_SAFETY_POLLS l.n
    = s.rd Reg.OPT_CNT_SAFETY_POLLS l.n) ∧
  (∀ (l : Leg) (s : State), exec (.moduleInterrupt l) s = .next (s.upd l fun g => { g with pollDue := true })) ∧
  (∀ (l : Leg) (m : Telemetry) (w : Nat) (s : State), s.moduleReady l = true → s.fwPresent = true → m.modTemp < 2 ^ 16 → m.bias0 < 2 ^ 16 → w
    < 4 → m.rxPower.get w < 2 ^ 16 → ∃ t, exec (.telemetryRead l m) s = .next t ∧ t.rd Reg.OPT_TELEM_TEMP_MOD_TEMP l.n = m.modTemp ∧ t.rd
    Reg.OPT_TELEM_BIAS l.n 0 = m.bias0 ∧ t.rd Reg.OPT_TELEM_RXP_RX_POWER l.n w = m.rxPower.get w ∧ t.rd Reg.OPT_TELEM_AGE_AGE_MS l.n = 0) ∧
  (∀ (l : Leg) (m : Telemetry) (s : State), s.moduleReady l = false ∨ s.fwPresent = false → exec (.telemetryRead l m) s = .next s) ∧
  (∀ (l : Leg) (acked : Bool) (s : State), acked = true → s.moduleReady l = true → s.fwPresent = true → ∃ t, exec (.lifeRecordWrite l acked)
    s = .next t ∧ t.out = s.out ++ [.moduleWrite l 3 (128 + 32 * (s.leg l).lifeCopy) (s.lifeBody l ++ beBytes 2 (crc16 (byteBits (s.lifeBody
    l))))] ∧ Counted Reg.OPT_CNT_PAGE_WRITES l.n 0 1 s t ∧ (t.leg l).lifeCount = ((s.leg l).lifeCount + 1) % 256 ∧ (t.leg l).lifeCopy = 1 -
    (s.leg l).lifeCopy) ∧
  (∀ (l : Leg) (acked : Bool) (s : State), acked = false → s.moduleReady l = true → s.fwPresent = true → ∃ t, exec (.lifeRecordWrite l acked)
    s = .next t ∧ Counted Reg.OPT_CNT_BUS_ERRORS l.n 0 1 s t ∧ (t.leg l).lifeCount = (s.leg l).lifeCount ∧ (t.leg l).lifeCopy = (s.leg
    l).lifeCopy) ∧
  (∀ (l : Leg) (s : State), s.moduleReady l = true → s.fwPresent = true → (signed 16 (s.rd Reg.OPT_TELEM_LASER_LASER_T l.n 0) - signed 16
    (s.rd Reg.TIME_LEG_LASER_REF_T_REF l.n)).natAbs ≤ 512 → ∃ t, exec (.biasSample l) s = .next t ∧ (t.leg l).bias0.head? = some (s.rd
    Reg.OPT_LIFE_ON_NS l.n 0, s.rd Reg.OPT_TELEM_BIAS l.n 0) ∧ (t.leg l).onLog.head? = some (s.rd Reg.OPT_LIFE_ON_NS l.n 0, s.rd
    Reg.OPT_LIFE_ON_NS l.n 1)) ∧
  (∀ (l : Leg) (s : State), s.moduleReady l = false → exec (.biasSample l) s = .next s)

/-- By an agent that reaches the registers: a write to a word of the LINE, MEM or EVT window puts each RW field to its bits and sends nothing,
and leaves each RO field; one to a word of the PWR window but PWR_RST_CTL clears each W1C field by its ones and puts each RWS field to its
bits; with the cipher's LOCK set a write of CIPH_PART keeps its line slots and LOCK, and with LOCK clear it puts the line slots. The BMC
writes nothing, and a management core's write at an address that is not aligned changes nothing. By an agent that reaches the registers: an
aligned read of the GEN or MEM window answers its word, and of a window that is not used, zero; either changes no register field. An
aligned read of a LINE word that is not itself latched but latches another answers its word and latches the other for the agent, and
changes no register field; a read of a latched word answers the latch. While PCIe runs, a BAR access of another form by a function in D0
whose error log has room is logged with code 7, with the value of a write; a write sends nothing, a read of that form answers zero, and no
register field changes. Shown to complete, under conditions on the state and the operands alone: REGISTER_WRITE, REGISTER_ACCESS,
LATCHED_READ, BAR_ACCESS. Rests on R8, R9, R72, R406, R407, R408, R409, 16_register_map_and_wrap.md. -/
def Obligations.RegistersAreWrittenByTheirTypes : Prop :=
  (∀ (ag : Agent) (addr : Nat) (v : BitVec 32) (R : Row) (l i : Nat) (s : State), s.reach ag = true → addr % 4 = 0 → addr / 65536 = 0x02 ∨
    addr / 65536 = 0x03 ∨ addr / 65536 = 0x33 ∨ addr / 65536 = 0x34 → R ∈ windowRows addr → Row.reach R addr = some (l, i, false) → R.ty = .rw
    → ∃ t, exec (.registerWrite ag addr v) s = .next t ∧ t.rd R l i = v.toNat / 2 ^ R.lo % 2 ^ R.width ∧ t.out = s.out) ∧
  (∀ (ag : Agent) (addr : Nat) (v : BitVec 32) (R : Row) (l i : Nat) (s : State), s.reach ag = true → addr % 4 = 0 → addr / 65536 = 0x01 →
    addr ≠ 0x010020 → R ∈ windowRows addr → Row.reach R addr = some (l, i, false) → R.ty = .w1c → ∃ t, exec (.registerWrite ag addr v) s =
    .next t ∧ t.rd R l i = s.rd R l i - Nat.land (s.rd R l i) (v.toNat / 2 ^ R.lo % 2 ^ R.width)) ∧
  (∀ (ag : Agent) (addr : Nat) (v : BitVec 32) (R : Row) (l i : Nat) (s : State), s.reach ag = true → addr % 4 = 0 → addr / 65536 = 0x01 →
    addr ≠ 0x010020 → R ∈ windowRows addr → Row.reach R addr = some (l, i, false) → R.ty = .rws → ∃ t, exec (.registerWrite ag addr v) s =
    .next t ∧ t.rd R l i = v.toNat / 2 ^ R.lo % 2 ^ R.width) ∧
  (∀ (ag : Agent) (addr : Nat) (v : BitVec 32) (R : Row) (l i : Nat) (s : State), s.reach ag = true → addr % 4 = 0 → addr / 65536 = 0x02 ∨
    addr / 65536 = 0x03 ∨ addr / 65536 = 0x33 ∨ addr / 65536 = 0x34 → R ∈ windowRows addr → Row.reach R addr = some (l, i, false) → R.ty = .ro
    → ∃ t, exec (.registerWrite ag addr v) s = .next t ∧ t.rd R l i = s.rd R l i) ∧
  (∀ (ag : Agent) (addr : Nat) (v : BitVec 32) (s : State), s.reach ag = true → addr = 0x0B0008 → s.isOn Reg.CIPH_PART_LOCK = true → ∃ t,
    exec (.registerWrite ag addr v) s = .next t ∧ t.rd Reg.CIPH_PART_LINE_SLOTS = s.rd Reg.CIPH_PART_LINE_SLOTS ∧ t.rd Reg.CIPH_PART_LOCK = 1) ∧
  (∀ (ag : Agent) (addr : Nat) (v : BitVec 32) (s : State), s.reach ag = true → addr = 0x0B0008 → s.isOn Reg.CIPH_PART_LOCK = false → ∃ t,
    exec (.registerWrite ag addr v) s = .next t ∧ t.rd Reg.CIPH_PART_LINE_SLOTS = v.toNat / 2 ^ Reg.CIPH_PART_LINE_SLOTS.lo % 2 ^
    Reg.CIPH_PART_LINE_SLOTS.width) ∧
  (∀ (ag : Agent) (addr : Nat) (v : BitVec 32) (s : State), ag = .bmc → exec (.registerWrite ag addr v) s = .next s) ∧
  (∀ (ag : Agent) (addr : Nat) (v : BitVec 32) (s : State), ag.isFw = true → addr % 4 ≠ 0 → exec (.registerWrite ag addr v) s = .next s) ∧
  (∀ (ag : Agent) (addr : Nat) (s : State), s.reach ag = true → addr % 4 = 0 → addr / 65536 = 0x00 ∨ addr / 65536 = 0x33 → ∃ t, exec
    (.registerAccess ag addr) s = .next t ∧ t.out = s.out ++ [.regRead addr (s.regWord ag addr)] ∧ t.regs = s.regs) ∧
  (∀ (ag : Agent) (addr : Nat) (s : State), s.reach ag = true → addr % 4 = 0 → 0x35 ≤ addr / 65536 → addr / 65536 < 0x40 → ∃ t, exec
    (.registerAccess ag addr) s = .next t ∧ t.out = s.out ++ [.regRead addr 0] ∧ t.regs = s.regs) ∧
  (∀ (ag : Agent) (addr : Nat) (h : Nat) (s : State), s.reach ag = true → addr % 4 = 0 → addr / 65536 = 0x02 ∨ addr / 65536 = 0x03 → latchSet
    addr = [h] → isLatched addr = false → ∃ t, exec (.latchedRead ag addr) s = .next t ∧ Tab.get 0 (latchKey ag h) t.latches = s.regWord ag h ∧
    t.out = s.out ++ [.regRead addr (s.regWord ag addr)] ∧ t.regs = s.regs) ∧
  (∀ (ag : Agent) (addr : Nat) (s : State), s.reach ag = true → addr % 4 = 0 → addr / 65536 = 0x02 ∨ addr / 65536 = 0x03 → latchSet addr = []
    → isLatched addr = true → ∃ t, exec (.registerAccess ag addr) s = .next t ∧ t.out = s.out ++ [.regRead addr (Tab.get 0 (latchKey ag addr)
    s.latches)] ∧ t.regs = s.regs) ∧
  (∀ (f : Nat) (write : Bool) (v : BitVec 64) (s : State), s.runs .pcie = true → s.cfg f Cfg.d3hot = 0 → f ≤ 128 → write = true → (Tab.get []
    f s.host.errs).length < 64 → ∃ t, exec (.barAccess f write v) s = .next t ∧ Tab.get [] f t.host.errs = Tab.get [] f s.host.errs ++ [(7,
    v.toNat % 2 ^ 32, s.secNow % 2 ^ 32, s.nsNow % 1000000000)] ∧ t.regs = s.regs ∧ t.out = s.out) ∧
  (∀ (f : Nat) (write : Bool) (v : BitVec 64) (s : State), s.runs .pcie = true → s.cfg f Cfg.d3hot = 0 → f ≤ 128 → write = false → (Tab.get
    [] f s.host.errs).length < 64 → ∃ t, exec (.barAccess f write v) s = .next t ∧ Tab.get [] f t.host.errs = Tab.get [] f s.host.errs ++ [(7,
    0, s.secNow % 2 ^ 32, s.nsNow % 1000000000)] ∧ t.out = s.out ++ [.regRead 0 0] ∧ t.regs = s.regs)

/-- With scrubbing on, of an instance below 8: a visit that corrects an error in a row without errors before counts it, names the row and ages
it by one; one that cannot correct in an instance of stream tables or of the buffer counts it and ages the row by two; one that cannot in
the key slot table of the key unit counts it and leaves the slot empty. A visit without error of a row that asks for it takes a spare while
one is left, and the row has no errors any more. With scrubbing off a visit does nothing. Shown to complete, under conditions on the state
and the operands alone: SCRUB_VISIT. Rests on R412, R413, R414, 16_register_map_and_wrap.md. -/
def Obligations.ScrubVisitsCountAndSpare : Prop :=
  (∀ (inst : Nat) (row : Nat) (err : Nat) (table : Nat) (idx : Nat) (s : State), inst < 8 → s.isOn Reg.MEM_SCRUB_CTL_EN = true → err = 1 →
    row < 2 ^ 24 → s.rowAge inst row = 0 → ∃ t, exec (.scrubVisit inst row err table idx) s = .next t ∧ Counted Reg.MEM_INSTC_CORR 0 inst 1 s t
    ∧ t.rd Reg.MEM_INST_STATUS_LAST_ROW 0 inst = row % 2 ^ Reg.MEM_INST_STATUS_LAST_ROW.width ∧ t.rowAge inst row = 1) ∧
  (∀ (inst : Nat) (row : Nat) (err : Nat) (table : Nat) (idx : Nat) (s : State), inst < 8 → s.isOn Reg.MEM_SCRUB_CTL_EN = true → err = 2 →
    inst = 0 ∨ inst = 6 → s.rowAge inst row = 0 → ∃ t, exec (.scrubVisit inst row err table idx) s = .next t ∧ Counted Reg.MEM_INSTC_UNCORR 0
    inst 1 s t ∧ t.rowAge inst row = 2) ∧
  (∀ (inst : Nat) (row : Nat) (err : Nat) (table : Nat) (idx : Nat) (s : State), inst < 8 → s.isOn Reg.MEM_SCRUB_CTL_EN = true → err = 2 →
    inst = 7 → table = 4 → ∃ t, exec (.scrubVisit inst row err table idx) s = .next t ∧ Counted Reg.MEM_INSTC_UNCORR 0 7 1 s t ∧ t.slot idx =
    {}) ∧
  (∀ (inst : Nat) (row : Nat) (err : Nat) (table : Nat) (idx : Nat) (s : State), inst < 8 → s.isOn Reg.MEM_SCRUB_CTL_EN = true → err = 0 → 2
    ≤ s.rowAge inst row → s.rd Reg.MEM_INST_SPARES_USED 0 inst < s.rd Reg.MEM_INST_SPARES_TOTAL 0 inst → s.rd Reg.MEM_INST_SPARES_TOTAL 0 inst
    < 2 ^ Reg.MEM_INST_SPARES_USED.width → ∃ t, exec (.scrubVisit inst row err table idx) s = .next t ∧ t.rd Reg.MEM_INST_SPARES_USED 0 inst =
    s.rd Reg.MEM_INST_SPARES_USED 0 inst + 1 ∧ t.rowAge inst row = 0) ∧
  (∀ (inst : Nat) (row : Nat) (err : Nat) (table : Nat) (idx : Nat) (s : State), s.isOn Reg.MEM_SCRUB_CTL_EN = false → exec (.scrubVisit inst
    row err table idx) s = .next s)

/-- For every type of head end message, and for a type that is not defined, in its place of a D0 frame: with a wrong MCRC its only effect is
the count MSG_CRC_ERR of its leg; with a right one whose TN is neither broadcast nor the terminal's own number, nor 0x3FE with a SERIAL
field equal to the line serial, it changes nothing at all; either takes up one of the messages that the frame announced. Shown to complete,
under conditions on the state and the operands alone: BURST_PROFILE, ASSIGN_TN, EQD_SET, CONTAINER, DEACTIVATE, EMERGENCY_STOP,
ROGUE_RELEASE, ALLOC_REVISE, KEEP_RANGED, KEY_EXCHANGE, KEY_SWITCH, SLEEP, PROT_SWITCH, RESPONSE, MSG_UNKNOWN. Formalises R64. -/
def Obligations.MessagesForOthersArePassedOver : Prop :=
  (∀ (l : Leg) (msg : BitVec 384) (s : State), Hears s l → msgType msg = 0x01 → mcrcOk msg = false → exec (.burstProfile l msg) s = .next
    ((s.upd l fun g => { g with nmsg := g.nmsg - 1 }).inc Reg.LINE_D0CNT_MSG_CRC_ERR l.n)) ∧
  (∀ (l : Leg) (msg : BitVec 384) (s : State), Hears s l → msgType msg = 0x01 → mcrcOk msg = true → msgTn msg ≠ 0x3FF → ¬(s.hasTn l = true ∧
    msgTn msg = s.rd Reg.ACT_STATUS_TN l.n) → exec (.burstProfile l msg) s = .next ((s.upd l fun g => { g with nmsg := g.nmsg - 1 }))) ∧
  (∀ (l : Leg) (msg : BitVec 384) (s : State), Hears s l → msgType msg = 0x02 → mcrcOk msg = false → exec (.assignTn l msg) s = .next ((s.upd
    l fun g => { g with nmsg := g.nmsg - 1 }).inc Reg.LINE_D0CNT_MSG_CRC_ERR l.n)) ∧
  (∀ (l : Leg) (msg : BitVec 384) (s : State), Hears s l → msgType msg = 0x02 → mcrcOk msg = true → msgTn msg ≠ 0x3FF → ¬(s.hasTn l = true ∧
    msgTn msg = s.rd Reg.ACT_STATUS_TN l.n) → ¬(msgTn msg = 0x3FE ∧ mfield msg 6 8 = s.serial) → exec (.assignTn l msg) s = .next ((s.upd l fun
    g => { g with nmsg := g.nmsg - 1 }))) ∧
  (∀ (l : Leg) (msg : BitVec 384) (s : State), Hears s l → msgType msg = 0x03 → mcrcOk msg = false → exec (.eqdSet l msg) s = .next ((s.upd l
    fun g => { g with nmsg := g.nmsg - 1 }).inc Reg.LINE_D0CNT_MSG_CRC_ERR l.n)) ∧
  (∀ (l : Leg) (msg : BitVec 384) (s : State), Hears s l → msgType msg = 0x03 → mcrcOk msg = true → msgTn msg ≠ 0x3FF → ¬(s.hasTn l = true ∧
    msgTn msg = s.rd Reg.ACT_STATUS_TN l.n) → exec (.eqdSet l msg) s = .next ((s.upd l fun g => { g with nmsg := g.nmsg - 1 }))) ∧
  (∀ (l : Leg) (msg : BitVec 384) (s : State), Hears s l → msgType msg = 0x04 → mcrcOk msg = false → exec (.container l msg) s = .next
    ((s.upd l fun g => { g with nmsg := g.nmsg - 1 }).inc Reg.LINE_D0CNT_MSG_CRC_ERR l.n)) ∧
  (∀ (l : Leg) (msg : BitVec 384) (s : State), Hears s l → msgType msg = 0x04 → mcrcOk msg = true → msgTn msg ≠ 0x3FF → ¬(s.hasTn l = true ∧
    msgTn msg = s.rd Reg.ACT_STATUS_TN l.n) → exec (.container l msg) s = .next ((s.upd l fun g => { g with nmsg := g.nmsg - 1 }))) ∧
  (∀ (l : Leg) (msg : BitVec 384) (s : State), Hears s l → msgType msg = 0x05 → mcrcOk msg = false → exec (.deactivate l msg) s = .next
    ((s.upd l fun g => { g with nmsg := g.nmsg - 1 }).inc Reg.LINE_D0CNT_MSG_CRC_ERR l.n)) ∧
  (∀ (l : Leg) (msg : BitVec 384) (s : State), Hears s l → msgType msg = 0x05 → mcrcOk msg = true → msgTn msg ≠ 0x3FF → ¬(s.hasTn l = true ∧
    msgTn msg = s.rd Reg.ACT_STATUS_TN l.n) → exec (.deactivate l msg) s = .next ((s.upd l fun g => { g with nmsg := g.nmsg - 1 }))) ∧
  (∀ (l : Leg) (msg : BitVec 384) (s : State), Hears s l → msgType msg = 0x06 → mcrcOk msg = false → exec (.emergencyStop l msg) s = .next
    ((s.upd l fun g => { g with nmsg := g.nmsg - 1 }).inc Reg.LINE_D0CNT_MSG_CRC_ERR l.n)) ∧
  (∀ (l : Leg) (msg : BitVec 384) (s : State), Hears s l → msgType msg = 0x06 → mcrcOk msg = true → msgTn msg ≠ 0x3FF → ¬(s.hasTn l = true ∧
    msgTn msg = s.rd Reg.ACT_STATUS_TN l.n) → ¬(msgTn msg = 0x3FE ∧ mfield msg 6 8 = s.serial) → exec (.emergencyStop l msg) s = .next ((s.upd
    l fun g => { g with nmsg := g.nmsg - 1 }))) ∧
  (∀ (l : Leg) (msg : BitVec 384) (s : State), Hears s l → msgType msg = 0x07 → mcrcOk msg = false → exec (.rogueRelease l msg) s = .next
    ((s.upd l fun g => { g with nmsg := g.nmsg - 1 }).inc Reg.LINE_D0CNT_MSG_CRC_ERR l.n)) ∧
  (∀ (l : Leg) (msg : BitVec 384) (s : State), Hears s l → msgType msg = 0x07 → mcrcOk msg = true → msgTn msg ≠ 0x3FF → ¬(s.hasTn l = true ∧
    msgTn msg = s.rd Reg.ACT_STATUS_TN l.n) → ¬(msgTn msg = 0x3FE ∧ mfield msg 6 8 = s.serial) → exec (.rogueRelease l msg) s = .next ((s.upd l
    fun g => { g with nmsg := g.nmsg - 1 }))) ∧
  (∀ (l : Leg) (msg : BitVec 384) (s : State), Hears s l → msgType msg = 0x08 → mcrcOk msg = false → exec (.allocRevise l msg) s = .next
    ((s.upd l fun g => { g with nmsg := g.nmsg - 1 }).inc Reg.LINE_D0CNT_MSG_CRC_ERR l.n)) ∧
  (∀ (l : Leg) (msg : BitVec 384) (s : State), Hears s l → msgType msg = 0x08 → mcrcOk msg = true → msgTn msg ≠ 0x3FF → ¬(s.hasTn l = true ∧
    msgTn msg = s.rd Reg.ACT_STATUS_TN l.n) → exec (.allocRevise l msg) s = .next ((s.upd l fun g => { g with nmsg := g.nmsg - 1 }))) ∧
  (∀ (l : Leg) (msg : BitVec 384) (s : State), Hears s l → msgType msg = 0x09 → mcrcOk msg = false → exec (.keepRanged l msg) s = .next
    ((s.upd l fun g => { g with nmsg := g.nmsg - 1 }).inc Reg.LINE_D0CNT_MSG_CRC_ERR l.n)) ∧
  (∀ (l : Leg) (msg : BitVec 384) (s : State), Hears s l → msgType msg = 0x09 → mcrcOk msg = true → msgTn msg ≠ 0x3FF → ¬(s.hasTn l = true ∧
    msgTn msg = s.rd Reg.ACT_STATUS_TN l.n) → exec (.keepRanged l msg) s = .next ((s.upd l fun g => { g with nmsg := g.nmsg - 1 }))) ∧
  (∀ (l : Leg) (msg : BitVec 384) (s : State), Hears s l → msgType msg = 0x0A → mcrcOk msg = false → exec (.keyExchange l msg) s = .next
    ((s.upd l fun g => { g with nmsg := g.nmsg - 1 }).inc Reg.LINE_D0CNT_MSG_CRC_ERR l.n)) ∧
  (∀ (l : Leg) (msg : BitVec 384) (s : State), Hears s l → msgType msg = 0x0A → mcrcOk msg = true → msgTn msg ≠ 0x3FF → ¬(s.hasTn l = true ∧
    msgTn msg = s.rd Reg.ACT_STATUS_TN l.n) → exec (.keyExchange l msg) s = .next ((s.upd l fun g => { g with nmsg := g.nmsg - 1 }))) ∧
  (∀ (l : Leg) (msg : BitVec 384) (s : State), Hears s l → msgType msg = 0x0B → mcrcOk msg = false → exec (.keySwitch l msg) s = .next
    ((s.upd l fun g => { g with nmsg := g.nmsg - 1 }).inc Reg.LINE_D0CNT_MSG_CRC_ERR l.n)) ∧
  (∀ (l : Leg) (msg : BitVec 384) (s : State), Hears s l → msgType msg = 0x0B → mcrcOk msg = true → msgTn msg ≠ 0x3FF → ¬(s.hasTn l = true ∧
    msgTn msg = s.rd Reg.ACT_STATUS_TN l.n) → exec (.keySwitch l msg) s = .next ((s.upd l fun g => { g with nmsg := g.nmsg - 1 }))) ∧
  (∀ (l : Leg) (msg : BitVec 384) (s : State), Hears s l → msgType msg = 0x0C → mcrcOk msg = false → exec (.sleep l msg) s = .next ((s.upd l
    fun g => { g with nmsg := g.nmsg - 1 }).inc Reg.LINE_D0CNT_MSG_CRC_ERR l.n)) ∧
  (∀ (l : Leg) (msg : BitVec 384) (s : State), Hears s l → msgType msg = 0x0C → mcrcOk msg = true → msgTn msg ≠ 0x3FF → ¬(s.hasTn l = true ∧
    msgTn msg = s.rd Reg.ACT_STATUS_TN l.n) → exec (.sleep l msg) s = .next ((s.upd l fun g => { g with nmsg := g.nmsg - 1 }))) ∧
  (∀ (l : Leg) (msg : BitVec 384) (s : State), Hears s l → msgType msg = 0x0D → mcrcOk msg = false → exec (.protSwitch l msg) s = .next
    ((s.upd l fun g => { g with nmsg := g.nmsg - 1 }).inc Reg.LINE_D0CNT_MSG_CRC_ERR l.n)) ∧
  (∀ (l : Leg) (msg : BitVec 384) (s : State), Hears s l → msgType msg = 0x0D → mcrcOk msg = true → msgTn msg ≠ 0x3FF → ¬(s.hasTn l = true ∧
    msgTn msg = s.rd Reg.ACT_STATUS_TN l.n) → exec (.protSwitch l msg) s = .next ((s.upd l fun g => { g with nmsg := g.nmsg - 1 }))) ∧
  (∀ (l : Leg) (msg : BitVec 384) (s : State), Hears s l → msgType msg = 0x0E → mcrcOk msg = false → exec (.response l msg) s = .next ((s.upd
    l fun g => { g with nmsg := g.nmsg - 1 }).inc Reg.LINE_D0CNT_MSG_CRC_ERR l.n)) ∧
  (∀ (l : Leg) (msg : BitVec 384) (s : State), Hears s l → msgType msg = 0x0E → mcrcOk msg = true → msgTn msg ≠ 0x3FF → ¬(s.hasTn l = true ∧
    msgTn msg = s.rd Reg.ACT_STATUS_TN l.n) → exec (.response l msg) s = .next ((s.upd l fun g => { g with nmsg := g.nmsg - 1 }))) ∧
  (∀ (l : Leg) (msg : BitVec 384) (s : State), Hears s l → knownType (msgType msg) = false → mcrcOk msg = false → exec (.msgUnknown l msg) s
    = .next ((s.upd l fun g => { g with nmsg := g.nmsg - 1 }).inc Reg.LINE_D0CNT_MSG_CRC_ERR l.n)) ∧
  (∀ (l : Leg) (msg : BitVec 384) (s : State), Hears s l → knownType (msgType msg) = false → mcrcOk msg = true → msgTn msg ≠ 0x3FF →
    ¬(s.hasTn l = true ∧ msgTn msg = s.rd Reg.ACT_STATUS_TN l.n) → exec (.msgUnknown l msg) s = .next ((s.upd l fun g =>
    { g with nmsg := g.nmsg - 1 })))

/-- An acknowledgement by a mailbox's owner whose way to the mailboxes runs, by register or by the BMC's command: when the mailbox is FULL and
its message carries the sequence number, FULL and COLLIDED of that mailbox clear and no register field changes; any other one changes no
mailbox and counts ACK_STALE. Shown to complete, under conditions on the state and the operands alone: MBX_ACK, MCTP_MBX_ACK. Formalises
R324. -/
def Obligations.AnAcknowledgementMatchesItsMessage : Prop :=
  (∀ (ag : Agent) (n : Nat) (seq : Nat) (s : State), s.path ag = true → s.ownsBox ag n = true → (s.box n).full = true → (s.box n).seq = seq %
    256 → ∃ t, exec (.mbxAck ag n seq) s = .next t ∧ t.mbx = (s.setBox n fun b => { b with full := false, collided := false }).mbx ∧ t.regs =
    s.regs) ∧
  (∀ (ag : Agent) (n : Nat) (seq : Nat) (s : State), s.path ag = true → s.ownsBox ag n = true → ¬((s.box n).full = true ∧ (s.box n).seq = seq
    % 256) → exec (.mbxAck ag n seq) s = .next (s.inc Reg.MBX_CNT_ACK_STALE)) ∧
  (∀ (n : Nat) (seq : Nat) (s : State), s.path .bmc = true → s.ownsBox .bmc n = true → (s.box n).full = true → (s.box n).seq = seq % 256 → ∃
    t, exec (.mctpMbxAck n seq) s = .next t ∧ t.mbx = (s.setBox n fun b => { b with full := false, collided := false }).mbx ∧ t.regs = s.regs) ∧
  (∀ (n : Nat) (seq : Nat) (s : State), s.path .bmc = true → s.ownsBox .bmc n = true → ¬((s.box n).full = true ∧ (s.box n).seq = seq % 256) →
    ∃ t, exec (.mctpMbxAck n seq) s = .next t ∧ t.mbx = s.mbx ∧ t.regs = (s.inc Reg.MBX_CNT_ACK_STALE).regs)

/-- A WRITE or a COMPARE_AND_WRITE, immediate or staged, by an agent that reaches the registers, with firmware present and no stream command of
that agent in progress, with an entry whose FUNC is above 128, whose TAG_OP is above 4, whose default ring is not below its group's size
where the default action forwards or mirrors, or with a reserved bit set, ends INVALID, and leaves the stream table and the commit group as
they were. Shown to complete, under conditions on the state and the operands alone: STBL_WRITE, COMPARE_AND_WRITE. Formalises R182. -/
def Obligations.StreamEntriesOutOfRangeAreRefused : Prop :=
  (∀ (ag : Agent) (stage : Bool) (e : Nat) (s : State), s.reach ag = true → s.rdA ag Reg.STBL_CMD_BUSY = 0 → s.fwPresent = true → s.rdWords
    ag Reg.STBL_DATA = e → bits e 9 2 > 128 → ∃ t, exec (.stblWrite ag stage) s = .next t ∧ t.cls.streams = s.cls.streams ∧ t.cls.staged =
    s.cls.staged ∧ (if ag.isFw then t.cls.stblStFw else t.cls.stblSt) = some 2) ∧
  (∀ (ag : Agent) (stage : Bool) (e : Nat) (s : State), s.reach ag = true → s.rdA ag Reg.STBL_CMD_BUSY = 0 → s.fwPresent = true → s.rdWords
    ag Reg.STBL_DATA = e → bits e 42 39 > 4 → ∃ t, exec (.stblWrite ag stage) s = .next t ∧ t.cls.streams = s.cls.streams ∧ t.cls.staged =
    s.cls.staged ∧ (if ag.isFw then t.cls.stblStFw else t.cls.stblSt) = some 2) ∧
  (∀ (ag : Agent) (stage : Bool) (e : Nat) (s : State), s.reach ag = true → s.rdA ag Reg.STBL_CMD_BUSY = 0 → s.fwPresent = true → s.rdWords
    ag Reg.STBL_DATA = e → bits e 45 44 = 1 ∨ bits e 45 44 = 3 → bits e 51 46 ≥ 2 ^ min 6 (s.rd Reg.STBL_RGT_SIZE_LOG2 0 (bits e 19 10)) → ∃ t,
    exec (.stblWrite ag stage) s = .next t ∧ t.cls.streams = s.cls.streams ∧ t.cls.staged = s.cls.staged ∧ (if ag.isFw then t.cls.stblStFw else
    t.cls.stblSt) = some 2) ∧
  (∀ (ag : Agent) (stage : Bool) (e : Nat) (s : State), s.reach ag = true → s.rdA ag Reg.STBL_CMD_BUSY = 0 → s.fwPresent = true → s.rdWords
    ag Reg.STBL_DATA = e → bits e 31 29 ≠ 0 ∨ bits e 63 54 ≠ 0 ∨ bits e 95 79 ≠ 0 ∨ bits e 127 109 ≠ 0 → ∃ t, exec (.stblWrite ag stage) s =
    .next t ∧ t.cls.streams = s.cls.streams ∧ t.cls.staged = s.cls.staged ∧ (if ag.isFw then t.cls.stblStFw else t.cls.stblSt) = some 2) ∧
  (∀ (ag : Agent) (stage : Bool) (e : Nat) (s : State), s.reach ag = true → s.rdA ag Reg.STBL_CMD_BUSY = 0 → s.fwPresent = true → s.rdWords
    ag Reg.STBL_DATA = e → bits e 9 2 > 128 → ∃ t, exec (.compareAndWrite ag stage) s = .next t ∧ t.cls.streams = s.cls.streams ∧ t.cls.staged
    = s.cls.staged ∧ (if ag.isFw then t.cls.stblStFw else t.cls.stblSt) = some 2) ∧
  (∀ (ag : Agent) (stage : Bool) (e : Nat) (s : State), s.reach ag = true → s.rdA ag Reg.STBL_CMD_BUSY = 0 → s.fwPresent = true → s.rdWords
    ag Reg.STBL_DATA = e → bits e 42 39 > 4 → ∃ t, exec (.compareAndWrite ag stage) s = .next t ∧ t.cls.streams = s.cls.streams ∧ t.cls.staged
    = s.cls.staged ∧ (if ag.isFw then t.cls.stblStFw else t.cls.stblSt) = some 2) ∧
  (∀ (ag : Agent) (stage : Bool) (e : Nat) (s : State), s.reach ag = true → s.rdA ag Reg.STBL_CMD_BUSY = 0 → s.fwPresent = true → s.rdWords
    ag Reg.STBL_DATA = e → bits e 45 44 = 1 ∨ bits e 45 44 = 3 → bits e 51 46 ≥ 2 ^ min 6 (s.rd Reg.STBL_RGT_SIZE_LOG2 0 (bits e 19 10)) → ∃ t,
    exec (.compareAndWrite ag stage) s = .next t ∧ t.cls.streams = s.cls.streams ∧ t.cls.staged = s.cls.staged ∧ (if ag.isFw then
    t.cls.stblStFw else t.cls.stblSt) = some 2) ∧
  (∀ (ag : Agent) (stage : Bool) (e : Nat) (s : State), s.reach ag = true → s.rdA ag Reg.STBL_CMD_BUSY = 0 → s.fwPresent = true → s.rdWords
    ag Reg.STBL_DATA = e → bits e 31 29 ≠ 0 ∨ bits e 63 54 ≠ 0 ∨ bits e 95 79 ≠ 0 ∨ bits e 127 109 ≠ 0 → ∃ t, exec (.compareAndWrite ag stage)
    s = .next t ∧ t.cls.streams = s.cls.streams ∧ t.cls.staged = s.cls.staged ∧ (if ag.isFw then t.cls.stblStFw else t.cls.stblSt) = some 2)

/-- For each line, activation, headgate, time and timer command that answers a next state: every register field but the rows named for it,
every other part of State but those named, and the queue are as before. A row that is named may change in any of its copies, and a part
that is named anywhere; what the command writes there is the matter of the statements about its effect. Rests on 02_line_format.md,
03_activation_and_headgate.md, 04_time_transfer.md, 05_time_outputs_and_triggers.md. -/
def Obligations.FrameOfLineAndTimeCommands : Prop :=
  (∀ (l : Leg) (w : Nat) (raw : BitVec 64) (ofs : Nat) (s t : State), exec (.syncCandidate l w raw ofs) s = .next t → Unchanged
    [Reg.OPT_DSK_CAND_OFS, Reg.OPT_DSK_CAND_VALID] [.legA, .legB] s t) ∧
  (∀ (l : Leg) (w : Nat) (raw : BitVec 64) (hdr : BitVec 128) (rel : Int) (words : Int) (ofs : Int) (s t : State), exec (.delineationMarker
    l w raw hdr rel words ofs) s = .next t → Unchanged (defectRows ++ [Reg.LINE_WCNT_FRAMES, Reg.LINE_WCNT_HDR_CRC_ERR,
    Reg.LINE_WCNT_HDR_MISMATCH, Reg.ACT_KR_STATUS_SF_SINCE, Reg.HG_CTL_FORCE_TXDIS, Reg.HG_STATUS_TXDIS, Reg.HG_CNT_DISAGREE,
    Reg.TIME_LEG_OFFSET, Reg.TIME_LEG_DT, Reg.TIME_CNT_TOD_USED_A, Reg.TIME_CNT_TOD_USED_B, Reg.TIME_CNT_MARK_EXCL_A,
    Reg.TIME_CNT_MARK_EXCL_B, Reg.SLU_STATUS_LEG, Reg.SLU_STATUS_MISMATCH, Reg.SLU_CNT_AUD_FAIL, Reg.OPT_STATUS_BRINGUP,
    Reg.OPT_STATUS_FAILS, Reg.OPT_DSK_DSK_WORDS, Reg.OPT_DSK_CMD_ALIGNED, Reg.OPT_CNT_BRINGUPS]) [.legA, .legB, .time, .slots, .bursts,
    .ledger, .host, .classifier, .sluice, .protection, .monitor, .admin, .power, .requests, .out] s t) ∧
  (∀ (l : Leg) (w : Nat) (idx : Nat) (corr : Nat) (ok : Bool) (s t : State), exec (.codewordDecode l w idx corr ok) s = .next t → Unchanged
    (eventRows ++ [Reg.LINE_WCNT_CORR_BITS, Reg.LINE_WCNT_UNCORR_CW, Reg.PM_TCA_STATUS_COUNTER, Reg.PM_TCA_STATUS_WAVE,
    Reg.PM_CNT_TCA_EVENTS]) [.legA, .legB, .host, .monitor, .out] s t) ∧
  (∀ (l : Leg) (word : BitVec 64) (s t : State), exec (.partitionHeader l word) s = .next t → Unchanged (spillRows ++
    [Reg.LINE_D0CNT_PART_CRC_ERR]) [.legA, .legB, .host, .monitor, .out] s t) ∧
  (∀ (l : Leg) (word : BitVec 256) (s t : State), exec (.todAnnouncement l word) s = .next t → Unchanged (eventRows ++
    [Reg.LINE_D0CNT_TOD_REJECT, Reg.TIME_STATUS_SRC, Reg.TIME_BOUND, Reg.TIME_BOUND_OWN, Reg.TIME_UTC_UTC_OFFSET, Reg.TIME_UTC_LI61,
    Reg.TIME_UTC_LI59, Reg.TIME_UTC_UTC_VALID, Reg.TIME_UTC_TRACEABLE, Reg.TIME_UTC_HE_CLASS, Reg.TIME_HO_Y0, Reg.TIME_HO_ELAPSED,
    Reg.TIME_LEG_STATUS_USABLE, Reg.TIME_LEG_OFFSET, Reg.TIME_CNT_TOD_USED_A, Reg.TIME_CNT_TOD_USED_B, Reg.TIME_CNT_MARK_EXCL_A,
    Reg.TIME_CNT_MARK_EXCL_B]) [.legA, .legB, .time, .host, .out] s t) ∧
  (∀ (l : Leg) (word : BitVec 64) (s t : State), exec (.allocationStructure l word) s = .next t → Unchanged (decideRows ++
    [Reg.PWR_STATUS_STATE, Reg.PWR_STATUS_LAST_WAKE, Reg.LINE_D0CNT_ALLOC_HEC_ERR, Reg.LINE_D0CNT_ALLOC_DROPPED, Reg.ACT_ATTEMPT_SKIP_LEFT,
    Reg.PM_TCA_STATUS_COUNTER, Reg.PM_TCA_STATUS_WAVE, Reg.PM_CNT_TCA_EVENTS]) [.legA, .legB, .ledger, .host, .monitor, .freeIdx, .out] s t) ∧
  (∀ (l : Leg) (msg : BitVec 384) (s t : State), exec (.burstProfile l msg) s = .next t → Unchanged [Reg.LINE_D0CNT_MSG_CRC_ERR,
    Reg.LINE_D0CNT_MSG_DUP, Reg.LINE_D0CNT_EFF_REFUSED, Reg.LINE_D0CNT_FIELD_REFUSED] [.legA, .legB] s t) ∧
  (∀ (l : Leg) (p : Nat) (s t : State), exec (.profileEffective l p) s = .next t → Unchanged [Reg.LINE_PROF_PRE_GRAINS,
    Reg.LINE_PROF_PRE_PAT, Reg.LINE_PROF_DLM_GRAINS, Reg.LINE_PROF_WAVES, Reg.LINE_PROF_VALID, Reg.LINE_PROF_DLM_LO, Reg.LINE_PROF_DLM_HI]
    [.legA, .legB] s t) ∧
  (∀ (l : Leg) (msg : BitVec 384) (s t : State), exec (.assignTn l msg) s = .next t → Unchanged (defectRows ++ [Reg.LINE_D0CNT_MSG_CRC_ERR,
    Reg.LINE_D0CNT_MSG_DUP, Reg.LINE_D0CNT_FIELD_REFUSED, Reg.ACT_STATUS_TN_VALID, Reg.ACT_STATUS_TN, Reg.HG_STATUS_TN_VALID,
    Reg.HG_STATUS_TN]) [.legA, .legB, .time, .slots, .bursts, .ledger, .host, .classifier, .sluice, .protection, .monitor, .admin, .power,
    .requests, .out] s t) ∧
  (∀ (l : Leg) (msg : BitVec 384) (s t : State), exec (.eqdSet l msg) s = .next t → Unchanged (eventRows ++ [Reg.LINE_D0CNT_MSG_CRC_ERR,
    Reg.LINE_D0CNT_MSG_DUP, Reg.LINE_D0CNT_FIELD_REFUSED, Reg.ACT_EQD_PENDING, Reg.ACT_EQD_NEXT, Reg.ACT_EQD_EFF_LO, Reg.ACT_EQD_EFF_HI,
    Reg.ACT_CNT_EQD_REFUSED]) [.legA, .legB, .host, .out] s t) ∧
  (∀ (l : Leg) (s t : State), exec (.eqdApply l) s = .next t → Unchanged (defectRows ++ [Reg.ACT_EQD_EQD_FINE, Reg.ACT_EQD_EQD_GRAINS,
    Reg.ACT_EQD_PENDING, Reg.ACT_EQD_NEXT, Reg.ACT_EQD_EFF_LO, Reg.ACT_EQD_EFF_HI, Reg.ACT_CNT_EQD_APPLIED, Reg.TIME_LEG_STATUS_RWAVE])
    [.legA, .legB, .time, .slots, .bursts, .ledger, .host, .classifier, .sluice, .protection, .monitor, .admin, .power, .requests, .out] s t) ∧
  (∀ (l : Leg) (msg : BitVec 384) (s t : State), exec (.container l msg) s = .next t → Unchanged [Reg.LINE_D0CNT_MSG_CRC_ERR,
    Reg.LINE_D0CNT_MSG_DUP, Reg.LINE_D0CNT_MSG_OVERFLOW, Reg.LINE_D0CNT_FIELD_REFUSED, Reg.HG_LATCH_PENDING] [.legA, .legB, .firmware] s t) ∧
  (∀ (l : Leg) (slot : Nat) (s t : State), exec (.containerEffective l slot) s = .next t → Unchanged [Reg.HG_LATCH_ALLOC_ID,
    Reg.HG_LATCH_VALID, Reg.HG_LATCH_PENDING, Reg.USCH_CT_STATUS_FB, Reg.USCH_CT_STATUS_FB_AUTO, Reg.USCH_CNT_FB_ENTRIES] [.legA, .legB,
    .slots, .host] s t) ∧
  (∀ (l : Leg) (msg : BitVec 384) (s t : State), exec (.deactivate l msg) s = .next t → Unchanged (departRows ++
    [Reg.LINE_D0CNT_MSG_CRC_ERR, Reg.LINE_D0CNT_MSG_DUP, Reg.ACT_CNT_DEACTIVATIONS]) [.legA, .legB, .time, .slots, .bursts, .ledger, .host,
    .classifier, .sluice, .protection, .monitor, .admin, .power, .requests, .out] s t) ∧
  (∀ (l : Leg) (msg : BitVec 384) (s t : State), exec (.emergencyStop l msg) s = .next t → Unchanged (defectRows ++ spillRows ++
    [Reg.LINE_D0CNT_MSG_CRC_ERR, Reg.LINE_D0CNT_MSG_DUP, Reg.HG_STATUS_TXDIS, Reg.HG_STATUS_BEN, Reg.HG_CNT_TX_ABORTED, Reg.OPT_LIFE_ON_NS])
    [.legA, .legB, .time, .slots, .bursts, .ledger, .host, .classifier, .sluice, .protection, .monitor, .admin, .power, .requests, .out] s t) ∧
  (∀ (l : Leg) (msg : BitVec 384) (s t : State), exec (.rogueRelease l msg) s = .next t → Unchanged (defectRows ++
    [Reg.LINE_D0CNT_MSG_CRC_ERR, Reg.LINE_D0CNT_MSG_DUP, Reg.HG_STATUS_TXDIS]) [.legA, .legB, .time, .slots, .bursts, .ledger, .host,
    .classifier, .sluice, .protection, .monitor, .admin, .power, .requests, .out] s t) ∧
  (∀ (l : Leg) (msg : BitVec 384) (s t : State), exec (.allocRevise l msg) s = .next t → Unchanged (decideRows ++
    [Reg.LINE_D0CNT_ALLOC_DROPPED, Reg.LINE_D0CNT_MSG_CRC_ERR, Reg.LINE_D0CNT_MSG_DUP, Reg.LINE_D0CNT_REVISE_IGNORED,
    Reg.USCH_CT_STATUS_LAST_CAUSE, Reg.USCH_CNT_UNWOUND_BURSTS, Reg.USCH_CNT_UNWOUND_FRAMES, Reg.USCH_CNT_SEQ_SKIPPED,
    Reg.USCH_CNT_REVISE_LATE, Reg.USCH_SCNT_UNWINDS]) [.legA, .legB, .slots, .bursts, .ledger, .host, .requests, .out] s t) ∧
  (∀ (l : Leg) (msg : BitVec 384) (s t : State), exec (.keepRanged l msg) s = .next t → Unchanged [Reg.LINE_D0CNT_MSG_CRC_ERR,
    Reg.LINE_D0CNT_MSG_DUP, Reg.LINE_D0CNT_FIELD_REFUSED, Reg.ACT_KR_CTL_INTERVAL_SF] [.legA, .legB] s t) ∧
  (∀ (l : Leg) (msg : BitVec 384) (s t : State), exec (.msgUnknown l msg) s = .next t → Unchanged [Reg.LINE_D0CNT_MSG_CRC_ERR,
    Reg.LINE_D0CNT_MSG_UNKNOWN] [.legA, .legB] s t) ∧
  (∀ (ag : Agent) (l : Leg) (v : BitVec 32) (s t : State), exec (.actCtlWrite ag l v) s = .next t → Unchanged (departRows ++
    [Reg.ACT_CTL_ENABLE]) [.legA, .legB, .time, .slots, .bursts, .ledger, .host, .classifier, .sluice, .protection, .monitor, .admin, .power,
    .requests, .out] s t) ∧
  (∀ (l : Leg) (s t : State), exec (.registrationTimeout l) s = .next t → Unchanged (eventRows ++ [Reg.ACT_STATUS_STATE,
    Reg.ACT_STATUS_RANGED, Reg.ACT_ATTEMPT_SKIP_LEFT, Reg.ACT_CNT_REG_COLLISIONS, Reg.HG_STATUS_RANGED, Reg.PROT_DEF_RNG_LOSS,
    Reg.PROT_DEF_LATCHED]) [.legA, .legB, .host, .freeIdx, .out] s t) ∧
  (∀ (l : Leg) (s t : State), exec (.rangingTimeout l) s = .next t → Unchanged (defectRows ++ [Reg.ACT_STATUS_TN_VALID, Reg.ACT_STATUS_TN,
    Reg.ACT_EQD_EQD_FINE, Reg.ACT_EQD_EQD_GRAINS, Reg.ACT_EQD_PENDING, Reg.ACT_EQD_NEXT, Reg.ACT_EQD_EFF_LO, Reg.ACT_EQD_EFF_HI,
    Reg.HG_STATUS_TN_VALID, Reg.HG_STATUS_TN, Reg.HG_LATCH_ALLOC_ID, Reg.HG_LATCH_VALID, Reg.HG_LATCH_PENDING]) [.legA, .legB, .time, .slots,
    .bursts, .ledger, .host, .classifier, .sluice, .protection, .monitor, .admin, .power, .requests, .out] s t) ∧
  (∀ (l : Leg) (s t : State), exec (.rangeMiss l) s = .next t → Unchanged (defectRows ++ [Reg.ACT_CNT_RANGE_MISSES]) [.legA, .legB, .time,
    .slots, .bursts, .ledger, .host, .classifier, .sluice, .protection, .monitor, .admin, .power, .requests, .out] s t) ∧
  (∀ (l : Leg) (s t : State), exec (.wakeAttemptTimeout l) s = .next t → Unchanged [] [.legA, .legB, .freeIdx] s t) ∧
  (∀ (l : Leg) (sfc : BitVec 48) (fn : Nat) (s t : State), exec (.upstreamFrameStart l sfc fn) s = .next t → Unchanged (eventRows ++
    [Reg.ACT_STATUS_STATE, Reg.ACT_STATUS_RANGED, Reg.ACT_ATTEMPT_ATTEMPTS, Reg.HG_STATUS_RANGED, Reg.HG_USED_GRAINS, Reg.HG_LATCH_ALLOC_ID,
    Reg.HG_LATCH_VALID, Reg.HG_LATCH_PENDING, Reg.HG_CNT_REFUSED_ROLE, Reg.USCH_AUD_STATUS_MISMATCH, Reg.USCH_CT_STATUS_LAST_CAUSE,
    Reg.USCH_CNT_UNWOUND_BURSTS, Reg.USCH_CNT_UNWOUND_FRAMES, Reg.USCH_CNT_SEQ_SKIPPED, Reg.USCH_CNT_AUD_FAIL, Reg.USCH_SCNT_UNWINDS,
    Reg.SLU_STATUS_MISMATCH, Reg.SLU_CNT_UP_MAPPED, Reg.SLU_CNT_UP_SHORT, Reg.SLU_CNT_AUD_FAIL, Reg.PROT_DEF_RNG_LOSS, Reg.PROT_DEF_LATCHED,
    Reg.OPT_LANE_MODE]) [.legA, .legB, .slots, .bursts, .ledger, .seqs, .host, .sluice, .requests, .out] s t) ∧
  (∀ (l : Leg) (u : Nat) (s t : State), exec (.lanePowerUp l u) s = .next t → Unchanged [Reg.OPT_LANE_MODE] [] s t) ∧
  (∀ (l : Leg) (u : Nat) (start : Nat) (s t : State), exec (.windowOpen l u start) s = .next t → Unchanged (defectRows ++ spillRows ++
    [Reg.ACT_KR_STATUS_SF_SINCE, Reg.ACT_CNT_REG_ATTEMPTS, Reg.ACT_CNT_RANGE_BURSTS, Reg.ACT_CNT_WAKE_ATTEMPTS, Reg.HG_STATUS_BEN,
    Reg.HG_CNT_WINDOWS, Reg.HG_CNT_GRAINS, Reg.HG_CNT_TX_DARK, Reg.TEV_CNT_LT_LATE, Reg.USCH_CT_STATUS_STARVED, Reg.USCH_CT_BUFREP,
    Reg.USCH_CNT_BURSTS_BUILT, Reg.USCH_CNT_BURSTS_SENT, Reg.USCH_CNT_IDLE_GRANTS, Reg.USCH_CNT_FRAMES_SENT, Reg.USCH_CNT_BYTES_SENT,
    Reg.USCH_SCNT_FRAMES, Reg.USCH_SCNT_BYTES, Reg.USCH_SCNT_STARVED, Reg.SLU_CNT_UP_GRANTED, Reg.SLU_CNT_UP_SENT, Reg.SLU_CNT_UP_UNMAPPED,
    Reg.SLU_CNT_UP_U1, Reg.PROT_RR_STATUS_REASONS, Reg.PROT_RR_DETAIL_LEG, Reg.OPT_LIFE_ON_NS, Reg.OPT_LIFE_STAT_DAYS_LEFT,
    Reg.OPT_LIFE_STAT_DARK_FAIL]) [.legA, .legB, .time, .slots, .bursts, .ledger, .host, .classifier, .sluice, .protection, .monitor, .admin,
    .power, .requests, .out] s t) ∧
  (∀ (l : Leg) (u : Nat) (light : Bool) (s t : State), exec (.windowEnd l u light) s = .next t → Unchanged (spillRows ++
    [Reg.HG_STATUS_BEN, Reg.HG_CNT_TX_DARK, Reg.PROT_RR_STATUS_REASONS, Reg.PROT_RR_DETAIL_LEG, Reg.OPT_LANE_MODE, Reg.OPT_LIFE_ON_NS,
    Reg.OPT_LIFE_STAT_DAYS_LEFT, Reg.OPT_LIFE_STAT_DARK_FAIL]) [.legA, .legB, .bursts, .ledger, .host, .monitor, .out] s t) ∧
  (∀ (l : Leg) (u : Nat) (samples : Nat) (s t : State), exec (.rogueLatch l u samples) s = .next t → Unchanged (departRows ++
    [Reg.ACT_CTL_ENABLE, Reg.HG_STATUS_TXDIS, Reg.HG_CNT_ROGUE_EVENTS, Reg.PROT_RR_STATUS_REASONS, Reg.PROT_RR_DETAIL_LEG]) [.legA, .legB,
    .time, .slots, .bursts, .ledger, .host, .classifier, .sluice, .protection, .monitor, .admin, .power, .requests, .out] s t) ∧
  (∀ (ag : Agent) (l : Leg) (v : BitVec 32) (s t : State), exec (.hgCtlWrite ag l v) s = .next t → Unchanged (lanesRows ++ spillRows ++
    [Reg.HG_CTL_TX_ALLOW, Reg.HG_CTL_FORCE_TXDIS, Reg.HG_STATUS_TXDIS, Reg.HG_STATUS_BEN, Reg.HG_CNT_TX_ABORTED, Reg.OPT_LIFE_ON_NS]) [.legA,
    .legB, .time, .bursts, .ledger, .host, .monitor, .out] s t) ∧
  (∀ (s t : State), exec .limiterStep s = .next t → Unchanged [] [.time] s t) ∧
  (∀ (s t : State), exec .servoUpdate s = .next t → Unchanged [] [.time] s t) ∧
  (∀ (s t : State), exec .qualityEvaluate s = .next t → Unchanged (qualityRows ++ [Reg.TIME_STATUS_REBASE_REQ, Reg.TIME_STATUS_SRC,
    Reg.TIME_QUAL_STEP_DONE, Reg.TIME_QUAL_GEN, Reg.TIME_LEG_STATUS_USABLE, Reg.TEV_CH_STATUS_STATE, Reg.TEV_CH_STATUS_RESULT,
    Reg.TEV_CH_STATUS_LATE, Reg.TEV_CH_LIN_LO, Reg.TEV_CH_LIN_HI]) [.legA, .legB, .time, .timers, .host, .monitor, .out] s t) ∧
  (∀ (l : Leg) (s t : State), exec (.todMissing l) s = .next t → Unchanged (eventRows ++ [Reg.TIME_STATUS_SRC, Reg.TIME_BOUND,
    Reg.TIME_BOUND_OWN, Reg.TIME_HO_Y0, Reg.TIME_HO_ELAPSED, Reg.TIME_LEG_STATUS_USABLE]) [.legA, .legB, .time, .host, .out] s t) ∧
  (∀ (s t : State), exec .holdoverBoundAdvance s = .next t → Unchanged qualityRows [.time, .host, .monitor, .out] s t) ∧
  (∀ (incrF : BitVec 48) (yref : Int) (y0 : Nat) (s t : State), exec (.incrHoUpdate incrF yref y0) s = .next t → Unchanged (eventRows ++
    [Reg.TIME_REF_OFS, Reg.PROT_RR_STATUS_REASONS]) [.time, .host, .out] s t) ∧
  (∀ (l : Leg) (s t : State), exec (.dispersionFit l) s = .next t → Unchanged (eventRows ++ [Reg.TIME_STATUS_SRC, Reg.TIME_BOUND,
    Reg.TIME_BOUND_OWN, Reg.TIME_HO_Y0, Reg.TIME_HO_ELAPSED, Reg.TIME_LEG_STATUS_USABLE, Reg.TIME_LEG_STATUS_FIT_VALID, Reg.TIME_LEG_FIT_K,
    Reg.TIME_LEG_FIT_L0, Reg.TIME_LEG_FIT_LEN, Reg.TIME_LEG_FIT_RESID, Reg.TIME_LEG_ASYM]) [.legA, .legB, .time, .host, .out] s t) ∧
  (∀ (l : Leg) (s t : State), exec (.laserLowConf l) s = .next t → Unchanged (eventRows ++ [Reg.TIME_BOUND, Reg.TIME_BOUND_OWN,
    Reg.TIME_LEG_STATUS_LASER_LOW]) [.legA, .legB, .time, .host, .out] s t) ∧
  (∀ (l : Leg) (s t : State), exec (.laserConfRestored l) s = .next t → Unchanged (eventRows ++ [Reg.TIME_BOUND, Reg.TIME_BOUND_OWN,
    Reg.TIME_LEG_STATUS_LASER_LOW, Reg.TIME_LEG_ASYM]) [.legA, .legB, .time, .host, .out] s t) ∧
  (∀ (c0 : Nat) (c1 : Nat) (c2 : Nat) (i0 : BitVec 48) (i1 : BitVec 48) (i2 : BitVec 48) (s t : State), exec (.timeVote c0 c1 c2 i0 i1 i2)
    s = .next t → Unchanged (eventRows ++ [Reg.TIME_STATUS_VOTE_FAIL, Reg.TIME_BOUND, Reg.TIME_BOUND_OWN, Reg.TIME_CNT_VOTE_CORR,
    Reg.TIME_CNT_VOTE_FAIL, Reg.PROT_RR_STATUS_REASONS]) [.time, .host, .out] s t) ∧
  (∀ (ag : Agent) (s t : State), exec (.timeSnap ag) s = .next t → Unchanged (qualityRows ++ [Reg.TIME_STATUS_APPLY_PENDING,
    Reg.TIME_STATUS_APPLY_RESULT, Reg.TIME_STATUS_REBASE_REQ, Reg.TIME_QUAL_GEN, Reg.TIME_SNAP_SEC_LO, Reg.TIME_SNAP_SEC_HI,
    Reg.TIME_SNAP_SEC_HI_SNAP_SEQ, Reg.TIME_SNAP_NS, Reg.TIME_SNAP_FRAC, Reg.TIME_SNAP_INCR_LO, Reg.TIME_SNAP_INCR_HI, Reg.TIME_SNAP_QUAL,
    Reg.TIME_SNAP_BOUND, Reg.TIME_CNT_APPLY_DONE, Reg.TIME_CNT_APPLY_REFUSED, Reg.TIME_CNT_REBASES, Reg.TEV_CH_STATUS_STATE,
    Reg.TEV_CH_STATUS_RESULT, Reg.TEV_CH_STATUS_LATE, Reg.TEV_CH_LIN_LO, Reg.TEV_CH_LIN_HI]) [.fwRegs, .legA, .legB, .time, .timers, .host,
    .monitor, .out] s t) ∧
  (∀ (ag : Agent) (mode : Nat) (s t : State), exec (.timeApply ag mode) s = .next t → Unchanged (eventRows ++ [Reg.TIME_CTL_APPLY_MODE,
    Reg.TIME_STATUS_APPLY_PENDING, Reg.TIME_STATUS_APPLY_RESULT, Reg.TIME_CNT_APPLY_REFUSED]) [.time, .host, .out] s t) ∧
  (∀ (ag : Agent) (s t : State), exec (.timeCancel ag) s = .next t → Unchanged (eventRows ++ [Reg.TIME_STATUS_APPLY_PENDING,
    Reg.TIME_STATUS_APPLY_RESULT, Reg.TIME_CNT_APPLY_REFUSED]) [.time, .host, .out] s t) ∧
  (∀ (s t : State), exec .applyTick s = .next t → Unchanged (qualityRows ++ [Reg.TIME_STATUS_APPLY_PENDING, Reg.TIME_STATUS_APPLY_RESULT,
    Reg.TIME_STATUS_REBASE_REQ, Reg.TIME_QUAL_GEN, Reg.TIME_CNT_APPLY_DONE, Reg.TIME_CNT_APPLY_REFUSED, Reg.TIME_CNT_REBASES,
    Reg.TEV_CH_STATUS_STATE, Reg.TEV_CH_STATUS_RESULT, Reg.TEV_CH_STATUS_LATE, Reg.TEV_CH_LIN_LO, Reg.TEV_CH_LIN_HI]) [.legA, .legB, .time,
    .timers, .host, .monitor, .out] s t) ∧
  (∀ (ag : Agent) (off : Nat) (v : BitVec 32) (s t : State), exec (.timeStageWrite ag off v) s = .next t → Unchanged
    [Reg.TIME_STATUS_APPLY_PENDING, Reg.TIME_STATUS_STAGE_WERR, Reg.TIME_STAGE_SEC_LO, Reg.TIME_STAGE_SEC_HI, Reg.TIME_STAGE_NS,
    Reg.TIME_STAGE_FRAC, Reg.TIME_STAGE_INCR_LO, Reg.TIME_STAGE_INCR_HI, Reg.TIME_APPLY_AT_LO, Reg.TIME_APPLY_AT_HI, Reg.TIME_STAGE_SEL,
    Reg.TIME_LEG_RX_TRIM, Reg.TIME_LEG_TXU_TRIM, Reg.TIME_LEG_SKEW_TRIM] [.fwRegs] s t) ∧
  (∀ (n : Nat) (s t : State), exec (.tevArm n) s = .next t → Unchanged (eventRows ++ [Reg.TEV_CH_STATUS_STATE, Reg.TEV_CH_STATUS_RESULT,
    Reg.TEV_CH_STATUS_LATE, Reg.TEV_CH_FIRED, Reg.TEV_CH_LIN_LO, Reg.TEV_CH_LIN_HI, Reg.TEV_CNT_ARM_REFUSED]) [.timers, .host, .out] s t) ∧
  (∀ (n : Nat) (s t : State), exec (.tevDisarm n) s = .next t → Unchanged (eventRows ++ [Reg.TEV_CH_STATUS_STATE,
    Reg.TEV_CH_STATUS_LATCHED]) [.timers, .host, .out] s t) ∧
  (∀ (n : Nat) (off : Nat) (v : BitVec 32) (s t : State), exec (.tevConfigWrite n off v) s = .next t → Unchanged [Reg.TEV_CH_CTL_MODE,
    Reg.TEV_CH_CTL_POL, Reg.TEV_CH_CTL_STOP_SRC, Reg.TEV_CH_CTL_REBASE_POL, Reg.TEV_CH_CTL_RESYNC, Reg.TEV_CH_STATUS_LATE,
    Reg.TEV_CH_STATUS_WERR, Reg.TEV_CH_TGT_SEC_LO, Reg.TEV_CH_TGT_SEC_HI, Reg.TEV_CH_TGT_NS, Reg.TEV_CH_WIDTH, Reg.TEV_CH_PERIOD_NS,
    Reg.TEV_CH_PERIOD_FRAC, Reg.TEV_CH_COUNT, Reg.TEV_CH_COMP] [] s t) ∧
  (∀ (n : Nat) (s t : State), exec (.tevFire n) s = .next t → Unchanged (qualityRows ++ [Reg.TIME_STATUS_APPLY_PENDING,
    Reg.TIME_STATUS_APPLY_RESULT, Reg.TIME_STATUS_REBASE_REQ, Reg.TIME_QUAL_GEN, Reg.TIME_CNT_APPLY_DONE, Reg.TIME_CNT_APPLY_REFUSED,
    Reg.TIME_CNT_REBASES, Reg.TEV_CH_STATUS_STATE, Reg.TEV_CH_STATUS_LATCHED, Reg.TEV_CH_STATUS_RESULT, Reg.TEV_CH_STATUS_LATE,
    Reg.TEV_CH_FIRED, Reg.TEV_CH_LIN_LO, Reg.TEV_CH_LIN_HI]) [.legA, .legB, .time, .timers, .host, .monitor, .out] s t) ∧
  (∀ (n : Nat) (s t : State), exec (.tevPulseEnd n) s = .next t → Unchanged (eventRows ++ [Reg.TEV_CH_STATUS_STATE]) [.timers, .host, .out]
    s t) ∧
  (∀ (s t : State), exec .ppsOutPulse s = .next t → Unchanged [] [.timers, .out] s t) ∧
  (∀ (s t : State), exec .ppsPulseEnd s = .next t → Unchanged [] [.timers, .out] s t) ∧
  (∀ (i : Nat) (rising : Bool) (widthPs : Nat) (wide : Bool) (fine : Nat) (s t : State), exec (.tcapEdge i rising widthPs wide fine) s =
    .next t → Unchanged (qualityRows ++ [Reg.TIME_STATUS_APPLY_PENDING, Reg.TIME_STATUS_APPLY_RESULT, Reg.TIME_STATUS_REBASE_REQ,
    Reg.TIME_QUAL_GEN, Reg.TIME_CNT_APPLY_DONE, Reg.TIME_CNT_APPLY_REFUSED, Reg.TIME_CNT_REBASES, Reg.TEV_CH_STATUS_STATE,
    Reg.TEV_CH_STATUS_RESULT, Reg.TEV_CH_STATUS_LATE, Reg.TEV_CH_LIN_LO, Reg.TEV_CH_LIN_HI, Reg.TEV_TCAP_STATUS_OVF, Reg.TEV_TCAP_STATUS_PIN,
    Reg.TEV_TCAP_CNT_CAPTURED, Reg.TEV_TCAP_CNT_NARROW, Reg.TEV_TCAP_CNT_LOST]) [.legA, .legB, .time, .timers, .host, .monitor, .out] s t) ∧
  (∀ (i : Nat) (s t : State), exec (.tcapHeadPop i) s = .next t → Unchanged [Reg.TEV_TCAP_HEAD0, Reg.TEV_TCAP_HEAD1, Reg.TEV_TCAP_HEAD2,
    Reg.TEV_TCAP_HEAD3, Reg.TEV_TCAP_HEAD4] [.timers, .out] s t) ∧
  (∀ (s t : State), exec .ptmAutoTimer s = .next t → Unchanged [Reg.TEV_PTM_STATUS_BUSY] [.timers, .out] s t) ∧
  (∀ (s t : State), exec .ptmTrigger s = .next t → Unchanged (eventRows ++ [Reg.TEV_PTM_STATUS_BUSY, Reg.TEV_PTM_STATUS_RESULT,
    Reg.TEV_CNT_PTM_DIALOGUES, Reg.TEV_CNT_PTM_FAILED]) [.timers, .host, .out] s t) ∧
  (∀ (master : BitVec 64) (pdelay : BitVec 32) (s t : State), exec (.ptmResponse master pdelay) s = .next t → Unchanged (eventRows ++
    [Reg.TEV_PTM_STATUS_BUSY, Reg.TEV_PTM_STATUS_RESULT, Reg.TEV_CNT_PTM_DIALOGUES, Reg.TEV_CNT_PTM_FAILED]) [.timers, .host, .out] s t) ∧
  (∀ (s t : State), exec .ptmTimeout s = .next t → Unchanged (eventRows ++ [Reg.TEV_PTM_STATUS_BUSY, Reg.TEV_PTM_STATUS_RESULT,
    Reg.TEV_CNT_PTM_DIALOGUES, Reg.TEV_CNT_PTM_FAILED]) [.host, .out] s t) ∧
  (∀ (s t : State), exec .timeTick s = .next t → Unchanged [] [.time] s t) ∧
  (∀ (l : Leg) (msg : BitVec 384) (s t : State), exec (.msgCrcErr l msg) s = .next t → Unchanged [Reg.LINE_D0CNT_MSG_CRC_ERR] [.legA,
    .legB] s t)

/-- For each scheduler, classifier, cipher and sluice command that answers a next state: every register field but the rows named for it, every
other part of State but those named, and the queue are as before. A row that is named may change in any of its copies, and a part that is
named anywhere; what the command writes there is the matter of the statements about its effect. Rests on 06_upstream_scheduling.md,
07_downstream_classification.md, 08_line_cipher.md, 09_sluice_lanes.md. -/
def Obligations.FrameOfPathCommands : Prop :=
  (∀ (l : Leg) (slots : List (BitVec 128)) (crc : BitVec 32) (s t : State), exec (.sluiceRegion l slots crc) s = .next t → Unchanged
    [Reg.LINE_D0CNT_SLU_CRC_ERR, Reg.SLU_CNT_DN_RX, Reg.SLU_CNT_DN_MAPPED, Reg.SLU_CNT_DN_UNMAPPED] [.legA, .legB] s t) ∧
  (∀ (l : Leg) (w : Nat) (off : Nat) (hdr : BitVec 64) (payload : List Byte) (next : BitVec 64) (ecc : Option Nat) (s t : State), exec
    (.channelFrame l w off hdr payload next ecc) s = .next t → Unchanged (spillRows ++ [Reg.PWR_STATUS_STATE, Reg.PWR_STATUS_LAST_WAKE,
    Reg.LINE_WCNT_CF_HEC_ERR, Reg.LINE_WCNT_CF_INVALID, Reg.STBL_LEARN_PROD, Reg.CLS_CNT_LEARN_RECORDS, Reg.CLS_CNT_LEARN_LOST,
    Reg.CLS_CNT_DIVERGE, Reg.CLS_CNT_MIRRORS, Reg.CLS_CNT_PROC_COPIES, Reg.CLS_CNT_FAULT_A, Reg.CLS_CNT_FAULT_B, Reg.CIPH_CNT_DN_FRAMES,
    Reg.CIPH_CNT_SB_AUTH_OK, Reg.CIPH_CNT_SB_AUTH_FAIL, Reg.HIF_RX_IDX_CONS, Reg.HIF_RX_HELD, Reg.MEM_INSTC_UNCORR]) [.legA, .legB, .host,
    .classifier, .monitor, .out] s t) ∧
  (∀ (ring : Nat) (ecc : Bool) (s t : State), exec (.frameDelivery ring ecc) s = .next t → Unchanged (spillRows ++ [Reg.CLS_CNT_MIRRORS,
    Reg.CLS_CNT_PROC_COPIES, Reg.HIF_RX_IDX_CONS, Reg.HIF_RX_HELD, Reg.HIF_CNT_REPLAYED, Reg.MEM_INSTC_UNCORR]) [.legA, .legB, .host,
    .monitor, .out] s t) ∧
  (∀ (l : Leg) (msg : BitVec 384) (s t : State), exec (.keyExchange l msg) s = .next t → Unchanged (eventRows ++
    [Reg.LINE_D0CNT_MSG_CRC_ERR, Reg.LINE_D0CNT_MSG_DUP, Reg.LINE_D0CNT_MSG_OVERFLOW, Reg.CIPH_GEN_EPOCH, Reg.CIPH_KX_KX_STATE,
    Reg.CIPH_KX_KX_STATUS, Reg.CIPH_CNT_KX_DONE, Reg.CIPH_CNT_KX_FAIL, Reg.CIPH_CNT_KEY_LOADS, Reg.CIPH_CNT_KEYS_ERASED]) [.legA, .legB,
    .host, .cipher, .firmware, .requests, .txid, .freeIdx, .out] s t) ∧
  (∀ (l : Leg) (msg : BitVec 384) (s t : State), exec (.keySwitch l msg) s = .next t → Unchanged [Reg.LINE_D0CNT_MSG_CRC_ERR,
    Reg.LINE_D0CNT_MSG_DUP, Reg.CIPH_GEN_DN_PEND, Reg.CIPH_GEN_DN_NEXT, Reg.CIPH_GEN_UP_PEND, Reg.CIPH_GEN_UP_NEXT, Reg.CIPH_DN_EFF_LO,
    Reg.CIPH_DN_EFF_HI, Reg.CIPH_UP_EFF_LO, Reg.CIPH_UP_EFF_HI] [.legA, .legB] s t) ∧
  (∀ (l : Leg) (s t : State), exec (.keySwitchUpEffective l) s = .next t → Unchanged (eventRows ++ [Reg.CIPH_GEN_UP_CUR,
    Reg.CIPH_GEN_UP_PEND, Reg.CIPH_CNT_KEYS_ERASED]) [.legA, .legB, .host, .cipher, .out] s t) ∧
  (∀ (l : Leg) (s t : State), exec (.keySwitchDnEffective l) s = .next t → Unchanged (eventRows ++ [Reg.CIPH_GEN_DN_CUR,
    Reg.CIPH_GEN_DN_PEND, Reg.CIPH_CNT_KEYS_ERASED]) [.legA, .legB, .host, .cipher, .out] s t) ∧
  (∀ (l : Leg) (up : Bool) (s t : State), exec (.generationErase l up) s = .next t → Unchanged [Reg.CIPH_CNT_KEYS_ERASED] [.legA, .legB,
    .cipher] s t) ∧
  (∀ (s t : State), exec .tokenRefill s = .next t → Unchanged [] [.slots, .host] s t) ∧
  (∀ (l : Leg) (u : Nat) (start : Nat) (mem : List (Nat × List Byte)) (failed : List (Nat × ReadFault)) (ecc : List Nat) (s t : State),
    exec (.burstBuild l u start mem failed ecc) s = .next t → Unchanged (eventRows ++ [Reg.USCH_CT_STATUS_STARVED, Reg.USCH_CNT_BURSTS_BUILT,
    Reg.USCH_CNT_NO_CELLS, Reg.USCH_SCNT_STARVED, Reg.CIPH_CNT_UP_FRAMES, Reg.CIPH_CNT_NOKEY_TX, Reg.HIF_ERRLOG_STATUS_ERRLOG_LOST,
    Reg.HIF_CNT_CPL_TIMEOUT, Reg.HIF_CNT_CPL_MALFORMED, Reg.MEM_INSTC_UNCORR]) [.legA, .legB, .slots, .bursts, .ledger, .seqs, .host,
    .requests, .out] s t) ∧
  (∀ (l : Leg) (u : Nat) (start : Nat) (finished : Nat) (s t : State), exec (.buildDeadline l u start finished) s = .next t → Unchanged
    (eventRows ++ [Reg.USCH_CT_STATUS_LAST_CAUSE, Reg.USCH_CNT_UNWOUND_BURSTS, Reg.USCH_CNT_UNWOUND_FRAMES, Reg.USCH_CNT_BUILD_LATE,
    Reg.USCH_CNT_SEQ_SKIPPED, Reg.USCH_SCNT_UNWINDS]) [.legA, .legB, .slots, .bursts, .ledger, .host, .requests, .out] s t) ∧
  (∀ (slot : Nat) (s t : State), exec (.fallbackEnd slot) s = .next t → Unchanged [Reg.USCH_CT_STATUS_FB, Reg.USCH_CT_STATUS_FB_AUTO]
    [.slots] s t) ∧
  (∀ (ag : Agent) (s t : State), exec (.uschReset ag) s = .next t → Unchanged (idleExitRows ++ [Reg.USCH_STATUS_RESET_BUSY,
    Reg.USCH_CT_STATUS_FB, Reg.USCH_CT_STATUS_FB_AUTO, Reg.USCH_CT_STATUS_LAST_CAUSE, Reg.USCH_CNT_UNWOUND_BURSTS,
    Reg.USCH_CNT_UNWOUND_FRAMES, Reg.USCH_CNT_FB_ENTRIES, Reg.USCH_CNT_SEQ_SKIPPED, Reg.USCH_SCNT_UNWINDS]) [.legA, .legB, .slots, .bursts,
    .ledger, .host, .requests, .out] s t) ∧
  (∀ (s t : State), exec .uschResetDone s = .next t → Unchanged [Reg.USCH_STATUS_RESET_BUSY] [] s t) ∧
  (∀ (ag : Agent) (s t : State), exec (.queueRead ag) s = .next t → Unchanged (idleExitRows ++ [Reg.USCH_QCMD_STATUS, Reg.USCH_QDATA0_MODE,
    Reg.USCH_QDATA0_SHAPE_EN, Reg.USCH_QDATA0_OVH, Reg.USCH_QDATA0_WEIGHT, Reg.USCH_QDATA1_RATE0, Reg.USCH_QDATA2_BURST0,
    Reg.USCH_QDATA3_RATE1, Reg.USCH_QDATA4_BURST1, Reg.USCH_QDATA5_LEVEL0, Reg.USCH_QDATA6_LEVEL1, Reg.USCH_QDATA7_RESV0,
    Reg.USCH_QDATA8_CREDIT, Reg.USCH_QDATA9_HEAD, Reg.USCH_QDATA9_BLOCK]) [.fwRegs, .host, .out] s t) ∧
  (∀ (ag : Agent) (s t : State), exec (.queueWrite ag) s = .next t → Unchanged (idleExitRows ++ [Reg.USCH_QCMD_STATUS]) [.fwRegs, .host,
    .out] s t) ∧
  (∀ (ag : Agent) (s t : State), exec (.resetBuckets ag) s = .next t → Unchanged (idleExitRows ++ [Reg.USCH_QCMD_STATUS]) [.fwRegs, .host,
    .out] s t) ∧
  (∀ (ag : Agent) (slot : Nat) (off : Nat) (v : BitVec 32) (s t : State), exec (.containerSlotWrite ag slot off v) s = .next t → Unchanged
    (idleExitRows ++ [Reg.USCH_STATUS_WERR, Reg.USCH_CT_CTL_DISC, Reg.USCH_CT_CTL_SHAPE_EN, Reg.USCH_CT_CTL_SMODE, Reg.USCH_CT_CTL_OVH,
    Reg.USCH_CT_CTL_OWNER, Reg.USCH_CT_RATE0, Reg.USCH_CT_BURST0, Reg.USCH_CT_RATE1, Reg.USCH_CT_BURST1, Reg.USCH_CT_QUANTUM,
    Reg.USCH_CT_CREDIT_CAP, Reg.USCH_CT_BUFREP_EST, Reg.USCH_CT_STATUS_FB, Reg.USCH_CT_STATUS_STARVED, Reg.HIF_TX_CTL_EN,
    Reg.HIF_STATUS_WERR]) [.slots, .host, .out] s t) ∧
  (∀ (ag : Agent) (v : BitVec 32) (s t : State), exec (.uschAuditSnap ag v) s = .next t → Unchanged (idleExitRows ++
    [Reg.USCH_AUD_CTL_SLOT, Reg.USCH_AUD_CTL_BUCKET, Reg.USCH_AUD_CTL_B1, Reg.USCH_AUD_STATUS_SNAP_SEQ, Reg.USCH_AUD_CELL_FREE,
    Reg.USCH_AUD_CELL_RESERVED, Reg.USCH_AUD_CELL_COMMITTED, Reg.USCH_AUD_TOK_FILLED, Reg.USCH_AUD_TOK_TRIMMED, Reg.USCH_AUD_TOK_LEVEL,
    Reg.USCH_AUD_TOK_RESERVED, Reg.USCH_AUD_TOK_DEBITED, Reg.USCH_AUD_DESC_POSTED, Reg.USCH_AUD_DESC_IN_HOST, Reg.USCH_AUD_DESC_HEAD,
    Reg.USCH_AUD_DESC_RESERVED, Reg.USCH_AUD_DESC_COMMITTED, Reg.USCH_AUD_DESC_COMPLETED, Reg.USCH_AUD_GR_ACCEPTED_U0,
    Reg.USCH_AUD_GR_OPENED_U0, Reg.USCH_AUD_GR_REFUSED_U0, Reg.USCH_AUD_GR_ACCEPTED_U1, Reg.USCH_AUD_GR_OPENED_U1,
    Reg.USCH_AUD_GR_REFUSED_U1, Reg.USCH_AUD_BY_CAPACITY, Reg.USCH_AUD_BY_HEADER, Reg.USCH_AUD_BY_FRAME, Reg.USCH_AUD_BY_IDLE,
    Reg.USCH_AUD_GR_OTHER_U0, Reg.USCH_AUD_GR_OTHER_U1]) [.host, .out] s t) ∧
  (∀ (ag : Agent) (view : Nat) (s t : State), exec (.stblRead ag view) s = .next t → Unchanged (idleExitRows ++ [Reg.STBL_CMD_BUSY,
    Reg.STBL_CMD_STATUS, Reg.STBL_DATA]) [.fwRegs, .host, .classifier, .out] s t) ∧
  (∀ (ag : Agent) (stage : Bool) (s t : State), exec (.stblWrite ag stage) s = .next t → Unchanged (idleExitRows ++ [Reg.STBL_CMD_BUSY,
    Reg.STBL_CMD_STATUS, Reg.CLS_STAGE_CNT_STAGED]) [.fwRegs, .host, .classifier, .out] s t) ∧
  (∀ (ag : Agent) (stage : Bool) (s t : State), exec (.stblInvalidate ag stage) s = .next t → Unchanged (idleExitRows ++
    [Reg.STBL_CMD_BUSY, Reg.STBL_CMD_STATUS, Reg.CLS_STAGE_CNT_STAGED]) [.fwRegs, .host, .classifier, .out] s t) ∧
  (∀ (ag : Agent) (stage : Bool) (s t : State), exec (.compareAndWrite ag stage) s = .next t → Unchanged (idleExitRows ++
    [Reg.STBL_CMD_BUSY, Reg.STBL_CMD_STATUS, Reg.STBL_DATA, Reg.CLS_STAGE_CNT_STAGED]) [.fwRegs, .host, .classifier, .out] s t) ∧
  (∀ (ag : Agent) (s t : State), exec (.stblCmdDone ag) s = .next t → Unchanged (eventRows ++ [Reg.STBL_CMD_BUSY, Reg.STBL_CMD_STATUS])
    [.fwRegs, .host, .classifier, .out] s t) ∧
  (∀ (sid : Nat) (s t : State), exec (.learnHoldExpiry sid) s = .next t → Unchanged [] [.classifier] s t) ∧
  (∀ (ag : Agent) (s t : State), exec (.learnRearm ag) s = .next t → Unchanged idleExitRows [.host, .classifier, .out] s t) ∧
  (∀ (ag : Agent) (idx : Nat) (s t : State), exec (.statLatch ag idx) s = .next t → Unchanged (idleExitRows ++ [Reg.STBL_STAT_IDX,
    Reg.STBL_STAT_FRAMES, Reg.STBL_STAT_BYTES]) [.fwRegs, .host, .out] s t) ∧
  (∀ (ag : Agent) (s t : State), exec (.readNode ag) s = .next t → Unchanged (idleExitRows ++ [Reg.CLS_CMD_BUSY, Reg.CLS_CMD_STATUS,
    Reg.CLS_DATA]) [.fwRegs, .host, .classifier, .out] s t) ∧
  (∀ (ag : Agent) (s t : State), exec (.writeNode ag) s = .next t → Unchanged (idleExitRows ++ [Reg.CLS_CMD_BUSY, Reg.CLS_CMD_STATUS])
    [.fwRegs, .host, .classifier, .out] s t) ∧
  (∀ (ag : Agent) (s t : State), exec (.readRoot ag) s = .next t → Unchanged (idleExitRows ++ [Reg.CLS_CMD_BUSY, Reg.CLS_CMD_STATUS,
    Reg.CLS_DATA]) [.fwRegs, .host, .classifier, .out] s t) ∧
  (∀ (ag : Agent) (s t : State), exec (.writeRoot ag) s = .next t → Unchanged (idleExitRows ++ [Reg.CLS_CMD_BUSY, Reg.CLS_CMD_STATUS])
    [.fwRegs, .host, .classifier, .out] s t) ∧
  (∀ (ag : Agent) (s t : State), exec (.readProf ag) s = .next t → Unchanged (idleExitRows ++ [Reg.CLS_CMD_BUSY, Reg.CLS_CMD_STATUS,
    Reg.CLS_DATA]) [.fwRegs, .host, .classifier, .out] s t) ∧
  (∀ (ag : Agent) (s t : State), exec (.writeProf ag) s = .next t → Unchanged (idleExitRows ++ [Reg.CLS_CMD_BUSY, Reg.CLS_CMD_STATUS])
    [.fwRegs, .host, .classifier, .out] s t) ∧
  (∀ (ag : Agent) (s t : State), exec (.clsCmdDone ag) s = .next t → Unchanged (eventRows ++ [Reg.CLS_CMD_BUSY, Reg.CLS_CMD_STATUS])
    [.fwRegs, .host, .classifier, .out] s t) ∧
  (∀ (ag : Agent) (s t : State), exec (.commitOpen ag) s = .next t → Unchanged (idleExitRows ++ [Reg.CLS_COMMIT_STATUS_GROUP,
    Reg.CLS_COMMIT_STATUS_RESULT, Reg.CLS_STAGE_CNT_STAGED, Reg.CLS_CNT_COMMITS_REFUSED]) [.host, .classifier, .out] s t) ∧
  (∀ (ag : Agent) (version : Nat) (s t : State), exec (.commit ag version) s = .next t → Unchanged (idleExitRows ++
    [Reg.CLS_COMMIT_VERSION, Reg.CLS_COMMIT_STATUS_GROUP, Reg.CLS_COMMIT_STATUS_RESULT, Reg.CLS_CNT_COMMITS_REFUSED]) [.host, .classifier,
    .out] s t) ∧
  (∀ (ag : Agent) (s t : State), exec (.commitCancel ag) s = .next t → Unchanged (idleExitRows ++ [Reg.CLS_COMMIT_STATUS_GROUP,
    Reg.CLS_COMMIT_STATUS_RESULT, Reg.CLS_STAGE_CNT_STAGED]) [.host, .classifier, .out] s t) ∧
  (∀ (s t : State), exec .commitEffective s = .next t → Unchanged (eventRows ++ [Reg.CLS_COMMIT_STATUS_GROUP,
    Reg.CLS_COMMIT_STATUS_DRAINING, Reg.CLS_COMMIT_STATUS_CUR_VER, Reg.CLS_COMMIT_STATUS_DRAIN_VER, Reg.CLS_COMMIT_EFF_LO,
    Reg.CLS_COMMIT_EFF_HI, Reg.CLS_STAGE_CNT_STAGED, Reg.CLS_CNT_COMMITS]) [.host, .classifier, .admin, .out] s t) ∧
  (∀ (s t : State), exec .drainDone s = .next t → Unchanged (eventRows ++ [Reg.CLS_COMMIT_STATUS_GROUP, Reg.CLS_COMMIT_STATUS_DRAINING,
    Reg.CLS_COMMIT_STATUS_RESULT, Reg.CLS_CNT_COMMITS_REFUSED]) [.host, .classifier, .admin, .out] s t) ∧
  (∀ (s t : State), exec .versionExpired s = .next t → Unchanged (spillRows ++ [Reg.CLS_COMMIT_STATUS_GROUP,
    Reg.CLS_COMMIT_STATUS_DRAINING, Reg.CLS_COMMIT_STATUS_RESULT, Reg.CLS_CNT_COMMITS_REFUSED]) [.legA, .legB, .host, .classifier, .monitor,
    .admin, .out] s t) ∧
  (∀ (differ : List (Nat × Nat)) (s t : State), exec (.pipelineCompare differ) s = .next t → Unchanged (eventRows ++ [Reg.CLS_CNT_DIVERGE])
    [.host, .out] s t) ∧
  (∀ (ring : Nat) (src : HostRead) (s t : State), exec (.lookasideRequest ring src) s = .next t → Unchanged (eventRows ++
    [Reg.CIPH_CNT_LA_AUTH_FAIL, Reg.HIF_ERRLOG_STATUS_ERRLOG_LOST, Reg.HIF_CNT_CPL_TIMEOUT, Reg.HIF_CNT_CPL_MALFORMED]) [.host, .cipher,
    .out] s t) ∧
  (∀ (ring : Nat) (s t : State), exec (.lookasideDone ring) s = .next t → Unchanged (eventRows ++ [Reg.CIPH_CNT_LA_REQUESTS,
    Reg.CIPH_CNT_LA_BYTES, Reg.CIPH_CNT_DENIED]) [.host, .out] s t) ∧
  (∀ (ag : Agent) (s t : State), exec (.query ag) s = .next t → Unchanged (idleExitRows ++ [Reg.CIPH_SLOT_CMD_BUSY,
    Reg.CIPH_SLOT_CMD_STATUS, Reg.CIPH_SLOT_INFO_KIND, Reg.CIPH_SLOT_INFO_OWNER, Reg.CIPH_SLOT_INFO_LOADED]) [.fwRegs, .host, .cipher, .out]
    s t) ∧
  (∀ (ag : Agent) (s t : State), exec (.slotRead ag) s = .next t → Unchanged (idleExitRows ++ [Reg.CIPH_SLOT_CMD_BUSY,
    Reg.CIPH_SLOT_CMD_STATUS]) [.fwRegs, .host, .cipher, .out] s t) ∧
  (∀ (ag : Agent) (s t : State), exec (.slotErase ag) s = .next t → Unchanged (idleExitRows ++ [Reg.CIPH_SLOT_CMD_BUSY,
    Reg.CIPH_SLOT_CMD_STATUS, Reg.CIPH_CNT_KEYS_ERASED]) [.fwRegs, .host, .cipher, .out] s t) ∧
  (∀ (ag : Agent) (s t : State), exec (.slotCmdDone ag) s = .next t → Unchanged (eventRows ++ [Reg.CIPH_SLOT_CMD_BUSY,
    Reg.CIPH_SLOT_CMD_STATUS, Reg.CIPH_CNT_DENIED]) [.fwRegs, .host, .cipher, .out] s t) ∧
  (∀ (ag : Agent) (mask : Nat) (s t : State), exec (.keyRefresh ag mask) s = .next t → Unchanged idleExitRows [.host, .requests, .txid,
    .out] s t) ∧
  (∀ (ag : Agent) (s t : State), exec (.ciphLock ag) s = .next t → Unchanged (idleExitRows ++ [Reg.CIPH_PART_LOCK]) [.host, .out] s t) ∧
  (∀ (s t : State), exec .rngFail s = .next t → Unchanged (eventRows ++ [Reg.CIPH_STATUS_RNG_FAIL]) [.host, .out] s t) ∧
  (∀ (s t : State), exec .rngRecover s = .next t → Unchanged [Reg.CIPH_STATUS_RNG_FAIL] [] s t) ∧
  (∀ (lane : Nat) (s t : State), exec (.sluiceRecordWrite lane) s = .next t → Unchanged (eventRows ++ [Reg.SLU_DLANE_PROD,
    Reg.SLU_CNT_DN_ERR, Reg.SLU_CNT_DN_SHORT, Reg.SLU_CNT_DN_OVERRUN, Reg.SLU_CNT_AIS_RECORDS]) [.host, .sluice, .out] s t) ∧
  (∀ (lane : Nat) (sfc : BitVec 48) (fn : Nat) (data : HostRead) (s t : State), exec (.sluiceRecordRead lane sfc fn data) s = .next t →
    Unchanged (eventRows ++ [Reg.SLU_ULANE_CONS, Reg.SLU_CNT_UP_UNDERRUN, Reg.SLU_CNT_UP_FETCH_FAIL, Reg.HIF_ERRLOG_STATUS_ERRLOG_LOST,
    Reg.HIF_CNT_CPL_TIMEOUT, Reg.HIF_CNT_CPL_MALFORMED]) [.host, .sluice, .out] s t) ∧
  (∀ (ag : Agent) (v : BitVec 32) (s t : State), exec (.swapRequest ag v) s = .next t → Unchanged (eventRows ++ [Reg.SLU_STATUS_SWAP_PEND,
    Reg.SLU_SWAP_CTL_DN, Reg.SLU_SWAP_CTL_UP, Reg.SLU_SWAP_CTL_RESULT]) [.host, .sluice, .out] s t) ∧
  (∀ (ag : Agent) (s t : State), exec (.swapCancel ag) s = .next t → Unchanged (eventRows ++ [Reg.SLU_STATUS_SWAP_PEND,
    Reg.SLU_SWAP_CTL_RESULT]) [.host, .out] s t) ∧
  (∀ (up : Bool) (s t : State), exec (.swapEffective up) s = .next t → Unchanged (eventRows ++ [Reg.SLU_STATUS_DN_PAGE,
    Reg.SLU_STATUS_UP_PAGE, Reg.SLU_STATUS_SWAP_PEND, Reg.SLU_GRP_FAILED, Reg.SLU_CNT_SWAPS]) [.host, .sluice, .out] s t) ∧
  (∀ (ag : Agent) (up : Bool) (active : Bool) (s t : State), exec (.cmRead ag up active) s = .next t → Unchanged [Reg.SLU_CM_CMD_BUSY,
    Reg.SLU_CM_CMD_STATUS, Reg.SLU_CM_DATA] [.fwRegs, .sluice] s t) ∧
  (∀ (ag : Agent) (up : Bool) (s t : State), exec (.cmWrite ag up) s = .next t → Unchanged [Reg.SLU_CM_CMD_BUSY, Reg.SLU_CM_CMD_STATUS]
    [.fwRegs, .sluice] s t) ∧
  (∀ (ag : Agent) (up : Bool) (s t : State), exec (.cmCopy ag up) s = .next t → Unchanged [Reg.SLU_CM_CMD_BUSY, Reg.SLU_CM_CMD_STATUS]
    [.fwRegs, .sluice] s t) ∧
  (∀ (ag : Agent) (up : Bool) (s t : State), exec (.cmClear ag up) s = .next t → Unchanged [Reg.SLU_CM_CMD_BUSY, Reg.SLU_CM_CMD_STATUS]
    [.fwRegs, .sluice] s t) ∧
  (∀ (ag : Agent) (s t : State), exec (.cmCmdDone ag) s = .next t → Unchanged [Reg.SLU_CM_CMD_BUSY, Reg.SLU_CM_CMD_STATUS] [.fwRegs,
    .sluice] s t) ∧
  (∀ (ring : Nat) (s t : State), exec (.rxStarved ring) s = .next t → Unchanged eventRows [.host, .out] s t)

/-- For each protection, monitoring, sleep and module command that answers a next state: every register field but the rows named for it, every
other part of State but those named, and the queue are as before. A row that is named may change in any of its copies, and a part that is
named anywhere; what the command writes there is the matter of the statements about its effect. Rests on 10_protection_and_monitoring.md,
14_power_clocks_reset.md, 15_optical_modules.md. -/
def Obligations.FrameOfProtectionAndModuleCommands : Prop :=
  (∀ (l : Leg) (msg : BitVec 384) (s t : State), exec (.sleep l msg) s = .next t → Unchanged (eventRows ++ [Reg.PWR_STATUS_KEPT_LEG,
    Reg.PWR_SLEEP_CTL_CYCLE_SF, Reg.PWR_SLEEP_EFF_LO, Reg.PWR_SLEEP_EFF_HI, Reg.LINE_D0CNT_MSG_CRC_ERR, Reg.LINE_D0CNT_MSG_DUP,
    Reg.LINE_D0CNT_MSG_OVERFLOW, Reg.LINE_D0CNT_FIELD_REFUSED]) [.legA, .legB, .host, .firmware, .power, .requests, .out] s t) ∧
  (∀ (l : Leg) (msg : BitVec 384) (s t : State), exec (.protSwitch l msg) s = .next t → Unchanged (switchRows ++
    [Reg.LINE_D0CNT_MSG_CRC_ERR, Reg.LINE_D0CNT_MSG_DUP, Reg.LINE_D0CNT_MSG_OVERFLOW, Reg.PROT_CNT2_REFUSED]) [.legA, .legB, .time, .slots,
    .bursts, .ledger, .host, .classifier, .sluice, .protection, .monitor, .admin, .firmware, .requests, .out] s t) ∧
  (∀ (l : Leg) (msg : BitVec 384) (s t : State), exec (.response l msg) s = .next t → Unchanged (departRows ++ [Reg.LINE_D0CNT_MSG_CRC_ERR,
    Reg.LINE_D0CNT_MSG_DUP, Reg.LINE_D0CNT_MSG_OVERFLOW, Reg.ACT_CTL_ENABLE]) [.legA, .legB, .time, .slots, .bursts, .ledger, .host,
    .classifier, .sluice, .protection, .monitor, .admin, .firmware, .power, .requests, .out] s t) ∧
  (∀ (txid : Nat) (s t : State), exec (.requestRetryTimer txid) s = .next t → Unchanged (departRows ++ [Reg.ACT_CTL_ENABLE]) [.legA, .legB,
    .time, .slots, .bursts, .ledger, .host, .classifier, .sluice, .protection, .monitor, .admin, .power, .requests, .out] s t) ∧
  (∀ (l : Leg) (w : Nat) (s t : State), exec (.losDeclare l w) s = .next t → Unchanged defectRows [.legA, .legB, .time, .slots, .bursts,
    .ledger, .host, .classifier, .sluice, .protection, .monitor, .admin, .power, .requests, .out] s t) ∧
  (∀ (l : Leg) (w : Nat) (s t : State), exec (.losClear l w) s = .next t → Unchanged defectRows [.legA, .legB, .time, .slots, .bursts,
    .ledger, .host, .classifier, .sluice, .protection, .monitor, .admin, .power, .requests, .out] s t) ∧
  (∀ (l : Leg) (w : Nat) (s t : State), exec (.sfEvaluate l w) s = .next t → Unchanged defectRows [.legA, .legB, .time, .slots, .bursts,
    .ledger, .host, .classifier, .sluice, .protection, .monitor, .admin, .power, .requests, .out] s t) ∧
  (∀ (s t : State), exec .holdoffExpiry s = .next t → Unchanged (switchRows ++ [Reg.PROT_STATUS_FORCED, Reg.PROT_STATUS_NO_PROT,
    Reg.PROT_CNT2_HOLDOFF_ABANDONED, Reg.PROT_CNT2_NO_PROT_ENTRIES]) [.legA, .legB, .time, .slots, .bursts, .ledger, .host, .classifier,
    .sluice, .protection, .monitor, .admin, .requests, .out] s t) ∧
  (∀ (s t : State), exec .clear s = .next t → Unchanged (switchRows ++ [Reg.PROT_CMD_RESULT, Reg.PROT_STATUS_FORCED,
    Reg.PROT_STATUS_CMD_PEND, Reg.PROT_STATUS_NO_PROT, Reg.PROT_CNT2_REFUSED, Reg.PROT_CNT2_HOLDOFF_ABANDONED,
    Reg.PROT_CNT2_NO_PROT_ENTRIES]) [.legA, .legB, .time, .slots, .bursts, .ledger, .host, .classifier, .sluice, .protection, .monitor,
    .admin, .requests, .out] s t) ∧
  (∀ (l : Leg) (s t : State), exec (.forced l) s = .next t → Unchanged (switchRows ++ [Reg.PROT_CMD_RESULT, Reg.PROT_STATUS_FORCED,
    Reg.PROT_STATUS_CMD_PEND, Reg.PROT_STATUS_NO_PROT, Reg.PROT_CNT2_REFUSED, Reg.PROT_CNT2_HOLDOFF_ABANDONED,
    Reg.PROT_CNT2_NO_PROT_ENTRIES]) [.legA, .legB, .time, .slots, .bursts, .ledger, .host, .classifier, .sluice, .protection, .monitor,
    .admin, .requests, .out] s t) ∧
  (∀ (l : Leg) (s t : State), exec (.manual l) s = .next t → Unchanged (switchRows ++ [Reg.PROT_CMD_RESULT, Reg.PROT_STATUS_FORCED,
    Reg.PROT_STATUS_CMD_PEND, Reg.PROT_STATUS_NO_PROT, Reg.PROT_CNT2_REFUSED, Reg.PROT_CNT2_HOLDOFF_ABANDONED,
    Reg.PROT_CNT2_NO_PROT_ENTRIES]) [.legA, .legB, .time, .slots, .bursts, .ledger, .host, .classifier, .sluice, .protection, .monitor,
    .admin, .requests, .out] s t) ∧
  (∀ (l : Leg) (s t : State), exec (.fwForced l) s = .next t → Unchanged (switchRows ++ [Reg.PROT_CNT2_REFUSED]) [.legA, .legB, .time,
    .slots, .bursts, .ledger, .host, .classifier, .sluice, .protection, .monitor, .admin, .requests, .out] s t) ∧
  (∀ (s t : State), exec .switchDone s = .next t → Unchanged (defectRows ++ [Reg.PROT_CMD_RESULT, Reg.PROT_STATUS_CMD_PEND,
    Reg.PROT_LAST_SFC_LO, Reg.PROT_LAST_SFC_HI, Reg.PROT_CNT2_REFUSED]) [.legA, .legB, .time, .slots, .bursts, .ledger, .host, .classifier,
    .sluice, .protection, .monitor, .admin, .power, .requests, .txid, .out] s t) ∧
  (∀ (s t : State), exec .wtrExpiry s = .next t → Unchanged (switchRows ++ [Reg.PROT_CNT2_REFUSED]) [.legA, .legB, .time, .slots, .bursts,
    .ledger, .host, .classifier, .sluice, .protection, .monitor, .admin, .requests, .out] s t) ∧
  (∀ (s t : State), exec .pmSecond s = .next t → Unchanged (eventRows ++ [Reg.PROT_WTR_LEFT_SECONDS, Reg.PM_LEG_STATE]) [.legA, .legB,
    .host, .monitor, .out] s t) ∧
  (∀ (s t : State), exec .pmSecondCommit s = .next t → Unchanged (eventRows ++ [Reg.PM_LEG_UNAVAIL, Reg.PM_SEC_ES, Reg.PM_SEC_SES,
    Reg.PM_SEC_UAS, Reg.PM_SEC_SECONDS]) [.host, .monitor, .out] s t) ∧
  (∀ (s t : State), exec .binRoll s = .next t → Unchanged (eventRows ++ [Reg.PROT_RR_STATUS_REASONS, Reg.PM_CNT_BINS_15M,
    Reg.PM_CNT_BINS_24H, Reg.ADM_LOP1_PERMILLE, Reg.ADM_LOP2_DONE]) [.host, .monitor, .admin, .out] s t) ∧
  (∀ (ag : Agent) (v : BitVec 32) (s t : State), exec (.pmBinLatch ag v) s = .next t → Unchanged [Reg.PM_BIN_SEL_LEG, Reg.PM_BIN_SEL_WAVE,
    Reg.PM_BIN_SEL_KIND, Reg.PM_BIN_SEL_INDEX, Reg.PM_BIN_DATA] [.fwRegs] s t) ∧
  (∀ (ag : Agent) (l : Leg) (v : BitVec 32) (s t : State), exec (.pmTestWrite ag l v) s = .next t → Unchanged (eventRows ++
    [Reg.PM_LEG_STATE, Reg.PM_LEG_TEST]) [.host, .monitor, .out] s t) ∧
  (∀ (s t : State), exec .sleepStart s = .next t → Unchanged (lanesRows ++ [Reg.PWR_STATUS_STATE, Reg.PWR_CNT_SLEEP_ENTRIES,
    Reg.PWR_CNT_AWAKE_SF, Reg.TIME_STATUS_SRC, Reg.TIME_LEG_STATUS_USABLE]) [.legA, .legB, .time, .host, .monitor, .power, .out] s t) ∧
  (∀ (s t : State), exec .awakeStart s = .next t → Unchanged (lanesRows ++ [Reg.PWR_STATUS_STATE, Reg.PWR_CNT_AWAKE_SF,
    Reg.TIME_STATUS_SRC, Reg.TIME_LEG_STATUS_USABLE]) [.legA, .legB, .time, .host, .monitor, .power, .out] s t) ∧
  (∀ (s t : State), exec .dozeStart s = .next t → Unchanged (lanesRows ++ [Reg.PWR_STATUS_STATE, Reg.TIME_STATUS_SRC,
    Reg.TIME_LEG_STATUS_USABLE]) [.legA, .legB, .time, .host, .monitor, .power, .out] s t) ∧
  (∀ (code : Nat) (s t : State), exec (.sleepEnded code) s = .next t → Unchanged (departRows ++ [Reg.PWR_STATUS_STATE,
    Reg.PWR_STATUS_LAST_WAKE, Reg.ACT_CTL_ENABLE]) [.legA, .legB, .time, .slots, .bursts, .ledger, .host, .classifier, .sluice, .protection,
    .monitor, .admin, .power, .requests, .txid, .out] s t) ∧
  (∀ (s t : State), exec .sleepRetry s = .next t → Unchanged [] [.power, .requests, .txid] s t) ∧
  (∀ (l : Leg) (present : Bool) (s t : State), exec (.modulePresence l present) s = .next t → Unchanged (defectRows ++
    [Reg.OPT_STATUS_PRESENT, Reg.OPT_STATUS_ID_VALID, Reg.OPT_STATUS_BRINGUP, Reg.OPT_STATUS_CDR_LOCK]) [.legA, .legB, .time, .slots,
    .bursts, .ledger, .host, .classifier, .sluice, .protection, .monitor, .admin, .power, .requests, .out] s t) ∧
  (∀ (ag : Agent) (l : Leg) (v : BitVec 32) (s t : State), exec (.bringupStart ag l v) s = .next t → Unchanged (defectRows ++
    [Reg.OPT_CTL_LANES_EN, Reg.OPT_CTL_AUTO_RETRY, Reg.OPT_CTL_LOCK_MS, Reg.OPT_STATUS_BRINGUP, Reg.OPT_STATUS_CDR_LOCK,
    Reg.OPT_DSK_CMD_ALIGNED]) [.legA, .legB, .time, .slots, .bursts, .ledger, .host, .classifier, .sluice, .protection, .monitor, .admin,
    .power, .requests, .out] s t) ∧
  (∀ (l : Leg) (s t : State), exec (.bringupAttemptFail l) s = .next t → Unchanged (departRows ++ [Reg.ACT_CTL_ENABLE,
    Reg.PROT_RR_STATUS_REASONS, Reg.PROT_RR_DETAIL_LEG, Reg.OPT_STATUS_BRINGUP, Reg.OPT_STATUS_CDR_LOCK, Reg.OPT_STATUS_FAILS,
    Reg.OPT_CNT_BRINGUP_FAILS]) [.legA, .legB, .time, .slots, .bursts, .ledger, .host, .classifier, .sluice, .protection, .monitor, .admin,
    .power, .requests, .out] s t) ∧
  (∀ (l : Leg) (s t : State), exec (.bringupRetry l) s = .next t → Unchanged (defectRows ++ [Reg.OPT_STATUS_BRINGUP,
    Reg.OPT_STATUS_CDR_LOCK, Reg.OPT_DSK_CMD_ALIGNED]) [.legA, .legB, .time, .slots, .bursts, .ledger, .host, .classifier, .sluice,
    .protection, .monitor, .admin, .power, .requests, .out] s t) ∧
  (∀ (ag : Agent) (l : Leg) (w : Nat) (slip : Nat) (s t : State), exec (.slipWrite ag l w slip) s = .next t → Unchanged (defectRows ++
    [Reg.HG_CNT_DISAGREE, Reg.OPT_DSK_SLIP, Reg.OPT_DSK_CMD_ALIGNED, Reg.OPT_CNT_SLIPS]) [.legA, .legB, .time, .slots, .bursts, .ledger,
    .host, .classifier, .sluice, .protection, .monitor, .admin, .power, .requests, .out] s t) ∧
  (∀ (ag : Agent) (l : Leg) (mask : Nat) (s t : State), exec (.rehunt ag l mask) s = .next t → Unchanged (defectRows ++
    [Reg.HG_CNT_DISAGREE, Reg.OPT_DSK_CMD_ALIGNED, Reg.OPT_CNT_REHUNTS]) [.legA, .legB, .time, .slots, .bursts, .ledger, .host, .classifier,
    .sluice, .protection, .monitor, .admin, .power, .requests, .out] s t) ∧
  (∀ (l : Leg) (ack : Bool) (txFault : Bool) (ready : Bool) (duringTelem : Bool) (s t : State), exec (.safetyPoll l ack txFault ready
    duringTelem) s = .next t → Unchanged (lanesRows ++ spillRows ++ [Reg.HG_CTL_FORCE_TXDIS, Reg.HG_STATUS_TXDIS, Reg.HG_STATUS_BEN,
    Reg.HG_CNT_TX_ABORTED, Reg.OPT_SAFE_FAULT, Reg.OPT_SAFE_CAUSE, Reg.OPT_TELEM_AGE_AGE_MS, Reg.OPT_LIFE_ON_NS, Reg.OPT_CNT_SAFETY_POLLS,
    Reg.OPT_CNT_SAFETY_FAULTS, Reg.OPT_CNT_TELEM_PREEMPT, Reg.OPT_CNT_BUS_ERRORS]) [.legA, .legB, .time, .bursts, .ledger, .host, .monitor,
    .out] s t) ∧
  (∀ (l : Leg) (s t : State), exec (.moduleInterrupt l) s = .next t → Unchanged [] [.legA, .legB] s t) ∧
  (∀ (l : Leg) (t : Telemetry) (s t' : State), exec (.telemetryRead l t) s = .next t' → Unchanged (eventRows ++ [Reg.TIME_BOUND,
    Reg.TIME_BOUND_OWN, Reg.TIME_LEG_STATUS_LASER_LOW, Reg.TIME_LEG_ASYM, Reg.OPT_TELEM_TEMP_MOD_TEMP, Reg.OPT_TELEM_LASER_LASER_T,
    Reg.OPT_TELEM_LASER_FROM_CASE, Reg.OPT_TELEM_BIAS, Reg.OPT_TELEM_RXP_RX_POWER, Reg.OPT_TELEM_AGE_AGE_MS]) [.legA, .legB, .time, .host,
    .out] s t') ∧
  (∀ (l : Leg) (w : Nat) (clipped : Nat) (s t : State), exec (.rxovl l w clipped) s = .next t → Unchanged (eventRows ++
    [Reg.OPT_STATUS_RXOVL, Reg.OPT_CNT_OVL_FRAMES]) [.legA, .legB, .host, .out] s t) ∧
  (∀ (l : Leg) (acked : Bool) (s t : State), exec (.lifeRecordWrite l acked) s = .next t → Unchanged [Reg.OPT_CNT_BUS_ERRORS,
    Reg.OPT_CNT_PAGE_WRITES] [.legA, .legB, .out] s t) ∧
  (∀ (l : Leg) (s t : State), exec (.biasSample l) s = .next t → Unchanged (eventRows ++ [Reg.PROT_RR_STATUS_REASONS,
    Reg.PROT_RR_DETAIL_LEG, Reg.OPT_LIFE_I_I_BOL, Reg.OPT_LIFE_I_I_EOL, Reg.OPT_LIFE_SLOPE, Reg.OPT_LIFE_STAT_DAYS_LEFT,
    Reg.OPT_LIFE_STAT_FIT_VALID, Reg.OPT_LIFE_DUTY_DUTY_PM]) [.legA, .legB, .host, .freeIdx, .out] s t) ∧
  (∀ (l : Leg) (w : Nat) (s t : State), exec (.cdrLock l w) s = .next t → Unchanged [Reg.OPT_STATUS_BRINGUP, Reg.OPT_STATUS_CDR_LOCK] [] s
    t) ∧
  (∀ (l : Leg) (id : ModuleId) (s t : State), exec (.moduleIdentityRead l id) s = .next t → Unchanged [Reg.TIME_LEG_ASYM,
    Reg.TIME_LEG_LASER_U_KT, Reg.TIME_LEG_LASER_U_KI, Reg.TIME_LEG_LASER_REF_T_REF, Reg.TIME_LEG_LASER_REF_I_REF, Reg.OPT_STATUS_ID_VALID,
    Reg.OPT_STATUS_HIST_UNKNOWN, Reg.OPT_BUS_CTL_FAST, Reg.OPT_ID_VENDOR, Reg.OPT_ID_PART, Reg.OPT_ID_SERIAL, Reg.OPT_ID_REV,
    Reg.OPT_ID_DATE, Reg.OPT_ID_CMIS_CMIS_REV, Reg.OPT_LIFE_ON_NS, Reg.OPT_LIFE_I_I_BOL, Reg.OPT_LIFE_I_I_EOL, Reg.OPT_LIFE_SLOPE,
    Reg.OPT_LIFE_STAT_DAYS_LEFT, Reg.OPT_LIFE_STAT_DARK_FAIL, Reg.OPT_LIFE_STAT_FIT_VALID] [.legA, .legB, .freeIdx] s t)

/-- For each host interface, mailbox, memory and register command that answers a next state: every register field but the rows named for it,
every other part of State but those named, and the queue are as before. A row that is named may change in any of its copies, and a part
that is named anywhere; what the command writes there is the matter of the statements about its effect. A command that may start the
machine anew names only parts. A write by the PF or a management core to a word of the LINE, MEM and EVT windows changes no field outside
that word and no other part, but that the PF's uses flow control credits and, in D3hot, is answered as unsupported. Rests on
11_host_interface_and_rings.md, 12_mailboxes_and_admin.md, 16_register_map_and_wrap.md. -/
def Obligations.FrameOfHostCommands : Prop :=
  (∀ (ag : Agent) (addr : Nat) (s t : State), exec (.latchedRead ag addr) s = .next t → Unchanged (idleExitRows ++ [Reg.TEV_TCAP_HEAD0,
    Reg.TEV_TCAP_HEAD1, Reg.TEV_TCAP_HEAD2, Reg.TEV_TCAP_HEAD3, Reg.TEV_TCAP_HEAD4, Reg.HIF_ERRLOG_POP, Reg.EVT_LOG_POP]) [.latches, .timers,
    .host, .mailboxes, .out] s t) ∧
  (∀ (f : Nat) (kind : RingKind) (k : Nat) (v : BitVec 64) (width : Nat) (hi : Bool) (s t : State), exec (.doorbell f kind k v width hi) s
    = .next t → Unchanged (idleExitRows ++ [Reg.HIF_TX_IDX_PROD, Reg.HIF_TX_IDX_CONS, Reg.HIF_RX_IDX_PROD, Reg.HIF_RX_IDX_CONS,
    Reg.HIF_CQ_IDX_PROD, Reg.HIF_CQ_IDX_CONS, Reg.HIF_EQ_IDX_CONS, Reg.HIF_ERRLOG_STATUS_ERRLOG_LOST, Reg.HIF_CNT_DB_ACCEPTED,
    Reg.HIF_CNT_DB_DISCARDED, Reg.ADM_SQ_IDX_SQ_PROD, Reg.ADM_SQ_IDX_SQ_CONS, Reg.ADM_CQ_IDX_CQ_CONS, Reg.ADM_CQ_IDX_CQ_PROD]) [.host,
    .admin, .out] s t) ∧
  (∀ (kind : RingKind) (ring : Nat) (data : Option (List Byte)) (s t : State), exec (.descriptorFetch kind ring data) s = .next t →
    Unchanged (ringErrRows ++ eventRows ++ [Reg.TEV_CNT_LT_REFUSED, Reg.HIF_TX_HELD, Reg.HIF_RX_HELD, Reg.HIF_ERRLOG_STATUS_ERRLOG_LOST,
    Reg.HIF_CNT_DESC_FETCHED]) [.host, .out] s t) ∧
  (∀ (tag : Nat) (mine : Bool) (bytes : List Byte) (lenOk : Bool) (good : Bool) (s t : State), exec (.hostReadCompletion tag mine bytes
    lenOk good) s = .next t → Unchanged (ringErrRows ++ eventRows ++ [Reg.TEV_CNT_LT_REFUSED, Reg.HIF_TX_HELD, Reg.HIF_RX_HELD,
    Reg.HIF_ERRLOG_STATUS_ERRLOG_LOST, Reg.HIF_CNT_DESC_FETCHED, Reg.HIF_CNT_CPL_TIMEOUT, Reg.HIF_CNT_CPL_MALFORMED,
    Reg.HIF_CNT_CPL_UNEXPECTED]) [.host, .out] s t) ∧
  (∀ (tag : Nat) (s t : State), exec (.completionTimeout tag) s = .next t → Unchanged (ringErrRows ++ eventRows ++
    [Reg.HIF_ERRLOG_STATUS_ERRLOG_LOST, Reg.HIF_CNT_CPL_TIMEOUT, Reg.HIF_CNT_CPL_MALFORMED]) [.host, .out] s t) ∧
  (∀ (s t : State), exec .linkDown s = .next t → Unchanged (linkRows ++ [Reg.HIF_LINK_UP, Reg.HIF_CNT_LINK_DOWNS]) [.timers, .host,
    .mailboxes, .out] s t) ∧
  (∀ (rate : Nat) (width : Nat) (s t : State), exec (.linkTrained rate width) s = .next t → Unchanged (linkRows ++ [Reg.HIF_LINK_RATE,
    Reg.HIF_LINK_WIDTH, Reg.HIF_LINK_UP]) [.timers, .host, .mailboxes, .out] s t) ∧
  (∀ (ag : Agent) (s t : State), exec (.resume ag) s = .next t → Unchanged (eventRows ++ [Reg.HIF_TX_IDX_CONS, Reg.HIF_TX_HELD,
    Reg.HIF_RX_IDX_CONS, Reg.HIF_RX_HELD, Reg.HIF_CQ_IDX_PROD, Reg.HIF_CQ_SEQ, Reg.HIF_CQ_CWR_CNT, Reg.HIF_FN_STATUS_HOLD, Reg.HIF_LINK_HOLD,
    Reg.HIF_CNT_RX_FRAMES, Reg.HIF_CNT_RX_BYTES, Reg.HIF_CNT_TX_COMPLETIONS, Reg.HIF_CNT_REPLAYED, Reg.ADM_CQ_IDX_CQ_PROD]) [.host, .admin,
    .out] s t) ∧
  (∀ (ag : Agent) (s t : State), exec (.discard ag) s = .next t → Unchanged (heldRows ++ [Reg.HIF_LINK_HOLD]) [.legA, .legB, .slots,
    .bursts, .ledger, .host, .admin, .requests, .out] s t) ∧
  (∀ (s t : State), exec .linkHoldExpired s = .next t → Unchanged (heldRows ++ [Reg.HIF_LINK_HOLD, Reg.ADM_LOP0_STATE]) [.legA, .legB,
    .slots, .bursts, .ledger, .host, .admin, .requests, .out] s t) ∧
  (∀ (f : Nat) (s t : State), exec (.bmeSet f) s = .next t → Unchanged (eventRows ++ [Reg.HIF_TX_IDX_CONS, Reg.HIF_TX_HELD,
    Reg.HIF_RX_IDX_CONS, Reg.HIF_RX_HELD, Reg.HIF_CQ_IDX_PROD, Reg.HIF_CQ_SEQ, Reg.HIF_CQ_CWR_CNT, Reg.HIF_FN_STATUS_BME,
    Reg.HIF_FN_STATUS_HOLD, Reg.HIF_CNT_RX_FRAMES, Reg.HIF_CNT_RX_BYTES, Reg.HIF_CNT_TX_COMPLETIONS, Reg.HIF_CNT_REPLAYED,
    Reg.ADM_CQ_IDX_CQ_PROD]) [.host, .admin, .out] s t) ∧
  (∀ (ag : Agent) (kind : RingKind) (ring : Nat) (v : BitVec 32) (s t : State), exec (.ringEnable ag kind ring v) s = .next t → Unchanged
    (heldRows ++ ringErrRows ++ [Reg.HIF_TX_CTL_SIZE, Reg.HIF_TX_CTL_OWNER, Reg.HIF_TX_IDX_PROD, Reg.HIF_TX_IDX_CONS, Reg.HIF_RX_CTL_SIZE,
    Reg.HIF_RX_CTL_LA, Reg.HIF_RX_CTL_OWNER, Reg.HIF_RX_IDX_PROD, Reg.HIF_RX_IDX_CONS, Reg.HIF_CQ_CTL_SIZE, Reg.HIF_CQ_CTL_OWNER,
    Reg.HIF_CQ_IDX_PROD, Reg.HIF_CQ_IDX_CONS, Reg.HIF_CQ_SEQ, Reg.HIF_EQ_CTL_SIZE, Reg.HIF_EQ_CTL_OWNER, Reg.HIF_EQ_IDX_CONS,
    Reg.HIF_STATUS_WERR, Reg.ADM_SQ_CTL_SQ_SIZE, Reg.ADM_SQ_IDX_SQ_PROD, Reg.ADM_SQ_IDX_SQ_CONS, Reg.ADM_CQ_CTL_CQ_SIZE, Reg.ADM_CQ_CTL_VEC,
    Reg.ADM_CQ_CTL_INT_EN, Reg.ADM_CQ_IDX_CQ_CONS, Reg.ADM_CQ_IDX_CQ_PROD]) [.legA, .legB, .slots, .bursts, .ledger, .host, .admin,
    .requests, .out] s t) ∧
  (∀ (ag : Agent) (kind : RingKind) (ring : Nat) (v : BitVec 32) (s t : State), exec (.ringDisable ag kind ring v) s = .next t → Unchanged
    (heldRows ++ ringErrRows ++ [Reg.HIF_TX_CTL_SIZE, Reg.HIF_TX_CTL_OWNER, Reg.HIF_TX_IDX_PROD, Reg.HIF_TX_IDX_CONS, Reg.HIF_RX_CTL_SIZE,
    Reg.HIF_RX_CTL_LA, Reg.HIF_RX_CTL_OWNER, Reg.HIF_RX_IDX_PROD, Reg.HIF_RX_IDX_CONS, Reg.HIF_CQ_CTL_SIZE, Reg.HIF_CQ_CTL_OWNER,
    Reg.HIF_CQ_IDX_PROD, Reg.HIF_CQ_IDX_CONS, Reg.HIF_CQ_SEQ, Reg.HIF_EQ_CTL_SIZE, Reg.HIF_EQ_CTL_OWNER, Reg.HIF_EQ_IDX_CONS,
    Reg.HIF_STATUS_WERR, Reg.ADM_SQ_CTL_SQ_SIZE, Reg.ADM_SQ_IDX_SQ_PROD, Reg.ADM_SQ_IDX_SQ_CONS, Reg.ADM_CQ_CTL_CQ_SIZE, Reg.ADM_CQ_CTL_VEC,
    Reg.ADM_CQ_CTL_INT_EN, Reg.ADM_CQ_IDX_CQ_CONS, Reg.ADM_CQ_IDX_CQ_PROD]) [.legA, .legB, .slots, .bursts, .ledger, .host, .admin,
    .requests, .out] s t) ∧
  (∀ (ag : Agent) (q : Nat) (s t : State), exec (.flush ag q) s = .next t → Unchanged (eventRows ++ [Reg.USCH_CT_STATUS_LAST_CAUSE,
    Reg.USCH_CNT_UNWOUND_BURSTS, Reg.USCH_CNT_UNWOUND_FRAMES, Reg.USCH_CNT_SEQ_SKIPPED, Reg.USCH_SCNT_UNWINDS, Reg.HIF_TX_CTL_FLUSH_BUSY])
    [.legA, .legB, .slots, .bursts, .ledger, .host, .requests, .out] s t) ∧
  (∀ (q : Nat) (s t : State), exec (.flushDone q) s = .next t → Unchanged (eventRows ++ [Reg.HIF_TX_CTL_EN, Reg.HIF_TX_CTL_FLUSH_BUSY])
    [.host, .out] s t) ∧
  (∀ (cq : Nat) (s t : State), exec (.completionWrite cq) s = .next t → Unchanged (eventRows ++ [Reg.HIF_TX_IDX_CONS, Reg.HIF_TX_HELD,
    Reg.HIF_RX_IDX_CONS, Reg.HIF_RX_HELD, Reg.HIF_CQ_IDX_PROD, Reg.HIF_CQ_SEQ, Reg.HIF_CQ_CWR_CNT, Reg.HIF_CNT_RX_FRAMES,
    Reg.HIF_CNT_RX_BYTES, Reg.HIF_CNT_TX_COMPLETIONS]) [.host, .out] s t) ∧
  (∀ (kind : RingKind) (ring : Nat) (s t : State), exec (.msixModerationTimer kind ring) s = .next t → Unchanged [] [.host, .out] s t) ∧
  (∀ (ag : Agent) (v : BitVec 32) (s t : State), exec (.replay ag v) s = .next t → Unchanged [Reg.HIF_REPLAY_CTL_RP_CQ,
    Reg.HIF_REPLAY_CTL_RP_CSEQ, Reg.HIF_REPLAY_STATUS_RP_STATUS, Reg.HIF_REPLAY_DATA] [.fwRegs] s t) ∧
  (∀ (f : Nat) (s t : State), exec (.vfFlr f) s = .next t → Unchanged (eventRows ++ [Reg.USCH_CT_STATUS_LAST_CAUSE,
    Reg.USCH_CNT_UNWOUND_BURSTS, Reg.USCH_CNT_UNWOUND_FRAMES, Reg.USCH_CNT_SEQ_SKIPPED, Reg.USCH_SCNT_UNWINDS, Reg.CIPH_CNT_KEYS_ERASED,
    Reg.HIF_TX_CTL_EN, Reg.HIF_TX_CTL_FLUSH_BUSY, Reg.HIF_TX_HELD, Reg.HIF_RX_CTL_EN, Reg.HIF_RX_HELD, Reg.HIF_CQ_CTL_EN, Reg.HIF_EQ_CTL_EN,
    Reg.HIF_FN_STATUS_BME, Reg.HIF_FN_STATUS_FLR_BUSY, Reg.MBX_CNT_FETCH_FAILS]) [.legA, .legB, .slots, .bursts, .ledger, .host, .cipher,
    .mailboxes, .requests, .out] s t) ∧
  (∀ (s t : State), exec .pfFlr s = .next t → Unchanged (heldRows ++ [Reg.CIPH_CNT_KEYS_ERASED, Reg.HIF_FN_STATUS_ENABLED,
    Reg.HIF_FN_STATUS_BME, Reg.HIF_FN_STATUS_FLR_BUSY, Reg.MBX_CNT_FETCH_FAILS, Reg.ADM_LOP0_STATE]) [.legA, .legB, .timers, .slots, .bursts,
    .ledger, .host, .cipher, .mailboxes, .admin, .requests, .out] s t) ∧
  (∀ (f : Nat) (s t : State), exec (.flrDone f) s = .next t → Unchanged (eventRows ++ [Reg.HIF_FN_STATUS_FLR_BUSY, Reg.HIF_CNT_FLRS])
    [.host, .out] s t) ∧
  (∀ (s t : State), exec .hifAuditCheck s = .next t → Unchanged (eventRows ++ [Reg.HIF_AUD_STATUS_MISMATCH, Reg.HIF_CNT_AUD_FAIL]) [.host,
    .out] s t) ∧
  (∀ (ag : Agent) (v : BitVec 32) (s t : State), exec (.hifAuditSnap ag v) s = .next t → Unchanged [Reg.HIF_AUD_CTL_AUD_RING,
    Reg.HIF_AUDP_POST_POSTED, Reg.HIF_AUDP_POST_IN_HOST, Reg.HIF_AUDP_POST_HELD, Reg.HIF_AUDP_POST_USED, Reg.HIF_AUDP_POST_DISCARDED,
    Reg.HIF_AUDC_ADVERTISED, Reg.HIF_AUDC_RECEIVED, Reg.HIF_AUDC_FREE, Reg.HIF_AUDC_OCCUPIED, Reg.HIF_AUDC_BUFFER, Reg.HIF_AUDR_CPL_BUFFER,
    Reg.HIF_AUDR_CPL_RESERVED, Reg.HIF_AUDR_CPL_OCCUPIED, Reg.HIF_AUDR_CPL_FREE] [] s t) ∧
  (∀ (ag : Agent) (s t : State), exec (.evtLogPop ag) s = .next t → Unchanged [Reg.EVT_LOG_POP] [.host, .out] s t) ∧
  (∀ (f : Nat) (s t : State), exec (.errlogPop f) s = .next t → Unchanged [Reg.HIF_ERRLOG_POP] [.host, .out] s t) ∧
  (∀ (f : Nat) (write : Bool) (v : BitVec 64) (s t : State), exec (.barAccess f write v) s = .next t → Unchanged (eventRows ++
    [Reg.HIF_ERRLOG_STATUS_ERRLOG_LOST]) [.host, .out] s t) ∧
  (∀ (ag : Agent) (v : BitVec 32) (s t : State), exec (.mbxSend ag v) s = .next t → Unchanged (eventRows ++ [Reg.MBX_CNT_MESSAGES,
    Reg.MBX_CNT_REFUSED, Reg.MBX_CNT_COLLISIONS]) [.host, .mailboxes, .out] s t) ∧
  (∀ (ag : Agent) (n : Nat) (s t : State), exec (.mbxStatusRead ag n) s = .next t → Unchanged [] [.mailboxes, .out] s t) ∧
  (∀ (ag : Agent) (n : Nat) (seq : Nat) (s t : State), exec (.mbxAck ag n seq) s = .next t → Unchanged [Reg.MBX_CNT_ACK_STALE] [.mailboxes,
    .out] s t) ∧
  (∀ (ag : Agent) (v : BitVec 32) (s t : State), exec (.mbxFetch ag v) s = .next t → Unchanged (eventRows ++
    [Reg.HIF_ERRLOG_STATUS_ERRLOG_LOST, Reg.HIF_CNT_CPL_TIMEOUT, Reg.HIF_CNT_CPL_MALFORMED, Reg.MBX_CNT_COLLISIONS, Reg.MBX_CNT_FETCH_FAILS,
    Reg.MBX_CNT_NOTICES, Reg.MBX_CNT_NOTICE_LOST]) [.host, .mailboxes, .out] s t) ∧
  (∀ (ag : Agent) (result : HostRead) (s t : State), exec (.mbxFetchDone ag result) s = .next t → Unchanged (eventRows ++
    [Reg.HIF_ERRLOG_STATUS_ERRLOG_LOST, Reg.HIF_CNT_CPL_TIMEOUT, Reg.HIF_CNT_CPL_MALFORMED, Reg.MBX_CNT_COLLISIONS, Reg.MBX_CNT_FETCHES,
    Reg.MBX_CNT_FETCH_FAILS, Reg.MBX_CNT_NOTICES, Reg.MBX_CNT_NOTICE_LOST]) [.host, .mailboxes, .out] s t) ∧
  (∀ (ag : Agent) (write : Bool) (v : BitVec 32) (s t : State), exec (.mbxSwAccess ag write v) s = .next t → Unchanged [] [.mailboxes,
    .out] s t) ∧
  (∀ (ag : Agent) (n : Nat) (owner : Nat) (s t : State), exec (.mbxOwnerWrite ag n owner) s = .next t → Unchanged [Reg.MBX_OWN_OWNER,
    Reg.MBX_STATUS_WERR] [] s t) ∧
  (∀ (n : Nat) (off : BitVec 32) (len : Nat) (s t : State), exec (.mctpMbxSend n off len) s = .next t → Unchanged (eventRows ++
    [Reg.MBX_CNT_MESSAGES, Reg.MBX_CNT_REFUSED, Reg.MBX_CNT_COLLISIONS]) [.host, .mailboxes, .out] s t) ∧
  (∀ (n : Nat) (s t : State), exec (.mctpMbxRead n) s = .next t → Unchanged [] [.mailboxes, .out] s t) ∧
  (∀ (n : Nat) (seq : Nat) (s t : State), exec (.mctpMbxAck n seq) s = .next t → Unchanged [Reg.MBX_CNT_ACK_STALE] [.mailboxes, .out] s t) ∧
  (∀ (off : BitVec 32) (data : List Byte) (s t : State), exec (.swWrite off data) s = .next t → Unchanged [] [.mailboxes, .out] s t) ∧
  (∀ (off : BitVec 32) (len : Nat) (s t : State), exec (.swRead off len) s = .next t → Unchanged [] [.out] s t) ∧
  (∀ (inst : Nat) (row : Nat) (err : Nat) (table : Nat) (idx : Nat) (s t : State), exec (.scrubVisit inst row err table idx) s = .next t →
    Unchanged (lossRows ++ bootRows ++ opsRows ++ [Reg.CLS_CNT_DIVERGE, Reg.PROT_RR_STATUS_REASONS, Reg.PROT_RR_DETAIL_MEM_ID,
    Reg.ADM_STATUS_FW_PRESENT, Reg.FW_DR_STATUS_LAST_CAUSE, Reg.FW_CNT_RESTARTS, Reg.FW_CNT_AUTOPILOTS, Reg.MEM_SCRUB_STATUS_PASS_MS,
    Reg.MEM_INST_SPARES_USED, Reg.MEM_INST_STATUS_LOW, Reg.MEM_INST_STATUS_EXHAUSTED, Reg.MEM_INST_STATUS_LAST_ROW, Reg.MEM_INSTC_CORR,
    Reg.MEM_INSTC_UNCORR]) [.legA, .legB, .slots, .host, .classifier, .cipher, .sluice, .monitor, .mailboxes, .admin, .firmware, .memory,
    .out] s t) ∧
  (∀ (ag : Agent) (addr : Nat) (v : BitVec 32) (s t : State), ag = .pf ∨ ag.isFw = true → addr % 4 = 0 → addr / 65536 = 0x02 ∨ addr / 65536
    = 0x03 ∨ addr / 65536 = 0x33 ∨ addr / 65536 = 0x34 → exec (.registerWrite ag addr v) s = .next t →
    (∀ R l i, Row.inMap R = true →
    Row.copy R l i → Row.reach R addr ≠ some (l, i, false) → t.rd R l i = s.rd R l i) ∧ PartsBut (if ag = .pf then [.host, .out] else []) s
    t) ∧
  (∀ (f : Nat) (item : ConfigItem) (v : Nat) (s t : State), exec (.configurationWrite f item v) s = .next t → PartsBut [.fwRegs, .latches,
    .legA, .legB, .time, .timers, .slots, .bursts, .ledger, .seqs, .host, .classifier, .cipher, .sluice, .protection, .monitor, .mailboxes,
    .admin, .firmware, .power, .memory, .requests, .txid, .freeIdx, .out] s t) ∧
  (∀ (f : Nat) (kind : Unsupported) (s t : State), exec (.unsupportedRequest f kind) s = .next t → Unchanged [] [.host, .out] s t) ∧
  (∀ (ag : Agent) (addr : Nat) (s t : State), exec (.registerAccess ag addr) s = .next t → Unchanged (idleExitRows ++ [Reg.TEV_TCAP_HEAD0,
    Reg.TEV_TCAP_HEAD1, Reg.TEV_TCAP_HEAD2, Reg.TEV_TCAP_HEAD3, Reg.TEV_TCAP_HEAD4, Reg.HIF_ERRLOG_POP, Reg.EVT_LOG_POP]) [.latches, .timers,
    .host, .mailboxes, .out] s t)

/-- For each admin, firmware, power and reset command that answers a next state: every register field but the rows named for it, every other
part of State but those named, and the queue are as before. A row that is named may change in any of its copies, and a part that is named
anywhere; what the command writes there is the matter of the statements about its effect. A command that may start the machine anew names
only parts. A write by the PF or a management core to a word of the LINE, MEM and EVT windows changes no field outside that word and no
other part, but that the PF's uses flow control credits and, in D3hot, is answered as unsupported. Rests on 12_mailboxes_and_admin.md,
13_firmware_and_lifecycle.md, 14_power_clocks_reset.md. -/
def Obligations.FrameOfManagementCommands : Prop :=
  (∀ (e : List Byte) (s t : State), exec (.nop e) s = .next t → Unchanged takeRows [.host, .admin, .out] s t) ∧
  (∀ (e : List Byte) (s t : State), exec (.identify e) s = .next t → Unchanged takeRows [.host, .admin, .out] s t) ∧
  (∀ (e : List Byte) (s t : State), exec (.queryOp e) s = .next t → Unchanged takeRows [.host, .admin, .out] s t) ∧
  (∀ (e : List Byte) (s t : State), exec (.suspend e) s = .next t → Unchanged (takeRows ++ [Reg.ADM_LOP0_STATE]) [.host, .admin, .out] s t) ∧
  (∀ (e : List Byte) (s t : State), exec (.resumeOp e) s = .next t → Unchanged (takeRows ++ [Reg.ADM_LOP0_STATE, Reg.ADM_LOP1_PERMILLE,
    Reg.ADM_LOP2_DONE]) [.host, .admin, .out] s t) ∧
  (∀ (e : List Byte) (s t : State), exec (.cancel e) s = .next t → Unchanged (takeRows ++ [Reg.ADM_LOP0_STATE]) [.host, .admin, .out] s t) ∧
  (∀ (e : List Byte) (s t : State), exec (.settingsSave e) s = .next t → Unchanged takeRows [.host, .admin, .firmware, .out] s t) ∧
  (∀ (e : List Byte) (key : HostRead) (s t : State), exec (.keyLoadCmd e key) s = .next t → Unchanged (takeRows ++ [Reg.CIPH_CNT_DENIED,
    Reg.HIF_ERRLOG_STATUS_ERRLOG_LOST, Reg.HIF_CNT_CPL_TIMEOUT, Reg.HIF_CNT_CPL_MALFORMED]) [.host, .cipher, .admin, .out] s t) ∧
  (∀ (e : List Byte) (s t : State), exec (.keyErase e) s = .next t → Unchanged (takeRows ++ [Reg.CIPH_CNT_DENIED,
    Reg.CIPH_CNT_KEYS_ERASED]) [.host, .cipher, .admin, .out] s t) ∧
  (∀ (e : List Byte) (s t : State), exec (.fwActivate e) s = .next t → Unchanged (opsRows ++ longRows) [.legA, .legB, .host, .classifier,
    .monitor, .admin, .out] s t) ∧
  (∀ (e : List Byte) (s t : State), exec (.fwConfirm e) s = .next t → Unchanged (takeRows ++ [Reg.FW_STATUS_TRIAL, Reg.FW_BOOTREC_SEQ,
    Reg.FW_BOOTREC_FLAGS, Reg.FW_BOOTREC_FLAGS_TRIAL_MIN]) [.host, .admin, .firmware, .out] s t) ∧
  (∀ (e : List Byte) (s t : State), exec (.lcTransition e) s = .next t → Unchanged (takeRows ++ [Reg.GEN_LC_LC_STATE,
    Reg.GEN_LC_LC_PENDING, Reg.CIPH_HEKEY_HASH, Reg.CIPH_CNT_KEYS_ERASED, Reg.FW_CTL_ALLOW_UNTESTED, Reg.FW_LC_STATE, Reg.FW_LC_PENDING,
    Reg.FW_LC_PEND_TGT, Reg.FW_LC_COSIGN_USED]) [.legA, .legB, .host, .cipher, .mailboxes, .admin, .firmware, .out] s t) ∧
  (∀ (e : List Byte) (key : HostRead) (s t : State), exec (.cosignEnrol e key) s = .next t → Unchanged (takeRows ++ slotRows ++
    [Reg.GEN_LC_LC_STATE, Reg.GEN_LC_LC_PENDING, Reg.HIF_ERRLOG_STATUS_ERRLOG_LOST, Reg.HIF_CNT_CPL_TIMEOUT, Reg.HIF_CNT_CPL_MALFORMED,
    Reg.FW_CTL_ALLOW_UNTESTED, Reg.FW_LC_STATE, Reg.FW_LC_PENDING, Reg.FW_LC_PEND_TGT, Reg.FW_LC_COSIGN_USED]) [.host, .admin, .firmware,
    .out] s t) ∧
  (∀ (e : List Byte) (hdr : HostRead) (s t : State), exec (.fwDownload e hdr) s = .next t → Unchanged (longRows ++ slotRows ++
    [Reg.HIF_ERRLOG_STATUS_ERRLOG_LOST, Reg.HIF_CNT_CPL_TIMEOUT, Reg.HIF_CNT_CPL_MALFORMED, Reg.ADM_LOP2_DONE]) [.host, .monitor, .admin,
    .firmware, .out] s t) ∧
  (∀ (e : List Byte) (s t : State), exec (.fwVerify e) s = .next t → Unchanged longRows [.host, .monitor, .admin, .out] s t) ∧
  (∀ (e : List Byte) (s t : State), exec (.scrubFull e) s = .next t → Unchanged longRows [.host, .monitor, .admin, .out] s t) ∧
  (∀ (e : List Byte) (s t : State), exec (.tableBulkLoad e) s = .next t → Unchanged (longRows ++ [Reg.CLS_COMMIT_STATUS_GROUP,
    Reg.CLS_COMMIT_STATUS_RESULT, Reg.CLS_STAGE_CNT_STAGED, Reg.CLS_CNT_COMMITS_REFUSED]) [.host, .classifier, .monitor, .admin, .out] s t) ∧
  (∀ (e : List Byte) (s t : State), exec (.dispersionSweep e) s = .next t → Unchanged longRows [.legA, .legB, .host, .monitor, .admin,
    .out] s t) ∧
  (∀ (e : List Byte) (s t : State), exec (.laserCharacterise e) s = .next t → Unchanged longRows [.host, .monitor, .admin, .out] s t) ∧
  (∀ (e : List Byte) (s t : State), exec (.selfTest e) s = .next t → Unchanged longRows [.host, .monitor, .admin, .out] s t) ∧
  (∀ (e : List Byte) (s t : State), exec (.pmExport e) s = .next t → Unchanged longRows [.host, .monitor, .admin, .out] s t) ∧
  (∀ (h : Nat) (work : OpWork) (s t : State), exec (.longOpProgress h work) s = .next t → Unchanged (opsRows ++ slotRows ++
    [Reg.CLS_CNT_COMMITS_REFUSED, Reg.HIF_ERRLOG_STATUS_ERRLOG_LOST, Reg.HIF_CNT_CPL_TIMEOUT, Reg.HIF_CNT_CPL_MALFORMED,
    Reg.ADM_CQ_IDX_CQ_PROD, Reg.ADM_CNT_REFUSED, Reg.ADM_CNT_LONG_OK, Reg.ADM_CNT_LONG_CANCELLED, Reg.FW_CNT_BLOCKS_WRITTEN]) [.legA, .legB,
    .host, .classifier, .monitor, .admin, .firmware, .out] s t) ∧
  (∀ (h : Nat) (s t : State), exec (.longOpSafePoint h) s = .next t → Unchanged (opsRows ++ [Reg.ADM_CQ_IDX_CQ_PROD, Reg.ADM_CNT_REFUSED,
    Reg.ADM_CNT_LONG_OK, Reg.ADM_CNT_LONG_CANCELLED, Reg.FW_BOOTREC_SEQ, Reg.FW_BOOTREC_FLAGS, Reg.FW_BOOTREC_FLAGS_TRIAL_MIN,
    Reg.FW_CNT_REVERTS]) [.legA, .legB, .host, .classifier, .monitor, .admin, .firmware, .out] s t) ∧
  (∀ (h : Nat) (fin : OpFinish) (s t : State), exec (.longOpComplete h fin) s = .next t → Unchanged (departRows ++ slotRows ++
    [Reg.ACT_CTL_ENABLE, Reg.TIME_LEG_STATUS_FIT_VALID, Reg.TIME_LEG_FIT_K, Reg.TIME_LEG_FIT_L0, Reg.TIME_LEG_FIT_LEN,
    Reg.TIME_LEG_FIT_RESID, Reg.TIME_LEG_ASYM, Reg.TIME_LEG_LASER_U_KT, Reg.TIME_LEG_LASER_U_KI, Reg.TIME_LEG_LASER_REF_T_REF,
    Reg.TIME_LEG_LASER_REF_I_REF, Reg.CLS_COMMIT_STATUS_GROUP, Reg.CLS_COMMIT_STATUS_RESULT, Reg.CLS_STAGE_CNT_STAGED,
    Reg.PROT_RR_STATUS_REASONS, Reg.PROT_RR_DETAIL_LEG, Reg.FW_CNT_VERIFY_FAIL]) [.legA, .legB, .time, .slots, .bursts, .ledger, .host,
    .classifier, .sluice, .protection, .monitor, .admin, .firmware, .power, .requests, .freeIdx, .out] s t) ∧
  (∀ (h : Nat) (s t : State), exec (.suspendTimeout h) s = .next t → Unchanged (opsRows ++ [Reg.ADM_CQ_IDX_CQ_PROD, Reg.ADM_CNT_REFUSED,
    Reg.ADM_CNT_LONG_OK, Reg.ADM_CNT_LONG_CANCELLED]) [.legA, .legB, .host, .classifier, .monitor, .admin, .out] s t) ∧
  (∀ (v : BitVec 16) (s t : State), exec (.heartbeat v) s = .next t → PartsBut [.legA, .legB, .time, .timers, .slots, .bursts, .ledger,
    .host, .classifier, .cipher, .sluice, .protection, .monitor, .mailboxes, .admin, .firmware, .power, .requests, .txid, .freeIdx, .out] s
    t) ∧
  (∀ (s t : State), exec .hbLost s = .next t → Unchanged (bootRows ++ opsRows ++ [Reg.ADM_STATUS_FW_PRESENT, Reg.FW_DR_STATUS_LAST_CAUSE,
    Reg.FW_CNT_RESTARTS, Reg.FW_CNT_AUTOPILOTS]) [.legA, .legB, .host, .classifier, .cipher, .monitor, .mailboxes, .admin, .firmware,
    .freeIdx, .out] s t) ∧
  (∀ (s t : State), exec .autopilotExpired s = .next t → Unchanged (bootRows ++ qualityRows ++ spillRows ++ [Reg.HG_STATUS_BEN,
    Reg.HG_CNT_TX_ABORTED, Reg.OPT_LIFE_ON_NS, Reg.FW_DR_STATUS_LAST_CAUSE, Reg.FW_CNT_RESTARTS, Reg.FW_CNT_AUTOPILOT_EXPIRED]) [.legA,
    .legB, .time, .bursts, .ledger, .host, .cipher, .monitor, .mailboxes, .firmware, .freeIdx, .out] s t) ∧
  (∀ (s t : State), exec .firstHeartbeatLate s = .next t → Unchanged (bootRows ++ [Reg.FW_DR_STATUS_LAST_CAUSE, Reg.FW_CNT_RESTARTS])
    [.legA, .legB, .host, .cipher, .mailboxes, .firmware, .freeIdx, .out] s t) ∧
  (∀ (s t : State), exec .plannedAbsence s = .next t → Unchanged (bootRows ++ opsRows ++ [Reg.ADM_STATUS_FW_PRESENT,
    Reg.FW_DR_STATUS_LAST_CAUSE, Reg.FW_CNT_RESTARTS, Reg.FW_CNT_AUTOPILOTS]) [.legA, .legB, .host, .classifier, .cipher, .monitor,
    .mailboxes, .admin, .firmware, .out] s t) ∧
  (∀ (l : Leg) (s t : State), exec (.microcodeBankSwitch l) s = .next t → Unchanged (eventRows ++ [Reg.PM_LEG_STATE,
    Reg.ADM_CQ_IDX_CQ_PROD, Reg.ADM_LOP0_HANDLE, Reg.ADM_LOP0_OPCODE, Reg.ADM_LOP0_STATE, Reg.ADM_LOP1_PERMILLE, Reg.ADM_LOP1_CID,
    Reg.ADM_LOP2_DONE, Reg.ADM_LOP3_TOTAL, Reg.ADM_CNT_REFUSED, Reg.ADM_CNT_LONG_OK, Reg.ADM_CNT_LONG_CANCELLED, Reg.ADM_CNT_LONG_FAILED,
    Reg.FW_CNT_ACTIVATIONS]) [.legA, .legB, .host, .monitor, .admin, .firmware, .out] s t) ∧
  (∀ (s t : State), exec .trialWindowExpiry s = .next t → Unchanged (bootRows ++ opsRows ++ [Reg.ADM_STATUS_FW_PRESENT,
    Reg.FW_DR_STATUS_LAST_CAUSE, Reg.FW_CNT_RESTARTS, Reg.FW_CNT_AUTOPILOTS]) [.legA, .legB, .host, .classifier, .cipher, .monitor,
    .mailboxes, .admin, .firmware, .out] s t) ∧
  (∀ (ag : Agent) (v : BitVec 32) (s t : State), exec (.lcArm ag v) s = .next t → Unchanged [] [.firmware] s t) ∧
  (∀ (s t : State), exec .idleEnter s = .next t → Unchanged (eventRows ++ [Reg.PWR_STATUS_STATE, Reg.PWR_CNT_IDLE_ENTRIES]) [.host, .out] s
    t) ∧
  (∀ (s t : State), exec .perstAssert s = .next t → Unchanged (linkRows ++ heldRows ++ [Reg.PWR_STATUS_PERST, Reg.CIPH_CNT_KEYS_ERASED,
    Reg.HIF_LINK_UP, Reg.HIF_CNT_LINK_DOWNS, Reg.ADM_LOP0_STATE]) [.legA, .legB, .timers, .slots, .bursts, .ledger, .host, .cipher,
    .mailboxes, .admin, .power, .requests, .txid, .out] s t) ∧
  (∀ (s t : State), exec .perstDeassert s = .next t → Unchanged (eventRows ++ [Reg.PWR_STATUS_PERST]) [.host, .power, .out] s t) ∧
  (∀ (target : Option Nat) (s t : State), exec (.bmcPowerRequest target) s = .next t → Unchanged (linkRows ++ [Reg.PWR_CTL_TARGET,
    Reg.HIF_LINK_UP, Reg.HIF_CNT_LINK_DOWNS]) [.timers, .host, .mailboxes, .power, .requests, .txid, .out] s t) ∧
  (∀ (s t : State), exec .wakeIn s = .next t → PartsBut [.fwRegs, .latches, .legA, .legB, .time, .timers, .slots, .bursts, .ledger, .seqs,
    .host, .classifier, .cipher, .sluice, .protection, .monitor, .mailboxes, .admin, .firmware, .power, .memory, .requests, .txid, .freeIdx,
    .out] s t) ∧
  (∀ (s t : State), exec .aonTimer s = .next t → Unchanged [] [.power] s t) ∧
  (∀ (s t : State), exec .deepSleepEntry s = .next t → PartsBut [.fwRegs, .latches, .legA, .legB, .time, .timers, .slots, .bursts, .ledger,
    .seqs, .host, .classifier, .cipher, .sluice, .protection, .monitor, .mailboxes, .admin, .firmware, .power, .memory, .requests, .txid,
    .freeIdx, .out] s t) ∧
  (∀ (ticks : Nat) (crcOk : Bool) (s t : State), exec (.deepSleepExit ticks crcOk) s = .next t → PartsBut [.fwRegs, .latches, .legA, .legB,
    .time, .timers, .slots, .bursts, .ledger, .seqs, .host, .classifier, .cipher, .sluice, .protection, .monitor, .mailboxes, .admin,
    .firmware, .power, .memory, .requests, .txid, .freeIdx, .out] s t) ∧
  (∀ (s t : State), exec .brownOut s = .next t → PartsBut [.fwRegs, .latches, .legA, .legB, .time, .timers, .slots, .bursts, .ledger,
    .seqs, .host, .classifier, .cipher, .sluice, .protection, .monitor, .mailboxes, .admin, .firmware, .power, .memory, .requests, .txid,
    .freeIdx, .out] s t) ∧
  (∀ (boot : BootInput) (s t : State), exec (.pwrGoodRise boot) s = .next t → PartsBut [.fwRegs, .latches, .legA, .legB, .time, .timers,
    .slots, .bursts, .ledger, .seqs, .host, .classifier, .cipher, .sluice, .protection, .monitor, .mailboxes, .admin, .firmware, .power,
    .memory, .requests, .txid, .freeIdx, .out] s t) ∧
  (∀ (s t : State), exec .pwrGoodFall s = .next t → PartsBut [.fwRegs, .latches, .legA, .legB, .time, .timers, .slots, .bursts, .ledger,
    .seqs, .host, .classifier, .cipher, .sluice, .protection, .monitor, .mailboxes, .admin, .firmware, .power, .memory, .requests, .txid,
    .freeIdx, .out] s t) ∧
  (∀ (ag : Agent) (v : BitVec 32) (s t : State), exec (.cold ag v) s = .next t → PartsBut [.fwRegs, .latches, .legA, .legB, .time, .timers,
    .slots, .bursts, .ledger, .seqs, .host, .classifier, .cipher, .sluice, .protection, .monitor, .mailboxes, .admin, .firmware, .power,
    .memory, .requests, .txid, .freeIdx, .out] s t) ∧
  (∀ (ag : Agent) (v : BitVec 32) (s t : State), exec (.warm ag v) s = .next t → Unchanged (bootRows ++ opsRows ++ [Reg.PWR_RST_CAUSE,
    Reg.PWR_CNT_WARM_RESETS, Reg.USCH_CT_STATUS_FB, Reg.USCH_CT_STATUS_FB_AUTO, Reg.USCH_CT_STATUS_LAST_CAUSE, Reg.USCH_CNT_UNWOUND_BURSTS,
    Reg.USCH_CNT_UNWOUND_FRAMES, Reg.USCH_CNT_FB_ENTRIES, Reg.USCH_CNT_SEQ_SKIPPED, Reg.USCH_SCNT_UNWINDS, Reg.ADM_STATUS_FW_PRESENT,
    Reg.FW_CTL_TRIAL_MIN, Reg.FW_CNT_AUTOPILOTS]) [.legA, .legB, .slots, .bursts, .ledger, .host, .classifier, .cipher, .monitor, .mailboxes,
    .admin, .firmware, .requests, .freeIdx, .out] s t) ∧
  (∀ (s t : State), exec .refLoss s = .next t → Unchanged (qualityRows ++ [Reg.PWR_STATUS_REF_OK]) [.time, .host, .monitor, .out] s t) ∧
  (∀ (s t : State), exec .refRestored s = .next t → Unchanged (bootRows ++ [Reg.PWR_STATUS_REF_OK, Reg.TIME_BOUND, Reg.TIME_BOUND_OWN,
    Reg.PROT_RR_STATUS_REASONS, Reg.FW_LC_MARGIN_LOW, Reg.FW_FLASH_SFDP_OK, Reg.FW_FLASH_SIZE_MIB]) [.legA, .legB, .time, .host, .cipher,
    .mailboxes, .firmware, .power, .out] s t) ∧
  (∀ (rail : Rail) (s t : State), exec (.railLoss rail) s = .next t → Unchanged [Reg.HG_STATUS_TXDIS] [] s t) ∧
  (∀ (s t : State), exec .activateWarmReset s = .next t → Unchanged (bootRows ++ opsRows ++ [Reg.PWR_RST_CAUSE, Reg.PWR_CNT_WARM_RESETS,
    Reg.USCH_CT_STATUS_FB, Reg.USCH_CT_STATUS_FB_AUTO, Reg.USCH_CT_STATUS_LAST_CAUSE, Reg.USCH_CNT_UNWOUND_BURSTS,
    Reg.USCH_CNT_UNWOUND_FRAMES, Reg.USCH_CNT_FB_ENTRIES, Reg.USCH_CNT_SEQ_SKIPPED, Reg.USCH_SCNT_UNWINDS, Reg.ADM_STATUS_FW_PRESENT,
    Reg.FW_CTL_TRIAL_MIN, Reg.FW_CNT_AUTOPILOTS, Reg.FW_CNT_ACTIVATIONS]) [.legA, .legB, .slots, .bursts, .ledger, .host, .classifier,
    .cipher, .monitor, .mailboxes, .admin, .firmware, .requests, .out] s t) ∧
  (∀ (s t : State), exec .xt32kStable s = .next t → Unchanged [Reg.PWR_STATUS_XT_OK] [] s t)
end

