-- ==== Sys2Proof/Laws/Rows.lean ====
section
/-! SUPPORT. No two fields of the register map share a place: a write of one leaves every copy of the others as it was. -/

namespace Sys2Proof.Machine

/-- The number of the window an address lies in; the two of the line and the thirty-two of the host interface count as one. -/
def tabOf (a : Nat) : Nat := let w := a / 65536; if w = 3 then 2 else if 16 ≤ w ∧ w < 48 then 16 else w

/-- The fields of the map by the place they begin at, each with a number. -/
inductive FieldTree where
  | leaf (n : Nat) (R : Row)
  | node (key : Nat) (l r : FieldTree)

def FieldTree.find (k : Nat) : FieldTree → Nat × Row
  | .leaf n R => (n, R)
  | .node c l r => bif Nat.blt k c then l.find k else r.find k

def FieldTree.toList : FieldTree → List Row
  | .leaf _ R => [R]
  | .node _ l r => l.toList ++ r.toList

def fieldTreeGEN : FieldTree :=
  .node 512 (.node 256 (.node 16 (.leaf 0 Reg.GEN_ID_PART) (.leaf 1 Reg.GEN_ID_STEPPING)) (.node 258 (.leaf 2 Reg.GEN_LC_LC_STATE) (.node 259 (.leaf
  3 Reg.GEN_LC_LC_PENDING) (.leaf 4 Reg.GEN_LC_ORDER_X)))) (.node 1024 (.node 768 (.leaf 5 Reg.GEN_SERIAL_LO) (.leaf 6 Reg.GEN_SERIAL_HI)) (.node
  4096 (.leaf 7 Reg.GEN_ENTERPRISE) (.node 10240 (.leaf 8 Reg.GEN_IDKEY) (.leaf 9 Reg.GEN_ROOTHASH))))

def fieldTreePWR : FieldTree :=
  .node 4195072 (.node 4194317 (.node 4194313 (.node 4194308 (.node 4194307 (.leaf 10 Reg.PWR_STATUS_STATE) (.leaf 11 Reg.PWR_STATUS_READY)) (.node
  4194312 (.leaf 12 Reg.PWR_STATUS_LAST_WAKE) (.leaf 13 Reg.PWR_STATUS_REF_OK))) (.node 4194315 (.node 4194314 (.leaf 14 Reg.PWR_STATUS_XT_OK) (.leaf
  15 Reg.PWR_STATUS_PERST)) (.node 4194316 (.leaf 16 Reg.PWR_STATUS_LP_MODE) (.leaf 17 Reg.PWR_STATUS_BROWN_OUT)))) (.node 4194816 (.node 4194564
  (.node 4194560 (.leaf 18 Reg.PWR_STATUS_KEPT_LEG) (.leaf 19 Reg.PWR_CTL_IDLE_EN)) (.node 4194576 (.leaf 20 Reg.PWR_CTL_IDLE_US) (.leaf 21
  Reg.PWR_CTL_TARGET))) (.node 4194832 (.node 4194824 (.leaf 22 Reg.PWR_SLEEP_CTL_CYCLE_REQ) (.leaf 23 Reg.PWR_SLEEP_CTL_CYCLE_SF)) (.node 4194842
  (.leaf 24 Reg.PWR_SLEEP_CTL_LEAD_US) (.leaf 25 Reg.PWR_SLEEP_CTL_RETRY_S))))) (.node 4196360 (.node 4195848 (.node 4195584 (.node 4195328 (.leaf 26
  Reg.PWR_SLEEP_EFF_LO) (.leaf 27 Reg.PWR_SLEEP_EFF_HI)) (.node 4195840 (.leaf 28 Reg.PWR_AON_TIMER_SECONDS) (.leaf 29 Reg.PWR_AON_CTL_PPM))) (.node
  4196352 (.node 4196097 (.leaf 30 Reg.PWR_AON_CTL_LP_LIMIT_MA) (.leaf 31 Reg.PWR_WAKE_EN)) (.node 4196353 (.leaf 32 Reg.PWR_RST_CTL_WARM) (.leaf 33
  Reg.PWR_RST_CTL_COLD)))) (.node 4211712 (.node 4210688 (.node 4196608 (.leaf 34 Reg.PWR_RST_CTL_KEY) (.leaf 35 Reg.PWR_RST_CAUSE)) (.node 4211200
  (.leaf 36 Reg.PWR_CNT_IDLE_ENTRIES) (.leaf 37 Reg.PWR_CNT_SLEEP_ENTRIES))) (.node 4212736 (.node 4212224 (.leaf 38 Reg.PWR_CNT_AWAKE_SF) (.leaf 39
  Reg.PWR_CNT_DEEP_ENTRIES)) (.node 4213248 (.leaf 40 Reg.PWR_CNT_BROWN_OUTS) (.leaf 41 Reg.PWR_CNT_WARM_RESETS)))))

def fieldTreeLINE : FieldTree :=
  .node 8421888 (.node 8390664 (.node 8388872 (.node 8388616 (.node 8388612 (.leaf 42 Reg.LINE_DLN_CTL_SYNC_TOL) (.leaf 43
  Reg.LINE_DLN_CTL_SYNC_CONFIRM)) (.node 8388864 (.leaf 44 Reg.LINE_DLN_CTL_SYNC_LOSE) (.leaf 45 Reg.LINE_DLN_STATUS_STATE))) (.node 8389376 (.node
  8389120 (.leaf 46 Reg.LINE_DLN_STATUS_CF_HUNT) (.leaf 47 Reg.LINE_SFC_LO)) (.node 8389392 (.leaf 48 Reg.LINE_SFC_HI) (.node 8390656 (.leaf 49
  Reg.LINE_SFC_HI_FN) (.leaf 50 Reg.LINE_REQ_CTL_RETRY_SF))))) (.node 8392716 (.node 8392712 (.node 8392704 (.leaf 51 Reg.LINE_REQ_CTL_RETRIES)
  (.leaf 52 Reg.LINE_PROF_PRE_GRAINS)) (.node 8392713 (.leaf 53 Reg.LINE_PROF_PRE_PAT) (.leaf 54 Reg.LINE_PROF_DLM_GRAINS))) (.node 8392960 (.node
  8392735 (.leaf 55 Reg.LINE_PROF_WAVES) (.leaf 56 Reg.LINE_PROF_VALID)) (.node 8393216 (.leaf 57 Reg.LINE_PROF_DLM_LO) (.node 8421376 (.leaf 58
  Reg.LINE_PROF_DLM_HI) (.leaf 59 Reg.LINE_WCNT_FRAMES)))))) (.node 8439296 (.node 8423936 (.node 8422912 (.node 8422400 (.leaf 60
  Reg.LINE_WCNT_HDR_CRC_ERR) (.leaf 61 Reg.LINE_WCNT_HDR_MISMATCH)) (.node 8423424 (.leaf 62 Reg.LINE_WCNT_CF_HEC_ERR) (.leaf 63
  Reg.LINE_WCNT_CF_INVALID))) (.node 8437760 (.node 8424448 (.leaf 64 Reg.LINE_WCNT_CORR_BITS) (.leaf 65 Reg.LINE_WCNT_UNCORR_CW)) (.node 8438272
  (.leaf 66 Reg.LINE_D0CNT_PART_CRC_ERR) (.node 8438784 (.leaf 67 Reg.LINE_D0CNT_ALLOC_HEC_ERR) (.leaf 68 Reg.LINE_D0CNT_ALLOC_DROPPED))))) (.node
  8441344 (.node 8440320 (.node 8439808 (.leaf 69 Reg.LINE_D0CNT_TOD_REJECT) (.leaf 70 Reg.LINE_D0CNT_MSG_CRC_ERR)) (.node 8440832 (.leaf 71
  Reg.LINE_D0CNT_MSG_UNKNOWN) (.leaf 72 Reg.LINE_D0CNT_MSG_DUP))) (.node 8442368 (.node 8441856 (.leaf 73 Reg.LINE_D0CNT_REVISE_IGNORED) (.leaf 74
  Reg.LINE_D0CNT_SLU_CRC_ERR)) (.node 8442880 (.leaf 75 Reg.LINE_D0CNT_MSG_OVERFLOW) (.node 8443392 (.leaf 76 Reg.LINE_D0CNT_EFF_REFUSED) (.leaf 77
  Reg.LINE_D0CNT_FIELD_REFUSED))))))

def fieldTreeACT : FieldTree :=
  .node 16779008 (.node 16777744 (.node 16777476 (.node 16777472 (.leaf 78 Reg.ACT_CTL_ENABLE) (.node 16777475 (.leaf 79 Reg.ACT_STATUS_STATE) (.leaf
  80 Reg.ACT_STATUS_TN_VALID))) (.node 16777477 (.leaf 81 Reg.ACT_STATUS_RANGED) (.node 16777728 (.leaf 82 Reg.ACT_STATUS_TN) (.leaf 83
  Reg.ACT_ATTEMPT_ATTEMPTS)))) (.node 16778496 (.node 16777984 (.leaf 84 Reg.ACT_ATTEMPT_SKIP_LEFT) (.node 16778240 (.leaf 85
  Reg.ACT_REG_CTL_LISTEN_SF) (.leaf 86 Reg.ACT_RNG_CTL_TIMEOUT_SF))) (.node 16778527 (.node 16778502 (.leaf 87 Reg.ACT_EQD_EQD_FINE) (.leaf 88
  Reg.ACT_EQD_EQD_GRAINS)) (.node 16778752 (.leaf 89 Reg.ACT_EQD_PENDING) (.leaf 90 Reg.ACT_EQD_NEXT))))) (.node 16794112 (.node 16779532 (.node
  16779264 (.leaf 91 Reg.ACT_EQD_EFF_LO) (.node 16779520 (.leaf 92 Reg.ACT_EQD_EFF_HI) (.leaf 93 Reg.ACT_KR_CTL_INTERVAL_SF))) (.node 16779776 (.leaf
  94 Reg.ACT_KR_CTL_MISS_LIMIT) (.node 16793600 (.leaf 95 Reg.ACT_KR_STATUS_SF_SINCE) (.leaf 96 Reg.ACT_CNT_REG_ATTEMPTS)))) (.node 16795648 (.node
  16794624 (.leaf 97 Reg.ACT_CNT_REG_COLLISIONS) (.node 16795136 (.leaf 98 Reg.ACT_CNT_RANGE_BURSTS) (.leaf 99 Reg.ACT_CNT_RANGE_MISSES))) (.node
  16796672 (.node 16796160 (.leaf 100 Reg.ACT_CNT_EQD_APPLIED) (.leaf 101 Reg.ACT_CNT_EQD_REFUSED)) (.node 16797184 (.leaf 102
  Reg.ACT_CNT_DEACTIVATIONS) (.leaf 103 Reg.ACT_CNT_WAKE_ATTEMPTS)))))

def fieldTreeHG : FieldTree :=
  .node 20973568 (.node 20971791 (.node 20971778 (.node 20971776 (.node 20971521 (.leaf 104 Reg.HG_CTL_TX_ALLOW) (.leaf 105 Reg.HG_CTL_FORCE_TXDIS))
  (.node 20971777 (.leaf 106 Reg.HG_STATUS_ROGUE) (.leaf 107 Reg.HG_STATUS_ESTOP))) (.node 20971780 (.node 20971779 (.leaf 108 Reg.HG_STATUS_RANGED)
  (.leaf 109 Reg.HG_STATUS_TN_VALID)) (.node 20971790 (.leaf 110 Reg.HG_STATUS_TN) (.leaf 111 Reg.HG_STATUS_ACTIVE)))) (.node 20972800 (.node
  20972032 (.node 20971792 (.leaf 112 Reg.HG_STATUS_TXDIS) (.leaf 113 Reg.HG_STATUS_BEN)) (.node 20972288 (.leaf 114 Reg.HG_CAP_CEIL) (.leaf 115
  Reg.HG_CAP_LIMIT))) (.node 20973312 (.node 20973056 (.leaf 116 Reg.HG_MAXB_CEIL) (.leaf 117 Reg.HG_MAXB_LIMIT)) (.node 20973320 (.leaf 118
  Reg.HG_ROGUE_CTL_FILTER) (.leaf 119 Reg.HG_ROGUE_CTL_TAIL))))) (.node 20991488 (.node 20989440 (.node 20988416 (.node 20987904 (.leaf 120
  Reg.HG_USED_GRAINS) (.leaf 125 Reg.HG_CNT_WINDOWS)) (.node 20988928 (.leaf 126 Reg.HG_CNT_GRAINS) (.leaf 127 Reg.HG_CNT_REFUSED_CAP))) (.node
  20990464 (.node 20989952 (.leaf 128 Reg.HG_CNT_REFUSED_MAXB) (.leaf 129 Reg.HG_CNT_REFUSED_ROLE)) (.node 20990976 (.leaf 130
  Reg.HG_CNT_REFUSED_OTHER) (.leaf 131 Reg.HG_CNT_REFUSED_EQD)))) (.node 21037056 (.node 20992512 (.node 20992000 (.leaf 132 Reg.HG_CNT_DISAGREE)
  (.leaf 133 Reg.HG_CNT_ROGUE_EVENTS)) (.node 20993024 (.leaf 134 Reg.HG_CNT_TX_DARK) (.leaf 135 Reg.HG_CNT_TX_ABORTED))) (.node 21037071 (.node
  21037070 (.leaf 121 Reg.HG_LATCH_ALLOC_ID) (.leaf 122 Reg.HG_LATCH_VALID)) (.node 21037072 (.leaf 123 Reg.HG_LATCH_MASK) (.leaf 124
  Reg.HG_LATCH_PENDING)))))

def fieldTreeTIME : FieldTree :=
  .node 25175040 (.node 25168896 (.node 25166336 (.node 25166081 (.node 25165828 (.node 25165825 (.leaf 136 Reg.TIME_CTL_SNAP) (.node 25165826 (.leaf
  137 Reg.TIME_CTL_APPLY) (.leaf 138 Reg.TIME_CTL_APPLY_MODE))) (.node 25165832 (.leaf 139 Reg.TIME_CTL_CANCEL) (.node 25166080 (.leaf 140
  Reg.TIME_CTL_SERVO_EN) (.leaf 141 Reg.TIME_STATUS_SNAP_BUSY)))) (.node 25166093 (.node 25166084 (.leaf 142 Reg.TIME_STATUS_APPLY_PENDING) (.node
  25166092 (.leaf 143 Reg.TIME_STATUS_APPLY_RESULT) (.leaf 144 Reg.TIME_STATUS_STAGE_WERR))) (.node 25166095 (.node 25166094 (.leaf 145
  Reg.TIME_STATUS_REBASE_REQ) (.leaf 146 Reg.TIME_STATUS_SQUELCHED)) (.node 25166096 (.leaf 147 Reg.TIME_STATUS_VOTE_FAIL) (.leaf 148
  Reg.TIME_STATUS_SRC))))) (.node 25167360 (.node 25166592 (.node 25166339 (.leaf 149 Reg.TIME_QUAL_QUALITY) (.node 25166352 (.leaf 150
  Reg.TIME_QUAL_STEP_DONE) (.leaf 151 Reg.TIME_QUAL_GEN))) (.node 25166848 (.node 25166608 (.leaf 152 Reg.TIME_BOUND) (.leaf 153 Reg.TIME_BOUND_OWN))
  (.node 25167104 (.leaf 154 Reg.TIME_SEC_LO) (.leaf 155 Reg.TIME_SEC_HI)))) (.node 25168128 (.node 25167616 (.leaf 156 Reg.TIME_NS) (.node 25167872
  (.leaf 157 Reg.TIME_FRAC) (.leaf 158 Reg.TIME_SNAP_SEC_LO))) (.node 25168384 (.node 25168144 (.leaf 159 Reg.TIME_SNAP_SEC_HI) (.leaf 160
  Reg.TIME_SNAP_SEC_HI_SNAP_SEQ)) (.node 25168640 (.leaf 161 Reg.TIME_SNAP_NS) (.leaf 162 Reg.TIME_SNAP_FRAC)))))) (.node 25172992 (.node 25170432
  (.node 25169664 (.node 25169152 (.leaf 163 Reg.TIME_SNAP_INCR_LO) (.node 25169408 (.leaf 164 Reg.TIME_SNAP_INCR_HI) (.leaf 165
  Reg.TIME_SNAP_QUAL))) (.node 25169920 (.leaf 166 Reg.TIME_SNAP_BOUND) (.node 25170176 (.leaf 167 Reg.TIME_STAGE_SEC_LO) (.leaf 168
  Reg.TIME_STAGE_SEC_HI)))) (.node 25171200 (.node 25170688 (.leaf 169 Reg.TIME_STAGE_NS) (.node 25170944 (.leaf 170 Reg.TIME_STAGE_FRAC) (.leaf 171
  Reg.TIME_STAGE_INCR_LO))) (.node 25171712 (.node 25171456 (.leaf 172 Reg.TIME_STAGE_INCR_HI) (.leaf 173 Reg.TIME_APPLY_AT_LO)) (.node 25171968
  (.leaf 174 Reg.TIME_APPLY_AT_HI) (.leaf 175 Reg.TIME_STAGE_SEL))))) (.node 25174544 (.node 25173760 (.node 25173248 (.leaf 176
  Reg.TIME_INCR_LO_INCR) (.node 25173504 (.leaf 177 Reg.TIME_INCR_HI_INCR) (.leaf 178 Reg.TIME_INCR_TGT_LO_INCR_TGT))) (.node 25174272 (.node
  25174016 (.leaf 179 Reg.TIME_INCR_TGT_HI_INCR_TGT) (.leaf 180 Reg.TIME_INCR_NOM_LO_INCR_NOM)) (.node 25174528 (.leaf 181
  Reg.TIME_INCR_NOM_HI_INCR_NOM) (.leaf 182 Reg.TIME_UTC_UTC_OFFSET)))) (.node 25174547 (.node 25174545 (.leaf 183 Reg.TIME_UTC_LI61) (.node 25174546
  (.leaf 184 Reg.TIME_UTC_LI59) (.leaf 185 Reg.TIME_UTC_UTC_VALID))) (.node 25174784 (.node 25174548 (.leaf 186 Reg.TIME_UTC_TRACEABLE) (.leaf 187
  Reg.TIME_UTC_HE_CLASS)) (.node 25174800 (.leaf 188 Reg.TIME_SERVO_TC) (.leaf 189 Reg.TIME_SERVO_TC_BASE))))))) (.node 25185280 (.node 25182208
  (.node 25175313 (.node 25175064 (.node 25175048 (.leaf 190 Reg.TIME_SERVO_CTL_LOCK_Q) (.node 25175056 (.leaf 191 Reg.TIME_SERVO_CTL_LOCK_SF) (.leaf
  192 Reg.TIME_SERVO_CTL_UNLOCK_Q))) (.node 25175296 (.leaf 193 Reg.TIME_SERVO_CTL_UNLOCK_SF) (.node 25175312 (.leaf 194 Reg.TIME_HO_CTL_LIMIT)
  (.leaf 195 Reg.TIME_HO_CTL_SQ_PPS)))) (.node 25176064 (.node 25175552 (.leaf 196 Reg.TIME_HO_CTL_SQ_TEV) (.node 25175808 (.leaf 197
  Reg.TIME_HO_AGING) (.leaf 198 Reg.TIME_HO_TEMP))) (.node 25176576 (.node 25176320 (.leaf 199 Reg.TIME_HO_Y0) (.leaf 200 Reg.TIME_HO_ELAPSED))
  (.node 25176832 (.leaf 201 Reg.TIME_REF_OFS) (.leaf 202 Reg.TIME_VOTE_CTL_PERSIST))))) (.node 25182976 (.node 25182465 (.node 25182239 (.leaf 203
  Reg.TIME_LEG_TEQ) (.node 25182464 (.leaf 204 Reg.TIME_LEG_TEQ_TEQ_VALID) (.leaf 205 Reg.TIME_LEG_STATUS_USABLE))) (.node 25182467 (.node 25182466
  (.leaf 206 Reg.TIME_LEG_STATUS_FIT_VALID) (.leaf 207 Reg.TIME_LEG_STATUS_LASER_LOW)) (.node 25182720 (.leaf 208 Reg.TIME_LEG_STATUS_RWAVE) (.leaf
  209 Reg.TIME_LEG_MARK_SEC_LO)))) (.node 25183488 (.node 25182992 (.leaf 210 Reg.TIME_LEG_MARK_SEC_HI) (.node 25183232 (.leaf 211
  Reg.TIME_LEG_MARK_SEC_HI_MARK_GEN) (.leaf 212 Reg.TIME_LEG_MARK_NS))) (.node 25184256 (.node 25183744 (.leaf 213 Reg.TIME_LEG_MARK_FRAC) (.leaf 214
  Reg.TIME_LEG_OFFSET)) (.node 25185024 (.leaf 215 Reg.TIME_LEG_DT) (.leaf 216 Reg.TIME_LEG_FIT_K)))))) (.node 25188864 (.node 25187072 (.node
  25186048 (.node 25185536 (.leaf 217 Reg.TIME_LEG_FIT_L0) (.node 25185792 (.leaf 218 Reg.TIME_LEG_FIT_LEN) (.leaf 219 Reg.TIME_LEG_FIT_RESID)))
  (.node 25186560 (.leaf 220 Reg.TIME_LEG_ASYM) (.node 25186576 (.leaf 221 Reg.TIME_LEG_LASER_U_KT) (.leaf 222 Reg.TIME_LEG_LASER_U_KI)))) (.node
  25187840 (.node 25187088 (.leaf 223 Reg.TIME_LEG_LASER_REF_T_REF) (.node 25187328 (.leaf 224 Reg.TIME_LEG_LASER_REF_I_REF) (.leaf 225
  Reg.TIME_LEG_LASER_WORST))) (.node 25188352 (.node 25187856 (.leaf 226 Reg.TIME_LEG_FIT_CTL_WINDOW_SF) (.leaf 227 Reg.TIME_LEG_FIT_CTL_RESID_MAX))
  (.node 25188608 (.leaf 228 Reg.TIME_LEG_RX_FACT) (.leaf 229 Reg.TIME_LEG_RX_TRIM))))) (.node 25232896 (.node 25190144 (.node 25189120 (.leaf 230
  Reg.TIME_LEG_TXU_FACT) (.node 25189888 (.leaf 231 Reg.TIME_LEG_TXU_TRIM) (.leaf 232 Reg.TIME_LEG_SKEW_FACT))) (.node 25231872 (.node 25231360
  (.leaf 233 Reg.TIME_LEG_SKEW_TRIM) (.leaf 234 Reg.TIME_CNT_VOTE_CORR)) (.node 25232384 (.leaf 235 Reg.TIME_CNT_VOTE_FAIL) (.leaf 236
  Reg.TIME_CNT_TOD_USED_A)))) (.node 25234432 (.node 25233408 (.leaf 237 Reg.TIME_CNT_TOD_USED_B) (.node 25233920 (.leaf 238
  Reg.TIME_CNT_MARK_EXCL_A) (.leaf 239 Reg.TIME_CNT_MARK_EXCL_B))) (.node 25235456 (.node 25234944 (.leaf 240 Reg.TIME_CNT_APPLY_DONE) (.leaf 241
  Reg.TIME_CNT_APPLY_REFUSED)) (.node 25235968 (.leaf 242 Reg.TIME_CNT_REBASES) (.leaf 243 Reg.TIME_CNT_HOLDOVER_ENTRIES)))))))

def fieldTreeTEV : FieldTree :=
  .node 29377024 (.node 29367296 (.node 29362177 (.node 29361408 (.node 29361153 (.leaf 244 Reg.TEV_PPS_CTL_EN) (.node 29361154 (.leaf 245
  Reg.TEV_PPS_CTL_POL) (.leaf 246 Reg.TEV_PPS_CTL_COMP))) (.node 29361684 (.node 29361664 (.leaf 247 Reg.TEV_PPS_WIDTH) (.leaf 248
  Reg.TEV_LT_CTL_HORIZON_MS)) (.node 29362176 (.leaf 249 Reg.TEV_LT_CTL_REBASE_FLUSH) (.leaf 250 Reg.TEV_PTM_CTL_AUTO)))) (.node 29362436 (.node
  29362180 (.leaf 251 Reg.TEV_PTM_CTL_TRIGGER) (.node 29362432 (.leaf 252 Reg.TEV_PTM_CTL_PERIOD_MS) (.leaf 253 Reg.TEV_PTM_STATUS_BUSY))) (.node
  29365504 (.node 29364224 (.leaf 254 Reg.TEV_PTM_STATUS_RESULT) (.leaf 255 Reg.TEV_PTM_T1)) (.node 29366784 (.leaf 256 Reg.TEV_PTM_T4) (.leaf 257
  Reg.TEV_PTM_MASTER))))) (.node 29376521 (.node 29376512 (.node 29368320 (.leaf 258 Reg.TEV_PTM_PDELAY) (.node 29369600 (.leaf 259
  Reg.TEV_PTM_PREV_T1) (.leaf 260 Reg.TEV_PTM_PREV_T4))) (.node 29376516 (.node 29376513 (.leaf 261 Reg.TEV_CH_CTL_ARM) (.leaf 262
  Reg.TEV_CH_CTL_DISARM)) (.node 29376520 (.leaf 263 Reg.TEV_CH_CTL_MODE) (.leaf 264 Reg.TEV_CH_CTL_POL)))) (.node 29376770 (.node 29376523 (.node
  29376522 (.leaf 265 Reg.TEV_CH_CTL_STOP_SRC) (.leaf 266 Reg.TEV_CH_CTL_REBASE_POL)) (.node 29376768 (.leaf 267 Reg.TEV_CH_CTL_RESYNC) (.leaf 268
  Reg.TEV_CH_STATUS_STATE))) (.node 29376780 (.node 29376772 (.leaf 269 Reg.TEV_CH_STATUS_LATCHED) (.leaf 270 Reg.TEV_CH_STATUS_RESULT)) (.node
  29376781 (.leaf 271 Reg.TEV_CH_STATUS_LATE) (.leaf 272 Reg.TEV_CH_STATUS_WERR)))))) (.node 29460480 (.node 29378816 (.node 29377792 (.node 29377280
  (.leaf 273 Reg.TEV_CH_TGT_SEC_LO) (.node 29377536 (.leaf 274 Reg.TEV_CH_TGT_SEC_HI) (.leaf 275 Reg.TEV_CH_TGT_NS))) (.node 29378304 (.node 29378048
  (.leaf 276 Reg.TEV_CH_WIDTH) (.leaf 277 Reg.TEV_CH_PERIOD_NS)) (.node 29378560 (.leaf 278 Reg.TEV_CH_PERIOD_FRAC) (.leaf 279 Reg.TEV_CH_COUNT))))
  (.node 29458432 (.node 29379328 (.node 29379072 (.leaf 280 Reg.TEV_CH_FIRED) (.leaf 281 Reg.TEV_CH_COMP)) (.node 29379584 (.leaf 282
  Reg.TEV_CH_LIN_LO) (.leaf 283 Reg.TEV_CH_LIN_HI))) (.node 29459456 (.node 29458944 (.leaf 284 Reg.TEV_CNT_ARM_REFUSED) (.leaf 285
  Reg.TEV_CNT_LT_REFUSED)) (.node 29459968 (.leaf 286 Reg.TEV_CNT_LT_LATE) (.leaf 287 Reg.TEV_CNT_PTM_DIALOGUES))))) (.node 29492224 (.node 29491203
  (.node 29491200 (.leaf 288 Reg.TEV_CNT_PTM_FAILED) (.node 29491201 (.leaf 289 Reg.TEV_TCAP_CTL_EN) (.leaf 290 Reg.TEV_TCAP_CTL_EDGE))) (.node
  29491463 (.node 29491456 (.leaf 291 Reg.TEV_TCAP_CTL_COMP) (.leaf 292 Reg.TEV_TCAP_STATUS_LEVEL)) (.node 29491464 (.leaf 293
  Reg.TEV_TCAP_STATUS_OVF) (.leaf 294 Reg.TEV_TCAP_STATUS_PIN)))) (.node 29493248 (.node 29492736 (.node 29492480 (.leaf 295 Reg.TEV_TCAP_HEAD0)
  (.leaf 296 Reg.TEV_TCAP_HEAD1)) (.node 29492992 (.leaf 297 Reg.TEV_TCAP_HEAD2) (.leaf 298 Reg.TEV_TCAP_HEAD3))) (.node 29557248 (.node 29556736
  (.leaf 299 Reg.TEV_TCAP_HEAD4) (.leaf 300 Reg.TEV_TCAP_CNT_CAPTURED)) (.node 29557760 (.leaf 301 Reg.TEV_TCAP_CNT_NARROW) (.leaf 302
  Reg.TEV_TCAP_CNT_LOST))))))

def fieldTreeUSCH : FieldTree :=
  .node 33579008 (.node 33558528 (.node 33555712 (.node 33554693 (.node 33554690 (.node 33554688 (.leaf 303 Reg.USCH_CTL_RESET) (.node 33554689
  (.leaf 304 Reg.USCH_STATUS_RESET_BUSY) (.leaf 305 Reg.USCH_STATUS_FB_ALL))) (.node 33554691 (.leaf 306 Reg.USCH_STATUS_LEG) (.node 33554692 (.leaf
  307 Reg.USCH_STATUS_RSV_U0) (.leaf 308 Reg.USCH_STATUS_RSV_U1)))) (.node 33555456 (.node 33554944 (.leaf 309 Reg.USCH_STATUS_WERR) (.node 33554960
  (.leaf 310 Reg.USCH_FB_CTL_FREEBOARD) (.leaf 311 Reg.USCH_FB_CTL_BUILD_LEAD))) (.node 33555460 (.leaf 312 Reg.USCH_QCMD_OP) (.node 33555464 (.leaf
  313 Reg.USCH_QCMD_BUSY) (.leaf 314 Reg.USCH_QCMD_STATUS))))) (.node 33556992 (.node 33556488 (.node 33556480 (.leaf 315 Reg.USCH_QIDX) (.node
  33556482 (.leaf 316 Reg.USCH_QDATA0_MODE) (.leaf 317 Reg.USCH_QDATA0_SHAPE_EN))) (.node 33556496 (.leaf 318 Reg.USCH_QDATA0_OVH) (.node 33556736
  (.leaf 319 Reg.USCH_QDATA0_WEIGHT) (.leaf 320 Reg.USCH_QDATA1_RATE0)))) (.node 33557760 (.node 33557248 (.leaf 321 Reg.USCH_QDATA2_BURST0) (.node
  33557504 (.leaf 322 Reg.USCH_QDATA3_RATE1) (.leaf 323 Reg.USCH_QDATA4_BURST1))) (.node 33558016 (.leaf 324 Reg.USCH_QDATA5_LEVEL0) (.node 33558272
  (.leaf 325 Reg.USCH_QDATA6_LEVEL1) (.leaf 326 Reg.USCH_QDATA7_RESV0)))))) (.node 33572864 (.node 33570846 (.node 33570816 (.node 33558784 (.leaf
  327 Reg.USCH_QDATA8_CREDIT) (.node 33558785 (.leaf 328 Reg.USCH_QDATA9_HEAD) (.leaf 329 Reg.USCH_QDATA9_BLOCK))) (.node 33570824 (.leaf 330
  Reg.USCH_AUD_CTL_SNAP) (.node 33570832 (.leaf 331 Reg.USCH_AUD_CTL_SLOT) (.leaf 332 Reg.USCH_AUD_CTL_BUCKET)))) (.node 33571088 (.node 33571072
  (.leaf 333 Reg.USCH_AUD_CTL_B1) (.node 33571073 (.leaf 334 Reg.USCH_AUD_STATUS_BUSY) (.leaf 335 Reg.USCH_AUD_STATUS_MISMATCH))) (.node 33571840
  (.leaf 336 Reg.USCH_AUD_STATUS_SNAP_SEQ) (.node 33572352 (.leaf 337 Reg.USCH_AUD_CELL_FREE) (.leaf 338 Reg.USCH_AUD_CELL_RESERVED))))) (.node
  33575936 (.node 33574400 (.node 33573376 (.leaf 339 Reg.USCH_AUD_CELL_COMMITTED) (.node 33573888 (.leaf 340 Reg.USCH_AUD_TOK_FILLED) (.leaf 341
  Reg.USCH_AUD_TOK_TRIMMED))) (.node 33574912 (.leaf 342 Reg.USCH_AUD_TOK_LEVEL) (.node 33575424 (.leaf 343 Reg.USCH_AUD_TOK_RESERVED) (.leaf 344
  Reg.USCH_AUD_TOK_DEBITED)))) (.node 33577472 (.node 33576448 (.leaf 345 Reg.USCH_AUD_DESC_POSTED) (.node 33576960 (.leaf 346
  Reg.USCH_AUD_DESC_IN_HOST) (.leaf 347 Reg.USCH_AUD_DESC_HEAD))) (.node 33577984 (.leaf 348 Reg.USCH_AUD_DESC_RESERVED) (.node 33578496 (.leaf 349
  Reg.USCH_AUD_DESC_COMMITTED) (.leaf 350 Reg.USCH_AUD_DESC_COMPLETED))))))) (.node 33818624 (.node 33816576 (.node 33582080 (.node 33580544 (.node
  33579520 (.leaf 351 Reg.USCH_AUD_GR_ACCEPTED_U0) (.node 33580032 (.leaf 352 Reg.USCH_AUD_GR_OPENED_U0) (.leaf 353 Reg.USCH_AUD_GR_REFUSED_U0)))
  (.node 33581056 (.leaf 354 Reg.USCH_AUD_GR_ACCEPTED_U1) (.node 33581568 (.leaf 355 Reg.USCH_AUD_GR_OPENED_U1) (.leaf 356
  Reg.USCH_AUD_GR_REFUSED_U1)))) (.node 33583616 (.node 33582592 (.leaf 357 Reg.USCH_AUD_BY_CAPACITY) (.node 33583104 (.leaf 358
  Reg.USCH_AUD_BY_HEADER) (.leaf 359 Reg.USCH_AUD_BY_FRAME))) (.node 33584128 (.leaf 360 Reg.USCH_AUD_BY_IDLE) (.node 33584640 (.leaf 361
  Reg.USCH_AUD_GR_OTHER_U0) (.leaf 362 Reg.USCH_AUD_GR_OTHER_U1))))) (.node 33817088 (.node 33816580 (.node 33816577 (.leaf 363 Reg.USCH_CT_CTL_DISC)
  (.node 33816578 (.leaf 364 Reg.USCH_CT_CTL_SHAPE_EN) (.leaf 365 Reg.USCH_CT_CTL_SMODE))) (.node 33816592 (.leaf 366 Reg.USCH_CT_CTL_OVH) (.node
  33816832 (.leaf 367 Reg.USCH_CT_CTL_OWNER) (.leaf 368 Reg.USCH_CT_RATE0)))) (.node 33817856 (.node 33817344 (.leaf 369 Reg.USCH_CT_BURST0) (.node
  33817600 (.leaf 370 Reg.USCH_CT_RATE1) (.leaf 371 Reg.USCH_CT_BURST1))) (.node 33818112 (.leaf 372 Reg.USCH_CT_QUANTUM) (.node 33818368 (.leaf 373
  Reg.USCH_CT_CREDIT_CAP) (.leaf 374 Reg.USCH_CT_BUFREP_EST)))))) (.node 34343424 (.node 33819392 (.node 33818632 (.node 33818625 (.leaf 375
  Reg.USCH_CT_STATUS_FB) (.node 33818628 (.leaf 376 Reg.USCH_CT_STATUS_FB_AUTO) (.leaf 377 Reg.USCH_CT_STATUS_LAST_CAUSE))) (.node 33818880 (.leaf
  378 Reg.USCH_CT_STATUS_STARVED) (.node 33819136 (.leaf 379 Reg.USCH_CT_LEVEL0) (.leaf 380 Reg.USCH_CT_LEVEL1)))) (.node 34341888 (.node 34340864
  (.leaf 381 Reg.USCH_CT_BUFREP) (.node 34341376 (.leaf 382 Reg.USCH_CNT_BURSTS_BUILT) (.leaf 383 Reg.USCH_CNT_BURSTS_SENT))) (.node 34342400 (.leaf
  384 Reg.USCH_CNT_IDLE_GRANTS) (.node 34342912 (.leaf 385 Reg.USCH_CNT_UNWOUND_BURSTS) (.leaf 386 Reg.USCH_CNT_UNWOUND_FRAMES))))) (.node 34346496
  (.node 34344960 (.node 34343936 (.leaf 387 Reg.USCH_CNT_BUILD_LATE) (.node 34344448 (.leaf 388 Reg.USCH_CNT_FRAMES_SENT) (.leaf 389
  Reg.USCH_CNT_BYTES_SENT))) (.node 34345472 (.leaf 390 Reg.USCH_CNT_NO_CELLS) (.node 34345984 (.leaf 391 Reg.USCH_CNT_FB_ENTRIES) (.leaf 392
  Reg.USCH_CNT_SEQ_SKIPPED)))) (.node 34603520 (.node 34347008 (.leaf 393 Reg.USCH_CNT_REVISE_LATE) (.node 34603008 (.leaf 394 Reg.USCH_CNT_AUD_FAIL)
  (.leaf 395 Reg.USCH_SCNT_FRAMES))) (.node 34604032 (.leaf 396 Reg.USCH_SCNT_BYTES) (.node 34604544 (.leaf 397 Reg.USCH_SCNT_UNWINDS) (.leaf 398
  Reg.USCH_SCNT_STARVED)))))))

def fieldTreeSTBL : FieldTree :=
  .node 37753600 (.node 37752064 (.node 37748744 (.node 37748740 (.node 37748739 (.leaf 399 Reg.STBL_CMD_OP) (.leaf 400 Reg.STBL_CMD_STAGE)) (.node
  37748741 (.leaf 401 Reg.STBL_CMD_BUSY) (.leaf 402 Reg.STBL_CMD_VIEW))) (.node 37749760 (.node 37748992 (.leaf 403 Reg.STBL_CMD_STATUS) (.leaf 404
  Reg.STBL_IDX)) (.node 37750784 (.leaf 405 Reg.STBL_DATA) (.node 37751808 (.leaf 406 Reg.STBL_CMP) (.leaf 407 Reg.STBL_OCC_VALID_VALID_CNT)))))
  (.node 37753089 (.node 37752833 (.node 37752832 (.leaf 408 Reg.STBL_OCC_LEARNED_LEARNED_CNT) (.leaf 409 Reg.STBL_UNK_CTL_ACTION)) (.node 37753088
  (.leaf 410 Reg.STBL_UNK_CTL_CPU) (.leaf 411 Reg.STBL_LEARN_CTL_EN))) (.node 37753092 (.node 37753090 (.leaf 412 Reg.STBL_LEARN_CTL_DEST) (.leaf 413
  Reg.STBL_LEARN_CTL_REARM)) (.node 37753104 (.leaf 414 Reg.STBL_LEARN_CTL_HOLD_SF) (.node 37753344 (.leaf 415 Reg.STBL_LEARN_CTL_RATE) (.leaf 416
  Reg.STBL_LEARN_BASE_LO)))))) (.node 37756928 (.node 37754880 (.node 37754112 (.node 37753856 (.leaf 417 Reg.STBL_LEARN_BASE_HI) (.leaf 418
  Reg.STBL_LEARN_SIZE)) (.node 37754368 (.leaf 419 Reg.STBL_LEARN_PROD) (.leaf 420 Reg.STBL_LEARN_CONS))) (.node 37755392 (.node 37754892 (.leaf 421
  Reg.STBL_EXC_CTL_EXC_RING) (.leaf 422 Reg.STBL_EXC_CTL_MIRROR_RING)) (.node 37755904 (.leaf 423 Reg.STBL_SPILL_CTL_THRESH) (.node 37756416 (.leaf
  424 Reg.STBL_STAT_IDX) (.leaf 425 Reg.STBL_STAT_FRAMES))))) (.node 37896192 (.node 37765376 (.node 37765120 (.leaf 426 Reg.STBL_STAT_BYTES) (.leaf
  427 Reg.STBL_TXTAG_OP)) (.node 37765392 (.leaf 428 Reg.STBL_TXTAG_TCI_C_TCI) (.node 37879808 (.leaf 429 Reg.STBL_TXTAG_TCI_S_TCI) (.leaf 430
  Reg.STBL_SPILL_A_DROPS)))) (.node 37916672 (.node 37912576 (.leaf 431 Reg.STBL_SPILL_B_DROPS) (.leaf 432 Reg.STBL_SPILLW_A_DROPS)) (.node 38010880
  (.leaf 433 Reg.STBL_SPILLW_B_DROPS) (.node 38010892 (.leaf 434 Reg.STBL_RGT_BASE) (.leaf 435 Reg.STBL_RGT_SIZE_LOG2))))))

def fieldTreeCLS : FieldTree :=
  .node 41945368 (.node 41945089 (.node 41943296 (.node 41943044 (.leaf 436 Reg.CLS_CMD_OP) (.node 41943048 (.leaf 437 Reg.CLS_CMD_BUSY) (.leaf 438
  Reg.CLS_CMD_STATUS))) (.node 41944064 (.node 41943316 (.leaf 439 Reg.CLS_IDX) (.leaf 440 Reg.CLS_IDX_BANK)) (.node 41945088 (.leaf 441
  Reg.CLS_DATA) (.leaf 442 Reg.CLS_COMMIT_OPEN)))) (.node 41945344 (.node 41945090 (.leaf 443 Reg.CLS_COMMIT) (.node 41945096 (.leaf 444
  Reg.CLS_COMMIT_CANCEL) (.leaf 445 Reg.CLS_COMMIT_VERSION))) (.node 41945352 (.node 41945346 (.leaf 446 Reg.CLS_COMMIT_STATUS_GROUP) (.leaf 447
  Reg.CLS_COMMIT_STATUS_DRAINING)) (.node 41945360 (.leaf 448 Reg.CLS_COMMIT_STATUS_RESULT) (.leaf 449 Reg.CLS_COMMIT_STATUS_CUR_VER))))) (.node
  41960448 (.node 41946112 (.node 41945600 (.leaf 450 Reg.CLS_COMMIT_STATUS_DRAIN_VER) (.node 41945856 (.leaf 451 Reg.CLS_COMMIT_EFF_LO) (.leaf 452
  Reg.CLS_COMMIT_EFF_HI))) (.node 41959424 (.node 41946368 (.leaf 453 Reg.CLS_STAGE_CNT_STAGED) (.leaf 454 Reg.CLS_DRAIN_IN_FLIGHT)) (.node 41959936
  (.leaf 455 Reg.CLS_CNT_COMMITS) (.leaf 456 Reg.CLS_CNT_COMMITS_REFUSED)))) (.node 41961984 (.node 41960960 (.leaf 457 Reg.CLS_CNT_LEARN_RECORDS)
  (.node 41961472 (.leaf 458 Reg.CLS_CNT_LEARN_LOST) (.leaf 459 Reg.CLS_CNT_DIVERGE))) (.node 41963008 (.node 41962496 (.leaf 460
  Reg.CLS_CNT_MIRRORS) (.leaf 461 Reg.CLS_CNT_PROC_COPIES)) (.node 41963520 (.leaf 462 Reg.CLS_CNT_FAULT_A) (.leaf 463 Reg.CLS_CNT_FAULT_B)))))

def fieldTreeCIPH : FieldTree :=
  .node 46141952 (.node 46138888 (.node 46138368 (.node 46137856 (.node 46137600 (.leaf 464 Reg.CIPH_CTL_LA_EN) (.leaf 465 Reg.CIPH_STATUS_RNG_FAIL))
  (.node 46137887 (.leaf 466 Reg.CIPH_PART_LINE_SLOTS) (.node 46138112 (.leaf 467 Reg.CIPH_PART_LOCK) (.leaf 468 Reg.CIPH_KX_CTL_REFRESH)))) (.node
  46138376 (.node 46138372 (.leaf 469 Reg.CIPH_SLOT_CMD_OP) (.leaf 470 Reg.CIPH_SLOT_CMD_BUSY)) (.node 46138624 (.leaf 471 Reg.CIPH_SLOT_CMD_STATUS)
  (.node 46138880 (.leaf 472 Reg.CIPH_SLOT_IDX) (.leaf 473 Reg.CIPH_SLOT_INFO_KIND))))) (.node 46141448 (.node 46141440 (.node 46138896 (.leaf 474
  Reg.CIPH_SLOT_INFO_OWNER) (.leaf 475 Reg.CIPH_SLOT_INFO_LOADED)) (.node 46141442 (.leaf 476 Reg.CIPH_GEN_DN_CUR) (.node 46141443 (.leaf 477
  Reg.CIPH_GEN_DN_PEND) (.leaf 478 Reg.CIPH_GEN_DN_NEXT)))) (.node 46141451 (.node 46141450 (.leaf 479 Reg.CIPH_GEN_UP_CUR) (.leaf 480
  Reg.CIPH_GEN_UP_PEND)) (.node 46141456 (.leaf 481 Reg.CIPH_GEN_UP_NEXT) (.node 46141696 (.leaf 482 Reg.CIPH_GEN_EPOCH) (.leaf 483
  Reg.CIPH_DN_EFF_LO)))))) (.node 46172160 (.node 46153728 (.node 46142464 (.node 46142208 (.leaf 484 Reg.CIPH_DN_EFF_HI) (.leaf 485
  Reg.CIPH_UP_EFF_LO)) (.node 46142720 (.leaf 486 Reg.CIPH_UP_EFF_HI) (.node 46142728 (.leaf 487 Reg.CIPH_KX_KX_STATE) (.leaf 488
  Reg.CIPH_KX_KX_STATUS)))) (.node 46170624 (.node 46170112 (.leaf 489 Reg.CIPH_HEKEY_HASH) (.leaf 490 Reg.CIPH_CNT_DN_FRAMES)) (.node 46171136
  (.leaf 491 Reg.CIPH_CNT_UP_FRAMES) (.node 46171648 (.leaf 492 Reg.CIPH_CNT_SB_AUTH_OK) (.leaf 493 Reg.CIPH_CNT_SB_AUTH_FAIL))))) (.node 46174720
  (.node 46173184 (.node 46172672 (.leaf 494 Reg.CIPH_CNT_LA_REQUESTS) (.leaf 495 Reg.CIPH_CNT_LA_BYTES)) (.node 46173696 (.leaf 496
  Reg.CIPH_CNT_LA_AUTH_FAIL) (.node 46174208 (.leaf 497 Reg.CIPH_CNT_DENIED) (.leaf 498 Reg.CIPH_CNT_KX_DONE)))) (.node 46176256 (.node 46175232
  (.leaf 499 Reg.CIPH_CNT_KX_FAIL) (.node 46175744 (.leaf 500 Reg.CIPH_CNT_KEY_LOADS) (.leaf 501 Reg.CIPH_CNT_KEYS_ERASED))) (.node 46202880 (.leaf
  502 Reg.CIPH_CNT_NOKEY_TX) (.node 46202889 (.leaf 503 Reg.CIPH_USLOT_KEY_SLOT) (.leaf 504 Reg.CIPH_USLOT_ENC))))))

def fieldTreeSLU : FieldTree :=
  .node 50594048 (.node 50333184 (.node 50332160 (.node 50331906 (.node 50331904 (.leaf 505 Reg.SLU_CTL_EN) (.node 50331905 (.leaf 506
  Reg.SLU_STATUS_DN_PAGE) (.leaf 507 Reg.SLU_STATUS_UP_PAGE))) (.node 50331908 (.node 50331907 (.leaf 508 Reg.SLU_STATUS_SWAP_PEND) (.leaf 509
  Reg.SLU_STATUS_LEG)) (.node 50331909 (.leaf 510 Reg.SLU_STATUS_FAIL) (.leaf 511 Reg.SLU_STATUS_MISMATCH)))) (.node 50332674 (.node 50332672 (.node
  50332176 (.leaf 512 Reg.SLU_LAT_DN_LAT_NS) (.leaf 513 Reg.SLU_LAT_UP_LEAD_NS)) (.node 50332673 (.leaf 514 Reg.SLU_SWAP_CTL_REQ) (.leaf 515
  Reg.SLU_SWAP_CTL_DN))) (.node 50332680 (.node 50332675 (.leaf 516 Reg.SLU_SWAP_CTL_UP) (.leaf 517 Reg.SLU_SWAP_CTL_CANCEL)) (.node 50332928 (.leaf
  518 Reg.SLU_SWAP_CTL_RESULT) (.leaf 519 Reg.SLU_SWAP_SFC_LO_EFF_LO))))) (.node 50334208 (.node 50333699 (.node 50333696 (.leaf 520
  Reg.SLU_SWAP_SFC_HI_EFF_HI) (.node 50333698 (.leaf 521 Reg.SLU_CM_CMD_OP) (.leaf 522 Reg.SLU_CM_CMD_DIR))) (.node 50333704 (.node 50333700 (.leaf
  523 Reg.SLU_CM_CMD_PAGE) (.leaf 524 Reg.SLU_CM_CMD_BUSY)) (.node 50333952 (.leaf 525 Reg.SLU_CM_CMD_STATUS) (.leaf 526 Reg.SLU_CM_IDX)))) (.node
  50593793 (.node 50335746 (.node 50335744 (.leaf 527 Reg.SLU_CM_DATA) (.leaf 528 Reg.SLU_GRP_ACTION)) (.node 50593792 (.leaf 529 Reg.SLU_GRP_FAILED)
  (.leaf 530 Reg.SLU_DLANE_CTL_EN))) (.node 50593808 (.node 50593800 (.leaf 531 Reg.SLU_DLANE_CTL_WIDTH) (.leaf 532 Reg.SLU_DLANE_CTL_GROUP)) (.node
  50593816 (.leaf 533 Reg.SLU_DLANE_CTL_OWNER) (.leaf 534 Reg.SLU_DLANE_CTL_WERR)))))) (.node 51118592 (.node 50855952 (.node 50594816 (.node
  50594304 (.leaf 535 Reg.SLU_DLANE_BASE_LO) (.node 50594560 (.leaf 536 Reg.SLU_DLANE_BASE_HI) (.leaf 537 Reg.SLU_DLANE_SIZE))) (.node 50855936
  (.node 50595072 (.leaf 538 Reg.SLU_DLANE_PROD) (.leaf 539 Reg.SLU_DLANE_CONS)) (.node 50855937 (.leaf 540 Reg.SLU_ULANE_CTL_EN) (.leaf 541
  Reg.SLU_ULANE_CTL_WIDTH)))) (.node 50856704 (.node 50856192 (.node 50855960 (.leaf 542 Reg.SLU_ULANE_CTL_OWNER) (.leaf 543 Reg.SLU_ULANE_CTL_WERR))
  (.node 50856448 (.leaf 544 Reg.SLU_ULANE_BASE_LO) (.leaf 545 Reg.SLU_ULANE_BASE_HI))) (.node 50857216 (.node 50856960 (.leaf 546
  Reg.SLU_ULANE_SIZE) (.leaf 547 Reg.SLU_ULANE_PROD)) (.node 51118080 (.leaf 548 Reg.SLU_ULANE_CONS) (.leaf 549 Reg.SLU_CNT_DN_RX))))) (.node
  51122688 (.node 51120640 (.node 51119616 (.node 51119104 (.leaf 550 Reg.SLU_CNT_DN_MAPPED) (.leaf 551 Reg.SLU_CNT_DN_UNMAPPED)) (.node 51120128
  (.leaf 552 Reg.SLU_CNT_DN_ERR) (.leaf 553 Reg.SLU_CNT_DN_SHORT))) (.node 51121664 (.node 51121152 (.leaf 554 Reg.SLU_CNT_DN_OVERRUN) (.leaf 555
  Reg.SLU_CNT_UP_GRANTED)) (.node 51122176 (.leaf 556 Reg.SLU_CNT_UP_SENT) (.leaf 557 Reg.SLU_CNT_UP_UNMAPPED)))) (.node 51124736 (.node 51123712
  (.node 51123200 (.leaf 558 Reg.SLU_CNT_UP_MAPPED) (.leaf 559 Reg.SLU_CNT_UP_SHORT)) (.node 51124224 (.leaf 560 Reg.SLU_CNT_UP_UNDERRUN) (.leaf 561
  Reg.SLU_CNT_UP_FETCH_FAIL))) (.node 51125760 (.node 51125248 (.leaf 562 Reg.SLU_CNT_UP_U1) (.leaf 563 Reg.SLU_CNT_SWAPS)) (.node 51126272 (.leaf
  564 Reg.SLU_CNT_AIS_RECORDS) (.leaf 565 Reg.SLU_CNT_AUD_FAIL))))))

def fieldTreePROT : FieldTree :=
  .node 54528016 (.node 54526722 (.node 54526208 (.node 54525955 (.node 54525953 (.leaf 566 Reg.PROT_CTL_REVERT) (.node 54525954 (.leaf 567
  Reg.PROT_CTL_PREF) (.leaf 568 Reg.PROT_CTL_SD_SWITCH))) (.node 54525960 (.leaf 569 Reg.PROT_CTL_FW_SWITCH) (.node 54525968 (.leaf 570
  Reg.PROT_CTL_HOLDOFF) (.leaf 571 Reg.PROT_CTL_WTR_MIN)))) (.node 54526472 (.node 54526464 (.leaf 572 Reg.PROT_AUTO_CTL_MASK) (.node 54526468 (.leaf
  573 Reg.PROT_CMD_OP) (.leaf 574 Reg.PROT_CMD_BUSY))) (.node 54526720 (.leaf 575 Reg.PROT_CMD_RESULT) (.node 54526721 (.leaf 576
  Reg.PROT_STATUS_ACTIVE) (.leaf 577 Reg.PROT_STATUS_SWITCHING))))) (.node 54526729 (.node 54526726 (.node 54526723 (.leaf 578
  Reg.PROT_STATUS_HOLDOFF) (.node 54526724 (.leaf 579 Reg.PROT_STATUS_WTR) (.leaf 580 Reg.PROT_STATUS_FORCED))) (.node 54526727 (.leaf 581
  Reg.PROT_STATUS_CMD_PEND) (.node 54526728 (.leaf 582 Reg.PROT_STATUS_NO_PROT) (.leaf 583 Reg.PROT_STATUS_AVAIL_A)))) (.node 54527232 (.node
  54526732 (.leaf 584 Reg.PROT_STATUS_AVAIL_B) (.node 54526976 (.leaf 585 Reg.PROT_STATUS_LAST_CAUSE) (.leaf 586 Reg.PROT_WTR_LEFT_SECONDS))) (.node
  54528000 (.node 54527488 (.leaf 587 Reg.PROT_LAST_SFC_LO) (.leaf 588 Reg.PROT_LAST_SFC_HI)) (.node 54528008 (.leaf 589 Reg.PROT_LOS_CTL_LEVEL)
  (.leaf 590 Reg.PROT_LOS_CTL_DET_US)))))) (.node 54542344 (.node 54529024 (.node 54528520 (.node 54528256 (.leaf 591 Reg.PROT_LOS_CTL_LOS_CLR_FR)
  (.node 54528512 (.leaf 592 Reg.PROT_LOF_CTL_CLR_FR) (.leaf 593 Reg.PROT_LOSY_CTL_ENTRY_FR))) (.node 54528768 (.leaf 594 Reg.PROT_LOSY_CTL_CLR_FR)
  (.node 54528784 (.leaf 595 Reg.PROT_SF_CTL_SF_CW) (.leaf 596 Reg.PROT_SF_CTL_SF_CLR)))) (.node 54530304 (.node 54529280 (.leaf 597 Reg.PROT_SD_CW)
  (.node 54530048 (.leaf 598 Reg.PROT_SD_WIN) (.leaf 599 Reg.PROT_RR_STATUS_REASONS))) (.node 54542336 (.node 54530312 (.leaf 600
  Reg.PROT_RR_DETAIL_LEG) (.leaf 601 Reg.PROT_RR_DETAIL_MEM_ID)) (.node 54542340 (.leaf 602 Reg.PROT_DEF_LOS) (.leaf 603 Reg.PROT_DEF_LOF))))) (.node
  54542356 (.node 54542353 (.node 54542348 (.leaf 604 Reg.PROT_DEF_SF) (.node 54542352 (.leaf 605 Reg.PROT_DEF_SD) (.leaf 606
  Reg.PROT_DEF_LOSS_OF_SYNC))) (.node 54542354 (.leaf 607 Reg.PROT_DEF_RNG_LOSS) (.node 54542355 (.leaf 608 Reg.PROT_DEF_ROGUE) (.leaf 609
  Reg.PROT_DEF_ESTOP)))) (.node 54562816 (.node 54542592 (.leaf 610 Reg.PROT_DEF_AVAILABLE) (.node 54558720 (.leaf 611 Reg.PROT_DEF_LATCHED) (.leaf
  612 Reg.PROT_CNT_SWITCHES))) (.node 54563840 (.node 54563328 (.leaf 613 Reg.PROT_CNT2_REFUSED) (.leaf 614 Reg.PROT_CNT2_HOLDOFF_ABANDONED)) (.node
  54564352 (.leaf 615 Reg.PROT_CNT2_WTR_CANCELLED) (.leaf 616 Reg.PROT_CNT2_NO_PROT_ENTRIES))))))

def fieldTreePM : FieldTree :=
  .node 58722304 (.node 58721280 (.node 58720512 (.node 58720272 (.leaf 617 Reg.PM_CTL_EN) (.leaf 618 Reg.PM_CTL_ALIGN_OFS)) (.node 58720514 (.leaf
  619 Reg.PM_LEG_STATE) (.node 58720515 (.leaf 620 Reg.PM_LEG_TEST) (.leaf 621 Reg.PM_LEG_UNAVAIL)))) (.node 58721284 (.node 58721281 (.leaf 622
  Reg.PM_BIN_SEL_LEG) (.leaf 623 Reg.PM_BIN_SEL_WAVE)) (.node 58721288 (.leaf 624 Reg.PM_BIN_SEL_KIND) (.node 58721296 (.leaf 625
  Reg.PM_BIN_SEL_INDEX) (.leaf 626 Reg.PM_BIN_SEL_BUSY))))) (.node 58786304 (.node 58730496 (.node 58728448 (.leaf 627 Reg.PM_BIN_DATA) (.leaf 628
  Reg.PM_TCA_THRESH)) (.node 58730502 (.leaf 629 Reg.PM_TCA_STATUS_COUNTER) (.node 58785792 (.leaf 630 Reg.PM_TCA_STATUS_WAVE) (.leaf 631
  Reg.PM_SEC_ES)))) (.node 58851328 (.node 58786816 (.leaf 632 Reg.PM_SEC_SES) (.node 58787328 (.leaf 633 Reg.PM_SEC_UAS) (.leaf 634
  Reg.PM_SEC_SECONDS))) (.node 58851840 (.leaf 635 Reg.PM_CNT_BINS_15M) (.node 58852352 (.leaf 636 Reg.PM_CNT_BINS_24H) (.leaf 637
  Reg.PM_CNT_TCA_EVENTS)))))

def fieldTreeOPT : FieldTree :=
  .node 62932992 (.node 62917646 (.node 62914824 (.node 62914816 (.node 62914561 (.leaf 638 Reg.OPT_CTL_LANES_EN) (.node 62914564 (.leaf 639
  Reg.OPT_CTL_AUTO_RETRY) (.leaf 640 Reg.OPT_CTL_LOCK_MS))) (.node 62914818 (.node 62914817 (.leaf 641 Reg.OPT_STATUS_PRESENT) (.leaf 642
  Reg.OPT_STATUS_ID_VALID)) (.node 62914820 (.leaf 643 Reg.OPT_STATUS_BRINGUP) (.leaf 644 Reg.OPT_STATUS_CDR_LOCK)))) (.node 62915584 (.node 62914828
  (.leaf 645 Reg.OPT_STATUS_RXOVL) (.node 62914829 (.leaf 646 Reg.OPT_STATUS_HIST_UNKNOWN) (.leaf 647 Reg.OPT_STATUS_FAILS))) (.node 62917632 (.node
  62915585 (.leaf 648 Reg.OPT_LANE_POL) (.leaf 649 Reg.OPT_LANE_MODE)) (.node 62917640 (.leaf 650 Reg.OPT_DSK_SLIP) (.leaf 651
  Reg.OPT_DSK_CAND_OFS))))) (.node 62919680 (.node 62918660 (.node 62917648 (.leaf 652 Reg.OPT_DSK_CAND_VALID) (.node 62918656 (.leaf 653
  Reg.OPT_DSK_DSK_WORDS) (.leaf 654 Reg.OPT_DSK_CMD_REHUNT))) (.node 62919176 (.node 62919168 (.leaf 655 Reg.OPT_DSK_CMD_ALIGNED) (.leaf 656
  Reg.OPT_TXFFE_PRE)) (.node 62919184 (.leaf 657 Reg.OPT_TXFFE_MAIN) (.leaf 658 Reg.OPT_TXFFE_POST)))) (.node 62920192 (.node 62919936 (.leaf 659
  Reg.OPT_OVL_CTL_THRESH) (.node 62919940 (.leaf 660 Reg.OPT_BUS_CTL_FAST) (.leaf 661 Reg.OPT_BUS_CTL_TELEM_MS))) (.node 62930944 (.node 62920193
  (.leaf 662 Reg.OPT_SAFE_FAULT) (.leaf 663 Reg.OPT_SAFE_CAUSE)) (.node 62931968 (.leaf 664 Reg.OPT_ID_VENDOR) (.leaf 665 Reg.OPT_ID_PART))))))
  (.node 62948352 (.node 62935808 (.node 62934784 (.node 62934016 (.leaf 666 Reg.OPT_ID_SERIAL) (.node 62934272 (.leaf 667 Reg.OPT_ID_REV) (.leaf 668
  Reg.OPT_ID_DATE))) (.node 62935296 (.node 62935040 (.leaf 669 Reg.OPT_ID_CMIS_CMIS_REV) (.leaf 670 Reg.OPT_TELEM_TEMP_MOD_TEMP)) (.node 62935312
  (.leaf 671 Reg.OPT_TELEM_LASER_LASER_T) (.leaf 672 Reg.OPT_TELEM_LASER_FROM_CASE)))) (.node 62947328 (.node 62936320 (.leaf 673 Reg.OPT_TELEM_BIAS)
  (.node 62937344 (.leaf 674 Reg.OPT_TELEM_RXP_RX_POWER) (.leaf 675 Reg.OPT_TELEM_AGE_AGE_MS))) (.node 62947856 (.node 62947840 (.leaf 676
  Reg.OPT_LIFE_ON_NS) (.leaf 677 Reg.OPT_LIFE_I_I_BOL)) (.node 62948096 (.leaf 678 Reg.OPT_LIFE_I_I_EOL) (.leaf 679 Reg.OPT_LIFE_SLOPE))))) (.node
  62965248 (.node 62948608 (.node 62948368 (.leaf 680 Reg.OPT_LIFE_STAT_DAYS_LEFT) (.node 62948369 (.leaf 681 Reg.OPT_LIFE_STAT_DARK_FAIL) (.leaf 682
  Reg.OPT_LIFE_STAT_FIT_VALID))) (.node 62964224 (.node 62963712 (.leaf 683 Reg.OPT_LIFE_DUTY_DUTY_PM) (.leaf 684 Reg.OPT_CNT_BRINGUPS)) (.node
  62964736 (.leaf 685 Reg.OPT_CNT_BRINGUP_FAILS) (.leaf 686 Reg.OPT_CNT_SLIPS)))) (.node 62966784 (.node 62965760 (.leaf 687 Reg.OPT_CNT_REHUNTS)
  (.node 62966272 (.leaf 688 Reg.OPT_CNT_SAFETY_POLLS) (.leaf 689 Reg.OPT_CNT_SAFETY_FAULTS))) (.node 62967808 (.node 62967296 (.leaf 690
  Reg.OPT_CNT_TELEM_PREEMPT) (.leaf 691 Reg.OPT_CNT_BUS_ERRORS)) (.node 62968320 (.leaf 692 Reg.OPT_CNT_PAGE_WRITES) (.leaf 693
  Reg.OPT_CNT_OVL_FRAMES))))))

def fieldTreeHIF : FieldTree :=
  .node 94373120 (.node 92274944 (.node 83886080 (.node 67109389 (.node 67109384 (.node 67109120 (.leaf 694 Reg.HIF_TX_BASE_LO) (.node 67109376
  (.leaf 695 Reg.HIF_TX_BASE_HI) (.leaf 696 Reg.HIF_TX_CTL_SIZE))) (.node 67109386 (.node 67109385 (.leaf 697 Reg.HIF_TX_CTL_EN) (.leaf 698
  Reg.HIF_TX_CTL_ERR)) (.node 67109387 (.leaf 699 Reg.HIF_TX_CTL_FLUSH) (.leaf 700 Reg.HIF_TX_CTL_FLUSH_BUSY)))) (.node 67109632 (.node 67109392
  (.leaf 701 Reg.HIF_TX_CTL_HOLD) (.node 67109400 (.leaf 702 Reg.HIF_TX_CTL_OWNER) (.leaf 703 Reg.HIF_TX_CTL_ERRCODE))) (.node 67109888 (.node
  67109648 (.leaf 704 Reg.HIF_TX_IDX_PROD) (.leaf 705 Reg.HIF_TX_IDX_CONS)) (.node 67110144 (.leaf 706 Reg.HIF_TX_CQ) (.leaf 707 Reg.HIF_TX_HELD)))))
  (.node 83886608 (.node 83886600 (.node 83886336 (.leaf 708 Reg.HIF_RX_BASE_LO) (.node 83886592 (.leaf 709 Reg.HIF_RX_BASE_HI) (.leaf 710
  Reg.HIF_RX_CTL_SIZE))) (.node 83886604 (.node 83886601 (.leaf 711 Reg.HIF_RX_CTL_EN) (.leaf 712 Reg.HIF_RX_CTL_ERR)) (.node 83886605 (.leaf 713
  Reg.HIF_RX_CTL_LA) (.leaf 714 Reg.HIF_RX_CTL_HOLD)))) (.node 83886864 (.node 83886616 (.leaf 715 Reg.HIF_RX_CTL_OWNER) (.node 83886848 (.leaf 716
  Reg.HIF_RX_CTL_ERRCODE) (.leaf 717 Reg.HIF_RX_IDX_PROD))) (.node 83887360 (.node 83887104 (.leaf 718 Reg.HIF_RX_IDX_CONS) (.leaf 719
  Reg.HIF_RX_CQ)) (.node 92274688 (.leaf 720 Reg.HIF_RX_HELD) (.leaf 721 Reg.HIF_CQ_BASE_LO)))))) (.node 92276224 (.node 92275472 (.node 92275209
  (.node 92275200 (.leaf 722 Reg.HIF_CQ_BASE_HI) (.node 92275208 (.leaf 723 Reg.HIF_CQ_CTL_SIZE) (.leaf 724 Reg.HIF_CQ_CTL_EN))) (.node 92275224
  (.node 92275216 (.leaf 725 Reg.HIF_CQ_CTL_ERR) (.leaf 726 Reg.HIF_CQ_CTL_OWNER)) (.node 92275456 (.leaf 727 Reg.HIF_CQ_CTL_ERRCODE) (.leaf 728
  Reg.HIF_CQ_IDX_PROD)))) (.node 92275720 (.node 92275712 (.leaf 729 Reg.HIF_CQ_IDX_CONS) (.node 92275719 (.leaf 730 Reg.HIF_CQ_INT_VEC) (.leaf 731
  Reg.HIF_CQ_INT_INT_EN))) (.node 92275968 (.node 92275728 (.leaf 732 Reg.HIF_CQ_INT_MOD_CNT) (.leaf 733 Reg.HIF_CQ_INT_MOD_US)) (.node 92275984
  (.leaf 734 Reg.HIF_CQ_SEQ) (.leaf 735 Reg.HIF_CQ_SEQ_LOST))))) (.node 94372376 (.node 94372352 (.node 94371840 (.leaf 736 Reg.HIF_CQ_CWR_CNT)
  (.node 94372096 (.leaf 737 Reg.HIF_EQ_BASE_LO) (.leaf 738 Reg.HIF_EQ_BASE_HI))) (.node 94372361 (.node 94372360 (.leaf 739 Reg.HIF_EQ_CTL_SIZE)
  (.leaf 740 Reg.HIF_EQ_CTL_EN)) (.node 94372368 (.leaf 741 Reg.HIF_EQ_CTL_ERR) (.leaf 742 Reg.HIF_EQ_CTL_OWNER)))) (.node 94372864 (.node 94372608
  (.leaf 743 Reg.HIF_EQ_CTL_ERRCODE) (.node 94372624 (.leaf 744 Reg.HIF_EQ_IDX_PROD) (.leaf 745 Reg.HIF_EQ_IDX_CONS))) (.node 94372872 (.node
  94372871 (.leaf 746 Reg.HIF_EQ_INT_VEC) (.leaf 747 Reg.HIF_EQ_INT_INT_EN)) (.node 94372880 (.leaf 748 Reg.HIF_EQ_INT_MOD_CNT) (.leaf 749
  Reg.HIF_EQ_INT_MOD_US))))))) (.node 100669440 (.node 100663552 (.node 96469248 (.node 96468992 (.node 94373136 (.leaf 750 Reg.HIF_EQ_SEQ) (.node
  94373376 (.leaf 751 Reg.HIF_EQ_SEQ_LOST) (.leaf 752 Reg.HIF_EQ_CWR_CNT))) (.node 96468994 (.node 96468993 (.leaf 753 Reg.HIF_FN_STATUS_ENABLED)
  (.leaf 754 Reg.HIF_FN_STATUS_BME)) (.node 96468995 (.leaf 755 Reg.HIF_FN_STATUS_FLR_BUSY) (.leaf 756 Reg.HIF_FN_STATUS_HOLD)))) (.node 100663300
  (.node 96469256 (.leaf 757 Reg.HIF_FN_EQ_DEF_EQ) (.node 100663296 (.leaf 758 Reg.HIF_FN_EQ_DEF_EQ_EN) (.leaf 759 Reg.HIF_LINK_RATE))) (.node
  100663306 (.node 100663305 (.leaf 760 Reg.HIF_LINK_WIDTH) (.leaf 761 Reg.HIF_LINK_UP)) (.node 100663307 (.leaf 762 Reg.HIF_LINK_USABLE) (.leaf 763
  Reg.HIF_LINK_HOLD))))) (.node 100664584 (.node 100663808 (.node 100663568 (.leaf 764 Reg.HIF_LL_CTL_HOLD_MS) (.node 100663569 (.leaf 765
  Reg.HIF_LL_CTL_RESUME) (.leaf 766 Reg.HIF_LL_CTL_DISCARD))) (.node 100664336 (.node 100664320 (.leaf 767 Reg.HIF_STATUS_WERR) (.leaf 768
  Reg.HIF_REPLAY_CTL_RP_CQ)) (.node 100664576 (.leaf 769 Reg.HIF_REPLAY_CTL_RP_CSEQ) (.leaf 770 Reg.HIF_REPLAY_STATUS_RP_BUSY)))) (.node 100667408
  (.node 100665344 (.leaf 771 Reg.HIF_REPLAY_STATUS_RP_STATUS) (.node 100667392 (.leaf 772 Reg.HIF_REPLAY_DATA) (.leaf 773
  Reg.HIF_AUD_CTL_AUD_SNAP))) (.node 100667649 (.node 100667648 (.leaf 774 Reg.HIF_AUD_CTL_AUD_RING) (.leaf 775 Reg.HIF_AUD_STATUS_AUD_BUSY)) (.node
  100668416 (.leaf 776 Reg.HIF_AUD_STATUS_MISMATCH) (.leaf 777 Reg.HIF_ERRLOG_POP)))))) (.node 100711424 (.node 100700160 (.node 100696576 (.node
  100669456 (.leaf 778 Reg.HIF_ERRLOG_STATUS_ERRLOG_LEVEL) (.node 100696064 (.leaf 779 Reg.HIF_ERRLOG_STATUS_ERRLOG_LOST) (.leaf 780
  Reg.HIF_AUDP_POST_POSTED))) (.node 100697600 (.node 100697088 (.leaf 781 Reg.HIF_AUDP_POST_IN_HOST) (.leaf 782 Reg.HIF_AUDP_POST_HELD)) (.node
  100698112 (.leaf 783 Reg.HIF_AUDP_POST_USED) (.leaf 784 Reg.HIF_AUDP_POST_DISCARDED)))) (.node 100701696 (.node 100700672 (.leaf 785
  Reg.HIF_AUDC_ADVERTISED) (.node 100701184 (.leaf 786 Reg.HIF_AUDC_RECEIVED) (.leaf 787 Reg.HIF_AUDC_FREE))) (.node 100710400 (.node 100702208
  (.leaf 788 Reg.HIF_AUDC_OCCUPIED) (.leaf 789 Reg.HIF_AUDC_BUFFER)) (.node 100710912 (.leaf 790 Reg.HIF_AUDR_CPL_BUFFER) (.leaf 791
  Reg.HIF_AUDR_CPL_RESERVED))))) (.node 100731392 (.node 100729344 (.node 100711936 (.leaf 792 Reg.HIF_AUDR_CPL_OCCUPIED) (.node 100728832 (.leaf 793
  Reg.HIF_AUDR_CPL_FREE) (.leaf 794 Reg.HIF_CNT_DB_ACCEPTED))) (.node 100730368 (.node 100729856 (.leaf 795 Reg.HIF_CNT_DB_DISCARDED) (.leaf 796
  Reg.HIF_CNT_DESC_FETCHED)) (.node 100730880 (.leaf 797 Reg.HIF_CNT_RX_FRAMES) (.leaf 798 Reg.HIF_CNT_RX_BYTES)))) (.node 100733440 (.node 100732416
  (.node 100731904 (.leaf 799 Reg.HIF_CNT_TX_COMPLETIONS) (.leaf 800 Reg.HIF_CNT_CPL_TIMEOUT)) (.node 100732928 (.leaf 801 Reg.HIF_CNT_CPL_MALFORMED)
  (.leaf 802 Reg.HIF_CNT_CPL_UNEXPECTED))) (.node 100734464 (.node 100733952 (.leaf 803 Reg.HIF_CNT_LINK_DOWNS) (.leaf 804 Reg.HIF_CNT_REPLAYED))
  (.node 100734976 (.leaf 805 Reg.HIF_CNT_FLRS) (.leaf 806 Reg.HIF_CNT_AUD_FAIL)))))))

def fieldTreeMBX : FieldTree :=
  .node 201623040 (.node 201621504 (.node 201605120 (.leaf 807 Reg.MBX_OWN_OWNER) (.leaf 808 Reg.MBX_STATUS_WERR)) (.node 201622016 (.leaf 809
  Reg.MBX_CNT_MESSAGES) (.node 201622528 (.leaf 810 Reg.MBX_CNT_REFUSED) (.leaf 811 Reg.MBX_CNT_COLLISIONS)))) (.node 201624064 (.node 201623552
  (.leaf 812 Reg.MBX_CNT_ACK_STALE) (.leaf 813 Reg.MBX_CNT_FETCHES)) (.node 201624576 (.leaf 814 Reg.MBX_CNT_FETCH_FAILS) (.node 201625088 (.leaf 815
  Reg.MBX_CNT_NOTICES) (.leaf 816 Reg.MBX_CNT_NOTICE_LOST))))

def fieldTreeADM : FieldTree :=
  .node 205522944 (.node 205521920 (.node 205521417 (.node 205521408 (.node 205521152 (.leaf 817 Reg.ADM_SQ_BASE_LO) (.leaf 818 Reg.ADM_SQ_BASE_HI))
  (.node 205521416 (.leaf 819 Reg.ADM_SQ_CTL_SQ_SIZE) (.leaf 820 Reg.ADM_SQ_CTL_SQ_EN))) (.node 205521664 (.node 205521432 (.leaf 821
  Reg.ADM_SQ_CTL_SQ_ERR) (.leaf 822 Reg.ADM_SQ_CTL_SQ_ERRCODE)) (.node 205521680 (.leaf 823 Reg.ADM_SQ_IDX_SQ_PROD) (.leaf 824
  Reg.ADM_SQ_IDX_SQ_CONS)))) (.node 205522448 (.node 205522432 (.node 205522176 (.leaf 825 Reg.ADM_CQ_BASE_LO) (.leaf 826 Reg.ADM_CQ_BASE_HI)) (.node
  205522440 (.leaf 827 Reg.ADM_CQ_CTL_CQ_SIZE) (.leaf 828 Reg.ADM_CQ_CTL_CQ_EN))) (.node 205522688 (.node 205522455 (.leaf 829 Reg.ADM_CQ_CTL_VEC)
  (.leaf 830 Reg.ADM_CQ_CTL_INT_EN)) (.node 205522704 (.leaf 831 Reg.ADM_CQ_IDX_CQ_CONS) (.leaf 832 Reg.ADM_CQ_IDX_CQ_PROD))))) (.node 205537552
  (.node 205537280 (.node 205523200 (.node 205522960 (.leaf 833 Reg.ADM_CTL_PROG_MS) (.leaf 834 Reg.ADM_CTL_SUSP_MAX_S)) (.node 205523208 (.leaf 835
  Reg.ADM_STATUS_FW_PRESENT) (.leaf 836 Reg.ADM_STATUS_LIVE))) (.node 205537304 (.node 205537296 (.leaf 837 Reg.ADM_LOP0_HANDLE) (.leaf 838
  Reg.ADM_LOP0_OPCODE)) (.node 205537536 (.leaf 839 Reg.ADM_LOP0_STATE) (.leaf 840 Reg.ADM_LOP1_PERMILLE)))) (.node 205554176 (.node 205538048 (.node
  205537792 (.leaf 841 Reg.ADM_LOP1_CID) (.leaf 842 Reg.ADM_LOP2_DONE)) (.node 205553664 (.leaf 843 Reg.ADM_LOP3_TOTAL) (.leaf 844
  Reg.ADM_CNT_COMMANDS))) (.node 205555200 (.node 205554688 (.leaf 845 Reg.ADM_CNT_REFUSED) (.leaf 846 Reg.ADM_CNT_LONG_STARTED)) (.node 205555712
  (.leaf 847 Reg.ADM_CNT_LONG_OK) (.node 205556224 (.leaf 848 Reg.ADM_CNT_LONG_CANCELLED) (.leaf 849 Reg.ADM_CNT_LONG_FAILED))))))

def fieldTreeFW : FieldTree :=
  .node 209720336 (.node 209715734 (.node 209715216 (.node 209715205 (.node 209715203 (.leaf 850 Reg.FW_STATUS_STATE) (.node 209715204 (.leaf 851
  Reg.FW_STATUS_SLOT) (.leaf 852 Reg.FW_STATUS_TRIAL))) (.node 209715207 (.leaf 853 Reg.FW_STATUS_STARTS) (.node 209715208 (.leaf 854
  Reg.FW_STATUS_OVERRIDE) (.leaf 855 Reg.FW_STATUS_SETTINGS_OK)))) (.node 209715712 (.node 209715456 (.leaf 856 Reg.FW_STATUS_TRIAL_LEFT) (.node
  209715467 (.leaf 857 Reg.FW_CTL_TRIAL_MIN) (.leaf 858 Reg.FW_CTL_ALLOW_UNTESTED))) (.node 209715720 (.leaf 859 Reg.FW_DR_SILENCE_MS) (.node
  209715730 (.leaf 860 Reg.FW_DR_AUTOPILOT_MS) (.leaf 861 Reg.FW_DR_RESTART_MAX))))) (.node 209719298 (.node 209716224 (.node 209715968 (.leaf 862
  Reg.FW_DR_WINDOW_MIN) (.node 209715972 (.leaf 863 Reg.FW_DR_STATUS_IN_WINDOW) (.leaf 864 Reg.FW_DR_STATUS_LAST_CAUSE))) (.node 209719296 (.leaf 865
  Reg.FW_HB) (.node 209719297 (.leaf 866 Reg.FW_SLOT0_HDR_OK) (.leaf 867 Reg.FW_SLOT0_VERIFIED)))) (.node 209719552 (.node 209719299 (.leaf 868
  Reg.FW_SLOT0_COSIGNED) (.node 209719312 (.leaf 869 Reg.FW_SLOT0_TESTED) (.leaf 870 Reg.FW_SLOT0_SCHEMA_WRITE))) (.node 209720064 (.node 209719808
  (.leaf 871 Reg.FW_SLOT_IMAGE_VER) (.leaf 872 Reg.FW_SLOT_TROEB_VER)) (.node 209720320 (.leaf 873 Reg.FW_SLOT_FLUME_VER) (.leaf 874
  Reg.FW_SLOT_STEP_STEP_MIN)))))) (.node 209731592 (.node 209724432 (.node 209723648 (.node 209720576 (.leaf 875 Reg.FW_SLOT_STEP_STEP_MAX) (.node
  209723392 (.leaf 876 Reg.FW_SLOT_SCHEMA_SCHEMA_READ_MIN) (.leaf 877 Reg.FW_BOOTREC_SEQ))) (.node 209723664 (.leaf 878 Reg.FW_BOOTREC_FLAGS) (.node
  209724416 (.leaf 879 Reg.FW_BOOTREC_FLAGS_TRIAL_MIN) (.leaf 880 Reg.FW_SETTINGS_SCHEMA)))) (.node 209731586 (.node 209724433 (.leaf 881
  Reg.FW_SETTINGS_COPY) (.node 209731584 (.leaf 882 Reg.FW_SETTINGS_UNREADABLE) (.leaf 883 Reg.FW_LC_STATE))) (.node 209731587 (.leaf 884
  Reg.FW_LC_PENDING) (.node 209731589 (.leaf 885 Reg.FW_LC_PEND_TGT) (.leaf 886 Reg.FW_LC_COSIGN_USED))))) (.node 209748992 (.node 209732104 (.node
  209731840 (.leaf 887 Reg.FW_LC_MARGIN_LOW) (.node 209732096 (.leaf 888 Reg.FW_LC_ARM_TARGET) (.leaf 889 Reg.FW_FLASH_SFDP_OK))) (.node 209747968
  (.leaf 890 Reg.FW_FLASH_SIZE_MIB) (.node 209748480 (.leaf 891 Reg.FW_CNT_RESTARTS) (.leaf 892 Reg.FW_CNT_AUTOPILOTS)))) (.node 209750528 (.node
  209749504 (.leaf 893 Reg.FW_CNT_AUTOPILOT_EXPIRED) (.node 209750016 (.leaf 894 Reg.FW_CNT_FALLBACKS) (.leaf 895 Reg.FW_CNT_ACTIVATIONS))) (.node
  209751552 (.node 209751040 (.leaf 896 Reg.FW_CNT_REVERTS) (.leaf 897 Reg.FW_CNT_BLOCKS_WRITTEN)) (.node 209752064 (.leaf 898
  Reg.FW_CNT_VERIFY_FAIL) (.leaf 899 Reg.FW_CNT_HB_BAD))))))

def fieldTreeMEM : FieldTree :=
  .node 213926144 (.node 213925888 (.node 213909760 (.leaf 900 Reg.MEM_SCRUB_CTL_EN) (.leaf 901 Reg.MEM_SCRUB_STATUS_PASS_MS)) (.node 213925904
  (.leaf 902 Reg.MEM_INST_SPARES_TOTAL) (.leaf 903 Reg.MEM_INST_SPARES_USED))) (.node 213926152 (.node 213926145 (.leaf 904 Reg.MEM_INST_STATUS_LOW)
  (.leaf 905 Reg.MEM_INST_STATUS_EXHAUSTED)) (.node 213926400 (.leaf 906 Reg.MEM_INST_STATUS_LAST_ROW) (.node 213926912 (.leaf 907
  Reg.MEM_INSTC_CORR) (.leaf 908 Reg.MEM_INSTC_UNCORR))))

def fieldTreeEVT : FieldTree :=
  .node 218366976 (.node 218103817 (.node 218103816 (.leaf 909 Reg.EVT_ROUTE_RING) (.leaf 910 Reg.EVT_ROUTE_EN)) (.node 218365952 (.leaf 911
  Reg.EVT_ROUTE_MODE) (.leaf 912 Reg.EVT_LOG_POP))) (.node 218382336 (.node 218367488 (.leaf 913 Reg.EVT_LOG_LEVEL) (.leaf 914
  Reg.EVT_LOG_EVT_LOG_LOST)) (.node 218382848 (.leaf 915 Reg.EVT_CNT_EVT_WRITTEN) (.leaf 916 Reg.EVT_CNT_EVT_DROPPED)))

def fieldTree : FieldTree :=
  .node 46137344 (.node 25165824 (.node 8388608 (.node 4194304 (fieldTreeGEN) (fieldTreePWR)) (.node 16777216 (fieldTreeLINE) (.node 20971520
  (fieldTreeACT) (fieldTreeHG)))) (.node 33554432 (.node 29361152 (fieldTreeTIME) (fieldTreeTEV)) (.node 37748736 (fieldTreeUSCH) (.node 41943040
  (fieldTreeSTBL) (fieldTreeCLS))))) (.node 67108864 (.node 54525952 (.node 50331648 (fieldTreeCIPH) (fieldTreeSLU)) (.node 58720256 (fieldTreePROT)
  (.node 62914560 (fieldTreePM) (fieldTreeOPT)))) (.node 209715200 (.node 201588736 (fieldTreeHIF) (.node 205520896 (fieldTreeMBX) (fieldTreeADM)))
  (.node 213909504 (fieldTreeFW) (.node 218103808 (fieldTreeMEM) (fieldTreeEVT)))))

/-- The number of a field. -/
def rowIdx (R : Row) : Nat := (fieldTree.find (R.addr * 64 + R.lo)).1

/-- The field is one of the tree. -/
def rowKnown (R : Row) : Bool := (fieldTree.find (R.addr * 64 + R.lo)).2 = R

/-- The last address of a field's copies. -/
def rowLast (R : Row) : Nat := R.addr + R.legStride + (R.n - 1) * R.stride

/-- Two sequences of places that never meet: one ends before the other begins, or their residues of the common stride differ. -/
def seqDisj (a n p b m q : Nat) : Bool :=
  Nat.blt (a + (n - 1) * p) b || Nat.blt (b + (m - 1) * q) a || !(Nat.beq (a % Nat.gcd p q) (b % Nat.gcd p q))

/-- Two fields that never meet. -/
def rowDisj (R Q : Row) : Bool :=
  !(Nat.beq R.lo Q.lo) ||
  (seqDisj R.addr R.n R.stride Q.addr Q.n Q.stride && seqDisj (R.addr + R.legStride) R.n R.stride Q.addr Q.n Q.stride &&
   seqDisj R.addr R.n R.stride (Q.addr + Q.legStride) Q.n Q.stride &&
   seqDisj (R.addr + R.legStride) R.n R.stride (Q.addr + Q.legStride) Q.n Q.stride)

def tabRows (t : Nat) : List Row := windowRows (t * 65536)

def pairOk (R Q : Row) : Bool := (Nat.beq R.addr Q.addr && Nat.beq R.lo Q.lo) || rowDisj R Q

def tabOk (t : Nat) : Bool :=
  (tabRows t).all fun R =>
    Nat.beq (tabOf R.addr) t && Nat.beq (tabOf (rowLast R)) t && Nat.blt R.lo 64 && Nat.blt 0 R.n && (tabRows t).all fun Q => pairOk R Q

set_option maxRecDepth 8000
theorem tabOk_line : (tabOk 0 && tabOk 1 && tabOk 2 && tabOk 4 && tabOk 5 && tabOk 6 && tabOk 7) = true := by decide +kernel
theorem tabOk_path : (tabOk 8 && tabOk 9 && tabOk 10 && tabOk 11 && tabOk 12 && tabOk 13 && tabOk 14) = true := by decide +kernel
theorem tabOk_host : (tabOk 15 && tabOk 16 && tabOk 48 && tabOk 49 && tabOk 50 && tabOk 51 && tabOk 52) = true := by decide +kernel

theorem tabRows_ok (a : Nat) : tabOk (tabOf a) = true := by
  have h1 := tabOk_line
  have h2 := tabOk_path
  have h3 := tabOk_host
  simp only [Bool.and_eq_true] at h1 h2 h3
  obtain ⟨⟨⟨⟨⟨⟨a, b⟩, c⟩, d⟩, e⟩, f⟩, g⟩ := h1
  obtain ⟨⟨⟨⟨⟨⟨a', b'⟩, c'⟩, d'⟩, e'⟩, f'⟩, g'⟩ := h2
  obtain ⟨⟨⟨⟨⟨⟨a2, b2⟩, c2⟩, d2⟩, e2⟩, f2⟩, g2⟩ := h3
  generalize ht : tabOf _ = t
  by_cases hb : t ≤ 52
  · by_cases hc : t ≤ 16
    · interval_cases t <;> first
        | with_reducible assumption
        | (exfalso; simp only [tabOf] at ht; split_ifs at ht <;> omega)
    · by_cases hd : 48 ≤ t
      · interval_cases t <;> with_reducible assumption
      · exfalso; simp only [tabOf] at ht; split_ifs at ht <;> omega
  · have e0 : tabRows t = [] := by
      unfold tabRows windowRows
      rw [Nat.mul_div_cancel _ (by decide)]
      split <;> first
        | omega
        | (rw [if_neg (by omega)])
    unfold tabOk
    rw [e0]
    rfl

theorem windowRows_tab (a : Nat) : windowRows a = tabRows (tabOf a) := by
  unfold tabRows windowRows tabOf
  generalize a / 65536 = w
  simp only [Nat.mul_div_cancel _ (by decide : 0 < 65536)]
  by_cases hw : w ≤ 52
  · interval_cases w <;> rfl
  · have h1 : ¬(w = 3) := by omega
    have h2 : ¬(16 ≤ w ∧ w < 48) := by omega
    rw [if_neg h1, if_neg h2]

theorem beq_ne {a b : Nat} (h : Nat.beq a b = false) : a ≠ b := by
  rintro rfl
  rw [Nat.beq_refl] at h
  cases h

theorem seqDisj_ne {a n p b m q i j : Nat} (h : seqDisj a n p b m q = true) (hi : i < n) (hj : j < m) : a + i * p ≠ b + j * q := by
  unfold seqDisj at h
  simp only [Bool.or_eq_true, Nat.blt_eq, Bool.not_eq_true'] at h
  have hp : i * p ≤ (n - 1) * p := Nat.mul_le_mul_right p (by omega)
  have hq : j * q ≤ (m - 1) * q := Nat.mul_le_mul_right q (by omega)
  rcases h with (h | h) | h
  · omega
  · omega
  · intro e
    apply beq_ne h
    have h1 : Nat.gcd p q ∣ i * p := Dvd.dvd.mul_left (Nat.gcd_dvd_left p q) i
    have h2 : Nat.gcd p q ∣ j * q := Dvd.dvd.mul_left (Nat.gcd_dvd_right p q) j
    have e1 : (a + i * p) % Nat.gcd p q = a % Nat.gcd p q := by
      rw [Nat.add_mod, Nat.mod_eq_zero_of_dvd h1, Nat.add_zero, Nat.mod_mod]
    have e2 : (b + j * q) % Nat.gcd p q = b % Nat.gcd p q := by
      rw [Nat.add_mod, Nat.mod_eq_zero_of_dvd h2, Nat.add_zero, Nat.mod_mod]
    rw [← e1, ← e2, e]

/-- A copy of a field begins where one of the two legs' sequences of it does. -/
theorem key_leg {R : Row} {l i : Nat} (h : Row.copy R l i) :
    R.key l i = (R.addr + i * R.stride) * 64 + R.lo ∨ R.key l i = (R.addr + R.legStride + i * R.stride) * 64 + R.lo := by
  unfold Row.key
  rcases h.2 with h | h
  · interval_cases l
    · left; rw [Nat.zero_mul, Nat.add_zero]
    · right; rw [Nat.one_mul]
  · left; rw [h, Nat.mul_zero, Nat.add_zero]

theorem rowDisj_ne {R Q : Row} {l i k j : Nat} (h : rowDisj R Q = true) (hR : R.lo < 64) (hQ : Q.lo < 64) (hr : Row.copy R l i)
    (hq : Row.copy Q k j) : R.key l i ≠ Q.key k j := by
  have hi := hr.1
  have hj := hq.1
  unfold rowDisj at h
  simp only [Bool.or_eq_true, Bool.and_eq_true, Bool.not_eq_true'] at h
  rcases h with h | ⟨⟨⟨h1, h2⟩, h3⟩, h4⟩
  · have := beq_ne h
    rcases key_leg hr with e | e <;> rcases key_leg hq with e' | e' <;> rw [e, e'] <;> omega
  · have d1 := seqDisj_ne h1 hi hj
    have d2 := seqDisj_ne h2 hi hj
    have d3 := seqDisj_ne h3 hi hj
    have d4 := seqDisj_ne h4 hi hj
    rcases key_leg hr with e | e <;> rcases key_leg hq with e' | e' <;> rw [e, e'] <;> omega

theorem tabOf_mono {a b : Nat} (h : a ≤ b) : tabOf a ≤ tabOf b := by
  have := Nat.div_le_div_right (c := 65536) h
  simp only [tabOf]
  split_ifs <;> omega

/-- What the check of a window says of a field of it. -/
theorem inMap_ok {R : Row} (h : Row.inMap R = true) : tabOf (rowLast R) = tabOf R.addr ∧ R.lo < 64 ∧
    ∀ Q, Row.inMap Q = true → tabOf Q.addr = tabOf R.addr → pairOk R Q = true := by
  unfold Row.inMap at h
  have hm := List.elem_iff.1 h
  have hok := tabRows_ok R.addr
  rw [windowRows_tab] at hm
  have hr := List.all_eq_true.1 hok R hm
  simp only [Bool.and_eq_true, Nat.beq_eq, Nat.blt_eq, List.all_eq_true] at hr
  refine ⟨hr.1.1.1.2, hr.1.1.2, fun Q hQ ht => hr.2 Q ?_⟩
  unfold Row.inMap at hQ
  have hq := List.elem_iff.1 hQ
  rwa [windowRows_tab, ht] at hq

theorem copy_addr {R : Row} {l i : Nat} (h : Row.copy R l i) :
    R.addr ≤ R.addr + l * R.legStride + i * R.stride ∧ R.addr + l * R.legStride + i * R.stride ≤ rowLast R := by
  have h1 : i * R.stride ≤ (R.n - 1) * R.stride := Nat.mul_le_mul_right _ (by have := h.1; omega)
  have h2 : l * R.legStride ≤ R.legStride := by
    rcases h.2 with h | h
    · interval_cases l <;> omega
    · rw [h]; simp
  unfold rowLast
  omega

theorem key_tab {R : Row} {l i : Nat} (hR : Row.inMap R = true) (h : Row.copy R l i) : tabOf (R.key l i / 64) = tabOf R.addr := by
  obtain ⟨h1, h2, -⟩ := inMap_ok hR
  obtain ⟨h3, h4⟩ := copy_addr h
  have e : R.key l i / 64 = R.addr + l * R.legStride + i * R.stride := by unfold Row.key; omega
  rw [e]
  exact Nat.le_antisymm (h1 ▸ tabOf_mono h4) (tabOf_mono h3)

/-- Copies of different fields have different keys. -/
theorem key_ne {R Q : Row} {l i k j : Nat} (hR : Row.inMap R = true) (hQ : Row.inMap Q = true) (hr : Row.copy R l i)
    (hq : Row.copy Q k j) (hne : rowIdx R ≠ rowIdx Q) : R.key l i ≠ Q.key k j := by
  intro e
  have ht : tabOf Q.addr = tabOf R.addr := by rw [← key_tab hQ hq, ← key_tab hR hr, e]
  obtain ⟨-, h2, h3⟩ := inMap_ok hR
  have hp := h3 Q hQ ht
  simp only [pairOk, Bool.or_eq_true, Bool.and_eq_true, Nat.beq_eq] at hp
  rcases hp with ⟨h4, h5⟩ | hp
  · exact hne (by unfold rowIdx; rw [h4, h5])
  · exact rowDisj_ne hp h2 (inMap_ok hQ).2.1 hr hq e

theorem FieldTree.find_mem (k : Nat) (t : FieldTree) : (t.find k).2 ∈ t.toList := by
  induction t with
  | leaf n R => simp [find, toList]
  | node c l r hl hr =>
    simp only [find, toList, List.mem_append]
    cases Nat.blt k c
    · exact Or.inr hr
    · exact Or.inl hl

theorem fieldTree_in : (fieldTree.toList.all fun R => Row.inMap R) = true := by decide +kernel

theorem known_inMap {R : Row} (h : rowKnown R = true) : Row.inMap R = true := by
  have e := of_decide_eq_true h
  have hm := List.all_eq_true.1 fieldTree_in _ (FieldTree.find_mem (R.addr * 64 + R.lo) fieldTree)
  rwa [e] at hm

end Sys2Proof.Machine
end

