-- ==== Sys2Proof/Laws/Tab.lean ====
section
/-! SUPPORT. The sparse table: a read after a write, a write leaves every other key alone, and every operation keeps the canonical
form. -/

namespace Sys2Proof

variable {α : Type}

/-- Every key of a table lies above k. -/
def Tab.above (k : Nat) (t : Tab α) : Prop := ∀ p ∈ t, k < p.1

theorem Tab.wf_cons_iff [DecidableEq α] (d : α) (j : Nat) (v : α) (r : Tab α) :
    Tab.wf d ((j, v) :: r) = true ↔ v ≠ d ∧ Tab.above j r ∧ Tab.wf d r = true := by
  induction r generalizing j v with
  | nil => simp [Tab.wf, Tab.above]
  | cons p r ih =>
    obtain ⟨k, w⟩ := p
    have e : Tab.wf d ((j, v) :: (k, w) :: r) = true ↔ v ≠ d ∧ j < k ∧ Tab.wf d ((k, w) :: r) = true := by
      simp [Tab.wf, and_assoc]
    rw [e]
    constructor
    · rintro ⟨a, b, c⟩
      refine ⟨a, ?_, c⟩
      intro q hq
      rcases List.mem_cons.1 hq with rfl | hq
      · exact b
      · exact lt_trans b (((ih k w).1 c).2.1 q hq)
    · rintro ⟨a, b, c⟩
      exact ⟨a, b (k, w) (by simp), c⟩

@[simp] theorem Tab.get_nil (d : α) (k : Nat) : Tab.get d k ([] : Tab α) = d := rfl

theorem Tab.get_cons (d : α) (k j : Nat) (v : α) (r : Tab α) :
    Tab.get d k ((j, v) :: r) = if j = k then v else Tab.get d k r := by
  by_cases h : j = k <;> simp [Tab.get, Tab.find, h]

theorem Tab.get_above [DecidableEq α] (d : α) (k : Nat) (t : Tab α) (h : Tab.above k t) : Tab.get d k t = d := by
  induction t with
  | nil => rfl
  | cons p r ih =>
    obtain ⟨j, v⟩ := p
    have hj : k < j := h (j, v) (by simp)
    rw [Tab.get_cons, if_neg (by omega)]
    exact ih fun q hq => h q (List.mem_cons_of_mem _ hq)

theorem Tab.get_ins (d : α) (k j : Nat) (v : α) (t : Tab α) :
    Tab.get d j (Tab.ins k v t) = if j = k then v else Tab.get d j t := by
  induction t with
  | nil => simp only [Tab.ins, Tab.get_cons, Tab.get_nil, eq_comm]
  | cons p r ih =>
    obtain ⟨i, w⟩ := p
    unfold Tab.ins
    by_cases h : i = k
    · subst h
      by_cases hj : i = j
      · subst hj; simp [Tab.get_cons]
      · simp [Tab.get_cons, hj, Ne.symm hj]
    · by_cases hk : k < i
      · by_cases hj : k = j
        · subst hj; simp [Tab.get_cons, h, hk]
        · simp [Tab.get_cons, h, hk, hj, Ne.symm hj]
      · by_cases hj : i = j
        · subst hj; simp [Tab.get_cons, h, hk]
        · simp [Tab.get_cons, h, hk, hj, ih]

theorem Tab.get_del (d : α) (k j : Nat) (t : Tab α) : Tab.get d j (Tab.del k t) = if j = k then d else Tab.get d j t := by
  induction t with
  | nil => simp [Tab.del]
  | cons p r ih =>
    obtain ⟨i, w⟩ := p
    unfold Tab.del
    by_cases h : i = k
    · subst h
      rw [if_pos rfl, ih, Tab.get_cons]
      by_cases hj : j = i
      · simp [hj]
      · simp [hj, Ne.symm hj]
    · rw [if_neg h, Tab.get_cons, Tab.get_cons, ih]
      by_cases hj : i = j
      · subst hj; simp [h]
      · simp [hj]

/-- A write leaves every other key alone. -/
theorem Tab.get_put_ne [DecidableEq α] (d : α) {k j : Nat} (h : j ≠ k) (v : α) (t : Tab α) :
    Tab.get d j (Tab.put d k v t) = Tab.get d j t := by
  unfold Tab.put
  split
  · rw [Tab.get_del, if_neg h]
  · rw [Tab.get_ins, if_neg h]

/-- A read after a write to the same key gives the value written. -/
@[simp] theorem Tab.get_put_self [DecidableEq α] (d : α) (k : Nat) (v : α) (t : Tab α) :
    Tab.get d k (Tab.put d k v t) = v := by
  unfold Tab.put
  split
  · subst_vars; rw [Tab.get_del, if_pos rfl]
  · rw [Tab.get_ins, if_pos rfl]

theorem Tab.above_del {n : Nat} (k : Nat) (t : Tab α) (h : Tab.above n t) : Tab.above n (Tab.del k t) := by
  induction t with
  | nil => exact h
  | cons p r ih =>
    obtain ⟨i, w⟩ := p
    have hr : Tab.above n r := fun q hq => h q (List.mem_cons_of_mem _ hq)
    unfold Tab.del
    split
    · exact ih hr
    · intro q hq
      rcases List.mem_cons.1 hq with rfl | hq
      · exact h _ (by simp)
      · exact ih hr q hq

theorem Tab.above_ins {n : Nat} (k : Nat) (v : α) (hk : n < k) (t : Tab α) (h : Tab.above n t) : Tab.above n (Tab.ins k v t) := by
  induction t with
  | nil => intro q hq; simp [Tab.ins] at hq; subst hq; exact hk
  | cons p r ih =>
    obtain ⟨i, w⟩ := p
    have hr : Tab.above n r := fun q hq => h q (List.mem_cons_of_mem _ hq)
    unfold Tab.ins
    split
    · intro q hq
      rcases List.mem_cons.1 hq with rfl | hq
      · exact hk
      · exact hr q hq
    · split
      · intro q hq
        rcases List.mem_cons.1 hq with rfl | hq
        · exact hk
        · exact h q hq
      · intro q hq
        rcases List.mem_cons.1 hq with rfl | hq
        · exact h _ (by simp)
        · exact ih hr q hq

theorem Tab.wf_del [DecidableEq α] (d : α) (k : Nat) (t : Tab α) (hw : Tab.wf d t = true) : Tab.wf d (Tab.del k t) = true := by
  induction t with
  | nil => exact hw
  | cons p r ih =>
    obtain ⟨i, w⟩ := p
    obtain ⟨h0, ha, hr⟩ := (Tab.wf_cons_iff d i w r).1 hw
    unfold Tab.del
    split
    · exact ih hr
    · exact (Tab.wf_cons_iff d i w _).2 ⟨h0, Tab.above_del k r ha, ih hr⟩

theorem Tab.wf_ins [DecidableEq α] (d : α) (k : Nat) (v : α) (hv : v ≠ d) (t : Tab α) (hw : Tab.wf d t = true) :
    Tab.wf d (Tab.ins k v t) = true := by
  induction t with
  | nil => simpa [Tab.ins, Tab.wf] using hv
  | cons p r ih =>
    obtain ⟨i, w⟩ := p
    obtain ⟨h0, ha, hr⟩ := (Tab.wf_cons_iff d i w r).1 hw
    unfold Tab.ins
    split
    · subst_vars; exact (Tab.wf_cons_iff d i v r).2 ⟨hv, ha, hr⟩
    · split
      · rename_i h1 h2
        refine (Tab.wf_cons_iff d k v _).2 ⟨hv, fun q hq => ?_, hw⟩
        rcases List.mem_cons.1 hq with rfl | hq
        · exact h2
        · exact lt_trans h2 (ha q hq)
      · exact (Tab.wf_cons_iff d i w _).2 ⟨h0, Tab.above_ins k v (by omega) r ha, ih hr⟩

/-- A write keeps the canonical form. -/
theorem Tab.wf_put [DecidableEq α] (d : α) (k : Nat) (v : α) (t : Tab α) (hw : Tab.wf d t = true) :
    Tab.wf d (Tab.put d k v t) = true := by
  unfold Tab.put
  split
  · exact Tab.wf_del d k t hw
  · exact Tab.wf_ins d k v (by assumption) t hw

/-- Dropping entries keeps the canonical form. -/
theorem Tab.wf_filter [DecidableEq α] (d : α) (p : Nat × α → Bool) (t : Tab α) (hw : Tab.wf d t = true) :
    Tab.wf d (List.filter p t : Tab α) = true := by
  induction t with
  | nil => rfl
  | cons q r ih =>
    obtain ⟨i, w⟩ := q
    obtain ⟨h0, ha, hr⟩ := (Tab.wf_cons_iff d i w r).1 hw
    rw [List.filter_cons]
    split
    · exact (Tab.wf_cons_iff d i w _).2 ⟨h0, fun q hq => ha q (List.mem_filter.1 hq).1, ih hr⟩
    · exact ih hr

/-- A fold of operations that keep the canonical form keeps it. -/
theorem Tab.wf_foldl [DecidableEq α] {β : Type} (d : α) (f : Tab α → β → Tab α) (hf : ∀ t x, Tab.wf d t = true → Tab.wf d (f t x) = true)
    (l : List β) (t : Tab α) (hw : Tab.wf d t = true) : Tab.wf d (l.foldl f t) = true := by
  induction l generalizing t with
  | nil => exact hw
  | cons p r ih => exact ih _ (hf t p hw)

theorem Tab.mem_put [DecidableEq α] {d : α} (k : Nat) (v : α) (t : Tab α) (p : Nat × α) (h : p ∈ Tab.put d k v t) :
    p = (k, v) ∨ p ∈ t := by
  have hi : ∀ t : Tab α, p ∈ Tab.ins k v t → p = (k, v) ∨ p ∈ t := by
    intro t
    induction t with
    | nil => intro h; exact Or.inl (by simpa [Tab.ins] using h)
    | cons q r ih =>
      obtain ⟨i, w⟩ := q
      unfold Tab.ins
      split
      · intro h
        rcases List.mem_cons.1 h with e | e
        · exact Or.inl e
        · exact Or.inr (List.mem_cons_of_mem _ e)
      · split
        · intro h; exact List.mem_cons.1 h
        · intro h
          rcases List.mem_cons.1 h with e | e
          · exact Or.inr (e ▸ List.mem_cons_self)
          · exact (ih e).imp id (List.mem_cons_of_mem _)
  have hd : ∀ t : Tab α, p ∈ Tab.del k t → p ∈ t := by
    intro t
    induction t with
    | nil => exact id
    | cons q r ih =>
      obtain ⟨i, w⟩ := q
      unfold Tab.del
      split
      · exact fun h => List.mem_cons_of_mem _ (ih h)
      · intro h
        rcases List.mem_cons.1 h with e | e
        · exact e ▸ List.mem_cons_self
        · exact List.mem_cons_of_mem _ (ih e)
  unfold Tab.put at h
  split at h
  · exact Or.inr (hd t h)
  · exact hi t h

theorem Tab.get_mem (d : α) (k : Nat) (t : Tab α) : Tab.get d k t = d ∨ ∃ p ∈ t, Tab.get d k t = p.2 := by
  induction t with
  | nil => exact Or.inl rfl
  | cons q r ih =>
    obtain ⟨i, w⟩ := q
    rw [Tab.get_cons]
    split
    · exact Or.inr ⟨_, List.mem_cons_self, rfl⟩
    · exact ih.imp id fun ⟨p, hp, e⟩ => ⟨p, List.mem_cons_of_mem _ hp, e⟩

/-- Every listed value is changed, no other. -/
theorem Tab.get_mapv [DecidableEq α] (d : α) (f : Nat → α → α) (k : Nat) (hd : f k d = d) (t : Tab α) :
    Tab.get d k (Tab.mapv d f t) = f k (Tab.get d k t) := by
  induction t with
  | nil => exact hd.symm
  | cons p r ih =>
    obtain ⟨j, v⟩ := p
    unfold Tab.mapv
    by_cases h : j = k
    · subst h
      split
      · rename_i e; simp [Tab.get_del, Tab.get_cons, e]
      · simp [Tab.get_cons]
    · split
      · simp [Tab.get_del, Tab.get_cons, h, Ne.symm h, ih]
      · simp [Tab.get_cons, h, ih]

end Sys2Proof
end

