-- ==== Sys2Proof/Laws/Foot.lean ====
section
/-! SUPPORT. `Foot m s t`: going from s to t changed only what the mask m names, and kept the invariant. Bit n of the mask stands for the
field of the register map numbered n (`rowIdx`), bit 999 for the register store as a whole, bits 1000 on for the other fields of State.
The lemmas that follow close the relation under each way a meaning builds its state. -/

namespace Sys2Proof.Machine

structure Foot (m : Nat) (s t : State) : Prop where
  regs : m.testBit 999 = false → ∀ R l i, Row.inMap R = true → m.testBit (rowIdx R) = false → Row.copy R l i →
    Tab.get 0 (R.key l i) t.regs = Tab.get 0 (R.key l i) s.regs
  fwRegs : m.testBit 1000 = false → t.fwRegs = s.fwRegs
  latches : m.testBit 1001 = false → t.latches = s.latches
  la : m.testBit 1002 = false → t.la = s.la
  lb : m.testBit 1003 = false → t.lb = s.lb
  time : m.testBit 1004 = false → t.time = s.time
  tev : m.testBit 1005 = false → t.tev = s.tev
  slots : m.testBit 1006 = false → t.slots = s.slots
  bursts : m.testBit 1007 = false → t.bursts = s.bursts
  led : m.testBit 1008 = false → t.led = s.led
  seqs : m.testBit 1009 = false → t.seqs = s.seqs
  host : m.testBit 1010 = false → t.host = s.host
  cls : m.testBit 1011 = false → t.cls = s.cls
  ciph : m.testBit 1012 = false → t.ciph = s.ciph
  slu : m.testBit 1013 = false → t.slu = s.slu
  prot : m.testBit 1014 = false → t.prot = s.prot
  pm : m.testBit 1015 = false → t.pm = s.pm
  mbx : m.testBit 1016 = false → t.mbx = s.mbx
  adm : m.testBit 1017 = false → t.adm = s.adm
  fw : m.testBit 1018 = false → t.fw = s.fw
  pwr : m.testBit 1019 = false → t.pwr = s.pwr
  mem : m.testBit 1020 = false → t.mem = s.mem
  reqs : m.testBit 1021 = false → t.reqs = s.reqs
  txid : m.testBit 1022 = false → t.txid = s.txid
  freeIdx : m.testBit 1023 = false → t.freeIdx = s.freeIdx
  out : m.testBit 1024 = false → t.out = s.out ∧ t.msi = s.msi
  pending : t.pending = s.pending
  inv : Inv s → Inv t

variable {m a : Nat} {s t u : State}

theorem Foot.refl : Foot m s s :=
  ⟨fun _ _ _ _ _ _ _ => rfl, fun _ => rfl, fun _ => rfl, fun _ => rfl, fun _ => rfl, fun _ => rfl, fun _ => rfl, fun _ => rfl, fun _ => rfl, fun _ => rfl, fun _ => rfl, fun _ => rfl, fun _ => rfl,
   fun _ => rfl, fun _ => rfl, fun _ => rfl, fun _ => rfl, fun _ => rfl, fun _ => rfl, fun _ => rfl, fun _ => rfl, fun _ => rfl, fun _ => rfl, fun _ => rfl, fun _ => rfl, fun _ => ⟨rfl, rfl⟩, rfl, fun h => h⟩

theorem mask_sub (h : a ||| m = m) {i : Nat} (hi : m.testBit i = false) : a.testBit i = false := by
  have := congrArg (fun x => x.testBit i) h
  simp only [Nat.testBit_or, hi, Bool.or_false] at this
  exact this

theorem mask_trans {b : Nat} (h1 : a ||| b = b) (h2 : b ||| m = m) : a ||| m = m := by
  rw [← h2, ← Nat.or_assoc, h1]

theorem Foot.mono (h : Foot a s t) (hm : a ||| m = m) : Foot m s t :=
  ⟨fun ha R l i hR hi hc => h.regs (mask_sub hm ha) R l i hR (mask_sub hm hi) hc, fun hi => h.fwRegs (mask_sub hm hi),
   fun hi => h.latches (mask_sub hm hi), fun hi => h.la (mask_sub hm hi), fun hi => h.lb (mask_sub hm hi),
   fun hi => h.time (mask_sub hm hi), fun hi => h.tev (mask_sub hm hi), fun hi => h.slots (mask_sub hm hi),
   fun hi => h.bursts (mask_sub hm hi), fun hi => h.led (mask_sub hm hi), fun hi => h.seqs (mask_sub hm hi),
   fun hi => h.host (mask_sub hm hi), fun hi => h.cls (mask_sub hm hi), fun hi => h.ciph (mask_sub hm hi),
   fun hi => h.slu (mask_sub hm hi), fun hi => h.prot (mask_sub hm hi), fun hi => h.pm (mask_sub hm hi),
   fun hi => h.mbx (mask_sub hm hi), fun hi => h.adm (mask_sub hm hi), fun hi => h.fw (mask_sub hm hi),
   fun hi => h.pwr (mask_sub hm hi), fun hi => h.mem (mask_sub hm hi), fun hi => h.reqs (mask_sub hm hi),
   fun hi => h.txid (mask_sub hm hi), fun hi => h.freeIdx (mask_sub hm hi), fun hi => h.out (mask_sub hm hi),
   h.pending, h.inv⟩

theorem Foot.trans (h : Foot m s t) (g : Foot m t u) : Foot m s u :=
  ⟨fun ha R l i hR hi hc => (g.regs ha R l i hR hi hc).trans (h.regs ha R l i hR hi hc), fun hi => (g.fwRegs hi).trans (h.fwRegs hi),
   fun hi => (g.latches hi).trans (h.latches hi), fun hi => (g.la hi).trans (h.la hi), fun hi => (g.lb hi).trans (h.lb hi),
   fun hi => (g.time hi).trans (h.time hi), fun hi => (g.tev hi).trans (h.tev hi), fun hi => (g.slots hi).trans (h.slots hi),
   fun hi => (g.bursts hi).trans (h.bursts hi), fun hi => (g.led hi).trans (h.led hi), fun hi => (g.seqs hi).trans (h.seqs hi),
   fun hi => (g.host hi).trans (h.host hi), fun hi => (g.cls hi).trans (h.cls hi), fun hi => (g.ciph hi).trans (h.ciph hi),
   fun hi => (g.slu hi).trans (h.slu hi), fun hi => (g.prot hi).trans (h.prot hi), fun hi => (g.pm hi).trans (h.pm hi),
   fun hi => (g.mbx hi).trans (h.mbx hi), fun hi => (g.adm hi).trans (h.adm hi), fun hi => (g.fw hi).trans (h.fw hi),
   fun hi => (g.pwr hi).trans (h.pwr hi), fun hi => (g.mem hi).trans (h.mem hi), fun hi => (g.reqs hi).trans (h.reqs hi),
   fun hi => (g.txid hi).trans (h.txid hi), fun hi => (g.freeIdx hi).trans (h.freeIdx hi), fun hi => ⟨(g.out hi).1.trans (h.out hi).1, (g.out hi).2.trans (h.out hi).2⟩,
   g.pending.trans h.pending, fun hi => g.inv (h.inv hi)⟩

/-- One more operation, whose own mask is a part of m. -/
theorem Foot.step (g : Foot a t u) (hm : a ||| m = m) (h : Foot m s t) : Foot m s u := h.trans (g.mono hm)

theorem Foot.cut (x : State) (h : Foot m s x) (k : Foot m s x → Foot m s t) : Foot m s t := k h

theorem Foot.cut2 {α : Type} (x : α × State) (h : Foot m s x.2) (k : Foot m s x.2 → Foot m s t) : Foot m s t := k h

/-- Names for the local values that a record update starts from: the scripts below keep these and forget the others. -/
theorem Foot.keepHost (_ : HostSt) (h : Foot m s t) : Foot m s t := h

theorem Foot.keepMbx (_ : MbxSt) (h : Foot m s t) : Foot m s t := h

theorem Foot.ofPair {α : Type} {p : α × State} {x : α} (e : p = (x, t)) (h : Foot m s p.2) : Foot m s t := by rw [e] at h; exact h

theorem Foot.ite {c : Prop} [Decidable c] (h : Foot m s t) (g : Foot m s u) : Foot m s (if c then t else u) := by
  split <;> assumption

theorem Foot.ite2 {α : Type} {c : Prop} [Decidable c] {p q : α × State} (h : Foot m s p.2) (g : Foot m s q.2) :
    Foot m s (if c then p else q).2 := by split <;> assumption

theorem Foot.foldl {α : Type} {f : State → α → State} {l : List α} (hf : ∀ x y, Foot m s x → Foot m s (f x y)) (h : Foot m s t) :
    Foot m s (l.foldl f t) := by
  induction l generalizing t with
  | nil => exact h
  | cons y r ih => exact ih (hf t y h)

theorem Foot.foldl2 {α β : Type} {f : β × State → α → β × State} {l : List α} {p : β × State}
    (hf : ∀ x y, Foot m s x.2 → Foot m s (f x y).2) (h : Foot m s p.2) : Foot m s (l.foldl f p).2 := by
  induction l generalizing p with
  | nil => exact h
  | cons y r ih => exact ih (hf p y h)

/-! ### Updates of one field of State -/

theorem Foot.setFwRegs {x : Tab Nat} (hm : m.testBit 1000 = true) (hx : Inv t → Tab.wf 0 x = true) (h : Foot m s t) :
    Foot m s { t with fwRegs := x } :=
  { h with
    fwRegs := fun hi => absurd hi (by simp [hm])
    inv := fun hi => ⟨⟨(h.inv hi).canon.regs, hx (h.inv hi), (h.inv hi).canon.sw⟩, (h.inv hi).bounded⟩ }

theorem Foot.setHost {x : HostSt} (hm : m.testBit 1010 = true) (hx : Bounded t.host → Bounded x) (h : Foot m s t) :
    Foot m s { t with host := x } :=
  { h with
    host := fun hi => absurd hi (by simp [hm])
    inv := fun hi => ⟨⟨(h.inv hi).canon.regs, (h.inv hi).canon.fwRegs, (h.inv hi).canon.sw⟩, hx (h.inv hi).bounded⟩ }

theorem Foot.setMbx {x : MbxSt} (hm : m.testBit 1016 = true) (hx : Tab.wf 0 t.mbx.sw = true → Tab.wf 0 x.sw = true)
    (h : Foot m s t) : Foot m s { t with mbx := x } :=
  { h with
    mbx := fun hi => absurd hi (by simp [hm])
    inv := fun hi => ⟨⟨(h.inv hi).canon.regs, (h.inv hi).canon.fwRegs, hx (h.inv hi).canon.sw⟩, (h.inv hi).bounded⟩ }

theorem Foot.setLatches {x : Tab Nat} (hm : m.testBit 1001 = true) (h : Foot m s t) : Foot m s { t with latches := x } :=
  { h with
    latches := fun hi => absurd hi (by simp [hm])
    inv := fun hi => ⟨⟨(h.inv hi).canon.regs, (h.inv hi).canon.fwRegs, (h.inv hi).canon.sw⟩, (h.inv hi).bounded⟩ }

theorem Foot.setLa {x : LegSt} (hm : m.testBit 1002 = true) (h : Foot m s t) : Foot m s { t with la := x } :=
  { h with
    la := fun hi => absurd hi (by simp [hm])
    inv := fun hi => ⟨⟨(h.inv hi).canon.regs, (h.inv hi).canon.fwRegs, (h.inv hi).canon.sw⟩, (h.inv hi).bounded⟩ }

theorem Foot.setLb {x : LegSt} (hm : m.testBit 1003 = true) (h : Foot m s t) : Foot m s { t with lb := x } :=
  { h with
    lb := fun hi => absurd hi (by simp [hm])
    inv := fun hi => ⟨⟨(h.inv hi).canon.regs, (h.inv hi).canon.fwRegs, (h.inv hi).canon.sw⟩, (h.inv hi).bounded⟩ }

theorem Foot.setTime {x : TimeSt} (hm : m.testBit 1004 = true) (h : Foot m s t) : Foot m s { t with time := x } :=
  { h with
    time := fun hi => absurd hi (by simp [hm])
    inv := fun hi => ⟨⟨(h.inv hi).canon.regs, (h.inv hi).canon.fwRegs, (h.inv hi).canon.sw⟩, (h.inv hi).bounded⟩ }

theorem Foot.setTev {x : TevSt} (hm : m.testBit 1005 = true) (h : Foot m s t) : Foot m s { t with tev := x } :=
  { h with
    tev := fun hi => absurd hi (by simp [hm])
    inv := fun hi => ⟨⟨(h.inv hi).canon.regs, (h.inv hi).canon.fwRegs, (h.inv hi).canon.sw⟩, (h.inv hi).bounded⟩ }

theorem Foot.setSlots {x : Tab SlotSt} (hm : m.testBit 1006 = true) (h : Foot m s t) : Foot m s { t with slots := x } :=
  { h with
    slots := fun hi => absurd hi (by simp [hm])
    inv := fun hi => ⟨⟨(h.inv hi).canon.regs, (h.inv hi).canon.fwRegs, (h.inv hi).canon.sw⟩, (h.inv hi).bounded⟩ }

theorem Foot.setBursts {x : List Burst} (hm : m.testBit 1007 = true) (h : Foot m s t) : Foot m s { t with bursts := x } :=
  { h with
    bursts := fun hi => absurd hi (by simp [hm])
    inv := fun hi => ⟨⟨(h.inv hi).canon.regs, (h.inv hi).canon.fwRegs, (h.inv hi).canon.sw⟩, (h.inv hi).bounded⟩ }

theorem Foot.setLed {x : Ledger} (hm : m.testBit 1008 = true) (h : Foot m s t) : Foot m s { t with led := x } :=
  { h with
    led := fun hi => absurd hi (by simp [hm])
    inv := fun hi => ⟨⟨(h.inv hi).canon.regs, (h.inv hi).canon.fwRegs, (h.inv hi).canon.sw⟩, (h.inv hi).bounded⟩ }

theorem Foot.setSeqs {x : Tab Nat} (hm : m.testBit 1009 = true) (h : Foot m s t) : Foot m s { t with seqs := x } :=
  { h with
    seqs := fun hi => absurd hi (by simp [hm])
    inv := fun hi => ⟨⟨(h.inv hi).canon.regs, (h.inv hi).canon.fwRegs, (h.inv hi).canon.sw⟩, (h.inv hi).bounded⟩ }

theorem Foot.setCls {x : ClsSt} (hm : m.testBit 1011 = true) (h : Foot m s t) : Foot m s { t with cls := x } :=
  { h with
    cls := fun hi => absurd hi (by simp [hm])
    inv := fun hi => ⟨⟨(h.inv hi).canon.regs, (h.inv hi).canon.fwRegs, (h.inv hi).canon.sw⟩, (h.inv hi).bounded⟩ }

theorem Foot.setCiph {x : CiphSt} (hm : m.testBit 1012 = true) (h : Foot m s t) : Foot m s { t with ciph := x } :=
  { h with
    ciph := fun hi => absurd hi (by simp [hm])
    inv := fun hi => ⟨⟨(h.inv hi).canon.regs, (h.inv hi).canon.fwRegs, (h.inv hi).canon.sw⟩, (h.inv hi).bounded⟩ }

theorem Foot.setSlu {x : SluSt} (hm : m.testBit 1013 = true) (h : Foot m s t) : Foot m s { t with slu := x } :=
  { h with
    slu := fun hi => absurd hi (by simp [hm])
    inv := fun hi => ⟨⟨(h.inv hi).canon.regs, (h.inv hi).canon.fwRegs, (h.inv hi).canon.sw⟩, (h.inv hi).bounded⟩ }

theorem Foot.setProt {x : ProtSt} (hm : m.testBit 1014 = true) (h : Foot m s t) : Foot m s { t with prot := x } :=
  { h with
    prot := fun hi => absurd hi (by simp [hm])
    inv := fun hi => ⟨⟨(h.inv hi).canon.regs, (h.inv hi).canon.fwRegs, (h.inv hi).canon.sw⟩, (h.inv hi).bounded⟩ }

theorem Foot.setPm {x : PmSt} (hm : m.testBit 1015 = true) (h : Foot m s t) : Foot m s { t with pm := x } :=
  { h with
    pm := fun hi => absurd hi (by simp [hm])
    inv := fun hi => ⟨⟨(h.inv hi).canon.regs, (h.inv hi).canon.fwRegs, (h.inv hi).canon.sw⟩, (h.inv hi).bounded⟩ }

theorem Foot.setAdm {x : AdmSt} (hm : m.testBit 1017 = true) (h : Foot m s t) : Foot m s { t with adm := x } :=
  { h with
    adm := fun hi => absurd hi (by simp [hm])
    inv := fun hi => ⟨⟨(h.inv hi).canon.regs, (h.inv hi).canon.fwRegs, (h.inv hi).canon.sw⟩, (h.inv hi).bounded⟩ }

theorem Foot.setFw {x : FwSt} (hm : m.testBit 1018 = true) (h : Foot m s t) : Foot m s { t with fw := x } :=
  { h with
    fw := fun hi => absurd hi (by simp [hm])
    inv := fun hi => ⟨⟨(h.inv hi).canon.regs, (h.inv hi).canon.fwRegs, (h.inv hi).canon.sw⟩, (h.inv hi).bounded⟩ }

theorem Foot.setPwr {x : PwrSt} (hm : m.testBit 1019 = true) (h : Foot m s t) : Foot m s { t with pwr := x } :=
  { h with
    pwr := fun hi => absurd hi (by simp [hm])
    inv := fun hi => ⟨⟨(h.inv hi).canon.regs, (h.inv hi).canon.fwRegs, (h.inv hi).canon.sw⟩, (h.inv hi).bounded⟩ }

theorem Foot.setMem {x : MemSt} (hm : m.testBit 1020 = true) (h : Foot m s t) : Foot m s { t with mem := x } :=
  { h with
    mem := fun hi => absurd hi (by simp [hm])
    inv := fun hi => ⟨⟨(h.inv hi).canon.regs, (h.inv hi).canon.fwRegs, (h.inv hi).canon.sw⟩, (h.inv hi).bounded⟩ }

theorem Foot.setReqs {x : List Req} (hm : m.testBit 1021 = true) (h : Foot m s t) : Foot m s { t with reqs := x } :=
  { h with
    reqs := fun hi => absurd hi (by simp [hm])
    inv := fun hi => ⟨⟨(h.inv hi).canon.regs, (h.inv hi).canon.fwRegs, (h.inv hi).canon.sw⟩, (h.inv hi).bounded⟩ }

theorem Foot.setTxid {x : Nat} (hm : m.testBit 1022 = true) (h : Foot m s t) : Foot m s { t with txid := x } :=
  { h with
    txid := fun hi => absurd hi (by simp [hm])
    inv := fun hi => ⟨⟨(h.inv hi).canon.regs, (h.inv hi).canon.fwRegs, (h.inv hi).canon.sw⟩, (h.inv hi).bounded⟩ }

theorem Foot.setFreeIdx {x : Nat} (hm : m.testBit 1023 = true) (h : Foot m s t) : Foot m s { t with freeIdx := x } :=
  { h with
    freeIdx := fun hi => absurd hi (by simp [hm])
    inv := fun hi => ⟨⟨(h.inv hi).canon.regs, (h.inv hi).canon.fwRegs, (h.inv hi).canon.sw⟩, (h.inv hi).bounded⟩ }

theorem Foot.setOut {x : List Output} (hm : m.testBit 1024 = true) (h : Foot m s t) : Foot m s { t with out := x } :=
  { h with
    out := fun hi => absurd hi (by simp [hm])
    inv := fun hi => ⟨⟨(h.inv hi).canon.regs, (h.inv hi).canon.fwRegs, (h.inv hi).canon.sw⟩, (h.inv hi).bounded⟩ }

theorem Foot.setMsi {x : MsiSt} (hm : m.testBit 1024 = true) (h : Foot m s t) : Foot m s { t with msi := x } :=
  { h with
    out := fun hi => absurd hi (by simp [hm])
    inv := fun hi => ⟨⟨(h.inv hi).canon.regs, (h.inv hi).canon.fwRegs, (h.inv hi).canon.sw⟩, (h.inv hi).bounded⟩ }

/-! ### Register writes -/

/-- The mask names this field of the map. -/
def rowIn (m : Nat) (R : Row) : Bool := m.testBit (rowIdx R) && rowKnown R

theorem Foot.setRegs {x : Tab Nat} (hx : Tab.wf 0 t.regs = true → Tab.wf 0 x = true)
    (hk : m.testBit 999 = false → ∀ R l i, Row.inMap R = true → m.testBit (rowIdx R) = false → Row.copy R l i →
      Tab.get 0 (R.key l i) x = Tab.get 0 (R.key l i) t.regs) (h : Foot m s t) : Foot m s { t with regs := x } :=
  { h with
    regs := fun ha R l i hR hi hc => (hk ha R l i hR hi hc).trans (h.regs ha R l i hR hi hc)
    inv := fun hi => ⟨⟨hx (h.inv hi).canon.regs, (h.inv hi).canon.fwRegs, (h.inv hi).canon.sw⟩, (h.inv hi).bounded⟩ }

/-- Any change of the register store, where the mask names it as a whole. -/
theorem Foot.setRegsAll {x : Tab Nat} (hm : m.testBit 999 = true) (hx : Tab.wf 0 t.regs = true → Tab.wf 0 x = true)
    (h : Foot m s t) : Foot m s { t with regs := x } :=
  Foot.setRegs hx (fun ha => absurd ha (by simp [hm])) h

/-- A state made anew, but for what the terminal does not reset. -/
theorem Foot.fresh (hf : ((List.range 24).all fun i => m.testBit (999 + i)) = true) (h1 : t.freeIdx = s.freeIdx)
    (h2 : m.testBit 1024 = true) (h3 : t.pending = s.pending) (hi : Inv s → Inv t) : Foot m s t := by
  have no : ∀ {P : Prop} (i : Nat), 999 ≤ i → i ≤ 1022 → m.testBit i = false → P := fun i a b c => by
    have h := List.all_eq_true.1 hf (i - 999) (List.mem_range.2 (by omega))
    rw [show 999 + (i - 999) = i by omega, c] at h
    cases h
  exact ⟨no 999 (by omega) (by omega), no 1000 (by omega) (by omega), no 1001 (by omega) (by omega),
    no 1002 (by omega) (by omega), no 1003 (by omega) (by omega), no 1004 (by omega) (by omega), no 1005 (by omega) (by omega),
    no 1006 (by omega) (by omega), no 1007 (by omega) (by omega), no 1008 (by omega) (by omega), no 1009 (by omega) (by omega),
    no 1010 (by omega) (by omega), no 1011 (by omega) (by omega), no 1012 (by omega) (by omega), no 1013 (by omega) (by omega),
    no 1014 (by omega) (by omega), no 1015 (by omega) (by omega), no 1016 (by omega) (by omega), no 1017 (by omega) (by omega),
    no 1018 (by omega) (by omega), no 1019 (by omega) (by omega), no 1020 (by omega) (by omega), no 1021 (by omega) (by omega),
    no 1022 (by omega) (by omega), fun _ => h1, fun ho => absurd ho (by simp [h2]), h3, hi⟩

theorem Row.wf_set (R : Row) (l i v : Nat) (t : Tab Nat) (h : Tab.wf 0 t = true) : Tab.wf 0 (R.set l i v t) = true := by
  unfold Row.set
  split
  · exact Tab.wf_put _ _ _ _ h
  · exact h

theorem Foot.wr {R : Row} {v l i : Nat} (hr : rowIn m R = true) (hl : l < 2 ∨ R.legStride = 0) (h : Foot m s t) :
    Foot m s (t.wr R v l i) := by
  simp only [rowIn, Bool.and_eq_true] at hr
  refine Foot.setRegs (Row.wf_set R l i v _) (fun _ Q k j hQ hq hc => ?_) h
  unfold Row.set
  split
  · refine Tab.get_put_ne 0 (key_ne hQ (known_inMap hr.2) hc ⟨‹_›, hl⟩ fun e => ?_) _ _
    rw [e, hr.1] at hq
    cases hq
  · rfl

theorem Foot.inc {R : Row} {l i n : Nat} (hr : rowIn m R = true) (hl : l < 2 ∨ R.legStride = 0) (h : Foot m s t) :
    Foot m s (t.inc R l i n) := Foot.wr hr hl h

theorem Foot.incSat {R : Row} {l i n : Nat} (hr : rowIn m R = true) (hl : l < 2 ∨ R.legStride = 0) (h : Foot m s t) :
    Foot m s (t.incSat R l i n) := Foot.wr hr hl h

theorem Foot.dec {R : Row} {l i n : Nat} (hr : rowIn m R = true) (hl : l < 2 ∨ R.legStride = 0) (h : Foot m s t) :
    Foot m s (t.dec R l i n) := Foot.wr hr hl h

theorem Foot.wr2 {R Q : Row} {v l i : Nat} (hr : rowIn m R = true) (hq : rowIn m Q = true) (hl : l < 2 ∨ R.legStride = 0)
    (gl : l < 2 ∨ Q.legStride = 0) (h : Foot m s t) : Foot m s (t.wr2 R Q v l i) := Foot.wr hq gl (Foot.wr hr hl h)

theorem Foot.wrA {ag : Agent} {R : Row} {v l i : Nat} (hm : m.testBit 1000 = true) (hr : rowIn m R = true)
    (hl : l < 2 ∨ R.legStride = 0) (h : Foot m s t) : Foot m s (t.wrA ag R v l i) := by
  unfold State.wrA
  split
  · exact Foot.setFwRegs hm (fun hi => Row.wf_set R l i v _ hi.canon.fwRegs) h
  · exact Foot.wr hr hl h

theorem Leg.n_lt (l : Leg) : l.n < 2 := by cases l <;> decide

theorem Foot.upd {l : Leg} {f : LegSt → LegSt} (ha : m.testBit 1002 = true) (hb : m.testBit 1003 = true) (h : Foot m s t) :
    Foot m s (t.upd l f) := by
  cases l
  · exact Foot.setLa ha h
  · exact Foot.setLb hb h

theorem Foot.reg {ag : Agent} {f : State → State} (hf : ∀ x, Foot m s x → Foot m s (f x)) (h : Foot m s t) :
    Foot m s (t.reg ag f) := Foot.ite (hf t h) h

theorem Foot.via {ag : Agent} {f : State → State} (hf : ∀ x, Foot m s x → Foot m s (f x)) (h : Foot m s t) :
    Foot m s (t.via ag f) := Foot.ite (hf t h) h

theorem Foot.inDom {d : Dom} {f : State → State} (hf : ∀ x, Foot m s x → Foot m s (f x)) (h : Foot m s t) :
    Foot m s (t.inDom d f) := Foot.ite (hf t h) h

/-- A field that the mask does not name reads as before. -/
theorem Foot.rd {R : Row} {l i : Nat} (h : Foot m s t) (ha : m.testBit 999 = false) (hr : m.testBit (rowIdx R) = false)
    (hR : Row.inMap R = true) (hl : l < 2 ∨ R.legStride = 0) : t.rd R l i = s.rd R l i := by
  unfold State.rd Row.get
  split
  · rw [h.regs ha R l i hR hr ⟨‹_›, hl⟩]
  · rfl

end Sys2Proof.Machine
end

