-- ==== Sys2Proof/Laws/FootOps.lean ====
section
/-! SUPPORT. What each operation of Machine/Ops.lean can change (`Foot`). -/

namespace Sys2Proof.Machine

def fp0 : Nat := 0x0
def fp1 : Nat := 0xc0000000000000000000000000000000000000000000000000000000000000000000000000000000000000000000000000000000000000000000000000000000000000000000000000000000000000000000000000000000000000000000000000000000000000000000000000000000000000000000000000000000000
def fp2 : Nat := 0x8000000000000000000000000000000000000000000000000000000000000000000000000000000000000000000000000000000000000000000000000000000000000000000000000000000000000000000000000000000000000000000000000000000000000000000000000000000000000000000000000000000000000000
def fp3 : Nat := 0x10000000000000000000000000000000000000000000000000000000000000000000000000000000000000000000000000000000000000000000000000000000000000000000000000000000000000000000000000000000000000000000000000000000000000000000000000000000000000000000000000000000000000000
def fp4 : Nat := 0x4000000000000000000000000000000000000000000000000000000000000000000000000000000000000000000000000000000000000000000000000000000000000000000000000000000000000000000000000000000000000000000000000000000000000000000000000000000000000000000000000000000000000
def fp5 : Nat := 0x10004000000000000000000000008000000000000000000000000000000000000000141000000000000000000000000000000000000000000000000000000000000000000000000000000000000000000000000000000000000000000000000000000000000000000000000000000000000000000000000000000000000000000
def fp6 : Nat := 0x4000000000000000000000004000000000000000000000000000000000000000000000000000000000000000000000000000000000000000000000000000000000000000000000000000000000000000000000000000000000000000000000000000000000000000000000000000000000000000000000000000000000000
def fp7 : Nat := 0x10000000000000000000000000000000000000000000000000000000000000000000000000000000000000000000000000000000000000000000000000000000000000000000000000000000000000000000000000000000000000000000000000000000000000000000000000000000000000
def fp8 : Nat := 0x1000400000000000000000000001c0000000000000000000000000000000000000001c1000000000000000000000000000000000000000000000000000000000000000000000000000000000000000000000000000000000000000000000000000000000000000000000000000000000000000000000000000000000000000000
def fp9 : Nat := 0x1000400000000000000000000001c0000000000000000000000000000000008000001c1000000000000000000000000000000000000000000000000000000000000000000000000000000000000000000000000000000000000000000000000000000000000000000000000000000000000000000000000000000000000000000
def fp10 : Nat := 0x1000400000000000000000000001c0000000000000000000000000003000008000001c1000000000000000000000000000000000000000000000000000000000000000000000000000000000000000000000000000000000000000000000000000000000000000000000000000000000000000000000000000000000000000000

theorem State.setBit_foot {m : Nat} {s t : State} {R : Row} {l i : Nat} (hr : rowIn m R = true) (hl : l < 2 ∨ R.legStride = 0)
    (h : Foot m s t) : Foot m s (State.setBit t R l i) := by
  unfold State.setBit
  split <;> first | exact h | exact Foot.wr hr hl h

theorem State.updWave_foot (s : State) (l : Leg) (w : Nat) (f : Wave → Wave) : Foot fp1 s (State.updWave s l w f) := by
  have h : Foot fp1 s s := Foot.refl
  unfold State.updWave
  repeat' first
    | with_reducible assumption
    | ((with_reducible apply Foot.upd); (· rfl); (· rfl))

theorem State.spend_foot (s : State) : Foot fp2 s (State.spend s) := by
  have h : Foot fp2 s s := Foot.refl
  unfold State.spend
  repeat' first
    | with_reducible assumption
    | (fail_if_no_progress extract_lets +onlyGivenNames x; first | (refine Foot.cut x ?_ (fun hx => ?_); (on_goal 1 => subst x); (on_goal 2 => clear_value x)) | (refine Foot.cut2 x ?_ (fun hx => ?_); (on_goal 1 => subst x); (on_goal 2 => clear_value x)) | refine Foot.keepHost x ?_ | refine Foot.keepMbx x ?_ | clear_value x)
    | fail_if_no_progress ((with_reducible apply Foot.setFreeIdx); (· rfl))

theorem State.emit_foot (s : State) (o : Output) : Foot fp3 s (State.emit s o) := by
  have h : Foot fp3 s s := Foot.refl
  unfold State.emit
  repeat' first
    | with_reducible assumption
    | (fail_if_no_progress extract_lets +onlyGivenNames x; first | (refine Foot.cut x ?_ (fun hx => ?_); (on_goal 1 => subst x); (on_goal 2 => clear_value x)) | (refine Foot.cut2 x ?_ (fun hx => ?_); (on_goal 1 => subst x); (on_goal 2 => clear_value x)) | refine Foot.keepHost x ?_ | refine Foot.keepMbx x ?_ | clear_value x)
    | fail_if_no_progress ((with_reducible apply Foot.setOut); (· rfl))

theorem State.setCfg_foot (s : State) (f : Nat) (item : Nat) (v : Nat) : Foot fp4 s (State.setCfg s f item v) := by
  have h : Foot fp4 s s := Foot.refl
  unfold State.setCfg
  repeat' first
    | with_reducible assumption
    | (fail_if_no_progress extract_lets +onlyGivenNames x; refine Foot.keepHost x ?_)
    | fail_if_no_progress ((with_reducible apply Foot.setHost); (· rfl); (· exact fun hb => ⟨hb.log, hb.errs, hb.fwQueue⟩))

theorem State.emits_foot (s : State) (os : List Output) : Foot fp3 s (State.emits s os) := by
  have h : Foot fp3 s s := Foot.refl
  unfold State.emits
  repeat' first
    | with_reducible assumption
    | (fail_if_no_progress extract_lets +onlyGivenNames x; first | (refine Foot.cut x ?_ (fun hx => ?_); (on_goal 1 => subst x); (on_goal 2 => clear_value x)) | (refine Foot.cut2 x ?_ (fun hx => ?_); (on_goal 1 => subst x); (on_goal 2 => clear_value x)) | refine Foot.keepHost x ?_ | refine Foot.keepMbx x ?_ | clear_value x)
    | fail_if_no_progress ((with_reducible apply Foot.setOut); (· rfl))

theorem State.askHost_foot (s : State) (f : Nat) (addr : Nat) (n : Nat) : Foot fp3 s (State.askHost s f addr n) := by
  have h : Foot fp3 s s := Foot.refl
  unfold State.askHost
  repeat' first
    | with_reducible assumption
    | ((with_reducible apply Foot.step (State.emits_foot ..)); (· rfl))

theorem State.msixPend_foot (s : State) (f : Nat) (vec : Nat) (v : Nat) : Foot fp3 s (State.msixPend s f vec v) := by
  have h : Foot fp3 s s := Foot.refl
  unfold State.msixPend
  repeat' first
    | with_reducible assumption
    | (fail_if_no_progress extract_lets +onlyGivenNames x; first | refine Foot.keepHost x ?_ | refine Foot.keepMbx x ?_ | clear_value x)
    | fail_if_no_progress ((with_reducible apply Foot.setMsi); (· rfl))

theorem State.msixMessage_foot (s : State) (f : Nat) (vec : Nat) : Foot fp3 s (State.msixMessage s f vec) := by
  have h : Foot fp3 s s := Foot.refl
  unfold State.msixMessage
  repeat' first
    | with_reducible assumption
    | ((with_reducible apply Foot.step (State.emit_foot ..)); (· rfl))

theorem State.msix_foot (s : State) (f : Nat) (vec : Nat) : Foot fp3 s (State.msix s f vec) := by
  have h : Foot fp3 s s := Foot.refl
  unfold State.msix
  repeat' first
    | with_reducible assumption
    | with_reducible apply Foot.ite
    | ((with_reducible apply Foot.step (State.msixPend_foot ..)); (· rfl))
    | ((with_reducible apply Foot.step (State.msixMessage_foot ..)); (· rfl))
    | split

theorem State.msixFlush_foot (s : State) (f : Nat) (vec : Nat) : Foot fp3 s (State.msixFlush s f vec) := by
  have h : Foot fp3 s s := Foot.refl
  unfold State.msixFlush
  repeat' first
    | with_reducible assumption
    | with_reducible apply Foot.ite
    | ((with_reducible apply Foot.step (State.msixPend_foot ..)); (· rfl))
    | ((with_reducible apply Foot.step (State.msixMessage_foot ..)); (· rfl))
    | split

theorem State.msixFlushAll_foot (s : State) (f : Nat) : Foot fp3 s (State.msixFlushAll s f) := by
  have h : Foot fp3 s s := Foot.refl
  unfold State.msixFlushAll
  repeat' first
    | with_reducible assumption
    | ((with_reducible apply Foot.step (State.msixFlush_foot ..)); (· rfl))
    | ((with_reducible apply Foot.foldl); (on_goal 1 => intro _ _ _))

theorem State.msixWrite_foot (s : State) (f : Nat) (i : Nat) (v : Nat) : Foot fp3 s (State.msixWrite s f i v) := by
  have h : Foot fp3 s s := Foot.refl
  unfold State.msixWrite
  repeat' first
    | with_reducible assumption
    | with_reducible apply Foot.ite
    | ((with_reducible apply Foot.step (State.msixFlush_foot ..)); (· rfl))
    | (fail_if_no_progress extract_lets +onlyGivenNames x; first | refine Foot.keepHost x ?_ | refine Foot.keepMbx x ?_ | clear_value x)
    | fail_if_no_progress ((with_reducible apply Foot.setMsi); (· rfl))
    | split

theorem State.msixReset_foot (s : State) (f : Nat) : Foot fp3 s (State.msixReset s f) := by
  have h : Foot fp3 s s := Foot.refl
  unfold State.msixReset
  repeat' first
    | with_reducible assumption
    | (fail_if_no_progress extract_lets +onlyGivenNames x; first | (refine Foot.cut x ?_ (fun hx => ?_); (on_goal 1 => subst x); (on_goal 2 => clear_value x)) | (refine Foot.cut2 x ?_ (fun hx => ?_); (on_goal 1 => subst x); (on_goal 2 => clear_value x)) | refine Foot.keepHost x ?_ | refine Foot.keepMbx x ?_ | clear_value x)
    | fail_if_no_progress ((with_reducible apply Foot.setMsi); (· rfl))

theorem State.setEq_foot (s : State) (e : Nat) (f : CqR → CqR) : Foot fp4 s (State.setEq s e f) := by
  have h : Foot fp4 s s := Foot.refl
  unfold State.setEq
  repeat' first
    | with_reducible assumption
    | (fail_if_no_progress extract_lets +onlyGivenNames x; refine Foot.keepHost x ?_)
    | fail_if_no_progress ((with_reducible apply Foot.setHost); (· rfl); (· exact fun hb => ⟨hb.log, hb.errs, hb.fwQueue⟩))

theorem State.eqWrite_foot (s : State) (e : Nat) (body : List Byte) : Foot fp5 s (State.eqWrite s e body) := by
  have h : Foot fp5 s s := Foot.refl
  unfold State.eqWrite
  repeat' first
    | with_reducible assumption
    | with_reducible apply Foot.ite
    | ((with_reducible apply Foot.wr); (· rfl); (· first | exact Or.inr rfl))
    | ((with_reducible apply Foot.inc); (· rfl); (· first | exact Or.inr rfl))
    | ((with_reducible apply Foot.step (State.emit_foot ..)); (· rfl))
    | ((with_reducible apply Foot.step (State.msix_foot ..)); (· rfl))
    | ((with_reducible apply Foot.step (State.setEq_foot ..)); (· rfl))
    | (fail_if_no_progress extract_lets +onlyGivenNames x; first | (refine Foot.cut x ?_ (fun hx => ?_); (on_goal 1 => subst x); (on_goal 2 => clear_value x)) | (refine Foot.cut2 x ?_ (fun hx => ?_); (on_goal 1 => subst x); (on_goal 2 => clear_value x)) | refine Foot.keepHost x ?_ | refine Foot.keepMbx x ?_ | clear_value x)
    | split

theorem State.evtLog_foot (s : State) (src : Nat) (det : Nat) : Foot fp6 s (State.evtLog s src det) := by
  unfold State.evtLog
  extract_lets hh e
  split
  · refine Foot.inc rfl (Or.inr rfl) (Foot.setHost rfl (fun hb => ⟨?_, hb.errs, hb.fwQueue⟩) Foot.refl)
    have := hb.log
    simp only [hh, List.length_append, List.length_drop, List.length_singleton]
    omega
  · refine Foot.setHost rfl (fun hb => ⟨?_, hb.errs, hb.fwQueue⟩) Foot.refl
    simp only [hh, List.length_append, List.length_singleton] at *
    omega

theorem State.evtDrop_foot (s : State) : Foot fp7 s (State.evtDrop s) := by
  have h : Foot fp7 s s := Foot.refl
  unfold State.evtDrop
  repeat' first
    | with_reducible assumption
    | ((with_reducible apply Foot.inc); (· rfl); (· first | exact Or.inr rfl))

theorem State.raiseFuel_foot (fuel : Nat) (s : State) (src : Nat) (own : Option Nat) (det : Nat) (detL : Nat) :
    Foot fp8 s (State.raiseFuel fuel s src own det detL) := by
  induction fuel generalizing s src own det detL with
  | zero =>
    have h : Foot fp8 s s := Foot.refl
    unfold State.raiseFuel
    repeat' first
      | with_reducible assumption
      | with_reducible apply Foot.ite
      | ((with_reducible apply Foot.incSat); (· rfl); (· exact Or.inr rfl))
      | ((with_reducible apply Foot.step (State.evtLog_foot ..)); (· rfl))
      | ((with_reducible apply Foot.step (State.evtDrop_foot ..)); (· rfl))
      | ((with_reducible apply Foot.step (State.setEq_foot ..)); (· rfl))
      | ((with_reducible apply Foot.step (State.eqWrite_foot ..)); (· rfl))
      | (fail_if_no_progress extract_lets +onlyGivenNames x; first | refine Foot.keepHost x ?_ | refine Foot.keepMbx x ?_ | clear_value x)
      | split
  | succ k ih =>
    have h : Foot fp8 s s := Foot.refl
    unfold State.raiseFuel
    repeat' first
      | with_reducible assumption
      | with_reducible apply Foot.ite
      | ((with_reducible apply Foot.incSat); (· rfl); (· exact Or.inr rfl))
      | ((with_reducible apply Foot.step (ih ..)); (· rfl))
      | ((with_reducible apply Foot.step (State.evtLog_foot ..)); (· rfl))
      | ((with_reducible apply Foot.step (State.evtDrop_foot ..)); (· rfl))
      | ((with_reducible apply Foot.step (State.setEq_foot ..)); (· rfl))
      | ((with_reducible apply Foot.step (State.eqWrite_foot ..)); (· rfl))
      | (fail_if_no_progress extract_lets +onlyGivenNames x; first | refine Foot.keepHost x ?_ | refine Foot.keepMbx x ?_ | clear_value x)
      | split

theorem State.raiseFor_foot (s : State) (src : Nat) (own : Option Nat) (det : Nat) (detL : Nat) : Foot fp8 s (State.raiseFor s src own det detL) := by
  have h : Foot fp8 s s := Foot.refl
  unfold State.raiseFor
  repeat' first
    | with_reducible assumption
    | ((with_reducible apply Foot.step (State.raiseFuel_foot ..)); (· rfl))

theorem State.event_foot (s : State) (src : Nat) (det : Nat) : Foot fp8 s (State.event s src det) := by
  have h : Foot fp8 s s := Foot.refl
  unfold State.event
  repeat' first
    | with_reducible assumption
    | ((with_reducible apply Foot.step (State.raiseFor_foot ..)); (· rfl))

theorem State.hostEvent_foot (s : State) (k : Nat) (f : Nat) (det : Nat) (detL : Nat) : Foot fp8 s (State.hostEvent s k f det detL) := by
  have h : Foot fp8 s s := Foot.refl
  unfold State.hostEvent
  repeat' first
    | with_reducible assumption
    | ((with_reducible apply Foot.step (State.raiseFor_foot ..)); (· rfl))

theorem State.pfEvent_foot (s : State) (k : Nat) (det : Nat) : Foot fp8 s (State.pfEvent s k det) := by
  have h : Foot fp8 s s := Foot.refl
  unfold State.pfEvent
  repeat' first
    | with_reducible assumption
    | ((with_reducible apply Foot.step (State.hostEvent_foot ..)); (· rfl))

theorem bounded_errs {h : HostSt} (hb : Bounded h) (f : Nat) {l : List (Nat × Nat × Nat × Nat)} (hl : l.length ≤ 64) :
    ∀ p ∈ Tab.put [] f l h.errs, p.2.length ≤ 64 := fun p hp =>
  (Tab.mem_put _ _ _ _ hp).elim (fun e => by rw [e]; exact hl) (hb.errs p)

theorem bounded_get {h : HostSt} (hb : Bounded h) (f : Nat) : (Tab.get [] f h.errs).length ≤ 64 := by
  rcases Tab.get_mem [] f h.errs with e | ⟨p, hp, e⟩
  · rw [e]; exact Nat.zero_le _
  · rw [e]; exact hb.errs p hp

theorem State.errLog_foot (s : State) (f : Nat) (code : Nat) (status : Nat) (ring : Nat) (value : Nat) :
    Foot fp9 s (State.errLog s f code status ring value) := by
  have h : Foot fp9 s s := Foot.refl
  unfold State.errLog
  extract_lets +onlyGivenNames l e
  split
  · extract_lets hh x
    have hx : Foot fp9 s x := by
      refine Foot.setHost rfl (fun hb => ⟨hb.log, bounded_errs hb f ?_, hb.fwQueue⟩) h
      have := bounded_get hb f
      simp only [List.length_append, List.length_drop, List.length_singleton, l]
      omega
    clear_value x
    refine Foot.step (State.hostEvent_foot ..) rfl (Foot.ite (Foot.incSat rfl (Or.inr rfl) hx) ?_)
    exact Foot.setHost rfl (fun hb => ⟨hb.log, hb.errs, hb.fwQueue⟩) hx
  · refine Foot.setHost rfl (fun hb => ⟨hb.log, bounded_errs hb f ?_, hb.fwQueue⟩) h
    simp only [List.length_append, List.length_singleton]
    omega

theorem State.aerReport_foot (s : State) (bit' : Nat) (advisory : Bool) : Foot fp8 s (State.aerReport s bit' advisory) := by
  have h : Foot fp8 s s := Foot.refl
  unfold State.aerReport
  repeat' first
    | with_reducible assumption
    | with_reducible apply Foot.ite
    | ((with_reducible apply Foot.step (State.pfEvent_foot ..)); (· rfl))
    | (fail_if_no_progress extract_lets +onlyGivenNames x; refine Foot.keepHost x ?_)
    | fail_if_no_progress ((with_reducible apply Foot.setHost); (· rfl); (· exact fun hb => ⟨hb.log, hb.errs, hb.fwQueue⟩))
    | split

theorem State.readFault_foot (s : State) (own : Nat) (ring : Nat) (loc : Nat) (kind : Nat) (addr : Nat) (why : ReadFault) : Foot fp10 s (State.readFault s own ring loc kind addr why) := by
  have h : Foot fp10 s s := Foot.refl
  unfold State.readFault
  repeat' first
    | with_reducible assumption
    | with_reducible apply Foot.ite
    | ((with_reducible apply Foot.inc); (· rfl); (· first | exact Or.inr rfl))
    | ((with_reducible apply Foot.step (State.hostEvent_foot ..)); (· rfl))
    | ((with_reducible apply Foot.step (State.pfEvent_foot ..)); (· rfl))
    | ((with_reducible apply Foot.step (State.errLog_foot ..)); (· rfl))
    | ((with_reducible apply Foot.step (State.aerReport_foot ..)); (· rfl))
    | (fail_if_no_progress extract_lets +onlyGivenNames x; first | refine Foot.keepHost x ?_ | refine Foot.keepMbx x ?_ | clear_value x)
    | split

theorem State.slotEvent_foot (s : State) (slot : Nat) (k : Nat) (det : Nat) : Foot fp8 s (State.slotEvent s slot k det) := by
  have h : Foot fp8 s s := Foot.refl
  unfold State.slotEvent
  repeat' first
    | with_reducible assumption
    | ((with_reducible apply Foot.step (State.raiseFor_foot ..)); (· rfl))

end Sys2Proof.Machine
end

