-- ==== Sys2Proof/Laws/FootCount.lean ====
section
/-! SUPPORT. What each operation of Machine/Count.lean can change (`Foot`). -/

namespace Sys2Proof.Machine

def fp11 : Nat := 0x100040c000000000000000000001c0000000000000000000000000000000000000001c1000000000000000000000000000000000000000000000000000000000000000000000000000000000000000000000000000000000000000000000000000000000000000000000000000000000000000000000000000000000000000000
def fp12 : Nat := 0x1008400000000000000000000001c0000000000000000000000000000000000000001c1000000000000000000000000002060000000000000000000000000000000000000000000000000000000000000000000000000000000000000000000000000000000000000000000000000000000000000000000000000000000000000
def fp13 : Nat := 0x80000000000000000000000000000000000000000000000000000000000000000000000000000000000000000000000000000000000000000000000000000000000000000000000000000000000000000000000000000000000000000000000000000000000000000000000000000000000000000000000000000000000000
def fp14 : Nat := 0x100840c000000000000000000001c0000000000000000000000000000000000000001c1000000000000000000000000002060000000000000000000000000000000000000000000000003c00000000000000000000000000000000000000000000000000000000000000000000000000000000000000000000000000000000000
def fp15 : Nat := 0x1000400000000000000000000001c1000000000000000000000000000000000000001c1000000000000000000000000000000000000000000000000000000000000000000000000000000000000000000000000000000000000000000000000000000000000000000000000000000000000000000000000000000000000000000
def fp16 : Nat := 0x1000400000000000000000000001c0000000000000000000000000000000000000001c1000000000000000000000000000000000000800000000000000000000000000000000000000000000000000000000000000000000000000000000000000000000000000000000000000000000000000000000000000000000000000000
def fp17 : Nat := 0x1000400000000000000000000001c0000000000000000000000000000000000000001c1000000000000000000000000000000000001800000000000000000000000000000000000000000000000000000000000000000000000000000000000000000000000000000000000000000000000000000000000000000000000000000
def fp18 : Nat := 0x1000400000000000000000000001c0000000000000000000000000000000000000001c1000000000000000000000000000000000000000000000000000000000000000000000000000000000000000000000000000000000000000000000000000000000000000000000000000000000000000000000000000000000000000400
def fp19 : Nat := 0x1000400000000000000000000001c0000000000000000000000000000000000000001c1000000000000000000000000000000000000000000000000000000000000000000000000000000000000000000000000000000000000000000000000000000000000000000000000000000000000000000000000000000000000001000
def fp20 : Nat := 0x800000000000000000000000000000000000000000000000000000000000000000000000000000000000000000000000000000000000000000000000000000000000000000000000000000000000000000000000000000000000000000000000000000000000000000000000000000000000000000000000000000000000000
def fp21 : Nat := 0x1000400000000000000000000001c0000000000000000000000000000000000000001c1000000000000000000000000000000000000000000000000000000000000000000000000000000000000000000000000000000000000000000000000000000000000000000000000000000000000000000000000000000000000001400

theorem State.once_foot (s : State) (l : Leg) (src : Nat) (det : Nat) : Foot fp11 s (State.once s l src det) := by
  have h : Foot fp11 s s := Foot.refl
  unfold State.once
  repeat' first
    | with_reducible assumption
    | with_reducible apply Foot.ite
    | ((with_reducible apply Foot.upd); (· rfl); (· rfl))
    | ((with_reducible apply Foot.step (State.event_foot ..)); (· rfl))
    | split

theorem State.pmCount_foot (s : State) (l : Leg) (w : Nat) (k : Nat) (n : Nat) : Foot fp12 s (State.pmCount s l w k n) := by
  have h : Foot fp12 s s := Foot.refl
  unfold State.pmCount
  repeat' first
    | with_reducible assumption
    | with_reducible apply Foot.ite
    | ((with_reducible apply Foot.wr); (· rfl); (· first | exact Or.inr rfl | exact Or.inl (Leg.n_lt _)))
    | ((with_reducible apply Foot.inc); (· rfl); (· first | exact Or.inr rfl))
    | ((with_reducible apply Foot.step (State.event_foot ..)); (· rfl))
    | (fail_if_no_progress extract_lets +onlyGivenNames x; first | refine Foot.keepHost x ?_ | refine Foot.keepMbx x ?_ | clear_value x)
    | fail_if_no_progress ((with_reducible apply Foot.setPm); (· rfl))
    | split

theorem State.rollBins15_foot (s : State) (step : Bool) : Foot fp13 s (State.rollBins15 s step) := by
  have h : Foot fp13 s s := Foot.refl
  unfold State.rollBins15
  repeat' first
    | with_reducible assumption
    | ((with_reducible apply Foot.foldl); (on_goal 1 => intro _ _ _))
    | (fail_if_no_progress extract_lets +onlyGivenNames x; first | refine Foot.keepHost x ?_ | refine Foot.keepMbx x ?_ | clear_value x)
    | fail_if_no_progress ((with_reducible apply Foot.setPm); (· rfl))

theorem State.rollBins24_foot (s : State) (step : Bool) : Foot fp13 s (State.rollBins24 s step) := by
  have h : Foot fp13 s s := Foot.refl
  unfold State.rollBins24
  repeat' first
    | with_reducible assumption
    | ((with_reducible apply Foot.foldl); (on_goal 1 => intro _ _ _))
    | (fail_if_no_progress extract_lets +onlyGivenNames x; first | refine Foot.keepHost x ?_ | refine Foot.keepMbx x ?_ | clear_value x)
    | fail_if_no_progress ((with_reducible apply Foot.setPm); (· rfl))

theorem State.markBins_foot (s : State) (p : Leg → Bool) (f : Bin → Bin) : Foot fp13 s (State.markBins s p f) := by
  have h : Foot fp13 s s := Foot.refl
  unfold State.markBins
  repeat' first
    | with_reducible assumption
    | with_reducible apply Foot.ite
    | ((with_reducible apply Foot.foldl); (on_goal 1 => intro _ _ _))
    | (fail_if_no_progress extract_lets +onlyGivenNames x; first | refine Foot.keepHost x ?_ | refine Foot.keepMbx x ?_ | clear_value x)
    | fail_if_no_progress ((with_reducible apply Foot.setPm); (· rfl))
    | split

theorem State.stepBins_foot (s : State) : Foot fp13 s (State.stepBins s) := by
  have h : Foot fp13 s s := Foot.refl
  unfold State.stepBins
  repeat' first
    | with_reducible assumption
    | with_reducible apply Foot.ite
    | ((with_reducible apply Foot.step (State.rollBins15_foot ..)); (· rfl))
    | ((with_reducible apply Foot.step (State.rollBins24_foot ..)); (· rfl))
    | split

theorem State.spill_foot (s : State) (l : Leg) (w : Nat) (cause : Nat) : Foot fp14 s (State.spill s l w cause) := by
  have h : Foot fp14 s s := Foot.refl
  unfold State.spill
  repeat' first
    | with_reducible assumption
    | with_reducible apply Foot.ite
    | ((with_reducible apply Foot.inc); (· rfl); (· first | exact Or.inr rfl))
    | ((with_reducible apply Foot.upd); (· rfl); (· rfl))
    | ((with_reducible apply Foot.step (State.once_foot ..)); (· rfl))
    | ((with_reducible apply Foot.step (State.pmCount_foot ..)); (· rfl))
    | (fail_if_no_progress extract_lets +onlyGivenNames x; first | refine Foot.keepHost x ?_ | refine Foot.keepMbx x ?_ | clear_value x)
    | split

theorem State.eccUncorr_foot (s : State) (inst : Nat) (det : Nat) : Foot fp15 s (State.eccUncorr s inst det) := by
  have h : Foot fp15 s s := Foot.refl
  unfold State.eccUncorr
  repeat' first
    | with_reducible assumption
    | ((with_reducible apply Foot.inc); (· rfl); (· first | exact Or.inr rfl))
    | ((with_reducible apply Foot.step (State.event_foot ..)); (· rfl))

theorem State.replaceRequest_foot (s : State) (k : Nat) : Foot fp16 s (State.replaceRequest s k) := by
  have h : Foot fp16 s s := Foot.refl
  unfold State.replaceRequest
  repeat' first
    | with_reducible assumption
    | with_reducible apply Foot.ite
    | ((with_reducible apply Foot.wr); (· rfl); (· first | exact Or.inr rfl))
    | ((with_reducible apply Foot.step (State.event_foot ..)); (· rfl))
    | (fail_if_no_progress extract_lets +onlyGivenNames x; first | (refine Foot.cut x ?_ (fun hx => ?_); (on_goal 1 => subst x); (on_goal 2 => clear_value x)) | (refine Foot.cut2 x ?_ (fun hx => ?_); (on_goal 1 => subst x); (on_goal 2 => clear_value x)) | refine Foot.keepHost x ?_ | refine Foot.keepMbx x ?_ | clear_value x)
    | split

theorem State.replaceLeg_foot (s : State) (l : Leg) : Foot fp17 s (State.replaceLeg s l) := by
  have h : Foot fp17 s s := Foot.refl
  unfold State.replaceLeg
  repeat' first
    | with_reducible assumption
    | ((with_reducible apply Foot.wr); (· rfl); (· first | exact Or.inr rfl))
    | ((with_reducible apply Foot.step (State.replaceRequest_foot ..)); (· rfl))

theorem State.setPower_foot (s : State) (st : Nat) : Foot fp18 s (State.setPower s st) := by
  have h : Foot fp18 s s := Foot.refl
  unfold State.setPower
  repeat' first
    | with_reducible assumption
    | with_reducible apply Foot.ite
    | ((with_reducible apply Foot.wr); (· rfl); (· first | exact Or.inr rfl))
    | ((with_reducible apply Foot.step (State.event_foot ..)); (· rfl))
    | split

theorem State.recordWake_foot (s : State) (code : Nat) : Foot fp19 s (State.recordWake s code) := by
  have h : Foot fp19 s s := Foot.refl
  unfold State.recordWake
  repeat' first
    | with_reducible assumption
    | ((with_reducible apply Foot.wr); (· rfl); (· first | exact Or.inr rfl))
    | ((with_reducible apply Foot.step (State.event_foot ..)); (· rfl))

theorem State.wakeCause_foot (s : State) (code : Nat) : Foot fp20 s (State.wakeCause s code) := by
  have h : Foot fp20 s s := Foot.refl
  unfold State.wakeCause
  repeat' first
    | with_reducible assumption
    | with_reducible apply Foot.ite
    | (fail_if_no_progress extract_lets +onlyGivenNames x; first | refine Foot.keepHost x ?_ | refine Foot.keepMbx x ?_ | clear_value x)
    | fail_if_no_progress ((with_reducible apply Foot.setPwr); (· rfl))
    | split

theorem State.idleExit_foot (s : State) (code : Nat) : Foot fp21 s (State.idleExit s code) := by
  have h : Foot fp21 s s := Foot.refl
  unfold State.idleExit
  repeat' first
    | with_reducible assumption
    | with_reducible apply Foot.ite
    | ((with_reducible apply Foot.step (State.event_foot ..)); (· rfl))
    | ((with_reducible apply Foot.step (State.setPower_foot ..)); (· rfl))
    | ((with_reducible apply Foot.step (State.recordWake_foot ..)); (· rfl))
    | split

theorem State.gated_foot {m : Nat} {s t : State} {ag : Agent} {f : State → State} (hm : fp21 ||| m = m)
    (hf : ∀ x, Foot m s x → Foot m s (f x)) (h : Foot m s t) : Foot m s (State.gated t ag f) := by
  unfold State.gated
  exact Foot.reg (fun x hx => hf _ (Foot.ite (Foot.step (State.idleExit_foot ..) hm hx) hx)) h

end Sys2Proof.Machine
end

