-- ==== Sys2Proof/Laws/FootSched.lean ====
section
/-! SUPPORT. What each operation of Machine/Sched.lean can change (`Foot`). -/

namespace Sys2Proof.Machine

def fp22 : Nat := 0x400000000000000000000000000000000000000000000000000000000000000000000000000000000000000000000000000000000000000000000000000000000000000000000000000000000000000000000000000000000000000000000000000000000000000000000000000000000000000000000000000000000000
def fp23 : Nat := 0x4400000000000000000000000000000000000000000000000000000000000000000000000000000000000000000000000000000000000000000000000000000000000000000000000000000000000000000000000000000000000000000000000000000000000000000000000000000000000000000000000000000000000
def fp24 : Nat := 0x4400000000000000000000000000000000000000000000000000000000000000000000000000000000000000000000000000000000000000000000000000000000000000000000000000000000000008000000000000000000000000000000000000000000000000000000000000000000000000000000000000000000000
def fp25 : Nat := 0x4400000000000000000000000000000000000000000000000000000000000000000000000000000000000000000000000000000000000000000000000000000000000000000000000000000000080018000000000000000000000000000000000000000000000000000000000000000000000000000000000000000000000
def fp26 : Nat := 0x20000c0000000000000000000000000000000000000000000000000000000000000000000000000000000000000000000000000000000000000000000000000000000000000000000000000000000000000000000000000000000000000000000000000000000000000000000000000000000000000000000000000000000000
def fp27 : Nat := 0x2000000000000000000000000000000000000000000000000000000000000000000000000000000000000000000000000000000000000000000000000000000000000000000000000000000000000000000000000000000000000000000000000000000000000000000000000000000000000000000000000000000000000000
def fp28 : Nat := 0x5400000000000000000000000000000000000000000000000000000000000000000000000000000000000000000000000000000000000000000000000000000000000000000000000000000000104000000000000000000000000000000000000000000000000000000000000000000000000000000000000000000000000
def fp29 : Nat := 0x1000400000000000000000000001c0000000000000000000000000000000000000001c1000000000000000000000000000000000000000000000000000000000000000000000000000000000000002000020000000000000000000000000000000000000000000000000000000000000000000000000000000000000000000000
def fp30 : Nat := 0x2005cc0000000000000000000000000000000000000000000000000000000000000000000000000000000000000000000000000000000000000000000000000000000000000000000000000000000106000000000000000000000000000000000000000000000000000000000000000000000000000000000000000000000000
def fp31 : Nat := 0x12005cc000000000000000000001c0000000000000000000000000000000000000001c1000000000000000000000000000000000000000000000000000000000000000000000000000000000000002106020000000000000000000000000000000000000000000000000000000000000000000000000000000000000000000000
def fp32 : Nat := 0x5400000000000000000000000000000000000000000000000000000000000000000000000000000000000000000000000000000000000000000000000000000000000000000000000000000000000000000000000000000000000000000000000000000000000000000000000000000000000000000000000000000000000
def fp33 : Nat := 0x4000000000000000000000000000000000000000000000000000000000000000000000000000000000000000000000000000000000000000000000000000000000000000000000000000000000040000000000000000000000000000000000000000000000000000000000000000000000000000000000000000000000000
def fp34 : Nat := 0x5400000000000000000000000000000000000000000000000000000000000000000000000000000000000000000000000000000000000000000000000000000000000000000000000000000000040000000000000000000000000000000000000000000000000000000000000000000000000000000000000000000000000
def fp35 : Nat := 0x1000400000000000000000000001c0000000000000000000000000000000000000001c1000000000000000000000000000000000000000000000000000000000000400000000000000000000000000000000000000000000000000000000000000000000000000000000000000000000000000000000000000000000000000000
def fp36 : Nat := 0x1000740000000000000000000001c1000000000000000000000000003000008000001c1000000000000000000000000000000000000000000000000000000000000000800000000000000000000000000000000000000000000000000000000000000000000000000000000000000000000000000000000000000000000000000
def fp37 : Nat := 0x12007cc000000000000000000001c1000000000000000000000000003000008000001c1000000000000000000000000000000000000000000000000000000000000400800000000000000000000004040440000000000000000000000000000000000000000000000000000000000000000000000000000000000000000000000
def fp38 : Nat := 0x12005cc000000000000000000001c0000000000000000000000000000000000000001c1000000000000000000000000000000000000000000000000000000000000000000000000000000000000001831a00000000000000000000000400000000000000000000000000000000000000000000000000000000000000000000000
def fp39 : Nat := 0x100858c000000000000000000001c0000000000000000000000000000000000000001c1000000000000000000000000002060000000000000000000000000000000000000000000000003c00000000000000000000000000000000000000000000000000000000000000000000000000000000000000000000000000000000000

theorem State.setTxq_foot (s : State) (q : Nat) (f : TxQ → TxQ) : Foot fp4 s (State.setTxq s q f) := by
  have h : Foot fp4 s s := Foot.refl
  unfold State.setTxq
  repeat' first
    | with_reducible assumption
    | (fail_if_no_progress extract_lets +onlyGivenNames x; refine Foot.keepHost x ?_)
    | fail_if_no_progress ((with_reducible apply Foot.setHost); (· rfl); (· exact fun hb => ⟨hb.log, hb.errs, hb.fwQueue⟩))

theorem State.setSlot_foot (s : State) (c : Nat) (f : SlotSt → SlotSt) : Foot fp22 s (State.setSlot s c f) := by
  have h : Foot fp22 s s := Foot.refl
  unfold State.setSlot
  repeat' first
    | with_reducible assumption
    | (fail_if_no_progress extract_lets +onlyGivenNames x; first | (refine Foot.cut x ?_ (fun hx => ?_); (on_goal 1 => subst x); (on_goal 2 => clear_value x)) | (refine Foot.cut2 x ?_ (fun hx => ?_); (on_goal 1 => subst x); (on_goal 2 => clear_value x)) | refine Foot.keepHost x ?_ | refine Foot.keepMbx x ?_ | clear_value x)
    | fail_if_no_progress ((with_reducible apply Foot.setSlots); (· rfl))

theorem State.setCq_foot (s : State) (c : Nat) (f : CqR → CqR) : Foot fp4 s (State.setCq s c f) := by
  have h : Foot fp4 s s := Foot.refl
  unfold State.setCq
  repeat' first
    | with_reducible assumption
    | (fail_if_no_progress extract_lets +onlyGivenNames x; refine Foot.keepHost x ?_)
    | fail_if_no_progress ((with_reducible apply Foot.setHost); (· rfl); (· exact fun hb => ⟨hb.log, hb.errs, hb.fwQueue⟩))

theorem State.charge_foot (s : State) (q : Nat) (k : Nat × Nat) (c : Nat × Nat) (f : Bucket → Nat → Bucket) : Foot fp23 s (State.charge s q k c f) := by
  have h : Foot fp23 s s := Foot.refl
  unfold State.charge
  repeat' first
    | with_reducible assumption
    | ((with_reducible apply Foot.step (State.setTxq_foot ..)); (· rfl))
    | ((with_reducible apply Foot.step (State.setSlot_foot ..)); (· rfl))

theorem State.newHead_foot (s : State) (q : Nat) : Foot fp4 s (State.newHead s q) := by
  have h : Foot fp4 s s := Foot.refl
  unfold State.newHead
  repeat' first
    | with_reducible assumption
    | with_reducible apply Foot.ite
    | ((with_reducible apply Foot.step (State.setTxq_foot ..)); (· rfl))
    | (fail_if_no_progress extract_lets +onlyGivenNames x; first | refine Foot.keepHost x ?_ | refine Foot.keepMbx x ?_ | clear_value x)
    | split

theorem State.enterVtime_foot (s : State) (c : Nat) : Foot fp24 s (State.enterVtime s c) := by
  have h : Foot fp24 s s := Foot.refl
  unfold State.enterVtime
  repeat' first
    | with_reducible assumption
    | ((with_reducible apply Foot.wr); (· rfl); (· first | exact Or.inr rfl))
    | ((with_reducible apply Foot.step (State.setTxq_foot ..)); (· rfl))
    | ((with_reducible apply Foot.step (State.setSlot_foot ..)); (· rfl))
    | ((with_reducible apply Foot.step (State.newHead_foot ..)); (· rfl))
    | ((with_reducible apply Foot.foldl); (on_goal 1 => intro _ _ _))
    | (fail_if_no_progress extract_lets +onlyGivenNames x; first | (refine Foot.cut x ?_ (fun hx => ?_); (on_goal 1 => subst x); (on_goal 2 => clear_value x)) | (refine Foot.cut2 x ?_ (fun hx => ?_); (on_goal 1 => subst x); (on_goal 2 => clear_value x)) | refine Foot.keepHost x ?_ | refine Foot.keepMbx x ?_ | clear_value x)

theorem State.fallback_foot (s : State) (cs : List Nat) : Foot fp25 s (State.fallback s cs) := by
  have h : Foot fp25 s s := Foot.refl
  unfold State.fallback
  repeat' first
    | with_reducible assumption
    | ((with_reducible apply Foot.wr); (· rfl); (· first | exact Or.inr rfl))
    | ((with_reducible apply Foot.inc); (· rfl); (· first | exact Or.inr rfl))
    | ((with_reducible apply Foot.step (State.setSlot_foot ..)); (· rfl))
    | ((with_reducible apply Foot.step (State.enterVtime_foot ..)); (· rfl))
    | ((with_reducible apply Foot.foldl); (on_goal 1 => intro _ _ _))

theorem State.fallbackBoundary_foot (s : State) : Foot fp22 s (State.fallbackBoundary s) := by
  have h : Foot fp22 s s := Foot.refl
  unfold State.fallbackBoundary
  repeat' first
    | with_reducible assumption
    | with_reducible apply Foot.ite
    | (fail_if_no_progress extract_lets +onlyGivenNames x; first | (refine Foot.cut x ?_ (fun hx => ?_); (on_goal 1 => subst x); (on_goal 2 => clear_value x)) | (refine Foot.cut2 x ?_ (fun hx => ?_); (on_goal 1 => subst x); (on_goal 2 => clear_value x)) | refine Foot.keepHost x ?_ | refine Foot.keepMbx x ?_ | clear_value x)
    | fail_if_no_progress ((with_reducible apply Foot.setSlots); (· rfl))
    | split

theorem State.cqPush_foot (s : State) (c : Nat) (e : Cpl) : Foot fp4 s (State.cqPush s c e) := by
  have h : Foot fp4 s s := Foot.refl
  unfold State.cqPush
  repeat' first
    | with_reducible assumption
    | ((with_reducible apply Foot.step (State.setCq_foot ..)); (· rfl))

theorem State.popDone_foot (n : Nat) (s : State) (q : Nat) : Foot fp4 s (State.popDone n s q) := by
  induction n generalizing s with
  | zero => exact Foot.refl
  | succ k ih =>
    unfold State.popDone
    split
    · refine Foot.ite Foot.refl ?_
      refine Foot.step (ih ..) rfl ?_
      refine Foot.step (State.setTxq_foot ..) rfl ?_
      exact (State.cqPush_foot ..).mono rfl
    · exact Foot.refl

theorem State.complete_foot (s : State) (q : Nat) : Foot fp4 s (State.complete s q) := by
  have h : Foot fp4 s s := Foot.refl
  unfold State.complete
  repeat' first
    | with_reducible assumption
    | ((with_reducible apply Foot.step (State.popDone_foot ..)); (· rfl))

theorem State.finish_foot (s : State) (q : Nat) (didx : Nat) (status : Nat) : Foot fp4 s (State.finish s q didx status) := by
  have h : Foot fp4 s s := Foot.refl
  unfold State.finish
  repeat' first
    | with_reducible assumption
    | with_reducible apply Foot.ite
    | ((with_reducible apply Foot.step (State.setTxq_foot ..)); (· rfl))
    | ((with_reducible apply Foot.step (State.newHead_foot ..)); (· rfl))
    | ((with_reducible apply Foot.step (State.complete_foot ..)); (· rfl))
    | (fail_if_no_progress extract_lets +onlyGivenNames x; first | (refine Foot.cut x ?_ (fun hx => ?_); (on_goal 1 => subst x); (on_goal 2 => clear_value x)) | (refine Foot.cut2 x ?_ (fun hx => ?_); (on_goal 1 => subst x); (on_goal 2 => clear_value x)) | refine Foot.keepHost x ?_ | refine Foot.keepMbx x ?_ | clear_value x)
    | split

theorem State.takeMsg_foot (s : State) (l : Leg) : Foot fp26 s (State.takeMsg s l).2 := by
  have h : Foot fp26 s s := Foot.refl
  unfold State.takeMsg
  repeat' first
    | with_reducible assumption
    | with_reducible apply Foot.ite
    | with_reducible apply Foot.ite2
    | ((with_reducible apply Foot.upd); (· rfl); (· rfl))
    | (fail_if_no_progress extract_lets +onlyGivenNames x; first | refine Foot.keepHost x ?_ | refine Foot.keepMbx x ?_ | clear_value x)
    | fail_if_no_progress ((with_reducible apply Foot.setReqs); (· rfl))
    | split

theorem State.untakeMsg_foot (s : State) (l : Leg) (x2 : Option (Nat × Nat)) : Foot fp26 s (State.untakeMsg s l x2) := by
  have h : Foot fp26 s s := Foot.refl
  unfold State.untakeMsg
  repeat' first
    | with_reducible assumption
    | with_reducible apply Foot.ite
    | ((with_reducible apply Foot.upd); (· rfl); (· rfl))
    | (fail_if_no_progress extract_lets +onlyGivenNames x; first | (refine Foot.cut x ?_ (fun hx => ?_); (on_goal 1 => subst x); (on_goal 2 => clear_value x)) | (refine Foot.cut2 x ?_ (fun hx => ?_); (on_goal 1 => subst x); (on_goal 2 => clear_value x)) | refine Foot.keepHost x ?_ | refine Foot.keepMbx x ?_ | clear_value x)
    | fail_if_no_progress ((with_reducible apply Foot.setReqs); (· rfl))
    | split

theorem State.msgSent_foot (s : State) (l : Leg) (x2 : Option (Nat × Nat)) : Foot fp27 s (State.msgSent s l x2) := by
  have h : Foot fp27 s s := Foot.refl
  unfold State.msgSent
  repeat' first
    | with_reducible assumption
    | with_reducible apply Foot.ite
    | (fail_if_no_progress extract_lets +onlyGivenNames x; first | refine Foot.keepHost x ?_ | refine Foot.keepMbx x ?_ | clear_value x)
    | fail_if_no_progress ((with_reducible apply Foot.setReqs); (· rfl))
    | split

theorem State.restoreSnap_foot (s : State) (n : SchedSnap) : Foot fp23 s (State.restoreSnap s n) := by
  have h : Foot fp23 s s := Foot.refl
  unfold State.restoreSnap
  repeat' first
    | with_reducible assumption
    | with_reducible apply Foot.ite
    | ((with_reducible apply Foot.step (State.setTxq_foot ..)); (· rfl))
    | ((with_reducible apply Foot.step (State.setSlot_foot ..)); (· rfl))
    | ((with_reducible apply Foot.foldl); (on_goal 1 => intro _ _ _))
    | (fail_if_no_progress extract_lets +onlyGivenNames x; first | refine Foot.keepHost x ?_ | refine Foot.keepMbx x ?_ | clear_value x)
    | split

theorem State.unplace_foot (s : State) (p : Placed) : Foot fp28 s (State.unplace s p) := by
  have h : Foot fp28 s s := Foot.refl
  unfold State.unplace
  repeat' first
    | with_reducible assumption
    | ((with_reducible apply Foot.inc); (· rfl); (· first | exact Or.inr rfl))
    | ((with_reducible apply Foot.step (State.setTxq_foot ..)); (· rfl))
    | ((with_reducible apply Foot.step (State.charge_foot ..)); (· rfl))
    | (fail_if_no_progress extract_lets +onlyGivenNames x; first | refine Foot.keepHost x ?_ | refine Foot.keepMbx x ?_ | clear_value x)
    | fail_if_no_progress ((with_reducible apply Foot.setLed); (· rfl))

theorem State.unwindSlot_foot (s : State) (c : Nat) (cause : Nat) : Foot fp29 s (State.unwindSlot s c cause) := by
  have h : Foot fp29 s s := Foot.refl
  unfold State.unwindSlot
  repeat' first
    | with_reducible assumption
    | ((with_reducible apply Foot.wr); (· rfl); (· first | exact Or.inr rfl))
    | ((with_reducible apply Foot.inc); (· rfl); (· first | exact Or.inr rfl))
    | ((with_reducible apply Foot.step (State.slotEvent_foot ..)); (· rfl))
    | (fail_if_no_progress extract_lets +onlyGivenNames x; first | (refine Foot.cut x ?_ (fun hx => ?_); (on_goal 1 => subst x); (on_goal 2 => clear_value x)) | (refine Foot.cut2 x ?_ (fun hx => ?_); (on_goal 1 => subst x); (on_goal 2 => clear_value x)) | refine Foot.keepHost x ?_ | refine Foot.keepMbx x ?_ | clear_value x)

theorem State.unwindBurst_foot (s : State) (b : Burst) : Foot fp30 s (State.unwindBurst s b) := by
  have h : Foot fp30 s s := Foot.refl
  unfold State.unwindBurst
  repeat' first
    | with_reducible assumption
    | ((with_reducible apply Foot.inc); (· rfl); (· first | exact Or.inr rfl))
    | ((with_reducible apply Foot.step (State.untakeMsg_foot ..)); (· rfl))
    | ((with_reducible apply Foot.step (State.restoreSnap_foot ..)); (· rfl))
    | ((with_reducible apply Foot.step (State.unplace_foot ..)); (· rfl))
    | ((with_reducible apply Foot.foldl); (on_goal 1 => intro _ _ _))
    | (fail_if_no_progress extract_lets +onlyGivenNames x; first | refine Foot.keepHost x ?_ | refine Foot.keepMbx x ?_ | clear_value x)
    | fail_if_no_progress ((with_reducible apply Foot.setBursts); (· rfl))

theorem State.unwindList_foot (s : State) (bs : List Burst) (cause : Nat) : Foot fp31 s (State.unwindList s bs cause) := by
  have h : Foot fp31 s s := Foot.refl
  unfold State.unwindList
  repeat' first
    | with_reducible assumption
    | ((with_reducible apply Foot.step (State.unwindSlot_foot ..)); (· rfl))
    | ((with_reducible apply Foot.step (State.unwindBurst_foot ..)); (· rfl))
    | ((with_reducible apply Foot.foldl); (on_goal 1 => intro _ _ _))

theorem State.unwindAlloc_foot (s : State) (l : Leg) (a : Alloc) (cause : Nat) : Foot fp31 s (State.unwindAlloc s l a cause) := by
  have h : Foot fp31 s s := Foot.refl
  unfold State.unwindAlloc
  repeat' first
    | with_reducible assumption
    | with_reducible apply Foot.ite
    | ((with_reducible apply Foot.step (State.unwindList_foot ..)); (· rfl))
    | split

theorem State.unwindWhere_foot (s : State) (l : Leg) (p : Burst → Bool) (cause : Nat) : Foot fp31 s (State.unwindWhere s l p cause) := by
  have h : Foot fp31 s s := Foot.refl
  unfold State.unwindWhere
  repeat' first
    | with_reducible assumption
    | ((with_reducible apply Foot.step (State.unwindAlloc_foot ..)); (· rfl))
    | split

theorem State.unwindAfter_foot (s : State) (l : Leg) (opens : Nat) (cause : Nat) : Foot fp31 s (State.unwindAfter s l opens cause) := by
  have h : Foot fp31 s s := Foot.refl
  unfold State.unwindAfter
  repeat' first
    | with_reducible assumption
    | ((with_reducible apply Foot.step (State.unwindList_foot ..)); (· rfl))

theorem State.unwindAll_foot (s : State) (l : Leg) (cause : Nat) : Foot fp31 s (State.unwindAll s l cause) := by
  have h : Foot fp31 s s := Foot.refl
  unfold State.unwindAll
  repeat' first
    | with_reducible assumption
    | ((with_reducible apply Foot.step (State.unwindList_foot ..)); (· rfl))

theorem State.pick_foot (s : State) (l : Leg) (a : Alloc) (off : Nat) : Foot fp23 s (State.pick s l a off).2 := by
  have h : Foot fp23 s s := Foot.refl
  unfold State.pick
  repeat' first
    | with_reducible assumption
    | with_reducible apply Foot.ite
    | with_reducible apply Foot.ite2
    | ((with_reducible apply Foot.step (State.setTxq_foot ..)); (· rfl))
    | ((with_reducible apply Foot.step (State.setSlot_foot ..)); (· rfl))
    | ((with_reducible apply Foot.foldl); (on_goal 1 => intro _ _ _))
    | (fail_if_no_progress extract_lets +onlyGivenNames x; first | (refine Foot.cut x ?_ (fun hx => ?_); (on_goal 1 => subst x); (on_goal 2 => clear_value x)) | refine Foot.keepHost x ?_ | refine Foot.keepMbx x ?_ | clear_value x)
    | split

theorem State.placeFrame_foot (s : State) (l : Leg) (a : Alloc) (q : Nat) (f : TxFrame) : Foot fp32 s (State.placeFrame s l a q f).2 := by
  have h : Foot fp32 s s := Foot.refl
  unfold State.placeFrame
  repeat' first
    | with_reducible assumption
    | with_reducible apply Foot.ite
    | with_reducible apply Foot.ite2
    | ((with_reducible apply Foot.step (State.setTxq_foot ..)); (· rfl))
    | ((with_reducible apply Foot.step (State.setSlot_foot ..)); (· rfl))
    | ((with_reducible apply Foot.step (State.charge_foot ..)); (· rfl))
    | ((with_reducible apply Foot.step (State.newHead_foot ..)); (· rfl))
    | (fail_if_no_progress extract_lets +onlyGivenNames x; first | refine Foot.keepHost x ?_ | refine Foot.keepMbx x ?_ | clear_value x)
    | fail_if_no_progress ((with_reducible apply Foot.setLed); (· rfl))
    | (rename_i he; refine Foot.cut _ (Foot.ofPair he ?_) (fun hx => ?_); (on_goal 2 => clear he))
    | split

theorem State.noteBlock_foot (s : State) (l : Leg) (a : Alloc) (off : Nat) (q : Nat) : Foot fp33 s (State.noteBlock s l a off q) := by
  have h : Foot fp33 s s := Foot.refl
  unfold State.noteBlock
  repeat' first
    | with_reducible assumption
    | with_reducible apply Foot.ite
    | ((with_reducible apply Foot.inc); (· rfl); (· first | exact Or.inr rfl))
    | ((with_reducible apply Foot.step (State.setTxq_foot ..)); (· rfl))
    | (fail_if_no_progress extract_lets +onlyGivenNames x; first | (refine Foot.cut x ?_ (fun hx => ?_); (on_goal 1 => subst x); (on_goal 2 => clear_value x)) | (refine Foot.cut2 x ?_ (fun hx => ?_); (on_goal 1 => subst x); (on_goal 2 => clear_value x)) | refine Foot.keepHost x ?_ | refine Foot.keepMbx x ?_ | clear_value x)
    | split

theorem State.noteBlocks_foot (s : State) (l : Leg) (a : Alloc) (off : Nat) : Foot fp33 s (State.noteBlocks s l a off) := by
  have h : Foot fp33 s s := Foot.refl
  unfold State.noteBlocks
  repeat' first
    | with_reducible assumption
    | ((with_reducible apply Foot.step (State.noteBlock_foot ..)); (· rfl))
    | ((with_reducible apply Foot.foldl); (on_goal 1 => intro _ _ _))

theorem State.clearBlocks_foot (s : State) (c : Nat) : Foot fp4 s (State.clearBlocks s c) := by
  have h : Foot fp4 s s := Foot.refl
  unfold State.clearBlocks
  repeat' first
    | with_reducible assumption
    | ((with_reducible apply Foot.step (State.setTxq_foot ..)); (· rfl))
    | ((with_reducible apply Foot.foldl); (on_goal 1 => intro _ _ _))

theorem State.selectFrames_foot (n : Nat) (s : State) (l : Leg) (a : Alloc) (off : Nat) (acc : List Placed) :
    Foot fp34 s (State.selectFrames n s l a off acc).2 := by
  induction n generalizing s off acc with
  | zero => exact Foot.refl
  | succ k ih =>
    have h0 : Foot fp34 s (s.noteBlocks l a off) := Foot.step (State.noteBlocks_foot ..) rfl Foot.refl
    unfold State.selectFrames
    split
    · rename_i t he
      exact Foot.step (Foot.ofPair he (State.pick_foot ..)) rfl h0
    · rename_i q t he
      have ht := Foot.step (Foot.ofPair he (State.pick_foot ..)) (m := fp34) rfl h0
      split
      · exact ht
      · split
        rename_i p u hu
        have hu' := Foot.ofPair hu (State.placeFrame_foot ..)
        exact Foot.step (ih ..) rfl (Foot.step hu' rfl ht)

theorem State.denyFrames_foot (n : Nat) (s : State) (l : Leg) (a : Alloc) (off : Nat) :
    Foot fp35 s (State.denyFrames n s l a off) := by
  induction n generalizing s with
  | zero => exact Foot.refl
  | succ k ih =>
    unfold State.denyFrames
    split
    · exact Foot.refl
    · split
      · exact Foot.refl
      · refine Foot.step (ih ..) rfl ?_
        refine Foot.step (State.event_foot ..) rfl ?_
        refine Foot.inc rfl (Or.inr rfl) ?_
        exact (State.finish_foot ..).mono rfl

theorem State.failPlaced_foot (s : State) (p : Placed) (status : Nat) : Foot fp32 s (State.failPlaced s p status) := by
  have h : Foot fp32 s s := Foot.refl
  unfold State.failPlaced
  repeat' first
    | with_reducible assumption
    | ((with_reducible apply Foot.step (State.charge_foot ..)); (· rfl))
    | ((with_reducible apply Foot.step (State.finish_foot ..)); (· rfl))
    | (fail_if_no_progress extract_lets +onlyGivenNames x; first | refine Foot.keepHost x ?_ | refine Foot.keepMbx x ?_ | clear_value x)
    | fail_if_no_progress ((with_reducible apply Foot.setLed); (· rfl))

theorem State.askPayload_foot (s : State) (q : Nat) (f : TxFrame) : Foot fp3 s (State.askPayload s q f) := by
  have h : Foot fp3 s s := Foot.refl
  unfold State.askPayload
  repeat' first
    | with_reducible assumption
    | ((with_reducible apply Foot.step (State.askHost_foot ..)); (· rfl))
    | ((with_reducible apply Foot.foldl); (on_goal 1 => intro _ _ _))

theorem State.encodeFrames_foot (s : State) (l : Leg) (a : Alloc) (mem : List (Nat × List Byte)) (failed : List (Nat × ReadFault))
    (ecc : List Nat) (i : Nat) (ps : List Placed) : Foot fp36 s (State.encodeFrames s l a mem failed ecc i ps).2 := by
  induction ps generalizing s i with
  | nil => exact Foot.refl
  | cons p r ih =>
    unfold State.encodeFrames
    extract_lets +onlyGivenNames key seq fr x y
    have hx : Foot fp36 s x := Foot.setSeqs rfl Foot.refl
    clear_value x fr
    have hy : Foot fp36 s y := by
      simp only [y]
      split
      · exact Foot.step (State.askPayload_foot ..) rfl hx
      · exact hx
    clear_value y
    split
    · extract_lets +onlyGivenNames own z v
      have hz : Foot fp36 s z := Foot.step (State.readFault_foot ..) rfl hy
      clear_value z
      exact Foot.step (ih ..) rfl (Foot.step (State.failPlaced_foot ..) rfl hz)
    · split
      · exact Foot.step (ih ..) rfl (Foot.step (State.failPlaced_foot ..) rfl (Foot.step (State.eccUncorr_foot ..) rfl hy))
      · split
        · exact Foot.step (ih ..) rfl hy
        · extract_lets +onlyGivenNames data kidx slot
          clear_value data kidx slot
          split
          rename_i hdr body w he
          have hw : Foot fp36 s w := by
            split at he
            · extract_lets hd at he
              split at he
              simp only [Prod.mk.injEq] at he
              obtain ⟨-, -, rfl⟩ := he
              exact Foot.inc rfl (Or.inr rfl) hy
            · simp only [Prod.mk.injEq] at he
              obtain ⟨-, -, rfl⟩ := he
              exact hy
          extract_lets chan
          split
          rename_i rest u hu
          exact Foot.step (Foot.ofPair hu (ih ..)) rfl hw


theorem State.build_foot (s : State) (l : Leg) (a : Alloc) (mem : List (Nat × List Byte)) (failed : List (Nat × ReadFault)) (ecc : List Nat) : Foot fp37 s (State.build s l a mem failed ecc) := by
  have h : Foot fp37 s s := Foot.refl
  unfold State.build
  repeat' first
    | with_reducible assumption
    | with_reducible apply Foot.ite
    | ((with_reducible apply Foot.wr); (· rfl); (· first | exact Or.inr rfl))
    | ((with_reducible apply Foot.inc); (· rfl); (· first | exact Or.inr rfl))
    | ((with_reducible apply Foot.step (State.slotEvent_foot ..)); (· rfl))
    | ((with_reducible apply Foot.step (State.takeMsg_foot ..)); (· rfl))
    | ((with_reducible apply Foot.step (State.noteBlocks_foot ..)); (· rfl))
    | ((with_reducible apply Foot.step (State.clearBlocks_foot ..)); (· rfl))
    | ((with_reducible apply Foot.step (State.selectFrames_foot ..)); (· rfl))
    | ((with_reducible apply Foot.step (State.denyFrames_foot ..)); (· rfl))
    | ((with_reducible apply Foot.step (State.encodeFrames_foot ..)); (· rfl))
    | (fail_if_no_progress extract_lets +onlyGivenNames x; first | refine Foot.keepHost x ?_ | refine Foot.keepMbx x ?_ | clear_value x)
    | fail_if_no_progress ((with_reducible apply Foot.setBursts); (· rfl))
    | split

theorem State.sendBurst_foot (s : State) (l : Leg) (a : Alloc) (info : List Byte) : Foot fp3 s (State.sendBurst s l a info) := by
  have h : Foot fp3 s s := Foot.refl
  unfold State.sendBurst
  repeat' first
    | with_reducible assumption
    | with_reducible apply Foot.ite
    | ((with_reducible apply Foot.step (State.emit_foot ..)); (· rfl))
    | split

theorem State.commitBurst_foot (s : State) (b : Burst) : Foot fp38 s (State.commitBurst s b) := by
  have h : Foot fp38 s s := Foot.refl
  unfold State.commitBurst
  repeat' first
    | with_reducible assumption
    | with_reducible apply Foot.ite
    | ((with_reducible apply Foot.wr); (· rfl); (· first | exact Or.inr rfl))
    | ((with_reducible apply Foot.inc); (· rfl); (· first | exact Or.inr rfl))
    | ((with_reducible apply Foot.step (State.event_foot ..)); (· rfl))
    | ((with_reducible apply Foot.step (State.once_foot ..)); (· rfl))
    | ((with_reducible apply Foot.step (State.setTxq_foot ..)); (· rfl))
    | ((with_reducible apply Foot.step (State.charge_foot ..)); (· rfl))
    | ((with_reducible apply Foot.step (State.msgSent_foot ..)); (· rfl))
    | ((with_reducible apply Foot.step (State.sendBurst_foot ..)); (· rfl))
    | ((with_reducible apply Foot.foldl); (on_goal 1 => intro _ _ _))
    | (fail_if_no_progress extract_lets +onlyGivenNames x; first | refine Foot.keepHost x ?_ | refine Foot.keepMbx x ?_ | clear_value x)
    | fail_if_no_progress ((with_reducible apply Foot.setBursts); (· rfl))
    | fail_if_no_progress ((with_reducible apply Foot.setLed); (· rfl))
    | split

theorem State.endBurst_foot (s : State) (b : Burst) (cut : Bool) : Foot fp39 s (State.endBurst s b cut) := by
  have h : Foot fp39 s s := Foot.refl
  unfold State.endBurst
  repeat' first
    | with_reducible assumption
    | with_reducible apply Foot.ite
    | ((with_reducible apply Foot.step (State.spill_foot ..)); (· rfl))
    | ((with_reducible apply Foot.step (State.finish_foot ..)); (· rfl))
    | ((with_reducible apply Foot.foldl); (on_goal 1 => intro _ _ _))
    | (fail_if_no_progress extract_lets +onlyGivenNames x; first | refine Foot.keepHost x ?_ | refine Foot.keepMbx x ?_ | clear_value x)
    | fail_if_no_progress ((with_reducible apply Foot.setBursts); (· rfl))
    | fail_if_no_progress ((with_reducible apply Foot.setLed); (· rfl))
    | split

end Sys2Proof.Machine
end

