-- ==== Sys2Proof/Laws/FootUpstream.lean ====
section
/-! SUPPORT. What each operation of Machine/Upstream.lean can change (`Foot`). -/

namespace Sys2Proof.Machine

def fp40 : Nat := 0x12005cc000000000000000000001c0000000000000000000000000000000000000001c100000000000000000000000000000000000000000000000000000000000000000000000000000000000000210e020000000000000000000000000000000000000000000000000000000000000000000000000000000000000000000000
def fp41 : Nat := 0x400000000000000000000000000000000000000000000000000000000000000000000000000000000000000000000000000000000000000000000000000000000000000000000000000000000000018000000000000000000000000000000000000000000000000000000000000000000000000000000000000000000000
def fp42 : Nat := 0x12005cc000000000000000000001c0000000000000000000000000000000000000001c1000000000000000000000000000000000000000000000000000000000000000000000000000000000000002186038000000000000000000000000000000000000000000000000000000000000000000000000000000000000000000000
def fp43 : Nat := 0x12005cc000000000000000000001c0000000000000000000000000000000000000001c1000000000000000000000000000000000000000000000000000000000000000000000000000000000000002186038000000000000000010000000000000000000000000000000000000000000000000000000000000000000000000000
def fp44 : Nat := 0x12005cc000000000000000000001c0000000000000000000000000000000000000001c1000000000000000000000000000000000000000000000000000000000000000000000000000000000000002186038000000000000000010000000000000000000000000000000000000000000000000000000000000000000000001400
def fp45 : Nat := 0x10000000000000000000000000000000000000000000000000000000000000000000000000000
def fp46 : Nat := 0x1000000000000000000000000000000000000000000000000000000000000000000000000000000000000000000000000000000000000000000000000000000000000000000000000000000000000000000000003fff4000000000000000000000000000000000000000000000000000000000000000000000000000000
def fp47 : Nat := 0x1000401000000000000000000001c0000000000000000000000000000000000000001c100000000000000000000000000000000000000000000000000000000000000000000000000000000000000000000000000000003fff4000000000000000000000000000000000000000000000000000000000000000000000000001400
def fp48 : Nat := 0x4010000000000000000000000000000000000000000000000000000000000000000000000000000000000000000000000000000000000000000000000000000000000000000000000000000000000000000000000000004000000000000000000000000000000000000000000000000000000000000000000000000000000
def fp49 : Nat := 0x1000401000000000000000000001c0000000000000000000000000000000000000001c1000000000000000000000000000000000000000000000000000000000000000000000000000000000000000000000000000000000004000000000000000000000000000000000000000000000000000000000000000000000000001400
def fp50 : Nat := 0x440000000000000000000000000000000000000000000000000000000000080000000000000000200000000000000000000000000000000000000000000000000000000000000000000000000000004fff8000000000000200000000000000000000000000000000000000000000000000000000000000000000000000000
def fp51 : Nat := 0x1000440000000000000000000001c0000000000000000000000000000000000008001c100000000000200000000000000000000000000000000000000000000000000000000000000000000000000000004fff8000000000000200000000000000000000000000000000000000000000000000000000000000000000000001400
def fp52 : Nat := 0x1000400000000000000000000001c0000000000000000000000000000000000000001c1000000000000000000000000000000000000000000000000000000000000000000000000000000000000000400000000000000800000000000000000000000000000000000000000000000000000000000000000000000000000000000
def fp53 : Nat := 0x7fffffe080000000000000000000000000000000000000000000000000000000000000000000000000000000000
def fp54 : Nat := 0x7ffffff380000000000000000000000000000000000000000000000000000000000000000000000000000000000
def fp55 : Nat := 0x1000400000000000000000000001c0000000000000000000000000000000000000001c1000000000000000000000000000000000000000000000000000000000000000000000000000000000000000000000007ffffff380000000000000000000000000000000000000000000000000000000000000000000000000000001400

theorem State.refillAll_foot (s : State) : Foot fp23 s (State.refillAll s) := by
  have h : Foot fp23 s s := Foot.refl
  unfold State.refillAll
  repeat' first
    | with_reducible assumption
    | with_reducible apply Foot.ite
    | ((with_reducible apply Foot.step (State.setSlot_foot ..)); (· rfl))
    | ((with_reducible apply Foot.foldl); (on_goal 1 => intro _ _ _))
    | (fail_if_no_progress extract_lets +onlyGivenNames x; refine Foot.keepHost x ?_)
    | fail_if_no_progress ((with_reducible apply Foot.setHost); (· rfl); (· exact fun hb => ⟨hb.log, hb.errs, hb.fwQueue⟩))
    | split

theorem execTokenRefill_foot (s : State) (t' : State) (ht : execTokenRefill s = .next t') : Foot fp23 s t' := by
  have h : Foot fp23 s s := Foot.refl
  rw [← Host.Outcome.next.inj ht]
  repeat' first
    | with_reducible assumption
    | ((with_reducible apply Foot.inDom); (on_goal 1 => intro _ _))
    | ((with_reducible apply Foot.step (State.refillAll_foot ..)); (· rfl))

theorem execBurstBuild_foot (l : Leg) (u : Nat) (start : Nat) (mem : List (Nat × List Byte)) (failed : List (Nat × ReadFault)) (ecc : List Nat) (s : State) (t' : State) (ht : execBurstBuild l u start mem failed ecc s = .next t') : Foot fp37 s t' := by
  have h : Foot fp37 s s := Foot.refl
  rw [← Host.Outcome.next.inj ht]
  repeat' first
    | with_reducible assumption
    | ((with_reducible apply Foot.inDom); (on_goal 1 => intro _ _))
    | ((with_reducible apply Foot.step (State.build_foot ..)); (· rfl))
    | split

theorem State.buildDeadline_foot (s : State) (l : Leg) (u : Nat) (start : Nat) (finished : Nat) : Foot fp40 s (State.buildDeadline s l u start finished) := by
  have h : Foot fp40 s s := Foot.refl
  unfold State.buildDeadline
  repeat' first
    | with_reducible assumption
    | with_reducible apply Foot.ite
    | ((with_reducible apply Foot.inc); (· rfl); (· first | exact Or.inr rfl))
    | ((with_reducible apply Foot.step (State.once_foot ..)); (· rfl))
    | ((with_reducible apply Foot.step (State.restoreSnap_foot ..)); (· rfl))
    | ((with_reducible apply Foot.step (State.unplace_foot ..)); (· rfl))
    | ((with_reducible apply Foot.step (State.unwindSlot_foot ..)); (· rfl))
    | ((with_reducible apply Foot.step (State.unwindBurst_foot ..)); (· rfl))
    | ((with_reducible apply Foot.foldl); (on_goal 1 => intro _ _ _))
    | (fail_if_no_progress extract_lets +onlyGivenNames x; first | refine Foot.keepHost x ?_ | refine Foot.keepMbx x ?_ | clear_value x)
    | fail_if_no_progress ((with_reducible apply Foot.setBursts); (· rfl))
    | split

theorem execBuildDeadline_foot (l : Leg) (u : Nat) (start : Nat) (finished : Nat) (s : State) (t' : State) (ht : execBuildDeadline l u start finished s = .next t') : Foot fp40 s t' := by
  have h : Foot fp40 s s := Foot.refl
  rw [← Host.Outcome.next.inj ht]
  repeat' first
    | with_reducible assumption
    | ((with_reducible apply Foot.inDom); (on_goal 1 => intro _ _))
    | ((with_reducible apply Foot.step (State.buildDeadline_foot ..)); (· rfl))

theorem State.fallbackEnd_foot (s : State) (c : Nat) : Foot fp41 s (State.fallbackEnd s c) := by
  have h : Foot fp41 s s := Foot.refl
  unfold State.fallbackEnd
  repeat' first
    | with_reducible assumption
    | with_reducible apply Foot.ite
    | ((with_reducible apply Foot.wr); (· rfl); (· first | exact Or.inr rfl))
    | ((with_reducible apply Foot.step (State.setSlot_foot ..)); (· rfl))
    | (fail_if_no_progress extract_lets +onlyGivenNames x; first | (refine Foot.cut x ?_ (fun hx => ?_); (on_goal 1 => subst x); (on_goal 2 => clear_value x)) | (refine Foot.cut2 x ?_ (fun hx => ?_); (on_goal 1 => subst x); (on_goal 2 => clear_value x)) | refine Foot.keepHost x ?_ | refine Foot.keepMbx x ?_ | clear_value x)
    | split

theorem execFallbackEnd_foot (slot : Nat) (s : State) (t' : State) (ht : execFallbackEnd slot s = .next t') : Foot fp41 s t' := by
  have h : Foot fp41 s s := Foot.refl
  rw [← Host.Outcome.next.inj ht]
  repeat' first
    | with_reducible assumption
    | ((with_reducible apply Foot.step (State.fallbackEnd_foot ..)); (· rfl))

theorem State.schedReset_foot (s : State) : Foot fp42 s (State.schedReset s) := by
  have h : Foot fp42 s s := Foot.refl
  unfold State.schedReset
  repeat' first
    | with_reducible assumption
    | with_reducible apply Foot.ite
    | ((with_reducible apply Foot.step (State.setSlot_foot ..)); (· rfl))
    | ((with_reducible apply Foot.step (State.fallback_foot ..)); (· rfl))
    | ((with_reducible apply Foot.step (State.unwindAll_foot ..)); (· rfl))
    | ((with_reducible apply Foot.foldl); (on_goal 1 => intro _ _ _))
    | (fail_if_no_progress extract_lets +onlyGivenNames x; refine Foot.keepHost x ?_)
    | fail_if_no_progress ((with_reducible apply Foot.setHost); (· rfl); (· exact fun hb => ⟨hb.log, hb.errs, hb.fwQueue⟩))
    | split

theorem State.uschReset_foot (s : State) : Foot fp43 s (State.uschReset s) := by
  have h : Foot fp43 s s := Foot.refl
  unfold State.uschReset
  repeat' first
    | with_reducible assumption
    | with_reducible apply Foot.ite
    | ((with_reducible apply Foot.wr); (· rfl); (· first | exact Or.inr rfl))
    | ((with_reducible apply Foot.step (State.schedReset_foot ..)); (· rfl))
    | split

theorem execUschReset_foot (ag : Agent) (s : State) (t' : State) (ht : execUschReset ag s = .next t') : Foot fp44 s t' := by
  have h : Foot fp44 s s := Foot.refl
  rw [← Host.Outcome.next.inj ht]
  repeat' first
    | with_reducible assumption
    | ((with_reducible apply State.gated_foot); (· rfl); (on_goal 1 => intro _ _))
    | ((with_reducible apply Foot.step (State.uschReset_foot ..)); (· rfl))

theorem execUschResetDone_foot (s : State) (t' : State) (ht : execUschResetDone s = .next t') : Foot fp45 s t' := by
  have h : Foot fp45 s s := Foot.refl
  rw [← Host.Outcome.next.inj ht]
  repeat' first
    | with_reducible assumption
    | ((with_reducible apply Foot.wr); (· rfl); (· first | exact Or.inr rfl))

theorem State.queueRead_foot (s : State) (ag : Agent) : Foot fp46 s (State.queueRead s ag) := by
  have h : Foot fp46 s s := Foot.refl
  unfold State.queueRead
  repeat' first
    | with_reducible assumption
    | ((with_reducible apply Foot.wrA); (· rfl); (· rfl); (· first | exact Or.inr rfl))
    | (fail_if_no_progress extract_lets +onlyGivenNames x; first | (refine Foot.cut x ?_ (fun hx => ?_); (on_goal 1 => subst x); (on_goal 2 => clear_value x)) | (refine Foot.cut2 x ?_ (fun hx => ?_); (on_goal 1 => subst x); (on_goal 2 => clear_value x)) | refine Foot.keepHost x ?_ | refine Foot.keepMbx x ?_ | clear_value x)

theorem execQueueRead_foot (ag : Agent) (s : State) (t' : State) (ht : execQueueRead ag s = .next t') : Foot fp47 s t' := by
  have h : Foot fp47 s s := Foot.refl
  rw [← Host.Outcome.next.inj ht]
  repeat' first
    | with_reducible assumption
    | ((with_reducible apply State.gated_foot); (· rfl); (on_goal 1 => intro _ _))
    | ((with_reducible apply Foot.step (State.queueRead_foot ..)); (· rfl))

theorem State.queueWrite_foot (s : State) (ag : Agent) : Foot fp48 s (State.queueWrite s ag) := by
  have h : Foot fp48 s s := Foot.refl
  unfold State.queueWrite
  repeat' first
    | with_reducible assumption
    | with_reducible apply Foot.ite
    | ((with_reducible apply Foot.wrA); (· rfl); (· rfl); (· first | exact Or.inr rfl))
    | ((with_reducible apply Foot.step (State.setTxq_foot ..)); (· rfl))
    | (fail_if_no_progress extract_lets +onlyGivenNames x; first | (refine Foot.cut x ?_ (fun hx => ?_); (on_goal 1 => subst x); (on_goal 2 => clear_value x)) | (refine Foot.cut2 x ?_ (fun hx => ?_); (on_goal 1 => subst x); (on_goal 2 => clear_value x)) | refine Foot.keepHost x ?_ | refine Foot.keepMbx x ?_ | clear_value x)
    | split

theorem execQueueWrite_foot (ag : Agent) (s : State) (t' : State) (ht : execQueueWrite ag s = .next t') : Foot fp49 s t' := by
  have h : Foot fp49 s s := Foot.refl
  rw [← Host.Outcome.next.inj ht]
  repeat' first
    | with_reducible assumption
    | ((with_reducible apply State.gated_foot); (· rfl); (on_goal 1 => intro _ _))
    | ((with_reducible apply Foot.step (State.queueWrite_foot ..)); (· rfl))

theorem State.resetBuckets_foot (s : State) (ag : Agent) : Foot fp48 s (State.resetBuckets s ag) := by
  have h : Foot fp48 s s := Foot.refl
  unfold State.resetBuckets
  repeat' first
    | with_reducible assumption
    | with_reducible apply Foot.ite
    | ((with_reducible apply Foot.wrA); (· rfl); (· rfl); (· first | exact Or.inr rfl))
    | ((with_reducible apply Foot.step (State.setTxq_foot ..)); (· rfl))
    | (fail_if_no_progress extract_lets +onlyGivenNames x; first | (refine Foot.cut x ?_ (fun hx => ?_); (on_goal 1 => subst x); (on_goal 2 => clear_value x)) | (refine Foot.cut2 x ?_ (fun hx => ?_); (on_goal 1 => subst x); (on_goal 2 => clear_value x)) | refine Foot.keepHost x ?_ | refine Foot.keepMbx x ?_ | clear_value x)
    | split

theorem execResetBuckets_foot (ag : Agent) (s : State) (t' : State) (ht : execResetBuckets ag s = .next t') : Foot fp49 s t' := by
  have h : Foot fp49 s s := Foot.refl
  rw [← Host.Outcome.next.inj ht]
  repeat' first
    | with_reducible assumption
    | ((with_reducible apply State.gated_foot); (· rfl); (on_goal 1 => intro _ _))
    | ((with_reducible apply Foot.step (State.resetBuckets_foot ..)); (· rfl))

theorem ownerRefused_row {s : State} {c n : Nat} {r : Row} (h : s.ownerRefused c n = some r) :
    r = Reg.USCH_STATUS_WERR ∨ r = Reg.HIF_STATUS_WERR := by
  unfold State.ownerRefused at h
  split_ifs at h <;> cases h <;> simp

theorem State.slotWrite_foot (s : State) (c : Nat) (off : Nat) (v : Nat) : Foot fp50 s (State.slotWrite s c off v) := by
  have h : Foot fp50 s s := Foot.refl
  unfold State.slotWrite
  repeat' first
    | with_reducible assumption
    | (rename_i hr; rcases ownerRefused_row hr with rfl | rfl <;> exact Foot.wr rfl (Or.inr rfl) (by with_reducible assumption))
    | with_reducible apply Foot.ite
    | ((with_reducible apply Foot.wr); (· rfl); (· first | exact Or.inr rfl))
    | ((with_reducible apply Foot.step (State.setSlot_foot ..)); (· rfl))
    | ((with_reducible apply Foot.step (State.enterVtime_foot ..)); (· rfl))
    | (fail_if_no_progress extract_lets +onlyGivenNames x; first | (refine Foot.cut x ?_ (fun hx => ?_); (on_goal 1 => subst x); (on_goal 2 => clear_value x)) | refine Foot.keepHost x ?_ | refine Foot.keepMbx x ?_ | clear_value x)
    | split

theorem execContainerSlotWrite_foot (ag : Agent) (slot : Nat) (off : Nat) (v : BitVec 32) (s : State) (t' : State) (ht : execContainerSlotWrite ag slot off v s = .next t') : Foot fp51 s t' := by
  have h : Foot fp51 s s := Foot.refl
  rw [← Host.Outcome.next.inj ht]
  repeat' first
    | with_reducible assumption
    | ((with_reducible apply State.gated_foot); (· rfl); (on_goal 1 => intro _ _))
    | ((with_reducible apply Foot.step (State.slotWrite_foot ..)); (· rfl))

theorem State.auditFail_foot (s : State) (k : Nat) : Foot fp52 s (State.auditFail s k) := by
  have h : Foot fp52 s s := Foot.refl
  unfold State.auditFail
  repeat' first
    | with_reducible assumption
    | ((with_reducible apply Foot.inc); (· rfl); (· first | exact Or.inr rfl))
    | ((with_reducible apply State.setBit_foot); (· rfl); (· first | exact Or.inr rfl))
    | ((with_reducible apply Foot.step (State.event_foot ..)); (· rfl))

theorem State.auditCheck_foot (s : State) : Foot fp52 s (State.auditCheck s) := by
  have h : Foot fp52 s s := Foot.refl
  unfold State.auditCheck
  repeat' first
    | with_reducible assumption
    | ((with_reducible apply Foot.step (State.auditFail_foot ..)); (· rfl))
    | ((with_reducible apply Foot.foldl); (on_goal 1 => intro _ _ _))

theorem State.auditLatch_foot (s : State) : Foot fp53 s (State.auditLatch s) := by
  unfold State.auditLatch
  extract_lets b d e put
  simp only [List.foldl_cons, List.foldl_nil, put]
  repeat' first
    | exact Foot.refl
    | refine Foot.wr rfl (Or.inr rfl) ?_

theorem State.uschSnap_foot (s : State) (v : Nat) : Foot fp54 s (State.uschSnap s v) := by
  have h : Foot fp54 s s := Foot.refl
  unfold State.uschSnap
  repeat' first
    | with_reducible assumption
    | with_reducible apply Foot.ite
    | ((with_reducible apply Foot.wr); (· rfl); (· first | exact Or.inr rfl))
    | ((with_reducible apply Foot.inc); (· rfl); (· first | exact Or.inr rfl))
    | ((with_reducible apply Foot.step (State.auditLatch_foot ..)); (· rfl))
    | (fail_if_no_progress extract_lets +onlyGivenNames x; first | (refine Foot.cut x ?_ (fun hx => ?_); (on_goal 1 => subst x); (on_goal 2 => clear_value x)) | (refine Foot.cut2 x ?_ (fun hx => ?_); (on_goal 1 => subst x); (on_goal 2 => clear_value x)) | refine Foot.keepHost x ?_ | refine Foot.keepMbx x ?_ | clear_value x)
    | split

theorem execUschAuditSnap_foot (ag : Agent) (v : BitVec 32) (s : State) (t' : State) (ht : execUschAuditSnap ag v s = .next t') : Foot fp55 s t' := by
  have h : Foot fp55 s s := Foot.refl
  rw [← Host.Outcome.next.inj ht]
  repeat' first
    | with_reducible assumption
    | ((with_reducible apply State.gated_foot); (· rfl); (on_goal 1 => intro _ _))
    | ((with_reducible apply Foot.step (State.uschSnap_foot ..)); (· rfl))

end Sys2Proof.Machine
end

