-- ==== Sys2Proof/Laws/FootHostRings.lean ====
section
/-! SUPPORT. What each operation of Machine/HostRings.lean can change (`Foot`). -/

namespace Sys2Proof.Machine

def fp56 : Nat := 0x60000000000000000000a000a0110084000000000000000000000000000000000000000000000000000000000000000000000000000000000000000000000000000000000000000000000000000000000000000000000000000000000000000000000000000000
def fp57 : Nat := 0x1020400000000000000000000001c0000000000000000000000000000000000000001c1000000000000000000000000000000000000000000000000000000000000000000000000000000000000000000000000000000000000000000000000000000000000000000000000000000000000000000000000000000000000000000
def fp58 : Nat := 0x1020400000000000000000000001c0000000000000000000100000000000000000001c1000000000000000000000000000000000000000000000000000000000000000000000000000000000000000000000000000000000000000000000000000000000000000000000000000000000000000000000000000000000000000000
def fp59 : Nat := 0x1000400000000000000000000001c0000000000000000000000000000080008000001c1000000000000000000000000000000000000000000000000000000000000000000000000000000000000000000000000000000000000000000000000000000000000000000000000000000000000000000000000000000000000000000
def fp60 : Nat := 0x1020400000000000000000000001c0000000000000000000181800000040000000001c3000300600300000000000000000000000000000000000000000000000000000000000000000000000000000000000000000000000000000000000000000000000000000000000000000000000000000000000000000000000000001400
def fp61 : Nat := 0x1020400000000000000000000001c00000000000000000001818000000c0008000001c3000300600300000000000000000000000000000000000000000000000000000000000000000000000000000000000000000000000000000000000000000000000000000000000000000000000000000000000000000000000000001400
def fp62 : Nat := 0x1000400000000000000000000001c0000000000000000000000600000000008000001c1a000a0110084000000000000000000000000000000000000000000000000000000000000000000000000000000000000000000000000000000000000000000000000000000000000000000000000000000000000000000000000000000
def fp63 : Nat := 0x1000400000000000000000000001c0000000000000000000000000000000000000001c1000000000000000000000000000000000000000000000000000000000000000000000000000000000000000000000000000000000000000000200000000000000000000000000000000000000000000000000000000000000000000000
def fp64 : Nat := 0x1000400000000000000000000001c0000000000000000000000000000100000000001c1000000000800000000000000000000000000000000000000000000000000000000000000000000000000000000000000000000000000000000200000000000000000000000000000000000000000000000000000000000000000000000
def fp65 : Nat := 0x1000400000000000000000000001c0000000000000000000000600000100008000001c1a000a1110084000000000000000000000000000000000000000000000000000000000000000000000000000000000000000000000000000000000000000000000000000000000000000000000000000000000000000000000000000000
def fp66 : Nat := 0x4000000000000000000000000000000000000000000000000000010000000000000000001000000000000000000000000000000000000000000000000000000000000000000000000000000000000000000000000000000000000000000000000000000000000000000000000000000000000000000000000000000000000
def fp67 : Nat := 0x1000400000000000000000000001c0000000000000000000000600000100008000001c1a000a1110884000000000000000000000000000000000000000000000000000000000000000000000000000000000000000000000000000000200000000000000000000000000000000000000000000000000000000000000000000000
def fp68 : Nat := 0x1000400000000000000000000001c0000000000000000000000600003000008000001c1a000a0110084000000000000000000000000000000000000000000000000000000000000000000000000000000000000000000000000000000000000000000000000000000000000000000000000000000000000000000000000000000
def fp69 : Nat := 0x1000400000000000000000000001c0000000000000000000000000004000000000001c1000000000000000000000000000000000000000000000000000000000000000000000000000000000000000000000000000000000000000000000000000000000000000000000000000000000000000000000000000000000000000000
def fp70 : Nat := 0x1000400000000000000000000001c0000000000000000000000600007100008000001c1a000a1110884000000000000000000000000000000000000000000000000000000000000000000000000000000000000000000000000000000200000000000000000000000000000000000000000000000000000000000000000000000
def fp71 : Nat := 0x12005cc000000000000000000001c0000000000000000000000000000000000000001c1000000000010000000000000000000000000000000000000000000000000000000000000000000000000002106020000000000000000000000000000000000000000000000000000000000000000000000000000000000000000000000
def fp72 : Nat := 0x1000400000000000000000000001c0000000000000000000000000000000000000001c1000000000012000000000000000000000000000000000000000000000000000000000000000000000000000000000000000000000000000000000000000000000000000000000000000000000000000000000000000000000000000000
def fp73 : Nat := 0x2040000000000000000000000000000000000000000000191f0000000000000000043b043b1718b86000000000000000000000000000000000000000000000000000000000000000000000000000000000000000000000000000000000000000000000000000000000000000000000000000000000000000000000000000000
def fp74 : Nat := 0x4000000000000000000000000000000000000000000000000000000000000000000000001008000000000000000000000000000000000000000000000000000000000000000000000000000000000000000000000000000000000000000000000000000000000000000000000000000000000000000000000000000000000
def fp75 : Nat := 0x12005cc000000000000000000001c0000000000000000000010100000000000008001c1100011008010000000000000000000000000000000000000000000000000000000000000000000000000002106020000000000000000000000000000000000000000000000000000000000000000000000000000000000000000000000
def fp76 : Nat := 0x8080000000000000000004800480a4041000000000000000000000000000000000000000000000000000000000000000000000000000000000000000000000000000000000000000000000000000000000000000000000000000000000000000000000000000000
def fp77 : Nat := 0x12205cc000000000000000000001c00000000000000000001f9f80000000000008001c3f843f97bcbd7000000000000000000000000000000000000000000000000000000000000000000000000002106020000000000000000000000000000000000000000000000000000000000000000000000000000000000000000000000
def fp78 : Nat := 0xe0000000000000000000000000000000000000000000000000000000000000000000000000000000000000000000000000000000000000000000000000000000000000000000000000000000000000000000000000000000000000000000000000000000
def fp79 : Nat := 0x1400a00000000000000000000000000000000000000000000000000000000000000000000000000000000000000000000000000000000000000000000000000000000000000000000000000000000000000000000000000000000
def fp80 : Nat := 0x1000400000000000000000000001c0000000000000000000000000000e00000000001c1014101400a00000000000000000000000000000000000000000000000000000000000000000000000000000000000000000000000000000000000000000000000000000000000000000000000000000000000000000000000000000000
def fp81 : Nat := 0x10004000000000000000000000000000000000000000000000000000000000000000000000000000000000000000000000000000000000000000000000000000000000000000000000000000000000000000000000000000000000000000000000000000000000000000000000000000000000000000000000000000000000000
def fp82 : Nat := 0x1000000000000000000000000000000000000000000000000000000001b000000000000000000000000000000000000000000000000000000000000000000000000000000000000000000000000000000000000000000000000000000000000000000000000000000000000000000000000000000000000000000000000
def fp83 : Nat := 0x1000400000000000000000000001c0000000000000000000000000040000001000001c1000000000000000000000000000000000000000000000000000000000000000000000000000000000000000000000000000000000000000000000000000000000000000000000000000000000000000000000000000000000000000000
def fp84 : Nat := 0x3fff000000000000000000000000000000000000000000000000000000000000000000000000000000000000000000000000000000000000000000000000000000000000000000000000000000000000000000000000000000000000000000000000000
def fp85 : Nat := 0x3fff040000000000000000000000000000000000000000000000000000000000000000000000000000000000000000000000000000000000000000000000000000000000000000000000000000000000000000000000000000000000000000000000000
def fp86 : Nat := 0x10004000000000000000000000001000000000000000000000000000000000000000000000000000000000000000000000000000000000000000000000000000000000000000000000000000000000000000000000000000000000000000000000000000000000000000000000000000000000000000000000000000000000000
def fp87 : Nat := 0x10004000000000000000000000000000000000000000000000000000000000200000000000000000000000000000000000000000000000000000000000000000000000000000000000000000000000000000000000000000000000000000000000000000000000000000000000000000000000000000000000000000000000000

theorem State.setRingErr_foot (s : State) (kind : RingKind) (ring : Nat) (on : Nat) (status : Nat) :
    Foot fp56 s (State.setRingErr s kind ring on status) := by
  unfold State.setRingErr
  cases kind <;> first
    | exact Foot.refl
    | (refine Foot.wr ?_ (Or.inr ?_) (Foot.wr ?_ (Or.inr ?_) Foot.refl) <;> rfl)

theorem State.setRxr_foot (s : State) (r : Nat) (f : RxR → RxR) : Foot fp4 s (State.setRxr s r f) := by
  have h : Foot fp4 s s := Foot.refl
  unfold State.setRxr
  repeat' first
    | with_reducible assumption
    | (fail_if_no_progress extract_lets +onlyGivenNames x; refine Foot.keepHost x ?_)
    | fail_if_no_progress ((with_reducible apply Foot.setHost); (· rfl); (· exact fun hb => ⟨hb.log, hb.errs, hb.fwQueue⟩))

theorem State.admCqFull_foot (s : State) : Foot fp57 s (State.admCqFull s) := by
  have h : Foot fp57 s s := Foot.refl
  unfold State.admCqFull
  repeat' first
    | with_reducible assumption
    | with_reducible apply Foot.ite
    | ((with_reducible apply Foot.step (State.pfEvent_foot ..)); (· rfl))
    | (fail_if_no_progress extract_lets +onlyGivenNames x; first | refine Foot.keepHost x ?_ | refine Foot.keepMbx x ?_ | clear_value x)
    | fail_if_no_progress ((with_reducible apply Foot.setAdm); (· rfl))
    | split

theorem State.admFlush_foot (n : Nat) (s : State) : Foot fp58 s (State.admFlush n s) := by
  induction n generalizing s with
  | zero => exact Foot.refl
  | succ k ih =>
    have h : Foot fp58 s s := Foot.refl
    unfold State.admFlush
    split
    · exact h
    · rename_i e r he
      extract_lets +onlyGivenNames prod sz phase addr entry x y
      refine Foot.ite h (Foot.ite (Foot.step (State.admCqFull_foot ..) rfl h) (Foot.step (ih ..) rfl (Foot.setAdm rfl ?_)))
      have hx : Foot fp58 s x := Foot.wr rfl (Or.inr rfl) (Foot.step (State.emit_foot ..) rfl h)
      exact Foot.ite (Foot.step (State.msix_foot ..) rfl hx) hx

theorem State.admPush_foot (s : State) (entry : List Byte) : Foot fp58 s (State.admPush s entry) := by
  have h : Foot fp58 s s := Foot.refl
  unfold State.admPush
  repeat' first
    | with_reducible assumption
    | ((with_reducible apply Foot.step (State.admFlush_foot ..)); (· rfl))
    | (fail_if_no_progress extract_lets +onlyGivenNames x; first | refine Foot.keepHost x ?_ | refine Foot.keepMbx x ?_ | clear_value x)
    | fail_if_no_progress ((with_reducible apply Foot.setAdm); (· rfl))

theorem State.dbDiscard_foot (s : State) (f : Nat) (ring : Nat) (k : Nat) (v : Nat) : Foot fp59 s (State.dbDiscard s f ring k v) := by
  have h : Foot fp59 s s := Foot.refl
  unfold State.dbDiscard
  repeat' first
    | with_reducible assumption
    | ((with_reducible apply Foot.inc); (· rfl); (· first | exact Or.inr rfl))
    | ((with_reducible apply Foot.step (State.hostEvent_foot ..)); (· rfl))
    | ((with_reducible apply Foot.step (State.errLog_foot ..)); (· rfl))

theorem State.dbAccept_foot (s : State) (kind : RingKind) (ring : Nat) (new : Nat) : Foot fp60 s (State.dbAccept s kind ring new) := by
  unfold State.dbAccept
  refine Foot.step (State.idleExit_foot ..) rfl ?_
  cases kind
  case tx => exact Foot.step (State.setTxq_foot ..) rfl (Foot.wr rfl (Or.inr rfl) (Foot.inc rfl (Or.inr rfl) Foot.refl))
  case rx => exact Foot.step (State.setRxr_foot ..) rfl (Foot.wr rfl (Or.inr rfl) (Foot.inc rfl (Or.inr rfl) Foot.refl))
  case acq => exact Foot.step (State.admFlush_foot ..) rfl (Foot.wr rfl (Or.inr rfl) (Foot.inc rfl (Or.inr rfl) Foot.refl))
  all_goals exact Foot.wr rfl (Or.inr rfl) (Foot.inc rfl (Or.inr rfl) Foot.refl)

theorem State.doorbell_foot (s : State) (f : Nat) (kind : RingKind) (k : Nat) (v : Nat) (width : Nat) (hi : Bool) : Foot fp61 s (State.doorbell s f kind k v width hi) := by
  have h : Foot fp61 s s := Foot.refl
  unfold State.doorbell
  repeat' first
    | with_reducible assumption
    | with_reducible apply Foot.ite
    | ((with_reducible apply Foot.step (State.dbDiscard_foot ..)); (· rfl))
    | ((with_reducible apply Foot.step (State.dbAccept_foot ..)); (· rfl))
    | split

theorem State.fcTake_foot (s : State) (ph : Nat) (pd : Nat) (nph : Nat) (npd : Nat) : Foot fp4 s (State.fcTake s ph pd nph npd) := by
  have h : Foot fp4 s s := Foot.refl
  unfold State.fcTake
  repeat' first
    | with_reducible assumption
    | (fail_if_no_progress extract_lets +onlyGivenNames x; first | refine Foot.keepHost x ?_ | refine Foot.keepMbx x ?_ | clear_value x)
    | fail_if_no_progress ((with_reducible apply Foot.setHost); (· rfl); (· exact fun hb => ⟨hb.log, hb.errs, hb.fwQueue⟩))

theorem execDoorbell_foot (f : Nat) (kind : RingKind) (k : Nat) (v : BitVec 64) (width : Nat) (hi : Bool) (s : State) (t' : State) (ht : execDoorbell f kind k v width hi s = .next t') : Foot fp61 s t' := by
  have h : Foot fp61 s s := Foot.refl
  rw [← Host.Outcome.next.inj ht]
  repeat' first
    | with_reducible assumption
    | with_reducible apply Foot.ite
    | ((with_reducible apply Foot.inDom); (on_goal 1 => intro _ _))
    | ((with_reducible apply Foot.step (State.emit_foot ..)); (· rfl))
    | ((with_reducible apply Foot.step (State.doorbell_foot ..)); (· rfl))
    | ((with_reducible apply Foot.step (State.fcTake_foot ..)); (· rfl))
    | (fail_if_no_progress extract_lets +onlyGivenNames x; first | (refine Foot.cut x ?_ (fun hx => ?_); (on_goal 1 => subst x); (on_goal 2 => clear_value x)) | (refine Foot.cut2 x ?_ (fun hx => ?_); (on_goal 1 => subst x); (on_goal 2 => clear_value x)) | refine Foot.keepHost x ?_ | refine Foot.keepMbx x ?_ | clear_value x)
    | split

theorem State.ringFail_foot (s : State) (kind : RingKind) (ring : Nat) (status : Nat) : Foot fp62 s (State.ringFail s kind ring status) := by
  have h : Foot fp62 s s := Foot.refl
  unfold State.ringFail
  repeat' first
    | with_reducible assumption
    | ((with_reducible apply Foot.step (State.hostEvent_foot ..)); (· rfl))
    | ((with_reducible apply Foot.step (State.errLog_foot ..)); (· rfl))
    | ((with_reducible apply Foot.step (State.setRingErr_foot ..)); (· rfl))
    | (fail_if_no_progress extract_lets +onlyGivenNames x; first | (refine Foot.cut x ?_ (fun hx => ?_); (on_goal 1 => subst x); (on_goal 2 => clear_value x)) | (refine Foot.cut2 x ?_ (fun hx => ?_); (on_goal 1 => subst x); (on_goal 2 => clear_value x)) | refine Foot.keepHost x ?_ | refine Foot.keepMbx x ?_ | clear_value x)

theorem State.addFrame_foot (s : State) (q : Nat) (f : TxFrame) : Foot fp4 s (State.addFrame s q f) := by
  have h : Foot fp4 s s := Foot.refl
  unfold State.addFrame
  repeat' first
    | with_reducible assumption
    | with_reducible apply Foot.ite
    | ((with_reducible apply Foot.step (State.setTxq_foot ..)); (· rfl))
    | ((with_reducible apply Foot.step (State.newHead_foot ..)); (· rfl))
    | ((with_reducible apply Foot.step (State.complete_foot ..)); (· rfl))
    | (fail_if_no_progress extract_lets +onlyGivenNames x; first | (refine Foot.cut x ?_ (fun hx => ?_); (on_goal 1 => subst x); (on_goal 2 => clear_value x)) | (refine Foot.cut2 x ?_ (fun hx => ?_); (on_goal 1 => subst x); (on_goal 2 => clear_value x)) | refine Foot.keepHost x ?_ | refine Foot.keepMbx x ?_ | clear_value x)
    | split

theorem State.chainInvalid_foot (s : State) (q : Nat) (ds : List Desc) : Foot fp8 s (State.chainInvalid s q ds) := by
  have h : Foot fp8 s s := Foot.refl
  unfold State.chainInvalid
  repeat' first
    | with_reducible assumption
    | ((with_reducible apply Foot.step (State.hostEvent_foot ..)); (· rfl))
    | ((with_reducible apply Foot.step (State.addFrame_foot ..)); (· rfl))
    | (fail_if_no_progress extract_lets +onlyGivenNames x; first | refine Foot.keepHost x ?_ | refine Foot.keepMbx x ?_ | clear_value x)
    | split

theorem State.chainWhole_foot (s : State) (q : Nat) (ds : List Desc) : Foot fp63 s (State.chainWhole s q ds) := by
  have h : Foot fp63 s s := Foot.refl
  unfold State.chainWhole
  repeat' first
    | with_reducible assumption
    | with_reducible apply Foot.ite
    | ((with_reducible apply Foot.inc); (· rfl); (· first | exact Or.inr rfl))
    | ((with_reducible apply Foot.step (State.addFrame_foot ..)); (· rfl))
    | ((with_reducible apply Foot.step (State.chainInvalid_foot ..)); (· rfl))
    | (fail_if_no_progress extract_lets +onlyGivenNames x; first | refine Foot.keepHost x ?_ | refine Foot.keepMbx x ?_ | clear_value x)
    | split

theorem State.txDesc_foot (s : State) (q : Nat) (b : List Byte) : Foot fp64 s (State.txDesc s q b) := by
  have h : Foot fp64 s s := Foot.refl
  unfold State.txDesc
  repeat' first
    | with_reducible assumption
    | with_reducible apply Foot.ite
    | ((with_reducible apply Foot.inc); (· rfl); (· first | exact Or.inr rfl))
    | ((with_reducible apply Foot.step (State.setTxq_foot ..)); (· rfl))
    | ((with_reducible apply Foot.step (State.chainInvalid_foot ..)); (· rfl))
    | ((with_reducible apply Foot.step (State.chainWhole_foot ..)); (· rfl))
    | (fail_if_no_progress extract_lets +onlyGivenNames x; first | refine Foot.keepHost x ?_ | refine Foot.keepMbx x ?_ | clear_value x)
    | split

theorem State.rxPost_foot (s : State) (r : Nat) (b : List Byte) : Foot fp65 s (State.rxPost s r b) := by
  have h : Foot fp65 s s := Foot.refl
  unfold State.rxPost
  repeat' first
    | with_reducible assumption
    | with_reducible apply Foot.ite
    | ((with_reducible apply Foot.inc); (· rfl); (· first | exact Or.inr rfl))
    | ((with_reducible apply Foot.step (State.setRxr_foot ..)); (· rfl))
    | ((with_reducible apply Foot.step (State.ringFail_foot ..)); (· rfl))
    | (fail_if_no_progress extract_lets +onlyGivenNames x; first | (refine Foot.cut x ?_ (fun hx => ?_); (on_goal 1 => subst x); (on_goal 2 => clear_value x)) | (refine Foot.cut2 x ?_ (fun hx => ?_); (on_goal 1 => subst x); (on_goal 2 => clear_value x)) | refine Foot.keepHost x ?_ | refine Foot.keepMbx x ?_ | clear_value x)
    | split

theorem State.rxRequest_foot (s : State) (r : Nat) (b : List Byte) : Foot fp66 s (State.rxRequest s r b) := by
  have h : Foot fp66 s s := Foot.refl
  unfold State.rxRequest
  repeat' first
    | with_reducible assumption
    | ((with_reducible apply Foot.inc); (· rfl); (· first | exact Or.inr rfl))
    | ((with_reducible apply Foot.step (State.setRxr_foot ..)); (· rfl))
    | (fail_if_no_progress extract_lets +onlyGivenNames x; first | (refine Foot.cut x ?_ (fun hx => ?_); (on_goal 1 => subst x); (on_goal 2 => clear_value x)) | (refine Foot.cut2 x ?_ (fun hx => ?_); (on_goal 1 => subst x); (on_goal 2 => clear_value x)) | refine Foot.keepHost x ?_ | refine Foot.keepMbx x ?_ | clear_value x)

theorem State.fetched_foot (s : State) (kind : RingKind) (ring : Nat) (b : List Byte) : Foot fp67 s (State.fetched s kind ring b) := by
  have h : Foot fp67 s s := Foot.refl
  unfold State.fetched
  repeat' first
    | with_reducible assumption
    | with_reducible apply Foot.ite
    | ((with_reducible apply Foot.inc); (· rfl); (· first | exact Or.inr rfl))
    | ((with_reducible apply Foot.step (State.txDesc_foot ..)); (· rfl))
    | ((with_reducible apply Foot.step (State.rxPost_foot ..)); (· rfl))
    | ((with_reducible apply Foot.step (State.rxRequest_foot ..)); (· rfl))
    | split

theorem State.descriptorFetch_foot (s : State) (kind : RingKind) (ring : Nat) (data : Option (List Byte)) :
    Foot fp67 s (State.descriptorFetch s kind ring data) := by
  have h : Foot fp67 s s := Foot.refl
  unfold State.descriptorFetch
  split
  · exact h
  · extract_lets +onlyGivenNames R tag addr t
    have ht : Foot fp67 s t := Foot.step (State.emit_foot ..) rfl h
    clear_value R addr tag t
    refine Foot.ite h ?_
    split
    · exact Foot.step (State.fetched_foot ..) rfl ht
    · exact Foot.setHost rfl (fun hb => ⟨hb.log, hb.errs, hb.fwQueue⟩) ht

theorem execDescriptorFetch_foot (kind : RingKind) (ring : Nat) (data : Option (List Byte)) (s : State) (t' : State) (ht : execDescriptorFetch kind ring data s = .next t') : Foot fp67 s t' := by
  have h : Foot fp67 s s := Foot.refl
  rw [← Host.Outcome.next.inj ht]
  repeat' first
    | with_reducible assumption
    | ((with_reducible apply Foot.inDom); (on_goal 1 => intro _ _))
    | ((with_reducible apply Foot.step (State.descriptorFetch_foot ..)); (· rfl))

theorem State.closeRead_foot (s : State) (tag : Nat) : Foot fp4 s (State.closeRead s tag) := by
  have h : Foot fp4 s s := Foot.refl
  unfold State.closeRead
  repeat' first
    | with_reducible assumption
    | (fail_if_no_progress extract_lets +onlyGivenNames x; refine Foot.keepHost x ?_)
    | fail_if_no_progress ((with_reducible apply Foot.setHost); (· rfl); (· exact fun hb => ⟨hb.log, hb.errs, hb.fwQueue⟩))

theorem State.readFail_foot (s : State) (r : Read) (why : ReadFault) : Foot fp68 s (State.readFail s r why) := by
  have h : Foot fp68 s s := Foot.refl
  unfold State.readFail
  repeat' first
    | with_reducible assumption
    | ((with_reducible apply Foot.step (State.readFault_foot ..)); (· rfl))
    | ((with_reducible apply Foot.step (State.ringFail_foot ..)); (· rfl))
    | ((with_reducible apply Foot.step (State.closeRead_foot ..)); (· rfl))
    | (fail_if_no_progress extract_lets +onlyGivenNames x; first | (refine Foot.cut x ?_ (fun hx => ?_); (on_goal 1 => subst x); (on_goal 2 => clear_value x)) | (refine Foot.cut2 x ?_ (fun hx => ?_); (on_goal 1 => subst x); (on_goal 2 => clear_value x)) | refine Foot.keepHost x ?_ | refine Foot.keepMbx x ?_ | clear_value x)

theorem State.unexpectedCpl_foot (s : State) : Foot fp69 s (State.unexpectedCpl s) := by
  have h : Foot fp69 s s := Foot.refl
  unfold State.unexpectedCpl
  repeat' first
    | with_reducible assumption
    | ((with_reducible apply Foot.inc); (· rfl); (· first | exact Or.inr rfl))
    | ((with_reducible apply Foot.step (State.aerReport_foot ..)); (· rfl))

theorem State.readCompletion_foot (s : State) (tag : Nat) (mine : Bool) (b : List Byte) (lenOk : Bool) (good : Bool) : Foot fp70 s (State.readCompletion s tag mine b lenOk good) := by
  have h : Foot fp70 s s := Foot.refl
  unfold State.readCompletion
  repeat' first
    | with_reducible assumption
    | with_reducible apply Foot.ite
    | ((with_reducible apply Foot.step (State.fetched_foot ..)); (· rfl))
    | ((with_reducible apply Foot.step (State.closeRead_foot ..)); (· rfl))
    | ((with_reducible apply Foot.step (State.readFail_foot ..)); (· rfl))
    | ((with_reducible apply Foot.step (State.unexpectedCpl_foot ..)); (· rfl))
    | split

theorem execHostReadCompletion_foot (tag : Nat) (mine : Bool) (bytes : List Byte) (lenOk : Bool) (good : Bool) (s : State) (t' : State) (ht : execHostReadCompletion tag mine bytes lenOk good s = .next t') : Foot fp70 s t' := by
  have h : Foot fp70 s s := Foot.refl
  rw [← Host.Outcome.next.inj ht]
  repeat' first
    | with_reducible assumption
    | ((with_reducible apply Foot.inDom); (on_goal 1 => intro _ _))
    | ((with_reducible apply Foot.step (State.readCompletion_foot ..)); (· rfl))

theorem State.readTimeout_foot (s : State) (tag : Nat) : Foot fp68 s (State.readTimeout s tag) := by
  have h : Foot fp68 s s := Foot.refl
  unfold State.readTimeout
  repeat' first
    | with_reducible assumption
    | ((with_reducible apply Foot.step (State.readFail_foot ..)); (· rfl))
    | split

theorem execCompletionTimeout_foot (tag : Nat) (s : State) (t' : State) (ht : execCompletionTimeout tag s = .next t') : Foot fp68 s t' := by
  have h : Foot fp68 s s := Foot.refl
  rw [← Host.Outcome.next.inj ht]
  repeat' first
    | with_reducible assumption
    | ((with_reducible apply Foot.inDom); (on_goal 1 => intro _ _))
    | ((with_reducible apply Foot.step (State.readTimeout_foot ..)); (· rfl))

theorem State.flushStart_foot (s : State) (q : Nat) (disable : Bool) : Foot fp71 s (State.flushStart s q disable) := by
  have h : Foot fp71 s s := Foot.refl
  unfold State.flushStart
  repeat' first
    | with_reducible assumption
    | with_reducible apply Foot.ite
    | ((with_reducible apply Foot.wr); (· rfl); (· first | exact Or.inr rfl))
    | ((with_reducible apply Foot.step (State.setTxq_foot ..)); (· rfl))
    | ((with_reducible apply Foot.step (State.finish_foot ..)); (· rfl))
    | ((with_reducible apply Foot.step (State.unwindWhere_foot ..)); (· rfl))
    | ((with_reducible apply Foot.foldl); (on_goal 1 => intro _ _ _))
    | (fail_if_no_progress extract_lets +onlyGivenNames x; first | (refine Foot.cut x ?_ (fun hx => ?_); (on_goal 1 => subst x); (on_goal 2 => clear_value x)) | (refine Foot.cut2 x ?_ (fun hx => ?_); (on_goal 1 => subst x); (on_goal 2 => clear_value x)) | refine Foot.keepHost x ?_ | refine Foot.keepMbx x ?_ | clear_value x)
    | split

theorem execFlush_foot (ag : Agent) (q : Nat) (s : State) (t' : State) (ht : execFlush ag q s = .next t') : Foot fp71 s t' := by
  have h : Foot fp71 s s := Foot.refl
  rw [← Host.Outcome.next.inj ht]
  repeat' first
    | with_reducible assumption
    | with_reducible apply Foot.ite
    | ((with_reducible apply Foot.via); (on_goal 1 => intro _ _))
    | ((with_reducible apply Foot.step (State.flushStart_foot ..)); (· rfl))
    | split

theorem State.flushEnd_foot (s : State) (q : Nat) : Foot fp72 s (State.flushEnd s q) := by
  have h : Foot fp72 s s := Foot.refl
  unfold State.flushEnd
  repeat' first
    | with_reducible assumption
    | with_reducible apply Foot.ite
    | ((with_reducible apply Foot.wr); (· rfl); (· first | exact Or.inr rfl))
    | ((with_reducible apply Foot.step (State.hostEvent_foot ..)); (· rfl))
    | ((with_reducible apply Foot.step (State.setTxq_foot ..)); (· rfl))
    | ((with_reducible apply Foot.step (State.addFrame_foot ..)); (· rfl))
    | (fail_if_no_progress extract_lets +onlyGivenNames x; first | refine Foot.keepHost x ?_ | refine Foot.keepMbx x ?_ | clear_value x)
    | split

theorem execFlushDone_foot (q : Nat) (s : State) (t' : State) (ht : execFlushDone q s = .next t') : Foot fp72 s t' := by
  have h : Foot fp72 s s := Foot.refl
  rw [← Host.Outcome.next.inj ht]
  repeat' first
    | with_reducible assumption
    | ((with_reducible apply Foot.inDom); (on_goal 1 => intro _ _))
    | ((with_reducible apply Foot.step (State.flushEnd_foot ..)); (· rfl))

theorem State.dropReads_foot (s : State) (kind : Nat) (ring : Nat) : Foot fp4 s (State.dropReads s kind ring) := by
  have h : Foot fp4 s s := Foot.refl
  unfold State.dropReads
  repeat' first
    | with_reducible assumption
    | (fail_if_no_progress extract_lets +onlyGivenNames x; refine Foot.keepHost x ?_)
    | fail_if_no_progress ((with_reducible apply Foot.setHost); (· rfl); (· exact fun hb => ⟨hb.log, hb.errs, hb.fwQueue⟩))

theorem State.dropPass_foot (s : State) (kind : RingKind) (ring : Nat) : Foot fp4 s (State.dropPass s kind ring) := by
  have h : Foot fp4 s s := Foot.refl
  unfold State.dropPass
  repeat' first
    | with_reducible assumption
    | with_reducible apply Foot.ite
    | (fail_if_no_progress extract_lets +onlyGivenNames x; first | refine Foot.keepHost x ?_ | refine Foot.keepMbx x ?_ | clear_value x)
    | fail_if_no_progress ((with_reducible apply Foot.setHost); (· rfl); (· exact fun hb => ⟨hb.log, hb.errs, hb.fwQueue⟩))
    | split

theorem State.ringStart_foot (s : State) (kind : RingKind) (ring : Nat) : Foot fp73 s (State.ringStart s kind ring) := by
  have h : Foot fp73 s s := Foot.refl
  unfold State.ringStart
  refine Foot.ite (Foot.step (State.setRingErr_foot ..) rfl h) ?_
  extract_lets +onlyGivenNames R x
  have hx : Foot fp73 s x := by
    cases kind <;> refine Foot.wr ?_ (Or.inr ?_) (Foot.wr ?_ (Or.inr ?_) (Foot.wr ?_ (Or.inr ?_)
      (Foot.step (State.setRingErr_foot ..) ?_ h))) <;> first | rfl | decide
  clear_value x
  split
  · exact Foot.step (State.setTxq_foot ..) rfl (Foot.step (State.dropPass_foot ..) rfl (Foot.step (State.dropReads_foot ..) rfl
      (Foot.wr rfl (Or.inr rfl) hx)))
  · exact Foot.step (State.setRxr_foot ..) rfl (Foot.step (State.dropPass_foot ..) rfl (Foot.step (State.dropReads_foot ..) rfl
      (Foot.wr rfl (Or.inr rfl) hx)))
  · exact Foot.step (State.setCq_foot ..) rfl (Foot.wr rfl (Or.inr rfl) hx)
  · exact Foot.step (State.setEq_foot ..) rfl (Foot.wr rfl (Or.inr rfl) hx)
  · exact Foot.step (State.dropReads_foot ..) rfl hx
  · exact Foot.setAdm rfl hx

theorem State.rxDrop_foot (s : State) (r : Nat) : Foot fp74 s (State.rxDrop s r) := by
  have h : Foot fp74 s s := Foot.refl
  unfold State.rxDrop
  repeat' first
    | with_reducible assumption
    | with_reducible apply Foot.ite
    | ((with_reducible apply Foot.wr); (· rfl); (· first | exact Or.inr rfl))
    | ((with_reducible apply Foot.step (State.setRxr_foot ..)); (· rfl))
    | ((with_reducible apply Foot.step (State.dropReads_foot ..)); (· rfl))
    | (fail_if_no_progress extract_lets +onlyGivenNames x; first | (refine Foot.cut x ?_ (fun hx => ?_); (on_goal 1 => subst x); (on_goal 2 => clear_value x)) | (refine Foot.cut2 x ?_ (fun hx => ?_); (on_goal 1 => subst x); (on_goal 2 => clear_value x)) | refine Foot.keepHost x ?_ | refine Foot.keepMbx x ?_ | clear_value x)
    | split

theorem State.ringStop_foot (s : State) (kind : RingKind) (ring : Nat) : Foot fp75 s (State.ringStop s kind ring) := by
  have h : Foot fp75 s s := Foot.refl
  unfold State.ringStop
  repeat' first
    | with_reducible assumption
    | with_reducible apply Foot.ite
    | ((with_reducible apply Foot.wr); (· rfl); (· first | exact Or.inr rfl))
    | ((with_reducible apply Foot.step (State.flushStart_foot ..)); (· rfl))
    | ((with_reducible apply Foot.step (State.rxDrop_foot ..)); (· rfl))
    | split

theorem State.ctlFields_foot (s : State) (ag : Agent) (kind : RingKind) (ring : Nat) (v : Nat) :
    Foot fp76 s (State.ctlFields s ag kind ring v) := by
  unfold State.ctlFields
  extract_lets +onlyGivenNames x y
  have hx : Foot fp76 s x := by cases kind <;> refine Foot.wr ?_ (Or.inr ?_) Foot.refl <;> rfl
  have hy : Foot fp76 s y := Foot.ite (Foot.wr rfl (Or.inr rfl) hx) hx
  split
  · rename_i r a o he
    unfold ownerAsked at he
    split at he
    · cases he
    · cases kind <;> first
        | (cases he; exact Foot.wr rfl (Or.inr rfl) hy)
        | cases he
  · exact hy

theorem State.ringCtl_foot (s : State) (ag : Agent) (kind : RingKind) (ring : Nat) (v : Nat) : Foot fp77 s (State.ringCtl s ag kind ring v) := by
  have h : Foot fp77 s s := Foot.refl
  unfold State.ringCtl
  repeat' first
    | with_reducible assumption
    | with_reducible apply Foot.ite
    | ((with_reducible apply Foot.wr); (· rfl); (· first | exact Or.inr rfl))
    | ((with_reducible apply Foot.step (State.flushStart_foot ..)); (· rfl))
    | ((with_reducible apply Foot.step (State.ringStart_foot ..)); (· rfl))
    | ((with_reducible apply Foot.step (State.ringStop_foot ..)); (· rfl))
    | ((with_reducible apply Foot.step (State.ctlFields_foot ..)); (· rfl))
    | (fail_if_no_progress extract_lets +onlyGivenNames x; first | (refine Foot.cut x ?_ (fun hx => ?_); (on_goal 1 => subst x); (on_goal 2 => clear_value x)) | (refine Foot.cut2 x ?_ (fun hx => ?_); (on_goal 1 => subst x); (on_goal 2 => clear_value x)) | refine Foot.keepHost x ?_ | refine Foot.keepMbx x ?_ | clear_value x)
    | split

theorem execRingEnable_foot (ag : Agent) (kind : RingKind) (ring : Nat) (v : BitVec 32) (s : State) (t' : State) (ht : execRingEnable ag kind ring v s = .next t') : Foot fp77 s t' := by
  have h : Foot fp77 s s := Foot.refl
  rw [← Host.Outcome.next.inj ht]
  repeat' first
    | with_reducible assumption
    | ((with_reducible apply Foot.via); (on_goal 1 => intro _ _))
    | ((with_reducible apply Foot.step (State.ringCtl_foot ..)); (· rfl))

theorem execRingDisable_foot (ag : Agent) (kind : RingKind) (ring : Nat) (v : BitVec 32) (s : State) (t' : State) (ht : execRingDisable ag kind ring v s = .next t') : Foot fp77 s t' := by
  have h : Foot fp77 s s := Foot.refl
  rw [← Host.Outcome.next.inj ht]
  repeat' first
    | with_reducible assumption
    | ((with_reducible apply Foot.via); (on_goal 1 => intro _ _))
    | ((with_reducible apply Foot.step (State.ringCtl_foot ..)); (· rfl))

theorem State.raiseCqFull_foot (s : State) (c : Nat) : Foot fp8 s (State.raiseCqFull s c) := by
  have h : Foot fp8 s s := Foot.refl
  unfold State.raiseCqFull
  repeat' first
    | with_reducible assumption
    | with_reducible apply Foot.ite
    | ((with_reducible apply Foot.step (State.hostEvent_foot ..)); (· rfl))
    | ((with_reducible apply Foot.step (State.setCq_foot ..)); (· rfl))
    | (fail_if_no_progress extract_lets +onlyGivenNames x; first | (refine Foot.cut x ?_ (fun hx => ?_); (on_goal 1 => subst x); (on_goal 2 => clear_value x)) | (refine Foot.cut2 x ?_ (fun hx => ?_); (on_goal 1 => subst x); (on_goal 2 => clear_value x)) | refine Foot.keepHost x ?_ | refine Foot.keepMbx x ?_ | clear_value x)
    | split

theorem State.countCpl_foot (s : State) (e : List Byte) : Foot fp78 s (State.countCpl s e) := by
  have h : Foot fp78 s s := Foot.refl
  unfold State.countCpl
  repeat' first
    | with_reducible assumption
    | ((with_reducible apply Foot.inc); (· rfl); (· first | exact Or.inr rfl))
    | split

theorem State.passCons_foot (s : State) (x : Option (RingKind × Nat × Nat)) : Foot fp79 s (State.passCons s x) := by
  have h : Foot fp79 s s := Foot.refl
  rcases x with _ | ⟨k, q, n⟩
  · exact h
  · cases k <;> exact Foot.dec rfl (Or.inr rfl) (Foot.wr rfl (Or.inr rfl) h)

theorem State.cqWrite_foot (s : State) (c : Nat) : Foot fp80 s (State.cqWrite s c) := by
  have h : Foot fp80 s s := Foot.refl
  unfold State.cqWrite
  repeat' first
    | with_reducible assumption
    | with_reducible apply Foot.ite
    | ((with_reducible apply Foot.wr); (· rfl); (· first | exact Or.inr rfl))
    | ((with_reducible apply Foot.inc); (· rfl); (· first | exact Or.inr rfl))
    | ((with_reducible apply Foot.step (State.emit_foot ..)); (· rfl))
    | ((with_reducible apply Foot.step (State.msix_foot ..)); (· rfl))
    | ((with_reducible apply Foot.step (State.setCq_foot ..)); (· rfl))
    | ((with_reducible apply Foot.step (State.raiseCqFull_foot ..)); (· rfl))
    | ((with_reducible apply Foot.step (State.countCpl_foot ..)); (· rfl))
    | ((with_reducible apply Foot.step (State.passCons_foot ..)); (· rfl))
    | (fail_if_no_progress extract_lets +onlyGivenNames x; first | refine Foot.keepHost x ?_ | refine Foot.keepMbx x ?_ | clear_value x)
    | split

theorem execCompletionWrite_foot (cq : Nat) (s : State) (t' : State) (ht : execCompletionWrite cq s = .next t') : Foot fp80 s t' := by
  have h : Foot fp80 s s := Foot.refl
  rw [← Host.Outcome.next.inj ht]
  repeat' first
    | with_reducible assumption
    | ((with_reducible apply Foot.inDom); (on_goal 1 => intro _ _))
    | ((with_reducible apply Foot.step (State.cqWrite_foot ..)); (· rfl))

theorem State.moderation_foot (s : State) (kind : RingKind) (ring : Nat) : Foot fp81 s (State.moderation s kind ring) := by
  have h : Foot fp81 s s := Foot.refl
  unfold State.moderation
  repeat' first
    | with_reducible assumption
    | with_reducible apply Foot.ite
    | ((with_reducible apply Foot.step (State.msix_foot ..)); (· rfl))
    | ((with_reducible apply Foot.step (State.setEq_foot ..)); (· rfl))
    | ((with_reducible apply Foot.step (State.setCq_foot ..)); (· rfl))
    | split

theorem execMsixModerationTimer_foot (kind : RingKind) (ring : Nat) (s : State) (t' : State) (ht : execMsixModerationTimer kind ring s = .next t') : Foot fp81 s t' := by
  have h : Foot fp81 s s := Foot.refl
  rw [← Host.Outcome.next.inj ht]
  repeat' first
    | with_reducible assumption
    | ((with_reducible apply Foot.inDom); (on_goal 1 => intro _ _))
    | ((with_reducible apply Foot.step (State.moderation_foot ..)); (· rfl))

theorem State.replayCopy_foot (s : State) (ag : Agent) (v : Nat) : Foot fp82 s (State.replayCopy s ag v) := by
  have h : Foot fp82 s s := Foot.refl
  unfold State.replayCopy
  repeat' first
    | with_reducible assumption
    | ((with_reducible apply Foot.wrA); (· rfl); (· rfl); (· first | exact Or.inr rfl))
    | ((with_reducible apply Foot.foldl); (on_goal 1 => intro _ _ _))
    | (fail_if_no_progress extract_lets +onlyGivenNames x; first | (refine Foot.cut x ?_ (fun hx => ?_); (on_goal 1 => subst x); (on_goal 2 => clear_value x)) | refine Foot.keepHost x ?_ | refine Foot.keepMbx x ?_ | clear_value x)
    | split

theorem execReplay_foot (ag : Agent) (v : BitVec 32) (s : State) (t' : State) (ht : execReplay ag v s = .next t') : Foot fp82 s t' := by
  have h : Foot fp82 s s := Foot.refl
  rw [← Host.Outcome.next.inj ht]
  repeat' first
    | with_reducible assumption
    | ((with_reducible apply Foot.reg); (on_goal 1 => intro _ _))
    | ((with_reducible apply Foot.step (State.replayCopy_foot ..)); (· rfl))

theorem State.hifFail_foot (s : State) (k : Nat) : Foot fp83 s (State.hifFail s k) := by
  have h : Foot fp83 s s := Foot.refl
  unfold State.hifFail
  repeat' first
    | with_reducible assumption
    | with_reducible apply Foot.ite
    | ((with_reducible apply Foot.inc); (· rfl); (· first | exact Or.inr rfl))
    | ((with_reducible apply State.setBit_foot); (· rfl); (· first | exact Or.inr rfl))
    | ((with_reducible apply Foot.step (State.pfEvent_foot ..)); (· rfl))
    | (fail_if_no_progress extract_lets +onlyGivenNames x; first | (refine Foot.cut x ?_ (fun hx => ?_); (on_goal 1 => subst x); (on_goal 2 => clear_value x)) | (refine Foot.cut2 x ?_ (fun hx => ?_); (on_goal 1 => subst x); (on_goal 2 => clear_value x)) | refine Foot.keepHost x ?_ | refine Foot.keepMbx x ?_ | clear_value x)
    | split

theorem State.hifCheck_foot (s : State) : Foot fp83 s (State.hifCheck s) := by
  have h : Foot fp83 s s := Foot.refl
  unfold State.hifCheck
  repeat' first
    | with_reducible assumption
    | ((with_reducible apply Foot.step (State.hifFail_foot ..)); (· rfl))
    | ((with_reducible apply Foot.foldl); (on_goal 1 => intro _ _ _))
    | split

theorem execHifAuditCheck_foot (s : State) (t' : State) (ht : execHifAuditCheck s = .next t') : Foot fp83 s t' := by
  have h : Foot fp83 s s := Foot.refl
  rw [← Host.Outcome.next.inj ht]
  repeat' first
    | with_reducible assumption
    | ((with_reducible apply Foot.inDom); (on_goal 1 => intro _ _))
    | ((with_reducible apply Foot.step (State.hifCheck_foot ..)); (· rfl))
    | split

theorem State.hifLatch_foot (s : State) : Foot fp84 s (State.hifLatch s) := by
  have h : Foot fp84 s s := Foot.refl
  unfold State.hifLatch
  repeat' first
    | with_reducible assumption
    | ((with_reducible apply Foot.wr); (· rfl); (· first | exact Or.inr rfl))
    | ((with_reducible apply Foot.foldl); (on_goal 1 => intro _ _ _))
    | (fail_if_no_progress extract_lets +onlyGivenNames x; first | (refine Foot.cut x ?_ (fun hx => ?_); (on_goal 1 => subst x); (on_goal 2 => clear_value x)) | (refine Foot.cut2 x ?_ (fun hx => ?_); (on_goal 1 => subst x); (on_goal 2 => clear_value x)) | refine Foot.keepHost x ?_ | refine Foot.keepMbx x ?_ | clear_value x)
    | split

theorem State.hifSnap_foot (s : State) (v : Nat) : Foot fp85 s (State.hifSnap s v) := by
  have h : Foot fp85 s s := Foot.refl
  unfold State.hifSnap
  repeat' first
    | with_reducible assumption
    | with_reducible apply Foot.ite
    | ((with_reducible apply Foot.wr); (· rfl); (· first | exact Or.inr rfl))
    | ((with_reducible apply Foot.step (State.hifLatch_foot ..)); (· rfl))
    | (fail_if_no_progress extract_lets +onlyGivenNames x; first | (refine Foot.cut x ?_ (fun hx => ?_); (on_goal 1 => subst x); (on_goal 2 => clear_value x)) | (refine Foot.cut2 x ?_ (fun hx => ?_); (on_goal 1 => subst x); (on_goal 2 => clear_value x)) | refine Foot.keepHost x ?_ | refine Foot.keepMbx x ?_ | clear_value x)
    | split

theorem execHifAuditSnap_foot (ag : Agent) (v : BitVec 32) (s : State) (t' : State) (ht : execHifAuditSnap ag v s = .next t') : Foot fp85 s t' := by
  have h : Foot fp85 s s := Foot.refl
  rw [← Host.Outcome.next.inj ht]
  repeat' first
    | with_reducible assumption
    | ((with_reducible apply Foot.reg); (on_goal 1 => intro _ _))
    | ((with_reducible apply Foot.step (State.hifSnap_foot ..)); (· rfl))
    | split

theorem State.logPop_foot (s : State) : Foot fp86 s (State.logPop s) := by
  unfold State.logPop
  split
  · exact Foot.step (State.emit_foot ..) rfl (Foot.wr rfl (Or.inr rfl) Foot.refl)
  · rename_i r he
    refine Foot.step (State.emit_foot ..) rfl ?_
    iterate 4 refine Foot.wr rfl (Or.inr rfl) ?_
    refine Foot.setHost rfl (fun hb => ⟨?_, hb.errs, hb.fwQueue⟩) Foot.refl
    have := hb.log
    rw [he] at this
    exact Nat.le_of_succ_le this

theorem execEvtLogPop_foot (ag : Agent) (s : State) (t' : State) (ht : execEvtLogPop ag s = .next t') : Foot fp86 s t' := by
  have h : Foot fp86 s s := Foot.refl
  rw [← Host.Outcome.next.inj ht]
  repeat' first
    | with_reducible assumption
    | ((with_reducible apply Foot.reg); (on_goal 1 => intro _ _))
    | ((with_reducible apply Foot.step (State.logPop_foot ..)); (· rfl))

theorem State.errPopOf_foot (s : State) (f : Nat) : Foot fp87 s (State.errPopOf s f) := by
  have h : Foot fp87 s s := Foot.refl
  unfold State.errPopOf
  extract_lets l words hh x
  have hx : Foot fp87 s x := by
    refine Foot.setHost rfl (fun hb => ⟨hb.log, bounded_errs hb f ?_, hb.fwQueue⟩) h
    have := bounded_get hb f
    exact le_trans (by rw [List.length_drop]; exact Nat.sub_le ..) this
  clear_value x
  refine Foot.step (State.emit_foot ..) rfl (Foot.ite (Foot.foldl (fun z p hz => Foot.wr rfl (Or.inr rfl) hz) hx) ?_)
  exact Foot.setHost rfl (fun hb => ⟨hb.log, hb.errs, hb.fwQueue⟩) hx

theorem execErrlogPop_foot (f : Nat) (s : State) (t' : State) (ht : execErrlogPop f s = .next t') : Foot fp87 s t' := by
  have h : Foot fp87 s s := Foot.refl
  rw [← Host.Outcome.next.inj ht]
  repeat' first
    | with_reducible assumption
    | ((with_reducible apply Foot.inDom); (on_goal 1 => intro _ _))
    | ((with_reducible apply Foot.step (State.errPopOf_foot ..)); (· rfl))

end Sys2Proof.Machine
end

