-- ==== Sys2Proof/Laws/FootMailbox.lean ====
section
/-! SUPPORT. What each operation of Machine/Mailbox.lean can change (`Foot`). -/

namespace Sys2Proof.Machine

def fp88 : Nat := 0x100000000000000000000000000000000000000000000000000000000000000000000000000000000000000000000000000000000000000000000000000000000000000000000000000000000000000000000000000000000000000000000000000000000000000000000000000000000000000000000000000000000000000
def fp89 : Nat := 0x1010400000000000000000000001c0000000000000000000000000800000000000001c1000000000000000000000000000000000000000000000000000000000000000000000000000000000000000000000000000000000000000000000000000000000000000000000000000000000000000000000000000000000000000000
def fp90 : Nat := 0x1010400000000000000000000001c0000000000000000000000000e00000000000001c1000000000000000000000000000000000000000000000000000000000000000000000000000000000000000000000000000000000000000000000000000000000000000000000000000000000000000000000000000000000000000000
def fp91 : Nat := 0x10100000000000000000000000000000000000000000000000000000000000000000000000000000000000000000000000000000000000000000000000000000000000000000000000000000000000000000000000000000000000000000000000000000000000000000000000000000000000000000000000000000000000000
def fp92 : Nat := 0x10100000000000000000000000000000000000000000000000000100000000000000000000000000000000000000000000000000000000000000000000000000000000000000000000000000000000000000000000000000000000000000000000000000000000000000000000000000000000000000000000000000000000000
def fp93 : Nat := 0x1010400000000000000000000001c0000000000000000000000018800000000000001c1000000000000000000000000000000000000000000000000000000000000000000000000000000000000000000000000000000000000000000000000000000000000000000000000000000000000000000000000000000000000000000
def fp94 : Nat := 0x100000000000000000000000000000000000000000000000000400000000000000000000000000000000000000000000000000000000000000000000000000000000000000000000000000000000000000000000000000000000000000000000000000000000000000000000000000000000000000000000000000000000000
def fp95 : Nat := 0x1010400000000000000000000001c0000000000000000000000004003000008000001c1000000000000000000000000000000000000000000000000000000000000000000000000000000000000000000000000000000000000000000000000000000000000000000000000000000000000000000000000000000000000000000
def fp96 : Nat := 0x1010400000000000000000000001c000000000000000000000001c803000008000001c1000000000000000000000000000000000000000000000000000000000000000000000000000000000000000000000000000000000000000000000000000000000000000000000000000000000000000000000000000000000000000000
def fp97 : Nat := 0x10100000000000000000000000000000000000000000000000000200000000000000000000000000000000000000000000000000000000000000000000000000000000000000000000000000000000000000000000000000000000000000000000000000000000000000000000000000000000000000000000000000000000000
def fp98 : Nat := 0x1010400000000000000000000001c000000000000000000000001e803000008000001c1000000000000000000000000000000000000000000000000000000000000000000000000000000000000000000000000000000000000000000000000000000000000000000000000000000000000000000000000000000000000000000
def fp99 : Nat := 0x18000000000000000000000000000000000000000000000000000000000000000000000000000000000000000000000000000000000000000000000000000000000000000000000000000000000000000000000000000000000000000000000000000000000

theorem State.setBox_foot (s : State) (n : Nat) (f : Mbox → Mbox) : Foot fp88 s (State.setBox s n f) := by
  have h : Foot fp88 s s := Foot.refl
  unfold State.setBox
  repeat' first
    | with_reducible assumption
    | (fail_if_no_progress extract_lets +onlyGivenNames x; first | refine Foot.keepHost x ?_ | refine Foot.keepMbx x ?_)
    | fail_if_no_progress ((with_reducible apply Foot.setMbx); (· rfl); (· exact fun hb => hb))

theorem State.setView_foot (s : State) (ag : Agent) (f : View → View) : Foot fp88 s (State.setView s ag f) := by
  have h : Foot fp88 s s := Foot.refl
  unfold State.setView
  repeat' first
    | with_reducible assumption
    | (fail_if_no_progress extract_lets +onlyGivenNames x; first | refine Foot.keepHost x ?_ | refine Foot.keepMbx x ?_)
    | fail_if_no_progress ((with_reducible apply Foot.setMbx); (· rfl); (· exact fun hb => hb))

theorem State.withAlert_foot {m : Nat} {s t : State} (u : State) (hm : fp3 ||| m = m) (h : Foot m s t) :
    Foot m s (State.withAlert u t) := by
  unfold State.withAlert
  exact Foot.ite h (Foot.step (State.emit_foot ..) hm h)

theorem State.mbxPut_foot (s : State) (n : Nat) (mx : Mbox) : Foot fp89 s (State.mbxPut s n mx) := by
  have h : Foot fp89 s s := Foot.refl
  unfold State.mbxPut
  repeat' first
    | with_reducible assumption
    | with_reducible apply Foot.ite
    | ((with_reducible apply Foot.inc); (· rfl); (· first | exact Or.inr rfl))
    | ((with_reducible apply Foot.step (State.raiseFor_foot ..)); (· rfl))
    | ((with_reducible apply Foot.step (State.setBox_foot ..)); (· rfl))
    | (fail_if_no_progress extract_lets +onlyGivenNames x; first | (refine Foot.cut x ?_ (fun hx => ?_); (on_goal 1 => subst x); (on_goal 2 => clear_value x)) | (refine Foot.cut2 x ?_ (fun hx => ?_); (on_goal 1 => subst x); (on_goal 2 => clear_value x)) | refine Foot.keepHost x ?_ | refine Foot.keepMbx x ?_ | clear_value x)
    | split

theorem State.mbxSend_foot (s : State) (ag : Agent) (n : Nat) (ptr : Nat) (len : Nat) (space : Nat) (rsvd : Nat) : Foot fp90 s (State.mbxSend s ag n ptr len space rsvd) := by
  have h : Foot fp90 s s := Foot.refl
  unfold State.mbxSend
  repeat' first
    | with_reducible assumption
    | with_reducible apply Foot.ite
    | ((with_reducible apply Foot.inc); (· rfl); (· first | exact Or.inr rfl))
    | ((with_reducible apply Foot.step (State.setView_foot ..)); (· rfl))
    | ((with_reducible apply State.withAlert_foot); (· rfl))
    | ((with_reducible apply Foot.step (State.mbxPut_foot ..)); (· rfl))
    | (fail_if_no_progress extract_lets +onlyGivenNames x; first | (refine Foot.cut x ?_ (fun hx => ?_); (on_goal 1 => subst x); (on_goal 2 => clear_value x)) | (refine Foot.cut2 x ?_ (fun hx => ?_); (on_goal 1 => subst x); (on_goal 2 => clear_value x)) | refine Foot.keepHost x ?_ | refine Foot.keepMbx x ?_ | clear_value x)
    | split

theorem execMbxSend_foot (ag : Agent) (v : BitVec 32) (s : State) (t' : State) (ht : execMbxSend ag v s = .next t') : Foot fp90 s t' := by
  have h : Foot fp90 s s := Foot.refl
  rw [← Host.Outcome.next.inj ht]
  repeat' first
    | with_reducible assumption
    | ((with_reducible apply Foot.via); (on_goal 1 => intro _ _))
    | ((with_reducible apply Foot.step (State.mbxSend_foot ..)); (· rfl))
    | (fail_if_no_progress extract_lets +onlyGivenNames x; first | (refine Foot.cut x ?_ (fun hx => ?_); (on_goal 1 => subst x); (on_goal 2 => clear_value x)) | (refine Foot.cut2 x ?_ (fun hx => ?_); (on_goal 1 => subst x); (on_goal 2 => clear_value x)) | refine Foot.keepHost x ?_ | refine Foot.keepMbx x ?_ | clear_value x)

theorem State.mbxLatch_foot (s : State) (ag : Agent) (n : Nat) : Foot fp88 s (State.mbxLatch s ag n).2 := by
  have h : Foot fp88 s s := Foot.refl
  unfold State.mbxLatch
  repeat' first
    | with_reducible assumption
    | with_reducible apply Foot.ite
    | with_reducible apply Foot.ite2
    | ((with_reducible apply Foot.step (State.setView_foot ..)); (· rfl))
    | (fail_if_no_progress extract_lets +onlyGivenNames x; first | (refine Foot.cut x ?_ (fun hx => ?_); (on_goal 1 => subst x); (on_goal 2 => clear_value x)) | (refine Foot.cut2 x ?_ (fun hx => ?_); (on_goal 1 => subst x); (on_goal 2 => clear_value x)) | refine Foot.keepHost x ?_ | refine Foot.keepMbx x ?_ | clear_value x)
    | split

theorem execMbxStatusRead_foot (ag : Agent) (n : Nat) (s t' : State) (ht : execMbxStatusRead ag n s = .next t') : Foot fp91 s t' := by
  rw [← Host.Outcome.next.inj ht]
  refine Foot.via (fun x hx => ?_) Foot.refl
  split
  rename_i w u he
  exact Foot.step (State.emit_foot ..) rfl (Foot.step (Foot.ofPair he (State.mbxLatch_foot ..)) rfl hx)

theorem State.mbxAck_foot (s : State) (ag : Agent) (n : Nat) (seq : Nat) : Foot fp92 s (State.mbxAck s ag n seq).2 := by
  have h : Foot fp92 s s := Foot.refl
  unfold State.mbxAck
  repeat' first
    | with_reducible assumption
    | with_reducible apply Foot.ite
    | with_reducible apply Foot.ite2
    | ((with_reducible apply Foot.inc); (· rfl); (· first | exact Or.inr rfl))
    | ((with_reducible apply Foot.step (State.setBox_foot ..)); (· rfl))
    | ((with_reducible apply State.withAlert_foot); (· rfl))
    | (fail_if_no_progress extract_lets +onlyGivenNames x; first | (refine Foot.cut x ?_ (fun hx => ?_); (on_goal 1 => subst x); (on_goal 2 => clear_value x)) | (refine Foot.cut2 x ?_ (fun hx => ?_); (on_goal 1 => subst x); (on_goal 2 => clear_value x)) | refine Foot.keepHost x ?_ | refine Foot.keepMbx x ?_ | clear_value x)
    | split

theorem execMbxAck_foot (ag : Agent) (n : Nat) (seq : Nat) (s : State) (t' : State) (ht : execMbxAck ag n seq s = .next t') : Foot fp92 s t' := by
  have h : Foot fp92 s s := Foot.refl
  rw [← Host.Outcome.next.inj ht]
  repeat' first
    | with_reducible assumption
    | ((with_reducible apply Foot.via); (on_goal 1 => intro _ _))
    | ((with_reducible apply Foot.step (State.mbxAck_foot ..)); (· rfl))

theorem State.notice_foot (s : State) (n : Nat) (mx : Mbox) (status : Nat) : Foot fp93 s (State.notice s n mx status) := by
  have h : Foot fp93 s s := Foot.refl
  unfold State.notice
  repeat' first
    | with_reducible assumption
    | ((with_reducible apply Foot.inc); (· rfl); (· first | exact Or.inr rfl))
    | ((with_reducible apply State.withAlert_foot); (· rfl))
    | ((with_reducible apply Foot.step (State.mbxPut_foot ..)); (· rfl))
    | split

theorem State.fetchFail_foot (s : State) (ag : Agent) (status : Nat) : Foot fp94 s (State.fetchFail s ag status) := by
  have h : Foot fp94 s s := Foot.refl
  unfold State.fetchFail
  repeat' first
    | with_reducible assumption
    | ((with_reducible apply Foot.inc); (· rfl); (· first | exact Or.inr rfl))
    | ((with_reducible apply Foot.step (State.setView_foot ..)); (· rfl))

theorem State.fetchLost_foot (s : State) (ag : Agent) (n : Nat) : Foot fp95 s (State.fetchLost s ag n) := by
  have h : Foot fp95 s s := Foot.refl
  unfold State.fetchLost
  repeat' first
    | with_reducible assumption
    | ((with_reducible apply Foot.step (State.readFault_foot ..)); (· rfl))
    | ((with_reducible apply Foot.step (State.fetchFail_foot ..)); (· rfl))

theorem State.mbxFetch_foot (s : State) (ag : Agent) (x : Nat) : Foot fp96 s (State.mbxFetch s ag x) := by
  have h : Foot fp96 s s := Foot.refl
  unfold State.mbxFetch
  repeat' first
    | with_reducible assumption
    | with_reducible apply Foot.ite
    | ((with_reducible apply Foot.step (State.askHost_foot ..)); (· rfl))
    | ((with_reducible apply Foot.step (State.setView_foot ..)); (· rfl))
    | ((with_reducible apply Foot.step (State.notice_foot ..)); (· rfl))
    | ((with_reducible apply Foot.step (State.fetchFail_foot ..)); (· rfl))
    | ((with_reducible apply Foot.step (State.fetchLost_foot ..)); (· rfl))
    | (fail_if_no_progress extract_lets +onlyGivenNames x; first | refine Foot.keepHost x ?_ | refine Foot.keepMbx x ?_ | clear_value x)
    | split

theorem execMbxFetch_foot (ag : Agent) (v : BitVec 32) (s : State) (t' : State) (ht : execMbxFetch ag v s = .next t') : Foot fp96 s t' := by
  have h : Foot fp96 s s := Foot.refl
  rw [← Host.Outcome.next.inj ht]
  repeat' first
    | with_reducible assumption
    | ((with_reducible apply Foot.via); (on_goal 1 => intro _ _))
    | ((with_reducible apply Foot.step (State.mbxFetch_foot ..)); (· rfl))

theorem State.swWrite_foot (s : State) (off : Nat) (l : List Byte) : Foot fp88 s (State.swWrite s off l) := by
  induction l generalizing s off with
  | nil => exact Foot.refl
  | cons b r ih =>
    exact Foot.step (ih ..) rfl (Foot.setMbx rfl (fun hb => Tab.wf_put _ _ _ _ hb) Foot.refl)

theorem State.fetchOk_foot (s : State) (ag : Agent) (mx : Mbox) (data : List Byte) : Foot fp97 s (State.fetchOk s ag mx data) := by
  have h : Foot fp97 s s := Foot.refl
  unfold State.fetchOk
  repeat' first
    | with_reducible assumption
    | with_reducible apply Foot.ite
    | ((with_reducible apply Foot.inc); (· rfl); (· first | exact Or.inr rfl))
    | ((with_reducible apply Foot.step (State.emit_foot ..)); (· rfl))
    | ((with_reducible apply Foot.step (State.emits_foot ..)); (· rfl))
    | ((with_reducible apply Foot.step (State.setView_foot ..)); (· rfl))
    | ((with_reducible apply Foot.step (State.swWrite_foot ..)); (· rfl))
    | (fail_if_no_progress extract_lets +onlyGivenNames x; first | refine Foot.keepHost x ?_ | refine Foot.keepMbx x ?_ | clear_value x)
    | split

theorem State.fetchDone_foot (s : State) (ag : Agent) (r : HostRead) : Foot fp98 s (State.fetchDone s ag r) := by
  have h : Foot fp98 s s := Foot.refl
  unfold State.fetchDone
  repeat' first
    | with_reducible assumption
    | with_reducible apply Foot.ite
    | ((with_reducible apply Foot.step (State.readFault_foot ..)); (· rfl))
    | ((with_reducible apply Foot.step (State.notice_foot ..)); (· rfl))
    | ((with_reducible apply Foot.step (State.fetchFail_foot ..)); (· rfl))
    | ((with_reducible apply Foot.step (State.fetchLost_foot ..)); (· rfl))
    | ((with_reducible apply Foot.step (State.fetchOk_foot ..)); (· rfl))
    | (fail_if_no_progress extract_lets +onlyGivenNames x; first | refine Foot.keepHost x ?_ | refine Foot.keepMbx x ?_ | clear_value x)
    | split

theorem execMbxFetchDone_foot (ag : Agent) (result : HostRead) (s : State) (t' : State) (ht : execMbxFetchDone ag result s = .next t') : Foot fp98 s t' := by
  have h : Foot fp98 s s := Foot.refl
  rw [← Host.Outcome.next.inj ht]
  repeat' first
    | with_reducible assumption
    | ((with_reducible apply Foot.step (State.fetchDone_foot ..)); (· rfl))

theorem State.swAccess_foot (s : State) (ag : Agent) (write : Bool) (x : Nat) : Foot fp91 s (State.swAccess s ag write x) := by
  have h : Foot fp91 s s := Foot.refl
  unfold State.swAccess
  repeat' first
    | with_reducible assumption
    | with_reducible apply Foot.ite
    | ((with_reducible apply Foot.step (State.emit_foot ..)); (· rfl))
    | ((with_reducible apply Foot.step (State.setView_foot ..)); (· rfl))
    | ((with_reducible apply Foot.step (State.swWrite_foot ..)); (· rfl))
    | (fail_if_no_progress extract_lets +onlyGivenNames x; first | (refine Foot.cut x ?_ (fun hx => ?_); (on_goal 1 => subst x); (on_goal 2 => clear_value x)) | (refine Foot.cut2 x ?_ (fun hx => ?_); (on_goal 1 => subst x); (on_goal 2 => clear_value x)) | refine Foot.keepHost x ?_ | refine Foot.keepMbx x ?_ | clear_value x)
    | split

theorem execMbxSwAccess_foot (ag : Agent) (write : Bool) (v : BitVec 32) (s : State) (t' : State) (ht : execMbxSwAccess ag write v s = .next t') : Foot fp91 s t' := by
  have h : Foot fp91 s s := Foot.refl
  rw [← Host.Outcome.next.inj ht]
  repeat' first
    | with_reducible assumption
    | ((with_reducible apply Foot.via); (on_goal 1 => intro _ _))
    | ((with_reducible apply Foot.step (State.swAccess_foot ..)); (· rfl))

theorem State.mbxOwnWrite_foot (s : State) (n : Nat) (o : Nat) : Foot fp99 s (State.mbxOwnWrite s n o) := by
  have h : Foot fp99 s s := Foot.refl
  unfold State.mbxOwnWrite
  repeat' first
    | with_reducible assumption
    | with_reducible apply Foot.ite
    | ((with_reducible apply Foot.wr); (· rfl); (· first | exact Or.inr rfl))
    | split

theorem execMbxOwnerWrite_foot (ag : Agent) (n : Nat) (owner : Nat) (s : State) (t' : State) (ht : execMbxOwnerWrite ag n owner s = .next t') : Foot fp99 s t' := by
  have h : Foot fp99 s s := Foot.refl
  rw [← Host.Outcome.next.inj ht]
  repeat' first
    | with_reducible assumption
    | with_reducible apply Foot.ite
    | ((with_reducible apply Foot.via); (on_goal 1 => intro _ _))
    | ((with_reducible apply Foot.step (State.mbxOwnWrite_foot ..)); (· rfl))
    | split

theorem execMctpMbxSend_foot (n : Nat) (off : BitVec 32) (len : Nat) (s : State) (t' : State) (ht : execMctpMbxSend n off len s = .next t') : Foot fp90 s t' := by
  have h : Foot fp90 s s := Foot.refl
  rw [← Host.Outcome.next.inj ht]
  repeat' first
    | with_reducible assumption
    | with_reducible apply Foot.ite
    | ((with_reducible apply Foot.inc); (· rfl); (· first | exact Or.inr rfl))
    | ((with_reducible apply Foot.via); (on_goal 1 => intro _ _))
    | ((with_reducible apply Foot.step (State.emit_foot ..)); (· rfl))
    | ((with_reducible apply Foot.step (State.setView_foot ..)); (· rfl))
    | ((with_reducible apply Foot.step (State.mbxSend_foot ..)); (· rfl))
    | (fail_if_no_progress extract_lets +onlyGivenNames x; first | (refine Foot.cut x ?_ (fun hx => ?_); (on_goal 1 => subst x); (on_goal 2 => clear_value x)) | (refine Foot.cut2 x ?_ (fun hx => ?_); (on_goal 1 => subst x); (on_goal 2 => clear_value x)) | refine Foot.keepHost x ?_ | refine Foot.keepMbx x ?_ | clear_value x)
    | split

theorem execMctpMbxRead_foot (n : Nat) (s t' : State) (ht : execMctpMbxRead n s = .next t') : Foot fp91 s t' := by
  rw [← Host.Outcome.next.inj ht]
  refine Foot.via (fun x hx => ?_) Foot.refl
  split
  rename_i w u he
  exact Foot.step (State.emit_foot ..) rfl (Foot.step (Foot.ofPair he (State.mbxLatch_foot ..)) rfl hx)

theorem execMctpMbxAck_foot (n seq : Nat) (s t' : State) (ht : execMctpMbxAck n seq s = .next t') : Foot fp92 s t' := by
  rw [← Host.Outcome.next.inj ht]
  refine Foot.via (fun x hx => ?_) Foot.refl
  split
  rename_i w u he
  exact Foot.step (State.emit_foot ..) rfl (Foot.step (Foot.ofPair he (State.mbxAck_foot ..)) rfl hx)

theorem execSwWrite_foot (off : BitVec 32) (data : List Byte) (s : State) (t' : State) (ht : execSwWrite off data s = .next t') : Foot fp91 s t' := by
  have h : Foot fp91 s s := Foot.refl
  rw [← Host.Outcome.next.inj ht]
  repeat' first
    | with_reducible assumption
    | with_reducible apply Foot.ite
    | ((with_reducible apply Foot.via); (on_goal 1 => intro _ _))
    | ((with_reducible apply Foot.step (State.emit_foot ..)); (· rfl))
    | ((with_reducible apply Foot.step (State.swWrite_foot ..)); (· rfl))
    | split

theorem execSwRead_foot (off : BitVec 32) (len : Nat) (s : State) (t' : State) (ht : execSwRead off len s = .next t') : Foot fp3 s t' := by
  have h : Foot fp3 s s := Foot.refl
  rw [← Host.Outcome.next.inj ht]
  repeat' first
    | with_reducible assumption
    | with_reducible apply Foot.ite
    | ((with_reducible apply Foot.via); (on_goal 1 => intro _ _))
    | ((with_reducible apply Foot.step (State.emit_foot ..)); (· rfl))
    | split

theorem State.mbxFlr_foot (s : State) (f : Nat) : Foot fp94 s (State.mbxFlr s f) := by
  have h : Foot fp94 s s := Foot.refl
  unfold State.mbxFlr
  repeat' first
    | with_reducible assumption
    | with_reducible apply Foot.ite
    | ((with_reducible apply Foot.inc); (· rfl); (· first | exact Or.inr rfl))
    | (fail_if_no_progress extract_lets +onlyGivenNames x; first | refine Foot.keepHost x ?_ | refine Foot.keepMbx x ?_)
    | fail_if_no_progress ((with_reducible apply Foot.setMbx); (· rfl); (· exact fun hb => hb))
    | split

theorem State.mbxLinkLost_foot (s : State) : Foot fp95 s (State.mbxLinkLost s) := by
  have h : Foot fp95 s s := Foot.refl
  unfold State.mbxLinkLost
  repeat' first
    | with_reducible assumption
    | with_reducible apply Foot.ite
    | ((with_reducible apply Foot.step (State.fetchLost_foot ..)); (· rfl))
    | ((with_reducible apply Foot.foldl); (on_goal 1 => intro _ _ _))
    | split

end Sys2Proof.Machine
end

