-- ==== Sys2Proof/Laws/FootRequests.lean ====
section
/-! SUPPORT. What each operation of Machine/Requests.lean can change (`Foot`). -/

namespace Sys2Proof.Machine

def fp100 : Nat := 0x20000000000000000000
def fp101 : Nat := 0xc0000000000000000000000000000000000000000000000000000000000000000000000000000000000000000000000000000000000000000000000000000000000000000000000000000000000000000000000000000000000000000000000000000000000000000000000000000000000000001400000000000000000
def fp102 : Nat := 0x400000000000000000000000000000000000000000000000000000000000000000000000000000000000000000000000000000000000000000000000000000000000000000000000000000000000000000000000000000000000000000000000000000000000000000000000000000000000000000008400000000000000000
def fp103 : Nat := 0x6000000000000000000000000000000000000000000000000000000000000000000000000000000000000000000000000000000000000000000000000000000000000000000000000000000000000000000000000000000000000000000000000000000000000000000000000000000000000000000000000000000000000000

theorem State.ack_foot (s : State) (l : Leg) (txid : Nat) (typ : Nat) (status : Nat) : Foot fp1 s (State.ack s l txid typ status) := by
  have h : Foot fp1 s s := Foot.refl
  unfold State.ack
  repeat' first
    | with_reducible assumption
    | with_reducible apply Foot.ite
    | ((with_reducible apply Foot.upd); (· rfl); (· rfl))
    | split

theorem State.remember_foot (s : State) (l : Leg) (e : Seen) : Foot fp1 s (State.remember s l e) := by
  have h : Foot fp1 s s := Foot.refl
  unfold State.remember
  repeat' first
    | with_reducible assumption
    | ((with_reducible apply Foot.upd); (· rfl); (· rfl))

theorem State.fieldBad_foot (s : State) (l : Leg) (acked : Bool) : Foot fp100 s (State.fieldBad s l acked).2 := by
  have h : Foot fp100 s s := Foot.refl
  unfold State.fieldBad
  repeat' first
    | with_reducible assumption
    | with_reducible apply Foot.ite
    | with_reducible apply Foot.ite2
    | ((with_reducible apply Foot.inc); (· rfl); (· first | exact Or.inr rfl | exact Or.inl (Leg.n_lt _)))
    | split

theorem State.onMsg_foot {m : Nat} {s t : State} {l : Leg} {typ : Nat} {x : BitVec 384} {at' : Bool} {frag : Nat}
    {f : State → Took × State} (hm : fp101 ||| m = m) (hf : ∀ x, Foot m s x → Foot m s (f x).2) (h : Foot m s t) :
    Foot m s (State.onMsg t l typ x at' frag f) := by
  have hi : ∀ v, Foot fp101 v (v.inc Reg.LINE_D0CNT_MSG_CRC_ERR l.n) := fun v => Foot.inc rfl (Or.inl (Leg.n_lt _)) Foot.refl
  have hj : ∀ v, Foot fp101 v (v.inc Reg.LINE_D0CNT_MSG_DUP l.n) := fun v => Foot.inc rfl (Or.inl (Leg.n_lt _)) Foot.refl
  have hk : ∀ v a b c, Foot fp101 v (State.ack v l a b c) := fun v a b c => (State.ack_foot ..).mono rfl
  have hr : ∀ v e, Foot fp101 v (State.remember v l e) := fun v e => (State.remember_foot ..).mono rfl
  unfold State.onMsg
  refine Foot.ite h (Foot.ite (Foot.step (hi _) hm h) (Foot.ite h ?_))
  split
  · extract_lets u
    have hu : Foot m s u := Foot.step (hj _) hm h
    split
    · exact Foot.step (hk ..) hm hu
    · exact hu
  · split
    rename_i st u he
    have hu : Foot m s u := Foot.ofPair he (hf t h)
    extract_lets w
    have hw : Foot m s (w u) := Foot.step (hr ..) hm hu
    split
    · exact hu
    · exact hw
    · exact Foot.step (hk ..) hm hw

theorem State.inFrame_foot {m : Nat} {s t : State} {l : Leg} {f : State → State} (hm : fp1 ||| m = m)
    (hf : ∀ x, Foot m s x → Foot m s (f x)) (h : Foot m s t) : Foot m s (State.inFrame t l f) := by
  unfold State.inFrame
  have hu : Foot fp1 t (t.upd l fun g => { g with nmsg := g.nmsg - 1 }) := Foot.upd rfl rfl Foot.refl
  exact Foot.ite (hf _ (Foot.step hu hm h)) h

theorem State.fwMsg_foot {m : Nat} {s t : State} {l : Leg} {typ : Nat} {x : BitVec 384} {f : State → State} (hm : fp102 ||| m = m)
    (hf : ∀ x, Foot m s x → Foot m s (f x)) (h : Foot m s t) : Foot m s (State.fwMsg t l typ x f) := by
  unfold State.fwMsg
  have hd : ∀ u, Foot fp102 t u → Foot m s u := fun u hu => Foot.step hu hm h
  refine Foot.ite (hf t h) (Foot.ite h (Foot.ite (hd _ ?_) (Foot.ite h (Foot.ite (hd _ ?_) (hd _ ?_)))))
  · exact Foot.inc rfl (Or.inl (Leg.n_lt _)) Foot.refl
  · exact Foot.inc rfl (Or.inl (Leg.n_lt _)) Foot.refl
  · exact Foot.setFw rfl Foot.refl

theorem State.sendReq_foot (s : State) (l : Leg) (code : Nat) (params : List Byte) : Foot fp103 s (State.sendReq s l code params) := by
  have h : Foot fp103 s s := Foot.refl
  unfold State.sendReq
  repeat' first
    | with_reducible assumption
    | (fail_if_no_progress extract_lets +onlyGivenNames x; first | (refine Foot.cut x ?_ (fun hx => ?_); (on_goal 1 => subst x); (on_goal 2 => clear_value x)) | refine Foot.keepHost x ?_ | refine Foot.keepMbx x ?_ | clear_value x)
    | fail_if_no_progress ((with_reducible apply Foot.setReqs); (· rfl))
    | fail_if_no_progress ((with_reducible apply Foot.setTxid); (· rfl))

theorem State.dropReq_foot (s : State) (txid : Nat) : Foot fp27 s (State.dropReq s txid) := by
  have h : Foot fp27 s s := Foot.refl
  unfold State.dropReq
  repeat' first
    | with_reducible assumption
    | (fail_if_no_progress extract_lets +onlyGivenNames x; first | (refine Foot.cut x ?_ (fun hx => ?_); (on_goal 1 => subst x); (on_goal 2 => clear_value x)) | (refine Foot.cut2 x ?_ (fun hx => ?_); (on_goal 1 => subst x); (on_goal 2 => clear_value x)) | refine Foot.keepHost x ?_ | refine Foot.keepMbx x ?_ | clear_value x)
    | fail_if_no_progress ((with_reducible apply Foot.setReqs); (· rfl))

theorem State.resend_foot (s : State) (q : Req) (l : Leg) : Foot fp26 s (State.resend s q l) := by
  have h : Foot fp26 s s := Foot.refl
  unfold State.resend
  repeat' first
    | with_reducible assumption
    | with_reducible apply Foot.ite
    | ((with_reducible apply Foot.upd); (· rfl); (· rfl))
    | (fail_if_no_progress extract_lets +onlyGivenNames x; first | refine Foot.keepHost x ?_ | refine Foot.keepMbx x ?_ | clear_value x)
    | fail_if_no_progress ((with_reducible apply Foot.setReqs); (· rfl))
    | split

end Sys2Proof.Machine
end

