-- ==== Sys2Proof/Laws/FootCipher.lean ====
section
/-! SUPPORT. What each operation of Machine/Cipher.lean can change (`Foot`). -/

namespace Sys2Proof.Machine

def fp104 : Nat := 0x10000000000000000000000000000000000000000000000000000000000000000000000000000000000000000000000000000000000000000000000000000000000000000000000000000000000000000000000000000000000000000000000000000000000000000000000000000000000000000000000000000000000000
def fp105 : Nat := 0x10000000000000000000000000000000000000000000000000000000000000000000000000000000000000000000000000000000000000000000000000000000200000000000000000000000000000000000000000000000000000000000000000000000000000000000000000000000000000000000000000000000000000
def fp106 : Nat := 0x1000400000000000000000000001c0000000000000000000000000000000000000001c1000000000000000000000000000000000000000000000000000000000000020000000000000000000000000000000000000000000000000000000000000000000000000000000000000000000000000000000000000000000000000000
def fp107 : Nat := 0x1001000000000000000000000000000000000000000000000000000000000000000000000000000000000000000000000000000000000000000000000000000000000000c000000000000000000000000000000000000000000000000000000000000000000000000000000000000000000000000000000000000000000000
def fp108 : Nat := 0x100100000000000000000000000000000000000000000000000000000000000000000000000000000000000000000000000000000000000000000000000000000000000ec000000000000000000000000000000000000000000000000000000000000000000000000000000000000000000000000000000000000000000000
def fp109 : Nat := 0x1001401000000000000000000001c0000000000000000000000000000000000000001c10000000000000000000000000000000000000000000000000000000000000000000ec000000000000000000000000000000000000000000000000000000000000000000000000000000000000000000000000000000000000000001400
def fp110 : Nat := 0x1001401000000000000000000001c0000000000000000000000000000000000000001c100000000000000000000000000000000000000000000000000000000000000000000c000000000000000000000000000000000000000000000000000000000000000000000000000000000000000000000000000000000000000001400
def fp111 : Nat := 0x1001000000000000000000000000000000000000000000000000000000000000000000000000000000000000000000000000000000000000000000000000000020000000c000000000000000000000000000000000000000000000000000000000000000000000000000000000000000000000000000000000000000000000
def fp112 : Nat := 0x1001401000000000000000000001c0000000000000000000000000000000000000001c100000000000000000000000000000000000000000000000000000000000020000000c000000000000000000000000000000000000000000000000000000000000000000000000000000000000000000000000000000000000000001400
def fp113 : Nat := 0x1001401000000000000000000001c0000000000000000000000000000000000000001c100000000000000000000000000000000000000000000000000000000000002000000c000000000000000000000000000000000000000000000000000000000000000000000000000000000000000000000000000000000000000000000
def fp114 : Nat := 0x1600400000000000000000000001c0000000000000000000000000000000000000001c1000000000000000000000000000000000000000000000000000000000000000000000000000000000000000000000000000000000000000000000000000000000000000000000000000000000000000000000000000000000000001400
def fp115 : Nat := 0x1000400000000000000000000001c0000000000000000000000000000000000000001c1000000000000000000000000000000000000000000000000000000000000000000000800000000000000000000000000000000000000000000000000000000000000000000000000000000000000000000000000000000000000001400
def fp116 : Nat := 0x1000400000000000000000000001c0000000000000000000000000000000000000001c1000000000000000000000000000000000000000000000000000000000000000000000200000000000000000000000000000000000000000000000000000000000000000000000000000000000000000000000000000000000000000000
def fp117 : Nat := 0x200000000000000000000000000000000000000000000000000000000000000000000000000000000000000000000000000000000000000000000
def fp118 : Nat := 0x1000400000000000000000000001c0000000000000000000000000000000000000001c1000000000000000000000000000000000000000000000000000000000000080180000000000000000000000000000000000000000000000000000000000000000000000000000000000000000000000000000000000000000000000000
def fp119 : Nat := 0x1e0040c000000000000000000001c0000000000000000000000000000000000000001c1000000000000000000000000000000000000000000000000000000000000080184000000000000000000000000000000000000000000000000000000000000000000000000000000000000000000000000000000000000000000000000
def fp120 : Nat := 0x100c0000000000000000000000000000000000000000000000000000000000000000000000000000000000000000000000000000000000000000000000000000200000000000000000000000000000000000000000000000000000000000000000000000000000000000000000000000000000000000000000000000000000
def fp121 : Nat := 0x100140c000000000000000000001c0000000000000000000000000000000000000001c10000000000000000000000000000000000000000000000000000000000003c0180000000000000000000000000000000000000000000000000000000000000000000000000000000000000000000000000000000000000000000000000
def fp122 : Nat := 0x1e0140c000000000000000000001c0000000000000000000000000000000000000001c10000000000000000000000000000000000000000000000000000000000003c0184000000000000000000000000000000000000000000000000000000000000000000000000000000000000000000000000000000000000000000000000
def fp123 : Nat := 0x1e0140c000000000000000000001c0000000000000000000000000000000000000001c10000000000000000000000000000000000000000000000000000000000003c0184000000000000000000000000000000000000000000000000000000000000000000000000000000000000000000000000000001000000000000000000
def fp124 : Nat := 0x1e4140c000000000000000000001c0000000000000000000000000000000000000001c10000000000000000000000000000000000000000000000000000000000003c0184000000000000000000000000000000000000000000000000000000000000000000000000000000000000000000000000000009400000000000000000
def fp125 : Nat := 0x7b600000000000000000000000000000000000000000000000000000000000000000000000000000000000000000000000000000000000000000000000
def fp126 : Nat := 0xc000000000000000000000000000000000000000000000000000000000000000000000000000000000000000000000000000000000000000000000000000000007b600000000000000000000000000000000000000000000000000000000000000000000000000000000000000000000000000001400000000000000000
def fp127 : Nat := 0x100140c000000000000000000001c0000000000000000000000000000000000000001c1000000000000000000000000000000000000000000000000000000000000200001800000000000000000000000000000000000000000000000000000000000000000000000000000000000000000000000000000000000000000000000
def fp128 : Nat := 0x100140c000000000000000000001c0000000000000000000000000000000000000001c1000000000000000000000000000000000000000000000000000000000000200000300000000000000000000000000000000000000000000000000000000000000000000000000000000000000000000000000000000000000000000000
def fp129 : Nat := 0x1000400000000000000000000001c0000000000000000000000000003000008000001c1000000000000000000000000000000000000000000000000000000000000010000000000000000000000000000000000000000000000000000000000000000000000000000000000000000000000000000000000000000000000000000
def fp130 : Nat := 0x1001400000000000000000000001c0000000000000000000000000003000008000001c1000000000000000000000000000000000000000000000000000000000000010000000000000000000000000000000000000000000000000000000000000000000000000000000000000000000000000000000000000000000000000000
def fp131 : Nat := 0x1000400000000000000000000001c0000000000000000000000000000000000000001c100000000000000000000000000000000000000000000000000000000000002c000000000000000000000000000000000000000000000000000000000000000000000000000000000000000000000000000000000000000000000000000
def fp132 : Nat := 0x1000400000000000000000000001c0000000000000000000000000003000008000001c100000000000000000000000000000000000000000000000000000000000002c000000000000000000000000000000000000000000000000000000000000000000000000000000000000000000000000000000000000000000000000000

theorem State.setKeySlot_foot (s : State) (n : Nat) (k : Slot) : Foot fp104 s (State.setKeySlot s n k) := by
  have h : Foot fp104 s s := Foot.refl
  unfold State.setKeySlot
  repeat' first
    | with_reducible assumption
    | (fail_if_no_progress extract_lets +onlyGivenNames x; first | refine Foot.keepHost x ?_ | refine Foot.keepMbx x ?_ | clear_value x)
    | fail_if_no_progress ((with_reducible apply Foot.setCiph); (· rfl))

theorem State.eraseKeys_foot (s : State) (p : Nat → Slot → Nat → Bool) : Foot fp105 s (State.eraseKeys s p) := by
  have h : Foot fp105 s s := Foot.refl
  unfold State.eraseKeys
  repeat' first
    | with_reducible assumption
    | ((with_reducible apply Foot.inc); (· rfl); (· first | exact Or.inr rfl))
    | (fail_if_no_progress extract_lets +onlyGivenNames x; first | refine Foot.keepHost x ?_ | refine Foot.keepMbx x ?_ | clear_value x)
    | fail_if_no_progress ((with_reducible apply Foot.setCiph); (· rfl))

theorem State.eraseAll_foot (s : State) : Foot fp105 s (State.eraseAll s) := by
  have h : Foot fp105 s s := Foot.refl
  unfold State.eraseAll
  repeat' first
    | with_reducible assumption
    | ((with_reducible apply Foot.step (State.eraseKeys_foot ..)); (· rfl))

theorem State.eraseSlot_foot (s : State) (n : Nat) : Foot fp105 s (State.eraseSlot s n) := by
  have h : Foot fp105 s s := Foot.refl
  unfold State.eraseSlot
  repeat' first
    | with_reducible assumption
    | ((with_reducible apply Foot.step (State.eraseKeys_foot ..)); (· rfl))

theorem State.eraseLookaside_foot (s : State) (own : Nat → Bool) : Foot fp105 s (State.eraseLookaside s own) := by
  have h : Foot fp105 s s := Foot.refl
  unfold State.eraseLookaside
  repeat' first
    | with_reducible assumption
    | ((with_reducible apply Foot.step (State.eraseKeys_foot ..)); (· rfl))

theorem State.eraseGen_foot (s : State) (l : Leg) (dir : Nat) (kidx : Nat) : Foot fp105 s (State.eraseGen s l dir kidx) := by
  have h : Foot fp105 s s := Foot.refl
  unfold State.eraseGen
  repeat' first
    | with_reducible assumption
    | ((with_reducible apply Foot.step (State.eraseKeys_foot ..)); (· rfl))

theorem State.loadLookaside_foot (s : State) (n : Nat) (owner : Nat) (key : Nat) : Foot fp104 s (State.loadLookaside s n owner key).2 := by
  have h : Foot fp104 s s := Foot.refl
  unfold State.loadLookaside
  repeat' first
    | with_reducible assumption
    | with_reducible apply Foot.ite
    | with_reducible apply Foot.ite2
    | ((with_reducible apply Foot.step (State.setKeySlot_foot ..)); (· rfl))
    | split

theorem State.eraseNamed_foot (s : State) (n : Nat) : Foot fp105 s (State.eraseNamed s n).2 := by
  have h : Foot fp105 s s := Foot.refl
  unfold State.eraseNamed
  repeat' first
    | with_reducible assumption
    | with_reducible apply Foot.ite
    | with_reducible apply Foot.ite2
    | ((with_reducible apply Foot.step (State.eraseSlot_foot ..)); (· rfl))
    | split

theorem State.countDenied_foot (s : State) (status : Nat) : Foot fp106 s (State.countDenied s status) := by
  have h : Foot fp106 s s := Foot.refl
  unfold State.countDenied
  repeat' first
    | with_reducible assumption
    | with_reducible apply Foot.ite
    | ((with_reducible apply Foot.inc); (· rfl); (· first | exact Or.inr rfl))
    | ((with_reducible apply Foot.step (State.event_foot ..)); (· rfl))
    | split

theorem State.slotCmd_foot {m : Nat} {s t : State} {ag : Agent} {f : State → Nat × State} (hm : fp107 ||| m = m)
    (hf : ∀ x, Foot m s x → Foot m s (f x).2) (h : Foot m s t) : Foot m s (State.slotCmd t ag f) := by
  have hs : ∀ v w, Foot fp107 v (v.wrA ag Reg.CIPH_SLOT_CMD_STATUS w) := fun v w => Foot.wrA rfl rfl (Or.inr rfl) Foot.refl
  have hw : ∀ v w, Foot fp107 v (v.wrA ag Reg.CIPH_SLOT_CMD_BUSY w) := fun v w => Foot.wrA rfl rfl (Or.inr rfl) Foot.refl
  unfold State.slotCmd
  split
  · exact Foot.step (hs ..) hm h
  · split
    rename_i st u he
    have hu : Foot m s u := Foot.ofPair he (hf t h)
    extract_lets w
    have hw : Foot m s w := Foot.step (hw ..) hm hu
    exact Foot.ite (Foot.step (Foot.setCiph (m := fp107) rfl Foot.refl) hm hw) (Foot.step (Foot.setCiph (m := fp107) rfl Foot.refl) hm hw)

theorem State.slotQuery_foot (s : State) (ag : Agent) : Foot fp108 s (State.slotQuery s ag) := by
  have h : Foot fp108 s s := Foot.refl
  unfold State.slotQuery
  repeat' first
    | with_reducible assumption
    | ((with_reducible apply Foot.wrA); (· rfl); (· rfl); (· first | exact Or.inr rfl))
    | ((with_reducible apply State.slotCmd_foot); (· rfl); (on_goal 1 => intro _ _))
    | (fail_if_no_progress extract_lets +onlyGivenNames x; first | (refine Foot.cut x ?_ (fun hx => ?_); (on_goal 1 => subst x); (on_goal 2 => clear_value x)) | (refine Foot.cut2 x ?_ (fun hx => ?_); (on_goal 1 => subst x); (on_goal 2 => clear_value x)) | refine Foot.keepHost x ?_ | refine Foot.keepMbx x ?_ | clear_value x)

theorem execQuery_foot (ag : Agent) (s : State) (t' : State) (ht : execQuery ag s = .next t') : Foot fp109 s t' := by
  have h : Foot fp109 s s := Foot.refl
  rw [← Host.Outcome.next.inj ht]
  repeat' first
    | with_reducible assumption
    | ((with_reducible apply State.gated_foot); (· rfl); (on_goal 1 => intro _ _))
    | ((with_reducible apply Foot.step (State.slotQuery_foot ..)); (· rfl))

theorem State.slotRead_foot (s : State) (ag : Agent) : Foot fp107 s (State.slotRead s ag) := by
  have h : Foot fp107 s s := Foot.refl
  unfold State.slotRead
  repeat' first
    | with_reducible assumption
    | ((with_reducible apply State.slotCmd_foot); (· rfl); (on_goal 1 => intro _ _))

theorem execSlotRead_foot (ag : Agent) (s : State) (t' : State) (ht : execSlotRead ag s = .next t') : Foot fp110 s t' := by
  have h : Foot fp110 s s := Foot.refl
  rw [← Host.Outcome.next.inj ht]
  repeat' first
    | with_reducible assumption
    | ((with_reducible apply State.gated_foot); (· rfl); (on_goal 1 => intro _ _))
    | ((with_reducible apply Foot.step (State.slotRead_foot ..)); (· rfl))

theorem State.slotErase_foot (s : State) (ag : Agent) : Foot fp111 s (State.slotErase s ag) := by
  have h : Foot fp111 s s := Foot.refl
  unfold State.slotErase
  repeat' first
    | with_reducible assumption
    | ((with_reducible apply Foot.step (State.eraseNamed_foot ..)); (· rfl))
    | ((with_reducible apply State.slotCmd_foot); (· rfl); (on_goal 1 => intro _ _))

theorem execSlotErase_foot (ag : Agent) (s : State) (t' : State) (ht : execSlotErase ag s = .next t') : Foot fp112 s t' := by
  have h : Foot fp112 s s := Foot.refl
  rw [← Host.Outcome.next.inj ht]
  repeat' first
    | with_reducible assumption
    | ((with_reducible apply State.gated_foot); (· rfl); (on_goal 1 => intro _ _))
    | ((with_reducible apply Foot.step (State.slotErase_foot ..)); (· rfl))

theorem State.slotDone_foot (s : State) (ag : Agent) : Foot fp113 s (State.slotDone s ag) := by
  have h : Foot fp113 s s := Foot.refl
  unfold State.slotDone
  repeat' first
    | with_reducible assumption
    | with_reducible apply Foot.ite
    | ((with_reducible apply Foot.wrA); (· rfl); (· rfl); (· first | exact Or.inr rfl))
    | ((with_reducible apply Foot.step (State.countDenied_foot ..)); (· rfl))
    | (fail_if_no_progress extract_lets +onlyGivenNames x; first | (refine Foot.cut x ?_ (fun hx => ?_); (on_goal 1 => subst x); (on_goal 2 => clear_value x)) | refine Foot.keepHost x ?_ | refine Foot.keepMbx x ?_ | clear_value x)
    | fail_if_no_progress ((with_reducible apply Foot.setCiph); (· rfl))
    | split

theorem execSlotCmdDone_foot (ag : Agent) (s : State) (t' : State) (ht : execSlotCmdDone ag s = .next t') : Foot fp113 s t' := by
  have h : Foot fp113 s s := Foot.refl
  rw [← Host.Outcome.next.inj ht]
  repeat' first
    | with_reducible assumption
    | ((with_reducible apply Foot.reg); (on_goal 1 => intro _ _))
    | ((with_reducible apply Foot.step (State.slotDone_foot ..)); (· rfl))

theorem State.keyRefresh_foot (s : State) (mask : Nat) : Foot fp103 s (State.keyRefresh s mask) := by
  have h : Foot fp103 s s := Foot.refl
  unfold State.keyRefresh
  repeat' first
    | with_reducible assumption
    | with_reducible apply Foot.ite
    | ((with_reducible apply Foot.step (State.sendReq_foot ..)); (· rfl))
    | (fail_if_no_progress extract_lets +onlyGivenNames x; first | (refine Foot.cut x ?_ (fun hx => ?_); (on_goal 1 => subst x); (on_goal 2 => clear_value x)) | (refine Foot.cut2 x ?_ (fun hx => ?_); (on_goal 1 => subst x); (on_goal 2 => clear_value x)) | refine Foot.keepHost x ?_ | refine Foot.keepMbx x ?_ | clear_value x)
    | split

theorem execKeyRefresh_foot (ag : Agent) (mask : Nat) (s : State) (t' : State) (ht : execKeyRefresh ag mask s = .next t') : Foot fp114 s t' := by
  have h : Foot fp114 s s := Foot.refl
  rw [← Host.Outcome.next.inj ht]
  repeat' first
    | with_reducible assumption
    | ((with_reducible apply State.gated_foot); (· rfl); (on_goal 1 => intro _ _))
    | ((with_reducible apply Foot.step (State.keyRefresh_foot ..)); (· rfl))

theorem execCiphLock_foot (ag : Agent) (s : State) (t' : State) (ht : execCiphLock ag s = .next t') : Foot fp115 s t' := by
  have h : Foot fp115 s s := Foot.refl
  rw [← Host.Outcome.next.inj ht]
  repeat' first
    | with_reducible assumption
    | ((with_reducible apply Foot.wr); (· rfl); (· first | exact Or.inr rfl))
    | ((with_reducible apply State.gated_foot); (· rfl); (on_goal 1 => intro _ _))

theorem execRngFail_foot (s : State) (t' : State) (ht : execRngFail s = .next t') : Foot fp116 s t' := by
  have h : Foot fp116 s s := Foot.refl
  rw [← Host.Outcome.next.inj ht]
  repeat' first
    | with_reducible assumption
    | ((with_reducible apply Foot.wr); (· rfl); (· first | exact Or.inr rfl))
    | ((with_reducible apply Foot.step (State.event_foot ..)); (· rfl))

theorem execRngRecover_foot (s : State) (t' : State) (ht : execRngRecover s = .next t') : Foot fp117 s t' := by
  have h : Foot fp117 s s := Foot.refl
  rw [← Host.Outcome.next.inj ht]
  repeat' first
    | with_reducible assumption
    | ((with_reducible apply Foot.wr); (· rfl); (· first | exact Or.inr rfl))

theorem State.kxRefuse_foot (s : State) (l : Leg) (status : Nat) : Foot fp118 s (State.kxRefuse s l status).2 := by
  have h : Foot fp118 s s := Foot.refl
  unfold State.kxRefuse
  repeat' first
    | with_reducible assumption
    | ((with_reducible apply Foot.wr); (· rfl); (· first | exact Or.inr rfl | exact Or.inl (Leg.n_lt _)))
    | ((with_reducible apply Foot.inc); (· rfl); (· first | exact Or.inr rfl))
    | ((with_reducible apply Foot.step (State.event_foot ..)); (· rfl))

theorem State.heOffer_foot (s : State) (l : Leg) (c : List Byte) : Foot fp119 s (State.heOffer s l c).2 := by
  have h : Foot fp119 s s := Foot.refl
  unfold State.heOffer
  repeat' first
    | with_reducible assumption
    | with_reducible apply Foot.ite
    | with_reducible apply Foot.ite2
    | ((with_reducible apply Foot.wr); (· rfl); (· first | exact Or.inr rfl | exact Or.inl (Leg.n_lt _)))
    | ((with_reducible apply Foot.upd); (· rfl); (· rfl))
    | ((with_reducible apply Foot.step (State.spend_foot ..)); (· rfl))
    | ((with_reducible apply Foot.step (State.kxRefuse_foot ..)); (· rfl))
    | (fail_if_no_progress extract_lets +onlyGivenNames x; first | refine Foot.keepHost x ?_ | refine Foot.keepMbx x ?_ | clear_value x)
    | fail_if_no_progress ((with_reducible apply Foot.setReqs); (· rfl))
    | fail_if_no_progress ((with_reducible apply Foot.setTxid); (· rfl))
    | split

theorem State.storeLine_foot (s : State) (l : Leg) (slot : Nat) (dir : Nat) (kidx : Nat) (key : Nat) : Foot fp120 s (State.storeLine s l slot dir kidx key) := by
  have h : Foot fp120 s s := Foot.refl
  unfold State.storeLine
  repeat' first
    | with_reducible assumption
    | with_reducible apply Foot.ite
    | ((with_reducible apply Foot.upd); (· rfl); (· rfl))
    | ((with_reducible apply Foot.step (State.setKeySlot_foot ..)); (· rfl))
    | ((with_reducible apply Foot.step (State.eraseGen_foot ..)); (· rfl))
    | (fail_if_no_progress extract_lets +onlyGivenNames x; first | (refine Foot.cut x ?_ (fun hx => ?_); (on_goal 1 => subst x); (on_goal 2 => clear_value x)) | (refine Foot.cut2 x ?_ (fun hx => ?_); (on_goal 1 => subst x); (on_goal 2 => clear_value x)) | refine Foot.keepHost x ?_ | refine Foot.keepMbx x ?_ | clear_value x)
    | split

theorem State.keyLoad_foot (s : State) (l : Leg) (c : List Byte) : Foot fp121 s (State.keyLoad s l c).2 := by
  have h : Foot fp121 s s := Foot.refl
  unfold State.keyLoad
  repeat' first
    | with_reducible assumption
    | with_reducible apply Foot.ite
    | with_reducible apply Foot.ite2
    | ((with_reducible apply Foot.wr); (· rfl); (· first | exact Or.inr rfl | exact Or.inl (Leg.n_lt _)))
    | ((with_reducible apply Foot.inc); (· rfl); (· first | exact Or.inr rfl))
    | ((with_reducible apply Foot.upd); (· rfl); (· rfl))
    | ((with_reducible apply Foot.step (State.event_foot ..)); (· rfl))
    | ((with_reducible apply Foot.step (State.kxRefuse_foot ..)); (· rfl))
    | ((with_reducible apply Foot.step (State.storeLine_foot ..)); (· rfl))
    | (fail_if_no_progress extract_lets +onlyGivenNames x; first | refine Foot.keepHost x ?_ | refine Foot.keepMbx x ?_ | clear_value x)
    | split

theorem State.kxContent_foot (s : State) (l : Leg) (bytes : List Byte) : Foot fp122 s (State.kxContent s l bytes).2 := by
  have h : Foot fp122 s s := Foot.refl
  unfold State.kxContent
  repeat' first
    | with_reducible assumption
    | ((with_reducible apply Foot.step (State.kxRefuse_foot ..)); (· rfl))
    | ((with_reducible apply Foot.step (State.heOffer_foot ..)); (· rfl))
    | ((with_reducible apply Foot.step (State.keyLoad_foot ..)); (· rfl))
    | split

theorem State.kxFragment_foot (s : State) (l : Leg) (mx : BitVec 384) : Foot fp123 s (State.kxFragment s l mx) := by
  have h : Foot fp123 s s := Foot.refl
  unfold State.kxFragment
  repeat' first
    | with_reducible assumption
    | with_reducible apply Foot.ite
    | ((with_reducible apply Foot.inc); (· rfl); (· first | exact Or.inr rfl | exact Or.inl (Leg.n_lt _)))
    | ((with_reducible apply Foot.upd); (· rfl); (· rfl))
    | ((with_reducible apply Foot.step (State.ack_foot ..)); (· rfl))
    | ((with_reducible apply Foot.step (State.kxRefuse_foot ..)); (· rfl))
    | ((with_reducible apply Foot.step (State.kxContent_foot ..)); (· rfl))
    | (fail_if_no_progress extract_lets +onlyGivenNames x; first | (refine Foot.cut x ?_ (fun hx => ?_); (on_goal 1 => subst x); (on_goal 2 => clear_value x)) | refine Foot.keepHost x ?_ | refine Foot.keepMbx x ?_ | clear_value x)
    | split

theorem State.keyExchange_foot (s : State) (l : Leg) (mx : BitVec 384) : Foot fp124 s (State.keyExchange s l mx) := by
  have h : Foot fp124 s s := Foot.refl
  unfold State.keyExchange
  repeat' first
    | with_reducible assumption
    | with_reducible apply Foot.ite
    | ((with_reducible apply Foot.inc); (· rfl); (· first | exact Or.inr rfl | exact Or.inl (Leg.n_lt _)))
    | ((with_reducible apply State.fwMsg_foot); (· rfl); (on_goal 1 => intro _ _))
    | ((with_reducible apply Foot.step (State.kxFragment_foot ..)); (· rfl))
    | split

theorem execKeyExchange_foot (l : Leg) (msg : BitVec 384) (s : State) (t' : State) (ht : execKeyExchange l msg s = .next t') : Foot fp124 s t' := by
  have h : Foot fp124 s s := Foot.refl
  rw [← Host.Outcome.next.inj ht]
  repeat' first
    | with_reducible assumption
    | ((with_reducible apply State.inFrame_foot); (· rfl); (on_goal 1 => intro _ _))
    | ((with_reducible apply Foot.step (State.keyExchange_foot ..)); (· rfl))

theorem State.keySwitchAct_foot (s : State) (l : Leg) (mx : BitVec 384) : Foot fp125 s (State.keySwitchAct s l mx).2 := by
  have h : Foot fp125 s s := Foot.refl
  unfold State.keySwitchAct
  repeat' first
    | with_reducible assumption
    | with_reducible apply Foot.ite
    | with_reducible apply Foot.ite2
    | ((with_reducible apply Foot.wr); (· rfl); (· first | exact Or.inr rfl | exact Or.inl (Leg.n_lt _)))
    | ((with_reducible apply Foot.wr2); (· rfl); (· rfl); (· first | exact Or.inr rfl | exact Or.inl (Leg.n_lt _)); (· first | exact Or.inr rfl | exact Or.inl (Leg.n_lt _)))
    | (fail_if_no_progress extract_lets +onlyGivenNames x; first | (refine Foot.cut x ?_ (fun hx => ?_); (on_goal 1 => subst x); (on_goal 2 => clear_value x)) | (refine Foot.cut2 x ?_ (fun hx => ?_); (on_goal 1 => subst x); (on_goal 2 => clear_value x)) | refine Foot.keepHost x ?_ | refine Foot.keepMbx x ?_ | clear_value x)
    | split

theorem State.keySwitch_foot (s : State) (l : Leg) (mx : BitVec 384) : Foot fp126 s (State.keySwitch s l mx) := by
  have h : Foot fp126 s s := Foot.refl
  unfold State.keySwitch
  repeat' first
    | with_reducible assumption
    | ((with_reducible apply State.onMsg_foot); (· rfl); (on_goal 1 => intro _ _))
    | ((with_reducible apply Foot.step (State.keySwitchAct_foot ..)); (· rfl))

theorem execKeySwitch_foot (l : Leg) (msg : BitVec 384) (s : State) (t' : State) (ht : execKeySwitch l msg s = .next t') : Foot fp126 s t' := by
  have h : Foot fp126 s s := Foot.refl
  rw [← Host.Outcome.next.inj ht]
  repeat' first
    | with_reducible assumption
    | ((with_reducible apply State.inFrame_foot); (· rfl); (on_goal 1 => intro _ _))
    | ((with_reducible apply Foot.step (State.keySwitch_foot ..)); (· rfl))

theorem State.eraseRetired_foot (s : State) (l : Leg) (up : Bool) : Foot fp120 s (State.eraseRetired s l up) := by
  have h : Foot fp120 s s := Foot.refl
  unfold State.eraseRetired
  repeat' first
    | with_reducible assumption
    | with_reducible apply Foot.ite
    | ((with_reducible apply Foot.upd); (· rfl); (· rfl))
    | ((with_reducible apply Foot.step (State.eraseGen_foot ..)); (· rfl))
    | split

theorem State.upSwitch_foot (s : State) (l : Leg) : Foot fp127 s (State.upSwitch s l) := by
  have h : Foot fp127 s s := Foot.refl
  unfold State.upSwitch
  repeat' first
    | with_reducible assumption
    | with_reducible apply Foot.ite
    | ((with_reducible apply Foot.wr); (· rfl); (· first | exact Or.inr rfl | exact Or.inl (Leg.n_lt _)))
    | ((with_reducible apply Foot.upd); (· rfl); (· rfl))
    | ((with_reducible apply Foot.step (State.event_foot ..)); (· rfl))
    | ((with_reducible apply Foot.step (State.eraseRetired_foot ..)); (· rfl))
    | (fail_if_no_progress extract_lets +onlyGivenNames x; first | (refine Foot.cut x ?_ (fun hx => ?_); (on_goal 1 => subst x); (on_goal 2 => clear_value x)) | (refine Foot.cut2 x ?_ (fun hx => ?_); (on_goal 1 => subst x); (on_goal 2 => clear_value x)) | refine Foot.keepHost x ?_ | refine Foot.keepMbx x ?_ | clear_value x)
    | split

theorem execKeySwitchUpEffective_foot (l : Leg) (s : State) (t' : State) (ht : execKeySwitchUpEffective l s = .next t') : Foot fp127 s t' := by
  have h : Foot fp127 s s := Foot.refl
  rw [← Host.Outcome.next.inj ht]
  repeat' first
    | with_reducible assumption
    | ((with_reducible apply Foot.step (State.upSwitch_foot ..)); (· rfl))

theorem State.dnSwitch_foot (s : State) (l : Leg) : Foot fp128 s (State.dnSwitch s l) := by
  have h : Foot fp128 s s := Foot.refl
  unfold State.dnSwitch
  repeat' first
    | with_reducible assumption
    | with_reducible apply Foot.ite
    | ((with_reducible apply Foot.wr); (· rfl); (· first | exact Or.inr rfl | exact Or.inl (Leg.n_lt _)))
    | ((with_reducible apply Foot.upd); (· rfl); (· rfl))
    | ((with_reducible apply Foot.step (State.event_foot ..)); (· rfl))
    | ((with_reducible apply Foot.step (State.eraseRetired_foot ..)); (· rfl))
    | (fail_if_no_progress extract_lets +onlyGivenNames x; first | (refine Foot.cut x ?_ (fun hx => ?_); (on_goal 1 => subst x); (on_goal 2 => clear_value x)) | (refine Foot.cut2 x ?_ (fun hx => ?_); (on_goal 1 => subst x); (on_goal 2 => clear_value x)) | refine Foot.keepHost x ?_ | refine Foot.keepMbx x ?_ | clear_value x)
    | split

theorem execKeySwitchDnEffective_foot (l : Leg) (s : State) (t' : State) (ht : execKeySwitchDnEffective l s = .next t') : Foot fp128 s t' := by
  have h : Foot fp128 s s := Foot.refl
  rw [← Host.Outcome.next.inj ht]
  repeat' first
    | with_reducible assumption
    | ((with_reducible apply Foot.step (State.dnSwitch_foot ..)); (· rfl))

theorem execGenerationErase_foot (l : Leg) (up : Bool) (s : State) (t' : State) (ht : execGenerationErase l up s = .next t') : Foot fp120 s t' := by
  have h : Foot fp120 s s := Foot.refl
  rw [← Host.Outcome.next.inj ht]
  repeat' first
    | with_reducible assumption
    | ((with_reducible apply Foot.step (State.eraseRetired_foot ..)); (· rfl))

theorem State.lookaside_foot (s : State) (ring : Nat) (idx : Nat) (e : List Byte) (src : HostRead) : Foot fp129 s (State.lookaside s ring idx e src).2 := by
  have h : Foot fp129 s s := Foot.refl
  unfold State.lookaside
  repeat' first
    | with_reducible assumption
    | with_reducible apply Foot.ite
    | with_reducible apply Foot.ite2
    | ((with_reducible apply Foot.inc); (· rfl); (· first | exact Or.inr rfl))
    | ((with_reducible apply Foot.step (State.askHost_foot ..)); (· rfl))
    | ((with_reducible apply Foot.step (State.readFault_foot ..)); (· rfl))
    | (fail_if_no_progress extract_lets +onlyGivenNames x; first | (refine Foot.cut x ?_ (fun hx => ?_); (on_goal 1 => subst x); (on_goal 2 => clear_value x)) | refine Foot.keepHost x ?_ | refine Foot.keepMbx x ?_ | clear_value x)
    | split

theorem State.takeLookaside_foot (s : State) (ring : Nat) (src : HostRead) : Foot fp130 s (State.takeLookaside s ring src) := by
  have h : Foot fp130 s s := Foot.refl
  unfold State.takeLookaside
  repeat' first
    | with_reducible assumption
    | with_reducible apply Foot.ite
    | ((with_reducible apply Foot.step (State.setRxr_foot ..)); (· rfl))
    | ((with_reducible apply Foot.step (State.lookaside_foot ..)); (· rfl))
    | (fail_if_no_progress extract_lets +onlyGivenNames x; first | refine Foot.keepHost x ?_ | refine Foot.keepMbx x ?_ | clear_value x)
    | fail_if_no_progress ((with_reducible apply Foot.setCiph); (· rfl))
    | split

theorem execLookasideRequest_foot (ring : Nat) (src : HostRead) (s : State) (t' : State) (ht : execLookasideRequest ring src s = .next t') : Foot fp130 s t' := by
  have h : Foot fp130 s s := Foot.refl
  rw [← Host.Outcome.next.inj ht]
  repeat' first
    | with_reducible assumption
    | ((with_reducible apply Foot.inDom); (on_goal 1 => intro _ _))
    | ((with_reducible apply Foot.step (State.takeLookaside_foot ..)); (· rfl))

theorem State.laComplete_foot (s : State) (ring : Nat) (r : LaReq) : Foot fp131 s (State.laComplete s ring r) := by
  have h : Foot fp131 s s := Foot.refl
  unfold State.laComplete
  repeat' first
    | with_reducible assumption
    | with_reducible apply Foot.ite
    | ((with_reducible apply Foot.inc); (· rfl); (· first | exact Or.inr rfl))
    | ((with_reducible apply Foot.step (State.event_foot ..)); (· rfl))
    | ((with_reducible apply Foot.step (State.cqPush_foot ..)); (· rfl))
    | ((with_reducible apply Foot.step (State.setRxr_foot ..)); (· rfl))
    | ((with_reducible apply Foot.step (State.countDenied_foot ..)); (· rfl))
    | (fail_if_no_progress extract_lets +onlyGivenNames x; first | (refine Foot.cut x ?_ (fun hx => ?_); (on_goal 1 => subst x); (on_goal 2 => clear_value x)) | (refine Foot.cut2 x ?_ (fun hx => ?_); (on_goal 1 => subst x); (on_goal 2 => clear_value x)) | refine Foot.keepHost x ?_ | refine Foot.keepMbx x ?_ | clear_value x)
    | split

theorem State.laDone_foot (s : State) (ring : Nat) : Foot fp131 s (State.laDone s ring) := by
  have h : Foot fp131 s s := Foot.refl
  unfold State.laDone
  repeat' first
    | with_reducible assumption
    | with_reducible apply Foot.ite
    | ((with_reducible apply Foot.step (State.emits_foot ..)); (· rfl))
    | ((with_reducible apply Foot.step (State.laComplete_foot ..)); (· rfl))
    | (fail_if_no_progress extract_lets +onlyGivenNames x; first | refine Foot.keepHost x ?_ | refine Foot.keepMbx x ?_ | clear_value x)
    | split

theorem execLookasideDone_foot (ring : Nat) (s : State) (t' : State) (ht : execLookasideDone ring s = .next t') : Foot fp131 s t' := by
  have h : Foot fp131 s s := Foot.refl
  rw [← Host.Outcome.next.inj ht]
  repeat' first
    | with_reducible assumption
    | ((with_reducible apply Foot.inDom); (on_goal 1 => intro _ _))
    | ((with_reducible apply Foot.step (State.laDone_foot ..)); (· rfl))

theorem State.laLost_foot (s : State) : Foot fp132 s (State.laLost s) := by
  have h : Foot fp132 s s := Foot.refl
  unfold State.laLost
  repeat' first
    | with_reducible assumption
    | ((with_reducible apply Foot.step (State.readFault_foot ..)); (· rfl))
    | ((with_reducible apply Foot.step (State.laComplete_foot ..)); (· rfl))
    | ((with_reducible apply Foot.foldl); (on_goal 1 => intro _ _ _))
    | (fail_if_no_progress extract_lets +onlyGivenNames x; first | (refine Foot.cut x ?_ (fun hx => ?_); (on_goal 1 => subst x); (on_goal 2 => clear_value x)) | (refine Foot.cut2 x ?_ (fun hx => ?_); (on_goal 1 => subst x); (on_goal 2 => clear_value x)) | refine Foot.keepHost x ?_ | refine Foot.keepMbx x ?_ | clear_value x)

end Sys2Proof.Machine
end

