-- ==== Sys2Proof/Laws/FootTev.lean ====
section
/-! SUPPORT. What each operation of Machine/Tev.lean can change (`Foot`). -/

namespace Sys2Proof.Machine

def fp133 : Nat := 0x200000000000000000000000000000000000000000000000000000000000000000000000000000000000000000000000000000000000000000000000000000000000000000000000000000000000000000000000000000000000000000000000000000000000000000000000000000000000000000000000000000000000
def fp134 : Nat := 0x2000000000000000000000000000000000000000000000000000000000000000000000000000000000000000000000000000000000000000000000000000000000000000000000000000000000000000000000000000000000000c0000000000000000000000000000000000000000000000000000000000000000000000
def fp135 : Nat := 0x200000000000000000000000000000000000000000000000000000000000000000000000000000000000000000000000000000000000000000000000000000000000000000000000000000000000000000000000000000000000000010000000000000000000000000000000000000000000000000000000000000000000
def fp136 : Nat := 0x10000200000000000000000000000000000000000000000000000000000000000000000000000000000000000000000000000000000000000000000000000000000000000000000000000000000000000000000000000000000000000000000000000000000000000000000000000000000000000000000000000000000000000
def fp137 : Nat := 0x100040000000000000000000000000000000000000000000000000000000000000000000
def fp138 : Nat := 0x1000420000000000000000000001c0000000000000000000000000000000000000001c10000000000000000000000000000000000000000000000000000000000000000000000000000000000000000000000000000000000000000001d00d0000000000000000000000000000000000000000000000000000000000000000000
def fp139 : Nat := 0x1000420000000000000000000001c0000000000000000000000000000000000000001c1000000000000000000000000000000000000000000000000000000000000000000000000000000000000000000000000000000000000000000000010000000000000000000000000000000000000000000000000000000000000000000
def fp140 : Nat := 0x1000420000000000000000000001c0000000000000000000000000000000000000001c1000000000000000000000000000000000000000000000000000000000000000000000000000000000000000000000000000000000000000000000030000000000000000000000000000000000000000000000000000000000000000000
def fp141 : Nat := 0x2ff8f800000000000000000000000000000000000000000000000000000000000000000
def fp142 : Nat := 0x1000420000000000000000000001c0000000000000000000000000000000000000001c10000000000000000000000000000000000000000000000000000000000000000000000000000000000000000000000000000000000000000000d0030000000000000000000000000000000000000000000000000000000000000000000
def fp143 : Nat := 0x1000420000000000000000000001c0000000000000000000000000000000000000001c1000000000000000000000000000000000000000000000000000000000000000000000000000000000000000000000000000000000000000000000050000000000000000000000000000000000000000000000000000000000000000000
def fp144 : Nat := 0x1000420000000000000000000001c0000000000000000000000000000000000000001c10000000000000000000000000000000000000000000000000000000000000000000000000000000000000000000000000000000000000000000c00d0000000000000000000000000000000000000000000000000000000000000000000
def fp145 : Nat := 0x1000420000000000000000000001c0000000000000000000000000000000000000001c1000000000000000000000000000000000000000000000000000000000000000000000000000000000000000000000000000000000000005020000000000000000000000000000000000000000000000000000000000000000000000000
def fp146 : Nat := 0x1000420000000000000000000001c0000000000000000000000000000000000000001c1000000000000000000000000000000000000000000000000000000000000000000000000000000000000000000000000000000000000007060000000000000000000000000000000000000000000000000000000000000000000000000
def fp147 : Nat := 0x10000200000000000000000000000000000000000000000000000000000000000000000000000000000000000000000000000000000000000000000000000000000000000000000000000000000000000000000000000000000000f80000000000000000000000000000000000000000000000000000000000000000000000000
def fp148 : Nat := 0x1000400000000000000000000001c0000000000000000000000000000000000000001c1000000000000000000000000000000000000000000000000000000000000000000000000000000000000000000000000000000000000000001800000006000000000000000000000000000000000000000000000000000000000000000
def fp149 : Nat := 0x10000200000000000000000000000000000000000000000000000000000000000000000000000000000000000000000000000000000000000000000000000000000000000000000000000000000000000000000000000000000000000000000002000000000000000000000000000000000000000000000000000000000000000
def fp150 : Nat := 0x1000420000000000000000000001c0000000000000000000000000000000000000001c1000000000000000000000000000000000000000000000000000000000000000000000000000000000000000000000000000000000000000001800000006000000000000000000000000000000000000000000000000000000000000000

theorem State.setCh_foot (s : State) (n : Nat) (f : Chan → Chan) : Foot fp133 s (State.setCh s n f) := by
  have h : Foot fp133 s s := Foot.refl
  unfold State.setCh
  repeat' first
    | with_reducible assumption
    | (fail_if_no_progress extract_lets +onlyGivenNames x; first | refine Foot.keepHost x ?_ | refine Foot.keepMbx x ?_ | clear_value x)
    | fail_if_no_progress ((with_reducible apply Foot.setTev); (· rfl))

theorem State.setNext_foot (s : State) (n : Nat) (k : Nat) (at16 : Nat) : Foot fp134 s (State.setNext s n k at16) := by
  have h : Foot fp134 s s := Foot.refl
  unfold State.setNext
  repeat' first
    | with_reducible assumption
    | ((with_reducible apply Foot.wr); (· rfl); (· first | exact Or.inr rfl))
    | ((with_reducible apply Foot.step (State.setCh_foot ..)); (· rfl))

theorem State.chEvent_foot (s : State) (n : Nat) : Foot fp8 s (State.chEvent s n) := by
  have h : Foot fp8 s s := Foot.refl
  unfold State.chEvent
  repeat' first
    | with_reducible assumption
    | ((with_reducible apply Foot.step (State.event_foot ..)); (· rfl))

theorem State.chIdle_foot (s : State) (n : Nat) : Foot fp135 s (State.chIdle s n) := by
  have h : Foot fp135 s s := Foot.refl
  unfold State.chIdle
  repeat' first
    | with_reducible assumption
    | ((with_reducible apply Foot.wr); (· rfl); (· first | exact Or.inr rfl))
    | ((with_reducible apply Foot.step (State.setCh_foot ..)); (· rfl))

theorem State.chEdge_foot (s : State) (n : Nat) (active : Bool) (step : Nat) : Foot fp3 s (State.chEdge s n active step) := by
  have h : Foot fp3 s s := Foot.refl
  unfold State.chEdge
  repeat' first
    | with_reducible assumption
    | with_reducible apply Foot.ite
    | ((with_reducible apply Foot.step (State.emit_foot ..)); (· rfl))
    | split

theorem State.chPulse_foot (s : State) (n : Nat) (at16 : Nat) : Foot fp136 s (State.chPulse s n at16) := by
  have h : Foot fp136 s s := Foot.refl
  unfold State.chPulse
  repeat' first
    | with_reducible assumption
    | with_reducible apply Foot.ite
    | ((with_reducible apply Foot.step (State.setCh_foot ..)); (· rfl))
    | ((with_reducible apply Foot.step (State.chEdge_foot ..)); (· rfl))
    | (fail_if_no_progress extract_lets +onlyGivenNames x; first | (refine Foot.cut x ?_ (fun hx => ?_); (on_goal 1 => subst x); (on_goal 2 => clear_value x)) | (refine Foot.cut2 x ?_ (fun hx => ?_); (on_goal 1 => subst x); (on_goal 2 => clear_value x)) | refine Foot.keepHost x ?_ | refine Foot.keepMbx x ?_ | clear_value x)
    | split

theorem State.chFall_foot (s : State) (n : Nat) : Foot fp136 s (State.chFall s n) := by
  have h : Foot fp136 s s := Foot.refl
  unfold State.chFall
  repeat' first
    | with_reducible assumption
    | with_reducible apply Foot.ite
    | ((with_reducible apply Foot.step (State.setCh_foot ..)); (· rfl))
    | ((with_reducible apply Foot.step (State.chEdge_foot ..)); (· rfl))
    | (fail_if_no_progress extract_lets +onlyGivenNames x; first | (refine Foot.cut x ?_ (fun hx => ?_); (on_goal 1 => subst x); (on_goal 2 => clear_value x)) | (refine Foot.cut2 x ?_ (fun hx => ?_); (on_goal 1 => subst x); (on_goal 2 => clear_value x)) | refine Foot.keepHost x ?_ | refine Foot.keepMbx x ?_ | clear_value x)
    | split

theorem State.refuseArm_foot (s : State) (n : Nat) (status : Nat) : Foot fp137 s (State.refuseArm s n status) := by
  have h : Foot fp137 s s := Foot.refl
  unfold State.refuseArm
  repeat' first
    | with_reducible assumption
    | ((with_reducible apply Foot.wr); (· rfl); (· first | exact Or.inr rfl))
    | ((with_reducible apply Foot.inc); (· rfl); (· first | exact Or.inr rfl))

theorem State.tevArm_foot (s : State) (n : Nat) : Foot fp138 s (State.tevArm s n) := by
  have h : Foot fp138 s s := Foot.refl
  unfold State.tevArm
  refine Foot.ite h ?_
  generalize s.armRefused n = r
  cases r with
  | some st => exact Foot.step (State.refuseArm_foot ..) rfl h
  | none =>
    refine Foot.ite (Foot.step (State.refuseArm_foot ..) rfl h) ?_
    extract_lets +onlyGivenNames late x y
    have hx : Foot fp138 s x := by
      simp only [x]
      repeat' first
        | with_reducible assumption
        | ((with_reducible apply Foot.wr); (· rfl); (· exact Or.inr rfl))
    have hy : Foot fp138 s y := Foot.ite (by (with_reducible apply Foot.wr); (· rfl); (· exact Or.inr rfl); exact hx) hx
    clear_value y
    extract_lets +onlyGivenNames z
    have hz : Foot fp138 s z := Foot.step (State.setCh_foot ..) rfl hy
    clear_value z
    refine Foot.ite (Foot.ite ?_ ?_) ?_
    · exact Foot.step (State.chEvent_foot ..) rfl (Foot.step (State.chIdle_foot ..) rfl hz)
    · exact Foot.step (State.setNext_foot ..) rfl hz
    · exact Foot.step (State.setNext_foot ..) rfl hz

theorem execTevArm_foot (n : Nat) (s : State) (t' : State) (ht : execTevArm n s = .next t') : Foot fp138 s t' := by
  have h : Foot fp138 s s := Foot.refl
  rw [← Host.Outcome.next.inj ht]
  repeat' first
    | with_reducible assumption
    | ((with_reducible apply Foot.inDom); (on_goal 1 => intro _ _))
    | ((with_reducible apply Foot.step (State.tevArm_foot ..)); (· rfl))

theorem State.chStop_foot (s : State) (n : Nat) : Foot fp139 s (State.chStop s n) := by
  have h : Foot fp139 s s := Foot.refl
  unfold State.chStop
  repeat' first
    | with_reducible assumption
    | with_reducible apply Foot.ite
    | ((with_reducible apply Foot.step (State.setCh_foot ..)); (· rfl))
    | ((with_reducible apply Foot.step (State.chEvent_foot ..)); (· rfl))
    | ((with_reducible apply Foot.step (State.chIdle_foot ..)); (· rfl))
    | split

theorem State.tevDisarm_foot (s : State) (n : Nat) : Foot fp140 s (State.tevDisarm s n) := by
  have h : Foot fp140 s s := Foot.refl
  unfold State.tevDisarm
  repeat' first
    | with_reducible assumption
    | with_reducible apply Foot.ite
    | ((with_reducible apply Foot.wr); (· rfl); (· first | exact Or.inr rfl))
    | ((with_reducible apply Foot.step (State.chStop_foot ..)); (· rfl))
    | split

theorem execTevDisarm_foot (n : Nat) (s : State) (t' : State) (ht : execTevDisarm n s = .next t') : Foot fp140 s t' := by
  have h : Foot fp140 s s := Foot.refl
  rw [← Host.Outcome.next.inj ht]
  repeat' first
    | with_reducible assumption
    | ((with_reducible apply Foot.inDom); (on_goal 1 => intro _ _))
    | ((with_reducible apply Foot.step (State.tevDisarm_foot ..)); (· rfl))

theorem State.tevConfig_foot (s : State) (n : Nat) (off : Nat) (v : Nat) : Foot fp141 s (State.tevConfig s n off v) := by
  have h : Foot fp141 s s := Foot.refl
  unfold State.tevConfig
  refine Foot.ite h ?_
  extract_lets +onlyGivenNames busy guard
  have hg : ∀ R x, rowIn fp141 R = true → R.legStride = 0 → Foot fp141 s (guard R x) := fun R x hr hl =>
    Foot.ite (Foot.wr rfl (Or.inr rfl) h) (Foot.wr hr (Or.inr hl) h)
  clear_value guard
  repeat' first
    | with_reducible assumption
    | with_reducible apply Foot.ite
    | ((with_reducible apply hg); (· rfl); (· rfl))
    | ((with_reducible apply Foot.wr); (· rfl); (· exact Or.inr rfl))
    | (fail_if_no_progress extract_lets +onlyGivenNames x; refine Foot.cut x ?_ (fun hx => ?_); (on_goal 1 => subst x); (on_goal 2 => clear_value x))
    | split

theorem execTevConfigWrite_foot (n : Nat) (off : Nat) (v : BitVec 32) (s : State) (t' : State) (ht : execTevConfigWrite n off v s = .next t') : Foot fp141 s t' := by
  have h : Foot fp141 s s := Foot.refl
  rw [← Host.Outcome.next.inj ht]
  repeat' first
    | with_reducible assumption
    | ((with_reducible apply Foot.inDom); (on_goal 1 => intro _ _))
    | ((with_reducible apply Foot.step (State.tevConfig_foot ..)); (· rfl))

theorem State.stopPartner_foot (s : State) (n : Nat) : Foot fp139 s (State.stopPartner s n) := by
  have h : Foot fp139 s s := Foot.refl
  unfold State.stopPartner
  repeat' first
    | with_reducible assumption
    | with_reducible apply Foot.ite
    | ((with_reducible apply Foot.step (State.chStop_foot ..)); (· rfl))
    | split

theorem State.tevFire_foot (s : State) (n : Nat) : Foot fp142 s (State.tevFire s n) := by
  have h : Foot fp142 s s := Foot.refl
  unfold State.tevFire
  repeat' first
    | with_reducible assumption
    | with_reducible apply Foot.ite
    | ((with_reducible apply Foot.wr); (· rfl); (· first | exact Or.inr rfl))
    | ((with_reducible apply Foot.incSat); (· rfl); (· first | exact Or.inr rfl))
    | ((with_reducible apply Foot.step (State.setNext_foot ..)); (· rfl))
    | ((with_reducible apply Foot.step (State.chEvent_foot ..)); (· rfl))
    | ((with_reducible apply Foot.step (State.chIdle_foot ..)); (· rfl))
    | ((with_reducible apply Foot.step (State.chEdge_foot ..)); (· rfl))
    | ((with_reducible apply Foot.step (State.chPulse_foot ..)); (· rfl))
    | ((with_reducible apply Foot.step (State.stopPartner_foot ..)); (· rfl))
    | (fail_if_no_progress extract_lets +onlyGivenNames x; first | (refine Foot.cut x ?_ (fun hx => ?_); (on_goal 1 => subst x); (on_goal 2 => clear_value x)) | refine Foot.keepHost x ?_ | refine Foot.keepMbx x ?_ | clear_value x)
    | split

theorem State.tevPulseEnd_foot (s : State) (n : Nat) : Foot fp139 s (State.tevPulseEnd s n) := by
  have h : Foot fp139 s s := Foot.refl
  unfold State.tevPulseEnd
  repeat' first
    | with_reducible assumption
    | with_reducible apply Foot.ite
    | ((with_reducible apply Foot.step (State.chEvent_foot ..)); (· rfl))
    | ((with_reducible apply Foot.step (State.chIdle_foot ..)); (· rfl))
    | ((with_reducible apply Foot.step (State.chFall_foot ..)); (· rfl))
    | (fail_if_no_progress extract_lets +onlyGivenNames x; first | (refine Foot.cut x ?_ (fun hx => ?_); (on_goal 1 => subst x); (on_goal 2 => clear_value x)) | (refine Foot.cut2 x ?_ (fun hx => ?_); (on_goal 1 => subst x); (on_goal 2 => clear_value x)) | refine Foot.keepHost x ?_ | refine Foot.keepMbx x ?_ | clear_value x)
    | split

theorem execTevPulseEnd_foot (n : Nat) (s : State) (t' : State) (ht : execTevPulseEnd n s = .next t') : Foot fp139 s t' := by
  have h : Foot fp139 s s := Foot.refl
  rw [← Host.Outcome.next.inj ht]
  repeat' first
    | with_reducible assumption
    | ((with_reducible apply Foot.inDom); (on_goal 1 => intro _ _))
    | ((with_reducible apply Foot.step (State.tevPulseEnd_foot ..)); (· rfl))

theorem State.chCancel_foot (s : State) (n : Nat) (status : Nat) : Foot fp143 s (State.chCancel s n status) := by
  have h : Foot fp143 s s := Foot.refl
  unfold State.chCancel
  repeat' first
    | with_reducible assumption
    | with_reducible apply Foot.ite
    | ((with_reducible apply Foot.wr); (· rfl); (· first | exact Or.inr rfl))
    | ((with_reducible apply Foot.step (State.setCh_foot ..)); (· rfl))
    | ((with_reducible apply Foot.step (State.chEvent_foot ..)); (· rfl))
    | ((with_reducible apply Foot.step (State.chIdle_foot ..)); (· rfl))
    | (fail_if_no_progress extract_lets +onlyGivenNames x; first | (refine Foot.cut x ?_ (fun hx => ?_); (on_goal 1 => subst x); (on_goal 2 => clear_value x)) | (refine Foot.cut2 x ?_ (fun hx => ?_); (on_goal 1 => subst x); (on_goal 2 => clear_value x)) | refine Foot.keepHost x ?_ | refine Foot.keepMbx x ?_ | clear_value x)
    | split

theorem State.chRebase_foot (s : State) (n : Nat) : Foot fp144 s (State.chRebase s n) := by
  have h : Foot fp144 s s := Foot.refl
  unfold State.chRebase
  repeat' first
    | with_reducible assumption
    | with_reducible apply Foot.ite
    | ((with_reducible apply Foot.wr); (· rfl); (· first | exact Or.inr rfl))
    | ((with_reducible apply Foot.step (State.setCh_foot ..)); (· rfl))
    | ((with_reducible apply Foot.step (State.setNext_foot ..)); (· rfl))
    | ((with_reducible apply Foot.step (State.chEvent_foot ..)); (· rfl))
    | ((with_reducible apply Foot.step (State.chIdle_foot ..)); (· rfl))
    | ((with_reducible apply Foot.step (State.chCancel_foot ..)); (· rfl))
    | (fail_if_no_progress extract_lets +onlyGivenNames x; first | (refine Foot.cut x ?_ (fun hx => ?_); (on_goal 1 => subst x); (on_goal 2 => clear_value x)) | (refine Foot.cut2 x ?_ (fun hx => ?_); (on_goal 1 => subst x); (on_goal 2 => clear_value x)) | refine Foot.keepHost x ?_ | refine Foot.keepMbx x ?_ | clear_value x)
    | split

theorem State.rebaseChannels_foot (s : State) : Foot fp144 s (State.rebaseChannels s) := by
  have h : Foot fp144 s s := Foot.refl
  unfold State.rebaseChannels
  repeat' first
    | with_reducible assumption
    | ((with_reducible apply Foot.step (State.chRebase_foot ..)); (· rfl))
    | ((with_reducible apply Foot.foldl); (on_goal 1 => intro _ _ _))

theorem State.tevSleep_foot (s : State) : Foot fp140 s (State.tevSleep s) := by
  have h : Foot fp140 s s := Foot.refl
  unfold State.tevSleep
  repeat' first
    | with_reducible assumption
    | with_reducible apply Foot.ite
    | ((with_reducible apply Foot.wr); (· rfl); (· first | exact Or.inr rfl))
    | ((with_reducible apply Foot.step (State.chEvent_foot ..)); (· rfl))
    | ((with_reducible apply Foot.step (State.chIdle_foot ..)); (· rfl))
    | ((with_reducible apply Foot.foldl); (on_goal 1 => intro _ _ _))
    | (fail_if_no_progress extract_lets +onlyGivenNames x; first | (refine Foot.cut x ?_ (fun hx => ?_); (on_goal 1 => subst x); (on_goal 2 => clear_value x)) | refine Foot.keepHost x ?_ | refine Foot.keepMbx x ?_ | clear_value x)
    | fail_if_no_progress ((with_reducible apply Foot.setTev); (· rfl))
    | split

theorem State.ppsEdge_foot (s : State) (active : Bool) (step : Nat) : Foot fp3 s (State.ppsEdge s active step) := by
  have h : Foot fp3 s s := Foot.refl
  unfold State.ppsEdge
  repeat' first
    | with_reducible assumption
    | ((with_reducible apply Foot.step (State.emit_foot ..)); (· rfl))

theorem State.ppsPulse_foot (s : State) : Foot fp136 s (State.ppsPulse s) := by
  have h : Foot fp136 s s := Foot.refl
  unfold State.ppsPulse
  repeat' first
    | with_reducible assumption
    | with_reducible apply Foot.ite
    | ((with_reducible apply Foot.step (State.ppsEdge_foot ..)); (· rfl))
    | (fail_if_no_progress extract_lets +onlyGivenNames x; first | refine Foot.keepHost x ?_ | refine Foot.keepMbx x ?_ | clear_value x)
    | fail_if_no_progress ((with_reducible apply Foot.setTev); (· rfl))
    | split

theorem execPpsOutPulse_foot (s : State) (t' : State) (ht : execPpsOutPulse s = .next t') : Foot fp136 s t' := by
  have h : Foot fp136 s s := Foot.refl
  rw [← Host.Outcome.next.inj ht]
  repeat' first
    | with_reducible assumption
    | ((with_reducible apply Foot.inDom); (on_goal 1 => intro _ _))
    | ((with_reducible apply Foot.step (State.ppsPulse_foot ..)); (· rfl))

theorem State.ppsFall_foot (s : State) : Foot fp136 s (State.ppsFall s) := by
  have h : Foot fp136 s s := Foot.refl
  unfold State.ppsFall
  repeat' first
    | with_reducible assumption
    | with_reducible apply Foot.ite
    | ((with_reducible apply Foot.step (State.ppsEdge_foot ..)); (· rfl))
    | (fail_if_no_progress extract_lets +onlyGivenNames x; first | refine Foot.keepHost x ?_ | refine Foot.keepMbx x ?_ | clear_value x)
    | fail_if_no_progress ((with_reducible apply Foot.setTev); (· rfl))
    | split

theorem execPpsPulseEnd_foot (s : State) (t' : State) (ht : execPpsPulseEnd s = .next t') : Foot fp136 s t' := by
  have h : Foot fp136 s s := Foot.refl
  rw [← Host.Outcome.next.inj ht]
  repeat' first
    | with_reducible assumption
    | ((with_reducible apply Foot.inDom); (on_goal 1 => intro _ _))
    | ((with_reducible apply Foot.step (State.ppsFall_foot ..)); (· rfl))

theorem State.setCap_foot (s : State) (i : Nat) (f : Cap → Cap) : Foot fp133 s (State.setCap s i f) := by
  have h : Foot fp133 s s := Foot.refl
  unfold State.setCap
  repeat' first
    | with_reducible assumption
    | (fail_if_no_progress extract_lets +onlyGivenNames x; first | refine Foot.keepHost x ?_ | refine Foot.keepMbx x ?_ | clear_value x)
    | fail_if_no_progress ((with_reducible apply Foot.setTev); (· rfl))

theorem State.capture_foot (s : State) (i : Nat) (rising : Bool) (fine : Nat) : Foot fp145 s (State.capture s i rising fine) := by
  have h : Foot fp145 s s := Foot.refl
  unfold State.capture
  repeat' first
    | with_reducible assumption
    | with_reducible apply Foot.ite
    | ((with_reducible apply Foot.wr); (· rfl); (· first | exact Or.inr rfl))
    | ((with_reducible apply Foot.inc); (· rfl); (· first | exact Or.inr rfl))
    | ((with_reducible apply Foot.step (State.event_foot ..)); (· rfl))
    | ((with_reducible apply Foot.step (State.setCap_foot ..)); (· rfl))
    | (fail_if_no_progress extract_lets +onlyGivenNames x; first | (refine Foot.cut x ?_ (fun hx => ?_); (on_goal 1 => subst x); (on_goal 2 => clear_value x)) | (refine Foot.cut2 x ?_ (fun hx => ?_); (on_goal 1 => subst x); (on_goal 2 => clear_value x)) | refine Foot.keepHost x ?_ | refine Foot.keepMbx x ?_ | clear_value x)
    | split

theorem State.tcapEdge_foot (s : State) (i : Nat) (rising : Bool) (widthPs : Nat) (wide : Bool) (fine : Nat) : Foot fp146 s (State.tcapEdge s i rising widthPs wide fine) := by
  have h : Foot fp146 s s := Foot.refl
  unfold State.tcapEdge
  repeat' first
    | with_reducible assumption
    | with_reducible apply Foot.ite
    | ((with_reducible apply Foot.wr); (· rfl); (· first | exact Or.inr rfl))
    | ((with_reducible apply Foot.inc); (· rfl); (· first | exact Or.inr rfl))
    | ((with_reducible apply Foot.step (State.capture_foot ..)); (· rfl))
    | (fail_if_no_progress extract_lets +onlyGivenNames x; first | (refine Foot.cut x ?_ (fun hx => ?_); (on_goal 1 => subst x); (on_goal 2 => clear_value x)) | (refine Foot.cut2 x ?_ (fun hx => ?_); (on_goal 1 => subst x); (on_goal 2 => clear_value x)) | refine Foot.keepHost x ?_ | refine Foot.keepMbx x ?_ | clear_value x)
    | split

theorem State.tcapPop_foot (s : State) (i : Nat) : Foot fp147 s (State.tcapPop s i) := by
  have h : Foot fp147 s s := Foot.refl
  unfold State.tcapPop
  repeat' first
    | with_reducible assumption
    | with_reducible apply Foot.ite
    | ((with_reducible apply Foot.wr); (· rfl); (· first | exact Or.inr rfl))
    | ((with_reducible apply Foot.step (State.emit_foot ..)); (· rfl))
    | ((with_reducible apply Foot.step (State.setCap_foot ..)); (· rfl))
    | (fail_if_no_progress extract_lets +onlyGivenNames x; first | (refine Foot.cut x ?_ (fun hx => ?_); (on_goal 1 => subst x); (on_goal 2 => clear_value x)) | (refine Foot.cut2 x ?_ (fun hx => ?_); (on_goal 1 => subst x); (on_goal 2 => clear_value x)) | refine Foot.keepHost x ?_ | refine Foot.keepMbx x ?_ | clear_value x)
    | split

theorem execTcapHeadPop_foot (i : Nat) (s : State) (t' : State) (ht : execTcapHeadPop i s = .next t') : Foot fp147 s t' := by
  have h : Foot fp147 s s := Foot.refl
  rw [← Host.Outcome.next.inj ht]
  repeat' first
    | with_reducible assumption
    | ((with_reducible apply Foot.inDom); (on_goal 1 => intro _ _))
    | ((with_reducible apply Foot.step (State.tcapPop_foot ..)); (· rfl))

theorem State.ptmEnd_foot (s : State) (status : Nat) : Foot fp148 s (State.ptmEnd s status) := by
  have h : Foot fp148 s s := Foot.refl
  unfold State.ptmEnd
  repeat' first
    | with_reducible assumption
    | with_reducible apply Foot.ite
    | ((with_reducible apply Foot.wr); (· rfl); (· first | exact Or.inr rfl))
    | ((with_reducible apply Foot.inc); (· rfl); (· first | exact Or.inr rfl))
    | ((with_reducible apply Foot.step (State.pfEvent_foot ..)); (· rfl))
    | (fail_if_no_progress extract_lets +onlyGivenNames x; first | refine Foot.keepHost x ?_ | refine Foot.keepMbx x ?_ | clear_value x)
    | split

theorem State.ptmStart_foot (s : State) : Foot fp149 s (State.ptmStart s) := by
  have h : Foot fp149 s s := Foot.refl
  unfold State.ptmStart
  repeat' first
    | with_reducible assumption
    | ((with_reducible apply Foot.wr); (· rfl); (· first | exact Or.inr rfl))
    | ((with_reducible apply Foot.step (State.emit_foot ..)); (· rfl))
    | (fail_if_no_progress extract_lets +onlyGivenNames x; first | refine Foot.keepHost x ?_ | refine Foot.keepMbx x ?_ | clear_value x)
    | fail_if_no_progress ((with_reducible apply Foot.setTev); (· rfl))

theorem State.ptmAuto_foot (s : State) : Foot fp149 s (State.ptmAuto s) := by
  have h : Foot fp149 s s := Foot.refl
  unfold State.ptmAuto
  repeat' first
    | with_reducible assumption
    | with_reducible apply Foot.ite
    | ((with_reducible apply Foot.step (State.ptmStart_foot ..)); (· rfl))
    | (fail_if_no_progress extract_lets +onlyGivenNames x; first | refine Foot.keepHost x ?_ | refine Foot.keepMbx x ?_ | clear_value x)
    | fail_if_no_progress ((with_reducible apply Foot.setTev); (· rfl))
    | split

theorem execPtmAutoTimer_foot (s : State) (t' : State) (ht : execPtmAutoTimer s = .next t') : Foot fp149 s t' := by
  have h : Foot fp149 s s := Foot.refl
  rw [← Host.Outcome.next.inj ht]
  repeat' first
    | with_reducible assumption
    | ((with_reducible apply Foot.inDom); (on_goal 1 => intro _ _))
    | ((with_reducible apply Foot.step (State.ptmAuto_foot ..)); (· rfl))

theorem State.ptmTrigger_foot (s : State) : Foot fp150 s (State.ptmTrigger s) := by
  have h : Foot fp150 s s := Foot.refl
  unfold State.ptmTrigger
  repeat' first
    | with_reducible assumption
    | with_reducible apply Foot.ite
    | ((with_reducible apply Foot.wr); (· rfl); (· first | exact Or.inr rfl))
    | ((with_reducible apply Foot.step (State.ptmEnd_foot ..)); (· rfl))
    | ((with_reducible apply Foot.step (State.ptmStart_foot ..)); (· rfl))
    | split

theorem execPtmTrigger_foot (s : State) (t' : State) (ht : execPtmTrigger s = .next t') : Foot fp150 s t' := by
  have h : Foot fp150 s s := Foot.refl
  rw [← Host.Outcome.next.inj ht]
  repeat' first
    | with_reducible assumption
    | ((with_reducible apply Foot.inDom); (on_goal 1 => intro _ _))
    | ((with_reducible apply Foot.step (State.ptmTrigger_foot ..)); (· rfl))

theorem State.ptmResponse_foot (s : State) (master : Nat) (pdelay : Nat) : Foot fp150 s (State.ptmResponse s master pdelay) := by
  have h : Foot fp150 s s := Foot.refl
  unfold State.ptmResponse
  repeat' first
    | with_reducible assumption
    | with_reducible apply Foot.ite
    | ((with_reducible apply Foot.step (State.ptmEnd_foot ..)); (· rfl))
    | (fail_if_no_progress extract_lets +onlyGivenNames x; first | refine Foot.keepHost x ?_ | refine Foot.keepMbx x ?_ | clear_value x)
    | fail_if_no_progress ((with_reducible apply Foot.setTev); (· rfl))
    | split

theorem execPtmResponse_foot (master : BitVec 64) (pdelay : BitVec 32) (s : State) (t' : State) (ht : execPtmResponse master pdelay s = .next t') : Foot fp150 s t' := by
  have h : Foot fp150 s s := Foot.refl
  rw [← Host.Outcome.next.inj ht]
  repeat' first
    | with_reducible assumption
    | ((with_reducible apply Foot.inDom); (on_goal 1 => intro _ _))
    | ((with_reducible apply Foot.step (State.ptmResponse_foot ..)); (· rfl))

theorem State.ptmTimeout_foot (s : State) : Foot fp148 s (State.ptmTimeout s) := by
  have h : Foot fp148 s s := Foot.refl
  unfold State.ptmTimeout
  repeat' first
    | with_reducible assumption
    | with_reducible apply Foot.ite
    | ((with_reducible apply Foot.step (State.ptmEnd_foot ..)); (· rfl))
    | split

theorem execPtmTimeout_foot (s : State) (t' : State) (ht : execPtmTimeout s = .next t') : Foot fp148 s t' := by
  have h : Foot fp148 s s := Foot.refl
  rw [← Host.Outcome.next.inj ht]
  repeat' first
    | with_reducible assumption
    | ((with_reducible apply Foot.inDom); (on_goal 1 => intro _ _))
    | ((with_reducible apply Foot.step (State.ptmTimeout_foot ..)); (· rfl))

end Sys2Proof.Machine
end

