-- ==== Sys2Proof/Laws/FootTimeEngine.lean ====
section
/-! SUPPORT. What each operation of Machine/TimeEngine.lean can change (`Foot`). -/

namespace Sys2Proof.Machine

def fp151 : Nat := 0x100000000000000000000000000000000000000000000000000000000000000000000000000000000000000000000000000000000000000000000000000000000000000000000000000000000000000000000000000000000000000000000000000000000000000000000000000000000000000000000000000000000000
def fp152 : Nat := 0x1000410000000000000000000001c0000000000000000000000000000000000000001c1000000000000000000000000000000000000000000000000000000000000000000000000000000000000000000000000000000000000000000000000000000000000000000000000000300000000000000000000000000000000000000
def fp153 : Nat := 0x1000400000000000000000000001c0000000000000000000000000000000000000001c1000000000000000000000000000000000000000000000000000000000000000000000000000000000000000000000000000000000000000000000000000000000000000000000000000004000000000000000000000000000000000000
def fp154 : Nat := 0x100000000000000000000000000000000000000000000000000000000000000000000000000000000000000000000000000000000000000000000000000000000000000000000000000000000000000000000000000000000000000000000000000000000180000000000000000000000000000000000000000000000000
def fp155 : Nat := 0x1008410000000000000000000001c0000000000000000000000000000000000000001c1000000000000000000000000000000000000000000000000000000000000000000000000000000000000000000000000000000000000000000000000000008000000000180000000000324000000000000000000000000000000000000
def fp156 : Nat := 0x1000400000000000000000000001c0000000000000000000000000000000000000001c1000000000000000000000000000000000000000000000000000000000000000000000000000000000000000000000000000000000000000000000000000000000000000000000000000002000000000000000000000000000000000000
def fp157 : Nat := 0x1000400000000000000000000001c0000000000000000000000000000000000000001c1000000000000000000000000000000000000000000000000000000000000000000000000000000000000000000000000000000000000000000000000000000000000000000000000000010000000000000000000000000000000000000
def fp158 : Nat := 0x1000410000000000000000000001c0000000000000000000000000000000000000001c1000000000000000000000000000000000000000000000000000000000000000000000000000000000000000000000000000000000000000000000000000000000000002180000000000310000000000000000000000000000000000000
def fp159 : Nat := 0x100843c000000000000000000001c0000000000000000000000000000000000000001c10000000000000000000000000000000000000000000000000000000000000000000000000000000000000000000000000000000000000000000c00d0000000000000000000000000000080000000000000000000000000000000000000
def fp160 : Nat := 0x100843c000000000000000000001c0000000000000000000000000000000000000001c10000000000000000000000000000000000000000000000000000000000000000000000000000000000000000000000000000000000000000000c00d00000000000000000000000000003c0000000000000000000000000000000000000
def fp161 : Nat := 0x100843c000000000000000000001c0000000000000000000000000000000000000001c10000000000000000000000000000000000000000000000000000000000000000000000000000000000000000000000000000000000000000000c00d000000c0000000001800000000003a6000000000000000000000000000000000000
def fp162 : Nat := 0x1c0000000000000000000000000000000000000000000000000000000000000000000000000000000000000000000000000000000000000000000000000000000000000000000000000000000000000000000000000000000000000000000000300000400000000000000000000000000000000000000000000000000000
def fp163 : Nat := 0x1c0000000000000000000000000000000000000000000000000000000000000000000000000000000000000000000000000000000000000000000000000000000000000000000000000000000000000000000000000000000000000000000000f00000400000000000000000000000000000000000000000000000000000
def fp164 : Nat := 0x100041c000000000000000000001c0000000000000000000000000000000000000001c1000000000000000000000000000000000000000000000000000000000000000000000000000000000000000000000000000000000000000000000000000000f00000402180000000000310000000000000000000000000000000000000
def fp165 : Nat := 0x1000400000000000000000000001c0000000000000000000000000000000000000001c10000000000000000000000000000000000000000000000000000000000000000000000000000000000000000000000000000000000000000000000000000000000000000000fc000000000000000000000000000000000000000000000
def fp166 : Nat := 0x100041c000000000000000000001c0000000000000000000000000000000000000001c1000000000000000000000000000000000000000000000000000000000000000000000000000000000000000000000000000000000000000000000000000000f000004021800fc000000310000000000000000000200000000000000000
def fp167 : Nat := 0x100041c000000000000000000001c0000000000000000000000000000000000000001c1000000000000000000000000000000000000000000000000000000000000000000000000000000000000000000000000000000000000000000000000000000000000002180000000000310000000000000000000000000000000000000
def fp168 : Nat := 0xc0000000000000000000000000000000000000000000000000000000000000000000000000000000000000000000000000000000000000000000000000000000000000000000000000000000000000000000000000000000000000000000000000000800000000000000000000000000000000000000000000000000000
def fp169 : Nat := 0x10000000000000000000000000000000000000000000000000000000
def fp170 : Nat := 0xc0000000000000000000000000000000000000000000000000000000000000000000000000000000000000000000000000000000000000000000000000000000000000000000000000000000000000000000000000000000000000000000000000010000000000000000000000000000000000000000000000000000000
def fp171 : Nat := 0x100040c000000000000000000001c0000000000000000000000000000000000000001c100000000000000000000000000000000000000000000000000000000000000000000000000000000000000000000000000000000000000000000000000000000001f004000000000000000000000000000000000000000000000000000
def fp172 : Nat := 0x100041c000000000000000000001c0000000000000000000000000000000000000001c100000000000000000000000000000000000000000000000000000000000000000000000000000000000000000000000000000000000000000000000000000000001f006180000000000310000000000000000000000000000000000000
def fp173 : Nat := 0x100041c000000000000000000001c0000000000000000000000000000000000000001c1000000000000000000000000000000000000000000000000000000000000000000000000000000000000000000000000000000000000000000000000000000000000008000000000000300000000000000000000000000000000000000
def fp174 : Nat := 0x100041c000000000000000000001c0000000000000000000000000000000000000001c1000000000000000000000000000000000000000000000000000000000000000000000000000000000000000000000000000000000000000000000000000000000010008000000000000300000000000000000000000000000000000000
def fp175 : Nat := 0x100843c000000000000000000001c0000000000000000000000000000000000000001c10000000000000000000000000000000000000000000000000000000000000000000000000000000000000000000000000000000000000000000c00d00000080000000001800000000003e6000000000000000000000000000000000000
def fp176 : Nat := 0x100843c000000000000000000001c0000000000000000000000000000000000000001c10000000000000000000000000000000000000000000000000000000000000000000000000000000000000000000000000000000000000000000c00d00000080000000021800000000003f6000000000000000000000000000000000000
def fp177 : Nat := 0x1000410000000000000000000001c0000000000000000000000000000000000000001c1000000000000000000000000000000000000800000000000000000000000000000000000000000000000000000000000000000000000000000000000000000000000000200000000000000000000000000000000000000000000000000
def fp178 : Nat := 0x1000410000000000000000000001c0000000000000000000000000000000000000001c10000000000000000000000000000000000008000000000000000000000000000000000000000000000000000000000000000000000000000000000000000000c0000000000000000000308000000000000000000000000000000000000
def fp179 : Nat := 0x100000000000000000000000000000000000000000000000000000000000000000000000000000000000000000000000000000000000000000000000000000000000000000000000000000000000000000000000000000000000000000000000000000000000000007fc000000000000000000000000000000000000000
def fp180 : Nat := 0x1000400000000000000000000001c0000000000000000000000000000000000000001c1000000000000000000000000000000000000000000000000000000000000000000000000000000000000000000000000000000000000000000000000000002000000000000000000000000800000000000000000000000000000000000
def fp181 : Nat := 0x1000410000000000000000000001c0000000000000000000000000000000000000001c1000000000000000000000000000000000000000000000000000000000000000000000000000000000000000000000000000000000000000000000000000002000000000000000000000000c40000000000000000000000000000000000
def fp182 : Nat := 0x100000000000000000000000000000000000000000000000000000000000000000000000000000000000000000000000000000000000000000000000000000000000000000000000000000000000000000000000000000000000000000000000000000000000000000000000400000000000000000000000000000000000
def fp183 : Nat := 0x1000410000000000000000000001c0000000000000000000000000000000000000001c1000000000000000000000000000000000000000000000000000000000000000000000000000000000000000000000000000000000000000000000000000002000000000000000000000000c00000000000000000000000000000000000
def fp184 : Nat := 0x100843c000000000000000000001c0000000000000000000000000000000000000001c10000000000000000000000000000000000000000000000000000000000000000000000000000000000000000000000000000000000000000000c00d000000f0000000001800000000003a6c00000000000000000000000000000000000
def fp185 : Nat := 0x100843d000000000000000000001c0000000000000000000000000000000000000001c10000000000000000000000000000000000000000000000000000000000000000000000000000000000000000000000000000000000000000000c00d000000f0000000001800000007fc3a6c00000000000000000000000000000000000
def fp186 : Nat := 0x100843c000000000000000000001c0000000000000000000000000000000000000001c10000000000000000000000000000000000000000000000000000000000000000000000000000000000000000000000000000000000000000000d00f000000f0000000001800000000003a6c00000000000000000000000000000000000
def fp187 : Nat := 0x100843c000000000000000000001c0000000000000000000000000000000000000001c10000000000000000000000000000000000000000000000000000000000000000000000000000000000000000000000000000000000000070600c00d000000f0000000001800000000003a6c00000000000000000000000000000000000
def fp188 : Nat := 0x1000000000000000000000000000000000000000000000000000000000000000000000000000000000000000000000000000000000000000000000000000000000000000000000000000000000000000000000000000000000000000000000002a0000000000000ff800001400000000000000000000000000000000000

theorem State.tick_foot (s : State) : Foot fp151 s (State.tick s) := by
  have h : Foot fp151 s s := Foot.refl
  unfold State.tick
  repeat' first
    | with_reducible assumption
    | (fail_if_no_progress extract_lets +onlyGivenNames x; first | refine Foot.keepHost x ?_ | refine Foot.keepMbx x ?_ | clear_value x)
    | fail_if_no_progress ((with_reducible apply Foot.setTime); (· rfl))

theorem execTimeTick_foot (s : State) (t' : State) (ht : execTimeTick s = .next t') : Foot fp151 s t' := by
  have h : Foot fp151 s s := Foot.refl
  rw [← Host.Outcome.next.inj ht]
  repeat' first
    | with_reducible assumption
    | ((with_reducible apply Foot.inDom); (on_goal 1 => intro _ _))
    | ((with_reducible apply Foot.step (State.tick_foot ..)); (· rfl))

theorem State.limiterStep_foot (s : State) : Foot fp151 s (State.limiterStep s) := by
  have h : Foot fp151 s s := Foot.refl
  unfold State.limiterStep
  repeat' first
    | with_reducible assumption
    | (fail_if_no_progress extract_lets +onlyGivenNames x; first | refine Foot.keepHost x ?_ | refine Foot.keepMbx x ?_ | clear_value x)
    | fail_if_no_progress ((with_reducible apply Foot.setTime); (· rfl))

theorem execLimiterStep_foot (s : State) (t' : State) (ht : execLimiterStep s = .next t') : Foot fp151 s t' := by
  have h : Foot fp151 s s := Foot.refl
  rw [← Host.Outcome.next.inj ht]
  repeat' first
    | with_reducible assumption
    | ((with_reducible apply Foot.inDom); (on_goal 1 => intro _ _))
    | ((with_reducible apply Foot.step (State.limiterStep_foot ..)); (· rfl))

theorem State.setTgt_foot (s : State) (x : Nat) : Foot fp151 s (State.setTgt s x) := by
  have h : Foot fp151 s s := Foot.refl
  unfold State.setTgt
  repeat' first
    | with_reducible assumption
    | (fail_if_no_progress extract_lets +onlyGivenNames x; first | refine Foot.keepHost x ?_ | refine Foot.keepMbx x ?_ | clear_value x)
    | fail_if_no_progress ((with_reducible apply Foot.setTime); (· rfl))

theorem State.applyTrims_foot (s : State) : Foot fp151 s (State.applyTrims s) := by
  have h : Foot fp151 s s := Foot.refl
  unfold State.applyTrims
  repeat' first
    | with_reducible assumption
    | (fail_if_no_progress extract_lets +onlyGivenNames x; first | refine Foot.keepHost x ?_ | refine Foot.keepMbx x ?_ | clear_value x)
    | fail_if_no_progress ((with_reducible apply Foot.setTime); (· rfl))

theorem State.settleBound_foot (s : State) : Foot fp152 s (State.settleBound s) := by
  have h : Foot fp152 s s := Foot.refl
  unfold State.settleBound
  repeat' first
    | with_reducible assumption
    | with_reducible apply Foot.ite
    | ((with_reducible apply Foot.wr); (· rfl); (· first | exact Or.inr rfl))
    | ((with_reducible apply Foot.step (State.event_foot ..)); (· rfl))
    | (fail_if_no_progress extract_lets +onlyGivenNames x; first | (refine Foot.cut x ?_ (fun hx => ?_); (on_goal 1 => subst x); (on_goal 2 => clear_value x)) | refine Foot.keepHost x ?_ | refine Foot.keepMbx x ?_ | clear_value x)
    | fail_if_no_progress ((with_reducible apply Foot.setTime); (· rfl))
    | (rename_i he; refine Foot.cut _ (Foot.ofPair he ?_) (fun hx => ?_); (on_goal 2 => clear he))
    | split

theorem State.settleSquelch_foot (s : State) : Foot fp153 s (State.settleSquelch s) := by
  have h : Foot fp153 s s := Foot.refl
  unfold State.settleSquelch
  repeat' first
    | with_reducible assumption
    | with_reducible apply Foot.ite
    | ((with_reducible apply Foot.wr); (· rfl); (· first | exact Or.inr rfl))
    | ((with_reducible apply Foot.step (State.event_foot ..)); (· rfl))
    | (fail_if_no_progress extract_lets +onlyGivenNames x; first | (refine Foot.cut x ?_ (fun hx => ?_); (on_goal 1 => subst x); (on_goal 2 => clear_value x)) | (refine Foot.cut2 x ?_ (fun hx => ?_); (on_goal 1 => subst x); (on_goal 2 => clear_value x)) | refine Foot.keepHost x ?_ | refine Foot.keepMbx x ?_ | clear_value x)
    | split

theorem State.settleHo_foot (s : State) (b0 : Nat) : Foot fp154 s (State.settleHo s b0) := by
  have h : Foot fp154 s s := Foot.refl
  unfold State.settleHo
  repeat' first
    | with_reducible assumption
    | with_reducible apply Foot.ite
    | ((with_reducible apply Foot.wr); (· rfl); (· first | exact Or.inr rfl))
    | (fail_if_no_progress extract_lets +onlyGivenNames x; first | refine Foot.keepHost x ?_ | refine Foot.keepMbx x ?_ | clear_value x)
    | fail_if_no_progress ((with_reducible apply Foot.setTime); (· rfl))
    | split

theorem State.setQuality_foot (s : State) (q : Nat) : Foot fp155 s (State.setQuality s q) := by
  have h : Foot fp155 s s := Foot.refl
  unfold State.setQuality
  repeat' first
    | with_reducible assumption
    | with_reducible apply Foot.ite
    | ((with_reducible apply Foot.wr); (· rfl); (· first | exact Or.inr rfl))
    | ((with_reducible apply Foot.inc); (· rfl); (· first | exact Or.inr rfl))
    | ((with_reducible apply Foot.step (State.event_foot ..)); (· rfl))
    | ((with_reducible apply Foot.step (State.markBins_foot ..)); (· rfl))
    | ((with_reducible apply Foot.step (State.setTgt_foot ..)); (· rfl))
    | ((with_reducible apply Foot.step (State.settleBound_foot ..)); (· rfl))
    | ((with_reducible apply Foot.step (State.settleSquelch_foot ..)); (· rfl))
    | ((with_reducible apply Foot.step (State.settleHo_foot ..)); (· rfl))
    | (fail_if_no_progress extract_lets +onlyGivenNames x; first | (refine Foot.cut x ?_ (fun hx => ?_); (on_goal 1 => subst x); (on_goal 2 => clear_value x)) | refine Foot.keepHost x ?_ | refine Foot.keepMbx x ?_ | clear_value x)
    | fail_if_no_progress ((with_reducible apply Foot.setTime); (· rfl))
    | split

theorem State.rebaseRequest_foot (s : State) : Foot fp156 s (State.rebaseRequest s) := by
  have h : Foot fp156 s s := Foot.refl
  unfold State.rebaseRequest
  repeat' first
    | with_reducible assumption
    | with_reducible apply Foot.ite
    | ((with_reducible apply Foot.wr); (· rfl); (· first | exact Or.inr rfl))
    | ((with_reducible apply Foot.step (State.event_foot ..)); (· rfl))
    | split

theorem State.settleSource_foot (s : State) : Foot fp157 s (State.settleSource s) := by
  have h : Foot fp157 s s := Foot.refl
  unfold State.settleSource
  repeat' first
    | with_reducible assumption
    | with_reducible apply Foot.ite
    | ((with_reducible apply Foot.wr); (· rfl); (· first | exact Or.inr rfl))
    | ((with_reducible apply Foot.step (State.event_foot ..)); (· rfl))
    | (fail_if_no_progress extract_lets +onlyGivenNames x; first | (refine Foot.cut x ?_ (fun hx => ?_); (on_goal 1 => subst x); (on_goal 2 => clear_value x)) | (refine Foot.cut2 x ?_ (fun hx => ?_); (on_goal 1 => subst x); (on_goal 2 => clear_value x)) | refine Foot.keepHost x ?_ | refine Foot.keepMbx x ?_ | clear_value x)
    | split

theorem State.settleTime_foot (s : State) : Foot fp158 s (State.settleTime s) := by
  have h : Foot fp158 s s := Foot.refl
  unfold State.settleTime
  repeat' first
    | with_reducible assumption
    | with_reducible apply Foot.ite
    | ((with_reducible apply Foot.wr); (· rfl); (· first | exact Or.inr rfl | exact Or.inl (Leg.n_lt _) | decide))
    | ((with_reducible apply Foot.step (State.event_foot ..)); (· rfl))
    | ((with_reducible apply Foot.step (State.setTgt_foot ..)); (· rfl))
    | ((with_reducible apply Foot.step (State.settleBound_foot ..)); (· rfl))
    | ((with_reducible apply Foot.step (State.settleHo_foot ..)); (· rfl))
    | ((with_reducible apply Foot.step (State.settleSource_foot ..)); (· rfl))
    | (fail_if_no_progress extract_lets +onlyGivenNames x; first | refine Foot.keepHost x ?_ | refine Foot.keepMbx x ?_ | clear_value x)
    | fail_if_no_progress ((with_reducible apply Foot.setTime); (· rfl))
    | split

theorem State.toHoldover_foot (s : State) : Foot fp155 s (State.toHoldover s) := by
  have h : Foot fp155 s s := Foot.refl
  unfold State.toHoldover
  repeat' first
    | with_reducible assumption
    | with_reducible apply Foot.ite
    | ((with_reducible apply Foot.step (State.setQuality_foot ..)); (· rfl))
    | (fail_if_no_progress extract_lets +onlyGivenNames x; first | (refine Foot.cut x ?_ (fun hx => ?_); (on_goal 1 => subst x); (on_goal 2 => clear_value x)) | (refine Foot.cut2 x ?_ (fun hx => ?_); (on_goal 1 => subst x); (on_goal 2 => clear_value x)) | refine Foot.keepHost x ?_ | refine Foot.keepMbx x ?_ | clear_value x)
    | split

theorem State.flushLaunch_foot (s : State) (old40 : Nat) : Foot fp4 s (State.flushLaunch s old40) := by
  have h : Foot fp4 s s := Foot.refl
  unfold State.flushLaunch
  repeat' first
    | with_reducible assumption
    | ((with_reducible apply Foot.step (State.finish_foot ..)); (· rfl))
    | ((with_reducible apply Foot.foldl); (on_goal 1 => intro _ _ _))

theorem State.stepCounter_foot (s : State) (new40 : Nat) : Foot fp159 s (State.stepCounter s new40) := by
  have h : Foot fp159 s s := Foot.refl
  unfold State.stepCounter
  repeat' first
    | with_reducible assumption
    | with_reducible apply Foot.ite
    | ((with_reducible apply Foot.inc); (· rfl); (· first | exact Or.inr rfl))
    | ((with_reducible apply Foot.upd); (· rfl); (· rfl))
    | ((with_reducible apply Foot.step (State.stepBins_foot ..)); (· rfl))
    | ((with_reducible apply Foot.step (State.rebaseChannels_foot ..)); (· rfl))
    | ((with_reducible apply Foot.step (State.flushLaunch_foot ..)); (· rfl))
    | (fail_if_no_progress extract_lets +onlyGivenNames x; first | refine Foot.keepHost x ?_ | refine Foot.keepMbx x ?_ | clear_value x)
    | fail_if_no_progress ((with_reducible apply Foot.setTime); (· rfl))
    | split

theorem State.initialStep_foot (s : State) : Foot fp160 s (State.initialStep s) := by
  have h : Foot fp160 s s := Foot.refl
  unfold State.initialStep
  repeat' first
    | with_reducible assumption
    | ((with_reducible apply Foot.wr); (· rfl); (· first | exact Or.inr rfl))
    | ((with_reducible apply Foot.step (State.event_foot ..)); (· rfl))
    | ((with_reducible apply Foot.step (State.settleBound_foot ..)); (· rfl))
    | ((with_reducible apply Foot.step (State.stepCounter_foot ..)); (· rfl))
    | split

theorem State.rebase_foot (s : State) (new40 : Nat) : Foot fp161 s (State.rebase s new40) := by
  have h : Foot fp161 s s := Foot.refl
  unfold State.rebase
  repeat' first
    | with_reducible assumption
    | with_reducible apply Foot.ite
    | ((with_reducible apply Foot.wr); (· rfl); (· first | exact Or.inr rfl))
    | ((with_reducible apply Foot.inc); (· rfl); (· first | exact Or.inr rfl))
    | ((with_reducible apply Foot.step (State.event_foot ..)); (· rfl))
    | ((with_reducible apply Foot.step (State.settleBound_foot ..)); (· rfl))
    | ((with_reducible apply Foot.step (State.setQuality_foot ..)); (· rfl))
    | ((with_reducible apply Foot.step (State.stepCounter_foot ..)); (· rfl))
    | (fail_if_no_progress extract_lets +onlyGivenNames x; first | (refine Foot.cut x ?_ (fun hx => ?_); (on_goal 1 => subst x); (on_goal 2 => clear_value x)) | (refine Foot.cut2 x ?_ (fun hx => ?_); (on_goal 1 => subst x); (on_goal 2 => clear_value x)) | refine Foot.keepHost x ?_ | refine Foot.keepMbx x ?_ | clear_value x)
    | split

theorem State.takeTheta_foot (s : State) (l : Leg) (t : Int) : Foot fp162 s (State.takeTheta s l t) := by
  have h : Foot fp162 s s := Foot.refl
  unfold State.takeTheta
  repeat' first
    | with_reducible assumption
    | with_reducible apply Foot.ite
    | ((with_reducible apply Foot.wr); (· rfl); (· first | exact Or.inr rfl | exact Or.inl (Leg.n_lt _)))
    | ((with_reducible apply Foot.inc); (· rfl); (· first | exact Or.inr rfl))
    | ((with_reducible apply Foot.upd); (· rfl); (· rfl))
    | (fail_if_no_progress extract_lets +onlyGivenNames x; first | refine Foot.keepHost x ?_ | refine Foot.keepMbx x ?_ | clear_value x)
    | fail_if_no_progress ((with_reducible apply Foot.setTime); (· rfl))
    | split

theorem State.estimate_foot (s : State) (l : Leg) (ref : Nat) (t16 : Nat) : Foot fp163 s (State.estimate s l ref t16) := by
  have h : Foot fp163 s s := Foot.refl
  unfold State.estimate
  repeat' first
    | with_reducible assumption
    | with_reducible apply Foot.ite
    | ((with_reducible apply Foot.inc); (· rfl); (· first | exact Or.inr rfl))
    | ((with_reducible apply Foot.upd); (· rfl); (· rfl))
    | ((with_reducible apply Foot.step (State.takeTheta_foot ..)); (· rfl))
    | split

theorem State.markerCame_foot (s : State) (l : Leg) (sfc : Nat) : Foot fp164 s (State.markerCame s l sfc) := by
  have h : Foot fp164 s s := Foot.refl
  unfold State.markerCame
  repeat' first
    | with_reducible assumption
    | with_reducible apply Foot.ite
    | ((with_reducible apply Foot.upd); (· rfl); (· rfl))
    | ((with_reducible apply Foot.step (State.settleTime_foot ..)); (· rfl))
    | ((with_reducible apply Foot.step (State.estimate_foot ..)); (· rfl))
    | (fail_if_no_progress extract_lets +onlyGivenNames x; (refine Foot.cut x ?_ (fun hx => ?_); (on_goal 1 => subst x); (on_goal 2 => clear_value x)))
    | split

theorem State.copyUtc_foot (s : State) (ofs : Nat) (flags : Nat) (cls : Nat) : Foot fp165 s (State.copyUtc s ofs flags cls) := by
  have h : Foot fp165 s s := Foot.refl
  unfold State.copyUtc
  repeat' first
    | with_reducible assumption
    | with_reducible apply Foot.ite
    | ((with_reducible apply Foot.wr); (· rfl); (· first | exact Or.inr rfl))
    | ((with_reducible apply Foot.step (State.event_foot ..)); (· rfl))
    | (fail_if_no_progress extract_lets +onlyGivenNames x; first | (refine Foot.cut x ?_ (fun hx => ?_); (on_goal 1 => subst x); (on_goal 2 => clear_value x)) | (refine Foot.cut2 x ?_ (fun hx => ?_); (on_goal 1 => subst x); (on_goal 2 => clear_value x)) | refine Foot.keepHost x ?_ | refine Foot.keepMbx x ?_ | clear_value x)
    | split

theorem State.todAnnounce_foot (s : State) (l : Leg) (w : Nat) : Foot fp166 s (State.todAnnounce s l w) := by
  have h : Foot fp166 s s := Foot.refl
  unfold State.todAnnounce
  repeat' first
    | with_reducible assumption
    | with_reducible apply Foot.ite
    | ((with_reducible apply Foot.inc); (· rfl); (· first | exact Or.inr rfl | exact Or.inl (Leg.n_lt _)))
    | ((with_reducible apply Foot.upd); (· rfl); (· rfl))
    | ((with_reducible apply Foot.step (State.settleTime_foot ..)); (· rfl))
    | ((with_reducible apply Foot.step (State.estimate_foot ..)); (· rfl))
    | ((with_reducible apply Foot.step (State.copyUtc_foot ..)); (· rfl))
    | (fail_if_no_progress extract_lets +onlyGivenNames x; first | (refine Foot.cut x ?_ (fun hx => ?_); (on_goal 1 => subst x); (on_goal 2 => clear_value x)) | refine Foot.keepHost x ?_ | refine Foot.keepMbx x ?_ | clear_value x)
    | fail_if_no_progress ((with_reducible apply Foot.setTime); (· rfl))
    | split

theorem execTodAnnouncement_foot (l : Leg) (word : BitVec 256) (s : State) (t' : State) (ht : execTodAnnouncement l word s = .next t') : Foot fp166 s t' := by
  have h : Foot fp166 s s := Foot.refl
  rw [← Host.Outcome.next.inj ht]
  repeat' first
    | with_reducible assumption
    | ((with_reducible apply Foot.step (State.todAnnounce_foot ..)); (· rfl))

theorem State.todMissing_foot (s : State) (l : Leg) : Foot fp167 s (State.todMissing s l) := by
  have h : Foot fp167 s s := Foot.refl
  unfold State.todMissing
  repeat' first
    | with_reducible assumption
    | with_reducible apply Foot.ite
    | ((with_reducible apply Foot.upd); (· rfl); (· rfl))
    | ((with_reducible apply Foot.step (State.event_foot ..)); (· rfl))
    | ((with_reducible apply Foot.step (State.settleTime_foot ..)); (· rfl))
    | split

theorem execTodMissing_foot (l : Leg) (s : State) (t' : State) (ht : execTodMissing l s = .next t') : Foot fp167 s t' := by
  have h : Foot fp167 s s := Foot.refl
  rw [← Host.Outcome.next.inj ht]
  repeat' first
    | with_reducible assumption
    | ((with_reducible apply Foot.step (State.todMissing_foot ..)); (· rfl))

theorem State.timeBoundary_foot (s : State) (l : Leg) (whole : Bool) : Foot fp168 s (State.timeBoundary s l whole) := by
  have h : Foot fp168 s s := Foot.refl
  unfold State.timeBoundary
  repeat' first
    | with_reducible assumption
    | with_reducible apply Foot.ite
    | ((with_reducible apply Foot.wr); (· rfl); (· first | exact Or.inr rfl | exact Or.inl (Leg.n_lt _)))
    | ((with_reducible apply Foot.upd); (· rfl); (· rfl))
    | (fail_if_no_progress extract_lets +onlyGivenNames x; first | (refine Foot.cut x ?_ (fun hx => ?_); (on_goal 1 => subst x); (on_goal 2 => clear_value x)) | refine Foot.keepHost x ?_ | refine Foot.keepMbx x ?_ | clear_value x)
    | split

theorem State.putAsym_foot (s : State) (l : Leg) : Foot fp169 s (State.putAsym s l) := by
  have h : Foot fp169 s s := Foot.refl
  unfold State.putAsym
  repeat' first
    | with_reducible assumption
    | with_reducible apply Foot.ite
    | ((with_reducible apply Foot.wr); (· rfl); (· first | exact Or.inr rfl | exact Or.inl (Leg.n_lt _)))
    | (fail_if_no_progress extract_lets +onlyGivenNames x; first | (refine Foot.cut x ?_ (fun hx => ?_); (on_goal 1 => subst x); (on_goal 2 => clear_value x)) | (refine Foot.cut2 x ?_ (fun hx => ?_); (on_goal 1 => subst x); (on_goal 2 => clear_value x)) | refine Foot.keepHost x ?_ | refine Foot.keepMbx x ?_ | clear_value x)
    | split

theorem State.followLaser_foot (s : State) (l : Leg) : Foot fp170 s (State.followLaser s l) := by
  have h : Foot fp170 s s := Foot.refl
  unfold State.followLaser
  repeat' first
    | with_reducible assumption
    | with_reducible apply Foot.ite
    | ((with_reducible apply Foot.upd); (· rfl); (· rfl))
    | ((with_reducible apply Foot.step (State.putAsym_foot ..)); (· rfl))
    | split

theorem State.adoptFit_foot (s : State) (l : Leg) (f : Fit) : Foot fp171 s (State.adoptFit s l f) := by
  have h : Foot fp171 s s := Foot.refl
  unfold State.adoptFit
  repeat' first
    | with_reducible assumption
    | with_reducible apply Foot.ite
    | ((with_reducible apply Foot.wr); (· rfl); (· first | exact Or.inr rfl | exact Or.inl (Leg.n_lt _)))
    | ((with_reducible apply Foot.upd); (· rfl); (· rfl))
    | ((with_reducible apply Foot.step (State.event_foot ..)); (· rfl))
    | ((with_reducible apply Foot.step (State.putAsym_foot ..)); (· rfl))
    | (fail_if_no_progress extract_lets +onlyGivenNames x; first | (refine Foot.cut x ?_ (fun hx => ?_); (on_goal 1 => subst x); (on_goal 2 => clear_value x)) | (refine Foot.cut2 x ?_ (fun hx => ?_); (on_goal 1 => subst x); (on_goal 2 => clear_value x)) | refine Foot.keepHost x ?_ | refine Foot.keepMbx x ?_ | clear_value x)
    | split

theorem State.dispersionFit_foot (s : State) (l : Leg) : Foot fp172 s (State.dispersionFit s l) := by
  have h : Foot fp172 s s := Foot.refl
  unfold State.dispersionFit
  repeat' first
    | with_reducible assumption
    | with_reducible apply Foot.ite
    | ((with_reducible apply Foot.wr); (· rfl); (· first | exact Or.inr rfl | exact Or.inl (Leg.n_lt _)))
    | ((with_reducible apply Foot.upd); (· rfl); (· rfl))
    | ((with_reducible apply Foot.step (State.event_foot ..)); (· rfl))
    | ((with_reducible apply Foot.step (State.settleTime_foot ..)); (· rfl))
    | ((with_reducible apply Foot.step (State.adoptFit_foot ..)); (· rfl))
    | split

theorem execDispersionFit_foot (l : Leg) (s : State) (t' : State) (ht : execDispersionFit l s = .next t') : Foot fp172 s t' := by
  have h : Foot fp172 s s := Foot.refl
  rw [← Host.Outcome.next.inj ht]
  repeat' first
    | with_reducible assumption
    | ((with_reducible apply Foot.step (State.dispersionFit_foot ..)); (· rfl))

theorem State.laserLow_foot (s : State) (l : Leg) : Foot fp173 s (State.laserLow s l) := by
  have h : Foot fp173 s s := Foot.refl
  unfold State.laserLow
  repeat' first
    | with_reducible assumption
    | with_reducible apply Foot.ite
    | ((with_reducible apply Foot.wr); (· rfl); (· first | exact Or.inr rfl | exact Or.inl (Leg.n_lt _)))
    | ((with_reducible apply Foot.upd); (· rfl); (· rfl))
    | ((with_reducible apply Foot.step (State.event_foot ..)); (· rfl))
    | ((with_reducible apply Foot.step (State.settleBound_foot ..)); (· rfl))
    | (fail_if_no_progress extract_lets +onlyGivenNames x; first | (refine Foot.cut x ?_ (fun hx => ?_); (on_goal 1 => subst x); (on_goal 2 => clear_value x)) | (refine Foot.cut2 x ?_ (fun hx => ?_); (on_goal 1 => subst x); (on_goal 2 => clear_value x)) | refine Foot.keepHost x ?_ | refine Foot.keepMbx x ?_ | clear_value x)
    | split

theorem execLaserLowConf_foot (l : Leg) (s : State) (t' : State) (ht : execLaserLowConf l s = .next t') : Foot fp173 s t' := by
  have h : Foot fp173 s s := Foot.refl
  rw [← Host.Outcome.next.inj ht]
  repeat' first
    | with_reducible assumption
    | ((with_reducible apply Foot.step (State.laserLow_foot ..)); (· rfl))

theorem State.laserBack_foot (s : State) (l : Leg) : Foot fp174 s (State.laserBack s l) := by
  have h : Foot fp174 s s := Foot.refl
  unfold State.laserBack
  repeat' first
    | with_reducible assumption
    | with_reducible apply Foot.ite
    | ((with_reducible apply Foot.wr); (· rfl); (· first | exact Or.inr rfl | exact Or.inl (Leg.n_lt _)))
    | ((with_reducible apply Foot.upd); (· rfl); (· rfl))
    | ((with_reducible apply Foot.step (State.settleBound_foot ..)); (· rfl))
    | ((with_reducible apply Foot.step (State.followLaser_foot ..)); (· rfl))
    | split

theorem execLaserConfRestored_foot (l : Leg) (s : State) (t' : State) (ht : execLaserConfRestored l s = .next t') : Foot fp174 s t' := by
  have h : Foot fp174 s s := Foot.refl
  rw [← Host.Outcome.next.inj ht]
  repeat' first
    | with_reducible assumption
    | ((with_reducible apply Foot.step (State.laserBack_foot ..)); (· rfl))

theorem State.evaluate_foot (s : State) : Foot fp175 s (State.evaluate s) := by
  have h : Foot fp175 s s := Foot.refl
  unfold State.evaluate
  repeat' first
    | with_reducible assumption
    | with_reducible apply Foot.ite
    | ((with_reducible apply Foot.upd); (· rfl); (· rfl))
    | ((with_reducible apply Foot.step (State.setQuality_foot ..)); (· rfl))
    | ((with_reducible apply Foot.step (State.rebaseRequest_foot ..)); (· rfl))
    | ((with_reducible apply Foot.step (State.toHoldover_foot ..)); (· rfl))
    | ((with_reducible apply Foot.step (State.initialStep_foot ..)); (· rfl))
    | (fail_if_no_progress extract_lets +onlyGivenNames x; first | (refine Foot.cut x ?_ (fun hx => ?_); (on_goal 1 => subst x); (on_goal 2 => clear_value x)) | refine Foot.keepHost x ?_ | refine Foot.keepMbx x ?_ | clear_value x)
    | split

theorem execQualityEvaluate_foot (s : State) (t' : State) (ht : execQualityEvaluate s = .next t') : Foot fp176 s t' := by
  have h : Foot fp176 s s := Foot.refl
  rw [← Host.Outcome.next.inj ht]
  repeat' first
    | with_reducible assumption
    | with_reducible apply Foot.ite
    | ((with_reducible apply Foot.inDom); (on_goal 1 => intro _ _))
    | ((with_reducible apply Foot.step (State.settleTime_foot ..)); (· rfl))
    | ((with_reducible apply Foot.step (State.evaluate_foot ..)); (· rfl))
    | split

theorem State.servo_foot (s : State) : Foot fp151 s (State.servo s) := by
  have h : Foot fp151 s s := Foot.refl
  unfold State.servo
  repeat' first
    | with_reducible assumption
    | with_reducible apply Foot.ite
    | ((with_reducible apply Foot.step (State.setTgt_foot ..)); (· rfl))
    | (fail_if_no_progress extract_lets +onlyGivenNames x; first | refine Foot.keepHost x ?_ | refine Foot.keepMbx x ?_ | clear_value x)
    | split

theorem execServoUpdate_foot (s : State) (t' : State) (ht : execServoUpdate s = .next t') : Foot fp151 s t' := by
  have h : Foot fp151 s s := Foot.refl
  rw [← Host.Outcome.next.inj ht]
  repeat' first
    | with_reducible assumption
    | ((with_reducible apply Foot.inDom); (on_goal 1 => intro _ _))
    | ((with_reducible apply Foot.step (State.servo_foot ..)); (· rfl))

theorem State.incrHoUpdate_foot (s : State) (f : Nat) (y : Int) (y0 : Nat) : Foot fp177 s (State.incrHoUpdate s f y y0) := by
  have h : Foot fp177 s s := Foot.refl
  unfold State.incrHoUpdate
  repeat' first
    | with_reducible assumption
    | with_reducible apply Foot.ite
    | ((with_reducible apply Foot.wr); (· rfl); (· first | exact Or.inr rfl))
    | ((with_reducible apply Foot.step (State.replaceRequest_foot ..)); (· rfl))
    | ((with_reducible apply Foot.step (State.setTgt_foot ..)); (· rfl))
    | (fail_if_no_progress extract_lets +onlyGivenNames x; first | refine Foot.keepHost x ?_ | refine Foot.keepMbx x ?_ | clear_value x)
    | fail_if_no_progress ((with_reducible apply Foot.setTime); (· rfl))
    | split

theorem execIncrHoUpdate_foot (incrF : BitVec 48) (yref : Int) (y0 : Nat) (s : State) (t' : State) (ht : execIncrHoUpdate incrF yref y0 s = .next t') : Foot fp177 s t' := by
  have h : Foot fp177 s s := Foot.refl
  rw [← Host.Outcome.next.inj ht]
  repeat' first
    | with_reducible assumption
    | ((with_reducible apply Foot.step (State.incrHoUpdate_foot ..)); (· rfl))

theorem State.holdoverJudge_foot (s : State) : Foot fp155 s (State.holdoverJudge s) := by
  have h : Foot fp155 s s := Foot.refl
  unfold State.holdoverJudge
  repeat' first
    | with_reducible assumption
    | with_reducible apply Foot.ite
    | ((with_reducible apply Foot.step (State.setQuality_foot ..)); (· rfl))
    | (fail_if_no_progress extract_lets +onlyGivenNames x; first | (refine Foot.cut x ?_ (fun hx => ?_); (on_goal 1 => subst x); (on_goal 2 => clear_value x)) | (refine Foot.cut2 x ?_ (fun hx => ?_); (on_goal 1 => subst x); (on_goal 2 => clear_value x)) | refine Foot.keepHost x ?_ | refine Foot.keepMbx x ?_ | clear_value x)
    | split

theorem State.holdoverTick_foot (s : State) : Foot fp155 s (State.holdoverTick s) := by
  have h : Foot fp155 s s := Foot.refl
  unfold State.holdoverTick
  repeat' first
    | with_reducible assumption
    | with_reducible apply Foot.ite
    | ((with_reducible apply Foot.incSat); (· rfl); (· first | exact Or.inr rfl))
    | ((with_reducible apply Foot.step (State.settleBound_foot ..)); (· rfl))
    | ((with_reducible apply Foot.step (State.holdoverJudge_foot ..)); (· rfl))
    | split

theorem execHoldoverBoundAdvance_foot (s : State) (t' : State) (ht : execHoldoverBoundAdvance s = .next t') : Foot fp155 s t' := by
  have h : Foot fp155 s s := Foot.refl
  rw [← Host.Outcome.next.inj ht]
  repeat' first
    | with_reducible assumption
    | ((with_reducible apply Foot.inDom); (on_goal 1 => intro _ _))
    | ((with_reducible apply Foot.step (State.holdoverTick_foot ..)); (· rfl))

theorem State.voteResult_foot (s : State) (base : Nat) (odd : Option Nat) (fail : Option Nat) : Foot fp178 s (State.voteResult s base odd fail) := by
  have h : Foot fp178 s s := Foot.refl
  unfold State.voteResult
  repeat' first
    | with_reducible assumption
    | with_reducible apply Foot.ite
    | ((with_reducible apply Foot.wr); (· rfl); (· first | exact Or.inr rfl))
    | ((with_reducible apply Foot.inc); (· rfl); (· first | exact Or.inr rfl))
    | ((with_reducible apply Foot.step (State.event_foot ..)); (· rfl))
    | ((with_reducible apply Foot.step (State.replaceRequest_foot ..)); (· rfl))
    | ((with_reducible apply Foot.step (State.settleBound_foot ..)); (· rfl))
    | (fail_if_no_progress extract_lets +onlyGivenNames x; first | (refine Foot.cut x ?_ (fun hx => ?_); (on_goal 1 => subst x); (on_goal 2 => clear_value x)) | refine Foot.keepHost x ?_ | refine Foot.keepMbx x ?_ | clear_value x)
    | fail_if_no_progress ((with_reducible apply Foot.setTime); (· rfl))
    | split

theorem State.timeVote_foot (s : State) (c0 : Nat) (c1 : Nat) (c2 : Nat) (i0 : Nat) (i1 : Nat) (i2 : Nat) : Foot fp178 s (State.timeVote s c0 c1 c2 i0 i1 i2) := by
  have h : Foot fp178 s s := Foot.refl
  unfold State.timeVote
  repeat' first
    | with_reducible assumption
    | ((with_reducible apply Foot.step (State.voteResult_foot ..)); (· rfl))
    | (fail_if_no_progress extract_lets +onlyGivenNames x; first | refine Foot.keepHost x ?_ | refine Foot.keepMbx x ?_ | clear_value x)
    | fail_if_no_progress ((with_reducible apply Foot.setTime); (· rfl))
    | (rename_i he; refine Foot.cut _ (Foot.ofPair he ?_) (fun hx => ?_); (on_goal 2 => clear he))
    | split

theorem execTimeVote_foot (c0 : Nat) (c1 : Nat) (c2 : Nat) (i0 : BitVec 48) (i1 : BitVec 48) (i2 : BitVec 48) (s : State) (t' : State) (ht : execTimeVote c0 c1 c2 i0 i1 i2 s = .next t') : Foot fp178 s t' := by
  have h : Foot fp178 s s := Foot.refl
  rw [← Host.Outcome.next.inj ht]
  repeat' first
    | with_reducible assumption
    | ((with_reducible apply Foot.inDom); (on_goal 1 => intro _ _))
    | ((with_reducible apply Foot.step (State.timeVote_foot ..)); (· rfl))

theorem State.snap_foot (s : State) (ag : Agent) : Foot fp179 s (State.snap s ag) := by
  have h : Foot fp179 s s := Foot.refl
  unfold State.snap
  repeat' first
    | with_reducible assumption
    | ((with_reducible apply Foot.wrA); (· rfl); (· rfl); (· first | exact Or.inr rfl))
    | (fail_if_no_progress extract_lets +onlyGivenNames x; first | (refine Foot.cut x ?_ (fun hx => ?_); (on_goal 1 => subst x); (on_goal 2 => clear_value x)) | (refine Foot.cut2 x ?_ (fun hx => ?_); (on_goal 1 => subst x); (on_goal 2 => clear_value x)) | refine Foot.keepHost x ?_ | refine Foot.keepMbx x ?_ | clear_value x)

theorem State.applyRefuse_foot (s : State) (status : Nat) : Foot fp180 s (State.applyRefuse s status) := by
  have h : Foot fp180 s s := Foot.refl
  unfold State.applyRefuse
  repeat' first
    | with_reducible assumption
    | ((with_reducible apply Foot.wr); (· rfl); (· first | exact Or.inr rfl))
    | ((with_reducible apply Foot.inc); (· rfl); (· first | exact Or.inr rfl))
    | ((with_reducible apply Foot.step (State.event_foot ..)); (· rfl))

theorem State.timeApply_foot (s : State) (ag : Agent) (mode : Nat) : Foot fp181 s (State.timeApply s ag mode) := by
  have h : Foot fp181 s s := Foot.refl
  unfold State.timeApply
  repeat' first
    | with_reducible assumption
    | with_reducible apply Foot.ite
    | ((with_reducible apply Foot.wr); (· rfl); (· first | exact Or.inr rfl))
    | ((with_reducible apply Foot.step (State.applyRefuse_foot ..)); (· rfl))
    | (fail_if_no_progress extract_lets +onlyGivenNames x; first | refine Foot.keepHost x ?_ | refine Foot.keepMbx x ?_ | clear_value x)
    | fail_if_no_progress ((with_reducible apply Foot.setTime); (· rfl))
    | split

theorem execTimeApply_foot (ag : Agent) (mode : Nat) (s : State) (t' : State) (ht : execTimeApply ag mode s = .next t') : Foot fp181 s t' := by
  have h : Foot fp181 s s := Foot.refl
  rw [← Host.Outcome.next.inj ht]
  repeat' first
    | with_reducible assumption
    | ((with_reducible apply Foot.reg); (on_goal 1 => intro _ _))
    | ((with_reducible apply Foot.step (State.timeApply_foot ..)); (· rfl))

theorem State.disarmApply_foot (s : State) : Foot fp182 s (State.disarmApply s) := by
  have h : Foot fp182 s s := Foot.refl
  unfold State.disarmApply
  repeat' first
    | with_reducible assumption
    | ((with_reducible apply Foot.wr); (· rfl); (· first | exact Or.inr rfl))
    | (fail_if_no_progress extract_lets +onlyGivenNames x; first | refine Foot.keepHost x ?_ | refine Foot.keepMbx x ?_ | clear_value x)
    | fail_if_no_progress ((with_reducible apply Foot.setTime); (· rfl))

theorem State.timeCancel_foot (s : State) : Foot fp183 s (State.timeCancel s) := by
  have h : Foot fp183 s s := Foot.refl
  unfold State.timeCancel
  repeat' first
    | with_reducible assumption
    | with_reducible apply Foot.ite
    | ((with_reducible apply Foot.step (State.applyRefuse_foot ..)); (· rfl))
    | ((with_reducible apply Foot.step (State.disarmApply_foot ..)); (· rfl))
    | split

theorem execTimeCancel_foot (ag : Agent) (s : State) (t' : State) (ht : execTimeCancel ag s = .next t') : Foot fp183 s t' := by
  have h : Foot fp183 s s := Foot.refl
  rw [← Host.Outcome.next.inj ht]
  repeat' first
    | with_reducible assumption
    | ((with_reducible apply Foot.reg); (on_goal 1 => intro _ _))
    | ((with_reducible apply Foot.step (State.timeCancel_foot ..)); (· rfl))

theorem State.applyItems_foot (s : State) (ag : Agent) (sel : Nat) : Foot fp161 s (State.applyItems s ag sel) := by
  have h : Foot fp161 s s := Foot.refl
  unfold State.applyItems
  repeat' first
    | with_reducible assumption
    | with_reducible apply Foot.ite
    | ((with_reducible apply Foot.step (State.setTgt_foot ..)); (· rfl))
    | ((with_reducible apply Foot.step (State.applyTrims_foot ..)); (· rfl))
    | ((with_reducible apply Foot.step (State.rebase_foot ..)); (· rfl))
    | (fail_if_no_progress extract_lets +onlyGivenNames x; first | (refine Foot.cut x ?_ (fun hx => ?_); (on_goal 1 => subst x); (on_goal 2 => clear_value x)) | (refine Foot.cut2 x ?_ (fun hx => ?_); (on_goal 1 => subst x); (on_goal 2 => clear_value x)) | refine Foot.keepHost x ?_ | refine Foot.keepMbx x ?_ | clear_value x)
    | split

theorem State.applyTick_foot (s : State) : Foot fp184 s (State.applyTick s) := by
  have h : Foot fp184 s s := Foot.refl
  unfold State.applyTick
  repeat' first
    | with_reducible assumption
    | with_reducible apply Foot.ite
    | ((with_reducible apply Foot.wr); (· rfl); (· first | exact Or.inr rfl))
    | ((with_reducible apply Foot.inc); (· rfl); (· first | exact Or.inr rfl))
    | ((with_reducible apply Foot.step (State.event_foot ..)); (· rfl))
    | ((with_reducible apply Foot.step (State.applyRefuse_foot ..)); (· rfl))
    | ((with_reducible apply Foot.step (State.disarmApply_foot ..)); (· rfl))
    | ((with_reducible apply Foot.step (State.applyItems_foot ..)); (· rfl))
    | (fail_if_no_progress extract_lets +onlyGivenNames x; (refine Foot.cut x ?_ (fun hx => ?_); (on_goal 1 => subst x); (on_goal 2 => clear_value x)))
    | split

theorem execApplyTick_foot (s : State) (t' : State) (ht : execApplyTick s = .next t') : Foot fp184 s t' := by
  have h : Foot fp184 s s := Foot.refl
  rw [← Host.Outcome.next.inj ht]
  repeat' first
    | with_reducible assumption
    | ((with_reducible apply Foot.inDom); (on_goal 1 => intro _ _))
    | ((with_reducible apply Foot.step (State.applyTick_foot ..)); (· rfl))

theorem execTimeSnap_foot (ag : Agent) (s : State) (t' : State) (ht : execTimeSnap ag s = .next t') : Foot fp185 s t' := by
  have h : Foot fp185 s s := Foot.refl
  rw [← Host.Outcome.next.inj ht]
  repeat' first
    | with_reducible assumption
    | ((with_reducible apply Foot.reg); (on_goal 1 => intro _ _))
    | ((with_reducible apply Foot.step (State.snap_foot ..)); (· rfl))
    | ((with_reducible apply Foot.step (State.applyTick_foot ..)); (· rfl))

theorem execTevFire_foot (n : Nat) (s : State) (t' : State) (ht : execTevFire n s = .next t') : Foot fp186 s t' := by
  have h : Foot fp186 s s := Foot.refl
  rw [← Host.Outcome.next.inj ht]
  repeat' first
    | with_reducible assumption
    | ((with_reducible apply Foot.inDom); (on_goal 1 => intro _ _))
    | ((with_reducible apply Foot.step (State.tevFire_foot ..)); (· rfl))
    | ((with_reducible apply Foot.step (State.applyTick_foot ..)); (· rfl))

theorem execTcapEdge_foot (i : Nat) (rising : Bool) (widthPs : Nat) (wide : Bool) (fine : Nat) (s : State) (t' : State) (ht : execTcapEdge i rising widthPs wide fine s = .next t') : Foot fp187 s t' := by
  have h : Foot fp187 s s := Foot.refl
  rw [← Host.Outcome.next.inj ht]
  repeat' first
    | with_reducible assumption
    | ((with_reducible apply Foot.inDom); (on_goal 1 => intro _ _))
    | ((with_reducible apply Foot.step (State.tcapEdge_foot ..)); (· rfl))
    | ((with_reducible apply Foot.step (State.applyTick_foot ..)); (· rfl))

theorem State.stageWrite_foot (s : State) (ag : Agent) (off v : Nat) : Foot fp188 s (State.stageWrite s ag off v) := by
  unfold State.stageWrite
  split
  · rename_i R hR
    refine Foot.ite (Foot.wr rfl (Or.inr rfl) Foot.refl) ?_
    unfold stageRow at hR
    split at hR <;> first
      | (cases hR; exact Foot.wrA rfl rfl (Or.inr rfl) Foot.refl)
      | cases hR
  · refine Foot.ite Foot.refl ?_
    split
    · rename_i R l i hR
      refine Foot.ite (Foot.wr rfl (Or.inr rfl) Foot.refl) ?_
      unfold trimRow at hR
      extract_lets l at hR
      have hl : l < 2 := by simp only [l]; split <;> decide
      split at hR <;> first
        | (simp only [Option.some.injEq, Prod.mk.injEq] at hR
           obtain ⟨rfl, rfl, rfl⟩ := hR
           exact Foot.wr rfl (Or.inl hl) Foot.refl)
        | cases hR
    · exact Foot.refl

theorem execTimeStageWrite_foot (ag : Agent) (off : Nat) (v : BitVec 32) (s : State) (t' : State) (ht : execTimeStageWrite ag off v s = .next t') : Foot fp188 s t' := by
  have h : Foot fp188 s s := Foot.refl
  rw [← Host.Outcome.next.inj ht]
  repeat' first
    | with_reducible assumption
    | ((with_reducible apply Foot.reg); (on_goal 1 => intro _ _))
    | ((with_reducible apply Foot.step (State.stageWrite_foot ..)); (· rfl))

end Sys2Proof.Machine
end

