-- ==== Sys2Proof/Laws/FootLink.lean ====
section
/-! SUPPORT. What each operation of Machine/Link.lean can change (`Foot`). -/

namespace Sys2Proof.Machine

def fp189 : Nat := 0x200000000000000000000000000000000000000000000000000000000000000000000000000000000000000000000000000000000000000000000000000000000000000000000000000000000000000000000000000000000000000000000
def fp190 : Nat := 0x10004200000000000000000000000000000000000000000000000000000000000000600000000000000000000000000000000000000000000000000000000000000000000000000000000000000000000000000000000000000000000000000000000000000000000000000000000000000000000000000000000000000000000
def fp191 : Nat := 0x4000000000000000000000000000000000000000000000000000000000000000000000000000812000000000000000000000000000000000000000000000000000000000000000000000000000000000000000000000000000000000000000000000000000000000000000000000000000000000000000000000000000000
def fp192 : Nat := 0x4000000000000000000000000000000000000000000000000000000000000000000000010000000000000000000000000000000000000000000000000000000000000000000000000000000000000000000000000000000000000000000000000000000000000000000000000000000000000000000000000000000000000
def fp193 : Nat := 0x4000000000000000000000000000000000000000000000000000000000000000000100000000000000000000000000000000000000000000000000000000000000000000000000000000000000000000000000000000000000000000000000000000000000000000000000000000000000000000000000000000000000000
def fp194 : Nat := 0x12005cc000000000000000000001c0000000000000000000000000000000000000001c1100011008812000000000000000000000000000000000000000000000000000000000000000000000000002106020000000000000000000000000000000000000000000000000000000000000000000000000000000000000000000000
def fp195 : Nat := 0x12205cc000000000000000000001c0000000000000000000010100000000000000001c1100011008812000000000000000000000000000000000000000000000000000000000000000000000000002106020000000000000000000000000000000000000000000000000000000000000000000000000000000000000000000000
def fp196 : Nat := 0x200000000000000000000000000000000000000000000800000000000000000000000000000000000000000000000000000000000000000000000000000000000000000000000000000000000000000000000000000000000000000000000000000000000000000000000000000000000000000000000000000000000000000
def fp197 : Nat := 0x1010420000000000000000000001c0000000000000000000000004003000008000c07c100000000000000000000000000000000000000000000000000000000000002c000000000000000000000000000000000000000000000000001800000006000000000000000000000000000000000000000000000000000000000000000
def fp198 : Nat := 0x1010420000000000000000000001c000000000000000000000000400b000008000e07c100000000000000000000000000000000000000000000000000000000000002c000000000000000000000000000000000000000000000000001800000006000000000000000000000000000000000000000000000000000000000000000
def fp199 : Nat := 0x1010420000000000000000000001c0000000000000000000000004003000008000f87c100000000000000000000000000000000000000000000000000000000000002c000000000000000000000000000000000000000000000000001800000006000000000000000000000000000000000000000000000000000000000000000
def fp200 : Nat := 0x10004000000000000000000000000000000000000000000000000001000000000000000000000000000000000000000000000000000000000000000000000000000000000000000000000000000000000000000000000000000000000000000000000000000000000000000000000000000000000000000000000000000000000
def fp201 : Nat := 0x1020400000000000000000000001c0000000000000000000100000000e00000000001c1014101400a00000000000000000000000000000000000000000000000000000000000000000000000000000000000000000000000000000000000000000000000000000000000000000000000000000000000000000000000000000000
def fp202 : Nat := 0x1000400000000000000000000001c0000000000000000000000000010e00000000001c1014101400a00000000000000000000000000000000000000000000000000000000000000000000000000000000000000000000000000000000000000000000000000000000000000000000000000000000000000000000000000000000
def fp203 : Nat := 0x1020400000000000000000000001c0000000000000000000100000010e00000000001c1014101400a00000000000000000000000000000000000000000000000000000000000000000000000000000000000000000000000000000000000000000000000000000000000000000000000000000000000000000000000000000000
def fp204 : Nat := 0x1020400000000000000000000001c0000000000000000000100000010e00000000811c1014101400a00000000000000000000000000000000000000000000000000000000000000000000000000000000000000000000000000000000000000000000000000000000000000000000000000000000000000000000000000000000
def fp205 : Nat := 0x12205cc000000000000000000001c0000000000000000000010100000000000000801c1100011008812000000000000000000000000000000000000000000000000000000000000000000000000002106020000000000000000000000000000000000000000000000000000000000000000000000000000000000000000000000
def fp206 : Nat := 0x12205cc000000000000000000001c0000000000000000008010100000000000000801c1100011008812000000000000000000000000000000000000000000000000000000000000000000000000002106020000000000000000000000000000000000000000000000000000000000000000000000000000000000000000000000
def fp207 : Nat := 0x1020400000000000000000000001c0000000000000000000100000010e00000000015c1014101400a00000000000000000000000000000000000000000000000000000000000000000000000000000000000000000000000000000000000000000000000000000000000000000000000000000000000000000000000000000000
def fp208 : Nat := 0x10004000000000000000000000000000000000000000000000000000000000000000400000000000000000000000000000000000000000000000000000000000000000000000000000000000000000000000000000000000000000000000000000000000000000000000000000000000000000000000000000000000000000000
def fp209 : Nat := 0x12115cc000000000000000000001c000000000000000000000000400000000000000dc1100011008812000000000000000000000000000000000000000000000000200000000000000000000000002106020000000000000000000000000000000000000000000000000000000000000000000000000000000000000000000000
def fp210 : Nat := 0x12315ec000000000000000000001c000000000000000000801010400000000000000fc1100011008812000000000000000000000000000000000000000000000000200000000000000000000000002106020000000000000000000000000000000000000000000000000000000000000000000000000000000000000000000000
def fp211 : Nat := 0x1000400000000000000000000001c0000000000000000000000000020000000000009c1000000000000000000000000000000000000000000000000000000000000000000000000000000000000000000000000000000000000000000000000000000000000000000000000000000000000000000000000000000000000000000
def fp212 : Nat := 0x1ffffff800000000000000000001c0000000000000000000100000010e00000000017c1014101400a00000000000000000000000000000000000000000000000000000000000000000000000000000000000000000000000000000000000000000000000000000000000000000000000000000000000000000000000000000000

theorem State.clearSet_foot {m : Nat} {s t : State} {R : Row} (hr : rowIn m R = true) (hl : R.legStride = 0) (h : Foot m s t) :
    Foot m s (State.clearSet t R) := by
  unfold State.clearSet
  exact Foot.foldl (fun x y h => Foot.wr hr (Or.inr hl) h) h

theorem State.vfsOff_foot (s : State) : Foot fp189 s (State.vfsOff s) := by
  have h : Foot fp189 s s := Foot.refl
  unfold State.vfsOff
  repeat' first
    | with_reducible assumption
    | ((with_reducible apply Foot.wr); (· rfl); (· first | exact Or.inr rfl))
    | ((with_reducible apply Foot.foldl); (on_goal 1 => intro _ _ _))

theorem State.configReset_foot (s : State) : Foot fp190 s (State.configReset s) := by
  have h : Foot fp190 s s := Foot.refl
  unfold State.configReset
  repeat' first
    | with_reducible assumption
    | ((with_reducible apply State.clearSet_foot); (· rfl); (· rfl))
    | ((with_reducible apply Foot.step (State.vfsOff_foot ..)); (· rfl))
    | (fail_if_no_progress extract_lets +onlyGivenNames x; first | (refine Foot.cut x ?_ (fun hx => ?_); (on_goal 1 => subst x); (on_goal 2 => clear_value x)) | refine Foot.keepHost x ?_ | refine Foot.keepMbx x ?_ | clear_value x)
    | fail_if_no_progress ((with_reducible apply Foot.setTev); (· rfl))
    | fail_if_no_progress ((with_reducible apply Foot.setMsi); (· rfl))
    | fail_if_no_progress ((with_reducible apply Foot.setHost); (· rfl); (· exact fun hb => ⟨hb.log, hb.errs, hb.fwQueue⟩))

theorem State.unwindIf_foot (s : State) (p : Nat → Bool) (cause : Nat) : Foot fp31 s (State.unwindIf s p cause) := by
  have h : Foot fp31 s s := Foot.refl
  unfold State.unwindIf
  repeat' first
    | with_reducible assumption
    | ((with_reducible apply Foot.step (State.unwindWhere_foot ..)); (· rfl))
    | ((with_reducible apply Foot.foldl); (on_goal 1 => intro _ _ _))

theorem State.txDrop_foot (s : State) (q : Nat) : Foot fp191 s (State.txDrop s q) := by
  have h : Foot fp191 s s := Foot.refl
  unfold State.txDrop
  repeat' first
    | with_reducible assumption
    | ((with_reducible apply Foot.wr); (· rfl); (· first | exact Or.inr rfl))
    | ((with_reducible apply Foot.step (State.setTxq_foot ..)); (· rfl))
    | ((with_reducible apply Foot.step (State.dropReads_foot ..)); (· rfl))
    | (fail_if_no_progress extract_lets +onlyGivenNames x; first | (refine Foot.cut x ?_ (fun hx => ?_); (on_goal 1 => subst x); (on_goal 2 => clear_value x)) | (refine Foot.cut2 x ?_ (fun hx => ?_); (on_goal 1 => subst x); (on_goal 2 => clear_value x)) | refine Foot.keepHost x ?_ | refine Foot.keepMbx x ?_ | clear_value x)

theorem State.cqDrop_foot (s : State) (c : Nat) : Foot fp192 s (State.cqDrop s c) := by
  have h : Foot fp192 s s := Foot.refl
  unfold State.cqDrop
  repeat' first
    | with_reducible assumption
    | ((with_reducible apply Foot.wr); (· rfl); (· first | exact Or.inr rfl))
    | ((with_reducible apply Foot.step (State.setCq_foot ..)); (· rfl))

theorem State.eqDrop_foot (s : State) (e : Nat) : Foot fp193 s (State.eqDrop s e) := by
  have h : Foot fp193 s s := Foot.refl
  unfold State.eqDrop
  repeat' first
    | with_reducible assumption
    | ((with_reducible apply Foot.wr); (· rfl); (· first | exact Or.inr rfl))
    | ((with_reducible apply Foot.step (State.setEq_foot ..)); (· rfl))

theorem State.dropRings_foot (s : State) (p : Nat → Bool) : Foot fp194 s (State.dropRings s p) := by
  have h : Foot fp194 s s := Foot.refl
  unfold State.dropRings
  repeat' first
    | with_reducible assumption
    | ((with_reducible apply Foot.step (State.rxDrop_foot ..)); (· rfl))
    | ((with_reducible apply Foot.step (State.unwindIf_foot ..)); (· rfl))
    | ((with_reducible apply Foot.step (State.txDrop_foot ..)); (· rfl))
    | ((with_reducible apply Foot.step (State.cqDrop_foot ..)); (· rfl))
    | ((with_reducible apply Foot.step (State.eqDrop_foot ..)); (· rfl))
    | ((with_reducible apply Foot.foldl); (on_goal 1 => intro _ _ _))
    | (fail_if_no_progress extract_lets +onlyGivenNames x; first | (refine Foot.cut x ?_ (fun hx => ?_); (on_goal 1 => subst x); (on_goal 2 => clear_value x)) | refine Foot.keepHost x ?_)
    | fail_if_no_progress ((with_reducible apply Foot.setHost); (· rfl); (· exact fun hb => ⟨hb.log, hb.errs, hb.fwQueue⟩))

theorem State.dropHeld_foot (s : State) : Foot fp195 s (State.dropHeld s) := by
  have h : Foot fp195 s s := Foot.refl
  unfold State.dropHeld
  repeat' first
    | with_reducible assumption
    | ((with_reducible apply Foot.wr); (· rfl); (· first | exact Or.inr rfl))
    | ((with_reducible apply Foot.step (State.dropRings_foot ..)); (· rfl))
    | (fail_if_no_progress extract_lets +onlyGivenNames x; first | (refine Foot.cut x ?_ (fun hx => ?_); (on_goal 1 => subst x); (on_goal 2 => clear_value x)) | refine Foot.keepHost x ?_ | refine Foot.keepMbx x ?_ | clear_value x)
    | fail_if_no_progress ((with_reducible apply Foot.setAdm); (· rfl))

theorem State.quietOps_foot (s : State) : Foot fp196 s (State.quietOps s) := by
  have h : Foot fp196 s s := Foot.refl
  unfold State.quietOps
  repeat' first
    | with_reducible assumption
    | with_reducible apply Foot.ite
    | ((with_reducible apply Foot.wr); (· rfl); (· first | exact Or.inr rfl))
    | ((with_reducible apply Foot.foldl); (on_goal 1 => intro _ _ _))
    | (fail_if_no_progress extract_lets +onlyGivenNames x; first | refine Foot.keepHost x ?_ | refine Foot.keepMbx x ?_ | clear_value x)
    | fail_if_no_progress ((with_reducible apply Foot.setAdm); (· rfl))
    | split

theorem State.linkLost_foot (s : State) : Foot fp197 s (State.linkLost s) := by
  have h : Foot fp197 s s := Foot.refl
  unfold State.linkLost
  repeat' first
    | with_reducible assumption
    | with_reducible apply Foot.ite
    | ((with_reducible apply Foot.wr); (· rfl); (· first | exact Or.inr rfl))
    | ((with_reducible apply Foot.step (State.pfEvent_foot ..)); (· rfl))
    | ((with_reducible apply Foot.step (State.mbxLinkLost_foot ..)); (· rfl))
    | ((with_reducible apply Foot.step (State.laLost_foot ..)); (· rfl))
    | ((with_reducible apply Foot.step (State.ptmEnd_foot ..)); (· rfl))
    | ((with_reducible apply Foot.step (State.configReset_foot ..)); (· rfl))
    | (fail_if_no_progress extract_lets +onlyGivenNames x; refine Foot.keepHost x ?_)
    | fail_if_no_progress ((with_reducible apply Foot.setHost); (· rfl); (· exact fun hb => ⟨hb.log, hb.errs, hb.fwQueue⟩))
    | split

theorem State.linkDown_foot (s : State) : Foot fp198 s (State.linkDown s) := by
  have h : Foot fp198 s s := Foot.refl
  unfold State.linkDown
  repeat' first
    | with_reducible assumption
    | with_reducible apply Foot.ite
    | ((with_reducible apply Foot.wr); (· rfl); (· first | exact Or.inr rfl))
    | ((with_reducible apply Foot.inc); (· rfl); (· first | exact Or.inr rfl))
    | ((with_reducible apply Foot.step (State.linkLost_foot ..)); (· rfl))
    | split

theorem execLinkDown_foot (s : State) (t' : State) (ht : execLinkDown s = .next t') : Foot fp198 s t' := by
  have h : Foot fp198 s s := Foot.refl
  rw [← Host.Outcome.next.inj ht]
  repeat' first
    | with_reducible assumption
    | ((with_reducible apply Foot.step (State.linkDown_foot ..)); (· rfl))

theorem State.linkTrained_foot (s : State) (rate : Nat) (width : Nat) : Foot fp199 s (State.linkTrained s rate width) := by
  have h : Foot fp199 s s := Foot.refl
  unfold State.linkTrained
  repeat' first
    | with_reducible assumption
    | with_reducible apply Foot.ite
    | ((with_reducible apply Foot.wr); (· rfl); (· first | exact Or.inr rfl))
    | ((with_reducible apply Foot.step (State.pfEvent_foot ..)); (· rfl))
    | ((with_reducible apply Foot.step (State.linkLost_foot ..)); (· rfl))
    | (fail_if_no_progress extract_lets +onlyGivenNames x; first | (refine Foot.cut x ?_ (fun hx => ?_); (on_goal 1 => subst x); (on_goal 2 => clear_value x)) | (refine Foot.cut2 x ?_ (fun hx => ?_); (on_goal 1 => subst x); (on_goal 2 => clear_value x)) | refine Foot.keepHost x ?_ | refine Foot.keepMbx x ?_ | clear_value x)
    | split

theorem execLinkTrained_foot (rate : Nat) (width : Nat) (s : State) (t' : State) (ht : execLinkTrained rate width s = .next t') : Foot fp199 s t' := by
  have h : Foot fp199 s s := Foot.refl
  rw [← Host.Outcome.next.inj ht]
  repeat' first
    | with_reducible assumption
    | ((with_reducible apply Foot.inDom); (on_goal 1 => intro _ _))
    | ((with_reducible apply Foot.step (State.linkTrained_foot ..)); (· rfl))

theorem State.replayRx_foot (s : State) (c : Nat) : Foot fp200 s (State.replayRx s c) := by
  have h : Foot fp200 s s := Foot.refl
  unfold State.replayRx
  repeat' first
    | with_reducible assumption
    | with_reducible apply Foot.ite
    | ((with_reducible apply Foot.inc); (· rfl); (· first | exact Or.inr rfl))
    | ((with_reducible apply Foot.step (State.emit_foot ..)); (· rfl))
    | ((with_reducible apply Foot.step (State.setCq_foot ..)); (· rfl))
    | ((with_reducible apply Foot.foldl); (on_goal 1 => intro _ _ _))
    | (fail_if_no_progress extract_lets +onlyGivenNames x; first | (refine Foot.cut x ?_ (fun hx => ?_); (on_goal 1 => subst x); (on_goal 2 => clear_value x)) | (refine Foot.cut2 x ?_ (fun hx => ?_); (on_goal 1 => subst x); (on_goal 2 => clear_value x)) | refine Foot.keepHost x ?_ | refine Foot.keepMbx x ?_ | clear_value x)
    | split

theorem State.cqFlush_foot (s : State) (c : Nat) (n : Nat) : Foot fp80 s (State.cqFlush s c n) := by
  have h : Foot fp80 s s := Foot.refl
  unfold State.cqFlush
  repeat' first
    | with_reducible assumption
    | ((with_reducible apply Foot.step (State.cqWrite_foot ..)); (· rfl))
    | ((with_reducible apply Foot.foldl); (on_goal 1 => intro _ _ _))

theorem State.eqFlush_foot (s : State) (e : Nat) : Foot fp5 s (State.eqFlush s e) := by
  have h : Foot fp5 s s := Foot.refl
  unfold State.eqFlush
  repeat' first
    | with_reducible assumption
    | ((with_reducible apply Foot.step (State.setEq_foot ..)); (· rfl))
    | ((with_reducible apply Foot.step (State.eqWrite_foot ..)); (· rfl))
    | ((with_reducible apply Foot.foldl); (on_goal 1 => intro _ _ _))
    | (fail_if_no_progress extract_lets +onlyGivenNames x; first | (refine Foot.cut x ?_ (fun hx => ?_); (on_goal 1 => subst x); (on_goal 2 => clear_value x)) | (refine Foot.cut2 x ?_ (fun hx => ?_); (on_goal 1 => subst x); (on_goal 2 => clear_value x)) | refine Foot.keepHost x ?_ | refine Foot.keepMbx x ?_ | clear_value x)

theorem State.cqResume_foot (s : State) (c : Nat) : Foot fp80 s (State.cqResume s c) := by
  have h : Foot fp80 s s := Foot.refl
  unfold State.cqResume
  repeat' first
    | with_reducible assumption
    | ((with_reducible apply Foot.step (State.setCq_foot ..)); (· rfl))
    | ((with_reducible apply Foot.step (State.cqFlush_foot ..)); (· rfl))
    | (fail_if_no_progress extract_lets +onlyGivenNames x; first | (refine Foot.cut x ?_ (fun hx => ?_); (on_goal 1 => subst x); (on_goal 2 => clear_value x)) | (refine Foot.cut2 x ?_ (fun hx => ?_); (on_goal 1 => subst x); (on_goal 2 => clear_value x)) | refine Foot.keepHost x ?_ | refine Foot.keepMbx x ?_ | clear_value x)

theorem State.resumeHeld_foot (s : State) (f : Nat) : Foot fp201 s (State.resumeHeld s f) := by
  have h : Foot fp201 s s := Foot.refl
  unfold State.resumeHeld
  repeat' first
    | with_reducible assumption
    | with_reducible apply Foot.ite
    | ((with_reducible apply Foot.step (State.admFlush_foot ..)); (· rfl))
    | ((with_reducible apply Foot.step (State.eqFlush_foot ..)); (· rfl))
    | ((with_reducible apply Foot.step (State.cqResume_foot ..)); (· rfl))
    | ((with_reducible apply Foot.foldl); (on_goal 1 => intro _ _ _))
    | (fail_if_no_progress extract_lets +onlyGivenNames x; first | (refine Foot.cut x ?_ (fun hx => ?_); (on_goal 1 => subst x); (on_goal 2 => clear_value x)) | (refine Foot.cut2 x ?_ (fun hx => ?_); (on_goal 1 => subst x); (on_goal 2 => clear_value x)) | refine Foot.keepHost x ?_ | refine Foot.keepMbx x ?_ | clear_value x)
    | split

theorem State.resumeRx_foot (s : State) (f : Nat) : Foot fp202 s (State.resumeRx s f) := by
  have h : Foot fp202 s s := Foot.refl
  unfold State.resumeRx
  repeat' first
    | with_reducible assumption
    | with_reducible apply Foot.ite
    | ((with_reducible apply Foot.step (State.replayRx_foot ..)); (· rfl))
    | ((with_reducible apply Foot.step (State.cqFlush_foot ..)); (· rfl))
    | ((with_reducible apply Foot.foldl); (on_goal 1 => intro _ _ _))
    | split

theorem State.fnResume_foot (s : State) (f : Nat) : Foot fp203 s (State.fnResume s f) := by
  have h : Foot fp203 s s := Foot.refl
  unfold State.fnResume
  repeat' first
    | with_reducible assumption
    | ((with_reducible apply Foot.step (State.resumeHeld_foot ..)); (· rfl))
    | ((with_reducible apply Foot.step (State.resumeRx_foot ..)); (· rfl))

theorem State.resume_foot (s : State) : Foot fp204 s (State.resume s) := by
  have h : Foot fp204 s s := Foot.refl
  unfold State.resume
  repeat' first
    | with_reducible assumption
    | with_reducible apply Foot.ite
    | ((with_reducible apply Foot.wr); (· rfl); (· first | exact Or.inr rfl))
    | ((with_reducible apply Foot.step (State.pfEvent_foot ..)); (· rfl))
    | ((with_reducible apply Foot.step (State.resumeHeld_foot ..)); (· rfl))
    | ((with_reducible apply Foot.step (State.resumeRx_foot ..)); (· rfl))
    | ((with_reducible apply Foot.foldl); (on_goal 1 => intro _ _ _))
    | (fail_if_no_progress extract_lets +onlyGivenNames x; first | (refine Foot.cut x ?_ (fun hx => ?_); (on_goal 1 => subst x); (on_goal 2 => clear_value x)) | (refine Foot.cut2 x ?_ (fun hx => ?_); (on_goal 1 => subst x); (on_goal 2 => clear_value x)) | refine Foot.keepHost x ?_ | refine Foot.keepMbx x ?_ | clear_value x)
    | split

theorem execResume_foot (ag : Agent) (s : State) (t' : State) (ht : execResume ag s = .next t') : Foot fp204 s t' := by
  have h : Foot fp204 s s := Foot.refl
  rw [← Host.Outcome.next.inj ht]
  repeat' first
    | with_reducible assumption
    | ((with_reducible apply Foot.reg); (on_goal 1 => intro _ _))
    | ((with_reducible apply Foot.step (State.resume_foot ..)); (· rfl))

theorem State.discard_foot (s : State) : Foot fp205 s (State.discard s) := by
  have h : Foot fp205 s s := Foot.refl
  unfold State.discard
  repeat' first
    | with_reducible assumption
    | with_reducible apply Foot.ite
    | ((with_reducible apply Foot.wr); (· rfl); (· first | exact Or.inr rfl))
    | ((with_reducible apply Foot.step (State.dropHeld_foot ..)); (· rfl))
    | split

theorem execDiscard_foot (ag : Agent) (s : State) (t' : State) (ht : execDiscard ag s = .next t') : Foot fp205 s t' := by
  have h : Foot fp205 s s := Foot.refl
  rw [← Host.Outcome.next.inj ht]
  repeat' first
    | with_reducible assumption
    | ((with_reducible apply Foot.reg); (on_goal 1 => intro _ _))
    | ((with_reducible apply Foot.step (State.discard_foot ..)); (· rfl))

theorem State.holdExpired_foot (s : State) : Foot fp206 s (State.holdExpired s) := by
  have h : Foot fp206 s s := Foot.refl
  unfold State.holdExpired
  repeat' first
    | with_reducible assumption
    | with_reducible apply Foot.ite
    | ((with_reducible apply Foot.wr); (· rfl); (· first | exact Or.inr rfl))
    | ((with_reducible apply Foot.step (State.pfEvent_foot ..)); (· rfl))
    | ((with_reducible apply Foot.step (State.dropHeld_foot ..)); (· rfl))
    | ((with_reducible apply Foot.step (State.quietOps_foot ..)); (· rfl))
    | split

theorem execLinkHoldExpired_foot (s : State) (t' : State) (ht : execLinkHoldExpired s = .next t') : Foot fp206 s t' := by
  have h : Foot fp206 s s := Foot.refl
  rw [← Host.Outcome.next.inj ht]
  repeat' first
    | with_reducible assumption
    | ((with_reducible apply Foot.step (State.holdExpired_foot ..)); (· rfl))

theorem State.bmeSet_foot (s : State) (f : Nat) : Foot fp207 s (State.bmeSet s f) := by
  have h : Foot fp207 s s := Foot.refl
  unfold State.bmeSet
  repeat' first
    | with_reducible assumption
    | with_reducible apply Foot.ite
    | ((with_reducible apply Foot.wr); (· rfl); (· first | exact Or.inr rfl))
    | ((with_reducible apply Foot.step (State.pfEvent_foot ..)); (· rfl))
    | ((with_reducible apply Foot.step (State.fnResume_foot ..)); (· rfl))
    | (fail_if_no_progress extract_lets +onlyGivenNames x; first | (refine Foot.cut x ?_ (fun hx => ?_); (on_goal 1 => subst x); (on_goal 2 => clear_value x)) | (refine Foot.cut2 x ?_ (fun hx => ?_); (on_goal 1 => subst x); (on_goal 2 => clear_value x)) | refine Foot.keepHost x ?_ | refine Foot.keepMbx x ?_ | clear_value x)
    | split

theorem execBmeSet_foot (f : Nat) (s : State) (t' : State) (ht : execBmeSet f s = .next t') : Foot fp207 s t' := by
  have h : Foot fp207 s s := Foot.refl
  rw [← Host.Outcome.next.inj ht]
  repeat' first
    | with_reducible assumption
    | ((with_reducible apply Foot.inDom); (on_goal 1 => intro _ _))
    | ((with_reducible apply Foot.step (State.bmeSet_foot ..)); (· rfl))

theorem State.fnConfigReset_foot (s : State) (f : Nat) : Foot fp208 s (State.fnConfigReset s f) := by
  have h : Foot fp208 s s := Foot.refl
  unfold State.fnConfigReset
  repeat' first
    | with_reducible assumption
    | ((with_reducible apply Foot.wr); (· rfl); (· first | exact Or.inr rfl))
    | ((with_reducible apply Foot.step (State.msixReset_foot ..)); (· rfl))
    | (fail_if_no_progress extract_lets +onlyGivenNames x; first | (refine Foot.cut x ?_ (fun hx => ?_); (on_goal 1 => subst x); (on_goal 2 => clear_value x)) | refine Foot.keepHost x ?_)
    | fail_if_no_progress ((with_reducible apply Foot.setHost); (· rfl); (· exact fun hb => ⟨hb.log, hb.errs, hb.fwQueue⟩))

theorem State.vfFlr_foot (s : State) (f : Nat) : Foot fp209 s (State.vfFlr s f) := by
  have h : Foot fp209 s s := Foot.refl
  unfold State.vfFlr
  refine Foot.ite h ?_
  extract_lets +onlyGivenNames x
  have hx : Foot fp209 s x := Foot.step (State.pfEvent_foot ..) rfl (Foot.wr rfl (Or.inr rfl) h)
  clear_value x
  extract_lets +onlyGivenNames y
  have hy : Foot fp209 s y := Foot.step (State.eraseLookaside_foot ..) rfl (Foot.step (State.dropRings_foot ..) rfl hx)
  clear_value y
  extract_lets +onlyGivenNames g z
  have hz : Foot fp209 s z := Foot.setHost rfl (fun hb => ⟨hb.log, bounded_errs (l := []) hb f (Nat.zero_le _), hb.fwQueue⟩) hy
  clear_value z
  exact Foot.step (State.fnConfigReset_foot ..) rfl (Foot.step (State.mbxFlr_foot ..) rfl hz)

theorem execVfFlr_foot (f : Nat) (s : State) (t' : State) (ht : execVfFlr f s = .next t') : Foot fp209 s t' := by
  have h : Foot fp209 s s := Foot.refl
  rw [← Host.Outcome.next.inj ht]
  repeat' first
    | with_reducible assumption
    | ((with_reducible apply Foot.inDom); (on_goal 1 => intro _ _))
    | ((with_reducible apply Foot.step (State.vfFlr_foot ..)); (· rfl))

theorem State.pfFlr_foot (s : State) : Foot fp210 s (State.pfFlr s) := by
  have h : Foot fp210 s s := Foot.refl
  unfold State.pfFlr
  repeat' first
    | with_reducible assumption
    | ((with_reducible apply Foot.wr); (· rfl); (· first | exact Or.inr rfl))
    | ((with_reducible apply Foot.step (State.pfEvent_foot ..)); (· rfl))
    | ((with_reducible apply Foot.step (State.mbxFlr_foot ..)); (· rfl))
    | ((with_reducible apply Foot.step (State.eraseLookaside_foot ..)); (· rfl))
    | ((with_reducible apply Foot.step (State.vfsOff_foot ..)); (· rfl))
    | ((with_reducible apply Foot.step (State.dropHeld_foot ..)); (· rfl))
    | ((with_reducible apply Foot.step (State.quietOps_foot ..)); (· rfl))
    | ((with_reducible apply Foot.step (State.fnConfigReset_foot ..)); (· rfl))
    | ((with_reducible apply Foot.foldl); (on_goal 1 => intro _ _ _))
    | (fail_if_no_progress extract_lets +onlyGivenNames x; first | (refine Foot.cut x ?_ (fun hx => ?_); (on_goal 1 => subst x); (on_goal 2 => clear_value x)) | refine Foot.keepHost x ?_ | refine Foot.keepMbx x ?_ | clear_value x)
    | fail_if_no_progress ((with_reducible apply Foot.setTev); (· rfl))

theorem execPfFlr_foot (s : State) (t' : State) (ht : execPfFlr s = .next t') : Foot fp210 s t' := by
  have h : Foot fp210 s s := Foot.refl
  rw [← Host.Outcome.next.inj ht]
  repeat' first
    | with_reducible assumption
    | ((with_reducible apply Foot.inDom); (on_goal 1 => intro _ _))
    | ((with_reducible apply Foot.step (State.pfFlr_foot ..)); (· rfl))

theorem State.flrDone_foot (s : State) (f : Nat) : Foot fp211 s (State.flrDone s f) := by
  have h : Foot fp211 s s := Foot.refl
  unfold State.flrDone
  repeat' first
    | with_reducible assumption
    | with_reducible apply Foot.ite
    | ((with_reducible apply Foot.wr); (· rfl); (· first | exact Or.inr rfl))
    | ((with_reducible apply Foot.inc); (· rfl); (· first | exact Or.inr rfl))
    | ((with_reducible apply Foot.step (State.pfEvent_foot ..)); (· rfl))
    | split

theorem execFlrDone_foot (f : Nat) (s : State) (t' : State) (ht : execFlrDone f s = .next t') : Foot fp211 s t' := by
  have h : Foot fp211 s s := Foot.refl
  rw [← Host.Outcome.next.inj ht]
  repeat' first
    | with_reducible assumption
    | ((with_reducible apply Foot.inDom); (on_goal 1 => intro _ _))
    | ((with_reducible apply Foot.step (State.flrDone_foot ..)); (· rfl))

theorem State.vfEnable_foot (s : State) (f : Nat) (v : Nat) : Foot fp189 s (State.vfEnable s f v) := by
  have h : Foot fp189 s s := Foot.refl
  unfold State.vfEnable
  repeat' first
    | with_reducible assumption
    | with_reducible apply Foot.ite
    | ((with_reducible apply Foot.wr); (· rfl); (· first | exact Or.inr rfl))
    | ((with_reducible apply Foot.foldl); (on_goal 1 => intro _ _ _))
    | split

theorem State.configWrite_foot (s : State) (f : Nat) (item : ConfigItem) (v : Nat) : Foot fp212 s (State.configWrite s f item v) := by
  have h : Foot fp212 s s := Foot.refl
  unfold State.configWrite
  repeat' first
    | with_reducible assumption
    | with_reducible apply Foot.ite
    | ((with_reducible apply Foot.wr); (· rfl); (· first | exact Or.inr rfl))
    | ((with_reducible apply Foot.step (State.setCfg_foot ..)); (· rfl))
    | ((with_reducible apply Foot.step (State.msixFlushAll_foot ..)); (· rfl))
    | ((with_reducible apply Foot.step (State.pfEvent_foot ..)); (· rfl))
    | ((with_reducible apply Foot.step (State.bmeSet_foot ..)); (· rfl))
    | ((with_reducible apply Foot.step (State.vfEnable_foot ..)); (· rfl))
    | (fail_if_no_progress extract_lets +onlyGivenNames x; first | (refine Foot.cut x ?_ (fun hx => ?_); (on_goal 1 => subst x); (on_goal 2 => clear_value x)) | refine Foot.keepHost x ?_ | refine Foot.keepMbx x ?_ | clear_value x)
    | fail_if_no_progress ((with_reducible apply Foot.setHost); (· rfl); (· exact fun hb => ⟨hb.log, hb.errs, hb.fwQueue⟩))
    | fail_if_no_progress ((with_reducible apply Foot.setTev); (· rfl))
    | split

theorem execConfigurationWrite_foot (f : Nat) (item : ConfigItem) (v : Nat) (s : State) (t' : State) (ht : execConfigurationWrite f item v s = .next t') : Foot fp212 s t' := by
  have h : Foot fp212 s s := Foot.refl
  rw [← Host.Outcome.next.inj ht]
  repeat' first
    | with_reducible assumption
    | ((with_reducible apply Foot.inDom); (on_goal 1 => intro _ _))
    | ((with_reducible apply Foot.step (State.fcTake_foot ..)); (· rfl))
    | ((with_reducible apply Foot.step (State.configWrite_foot ..)); (· rfl))

theorem execUnsupportedRequest_foot (f : Nat) (_kind : Unsupported) (s : State) (t' : State) (ht : execUnsupportedRequest f _kind s = .next t') : Foot fp81 s t' := by
  have h : Foot fp81 s s := Foot.refl
  rw [← Host.Outcome.next.inj ht]
  repeat' first
    | with_reducible assumption
    | ((with_reducible apply Foot.inDom); (on_goal 1 => intro _ _))
    | ((with_reducible apply Foot.step (State.emit_foot ..)); (· rfl))
    | ((with_reducible apply Foot.step (State.fcTake_foot ..)); (· rfl))

end Sys2Proof.Machine
end

