-- ==== Sys2Proof/Laws/FootClassifier.lean ====
section
/-! SUPPORT. What each operation of Machine/Classifier.lean can change (`Foot`). -/

namespace Sys2Proof.Machine

def fp213 : Nat := 0x8000000000000000000000000000000000000000000000000000000000000000000000000000000000000000000000000000000000000000000000000000000000000000000000000000000000000000000000000000000000000000000000000000000000000000000000000000000000000000000000000000000000000
def fp214 : Nat := 0x1000c00000000000000000000001c0000000000000000000000000000000000000001c1000000000000000000000000000000000000000000000000000000000000000000000000000000000000000000000000000000000000000000000000000000000000000000000000000000000000000000000000000000000000001400
def fp215 : Nat := 0x10000000000000000000000000000000000000000000000000000000000000000000000000000000000000000000000000000000000000000000000000000000000000000000000000000000000000000000000000000000000000000000000000000000000000000000000000000000000000000000000000000000000
def fp216 : Nat := 0x80100000000000000000000000000000000000000000000000000000000000000000000000000000000000000000000000000000000000000000000000000000000000000000000000000000a0000000000000000000000000000000000000000000000000000000000000000000000000000000000000000000000000000
def fp217 : Nat := 0x80100000000000000000000000000000000000000000000000000000000000000000000000000000000000000000000000000000000000000000000000000000000000000000000000000002a0000000000000000000000000000000000000000000000000000000000000000000000000000000000000000000000000000
def fp218 : Nat := 0x1000c01000000000000000000001c0000000000000000000000000000000000000001c10000000000000000000000000000000000000000000000000000000000000000000000000000000000002a0000000000000000000000000000000000000000000000000000000000000000000000000000000000000000000000001400
def fp219 : Nat := 0x1000c00000000000000000000001c0000000000000000000000000000000000000001c1000000000000000000000000000000000000000000000000000000000000000000000000200000000000000000000000000000000000000000000000000000000000000000000000000000000000000000000000000000000000000000
def fp220 : Nat := 0x1000c01000000000000000000001c0000000000000000000000000000000000000001c10000000000000000000000000000000000000000000000000000000000000000000000002000000000000a0000000000000000000000000000000000000000000000000000000000000000000000000000000000000000000000001400
def fp221 : Nat := 0x1000c01000000000000000000001c0000000000000000000000000000000000000001c1000000000000000000000000000000000000000000000000000000000000000000000000200000000000200000000000000000000000000000000000000000000000000000000000000000000000000000000000000000000000000000
def fp222 : Nat := 0x1000c01000000000000000000001c0000000000000000000000000000000000000001c10000000000000000000000000000000000000000000000000000000000000000000000002000000000002a0000000000000000000000000000000000000000000000000000000000000000000000000000000000000000000000001400
def fp223 : Nat := 0x1000c01000000000000000000001c0000000000000000000000000000000000000001c10000000000000000000000000000000000000000000000000000000000000000000000000000000000000a0000000000000000000000000000000000000000000000000000000000000000000000000000000000000000000000000000
def fp224 : Nat := 0x10000000000000000000000000000000000000000000000000000000000000000000000000000000000000000000000000000000000000000000000000000000000000000000000070000000000000000000000000000000000000000000000000000000000000000000000000000000000000000000000000000000000
def fp225 : Nat := 0x1000401000000000000000000001c0000000000000000000000000000000000000001c1000000000000000000000000000000000000000000000000000000000000000000000000000000070000000000000000000000000000000000000000000000000000000000000000000000000000000000000000000000000000001400
def fp226 : Nat := 0x8010000000000000000000000000000000000000000000000000000000000000000000000000000000000000000000000000000000000000000000000000000000000000000000060000000000000000000000000000000000000000000000000000000000000000000000000000000000000000000000000000000000000
def fp227 : Nat := 0x8010000000000000000000000000000000000000000000000000000000000000000000000000000000000000000000000000000000000000000000000000000000000000000000260000000000000000000000000000000000000000000000000000000000000000000000000000000000000000000000000000000000000
def fp228 : Nat := 0x1000c01000000000000000000001c0000000000000000000000000000000000000001c1000000000000000000000000000000000000000000000000000000000000000000000000000260000000000000000000000000000000000000000000000000000000000000000000000000000000000000000000000000000000001400
def fp229 : Nat := 0x1000c01000000000000000000001c0000000000000000000000000000000000000001c1000000000000000000000000000000000000000000000000000000000000000000000000000060000000000000000000000000000000000000000000000000000000000000000000000000000000000000000000000000000000001400
def fp230 : Nat := 0x10000000000000000000000000000000000000000000000000000000000000000000000000000000000000000000000000000000000000000000000000000000000000000000200000000000000000000000000000000000000000000000000000000000000000000000000000000000000000000000000000000000000
def fp231 : Nat := 0x1000c01000000000000000000001c0000000000000000000000000000000000000001c1000000000000000000000000000000000000000000000000000000000000000000000000000060000000000000000000000000000000000000000000000000000000000000000000000000000000000000000000000000000000000000
def fp232 : Nat := 0x10000000000000000000000000000000000000000000000000000000000000000000000000000000000000000000000000000000000000000
def fp233 : Nat := 0x1000400000000000000000000001c0000000000000000000000000000000000000001c1000000000000000000000000000000000000000000000000000000000000000000000001010000000000000000000000000000000000000000000000000000000000000000000000000000000000000000000000000000000000000000
def fp234 : Nat := 0x1000c00000000000000000000001c0000000000000000000000000000000000000001c1000000000000000000000000000000000000000000000000000000000000000000000001214000000000000000000000000000000000000000000000000000000000000000000000000000000000000000000000000000000000000000
def fp235 : Nat := 0x1000c00000000000000000000001c0000000000000000000000000000000000000001c1000000000000000000000000000000000000000000000000000000000000000000000001214000000000000000000000000000000000000000000000000000000000000000000000000000000000000000000000000000000000001400
def fp236 : Nat := 0x1000c00000000000000000000001c0000000000000000000000000000000000000001c1000000000000000000000000000000000000000000000000000000000000000000000001014000000000000000000000000000000000000000000000000000000000000000000000000000000000000000000000000000000000000000
def fp237 : Nat := 0x1000c00000000000000000000001c0000000000000000000000000000000000000001c1000000000000000000000000000000000000000000000000000000000000000000000001016000000000000000000000000000000000000000000000000000000000000000000000000000000000000000000000000000000000001400
def fp238 : Nat := 0x1020c00000000000000000000001c0000000000000000000000000000000000000001c1000000000000000000000000000000000000000000000000000000000000000000000001014000000000000000000000000000000000000000000000000000000000000000000000000000000000000000000000000000000000000000
def fp239 : Nat := 0x1000c00000000000000000000001c0000000000000000000000000000000000000001c1000000000000000000000000000000000000000000000000000000000000000000000000214000000000000000000000000000000000000000000000000000000000000000000000000000000000000000000000000000000000000000
def fp240 : Nat := 0x1000c00000000000000000000001c0000000000000000000000000000000000000001c1000000000000000000000000000000000000000000000000000000000000000000000000214000000000000000000000000000000000000000000000000000000000000000000000000000000000000000000000000000000000001400
def fp241 : Nat := 0x200000000000000000000000000000000000000000000000000000000000000000000000000000000000000000000000000000000000000000000000000000000000000000000000000000000000000000000000000000000000000000000000000000000000000000000000000000000000000000000000000000000000000
def fp242 : Nat := 0x1020c00000000000000000000001c0000000000000000000000000000000000000001c1000000000000000000000000000000000000000000000000000000000000000000000000bec000000000000000000000000000000000000000000000000000000000000000000000000000000000000000000000000000000000000000
def fp243 : Nat := 0x1020c00000000000000000000001c0000000000000000000000000000000000000001c100000000000000000000000000000000000000000000000000000000000000000000000101c000000000000000000000000000000000000000000000000000000000000000000000000000000000000000000000000000000000000000
def fp244 : Nat := 0x1028c0c000000000000000000001c0000000000000000000000000000000000000001c100000000000000000000000000206000000000000000000000000000000000000000000101c003c00000000000000000000000000000000000000000000000000000000000000000000000000000000000000000000000000000000000
def fp245 : Nat := 0x1000400000000000000000000001c0000000000000000000000000000000000000001c1000000000000000000000000000000000000000000000000000000000000000000000008000000000000000000000000000000000000000000000000000000000000000000000000000000000000000000000000000000000000000000

theorem State.unlearn_foot (s : State) (sid : Nat) : Foot fp213 s (State.unlearn s sid) := by
  have h : Foot fp213 s s := Foot.refl
  unfold State.unlearn
  repeat' first
    | with_reducible assumption
    | (fail_if_no_progress extract_lets +onlyGivenNames x; first | refine Foot.keepHost x ?_ | refine Foot.keepMbx x ?_ | clear_value x)
    | fail_if_no_progress ((with_reducible apply Foot.setCls); (· rfl))

theorem execLearnHoldExpiry_foot (sid : Nat) (s : State) (t' : State) (ht : execLearnHoldExpiry sid s = .next t') : Foot fp213 s t' := by
  have h : Foot fp213 s s := Foot.refl
  rw [← Host.Outcome.next.inj ht]
  repeat' first
    | with_reducible assumption
    | ((with_reducible apply Foot.step (State.unlearn_foot ..)); (· rfl))

theorem State.rearm_foot (s : State) : Foot fp213 s (State.rearm s) := by
  have h : Foot fp213 s s := Foot.refl
  unfold State.rearm
  repeat' first
    | with_reducible assumption
    | (fail_if_no_progress extract_lets +onlyGivenNames x; first | refine Foot.keepHost x ?_ | refine Foot.keepMbx x ?_ | clear_value x)
    | fail_if_no_progress ((with_reducible apply Foot.setCls); (· rfl))

theorem execLearnRearm_foot (ag : Agent) (s : State) (t' : State) (ht : execLearnRearm ag s = .next t') : Foot fp214 s t' := by
  have h : Foot fp214 s s := Foot.refl
  rw [← Host.Outcome.next.inj ht]
  repeat' first
    | with_reducible assumption
    | ((with_reducible apply State.gated_foot); (· rfl); (on_goal 1 => intro _ _))
    | ((with_reducible apply Foot.step (State.rearm_foot ..)); (· rfl))

theorem State.wrWords_foot {m : Nat} {s t : State} {ag : Agent} {R : Row} {v : Nat} (hm : m.testBit 1000 = true)
    (hr : rowIn m R = true) (hl : R.legStride = 0) (h : Foot m s t) : Foot m s (State.wrWords t ag R v) := by
  unfold State.wrWords
  exact Foot.foldl (fun x y h => Foot.wrA hm hr (Or.inr hl) h) h

theorem State.holdStbl_foot (s : State) (ag : Agent) (st : Option Nat) : Foot fp213 s (State.holdStbl s ag st) := by
  have h : Foot fp213 s s := Foot.refl
  unfold State.holdStbl
  repeat' first
    | with_reducible assumption
    | with_reducible apply Foot.ite
    | (fail_if_no_progress extract_lets +onlyGivenNames x; first | refine Foot.keepHost x ?_ | refine Foot.keepMbx x ?_ | clear_value x)
    | fail_if_no_progress ((with_reducible apply Foot.setCls); (· rfl))
    | split

theorem State.stblCmd_foot {m : Nat} {s t : State} {ag : Agent} {f : State → Nat × State} (hm : fp216 ||| m = m)
    (hf : ∀ x, Foot m s x → Foot m s (f x).2) (h : Foot m s t) : Foot m s (State.stblCmd t ag f) := by
  have hs : ∀ v w, Foot fp216 v (v.wrA ag Reg.STBL_CMD_STATUS w) := fun v w => Foot.wrA rfl rfl (Or.inr rfl) Foot.refl
  have hw : ∀ v w, Foot fp216 v (v.wrA ag Reg.STBL_CMD_BUSY w) := fun v w => Foot.wrA rfl rfl (Or.inr rfl) Foot.refl
  unfold State.stblCmd
  split
  · exact Foot.step (hs ..) hm h
  · split
    rename_i st u he
    have hu : Foot m s u := Foot.ofPair he (Foot.ite2 (hf t h) h)
    exact Foot.step (State.holdStbl_foot ..) (mask_trans (b := fp216) rfl hm) (Foot.step (hw ..) hm hu)

theorem State.stblRead_foot (s : State) (ag : Agent) (view : Nat) : Foot fp217 s (State.stblRead s ag view) := by
  have h : Foot fp217 s s := Foot.refl
  unfold State.stblRead
  repeat' first
    | with_reducible assumption
    | ((with_reducible apply State.wrWords_foot); (· rfl); (· rfl); (· rfl))
    | ((with_reducible apply State.stblCmd_foot); (· rfl); (on_goal 1 => intro _ _))

theorem execStblRead_foot (ag : Agent) (view : Nat) (s : State) (t' : State) (ht : execStblRead ag view s = .next t') : Foot fp218 s t' := by
  have h : Foot fp218 s s := Foot.refl
  rw [← Host.Outcome.next.inj ht]
  repeat' first
    | with_reducible assumption
    | ((with_reducible apply State.gated_foot); (· rfl); (on_goal 1 => intro _ _))
    | ((with_reducible apply Foot.step (State.stblRead_foot ..)); (· rfl))

theorem State.stageStream_foot (s : State) (idx : Nat) (e : Nat) : Foot fp219 s (State.stageStream s idx e).2 := by
  have h : Foot fp219 s s := Foot.refl
  unfold State.stageStream
  repeat' first
    | with_reducible assumption
    | with_reducible apply Foot.ite
    | with_reducible apply Foot.ite2
    | ((with_reducible apply Foot.inc); (· rfl); (· first | exact Or.inr rfl))
    | ((with_reducible apply Foot.step (State.event_foot ..)); (· rfl))
    | (fail_if_no_progress extract_lets +onlyGivenNames x; first | (refine Foot.cut x ?_ (fun hx => ?_); (on_goal 1 => subst x); (on_goal 2 => clear_value x)) | refine Foot.keepHost x ?_ | refine Foot.keepMbx x ?_ | clear_value x)
    | fail_if_no_progress ((with_reducible apply Foot.setCls); (· rfl))
    | split

theorem State.insertStream_foot (s : State) (idx : Nat) (e : Nat) : Foot fp213 s (State.insertStream s idx e).2 := by
  have h : Foot fp213 s s := Foot.refl
  unfold State.insertStream
  repeat' first
    | with_reducible assumption
    | with_reducible apply Foot.ite
    | with_reducible apply Foot.ite2
    | ((with_reducible apply Foot.step (State.unlearn_foot ..)); (· rfl))
    | (fail_if_no_progress extract_lets +onlyGivenNames x; first | refine Foot.keepHost x ?_ | refine Foot.keepMbx x ?_ | clear_value x)
    | fail_if_no_progress ((with_reducible apply Foot.setCls); (· rfl))
    | (rename_i he; refine Foot.cut _ (Foot.ofPair he ?_) (fun hx => ?_); (on_goal 2 => clear he))
    | split

theorem State.putStream_foot (s : State) (stage : Bool) (idx : Nat) (e : Nat) : Foot fp219 s (State.putStream s stage idx e).2 := by
  have h : Foot fp219 s s := Foot.refl
  unfold State.putStream
  repeat' first
    | with_reducible assumption
    | with_reducible apply Foot.ite
    | with_reducible apply Foot.ite2
    | ((with_reducible apply Foot.step (State.stageStream_foot ..)); (· rfl))
    | ((with_reducible apply Foot.step (State.insertStream_foot ..)); (· rfl))
    | split

theorem State.stblWrite_foot (s : State) (ag : Agent) (stage : Bool) : Foot fp219 s (State.stblWrite s ag stage).2 := by
  have h : Foot fp219 s s := Foot.refl
  unfold State.stblWrite
  repeat' first
    | with_reducible assumption
    | with_reducible apply Foot.ite
    | with_reducible apply Foot.ite2
    | ((with_reducible apply Foot.step (State.putStream_foot ..)); (· rfl))
    | (fail_if_no_progress extract_lets +onlyGivenNames x; first | (refine Foot.cut x ?_ (fun hx => ?_); (on_goal 1 => subst x); (on_goal 2 => clear_value x)) | (refine Foot.cut2 x ?_ (fun hx => ?_); (on_goal 1 => subst x); (on_goal 2 => clear_value x)) | refine Foot.keepHost x ?_ | refine Foot.keepMbx x ?_ | clear_value x)
    | split

theorem execStblWrite_foot (ag : Agent) (stage : Bool) (s : State) (t' : State) (ht : execStblWrite ag stage s = .next t') : Foot fp220 s t' := by
  have h : Foot fp220 s s := Foot.refl
  rw [← Host.Outcome.next.inj ht]
  repeat' first
    | with_reducible assumption
    | ((with_reducible apply State.gated_foot); (· rfl); (on_goal 1 => intro _ _))
    | ((with_reducible apply State.stblCmd_foot); (· rfl); (on_goal 1 => intro _ _))
    | ((with_reducible apply Foot.step (State.stblWrite_foot ..)); (· rfl))

theorem State.stblInvalidate_foot (s : State) (ag : Agent) (stage : Bool) : Foot fp219 s (State.stblInvalidate s ag stage).2 := by
  have h : Foot fp219 s s := Foot.refl
  unfold State.stblInvalidate
  repeat' first
    | with_reducible assumption
    | with_reducible apply Foot.ite
    | with_reducible apply Foot.ite2
    | ((with_reducible apply Foot.step (State.stageStream_foot ..)); (· rfl))
    | (rename_i he; refine Foot.cut _ (Foot.ofPair he ?_) (fun hx => ?_); (on_goal 2 => clear he))
    | split

theorem execStblInvalidate_foot (ag : Agent) (stage : Bool) (s : State) (t' : State) (ht : execStblInvalidate ag stage s = .next t') : Foot fp220 s t' := by
  have h : Foot fp220 s s := Foot.refl
  rw [← Host.Outcome.next.inj ht]
  repeat' first
    | with_reducible assumption
    | ((with_reducible apply State.gated_foot); (· rfl); (on_goal 1 => intro _ _))
    | ((with_reducible apply State.stblCmd_foot); (· rfl); (on_goal 1 => intro _ _))
    | ((with_reducible apply Foot.step (State.stblInvalidate_foot ..)); (· rfl))

theorem State.stblCompare_foot (s : State) (ag : Agent) (stage : Bool) : Foot fp221 s (State.stblCompare s ag stage).2 := by
  have h : Foot fp221 s s := Foot.refl
  unfold State.stblCompare
  repeat' first
    | with_reducible assumption
    | with_reducible apply Foot.ite
    | with_reducible apply Foot.ite2
    | ((with_reducible apply State.wrWords_foot); (· rfl); (· rfl); (· rfl))
    | ((with_reducible apply Foot.step (State.putStream_foot ..)); (· rfl))
    | (fail_if_no_progress extract_lets +onlyGivenNames x; first | (refine Foot.cut x ?_ (fun hx => ?_); (on_goal 1 => subst x); (on_goal 2 => clear_value x)) | (refine Foot.cut2 x ?_ (fun hx => ?_); (on_goal 1 => subst x); (on_goal 2 => clear_value x)) | refine Foot.keepHost x ?_ | refine Foot.keepMbx x ?_ | clear_value x)
    | split

theorem execCompareAndWrite_foot (ag : Agent) (stage : Bool) (s : State) (t' : State) (ht : execCompareAndWrite ag stage s = .next t') : Foot fp222 s t' := by
  have h : Foot fp222 s s := Foot.refl
  rw [← Host.Outcome.next.inj ht]
  repeat' first
    | with_reducible assumption
    | ((with_reducible apply State.gated_foot); (· rfl); (on_goal 1 => intro _ _))
    | ((with_reducible apply State.stblCmd_foot); (· rfl); (on_goal 1 => intro _ _))
    | ((with_reducible apply Foot.step (State.stblCompare_foot ..)); (· rfl))

theorem State.stblDone_foot (s : State) (ag : Agent) : Foot fp223 s (State.stblDone s ag) := by
  have h : Foot fp223 s s := Foot.refl
  unfold State.stblDone
  repeat' first
    | with_reducible assumption
    | with_reducible apply Foot.ite
    | ((with_reducible apply Foot.wrA); (· rfl); (· rfl); (· first | exact Or.inr rfl))
    | ((with_reducible apply Foot.step (State.event_foot ..)); (· rfl))
    | ((with_reducible apply Foot.step (State.holdStbl_foot ..)); (· rfl))
    | split

theorem execStblCmdDone_foot (ag : Agent) (s : State) (t' : State) (ht : execStblCmdDone ag s = .next t') : Foot fp223 s t' := by
  have h : Foot fp223 s s := Foot.refl
  rw [← Host.Outcome.next.inj ht]
  repeat' first
    | with_reducible assumption
    | ((with_reducible apply Foot.reg); (on_goal 1 => intro _ _))
    | ((with_reducible apply Foot.step (State.stblDone_foot ..)); (· rfl))

theorem State.statLatch_foot (s : State) (ag : Agent) (idx : Nat) : Foot fp224 s (State.statLatch s ag idx) := by
  have h : Foot fp224 s s := Foot.refl
  unfold State.statLatch
  repeat' first
    | with_reducible assumption
    | ((with_reducible apply Foot.wrA); (· rfl); (· rfl); (· first | exact Or.inr rfl))
    | (fail_if_no_progress extract_lets +onlyGivenNames x; first | (refine Foot.cut x ?_ (fun hx => ?_); (on_goal 1 => subst x); (on_goal 2 => clear_value x)) | (refine Foot.cut2 x ?_ (fun hx => ?_); (on_goal 1 => subst x); (on_goal 2 => clear_value x)) | refine Foot.keepHost x ?_ | refine Foot.keepMbx x ?_ | clear_value x)

theorem execStatLatch_foot (ag : Agent) (idx : Nat) (s : State) (t' : State) (ht : execStatLatch ag idx s = .next t') : Foot fp225 s t' := by
  have h : Foot fp225 s s := Foot.refl
  rw [← Host.Outcome.next.inj ht]
  repeat' first
    | with_reducible assumption
    | ((with_reducible apply State.gated_foot); (· rfl); (on_goal 1 => intro _ _))
    | ((with_reducible apply Foot.step (State.statLatch_foot ..)); (· rfl))

theorem State.holdCls_foot (s : State) (ag : Agent) (st : Option Nat) : Foot fp213 s (State.holdCls s ag st) := by
  have h : Foot fp213 s s := Foot.refl
  unfold State.holdCls
  repeat' first
    | with_reducible assumption
    | with_reducible apply Foot.ite
    | (fail_if_no_progress extract_lets +onlyGivenNames x; first | refine Foot.keepHost x ?_ | refine Foot.keepMbx x ?_ | clear_value x)
    | fail_if_no_progress ((with_reducible apply Foot.setCls); (· rfl))
    | split

theorem State.clsCmd_foot {m : Nat} {s t : State} {ag : Agent} {f : State → Nat × State} (hm : fp226 ||| m = m)
    (hf : ∀ x, Foot m s x → Foot m s (f x).2) (h : Foot m s t) : Foot m s (State.clsCmd t ag f) := by
  have hs : ∀ v w, Foot fp226 v (v.wrA ag Reg.CLS_CMD_STATUS w) := fun v w => Foot.wrA rfl rfl (Or.inr rfl) Foot.refl
  have hw : ∀ v w, Foot fp226 v (v.wrA ag Reg.CLS_CMD_BUSY w) := fun v w => Foot.wrA rfl rfl (Or.inr rfl) Foot.refl
  unfold State.clsCmd
  split
  · exact Foot.step (hs ..) hm h
  · split
    rename_i st u he
    have hu : Foot m s u := Foot.ofPair he (Foot.ite2 (hf t h) h)
    exact Foot.step (State.holdCls_foot ..) (mask_trans (b := fp226) rfl hm) (Foot.step (hw ..) hm hu)

theorem State.readNode_foot (s : State) (ag : Agent) : Foot fp227 s (State.readNode s ag) := by
  have h : Foot fp227 s s := Foot.refl
  unfold State.readNode
  repeat' first
    | with_reducible assumption
    | ((with_reducible apply State.wrWords_foot); (· rfl); (· rfl); (· rfl))
    | ((with_reducible apply State.clsCmd_foot); (· rfl); (on_goal 1 => intro _ _))

theorem execReadNode_foot (ag : Agent) (s : State) (t' : State) (ht : execReadNode ag s = .next t') : Foot fp228 s t' := by
  have h : Foot fp228 s s := Foot.refl
  rw [← Host.Outcome.next.inj ht]
  repeat' first
    | with_reducible assumption
    | ((with_reducible apply State.gated_foot); (· rfl); (on_goal 1 => intro _ _))
    | ((with_reducible apply Foot.step (State.readNode_foot ..)); (· rfl))

theorem State.nodeWrite_foot (s : State) (n : Nat) (v : Nat) : Foot fp213 s (State.nodeWrite s n v).2 := by
  have h : Foot fp213 s s := Foot.refl
  unfold State.nodeWrite
  repeat' first
    | with_reducible assumption
    | with_reducible apply Foot.ite
    | with_reducible apply Foot.ite2
    | (fail_if_no_progress extract_lets +onlyGivenNames x; first | refine Foot.keepHost x ?_ | refine Foot.keepMbx x ?_ | clear_value x)
    | fail_if_no_progress ((with_reducible apply Foot.setCls); (· rfl))
    | split

theorem State.writeNode_foot (s : State) (ag : Agent) : Foot fp226 s (State.writeNode s ag) := by
  have h : Foot fp226 s s := Foot.refl
  unfold State.writeNode
  repeat' first
    | with_reducible assumption
    | ((with_reducible apply State.clsCmd_foot); (· rfl); (on_goal 1 => intro _ _))
    | ((with_reducible apply Foot.step (State.nodeWrite_foot ..)); (· rfl))

theorem execWriteNode_foot (ag : Agent) (s : State) (t' : State) (ht : execWriteNode ag s = .next t') : Foot fp229 s t' := by
  have h : Foot fp229 s s := Foot.refl
  rw [← Host.Outcome.next.inj ht]
  repeat' first
    | with_reducible assumption
    | ((with_reducible apply State.gated_foot); (· rfl); (on_goal 1 => intro _ _))
    | ((with_reducible apply Foot.step (State.writeNode_foot ..)); (· rfl))

theorem State.readPair_foot (s : State) (ag : Agent) (v : Nat) : Foot fp230 s (State.readPair s ag v) := by
  have h : Foot fp230 s s := Foot.refl
  unfold State.readPair
  repeat' first
    | with_reducible assumption
    | ((with_reducible apply Foot.wrA); (· rfl); (· rfl); (· first | exact Or.inr rfl))

theorem State.readRoot_foot (s : State) (ag : Agent) : Foot fp227 s (State.readRoot s ag) := by
  have h : Foot fp227 s s := Foot.refl
  unfold State.readRoot
  repeat' first
    | with_reducible assumption
    | with_reducible apply Foot.ite
    | ((with_reducible apply State.clsCmd_foot); (· rfl); (on_goal 1 => intro _ _))
    | ((with_reducible apply Foot.step (State.readPair_foot ..)); (· rfl))
    | (fail_if_no_progress extract_lets +onlyGivenNames x; first | refine Foot.keepHost x ?_ | refine Foot.keepMbx x ?_ | clear_value x)
    | split

theorem execReadRoot_foot (ag : Agent) (s : State) (t' : State) (ht : execReadRoot ag s = .next t') : Foot fp228 s t' := by
  have h : Foot fp228 s s := Foot.refl
  rw [← Host.Outcome.next.inj ht]
  repeat' first
    | with_reducible assumption
    | ((with_reducible apply State.gated_foot); (· rfl); (on_goal 1 => intro _ _))
    | ((with_reducible apply Foot.step (State.readRoot_foot ..)); (· rfl))

theorem State.rootWrite_foot (s : State) (i : Nat) (v : Nat) : Foot fp213 s (State.rootWrite s i v).2 := by
  have h : Foot fp213 s s := Foot.refl
  unfold State.rootWrite
  repeat' first
    | with_reducible assumption
    | with_reducible apply Foot.ite
    | with_reducible apply Foot.ite2
    | (fail_if_no_progress extract_lets +onlyGivenNames x; first | refine Foot.keepHost x ?_ | refine Foot.keepMbx x ?_ | clear_value x)
    | fail_if_no_progress ((with_reducible apply Foot.setCls); (· rfl))
    | split

theorem State.writeRoot_foot (s : State) (ag : Agent) : Foot fp226 s (State.writeRoot s ag) := by
  have h : Foot fp226 s s := Foot.refl
  unfold State.writeRoot
  repeat' first
    | with_reducible assumption
    | ((with_reducible apply State.clsCmd_foot); (· rfl); (on_goal 1 => intro _ _))
    | ((with_reducible apply Foot.step (State.rootWrite_foot ..)); (· rfl))

theorem execWriteRoot_foot (ag : Agent) (s : State) (t' : State) (ht : execWriteRoot ag s = .next t') : Foot fp229 s t' := by
  have h : Foot fp229 s s := Foot.refl
  rw [← Host.Outcome.next.inj ht]
  repeat' first
    | with_reducible assumption
    | ((with_reducible apply State.gated_foot); (· rfl); (on_goal 1 => intro _ _))
    | ((with_reducible apply Foot.step (State.writeRoot_foot ..)); (· rfl))

theorem State.readProf_foot (s : State) (ag : Agent) : Foot fp227 s (State.readProf s ag) := by
  have h : Foot fp227 s s := Foot.refl
  unfold State.readProf
  repeat' first
    | with_reducible assumption
    | with_reducible apply Foot.ite
    | ((with_reducible apply State.clsCmd_foot); (· rfl); (on_goal 1 => intro _ _))
    | ((with_reducible apply Foot.step (State.readPair_foot ..)); (· rfl))
    | (fail_if_no_progress extract_lets +onlyGivenNames x; first | refine Foot.keepHost x ?_ | refine Foot.keepMbx x ?_ | clear_value x)
    | split

theorem execReadProf_foot (ag : Agent) (s : State) (t' : State) (ht : execReadProf ag s = .next t') : Foot fp228 s t' := by
  have h : Foot fp228 s s := Foot.refl
  rw [← Host.Outcome.next.inj ht]
  repeat' first
    | with_reducible assumption
    | ((with_reducible apply State.gated_foot); (· rfl); (on_goal 1 => intro _ _))
    | ((with_reducible apply Foot.step (State.readProf_foot ..)); (· rfl))

theorem State.profWrite_foot (s : State) (i : Nat) (v : Nat) : Foot fp213 s (State.profWrite s i v).2 := by
  have h : Foot fp213 s s := Foot.refl
  unfold State.profWrite
  repeat' first
    | with_reducible assumption
    | with_reducible apply Foot.ite
    | with_reducible apply Foot.ite2
    | (fail_if_no_progress extract_lets +onlyGivenNames x; first | refine Foot.keepHost x ?_ | refine Foot.keepMbx x ?_ | clear_value x)
    | fail_if_no_progress ((with_reducible apply Foot.setCls); (· rfl))
    | split

theorem State.writeProf_foot (s : State) (ag : Agent) : Foot fp226 s (State.writeProf s ag) := by
  have h : Foot fp226 s s := Foot.refl
  unfold State.writeProf
  repeat' first
    | with_reducible assumption
    | ((with_reducible apply State.clsCmd_foot); (· rfl); (on_goal 1 => intro _ _))
    | ((with_reducible apply Foot.step (State.profWrite_foot ..)); (· rfl))

theorem execWriteProf_foot (ag : Agent) (s : State) (t' : State) (ht : execWriteProf ag s = .next t') : Foot fp229 s t' := by
  have h : Foot fp229 s s := Foot.refl
  rw [← Host.Outcome.next.inj ht]
  repeat' first
    | with_reducible assumption
    | ((with_reducible apply State.gated_foot); (· rfl); (on_goal 1 => intro _ _))
    | ((with_reducible apply Foot.step (State.writeProf_foot ..)); (· rfl))

theorem State.clsDone_foot (s : State) (ag : Agent) : Foot fp231 s (State.clsDone s ag) := by
  have h : Foot fp231 s s := Foot.refl
  unfold State.clsDone
  repeat' first
    | with_reducible assumption
    | with_reducible apply Foot.ite
    | ((with_reducible apply Foot.wrA); (· rfl); (· rfl); (· first | exact Or.inr rfl))
    | ((with_reducible apply Foot.step (State.event_foot ..)); (· rfl))
    | ((with_reducible apply Foot.step (State.holdCls_foot ..)); (· rfl))
    | split

theorem execClsCmdDone_foot (ag : Agent) (s : State) (t' : State) (ht : execClsCmdDone ag s = .next t') : Foot fp231 s t' := by
  have h : Foot fp231 s s := Foot.refl
  rw [← Host.Outcome.next.inj ht]
  repeat' first
    | with_reducible assumption
    | ((with_reducible apply Foot.reg); (on_goal 1 => intro _ _))
    | ((with_reducible apply Foot.step (State.clsDone_foot ..)); (· rfl))

theorem State.commitResult_foot (s : State) (st : Nat) : Foot fp232 s (State.commitResult s st) := by
  have h : Foot fp232 s s := Foot.refl
  unfold State.commitResult
  repeat' first
    | with_reducible assumption
    | ((with_reducible apply Foot.wr); (· rfl); (· first | exact Or.inr rfl))

theorem State.commitRefuse_foot (s : State) (st : Nat) : Foot fp233 s (State.commitRefuse s st) := by
  have h : Foot fp233 s s := Foot.refl
  unfold State.commitRefuse
  repeat' first
    | with_reducible assumption
    | ((with_reducible apply Foot.inc); (· rfl); (· first | exact Or.inr rfl))
    | ((with_reducible apply Foot.step (State.event_foot ..)); (· rfl))
    | ((with_reducible apply Foot.step (State.commitResult_foot ..)); (· rfl))

theorem State.commitOpen_foot (s : State) : Foot fp234 s (State.commitOpen s) := by
  have h : Foot fp234 s s := Foot.refl
  unfold State.commitOpen
  repeat' first
    | with_reducible assumption
    | with_reducible apply Foot.ite
    | ((with_reducible apply Foot.wr); (· rfl); (· first | exact Or.inr rfl))
    | ((with_reducible apply Foot.step (State.commitResult_foot ..)); (· rfl))
    | ((with_reducible apply Foot.step (State.commitRefuse_foot ..)); (· rfl))
    | (fail_if_no_progress extract_lets +onlyGivenNames x; first | refine Foot.keepHost x ?_ | refine Foot.keepMbx x ?_ | clear_value x)
    | fail_if_no_progress ((with_reducible apply Foot.setCls); (· rfl))
    | split

theorem execCommitOpen_foot (ag : Agent) (s : State) (t' : State) (ht : execCommitOpen ag s = .next t') : Foot fp235 s t' := by
  have h : Foot fp235 s s := Foot.refl
  rw [← Host.Outcome.next.inj ht]
  repeat' first
    | with_reducible assumption
    | ((with_reducible apply State.gated_foot); (· rfl); (on_goal 1 => intro _ _))
    | ((with_reducible apply Foot.step (State.commitOpen_foot ..)); (· rfl))

theorem State.commit_foot (s : State) (version : Nat) : Foot fp236 s (State.commit s version) := by
  have h : Foot fp236 s s := Foot.refl
  unfold State.commit
  repeat' first
    | with_reducible assumption
    | ((with_reducible apply Foot.wr); (· rfl); (· first | exact Or.inr rfl))
    | ((with_reducible apply Foot.step (State.event_foot ..)); (· rfl))
    | ((with_reducible apply Foot.step (State.commitResult_foot ..)); (· rfl))
    | ((with_reducible apply Foot.step (State.commitRefuse_foot ..)); (· rfl))
    | (fail_if_no_progress extract_lets +onlyGivenNames x; first | (refine Foot.cut x ?_ (fun hx => ?_); (on_goal 1 => subst x); (on_goal 2 => clear_value x)) | refine Foot.keepHost x ?_ | refine Foot.keepMbx x ?_ | clear_value x)
    | fail_if_no_progress ((with_reducible apply Foot.setCls); (· rfl))
    | split

theorem execCommit_foot (ag : Agent) (version : Nat) (s : State) (t' : State) (ht : execCommit ag version s = .next t') : Foot fp237 s t' := by
  have h : Foot fp237 s s := Foot.refl
  rw [← Host.Outcome.next.inj ht]
  repeat' first
    | with_reducible assumption
    | ((with_reducible apply Foot.wr); (· rfl); (· first | exact Or.inr rfl))
    | ((with_reducible apply State.gated_foot); (· rfl); (on_goal 1 => intro _ _))
    | ((with_reducible apply Foot.step (State.commit_foot ..)); (· rfl))

theorem State.bulkRetry_foot (s : State) : Foot fp238 s (State.bulkRetry s) := by
  have h : Foot fp238 s s := Foot.refl
  unfold State.bulkRetry
  repeat' first
    | with_reducible assumption
    | with_reducible apply Foot.ite
    | ((with_reducible apply Foot.step (State.commit_foot ..)); (· rfl))
    | ((with_reducible apply Foot.foldl); (on_goal 1 => intro _ _ _))
    | (fail_if_no_progress extract_lets +onlyGivenNames x; first | (refine Foot.cut x ?_ (fun hx => ?_); (on_goal 1 => subst x); (on_goal 2 => clear_value x)) | refine Foot.keepHost x ?_ | refine Foot.keepMbx x ?_ | clear_value x)
    | fail_if_no_progress ((with_reducible apply Foot.setAdm); (· rfl))
    | split

theorem State.commitCancel_foot (s : State) : Foot fp239 s (State.commitCancel s) := by
  have h : Foot fp239 s s := Foot.refl
  unfold State.commitCancel
  repeat' first
    | with_reducible assumption
    | with_reducible apply Foot.ite
    | ((with_reducible apply Foot.wr); (· rfl); (· first | exact Or.inr rfl))
    | ((with_reducible apply Foot.step (State.event_foot ..)); (· rfl))
    | ((with_reducible apply Foot.step (State.commitResult_foot ..)); (· rfl))
    | (fail_if_no_progress extract_lets +onlyGivenNames x; first | refine Foot.keepHost x ?_ | refine Foot.keepMbx x ?_ | clear_value x)
    | fail_if_no_progress ((with_reducible apply Foot.setCls); (· rfl))
    | split

theorem execCommitCancel_foot (ag : Agent) (s : State) (t' : State) (ht : execCommitCancel ag s = .next t') : Foot fp240 s t' := by
  have h : Foot fp240 s s := Foot.refl
  rw [← Host.Outcome.next.inj ht]
  repeat' first
    | with_reducible assumption
    | ((with_reducible apply State.gated_foot); (· rfl); (on_goal 1 => intro _ _))
    | ((with_reducible apply Foot.step (State.commitCancel_foot ..)); (· rfl))

theorem State.commitSwitch_foot (s : State) : Foot fp213 s (State.commitSwitch s) := by
  have h : Foot fp213 s s := Foot.refl
  unfold State.commitSwitch
  repeat' first
    | with_reducible assumption
    | with_reducible apply Foot.ite
    | (fail_if_no_progress extract_lets +onlyGivenNames x; first | refine Foot.keepHost x ?_ | refine Foot.keepMbx x ?_ | clear_value x)
    | fail_if_no_progress ((with_reducible apply Foot.setCls); (· rfl))
    | split

theorem State.applyStaged_foot (s : State) : Foot fp213 s (State.applyStaged s) := by
  have h : Foot fp213 s s := Foot.refl
  unfold State.applyStaged
  repeat' first
    | with_reducible assumption
    | ((with_reducible apply Foot.step (State.unlearn_foot ..)); (· rfl))
    | ((with_reducible apply Foot.foldl); (on_goal 1 => intro _ _ _))
    | (fail_if_no_progress extract_lets +onlyGivenNames x; first | refine Foot.keepHost x ?_ | refine Foot.keepMbx x ?_ | clear_value x)
    | fail_if_no_progress ((with_reducible apply Foot.setCls); (· rfl))

theorem State.bulkPassed_foot (s : State) : Foot fp241 s (State.bulkPassed s) := by
  have h : Foot fp241 s s := Foot.refl
  unfold State.bulkPassed
  repeat' first
    | with_reducible assumption
    | with_reducible apply Foot.ite
    | (fail_if_no_progress extract_lets +onlyGivenNames x; first | refine Foot.keepHost x ?_ | refine Foot.keepMbx x ?_ | clear_value x)
    | fail_if_no_progress ((with_reducible apply Foot.setAdm); (· rfl))
    | split

theorem State.commitEffective_foot (s : State) : Foot fp242 s (State.commitEffective s) := by
  have h : Foot fp242 s s := Foot.refl
  unfold State.commitEffective
  repeat' first
    | with_reducible assumption
    | with_reducible apply Foot.ite
    | ((with_reducible apply Foot.wr); (· rfl); (· first | exact Or.inr rfl))
    | ((with_reducible apply Foot.inc); (· rfl); (· first | exact Or.inr rfl))
    | ((with_reducible apply Foot.wr2); (· rfl); (· rfl); (· first | exact Or.inr rfl); (· first | exact Or.inr rfl))
    | ((with_reducible apply Foot.step (State.event_foot ..)); (· rfl))
    | ((with_reducible apply Foot.step (State.applyStaged_foot ..)); (· rfl))
    | ((with_reducible apply Foot.step (State.bulkPassed_foot ..)); (· rfl))
    | (fail_if_no_progress extract_lets +onlyGivenNames x; first | refine Foot.keepHost x ?_ | refine Foot.keepMbx x ?_ | clear_value x)
    | fail_if_no_progress ((with_reducible apply Foot.setCls); (· rfl))
    | split

theorem execCommitEffective_foot (s : State) (t' : State) (ht : execCommitEffective s = .next t') : Foot fp242 s t' := by
  have h : Foot fp242 s s := Foot.refl
  rw [← Host.Outcome.next.inj ht]
  repeat' first
    | with_reducible assumption
    | ((with_reducible apply Foot.step (State.commitEffective_foot ..)); (· rfl))

theorem State.retire_foot (s : State) : Foot fp243 s (State.retire s) := by
  have h : Foot fp243 s s := Foot.refl
  unfold State.retire
  repeat' first
    | with_reducible assumption
    | ((with_reducible apply Foot.wr); (· rfl); (· first | exact Or.inr rfl))
    | ((with_reducible apply Foot.step (State.event_foot ..)); (· rfl))
    | ((with_reducible apply Foot.step (State.bulkRetry_foot ..)); (· rfl))
    | (fail_if_no_progress extract_lets +onlyGivenNames x; first | refine Foot.keepHost x ?_ | refine Foot.keepMbx x ?_ | clear_value x)
    | fail_if_no_progress ((with_reducible apply Foot.setCls); (· rfl))

theorem State.drainDone_foot (s : State) : Foot fp243 s (State.drainDone s) := by
  have h : Foot fp243 s s := Foot.refl
  unfold State.drainDone
  repeat' first
    | with_reducible assumption
    | with_reducible apply Foot.ite
    | ((with_reducible apply Foot.step (State.retire_foot ..)); (· rfl))
    | split

theorem execDrainDone_foot (s : State) (t' : State) (ht : execDrainDone s = .next t') : Foot fp243 s t' := by
  have h : Foot fp243 s s := Foot.refl
  rw [← Host.Outcome.next.inj ht]
  repeat' first
    | with_reducible assumption
    | ((with_reducible apply Foot.step (State.drainDone_foot ..)); (· rfl))

theorem State.expireWaiting_foot (s : State) (v : Nat) : Foot fp14 s (State.expireWaiting s v) := by
  have h : Foot fp14 s s := Foot.refl
  unfold State.expireWaiting
  repeat' first
    | with_reducible assumption
    | ((with_reducible apply Foot.step (State.spill_foot ..)); (· rfl))
    | ((with_reducible apply Foot.foldl); (on_goal 1 => intro _ _ _))
    | (fail_if_no_progress extract_lets +onlyGivenNames x; refine Foot.keepHost x ?_)
    | fail_if_no_progress ((with_reducible apply Foot.setHost); (· rfl); (· exact fun hb => ⟨hb.log, hb.errs, hb.fwQueue⟩))

theorem State.versionExpired_foot (s : State) : Foot fp244 s (State.versionExpired s) := by
  have h : Foot fp244 s s := Foot.refl
  unfold State.versionExpired
  repeat' first
    | with_reducible assumption
    | with_reducible apply Foot.ite
    | ((with_reducible apply Foot.step (State.event_foot ..)); (· rfl))
    | ((with_reducible apply Foot.step (State.spill_foot ..)); (· rfl))
    | ((with_reducible apply Foot.step (State.retire_foot ..)); (· rfl))
    | ((with_reducible apply Foot.step (State.expireWaiting_foot ..)); (· rfl))
    | ((with_reducible apply Foot.foldl); (on_goal 1 => intro _ _ _))
    | (fail_if_no_progress extract_lets +onlyGivenNames x; refine Foot.keepHost x ?_)
    | fail_if_no_progress ((with_reducible apply Foot.setHost); (· rfl); (· exact fun hb => ⟨hb.log, hb.errs, hb.fwQueue⟩))
    | split

theorem execVersionExpired_foot (s : State) (t' : State) (ht : execVersionExpired s = .next t') : Foot fp244 s t' := by
  have h : Foot fp244 s s := Foot.refl
  rw [← Host.Outcome.next.inj ht]
  repeat' first
    | with_reducible assumption
    | ((with_reducible apply Foot.step (State.versionExpired_foot ..)); (· rfl))

theorem State.repairCopy_foot (s : State) : Foot fp245 s (State.repairCopy s) := by
  have h : Foot fp245 s s := Foot.refl
  unfold State.repairCopy
  repeat' first
    | with_reducible assumption
    | ((with_reducible apply Foot.inc); (· rfl); (· first | exact Or.inr rfl))
    | ((with_reducible apply Foot.step (State.event_foot ..)); (· rfl))

theorem execPipelineCompare_foot (differ : List (Nat × Nat)) (s : State) (t' : State) (ht : execPipelineCompare differ s = .next t') : Foot fp245 s t' := by
  have h : Foot fp245 s s := Foot.refl
  rw [← Host.Outcome.next.inj ht]
  repeat' first
    | with_reducible assumption
    | with_reducible apply Foot.ite
    | ((with_reducible apply Foot.step (State.repairCopy_foot ..)); (· rfl))
    | ((with_reducible apply Foot.foldl); (on_goal 1 => intro _ _ _))
    | split

end Sys2Proof.Machine
end

