-- ==== Sys2Proof/Laws/FootDownstream.lean ====
section
/-! SUPPORT. What each operation of Machine/Downstream.lean can change (`Foot`). -/

namespace Sys2Proof.Machine

def fp246 : Nat := 0x10004000000000000000000000000000000000000000000000000000000000000000000000001400000000000000000000000000000000000000000000000000000000000000000000000000000000000000000000000000000000000000000000000000000000000000000000000000000000000000000000000000000000000
def fp247 : Nat := 0x100840c000000000000000000001c0000000000000000000000000000000000000001c1000001400000000000000000002060000000000000000000000000000000000000000010000003c00000000000000000000000000000000000000000000000000000000000000000000000000000000000000000000000000000000000
def fp248 : Nat := 0x100840c000000000000000000001c1000000000000000000000000010000000000001c1000001400000000000000000002060000000000000000000000000000000000000000030000003c00000000000000000000000000000000000000000000000000000000000000000000000000000000000000000000000000000000000
def fp249 : Nat := 0x100840c000000000000000000001c0000000000000000000000000000000000000001c1000001400000000000000000002060000000000000000000000000000000000000000030000003c00000000000000000000000000000000000000000000000000000000000000000000000000000000000000000000000000000000000
def fp250 : Nat := 0x1000c00000000000000000000001c0000000000000000000000000000000000000001c1000000000000000000000000000000000000000000000000000000000000000000000006000000000800000000000000000000000000000000000000000000000000000000000000000000000000000000000000000000000000000000
def fp251 : Nat := 0x1008c0c000000000000000000001c0000000000000000000000000000000000000001c1000001400000000000000000002060000000000000000000000000000000000000000030000003c00000000000000000000000000000000000000000000000000000000000000000000000000000000000000000000000000000000000
def fp252 : Nat := 0x100840c000000000000000000001c0000000000000000000000000000000000000001c10000000000000000000000000020600000000000000000000000000000000000000000c0000003c00000000000000000000000000000000000000000000000000000000000000000000000000000000000000000000000000000000000
def fp253 : Nat := 0x100840c000000000000000000001c1000000000000000000000000000000000000001c1000000000000000000000000002060000000000000000000000000000000000000000008000003c00000000000000000000000000000000000000000000000000000000000000000000000000000000000000000000000000000000000
def fp254 : Nat := 0x1008c0c000000000000000000001c0000000000000000000000000000000000000001c1000001400000000000000000002060000000000000000000000000000000000000000036000003c00800000000000000000000000000000000000000000000000000000000000000000000000000000000000000000000000000000000
def fp255 : Nat := 0x1008c0c000000000000000000001c1000000000000000000000000000000000000001c10000014000000000000000000020600000000000000000000000000000000000000000f8000003c00000000000000000000000000000000000000000000000000000000000000000000000000000000000000000000000000000000000
def fp256 : Nat := 0x1008c0c000000000000000000001c1000000000000000000000000000000000000001c10000014000000000000000000020600000000000000000000000000000000004000000fe000003c00800000000000000000000000000000000000000000000000000000000000000000000000000000000000000000000000000000000
def fp257 : Nat := 0x100040c000000000000000000001c0000000000000000000000000000000000000001c1000000000000000000000000000000000000000000000000000000000000003000000000000000000000000000000000000000000000000000000000000000000000000000000000000000000000000000000000000000000000000000
def fp258 : Nat := 0x1008c0c000000000000000000001c1000000000000000000000000000000000000001c10000014000000000000000000020600000000000000000000000000000000034000000fe000003c00800000000000000000000000000000000000000000000000000000000000000000000000000000000000000000000000000001400
def fp259 : Nat := 0x1008c0c000000000000000000001c1000000000000000000000000000000000000001c10000014000000000000000000020600000000000000000000000000000000034000000fe000003c0080000000000000000000000000000000000000000000000000000000000000000000000000000000000000000c000000000001400

theorem State.takeIn_foot (s : State) (b : BufFrame) : Foot fp14 s (State.takeIn s b) := by
  have h : Foot fp14 s s := Foot.refl
  unfold State.takeIn
  repeat' first
    | with_reducible assumption
    | with_reducible apply Foot.ite
    | ((with_reducible apply Foot.step (State.spill_foot ..)); (· rfl))
    | (fail_if_no_progress extract_lets +onlyGivenNames x; refine Foot.keepHost x ?_)
    | fail_if_no_progress ((with_reducible apply Foot.setHost); (· rfl); (· exact fun hb => ⟨hb.log, hb.errs, hb.fwQueue⟩))
    | split

theorem State.toRing_foot {s : State} {b : BufFrame} {ring : Nat} {data : List Byte} {ntag tci0 tci1 status : Nat} {mirror : Bool}
    {t : State} (ht : State.toRing s b ring data ntag tci0 tci1 status mirror = some t) : Foot fp246 s t := by
  unfold State.toRing at ht
  extract_lets f c x at ht
  split at ht
  · cases ht
  · rw [Option.map_eq_some_iff] at ht
    obtain ⟨p, -, rfl⟩ := ht
    refine Foot.step (State.cqPush_foot ..) rfl ?_
    refine Foot.dec rfl (Or.inr rfl) (Foot.wr rfl (Or.inr rfl) ?_)
    exact Foot.step (State.setRxr_foot ..) rfl (Foot.step (State.emits_foot ..) rfl Foot.refl)

theorem State.mirrorCopy_foot (s : State) (b : BufFrame) : Foot fp247 s (State.mirrorCopy s b) := by
  have h : Foot fp247 s s := Foot.refl
  unfold State.mirrorCopy
  repeat' first
    | with_reducible assumption
    | (rename_i he; split at he; (· refine Foot.inc rfl (Or.inr rfl) ((State.toRing_foot he).mono rfl)); (· cases he))
    | with_reducible apply Foot.ite
    | ((with_reducible apply Foot.step (State.event_foot ..)); (· rfl))
    | ((with_reducible apply Foot.step (State.spill_foot ..)); (· rfl))
    | split

theorem State.unbuffer_foot (s : State) (b : BufFrame) : Foot fp4 s (State.unbuffer s b) := by
  have h : Foot fp4 s s := Foot.refl
  unfold State.unbuffer
  repeat' first
    | with_reducible assumption
    | (fail_if_no_progress extract_lets +onlyGivenNames x; refine Foot.keepHost x ?_)
    | fail_if_no_progress ((with_reducible apply Foot.setHost); (· rfl); (· exact fun hb => ⟨hb.log, hb.errs, hb.fwQueue⟩))

theorem State.deliver_foot (s : State) (ring : Nat) (ecc : Bool) : Foot fp248 s (State.deliver s ring ecc) := by
  have h : Foot fp248 s s := Foot.refl
  unfold State.deliver
  repeat' first
    | with_reducible assumption
    | (rename_i he; have hx := Foot.step (m := fp248) (State.toRing_foot he) rfl (by with_reducible assumption); clear he)
    | with_reducible apply Foot.ite
    | ((with_reducible apply Foot.inc); (· rfl); (· first | exact Or.inr rfl))
    | ((with_reducible apply Foot.step (State.spill_foot ..)); (· rfl))
    | ((with_reducible apply Foot.step (State.eccUncorr_foot ..)); (· rfl))
    | ((with_reducible apply Foot.step (State.raiseCqFull_foot ..)); (· rfl))
    | ((with_reducible apply Foot.step (State.mirrorCopy_foot ..)); (· rfl))
    | ((with_reducible apply Foot.step (State.unbuffer_foot ..)); (· rfl))
    | (fail_if_no_progress extract_lets +onlyGivenNames x; first | refine Foot.keepHost x ?_ | refine Foot.keepMbx x ?_ | clear_value x)
    | split

theorem execFrameDelivery_foot (ring : Nat) (ecc : Bool) (s : State) (t' : State) (ht : execFrameDelivery ring ecc s = .next t') : Foot fp248 s t' := by
  have h : Foot fp248 s s := Foot.refl
  rw [← Host.Outcome.next.inj ht]
  repeat' first
    | with_reducible assumption
    | ((with_reducible apply Foot.inDom); (on_goal 1 => intro _ _))
    | ((with_reducible apply Foot.step (State.deliver_foot ..)); (· rfl))

theorem State.starved_foot (s : State) (ring : Nat) : Foot fp8 s (State.starved s ring) := by
  have h : Foot fp8 s s := Foot.refl
  unfold State.starved
  repeat' first
    | with_reducible assumption
    | with_reducible apply Foot.ite
    | ((with_reducible apply Foot.step (State.hostEvent_foot ..)); (· rfl))
    | ((with_reducible apply Foot.step (State.setRxr_foot ..)); (· rfl))
    | (fail_if_no_progress extract_lets +onlyGivenNames x; first | refine Foot.keepHost x ?_ | refine Foot.keepMbx x ?_ | clear_value x)
    | split

theorem execRxStarved_foot (ring : Nat) (s : State) (t' : State) (ht : execRxStarved ring s = .next t') : Foot fp8 s t' := by
  have h : Foot fp8 s s := Foot.refl
  rw [← Host.Outcome.next.inj ht]
  repeat' first
    | with_reducible assumption
    | ((with_reducible apply Foot.step (State.starved_foot ..)); (· rfl))

theorem State.toProcessor_foot (s : State) (cpu : Nat) (b : BufFrame) : Foot fp249 s (State.toProcessor s cpu b) := by
  have h : Foot fp249 s s := Foot.refl
  unfold State.toProcessor
  refine Foot.ite (Foot.step (State.takeIn_foot ..) rfl h) (Foot.ite (Foot.step (State.spill_foot ..) rfl h) ?_)
  split
  · exact Foot.step (State.event_foot ..) rfl (Foot.step (State.spill_foot ..) rfl h)
  · rename_i hq
    refine Foot.step (State.mirrorCopy_foot ..) rfl (Foot.inc (R := Reg.CLS_CNT_PROC_COPIES) rfl (Or.inr rfl)
      (Foot.setHost rfl (fun hb => ⟨hb.log, hb.errs, ?_⟩) h))
    simp only [List.length_append, List.length_singleton]
    simp only [Bool.or_eq_true, decide_eq_true_eq, not_or] at hq
    omega

theorem State.learn_foot (s : State) (l : Leg) (w : Nat) (h : Nat) (payload : List Byte) : Foot fp250 s (State.learn s l w h payload) := by
  have h : Foot fp250 s s := Foot.refl
  unfold State.learn
  repeat' first
    | with_reducible assumption
    | with_reducible apply Foot.ite
    | ((with_reducible apply Foot.wr); (· rfl); (· first | exact Or.inr rfl))
    | ((with_reducible apply Foot.inc); (· rfl); (· first | exact Or.inr rfl))
    | ((with_reducible apply Foot.step (State.emit_foot ..)); (· rfl))
    | ((with_reducible apply Foot.step (State.emits_foot ..)); (· rfl))
    | ((with_reducible apply Foot.step (State.event_foot ..)); (· rfl))
    | (fail_if_no_progress extract_lets +onlyGivenNames x; first | refine Foot.keepHost x ?_ | refine Foot.keepMbx x ?_ | clear_value x)
    | fail_if_no_progress ((with_reducible apply Foot.setCls); (· rfl))
    | split

theorem State.frameOut_foot (s : State) (l : Leg) (w : Nat) (h : Nat) (e : Nat) (f : Leaf) (data : List Byte) : Foot fp251 s (State.frameOut s l w h e f data) := by
  have h : Foot fp251 s s := Foot.refl
  unfold State.frameOut
  repeat' first
    | with_reducible assumption
    | with_reducible apply Foot.ite
    | ((with_reducible apply Foot.step (State.event_foot ..)); (· rfl))
    | ((with_reducible apply Foot.step (State.spill_foot ..)); (· rfl))
    | ((with_reducible apply Foot.step (State.takeIn_foot ..)); (· rfl))
    | ((with_reducible apply Foot.step (State.toProcessor_foot ..)); (· rfl))
    | (fail_if_no_progress extract_lets +onlyGivenNames x; first | refine Foot.keepHost x ?_ | refine Foot.keepMbx x ?_ | clear_value x)
    | fail_if_no_progress ((with_reducible apply Foot.setCls); (· rfl))
    | (rename_i he; refine Foot.cut _ (Foot.ofPair he ?_) (fun hx => ?_); (on_goal 2 => clear he))
    | split

theorem State.clsFault_foot (s : State) (l : Leg) (w : Nat) : Foot fp252 s (State.clsFault s l w) := by
  have h : Foot fp252 s s := Foot.refl
  unfold State.clsFault
  repeat' first
    | with_reducible assumption
    | ((with_reducible apply Foot.inc); (· rfl); (· first | exact Or.inr rfl))
    | ((with_reducible apply Foot.step (State.event_foot ..)); (· rfl))
    | ((with_reducible apply Foot.step (State.spill_foot ..)); (· rfl))
    | (fail_if_no_progress extract_lets +onlyGivenNames x; (refine Foot.cut x ?_ (fun hx => ?_); (on_goal 1 => subst x); (on_goal 2 => clear_value x)))
    | split

theorem State.tableEcc_foot (s : State) (l : Leg) (w : Nat) (inst : Nat) : Foot fp253 s (State.tableEcc s l w inst) := by
  have h : Foot fp253 s s := Foot.refl
  unfold State.tableEcc
  repeat' first
    | with_reducible assumption
    | ((with_reducible apply Foot.step (State.spill_foot ..)); (· rfl))
    | ((with_reducible apply Foot.step (State.eccUncorr_foot ..)); (· rfl))
    | ((with_reducible apply Foot.step (State.repairCopy_foot ..)); (· rfl))

theorem State.unknownStream_foot (s : State) (l : Leg) (w : Nat) (h : Nat) (payload : List Byte) : Foot fp254 s (State.unknownStream s l w h payload) := by
  have h : Foot fp254 s s := Foot.refl
  unfold State.unknownStream
  repeat' first
    | with_reducible assumption
    | with_reducible apply Foot.ite
    | ((with_reducible apply Foot.step (State.spill_foot ..)); (· rfl))
    | ((with_reducible apply Foot.step (State.toProcessor_foot ..)); (· rfl))
    | ((with_reducible apply Foot.step (State.learn_foot ..)); (· rfl))
    | (fail_if_no_progress extract_lets +onlyGivenNames x; first | (refine Foot.cut x ?_ (fun hx => ?_); (on_goal 1 => subst x); (on_goal 2 => clear_value x)) | (refine Foot.cut2 x ?_ (fun hx => ?_); (on_goal 1 => subst x); (on_goal 2 => clear_value x)) | refine Foot.keepHost x ?_ | refine Foot.keepMbx x ?_ | clear_value x)
    | split

theorem State.classified_foot (s : State) (l : Leg) (w : Nat) (h : Nat) (e : Nat) (ecc : Option Nat) (data : List Byte) (auth : Bool) : Foot fp255 s (State.classified s l w h e ecc data auth) := by
  have h : Foot fp255 s s := Foot.refl
  unfold State.classified
  repeat' first
    | with_reducible assumption
    | with_reducible apply Foot.ite
    | ((with_reducible apply Foot.step (State.spill_foot ..)); (· rfl))
    | ((with_reducible apply Foot.step (State.frameOut_foot ..)); (· rfl))
    | ((with_reducible apply Foot.step (State.clsFault_foot ..)); (· rfl))
    | ((with_reducible apply Foot.step (State.tableEcc_foot ..)); (· rfl))
    | split

theorem State.activeFrame_foot (s : State) (l : Leg) (w : Nat) (h : Nat) (payload : List Byte) (ecc : Option Nat) : Foot fp256 s (State.activeFrame s l w h payload ecc) := by
  have h : Foot fp256 s s := Foot.refl
  unfold State.activeFrame
  repeat' first
    | with_reducible assumption
    | with_reducible apply Foot.ite
    | ((with_reducible apply Foot.inc); (· rfl); (· first | exact Or.inr rfl))
    | ((with_reducible apply Foot.step (State.event_foot ..)); (· rfl))
    | ((with_reducible apply Foot.step (State.spill_foot ..)); (· rfl))
    | ((with_reducible apply Foot.step (State.tableEcc_foot ..)); (· rfl))
    | ((with_reducible apply Foot.step (State.unknownStream_foot ..)); (· rfl))
    | ((with_reducible apply Foot.step (State.classified_foot ..)); (· rfl))
    | (fail_if_no_progress extract_lets +onlyGivenNames x; first | refine Foot.keepHost x ?_ | refine Foot.keepMbx x ?_ | clear_value x)
    | split

theorem State.standbyFrame_foot (s : State) (l : Leg) (w : Nat) (h : Nat) (payload : List Byte) : Foot fp257 s (State.standbyFrame s l w h payload) := by
  have h : Foot fp257 s s := Foot.refl
  unfold State.standbyFrame
  repeat' first
    | with_reducible assumption
    | with_reducible apply Foot.ite
    | ((with_reducible apply Foot.inc); (· rfl); (· first | exact Or.inr rfl))
    | ((with_reducible apply Foot.step (State.once_foot ..)); (· rfl))
    | (fail_if_no_progress extract_lets +onlyGivenNames x; first | (refine Foot.cut x ?_ (fun hx => ?_); (on_goal 1 => subst x); (on_goal 2 => clear_value x)) | (refine Foot.cut2 x ?_ (fun hx => ?_); (on_goal 1 => subst x); (on_goal 2 => clear_value x)) | refine Foot.keepHost x ?_ | refine Foot.keepMbx x ?_ | clear_value x)
    | (rename_i he; refine Foot.cut _ (Foot.ofPair he ?_) (fun hx => ?_); (on_goal 2 => clear he))
    | split

theorem State.frameIn_foot (s : State) (l : Leg) (w : Nat) (off : Nat) (h : Nat) (payload : List Byte) (ecc : Option Nat) : Foot fp258 s (State.frameIn s l w off h payload ecc) := by
  have h : Foot fp258 s s := Foot.refl
  unfold State.frameIn
  repeat' first
    | with_reducible assumption
    | with_reducible apply Foot.ite
    | ((with_reducible apply Foot.step (State.updWave_foot ..)); (· rfl))
    | ((with_reducible apply Foot.step (State.spill_foot ..)); (· rfl))
    | ((with_reducible apply Foot.step (State.idleExit_foot ..)); (· rfl))
    | ((with_reducible apply Foot.step (State.activeFrame_foot ..)); (· rfl))
    | ((with_reducible apply Foot.step (State.standbyFrame_foot ..)); (· rfl))
    | (fail_if_no_progress extract_lets +onlyGivenNames x; first | (refine Foot.cut x ?_ (fun hx => ?_); (on_goal 1 => subst x); (on_goal 2 => clear_value x)) | (refine Foot.cut2 x ?_ (fun hx => ?_); (on_goal 1 => subst x); (on_goal 2 => clear_value x)) | refine Foot.keepHost x ?_ | refine Foot.keepMbx x ?_ | clear_value x)
    | split

theorem State.huntFrom_foot (s : State) (l : Leg) (w : Nat) : Foot fp14 s (State.huntFrom s l w) := by
  have h : Foot fp14 s s := Foot.refl
  unfold State.huntFrom
  repeat' first
    | with_reducible assumption
    | ((with_reducible apply Foot.step (State.updWave_foot ..)); (· rfl))
    | ((with_reducible apply Foot.step (State.spill_foot ..)); (· rfl))

theorem State.channelFrame_foot (s : State) (l : Leg) (w : Nat) (off : Nat) (h : Nat) (payload : List Byte) (next : Nat) (ecc : Option Nat) : Foot fp259 s (State.channelFrame s l w off h payload next ecc) := by
  have h : Foot fp259 s s := Foot.refl
  unfold State.channelFrame
  repeat' first
    | with_reducible assumption
    | with_reducible apply Foot.ite
    | ((with_reducible apply Foot.inc); (· rfl); (· first | exact Or.inr rfl | exact Or.inl (Leg.n_lt _)))
    | ((with_reducible apply Foot.step (State.pmCount_foot ..)); (· rfl))
    | ((with_reducible apply Foot.step (State.spill_foot ..)); (· rfl))
    | ((with_reducible apply Foot.step (State.frameIn_foot ..)); (· rfl))
    | ((with_reducible apply Foot.step (State.huntFrom_foot ..)); (· rfl))
    | (fail_if_no_progress extract_lets +onlyGivenNames x; first | (refine Foot.cut x ?_ (fun hx => ?_); (on_goal 1 => subst x); (on_goal 2 => clear_value x)) | (refine Foot.cut2 x ?_ (fun hx => ?_); (on_goal 1 => subst x); (on_goal 2 => clear_value x)) | refine Foot.keepHost x ?_ | refine Foot.keepMbx x ?_ | clear_value x)
    | split

theorem execChannelFrame_foot (l : Leg) (w : Nat) (off : Nat) (hdr : BitVec 64) (payload : List Byte) (next : BitVec 64) (ecc : Option Nat) (s : State) (t' : State) (ht : execChannelFrame l w off hdr payload next ecc s = .next t') : Foot fp259 s t' := by
  have h : Foot fp259 s s := Foot.refl
  rw [← Host.Outcome.next.inj ht]
  repeat' first
    | with_reducible assumption
    | ((with_reducible apply Foot.step (State.channelFrame_foot ..)); (· rfl))

end Sys2Proof.Machine
end

