-- ==== Sys2Proof/Laws/FootSluice.lean ====
section
/-! SUPPORT. What each operation of Machine/Sluice.lean can change (`Foot`). -/

namespace Sys2Proof.Machine

def fp260 : Nat := 0x20000000000000000000000000000000000000000000000000000000000000000000000000000000000000000000000000000000000000000000000000000000000000000000000000000000000000000000000000000000000000000000000000000000000000000000000000000000000000000000000000000000000000
def fp261 : Nat := 0x20010000000000000000000000000000000000000000000000000000000000000000000000000000000000000000000000000000000000000000000000300000000000000000000000000000000000000000000000000000000000000000000000000000000000000000000000000000000000000000000000000000000000
def fp262 : Nat := 0x20010000000000000000000000000000000000000000000000000000000000000000000000000000000000000000000000000000000000000000000000b00000000000000000000000000000000000000000000000000000000000000000000000000000000000000000000000000000000000000000000000000000000000
def fp263 : Nat := 0x1002400000000000000000000001c0000000000000000000000000000000000000001c1000000000000000000000000000000000000000000000000000000000000000000000000000000000000000000000000000000000000000000000000000000000000000000000000000000000000000000000000000000000000000000
def fp264 : Nat := 0xc0000000000000000000000000000000000000000000000000000000000000000000000000000000000000000000000000000000000000000e00000000000000000000000000000000000000000000000000000000000000000000000000000000000000000000000000000000000000000000004000000000000000000
def fp265 : Nat := 0x1002400000000000000000000001c0000000000000000000000000000000000000001c1000000000000000000000000000000000000000000000000000002000000000000000000000000000000000000000000000000000000000000000000000000000000000000000000000000000000000000000000000000000000000000
def fp266 : Nat := 0x1002400000000000000000000001c0000000000000000000000000000000000000001c1000000000000000000000000000000000000000000000003000000000000000000000000000000000000000000000000000000000000000000000000000000000000000000000000000000000000000000000000000000000000000000
def fp267 : Nat := 0x1002400000000000000000000001c0000000000000000000000000000000000000001c1000000000000000000000000000000000000000000001007000400000000000000000000000000000000000000000000000000000000000000000000000000000000000000000000000000000000000000000000000000000000000000
def fp268 : Nat := 0x20000000000000000000000000000000000000000000000000000000000000000000000000000000000000000000000000000000000000000000000000000020000000000000000000000000000000000000000000000000000000000000000000000000000000000000000000000000000000000000000000000000000000
def fp269 : Nat := 0x1002400000000000000000000001c0000000000000000000000000000000000000001c1000000000000000000000000000000000000000000000100000000000000000000000000000000000000000000000000000000000000000000000000000000000000000000000000000000000000000000000000000000000000000000
def fp270 : Nat := 0x1002400000000000000000000001c0000000000000000000000000003000008000001c1000000000000000000000000000000000000000000000300100000000000000000000000000000000000000000000000000000000000000000000000000000000000000000000000000000000000000000000000000000000000000000
def fp271 : Nat := 0x1002400000000000000000000001c0000000000000000000000000000000000000001c1000000000000000000000000000000000000000000000438000000000000000000000000000000000000000000000000000000000000000000000000000000000000000000000000000000000000000000000000000000000000000000
def fp272 : Nat := 0x1000400000000000000000000001c0000000000000000000000000000000000000001c1000000000000000000000000000000000000000000002000000000000080000000000000000000000000000000000000000000000000000000000000000000000000000000000000000000000000000000000000000000000000000000
def fp273 : Nat := 0x1002400000000000000000000001c0000000000000000000000000000000000000001c10000000000000000000000000000000000000000000020c0000000000080000000000000000000000000000000000000000000000000000000000000000000000000000000000000000000000000000000000000000000000000000000
def fp274 : Nat := 0x1002400000000000000000000001c0000000000000000000000000000000000000001c1000000000000000000000000000000000000000000000000000000005810000000000000000000000000000000000000000000000000000000000000000000000000000000000000000000000000000000000000000000000000000000
def fp275 : Nat := 0x1000400000000000000000000001c0000000000000000000000000000000000000001c1000000000000000000000000000000000000000000000000000000004010000000000000000000000000000000000000000000000000000000000000000000000000000000000000000000000000000000000000000000000000000000
def fp276 : Nat := 0x2000000000000000000000000000000000000000000000000000000000000000000000000000000000000000000000000000000000000000000000000000000c000000000000000000000000000000000000000000000000000000000000000000000000000000000000000000000000000000000000000000000000000000
def fp277 : Nat := 0x1002400000000000000000000001c0000000000000000000000000000000000000001c100000000000000000000000000000000000000000000080000000200001c000000000000000000000000000000000000000000000000000000000000000000000000000000000000000000000000000000000000000000000000000000
def fp278 : Nat := 0x1002400000000000000000000001c0000000000000000000000000000000000000001c1000000000000000000000000000000000000000000000000000002000040000000000000000000000000000000000000000000000000000000000000000000000000000000000000000000000000000000000000000000000000000000

theorem State.holdCm_foot (s : State) (ag : Agent) (st : Option Nat) : Foot fp260 s (State.holdCm s ag st) := by
  have h : Foot fp260 s s := Foot.refl
  unfold State.holdCm
  repeat' first
    | with_reducible assumption
    | with_reducible apply Foot.ite
    | (fail_if_no_progress extract_lets +onlyGivenNames x; first | refine Foot.keepHost x ?_ | refine Foot.keepMbx x ?_ | clear_value x)
    | fail_if_no_progress ((with_reducible apply Foot.setSlu); (· rfl))
    | split

theorem State.cmCmd_foot {m : Nat} {s t : State} {ag : Agent} {f : State → Nat × State} (hm : fp261 ||| m = m)
    (hf : ∀ x, Foot m s x → Foot m s (f x).2) (h : Foot m s t) : Foot m s (State.cmCmd t ag f) := by
  have hs : ∀ v w, Foot fp261 v (v.wrA ag Reg.SLU_CM_CMD_STATUS w) := fun v w => Foot.wrA rfl rfl (Or.inr rfl) Foot.refl
  have hw : ∀ v w, Foot fp261 v (v.wrA ag Reg.SLU_CM_CMD_BUSY w) := fun v w => Foot.wrA rfl rfl (Or.inr rfl) Foot.refl
  unfold State.cmCmd
  split
  · exact Foot.step (hs ..) hm h
  · split
    rename_i st u he
    have hu : Foot m s u := Foot.ofPair he (hf t h)
    exact Foot.step (State.holdCm_foot ..) (mask_trans (b := fp261) rfl hm) (Foot.step (hw ..) hm hu)

theorem State.cmRead_foot (s : State) (ag : Agent) (up : Bool) (active : Bool) : Foot fp262 s (State.cmRead s ag up active) := by
  have h : Foot fp262 s s := Foot.refl
  unfold State.cmRead
  repeat' first
    | with_reducible assumption
    | with_reducible apply Foot.ite
    | ((with_reducible apply Foot.wrA); (· rfl); (· rfl); (· first | exact Or.inr rfl))
    | ((with_reducible apply State.cmCmd_foot); (· rfl); (on_goal 1 => intro _ _))
    | (fail_if_no_progress extract_lets +onlyGivenNames x; first | (refine Foot.cut x ?_ (fun hx => ?_); (on_goal 1 => subst x); (on_goal 2 => clear_value x)) | (refine Foot.cut2 x ?_ (fun hx => ?_); (on_goal 1 => subst x); (on_goal 2 => clear_value x)) | refine Foot.keepHost x ?_ | refine Foot.keepMbx x ?_ | clear_value x)
    | split

theorem execCmRead_foot (ag : Agent) (up : Bool) (active : Bool) (s : State) (t' : State) (ht : execCmRead ag up active s = .next t') : Foot fp262 s t' := by
  have h : Foot fp262 s s := Foot.refl
  rw [← Host.Outcome.next.inj ht]
  repeat' first
    | with_reducible assumption
    | ((with_reducible apply Foot.reg); (on_goal 1 => intro _ _))
    | ((with_reducible apply Foot.step (State.cmRead_foot ..)); (· rfl))

theorem State.cmChange_foot (s : State) (up : Bool) (f : Nat → Tab Nat → Tab Nat) : Foot fp260 s (State.cmChange s up f).2 := by
  have h : Foot fp260 s s := Foot.refl
  unfold State.cmChange
  repeat' first
    | with_reducible assumption
    | with_reducible apply Foot.ite
    | with_reducible apply Foot.ite2
    | (fail_if_no_progress extract_lets +onlyGivenNames x; first | refine Foot.keepHost x ?_ | refine Foot.keepMbx x ?_ | clear_value x)
    | fail_if_no_progress ((with_reducible apply Foot.setSlu); (· rfl))
    | split

theorem State.cmWrite_foot (s : State) (ag : Agent) (up : Bool) : Foot fp261 s (State.cmWrite s ag up) := by
  have h : Foot fp261 s s := Foot.refl
  unfold State.cmWrite
  repeat' first
    | with_reducible assumption
    | with_reducible apply Foot.ite
    | ((with_reducible apply State.cmCmd_foot); (· rfl); (on_goal 1 => intro _ _))
    | ((with_reducible apply Foot.step (State.cmChange_foot ..)); (· rfl))
    | (fail_if_no_progress extract_lets +onlyGivenNames x; first | refine Foot.keepHost x ?_ | refine Foot.keepMbx x ?_ | clear_value x)
    | split

theorem execCmWrite_foot (ag : Agent) (up : Bool) (s : State) (t' : State) (ht : execCmWrite ag up s = .next t') : Foot fp261 s t' := by
  have h : Foot fp261 s s := Foot.refl
  rw [← Host.Outcome.next.inj ht]
  repeat' first
    | with_reducible assumption
    | ((with_reducible apply Foot.reg); (on_goal 1 => intro _ _))
    | ((with_reducible apply Foot.step (State.cmWrite_foot ..)); (· rfl))

theorem State.cmCopy_foot (s : State) (ag : Agent) (up : Bool) : Foot fp261 s (State.cmCopy s ag up) := by
  have h : Foot fp261 s s := Foot.refl
  unfold State.cmCopy
  repeat' first
    | with_reducible assumption
    | ((with_reducible apply State.cmCmd_foot); (· rfl); (on_goal 1 => intro _ _))
    | ((with_reducible apply Foot.step (State.cmChange_foot ..)); (· rfl))
    | (fail_if_no_progress extract_lets +onlyGivenNames x; first | (refine Foot.cut x ?_ (fun hx => ?_); (on_goal 1 => subst x); (on_goal 2 => clear_value x)) | (refine Foot.cut2 x ?_ (fun hx => ?_); (on_goal 1 => subst x); (on_goal 2 => clear_value x)) | refine Foot.keepHost x ?_ | refine Foot.keepMbx x ?_ | clear_value x)

theorem execCmCopy_foot (ag : Agent) (up : Bool) (s : State) (t' : State) (ht : execCmCopy ag up s = .next t') : Foot fp261 s t' := by
  have h : Foot fp261 s s := Foot.refl
  rw [← Host.Outcome.next.inj ht]
  repeat' first
    | with_reducible assumption
    | ((with_reducible apply Foot.reg); (on_goal 1 => intro _ _))
    | ((with_reducible apply Foot.step (State.cmCopy_foot ..)); (· rfl))

theorem State.cmClear_foot (s : State) (ag : Agent) (up : Bool) : Foot fp261 s (State.cmClear s ag up) := by
  have h : Foot fp261 s s := Foot.refl
  unfold State.cmClear
  repeat' first
    | with_reducible assumption
    | ((with_reducible apply State.cmCmd_foot); (· rfl); (on_goal 1 => intro _ _))
    | ((with_reducible apply Foot.step (State.cmChange_foot ..)); (· rfl))

theorem execCmClear_foot (ag : Agent) (up : Bool) (s : State) (t' : State) (ht : execCmClear ag up s = .next t') : Foot fp261 s t' := by
  have h : Foot fp261 s s := Foot.refl
  rw [← Host.Outcome.next.inj ht]
  repeat' first
    | with_reducible assumption
    | ((with_reducible apply Foot.reg); (on_goal 1 => intro _ _))
    | ((with_reducible apply Foot.step (State.cmClear_foot ..)); (· rfl))

theorem State.cmDone_foot (s : State) (ag : Agent) : Foot fp261 s (State.cmDone s ag) := by
  have h : Foot fp261 s s := Foot.refl
  unfold State.cmDone
  repeat' first
    | with_reducible assumption
    | with_reducible apply Foot.ite
    | ((with_reducible apply Foot.wrA); (· rfl); (· rfl); (· first | exact Or.inr rfl))
    | ((with_reducible apply Foot.step (State.holdCm_foot ..)); (· rfl))
    | split

theorem execCmCmdDone_foot (ag : Agent) (s : State) (t' : State) (ht : execCmCmdDone ag s = .next t') : Foot fp261 s t' := by
  have h : Foot fp261 s s := Foot.refl
  rw [← Host.Outcome.next.inj ht]
  repeat' first
    | with_reducible assumption
    | ((with_reducible apply Foot.reg); (on_goal 1 => intro _ _))
    | ((with_reducible apply Foot.step (State.cmDone_foot ..)); (· rfl))

theorem State.sluOnce_foot (s : State) (k : Nat) : Foot fp263 s (State.sluOnce s k) := by
  have h : Foot fp263 s s := Foot.refl
  unfold State.sluOnce
  repeat' first
    | with_reducible assumption
    | with_reducible apply Foot.ite
    | ((with_reducible apply Foot.step (State.event_foot ..)); (· rfl))
    | (fail_if_no_progress extract_lets +onlyGivenNames x; first | refine Foot.keepHost x ?_ | refine Foot.keepMbx x ?_ | clear_value x)
    | fail_if_no_progress ((with_reducible apply Foot.setSlu); (· rfl))
    | split

theorem State.sluiceRegion_foot (s : State) (l : Leg) (slots : List (BitVec 128)) (crc : Nat) : Foot fp264 s (State.sluiceRegion s l slots crc) := by
  have h : Foot fp264 s s := Foot.refl
  unfold State.sluiceRegion
  repeat' first
    | with_reducible assumption
    | with_reducible apply Foot.ite
    | ((with_reducible apply Foot.inc); (· rfl); (· first | exact Or.inr rfl | exact Or.inl (Leg.n_lt _)))
    | ((with_reducible apply Foot.upd); (· rfl); (· rfl))
    | (fail_if_no_progress extract_lets +onlyGivenNames x; first | (refine Foot.cut x ?_ (fun hx => ?_); (on_goal 1 => subst x); (on_goal 2 => clear_value x)) | (refine Foot.cut2 x ?_ (fun hx => ?_); (on_goal 1 => subst x); (on_goal 2 => clear_value x)) | refine Foot.keepHost x ?_ | refine Foot.keepMbx x ?_ | clear_value x)
    | split

theorem execSluiceRegion_foot (l : Leg) (slots : List (BitVec 128)) (crc : BitVec 32) (s : State) (t' : State) (ht : execSluiceRegion l slots crc s = .next t') : Foot fp264 s t' := by
  have h : Foot fp264 s s := Foot.refl
  rw [← Host.Outcome.next.inj ht]
  repeat' first
    | with_reducible assumption
    | ((with_reducible apply Foot.step (State.sluiceRegion_foot ..)); (· rfl))

theorem State.aisEnd_foot (s : State) (g : Nat) : Foot fp263 s (State.aisEnd s g) := by
  have h : Foot fp263 s s := Foot.refl
  unfold State.aisEnd
  repeat' first
    | with_reducible assumption
    | with_reducible apply Foot.ite
    | ((with_reducible apply Foot.step (State.event_foot ..)); (· rfl))
    | (fail_if_no_progress extract_lets +onlyGivenNames x; first | refine Foot.keepHost x ?_ | refine Foot.keepMbx x ?_ | clear_value x)
    | fail_if_no_progress ((with_reducible apply Foot.setSlu); (· rfl))
    | split

theorem State.settleGroup_foot (s : State) (g : Nat) : Foot fp265 s (State.settleGroup s g) := by
  have h : Foot fp265 s s := Foot.refl
  unfold State.settleGroup
  repeat' first
    | with_reducible assumption
    | with_reducible apply Foot.ite
    | ((with_reducible apply Foot.wr); (· rfl); (· first | exact Or.inr rfl))
    | ((with_reducible apply Foot.step (State.event_foot ..)); (· rfl))
    | ((with_reducible apply Foot.step (State.aisEnd_foot ..)); (· rfl))
    | (fail_if_no_progress extract_lets +onlyGivenNames x; first | refine Foot.keepHost x ?_ | refine Foot.keepMbx x ?_ | clear_value x)
    | fail_if_no_progress ((with_reducible apply Foot.setSlu); (· rfl))
    | split

theorem State.settleGroups_foot (s : State) : Foot fp265 s (State.settleGroups s) := by
  have h : Foot fp265 s s := Foot.refl
  unfold State.settleGroups
  repeat' first
    | with_reducible assumption
    | with_reducible apply Foot.ite
    | ((with_reducible apply Foot.step (State.settleGroup_foot ..)); (· rfl))
    | ((with_reducible apply Foot.foldl); (on_goal 1 => intro _ _ _))
    | split

theorem State.aisStep_foot (s : State) (lane : Nat) (good : Bool) : Foot fp263 s (State.aisStep s lane good).2 := by
  have h : Foot fp263 s s := Foot.refl
  unfold State.aisStep
  repeat' first
    | with_reducible assumption
    | with_reducible apply Foot.ite
    | with_reducible apply Foot.ite2
    | ((with_reducible apply Foot.step (State.event_foot ..)); (· rfl))
    | ((with_reducible apply Foot.step (State.aisEnd_foot ..)); (· rfl))
    | (fail_if_no_progress extract_lets +onlyGivenNames x; first | refine Foot.keepHost x ?_ | refine Foot.keepMbx x ?_ | clear_value x)
    | fail_if_no_progress ((with_reducible apply Foot.setSlu); (· rfl))
    | split

theorem State.countSlots_foot (s : State) (lane : Nat) (l : Leg) (lost : Bool) : Foot fp266 s (State.countSlots s lane l lost) := by
  have h : Foot fp266 s s := Foot.refl
  unfold State.countSlots
  repeat' first
    | with_reducible assumption
    | with_reducible apply Foot.ite
    | ((with_reducible apply Foot.inc); (· rfl); (· first | exact Or.inr rfl))
    | ((with_reducible apply Foot.step (State.event_foot ..)); (· rfl))
    | ((with_reducible apply Foot.step (State.sluOnce_foot ..)); (· rfl))
    | (fail_if_no_progress extract_lets +onlyGivenNames x; first | (refine Foot.cut x ?_ (fun hx => ?_); (on_goal 1 => subst x); (on_goal 2 => clear_value x)) | (refine Foot.cut2 x ?_ (fun hx => ?_); (on_goal 1 => subst x); (on_goal 2 => clear_value x)) | refine Foot.keepHost x ?_ | refine Foot.keepMbx x ?_ | clear_value x)
    | split

theorem State.putRecord_foot (s : State) (own : Nat) (addr : Nat) (r : List Byte) : Foot fp3 s (State.putRecord s own addr r) := by
  have h : Foot fp3 s s := Foot.refl
  unfold State.putRecord
  repeat' first
    | with_reducible assumption
    | with_reducible apply Foot.ite
    | ((with_reducible apply Foot.step (State.emit_foot ..)); (· rfl))
    | ((with_reducible apply Foot.step (State.emits_foot ..)); (· rfl))
    | split

theorem State.frameRecord_foot (s : State) (lane : Nat) (l : Leg) (key : Nat) (lost : Bool) : Foot fp267 s (State.frameRecord s lane l key lost) := by
  have h : Foot fp267 s s := Foot.refl
  unfold State.frameRecord
  repeat' first
    | with_reducible assumption
    | with_reducible apply Foot.ite
    | ((with_reducible apply Foot.wr); (· rfl); (· first | exact Or.inr rfl))
    | ((with_reducible apply Foot.inc); (· rfl); (· first | exact Or.inr rfl))
    | ((with_reducible apply Foot.step (State.sluOnce_foot ..)); (· rfl))
    | ((with_reducible apply Foot.step (State.aisStep_foot ..)); (· rfl))
    | ((with_reducible apply Foot.step (State.countSlots_foot ..)); (· rfl))
    | ((with_reducible apply Foot.step (State.putRecord_foot ..)); (· rfl))
    | (fail_if_no_progress extract_lets +onlyGivenNames x; first | (refine Foot.cut x ?_ (fun hx => ?_); (on_goal 1 => subst x); (on_goal 2 => clear_value x)) | (refine Foot.cut2 x ?_ (fun hx => ?_); (on_goal 1 => subst x); (on_goal 2 => clear_value x)) | refine Foot.keepHost x ?_ | refine Foot.keepMbx x ?_ | clear_value x)
    | (rename_i he; refine Foot.cut _ (Foot.ofPair he ?_) (fun hx => ?_); (on_goal 2 => clear he))
    | split

theorem State.recordWrite_foot (s : State) (lane : Nat) : Foot fp267 s (State.recordWrite s lane) := by
  have h : Foot fp267 s s := Foot.refl
  unfold State.recordWrite
  repeat' first
    | with_reducible assumption
    | with_reducible apply Foot.ite
    | ((with_reducible apply Foot.step (State.frameRecord_foot ..)); (· rfl))
    | (fail_if_no_progress extract_lets +onlyGivenNames x; first | refine Foot.keepHost x ?_ | refine Foot.keepMbx x ?_ | clear_value x)
    | fail_if_no_progress ((with_reducible apply Foot.setSlu); (· rfl))
    | split

theorem State.sluTakes_foot (s : State) (l : Leg) : Foot fp268 s (State.sluTakes s l) := by
  have h : Foot fp268 s s := Foot.refl
  unfold State.sluTakes
  repeat' first
    | with_reducible assumption
    | with_reducible apply Foot.ite
    | ((with_reducible apply Foot.wr); (· rfl); (· first | exact Or.inr rfl))
    | (fail_if_no_progress extract_lets +onlyGivenNames x; first | (refine Foot.cut x ?_ (fun hx => ?_); (on_goal 1 => subst x); (on_goal 2 => clear_value x)) | refine Foot.keepHost x ?_ | refine Foot.keepMbx x ?_ | clear_value x)
    | fail_if_no_progress ((with_reducible apply Foot.setSlu); (· rfl))
    | split

theorem execSluiceRecordWrite_foot (lane : Nat) (s : State) (t' : State) (ht : execSluiceRecordWrite lane s = .next t') : Foot fp267 s t' := by
  have h : Foot fp267 s s := Foot.refl
  rw [← Host.Outcome.next.inj ht]
  repeat' first
    | with_reducible assumption
    | ((with_reducible apply Foot.step (State.recordWrite_foot ..)); (· rfl))

theorem State.underrun_foot (s : State) : Foot fp269 s (State.underrun s) := by
  have h : Foot fp269 s s := Foot.refl
  unfold State.underrun
  repeat' first
    | with_reducible assumption
    | ((with_reducible apply Foot.inc); (· rfl); (· first | exact Or.inr rfl))
    | ((with_reducible apply Foot.step (State.sluOnce_foot ..)); (· rfl))

theorem State.laneRead_foot (s : State) (lane : Nat) (data : HostRead) : Foot fp270 s (State.laneRead s lane data) := by
  have h : Foot fp270 s s := Foot.refl
  unfold State.laneRead
  repeat' first
    | with_reducible assumption
    | with_reducible apply Foot.ite
    | ((with_reducible apply Foot.wr); (· rfl); (· first | exact Or.inr rfl))
    | ((with_reducible apply Foot.inc); (· rfl); (· first | exact Or.inr rfl))
    | ((with_reducible apply Foot.step (State.askHost_foot ..)); (· rfl))
    | ((with_reducible apply Foot.step (State.readFault_foot ..)); (· rfl))
    | ((with_reducible apply Foot.step (State.underrun_foot ..)); (· rfl))
    | (fail_if_no_progress extract_lets +onlyGivenNames x; first | (refine Foot.cut x ?_ (fun hx => ?_); (on_goal 1 => subst x); (on_goal 2 => clear_value x)) | refine Foot.keepHost x ?_ | refine Foot.keepMbx x ?_ | clear_value x)
    | fail_if_no_progress ((with_reducible apply Foot.setSlu); (· rfl))
    | split

theorem State.recordRead_foot (s : State) (lane : Nat) (key : Nat) (data : HostRead) : Foot fp270 s (State.recordRead s lane key data) := by
  have h : Foot fp270 s s := Foot.refl
  unfold State.recordRead
  repeat' first
    | with_reducible assumption
    | with_reducible apply Foot.ite
    | ((with_reducible apply Foot.step (State.laneRead_foot ..)); (· rfl))
    | (fail_if_no_progress extract_lets +onlyGivenNames x; first | refine Foot.keepHost x ?_ | refine Foot.keepMbx x ?_ | clear_value x)
    | fail_if_no_progress ((with_reducible apply Foot.setSlu); (· rfl))
    | split

theorem execSluiceRecordRead_foot (lane : Nat) (sfc : BitVec 48) (fn : Nat) (data : HostRead) (s : State) (t' : State) (ht : execSluiceRecordRead lane sfc fn data s = .next t') : Foot fp270 s t' := by
  have h : Foot fp270 s s := Foot.refl
  rw [← Host.Outcome.next.inj ht]
  repeat' first
    | with_reducible assumption
    | ((with_reducible apply Foot.step (State.recordRead_foot ..)); (· rfl))

theorem State.sluiceSlots_foot (s : State) (l : Leg) (a : Alloc) : Foot fp271 s (State.sluiceSlots s l a).2 := by
  have h : Foot fp271 s s := Foot.refl
  unfold State.sluiceSlots
  repeat' first
    | with_reducible assumption
    | with_reducible apply Foot.ite
    | with_reducible apply Foot.ite2
    | ((with_reducible apply Foot.inc); (· rfl); (· first | exact Or.inr rfl))
    | ((with_reducible apply Foot.step (State.event_foot ..)); (· rfl))
    | (fail_if_no_progress extract_lets +onlyGivenNames x; first | (refine Foot.cut x ?_ (fun hx => ?_); (on_goal 1 => subst x); (on_goal 2 => clear_value x)) | refine Foot.keepHost x ?_ | refine Foot.keepMbx x ?_ | clear_value x)
    | fail_if_no_progress ((with_reducible apply Foot.setSlu); (· rfl))
    | split

theorem State.sluiceInfo_foot (s : State) (l : Leg) (a : Alloc) : Foot fp271 s (State.sluiceInfo s l a).2 := by
  have h : Foot fp271 s s := Foot.refl
  unfold State.sluiceInfo
  repeat' first
    | with_reducible assumption
    | ((with_reducible apply Foot.step (State.sluiceSlots_foot ..)); (· rfl))
    | (fail_if_no_progress extract_lets +onlyGivenNames x; first | (refine Foot.cut x ?_ (fun hx => ?_); (on_goal 1 => subst x); (on_goal 2 => clear_value x)) | (refine Foot.cut2 x ?_ (fun hx => ?_); (on_goal 1 => subst x); (on_goal 2 => clear_value x)) | refine Foot.keepHost x ?_ | refine Foot.keepMbx x ?_ | clear_value x)
    | (rename_i he; refine Foot.cut _ (Foot.ofPair he ?_) (fun hx => ?_); (on_goal 2 => clear he))
    | split

theorem State.sluAudit_foot (s : State) (mask : Nat) : Foot fp272 s (State.sluAudit s mask) := by
  have h : Foot fp272 s s := Foot.refl
  unfold State.sluAudit
  repeat' first
    | with_reducible assumption
    | with_reducible apply Foot.ite
    | ((with_reducible apply Foot.wr); (· rfl); (· first | exact Or.inr rfl))
    | ((with_reducible apply Foot.inc); (· rfl); (· first | exact Or.inr rfl))
    | ((with_reducible apply Foot.step (State.event_foot ..)); (· rfl))
    | ((with_reducible apply Foot.foldl); (on_goal 1 => intro _ _ _))
    | (fail_if_no_progress extract_lets +onlyGivenNames x; first | (refine Foot.cut x ?_ (fun hx => ?_); (on_goal 1 => subst x); (on_goal 2 => clear_value x)) | (refine Foot.cut2 x ?_ (fun hx => ?_); (on_goal 1 => subst x); (on_goal 2 => clear_value x)) | refine Foot.keepHost x ?_ | refine Foot.keepMbx x ?_ | clear_value x)
    | split

theorem State.sluFrame_foot (s : State) (l : Leg) (key : Nat) : Foot fp273 s (State.sluFrame s l key) := by
  have h : Foot fp273 s s := Foot.refl
  unfold State.sluFrame
  repeat' first
    | with_reducible assumption
    | with_reducible apply Foot.ite
    | ((with_reducible apply Foot.inc); (· rfl); (· first | exact Or.inr rfl))
    | ((with_reducible apply Foot.step (State.sluOnce_foot ..)); (· rfl))
    | ((with_reducible apply Foot.step (State.sluAudit_foot ..)); (· rfl))
    | (fail_if_no_progress extract_lets +onlyGivenNames x; first | (refine Foot.cut x ?_ (fun hx => ?_); (on_goal 1 => subst x); (on_goal 2 => clear_value x)) | refine Foot.keepHost x ?_ | refine Foot.keepMbx x ?_ | clear_value x)
    | fail_if_no_progress ((with_reducible apply Foot.setSlu); (· rfl))
    | split

theorem State.swapRequest_foot (s : State) (v : Nat) : Foot fp274 s (State.swapRequest s v) := by
  have h : Foot fp274 s s := Foot.refl
  unfold State.swapRequest
  repeat' first
    | with_reducible assumption
    | with_reducible apply Foot.ite
    | ((with_reducible apply Foot.wr); (· rfl); (· first | exact Or.inr rfl))
    | ((with_reducible apply Foot.step (State.event_foot ..)); (· rfl))
    | (fail_if_no_progress extract_lets +onlyGivenNames x; first | refine Foot.keepHost x ?_ | refine Foot.keepMbx x ?_ | clear_value x)
    | fail_if_no_progress ((with_reducible apply Foot.setSlu); (· rfl))
    | split

theorem execSwapRequest_foot (ag : Agent) (v : BitVec 32) (s : State) (t' : State) (ht : execSwapRequest ag v s = .next t') : Foot fp274 s t' := by
  have h : Foot fp274 s s := Foot.refl
  rw [← Host.Outcome.next.inj ht]
  repeat' first
    | with_reducible assumption
    | ((with_reducible apply Foot.reg); (on_goal 1 => intro _ _))
    | ((with_reducible apply Foot.step (State.swapRequest_foot ..)); (· rfl))

theorem State.swapDrop_foot (s : State) : Foot fp275 s (State.swapDrop s) := by
  have h : Foot fp275 s s := Foot.refl
  unfold State.swapDrop
  repeat' first
    | with_reducible assumption
    | with_reducible apply Foot.ite
    | ((with_reducible apply Foot.wr); (· rfl); (· first | exact Or.inr rfl))
    | ((with_reducible apply Foot.step (State.event_foot ..)); (· rfl))
    | split

theorem State.swapCancel_foot (s : State) : Foot fp275 s (State.swapCancel s) := by
  have h : Foot fp275 s s := Foot.refl
  unfold State.swapCancel
  repeat' first
    | with_reducible assumption
    | with_reducible apply Foot.ite
    | ((with_reducible apply Foot.step (State.swapDrop_foot ..)); (· rfl))
    | split

theorem execSwapCancel_foot (ag : Agent) (s : State) (t' : State) (ht : execSwapCancel ag s = .next t') : Foot fp275 s t' := by
  have h : Foot fp275 s s := Foot.refl
  rw [← Host.Outcome.next.inj ht]
  repeat' first
    | with_reducible assumption
    | ((with_reducible apply Foot.reg); (on_goal 1 => intro _ _))
    | ((with_reducible apply Foot.step (State.swapCancel_foot ..)); (· rfl))

theorem State.swapPages_foot (s : State) (up : Bool) : Foot fp276 s (State.swapPages s up) := by
  have h : Foot fp276 s s := Foot.refl
  unfold State.swapPages
  repeat' first
    | with_reducible assumption
    | with_reducible apply Foot.ite
    | ((with_reducible apply Foot.wr); (· rfl); (· first | exact Or.inr rfl))
    | (fail_if_no_progress extract_lets +onlyGivenNames x; first | (refine Foot.cut x ?_ (fun hx => ?_); (on_goal 1 => subst x); (on_goal 2 => clear_value x)) | refine Foot.keepHost x ?_ | refine Foot.keepMbx x ?_ | clear_value x)
    | fail_if_no_progress ((with_reducible apply Foot.setSlu); (· rfl))
    | split

theorem State.swapEffective_foot (s : State) (up : Bool) : Foot fp277 s (State.swapEffective s up) := by
  have h : Foot fp277 s s := Foot.refl
  unfold State.swapEffective
  repeat' first
    | with_reducible assumption
    | with_reducible apply Foot.ite
    | ((with_reducible apply Foot.wr); (· rfl); (· first | exact Or.inr rfl))
    | ((with_reducible apply Foot.inc); (· rfl); (· first | exact Or.inr rfl))
    | ((with_reducible apply Foot.step (State.event_foot ..)); (· rfl))
    | ((with_reducible apply Foot.step (State.settleGroups_foot ..)); (· rfl))
    | ((with_reducible apply Foot.step (State.swapPages_foot ..)); (· rfl))
    | (fail_if_no_progress extract_lets +onlyGivenNames x; first | (refine Foot.cut x ?_ (fun hx => ?_); (on_goal 1 => subst x); (on_goal 2 => clear_value x)) | (refine Foot.cut2 x ?_ (fun hx => ?_); (on_goal 1 => subst x); (on_goal 2 => clear_value x)) | refine Foot.keepHost x ?_ | refine Foot.keepMbx x ?_ | clear_value x)
    | split

theorem execSwapEffective_foot (up : Bool) (s : State) (t' : State) (ht : execSwapEffective up s = .next t') : Foot fp277 s t' := by
  have h : Foot fp277 s s := Foot.refl
  rw [← Host.Outcome.next.inj ht]
  repeat' first
    | with_reducible assumption
    | ((with_reducible apply Foot.step (State.swapEffective_foot ..)); (· rfl))

theorem State.settleSluice_foot (s : State) : Foot fp278 s (State.settleSluice s) := by
  have h : Foot fp278 s s := Foot.refl
  unfold State.settleSluice
  repeat' first
    | with_reducible assumption
    | with_reducible apply Foot.ite
    | ((with_reducible apply Foot.wr); (· rfl); (· first | exact Or.inr rfl))
    | ((with_reducible apply Foot.step (State.event_foot ..)); (· rfl))
    | ((with_reducible apply Foot.step (State.settleGroups_foot ..)); (· rfl))
    | (fail_if_no_progress extract_lets +onlyGivenNames x; first | (refine Foot.cut x ?_ (fun hx => ?_); (on_goal 1 => subst x); (on_goal 2 => clear_value x)) | (refine Foot.cut2 x ?_ (fun hx => ?_); (on_goal 1 => subst x); (on_goal 2 => clear_value x)) | refine Foot.keepHost x ?_ | refine Foot.keepMbx x ?_ | clear_value x)
    | split

end Sys2Proof.Machine
end

