-- ==== Sys2Proof/Laws/FootLegBase.lean ====
section
/-! SUPPORT. What each operation of Machine/LegBase.lean can change (`Foot`). -/

namespace Sys2Proof.Machine

def fp279 : Nat := 0x100840c000000000000000000001c0000000000000000000000000000000000000001c1000000000000000000000000002060000800000000000000000000000000000000000000000000000000000000000000000000000000000000000000000000000000000000000000000000000000000000000000000000000000000000
def fp280 : Nat := 0xc000000000000000000000000000000000000000000000000000000000000000000000000000000000000000000000000003c000000000000000000000000000000000000000000000000000000000000000000000000000000000000000000000000000000000000000000000000000000000000000000000000000000
def fp281 : Nat := 0x1000400000000000000000000001c0000000000000000000000000000000000000001c1000000000000000000000000000000000800000000000000000000000000000000000000000000000000000000000000000000000000000000000000000000000000000000000000000000000000000000000000000000000000000000
def fp282 : Nat := 0x100040c000000000000000000001c0000000000000000000000000000000000000001c1000000000000000000000000000000000880000000000000000000000000000000000000000000000000000000000000000000000000000000000000000000000000000000000000000000000000001000000280000000000000000000
def fp283 : Nat := 0xc00000000000000000000000000000000000000000000000000000000000000000000000000000000000000000000000000000000000000000000000000000000000000000000000000000000000000000000000000000000000000000000000000000000000000000000000000160060001f9d00000000000000000000
def fp284 : Nat := 0xc0000000000000000000000000000000000000000000000000000000000000000000000000000000000000000000000000000000000000000000000000000000000000000000000000000000000000000000000000000000000000000000000000000000000000000000000000000020000000000000000000000000000
def fp285 : Nat := 0x10000000000000000000000000000
def fp286 : Nat := 0x10000000000000000000000000000000000000000000000000000000000000000000000000000000000000000000000000000000000000000000000000000000000000000000000000000000000000000000000000
def fp287 : Nat := 0x2000000000000000000000000000000000000000000000000000000000000000000000000000000000000000000000000000000000000000000000000000000000000000000000000000000000000000000
def fp288 : Nat := 0x100858c000000000000000000001c0000000000000000000000000000000000000001c1000000000000000010000000002060000000000000000000000000000000000000000000000003c00000000000000000000000000000000000000000000000000000000000000000000000008000020000000000000000000000000000
def fp289 : Nat := 0x100841c000000000000000000001c0000000000000000000000000000000000000001c1000000000000000000000000000000000040000000000000000000000000000000000000000000000000000000000000000000000000000000000000000008000000000180000000000324000000000000000000000000000000000000
def fp290 : Nat := 0x100841c000000000000000000001c0000000000000000000000000000000000000001c10000000000000000000000180000000008c0000000000000000000000000000000000000000000000000000000000000000000000000000000000000000008000000000180000000000324000000001000001280000000000000000000
def fp291 : Nat := 0x100841c000000000000000000001c0000000000000000000000000000000000000001c100000000000000000000001a0020600008fc000000000000000000000000000000000000000000000000000000000000000000000000000000000000000008000000000180000000000324000000001000001280000000000000000000

theorem State.clrBit_foot {m : Nat} {s t : State} {R : Row} {l i : Nat} (hr : rowIn m R = true) (hl : l < 2 ∨ R.legStride = 0)
    (h : Foot m s t) : Foot m s (State.clrBit t R l i) := by
  unfold State.clrBit
  split <;> first | exact h | exact Foot.wr hr hl h

theorem State.declare_foot {m : Nat} {s t : State} {l : Leg} {w : Nat} {d : WaveDef} (hr : rowIn m d.row = true) (hm : fp279 ||| m = m)
    (h : Foot m s t) : Foot m s (State.declare t l w d) := by
  unfold State.declare
  refine Foot.ite h ?_
  extract_lets x y z
  have hb : ∀ u, Foot fp279 u (u.setBit Reg.PROT_DEF_LATCHED l.n (d.place + w)) := fun u => State.setBit_foot rfl (Or.inl (Leg.n_lt _)) Foot.refl
  have hx : Foot m s x := Foot.step (hb _) hm (State.setBit_foot hr (Or.inl (Leg.n_lt _)) h)
  have hy : Foot m s y := Foot.step (State.once_foot ..) (mask_trans (b := fp279) rfl hm) hx
  have hz : Foot m s z := Foot.ite (Foot.step (State.pmCount_foot ..) (mask_trans (b := fp279) rfl hm) hy) hy
  exact Foot.ite (Foot.step (State.updWave_foot ..) (mask_trans (b := fp279) rfl hm) hz) hz

theorem State.clearDefect_foot {m : Nat} {s t : State} {l : Leg} {w : Nat} {d : WaveDef} (hr : rowIn m d.row = true) (hm : fp8 ||| m = m)
    (h : Foot m s t) : Foot m s (State.clearDefect t l w d) := by
  unfold State.clearDefect
  refine Foot.ite h ?_
  extract_lets x
  have hx : Foot m s x := State.clrBit_foot hr (Or.inl (Leg.n_lt _)) h
  exact Foot.ite hx (Foot.step (State.event_foot ..) (mask_trans (b := fp8) rfl hm) hx)

theorem State.stopDetectors_foot (s : State) (l : Leg) (w : Nat) : Foot fp280 s (State.stopDetectors s l w) := by
  unfold State.stopDetectors
  refine Foot.step (State.updWave_foot ..) rfl ?_
  simp only [List.foldl_cons, List.foldl_nil]
  refine State.clrBit_foot ?_ (Or.inl (Leg.n_lt _)) (State.clrBit_foot ?_ (Or.inl (Leg.n_lt _)) (State.clrBit_foot ?_
    (Or.inl (Leg.n_lt _)) (State.clrBit_foot ?_ (Or.inl (Leg.n_lt _)) Foot.refl))) <;> rfl

theorem State.declareLeg_foot {m : Nat} {s t : State} {l : Leg} {R : Row} {p e : Nat} (hr : rowIn m R = true) (hm : fp281 ||| m = m)
    (h : Foot m s t) : Foot m s (State.declareLeg t l R p e) := by
  unfold State.declareLeg
  refine Foot.ite h (Foot.step (State.event_foot ..) (mask_trans (b := fp281) rfl hm) ?_)
  have hb : ∀ u, Foot fp281 u (u.setBit Reg.PROT_DEF_LATCHED l.n p) := fun u => State.setBit_foot rfl (Or.inl (Leg.n_lt _)) Foot.refl
  exact Foot.step (hb _) hm (Foot.wr hr (Or.inl (Leg.n_lt _)) h)

theorem State.setAct_foot (s : State) (l : Leg) (st : Nat) : Foot fp282 s (State.setAct s l st) := by
  have h : Foot fp282 s s := Foot.refl
  unfold State.setAct
  repeat' first
    | with_reducible assumption
    | with_reducible apply Foot.ite
    | ((with_reducible apply Foot.wr); (· rfl); (· first | exact Or.inr rfl | exact Or.inl (Leg.n_lt _)))
    | ((with_reducible apply Foot.upd); (· rfl); (· rfl))
    | ((with_reducible apply Foot.step (State.event_foot ..)); (· rfl))
    | ((with_reducible apply State.declareLeg_foot); (· rfl); (· rfl))
    | (fail_if_no_progress extract_lets +onlyGivenNames x; first | (refine Foot.cut x ?_ (fun hx => ?_); (on_goal 1 => subst x); (on_goal 2 => clear_value x)) | (refine Foot.cut2 x ?_ (fun hx => ?_); (on_goal 1 => subst x); (on_goal 2 => clear_value x)) | refine Foot.keepHost x ?_ | refine Foot.keepMbx x ?_ | clear_value x)
    | split

theorem State.withdraw_foot (s : State) (l : Leg) : Foot fp1 s (State.withdraw s l) := by
  have h : Foot fp1 s s := Foot.refl
  unfold State.withdraw
  repeat' first
    | with_reducible assumption
    | ((with_reducible apply Foot.upd); (· rfl); (· rfl))

theorem State.dropNumber_foot (s : State) (l : Leg) : Foot fp283 s (State.dropNumber s l) := by
  have h : Foot fp283 s s := Foot.refl
  unfold State.dropNumber
  repeat' first
    | with_reducible assumption
    | ((with_reducible apply Foot.wr); (· rfl); (· first | exact Or.inr rfl | exact Or.inl (Leg.n_lt _)))
    | ((with_reducible apply Foot.upd); (· rfl); (· rfl))
    | ((with_reducible apply Foot.step (State.withdraw_foot ..)); (· rfl))
    | ((with_reducible apply Foot.foldl); (on_goal 1 => intro _ _ _))
    | (fail_if_no_progress extract_lets +onlyGivenNames x; first | (refine Foot.cut x ?_ (fun hx => ?_); (on_goal 1 => subst x); (on_goal 2 => clear_value x)) | (refine Foot.cut2 x ?_ (fun hx => ?_); (on_goal 1 => subst x); (on_goal 2 => clear_value x)) | refine Foot.keepHost x ?_ | refine Foot.keepMbx x ?_ | clear_value x)

theorem State.setWin_foot (s : State) (l : Leg) (u : Nat) (w : Option Win) : Foot fp284 s (State.setWin s l u w) := by
  have h : Foot fp284 s s := Foot.refl
  unfold State.setWin
  repeat' first
    | with_reducible assumption
    | with_reducible apply Foot.ite
    | ((with_reducible apply Foot.wr); (· rfl); (· first | exact Or.inr rfl | exact Or.inl (Leg.n_lt _)))
    | ((with_reducible apply Foot.upd); (· rfl); (· rfl))
    | (fail_if_no_progress extract_lets +onlyGivenNames x; first | (refine Foot.cut x ?_ (fun hx => ?_); (on_goal 1 => subst x); (on_goal 2 => clear_value x)) | (refine Foot.cut2 x ?_ (fun hx => ?_); (on_goal 1 => subst x); (on_goal 2 => clear_value x)) | refine Foot.keepHost x ?_ | refine Foot.keepMbx x ?_ | clear_value x)
    | split

theorem State.closeWin_foot (s : State) (l : Leg) (u : Nat) : Foot fp284 s (State.closeWin s l u) := by
  have h : Foot fp284 s s := Foot.refl
  unfold State.closeWin
  repeat' first
    | with_reducible assumption
    | with_reducible apply Foot.ite
    | ((with_reducible apply Foot.upd); (· rfl); (· rfl))
    | ((with_reducible apply Foot.step (State.setWin_foot ..)); (· rfl))
    | (fail_if_no_progress extract_lets +onlyGivenNames x; first | (refine Foot.cut x ?_ (fun hx => ?_); (on_goal 1 => subst x); (on_goal 2 => clear_value x)) | (refine Foot.cut2 x ?_ (fun hx => ?_); (on_goal 1 => subst x); (on_goal 2 => clear_value x)) | refine Foot.keepHost x ?_ | refine Foot.keepMbx x ?_ | clear_value x)
    | split

theorem State.burstOver_foot (s : State) (l : Leg) (a : Alloc) : Foot fp1 s (State.burstOver s l a) := by
  have h : Foot fp1 s s := Foot.refl
  unfold State.burstOver
  repeat' first
    | with_reducible assumption
    | with_reducible apply Foot.ite
    | ((with_reducible apply Foot.upd); (· rfl); (· rfl))
    | split

theorem State.settlePins_foot (s : State) (l : Leg) : Foot fp285 s (State.settlePins s l) := by
  have h : Foot fp285 s s := Foot.refl
  unfold State.settlePins
  repeat' first
    | with_reducible assumption
    | with_reducible apply Foot.ite
    | ((with_reducible apply Foot.wr); (· rfl); (· first | exact Or.inr rfl | exact Or.inl (Leg.n_lt _)))
    | split

theorem State.burnt_foot (s : State) (l : Leg) (u : Nat) (ns : Nat) : Foot fp286 s (State.burnt s l u ns) := by
  have h : Foot fp286 s s := Foot.refl
  unfold State.burnt
  repeat' first
    | with_reducible assumption
    | ((with_reducible apply Foot.inc); (· rfl); (· first | exact Or.inr rfl | exact Or.inl (Leg.n_lt _)))

theorem State.txLane_foot (s : State) (l : Leg) (u : Nat) (mode : Nat) : Foot fp287 s (State.txLane s l u mode) := by
  have h : Foot fp287 s s := Foot.refl
  unfold State.txLane
  repeat' first
    | with_reducible assumption
    | ((with_reducible apply Foot.wr); (· rfl); (· first | exact Or.inr rfl | exact Or.inl (Leg.n_lt _)))

theorem State.cutWindow_foot (s : State) (l : Leg) (u : Nat) : Foot fp288 s (State.cutWindow s l u) := by
  have h : Foot fp288 s s := Foot.refl
  unfold State.cutWindow
  repeat' first
    | with_reducible assumption
    | ((with_reducible apply Foot.inc); (· rfl); (· first | exact Or.inr rfl | exact Or.inl (Leg.n_lt _)))
    | ((with_reducible apply Foot.step (State.once_foot ..)); (· rfl))
    | ((with_reducible apply Foot.step (State.endBurst_foot ..)); (· rfl))
    | ((with_reducible apply Foot.step (State.closeWin_foot ..)); (· rfl))
    | ((with_reducible apply Foot.step (State.burstOver_foot ..)); (· rfl))
    | ((with_reducible apply Foot.step (State.burnt_foot ..)); (· rfl))
    | (fail_if_no_progress extract_lets +onlyGivenNames x; (refine Foot.cut x ?_ (fun hx => ?_); (on_goal 1 => subst x); (on_goal 2 => clear_value x)))
    | split

theorem State.cutWindows_foot (s : State) (l : Leg) : Foot fp288 s (State.cutWindows s l) := by
  have h : Foot fp288 s s := Foot.refl
  unfold State.cutWindows
  repeat' first
    | with_reducible assumption
    | ((with_reducible apply Foot.step (State.cutWindow_foot ..)); (· rfl))

theorem State.dropFrame_foot (s : State) (l : Leg) : Foot fp1 s (State.dropFrame s l) := by
  have h : Foot fp1 s s := Foot.refl
  unfold State.dropFrame
  repeat' first
    | with_reducible assumption
    | ((with_reducible apply Foot.upd); (· rfl); (· rfl))

theorem State.syncOver_foot (s : State) (l : Leg) (w : Nat) : Foot fp289 s (State.syncOver s l w) := by
  have h : Foot fp289 s s := Foot.refl
  unfold State.syncOver
  repeat' first
    | with_reducible assumption
    | with_reducible apply Foot.ite
    | ((with_reducible apply Foot.wr); (· rfl); (· first | exact Or.inr rfl | exact Or.inl (Leg.n_lt _)))
    | ((with_reducible apply Foot.upd); (· rfl); (· rfl))
    | ((with_reducible apply Foot.step (State.toHoldover_foot ..)); (· rfl))
    | (fail_if_no_progress extract_lets +onlyGivenNames x; first | (refine Foot.cut x ?_ (fun hx => ?_); (on_goal 1 => subst x); (on_goal 2 => clear_value x)) | (refine Foot.cut2 x ?_ (fun hx => ?_); (on_goal 1 => subst x); (on_goal 2 => clear_value x)) | refine Foot.keepHost x ?_ | refine Foot.keepMbx x ?_ | clear_value x)
    | split

theorem State.toHunt_foot (s : State) (l : Leg) (w : Nat) : Foot fp290 s (State.toHunt s l w) := by
  have h : Foot fp290 s s := Foot.refl
  unfold State.toHunt
  repeat' first
    | with_reducible assumption
    | with_reducible apply Foot.ite
    | ((with_reducible apply Foot.wr); (· rfl); (· first | exact Or.inr rfl | exact Or.inl (Leg.n_lt _)))
    | ((with_reducible apply Foot.step (State.updWave_foot ..)); (· rfl))
    | ((with_reducible apply Foot.step (State.setAct_foot ..)); (· rfl))
    | ((with_reducible apply Foot.step (State.withdraw_foot ..)); (· rfl))
    | ((with_reducible apply Foot.step (State.dropFrame_foot ..)); (· rfl))
    | ((with_reducible apply Foot.step (State.syncOver_foot ..)); (· rfl))
    | (fail_if_no_progress extract_lets +onlyGivenNames x; first | (refine Foot.cut x ?_ (fun hx => ?_); (on_goal 1 => subst x); (on_goal 2 => clear_value x)) | (refine Foot.cut2 x ?_ (fun hx => ?_); (on_goal 1 => subst x); (on_goal 2 => clear_value x)) | refine Foot.keepHost x ?_ | refine Foot.keepMbx x ?_ | clear_value x)
    | split

theorem State.settleRx_foot (s : State) (l : Leg) (w : Nat) : Foot fp291 s (State.settleRx s l w) := by
  have h : Foot fp291 s s := Foot.refl
  unfold State.settleRx
  repeat' first
    | with_reducible assumption
    | with_reducible apply Foot.ite
    | ((with_reducible apply Foot.wr); (· rfl); (· first | exact Or.inr rfl | exact Or.inl (Leg.n_lt _)))
    | ((with_reducible apply State.clrBit_foot); (· rfl); (· first | exact Or.inr rfl | exact Or.inl (Leg.n_lt _)))
    | ((with_reducible apply State.declare_foot); (· rfl); (· rfl))
    | ((with_reducible apply Foot.step (State.stopDetectors_foot ..)); (· rfl))
    | ((with_reducible apply Foot.step (State.dropFrame_foot ..)); (· rfl))
    | ((with_reducible apply Foot.step (State.toHunt_foot ..)); (· rfl))
    | (fail_if_no_progress extract_lets +onlyGivenNames x; first | (refine Foot.cut x ?_ (fun hx => ?_); (on_goal 1 => subst x); (on_goal 2 => clear_value x)) | (refine Foot.cut2 x ?_ (fun hx => ?_); (on_goal 1 => subst x); (on_goal 2 => clear_value x)) | refine Foot.keepHost x ?_ | refine Foot.keepMbx x ?_ | clear_value x)
    | split

theorem State.settleTx_foot (s : State) (l : Leg) (u : Nat) : Foot fp287 s (State.settleTx s l u) := by
  have h : Foot fp287 s s := Foot.refl
  unfold State.settleTx
  repeat' first
    | with_reducible assumption
    | with_reducible apply Foot.ite
    | ((with_reducible apply Foot.step (State.txLane_foot ..)); (· rfl))
    | (fail_if_no_progress extract_lets +onlyGivenNames x; first | (refine Foot.cut x ?_ (fun hx => ?_); (on_goal 1 => subst x); (on_goal 2 => clear_value x)) | (refine Foot.cut2 x ?_ (fun hx => ?_); (on_goal 1 => subst x); (on_goal 2 => clear_value x)) | refine Foot.keepHost x ?_ | refine Foot.keepMbx x ?_ | clear_value x)
    | split

theorem State.settleLanes_foot (s : State) (l : Leg) : Foot fp291 s (State.settleLanes s l) := by
  have h : Foot fp291 s s := Foot.refl
  unfold State.settleLanes
  repeat' first
    | with_reducible assumption
    | ((with_reducible apply Foot.step (State.settleRx_foot ..)); (· rfl))
    | ((with_reducible apply Foot.step (State.settleTx_foot ..)); (· rfl))
    | ((with_reducible apply Foot.foldl); (on_goal 1 => intro _ _ _))
    | (fail_if_no_progress extract_lets +onlyGivenNames x; first | (refine Foot.cut x ?_ (fun hx => ?_); (on_goal 1 => subst x); (on_goal 2 => clear_value x)) | (refine Foot.cut2 x ?_ (fun hx => ?_); (on_goal 1 => subst x); (on_goal 2 => clear_value x)) | refine Foot.keepHost x ?_ | refine Foot.keepMbx x ?_ | clear_value x)

end Sys2Proof.Machine
end

