-- ==== Sys2Proof/Laws/FootGrants.lean ====
section
/-! SUPPORT. What each operation of Machine/Grants.lean can change (`Foot`). -/

namespace Sys2Proof.Machine

def fp292 : Nat := 0xc0000000000000000000000000000000000000000000000000000000000000000000000000000000000000000000000000000000000000000000000000000000000000000000000000000000000000000000000000000000000000000000000000000000000000000000000000016000000000000000000000000000000
def fp293 : Nat := 0x100040c000000000000000000001c0000000000000000000000000000000000000001c1000000000000000000000000000000000880000000000000000000000000000000000000000000000000000000000000000000000000000000000000000000000000000000000000000000000000001000000a80000000000000000000
def fp294 : Nat := 0x10c0000000000000000000000000000000000000000000000000000000000000000000000000000000000000000000000000000000000000000000000000000000000000000000000000000000000000000000000000000000000000000000000000000000000000000000000000000000000000000000000000000000000
def fp295 : Nat := 0x100050c000000000000000000001c0000000000000000000000000000000000000001c1000000000000000000000000000000000880000000000000000000000000000000000000000000000000000000000000000000000000000000000000000000000000000000000000000000001f80001000000a80000000000000000000
def fp296 : Nat := 0x100040c000000000000000000001c0000000000000000000000000000000000000001c1000000000000000000000000000000000880000000000000000000000000000000000000000000000000000000000000000000000000000000000000000000000000000000000000000000000200001000000a80000000000000000000
def fp297 : Nat := 0x100050c000000000000000000001c0000000000000000000000000000000000000001c1000000000000000000000000000000000880000000000000000000000000000000000000000000000000000000000000000000000000000000000000000000000000000000000000000000000f80001000000a80000000000000000000
def fp298 : Nat := 0x80000c0000000000000000000000000000000000000000000000000000000000000000000000000000000000000000000000000000000000000000000000000000000000000000000000000000000000000000000000000000000000000000000000000000000000000000000000000000000000000000000000000000000000
def fp299 : Nat := 0x180040c000000000000000000001c0000000000000000000000000000000000000001c1000000000000000000000000000000000880000000000000000000000000000000000000000000000000000000000000000000000000000000000000000000000000000000000000000000000000001000001a80000000000000000000
def fp300 : Nat := 0x180040c000000000000000000001c0000000000000000000000000000000000000001c1000000000000000000000000000000000880000000000000000000000000000000000000000000000000000000000000000000000000000000000000000000000000000000000000000000000000001000001a80100000000000001400
def fp301 : Nat := 0x180850c000000000000000000001c0000000000000000000000000000000000000001c1000000000000000000000000002060000880000000000000000000000000000000000000000000000000000000000000000000000000000000000000000000000000000000000000000000001f80001000001a80180000000000001400
def fp302 : Nat := 0x12005cc000000000000000000001c0000000000000000000000000000000000000001c1000000000000000000000000000000000880000000000000000000000000000000000000000000000000002106020000000000000000000000000000000000000000000000000000000000001f80001000000a80100000000000000000
def fp303 : Nat := 0x12005cc000000000000000000001c0000000000000000000000000000000000000001c1000000000000000000000000000000000880000000000000000000000000000000000000000000000000002306020000000000000000000000000000000000000000000000000000000000001f80001000000a82100000000000000000
def fp304 : Nat := 0x12005cc000000000000000000001c0000000000000000000000000000000000000001c1000000000000000000000000000000000880000000000000000000000000000000000000000000000000002306020000000000000000000000000000000000000000000000000000000000001f80001000000a83500000000000000000

theorem State.latchSlot_foot (s : State) (l : Leg) (slot : Nat) (sfc : Nat) : Foot fp292 s (State.latchSlot s l slot sfc) := by
  have h : Foot fp292 s s := Foot.refl
  unfold State.latchSlot
  repeat' first
    | with_reducible assumption
    | ((with_reducible apply Foot.wr); (· rfl); (· first | exact Or.inr rfl | exact Or.inl (Leg.n_lt _)))
    | ((with_reducible apply Foot.upd); (· rfl); (· rfl))
    | (fail_if_no_progress extract_lets +onlyGivenNames x; first | (refine Foot.cut x ?_ (fun hx => ?_); (on_goal 1 => subst x); (on_goal 2 => clear_value x)) | (refine Foot.cut2 x ?_ (fun hx => ?_); (on_goal 1 => subst x); (on_goal 2 => clear_value x)) | refine Foot.keepHost x ?_ | refine Foot.keepMbx x ?_ | clear_value x)

theorem State.latchSlots_foot (s : State) (l : Leg) (sfc : Nat) : Foot fp292 s (State.latchSlots s l sfc) := by
  have h : Foot fp292 s s := Foot.refl
  unfold State.latchSlots
  repeat' first
    | with_reducible assumption
    | ((with_reducible apply Foot.step (State.latchSlot_foot ..)); (· rfl))
    | ((with_reducible apply Foot.foldl); (on_goal 1 => intro _ _ _))

theorem State.setAlloc_foot (s : State) (l : Leg) (a : Alloc) (f : Alloc → Alloc) : Foot fp1 s (State.setAlloc s l a f) := by
  have h : Foot fp1 s s := Foot.refl
  unfold State.setAlloc
  repeat' first
    | with_reducible assumption
    | with_reducible apply Foot.ite
    | ((with_reducible apply Foot.upd); (· rfl); (· rfl))
    | split

theorem State.attemptDark_foot (s : State) (l : Leg) (a : Alloc) : Foot fp293 s (State.attemptDark s l a) := by
  have h : Foot fp293 s s := Foot.refl
  unfold State.attemptDark
  repeat' first
    | with_reducible assumption
    | with_reducible apply Foot.ite
    | ((with_reducible apply Foot.dec); (· rfl); (· first | exact Or.inr rfl | exact Or.inl (Leg.n_lt _)))
    | ((with_reducible apply Foot.step (State.setAct_foot ..)); (· rfl))
    | ((with_reducible apply Foot.step (State.withdraw_foot ..)); (· rfl))
    | (fail_if_no_progress extract_lets +onlyGivenNames x; first | (refine Foot.cut x ?_ (fun hx => ?_); (on_goal 1 => subst x); (on_goal 2 => clear_value x)) | (refine Foot.cut2 x ?_ (fun hx => ?_); (on_goal 1 => subst x); (on_goal 2 => clear_value x)) | refine Foot.keepHost x ?_ | refine Foot.keepMbx x ?_ | clear_value x)
    | split

theorem State.refuse_foot {m : Nat} {s t : State} {l : Leg} {a : Alloc} {R : Row} (hr : rowIn m R = true) (hm : fp293 ||| m = m)
    (h : Foot m s t) : Foot m s (State.refuse t l a R) := by
  unfold State.refuse
  refine Foot.step (State.attemptDark_foot ..) (mask_trans (b := fp293) rfl hm) ?_
  refine Foot.step (State.once_foot ..) (mask_trans (b := fp293) rfl hm) ?_
  have hi : Foot m s (t.inc R l.n) := Foot.inc hr (Or.inl (Leg.n_lt _)) h
  exact Foot.ite (Foot.step (State.event_foot ..) (mask_trans (b := fp293) rfl hm) hi) hi

theorem State.ledger_foot (s : State) (l : Leg) (a : Alloc) (admitted : Bool) (hgOpen : Bool) : Foot fp294 s (State.ledger s l a admitted hgOpen) := by
  have h : Foot fp294 s s := Foot.refl
  unfold State.ledger
  repeat' first
    | with_reducible assumption
    | with_reducible apply Foot.ite
    | ((with_reducible apply Foot.step (State.setAlloc_foot ..)); (· rfl))
    | (fail_if_no_progress extract_lets +onlyGivenNames x; first | refine Foot.keepHost x ?_ | refine Foot.keepMbx x ?_ | clear_value x)
    | fail_if_no_progress ((with_reducible apply Foot.setLed); (· rfl))
    | split

theorem refusal_row {s : State} {l : Leg} {a : Alloc} {o : Option Nat} {c : Bool} {u : Nat} {R : Row} (h : s.refusal l a o c u = some R)
    (m : Nat) (hm : rowIn m Reg.HG_CNT_REFUSED_ROLE = true) (h1 : rowIn m Reg.HG_CNT_REFUSED_OTHER = true)
    (h2 : rowIn m Reg.HG_CNT_REFUSED_MAXB = true) (h3 : rowIn m Reg.HG_CNT_REFUSED_EQD = true)
    (h4 : rowIn m Reg.HG_CNT_REFUSED_CAP = true) : rowIn m R = true := by
  unfold State.refusal at h
  split_ifs at h <;> cases h <;> with_reducible assumption

theorem State.decide1_foot (s : State) (l : Leg) (a : Alloc) : Foot fp295 s (State.decide1 s l a) := by
  have h : Foot fp295 s s := Foot.refl
  unfold State.decide1
  extract_lets +onlyGivenNames used slot why adm x y z
  have hw : ∀ R, why = some R → rowIn fp295 R = true := by
    intro R hR
    simp only [why] at hR
    split at hR
    · exact refusal_row hR _ rfl rfl rfl rfl rfl
    · cases hR; rfl
  have hx : Foot fp295 s x := Foot.step (State.setAlloc_foot ..) rfl h
  have hy : Foot fp295 s y := Foot.step (State.ledger_foot ..) rfl hx
  have hz : Foot fp295 s z := Foot.ite (Foot.step (State.event_foot ..) rfl (Foot.inc rfl (Or.inl (Leg.n_lt _)) hy)) hy
  clear_value z
  clear_value why
  cases why with
  | some R => exact Foot.ite (Foot.step (State.setAlloc_foot ..) rfl hz) (State.refuse_foot (hw R rfl) rfl hz)
  | none => exact hz

theorem State.countRole_foot (s : State) (l : Leg) (key : Nat) : Foot fp296 s (State.countRole s l key) := by
  have h : Foot fp296 s s := Foot.refl
  unfold State.countRole
  repeat' first
    | with_reducible assumption
    | ((with_reducible apply State.refuse_foot); (· rfl); (· rfl))
    | ((with_reducible apply Foot.foldl); (on_goal 1 => intro _ _ _))

theorem State.decideAll_foot (s : State) (l : Leg) : Foot fp295 s (State.decideAll s l) := by
  have h : Foot fp295 s s := Foot.refl
  unfold State.decideAll
  repeat' first
    | with_reducible assumption
    | ((with_reducible apply Foot.step (State.decide1_foot ..)); (· rfl))
    | ((with_reducible apply Foot.foldl); (on_goal 1 => intro _ _ _))

theorem State.redecide_foot (s : State) (l : Leg) : Foot fp297 s (State.redecide s l) := by
  unfold State.redecide
  refine Foot.foldl (fun x a hx => ?_) Foot.refl
  extract_lets +onlyGivenNames used
  clear_value used
  split
  · rename_i he
    exact Foot.ite (State.refuse_foot (refusal_row he _ rfl rfl rfl rfl rfl) rfl (Foot.step (State.setAlloc_foot ..) rfl hx)) hx
  · exact Foot.step (State.ledger_foot ..) rfl (Foot.step (State.setAlloc_foot ..) rfl hx)

theorem State.schedule_foot (s : State) (l : Leg) (a : Alloc) : Foot fp298 s (State.schedule s l a) := by
  have h : Foot fp298 s s := Foot.refl
  unfold State.schedule
  repeat' first
    | with_reducible assumption
    | ((with_reducible apply Foot.upd); (· rfl); (· rfl))
    | ((with_reducible apply Foot.step (State.setAlloc_foot ..)); (· rfl))
    | (fail_if_no_progress extract_lets +onlyGivenNames x; first | (refine Foot.cut x ?_ (fun hx => ?_); (on_goal 1 => subst x); (on_goal 2 => clear_value x)) | refine Foot.keepHost x ?_ | refine Foot.keepMbx x ?_ | clear_value x)
    | fail_if_no_progress ((with_reducible apply Foot.setFreeIdx); (· rfl))

theorem State.regWindow_foot (s : State) (l : Leg) (a : Alloc) : Foot fp299 s (State.regWindow s l a) := by
  have h : Foot fp299 s s := Foot.refl
  unfold State.regWindow
  repeat' first
    | with_reducible assumption
    | with_reducible apply Foot.ite
    | ((with_reducible apply Foot.incSat); (· rfl); (· first | exact Or.inr rfl | exact Or.inl (Leg.n_lt _)))
    | ((with_reducible apply Foot.dec); (· rfl); (· first | exact Or.inr rfl | exact Or.inl (Leg.n_lt _)))
    | ((with_reducible apply Foot.step (State.setAct_foot ..)); (· rfl))
    | ((with_reducible apply Foot.step (State.schedule_foot ..)); (· rfl))
    | (fail_if_no_progress extract_lets +onlyGivenNames x; first | (refine Foot.cut x ?_ (fun hx => ?_); (on_goal 1 => subst x); (on_goal 2 => clear_value x)) | (refine Foot.cut2 x ?_ (fun hx => ?_); (on_goal 1 => subst x); (on_goal 2 => clear_value x)) | refine Foot.keepHost x ?_ | refine Foot.keepMbx x ?_ | clear_value x)
    | split

theorem State.wakeWindow_foot (s : State) (l : Leg) (a : Alloc) : Foot fp298 s (State.wakeWindow s l a) := by
  have h : Foot fp298 s s := Foot.refl
  unfold State.wakeWindow
  repeat' first
    | with_reducible assumption
    | with_reducible apply Foot.ite
    | ((with_reducible apply Foot.upd); (· rfl); (· rfl))
    | ((with_reducible apply Foot.step (State.schedule_foot ..)); (· rfl))
    | split

theorem State.accept_foot (s : State) (l : Leg) (id : Nat) (wave : Nat) (start : Nat) (len : Nat) (typ : Nat) (prof : Nat) (sfc : Nat) (fn : Nat) : Foot fp300 s (State.accept s l id wave start len typ prof sfc fn) := by
  have h : Foot fp300 s s := Foot.refl
  unfold State.accept
  repeat' first
    | with_reducible assumption
    | with_reducible apply Foot.ite
    | ((with_reducible apply Foot.inc); (· rfl); (· first | exact Or.inr rfl | exact Or.inl (Leg.n_lt _)))
    | ((with_reducible apply Foot.upd); (· rfl); (· rfl))
    | ((with_reducible apply Foot.step (State.idleExit_foot ..)); (· rfl))
    | ((with_reducible apply Foot.step (State.regWindow_foot ..)); (· rfl))
    | ((with_reducible apply Foot.step (State.wakeWindow_foot ..)); (· rfl))
    | (fail_if_no_progress extract_lets +onlyGivenNames x; (refine Foot.cut x ?_ (fun hx => ?_); (on_goal 1 => subst x); (on_goal 2 => clear_value x)))
    | split

theorem State.allocStruct_foot (s : State) (l : Leg) (w : Nat) : Foot fp301 s (State.allocStruct s l w) := by
  have h : Foot fp301 s s := Foot.refl
  unfold State.allocStruct
  repeat' first
    | with_reducible assumption
    | with_reducible apply Foot.ite
    | ((with_reducible apply Foot.inc); (· rfl); (· first | exact Or.inr rfl | exact Or.inl (Leg.n_lt _)))
    | ((with_reducible apply Foot.upd); (· rfl); (· rfl))
    | ((with_reducible apply Foot.step (State.pmCount_foot ..)); (· rfl))
    | ((with_reducible apply Foot.step (State.decideAll_foot ..)); (· rfl))
    | ((with_reducible apply Foot.step (State.accept_foot ..)); (· rfl))
    | (fail_if_no_progress extract_lets +onlyGivenNames x; first | (refine Foot.cut x ?_ (fun hx => ?_); (on_goal 1 => subst x); (on_goal 2 => clear_value x)) | (refine Foot.cut2 x ?_ (fun hx => ?_); (on_goal 1 => subst x); (on_goal 2 => clear_value x)) | refine Foot.keepHost x ?_ | refine Foot.keepMbx x ?_ | clear_value x)
    | split

theorem execAllocationStructure_foot (l : Leg) (word : BitVec 64) (s : State) (t' : State) (ht : execAllocationStructure l word s = .next t') : Foot fp301 s t' := by
  have h : Foot fp301 s s := Foot.refl
  rw [← Host.Outcome.next.inj ht]
  repeat' first
    | with_reducible assumption
    | ((with_reducible apply Foot.step (State.allocStruct_foot ..)); (· rfl))

theorem State.replaceAlloc_foot (s : State) (l : Leg) (a : Alloc) (start : Nat) (len : Nat) : Foot fp302 s (State.replaceAlloc s l a start len) := by
  have h : Foot fp302 s s := Foot.refl
  unfold State.replaceAlloc
  repeat' first
    | with_reducible assumption
    | with_reducible apply Foot.ite
    | ((with_reducible apply Foot.inc); (· rfl); (· first | exact Or.inr rfl | exact Or.inl (Leg.n_lt _)))
    | ((with_reducible apply Foot.upd); (· rfl); (· rfl))
    | ((with_reducible apply Foot.step (State.unwindAfter_foot ..)); (· rfl))
    | ((with_reducible apply Foot.step (State.decide1_foot ..)); (· rfl))
    | (fail_if_no_progress extract_lets +onlyGivenNames x; first | (refine Foot.cut x ?_ (fun hx => ?_); (on_goal 1 => subst x); (on_goal 2 => clear_value x)) | (refine Foot.cut2 x ?_ (fun hx => ?_); (on_goal 1 => subst x); (on_goal 2 => clear_value x)) | refine Foot.keepHost x ?_ | refine Foot.keepMbx x ?_ | clear_value x)
    | split

theorem State.revise_foot (s : State) (l : Leg) (mx : BitVec 384) : Foot fp303 s (State.revise s l mx) := by
  have h : Foot fp303 s s := Foot.refl
  unfold State.revise
  repeat' first
    | with_reducible assumption
    | with_reducible apply Foot.ite
    | ((with_reducible apply Foot.inc); (· rfl); (· first | exact Or.inr rfl | exact Or.inl (Leg.n_lt _)))
    | ((with_reducible apply Foot.step (State.once_foot ..)); (· rfl))
    | ((with_reducible apply Foot.step (State.unwindAlloc_foot ..)); (· rfl))
    | ((with_reducible apply Foot.step (State.setAlloc_foot ..)); (· rfl))
    | ((with_reducible apply Foot.step (State.attemptDark_foot ..)); (· rfl))
    | ((with_reducible apply Foot.step (State.replaceAlloc_foot ..)); (· rfl))
    | (fail_if_no_progress extract_lets +onlyGivenNames x; first | (refine Foot.cut x ?_ (fun hx => ?_); (on_goal 1 => subst x); (on_goal 2 => clear_value x)) | refine Foot.keepHost x ?_ | refine Foot.keepMbx x ?_ | clear_value x)
    | split

theorem execAllocRevise_foot (l : Leg) (msg : BitVec 384) (s : State) (t' : State) (ht : execAllocRevise l msg s = .next t') : Foot fp304 s t' := by
  have h : Foot fp304 s s := Foot.refl
  rw [← Host.Outcome.next.inj ht]
  repeat' first
    | with_reducible assumption
    | ((with_reducible apply State.onMsg_foot); (· rfl); (on_goal 1 => intro _ _))
    | ((with_reducible apply State.inFrame_foot); (· rfl); (on_goal 1 => intro _ _))
    | ((with_reducible apply Foot.step (State.revise_foot ..)); (· rfl))

end Sys2Proof.Machine
end

