-- ==== Sys2Proof/Laws/FootLongOps.lean ====
section
/-! SUPPORT. What each operation of Machine/LongOps.lean can change (`Foot`). -/

namespace Sys2Proof.Machine

def fp305 : Nat := 0x1008400000000000000000000001c0000000000000000000000000000000000000001c1000000000000000000000000000000080000000000000000000000000000000000000000000000000000000000000000000000000000000000000000000000000000000000000000000000000000000000000000000000000000000000
def fp306 : Nat := 0x102840c000000000000000000001c00000000000000000fe000000000000000000001c1000000000000000000000000000000080000000000000000000000000000000000000000000000000000000000000000000000000000000000000000000000000000000000000000000000000000000000000000000000000000000000
def fp307 : Nat := 0x1020400000000000000000000001c0000000000000000200100000000000000000001c1000000000000000000000000000000000000000000000000000000000000000000000000000000000000000000000000000000000000000000000000000000000000000000000000000000000000000000000000000000000000000000
def fp308 : Nat := 0x102840c000000000000000000001c0000000000000003afe100000000000000000001c1000000000000000000000000000000080000000000000000000000000000000000000000000000000000000000000000000000000000000000000000000000000000000000000000000000000000000000000000000000000000000000
def fp309 : Nat := 0x200000000000000000000000000000000000000000005000000000000000000000000000000000000000000000000000000000000000000000000000000000000000000000000000000000000000000000000000000000000000000000000000000000000000000000000000000000000000000000000000000000000000000

theorem State.setPm_foot (s : State) (l : Leg) (st : Nat) : Foot fp305 s (State.setPm s l st) := by
  have h : Foot fp305 s s := Foot.refl
  unfold State.setPm
  repeat' first
    | with_reducible assumption
    | with_reducible apply Foot.ite
    | ((with_reducible apply Foot.wr); (· rfl); (· first | exact Or.inr rfl | exact Or.inl (Leg.n_lt _)))
    | ((with_reducible apply Foot.step (State.event_foot ..)); (· rfl))
    | ((with_reducible apply Foot.step (State.markBins_foot ..)); (· rfl))
    | (fail_if_no_progress extract_lets +onlyGivenNames x; first | (refine Foot.cut x ?_ (fun hx => ?_); (on_goal 1 => subst x); (on_goal 2 => clear_value x)) | (refine Foot.cut2 x ?_ (fun hx => ?_); (on_goal 1 => subst x); (on_goal 2 => clear_value x)) | refine Foot.keepHost x ?_ | refine Foot.keepMbx x ?_ | clear_value x)
    | split

theorem State.testOver_foot (s : State) (l : Leg) : Foot fp305 s (State.testOver s l) := by
  have h : Foot fp305 s s := Foot.refl
  unfold State.testOver
  repeat' first
    | with_reducible assumption
    | with_reducible apply Foot.ite
    | ((with_reducible apply Foot.step (State.setPm_foot ..)); (· rfl))
    | split

theorem State.testBegin_foot (s : State) (l : Leg) : Foot fp305 s (State.testBegin s l) := by
  have h : Foot fp305 s s := Foot.refl
  unfold State.testBegin
  repeat' first
    | with_reducible assumption
    | ((with_reducible apply Foot.step (State.setPm_foot ..)); (· rfl))
    | (fail_if_no_progress extract_lets +onlyGivenNames x; first | (refine Foot.cut x ?_ (fun hx => ?_); (on_goal 1 => subst x); (on_goal 2 => clear_value x)) | refine Foot.keepHost x ?_ | refine Foot.keepMbx x ?_ | clear_value x)
    | fail_if_no_progress ((with_reducible apply Foot.setPm); (· rfl))

theorem State.testEnd_foot (s : State) (l : Leg) : Foot fp305 s (State.testEnd s l) := by
  have h : Foot fp305 s s := Foot.refl
  unfold State.testEnd
  repeat' first
    | with_reducible assumption
    | ((with_reducible apply Foot.step (State.testOver_foot ..)); (· rfl))
    | (fail_if_no_progress extract_lets +onlyGivenNames x; first | refine Foot.keepHost x ?_ | refine Foot.keepMbx x ?_ | clear_value x)
    | fail_if_no_progress ((with_reducible apply Foot.setPm); (· rfl))

theorem State.setOp_foot (s : State) (i : Nat) (f : LongOp → LongOp) : Foot fp241 s (State.setOp s i f) := by
  have h : Foot fp241 s s := Foot.refl
  unfold State.setOp
  repeat' first
    | with_reducible assumption
    | (fail_if_no_progress extract_lets +onlyGivenNames x; first | refine Foot.keepHost x ?_ | refine Foot.keepMbx x ?_ | clear_value x)
    | fail_if_no_progress ((with_reducible apply Foot.setAdm); (· rfl))

theorem State.freeOp_foot (s : State) (i : Nat) : Foot fp306 s (State.freeOp s i) := by
  have h : Foot fp306 s s := Foot.refl
  unfold State.freeOp
  repeat' first
    | with_reducible assumption
    | with_reducible apply Foot.ite
    | ((with_reducible apply Foot.wr); (· rfl); (· first | exact Or.inr rfl))
    | ((with_reducible apply Foot.upd); (· rfl); (· rfl))
    | ((with_reducible apply Foot.step (State.testEnd_foot ..)); (· rfl))
    | ((with_reducible apply Foot.step (State.setOp_foot ..)); (· rfl))
    | (fail_if_no_progress extract_lets +onlyGivenNames x; first | refine Foot.keepHost x ?_ | refine Foot.keepMbx x ?_ | clear_value x)
    | split

theorem State.admDone_foot (s : State) (cid : Nat) (status : Nat) (result : Nat) : Foot fp307 s (State.admDone s cid status result) := by
  have h : Foot fp307 s s := Foot.refl
  unfold State.admDone
  repeat' first
    | with_reducible assumption
    | with_reducible apply Foot.ite
    | ((with_reducible apply Foot.inc); (· rfl); (· first | exact Or.inr rfl))
    | ((with_reducible apply Foot.step (State.admPush_foot ..)); (· rfl))
    | (fail_if_no_progress extract_lets +onlyGivenNames x; first | (refine Foot.cut x ?_ (fun hx => ?_); (on_goal 1 => subst x); (on_goal 2 => clear_value x)) | (refine Foot.cut2 x ?_ (fun hx => ?_); (on_goal 1 => subst x); (on_goal 2 => clear_value x)) | refine Foot.keepHost x ?_ | refine Foot.keepMbx x ?_ | clear_value x)
    | split

theorem State.endWaits_foot (s : State) (i : Nat) : Foot fp307 s (State.endWaits s i) := by
  have h : Foot fp307 s s := Foot.refl
  unfold State.endWaits
  repeat' first
    | with_reducible assumption
    | ((with_reducible apply Foot.step (State.admDone_foot ..)); (· rfl))
    | ((with_reducible apply Foot.foldl); (on_goal 1 => intro _ _ _))
    | (fail_if_no_progress extract_lets +onlyGivenNames x; first | (refine Foot.cut x ?_ (fun hx => ?_); (on_goal 1 => subst x); (on_goal 2 => clear_value x)) | (refine Foot.cut2 x ?_ (fun hx => ?_); (on_goal 1 => subst x); (on_goal 2 => clear_value x)) | refine Foot.keepHost x ?_ | refine Foot.keepMbx x ?_ | clear_value x)

theorem State.endOp_foot (s : State) (i : Nat) (status : Nat) (result : Nat) : Foot fp308 s (State.endOp s i status result) := by
  have h : Foot fp308 s s := Foot.refl
  unfold State.endOp
  repeat' first
    | with_reducible assumption
    | with_reducible apply Foot.ite
    | ((with_reducible apply Foot.inc); (· rfl); (· first | exact Or.inr rfl))
    | ((with_reducible apply Foot.step (State.admPush_foot ..)); (· rfl))
    | ((with_reducible apply Foot.step (State.freeOp_foot ..)); (· rfl))
    | ((with_reducible apply Foot.step (State.endWaits_foot ..)); (· rfl))
    | (fail_if_no_progress extract_lets +onlyGivenNames x; first | (refine Foot.cut x ?_ (fun hx => ?_); (on_goal 1 => subst x); (on_goal 2 => clear_value x)) | (refine Foot.cut2 x ?_ (fun hx => ?_); (on_goal 1 => subst x); (on_goal 2 => clear_value x)) | refine Foot.keepHost x ?_ | refine Foot.keepMbx x ?_ | clear_value x)
    | split

theorem State.endLaser_foot (s : State) (l : Leg) : Foot fp308 s (State.endLaser s l) := by
  have h : Foot fp308 s s := Foot.refl
  unfold State.endLaser
  repeat' first
    | with_reducible assumption
    | with_reducible apply Foot.ite
    | ((with_reducible apply Foot.step (State.endOp_foot ..)); (· rfl))
    | ((with_reducible apply Foot.foldl); (on_goal 1 => intro _ _ _))
    | split

theorem State.exportRoll_foot (s : State) : Foot fp309 s (State.exportRoll s) := by
  have h : Foot fp309 s s := Foot.refl
  unfold State.exportRoll
  repeat' first
    | with_reducible assumption
    | with_reducible apply Foot.ite
    | ((with_reducible apply Foot.wr); (· rfl); (· first | exact Or.inr rfl))
    | ((with_reducible apply Foot.step (State.setOp_foot ..)); (· rfl))
    | ((with_reducible apply Foot.foldl); (on_goal 1 => intro _ _ _))
    | split

end Sys2Proof.Machine
end

