-- ==== Sys2Proof/Laws/FootProtect.lean ====
section
/-! SUPPORT. What each operation of Machine/Protect.lean can change (`Foot`). -/

namespace Sys2Proof.Machine

def fp310 : Nat := 0x1000400000000000000000000001c0000000000000000000000000000000000000001c1000000000000000000000000000000008000000408000000000000000000000000000000000000000000000000000000000000000000000000000000000000000000000000000000000000000000000000000000000000000000000000
def fp311 : Nat := 0x122eddc000000000000000000001c0000000000000003afe100000000000000000001c100000000000000000000001a0020600898fc00060f000000000002004050000000000000000000000000002186038000000000000000000000000000000008000000002180000000000334000f80009000001a80000000000000000000
def fp312 : Nat := 0x1004400000000000000000000001c0000000000000000000000000000000000000001c1000000000000000000000000000000004000000004000000000000000000000000000000000000000000000000000000000000000000000000000000000000000000000000000000000000000000000000000000000000000000000000
def fp313 : Nat := 0x1000400000000000000000000001c0000000000000000000000000000000000000001c1000000000000000000000000000000010000000040000000000000000000000000000000000000000000000000000000000000000000000000000000000000000000000000000000000000000000000000000000000000000000000000
def fp314 : Nat := 0x1000400000000000000000000001c0000000000000000000000000000000000000001c1000000000000000000000000000000000000000010000000000000000000000000000000000000000000000000000000000000000000000000000000000000000000000000000000000000000000000000000000000000000000000000
def fp315 : Nat := 0x122eddc000000000000000000001c0000000000000003afe100000000000000000001c100000000000000000000001a00206009d8fc00065f000000000002004050000000000000000000000000002186038000000000000000000000000000000008000000002180000000000334000f80009000001a80000000000000000000
def fp316 : Nat := 0x1000400000000000000000000001c0000000000000000000000000000000000000001c1000000000000000000000000000000000400000180000000000000000000000000000000000000000000000000000000000000000000000000000000000000000000000000000000000000000000000000000000000000000000000000
def fp317 : Nat := 0x800000000000000000000000000000000000000000000000000000000000000000000000000000000000000000000000000000000000000000000000000000000000000000000000000000000
def fp318 : Nat := 0xb00000000000000000000000000000000000000000000000000000000000000000000000000000000000000000000000000000000000000000000000000000c00000000000000000000000000
def fp319 : Nat := 0x12aeddc000000000000000000001c0000000000000003afe100000000000000000001c100000000000000000000001a00206009dffc0007df000000000002004050000000000000000000000000002186038000000000000000000000000000000008000000002180000000000334000f80009c00001a80000000000000000000
def fp320 : Nat := 0x1000400000000000000000000001c0000000000000000000000000000000000000001c1000000000000000000000000000000002000000000000000000000000000000000000000000000000000000000000000000000000000000000000000000000000000000000000000000000000000000000000000000000000000000000
def fp321 : Nat := 0x122eddc000000000000000000001c0000000000000003afe100000000000000000001c100000000000000000000001a00206008b8fc00060f000000000002004050000000000000000000000000002186038000000000000000000000000000000008000000002180000000000334000f80009000001a80000000000000000000
def fp322 : Nat := 0x122eddc000000000000000000001c0000000000000003afe100000000000000000001c100000000000000000000001a00206009f8fc00065f800000000002004050000000000000000000000000002186038000000000000000000000000000000008000000002180000000000334000f80009000001a80000000000000000000
def fp323 : Nat := 0x122eddc000000000000000000001c0000000000000003afe100000000000000000001c100000000000000000000001a00206009f8fc00067f800000000002004050000000000000000000000000002186038000000000000000000000000000000008000000002180000000000334000f80009000001a80000000000000000000
def fp324 : Nat := 0x126eddc000000000000000000001c0000000000000003afe100000000000000000001c100000000000000000000001a00206008b8fc00060f000000000002004050000000000000000000000000002186038000000000000000000000000000000008000000002180000000000334000f80009000001a89400000000000000000
def fp325 : Nat := 0x16aeddc000000000000000000001c0000000000000003afe100000000000000000001c100000000000000000000001a00206009fffc001fff800000000002004050000000000000000000000000002186038000000000000000000000000000000008000000002180000000000334000f80009c00001a80000000000000000000
def fp326 : Nat := 0x100840c000000000000000000001c0000000000000000000000000000000000000001c1000000000000000000000000002060000810000000000000000000000000000000000000000000000000000000000000000000000000000000000000000000000000000000000000000000000000000000000000000000000000000000
def fp327 : Nat := 0x100840c000000000000000000001c0000000000000000000000000000000000000001c1000000000000000000000000002060000820000000000000000000000000000000000000000000000000000000000000000000000000000000000000000000000000000000000000000000000000000000000000000000000000000000

theorem State.queueAlarm_foot (s : State) (about : Leg) : Foot fp1 s (State.queueAlarm s about) := by
  have h : Foot fp1 s s := Foot.refl
  unfold State.queueAlarm
  repeat' first
    | with_reducible assumption
    | with_reducible apply Foot.ite
    | ((with_reducible apply Foot.upd); (· rfl); (· rfl))
    | ((with_reducible apply Foot.foldl); (on_goal 1 => intro _ _ _))
    | (fail_if_no_progress extract_lets +onlyGivenNames x; first | (refine Foot.cut x ?_ (fun hx => ?_); (on_goal 1 => subst x); (on_goal 2 => clear_value x)) | (refine Foot.cut2 x ?_ (fun hx => ?_); (on_goal 1 => subst x); (on_goal 2 => clear_value x)) | refine Foot.keepHost x ?_ | refine Foot.keepMbx x ?_ | clear_value x)
    | split

theorem State.settlePm_foot (s : State) (l : Leg) : Foot fp305 s (State.settlePm s l) := by
  have h : Foot fp305 s s := Foot.refl
  unfold State.settlePm
  repeat' first
    | with_reducible assumption
    | with_reducible apply Foot.ite
    | ((with_reducible apply Foot.step (State.setPm_foot ..)); (· rfl))
    | (fail_if_no_progress extract_lets +onlyGivenNames x; first | refine Foot.keepHost x ?_ | refine Foot.keepMbx x ?_ | clear_value x)
    | fail_if_no_progress ((with_reducible apply Foot.setPm); (· rfl))
    | split

theorem State.moveReqs_foot (s : State) (old : Leg) (new : Leg) : Foot fp26 s (State.moveReqs s old new) := by
  have h : Foot fp26 s s := Foot.refl
  unfold State.moveReqs
  repeat' first
    | with_reducible assumption
    | ((with_reducible apply Foot.upd); (· rfl); (· rfl))
    | ((with_reducible apply Foot.step (State.resend_foot ..)); (· rfl))
    | ((with_reducible apply Foot.foldl); (on_goal 1 => intro _ _ _))

theorem State.wtrCancel_foot (s : State) : Foot fp310 s (State.wtrCancel s) := by
  have h : Foot fp310 s s := Foot.refl
  unfold State.wtrCancel
  repeat' first
    | with_reducible assumption
    | with_reducible apply Foot.ite
    | ((with_reducible apply Foot.wr); (· rfl); (· first | exact Or.inr rfl))
    | ((with_reducible apply Foot.inc); (· rfl); (· first | exact Or.inr rfl))
    | ((with_reducible apply Foot.step (State.event_foot ..)); (· rfl))
    | split

theorem State.doSwitch_foot (s : State) (cause : Nat) (new : Leg) : Foot fp311 s (State.doSwitch s cause new) := by
  have h : Foot fp311 s s := Foot.refl
  unfold State.doSwitch
  repeat' first
    | with_reducible assumption
    | ((with_reducible apply Foot.wr); (· rfl); (· first | exact Or.inr rfl | exact Or.inl (Leg.n_lt _)))
    | ((with_reducible apply Foot.inc); (· rfl); (· first | exact Or.inr rfl))
    | ((with_reducible apply Foot.step (State.event_foot ..)); (· rfl))
    | ((with_reducible apply Foot.step (State.markBins_foot ..)); (· rfl))
    | ((with_reducible apply Foot.step (State.fallback_foot ..)); (· rfl))
    | ((with_reducible apply Foot.step (State.unwindAll_foot ..)); (· rfl))
    | ((with_reducible apply Foot.step (State.settleTime_foot ..)); (· rfl))
    | ((with_reducible apply Foot.step (State.commitSwitch_foot ..)); (· rfl))
    | ((with_reducible apply Foot.step (State.swapDrop_foot ..)); (· rfl))
    | ((with_reducible apply Foot.step (State.settleSluice_foot ..)); (· rfl))
    | ((with_reducible apply Foot.step (State.settleLanes_foot ..)); (· rfl))
    | ((with_reducible apply Foot.step (State.redecide_foot ..)); (· rfl))
    | ((with_reducible apply Foot.step (State.endLaser_foot ..)); (· rfl))
    | ((with_reducible apply Foot.step (State.moveReqs_foot ..)); (· rfl))
    | ((with_reducible apply Foot.step (State.wtrCancel_foot ..)); (· rfl))
    | (fail_if_no_progress extract_lets +onlyGivenNames x; first | refine Foot.keepHost x ?_ | refine Foot.keepMbx x ?_ | clear_value x)
    | fail_if_no_progress ((with_reducible apply Foot.setProt); (· rfl))

theorem State.settleHold_foot (s : State) : Foot fp312 s (State.settleHold s) := by
  have h : Foot fp312 s s := Foot.refl
  unfold State.settleHold
  repeat' first
    | with_reducible assumption
    | with_reducible apply Foot.ite
    | ((with_reducible apply Foot.wr); (· rfl); (· first | exact Or.inr rfl))
    | ((with_reducible apply Foot.inc); (· rfl); (· first | exact Or.inr rfl))
    | ((with_reducible apply Foot.step (State.event_foot ..)); (· rfl))
    | (fail_if_no_progress extract_lets +onlyGivenNames x; first | refine Foot.keepHost x ?_ | refine Foot.keepMbx x ?_ | clear_value x)
    | fail_if_no_progress ((with_reducible apply Foot.setProt); (· rfl))
    | split

theorem State.settleNoProt_foot (s : State) : Foot fp313 s (State.settleNoProt s) := by
  have h : Foot fp313 s s := Foot.refl
  unfold State.settleNoProt
  repeat' first
    | with_reducible assumption
    | with_reducible apply Foot.ite
    | ((with_reducible apply Foot.wr); (· rfl); (· first | exact Or.inr rfl))
    | ((with_reducible apply Foot.inc); (· rfl); (· first | exact Or.inr rfl))
    | ((with_reducible apply Foot.step (State.event_foot ..)); (· rfl))
    | split

theorem State.settleForced_foot (s : State) : Foot fp314 s (State.settleForced s) := by
  have h : Foot fp314 s s := Foot.refl
  unfold State.settleForced
  repeat' first
    | with_reducible assumption
    | with_reducible apply Foot.ite
    | ((with_reducible apply Foot.wr); (· rfl); (· first | exact Or.inr rfl))
    | ((with_reducible apply Foot.step (State.event_foot ..)); (· rfl))
    | (fail_if_no_progress extract_lets +onlyGivenNames x; first | (refine Foot.cut x ?_ (fun hx => ?_); (on_goal 1 => subst x); (on_goal 2 => clear_value x)) | (refine Foot.cut2 x ?_ (fun hx => ?_); (on_goal 1 => subst x); (on_goal 2 => clear_value x)) | refine Foot.keepHost x ?_ | refine Foot.keepMbx x ?_ | clear_value x)
    | split

theorem State.settleWtr_foot (s : State) : Foot fp310 s (State.settleWtr s) := by
  have h : Foot fp310 s s := Foot.refl
  unfold State.settleWtr
  repeat' first
    | with_reducible assumption
    | with_reducible apply Foot.ite
    | ((with_reducible apply Foot.wr); (· rfl); (· first | exact Or.inr rfl))
    | ((with_reducible apply Foot.step (State.event_foot ..)); (· rfl))
    | ((with_reducible apply Foot.step (State.wtrCancel_foot ..)); (· rfl))
    | (fail_if_no_progress extract_lets +onlyGivenNames x; first | (refine Foot.cut x ?_ (fun hx => ?_); (on_goal 1 => subst x); (on_goal 2 => clear_value x)) | (refine Foot.cut2 x ?_ (fun hx => ?_); (on_goal 1 => subst x); (on_goal 2 => clear_value x)) | refine Foot.keepHost x ?_ | refine Foot.keepMbx x ?_ | clear_value x)
    | split

theorem State.settleProt_foot (s : State) : Foot fp315 s (State.settleProt s) := by
  have h : Foot fp315 s s := Foot.refl
  unfold State.settleProt
  repeat' first
    | with_reducible assumption
    | with_reducible apply Foot.ite
    | ((with_reducible apply Foot.step (State.doSwitch_foot ..)); (· rfl))
    | ((with_reducible apply Foot.step (State.settleHold_foot ..)); (· rfl))
    | ((with_reducible apply Foot.step (State.settleNoProt_foot ..)); (· rfl))
    | ((with_reducible apply Foot.step (State.settleForced_foot ..)); (· rfl))
    | ((with_reducible apply Foot.step (State.settleWtr_foot ..)); (· rfl))
    | (fail_if_no_progress extract_lets +onlyGivenNames x; first | (refine Foot.cut x ?_ (fun hx => ?_); (on_goal 1 => subst x); (on_goal 2 => clear_value x)) | (refine Foot.cut2 x ?_ (fun hx => ?_); (on_goal 1 => subst x); (on_goal 2 => clear_value x)) | refine Foot.keepHost x ?_ | refine Foot.keepMbx x ?_ | clear_value x)
    | split

theorem State.settleAvail_foot (s : State) (l : Leg) : Foot fp316 s (State.settleAvail s l) := by
  have h : Foot fp316 s s := Foot.refl
  unfold State.settleAvail
  repeat' first
    | with_reducible assumption
    | with_reducible apply Foot.ite
    | ((with_reducible apply Foot.wr); (· rfl); (· first | exact Or.inr rfl | exact Or.inl (Leg.n_lt _)))
    | ((with_reducible apply Foot.step (State.event_foot ..)); (· rfl))
    | (fail_if_no_progress extract_lets +onlyGivenNames x; first | refine Foot.keepHost x ?_ | refine Foot.keepMbx x ?_ | clear_value x)
    | split

theorem State.followLatch_foot {m : Nat} {s t : State} {l : Leg} {Q R : Row} {p : Nat} (hr : rowIn m R = true) (hm : fp317 ||| m = m)
    (h : Foot m s t) : Foot m s (State.followLatch t l Q R p) := by
  have hw : ∀ v, Foot m s (t.wr R v l.n) := fun v => Foot.wr hr (Or.inl (Leg.n_lt _)) h
  have hb : ∀ u, Foot fp317 u (u.setBit Reg.PROT_DEF_LATCHED l.n p) := fun u => State.setBit_foot rfl (Or.inl (Leg.n_lt _)) Foot.refl
  unfold State.followLatch
  exact Foot.ite (hw _) (Foot.ite h (Foot.step (hb _) hm (hw _)))

theorem State.settleLatches_foot (s : State) (l : Leg) : Foot fp318 s (State.settleLatches s l) := by
  have h : Foot fp318 s s := Foot.refl
  unfold State.settleLatches
  repeat' first
    | with_reducible assumption
    | ((with_reducible apply State.followLatch_foot); (· rfl); (· rfl))

theorem State.settleSet_foot (s : State) (l : Leg) : Foot fp11 s (State.settleSet s l) := by
  have h : Foot fp11 s s := Foot.refl
  unfold State.settleSet
  repeat' first
    | with_reducible assumption
    | with_reducible apply Foot.ite
    | ((with_reducible apply Foot.upd); (· rfl); (· rfl))
    | ((with_reducible apply Foot.step (State.event_foot ..)); (· rfl))
    | ((with_reducible apply Foot.step (State.queueAlarm_foot ..)); (· rfl))
    | (fail_if_no_progress extract_lets +onlyGivenNames x; first | (refine Foot.cut x ?_ (fun hx => ?_); (on_goal 1 => subst x); (on_goal 2 => clear_value x)) | (refine Foot.cut2 x ?_ (fun hx => ?_); (on_goal 1 => subst x); (on_goal 2 => clear_value x)) | refine Foot.keepHost x ?_ | refine Foot.keepMbx x ?_ | clear_value x)
    | split

theorem State.settleDef_foot (s : State) (l : Leg) : Foot fp319 s (State.settleDef s l) := by
  have h : Foot fp319 s s := Foot.refl
  unfold State.settleDef
  repeat' first
    | with_reducible assumption
    | with_reducible apply Foot.ite
    | ((with_reducible apply Foot.step (State.wakeCause_foot ..)); (· rfl))
    | ((with_reducible apply Foot.step (State.settleTime_foot ..)); (· rfl))
    | ((with_reducible apply Foot.step (State.settleSluice_foot ..)); (· rfl))
    | ((with_reducible apply Foot.step (State.settlePm_foot ..)); (· rfl))
    | ((with_reducible apply Foot.step (State.settleProt_foot ..)); (· rfl))
    | ((with_reducible apply Foot.step (State.settleAvail_foot ..)); (· rfl))
    | ((with_reducible apply Foot.step (State.settleLatches_foot ..)); (· rfl))
    | ((with_reducible apply Foot.step (State.settleSet_foot ..)); (· rfl))
    | (fail_if_no_progress extract_lets +onlyGivenNames x; first | (refine Foot.cut x ?_ (fun hx => ?_); (on_goal 1 => subst x); (on_goal 2 => clear_value x)) | (refine Foot.cut2 x ?_ (fun hx => ?_); (on_goal 1 => subst x); (on_goal 2 => clear_value x)) | refine Foot.keepHost x ?_ | refine Foot.keepMbx x ?_ | clear_value x)
    | split

theorem State.switchRefused_foot (s : State) : Foot fp320 s (State.switchRefused s) := by
  have h : Foot fp320 s s := Foot.refl
  unfold State.switchRefused
  repeat' first
    | with_reducible assumption
    | ((with_reducible apply Foot.inc); (· rfl); (· first | exact Or.inr rfl))
    | ((with_reducible apply Foot.step (State.event_foot ..)); (· rfl))

theorem State.answer_foot (s : State) (ack : Option (Leg × Nat)) (st : Nat) : Foot fp1 s (State.answer s ack st) := by
  have h : Foot fp1 s s := Foot.refl
  unfold State.answer
  repeat' first
    | with_reducible assumption
    | with_reducible apply Foot.ite
    | ((with_reducible apply Foot.upd); (· rfl); (· rfl))
    | ((with_reducible apply Foot.step (State.ack_foot ..)); (· rfl))
    | (fail_if_no_progress extract_lets +onlyGivenNames x; first | (refine Foot.cut x ?_ (fun hx => ?_); (on_goal 1 => subst x); (on_goal 2 => clear_value x)) | (refine Foot.cut2 x ?_ (fun hx => ?_); (on_goal 1 => subst x); (on_goal 2 => clear_value x)) | refine Foot.keepHost x ?_ | refine Foot.keepMbx x ?_ | clear_value x)
    | split

theorem State.oneShot_foot (s : State) (r : ProtReq) : Foot fp321 s (State.oneShot s r).2 := by
  have h : Foot fp321 s s := Foot.refl
  unfold State.oneShot
  repeat' first
    | with_reducible assumption
    | with_reducible apply Foot.ite
    | with_reducible apply Foot.ite2
    | ((with_reducible apply Foot.step (State.event_foot ..)); (· rfl))
    | ((with_reducible apply Foot.step (State.doSwitch_foot ..)); (· rfl))
    | ((with_reducible apply Foot.step (State.switchRefused_foot ..)); (· rfl))
    | (fail_if_no_progress extract_lets +onlyGivenNames x; first | refine Foot.keepHost x ?_ | refine Foot.keepMbx x ?_ | clear_value x)
    | fail_if_no_progress ((with_reducible apply Foot.setProt); (· rfl))
    | split

theorem State.request_foot (s : State) (r : ProtReq) : Foot fp321 s (State.request s r) := by
  have h : Foot fp321 s s := Foot.refl
  unfold State.request
  repeat' first
    | with_reducible assumption
    | with_reducible apply Foot.ite
    | ((with_reducible apply Foot.step (State.answer_foot ..)); (· rfl))
    | ((with_reducible apply Foot.step (State.oneShot_foot ..)); (· rfl))
    | (fail_if_no_progress extract_lets +onlyGivenNames x; first | refine Foot.keepHost x ?_ | refine Foot.keepMbx x ?_ | clear_value x)
    | fail_if_no_progress ((with_reducible apply Foot.setProt); (· rfl))
    | (rename_i he; refine Foot.cut _ (Foot.ofPair he ?_) (fun hx => ?_); (on_goal 2 => clear he))
    | split

theorem State.protEval_foot (s : State) (cause : Nat) (l : Leg) : Foot fp322 s (State.protEval s cause l) := by
  have h : Foot fp322 s s := Foot.refl
  unfold State.protEval
  repeat' first
    | with_reducible assumption
    | with_reducible apply Foot.ite
    | ((with_reducible apply Foot.wr); (· rfl); (· first | exact Or.inr rfl))
    | ((with_reducible apply Foot.step (State.wtrCancel_foot ..)); (· rfl))
    | ((with_reducible apply Foot.step (State.doSwitch_foot ..)); (· rfl))
    | ((with_reducible apply Foot.step (State.settleProt_foot ..)); (· rfl))
    | ((with_reducible apply Foot.step (State.switchRefused_foot ..)); (· rfl))
    | ((with_reducible apply Foot.step (State.oneShot_foot ..)); (· rfl))
    | (fail_if_no_progress extract_lets +onlyGivenNames x; first | refine Foot.keepHost x ?_ | refine Foot.keepMbx x ?_ | clear_value x)
    | (rename_i he; refine Foot.cut _ (Foot.ofPair he ?_) (fun hx => ?_); (on_goal 2 => clear he))
    | split

theorem State.protCmd_foot (s : State) (cause : Nat) (l : Leg) : Foot fp323 s (State.protCmd s cause l) := by
  have h : Foot fp323 s s := Foot.refl
  unfold State.protCmd
  repeat' first
    | with_reducible assumption
    | with_reducible apply Foot.ite
    | ((with_reducible apply Foot.wr); (· rfl); (· first | exact Or.inr rfl))
    | ((with_reducible apply Foot.step (State.protEval_foot ..)); (· rfl))
    | (fail_if_no_progress extract_lets +onlyGivenNames x; first | (refine Foot.cut x ?_ (fun hx => ?_); (on_goal 1 => subst x); (on_goal 2 => clear_value x)) | refine Foot.keepHost x ?_ | refine Foot.keepMbx x ?_ | clear_value x)
    | fail_if_no_progress ((with_reducible apply Foot.setProt); (· rfl))
    | split

theorem State.revert_foot (s : State) : Foot fp321 s (State.revert s) := by
  have h : Foot fp321 s s := Foot.refl
  unfold State.revert
  repeat' first
    | with_reducible assumption
    | ((with_reducible apply Foot.step (State.request_foot ..)); (· rfl))
    | (fail_if_no_progress extract_lets +onlyGivenNames x; first | refine Foot.keepHost x ?_ | refine Foot.keepMbx x ?_ | clear_value x)
    | fail_if_no_progress ((with_reducible apply Foot.setProt); (· rfl))

theorem State.wtrExpiry_foot (s : State) : Foot fp321 s (State.wtrExpiry s) := by
  have h : Foot fp321 s s := Foot.refl
  unfold State.wtrExpiry
  repeat' first
    | with_reducible assumption
    | with_reducible apply Foot.ite
    | ((with_reducible apply Foot.wr); (· rfl); (· first | exact Or.inr rfl))
    | ((with_reducible apply Foot.step (State.event_foot ..)); (· rfl))
    | ((with_reducible apply Foot.step (State.revert_foot ..)); (· rfl))
    | (fail_if_no_progress extract_lets +onlyGivenNames x; first | refine Foot.keepHost x ?_ | refine Foot.keepMbx x ?_ | clear_value x)
    | fail_if_no_progress ((with_reducible apply Foot.setProt); (· rfl))
    | split

theorem State.protDrain_foot (q : List (Nat × Leg)) (s : State) : Foot fp323 s (State.protDrain q s) := by
  induction q generalizing s with
  | nil => exact Foot.setProt rfl (Foot.wr rfl (Or.inr rfl) Foot.refl)
  | cons p r ih =>
    obtain ⟨c, l⟩ := p
    unfold State.protDrain
    exact Foot.ite (Foot.setProt rfl Foot.refl) (Foot.step (ih ..) rfl ((State.protEval_foot ..).mono rfl))

theorem State.protResume_foot (s : State) : Foot fp323 s (State.protResume s) := by
  have h : Foot fp323 s s := Foot.refl
  unfold State.protResume
  repeat' first
    | with_reducible assumption
    | with_reducible apply Foot.ite
    | ((with_reducible apply Foot.step (State.settleProt_foot ..)); (· rfl))
    | ((with_reducible apply Foot.step (State.revert_foot ..)); (· rfl))
    | ((with_reducible apply Foot.step (State.protDrain_foot ..)); (· rfl))
    | (fail_if_no_progress extract_lets +onlyGivenNames x; first | refine Foot.keepHost x ?_ | refine Foot.keepMbx x ?_ | clear_value x)
    | fail_if_no_progress ((with_reducible apply Foot.setProt); (· rfl))
    | split

theorem execClear_foot (s : State) (t' : State) (ht : execClear s = .next t') : Foot fp323 s t' := by
  have h : Foot fp323 s s := Foot.refl
  rw [← Host.Outcome.next.inj ht]
  repeat' first
    | with_reducible assumption
    | ((with_reducible apply Foot.step (State.protCmd_foot ..)); (· rfl))

theorem execForced_foot (l : Leg) (s : State) (t' : State) (ht : execForced l s = .next t') : Foot fp323 s t' := by
  have h : Foot fp323 s s := Foot.refl
  rw [← Host.Outcome.next.inj ht]
  repeat' first
    | with_reducible assumption
    | ((with_reducible apply Foot.step (State.protCmd_foot ..)); (· rfl))

theorem execManual_foot (l : Leg) (s : State) (t' : State) (ht : execManual l s = .next t') : Foot fp323 s t' := by
  have h : Foot fp323 s s := Foot.refl
  rw [← Host.Outcome.next.inj ht]
  repeat' first
    | with_reducible assumption
    | ((with_reducible apply Foot.step (State.protCmd_foot ..)); (· rfl))

theorem execFwForced_foot (l : Leg) (s : State) (t' : State) (ht : execFwForced l s = .next t') : Foot fp321 s t' := by
  have h : Foot fp321 s s := Foot.refl
  rw [← Host.Outcome.next.inj ht]
  repeat' first
    | with_reducible assumption
    | with_reducible apply Foot.ite
    | ((with_reducible apply Foot.step (State.request_foot ..)); (· rfl))
    | split

theorem State.protSwitch_foot (s : State) (l : Leg) (mx : BitVec 384) : Foot fp324 s (State.protSwitch s l mx) := by
  have h : Foot fp324 s s := Foot.refl
  unfold State.protSwitch
  repeat' first
    | with_reducible assumption
    | with_reducible apply Foot.ite
    | ((with_reducible apply State.onMsg_foot); (· rfl); (on_goal 1 => intro _ _))
    | ((with_reducible apply State.fwMsg_foot); (· rfl); (on_goal 1 => intro _ _))
    | ((with_reducible apply Foot.step (State.oneShot_foot ..)); (· rfl))
    | (fail_if_no_progress extract_lets +onlyGivenNames x; first | refine Foot.keepHost x ?_ | refine Foot.keepMbx x ?_ | clear_value x)
    | fail_if_no_progress ((with_reducible apply Foot.setProt); (· rfl))
    | (rename_i he; refine Foot.cut _ (Foot.ofPair he ?_) (fun hx => ?_); (on_goal 2 => clear he))
    | split

theorem execProtSwitch_foot (l : Leg) (msg : BitVec 384) (s : State) (t' : State) (ht : execProtSwitch l msg s = .next t') : Foot fp324 s t' := by
  have h : Foot fp324 s s := Foot.refl
  rw [← Host.Outcome.next.inj ht]
  repeat' first
    | with_reducible assumption
    | ((with_reducible apply State.inFrame_foot); (· rfl); (on_goal 1 => intro _ _))
    | ((with_reducible apply Foot.step (State.protSwitch_foot ..)); (· rfl))

theorem State.roleNotices_foot (s : State) : Foot fp103 s (State.roleNotices s) := by
  have h : Foot fp103 s s := Foot.refl
  unfold State.roleNotices
  repeat' first
    | with_reducible assumption
    | with_reducible apply Foot.ite
    | ((with_reducible apply Foot.step (State.sendReq_foot ..)); (· rfl))
    | ((with_reducible apply Foot.foldl); (on_goal 1 => intro _ _ _))
    | (fail_if_no_progress extract_lets +onlyGivenNames x; first | (refine Foot.cut x ?_ (fun hx => ?_); (on_goal 1 => subst x); (on_goal 2 => clear_value x)) | (refine Foot.cut2 x ?_ (fun hx => ?_); (on_goal 1 => subst x); (on_goal 2 => clear_value x)) | refine Foot.keepHost x ?_ | refine Foot.keepMbx x ?_ | clear_value x)
    | split

theorem State.switchDone_foot (s : State) : Foot fp325 s (State.switchDone s) := by
  have h : Foot fp325 s s := Foot.refl
  unfold State.switchDone
  repeat' first
    | with_reducible assumption
    | with_reducible apply Foot.ite
    | ((with_reducible apply Foot.wr); (· rfl); (· first | exact Or.inr rfl))
    | ((with_reducible apply Foot.wr2); (· rfl); (· rfl); (· first | exact Or.inr rfl); (· first | exact Or.inr rfl))
    | ((with_reducible apply Foot.step (State.updWave_foot ..)); (· rfl))
    | ((with_reducible apply Foot.step (State.event_foot ..)); (· rfl))
    | ((with_reducible apply Foot.step (State.settleDef_foot ..)); (· rfl))
    | ((with_reducible apply Foot.step (State.answer_foot ..)); (· rfl))
    | ((with_reducible apply Foot.step (State.request_foot ..)); (· rfl))
    | ((with_reducible apply Foot.step (State.protResume_foot ..)); (· rfl))
    | ((with_reducible apply Foot.step (State.roleNotices_foot ..)); (· rfl))
    | ((with_reducible apply Foot.foldl); (on_goal 1 => intro _ _ _))
    | (fail_if_no_progress extract_lets +onlyGivenNames x; first | refine Foot.keepHost x ?_ | refine Foot.keepMbx x ?_ | clear_value x)
    | fail_if_no_progress ((with_reducible apply Foot.setProt); (· rfl))
    | split

theorem execSwitchDone_foot (s : State) (t' : State) (ht : execSwitchDone s = .next t') : Foot fp325 s t' := by
  have h : Foot fp325 s s := Foot.refl
  rw [← Host.Outcome.next.inj ht]
  repeat' first
    | with_reducible assumption
    | ((with_reducible apply Foot.step (State.switchDone_foot ..)); (· rfl))

theorem execHoldoffExpiry_foot (s : State) (t' : State) (ht : execHoldoffExpiry s = .next t') : Foot fp315 s t' := by
  have h : Foot fp315 s s := Foot.refl
  rw [← Host.Outcome.next.inj ht]
  repeat' first
    | with_reducible assumption
    | with_reducible apply Foot.ite
    | ((with_reducible apply Foot.wr); (· rfl); (· first | exact Or.inr rfl))
    | ((with_reducible apply Foot.step (State.settleProt_foot ..)); (· rfl))
    | (fail_if_no_progress extract_lets +onlyGivenNames x; first | (refine Foot.cut x ?_ (fun hx => ?_); (on_goal 1 => subst x); (on_goal 2 => clear_value x)) | refine Foot.keepHost x ?_ | refine Foot.keepMbx x ?_ | clear_value x)
    | fail_if_no_progress ((with_reducible apply Foot.setProt); (· rfl))
    | split

theorem execWtrExpiry_foot (s : State) (t' : State) (ht : execWtrExpiry s = .next t') : Foot fp321 s t' := by
  have h : Foot fp321 s s := Foot.refl
  rw [← Host.Outcome.next.inj ht]
  repeat' first
    | with_reducible assumption
    | ((with_reducible apply Foot.step (State.wtrExpiry_foot ..)); (· rfl))

theorem execLosDeclare_foot (l : Leg) (w : Nat) (s : State) (t' : State) (ht : execLosDeclare l w s = .next t') : Foot fp319 s t' := by
  have h : Foot fp319 s s := Foot.refl
  rw [← Host.Outcome.next.inj ht]
  repeat' first
    | with_reducible assumption
    | with_reducible apply Foot.ite
    | ((with_reducible apply State.declare_foot); (· rfl); (· rfl))
    | ((with_reducible apply Foot.step (State.settleDef_foot ..)); (· rfl))
    | split

theorem execLosClear_foot (l : Leg) (w : Nat) (s : State) (t' : State) (ht : execLosClear l w s = .next t') : Foot fp319 s t' := by
  have h : Foot fp319 s s := Foot.refl
  rw [← Host.Outcome.next.inj ht]
  repeat' first
    | with_reducible assumption
    | with_reducible apply Foot.ite
    | ((with_reducible apply State.clearDefect_foot); (· rfl); (· rfl))
    | ((with_reducible apply Foot.step (State.settleDef_foot ..)); (· rfl))
    | split

theorem State.sfStep_foot (s : State) (l : Leg) (w : Nat) (n : Nat) : Foot fp326 s (State.sfStep s l w n) := by
  have h : Foot fp326 s s := Foot.refl
  unfold State.sfStep
  repeat' first
    | with_reducible assumption
    | with_reducible apply Foot.ite
    | ((with_reducible apply Foot.step (State.updWave_foot ..)); (· rfl))
    | ((with_reducible apply State.declare_foot); (· rfl); (· rfl))
    | ((with_reducible apply State.clearDefect_foot); (· rfl); (· rfl))
    | (fail_if_no_progress extract_lets +onlyGivenNames x; first | (refine Foot.cut x ?_ (fun hx => ?_); (on_goal 1 => subst x); (on_goal 2 => clear_value x)) | (refine Foot.cut2 x ?_ (fun hx => ?_); (on_goal 1 => subst x); (on_goal 2 => clear_value x)) | refine Foot.keepHost x ?_ | refine Foot.keepMbx x ?_ | clear_value x)
    | split

theorem State.sdStep_foot (s : State) (l : Leg) (w : Nat) (n : Nat) : Foot fp327 s (State.sdStep s l w n) := by
  have h : Foot fp327 s s := Foot.refl
  unfold State.sdStep
  repeat' first
    | with_reducible assumption
    | with_reducible apply Foot.ite
    | ((with_reducible apply Foot.step (State.updWave_foot ..)); (· rfl))
    | ((with_reducible apply State.declare_foot); (· rfl); (· rfl))
    | ((with_reducible apply State.clearDefect_foot); (· rfl); (· rfl))
    | ((with_reducible apply Foot.foldl); (on_goal 1 => intro _ _ _))
    | (fail_if_no_progress extract_lets +onlyGivenNames x; first | (refine Foot.cut x ?_ (fun hx => ?_); (on_goal 1 => subst x); (on_goal 2 => clear_value x)) | (refine Foot.cut2 x ?_ (fun hx => ?_); (on_goal 1 => subst x); (on_goal 2 => clear_value x)) | refine Foot.keepHost x ?_ | refine Foot.keepMbx x ?_ | clear_value x)
    | split

theorem execSfEvaluate_foot (l : Leg) (w : Nat) (s : State) (t' : State) (ht : execSfEvaluate l w s = .next t') : Foot fp319 s t' := by
  have h : Foot fp319 s s := Foot.refl
  rw [← Host.Outcome.next.inj ht]
  repeat' first
    | with_reducible assumption
    | with_reducible apply Foot.ite
    | ((with_reducible apply Foot.step (State.updWave_foot ..)); (· rfl))
    | ((with_reducible apply Foot.step (State.settleDef_foot ..)); (· rfl))
    | ((with_reducible apply Foot.step (State.sfStep_foot ..)); (· rfl))
    | ((with_reducible apply Foot.step (State.sdStep_foot ..)); (· rfl))
    | (fail_if_no_progress extract_lets +onlyGivenNames x; first | (refine Foot.cut x ?_ (fun hx => ?_); (on_goal 1 => subst x); (on_goal 2 => clear_value x)) | (refine Foot.cut2 x ?_ (fun hx => ?_); (on_goal 1 => subst x); (on_goal 2 => clear_value x)) | refine Foot.keepHost x ?_ | refine Foot.keepMbx x ?_ | clear_value x)
    | split

end Sys2Proof.Machine
end

