-- ==== Sys2Proof/Laws/FootMonitor.lean ====
section
/-! SUPPORT. What each operation of Machine/Monitor.lean can change (`Foot`). -/

namespace Sys2Proof.Machine

def fp328 : Nat := 0x1008400000000000000000000001c0000000000000000000000000000000000000001c1000000000000000000000000000000180000000000000000000000000000000000000000000000000000000000000000000000000000000000000000000000000000000000000000000000000000000000000000000000000000000000
def fp329 : Nat := 0x100840c000000000000000000001c0000000000000000000000000000000000000001c1000000000000000000000000000000080000000000000000000000000000000000000000000000000000000000000000000000000000000000000000000000000000000000000000000000000000000000000000000000000000000000
def fp330 : Nat := 0x100840c000000000000000000001c0000000000000000000000000000000000000001c1000000000000000000000000000000080000000400000000000000000000000000000000000000000000000000000000000000000000000000000000000000000000000000000000000000000000000000000000000000000000000000
def fp331 : Nat := 0x1000400000000000000000000001c0000000000000000000000000000000000000001c1000000000000000000000000000780200000000000000000000000000000000000000000000000000000000000000000000000000000000000000000000000000000000000000000000000000000000000000000000000000000000000
def fp332 : Nat := 0x1008400000000000000000000001c0000000000000000000000000000000000000001c1000000000000000000000000000780200000000000000000000000000000000000000000000000000000000000000000000000000000000000000000000000000000000000000000000000000000000000000000000000000000000000
def fp333 : Nat := 0x1028400000000000000000000001c0000000000000000050000000000000000000001c1000000000000000000000000001800000000800000000000000000000000000000000000000000000000000000000000000000000000000000000000000000000000000000000000000000000000000000000000000000000000000000
def fp334 : Nat := 0x1000000000000000000000000000000000000000000000000000000000000000000000000000000000000000000000bc00000000000000000000000000000000000000000000000000000000000000000000000000000000000000000000000000000000000000000000000000000000000000000000000000000000000

theorem State.pmAcquire_foot (s : State) (l : Leg) : Foot fp305 s (State.pmAcquire s l) := by
  have h : Foot fp305 s s := Foot.refl
  unfold State.pmAcquire
  repeat' first
    | with_reducible assumption
    | ((with_reducible apply Foot.step (State.setPm_foot ..)); (· rfl))

theorem State.pmTest_foot (s : State) (l : Leg) (v : Nat) : Foot fp328 s (State.pmTest s l v) := by
  have h : Foot fp328 s s := Foot.refl
  unfold State.pmTest
  repeat' first
    | with_reducible assumption
    | with_reducible apply Foot.ite
    | ((with_reducible apply Foot.wr); (· rfl); (· first | exact Or.inr rfl | exact Or.inl (Leg.n_lt _)))
    | ((with_reducible apply Foot.step (State.setPm_foot ..)); (· rfl))
    | ((with_reducible apply Foot.step (State.testOver_foot ..)); (· rfl))
    | (fail_if_no_progress extract_lets +onlyGivenNames x; first | (refine Foot.cut x ?_ (fun hx => ?_); (on_goal 1 => subst x); (on_goal 2 => clear_value x)) | (refine Foot.cut2 x ?_ (fun hx => ?_); (on_goal 1 => subst x); (on_goal 2 => clear_value x)) | refine Foot.keepHost x ?_ | refine Foot.keepMbx x ?_ | clear_value x)
    | split

theorem execPmTestWrite_foot (ag : Agent) (l : Leg) (v : BitVec 32) (s : State) (t' : State) (ht : execPmTestWrite ag l v s = .next t') : Foot fp328 s t' := by
  have h : Foot fp328 s s := Foot.refl
  rw [← Host.Outcome.next.inj ht]
  repeat' first
    | with_reducible assumption
    | ((with_reducible apply Foot.reg); (on_goal 1 => intro _ _))
    | ((with_reducible apply Foot.step (State.pmTest_foot ..)); (· rfl))

theorem State.nextSecond_foot (s : State) (l : Leg) : Foot fp1 s (State.nextSecond s l) := by
  have h : Foot fp1 s s := Foot.refl
  unfold State.nextSecond
  repeat' first
    | with_reducible assumption
    | ((with_reducible apply Foot.step (State.updWave_foot ..)); (· rfl))
    | ((with_reducible apply Foot.foldl); (on_goal 1 => intro _ _ _))

theorem State.inService_foot (s : State) (l : Leg) : Foot fp13 s (State.inService s l) := by
  have h : Foot fp13 s s := Foot.refl
  unfold State.inService
  repeat' first
    | with_reducible assumption
    | ((with_reducible apply Foot.step (State.markBins_foot ..)); (· rfl))

theorem State.pmLegSecond_foot (s : State) (l : Leg) : Foot fp329 s (State.pmLegSecond s l) := by
  have h : Foot fp329 s s := Foot.refl
  unfold State.pmLegSecond
  repeat' first
    | with_reducible assumption
    | with_reducible apply Foot.ite
    | ((with_reducible apply Foot.step (State.setPm_foot ..)); (· rfl))
    | ((with_reducible apply Foot.step (State.nextSecond_foot ..)); (· rfl))
    | ((with_reducible apply Foot.step (State.inService_foot ..)); (· rfl))
    | (fail_if_no_progress extract_lets +onlyGivenNames x; first | refine Foot.keepHost x ?_ | refine Foot.keepMbx x ?_ | clear_value x)
    | fail_if_no_progress ((with_reducible apply Foot.setPm); (· rfl))
    | split

theorem State.pmSecond_foot (s : State) : Foot fp330 s (State.pmSecond s) := by
  have h : Foot fp330 s s := Foot.refl
  unfold State.pmSecond
  repeat' first
    | with_reducible assumption
    | with_reducible apply Foot.ite
    | ((with_reducible apply Foot.dec); (· rfl); (· first | exact Or.inr rfl))
    | ((with_reducible apply Foot.step (State.pmLegSecond_foot ..)); (· rfl))
    | (fail_if_no_progress extract_lets +onlyGivenNames x; first | (refine Foot.cut x ?_ (fun hx => ?_); (on_goal 1 => subst x); (on_goal 2 => clear_value x)) | (refine Foot.cut2 x ?_ (fun hx => ?_); (on_goal 1 => subst x); (on_goal 2 => clear_value x)) | refine Foot.keepHost x ?_ | refine Foot.keepMbx x ?_ | clear_value x)
    | split

theorem execPmSecond_foot (s : State) (t' : State) (ht : execPmSecond s = .next t') : Foot fp330 s t' := by
  have h : Foot fp330 s s := Foot.refl
  rw [← Host.Outcome.next.inj ht]
  repeat' first
    | with_reducible assumption
    | ((with_reducible apply Foot.step (State.pmSecond_foot ..)); (· rfl))

theorem State.commitSec_foot (s : State) (l : Leg) (x : Sec) (ten : List Sec) (w : Nat) : Foot fp331 s (State.commitSec s l x ten w) := by
  have h : Foot fp331 s s := Foot.refl
  unfold State.commitSec
  repeat' first
    | with_reducible assumption
    | with_reducible apply Foot.ite
    | ((with_reducible apply Foot.inc); (· rfl); (· first | exact Or.inr rfl | exact Or.inl (Leg.n_lt _)))
    | ((with_reducible apply State.setBit_foot); (· rfl); (· first | exact Or.inr rfl | exact Or.inl (Leg.n_lt _)))
    | ((with_reducible apply Foot.step (State.event_foot ..)); (· rfl))
    | ((with_reducible apply State.clrBit_foot); (· rfl); (· first | exact Or.inr rfl | exact Or.inl (Leg.n_lt _)))
    | (fail_if_no_progress extract_lets +onlyGivenNames x; first | (refine Foot.cut x ?_ (fun hx => ?_); (on_goal 1 => subst x); (on_goal 2 => clear_value x)) | (refine Foot.cut2 x ?_ (fun hx => ?_); (on_goal 1 => subst x); (on_goal 2 => clear_value x)) | refine Foot.keepHost x ?_ | refine Foot.keepMbx x ?_ | clear_value x)
    | split

theorem State.commitLeg_foot (n : Nat) (s : State) (l : Leg) : Foot fp332 s (State.commitLeg n s l) := by
  induction n generalizing s with
  | zero => exact Foot.refl
  | succ k ih =>
    have h : Foot fp332 s s := Foot.refl
    unfold State.commitLeg
    extract_lets q
    refine Foot.ite h ?_
    extract_lets ten
    split
    · exact h
    · extract_lets x rest pm
      have hx : Foot fp332 s x := Foot.foldl (fun _ _ hy => Foot.step (State.commitSec_foot ..) rfl hy) h
      clear_value x
      exact Foot.step (ih ..) rfl (Foot.setPm rfl hx)

theorem State.pmCommit_foot (s : State) : Foot fp332 s (State.pmCommit s) := by
  have h : Foot fp332 s s := Foot.refl
  unfold State.pmCommit
  repeat' first
    | with_reducible assumption
    | ((with_reducible apply Foot.step (State.commitLeg_foot ..)); (· rfl))
    | (fail_if_no_progress extract_lets +onlyGivenNames x; first | (refine Foot.cut x ?_ (fun hx => ?_); (on_goal 1 => subst x); (on_goal 2 => clear_value x)) | (refine Foot.cut2 x ?_ (fun hx => ?_); (on_goal 1 => subst x); (on_goal 2 => clear_value x)) | refine Foot.keepHost x ?_ | refine Foot.keepMbx x ?_ | clear_value x)

theorem execPmSecondCommit_foot (s : State) (t' : State) (ht : execPmSecondCommit s = .next t') : Foot fp332 s t' := by
  have h : Foot fp332 s s := Foot.refl
  rw [← Host.Outcome.next.inj ht]
  repeat' first
    | with_reducible assumption
    | ((with_reducible apply Foot.step (State.pmCommit_foot ..)); (· rfl))

theorem State.reviewReasons_foot (s : State) : Foot fp16 s (State.reviewReasons s) := by
  have h : Foot fp16 s s := Foot.refl
  unfold State.reviewReasons
  repeat' first
    | with_reducible assumption
    | with_reducible apply Foot.ite
    | ((with_reducible apply Foot.step (State.replaceRequest_foot ..)); (· rfl))
    | ((with_reducible apply State.clrBit_foot); (· rfl); (· first | exact Or.inr rfl))
    | ((with_reducible apply Foot.foldl); (on_goal 1 => intro _ _ _))
    | (fail_if_no_progress extract_lets +onlyGivenNames x; first | (refine Foot.cut x ?_ (fun hx => ?_); (on_goal 1 => subst x); (on_goal 2 => clear_value x)) | (refine Foot.cut2 x ?_ (fun hx => ?_); (on_goal 1 => subst x); (on_goal 2 => clear_value x)) | refine Foot.keepHost x ?_ | refine Foot.keepMbx x ?_ | clear_value x)
    | split

theorem State.binRoll_foot (s : State) : Foot fp333 s (State.binRoll s) := by
  have h : Foot fp333 s s := Foot.refl
  unfold State.binRoll
  repeat' first
    | with_reducible assumption
    | with_reducible apply Foot.ite
    | ((with_reducible apply Foot.inc); (· rfl); (· first | exact Or.inr rfl))
    | ((with_reducible apply Foot.step (State.event_foot ..)); (· rfl))
    | ((with_reducible apply Foot.step (State.rollBins15_foot ..)); (· rfl))
    | ((with_reducible apply Foot.step (State.rollBins24_foot ..)); (· rfl))
    | ((with_reducible apply Foot.step (State.exportRoll_foot ..)); (· rfl))
    | ((with_reducible apply Foot.step (State.reviewReasons_foot ..)); (· rfl))
    | (fail_if_no_progress extract_lets +onlyGivenNames x; first | (refine Foot.cut x ?_ (fun hx => ?_); (on_goal 1 => subst x); (on_goal 2 => clear_value x)) | (refine Foot.cut2 x ?_ (fun hx => ?_); (on_goal 1 => subst x); (on_goal 2 => clear_value x)) | refine Foot.keepHost x ?_ | refine Foot.keepMbx x ?_ | clear_value x)
    | split

theorem execBinRoll_foot (s : State) (t' : State) (ht : execBinRoll s = .next t') : Foot fp333 s t' := by
  have h : Foot fp333 s s := Foot.refl
  rw [← Host.Outcome.next.inj ht]
  repeat' first
    | with_reducible assumption
    | ((with_reducible apply Foot.step (State.binRoll_foot ..)); (· rfl))

theorem State.binLatch_foot (s : State) (ag : Agent) (v : Nat) : Foot fp334 s (State.binLatch s ag v) := by
  have h : Foot fp334 s s := Foot.refl
  unfold State.binLatch
  repeat' first
    | with_reducible assumption
    | ((with_reducible apply Foot.wrA); (· rfl); (· rfl); (· first | exact Or.inr rfl))
    | ((with_reducible apply Foot.foldl); (on_goal 1 => intro _ _ _))
    | (fail_if_no_progress extract_lets +onlyGivenNames x; first | (refine Foot.cut x ?_ (fun hx => ?_); (on_goal 1 => subst x); (on_goal 2 => clear_value x)) | (refine Foot.cut2 x ?_ (fun hx => ?_); (on_goal 1 => subst x); (on_goal 2 => clear_value x)) | refine Foot.keepHost x ?_ | refine Foot.keepMbx x ?_ | clear_value x)
    | (rename_i he; refine Foot.cut _ (Foot.ofPair he ?_) (fun hx => ?_); (on_goal 2 => clear he))
    | split

theorem execPmBinLatch_foot (ag : Agent) (v : BitVec 32) (s : State) (t' : State) (ht : execPmBinLatch ag v s = .next t') : Foot fp334 s t' := by
  have h : Foot fp334 s s := Foot.refl
  rw [← Host.Outcome.next.inj ht]
  repeat' first
    | with_reducible assumption
    | ((with_reducible apply Foot.reg); (on_goal 1 => intro _ _))
    | ((with_reducible apply Foot.step (State.binLatch_foot ..)); (· rfl))

end Sys2Proof.Machine
end

