-- ==== Sys2Proof/Laws/FootLineRx.lean ====
section
/-! SUPPORT. What each operation of Machine/LineRx.lean can change (`Foot`). -/

namespace Sys2Proof.Machine

def fp335 : Nat := 0xc0000000000000000000000000000000000000000000000000000000000000000000000000000000000000018000000000000000000000000000000000000000000000000000000000000000000000000000000000000000000000000000000000000000000000000000000000000000000000000000000000000000000
def fp336 : Nat := 0x100841c000000000000000000001c0000000000000000000000000000000000000001c100000000000000000000001a0020600008fc000000000000000000000000000000000000000000000000000000000000000000000000000000000000000008000000000180000000000324000000001000001280000800000000000000
def fp337 : Nat := 0x284c0000000000000000000000000000000000000000000000000000000000000000000000000000000000000000000000000000000000000000000000000000000000000000000000000000000000000000000000000000000000000000000000000000800000000000000000000000000000800000000000000000000000
def fp338 : Nat := 0xc0000000000000000000000000000000000000000000000000000000000000000000000000000000000000020000000000000000000000000000000000000000000000000000000000000000000000000000000000000000000000000000000000000000000000000000000000000000000000000000000000000000000
def fp339 : Nat := 0x100841c000000000000000000001c0000000000000000000000000000000000000001c100000000000000000000001a0020600008fc000000000000000000000000000000000000000000000000000000000000000000000000000000000000000008000000000180000000000324000000011200001280000000000000000000
def fp340 : Nat := 0x100841c000000000000000000001c0000000000000000000000000000000000000001c100000000000000100000001a8820600008fc000000000000000000000000000000000000000000000000000000000000000000000000000000000000000008000000000180000000000324000000011200001280000000000000000000
def fp341 : Nat := 0x100841c000000000000000000001c0000000000000000000000000000000000000001c100000000000000100000009a8820600008fc000000000000000000000000000000000000000000000000000000000000000000000000000000000000000008000000000180000000000324000000011200001280000000000000000000
def fp342 : Nat := 0x100ac5c000000000000000000001c0000000000000000000000000000000000000001c100000000000000100000009a8820600008fc0000000020000000000000a0000000000000000000000000000000000000000000000000000000000000000008000000800180000000000324000000011200801280000000000000000000
def fp343 : Nat := 0x12aeddc000000000000000000001c0000000000000003afe100000000000000000001c10000000000000010000000ba88206009dffc0007df0020000000020040f0000000000000000000000000002186038000000000000000000000000000000008f00000c02180000000000334001f80019e00801a80000800000000000000
def fp344 : Nat := 0x12aeddc000000000000000000001c0000000000000003afe100000000000000000001c100000000000000000000001a00206009dffc0007df000000000002004050000000000000000000000000002186038000000000000000000000000000000008000000002180000000000334001f80009c00001a80000000000000000000
def fp345 : Nat := 0x12aeddc000000000000000000001c0000000000000003afe100000000000000000001c10000000000000010000000ba88206009dffc0007df0020000000020040f0000000000000000000000000002186038000000000000000000000000000000008f00000c02180000000000334001f80019e00801a80003800000000000000
def fp346 : Nat := 0x12aeddc000000000000000000001c0000000000000003afe100000000000000000001c100000000000000100000009a88206009dffc0007df0020000000020040f0000000000000000000000000002186038000000000000000000000000000000008000000802180000000000334000f80019e00801a80000000000000000000
def fp347 : Nat := 0x100840c000000000000000000001c0000000000000000000000000000000000000001c1000000000000000000000000002060000000000000000000000000000000000000000000000000000000000000000000000000000000000000000000000000000000000000000000000000000000000000000000030000000000000000
def fp348 : Nat := 0x100840c000000000000000000001c0000000000000000000000000000000000000001c1000000000000000000000000002060000000000000000000000000000000000000000000000003c00000000000000000000000000000000000000000000000000000000000000000000000000000000000000000040000000000000000

theorem State.candidateAt_foot (s : State) (l : Leg) (w : Nat) (raw : Nat) (ofs : Nat) : Foot fp335 s (State.candidateAt s l w raw ofs) := by
  have h : Foot fp335 s s := Foot.refl
  unfold State.candidateAt
  repeat' first
    | with_reducible assumption
    | with_reducible apply Foot.ite
    | ((with_reducible apply Foot.wr); (· rfl); (· first | exact Or.inr rfl | exact Or.inl (Leg.n_lt _)))
    | ((with_reducible apply Foot.step (State.updWave_foot ..)); (· rfl))
    | (fail_if_no_progress extract_lets +onlyGivenNames x; first | (refine Foot.cut x ?_ (fun hx => ?_); (on_goal 1 => subst x); (on_goal 2 => clear_value x)) | (refine Foot.cut2 x ?_ (fun hx => ?_); (on_goal 1 => subst x); (on_goal 2 => clear_value x)) | refine Foot.keepHost x ?_ | refine Foot.keepMbx x ?_ | clear_value x)
    | split

theorem execSyncCandidate_foot (l : Leg) (w : Nat) (raw : BitVec 64) (ofs : Nat) (s : State) (t' : State) (ht : execSyncCandidate l w raw ofs s = .next t') : Foot fp335 s t' := by
  have h : Foot fp335 s s := Foot.refl
  rw [← Host.Outcome.next.inj ht]
  repeat' first
    | with_reducible assumption
    | ((with_reducible apply Foot.step (State.candidateAt_foot ..)); (· rfl))

theorem State.frameStart_foot (s : State) (l : Leg) (w : Nat) (key : Nat) (idle : Nat) : Foot fp336 s (State.frameStart s l w key idle) := by
  have h : Foot fp336 s s := Foot.refl
  unfold State.frameStart
  repeat' first
    | with_reducible assumption
    | ((with_reducible apply Foot.inc); (· rfl); (· first | exact Or.inr rfl | exact Or.inl (Leg.n_lt _)))
    | ((with_reducible apply Foot.step (State.updWave_foot ..)); (· rfl))
    | ((with_reducible apply Foot.step (State.settleRx_foot ..)); (· rfl))
    | (fail_if_no_progress extract_lets +onlyGivenNames x; first | (refine Foot.cut x ?_ (fun hx => ?_); (on_goal 1 => subst x); (on_goal 2 => clear_value x)) | (refine Foot.cut2 x ?_ (fun hx => ?_); (on_goal 1 => subst x); (on_goal 2 => clear_value x)) | refine Foot.keepHost x ?_ | refine Foot.keepMbx x ?_ | clear_value x)

theorem State.superframe_foot (s : State) (l : Leg) : Foot fp337 s (State.superframe s l) := by
  have h : Foot fp337 s s := Foot.refl
  unfold State.superframe
  repeat' first
    | with_reducible assumption
    | with_reducible apply Foot.ite
    | ((with_reducible apply Foot.incSat); (· rfl); (· first | exact Or.inr rfl | exact Or.inl (Leg.n_lt _)))
    | ((with_reducible apply Foot.upd); (· rfl); (· rfl))
    | ((with_reducible apply Foot.step (State.fallbackBoundary_foot ..)); (· rfl))
    | ((with_reducible apply Foot.step (State.timeBoundary_foot ..)); (· rfl))
    | (fail_if_no_progress extract_lets +onlyGivenNames x; first | refine Foot.keepHost x ?_ | refine Foot.keepMbx x ?_ | clear_value x)
    | fail_if_no_progress ((with_reducible apply Foot.setSlu); (· rfl))
    | fail_if_no_progress ((with_reducible apply Foot.setCls); (· rfl))
    | split

theorem State.latchMark_foot (s : State) (l : Leg) (w : Nat) (rel : Int) : Foot fp164 s (State.latchMark s l w rel) := by
  have h : Foot fp164 s s := Foot.refl
  unfold State.latchMark
  repeat' first
    | with_reducible assumption
    | with_reducible apply Foot.ite
    | ((with_reducible apply Foot.upd); (· rfl); (· rfl))
    | ((with_reducible apply Foot.step (State.updWave_foot ..)); (· rfl))
    | ((with_reducible apply Foot.step (State.markerCame_foot ..)); (· rfl))
    | (fail_if_no_progress extract_lets +onlyGivenNames x; first | (refine Foot.cut x ?_ (fun hx => ?_); (on_goal 1 => subst x); (on_goal 2 => clear_value x)) | (refine Foot.cut2 x ?_ (fun hx => ?_); (on_goal 1 => subst x); (on_goal 2 => clear_value x)) | refine Foot.keepHost x ?_ | refine Foot.keepMbx x ?_ | clear_value x)
    | split

theorem State.measure_foot (s : State) (l : Leg) (w : Nat) (words : Int) : Foot fp338 s (State.measure s l w words) := by
  have h : Foot fp338 s s := Foot.refl
  unfold State.measure
  repeat' first
    | with_reducible assumption
    | with_reducible apply Foot.ite
    | ((with_reducible apply Foot.wr); (· rfl); (· first | exact Or.inr rfl | exact Or.inl (Leg.n_lt _)))
    | ((with_reducible apply Foot.upd); (· rfl); (· rfl))
    | ((with_reducible apply Foot.step (State.updWave_foot ..)); (· rfl))
    | (fail_if_no_progress extract_lets +onlyGivenNames x; first | (refine Foot.cut x ?_ (fun hx => ?_); (on_goal 1 => subst x); (on_goal 2 => clear_value x)) | (refine Foot.cut2 x ?_ (fun hx => ?_); (on_goal 1 => subst x); (on_goal 2 => clear_value x)) | refine Foot.keepHost x ?_ | refine Foot.keepMbx x ?_ | clear_value x)
    | split

theorem State.safeRelease_foot (s : State) (l : Leg) : Foot fp339 s (State.safeRelease s l) := by
  have h : Foot fp339 s s := Foot.refl
  unfold State.safeRelease
  repeat' first
    | with_reducible assumption
    | with_reducible apply Foot.ite
    | ((with_reducible apply Foot.wr); (· rfl); (· first | exact Or.inr rfl | exact Or.inl (Leg.n_lt _)))
    | ((with_reducible apply Foot.upd); (· rfl); (· rfl))
    | ((with_reducible apply Foot.step (State.settlePins_foot ..)); (· rfl))
    | ((with_reducible apply Foot.step (State.settleLanes_foot ..)); (· rfl))
    | (fail_if_no_progress extract_lets +onlyGivenNames x; first | (refine Foot.cut x ?_ (fun hx => ?_); (on_goal 1 => subst x); (on_goal 2 => clear_value x)) | (refine Foot.cut2 x ?_ (fun hx => ?_); (on_goal 1 => subst x); (on_goal 2 => clear_value x)) | refine Foot.keepHost x ?_ | refine Foot.keepMbx x ?_ | clear_value x)
    | split

theorem State.broughtUp_foot (s : State) (l : Leg) : Foot fp340 s (State.broughtUp s l) := by
  have h : Foot fp340 s s := Foot.refl
  unfold State.broughtUp
  repeat' first
    | with_reducible assumption
    | ((with_reducible apply Foot.wr); (· rfl); (· first | exact Or.inr rfl | exact Or.inl (Leg.n_lt _)))
    | ((with_reducible apply Foot.inc); (· rfl); (· first | exact Or.inr rfl | exact Or.inl (Leg.n_lt _)))
    | ((with_reducible apply Foot.upd); (· rfl); (· rfl))
    | ((with_reducible apply Foot.step (State.safeRelease_foot ..)); (· rfl))
    | (fail_if_no_progress extract_lets +onlyGivenNames x; first | (refine Foot.cut x ?_ (fun hx => ?_); (on_goal 1 => subst x); (on_goal 2 => clear_value x)) | (refine Foot.cut2 x ?_ (fun hx => ?_); (on_goal 1 => subst x); (on_goal 2 => clear_value x)) | refine Foot.keepHost x ?_ | refine Foot.keepMbx x ?_ | clear_value x)

theorem State.compareWaves_foot (s : State) (l : Leg) : Foot fp341 s (State.compareWaves s l) := by
  have h : Foot fp341 s s := Foot.refl
  unfold State.compareWaves
  repeat' first
    | with_reducible assumption
    | with_reducible apply Foot.ite
    | ((with_reducible apply Foot.wr); (· rfl); (· first | exact Or.inr rfl | exact Or.inl (Leg.n_lt _)))
    | ((with_reducible apply Foot.upd); (· rfl); (· rfl))
    | ((with_reducible apply State.declareLeg_foot); (· rfl); (· rfl))
    | ((with_reducible apply Foot.step (State.broughtUp_foot ..)); (· rfl))
    | (fail_if_no_progress extract_lets +onlyGivenNames x; first | (refine Foot.cut x ?_ (fun hx => ?_); (on_goal 1 => subst x); (on_goal 2 => clear_value x)) | (refine Foot.cut2 x ?_ (fun hx => ?_); (on_goal 1 => subst x); (on_goal 2 => clear_value x)) | refine Foot.keepHost x ?_ | refine Foot.keepMbx x ?_ | clear_value x)
    | split

theorem State.d0Start_foot (s : State) (l : Leg) : Foot fp342 s (State.d0Start s l) := by
  have h : Foot fp342 s s := Foot.refl
  unfold State.d0Start
  repeat' first
    | with_reducible assumption
    | with_reducible apply Foot.ite
    | ((with_reducible apply Foot.upd); (· rfl); (· rfl))
    | ((with_reducible apply Foot.step (State.sluTakes_foot ..)); (· rfl))
    | ((with_reducible apply Foot.step (State.sluAudit_foot ..)); (· rfl))
    | ((with_reducible apply Foot.step (State.dropFrame_foot ..)); (· rfl))
    | ((with_reducible apply Foot.step (State.superframe_foot ..)); (· rfl))
    | ((with_reducible apply Foot.step (State.compareWaves_foot ..)); (· rfl))
    | (fail_if_no_progress extract_lets +onlyGivenNames x; first | (refine Foot.cut x ?_ (fun hx => ?_); (on_goal 1 => subst x); (on_goal 2 => clear_value x)) | (refine Foot.cut2 x ?_ (fun hx => ?_); (on_goal 1 => subst x); (on_goal 2 => clear_value x)) | refine Foot.keepHost x ?_ | refine Foot.keepMbx x ?_ | clear_value x)
    | split

theorem State.inSync_foot (s : State) (l : Leg) (w : Nat) (key : Nat) (idle : Nat) (received : Bool) (rel : Int) (words : Int) : Foot fp343 s (State.inSync s l w key idle received rel words) := by
  have h : Foot fp343 s s := Foot.refl
  unfold State.inSync
  repeat' first
    | with_reducible assumption
    | with_reducible apply Foot.ite
    | ((with_reducible apply State.clearDefect_foot); (· rfl); (· rfl))
    | ((with_reducible apply Foot.step (State.decideAll_foot ..)); (· rfl))
    | ((with_reducible apply Foot.step (State.settleDef_foot ..)); (· rfl))
    | ((with_reducible apply Foot.step (State.frameStart_foot ..)); (· rfl))
    | ((with_reducible apply Foot.step (State.latchMark_foot ..)); (· rfl))
    | ((with_reducible apply Foot.step (State.measure_foot ..)); (· rfl))
    | ((with_reducible apply Foot.step (State.d0Start_foot ..)); (· rfl))
    | (fail_if_no_progress extract_lets +onlyGivenNames x; first | (refine Foot.cut x ?_ (fun hx => ?_); (on_goal 1 => subst x); (on_goal 2 => clear_value x)) | (refine Foot.cut2 x ?_ (fun hx => ?_); (on_goal 1 => subst x); (on_goal 2 => clear_value x)) | refine Foot.keepHost x ?_ | refine Foot.keepMbx x ?_ | clear_value x)
    | split

theorem State.enterSync_foot (s : State) (l : Leg) (w : Nat) (h : Nat) (rel : Int) (words : Int) : Foot fp343 s (State.enterSync s l w h rel words) := by
  have h : Foot fp343 s s := Foot.refl
  unfold State.enterSync
  repeat' first
    | with_reducible assumption
    | ((with_reducible apply Foot.step (State.updWave_foot ..)); (· rfl))
    | ((with_reducible apply Foot.step (State.once_foot ..)); (· rfl))
    | ((with_reducible apply Foot.step (State.inSync_foot ..)); (· rfl))
    | (fail_if_no_progress extract_lets +onlyGivenNames x; first | (refine Foot.cut x ?_ (fun hx => ?_); (on_goal 1 => subst x); (on_goal 2 => clear_value x)) | (refine Foot.cut2 x ?_ (fun hx => ?_); (on_goal 1 => subst x); (on_goal 2 => clear_value x)) | refine Foot.keepHost x ?_ | refine Foot.keepMbx x ?_ | clear_value x)

theorem State.loseSync_foot (s : State) (l : Leg) (w : Nat) : Foot fp344 s (State.loseSync s l w) := by
  have h : Foot fp344 s s := Foot.refl
  unfold State.loseSync
  repeat' first
    | with_reducible assumption
    | with_reducible apply Foot.ite
    | ((with_reducible apply Foot.step (State.wakeCause_foot ..)); (· rfl))
    | ((with_reducible apply State.declare_foot); (· rfl); (· rfl))
    | ((with_reducible apply Foot.step (State.toHunt_foot ..)); (· rfl))
    | ((with_reducible apply Foot.step (State.decideAll_foot ..)); (· rfl))
    | ((with_reducible apply Foot.step (State.settleDef_foot ..)); (· rfl))
    | (fail_if_no_progress extract_lets +onlyGivenNames x; first | (refine Foot.cut x ?_ (fun hx => ?_); (on_goal 1 => subst x); (on_goal 2 => clear_value x)) | (refine Foot.cut2 x ?_ (fun hx => ?_); (on_goal 1 => subst x); (on_goal 2 => clear_value x)) | refine Foot.keepHost x ?_ | refine Foot.keepMbx x ?_ | clear_value x)
    | split

theorem State.presync_foot (s : State) (l : Leg) (w : Nat) (h : Nat) (ok : Bool) (rel : Int) (words : Int) : Foot fp343 s (State.presync s l w h ok rel words) := by
  have h : Foot fp343 s s := Foot.refl
  unfold State.presync
  repeat' first
    | with_reducible assumption
    | with_reducible apply Foot.ite
    | ((with_reducible apply Foot.step (State.updWave_foot ..)); (· rfl))
    | ((with_reducible apply Foot.step (State.toHunt_foot ..)); (· rfl))
    | ((with_reducible apply Foot.step (State.enterSync_foot ..)); (· rfl))
    | (fail_if_no_progress extract_lets +onlyGivenNames x; first | (refine Foot.cut x ?_ (fun hx => ?_); (on_goal 1 => subst x); (on_goal 2 => clear_value x)) | (refine Foot.cut2 x ?_ (fun hx => ?_); (on_goal 1 => subst x); (on_goal 2 => clear_value x)) | refine Foot.keepHost x ?_ | refine Foot.keepMbx x ?_ | clear_value x)
    | split

theorem State.syncStep_foot (s : State) (l : Leg) (w : Nat) (h : Nat) (found : Bool) (ok : Bool) (strict : Bool) (rel : Int) (words : Int) : Foot fp345 s (State.syncStep s l w h found ok strict rel words) := by
  have h : Foot fp345 s s := Foot.refl
  unfold State.syncStep
  repeat' first
    | with_reducible assumption
    | with_reducible apply Foot.ite
    | ((with_reducible apply Foot.inc); (· rfl); (· first | exact Or.inr rfl | exact Or.inl (Leg.n_lt _)))
    | ((with_reducible apply Foot.step (State.updWave_foot ..)); (· rfl))
    | ((with_reducible apply Foot.step (State.inSync_foot ..)); (· rfl))
    | ((with_reducible apply Foot.step (State.loseSync_foot ..)); (· rfl))
    | (fail_if_no_progress extract_lets +onlyGivenNames x; first | (refine Foot.cut x ?_ (fun hx => ?_); (on_goal 1 => subst x); (on_goal 2 => clear_value x)) | (refine Foot.cut2 x ?_ (fun hx => ?_); (on_goal 1 => subst x); (on_goal 2 => clear_value x)) | refine Foot.keepHost x ?_ | refine Foot.keepMbx x ?_ | clear_value x)
    | split

theorem State.flywheel_foot (s : State) (l : Leg) (w : Nat) : Foot fp346 s (State.flywheel s l w) := by
  have h : Foot fp346 s s := Foot.refl
  unfold State.flywheel
  repeat' first
    | with_reducible assumption
    | with_reducible apply Foot.ite
    | ((with_reducible apply Foot.incSat); (· rfl); (· first | exact Or.inr rfl | exact Or.inl (Leg.n_lt _)))
    | ((with_reducible apply Foot.upd); (· rfl); (· rfl))
    | ((with_reducible apply Foot.step (State.updWave_foot ..)); (· rfl))
    | ((with_reducible apply Foot.step (State.settleDef_foot ..)); (· rfl))
    | ((with_reducible apply Foot.step (State.d0Start_foot ..)); (· rfl))
    | (fail_if_no_progress extract_lets +onlyGivenNames x; first | (refine Foot.cut x ?_ (fun hx => ?_); (on_goal 1 => subst x); (on_goal 2 => clear_value x)) | (refine Foot.cut2 x ?_ (fun hx => ?_); (on_goal 1 => subst x); (on_goal 2 => clear_value x)) | refine Foot.keepHost x ?_ | refine Foot.keepMbx x ?_ | clear_value x)
    | split

theorem State.marker_foot (s : State) (l : Leg) (w : Nat) (raw : Nat) (h : Nat) (rel : Int) (words : Int) (ofs : Int) : Foot fp345 s (State.marker s l w raw h rel words ofs) := by
  have h : Foot fp345 s s := Foot.refl
  unfold State.marker
  repeat' first
    | with_reducible assumption
    | with_reducible apply Foot.ite
    | ((with_reducible apply Foot.step (State.presync_foot ..)); (· rfl))
    | ((with_reducible apply Foot.step (State.syncStep_foot ..)); (· rfl))
    | ((with_reducible apply Foot.step (State.flywheel_foot ..)); (· rfl))
    | (fail_if_no_progress extract_lets +onlyGivenNames x; first | (refine Foot.cut x ?_ (fun hx => ?_); (on_goal 1 => subst x); (on_goal 2 => clear_value x)) | refine Foot.keepHost x ?_ | refine Foot.keepMbx x ?_ | clear_value x)
    | fail_if_no_progress ((with_reducible apply Foot.setPwr); (· rfl))
    | split

theorem execDelineationMarker_foot (l : Leg) (w : Nat) (raw : BitVec 64) (hdr : BitVec 128) (rel : Int) (words : Int) (ofs : Int) (s : State) (t' : State) (ht : execDelineationMarker l w raw hdr rel words ofs s = .next t') : Foot fp345 s t' := by
  have h : Foot fp345 s s := Foot.refl
  rw [← Host.Outcome.next.inj ht]
  repeat' first
    | with_reducible assumption
    | ((with_reducible apply Foot.step (State.marker_foot ..)); (· rfl))

theorem State.codeword_foot (s : State) (l : Leg) (w : Nat) (idx : Nat) (corr : Nat) (ok : Bool) : Foot fp347 s (State.codeword s l w idx corr ok) := by
  have h : Foot fp347 s s := Foot.refl
  unfold State.codeword
  repeat' first
    | with_reducible assumption
    | with_reducible apply Foot.ite
    | ((with_reducible apply Foot.inc); (· rfl); (· first | exact Or.inr rfl | exact Or.inl (Leg.n_lt _)))
    | ((with_reducible apply Foot.step (State.updWave_foot ..)); (· rfl))
    | ((with_reducible apply Foot.step (State.once_foot ..)); (· rfl))
    | ((with_reducible apply Foot.step (State.pmCount_foot ..)); (· rfl))
    | (fail_if_no_progress extract_lets +onlyGivenNames x; first | (refine Foot.cut x ?_ (fun hx => ?_); (on_goal 1 => subst x); (on_goal 2 => clear_value x)) | (refine Foot.cut2 x ?_ (fun hx => ?_); (on_goal 1 => subst x); (on_goal 2 => clear_value x)) | refine Foot.keepHost x ?_ | refine Foot.keepMbx x ?_ | clear_value x)
    | split

theorem execCodewordDecode_foot (l : Leg) (w : Nat) (idx : Nat) (corr : Nat) (ok : Bool) (s : State) (t' : State) (ht : execCodewordDecode l w idx corr ok s = .next t') : Foot fp347 s t' := by
  have h : Foot fp347 s s := Foot.refl
  rw [← Host.Outcome.next.inj ht]
  repeat' first
    | with_reducible assumption
    | ((with_reducible apply Foot.step (State.codeword_foot ..)); (· rfl))

theorem State.partition_foot (s : State) (l : Leg) (x : Nat) : Foot fp348 s (State.partition s l x) := by
  have h : Foot fp348 s s := Foot.refl
  unfold State.partition
  repeat' first
    | with_reducible assumption
    | with_reducible apply Foot.ite
    | ((with_reducible apply Foot.inc); (· rfl); (· first | exact Or.inr rfl | exact Or.inl (Leg.n_lt _)))
    | ((with_reducible apply Foot.upd); (· rfl); (· rfl))
    | ((with_reducible apply Foot.step (State.pmCount_foot ..)); (· rfl))
    | ((with_reducible apply Foot.step (State.spill_foot ..)); (· rfl))
    | ((with_reducible apply Foot.step (State.dropFrame_foot ..)); (· rfl))
    | (fail_if_no_progress extract_lets +onlyGivenNames x; first | (refine Foot.cut x ?_ (fun hx => ?_); (on_goal 1 => subst x); (on_goal 2 => clear_value x)) | (refine Foot.cut2 x ?_ (fun hx => ?_); (on_goal 1 => subst x); (on_goal 2 => clear_value x)) | refine Foot.keepHost x ?_ | refine Foot.keepMbx x ?_ | clear_value x)
    | split

theorem execPartitionHeader_foot (l : Leg) (word : BitVec 64) (s : State) (t' : State) (ht : execPartitionHeader l word s = .next t') : Foot fp348 s t' := by
  have h : Foot fp348 s s := Foot.refl
  rw [← Host.Outcome.next.inj ht]
  repeat' first
    | with_reducible assumption
    | ((with_reducible apply Foot.step (State.partition_foot ..)); (· rfl))

end Sys2Proof.Machine
end

