-- ==== Sys2Proof/Laws/FootActivation.lean ====
section
/-! SUPPORT. What each operation of Machine/Activation.lean can change (`Foot`). -/

namespace Sys2Proof.Machine

def fp349 : Nat := 0x12aeddc000000000000000000001c0000000000000003afe100000000000000000001c100000000000000001000001a00206009dffc0007df000000000002004050000000000000000003c00000002186038000000000000000000000000000000008000000002180000000000334008f9602fc001f9f80000000000000000000
def fp350 : Nat := 0x12aeddc000000000000000000001c0000000000000003afe100000000000000000001c100000000000000001000001a00206009dffc0007df000000000002004050000000000000000003c00000002186038000000000000000000000000000000008000000002180000000000334008f9602fc001f9fc0000000000000000000
def fp351 : Nat := 0x12aeddc000000000000000000001c0000000000000003afe100000000000000000001c100000000000000001000001a00206009dffd8007df000000000002004050000000000000000003c00000002186038000000000000000000000000000000008000000002180000000000334008f9602fc001f9fc0000000000000000000
def fp352 : Nat := 0xc0000000000000000000000000000000000000000000000000000000000000000000000000000000000000000000000000000000000000000000000000000000000000000000000000000000000000000000000000000000000000000000000000000000000000000000000000000000000000030000000000000000000
def fp353 : Nat := 0xc0000000000000000000000000000000000000000000000000000000000000000000000000000000000000000000000000000000000000000000000000000000000000000000000000000000000000000000000000000000000000000000000000000000000000000000000000000000000000031400000000000000000
def fp354 : Nat := 0xc00000000000000000000000000000000000000000000000000000000000000000000000000000000000000000000000000000000000000000000000000000000000000000000000000000000000000000000000000000000000000000000000000000000000000000000000000000000000000000007f0000000000000
def fp355 : Nat := 0x100040c000000000000000000001c0000000000000000000000000000000000000001c1000000000000000000000000000000000000000000000000000000000000000000000000000000000000000000000000000000000000000000000000000000000000000000000000000000000000006000000500000000000000000000
def fp356 : Nat := 0x12aeddc000000000000000000001c0000000000000003afe100000000000000000001c100000000000000000000001a00206009dffc0007df000000000002004050000000000000000000000000002186038000000000000000000000000000000008000000002180000000000334000f8000fc00001fa0000000000000000000
def fp357 : Nat := 0x12aeddc000000000000000000001c0000000000000003afe100000000000000000001c100000000000000000000001a00206009dffc0007df000000000002004050000000000000000000000000002186038000000000000000000000000000000008000000002180000000000334000f8000fc00001fa1400000000000000000
def fp358 : Nat := 0x1e0000000000000000000000
def fp359 : Nat := 0x1000400000000000000000000001c0000000000000000000000000000000000000001c1000000000000000000000000000000000000000000000000000000000000000000000000000000000000000000000000000000000000000000000000000000000000000000000000000000000000000020000000000000000000000000
def fp360 : Nat := 0x100040c000000000000000000001c0000000000000000000000000000000000000001c10000000000000000000000000000000000000000000000000000000000000000000000000000000000000000000000000000000000000000000000000000000000000000000000000000000000000000201e0020000000000000000000
def fp361 : Nat := 0x100040c000000000000000000001c0000000000000000000000000000000000000001c10000000000000000000000000000000000000000000000000000000000000000000000000000000000000000000000000000000000000000000000000000000000000000000000000000000000000000201e0021400000000000000000
def fp362 : Nat := 0x12aeddc000000000000000000001c0000000000000003afe100000000000000000001c100000000000000000000001a00206009dffc0007df000000000002004050000000000000000000000000002186038000000000000000000000000000000008000000012180000000000334000f80009c101f9a80000000000000000000
def fp363 : Nat := 0xc0000000000000000000000000000000000000000000000000000000000000000000000000000000000000000000000000000000000000000000000000000000000000000000000000000000000000000000000000000000000000000000000000000000000000000000000000010000000000020000000000000000000
def fp364 : Nat := 0x4000c0000000000000000000000000000000000000000000000000000000000000000000000000000000000000000000000000000000000000000000000000000000000000000000000000000000000000000000000000000000000000000000000000000000000000000000000000010000000000029400000000000000000
def fp365 : Nat := 0x44c0000000000000000000000000000000000000000000000000000000000000000000000000000000000000000000000000000000000000000000000000000000000000000000000000000000080018000000000000000000000000000000000000000000000000000000000000016000000000000000000000000000000
def fp366 : Nat := 0x12aeddc000000000000000000001c0000000000000003afe100000000000000000001c100000000000000001000001a00206009dffc0007df000000000002004050000000000000000003c00000002186038000000000000000000000000000000008000000002180000000000334008f9602fc401f9f80000000000000000000
def fp367 : Nat := 0x12aeddc000000000000000000001c0000000000000003afe100000000000000000001c100000000000000001000001a00206009dffc0007df000000000002004050000000000000000003c00000002186038000000000000000000000000000000008000000002180000000000334008f9602fc401f9f81400000000000000000
def fp368 : Nat := 0xc0000000000000000000000000000000000000000000000000000000000000000000000000000000000000000000000000000000000000000000000000000000000000000000000000000000000000000000000000000000000000000000000000000000000000000000000000000000000200021400000000000000000
def fp369 : Nat := 0x180040c000000000000000000001c0000000000000000000000000000000000000001c1000000000000000000000000000000000880000000000000000000000000000000000000000000000000000000000000000000000000000000000000000000000000000000000000000000000000001002001280000000000000000000
def fp370 : Nat := 0x12aeddc000000000000000000001c0000000000000003afe100000000000000000001c100000000000000000000001a00206009dffc0007df000000000002004050000000000000000000000000002186038000000000000000000000000000000008000000002180000000000334000f9600fc001f9f80000000000000000000
def fp371 : Nat := 0x12aeddc000000000000000000001c0000000000000003afe100000000000000000001c100000000000000000000001a00206009dffc0007df000000000002004050000000000000000000000000002186038000000000000000000000000000000008000000002180000000000334000f80009c08001a80000000000000000000
def fp372 : Nat := 0xc0000000000000000000000000000000000000000000000000000000000000000000000000000000000000000000000000000000000000000000000000000000000000000000000000000000000000000000000000000000000000000000000000000000000000000000000000000000000000000c00000000000000000
def fp373 : Nat := 0xc0000000000000000000000000000000000000000000000000000000000000000000000000000000000000000000000000000000000000000000000000000000000000000000000000000000000000000000000000000000000000000000000000000000000000000000000000000000000000000400000000000000000

theorem State.depart_foot (s : State) (l : Leg) (st : Nat) : Foot fp349 s (State.depart s l st) := by
  have h : Foot fp349 s s := Foot.refl
  unfold State.depart
  repeat' first
    | with_reducible assumption
    | ((with_reducible apply Foot.step (State.setAct_foot ..)); (· rfl))
    | ((with_reducible apply Foot.step (State.dropNumber_foot ..)); (· rfl))
    | ((with_reducible apply Foot.step (State.cutWindows_foot ..)); (· rfl))
    | ((with_reducible apply Foot.step (State.settleLanes_foot ..)); (· rfl))
    | ((with_reducible apply Foot.step (State.settleDef_foot ..)); (· rfl))

theorem State.actCtl_foot (s : State) (l : Leg) (v : Nat) : Foot fp350 s (State.actCtl s l v) := by
  have h : Foot fp350 s s := Foot.refl
  unfold State.actCtl
  repeat' first
    | with_reducible assumption
    | with_reducible apply Foot.ite
    | ((with_reducible apply Foot.wr); (· rfl); (· first | exact Or.inr rfl | exact Or.inl (Leg.n_lt _)))
    | ((with_reducible apply Foot.step (State.setAct_foot ..)); (· rfl))
    | ((with_reducible apply Foot.step (State.settleLanes_foot ..)); (· rfl))
    | ((with_reducible apply Foot.step (State.settleDef_foot ..)); (· rfl))
    | ((with_reducible apply Foot.step (State.pmAcquire_foot ..)); (· rfl))
    | ((with_reducible apply Foot.step (State.depart_foot ..)); (· rfl))
    | (fail_if_no_progress extract_lets +onlyGivenNames x; first | (refine Foot.cut x ?_ (fun hx => ?_); (on_goal 1 => subst x); (on_goal 2 => clear_value x)) | (refine Foot.cut2 x ?_ (fun hx => ?_); (on_goal 1 => subst x); (on_goal 2 => clear_value x)) | refine Foot.keepHost x ?_ | refine Foot.keepMbx x ?_ | clear_value x)
    | split

theorem execActCtlWrite_foot (ag : Agent) (l : Leg) (v : BitVec 32) (s : State) (t' : State) (ht : execActCtlWrite ag l v s = .next t') : Foot fp350 s t' := by
  have h : Foot fp350 s s := Foot.refl
  rw [← Host.Outcome.next.inj ht]
  repeat' first
    | with_reducible assumption
    | ((with_reducible apply Foot.reg); (on_goal 1 => intro _ _))
    | ((with_reducible apply Foot.step (State.actCtl_foot ..)); (· rfl))

theorem State.retireLeg_foot (s : State) (l : Leg) : Foot fp350 s (State.retireLeg s l) := by
  have h : Foot fp350 s s := Foot.refl
  unfold State.retireLeg
  repeat' first
    | with_reducible assumption
    | with_reducible apply Foot.ite
    | ((with_reducible apply Foot.step (State.actCtl_foot ..)); (· rfl))
    | split

theorem State.legFailed_foot (s : State) (l : Leg) : Foot fp351 s (State.legFailed s l) := by
  have h : Foot fp351 s s := Foot.refl
  unfold State.legFailed
  repeat' first
    | with_reducible assumption
    | ((with_reducible apply Foot.upd); (· rfl); (· rfl))
    | ((with_reducible apply Foot.step (State.replaceLeg_foot ..)); (· rfl))
    | ((with_reducible apply Foot.step (State.retireLeg_foot ..)); (· rfl))

theorem State.burstProfile_foot (s : State) (l : Leg) (mx : BitVec 384) : Foot fp352 s (State.burstProfile s l mx).2 := by
  have h : Foot fp352 s s := Foot.refl
  unfold State.burstProfile
  repeat' first
    | with_reducible assumption
    | with_reducible apply Foot.ite
    | with_reducible apply Foot.ite2
    | ((with_reducible apply Foot.inc); (· rfl); (· first | exact Or.inr rfl | exact Or.inl (Leg.n_lt _)))
    | ((with_reducible apply Foot.upd); (· rfl); (· rfl))
    | ((with_reducible apply Foot.step (State.fieldBad_foot ..)); (· rfl))
    | (fail_if_no_progress extract_lets +onlyGivenNames x; first | (refine Foot.cut x ?_ (fun hx => ?_); (on_goal 1 => subst x); (on_goal 2 => clear_value x)) | (refine Foot.cut2 x ?_ (fun hx => ?_); (on_goal 1 => subst x); (on_goal 2 => clear_value x)) | refine Foot.keepHost x ?_ | refine Foot.keepMbx x ?_ | clear_value x)
    | split

theorem execBurstProfile_foot (l : Leg) (msg : BitVec 384) (s : State) (t' : State) (ht : execBurstProfile l msg s = .next t') : Foot fp353 s t' := by
  have h : Foot fp353 s s := Foot.refl
  rw [← Host.Outcome.next.inj ht]
  repeat' first
    | with_reducible assumption
    | ((with_reducible apply State.onMsg_foot); (· rfl); (on_goal 1 => intro _ _))
    | ((with_reducible apply State.inFrame_foot); (· rfl); (on_goal 1 => intro _ _))
    | ((with_reducible apply Foot.step (State.burstProfile_foot ..)); (· rfl))

theorem State.profileEffective_foot (s : State) (l : Leg) (p : Nat) : Foot fp354 s (State.profileEffective s l p) := by
  have h : Foot fp354 s s := Foot.refl
  unfold State.profileEffective
  repeat' first
    | with_reducible assumption
    | with_reducible apply Foot.ite
    | ((with_reducible apply Foot.wr); (· rfl); (· first | exact Or.inr rfl | exact Or.inl (Leg.n_lt _)))
    | ((with_reducible apply Foot.wr2); (· rfl); (· rfl); (· first | exact Or.inr rfl | exact Or.inl (Leg.n_lt _)); (· first | exact Or.inr rfl | exact Or.inl (Leg.n_lt _)))
    | ((with_reducible apply Foot.upd); (· rfl); (· rfl))
    | (fail_if_no_progress extract_lets +onlyGivenNames x; first | (refine Foot.cut x ?_ (fun hx => ?_); (on_goal 1 => subst x); (on_goal 2 => clear_value x)) | (refine Foot.cut2 x ?_ (fun hx => ?_); (on_goal 1 => subst x); (on_goal 2 => clear_value x)) | refine Foot.keepHost x ?_ | refine Foot.keepMbx x ?_ | clear_value x)
    | split

theorem execProfileEffective_foot (l : Leg) (p : Nat) (s : State) (t' : State) (ht : execProfileEffective l p s = .next t') : Foot fp354 s t' := by
  have h : Foot fp354 s s := Foot.refl
  rw [← Host.Outcome.next.inj ht]
  repeat' first
    | with_reducible assumption
    | ((with_reducible apply Foot.step (State.profileEffective_foot ..)); (· rfl))

theorem State.noteAck_foot (s : State) (l : Leg) (typ : Nat) (txid : Nat) (st : Nat) : Foot fp1 s (State.noteAck s l typ txid st) := by
  have h : Foot fp1 s s := Foot.refl
  unfold State.noteAck
  repeat' first
    | with_reducible assumption
    | with_reducible apply Foot.ite
    | ((with_reducible apply Foot.upd); (· rfl); (· rfl))
    | split

theorem State.latchTn_foot (s : State) (l : Leg) (tn : Nat) (txid : Nat) : Foot fp355 s (State.latchTn s l tn txid) := by
  have h : Foot fp355 s s := Foot.refl
  unfold State.latchTn
  repeat' first
    | with_reducible assumption
    | ((with_reducible apply Foot.wr); (· rfl); (· first | exact Or.inr rfl | exact Or.inl (Leg.n_lt _)))
    | ((with_reducible apply Foot.upd); (· rfl); (· rfl))
    | ((with_reducible apply Foot.step (State.event_foot ..)); (· rfl))
    | (fail_if_no_progress extract_lets +onlyGivenNames x; first | (refine Foot.cut x ?_ (fun hx => ?_); (on_goal 1 => subst x); (on_goal 2 => clear_value x)) | (refine Foot.cut2 x ?_ (fun hx => ?_); (on_goal 1 => subst x); (on_goal 2 => clear_value x)) | refine Foot.keepHost x ?_ | refine Foot.keepMbx x ?_ | clear_value x)

theorem State.assignTn_foot (s : State) (l : Leg) (mx : BitVec 384) : Foot fp356 s (State.assignTn s l mx).2 := by
  have h : Foot fp356 s s := Foot.refl
  unfold State.assignTn
  repeat' first
    | with_reducible assumption
    | with_reducible apply Foot.ite
    | with_reducible apply Foot.ite2
    | ((with_reducible apply Foot.wr); (· rfl); (· first | exact Or.inr rfl | exact Or.inl (Leg.n_lt _)))
    | ((with_reducible apply Foot.step (State.fieldBad_foot ..)); (· rfl))
    | ((with_reducible apply Foot.step (State.setAct_foot ..)); (· rfl))
    | ((with_reducible apply Foot.step (State.withdraw_foot ..)); (· rfl))
    | ((with_reducible apply Foot.step (State.settleDef_foot ..)); (· rfl))
    | ((with_reducible apply Foot.step (State.latchTn_foot ..)); (· rfl))
    | (fail_if_no_progress extract_lets +onlyGivenNames x; first | (refine Foot.cut x ?_ (fun hx => ?_); (on_goal 1 => subst x); (on_goal 2 => clear_value x)) | (refine Foot.cut2 x ?_ (fun hx => ?_); (on_goal 1 => subst x); (on_goal 2 => clear_value x)) | refine Foot.keepHost x ?_ | refine Foot.keepMbx x ?_ | clear_value x)
    | split

theorem State.assignMsg_foot (s : State) (l : Leg) (mx : BitVec 384) : Foot fp357 s (State.assignMsg s l mx) := by
  have h : Foot fp357 s s := Foot.refl
  unfold State.assignMsg
  repeat' first
    | with_reducible assumption
    | with_reducible apply Foot.ite
    | ((with_reducible apply State.onMsg_foot); (· rfl); (on_goal 1 => intro _ _))
    | ((with_reducible apply Foot.step (State.noteAck_foot ..)); (· rfl))
    | ((with_reducible apply Foot.step (State.assignTn_foot ..)); (· rfl))
    | (fail_if_no_progress extract_lets +onlyGivenNames x; first | (refine Foot.cut x ?_ (fun hx => ?_); (on_goal 1 => subst x); (on_goal 2 => clear_value x)) | (refine Foot.cut2 x ?_ (fun hx => ?_); (on_goal 1 => subst x); (on_goal 2 => clear_value x)) | refine Foot.keepHost x ?_ | refine Foot.keepMbx x ?_ | clear_value x)
    | split

theorem execAssignTn_foot (l : Leg) (msg : BitVec 384) (s : State) (t' : State) (ht : execAssignTn l msg s = .next t') : Foot fp357 s t' := by
  have h : Foot fp357 s s := Foot.refl
  rw [← Host.Outcome.next.inj ht]
  repeat' first
    | with_reducible assumption
    | ((with_reducible apply State.inFrame_foot); (· rfl); (on_goal 1 => intro _ _))
    | ((with_reducible apply Foot.step (State.assignMsg_foot ..)); (· rfl))

theorem State.showEqd_foot (s : State) (l : Leg) : Foot fp358 s (State.showEqd s l) := by
  have h : Foot fp358 s s := Foot.refl
  unfold State.showEqd
  repeat' first
    | with_reducible assumption
    | with_reducible apply Foot.ite
    | ((with_reducible apply Foot.wr); (· rfl); (· first | exact Or.inr rfl | exact Or.inl (Leg.n_lt _)))
    | ((with_reducible apply Foot.wr2); (· rfl); (· rfl); (· first | exact Or.inr rfl | exact Or.inl (Leg.n_lt _)); (· first | exact Or.inr rfl | exact Or.inl (Leg.n_lt _)))
    | (fail_if_no_progress extract_lets +onlyGivenNames x; first | refine Foot.keepHost x ?_ | refine Foot.keepMbx x ?_ | clear_value x)
    | split

theorem State.eqdRefused_foot (s : State) (l : Leg) : Foot fp359 s (State.eqdRefused s l) := by
  have h : Foot fp359 s s := Foot.refl
  unfold State.eqdRefused
  repeat' first
    | with_reducible assumption
    | ((with_reducible apply Foot.inc); (· rfl); (· first | exact Or.inr rfl | exact Or.inl (Leg.n_lt _)))
    | ((with_reducible apply Foot.step (State.event_foot ..)); (· rfl))

theorem State.eqdSet_foot (s : State) (l : Leg) (mx : BitVec 384) : Foot fp360 s (State.eqdSet s l mx).2 := by
  have h : Foot fp360 s s := Foot.refl
  unfold State.eqdSet
  repeat' first
    | with_reducible assumption
    | with_reducible apply Foot.ite
    | with_reducible apply Foot.ite2
    | ((with_reducible apply Foot.inc); (· rfl); (· first | exact Or.inr rfl | exact Or.inl (Leg.n_lt _)))
    | ((with_reducible apply Foot.upd); (· rfl); (· rfl))
    | ((with_reducible apply Foot.step (State.showEqd_foot ..)); (· rfl))
    | ((with_reducible apply Foot.step (State.eqdRefused_foot ..)); (· rfl))
    | (fail_if_no_progress extract_lets +onlyGivenNames x; first | (refine Foot.cut x ?_ (fun hx => ?_); (on_goal 1 => subst x); (on_goal 2 => clear_value x)) | (refine Foot.cut2 x ?_ (fun hx => ?_); (on_goal 1 => subst x); (on_goal 2 => clear_value x)) | refine Foot.keepHost x ?_ | refine Foot.keepMbx x ?_ | clear_value x)
    | split

theorem execEqdSet_foot (l : Leg) (msg : BitVec 384) (s : State) (t' : State) (ht : execEqdSet l msg s = .next t') : Foot fp361 s t' := by
  have h : Foot fp361 s s := Foot.refl
  rw [← Host.Outcome.next.inj ht]
  repeat' first
    | with_reducible assumption
    | ((with_reducible apply State.onMsg_foot); (· rfl); (on_goal 1 => intro _ _))
    | ((with_reducible apply State.inFrame_foot); (· rfl); (on_goal 1 => intro _ _))
    | ((with_reducible apply Foot.step (State.eqdSet_foot ..)); (· rfl))

theorem State.eqdApply_foot (s : State) (l : Leg) : Foot fp362 s (State.eqdApply s l) := by
  have h : Foot fp362 s s := Foot.refl
  unfold State.eqdApply
  repeat' first
    | with_reducible assumption
    | with_reducible apply Foot.ite
    | ((with_reducible apply Foot.wr); (· rfl); (· first | exact Or.inr rfl | exact Or.inl (Leg.n_lt _)))
    | ((with_reducible apply Foot.inc); (· rfl); (· first | exact Or.inr rfl | exact Or.inl (Leg.n_lt _)))
    | ((with_reducible apply Foot.upd); (· rfl); (· rfl))
    | ((with_reducible apply Foot.step (State.event_foot ..)); (· rfl))
    | ((with_reducible apply Foot.step (State.settleTime_foot ..)); (· rfl))
    | ((with_reducible apply Foot.step (State.setAct_foot ..)); (· rfl))
    | ((with_reducible apply Foot.step (State.settleLanes_foot ..)); (· rfl))
    | ((with_reducible apply Foot.step (State.settleDef_foot ..)); (· rfl))
    | ((with_reducible apply Foot.step (State.showEqd_foot ..)); (· rfl))
    | (fail_if_no_progress extract_lets +onlyGivenNames x; first | refine Foot.keepHost x ?_ | refine Foot.keepMbx x ?_ | clear_value x)
    | split

theorem execEqdApply_foot (l : Leg) (s : State) (t' : State) (ht : execEqdApply l s = .next t') : Foot fp362 s t' := by
  have h : Foot fp362 s s := Foot.refl
  rw [← Host.Outcome.next.inj ht]
  repeat' first
    | with_reducible assumption
    | ((with_reducible apply Foot.step (State.eqdApply_foot ..)); (· rfl))

theorem State.containerAct_foot (s : State) (l : Leg) (mx : BitVec 384) : Foot fp363 s (State.containerAct s l mx).2 := by
  have h : Foot fp363 s s := Foot.refl
  unfold State.containerAct
  repeat' first
    | with_reducible assumption
    | with_reducible apply Foot.ite
    | with_reducible apply Foot.ite2
    | ((with_reducible apply Foot.wr); (· rfl); (· first | exact Or.inr rfl | exact Or.inl (Leg.n_lt _)))
    | ((with_reducible apply Foot.upd); (· rfl); (· rfl))
    | ((with_reducible apply Foot.step (State.fieldBad_foot ..)); (· rfl))
    | (fail_if_no_progress extract_lets +onlyGivenNames x; first | (refine Foot.cut x ?_ (fun hx => ?_); (on_goal 1 => subst x); (on_goal 2 => clear_value x)) | (refine Foot.cut2 x ?_ (fun hx => ?_); (on_goal 1 => subst x); (on_goal 2 => clear_value x)) | refine Foot.keepHost x ?_ | refine Foot.keepMbx x ?_ | clear_value x)
    | split

theorem State.container_foot (s : State) (l : Leg) (mx : BitVec 384) : Foot fp364 s (State.container s l mx) := by
  have h : Foot fp364 s s := Foot.refl
  unfold State.container
  repeat' first
    | with_reducible assumption
    | with_reducible apply Foot.ite
    | ((with_reducible apply State.onMsg_foot); (· rfl); (on_goal 1 => intro _ _))
    | ((with_reducible apply State.fwMsg_foot); (· rfl); (on_goal 1 => intro _ _))
    | ((with_reducible apply Foot.step (State.containerAct_foot ..)); (· rfl))
    | (fail_if_no_progress extract_lets +onlyGivenNames x; first | (refine Foot.cut x ?_ (fun hx => ?_); (on_goal 1 => subst x); (on_goal 2 => clear_value x)) | (refine Foot.cut2 x ?_ (fun hx => ?_); (on_goal 1 => subst x); (on_goal 2 => clear_value x)) | refine Foot.keepHost x ?_ | refine Foot.keepMbx x ?_ | clear_value x)
    | split

theorem execContainer_foot (l : Leg) (msg : BitVec 384) (s : State) (t' : State) (ht : execContainer l msg s = .next t') : Foot fp364 s t' := by
  have h : Foot fp364 s s := Foot.refl
  rw [← Host.Outcome.next.inj ht]
  repeat' first
    | with_reducible assumption
    | ((with_reducible apply State.inFrame_foot); (· rfl); (on_goal 1 => intro _ _))
    | ((with_reducible apply Foot.step (State.container_foot ..)); (· rfl))

theorem State.containerEffective_foot (s : State) (l : Leg) (slot : Nat) : Foot fp365 s (State.containerEffective s l slot) := by
  have h : Foot fp365 s s := Foot.refl
  unfold State.containerEffective
  repeat' first
    | with_reducible assumption
    | with_reducible apply Foot.ite
    | ((with_reducible apply Foot.upd); (· rfl); (· rfl))
    | ((with_reducible apply Foot.step (State.fallback_foot ..)); (· rfl))
    | ((with_reducible apply Foot.step (State.latchSlot_foot ..)); (· rfl))
    | ((with_reducible apply Foot.foldl); (on_goal 1 => intro _ _ _))
    | (fail_if_no_progress extract_lets +onlyGivenNames x; first | (refine Foot.cut x ?_ (fun hx => ?_); (on_goal 1 => subst x); (on_goal 2 => clear_value x)) | (refine Foot.cut2 x ?_ (fun hx => ?_); (on_goal 1 => subst x); (on_goal 2 => clear_value x)) | refine Foot.keepHost x ?_ | refine Foot.keepMbx x ?_ | clear_value x)
    | split

theorem execContainerEffective_foot (l : Leg) (slot : Nat) (s : State) (t' : State) (ht : execContainerEffective l slot s = .next t') : Foot fp365 s t' := by
  have h : Foot fp365 s s := Foot.refl
  rw [← Host.Outcome.next.inj ht]
  repeat' first
    | with_reducible assumption
    | ((with_reducible apply Foot.step (State.containerEffective_foot ..)); (· rfl))

theorem State.deactivate_foot (s : State) (l : Leg) : Foot fp366 s (State.deactivate s l) := by
  have h : Foot fp366 s s := Foot.refl
  unfold State.deactivate
  repeat' first
    | with_reducible assumption
    | with_reducible apply Foot.ite
    | ((with_reducible apply Foot.inc); (· rfl); (· first | exact Or.inr rfl | exact Or.inl (Leg.n_lt _)))
    | ((with_reducible apply Foot.step (State.depart_foot ..)); (· rfl))
    | split

theorem execDeactivate_foot (l : Leg) (msg : BitVec 384) (s : State) (t' : State) (ht : execDeactivate l msg s = .next t') : Foot fp367 s t' := by
  have h : Foot fp367 s s := Foot.refl
  rw [← Host.Outcome.next.inj ht]
  repeat' first
    | with_reducible assumption
    | ((with_reducible apply State.onMsg_foot); (· rfl); (on_goal 1 => intro _ _))
    | ((with_reducible apply State.inFrame_foot); (· rfl); (on_goal 1 => intro _ _))
    | ((with_reducible apply Foot.step (State.deactivate_foot ..)); (· rfl))

theorem execKeepRanged_foot (l : Leg) (msg : BitVec 384) (s : State) (t' : State) (ht : execKeepRanged l msg s = .next t') : Foot fp368 s t' := by
  have h : Foot fp368 s s := Foot.refl
  rw [← Host.Outcome.next.inj ht]
  repeat' first
    | with_reducible assumption
    | with_reducible apply Foot.ite
    | ((with_reducible apply Foot.wr); (· rfl); (· first | exact Or.inr rfl | exact Or.inl (Leg.n_lt _)))
    | ((with_reducible apply Foot.step (State.fieldBad_foot ..)); (· rfl))
    | ((with_reducible apply State.onMsg_foot); (· rfl); (on_goal 1 => intro _ _))
    | ((with_reducible apply State.inFrame_foot); (· rfl); (on_goal 1 => intro _ _))
    | (fail_if_no_progress extract_lets +onlyGivenNames x; first | refine Foot.keepHost x ?_ | refine Foot.keepMbx x ?_ | clear_value x)
    | split

theorem State.registrationTimeout_foot (s : State) (l : Leg) : Foot fp369 s (State.registrationTimeout s l) := by
  have h : Foot fp369 s s := Foot.refl
  unfold State.registrationTimeout
  repeat' first
    | with_reducible assumption
    | with_reducible apply Foot.ite
    | ((with_reducible apply Foot.wr); (· rfl); (· first | exact Or.inr rfl | exact Or.inl (Leg.n_lt _)))
    | ((with_reducible apply Foot.inc); (· rfl); (· first | exact Or.inr rfl | exact Or.inl (Leg.n_lt _)))
    | ((with_reducible apply Foot.step (State.spend_foot ..)); (· rfl))
    | ((with_reducible apply Foot.step (State.event_foot ..)); (· rfl))
    | ((with_reducible apply Foot.step (State.setAct_foot ..)); (· rfl))
    | (fail_if_no_progress extract_lets +onlyGivenNames x; first | (refine Foot.cut x ?_ (fun hx => ?_); (on_goal 1 => subst x); (on_goal 2 => clear_value x)) | (refine Foot.cut2 x ?_ (fun hx => ?_); (on_goal 1 => subst x); (on_goal 2 => clear_value x)) | refine Foot.keepHost x ?_ | refine Foot.keepMbx x ?_ | clear_value x)
    | split

theorem execRegistrationTimeout_foot (l : Leg) (s : State) (t' : State) (ht : execRegistrationTimeout l s = .next t') : Foot fp369 s t' := by
  have h : Foot fp369 s s := Foot.refl
  rw [← Host.Outcome.next.inj ht]
  repeat' first
    | with_reducible assumption
    | ((with_reducible apply Foot.step (State.registrationTimeout_foot ..)); (· rfl))

theorem State.rangingTimeout_foot (s : State) (l : Leg) : Foot fp370 s (State.rangingTimeout s l) := by
  have h : Foot fp370 s s := Foot.refl
  unfold State.rangingTimeout
  repeat' first
    | with_reducible assumption
    | with_reducible apply Foot.ite
    | ((with_reducible apply Foot.step (State.event_foot ..)); (· rfl))
    | ((with_reducible apply Foot.step (State.setAct_foot ..)); (· rfl))
    | ((with_reducible apply Foot.step (State.dropNumber_foot ..)); (· rfl))
    | ((with_reducible apply Foot.step (State.settleDef_foot ..)); (· rfl))
    | split

theorem execRangingTimeout_foot (l : Leg) (s : State) (t' : State) (ht : execRangingTimeout l s = .next t') : Foot fp370 s t' := by
  have h : Foot fp370 s s := Foot.refl
  rw [← Host.Outcome.next.inj ht]
  repeat' first
    | with_reducible assumption
    | ((with_reducible apply Foot.step (State.rangingTimeout_foot ..)); (· rfl))

theorem State.rangeMiss_foot (s : State) (l : Leg) : Foot fp371 s (State.rangeMiss s l) := by
  have h : Foot fp371 s s := Foot.refl
  unfold State.rangeMiss
  repeat' first
    | with_reducible assumption
    | with_reducible apply Foot.ite
    | ((with_reducible apply Foot.inc); (· rfl); (· first | exact Or.inr rfl | exact Or.inl (Leg.n_lt _)))
    | ((with_reducible apply Foot.upd); (· rfl); (· rfl))
    | ((with_reducible apply Foot.step (State.event_foot ..)); (· rfl))
    | ((with_reducible apply State.declareLeg_foot); (· rfl); (· rfl))
    | ((with_reducible apply Foot.step (State.settleDef_foot ..)); (· rfl))
    | (fail_if_no_progress extract_lets +onlyGivenNames x; first | (refine Foot.cut x ?_ (fun hx => ?_); (on_goal 1 => subst x); (on_goal 2 => clear_value x)) | (refine Foot.cut2 x ?_ (fun hx => ?_); (on_goal 1 => subst x); (on_goal 2 => clear_value x)) | refine Foot.keepHost x ?_ | refine Foot.keepMbx x ?_ | clear_value x)
    | split

theorem execRangeMiss_foot (l : Leg) (s : State) (t' : State) (ht : execRangeMiss l s = .next t') : Foot fp371 s t' := by
  have h : Foot fp371 s s := Foot.refl
  rw [← Host.Outcome.next.inj ht]
  repeat' first
    | with_reducible assumption
    | ((with_reducible apply Foot.step (State.rangeMiss_foot ..)); (· rfl))

theorem State.wakeTimeout_foot (s : State) (l : Leg) : Foot fp298 s (State.wakeTimeout s l) := by
  have h : Foot fp298 s s := Foot.refl
  unfold State.wakeTimeout
  repeat' first
    | with_reducible assumption
    | with_reducible apply Foot.ite
    | ((with_reducible apply Foot.upd); (· rfl); (· rfl))
    | ((with_reducible apply Foot.step (State.spend_foot ..)); (· rfl))
    | (fail_if_no_progress extract_lets +onlyGivenNames x; first | (refine Foot.cut x ?_ (fun hx => ?_); (on_goal 1 => subst x); (on_goal 2 => clear_value x)) | (refine Foot.cut2 x ?_ (fun hx => ?_); (on_goal 1 => subst x); (on_goal 2 => clear_value x)) | refine Foot.keepHost x ?_ | refine Foot.keepMbx x ?_ | clear_value x)
    | split

theorem execWakeAttemptTimeout_foot (l : Leg) (s : State) (t' : State) (ht : execWakeAttemptTimeout l s = .next t') : Foot fp298 s t' := by
  have h : Foot fp298 s s := Foot.refl
  rw [← Host.Outcome.next.inj ht]
  repeat' first
    | with_reducible assumption
    | ((with_reducible apply Foot.step (State.wakeTimeout_foot ..)); (· rfl))

theorem State.msgUnknown_foot (s : State) (l : Leg) (mx : BitVec 384) : Foot fp372 s (State.msgUnknown s l mx) := by
  have h : Foot fp372 s s := Foot.refl
  unfold State.msgUnknown
  repeat' first
    | with_reducible assumption
    | with_reducible apply Foot.ite
    | ((with_reducible apply Foot.inc); (· rfl); (· first | exact Or.inr rfl | exact Or.inl (Leg.n_lt _)))
    | ((with_reducible apply Foot.step (State.ack_foot ..)); (· rfl))
    | (fail_if_no_progress extract_lets +onlyGivenNames x; first | (refine Foot.cut x ?_ (fun hx => ?_); (on_goal 1 => subst x); (on_goal 2 => clear_value x)) | (refine Foot.cut2 x ?_ (fun hx => ?_); (on_goal 1 => subst x); (on_goal 2 => clear_value x)) | refine Foot.keepHost x ?_ | refine Foot.keepMbx x ?_ | clear_value x)
    | split

theorem execMsgUnknown_foot (l : Leg) (msg : BitVec 384) (s : State) (t' : State) (ht : execMsgUnknown l msg s = .next t') : Foot fp372 s t' := by
  have h : Foot fp372 s s := Foot.refl
  rw [← Host.Outcome.next.inj ht]
  repeat' first
    | with_reducible assumption
    | ((with_reducible apply State.inFrame_foot); (· rfl); (on_goal 1 => intro _ _))
    | ((with_reducible apply Foot.step (State.msgUnknown_foot ..)); (· rfl))

theorem execMsgCrcErr_foot (l : Leg) (msg : BitVec 384) (s : State) (t' : State) (ht : execMsgCrcErr l msg s = .next t') : Foot fp373 s t' := by
  have h : Foot fp373 s s := Foot.refl
  rw [← Host.Outcome.next.inj ht]
  repeat' first
    | with_reducible assumption
    | with_reducible apply Foot.ite
    | ((with_reducible apply Foot.inc); (· rfl); (· first | exact Or.inr rfl | exact Or.inl (Leg.n_lt _)))
    | ((with_reducible apply State.inFrame_foot); (· rfl); (on_goal 1 => intro _ _))
    | split

end Sys2Proof.Machine
end

