-- ==== Sys2Proof/Laws/FootHeadgate.lean ====
section
/-! SUPPORT. What each operation of Machine/Headgate.lean can change (`Foot`). -/

namespace Sys2Proof.Machine

def fp374 : Nat := 0x12027cc000000000000000000001c0000000000000000000000000000000000000001c10000000000000000000000020000000008800000000020c0000000000080000000000000000000000000002506020000000000800000000000000000000000000000000000000000000000000217001000000a80000000000000000000
def fp375 : Nat := 0x10000000000000000000000000000000000000000000000000000000000000000000000000000000000000000000000000000000000000000000000000000000000000000000000000000000000000000000000000000000000000000000000000000000000000000000000000000000000000001000000000000000000000000
def fp376 : Nat := 0x12000000000000000000000000000000000000000000000000000000000000000000000000000000000000000000000000000000000000000000000000000000000000000000000000000000000000000000000000000000000000000000000000000000000000000000000000000000000000080000000000000000000000000
def fp377 : Nat := 0x120040c000000000000000000001c0000000000000000000000000000000000000001c1000000000000000000000000000000000000000000000000000000000000000000000000000000000000000000000000000000000000000000000000000000000000000000000000000000000000000000000000000000000000000000
def fp378 : Nat := 0x12aeddc000000000000000000001c0000000000000003afe100000000000000000001c100000000000000000000001a00206009dffc0007df000000000002004050000000000000000000000000002186038000000000000000000000000000000008000000002180000000000334000f80009c04801a80000000000000000000
def fp379 : Nat := 0x12005cc000000000000000000001c0000000000000000000000000000000000000001c1000000000000000000000000000000000000000000000000000000000000000000000000000000000000005831e40000000000000000000000400000000000000000000000000000000000000000000000000000000000000000000000
def fp380 : Nat := 0x12aeddc000000000000000000001c0000000000000003afe100000000000000000001c100000000000000000000001a00206009dffc0007df0004380000020040500000000000000000000000000079b7e78000000000000000000000400000000008000000002180000000000334000f80009c85801a80000000000000000000
def fp381 : Nat := 0x100040c000000000000000000001c0000000000000000000000000000000000000001c1000000000000000300000000000000000001800000000000000000000000000000000000000000000000000000000000000000000000000000000000000000000000000000000000000000004000000000000000000000000000000000
def fp382 : Nat := 0x100858c000000000000000000001c0000000000000000000000000000000000000001c1000000000000000310000002002060000001800000000000000000000000000000000000000003c00000000000000000000000000000000000000000000000000000000000000000000000004000020000000000000000000000000000
def fp383 : Nat := 0x12005cc000000000000000000001c0000000000000000000000000000000000000001c1000000000000000000000000000000000880000000000000000000000000000000000000000000000000002106020000000000000000000000000000000000000000000000000000000000000000001000000a80000000000000000000
def fp384 : Nat := 0x12aeddc000000000000000000001c0000000000000003afe100000000000000000001c100000000000000000000001a00206009dffc0007df0004380000020040500000000000000000000000000079b7e78000000000000000000000400000000008000000002180000000000334000fe0029c85801a80000000000000000000
def fp385 : Nat := 0x12aeddc000000000000000000001c0000000000000003afe100000000000000000001c100000000000000031000001a00206009dffd8007df000438000002004050000000000000000003c000000079b7e78000000000000000000000400000000008000000002180000000000334004fe0029c85801a80000000000000000000
def fp386 : Nat := 0x12aeddc000000000000000000001c0000000000000003afe100000000000000000001c100000000000000001000001a00206009dffc0007df000000000002004050000000000000000003c00000002186038000000000000000000000000000000008000000002180000000000334008f80039c00001a80000000000000000000
def fp387 : Nat := 0x12aeddc000000000000000000001c0000000000000003afe100000000000000000001c100000000000000001000001a00206009dffd8007df000000000002004050000000000000000003c0000000218603800000000000000000000000000000000800000000218000000000033400af9603fc001f9fc0000000000000000000
def fp388 : Nat := 0x12aeddc000000000000000000001c0000000000000003afe100000000000000000001c100000000000000001000001a00206009dffc0007df000000000002004050000000000000000003c00000002186038000000000000000000000000000000008000000002180000000000334008f80039c00001a81400000000000000000
def fp389 : Nat := 0x12aeddc000000000000000000001c0000000000000003afe100000000000000000001c100000000000000000000001a00206009dffc0007df000000000002004050000000000000000000000000002186038000000000000000000000000000000008000000002180000000000334000f80019c00001a80000000000000000000
def fp390 : Nat := 0x12aeddc000000000000000000001c0000000000000003afe100000000000000000001c100000000000000000000001a00206009dffc0007df000000000002004050000000000000000000000000002186038000000000000000000000000000000008000000002180000000000334000f80019c00001a81400000000000000000
def fp391 : Nat := 0x100859c000000000000000000001c0000000000000000000000000000000000000001c100000000000000001000001a0020600008fc000000000000000000000000000000000000000003c00000000000000000000000000000000000000000000008000000000180000000000324008000031200001280000000000000000000
def fp392 : Nat := 0x100859c000000000000000000001c0000000000000000000000000000000000000001c100000000000000001000001a0020600008fc000000000000000000000000000000000000000003c00000000000000000000000000000000000000000000008000000000180000000000324008000031300001280000000000000000000

theorem State.upFrame_foot (s : State) (l : Leg) (sfc : Nat) (fn : Nat) : Foot fp374 s (State.upFrame s l sfc fn) := by
  have h : Foot fp374 s s := Foot.refl
  unfold State.upFrame
  repeat' first
    | with_reducible assumption
    | with_reducible apply Foot.ite
    | ((with_reducible apply Foot.wr); (· rfl); (· first | exact Or.inr rfl | exact Or.inl (Leg.n_lt _)))
    | ((with_reducible apply Foot.upd); (· rfl); (· rfl))
    | ((with_reducible apply Foot.step (State.unwindWhere_foot ..)); (· rfl))
    | ((with_reducible apply Foot.step (State.auditCheck_foot ..)); (· rfl))
    | ((with_reducible apply Foot.step (State.sluFrame_foot ..)); (· rfl))
    | ((with_reducible apply Foot.step (State.settleTx_foot ..)); (· rfl))
    | ((with_reducible apply Foot.step (State.latchSlots_foot ..)); (· rfl))
    | ((with_reducible apply Foot.step (State.countRole_foot ..)); (· rfl))
    | (fail_if_no_progress extract_lets +onlyGivenNames x; first | refine Foot.keepHost x ?_ | refine Foot.keepMbx x ?_ | clear_value x)
    | fail_if_no_progress ((with_reducible apply Foot.setSeqs); (· rfl))
    | split

theorem execUpstreamFrameStart_foot (l : Leg) (sfc : BitVec 48) (fn : Nat) (s : State) (t' : State) (ht : execUpstreamFrameStart l sfc fn s = .next t') : Foot fp374 s t' := by
  have h : Foot fp374 s s := Foot.refl
  rw [← Host.Outcome.next.inj ht]
  repeat' first
    | with_reducible assumption
    | ((with_reducible apply Foot.step (State.upFrame_foot ..)); (· rfl))

theorem State.lanePowerUp_foot (s : State) (l : Leg) (u : Nat) : Foot fp287 s (State.lanePowerUp s l u) := by
  have h : Foot fp287 s s := Foot.refl
  unfold State.lanePowerUp
  repeat' first
    | with_reducible assumption
    | with_reducible apply Foot.ite
    | ((with_reducible apply Foot.step (State.txLane_foot ..)); (· rfl))
    | split

theorem execLanePowerUp_foot (l : Leg) (u : Nat) (s : State) (t' : State) (ht : execLanePowerUp l u s = .next t') : Foot fp287 s t' := by
  have h : Foot fp287 s s := Foot.refl
  rw [← Host.Outcome.next.inj ht]
  repeat' first
    | with_reducible assumption
    | ((with_reducible apply Foot.step (State.lanePowerUp_foot ..)); (· rfl))

theorem State.sendRegistration_foot (s : State) (l : Leg) (a : Alloc) : Foot fp375 s (State.sendRegistration s l a) := by
  have h : Foot fp375 s s := Foot.refl
  unfold State.sendRegistration
  repeat' first
    | with_reducible assumption
    | ((with_reducible apply Foot.inc); (· rfl); (· first | exact Or.inr rfl | exact Or.inl (Leg.n_lt _)))
    | ((with_reducible apply Foot.step (State.sendBurst_foot ..)); (· rfl))

theorem State.sendWake_foot (s : State) (l : Leg) (a : Alloc) : Foot fp376 s (State.sendWake s l a) := by
  have h : Foot fp376 s s := Foot.refl
  unfold State.sendWake
  repeat' first
    | with_reducible assumption
    | with_reducible apply Foot.ite
    | ((with_reducible apply Foot.inc); (· rfl); (· first | exact Or.inr rfl | exact Or.inl (Leg.n_lt _)))
    | ((with_reducible apply Foot.step (State.sendBurst_foot ..)); (· rfl))
    | (fail_if_no_progress extract_lets +onlyGivenNames x; first | refine Foot.keepHost x ?_ | refine Foot.keepMbx x ?_ | clear_value x)
    | fail_if_no_progress ((with_reducible apply Foot.setReqs); (· rfl))
    | split

theorem State.rangeMsg_foot (s : State) (l : Leg) : Foot fp377 s (State.rangeMsg s l).2 := by
  have h : Foot fp377 s s := Foot.refl
  unfold State.rangeMsg
  repeat' first
    | with_reducible assumption
    | ((with_reducible apply Foot.upd); (· rfl); (· rfl))
    | ((with_reducible apply Foot.step (State.event_foot ..)); (· rfl))
    | ((with_reducible apply Foot.step (State.takeMsg_foot ..)); (· rfl))
    | ((with_reducible apply Foot.step (State.msgSent_foot ..)); (· rfl))
    | (fail_if_no_progress extract_lets +onlyGivenNames x; first | refine Foot.keepHost x ?_ | refine Foot.keepMbx x ?_ | clear_value x)
    | split

theorem State.sendRange_foot (s : State) (l : Leg) (a : Alloc) : Foot fp378 s (State.sendRange s l a) := by
  have h : Foot fp378 s s := Foot.refl
  unfold State.sendRange
  repeat' first
    | with_reducible assumption
    | with_reducible apply Foot.ite
    | ((with_reducible apply Foot.wr); (· rfl); (· first | exact Or.inr rfl | exact Or.inl (Leg.n_lt _)))
    | ((with_reducible apply Foot.inc); (· rfl); (· first | exact Or.inr rfl | exact Or.inl (Leg.n_lt _)))
    | ((with_reducible apply Foot.upd); (· rfl); (· rfl))
    | ((with_reducible apply Foot.step (State.sendBurst_foot ..)); (· rfl))
    | ((with_reducible apply Foot.step (State.settleDef_foot ..)); (· rfl))
    | ((with_reducible apply Foot.step (State.rangeMsg_foot ..)); (· rfl))
    | (fail_if_no_progress extract_lets +onlyGivenNames x; first | (refine Foot.cut x ?_ (fun hx => ?_); (on_goal 1 => subst x); (on_goal 2 => clear_value x)) | (refine Foot.cut2 x ?_ (fun hx => ?_); (on_goal 1 => subst x); (on_goal 2 => clear_value x)) | refine Foot.keepHost x ?_ | refine Foot.keepMbx x ?_ | clear_value x)
    | (rename_i he; refine Foot.cut _ (Foot.ofPair he ?_) (fun hx => ?_); (on_goal 2 => clear he))
    | split

theorem State.sendSluice_foot (s : State) (l : Leg) (a : Alloc) : Foot fp271 s (State.sendSluice s l a) := by
  have h : Foot fp271 s s := Foot.refl
  unfold State.sendSluice
  repeat' first
    | with_reducible assumption
    | ((with_reducible apply Foot.step (State.sendBurst_foot ..)); (· rfl))
    | ((with_reducible apply Foot.step (State.sluiceInfo_foot ..)); (· rfl))
    | (fail_if_no_progress extract_lets +onlyGivenNames x; first | (refine Foot.cut x ?_ (fun hx => ?_); (on_goal 1 => subst x); (on_goal 2 => clear_value x)) | (refine Foot.cut2 x ?_ (fun hx => ?_); (on_goal 1 => subst x); (on_goal 2 => clear_value x)) | refine Foot.keepHost x ?_ | refine Foot.keepMbx x ?_ | clear_value x)
    | (rename_i he; refine Foot.cut _ (Foot.ofPair he ?_) (fun hx => ?_); (on_goal 2 => clear he))
    | split

theorem State.sendData_foot (s : State) (l : Leg) (a : Alloc) : Foot fp379 s (State.sendData s l a) := by
  have h : Foot fp379 s s := Foot.refl
  unfold State.sendData
  repeat' first
    | with_reducible assumption
    | with_reducible apply Foot.ite
    | ((with_reducible apply Foot.wr); (· rfl); (· first | exact Or.inr rfl))
    | ((with_reducible apply Foot.inc); (· rfl); (· first | exact Or.inr rfl))
    | ((with_reducible apply Foot.step (State.slotEvent_foot ..)); (· rfl))
    | ((with_reducible apply Foot.step (State.takeMsg_foot ..)); (· rfl))
    | ((with_reducible apply Foot.step (State.commitBurst_foot ..)); (· rfl))
    | (fail_if_no_progress extract_lets +onlyGivenNames x; first | refine Foot.keepHost x ?_ | refine Foot.keepMbx x ?_ | clear_value x)
    | fail_if_no_progress ((with_reducible apply Foot.setBursts); (· rfl))
    | split

theorem State.sendWindow_foot (s : State) (l : Leg) (a : Alloc) : Foot fp380 s (State.sendWindow s l a) := by
  have h : Foot fp380 s s := Foot.refl
  unfold State.sendWindow
  repeat' first
    | with_reducible assumption
    | ((with_reducible apply Foot.step (State.sendRegistration_foot ..)); (· rfl))
    | ((with_reducible apply Foot.step (State.sendWake_foot ..)); (· rfl))
    | ((with_reducible apply Foot.step (State.sendRange_foot ..)); (· rfl))
    | ((with_reducible apply Foot.step (State.sendSluice_foot ..)); (· rfl))
    | ((with_reducible apply Foot.step (State.sendData_foot ..)); (· rfl))
    | split

theorem State.darkWindow_foot (s : State) (l : Leg) (u : Nat) : Foot fp381 s (State.darkWindow s l u) := by
  have h : Foot fp381 s s := Foot.refl
  unfold State.darkWindow
  repeat' first
    | with_reducible assumption
    | with_reducible apply Foot.ite
    | ((with_reducible apply Foot.wr); (· rfl); (· first | exact Or.inr rfl | exact Or.inl (Leg.n_lt _)))
    | ((with_reducible apply Foot.inc); (· rfl); (· first | exact Or.inr rfl | exact Or.inl (Leg.n_lt _)))
    | ((with_reducible apply Foot.upd); (· rfl); (· rfl))
    | ((with_reducible apply Foot.step (State.once_foot ..)); (· rfl))
    | ((with_reducible apply Foot.step (State.replaceRequest_foot ..)); (· rfl))
    | (fail_if_no_progress extract_lets +onlyGivenNames x; first | (refine Foot.cut x ?_ (fun hx => ?_); (on_goal 1 => subst x); (on_goal 2 => clear_value x)) | (refine Foot.cut2 x ?_ (fun hx => ?_); (on_goal 1 => subst x); (on_goal 2 => clear_value x)) | refine Foot.keepHost x ?_ | refine Foot.keepMbx x ?_ | clear_value x)
    | split

theorem State.windowEnd_foot (s : State) (l : Leg) (u : Nat) (light : Bool) : Foot fp382 s (State.windowEnd s l u light) := by
  have h : Foot fp382 s s := Foot.refl
  unfold State.windowEnd
  repeat' first
    | with_reducible assumption
    | with_reducible apply Foot.ite
    | ((with_reducible apply Foot.upd); (· rfl); (· rfl))
    | ((with_reducible apply Foot.step (State.endBurst_foot ..)); (· rfl))
    | ((with_reducible apply Foot.step (State.closeWin_foot ..)); (· rfl))
    | ((with_reducible apply Foot.step (State.burstOver_foot ..)); (· rfl))
    | ((with_reducible apply Foot.step (State.burnt_foot ..)); (· rfl))
    | ((with_reducible apply Foot.step (State.txLane_foot ..)); (· rfl))
    | ((with_reducible apply Foot.step (State.darkWindow_foot ..)); (· rfl))
    | (fail_if_no_progress extract_lets +onlyGivenNames x; first | (refine Foot.cut x ?_ (fun hx => ?_); (on_goal 1 => subst x); (on_goal 2 => clear_value x)) | refine Foot.keepHost x ?_ | refine Foot.keepMbx x ?_ | clear_value x)
    | split

theorem execWindowEnd_foot (l : Leg) (u : Nat) (light : Bool) (s : State) (t' : State) (ht : execWindowEnd l u light s = .next t') : Foot fp382 s t' := by
  have h : Foot fp382 s s := Foot.refl
  rw [← Host.Outcome.next.inj ht]
  repeat' first
    | with_reducible assumption
    | ((with_reducible apply Foot.step (State.windowEnd_foot ..)); (· rfl))

theorem State.stayDark_foot {m : Nat} {s t : State} {l : Leg} {a : Alloc} {R : Row} (hr : rowIn m R = true) (hm : fp383 ||| m = m)
    (h : Foot m s t) : Foot m s (State.stayDark t l a R) := by
  unfold State.stayDark
  have hi : Foot m s ((t.refuse l a R).setAlloc l a fun x => { x with opened := true, role := false }) :=
    Foot.step (State.setAlloc_foot ..) (mask_trans (b := fp383) rfl hm) (State.refuse_foot hr (mask_trans (b := fp383) rfl hm) h)
  exact Foot.ite (Foot.step (State.unwindAlloc_foot ..) (mask_trans (b := fp383) rfl hm) hi) hi

theorem State.openWindow_foot (s : State) (l : Leg) (u : Nat) (a : Alloc) : Foot fp384 s (State.openWindow s l u a) := by
  have h : Foot fp384 s s := Foot.refl
  unfold State.openWindow
  repeat' first
    | with_reducible assumption
    | with_reducible apply Foot.ite
    | ((with_reducible apply Foot.inc); (· rfl); (· first | exact Or.inr rfl | exact Or.inl (Leg.n_lt _)))
    | ((with_reducible apply Foot.step (State.setWin_foot ..)); (· rfl))
    | ((with_reducible apply Foot.step (State.txLane_foot ..)); (· rfl))
    | ((with_reducible apply Foot.step (State.setAlloc_foot ..)); (· rfl))
    | ((with_reducible apply Foot.step (State.sendWindow_foot ..)); (· rfl))
    | (fail_if_no_progress extract_lets +onlyGivenNames x; first | (refine Foot.cut x ?_ (fun hx => ?_); (on_goal 1 => subst x); (on_goal 2 => clear_value x)) | (refine Foot.cut2 x ?_ (fun hx => ?_); (on_goal 1 => subst x); (on_goal 2 => clear_value x)) | refine Foot.keepHost x ?_ | refine Foot.keepMbx x ?_ | clear_value x)
    | split

theorem State.windowOpen_foot (s : State) (l : Leg) (u : Nat) (start : Nat) : Foot fp385 s (State.windowOpen s l u start) := by
  have h : Foot fp385 s s := Foot.refl
  unfold State.windowOpen
  repeat' first
    | with_reducible assumption
    | (rename_i he; refine State.stayDark_foot (refusal_row he _ rfl rfl rfl rfl rfl) rfl ?_)
    | ((with_reducible apply Foot.step (State.windowEnd_foot ..)); (· rfl))
    | ((with_reducible apply Foot.step (State.openWindow_foot ..)); (· rfl))
    | (fail_if_no_progress extract_lets +onlyGivenNames x; first | refine Foot.keepHost x ?_ | refine Foot.keepMbx x ?_ | clear_value x)
    | split

theorem execWindowOpen_foot (l : Leg) (u : Nat) (start : Nat) (s : State) (t' : State) (ht : execWindowOpen l u start s = .next t') : Foot fp385 s t' := by
  have h : Foot fp385 s s := Foot.refl
  rw [← Host.Outcome.next.inj ht]
  repeat' first
    | with_reducible assumption
    | ((with_reducible apply Foot.step (State.windowOpen_foot ..)); (· rfl))

theorem State.stopPins_foot (s : State) (l : Leg) : Foot fp386 s (State.stopPins s l) := by
  have h : Foot fp386 s s := Foot.refl
  unfold State.stopPins
  repeat' first
    | with_reducible assumption
    | ((with_reducible apply Foot.step (State.settlePins_foot ..)); (· rfl))
    | ((with_reducible apply Foot.step (State.cutWindows_foot ..)); (· rfl))
    | ((with_reducible apply Foot.step (State.settleLanes_foot ..)); (· rfl))
    | ((with_reducible apply Foot.step (State.settleDef_foot ..)); (· rfl))

theorem State.rogueCount_foot (s : State) (l : Leg) : Foot fp351 s (State.rogueCount s l) := by
  have h : Foot fp351 s s := Foot.refl
  unfold State.rogueCount
  repeat' first
    | with_reducible assumption
    | with_reducible apply Foot.ite
    | ((with_reducible apply Foot.upd); (· rfl); (· rfl))
    | ((with_reducible apply Foot.step (State.legFailed_foot ..)); (· rfl))
    | (fail_if_no_progress extract_lets +onlyGivenNames x; first | (refine Foot.cut x ?_ (fun hx => ?_); (on_goal 1 => subst x); (on_goal 2 => clear_value x)) | (refine Foot.cut2 x ?_ (fun hx => ?_); (on_goal 1 => subst x); (on_goal 2 => clear_value x)) | refine Foot.keepHost x ?_ | refine Foot.keepMbx x ?_ | clear_value x)
    | split

theorem State.rogueLatch_foot (s : State) (l : Leg) (u : Nat) (samples : Nat) : Foot fp387 s (State.rogueLatch s l u samples) := by
  have h : Foot fp387 s s := Foot.refl
  unfold State.rogueLatch
  repeat' first
    | with_reducible assumption
    | with_reducible apply Foot.ite
    | ((with_reducible apply Foot.wr); (· rfl); (· first | exact Or.inr rfl | exact Or.inl (Leg.n_lt _)))
    | ((with_reducible apply Foot.inc); (· rfl); (· first | exact Or.inr rfl | exact Or.inl (Leg.n_lt _)))
    | ((with_reducible apply Foot.step (State.event_foot ..)); (· rfl))
    | ((with_reducible apply Foot.step (State.stopPins_foot ..)); (· rfl))
    | ((with_reducible apply Foot.step (State.rogueCount_foot ..)); (· rfl))
    | (fail_if_no_progress extract_lets +onlyGivenNames x; first | (refine Foot.cut x ?_ (fun hx => ?_); (on_goal 1 => subst x); (on_goal 2 => clear_value x)) | (refine Foot.cut2 x ?_ (fun hx => ?_); (on_goal 1 => subst x); (on_goal 2 => clear_value x)) | refine Foot.keepHost x ?_ | refine Foot.keepMbx x ?_ | clear_value x)
    | split

theorem execRogueLatch_foot (l : Leg) (u : Nat) (samples : Nat) (s : State) (t' : State) (ht : execRogueLatch l u samples s = .next t') : Foot fp387 s t' := by
  have h : Foot fp387 s s := Foot.refl
  rw [← Host.Outcome.next.inj ht]
  repeat' first
    | with_reducible assumption
    | ((with_reducible apply Foot.step (State.rogueLatch_foot ..)); (· rfl))

theorem State.emergencyStop_foot (s : State) (l : Leg) : Foot fp386 s (State.emergencyStop s l) := by
  have h : Foot fp386 s s := Foot.refl
  unfold State.emergencyStop
  repeat' first
    | with_reducible assumption
    | with_reducible apply Foot.ite
    | ((with_reducible apply Foot.wr); (· rfl); (· first | exact Or.inr rfl | exact Or.inl (Leg.n_lt _)))
    | ((with_reducible apply Foot.step (State.event_foot ..)); (· rfl))
    | ((with_reducible apply Foot.step (State.stopPins_foot ..)); (· rfl))
    | split

theorem execEmergencyStop_foot (l : Leg) (msg : BitVec 384) (s : State) (t' : State) (ht : execEmergencyStop l msg s = .next t') : Foot fp388 s t' := by
  have h : Foot fp388 s s := Foot.refl
  rw [← Host.Outcome.next.inj ht]
  repeat' first
    | with_reducible assumption
    | ((with_reducible apply State.onMsg_foot); (· rfl); (on_goal 1 => intro _ _))
    | ((with_reducible apply State.inFrame_foot); (· rfl); (on_goal 1 => intro _ _))
    | ((with_reducible apply Foot.step (State.emergencyStop_foot ..)); (· rfl))

theorem State.rogueRelease_foot (s : State) (l : Leg) : Foot fp389 s (State.rogueRelease s l) := by
  have h : Foot fp389 s s := Foot.refl
  unfold State.rogueRelease
  repeat' first
    | with_reducible assumption
    | ((with_reducible apply Foot.wr); (· rfl); (· first | exact Or.inr rfl | exact Or.inl (Leg.n_lt _)))
    | ((with_reducible apply Foot.step (State.settlePins_foot ..)); (· rfl))
    | ((with_reducible apply Foot.step (State.settleLanes_foot ..)); (· rfl))
    | ((with_reducible apply Foot.step (State.settleDef_foot ..)); (· rfl))

theorem execRogueRelease_foot (l : Leg) (msg : BitVec 384) (s : State) (t' : State) (ht : execRogueRelease l msg s = .next t') : Foot fp390 s t' := by
  have h : Foot fp390 s s := Foot.refl
  rw [← Host.Outcome.next.inj ht]
  repeat' first
    | with_reducible assumption
    | ((with_reducible apply State.onMsg_foot); (· rfl); (on_goal 1 => intro _ _))
    | ((with_reducible apply State.inFrame_foot); (· rfl); (on_goal 1 => intro _ _))
    | ((with_reducible apply Foot.step (State.rogueRelease_foot ..)); (· rfl))

theorem State.forceTxdis_foot (s : State) (l : Leg) : Foot fp391 s (State.forceTxdis s l) := by
  have h : Foot fp391 s s := Foot.refl
  unfold State.forceTxdis
  repeat' first
    | with_reducible assumption
    | with_reducible apply Foot.ite
    | ((with_reducible apply Foot.wr); (· rfl); (· first | exact Or.inr rfl | exact Or.inl (Leg.n_lt _)))
    | ((with_reducible apply Foot.step (State.settlePins_foot ..)); (· rfl))
    | ((with_reducible apply Foot.step (State.cutWindows_foot ..)); (· rfl))
    | ((with_reducible apply Foot.step (State.settleLanes_foot ..)); (· rfl))
    | split

theorem State.hgCtl_foot (s : State) (l : Leg) (v : Nat) : Foot fp392 s (State.hgCtl s l v) := by
  have h : Foot fp392 s s := Foot.refl
  unfold State.hgCtl
  repeat' first
    | with_reducible assumption
    | with_reducible apply Foot.ite
    | ((with_reducible apply Foot.wr); (· rfl); (· first | exact Or.inr rfl | exact Or.inl (Leg.n_lt _)))
    | ((with_reducible apply Foot.upd); (· rfl); (· rfl))
    | ((with_reducible apply Foot.step (State.settlePins_foot ..)); (· rfl))
    | ((with_reducible apply Foot.step (State.settleLanes_foot ..)); (· rfl))
    | ((with_reducible apply Foot.step (State.forceTxdis_foot ..)); (· rfl))
    | (fail_if_no_progress extract_lets +onlyGivenNames x; first | (refine Foot.cut x ?_ (fun hx => ?_); (on_goal 1 => subst x); (on_goal 2 => clear_value x)) | (refine Foot.cut2 x ?_ (fun hx => ?_); (on_goal 1 => subst x); (on_goal 2 => clear_value x)) | refine Foot.keepHost x ?_ | refine Foot.keepMbx x ?_ | clear_value x)
    | split

theorem execHgCtlWrite_foot (ag : Agent) (l : Leg) (v : BitVec 32) (s : State) (t' : State) (ht : execHgCtlWrite ag l v s = .next t') : Foot fp392 s t' := by
  have h : Foot fp392 s s := Foot.refl
  rw [← Host.Outcome.next.inj ht]
  repeat' first
    | with_reducible assumption
    | ((with_reducible apply Foot.reg); (on_goal 1 => intro _ _))
    | ((with_reducible apply Foot.step (State.hgCtl_foot ..)); (· rfl))

end Sys2Proof.Machine
end

