-- ==== Sys2Proof/Laws/FootSleep.lean ====
section
/-! SUPPORT. What each operation of Machine/Sleep.lean can change (`Foot`). -/

namespace Sys2Proof.Machine

def fp393 : Nat := 0x6800000000000000000000000000000000000000000000000000000000000000000000000000000000000000000000000000000000000000000000000000000000000000000000000000000000000000000000000000000000000000000000000000000000000000000000000000000000000000000000000000000000000000
def fp394 : Nat := 0x28000c0000000000000000000000000000000000000000000000000000000000000000000000000000000000000000000000000000000000000000000000000000000000000000000000000000000000000000000000000000000000000000000000000000000000000000000000000000000000000000000000000000000000
def fp395 : Nat := 0x12eeddc000000000000000000001c0000000000000003afe100000000000000000001c100000000000000001000001a00206009dffc0007df000000000002004050000000000000000003c00000002186038000000000000000000000000000000008000000002180000000000334008f9602fc001f9fc9400000000000000000
def fp396 : Nat := 0x1080400000000000000000000001c0000000000000000000000000000000000000001c100000000000000000000000000000000000000000000000000000000000000000000000000000000000000000000000000000000000000000000000000000000000000000000000000000000000000000000002000000000000c840000
def fp397 : Nat := 0x12c040c000000000000000000001c0000000000000000000000000000000000000001c100000000000000000000000000000000000000000000000000000000000000000000000000000000000000000000000000000000000000000000000000000000000000000000000000000000000000000000002940000000000c840000
def fp398 : Nat := 0x100841c000000000000000000001c0000000000000000000000000000000000000001c100000000000000000000001a0020600008fc000000000000000000000000000000000000000000000000000000000000000000000000000000000000000008000000002180000000000334000000001000001280000000000000000000
def fp399 : Nat := 0x108841c000000000000000000001c0000000000000000000000000000000000000001c100000000000000000000001a0020600008fc000000000000000000000000000000000000000000000000000000000000000000000000000000000000000008000000002180000000000334000000001000001280000000006000000400
def fp400 : Nat := 0x108841c000000000000000000001c0000000000000000000000000000000000000001c100000000000000000000001a0020600008fc000000000000000000000000000000000000000000000000000000000000000000000000000000000000000008000000002180000000000334000000001000001280000000004000000400
def fp401 : Nat := 0x108841c000000000000000000001c0000000000000000000000000000000000000001c100000000000000000000001a0020600008fc000000000000000000000000000000000000000000000000000000000000000000000000000000000000000008000000002180000000000334000000001000001280000000000000000400
def fp402 : Nat := 0x16aeddc000000000000000000001c0000000000000003afe100000000000000000001c100000000000000001000001a00206009dffc0007df000000000002004050000000000000000003c00000002186038000000000000000000000000000000008000000002180000000000334008f9602fc001f9fc0000000000000001400

theorem State.sleepOn_foot (s : State) (l : Leg) (mode : Nat) : Foot fp393 s (State.sleepOn s l mode) := by
  have h : Foot fp393 s s := Foot.refl
  unfold State.sleepOn
  repeat' first
    | with_reducible assumption
    | with_reducible apply Foot.ite
    | ((with_reducible apply Foot.step (State.sendReq_foot ..)); (· rfl))
    | (fail_if_no_progress extract_lets +onlyGivenNames x; first | (refine Foot.cut x ?_ (fun hx => ?_); (on_goal 1 => subst x); (on_goal 2 => clear_value x)) | refine Foot.keepHost x ?_ | refine Foot.keepMbx x ?_ | clear_value x)
    | fail_if_no_progress ((with_reducible apply Foot.setPwr); (· rfl))
    | split

theorem State.askSleep_foot (s : State) : Foot fp393 s (State.askSleep s) := by
  have h : Foot fp393 s s := Foot.refl
  unfold State.askSleep
  repeat' first
    | with_reducible assumption
    | with_reducible apply Foot.ite
    | ((with_reducible apply Foot.step (State.sleepOn_foot ..)); (· rfl))
    | (fail_if_no_progress extract_lets +onlyGivenNames x; first | refine Foot.keepHost x ?_ | refine Foot.keepMbx x ?_ | clear_value x)
    | fail_if_no_progress ((with_reducible apply Foot.setPwr); (· rfl))
    | split

theorem State.move_foot (s : State) : Foot fp393 s (State.move s) := by
  have h : Foot fp393 s s := Foot.refl
  unfold State.move
  repeat' first
    | with_reducible assumption
    | with_reducible apply Foot.ite
    | ((with_reducible apply Foot.step (State.askSleep_foot ..)); (· rfl))
    | (fail_if_no_progress extract_lets +onlyGivenNames x; first | refine Foot.keepHost x ?_ | refine Foot.keepMbx x ?_ | clear_value x)
    | fail_if_no_progress ((with_reducible apply Foot.setPwr); (· rfl))
    | split

theorem State.sleepRetry_foot (s : State) : Foot fp393 s (State.sleepRetry s) := by
  have h : Foot fp393 s s := Foot.refl
  unfold State.sleepRetry
  repeat' first
    | with_reducible assumption
    | with_reducible apply Foot.ite
    | ((with_reducible apply Foot.step (State.askSleep_foot ..)); (· rfl))
    | split

theorem execSleepRetry_foot (s : State) (t' : State) (ht : execSleepRetry s = .next t') : Foot fp393 s t' := by
  have h : Foot fp393 s s := Foot.refl
  rw [← Host.Outcome.next.inj ht]
  repeat' first
    | with_reducible assumption
    | ((with_reducible apply Foot.step (State.sleepRetry_foot ..)); (· rfl))

theorem State.rejoinLeg_foot (s : State) (l : Leg) : Foot fp350 s (State.rejoinLeg s l) := by
  have h : Foot fp350 s s := Foot.refl
  unfold State.rejoinLeg
  repeat' first
    | with_reducible assumption
    | with_reducible apply Foot.ite
    | ((with_reducible apply Foot.upd); (· rfl); (· rfl))
    | ((with_reducible apply Foot.step (State.actCtl_foot ..)); (· rfl))
    | split

theorem State.sleepRefused_foot (s : State) : Foot fp350 s (State.sleepRefused s) := by
  have h : Foot fp350 s s := Foot.refl
  unfold State.sleepRefused
  repeat' first
    | with_reducible assumption
    | ((with_reducible apply Foot.step (State.event_foot ..)); (· rfl))
    | ((with_reducible apply Foot.step (State.rejoinLeg_foot ..)); (· rfl))
    | (fail_if_no_progress extract_lets +onlyGivenNames x; first | refine Foot.keepHost x ?_ | refine Foot.keepMbx x ?_ | clear_value x)
    | fail_if_no_progress ((with_reducible apply Foot.setReqs); (· rfl))
    | fail_if_no_progress ((with_reducible apply Foot.setPwr); (· rfl))

theorem State.closeSleep_foot (s : State) (q : Req) (status : Option Nat) : Foot fp350 s (State.closeSleep s q status) := by
  have h : Foot fp350 s s := Foot.refl
  unfold State.closeSleep
  repeat' first
    | with_reducible assumption
    | with_reducible apply Foot.ite
    | ((with_reducible apply Foot.upd); (· rfl); (· rfl))
    | ((with_reducible apply Foot.step (State.actCtl_foot ..)); (· rfl))
    | ((with_reducible apply Foot.step (State.sleepRefused_foot ..)); (· rfl))
    | (fail_if_no_progress extract_lets +onlyGivenNames x; first | refine Foot.keepHost x ?_ | refine Foot.keepMbx x ?_ | clear_value x)
    | fail_if_no_progress ((with_reducible apply Foot.setPwr); (· rfl))
    | split

theorem State.wakeAnswered_foot (s : State) : Foot fp394 s (State.wakeAnswered s) := by
  have h : Foot fp394 s s := Foot.refl
  unfold State.wakeAnswered
  repeat' first
    | with_reducible assumption
    | with_reducible apply Foot.ite
    | ((with_reducible apply Foot.upd); (· rfl); (· rfl))
    | ((with_reducible apply Foot.step (State.dropReq_foot ..)); (· rfl))
    | ((with_reducible apply Foot.step (State.withdraw_foot ..)); (· rfl))
    | (fail_if_no_progress extract_lets +onlyGivenNames x; first | refine Foot.keepHost x ?_ | refine Foot.keepMbx x ?_ | clear_value x)
    | fail_if_no_progress ((with_reducible apply Foot.setPwr); (· rfl))
    | split

theorem State.response_foot (s : State) (l : Leg) (mx : BitVec 384) : Foot fp395 s (State.response s l mx) := by
  have h : Foot fp395 s s := Foot.refl
  unfold State.response
  repeat' first
    | with_reducible assumption
    | with_reducible apply Foot.ite
    | ((with_reducible apply State.onMsg_foot); (· rfl); (on_goal 1 => intro _ _))
    | ((with_reducible apply State.fwMsg_foot); (· rfl); (on_goal 1 => intro _ _))
    | ((with_reducible apply Foot.step (State.dropReq_foot ..)); (· rfl))
    | ((with_reducible apply Foot.step (State.closeSleep_foot ..)); (· rfl))
    | ((with_reducible apply Foot.step (State.wakeAnswered_foot ..)); (· rfl))
    | (fail_if_no_progress extract_lets +onlyGivenNames x; first | refine Foot.keepHost x ?_ | refine Foot.keepMbx x ?_ | clear_value x)
    | split

theorem execResponse_foot (l : Leg) (msg : BitVec 384) (s : State) (t' : State) (ht : execResponse l msg s = .next t') : Foot fp395 s t' := by
  have h : Foot fp395 s s := Foot.refl
  rw [← Host.Outcome.next.inj ht]
  repeat' first
    | with_reducible assumption
    | ((with_reducible apply State.inFrame_foot); (· rfl); (on_goal 1 => intro _ _))
    | ((with_reducible apply Foot.step (State.response_foot ..)); (· rfl))

theorem State.requestRetry_foot (s : State) (txid : Nat) : Foot fp350 s (State.requestRetry s txid) := by
  have h : Foot fp350 s s := Foot.refl
  unfold State.requestRetry
  repeat' first
    | with_reducible assumption
    | with_reducible apply Foot.ite
    | ((with_reducible apply Foot.step (State.event_foot ..)); (· rfl))
    | ((with_reducible apply Foot.step (State.dropReq_foot ..)); (· rfl))
    | ((with_reducible apply Foot.step (State.resend_foot ..)); (· rfl))
    | ((with_reducible apply Foot.step (State.closeSleep_foot ..)); (· rfl))
    | (fail_if_no_progress extract_lets +onlyGivenNames x; first | (refine Foot.cut x ?_ (fun hx => ?_); (on_goal 1 => subst x); (on_goal 2 => clear_value x)) | (refine Foot.cut2 x ?_ (fun hx => ?_); (on_goal 1 => subst x); (on_goal 2 => clear_value x)) | refine Foot.keepHost x ?_ | refine Foot.keepMbx x ?_ | clear_value x)
    | split

theorem execRequestRetryTimer_foot (txid : Nat) (s : State) (t' : State) (ht : execRequestRetryTimer txid s = .next t') : Foot fp350 s t' := by
  have h : Foot fp350 s s := Foot.refl
  rw [← Host.Outcome.next.inj ht]
  repeat' first
    | with_reducible assumption
    | ((with_reducible apply Foot.step (State.requestRetry_foot ..)); (· rfl))

theorem State.sleepGrant_foot (s : State) (l : Leg) (cycle : Nat) (eff : Nat) : Foot fp396 s (State.sleepGrant s l cycle eff).2 := by
  have h : Foot fp396 s s := Foot.refl
  unfold State.sleepGrant
  repeat' first
    | with_reducible assumption
    | with_reducible apply Foot.ite
    | with_reducible apply Foot.ite2
    | ((with_reducible apply Foot.wr); (· rfl); (· first | exact Or.inr rfl))
    | ((with_reducible apply Foot.wr2); (· rfl); (· rfl); (· first | exact Or.inr rfl); (· first | exact Or.inr rfl))
    | ((with_reducible apply Foot.step (State.event_foot ..)); (· rfl))
    | ((with_reducible apply Foot.step (State.fieldBad_foot ..)); (· rfl))
    | (fail_if_no_progress extract_lets +onlyGivenNames x; first | refine Foot.keepHost x ?_ | refine Foot.keepMbx x ?_ | clear_value x)
    | fail_if_no_progress ((with_reducible apply Foot.setPwr); (· rfl))
    | split

theorem State.sleepEnd_foot (s : State) (l : Leg) : Foot fp394 s (State.sleepEnd s l) := by
  have h : Foot fp394 s s := Foot.refl
  unfold State.sleepEnd
  repeat' first
    | with_reducible assumption
    | with_reducible apply Foot.ite
    | ((with_reducible apply Foot.step (State.wakeCause_foot ..)); (· rfl))
    | ((with_reducible apply Foot.step (State.wakeAnswered_foot ..)); (· rfl))
    | (fail_if_no_progress extract_lets +onlyGivenNames x; first | refine Foot.keepHost x ?_ | refine Foot.keepMbx x ?_ | clear_value x)
    | fail_if_no_progress ((with_reducible apply Foot.setPwr); (· rfl))
    | split

theorem State.sleepMsg_foot (s : State) (l : Leg) (mx : BitVec 384) : Foot fp397 s (State.sleepMsg s l mx) := by
  have h : Foot fp397 s s := Foot.refl
  unfold State.sleepMsg
  repeat' first
    | with_reducible assumption
    | with_reducible apply Foot.ite
    | ((with_reducible apply State.onMsg_foot); (· rfl); (on_goal 1 => intro _ _))
    | ((with_reducible apply State.fwMsg_foot); (· rfl); (on_goal 1 => intro _ _))
    | ((with_reducible apply Foot.step (State.sleepGrant_foot ..)); (· rfl))
    | ((with_reducible apply Foot.step (State.sleepEnd_foot ..)); (· rfl))
    | split

theorem execSleep_foot (l : Leg) (msg : BitVec 384) (s : State) (t' : State) (ht : execSleep l msg s = .next t') : Foot fp397 s t' := by
  have h : Foot fp397 s s := Foot.refl
  rw [← Host.Outcome.next.inj ht]
  repeat' first
    | with_reducible assumption
    | ((with_reducible apply State.inFrame_foot); (· rfl); (on_goal 1 => intro _ _))
    | ((with_reducible apply Foot.step (State.sleepMsg_foot ..)); (· rfl))

theorem State.settleBoth_foot (s : State) : Foot fp398 s (State.settleBoth s) := by
  have h : Foot fp398 s s := Foot.refl
  unfold State.settleBoth
  repeat' first
    | with_reducible assumption
    | ((with_reducible apply Foot.step (State.settleTime_foot ..)); (· rfl))
    | ((with_reducible apply Foot.step (State.settleLanes_foot ..)); (· rfl))

theorem State.sleepStart_foot (s : State) : Foot fp399 s (State.sleepStart s) := by
  have h : Foot fp399 s s := Foot.refl
  unfold State.sleepStart
  repeat' first
    | with_reducible assumption
    | with_reducible apply Foot.ite
    | ((with_reducible apply Foot.inc); (· rfl); (· first | exact Or.inr rfl))
    | ((with_reducible apply Foot.step (State.setPower_foot ..)); (· rfl))
    | ((with_reducible apply Foot.step (State.settleBoth_foot ..)); (· rfl))
    | (fail_if_no_progress extract_lets +onlyGivenNames x; first | refine Foot.keepHost x ?_ | refine Foot.keepMbx x ?_ | clear_value x)
    | fail_if_no_progress ((with_reducible apply Foot.setPwr); (· rfl))
    | split

theorem execSleepStart_foot (s : State) (t' : State) (ht : execSleepStart s = .next t') : Foot fp399 s t' := by
  have h : Foot fp399 s s := Foot.refl
  rw [← Host.Outcome.next.inj ht]
  repeat' first
    | with_reducible assumption
    | ((with_reducible apply Foot.step (State.sleepStart_foot ..)); (· rfl))

theorem State.awakeStart_foot (s : State) : Foot fp400 s (State.awakeStart s) := by
  have h : Foot fp400 s s := Foot.refl
  unfold State.awakeStart
  repeat' first
    | with_reducible assumption
    | with_reducible apply Foot.ite
    | ((with_reducible apply Foot.inc); (· rfl); (· first | exact Or.inr rfl))
    | ((with_reducible apply Foot.step (State.setPower_foot ..)); (· rfl))
    | ((with_reducible apply Foot.step (State.settleBoth_foot ..)); (· rfl))
    | (fail_if_no_progress extract_lets +onlyGivenNames x; first | refine Foot.keepHost x ?_ | refine Foot.keepMbx x ?_ | clear_value x)
    | fail_if_no_progress ((with_reducible apply Foot.setPwr); (· rfl))
    | split

theorem execAwakeStart_foot (s : State) (t' : State) (ht : execAwakeStart s = .next t') : Foot fp400 s t' := by
  have h : Foot fp400 s s := Foot.refl
  rw [← Host.Outcome.next.inj ht]
  repeat' first
    | with_reducible assumption
    | ((with_reducible apply Foot.step (State.awakeStart_foot ..)); (· rfl))

theorem State.dozeStart_foot (s : State) : Foot fp401 s (State.dozeStart s) := by
  have h : Foot fp401 s s := Foot.refl
  unfold State.dozeStart
  repeat' first
    | with_reducible assumption
    | with_reducible apply Foot.ite
    | ((with_reducible apply Foot.step (State.setPower_foot ..)); (· rfl))
    | ((with_reducible apply Foot.step (State.settleBoth_foot ..)); (· rfl))
    | (fail_if_no_progress extract_lets +onlyGivenNames x; first | refine Foot.keepHost x ?_ | refine Foot.keepMbx x ?_ | clear_value x)
    | fail_if_no_progress ((with_reducible apply Foot.setPwr); (· rfl))
    | split

theorem execDozeStart_foot (s : State) (t' : State) (ht : execDozeStart s = .next t') : Foot fp401 s t' := by
  have h : Foot fp401 s s := Foot.refl
  rw [← Host.Outcome.next.inj ht]
  repeat' first
    | with_reducible assumption
    | ((with_reducible apply Foot.step (State.dozeStart_foot ..)); (· rfl))

theorem State.sleepEnded_foot (s : State) (code : Nat) : Foot fp402 s (State.sleepEnded s code) := by
  have h : Foot fp402 s s := Foot.refl
  unfold State.sleepEnded
  repeat' first
    | with_reducible assumption
    | with_reducible apply Foot.ite
    | ((with_reducible apply Foot.upd); (· rfl); (· rfl))
    | ((with_reducible apply Foot.step (State.event_foot ..)); (· rfl))
    | ((with_reducible apply Foot.step (State.setPower_foot ..)); (· rfl))
    | ((with_reducible apply Foot.step (State.recordWake_foot ..)); (· rfl))
    | ((with_reducible apply Foot.step (State.sendReq_foot ..)); (· rfl))
    | ((with_reducible apply Foot.step (State.rejoinLeg_foot ..)); (· rfl))
    | ((with_reducible apply Foot.step (State.settleBoth_foot ..)); (· rfl))
    | (fail_if_no_progress extract_lets +onlyGivenNames x; first | (refine Foot.cut x ?_ (fun hx => ?_); (on_goal 1 => subst x); (on_goal 2 => clear_value x)) | refine Foot.keepHost x ?_ | refine Foot.keepMbx x ?_ | clear_value x)
    | fail_if_no_progress ((with_reducible apply Foot.setPwr); (· rfl))
    | split

theorem execSleepEnded_foot (code : Nat) (s : State) (t' : State) (ht : execSleepEnded code s = .next t') : Foot fp402 s t' := by
  have h : Foot fp402 s s := Foot.refl
  rw [← Host.Outcome.next.inj ht]
  repeat' first
    | with_reducible assumption
    | ((with_reducible apply Foot.step (State.sleepEnded_foot ..)); (· rfl))

end Sys2Proof.Machine
end

