-- ==== Sys2Proof/Laws/FootFirmware.lean ====
section
/-! SUPPORT. What each operation of Machine/Firmware.lean can change (`Foot`). -/

namespace Sys2Proof.Machine

def fp403 : Nat := 0x400000000000000000000000000000000000000000000000000000000000000000000000000000000000000000000000000000000000000000000000000000000000000000000000000000000000000000000000000000000000000000000000000000000000000000000000000000000000000000000000000000000000000
def fp404 : Nat := 0x8400000000000000000000000000000000000000000000000000000000000000000000000000000000000000000000000000000000000000000000000000000000000000000000000000000000000000000000000000000000000000000000000000000000000000000000000000000000000000000000000000000000000000
def fp405 : Nat := 0x1ffc000000000000000000000000000000000000000000000000000000000000000000000000000000000000000000000000000000000000000000000000000000000000000000000000000000000000000000000000000000000000000000000000000000000000000000000000
def fp406 : Nat := 0xe000000000000000000000000000000000000000000000000000000000000000000000000000000000000000000000000000000000000000000000000000000000000000000000000000000000000000000000000000000000000000000000000000000000000000000000000000
def fp407 : Nat := 0x40000000000000000000000000000000000e000000000000000000000000000000000000000000000000000000000000000000000000000000000000000000000000000000000000000000000000000000000000000000000000000000000000000000000000000000000000000000000000000000000000000000000000000
def fp408 : Nat := 0x78000004000000000000000000000000000000000000000000000000000000000000000000000000000000000000000000000000000000000000000000000000000000000000000000000000000000000000000000000000000000000000000000000000000000000000000000000c
def fp409 : Nat := 0x200000000000000000000000000000000000000000000000000000000000000000000000000000000000000000000000000000000000000000000000000
def fp410 : Nat := 0x5140c0000000000000000000000000000000000000000000000000000000000000000000000000000000000000000000000000000000000000000000000000000200200000000000000000000000000000000000000000000000000000000000000000000000000000000000000000000000000000000000000000000000000
def fp411 : Nat := 0x105140c000000000000000000001c0000007800000400000000000000000000000001c100000000000000000000000000000000000000000000000000000000000020020000000000000000000000000000000000000000000000000000000000000000000000000000000000000000000000000000000000000000000000000c
def fp412 : Nat := 0x70000008000000000000000000000000000000000000000000000000000000000000000000000000000000000000000000000000000000000000000000000000000000000000000000000000000000000000000000000000000000000000000000000000000000000000000000000
def fp413 : Nat := 0x8000000000000000000000000000000000000000000000000000000000000000000000000000000000000000000000000000000000000000000000000000000000000000000000000000000000000000000000000000000000000000000000000000000000000000000000000000000000000000000000000000000000
def fp414 : Nat := 0x8000000000000000000000000000000000000000000000000000000000000000000000000000000000000000000000000000000000000000000000000000000000000000000000000000000000000000000000000000000000000000000000000000000000
def fp415 : Nat := 0x108000000000000000000000000000000000000000000000008000000000000000000000000000000000000000000000000000000000000000000000000000000000000000000000000000000000000000000000000000000000000000000000000000000000000000000000000000000000000000000000000000000000
def fp416 : Nat := 0x108000000000000000000000000000000000000000000000000000000000000000000000000000000000000000000000000000000000000000000000000000000000000000000000000000000000000000000000000000000000000000000000000000000000000000000000000000000000000000000000000000000000
def fp417 : Nat := 0x40000000000000000000000000000000007000000f800000000000000000000000000000000000000000000000000000000000000000000000000000000000000000000000000000000000000000000000000000000000000000000000000000000000000000000000000000000000000000000000000000000000000000000
def fp418 : Nat := 0x1040400000000000000000000001c00010000e0000000000000000000000000000001c1000000000000000000000000000000000000000000000000000000000000000000000000000000000000000000000000000000000000000000000000000000000000000000000000000000000000000000000000000000000000000000
def fp419 : Nat := 0x1040400000000000000000000001c00004007e00000f8000000000000000000000001c1000000000000000000000000000000000000000000000000000000000000000000000000000000000000000000000000000000000000000000000000000000000000000000000000000000000000000000000000000000000000000000
def fp420 : Nat := 0x105140c000000000000000000001c0001407ffffc04fc000000000000000000000001c100000000000000000000000000000000000000000000000000000000000020020000000000000000000000000000000000000000000000000000000000000000000000000000000000000000000000000000000000000000000000000c
def fp421 : Nat := 0x1028c0c000000000000000000001c00000000000000020fe000000000000000000001c1000000000000000000000000000000080000000000000000000000000000000000000000214000000000000000000000000000000000000000000000000000000000000000000000000000000000000000000000000000000000000000
def fp422 : Nat := 0x1028c0c000000000000000000001c00000000000000060fe800000000000000000001c1000000000000000000000000000000080000000000000000000000000000000000000000214000000000000000000000000000000000000000000000000000000000000000000000000000000000000000000000000000000000000000
def fp423 : Nat := 0x1040400000000000000000000001c0000100000000000000000000000000000000001c1000000000000000000000000000000000000000000000000000000000000000000000000000000000000000000000000000000000000000000000000000000000000000000000000000000000000000000000000000000000000000000
def fp424 : Nat := 0x1040400000000000000000000001c0000000000000000000000000000000000000001c1000000000000000000000000000000000000000000000000000000000000000000000000000000000000000000000000000000000000000000000000000000000000000000000000000000000000000000000000000000000000000000
def fp425 : Nat := 0x105140c000000000000000000001c0001487ffffd04fc000000000000000000000001c100000000000000000000000000000000000000000000000000000000000020020000000000000000000000000000000000000000000000000000000000000000000000000000000000000000000000000000000000000000000000000c
def fp426 : Nat := 0x1079c0c000000000000000000001c0001587ffffd04fe0fe800000000000000000001c100000000000000000000000000000008000000000000000000000000000020020000000021400000000000000000000000000000000000000000000000000000000000000000000000000000000000000000000000000000000000000c
def fp427 : Nat := 0x1879c0c000000000000000000001c0001587ffffd04fe0fe800000000000000000001c100000000000000000000000000000008000000000000000000000000000020020000000021400000000000000000000000000000000000000000000000000000000000000000000000000000000000000000000000000000000000000c
def fp428 : Nat := 0x104859c000000000000000000001c0000000000000000000000000000000000000001c1000000000000000010000000002060000000000000000000000000000000000000000000000003c00000000000000000000000000000000000000000000008000000000180000000000324008000020000000000000000000000000000
def fp429 : Nat := 0x185959c000000000000000000001c0001687ffffd04fc000000000000000000000001c1000000000000000010000000002060000000000000000000000000000000200200000000000003c0000000000000000000000000000000000000000000000800000000018000000000032400800002000000000000000000000000000c
def fp430 : Nat := 0x185140c000000000000000000001c0001487ffffd04fc000000000000000000000001c100000000000000000000000000000000000000000000000000000000000020020000000000000000000000000000000000000000000000000000000000000000000000000000000000000000000000000000000000000000000000000c
def fp431 : Nat := 0x106840c000000000000000000001c0000800000000003afe100000000000000000001c1000000000000000000000000000000080000000000000000000000000000000000000000000000000000000000000000000000000000000000000000000000000000000000000000000000000000000000000000000000000000000000
def fp432 : Nat := 0x1eefddc000000000000000000001c0000000000000003afe100000000000000000001c100000000000000001000001a00206009fffc0007df0000000000020040503c0184000000000003c00000002186038000000000000000000000000000000008000000002180000000000334008f9602fc001f9fe940000000000c840000
def fp433 : Nat := 0x1690420000000000000000000001c000000000000000000000000400b000008000e07c100000000000000000000000000000000000000000000000000000000000002c000000000000000000000000000000000000000000000000001800000006000000000000000000000000000000000000000000000000000000000200000
def fp434 : Nat := 0x1effdfc000000000000000000001c0000800000000007afe90000400b000008000e07c100000000000000001000001a00206009fffc0007ff8000000000020040503ec184000000000003c00000002186038000000000000000000001800000006008000000002180000000000334008f9603fe001f9fe940000000000ca40000
def fp435 : Nat := 0x105141c800000000000000000001c0000007800000400000000000080000000000001c100000000000000000000000000000000000000000000000000000000000020020000000000000000000000000000000000000000000000000000000000000000000000000000000000000000000000000000000000000000000000080c
def fp436 : Nat := 0x1000410800000000000000000001c0000000000000000000000000000000000000001c1000000000000000000000000000000000000000000000000000000000000000000000000000000000000000000000000000000000000000000000000000000000000000000000000000000000000000000000000000000000000000000
def fp437 : Nat := 0x1effdfc800000000000000000001c0008807800020407afe90000408b000008000e07c100000000000000001000001a00206009fffc0007ff8000000000020040503ec384000000000003c00000002186038000000000000000000001800000006008000000002180000000000334008f9603fe001f9fe940000000000ca4080c

theorem State.setFlash_foot (s : State) (f : FlashSt → FlashSt) : Foot fp403 s (State.setFlash s f) := by
  have h : Foot fp403 s s := Foot.refl
  unfold State.setFlash
  repeat' first
    | with_reducible assumption
    | (fail_if_no_progress extract_lets +onlyGivenNames x; first | refine Foot.keepHost x ?_ | refine Foot.keepMbx x ?_ | clear_value x)
    | fail_if_no_progress ((with_reducible apply Foot.setFw); (· rfl))

theorem State.program_foot (s : State) (what : Nat) (b : List Byte) : Foot fp403 s (State.program s what b) := by
  have h : Foot fp403 s s := Foot.refl
  unfold State.program
  repeat' first
    | with_reducible assumption
    | ((with_reducible apply Foot.step (State.setFlash_foot ..)); (· rfl))

theorem State.tearFlash_foot (s : State) : Foot fp404 s (State.tearFlash s) := by
  have h : Foot fp404 s s := Foot.refl
  unfold State.tearFlash
  repeat' first
    | with_reducible assumption
    | with_reducible apply Foot.ite
    | ((with_reducible apply Foot.step (State.spend_foot ..)); (· rfl))
    | ((with_reducible apply Foot.step (State.setFlash_foot ..)); (· rfl))
    | (fail_if_no_progress extract_lets +onlyGivenNames x; first | refine Foot.keepHost x ?_ | refine Foot.keepMbx x ?_ | clear_value x)
    | split

theorem State.setVerified_foot (s : State) (slot : Nat) (d : Option Nat) : Foot fp403 s (State.setVerified s slot d) := by
  have h : Foot fp403 s s := Foot.refl
  unfold State.setVerified
  repeat' first
    | with_reducible assumption
    | with_reducible apply Foot.ite
    | ((with_reducible apply Foot.step (State.setFlash_foot ..)); (· rfl))
    | ((with_reducible apply Foot.step (State.program_foot ..)); (· rfl))
    | (fail_if_no_progress extract_lets +onlyGivenNames x; first | refine Foot.keepHost x ?_ | refine Foot.keepMbx x ?_ | clear_value x)
    | split

theorem State.settleSlot_foot (s : State) (k : Nat) : Foot fp405 s (State.settleSlot s k) := by
  have h : Foot fp405 s s := Foot.refl
  unfold State.settleSlot
  repeat' first
    | with_reducible assumption
    | with_reducible apply Foot.ite
    | ((with_reducible apply Foot.wr); (· rfl); (· first | exact Or.inr rfl))
    | (fail_if_no_progress extract_lets +onlyGivenNames x; first | (refine Foot.cut x ?_ (fun hx => ?_); (on_goal 1 => subst x); (on_goal 2 => clear_value x)) | (refine Foot.cut2 x ?_ (fun hx => ?_); (on_goal 1 => subst x); (on_goal 2 => clear_value x)) | refine Foot.keepHost x ?_ | refine Foot.keepMbx x ?_ | clear_value x)
    | split

theorem State.settleRec_foot (s : State) : Foot fp406 s (State.settleRec s) := by
  have h : Foot fp406 s s := Foot.refl
  unfold State.settleRec
  repeat' first
    | with_reducible assumption
    | ((with_reducible apply Foot.wr); (· rfl); (· first | exact Or.inr rfl))
    | split

theorem State.writeRec_foot (s : State) (r : BootRec) : Foot fp407 s (State.writeRec s r) := by
  have h : Foot fp407 s s := Foot.refl
  unfold State.writeRec
  repeat' first
    | with_reducible assumption
    | ((with_reducible apply Foot.step (State.program_foot ..)); (· rfl))
    | ((with_reducible apply Foot.step (State.settleRec_foot ..)); (· rfl))
    | (fail_if_no_progress extract_lets +onlyGivenNames x; first | (refine Foot.cut x ?_ (fun hx => ?_); (on_goal 1 => subst x); (on_goal 2 => clear_value x)) | (refine Foot.cut2 x ?_ (fun hx => ?_); (on_goal 1 => subst x); (on_goal 2 => clear_value x)) | refine Foot.keepHost x ?_ | refine Foot.keepMbx x ?_ | clear_value x)
    | (rename_i he; refine Foot.cut _ (Foot.ofPair he ?_) (fun hx => ?_); (on_goal 2 => clear he))
    | split

theorem State.setFuse_foot (s : State) (f : FuseSt → FuseSt) : Foot fp403 s (State.setFuse s f) := by
  have h : Foot fp403 s s := Foot.refl
  unfold State.setFuse
  repeat' first
    | with_reducible assumption
    | (fail_if_no_progress extract_lets +onlyGivenNames x; first | refine Foot.keepHost x ?_ | refine Foot.keepMbx x ?_ | clear_value x)
    | fail_if_no_progress ((with_reducible apply Foot.setFw); (· rfl))

theorem State.settleLc_foot (s : State) : Foot fp408 s (State.settleLc s) := by
  have h : Foot fp408 s s := Foot.refl
  unfold State.settleLc
  repeat' first
    | with_reducible assumption
    | with_reducible apply Foot.ite
    | ((with_reducible apply Foot.wr); (· rfl); (· first | exact Or.inr rfl))
    | (fail_if_no_progress extract_lets +onlyGivenNames x; first | (refine Foot.cut x ?_ (fun hx => ?_); (on_goal 1 => subst x); (on_goal 2 => clear_value x)) | (refine Foot.cut2 x ?_ (fun hx => ?_); (on_goal 1 => subst x); (on_goal 2 => clear_value x)) | refine Foot.keepHost x ?_ | refine Foot.keepMbx x ?_ | clear_value x)
    | split

theorem State.wipeHeKey_foot (s : State) (l : Leg) : Foot fp409 s (State.wipeHeKey s l) := by
  have h : Foot fp409 s s := Foot.refl
  unfold State.wipeHeKey
  repeat' first
    | with_reducible assumption
    | ((with_reducible apply Foot.wr); (· rfl); (· first | exact Or.inr rfl | exact Or.inl (Leg.n_lt _)))
    | ((with_reducible apply Foot.foldl); (on_goal 1 => intro _ _ _))

theorem State.zeroiseKeys_foot (s : State) : Foot fp120 s (State.zeroiseKeys s) := by
  have h : Foot fp120 s s := Foot.refl
  unfold State.zeroiseKeys
  repeat' first
    | with_reducible assumption
    | ((with_reducible apply Foot.upd); (· rfl); (· rfl))
    | ((with_reducible apply Foot.step (State.eraseAll_foot ..)); (· rfl))

theorem State.zeroise_foot (s : State) : Foot fp410 s (State.zeroise s) := by
  have h : Foot fp410 s s := Foot.refl
  unfold State.zeroise
  repeat' first
    | with_reducible assumption
    | ((with_reducible apply Foot.step (State.setFlash_foot ..)); (· rfl))
    | ((with_reducible apply Foot.step (State.setFuse_foot ..)); (· rfl))
    | ((with_reducible apply Foot.step (State.wipeHeKey_foot ..)); (· rfl))
    | ((with_reducible apply Foot.step (State.zeroiseKeys_foot ..)); (· rfl))
    | (fail_if_no_progress extract_lets +onlyGivenNames x; first | (refine Foot.cut x ?_ (fun hx => ?_); (on_goal 1 => subst x); (on_goal 2 => clear_value x)) | refine Foot.keepHost x ?_ | refine Foot.keepMbx x ?_)
    | fail_if_no_progress ((with_reducible apply Foot.setHost); (· rfl); (· exact fun hb => ⟨hb.log, hb.errs, Nat.zero_le _⟩))
    | fail_if_no_progress ((with_reducible apply Foot.setMbx); (· rfl); (· exact fun hb => rfl))
    | fail_if_no_progress ((with_reducible apply Foot.setMbx); (· rfl); (· exact fun hb => hb))
    | fail_if_no_progress ((with_reducible apply Foot.setHost); (· rfl); (· exact fun hb => ⟨hb.log, hb.errs, hb.fwQueue⟩))

theorem State.lcWork_foot (s : State) (k : Nat) : Foot fp410 s (State.lcWork s k) := by
  have h : Foot fp410 s s := Foot.refl
  unfold State.lcWork
  repeat' first
    | with_reducible assumption
    | with_reducible apply Foot.ite
    | ((with_reducible apply Foot.step (State.setFuse_foot ..)); (· rfl))
    | ((with_reducible apply Foot.step (State.zeroise_foot ..)); (· rfl))
    | split

theorem State.lcRun_foot (s : State) (k : Nat) : Foot fp411 s (State.lcRun s k) := by
  have h : Foot fp411 s s := Foot.refl
  unfold State.lcRun
  repeat' first
    | with_reducible assumption
    | ((with_reducible apply Foot.step (State.event_foot ..)); (· rfl))
    | ((with_reducible apply Foot.step (State.setFuse_foot ..)); (· rfl))
    | ((with_reducible apply Foot.step (State.settleLc_foot ..)); (· rfl))
    | ((with_reducible apply Foot.step (State.lcWork_foot ..)); (· rfl))
    | (fail_if_no_progress extract_lets +onlyGivenNames x; first | (refine Foot.cut x ?_ (fun hx => ?_); (on_goal 1 => subst x); (on_goal 2 => clear_value x)) | (refine Foot.cut2 x ?_ (fun hx => ?_); (on_goal 1 => subst x); (on_goal 2 => clear_value x)) | refine Foot.keepHost x ?_ | refine Foot.keepMbx x ?_ | clear_value x)

theorem State.finishRetire_foot (s : State) : Foot fp411 s (State.finishRetire s) := by
  have h : Foot fp411 s s := Foot.refl
  unfold State.finishRetire
  repeat' first
    | with_reducible assumption
    | with_reducible apply Foot.ite
    | ((with_reducible apply Foot.step (State.lcRun_foot ..)); (· rfl))
    | split

theorem State.finishPending_foot (s : State) : Foot fp411 s (State.finishPending s) := by
  have h : Foot fp411 s s := Foot.refl
  unfold State.finishPending
  repeat' first
    | with_reducible assumption
    | with_reducible apply Foot.ite
    | ((with_reducible apply Foot.step (State.setFuse_foot ..)); (· rfl))
    | ((with_reducible apply Foot.step (State.lcRun_foot ..)); (· rfl))
    | (fail_if_no_progress extract_lets +onlyGivenNames x; (refine Foot.cut x ?_ (fun hx => ?_); (on_goal 1 => subst x); (on_goal 2 => clear_value x)))
    | split

theorem State.lcArm_foot (s : State) (v : Nat) : Foot fp403 s (State.lcArm s v) := by
  have h : Foot fp403 s s := Foot.refl
  unfold State.lcArm
  repeat' first
    | with_reducible assumption
    | (fail_if_no_progress extract_lets +onlyGivenNames x; first | refine Foot.keepHost x ?_ | refine Foot.keepMbx x ?_ | clear_value x)
    | fail_if_no_progress ((with_reducible apply Foot.setFw); (· rfl))

theorem execLcArm_foot (ag : Agent) (v : BitVec 32) (s : State) (t' : State) (ht : execLcArm ag v s = .next t') : Foot fp403 s t' := by
  have h : Foot fp403 s s := Foot.refl
  rw [← Host.Outcome.next.inj ht]
  repeat' first
    | with_reducible assumption
    | with_reducible apply Foot.ite
    | ((with_reducible apply Foot.reg); (on_goal 1 => intro _ _))
    | ((with_reducible apply Foot.step (State.lcArm_foot ..)); (· rfl))
    | split

theorem State.readSettings_foot (s : State) (slot : Nat) : Foot fp412 s (State.readSettings s slot) := by
  have h : Foot fp412 s s := Foot.refl
  unfold State.readSettings
  repeat' first
    | with_reducible assumption
    | ((with_reducible apply Foot.wr); (· rfl); (· first | exact Or.inr rfl))
    | (fail_if_no_progress extract_lets +onlyGivenNames x; (refine Foot.cut x ?_ (fun hx => ?_); (on_goal 1 => subst x); (on_goal 2 => clear_value x)))
    | split

theorem State.restore_foot (s : State) (x : Settings) (p : Nat → Bool) : Foot fp413 s (State.restore s x p) := by
  unfold State.restore
  refine Foot.setRegsAll (by decide) (fun hw => Tab.wf_foldl _ _ (fun t y ht => ?_) _ _ hw) Foot.refl
  split
  exact (by split <;> first | exact Tab.wf_put _ _ _ _ ht | exact ht)

theorem State.defaultOwners_foot (s : State) : Foot fp414 s (State.defaultOwners s) := by
  have h : Foot fp414 s s := Foot.refl
  unfold State.defaultOwners
  repeat' first
    | with_reducible assumption
    | with_reducible apply Foot.ite
    | ((with_reducible apply Foot.wr); (· rfl); (· first | exact Or.inr rfl))
    | ((with_reducible apply Foot.foldl); (on_goal 1 => intro _ _ _))
    | split

theorem State.restoreAll_foot (s : State) (deep : Bool) : Foot fp415 s (State.restoreAll s deep) := by
  have h : Foot fp415 s s := Foot.refl
  unfold State.restoreAll
  repeat' first
    | with_reducible assumption
    | with_reducible apply Foot.ite
    | ((with_reducible apply Foot.step (State.applyTrims_foot ..)); (· rfl))
    | ((with_reducible apply Foot.step (State.restore_foot ..)); (· rfl))
    | ((with_reducible apply Foot.step (State.defaultOwners_foot ..)); (· rfl))
    | (fail_if_no_progress extract_lets +onlyGivenNames x; first | refine Foot.keepHost x ?_ | refine Foot.keepMbx x ?_ | clear_value x)
    | split

theorem State.runReset_foot (s : State) : Foot fp416 s (State.runReset s) := by
  unfold State.runReset
  exact Foot.step (State.applyTrims_foot ..) rfl (Foot.setRegsAll (by decide) (fun hw => Tab.wf_filter _ _ _ hw) Foot.refl)

theorem State.saveSettings_foot (s : State) (schema : Nat) : Foot fp403 s (State.saveSettings s schema) := by
  have h : Foot fp403 s s := Foot.refl
  unfold State.saveSettings
  repeat' first
    | with_reducible assumption
    | with_reducible apply Foot.ite
    | ((with_reducible apply Foot.step (State.program_foot ..)); (· rfl))
    | (fail_if_no_progress extract_lets +onlyGivenNames x; first | (refine Foot.cut x ?_ (fun hx => ?_); (on_goal 1 => subst x); (on_goal 2 => clear_value x)) | (refine Foot.cut2 x ?_ (fun hx => ?_); (on_goal 1 => subst x); (on_goal 2 => clear_value x)) | refine Foot.keepHost x ?_ | refine Foot.keepMbx x ?_ | clear_value x)
    | split

theorem State.startSlot_foot (s : State) (slot : Nat) : Foot fp417 s (State.startSlot s slot) := by
  have h : Foot fp417 s s := Foot.refl
  unfold State.startSlot
  repeat' first
    | with_reducible assumption
    | with_reducible apply Foot.ite
    | ((with_reducible apply Foot.wr); (· rfl); (· first | exact Or.inr rfl))
    | ((with_reducible apply Foot.step (State.readSettings_foot ..)); (· rfl))
    | (fail_if_no_progress extract_lets +onlyGivenNames x; first | refine Foot.keepHost x ?_ | refine Foot.keepMbx x ?_ | clear_value x)
    | fail_if_no_progress ((with_reducible apply Foot.setFw); (· rfl))
    | split

theorem State.trialStep_foot (s : State) : Foot fp418 s (State.trialStep s) := by
  have h : Foot fp418 s s := Foot.refl
  unfold State.trialStep
  repeat' first
    | with_reducible assumption
    | with_reducible apply Foot.ite
    | ((with_reducible apply Foot.inc); (· rfl); (· first | exact Or.inr rfl))
    | ((with_reducible apply Foot.step (State.event_foot ..)); (· rfl))
    | ((with_reducible apply Foot.step (State.writeRec_foot ..)); (· rfl))
    | (fail_if_no_progress extract_lets +onlyGivenNames x; first | (refine Foot.cut x ?_ (fun hx => ?_); (on_goal 1 => subst x); (on_goal 2 => clear_value x)) | (refine Foot.cut2 x ?_ (fun hx => ?_); (on_goal 1 => subst x); (on_goal 2 => clear_value x)) | refine Foot.keepHost x ?_ | refine Foot.keepMbx x ?_ | clear_value x)
    | split

theorem State.fallbackTo_foot (s : State) (alt : Nat) : Foot fp419 s (State.fallbackTo s alt) := by
  have h : Foot fp419 s s := Foot.refl
  unfold State.fallbackTo
  repeat' first
    | with_reducible assumption
    | ((with_reducible apply Foot.inc); (· rfl); (· first | exact Or.inr rfl))
    | ((with_reducible apply Foot.step (State.event_foot ..)); (· rfl))
    | ((with_reducible apply Foot.step (State.writeRec_foot ..)); (· rfl))
    | ((with_reducible apply Foot.step (State.startSlot_foot ..)); (· rfl))
    | (fail_if_no_progress extract_lets +onlyGivenNames x; first | (refine Foot.cut x ?_ (fun hx => ?_); (on_goal 1 => subst x); (on_goal 2 => clear_value x)) | (refine Foot.cut2 x ?_ (fun hx => ?_); (on_goal 1 => subst x); (on_goal 2 => clear_value x)) | refine Foot.keepHost x ?_ | refine Foot.keepMbx x ?_ | clear_value x)

theorem State.bootRom_foot (s : State) (other : Bool) : Foot fp420 s (State.bootRom s other) := by
  have h : Foot fp420 s s := Foot.refl
  unfold State.bootRom
  repeat' first
    | with_reducible assumption
    | with_reducible apply Foot.ite
    | ((with_reducible apply Foot.wr); (· rfl); (· first | exact Or.inr rfl))
    | ((with_reducible apply Foot.step (State.event_foot ..)); (· rfl))
    | ((with_reducible apply Foot.step (State.settleSlot_foot ..)); (· rfl))
    | ((with_reducible apply Foot.step (State.settleRec_foot ..)); (· rfl))
    | ((with_reducible apply Foot.step (State.settleLc_foot ..)); (· rfl))
    | ((with_reducible apply Foot.step (State.finishRetire_foot ..)); (· rfl))
    | ((with_reducible apply Foot.step (State.startSlot_foot ..)); (· rfl))
    | ((with_reducible apply Foot.step (State.trialStep_foot ..)); (· rfl))
    | ((with_reducible apply Foot.step (State.fallbackTo_foot ..)); (· rfl))
    | (fail_if_no_progress extract_lets +onlyGivenNames x; first | (refine Foot.cut x ?_ (fun hx => ?_); (on_goal 1 => subst x); (on_goal 2 => clear_value x)) | (refine Foot.cut2 x ?_ (fun hx => ?_); (on_goal 1 => subst x); (on_goal 2 => clear_value x)) | refine Foot.keepHost x ?_ | refine Foot.keepMbx x ?_ | clear_value x)
    | split

theorem State.undoOp_foot (s : State) (i : Nat) : Foot fp239 s (State.undoOp s i) := by
  have h : Foot fp239 s s := Foot.refl
  unfold State.undoOp
  repeat' first
    | with_reducible assumption
    | with_reducible apply Foot.ite
    | ((with_reducible apply Foot.step (State.commitCancel_foot ..)); (· rfl))
    | split

theorem State.stopOp_foot (s : State) (i : Nat) : Foot fp421 s (State.stopOp s i) := by
  have h : Foot fp421 s s := Foot.refl
  unfold State.stopOp
  repeat' first
    | with_reducible assumption
    | with_reducible apply Foot.ite
    | ((with_reducible apply Foot.inc); (· rfl); (· first | exact Or.inr rfl))
    | ((with_reducible apply Foot.step (State.freeOp_foot ..)); (· rfl))
    | ((with_reducible apply Foot.step (State.undoOp_foot ..)); (· rfl))
    | (fail_if_no_progress extract_lets +onlyGivenNames x; first | refine Foot.keepHost x ?_ | refine Foot.keepMbx x ?_ | clear_value x)
    | fail_if_no_progress ((with_reducible apply Foot.setAdm); (· rfl))
    | split

theorem State.stopOps_foot (s : State) : Foot fp421 s (State.stopOps s) := by
  have h : Foot fp421 s s := Foot.refl
  unfold State.stopOps
  repeat' first
    | with_reducible assumption
    | with_reducible apply Foot.ite
    | ((with_reducible apply Foot.step (State.stopOp_foot ..)); (· rfl))
    | ((with_reducible apply Foot.foldl); (on_goal 1 => intro _ _ _))
    | split

theorem State.fwStop_foot (s : State) (st : Nat) : Foot fp422 s (State.fwStop s st) := by
  have h : Foot fp422 s s := Foot.refl
  unfold State.fwStop
  repeat' first
    | with_reducible assumption
    | ((with_reducible apply Foot.wr); (· rfl); (· first | exact Or.inr rfl))
    | ((with_reducible apply Foot.step (State.stopOps_foot ..)); (· rfl))

theorem State.autopilotOn_foot (s : State) : Foot fp423 s (State.autopilotOn s) := by
  have h : Foot fp423 s s := Foot.refl
  unfold State.autopilotOn
  repeat' first
    | with_reducible assumption
    | ((with_reducible apply Foot.inc); (· rfl); (· first | exact Or.inr rfl))
    | ((with_reducible apply Foot.step (State.event_foot ..)); (· rfl))
    | (fail_if_no_progress extract_lets +onlyGivenNames x; first | refine Foot.keepHost x ?_ | refine Foot.keepMbx x ?_ | clear_value x)
    | fail_if_no_progress ((with_reducible apply Foot.setFw); (· rfl))

theorem State.autopilotOff_foot (s : State) : Foot fp424 s (State.autopilotOff s) := by
  have h : Foot fp424 s s := Foot.refl
  unfold State.autopilotOff
  repeat' first
    | with_reducible assumption
    | with_reducible apply Foot.ite
    | ((with_reducible apply Foot.step (State.event_foot ..)); (· rfl))
    | (fail_if_no_progress extract_lets +onlyGivenNames x; first | refine Foot.keepHost x ?_ | refine Foot.keepMbx x ?_ | clear_value x)
    | fail_if_no_progress ((with_reducible apply Foot.setFw); (· rfl))
    | split

theorem State.restart_foot (s : State) (cause : Nat) (counted : Bool) : Foot fp425 s (State.restart s cause counted) := by
  have h : Foot fp425 s s := Foot.refl
  unfold State.restart
  repeat' first
    | with_reducible assumption
    | with_reducible apply Foot.ite
    | ((with_reducible apply Foot.wr); (· rfl); (· first | exact Or.inr rfl))
    | ((with_reducible apply Foot.inc); (· rfl); (· first | exact Or.inr rfl))
    | ((with_reducible apply Foot.step (State.event_foot ..)); (· rfl))
    | ((with_reducible apply Foot.step (State.bootRom_foot ..)); (· rfl))
    | (fail_if_no_progress extract_lets +onlyGivenNames x; first | refine Foot.keepHost x ?_ | refine Foot.keepMbx x ?_ | clear_value x)
    | fail_if_no_progress ((with_reducible apply Foot.setHost); (· rfl); (· exact fun hb => ⟨hb.log, hb.errs, Nat.zero_le _⟩))
    | fail_if_no_progress ((with_reducible apply Foot.setFw); (· rfl))
    | split

theorem State.settingsRevert_foot (s : State) : Foot fp425 s (State.settingsRevert s) := by
  have h : Foot fp425 s s := Foot.refl
  unfold State.settingsRevert
  repeat' first
    | with_reducible assumption
    | with_reducible apply Foot.ite
    | ((with_reducible apply Foot.inc); (· rfl); (· first | exact Or.inr rfl))
    | ((with_reducible apply Foot.step (State.writeRec_foot ..)); (· rfl))
    | ((with_reducible apply Foot.step (State.restart_foot ..)); (· rfl))
    | (fail_if_no_progress extract_lets +onlyGivenNames x; first | refine Foot.keepHost x ?_ | refine Foot.keepMbx x ?_ | clear_value x)
    | fail_if_no_progress ((with_reducible apply Foot.setFw); (· rfl))
    | split

theorem State.planned_foot (s : State) : Foot fp426 s (State.planned s) := by
  have h : Foot fp426 s s := Foot.refl
  unfold State.planned
  repeat' first
    | with_reducible assumption
    | with_reducible apply Foot.ite
    | ((with_reducible apply Foot.step (State.fwStop_foot ..)); (· rfl))
    | ((with_reducible apply Foot.step (State.autopilotOn_foot ..)); (· rfl))
    | ((with_reducible apply Foot.step (State.restart_foot ..)); (· rfl))
    | ((with_reducible apply Foot.step (State.settingsRevert_foot ..)); (· rfl))
    | split

theorem execPlannedAbsence_foot (s : State) (t' : State) (ht : execPlannedAbsence s = .next t') : Foot fp426 s t' := by
  have h : Foot fp426 s s := Foot.refl
  rw [← Host.Outcome.next.inj ht]
  repeat' first
    | with_reducible assumption
    | ((with_reducible apply Foot.step (State.planned_foot ..)); (· rfl))

theorem State.hbLost_foot (s : State) : Foot fp427 s (State.hbLost s) := by
  have h : Foot fp427 s s := Foot.refl
  unfold State.hbLost
  repeat' first
    | with_reducible assumption
    | with_reducible apply Foot.ite
    | ((with_reducible apply Foot.step (State.event_foot ..)); (· rfl))
    | ((with_reducible apply Foot.step (State.tearFlash_foot ..)); (· rfl))
    | ((with_reducible apply Foot.step (State.fwStop_foot ..)); (· rfl))
    | ((with_reducible apply Foot.step (State.autopilotOn_foot ..)); (· rfl))
    | ((with_reducible apply Foot.step (State.restart_foot ..)); (· rfl))
    | ((with_reducible apply Foot.step (State.settingsRevert_foot ..)); (· rfl))
    | split

theorem execHbLost_foot (s : State) (t' : State) (ht : execHbLost s = .next t') : Foot fp427 s t' := by
  have h : Foot fp427 s s := Foot.refl
  rw [← Host.Outcome.next.inj ht]
  repeat' first
    | with_reducible assumption
    | ((with_reducible apply Foot.step (State.hbLost_foot ..)); (· rfl))

theorem State.closeGrants_foot (s : State) : Foot fp428 s (State.closeGrants s) := by
  have h : Foot fp428 s s := Foot.refl
  unfold State.closeGrants
  repeat' first
    | with_reducible assumption
    | with_reducible apply Foot.ite
    | ((with_reducible apply Foot.step (State.setQuality_foot ..)); (· rfl))
    | ((with_reducible apply Foot.step (State.cutWindows_foot ..)); (· rfl))
    | (fail_if_no_progress extract_lets +onlyGivenNames x; first | refine Foot.keepHost x ?_ | refine Foot.keepMbx x ?_ | clear_value x)
    | fail_if_no_progress ((with_reducible apply Foot.setFw); (· rfl))
    | split

theorem State.autopilotExpired_foot (s : State) : Foot fp429 s (State.autopilotExpired s) := by
  have h : Foot fp429 s s := Foot.refl
  unfold State.autopilotExpired
  repeat' first
    | with_reducible assumption
    | with_reducible apply Foot.ite
    | ((with_reducible apply Foot.wr); (· rfl); (· first | exact Or.inr rfl))
    | ((with_reducible apply Foot.inc); (· rfl); (· first | exact Or.inr rfl))
    | ((with_reducible apply Foot.step (State.event_foot ..)); (· rfl))
    | ((with_reducible apply Foot.step (State.tearFlash_foot ..)); (· rfl))
    | ((with_reducible apply Foot.step (State.restart_foot ..)); (· rfl))
    | ((with_reducible apply Foot.step (State.closeGrants_foot ..)); (· rfl))
    | (fail_if_no_progress extract_lets +onlyGivenNames x; first | (refine Foot.cut x ?_ (fun hx => ?_); (on_goal 1 => subst x); (on_goal 2 => clear_value x)) | (refine Foot.cut2 x ?_ (fun hx => ?_); (on_goal 1 => subst x); (on_goal 2 => clear_value x)) | refine Foot.keepHost x ?_ | refine Foot.keepMbx x ?_ | clear_value x)
    | split

theorem execAutopilotExpired_foot (s : State) (t' : State) (ht : execAutopilotExpired s = .next t') : Foot fp429 s t' := by
  have h : Foot fp429 s s := Foot.refl
  rw [← Host.Outcome.next.inj ht]
  repeat' first
    | with_reducible assumption
    | ((with_reducible apply Foot.step (State.autopilotExpired_foot ..)); (· rfl))

theorem State.firstHbLate_foot (s : State) : Foot fp430 s (State.firstHbLate s) := by
  have h : Foot fp430 s s := Foot.refl
  unfold State.firstHbLate
  repeat' first
    | with_reducible assumption
    | with_reducible apply Foot.ite
    | ((with_reducible apply Foot.wr); (· rfl); (· first | exact Or.inr rfl))
    | ((with_reducible apply Foot.step (State.tearFlash_foot ..)); (· rfl))
    | ((with_reducible apply Foot.step (State.restart_foot ..)); (· rfl))
    | (fail_if_no_progress extract_lets +onlyGivenNames x; first | (refine Foot.cut x ?_ (fun hx => ?_); (on_goal 1 => subst x); (on_goal 2 => clear_value x)) | (refine Foot.cut2 x ?_ (fun hx => ?_); (on_goal 1 => subst x); (on_goal 2 => clear_value x)) | refine Foot.keepHost x ?_ | refine Foot.keepMbx x ?_ | clear_value x)
    | split

theorem execFirstHeartbeatLate_foot (s : State) (t' : State) (ht : execFirstHeartbeatLate s = .next t') : Foot fp430 s t' := by
  have h : Foot fp430 s s := Foot.refl
  rw [← Host.Outcome.next.inj ht]
  repeat' first
    | with_reducible assumption
    | ((with_reducible apply Foot.step (State.firstHbLate_foot ..)); (· rfl))

theorem State.endActivate_foot (s : State) (status : Nat) : Foot fp431 s (State.endActivate s status) := by
  have h : Foot fp431 s s := Foot.refl
  unfold State.endActivate
  repeat' first
    | with_reducible assumption
    | with_reducible apply Foot.ite
    | ((with_reducible apply Foot.inc); (· rfl); (· first | exact Or.inr rfl))
    | ((with_reducible apply Foot.step (State.event_foot ..)); (· rfl))
    | ((with_reducible apply Foot.step (State.endOp_foot ..)); (· rfl))
    | (fail_if_no_progress extract_lets +onlyGivenNames x; first | refine Foot.keepHost x ?_ | refine Foot.keepMbx x ?_ | clear_value x)
    | fail_if_no_progress ((with_reducible apply Foot.setFw); (· rfl))
    | split

theorem State.settleActivate_foot (s : State) : Foot fp431 s (State.settleActivate s) := by
  have h : Foot fp431 s s := Foot.refl
  unfold State.settleActivate
  repeat' first
    | with_reducible assumption
    | with_reducible apply Foot.ite
    | ((with_reducible apply Foot.step (State.event_foot ..)); (· rfl))
    | ((with_reducible apply Foot.step (State.endActivate_foot ..)); (· rfl))
    | (fail_if_no_progress extract_lets +onlyGivenNames x; first | refine Foot.keepHost x ?_ | refine Foot.keepMbx x ?_ | clear_value x)
    | split

theorem State.bankSwitch_foot (s : State) (l : Leg) : Foot fp431 s (State.bankSwitch s l) := by
  have h : Foot fp431 s s := Foot.refl
  unfold State.bankSwitch
  repeat' first
    | with_reducible assumption
    | with_reducible apply Foot.ite
    | ((with_reducible apply Foot.step (State.settleActivate_foot ..)); (· rfl))
    | (fail_if_no_progress extract_lets +onlyGivenNames x; first | refine Foot.keepHost x ?_ | refine Foot.keepMbx x ?_ | clear_value x)
    | fail_if_no_progress ((with_reducible apply Foot.setFw); (· rfl))
    | split

theorem execMicrocodeBankSwitch_foot (l : Leg) (s : State) (t' : State) (ht : execMicrocodeBankSwitch l s = .next t') : Foot fp431 s t' := by
  have h : Foot fp431 s s := Foot.refl
  rw [← Host.Outcome.next.inj ht]
  repeat' first
    | with_reducible assumption
    | ((with_reducible apply Foot.step (State.bankSwitch_foot ..)); (· rfl))

theorem State.takeBuffered_foot (s : State) (l : Leg) (mx : BitVec 384) : Foot fp432 s (State.takeBuffered s l mx) := by
  have h : Foot fp432 s s := Foot.refl
  unfold State.takeBuffered
  repeat' first
    | with_reducible assumption
    | ((with_reducible apply Foot.step (State.keyExchange_foot ..)); (· rfl))
    | ((with_reducible apply Foot.step (State.protSwitch_foot ..)); (· rfl))
    | ((with_reducible apply Foot.step (State.container_foot ..)); (· rfl))
    | ((with_reducible apply Foot.step (State.response_foot ..)); (· rfl))
    | ((with_reducible apply Foot.step (State.sleepMsg_foot ..)); (· rfl))
    | split

theorem State.takeAll_foot (s : State) : Foot fp432 s (State.takeAll s) := by
  have h : Foot fp432 s s := Foot.refl
  unfold State.takeAll
  repeat' first
    | with_reducible assumption
    | ((with_reducible apply Foot.step (State.takeBuffered_foot ..)); (· rfl))
    | ((with_reducible apply Foot.foldl); (on_goal 1 => intro _ _ _))
    | (fail_if_no_progress extract_lets +onlyGivenNames x; first | refine Foot.keepHost x ?_ | refine Foot.keepMbx x ?_ | clear_value x)
    | fail_if_no_progress ((with_reducible apply Foot.setFw); (· rfl))

theorem State.bootRefresh_foot (s : State) : Foot fp103 s (State.bootRefresh s) := by
  have h : Foot fp103 s s := Foot.refl
  unfold State.bootRefresh
  repeat' first
    | with_reducible assumption
    | ((with_reducible apply Foot.step (State.keyRefresh_foot ..)); (· rfl))
    | (fail_if_no_progress extract_lets +onlyGivenNames x; first | (refine Foot.cut x ?_ (fun hx => ?_); (on_goal 1 => subst x); (on_goal 2 => clear_value x)) | (refine Foot.cut2 x ?_ (fun hx => ?_); (on_goal 1 => subst x); (on_goal 2 => clear_value x)) | refine Foot.keepHost x ?_ | refine Foot.keepMbx x ?_ | clear_value x)

theorem State.bmcTake_foot (s : State) (target : Option Nat) : Foot fp433 s (State.bmcTake s target) := by
  have h : Foot fp433 s s := Foot.refl
  unfold State.bmcTake
  repeat' first
    | with_reducible assumption
    | with_reducible apply Foot.ite
    | ((with_reducible apply Foot.wr); (· rfl); (· first | exact Or.inr rfl))
    | ((with_reducible apply Foot.step (State.wakeCause_foot ..)); (· rfl))
    | ((with_reducible apply Foot.step (State.linkDown_foot ..)); (· rfl))
    | ((with_reducible apply Foot.step (State.move_foot ..)); (· rfl))
    | (fail_if_no_progress extract_lets +onlyGivenNames x; first | refine Foot.keepHost x ?_ | refine Foot.keepMbx x ?_ | clear_value x)
    | fail_if_no_progress ((with_reducible apply Foot.setPwr); (· rfl))
    | split

theorem State.flushEnded_foot (s : State) : Foot fp58 s (State.flushEnded s) := by
  have h : Foot fp58 s s := Foot.refl
  unfold State.flushEnded
  repeat' first
    | with_reducible assumption
    | ((with_reducible apply Foot.step (State.admPush_foot ..)); (· rfl))
    | ((with_reducible apply Foot.foldl); (on_goal 1 => intro _ _ _))
    | (fail_if_no_progress extract_lets +onlyGivenNames x; first | refine Foot.keepHost x ?_ | refine Foot.keepMbx x ?_ | clear_value x)
    | fail_if_no_progress ((with_reducible apply Foot.setAdm); (· rfl))

theorem State.fwResume_foot (s : State) : Foot fp434 s (State.fwResume s) := by
  have h : Foot fp434 s s := Foot.refl
  unfold State.fwResume
  repeat' first
    | with_reducible assumption
    | with_reducible apply Foot.ite
    | ((with_reducible apply Foot.wr); (· rfl); (· first | exact Or.inr rfl))
    | ((with_reducible apply Foot.step (State.protResume_foot ..)); (· rfl))
    | ((with_reducible apply Foot.step (State.safeRelease_foot ..)); (· rfl))
    | ((with_reducible apply Foot.step (State.retireLeg_foot ..)); (· rfl))
    | ((with_reducible apply Foot.step (State.move_foot ..)); (· rfl))
    | ((with_reducible apply Foot.step (State.settleActivate_foot ..)); (· rfl))
    | ((with_reducible apply Foot.step (State.takeAll_foot ..)); (· rfl))
    | ((with_reducible apply Foot.step (State.bootRefresh_foot ..)); (· rfl))
    | ((with_reducible apply Foot.step (State.bmcTake_foot ..)); (· rfl))
    | ((with_reducible apply Foot.step (State.flushEnded_foot ..)); (· rfl))
    | ((with_reducible apply Foot.foldl); (on_goal 1 => intro _ _ _))
    | (fail_if_no_progress extract_lets +onlyGivenNames x; first | (refine Foot.cut x ?_ (fun hx => ?_); (on_goal 1 => subst x); (on_goal 2 => clear_value x)) | refine Foot.keepHost x ?_ | refine Foot.keepMbx x ?_ | clear_value x)
    | fail_if_no_progress ((with_reducible apply Foot.setFw); (· rfl))
    | fail_if_no_progress ((with_reducible apply Foot.setPwr); (· rfl))
    | split

theorem State.firstBoot_foot (s : State) : Foot fp435 s (State.firstBoot s) := by
  have h : Foot fp435 s s := Foot.refl
  unfold State.firstBoot
  repeat' first
    | with_reducible assumption
    | with_reducible apply Foot.ite
    | ((with_reducible apply Foot.wr); (· rfl); (· first | exact Or.inr rfl))
    | ((with_reducible apply Foot.step (State.event_foot ..)); (· rfl))
    | ((with_reducible apply Foot.step (State.finishPending_foot ..)); (· rfl))
    | ((with_reducible apply Foot.step (State.restoreAll_foot ..)); (· rfl))
    | (fail_if_no_progress extract_lets +onlyGivenNames x; first | refine Foot.keepHost x ?_ | refine Foot.keepMbx x ?_ | clear_value x)
    | fail_if_no_progress ((with_reducible apply Foot.setFw); (· rfl))
    | split

theorem State.restarted_foot (s : State) : Foot fp436 s (State.restarted s) := by
  have h : Foot fp436 s s := Foot.refl
  unfold State.restarted
  repeat' first
    | with_reducible assumption
    | with_reducible apply Foot.ite
    | ((with_reducible apply Foot.step (State.event_foot ..)); (· rfl))
    | ((with_reducible apply Foot.step (State.runReset_foot ..)); (· rfl))
    | split

theorem State.heartbeat_foot (s : State) (v : Nat) : Foot fp437 s (State.heartbeat s v) := by
  have h : Foot fp437 s s := Foot.refl
  unfold State.heartbeat
  repeat' first
    | with_reducible assumption
    | with_reducible apply Foot.ite
    | ((with_reducible apply Foot.wr); (· rfl); (· first | exact Or.inr rfl))
    | ((with_reducible apply Foot.inc); (· rfl); (· first | exact Or.inr rfl))
    | ((with_reducible apply Foot.step (State.autopilotOff_foot ..)); (· rfl))
    | ((with_reducible apply Foot.step (State.fwResume_foot ..)); (· rfl))
    | ((with_reducible apply Foot.step (State.firstBoot_foot ..)); (· rfl))
    | ((with_reducible apply Foot.step (State.restarted_foot ..)); (· rfl))
    | (fail_if_no_progress extract_lets +onlyGivenNames x; refine Foot.keepHost x ?_)
    | fail_if_no_progress ((with_reducible apply Foot.setHost); (· rfl); (· exact fun hb => ⟨hb.log, hb.errs, Nat.zero_le _⟩))
    | fail_if_no_progress ((with_reducible apply Foot.setHost); (· rfl); (· exact fun hb => ⟨hb.log, hb.errs, hb.fwQueue⟩))
    | split

theorem execHeartbeat_foot (v : BitVec 16) (s : State) (t' : State) (ht : execHeartbeat v s = .next t') : Foot fp437 s t' := by
  have h : Foot fp437 s s := Foot.refl
  rw [← Host.Outcome.next.inj ht]
  repeat' first
    | with_reducible assumption
    | ((with_reducible apply Foot.inDom); (on_goal 1 => intro _ _))
    | ((with_reducible apply Foot.step (State.heartbeat_foot ..)); (· rfl))

theorem State.trialExpiry_foot (s : State) : Foot fp426 s (State.trialExpiry s) := by
  have h : Foot fp426 s s := Foot.refl
  unfold State.trialExpiry
  repeat' first
    | with_reducible assumption
    | with_reducible apply Foot.ite
    | ((with_reducible apply Foot.inc); (· rfl); (· first | exact Or.inr rfl))
    | ((with_reducible apply Foot.step (State.event_foot ..)); (· rfl))
    | ((with_reducible apply Foot.step (State.writeRec_foot ..)); (· rfl))
    | ((with_reducible apply Foot.step (State.planned_foot ..)); (· rfl))
    | (fail_if_no_progress extract_lets +onlyGivenNames x; first | (refine Foot.cut x ?_ (fun hx => ?_); (on_goal 1 => subst x); (on_goal 2 => clear_value x)) | (refine Foot.cut2 x ?_ (fun hx => ?_); (on_goal 1 => subst x); (on_goal 2 => clear_value x)) | refine Foot.keepHost x ?_ | refine Foot.keepMbx x ?_ | clear_value x)
    | split

theorem execTrialWindowExpiry_foot (s : State) (t' : State) (ht : execTrialWindowExpiry s = .next t') : Foot fp426 s t' := by
  have h : Foot fp426 s s := Foot.refl
  rw [← Host.Outcome.next.inj ht]
  repeat' first
    | with_reducible assumption
    | ((with_reducible apply Foot.step (State.trialExpiry_foot ..)); (· rfl))

end Sys2Proof.Machine
end

