-- ==== Sys2Proof/Laws/FootAdmin.lean ====
section
/-! SUPPORT. What each operation of Machine/Admin.lean can change (`Foot`). -/

namespace Sys2Proof.Machine

def fp438 : Nat := 0x1020400000000000000000000001c0000000000000000300101000000000000000001c1000000000000000000000000000000000000000000000000000000000000000000000000000000000000000000000000000000000000000000000000000000000000000000000000000000000000000000000000000000000000000000
def fp439 : Nat := 0x1060400000000000000000000001c0000000000000000300101000000000000000001c1000000000000000000000000000000000000000000000000000000000000000000000000000000000000000000000000000000000000000000000000000000000000000000000000000000000000000000000000000000000000000000
def fp440 : Nat := 0x1021400000000000000000000001c0000000000000000300101000003000008000001c1000000000000000000000000000000000000000000000000000000000000020000000000000000000000000000000000000000000000000000000000000000000000000000000000000000000000000000000000000000000000000000
def fp441 : Nat := 0x1021400000000000000000000001c0000000000000000300101000000000000000001c1000000000000000000000000000000000000000000000000000000000000220000000000000000000000000000000000000000000000000000000000000000000000000000000000000000000000000000000000000000000000000000
def fp442 : Nat := 0x1040400000000000000000000001c00000000e0000010000000000000000000000001c1000000000000000000000000000000000000000000000000000000000000000000000000000000000000000000000000000000000000000000000000000000000000000000000000000000000000000000000000000000000000000000
def fp443 : Nat := 0x1060400000000000000000000001c00000000e0000010300101000000000000000001c1000000000000000000000000000000000000000000000000000000000000000000000000000000000000000000000000000000000000000000000000000000000000000000000000000000000000000000000000000000000000000000
def fp444 : Nat := 0x107140c000000000000000000001c0000007800000400300101000000000000000001c100000000000000000000000000000000000000000000000000000000000020020000000000000000000000000000000000000000000000000000000000000000000000000000000000000000000000000000000000000000000000000c
def fp445 : Nat := 0x400000000000000000000000000000000781ffc04000000000000000000000000000000000000000000000000000000000000000000000000000000000000000000000000000000000000000000000000000000000000000000000000000000000000000000000000000000000000000000000000000000000000000000000c
def fp446 : Nat := 0x1060400000000000000000000001c000000781ffc0400300101000003000008000001c100000000000000000000000000000000000000000000000000000000000000000000000000000000000000000000000000000000000000000000000000000000000000000000000000000000000000000000000000000000000000000c
def fp447 : Nat := 0x1028400000000000000000000001c00000000000000006ae100000000000000000001c1000000000000000000000000000000080000000000000000000000000000000000000000000000000000000000000000000000000000000000000000000000000000000000000000000000000000000000000000000000000000000000
def fp448 : Nat := 0x1028400000000000000000000001c00000000000000007ae101000000000000000001c1000000000000000000000000000000080000000000000000000000000000000000000000000000000000000000000000000000000000000000000000000000000000000000000000000000000000000000000000000000000000000000
def fp449 : Nat := 0x1020400000000000000000000001c0000000000000000308101000000000000000001c1000000000000000000000000000000000000000000000000000000000000000000000000000000000000000000000000000000000000000000000000000000000000000000000000000000000000000000000000000000000000000000
def fp450 : Nat := 0x200000000000000000000000000000000000000000005800000000000000000000000000000000000000000000000000000000000000000000000000000000000000000000000000000000000000000000000000000000000000000000000000000000000000000000000000000000000000000000000000000000000000000
def fp451 : Nat := 0x1020400000000000000000000001c0000000000000000358101000000000000000001c1000000000000000000000000000000000000000000000000000000000000000000000000000000000000000000000000000000000000000000000000000000000000000000000000000000000000000000000000000000000000000000
def fp452 : Nat := 0x400000000000000000000000000000000001ffc000004000000000000000000000000000000000000000000000000000000000000000000000000000000000000000000000000000000000000000000000000000000000000000000000000000000000000000000000000000000000000000000000000000000000000000000
def fp453 : Nat := 0x1068400000000000000000000001c000000001ffc00006ee100000003000008000001c1000000000000000000000000000000080000000000000000000000000000000000000000000000000000000000000000000000000000000000000000000000000000000000000000000000000000000000000000000000000000000000
def fp454 : Nat := 0x1068400000000000000000000001c000000001ffc00007ee101000003000008000001c1000000000000000000000000000000080000000000000000000000000000000000000000000000000000000000000000000000000000000000000000000000000000000000000000000000000000000000000000000000000000000000
def fp455 : Nat := 0x106840c000000000000000000001c00010000e0000003afe100000000000000000001c1000000000000000000000000000000080000000000000000000000000000000000000000000000000000000000000000000000000000000000000000000000000000000000000000000000000000000000000000000000000000000000
def fp456 : Nat := 0x1028c0c000000000000000000001c00000000000000027fe101000000000000000001c1000000000000000000000000000000080000000000000000000000000000000000000000214000000000000000000000000000000000000000000000000000000000000000000000000000000000000000000000000000000000000000
def fp457 : Nat := 0x1028c00000000000000000000001c00000000000000007ae101000000000000000001c1000000000000000000000000000000080000000000000000000000000000000000000001214000000000000000000000000000000000000000000000000000000000000000000000000000000000000000000000000000000000000000
def fp458 : Nat := 0x102840c000000000000000000001c00000000000000007ae101000000000000000001c1000000000000000000000000000000080000000000000000000000000000000000000000000000000000000000000000000000000000000000000000000000000000000000000000000000000000000000000000000000000000000000
def fp459 : Nat := 0x5000000000000000000000000000000000000000000000000000000000000000000000000000000000000000000000000000000000000000000000000000000000000000000000000000000000000000000000000000000000000000000000000000000000000000000
def fp460 : Nat := 0x106840c000000000000000000001c000200001ffc0003afe100000003000008000001c1000000000000000000000000000000080000000000000000000000000000000000000000000000000000000000000000000000000000000000000000000000000000000000000000000000000000000000000000000000000000000000
def fp461 : Nat := 0x1020c00000000000000000000001c0000000000000000000000000000000000000001c1000000000000000000000000000000000000000000000000000000000000000000000001214000000000000000000000000000000000000000000000000000000000000000000000000000000000000000000000000000000000000000
def fp462 : Nat := 0x1028c0c000000000000000000001c0000000000000003afe100000000000000000001c1000000000000000000000000000000080000000000000000000000000000000000000000214000000000000000000000000000000000000000000000000000000000000000000000000000000000000000000000000000000000000000
def fp463 : Nat := 0x1028c0c000000000000000000001c0000000000000003afe100000000000000000001c1000000000000000000000000000000080000000000000000000000000000000000000001214000000000000000000000000000000000000000000000000000000000000000000000000000000000000000000000000000000000000000
def fp464 : Nat := 0x1028c0c000000000000000000001c0000000000000003afe100000003000008000001c1000000000000000000000000000000080000000000000000000000000000000000000001214000000000000000000000000000000000000000000000000000000000000000000000000000000000000000000000000000000000000000
def fp465 : Nat := 0x1068c0c000000000000000000001c000200001ffc0003afe100000003000008000001c1000000000000000000000000000000080000000000000000000000000000000000000001214000000000000000000000000000000000000000000000000000000000000000000000000000000000000000000000000000000000000000
def fp466 : Nat := 0x1068c0c000000000000000000001c00010000e0000003afe100000000000000000001c1000000000000000000000000000000080000000000000000000000000000000000000000214000000000000000000000000000000000000000000000000000000000000000000000000000000000000000000000000000000000000000
def fp467 : Nat := 0x106840c000000000000000000001c000400001ffc0003afe100000000000000000001c1000000000000000000000000000000080000000000000000000000000000000000000000000000000000000000000000000000000000000000000000000000000000000000000000000000000000000000000000000000000000000000
def fp468 : Nat := 0x102841c000000000000000000001c0000000000000003afe100000000000000000001c100000000000000000000000000000008000000000000000000000000000000000000000000000000000000000000000000000000000000000000000000000000001f006180000000000310000000000000000000000000000000000000
def fp469 : Nat := 0xc00000000000000000000000000000000000000000000000000000000000000000000000000000000000000000000000000000000000000000000000000000000000000000000000000000000000000000000000000000000000000000000000001f0000000000000000000000000000000000000000000000000000000
def fp470 : Nat := 0x182840c000000000000000000001c0000000000000003afe100000000000000000001c10000000000000000000000000000000800000000000000000000000000000000000000000000000000000000000000000000000000000000000000000000000001f0000000000000000000000000000000000000000000000000000000
def fp471 : Nat := 0x1aeeddc000000000000000000001c000400001ffc0003afe100000000000000000001c100000000000000001000001a00206009dffd8007df000000000002004050000000000000214003c000000021860380000000000000000000000000000000080001ff006180000000000334008f9602fc001f9fc0000000000000000000

theorem State.admTake_foot {m : Nat} {s t : State} {e : List Byte} {op : Nat} {used : List (Nat × Nat)}
    {f : State → Option (Nat × Nat) × State} (hm : fp438 ||| m = m) (hf : ∀ x, Foot m s x → Foot m s (f x).2) (h : Foot m s t) :
    Foot m s (State.admTake t e op used f) := by
  have hd : ∀ v a b c, Foot fp438 v (State.admDone v a b c) := fun v a b c => (State.admDone_foot ..).mono rfl
  have hi : ∀ v, Foot fp438 v (v.inc Reg.ADM_CNT_COMMANDS) := fun v => Foot.inc rfl (Or.inr rfl) Foot.refl
  have hw : ∀ v n, Foot fp438 v (v.wr Reg.ADM_SQ_IDX_SQ_CONS n) := fun v n => Foot.wr rfl (Or.inr rfl) Foot.refl
  unfold State.admTake
  refine Foot.ite h ?_
  extract_lets +onlyGivenNames y
  have hy : Foot m s y := Foot.step (hw ..) hm (Foot.step (hi _) hm h)
  clear_value y
  split
  · exact Foot.step (hd ..) hm hy
  · split
    · exact Foot.step (hd ..) hm hy
    · have hz := hf y hy
      split
      · rename_i he
        exact Foot.step (hd ..) hm (Foot.ofPair he hz)
      · rename_i he
        exact Foot.ofPair he hz

theorem execNop_foot (e : List Byte) (s : State) (t' : State) (ht : execNop e s = .next t') : Foot fp438 s t' := by
  have h : Foot fp438 s s := Foot.refl
  rw [← Host.Outcome.next.inj ht]
  repeat' first
    | with_reducible assumption
    | ((with_reducible apply State.admTake_foot); (· rfl); (on_goal 1 => intro _ _))

theorem State.admWrite_foot (s : State) (addr : Nat) (data : List Byte) : Foot fp3 s (State.admWrite s addr data).2 := by
  have h : Foot fp3 s s := Foot.refl
  unfold State.admWrite
  repeat' first
    | with_reducible assumption
    | with_reducible apply Foot.ite
    | with_reducible apply Foot.ite2
    | ((with_reducible apply Foot.step (State.emits_foot ..)); (· rfl))
    | split

theorem State.admRead_foot (s : State) (addr : Nat) (n : Nat) (r : HostRead) : Foot fp10 s (State.admRead s addr n r).2 := by
  have h : Foot fp10 s s := Foot.refl
  unfold State.admRead
  repeat' first
    | with_reducible assumption
    | with_reducible apply Foot.ite
    | with_reducible apply Foot.ite2
    | ((with_reducible apply Foot.step (State.askHost_foot ..)); (· rfl))
    | ((with_reducible apply Foot.step (State.readFault_foot ..)); (· rfl))
    | (fail_if_no_progress extract_lets +onlyGivenNames x; first | (refine Foot.cut x ?_ (fun hx => ?_); (on_goal 1 => subst x); (on_goal 2 => clear_value x)) | refine Foot.keepHost x ?_ | refine Foot.keepMbx x ?_ | clear_value x)
    | split

theorem execIdentify_foot (e : List Byte) (s : State) (t' : State) (ht : execIdentify e s = .next t') : Foot fp438 s t' := by
  have h : Foot fp438 s s := Foot.refl
  rw [← Host.Outcome.next.inj ht]
  repeat' first
    | with_reducible assumption
    | ((with_reducible apply State.admTake_foot); (· rfl); (on_goal 1 => intro _ _))
    | ((with_reducible apply Foot.step (State.admWrite_foot ..)); (· rfl))
    | (fail_if_no_progress extract_lets +onlyGivenNames x; first | (refine Foot.cut x ?_ (fun hx => ?_); (on_goal 1 => subst x); (on_goal 2 => clear_value x)) | (refine Foot.cut2 x ?_ (fun hx => ?_); (on_goal 1 => subst x); (on_goal 2 => clear_value x)) | refine Foot.keepHost x ?_ | refine Foot.keepMbx x ?_ | clear_value x)
    | (rename_i he; refine Foot.cut _ (Foot.ofPair he ?_) (fun hx => ?_); (on_goal 2 => clear he))
    | split

theorem execQueryOp_foot (e : List Byte) (s : State) (t' : State) (ht : execQueryOp e s = .next t') : Foot fp438 s t' := by
  have h : Foot fp438 s s := Foot.refl
  rw [← Host.Outcome.next.inj ht]
  repeat' first
    | with_reducible assumption
    | ((with_reducible apply State.admTake_foot); (· rfl); (on_goal 1 => intro _ _))
    | split

theorem State.saveNow_foot (s : State) : Foot fp403 s (State.saveNow s) := by
  have h : Foot fp403 s s := Foot.refl
  unfold State.saveNow
  repeat' first
    | with_reducible assumption
    | with_reducible apply Foot.ite
    | ((with_reducible apply Foot.step (State.saveSettings_foot ..)); (· rfl))
    | (fail_if_no_progress extract_lets +onlyGivenNames x; first | (refine Foot.cut x ?_ (fun hx => ?_); (on_goal 1 => subst x); (on_goal 2 => clear_value x)) | (refine Foot.cut2 x ?_ (fun hx => ?_); (on_goal 1 => subst x); (on_goal 2 => clear_value x)) | refine Foot.keepHost x ?_ | refine Foot.keepMbx x ?_ | clear_value x)
    | split

theorem execSettingsSave_foot (e : List Byte) (s : State) (t' : State) (ht : execSettingsSave e s = .next t') : Foot fp439 s t' := by
  have h : Foot fp439 s s := Foot.refl
  rw [← Host.Outcome.next.inj ht]
  repeat' first
    | with_reducible assumption
    | with_reducible apply Foot.ite
    | ((with_reducible apply State.admTake_foot); (· rfl); (on_goal 1 => intro _ _))
    | ((with_reducible apply Foot.step (State.saveNow_foot ..)); (· rfl))
    | split

theorem execKeyLoadCmd_foot (e : List Byte) (key : HostRead) (s : State) (t' : State) (ht : execKeyLoadCmd e key s = .next t') : Foot fp440 s t' := by
  have h : Foot fp440 s s := Foot.refl
  rw [← Host.Outcome.next.inj ht]
  repeat' first
    | with_reducible assumption
    | with_reducible apply Foot.ite
    | ((with_reducible apply Foot.step (State.loadLookaside_foot ..)); (· rfl))
    | ((with_reducible apply Foot.step (State.countDenied_foot ..)); (· rfl))
    | ((with_reducible apply State.admTake_foot); (· rfl); (on_goal 1 => intro _ _))
    | ((with_reducible apply Foot.step (State.admRead_foot ..)); (· rfl))
    | (fail_if_no_progress extract_lets +onlyGivenNames x; first | refine Foot.keepHost x ?_ | refine Foot.keepMbx x ?_ | clear_value x)
    | (rename_i he; refine Foot.cut _ (Foot.ofPair he ?_) (fun hx => ?_); (on_goal 2 => clear he))
    | split

theorem execKeyErase_foot (e : List Byte) (s : State) (t' : State) (ht : execKeyErase e s = .next t') : Foot fp441 s t' := by
  have h : Foot fp441 s s := Foot.refl
  rw [← Host.Outcome.next.inj ht]
  repeat' first
    | with_reducible assumption
    | ((with_reducible apply Foot.step (State.eraseNamed_foot ..)); (· rfl))
    | ((with_reducible apply Foot.step (State.countDenied_foot ..)); (· rfl))
    | ((with_reducible apply State.admTake_foot); (· rfl); (on_goal 1 => intro _ _))
    | (fail_if_no_progress extract_lets +onlyGivenNames x; first | (refine Foot.cut x ?_ (fun hx => ?_); (on_goal 1 => subst x); (on_goal 2 => clear_value x)) | (refine Foot.cut2 x ?_ (fun hx => ?_); (on_goal 1 => subst x); (on_goal 2 => clear_value x)) | refine Foot.keepHost x ?_ | refine Foot.keepMbx x ?_ | clear_value x)
    | (rename_i he; refine Foot.cut _ (Foot.ofPair he ?_) (fun hx => ?_); (on_goal 2 => clear he))
    | split

theorem State.confirm_foot (s : State) : Foot fp442 s (State.confirm s) := by
  have h : Foot fp442 s s := Foot.refl
  unfold State.confirm
  repeat' first
    | with_reducible assumption
    | with_reducible apply Foot.ite
    | ((with_reducible apply Foot.wr); (· rfl); (· first | exact Or.inr rfl))
    | ((with_reducible apply Foot.step (State.event_foot ..)); (· rfl))
    | ((with_reducible apply Foot.step (State.writeRec_foot ..)); (· rfl))
    | ((with_reducible apply Foot.step (State.saveSettings_foot ..)); (· rfl))
    | (fail_if_no_progress extract_lets +onlyGivenNames x; first | (refine Foot.cut x ?_ (fun hx => ?_); (on_goal 1 => subst x); (on_goal 2 => clear_value x)) | (refine Foot.cut2 x ?_ (fun hx => ?_); (on_goal 1 => subst x); (on_goal 2 => clear_value x)) | refine Foot.keepHost x ?_ | refine Foot.keepMbx x ?_ | clear_value x)
    | split

theorem execFwConfirm_foot (e : List Byte) (s : State) (t' : State) (ht : execFwConfirm e s = .next t') : Foot fp443 s t' := by
  have h : Foot fp443 s s := Foot.refl
  rw [← Host.Outcome.next.inj ht]
  repeat' first
    | with_reducible assumption
    | with_reducible apply Foot.ite
    | ((with_reducible apply State.admTake_foot); (· rfl); (on_goal 1 => intro _ _))
    | ((with_reducible apply Foot.step (State.confirm_foot ..)); (· rfl))
    | split

theorem execLcTransition_foot (e : List Byte) (s : State) (t' : State) (ht : execLcTransition e s = .next t') : Foot fp444 s t' := by
  have h : Foot fp444 s s := Foot.refl
  rw [← Host.Outcome.next.inj ht]
  repeat' first
    | with_reducible assumption
    | ((with_reducible apply Foot.step (State.lcRun_foot ..)); (· rfl))
    | ((with_reducible apply State.admTake_foot); (· rfl); (on_goal 1 => intro _ _))
    | split

theorem State.enrol_foot (s : State) (key : List Byte) : Foot fp445 s (State.enrol s key).2 := by
  have h : Foot fp445 s s := Foot.refl
  unfold State.enrol
  repeat' first
    | with_reducible assumption
    | with_reducible apply Foot.ite
    | with_reducible apply Foot.ite2
    | ((with_reducible apply Foot.step (State.setVerified_foot ..)); (· rfl))
    | ((with_reducible apply Foot.step (State.settleSlot_foot ..)); (· rfl))
    | ((with_reducible apply Foot.step (State.setFuse_foot ..)); (· rfl))
    | ((with_reducible apply Foot.step (State.settleLc_foot ..)); (· rfl))
    | (fail_if_no_progress extract_lets +onlyGivenNames x; first | (refine Foot.cut x ?_ (fun hx => ?_); (on_goal 1 => subst x); (on_goal 2 => clear_value x)) | (refine Foot.cut2 x ?_ (fun hx => ?_); (on_goal 1 => subst x); (on_goal 2 => clear_value x)) | refine Foot.keepHost x ?_ | refine Foot.keepMbx x ?_ | clear_value x)
    | split

theorem execCosignEnrol_foot (e : List Byte) (key : HostRead) (s : State) (t' : State) (ht : execCosignEnrol e key s = .next t') : Foot fp446 s t' := by
  have h : Foot fp446 s s := Foot.refl
  rw [← Host.Outcome.next.inj ht]
  repeat' first
    | with_reducible assumption
    | with_reducible apply Foot.ite
    | ((with_reducible apply State.admTake_foot); (· rfl); (on_goal 1 => intro _ _))
    | ((with_reducible apply Foot.step (State.admRead_foot ..)); (· rfl))
    | ((with_reducible apply Foot.step (State.enrol_foot ..)); (· rfl))
    | (fail_if_no_progress extract_lets +onlyGivenNames x; first | refine Foot.keepHost x ?_ | refine Foot.keepMbx x ?_ | clear_value x)
    | (rename_i he; refine Foot.cut _ (Foot.ofPair he ?_) (fun hx => ?_); (on_goal 2 => clear he))
    | split

theorem State.startLong_foot {m : Nat} {s t : State} {e : List Byte} {r : Option Nat} {n : Nat} {go : State → Nat → State}
    (hm : fp447 ||| m = m) (hf : ∀ x i, Foot m s x → Foot m s (go x i)) (h : Foot m s t) : Foot m s (State.startLong t e r n go) := by
  have hd : ∀ v a b c, Foot fp447 v (State.admDone v a b c) := fun v a b c => (State.admDone_foot ..).mono rfl
  unfold State.startLong
  split
  · exact Foot.step (hd ..) hm h
  · split
    · exact Foot.step (hd ..) hm h
    · rename_i i hi
      refine hf _ i (Foot.step (t := t) (a := fp447) ?_ hm h)
      have h : Foot fp447 t t := Foot.refl
      clear hi hd
      repeat' first
        | with_reducible assumption
        | ((with_reducible apply Foot.wr); (· rfl); (· exact Or.inr rfl))
        | ((with_reducible apply Foot.inc); (· rfl); (· exact Or.inr rfl))
        | ((with_reducible apply Foot.step (State.setOp_foot ..)); (· rfl))
        | ((with_reducible apply Foot.step (State.admPush_foot ..)); (· rfl))
        | ((with_reducible apply Foot.step (State.testBegin_foot ..)); (· rfl))
        | (fail_if_no_progress extract_lets +onlyGivenNames x; clear_value x)
        | fail_if_no_progress ((with_reducible apply Foot.setAdm); (· rfl))
        | split

theorem State.longTake_foot {m : Nat} {s t : State} {e : List Byte} {op : Nat} {used : List (Nat × Nat)} {r : State → Option Nat}
    {n : State → Nat} {go : State → Nat → State} (hm : fp448 ||| m = m) (hf : ∀ x i, Foot m s x → Foot m s (go x i)) (h : Foot m s t) :
    Foot m s (State.longTake t e op used r n go) := by
  unfold State.longTake
  exact State.admTake_foot (mask_trans (b := fp448) rfl hm)
    (fun x hx => State.startLong_foot (mask_trans (b := fp448) rfl hm) hf hx) h

theorem State.onHandle_foot {m : Nat} {s t : State} {e : List Byte} {op : Nat} {f : State → Nat → Option (Nat × Nat) × State}
    (hm : fp438 ||| m = m) (hf : ∀ x i, Foot m s x → Foot m s (f x i).2) (h : Foot m s t) : Foot m s (State.onHandle t e op f) := by
  unfold State.onHandle
  refine State.admTake_foot (mask_trans (b := fp438) rfl hm) (fun x hx => ?_) h
  split
  · exact hx
  · exact hf x _ hx

theorem execSuspend_foot (e : List Byte) (s : State) (t' : State) (ht : execSuspend e s = .next t') : Foot fp449 s t' := by
  have h : Foot fp449 s s := Foot.refl
  rw [← Host.Outcome.next.inj ht]
  repeat' first
    | with_reducible assumption
    | with_reducible apply Foot.ite
    | ((with_reducible apply Foot.wr); (· rfl); (· first | exact Or.inr rfl))
    | ((with_reducible apply Foot.step (State.setOp_foot ..)); (· rfl))
    | ((with_reducible apply State.onHandle_foot); (· rfl); (on_goal 1 => intro _ _ _))
    | split

theorem State.resumeOpAt_foot (s : State) (i : Nat) : Foot fp450 s (State.resumeOpAt s i) := by
  have h : Foot fp450 s s := Foot.refl
  unfold State.resumeOpAt
  repeat' first
    | with_reducible assumption
    | with_reducible apply Foot.ite
    | ((with_reducible apply Foot.wr); (· rfl); (· first | exact Or.inr rfl))
    | ((with_reducible apply Foot.step (State.setOp_foot ..)); (· rfl))
    | (fail_if_no_progress extract_lets +onlyGivenNames x; first | (refine Foot.cut x ?_ (fun hx => ?_); (on_goal 1 => subst x); (on_goal 2 => clear_value x)) | (refine Foot.cut2 x ?_ (fun hx => ?_); (on_goal 1 => subst x); (on_goal 2 => clear_value x)) | refine Foot.keepHost x ?_ | refine Foot.keepMbx x ?_ | clear_value x)
    | split

theorem execResumeOp_foot (e : List Byte) (s : State) (t' : State) (ht : execResumeOp e s = .next t') : Foot fp451 s t' := by
  have h : Foot fp451 s s := Foot.refl
  rw [← Host.Outcome.next.inj ht]
  repeat' first
    | with_reducible assumption
    | with_reducible apply Foot.ite
    | ((with_reducible apply State.onHandle_foot); (· rfl); (on_goal 1 => intro _ _ _))
    | ((with_reducible apply Foot.step (State.resumeOpAt_foot ..)); (· rfl))
    | split

theorem State.endSuspend_foot (s : State) (i : Nat) (status : Nat) : Foot fp307 s (State.endSuspend s i status) := by
  have h : Foot fp307 s s := Foot.refl
  unfold State.endSuspend
  repeat' first
    | with_reducible assumption
    | ((with_reducible apply Foot.step (State.setOp_foot ..)); (· rfl))
    | ((with_reducible apply Foot.step (State.admDone_foot ..)); (· rfl))
    | split

theorem execCancel_foot (e : List Byte) (s : State) (t' : State) (ht : execCancel e s = .next t') : Foot fp449 s t' := by
  have h : Foot fp449 s s := Foot.refl
  rw [← Host.Outcome.next.inj ht]
  repeat' first
    | with_reducible assumption
    | with_reducible apply Foot.ite
    | ((with_reducible apply Foot.wr); (· rfl); (· first | exact Or.inr rfl))
    | ((with_reducible apply Foot.step (State.setOp_foot ..)); (· rfl))
    | ((with_reducible apply State.onHandle_foot); (· rfl); (on_goal 1 => intro _ _ _))
    | ((with_reducible apply Foot.step (State.endSuspend_foot ..)); (· rfl))
    | (fail_if_no_progress extract_lets +onlyGivenNames x; (refine Foot.cut x ?_ (fun hx => ?_); (on_goal 1 => subst x); (on_goal 2 => clear_value x)))
    | split

theorem State.downloadGo_foot (s : State) (e : List Byte) (hdr : HostRead) (i : Nat) : Foot fp452 s (State.downloadGo s e hdr i) := by
  have h : Foot fp452 s s := Foot.refl
  unfold State.downloadGo
  repeat' first
    | with_reducible assumption
    | with_reducible apply Foot.ite
    | ((with_reducible apply Foot.wr); (· rfl); (· first | exact Or.inr rfl))
    | ((with_reducible apply Foot.step (State.program_foot ..)); (· rfl))
    | ((with_reducible apply Foot.step (State.setVerified_foot ..)); (· rfl))
    | ((with_reducible apply Foot.step (State.settleSlot_foot ..)); (· rfl))
    | (fail_if_no_progress extract_lets +onlyGivenNames x; first | refine Foot.keepHost x ?_ | refine Foot.keepMbx x ?_ | clear_value x)
    | split

theorem State.downloadStart_foot (s : State) (e : List Byte) (hdr : HostRead) : Foot fp453 s (State.downloadStart s e hdr) := by
  have h : Foot fp453 s s := Foot.refl
  unfold State.downloadStart
  repeat' first
    | with_reducible assumption
    | with_reducible apply Foot.ite
    | ((with_reducible apply Foot.step (State.admDone_foot ..)); (· rfl))
    | ((with_reducible apply Foot.step (State.admRead_foot ..)); (· rfl))
    | ((with_reducible apply State.startLong_foot); (· rfl); (on_goal 1 => intro _ _ _))
    | ((with_reducible apply Foot.step (State.downloadGo_foot ..)); (· rfl))
    | (fail_if_no_progress extract_lets +onlyGivenNames x; first | (refine Foot.cut x ?_ (fun hx => ?_); (on_goal 1 => subst x); (on_goal 2 => clear_value x)) | (refine Foot.cut2 x ?_ (fun hx => ?_); (on_goal 1 => subst x); (on_goal 2 => clear_value x)) | refine Foot.keepHost x ?_ | refine Foot.keepMbx x ?_ | clear_value x)
    | (rename_i he; refine Foot.cut _ (Foot.ofPair he ?_) (fun hx => ?_); (on_goal 2 => clear he))
    | split

theorem execFwDownload_foot (e : List Byte) (hdr : HostRead) (s : State) (t' : State) (ht : execFwDownload e hdr s = .next t') : Foot fp454 s t' := by
  have h : Foot fp454 s s := Foot.refl
  rw [← Host.Outcome.next.inj ht]
  repeat' first
    | with_reducible assumption
    | ((with_reducible apply State.admTake_foot); (· rfl); (on_goal 1 => intro _ _))
    | ((with_reducible apply Foot.step (State.downloadStart_foot ..)); (· rfl))

theorem execFwVerify_foot (e : List Byte) (s : State) (t' : State) (ht : execFwVerify e s = .next t') : Foot fp448 s t' := by
  have h : Foot fp448 s s := Foot.refl
  rw [← Host.Outcome.next.inj ht]
  repeat' first
    | with_reducible assumption
    | with_reducible apply Foot.ite
    | ((with_reducible apply State.longTake_foot); (· rfl); (on_goal 1 => intro _ _ _))
    | (fail_if_no_progress extract_lets +onlyGivenNames x; first | (refine Foot.cut x ?_ (fun hx => ?_); (on_goal 1 => subst x); (on_goal 2 => clear_value x)) | (refine Foot.cut2 x ?_ (fun hx => ?_); (on_goal 1 => subst x); (on_goal 2 => clear_value x)) | refine Foot.keepHost x ?_ | refine Foot.keepMbx x ?_ | clear_value x)
    | split

theorem State.activateRec_foot (s : State) (slot : Nat) : Foot fp418 s (State.activateRec s slot) := by
  have h : Foot fp418 s s := Foot.refl
  unfold State.activateRec
  repeat' first
    | with_reducible assumption
    | with_reducible apply Foot.ite
    | ((with_reducible apply Foot.inc); (· rfl); (· first | exact Or.inr rfl))
    | ((with_reducible apply Foot.step (State.event_foot ..)); (· rfl))
    | ((with_reducible apply Foot.step (State.writeRec_foot ..)); (· rfl))
    | (fail_if_no_progress extract_lets +onlyGivenNames x; first | (refine Foot.cut x ?_ (fun hx => ?_); (on_goal 1 => subst x); (on_goal 2 => clear_value x)) | (refine Foot.cut2 x ?_ (fun hx => ?_); (on_goal 1 => subst x); (on_goal 2 => clear_value x)) | refine Foot.keepHost x ?_ | refine Foot.keepMbx x ?_ | clear_value x)
    | split

theorem State.activateGo_foot (s : State) (mode : Nat) (i : Nat) : Foot fp421 s (State.activateGo s mode i) := by
  have h : Foot fp421 s s := Foot.refl
  unfold State.activateGo
  repeat' first
    | with_reducible assumption
    | with_reducible apply Foot.ite
    | ((with_reducible apply Foot.step (State.stopOp_foot ..)); (· rfl))
    | ((with_reducible apply Foot.foldl); (on_goal 1 => intro _ _ _))
    | split

theorem State.activateSafe_foot (s : State) (i : Nat) : Foot fp455 s (State.activateSafe s i) := by
  have h : Foot fp455 s s := Foot.refl
  unfold State.activateSafe
  repeat' first
    | with_reducible assumption
    | with_reducible apply Foot.ite
    | ((with_reducible apply Foot.step (State.setOp_foot ..)); (· rfl))
    | ((with_reducible apply Foot.step (State.endOp_foot ..)); (· rfl))
    | ((with_reducible apply Foot.step (State.activateRec_foot ..)); (· rfl))
    | (fail_if_no_progress extract_lets +onlyGivenNames x; first | (refine Foot.cut x ?_ (fun hx => ?_); (on_goal 1 => subst x); (on_goal 2 => clear_value x)) | refine Foot.keepHost x ?_ | refine Foot.keepMbx x ?_ | clear_value x)
    | fail_if_no_progress ((with_reducible apply Foot.setFw); (· rfl))
    | split

theorem execFwActivate_foot (e : List Byte) (s : State) (t' : State) (ht : execFwActivate e s = .next t') : Foot fp456 s t' := by
  have h : Foot fp456 s s := Foot.refl
  rw [← Host.Outcome.next.inj ht]
  repeat' first
    | with_reducible assumption
    | ((with_reducible apply State.longTake_foot); (· rfl); (on_goal 1 => intro _ _ _))
    | ((with_reducible apply Foot.step (State.activateGo_foot ..)); (· rfl))

theorem execScrubFull_foot (e : List Byte) (s : State) (t' : State) (ht : execScrubFull e s = .next t') : Foot fp448 s t' := by
  have h : Foot fp448 s s := Foot.refl
  rw [← Host.Outcome.next.inj ht]
  repeat' first
    | with_reducible assumption
    | with_reducible apply Foot.ite
    | ((with_reducible apply State.longTake_foot); (· rfl); (on_goal 1 => intro _ _ _))
    | split

theorem execTableBulkLoad_foot (e : List Byte) (s : State) (t' : State) (ht : execTableBulkLoad e s = .next t') : Foot fp457 s t' := by
  have h : Foot fp457 s s := Foot.refl
  rw [← Host.Outcome.next.inj ht]
  repeat' first
    | with_reducible assumption
    | with_reducible apply Foot.ite
    | ((with_reducible apply Foot.step (State.commitOpen_foot ..)); (· rfl))
    | ((with_reducible apply State.longTake_foot); (· rfl); (on_goal 1 => intro _ _ _))
    | split

theorem execDispersionSweep_foot (e : List Byte) (s : State) (t' : State) (ht : execDispersionSweep e s = .next t') : Foot fp458 s t' := by
  have h : Foot fp458 s s := Foot.refl
  rw [← Host.Outcome.next.inj ht]
  repeat' first
    | with_reducible assumption
    | with_reducible apply Foot.ite
    | ((with_reducible apply Foot.upd); (· rfl); (· rfl))
    | ((with_reducible apply State.longTake_foot); (· rfl); (on_goal 1 => intro _ _ _))
    | split

theorem execLaserCharacterise_foot (e : List Byte) (s : State) (t' : State) (ht : execLaserCharacterise e s = .next t') : Foot fp448 s t' := by
  have h : Foot fp448 s s := Foot.refl
  rw [← Host.Outcome.next.inj ht]
  repeat' first
    | with_reducible assumption
    | with_reducible apply Foot.ite
    | ((with_reducible apply State.longTake_foot); (· rfl); (on_goal 1 => intro _ _ _))
    | (fail_if_no_progress extract_lets +onlyGivenNames x; first | (refine Foot.cut x ?_ (fun hx => ?_); (on_goal 1 => subst x); (on_goal 2 => clear_value x)) | (refine Foot.cut2 x ?_ (fun hx => ?_); (on_goal 1 => subst x); (on_goal 2 => clear_value x)) | refine Foot.keepHost x ?_ | refine Foot.keepMbx x ?_ | clear_value x)
    | split

theorem execSelfTest_foot (e : List Byte) (s : State) (t' : State) (ht : execSelfTest e s = .next t') : Foot fp448 s t' := by
  have h : Foot fp448 s s := Foot.refl
  rw [← Host.Outcome.next.inj ht]
  repeat' first
    | with_reducible assumption
    | with_reducible apply Foot.ite
    | ((with_reducible apply State.longTake_foot); (· rfl); (on_goal 1 => intro _ _ _))
    | (fail_if_no_progress extract_lets +onlyGivenNames x; first | (refine Foot.cut x ?_ (fun hx => ?_); (on_goal 1 => subst x); (on_goal 2 => clear_value x)) | (refine Foot.cut2 x ?_ (fun hx => ?_); (on_goal 1 => subst x); (on_goal 2 => clear_value x)) | refine Foot.keepHost x ?_ | refine Foot.keepMbx x ?_ | clear_value x)
    | split

theorem execPmExport_foot (e : List Byte) (s : State) (t' : State) (ht : execPmExport e s = .next t') : Foot fp448 s t' := by
  have h : Foot fp448 s s := Foot.refl
  rw [← Host.Outcome.next.inj ht]
  repeat' first
    | with_reducible assumption
    | with_reducible apply Foot.ite
    | ((with_reducible apply State.longTake_foot); (· rfl); (on_goal 1 => intro _ _ _))
    | (fail_if_no_progress extract_lets +onlyGivenNames x; first | (refine Foot.cut x ?_ (fun hx => ?_); (on_goal 1 => subst x); (on_goal 2 => clear_value x)) | (refine Foot.cut2 x ?_ (fun hx => ?_); (on_goal 1 => subst x); (on_goal 2 => clear_value x)) | refine Foot.keepHost x ?_ | refine Foot.keepMbx x ?_ | clear_value x)
    | split

theorem State.opDone_foot (s : State) (i : Nat) (n : Nat) : Foot fp459 s (State.opDone s i n) := by
  have h : Foot fp459 s s := Foot.refl
  unfold State.opDone
  repeat' first
    | with_reducible assumption
    | with_reducible apply Foot.ite
    | ((with_reducible apply Foot.wr); (· rfl); (· first | exact Or.inr rfl))
    | (fail_if_no_progress extract_lets +onlyGivenNames x; first | (refine Foot.cut x ?_ (fun hx => ?_); (on_goal 1 => subst x); (on_goal 2 => clear_value x)) | (refine Foot.cut2 x ?_ (fun hx => ?_); (on_goal 1 => subst x); (on_goal 2 => clear_value x)) | refine Foot.keepHost x ?_ | refine Foot.keepMbx x ?_ | clear_value x)
    | split

theorem State.exportBins_foot (s : State) (i : Nat) (n : Nat) : Foot fp308 s (State.exportBins s i n) := by
  have h : Foot fp308 s s := Foot.refl
  unfold State.exportBins
  repeat' first
    | with_reducible assumption
    | with_reducible apply Foot.ite
    | ((with_reducible apply Foot.step (State.endOp_foot ..)); (· rfl))
    | ((with_reducible apply Foot.step (State.admWrite_foot ..)); (· rfl))
    | ((with_reducible apply Foot.step (State.opDone_foot ..)); (· rfl))
    | (fail_if_no_progress extract_lets +onlyGivenNames x; first | refine Foot.keepHost x ?_ | refine Foot.keepMbx x ?_ | clear_value x)
    | (rename_i he; refine Foot.cut _ (Foot.ofPair he ?_) (fun hx => ?_); (on_goal 2 => clear he))
    | split

theorem State.downloadBlock_foot (s : State) (i : Nat) (host : HostRead) (ok : Bool) : Foot fp460 s (State.downloadBlock s i host ok) := by
  have h : Foot fp460 s s := Foot.refl
  unfold State.downloadBlock
  repeat' first
    | with_reducible assumption
    | with_reducible apply Foot.ite
    | ((with_reducible apply Foot.inc); (· rfl); (· first | exact Or.inr rfl))
    | ((with_reducible apply Foot.step (State.endOp_foot ..)); (· rfl))
    | ((with_reducible apply Foot.step (State.setFlash_foot ..)); (· rfl))
    | ((with_reducible apply Foot.step (State.settleSlot_foot ..)); (· rfl))
    | ((with_reducible apply Foot.step (State.admRead_foot ..)); (· rfl))
    | ((with_reducible apply Foot.step (State.opDone_foot ..)); (· rfl))
    | (fail_if_no_progress extract_lets +onlyGivenNames x; first | (refine Foot.cut x ?_ (fun hx => ?_); (on_goal 1 => subst x); (on_goal 2 => clear_value x)) | refine Foot.keepHost x ?_ | refine Foot.keepMbx x ?_ | clear_value x)
    | (rename_i he; refine Foot.cut _ (Foot.ofPair he ?_) (fun hx => ?_); (on_goal 2 => clear he))
    | split

theorem State.bulkItem_foot (s : State) (i : Nat) (x : BulkItem) : Foot fp461 s (State.bulkItem s i x).2 := by
  have h : Foot fp461 s s := Foot.refl
  unfold State.bulkItem
  repeat' first
    | with_reducible assumption
    | with_reducible apply Foot.ite
    | with_reducible apply Foot.ite2
    | ((with_reducible apply Foot.step (State.stageStream_foot ..)); (· rfl))
    | ((with_reducible apply Foot.step (State.nodeWrite_foot ..)); (· rfl))
    | ((with_reducible apply Foot.step (State.rootWrite_foot ..)); (· rfl))
    | ((with_reducible apply Foot.step (State.profWrite_foot ..)); (· rfl))
    | ((with_reducible apply Foot.step (State.bulkRetry_foot ..)); (· rfl))
    | ((with_reducible apply Foot.step (State.setOp_foot ..)); (· rfl))
    | split

theorem State.bulkFail_foot (s : State) (i : Nat) (st : Nat) : Foot fp462 s (State.bulkFail s i st) := by
  have h : Foot fp462 s s := Foot.refl
  unfold State.bulkFail
  repeat' first
    | with_reducible assumption
    | ((with_reducible apply Foot.step (State.endOp_foot ..)); (· rfl))
    | ((with_reducible apply Foot.step (State.undoOp_foot ..)); (· rfl))

theorem State.bulkItems_foot (s : State) (i : Nat) (l : List BulkItem) : Foot fp463 s (State.bulkItems s i l) := by
  induction l generalizing s with
  | nil =>
    unfold State.bulkItems
    exact Foot.ite ((State.bulkFail_foot ..).mono rfl) Foot.refl
  | cons x r ih =>
    unfold State.bulkItems
    split
    · rename_i he
      exact Foot.step (ih ..) rfl (Foot.step (State.opDone_foot ..) rfl ((Foot.ofPair he (State.bulkItem_foot ..)).mono rfl))
    · rename_i he
      exact Foot.step (State.bulkFail_foot ..) rfl ((Foot.ofPair he (State.bulkItem_foot ..)).mono rfl)

theorem State.bulkWork_foot (s : State) (i : Nat) (items : List BulkItem) : Foot fp464 s (State.bulkWork s i items) := by
  have h : Foot fp464 s s := Foot.refl
  unfold State.bulkWork
  repeat' first
    | with_reducible assumption
    | ((with_reducible apply Foot.step (State.admRead_foot ..)); (· rfl))
    | ((with_reducible apply Foot.step (State.bulkFail_foot ..)); (· rfl))
    | ((with_reducible apply Foot.step (State.bulkItems_foot ..)); (· rfl))
    | (fail_if_no_progress extract_lets +onlyGivenNames x; first | refine Foot.keepHost x ?_ | refine Foot.keepMbx x ?_ | clear_value x)
    | (rename_i he; refine Foot.cut _ (Foot.ofPair he ?_) (fun hx => ?_); (on_goal 2 => clear he))
    | split

theorem State.opWork_foot (s : State) (i : Nat) (w : OpWork) : Foot fp465 s (State.opWork s i w) := by
  have h : Foot fp465 s s := Foot.refl
  unfold State.opWork
  repeat' first
    | with_reducible assumption
    | with_reducible apply Foot.ite
    | ((with_reducible apply Foot.wr); (· rfl); (· first | exact Or.inr rfl))
    | ((with_reducible apply Foot.step (State.setOp_foot ..)); (· rfl))
    | ((with_reducible apply Foot.step (State.opDone_foot ..)); (· rfl))
    | ((with_reducible apply Foot.step (State.exportBins_foot ..)); (· rfl))
    | ((with_reducible apply Foot.step (State.downloadBlock_foot ..)); (· rfl))
    | ((with_reducible apply Foot.step (State.bulkWork_foot ..)); (· rfl))
    | (fail_if_no_progress extract_lets +onlyGivenNames x; first | refine Foot.keepHost x ?_ | refine Foot.keepMbx x ?_ | clear_value x)
    | split

theorem State.progress_foot (s : State) (h : Nat) (w : OpWork) : Foot fp465 s (State.progress s h w) := by
  have h : Foot fp465 s s := Foot.refl
  unfold State.progress
  repeat' first
    | with_reducible assumption
    | with_reducible apply Foot.ite
    | ((with_reducible apply Foot.step (State.admPush_foot ..)); (· rfl))
    | ((with_reducible apply Foot.step (State.opWork_foot ..)); (· rfl))
    | (fail_if_no_progress extract_lets +onlyGivenNames x; first | (refine Foot.cut x ?_ (fun hx => ?_); (on_goal 1 => subst x); (on_goal 2 => clear_value x)) | (refine Foot.cut2 x ?_ (fun hx => ?_); (on_goal 1 => subst x); (on_goal 2 => clear_value x)) | refine Foot.keepHost x ?_ | refine Foot.keepMbx x ?_ | clear_value x)
    | split

theorem execLongOpProgress_foot (h : Nat) (work : OpWork) (s : State) (t' : State) (ht : execLongOpProgress h work s = .next t') : Foot fp465 s t' := by
  have h : Foot fp465 s s := Foot.refl
  rw [← Host.Outcome.next.inj ht]
  repeat' first
    | with_reducible assumption
    | ((with_reducible apply Foot.step (State.progress_foot ..)); (· rfl))

theorem State.cancelSafe_foot (s : State) (i : Nat) : Foot fp462 s (State.cancelSafe s i) := by
  have h : Foot fp462 s s := Foot.refl
  unfold State.cancelSafe
  repeat' first
    | with_reducible assumption
    | with_reducible apply Foot.ite
    | ((with_reducible apply Foot.step (State.endOp_foot ..)); (· rfl))
    | ((with_reducible apply Foot.step (State.undoOp_foot ..)); (· rfl))
    | ((with_reducible apply Foot.step (State.flushEnded_foot ..)); (· rfl))
    | split

theorem State.safePoint_foot (s : State) (h : Nat) : Foot fp466 s (State.safePoint s h) := by
  have h : Foot fp466 s s := Foot.refl
  unfold State.safePoint
  repeat' first
    | with_reducible assumption
    | with_reducible apply Foot.ite
    | ((with_reducible apply Foot.wr); (· rfl); (· first | exact Or.inr rfl))
    | ((with_reducible apply Foot.step (State.admPush_foot ..)); (· rfl))
    | ((with_reducible apply Foot.step (State.endSuspend_foot ..)); (· rfl))
    | ((with_reducible apply Foot.step (State.activateSafe_foot ..)); (· rfl))
    | ((with_reducible apply Foot.step (State.cancelSafe_foot ..)); (· rfl))
    | (fail_if_no_progress extract_lets +onlyGivenNames x; first | (refine Foot.cut x ?_ (fun hx => ?_); (on_goal 1 => subst x); (on_goal 2 => clear_value x)) | (refine Foot.cut2 x ?_ (fun hx => ?_); (on_goal 1 => subst x); (on_goal 2 => clear_value x)) | refine Foot.keepHost x ?_ | refine Foot.keepMbx x ?_ | clear_value x)
    | split

theorem execLongOpSafePoint_foot (h : Nat) (s : State) (t' : State) (ht : execLongOpSafePoint h s = .next t') : Foot fp466 s t' := by
  have h : Foot fp466 s s := Foot.refl
  rw [← Host.Outcome.next.inj ht]
  repeat' first
    | with_reducible assumption
    | ((with_reducible apply Foot.step (State.safePoint_foot ..)); (· rfl))

theorem State.suspendTimeout_foot (s : State) (h : Nat) : Foot fp462 s (State.suspendTimeout s h) := by
  have h : Foot fp462 s s := Foot.refl
  unfold State.suspendTimeout
  repeat' first
    | with_reducible assumption
    | with_reducible apply Foot.ite
    | ((with_reducible apply Foot.step (State.endOp_foot ..)); (· rfl))
    | ((with_reducible apply Foot.step (State.undoOp_foot ..)); (· rfl))
    | split

theorem execSuspendTimeout_foot (h : Nat) (s : State) (t' : State) (ht : execSuspendTimeout h s = .next t') : Foot fp462 s t' := by
  have h : Foot fp462 s s := Foot.refl
  rw [← Host.Outcome.next.inj ht]
  repeat' first
    | with_reducible assumption
    | ((with_reducible apply Foot.step (State.suspendTimeout_foot ..)); (· rfl))

theorem State.verifyEnd_foot (s : State) (i : Nat) : Foot fp467 s (State.verifyEnd s i) := by
  have h : Foot fp467 s s := Foot.refl
  unfold State.verifyEnd
  repeat' first
    | with_reducible assumption
    | with_reducible apply Foot.ite
    | ((with_reducible apply Foot.inc); (· rfl); (· first | exact Or.inr rfl))
    | ((with_reducible apply Foot.step (State.endOp_foot ..)); (· rfl))
    | ((with_reducible apply Foot.step (State.setVerified_foot ..)); (· rfl))
    | ((with_reducible apply Foot.step (State.settleSlot_foot ..)); (· rfl))
    | (fail_if_no_progress extract_lets +onlyGivenNames x; first | (refine Foot.cut x ?_ (fun hx => ?_); (on_goal 1 => subst x); (on_goal 2 => clear_value x)) | (refine Foot.cut2 x ?_ (fun hx => ?_); (on_goal 1 => subst x); (on_goal 2 => clear_value x)) | refine Foot.keepHost x ?_ | refine Foot.keepMbx x ?_ | clear_value x)
    | split

theorem State.recordEnd_foot (s : State) (i : Nat) (rec' : List Byte) (adopted : Bool) : Foot fp308 s (State.recordEnd s i rec' adopted) := by
  have h : Foot fp308 s s := Foot.refl
  unfold State.recordEnd
  repeat' first
    | with_reducible assumption
    | ((with_reducible apply Foot.step (State.endOp_foot ..)); (· rfl))
    | ((with_reducible apply Foot.step (State.admWrite_foot ..)); (· rfl))
    | (fail_if_no_progress extract_lets +onlyGivenNames x; first | (refine Foot.cut x ?_ (fun hx => ?_); (on_goal 1 => subst x); (on_goal 2 => clear_value x)) | (refine Foot.cut2 x ?_ (fun hx => ?_); (on_goal 1 => subst x); (on_goal 2 => clear_value x)) | refine Foot.keepHost x ?_ | refine Foot.keepMbx x ?_ | clear_value x)
    | (rename_i he; refine Foot.cut _ (Foot.ofPair he ?_) (fun hx => ?_); (on_goal 2 => clear he))
    | split

theorem State.sweepEnd_foot (s : State) (i : Nat) : Foot fp468 s (State.sweepEnd s i) := by
  have h : Foot fp468 s s := Foot.refl
  unfold State.sweepEnd
  repeat' first
    | with_reducible assumption
    | with_reducible apply Foot.ite
    | ((with_reducible apply Foot.step (State.settleTime_foot ..)); (· rfl))
    | ((with_reducible apply Foot.step (State.adoptFit_foot ..)); (· rfl))
    | ((with_reducible apply Foot.step (State.endOp_foot ..)); (· rfl))
    | ((with_reducible apply Foot.step (State.recordEnd_foot ..)); (· rfl))
    | (fail_if_no_progress extract_lets +onlyGivenNames x; first | refine Foot.keepHost x ?_ | refine Foot.keepMbx x ?_ | clear_value x)
    | split

theorem State.adoptLaser_foot (s : State) (l : Leg) (u : Nat) (c : Nat) : Foot fp469 s (State.adoptLaser s l u c) := by
  have h : Foot fp469 s s := Foot.refl
  unfold State.adoptLaser
  repeat' first
    | with_reducible assumption
    | ((with_reducible apply Foot.wr); (· rfl); (· first | exact Or.inr rfl | exact Or.inl (Leg.n_lt _)))
    | ((with_reducible apply Foot.step (State.followLaser_foot ..)); (· rfl))
    | (fail_if_no_progress extract_lets +onlyGivenNames x; first | (refine Foot.cut x ?_ (fun hx => ?_); (on_goal 1 => subst x); (on_goal 2 => clear_value x)) | (refine Foot.cut2 x ?_ (fun hx => ?_); (on_goal 1 => subst x); (on_goal 2 => clear_value x)) | refine Foot.keepHost x ?_ | refine Foot.keepMbx x ?_ | clear_value x)

theorem State.laserEnd_foot (s : State) (i : Nat) : Foot fp470 s (State.laserEnd s i) := by
  have h : Foot fp470 s s := Foot.refl
  unfold State.laserEnd
  repeat' first
    | with_reducible assumption
    | with_reducible apply Foot.ite
    | ((with_reducible apply Foot.step (State.spend_foot ..)); (· rfl))
    | ((with_reducible apply Foot.step (State.endOp_foot ..)); (· rfl))
    | ((with_reducible apply Foot.step (State.recordEnd_foot ..)); (· rfl))
    | ((with_reducible apply Foot.step (State.adoptLaser_foot ..)); (· rfl))
    | (fail_if_no_progress extract_lets +onlyGivenNames x; first | refine Foot.keepHost x ?_ | refine Foot.keepMbx x ?_ | clear_value x)
    | split

theorem State.bulkEnd_foot (s : State) (i : Nat) (st : Nat) : Foot fp462 s (State.bulkEnd s i st) := by
  have h : Foot fp462 s s := Foot.refl
  unfold State.bulkEnd
  repeat' first
    | with_reducible assumption
    | with_reducible apply Foot.ite
    | ((with_reducible apply Foot.step (State.endOp_foot ..)); (· rfl))
    | ((with_reducible apply Foot.step (State.bulkFail_foot ..)); (· rfl))
    | (fail_if_no_progress extract_lets +onlyGivenNames x; first | (refine Foot.cut x ?_ (fun hx => ?_); (on_goal 1 => subst x); (on_goal 2 => clear_value x)) | (refine Foot.cut2 x ?_ (fun hx => ?_); (on_goal 1 => subst x); (on_goal 2 => clear_value x)) | refine Foot.keepHost x ?_ | refine Foot.keepMbx x ?_ | clear_value x)
    | split

theorem State.exportEnd_foot (s : State) (i : Nat) : Foot fp308 s (State.exportEnd s i) := by
  have h : Foot fp308 s s := Foot.refl
  unfold State.exportEnd
  repeat' first
    | with_reducible assumption
    | with_reducible apply Foot.ite
    | ((with_reducible apply Foot.step (State.endOp_foot ..)); (· rfl))
    | ((with_reducible apply Foot.step (State.exportBins_foot ..)); (· rfl))
    | (fail_if_no_progress extract_lets +onlyGivenNames x; first | (refine Foot.cut x ?_ (fun hx => ?_); (on_goal 1 => subst x); (on_goal 2 => clear_value x)) | (refine Foot.cut2 x ?_ (fun hx => ?_); (on_goal 1 => subst x); (on_goal 2 => clear_value x)) | refine Foot.keepHost x ?_ | refine Foot.keepMbx x ?_ | clear_value x)
    | split

theorem State.downloadEnd_foot (s : State) (i : Nat) (st : Nat) : Foot fp308 s (State.downloadEnd s i st) := by
  have h : Foot fp308 s s := Foot.refl
  unfold State.downloadEnd
  repeat' first
    | with_reducible assumption
    | with_reducible apply Foot.ite
    | ((with_reducible apply Foot.step (State.endOp_foot ..)); (· rfl))
    | split

theorem State.selfTestEnd_foot (s : State) (i : Nat) (fin : OpFinish) : Foot fp351 s (State.selfTestEnd s i fin) := by
  have h : Foot fp351 s s := Foot.refl
  unfold State.selfTestEnd
  repeat' first
    | with_reducible assumption
    | with_reducible apply Foot.ite
    | ((with_reducible apply Foot.step (State.endOp_foot ..)); (· rfl))
    | ((with_reducible apply Foot.step (State.legFailed_foot ..)); (· rfl))
    | (fail_if_no_progress extract_lets +onlyGivenNames x; first | (refine Foot.cut x ?_ (fun hx => ?_); (on_goal 1 => subst x); (on_goal 2 => clear_value x)) | refine Foot.keepHost x ?_ | refine Foot.keepMbx x ?_ | clear_value x)
    | split

theorem State.completeOp_foot (s : State) (h : Nat) (fin : OpFinish) : Foot fp471 s (State.completeOp s h fin) := by
  have h : Foot fp471 s s := Foot.refl
  unfold State.completeOp
  repeat' first
    | with_reducible assumption
    | with_reducible apply Foot.ite
    | ((with_reducible apply Foot.step (State.endOp_foot ..)); (· rfl))
    | ((with_reducible apply Foot.step (State.verifyEnd_foot ..)); (· rfl))
    | ((with_reducible apply Foot.step (State.sweepEnd_foot ..)); (· rfl))
    | ((with_reducible apply Foot.step (State.laserEnd_foot ..)); (· rfl))
    | ((with_reducible apply Foot.step (State.bulkEnd_foot ..)); (· rfl))
    | ((with_reducible apply Foot.step (State.exportEnd_foot ..)); (· rfl))
    | ((with_reducible apply Foot.step (State.downloadEnd_foot ..)); (· rfl))
    | ((with_reducible apply Foot.step (State.selfTestEnd_foot ..)); (· rfl))
    | (fail_if_no_progress extract_lets +onlyGivenNames x; first | refine Foot.keepHost x ?_ | refine Foot.keepMbx x ?_ | clear_value x)
    | split

theorem execLongOpComplete_foot (h : Nat) (fin : OpFinish) (s : State) (t' : State) (ht : execLongOpComplete h fin s = .next t') : Foot fp471 s t' := by
  have h : Foot fp471 s s := Foot.refl
  rw [← Host.Outcome.next.inj ht]
  repeat' first
    | with_reducible assumption
    | ((with_reducible apply Foot.step (State.completeOp_foot ..)); (· rfl))

end Sys2Proof.Machine
end

