-- ==== Sys2Proof/Laws/FootPower.lean ====
section
/-! SUPPORT. What each operation of Machine/Power.lean can change (`Foot`). -/

namespace Sys2Proof.Machine

def fp472 : Nat := 0x1000400000000000000000000001c0000000000000000000000000000000000000001c1000000000000000000000000000000000000000000000000000000000000000000000000000000000000000000000000000000000000000000000000000000000000000000000000000000000000000000000000000000001000000400
def fp473 : Nat := 0x1ffffff8000000000000000000000000000000000000000000000000000000000000000000000000000000000000000000000000000000000000000000000000000000000000000000000000000000000000000000000000000000000000000000000000000000000000000000000000000000000000000000000000000000000
def fp474 : Nat := 0x105140c000000000000000000001c0001467ffffc04fc000000000000000000000001c100000000000000000000000000000000000000000000000000000000000020020000000000000000000000000000000000000000000000000000000000000000000000000000000000000000000000000000000000000000000000000c
def fp475 : Nat := 0x10d140c000000000000000000001c000146fffffc04fc000000000000000000000001c100000000000000000000000000000000000080000000000000000000000020020000000000000000000000000000000000000000000000000000000000000000000000000000000000000000000000000000000000000000000000200c
def fp476 : Nat := 0x1ffffff800000000000000000001c000146fffffc04ffafe100000000000000000001c100000000000000000000001a00206009dffc8007df000000000002004050200200000000000000000000002186038000000000000000000000000000000008000000002180000000000334000f80009c00001a8000000001080002300c
def fp477 : Nat := 0x1ffffff8000000000000000000000000000000000000000000000000000000000000000000000000000000000000000000000000000000000000000000000000000000000000000000000000000000000000000000000000000000000000000000000000000000000000000000000000000000000000000000000000800000000
def fp478 : Nat := 0x60000000000000000000000000000000000000000000000000000000000000000000000000000000000000000000000000000000000000000000000000000000000000000000000000000000000000000000000000000000000000000000000000000000000000000000000
def fp479 : Nat := 0x1279dcc000000000000000000001c0001507ffffc06fe0fe800000000000000000001c100000000000000000000000000000008000000000000000000000000000020020000000021400000000000218603800000000000000000000000000000000000000000000000000000000000000000000000000000000002080000000c
def fp480 : Nat := 0x1a79dcc000000000000000000001c0001507ffffc06fe0fe800000000000000000001c100000000000000000000000000000008000000000000000000000000000020020000000021400000000000218603800000000000000000000000000000000000000000000000000000000000000000000000000000000002080000000c
def fp481 : Nat := 0x1279dcc000000000000000000001c0001d07ffffc06fe0fe800000000000000000001c100000000000000000000000000000008000000000000000000000000000020020000000021400000000000218603800000000000000000000000000000000000000000000000000000000000000000000000000000000002080000000c
def fp482 : Nat := 0x16b15ec000000000000000000001c000000000000000000801010400b000008000e07c110001100881200000000000000000000000000000000000000000000000022c000000000000000000000002106020000000000000000000001800000006000000000000000000000000000000000000000000000000000000000008000
def fp483 : Nat := 0x1080400000000000000000000001c0000000000000000000000000000000000000001c1000000000000000000000000000000000000000000000000000000000000000000000000000000000000000000000000000000000000000000000000000000000000000000000000000000000000000000000000000000000000008000
def fp484 : Nat := 0x1ffffff800000000000000000001c000146fffffc04ffafe90000400b000008000e07c100000000000000001000001a00206009dffc8007df00000000000200405022c200000000000003c00000002186038000000000000000000001800030006008000000002180000000000334008f9603fc001f9fc000000001880003340c
def fp485 : Nat := 0x1ffffff8000000000000000000000000000000000000000000000000000000000000000000000000000000000000000000000000000000000000000000000000000000000000000000000000000000000000000000000000000000000000000000000000000000000000000000320000000000000000000000000000000000000
def fp486 : Nat := 0x1ffffff800000000000000000001c000146fffffc04ffafe100000000000000000001c100000000000000001000001a00206009dffc8007df000000000002004050200200000000000003c00000002186038000000000000000000000000000000008000000002180000000000334008f9602fc001f9fc000000001080002300c
def fp487 : Nat := 0x1008410000000000000000000001c0000000000000000000000000000000000000001c1000000000000000000000000000000000000000000000000000000000000000000000000000000000000000000000000000000000000000000000000000008000000000180000000000324000000000000000000000000000000002000
def fp488 : Nat := 0x10d141c000000000000000000001c000146fffffc04fc000000000000000000000001c100000000000000000000000000000000000080000000000000000000000020020000000000000000000000000000000000000000000000000000000000000000000000000000000000030000000000000000000000000000000000200c
def fp489 : Nat := 0x4000

theorem State.idleEnter_foot (s : State) : Foot fp472 s (State.idleEnter s) := by
  have h : Foot fp472 s s := Foot.refl
  unfold State.idleEnter
  repeat' first
    | with_reducible assumption
    | with_reducible apply Foot.ite
    | ((with_reducible apply Foot.inc); (· rfl); (· first | exact Or.inr rfl))
    | ((with_reducible apply Foot.step (State.event_foot ..)); (· rfl))
    | ((with_reducible apply Foot.step (State.setPower_foot ..)); (· rfl))
    | split

theorem execIdleEnter_foot (s : State) (t' : State) (ht : execIdleEnter s = .next t') : Foot fp472 s t' := by
  have h : Foot fp472 s s := Foot.refl
  rw [← Host.Outcome.next.inj ht]
  repeat' first
    | with_reducible assumption
    | ((with_reducible apply Foot.step (State.idleEnter_foot ..)); (· rfl))

theorem State.cleared_foot (s : State) : Foot fp473 s (State.cleared s) := by
  unfold State.cleared
  refine State.withAlert_foot s rfl (Foot.fresh rfl rfl rfl rfl fun hi => ?_)
  exact ⟨⟨Tab.wf_filter _ _ _ hi.canon.regs, rfl, rfl⟩, ⟨Nat.zero_le _, fun _ hp => absurd hp (by simp [State.reset]), Nat.zero_le _⟩⟩

theorem State.startLegs_foot (s : State) : Foot fp319 s (State.startLegs s) := by
  have h : Foot fp319 s s := Foot.refl
  unfold State.startLegs
  repeat' first
    | with_reducible assumption
    | ((with_reducible apply Foot.wr); (· rfl); (· first | exact Or.inr rfl | exact Or.inl (Leg.n_lt _)))
    | ((with_reducible apply Foot.step (State.settleLanes_foot ..)); (· rfl))
    | ((with_reducible apply Foot.step (State.settleDef_foot ..)); (· rfl))
    | (fail_if_no_progress extract_lets +onlyGivenNames x; first | (refine Foot.cut x ?_ (fun hx => ?_); (on_goal 1 => subst x); (on_goal 2 => clear_value x)) | (refine Foot.cut2 x ?_ (fun hx => ?_); (on_goal 1 => subst x); (on_goal 2 => clear_value x)) | refine Foot.keepHost x ?_ | refine Foot.keepMbx x ?_ | clear_value x)

theorem State.release_foot (s : State) : Foot fp474 s (State.release s) := by
  have h : Foot fp474 s s := Foot.refl
  unfold State.release
  repeat' first
    | with_reducible assumption
    | with_reducible apply Foot.ite
    | ((with_reducible apply Foot.wr); (· rfl); (· first | exact Or.inr rfl))
    | ((with_reducible apply Foot.step (State.bootRom_foot ..)); (· rfl))
    | (fail_if_no_progress extract_lets +onlyGivenNames x; first | refine Foot.keepHost x ?_ | refine Foot.keepMbx x ?_ | clear_value x)
    | fail_if_no_progress ((with_reducible apply Foot.setFw); (· rfl))
    | split

theorem State.bootUp_foot (s : State) : Foot fp475 s (State.bootUp s) := by
  have h : Foot fp475 s s := Foot.refl
  unfold State.bootUp
  repeat' first
    | with_reducible assumption
    | with_reducible apply Foot.ite
    | ((with_reducible apply Foot.wr); (· rfl); (· first | exact Or.inr rfl))
    | ((with_reducible apply Foot.step (State.event_foot ..)); (· rfl))
    | ((with_reducible apply Foot.step (State.replaceRequest_foot ..)); (· rfl))
    | ((with_reducible apply Foot.step (State.settleLc_foot ..)); (· rfl))
    | ((with_reducible apply Foot.step (State.release_foot ..)); (· rfl))
    | (fail_if_no_progress extract_lets +onlyGivenNames x; first | refine Foot.keepHost x ?_ | refine Foot.keepMbx x ?_ | clear_value x)
    | fail_if_no_progress ((with_reducible apply Foot.setPwr); (· rfl))
    | split

theorem State.coldStart_foot (s : State) (cause : Nat) (wake : Nat) : Foot fp476 s (State.coldStart s cause wake) := by
  have h : Foot fp476 s s := Foot.refl
  unfold State.coldStart
  repeat' first
    | with_reducible assumption
    | with_reducible apply Foot.ite
    | ((with_reducible apply Foot.wr); (· rfl); (· first | exact Or.inr rfl))
    | ((with_reducible apply Foot.inc); (· rfl); (· first | exact Or.inr rfl))
    | ((with_reducible apply Foot.step (State.event_foot ..)); (· rfl))
    | ((with_reducible apply Foot.step (State.recordWake_foot ..)); (· rfl))
    | ((with_reducible apply Foot.step (State.pmAcquire_foot ..)); (· rfl))
    | ((with_reducible apply Foot.step (State.tearFlash_foot ..)); (· rfl))
    | ((with_reducible apply Foot.step (State.cleared_foot ..)); (· rfl))
    | ((with_reducible apply Foot.step (State.startLegs_foot ..)); (· rfl))
    | ((with_reducible apply Foot.step (State.bootUp_foot ..)); (· rfl))
    | (fail_if_no_progress extract_lets +onlyGivenNames x; first | refine Foot.keepHost x ?_ | refine Foot.keepMbx x ?_ | clear_value x)
    | fail_if_no_progress ((with_reducible apply Foot.setPwr); (· rfl))
    | split

theorem State.pwrGoodRise_foot (s : State) (b : BootInput) : Foot fp476 s (State.pwrGoodRise s b) := by
  have h : Foot fp476 s s := Foot.refl
  unfold State.pwrGoodRise
  repeat' first
    | with_reducible assumption
    | with_reducible apply Foot.ite
    | ((with_reducible apply Foot.step (State.coldStart_foot ..)); (· rfl))
    | (fail_if_no_progress extract_lets +onlyGivenNames x; first | refine Foot.keepHost x ?_ | refine Foot.keepMbx x ?_ | clear_value x)
    | fail_if_no_progress ((with_reducible apply Foot.setPwr); (· rfl))
    | split

theorem execPwrGoodRise_foot (boot : BootInput) (s : State) (t' : State) (ht : execPwrGoodRise boot s = .next t') : Foot fp476 s t' := by
  have h : Foot fp476 s s := Foot.refl
  rw [← Host.Outcome.next.inj ht]
  repeat' first
    | with_reducible assumption
    | ((with_reducible apply Foot.step (State.pwrGoodRise_foot ..)); (· rfl))

theorem State.pwrGoodFall_foot (s : State) : Foot fp477 s (State.pwrGoodFall s) := by
  have h : Foot fp477 s s := Foot.refl
  unfold State.pwrGoodFall
  repeat' first
    | with_reducible assumption
    | with_reducible apply Foot.ite
    | ((with_reducible apply Foot.wr); (· rfl); (· first | exact Or.inr rfl))
    | ((with_reducible apply Foot.step (State.tearFlash_foot ..)); (· rfl))
    | ((with_reducible apply Foot.step (State.cleared_foot ..)); (· rfl))
    | (fail_if_no_progress extract_lets +onlyGivenNames x; first | (refine Foot.cut x ?_ (fun hx => ?_); (on_goal 1 => subst x); (on_goal 2 => clear_value x)) | refine Foot.keepHost x ?_ | refine Foot.keepMbx x ?_ | clear_value x)
    | fail_if_no_progress ((with_reducible apply Foot.setPwr); (· rfl))
    | split

theorem execPwrGoodFall_foot (s : State) (t' : State) (ht : execPwrGoodFall s = .next t') : Foot fp477 s t' := by
  have h : Foot fp477 s s := Foot.refl
  rw [← Host.Outcome.next.inj ht]
  repeat' first
    | with_reducible assumption
    | ((with_reducible apply Foot.step (State.pwrGoodFall_foot ..)); (· rfl))

theorem State.brownOut_foot (s : State) : Foot fp476 s (State.brownOut s) := by
  have h : Foot fp476 s s := Foot.refl
  unfold State.brownOut
  repeat' first
    | with_reducible assumption
    | with_reducible apply Foot.ite
    | ((with_reducible apply Foot.step (State.tearFlash_foot ..)); (· rfl))
    | ((with_reducible apply Foot.step (State.cleared_foot ..)); (· rfl))
    | ((with_reducible apply Foot.step (State.coldStart_foot ..)); (· rfl))
    | (fail_if_no_progress extract_lets +onlyGivenNames x; first | refine Foot.keepHost x ?_ | refine Foot.keepMbx x ?_ | clear_value x)
    | fail_if_no_progress ((with_reducible apply Foot.setPwr); (· rfl))
    | split

theorem execBrownOut_foot (s : State) (t' : State) (ht : execBrownOut s = .next t') : Foot fp476 s t' := by
  have h : Foot fp476 s s := Foot.refl
  rw [← Host.Outcome.next.inj ht]
  repeat' first
    | with_reducible assumption
    | ((with_reducible apply Foot.step (State.brownOut_foot ..)); (· rfl))

theorem State.askCold_foot (s : State) (ag : Agent) (v : Nat) : Foot fp476 s (State.askCold s ag v) := by
  have h : Foot fp476 s s := Foot.refl
  unfold State.askCold
  repeat' first
    | with_reducible assumption
    | with_reducible apply Foot.ite
    | ((with_reducible apply Foot.step (State.coldStart_foot ..)); (· rfl))
    | split

theorem execCold_foot (ag : Agent) (v : BitVec 32) (s : State) (t' : State) (ht : execCold ag v s = .next t') : Foot fp476 s t' := by
  have h : Foot fp476 s s := Foot.refl
  rw [← Host.Outcome.next.inj ht]
  repeat' first
    | with_reducible assumption
    | ((with_reducible apply Foot.reg); (on_goal 1 => intro _ _))
    | ((with_reducible apply Foot.step (State.askCold_foot ..)); (· rfl))

theorem State.restoreTrial_foot (s : State) : Foot fp478 s (State.restoreTrial s) := by
  have h : Foot fp478 s s := Foot.refl
  unfold State.restoreTrial
  repeat' first
    | with_reducible assumption
    | ((with_reducible apply Foot.wr); (· rfl); (· first | exact Or.inr rfl))
    | (fail_if_no_progress extract_lets +onlyGivenNames x; first | (refine Foot.cut x ?_ (fun hx => ?_); (on_goal 1 => subst x); (on_goal 2 => clear_value x)) | (refine Foot.cut2 x ?_ (fun hx => ?_); (on_goal 1 => subst x); (on_goal 2 => clear_value x)) | refine Foot.keepHost x ?_ | refine Foot.keepMbx x ?_ | clear_value x)
    | (rename_i he; refine Foot.cut _ (Foot.ofPair he ?_) (fun hx => ?_); (on_goal 2 => clear he))
    | split

theorem State.warmReset_foot (s : State) (cause : Nat) : Foot fp479 s (State.warmReset s cause) := by
  have h : Foot fp479 s s := Foot.refl
  unfold State.warmReset
  extract_lets +onlyGivenNames a
  have ha : Foot fp479 s a := Foot.ite h (Foot.step (State.autopilotOn_foot ..) rfl h)
  clear_value a
  extract_lets +onlyGivenNames f b
  have hb : Foot fp479 s b := Foot.setFw rfl ha
  clear_value b f
  extract_lets +onlyGivenNames c
  have hc : Foot fp479 s c := Foot.step (State.fwStop_foot ..) rfl (Foot.step (State.schedReset_foot ..) rfl hb)
  clear_value c
  extract_lets +onlyGivenNames g e
  have he : Foot fp479 s e := Foot.setHost rfl (fun hb => ⟨hb.log, hb.errs, Nat.zero_le _⟩) hc
  clear_value e
  extract_lets +onlyGivenNames k
  have hk : Foot fp479 s k := Foot.step (State.event_foot ..) rfl (Foot.inc rfl (Or.inr rfl) (Foot.wr rfl (Or.inr rfl) he))
  clear_value k
  exact Foot.step (State.restoreTrial_foot ..) rfl (Foot.step (State.bootRom_foot ..) rfl hk)

theorem State.askWarm_foot (s : State) (ag : Agent) (v : Nat) : Foot fp480 s (State.askWarm s ag v) := by
  have h : Foot fp480 s s := Foot.refl
  unfold State.askWarm
  repeat' first
    | with_reducible assumption
    | with_reducible apply Foot.ite
    | ((with_reducible apply Foot.step (State.tearFlash_foot ..)); (· rfl))
    | ((with_reducible apply Foot.step (State.warmReset_foot ..)); (· rfl))
    | split

theorem execWarm_foot (ag : Agent) (v : BitVec 32) (s : State) (t' : State) (ht : execWarm ag v s = .next t') : Foot fp480 s t' := by
  have h : Foot fp480 s s := Foot.refl
  rw [← Host.Outcome.next.inj ht]
  repeat' first
    | with_reducible assumption
    | ((with_reducible apply Foot.reg); (on_goal 1 => intro _ _))
    | ((with_reducible apply Foot.step (State.askWarm_foot ..)); (· rfl))

theorem State.activateWarm_foot (s : State) : Foot fp481 s (State.activateWarm s) := by
  have h : Foot fp481 s s := Foot.refl
  unfold State.activateWarm
  repeat' first
    | with_reducible assumption
    | with_reducible apply Foot.ite
    | ((with_reducible apply Foot.inc); (· rfl); (· first | exact Or.inr rfl))
    | ((with_reducible apply Foot.step (State.event_foot ..)); (· rfl))
    | ((with_reducible apply Foot.step (State.warmReset_foot ..)); (· rfl))
    | (fail_if_no_progress extract_lets +onlyGivenNames x; first | (refine Foot.cut x ?_ (fun hx => ?_); (on_goal 1 => subst x); (on_goal 2 => clear_value x)) | (refine Foot.cut2 x ?_ (fun hx => ?_); (on_goal 1 => subst x); (on_goal 2 => clear_value x)) | refine Foot.keepHost x ?_ | refine Foot.keepMbx x ?_ | clear_value x)
    | split

theorem execActivateWarmReset_foot (s : State) (t' : State) (ht : execActivateWarmReset s = .next t') : Foot fp481 s t' := by
  have h : Foot fp481 s s := Foot.refl
  rw [← Host.Outcome.next.inj ht]
  repeat' first
    | with_reducible assumption
    | ((with_reducible apply Foot.step (State.activateWarm_foot ..)); (· rfl))

theorem State.perstAssert_foot (s : State) : Foot fp482 s (State.perstAssert s) := by
  have h : Foot fp482 s s := Foot.refl
  unfold State.perstAssert
  repeat' first
    | with_reducible assumption
    | with_reducible apply Foot.ite
    | ((with_reducible apply Foot.wr); (· rfl); (· first | exact Or.inr rfl))
    | ((with_reducible apply Foot.step (State.event_foot ..)); (· rfl))
    | ((with_reducible apply Foot.step (State.mbxFlr_foot ..)); (· rfl))
    | ((with_reducible apply Foot.step (State.eraseLookaside_foot ..)); (· rfl))
    | ((with_reducible apply Foot.step (State.vfsOff_foot ..)); (· rfl))
    | ((with_reducible apply Foot.step (State.dropHeld_foot ..)); (· rfl))
    | ((with_reducible apply Foot.step (State.quietOps_foot ..)); (· rfl))
    | ((with_reducible apply Foot.step (State.linkDown_foot ..)); (· rfl))
    | ((with_reducible apply Foot.step (State.fnConfigReset_foot ..)); (· rfl))
    | ((with_reducible apply Foot.step (State.move_foot ..)); (· rfl))
    | ((with_reducible apply Foot.foldl); (on_goal 1 => intro _ _ _))
    | (fail_if_no_progress extract_lets +onlyGivenNames x; first | refine Foot.keepHost x ?_ | refine Foot.keepMbx x ?_ | clear_value x)
    | fail_if_no_progress ((with_reducible apply Foot.setTev); (· rfl))
    | fail_if_no_progress ((with_reducible apply Foot.setPwr); (· rfl))
    | split

theorem execPerstAssert_foot (s : State) (t' : State) (ht : execPerstAssert s = .next t') : Foot fp482 s t' := by
  have h : Foot fp482 s s := Foot.refl
  rw [← Host.Outcome.next.inj ht]
  repeat' first
    | with_reducible assumption
    | ((with_reducible apply Foot.step (State.perstAssert_foot ..)); (· rfl))

theorem State.perstDeassert_foot (s : State) : Foot fp483 s (State.perstDeassert s) := by
  have h : Foot fp483 s s := Foot.refl
  unfold State.perstDeassert
  repeat' first
    | with_reducible assumption
    | with_reducible apply Foot.ite
    | ((with_reducible apply Foot.wr); (· rfl); (· first | exact Or.inr rfl))
    | ((with_reducible apply Foot.step (State.event_foot ..)); (· rfl))
    | ((with_reducible apply Foot.step (State.wakeCause_foot ..)); (· rfl))
    | (fail_if_no_progress extract_lets +onlyGivenNames x; first | refine Foot.keepHost x ?_ | refine Foot.keepMbx x ?_ | clear_value x)
    | fail_if_no_progress ((with_reducible apply Foot.setPwr); (· rfl))
    | split

theorem execPerstDeassert_foot (s : State) (t' : State) (ht : execPerstDeassert s = .next t') : Foot fp483 s t' := by
  have h : Foot fp483 s s := Foot.refl
  rw [← Host.Outcome.next.inj ht]
  repeat' first
    | with_reducible assumption
    | ((with_reducible apply Foot.step (State.perstDeassert_foot ..)); (· rfl))

theorem execBmcPowerRequest_foot (target : Option Nat) (s : State) (t' : State) (ht : execBmcPowerRequest target s = .next t') : Foot fp433 s t' := by
  have h : Foot fp433 s s := Foot.refl
  rw [← Host.Outcome.next.inj ht]
  repeat' first
    | with_reducible assumption
    | with_reducible apply Foot.ite
    | ((with_reducible apply Foot.via); (on_goal 1 => intro _ _))
    | ((with_reducible apply Foot.step (State.bmcTake_foot ..)); (· rfl))
    | (fail_if_no_progress extract_lets +onlyGivenNames x; first | refine Foot.keepHost x ?_ | refine Foot.keepMbx x ?_ | clear_value x)
    | fail_if_no_progress ((with_reducible apply Foot.setPwr); (· rfl))
    | split

theorem State.wakeIn_foot (s : State) : Foot fp476 s (State.wakeIn s) := by
  have h : Foot fp476 s s := Foot.refl
  unfold State.wakeIn
  repeat' first
    | with_reducible assumption
    | with_reducible apply Foot.ite
    | ((with_reducible apply Foot.step (State.wakeCause_foot ..)); (· rfl))
    | ((with_reducible apply Foot.step (State.coldStart_foot ..)); (· rfl))
    | (fail_if_no_progress extract_lets +onlyGivenNames x; first | refine Foot.keepHost x ?_ | refine Foot.keepMbx x ?_ | clear_value x)
    | fail_if_no_progress ((with_reducible apply Foot.setPwr); (· rfl))
    | split

theorem execWakeIn_foot (s : State) (t' : State) (ht : execWakeIn s = .next t') : Foot fp476 s t' := by
  have h : Foot fp476 s s := Foot.refl
  rw [← Host.Outcome.next.inj ht]
  repeat' first
    | with_reducible assumption
    | ((with_reducible apply Foot.step (State.wakeIn_foot ..)); (· rfl))

theorem execAonTimer_foot (s : State) (t' : State) (ht : execAonTimer s = .next t') : Foot fp20 s t' := by
  have h : Foot fp20 s s := Foot.refl
  rw [← Host.Outcome.next.inj ht]
  repeat' first
    | with_reducible assumption
    | with_reducible apply Foot.ite
    | ((with_reducible apply Foot.step (State.wakeCause_foot ..)); (· rfl))
    | split

theorem State.deepEntry_foot (s : State) : Foot fp484 s (State.deepEntry s) := by
  have h : Foot fp484 s s := Foot.refl
  unfold State.deepEntry
  repeat' first
    | with_reducible assumption
    | with_reducible apply Foot.ite
    | ((with_reducible apply Foot.wr); (· rfl); (· first | exact Or.inr rfl | exact Or.inl (Leg.n_lt _) | decide))
    | ((with_reducible apply Foot.inc); (· rfl); (· first | exact Or.inr rfl))
    | ((with_reducible apply Foot.step (State.setPower_foot ..)); (· rfl))
    | ((with_reducible apply Foot.step (State.tevSleep_foot ..)); (· rfl))
    | ((with_reducible apply Foot.step (State.linkDown_foot ..)); (· rfl))
    | ((with_reducible apply Foot.step (State.actCtl_foot ..)); (· rfl))
    | ((with_reducible apply Foot.step (State.settleBoth_foot ..)); (· rfl))
    | ((with_reducible apply Foot.step (State.setFlash_foot ..)); (· rfl))
    | ((with_reducible apply Foot.step (State.zeroiseKeys_foot ..)); (· rfl))
    | ((with_reducible apply Foot.step (State.coldStart_foot ..)); (· rfl))
    | (fail_if_no_progress extract_lets +onlyGivenNames x; first | refine Foot.keepHost x ?_ | refine Foot.keepMbx x ?_ | clear_value x)
    | fail_if_no_progress ((with_reducible apply Foot.setMbx); (· rfl); (· exact fun hb => rfl))
    | fail_if_no_progress ((with_reducible apply Foot.setPwr); (· rfl))
    | split

theorem execDeepSleepEntry_foot (s : State) (t' : State) (ht : execDeepSleepEntry s = .next t') : Foot fp484 s t' := by
  have h : Foot fp484 s s := Foot.refl
  rw [← Host.Outcome.next.inj ht]
  repeat' first
    | with_reducible assumption
    | ((with_reducible apply Foot.step (State.deepEntry_foot ..)); (· rfl))

theorem State.retained_foot (s : State) (ticks : Nat) : Foot fp485 s (State.retained s ticks) := by
  unfold State.retained
  extract_lets +onlyGivenNames c t own q regs x1 x2 n
  have hc : Foot fp485 s c := (State.cleared_foot s).mono rfl
  have hf : c.freeIdx = s.freeIdx := by simp only [c]; unfold State.cleared State.withAlert; split <;> rfl
  clear_value c
  have hn : Foot fp485 s n :=
    Foot.fresh rfl hf rfl hc.pending fun hi =>
      ⟨⟨Tab.wf_filter _ _ _ hi.canon.regs, (hc.inv hi).canon.fwRegs, (hc.inv hi).canon.sw⟩, (hc.inv hi).bounded⟩
  clear_value n
  exact Foot.step (State.applyTrims_foot ..) rfl (Foot.wr rfl (Or.inr rfl) (Foot.wr rfl (Or.inr rfl) (Foot.wr rfl (Or.inr rfl) hn)))

theorem State.reEnable_foot (s : State) (l : Leg) (en : Nat) : Foot fp350 s (State.reEnable s l en) := by
  have h : Foot fp350 s s := Foot.refl
  unfold State.reEnable
  repeat' first
    | with_reducible assumption
    | with_reducible apply Foot.ite
    | ((with_reducible apply Foot.step (State.actCtl_foot ..)); (· rfl))
    | split

theorem State.deepExit_foot (s : State) (ticks : Nat) (crcOk : Bool) : Foot fp486 s (State.deepExit s ticks crcOk) := by
  have h : Foot fp486 s s := Foot.refl
  unfold State.deepExit
  repeat' first
    | with_reducible assumption
    | with_reducible apply Foot.ite
    | ((with_reducible apply Foot.wr); (· rfl); (· first | exact Or.inr rfl))
    | ((with_reducible apply Foot.step (State.event_foot ..)); (· rfl))
    | ((with_reducible apply Foot.step (State.recordWake_foot ..)); (· rfl))
    | ((with_reducible apply Foot.step (State.settleSquelch_foot ..)); (· rfl))
    | ((with_reducible apply Foot.step (State.settleLc_foot ..)); (· rfl))
    | ((with_reducible apply Foot.step (State.startLegs_foot ..)); (· rfl))
    | ((with_reducible apply Foot.step (State.release_foot ..)); (· rfl))
    | ((with_reducible apply Foot.step (State.coldStart_foot ..)); (· rfl))
    | ((with_reducible apply Foot.step (State.retained_foot ..)); (· rfl))
    | ((with_reducible apply Foot.step (State.reEnable_foot ..)); (· rfl))
    | (fail_if_no_progress extract_lets +onlyGivenNames x; first | refine Foot.keepHost x ?_ | refine Foot.keepMbx x ?_ | clear_value x)
    | split

theorem execDeepSleepExit_foot (ticks : Nat) (crcOk : Bool) (s : State) (t' : State) (ht : execDeepSleepExit ticks crcOk s = .next t') : Foot fp486 s t' := by
  have h : Foot fp486 s s := Foot.refl
  rw [← Host.Outcome.next.inj ht]
  repeat' first
    | with_reducible assumption
    | ((with_reducible apply Foot.step (State.deepExit_foot ..)); (· rfl))

theorem State.refLoss_foot (s : State) : Foot fp487 s (State.refLoss s) := by
  have h : Foot fp487 s s := Foot.refl
  unfold State.refLoss
  repeat' first
    | with_reducible assumption
    | with_reducible apply Foot.ite
    | ((with_reducible apply Foot.wr); (· rfl); (· first | exact Or.inr rfl))
    | ((with_reducible apply Foot.step (State.event_foot ..)); (· rfl))
    | ((with_reducible apply Foot.step (State.settleBound_foot ..)); (· rfl))
    | ((with_reducible apply Foot.step (State.holdoverJudge_foot ..)); (· rfl))
    | (fail_if_no_progress extract_lets +onlyGivenNames x; first | refine Foot.keepHost x ?_ | refine Foot.keepMbx x ?_ | clear_value x)
    | fail_if_no_progress ((with_reducible apply Foot.setTime); (· rfl))
    | split

theorem execRefLoss_foot (s : State) (t' : State) (ht : execRefLoss s = .next t') : Foot fp487 s t' := by
  have h : Foot fp487 s s := Foot.refl
  rw [← Host.Outcome.next.inj ht]
  repeat' first
    | with_reducible assumption
    | ((with_reducible apply Foot.step (State.refLoss_foot ..)); (· rfl))

theorem State.refRestored_foot (s : State) : Foot fp488 s (State.refRestored s) := by
  have h : Foot fp488 s s := Foot.refl
  unfold State.refRestored
  repeat' first
    | with_reducible assumption
    | with_reducible apply Foot.ite
    | ((with_reducible apply Foot.wr); (· rfl); (· first | exact Or.inr rfl))
    | ((with_reducible apply Foot.step (State.settleBound_foot ..)); (· rfl))
    | ((with_reducible apply Foot.step (State.bootUp_foot ..)); (· rfl))
    | (fail_if_no_progress extract_lets +onlyGivenNames x; first | refine Foot.keepHost x ?_ | refine Foot.keepMbx x ?_ | clear_value x)
    | fail_if_no_progress ((with_reducible apply Foot.setPwr); (· rfl))
    | split

theorem execRefRestored_foot (s : State) (t' : State) (ht : execRefRestored s = .next t') : Foot fp488 s t' := by
  have h : Foot fp488 s s := Foot.refl
  rw [← Host.Outcome.next.inj ht]
  repeat' first
    | with_reducible assumption
    | ((with_reducible apply Foot.step (State.refRestored_foot ..)); (· rfl))

theorem execXt32kStable_foot (s : State) (t' : State) (ht : execXt32kStable s = .next t') : Foot fp489 s t' := by
  have h : Foot fp489 s s := Foot.refl
  rw [← Host.Outcome.next.inj ht]
  repeat' first
    | with_reducible assumption
    | ((with_reducible apply Foot.wr); (· rfl); (· first | exact Or.inr rfl))

theorem execRailLoss_foot (rail : Rail) (s : State) (t' : State) (ht : execRailLoss rail s = .next t') : Foot fp285 s t' := by
  have h : Foot fp285 s s := Foot.refl
  rw [← Host.Outcome.next.inj ht]
  repeat' first
    | with_reducible assumption
    | with_reducible apply Foot.ite
    | ((with_reducible apply Foot.wr); (· rfl); (· first | exact Or.inr rfl | exact Or.inl (Leg.n_lt _) | decide))
    | split

end Sys2Proof.Machine
end

