-- ==== Sys2Proof/Laws/FootOptical.lean ====
section
/-! SUPPORT. What each operation of Machine/Optical.lean can change (`Foot`). -/

namespace Sys2Proof.Machine

def fp490 : Nat := 0x12aeddc000000000000000000001c0000000000000003afe100000000000000000001c100000000000000000000001a18206009dffc0007df000000000002004050000000000000000000000000002186038000000000000000000000000000000008000000002180000000000334000f80009c00001a80000000000000000000
def fp491 : Nat := 0x12aeddc000000000000000000001c0000000000000003afe100000000000000000001c100000000000000000000001a1e206009dffc0007df000000000002004050000000000000000000000000002186038000000000000000000000000000000008000000002180000000000334000f80009c00001a80000000000000000000
def fp492 : Nat := 0x60000000000000000000000000000000000000000000000000000000000000000000000000000000000000000000000000000000000000000000000000000000000000000000000000000000000000000000000000
def fp493 : Nat := 0x80000c0000000000000000000000000000000000000000000000000000000000000000000000000000000070000000400000000000000000000000000000000000000000000000000000000000000000000000000000000000000000000000000000000000000000000000000000000000000000000000000000000000000000
def fp494 : Nat := 0x60000000000000000000000000000000000000000000000000000000
def fp495 : Nat := 0xc00000000000000000000000000000000000000000000000000000000000000000000000000000000000000000000000000000000000000000000000000000000000000000000000000000000000000000000000000000000000000000000000001e0000000000000000000000000000000000000000000000000000000
def fp496 : Nat := 0x780000000000000000000000000000000000000000000000000000000000000000000000000000000000000000000000000000000000000000000000000000000000000000000000000000000000000000000000000
def fp497 : Nat := 0xc0000000000000000000000000000000000000000000000000000000000000000000000000000000780000000000000000000000000000000000000000000000000000000000000000000000000000000000000000000000000000000000000000000000000000000000000000000000000000000000000000000000000
def fp498 : Nat := 0x3f1000000000000000000000000000000000000000000000000000000000000000000000000000000000000000000000000000000000000000000000000000000000000000000000000000000000000000000000
def fp499 : Nat := 0x80000c00000000000000000000000000000000000000000000000000000000000000000000000000000007f03f10004400000000000000000000000000000000000000000000000000000000000000000000000000000000000000000000000000000001f0000000000000000000000000000000000000000000000000000000
def fp500 : Nat := 0x12aeddc000000000000000000001c0000000000000003afe100000000000000000001c100000000000000000000009a18206009dffc0007df000000000002004050000000000000000000000000002186038000000000000000000000000000000008000000002180000000000334000f80009c00001a80000000000000000000
def fp501 : Nat := 0x12aeddc000000000000000000001c0000000000000003afe100000000000000000001c100000000000000000000009a19e06009dffc0007df000000000002004050000000000000000000000000002186038000000000000000000000000000000008000000002180000000000334000f80009c00001a80000000000000000000
def fp502 : Nat := 0x180000000000000000000000000000000000000000000000000000000000000000000000000000000000000000000000000000000000000000000000000000000000000000000000000000000000000000
def fp503 : Nat := 0x12aeddc000000000000000000001c0000000000000003afe100000000000000000001c100000000000000201000001a98206009dffd8007df000000000002004050000000000000000003c00000002186038000000000000000000000000000000008000000002180000000000334008f9602fc001f9fc0000000000000000000
def fp504 : Nat := 0x12aeddc000000000000000000001c0000000000000003afe100000000000000000001c100000000000000000000009a00206009dffc0007df000000000002004050000000000000000000000000002186038000000000000000000000000000000008000000002180000000000334001f80009c00001a80000000000000000000
def fp505 : Nat := 0x12aeddc000000000000000000001c0000000000000003afe100000000000000000001c100000000000000400000009e00206009dffc0007df000000000002004050000000000000000000000000002186038000000000000000000000000000000008000000002180000000000334001f80009c00001a80000000000000000000
def fp506 : Nat := 0x12aeddc000000000000000000001c0000000000000003afe100000000000000000001c100000000000000800000009a00206009dffc0007df000000000002004050000000000000000000000000002186038000000000000000000000000000000008000000002180000000000334001f80009c00001a80000000000000000000
def fp507 : Nat := 0x100040c000000000000000000001c0000000000000000000000000000000000000001c1000000000000200000000000200000000000000000000000000000000000000000000000000000000000000000000000000000000000000000000000000000000000000000000000000000000000000000000000000000000000000000
def fp508 : Nat := 0x100859c000000000000000000001c0000000000000000000000000000000000000001c100000000000002001000c01a0020600008fc000000000000000000000000000000000000000003c00000000000000000000000000000000000000000000008000000000180000000000324008000031200001280000000000000000000
def fp509 : Nat := 0x100841c000000000000000000001c0000000000000000000000000000000000000001c100000000000000000000c01a0020600008fc000000000000000000000000000000000000000000000000000000000000000000000000000000000000000008000000000180000000000324000000011200001280000000000000000000
def fp510 : Nat := 0xc00000000000000000000000000000000000000000000000000000000000000000000000000000d0008000000000000000000000000000000000000000000000000000000000000000000000000000000000000000000000000000000000000000000000000000000000000000000000000000000000000000000000000
def fp511 : Nat := 0x100859c000000000000000000001c0000000000000000000000000000000000000001c10000000000000f001800c01a0020600008fc000000000000000000000000000000000000000003c00000000000000000000000000000000000000000000008000000000180000000000324008000031200001280000000000000000000
def fp512 : Nat := 0x3800000000000000000000000000000000000000000000000000000000000000000000000000000000000000000000000000000000000000000000000000000000000000000000000000000000000000000000000
def fp513 : Nat := 0x100041c000000000000000000001c0000000000000000000000000000000000000001c100000000000000000fc00000000000000000000000000000000000000000000000000000000000000000000000000000000000000000000000000000000000000010008000000000000300000000000000000000000000000000000000
def fp514 : Nat := 0x100000c0000000000000000000000000000000000000000000000000000000000000000000000000000180000000000000000000000000000000000000000000000000000000000000000000000000000000000000000000000000000000000000000000000000000000000000000000000000000000000000000000000000000
def fp515 : Nat := 0x8000000000000000000000000000000000000000000000000000000000000000000000000000000000000580000000000000000000000000000000000000000000000000000000000000000000000000000000000000000000000000000000000000000000000000000000000000000000000000000000000000000000000000
def fp516 : Nat := 0x80000c0000000000000000000000000000000000000000000000000000000000000000000000000000000de0000000000000000000000000000000000000000000000000000000000000000000000000000000000000000000000000000000000000000000000000000000000000000000000000000000000000000000000000
def fp517 : Nat := 0x180040c000000000000000000001c0000000000000000000000000000000000000001c1000000000000000de0000000000000000001800000000000000000000000000000000000000000000000000000000000000000000000000000000000000000000000000000000000000000000000000000000000000000000000000000

theorem State.bringupOver_foot (s : State) (l : Leg) : Foot fp490 s (State.bringupOver s l) := by
  have h : Foot fp490 s s := Foot.refl
  unfold State.bringupOver
  repeat' first
    | with_reducible assumption
    | ((with_reducible apply Foot.wr); (· rfl); (· first | exact Or.inr rfl | exact Or.inl (Leg.n_lt _)))
    | ((with_reducible apply Foot.step (State.settleLanes_foot ..)); (· rfl))
    | ((with_reducible apply Foot.step (State.settleDef_foot ..)); (· rfl))

theorem State.presence_foot (s : State) (l : Leg) (present : Bool) : Foot fp491 s (State.presence s l present) := by
  have h : Foot fp491 s s := Foot.refl
  unfold State.presence
  repeat' first
    | with_reducible assumption
    | with_reducible apply Foot.ite
    | ((with_reducible apply Foot.wr); (· rfl); (· first | exact Or.inr rfl | exact Or.inl (Leg.n_lt _)))
    | ((with_reducible apply Foot.upd); (· rfl); (· rfl))
    | ((with_reducible apply Foot.step (State.wakeCause_foot ..)); (· rfl))
    | ((with_reducible apply Foot.step (State.settleLanes_foot ..)); (· rfl))
    | ((with_reducible apply Foot.step (State.settleDef_foot ..)); (· rfl))
    | ((with_reducible apply Foot.step (State.bringupOver_foot ..)); (· rfl))
    | (fail_if_no_progress extract_lets +onlyGivenNames x; first | (refine Foot.cut x ?_ (fun hx => ?_); (on_goal 1 => subst x); (on_goal 2 => clear_value x)) | (refine Foot.cut2 x ?_ (fun hx => ?_); (on_goal 1 => subst x); (on_goal 2 => clear_value x)) | refine Foot.keepHost x ?_ | refine Foot.keepMbx x ?_ | clear_value x)
    | split

theorem execModulePresence_foot (l : Leg) (present : Bool) (s : State) (t' : State) (ht : execModulePresence l present s = .next t') : Foot fp491 s t' := by
  have h : Foot fp491 s s := Foot.refl
  rw [← Host.Outcome.next.inj ht]
  repeat' first
    | with_reducible assumption
    | ((with_reducible apply Foot.step (State.presence_foot ..)); (· rfl))

theorem State.idWords_foot {m : Nat} {s t : State} {l : Leg} {R : Row} {b : List Byte} (hr : rowIn m R = true) (h : Foot m s t) :
    Foot m s (State.idWords t l R b) := by
  unfold State.idWords
  exact Foot.foldl (fun x y h => Foot.wr hr (Or.inl (Leg.n_lt _)) h) h

theorem State.setBol_foot (s : State) (l : Leg) (u : Nat) (v : Nat) : Foot fp492 s (State.setBol s l u v) := by
  have h : Foot fp492 s s := Foot.refl
  unfold State.setBol
  repeat' first
    | with_reducible assumption
    | with_reducible apply Foot.ite
    | ((with_reducible apply Foot.wr); (· rfl); (· first | exact Or.inr rfl | exact Or.inl (Leg.n_lt _)))
    | (fail_if_no_progress extract_lets +onlyGivenNames x; first | (refine Foot.cut x ?_ (fun hx => ?_); (on_goal 1 => subst x); (on_goal 2 => clear_value x)) | (refine Foot.cut2 x ?_ (fun hx => ?_); (on_goal 1 => subst x); (on_goal 2 => clear_value x)) | refine Foot.keepHost x ?_ | refine Foot.keepMbx x ?_ | clear_value x)
    | split

theorem State.loadLife_foot (s : State) (l : Leg) (page : List Byte) : Foot fp493 s (State.loadLife s l page) := by
  have h : Foot fp493 s s := Foot.refl
  unfold State.loadLife
  repeat' first
    | with_reducible assumption
    | with_reducible apply Foot.ite
    | ((with_reducible apply Foot.wr); (· rfl); (· first | exact Or.inr rfl | exact Or.inl (Leg.n_lt _)))
    | ((with_reducible apply Foot.upd); (· rfl); (· rfl))
    | ((with_reducible apply Foot.step (State.spend_foot ..)); (· rfl))
    | ((with_reducible apply Foot.step (State.setBol_foot ..)); (· rfl))
    | (fail_if_no_progress extract_lets +onlyGivenNames x; first | (refine Foot.cut x ?_ (fun hx => ?_); (on_goal 1 => subst x); (on_goal 2 => clear_value x)) | refine Foot.keepHost x ?_ | refine Foot.keepMbx x ?_ | clear_value x)
    | split

theorem State.putCoeff_foot (s : State) (l : Leg) (u : Nat) (kt : Nat) (ki : Nat) : Foot fp494 s (State.putCoeff s l u kt ki) := by
  have h : Foot fp494 s s := Foot.refl
  unfold State.putCoeff
  repeat' first
    | with_reducible assumption
    | ((with_reducible apply Foot.wr); (· rfl); (· first | exact Or.inr rfl | exact Or.inl (Leg.n_lt _)))

theorem State.loadLaser_foot (s : State) (l : Leg) (page : Option (List Byte)) : Foot fp495 s (State.loadLaser s l page) := by
  have h : Foot fp495 s s := Foot.refl
  unfold State.loadLaser
  repeat' first
    | with_reducible assumption
    | ((with_reducible apply Foot.wr); (· rfl); (· first | exact Or.inr rfl | exact Or.inl (Leg.n_lt _)))
    | ((with_reducible apply Foot.upd); (· rfl); (· rfl))
    | ((with_reducible apply Foot.step (State.putCoeff_foot ..)); (· rfl))
    | (fail_if_no_progress extract_lets +onlyGivenNames x; first | (refine Foot.cut x ?_ (fun hx => ?_); (on_goal 1 => subst x); (on_goal 2 => clear_value x)) | refine Foot.keepHost x ?_ | refine Foot.keepMbx x ?_ | clear_value x)
    | split

theorem State.freshLaser_foot (s : State) (l : Leg) (u : Nat) : Foot fp496 s (State.freshLaser s l u) := by
  have h : Foot fp496 s s := Foot.refl
  unfold State.freshLaser
  repeat' first
    | with_reducible assumption
    | ((with_reducible apply Foot.wr); (· rfl); (· first | exact Or.inr rfl | exact Or.inl (Leg.n_lt _)))
    | (fail_if_no_progress extract_lets +onlyGivenNames x; first | (refine Foot.cut x ?_ (fun hx => ?_); (on_goal 1 => subst x); (on_goal 2 => clear_value x)) | (refine Foot.cut2 x ?_ (fun hx => ?_); (on_goal 1 => subst x); (on_goal 2 => clear_value x)) | refine Foot.keepHost x ?_ | refine Foot.keepMbx x ?_ | clear_value x)

theorem State.newModule_foot (s : State) (l : Leg) (serial : List Byte) : Foot fp497 s (State.newModule s l serial) := by
  have h : Foot fp497 s s := Foot.refl
  unfold State.newModule
  repeat' first
    | with_reducible assumption
    | with_reducible apply Foot.ite
    | ((with_reducible apply Foot.upd); (· rfl); (· rfl))
    | ((with_reducible apply Foot.step (State.freshLaser_foot ..)); (· rfl))
    | split

theorem State.putIdentity_foot (s : State) (l : Leg) (id : ModuleId) : Foot fp498 s (State.putIdentity s l id) := by
  have h : Foot fp498 s s := Foot.refl
  unfold State.putIdentity
  repeat' first
    | with_reducible assumption
    | ((with_reducible apply Foot.wr); (· rfl); (· first | exact Or.inr rfl | exact Or.inl (Leg.n_lt _)))
    | ((with_reducible apply State.idWords_foot); (· rfl))
    | (fail_if_no_progress extract_lets +onlyGivenNames x; first | (refine Foot.cut x ?_ (fun hx => ?_); (on_goal 1 => subst x); (on_goal 2 => clear_value x)) | (refine Foot.cut2 x ?_ (fun hx => ?_); (on_goal 1 => subst x); (on_goal 2 => clear_value x)) | refine Foot.keepHost x ?_ | refine Foot.keepMbx x ?_ | clear_value x)

theorem State.identity_foot (s : State) (l : Leg) (id : ModuleId) : Foot fp499 s (State.identity s l id) := by
  have h : Foot fp499 s s := Foot.refl
  unfold State.identity
  repeat' first
    | with_reducible assumption
    | with_reducible apply Foot.ite
    | ((with_reducible apply Foot.wr); (· rfl); (· first | exact Or.inr rfl | exact Or.inl (Leg.n_lt _)))
    | ((with_reducible apply Foot.upd); (· rfl); (· rfl))
    | ((with_reducible apply Foot.step (State.followLaser_foot ..)); (· rfl))
    | ((with_reducible apply Foot.step (State.loadLife_foot ..)); (· rfl))
    | ((with_reducible apply Foot.step (State.loadLaser_foot ..)); (· rfl))
    | ((with_reducible apply Foot.step (State.newModule_foot ..)); (· rfl))
    | ((with_reducible apply Foot.step (State.putIdentity_foot ..)); (· rfl))
    | (fail_if_no_progress extract_lets +onlyGivenNames x; first | (refine Foot.cut x ?_ (fun hx => ?_); (on_goal 1 => subst x); (on_goal 2 => clear_value x)) | (refine Foot.cut2 x ?_ (fun hx => ?_); (on_goal 1 => subst x); (on_goal 2 => clear_value x)) | refine Foot.keepHost x ?_ | refine Foot.keepMbx x ?_ | clear_value x)
    | split

theorem execModuleIdentityRead_foot (l : Leg) (id : ModuleId) (s : State) (t' : State) (ht : execModuleIdentityRead l id s = .next t') : Foot fp499 s t' := by
  have h : Foot fp499 s s := Foot.refl
  rw [← Host.Outcome.next.inj ht]
  repeat' first
    | with_reducible assumption
    | ((with_reducible apply Foot.step (State.identity_foot ..)); (· rfl))

theorem State.attempt_foot (s : State) (l : Leg) : Foot fp500 s (State.attempt s l) := by
  have h : Foot fp500 s s := Foot.refl
  unfold State.attempt
  repeat' first
    | with_reducible assumption
    | ((with_reducible apply Foot.wr); (· rfl); (· first | exact Or.inr rfl | exact Or.inl (Leg.n_lt _)))
    | ((with_reducible apply Foot.upd); (· rfl); (· rfl))
    | ((with_reducible apply Foot.step (State.settleLanes_foot ..)); (· rfl))
    | ((with_reducible apply Foot.step (State.settleDef_foot ..)); (· rfl))
    | (fail_if_no_progress extract_lets +onlyGivenNames x; first | (refine Foot.cut x ?_ (fun hx => ?_); (on_goal 1 => subst x); (on_goal 2 => clear_value x)) | (refine Foot.cut2 x ?_ (fun hx => ?_); (on_goal 1 => subst x); (on_goal 2 => clear_value x)) | refine Foot.keepHost x ?_ | refine Foot.keepMbx x ?_ | clear_value x)

theorem State.optCtl_foot (s : State) (l : Leg) (v : Nat) : Foot fp501 s (State.optCtl s l v) := by
  have h : Foot fp501 s s := Foot.refl
  unfold State.optCtl
  repeat' first
    | with_reducible assumption
    | with_reducible apply Foot.ite
    | ((with_reducible apply Foot.wr); (· rfl); (· first | exact Or.inr rfl | exact Or.inl (Leg.n_lt _)))
    | ((with_reducible apply Foot.step (State.settleLanes_foot ..)); (· rfl))
    | ((with_reducible apply Foot.step (State.settleDef_foot ..)); (· rfl))
    | ((with_reducible apply Foot.step (State.bringupOver_foot ..)); (· rfl))
    | ((with_reducible apply Foot.step (State.attempt_foot ..)); (· rfl))
    | (fail_if_no_progress extract_lets +onlyGivenNames x; first | (refine Foot.cut x ?_ (fun hx => ?_); (on_goal 1 => subst x); (on_goal 2 => clear_value x)) | (refine Foot.cut2 x ?_ (fun hx => ?_); (on_goal 1 => subst x); (on_goal 2 => clear_value x)) | refine Foot.keepHost x ?_ | refine Foot.keepMbx x ?_ | clear_value x)
    | split

theorem execBringupStart_foot (ag : Agent) (l : Leg) (v : BitVec 32) (s : State) (t' : State) (ht : execBringupStart ag l v s = .next t') : Foot fp501 s t' := by
  have h : Foot fp501 s s := Foot.refl
  rw [← Host.Outcome.next.inj ht]
  repeat' first
    | with_reducible assumption
    | ((with_reducible apply Foot.reg); (on_goal 1 => intro _ _))
    | ((with_reducible apply Foot.step (State.optCtl_foot ..)); (· rfl))

theorem State.cdrLock_foot (s : State) (l : Leg) (w : Nat) : Foot fp502 s (State.cdrLock s l w) := by
  have h : Foot fp502 s s := Foot.refl
  unfold State.cdrLock
  repeat' first
    | with_reducible assumption
    | with_reducible apply Foot.ite
    | ((with_reducible apply Foot.wr); (· rfl); (· first | exact Or.inr rfl | exact Or.inl (Leg.n_lt _)))
    | ((with_reducible apply State.setBit_foot); (· rfl); (· first | exact Or.inr rfl | exact Or.inl (Leg.n_lt _)))
    | (fail_if_no_progress extract_lets +onlyGivenNames x; first | (refine Foot.cut x ?_ (fun hx => ?_); (on_goal 1 => subst x); (on_goal 2 => clear_value x)) | (refine Foot.cut2 x ?_ (fun hx => ?_); (on_goal 1 => subst x); (on_goal 2 => clear_value x)) | refine Foot.keepHost x ?_ | refine Foot.keepMbx x ?_ | clear_value x)
    | split

theorem execCdrLock_foot (l : Leg) (w : Nat) (s : State) (t' : State) (ht : execCdrLock l w s = .next t') : Foot fp502 s t' := by
  have h : Foot fp502 s s := Foot.refl
  rw [← Host.Outcome.next.inj ht]
  repeat' first
    | with_reducible assumption
    | ((with_reducible apply Foot.step (State.cdrLock_foot ..)); (· rfl))

theorem State.attemptFail_foot (s : State) (l : Leg) : Foot fp503 s (State.attemptFail s l) := by
  have h : Foot fp503 s s := Foot.refl
  unfold State.attemptFail
  repeat' first
    | with_reducible assumption
    | with_reducible apply Foot.ite
    | ((with_reducible apply Foot.inc); (· rfl); (· first | exact Or.inr rfl | exact Or.inl (Leg.n_lt _)))
    | ((with_reducible apply Foot.incSat); (· rfl); (· first | exact Or.inr rfl | exact Or.inl (Leg.n_lt _)))
    | ((with_reducible apply Foot.step (State.legFailed_foot ..)); (· rfl))
    | ((with_reducible apply Foot.step (State.bringupOver_foot ..)); (· rfl))
    | (fail_if_no_progress extract_lets +onlyGivenNames x; first | (refine Foot.cut x ?_ (fun hx => ?_); (on_goal 1 => subst x); (on_goal 2 => clear_value x)) | (refine Foot.cut2 x ?_ (fun hx => ?_); (on_goal 1 => subst x); (on_goal 2 => clear_value x)) | refine Foot.keepHost x ?_ | refine Foot.keepMbx x ?_ | clear_value x)
    | split

theorem execBringupAttemptFail_foot (l : Leg) (s : State) (t' : State) (ht : execBringupAttemptFail l s = .next t') : Foot fp503 s t' := by
  have h : Foot fp503 s s := Foot.refl
  rw [← Host.Outcome.next.inj ht]
  repeat' first
    | with_reducible assumption
    | ((with_reducible apply Foot.step (State.attemptFail_foot ..)); (· rfl))

theorem State.retryBringup_foot (s : State) (l : Leg) : Foot fp500 s (State.retryBringup s l) := by
  have h : Foot fp500 s s := Foot.refl
  unfold State.retryBringup
  repeat' first
    | with_reducible assumption
    | with_reducible apply Foot.ite
    | ((with_reducible apply Foot.step (State.attempt_foot ..)); (· rfl))
    | (fail_if_no_progress extract_lets +onlyGivenNames x; first | (refine Foot.cut x ?_ (fun hx => ?_); (on_goal 1 => subst x); (on_goal 2 => clear_value x)) | (refine Foot.cut2 x ?_ (fun hx => ?_); (on_goal 1 => subst x); (on_goal 2 => clear_value x)) | refine Foot.keepHost x ?_ | refine Foot.keepMbx x ?_ | clear_value x)
    | split

theorem execBringupRetry_foot (l : Leg) (s : State) (t' : State) (ht : execBringupRetry l s = .next t') : Foot fp500 s t' := by
  have h : Foot fp500 s s := Foot.refl
  rw [← Host.Outcome.next.inj ht]
  repeat' first
    | with_reducible assumption
    | ((with_reducible apply Foot.step (State.retryBringup_foot ..)); (· rfl))

theorem State.rehuntWave_foot (s : State) (l : Leg) (w : Nat) : Foot fp504 s (State.rehuntWave s l w) := by
  have h : Foot fp504 s s := Foot.refl
  unfold State.rehuntWave
  repeat' first
    | with_reducible assumption
    | with_reducible apply Foot.ite
    | ((with_reducible apply Foot.wr); (· rfl); (· first | exact Or.inr rfl | exact Or.inl (Leg.n_lt _)))
    | ((with_reducible apply Foot.upd); (· rfl); (· rfl))
    | ((with_reducible apply Foot.step (State.toHunt_foot ..)); (· rfl))
    | ((with_reducible apply Foot.step (State.loseSync_foot ..)); (· rfl))
    | (fail_if_no_progress extract_lets +onlyGivenNames x; first | (refine Foot.cut x ?_ (fun hx => ?_); (on_goal 1 => subst x); (on_goal 2 => clear_value x)) | (refine Foot.cut2 x ?_ (fun hx => ?_); (on_goal 1 => subst x); (on_goal 2 => clear_value x)) | refine Foot.keepHost x ?_ | refine Foot.keepMbx x ?_ | clear_value x)
    | split

theorem State.slipWrite_foot (s : State) (ag : Agent) (l : Leg) (w : Nat) (slip : Nat) : Foot fp505 s (State.slipWrite s ag l w slip) := by
  have h : Foot fp505 s s := Foot.refl
  unfold State.slipWrite
  repeat' first
    | with_reducible assumption
    | with_reducible apply Foot.ite
    | ((with_reducible apply Foot.wr); (· rfl); (· first | exact Or.inr rfl | exact Or.inl (Leg.n_lt _)))
    | ((with_reducible apply Foot.inc); (· rfl); (· first | exact Or.inr rfl | exact Or.inl (Leg.n_lt _)))
    | ((with_reducible apply Foot.upd); (· rfl); (· rfl))
    | ((with_reducible apply Foot.step (State.rehuntWave_foot ..)); (· rfl))
    | (fail_if_no_progress extract_lets +onlyGivenNames x; first | (refine Foot.cut x ?_ (fun hx => ?_); (on_goal 1 => subst x); (on_goal 2 => clear_value x)) | (refine Foot.cut2 x ?_ (fun hx => ?_); (on_goal 1 => subst x); (on_goal 2 => clear_value x)) | refine Foot.keepHost x ?_ | refine Foot.keepMbx x ?_ | clear_value x)
    | split

theorem execSlipWrite_foot (ag : Agent) (l : Leg) (w : Nat) (slip : Nat) (s : State) (t' : State) (ht : execSlipWrite ag l w slip s = .next t') : Foot fp505 s t' := by
  have h : Foot fp505 s s := Foot.refl
  rw [← Host.Outcome.next.inj ht]
  repeat' first
    | with_reducible assumption
    | ((with_reducible apply Foot.reg); (on_goal 1 => intro _ _))
    | ((with_reducible apply Foot.step (State.slipWrite_foot ..)); (· rfl))

theorem State.rehunt_foot (s : State) (ag : Agent) (l : Leg) (mask : Nat) : Foot fp506 s (State.rehunt s ag l mask) := by
  have h : Foot fp506 s s := Foot.refl
  unfold State.rehunt
  repeat' first
    | with_reducible assumption
    | with_reducible apply Foot.ite
    | ((with_reducible apply Foot.inc); (· rfl); (· first | exact Or.inr rfl | exact Or.inl (Leg.n_lt _)))
    | ((with_reducible apply Foot.step (State.rehuntWave_foot ..)); (· rfl))
    | ((with_reducible apply Foot.foldl); (on_goal 1 => intro _ _ _))
    | split

theorem execRehunt_foot (ag : Agent) (l : Leg) (mask : Nat) (s : State) (t' : State) (ht : execRehunt ag l mask s = .next t') : Foot fp506 s t' := by
  have h : Foot fp506 s s := Foot.refl
  rw [← Host.Outcome.next.inj ht]
  repeat' first
    | with_reducible assumption
    | ((with_reducible apply Foot.reg); (on_goal 1 => intro _ _))
    | ((with_reducible apply Foot.step (State.rehunt_foot ..)); (· rfl))

theorem State.overload_foot (s : State) (l : Leg) (w : Nat) (clipped : Nat) : Foot fp507 s (State.overload s l w clipped) := by
  have h : Foot fp507 s s := Foot.refl
  unfold State.overload
  repeat' first
    | with_reducible assumption
    | with_reducible apply Foot.ite
    | ((with_reducible apply Foot.inc); (· rfl); (· first | exact Or.inr rfl | exact Or.inl (Leg.n_lt _)))
    | ((with_reducible apply Foot.upd); (· rfl); (· rfl))
    | ((with_reducible apply State.setBit_foot); (· rfl); (· first | exact Or.inr rfl | exact Or.inl (Leg.n_lt _)))
    | ((with_reducible apply Foot.step (State.updWave_foot ..)); (· rfl))
    | ((with_reducible apply Foot.step (State.once_foot ..)); (· rfl))
    | (fail_if_no_progress extract_lets +onlyGivenNames x; first | (refine Foot.cut x ?_ (fun hx => ?_); (on_goal 1 => subst x); (on_goal 2 => clear_value x)) | (refine Foot.cut2 x ?_ (fun hx => ?_); (on_goal 1 => subst x); (on_goal 2 => clear_value x)) | refine Foot.keepHost x ?_ | refine Foot.keepMbx x ?_ | clear_value x)
    | split

theorem execRxovl_foot (l : Leg) (w : Nat) (clipped : Nat) (s : State) (t' : State) (ht : execRxovl l w clipped s = .next t') : Foot fp507 s t' := by
  have h : Foot fp507 s s := Foot.refl
  rw [← Host.Outcome.next.inj ht]
  repeat' first
    | with_reducible assumption
    | ((with_reducible apply Foot.step (State.overload_foot ..)); (· rfl))

theorem execModuleInterrupt_foot (l : Leg) (s : State) (t' : State) (ht : execModuleInterrupt l s = .next t') : Foot fp1 s t' := by
  have h : Foot fp1 s s := Foot.refl
  rw [← Host.Outcome.next.inj ht]
  repeat' first
    | with_reducible assumption
    | ((with_reducible apply Foot.upd); (· rfl); (· rfl))

theorem State.safetyFault_foot (s : State) (l : Leg) (c : Nat) : Foot fp508 s (State.safetyFault s l c) := by
  have h : Foot fp508 s s := Foot.refl
  unfold State.safetyFault
  repeat' first
    | with_reducible assumption
    | with_reducible apply Foot.ite
    | ((with_reducible apply Foot.wr); (· rfl); (· first | exact Or.inr rfl | exact Or.inl (Leg.n_lt _)))
    | ((with_reducible apply Foot.inc); (· rfl); (· first | exact Or.inr rfl | exact Or.inl (Leg.n_lt _)))
    | ((with_reducible apply Foot.upd); (· rfl); (· rfl))
    | ((with_reducible apply Foot.step (State.forceTxdis_foot ..)); (· rfl))
    | (fail_if_no_progress extract_lets +onlyGivenNames x; first | (refine Foot.cut x ?_ (fun hx => ?_); (on_goal 1 => subst x); (on_goal 2 => clear_value x)) | (refine Foot.cut2 x ?_ (fun hx => ?_); (on_goal 1 => subst x); (on_goal 2 => clear_value x)) | refine Foot.keepHost x ?_ | refine Foot.keepMbx x ?_ | clear_value x)
    | split

theorem State.cleanPoll_foot (s : State) (l : Leg) : Foot fp509 s (State.cleanPoll s l) := by
  have h : Foot fp509 s s := Foot.refl
  unfold State.cleanPoll
  repeat' first
    | with_reducible assumption
    | with_reducible apply Foot.ite
    | ((with_reducible apply Foot.wr); (· rfl); (· first | exact Or.inr rfl | exact Or.inl (Leg.n_lt _)))
    | ((with_reducible apply Foot.upd); (· rfl); (· rfl))
    | ((with_reducible apply Foot.step (State.safeRelease_foot ..)); (· rfl))
    | (fail_if_no_progress extract_lets +onlyGivenNames x; first | (refine Foot.cut x ?_ (fun hx => ?_); (on_goal 1 => subst x); (on_goal 2 => clear_value x)) | (refine Foot.cut2 x ?_ (fun hx => ?_); (on_goal 1 => subst x); (on_goal 2 => clear_value x)) | refine Foot.keepHost x ?_ | refine Foot.keepMbx x ?_ | clear_value x)
    | split

theorem State.pollCount_foot (s : State) (l : Leg) (ack : Bool) (duringTelem : Bool) : Foot fp510 s (State.pollCount s l ack duringTelem) := by
  have h : Foot fp510 s s := Foot.refl
  unfold State.pollCount
  repeat' first
    | with_reducible assumption
    | with_reducible apply Foot.ite
    | ((with_reducible apply Foot.inc); (· rfl); (· first | exact Or.inr rfl | exact Or.inl (Leg.n_lt _)))
    | ((with_reducible apply Foot.incSat); (· rfl); (· first | exact Or.inr rfl | exact Or.inl (Leg.n_lt _)))
    | ((with_reducible apply Foot.upd); (· rfl); (· rfl))
    | (fail_if_no_progress extract_lets +onlyGivenNames x; first | refine Foot.keepHost x ?_ | refine Foot.keepMbx x ?_ | clear_value x)
    | split

theorem State.safetyPoll_foot (s : State) (l : Leg) (ack : Bool) (txFault : Bool) (ready : Bool) (duringTelem : Bool) : Foot fp511 s (State.safetyPoll s l ack txFault ready duringTelem) := by
  have h : Foot fp511 s s := Foot.refl
  unfold State.safetyPoll
  repeat' first
    | with_reducible assumption
    | with_reducible apply Foot.ite
    | ((with_reducible apply Foot.upd); (· rfl); (· rfl))
    | ((with_reducible apply Foot.step (State.safetyFault_foot ..)); (· rfl))
    | ((with_reducible apply Foot.step (State.cleanPoll_foot ..)); (· rfl))
    | ((with_reducible apply Foot.step (State.pollCount_foot ..)); (· rfl))
    | (fail_if_no_progress extract_lets +onlyGivenNames x; first | (refine Foot.cut x ?_ (fun hx => ?_); (on_goal 1 => subst x); (on_goal 2 => clear_value x)) | (refine Foot.cut2 x ?_ (fun hx => ?_); (on_goal 1 => subst x); (on_goal 2 => clear_value x)) | refine Foot.keepHost x ?_ | refine Foot.keepMbx x ?_ | clear_value x)
    | split

theorem execSafetyPoll_foot (l : Leg) (ack : Bool) (txFault : Bool) (ready : Bool) (duringTelem : Bool) (s : State) (t' : State) (ht : execSafetyPoll l ack txFault ready duringTelem s = .next t') : Foot fp511 s t' := by
  have h : Foot fp511 s s := Foot.refl
  rw [← Host.Outcome.next.inj ht]
  repeat' first
    | with_reducible assumption
    | ((with_reducible apply Foot.step (State.safetyPoll_foot ..)); (· rfl))

theorem State.putLaser_foot (s : State) (l : Leg) (u : Nat) (t : Nat) (fromCase : Nat) (bias : Nat) : Foot fp512 s (State.putLaser s l u t fromCase bias) := by
  have h : Foot fp512 s s := Foot.refl
  unfold State.putLaser
  repeat' first
    | with_reducible assumption
    | ((with_reducible apply Foot.wr); (· rfl); (· first | exact Or.inr rfl | exact Or.inl (Leg.n_lt _)))

theorem State.telemetry_foot (s : State) (l : Leg) (t : Telemetry) : Foot fp513 s (State.telemetry s l t) := by
  have h : Foot fp513 s s := Foot.refl
  unfold State.telemetry
  repeat' first
    | with_reducible assumption
    | with_reducible apply Foot.ite
    | ((with_reducible apply Foot.wr); (· rfl); (· first | exact Or.inr rfl | exact Or.inl (Leg.n_lt _)))
    | ((with_reducible apply Foot.upd); (· rfl); (· rfl))
    | ((with_reducible apply Foot.step (State.followLaser_foot ..)); (· rfl))
    | ((with_reducible apply Foot.step (State.laserLow_foot ..)); (· rfl))
    | ((with_reducible apply Foot.step (State.putLaser_foot ..)); (· rfl))
    | ((with_reducible apply Foot.foldl); (on_goal 1 => intro _ _ _))
    | (fail_if_no_progress extract_lets +onlyGivenNames x; first | (refine Foot.cut x ?_ (fun hx => ?_); (on_goal 1 => subst x); (on_goal 2 => clear_value x)) | (refine Foot.cut2 x ?_ (fun hx => ?_); (on_goal 1 => subst x); (on_goal 2 => clear_value x)) | refine Foot.keepHost x ?_ | refine Foot.keepMbx x ?_ | clear_value x)
    | split

theorem execTelemetryRead_foot (l : Leg) (t : Telemetry) (s : State) (t' : State) (ht : execTelemetryRead l t s = .next t') : Foot fp513 s t' := by
  have h : Foot fp513 s s := Foot.refl
  rw [← Host.Outcome.next.inj ht]
  repeat' first
    | with_reducible assumption
    | ((with_reducible apply Foot.step (State.telemetry_foot ..)); (· rfl))

theorem State.lifeWrite_foot (s : State) (l : Leg) (acked : Bool) : Foot fp514 s (State.lifeWrite s l acked) := by
  have h : Foot fp514 s s := Foot.refl
  unfold State.lifeWrite
  repeat' first
    | with_reducible assumption
    | with_reducible apply Foot.ite
    | ((with_reducible apply Foot.inc); (· rfl); (· first | exact Or.inr rfl | exact Or.inl (Leg.n_lt _)))
    | ((with_reducible apply Foot.upd); (· rfl); (· rfl))
    | ((with_reducible apply Foot.step (State.emit_foot ..)); (· rfl))
    | (fail_if_no_progress extract_lets +onlyGivenNames x; first | (refine Foot.cut x ?_ (fun hx => ?_); (on_goal 1 => subst x); (on_goal 2 => clear_value x)) | (refine Foot.cut2 x ?_ (fun hx => ?_); (on_goal 1 => subst x); (on_goal 2 => clear_value x)) | refine Foot.keepHost x ?_ | refine Foot.keepMbx x ?_ | clear_value x)
    | split

theorem execLifeRecordWrite_foot (l : Leg) (acked : Bool) (s : State) (t' : State) (ht : execLifeRecordWrite l acked s = .next t') : Foot fp514 s t' := by
  have h : Foot fp514 s s := Foot.refl
  rw [← Host.Outcome.next.inj ht]
  repeat' first
    | with_reducible assumption
    | ((with_reducible apply Foot.step (State.lifeWrite_foot ..)); (· rfl))
    | split

theorem State.project_foot (s : State) (l : Leg) (u : Nat) : Foot fp515 s (State.project s l u) := by
  have h : Foot fp515 s s := Foot.refl
  unfold State.project
  repeat' first
    | with_reducible assumption
    | with_reducible apply Foot.ite
    | ((with_reducible apply Foot.wr); (· rfl); (· first | exact Or.inr rfl | exact Or.inl (Leg.n_lt _)))
    | ((with_reducible apply Foot.step (State.spend_foot ..)); (· rfl))
    | (fail_if_no_progress extract_lets +onlyGivenNames x; first | refine Foot.keepHost x ?_ | refine Foot.keepMbx x ?_ | clear_value x)
    | split

theorem State.sample_foot (s : State) (l : Leg) (u : Nat) : Foot fp516 s (State.sample s l u) := by
  have h : Foot fp516 s s := Foot.refl
  unfold State.sample
  repeat' first
    | with_reducible assumption
    | with_reducible apply Foot.ite
    | ((with_reducible apply Foot.wr); (· rfl); (· first | exact Or.inr rfl | exact Or.inl (Leg.n_lt _)))
    | ((with_reducible apply Foot.upd); (· rfl); (· rfl))
    | ((with_reducible apply Foot.step (State.setBol_foot ..)); (· rfl))
    | ((with_reducible apply Foot.step (State.project_foot ..)); (· rfl))
    | (fail_if_no_progress extract_lets +onlyGivenNames x; first | (refine Foot.cut x ?_ (fun hx => ?_); (on_goal 1 => subst x); (on_goal 2 => clear_value x)) | (refine Foot.cut2 x ?_ (fun hx => ?_); (on_goal 1 => subst x); (on_goal 2 => clear_value x)) | refine Foot.keepHost x ?_ | refine Foot.keepMbx x ?_ | clear_value x)
    | split

theorem State.biasSample_foot (s : State) (l : Leg) : Foot fp517 s (State.biasSample s l) := by
  have h : Foot fp517 s s := Foot.refl
  unfold State.biasSample
  repeat' first
    | with_reducible assumption
    | with_reducible apply Foot.ite
    | ((with_reducible apply Foot.wr); (· rfl); (· first | exact Or.inr rfl))
    | ((with_reducible apply Foot.upd); (· rfl); (· rfl))
    | ((with_reducible apply Foot.step (State.replaceRequest_foot ..)); (· rfl))
    | ((with_reducible apply Foot.step (State.sample_foot ..)); (· rfl))
    | (fail_if_no_progress extract_lets +onlyGivenNames x; first | (refine Foot.cut x ?_ (fun hx => ?_); (on_goal 1 => subst x); (on_goal 2 => clear_value x)) | (refine Foot.cut2 x ?_ (fun hx => ?_); (on_goal 1 => subst x); (on_goal 2 => clear_value x)) | refine Foot.keepHost x ?_ | refine Foot.keepMbx x ?_ | clear_value x)
    | split

theorem execBiasSample_foot (l : Leg) (s : State) (t' : State) (ht : execBiasSample l s = .next t') : Foot fp517 s t' := by
  have h : Foot fp517 s s := Foot.refl
  rw [← Host.Outcome.next.inj ht]
  repeat' first
    | with_reducible assumption
    | ((with_reducible apply Foot.step (State.biasSample_foot ..)); (· rfl))

end Sys2Proof.Machine
end

