-- ==== Sys2Proof/Laws/FootMemory.lean ====
section
/-! SUPPORT. What each operation of Machine/Memory.lean can change (`Foot`). -/

namespace Sys2Proof.Machine

def fp518 : Nat := 0x1000000000000000000000000000000000000000000000000000000000000000000000000000000000000000000000000000000000000000000000000000000000000000000000000000000000000000000000000000000000000000000000000000000000000000000000000000000000000000000000000000000000000000
def fp519 : Nat := 0x1000400000000000000000000001c0300000000000000000000000000000000000001c1000000000000000000000000000000000002800000000000000000000000000000000000000000000000000000000000000000000000000000000000000000000000000000000000000000000000000000000000000000000000000000
def fp520 : Nat := 0x1100400000000000000000000001c0380000000000000000000000000000000000001c1000000000000000000000000000000000002800000000000000000000000000000000000000000000000000000000000000000000000000000000000000000000000000000000000000000000000000000000000000000000000000000
def fp521 : Nat := 0x400000000000000000000000000000000000000000000000000000000000000000000000000000000000000000000000000000000000000000000000000000000000000000000000000000007fffffffffffffffffffffff8000000000000000000000000000000000000000000000000000000000000000000000000000
def fp522 : Nat := 0x4000000000000000000000000000000000000000000000000007fffffffffffffffffffffffffffc00000000000000000000000000000000000000000000000000000000000000000000000000000000000000000000000000000000000000000000000000000000000000000000000000000000000000000000000000000
def fp523 : Nat := 0x534400000000000000000000000000000000000000000000000007fffffffffffffffffffffffffffc00000000000000000000000000000000000000000000000200000000000000000000000007fffffffffffffffffffffff8000000000000000000000000000000000000000000000000000000000000000000000000000
def fp524 : Nat := 0x107bc4c000000000000000000001c1001587ffffd04fe0fe80000007fffffffffffffffffffffffffffc00000000000000000080000000000000000000000000000200200000008214000000000007fffffffffffffffffffffff800000000000000000000000000000000000000000000000000000000000000000000000000c
def fp525 : Nat := 0x117bc4c000000000000000000001c1c01587ffffd04fe0fe80000007fffffffffffffffffffffffffffc00000000000000000080000000000000000000000000000200200000008214000000000007fffffffffffffffffffffff800000000000000000000000000000000000000000000000000000000000000000000000000c
def fp526 : Nat := 0x1100400000000000000000000001c0020000000000000000000000000000000000001c1000000000000000000000000000000000000000000000000000000000000000000000000000000000000000000000000000000000000000000000000000000000000000000000000000000000000000000000000000000000000000000
def fp527 : Nat := 0x117bc4c000000000000000000001c1fa1587ffffd04fe0fe80000007fffffffffffffffffffffffffffc00000000000000000080002800000000000000000000000200200000008214000000000007fffffffffffffffffffffff800000000000000000000000000000000000000000000000000000000000000000000000000c

theorem State.setRowAge_foot (s : State) (inst : Nat) (row : Nat) (n : Nat) : Foot fp518 s (State.setRowAge s inst row n) := by
  have h : Foot fp518 s s := Foot.refl
  unfold State.setRowAge
  repeat' first
    | with_reducible assumption
    | (fail_if_no_progress extract_lets +onlyGivenNames x; first | refine Foot.keepHost x ?_ | refine Foot.keepMbx x ?_ | clear_value x)
    | fail_if_no_progress ((with_reducible apply Foot.setMem); (· rfl))

theorem State.settleSpares_foot (s : State) (inst : Nat) : Foot fp519 s (State.settleSpares s inst) := by
  have h : Foot fp519 s s := Foot.refl
  unfold State.settleSpares
  repeat' first
    | with_reducible assumption
    | with_reducible apply Foot.ite
    | ((with_reducible apply Foot.wr); (· rfl); (· first | exact Or.inr rfl))
    | ((with_reducible apply Foot.step (State.event_foot ..)); (· rfl))
    | ((with_reducible apply Foot.step (State.replaceRequest_foot ..)); (· rfl))
    | (fail_if_no_progress extract_lets +onlyGivenNames x; first | (refine Foot.cut x ?_ (fun hx => ?_); (on_goal 1 => subst x); (on_goal 2 => clear_value x)) | (refine Foot.cut2 x ?_ (fun hx => ?_); (on_goal 1 => subst x); (on_goal 2 => clear_value x)) | refine Foot.keepHost x ?_ | refine Foot.keepMbx x ?_ | clear_value x)
    | split

theorem State.spareRow_foot (s : State) (inst : Nat) (row : Nat) : Foot fp520 s (State.spareRow s inst row) := by
  have h : Foot fp520 s s := Foot.refl
  unfold State.spareRow
  repeat' first
    | with_reducible assumption
    | with_reducible apply Foot.ite
    | ((with_reducible apply Foot.inc); (· rfl); (· first | exact Or.inr rfl))
    | ((with_reducible apply Foot.step (State.event_foot ..)); (· rfl))
    | ((with_reducible apply Foot.step (State.setRowAge_foot ..)); (· rfl))
    | ((with_reducible apply Foot.step (State.settleSpares_foot ..)); (· rfl))
    | split

theorem State.zeroRows_foot {m : Nat} {s t : State} {rows : List Row} {b n i : Nat} (hr : rows.all (rowIn m) = true) (h : Foot m s t) :
    Foot m s (State.zeroRows t rows b n i) := by
  unfold State.zeroRows
  have hall : ∀ R ∈ rows.filter fun R => b ≤ R.addr && R.addr < b + n, rowIn m R = true := fun R hR =>
    List.all_eq_true.1 hr R (List.mem_filter.1 hR).1
  generalize rows.filter (fun R => b ≤ R.addr && R.addr < b + n) = l at hall
  induction l generalizing t with
  | nil => exact h
  | cons R r ih =>
    exact ih (Foot.wr (hall R List.mem_cons_self) (Or.inl (by decide)) h) fun Q hQ => hall Q (List.mem_cons_of_mem _ hQ)

theorem State.zeroQueue_foot (s : State) (q : Nat) : Foot fp4 s (State.zeroQueue s q) := by
  have h : Foot fp4 s s := Foot.refl
  unfold State.zeroQueue
  repeat' first
    | with_reducible assumption
    | ((with_reducible apply Foot.step (State.setTxq_foot ..)); (· rfl))

theorem State.zeroContainer_foot (s : State) (c : Nat) : Foot fp521 s (State.zeroContainer s c) := by
  have h : Foot fp521 s s := Foot.refl
  unfold State.zeroContainer
  repeat' first
    | with_reducible assumption
    | ((with_reducible apply Foot.step (State.setSlot_foot ..)); (· rfl))
    | ((with_reducible apply State.zeroRows_foot); (· rfl))

set_option maxRecDepth 8000 in
theorem State.zeroRing_foot (s : State) (n : Nat) : Foot fp522 s (State.zeroRing s n) := by
  have h : Foot fp522 s s := Foot.refl
  unfold State.zeroRing
  repeat' first
    | with_reducible assumption
    | with_reducible apply Foot.ite
    | ((with_reducible apply Foot.step (State.setEq_foot ..)); (· rfl))
    | ((with_reducible apply Foot.step (State.setTxq_foot ..)); (· rfl))
    | ((with_reducible apply Foot.step (State.setCq_foot ..)); (· rfl))
    | ((with_reducible apply Foot.step (State.setRxr_foot ..)); (· rfl))
    | ((with_reducible apply State.zeroRows_foot); (· rfl))
    | split

theorem State.zeroWindow_foot (s : State) (n : Nat) : Foot fp88 s (State.zeroWindow s n) := by
  have h : Foot fp88 s s := Foot.refl
  unfold State.zeroWindow
  repeat' first
    | with_reducible assumption
    | (fail_if_no_progress extract_lets +onlyGivenNames x; first | refine Foot.keepHost x ?_ | refine Foot.keepMbx x ?_)
    | fail_if_no_progress ((with_reducible apply Foot.setMbx); (· rfl); (· exact fun hb => Tab.wf_filter _ _ _ hb))
    | fail_if_no_progress ((with_reducible apply Foot.setMbx); (· rfl); (· exact fun hb => hb))

theorem State.zeroMessage_foot (s : State) (n : Nat) : Foot fp403 s (State.zeroMessage s n) := by
  have h : Foot fp403 s s := Foot.refl
  unfold State.zeroMessage
  repeat' first
    | with_reducible assumption
    | (fail_if_no_progress extract_lets +onlyGivenNames x; first | refine Foot.keepHost x ?_ | refine Foot.keepMbx x ?_ | clear_value x)
    | fail_if_no_progress ((with_reducible apply Foot.setFw); (· rfl))

theorem State.zeroEntry_foot (s : State) (table : Nat) (idx : Nat) : Foot fp523 s (State.zeroEntry s table idx) := by
  have h : Foot fp523 s s := Foot.refl
  unfold State.zeroEntry
  repeat' first
    | with_reducible assumption
    | ((with_reducible apply Foot.step (State.eraseSlot_foot ..)); (· rfl))
    | ((with_reducible apply Foot.step (State.zeroQueue_foot ..)); (· rfl))
    | ((with_reducible apply Foot.step (State.zeroContainer_foot ..)); (· rfl))
    | ((with_reducible apply Foot.step (State.zeroRing_foot ..)); (· rfl))
    | ((with_reducible apply Foot.step (State.zeroWindow_foot ..)); (· rfl))
    | ((with_reducible apply Foot.step (State.zeroMessage_foot ..)); (· rfl))
    | (fail_if_no_progress extract_lets +onlyGivenNames x; first | refine Foot.keepHost x ?_ | refine Foot.keepMbx x ?_ | clear_value x)
    | fail_if_no_progress ((with_reducible apply Foot.setSlu); (· rfl))
    | split

theorem State.scrubUncorr_foot (s : State) (inst : Nat) (table : Nat) (idx : Nat) : Foot fp524 s (State.scrubUncorr s inst table idx) := by
  have h : Foot fp524 s s := Foot.refl
  unfold State.scrubUncorr
  repeat' first
    | with_reducible assumption
    | with_reducible apply Foot.ite
    | ((with_reducible apply Foot.step (State.eccUncorr_foot ..)); (· rfl))
    | ((with_reducible apply Foot.step (State.repairCopy_foot ..)); (· rfl))
    | ((with_reducible apply Foot.step (State.planned_foot ..)); (· rfl))
    | ((with_reducible apply Foot.step (State.zeroEntry_foot ..)); (· rfl))
    | (fail_if_no_progress extract_lets +onlyGivenNames x; (refine Foot.cut x ?_ (fun hx => ?_); (on_goal 1 => subst x); (on_goal 2 => clear_value x)))
    | split

theorem State.scrubFind_foot (s : State) (inst : Nat) (row : Nat) (err : Nat) (table : Nat) (idx : Nat) : Foot fp525 s (State.scrubFind s inst row err table idx) := by
  have h : Foot fp525 s s := Foot.refl
  unfold State.scrubFind
  repeat' first
    | with_reducible assumption
    | with_reducible apply Foot.ite
    | ((with_reducible apply Foot.wr); (· rfl); (· first | exact Or.inr rfl))
    | ((with_reducible apply Foot.inc); (· rfl); (· first | exact Or.inr rfl))
    | ((with_reducible apply Foot.step (State.event_foot ..)); (· rfl))
    | ((with_reducible apply Foot.step (State.setRowAge_foot ..)); (· rfl))
    | ((with_reducible apply Foot.step (State.scrubUncorr_foot ..)); (· rfl))
    | (fail_if_no_progress extract_lets +onlyGivenNames x; first | (refine Foot.cut x ?_ (fun hx => ?_); (on_goal 1 => subst x); (on_goal 2 => clear_value x)) | (refine Foot.cut2 x ?_ (fun hx => ?_); (on_goal 1 => subst x); (on_goal 2 => clear_value x)) | refine Foot.keepHost x ?_ | refine Foot.keepMbx x ?_ | clear_value x)
    | split

theorem State.scrubCover_foot (s : State) (inst : Nat) (row : Nat) : Foot fp526 s (State.scrubCover s inst row) := by
  have h : Foot fp526 s s := Foot.refl
  unfold State.scrubCover
  repeat' first
    | with_reducible assumption
    | with_reducible apply Foot.ite
    | ((with_reducible apply Foot.wr); (· rfl); (· first | exact Or.inr rfl))
    | ((with_reducible apply Foot.step (State.event_foot ..)); (· rfl))
    | (fail_if_no_progress extract_lets +onlyGivenNames x; first | (refine Foot.cut x ?_ (fun hx => ?_); (on_goal 1 => subst x); (on_goal 2 => clear_value x)) | refine Foot.keepHost x ?_ | refine Foot.keepMbx x ?_ | clear_value x)
    | fail_if_no_progress ((with_reducible apply Foot.setMem); (· rfl))
    | split

theorem State.scrub_foot (s : State) (inst : Nat) (row : Nat) (err : Nat) (table : Nat) (idx : Nat) : Foot fp527 s (State.scrub s inst row err table idx) := by
  have h : Foot fp527 s s := Foot.refl
  unfold State.scrub
  repeat' first
    | with_reducible assumption
    | with_reducible apply Foot.ite
    | ((with_reducible apply Foot.step (State.spareRow_foot ..)); (· rfl))
    | ((with_reducible apply Foot.step (State.scrubFind_foot ..)); (· rfl))
    | ((with_reducible apply Foot.step (State.scrubCover_foot ..)); (· rfl))
    | split

theorem execScrubVisit_foot (inst : Nat) (row : Nat) (err : Nat) (table : Nat) (idx : Nat) (s : State) (t' : State) (ht : execScrubVisit inst row err table idx s = .next t') : Foot fp527 s t' := by
  have h : Foot fp527 s s := Foot.refl
  rw [← Host.Outcome.next.inj ht]
  repeat' first
    | with_reducible assumption
    | ((with_reducible apply Foot.step (State.scrub_foot ..)); (· rfl))

end Sys2Proof.Machine
end

