-- ==== Sys2Proof/Laws/FootRegRead.lean ====
section
/-! SUPPORT. What each operation of Machine/RegRead.lean can change (`Foot`). -/

namespace Sys2Proof.Machine

def fp528 : Nat := 0x20000000000000000000000000000000000000000000000000000000000000000000000000000000000000000000000000000000000000000000000000000000000000000000000000000000000000000000000000000000000000000000000000000000000000000000000000000000000000000000000000000000000
def fp529 : Nat := 0x10000020000000000000000000000000000000000000000000000000000000000000000000000000000000000000000000000000000000000000000000000000000000000000000000000000000000000000000000000000000000000000000000000000000000000000000000000000000000000000000000000000000000000
def fp530 : Nat := 0x10104220000000000000000000001000000000000000000000000000000000200000000000000000000000000000000000000000000000000000000000000000000000000000000000000000000000000000000000000000000000f80000000000000000000000000000000000000000000000000000000000000000000000000
def fp531 : Nat := 0x10104020000000000000000000000000000000000000000000000000000000200000000000000000000000000000000000000000000000000000000000000000000000000000000000000000000000000000000000000000000000000000000000000000000000000000000000000000000000000000000000000000000000000
def fp532 : Nat := 0x1010422000000000000000000001d0000000000000000000000000000000002000001c1000000000000000000000000000000000000000000000000000000000000000000000000000000000000000000000000000000000000000f80000000000000000000000000000000000000000000000000000000000000000000001400

theorem State.latchFrom_foot (s : State) (ag : Agent) (a : Nat) : Foot fp528 s (State.latchFrom s ag a) := by
  have h : Foot fp528 s s := Foot.refl
  unfold State.latchFrom
  repeat' first
    | with_reducible assumption
    | (fail_if_no_progress extract_lets +onlyGivenNames x; first | (refine Foot.cut x ?_ (fun hx => ?_); (on_goal 1 => subst x); (on_goal 2 => clear_value x)) | (refine Foot.cut2 x ?_ (fun hx => ?_); (on_goal 1 => subst x); (on_goal 2 => clear_value x)) | refine Foot.keepHost x ?_ | refine Foot.keepMbx x ?_ | clear_value x)
    | fail_if_no_progress ((with_reducible apply Foot.setLatches); (· rfl))

theorem State.plainRead_foot (s : State) (ag : Agent) (a : Nat) : Foot fp529 s (State.plainRead s ag a) := by
  have h : Foot fp529 s s := Foot.refl
  unfold State.plainRead
  repeat' first
    | with_reducible assumption
    | ((with_reducible apply Foot.step (State.emit_foot ..)); (· rfl))
    | ((with_reducible apply Foot.step (State.latchFrom_foot ..)); (· rfl))

theorem State.viewRead_foot (s : State) (ag : Agent) (off : Nat) : Foot fp91 s (State.viewRead s ag off) := by
  have h : Foot fp91 s s := Foot.refl
  unfold State.viewRead
  repeat' first
    | with_reducible assumption
    | with_reducible apply Foot.ite
    | ((with_reducible apply Foot.step (State.emit_foot ..)); (· rfl))
    | ((with_reducible apply Foot.step (State.mbxLatch_foot ..)); (· rfl))
    | ((with_reducible apply Foot.step (State.swAccess_foot ..)); (· rfl))
    | (fail_if_no_progress extract_lets +onlyGivenNames x; first | (refine Foot.cut x ?_ (fun hx => ?_); (on_goal 1 => subst x); (on_goal 2 => clear_value x)) | (refine Foot.cut2 x ?_ (fun hx => ?_); (on_goal 1 => subst x); (on_goal 2 => clear_value x)) | refine Foot.keepHost x ?_ | refine Foot.keepMbx x ?_ | clear_value x)
    | (rename_i he; refine Foot.cut _ (Foot.ofPair he ?_) (fun hx => ?_); (on_goal 2 => clear he))
    | split

theorem State.winRead_foot (s : State) (ag : Agent) (a : Nat) : Foot fp530 s (State.winRead s ag a) := by
  have h : Foot fp530 s s := Foot.refl
  unfold State.winRead
  repeat' first
    | with_reducible assumption
    | with_reducible apply Foot.ite
    | ((with_reducible apply Foot.step (State.logPop_foot ..)); (· rfl))
    | ((with_reducible apply Foot.step (State.errPopOf_foot ..)); (· rfl))
    | ((with_reducible apply Foot.step (State.tcapPop_foot ..)); (· rfl))
    | ((with_reducible apply Foot.step (State.plainRead_foot ..)); (· rfl))
    | ((with_reducible apply Foot.step (State.viewRead_foot ..)); (· rfl))
    | split

theorem State.vfRead_foot (s : State) (n : Nat) (a : Nat) : Foot fp531 s (State.vfRead s n a) := by
  have h : Foot fp531 s s := Foot.refl
  unfold State.vfRead
  repeat' first
    | with_reducible assumption
    | with_reducible apply Foot.ite
    | ((with_reducible apply Foot.step (State.emit_foot ..)); (· rfl))
    | ((with_reducible apply Foot.step (State.errPopOf_foot ..)); (· rfl))
    | ((with_reducible apply Foot.step (State.plainRead_foot ..)); (· rfl))
    | ((with_reducible apply Foot.step (State.viewRead_foot ..)); (· rfl))
    | split

theorem State.regAccess_foot (s : State) (ag : Agent) (a : Nat) : Foot fp532 s (State.regAccess s ag a) := by
  have h : Foot fp532 s s := Foot.refl
  unfold State.regAccess
  repeat' first
    | with_reducible assumption
    | with_reducible apply Foot.ite
    | ((with_reducible apply Foot.step (State.emit_foot ..)); (· rfl))
    | ((with_reducible apply Foot.step (State.idleExit_foot ..)); (· rfl))
    | ((with_reducible apply Foot.step (State.winRead_foot ..)); (· rfl))
    | ((with_reducible apply Foot.step (State.vfRead_foot ..)); (· rfl))
    | split

theorem State.barred_foot {m : Nat} {s t : State} {ag : Agent} {w : Bool} {f : State → State} (hm : fp81 ||| m = m)
    (hf : ∀ x, Foot m s x → Foot m s (f x)) (h : Foot m s t) : Foot m s (State.barred t ag w f) := by
  unfold State.barred
  extract_lets fn
  clear_value fn
  split
  · exact Foot.reg hf h
  · refine Foot.ite h (Foot.inDom (fun x hx => ?_) h)
    have hy : Foot m s (if w = true then x.fcTake 1 1 0 0 else x.fcTake 0 0 1 0) :=
      Foot.ite (Foot.step (State.fcTake_foot ..) (mask_trans rfl hm) hx) (Foot.step (State.fcTake_foot ..) (mask_trans rfl hm) hx)
    exact Foot.ite (hf _ hy) (Foot.step (State.emit_foot ..) (mask_trans rfl hm) hy)

theorem execRegisterAccess_foot (ag : Agent) (addr : Nat) (s : State) (t' : State) (ht : execRegisterAccess ag addr s = .next t') : Foot fp532 s t' := by
  have h : Foot fp532 s s := Foot.refl
  rw [← Host.Outcome.next.inj ht]
  repeat' first
    | with_reducible assumption
    | ((with_reducible apply Foot.step (State.regAccess_foot ..)); (· rfl))
    | ((with_reducible apply State.barred_foot); (· rfl); (on_goal 1 => intro _ _))

theorem State.latchedRead_foot (s : State) (ag : Agent) (a : Nat) : Foot fp532 s (State.latchedRead s ag a) := by
  have h : Foot fp532 s s := Foot.refl
  unfold State.latchedRead
  repeat' first
    | with_reducible assumption
    | with_reducible apply Foot.ite
    | ((with_reducible apply Foot.step (State.regAccess_foot ..)); (· rfl))
    | split

theorem execLatchedRead_foot (ag : Agent) (addr : Nat) (s : State) (t' : State) (ht : execLatchedRead ag addr s = .next t') : Foot fp532 s t' := by
  have h : Foot fp532 s s := Foot.refl
  rw [← Host.Outcome.next.inj ht]
  repeat' first
    | with_reducible assumption
    | ((with_reducible apply State.barred_foot); (· rfl); (on_goal 1 => intro _ _))
    | ((with_reducible apply Foot.step (State.latchedRead_foot ..)); (· rfl))

end Sys2Proof.Machine
end

