-- ==== Sys2Proof/Laws/FootRegAccess.lean ====
section
/-! SUPPORT. What each operation of Machine/RegAccess.lean can change (`Foot`). -/

namespace Sys2Proof.Machine

def fp533 : Nat := 0x1000000000000000000001fffffffffffffffffffffffffffffffffffffffffffffffffffffffffffffffffffffffffffffffffffffffffffffffffffffffffffffffffffffffffffffffffffffffffffffffffffffffffffffffffffffffffffffffffffffffffffffffffffffffffffffffffffffffffffffffffffff
def fp534 : Nat := 0x1000411000000000000000000001fffffffffffffffffffffffffffffffffffffffffffffffffffffffffffffffffffffffffffffffffffffffffffffffffffffffffffffffffffffffffffffffffffffffffffffffffffffffffffffffffffffffffffffffffffffffffffffffffffffffffffffffffffffffffffffffffffff
def fp535 : Nat := 0x1000420000000000000000000001c0000000000000000000000000000000000000001c10000000000000000000000000000000000000000000000000000000000000000000000000000000000000000000000000000000000000000001fffff800000000000000000000000000000000000000000000000000000000000000000
def fp536 : Nat := 0x1000421000000000000000000001fffffffffffffffffffffffffffffffffffffffffffffffffffffffffffffffffffffffffffffffffffffffffffffffffffffffffffffffffffffffffffffffffffffffffffffffffffffffffffffffffffffffffffffffffffffffffffffffffffffffffffffffffffffffffffffffffffff
def fp537 : Nat := 0x12005cd000000000000000000001fffffffffffffffffffffffffffffffffffffffffffffffffffffffffffffffffffffffffffffffffffffffffffffffffffffffffffffffffffffffffffffffffffffffffffffffffffffffffffffffffffffffffffffffffffffffffffffffffffffffffffffffffffffffffffffffffffff
def fp538 : Nat := 0x1000c01000000000000000000001fffffffffffffffffffffffffffffffffffffffffffffffffffffffffffffffffffffffffffffffffffffffffffffffffffffffffffffffffffffffffffffffffffffffffffffffffffffffffffffffffffffffffffffffffffffffffffffffffffffffffffffffffffffffffffffffffffff
def fp539 : Nat := 0x1000c00000000000000000000001c0000000000000000000000000000000000000001c1000000000000000000000000000000000000000000000000000000000000000000000001216000000000000000000000000000000000000000000000000000000000000000000000000000000000000000000000000000000000000000
def fp540 : Nat := 0x601001000000000000000000001fffffffffffffffffffffffffffffffffffffffffffffffffffffffffffffffffffffffffffffffffffffffffffffffffffffffffffffffffffffffffffffffffffffffffffffffffffffffffffffffffffffffffffffffffffffffffffffffffffffffffffffffffffffffffffffffffffff
def fp541 : Nat := 0x1004000000000000000000000000000000000000000000000000000000000000000000000000000000000000000000000000000000000000000000000000000000000000
def fp542 : Nat := 0x1000401000000000000000000001fffffffffffffffffffffffffffffffffffffffffffffffffffffffffffffffffffffffffffffffffffffffffffffffffffffffffffffffffffffffffffffffffffffffffffffffffffffffffffffffffffffffffffffffffffffffffffffffffffffffffffffffffffffffffffffffffffff
def fp543 : Nat := 0x122eddd000000000000000000001fffffffffffffffffffffffffffffffffffffffffffffffffffffffffffffffffffffffffffffffffffffffffffffffffffffffffffffffffffffffffffffffffffffffffffffffffffffffffffffffffffffffffffffffffffffffffffffffffffffffffffffffffffffffffffffffffffff
def fp544 : Nat := 0x1008401000000000000000000001fffffffffffffffffffffffffffffffffffffffffffffffffffffffffffffffffffffffffffffffffffffffffffffffffffffffffffffffffffffffffffffffffffffffffffffffffffffffffffffffffffffffffffffffffffffffffffffffffffffffffffffffffffffffffffffffffffff
def fp545 : Nat := 0x12aeddd000000000000000000001fffffffffffffffffffffffffffffffffffffffffffffffffffffffffffffffffffffffffffffffffffffffffffffffffffffffffffffffffffffffffffffffffffffffffffffffffffffffffffffffffffffffffffffffffffffffffffffffffffffffffffffffffffffffffffffffffffff
def fp546 : Nat := 0x800000000000000000000000000000000000000000000000000000000000000000000000000000000000000000000000000000000000000000000000000000000000000000000000000000000000000000000000000000000000000000000000
def fp547 : Nat := 0x12205cc000000000000000000001c00000000000000000001fffe0000000000008001fffe7ffffbffd7c00000000000000000000000000000000000000000000000000000000000000000000000002106020000000000000000000000000000000000000000000000000000000000000000000000000000000000000000000000
def fp548 : Nat := 0x12205cd000000000000000000001fffffffffffffffffffffffffffffffffffffffffffffffffffffffffffffffffffffffffffffffffffffffffffffffffffffffffffffffffffffffffffffffffffffffffffffffffffffffffffffffffffffffffffffffffffffffffffffffffffffffffffffffffffffffffffffffffffff
def fp549 : Nat := 0x1010400000000000000000000001c000000000000000000000001de03000008000001c1000000000000000000000000000000000000000000000000000000000000000000000000000000000000000000000000000000000000000000000000000000000000000000000000000000000000000000000000000000000000000000
def fp550 : Nat := 0x1010401000000000000000000001fffffffffffffffffffffffffffffffffffffffffffffffffffffffffffffffffffffffffffffffffffffffffffffffffffffffffffffffffffffffffffffffffffffffffffffffffffffffffffffffffffffffffffffffffffffffffffffffffffffffffffffffffffffffffffffffffffff
def fp551 : Nat := 0x1effdfd800000000000000000001fffffffffffffffffffffffffffffffffffffffffffffffffffffffffffffffffffffffffffffffffffffffffffffffffffffffffffffffffffffffffffffffffffffffffffffffffffffffffffffffffffffffffffffffffffffffffffffffffffffffffffffffffffffffffffffffffffff
def fp552 : Nat := 0x1ffffff800000000000000000001fffffffffffffffffffffffffffffffffffffffffffffffffffffffffffffffffffffffffffffffffffffffffffffffffffffffffffffffffffffffffffffffffffffffffffffffffffffffffffffffffffffffffffffffffffffffffffffffffffffffffffffffffffffffffffffffffffff
def fp553 : Nat := 0x1000400000000000000000000001c0000000000000000000000000000000008000001c1000000000000000000000000000000000000000000000000080800000000000000000000000000000000000000000000000000000000000000000000000000000000000000000000000000000000000000000000000000000000000000
def fp554 : Nat := 0x12305cc000000000000000000001c00000000000000000001ffffde030c0008008001fffe7ffffbffd7c00000000000000000000000000000000000080800000000000000000000000000000000002106020000000000000000000000000000000000000000000000000000000000000000000000000000000000000000001400

theorem State.fieldWrite_foot {m : Nat} {s t : State} {ag : Agent} {own locked : Bool} {R : Row} {l i v : Nat} (hm : m.testBit 1000 = true)
    (hr : rowIn m R = true) (hl : l < 2 ∨ R.legStride = 0) (h : Foot m s t) : Foot m s (State.fieldWrite t ag own locked R l i v) := by
  unfold State.fieldWrite
  extract_lets x old put
  have hp : ∀ n, Foot m s (put n) := fun n => Foot.ite (Foot.wrA hm hr hl h) (Foot.wr hr hl h)
  split <;> first | exact hp _ | exact h | exact Foot.ite h (hp _)

theorem reach_leg {R : Row} {a l i : Nat} {b : Bool} (h : Row.reach R a = some (l, i, b)) : l < 2 := by
  unfold Row.reach at h
  split at h
  · cases h; decide
  · split at h
    · cases h
    · rw [Option.map_eq_some_iff] at h
      obtain ⟨p, -, hp⟩ := h
      cases hp
      decide

set_option maxRecDepth 8000 in
theorem windowRows_in (a : Nat) : (windowRows a).all (rowIn fp533) = true := by
  unfold windowRows
  split <;> first
    | rfl
    | (split <;> rfl)

theorem State.wordWrite_foot (s : State) (ag : Agent) (a : Nat) (v : Nat) : Foot fp533 s (State.wordWrite s ag a v) := by
  unfold State.wordWrite
  extract_lets own locked
  clear_value own locked
  have hw := List.all_eq_true.1 (windowRows_in a)
  generalize windowRows a = rows at hw
  have h : Foot fp533 s s := Foot.refl
  suffices hs : ∀ t, Foot fp533 s t → Foot fp533 s (rows.foldl (fun s R =>
      match Row.reach R a with
      | some (l, i, false) => s.fieldWrite ag own locked R l i v
      | _ => s) t) from hs s h
  induction rows with
  | nil => exact fun t ht => ht
  | cons R r ih =>
    intro t ht
    rw [List.foldl_cons]
    refine ih (fun Q hQ => hw Q (List.mem_cons_of_mem _ hQ)) _ ?_
    split
    · rename_i he
      exact State.fieldWrite_foot rfl (hw R List.mem_cons_self) (Or.inl (reach_leg he)) ht
    · exact ht

theorem State.timeWrite_foot (s : State) (ag : Agent) (off : Nat) (v : Nat) : Foot fp534 s (State.timeWrite s ag off v) := by
  have h : Foot fp534 s s := Foot.refl
  unfold State.timeWrite
  repeat' first
    | with_reducible assumption
    | with_reducible apply Foot.ite
    | ((with_reducible apply Foot.step (State.settleSquelch_foot ..)); (· rfl))
    | ((with_reducible apply Foot.step (State.settleTime_foot ..)); (· rfl))
    | ((with_reducible apply Foot.step (State.snap_foot ..)); (· rfl))
    | ((with_reducible apply Foot.step (State.timeApply_foot ..)); (· rfl))
    | ((with_reducible apply Foot.step (State.timeCancel_foot ..)); (· rfl))
    | ((with_reducible apply Foot.step (State.stageWrite_foot ..)); (· rfl))
    | ((with_reducible apply Foot.step (State.wordWrite_foot ..)); (· rfl))
    | (fail_if_no_progress extract_lets +onlyGivenNames x; (refine Foot.cut x ?_ (fun hx => ?_); (on_goal 1 => subst x); (on_goal 2 => clear_value x)))
    | split

theorem State.chCtl_foot (s : State) (n : Nat) (v : Nat) : Foot fp535 s (State.chCtl s n v) := by
  have h : Foot fp535 s s := Foot.refl
  unfold State.chCtl
  repeat' first
    | with_reducible assumption
    | with_reducible apply Foot.ite
    | ((with_reducible apply Foot.step (State.tevArm_foot ..)); (· rfl))
    | ((with_reducible apply Foot.step (State.tevDisarm_foot ..)); (· rfl))
    | ((with_reducible apply Foot.step (State.tevConfig_foot ..)); (· rfl))
    | (fail_if_no_progress extract_lets +onlyGivenNames x; first | (refine Foot.cut x ?_ (fun hx => ?_); (on_goal 1 => subst x); (on_goal 2 => clear_value x)) | (refine Foot.cut2 x ?_ (fun hx => ?_); (on_goal 1 => subst x); (on_goal 2 => clear_value x)) | refine Foot.keepHost x ?_ | refine Foot.keepMbx x ?_ | clear_value x)
    | split

theorem State.tevWrite_foot (s : State) (ag : Agent) (off : Nat) (v : Nat) : Foot fp536 s (State.tevWrite s ag off v) := by
  have h : Foot fp536 s s := Foot.refl
  unfold State.tevWrite
  repeat' first
    | with_reducible assumption
    | with_reducible apply Foot.ite
    | ((with_reducible apply Foot.step (State.tevConfig_foot ..)); (· rfl))
    | ((with_reducible apply Foot.step (State.ptmTrigger_foot ..)); (· rfl))
    | ((with_reducible apply Foot.step (State.wordWrite_foot ..)); (· rfl))
    | ((with_reducible apply Foot.step (State.chCtl_foot ..)); (· rfl))
    | (fail_if_no_progress extract_lets +onlyGivenNames x; first | (refine Foot.cut x ?_ (fun hx => ?_); (on_goal 1 => subst x); (on_goal 2 => clear_value x)) | (refine Foot.cut2 x ?_ (fun hx => ?_); (on_goal 1 => subst x); (on_goal 2 => clear_value x)) | refine Foot.keepHost x ?_ | refine Foot.keepMbx x ?_ | clear_value x)
    | split

theorem State.uschWrite_foot (s : State) (ag : Agent) (off : Nat) (v : Nat) : Foot fp537 s (State.uschWrite s ag off v) := by
  have h : Foot fp537 s s := Foot.refl
  unfold State.uschWrite
  repeat' first
    | with_reducible assumption
    | with_reducible apply Foot.ite
    | ((with_reducible apply Foot.wrA); (· rfl); (· rfl); (· first | exact Or.inr rfl))
    | ((with_reducible apply Foot.step (State.uschReset_foot ..)); (· rfl))
    | ((with_reducible apply Foot.step (State.queueRead_foot ..)); (· rfl))
    | ((with_reducible apply Foot.step (State.queueWrite_foot ..)); (· rfl))
    | ((with_reducible apply Foot.step (State.resetBuckets_foot ..)); (· rfl))
    | ((with_reducible apply Foot.step (State.slotWrite_foot ..)); (· rfl))
    | ((with_reducible apply Foot.step (State.uschSnap_foot ..)); (· rfl))
    | ((with_reducible apply Foot.step (State.wordWrite_foot ..)); (· rfl))
    | split

theorem State.stblWriteReg_foot (s : State) (ag : Agent) (off : Nat) (v : Nat) : Foot fp538 s (State.stblWriteReg s ag off v) := by
  have h : Foot fp538 s s := Foot.refl
  unfold State.stblWriteReg
  repeat' first
    | with_reducible assumption
    | with_reducible apply Foot.ite
    | ((with_reducible apply Foot.step (State.rearm_foot ..)); (· rfl))
    | ((with_reducible apply State.stblCmd_foot); (· rfl); (on_goal 1 => intro _ _))
    | ((with_reducible apply Foot.step (State.stblRead_foot ..)); (· rfl))
    | ((with_reducible apply Foot.step (State.stblWrite_foot ..)); (· rfl))
    | ((with_reducible apply Foot.step (State.stblInvalidate_foot ..)); (· rfl))
    | ((with_reducible apply Foot.step (State.stblCompare_foot ..)); (· rfl))
    | ((with_reducible apply Foot.step (State.statLatch_foot ..)); (· rfl))
    | ((with_reducible apply Foot.step (State.wordWrite_foot ..)); (· rfl))
    | (fail_if_no_progress extract_lets +onlyGivenNames x; first | (refine Foot.cut x ?_ (fun hx => ?_); (on_goal 1 => subst x); (on_goal 2 => clear_value x)) | refine Foot.keepHost x ?_ | refine Foot.keepMbx x ?_ | clear_value x)
    | split

theorem State.commitWrite_foot (s : State) (v : Nat) : Foot fp539 s (State.commitWrite s v) := by
  have h : Foot fp539 s s := Foot.refl
  unfold State.commitWrite
  repeat' first
    | with_reducible assumption
    | with_reducible apply Foot.ite
    | ((with_reducible apply Foot.wr); (· rfl); (· first | exact Or.inr rfl))
    | ((with_reducible apply Foot.step (State.commitOpen_foot ..)); (· rfl))
    | ((with_reducible apply Foot.step (State.commit_foot ..)); (· rfl))
    | ((with_reducible apply Foot.step (State.commitCancel_foot ..)); (· rfl))
    | (fail_if_no_progress extract_lets +onlyGivenNames x; first | (refine Foot.cut x ?_ (fun hx => ?_); (on_goal 1 => subst x); (on_goal 2 => clear_value x)) | (refine Foot.cut2 x ?_ (fun hx => ?_); (on_goal 1 => subst x); (on_goal 2 => clear_value x)) | refine Foot.keepHost x ?_ | refine Foot.keepMbx x ?_ | clear_value x)
    | split

theorem State.clsWrite_foot (s : State) (ag : Agent) (off : Nat) (v : Nat) : Foot fp538 s (State.clsWrite s ag off v) := by
  have h : Foot fp538 s s := Foot.refl
  unfold State.clsWrite
  repeat' first
    | with_reducible assumption
    | ((with_reducible apply State.clsCmd_foot); (· rfl); (on_goal 1 => intro _ _))
    | ((with_reducible apply Foot.step (State.readNode_foot ..)); (· rfl))
    | ((with_reducible apply Foot.step (State.writeNode_foot ..)); (· rfl))
    | ((with_reducible apply Foot.step (State.readRoot_foot ..)); (· rfl))
    | ((with_reducible apply Foot.step (State.writeRoot_foot ..)); (· rfl))
    | ((with_reducible apply Foot.step (State.readProf_foot ..)); (· rfl))
    | ((with_reducible apply Foot.step (State.writeProf_foot ..)); (· rfl))
    | ((with_reducible apply Foot.step (State.wordWrite_foot ..)); (· rfl))
    | ((with_reducible apply Foot.step (State.commitWrite_foot ..)); (· rfl))
    | split

theorem State.ciphWrite_foot (s : State) (ag : Agent) (off : Nat) (v : Nat) : Foot fp540 s (State.ciphWrite s ag off v) := by
  have h : Foot fp540 s s := Foot.refl
  unfold State.ciphWrite
  repeat' first
    | with_reducible assumption
    | ((with_reducible apply State.slotCmd_foot); (· rfl); (on_goal 1 => intro _ _))
    | ((with_reducible apply Foot.step (State.slotQuery_foot ..)); (· rfl))
    | ((with_reducible apply Foot.step (State.slotRead_foot ..)); (· rfl))
    | ((with_reducible apply Foot.step (State.slotErase_foot ..)); (· rfl))
    | ((with_reducible apply Foot.step (State.keyRefresh_foot ..)); (· rfl))
    | ((with_reducible apply Foot.step (State.wordWrite_foot ..)); (· rfl))
    | split

theorem laneRows_en (up : Bool) : rowIn fp541 (laneRows up).en = true := by cases up <;> rfl

theorem State.laneSettle_foot (s : State) (up : Bool) (l : Nat) : Foot fp541 s (State.laneSettle s up l) := by
  unfold State.laneSettle
  exact Foot.ite (Foot.wr (laneRows_en up) (Or.inl (by decide)) Foot.refl) Foot.refl

theorem laneRows_in (up : Bool) : rowIn fp542 (laneRows up).werr = true := by cases up <;> rfl

theorem State.laneWrite_foot (s : State) (ag : Agent) (a : Nat) (v : Nat) : Foot fp542 s (State.laneWrite s ag a v) := by
  have h : Foot fp542 s s := Foot.refl
  unfold State.laneWrite
  extract_lets +onlyGivenNames up l
  refine Foot.ite (Foot.step (State.event_foot ..) rfl (Foot.wr (laneRows_in up) (Or.inl (by decide)) h)) ?_
  extract_lets +onlyGivenNames was x
  have hx : Foot fp542 s x := Foot.step (State.wordWrite_foot ..) rfl h
  exact Foot.ite (Foot.step (State.laneSettle_foot ..) rfl hx) hx

theorem State.sluWrite_foot (s : State) (ag : Agent) (off : Nat) (v : Nat) : Foot fp543 s (State.sluWrite s ag off v) := by
  have h : Foot fp543 s s := Foot.refl
  unfold State.sluWrite
  repeat' first
    | with_reducible assumption
    | with_reducible apply Foot.ite
    | ((with_reducible apply Foot.wr); (· rfl); (· first | exact Or.inr rfl))
    | ((with_reducible apply Foot.step (State.cmRead_foot ..)); (· rfl))
    | ((with_reducible apply Foot.step (State.cmWrite_foot ..)); (· rfl))
    | ((with_reducible apply Foot.step (State.cmCopy_foot ..)); (· rfl))
    | ((with_reducible apply Foot.step (State.cmClear_foot ..)); (· rfl))
    | ((with_reducible apply Foot.step (State.swapRequest_foot ..)); (· rfl))
    | ((with_reducible apply Foot.step (State.swapCancel_foot ..)); (· rfl))
    | ((with_reducible apply Foot.step (State.settleSluice_foot ..)); (· rfl))
    | ((with_reducible apply Foot.step (State.settleProt_foot ..)); (· rfl))
    | ((with_reducible apply Foot.step (State.wordWrite_foot ..)); (· rfl))
    | ((with_reducible apply Foot.step (State.laneWrite_foot ..)); (· rfl))
    | (fail_if_no_progress extract_lets +onlyGivenNames x; first | (refine Foot.cut x ?_ (fun hx => ?_); (on_goal 1 => subst x); (on_goal 2 => clear_value x)) | refine Foot.keepHost x ?_ | refine Foot.keepMbx x ?_ | clear_value x)
    | split

theorem State.protWrite_foot (s : State) (ag : Agent) (off : Nat) (v : Nat) : Foot fp543 s (State.protWrite s ag off v) := by
  have h : Foot fp543 s s := Foot.refl
  unfold State.protWrite
  repeat' first
    | with_reducible assumption
    | ((with_reducible apply Foot.wr); (· rfl); (· first | exact Or.inr rfl))
    | ((with_reducible apply Foot.step (State.settleProt_foot ..)); (· rfl))
    | ((with_reducible apply Foot.step (State.protCmd_foot ..)); (· rfl))
    | ((with_reducible apply Foot.step (State.wordWrite_foot ..)); (· rfl))
    | split

theorem State.pmWrite_foot (s : State) (ag : Agent) (off : Nat) (v : Nat) : Foot fp544 s (State.pmWrite s ag off v) := by
  have h : Foot fp544 s s := Foot.refl
  unfold State.pmWrite
  repeat' first
    | with_reducible assumption
    | ((with_reducible apply Foot.step (State.pmTest_foot ..)); (· rfl))
    | ((with_reducible apply Foot.step (State.binLatch_foot ..)); (· rfl))
    | ((with_reducible apply Foot.step (State.wordWrite_foot ..)); (· rfl))
    | split

theorem State.optWrite_foot (s : State) (ag : Agent) (off : Nat) (v : Nat) : Foot fp545 s (State.optWrite s ag off v) := by
  have h : Foot fp545 s s := Foot.refl
  unfold State.optWrite
  repeat' first
    | with_reducible assumption
    | with_reducible apply Foot.ite
    | ((with_reducible apply Foot.step (State.optCtl_foot ..)); (· rfl))
    | ((with_reducible apply Foot.step (State.slipWrite_foot ..)); (· rfl))
    | ((with_reducible apply Foot.step (State.rehunt_foot ..)); (· rfl))
    | ((with_reducible apply Foot.step (State.wordWrite_foot ..)); (· rfl))
    | (fail_if_no_progress extract_lets +onlyGivenNames x; first | (refine Foot.cut x ?_ (fun hx => ?_); (on_goal 1 => subst x); (on_goal 2 => clear_value x)) | (refine Foot.cut2 x ?_ (fun hx => ?_); (on_goal 1 => subst x); (on_goal 2 => clear_value x)) | refine Foot.keepHost x ?_ | refine Foot.keepMbx x ?_ | clear_value x)
    | split

theorem State.ringField_foot {m : Nat} {s t : State} {k : RingKind} {R : Row} {r v : Nat} (hr : rowIn m R = true)
    (hs : rowIn m Reg.HIF_STATUS_WERR = true) (h : Foot m s t) : Foot m s (State.ringField t k R r v) := by
  unfold State.ringField
  exact Foot.ite (Foot.ite h (Foot.wr hs (Or.inr rfl) h)) (Foot.wr hr (Or.inl (by decide)) h)

theorem State.ringInt_foot {m : Nat} {s t : State} {a b c d : Row} {r v : Nat} (ha : rowIn m a = true) (hb : rowIn m b = true)
    (hc : rowIn m c = true) (hd : rowIn m d = true) (h : Foot m s t) : Foot m s (State.ringInt t a b c d r v) := by
  unfold State.ringInt
  exact Foot.wr hd (Or.inl (by decide)) (Foot.wr hc (Or.inl (by decide)) (Foot.wr hb (Or.inl (by decide)) (Foot.wr ha (Or.inl (by decide)) h)))

theorem State.ringWrite_foot (s : State) (ag : Agent) (kind : RingKind) (ring : Nat) (off : Nat) (v : Nat) : Foot fp547 s (State.ringWrite s ag kind ring off v) := by
  have h : Foot fp547 s s := Foot.refl
  unfold State.ringWrite
  repeat' first
    | with_reducible assumption
    | with_reducible apply Foot.ite
    | ((with_reducible apply Foot.step (State.ringCtl_foot ..)); (· rfl))
    | ((with_reducible apply State.ringField_foot); (· first | rfl | (cases ‹RingKind› <;> rfl)); (· rfl))
    | ((with_reducible apply State.ringInt_foot); (· rfl); (· rfl); (· rfl); (· rfl))
    | split

theorem State.hifWrite_foot (s : State) (ag : Agent) (a : Nat) (v : Nat) : Foot fp548 s (State.hifWrite s ag a v) := by
  have h : Foot fp548 s s := Foot.refl
  unfold State.hifWrite
  repeat' first
    | with_reducible assumption
    | with_reducible apply Foot.ite
    | ((with_reducible apply Foot.step (State.replayCopy_foot ..)); (· rfl))
    | ((with_reducible apply Foot.step (State.hifSnap_foot ..)); (· rfl))
    | ((with_reducible apply Foot.step (State.resume_foot ..)); (· rfl))
    | ((with_reducible apply Foot.step (State.discard_foot ..)); (· rfl))
    | ((with_reducible apply Foot.step (State.wordWrite_foot ..)); (· rfl))
    | ((with_reducible apply Foot.step (State.ringWrite_foot ..)); (· rfl))
    | (fail_if_no_progress extract_lets +onlyGivenNames x; (refine Foot.cut x ?_ (fun hx => ?_); (on_goal 1 => subst x); (on_goal 2 => clear_value x)))
    | split

theorem State.viewWrite_foot (s : State) (ag : Agent) (off : Nat) (v : Nat) : Foot fp549 s (State.viewWrite s ag off v) := by
  have h : Foot fp549 s s := Foot.refl
  unfold State.viewWrite
  repeat' first
    | with_reducible assumption
    | with_reducible apply Foot.ite
    | ((with_reducible apply Foot.step (State.setView_foot ..)); (· rfl))
    | ((with_reducible apply Foot.step (State.mbxSend_foot ..)); (· rfl))
    | ((with_reducible apply Foot.step (State.mbxAck_foot ..)); (· rfl))
    | ((with_reducible apply Foot.step (State.mbxFetch_foot ..)); (· rfl))
    | ((with_reducible apply Foot.step (State.swAccess_foot ..)); (· rfl))
    | split

theorem State.mbxWrite_foot (s : State) (ag : Agent) (off : Nat) (v : Nat) : Foot fp550 s (State.mbxWrite s ag off v) := by
  have h : Foot fp550 s s := Foot.refl
  unfold State.mbxWrite
  repeat' first
    | with_reducible assumption
    | with_reducible apply Foot.ite
    | ((with_reducible apply Foot.step (State.mbxOwnWrite_foot ..)); (· rfl))
    | ((with_reducible apply Foot.step (State.wordWrite_foot ..)); (· rfl))
    | ((with_reducible apply Foot.step (State.viewWrite_foot ..)); (· rfl))
    | split

theorem State.admWriteReg_foot (s : State) (ag : Agent) (off : Nat) (v : Nat) : Foot fp548 s (State.admWriteReg s ag off v) := by
  have h : Foot fp548 s s := Foot.refl
  unfold State.admWriteReg
  repeat' first
    | with_reducible assumption
    | with_reducible apply Foot.ite
    | ((with_reducible apply Foot.step (State.doorbell_foot ..)); (· rfl))
    | ((with_reducible apply Foot.step (State.ringCtl_foot ..)); (· rfl))
    | ((with_reducible apply Foot.step (State.wordWrite_foot ..)); (· rfl))
    | ((with_reducible apply State.ringField_foot); (· first | rfl | (cases ‹RingKind› <;> rfl)); (· rfl))
    | split

theorem State.fwWrite_foot (s : State) (ag : Agent) (off : Nat) (v : Nat) : Foot fp551 s (State.fwWrite s ag off v) := by
  have h : Foot fp551 s s := Foot.refl
  unfold State.fwWrite
  repeat' first
    | with_reducible assumption
    | with_reducible apply Foot.ite
    | ((with_reducible apply Foot.wr); (· rfl); (· first | exact Or.inr rfl))
    | ((with_reducible apply Foot.step (State.lcArm_foot ..)); (· rfl))
    | ((with_reducible apply Foot.step (State.heartbeat_foot ..)); (· rfl))
    | ((with_reducible apply Foot.step (State.wordWrite_foot ..)); (· rfl))
    | (fail_if_no_progress extract_lets +onlyGivenNames x; (refine Foot.cut x ?_ (fun hx => ?_); (on_goal 1 => subst x); (on_goal 2 => clear_value x)))
    | split

theorem State.pwrWrite_foot (s : State) (ag : Agent) (off : Nat) (v : Nat) : Foot fp552 s (State.pwrWrite s ag off v) := by
  have h : Foot fp552 s s := Foot.refl
  unfold State.pwrWrite
  repeat' first
    | with_reducible assumption
    | with_reducible apply Foot.ite
    | ((with_reducible apply Foot.step (State.askCold_foot ..)); (· rfl))
    | ((with_reducible apply Foot.step (State.askWarm_foot ..)); (· rfl))
    | ((with_reducible apply Foot.step (State.wordWrite_foot ..)); (· rfl))
    | split

theorem State.winWrite_foot (s : State) (ag : Agent) (a : Nat) (v : Nat) : Foot fp552 s (State.winWrite s ag a v) := by
  have h : Foot fp552 s s := Foot.refl
  unfold State.winWrite
  repeat' first
    | with_reducible assumption
    | with_reducible apply Foot.ite
    | ((with_reducible apply Foot.step (State.actCtl_foot ..)); (· rfl))
    | ((with_reducible apply Foot.step (State.hgCtl_foot ..)); (· rfl))
    | ((with_reducible apply Foot.step (State.wordWrite_foot ..)); (· rfl))
    | ((with_reducible apply Foot.step (State.timeWrite_foot ..)); (· rfl))
    | ((with_reducible apply Foot.step (State.tevWrite_foot ..)); (· rfl))
    | ((with_reducible apply Foot.step (State.uschWrite_foot ..)); (· rfl))
    | ((with_reducible apply Foot.step (State.stblWriteReg_foot ..)); (· rfl))
    | ((with_reducible apply Foot.step (State.clsWrite_foot ..)); (· rfl))
    | ((with_reducible apply Foot.step (State.ciphWrite_foot ..)); (· rfl))
    | ((with_reducible apply Foot.step (State.sluWrite_foot ..)); (· rfl))
    | ((with_reducible apply Foot.step (State.protWrite_foot ..)); (· rfl))
    | ((with_reducible apply Foot.step (State.pmWrite_foot ..)); (· rfl))
    | ((with_reducible apply Foot.step (State.optWrite_foot ..)); (· rfl))
    | ((with_reducible apply Foot.step (State.hifWrite_foot ..)); (· rfl))
    | ((with_reducible apply Foot.step (State.mbxWrite_foot ..)); (· rfl))
    | ((with_reducible apply Foot.step (State.admWriteReg_foot ..)); (· rfl))
    | ((with_reducible apply Foot.step (State.fwWrite_foot ..)); (· rfl))
    | ((with_reducible apply Foot.step (State.pwrWrite_foot ..)); (· rfl))
    | (fail_if_no_progress extract_lets +onlyGivenNames x; first | refine Foot.keepHost x ?_ | refine Foot.keepMbx x ?_ | clear_value x)
    | split

theorem State.vfLane_foot (s : State) (n : Nat) (a : Nat) (v : Nat) : Foot fp553 s (State.vfLane s n a v) := by
  have h : Foot fp553 s s := Foot.refl
  unfold State.vfLane
  repeat' first
    | with_reducible assumption
    | with_reducible apply Foot.ite
    | ((with_reducible apply Foot.wr); (· rfl); (· first | exact Or.inr rfl))
    | ((with_reducible apply Foot.step (State.errLog_foot ..)); (· rfl))
    | (fail_if_no_progress extract_lets +onlyGivenNames x; first | (refine Foot.cut x ?_ (fun hx => ?_); (on_goal 1 => subst x); (on_goal 2 => clear_value x)) | (refine Foot.cut2 x ?_ (fun hx => ?_); (on_goal 1 => subst x); (on_goal 2 => clear_value x)) | refine Foot.keepHost x ?_ | refine Foot.keepMbx x ?_ | clear_value x)
    | split

theorem State.vfWrite_foot (s : State) (n : Nat) (a : Nat) (v : Nat) : Foot fp554 s (State.vfWrite s n a v) := by
  have h : Foot fp554 s s := Foot.refl
  unfold State.vfWrite
  repeat' first
    | with_reducible assumption
    | with_reducible apply Foot.ite
    | ((with_reducible apply Foot.step (State.msixWrite_foot ..)); (· rfl))
    | ((with_reducible apply Foot.step (State.doorbell_foot ..)); (· rfl))
    | ((with_reducible apply Foot.step (State.ringWrite_foot ..)); (· rfl))
    | ((with_reducible apply Foot.step (State.viewWrite_foot ..)); (· rfl))
    | ((with_reducible apply Foot.step (State.vfLane_foot ..)); (· rfl))
    | (fail_if_no_progress extract_lets +onlyGivenNames x; first | refine Foot.keepHost x ?_ | refine Foot.keepMbx x ?_ | clear_value x)
    | fail_if_no_progress ((with_reducible apply Foot.setHost); (· rfl); (· exact fun hb => ⟨hb.log, hb.errs, hb.fwQueue⟩))
    | split

theorem State.bar2Write_foot (s : State) (a : Nat) (v : Nat) : Foot fp61 s (State.bar2Write s a v) := by
  have h : Foot fp61 s s := Foot.refl
  unfold State.bar2Write
  repeat' first
    | with_reducible assumption
    | with_reducible apply Foot.ite
    | ((with_reducible apply Foot.step (State.msixWrite_foot ..)); (· rfl))
    | ((with_reducible apply Foot.step (State.doorbell_foot ..)); (· rfl))
    | split

theorem State.regWrite_foot (s : State) (ag : Agent) (a : Nat) (v : Nat) : Foot fp552 s (State.regWrite s ag a v) := by
  have h : Foot fp552 s s := Foot.refl
  unfold State.regWrite
  repeat' first
    | with_reducible assumption
    | with_reducible apply Foot.ite
    | ((with_reducible apply Foot.step (State.idleExit_foot ..)); (· rfl))
    | ((with_reducible apply Foot.step (State.winWrite_foot ..)); (· rfl))
    | ((with_reducible apply Foot.step (State.vfWrite_foot ..)); (· rfl))
    | ((with_reducible apply Foot.step (State.bar2Write_foot ..)); (· rfl))
    | split

theorem execRegisterWrite_foot (ag : Agent) (addr : Nat) (v : BitVec 32) (s : State) (t' : State) (ht : execRegisterWrite ag addr v s = .next t') : Foot fp552 s t' := by
  have h : Foot fp552 s s := Foot.refl
  rw [← Host.Outcome.next.inj ht]
  repeat' first
    | with_reducible assumption
    | ((with_reducible apply State.barred_foot); (· rfl); (on_goal 1 => intro _ _))
    | ((with_reducible apply Foot.step (State.regWrite_foot ..)); (· rfl))

theorem State.barAccess_foot (s : State) (f : Nat) (write : Bool) (v : Nat) : Foot fp9 s (State.barAccess s f write v) := by
  have h : Foot fp9 s s := Foot.refl
  unfold State.barAccess
  repeat' first
    | with_reducible assumption
    | with_reducible apply Foot.ite
    | ((with_reducible apply Foot.step (State.emit_foot ..)); (· rfl))
    | ((with_reducible apply Foot.step (State.errLog_foot ..)); (· rfl))
    | split

theorem execBarAccess_foot (f : Nat) (write : Bool) (v : BitVec 64) (s : State) (t' : State) (ht : execBarAccess f write v s = .next t') : Foot fp9 s t' := by
  have h : Foot fp9 s s := Foot.refl
  rw [← Host.Outcome.next.inj ht]
  repeat' first
    | with_reducible assumption
    | with_reducible apply Foot.ite
    | ((with_reducible apply State.barred_foot); (· rfl); (on_goal 1 => intro _ _))
    | ((with_reducible apply Foot.step (State.barAccess_foot ..)); (· rfl))
    | split

end Sys2Proof.Machine
end

