-- ==== Sys2Proof/Laws/Frame.lean ====
section
/-! SUPPORT. From a footprint (`Foot`) to a frame (`Unchanged`): a frame holds where its rows and parts cover the mask. -/

namespace Sys2Proof.Machine

variable {m : Nat} {s t : State} {rows : List Row} {parts : List Part}

/-- The bit of a part in a mask. -/
def Part.bit : Part → Nat
  | .fwRegs => 1000 | .latches => 1001 | .legA => 1002 | .legB => 1003 | .time => 1004 | .timers => 1005 | .slots => 1006
  | .bursts => 1007 | .ledger => 1008 | .seqs => 1009 | .host => 1010 | .classifier => 1011 | .cipher => 1012 | .sluice => 1013
  | .protection => 1014 | .monitor => 1015 | .mailboxes => 1016 | .admin => 1017 | .firmware => 1018 | .power => 1019
  | .memory => 1020 | .requests => 1021 | .txid => 1022 | .freeIdx => 1023 | .out => 1024

theorem Part.bit_inj {p q : Part} (h : Part.bit p = Part.bit q) : p = q := by
  revert h; cases p <;> cases q <;> decide

/-- The mask of a list of bits. -/
def bitsMask : List Nat → Nat
  | [] => 0
  | n :: r => (2 ^ n).lor (bitsMask r)

theorem bitsMask_not (l : List Nat) (k : Nat) (h : k ∉ l) : (bitsMask l).testBit k = false := by
  induction l with
  | nil => exact Nat.zero_testBit k
  | cons n r ih =>
    simp only [List.mem_cons, not_or] at h
    have e : (2 ^ n ||| bitsMask r).testBit k = false := by
      rw [Nat.testBit_or, ih h.2, Nat.testBit_two_pow, Bool.or_false]
      exact decide_eq_false (Ne.symm h.1)
    exact e

/-- The parts cover the mask's bits for parts. -/
def coversParts (m : Nat) (parts : List Part) : Bool :=
  Nat.beq ((m >>> 1000).lor (bitsMask (parts.map Part.bit) >>> 1000)) (bitsMask (parts.map Part.bit) >>> 1000)

/-- The rows and parts cover the mask; the register store is not written as a whole. -/
def covers (m : Nat) (rows : List Row) (parts : List Part) : Bool :=
  coversParts m parts && rows.all rowKnown && Nat.beq (m.lor (bitsMask (rows.map rowIdx ++ parts.map Part.bit))) (bitsMask (rows.map rowIdx ++ parts.map Part.bit)) &&
    rows.all (fun R => Nat.blt (rowIdx R) 917) && !(bitsMask (rows.map rowIdx ++ parts.map Part.bit)).testBit 999

/-- The numbers are new, and the mask of those seen. -/
def fresh : List Nat → Nat → Bool
  | [], _ => true
  | n :: r, a => !a.testBit n && fresh r (a.lor (2 ^ n))

theorem fresh_nodup (l : List Nat) (a : Nat) (h : fresh l a = true) : l.Nodup ∧ ∀ n ∈ l, a.testBit n = false := by
  induction l generalizing a with
  | nil => exact ⟨List.nodup_nil, by simp⟩
  | cons n r ih =>
    simp only [fresh, Bool.and_eq_true, Bool.not_eq_true'] at h
    obtain ⟨h1, h2⟩ := h
    obtain ⟨h3, h4⟩ := ih _ h2
    have h5 : ∀ k ∈ r, a.testBit k = false ∧ n ≠ k := by
      intro k hk
      have : (a ||| 2 ^ n).testBit k = false := h4 k hk
      rw [Nat.testBit_or, Nat.testBit_two_pow] at this
      simp only [Bool.or_eq_false_iff, decide_eq_false_iff_not] at this
      exact this
    refine ⟨List.nodup_cons.2 ⟨fun hn => (h5 n hn).2 rfl, h3⟩, fun k hk => ?_⟩
    rcases List.mem_cons.1 hk with rfl | hk
    · exact h1
    · exact (h5 k hk).1

set_option maxRecDepth 20000 in
theorem rowIdx_fresh : (fresh (fieldTree.toList.map rowIdx) 0 && (fieldTree.toList.map rowIdx).all fun n => Nat.blt n 917) = true := by
  decide +kernel

theorem mem_tree {R : Row} (h : rowKnown R = true) : R ∈ fieldTree.toList := by
  have key : ∀ (t : FieldTree) (k : Nat), (t.find k).2 ∈ t.toList := by
    intro t
    induction t with
    | leaf n R => intro k; simp [FieldTree.find, FieldTree.toList]
    | node c l r hl hr =>
      intro k
      simp only [FieldTree.find, FieldTree.toList, List.mem_append]
      cases Nat.blt k c
      · exact Or.inr (hr k)
      · exact Or.inl (hl k)
  have := key fieldTree (R.addr * 64 + R.lo)
  unfold rowKnown at h
  rwa [of_decide_eq_true h] at this

/-- Two fields of the tree with one number are one field. -/
theorem rowIdx_inj {R Q : Row} (hR : rowKnown R = true) (hQ : rowKnown Q = true) (h : rowIdx R = rowIdx Q) : R = Q := by
  have hn := (fresh_nodup _ 0 (Bool.and_eq_true_iff.1 rowIdx_fresh).1).1
  exact List.inj_on_of_nodup_map hn (mem_tree hR) (mem_tree hQ) h

theorem rowIdx_lt {R : Row} (h : rowKnown R = true) : rowIdx R < 917 := by
  have := List.all_eq_true.1 (Bool.and_eq_true_iff.1 rowIdx_fresh).2 _ (List.mem_map_of_mem (f := rowIdx) (mem_tree h))
  exact Nat.blt_eq ▸ this

def tabKnown (t : Nat) : Bool := (tabRows t).all rowKnown

set_option maxRecDepth 8000 in
theorem tabKnown_all : ((List.range 17 ++ [48, 49, 50, 51, 52]).all tabKnown) = true := by decide +kernel

theorem tabRows_known (a : Nat) : tabKnown (tabOf a) = true := by
  generalize ht : tabOf a = t
  by_cases hm : t ∈ List.range 17 ++ [48, 49, 50, 51, 52]
  · exact List.all_eq_true.1 tabKnown_all t hm
  · have e : tabRows t = [] := by
      simp only [List.mem_append, List.mem_range, List.mem_cons, List.not_mem_nil, or_false, not_or] at hm
      have hn : ¬(16 ≤ t ∧ t < 48) := by
        intro hc
        simp only [tabOf] at ht
        split_ifs at ht <;> omega
      have hb : 52 < t := by omega
      clear hm hn ht
      unfold tabRows windowRows
      rw [Nat.mul_div_cancel _ (by decide)]
      split <;> first
        | omega
        | (rw [if_neg (by omega)])
    unfold tabKnown
    rw [e]
    rfl

/-- The fields of the map are those of the tree. -/
theorem inMap_known {R : Row} (h : Row.inMap R = true) : rowKnown R = true := by
  unfold Row.inMap at h
  have hm := List.elem_iff.1 h
  rw [windowRows_tab] at hm
  exact List.all_eq_true.1 (tabRows_known R.addr) R hm

/-- A footprint whose parts are covered leaves the other parts as they were. -/
theorem Foot.partsBut (hm : coversParts m parts = true) (h : Foot m s t) : PartsBut parts s t := by
  refine ⟨fun p hp => ?_, h.pending⟩
  have hk : Part.bit p ∉ parts.map Part.bit := fun hk => by
    obtain ⟨q, hq, e⟩ := List.mem_map.1 hk
    exact hp (Part.bit_inj e ▸ hq)
  have h0 : 1000 ≤ Part.bit p := by cases p <;> decide
  have hb : m.testBit (Part.bit p) = false := by
    have e := mask_sub (m := bitsMask (parts.map Part.bit) >>> 1000) (a := m >>> 1000) (i := Part.bit p - 1000)
      (Nat.eq_of_beq_eq_true hm) (by
        rw [Nat.testBit_shiftRight, Nat.add_sub_cancel' h0]
        exact bitsMask_not _ _ hk)
    rwa [Nat.testBit_shiftRight, Nat.add_sub_cancel' h0] at e
  cases p
  · exact h.fwRegs hb
  · exact h.latches hb
  · exact h.la hb
  · exact h.lb hb
  · exact h.time hb
  · exact h.tev hb
  · exact h.slots hb
  · exact h.bursts hb
  · exact h.led hb
  · exact h.seqs hb
  · exact h.host hb
  · exact h.cls hb
  · exact h.ciph hb
  · exact h.slu hb
  · exact h.prot hb
  · exact h.pm hb
  · exact h.mbx hb
  · exact h.adm hb
  · exact h.fw hb
  · exact h.pwr hb
  · exact h.mem hb
  · exact h.reqs hb
  · exact h.txid hb
  · exact h.freeIdx hb
  · exact h.out hb

/-- A footprint that the rows and parts cover is a frame. -/
theorem Foot.unchanged (hm : covers m rows parts = true) (h : Foot m s t) : Unchanged rows parts s t := by
  unfold covers at hm
  simp only [Bool.and_eq_true, Nat.beq_eq, List.all_eq_true, Nat.blt_eq, Bool.not_eq_true'] at hm
  obtain ⟨⟨⟨⟨hp, hk⟩, hb⟩, hl⟩, hw⟩ := hm
  refine ⟨fun R l i hR hn hc => ?_, h.partsBut hp⟩
  refine h.rd (mask_sub hb hw) (mask_sub hb (bitsMask_not _ _ fun hx => ?_)) hR hc.2
  rcases List.mem_append.1 hx with hx | hx
  · obtain ⟨Q, hQ, e⟩ := List.mem_map.1 hx
    exact hn (rowIdx_inj (hk Q hQ) (inMap_known hR) e ▸ hQ)
  · obtain ⟨q, hq, e⟩ := List.mem_map.1 hx
    have h1 : 1000 ≤ Part.bit q := by cases q <;> decide
    have h2 := rowIdx_lt (inMap_known hR)
    omega

end Sys2Proof.Machine
end

