-- ==== Sys2Proof/Laws/State.lean ====
section
/-! SUPPORT. What each plain update of State leaves alone, field by field, true by unfolding; and the register store read after a write. A
later proof needs to unfold no record update. -/

namespace Sys2Proof.Machine

variable (s : State) (R Q : Row) (v l i k j n : Nat)

/-! ### A write of a register field -/

@[simp] theorem State.wr_fwRegs : (s.wr R v l i).fwRegs = s.fwRegs := rfl
@[simp] theorem State.wr_latches : (s.wr R v l i).latches = s.latches := rfl
@[simp] theorem State.wr_la : (s.wr R v l i).la = s.la := rfl
@[simp] theorem State.wr_lb : (s.wr R v l i).lb = s.lb := rfl
@[simp] theorem State.wr_time : (s.wr R v l i).time = s.time := rfl
@[simp] theorem State.wr_tev : (s.wr R v l i).tev = s.tev := rfl
@[simp] theorem State.wr_slots : (s.wr R v l i).slots = s.slots := rfl
@[simp] theorem State.wr_bursts : (s.wr R v l i).bursts = s.bursts := rfl
@[simp] theorem State.wr_led : (s.wr R v l i).led = s.led := rfl
@[simp] theorem State.wr_seqs : (s.wr R v l i).seqs = s.seqs := rfl
@[simp] theorem State.wr_host : (s.wr R v l i).host = s.host := rfl
@[simp] theorem State.wr_cls : (s.wr R v l i).cls = s.cls := rfl
@[simp] theorem State.wr_ciph : (s.wr R v l i).ciph = s.ciph := rfl
@[simp] theorem State.wr_slu : (s.wr R v l i).slu = s.slu := rfl
@[simp] theorem State.wr_prot : (s.wr R v l i).prot = s.prot := rfl
@[simp] theorem State.wr_pm : (s.wr R v l i).pm = s.pm := rfl
@[simp] theorem State.wr_mbx : (s.wr R v l i).mbx = s.mbx := rfl
@[simp] theorem State.wr_adm : (s.wr R v l i).adm = s.adm := rfl
@[simp] theorem State.wr_fw : (s.wr R v l i).fw = s.fw := rfl
@[simp] theorem State.wr_pwr : (s.wr R v l i).pwr = s.pwr := rfl
@[simp] theorem State.wr_mem : (s.wr R v l i).mem = s.mem := rfl
@[simp] theorem State.wr_reqs : (s.wr R v l i).reqs = s.reqs := rfl
@[simp] theorem State.wr_txid : (s.wr R v l i).txid = s.txid := rfl
@[simp] theorem State.wr_msi : (s.wr R v l i).msi = s.msi := rfl
@[simp] theorem State.wr_freeIdx : (s.wr R v l i).freeIdx = s.freeIdx := rfl
@[simp] theorem State.wr_out : (s.wr R v l i).out = s.out := rfl
@[simp] theorem State.wr_pending : (s.wr R v l i).pending = s.pending := rfl

@[simp] theorem State.inc_fwRegs : (s.inc R l i n).fwRegs = s.fwRegs := rfl
@[simp] theorem State.inc_latches : (s.inc R l i n).latches = s.latches := rfl
@[simp] theorem State.inc_la : (s.inc R l i n).la = s.la := rfl
@[simp] theorem State.inc_lb : (s.inc R l i n).lb = s.lb := rfl
@[simp] theorem State.inc_time : (s.inc R l i n).time = s.time := rfl
@[simp] theorem State.inc_tev : (s.inc R l i n).tev = s.tev := rfl
@[simp] theorem State.inc_slots : (s.inc R l i n).slots = s.slots := rfl
@[simp] theorem State.inc_bursts : (s.inc R l i n).bursts = s.bursts := rfl
@[simp] theorem State.inc_led : (s.inc R l i n).led = s.led := rfl
@[simp] theorem State.inc_seqs : (s.inc R l i n).seqs = s.seqs := rfl
@[simp] theorem State.inc_host : (s.inc R l i n).host = s.host := rfl
@[simp] theorem State.inc_cls : (s.inc R l i n).cls = s.cls := rfl
@[simp] theorem State.inc_ciph : (s.inc R l i n).ciph = s.ciph := rfl
@[simp] theorem State.inc_slu : (s.inc R l i n).slu = s.slu := rfl
@[simp] theorem State.inc_prot : (s.inc R l i n).prot = s.prot := rfl
@[simp] theorem State.inc_pm : (s.inc R l i n).pm = s.pm := rfl
@[simp] theorem State.inc_mbx : (s.inc R l i n).mbx = s.mbx := rfl
@[simp] theorem State.inc_adm : (s.inc R l i n).adm = s.adm := rfl
@[simp] theorem State.inc_fw : (s.inc R l i n).fw = s.fw := rfl
@[simp] theorem State.inc_pwr : (s.inc R l i n).pwr = s.pwr := rfl
@[simp] theorem State.inc_mem : (s.inc R l i n).mem = s.mem := rfl
@[simp] theorem State.inc_reqs : (s.inc R l i n).reqs = s.reqs := rfl
@[simp] theorem State.inc_txid : (s.inc R l i n).txid = s.txid := rfl
@[simp] theorem State.inc_msi : (s.inc R l i n).msi = s.msi := rfl
@[simp] theorem State.inc_freeIdx : (s.inc R l i n).freeIdx = s.freeIdx := rfl
@[simp] theorem State.inc_out : (s.inc R l i n).out = s.out := rfl
@[simp] theorem State.inc_pending : (s.inc R l i n).pending = s.pending := rfl

@[simp] theorem State.incSat_fwRegs : (s.incSat R l i n).fwRegs = s.fwRegs := rfl
@[simp] theorem State.incSat_latches : (s.incSat R l i n).latches = s.latches := rfl
@[simp] theorem State.incSat_la : (s.incSat R l i n).la = s.la := rfl
@[simp] theorem State.incSat_lb : (s.incSat R l i n).lb = s.lb := rfl
@[simp] theorem State.incSat_time : (s.incSat R l i n).time = s.time := rfl
@[simp] theorem State.incSat_tev : (s.incSat R l i n).tev = s.tev := rfl
@[simp] theorem State.incSat_slots : (s.incSat R l i n).slots = s.slots := rfl
@[simp] theorem State.incSat_bursts : (s.incSat R l i n).bursts = s.bursts := rfl
@[simp] theorem State.incSat_led : (s.incSat R l i n).led = s.led := rfl
@[simp] theorem State.incSat_seqs : (s.incSat R l i n).seqs = s.seqs := rfl
@[simp] theorem State.incSat_host : (s.incSat R l i n).host = s.host := rfl
@[simp] theorem State.incSat_cls : (s.incSat R l i n).cls = s.cls := rfl
@[simp] theorem State.incSat_ciph : (s.incSat R l i n).ciph = s.ciph := rfl
@[simp] theorem State.incSat_slu : (s.incSat R l i n).slu = s.slu := rfl
@[simp] theorem State.incSat_prot : (s.incSat R l i n).prot = s.prot := rfl
@[simp] theorem State.incSat_pm : (s.incSat R l i n).pm = s.pm := rfl
@[simp] theorem State.incSat_mbx : (s.incSat R l i n).mbx = s.mbx := rfl
@[simp] theorem State.incSat_adm : (s.incSat R l i n).adm = s.adm := rfl
@[simp] theorem State.incSat_fw : (s.incSat R l i n).fw = s.fw := rfl
@[simp] theorem State.incSat_pwr : (s.incSat R l i n).pwr = s.pwr := rfl
@[simp] theorem State.incSat_mem : (s.incSat R l i n).mem = s.mem := rfl
@[simp] theorem State.incSat_reqs : (s.incSat R l i n).reqs = s.reqs := rfl
@[simp] theorem State.incSat_txid : (s.incSat R l i n).txid = s.txid := rfl
@[simp] theorem State.incSat_msi : (s.incSat R l i n).msi = s.msi := rfl
@[simp] theorem State.incSat_freeIdx : (s.incSat R l i n).freeIdx = s.freeIdx := rfl
@[simp] theorem State.incSat_out : (s.incSat R l i n).out = s.out := rfl
@[simp] theorem State.incSat_pending : (s.incSat R l i n).pending = s.pending := rfl

@[simp] theorem State.dec_fwRegs : (s.dec R l i n).fwRegs = s.fwRegs := rfl
@[simp] theorem State.dec_latches : (s.dec R l i n).latches = s.latches := rfl
@[simp] theorem State.dec_la : (s.dec R l i n).la = s.la := rfl
@[simp] theorem State.dec_lb : (s.dec R l i n).lb = s.lb := rfl
@[simp] theorem State.dec_time : (s.dec R l i n).time = s.time := rfl
@[simp] theorem State.dec_tev : (s.dec R l i n).tev = s.tev := rfl
@[simp] theorem State.dec_slots : (s.dec R l i n).slots = s.slots := rfl
@[simp] theorem State.dec_bursts : (s.dec R l i n).bursts = s.bursts := rfl
@[simp] theorem State.dec_led : (s.dec R l i n).led = s.led := rfl
@[simp] theorem State.dec_seqs : (s.dec R l i n).seqs = s.seqs := rfl
@[simp] theorem State.dec_host : (s.dec R l i n).host = s.host := rfl
@[simp] theorem State.dec_cls : (s.dec R l i n).cls = s.cls := rfl
@[simp] theorem State.dec_ciph : (s.dec R l i n).ciph = s.ciph := rfl
@[simp] theorem State.dec_slu : (s.dec R l i n).slu = s.slu := rfl
@[simp] theorem State.dec_prot : (s.dec R l i n).prot = s.prot := rfl
@[simp] theorem State.dec_pm : (s.dec R l i n).pm = s.pm := rfl
@[simp] theorem State.dec_mbx : (s.dec R l i n).mbx = s.mbx := rfl
@[simp] theorem State.dec_adm : (s.dec R l i n).adm = s.adm := rfl
@[simp] theorem State.dec_fw : (s.dec R l i n).fw = s.fw := rfl
@[simp] theorem State.dec_pwr : (s.dec R l i n).pwr = s.pwr := rfl
@[simp] theorem State.dec_mem : (s.dec R l i n).mem = s.mem := rfl
@[simp] theorem State.dec_reqs : (s.dec R l i n).reqs = s.reqs := rfl
@[simp] theorem State.dec_txid : (s.dec R l i n).txid = s.txid := rfl
@[simp] theorem State.dec_msi : (s.dec R l i n).msi = s.msi := rfl
@[simp] theorem State.dec_freeIdx : (s.dec R l i n).freeIdx = s.freeIdx := rfl
@[simp] theorem State.dec_out : (s.dec R l i n).out = s.out := rfl
@[simp] theorem State.dec_pending : (s.dec R l i n).pending = s.pending := rfl

@[simp] theorem State.wr2_fwRegs : (s.wr2 R Q v l i).fwRegs = s.fwRegs := rfl
@[simp] theorem State.wr2_latches : (s.wr2 R Q v l i).latches = s.latches := rfl
@[simp] theorem State.wr2_la : (s.wr2 R Q v l i).la = s.la := rfl
@[simp] theorem State.wr2_lb : (s.wr2 R Q v l i).lb = s.lb := rfl
@[simp] theorem State.wr2_time : (s.wr2 R Q v l i).time = s.time := rfl
@[simp] theorem State.wr2_tev : (s.wr2 R Q v l i).tev = s.tev := rfl
@[simp] theorem State.wr2_slots : (s.wr2 R Q v l i).slots = s.slots := rfl
@[simp] theorem State.wr2_bursts : (s.wr2 R Q v l i).bursts = s.bursts := rfl
@[simp] theorem State.wr2_led : (s.wr2 R Q v l i).led = s.led := rfl
@[simp] theorem State.wr2_seqs : (s.wr2 R Q v l i).seqs = s.seqs := rfl
@[simp] theorem State.wr2_host : (s.wr2 R Q v l i).host = s.host := rfl
@[simp] theorem State.wr2_cls : (s.wr2 R Q v l i).cls = s.cls := rfl
@[simp] theorem State.wr2_ciph : (s.wr2 R Q v l i).ciph = s.ciph := rfl
@[simp] theorem State.wr2_slu : (s.wr2 R Q v l i).slu = s.slu := rfl
@[simp] theorem State.wr2_prot : (s.wr2 R Q v l i).prot = s.prot := rfl
@[simp] theorem State.wr2_pm : (s.wr2 R Q v l i).pm = s.pm := rfl
@[simp] theorem State.wr2_mbx : (s.wr2 R Q v l i).mbx = s.mbx := rfl
@[simp] theorem State.wr2_adm : (s.wr2 R Q v l i).adm = s.adm := rfl
@[simp] theorem State.wr2_fw : (s.wr2 R Q v l i).fw = s.fw := rfl
@[simp] theorem State.wr2_pwr : (s.wr2 R Q v l i).pwr = s.pwr := rfl
@[simp] theorem State.wr2_mem : (s.wr2 R Q v l i).mem = s.mem := rfl
@[simp] theorem State.wr2_reqs : (s.wr2 R Q v l i).reqs = s.reqs := rfl
@[simp] theorem State.wr2_txid : (s.wr2 R Q v l i).txid = s.txid := rfl
@[simp] theorem State.wr2_msi : (s.wr2 R Q v l i).msi = s.msi := rfl
@[simp] theorem State.wr2_freeIdx : (s.wr2 R Q v l i).freeIdx = s.freeIdx := rfl
@[simp] theorem State.wr2_out : (s.wr2 R Q v l i).out = s.out := rfl
@[simp] theorem State.wr2_pending : (s.wr2 R Q v l i).pending = s.pending := rfl

/-! ### What leaves the part -/

@[simp] theorem State.emit_regs (x : Output) : (s.emit x).regs = s.regs := rfl
@[simp] theorem State.emit_fwRegs (x : Output) : (s.emit x).fwRegs = s.fwRegs := rfl
@[simp] theorem State.emit_latches (x : Output) : (s.emit x).latches = s.latches := rfl
@[simp] theorem State.emit_la (x : Output) : (s.emit x).la = s.la := rfl
@[simp] theorem State.emit_lb (x : Output) : (s.emit x).lb = s.lb := rfl
@[simp] theorem State.emit_time (x : Output) : (s.emit x).time = s.time := rfl
@[simp] theorem State.emit_tev (x : Output) : (s.emit x).tev = s.tev := rfl
@[simp] theorem State.emit_slots (x : Output) : (s.emit x).slots = s.slots := rfl
@[simp] theorem State.emit_bursts (x : Output) : (s.emit x).bursts = s.bursts := rfl
@[simp] theorem State.emit_led (x : Output) : (s.emit x).led = s.led := rfl
@[simp] theorem State.emit_seqs (x : Output) : (s.emit x).seqs = s.seqs := rfl
@[simp] theorem State.emit_host (x : Output) : (s.emit x).host = s.host := rfl
@[simp] theorem State.emit_cls (x : Output) : (s.emit x).cls = s.cls := rfl
@[simp] theorem State.emit_ciph (x : Output) : (s.emit x).ciph = s.ciph := rfl
@[simp] theorem State.emit_slu (x : Output) : (s.emit x).slu = s.slu := rfl
@[simp] theorem State.emit_prot (x : Output) : (s.emit x).prot = s.prot := rfl
@[simp] theorem State.emit_pm (x : Output) : (s.emit x).pm = s.pm := rfl
@[simp] theorem State.emit_mbx (x : Output) : (s.emit x).mbx = s.mbx := rfl
@[simp] theorem State.emit_adm (x : Output) : (s.emit x).adm = s.adm := rfl
@[simp] theorem State.emit_fw (x : Output) : (s.emit x).fw = s.fw := rfl
@[simp] theorem State.emit_pwr (x : Output) : (s.emit x).pwr = s.pwr := rfl
@[simp] theorem State.emit_mem (x : Output) : (s.emit x).mem = s.mem := rfl
@[simp] theorem State.emit_reqs (x : Output) : (s.emit x).reqs = s.reqs := rfl
@[simp] theorem State.emit_txid (x : Output) : (s.emit x).txid = s.txid := rfl
@[simp] theorem State.emit_msi (x : Output) : (s.emit x).msi = s.msi := rfl
@[simp] theorem State.emit_freeIdx (x : Output) : (s.emit x).freeIdx = s.freeIdx := rfl
@[simp] theorem State.emit_pending (x : Output) : (s.emit x).pending = s.pending := rfl
@[simp] theorem State.emit_out (x : Output) : (s.emit x).out = s.out ++ [x] := rfl

/-! ### A leg's own state -/

@[simp] theorem State.upd_regs (g : Leg) (f : LegSt → LegSt) : (s.upd g f).regs = s.regs := by cases g <;> rfl
@[simp] theorem State.upd_fwRegs (g : Leg) (f : LegSt → LegSt) : (s.upd g f).fwRegs = s.fwRegs := by cases g <;> rfl
@[simp] theorem State.upd_latches (g : Leg) (f : LegSt → LegSt) : (s.upd g f).latches = s.latches := by cases g <;> rfl
@[simp] theorem State.upd_time (g : Leg) (f : LegSt → LegSt) : (s.upd g f).time = s.time := by cases g <;> rfl
@[simp] theorem State.upd_tev (g : Leg) (f : LegSt → LegSt) : (s.upd g f).tev = s.tev := by cases g <;> rfl
@[simp] theorem State.upd_slots (g : Leg) (f : LegSt → LegSt) : (s.upd g f).slots = s.slots := by cases g <;> rfl
@[simp] theorem State.upd_bursts (g : Leg) (f : LegSt → LegSt) : (s.upd g f).bursts = s.bursts := by cases g <;> rfl
@[simp] theorem State.upd_led (g : Leg) (f : LegSt → LegSt) : (s.upd g f).led = s.led := by cases g <;> rfl
@[simp] theorem State.upd_seqs (g : Leg) (f : LegSt → LegSt) : (s.upd g f).seqs = s.seqs := by cases g <;> rfl
@[simp] theorem State.upd_host (g : Leg) (f : LegSt → LegSt) : (s.upd g f).host = s.host := by cases g <;> rfl
@[simp] theorem State.upd_cls (g : Leg) (f : LegSt → LegSt) : (s.upd g f).cls = s.cls := by cases g <;> rfl
@[simp] theorem State.upd_ciph (g : Leg) (f : LegSt → LegSt) : (s.upd g f).ciph = s.ciph := by cases g <;> rfl
@[simp] theorem State.upd_slu (g : Leg) (f : LegSt → LegSt) : (s.upd g f).slu = s.slu := by cases g <;> rfl
@[simp] theorem State.upd_prot (g : Leg) (f : LegSt → LegSt) : (s.upd g f).prot = s.prot := by cases g <;> rfl
@[simp] theorem State.upd_pm (g : Leg) (f : LegSt → LegSt) : (s.upd g f).pm = s.pm := by cases g <;> rfl
@[simp] theorem State.upd_mbx (g : Leg) (f : LegSt → LegSt) : (s.upd g f).mbx = s.mbx := by cases g <;> rfl
@[simp] theorem State.upd_adm (g : Leg) (f : LegSt → LegSt) : (s.upd g f).adm = s.adm := by cases g <;> rfl
@[simp] theorem State.upd_fw (g : Leg) (f : LegSt → LegSt) : (s.upd g f).fw = s.fw := by cases g <;> rfl
@[simp] theorem State.upd_pwr (g : Leg) (f : LegSt → LegSt) : (s.upd g f).pwr = s.pwr := by cases g <;> rfl
@[simp] theorem State.upd_mem (g : Leg) (f : LegSt → LegSt) : (s.upd g f).mem = s.mem := by cases g <;> rfl
@[simp] theorem State.upd_reqs (g : Leg) (f : LegSt → LegSt) : (s.upd g f).reqs = s.reqs := by cases g <;> rfl
@[simp] theorem State.upd_txid (g : Leg) (f : LegSt → LegSt) : (s.upd g f).txid = s.txid := by cases g <;> rfl
@[simp] theorem State.upd_msi (g : Leg) (f : LegSt → LegSt) : (s.upd g f).msi = s.msi := by cases g <;> rfl
@[simp] theorem State.upd_freeIdx (g : Leg) (f : LegSt → LegSt) : (s.upd g f).freeIdx = s.freeIdx := by cases g <;> rfl
@[simp] theorem State.upd_out (g : Leg) (f : LegSt → LegSt) : (s.upd g f).out = s.out := by cases g <;> rfl
@[simp] theorem State.upd_pending (g : Leg) (f : LegSt → LegSt) : (s.upd g f).pending = s.pending := by cases g <;> rfl

@[simp] theorem State.upd_leg_same (g : Leg) (f : LegSt → LegSt) : (s.upd g f).leg g = f (s.leg g) := by cases g <;> rfl

@[simp] theorem State.upd_leg_other (g : Leg) (f : LegSt → LegSt) : (s.upd g f).leg g.other = s.leg g.other := by cases g <;> rfl

/-! ### A read of a register field after an update of another field of State -/

@[simp] theorem State.rd_set_fwRegs (x : Tab Nat) : State.rd { s with fwRegs := x } R l i = s.rd R l i := rfl
@[simp] theorem State.rd_set_latches (x : Tab Nat) : State.rd { s with latches := x } R l i = s.rd R l i := rfl
@[simp] theorem State.rd_set_la (x : LegSt) : State.rd { s with la := x } R l i = s.rd R l i := rfl
@[simp] theorem State.rd_set_lb (x : LegSt) : State.rd { s with lb := x } R l i = s.rd R l i := rfl
@[simp] theorem State.rd_set_time (x : TimeSt) : State.rd { s with time := x } R l i = s.rd R l i := rfl
@[simp] theorem State.rd_set_tev (x : TevSt) : State.rd { s with tev := x } R l i = s.rd R l i := rfl
@[simp] theorem State.rd_set_slots (x : Tab SlotSt) : State.rd { s with slots := x } R l i = s.rd R l i := rfl
@[simp] theorem State.rd_set_bursts (x : List Burst) : State.rd { s with bursts := x } R l i = s.rd R l i := rfl
@[simp] theorem State.rd_set_led (x : Ledger) : State.rd { s with led := x } R l i = s.rd R l i := rfl
@[simp] theorem State.rd_set_seqs (x : Tab Nat) : State.rd { s with seqs := x } R l i = s.rd R l i := rfl
@[simp] theorem State.rd_set_host (x : HostSt) : State.rd { s with host := x } R l i = s.rd R l i := rfl
@[simp] theorem State.rd_set_cls (x : ClsSt) : State.rd { s with cls := x } R l i = s.rd R l i := rfl
@[simp] theorem State.rd_set_ciph (x : CiphSt) : State.rd { s with ciph := x } R l i = s.rd R l i := rfl
@[simp] theorem State.rd_set_slu (x : SluSt) : State.rd { s with slu := x } R l i = s.rd R l i := rfl
@[simp] theorem State.rd_set_prot (x : ProtSt) : State.rd { s with prot := x } R l i = s.rd R l i := rfl
@[simp] theorem State.rd_set_pm (x : PmSt) : State.rd { s with pm := x } R l i = s.rd R l i := rfl
@[simp] theorem State.rd_set_mbx (x : MbxSt) : State.rd { s with mbx := x } R l i = s.rd R l i := rfl
@[simp] theorem State.rd_set_adm (x : AdmSt) : State.rd { s with adm := x } R l i = s.rd R l i := rfl
@[simp] theorem State.rd_set_fw (x : FwSt) : State.rd { s with fw := x } R l i = s.rd R l i := rfl
@[simp] theorem State.rd_set_pwr (x : PwrSt) : State.rd { s with pwr := x } R l i = s.rd R l i := rfl
@[simp] theorem State.rd_set_mem (x : MemSt) : State.rd { s with mem := x } R l i = s.rd R l i := rfl
@[simp] theorem State.rd_set_reqs (x : List Req) : State.rd { s with reqs := x } R l i = s.rd R l i := rfl
@[simp] theorem State.rd_set_txid (x : Nat) : State.rd { s with txid := x } R l i = s.rd R l i := rfl
@[simp] theorem State.rd_set_msi (x : MsiSt) : State.rd { s with msi := x } R l i = s.rd R l i := rfl
@[simp] theorem State.rd_set_freeIdx (x : Nat) : State.rd { s with freeIdx := x } R l i = s.rd R l i := rfl
@[simp] theorem State.rd_set_out (x : List Output) : State.rd { s with out := x } R l i = s.rd R l i := rfl
@[simp] theorem State.rd_set_pending (x : List Instr) : State.rd { s with pending := x } R l i = s.rd R l i := rfl

@[simp] theorem State.rd_emit (x : Output) : (s.emit x).rd R l i = s.rd R l i := rfl

@[simp] theorem State.rd_upd (g : Leg) (f : LegSt → LegSt) : (s.upd g f).rd R l i = s.rd R l i := by cases g <;> rfl

/-! ### The register store: a read after a write -/

variable {s R Q v l i k j n}

/-- A field reads the value written, at the field's width. -/
theorem State.rd_wr_same (h : i < R.n) : (s.wr R v l i).rd R l i = v % 2 ^ R.width := by
  unfold State.rd State.wr Row.get Row.set
  rw [if_pos h, if_pos h]
  exact (congrArg (fun x => Nat.xor x R.reset) (Tab.get_put_self 0 _ _ _)).trans (Nat.xor_xor_cancel_right ..)

/-- A write of an instance that does not exist changes nothing. -/
theorem State.wr_none (h : ¬i < R.n) : s.wr R v l i = s := by
  unfold State.wr Row.set
  rw [if_neg h]

/-- A place that is not the one written reads as before. -/
theorem State.rd_wr_key (h : Q.key k j ≠ R.key l i) : (s.wr R v l i).rd Q k j = s.rd Q k j := by
  unfold State.rd State.wr Row.get Row.set
  split
  · split
    · rw [Tab.get_put_ne 0 h]
    · rfl
  · rfl

/-- Another field of the map reads as before. -/
theorem State.rd_wr_ne (hR : Row.inMap R = true) (hQ : Row.inMap Q = true) (hne : rowIdx Q ≠ rowIdx R) (hl : l < 2 ∨ R.legStride = 0)
    (hk : k < 2 ∨ Q.legStride = 0) : (s.wr R v l i).rd Q k j = s.rd Q k j := by
  by_cases hi : i < R.n
  · by_cases hj : j < Q.n
    · exact State.rd_wr_key (key_ne hQ hR ⟨hj, hk⟩ ⟨hi, hl⟩ hne)
    · unfold State.rd Row.get
      rw [if_neg hj, if_neg hj]
  · rw [State.wr_none hi]

/-- A counter goes up by the amount, at its width. -/
theorem State.rd_inc_same (h : i < R.n) : (s.inc R l i n).rd R l i = (s.rd R l i + n) % 2 ^ R.width := State.rd_wr_same h

end Sys2Proof.Machine
end

