-- ==== Sys2Proof/WellFormed.lean ====
section
/-! DEFINITION. Well-formed commands: every operand in the range the manual gives the thing it names. -/

namespace Sys2Proof

/-- VF numbers run from 1 to 128 (R318). -/
def agentOk (a : Agent) : Bool :=
  match a with
  | .vf n => 1 ≤ n && n ≤ 128
  | _ => true

/-- Downstream waves D0 to D3; profile indices have the same range. -/
def dWave (w : Nat) : Bool :=
  w < 4

/-- Upstream waves U0 and U1. -/
def uWave (u : Nat) : Bool :=
  u < 2

/-- A grain of an upstream frame (R18). -/
def grain (g : Nat) : Bool :=
  g < 90000

/-- A frame of a superframe. -/
def frameNo (n : Nat) : Bool :=
  n < 8

/-- Container slots (R146). -/
def ctSlot (n : Nat) : Bool :=
  n < 128

/-- Functions: the PF is 0 (R313). -/
def fnOk (f : Nat) : Bool :=
  f ≤ 128

/-- Sluice lanes. -/
def laneOk (n : Nat) : Bool :=
  n < 128

/-- Codewords of a frame (R18). -/
def cwIdx (n : Nat) : Bool :=
  n < 750

/-- Timer channels. -/
def chanOk (n : Nat) : Bool :=
  n < 16

/-- Capture inputs. -/
def capOk (n : Nat) : Bool :=
  n < 8

/-- Mailboxes. -/
def mbxOk (n : Nat) : Bool :=
  n < 64

/-- Rings of each kind (R286, R330). -/
def ringOk (k : RingKind) (n : Nat) : Bool :=
  match k with
  | .tx => n < 8192
  | .rx => n < 4096
  | .cq => n < 1024
  | .eq => n < 256
  | .asq => n = 0
  | .acq => n = 0

/-- An admin command entry (R330). -/
def entryOk (e : List Byte) : Bool :=
  e.length = 64

/-- Stream IDs. -/
def sidOk (n : Nat) : Bool :=
  n < 65536

/-- Long-operation handles (R336). -/
def handleOk (n : Nat) : Bool :=
  1 ≤ n && n ≤ 65535

/-- Memory instances (R412). -/
def instOk (n : Nat) : Bool :=
  n < 8

/-- The VIEW field of STBL_CMD. -/
def viewOk (n : Nat) : Bool :=
  n < 4

/-- An eight-bit version. -/
def byteOk (n : Nat) : Bool :=
  n < 256

/-- The APPLY_MODE field. -/
def modeOk (n : Nat) : Bool :=
  n < 4

/-- A well-formed command. (DESIGN CHOICE, log 7.) -/
def Instr.wf : Instr → Bool
  | .syncCandidate _ w _ _ => dWave w
  | .delineationMarker _ w _ _ _ _ _ => dWave w
  | .codewordDecode _ w idx _ _ => dWave w && cwIdx idx
  | .partitionHeader _ _ => true
  | .todAnnouncement _ _ => true
  | .allocationStructure _ _ => true
  | .sluiceRegion _ _ _ => true
  | .channelFrame _ w _ _ _ _ _ => dWave w
  | .frameDelivery ring _ => ringOk .rx ring
  | .burstProfile _ _ => true
  | .profileEffective _ p => dWave p
  | .assignTn _ _ => true
  | .eqdSet _ _ => true
  | .eqdApply _ => true
  | .container _ _ => true
  | .containerEffective _ slot => ctSlot slot
  | .deactivate _ _ => true
  | .emergencyStop _ _ => true
  | .rogueRelease _ _ => true
  | .allocRevise _ _ => true
  | .keepRanged _ _ => true
  | .keyExchange _ _ => true
  | .keySwitch _ _ => true
  | .keySwitchUpEffective _ => true
  | .keySwitchDnEffective _ => true
  | .generationErase _ _ => true
  | .sleep _ _ => true
  | .protSwitch _ _ => true
  | .response _ _ => true
  | .msgUnknown _ _ => true
  | .requestRetryTimer _ => true
  | .actCtlWrite ag _ _ => agentOk ag
  | .registrationTimeout _ => true
  | .rangingTimeout _ => true
  | .rangeMiss _ => true
  | .wakeAttemptTimeout _ => true
  | .upstreamFrameStart _ _ fn => frameNo fn
  | .lanePowerUp _ u => uWave u
  | .windowOpen _ u start => uWave u && grain start
  | .windowEnd _ u _ => uWave u
  | .rogueLatch _ u _ => uWave u
  | .hgCtlWrite ag _ _ => agentOk ag
  | .limiterStep => true
  | .servoUpdate => true
  | .qualityEvaluate => true
  | .todMissing _ => true
  | .holdoverBoundAdvance => true
  | .incrHoUpdate _ _ _ => true
  | .dispersionFit _ => true
  | .laserLowConf _ => true
  | .laserConfRestored _ => true
  | .timeVote _ _ _ _ _ _ => true
  | .timeSnap ag => agentOk ag
  | .timeApply ag mode => agentOk ag && modeOk mode
  | .timeCancel ag => agentOk ag
  | .applyTick => true
  | .timeStageWrite ag _ _ => agentOk ag
  | .tevArm n => chanOk n
  | .tevDisarm n => chanOk n
  | .tevConfigWrite n _ _ => chanOk n
  | .tevFire n => chanOk n
  | .tevPulseEnd n => chanOk n
  | .ppsOutPulse => true
  | .ppsPulseEnd => true
  | .tcapEdge i _ _ _ _ => capOk i
  | .tcapHeadPop i => capOk i
  | .ptmAutoTimer => true
  | .ptmTrigger => true
  | .ptmResponse _ _ => true
  | .ptmTimeout => true
  | .latchedRead ag _ => agentOk ag
  | .doorbell f _ _ _ _ _ => fnOk f
  | .descriptorFetch kind ring _ => ringOk kind ring
  | .hostReadCompletion _ _ _ _ _ => true
  | .completionTimeout _ => true
  | .tokenRefill => true
  | .burstBuild _ u start _ _ _ => uWave u && grain start
  | .buildDeadline _ u start _ => uWave u && grain start
  | .fallbackEnd slot => ctSlot slot
  | .uschReset ag => agentOk ag
  | .uschResetDone => true
  | .queueRead ag => agentOk ag
  | .queueWrite ag => agentOk ag
  | .resetBuckets ag => agentOk ag
  | .containerSlotWrite ag slot _ _ => agentOk ag && ctSlot slot
  | .uschAuditSnap ag _ => agentOk ag
  | .stblRead ag view => agentOk ag && viewOk view
  | .stblWrite ag _ => agentOk ag
  | .stblInvalidate ag _ => agentOk ag
  | .compareAndWrite ag _ => agentOk ag
  | .stblCmdDone ag => agentOk ag
  | .learnHoldExpiry sid => sidOk sid
  | .learnRearm ag => agentOk ag
  | .statLatch ag _ => agentOk ag
  | .readNode ag => agentOk ag
  | .writeNode ag => agentOk ag
  | .readRoot ag => agentOk ag
  | .writeRoot ag => agentOk ag
  | .readProf ag => agentOk ag
  | .writeProf ag => agentOk ag
  | .clsCmdDone ag => agentOk ag
  | .commitOpen ag => agentOk ag
  | .commit ag version => agentOk ag && byteOk version
  | .commitCancel ag => agentOk ag
  | .commitEffective => true
  | .drainDone => true
  | .versionExpired => true
  | .pipelineCompare _ => true
  | .lookasideRequest ring _ => ringOk .rx ring
  | .lookasideDone ring => ringOk .rx ring
  | .query ag => agentOk ag
  | .slotRead ag => agentOk ag
  | .slotErase ag => agentOk ag
  | .slotCmdDone ag => agentOk ag
  | .keyRefresh ag _ => agentOk ag
  | .ciphLock ag => agentOk ag
  | .rngFail => true
  | .rngRecover => true
  | .sluiceRecordWrite lane => laneOk lane
  | .sluiceRecordRead lane _ fn _ => laneOk lane && frameNo fn
  | .swapRequest ag _ => agentOk ag
  | .swapCancel ag => agentOk ag
  | .swapEffective _ => true
  | .cmRead ag _ _ => agentOk ag
  | .cmWrite ag _ => agentOk ag
  | .cmCopy ag _ => agentOk ag
  | .cmClear ag _ => agentOk ag
  | .cmCmdDone ag => agentOk ag
  | .losDeclare _ w => dWave w
  | .losClear _ w => dWave w
  | .sfEvaluate _ w => dWave w
  | .holdoffExpiry => true
  | .clear => true
  | .forced _ => true
  | .manual _ => true
  | .fwForced _ => true
  | .switchDone => true
  | .wtrExpiry => true
  | .pmSecond => true
  | .pmSecondCommit => true
  | .binRoll => true
  | .pmBinLatch ag _ => agentOk ag
  | .pmTestWrite ag _ _ => agentOk ag
  | .linkDown => true
  | .linkTrained _ _ => true
  | .resume ag => agentOk ag
  | .discard ag => agentOk ag
  | .linkHoldExpired => true
  | .bmeSet f => fnOk f
  | .ringEnable ag kind ring _ => agentOk ag && ringOk kind ring
  | .ringDisable ag kind ring _ => agentOk ag && ringOk kind ring
  | .flush ag q => agentOk ag && ringOk .tx q
  | .flushDone q => ringOk .tx q
  | .completionWrite cq => ringOk .cq cq
  | .msixModerationTimer kind ring => ringOk kind ring
  | .rxStarved ring => ringOk .rx ring
  | .replay ag _ => agentOk ag
  | .vfFlr f => fnOk f
  | .pfFlr => true
  | .flrDone f => fnOk f
  | .hifAuditCheck => true
  | .hifAuditSnap ag _ => agentOk ag
  | .evtLogPop ag => agentOk ag
  | .errlogPop f => fnOk f
  | .barAccess f _ _ => fnOk f
  | .mbxSend ag _ => agentOk ag
  | .mbxStatusRead ag n => agentOk ag && mbxOk n
  | .mbxAck ag n _ => agentOk ag && mbxOk n
  | .mbxFetch ag _ => agentOk ag
  | .mbxFetchDone ag _ => agentOk ag
  | .mbxSwAccess ag _ _ => agentOk ag
  | .mbxOwnerWrite ag n _ => agentOk ag && mbxOk n
  | .mctpMbxSend n _ _ => mbxOk n
  | .mctpMbxRead n => mbxOk n
  | .mctpMbxAck n _ => mbxOk n
  | .swWrite _ _ => true
  | .swRead _ _ => true
  | .nop e => entryOk e
  | .identify e => entryOk e
  | .queryOp e => entryOk e
  | .suspend e => entryOk e
  | .resumeOp e => entryOk e
  | .cancel e => entryOk e
  | .settingsSave e => entryOk e
  | .keyLoadCmd e _ => entryOk e
  | .keyErase e => entryOk e
  | .fwActivate e => entryOk e
  | .fwConfirm e => entryOk e
  | .lcTransition e => entryOk e
  | .cosignEnrol e _ => entryOk e
  | .fwDownload e _ => entryOk e
  | .fwVerify e => entryOk e
  | .scrubFull e => entryOk e
  | .tableBulkLoad e => entryOk e
  | .dispersionSweep e => entryOk e
  | .laserCharacterise e => entryOk e
  | .selfTest e => entryOk e
  | .pmExport e => entryOk e
  | .longOpProgress h _ => handleOk h
  | .longOpSafePoint h => handleOk h
  | .longOpComplete h _ => handleOk h
  | .suspendTimeout h => handleOk h
  | .heartbeat _ => true
  | .hbLost => true
  | .autopilotExpired => true
  | .firstHeartbeatLate => true
  | .plannedAbsence => true
  | .microcodeBankSwitch _ => true
  | .trialWindowExpiry => true
  | .lcArm ag _ => agentOk ag
  | .idleEnter => true
  | .perstAssert => true
  | .perstDeassert => true
  | .bmcPowerRequest _ => true
  | .sleepStart => true
  | .awakeStart => true
  | .dozeStart => true
  | .sleepEnded _ => true
  | .sleepRetry => true
  | .wakeIn => true
  | .aonTimer => true
  | .modulePresence _ _ => true
  | .deepSleepEntry => true
  | .deepSleepExit _ _ => true
  | .brownOut => true
  | .pwrGoodRise _ => true
  | .pwrGoodFall => true
  | .cold ag _ => agentOk ag
  | .warm ag _ => agentOk ag
  | .refLoss => true
  | .refRestored => true
  | .bringupStart ag _ _ => agentOk ag
  | .bringupAttemptFail _ => true
  | .bringupRetry _ => true
  | .slipWrite ag _ w _ => agentOk ag && dWave w
  | .rehunt ag _ _ => agentOk ag
  | .safetyPoll _ _ _ _ _ => true
  | .moduleInterrupt _ => true
  | .telemetryRead _ _ => true
  | .rxovl _ w _ => dWave w
  | .lifeRecordWrite _ _ => true
  | .biasSample _ => true
  | .scrubVisit inst _ _ _ _ => instOk inst
  | .registerWrite ag _ _ => agentOk ag
  | .timeTick => true
  | .msgCrcErr _ _ => true
  | .cdrLock _ w => dWave w
  | .moduleIdentityRead _ _ => true
  | .railLoss _ => true
  | .configurationWrite f _ _ => fnOk f
  | .unsupportedRequest f _ => fnOk f
  | .registerAccess ag _ => agentOk ag
  | .activateWarmReset => true
  | .xt32kStable => true

/-- The decidable predicate the statements use. -/
abbrev WellFormed (i : Instr) : Prop := i.wf = true

end Sys2Proof
end

