-- ==== Sys2Proof/Tests/Slice0.lean ====
section
/-! SUPPORT. The model's own tests: an ill-formed command for each check of WellFormed; single operations against the manual's own
numbers; and, for each statement with hypotheses, a state and operands that meet all of them, clause by clause. -/

namespace Sys2Proof.Tests

open Sys2Proof Sys2Proof.Machine

set_option maxRecDepth 100000
set_option linter.unusedVariables false
set_option Elab.async false

/-! ### WellFormed refuses -/

theorem test_wf_refuses_agents_waves :
    (Instr.timeSnap (.vf 129)).wf = false ∧ (Instr.timeSnap (.vf 0)).wf = false ∧ (Instr.syncCandidate .a 4 0 0).wf = false ∧
    (Instr.lanePowerUp .a 2).wf = false ∧ (Instr.windowOpen .a 0 90000).wf = false ∧ (Instr.codewordDecode .a 0 750 0 true).wf = false ∧
    (Instr.upstreamFrameStart .a 0 8).wf = false := by decide

theorem test_wf_refuses_numbers :
    (Instr.containerEffective .a 128).wf = false ∧ (Instr.vfFlr 129).wf = false ∧ (Instr.sluiceRecordWrite 128).wf = false ∧
    (Instr.tevArm 16).wf = false ∧ (Instr.tcapHeadPop 8).wf = false ∧ (Instr.mbxStatusRead .pf 64).wf = false ∧
    (Instr.frameDelivery 4096 false).wf = false ∧ (Instr.nop []).wf = false ∧ (Instr.learnHoldExpiry 65536).wf = false ∧
    (Instr.longOpSafePoint 0).wf = false := by decide

theorem test_wf_refuses_fields :
    (Instr.stblRead .pf 4).wf = false ∧ (Instr.commit .pf 256).wf = false ∧ (Instr.timeApply .pf 4).wf = false ∧
    (Instr.scrubVisit 8 0 0 0 0).wf = false ∧ (Instr.timeSnap .pf).wf = true := by decide

/-! ### The checks, against the published check values of their parameters (R49) and of the standards of R214 and R221 -/

/-- CRC-16 of the nine digits. -/
theorem test_crc16 : crc16 (byteBits [49, 50, 51, 52, 53, 54, 55, 56, 57]) = 0x29B1 := by decide +kernel

/-- CRC-32 without reflection of the nine digits. -/
theorem test_crc32 : crc32 (byteBits [49, 50, 51, 52, 53, 54, 55, 56, 57]) = 0xFC891918 := by decide +kernel

/-- The remainder of no bits is zero, so the HEC of zeros is the constant of R48. -/
theorem test_hec_zero : hecOf 54 0 = 0x155 := by decide +kernel

/-- AES-256-GCM of the empty message under a zero key and IV. -/
theorem test_gcm_empty : (Crypto.gcmEnc 0 0 [] []).2 = beBytes 16 0x530f8afbc74536b9a963b4f1c4cb738b := by decide +kernel

/-- SHA-384 of the three letters. -/
theorem test_sha384 : Crypto.sha384 [97, 98, 99] =
    0xcb00753f45a35e8bb5a03d699ac65007272c32ab0eded1631a8b605a43ff5bed8086072ba1e7cc2358baeca134c825a7 := by decide +kernel

/-- RFC 6979, P-384 with SHA-384, the message "sample". -/
theorem test_ecdsa : Crypto.ecdsaVerify
    0xEC3A4E415B4E19A4568618029F427FA5DA9A8BC4AE92E02E06AAE5286B300C64DEF8F0EA9055866064A254515480BC13
    0x8015D9B72D7D57244EA8EF9AC0C621896708A59367F9DFB9F54CA84B3F1C9DB1288B231C3AE0D4FE7344FD2533264720
    (Crypto.sha384 [115, 97, 109, 112, 108, 101])
    0x94EDBB92A5ECB8AAD4736E56C691916B3F88140666CE9FA73D64C4EA95AD133C81A648152E44ACF96E36DD1E80FABE46
    0x99EF4AEB15F178CEA1FE40DB2603138F130E740A19624526203B6351D0A3A94FA329C145786E679E7B82C71A38628AC8 = true := by decide +kernel

/-! ### The manual's own examples -/

/-- The EqD of the manual's example, 307,724 57/64 grains, is the word 0x012C_8339 (R83). -/
theorem test_eqd_example : 307724 * 64 + 57 = 0x012C8339 ∧
    (match execEqdApply .a ((State.reset.wr Reg.ACT_EQD_NEXT 0x012C8339 0).upd .a fun g =>
        { g with eqdPend := [{ eff := 0, relative := false, val := 0x012C8339, rwave := 0 }] }) with
     | .next t => decide (t.rd Reg.ACT_EQD_EQD_GRAINS 0 = 307724 ∧ t.rd Reg.ACT_EQD_EQD_FINE 0 = 57)
     | _ => false) = true := by decide +kernel

/-- 81 ticks of nominal INCR make 125 ns but for the rounding of R100. -/
theorem test_nominal_incr : 125 * 2 ^ 40 - 81 * 0x018B0FCD6E9E < 81 ∧ State.reset.time.incr = 0x018B0FCD6E9E := by decide

/-! ### Small states and operands for the witnesses -/

/-- The state after reset with PERST# deasserted. -/
def wOn : State := State.reset.wr Reg.PWR_STATUS_PERST 0
def wHdr : BitVec 128 := let b := 1 * 2 ^ 61 + 1 * 2 ^ 58 + 1 * 2 ^ 52; BitVec.ofNat 128 (b * 65536 + crc16 (msbBits 112 b))
def wTod : BitVec 256 := let b := 0; BitVec.ofNat 256 (b * 2 ^ 32 + crc32 (msbBits 224 b))
def wAlloc : BitVec 64 := BitVec.ofNat 64 (withHec (5 * 2 ^ 50))
def wRange : BitVec 64 := BitVec.ofNat 64 (withHec (0x3000 * 2 ^ 50 + 100 * 2 ^ 32 + 40 * 2 ^ 15 + 3 * 2 ^ 13))
def wSluCrc : BitVec 32 := BitVec.ofNat 32 (crc32 (msbBits 128 7))
def wPart : BitVec 64 := let b := 2 * 2 ^ 37; BitVec.ofNat 64 (b * 65536 + crc16 (msbBits 48 b))
/-- A message with a right MCRC: TN, type, TXID, body. -/
def wMsg (tn typ txid : Nat) (body : List Byte) : BitVec 384 := BitVec.ofNat 384 (finishMsg tn (mkMsg typ txid body))
def wTn : State := (wOn.wr Reg.ACT_STATUS_TN_VALID 1 0).wr Reg.ACT_STATUS_TN 5 0
def wAl : Alloc := { sfc := 0, fn := 1, id := 0x3005, wave := 0, start := 100, len := 40, typ := 3, prof := { waves := 3, preGrains := 4, dlmGrains := 1, valid := true }, kind := .range, decided := true, hgOpen := true }
def wOpen : State := (((((wOn.wr Reg.HG_STATUS_TN_VALID 1 0).wr Reg.HG_STATUS_TN 5 0).wr Reg.HG_CTL_TX_ALLOW 1 0).wr Reg.ACT_CTL_ENABLE 1 0).wr Reg.HG_MAXB_LIMIT 90000 0).upd .a fun g => { g with upFn := 1, allocs := [wAl] }
def wE : Nat := 1 + 2 ^ 44
def wChan (stream plen kidx pti seq : Nat) : BitVec 64 := BitVec.ofNat 64 (chanHeader stream plen kidx pti seq)
def wRx : State := { (wOn.updWave .a 1 fun v => { v with deln := .sync, deliver := true }) with cls := { wOn.cls with streams := [(5, wE)] } }
def wBuf : BufFrame := { ring := 3, mirror := none, mirrorAct := false, func := 0, grp := none, data := List.replicate 64 7, ntag := 0, tci0 := 0, tci1 := 0, stream := 5, version := 0, leg := .a, wave := 1, at40 := 0, gen := 0, qual := 0, bound := 0, replayed := false }
def wLink : State := ((wOn.wr Reg.HIF_LINK_UP 1).wr Reg.HIF_LINK_USABLE 1).wr Reg.HIF_FN_STATUS_BME 1 0 0
def wDel : State := { (((wLink.wr Reg.HIF_RX_CTL_EN 1 0 3).wr Reg.HIF_RX_CQ 2 0 3).wr Reg.HIF_CQ_CTL_EN 1 0 2) with host := { wOn.host with buf := [wBuf], rxr := [(3, { posts := [⟨0, 4096, 128⟩] })] } }
def wDat : Alloc := { wAl with kind := .data, typ := 0, admitted := true, wave := 0 }
def wBst (n : Nat) : Burst := { leg := .a, alloc := wDat, frames := List.replicate n ⟨0, 0, 0, false, 72, 64, (0, 0), (0, 0), []⟩, msg := none, snap := ⟨0, 0, 0, []⟩, bufrep := 0, capacity := 100, header := 8, cells := n }
def wUse : State := ((((wOn.wr Reg.ADM_STATUS_FW_PRESENT 1).wr Reg.ACT_STATUS_STATE 5 0).wr Reg.TIME_LEG_TEQ_TEQ_VALID 1 0).updWave .a 0 fun v => { v with deln := .sync }).upd .a fun g => { g with todAge := some 0, fitEver := true }
def wRxp : State := (wLink.wr Reg.HIF_RX_CTL_EN 1 0 3).wr Reg.HIF_RX_IDX_PROD 5 0 3
def wMb : State := (wOn.wr Reg.MBX_OWN_OWNER 0 0 3).setView .pf fun v => { v with latch := [(3, some { space := 1, len := 4 })] }
def wAdm : State := ((((wLink.wr Reg.ADM_STATUS_FW_PRESENT 1).wr Reg.FW_STATUS_STATE 1).wr Reg.ADM_CQ_CTL_CQ_EN 1).wr Reg.ADM_SQ_CTL_SQ_EN 1).wr Reg.ADM_SQ_IDX_SQ_PROD 9
def wCmd (op : Nat) (pars : List Byte := []) (handle : Nat := 0) : List Byte := slice (leBytes 2 op ++ leBytes 2 7 ++ leBytes 2 handle ++ zeros 2 ++ pars ++ zeros 56) 0 64
def wOp (op st : Nat) : State := ((wAdm.wr Reg.ADM_LOP0_HANDLE 5 0 0).wr Reg.ADM_LOP0_OPCODE op 0 0).wr Reg.ADM_LOP0_STATE st 0 0
def wDig : Nat := 0x7069456fa6b43c4b6ac34d0fbbf9981e385d608b9c4df28a3bbc183fd58239055a4a7cd1ef73bbf1346f4ad899d82106
def wKey : List Byte := beBytes 48 0x8ad527bb919a675b8e00c4ba0c9ece447caa8be20cce226ff5b41d02fded9f500788b58fdfe0f506aba871673b2894e ++ beBytes 48 0xc68050ee41ff1a246ed33e7fefc7d64c701451bbf562ab4c1414e2d576416f0435caa14c37e72020acf0f8fc224f6ee4
/-- A running image whose COSIG verifies under wKey. -/
def wSigned : State := { wAdm with fw := { wAdm.fw with fuse := { wAdm.fw.fuse with intent2 := [0, 0, 0], commit2 := [0, 0, 0] }, flash := { img0 := [(0, [1] ++ zeros 2495 ++ beBytes 48 wDig ++ beBytes 48 wDig)] } } }
/-- A header with one compatibility entry for every stepping and microcode. -/
def wHead : List Byte := [77, 73, 84, 78, 1, 0, 0, 0, 0, 32, 0, 0, 0, 0, 0, 0, 0, 0, 0, 0, 0, 0, 0, 0, 1, 0, 0, 0, 0, 0, 0, 0, 0, 0, 255, 255, 0, 0, 0, 0, 255, 255, 255, 255, 0, 0, 0, 0, 255, 255, 255, 255, 1, 0, 1, 0, 1, 0] ++ zeros 198 ++ [0, 0, 255, 255, 0, 0, 0, 0, 255, 255, 255, 255] ++ zeros 3828
def wVerified : State := { wAdm with fw := { wAdm.fw with flash := { img1 := [(0, wHead)], ver1 := verRecord 1 0x23dd177401cbfc1b546ae0a5100aa8d0d7c7f1ee3a0cff4913ab9cc5d3f124db9a22f599f829ed65ef45b546b8e78294 } } }
/-- A header of 8,192 bytes signed with the private key 1; the rest of the image reads 0xFF. -/
def wAuthHdr : List Byte :=
  leBytes 4 0x4E54494D ++ leBytes 4 1 ++ leBytes 4 8192 ++ zeros 22 ++ [255, 255, 0, 0, 0, 0, 255, 255, 255, 255, 0, 0, 0, 0, 255, 255, 255, 255] ++
  [1, 0, 1, 0, 1, 0] ++ zeros 6 ++ beBytes 48 0x9761a6cc8f381514125bd5461b11a17a721703fb2179ddf15348b6276b47fe93bbca565060bdb425c99cae93fbd68d84 ++
  zeros 144 ++ [0, 0, 255, 255, 0, 0, 0, 0, 255, 255, 255, 255] ++ zeros 2036 ++ beBytes 48 Crypto.baseX ++ beBytes 48 Crypto.baseY ++
  beBytes 48 Crypto.baseX ++ beBytes 48 0x402cd917194df2fe23aa6ed9ee4e2a0f85a40ea4e93822b001874280e53410da60860e0660cf0b21402d901e30146c09 ++ zeros 1600
def wAuth : State :=
  let s := (List.range 12).foldl (fun s i => s.wr Reg.GEN_ROOTHASH (0xa19d4db171b582eb8052b0cfe555e17894aa22d1c8a9770950697dd8f796d2fa4bf0a56ad80006b7ea08e1191f814b65 / 2 ^ (32 * (11 - i)) % 2 ^ 32) 0 i)
    (((wAdm.wr Reg.ADM_LOP0_HANDLE 5 0 0).wr Reg.ADM_LOP0_OPCODE 0x41 0 0).wr Reg.ADM_LOP0_STATE 1 0 0)
  (s.setFlash fun f => { f with img1 := [(0, wAuthHdr)] }).setOp 0 fun _ => { params := [1] }
def wLifeBody : List Byte := leBytes 8 77 ++ leBytes 8 88 ++ zeros 8 ++ leBytes 2 10 ++ leBytes 2 11 ++ [3, 0x5C]
def wLife : List Byte := wLifeBody ++ beBytes 2 (crc16 (byteBits wLifeBody))
/-- A leg whose D0 frame has announced messages. -/
def wMs (s : State) : State := s.upd .a fun g => { g with partOk := true, nmsg := 3 }
/-- Every equation of R308 holds in it, whatever the buffers. -/
theorem wOn_hifEqs : ∀ p ∈ wOn.hifEqs, p.2 = false := by
  have hp : wOn.postLedger (wOn.rd Reg.HIF_AUD_CTL_AUD_RING) = [0, 0, 0, 0, 0] := by decide +kernel
  have hc : wOn.cplReserved = 0 := by decide +kernel
  have hr : ∀ t, wOn.host.fcRecv.get t = 0 ∧ wOn.host.fcBack.get t = 0 := by
    intro t
    rcases t with _ | _ | _ | t <;> exact ⟨rfl, rfl⟩
  intro p h
  simp only [State.hifEqs, hp, State.cplLedger, hc, List.cons_append, List.mem_cons, List.mem_append, List.mem_flatMap, List.mem_range,
    List.not_mem_nil, or_false, State.creditLedger, hr, List.getD_cons_zero, List.getD_cons_succ] at h
  rcases h with rfl | ⟨t, -, rfl | rfl⟩ | rfl <;> simp

/-! ### The hypotheses of each statement are met -/

theorem witness_AStepRunsTheCommandAtTheFront : (∃ (c : Instr) (rest : List Instr) (s : State), s.pending = c :: rest) :=
  ⟨.idleEnter, [], { State.reset with pending := [.idleEnter] }, rfl⟩

theorem witness_EveryStepKeepsTheInvariant : (∃ s t : State, Inv s ∧ step s = .next t) :=
  ⟨State.reset, State.reset, ⟨⟨by decide, by decide, by decide⟩, ⟨by decide, by decide, by decide⟩⟩, rfl⟩

theorem witness_OnlyReleaseOrColdResetEndsAnEmissionStop :
    (∃ (c : Instr) (l : Leg) (s t : State), exec c s = .next t ∧ mayLosePower c = false ∧ (∀ m, c = .rogueRelease l m → ¬(Hears s l ∧ s.takes l 0x07 m true 0 = true)) ∧ s.isOn Reg.HG_STATUS_ROGUE l.n = true ∧ s.isOn Reg.HG_STATUS_ESTOP l.n = true) ∧
    (∃ (m : BitVec 384) (s : State), ¬(Hears s .a ∧ s.takes .a 0x07 m true 0 = true) ∧ s.isOn Reg.HG_STATUS_ROGUE 0 = true) :=
  ⟨⟨.linkDown, .a, (State.reset.wr Reg.HG_STATUS_ROGUE 1 0).wr Reg.HG_STATUS_ESTOP 1 0, _, rfl, rfl, (fun _ h => by cases h), by decide, by decide⟩,
   ⟨0, State.reset.wr Reg.HG_STATUS_ROGUE 1 0, by decide +kernel, by decide⟩⟩

theorem witness_DelineationAdvancesByItsMarkers_1 :
    (∃ (l : Leg) (w : Nat) (raw : BitVec 64) (ofs : Nat) (s : State), w < 4 ∧ (s.wave l w).deln = .hunt ∧ s.detecting l w = true ∧ s.syncMatch
    l raw.toNat = true) ∧
    (∃ (l : Leg) (w : Nat) (raw : BitVec 64) (ofs : Nat) (s : State), (s.wave l w).deln ≠ .hunt) ∧
    (∃ (l : Leg) (w : Nat) (raw : BitVec 64) (hdr : BitVec 128) (rel : Int) (words : Int) (ofs : Int) (s : State), w < 4 ∧ (s.wave l w).deln =
    .presync ∧ s.pwr.firstMark = false ∧ ¬(ofs = 0 ∧ s.syncMatch l raw.toNat = true ∧ s.agrees l w raw.toNat hdr.toNat = true)) ∧
    (∃ (l : Leg) (w : Nat) (raw : BitVec 64) (hdr : BitVec 128) (rel : Int) (words : Int) (ofs : Int) (s : State), s.lanesOn l = true ∧ s.runs
    .core = true ∧ s.pwr.asleep = false ∧ w < 4 ∧ (s.wave l w).deln = .presync ∧ ofs = 0 ∧ s.pwr.firstMark = false ∧ s.syncMatch l raw.toNat =
    true ∧ s.agrees l w raw.toNat hdr.toNat = true ∧ (s.wave l w).cand.all (fun k => hdrKey hdr.toNat == nextKey k) = true ∧ max 1 (s.rd
    Reg.LINE_DLN_CTL_SYNC_CONFIRM l.n) ≤ (s.wave l w).confirm + 1) :=
  ⟨⟨.a, 0, 0x7A1DC3B45E690F82, 5, (wOn.wr Reg.OPT_LANE_MODE 1 0 0), by decide +kernel⟩,
   ⟨.a, 0, 0, 0, wOn.updWave .a 0 fun v =>
    { v with deln := .sync }, by decide +kernel⟩,
   ⟨.a, 0,
    0x7A1DC3B45E690F82, 0, 0, 0, 0, wOn.updWave .a 0 fun v => { v with deln := .presync }, by decide +kernel⟩,
   ⟨.a, 1, 0x7A1DC3B45E690F82, wHdr, 0, 0, 0, ((((wOn.wr
    Reg.OPT_STATUS_PRESENT 1 0).wr Reg.OPT_CTL_LANES_EN 1 0).wr Reg.OPT_STATUS_BRINGUP 3 0).wr Reg.OPT_LANE_MODE 1 0 1).updWave .a 1 fun v =>
    { v with deln := .presync, confirm := 7 }, by decide +kernel⟩⟩

theorem witness_DelineationAdvancesByItsMarkers_2 :
    (∃ (l : Leg) (w : Nat) (raw : BitVec 64) (hdr : BitVec 128) (rel : Int) (words : Int) (ofs : Int) (s : State), w < 4 ∧ (s.wave l w).deln =
    .presync ∧ ofs = 0 ∧ s.pwr.firstMark = false ∧ s.syncMatch l raw.toNat = true ∧ s.agrees l w raw.toNat hdr.toNat = true ∧ (s.wave l
    w).cand.all (fun k => hdrKey hdr.toNat == nextKey k) = true ∧ (s.wave l w).confirm + 1 < s.rd Reg.LINE_DLN_CTL_SYNC_CONFIRM l.n) ∧
    (∃ (l : Leg) (w : Nat) (raw : BitVec 64) (hdr : BitVec 128) (rel : Int) (words : Int) (ofs : Int) (s : State), s.lanesOn l = true ∧ s.runs
    .core = true ∧ s.pwr.asleep = false ∧ w < 4 ∧ (s.wave l w).deln = .sync ∧ s.detecting l w = true ∧ ofs = 0 ∧ s.pwr.firstMark = false ∧
    s.syncMatch l raw.toNat = true ∧ s.agrees l w raw.toNat hdr.toNat = true ∧ hdrKey hdr.toNat = nextKey (s.wave l w).key) ∧
    (∃ (l : Leg) (w : Nat) (raw : BitVec 64) (hdr : BitVec 128) (rel : Int) (words : Int) (ofs : Int) (s : State), w < 4 ∧ (s.wave l w).deln =
    .sync ∧ s.detecting l w = true ∧ s.pwr.firstMark = false ∧ s.syncMatch l raw.toNat = false ∧ max 1 (s.rd Reg.LINE_DLN_CTL_SYNC_LOSE l.n) ≤
    (s.wave l w).miss + 1) ∧
    (∃ (l : Leg) (w : Nat) (idx : Nat) (corr : Nat) (ok : Bool) (s : State), w < 4 ∧ idx < 750 ∧ (s.wave l w).deln = .sync ∧ s.detecting l w =
    true ∧ ok = true) :=
  ⟨⟨.a, 1,
    0x7A1DC3B45E690F82, wHdr, 0, 0, 0, (((wOn.wr Reg.OPT_LANE_MODE 1 0 1).wr Reg.LINE_DLN_CTL_SYNC_CONFIRM 3 0).updWave .a 1 fun v =>
    { v with deln := .presync, confirm := 1 }), by decide +kernel⟩,
   ⟨.a, 1,
    0x7A1DC3B45E690F82, wHdr, 0, 0, 0, ((((wOn.wr Reg.OPT_STATUS_PRESENT 1 0).wr Reg.OPT_CTL_LANES_EN 1 0).wr Reg.OPT_STATUS_BRINGUP 3 0).wr
    Reg.OPT_LANE_MODE 1 0 1).updWave .a 1 fun v => { v with deln := .sync }, by decide +kernel⟩,
   ⟨.a, 1, 0, 0, 0, 0, 0, (wOn.wr Reg.OPT_LANE_MODE 1 0 1).updWave .a 1 fun v =>
    { v with deln := .sync, miss := 7 }, by decide +kernel⟩,
   ⟨.a, 0, 0, 3, true, (wOn.wr Reg.OPT_LANE_MODE 1 0 0).updWave .a 0 fun v => { v with deln := .sync },
    by decide +kernel⟩⟩

theorem witness_DelineationAdvancesByItsMarkers_3 : (∃ (l : Leg) (w : Nat) (idx : Nat) (corr : Nat) (ok : Bool) (s : State), w < 4 ∧ idx < 750 ∧ (s.wave l w).deln = .sync ∧ s.detecting l w =
    true ∧ ok = false) :=
  ⟨.a, 0, 749, 0, false, (wOn.wr Reg.OPT_LANE_MODE 1 0 0).updWave .a 0 fun v => { v with deln := .sync },
    by decide +kernel⟩

theorem witness_PartitionsOfAFrameAreRead_1 :
    (∃ (l : Leg) (word : BitVec 64) (s : State), (s.wave l 0).deln = .sync ∧ s.detecting l 0 = true ∧ crc16 (msbBits 48 (word.toNat / 65536)) =
    word.toNat % 65536 ∧ bits word.toNat 45 33 ≤ 4096) ∧
    (∃ (l : Leg) (word : BitVec 64) (s : State), (s.wave l 0).deln = .sync ∧ s.detecting l 0 = true ∧ crc16 (msbBits 48 (word.toNat / 65536)) ≠
    word.toNat % 65536) ∧
    (∃ (l : Leg) (word : BitVec 256) (s : State), (s.wave l 0).deln = .sync ∧ (s.leg l).partOk = true ∧ (s.leg l).todp = true ∧ crc32 (msbBits
    224 (word.toNat / 2 ^ 32)) ≠ word.toNat % 2 ^ 32) ∧
    (∃ (l : Leg) (word : BitVec 256) (s : State), (s.wave l 0).deln = .sync ∧ (s.leg l).partOk = true ∧ (s.leg l).todp = true ∧ crc32 (msbBits
    224 (word.toNat / 2 ^ 32)) = word.toNat % 2 ^ 32 ∧ word.toNat / 2 ^ 208 ≤ s.cur l + 8 ∧ s.cur l ≤ word.toNat / 2 ^ 208 + 8) :=
  ⟨⟨.a, wPart, (wOn.wr Reg.OPT_LANE_MODE 1 0 0).updWave .a 0 fun v =>
    { v with deln := .sync }, by decide +kernel⟩,
   ⟨.a, 0, (wOn.wr Reg.OPT_LANE_MODE 1 0 0).updWave .a 0 fun v => { v with deln := .sync }, by decide +kernel⟩,
   ⟨.a, 5, ((wOn.wr Reg.OPT_LANE_MODE 1 0 0).updWave .a 0 fun v =>
    { v with deln := .sync }).upd .a fun g => { g with partOk := true, bwLeft := 2, todp := true }, by decide +kernel⟩,
   ⟨.a, wTod,
    ((wOn.wr Reg.OPT_LANE_MODE 1 0 0).updWave .a 0 fun v => { v with deln := .sync }).upd .a fun g =>
    { g with partOk := true, bwLeft := 2, todp := true }, by decide +kernel⟩⟩

theorem witness_PartitionsOfAFrameAreRead_2 :
    (∃ (l : Leg) (word : BitVec 64) (s : State), (s.leg l).partOk = true ∧ (s.leg l).bwLeft ≠ 0 ∧ hecOk word.toNat = false) ∧
    (∃ (l : Leg) (word : BitVec 64) (s : State), (s.leg l).partOk = true ∧ (s.leg l).bwLeft ≠ 0 ∧ 2 ≤ (s.leg l).bwLeft ∧ hecOk word.toNat =
    true ∧ s.addressee l (bits word.toNat 63 50) ((s.d0Key l + 2) / 8) = none) ∧
    (∃ (l : Leg) (word : BitVec 64) (s : State), (s.leg l).partOk = true ∧ (s.leg l).bwLeft ≠ 0 ∧ s.grantSf l ((s.d0Key l + 2) / 8) = true ∧ 2
    ≤ (s.leg l).bwLeft ∧ hecOk word.toNat = true ∧ bits word.toNat 14 13 = 3 ∧ s.hasTn l = true ∧ bits word.toNat 63 50 = 0x3000 + s.rd
    Reg.ACT_STATUS_TN l.n ∧ s.rd Reg.ACT_STATUS_TN l.n < 0x3FE ∧ s.allocOk l (rangeAlloc s l word.toNat) = true) ∧
    (∃ (l : Leg) (slots : List (BitVec 128)) (crc : BitVec 32) (s : State), (s.leg l).partOk = true ∧ (s.leg l).nslot ≠ 0 ∧ (s.leg l).slotsSeen
    = false ∧ (s.wave l 0).deln = .sync ∧ slots.length = (s.leg l).nslot ∧ crc32 ((slots.map fun x => x.toNat).flatMap fun x => msbBits 128 x)
    = crc.toNat) :=
  ⟨⟨.a, 0, ((wOn.wr
    Reg.OPT_LANE_MODE 1 0 0).updWave .a 0 fun v => { v with deln := .sync }).upd .a fun g =>
    { g with partOk := true, bwLeft := 2, todp := true }, by decide +kernel⟩,
   ⟨.a, wAlloc, ((wOn.wr Reg.OPT_LANE_MODE 1 0 0).updWave .a 0
    fun v => { v with deln := .sync }).upd .a fun g => { g with partOk := true, bwLeft := 2, todp := true }, by decide +kernel⟩,
   ⟨.a, wRange, ((((((wOn.wr
    Reg.OPT_LANE_MODE 1 0 0).updWave .a 0 fun v => { v with deln := .sync }).upd .a fun g =>
    { g with partOk := true, bwLeft := 2, todp := true }).wr Reg.ACT_STATUS_TN_VALID 1 0).wr Reg.LINE_PROF_VALID 1 0 0).wr
    Reg.LINE_PROF_PRE_GRAINS 4 0 0).wr Reg.LINE_PROF_WAVES 3 0 0, by decide +kernel⟩,
   ⟨.a, [7#128], wSluCrc, (((wOn.wr Reg.OPT_LANE_MODE 1 0 0).updWave .a 0 fun v => { v with deln := .sync }).upd .a fun g =>
    { g with partOk := true, bwLeft := 2, todp := true }).upd .a fun g => { g with nslot := 1 }, by decide +kernel⟩⟩

theorem witness_ActivationMessagesTakeEffect_1 :
    (∃ (l : Leg) (msg : BitVec 384) (s : State), Hears s l ∧ s.takes l 0x01 msg false 0 = true ∧ mfield msg 8 1 ≠ 0 ∧ mfield msg 9 1 % 4 ≠ 0 ∧
    s.effOk l (mfield msg 18 6) = true) ∧
    (∃ (l : Leg) (msg : BitVec 384) (s : State), Hears s l ∧ s.takes l 0x02 msg true 0 = true ∧ mfield msg 6 8 = s.serial ∧ mfield msg 14 2 %
    1024 < 0x3FE ∧ s.rd Reg.ACT_STATUS_STATE l.n = 4) ∧
    (∃ (l : Leg) (msg : BitVec 384) (s : State), Hears s l ∧ s.takes l 0x03 msg false 0 = true ∧ s.hasTn l = true ∧ s.eqdBad l (mfield msg 6 1
    % 2 == 1) (mfield msg 7 4) (mfield msg 11 6) = false ∧ s.effOk l (mfield msg 11 6) = true) ∧
    (∃ (l : Leg) (msg : BitVec 384) (s : State), Hears s l ∧ s.takes l 0x03 msg false 0 = true ∧ s.hasTn l = false) :=
  ⟨⟨.a, wMsg 0x3FF 1 7 [0x40, 3, 4, 1, 0, 0, 0, 0, 0, 0, 0, 9, 0, 0, 0, 0, 0, 2], wMs (wOn),
    by decide +kernel⟩,
   ⟨.a, wMsg 0x3FF 2 7 [0, 0, 0, 0, 0, 0, 0, 0, 0, 9], wMs (wOn.wr Reg.ACT_STATUS_STATE 4
    0), by decide +kernel⟩,
   ⟨.a, wMsg 5 3 7 [0, 0, 0, 1, 0, 0, 0, 0, 0,
    0, 2], wMs (wTn), by decide +kernel⟩,
   ⟨.a, wMsg 0x3FF 3 7 [],
    wMs (wOn), by decide +kernel⟩⟩

theorem witness_ActivationMessagesTakeEffect_2 :
    (∃ (l : Leg) (msg : BitVec 384) (s : State), Hears s l ∧ s.takes l 0x04 msg false 0 = true ∧ (s.fwPresent = true ∨ mfield msg 6 1 % 2 = 0)
    ∧ s.hasTn l = true ∧ mfield msg 8 2 % 2 ^ 14 ≤ 0x2FFF ∧ s.effOk l (mfield msg 10 6) = true ∧ (List.range 128).any (fun c => c != mfield msg
    7 1 % 128 && s.ctnAt l c (mfield msg 10 6) == mfield msg 8 2 % 2 ^ 14 + 1) = false) ∧
    (∃ (l : Leg) (msg : BitVec 384) (s : State), Hears s l ∧ s.takes l 0x05 msg false 0 = true ∧ s.rd Reg.ACT_STATUS_STATE l.n ≠ 0) ∧
    (∃ (l : Leg) (msg : BitVec 384) (s : State), Hears s l ∧ s.takes l 0x09 msg false 0 = true ∧ s.hasTn l = true ∧ 1 ≤ mfield msg 6 2 ∧ mfield
    msg 6 2 ≤ 1024) ∧
    (∃ (l : Leg) (msg : BitVec 384) (s : State), Hears s l ∧ s.takes l 0x09 msg false 0 = true ∧ s.hasTn l = true ∧ (mfield msg 6 2 = 0 ∨ 1024
    < mfield msg 6 2)) :=
  ⟨⟨.a, wMsg 5 4 7 [1, 3, 0, 7, 0, 0, 0, 0, 0, 2], wMs
    (wTn.wr Reg.ADM_STATUS_FW_PRESENT 1), by decide +kernel⟩,
   ⟨.a,
    wMsg 5 5 7 [], wMs ((wTn.wr Reg.ACT_STATUS_STATE 5 0).wr Reg.HG_STATUS_TN_VALID 1 0), by decide +kernel⟩,
   ⟨.a, wMsg 5 9 7 [0, 3], wMs (wTn), by decide +kernel⟩,
   ⟨.a, wMsg 5 9 7 [0, 0], wMs (wTn), by decide +kernel⟩⟩

theorem witness_MessagesAreCheckedAndDuplicatesAnswered :
    (∃ (l : Leg) (msg : BitVec 384) (s : State), Hears s l ∧ mcrcOk msg = false) ∧
    (∃ (l : Leg) (msg : BitVec 384) (s : State), Hears s l ∧ knownType (msgType msg) = false ∧ mcrcOk msg = true ∧ s.hasTn l = true ∧ msgTn msg
    = s.rd Reg.ACT_STATUS_TN l.n) ∧
    (∃ (l : Leg) (msg : BitVec 384) (s : State), Hears s l ∧ knownType (msgType msg) = false ∧ mcrcOk msg = false) ∧
    (∃ (l : Leg) (msg : BitVec 384) (e : Seen) (st : Nat) (s : State), Hears s l ∧ msgType msg = 0x09 ∧ mcrcOk msg = true ∧ s.addressed l msg
    false = true ∧ s.hasTn l = true ∧ s.dupOf l 0x09 (msgTxid msg) 0 = some e ∧ e.status = some st) :=
  ⟨⟨.a, 1, wMs wOn, by decide +kernel⟩,
   ⟨.a, wMsg 5 0x20 7 [], wMs wTn, by decide +kernel⟩,
   ⟨.a, 0x20 * 2 ^ 360, wMs
    wOn, by decide +kernel⟩,
   ⟨.a, wMsg 5 9 7 [0, 3], ⟨7, 9, 0, 0,
    some 0⟩, 0, wMs (wTn.upd .a fun g => { g with seen := [⟨7, 9, 0, 0, some 0⟩] }), by decide +kernel⟩⟩

theorem witness_StagedItemsTakeEffectAndTimersExpire_1 :
    (∃ (l : Leg) (p : Nat) (v : Prof) (s : State), p < 4 ∧ s.profAt l p (s.cur l) = v) ∧
    (∃ (l : Leg) (slot : Nat) (sfc : Nat) (s : State), slot < 128 ∧ (s.d0Key l + 2) / 8 = sfc) ∧
    (∃ (l : Leg) (slot : Nat) (id : Nat) (sfc : Nat) (s : State), slot < 128 ∧ (s.d0Key l + 2) / 8 = sfc ∧ sfc ≤ (s.leg l).upSfc ∧ Tab.get []
    slot (s.leg l).hgDue = [] ∧ (Tab.get [] slot (s.leg l).hgPend).Pairwise (fun x y => x.eff < y.eff) ∧ s.hgAt l slot sfc = id + 1 ∧ id < 2 ^
    14) ∧
    (∃ (l : Leg) (p : EqdPend) (r : List EqdPend) (s : State), (s.leg l).eqdPend = p :: r ∧ p.eff ≤ s.cur l) :=
  ⟨⟨.a, 2,
    { waves := 3, preGrains := 4, valid := true }, (wOn.updWave .a 0 fun v => { v with sfc := 9 }).upd .a fun g =>
    { g with profPend := ⟨[], [], [⟨9, { waves := 3, preGrains := 4, valid := true }⟩], []⟩ }, by decide +kernel⟩,
   ⟨.a, 3, 9, (wOn.updWave .a 0 fun v =>
    { v with sfc := 9 }).upd .a fun g => { g with hgPend := [(3, [⟨0, 8⟩])] }, by decide +kernel⟩,
   ⟨.a, 3, 7, 9, (wOn.updWave .a 0 fun v => { v with sfc := 9 }).upd .a fun g => { g with hgPend := [(3, [⟨0, 8⟩])], upSfc := 9 },
    by decide +kernel⟩,
   ⟨.a, ⟨0, false, 130, 0⟩, [],
    (wOn.wr Reg.ACT_EQD_NEXT 130 0).upd .a fun g => { g with eqdPend := [⟨0, false, 130, 0⟩] }, by decide +kernel⟩⟩

theorem witness_StagedItemsTakeEffectAndTimersExpire_2 :
    (∃ (l : Leg) (s : State), s.rd Reg.ACT_STATUS_STATE l.n = 2 ∧ (s.leg l).scheduled = false) ∧
    (∃ (l : Leg) (s : State), s.rd Reg.ACT_STATUS_STATE l.n = 4) ∧
    (∃ (l : Leg) (s : State), s.hasTn l = true ∧ (s.leg l).rangeMissed = false) ∧
    (∃ (l : Leg) (s : State), (s.leg l).rangeMissed = true) :=
  ⟨⟨.a, wOn.wr Reg.ACT_STATUS_STATE 2 0,
    by decide +kernel⟩,
   ⟨.a, wTn.wr Reg.ACT_STATUS_STATE 4 0, by decide +kernel⟩,
   ⟨.a, wTn, by decide +kernel⟩,
   ⟨.a, wOn.upd .a fun g => { g with rangeMissed := true }, by decide +kernel⟩⟩

theorem witness_StagedItemsTakeEffectAndTimersExpire_3 :
    (∃ (l : Leg) (s : State), s.pwr.wakeReq.isSome = true ∧ s.kept = l ∧ (s.leg l).wakeSent = true) ∧
    (∃ (ag : Agent) (l : Leg) (v : BitVec 32) (s : State), s.reach ag = true ∧ v.toNat % 2 = 1 ∧ s.rd Reg.ACT_STATUS_STATE l.n = 0 ∧ (s.leg
    l).failed = false) ∧
    (∃ (ag : Agent) (l : Leg) (v : BitVec 32) (s : State), s.reach ag = true ∧ v.toNat % 2 = 0 ∧ s.isOn Reg.ACT_CTL_ENABLE l.n = true) :=
  ⟨⟨.a,
    { wOn.upd .a fun g => { g with wakeSent := true } with pwr := { wOn.pwr with wakeReq := some 0x8000 } }, by decide +kernel⟩,
   ⟨.pf, .a, 1, wOn, by decide +kernel⟩,
   ⟨.pf,
    .a, 0, wOn.wr Reg.ACT_CTL_ENABLE 1 0, by decide +kernel⟩⟩

theorem witness_HeadgateOpensEndsAndStops_1 :
    (∃ (l : Leg) (u : Nat) (start : Nat) (a : Alloc) (s : State), u < 2 ∧ (s.leg l).allocs.find? (fun a => a.key == upKey (s.leg l).upSfc
    (s.leg l).upFn && a.wave == u && a.start == start && (a.hgOpen || a.role) && !a.withdrawn && !a.opened) = some a ∧ s.refusal l a
    (s.hgSlotFor l a.id a.sfc) false 0 = none) ∧
    (∃ (l : Leg) (u : Nat) (start : Nat) (a : Alloc) (R : Row) (s : State), u < 2 ∧ (s.leg l).allocs.find? (fun a => a.key == upKey (s.leg
    l).upSfc (s.leg l).upFn && a.wave == u && a.start == start && (a.hgOpen || a.role) && !a.withdrawn && !a.opened) = some a ∧ s.refusal l a
    (s.hgSlotFor l a.id a.sfc) false 0 = some R) ∧
    (∃ (l : Leg) (u : Nat) (light : Bool) (w : Win) (s : State), u < 2 ∧ s.win l u = some w ∧ light = true) ∧
    (∃ (l : Leg) (u : Nat) (light : Bool) (w : Win) (s : State), u < 2 ∧ s.win l u = some w ∧ light = false) :=
  ⟨⟨.a, 0, 100, wAl, wOpen, by decide +kernel⟩,
   ⟨.a, 0, 100, wAl, Reg.HG_CNT_REFUSED_OTHER, wOpen.wr Reg.HG_CTL_TX_ALLOW 0 0,
    by decide +kernel⟩,
   ⟨.a, 0, true, ⟨wAl, 0⟩,
    wOn.setWin .a 0 (some ⟨wAl, 0⟩), by decide +kernel⟩,
   ⟨.a, 0, false, ⟨wAl, 0⟩,
    wOn.setWin .a 0 (some ⟨wAl, 0⟩), by decide +kernel⟩⟩

theorem witness_HeadgateOpensEndsAndStops_2 :
    (∃ (l : Leg) (u : Nat) (light : Bool) (s : State), s.win l u = none) ∧
    (∃ (l : Leg) (u : Nat) (samples : Nat) (s : State), u < 2 ∧ rogueFilter (s.rd Reg.HG_ROGUE_CTL_FILTER l.n) ≤ samples ∧ s.win l u = none ∧
    s.tailEnd l u ≤ s.run16 ∧ s.isOn Reg.HG_STATUS_ROGUE l.n = false) ∧
    (∃ (l : Leg) (u : Nat) (samples : Nat) (s : State), samples < rogueFilter (s.rd Reg.HG_ROGUE_CTL_FILTER l.n)) ∧
    (∃ (l : Leg) (msg : BitVec 384) (s : State), Hears s l ∧ s.takes l 0x06 msg true 0 = true ∧ s.isOn Reg.HG_STATUS_ESTOP l.n = false) :=
  ⟨⟨.a, 0, false, wOn, by decide +kernel⟩,
   ⟨.a, 0, 8, wOn, by decide +kernel⟩,
   ⟨.a, 0, 0, wOn,
    by decide +kernel⟩,
   ⟨.a,
    wMsg 0x3FF 6 7 [], wMs (wOn), by decide +kernel⟩⟩

theorem witness_HeadgateOpensEndsAndStops_3 :
    (∃ (l : Leg) (msg : BitVec 384) (s : State), Hears s l ∧ s.takes l 0x07 msg true 0 = true ∧ s.hasTn l = true) ∧
    (∃ (l : Leg) (msg : BitVec 384) (s : State), Hears s l ∧ s.takes l 0x07 msg true 0 = true ∧ s.hasTn l = false) ∧
    (∃ (ag : Agent) (l : Leg) (v : BitVec 32) (s : State), s.reach ag = true ∧ bit v.toNat 1 = 1) ∧
    (∃ (ag : Agent) (l : Leg) (v : BitVec 32) (s : State), s.reach ag = true ∧ bit v.toNat 1 = 0 ∧ s.rd Reg.OPT_SAFE_CAUSE l.n ≠ 0) :=
  ⟨⟨.a, wMsg 5 7 7 [], wMs
    (wTn.wr Reg.HG_STATUS_ROGUE 1 0), by decide +kernel⟩,
   ⟨.a, wMsg 0x3FF 7 7 [],
    wMs (wOn.wr Reg.HG_STATUS_ROGUE 1 0), by decide +kernel⟩,
   ⟨.pf, .a, 2, wOn, by decide +kernel⟩,
   ⟨.pf,
    .a, 1, (wOn.wr Reg.OPT_SAFE_CAUSE 1 0).wr Reg.HG_CTL_FORCE_TXDIS 1 0, by decide +kernel⟩⟩

theorem witness_HeadgateOpensEndsAndStops_4 : (∃ (ag : Agent) (l : Leg) (v : BitVec 32) (s : State), s.reach ag = true ∧ bit v.toNat 1 = 0 ∧ s.rd Reg.OPT_SAFE_CAUSE l.n = 0) :=
  ⟨.pf,
    .a, 1, wOn.wr Reg.HG_CTL_FORCE_TXDIS 1 0, by decide +kernel⟩

theorem witness_UpstreamFramesAndRevisions_1 :
    (∃ (l : Leg) (sfc : BitVec 48) (fn : Nat) (s : State), fn < 8) ∧
    (∃ (l : Leg) (u : Nat) (s : State), u < 2 ∧ s.rd Reg.OPT_LANE_MODE l.n (4 + u) = 4 ∧ (s.leg l).allocs.any (fun a => a.wave == u && a.hgOpen
    && !a.opened && !a.withdrawn) = true) ∧
    (∃ (l : Leg) (u : Nat) (s : State), s.rd Reg.OPT_LANE_MODE l.n (4 + u) ≠ 4) ∧
    (∃ (l : Leg) (msg : BitVec 384) (s : State), Hears s l ∧ s.takes l 0x08 msg false 0 = true ∧ (s.leg l).allocs.find? (fun a => a.key ==
    upKey (mfield msg 6 6) (mfield msg 12 1 % 8) && a.wave == bit (mfield msg 12 1) 3 && a.id == mfield msg 13 2 % 2 ^ 14 && a.start == mfield
    msg 15 3 % 2 ^ 17 && !a.withdrawn) = none) :=
  ⟨⟨.a, 3, 2, wOn.upd .a fun g => { g with allocs := [wAl] },
    by decide +kernel⟩,
   ⟨.a, 0, wOpen.wr Reg.OPT_LANE_MODE 4 0 4, by decide +kernel⟩,
   ⟨.a, 0, wOn, by decide +kernel⟩,
   ⟨.a, wMsg 0x3FF 8 7 [0, 0, 0, 0, 0, 9], wMs (wOn), by decide +kernel⟩⟩

theorem witness_UpstreamFramesAndRevisions_2 :
    (∃ (l : Leg) (msg : BitVec 384) (a : Alloc) (s : State), Hears s l ∧ s.takes l 0x08 msg false 0 = true ∧ (s.leg l).allocs.find? (fun a =>
    a.key == upKey (mfield msg 6 6) (mfield msg 12 1 % 8) && a.wave == bit (mfield msg 12 1) 3 && a.id == mfield msg 13 2 % 2 ^ 14 && a.start
    == mfield msg 15 3 % 2 ^ 17 && !a.withdrawn) = some a ∧ a.opened = true) ∧
    (∃ (l : Leg) (msg : BitVec 384) (a : Alloc) (s : State), Hears s l ∧ s.takes l 0x08 msg false 0 = true ∧ (s.leg l).allocs.find? (fun a =>
    a.key == upKey (mfield msg 6 6) (mfield msg 12 1 % 8) && a.wave == bit (mfield msg 12 1) 3 && a.id == mfield msg 13 2 % 2 ^ 14 && a.start
    == mfield msg 15 3 % 2 ^ 17 && !a.withdrawn) = some a ∧ a.opened = false ∧ upKey (mfield msg 6 6) (mfield msg 12 1 % 8) ≠ s.d0Key l + 1) ∧
    (∃ (l : Leg) (msg : BitVec 384) (a : Alloc) (s : State), Hears s l ∧ s.takes l 0x08 msg false 0 = true ∧ (s.leg l).allocs.find? (fun a =>
    a.key == upKey (mfield msg 6 6) (mfield msg 12 1 % 8) && a.wave == bit (mfield msg 12 1) 3 && a.id == mfield msg 13 2 % 2 ^ 14 && a.start
    == mfield msg 15 3 % 2 ^ 17 && !a.withdrawn) = some a ∧ a.opened = false ∧ upKey (mfield msg 6 6) (mfield msg 12 1 % 8) = s.d0Key l + 1 ∧
    mfield msg 21 3 % 2 ^ 17 = 0) :=
  ⟨⟨.a, wMsg 0x3FF 8 7 [0, 0, 0, 0, 0, 0, 1, 0x30, 5, 0, 0, 100],
    { wAl with opened := true }, wMs (wOpen.upd .a fun g => { g with allocs := [{ wAl with opened := true }] }), by decide +kernel⟩,
   ⟨.a, wMsg 0x3FF 8 7 [0, 0, 0, 0, 0, 0, 1, 0x30, 5, 0, 0, 100], wAl, wMs (wOpen.updWave .a 0 fun v => { v with fn := 1 }),
    by decide +kernel⟩,
   ⟨.a, wMsg 0x3FF 8 7 [0, 0, 0, 0, 0, 0, 1, 0x30, 5, 0, 0, 100], wAl, wMs (wOpen.updWave .a 0 fun v =>
    { v with fn := 0 }), by decide +kernel⟩⟩

theorem witness_ChannelFramesAreDelineated_1 :
    (∃ (l : Leg) (w : Nat) (off : Nat) (hdr : BitVec 64) (payload : List Byte) (next : BitVec 64) (ecc : Option Nat) (s : State), ¬ Reads s l w
    off) ∧
    (∃ (l : Leg) (w : Nat) (off : Nat) (hdr : BitVec 64) (payload : List Byte) (next : BitVec 64) (ecc : Option Nat) (s : State), w < 4 ∧ Reads
    s l w off ∧ (s.wave l w).hunting = false ∧ hecOk hdr.toNat = false) ∧
    (∃ (l : Leg) (w : Nat) (off : Nat) (hdr : BitVec 64) (payload : List Byte) (next : BitVec 64) (ecc : Option Nat) (s : State), w < 4 ∧ Reads
    s l w off ∧ (s.wave l w).hunting = false ∧ hecOk hdr.toNat = true ∧ hdrBad off hdr.toNat = true) ∧
    (∃ (l : Leg) (w : Nat) (off : Nat) (hdr : BitVec 64) (payload : List Byte) (next : BitVec 64) (ecc : Option Nat) (s : State), w < 4 ∧ Reads
    s l w off ∧ (s.wave l w).hunting = false ∧ hecOk hdr.toNat = true ∧ hdrBad off hdr.toNat = false ∧ (s.wave l w).seqBad hdr.toNat = true) :=
  ⟨⟨.a, 0, 0, 0, [], 0, none, wOn, by decide +kernel⟩,
   ⟨.a, 1, 24, 5, [], 0, none, wRx, by decide +kernel⟩,
   ⟨.a, 1, 24, wChan 5 64 0 2 1, [], 0,
    none, wRx, by decide +kernel⟩,
   ⟨.a, 1, 24, wChan 5 64 0 0 1, [], 0, none, wRx.updWave .a 1 fun v => { v with lastSeq := some 1 }, by decide +kernel⟩⟩

theorem witness_ChannelFramesAreDelineated_2 :
    (∃ (l : Leg) (w : Nat) (off : Nat) (hdr : BitVec 64) (payload : List Byte) (next : BitVec 64) (ecc : Option Nat) (s : State), (s.wave l
    w).hunting = true ∧ (s.wave l w).resumes off hdr.toNat next.toNat = false) ∧
    (∃ (l : Leg) (w : Nat) (off : Nat) (hdr : BitVec 64) (payload : List Byte) (next : BitVec 64) (ecc : Option Nat) (s : State), w < 4 ∧ Reads
    s l w off ∧ (s.wave l w).hunting = false ∧ Stands s l w off hdr.toNat ∧ (s.wave l w).badSpan off hdr.toNat = true) ∧
    (∃ (l : Leg) (w : Nat) (off : Nat) (hdr : BitVec 64) (payload : List Byte) (next : BitVec 64) (ecc : Option Nat) (s : State), w < 4 ∧ Reads
    s l w off ∧ (s.wave l w).hunting = false ∧ Stands s l w off hdr.toNat ∧ (s.wave l w).badSpan off hdr.toNat = false ∧ hdrPti hdr.toNat = 3) ∧
    (∃ (l : Leg) (w : Nat) (off : Nat) (hdr : BitVec 64) (payload : List Byte) (next : BitVec 64) (ecc : Option Nat) (s : State), w < 4 ∧ Reads
    s l w off ∧ (s.wave l w).hunting = false ∧ Stands s l w off hdr.toNat ∧ (s.wave l w).badSpan off hdr.toNat = false ∧ (s.wave l w).deliver =
    true ∧ hdrPti hdr.toNat < 2 ∧ ecc ≠ some (1 + l.n) ∧ bit (s.stream (hdrStream hdr.toNat)) 0 = 0 ∧ s.isOn Reg.STBL_LEARN_CTL_EN = false ∧
    s.isOn Reg.STBL_UNK_CTL_ACTION = false) :=
  ⟨⟨.a, 0, 0, 5, [], 0, none, wRx.updWave .a 0 fun v =>
    { v with hunting := true }, by decide +kernel⟩,
   ⟨.a, 1, 24, wChan 5
    64 0 0 1, [], 0, none, wRx.updWave .a 1 fun v => { v with badCw := [0] }, by decide +kernel⟩,
   ⟨.a, 1, 24, wChan 5 64 0 3 1, [], 0, none, wRx, by decide +kernel⟩,
   ⟨.a, 1, 24, wChan 6 64 0 0 1, [], 0, none, wRx, by decide +kernel⟩⟩

theorem witness_ChannelFramesAreDelineated_3 : (∃ (l : Leg) (w : Nat) (off : Nat) (hdr : BitVec 64) (payload : List Byte) (next : BitVec 64) (ecc : Option Nat) (s : State), w < 4 ∧ Reads
    s l w off ∧ (s.wave l w).hunting = false ∧ Stands s l w off hdr.toNat ∧ (s.wave l w).badSpan off hdr.toNat = false ∧ (s.wave l w).deliver =
    true ∧ hdrPti hdr.toNat = 1 ∧ ecc ≠ some (1 + l.n) ∧ bit (s.stream (hdrStream hdr.toNat)) 0 = 1 ∧ s.downKey l (bits (s.stream (hdrStream
    hdr.toNat)) 28 20) (hdrKidx hdr.toNat) = none) :=
  ⟨.a, 1, 24, wChan 5 64 0 1 1, [], 0, none, wRx, by decide +kernel⟩

theorem witness_ChannelFramesAreClassifiedAndAdmitted_1 :
    (∃ (l : Leg) (w : Nat) (off : Nat) (hdr : BitVec 64) (payload : List Byte) (next : BitVec 64) (ecc : Option Nat) (f : Leaf) (s : State), w
    < 4 ∧ Reads s l w off ∧ (s.wave l w).hunting = false ∧ Stands s l w off hdr.toNat ∧ (s.wave l w).badSpan off hdr.toNat = false ∧ (s.wave l
    w).deliver = true ∧ hdrPti hdr.toNat = 0 ∧ ecc = none ∧ bit (s.stream (hdrStream hdr.toNat)) 0 = 1 ∧ bit (s.stream (hdrStream hdr.toNat))
    53 = 0 ∧ s.classify (s.stream (hdrStream hdr.toNat)) (slice payload 0 (hdrPlen hdr.toNat)) = some f ∧ f.action = 1 ∧ bit (s.stream
    (hdrStream hdr.toNat)) 108 = 0 ∧ s.bufUsed + bufCells (slice payload 0 (hdrPlen hdr.toNat)).length ≤ 196608) ∧
    (∃ (l : Leg) (w : Nat) (off : Nat) (hdr : BitVec 64) (payload : List Byte) (next : BitVec 64) (ecc : Option Nat) (f : Leaf) (s : State), w
    < 4 ∧ Reads s l w off ∧ (s.wave l w).hunting = false ∧ Stands s l w off hdr.toNat ∧ (s.wave l w).badSpan off hdr.toNat = false ∧ (s.wave l
    w).deliver = true ∧ hdrPti hdr.toNat = 0 ∧ ecc = none ∧ bit (s.stream (hdrStream hdr.toNat)) 0 = 1 ∧ bit (s.stream (hdrStream hdr.toNat))
    53 = 0 ∧ s.classify (s.stream (hdrStream hdr.toNat)) (slice payload 0 (hdrPlen hdr.toNat)) = some f ∧ f.action = 0) ∧
    (∃ (l : Leg) (w : Nat) (off : Nat) (hdr : BitVec 64) (payload : List Byte) (next : BitVec 64) (ecc : Option Nat) (s : State), w < 4 ∧ Reads
    s l w off ∧ (s.wave l w).hunting = false ∧ Stands s l w off hdr.toNat ∧ (s.wave l w).badSpan off hdr.toNat = false ∧ (s.wave l w).deliver =
    true ∧ hdrPti hdr.toNat = 0 ∧ ecc = none ∧ bit (s.stream (hdrStream hdr.toNat)) 0 = 1 ∧ bit (s.stream (hdrStream hdr.toNat)) 53 = 0 ∧
    s.classify (s.stream (hdrStream hdr.toNat)) (slice payload 0 (hdrPlen hdr.toNat)) = none) ∧
    (∃ (l : Leg) (w : Nat) (off : Nat) (hdr : BitVec 64) (payload : List Byte) (next : BitVec 64) (ecc : Option Nat) (s : State), w < 4 ∧ Reads
    s l w off ∧ (s.wave l w).hunting = false ∧ Stands s l w off hdr.toNat ∧ (s.wave l w).badSpan off hdr.toNat = false ∧ (s.wave l w).deliver =
    true ∧ hdrPti hdr.toNat = 0 ∧ ecc = none ∧ bit (s.stream (hdrStream hdr.toNat)) 0 = 1 ∧ bit (s.stream (hdrStream hdr.toNat)) 53 = 1) :=
  ⟨⟨.a, 1, 24, wChan 5 64 0 0
    1, [], 0, none, ⟨1, 0, 0⟩, wRx, by decide +kernel⟩,
   ⟨.a, 1, 24, wChan 5
    64 0 0 1, [], 0, none, ⟨0, 0, 0⟩, { wRx with cls := { wRx.cls with streams := [(5, 1)] } }, by decide +kernel⟩,
   ⟨.a, 1, 24, wChan 5 64 0 0 1, [], 0, none,
    { wRx with cls := { wRx.cls with streams := [(5, 1 + 2 ^ 38)] } }, by decide +kernel⟩,
   ⟨.a, 1, 24, wChan 5 64 0 0 1, [], 0, none, { wRx with cls := { wRx.cls with streams := [(5, 1 + 2 ^ 53)] } }, by decide +kernel⟩⟩

theorem witness_ChannelFramesAreClassifiedAndAdmitted_2 : (∃ (l : Leg) (w : Nat) (off : Nat) (hdr : BitVec 64) (payload : List Byte) (next : BitVec 64) (ecc : Option Nat) (key : Nat) (s : State), w
    < 4 ∧ Reads s l w off ∧ (s.wave l w).hunting = false ∧ Stands s l w off hdr.toNat ∧ (s.wave l w).badSpan off hdr.toNat = false ∧ (s.wave l
    w).deliver = true ∧ hdrPti hdr.toNat = 1 ∧ ecc = none ∧ bit (s.stream (hdrStream hdr.toNat)) 0 = 1 ∧ s.downKey l (bits (s.stream (hdrStream
    hdr.toNat)) 28 20) (hdrKidx hdr.toNat) = some key ∧ 16 ≤ hdrPlen hdr.toNat ∧ (s.decrypt l w key hdr.toNat payload).2 = false ∧ (s.classify
    (s.stream (hdrStream hdr.toNat)) (s.decrypt l w key hdr.toNat payload).1).isSome = true) :=
  ⟨.a, 1, 24, wChan 5 64 0 1 1, [], 0, none, 9,
    { wRx with ciph := { slots := [(0, { kind := 1, keys := [(0, 10)] })] } }, by decide +kernel⟩

theorem witness_FramesAreDeliveredToRings_1 :
    (∃ (ring : Nat) (ecc : Bool) (s : State), s.host.buf.find? (fun b => s.bufRing b == ring) = none) ∧
    (∃ (ring : Nat) (ecc : Bool) (b : BufFrame) (s : State), s.runs .core = true ∧ s.host.buf.find? (fun b => s.bufRing b == ring) = some b ∧
    b.mirror = none ∧ s.ringTakes ring b.func = false) ∧
    (∃ (ring : Nat) (ecc : Bool) (b : BufFrame) (used : List Post) (left : List Post) (s : State), s.runs .core = true ∧ s.host.buf.find? (fun
    b => s.bufRing b == ring) = some b ∧ ring < 1024 ∧ s.ringTakes ring b.func = true ∧ s.canDma b.func = true ∧ s.cqFull (s.rd Reg.HIF_RX_CQ 0
    ring) = false ∧ takePosts (dropTags b.ntag b.data).length (s.rxr ring).posts = some (used, left) ∧ b.mirror = none ∧ ecc = false) ∧
    (∃ (ring : Nat) (b : BufFrame) (s : State), s.host.buf.find? (fun b => s.bufRing b == ring) = some b ∧ s.ringTakes ring b.func = true ∧
    takePosts (dropTags b.ntag b.data).length (s.rxr ring).posts = none ∧ (s.rxr ring).starvedMs ≠ some s.msNow) :=
  ⟨⟨0, false, wOn, by decide +kernel⟩,
   ⟨3, false, wBuf, wDel.wr Reg.HIF_RX_CTL_EN 0 0 3, by decide +kernel⟩,
   ⟨3,
    false, wBuf, [⟨0, 4096, 128⟩], [], wDel, by decide +kernel⟩,
   ⟨3, wBuf, wDel.setRxr 3 fun
    x => { x with posts := [] }, by decide +kernel⟩⟩

theorem witness_FramesAreDeliveredToRings_2 : (∃ (ring : Nat) (s : State), (s.rxr ring).starvedMs = some s.msNow) :=
  ⟨0, wOn.setRxr 0 fun x => { x with starvedMs := some 0 },
    by decide +kernel⟩

theorem witness_ShapersRefillAndReset_1 :
    (∃ (q : Nat) (s : State), s.runs .core = true ∧ (s.txq q).cfg.shapeEn = true) ∧
    (∃ (c : Nat) (s : State), s.runs .core = true ∧ c < 128 ∧ s.isOn Reg.USCH_CT_CTL_SHAPE_EN 0 c = true) ∧
    (∃ (q : Nat) (s : State), (s.txq q).cfg.shapeEn = false) ∧
    (∃ (ag : Agent) (s : State), s.reach ag = true ∧ s.rd Reg.PWR_STATUS_STATE ≠ 1) :=
  ⟨⟨3, wOn.setTxq 3 fun x =>
    { x with cfg := { x.cfg with shapeEn := true, rate0 := 7, mode := 2, rate1 := 5 } }, by decide +kernel⟩,
   ⟨127, (wOn.wr
    Reg.USCH_CT_CTL_SHAPE_EN 1 0 127).wr Reg.USCH_CT_RATE0 9 0 127, by decide +kernel⟩,
   ⟨0, wOn, by decide +kernel⟩,
   ⟨.pf, wOn, by decide +kernel⟩⟩

theorem witness_ShapersRefillAndReset_2 :
    (∃ (ag : Agent) (q : Nat) (s : State), s.reach ag = true ∧ s.rd Reg.PWR_STATUS_STATE ≠ 1 ∧ s.isOn Reg.USCH_STATUS_RESET_BUSY = false) ∧
    (∃ (ag : Agent) (s : State), s.reach ag = true ∧ s.rd Reg.PWR_STATUS_STATE ≠ 1 ∧ s.isOn Reg.USCH_STATUS_RESET_BUSY = true) :=
  ⟨⟨.pf, 0, wOn, by decide +kernel⟩,
   ⟨.pf, wOn.wr
    Reg.USCH_STATUS_RESET_BUSY 1, by decide +kernel⟩⟩

theorem witness_QueueAndContainerTablesAreWritten_1 :
    (∃ (ag : Agent) (s : State), s.reach ag = true ∧ s.rd Reg.PWR_STATUS_STATE ≠ 1 ∧ ((⟨if s.rdA ag Reg.USCH_QDATA0_MODE = 3 then 0 else s.rdA
    ag Reg.USCH_QDATA0_MODE, decide (s.rdA ag Reg.USCH_QDATA0_SHAPE_EN ≠ 0), s.rdA ag Reg.USCH_QDATA0_OVH, s.rdA ag Reg.USCH_QDATA0_WEIGHT,
    s.rdA ag Reg.USCH_QDATA1_RATE0, s.rdA ag Reg.USCH_QDATA2_BURST0, s.rdA ag Reg.USCH_QDATA3_RATE1, s.rdA ag Reg.USCH_QDATA4_BURST1⟩ :
    QCfg).mode = (s.txq (s.rdA ag Reg.USCH_QIDX)).cfg.mode ∨ ((s.txq (s.rdA ag Reg.USCH_QIDX)).b0.resv = 0 ∧ (s.txq (s.rdA ag
    Reg.USCH_QIDX)).b1.resv = 0))) ∧
    (∃ (ag : Agent) (s : State), s.reach ag = true ∧ s.rd Reg.PWR_STATUS_STATE ≠ 1 ∧ ((s.txq (s.rdA ag Reg.USCH_QIDX)).b0.resv ≠ 0 ∨ (s.txq
    (s.rdA ag Reg.USCH_QIDX)).b1.resv ≠ 0) ∧ (⟨if s.rdA ag Reg.USCH_QDATA0_MODE = 3 then 0 else s.rdA ag Reg.USCH_QDATA0_MODE, decide (s.rdA ag
    Reg.USCH_QDATA0_SHAPE_EN ≠ 0), s.rdA ag Reg.USCH_QDATA0_OVH, s.rdA ag Reg.USCH_QDATA0_WEIGHT, s.rdA ag Reg.USCH_QDATA1_RATE0, s.rdA ag
    Reg.USCH_QDATA2_BURST0, s.rdA ag Reg.USCH_QDATA3_RATE1, s.rdA ag Reg.USCH_QDATA4_BURST1⟩ : QCfg).mode ≠ (s.txq (s.rdA ag
    Reg.USCH_QIDX)).cfg.mode) ∧
    (∃ (ag : Agent) (s : State), s.reach ag = true ∧ s.rd Reg.PWR_STATUS_STATE ≠ 1) ∧
    (∃ (ag : Agent) (slot : Nat) (off : Nat) (v : BitVec 32) (s : State), s.reach ag = true ∧ s.rd Reg.PWR_STATUS_STATE ≠ 1 ∧ slot < 128 ∧ off
    = 4) :=
  ⟨⟨.pf, wOn, by decide +kernel⟩,
   ⟨.pf, (wOn.setTxq 0 fun x => { x with b0 := { x.b0 with resv := 500 } }).wr Reg.USCH_QDATA0_MODE 1,
    by decide +kernel⟩,
   ⟨.pf, wOn, by decide +kernel⟩,
   ⟨.pf, 127, 4, 77, wOn, by decide +kernel⟩⟩

theorem witness_QueueAndContainerTablesAreWritten_2 :
    (∃ (ag : Agent) (slot : Nat) (off : Nat) (v : BitVec 32) (s : State), s.reach ag = true ∧ s.rd Reg.PWR_STATUS_STATE ≠ 1 ∧ slot < 128 ∧ off
    = 0 ∧ s.ownerRefused slot (bits v.toNat 23 16) = none) ∧
    (∃ (ag : Agent) (slot : Nat) (off : Nat) (v : BitVec 32) (R : Row) (s : State), s.reach ag = true ∧ s.rd Reg.PWR_STATUS_STATE ≠ 1 ∧ slot <
    128 ∧ off = 0 ∧ s.ownerRefused slot (bits v.toNat 23 16) = some R) ∧
    (∃ (ag : Agent) (v : BitVec 32) (s : State), s.reach ag = true ∧ s.rd Reg.PWR_STATUS_STATE ≠ 1 ∧ bit v.toNat 0 = 1) ∧
    (∃ (slot : Nat) (s : State), slot < 128 ∧ (s.slotSt slot).fb = 1) :=
  ⟨⟨.pf, 5, 0, 0x30002, wOn, by decide +kernel⟩,
   ⟨.pf, 0, 0, 0x30000, Reg.HIF_STATUS_WERR, wOn.wr Reg.HIF_TX_CTL_EN 1
    0 3, by decide +kernel⟩,
   ⟨.pf, 0x101, wOn,
    by decide +kernel⟩,
   ⟨9, wOn.setSlot 9 fun y => { y with fb := 1 }, by decide +kernel⟩⟩

theorem witness_QueueAndContainerTablesAreWritten_3 : (∃ (slot : Nat) (s : State), (s.slotSt slot).fb ≠ 1) :=
  ⟨0, wOn, by decide +kernel⟩

theorem witness_BurstsAreBuilt :
    (∃ (l : Leg) (u : Nat) (start : Nat) (mem : List (Nat × List Byte)) (failed : List (Nat × ReadFault)) (ecc : List Nat) (s : State),
    s.nextBuild l u start = none) ∧
    (∃ (l : Leg) (u : Nat) (start : Nat) (mem : List (Nat × List Byte)) (failed : List (Nat × ReadFault)) (ecc : List Nat) (a : Alloc) (s :
    State), s.runs .core = true ∧ s.nextBuild l u start = some a) ∧
    (∃ (l : Leg) (u : Nat) (start : Nat) (finished : Nat) (b : Burst) (s : State), (s.reserved l).find? (fun b => b.alloc.wave == u &&
    b.alloc.start == start) = some b ∧ b.frames.length ≤ finished) ∧
    (∃ (l : Leg) (u : Nat) (start : Nat) (finished : Nat) (b : Burst) (s : State), s.runs .core = true ∧ (s.reserved l).find? (fun b =>
    b.alloc.wave == u && b.alloc.start == start) = some b ∧ s.bursts = [b] ∧ finished < b.frames.length ∧ b.alloc.slot < 128) :=
  ⟨⟨.a, 0, 0, [], [], [], wOn, by decide +kernel⟩,
   ⟨.a, 0, 100, [], [], [], wDat, wOn.upd .a fun g =>
    { g with allocs := [wDat] }, by decide +kernel⟩,
   ⟨.a, 0, 100, 0, wBst 0, { wOn with bursts := [wBst 0] },
    by decide +kernel⟩,
   ⟨.a, 0, 100,
    0, wBst 1, { wOn with bursts := [wBst 1] }, by decide +kernel⟩⟩

theorem witness_TheCounterTicksAndTheLimiterMoves_1 :
    (∃ (s : State), s.runs .time = true) ∧
    (∃ (s : State), s.runs .time = true) ∧
    (∃ (c0 : Nat) (c1 : Nat) (c2 : Nat) (i0 : BitVec 48) (i1 : BitVec 48) (i2 : BitVec 48) (s : State), s.runs .time = true ∧ c1 = c0 ∧ c2 = c0
    ∧ i1 = i0 ∧ i2 = i0) ∧
    (∃ (c0 : Nat) (c1 : Nat) (c2 : Nat) (i0 : BitVec 48) (i1 : BitVec 48) (i2 : BitVec 48) (v : Nat) (s : State), s.runs .time = true ∧ ((c0 =
    v ∧ c1 = v ∧ c2 ≠ v) ∨ (c0 = v ∧ c2 = v ∧ c1 ≠ v) ∨ (c1 = v ∧ c2 = v ∧ c0 ≠ v)) ∧ i1 = i0 ∧ i2 = i0) :=
  ⟨⟨wOn, by decide +kernel⟩,
   ⟨wOn, by decide +kernel⟩,
   ⟨9, 9, 9, 3, 3, 3, wOn, by decide +kernel⟩,
   ⟨9, 9, 8, 0, 0, 0, 9, wOn,
    by decide +kernel⟩⟩

theorem witness_TheCounterTicksAndTheLimiterMoves_2 :
    (∃ (c0 : Nat) (c1 : Nat) (c2 : Nat) (i0 : BitVec 48) (i1 : BitVec 48) (i2 : BitVec 48) (s : State), s.runs .time = true ∧ c0 ≠ c1 ∧ c1 ≠ c2
    ∧ c0 ≠ c2 ∧ i1 = i0 ∧ i2 = i0) ∧
    (∃ (s : State), s.runs .mgmt = true ∧ s.fwPresent = true ∧ s.isOn Reg.TIME_CTL_SERVO_EN = true ∧ s.rd Reg.TIME_QUAL_QUALITY = 3) ∧
    (∃ (th : Int) (s : State), s.runs .mgmt = true ∧ s.fwPresent = true ∧ s.isOn Reg.TIME_CTL_SERVO_EN = true ∧ s.rd Reg.TIME_QUAL_QUALITY = 1
    ∧ (s.leg s.active).theta = some th ∧ (s.rd Reg.TIME_SERVO_CTL_LOCK_Q : Int) * 16384 < th ∧ s.freqNow ≤ s.time.incr) ∧
    (∃ (th : Int) (s : State), s.runs .mgmt = true ∧ s.fwPresent = true ∧ s.isOn Reg.TIME_CTL_SERVO_EN = true ∧ s.rd Reg.TIME_QUAL_QUALITY = 1
    ∧ (s.leg s.active).theta = some th ∧ th < -((s.rd Reg.TIME_SERVO_CTL_LOCK_Q : Int) * 16384) ∧ s.time.incr ≤ s.freqNow) :=
  ⟨⟨7, 9, 8, 0, 0, 0, wOn, by decide +kernel⟩,
   ⟨((wOn.wr Reg.ADM_STATUS_FW_PRESENT 1).wr Reg.TIME_CTL_SERVO_EN 1).wr Reg.TIME_QUAL_QUALITY 3, by decide +kernel⟩,
   ⟨70000000,
    { (((wOn.wr Reg.ADM_STATUS_FW_PRESENT 1).wr Reg.TIME_CTL_SERVO_EN 1).wr Reg.TIME_QUAL_QUALITY 1).upd .a fun g => { g with theta := some 70000000 } with time := { wOn.time with incr := 2 ^ 48 } },
    ⟨by decide +kernel, by decide +kernel, by decide +kernel, by decide +kernel, by decide +kernel, by decide +kernel,
    by exact Nat.le_of_lt (BitVec.isLt _)⟩⟩,
   ⟨-70000000,
    { (((wOn.wr Reg.ADM_STATUS_FW_PRESENT 1).wr Reg.TIME_CTL_SERVO_EN 1).wr Reg.TIME_QUAL_QUALITY 1).upd .a fun g => { g with theta := some (-70000000) } with time := { wOn.time with incr := 0 } },
    ⟨by decide +kernel, by decide +kernel, by decide +kernel, by decide +kernel, by decide +kernel, by decide +kernel, by exact Nat.zero_le _⟩⟩⟩

theorem witness_TheCounterTicksAndTheLimiterMoves_3 :
    (∃ (s : State), s.runs .mgmt = true ∧ s.fwPresent = true ∧ s.isOn Reg.TIME_CTL_SERVO_EN = true ∧ s.rd Reg.TIME_QUAL_QUALITY = 2 ∧ incrMin ≤
    s.time.tgt ∧ s.time.tgt ≤ incrMax) ∧
    (∃ (s : State), (s.fwPresent = false ∨ s.isOn Reg.TIME_CTL_SERVO_EN = false)) :=
  ⟨⟨(((wOn.wr Reg.ADM_STATUS_FW_PRESENT 1).wr Reg.TIME_CTL_SERVO_EN 1).wr Reg.TIME_QUAL_QUALITY 2).upd
    .a fun g => { g with theta := some 5 }, by decide +kernel⟩,
   ⟨wOn, by decide +kernel⟩⟩

theorem witness_QualityHoldoverAndAnnouncements_1 :
    (∃ (s : State), s.runs .mgmt = true ∧ s.fwPresent = true ∧ s.legUsable s.active = true ∧ s.rd Reg.TIME_QUAL_QUALITY = 1 ∧ s.isOn
    Reg.TIME_QUAL_STEP_DONE = true ∧ max 1 (s.rd Reg.TIME_SERVO_CTL_LOCK_SF) ≤ s.time.lockRun) ∧
    (∃ (s : State), s.runs .mgmt = true ∧ s.fwPresent = true ∧ s.legUsable s.active = true ∧ s.rd Reg.TIME_QUAL_QUALITY = 2 ∧ max 1 (s.rd
    Reg.TIME_SERVO_CTL_UNLOCK_SF) ≤ s.time.unlockRun) ∧
    (∃ (s : State), s.fwPresent = false) ∧
    (∃ (s : State), s.time.hoOn = false) :=
  ⟨⟨{ (wUse.wr Reg.TIME_QUAL_QUALITY 1).wr Reg.TIME_QUAL_STEP_DONE 1 with time := { wOn.time with lockRun := 300 } }, by decide +kernel⟩,
   ⟨{ (wUse.wr Reg.TIME_QUAL_QUALITY 2).wr Reg.TIME_QUAL_STEP_DONE 1 with time := { wOn.time with unlockRun := 300 } }, by decide +kernel⟩,
   ⟨wOn, by decide +kernel⟩,
   ⟨wOn, by decide +kernel⟩⟩

theorem witness_QualityHoldoverAndAnnouncements_2 :
    (∃ (s : State), s.runs .time = true ∧ s.time.hoOn = true) ∧
    (∃ (l : Leg) (n : Nat) (s : State), (s.leg l).todRaised = false ∧ (s.leg l).todSince = some n ∧ 8 ≤ n) ∧
    (∃ (l : Leg) (s : State), (s.leg l).todRaised = true) ∧
    (∃ (incrF : BitVec 48) (yref : Int) (y0 : Nat) (s : State), s.fwPresent = true ∧ (s.legUsable .a = true ∨ s.legUsable .b = true)) :=
  ⟨⟨{ wOn with time := { wOn.time with hoOn := true } }, by decide +kernel⟩,
   ⟨.a, 8, wOn.upd .a fun g =>
    { g with todSince := some 8 }, by decide +kernel⟩,
   ⟨.a, wOn.upd .a fun g => { g with todRaised := true }, by decide +kernel⟩,
   ⟨1696777203358, -5, 0, wUse, by decide +kernel⟩⟩

theorem witness_QualityHoldoverAndAnnouncements_3 :
    (∃ (incrF : BitVec 48) (yref : Int) (y0 : Nat) (s : State), s.fwPresent = true ∧ (s.legUsable .a = true ∨ s.legUsable .b = true) ∧
    (40000000 < yref ∨ yref < -40000000)) ∧
    (∃ (incrF : BitVec 48) (yref : Int) (y0 : Nat) (s : State), s.fwPresent = false) :=
  ⟨⟨1696777203358, 40000001, 0, wUse, by decide +kernel⟩,
   ⟨0, 0, 0, wOn, by decide +kernel⟩⟩

theorem witness_DispersionFitsAndLaserConfidence_1 :
    (∃ (l : Leg) (s : State), s.fwPresent = true ∧ s.rd Reg.ACT_STATUS_STATE l.n = 5 ∧ s.isOn Reg.TIME_LEG_TEQ_TEQ_VALID l.n = true ∧
    s.teqShort l = true) ∧
    (∃ (l : Leg) (s : State), s.fwPresent = true ∧ s.rd Reg.ACT_STATUS_STATE l.n = 5 ∧ s.isOn Reg.TIME_LEG_TEQ_TEQ_VALID l.n = true ∧
    s.teqShort l = false ∧ s.windowWhole l (s.fitWindow l) = false) ∧
    (∃ (l : Leg) (s : State), s.fwPresent = true ∧ s.rd Reg.ACT_STATUS_STATE l.n = 5 ∧ s.isOn Reg.TIME_LEG_TEQ_TEQ_VALID l.n = true ∧
    s.teqShort l = false ∧ s.windowWhole l (s.fitWindow l) = true) ∧
    (∃ (l : Leg) (s : State), (s.fwPresent = false ∨ s.rd Reg.ACT_STATUS_STATE l.n ≠ 5 ∨ s.isOn Reg.TIME_LEG_TEQ_TEQ_VALID l.n = false)) :=
  ⟨⟨.a, wUse.wr Reg.ACT_EQD_EQD_GRAINS 5 0, by decide +kernel⟩,
   ⟨.a, wUse.upd .a fun g => { g with lastBad := some 0 },
    by decide +kernel⟩,
   ⟨.a, wUse.upd .a fun g => { g with dts := [(0, 0, 0, 0)] },
    by decide +kernel⟩,
   ⟨.a, wOn, by decide +kernel⟩⟩

theorem witness_DispersionFitsAndLaserConfidence_2 :
    (∃ (l : Leg) (s : State), s.isOn Reg.TIME_LEG_STATUS_LASER_LOW l.n = false) ∧
    (∃ (l : Leg) (s : State), s.isOn Reg.TIME_LEG_STATUS_LASER_LOW l.n = true) ∧
    (∃ (l : Leg) (s : State), s.isOn Reg.TIME_LEG_STATUS_LASER_LOW l.n = true ∧ (s.leg l).telemOut = false) ∧
    (∃ (l : Leg) (s : State), (s.isOn Reg.TIME_LEG_STATUS_LASER_LOW l.n = false ∨ (s.leg l).telemOut = true)) :=
  ⟨⟨.a, wOn, by decide +kernel⟩,
   ⟨.a, wOn.wr Reg.TIME_LEG_STATUS_LASER_LOW 1 0,
    by decide +kernel⟩,
   ⟨.a, wOn.wr
    Reg.TIME_LEG_STATUS_LASER_LOW 1 0, by decide +kernel⟩,
   ⟨.a, wOn, by decide +kernel⟩⟩

theorem witness_SnapshotsAndStagedTimeWrites_1 :
    (∃ (ag : Agent) (s : State), s.reach ag = true ∧ s.time.arm.all (fun a => !a.due) = true) ∧
    (∃ (ag : Agent) (mode : Nat) (s : State), s.reach ag = true ∧ s.isOn Reg.TIME_STATUS_APPLY_PENDING = true) ∧
    (∃ (ag : Agent) (mode : Nat) (s : State), s.reach ag = true ∧ s.isOn Reg.TIME_STATUS_APPLY_PENDING = false ∧ mode % 4 = 0 ∧ 2 ^ 39 < (s.rdA
    ag Reg.TIME_APPLY_AT_LO + 2 ^ 32 * s.rdA ag Reg.TIME_APPLY_AT_HI + 2 ^ 40 - s.nsNow % 2 ^ 40) % 2 ^ 40) ∧
    (∃ (ag : Agent) (mode : Nat) (s : State), s.reach ag = true ∧ s.isOn Reg.TIME_STATUS_APPLY_PENDING = false ∧ mode % 4 ≠ 0 ∧ (s.selRefused
    (s.rdA ag Reg.TIME_STAGE_SEL) = true ∨ (bit (s.rdA ag Reg.TIME_STAGE_SEL) 2 = 1 ∧ bit (s.rdA ag Reg.TIME_STAGE_SEL) 3 = 1) ∨ 1000000000 ≤
    s.rdA ag Reg.TIME_STAGE_NS)) :=
  ⟨⟨.pf, wOn, by decide +kernel⟩,
   ⟨.pf, 0, wOn.wr
    Reg.TIME_STATUS_APPLY_PENDING 1, by decide +kernel⟩,
   ⟨.pf, 0,
    { wOn with time := { wOn.time with now40 := 1000 * 2 ^ 40 } }, by decide +kernel⟩,
   ⟨.pf, 1, (wOn.wr Reg.TIME_STAGE_SEL 1).wr Reg.TIME_CTL_SERVO_EN 1, by decide +kernel⟩⟩

theorem witness_SnapshotsAndStagedTimeWrites_2 :
    (∃ (ag : Agent) (mode : Nat) (s : State), s.reach ag = true ∧ s.isOn Reg.TIME_STATUS_APPLY_PENDING = false ∧ (mode % 4 ≠ 0 ∨ (s.rdA ag
    Reg.TIME_APPLY_AT_LO + 2 ^ 32 * s.rdA ag Reg.TIME_APPLY_AT_HI + 2 ^ 40 - s.nsNow % 2 ^ 40) % 2 ^ 40 ≤ 2 ^ 39) ∧ s.selRefused (s.rdA ag
    Reg.TIME_STAGE_SEL) = false ∧ (bit (s.rdA ag Reg.TIME_STAGE_SEL) 2 = 0 ∨ bit (s.rdA ag Reg.TIME_STAGE_SEL) 3 = 0) ∧ s.rdA ag
    Reg.TIME_STAGE_NS < 1000000000) ∧
    (∃ (ag : Agent) (s : State), s.reach ag = true ∧ s.time.arm.isSome = true) ∧
    (∃ (ag : Agent) (s : State), s.time.arm = none) ∧
    (∃ (ag : Agent) (off : Nat) (v : BitVec 32) (R : Row) (s : State), s.reach ag = true ∧ s.isOn Reg.TIME_STATUS_APPLY_PENDING = false ∧
    stageRow off = some R) :=
  ⟨⟨.pf, 1, wOn.wr Reg.TIME_CTL_SERVO_EN 0, by decide +kernel⟩,
   ⟨.pf,
    { wOn with time := { wOn.time with arm := some { fw := false, pps := false, sel := 1, target := 0 } } }, by decide +kernel⟩,
   ⟨.pf, wOn, by decide +kernel⟩,
   ⟨.pf, 0x48, 5, Reg.TIME_STAGE_NS, wOn, by decide +kernel⟩⟩

theorem witness_SnapshotsAndStagedTimeWrites_3 :
    (∃ (ag : Agent) (off : Nat) (v : BitVec 32) (R : Row) (s : State), s.reach ag = true ∧ s.isOn Reg.TIME_STATUS_APPLY_PENDING = true ∧
    stageRow off = some R) ∧
    (∃ (a : Arm) (s : State), s.runs .time = true ∧ s.time.arm = some a ∧ a.due = true ∧ a.sel % 16 = 1 ∧ s.isOn Reg.TIME_CTL_SERVO_EN = false
    ∧ a.fw = false) ∧
    (∃ (s : State), s.time.arm.all (fun a => !a.due) = true) :=
  ⟨⟨.pf, 0x48, 5, Reg.TIME_STAGE_NS, wOn.wr Reg.TIME_STATUS_APPLY_PENDING 1, by decide +kernel⟩,
   ⟨{ fw := false, pps := false, sel := 1, target := 0, due := true },
    (({ wOn with time := { wOn.time with arm := some { fw := false, pps := false, sel := 1, target := 0, due := true } } } : State).wr
    Reg.TIME_STATUS_APPLY_PENDING 1).wr Reg.TIME_CTL_SERVO_EN 0, by decide +kernel⟩,
   ⟨wOn, by decide +kernel⟩⟩

theorem witness_TimerChannelsArmFireAndStop_1 :
    (∃ (n : Nat) (s : State), s.runs .time = true ∧ n < 16 ∧ s.armRefused n = none ∧ (s.rd2 Reg.TEV_CH_TGT_SEC_LO Reg.TEV_CH_TGT_SEC_HI 0 n *
    1000000000 + s.rd Reg.TEV_CH_TGT_NS 0 n) * 65536 * 2 ^ 24 ≤ s.time.now40 + 2 ^ 79 ∧ seqMode (s.chMode n) = false ∧ s.ns16 + ticks16 ≤
    (s.rd2 Reg.TEV_CH_TGT_SEC_LO Reg.TEV_CH_TGT_SEC_HI 0 n * 1000000000 + s.rd Reg.TEV_CH_TGT_NS 0 n) * 65536) ∧
    (∃ (n : Nat) (s : State), s.runs .time = true ∧ n < 16 ∧ s.armRefused n = none ∧ (s.rd2 Reg.TEV_CH_TGT_SEC_LO Reg.TEV_CH_TGT_SEC_HI 0 n *
    1000000000 + s.rd Reg.TEV_CH_TGT_NS 0 n) * 65536 * 2 ^ 24 ≤ s.time.now40 + 2 ^ 79 ∧ seqMode (s.chMode n) = false ∧ (s.rd2
    Reg.TEV_CH_TGT_SEC_LO Reg.TEV_CH_TGT_SEC_HI 0 n * 1000000000 + s.rd Reg.TEV_CH_TGT_NS 0 n) * 65536 < s.ns16 + ticks16) ∧
    (∃ (n : Nat) (st : Nat) (s : State), s.runs .time = true ∧ n < 16 ∧ s.armRefused n = some st) ∧
    (∃ (n : Nat) (s : State), s.runs .time = true ∧ s.time.arm.all (fun a => !a.due) = true ∧ n < 16 ∧ s.chState n ≠ 0 ∧ (s.ch n).stopping =
    false ∧ s.chDue n = true ∧ (s.ch n).pulse = false ∧ s.chMode n = 0) :=
  ⟨⟨3, wOn.wr Reg.TEV_CH_TGT_NS
    50000 0 3, by decide +kernel⟩,
   ⟨3, wOn,
    by decide +kernel⟩,
   ⟨3, 2, wOn.wr Reg.TEV_CH_TGT_NS 1000000000
    0 3, by decide +kernel⟩,
   ⟨2, wOn.wr Reg.TEV_CH_STATUS_STATE 1 0 2, by decide +kernel⟩⟩

theorem witness_TimerChannelsArmFireAndStop_2 :
    (∃ (n : Nat) (s : State), s.runs .time = true ∧ s.time.arm.all (fun a => !a.due) = true ∧ n < 16 ∧ s.chState n ≠ 0 ∧ (s.ch n).stopping =
    false ∧ s.chDue n = true ∧ (s.ch n).pulse = false ∧ s.chMode n = 1) ∧
    (∃ (n : Nat) (s : State), s.runs .time = true ∧ s.time.arm.all (fun a => !a.due) = true ∧ n < 16 ∧ s.chState n ≠ 0 ∧ (s.ch n).stopping =
    false ∧ s.chDue n = true ∧ (s.ch n).pulse = false ∧ s.chMode n = 1 ∧ n < 8 ∧ s.tevSquelched n = false) ∧
    (∃ (n : Nat) (s : State), s.runs .time = true ∧ s.time.arm.all (fun a => !a.due) = true ∧ n < 16 ∧ s.chState n ≠ 0 ∧ (s.ch n).stopping =
    false ∧ s.chDue n = true ∧ (s.ch n).pulse = false ∧ s.chMode n = 4) ∧
    (∃ (n : Nat) (s : State), s.runs .time = true ∧ s.time.arm.all (fun a => !a.due) = true ∧ n < 16 ∧ s.chState n ≠ 0 ∧ (s.ch n).stopping =
    false ∧ s.chDue n = true ∧ (s.ch n).pulse = false ∧ seqMode (s.chMode n) = true ∧ s.chSpent n (s.ch n).k = false) :=
  ⟨⟨2, (wOn.wr Reg.TEV_CH_STATUS_STATE 1 0 2).wr Reg.TEV_CH_CTL_MODE 1
    0 2, by decide +kernel⟩,
   ⟨2, (wOn.wr
    Reg.TEV_CH_STATUS_STATE 1 0 2).wr Reg.TEV_CH_CTL_MODE 1 0 2, by decide +kernel⟩,
   ⟨2, (wOn.wr Reg.TEV_CH_STATUS_STATE 1 0 2).wr Reg.TEV_CH_CTL_MODE 4
    0 2, by decide +kernel⟩,
   ⟨2, (wOn.wr
    Reg.TEV_CH_STATUS_STATE 1 0 2).wr Reg.TEV_CH_CTL_MODE 2 0 2, by decide +kernel⟩⟩

theorem witness_TimerChannelsArmFireAndStop_3 :
    (∃ (n : Nat) (s : State), s.time.arm.all (fun a => !a.due) = true ∧ (s.chState n = 0 ∨ s.chDue n = false)) ∧
    (∃ (n : Nat) (s : State), (s.ch n).pulse = true ∧ s.run16 < (s.ch n).endAt) ∧
    (∃ (n : Nat) (s : State), s.runs .time = true ∧ n < 16 ∧ (s.ch n).pulse = true ∧ (s.ch n).endAt ≤ s.run16 ∧ seqMode (s.chMode n) = false) ∧
    (∃ (n : Nat) (s : State), s.runs .time = true ∧ n < 16 ∧ (s.ch n).pulse = true ∧ (s.ch n).endAt ≤ s.run16 ∧ seqMode (s.chMode n) = true ∧
    (s.ch n).rebase = 0 ∧ (s.ch n).stopping = false ∧ s.chSpent n (s.ch n).k = false) :=
  ⟨⟨0, wOn, by decide +kernel⟩,
   ⟨2, wOn.setCh 2 fun c =>
    { c with pulse := true, endAt := 5 }, by decide +kernel⟩,
   ⟨2, wOn.setCh 2 fun c => { c with pulse := true }, by decide +kernel⟩,
   ⟨2, (wOn.setCh 2 fun c => { c with pulse := true }).wr
    Reg.TEV_CH_CTL_MODE 2 0 2, by decide +kernel⟩⟩

theorem witness_TimerChannelsArmFireAndStop_4 :
    (∃ (n : Nat) (s : State), (s.ch n).pulse = false ∧ (s.ch n).stopping = false) ∧
    (∃ (n : Nat) (s : State), s.runs .time = true ∧ n < 16 ∧ s.chRuns n = false) ∧
    (∃ (n : Nat) (s : State), s.runs .time = true ∧ n < 16 ∧ s.chState n ≠ 0 ∧ s.chRuns n = true) ∧
    (∃ (n : Nat) (off : Nat) (v : BitVec 32) (s : State), s.runs .time = true ∧ n < 16 ∧ off = 16 ∧ s.chState n = 0) :=
  ⟨⟨0, wOn, by decide +kernel⟩,
   ⟨2, wOn.wr Reg.TEV_CH_STATUS_STATE 1 0 2,
    by decide +kernel⟩,
   ⟨2, (wOn.setCh 2 fun c =>
    { c with pulse := true }).wr Reg.TEV_CH_STATUS_STATE 2 0 2, by decide +kernel⟩,
   ⟨2, 16, 77, wOn,
    by decide +kernel⟩⟩

theorem witness_TimerChannelsArmFireAndStop_5 : (∃ (n : Nat) (off : Nat) (v : BitVec 32) (s : State), s.runs .time = true ∧ n < 16 ∧ off = 0 ∧ s.chState n ≠ 0 ∧ bits v.toNat 6 4 ≠
    s.chMode n) :=
  ⟨2, 0, 0x10, wOn.wr Reg.TEV_CH_STATUS_STATE 1 0 2, by decide +kernel⟩

theorem witness_PulsesCapturesAndPtm_1 :
    (∃ (s : State), s.runs .time = true ∧ s.time.rolled = true ∧ s.isOn Reg.TEV_PPS_CTL_EN = true ∧ s.ppsSquelched = false ∧ s.tev.pps = false) ∧
    (∃ (s : State), (s.time.rolled = false ∨ s.isOn Reg.TEV_PPS_CTL_EN = false ∨ s.ppsSquelched = true)) ∧
    (∃ (s : State), s.runs .time = true ∧ s.tev.pps = true ∧ s.tev.ppsEnd ≤ s.run16) ∧
    (∃ (s : State), (s.tev.pps = false ∨ s.run16 < s.tev.ppsEnd)) :=
  ⟨⟨({ wOn with time := { wOn.time with rolled := true } } : State).wr Reg.TEV_PPS_CTL_EN 1, by decide +kernel⟩,
   ⟨wOn, by decide +kernel⟩,
   ⟨{ wOn with tev := { wOn.tev with pps := true } },
    by decide +kernel⟩,
   ⟨wOn, by decide +kernel⟩⟩

theorem witness_PulsesCapturesAndPtm_2 :
    (∃ (i : Nat) (rising : Bool) (widthPs : Nat) (wide : Bool) (fine : Nat) (s : State), s.runs .time = true ∧ s.time.arm.all (fun a => !a.due)
    = true ∧ i < 8 ∧ s.rd Reg.TEV_TCAP_STATUS_PIN 0 i ≠ b2n rising ∧ s.isOn Reg.TEV_TCAP_CTL_EN 0 i = true ∧ 2200 < widthPs ∧ bit (s.rd
    Reg.TEV_TCAP_CTL_EDGE 0 i) (if rising then 0 else 1) = 1 ∧ (s.cap i).fifo.length < 64) ∧
    (∃ (i : Nat) (rising : Bool) (widthPs : Nat) (wide : Bool) (fine : Nat) (s : State), s.runs .time = true ∧ s.time.arm.all (fun a => !a.due)
    = true ∧ i < 8 ∧ s.rd Reg.TEV_TCAP_STATUS_PIN 0 i ≠ b2n rising ∧ s.isOn Reg.TEV_TCAP_CTL_EN 0 i = true ∧ 2200 < widthPs ∧ bit (s.rd
    Reg.TEV_TCAP_CTL_EDGE 0 i) (if rising then 0 else 1) = 1 ∧ 64 ≤ (s.cap i).fifo.length) ∧
    (∃ (i : Nat) (rising : Bool) (widthPs : Nat) (wide : Bool) (fine : Nat) (s : State), s.runs .time = true ∧ s.time.arm.all (fun a => !a.due)
    = true ∧ i < 8 ∧ s.rd Reg.TEV_TCAP_STATUS_PIN 0 i ≠ b2n rising ∧ s.isOn Reg.TEV_TCAP_CTL_EN 0 i = true ∧ widthPs < 2000) ∧
    (∃ (i : Nat) (s : State), s.runs .time = true ∧ i < 8) :=
  ⟨⟨7, true, 3000, false, 0, (wOn.wr
    Reg.TEV_TCAP_CTL_EN 1 0 7).wr Reg.TEV_TCAP_CTL_EDGE 3 0 7, by decide +kernel⟩,
   ⟨7, true, 3000, false, 0, ((wOn.wr
    Reg.TEV_TCAP_CTL_EN 1 0 7).wr Reg.TEV_TCAP_CTL_EDGE 3 0 7).setCap 7 fun c => { c with fifo := List.replicate 64 [] }, by decide +kernel⟩,
   ⟨7, true, 0,
    false, 0, (wOn.wr Reg.TEV_TCAP_CTL_EN 1 0 7).wr Reg.TEV_TCAP_CTL_EDGE 3 0 7, by decide +kernel⟩,
   ⟨7, ((wOn.wr Reg.TEV_TCAP_CTL_EN 1 0 7).wr Reg.TEV_TCAP_CTL_EDGE 3 0 7).setCap 7
    fun c => { c with fifo := [[1, 2, 3, 4, 5]] }, by decide +kernel⟩⟩

theorem witness_PulsesCapturesAndPtm_3 :
    (∃ (s : State), s.runs .time = true ∧ s.isOn Reg.TEV_PTM_CTL_AUTO = true ∧ s.tev.ptmOn = true ∧ s.isOn Reg.TEV_PTM_STATUS_BUSY = false ∧
    s.ptmDue = true ∧ s.linkOk = true) ∧
    (∃ (s : State), s.runs .time = true ∧ s.tev.ptmOn = true ∧ s.isOn Reg.TEV_PTM_STATUS_BUSY = false ∧ s.linkOk = true) ∧
    (∃ (s : State), s.runs .time = true ∧ s.tev.ptmOn = false) ∧
    (∃ (s : State), s.runs .time = true ∧ s.tev.ptmOn = true ∧ s.isOn Reg.TEV_PTM_STATUS_BUSY = true) :=
  ⟨⟨({ wLink with tev := { wOn.tev with ptmOn := true } } : State).wr Reg.TEV_PTM_CTL_AUTO 1,
    by decide +kernel⟩,
   ⟨{ wLink with tev := { wOn.tev with ptmOn := true } }, by decide +kernel⟩,
   ⟨wOn, by decide +kernel⟩,
   ⟨({ wLink with tev := { wOn.tev with ptmOn := true } } : State).wr Reg.TEV_PTM_STATUS_BUSY 1, by decide +kernel⟩⟩

theorem witness_PulsesCapturesAndPtm_4 :
    (∃ (master : BitVec 64) (pdelay : BitVec 32) (s : State), s.runs .time = true ∧ s.isOn Reg.TEV_PTM_STATUS_BUSY = true) ∧
    (∃ (s : State), s.runs .time = true ∧ s.isOn Reg.TEV_PTM_STATUS_BUSY = true) :=
  ⟨⟨0, 0, wOn.wr
    Reg.TEV_PTM_STATUS_BUSY 1, by decide +kernel⟩,
   ⟨wOn.wr Reg.TEV_PTM_STATUS_BUSY 1, by decide +kernel⟩⟩

theorem witness_DoorbellsAreTakenOrDiscarded_1 :
    (∃ (f : Nat) (kind : RingKind) (k : Nat) (v : BitVec 64) (width : Nat) (hi : Bool) (ring : Nat) (s : State), kind = .tx ∧ ring < 8192 ∧
    s.runs .pcie = true ∧ s.cfg f Cfg.d3hot = 0 ∧ s.globalIdx kind f k = some ring ∧ s.ringOwner kind ring = f ∧ s.isOn (ringRows kind).en 0
    ring = true ∧ s.ringErr kind ring = false ∧ hi = false ∧ (width = 32 ∨ width = 64) ∧ s.dbFits kind ring (v.toNat % 65536) = true) ∧
    (∃ (f : Nat) (kind : RingKind) (k : Nat) (v : BitVec 64) (width : Nat) (hi : Bool) (ring : Nat) (s : State), kind = .rx ∧ ring < 4096 ∧
    s.runs .pcie = true ∧ s.cfg f Cfg.d3hot = 0 ∧ s.globalIdx kind f k = some ring ∧ s.ringOwner kind ring = f ∧ s.isOn (ringRows kind).en 0
    ring = true ∧ s.ringErr kind ring = false ∧ hi = false ∧ (width = 32 ∨ width = 64) ∧ s.dbFits kind ring (v.toNat % 65536) = true) ∧
    (∃ (f : Nat) (kind : RingKind) (k : Nat) (v : BitVec 64) (width : Nat) (hi : Bool) (ring : Nat) (s : State), kind = .asq ∧ ring = 0 ∧
    s.runs .pcie = true ∧ s.cfg f Cfg.d3hot = 0 ∧ s.globalIdx kind f k = some ring ∧ s.ringOwner kind ring = f ∧ s.isOn (ringRows kind).en 0
    ring = true ∧ s.ringErr kind ring = false ∧ hi = false ∧ (width = 32 ∨ width = 64) ∧ s.dbFits kind ring (v.toNat % 65536) = true) ∧
    (∃ (f : Nat) (kind : RingKind) (k : Nat) (v : BitVec 64) (width : Nat) (hi : Bool) (ring : Nat) (s : State), (kind = .cq ∨ kind = .eq ∨
    kind = .acq) ∧ ring < (ringRows kind).cons.n ∧ s.runs .pcie = true ∧ s.cfg f Cfg.d3hot = 0 ∧ s.globalIdx kind f k = some ring ∧ s.ringOwner
    kind ring = f ∧ s.isOn (ringRows kind).en 0 ring = true ∧ s.ringErr kind ring = false ∧ hi = false ∧ (width = 32 ∨ width = 64) ∧ s.dbFits
    kind ring (v.toNat % 65536) = true) :=
  ⟨⟨0,
    .tx, 70, 3, 32, false, 70, wOn.wr Reg.HIF_TX_CTL_EN 1 0 70, by decide +kernel⟩,
   ⟨0,
    .rx, 70, 3, 64, false, 70, wOn.wr Reg.HIF_RX_CTL_EN 1 0 70, by decide +kernel⟩,
   ⟨0,
    .asq, 0, 3, 32, false, 0, wOn.wr Reg.ADM_SQ_CTL_SQ_EN 1, by decide +kernel⟩,
   ⟨0, .cq, 70, 3, 32, false, 70, (wOn.wr Reg.HIF_CQ_CTL_EN 1 0 70).wr Reg.HIF_CQ_IDX_PROD 5 0 70,
    by decide +kernel⟩⟩

theorem witness_DoorbellsAreTakenOrDiscarded_2 :
    (∃ (f : Nat) (kind : RingKind) (k : Nat) (v : BitVec 64) (width : Nat) (hi : Bool) (s : State), s.runs .pcie = true ∧ s.cfg f Cfg.d3hot = 0
    ∧ (hi && width == 32) = false ∧ ((s.globalIdx kind f k).all (fun ring => !decide (s.ringOwner kind ring = f ∧ s.isOn (ringRows kind).en 0
    ring = true ∧ s.ringErr kind ring = false ∧ hi = false ∧ (width = 32 ∨ width = 64) ∧ s.dbFits kind ring (v.toNat % 65536) = true)) = true)) ∧
    (∃ (f : Nat) (kind : RingKind) (k : Nat) (v : BitVec 64) (width : Nat) (hi : Bool) (ring : Nat) (s : State), s.runs .pcie = true ∧ s.cfg f
    Cfg.d3hot = 0 ∧ s.globalIdx kind f k = some ring ∧ (hi && width == 32) = false ∧ s.dbFits kind ring (v.toNat % 65536) = false) ∧
    (∃ (f : Nat) (kind : RingKind) (k : Nat) (v : BitVec 64) (width : Nat) (hi : Bool) (s : State), s.runs .pcie = true ∧ s.cfg f Cfg.d3hot = 0
    ∧ hi = true ∧ width = 32) ∧
    (∃ (f : Nat) (kind : RingKind) (k : Nat) (v : BitVec 64) (width : Nat) (hi : Bool) (s : State), s.runs .pcie = false) :=
  ⟨⟨0, .tx, 70, 0x3000, 32, false, wOn.wr Reg.HIF_TX_CTL_EN 1 0 70, by decide +kernel⟩,
   ⟨0, .tx,
    70, 0x3000, 32, false, 70, wOn.wr Reg.HIF_TX_CTL_EN 1 0 70, by decide +kernel⟩,
   ⟨0, .tx, 0, 0, 32, true, wOn, by decide +kernel⟩,
   ⟨0, .tx, 0, 0, 0,
    false, wOn.wr Reg.PWR_STATUS_STATE 4, by decide +kernel⟩⟩

theorem witness_RingEntriesAreFetched_1 :
    (∃ (kind : RingKind) (ring : Nat) (data : Option (List Byte)) (s : State), s.fetchNext kind ring = none) ∧
    (∃ (kind : RingKind) (ring : Nat) (data : Option (List Byte)) (i : Nat) (n : Nat) (s : State), s.runs .core = true ∧ s.fetchNext kind ring
    = some (i, n) ∧ s.canRead (s.ringOwner kind ring) n = true ∧ data = none) ∧
    (∃ (kind : RingKind) (ring : Nat) (data : Option (List Byte)) (i : Nat) (b : List Byte) (s : State), s.runs .core = true ∧ kind = .rx ∧
    ring < 4096 ∧ s.fetchNext kind ring = some (i, 16) ∧ s.canRead (s.ringOwner kind ring) 16 = true ∧ data = some b ∧ 64 ≤ leNat (slice b 8 2)
    % 16384 ∧ leNat (slice b 8 2) < 16384 ∧ leNat (slice b 10 6) = 0 ∧ s.isOn Reg.HIF_RX_CTL_LA 0 ring = false) ∧
    (∃ (kind : RingKind) (ring : Nat) (data : Option (List Byte)) (i : Nat) (b : List Byte) (s : State), s.runs .core = true ∧ kind = .tx ∧
    ring < 8192 ∧ s.fetchNext kind ring = some (i, 32) ∧ s.canRead (s.ringOwner kind ring) 32 = true ∧ data = some b) :=
  ⟨⟨.tx, 0, none, wOn,
    by decide +kernel⟩,
   ⟨.rx, 3, none, 0, 16, wRxp, by decide +kernel⟩,
   ⟨.rx, 3, some (leBytes 8
    4096 ++ leBytes 2 128 ++ zeros 6), 0, leBytes 8 4096 ++ leBytes 2 128 ++ zeros 6, wRxp, by decide +kernel⟩,
   ⟨.tx, 70, some (zeros
    32), 0, zeros 32, ((wLink.wr Reg.HIF_TX_CTL_EN 1 0 70).wr Reg.HIF_TX_IDX_PROD 1 0 70), by decide +kernel⟩⟩

theorem witness_RingEntriesAreFetched_2 :
    (∃ (tag : Nat) (mine : Bool) (bytes : List Byte) (lenOk : Bool) (good : Bool) (s : State), s.runs .pcie = true ∧ (s.host.reads.find? (fun r
    => r.tag == tag) = none ∨ mine = false)) ∧
    (∃ (tag : Nat) (mine : Bool) (bytes : List Byte) (lenOk : Bool) (good : Bool) (r : Read) (s : State), s.runs .pcie = true ∧
    s.host.reads.find? (fun r => r.tag == tag) = some r ∧ mine = true ∧ lenOk = true ∧ good = true ∧ r.kind = 1 ∧ r.ring < 4096 ∧ s.isOn
    Reg.HIF_RX_CTL_LA 0 r.ring = true) ∧
    (∃ (tag : Nat) (mine : Bool) (bytes : List Byte) (lenOk : Bool) (good : Bool) (r : Read) (s : State), s.runs .pcie = true ∧
    s.host.reads.find? (fun r => r.tag == tag) = some r ∧ mine = true ∧ lenOk = true ∧ good = false ∧ r.kind = 1 ∧ r.ring < 4096) ∧
    (∃ (tag : Nat) (r : Read) (s : State), s.runs .pcie = true ∧ s.host.reads.find? (fun r => r.tag == tag) = some r ∧ r.kind = 0 ∧ r.ring <
    8192) :=
  ⟨⟨0, false, [], false, false, wOn, by decide +kernel⟩,
   ⟨9, true, [], true, true, ⟨9, 1, 3, 0, 64, 0⟩,
    ({ wOn with host := { wOn.host with reads := [⟨9, 1, 3, 0, 64, 0⟩] } } : State).wr Reg.HIF_RX_CTL_LA 1 0 3, by decide +kernel⟩,
   ⟨9, true,
    [], true, false, ⟨9, 1, 3, 0, 64, 0⟩, { wOn with host := { wOn.host with reads := [⟨9, 1, 3, 0, 64, 0⟩] } }, by decide +kernel⟩,
   ⟨9, ⟨9, 0, 3, 0, 64, 0⟩, { wOn with host := { wOn.host with reads := [⟨9, 0, 3, 0, 64, 0⟩] } }, by decide +kernel⟩⟩

theorem witness_RingEntriesAreFetched_3 : (∃ (tag : Nat) (s : State), s.host.reads.find? (fun r => r.tag == tag) = none) :=
  ⟨0, wOn, by decide +kernel⟩

theorem witness_RingsStartStopAndFlush_1 :
    (∃ (ag : Agent) (kind : RingKind) (ring : Nat) (v : BitVec 32) (s : State), s.path ag = true ∧ s.mayRing ag kind ring = true ∧ s.isOn
    (ringRows kind).en 0 ring = false ∧ ring < (ringRows kind).en.n ∧ s.ctlChanges ag kind ring (v.toNat / 512 * 512 + 256 + v.toNat % 256) =
    false ∧ (kind ≠ .acq ∨ s.rd Reg.ADM_CQ_CTL_VEC = bits v.toNat 22 16) ∧ s.startRefused kind ring = false) ∧
    (∃ (ag : Agent) (kind : RingKind) (ring : Nat) (v : BitVec 32) (e : Row) (c : Row) (s : State), s.path ag = true ∧ s.mayRing ag kind ring =
    true ∧ s.isOn (ringRows kind).en 0 ring = false ∧ ring < (ringRows kind).en.n ∧ s.ctlChanges ag kind ring (v.toNat / 512 * 512 + 256 +
    v.toNat % 256) = false ∧ kind ≠ .acq ∧ (ringRows kind).err = some (e, c) ∧ s.startRefused kind ring = true) ∧
    (∃ (ag : Agent) (kind : RingKind) (ring : Nat) (v : BitVec 32) (s : State), s.path ag = true ∧ s.mayRing ag kind ring = true ∧ s.isOn
    (ringRows kind).en 0 ring = true ∧ s.ctlChanges ag kind ring (v.toNat / 512 * 512 + 256 + v.toNat % 256) = true) ∧
    (∃ (ag : Agent) (kind : RingKind) (ring : Nat) (v : BitVec 32) (s : State), ag = .bmc) :=
  ⟨⟨.pf, .rx, 3, 262, wOn.wr
    Reg.HIF_CQ_CTL_EN 1 0 0, by decide +kernel⟩,
   ⟨.pf, .cq, 3, 262,
    Reg.HIF_CQ_CTL_ERR, Reg.HIF_CQ_CTL_ERRCODE, wOn.wr Reg.HIF_CQ_BASE_LO 1 0 3, by decide +kernel⟩,
   ⟨.pf, .cq, 3, 263,
    wOn.wr Reg.HIF_CQ_CTL_EN 1 0 3, by decide +kernel⟩,
   ⟨.bmc, .rx, 0, 0, wOn, by decide +kernel⟩⟩

theorem witness_RingsStartStopAndFlush_2 :
    (∃ (ag : Agent) (kind : RingKind) (ring : Nat) (v : BitVec 32) (s : State), s.path ag = true ∧ s.mayRing ag kind ring = true ∧ s.isOn
    (ringRows kind).en 0 ring = true ∧ s.ctlChanges ag kind ring (v.toNat / 512 * 512 + v.toNat % 256) = false ∧ kind = .rx ∧ ring < 4096) ∧
    (∃ (ag : Agent) (kind : RingKind) (ring : Nat) (v : BitVec 32) (s : State), s.path ag = true ∧ s.mayRing ag kind ring = true ∧ s.isOn
    (ringRows kind).en 0 ring = true ∧ s.ctlChanges ag kind ring (v.toNat / 512 * 512 + v.toNat % 256) = false ∧ (kind = .eq ∨ kind = .asq) ∧
    ring < (ringRows kind).en.n) ∧
    (∃ (ag : Agent) (kind : RingKind) (ring : Nat) (v : BitVec 32) (s : State), s.path ag = true ∧ s.mayRing ag kind ring = true ∧ s.isOn
    (ringRows kind).en 0 ring = true ∧ s.ctlChanges ag kind ring (v.toNat / 512 * 512 + v.toNat % 256) = false ∧ kind = .cq ∧ ring < 1024 ∧
    s.cqNamed ring = false) ∧
    (∃ (ag : Agent) (kind : RingKind) (ring : Nat) (v : BitVec 32) (s : State), s.path ag = true ∧ s.mayRing ag kind ring = true ∧ s.isOn
    (ringRows kind).en 0 ring = true ∧ s.ctlChanges ag kind ring (v.toNat / 512 * 512 + v.toNat % 256) = false ∧ kind = .cq ∧ ring < 1024 ∧
    s.cqNamed ring = true) :=
  ⟨⟨.pf, .rx, 3, 6, (wOn.wr Reg.HIF_RX_CTL_EN 1 0 3).wr Reg.HIF_RX_CTL_SIZE 6 0 3, by decide +kernel⟩,
   ⟨.pf, .asq, 0, 6, (wOn.wr Reg.ADM_SQ_CTL_SQ_EN 1).wr Reg.ADM_SQ_CTL_SQ_SIZE 6, by decide +kernel⟩,
   ⟨.pf, .cq, 3, 6, wOn.wr Reg.HIF_CQ_CTL_EN 1 0 3, by decide +kernel⟩,
   ⟨.pf, .cq, 3, 6, ((wOn.wr Reg.HIF_CQ_CTL_EN 1 0 3).wr Reg.HIF_RX_CTL_EN 1 0 5).wr Reg.HIF_RX_CQ 3 0 5,
    by decide +kernel⟩⟩

theorem witness_RingsStartStopAndFlush_3 :
    (∃ (ag : Agent) (kind : RingKind) (ring : Nat) (v : BitVec 32) (s : State), s.path ag = true ∧ s.mayRing ag kind ring = true ∧ s.isOn
    (ringRows kind).en 0 ring = true ∧ s.ctlChanges ag kind ring (v.toNat / 512 * 512 + v.toNat % 256) = true) ∧
    (∃ (ag : Agent) (kind : RingKind) (ring : Nat) (v : BitVec 32) (s : State), ag = .bmc) ∧
    (∃ (ag : Agent) (q : Nat) (s : State), s.path ag = true ∧ (ag = .pf ∨ ag.isFw = true ∨ ag = .vf (s.txOwner q)) ∧ q < 8192 ∧ s.isOn
    Reg.HIF_TX_CTL_EN 0 q = true ∧ s.isOn Reg.HIF_TX_CTL_FLUSH_BUSY 0 q = false) ∧
    (∃ (ag : Agent) (q : Nat) (s : State), s.isOn Reg.HIF_TX_CTL_EN 0 q = false) :=
  ⟨⟨.pf, .cq, 3, 7, wOn.wr
    Reg.HIF_CQ_CTL_EN 1 0 3, by decide +kernel⟩,
   ⟨.bmc, .rx, 0, 0, wOn, by decide +kernel⟩,
   ⟨.pf, 70, wOn.wr Reg.HIF_TX_CTL_EN 1 0 70,
    by decide +kernel⟩,
   ⟨.pf, 0, wOn, by decide +kernel⟩⟩

theorem witness_RingsStartStopAndFlush_4 :
    (∃ (q : Nat) (s : State), s.runs .core = true ∧ q < 8192 ∧ (s.txq q).flushTo = some (s.txq q).fetchIdx ∧ (s.txq q).part = []) ∧
    (∃ (q : Nat) (s : State), (s.txq q).flushTo = none) :=
  ⟨⟨70,
    (wOn.wr Reg.HIF_TX_CTL_FLUSH_BUSY 1 0 70).setTxq 70 fun x => { x with flushTo := some 0 }, by decide +kernel⟩,
   ⟨0, wOn, by decide +kernel⟩⟩

theorem witness_CompletionsInterruptsAndLogs_1 :
    (∃ (cq : Nat) (e : Cpl) (rest : List Cpl) (s : State), s.runs .pcie = true ∧ cq < 1024 ∧ (s.cq cq).waiting = e :: rest ∧ s.isOn
    Reg.HIF_CQ_CTL_EN 0 cq = true ∧ s.canDma (s.rd Reg.HIF_CQ_CTL_OWNER 0 cq) = true ∧ s.cqFull cq = false) ∧
    (∃ (cq : Nat) (s : State), s.runs .pcie = true ∧ cq < 1024 ∧ s.cqFull cq = true ∧ s.isOn Reg.HIF_CQ_CTL_EN 0 cq = true ∧ s.canDma (s.rd
    Reg.HIF_CQ_CTL_OWNER 0 cq) = true ∧ (s.cq cq).waiting ≠ []) ∧
    (∃ (cq : Nat) (s : State), (s.cq cq).waiting = []) ∧
    (∃ (kind : RingKind) (ring : Nat) (s : State), s.runs .pcie = true ∧ kind = .cq ∧ s.isOn Reg.HIF_CQ_INT_INT_EN 0 ring = true ∧ s.rd
    Reg.HIF_CQ_INT_MOD_US 0 ring ≠ 0 ∧ (s.cq ring).unsig ≠ 0) :=
  ⟨⟨3, { body := zeros 32 }, [],
    (wLink.wr Reg.HIF_CQ_CTL_EN 1 0 3).setCq 3 fun r => { r with waiting := [{ body := zeros 32 }] }, by decide +kernel⟩,
   ⟨3, ((wLink.wr Reg.HIF_CQ_CTL_EN 1 0 3).wr Reg.HIF_CQ_IDX_PROD 64 0 3).setCq
    3 fun r => { r with waiting := [{ body := zeros 32 }] }, by decide +kernel⟩,
   ⟨0, wOn, by decide +kernel⟩,
   ⟨.cq, 3, ((wOn.wr Reg.HIF_CQ_INT_INT_EN 1 0 3).wr Reg.HIF_CQ_INT_MOD_US 1 0
    3).setCq 3 fun r => { r with unsig := 1 }, by decide +kernel⟩⟩

theorem witness_CompletionsInterruptsAndLogs_2 :
    (∃ (kind : RingKind) (ring : Nat) (s : State), s.runs .pcie = true ∧ kind = .eq ∧ s.isOn Reg.HIF_EQ_INT_INT_EN 0 ring = true ∧ s.rd
    Reg.HIF_EQ_INT_MOD_US 0 ring ≠ 0 ∧ (s.eq ring).unsig ≠ 0) ∧
    (∃ (kind : RingKind) (ring : Nat) (s : State), s.runs .pcie = true ∧ kind = .cq ∧ s.isOn Reg.HIF_CQ_INT_INT_EN 0 ring = true ∧ s.rd
    Reg.HIF_CQ_INT_MOD_US 0 ring ≠ 0 ∧ (s.cq ring).unsig ≠ 0 ∧ s.msixCan (s.rd Reg.HIF_CQ_CTL_OWNER 0 ring) (s.rd Reg.HIF_CQ_INT_VEC 0 ring) =
    true ∧ s.msixMasked (s.rd Reg.HIF_CQ_CTL_OWNER 0 ring) (s.rd Reg.HIF_CQ_INT_VEC 0 ring) = true) ∧
    (∃ (ag : Agent) (addr : Nat) (v : BitVec 32) (vec : Nat) (s : State), s.runs .pcie = true ∧ s.cfg 0 Cfg.d3hot = 0 ∧ ag = .pf ∧ vec < 128 ∧
    addr = 0x41C00C + 16 * vec ∧ v = 1) ∧
    (∃ (ag : Agent) (addr : Nat) (v : BitVec 32) (vec : Nat) (s : State), s.runs .pcie = true ∧ s.cfg 0 Cfg.d3hot = 0 ∧ ag = .pf ∧ vec < 128 ∧
    addr = 0x41C00C + 16 * vec ∧ v = 0 ∧ Tab.get 0 vec s.msi.pend ≠ 0 ∧ s.msixCan 0 vec = true ∧ s.cfg 0 Cfg.fnMask = 0) :=
  ⟨⟨.eq, 3, ((wOn.wr Reg.HIF_EQ_INT_INT_EN 1 0 3).wr Reg.HIF_EQ_INT_MOD_US 1 0
    3).setEq 3 fun r => { r with unsig := 1 }, by decide +kernel⟩,
   ⟨.cq, 3,
    { ((wLink.wr Reg.HIF_CQ_INT_INT_EN 1 0 3).wr Reg.HIF_CQ_INT_MOD_US 1 0 3).setCq 3 (fun r => { r with unsig := 1 }) with host := { wLink.host with msixEn := [(0, 1)], cqs := [(3, { unsig := 1 })] } },
    by decide +kernel⟩,
   ⟨.pf, 0x41C7FC, 1, 127, wOn, by decide +kernel⟩,
   ⟨.pf, 0x41C02C, 0,
    2, { wLink with host := { wLink.host with msixEn := [(0, 1)] }, msi := { tab := [(8, 0xFEE00000), (10, 7)], pend := [(2, 1)] } },
    by decide +kernel⟩⟩

theorem witness_CompletionsInterruptsAndLogs_3 :
    (∃ (ag : Agent) (v : BitVec 32) (e : Nat × List Byte) (s : State), s.reach ag = true ∧ (s.cq (bits v.toNat 9 0)).last16.find? (fun e => e.1
    == bits v.toNat 31 16) = some e) ∧
    (∃ (ag : Agent) (v : BitVec 32) (s : State), s.reach ag = true ∧ (s.cq (bits v.toNat 9 0)).last16.find? (fun e => e.1 == bits v.toNat 31
    16) = none) ∧
    (∃ (s : State), ∀ p ∈ s.hifEqs, p.2 = false) ∧
    (∃ (s : State), s.runs .pcie = true) :=
  ⟨⟨.pf, 3, (0, zeros 32), wOn.setCq 3 fun r => { r with last16 := [(0, zeros 32)] }, by decide +kernel⟩,
   ⟨.pf, 0, wOn, by decide +kernel⟩,
   ⟨wOn, by exact wOn_hifEqs⟩,
   ⟨wOn, by decide +kernel⟩⟩

theorem witness_CompletionsInterruptsAndLogs_4 :
    (∃ (ag : Agent) (v : BitVec 32) (s : State), s.reach ag = true ∧ bit v.toNat 0 = 1) ∧
    (∃ (ag : Agent) (a : Nat) (b : Nat) (c : Nat) (d : Nat) (r : List (Nat × Nat × Nat × Nat)) (s : State), s.reach ag = true ∧ s.host.log =
    (a, b, c, d) :: r) ∧
    (∃ (ag : Agent) (s : State), s.reach ag = true ∧ s.host.log = []) ∧
    (∃ (f : Nat) (a : Nat) (b : Nat) (c : Nat) (d : Nat) (r : List (Nat × Nat × Nat × Nat)) (s : State), s.runs .pcie = true ∧ f = 0 ∧ Tab.get
    [] 0 s.host.errs = (a, b, c, d) :: r) :=
  ⟨⟨.pf, 0x30001, wOn, by decide +kernel⟩,
   ⟨.pf, 1, 2, 3, 4, [], { wOn with host := { wOn.host with log := [(1, 2, 3, 4)] } }, by decide +kernel⟩,
   ⟨.pf, wOn, by decide +kernel⟩,
   ⟨0, 1, 2, 3, 4, [], { wOn with host := { wOn.host with errs := [(0, [(1, 2, 3, 4)])] } },
    by decide +kernel⟩⟩

theorem witness_TheLinkIsLostResumedAndReset_1 :
    (∃ (s : State), s.isOn Reg.HIF_LINK_UP = true) ∧
    (∃ (s : State), s.isOn Reg.HIF_LINK_UP = false) ∧
    (∃ (rate : Nat) (width : Nat) (s : State), s.runs .pcie = true ∧ linkInService rate width = true) ∧
    (∃ (rate : Nat) (width : Nat) (s : State), s.runs .pcie = true ∧ linkInService rate width = false) :=
  ⟨⟨wLink, by decide +kernel⟩,
   ⟨wOn, by decide +kernel⟩,
   ⟨5, 16, wOn, by decide +kernel⟩,
   ⟨3, 16, wLink, by decide +kernel⟩⟩

theorem witness_TheLinkIsLostResumedAndReset_2 :
    (∃ (ag : Agent) (s : State), s.reach ag = true ∧ s.isOn Reg.HIF_LINK_HOLD = true ∧ s.isOn Reg.HIF_LINK_UP = true ∧ s.isOn
    Reg.HIF_LINK_USABLE = true) ∧
    (∃ (ag : Agent) (s : State), s.isOn Reg.HIF_LINK_HOLD = false) ∧
    (∃ (ag : Agent) (s : State), s.reach ag = true ∧ s.isOn Reg.HIF_LINK_HOLD = true) ∧
    (∃ (ag : Agent) (s : State), s.isOn Reg.HIF_LINK_HOLD = false) :=
  ⟨⟨.pf, wLink.wr Reg.HIF_LINK_HOLD 1, by decide +kernel⟩,
   ⟨.pf, wOn, by decide +kernel⟩,
   ⟨.pf, wLink.wr Reg.HIF_LINK_HOLD 1, by decide +kernel⟩,
   ⟨.pf, wOn, by decide +kernel⟩⟩

theorem witness_TheLinkIsLostResumedAndReset_3 :
    (∃ (s : State), s.isOn Reg.HIF_LINK_HOLD = true) ∧
    (∃ (s : State), s.isOn Reg.HIF_LINK_HOLD = false) ∧
    (∃ (f : Nat) (s : State), s.runs .pcie = true ∧ f ≤ 128 ∧ s.isOn Reg.HIF_FN_STATUS_BME 0 f = false) ∧
    (∃ (f : Nat) (s : State), s.isOn Reg.HIF_FN_STATUS_BME 0 f = true) :=
  ⟨⟨wLink.wr Reg.HIF_LINK_HOLD 1, by decide +kernel⟩,
   ⟨wOn, by decide +kernel⟩,
   ⟨128, wOn, by decide +kernel⟩,
   ⟨0, wLink, by decide +kernel⟩⟩

theorem witness_TheLinkIsLostResumedAndReset_4 :
    (∃ (f : Nat) (s : State), s.runs .pcie = true ∧ 1 ≤ f ∧ f ≤ 128) ∧
    (∃ (f : Nat) (s : State), (f = 0 ∨ 128 < f)) ∧
    (∃ (s : State), s.runs .pcie = true) ∧
    (∃ (f : Nat) (s : State), s.runs .pcie = true ∧ f ≤ 128 ∧ s.isOn Reg.HIF_FN_STATUS_FLR_BUSY 0 f = true) :=
  ⟨⟨128, wOn, by decide +kernel⟩,
   ⟨129, wOn, by decide +kernel⟩,
   ⟨wOn, by decide +kernel⟩,
   ⟨7, wOn.wr
    Reg.HIF_FN_STATUS_FLR_BUSY 1 0 7, by decide +kernel⟩⟩

theorem witness_TheLinkIsLostResumedAndReset_5 :
    (∃ (f : Nat) (s : State), s.isOn Reg.HIF_FN_STATUS_FLR_BUSY 0 f = false) ∧
    (∃ (f : Nat) (item : ConfigItem) (v : Nat) (s : State), s.runs .pcie = true ∧ f ≤ 128 ∧ item = .busMasterEnable ∧ v = 0) ∧
    (∃ (f : Nat) (item : ConfigItem) (v : Nat) (s : State), s.runs .pcie = true ∧ f ≤ 128 ∧ item = .busMasterEnable ∧ v ≠ 0 ∧ s.isOn
    Reg.HIF_FN_STATUS_BME 0 f = false) ∧
    (∃ (f : Nat) (item : ConfigItem) (v : Nat) (s : State), s.runs .pcie = true ∧ f ≤ 128 ∧ item = .relaxedOrdering) :=
  ⟨⟨0, wOn, by decide +kernel⟩,
   ⟨0,
    .busMasterEnable, 0, wLink, by decide +kernel⟩,
   ⟨0, .busMasterEnable, 1, wOn, by decide +kernel⟩,
   ⟨0, .relaxedOrdering,
    1, wOn, by decide +kernel⟩⟩

theorem witness_TheLinkIsLostResumedAndReset_6 :
    (∃ (f : Nat) (item : ConfigItem) (v : Nat) (s : State), s.runs .pcie = true ∧ f ≤ 128 ∧ item = .msixEnable) ∧
    (∃ (f : Nat) (item : ConfigItem) (v : Nat) (s : State), s.runs .pcie = true ∧ f = 0 ∧ item = .ptmEnable) ∧
    (∃ (f : Nat) (item : ConfigItem) (v : Nat) (s : State), s.runs .pcie = true ∧ f ≤ 128 ∧ item = .powerState ∧ (v % 4 = 0 ∨ v % 4 = 3)) ∧
    (∃ (f : Nat) (item : ConfigItem) (v : Nat) (s : State), s.runs .pcie = true ∧ 1 ≤ f ∧ f ≤ 128 ∧ item = .vfEnable) :=
  ⟨⟨0, .msixEnable, 1, wOn,
    by decide +kernel⟩,
   ⟨0, .ptmEnable, 1, wOn,
    by decide +kernel⟩,
   ⟨0, .powerState, 3, wOn, by decide +kernel⟩,
   ⟨5, .vfEnable, 1, wOn,
    by decide +kernel⟩⟩

theorem witness_TheLinkIsLostResumedAndReset_7 :
    (∃ (f : Nat) (item : ConfigItem) (v : Nat) (s : State), s.runs .pcie = true ∧ 128 < f) ∧
    (∃ (f : Nat) (kind : Unsupported) (s : State), s.runs .pcie = true) :=
  ⟨⟨129, .msixEnable, 0, wOn, by decide +kernel⟩,
   ⟨0, .ats, wOn, by decide +kernel⟩⟩

theorem witness_MailboxesCarryMessages_1 :
    (∃ (ag : Agent) (v : BitVec 32) (s : State), s.path ag = true ∧ s.sendRefused ag (bits v.toNat 21 16) (s.view ag).ptr (bits v.toNat 15 0)
    (bits v.toNat 23 22) (bits v.toNat 31 24) = false) ∧
    (∃ (ag : Agent) (v : BitVec 32) (s : State), s.path ag = true ∧ s.sendRefused ag (bits v.toNat 21 16) (s.view ag).ptr (bits v.toNat 15 0)
    (bits v.toNat 23 22) (bits v.toNat 31 24) = true) ∧
    (∃ (ag : Agent) (n : Nat) (s : State), s.path ag = true ∧ s.ownsBox ag n = true) ∧
    (∃ (ag : Agent) (n : Nat) (s : State), s.path ag = true ∧ s.ownsBox ag n = false) :=
  ⟨⟨.pf, 0x30000, wOn.wr Reg.MBX_OWN_OWNER 0 0 3, by decide +kernel⟩,
   ⟨.pf, 0x1000000, wOn, by decide +kernel⟩,
   ⟨.pf, 3, wOn.wr Reg.MBX_OWN_OWNER 0 0 3,
    by decide +kernel⟩,
   ⟨.pf, 3, wOn.wr Reg.MBX_OWN_OWNER 5 0 3,
    by decide +kernel⟩⟩

theorem witness_MailboxesCarryMessages_2 :
    (∃ (ag : Agent) (n : Nat) (seq : Nat) (s : State), s.path ag = true ∧ s.ownsBox ag n = true ∧ (s.box n).full = true ∧ (s.box n).seq = seq %
    256) ∧
    (∃ (ag : Agent) (n : Nat) (seq : Nat) (s : State), s.path ag = true ∧ s.ownsBox ag n = true ∧ ((s.box n).full = false ∨ (s.box n).seq ≠ seq
    % 256)) ∧
    (∃ (ag : Agent) (n : Nat) (seq : Nat) (s : State), s.ownsBox ag n = false) ∧
    (∃ (ag : Agent) (n : Nat) (owner : Nat) (s : State), s.path ag = true ∧ ag = .pf ∧ n < 64 ∧ fnOwner (s.mbxOwner n) = true ∧ fnOwner (owner
    % 256) = true ∧ owner % 256 ≠ s.mbxOwner n ∧ (s.box n).full = false) :=
  ⟨⟨.pf, 3, 9, (wOn.wr Reg.MBX_OWN_OWNER 0 0 3).setBox 3 fun b => { b with full := true, seq := 9 }, by decide +kernel⟩,
   ⟨.pf, 3, 0, (wOn.wr Reg.MBX_OWN_OWNER 0 0 3), by decide +kernel⟩,
   ⟨.pf, 3, 0, wOn.wr Reg.MBX_OWN_OWNER 5 0 3,
    by decide +kernel⟩,
   ⟨.pf, 3, 7, wOn.wr Reg.MBX_OWN_OWNER 0 0 3, by decide +kernel⟩⟩

theorem witness_MailboxesCarryMessages_3 :
    (∃ (ag : Agent) (n : Nat) (owner : Nat) (s : State), s.path ag = true ∧ ag = .pf ∧ (fnOwner (owner % 256) = false ∨ (s.box n).full = true)) ∧
    (∃ (ag : Agent) (n : Nat) (owner : Nat) (s : State), ag ≠ .pf) :=
  ⟨⟨.pf, 3, 0xE0, wOn, by decide +kernel⟩,
   ⟨.fw 0, 0, 0, wOn, by decide +kernel⟩⟩

theorem witness_MailboxBodiesAndTheSharedWindow_1 :
    (∃ (ag : Agent) (v : BitVec 32) (m : Mbox) (s : State), s.path ag = true ∧ (s.view ag).busy = false ∧ bit v.toNat 8 = 1 ∧ Tab.get none
    (bits v.toNat 5 0) (s.view ag).latch = some m ∧ s.ownsBox ag (bits v.toNat 5 0) = true ∧ bits v.toNat 7 6 = 1 ∧ (s.view ag).dst % 1048576 +
    m.len ≤ 1048576 ∧ m.space = 1) ∧
    (∃ (ag : Agent) (v : BitVec 32) (s : State), s.path ag = true ∧ (s.view ag).busy = false ∧ bit v.toNat 8 = 1 ∧ Tab.get none (bits v.toNat 5
    0) (s.view ag).latch = none) ∧
    (∃ (ag : Agent) (v : BitVec 32) (s : State), (s.view ag).busy = true) ∧
    (∃ (ag : Agent) (result : HostRead) (m : Mbox) (s : State), (s.view ag).cur = some m ∧ m.space = 1 ∧ m.len ≤ 1048576 ∧ (s.view ag).curSpace
    = 1) :=
  ⟨⟨.pf, 0x143, { space := 1, len := 4 }, wMb, by decide +kernel⟩,
   ⟨.pf, 0x103, wOn, by decide +kernel⟩,
   ⟨.pf, 0, wOn.setView .pf fun v => { v with busy := true },
    by decide +kernel⟩,
   ⟨.pf, .data [], { space := 1, len := 4 }, (wMb.setView .pf fun v =>
    { v with busy := true, cur := some { space := 1, len := 4 }, curBox := 3, curSpace := 1, curDst := 64 }), by decide +kernel⟩⟩

theorem witness_MailboxBodiesAndTheSharedWindow_2 :
    (∃ (ag : Agent) (result : HostRead) (s : State), (s.view ag).cur = none) ∧
    (∃ (ag : Agent) (write : Bool) (v : BitVec 32) (s : State), s.path ag = true ∧ write = true ∧ (s.view ag).swAddr < 1048576 - 4) ∧
    (∃ (ag : Agent) (write : Bool) (v : BitVec 32) (s : State), s.path ag = true ∧ write = false) ∧
    (∃ (off : BitVec 32) (data : List Byte) (s : State), s.path .bmc = true ∧ swRange off.toNat data.length = true) :=
  ⟨⟨.pf, .data [], wOn, by decide +kernel⟩,
   ⟨.pf,
    true, 0x12345678, wOn, by decide +kernel⟩,
   ⟨.pf, false, 0, wOn, by decide +kernel⟩,
   ⟨0xFFFFC, [1, 2, 3, 4],
    wOn, by decide +kernel⟩⟩

theorem witness_MailboxBodiesAndTheSharedWindow_3 :
    (∃ (off : BitVec 32) (data : List Byte) (s : State), s.path .bmc = true ∧ swRange off.toNat data.length = false) ∧
    (∃ (off : BitVec 32) (len : Nat) (s : State), s.path .bmc = true ∧ swRange off.toNat len = true) ∧
    (∃ (off : BitVec 32) (len : Nat) (s : State), s.path .bmc = true ∧ swRange off.toNat len = false) ∧
    (∃ (n : Nat) (off : BitVec 32) (len : Nat) (s : State), s.path .bmc = true ∧ off.toNat + len ≤ 1048576 ∧ s.sendRefused .bmc n off.toNat
    (len % 65536) 1 (len / 65536) = false) :=
  ⟨⟨0, [], wOn,
    by decide +kernel⟩,
   ⟨0, 64, wOn, by decide +kernel⟩,
   ⟨0, 0, wOn, by decide +kernel⟩,
   ⟨3, 0, 4, wOn.wr Reg.MBX_OWN_OWNER 0 0 3, by decide +kernel⟩⟩

theorem witness_MailboxBodiesAndTheSharedWindow_4 :
    (∃ (n : Nat) (off : BitVec 32) (len : Nat) (s : State), s.path .bmc = true ∧ len ≠ 0 ∧ off.toNat + len > 1048576) ∧
    (∃ (n : Nat) (s : State), s.path .bmc = true ∧ s.ownsBox .bmc n = true) ∧
    (∃ (n : Nat) (seq : Nat) (s : State), s.path .bmc = true ∧ s.ownsBox .bmc n = true ∧ (s.box n).full = true ∧ (s.box n).seq = seq % 256) ∧
    (∃ (n : Nat) (seq : Nat) (s : State), s.path .bmc = true ∧ s.ownsBox .bmc n = false) :=
  ⟨⟨0, 0x100000, 1, wOn,
    by decide +kernel⟩,
   ⟨3, wOn.wr Reg.MBX_OWN_OWNER 0xE0 0 3, by decide +kernel⟩,
   ⟨3, 9, (wOn.wr Reg.MBX_OWN_OWNER 0xE0 0 3).setBox 3 fun b => { b with full := true, seq := 9 }, by decide +kernel⟩,
   ⟨3, 0, wOn.wr Reg.MBX_OWN_OWNER 5 0 3,
    by decide +kernel⟩⟩

theorem witness_KeysAreExchangedAndSwitched_1 :
    (∃ (l : Leg) (msg : BitVec 384) (s : State), msgType msg = 0x0A ∧ s.fwPresent = true ∧ Hears s l ∧ mcrcOk msg = true ∧ s.addressed l msg
    false = true ∧ mfield msg 6 1 = 0 ∧ 2 ≤ mfield msg 7 1 ∧ mfield msg 7 1 ≤ 16 ∧ (s.leg l).kxLast = none) ∧
    (∃ (l : Leg) (msg : BitVec 384) (s : State), msgType msg = 0x0A ∧ s.fwPresent = true ∧ Hears s l ∧ mcrcOk msg = false) ∧
    (∃ (l : Leg) (msg : BitVec 384) (s : State), Hears s l ∧ s.takes l 0x0B msg false 0 = true ∧ s.hasTn l = true ∧ s.effOk l (mfield msg 8 6)
    = true ∧ s.cur l + 2 ≤ mfield msg 8 6 ∧ mfield msg 7 1 % 2 = 0 ∧ mfield msg 6 1 % 4 ≠ s.rd Reg.CIPH_GEN_DN_CUR l.n) ∧
    (∃ (l : Leg) (msg : BitVec 384) (s : State), Hears s l ∧ s.takes l 0x0B msg false 0 = true ∧ s.hasTn l = true ∧ s.effOk l (mfield msg 8 6)
    = true ∧ s.cur l + 2 ≤ mfield msg 8 6 ∧ mfield msg 7 1 % 2 = 0 ∧ mfield msg 6 1 % 4 = s.rd Reg.CIPH_GEN_DN_CUR l.n) :=
  ⟨⟨.a, wMsg 5 0x0A 7 [0, 3], wMs
    (wTn.wr Reg.ADM_STATUS_FW_PRESENT 1), by decide +kernel⟩,
   ⟨.a, 0x0A * 2 ^
    360, wMs (wTn.wr Reg.ADM_STATUS_FW_PRESENT 1), by decide +kernel⟩,
   ⟨.a, wMsg 5 0x0B 7
    [2, 0, 0, 0, 0, 0, 0, 4], wMs (wTn), by decide +kernel⟩,
   ⟨.a, wMsg 5 0x0B 7
    [0, 0, 0, 0, 0, 0, 0, 4], wMs (wTn), by decide +kernel⟩⟩

theorem witness_KeysAreExchangedAndSwitched_2 :
    (∃ (l : Leg) (msg : BitVec 384) (s : State), Hears s l ∧ s.takes l 0x0B msg false 0 = true ∧ s.hasTn l = true ∧ s.effOk l (mfield msg 8 6)
    = true ∧ s.cur l + 2 ≤ mfield msg 8 6 ∧ mfield msg 7 1 % 2 = 1 ∧ mfield msg 6 1 % 4 ≠ s.rd Reg.CIPH_GEN_UP_CUR l.n) ∧
    (∃ (l : Leg) (msg : BitVec 384) (s : State), Hears s l ∧ s.takes l 0x0B msg false 0 = true ∧ s.hasTn l = true ∧ s.effOk l (mfield msg 8 6)
    = true ∧ s.cur l + 2 ≤ mfield msg 8 6 ∧ mfield msg 7 1 % 2 = 1 ∧ mfield msg 6 1 % 4 = s.rd Reg.CIPH_GEN_UP_CUR l.n) ∧
    (∃ (l : Leg) (msg : BitVec 384) (s : State), Hears s l ∧ s.takes l 0x0B msg false 0 = true ∧ s.hasTn l = true ∧ mfield msg 8 6 < s.cur l +
    2) ∧
    (∃ (l : Leg) (s : State), s.isOn Reg.CIPH_GEN_UP_PEND l.n = true ∧ (s.leg l).upFn = 0 ∧ s.rd2 Reg.CIPH_UP_EFF_LO Reg.CIPH_UP_EFF_HI l.n ≤
    (s.leg l).upSfc) :=
  ⟨⟨.a, wMsg 5 0x0B 7
    [2, 1, 0, 0, 0, 0, 0, 4], wMs (wTn), by decide +kernel⟩,
   ⟨.a, wMsg 5 0x0B 7
    [0, 1, 0, 0, 0, 0, 0, 4], wMs (wTn), by decide +kernel⟩,
   ⟨.a, wMsg 5 0x0B 7 [2, 0, 0, 0, 0, 0, 0, 1], wMs (wTn), by decide +kernel⟩,
   ⟨.a, (wOn.wr Reg.CIPH_GEN_UP_PEND 1 0).wr Reg.CIPH_GEN_UP_NEXT 2 0, by decide +kernel⟩⟩

theorem witness_KeysAreExchangedAndSwitched_3 :
    (∃ (l : Leg) (s : State), (s.isOn Reg.CIPH_GEN_UP_PEND l.n = false ∨ ¬((s.leg l).upFn = 0) ∨ ¬(s.rd2 Reg.CIPH_UP_EFF_LO Reg.CIPH_UP_EFF_HI
    l.n ≤ (s.leg l).upSfc))) ∧
    (∃ (l : Leg) (s : State), s.isOn Reg.CIPH_GEN_DN_PEND l.n = true ∧ (s.wave l 0).fn = 0 ∧ s.rd2 Reg.CIPH_DN_EFF_LO Reg.CIPH_DN_EFF_HI l.n ≤
    s.cur l) ∧
    (∃ (l : Leg) (s : State), (s.isOn Reg.CIPH_GEN_DN_PEND l.n = false ∨ ¬((s.wave l 0).fn = 0) ∨ ¬(s.rd2 Reg.CIPH_DN_EFF_LO Reg.CIPH_DN_EFF_HI
    l.n ≤ s.cur l))) ∧
    (∃ (l : Leg) (up : Bool) (k : Nat) (n : Nat) (s : State), up = true ∧ (s.leg l).upRet = some k ∧ (s.slot n).kind = 1) :=
  ⟨⟨.a, wOn, by decide +kernel⟩,
   ⟨.a, (wOn.wr Reg.CIPH_GEN_DN_PEND 1 0).wr Reg.CIPH_GEN_DN_NEXT 2 0, by decide +kernel⟩,
   ⟨.a, wOn, by decide +kernel⟩,
   ⟨.a, true, 2, 5,
    (wOn.upd .a fun g => { g with upRet := some 2 }).setKeySlot 5 { kind := 1, keys := [(6, 9)] }, by decide +kernel⟩⟩

theorem witness_KeysAreExchangedAndSwitched_4 : (∃ (l : Leg) (up : Bool) (s : State), up = false ∧ (s.leg l).dnRet = none) :=
  ⟨.a, false, wOn, by decide +kernel⟩

theorem witness_KeySlotsAnswerAndLookasideRuns_1 :
    (∃ (ag : Agent) (s : State), s.reach ag = true ∧ s.rdA ag Reg.CIPH_SLOT_CMD_BUSY = 0) ∧
    (∃ (ag : Agent) (s : State), s.reach ag = true ∧ s.rdA ag Reg.CIPH_SLOT_CMD_BUSY ≠ 0) ∧
    (∃ (ag : Agent) (s : State), s.reach ag = true ∧ s.rdA ag Reg.CIPH_SLOT_CMD_BUSY = 0) ∧
    (∃ (ag : Agent) (s : State), s.reach ag = true ∧ s.rdA ag Reg.CIPH_SLOT_CMD_BUSY = 0 ∧ (s.slot (s.rdA ag Reg.CIPH_SLOT_IDX)).kind = 2) :=
  ⟨⟨.pf, wOn, by decide +kernel⟩,
   ⟨.pf, wOn.wr Reg.CIPH_SLOT_CMD_BUSY 1,
    by decide +kernel⟩,
   ⟨.pf, wOn, by decide +kernel⟩,
   ⟨.pf, (wOn.wr Reg.CIPH_SLOT_IDX 9).setKeySlot 9 { kind := 2, keys := [(0, 5)] }, by decide +kernel⟩⟩

theorem witness_KeySlotsAnswerAndLookasideRuns_2 :
    (∃ (ag : Agent) (s : State), s.reach ag = true ∧ s.rdA ag Reg.CIPH_SLOT_CMD_BUSY = 0 ∧ (s.slot (s.rdA ag Reg.CIPH_SLOT_IDX)).kind ≠ 2) ∧
    (∃ (ag : Agent) (st : Nat) (s : State), s.reach ag = true ∧ (if ag.isFw then s.ciph.cmdStFw else s.ciph.cmdSt) = some st ∧ st < 16) ∧
    (∃ (ag : Agent) (s : State), (if ag.isFw then s.ciph.cmdStFw else s.ciph.cmdSt) = none) ∧
    (∃ (ag : Agent) (mask : Nat) (s : State), s.reach ag = true ∧ mask % 4 = 1) :=
  ⟨⟨.pf, wOn, by decide +kernel⟩,
   ⟨.pf, 3, { wOn with ciph := { wOn.ciph with cmdSt := some 3 } }, by decide +kernel⟩,
   ⟨.pf, wOn, by decide +kernel⟩,
   ⟨.pf, 1, wOn, by decide +kernel⟩⟩

theorem witness_KeySlotsAnswerAndLookasideRuns_3 :
    (∃ (ag : Agent) (mask : Nat) (s : State), s.reach ag = true ∧ mask % 4 = 2) ∧
    (∃ (ag : Agent) (mask : Nat) (s : State), s.reach ag = true ∧ mask % 4 = 3) ∧
    (∃ (ag : Agent) (mask : Nat) (s : State), s.reach ag = true ∧ mask % 4 = 0) ∧
    (∃ (ag : Agent) (s : State), s.reach ag = true) :=
  ⟨⟨.pf, 2, wOn, by decide +kernel⟩,
   ⟨.pf, 3, wOn, by decide +kernel⟩,
   ⟨.pf, 0, wOn, by decide +kernel⟩,
   ⟨.pf, wOn, by decide +kernel⟩⟩

theorem witness_KeySlotsAnswerAndLookasideRuns_4 :
    (∃ (ring : Nat) (src : HostRead) (idx : Nat) (e : List Byte) (rest : List (Nat × List Byte)) (b : List Byte) (s : State), s.runs .core =
    true ∧ s.laTurn = some ring ∧ (s.rxr ring).reqs = (idx, e) :: rest ∧ s.isOn Reg.CIPH_CTL_LA_EN = true ∧ leNat (slice e 18 2) ≤ 4096 ∧ leNat
    (slice e 20 2) < 512 ∧ leNat (slice e 36 28) = 0 ∧ (s.slot (leNat (slice e 20 2))).kind = 2 ∧ (s.slot (leNat (slice e 20 2))).owner = s.rd
    Reg.HIF_RX_CTL_OWNER 0 ring ∧ s.isOn Reg.CIPH_STATUS_RNG_FAIL = false ∧ src = .data b) ∧
    (∃ (ring : Nat) (src : HostRead) (idx : Nat) (e : List Byte) (rest : List (Nat × List Byte)) (b : List Byte) (s : State), s.runs .core =
    true ∧ s.laTurn = some ring ∧ (s.rxr ring).reqs = (idx, e) :: rest ∧ s.isOn Reg.CIPH_CTL_LA_EN = true ∧ leNat (slice e 18 2) ≤ 4096 ∧ 512 ≤
    leNat (slice e 20 2) ∧ leNat (slice e 20 2) < 1024 ∧ leNat (slice e 36 28) = 0 ∧ (s.slot (leNat (slice e 20 2) % 512)).kind = 2 ∧ (s.slot
    (leNat (slice e 20 2) % 512)).owner = s.rd Reg.HIF_RX_CTL_OWNER 0 ring ∧ s.isOn Reg.CIPH_STATUS_RNG_FAIL = false ∧ src = .data b ∧
    Crypto.gcmDec (Tab.get 1 0 (s.slot (leNat (slice e 20 2) % 512)).keys - 1) (beNat (slice e 24 12)) (slice b 0 (leNat (slice e 18 2)))
    (slice b (leNat (slice e 18 2)) (leNat (slice e 16 2))) (slice b (leNat (slice e 18 2) + leNat (slice e 16 2)) 16) = none) ∧
    (∃ (ring : Nat) (src : HostRead) (idx : Nat) (e : List Byte) (rest : List (Nat × List Byte)) (s : State), s.runs .core = true ∧ s.laTurn =
    some ring ∧ (s.rxr ring).reqs = (idx, e) :: rest ∧ s.isOn Reg.CIPH_CTL_LA_EN = true ∧ leNat (slice e 18 2) ≤ 4096 ∧ leNat (slice e 20 2) <
    512 ∧ leNat (slice e 36 28) = 0 ∧ (s.slot (leNat (slice e 20 2))).kind = 2 ∧ (s.slot (leNat (slice e 20 2))).owner ≠ s.rd
    Reg.HIF_RX_CTL_OWNER 0 ring) ∧
    (∃ (ring : Nat) (src : HostRead) (s : State), s.laTurn ≠ some ring) :=
  ⟨⟨3, .data [1, 2, 3, 4], 0, zeros 16 ++ leBytes 2
    4 ++ leBytes 2 0 ++ leBytes 2 5 ++ zeros 42, [], [1, 2, 3, 4], ((((wLink.wr Reg.HIF_RX_CTL_EN 1 0 3).wr Reg.HIF_RX_CTL_LA 1 0 3).wr
    Reg.CIPH_CTL_LA_EN 1).setRxr 3 fun r =>
    { r with reqs := [(0, zeros 16 ++ leBytes 2 4 ++ leBytes 2 0 ++ leBytes 2 5 ++ zeros 42)] }).setKeySlot 5 { kind := 2, keys := [(0, 8)] },
    by decide +kernel⟩,
   ⟨3, .data
    (zeros 20), 0, zeros 16 ++ leBytes 2 4 ++ leBytes 2 0 ++ leBytes 2 0x205 ++ zeros 42, [], zeros 20, ((((wLink.wr Reg.HIF_RX_CTL_EN 1 0
    3).wr Reg.HIF_RX_CTL_LA 1 0 3).wr Reg.CIPH_CTL_LA_EN 1).setRxr 3 fun r =>
    { r with reqs := [(0, zeros 16 ++ leBytes 2 4 ++ leBytes 2 0 ++ leBytes 2 0x205 ++ zeros 42)] }).setKeySlot 5
    { kind := 2, keys := [(0, 8)] }, by decide +kernel⟩,
   ⟨3, .data [], 0, zeros 16 ++ leBytes 2 4 ++ leBytes 2 0 ++ leBytes 2 5 ++ zeros 42, [], ((((wLink.wr
    Reg.HIF_RX_CTL_EN 1 0 3).wr Reg.HIF_RX_CTL_LA 1 0 3).wr Reg.CIPH_CTL_LA_EN 1).setRxr 3 fun r =>
    { r with reqs := [(0, zeros 16 ++ leBytes 2 4 ++ leBytes 2 0 ++ leBytes 2 5 ++ zeros 42)] }).setKeySlot 5
    { kind := 2, owner := 4, keys := [(0, 8)] }, by decide +kernel⟩,
   ⟨0, .data [], wOn, by decide +kernel⟩⟩

theorem witness_KeySlotsAnswerAndLookasideRuns_5 :
    (∃ (ring : Nat) (r : LaReq) (rest : List LaReq) (s : State), s.runs .core = true ∧ (s.rxr ring).la = r :: rest ∧ s.canDma (s.rd
    Reg.HIF_RX_CTL_OWNER 0 ring) = true ∧ r.status = 0) ∧
    (∃ (ring : Nat) (s : State), (s.rxr ring).la = []) :=
  ⟨⟨3, ⟨0, 0, 4, 0, false, 0, [1, 2]⟩, [], wLink.setRxr 3 fun r =>
    { r with la := [⟨0, 0, 4, 0, false, 0, [1, 2]⟩] }, by decide +kernel⟩,
   ⟨0, wOn, by decide +kernel⟩⟩

theorem witness_StreamEntriesAreReadAndWritten_1 :
    (∃ (ag : Agent) (view : Nat) (s : State), s.reach ag = true ∧ s.rdA ag Reg.STBL_CMD_BUSY = 0 ∧ s.fwPresent = true) ∧
    (∃ (ag : Agent) (view : Nat) (s : State), s.reach ag = true ∧ s.rdA ag Reg.STBL_CMD_BUSY ≠ 0) ∧
    (∃ (ag : Agent) (view : Nat) (s : State), s.reach ag = true ∧ s.rdA ag Reg.STBL_CMD_BUSY = 0 ∧ s.fwPresent = false) ∧
    (∃ (ag : Agent) (stage : Bool) (s : State), s.reach ag = true ∧ s.rdA ag Reg.STBL_CMD_BUSY ≠ 0) :=
  ⟨⟨.pf, 1, (wOn.wr
    Reg.ADM_STATUS_FW_PRESENT 1).wr Reg.STBL_IDX 5, by decide +kernel⟩,
   ⟨.pf, 0, (wOn.wr Reg.ADM_STATUS_FW_PRESENT
    1).wr Reg.STBL_CMD_BUSY 1, by decide +kernel⟩,
   ⟨.pf, 0, wOn,
    by decide +kernel⟩,
   ⟨.pf, false, (wOn.wr
    Reg.ADM_STATUS_FW_PRESENT 1).wr Reg.STBL_CMD_BUSY 1, by decide +kernel⟩⟩

theorem witness_StreamEntriesAreReadAndWritten_2 :
    (∃ (ag : Agent) (stage : Bool) (s : State), s.reach ag = true ∧ s.rdA ag Reg.STBL_CMD_BUSY = 0 ∧ s.fwPresent = false) ∧
    (∃ (ag : Agent) (stage : Bool) (s : State), s.reach ag = true ∧ s.rdA ag Reg.STBL_CMD_BUSY ≠ 0) ∧
    (∃ (ag : Agent) (stage : Bool) (s : State), s.reach ag = true ∧ s.rdA ag Reg.STBL_CMD_BUSY = 0 ∧ s.fwPresent = false) ∧
    (∃ (ag : Agent) (stage : Bool) (s : State), s.reach ag = true ∧ s.rdA ag Reg.STBL_CMD_BUSY ≠ 0) :=
  ⟨⟨.pf, false, wOn,
    by decide +kernel⟩,
   ⟨.pf, false, (wOn.wr
    Reg.ADM_STATUS_FW_PRESENT 1).wr Reg.STBL_CMD_BUSY 1, by decide +kernel⟩,
   ⟨.pf, false, wOn,
    by decide +kernel⟩,
   ⟨.pf, false, (wOn.wr
    Reg.ADM_STATUS_FW_PRESENT 1).wr Reg.STBL_CMD_BUSY 1, by decide +kernel⟩⟩

theorem witness_StreamEntriesAreReadAndWritten_3 :
    (∃ (ag : Agent) (stage : Bool) (s : State), s.reach ag = true ∧ s.rdA ag Reg.STBL_CMD_BUSY = 0 ∧ s.fwPresent = false) ∧
    (∃ (ag : Agent) (stage : Bool) (s : State), s.reach ag = true ∧ s.rdA ag Reg.STBL_CMD_BUSY = 0 ∧ s.fwPresent = true ∧ stage = false ∧
    s.entryRefused (s.rdWords ag Reg.STBL_DATA) = false ∧ bit (s.stream (s.rdA ag Reg.STBL_IDX)) 0 = 0 ∧ bit (s.streamDrain (s.rdA ag
    Reg.STBL_IDX)) 0 = 0 ∧ Tab.get 0 (s.rdA ag Reg.STBL_IDX) s.cls.staged = 0) ∧
    (∃ (ag : Agent) (stage : Bool) (s : State), s.reach ag = true ∧ s.rdA ag Reg.STBL_CMD_BUSY = 0 ∧ s.fwPresent = true ∧ stage = false ∧
    s.entryRefused (s.rdWords ag Reg.STBL_DATA) = false ∧ bit (s.stream (s.rdA ag Reg.STBL_IDX)) 0 = 1) ∧
    (∃ (ag : Agent) (stage : Bool) (s : State), s.reach ag = true ∧ s.rdA ag Reg.STBL_CMD_BUSY = 0 ∧ s.fwPresent = true ∧ stage = true ∧
    s.entryRefused (s.rdWords ag Reg.STBL_DATA) = false ∧ s.rd Reg.CLS_COMMIT_STATUS_GROUP = 1 ∧ Tab.get 0 (s.rdA ag Reg.STBL_IDX) s.cls.staged
    = 0 ∧ s.rd Reg.CLS_STAGE_CNT_STAGED < 4096) :=
  ⟨⟨.pf, false, wOn,
    by decide +kernel⟩,
   ⟨.pf, false, ((wOn.wr Reg.ADM_STATUS_FW_PRESENT 1).wr
    Reg.STBL_IDX 5).wr Reg.STBL_DATA 1 0 0, by decide +kernel⟩,
   ⟨.pf, false,
    { wOn.wr Reg.ADM_STATUS_FW_PRESENT 1 with cls := { wOn.cls with streams := [(0, wE)] } }, by decide +kernel⟩,
   ⟨.pf, true, ((wOn.wr Reg.ADM_STATUS_FW_PRESENT 1).wr Reg.CLS_COMMIT_STATUS_GROUP 1).wr
    Reg.STBL_DATA 1 0 0, by decide +kernel⟩⟩

theorem witness_StreamEntriesAreReadAndWritten_4 :
    (∃ (ag : Agent) (stage : Bool) (s : State), s.reach ag = true ∧ s.rdA ag Reg.STBL_CMD_BUSY = 0 ∧ s.fwPresent = true ∧ stage = true ∧ s.rd
    Reg.CLS_COMMIT_STATUS_GROUP ≠ 1) ∧
    (∃ (ag : Agent) (stage : Bool) (s : State), s.reach ag = true ∧ s.rdA ag Reg.STBL_CMD_BUSY = 0 ∧ s.fwPresent = true ∧ stage = false) ∧
    (∃ (ag : Agent) (stage : Bool) (s : State), s.reach ag = true ∧ s.rdA ag Reg.STBL_CMD_BUSY = 0 ∧ s.fwPresent = true ∧ stage = true ∧ s.rd
    Reg.CLS_COMMIT_STATUS_GROUP = 1 ∧ Tab.get 0 (s.rdA ag Reg.STBL_IDX) s.cls.staged = 0 ∧ s.rd Reg.CLS_STAGE_CNT_STAGED < 4096) ∧
    (∃ (ag : Agent) (stage : Bool) (s : State), s.reach ag = true ∧ s.rdA ag Reg.STBL_CMD_BUSY = 0 ∧ s.fwPresent = true ∧ stage = false ∧
    s.entryRefused (s.rdWords ag Reg.STBL_DATA) = false ∧ s.stream (s.rdA ag Reg.STBL_IDX) ≠ s.rdWords ag Reg.STBL_CMP) :=
  ⟨⟨.pf, true, wOn.wr Reg.ADM_STATUS_FW_PRESENT 1, by decide +kernel⟩,
   ⟨.pf, false, wOn.wr Reg.ADM_STATUS_FW_PRESENT 1, by decide +kernel⟩,
   ⟨.pf, true,
    (wOn.wr Reg.ADM_STATUS_FW_PRESENT 1).wr Reg.CLS_COMMIT_STATUS_GROUP 1, by decide +kernel⟩,
   ⟨.pf, false, (wOn.wr
    Reg.ADM_STATUS_FW_PRESENT 1).wr Reg.STBL_CMP 9 0 0, by decide +kernel⟩⟩

theorem witness_StreamEntriesAreReadAndWritten_5 :
    (∃ (ag : Agent) (stage : Bool) (s : State), s.reach ag = true ∧ s.rdA ag Reg.STBL_CMD_BUSY = 0 ∧ s.fwPresent = true ∧ stage = true ∧
    s.entryRefused (s.rdWords ag Reg.STBL_DATA) = false ∧ s.rd Reg.CLS_COMMIT_STATUS_GROUP = 1 ∧ s.streamStaged (s.rdA ag Reg.STBL_IDX) =
    s.rdWords ag Reg.STBL_CMP ∧ Tab.get 0 (s.rdA ag Reg.STBL_IDX) s.cls.staged ≠ 0) ∧
    (∃ (ag : Agent) (st : Nat) (s : State), s.reach ag = true ∧ (if ag.isFw then s.cls.stblStFw else s.cls.stblSt) = some st ∧ st < 16) ∧
    (∃ (ag : Agent) (s : State), (if ag.isFw then s.cls.stblStFw else s.cls.stblSt) = none) ∧
    (∃ (ag : Agent) (idx : Nat) (s : State), s.reach ag = true ∧ idx < 16384) :=
  ⟨⟨.pf, true,
    { ((wOn.wr Reg.ADM_STATUS_FW_PRESENT 1).wr Reg.CLS_COMMIT_STATUS_GROUP 1).wr Reg.STBL_DATA 1 0 0 with cls := { wOn.cls with staged := [(0, 1)] } },
    by decide +kernel⟩,
   ⟨.pf, 4, { wOn with cls := { wOn.cls with stblSt := some 4 } }, by decide +kernel⟩,
   ⟨.pf, wOn, by decide +kernel⟩,
   ⟨.pf, 7,
    { wOn with cls := { wOn.cls with stats := [(7, (3, 4))] } }, by decide +kernel⟩⟩

theorem witness_StreamEntriesAreReadAndWritten_6 : (∃ (ag : Agent) (s : State), s.reach ag = true) :=
  ⟨.pf, { wOn with cls := { wOn.cls with learnPend := [7] } }, by decide +kernel⟩

theorem witness_TreesAndProfilesAreReadAndWritten_1 :
    (∃ (ag : Agent) (s : State), s.reach ag = true ∧ s.rdA ag Reg.CLS_CMD_BUSY = 0 ∧ s.fwPresent = true) ∧
    (∃ (ag : Agent) (s : State), s.reach ag = true ∧ s.rdA ag Reg.CLS_CMD_BUSY = 0 ∧ s.fwPresent = false) ∧
    (∃ (ag : Agent) (s : State), s.reach ag = true ∧ s.rdA ag Reg.CLS_CMD_BUSY ≠ 0) ∧
    (∃ (ag : Agent) (s : State), s.reach ag = true ∧ s.rdA ag Reg.CLS_CMD_BUSY = 0 ∧ s.fwPresent = false) :=
  ⟨⟨.pf, wOn.wr
    Reg.ADM_STATUS_FW_PRESENT 1, by decide +kernel⟩,
   ⟨.pf, wOn, by decide +kernel⟩,
   ⟨.pf, wOn.wr Reg.CLS_CMD_BUSY 1, by decide +kernel⟩,
   ⟨.pf, wOn, by decide +kernel⟩⟩

theorem witness_TreesAndProfilesAreReadAndWritten_2 :
    (∃ (ag : Agent) (s : State), s.reach ag = true ∧ s.rdA ag Reg.CLS_CMD_BUSY ≠ 0) ∧
    (∃ (ag : Agent) (s : State), s.reach ag = true ∧ s.rdA ag Reg.CLS_CMD_BUSY = 0 ∧ s.fwPresent = false) ∧
    (∃ (ag : Agent) (s : State), s.reach ag = true ∧ s.rdA ag Reg.CLS_CMD_BUSY ≠ 0) ∧
    (∃ (ag : Agent) (s : State), s.reach ag = true ∧ s.rdA ag Reg.CLS_CMD_BUSY = 0 ∧ s.fwPresent = false) :=
  ⟨⟨.pf, wOn.wr Reg.CLS_CMD_BUSY 1, by decide +kernel⟩,
   ⟨.pf, wOn, by decide +kernel⟩,
   ⟨.pf, wOn.wr Reg.CLS_CMD_BUSY 1, by decide +kernel⟩,
   ⟨.pf, wOn, by decide +kernel⟩⟩

theorem witness_TreesAndProfilesAreReadAndWritten_3 :
    (∃ (ag : Agent) (s : State), s.reach ag = true ∧ s.rdA ag Reg.CLS_CMD_BUSY ≠ 0) ∧
    (∃ (ag : Agent) (s : State), s.reach ag = true ∧ s.rdA ag Reg.CLS_CMD_BUSY = 0 ∧ s.fwPresent = false) ∧
    (∃ (ag : Agent) (s : State), s.reach ag = true ∧ s.rdA ag Reg.CLS_CMD_BUSY ≠ 0) ∧
    (∃ (ag : Agent) (s : State), s.reach ag = true ∧ s.rdA ag Reg.CLS_CMD_BUSY = 0 ∧ s.fwPresent = false) :=
  ⟨⟨.pf, wOn.wr Reg.CLS_CMD_BUSY 1, by decide +kernel⟩,
   ⟨.pf, wOn, by decide +kernel⟩,
   ⟨.pf, wOn.wr Reg.CLS_CMD_BUSY 1, by decide +kernel⟩,
   ⟨.pf, wOn, by decide +kernel⟩⟩

theorem witness_TreesAndProfilesAreReadAndWritten_4 :
    (∃ (ag : Agent) (s : State), s.reach ag = true ∧ s.rdA ag Reg.CLS_CMD_BUSY ≠ 0) ∧
    (∃ (ag : Agent) (s : State), s.reach ag = true ∧ s.rdA ag Reg.CLS_CMD_BUSY = 0 ∧ s.fwPresent = true ∧ s.nodeLive (s.rdA ag Reg.CLS_IDX) =
    false) ∧
    (∃ (ag : Agent) (s : State), s.reach ag = true ∧ s.rdA ag Reg.CLS_CMD_BUSY = 0 ∧ s.fwPresent = true ∧ s.nodeLive (s.rdA ag Reg.CLS_IDX) =
    true) ∧
    (∃ (ag : Agent) (s : State), s.reach ag = true ∧ s.rdA ag Reg.CLS_CMD_BUSY = 0 ∧ s.fwPresent = true ∧ (s.rdA ag Reg.CLS_IDX) < 64) :=
  ⟨⟨.pf, wOn.wr Reg.CLS_CMD_BUSY 1, by decide +kernel⟩,
   ⟨.pf, ((wOn.wr Reg.ADM_STATUS_FW_PRESENT 1).wr Reg.CLS_IDX 9).wr Reg.CLS_DATA 7 0 0, by decide +kernel⟩,
   ⟨.pf, { wOn.wr Reg.ADM_STATUS_FW_PRESENT 1 with cls := { wOn.cls with roots := [(0, 2 ^ 63 + 2 ^ 32)] } }, by decide +kernel⟩,
   ⟨.pf,
    (wOn.wr Reg.ADM_STATUS_FW_PRESENT 1).wr Reg.CLS_IDX 63, by decide +kernel⟩⟩

theorem witness_TreesAndProfilesAreReadAndWritten_5 :
    (∃ (ag : Agent) (s : State), s.reach ag = true ∧ s.rdA ag Reg.CLS_CMD_BUSY = 0 ∧ s.fwPresent = true ∧ 64 ≤ (s.rdA ag Reg.CLS_IDX)) ∧
    (∃ (ag : Agent) (s : State), s.reach ag = true ∧ s.rdA ag Reg.CLS_CMD_BUSY = 0 ∧ s.fwPresent = true ∧ (s.rdA ag Reg.CLS_IDX) < 512) ∧
    (∃ (ag : Agent) (s : State), s.reach ag = true ∧ s.rdA ag Reg.CLS_CMD_BUSY = 0 ∧ s.fwPresent = true ∧ 512 ≤ (s.rdA ag Reg.CLS_IDX)) ∧
    (∃ (ag : Agent) (s : State), s.reach ag = true ∧ s.rdA ag Reg.CLS_CMD_BUSY = 0 ∧ s.fwPresent = true ∧ (s.rdA ag Reg.CLS_IDX) < 64 ∧ 1 ≤
    bits (s.rdWords ag Reg.CLS_DATA) 51 32 ∧ bits (s.rdWords ag Reg.CLS_DATA) 18 0 + bits (s.rdWords ag Reg.CLS_DATA) 51 32 ≤ 524288) :=
  ⟨⟨.pf,
    (wOn.wr Reg.ADM_STATUS_FW_PRESENT 1).wr Reg.CLS_IDX 64, by decide +kernel⟩,
   ⟨.pf, (wOn.wr Reg.ADM_STATUS_FW_PRESENT 1).wr Reg.CLS_IDX 511, by decide +kernel⟩,
   ⟨.pf, (wOn.wr Reg.ADM_STATUS_FW_PRESENT 1).wr Reg.CLS_IDX 512, by decide +kernel⟩,
   ⟨.pf,
    ((wOn.wr Reg.ADM_STATUS_FW_PRESENT 1).wr Reg.CLS_IDX 63).wr Reg.CLS_DATA 1 0 1, by decide +kernel⟩⟩

theorem witness_TreesAndProfilesAreReadAndWritten_6 :
    (∃ (ag : Agent) (s : State), s.reach ag = true ∧ s.rdA ag Reg.CLS_CMD_BUSY = 0 ∧ s.fwPresent = true ∧ (64 ≤ (s.rdA ag Reg.CLS_IDX) ∨ bits
    (s.rdWords ag Reg.CLS_DATA) 51 32 = 0 ∨ 524288 < bits (s.rdWords ag Reg.CLS_DATA) 18 0 + bits (s.rdWords ag Reg.CLS_DATA) 51 32)) ∧
    (∃ (ag : Agent) (s : State), s.reach ag = true ∧ s.rdA ag Reg.CLS_CMD_BUSY = 0 ∧ s.fwPresent = true ∧ (s.rdA ag Reg.CLS_IDX) < 512 ∧ bits
    (s.rdWords ag Reg.CLS_DATA) 7 6 < 3 ∧ bits (s.rdWords ag Reg.CLS_DATA) 5 0 + 2 ^ bits (s.rdWords ag Reg.CLS_DATA) 7 6 ≤ 64) ∧
    (∃ (ag : Agent) (s : State), s.reach ag = true ∧ s.rdA ag Reg.CLS_CMD_BUSY = 0 ∧ s.fwPresent = true ∧ (512 ≤ (s.rdA ag Reg.CLS_IDX) ∨ bits
    (s.rdWords ag Reg.CLS_DATA) 7 6 = 3 ∨ 64 < bits (s.rdWords ag Reg.CLS_DATA) 5 0 + 2 ^ bits (s.rdWords ag Reg.CLS_DATA) 7 6)) ∧
    (∃ (ag : Agent) (st : Nat) (s : State), s.reach ag = true ∧ (if ag.isFw then s.cls.clsStFw else s.cls.clsSt) = some st ∧ st < 16) :=
  ⟨⟨.pf,
    wOn.wr Reg.ADM_STATUS_FW_PRESENT 1, by decide +kernel⟩,
   ⟨.pf,
    ((wOn.wr Reg.ADM_STATUS_FW_PRESENT 1).wr Reg.CLS_IDX 511).wr Reg.CLS_DATA 0x3F 0 0, by decide +kernel⟩,
   ⟨.pf,
    (wOn.wr Reg.ADM_STATUS_FW_PRESENT 1).wr Reg.CLS_DATA 0xC0 0 0, by decide +kernel⟩,
   ⟨.pf,
    1, { wOn with cls := { wOn.cls with clsSt := some 1 } }, by decide +kernel⟩⟩

theorem witness_TreesAndProfilesAreReadAndWritten_7 : (∃ (ag : Agent) (s : State), (if ag.isFw then s.cls.clsStFw else s.cls.clsSt) = none) :=
  ⟨.pf, wOn, by decide +kernel⟩

theorem witness_VersionsAreCommittedAndDrained_1 :
    (∃ (ag : Agent) (s : State), s.reach ag = true ∧ s.rd Reg.CLS_COMMIT_STATUS_GROUP = 0 ∧ s.fwPresent = true) ∧
    (∃ (ag : Agent) (s : State), s.reach ag = true ∧ s.fwPresent = true ∧ s.rd Reg.CLS_COMMIT_STATUS_GROUP ≠ 0) ∧
    (∃ (ag : Agent) (s : State), s.reach ag = true ∧ s.fwPresent = false) ∧
    (∃ (ag : Agent) (version : Nat) (s : State), s.reach ag = true ∧ s.fwPresent = false) :=
  ⟨⟨.pf, wOn.wr
    Reg.ADM_STATUS_FW_PRESENT 1, by decide +kernel⟩,
   ⟨.pf, (wOn.wr
    Reg.ADM_STATUS_FW_PRESENT 1).wr Reg.CLS_COMMIT_STATUS_GROUP 2, by decide +kernel⟩,
   ⟨.pf, wOn, by decide +kernel⟩,
   ⟨.pf, 0, wOn, by decide +kernel⟩⟩

theorem witness_VersionsAreCommittedAndDrained_2 :
    (∃ (ag : Agent) (version : Nat) (s : State), s.reach ag = true ∧ s.rd Reg.CLS_COMMIT_STATUS_GROUP = 1 ∧ s.draining = false ∧ s.fwPresent =
    true ∧ version % 256 ≠ s.rd Reg.CLS_COMMIT_STATUS_CUR_VER) ∧
    (∃ (ag : Agent) (version : Nat) (s : State), s.reach ag = true ∧ s.fwPresent = true ∧ version % 256 = s.rd Reg.CLS_COMMIT_STATUS_CUR_VER) ∧
    (∃ (ag : Agent) (version : Nat) (s : State), s.reach ag = true ∧ s.fwPresent = true ∧ s.rd Reg.CLS_COMMIT_STATUS_GROUP = 1 ∧ s.draining =
    true ∧ version % 256 ≠ s.rd Reg.CLS_COMMIT_STATUS_CUR_VER ∧ version % 256 ≠ s.rd Reg.CLS_COMMIT_STATUS_DRAIN_VER) ∧
    (∃ (ag : Agent) (s : State), s.reach ag = true ∧ s.rd Reg.CLS_COMMIT_STATUS_GROUP ≠ 0) :=
  ⟨⟨.pf, 9, (wOn.wr Reg.ADM_STATUS_FW_PRESENT 1).wr Reg.CLS_COMMIT_STATUS_GROUP
    1, by decide +kernel⟩,
   ⟨.pf, 0, (wOn.wr Reg.ADM_STATUS_FW_PRESENT 1).wr Reg.CLS_COMMIT_STATUS_GROUP 1, by decide +kernel⟩,
   ⟨.pf, 9, ((wOn.wr
    Reg.ADM_STATUS_FW_PRESENT 1).wr Reg.CLS_COMMIT_STATUS_GROUP 1).wr Reg.CLS_COMMIT_STATUS_DRAINING 1, by decide +kernel⟩,
   ⟨.pf, wOn.wr Reg.CLS_COMMIT_STATUS_GROUP 2,
    by decide +kernel⟩⟩

theorem witness_VersionsAreCommittedAndDrained_3 :
    (∃ (ag : Agent) (s : State), s.reach ag = true ∧ s.rd Reg.CLS_COMMIT_STATUS_GROUP = 0) ∧
    (∃ (s : State), s.rd Reg.CLS_COMMIT_STATUS_GROUP = 2 ∧ (s.wave s.active 0).fn = 0 ∧ s.cls.commitAt + 50000 ≤ s.runNs) ∧
    (∃ (s : State), (s.rd Reg.CLS_COMMIT_STATUS_GROUP ≠ 2 ∨ (s.wave s.active 0).fn ≠ 0 ∨ s.runNs < s.cls.commitAt + 50000)) ∧
    (∃ (s : State), s.draining = true ∧ s.inFlight (s.rd Reg.CLS_COMMIT_STATUS_DRAIN_VER) = 0) :=
  ⟨⟨.pf, wOn, by decide +kernel⟩,
   ⟨{ wOn.wr Reg.CLS_COMMIT_STATUS_GROUP 2 with time := { wOn.time with run40 := 2 ^ 60 } }, by decide +kernel⟩,
   ⟨wOn,
    by decide +kernel⟩,
   ⟨wOn.wr Reg.CLS_COMMIT_STATUS_DRAINING 1,
    by decide +kernel⟩⟩

theorem witness_VersionsAreCommittedAndDrained_4 :
    (∃ (s : State), (s.inFlight (s.rd Reg.CLS_COMMIT_STATUS_DRAIN_VER) ≠ 0 ∨ s.draining = false)) ∧
    (∃ (s : State), s.draining = true) ∧
    (∃ (s : State), s.draining = false) ∧
    (∃ (differ : List (Nat × Nat)) (s : State), differ = []) :=
  ⟨⟨{ wOn with host := { wOn.host with buf := [wBuf] } }, by decide +kernel⟩,
   ⟨{ wOn.wr Reg.CLS_COMMIT_STATUS_DRAINING 1 with host := { wOn.host with buf := [wBuf] } },
    by decide +kernel⟩,
   ⟨wOn, by decide +kernel⟩,
   ⟨[], wOn, by decide +kernel⟩⟩

theorem witness_VersionsAreCommittedAndDrained_5 : (∃ (differ : List (Nat × Nat)) (x : Nat × Nat) (s : State), s.fwPresent = true ∧ differ = [x]) :=
  ⟨[(1, 2)], (1, 2), wOn.wr
    Reg.ADM_STATUS_FW_PRESENT 1, by decide +kernel⟩

theorem witness_CrossConnectMapsAreEditedAndSwapped_1 :
    (∃ (ag : Agent) (up : Bool) (active : Bool) (s : State), s.reach ag = true ∧ s.rdA ag Reg.SLU_CM_CMD_BUSY = 0 ∧ active = true) ∧
    (∃ (ag : Agent) (up : Bool) (active : Bool) (s : State), s.reach ag = true ∧ s.rdA ag Reg.SLU_CM_CMD_BUSY = 0 ∧ active = false) ∧
    (∃ (ag : Agent) (up : Bool) (active : Bool) (s : State), s.reach ag = true ∧ s.rdA ag Reg.SLU_CM_CMD_BUSY ≠ 0) ∧
    (∃ (ag : Agent) (up : Bool) (s : State), s.reach ag = true ∧ s.rdA ag Reg.SLU_CM_CMD_BUSY ≠ 0) :=
  ⟨⟨.pf,
    false, true, { wOn with slu := { wOn.slu with cm := [(0, 0x2003)] } }, by decide +kernel⟩,
   ⟨.pf,
    false, false, wOn, by decide +kernel⟩,
   ⟨.pf, false, false,
    wOn.wr Reg.SLU_CM_CMD_BUSY 1, by decide +kernel⟩,
   ⟨.pf, false, wOn.wr Reg.SLU_CM_CMD_BUSY
    1, by decide +kernel⟩⟩

theorem witness_CrossConnectMapsAreEditedAndSwapped_2 :
    (∃ (ag : Agent) (up : Bool) (s : State), s.reach ag = true ∧ s.rdA ag Reg.SLU_CM_CMD_BUSY ≠ 0) ∧
    (∃ (ag : Agent) (up : Bool) (s : State), s.reach ag = true ∧ s.rdA ag Reg.SLU_CM_CMD_BUSY ≠ 0) ∧
    (∃ (ag : Agent) (up : Bool) (pos : Nat) (s : State), s.reach ag = true ∧ s.rdA ag Reg.SLU_CM_CMD_BUSY = 0 ∧ s.rdA ag Reg.SLU_CM_DATA <
    16384 ∧ (s.rdA ag Reg.SLU_CM_IDX) < 4096 ∧ pos < 4096 ∧ s.swapPending = false ∧ s.cmPage up ≤ 1) ∧
    (∃ (ag : Agent) (up : Bool) (s : State), s.reach ag = true ∧ s.rdA ag Reg.SLU_CM_CMD_BUSY = 0 ∧ s.swapPending = true) :=
  ⟨⟨.pf, false, wOn.wr Reg.SLU_CM_CMD_BUSY
    1, by decide +kernel⟩,
   ⟨.pf, false, wOn.wr Reg.SLU_CM_CMD_BUSY
    1, by decide +kernel⟩,
   ⟨.pf, true, 0, (wOn.wr Reg.SLU_CM_DATA
    0x2003).wr Reg.SLU_CM_IDX 4095, by decide +kernel⟩,
   ⟨.pf, false,
    wOn.wr Reg.SLU_STATUS_SWAP_PEND 1, by decide +kernel⟩⟩

theorem witness_CrossConnectMapsAreEditedAndSwapped_3 :
    (∃ (ag : Agent) (up : Bool) (pos : Nat) (s : State), s.reach ag = true ∧ s.rdA ag Reg.SLU_CM_CMD_BUSY = 0 ∧ pos < 4096 ∧ s.swapPending =
    false ∧ s.cmPage up ≤ 1) ∧
    (∃ (ag : Agent) (up : Bool) (s : State), s.reach ag = true ∧ s.rdA ag Reg.SLU_CM_CMD_BUSY = 0 ∧ s.swapPending = true) ∧
    (∃ (ag : Agent) (up : Bool) (pos : Nat) (s : State), s.reach ag = true ∧ s.rdA ag Reg.SLU_CM_CMD_BUSY = 0 ∧ pos < 4096 ∧ s.swapPending =
    false ∧ s.cmPage up ≤ 1) ∧
    (∃ (ag : Agent) (up : Bool) (s : State), s.reach ag = true ∧ s.rdA ag Reg.SLU_CM_CMD_BUSY = 0 ∧ s.swapPending = true) :=
  ⟨⟨.pf, false, 4095, { wOn with slu := { wOn.slu with cm := [(4095, 0x2003), (5000, 1)] } }, by decide +kernel⟩,
   ⟨.pf, false,
    wOn.wr Reg.SLU_STATUS_SWAP_PEND 1, by decide +kernel⟩,
   ⟨.pf, false, 4095, { wOn with slu := { wOn.slu with cm := [(4095, 0x2003), (5000, 1)] } }, by decide +kernel⟩,
   ⟨.pf, false,
    wOn.wr Reg.SLU_STATUS_SWAP_PEND 1, by decide +kernel⟩⟩

theorem witness_CrossConnectMapsAreEditedAndSwapped_4 :
    (∃ (ag : Agent) (st : Nat) (s : State), s.reach ag = true ∧ (if ag.isFw then s.slu.cmStFw else s.slu.cmSt) = some st ∧ st < 16) ∧
    (∃ (ag : Agent) (s : State), (if ag.isFw then s.slu.cmStFw else s.slu.cmSt) = none) ∧
    (∃ (ag : Agent) (v : BitVec 32) (s : State), s.reach ag = true ∧ s.swapPending = false ∧ bit v.toNat 1 + bit v.toNat 2 ≠ 0 ∧ (bit v.toNat 1
    = 0 ∨ s.wellFormedPage false (1 - s.cmPage false) = true) ∧ (bit v.toNat 2 = 0 ∨ s.wellFormedPage true (1 - s.cmPage true) = true) ∧ s.cur
    s.active + 2 ≤ s.rd2 Reg.SLU_SWAP_SFC_LO_EFF_LO Reg.SLU_SWAP_SFC_HI_EFF_HI ∧ s.rd2 Reg.SLU_SWAP_SFC_LO_EFF_LO Reg.SLU_SWAP_SFC_HI_EFF_HI ≤
    s.cur s.active + 4096) ∧
    (∃ (ag : Agent) (v : BitVec 32) (s : State), s.reach ag = true ∧ s.swapPending = true) :=
  ⟨⟨.pf, 1,
    { wOn with slu := { wOn.slu with cmSt := some 1 } }, by decide +kernel⟩,
   ⟨.pf, wOn, by decide +kernel⟩,
   ⟨.pf, 2, wOn.wr Reg.SLU_SWAP_SFC_LO_EFF_LO 2, by decide +kernel⟩,
   ⟨.pf, 2, wOn.wr Reg.SLU_STATUS_SWAP_PEND 1,
    by decide +kernel⟩⟩

theorem witness_CrossConnectMapsAreEditedAndSwapped_5 :
    (∃ (ag : Agent) (v : BitVec 32) (s : State), s.reach ag = true ∧ s.swapPending = false ∧ ((bit v.toNat 1 = 0 ∧ bit v.toNat 2 = 0) ∨ ¬(bit
    v.toNat 1 = 0 ∨ s.wellFormedPage false (1 - s.cmPage false) = true) ∨ ¬(bit v.toNat 2 = 0 ∨ s.wellFormedPage true (1 - s.cmPage true) =
    true))) ∧
    (∃ (ag : Agent) (v : BitVec 32) (s : State), s.reach ag = true ∧ s.swapPending = false ∧ bit v.toNat 1 + bit v.toNat 2 ≠ 0 ∧ (bit v.toNat 1
    = 0 ∨ s.wellFormedPage false (1 - s.cmPage false) = true) ∧ (bit v.toNat 2 = 0 ∨ s.wellFormedPage true (1 - s.cmPage true) = true) ∧ (s.rd2
    Reg.SLU_SWAP_SFC_LO_EFF_LO Reg.SLU_SWAP_SFC_HI_EFF_HI < s.cur s.active + 2 ∨ s.cur s.active + 4096 < s.rd2 Reg.SLU_SWAP_SFC_LO_EFF_LO
    Reg.SLU_SWAP_SFC_HI_EFF_HI)) ∧
    (∃ (ag : Agent) (s : State), s.reach ag = true ∧ s.swapPending = true ∧ s.slu.dnDone = false ∧ s.slu.upDone = false) ∧
    (∃ (ag : Agent) (s : State), (s.slu.dnDone = true ∨ s.slu.upDone = true)) :=
  ⟨⟨.pf, 0, wOn, by decide +kernel⟩,
   ⟨.pf, 2, wOn, by decide +kernel⟩,
   ⟨.pf, wOn.wr
    Reg.SLU_STATUS_SWAP_PEND 1, by decide +kernel⟩,
   ⟨.pf, { wOn with slu := { wOn.slu with dnDone := true } },
    by decide +kernel⟩⟩

theorem witness_CrossConnectMapsAreEditedAndSwapped_6 :
    (∃ (up : Bool) (s : State), up = false ∧ s.swapDue false = true ∧ s.swapPending = true ∧ s.slu.swapDn = true ∧ s.slu.dnDone = false ∧
    (s.slu.swapUp = false ∨ s.slu.upDone = true) ∧ s.rd Reg.SLU_STATUS_DN_PAGE ≤ 1) ∧
    (∃ (up : Bool) (s : State), up = true ∧ s.swapDue true = true ∧ s.swapPending = true ∧ s.slu.swapUp = true ∧ s.slu.upDone = false ∧
    s.slu.swapDn = true ∧ s.slu.dnDone = false ∧ s.rd Reg.SLU_STATUS_UP_PAGE ≤ 1) ∧
    (∃ (up : Bool) (s : State), (s.swapPending = false ∨ s.swapDue up = false)) :=
  ⟨⟨false,
    { wOn.wr Reg.SLU_STATUS_SWAP_PEND 1 with slu := { wOn.slu with swapDn := true } }, by decide +kernel⟩,
   ⟨true,
    { wOn.wr Reg.SLU_STATUS_SWAP_PEND 1 with slu := { wOn.slu with swapDn := true, swapUp := true, upOn := true } }, by decide +kernel⟩,
   ⟨false, wOn, by decide +kernel⟩⟩

theorem witness_SluiceRecordsMove_1 :
    (∃ (lane : Nat) (s : State), lane < 128 ∧ s.isOn Reg.SLU_CTL_EN = true ∧ s.isOn Reg.SLU_DLANE_CTL_EN 0 lane = true ∧ s.slu.late = [] ∧ lane
    ∉ s.slu.wrote ∧ s.rd Reg.SLU_DLANE_CTL_OWNER 0 lane ≠ 255 ∧ s.laneOwnerUp (s.rd Reg.SLU_DLANE_CTL_OWNER 0 lane) = true ∧ s.laneFull lane =
    false) ∧
    (∃ (lane : Nat) (s : State), lane < 128 ∧ s.isOn Reg.SLU_CTL_EN = true ∧ s.isOn Reg.SLU_DLANE_CTL_EN 0 lane = true ∧ s.slu.late = [] ∧ lane
    ∉ s.slu.wrote ∧ s.rd Reg.SLU_DLANE_CTL_OWNER 0 lane ≠ 255 ∧ (s.laneOwnerUp (s.rd Reg.SLU_DLANE_CTL_OWNER 0 lane) = false ∨ s.laneFull lane
    = true)) ∧
    (∃ (lane : Nat) (s : State), s.isOn Reg.SLU_DLANE_CTL_EN 0 lane = false) ∧
    (∃ (lane : Nat) (sfc : BitVec 48) (fn : Nat) (data : HostRead) (b : List Byte) (s : State), lane < 128 ∧ s.isOn Reg.SLU_CTL_EN = true ∧
    s.isOn Reg.SLU_ULANE_CTL_EN 0 lane = true ∧ 8 * (s.leg s.active).upSfc + (s.leg s.active).upFn < 8 * sfc.toNat + fn % 8 ∧ lane ∉ (if
    s.slu.nextFor = 2 * (8 * sfc.toNat + fn % 8) + s.active.n then s.slu.nextSeen else []) ∧ s.rd Reg.SLU_ULANE_CTL_OWNER 0 lane ≠ 255 ∧
    s.laneOwnerUp (s.rd Reg.SLU_ULANE_CTL_OWNER 0 lane) = true ∧ s.rd Reg.SLU_ULANE_CONS 0 lane ≠ s.rd Reg.SLU_ULANE_PROD 0 lane ∧ data = .data
    b) :=
  ⟨⟨127, ((wLink.wr Reg.SLU_CTL_EN 1).wr Reg.SLU_DLANE_CTL_EN 1 0 127).wr Reg.SLU_DLANE_CTL_OWNER 0 0 127, by decide +kernel⟩,
   ⟨127, (wOn.wr Reg.SLU_CTL_EN 1).wr Reg.SLU_DLANE_CTL_EN 1 0 127 |>.wr Reg.SLU_DLANE_CTL_OWNER 0 0 127, by decide +kernel⟩,
   ⟨0, wOn, by decide +kernel⟩,
   ⟨127, 1, 0, .data (zeros 16), zeros 16, (((wLink.wr Reg.SLU_CTL_EN 1).wr Reg.SLU_ULANE_CTL_EN 1 0 127).wr Reg.SLU_ULANE_CTL_OWNER 0 0
    127).wr Reg.SLU_ULANE_PROD 1 0 127, by decide +kernel⟩⟩

theorem witness_SluiceRecordsMove_2 :
    (∃ (lane : Nat) (sfc : BitVec 48) (fn : Nat) (data : HostRead) (s : State), lane < 128 ∧ s.isOn Reg.SLU_CTL_EN = true ∧ s.isOn
    Reg.SLU_ULANE_CTL_EN 0 lane = true ∧ 8 * (s.leg s.active).upSfc + (s.leg s.active).upFn < 8 * sfc.toNat + fn % 8 ∧ lane ∉ (if s.slu.nextFor
    = 2 * (8 * sfc.toNat + fn % 8) + s.active.n then s.slu.nextSeen else []) ∧ s.rd Reg.SLU_ULANE_CTL_OWNER 0 lane ≠ 255 ∧ s.rd
    Reg.SLU_ULANE_CONS 0 lane = s.rd Reg.SLU_ULANE_PROD 0 lane) ∧
    (∃ (lane : Nat) (sfc : BitVec 48) (fn : Nat) (data : HostRead) (why : ReadFault) (s : State), lane < 128 ∧ s.isOn Reg.SLU_CTL_EN = true ∧
    s.isOn Reg.SLU_ULANE_CTL_EN 0 lane = true ∧ 8 * (s.leg s.active).upSfc + (s.leg s.active).upFn < 8 * sfc.toNat + fn % 8 ∧ lane ∉ (if
    s.slu.nextFor = 2 * (8 * sfc.toNat + fn % 8) + s.active.n then s.slu.nextSeen else []) ∧ s.rd Reg.SLU_ULANE_CTL_OWNER 0 lane ≠ 255 ∧
    s.laneOwnerUp (s.rd Reg.SLU_ULANE_CTL_OWNER 0 lane) = true ∧ s.rd Reg.SLU_ULANE_CONS 0 lane ≠ s.rd Reg.SLU_ULANE_PROD 0 lane ∧ data = .fail
    why) ∧
    (∃ (lane : Nat) (sfc : BitVec 48) (fn : Nat) (data : HostRead) (s : State), (s.isOn Reg.SLU_CTL_EN = false ∨ s.isOn Reg.SLU_ULANE_CTL_EN 0
    lane = false)) :=
  ⟨⟨127, 1, 0, .data [], ((wLink.wr Reg.SLU_CTL_EN 1).wr Reg.SLU_ULANE_CTL_EN 1
    0 127).wr Reg.SLU_ULANE_CTL_OWNER 0 0 127, by decide +kernel⟩,
   ⟨127, 1, 0, .fail .timedOut, .timedOut, (((wLink.wr Reg.SLU_CTL_EN 1).wr Reg.SLU_ULANE_CTL_EN 1 0 127).wr Reg.SLU_ULANE_CTL_OWNER 0
    0 127).wr Reg.SLU_ULANE_PROD 1 0 127, by decide +kernel⟩,
   ⟨0, 0, 0, .data [], wOn, by decide +kernel⟩⟩

theorem witness_DefectsAreDeclaredAndCleared_1 :
    (∃ (l : Leg) (w : Nat) (s : State), w < 4 ∧ s.detecting l w = true ∧ s.lanesOn l = true ∧ s.rd Reg.PWR_STATUS_STATE < 4 ∧ s.pwr.off = false
    ∧ s.pwr.asleep = false) ∧
    (∃ (l : Leg) (w : Nat) (s : State), (s.detecting l w = false ∨ 4 ≤ w)) ∧
    (∃ (l : Leg) (w : Nat) (s : State), w < 4 ∧ s.detecting l w = true ∧ s.lanesOn l = true ∧ s.rd Reg.PWR_STATUS_STATE < 4 ∧ s.pwr.off = false
    ∧ s.pwr.asleep = false) ∧
    (∃ (l : Leg) (w : Nat) (s : State), (s.detecting l w = false ∨ 4 ≤ w)) :=
  ⟨⟨.a, 3, (((wOn.wr Reg.OPT_STATUS_PRESENT 1 0).wr Reg.OPT_STATUS_BRINGUP 3 0).wr Reg.OPT_LANE_MODE 1 0 3).wr
    Reg.OPT_CTL_LANES_EN 1 0, by decide +kernel⟩,
   ⟨.a, 0, wOn, by decide +kernel⟩,
   ⟨.a, 3, ((((wOn.wr Reg.OPT_STATUS_PRESENT 1 0).wr Reg.OPT_STATUS_BRINGUP 3 0).wr Reg.OPT_LANE_MODE 1 0 3).wr
    Reg.OPT_CTL_LANES_EN 1 0).wr Reg.PROT_DEF_LOS 8 0, by decide +kernel⟩,
   ⟨.a, 4, wOn, by decide +kernel⟩⟩

theorem witness_DefectsAreDeclaredAndCleared_2 :
    (∃ (l : Leg) (w : Nat) (s : State), 4 ≤ w) ∧
    (∃ (l : Leg) (w : Nat) (s : State), w < 4 ∧ (s.wave l w).whole = false) ∧
    (∃ (l : Leg) (w : Nat) (s : State), w < 4 ∧ (s.wave l w).whole = true ∧ s.detecting l w = true ∧ s.lanesOn l = true ∧ s.rd
    Reg.PWR_STATUS_STATE < 4 ∧ s.pwr.off = false ∧ s.pwr.asleep = false ∧ max 1 (s.rd Reg.PROT_SF_CTL_SF_CW) ≤ (s.wave l w).uncorr) ∧
    (∃ (s : State), s.isOn Reg.PROT_STATUS_HOLDOFF = true) :=
  ⟨⟨.a, 4, wOn, by decide +kernel⟩,
   ⟨.a, 3, wOn, by decide +kernel⟩,
   ⟨.a, 3,
    ((((wOn.wr Reg.OPT_STATUS_PRESENT 1 0).wr Reg.OPT_STATUS_BRINGUP 3 0).wr Reg.OPT_LANE_MODE 1 0 3).wr Reg.OPT_CTL_LANES_EN 1 0).updWave .a 3
    fun v => { v with whole := true, uncorr := 1000000 }, by decide +kernel⟩,
   ⟨wOn.wr Reg.PROT_STATUS_HOLDOFF 1, by decide +kernel⟩⟩

theorem witness_DefectsAreDeclaredAndCleared_3 : (∃ (s : State), s.isOn Reg.PROT_STATUS_HOLDOFF = false) :=
  ⟨wOn, by decide +kernel⟩

theorem witness_ProtectionCommandsSwitchTheLeg_1 :
    (∃ (s : State), s.isOn Reg.PROT_STATUS_SWITCHING = false ∧ s.fwPresent = true) ∧
    (∃ (s : State), s.isOn Reg.PROT_STATUS_SWITCHING = true) ∧
    (∃ (s : State), s.isOn Reg.PROT_STATUS_SWITCHING = false ∧ s.fwPresent = false) ∧
    (∃ (l : Leg) (s : State), s.isOn Reg.PROT_STATUS_SWITCHING = true) :=
  ⟨⟨(wOn.wr Reg.ADM_STATUS_FW_PRESENT 1).wr
    Reg.PROT_STATUS_FORCED 1, by decide +kernel⟩,
   ⟨wOn.wr Reg.PROT_STATUS_SWITCHING 1, by decide +kernel⟩,
   ⟨wOn, by decide +kernel⟩,
   ⟨.a, wOn.wr Reg.PROT_STATUS_SWITCHING 1, by decide +kernel⟩⟩

theorem witness_ProtectionCommandsSwitchTheLeg_2 :
    (∃ (l : Leg) (s : State), s.isOn Reg.PROT_STATUS_SWITCHING = false ∧ s.fwPresent = false) ∧
    (∃ (l : Leg) (s : State), s.isOn Reg.PROT_STATUS_SWITCHING = true) ∧
    (∃ (l : Leg) (s : State), s.isOn Reg.PROT_STATUS_SWITCHING = false ∧ s.fwPresent = false) ∧
    (∃ (l : Leg) (s : State), s.isOn Reg.PROT_STATUS_SWITCHING = false ∧ s.fwPresent = true ∧ s.rd Reg.ACT_STATUS_STATE l.n = 5 ∧ l ≠ s.active) :=
  ⟨⟨.a, wOn, by decide +kernel⟩,
   ⟨.a, wOn.wr Reg.PROT_STATUS_SWITCHING 1, by decide +kernel⟩,
   ⟨.a, wOn, by decide +kernel⟩,
   ⟨.b, ((wOn.wr Reg.ACT_CTL_ENABLE 1 1).wr Reg.ACT_STATUS_STATE 5 1).wr Reg.ADM_STATUS_FW_PRESENT 1, by decide +kernel⟩⟩

theorem witness_ProtectionCommandsSwitchTheLeg_3 :
    (∃ (l : Leg) (s : State), s.isOn Reg.PROT_STATUS_SWITCHING = false ∧ s.fwPresent = true ∧ s.rd Reg.ACT_STATUS_STATE l.n ≠ 5) ∧
    (∃ (l : Leg) (s : State), s.isOn Reg.PROT_STATUS_SWITCHING = false ∧ s.fwPresent = true ∧ l ≠ s.active ∧ s.available l = true ∧ 6 ≤
    s.standing) ∧
    (∃ (l : Leg) (s : State), s.isOn Reg.PROT_STATUS_SWITCHING = false ∧ s.fwPresent = true ∧ l = s.active) ∧
    (∃ (l : Leg) (s : State), s.isOn Reg.PROT_STATUS_SWITCHING = false ∧ s.fwPresent = true ∧ l ≠ s.active ∧ s.standing < 6) :=
  ⟨⟨.a, wOn.wr
    Reg.ADM_STATUS_FW_PRESENT 1, by decide +kernel⟩,
   ⟨.b, ((wOn.wr Reg.ACT_CTL_ENABLE 1 1).wr Reg.ACT_STATUS_STATE 5 1).wr Reg.ADM_STATUS_FW_PRESENT 1, by decide +kernel⟩,
   ⟨.a, wOn.wr
    Reg.ADM_STATUS_FW_PRESENT 1, by decide +kernel⟩,
   ⟨.b, (((wOn.wr
    Reg.ACT_CTL_ENABLE 1 1).wr Reg.ACT_STATUS_STATE 5 1).wr Reg.ADM_STATUS_FW_PRESENT 1).wr Reg.PROT_STATUS_FORCED 1, by decide +kernel⟩⟩

theorem witness_ProtectionCommandsSwitchTheLeg_4 :
    (∃ (l : Leg) (s : State), s.isOn Reg.PROT_CTL_FW_SWITCH = true ∧ s.fwPresent = true ∧ s.isOn Reg.PROT_STATUS_SWITCHING = false ∧ l ≠
    s.active ∧ s.available l = true ∧ 2 ≤ s.standing) ∧
    (∃ (l : Leg) (s : State), s.isOn Reg.PROT_CTL_FW_SWITCH = true ∧ s.fwPresent = true ∧ s.isOn Reg.PROT_STATUS_SWITCHING = true) ∧
    (∃ (l : Leg) (s : State), (s.isOn Reg.PROT_CTL_FW_SWITCH = false ∨ s.fwPresent = false)) ∧
    (∃ (l : Leg) (msg : BitVec 384) (s : State), Hears s l ∧ s.takes l 0x0D msg false 0 = true ∧ s.fwPresent = true ∧ s.isOn
    Reg.PROT_STATUS_SWITCHING = false ∧ (if mfield msg 6 1 % 2 = 1 then l else l.other) ≠ s.active ∧ s.available (if mfield msg 6 1 % 2 = 1
    then l else l.other) = true ∧ 3 ≤ s.standing) :=
  ⟨⟨.b, (((wOn.wr Reg.ACT_CTL_ENABLE 1 1).wr Reg.ACT_STATUS_STATE 5 1).wr
    Reg.ADM_STATUS_FW_PRESENT 1).wr Reg.PROT_CTL_FW_SWITCH 1, by decide +kernel⟩,
   ⟨.a,
    ((((wOn.wr Reg.ACT_CTL_ENABLE 1 1).wr Reg.ACT_STATUS_STATE 5 1).wr Reg.ADM_STATUS_FW_PRESENT 1).wr Reg.PROT_CTL_FW_SWITCH 1).wr
    Reg.PROT_STATUS_SWITCHING 1, by decide +kernel⟩,
   ⟨.a, wOn.wr Reg.PROT_CTL_FW_SWITCH 0,
    by decide +kernel⟩,
   ⟨.b, wMsg 0x3FF 0x0D 7 [1], wMs ((((wOn.wr Reg.ACT_CTL_ENABLE 1 1).wr Reg.ACT_STATUS_STATE
    5 1).wr Reg.ADM_STATUS_FW_PRESENT 1).upd .b fun g => { g with partOk := true, nmsg := 3 }), by decide +kernel⟩⟩

theorem witness_ProtectionCommandsSwitchTheLeg_5 :
    (∃ (l : Leg) (msg : BitVec 384) (s : State), Hears s l ∧ s.takes l 0x0D msg false 0 = true ∧ s.fwPresent = true ∧ s.hasTn l = true ∧ s.isOn
    Reg.PROT_STATUS_SWITCHING = false ∧ (if mfield msg 6 1 % 2 = 1 then l else l.other) = s.active) ∧
    (∃ (s : State), s.isOn Reg.PROT_STATUS_SWITCHING = true ∧ s.prot.waiting = [] ∧ s.prot.deferred = [] ∧ s.cur s.active < 2 ^ 48) ∧
    (∃ (s : State), s.isOn Reg.PROT_STATUS_SWITCHING = false) ∧
    (∃ (s : State), s.isOn Reg.PROT_STATUS_WTR = true ∧ s.fwPresent = true ∧ s.isOn Reg.PROT_STATUS_SWITCHING = false ∧ s.pref ≠ s.active ∧
    s.available s.pref = true ∧ 7 ≤ s.standing) :=
  ⟨⟨.a, wMsg 5 0x0D 7 [1], wMs (wTn.wr
    Reg.ADM_STATUS_FW_PRESENT 1), by decide +kernel⟩,
   ⟨wOn.wr
    Reg.PROT_STATUS_SWITCHING 1, by decide +kernel⟩,
   ⟨wOn, by decide +kernel⟩,
   ⟨((((wOn.wr Reg.ACT_CTL_ENABLE 1 1).wr Reg.ACT_STATUS_STATE 5 1).wr
    Reg.ADM_STATUS_FW_PRESENT 1).wr Reg.PROT_STATUS_WTR 1).wr Reg.PROT_CTL_PREF 1, by decide +kernel⟩⟩

theorem witness_ProtectionCommandsSwitchTheLeg_6 :
    (∃ (s : State), s.isOn Reg.PROT_STATUS_WTR = true ∧ s.fwPresent = false) ∧
    (∃ (s : State), s.isOn Reg.PROT_STATUS_WTR = false) :=
  ⟨⟨wOn.wr Reg.PROT_STATUS_WTR 1, by decide +kernel⟩,
   ⟨wOn, by decide +kernel⟩⟩

theorem witness_SecondsAndBinsAreKept_1 :
    (∃ (s : State), s.isOn Reg.PROT_STATUS_WTR = true) ∧
    (∃ (l : Leg) (w : Nat) (s : State), w < 6 ∧ s.isOn Reg.PM_CTL_EN = true ∧ s.rd Reg.PM_LEG_STATE l.n = 0) ∧
    (∃ (x : Sec) (w : Nat) (s : State), (s.pm.secs.get .a).length = 11 ∧ (s.pm.secs.get .b).length < 11 ∧ (s.pm.secs.get .a).getLast? = some x
    ∧ x.counts = true ∧ w ≤ 4 ∧ bit (s.rd Reg.PM_LEG_UNAVAIL 0) w = 0 ∧ bit x.ses w = 0) ∧
    (∃ (s : State), (s.pm.secs.get .a).length < 11 ∧ (s.pm.secs.get .b).length < 11) :=
  ⟨⟨(wOn.wr Reg.PROT_STATUS_WTR 1).wr Reg.PROT_WTR_LEFT_SECONDS 60, by decide +kernel⟩,
   ⟨.b, 5, (wOn.wr Reg.PM_CTL_EN
    1).wr Reg.PM_LEG_STATE 0 1, by decide +kernel⟩,
   ⟨{ es := 31, ses := 0, counts := true }, 4,
    { wOn with pm := { wOn.pm with secs := ⟨List.replicate 11 { es := 31, ses := 0, counts := true }, []⟩ } }, by decide +kernel⟩,
   ⟨wOn, by decide +kernel⟩⟩

theorem witness_SecondsAndBinsAreKept_2 :
    (∃ (l : Leg) (w : Nat) (s : State), w < 6 ∧ s.isOn Reg.PM_CTL_EN = true ∧ s.alignedSec % 900 = 0 ∧ s.alignedSec % 86400 ≠ 0) ∧
    (∃ (s : State), (s.isOn Reg.PM_CTL_EN = false ∨ s.alignedSec % 900 ≠ 0)) ∧
    (∃ (ag : Agent) (v : BitVec 32) (b : Bin) (s : State), s.reach ag = true ∧ s.binAt (Leg.ofBit (bit v.toNat 0)) (bits v.toNat 3 1) (bit
    v.toNat 4) (bits v.toNat 14 8) = some b) ∧
    (∃ (ag : Agent) (v : BitVec 32) (s : State), s.reach ag = true ∧ s.binAt (Leg.ofBit (bit v.toNat 0)) (bits v.toNat 3 1) (bit v.toNat 4)
    (bits v.toNat 14 8) = none) :=
  ⟨⟨.b, 5,
    { wOn.wr Reg.PM_CTL_EN 1 with time := { wOn.time with now40 := 900 * 1000000000 * 2 ^ 40 } }, by decide +kernel⟩,
   ⟨{ wOn with time := { wOn.time with now40 := 2 ^ 71 } },
    by decide +kernel⟩,
   ⟨.pf, 2, { ({} : Bin) with active := false, start := 77 },
    { wOn with pm := { wOn.pm with cur15 := [(1, { ({} : Bin) with start := 77 })] } }.wr Reg.PROT_STATUS_ACTIVE 1, by decide +kernel⟩,
   ⟨.pf, 0x100, wOn, by decide +kernel⟩⟩

theorem witness_SecondsAndBinsAreKept_3 :
    (∃ (ag : Agent) (l : Leg) (v : BitVec 32) (s : State), s.reach ag = true ∧ bit v.toNat 2 = 1) ∧
    (∃ (ag : Agent) (l : Leg) (v : BitVec 32) (s : State), s.reach ag = false) :=
  ⟨⟨.pf, .a, 4, wOn, by decide +kernel⟩,
   ⟨.bmc, .a, 0, wOn, by decide +kernel⟩⟩

theorem witness_ShortAdminCommandsAreAnswered_1 :
    (∃ (e : List Byte) (st : Nat) (s : State), s.admReady = true ∧ s.admGate 0x00 = some st ∧ st ≠ 0) ∧
    (∃ (e : List Byte) (s : State), s.admReady = true ∧ s.admGate 0x00 = none ∧ (admOp e ≠ 0x00 ∨ admClean e ([]) = false)) ∧
    (∃ (e : List Byte) (st : Nat) (s : State), s.admReady = true ∧ s.admGate 0x01 = some st ∧ st ≠ 0) ∧
    (∃ (e : List Byte) (s : State), s.admReady = true ∧ s.admGate 0x01 = none ∧ (admOp e ≠ 0x01 ∨ admClean e (wholeBytes 16 8) = false)) :=
  ⟨⟨wCmd 0x00, 11, (wOn.wr
    Reg.ADM_SQ_CTL_SQ_EN 1).wr Reg.ADM_SQ_IDX_SQ_PROD 1, by decide +kernel⟩,
   ⟨[0xEE], wAdm,
    by decide +kernel⟩,
   ⟨wCmd 0x01, 11, (wOn.wr
    Reg.ADM_SQ_CTL_SQ_EN 1).wr Reg.ADM_SQ_IDX_SQ_PROD 1, by decide +kernel⟩,
   ⟨[0xEE], wAdm, by decide +kernel⟩⟩

theorem witness_ShortAdminCommandsAreAnswered_2 :
    (∃ (e : List Byte) (st : Nat) (s : State), s.admReady = true ∧ s.admGate 0x02 = some st ∧ st ≠ 0) ∧
    (∃ (e : List Byte) (s : State), s.admReady = true ∧ s.admGate 0x02 = none ∧ (admOp e ≠ 0x02 ∨ admClean e ([]) = false)) ∧
    (∃ (e : List Byte) (st : Nat) (s : State), s.admReady = true ∧ s.admGate 0x06 = some st ∧ st ≠ 0) ∧
    (∃ (e : List Byte) (s : State), s.admReady = true ∧ s.admGate 0x06 = none ∧ (admOp e ≠ 0x06 ∨ admClean e ([]) = false)) :=
  ⟨⟨wCmd 0x02, 11, (wOn.wr
    Reg.ADM_SQ_CTL_SQ_EN 1).wr Reg.ADM_SQ_IDX_SQ_PROD 1, by decide +kernel⟩,
   ⟨[0xEE], wAdm,
    by decide +kernel⟩,
   ⟨wCmd 0x06, 11, (wOn.wr
    Reg.ADM_SQ_CTL_SQ_EN 1).wr Reg.ADM_SQ_IDX_SQ_PROD 1, by decide +kernel⟩,
   ⟨[0xEE], wAdm,
    by decide +kernel⟩⟩

theorem witness_ShortAdminCommandsAreAnswered_3 :
    (∃ (e : List Byte) (key : HostRead) (st : Nat) (s : State), s.admReady = true ∧ s.admGate 0x08 = some st ∧ st ≠ 0) ∧
    (∃ (e : List Byte) (key : HostRead) (s : State), s.admReady = true ∧ s.admGate 0x08 = none ∧ (admOp e ≠ 0x08 ∨ admClean e ([(8, 255), (9,
    1), (10, 255)] ++ wholeBytes 16 8) = false)) ∧
    (∃ (e : List Byte) (st : Nat) (s : State), s.admReady = true ∧ s.admGate 0x09 = some st ∧ st ≠ 0) ∧
    (∃ (e : List Byte) (s : State), s.admReady = true ∧ s.admGate 0x09 = none ∧ (admOp e ≠ 0x09 ∨ admClean e ([(8, 255), (9, 1)]) = false)) :=
  ⟨⟨wCmd 0x08, .data [],
    11, (wOn.wr Reg.ADM_SQ_CTL_SQ_EN 1).wr Reg.ADM_SQ_IDX_SQ_PROD 1, by decide +kernel⟩,
   ⟨[0xEE], .data [], wAdm, by decide +kernel⟩,
   ⟨wCmd 0x09, 11, (wOn.wr
    Reg.ADM_SQ_CTL_SQ_EN 1).wr Reg.ADM_SQ_IDX_SQ_PROD 1, by decide +kernel⟩,
   ⟨[0xEE], wAdm, by decide +kernel⟩⟩

theorem witness_ShortAdminCommandsAreAnswered_4 :
    (∃ (e : List Byte) (st : Nat) (s : State), s.admReady = true ∧ s.admGate 0x0B = some st ∧ st ≠ 0) ∧
    (∃ (e : List Byte) (s : State), s.admReady = true ∧ s.admGate 0x0B = none ∧ (admOp e ≠ 0x0B ∨ admClean e ([]) = false)) ∧
    (∃ (e : List Byte) (st : Nat) (s : State), s.admReady = true ∧ s.admGate 0x0C = some st ∧ st ≠ 0) ∧
    (∃ (e : List Byte) (s : State), s.admReady = true ∧ s.admGate 0x0C = none ∧ (admOp e ≠ 0x0C ∨ admClean e ([(8, 3)]) = false)) :=
  ⟨⟨wCmd 0x0B, 11, (wOn.wr
    Reg.ADM_SQ_CTL_SQ_EN 1).wr Reg.ADM_SQ_IDX_SQ_PROD 1, by decide +kernel⟩,
   ⟨[0xEE], wAdm,
    by decide +kernel⟩,
   ⟨wCmd 0x0C, 11, (wOn.wr
    Reg.ADM_SQ_CTL_SQ_EN 1).wr Reg.ADM_SQ_IDX_SQ_PROD 1, by decide +kernel⟩,
   ⟨[0xEE],
    wAdm, by decide +kernel⟩⟩

theorem witness_ShortAdminCommandsAreAnswered_5 :
    (∃ (e : List Byte) (key : HostRead) (st : Nat) (s : State), s.admReady = true ∧ s.admGate 0x0D = some st ∧ st ≠ 0) ∧
    (∃ (e : List Byte) (key : HostRead) (s : State), s.admReady = true ∧ s.admGate 0x0D = none ∧ (admOp e ≠ 0x0D ∨ admClean e (wholeBytes 16 8)
    = false)) ∧
    (∃ (e : List Byte) (s : State), s.admReady = false) ∧
    (∃ (e : List Byte) (s : State), s.admReady = true ∧ s.admGate 0x00 = none ∧ admOp e = 0x00 ∧ admClean e ([]) = true) :=
  ⟨⟨wCmd 0x0D, .data [],
    11, (wOn.wr Reg.ADM_SQ_CTL_SQ_EN 1).wr Reg.ADM_SQ_IDX_SQ_PROD 1, by decide +kernel⟩,
   ⟨[0xEE], .data [], wAdm, by decide +kernel⟩,
   ⟨[], wOn, by decide +kernel⟩,
   ⟨wCmd 0, wAdm,
    by decide +kernel⟩⟩

theorem witness_ShortAdminCommandsAreAnswered_6 :
    (∃ (e : List Byte) (s : State), s.admReady = true ∧ s.admGate 0x01 = none ∧ admOp e = 0x01 ∧ admClean e (wholeBytes 16 8) = true ∧ s.canDma
    0 = true) ∧
    (∃ (e : List Byte) (s : State), s.admReady = true ∧ s.admGate 0x01 = none ∧ admOp e = 0x01 ∧ admClean e (wholeBytes 16 8) = true ∧ s.canDma
    0 = false) ∧
    (∃ (e : List Byte) (i : Nat) (s : State), s.admReady = true ∧ s.admGate 0x02 = none ∧ admOp e = 0x02 ∧ admClean e ([]) = true ∧ s.opOf
    (admHandle e) = some i) ∧
    (∃ (e : List Byte) (s : State), s.admReady = true ∧ s.admGate 0x02 = none ∧ admOp e = 0x02 ∧ admClean e ([]) = true ∧ s.opOf (admHandle e)
    = none) :=
  ⟨⟨wCmd 1 (zeros 8 ++ leBytes 8 4096), wAdm, by decide +kernel⟩,
   ⟨wCmd 1 (zeros 8 ++ leBytes 8 4096), wAdm.wr Reg.HIF_LINK_UP 0, by decide +kernel⟩,
   ⟨wCmd 2 [] 5, 0, wOp 0x46 1, by decide +kernel⟩,
   ⟨wCmd 2 [] 5, wAdm, by decide +kernel⟩⟩

theorem witness_ShortAdminCommandsAreAnswered_7 :
    (∃ (e : List Byte) (y : Settings) (s : State), s.admReady = true ∧ s.admGate 0x06 = none ∧ admOp e = 0x06 ∧ admClean e ([]) = true ∧
    s.settingsOf s.runSlot = some (y, 0)) ∧
    (∃ (e : List Byte) (y : Settings) (s : State), s.admReady = true ∧ s.admGate 0x06 = none ∧ admOp e = 0x06 ∧ admClean e ([]) = true ∧
    s.settingsOf s.runSlot = some (y, 1)) ∧
    (∃ (e : List Byte) (s : State), s.admReady = true ∧ s.admGate 0x06 = none ∧ admOp e = 0x06 ∧ admClean e ([]) = true ∧ s.unreadable
    s.runSlot = true) ∧
    (∃ (e : List Byte) (key : HostRead) (b : List Byte) (s : State), s.admReady = true ∧ s.admGate 0x08 = none ∧ admOp e = 0x08 ∧ admClean e
    ([(8, 255), (9, 1), (10, 255)] ++ wholeBytes 16 8) = true ∧ s.canDma 0 = true ∧ key = .data b ∧ admPar e 10 1 ≤ 128 ∧ s.lineSlots ≤ (admPar
    e 8 2 % 512) ∧ (s.slot (admPar e 8 2 % 512)).kind = 0) :=
  ⟨⟨wCmd 6, { schema := 65535, seq := 3, fields := [] }, wAdm.setFlash fun f =>
    { f with set0 := Settings.bytes { schema := 65535, seq := 3, fields := [] } }, by decide +kernel⟩,
   ⟨wCmd 6, { schema := 65535, seq := 3, fields := [] }, wAdm.setFlash fun f =>
    { f with set1 := Settings.bytes { schema := 65535, seq := 3, fields := [] } }, by decide +kernel⟩,
   ⟨wCmd 6, wAdm, by decide +kernel⟩,
   ⟨wCmd 8 [0xFF, 1], .data (zeros 32), zeros 32, wAdm, by decide +kernel⟩⟩

theorem witness_ShortAdminCommandsAreAnswered_8 :
    (∃ (e : List Byte) (key : HostRead) (b : List Byte) (s : State), s.admReady = true ∧ s.admGate 0x08 = none ∧ admOp e = 0x08 ∧ admClean e
    ([(8, 255), (9, 1), (10, 255)] ++ wholeBytes 16 8) = true ∧ s.canDma 0 = true ∧ key = .data b ∧ admPar e 10 1 ≤ 128 ∧ (s.slot (admPar e 8 2
    % 512)).kind ≠ 0) ∧
    (∃ (e : List Byte) (key : HostRead) (s : State), s.admReady = true ∧ s.admGate 0x08 = none ∧ admOp e = 0x08 ∧ admClean e ([(8, 255), (9,
    1), (10, 255)] ++ wholeBytes 16 8) = true ∧ s.canDma 0 = false ∧ admPar e 10 1 ≤ 128) ∧
    (∃ (e : List Byte) (s : State), s.admReady = true ∧ s.admGate 0x09 = none ∧ admOp e = 0x09 ∧ admClean e ([(8, 255), (9, 1)]) = true ∧
    (s.slot (admPar e 8 2 % 512)).kind = 2) ∧
    (∃ (e : List Byte) (s : State), s.admReady = true ∧ s.admGate 0x09 = none ∧ admOp e = 0x09 ∧ admClean e ([(8, 255), (9, 1)]) = true ∧
    (s.slot (admPar e 8 2 % 512)).kind ≠ 2) :=
  ⟨⟨wCmd 8 [0xFF, 1], .data (zeros 32), zeros 32, wAdm.setKeySlot 511 { kind := 1, keys := [(0, 5)] }, by decide +kernel⟩,
   ⟨wCmd 8 [0xFF, 1], .data (zeros 32), wAdm.wr
    Reg.HIF_LINK_UP 0, by decide +kernel⟩,
   ⟨wCmd 9 [0xFF, 1], wAdm.setKeySlot 511 { kind := 2, keys := [(0, 5)] }, by decide +kernel⟩,
   ⟨wCmd 9 [0xFF, 1], wAdm, by decide +kernel⟩⟩

theorem witness_ShortAdminCommandsAreAnswered_9 :
    (∃ (e : List Byte) (s : State), s.admReady = true ∧ s.admGate 0x0B = none ∧ admOp e = 0x0B ∧ admClean e ([]) = true ∧ s.isOn
    Reg.FW_STATUS_TRIAL = true ∧ s.bootRec.seq < 2 ^ 32 - 1) ∧
    (∃ (e : List Byte) (s : State), s.admReady = true ∧ s.admGate 0x0B = none ∧ admOp e = 0x0B ∧ admClean e ([]) = true ∧ s.isOn
    Reg.FW_STATUS_TRIAL = false) ∧
    (∃ (e : List Byte) (s : State), s.admReady = true ∧ s.admGate 0x0C = none ∧ admOp e = 0x0C ∧ admClean e ([(8, 3)]) = true ∧ s.lcRefusal
    (admPar e 8 1) = none ∧ present commitBits (blown commitBits (if admPar e 8 1 = 1 then s.fw.fuse.commit1 else if admPar e 8 1 = 2 then
    s.fw.fuse.commit2 else s.fw.fuse.commit3)) = true) ∧
    (∃ (e : List Byte) (s : State), s.admReady = true ∧ s.admGate 0x0C = none ∧ admOp e = 0x0C ∧ admClean e ([(8, 3)]) = true ∧ s.fw.lcArm =
    none) :=
  ⟨⟨wCmd 0x0B, wAdm.wr Reg.FW_STATUS_TRIAL 1, by decide +kernel⟩,
   ⟨wCmd 0x0B, wAdm, by decide +kernel⟩,
   ⟨wCmd 0x0C [3], { wAdm with fw := { wAdm.fw with lcArm := some (3, 0) } },
    by decide +kernel⟩,
   ⟨wCmd 0x0C [3], wAdm, by decide +kernel⟩⟩

theorem witness_ShortAdminCommandsAreAnswered_10 :
    (∃ (e : List Byte) (key : HostRead) (b : List Byte) (s : State), s.admReady = true ∧ s.admGate 0x0D = none ∧ admOp e = 0x0D ∧ admClean e
    (wholeBytes 16 8) = true ∧ s.canDma 0 = true ∧ key = .data b ∧ s.provisioned = true ∧ s.fw.fuse.cosign.length < 4 ∧ Crypto.ecdsaVerify
    (beNat (slice b 0 48)) (beNat (slice b 48 48)) (hdrDigest (s.hdr s.runSlot)) (beNat (slice (s.hdr s.runSlot) 2496 48)) (beNat (slice (s.hdr
    s.runSlot) 2544 48)) = true) ∧
    (∃ (e : List Byte) (key : HostRead) (s : State), s.admReady = true ∧ s.admGate 0x0D = none ∧ admOp e = 0x0D ∧ admClean e (wholeBytes 16 8)
    = true ∧ s.provisioned = false) :=
  ⟨⟨wCmd 0x0D (zeros 8 ++ leBytes 8 4096), .data wKey, wKey, wSigned, by decide +kernel⟩,
   ⟨wCmd 0x0D (zeros 8 ++ leBytes 8 4096), .data [], wAdm, by decide +kernel⟩⟩

theorem witness_LongAdminCommandsStart_1 :
    (∃ (e : List Byte) (hdr : HostRead) (st : Nat) (s : State), s.admReady = true ∧ s.admGate 0x40 = some st ∧ st ≠ 0) ∧
    (∃ (e : List Byte) (hdr : HostRead) (s : State), s.admReady = true ∧ s.admGate 0x40 = none ∧ (admOp e ≠ 0x40 ∨ admClean e ([(8, 1)] ++
    wholeBytes 16 8 ++ wholeBytes 24 4) = false)) ∧
    (∃ (e : List Byte) (st : Nat) (s : State), s.admReady = true ∧ s.admGate 0x41 = some st ∧ st ≠ 0) ∧
    (∃ (e : List Byte) (s : State), s.admReady = true ∧ s.admGate 0x41 = none ∧ (admOp e ≠ 0x41 ∨ admClean e ([(8, 1)]) = false)) :=
  ⟨⟨wCmd 0x40, .data [],
    11, (wOn.wr Reg.ADM_SQ_CTL_SQ_EN 1).wr Reg.ADM_SQ_IDX_SQ_PROD 1, by decide +kernel⟩,
   ⟨[0xEE], .data [], wAdm, by decide +kernel⟩,
   ⟨wCmd 0x41, 11, (wOn.wr
    Reg.ADM_SQ_CTL_SQ_EN 1).wr Reg.ADM_SQ_IDX_SQ_PROD 1, by decide +kernel⟩,
   ⟨[0xEE],
    wAdm, by decide +kernel⟩⟩

theorem witness_LongAdminCommandsStart_2 :
    (∃ (e : List Byte) (st : Nat) (s : State), s.admReady = true ∧ s.admGate 0x0A = some st ∧ st ≠ 0) ∧
    (∃ (e : List Byte) (s : State), s.admReady = true ∧ s.admGate 0x0A = none ∧ (admOp e ≠ 0x0A ∨ admClean e ([(8, 1), (9, 1)]) = false)) ∧
    (∃ (e : List Byte) (st : Nat) (s : State), s.admReady = true ∧ s.admGate 0x42 = some st ∧ st ≠ 0) ∧
    (∃ (e : List Byte) (s : State), s.admReady = true ∧ s.admGate 0x42 = none ∧ (admOp e ≠ 0x42 ∨ admClean e ([(8, 31)]) = false)) :=
  ⟨⟨wCmd 0x0A, 11, (wOn.wr
    Reg.ADM_SQ_CTL_SQ_EN 1).wr Reg.ADM_SQ_IDX_SQ_PROD 1, by decide +kernel⟩,
   ⟨[0xEE], wAdm, by decide +kernel⟩,
   ⟨wCmd 0x42, 11, (wOn.wr
    Reg.ADM_SQ_CTL_SQ_EN 1).wr Reg.ADM_SQ_IDX_SQ_PROD 1, by decide +kernel⟩,
   ⟨[0xEE],
    wAdm, by decide +kernel⟩⟩

theorem witness_LongAdminCommandsStart_3 :
    (∃ (e : List Byte) (st : Nat) (s : State), s.admReady = true ∧ s.admGate 0x43 = some st ∧ st ≠ 0) ∧
    (∃ (e : List Byte) (s : State), s.admReady = true ∧ s.admGate 0x43 = none ∧ (admOp e ≠ 0x43 ∨ admClean e (wholeBytes 16 8 ++ wholeBytes 24
    4) = false)) ∧
    (∃ (e : List Byte) (st : Nat) (s : State), s.admReady = true ∧ s.admGate 0x44 = some st ∧ st ≠ 0) ∧
    (∃ (e : List Byte) (s : State), s.admReady = true ∧ s.admGate 0x44 = none ∧ (admOp e ≠ 0x44 ∨ admClean e ([(8, 3), (10, 255), (11, 255)] ++
    wholeBytes 16 8) = false)) :=
  ⟨⟨wCmd 0x43, 11, (wOn.wr
    Reg.ADM_SQ_CTL_SQ_EN 1).wr Reg.ADM_SQ_IDX_SQ_PROD 1, by decide +kernel⟩,
   ⟨[0xEE], wAdm, by decide +kernel⟩,
   ⟨wCmd 0x44, 11, (wOn.wr
    Reg.ADM_SQ_CTL_SQ_EN 1).wr Reg.ADM_SQ_IDX_SQ_PROD 1, by decide +kernel⟩,
   ⟨[0xEE], wAdm, by decide +kernel⟩⟩

theorem witness_LongAdminCommandsStart_4 :
    (∃ (e : List Byte) (st : Nat) (s : State), s.admReady = true ∧ s.admGate 0x45 = some st ∧ st ≠ 0) ∧
    (∃ (e : List Byte) (s : State), s.admReady = true ∧ s.admGate 0x45 = none ∧ (admOp e ≠ 0x45 ∨ admClean e ([(8, 7)] ++ wholeBytes 16 8) =
    false)) ∧
    (∃ (e : List Byte) (st : Nat) (s : State), s.admReady = true ∧ s.admGate 0x46 = some st ∧ st ≠ 0) ∧
    (∃ (e : List Byte) (s : State), s.admReady = true ∧ s.admGate 0x46 = none ∧ (admOp e ≠ 0x46 ∨ admClean e ([(8, 3), (9, 15)]) = false)) :=
  ⟨⟨wCmd 0x45, 11, (wOn.wr
    Reg.ADM_SQ_CTL_SQ_EN 1).wr Reg.ADM_SQ_IDX_SQ_PROD 1, by decide +kernel⟩,
   ⟨[0xEE], wAdm, by decide +kernel⟩,
   ⟨wCmd 0x46, 11, (wOn.wr
    Reg.ADM_SQ_CTL_SQ_EN 1).wr Reg.ADM_SQ_IDX_SQ_PROD 1, by decide +kernel⟩,
   ⟨[0xEE], wAdm, by decide +kernel⟩⟩

theorem witness_LongAdminCommandsStart_5 :
    (∃ (e : List Byte) (st : Nat) (s : State), s.admReady = true ∧ s.admGate 0x47 = some st ∧ st ≠ 0) ∧
    (∃ (e : List Byte) (s : State), s.admReady = true ∧ s.admGate 0x47 = none ∧ (admOp e ≠ 0x47 ∨ admClean e ([(8, 3), (9, 63), (10, 3)] ++
    wholeBytes 16 8 ++ wholeBytes 24 4) = false)) ∧
    (∃ (e : List Byte) (hdr : HostRead) (i : Nat) (h : List Byte) (s : State), s.admReady = true ∧ s.admGate 0x40 = none ∧ admOp e = 0x40 ∧
    admClean e ([(8, 1)] ++ wholeBytes 16 8 ++ wholeBytes 24 4) = true ∧ (List.range 8).find? (fun i => !s.isOn Reg.ADM_LOP0_HANDLE 0 i) = some
    i ∧ s.canDma 0 = true ∧ s.downloadBusy = false ∧ hdr = .data h ∧ s.downloadRefusal e hdr = none ∧ admPar e 8 1 ≠ 0) ∧
    (∃ (e : List Byte) (i : Nat) (s : State), s.admReady = true ∧ s.admGate 0x41 = none ∧ admOp e = 0x41 ∧ admClean e ([(8, 1)]) = true ∧
    (List.range 8).find? (fun i => !s.isOn Reg.ADM_LOP0_HANDLE 0 i) = some i ∧ s.running 0x40 = false ∧ s.running 0x41 = false) :=
  ⟨⟨wCmd 0x47, 11, (wOn.wr
    Reg.ADM_SQ_CTL_SQ_EN 1).wr Reg.ADM_SQ_IDX_SQ_PROD 1, by decide +kernel⟩,
   ⟨[0xEE], wAdm, by decide +kernel⟩,
   ⟨wCmd 0x40 ([1] ++
    zeros 7 ++ leBytes 8 4096 ++ leBytes 4 8192), .data (zeros 8 ++ leBytes 4 8192 ++ zeros 4084), 0, zeros 8 ++ leBytes 4 8192 ++ zeros 4084,
    wAdm, by decide +kernel⟩,
   ⟨wCmd 0x41
    [1], 0, wAdm, by decide +kernel⟩⟩

theorem witness_LongAdminCommandsStart_6 :
    (∃ (e : List Byte) (i : Nat) (s : State), s.admReady = true ∧ s.admGate 0x0A = none ∧ admOp e = 0x0A ∧ admClean e ([(8, 1), (9, 1)]) = true
    ∧ (List.range 8).find? (fun i => !s.isOn Reg.ADM_LOP0_HANDLE 0 i) = some i ∧ s.activateRefusal (admPar e 8 1) (admPar e 9 1) = none) ∧
    (∃ (e : List Byte) (i : Nat) (s : State), s.admReady = true ∧ s.admGate 0x42 = none ∧ admOp e = 0x42 ∧ admClean e ([(8, 31)]) = true ∧
    (List.range 8).find? (fun i => !s.isOn Reg.ADM_LOP0_HANDLE 0 i) = some i ∧ s.running 0x42 = false) ∧
    (∃ (e : List Byte) (i : Nat) (s : State), s.admReady = true ∧ s.admGate 0x43 = none ∧ admOp e = 0x43 ∧ admClean e (wholeBytes 16 8 ++
    wholeBytes 24 4) = true ∧ (List.range 8).find? (fun i => !s.isOn Reg.ADM_LOP0_HANDLE 0 i) = some i ∧ s.running 0x43 = false ∧ s.rd
    Reg.CLS_COMMIT_STATUS_GROUP = 0) ∧
    (∃ (e : List Byte) (i : Nat) (s : State), s.admReady = true ∧ s.admGate 0x44 = none ∧ admOp e = 0x44 ∧ admClean e ([(8, 3), (10, 255), (11,
    255)] ++ wholeBytes 16 8) = true ∧ (List.range 8).find? (fun i => !s.isOn Reg.ADM_LOP0_HANDLE 0 i) = some i ∧ 1024 ≤ admPar e 10 2 ∧
    s.runningOn 0x44 (Leg.ofBit (admPar e 8 1 % 2)) = false) :=
  ⟨⟨wCmd 0x0A [1], 0, (wVerified.wr Reg.ADM_LOP0_HANDLE 3 0 1).setOp 1 fun _ => { params := [0] }, by decide +kernel⟩,
   ⟨wCmd 0x42 [31], 0, wAdm,
    by decide +kernel⟩,
   ⟨wCmd 0x43 (zeros 8 ++ leBytes 8 4096 ++ leBytes 4 64), 0, wAdm, by decide +kernel⟩,
   ⟨wCmd 0x44 ([1, 0] ++ leBytes 2 1024), 0, wAdm, by decide +kernel⟩⟩

theorem witness_LongAdminCommandsStart_7 :
    (∃ (e : List Byte) (i : Nat) (s : State), s.admReady = true ∧ s.admGate 0x45 = none ∧ admOp e = 0x45 ∧ admClean e ([(8, 7)] ++ wholeBytes
    16 8) = true ∧ (List.range 8).find? (fun i => !s.isOn Reg.ADM_LOP0_HANDLE 0 i) = some i ∧ s.active ≠ Leg.ofBit (admPar e 8 1 % 2) ∧
    s.runningOn 0x45 (Leg.ofBit (admPar e 8 1 % 2)) = false) ∧
    (∃ (e : List Byte) (i : Nat) (s : State), s.admReady = true ∧ s.admGate 0x46 = none ∧ admOp e = 0x46 ∧ admClean e ([(8, 3), (9, 15)]) =
    true ∧ (List.range 8).find? (fun i => !s.isOn Reg.ADM_LOP0_HANDLE 0 i) = some i ∧ admPar e 8 1 = 3 ∧ s.running 0x46 = false) ∧
    (∃ (e : List Byte) (i : Nat) (s : State), s.admReady = true ∧ s.admGate 0x47 = none ∧ admOp e = 0x47 ∧ admClean e ([(8, 3), (9, 63), (10,
    3)] ++ wholeBytes 16 8 ++ wholeBytes 24 4) = true ∧ (List.range 8).find? (fun i => !s.isOn Reg.ADM_LOP0_HANDLE 0 i) = some i ∧ s.running
    0x47 = false ∧ 64 * (exportSel (admPar e 8 1) (admPar e 9 1) (admPar e 10 1)).length ≤ admPar e 24 4) ∧
    (∃ (e : List Byte) (s : State), s.admReady = true ∧ s.admGate 0x42 = none ∧ admOp e = 0x42 ∧ admClean e ([(8, 31)]) = true ∧ s.running 0x42
    = false ∧ (List.range 8).find? (fun i => !s.isOn Reg.ADM_LOP0_HANDLE 0 i) = none) :=
  ⟨⟨wCmd 0x45 [1], 0, wAdm, by decide +kernel⟩,
   ⟨wCmd 0x46
    [3, 2], 0, wAdm, by decide +kernel⟩,
   ⟨wCmd 0x47 ([1, 1, 2] ++ zeros 5
    ++ leBytes 8 4096 ++ leBytes 4 512), 0, wAdm, by decide +kernel⟩,
   ⟨wCmd 0x42 [31], (List.range 8).foldl (fun s i => s.wr
    Reg.ADM_LOP0_HANDLE (i + 1) 0 i) wAdm, by decide +kernel⟩⟩

theorem witness_LongAdminCommandsStart_8 :
    (∃ (e : List Byte) (s : State), s.admReady = true ∧ s.admGate 0x42 = none ∧ admOp e = 0x42 ∧ admClean e ([(8, 31)]) = true ∧ s.running 0x42
    = true) ∧
    (∃ (e : List Byte) (hdr : HostRead) (s : State), s.admReady = true ∧ s.admGate 0x40 = none ∧ admOp e = 0x40 ∧ admClean e ([(8, 1)] ++
    wholeBytes 16 8 ++ wholeBytes 24 4) = true ∧ s.downloadBusy = true) ∧
    (∃ (e : List Byte) (s : State), s.admReady = true ∧ s.admGate 0x44 = none ∧ admOp e = 0x44 ∧ admClean e ([(8, 3), (10, 255), (11, 255)] ++
    wholeBytes 16 8) = true ∧ admPar e 10 2 < 1024) ∧
    (∃ (e : List Byte) (s : State), s.admReady = true ∧ s.admGate 0x46 = none ∧ admOp e = 0x46 ∧ admClean e ([(8, 3), (9, 15)]) = true ∧ admPar
    e 8 1 = 2) :=
  ⟨⟨wCmd 0x42 [31], wOp 0x42 1, by decide +kernel⟩,
   ⟨wCmd 0x40 ([1] ++ zeros 7 ++ leBytes 8 4096 ++ leBytes 4 8192),
    .data [], wOp 0x41 1, by decide +kernel⟩,
   ⟨wCmd 0x44 ([1, 0] ++ leBytes 2 1023), wAdm, by decide +kernel⟩,
   ⟨wCmd 0x46 [2, 2], wAdm, by decide +kernel⟩⟩

theorem witness_LongAdminCommandsStart_9 : (∃ (e : List Byte) (st : Nat) (s : State), s.admReady = true ∧ s.admGate 0x0A = none ∧ admOp e = 0x0A ∧ admClean e ([(8, 1), (9, 1)]) =
    true ∧ s.activateRefusal (admPar e 8 1) (admPar e 9 1) = some st) :=
  ⟨wCmd 0x0A [0], 2, wAdm, by decide +kernel⟩

theorem witness_LongOperationsSuspendWorkAndEnd_1 :
    (∃ (e : List Byte) (s : State), s.admReady = true ∧ s.admGate 0x03 = none ∧ admOp e = 0x03 ∧ admClean e [] = true ∧ s.opOf (admHandle e) =
    none) ∧
    (∃ (e : List Byte) (s : State), s.admReady = true ∧ s.admGate 0x04 = none ∧ admOp e = 0x04 ∧ admClean e [] = true ∧ s.opOf (admHandle e) =
    none) ∧
    (∃ (e : List Byte) (s : State), s.admReady = true ∧ s.admGate 0x05 = none ∧ admOp e = 0x05 ∧ admClean e [] = true ∧ s.opOf (admHandle e) =
    none) ∧
    (∃ (e : List Byte) (i : Nat) (s : State), s.admReady = true ∧ s.admGate 0x03 = none ∧ admOp e = 0x03 ∧ admClean e [] = true ∧ s.opOf
    (admHandle e) = some i ∧ s.opState i = 1 ∧ s.suspendable i = true) :=
  ⟨⟨wCmd 0x03 [] 9, wAdm, by decide +kernel⟩,
   ⟨wCmd 0x04 [] 9, wAdm, by decide +kernel⟩,
   ⟨wCmd 0x05 [] 9, wAdm, by decide +kernel⟩,
   ⟨wCmd 0x03 [] 5, 0, wOp 0x42 1, by decide +kernel⟩⟩

theorem witness_LongOperationsSuspendWorkAndEnd_2 :
    (∃ (e : List Byte) (i : Nat) (s : State), s.admReady = true ∧ s.admGate 0x03 = none ∧ admOp e = 0x03 ∧ admClean e [] = true ∧ s.opOf
    (admHandle e) = some i ∧ s.opState i = 2) ∧
    (∃ (e : List Byte) (i : Nat) (s : State), s.admReady = true ∧ s.admGate 0x04 = none ∧ admOp e = 0x04 ∧ admClean e [] = true ∧ s.opOf
    (admHandle e) = some i ∧ s.opState i = 3 ∧ s.conflicts i = false) ∧
    (∃ (e : List Byte) (i : Nat) (s : State), s.admReady = true ∧ s.admGate 0x04 = none ∧ admOp e = 0x04 ∧ admClean e [] = true ∧ s.opOf
    (admHandle e) = some i ∧ s.opState i = 2) ∧
    (∃ (e : List Byte) (i : Nat) (s : State), s.admReady = true ∧ s.admGate 0x05 = none ∧ admOp e = 0x05 ∧ admClean e [] = true ∧ s.opOf
    (admHandle e) = some i ∧ s.opState i ≤ 3 ∧ s.cancellable i = true ∧ (s.op i).suspCid = none) :=
  ⟨⟨wCmd 0x03 [] 5, 0, wOp 0x42 2, by decide +kernel⟩,
   ⟨wCmd 0x04 [] 5, 0, wOp 0x42 3, by decide +kernel⟩,
   ⟨wCmd 0x04 [] 5, 0, wOp 0x42 2, by decide +kernel⟩,
   ⟨wCmd 0x05 [] 5, 0, wOp 0x42 1,
    by decide +kernel⟩⟩

theorem witness_LongOperationsSuspendWorkAndEnd_3 :
    (∃ (h : Nat) (work : OpWork) (i : Nat) (n : Nat) (s : State), s.opOf h = some i ∧ s.opState i = 1 ∧ s.opCode i ≠ 0x47 ∧ work = .units n ∧
    s.isOn Reg.ADM_CTL_PROG_MS = false) ∧
    (∃ (h : Nat) (work : OpWork) (i : Nat) (s : State), s.opOf h = some i ∧ s.opState i = 3) ∧
    (∃ (h : Nat) (work : OpWork) (s : State), s.opOf h = none) ∧
    (∃ (h : Nat) (i : Nat) (c : Nat) (s : State), s.opOf h = some i ∧ s.opState i = 2 ∧ (s.op i).suspCid = some c) :=
  ⟨⟨5, .units 3, 0, 3, ((wOp 0x46 1).wr Reg.ADM_LOP3_TOTAL 4 0 0).wr Reg.ADM_CTL_PROG_MS 0,
    by decide +kernel⟩,
   ⟨5, .units 3, 0, wOp 0x46 3, by decide +kernel⟩,
   ⟨0, .units 3, wOn, by decide +kernel⟩,
   ⟨5, 0, 7, (wOp 0x42
    2).setOp 0 fun _ => { params := [], suspCid := some 7 }, by decide +kernel⟩⟩

theorem witness_LongOperationsSuspendWorkAndEnd_4 :
    (∃ (h : Nat) (i : Nat) (s : State), s.opOf h = some i ∧ s.opState i = 4 ∧ s.opCode i ≠ 0x43) ∧
    (∃ (h : Nat) (i : Nat) (s : State), s.opOf h = some i ∧ s.opState i = 4 ∧ s.opCode i = 0x43 ∧ (s.op i).passed = true) ∧
    (∃ (h : Nat) (i : Nat) (s : State), s.opOf h = some i ∧ s.opState i = 1 ∧ s.opCode i = 0x0A ∧ (s.op i).committed = false ∧ s.isOn
    Reg.FW_STATUS_TRIAL = false ∧ s.bootRec.seq < 2 ^ 32 - 1 ∧ (s.op i).par 9 1 % 2 = 1) ∧
    (∃ (h : Nat) (i : Nat) (s : State), s.opOf h = some i ∧ s.opState i = 1 ∧ s.opCode i = 0x0A ∧ (s.op i).committed = false ∧ s.isOn
    Reg.FW_STATUS_TRIAL = false ∧ s.bootRec.seq < 2 ^ 32 - 1 ∧ (s.op i).par 9 1 % 2 = 0) :=
  ⟨⟨5, 0, wOp 0x0A 4, by decide +kernel⟩,
   ⟨5, 0, (wOp 0x43
    4).setOp 0 fun _ => { params := [], passed := true }, by decide +kernel⟩,
   ⟨5, 0, (wOp 0x0A 1).setOp 0 fun _ =>
    { params := [1, 1] }, by decide +kernel⟩,
   ⟨5, 0, (wOp 0x0A 1).setOp 0 fun _ =>
    { params := [1, 0] }, by decide +kernel⟩⟩

theorem witness_LongOperationsSuspendWorkAndEnd_5 :
    (∃ (h : Nat) (s : State), s.opOf h = none) ∧
    (∃ (h : Nat) (fin : OpFinish) (i : Nat) (s : State), s.opOf h = some i ∧ s.opState i = 1 ∧ s.opCode i = 0x46 ∧ fin.status = 0 ∧
    fin.chainBad = false ∧ (s.op i).suspCid = none ∧ (s.op i).cancelCid = none ∧ (s.op i).quiet = false) ∧
    (∃ (h : Nat) (fin : OpFinish) (i : Nat) (l : Leg) (s : State), s.opOf h = some i ∧ s.opState i = 1 ∧ s.opCode i = 0x46 ∧ fin.status = 0 ∧
    fin.chainBad = true ∧ bit ((s.op i).par 9 1) 0 = 1 ∧ s.opLeg i = some l) ∧
    (∃ (h : Nat) (fin : OpFinish) (i : Nat) (s : State), s.opOf h = some i ∧ s.opState i = 1 ∧ s.opCode i = 0x41 ∧ fin.status = 0 ∧ s.imgFail
    ((s.op i).par 8 1 % 2) = 0) :=
  ⟨⟨0, wOn, by decide +kernel⟩,
   ⟨5, ⟨0, 3, 1, false⟩, 0, wOp 0x46
    1, by decide +kernel⟩,
   ⟨5, ⟨0, 3, 1, true⟩, 0, .b, (wOp 0x46 1).setOp 0 fun _ =>
    { params := [1, 1] }, by decide +kernel⟩,
   ⟨5, ⟨0, 0, 0, false⟩, 0, wAuth, by decide +kernel⟩⟩

theorem witness_LongOperationsSuspendWorkAndEnd_6 :
    (∃ (h : Nat) (fin : OpFinish) (i : Nat) (s : State), s.opOf h = some i ∧ s.opState i = 1 ∧ s.opCode i = 0x41 ∧ fin.status = 0 ∧ s.imgFail
    ((s.op i).par 8 1 % 2) ≠ 0 ∧ (s.op i).suspCid = none ∧ (s.op i).cancelCid = none ∧ (s.op i).quiet = false) ∧
    (∃ (h : Nat) (fin : OpFinish) (i : Nat) (s : State), s.opOf h = some i ∧ s.opState i = 1 ∧ s.opCode i = 0x42 ∧ fin.status ≠ 0 ∧ (s.op
    i).suspCid = none ∧ (s.op i).cancelCid = none ∧ (s.op i).quiet = false) ∧
    (∃ (h : Nat) (fin : OpFinish) (s : State), s.opOf h = none) ∧
    (∃ (h : Nat) (i : Nat) (s : State), s.opOf h = some i ∧ s.opState i = 3 ∧ s.opCode i ≠ 0x43 ∧ (s.op i).suspCid = none ∧ (s.op i).cancelCid
    = none ∧ (s.op i).quiet = false) :=
  ⟨⟨5, ⟨0, 0, 0, false⟩, 0, wOp
    0x41 1, by decide +kernel⟩,
   ⟨5, ⟨8, 0, 0, false⟩, 0, wOp 0x42 1, by decide +kernel⟩,
   ⟨0, ⟨0, 3, 1, false⟩, wOn, by decide +kernel⟩,
   ⟨5, 0, wOp 0x42 3, by decide +kernel⟩⟩

theorem witness_LongOperationsSuspendWorkAndEnd_7 : (∃ (h : Nat) (s : State), s.opOf h = none) :=
  ⟨0, wOn, by decide +kernel⟩

theorem witness_FirmwareComesAndGoes_1 :
    (∃ (v : BitVec 16) (s : State), s.runs .mgmt = true ∧ s.mute = false ∧ s.pwr.held = false ∧ v.toNat ≠ (s.rd Reg.FW_HB + 1) % 65536) ∧
    (∃ (v : BitVec 16) (s : State), s.runs .mgmt = true ∧ s.mute = false ∧ s.pwr.held = false ∧ v.toNat = (s.rd Reg.FW_HB + 1) % 65536 ∧ s.rd
    Reg.FW_STATUS_STATE = 1) ∧
    (∃ (v : BitVec 16) (s : State), s.runs .mgmt = true ∧ s.mute = false ∧ s.pwr.held = false ∧ v.toNat = (s.rd Reg.FW_HB + 1) % 65536 ∧ (s.rd
    Reg.FW_STATUS_STATE = 2 ∨ s.rd Reg.FW_STATUS_STATE = 3)) ∧
    (∃ (v : BitVec 16) (s : State), s.runs .mgmt = true ∧ s.mute = false ∧ s.pwr.held = false ∧ v.toNat = (s.rd Reg.FW_HB + 1) % 65536 ∧ s.rd
    Reg.FW_STATUS_STATE = 0 ∧ s.fw.bootCold = true) :=
  ⟨⟨0,
    { wOn with pwr := { wOn.pwr with held := false } }, by decide +kernel⟩,
   ⟨1, { wAdm with pwr := { wAdm.pwr with held := false } }, by decide +kernel⟩,
   ⟨1,
    { wOn.wr Reg.FW_STATUS_STATE 2 with pwr := { wOn.pwr with held := false } }, by decide +kernel⟩,
   ⟨1,
    { wOn with fw := { wOn.fw with bootCold := true }, pwr := { wOn.pwr with held := false } }, by decide +kernel⟩⟩

theorem witness_FirmwareComesAndGoes_2 :
    (∃ (v : BitVec 16) (s : State), (s.runs .mgmt = false ∨ s.mute = true ∨ s.pwr.held = true)) ∧
    (∃ (s : State), s.rd Reg.FW_STATUS_STATE = 1 ∧ s.fw.activate = none) ∧
    (∃ (s : State), s.rd Reg.FW_STATUS_STATE ≠ 1) ∧
    (∃ (s : State), s.fw.autopilot = true) :=
  ⟨⟨0,
    { wOn with pwr := { wOn.pwr with held := true } }, by decide +kernel⟩,
   ⟨wAdm, by decide +kernel⟩,
   ⟨wOn, by decide +kernel⟩,
   ⟨{ wOn with fw := { wOn.fw with autopilot := true } }, by decide +kernel⟩⟩

theorem witness_FirmwareComesAndGoes_3 :
    (∃ (s : State), s.fw.autopilot = false) ∧
    (∃ (s : State), s.pwr.held = false ∧ s.fw.autopilot = false ∧ (s.rd Reg.FW_STATUS_STATE = 0 ∨ s.rd Reg.FW_STATUS_STATE = 3)) ∧
    (∃ (s : State), s.rd Reg.FW_STATUS_STATE = 1) ∧
    (∃ (s : State), s.rd Reg.FW_STATUS_STATE = 1 ∧ s.fw.activate = none) :=
  ⟨⟨wOn, by decide +kernel⟩,
   ⟨{ wOn with pwr := { wOn.pwr with held := false } }, by decide +kernel⟩,
   ⟨wAdm, by decide +kernel⟩,
   ⟨wAdm, by decide +kernel⟩⟩

theorem witness_FirmwareComesAndGoes_4 :
    (∃ (s : State), s.rd Reg.FW_STATUS_STATE ≠ 1) ∧
    (∃ (l : Leg) (s : State), s.fwPresent = true ∧ s.fw.activate = none) ∧
    (∃ (l : Leg) (s : State), s.fwPresent = false) ∧
    (∃ (s : State), s.isOn Reg.FW_STATUS_TRIAL = true ∧ s.rd Reg.FW_STATUS_STATE = 1 ∧ s.bootRec.seq < 2 ^ 32 - 1 ∧ s.fw.activate = none) :=
  ⟨⟨wOn, by decide +kernel⟩,
   ⟨.a, { wAdm with fw := { wAdm.fw with lastFlume := 7 } },
    by decide +kernel⟩,
   ⟨.a, wOn, by decide +kernel⟩,
   ⟨wAdm.wr Reg.FW_STATUS_TRIAL 1, by decide +kernel⟩⟩

theorem witness_FirmwareComesAndGoes_5 :
    (∃ (s : State), s.isOn Reg.FW_STATUS_TRIAL = false) ∧
    (∃ (ag : Agent) (v : BitVec 32) (s : State), ag = .pf ∧ s.reach .pf = true) ∧
    (∃ (ag : Agent) (v : BitVec 32) (s : State), ag.isFw = true) :=
  ⟨⟨wOn, by decide +kernel⟩,
   ⟨.pf, 3, wOn, by decide +kernel⟩,
   ⟨.fw 0, 0, wOn, by decide +kernel⟩⟩

theorem witness_PowerStatesAreEnteredAndLeft_1 :
    (∃ (s : State), s.rd Reg.PWR_STATUS_STATE = 0 ∧ s.isOn Reg.PWR_CTL_IDLE_EN = true ∧ s.idleReady = true) ∧
    (∃ (s : State), s.idleReady = false) ∧
    (∃ (s : State), s.isOn Reg.PWR_STATUS_PERST = false) ∧
    (∃ (s : State), s.isOn Reg.PWR_STATUS_PERST = true) :=
  ⟨⟨wOn.wr Reg.PWR_CTL_IDLE_EN 1,
    by decide +kernel⟩,
   ⟨{ wOn with host := { wOn.host with buf := [wBuf] } }, by decide +kernel⟩,
   ⟨wLink.wr Reg.PWR_STATUS_PERST 0, by decide +kernel⟩,
   ⟨wOn.wr Reg.PWR_STATUS_PERST 1, by decide +kernel⟩⟩

theorem witness_PowerStatesAreEnteredAndLeft_2 :
    (∃ (s : State), s.isOn Reg.PWR_STATUS_PERST = true) ∧
    (∃ (s : State), s.isOn Reg.PWR_STATUS_PERST = false) ∧
    (∃ (target : Option Nat) (n : Nat) (s : State), s.runs .side = true ∧ s.fwPresent = true ∧ target = some n ∧ n < 4) ∧
    (∃ (target : Option Nat) (s : State), s.runs .side = true ∧ s.fwPresent = false) :=
  ⟨⟨wOn.wr Reg.PWR_STATUS_PERST 1, by decide +kernel⟩,
   ⟨wOn.wr Reg.PWR_STATUS_PERST 0, by decide +kernel⟩,
   ⟨some 2, 2, wAdm,
    by decide +kernel⟩,
   ⟨some 2, wOn, by decide +kernel⟩⟩

theorem witness_PowerStatesAreEnteredAndLeft_3 :
    (∃ (s : State), s.pwr.off = false ∧ s.pwr.asleep = true ∧ s.wakeEnabled 1 = true) ∧
    (∃ (s : State), s.pwr.off = false ∧ s.wakeEnabled 1 = false) ∧
    (∃ (s : State), s.isOn Reg.PWR_AON_TIMER_SECONDS = true ∧ s.pwr.asleep = true ∧ s.pwr.off = false ∧ s.wakeEnabled 3 = true) ∧
    (∃ (s : State), s.isOn Reg.PWR_AON_TIMER_SECONDS = false) :=
  ⟨⟨{ wOn.wr Reg.PWR_WAKE_EN 127 with pwr := { wOn.pwr with asleep := true } }, by decide +kernel⟩,
   ⟨wOn.wr Reg.PWR_WAKE_EN 0, by decide +kernel⟩,
   ⟨{ (wOn.wr Reg.PWR_WAKE_EN 127).wr Reg.PWR_AON_TIMER_SECONDS 9 with pwr := { wOn.pwr with asleep := true } }, by decide +kernel⟩,
   ⟨wOn.wr Reg.PWR_AON_TIMER_SECONDS 0, by decide +kernel⟩⟩

theorem witness_PowerStatesAreEnteredAndLeft_4 :
    (∃ (n : Nat) (s : State), s.pwr.entering = true ∧ s.pwr.sleepReq = [] ∧ s.fwPresent = true ∧ s.pwr.asleep = false ∧ s.rd Reg.PWR_CTL_TARGET
    ≠ 3) ∧
    (∃ (s : State), s.pwr.entering = false) ∧
    (∃ (ticks : Nat) (crcOk : Bool) (w : Nat) (s : State), s.rd Reg.PWR_STATUS_STATE = 4 ∧ s.pwr.off = false ∧ s.pwr.held = false ∧
    s.pwr.pendWake = [w] ∧ w < 16 ∧ crcOk = true) ∧
    (∃ (ticks : Nat) (crcOk : Bool) (w : Nat) (s : State), s.rd Reg.PWR_STATUS_STATE = 4 ∧ s.pwr.off = false ∧ s.pwr.held = false ∧
    s.pwr.pendWake = [w] ∧ 1 ≤ w ∧ w < 16 ∧ crcOk = false ∧ s.pwr.brownCell = false) :=
  ⟨⟨5, { wAdm.setKeySlot 5 { kind := 1, keys := [(0, 9)] } with pwr := { wOn.pwr with entering := true } }, by decide +kernel⟩,
   ⟨wOn, by decide +kernel⟩,
   ⟨32768, true, 1,
    { wOn.wr Reg.PWR_STATUS_STATE 4 with pwr := { wOn.pwr with held := false, pendWake := [1] } }, by decide +kernel⟩,
   ⟨0, false, 1,
    { wOn.wr Reg.PWR_STATUS_STATE 4 with pwr := { wOn.pwr with held := false, pendWake := [1] } }, by decide +kernel⟩⟩

theorem witness_PowerStatesAreEnteredAndLeft_5 : (∃ (ticks : Nat) (crcOk : Bool) (s : State), s.rd Reg.PWR_STATUS_STATE ≠ 4) :=
  ⟨0, true, wOn, by decide +kernel⟩

theorem witness_ResetsAndTheClocksSupervision_1 :
    (∃ (s : State), s.pwr.off = false ∧ s.pwr.held = false) ∧
    (∃ (s : State), s.pwr.off = true) ∧
    (∃ (boot : BootInput) (s : State), s.pwr.held = true ∧ s.pwr.off = false ∧ s.pwr.poweredOnce = true ∧ boot.refOk = true ∧ s.pwr.brownCell =
    false) ∧
    (∃ (boot : BootInput) (s : State), s.pwr.held = false) :=
  ⟨⟨{ wAdm with pwr := { wAdm.pwr with held := false } }, by decide +kernel⟩,
   ⟨{ wOn with pwr := { wOn.pwr with off := true } }, by decide +kernel⟩,
   ⟨{ capacityMiB := 64, addr4 := true, quadRead := true, erase4k := true, erase64k := true, refOk := true, marginLow := false, fuseEcc := false },
    { wOn with pwr := { wOn.pwr with held := true, poweredOnce := true } }, by decide +kernel⟩,
   ⟨{ capacityMiB := 64, addr4 := true, quadRead := true, erase4k := true, erase64k := true, refOk := true, marginLow := false, fuseEcc := false },
    { wOn with pwr := { wOn.pwr with held := false } }, by decide +kernel⟩⟩

theorem witness_ResetsAndTheClocksSupervision_2 :
    (∃ (s : State), s.pwr.off = false) ∧
    (∃ (ag : Agent) (v : BitVec 32) (s : State), ag = .pf ∧ s.reach .pf = true ∧ v.toNat % 4 = 2 ∧ bits v.toNat 15 8 = 0xC5 ∧ s.pwr.brownCell =
    false) ∧
    (∃ (ag : Agent) (v : BitVec 32) (s : State), bits v.toNat 15 8 ≠ 0xC5) ∧
    (∃ (ag : Agent) (v : BitVec 32) (q : Nat) (s : State), ag = .pf ∧ s.reach .pf = true ∧ v.toNat % 4 = 1 ∧ bits v.toNat 15 8 = 0xC5) :=
  ⟨⟨wAdm.wr Reg.HG_STATUS_TXDIS 0 0, by decide +kernel⟩,
   ⟨.pf, 0xC502, wAdm, by decide +kernel⟩,
   ⟨.pf, 2, wAdm, by decide +kernel⟩,
   ⟨.pf,
    0xC501, 7, (wAdm.wr Reg.HIF_LINK_UP 1).wr Reg.HIF_TX_CTL_EN 1 0 7, by decide +kernel⟩⟩

theorem witness_ResetsAndTheClocksSupervision_3 :
    (∃ (ag : Agent) (v : BitVec 32) (s : State), v.toNat % 4 ≠ 1) ∧
    (∃ (s : State), s.fw.warmAt = true) ∧
    (∃ (s : State), s.fw.warmAt = false) ∧
    (∃ (s : State), s.isOn Reg.PWR_STATUS_REF_OK = true) :=
  ⟨⟨.pf, 0xC503, wAdm, by decide +kernel⟩,
   ⟨{ wAdm with fw := { wAdm.fw with warmAt := true } }, by decide +kernel⟩,
   ⟨wOn, by decide +kernel⟩,
   ⟨wOn.wr Reg.PWR_STATUS_REF_OK 1, by decide +kernel⟩⟩

theorem witness_ResetsAndTheClocksSupervision_4 :
    (∃ (s : State), s.isOn Reg.PWR_STATUS_REF_OK = false) ∧
    (∃ (s : State), s.pwr.held = false ∧ s.pwr.bootWait = false) ∧
    (∃ (s : State), s.pwr.held = false ∧ s.pwr.bootWait = true) ∧
    (∃ (rail : Rail) (s : State), (rail = .vddCore ∨ rail = .vddh ∨ rail = .vddio)) :=
  ⟨⟨{ wOn.wr Reg.PWR_STATUS_REF_OK 0 with pwr := { wOn.pwr with held := false } },
    by decide +kernel⟩,
   ⟨{ wOn.wr Reg.PWR_STATUS_REF_OK 0 with pwr := { wOn.pwr with held := false } }, by decide +kernel⟩,
   ⟨{ wOn with pwr := { wOn.pwr with held := false, bootWait := true } },
    by decide +kernel⟩,
   ⟨.vddh, wOn.wr Reg.HG_STATUS_TXDIS 0 0,
    by decide +kernel⟩⟩

theorem witness_RequestsAndTheSleepCycle_1 :
    (∃ (l : Leg) (msg : BitVec 384) (q : Req) (s : State), Hears s l ∧ s.takes l 0x0E msg false 0 = true ∧ s.fwPresent = true ∧ s.reqs.find?
    (fun q => q.txid == msgTxid msg) = some q ∧ q.code ≠ 1 ∧ q.code ≠ 2) ∧
    (∃ (l : Leg) (msg : BitVec 384) (s : State), Hears s l ∧ s.takes l 0x0E msg false 0 = true ∧ s.fwPresent = true ∧ s.reqs.find? (fun q =>
    q.txid == msgTxid msg) = none) ∧
    (∃ (txid : Nat) (q : Req) (s : State), s.reqs.find? (fun q => q.txid == txid) = some q ∧ q.code ≠ 1 ∧ q.due = false ∧ q.sent = true ∧
    q.retries < s.rd Reg.LINE_REQ_CTL_RETRIES q.leg.n) ∧
    (∃ (txid : Nat) (q : Req) (s : State), s.reqs.find? (fun q => q.txid == txid) = some q ∧ q.code ≠ 1 ∧ q.due = false ∧ q.sent = true ∧
    q.code ≠ 2 ∧ s.rd Reg.LINE_REQ_CTL_RETRIES q.leg.n ≤ q.retries) :=
  ⟨⟨.a, wMsg 0x3FF 0x0E 7 [0],
    { txid := 7, leg := .a, code := 4, msg := 0 }, wMs ({ wAdm with reqs := [{ txid := 7, leg := .a, code := 4, msg := 0 }] }),
    by decide +kernel⟩,
   ⟨.a, wMsg 0x3FF 0x0E 7 [0], wMs (wAdm), by decide +kernel⟩,
   ⟨7, { txid := 7, leg := .a, code := 4, msg := 0, due := false, sent := true },
    { wOn.wr Reg.LINE_REQ_CTL_RETRIES 3 0 with reqs := [{ txid := 7, leg := .a, code := 4, msg := 0, due := false, sent := true }] },
    by decide +kernel⟩,
   ⟨7,
    { txid := 7, leg := .a, code := 4, msg := 0, retries := 9, due := false, sent := true },
    { wOn.wr Reg.LINE_REQ_CTL_RETRIES 3 0 with reqs := [{ txid := 7, leg := .a, code := 4, msg := 0, retries := 9, due := false, sent := true }] },
    by decide +kernel⟩⟩

theorem witness_RequestsAndTheSleepCycle_2 :
    (∃ (txid : Nat) (s : State), s.reqs.find? (fun q => q.txid == txid) = none) ∧
    (∃ (l : Leg) (msg : BitVec 384) (s : State), Hears s l ∧ s.takes l 0x0C msg false 0 = true ∧ s.fwPresent = true ∧ s.hasTn l = true ∧ mfield
    msg 6 1 % 2 = 1 ∧ 2 ≤ mfield msg 7 2 ∧ mfield msg 7 2 ≤ 16 ∧ s.rd Reg.PWR_CTL_TARGET = 1 ∧ s.pwr.cause ≠ 0 ∧ s.pwr.wakeArisen = false ∧
    s.effOk l (mfield msg 9 6) = true) ∧
    (∃ (l : Leg) (msg : BitVec 384) (s : State), Hears s l ∧ s.takes l 0x0C msg false 0 = true ∧ s.fwPresent = true ∧ s.hasTn l = true ∧ mfield
    msg 6 1 % 2 = 1 ∧ (mfield msg 7 2 < 2 ∨ 16 < mfield msg 7 2)) ∧
    (∃ (l : Leg) (msg : BitVec 384) (s : State), Hears s l ∧ s.takes l 0x0C msg false 0 = true ∧ s.fwPresent = true ∧ s.hasTn l = true ∧ mfield
    msg 6 1 % 2 = 1 ∧ 2 ≤ mfield msg 7 2 ∧ mfield msg 7 2 ≤ 16 ∧ (s.rd Reg.PWR_CTL_TARGET ≠ 1 ∨ s.pwr.cause = 0)) :=
  ⟨⟨0, wOn, by decide +kernel⟩,
   ⟨.a, wMsg 5 0x0C 7 [1, 0, 4, 0, 0, 0, 0, 0, 9], wMs
    ({ (wTn.wr Reg.ADM_STATUS_FW_PRESENT 1).wr Reg.PWR_CTL_TARGET 1 with pwr := { wOn.pwr with cause := 1 } }), by decide +kernel⟩,
   ⟨.a, wMsg 5 0x0C 7 [1, 0, 1], wMs (wTn.wr Reg.ADM_STATUS_FW_PRESENT 1),
    by decide +kernel⟩,
   ⟨.a, wMsg 5 0x0C 7 [1, 0,
    4], wMs (wTn.wr Reg.ADM_STATUS_FW_PRESENT 1), by decide +kernel⟩⟩

theorem witness_RequestsAndTheSleepCycle_3 :
    (∃ (l : Leg) (msg : BitVec 384) (s : State), Hears s l ∧ s.takes l 0x0C msg false 0 = true ∧ s.fwPresent = true ∧ s.hasTn l = true ∧ mfield
    msg 6 1 % 2 = 0 ∧ s.effOk l (mfield msg 9 6) = true) ∧
    (∃ (c : Nat) (e : Nat) (s : State), s.pwr.granted = some (c, e) ∧ 8 * e ≤ s.d0Key s.kept ∧ s.pwr.asleep = false) ∧
    (∃ (s : State), s.pwr.granted = none) ∧
    (∃ (s : State), s.pwr.asleep = true ∧ s.pwr.awake = false ∧ s.awakeSf ((s.d0Key s.kept + s.leadFrames + 2) / 8) = true) :=
  ⟨⟨.a, wMsg 5 0x0C 7 [0, 0, 4, 0, 0, 0, 0, 0, 9], wMs
    ({ wTn.wr Reg.ADM_STATUS_FW_PRESENT 1 with pwr := { wOn.pwr with granted := some (4, 9) } }), by decide +kernel⟩,
   ⟨4, 0,
    { wOn with pwr := { wOn.pwr with granted := some (4, 0) } }, by decide +kernel⟩,
   ⟨wOn, by decide +kernel⟩,
   ⟨{ wOn with pwr := { wOn.pwr with asleep := true, awake := false } }, by decide +kernel⟩⟩

theorem witness_RequestsAndTheSleepCycle_4 :
    (∃ (s : State), s.pwr.asleep = false) ∧
    (∃ (s : State), s.pwr.asleep = true ∧ s.pwr.awake = true ∧ s.d0Key s.kept % 8 = 7 ∧ s.awakeSf (s.d0Key s.kept / 8) = true) ∧
    (∃ (s : State), s.pwr.asleep = false) ∧
    (∃ (code : Nat) (s : State), s.pwr.asleep = true ∧ has s.pwr.pendWake code = true ∧ code < 16) :=
  ⟨⟨wOn, by decide +kernel⟩,
   ⟨({ wOn with pwr := { wOn.pwr with asleep := true, awake := true } } : State).updWave .a 0 fun v => { v with fn := 7 }, by decide +kernel⟩,
   ⟨wOn, by decide +kernel⟩,
   ⟨1,
    { wOn.wr Reg.PWR_WAKE_EN 127 with pwr := { wOn.pwr with asleep := true, pendWake := [1] } }, by decide +kernel⟩⟩

theorem witness_RequestsAndTheSleepCycle_5 :
    (∃ (code : Nat) (s : State), s.pwr.asleep = false) ∧
    (∃ (s : State), s.fwPresent = true ∧ s.rd Reg.PWR_CTL_TARGET = 1 ∧ s.pwr.cause ≠ 0 ∧ s.moveIdle = true ∧ s.retryDue = true ∧ s.rd
    Reg.ACT_STATUS_STATE 0 = 5 ∧ s.rd Reg.ACT_STATUS_STATE 1 ≠ 5) ∧
    (∃ (s : State), s.fwPresent = false) :=
  ⟨⟨0, wOn, by decide +kernel⟩,
   ⟨{ (wAdm.wr Reg.PWR_CTL_TARGET 1).wr Reg.ACT_STATUS_STATE 5 0 with pwr := { wOn.pwr with cause := 1, retryAt := 0 }, time := { wOn.time with run40 := 2 ^ 80 } },
    by decide +kernel⟩,
   ⟨wOn, by decide +kernel⟩⟩

theorem witness_ModulesComeUp_1 :
    (∃ (l : Leg) (present : Bool) (s : State), present = true ∧ s.isOn Reg.OPT_STATUS_PRESENT l.n = false) ∧
    (∃ (l : Leg) (present : Bool) (s : State), present = false ∧ s.isOn Reg.OPT_STATUS_PRESENT l.n = true) ∧
    (∃ (l : Leg) (present : Bool) (s : State), present = false ∧ s.isOn Reg.OPT_STATUS_PRESENT l.n = false) ∧
    (∃ (l : Leg) (id : ModuleId) (s : State), s.isOn Reg.OPT_STATUS_PRESENT l.n = true ∧ s.fwPresent = true ∧ 0x50 ≤ id.cmisRev ∧ id.cmisRev <
    2 ^ Reg.OPT_ID_CMIS_CMIS_REV.width ∧ lifeOk (slice id.life 0 32) = true ∧ lifeOk (slice id.life 32 32) = false) :=
  ⟨⟨.a, true, wOn,
    by decide +kernel⟩,
   ⟨.a, false, ((wOn.wr
    Reg.OPT_STATUS_PRESENT 1 0).wr Reg.OPT_STATUS_ID_VALID 1 0).wr Reg.ADM_STATUS_FW_PRESENT 1, by decide +kernel⟩,
   ⟨.a, false, wOn,
    by decide +kernel⟩,
   ⟨.a,
    { cmisRev := 0x50, vendor := zeros 16, part := zeros 16, serial := [65, 66, 67, 68] ++ zeros 12, rev := zeros 2, date := zeros 8, fast := true, biasHigh0 := 100, biasHigh1 := 100, life := wLife ++ zeros 32, laser := none },
    (wOn.wr Reg.OPT_STATUS_PRESENT 1 0).wr Reg.ADM_STATUS_FW_PRESENT 1, by decide +kernel⟩⟩

theorem witness_ModulesComeUp_2 :
    (∃ (l : Leg) (id : ModuleId) (s : State), s.isOn Reg.OPT_STATUS_PRESENT l.n = true ∧ s.fwPresent = true ∧ id.cmisRev < 0x50) ∧
    (∃ (ag : Agent) (l : Leg) (v : BitVec 32) (s : State), s.reach ag = true ∧ bit v.toNat 0 = 1 ∧ s.rd Reg.OPT_STATUS_BRINGUP l.n = 0 ∧
    s.moduleReady l = true) ∧
    (∃ (ag : Agent) (l : Leg) (v : BitVec 32) (s : State), s.reach ag = true ∧ bit v.toNat 0 = 0) ∧
    (∃ (l : Leg) (w : Nat) (s : State), w < 4 ∧ s.detecting l w = true ∧ s.rd Reg.OPT_STATUS_CDR_LOCK l.n = 15 - 2 ^ w ∧ s.rd
    Reg.OPT_STATUS_BRINGUP l.n = 1) :=
  ⟨⟨.a,
    { cmisRev := 0x4F, vendor := zeros 16, part := zeros 16, serial := [65, 66, 67, 68] ++ zeros 12, rev := zeros 2, date := zeros 8, fast := true, biasHigh0 := 100, biasHigh1 := 100, life := wLife ++ zeros 32, laser := none },
    ((wOn.wr Reg.OPT_STATUS_PRESENT 1 0).wr Reg.OPT_STATUS_ID_VALID 1 0).wr Reg.ADM_STATUS_FW_PRESENT 1, by decide +kernel⟩,
   ⟨.pf, .a, 3, ((wOn.wr Reg.OPT_STATUS_PRESENT 1 0).wr Reg.OPT_STATUS_ID_VALID 1 0).wr Reg.ADM_STATUS_FW_PRESENT
    1, by decide +kernel⟩,
   ⟨.pf, .a, 2, (((wOn.wr
    Reg.OPT_STATUS_PRESENT 1 0).wr Reg.OPT_STATUS_ID_VALID 1 0).wr Reg.ADM_STATUS_FW_PRESENT 1).wr Reg.OPT_STATUS_BRINGUP 2 0,
    by decide +kernel⟩,
   ⟨.a, 3, (((((wOn.wr Reg.OPT_STATUS_PRESENT 1 0).wr Reg.OPT_STATUS_ID_VALID 1 0).wr
    Reg.ADM_STATUS_FW_PRESENT 1).wr Reg.OPT_STATUS_BRINGUP 1 0).wr Reg.OPT_LANE_MODE 1 0 3).wr Reg.OPT_STATUS_CDR_LOCK 7 0, by decide +kernel⟩⟩

theorem witness_ModulesComeUp_3 :
    (∃ (l : Leg) (w : Nat) (s : State), s.detecting l w = false) ∧
    (∃ (l : Leg) (s : State), (s.rd Reg.OPT_STATUS_BRINGUP l.n = 1 ∨ s.rd Reg.OPT_STATUS_BRINGUP l.n = 2) ∧ s.isOn Reg.PROT_DEF_LOS l.n =
    false) ∧
    (∃ (l : Leg) (s : State), s.rd Reg.OPT_STATUS_BRINGUP l.n = 3) ∧
    (∃ (l : Leg) (s : State), s.isOn Reg.OPT_CTL_LANES_EN l.n = true ∧ s.isOn Reg.OPT_CTL_AUTO_RETRY l.n = true ∧ s.rd Reg.OPT_STATUS_BRINGUP
    l.n = 0 ∧ s.moduleReady l = true ∧ 1 ≤ s.rd Reg.OPT_STATUS_FAILS l.n ∧ s.rd Reg.OPT_STATUS_FAILS l.n < 3) :=
  ⟨⟨.a, 0, wOn, by decide +kernel⟩,
   ⟨.a, (((wOn.wr Reg.OPT_STATUS_PRESENT 1 0).wr Reg.OPT_STATUS_ID_VALID 1 0).wr Reg.ADM_STATUS_FW_PRESENT 1).wr
    Reg.OPT_STATUS_BRINGUP 2 0, by decide +kernel⟩,
   ⟨.a, (((wOn.wr Reg.OPT_STATUS_PRESENT 1 0).wr Reg.OPT_STATUS_ID_VALID 1
    0).wr Reg.ADM_STATUS_FW_PRESENT 1).wr Reg.OPT_STATUS_BRINGUP 3 0, by decide +kernel⟩,
   ⟨.a, (((((wOn.wr
    Reg.OPT_STATUS_PRESENT 1 0).wr Reg.OPT_STATUS_ID_VALID 1 0).wr Reg.ADM_STATUS_FW_PRESENT 1).wr Reg.OPT_CTL_LANES_EN 1 0).wr
    Reg.OPT_CTL_AUTO_RETRY 1 0).wr Reg.OPT_STATUS_FAILS 2 0, by decide +kernel⟩⟩

theorem witness_ModulesComeUp_4 :
    (∃ (l : Leg) (s : State), s.isOn Reg.OPT_CTL_AUTO_RETRY l.n = false) ∧
    (∃ (ag : Agent) (l : Leg) (w : Nat) (slip : Nat) (s : State), s.reach ag = true ∧ w < 4 ∧ s.mayDeskew ag l = true) ∧
    (∃ (ag : Agent) (l : Leg) (w : Nat) (slip : Nat) (s : State), ag = .pf ∧ s.isOn Reg.ACT_CTL_ENABLE l.n = true) ∧
    (∃ (ag : Agent) (l : Leg) (mask : Nat) (s : State), s.reach ag = true ∧ mask % 16 = 8 ∧ s.mayDeskew ag l = true) :=
  ⟨⟨.a, wOn.wr Reg.OPT_CTL_AUTO_RETRY 0 0, by decide +kernel⟩,
   ⟨.pf, .a, 3, 65, wOn,
    by decide +kernel⟩,
   ⟨.pf, .a, 0, 0, wOn.wr
    Reg.ACT_CTL_ENABLE 1 0, by decide +kernel⟩,
   ⟨.pf, .a, 8, wOn,
    by decide +kernel⟩⟩

theorem witness_ModulesComeUp_5 : (∃ (ag : Agent) (l : Leg) (mask : Nat) (s : State), s.reach ag = true ∧ mask % 16 = 0) :=
  ⟨.pf, .a, 0, wOn, by decide +kernel⟩

theorem witness_ModulesAreWatchedAndAccounted_1 :
    (∃ (l : Leg) (w : Nat) (clipped : Nat) (s : State), w < 4 ∧ s.detecting l w = true ∧ max 1 (s.rd Reg.OPT_OVL_CTL_THRESH l.n) < clipped ∧
    (s.wave l w).rxovl = false) ∧
    (∃ (l : Leg) (w : Nat) (clipped : Nat) (s : State), clipped ≤ s.rd Reg.OPT_OVL_CTL_THRESH l.n) ∧
    (∃ (l : Leg) (ack : Bool) (txFault : Bool) (ready : Bool) (duringTelem : Bool) (s : State), ack = true ∧ txFault = false ∧ ready = true ∧
    duringTelem = false ∧ s.isOn Reg.OPT_STATUS_PRESENT l.n = true ∧ (s.leg l).pollDue = false ∧ (s.leg l).pollFail < 3) ∧
    (∃ (l : Leg) (ack : Bool) (txFault : Bool) (ready : Bool) (duringTelem : Bool) (s : State), ack = true ∧ txFault = true ∧ s.rd
    Reg.OPT_SAFE_CAUSE l.n = 0) :=
  ⟨⟨.a, 3, 100000, wOn.wr Reg.OPT_LANE_MODE 1 0 3, by decide +kernel⟩,
   ⟨.a, 0, 0, wOn, by decide +kernel⟩,
   ⟨.a, true, false,
    true, false, ((wOn.wr Reg.OPT_STATUS_PRESENT 1 0).wr Reg.OPT_STATUS_ID_VALID 1 0).wr Reg.ADM_STATUS_FW_PRESENT 1, by decide +kernel⟩,
   ⟨.a, true, true, true, false, ((wOn.wr Reg.OPT_STATUS_PRESENT 1 0).wr Reg.OPT_STATUS_ID_VALID 1 0).wr
    Reg.ADM_STATUS_FW_PRESENT 1, by decide +kernel⟩⟩

theorem witness_ModulesAreWatchedAndAccounted_2 :
    (∃ (l : Leg) (ack : Bool) (txFault : Bool) (ready : Bool) (duringTelem : Bool) (s : State), ack = false ∧ duringTelem = false) ∧
    (∃ (l : Leg) (m : Telemetry) (w : Nat) (s : State), s.moduleReady l = true ∧ s.fwPresent = true ∧ m.modTemp < 2 ^ 16 ∧ m.bias0 < 2 ^ 16 ∧ w
    < 4 ∧ m.rxPower.get w < 2 ^ 16) ∧
    (∃ (l : Leg) (m : Telemetry) (s : State), (s.moduleReady l = false ∨ s.fwPresent = false)) ∧
    (∃ (l : Leg) (acked : Bool) (s : State), acked = true ∧ s.moduleReady l = true ∧ s.fwPresent = true) :=
  ⟨⟨.a,
    false, false, false, false, ((wOn.wr Reg.OPT_STATUS_PRESENT 1 0).wr Reg.OPT_STATUS_ID_VALID 1 0).wr Reg.ADM_STATUS_FW_PRESENT 1,
    by decide +kernel⟩,
   ⟨.a, { modTemp := 7000, vdm := none, bias0 := 5, bias1 := 6, rxPower := ⟨1, 2, 3, 4⟩ }, 3, ((wOn.wr
    Reg.OPT_STATUS_PRESENT 1 0).wr Reg.OPT_STATUS_ID_VALID 1 0).wr Reg.ADM_STATUS_FW_PRESENT 1, by decide +kernel⟩,
   ⟨.a,
    { modTemp := 7000, vdm := none, bias0 := 5, bias1 := 6, rxPower := ⟨1, 2, 3, 4⟩ }, wOn, by decide +kernel⟩,
   ⟨.a, true, ((wOn.wr
    Reg.OPT_STATUS_PRESENT 1 0).wr Reg.OPT_STATUS_ID_VALID 1 0).wr Reg.ADM_STATUS_FW_PRESENT 1, by decide +kernel⟩⟩

theorem witness_ModulesAreWatchedAndAccounted_3 :
    (∃ (l : Leg) (acked : Bool) (s : State), acked = false ∧ s.moduleReady l = true ∧ s.fwPresent = true) ∧
    (∃ (l : Leg) (s : State), s.moduleReady l = true ∧ s.fwPresent = true ∧ (signed 16 (s.rd Reg.OPT_TELEM_LASER_LASER_T l.n 0) - signed 16
    (s.rd Reg.TIME_LEG_LASER_REF_T_REF l.n)).natAbs ≤ 512) ∧
    (∃ (l : Leg) (s : State), s.moduleReady l = false) :=
  ⟨⟨.a, false, ((wOn.wr
    Reg.OPT_STATUS_PRESENT 1 0).wr Reg.OPT_STATUS_ID_VALID 1 0).wr Reg.ADM_STATUS_FW_PRESENT 1, by decide +kernel⟩,
   ⟨.a, ((wOn.wr Reg.OPT_STATUS_PRESENT 1 0).wr Reg.OPT_STATUS_ID_VALID 1 0).wr
    Reg.ADM_STATUS_FW_PRESENT 1, by decide +kernel⟩,
   ⟨.a, wOn, by decide +kernel⟩⟩

theorem witness_RegistersAreWrittenByTheirTypes_1 :
    (∃ (ag : Agent) (addr : Nat) (v : BitVec 32) (R : Row) (l : Nat) (i : Nat) (s : State), s.reach ag = true ∧ addr % 4 = 0 ∧ (addr / 65536 =
    0x02 ∨ addr / 65536 = 0x03 ∨ addr / 65536 = 0x33 ∨ addr / 65536 = 0x34) ∧ R ∈ windowRows addr ∧ Row.reach R addr = some (l, i, false) ∧
    R.ty = .rw) ∧
    (∃ (ag : Agent) (addr : Nat) (v : BitVec 32) (R : Row) (l : Nat) (i : Nat) (s : State), s.reach ag = true ∧ addr % 4 = 0 ∧ addr / 65536 =
    0x01 ∧ addr ≠ 0x010020 ∧ R ∈ windowRows addr ∧ Row.reach R addr = some (l, i, false) ∧ R.ty = .w1c) ∧
    (∃ (ag : Agent) (addr : Nat) (v : BitVec 32) (R : Row) (l : Nat) (i : Nat) (s : State), s.reach ag = true ∧ addr % 4 = 0 ∧ addr / 65536 =
    0x01 ∧ addr ≠ 0x010020 ∧ R ∈ windowRows addr ∧ Row.reach R addr = some (l, i, false) ∧ R.ty = .rws) ∧
    (∃ (ag : Agent) (addr : Nat) (v : BitVec 32) (R : Row) (l : Nat) (i : Nat) (s : State), s.reach ag = true ∧ addr % 4 = 0 ∧ (addr / 65536 =
    0x02 ∨ addr / 65536 = 0x03 ∨ addr / 65536 = 0x33 ∨ addr / 65536 = 0x34) ∧ R ∈ windowRows addr ∧ Row.reach R addr = some (l, i, false) ∧
    R.ty = .ro) :=
  ⟨⟨.pf, 0x340004, 0x1FF, Reg.EVT_ROUTE_RING, 0, 1, wOn, by decide +kernel⟩,
   ⟨.pf, 0x010000, 0xFFFFFFFF,
    Reg.PWR_STATUS_BROWN_OUT, 0, 0, wOn.wr Reg.PWR_STATUS_BROWN_OUT 1, by decide +kernel⟩,
   ⟨.pf, 0x010014, 0xFFFFFFFF,
    Reg.PWR_AON_TIMER_SECONDS, 0, 0, wOn, by decide +kernel⟩,
   ⟨.pf, 0x330004, 0xFFFFFFFF, Reg.MEM_SCRUB_STATUS_PASS_MS, 0, 0, wOn, by decide +kernel⟩⟩

theorem witness_RegistersAreWrittenByTheirTypes_2 :
    (∃ (ag : Agent) (addr : Nat) (v : BitVec 32) (s : State), s.reach ag = true ∧ addr = 0x0B0008 ∧ s.isOn Reg.CIPH_PART_LOCK = true) ∧
    (∃ (ag : Agent) (addr : Nat) (v : BitVec 32) (s : State), s.reach ag = true ∧ addr = 0x0B0008 ∧ s.isOn Reg.CIPH_PART_LOCK = false) ∧
    (∃ (ag : Agent) (addr : Nat) (v : BitVec 32) (s : State), ag = .bmc) ∧
    (∃ (ag : Agent) (addr : Nat) (v : BitVec 32) (s : State), ag.isFw = true ∧ addr % 4 ≠ 0) :=
  ⟨⟨.pf,
    0x0B0008, 9, wOn.wr Reg.CIPH_PART_LOCK 1, by decide +kernel⟩,
   ⟨.pf,
    0x0B0008, 9, wOn, by decide +kernel⟩,
   ⟨.bmc, 0x340004, 7, wOn, by decide +kernel⟩,
   ⟨.fw 3, 0x340005, 7, wOn, by decide +kernel⟩⟩

theorem witness_RegistersAreWrittenByTheirTypes_3 :
    (∃ (ag : Agent) (addr : Nat) (s : State), s.reach ag = true ∧ addr % 4 = 0 ∧ (addr / 65536 = 0x00 ∨ addr / 65536 = 0x33)) ∧
    (∃ (ag : Agent) (addr : Nat) (s : State), s.reach ag = true ∧ addr % 4 = 0 ∧ 0x35 ≤ addr / 65536 ∧ addr / 65536 < 0x40) ∧
    (∃ (ag : Agent) (addr : Nat) (h : Nat) (s : State), s.reach ag = true ∧ addr % 4 = 0 ∧ (addr / 65536 = 0x02 ∨ addr / 65536 = 0x03) ∧
    latchSet addr = [h] ∧ isLatched addr = false) ∧
    (∃ (ag : Agent) (addr : Nat) (s : State), s.reach ag = true ∧ addr % 4 = 0 ∧ (addr / 65536 = 0x02 ∨ addr / 65536 = 0x03) ∧ latchSet addr =
    [] ∧ isLatched addr = true) :=
  ⟨⟨.pf,
    0x330004, wOn, by decide +kernel⟩,
   ⟨.pf, 0x350000,
    wOn, by decide +kernel⟩,
   ⟨.pf, 0x020008, 0x02000C, wOn, by decide +kernel⟩,
   ⟨.pf, 0x02000C, { wOn with latches := [(0x02000C, 5)] }, by decide +kernel⟩⟩

theorem witness_RegistersAreWrittenByTheirTypes_4 :
    (∃ (f : Nat) (write : Bool) (v : BitVec 64) (s : State), s.runs .pcie = true ∧ s.cfg f Cfg.d3hot = 0 ∧ f ≤ 128 ∧ write = true ∧ (Tab.get []
    f s.host.errs).length < 64) ∧
    (∃ (f : Nat) (write : Bool) (v : BitVec 64) (s : State), s.runs .pcie = true ∧ s.cfg f Cfg.d3hot = 0 ∧ f ≤ 128 ∧ write = false ∧ (Tab.get
    [] f s.host.errs).length < 64) :=
  ⟨⟨128, true, 9, wOn, by decide +kernel⟩,
   ⟨128, false, 0, wOn, by decide +kernel⟩⟩

theorem witness_ScrubVisitsCountAndSpare_1 :
    (∃ (inst : Nat) (row : Nat) (err : Nat) (table : Nat) (idx : Nat) (s : State), inst < 8 ∧ s.isOn Reg.MEM_SCRUB_CTL_EN = true ∧ err = 1 ∧
    row < 2 ^ 24 ∧ s.rowAge inst row = 0) ∧
    (∃ (inst : Nat) (row : Nat) (err : Nat) (table : Nat) (idx : Nat) (s : State), inst < 8 ∧ s.isOn Reg.MEM_SCRUB_CTL_EN = true ∧ err = 2 ∧
    (inst = 0 ∨ inst = 6) ∧ s.rowAge inst row = 0) ∧
    (∃ (inst : Nat) (row : Nat) (err : Nat) (table : Nat) (idx : Nat) (s : State), inst < 8 ∧ s.isOn Reg.MEM_SCRUB_CTL_EN = true ∧ err = 2 ∧
    inst = 7 ∧ table = 4) ∧
    (∃ (inst : Nat) (row : Nat) (err : Nat) (table : Nat) (idx : Nat) (s : State), inst < 8 ∧ s.isOn Reg.MEM_SCRUB_CTL_EN = true ∧ err = 0 ∧ 2
    ≤ s.rowAge inst row ∧ s.rd Reg.MEM_INST_SPARES_USED 0 inst < s.rd Reg.MEM_INST_SPARES_TOTAL 0 inst ∧ s.rd Reg.MEM_INST_SPARES_TOTAL 0 inst
    < 2 ^ Reg.MEM_INST_SPARES_USED.width) :=
  ⟨⟨7, 5, 1, 0, 0, wOn.wr Reg.MEM_SCRUB_CTL_EN 1, by decide +kernel⟩,
   ⟨6, 5, 2, 0, 0, wOn.wr Reg.MEM_SCRUB_CTL_EN 1, by decide +kernel⟩,
   ⟨7, 5, 2, 4, 9, (wOn.wr Reg.MEM_SCRUB_CTL_EN 1).setKeySlot 9 { kind := 1, keys := [(0, 5)] }, by decide +kernel⟩,
   ⟨7, 5, 0, 0, 0, ((wOn.wr Reg.MEM_SCRUB_CTL_EN 1).wr Reg.MEM_INST_SPARES_TOTAL 20 0 7).setRowAge 7
    5 2, by decide +kernel⟩⟩

theorem witness_ScrubVisitsCountAndSpare_2 : (∃ (inst : Nat) (row : Nat) (err : Nat) (table : Nat) (idx : Nat) (s : State), s.isOn Reg.MEM_SCRUB_CTL_EN = false) :=
  ⟨0, 0, 0, 0, 0,
    wOn.wr Reg.MEM_SCRUB_CTL_EN 0, by decide +kernel⟩

theorem witness_MessagesForOthersArePassedOver_1 :
    (∃ (l : Leg) (msg : BitVec 384) (s : State), Hears s l ∧ msgType msg = 0x01 ∧ mcrcOk msg = false) ∧
    (∃ (l : Leg) (msg : BitVec 384) (s : State), Hears s l ∧ msgType msg = 0x01 ∧ mcrcOk msg = true ∧ msgTn msg ≠ 0x3FF ∧ ¬(s.hasTn l = true ∧
    msgTn msg = s.rd Reg.ACT_STATUS_TN l.n)) ∧
    (∃ (l : Leg) (msg : BitVec 384) (s : State), Hears s l ∧ msgType msg = 0x02 ∧ mcrcOk msg = false) ∧
    (∃ (l : Leg) (msg : BitVec 384) (s : State), Hears s l ∧ msgType msg = 0x02 ∧ mcrcOk msg = true ∧ msgTn msg ≠ 0x3FF ∧ ¬(s.hasTn l = true ∧
    msgTn msg = s.rd Reg.ACT_STATUS_TN l.n) ∧ ¬(msgTn msg = 0x3FE ∧ mfield msg 6 8 = s.serial)) :=
  ⟨⟨.a, 0x01 * 2 ^ 360, wMs wOn,
    by decide +kernel⟩,
   ⟨.a, wMsg 6 1 7 [1, 2, 3], wMs wTn, by decide +kernel⟩,
   ⟨.a, 0x02 * 2 ^ 360, wMs wOn,
    by decide +kernel⟩,
   ⟨.a, wMsg 0x3FE 2 7 [1, 2, 3], wMs wTn,
    by decide +kernel⟩⟩

theorem witness_MessagesForOthersArePassedOver_2 :
    (∃ (l : Leg) (msg : BitVec 384) (s : State), Hears s l ∧ msgType msg = 0x03 ∧ mcrcOk msg = false) ∧
    (∃ (l : Leg) (msg : BitVec 384) (s : State), Hears s l ∧ msgType msg = 0x03 ∧ mcrcOk msg = true ∧ msgTn msg ≠ 0x3FF ∧ ¬(s.hasTn l = true ∧
    msgTn msg = s.rd Reg.ACT_STATUS_TN l.n)) ∧
    (∃ (l : Leg) (msg : BitVec 384) (s : State), Hears s l ∧ msgType msg = 0x04 ∧ mcrcOk msg = false) ∧
    (∃ (l : Leg) (msg : BitVec 384) (s : State), Hears s l ∧ msgType msg = 0x04 ∧ mcrcOk msg = true ∧ msgTn msg ≠ 0x3FF ∧ ¬(s.hasTn l = true ∧
    msgTn msg = s.rd Reg.ACT_STATUS_TN l.n)) :=
  ⟨⟨.a, 0x03 * 2 ^ 360, wMs wOn,
    by decide +kernel⟩,
   ⟨.a, wMsg 6 3 7 [1, 2, 3], wMs wTn, by decide +kernel⟩,
   ⟨.a, 0x04 * 2 ^ 360, wMs wOn,
    by decide +kernel⟩,
   ⟨.a, wMsg 6 4 7 [1, 2, 3], wMs wTn, by decide +kernel⟩⟩

theorem witness_MessagesForOthersArePassedOver_3 :
    (∃ (l : Leg) (msg : BitVec 384) (s : State), Hears s l ∧ msgType msg = 0x05 ∧ mcrcOk msg = false) ∧
    (∃ (l : Leg) (msg : BitVec 384) (s : State), Hears s l ∧ msgType msg = 0x05 ∧ mcrcOk msg = true ∧ msgTn msg ≠ 0x3FF ∧ ¬(s.hasTn l = true ∧
    msgTn msg = s.rd Reg.ACT_STATUS_TN l.n)) ∧
    (∃ (l : Leg) (msg : BitVec 384) (s : State), Hears s l ∧ msgType msg = 0x06 ∧ mcrcOk msg = false) ∧
    (∃ (l : Leg) (msg : BitVec 384) (s : State), Hears s l ∧ msgType msg = 0x06 ∧ mcrcOk msg = true ∧ msgTn msg ≠ 0x3FF ∧ ¬(s.hasTn l = true ∧
    msgTn msg = s.rd Reg.ACT_STATUS_TN l.n) ∧ ¬(msgTn msg = 0x3FE ∧ mfield msg 6 8 = s.serial)) :=
  ⟨⟨.a, 0x05 * 2 ^ 360, wMs wOn,
    by decide +kernel⟩,
   ⟨.a, wMsg 6 5 7 [1, 2, 3], wMs wTn, by decide +kernel⟩,
   ⟨.a, 0x06 * 2 ^ 360, wMs wOn,
    by decide +kernel⟩,
   ⟨.a, wMsg 0x3FE 6 7 [1, 2, 3], wMs wTn,
    by decide +kernel⟩⟩

theorem witness_MessagesForOthersArePassedOver_4 :
    (∃ (l : Leg) (msg : BitVec 384) (s : State), Hears s l ∧ msgType msg = 0x07 ∧ mcrcOk msg = false) ∧
    (∃ (l : Leg) (msg : BitVec 384) (s : State), Hears s l ∧ msgType msg = 0x07 ∧ mcrcOk msg = true ∧ msgTn msg ≠ 0x3FF ∧ ¬(s.hasTn l = true ∧
    msgTn msg = s.rd Reg.ACT_STATUS_TN l.n) ∧ ¬(msgTn msg = 0x3FE ∧ mfield msg 6 8 = s.serial)) ∧
    (∃ (l : Leg) (msg : BitVec 384) (s : State), Hears s l ∧ msgType msg = 0x08 ∧ mcrcOk msg = false) ∧
    (∃ (l : Leg) (msg : BitVec 384) (s : State), Hears s l ∧ msgType msg = 0x08 ∧ mcrcOk msg = true ∧ msgTn msg ≠ 0x3FF ∧ ¬(s.hasTn l = true ∧
    msgTn msg = s.rd Reg.ACT_STATUS_TN l.n)) :=
  ⟨⟨.a, 0x07 * 2 ^ 360, wMs wOn,
    by decide +kernel⟩,
   ⟨.a, wMsg 0x3FE 7 7 [1, 2, 3], wMs wTn,
    by decide +kernel⟩,
   ⟨.a, 0x08 * 2 ^ 360, wMs wOn,
    by decide +kernel⟩,
   ⟨.a, wMsg 6 8 7 [1, 2, 3], wMs wTn, by decide +kernel⟩⟩

theorem witness_MessagesForOthersArePassedOver_5 :
    (∃ (l : Leg) (msg : BitVec 384) (s : State), Hears s l ∧ msgType msg = 0x09 ∧ mcrcOk msg = false) ∧
    (∃ (l : Leg) (msg : BitVec 384) (s : State), Hears s l ∧ msgType msg = 0x09 ∧ mcrcOk msg = true ∧ msgTn msg ≠ 0x3FF ∧ ¬(s.hasTn l = true ∧
    msgTn msg = s.rd Reg.ACT_STATUS_TN l.n)) ∧
    (∃ (l : Leg) (msg : BitVec 384) (s : State), Hears s l ∧ msgType msg = 0x0A ∧ mcrcOk msg = false) ∧
    (∃ (l : Leg) (msg : BitVec 384) (s : State), Hears s l ∧ msgType msg = 0x0A ∧ mcrcOk msg = true ∧ msgTn msg ≠ 0x3FF ∧ ¬(s.hasTn l = true ∧
    msgTn msg = s.rd Reg.ACT_STATUS_TN l.n)) :=
  ⟨⟨.a, 0x09 * 2 ^ 360, wMs wOn,
    by decide +kernel⟩,
   ⟨.a, wMsg 6 9 7 [1, 2, 3], wMs wTn, by decide +kernel⟩,
   ⟨.a, 0x0A * 2 ^ 360, wMs wOn,
    by decide +kernel⟩,
   ⟨.a, wMsg 6 10 7 [1, 2, 3], wMs wTn, by decide +kernel⟩⟩

theorem witness_MessagesForOthersArePassedOver_6 :
    (∃ (l : Leg) (msg : BitVec 384) (s : State), Hears s l ∧ msgType msg = 0x0B ∧ mcrcOk msg = false) ∧
    (∃ (l : Leg) (msg : BitVec 384) (s : State), Hears s l ∧ msgType msg = 0x0B ∧ mcrcOk msg = true ∧ msgTn msg ≠ 0x3FF ∧ ¬(s.hasTn l = true ∧
    msgTn msg = s.rd Reg.ACT_STATUS_TN l.n)) ∧
    (∃ (l : Leg) (msg : BitVec 384) (s : State), Hears s l ∧ msgType msg = 0x0C ∧ mcrcOk msg = false) ∧
    (∃ (l : Leg) (msg : BitVec 384) (s : State), Hears s l ∧ msgType msg = 0x0C ∧ mcrcOk msg = true ∧ msgTn msg ≠ 0x3FF ∧ ¬(s.hasTn l = true ∧
    msgTn msg = s.rd Reg.ACT_STATUS_TN l.n)) :=
  ⟨⟨.a, 0x0B * 2 ^ 360, wMs wOn,
    by decide +kernel⟩,
   ⟨.a, wMsg 6 11 7 [1, 2, 3], wMs wTn, by decide +kernel⟩,
   ⟨.a, 0x0C * 2 ^ 360, wMs wOn,
    by decide +kernel⟩,
   ⟨.a, wMsg 6 12 7 [1, 2, 3], wMs wTn, by decide +kernel⟩⟩

theorem witness_MessagesForOthersArePassedOver_7 :
    (∃ (l : Leg) (msg : BitVec 384) (s : State), Hears s l ∧ msgType msg = 0x0D ∧ mcrcOk msg = false) ∧
    (∃ (l : Leg) (msg : BitVec 384) (s : State), Hears s l ∧ msgType msg = 0x0D ∧ mcrcOk msg = true ∧ msgTn msg ≠ 0x3FF ∧ ¬(s.hasTn l = true ∧
    msgTn msg = s.rd Reg.ACT_STATUS_TN l.n)) ∧
    (∃ (l : Leg) (msg : BitVec 384) (s : State), Hears s l ∧ msgType msg = 0x0E ∧ mcrcOk msg = false) ∧
    (∃ (l : Leg) (msg : BitVec 384) (s : State), Hears s l ∧ msgType msg = 0x0E ∧ mcrcOk msg = true ∧ msgTn msg ≠ 0x3FF ∧ ¬(s.hasTn l = true ∧
    msgTn msg = s.rd Reg.ACT_STATUS_TN l.n)) :=
  ⟨⟨.a, 0x0D * 2 ^ 360, wMs wOn,
    by decide +kernel⟩,
   ⟨.a, wMsg 6 13 7 [1, 2, 3], wMs wTn, by decide +kernel⟩,
   ⟨.a, 0x0E * 2 ^ 360, wMs wOn,
    by decide +kernel⟩,
   ⟨.a, wMsg 6 14 7 [1, 2, 3], wMs wTn, by decide +kernel⟩⟩

theorem witness_MessagesForOthersArePassedOver_8 :
    (∃ (l : Leg) (msg : BitVec 384) (s : State), Hears s l ∧ knownType (msgType msg) = false ∧ mcrcOk msg = false) ∧
    (∃ (l : Leg) (msg : BitVec 384) (s : State), Hears s l ∧ knownType (msgType msg) = false ∧ mcrcOk msg = true ∧ msgTn msg ≠ 0x3FF ∧
    ¬(s.hasTn l = true ∧ msgTn msg = s.rd Reg.ACT_STATUS_TN l.n)) :=
  ⟨⟨.a, 0x20 * 2 ^ 360, wMs
    wOn, by decide +kernel⟩,
   ⟨.a, wMsg 6 0x20 7 [], wMs wTn, by decide +kernel⟩⟩

theorem witness_AnAcknowledgementMatchesItsMessage :
    (∃ (ag : Agent) (n : Nat) (seq : Nat) (s : State), s.path ag = true ∧ s.ownsBox ag n = true ∧ (s.box n).full = true ∧ (s.box n).seq = seq %
    256) ∧
    (∃ (ag : Agent) (n : Nat) (seq : Nat) (s : State), s.path ag = true ∧ s.ownsBox ag n = true ∧ ¬((s.box n).full = true ∧ (s.box n).seq = seq
    % 256)) ∧
    (∃ (n : Nat) (seq : Nat) (s : State), s.path .bmc = true ∧ s.ownsBox .bmc n = true ∧ (s.box n).full = true ∧ (s.box n).seq = seq % 256) ∧
    (∃ (n : Nat) (seq : Nat) (s : State), s.path .bmc = true ∧ s.ownsBox .bmc n = true ∧ ¬((s.box n).full = true ∧ (s.box n).seq = seq % 256)) :=
  ⟨⟨.pf, 3, 265, (wOn.wr Reg.MBX_OWN_OWNER 0 0 3).setBox 3 fun b => { b with full := true, collided := true, seq := 9 },
    by decide +kernel⟩,
   ⟨.pf, 3, 8, (wOn.wr Reg.MBX_OWN_OWNER 0 0 3).setBox 3 fun b => { b with full := true, collided := true, seq := 9 },
    by decide +kernel⟩,
   ⟨3, 9, (wOn.wr Reg.MBX_OWN_OWNER 0xE0 0 3).setBox 3 fun b => { b with full := true, collided := true, seq := 9 }, by decide +kernel⟩,
   ⟨3, 10, (wOn.wr Reg.MBX_OWN_OWNER 0xE0 0 3).setBox 3 fun b => { b with full := true, collided := true, seq := 9 }, by decide +kernel⟩⟩

theorem witness_StreamEntriesOutOfRangeAreRefused_1 :
    (∃ (ag : Agent) (stage : Bool) (e : Nat) (s : State), s.reach ag = true ∧ s.rdA ag Reg.STBL_CMD_BUSY = 0 ∧ s.fwPresent = true ∧ s.rdWords
    ag Reg.STBL_DATA = e ∧ bits e 9 2 > 128) ∧
    (∃ (ag : Agent) (stage : Bool) (e : Nat) (s : State), s.reach ag = true ∧ s.rdA ag Reg.STBL_CMD_BUSY = 0 ∧ s.fwPresent = true ∧ s.rdWords
    ag Reg.STBL_DATA = e ∧ bits e 42 39 > 4) ∧
    (∃ (ag : Agent) (stage : Bool) (e : Nat) (s : State), s.reach ag = true ∧ s.rdA ag Reg.STBL_CMD_BUSY = 0 ∧ s.fwPresent = true ∧ s.rdWords
    ag Reg.STBL_DATA = e ∧ (bits e 45 44 = 1 ∨ bits e 45 44 = 3) ∧ bits e 51 46 ≥ 2 ^ min 6 (s.rd Reg.STBL_RGT_SIZE_LOG2 0 (bits e 19 10))) ∧
    (∃ (ag : Agent) (stage : Bool) (e : Nat) (s : State), s.reach ag = true ∧ s.rdA ag Reg.STBL_CMD_BUSY = 0 ∧ s.fwPresent = true ∧ s.rdWords
    ag Reg.STBL_DATA = e ∧ (bits e 31 29 ≠ 0 ∨ bits e 63 54 ≠ 0 ∨ bits e 95 79 ≠ 0 ∨ bits e 127 109 ≠ 0)) :=
  ⟨⟨.pf, false, 129 * 4, (wOn.wr Reg.ADM_STATUS_FW_PRESENT 1).wrWords .pf Reg.STBL_DATA (129 * 4),
    by decide +kernel⟩,
   ⟨.pf, false, 5 * 2 ^ 39, (wOn.wr Reg.ADM_STATUS_FW_PRESENT 1).wrWords .pf Reg.STBL_DATA (5 * 2
    ^ 39), by decide +kernel⟩,
   ⟨.pf, false, 2 ^ 44 + 63 * 2 ^ 46, (wOn.wr Reg.ADM_STATUS_FW_PRESENT 1).wrWords .pf Reg.STBL_DATA (2 ^ 44 + 63 * 2 ^ 46),
    by decide +kernel⟩,
   ⟨.pf, false, 2 ^ 127, (wOn.wr
    Reg.ADM_STATUS_FW_PRESENT 1).wrWords .pf Reg.STBL_DATA (2 ^ 127), by decide +kernel⟩⟩

theorem witness_StreamEntriesOutOfRangeAreRefused_2 :
    (∃ (ag : Agent) (stage : Bool) (e : Nat) (s : State), s.reach ag = true ∧ s.rdA ag Reg.STBL_CMD_BUSY = 0 ∧ s.fwPresent = true ∧ s.rdWords
    ag Reg.STBL_DATA = e ∧ bits e 9 2 > 128) ∧
    (∃ (ag : Agent) (stage : Bool) (e : Nat) (s : State), s.reach ag = true ∧ s.rdA ag Reg.STBL_CMD_BUSY = 0 ∧ s.fwPresent = true ∧ s.rdWords
    ag Reg.STBL_DATA = e ∧ bits e 42 39 > 4) ∧
    (∃ (ag : Agent) (stage : Bool) (e : Nat) (s : State), s.reach ag = true ∧ s.rdA ag Reg.STBL_CMD_BUSY = 0 ∧ s.fwPresent = true ∧ s.rdWords
    ag Reg.STBL_DATA = e ∧ (bits e 45 44 = 1 ∨ bits e 45 44 = 3) ∧ bits e 51 46 ≥ 2 ^ min 6 (s.rd Reg.STBL_RGT_SIZE_LOG2 0 (bits e 19 10))) ∧
    (∃ (ag : Agent) (stage : Bool) (e : Nat) (s : State), s.reach ag = true ∧ s.rdA ag Reg.STBL_CMD_BUSY = 0 ∧ s.fwPresent = true ∧ s.rdWords
    ag Reg.STBL_DATA = e ∧ (bits e 31 29 ≠ 0 ∨ bits e 63 54 ≠ 0 ∨ bits e 95 79 ≠ 0 ∨ bits e 127 109 ≠ 0)) :=
  ⟨⟨.pf, false, 129 * 4, (wOn.wr Reg.ADM_STATUS_FW_PRESENT 1).wrWords .pf Reg.STBL_DATA (129 * 4),
    by decide +kernel⟩,
   ⟨.pf, false, 5 * 2 ^ 39, (wOn.wr Reg.ADM_STATUS_FW_PRESENT 1).wrWords .pf Reg.STBL_DATA (5 * 2
    ^ 39), by decide +kernel⟩,
   ⟨.pf, false, 2 ^ 44 + 63 * 2 ^ 46, (wOn.wr Reg.ADM_STATUS_FW_PRESENT 1).wrWords .pf Reg.STBL_DATA (2 ^ 44 + 63 * 2 ^ 46),
    by decide +kernel⟩,
   ⟨.pf, false, 2 ^ 127, (wOn.wr
    Reg.ADM_STATUS_FW_PRESENT 1).wrWords .pf Reg.STBL_DATA (2 ^ 127), by decide +kernel⟩⟩

theorem witness_FrameOfLineAndTimeCommands : (∃ s t : State, exec .limiterStep s = .next t) :=
  ⟨State.reset, _, rfl⟩

theorem witness_FrameOfPathCommands : (∃ s t : State, exec .tokenRefill s = .next t) :=
  ⟨State.reset, _, rfl⟩

theorem witness_FrameOfProtectionAndModuleCommands : (∃ s t : State, exec .holdoffExpiry s = .next t) :=
  ⟨State.reset, _, rfl⟩

theorem witness_FrameOfHostCommands : (∃ s t : State, exec .linkDown s = .next t) :=
  ⟨State.reset, _, rfl⟩

theorem witness_FrameOfManagementCommands : (∃ s t : State, exec .hbLost s = .next t) :=
  ⟨State.reset, _, rfl⟩

end Sys2Proof.Tests
end

/-! SUPPORT. The state after reset meets the invariant; a write of a field that holds more than its width loses what lies past it. -/

namespace Sys2Proof.Machine

/-! ### The state after reset -/

/-- The stores of reset list nothing, and an empty store is canonical. -/
theorem canon_reset : Canon State.reset := ⟨rfl, rfl, rfl⟩

/-- The logs and the receive queue of reset are empty (R11). -/
theorem bounded_reset : Bounded State.reset.host where
  log := Nat.zero_le _
  errs := fun _ hp => absurd hp List.not_mem_nil
  fwQueue := Nat.zero_le _

/-- Settles O2: nothing is stored at reset, so the stores are canonical and the logs within their sizes. -/
theorem resetMeetsTheInvariant : Obligations.ResetMeetsTheInvariant := ⟨canon_reset, bounded_reset⟩

/-! ### A write of a field that holds more than its width

The register store keeps a field as a number (log 5), which neither the type of a state nor `Inv` bounds by the field's width. A write
puts its value at the field's width (`State.rd_wr_same`), so in a W1C field the ones past the width go although the write clears none. -/

/-- The state after reset, but for the one-bit field PWR_STATUS.BROWN_OUT, which holds 2. -/
def wideBrownOut : State := { State.reset with regs := [(Reg.PWR_STATUS_BROWN_OUT.key 0 0, 2)] }

/-- That state after management core 0 wrote zero to the word of PWR_STATUS. -/
def wideBrownOutWritten : State := wideBrownOut.regWrite (.fw 0) 0x010000 0

/-- The invariant does not exclude the state. -/
theorem wideBrownOut_inv : Inv wideBrownOut := ⟨⟨rfl, rfl, rfl⟩, bounded_reset⟩

theorem wideBrownOut_reach : wideBrownOut.reach (.fw 0) = true := rfl

theorem wideBrownOut_rd : wideBrownOut.rd Reg.PWR_STATUS_BROWN_OUT = 2 := rfl

theorem wideBrownOutWritten_rd : wideBrownOutWritten.rd Reg.PWR_STATUS_BROWN_OUT = 0 := rfl

/-- REGISTER_WRITE of a management core that reaches the registers is `regWrite`. -/
theorem exec_registerWrite_fw {c : Fin 4} {s : State} (h : s.reach (.fw c) = true) (a : Nat) (v : BitVec 32) :
    exec (.registerWrite (.fw c) a v) s = .next (s.regWrite (.fw c) a v.toNat) :=
  congrArg Host.Outcome.next (if_pos h)

/-- Refutes O51, by its clause for the W1C fields of the PWR window: it gives the field after a write as what it held less the ones
written, with no bound on what it held. BROWN_OUT, one bit wide, holds 2; a write of zero clears no bit of it, so the clause has it read 2,
but the model puts 2 at the field's width and it reads 0. -/
theorem not_registersAreWrittenByTheirTypes : ¬ Obligations.RegistersAreWrittenByTheirTypes := by
  unfold Obligations.RegistersAreWrittenByTheirTypes
  rintro ⟨-, hw1c, -⟩
  obtain ⟨t, ht, hrd⟩ := hw1c (.fw 0) 0x010000 0 Reg.PWR_STATUS_BROWN_OUT 0 0 wideBrownOut wideBrownOut_reach
    (by decide) (by decide) (by decide) (by decide) (by decide) (by decide)
  have hnext := exec_registerWrite_fw wideBrownOut_reach 0x010000 0
  obtain rfl : wideBrownOutWritten = t := Host.Outcome.next.inj (hnext.symm.trans ht)
  rw [wideBrownOutWritten_rd, wideBrownOut_rd] at hrd
  exact absurd hrd (by decide)

end Sys2Proof.Machine

/-! SUPPORT. Firmware comes and goes: reads carried along a footprint, the boot record's bytes, restarts, heartbeats and the trial window
(13_firmware_and_lifecycle.md). -/

namespace Sys2Proof.Machine

/-! ### A field that a footprint does not name -/

section
variable {m : Nat} {s t u : State} {R Q : Row} {v : Nat}

/-- A mask names neither the field nor the register store as a whole. -/
def keepsRow (m : Nat) (R : Row) : Bool := !m.testBit 999 && !m.testBit (rowIdx R) && Row.inMap R

/-- A field that the footprint keeps reads as before. -/
theorem Foot.rd_keeps (h : Foot m s t) (hk : keepsRow m R = true) : t.rd R = s.rd R := by
  simp only [keepsRow, Bool.and_eq_true, Bool.not_eq_true'] at hk
  obtain ⟨⟨hall, hrow⟩, hmap⟩ := hk
  exact h.rd hall hrow hmap (Or.inl Nat.zero_lt_two)

/-- A count stands whatever came before it, where that keeps the field. -/
theorem counted_of_foot_before (h : Foot m s t) (hk : keepsRow m R = true) (hc : Counted R 0 0 1 t u) : Counted R 0 0 1 s u := by
  rwa [Counted, h.rd_keeps hk] at hc

/-- A count stands whatever comes after it, where that keeps the field. -/
theorem counted_of_foot_after (h : Foot m t u) (hk : keepsRow m R = true) (hc : Counted R 0 0 1 s t) : Counted R 0 0 1 s u := by
  rwa [Counted, h.rd_keeps hk]

/-- A counter that advances has counted. -/
theorem counted_inc (hn : 0 < R.n) : Counted R 0 0 1 s (s.inc R) := by
  rw [Counted, State.rd_inc_same hn, Nat.mod_mod]

/-- A counter advances: another place reads as before. -/
theorem State.rd_inc_key (h : Q.key 0 0 ≠ R.key 0 0) : (s.inc R).rd Q = s.rd Q := State.rd_wr_key h

/-- The delivery of an event leaves firmware's state. -/
@[simp] theorem State.event_fw (src det : Nat) : (s.event src det).fw = s.fw := (State.event_foot ..).fw rfl

end

/-! ### Bytes and checks -/

theorem leBytes_length (n x : Nat) : (leBytes n x).length = n := by
  rw [leBytes, List.length_map, List.length_range]

theorem leBytes_succ (n x : Nat) : leBytes (n + 1) x = BitVec.ofNat 8 x :: leBytes n (x / 256) := by
  unfold leBytes
  rw [List.range_succ_eq_map, List.map_cons, List.map_map]
  congr 1
  · simp
  · refine List.map_congr_left fun i _ => ?_
    rw [Function.comp_apply, Nat.mul_succ, Nat.pow_add, Nat.mul_comm (2 ^ (8 * i)), ← Nat.div_div_eq_div_mul]

/-- A little-endian field reads the number written, at its width. -/
theorem leNat_leBytes (n x : Nat) : leNat (leBytes n x) = x % 256 ^ n := by
  induction n generalizing x with
  | zero => rw [Nat.pow_zero, Nat.mod_one]; rfl
  | succ n ih =>
    rw [leBytes_succ, leNat, ih, BitVec.toNat_ofNat]
    calc x % 2 ^ 8 + 256 * (x / 256 % 256 ^ n) = x % (256 * 256 ^ n) := Nat.mod_mul.symm
      _ = x % 256 ^ (n + 1) := by rw [Nat.pow_succ' (n := n)]

/-- The part of a structure that begins where the bytes before it end. -/
theorem slice_middle (a b c : List Byte) : slice (a ++ (b ++ c)) a.length b.length = b := by
  simp [slice, zeros]

/-- A little-endian field that begins where the bytes before it end. -/
theorem hLe_at {a : List Byte} {off : Nat} (ha : a.length = off) (c : List Byte) (n x : Nat) :
    hLe (a ++ (leBytes n x ++ c)) off n = x % 256 ^ n := by
  subst ha
  have h := slice_middle a (leBytes n x) c
  rw [leBytes_length] at h
  rw [hLe, h, leNat_leBytes]

theorem hLe_head (c : List Byte) (n x : Nat) : hLe (leBytes n x ++ c) 0 n = x % 256 ^ n := hLe_at List.length_nil c n x

theorem crcStep_lt {w poly : Nat} (hp : poly < 2 ^ w) (reg b : Nat) : crcStep w poly reg b < 2 ^ w := by
  have hm : reg * 2 % 2 ^ w < 2 ^ w := Nat.mod_lt _ (Nat.two_pow_pos w)
  unfold crcStep
  split
  · exact Nat.xor_lt_two_pow hm hp
  · exact hm

theorem crcOf_lt {w poly init : Nat} (hp : poly < 2 ^ w) (hi : init < 2 ^ w) (l : List Nat) : crcOf w poly init l < 2 ^ w := by
  induction l generalizing init with
  | nil => exact hi
  | cons b l ih => exact ih (crcStep_lt hp init b)

theorem crc32_lt (l : List Nat) : crc32 l < 2 ^ 32 :=
  Nat.xor_lt_two_pow (crcOf_lt (by decide) (by decide) l) (by decide)

/-- A record of 60 bytes under its seal has a correct check (R345). -/
theorem crcGood_crcSeal {b : List Byte} (hb : b.length = 60) : crcGood (crcSeal b) = true := by
  have hcrc := hLe_at hb [] 4 (crc32 (byteBits b))
  rw [List.append_nil, Nat.mod_eq_of_lt (b := 256 ^ 4) (crc32_lt _)] at hcrc
  have htake : (b ++ leBytes 4 (crc32 (byteBits b))).take 60 = b := hb ▸ List.take_left
  rw [crcGood, crcSeal, htake, beq_iff_eq]
  exact hcrc

theorem ffTake_of_length {b : List Byte} {n : Nat} (hb : b.length = n) : ffTake b 0 n = b := by
  subst hb
  simp [ffTake]

/-! ### The boot record's bytes (R345) -/

/-- A record as a copy can hold it: each field at its width. -/
def BootRec.held (r : BootRec) : BootRec :=
  { seq := r.seq % 2 ^ 32, active := r.active % 2, prev := r.prev % 2, trial := r.trial, ovr := r.ovr, starts := r.starts % 4,
    trialMin := r.trialMin % 2 ^ 16 }

/-- The bytes under a copy's check. -/
def BootRec.body (r : BootRec) : List Byte :=
  leBytes 4 0x4E544252 ++ leBytes 4 r.seq ++ leBytes 1 r.flags ++ zeros 1 ++ leBytes 2 r.trialMin ++ zeros 48

theorem BootRec.body_length (r : BootRec) : r.body.length = 60 := by
  simp [BootRec.body, leBytes_length, zeros]

theorem BootRec.bytes_length (r : BootRec) : r.bytes.length = 64 := by
  rw [BootRec.bytes, crcSeal, List.length_append, leBytes_length]
  exact congrArg (· + 4) r.body_length

theorem BootRec.crcGood_bytes (r : BootRec) : crcGood r.bytes = true := crcGood_crcSeal r.body_length

/-- A record's bytes, one field after the other. -/
theorem BootRec.bytes_eq (r : BootRec) : r.bytes = leBytes 4 0x4E544252 ++ (leBytes 4 r.seq ++ (leBytes 1 r.flags ++
    (zeros 1 ++ (leBytes 2 r.trialMin ++ (zeros 48 ++ leBytes 4 (crc32 (byteBits r.body))))))) := by
  rw [BootRec.bytes, crcSeal]
  simp only [List.append_assoc]
  rfl

theorem BootRec.hLe_magic (r : BootRec) : hLe r.bytes 0 4 = 0x4E544252 := by
  rw [r.bytes_eq, hLe_head]
  norm_num

theorem BootRec.hLe_seq (r : BootRec) : hLe r.bytes 4 4 = r.seq % 2 ^ 32 := by
  rw [r.bytes_eq, hLe_at (leBytes_length ..)]
  norm_num

theorem b2n_le_one (b : Bool) : b2n b ≤ 1 := by cases b <;> decide

theorem b2n_beq_one (b : Bool) : (b2n b == 1) = b := by cases b <;> rfl

theorem BootRec.flags_lt (r : BootRec) : r.flags < 256 := by
  have htrial := b2n_le_one r.trial
  have hovr := b2n_le_one r.ovr
  unfold BootRec.flags
  omega

/-- The bits of FLAGS, one field after the other. -/
theorem BootRec.bits_flags (r : BootRec) : bit r.flags 0 = r.active % 2 ∧ bit r.flags 1 = r.prev % 2 ∧ bit r.flags 2 = b2n r.trial ∧
    bit r.flags 3 = b2n r.ovr ∧ bits r.flags 5 4 = r.starts % 4 := by
  have htrial := b2n_le_one r.trial
  have hovr := b2n_le_one r.ovr
  simp only [BootRec.flags, bit, bits]
  omega

theorem BootRec.hLe_flags (r : BootRec) : hLe r.bytes 8 1 = r.flags := by
  rw [r.bytes_eq, ← List.append_assoc, hLe_at (by simp only [List.length_append, leBytes_length])]
  exact Nat.mod_eq_of_lt r.flags_lt

theorem BootRec.hLe_trialMin (r : BootRec) : hLe r.bytes 10 2 = r.trialMin % 2 ^ 16 := by
  rw [r.bytes_eq, ← List.append_assoc, ← List.append_assoc, ← List.append_assoc,
    hLe_at (by simp only [List.length_append, leBytes_length, zeros, List.length_replicate])]
  norm_num

/-- What is written to a copy is read from it, each field at its width. -/
theorem bootRecOf_bytes (r : BootRec) : bootRecOf r.bytes = some r.held := by
  unfold bootRecOf BootRec.held
  rw [r.hLe_magic, r.crcGood_bytes, r.hLe_seq, r.hLe_flags, r.hLe_trialMin]
  obtain ⟨hactive, hprev, htrial, hovr, hstarts⟩ := r.bits_flags
  simp only [hactive, hprev, htrial, hovr, hstarts, b2n_beq_one, decide_true, Bool.and_true, if_true]

/-! ### The copies of the boot record in flash -/

section
variable (s : State) (r : BootRec)

theorem State.bootCopy_zero : s.bootCopy 0 = bootRecOf (ffTake s.fw.flash.rec0 0 64) := rfl

theorem State.bootCopy_one : s.bootCopy 1 = bootRecOf (ffTake s.fw.flash.rec1 0 64) := rfl

/-- The copies alone say which record is in force. -/
theorem State.bootRec_congr {s t : State} (h0 : t.fw.flash.rec0 = s.fw.flash.rec0) (h1 : t.fw.flash.rec1 = s.fw.flash.rec1) :
    t.bootRec = s.bootRec := by
  unfold State.bootRec State.bootIn
  rw [State.bootCopy_zero, State.bootCopy_one, h0, h1]
  rfl

theorem bootRecOf_ffTake_bytes : bootRecOf (ffTake r.bytes 0 64) = some r.held := by
  rw [ffTake_of_length r.bytes_length, bootRecOf_bytes]

/-- Following the record in force leaves firmware's state. -/
@[simp] theorem State.settleRec_fw : s.settleRec.fw = s.fw := (State.settleRec_foot s).fw rfl

/-- The valid copy with the greater SEQ is in force. -/
theorem State.seq_le_bootRec {c : Nat} (hc : c = 0 ∨ c = 1) {b : BootRec} (hb : s.bootCopy c = some b) : b.seq ≤ s.bootRec.seq := by
  unfold State.bootRec State.bootIn
  obtain rfl | rfl := hc
  · rw [hb]
    cases h1 : s.bootCopy 1 with
    | none => exact Nat.le_refl _
    | some d =>
      by_cases hlt : d.seq > b.seq
      · simpa [hlt] using Nat.le_of_lt hlt
      · simp [hlt]
  · rw [hb]
    cases h0 : s.bootCopy 0 with
    | none => exact Nat.le_refl _
    | some d =>
      by_cases hlt : b.seq > d.seq
      · simp [hlt]
      · simpa [hlt] using Nat.le_of_not_lt hlt

theorem State.bootRec_of_copy_zero {a : BootRec} (h0 : s.bootCopy 0 = some a) (h1 : ∀ b, s.bootCopy 1 = some b → b.seq ≤ a.seq) :
    s.bootRec = a := by
  unfold State.bootRec State.bootIn
  rw [h0]
  cases hb : s.bootCopy 1 with
  | none => rfl
  | some b => simp [Nat.not_lt.2 (h1 b hb)]

theorem State.bootRec_of_copy_one {b : BootRec} (h1 : s.bootCopy 1 = some b) (h0 : ∀ a, s.bootCopy 0 = some a → a.seq < b.seq) :
    s.bootRec = b := by
  unfold State.bootRec State.bootIn
  rw [h1]
  cases ha : s.bootCopy 0 with
  | none => rfl
  | some a => simp [h0 a ha]

/-- A record written is in force after it, where its SEQ does not go back to zero. -/
theorem State.writeRec_bootRec (hseq : s.bootRec.seq < 2 ^ 32 - 1) :
    (s.writeRec r).bootRec = { r with seq := s.bootRec.seq + 1 }.held := by
  have hmod : (s.bootRec.seq + 1) % 2 ^ 32 = s.bootRec.seq + 1 := Nat.mod_eq_of_lt (by omega)
  unfold State.writeRec
  rw [State.bootRec_congr (congrArg (·.flash.rec0) (State.settleRec_fw _)) (congrArg (·.flash.rec1) (State.settleRec_fw _)), hmod]
  split
  · refine State.bootRec_of_copy_one _ (bootRecOf_ffTake_bytes _) fun a ha => ?_
    have hle := s.seq_le_bootRec (Or.inl rfl) ha
    simp only [BootRec.held, hmod]
    omega
  · refine State.bootRec_of_copy_zero _ (bootRecOf_ffTake_bytes _) fun b hb => ?_
    have hle := s.seq_le_bootRec (Or.inr rfl) hb
    simp only [BootRec.held, hmod]
    omega

end

/-! ### What a start of firmware carries over -/

/-- The activation that the handover region carries, and the copies of the boot record. -/
def State.carried (s : State) : Option (Nat × Nat) × List Byte × List Byte := (s.fw.activate, s.fw.flash.rec0, s.fw.flash.rec1)

section
variable {s t : State}

theorem State.carried_of_fw (h : t.fw = s.fw) : t.carried = s.carried := by
  rw [State.carried, h]
  rfl

theorem State.activate_of_carried (h : t.carried = s.carried) : t.fw.activate = s.fw.activate := congrArg Prod.fst h

theorem State.bootRec_of_carried (h : t.carried = s.carried) : t.bootRec = s.bootRec :=
  State.bootRec_congr (congrArg (·.2.1) h) (congrArg (·.2.2) h)

variable (s)

/-- Retirement blanks the settings alone of what the flash holds (R364). -/
theorem State.zeroise_carried : s.zeroise.carried = s.carried := by
  have hkeys : s.zeroiseKeys.fw = s.fw := (State.zeroiseKeys_foot s).fw rfl
  have hwipe (x : State) (l : Leg) : (x.wipeHeKey l).fw = x.fw := (State.wipeHeKey_foot x l).fw rfl
  simp only [State.zeroise, State.carried, State.setFlash, State.setFuse, hwipe, hkeys]

theorem State.lcWork_carried (k : Nat) : (s.lcWork k).carried = s.carried := by
  unfold State.lcWork
  split
  · rfl
  · split
    · exact s.zeroise_carried
    · rfl

@[simp] theorem State.settleLc_fw : s.settleLc.fw = s.fw := (State.settleLc_foot s).fw rfl

theorem State.lcRun_carried (k : Nat) : (s.lcRun k).carried = s.carried := by
  unfold State.lcRun
  refine (State.carried_of_fw (State.event_fw ..)).trans ((State.carried_of_fw (State.settleLc_fw _)).trans ?_)
  exact State.lcWork_carried (s.setFuse fun f => f.blowIntent k) k

/-- What the boot ROM does before it chooses a slot (R346 steps 1 and 2). -/
def State.bootReady : State := ((s.finishRetire.settleLc.settleRec).settleSlot 0).settleSlot 1

theorem State.finishRetire_carried : s.finishRetire.carried = s.carried := by
  unfold State.finishRetire
  split
  · exact s.lcRun_carried 3
  · rfl

theorem State.bootReady_carried : s.bootReady.carried = s.carried := by
  have hslot (x : State) (k : Nat) : (x.settleSlot k).fw = x.fw := (State.settleSlot_foot x k).fw rfl
  calc s.bootReady.carried
      = s.finishRetire.carried := State.carried_of_fw (by rw [State.bootReady, hslot, hslot, State.settleRec_fw, State.settleLc_fw])
    _ = s.carried := s.finishRetire_carried

/-! ### The activation carried stands through a restart -/

@[simp] theorem State.writeRec_activate (r : BootRec) : (s.writeRec r).fw.activate = s.fw.activate := by
  rw [State.writeRec, State.settleRec_fw]
  rfl

@[simp] theorem State.startSlot_activate (slot : Nat) : (s.startSlot slot).fw.activate = s.fw.activate := by
  rw [State.startSlot, (State.readSettings_foot ..).fw rfl]
  rfl

@[simp] theorem State.trialStep_activate : s.trialStep.fw.activate = s.fw.activate := by
  unfold State.trialStep
  dsimp only
  split
  · rfl
  · split <;> simp

@[simp] theorem State.fallbackTo_activate (alt : Nat) : (s.fallbackTo alt).fw.activate = s.fw.activate := by
  simp [State.fallbackTo]

theorem State.bootReady_activate : s.bootReady.fw.activate = s.fw.activate := State.activate_of_carried s.bootReady_carried

/-- The boot ROM starts the slot in force, or else the other, or else none (R346 steps 4 to 6). -/
def State.bootSlot : State :=
  if s.canBoot s.bootRec.active then s.startSlot s.bootRec.active
  else if s.canFallback then s.fallbackTo (1 - s.bootRec.active)
  else s.wr Reg.FW_STATUS_STATE 4

/-- Where the other slot is asked for and can be booted it is; if not, the trial is counted and the slot in force comes first. -/
def State.bootChoice (other : Bool) : State :=
  if other && s.canFallback then s.fallbackTo (1 - s.bootRec.active)
  else (if other then s.event (Ev.fw 6) else s).trialStep.bootSlot

theorem State.bootRom_eq (other : Bool) :
    s.bootRom other = if s.isOn Reg.FW_FLASH_SFDP_OK then s.bootReady.bootChoice other else s.wr Reg.FW_STATUS_STATE 5 := by
  unfold State.bootRom
  cases s.isOn Reg.FW_FLASH_SFDP_OK <;> rfl

@[simp] theorem State.bootSlot_activate : s.bootSlot.fw.activate = s.fw.activate := by
  unfold State.bootSlot
  split
  · simp
  · split <;> simp

theorem State.bootChoice_activate (other : Bool) : (s.bootChoice other).fw.activate = s.fw.activate := by
  unfold State.bootChoice
  split
  · simp
  · cases other <;> simp

theorem State.bootRom_activate (other : Bool) : (s.bootRom other).fw.activate = s.fw.activate := by
  rw [State.bootRom_eq]
  split
  · exact (State.bootChoice_activate ..).trans s.bootReady_activate
  · rfl

/-! ### A trial that is over is not given up again -/

/-- An image that is not on trial is neither counted nor given up. -/
theorem State.trialStep_of_not_trial {s : State} (h : s.bootRec.trial = false) : s.trialStep = s := by
  unfold State.trialStep
  dsimp only
  rw [h]
  rfl

theorem State.bootReady_reverts : s.bootReady.rd Reg.FW_CNT_REVERTS = s.rd Reg.FW_CNT_REVERTS := by
  rw [State.bootReady, (State.settleSlot_foot ..).rd_keeps rfl, (State.settleSlot_foot ..).rd_keeps rfl,
    (State.settleRec_foot ..).rd_keeps rfl, (State.settleLc_foot ..).rd_keeps rfl, (State.finishRetire_foot ..).rd_keeps rfl]

theorem State.bootSlot_reverts : s.bootSlot.rd Reg.FW_CNT_REVERTS = s.rd Reg.FW_CNT_REVERTS := by
  unfold State.bootSlot
  split
  · exact (State.startSlot_foot ..).rd_keeps rfl
  · split
    · exact (State.fallbackTo_foot ..).rd_keeps rfl
    · exact State.rd_wr_key (by decide)

/-- With no trial on record the boot ROM counts no revert. -/
theorem State.bootRom_reverts {s : State} (h : s.bootRec.trial = false) :
    (s.bootRom false).rd Reg.FW_CNT_REVERTS = s.rd Reg.FW_CNT_REVERTS := by
  have hready : s.bootReady.bootRec.trial = false := by rwa [State.bootRec_of_carried s.bootReady_carried]
  have hchoice : s.bootReady.bootChoice false = s.bootReady.bootSlot := by
    rw [State.bootChoice, Bool.false_and, if_neg Bool.false_ne_true, if_neg Bool.false_ne_true, State.trialStep_of_not_trial hready]
  rw [State.bootRom_eq, hchoice]
  split
  · exact (State.bootSlot_reverts _).trans s.bootReady_reverts
  · exact State.rd_wr_key (by decide)

end

/-! ### Restarts (R349) -/

/-- The restart's cause and count, and its event. -/
def State.restartNoted (s : State) (cause : Nat) : State := ((s.wr Reg.FW_DR_STATUS_LAST_CAUSE cause).inc Reg.FW_CNT_RESTARTS).event (Ev.fw 4)

/-- A counted restart finds as many in the window as R349 allows. -/
def State.restartFull (s : State) (counted : Bool) : Bool := counted && s.restartWindow.length ≥ s.rd Reg.FW_DR_RESTART_MAX

section
variable (s : State) (cause : Nat) (counted : Bool)

/-- A restart is a run of the boot ROM on the state that shows what was noted; all it carries over is as it was. -/
theorem State.restart_eq : ∃ x : State, s.restart cause counted = x.bootRom (s.restartFull counted) ∧
    (∀ R, x.rd R = (s.restartNoted cause).rd R) ∧ x.carried = s.carried := by
  refine ⟨_, rfl, fun R => rfl, ?_⟩
  have hnoted : (s.restartNoted cause).carried = s.carried := State.carried_of_fw (State.event_fw ..)
  exact hnoted

theorem State.restart_activate : (s.restart cause counted).fw.activate = s.fw.activate := by
  obtain ⟨x, heq, -, hcarried⟩ := s.restart_eq cause counted
  rw [heq, State.bootRom_activate, State.activate_of_carried hcarried]

/-- The boot ROM and the note's event leave the cause that the restart notes. -/
theorem State.restart_lastCause (hc : cause < 8) : (s.restart cause counted).rd Reg.FW_DR_STATUS_LAST_CAUSE = cause := by
  obtain ⟨x, heq, hrd, -⟩ := s.restart_eq cause counted
  rw [heq, (State.bootRom_foot ..).rd_keeps rfl, hrd, State.restartNoted, (State.event_foot ..).rd_keeps rfl,
    State.rd_inc_key (by decide), State.rd_wr_same (by decide)]
  exact Nat.mod_eq_of_lt hc

theorem State.restart_counts : Counted Reg.FW_CNT_RESTARTS 0 0 1 s (s.restart cause counted) := by
  obtain ⟨x, heq, hrd, -⟩ := s.restart_eq cause counted
  rw [heq, Counted, (State.bootRom_foot ..).rd_keeps rfl, hrd, State.restartNoted, (State.event_foot ..).rd_keeps rfl,
    State.rd_inc_same (by decide), State.rd_wr_key (by decide), Nat.mod_mod]

/-- An uncounted restart with no trial on record counts no revert. -/
theorem State.restart_reverts {s : State} (h : s.bootRec.trial = false) :
    (s.restart cause false).rd Reg.FW_CNT_REVERTS = s.rd Reg.FW_CNT_REVERTS := by
  obtain ⟨x, heq, hrd, hcarried⟩ := s.restart_eq cause false
  have htrial : x.bootRec.trial = false := by rwa [State.bootRec_of_carried hcarried]
  rw [heq, State.restartFull, Bool.false_and, State.bootRom_reverts htrial, hrd, State.restartNoted,
    (State.event_foot ..).rd_keeps rfl, State.rd_inc_key (by decide), State.rd_wr_key (by decide)]

/-- Without an activation carried no image gives way for its settings (R355). -/
theorem State.settingsRevert_of_none {s : State} (h : s.fw.activate = none) : s.settingsRevert = s := by
  simp [State.settingsRevert, h]

end

/-! ### Firmware goes: silence, a planned absence, the end of autopilot, a first heartbeat that is late (R25, R26, R349, R350) -/

section
variable (s : State)

/-- Autopilot begins and firmware is absent. -/
def State.leaves : State := s.autopilotOn.fwStop 2

def fpLeaves : Nat := fp422 ||| fp423

theorem State.leaves_foot : Foot fpLeaves s s.leaves :=
  .step (State.fwStop_foot ..) rfl (.step (State.autopilotOn_foot _) rfl .refl)

theorem State.autopilotOn_counts : Counted Reg.FW_CNT_AUTOPILOTS 0 0 1 s s.autopilotOn :=
  counted_of_foot_after (State.event_foot ..) rfl (counted_inc (s := { s with fw := { s.fw with autopilot := true } }) (by decide))

theorem State.leaves_counts : Counted Reg.FW_CNT_AUTOPILOTS 0 0 1 s s.leaves :=
  counted_of_foot_after (State.fwStop_foot ..) rfl s.autopilotOn_counts

theorem State.leaves_absent : s.leaves.rd Reg.ADM_STATUS_FW_PRESENT = 0 := by
  rw [State.leaves, State.fwStop, (State.stopOps_foot _).rd_keeps rfl, State.rd_wr_key (by decide), State.rd_wr_same (by decide)]
  rfl

theorem State.leaves_carried : s.leaves.carried = s.carried := by
  have hstop : s.leaves.fw = s.autopilotOn.fw := (State.stopOps_foot _).fw rfl
  have hon : s.autopilotOn.fw = { s.fw with autopilot := true } := State.event_fw ..
  rw [State.carried, hstop, hon]
  rfl

/-- Firmware goes: autopilot, a restart, and the image's reverting where its settings ask for it. -/
def State.goes (cause : Nat) (counted : Bool) : State := (s.leaves.restart cause counted).settingsRevert

/-- What silence and a planned absence have in common. -/
structure State.Gone (s : State) (cause : Nat) (t : State) : Prop where
  lastCause : t.rd Reg.FW_DR_STATUS_LAST_CAUSE = cause
  restarts : Counted Reg.FW_CNT_RESTARTS 0 0 1 s t
  autopilots : Counted Reg.FW_CNT_AUTOPILOTS 0 0 1 s t
  absent : t.rd Reg.ADM_STATUS_FW_PRESENT = 0

variable {s}

theorem State.goes_eq_restart (ha : s.fw.activate = none) (cause : Nat) (counted : Bool) :
    s.goes cause counted = s.leaves.restart cause counted := by
  refine State.settingsRevert_of_none ?_
  rw [State.restart_activate, State.activate_of_carried s.leaves_carried, ha]

theorem State.goes_gone (ha : s.fw.activate = none) {cause : Nat} (hc : cause < 8) (counted : Bool) :
    State.Gone s cause (s.goes cause counted) := by
  rw [State.goes_eq_restart ha]
  exact {
    lastCause := State.restart_lastCause _ _ _ hc
    restarts := counted_of_foot_before s.leaves_foot rfl (State.restart_counts ..)
    autopilots := counted_of_foot_after (State.restart_foot ..) rfl s.leaves_counts
    absent := ((State.restart_foot ..).rd_keeps rfl).trans s.leaves_absent }

/-- What came before, where it keeps both counters, does not matter. -/
theorem State.Gone.of_foot {m cause : Nat} {u t : State} (h : Foot m s u) (hr : keepsRow m Reg.FW_CNT_RESTARTS = true)
    (hp : keepsRow m Reg.FW_CNT_AUTOPILOTS = true) (hg : State.Gone u cause t) : State.Gone s cause t :=
  { hg with restarts := counted_of_foot_before h hr hg.restarts, autopilots := counted_of_foot_before h hp hg.autopilots }

@[simp] theorem State.tearFlash_activate : s.tearFlash.fw.activate = s.fw.activate := by
  unfold State.tearFlash
  split <;> rfl

theorem State.hbLost_of_not_running (h : s.rd Reg.FW_STATUS_STATE ≠ 1) : s.hbLost = s := if_pos h

theorem State.hbLost_of_running (h : s.rd Reg.FW_STATUS_STATE = 1) : s.hbLost = (s.tearFlash.event (Ev.fw 0)).goes 1 true :=
  if_neg (not_not.2 h)

/-- Silence: a write that goes on is cut off, then firmware goes, with cause 1. -/
theorem State.hbLost_gone (h : s.rd Reg.FW_STATUS_STATE = 1) (ha : s.fw.activate = none) : State.Gone s 1 s.hbLost := by
  rw [State.hbLost_of_running h]
  have hfoot : Foot (fp404 ||| fp8) s (s.tearFlash.event (Ev.fw 0)) :=
    .step (State.event_foot ..) rfl (.step (State.tearFlash_foot _) rfl .refl)
  exact .of_foot hfoot rfl rfl (State.goes_gone (by simpa using ha) (by decide) true)

theorem State.planned_of_not_running (h : s.rd Reg.FW_STATUS_STATE ≠ 1) : s.planned = s := if_pos h

theorem State.planned_of_running (h : s.rd Reg.FW_STATUS_STATE = 1) : s.planned = s.goes 4 false := if_neg (not_not.2 h)

theorem State.planned_gone (h : s.rd Reg.FW_STATUS_STATE = 1) (ha : s.fw.activate = none) : State.Gone s 4 s.planned := by
  rw [State.planned_of_running h]
  exact State.goes_gone ha (by decide) false

/-! ### The quality at the end of autopilot (R26) -/

/-- What a change of the quality can change once the new state shows; bit 243 is TIME_CNT_HOLDOVER_ENTRIES. -/
def fpQualityEntered : Nat := fp8 ||| fp13 ||| fp151 ||| fp152 ||| fp153 ||| fp154 ||| 2 ^ 243

theorem State.setQuality_foot_entered {q : Nat} (h : s.rd Reg.TIME_QUAL_QUALITY ≠ q) :
    Foot fpQualityEntered (s.wr Reg.TIME_QUAL_QUALITY q) (s.setQuality q) := by
  rw [State.setQuality, if_neg h]
  extract_lets b0 _ _ entered marked held target _ ended _ lifted
  have hentered : Foot fpQualityEntered (s.wr Reg.TIME_QUAL_QUALITY q) entered := .step (State.event_foot ..) rfl (.setTime rfl .refl)
  have hmarked : Foot fpQualityEntered (s.wr Reg.TIME_QUAL_QUALITY q) marked := .ite hentered (.step (State.markBins_foot ..) rfl hentered)
  have hheld : Foot fpQualityEntered (s.wr Reg.TIME_QUAL_QUALITY q) held :=
    .ite (.step (State.event_foot ..) rfl (.inc rfl (Or.inr rfl) hmarked)) hmarked
  have htarget : Foot fpQualityEntered (s.wr Reg.TIME_QUAL_QUALITY q) target := .ite (.step (State.setTgt_foot ..) rfl hheld) hheld
  have hended : Foot fpQualityEntered (s.wr Reg.TIME_QUAL_QUALITY q) ended :=
    .ite (.step (State.event_foot ..) rfl (.setTime rfl htarget)) htarget
  have hlifted : Foot fpQualityEntered (s.wr Reg.TIME_QUAL_QUALITY q) lifted := .ite (.setTime rfl hended) hended
  exact .step (State.settleBound_foot _) rfl (.step (State.settleHo_foot ..) rfl (.step (State.settleSquelch_foot _) rfl hlifted))

/-- The quality state entered is the one that shows. -/
theorem State.setQuality_quality {q : Nat} (hq : q < 8) : (s.setQuality q).rd Reg.TIME_QUAL_QUALITY = q := by
  by_cases h : s.rd Reg.TIME_QUAL_QUALITY = q
  · rwa [State.setQuality, if_pos h]
  · rw [(State.setQuality_foot_entered h).rd_keeps rfl, State.rd_wr_same (by decide)]
    exact Nat.mod_eq_of_lt hq

theorem State.closeGrants_quality (h : s.rd Reg.TIME_QUAL_QUALITY = 1 ∨ s.rd Reg.TIME_QUAL_QUALITY = 2) :
    s.closeGrants.rd Reg.TIME_QUAL_QUALITY = 3 := by
  have hcut : (({ s with fw := { s.fw with closed := true, autopilot := false } }.cutWindows .a).cutWindows .b).rd Reg.TIME_QUAL_QUALITY =
      s.rd Reg.TIME_QUAL_QUALITY := by
    rw [(State.cutWindows_foot ..).rd_keeps rfl, (State.cutWindows_foot ..).rd_keeps rfl, State.rd_set_fw]
  have hq : (s.rd Reg.TIME_QUAL_QUALITY = 1 || s.rd Reg.TIME_QUAL_QUALITY = 2) = true := by simpa using h
  unfold State.closeGrants
  dsimp only
  rw [hcut, if_pos hq]
  exact State.setQuality_quality (by decide)

/-- The end of autopilot before the restart: the cut-off write, the closed grants, STATE, the count and its event. -/
def State.autopilotEnds (s : State) : State :=
  ((s.tearFlash.closeGrants.wr Reg.FW_STATUS_STATE 3).inc Reg.FW_CNT_AUTOPILOT_EXPIRED).event (Ev.fw 3)

theorem State.autopilotExpired_of_off (h : s.fw.autopilot = false) : s.autopilotExpired = s := by
  rw [State.autopilotExpired, h]
  rfl

theorem State.autopilotExpired_of_on (h : s.fw.autopilot = true) : s.autopilotExpired = s.autopilotEnds.restart 2 true := by
  rw [State.autopilotExpired, h]
  rfl

theorem State.closeGrants_tearFlash_foot : Foot (fp404 ||| fp428) s s.tearFlash.closeGrants :=
  .step (State.closeGrants_foot _) rfl (.step (State.tearFlash_foot _) rfl .refl)

theorem State.autopilotEnds_counts : Counted Reg.FW_CNT_AUTOPILOT_EXPIRED 0 0 1 s s.autopilotEnds := by
  rw [Counted, State.autopilotEnds, (State.event_foot ..).rd_keeps rfl, State.rd_inc_same (by decide), State.rd_wr_key (by decide),
    State.closeGrants_tearFlash_foot.rd_keeps rfl, Nat.mod_mod]

theorem State.autopilotEnds_restarts : s.autopilotEnds.rd Reg.FW_CNT_RESTARTS = s.rd Reg.FW_CNT_RESTARTS := by
  rw [State.autopilotEnds, (State.event_foot ..).rd_keeps rfl, State.rd_inc_key (by decide), State.rd_wr_key (by decide),
    State.closeGrants_tearFlash_foot.rd_keeps rfl]

theorem State.autopilotEnds_quality (h : s.rd Reg.TIME_QUAL_QUALITY = 1 ∨ s.rd Reg.TIME_QUAL_QUALITY = 2) :
    s.autopilotEnds.rd Reg.TIME_QUAL_QUALITY = 3 := by
  rw [State.autopilotEnds, (State.event_foot ..).rd_keeps rfl, State.rd_inc_key (by decide), State.rd_wr_key (by decide)]
  refine State.closeGrants_quality ?_
  rwa [(State.tearFlash_foot _).rd_keeps rfl]

end

section
variable {s : State}

/-! ### A first heartbeat that is late (R349) -/

theorem State.firstHbLate_of_running (h : s.rd Reg.FW_STATUS_STATE = 1) : s.firstHbLate = s := by
  simp [State.firstHbLate, h]

theorem State.firstHbLate_of_starting (hheld : s.pwr.held = false) (hauto : s.fw.autopilot = false)
    (h : s.rd Reg.FW_STATUS_STATE = 0 ∨ s.rd Reg.FW_STATUS_STATE = 3) :
    s.firstHbLate = (s.tearFlash.wr Reg.FW_STATUS_STATE 3).restart 3 true := by
  obtain h | h := h <;> simp [State.firstHbLate, hheld, hauto, h]

/-- What comes before that restart keeps the count of restarts. -/
theorem State.firstHbLate_restarts : (s.tearFlash.wr Reg.FW_STATUS_STATE 3).rd Reg.FW_CNT_RESTARTS = s.rd Reg.FW_CNT_RESTARTS := by
  rw [State.rd_wr_key (by decide), (State.tearFlash_foot _).rd_keeps rfl]

/-! ### The trial window (R356) -/

/-- The record by which a trial image gives way to the image before it. -/
def BootRec.reverted (r : BootRec) : BootRec := { r with active := r.prev, prev := r.active, trial := false, ovr := false, starts := 0 }

/-- The image reverts on record, and the revert is counted. -/
def State.reverts (s : State) : State := ((s.writeRec s.bootRec.reverted).inc Reg.FW_CNT_REVERTS).event (Ev.fw 9)

theorem State.trialExpiry_of_off_trial (h : s.isOn Reg.FW_STATUS_TRIAL = false) : s.trialExpiry = s := by
  rw [State.trialExpiry, h]
  rfl

theorem State.trialExpiry_of_on_trial (h : s.isOn Reg.FW_STATUS_TRIAL = true) (hrun : s.rd Reg.FW_STATUS_STATE = 1) :
    s.trialExpiry = s.reverts.planned := by
  rw [State.trialExpiry, h, hrun]
  rfl

theorem State.reverts_foot : Foot fp418 s s.reverts :=
  .step (State.event_foot ..) rfl (.inc rfl (Or.inr rfl) (.step (State.writeRec_foot ..) rfl .refl))

theorem State.reverts_counts : Counted Reg.FW_CNT_REVERTS 0 0 1 s s.reverts :=
  counted_of_foot_after (State.event_foot ..) rfl (counted_of_foot_before (State.writeRec_foot ..) rfl (counted_inc (by decide)))

theorem State.reverts_fw : s.reverts.fw = (s.writeRec s.bootRec.reverted).fw := by
  rw [State.reverts, State.event_fw, State.inc_fw]

theorem State.reverts_activate : s.reverts.fw.activate = s.fw.activate := by
  rw [State.reverts_fw, State.writeRec_activate]

/-- The record written is off trial, so the restart that follows gives nothing up again. -/
theorem State.reverts_trial (hseq : s.bootRec.seq < 2 ^ 32 - 1) : s.reverts.bootRec.trial = false := by
  rw [State.bootRec_of_carried (State.carried_of_fw State.reverts_fw), State.writeRec_bootRec _ _ hseq]
  rfl

theorem State.planned_reverts (hrun : s.rd Reg.FW_STATUS_STATE = 1) (ha : s.fw.activate = none) (htrial : s.bootRec.trial = false) :
    s.planned.rd Reg.FW_CNT_REVERTS = s.rd Reg.FW_CNT_REVERTS := by
  rw [State.planned_of_running hrun, State.goes_eq_restart ha, State.restart_reverts, s.leaves_foot.rd_keeps rfl]
  rwa [State.bootRec_of_carried s.leaves_carried]

/-! ### Microcode and the arming of a life-cycle step (R25, R362) -/

theorem State.settleActivate_of_none (h : s.fw.activate = none) : s.settleActivate = s := by
  simp [State.settleActivate, State.activation, h]

theorem State.bankSwitch_of_absent (l : Leg) (h : s.fwPresent = false) : s.bankSwitch l = s := by
  simp [State.bankSwitch, h]

theorem State.bankSwitch_of_present (l : Leg) (h : s.fwPresent = true) (ha : s.fw.activate = none) :
    s.bankSwitch l = { s with fw := { s.fw with bank := s.fw.bank.upd l fun _ => s.fw.lastFlume } } := by
  rw [State.bankSwitch, h]
  exact State.settleActivate_of_none ha

/-! ### Heartbeats (R348, R25) -/

/-- A heartbeat of the right value stands, and firmware's receive queue is emptied. -/
def State.beats (s : State) (v : Nat) : State := { s.wr Reg.FW_HB v with host := { s.host with fwQueue := [] } }

theorem State.heartbeat_of_held_or_mute (v : Nat) (h : s.mute = true ∨ s.pwr.held = true) : s.heartbeat v = s := by
  obtain h | h := h <;> simp [State.heartbeat, h]

/-- Firmware returns: autopilot ends, the start or restart is finished, and what waited is taken. -/
def State.returns (s : State) : State :=
  (if s.autopilotOff.fw.bootCold then s.autopilotOff.firstBoot else s.autopilotOff.restarted).fwResume

theorem State.beats_state (v : Nat) : (s.beats v).rd Reg.FW_STATUS_STATE = s.rd Reg.FW_STATUS_STATE := by
  rw [State.beats, State.rd_set_host, State.rd_wr_key (by decide)]

section
variable {v : Nat} (hmute : s.mute = false) (hheld : s.pwr.held = false)
include hmute hheld

theorem State.heartbeat_of_wrong (hv : v ≠ (s.rd Reg.FW_HB + 1) % 65536) : s.heartbeat v = s.inc Reg.FW_CNT_HB_BAD := by
  simp [State.heartbeat, hmute, hheld, hv]

theorem State.heartbeat_of_right (hv : v = (s.rd Reg.FW_HB + 1) % 65536) : s.heartbeat v =
    if s.rd Reg.FW_STATUS_STATE = 4 ∨ s.rd Reg.FW_STATUS_STATE = 5 then (s.beats v).autopilotOff
    else if s.rd Reg.FW_STATUS_STATE = 1 then s.beats v else (s.beats v).returns := by
  rw [← s.beats_state v]
  unfold State.heartbeat
  rw [hmute, hheld, Bool.false_or, if_neg Bool.false_ne_true, if_neg (not_not.2 hv)]
  simp only [Bool.or_eq_true, decide_eq_true_eq]
  rfl

theorem State.heartbeat_of_running (hv : v = (s.rd Reg.FW_HB + 1) % 65536) (hrun : s.rd Reg.FW_STATUS_STATE = 1) :
    s.heartbeat v = s.beats v := by
  simp [State.heartbeat_of_right hmute hheld hv, hrun]

/-- Firmware that starts or restarts comes back with its heartbeat. -/
theorem State.heartbeat_of_starting (hv : v = (s.rd Reg.FW_HB + 1) % 65536)
    (hst : s.rd Reg.FW_STATUS_STATE = 0 ∨ s.rd Reg.FW_STATUS_STATE = 2 ∨ s.rd Reg.FW_STATUS_STATE = 3) :
    s.heartbeat v = (s.beats v).returns := by
  obtain h | h | h := hst <;> simp [State.heartbeat_of_right hmute hheld hv, h]

end

/-! ### Firmware returns -/

/-- Dropping entries of other keys does not change what a key reads. -/
theorem Tab.get_filter_of_kept {α : Type} (d : α) (p : Nat × α → Bool) {k : Nat} (hk : ∀ v, p (k, v) = true) (t : Tab α) :
    Tab.get d k (List.filter p t : Tab α) = Tab.get d k t := by
  induction t with
  | nil => rfl
  | cons q t ih =>
    obtain ⟨j, v⟩ := q
    by_cases hj : j = k
    · subst hj
      rw [List.filter_cons_of_pos (hk v), Tab.get_cons, Tab.get_cons, if_pos rfl, if_pos rfl]
    · rw [List.filter_cons]
      split
      · rw [Tab.get_cons, Tab.get_cons, if_neg hj, if_neg hj, ih]
      · rw [Tab.get_cons, if_neg hj, ih]

theorem State.rd_of_get {s t : State} {R : Row} (h : Tab.get 0 (R.key 0 0) t.regs = Tab.get 0 (R.key 0 0) s.regs) : t.rd R = s.rd R := by
  unfold State.rd Row.get
  rw [h]

/-- A key that is no setting is not restored (R358). -/
theorem get_restored {k : Nat} (hk : isSetting k = false) (p : Nat → Bool) (fields : List (Nat × Nat)) (t : Tab Nat) :
    Tab.get 0 k (fields.foldl (fun t (j, v) => if isSetting j && p j then Tab.put 0 j v t else t) t) = Tab.get 0 k t := by
  induction fields generalizing t with
  | nil => rfl
  | cons q fields ih =>
    obtain ⟨j, v⟩ := q
    rw [List.foldl_cons, ih]
    dsimp only
    split
    · next hj =>
      have hne : k ≠ j := by
        rintro rfl
        rw [hk] at hj
        exact Bool.false_ne_true hj
      exact Tab.get_put_ne 0 hne v t
    · rfl

theorem State.applyTrims_rd (R : Row) : s.applyTrims.rd R = s.rd R := rfl

section
variable {R : Row} (hR : isSetting (R.key 0 0) = false)
include hR

theorem State.restore_rd (x : Settings) (p : Nat → Bool) : (s.restore x p).rd R = s.rd R := State.rd_of_get (get_restored hR p ..)

/-- A field that is no setting stands when every setting is back at its reset value (R359). -/
theorem State.runReset_rd : s.runReset.rd R = s.rd R :=
  State.rd_of_get (Tab.get_filter_of_kept 0 _ (fun _ => by rw [hR]; rfl) s.regs)

/-- A field that is no setting, and not the mailboxes' OWNER, stands through the restoring of the store (R358, R319). -/
theorem State.restoreAll_rd (hk : keepsRow fp414 R = true) (deep : Bool) : (s.restoreAll deep).rd R = s.rd R := by
  unfold State.restoreAll
  dsimp only
  rw [State.applyTrims_rd]
  split
  · exact State.restore_rd hR ..
  · cases deep
    · exact (State.defaultOwners_foot s).rd_keeps hk
    · rfl

end

theorem isSetting_hb : isSetting (Reg.FW_HB.key 0 0) = false := by decide

/-- The settings of a first boot are in place: what the boot left pending is finished and the store restored (R361, R385). -/
def State.settled (s : State) : State :=
  State.restoreAll (State.finishPending { s with fw := { s.fw with bootCold := false, deepBoot := false } }) s.fw.deepBoot

/-- After the settings only READY is written; an event may follow. -/
theorem State.firstBoot_rd {R : Row} (hk : keepsRow fp8 R = true) : s.firstBoot.rd R = (s.settled.wr Reg.PWR_STATUS_READY 1).rd R := by
  unfold State.firstBoot
  dsimp only
  split
  · exact (State.event_foot ..).rd_keeps hk
  · rfl

theorem State.firstBoot_hb : s.firstBoot.rd Reg.FW_HB = s.rd Reg.FW_HB := by
  rw [State.firstBoot_rd rfl, State.rd_wr_key (by decide), State.settled, State.restoreAll_rd isSetting_hb rfl,
    (State.finishPending_foot _).rd_keeps rfl, State.rd_set_fw]

theorem State.firstBoot_ready : s.firstBoot.rd Reg.PWR_STATUS_READY = 1 := by
  rw [State.firstBoot_rd rfl, State.rd_wr_same (by decide)]
  rfl

theorem State.restarted_hb : s.restarted.rd Reg.FW_HB = s.rd Reg.FW_HB := by
  unfold State.restarted
  split
  · exact ((State.event_foot ..).rd_keeps rfl).trans (State.runReset_rd isSetting_hb)
  · rfl

/-- Firmware shows as present and running. -/
def State.shown (s : State) : State :=
  { (s.wr Reg.ADM_STATUS_FW_PRESENT 1).wr Reg.FW_STATUS_STATE 1 with fw := { s.fw with closed := false } }

def fpBacklog : Nat := fp432 ||| fp58 ||| fp323 ||| fp339 ||| fp350 ||| fp433 ||| fp393 ||| fp103 ||| fp431

/-- Once firmware shows, what waited for it can change only this much. -/
theorem State.fwResume_foot_shown : Foot fpBacklog s.shown s.fwResume := by
  have htaken : Foot fpBacklog s.shown s.shown.takeAll.flushEnded :=
    .step (State.flushEnded_foot _) rfl (.step (State.takeAll_foot _) rfl .refl)
  have hlegs {x : State} (h : Foot fpBacklog s.shown x) :
      Foot fpBacklog s.shown ((((x.protResume.safeRelease .a).safeRelease .b).retireLeg .a).retireLeg .b) :=
    .step (State.retireLeg_foot ..) rfl (.step (State.retireLeg_foot ..) rfl (.step (State.safeRelease_foot ..) rfl
      (.step (State.safeRelease_foot ..) rfl (.step (State.protResume_foot _) rfl h))))
  have hbmc {x : State} (h : Foot fpBacklog s.shown x) : Foot fpBacklog s.shown
      (x.pwr.bmcWait.foldl (fun (s : State) t => s.bmcTake t) { x with pwr := { x.pwr with bmcWait := [] } }) :=
    .foldl (fun _ _ hy => .step (State.bmcTake_foot ..) rfl hy) (.setPwr rfl h)
  have hmove {x : State} (h : Foot fpBacklog s.shown x) : Foot fpBacklog s.shown (if x.pwr.moveDue then x.move else x) :=
    .ite (.step (State.move_foot _) rfl h) h
  exact .step (State.settleActivate_foot _) rfl (.step (State.bootRefresh_foot _) rfl (hmove (hbmc (hlegs htaken))))


/-- After its return firmware is present and running. -/
theorem State.fwResume_present : s.fwResume.rd Reg.ADM_STATUS_FW_PRESENT = 1 := by
  rw [s.fwResume_foot_shown.rd_keeps rfl, State.shown, State.rd_set_fw, State.rd_wr_key (by decide), State.rd_wr_same (by decide)]
  rfl

theorem State.fwResume_state : s.fwResume.rd Reg.FW_STATUS_STATE = 1 := by
  rw [s.fwResume_foot_shown.rd_keeps rfl, State.shown, State.rd_set_fw, State.rd_wr_same (by decide)]
  rfl

theorem State.fwResume_hb : s.fwResume.rd Reg.FW_HB = s.rd Reg.FW_HB := (State.fwResume_foot s).rd_keeps rfl

theorem State.fwResume_ready : s.fwResume.rd Reg.PWR_STATUS_READY = s.rd Reg.PWR_STATUS_READY := (State.fwResume_foot s).rd_keeps rfl

theorem State.returns_hb : s.returns.rd Reg.FW_HB = s.rd Reg.FW_HB := by
  have hoff : s.autopilotOff.rd Reg.FW_HB = s.rd Reg.FW_HB := (State.autopilotOff_foot s).rd_keeps rfl
  rw [State.returns, State.fwResume_hb]
  split
  · rw [State.firstBoot_hb, hoff]
  · rw [State.restarted_hb, hoff]

theorem State.autopilotOff_bootCold : s.autopilotOff.fw.bootCold = s.fw.bootCold := by
  unfold State.autopilotOff
  split
  · rw [State.event_fw]
  · rfl

/-- After a cold start firmware's return makes the part READY (R385). -/
theorem State.returns_ready (hcold : s.fw.bootCold = true) : s.returns.rd Reg.PWR_STATUS_READY = 1 := by
  rw [State.returns, State.fwResume_ready, if_pos (State.autopilotOff_bootCold.trans hcold), State.firstBoot_ready]

theorem State.beats_hb {v : Nat} (hv : v < 2 ^ 16) : (s.beats v).rd Reg.FW_HB = v := by
  rw [State.beats, State.rd_set_host, State.rd_wr_same (by decide)]
  exact Nat.mod_eq_of_lt hv

end

/-! ### The commands -/

section
variable {s : State}

theorem exec_heartbeat (hdom : s.runs .mgmt = true) (v : BitVec 16) : exec (.heartbeat v) s = .next (s.heartbeat v.toNat) :=
  congrArg Host.Outcome.next (if_pos hdom)

theorem exec_heartbeat_of_silent (v : BitVec 16) (h : s.runs .mgmt = false ∨ s.mute = true ∨ s.pwr.held = true) :
    exec (.heartbeat v) s = .next s := by
  cases hdom : s.runs .mgmt with
  | false => exact congrArg Host.Outcome.next (if_neg (by simp [hdom]))
  | true =>
    rw [exec_heartbeat hdom, State.heartbeat_of_held_or_mute]
    simpa [hdom] using h

theorem exec_heartbeat_of_starting {v : BitVec 16} (hdom : s.runs .mgmt = true) (hmute : s.mute = false) (hheld : s.pwr.held = false)
    (hv : v.toNat = (s.rd Reg.FW_HB + 1) % 65536)
    (hst : s.rd Reg.FW_STATUS_STATE = 0 ∨ s.rd Reg.FW_STATUS_STATE = 2 ∨ s.rd Reg.FW_STATUS_STATE = 3) :
    exec (.heartbeat v) s = .next (s.beats v.toNat).returns := by
  rw [exec_heartbeat hdom, State.heartbeat_of_starting hmute hheld hv hst]

/-- A heartbeat by which firmware returns stands in FW_HB. -/
theorem State.returns_beats_hb (v : BitVec 16) : (s.beats v.toNat).returns.rd Reg.FW_HB = v.toNat :=
  State.returns_hb.trans (State.beats_hb v.isLt)

/-- The end of autopilot: its own counter and the quality before the restart, cause and count in it. -/
theorem exec_autopilotExpired (h : s.fw.autopilot = true) : ∃ t, exec .autopilotExpired s = .next t ∧
    t.rd Reg.FW_DR_STATUS_LAST_CAUSE = 2 ∧ Counted Reg.FW_CNT_RESTARTS 0 0 1 s t ∧ Counted Reg.FW_CNT_AUTOPILOT_EXPIRED 0 0 1 s t ∧
    (s.rd Reg.TIME_QUAL_QUALITY = 1 ∨ s.rd Reg.TIME_QUAL_QUALITY = 2 → t.rd Reg.TIME_QUAL_QUALITY = 3) := by
  have hfoot : Foot fp425 s.autopilotEnds (s.autopilotEnds.restart 2 true) := State.restart_foot ..
  refine ⟨_, congrArg Host.Outcome.next (State.autopilotExpired_of_on h), State.restart_lastCause _ _ _ (by decide), ?_,
    counted_of_foot_after hfoot rfl State.autopilotEnds_counts, fun hq => (hfoot.rd_keeps rfl).trans (State.autopilotEnds_quality hq)⟩
  have hcount := s.autopilotEnds.restart_counts 2 true
  rwa [Counted, State.autopilotEnds_restarts] at hcount

theorem exec_firstHeartbeatLate (hheld : s.pwr.held = false) (hauto : s.fw.autopilot = false)
    (hst : s.rd Reg.FW_STATUS_STATE = 0 ∨ s.rd Reg.FW_STATUS_STATE = 3) : ∃ t, exec .firstHeartbeatLate s = .next t ∧
    t.rd Reg.FW_DR_STATUS_LAST_CAUSE = 3 ∧ Counted Reg.FW_CNT_RESTARTS 0 0 1 s t := by
  refine ⟨_, congrArg Host.Outcome.next (State.firstHbLate_of_starting hheld hauto hst), State.restart_lastCause _ _ _ (by decide), ?_⟩
  have hcount := (s.tearFlash.wr Reg.FW_STATUS_STATE 3).restart_counts 3 true
  rwa [Counted, State.firstHbLate_restarts] at hcount

/-- The trial window runs out: the revert on record is the only one counted, for the restart finds no trial. -/
theorem exec_trialWindowExpiry (htrial : s.isOn Reg.FW_STATUS_TRIAL = true) (hrun : s.rd Reg.FW_STATUS_STATE = 1)
    (hseq : s.bootRec.seq < 2 ^ 32 - 1) (ha : s.fw.activate = none) : ∃ t, exec .trialWindowExpiry s = .next t ∧
    t.rd Reg.FW_DR_STATUS_LAST_CAUSE = 4 ∧ Counted Reg.FW_CNT_RESTARTS 0 0 1 s t ∧ Counted Reg.FW_CNT_REVERTS 0 0 1 s t := by
  have hrun' : s.reverts.rd Reg.FW_STATUS_STATE = 1 := (State.reverts_foot.rd_keeps rfl).trans hrun
  have ha' : s.reverts.fw.activate = none := State.reverts_activate.trans ha
  have hgone : State.Gone s 4 s.reverts.planned := .of_foot State.reverts_foot rfl rfl (State.planned_gone hrun' ha')
  refine ⟨_, congrArg Host.Outcome.next (State.trialExpiry_of_on_trial htrial hrun), hgone.lastCause, hgone.restarts, ?_⟩
  rw [Counted, State.planned_reverts hrun' ha' (State.reverts_trial hseq)]
  exact State.reverts_counts

end

/-- Settles O45. Each clause is a command's case: the heartbeats by what the ditch rider finds, the departures through `State.Gone`, the
restarts through the lemmas on `State.restart`, the trial window through the record written. -/
theorem firmwareComesAndGoes : Obligations.FirmwareComesAndGoes := by
  unfold Obligations.FirmwareComesAndGoes
  refine ⟨?hbWrong, ?hbRunning, ?hbRestarting, ?hbStarting, fun v s => exec_heartbeat_of_silent v,
    ?silence, fun s h => congrArg _ (State.hbLost_of_not_running h),
    fun s => exec_autopilotExpired, fun s h => congrArg _ (State.autopilotExpired_of_off h),
    fun s => exec_firstHeartbeatLate, fun s h => congrArg _ (State.firstHbLate_of_running h),
    ?planned, fun s h => congrArg _ (State.planned_of_not_running h),
    fun l s h ha => congrArg _ (State.bankSwitch_of_present l h ha), fun l s h => congrArg _ (State.bankSwitch_of_absent l h),
    fun s => exec_trialWindowExpiry, fun s h => congrArg _ (State.trialExpiry_of_off_trial h), ?arm, ?armFw⟩
  case hbWrong =>
    intro v s hdom hmute hheld hv
    rw [exec_heartbeat hdom, State.heartbeat_of_wrong hmute hheld hv]
  case hbRunning =>
    intro v s hdom hmute hheld hv hrun
    refine ⟨s.beats v.toNat, ?_, State.beats_hb v.isLt, rfl, rfl, rfl⟩
    rw [exec_heartbeat hdom, State.heartbeat_of_running hmute hheld hv hrun]
  case hbRestarting =>
    intro v s hdom hmute hheld hv hst
    exact ⟨_, exec_heartbeat_of_starting hdom hmute hheld hv (Or.inr hst), State.returns_beats_hb v, State.fwResume_present,
      State.fwResume_state⟩
  case hbStarting =>
    intro v s hdom hmute hheld hv hst hcold
    exact ⟨_, exec_heartbeat_of_starting hdom hmute hheld hv (Or.inl hst), State.returns_beats_hb v, State.fwResume_present,
      State.fwResume_state, State.returns_ready hcold⟩
  case silence =>
    intro s hrun ha
    have hgone := State.hbLost_gone hrun ha
    exact ⟨_, rfl, hgone.lastCause, hgone.restarts, hgone.autopilots, hgone.absent⟩
  case planned =>
    intro s hrun ha
    have hgone := State.planned_gone hrun ha
    exact ⟨_, rfl, hgone.lastCause, hgone.restarts, hgone.autopilots, hgone.absent⟩
  case arm =>
    rintro ag v s rfl hreach
    exact congrArg Host.Outcome.next (if_pos hreach)
  case armFw =>
    intro ag v s hfw
    cases ag with
    | fw c => rfl
    | pf | vf | bmc => exact absurd hfw Bool.false_ne_true

end Sys2Proof.Machine

/-! SUPPORT. Two statements that the model does not meet: a message of an undefined type for a terminal that has no number yet
(02_line_format.md, R64, R68), and the loss of delineation on a leg whose lanes are not enabled (R34, R254, R255). -/

namespace Sys2Proof.Machine

/-! ### An undefined type for TN 0x3FE -/

/-- A message of the undefined type 0x0F with TN 0x3FE and a right MCRC. -/
def strayMsg : BitVec 384 := BitVec.ofNat 384 (finishMsg 0x3FE (mkMsg 0x0F 0 []))

/-- The state after reset, but for a D0 frame of leg A that announced one message. -/
def oneAnnounced : State := State.reset.upd .a fun g => { g with partOk := true, nmsg := 1 }

theorem strayMsg_mcrcOk : mcrcOk strayMsg = true := by decide +kernel

theorem strayMsg_type : knownType (msgType strayMsg) = false := by decide +kernel

theorem strayMsg_tn : msgTn strayMsg = 0x3FE := by decide +kernel

theorem oneAnnounced_hears : Hears oneAnnounced .a := ⟨rfl, Nat.one_ne_zero⟩

theorem oneAnnounced_hasTn : oneAnnounced.hasTn .a = false := by decide +kernel

/-- A message takes up its place among those that the D0 frame announced (R36). -/
def State.heard (s : State) (l : Leg) : State := s.upd l fun g => { g with nmsg := g.nmsg - 1 }

/-- A message in its place is acted on. -/
theorem State.inFrame_of_hears {s : State} {l : Leg} (h : Hears s l) (f : State → State) : s.inFrame l f = f (s.heard l) := by
  unfold State.inFrame
  rw [if_pos]
  · rfl
  · simp [h.1, h.2]

theorem exec_msgUnknown {s : State} {l : Leg} (h : Hears s l) (msg : BitVec 384) :
    exec (.msgUnknown l msg) s = .next ((s.heard l).msgUnknown l msg) := congrArg Host.Outcome.next (State.inFrame_of_hears h _)

/-- The message is counted as of an unknown type (R68). -/
theorem oneAnnounced_msgUnknown : ((oneAnnounced.heard .a).msgUnknown .a strayMsg).rd Reg.LINE_D0CNT_MSG_UNKNOWN = 1 := by
  decide +kernel

theorem oneAnnounced_unknown : (oneAnnounced.heard .a).rd Reg.LINE_D0CNT_MSG_UNKNOWN = 0 := by decide +kernel

/-- Refutes O53, by its clause for a type that is not defined under a right MCRC: it lets TN 0x3FE through its hypotheses, and has the message
change nothing, but the model counts a message of an unknown type with that TN in MSG_UNKNOWN, as it counts one that is broadcast. -/
theorem not_messagesForOthersArePassedOver : ¬ Obligations.MessagesForOthersArePassedOver := by
  unfold Obligations.MessagesForOthersArePassedOver
  rintro ⟨-, -, -, -, -, -, -, -, -, -, -, -, -, -, -, -, -, -, -, -, -, -, -, -, -, -, -, -, -, hother⟩
  have hnext := hother .a strayMsg oneAnnounced oneAnnounced_hears strayMsg_type strayMsg_mcrcOk (by rw [strayMsg_tn]; decide)
    (by rw [oneAnnounced_hasTn]; exact fun h => Bool.false_ne_true h.1)
  rw [exec_msgUnknown oneAnnounced_hears] at hnext
  have hsame := congrArg (State.rd · Reg.LINE_D0CNT_MSG_UNKNOWN) (Host.Outcome.next.inj hnext)
  exact absurd ((oneAnnounced_msgUnknown.symm.trans hsame).trans oneAnnounced_unknown) Nat.one_ne_zero

/-! ### Delineation lost on a leg whose lanes are not enabled -/

/-- Leg A is active, its wave D0 in SYNC with a detector that runs although no lane of the leg is enabled, and one miss ends SYNC; LOF alone
switches legs, without a hold-off, and leg B is enabled and RANGED. -/
def lanesOffInSync : State :=
  (((((State.reset.wr Reg.OPT_LANE_MODE 1).wr Reg.LINE_DLN_CTL_SYNC_LOSE 1).wr Reg.PROT_AUTO_CTL_MASK 2).wr Reg.PROT_CTL_HOLDOFF 0).wr
    Reg.ACT_CTL_ENABLE 1 1).wr Reg.ACT_STATUS_STATE 5 1 |>.updWave .a 0 fun v => { v with deln := .sync }

theorem lanesOffInSync_detecting : lanesOffInSync.detecting .a 0 = true := by decide +kernel

theorem lanesOffInSync_noMatch : lanesOffInSync.syncMatch .a (0 : BitVec 64).toNat = false := by decide +kernel

theorem lanesOffInSync_lose :
    max 1 (lanesOffInSync.rd Reg.LINE_DLN_CTL_SYNC_LOSE Leg.a.n) ≤ (lanesOffInSync.wave .a 0).miss + 1 := by
  decide +kernel

/-- LOF is declared and leg B becomes active; as the switch follows the lanes (R391), D0's lane goes OFF and its defects are cleared (R255). -/
theorem lanesOffInSync_marker_lof : bit ((lanesOffInSync.marker .a 0 (0 : BitVec 64).toNat (0 : BitVec 128).toNat 0 0 0).rd Reg.PROT_DEF_LOF) 0 = 0 := by
  decide +kernel

/-- Refutes O6, by its clause on the loss of SYNC: it asks for running detectors but not for enabled lanes, so the switch that LOF brings
about can stop the lane, and LOF is cleared again within the command. -/
theorem not_delineationAdvancesByItsMarkers : ¬ Obligations.DelineationAdvancesByItsMarkers := by
  unfold Obligations.DelineationAdvancesByItsMarkers
  rintro ⟨-, -, -, -, -, -, hlose, -⟩
  obtain ⟨t, hnext, -, hlof⟩ := hlose .a 0 0 0 0 0 0 lanesOffInSync (by decide) rfl lanesOffInSync_detecting rfl lanesOffInSync_noMatch
    lanesOffInSync_lose
  obtain rfl : lanesOffInSync.marker .a 0 (0 : BitVec 64).toNat (0 : BitVec 128).toNat 0 0 0 = t := Host.Outcome.next.inj hnext
  exact absurd (lanesOffInSync_marker_lof.symm.trans hlof) Nat.zero_ne_one

end Sys2Proof.Machine

/-! SUPPORT. What is read of a leg after an operation: register fields and a leg's own state carried along a footprint, past a write of
another field, and past an update of one wave or profile. -/

namespace Sys2Proof.Machine

section
variable {m : Nat} {s t u : State} {R Q : Row} {v n i j : Nat}

/-! ### Register fields of a leg -/

/-- A leg's field that the footprint keeps reads as before. -/
theorem Foot.rd_leg (h : Foot m s t) (hk : keepsRow m R = true) {l : Leg} : t.rd R l.n i = s.rd R l.n i := by
  simp only [keepsRow, Bool.and_eq_true, Bool.not_eq_true'] at hk
  obtain ⟨⟨hall, hrow⟩, hmap⟩ := hk
  exact h.rd hall hrow hmap (Or.inl (Leg.n_lt l))

/-- A copy of a field without legs reads as before. -/
theorem Foot.rd_at (h : Foot m s t) (hk : keepsRow m R = true) : t.rd R 0 i = s.rd R 0 i := h.rd_leg hk (l := .a)

/-- Two different fields of the map. -/
def otherRow (Q R : Row) : Bool := Row.inMap R && Row.inMap Q && rowIdx Q != rowIdx R

theorem State.rd_wr_row {l k : Leg} (h : otherRow Q R = true) : (s.wr R v l.n i).rd Q k.n j = s.rd Q k.n j := by
  simp only [otherRow, Bool.and_eq_true, bne_iff_ne, ne_eq] at h
  obtain ⟨⟨hR, hQ⟩, hne⟩ := h
  exact State.rd_wr_ne hR hQ hne (Or.inl (Leg.n_lt l)) (Or.inl (Leg.n_lt k))

theorem State.rd_wr_row_shared {l : Leg} (h : otherRow Q R = true) : (s.wr R v l.n i).rd Q 0 j = s.rd Q 0 j :=
  State.rd_wr_row (k := .a) h

theorem State.rd_wr_shared_row {k : Leg} (h : otherRow Q R = true) : (s.wr R v 0 i).rd Q k.n j = s.rd Q k.n j :=
  State.rd_wr_row (l := .a) h

theorem State.rd_wr_shared {s : State} (h : otherRow Q R = true) : (s.wr R v 0 i).rd Q 0 j = s.rd Q 0 j :=
  State.rd_wr_row (l := .a) (k := .a) h

theorem State.rd_inc_row {l k : Leg} (h : otherRow Q R = true) : (s.inc R l.n i n).rd Q k.n j = s.rd Q k.n j := State.rd_wr_row h

theorem State.rd_inc_row_shared {l : Leg} (h : otherRow Q R = true) : (s.inc R l.n i n).rd Q 0 j = s.rd Q 0 j :=
  State.rd_wr_row_shared h

theorem State.rd_inc_shared_row {k : Leg} (h : otherRow Q R = true) : (s.inc R 0 i n).rd Q k.n j = s.rd Q k.n j :=
  State.rd_wr_shared_row h

theorem State.rd_inc_shared (h : otherRow Q R = true) : (s.inc R 0 i n).rd Q 0 j = s.rd Q 0 j := State.rd_wr_shared h

/-- The copies of a field for the two legs lie apart. -/
theorem State.rd_wr_otherLeg {l k : Leg} (h : R.legStride ≠ 0) (hne : k ≠ l) : (s.wr R v l.n i).rd R k.n i = s.rd R k.n i :=
  State.rd_wr_key (by cases k <;> cases l <;> simp_all [Row.key, Leg.n])

/-! ### Counts -/

/-- A counter that advances has counted. -/
theorem counted_inc_at {l : Nat} (hi : i < R.n) : Counted R l i n s (s.inc R l i n) := by
  rw [Counted, State.rd_inc_same hi, Nat.mod_mod]

theorem counted_of_rd_after {l : Nat} (h : u.rd R l i = t.rd R l i) (hc : Counted R l i n s t) : Counted R l i n s u := by
  rwa [Counted, h]

theorem counted_of_rd_before {l : Nat} (h : t.rd R l i = s.rd R l i) (hc : Counted R l i n t u) : Counted R l i n s u := by
  rwa [Counted, h] at hc

/-- A leg's count stands whatever comes after it, where that keeps the field. -/
theorem Foot.counted_after {l : Leg} (h : Foot m t u) (hk : keepsRow m R = true) (hc : Counted R l.n i n s t) : Counted R l.n i n s u :=
  counted_of_rd_after (h.rd_leg hk) hc

/-! ### A leg's own state -/

/-- A mask names neither leg's own state. -/
def keepsLegs (m : Nat) : Bool := !m.testBit 1002 && !m.testBit 1003

theorem Foot.leg_keeps (h : Foot m s t) (hk : keepsLegs m = true) {l : Leg} : t.leg l = s.leg l := by
  simp only [keepsLegs, Bool.and_eq_true, Bool.not_eq_true'] at hk
  cases l
  · exact h.la hk.1
  · exact h.lb hk.2

theorem Foot.wave_keeps (h : Foot m s t) (hk : keepsLegs m = true) {l : Leg} {w : Nat} : t.wave l w = s.wave l w := by
  rw [State.wave, h.leg_keeps hk, State.wave]

@[simp] theorem State.wr_leg {l : Nat} {g : Leg} : (s.wr R v l i).leg g = s.leg g := by cases g <;> rfl

@[simp] theorem State.inc_leg {l : Nat} {g : Leg} : (s.inc R l i n).leg g = s.leg g := by cases g <;> rfl

@[simp] theorem State.event_leg {src det : Nat} {g : Leg} : (s.event src det).leg g = s.leg g := (State.event_foot ..).leg_keeps rfl

@[simp] theorem State.wr_wave {l w : Nat} {g : Leg} : (s.wr R v l i).wave g w = s.wave g w := by rw [State.wave, State.wr_leg, State.wave]

@[simp] theorem State.inc_wave {l w : Nat} {g : Leg} : (s.inc R l i n).wave g w = s.wave g w := by rw [State.wave, State.inc_leg, State.wave]

theorem State.upd_leg_ne {g k : Leg} {f : LegSt → LegSt} (h : k ≠ g) : (s.upd g f).leg k = s.leg k := by
  cases g <;> cases k
  · exact absurd rfl h
  · rfl
  · rfl
  · exact absurd rfl h

@[simp] theorem State.upd_isOn {g : Leg} {f : LegSt → LegSt} {l : Nat} : (s.upd g f).isOn R l i = s.isOn R l i := by
  simp [State.isOn]

/-- One of four entries, after an update of it. -/
theorem Four.get_upd_same {α : Type} {x : Four α} {f : α → α} (hi : i < 4) : (x.upd i f).get i = f (x.get i) := by
  match i, hi with
  | 0, _ | 1, _ | 2, _ | 3, _ => rfl

theorem State.wave_updWave_same {l : Leg} {w : Nat} {f : Wave → Wave} (hw : w < 4) : (s.updWave l w f).wave l w = f (s.wave l w) := by
  rw [State.wave, State.updWave, State.upd_leg_same, Four.get_upd_same hw, State.wave]

@[simp] theorem State.rd_updWave {l : Leg} {w k : Nat} {f : Wave → Wave} : (s.updWave l w f).rd R k i = s.rd R k i := State.rd_upd ..

end

end Sys2Proof.Machine

/-! SUPPORT. What a head end message comes to (R63, R64, R67, R68): one acted on, one answered before, one with a wrong check, one of an
unknown type (02_line_format.md). -/

namespace Sys2Proof.Machine

section
variable {s t : State} {l : Leg} {typ frag st : Nat} {m msg : BitVec 384} {serialAt : Bool} {act : State → Took × State} {R : Row} {k i : Nat}

/-! ### Taking up a message's place -/

@[simp] theorem State.heard_rd : (s.heard l).rd R k i = s.rd R k i := State.rd_upd ..

@[simp] theorem State.heard_isOn : (s.heard l).isOn R k i = s.isOn R k i := State.upd_isOn

@[simp] theorem State.heard_hasTn : (s.heard l).hasTn l = s.hasTn l := State.upd_isOn

@[simp] theorem State.heard_leg : (s.heard l).leg l = { s.leg l with nmsg := (s.leg l).nmsg - 1 } := State.upd_leg_same ..

@[simp] theorem State.heard_wave {w : Nat} : (s.heard l).wave l w = s.wave l w := by rw [State.wave, State.heard_leg, State.wave]

@[simp] theorem State.heard_cur : (s.heard l).cur l = s.cur l := by rw [State.cur, State.heard_wave, State.cur]

@[simp] theorem State.heard_effOk {eff : Nat} : (s.heard l).effOk l eff = s.effOk l eff := by
  rw [State.effOk, State.heard_cur, State.effOk]

@[simp] theorem State.heard_addressed : (s.heard l).addressed l m serialAt = s.addressed l m serialAt := by
  cases l <;> rfl

@[simp] theorem State.heard_dupOf {txid : Nat} : (s.heard l).dupOf l typ txid frag = s.dupOf l typ txid frag := by
  cases l <;> rfl

@[simp] theorem State.heard_takes : (s.heard l).takes l typ m serialAt frag = s.takes l typ m serialAt frag := by
  rw [State.takes, State.heard_addressed, State.heard_dupOf, State.takes]

/-! ### What is remembered and acknowledged -/

@[simp] theorem State.remember_rd {e : Seen} : (s.remember l e).rd R k i = s.rd R k i := State.rd_upd ..

@[simp] theorem State.remember_hasTn {e : Seen} : (s.remember l e).hasTn l = s.hasTn l := State.upd_isOn

/-- Only the messages remembered change. -/
theorem State.remember_leg {e : Seen} : ∃ seen, (s.remember l e).leg l = { s.leg l with seen := seen } := ⟨_, State.upd_leg_same ..⟩

theorem State.ack_of_hasTn {txid : Nat} (h : s.hasTn l = true) :
    s.ack l txid typ st = s.upd l fun g => { g with acks := g.acks ++ [mkMsg 0x81 txid [BitVec.ofNat 8 st, BitVec.ofNat 8 typ]] } := if_pos h

@[simp] theorem State.ack_rd {txid : Nat} : (s.ack l txid typ st).rd R k i = s.rd R k i := by
  unfold State.ack
  split
  · exact State.rd_upd ..
  · rfl

theorem State.ack_acks {txid : Nat} (h : s.hasTn l = true) :
    ((s.ack l txid typ st).leg l).acks = (s.leg l).acks ++ [mkMsg 0x81 txid [BitVec.ofNat 8 st, BitVec.ofNat 8 typ]] := by
  rw [State.ack_of_hasTn h, State.upd_leg_same]

/-! ### A message that is acted on -/

theorem State.takes_iff : s.takes l typ m serialAt frag = true ↔
    msgType m = typ ∧ mcrcOk m = true ∧ s.addressed l m serialAt = true ∧ s.dupOf l typ (msgTxid m) frag = none := by
  simp [State.takes, and_assoc]

/-- What R67 keeps of a message taken in a state, with the status it was answered with, if any. -/
def State.taken (t : State) (l : Leg) (m : BitVec 384) (typ frag : Nat) (status : Option Nat) : State :=
  t.remember l { txid := msgTxid m, typ := typ, frag := frag, sfc := t.cur l, status := status }

@[simp] theorem State.taken_rd {x : Option Nat} : (s.taken l m typ frag x).rd R k i = s.rd R k i := State.remember_rd

@[simp] theorem State.taken_hasTn {x : Option Nat} : (s.taken l m typ frag x).hasTn l = s.hasTn l := State.remember_hasTn

theorem State.taken_leg {x : Option Nat} : ∃ seen, (s.taken l m typ frag x).leg l = { s.leg l with seen := seen } := State.remember_leg

theorem State.onMsg_of_takes (h : s.takes l typ m serialAt frag = true) : s.onMsg l typ m serialAt frag act =
    match (act s).1 with
    | .ignored => (act s).2
    | .silent => (act s).2.taken l m typ frag none
    | .answered st => ((act s).2.taken l m typ frag (some st)).ack l (msgTxid m) typ st := by
  obtain ⟨htyp, hcrc, haddr, hdup⟩ := State.takes_iff.1 h
  unfold State.onMsg
  rw [if_neg (by simp [htyp]), if_neg (by simp [hcrc]), if_neg (by simp [haddr]), hdup]
  obtain ⟨took, t⟩ := act s
  cases took <;> rfl

theorem State.onMsg_ignored (h : s.takes l typ m serialAt frag = true) (ha : act s = (.ignored, t)) :
    s.onMsg l typ m serialAt frag act = t := by
  rw [State.onMsg_of_takes h, ha]

theorem State.onMsg_silent (h : s.takes l typ m serialAt frag = true) (ha : act s = (.silent, t)) :
    s.onMsg l typ m serialAt frag act = t.taken l m typ frag none := by
  rw [State.onMsg_of_takes h, ha]

theorem State.onMsg_answered (h : s.takes l typ m serialAt frag = true) (ha : act s = (.answered st, t)) :
    s.onMsg l typ m serialAt frag act = (t.taken l m typ frag (some st)).ack l (msgTxid m) typ st := by
  rw [State.onMsg_of_takes h, ha]

theorem State.onMsg_silent_rd (h : s.takes l typ m serialAt frag = true) (ha : act s = (.silent, t)) :
    (s.onMsg l typ m serialAt frag act).rd R k i = t.rd R k i := by
  rw [State.onMsg_silent h ha, State.taken_rd]

theorem State.onMsg_answered_rd (h : s.takes l typ m serialAt frag = true) (ha : act s = (.answered st, t)) :
    (s.onMsg l typ m serialAt frag act).rd R k i = t.rd R k i := by
  rw [State.onMsg_answered h ha, State.ack_rd, State.taken_rd]

/-- Beside what acting on it did, a message that is answered changes the messages remembered and the ACKs. -/
theorem State.onMsg_answered_leg (h : s.takes l typ m serialAt frag = true) (ha : act s = (.answered st, t)) :
    ∃ seen acks, (s.onMsg l typ m serialAt frag act).leg l = { t.leg l with seen := seen, acks := acks } := by
  obtain ⟨seen, hleg⟩ := State.taken_leg (s := t) (l := l) (m := m) (typ := typ) (frag := frag) (x := some st)
  rw [State.onMsg_answered h ha, State.ack]
  split
  · exact ⟨seen, _, by rw [State.upd_leg_same, hleg]⟩
  · exact ⟨seen, (t.leg l).acks, hleg⟩

/-- A message that is answered stands acknowledged, where acting on it leaves the leg its number and the ACKs that it held. -/
theorem State.onMsg_acked (h : s.takes l typ m serialAt frag = true) (ha : act (s.heard l) = (.answered st, t)) (htn : t.hasTn l = true)
    (hacks : (t.leg l).acks = (s.leg l).acks) : Acked l m typ st s ((s.heard l).onMsg l typ m serialAt frag act) := by
  obtain ⟨seen, hleg⟩ := State.taken_leg (s := t) (l := l) (m := m) (typ := typ) (frag := frag) (x := some st)
  rw [State.onMsg_answered (State.heard_takes.trans h) ha, Acked, State.ack_acks (State.taken_hasTn.trans htn), hleg, hacks]

/-- A duplicate of a message answered with a status is counted and answered with it again (R67). -/
theorem State.onMsg_dup {e : Seen} (htyp : msgType m = typ) (hcrc : mcrcOk m = true) (haddr : s.addressed l m serialAt = true)
    (hdup : s.dupOf l typ (msgTxid m) frag = some e) (hst : e.status = some st) :
    s.onMsg l typ m serialAt frag act = (s.inc Reg.LINE_D0CNT_MSG_DUP l.n).ack l (msgTxid m) typ st := by
  unfold State.onMsg
  rw [if_neg (by simp [htyp]), if_neg (by simp [hcrc]), if_neg (by simp [haddr]), hdup]
  simp only [hst]

/-! ### The commands -/

theorem exec_msgCrcErr (h : Hears s l) : exec (.msgCrcErr l msg) s =
    .next (if mcrcOk msg then s.heard l else (s.heard l).inc Reg.LINE_D0CNT_MSG_CRC_ERR l.n) :=
  congrArg Host.Outcome.next (State.inFrame_of_hears h _)

/-- KEEP_RANGED's own effect: an interval of 1 to 1,024 superframes is set (R69). -/
def State.keepRanged (s : State) (l : Leg) (msg : BitVec 384) : Took × State :=
  if mfield msg 6 2 = 0 || mfield msg 6 2 > 1024 then s.fieldBad l true else (.answered St.ok, s.wr Reg.ACT_KR_CTL_INTERVAL_SF (mfield msg 6 2) l.n)

theorem exec_keepRanged (h : Hears s l) : exec (.keepRanged l msg) s =
    .next ((s.heard l).onMsg l 0x09 msg false 0 fun s => s.keepRanged l msg) :=
  congrArg Host.Outcome.next (State.inFrame_of_hears h _)

/-- A wrong MCRC is counted, and the leg's ACKs stay (R64). -/
theorem State.crcErr_counted : Counted Reg.LINE_D0CNT_MSG_CRC_ERR l.n 0 1 s ((s.heard l).inc Reg.LINE_D0CNT_MSG_CRC_ERR l.n) :=
  counted_of_rd_before State.heard_rd (counted_inc_at (by decide))

theorem State.crcErr_acks : (((s.heard l).inc Reg.LINE_D0CNT_MSG_CRC_ERR l.n).leg l).acks = (s.leg l).acks := by
  rw [State.inc_leg, State.heard_leg]

theorem msgCrcErr_counts (hm : Hears s l) (hcrc : mcrcOk msg = false) : ∃ t, exec (.msgCrcErr l msg) s = .next t ∧
    Counted Reg.LINE_D0CNT_MSG_CRC_ERR l.n 0 1 s t ∧ (t.leg l).acks = (s.leg l).acks := by
  rw [exec_msgCrcErr hm, hcrc]
  exact ⟨_, rfl, State.crcErr_counted, State.crcErr_acks⟩

theorem State.msgUnknown_crcErr (htyp : knownType (msgType msg) = false) (hcrc : mcrcOk msg = false) :
    s.msgUnknown l msg = s.inc Reg.LINE_D0CNT_MSG_CRC_ERR l.n := by
  unfold State.msgUnknown
  rw [if_neg (by simp [htyp]), if_pos (by simp [hcrc])]

theorem msgUnknown_crcErr_counts (hm : Hears s l) (htyp : knownType (msgType msg) = false) (hcrc : mcrcOk msg = false) :
    ∃ t, exec (.msgUnknown l msg) s = .next t ∧ Counted Reg.LINE_D0CNT_MSG_CRC_ERR l.n 0 1 s t ∧ (t.leg l).acks = (s.leg l).acks := by
  rw [exec_msgUnknown hm, State.msgUnknown_crcErr htyp hcrc]
  exact ⟨_, rfl, State.crcErr_counted, State.crcErr_acks⟩

/-- A message of an unknown type for the leg's own number (R68). -/
theorem State.msgUnknown_own (htyp : knownType (msgType msg) = false) (hcrc : mcrcOk msg = true) (hown : s.hasTn l = true)
    (htn : msgTn msg = s.rd Reg.ACT_STATUS_TN l.n) :
    s.msgUnknown l msg = (s.inc Reg.LINE_D0CNT_MSG_UNKNOWN l.n).ack l (msgTxid msg) (msgType msg) St.invalid := by
  simp [State.msgUnknown, htyp, hcrc, hown, htn]

theorem State.inc_hasTn_of_row {n : Nat} (h : otherRow Reg.ACT_STATUS_TN_VALID R = true) : (s.inc R l.n i n).hasTn l = s.hasTn l := by
  rw [State.hasTn, State.isOn, State.rd_inc_row h]
  rfl

theorem msgUnknown_answered (hm : Hears s l) (htyp : knownType (msgType msg) = false) (hcrc : mcrcOk msg = true) (hown : s.hasTn l = true)
    (htn : msgTn msg = s.rd Reg.ACT_STATUS_TN l.n) : ∃ t, exec (.msgUnknown l msg) s = .next t ∧
    Counted Reg.LINE_D0CNT_MSG_UNKNOWN l.n 0 1 s t ∧ Acked l msg (msgType msg) 2 s t := by
  rw [exec_msgUnknown hm, State.msgUnknown_own htyp hcrc (State.heard_hasTn.trans hown) (htn.trans State.heard_rd.symm)]
  have hasTn : ((s.heard l).inc Reg.LINE_D0CNT_MSG_UNKNOWN l.n).hasTn l = true :=
    ((State.inc_hasTn_of_row rfl).trans State.heard_hasTn).trans hown
  refine ⟨_, rfl, counted_of_rd_after State.ack_rd (counted_of_rd_before State.heard_rd (counted_inc_at (by decide))), ?_⟩
  rw [Acked, State.ack_acks hasTn, State.inc_leg, State.heard_leg]
  rfl

theorem keepRanged_dup_answered {e : Seen} (hm : Hears s l) (htyp : msgType msg = 0x09) (hcrc : mcrcOk msg = true)
    (haddr : s.addressed l msg false = true) (hown : s.hasTn l = true) (hdup : s.dupOf l 0x09 (msgTxid msg) 0 = some e)
    (hst : e.status = some st) : ∃ t, exec (.keepRanged l msg) s = .next t ∧ Counted Reg.LINE_D0CNT_MSG_DUP l.n 0 1 s t ∧
    Acked l msg 0x09 st s t ∧ t.rd Reg.ACT_KR_CTL_INTERVAL_SF l.n = s.rd Reg.ACT_KR_CTL_INTERVAL_SF l.n := by
  rw [exec_keepRanged hm, State.onMsg_dup htyp hcrc (State.heard_addressed.trans haddr) (State.heard_dupOf.trans hdup) hst]
  have hasTn : ((s.heard l).inc Reg.LINE_D0CNT_MSG_DUP l.n).hasTn l = true :=
    ((State.inc_hasTn_of_row rfl).trans State.heard_hasTn).trans hown
  refine ⟨_, rfl, counted_of_rd_after State.ack_rd (counted_of_rd_before State.heard_rd (counted_inc_at (by decide))), ?_, ?_⟩
  · rw [Acked, State.ack_acks hasTn, State.inc_leg, State.heard_leg]
  · rw [State.ack_rd, State.rd_inc_row rfl, State.heard_rd]

end

/-- Settles O9, a case of the check, the type and the messages remembered for each clause. -/
theorem messagesAreCheckedAndDuplicatesAnswered : Obligations.MessagesAreCheckedAndDuplicatesAnswered := by
  unfold Obligations.MessagesAreCheckedAndDuplicatesAnswered
  exact ⟨fun _ _ _ => msgCrcErr_counts, fun _ _ _ => msgUnknown_answered, fun _ _ _ => msgUnknown_crcErr_counts,
    fun _ _ _ _ _ => keepRanged_dup_answered⟩

end Sys2Proof.Machine

/-! SUPPORT. What follows from a change of a leg's defects, activation state, lanes or latches leaves alone (`Settles`): the pending
EQD_SETs, the gap of RANGE, DISABLED and LISTENING, a standing RNG_LOSS, and sleep. -/

namespace Sys2Proof.Machine

/-- The pending EQD_SETs of a leg, and whether RANGE_MISS stands for its present gap. -/
def LegSt.held (g : LegSt) : List EqdPend × Bool := (g.eqdPend, g.rangeMissed)

/-- What the consequences of a change on one leg keep on both. -/
structure Settles (s t : State) : Prop where
  held : ∀ l, (t.leg l).held = (s.leg l).held
  act : ∀ l : Leg, s.rd Reg.ACT_STATUS_STATE l.n ≤ 1 → t.rd Reg.ACT_STATUS_STATE l.n = s.rd Reg.ACT_STATUS_STATE l.n
  rngLoss : ∀ l : Leg, s.isOn Reg.PROT_DEF_RNG_LOSS l.n = true → t.isOn Reg.PROT_DEF_RNG_LOSS l.n = true
  asleep : t.pwr.asleep = s.pwr.asleep

/-- A mask names none of what `Settles` keeps, the legs' own state aside. -/
def keepsStanding (m : Nat) : Bool :=
  keepsRow m Reg.ACT_STATUS_STATE && keepsRow m Reg.PROT_DEF_RNG_LOSS && !m.testBit 1019

section
variable {m : Nat} {s t u : State} {l : Leg} {R : Row} {v i n : Nat}

theorem Settles.refl : Settles s s := ⟨fun _ => rfl, fun _ _ => rfl, fun _ h => h, rfl⟩

/-- One more operation. -/
theorem Settles.step (g : Settles t u) (h : Settles s t) : Settles s u where
  held l := (g.held l).trans (h.held l)
  act l hl := (g.act l ((h.act l hl).le.trans hl)).trans (h.act l hl)
  rngLoss l hl := g.rngLoss l (h.rngLoss l hl)
  asleep := g.asleep.trans h.asleep

theorem Settles.ite {c : Prop} [Decidable c] (h : Settles s t) (g : Settles s u) : Settles s (if c then t else u) := by
  split <;> assumption

theorem Settles.foldl {α : Type} {f : State → α → State} {xs : List α} (hf : ∀ x y, Settles x (f x y)) : Settles s (xs.foldl f s) := by
  induction xs generalizing s with
  | nil => exact .refl
  | cons y r ih => exact ih.step (hf s y)

/-- By a footprint, where the legs' own state is kept too. -/
theorem Foot.settles_of_held (h : Foot m s t) (hk : keepsStanding m = true) (hl : ∀ l, (t.leg l).held = (s.leg l).held) : Settles s t := by
  simp only [keepsStanding, Bool.and_eq_true, Bool.not_eq_true'] at hk
  obtain ⟨⟨hact, hrng⟩, hpwr⟩ := hk
  exact ⟨hl, fun l _ => h.rd_leg hact, fun l => by simp only [State.isOn, h.rd_leg hrng, imp_self], congrArg PwrSt.asleep (h.pwr hpwr)⟩

theorem Foot.settles (h : Foot m s t) (hk : keepsStanding m = true) (hl : keepsLegs m = true) : Settles s t :=
  h.settles_of_held hk fun _ => congrArg LegSt.held (h.leg_keeps hl)

theorem Settles.upd {f : LegSt → LegSt} (hf : ∀ g, (f g).held = g.held) : Settles s (s.upd l f) where
  held k := by
    by_cases hk : k = l
    · rw [hk, State.upd_leg_same, hf]
    · rw [State.upd_leg_ne hk]
  act _ _ := State.rd_upd ..
  rngLoss _ h := State.upd_isOn.trans h
  asleep := by rw [State.upd_pwr]

theorem Settles.updWave {w : Nat} {f : Wave → Wave} : Settles s (s.updWave l w f) := .upd fun _ => rfl

/-- A write of a field that is neither the activation state nor RNG_LOSS. -/
theorem Settles.wr (ha : otherRow Reg.ACT_STATUS_STATE R = true) (hr : otherRow Reg.PROT_DEF_RNG_LOSS R = true) :
    Settles s (s.wr R v l.n i) where
  held _ := congrArg LegSt.held State.wr_leg
  act _ _ := State.rd_wr_row ha
  rngLoss _ h := by rwa [State.isOn, State.rd_wr_row hr]
  asleep := rfl

theorem Settles.wr_shared (ha : otherRow Reg.ACT_STATUS_STATE R = true) (hr : otherRow Reg.PROT_DEF_RNG_LOSS R = true) :
    Settles s (s.wr R v 0 i) := .wr (l := .a) ha hr

theorem Settles.inc_shared (ha : otherRow Reg.ACT_STATUS_STATE R = true) (hr : otherRow Reg.PROT_DEF_RNG_LOSS R = true) :
    Settles s (s.inc R 0 i n) := .wr_shared ha hr

theorem Settles.event {src det : Nat} : Settles s (s.event src det) := (State.event_foot ..).settles rfl rfl

theorem Settles.setBit (ha : otherRow Reg.ACT_STATUS_STATE R = true) (hr : otherRow Reg.PROT_DEF_RNG_LOSS R = true) :
    Settles s (s.setBit R l.n i) := .ite .refl (.wr ha hr)

theorem Settles.clrBit (ha : otherRow Reg.ACT_STATUS_STATE R = true) (hr : otherRow Reg.PROT_DEF_RNG_LOSS R = true) :
    Settles s (s.clrBit R l.n i) := .ite (.wr ha hr) .refl

/-! ### Activation states -/

/-- RNG_LOSS is set. -/
theorem Settles.wr_rngLoss : Settles s (s.wr Reg.PROT_DEF_RNG_LOSS 1 l.n) where
  held _ := congrArg LegSt.held State.wr_leg
  act _ _ := State.rd_wr_row rfl
  rngLoss k h := by
    by_cases hk : k = l
    · rw [hk, State.isOn, State.rd_wr_same (by decide)]
      rfl
    · rwa [State.isOn, State.rd_wr_otherLeg (by decide) hk]
  asleep := rfl

theorem Settles.declareRngLoss : Settles s (s.declareLeg l Reg.PROT_DEF_RNG_LOSS 17 1) :=
  .ite .refl (.step .event (.step (.setBit rfl rfl) .wr_rngLoss))

/-- The activation state of a leg past LISTENING is written. -/
theorem Settles.wr_act (h : 2 ≤ s.rd Reg.ACT_STATUS_STATE l.n) : Settles s (s.wr Reg.ACT_STATUS_STATE v l.n) where
  held _ := congrArg LegSt.held State.wr_leg
  act k hk := by
    have hne : k ≠ l := by
      rintro rfl
      omega
    exact State.rd_wr_otherLeg (by decide) hne
  rngLoss _ hr := by rwa [State.isOn, State.rd_wr_row rfl]
  asleep := rfl

theorem Settles.setAct (h : s.rd Reg.ACT_STATUS_STATE l.n = v ∨ 2 ≤ s.rd Reg.ACT_STATUS_STATE l.n) : Settles s (s.setAct l v) := by
  unfold State.setAct
  by_cases hv : s.rd Reg.ACT_STATUS_STATE l.n = v
  · rw [if_pos hv]
    exact .refl
  · rw [if_neg hv]
    have entered := Settles.wr_act (v := v) (h.resolve_left hv)
    refine .ite (.step .declareRngLoss (.step (.upd fun _ => rfl) ?_)) ?_ <;>
      exact .step .event (.step (.wr rfl rfl) (.step (.wr rfl rfl) entered))

theorem Settles.withdraw : Settles s (s.withdraw l) := .upd fun _ => rfl

theorem Settles.once {src det : Nat} : Settles s (s.once l src det) := .ite .refl (.step .event (.upd fun _ => rfl))

theorem Settles.attemptDark {a : Alloc} : Settles s (s.attemptDark l a) := by
  unfold State.attemptDark
  refine .ite .refl ?_
  dsimp only
  split
  next h =>
    simp only [Bool.and_eq_true, beq_iff_eq] at h
    have state : ((s.withdraw l).dec Reg.ACT_ATTEMPT_ATTEMPTS l.n).rd Reg.ACT_STATUS_STATE l.n = 2 := (State.rd_wr_row rfl).trans h.2
    exact .step (.setAct (Or.inr state.ge)) (.step (.wr rfl rfl) .withdraw)
  next => exact .withdraw

/-! ### Delineation and lanes -/

theorem Settles.syncOver {w : Nat} : Settles s (s.syncOver l w) := by
  unfold State.syncOver
  refine .ite .refl ?_
  have ended : Settles s ((s.wr Reg.PROT_DEF_LOSS_OF_SYNC 0 l.n).upd l fun g => { g with losyBad := 0, losyGood := 0, alignRun := 0 }) :=
    .step (.upd fun _ => rfl) (.wr rfl rfl)
  exact .ite (.step ((State.toHoldover_foot _).settles rfl rfl) ended) ended

theorem Settles.dropFrame : Settles s (s.dropFrame l) := .upd fun _ => rfl

/-- An unfinished registration goes back to listening. -/
theorem Settles.unregister : Settles s
    (if s.rd Reg.ACT_STATUS_STATE l.n = 1 ∨ s.rd Reg.ACT_STATUS_STATE l.n = 2 ∨ s.rd Reg.ACT_STATUS_STATE l.n = 3 then
      ((s.withdraw l).wr Reg.ACT_ATTEMPT_SKIP_LEFT 0 l.n).setAct l 1 else s) := by
  split
  next h =>
    have state : ((s.withdraw l).wr Reg.ACT_ATTEMPT_SKIP_LEFT 0 l.n).rd Reg.ACT_STATUS_STATE l.n = s.rd Reg.ACT_STATUS_STATE l.n :=
      (State.rd_wr_row rfl).trans (State.rd_upd ..)
    exact .step (.setAct (by omega)) (.step (.wr rfl rfl) .withdraw)
  next => exact .refl

theorem Settles.toHunt {w : Nat} : Settles s (s.toHunt l w) := by
  unfold State.toHunt
  have left : Settles s (((s.syncOver l w).updWave l w fun v => { v with
      deln := .hunt, confirm := 0, miss := 0, syncFr := 0, whole := false, deliver := false, hunting := false, lastSeq := none, badCw := [] }).wr
      Reg.OPT_DSK_CAND_VALID 0 l.n w |>.wr Reg.OPT_DSK_CAND_OFS 0 l.n w) :=
    .step (.wr rfl rfl) (.step (.wr rfl rfl) (.step .updWave .syncOver))
  exact .ite left (.step .unregister (.step .dropFrame left))

theorem Settles.stopDetectors {w : Nat} : Settles s (s.stopDetectors l w) :=
  .step .updWave (.step (.clrBit rfl rfl) (.step (.clrBit rfl rfl) (.step (.clrBit rfl rfl) (.clrBit rfl rfl))))

theorem Settles.declareLos {w : Nat} : Settles s (s.declare l w defLos) := by
  unfold State.declare
  exact .ite .refl (.step .updWave (.step .once (.step (.setBit rfl rfl) (.setBit rfl rfl))))

theorem Settles.settleRx {w : Nat} : Settles s (s.settleRx l w) := by
  unfold State.settleRx
  extract_lets old new ran s₁ s₂ s₃ s₄
  have h₁ : Settles s s₁ := .wr rfl rfl
  have h₂ : Settles s s₂ := .ite (.step .stopDetectors h₁) h₁
  have h₃ : Settles s s₃ := .ite (.step .dropFrame h₂) h₂
  have h₄ : Settles s s₄ := .ite (.step .toHunt h₃) h₃
  exact .ite h₄ (.ite (.step .declareLos h₄) (.step (.clrBit rfl rfl) h₄))

theorem Settles.settleLanes : Settles s (s.settleLanes l) :=
  .step ((State.settleTx_foot ..).settles rfl rfl) (.step ((State.settleTx_foot ..).settles rfl rfl) (.foldl fun _ _ => .settleRx))

/-! ### The bursts and allocations of a leg -/

theorem Settles.untakeMsg {x : Option (Nat × Nat)} : Settles s (s.untakeMsg l x) := by
  unfold State.untakeMsg
  split
  · exact .upd fun _ => rfl
  · exact .upd fun _ => rfl
  · exact ⟨fun k => by cases k <;> rfl, fun _ _ => rfl, fun _ h => h, rfl⟩
  · exact .upd fun _ => rfl
  · exact .refl

theorem Settles.setBursts {x : List Burst} : Settles s { s with bursts := x } :=
  ⟨fun k => by cases k <;> rfl, fun _ _ => rfl, fun _ h => h, rfl⟩

theorem Settles.setReqs {x : List Req} : Settles s { s with reqs := x } :=
  ⟨fun k => by cases k <;> rfl, fun _ _ => rfl, fun _ h => h, rfl⟩

theorem Settles.setProt {x : ProtSt} : Settles s { s with prot := x } :=
  ⟨fun k => by cases k <;> rfl, fun _ _ => rfl, fun _ h => h, rfl⟩

theorem Settles.setLed {x : Ledger} : Settles s { s with led := x } :=
  ⟨fun k => by cases k <;> rfl, fun _ _ => rfl, fun _ h => h, rfl⟩

theorem Settles.unwindBurst {b : Burst} : Settles s (s.unwindBurst b) :=
  .step (.wr_shared rfl rfl) (.step .untakeMsg (.step ((State.restoreSnap_foot ..).settles rfl rfl)
    (.step (.foldl fun _ _ => (State.unplace_foot ..).settles rfl rfl) .setBursts)))

theorem Settles.unwindList {bs : List Burst} {cause : Nat} : Settles s (s.unwindList bs cause) :=
  .step (.foldl fun _ _ => (State.unwindSlot_foot ..).settles rfl rfl) (.foldl fun _ _ => .unwindBurst)

theorem Settles.setAlloc {a : Alloc} {f : Alloc → Alloc} : Settles s (s.setAlloc l a f) := .upd fun _ => rfl

theorem Settles.ledger {a : Alloc} {admitted hgOpen : Bool} : Settles s (s.ledger l a admitted hgOpen) :=
  .ite .setAlloc (.step .setLed .setAlloc)

/-- Any row that `refusal` gives counts a refusal. -/
theorem Settles.refuse {a : Alloc} (ha : otherRow Reg.ACT_STATUS_STATE R = true) (hr : otherRow Reg.PROT_DEF_RNG_LOSS R = true) :
    Settles s (s.refuse l a R) := by
  unfold State.refuse
  have counted : Settles s (s.inc R l.n) := .wr ha hr
  exact .step .attemptDark (.step .once (.ite (.step .event counted) counted))

theorem refusal_row_standing {a : Alloc} {slot : Option Nat} {cap : Bool} {used : Nat} (h : s.refusal l a slot cap used = some R) :
    otherRow Reg.ACT_STATUS_STATE R = true ∧ otherRow Reg.PROT_DEF_RNG_LOSS R = true := by
  unfold State.refusal at h
  split_ifs at h <;> cases h <;> exact ⟨rfl, rfl⟩

theorem Settles.redecide : Settles s (s.redecide l) := by
  unfold State.redecide
  refine .foldl fun x a => ?_
  dsimp only
  split
  next R h =>
    obtain ⟨ha, hr⟩ := refusal_row_standing h
    exact .ite (.step (.refuse ha hr) .setAlloc) .refl
  next => exact .step .ledger .setAlloc

/-! ### The switch -/

theorem Settles.resend {q : Req} : Settles s (s.resend q l) := by
  unfold State.resend
  exact .step (.upd fun _ => rfl) .setReqs

theorem Settles.moveReqs {old new : Leg} : Settles s (s.moveReqs old new) := .foldl fun _ _ => .step .resend (.upd fun _ => rfl)

theorem Settles.setOp {f : LongOp → LongOp} : Settles s (s.setOp i f) := (State.setOp_foot ..).settles rfl rfl

theorem Settles.testEnd : Settles s (s.testEnd l) := (State.testEnd_foot ..).settles rfl rfl

/-- The leg that an operation held in TEST is let go. -/
theorem Settles.opLegOver : Settles s (match s.opLeg i with
    | some l => (if s.opCode i = 0x44 then s.upd l fun g => { g with dtKeep := 0 } else s).testEnd l
    | none => s) := by
  split
  · exact .step .testEnd (.ite (.upd fun _ => rfl) .refl)
  · exact .refl

theorem Settles.freeOp : Settles s (s.freeOp i) := by
  unfold State.freeOp
  exact .step .setOp (.step (.wr_shared rfl rfl) (.step (.wr_shared rfl rfl) (.step (.wr_shared rfl rfl) (.step (.wr_shared rfl rfl)
    (.step (.wr_shared rfl rfl) (.step (.wr_shared rfl rfl) (.step (.wr_shared rfl rfl) .opLegOver)))))))

theorem Settles.endOp {status result : Nat} : Settles s (s.endOp i status result) := by
  unfold State.endOp
  extract_lets e s₁ s₂ s₃
  have h₁ : Settles s s₁ := (State.endWaits_foot ..).settles rfl rfl
  have h₂ : Settles s s₂ := .ite h₁ (.step ((State.admPush_foot ..).settles rfl rfl) h₁)
  have h₃ : Settles s s₃ :=
    .ite (.step (.wr_shared rfl rfl) h₂) (.ite (.step (.wr_shared rfl rfl) h₂) (.step (.wr_shared rfl rfl) h₂))
  exact .step .freeOp h₃

theorem Settles.endLaser : Settles s (s.endLaser l) := .foldl fun _ _ => .ite .endOp .refl

theorem Settles.settleTime : Settles s s.settleTime := (State.settleTime_foot _).settles rfl rfl

theorem Settles.settleSluice : Settles s s.settleSluice := (State.settleSluice_foot _).settles rfl rfl

theorem Settles.doSwitch {cause : Nat} {new : Leg} : Settles s (s.doSwitch cause new) := by
  unfold State.doSwitch
  extract_lets old s₁ s₂ prot s₃ s₄ s₅ s₆ s₇ s₈
  have h₁ : Settles s s₁ :=
    .step (.wr_shared rfl rfl) (.step (.wr_shared rfl rfl) (.step (.wr_shared rfl rfl) ((State.wtrCancel_foot _).settles rfl rfl)))
  have h₂ : Settles s s₂ := .step (.inc_shared rfl rfl) (.step (.wr rfl rfl) (.step (.wr rfl rfl) h₁))
  have h₃ : Settles s s₃ := .step (.setProt (s := s₂)) h₂
  have h₄ : Settles s s₄ := .step (.wr_shared rfl rfl) h₃
  have h₅ : Settles s s₅ := .step .event (.step .event (.step .event h₄))
  have h₆ : Settles s s₆ := .step ((State.fallback_foot ..).settles rfl rfl) (.step .unwindList h₅)
  have h₇ : Settles s s₇ := .step .moveReqs (.step ((State.swapDrop_foot _).settles rfl rfl)
    (.step ((State.commitSwitch_foot _).settles rfl rfl) (.step .redecide h₆)))
  have h₈ : Settles s s₈ := .step .endLaser (.step ((State.markBins_foot ..).settles rfl rfl) h₇)
  exact .step .settleTime (.step .settleSluice (.step .settleLanes (.step .settleLanes h₈)))

theorem Settles.settleProt : Settles s s.settleProt := by
  unfold State.settleProt
  refine .ite .refl ?_
  have h : Settles s s.settleForced.settleHold.settleNoProt.settleWtr :=
    .step ((State.settleWtr_foot _).settles rfl rfl) (.step ((State.settleNoProt_foot _).settles rfl rfl)
      (.step ((State.settleHold_foot _).settles rfl rfl) ((State.settleForced_foot _).settles rfl rfl)))
  exact .ite h (.ite (.step .doSwitch h) (.ite (.step .doSwitch h) h))

/-! ### A change of defects -/

theorem Settles.queueAlarm : Settles s (s.queueAlarm l) := .foldl fun _ _ => .ite (.upd fun _ => rfl) .refl

theorem Settles.settleSet : Settles s (s.settleSet l) := by
  unfold State.settleSet
  refine .ite .refl (.step .queueAlarm ?_)
  have seen : Settles s (s.upd l fun g => { g with defSeen := s.defSet l }) := .upd fun _ => rfl
  exact .ite (.step .event seen) (.ite (.step .event seen) seen)

theorem Settles.wakeCause : Settles s (s.wakeCause i) := by
  unfold State.wakeCause
  exact .ite .refl ⟨fun k => by cases k <;> rfl, fun _ _ => rfl, fun _ h => h, rfl⟩

theorem Settles.settleDef : Settles s (s.settleDef l) := by
  unfold State.settleDef
  extract_lets s₁ s₂ s₃
  have h₁ : Settles s s₁ := .step ((State.settleAvail_foot ..).settles rfl rfl) (.step ((State.settlePm_foot ..).settles rfl rfl)
    ((State.settleLatches_foot ..).settles rfl rfl))
  have h₂ : Settles s s₂ := .step .settleSluice h₁
  have h₃ : Settles s s₃ := .ite (.step .wakeCause h₂) h₂
  exact .step .settleProt (.step .settleTime (.step .settleSet h₃))

end

end Sys2Proof.Machine

/-! SUPPORT. What the head end's activation messages bring about: burst profiles, ASSIGN_TN, EQD_SET, CONTAINER, DEACTIVATE and KEEP_RANGED
(02_line_format.md, R69; 03_activation_and_headgate.md). -/

namespace Sys2Proof.Machine

section
variable {s t : State} {l : Leg} {msg : BitVec 384} {R : Row} {v k i n : Nat}

theorem State.rd_foldl {α : Type} {f : State → α → State} {xs : List α} (hf : ∀ x y, (f x y).rd R k i = x.rd R k i) :
    (xs.foldl f s).rd R k i = s.rd R k i := by
  induction xs generalizing s with
  | nil => rfl
  | cons y r ih => exact ih.trans (hf s y)

/-! ### Burst profiles -/

theorem exec_burstProfile (h : Hears s l) : exec (.burstProfile l msg) s =
    .next ((s.heard l).onMsg l 0x01 msg false 0 fun s => s.burstProfile l msg) := congrArg Host.Outcome.next (State.inFrame_of_hears h _)

/-- A profile is staged in the receiver and in the headgate, under the number that the message names. -/
def State.stageProfile (s : State) (l : Leg) (msg : BitVec 384) : State :=
  s.upd l fun g => { g with
    profPend := g.profPend.upd (mfield msg 6 1 / 64) (addPend ⟨mfield msg 18 6, profOf msg⟩),
    hgProfPend := g.hgProfPend.upd (mfield msg 6 1 / 64) (addPend ⟨mfield msg 18 6, profOf msg⟩) }

theorem State.burstProfile_stages (hpre : mfield msg 8 1 ≠ 0) (hdlm : mfield msg 9 1 % 4 ≠ 0) (heff : s.effOk l (mfield msg 18 6) = true) :
    s.burstProfile l msg = (.silent, s.stageProfile l msg) := by
  simp [State.burstProfile, hpre, hdlm, heff, State.stageProfile, profOf]

/-- Two bits of a message name a profile. -/
theorem mfield_profile_lt : mfield msg 6 1 / 64 < 4 :=
  Nat.div_lt_of_lt_mul (Nat.mod_lt _ (by decide))

theorem burstProfile_staged (hm : Hears s l) (ht : s.takes l 0x01 msg false 0 = true) (hpre : mfield msg 8 1 ≠ 0)
    (hdlm : mfield msg 9 1 % 4 ≠ 0) (heff : s.effOk l (mfield msg 18 6) = true) : ∃ t, exec (.burstProfile l msg) s = .next t ∧
    (t.leg l).profPend.get (mfield msg 6 1 / 64) =
      addPend ⟨mfield msg 18 6, profOf msg⟩ ((s.leg l).profPend.get (mfield msg 6 1 / 64)) ∧
    (t.leg l).hgProfPend.get (mfield msg 6 1 / 64) =
      addPend ⟨mfield msg 18 6, profOf msg⟩ ((s.leg l).hgProfPend.get (mfield msg 6 1 / 64)) := by
  rw [exec_burstProfile hm, State.onMsg_silent (State.heard_takes.trans ht)
    (State.burstProfile_stages hpre hdlm (State.heard_effOk.trans heff))]
  obtain ⟨seen, hleg⟩ := State.taken_leg (s := (s.heard l).stageProfile l msg) (l := l) (m := msg) (typ := 0x01) (frag := 0) (x := none)
  refine ⟨_, rfl, ?_, ?_⟩
  · rw [hleg, State.stageProfile, State.upd_leg_same, State.heard_leg]
    exact Four.get_upd_same mfield_profile_lt
  · rw [hleg, State.stageProfile, State.upd_leg_same, State.heard_leg]
    exact Four.get_upd_same mfield_profile_lt

/-! ### ASSIGN_TN -/

theorem exec_assignTn (h : Hears s l) : exec (.assignTn l msg) s = .next ((s.heard l).assignMsg l msg) :=
  congrArg Host.Outcome.next (State.inFrame_of_hears h _)

theorem State.latchTn_leg {tn txid : Nat} :
    (s.latchTn l tn txid).leg l = { s.leg l with asgAck := some (mkMsg 0x81 txid [0, 0x02]) } := by
  simp only [State.latchTn, State.event_leg, State.upd_leg_same, State.wr_leg]

/-- The number stands in activation and in the headgate. -/
theorem State.latchTn_rd {tn txid : Nat} (htn : tn < 1024) : (s.latchTn l tn txid).rd Reg.ACT_STATUS_TN l.n = tn ∧
    (s.latchTn l tn txid).rd Reg.ACT_STATUS_TN_VALID l.n = 1 ∧ (s.latchTn l tn txid).rd Reg.HG_STATUS_TN l.n = tn ∧
    (s.latchTn l tn txid).rd Reg.HG_STATUS_TN_VALID l.n = 1 := by
  simp only [State.latchTn]
  refine ⟨?_, ?_, ?_, ?_⟩
  · rw [(State.event_foot ..).rd_leg rfl, State.rd_upd, State.rd_wr_row rfl, State.rd_wr_row rfl, State.rd_wr_row rfl,
      State.rd_wr_same (by decide)]
    exact Nat.mod_eq_of_lt htn
  · rw [(State.event_foot ..).rd_leg rfl, State.rd_upd, State.rd_wr_row rfl, State.rd_wr_row rfl, State.rd_wr_same (by decide)]
    rfl
  · rw [(State.event_foot ..).rd_leg rfl, State.rd_upd, State.rd_wr_row rfl, State.rd_wr_same (by decide)]
    exact Nat.mod_eq_of_lt htn
  · rw [(State.event_foot ..).rd_leg rfl, State.rd_upd, State.rd_wr_same (by decide)]
    rfl

theorem State.assignTn_ranging (htn : mfield msg 14 2 % 1024 < 0x3FE) (hst : s.rd Reg.ACT_STATUS_STATE l.n = 4) :
    s.assignTn l msg = (.silent, s.latchTn l (mfield msg 14 2 % 1024) (msgTxid msg)) := by
  simp [State.assignTn, hst, Nat.not_le.2 htn]

@[simp] theorem State.noteAck_rd {typ txid st : Nat} : (s.noteAck l typ txid st).rd R k i = s.rd R k i := State.rd_upd ..

theorem State.assignMsg_ranging (ht : s.takes l 0x02 msg true 0 = true) (hser : mfield msg 6 8 = s.serial)
    (htn : mfield msg 14 2 % 1024 < 0x3FE) (hst : s.rd Reg.ACT_STATUS_STATE l.n = 4) : s.assignMsg l msg =
    ((s.latchTn l (mfield msg 14 2 % 1024) (msgTxid msg)).taken l msg 0x02 0 none).noteAck l 0x02 (msgTxid msg) St.ok := by
  obtain ⟨htyp, hcrc, haddr, -⟩ := State.takes_iff.1 ht
  obtain ⟨seen, hleg⟩ := State.taken_leg (s := s.latchTn l (mfield msg 14 2 % 1024) (msgTxid msg)) (l := l) (m := msg) (typ := 0x02)
    (frag := 0) (x := none)
  have held : (((s.latchTn l (mfield msg 14 2 % 1024) (msgTxid msg)).taken l msg 0x02 0 none).leg l).asgAck =
      some (mkMsg 0x81 (msgTxid msg) [0, 0x02]) := by
    rw [hleg, State.latchTn_leg]
  unfold State.assignMsg
  rw [if_neg (by simp [hser]), State.onMsg_silent ht (State.assignTn_ranging htn hst)]
  exact if_pos (by simp [htyp, hcrc, haddr, held])

@[simp] theorem State.heard_serial : (s.heard l).serial = s.serial := by simp [State.serial, State.rd2]

theorem assignTn_latched (hm : Hears s l) (ht : s.takes l 0x02 msg true 0 = true) (hser : mfield msg 6 8 = s.serial)
    (htn : mfield msg 14 2 % 1024 < 0x3FE) (hst : s.rd Reg.ACT_STATUS_STATE l.n = 4) : ∃ t, exec (.assignTn l msg) s = .next t ∧
    t.rd Reg.ACT_STATUS_TN l.n = mfield msg 14 2 % 1024 ∧ t.rd Reg.ACT_STATUS_TN_VALID l.n = 1 ∧
    t.rd Reg.HG_STATUS_TN l.n = mfield msg 14 2 % 1024 ∧ t.rd Reg.HG_STATUS_TN_VALID l.n = 1 ∧
    (t.leg l).asgAck = some (mkMsg 0x81 (msgTxid msg) [0, 0x02]) := by
  rw [exec_assignTn hm, State.assignMsg_ranging (State.heard_takes.trans ht) (hser.trans State.heard_serial.symm) htn
    (State.heard_rd.trans hst)]
  obtain ⟨hact, hvalid, hhg, hhgValid⟩ := (s.heard l).latchTn_rd (l := l) (txid := msgTxid msg) (Nat.mod_lt (mfield msg 14 2) (by decide : 0 < 1024))
  refine ⟨_, rfl, ?_, ?_, ?_, ?_, ?_⟩
  · rw [State.noteAck_rd, State.taken_rd, hact]
  · rw [State.noteAck_rd, State.taken_rd, hvalid]
  · rw [State.noteAck_rd, State.taken_rd, hhg]
  · rw [State.noteAck_rd, State.taken_rd, hhgValid]
  · obtain ⟨seen, hleg⟩ := State.taken_leg (s := (s.heard l).latchTn l (mfield msg 14 2 % 1024) (msgTxid msg)) (l := l) (m := msg)
      (typ := 0x02) (frag := 0) (x := none)
    rw [State.noteAck, State.upd_leg_same, hleg, State.latchTn_leg]

/-! ### EQD_SET -/

theorem exec_eqdSet (h : Hears s l) : exec (.eqdSet l msg) s = .next ((s.heard l).onMsg l 0x03 msg false 0 fun s => s.eqdSet l msg) :=
  congrArg Host.Outcome.next (State.inFrame_of_hears h _)

/-- The item that an EQD_SET becomes (R83). -/
def State.eqdItem (s : State) (l : Leg) (msg : BitVec 384) : EqdPend :=
  { eff := mfield msg 11 6, relative := mfield msg 6 1 % 2 == 1,
    val := if mfield msg 6 1 % 2 == 1 then signed 26 (mfield msg 7 4) else (mfield msg 7 4 : Int), rwave := (s.leg l).lastRangeWave }

theorem State.eqdSet_accepts (htn : s.hasTn l = true) (hbad : s.eqdBad l (mfield msg 6 1 % 2 == 1) (mfield msg 7 4) (mfield msg 11 6) = false)
    (heff : s.effOk l (mfield msg 11 6) = true) : s.eqdSet l msg =
    (.answered St.ok, (s.upd l fun g => { g with eqdPend := addEqd (s.eqdItem l msg) g.eqdPend }).showEqd l) := by
  unfold State.eqdSet
  dsimp only
  rw [if_neg (by simp [htn]), if_neg (by simp [hbad]), if_neg (by simp [heff])]
  rfl

theorem addEqd_ne_nil {p : EqdPend} {xs : List EqdPend} : addEqd p xs ≠ [] := by
  cases xs with
  | nil => exact List.cons_ne_nil _ _
  | cons x r =>
    unfold addEqd
    split_ifs <;> exact List.cons_ne_nil _ _

/-- With an item pending, PENDING shows it. -/
theorem State.showEqd_pending (h : (s.leg l).eqdPend ≠ []) : (s.showEqd l).rd Reg.ACT_EQD_PENDING l.n = 1 := by
  unfold State.showEqd
  split
  next he => exact absurd he h
  next =>
    simp only [State.wr2]
    rw [State.rd_wr_row rfl, State.rd_wr_row rfl, State.rd_wr_row rfl, State.rd_wr_same (by decide)]
    rfl

theorem State.showEqd_leg {g : Leg} : (s.showEqd l).leg g = s.leg g := (State.showEqd_foot ..).leg_keeps rfl

theorem State.hasTn_congr (h : t.rd Reg.ACT_STATUS_TN_VALID l.n = s.rd Reg.ACT_STATUS_TN_VALID l.n) : t.hasTn l = s.hasTn l := by
  rw [State.hasTn, State.isOn, h]
  rfl

theorem State.heard_eqdBad {rel : Bool} {x eff : Nat} : (s.heard l).eqdBad l rel x eff = s.eqdBad l rel x eff := by
  cases l <;> rfl

theorem eqdSet_pends (hm : Hears s l) (ht : s.takes l 0x03 msg false 0 = true) (htn : s.hasTn l = true)
    (hbad : s.eqdBad l (mfield msg 6 1 % 2 == 1) (mfield msg 7 4) (mfield msg 11 6) = false) (heff : s.effOk l (mfield msg 11 6) = true) :
    ∃ t, exec (.eqdSet l msg) s = .next t ∧ (t.leg l).eqdPend = addEqd (s.eqdItem l msg) (s.leg l).eqdPend ∧
      t.rd Reg.ACT_EQD_PENDING l.n = 1 ∧ Acked l msg 0x03 0 s t := by
  let u := ((s.heard l).upd l fun g => { g with eqdPend := addEqd ((s.heard l).eqdItem l msg) g.eqdPend }).showEqd l
  have hu : (s.heard l).eqdSet l msg = (.answered St.ok, u) :=
    State.eqdSet_accepts (State.heard_hasTn.trans htn) (State.heard_eqdBad.trans hbad) (State.heard_effOk.trans heff)
  have htake := State.heard_takes.trans ht
  have hitem : (s.heard l).eqdItem l msg = s.eqdItem l msg := by simp only [State.eqdItem, State.heard_leg]
  have hleg : u.leg l = { (s.heard l).leg l with eqdPend := addEqd (s.eqdItem l msg) (s.leg l).eqdPend } := by
    rw [State.showEqd_leg, State.upd_leg_same, hitem, State.heard_leg]
  have hown : u.hasTn l = true := by
    rw [State.hasTn_congr ((State.showEqd_foot ..).rd_leg rfl)]
    exact (State.upd_isOn.trans State.heard_hasTn).trans htn
  refine ⟨_, exec_eqdSet hm, ?_, (State.onMsg_answered_rd htake hu).trans (State.showEqd_pending ?_), State.onMsg_acked ht hu hown ?_⟩
  · obtain ⟨seen, acks, hdone⟩ := State.onMsg_answered_leg (act := fun s => s.eqdSet l msg) htake hu
    rw [hdone, hleg]
  · rw [State.upd_leg_same]
    exact addEqd_ne_nil
  · rw [hleg, State.heard_leg]

/-- A leg without a number refuses the EqD. -/
theorem State.eqdSet_noTn (htn : s.hasTn l = false) : ∃ t, s.eqdSet l msg = (.ignored, t) ∧
    Counted Reg.ACT_CNT_EQD_REFUSED l.n 0 1 s t ∧ t.leg l = s.leg l := by
  have refused : Counted Reg.ACT_CNT_EQD_REFUSED l.n 0 1 s (s.eqdRefused l) :=
    (State.event_foot ..).counted_after rfl (counted_inc_at (by decide))
  have hleg : (s.eqdRefused l).leg l = s.leg l := (State.eqdRefused_foot ..).leg_keeps rfl
  unfold State.eqdSet
  dsimp only
  rw [if_pos (by simp [htn])]
  refine ⟨_, rfl, ?_, ?_⟩
  · split
    · exact counted_of_rd_after (State.rd_inc_row rfl) refused
    · exact refused
  · split
    · rw [State.inc_leg, hleg]
    · exact hleg

theorem eqdSet_refused (hm : Hears s l) (ht : s.takes l 0x03 msg false 0 = true) (htn : s.hasTn l = false) :
    ∃ t, exec (.eqdSet l msg) s = .next t ∧ Counted Reg.ACT_CNT_EQD_REFUSED l.n 0 1 s t ∧ (t.leg l).eqdPend = (s.leg l).eqdPend := by
  obtain ⟨t, hact, hcount, hleg⟩ := (s.heard l).eqdSet_noTn (msg := msg) (State.heard_hasTn.trans htn)
  rw [exec_eqdSet hm, State.onMsg_ignored (State.heard_takes.trans ht) hact]
  exact ⟨t, rfl, counted_of_rd_before State.heard_rd hcount, by rw [hleg, State.heard_leg]⟩

/-! ### CONTAINER -/

theorem exec_container (h : Hears s l) : exec (.container l msg) s = .next ((s.heard l).container l msg) :=
  congrArg Host.Outcome.next (State.inFrame_of_hears h _)

/-- With firmware present a message is taken at once. -/
theorem State.fwMsg_present {typ : Nat} {take : State → State} (h : s.fwPresent = true) : s.fwMsg l typ msg take = take s := if_pos h

theorem State.container_taken (h : s.fwPresent = true ∨ mfield msg 6 1 % 2 = 0) :
    s.container l msg = s.onMsg l 0x04 msg false 0 fun s => s.containerAct l msg := by
  unfold State.container
  dsimp only
  split
  next hadd => exact State.fwMsg_present (h.resolve_right (by omega))
  next => rfl

/-- What the slot of a CONTAINER holds from EFF_SFC on: ID + 1, or 0. -/
def containerItem (msg : BitVec 384) : Pend Nat :=
  ⟨mfield msg 10 6, if mfield msg 6 1 % 2 == 1 then mfield msg 8 2 % 2 ^ 14 + 1 else 0⟩

/-- The change is staged in the scheduler and in the headgate. -/
def State.stageContainer (s : State) (l : Leg) (msg : BitVec 384) : State :=
  s.upd l fun g => { g with
    ctnPend := Tab.put [] (mfield msg 7 1 % 128) (addPend (containerItem msg) (Tab.get [] (mfield msg 7 1 % 128) g.ctnPend)) g.ctnPend,
    hgPend := Tab.put [] (mfield msg 7 1 % 128) (addPend (containerItem msg) (Tab.get [] (mfield msg 7 1 % 128) g.hgPend)) g.hgPend }

theorem State.containerAct_stages (hid : mfield msg 8 2 % 2 ^ 14 ≤ 0x2FFF) (heff : s.effOk l (mfield msg 10 6) = true)
    (hfree : (List.range 128).any (fun c => c != mfield msg 7 1 % 128 && s.ctnAt l c (mfield msg 10 6) == mfield msg 8 2 % 2 ^ 14 + 1) = false) :
    s.containerAct l msg = (.answered St.ok, (s.stageContainer l msg).wr Reg.HG_LATCH_PENDING 1 l.n (mfield msg 7 1 % 128)) := by
  unfold State.containerAct
  dsimp only
  rw [if_neg (Nat.not_lt.2 hid), if_neg (by simp [heff]), hfree, Bool.and_false, if_neg Bool.false_ne_true]
  rfl

theorem State.heard_ctnAt {c eff : Nat} : (s.heard l).ctnAt l c eff = s.ctnAt l c eff := by
  cases l <;> rfl

theorem container_pends (hm : Hears s l) (ht : s.takes l 0x04 msg false 0 = true) (hfw : s.fwPresent = true ∨ mfield msg 6 1 % 2 = 0)
    (htn : s.hasTn l = true) (hid : mfield msg 8 2 % 2 ^ 14 ≤ 0x2FFF) (heff : s.effOk l (mfield msg 10 6) = true)
    (hfree : (List.range 128).any (fun c => c != mfield msg 7 1 % 128 && s.ctnAt l c (mfield msg 10 6) == mfield msg 8 2 % 2 ^ 14 + 1) = false) :
    ∃ t, exec (.container l msg) s = .next t ∧ t.rd Reg.HG_LATCH_PENDING l.n (mfield msg 7 1 % 128) = 1 ∧ Acked l msg 0x04 0 s t := by
  let u := ((s.heard l).stageContainer l msg).wr Reg.HG_LATCH_PENDING 1 l.n (mfield msg 7 1 % 128)
  have hu : (s.heard l).containerAct l msg = (.answered St.ok, u) :=
    State.containerAct_stages hid (State.heard_effOk.trans heff) (by simpa only [State.heard_ctnAt] using hfree)
  have htake := State.heard_takes.trans ht
  have hown : u.hasTn l = true := by
    rw [State.hasTn_congr (State.rd_wr_row rfl)]
    exact (State.upd_isOn.trans State.heard_hasTn).trans htn
  rw [exec_container hm, State.container_taken (by rwa [State.fwPresent, State.heard_isOn])]
  refine ⟨_, rfl, (State.onMsg_answered_rd htake hu).trans (State.rd_wr_same (Nat.mod_lt _ (by decide))), State.onMsg_acked ht hu hown ?_⟩
  rw [State.wr_leg, State.stageContainer, State.upd_leg_same, State.heard_leg]

/-! ### DEACTIVATE -/

/-- An activation state that is entered stands. -/
theorem State.setAct_state (hv : v < 8) : (s.setAct l v).rd Reg.ACT_STATUS_STATE l.n = v := by
  unfold State.setAct
  by_cases hold : s.rd Reg.ACT_STATUS_STATE l.n = v
  · rw [if_pos hold, hold]
  · rw [if_neg hold]
    extract_lets s₁ s₂
    have entered : s₂.rd Reg.ACT_STATUS_STATE l.n = v := by
      rw [(State.event_foot ..).rd_leg rfl, State.rd_wr_row rfl, State.rd_wr_row rfl, State.rd_wr_same (by decide)]
      exact Nat.mod_eq_of_lt hv
    split
    · rw [State.declareLeg]
      split
      · rwa [State.rd_upd]
      · rw [(State.event_foot ..).rd_leg rfl, State.setBit]
        split
        · rwa [State.rd_wr_row rfl, State.rd_upd]
        · rwa [State.rd_wr_row rfl, State.rd_wr_row rfl, State.rd_upd]
    · exact entered

/-- The number is dropped in activation and in the headgate. -/
theorem State.dropNumber_noTn : (s.dropNumber l).rd Reg.ACT_STATUS_TN_VALID l.n = 0 ∧ (s.dropNumber l).rd Reg.HG_STATUS_TN_VALID l.n = 0 := by
  unfold State.dropNumber
  extract_lets s₁ s₂ s₃ s₄ s₅ s₆
  have slots : ∀ R : Row, otherRow R Reg.HG_LATCH_ALLOC_ID = true → otherRow R Reg.HG_LATCH_VALID = true →
      otherRow R Reg.HG_LATCH_PENDING = true → s₃.rd R l.n = s₂.rd R l.n := fun R h₁ h₂ h₃ =>
    State.rd_foldl fun x c => by rw [State.rd_wr_row h₃, State.rd_wr_row h₂, State.rd_wr_row h₁]
  constructor
  · rw [State.rd_upd, State.rd_wr_row rfl, State.rd_wr_row rfl, State.rd_wr_row rfl, State.rd_wr_row rfl, State.rd_wr_row rfl,
      State.rd_wr_row rfl, State.rd_wr_row rfl, State.rd_wr_row rfl, slots _ rfl rfl rfl, State.rd_wr_row rfl, State.rd_wr_row rfl,
      State.rd_wr_row rfl, State.rd_wr_same (by decide)]
    rfl
  · rw [State.rd_upd, State.rd_wr_row rfl, State.rd_wr_row rfl, State.rd_wr_row rfl, State.rd_wr_row rfl, State.rd_wr_row rfl,
      State.rd_wr_row rfl, State.rd_wr_row rfl, State.rd_wr_row rfl, slots _ rfl rfl rfl, State.rd_wr_row rfl,
      State.rd_wr_same (by decide)]
    rfl

/-- A leg that departs is DISABLED or LISTENING. -/
theorem State.depart_state (hv : v ≤ 1) : (s.depart l v).rd Reg.ACT_STATUS_STATE l.n = v := by
  have entered := ((s.cutWindows l).dropNumber l).setAct_state (l := l) (v := v) (by omega)
  have settled : Settles (((s.cutWindows l).dropNumber l).setAct l v) (s.depart l v) := .step .settleDef .settleLanes
  exact (settled.act l (by omega)).trans entered

/-- A leg that departs has no number. -/
theorem State.depart_noTn : (s.depart l v).rd Reg.ACT_STATUS_TN_VALID l.n = 0 ∧ (s.depart l v).rd Reg.HG_STATUS_TN_VALID l.n = 0 := by
  obtain ⟨hact, hhg⟩ := (s.cutWindows l).dropNumber_noTn (l := l)
  unfold State.depart
  constructor
  · rw [(State.settleDef_foot ..).rd_leg rfl, (State.settleLanes_foot ..).rd_leg rfl, (State.setAct_foot ..).rd_leg rfl, hact]
  · rw [(State.settleDef_foot ..).rd_leg rfl, (State.settleLanes_foot ..).rd_leg rfl, (State.setAct_foot ..).rd_leg rfl, hhg]

theorem exec_deactivate (h : Hears s l) : exec (.deactivate l msg) s =
    .next ((s.heard l).onMsg l 0x05 msg false 0 fun s => (.silent, s.deactivate l)) := congrArg Host.Outcome.next (State.inFrame_of_hears h _)

theorem State.deactivate_enabled (h : s.rd Reg.ACT_STATUS_STATE l.n ≠ 0) :
    s.deactivate l = (s.inc Reg.ACT_CNT_DEACTIVATIONS l.n).depart l 1 := if_neg h

theorem deactivate_departs (hm : Hears s l) (ht : s.takes l 0x05 msg false 0 = true) (hst : s.rd Reg.ACT_STATUS_STATE l.n ≠ 0) :
    ∃ t, exec (.deactivate l msg) s = .next t ∧ Counted Reg.ACT_CNT_DEACTIVATIONS l.n 0 1 s t ∧ t.rd Reg.ACT_STATUS_STATE l.n = 1 ∧
    t.rd Reg.ACT_STATUS_TN_VALID l.n = 0 ∧ t.rd Reg.HG_STATUS_TN_VALID l.n = 0 := by
  have htake := State.heard_takes.trans ht
  have hact : (Took.silent, (s.heard l).deactivate l) = (Took.silent, ((s.heard l).inc Reg.ACT_CNT_DEACTIVATIONS l.n).depart l 1) := by
    rw [State.deactivate_enabled (by rwa [State.heard_rd])]
  have hcount : Counted Reg.ACT_CNT_DEACTIVATIONS l.n 0 1 s (((s.heard l).inc Reg.ACT_CNT_DEACTIVATIONS l.n).depart l 1) :=
    (State.depart_foot ..).counted_after rfl (counted_of_rd_before State.heard_rd (counted_inc_at (by decide)))
  exact ⟨_, exec_deactivate hm, counted_of_rd_after (State.onMsg_silent_rd htake hact) hcount,
    (State.onMsg_silent_rd htake hact).trans (State.depart_state le_rfl), (State.onMsg_silent_rd htake hact).trans State.depart_noTn.1,
    (State.onMsg_silent_rd htake hact).trans State.depart_noTn.2⟩

/-! ### KEEP_RANGED -/

theorem State.keepRanged_sets (h₁ : 1 ≤ mfield msg 6 2) (h₂ : mfield msg 6 2 ≤ 1024) :
    s.keepRanged l msg = (.answered St.ok, s.wr Reg.ACT_KR_CTL_INTERVAL_SF (mfield msg 6 2) l.n) := by
  have hn : mfield msg 6 2 ≠ 0 := by omega
  simp [State.keepRanged, hn, Nat.not_lt.2 h₂]

theorem State.keepRanged_invalid (htn : s.hasTn l = true) (h : mfield msg 6 2 = 0 ∨ 1024 < mfield msg 6 2) :
    s.keepRanged l msg = (.answered St.invalid, s) := by
  unfold State.keepRanged
  rw [if_pos (by simpa using h), State.fieldBad, if_pos (by simp [htn])]

theorem keepRanged_interval (hm : Hears s l) (ht : s.takes l 0x09 msg false 0 = true) (htn : s.hasTn l = true) (h₁ : 1 ≤ mfield msg 6 2)
    (h₂ : mfield msg 6 2 ≤ 1024) : ∃ t, exec (.keepRanged l msg) s = .next t ∧ t.rd Reg.ACT_KR_CTL_INTERVAL_SF l.n = mfield msg 6 2 ∧
    Acked l msg 0x09 0 s t := by
  have hact := (s.heard l).keepRanged_sets (l := l) h₁ h₂
  have hown : ((s.heard l).wr Reg.ACT_KR_CTL_INTERVAL_SF (mfield msg 6 2) l.n).hasTn l = true :=
    (State.hasTn_congr (State.rd_wr_row rfl)).trans (State.heard_hasTn.trans htn)
  refine ⟨_, exec_keepRanged hm, (State.onMsg_answered_rd (State.heard_takes.trans ht) hact).trans ?_, State.onMsg_acked ht hact hown ?_⟩
  · rw [State.rd_wr_same (by decide)]
    exact Nat.mod_eq_of_lt (lt_of_le_of_lt h₂ (by decide))
  · rw [State.wr_leg, State.heard_leg]

theorem keepRanged_refused (hm : Hears s l) (ht : s.takes l 0x09 msg false 0 = true) (htn : s.hasTn l = true)
    (h : mfield msg 6 2 = 0 ∨ 1024 < mfield msg 6 2) : ∃ t, exec (.keepRanged l msg) s = .next t ∧
    t.rd Reg.ACT_KR_CTL_INTERVAL_SF l.n = s.rd Reg.ACT_KR_CTL_INTERVAL_SF l.n ∧ Acked l msg 0x09 2 s t := by
  have hact := (s.heard l).keepRanged_invalid (msg := msg) (State.heard_hasTn.trans htn) h
  exact ⟨_, exec_keepRanged hm, (State.onMsg_answered_rd (State.heard_takes.trans ht) hact).trans State.heard_rd,
    State.onMsg_acked ht hact (State.heard_hasTn.trans htn) (by rw [State.heard_leg])⟩

end

/-- Settles O8, one message at a time. -/
theorem activationMessagesTakeEffect : Obligations.ActivationMessagesTakeEffect := by
  unfold Obligations.ActivationMessagesTakeEffect
  exact ⟨fun _ _ _ => burstProfile_staged, fun _ _ _ => assignTn_latched, fun _ _ _ => eqdSet_pends, fun _ _ _ => eqdSet_refused,
    fun _ _ _ => container_pends, fun _ _ _ => deactivate_departs, fun _ _ _ => keepRanged_interval, fun _ _ _ => keepRanged_refused⟩

end Sys2Proof.Machine

/-! SUPPORT. Staged profiles, containers and EQD_SETs take effect at their superframe, activation's timers expire, and ACT_CTL.ENABLE is
written (02_line_format.md, R66; 03_activation_and_headgate.md). -/

namespace Sys2Proof.Machine

section
variable {s t : State} {l : Leg} {R : Row} {v k i n : Nat}

/-! ### Staged profiles -/

/-- The fields of a profile in the receiver's table. -/
def State.setProfile (s : State) (l : Leg) (p : Nat) (v : Prof) : State :=
  ((((((s.wr Reg.LINE_PROF_WAVES v.waves l.n p).wr Reg.LINE_PROF_PRE_GRAINS v.preGrains l.n p).wr Reg.LINE_PROF_PRE_PAT v.prePat l.n p).wr
    Reg.LINE_PROF_DLM_GRAINS v.dlmGrains l.n p).wr2 Reg.LINE_PROF_DLM_LO Reg.LINE_PROF_DLM_HI v.dlmWord l.n p).wr Reg.LINE_PROF_VALID
    (b2n v.valid) l.n p)

theorem State.setProfile_fields {p : Nat} {v : Prof} (hp : p < 4) :
    (s.setProfile l p v).rd Reg.LINE_PROF_PRE_GRAINS l.n p = v.preGrains % 2 ^ Reg.LINE_PROF_PRE_GRAINS.width ∧
    (s.setProfile l p v).rd Reg.LINE_PROF_WAVES l.n p = v.waves % 2 ^ Reg.LINE_PROF_WAVES.width ∧
    (s.setProfile l p v).rd Reg.LINE_PROF_PRE_PAT l.n p = v.prePat % 2 ^ Reg.LINE_PROF_PRE_PAT.width ∧
    (s.setProfile l p v).rd Reg.LINE_PROF_DLM_GRAINS l.n p = v.dlmGrains % 2 ^ Reg.LINE_PROF_DLM_GRAINS.width := by
  unfold State.setProfile State.wr2
  refine ⟨?_, ?_, ?_, ?_⟩
  · rw [State.rd_wr_row rfl, State.rd_wr_row rfl, State.rd_wr_row rfl, State.rd_wr_row rfl, State.rd_wr_row rfl, State.rd_wr_same hp]
  · rw [State.rd_wr_row rfl, State.rd_wr_row rfl, State.rd_wr_row rfl, State.rd_wr_row rfl, State.rd_wr_row rfl, State.rd_wr_row rfl,
      State.rd_wr_same hp]
  · rw [State.rd_wr_row rfl, State.rd_wr_row rfl, State.rd_wr_row rfl, State.rd_wr_row rfl, State.rd_wr_same hp]
  · rw [State.rd_wr_row rfl, State.rd_wr_row rfl, State.rd_wr_row rfl, State.rd_wr_same hp]

/-- The delimiter word is held in two halves. -/
theorem State.setProfile_dlmWord {p : Nat} {v : Prof} (hp : p < 4) :
    (s.setProfile l p v).rd2 Reg.LINE_PROF_DLM_LO Reg.LINE_PROF_DLM_HI l.n p = v.dlmWord % 2 ^ 64 := by
  have lo : (s.setProfile l p v).rd Reg.LINE_PROF_DLM_LO l.n p = v.dlmWord % 2 ^ 32 := by
    unfold State.setProfile State.wr2
    rw [State.rd_wr_row rfl, State.rd_wr_row rfl, State.rd_wr_same hp]
    rfl
  have hi : (s.setProfile l p v).rd Reg.LINE_PROF_DLM_HI l.n p = v.dlmWord / 2 ^ 32 % 2 ^ 32 := by
    unfold State.setProfile State.wr2
    rw [State.rd_wr_row rfl, State.rd_wr_same hp]
    rfl
  rw [State.rd2, lo, hi]
  exact (Nat.mod_mul (x := v.dlmWord) (a := 2 ^ 32) (b := 2 ^ 32)).symm

theorem b2n_mod_two (b : Bool) : b2n b % 2 = b2n b := by cases b <;> rfl

theorem State.setProfile_valid {p : Nat} {v : Prof} (hp : p < 4) : (s.setProfile l p v).rd Reg.LINE_PROF_VALID l.n p = b2n v.valid :=
  (State.rd_wr_same hp).trans (b2n_mod_two _)

theorem profileEffective_inForce {p : Nat} {v : Prof} (hp : p < 4) (hv : s.profAt l p (s.cur l) = v) :
    ∃ t, exec (.profileEffective l p) s = .next t ∧
    t.rd Reg.LINE_PROF_PRE_GRAINS l.n p = v.preGrains % 2 ^ Reg.LINE_PROF_PRE_GRAINS.width ∧
    t.rd Reg.LINE_PROF_WAVES l.n p = v.waves % 2 ^ Reg.LINE_PROF_WAVES.width ∧
    t.rd Reg.LINE_PROF_PRE_PAT l.n p = v.prePat % 2 ^ Reg.LINE_PROF_PRE_PAT.width ∧
    t.rd Reg.LINE_PROF_DLM_GRAINS l.n p = v.dlmGrains % 2 ^ Reg.LINE_PROF_DLM_GRAINS.width ∧
    t.rd2 Reg.LINE_PROF_DLM_LO Reg.LINE_PROF_DLM_HI l.n p = v.dlmWord % 2 ^ 64 ∧
    t.rd Reg.LINE_PROF_VALID l.n p = b2n v.valid ∧ (t.leg l).hgProf.get p = s.hgProfAt l p (s.cur l) := by
  subst hv
  obtain ⟨hpre, hwaves, hpat, hgrains⟩ := s.setProfile_fields (l := l) (v := s.profAt l p (s.cur l)) hp
  have hex : exec (.profileEffective l p) s = .next ((s.setProfile l p (s.profAt l p (s.cur l))).upd l fun g => { g with
      hgProf := g.hgProf.upd p (fun _ => s.hgProfAt l p (s.cur l)), profPend := g.profPend.upd p (fun q => q.filter fun x => s.cur l < x.eff),
      hgProfPend := g.hgProfPend.upd p (fun q => q.filter fun x => s.cur l < x.eff) }) :=
    congrArg Host.Outcome.next (if_neg (Nat.not_le.2 hp))
  refine ⟨_, hex, ?_, ?_, ?_, ?_, ?_, ?_, ?_⟩
  · rw [State.rd_upd, hpre]
  · rw [State.rd_upd, hwaves]
  · rw [State.rd_upd, hpat]
  · rw [State.rd_upd, hgrains]
  · rw [State.rd2, State.rd_upd, State.rd_upd]
    exact State.setProfile_dlmWord hp
  · rw [State.rd_upd, State.setProfile_valid hp]
  · rw [State.upd_leg_same]
    exact Four.get_upd_same hp

/-! ### Staged containers -/

/-- Appending a pending item whose superframe is later than all the others'. -/
theorem addPend_of_later {α : Type} {p : Pend α} {q : List (Pend α)} (h : ∀ x ∈ q, x.eff < p.eff) : addPend p q = q ++ [p] := by
  induction q with
  | nil => rfl
  | cons x r ih =>
    have hx := h x List.mem_cons_self
    rw [addPend, if_neg hx.ne, if_neg hx.asymm, ih fun y hy => h y (List.mem_cons_of_mem x hy)]
    rfl

/-- Items in order are added in order. -/
theorem foldl_addPend {α : Type} {q acc : List (Pend α)} (h : (acc ++ q).Pairwise fun x y => x.eff < y.eff) :
    q.foldl (fun acc p => addPend p acc) acc = acc ++ q := by
  induction q generalizing acc with
  | nil => exact (List.append_nil acc).symm
  | cons p r ih =>
    have hp := (List.pairwise_append.1 h).2.2
    rw [List.foldl_cons, addPend_of_later fun x hx => hp x hx p List.mem_cons_self, ih (by simpa using h), List.append_assoc]
    rfl

/-- Of items in order, those that a superframe has reached put the same in force from then on. -/
theorem inForce_filter {α : Type} {sfc later : Nat} {cur : α} {q : List (Pend α)} (hle : sfc ≤ later)
    (h : q.Pairwise fun x y => x.eff < y.eff) : inForce later cur (q.filter fun x => x.eff ≤ sfc) = inForce sfc cur q := by
  induction q generalizing cur with
  | nil => rfl
  | cons x r ih =>
    obtain ⟨hx, hr⟩ := List.pairwise_cons.1 h
    by_cases he : x.eff ≤ sfc
    · rw [List.filter_cons_of_pos (by simpa using he), inForce, inForce, if_pos (he.trans hle), if_pos he, ih hr]
    · have none : r.filter (fun y => decide (y.eff ≤ sfc)) = [] :=
        List.filter_eq_nil_iff.2 fun y hy => by simpa using (Nat.lt_of_not_le he).trans (hx y hy)
      rw [List.filter_cons_of_neg (by simpa using he), none, inForce, inForce, if_neg he]

/-- The changes of a slot that have come are taken over for the upstream frames from now on (R81). -/
def State.dueContainers (s : State) (l : Leg) (slot : Nat) : State :=
  let sfc := (s.d0Key l + 2) / 8
  s.upd l fun g => { g with
    ctnDue := Tab.put [] slot (((Tab.get [] slot (s.leg l).ctnPend).filter fun x => x.eff ≤ sfc).foldl (fun q p => addPend p q) (Tab.get [] slot g.ctnDue)) g.ctnDue,
    hgDue := Tab.put [] slot (((Tab.get [] slot (s.leg l).hgPend).filter fun x => x.eff ≤ sfc).foldl (fun q p => addPend p q) (Tab.get [] slot g.hgDue)) g.hgDue,
    ctnPend := Tab.put [] slot ((Tab.get [] slot g.ctnPend).filter fun x => sfc < x.eff) g.ctnPend,
    hgPend := Tab.put [] slot ((Tab.get [] slot g.hgPend).filter fun x => sfc < x.eff) g.hgPend }

/-- The command latches what is due; a fall-back that it starts touches neither leg nor the headgate. -/
theorem exec_containerEffective {slot : Nat} (hslot : slot < 128) : ∃ t, exec (.containerEffective l slot) s = .next t ∧
    Foot fp25 ((s.dueContainers l slot).latchSlot l slot (s.leg l).upSfc) t := by
  have hex : exec (.containerEffective l slot) s = .next (s.containerEffective l slot) := rfl
  have hup : ((s.dueContainers l slot).leg l).upSfc = (s.leg l).upSfc := by rw [State.dueContainers, State.upd_leg_same]
  refine ⟨_, hex, ?_⟩
  rw [State.containerEffective, if_neg (Nat.not_le.2 hslot), ← hup]
  exact Foot.ite (State.fallback_foot ..) .refl

theorem State.latchSlot_pends {slot sfc : Nat} : ((s.latchSlot l slot sfc).leg l).ctnPend = (s.leg l).ctnPend ∧
    ((s.latchSlot l slot sfc).leg l).hgPend = (s.leg l).hgPend := by
  simp only [State.latchSlot, State.wr_leg, State.upd_leg_same, and_self]

theorem containerEffective_leaves {slot sfc : Nat} (hslot : slot < 128) (hsfc : (s.d0Key l + 2) / 8 = sfc) :
    ∃ t, exec (.containerEffective l slot) s = .next t ∧
    Tab.get [] slot (t.leg l).ctnPend = (Tab.get [] slot (s.leg l).ctnPend).filter (fun x => sfc < x.eff) ∧
    Tab.get [] slot (t.leg l).hgPend = (Tab.get [] slot (s.leg l).hgPend).filter (fun x => sfc < x.eff) := by
  subst hsfc
  obtain ⟨t, hex, hfoot⟩ := exec_containerEffective (s := s) (l := l) hslot
  obtain ⟨hctn, hhg⟩ := (s.dueContainers l slot).latchSlot_pends (l := l) (slot := slot) (sfc := (s.leg l).upSfc)
  refine ⟨t, hex, ?_, ?_⟩
  · rw [hfoot.leg_keeps rfl, hctn, State.dueContainers, State.upd_leg_same, Tab.get_put_self]
  · rw [hfoot.leg_keeps rfl, hhg, State.dueContainers, State.upd_leg_same, Tab.get_put_self]

/-- A latch shows what is in force. -/
theorem State.latchSlot_shows {slot sfc id : Nat} (hslot : slot < 128) (hid : id < 2 ^ 14)
    (h : inForce sfc (s.hgNow l slot) (Tab.get [] slot (s.leg l).hgDue) = id + 1) :
    (s.latchSlot l slot sfc).rd Reg.HG_LATCH_ALLOC_ID l.n slot = id ∧ (s.latchSlot l slot sfc).rd Reg.HG_LATCH_VALID l.n slot = 1 := by
  unfold State.latchSlot
  rw [h]
  constructor
  · rw [State.rd_wr_row rfl, State.rd_wr_row rfl, State.rd_wr_same hslot]
    exact Nat.mod_eq_of_lt hid
  · rw [State.rd_wr_row rfl, State.rd_wr_same hslot]
    rfl

theorem State.dueContainers_hgNow {slot c : Nat} : (s.dueContainers l slot).hgNow l c = s.hgNow l c := by
  simp only [State.hgNow, State.dueContainers, State.upd_isOn, State.rd_upd]

theorem containerEffective_latches {slot id sfc : Nat} (hslot : slot < 128) (hsfc : (s.d0Key l + 2) / 8 = sfc) (hup : sfc ≤ (s.leg l).upSfc)
    (hdue : Tab.get [] slot (s.leg l).hgDue = []) (hord : (Tab.get [] slot (s.leg l).hgPend).Pairwise (fun x y => x.eff < y.eff))
    (hat : s.hgAt l slot sfc = id + 1) (hid : id < 2 ^ 14) : ∃ t, exec (.containerEffective l slot) s = .next t ∧
    t.rd Reg.HG_LATCH_ALLOC_ID l.n slot = id ∧ t.rd Reg.HG_LATCH_VALID l.n slot = 1 := by
  subst hsfc
  obtain ⟨t, hex, hfoot⟩ := exec_containerEffective (s := s) (l := l) hslot
  have due : Tab.get [] slot ((s.dueContainers l slot).leg l).hgDue =
      (Tab.get [] slot (s.leg l).hgPend).filter fun x => x.eff ≤ (s.d0Key l + 2) / 8 := by
    rw [State.dueContainers, State.upd_leg_same, Tab.get_put_self, hdue, foldl_addPend (acc := []) (hord.filter _), List.nil_append]
  have force : inForce (s.leg l).upSfc ((s.dueContainers l slot).hgNow l slot) (Tab.get [] slot ((s.dueContainers l slot).leg l).hgDue) =
      id + 1 := by
    rw [due, inForce_filter hup hord, State.dueContainers_hgNow, ← hat, State.hgAt, hdue, inForce]
  obtain ⟨hlatch, hvalid⟩ := State.latchSlot_shows (l := l) hslot hid force
  exact ⟨t, hex, (hfoot.rd_leg rfl).trans hlatch, (hfoot.rd_leg rfl).trans hvalid⟩

/-! ### EQD_APPLY -/

/-- The first pending EQD_SET is the EqD now; what follows for the activation state and the time is still to come. -/
def State.eqdInForce (s : State) (l : Leg) (p : EqdPend) (r : List EqdPend) : State :=
  let v := s.rd Reg.ACT_EQD_NEXT l.n
  let old := s.rd Reg.ACT_EQD_EQD_FINE l.n + 64 * s.rd Reg.ACT_EQD_EQD_GRAINS l.n
  let s := ((s.wr Reg.ACT_EQD_EQD_FINE (v % 64) l.n).wr Reg.ACT_EQD_EQD_GRAINS (v / 64) l.n).wr Reg.TIME_LEG_STATUS_RWAVE p.rwave l.n
  let s := (s.upd l fun g => { g with eqdPend := r, eqdOld := g.eqdOld ++ [(p.eff, old)] }).showEqd l
  (s.inc Reg.ACT_CNT_EQD_APPLIED l.n).event (Ev.act l 3)

theorem State.eqdInForce_rd {p : EqdPend} {r : List EqdPend} :
    (s.eqdInForce l p r).rd Reg.ACT_EQD_EQD_FINE l.n = s.rd Reg.ACT_EQD_NEXT l.n % 64 ∧
    (s.eqdInForce l p r).rd Reg.ACT_EQD_EQD_GRAINS l.n = s.rd Reg.ACT_EQD_NEXT l.n / 64 % 2 ^ Reg.ACT_EQD_EQD_GRAINS.width ∧
    Counted Reg.ACT_CNT_EQD_APPLIED l.n 0 1 s (s.eqdInForce l p r) := by
  unfold State.eqdInForce
  refine ⟨?_, ?_, ?_⟩
  · rw [(State.event_foot ..).rd_leg rfl, State.rd_inc_row rfl, (State.showEqd_foot ..).rd_leg rfl, State.rd_upd, State.rd_wr_row rfl,
      State.rd_wr_row rfl, State.rd_wr_same (by decide)]
    exact Nat.mod_mod ..
  · rw [(State.event_foot ..).rd_leg rfl, State.rd_inc_row rfl, (State.showEqd_foot ..).rd_leg rfl, State.rd_upd, State.rd_wr_row rfl,
      State.rd_wr_same (by decide)]
  · refine (State.event_foot ..).counted_after rfl (counted_of_rd_before ?_ (counted_inc_at (by decide)))
    rw [(State.showEqd_foot ..).rd_leg rfl, State.rd_upd, State.rd_wr_row rfl, State.rd_wr_row rfl, State.rd_wr_row rfl]

theorem State.eqdInForce_eqdPend {p : EqdPend} {r : List EqdPend} : ((s.eqdInForce l p r).leg l).eqdPend = r := by
  simp only [State.eqdInForce, State.event_leg, State.inc_leg, State.showEqd_leg, State.upd_leg_same]

/-- Ranging ends, or the time follows the new EqD: neither changes the EqD or its count. -/
theorem exec_eqdApply {p : EqdPend} {r : List EqdPend} (hp : (s.leg l).eqdPend = p :: r) (hdue : p.eff ≤ s.cur l) :
    ∃ t, exec (.eqdApply l) s = .next t ∧ Foot fp319 (s.eqdInForce l p r) t ∧ Settles (s.eqdInForce l p r) t := by
  have hex : exec (.eqdApply l) s = .next (s.eqdApply l) := rfl
  have heq : s.eqdApply l = if (s.eqdInForce l p r).rd Reg.ACT_STATUS_STATE l.n = 4 && !p.relative then
      ((((s.eqdInForce l p r).setAct l 5).event (Ev.act l 2)).settleLanes l).settleDef l else (s.eqdInForce l p r).settleTime := by
    unfold State.eqdApply
    rw [hp]
    exact if_neg (Nat.not_lt.2 hdue)
  refine ⟨_, hex, ?_⟩
  rw [heq]
  split
  next h =>
    simp only [Bool.and_eq_true, decide_eq_true_eq] at h
    exact ⟨.step (State.settleDef_foot ..) rfl (.step (State.settleLanes_foot ..) rfl (.step (State.event_foot ..) rfl
      (.step (State.setAct_foot ..) rfl .refl))), .step .settleDef (.step .settleLanes (.step .event (.setAct (Or.inr (by omega)))))⟩
  next => exact ⟨.step (State.settleTime_foot _) rfl .refl, .settleTime⟩

theorem eqdApply_applies {p : EqdPend} {r : List EqdPend} (hp : (s.leg l).eqdPend = p :: r) (hdue : p.eff ≤ s.cur l) :
    ∃ t, exec (.eqdApply l) s = .next t ∧ t.rd Reg.ACT_EQD_EQD_FINE l.n = s.rd Reg.ACT_EQD_NEXT l.n % 64 ∧
    t.rd Reg.ACT_EQD_EQD_GRAINS l.n = s.rd Reg.ACT_EQD_NEXT l.n / 64 % 2 ^ Reg.ACT_EQD_EQD_GRAINS.width ∧
    Counted Reg.ACT_CNT_EQD_APPLIED l.n 0 1 s t ∧ (t.leg l).eqdPend = r := by
  obtain ⟨t, hex, hfoot, hkept⟩ := exec_eqdApply hp hdue
  obtain ⟨hfine, hgrains, hcount⟩ := s.eqdInForce_rd (l := l) (p := p) (r := r)
  exact ⟨t, hex, (hfoot.rd_leg rfl).trans hfine, (hfoot.rd_leg rfl).trans hgrains, hfoot.counted_after rfl hcount,
    (congrArg Prod.fst (hkept.held l)).trans State.eqdInForce_eqdPend⟩

/-! ### Timers -/

theorem drawBelow_lt {n : Nat} (h : 0 < n) : drawBelow i n < n := by
  rw [drawBelow, max_eq_left h]
  exact Nat.mod_lt _ h

theorem registrationTimeout_collides (hst : s.rd Reg.ACT_STATUS_STATE l.n = 2) (hsched : (s.leg l).scheduled = false) :
    ∃ t, exec (.registrationTimeout l) s = .next t ∧ t.rd Reg.ACT_STATUS_STATE l.n = 3 ∧ Counted Reg.ACT_CNT_REG_COLLISIONS l.n 0 1 s t ∧
    t.rd Reg.ACT_ATTEMPT_SKIP_LEFT l.n = drawBelow s.freeIdx (2 ^ min 8 (s.rd Reg.ACT_ATTEMPT_ATTEMPTS l.n)) := by
  have hex : exec (.registrationTimeout l) s = .next (s.registrationTimeout l) := rfl
  have hskip : drawBelow s.freeIdx (2 ^ min 8 (s.rd Reg.ACT_ATTEMPT_ATTEMPTS l.n)) < 2 ^ 8 :=
    (drawBelow_lt (Nat.two_pow_pos _)).trans_le (Nat.pow_le_pow_right (by decide) (min_le_left ..))
  refine ⟨_, hex, ?_⟩
  unfold State.registrationTimeout
  rw [if_neg (by simp [hst, hsched])]
  refine ⟨State.setAct_state (by decide), ?_, ?_⟩
  · refine (State.setAct_foot ..).counted_after rfl ((State.event_foot ..).counted_after rfl (counted_of_rd_before ?_ (counted_inc_at (by decide))))
    exact State.rd_wr_row rfl
  · rw [(State.setAct_foot ..).rd_leg rfl, (State.event_foot ..).rd_leg rfl, State.rd_inc_row rfl, State.rd_wr_same (by decide)]
    exact Nat.mod_eq_of_lt hskip

theorem rangingTimeout_drops (hst : s.rd Reg.ACT_STATUS_STATE l.n = 4) : ∃ t, exec (.rangingTimeout l) s = .next t ∧
    t.rd Reg.ACT_STATUS_STATE l.n = 1 ∧ t.rd Reg.ACT_STATUS_TN_VALID l.n = 0 ∧ t.rd Reg.HG_STATUS_TN_VALID l.n = 0 := by
  have hex : exec (.rangingTimeout l) s = .next (s.rangingTimeout l) := rfl
  obtain ⟨hact, hhg⟩ := s.dropNumber_noTn (l := l)
  refine ⟨_, hex, ?_⟩
  unfold State.rangingTimeout
  rw [if_neg (by simp [hst])]
  have listening : (((s.dropNumber l).setAct l 1).event (Ev.act l 7)).rd Reg.ACT_STATUS_STATE l.n = 1 :=
    ((State.event_foot ..).rd_leg rfl).trans (State.setAct_state (by decide))
  refine ⟨(Settles.settleDef.act l listening.le).trans listening, ?_, ?_⟩
  · rw [(State.settleDef_foot ..).rd_leg rfl, (State.event_foot ..).rd_leg rfl, (State.setAct_foot ..).rd_leg rfl, hact]
  · rw [(State.settleDef_foot ..).rd_leg rfl, (State.event_foot ..).rd_leg rfl, (State.setAct_foot ..).rd_leg rfl, hhg]

/-- RNG_LOSS stands once it is declared. -/
theorem State.declareRngLoss_stands : (s.declareLeg l Reg.PROT_DEF_RNG_LOSS 17 1).isOn Reg.PROT_DEF_RNG_LOSS l.n = true := by
  unfold State.declareLeg
  split
  next h => exact h
  next =>
    have set : (s.wr Reg.PROT_DEF_RNG_LOSS 1 l.n).isOn Reg.PROT_DEF_RNG_LOSS l.n = true := by
      rw [State.isOn, State.rd_wr_same (by decide)]
      rfl
    exact (Settles.step .event (.setBit (i := 17) rfl rfl)).rngLoss l set

theorem rangeMiss_declares (htn : s.hasTn l = true) (hmiss : (s.leg l).rangeMissed = false) : ∃ t, exec (.rangeMiss l) s = .next t ∧
    Counted Reg.ACT_CNT_RANGE_MISSES l.n 0 1 s t ∧ t.isOn Reg.PROT_DEF_RNG_LOSS l.n = true ∧ (t.leg l).rangeMissed = true := by
  have hex : exec (.rangeMiss l) s = .next (s.rangeMiss l) := rfl
  refine ⟨_, hex, ?_⟩
  unfold State.rangeMiss
  rw [if_neg (by simp [htn, hmiss])]
  extract_lets missed
  have hcount : Counted Reg.ACT_CNT_RANGE_MISSES l.n 0 1 s missed :=
    (State.event_foot ..).counted_after rfl (counted_of_rd_before (State.rd_upd ..) (counted_inc_at (by decide)))
  have hheld : (missed.leg l).rangeMissed = true := by
    rw [State.event_leg, State.inc_leg, State.upd_leg_same]
  have hdeclare : Foot fp319 missed (missed.declareLeg l Reg.PROT_DEF_RNG_LOSS 17 1) := State.declareLeg_foot rfl rfl .refl
  refine ⟨(State.settleDef_foot ..).counted_after rfl (hdeclare.counted_after rfl hcount),
    Settles.settleDef.rngLoss l State.declareRngLoss_stands, ?_⟩
  exact (congrArg Prod.snd ((Settles.step .settleDef .declareRngLoss).held l)).trans hheld

theorem rangeMiss_once (hmiss : (s.leg l).rangeMissed = true) : exec (.rangeMiss l) s = .next s :=
  congrArg Host.Outcome.next (if_pos (by simp [hmiss]))

theorem wakeAttemptTimeout_skips (hreq : s.pwr.wakeReq.isSome = true) (hkept : s.kept = l) (hsent : (s.leg l).wakeSent = true) :
    ∃ t, exec (.wakeAttemptTimeout l) s = .next t ∧ (t.leg l).wakeN = (s.leg l).wakeN + 1 ∧
    (t.leg l).wakeSkip = drawBelow s.freeIdx (2 ^ min 8 ((s.leg l).wakeN + 1)) ∧ (t.leg l).wakeSent = false := by
  have hex : exec (.wakeAttemptTimeout l) s = .next (s.wakeTimeout l) := rfl
  have hnone : s.pwr.wakeReq.isNone = false := by simpa using hreq
  refine ⟨_, hex, ?_⟩
  unfold State.wakeTimeout
  rw [if_neg (by simp [hnone, hkept, hsent])]
  simp only [State.upd_leg_same, and_self]

/-! ### ACT_CTL -/

theorem exec_actCtlWrite {ag : Agent} {v : BitVec 32} (h : s.reach ag = true) :
    exec (.actCtlWrite ag l v) s = .next (s.actCtl l v.toNat) := congrArg Host.Outcome.next (if_pos h)

theorem State.actCtl_enables (hv : v % 2 = 1) (hst : s.rd Reg.ACT_STATUS_STATE l.n = 0) (hfail : (s.leg l).failed = false) :
    s.actCtl l v = ((((((s.wr Reg.ACT_CTL_ENABLE 1 l.n).wr Reg.ACT_ATTEMPT_ATTEMPTS 0 l.n).wr Reg.ACT_ATTEMPT_SKIP_LEFT 0 l.n).setAct l
      1).pmAcquire l).settleLanes l).settleDef l := by
  unfold State.actCtl
  rw [if_neg (by simp [hfail]), if_pos hv]
  dsimp only
  rw [if_pos ((State.rd_wr_row rfl).trans hst)]

theorem actCtlWrite_enables {ag : Agent} {v : BitVec 32} (h : s.reach ag = true) (hv : v.toNat % 2 = 1)
    (hst : s.rd Reg.ACT_STATUS_STATE l.n = 0) (hfail : (s.leg l).failed = false) : ∃ t, exec (.actCtlWrite ag l v) s = .next t ∧
    t.rd Reg.ACT_CTL_ENABLE l.n = 1 ∧ t.rd Reg.ACT_STATUS_STATE l.n = 1 := by
  refine ⟨_, exec_actCtlWrite h, ?_⟩
  rw [State.actCtl_enables hv hst hfail]
  constructor
  · rw [(State.settleDef_foot ..).rd_leg rfl, (State.settleLanes_foot ..).rd_leg rfl, (State.pmAcquire_foot ..).rd_leg rfl,
      (State.setAct_foot ..).rd_leg rfl, State.rd_wr_row rfl, State.rd_wr_row rfl, State.rd_wr_same (by decide)]
    rfl
  · have listening : ((((((s.wr Reg.ACT_CTL_ENABLE 1 l.n).wr Reg.ACT_ATTEMPT_ATTEMPTS 0 l.n).wr Reg.ACT_ATTEMPT_SKIP_LEFT 0 l.n).setAct l
        1).pmAcquire l)).rd Reg.ACT_STATUS_STATE l.n = 1 :=
      ((State.pmAcquire_foot ..).rd_leg rfl).trans (State.setAct_state (by decide))
    exact ((Settles.step .settleDef .settleLanes).act l listening.le).trans listening

theorem actCtlWrite_disables {ag : Agent} {v : BitVec 32} (h : s.reach ag = true) (hv : v.toNat % 2 = 0)
    (hen : s.isOn Reg.ACT_CTL_ENABLE l.n = true) : ∃ t, exec (.actCtlWrite ag l v) s = .next t ∧ t.rd Reg.ACT_CTL_ENABLE l.n = 0 ∧
    t.rd Reg.ACT_STATUS_STATE l.n = 0 ∧ t.rd Reg.ACT_STATUS_TN_VALID l.n = 0 := by
  have hv' : ¬v.toNat % 2 = 1 := by omega
  have heq : s.actCtl l v.toNat = (s.wr Reg.ACT_CTL_ENABLE 0 l.n).depart l 0 := by
    unfold State.actCtl
    rw [if_neg (by simp [hv']), if_neg hv', if_pos hen]
  refine ⟨_, exec_actCtlWrite h, ?_⟩
  rw [heq]
  refine ⟨?_, State.depart_state (by decide), State.depart_noTn.1⟩
  rw [(State.depart_foot ..).rd_leg rfl, State.rd_wr_same (by decide)]
  rfl

end

/-- Settles O10: each item takes effect, or expires, as its own lemma says; what follows for defects, lanes and protection keeps the state
of activation that the command enters (`Settles`). -/
theorem stagedItemsTakeEffectAndTimersExpire : Obligations.StagedItemsTakeEffectAndTimersExpire := by
  unfold Obligations.StagedItemsTakeEffectAndTimersExpire
  exact ⟨fun _ _ _ _ => profileEffective_inForce, fun _ _ _ _ => containerEffective_leaves, fun _ _ _ _ _ => containerEffective_latches,
    fun _ _ _ _ => eqdApply_applies, fun _ _ => registrationTimeout_collides, fun _ _ => rangingTimeout_drops,
    fun _ _ => rangeMiss_declares, fun _ _ => rangeMiss_once, fun _ _ => wakeAttemptTimeout_skips, fun _ _ _ _ => actCtlWrite_enables,
    fun _ _ _ _ => actCtlWrite_disables⟩

end Sys2Proof.Machine

/-! SUPPORT. A new upstream frame, the powering of a transmit lane, and ALLOC_REVISE (02_line_format.md, R56, R57, R171; 15_optical_modules.md,
R393). -/

namespace Sys2Proof.Machine

section
variable {s t : State} {l g : Leg} {R : Row} {v i : Nat} {a : Alloc} {msg : BitVec 384}

/-! ### Upstream frames -/

/-- Where a leg stands upstream, and the allocations it holds. -/
def LegSt.upstream (g : LegSt) : Nat × Nat × List Alloc := (g.upSfc, g.upFn, g.allocs)

theorem State.latchSlot_upstream {slot sfc : Nat} : ((s.latchSlot l slot sfc).leg l).upstream = (s.leg l).upstream := by
  simp only [State.latchSlot, State.wr_leg, State.upd_leg_same, LegSt.upstream]

theorem State.latchSlots_upstream {sfc : Nat} : ((s.latchSlots l sfc).leg l).upstream = (s.leg l).upstream := by
  unfold State.latchSlots
  generalize ((s.leg l).ctnDue ++ (s.leg l).hgDue).map Prod.fst = slots
  induction slots generalizing s with
  | nil => rfl
  | cons c r ih => exact ih.trans State.latchSlot_upstream

/-- The leg stands at the new frame; of earlier ones it holds only the allocations that opened in the last 16 frames (R171). -/
theorem State.upFrame_upstream {sfc fn : Nat} : ∃ held : List Alloc, ((s.upFrame l sfc fn).leg l).upstream =
    (sfc, fn, held.filter fun a => a.key ≥ upKey sfc fn || (a.opened && a.key + 16 ≥ upKey sfc fn)) := by
  unfold State.upFrame
  extract_lets key used s₁ s₂ gained capped s₃ s₄ s₅
  have h₃ : (s₃.leg l).upstream = (sfc, fn, (s₂.leg l).allocs.filter fun a => a.key ≥ key || (a.opened && a.key + 16 ≥ key)) := by
    rw [State.upd_leg_same, LegSt.upstream]
  have h₄ : (s₄.leg l).upstream = (s₃.leg l).upstream := by
    simp only [s₄]
    split
    · rw [(State.settleTx_foot ..).leg_keeps rfl, (State.settleTx_foot ..).leg_keeps rfl, State.latchSlots_upstream]
    · exact State.latchSlots_upstream
  have h₅ : (s₅.leg l).upstream = (s₄.leg l).upstream := by cases l <;> rfl
  refine ⟨(s₂.leg l).allocs, ?_⟩
  split
  · rw [(State.auditCheck_foot _).leg_keeps rfl, (State.sluFrame_foot ..).leg_keeps rfl, h₅, h₄, h₃]
  · rw [h₅, h₄, h₃]

theorem upstreamFrameStart_stands {sfc : BitVec 48} {fn : Nat} (hfn : fn < 8) : ∃ t, exec (.upstreamFrameStart l sfc fn) s = .next t ∧
    (t.leg l).upSfc = sfc.toNat ∧ (t.leg l).upFn = fn ∧
    (t.leg l).allocs.all (fun a => a.key ≥ upKey sfc.toNat fn || (a.opened && a.key + 16 ≥ upKey sfc.toNat fn)) = true := by
  have hex : exec (.upstreamFrameStart l sfc fn) s = .next (s.upFrame l sfc.toNat fn) := by
    have : exec (.upstreamFrameStart l sfc fn) s = .next (s.upFrame l sfc.toNat (fn % 8)) := rfl
    rwa [Nat.mod_eq_of_lt hfn] at this
  obtain ⟨held, hup⟩ := s.upFrame_upstream (l := l) (sfc := sfc.toNat) (fn := fn)
  obtain ⟨hsfc, hrest⟩ := Prod.mk.inj hup
  obtain ⟨hfr, hallocs⟩ := Prod.mk.inj hrest
  refine ⟨_, hex, hsfc, hfr, ?_⟩
  rw [hallocs]
  exact List.all_eq_true.2 fun a ha => (List.mem_filter.1 ha).2

/-! ### Transmit lanes -/

theorem lanePowerUp_powers {u : Nat} (hu : u < 2) (hmode : s.rd Reg.OPT_LANE_MODE l.n (4 + u) = 4)
    (hany : (s.leg l).allocs.any (fun a => a.wave == u && a.hgOpen && !a.opened && !a.withdrawn) = true) :
    exec (.lanePowerUp l u) s = .next (s.wr Reg.OPT_LANE_MODE 5 l.n (4 + u)) :=
  congrArg Host.Outcome.next (if_pos (by simp only [hu, hmode, hany, decide_true, Bool.and_self]))

theorem lanePowerUp_ungated {u : Nat} (hmode : s.rd Reg.OPT_LANE_MODE l.n (4 + u) ≠ 4) : exec (.lanePowerUp l u) s = .next s :=
  congrArg Host.Outcome.next (if_neg (by simp [hmode]))

/-! ### ALLOC_REVISE -/

/-- The allocation that a revision names: by its frame, wave, ALLOC_ID and START, unless it is withdrawn (R57). -/
def State.revised (s : State) (l : Leg) (msg : BitVec 384) : Option Alloc :=
  (s.leg l).allocs.find? fun a => a.key == upKey (mfield msg 6 6) (mfield msg 12 1 % 8) && a.wave == bit (mfield msg 12 1) 3 &&
    a.id == mfield msg 13 2 % 2 ^ 14 && a.start == mfield msg 15 3 % 2 ^ 17 && !a.withdrawn

theorem State.heard_revised : (s.heard l).revised l msg = s.revised l msg := by
  simp only [State.revised, State.heard_leg]

theorem State.heard_d0Key : (s.heard l).d0Key l = s.d0Key l := by simp only [State.d0Key, State.heard_wave]

@[simp] theorem State.setBit_leg {k : Nat} : (s.setBit R k i).leg g = s.leg g := by
  unfold State.setBit
  split
  · rfl
  · exact State.wr_leg

theorem State.declareLeg_leg {place ev : Nat} : (s.declareLeg l R place ev).leg g = s.leg g := by
  unfold State.declareLeg
  split
  · rfl
  · rw [State.event_leg, State.setBit_leg, State.wr_leg]

theorem State.setAct_allocs : ((s.setAct l v).leg l).allocs = (s.leg l).allocs := by
  unfold State.setAct
  dsimp only
  split
  · rfl
  · split
    · rw [State.declareLeg_leg, State.upd_leg_same, State.event_leg, State.wr_leg, State.wr_leg, State.wr_leg]
    · rw [State.event_leg, State.wr_leg, State.wr_leg, State.wr_leg]

/-- Raising a source notes it among those raised in this superframe. -/
theorem State.once_leg {src det : Nat} : ∃ raised, (s.once l src det).leg l = { s.leg l with once := raised } := by
  unfold State.once
  split
  · exact ⟨_, rfl⟩
  · exact ⟨_, by rw [State.event_leg, State.upd_leg_same]⟩

theorem State.once_allocs {src det : Nat} : ((s.once l src det).leg l).allocs = (s.leg l).allocs := by
  obtain ⟨raised, hleg⟩ := s.once_leg (l := l) (src := src) (det := det)
  rw [hleg]

/-- An attempt that ends takes allocations away and changes none. -/
theorem State.attemptDark_allocs : ∀ b ∈ ((s.attemptDark l a).leg l).allocs, b ∈ (s.leg l).allocs := by
  have withdrawn : ∀ b ∈ ((s.withdraw l).leg l).allocs, b ∈ (s.leg l).allocs := fun b hb => by
    rw [State.withdraw, State.upd_leg_same] at hb
    exact List.mem_of_mem_filter hb
  unfold State.attemptDark
  split
  · exact fun _ hb => hb
  · dsimp only
    split
    · rw [State.setAct_allocs]
      exact withdrawn
    · exact withdrawn

theorem State.setAlloc_withdraws : ∀ b ∈ ((s.setAlloc l a fun x => { x with withdrawn := true }).leg l).allocs,
    b.same a = true → b.withdrawn = true := by
  intro b hb hsame
  rw [State.setAlloc, State.upd_leg_same] at hb
  obtain ⟨x, -, rfl⟩ := List.mem_map.1 hb
  split at hsame
  next h => rw [if_pos h]
  next h => exact absurd hsame h

theorem State.revise_none (h : s.revised l msg = none) : s.revise l msg = s.inc Reg.LINE_D0CNT_REVISE_IGNORED l.n := by
  unfold State.revised at h
  unfold State.revise
  dsimp only
  rw [h]

theorem State.revise_opened (h : s.revised l msg = some a) (ho : a.opened = true) : s.revise l msg =
    ((s.inc Reg.LINE_D0CNT_REVISE_IGNORED l.n).inc Reg.USCH_CNT_REVISE_LATE).once l (Ev.wave l (4 + bit (mfield msg 12 1) 3) 4) 0 := by
  unfold State.revised at h
  unfold State.revise
  dsimp only
  rw [h]
  exact if_pos ho

theorem State.revise_notNext (h : s.revised l msg = some a) (ho : a.opened = false)
    (hkey : upKey (mfield msg 6 6) (mfield msg 12 1 % 8) ≠ s.d0Key l + 1) : s.revise l msg = s.inc Reg.LINE_D0CNT_REVISE_IGNORED l.n := by
  unfold State.revised at h
  unfold State.revise
  dsimp only
  rw [h]
  dsimp only
  rw [ho, if_neg Bool.false_ne_true, if_pos hkey]

theorem State.revise_withdraws (h : s.revised l msg = some a) (ho : a.opened = false)
    (hkey : upKey (mfield msg 6 6) (mfield msg 12 1 % 8) = s.d0Key l + 1) (hlen : mfield msg 21 3 % 2 ^ 17 = 0) : s.revise l msg =
    ((((s.unwindAlloc l a 1).setAlloc l a fun x => { x with withdrawn := true }).once l (Ev.wave l (4 + bit (mfield msg 12 1) 3) 3)
      0).attemptDark l a) := by
  unfold State.revised at h
  unfold State.revise
  dsimp only
  rw [h]
  dsimp only
  rw [ho, if_neg Bool.false_ne_true, if_neg (not_not.2 hkey)]
  exact if_pos hlen

theorem exec_allocRevise (hm : Hears s l) : exec (.allocRevise l msg) s =
    .next ((s.heard l).onMsg l 0x08 msg false 0 fun s => (.silent, s.revise l msg)) := congrArg Host.Outcome.next (State.inFrame_of_hears hm _)

theorem State.onMsg_silent_allocs {typ frag : Nat} {serialAt : Bool} {act : State → Took × State}
    (h : s.takes l typ msg serialAt frag = true) (ha : act s = (.silent, t)) :
    ((s.onMsg l typ msg serialAt frag act).leg l).allocs = (t.leg l).allocs := by
  obtain ⟨seen, hleg⟩ := State.taken_leg (s := t) (l := l) (m := msg) (typ := typ) (frag := frag) (x := none)
  rw [State.onMsg_silent h ha, hleg]

/-- What a revision does to the leg is what the command does. -/
theorem allocRevise_acts (hm : Hears s l) (ht : s.takes l 0x08 msg false 0 = true) : ∃ t, exec (.allocRevise l msg) s = .next t ∧
    (∀ (R : Row) (k i : Nat), t.rd R k i = ((s.heard l).revise l msg).rd R k i) ∧
    (t.leg l).allocs = (((s.heard l).revise l msg).leg l).allocs :=
  ⟨_, exec_allocRevise hm, fun _ _ _ => State.onMsg_silent_rd (State.heard_takes.trans ht) rfl,
    State.onMsg_silent_allocs (act := fun s => (.silent, s.revise l msg)) (State.heard_takes.trans ht) rfl⟩

/-- A revision that is ignored is counted and changes no allocation. -/
theorem allocRevise_ignored (hm : Hears s l) (ht : s.takes l 0x08 msg false 0 = true)
    (h : (s.heard l).revise l msg = (s.heard l).inc Reg.LINE_D0CNT_REVISE_IGNORED l.n) : ∃ t, exec (.allocRevise l msg) s = .next t ∧
    Counted Reg.LINE_D0CNT_REVISE_IGNORED l.n 0 1 s t ∧ (t.leg l).allocs = (s.leg l).allocs := by
  obtain ⟨t, hex, hrd, hallocs⟩ := allocRevise_acts hm ht
  rw [h] at hrd hallocs
  refine ⟨t, hex, counted_of_rd_after (hrd ..) (counted_of_rd_before State.heard_rd (counted_inc_at (by decide))), ?_⟩
  rw [hallocs, State.inc_leg, State.heard_leg]

theorem allocRevise_none (hm : Hears s l) (ht : s.takes l 0x08 msg false 0 = true) (h : s.revised l msg = none) :
    ∃ t, exec (.allocRevise l msg) s = .next t ∧ Counted Reg.LINE_D0CNT_REVISE_IGNORED l.n 0 1 s t ∧
    (t.leg l).allocs = (s.leg l).allocs :=
  allocRevise_ignored hm ht (State.revise_none (State.heard_revised.trans h))

theorem allocRevise_late (hm : Hears s l) (ht : s.takes l 0x08 msg false 0 = true) (h : s.revised l msg = some a) (ho : a.opened = true) :
    ∃ t, exec (.allocRevise l msg) s = .next t ∧ Counted Reg.LINE_D0CNT_REVISE_IGNORED l.n 0 1 s t ∧
    (t.leg l).allocs = (s.leg l).allocs ∧ Counted Reg.USCH_CNT_REVISE_LATE 0 0 1 s t := by
  obtain ⟨t, hex, hrd, hallocs⟩ := allocRevise_acts hm ht
  rw [State.revise_opened (State.heard_revised.trans h) ho] at hrd hallocs
  refine ⟨t, hex, counted_of_rd_after (hrd ..) ?_, ?_, counted_of_rd_after (hrd ..) ?_⟩
  · exact (State.once_foot ..).counted_after rfl (counted_of_rd_after (State.rd_inc_shared_row rfl)
      (counted_of_rd_before State.heard_rd (counted_inc_at (by decide))))
  · rw [hallocs, State.once_allocs, State.inc_leg, State.inc_leg, State.heard_leg]
  · exact (State.once_foot ..).counted_after (l := .a) rfl
      (counted_of_rd_before ((State.rd_inc_row_shared rfl).trans State.heard_rd) (counted_inc_at (by decide)))

theorem allocRevise_notNext (hm : Hears s l) (ht : s.takes l 0x08 msg false 0 = true) (h : s.revised l msg = some a) (ho : a.opened = false)
    (hkey : upKey (mfield msg 6 6) (mfield msg 12 1 % 8) ≠ s.d0Key l + 1) : ∃ t, exec (.allocRevise l msg) s = .next t ∧
    Counted Reg.LINE_D0CNT_REVISE_IGNORED l.n 0 1 s t ∧ (t.leg l).allocs = (s.leg l).allocs :=
  allocRevise_ignored hm ht (State.revise_notNext (State.heard_revised.trans h) ho (by rwa [State.heard_d0Key]))

theorem allocRevise_withdraws (hm : Hears s l) (ht : s.takes l 0x08 msg false 0 = true) (h : s.revised l msg = some a)
    (ho : a.opened = false) (hkey : upKey (mfield msg 6 6) (mfield msg 12 1 % 8) = s.d0Key l + 1) (hlen : mfield msg 21 3 % 2 ^ 17 = 0) :
    ∃ t, exec (.allocRevise l msg) s = .next t ∧ (t.leg l).allocs.all (fun b => !(b.same a) || b.withdrawn) = true := by
  obtain ⟨t, hex, -, hallocs⟩ := allocRevise_acts hm ht
  rw [State.revise_withdraws (State.heard_revised.trans h) ho (by rwa [State.heard_d0Key]) hlen] at hallocs
  refine ⟨t, hex, ?_⟩
  rw [hallocs]
  refine List.all_eq_true.2 fun b hb => ?_
  have held := State.attemptDark_allocs b hb
  rw [State.once_allocs] at held
  have gone := State.setAlloc_withdraws b held
  cases hs : b.same a
  · rfl
  · simp [gone hs]

end

/-- Settles O12: a new frame, a lane, and a revision by what it names. -/
theorem upstreamFramesAndRevisions : Obligations.UpstreamFramesAndRevisions := by
  unfold Obligations.UpstreamFramesAndRevisions
  exact ⟨fun _ _ _ _ => upstreamFrameStart_stands, fun _ _ _ => lanePowerUp_powers, fun _ _ _ => lanePowerUp_ungated,
    fun _ _ _ => allocRevise_none, fun _ _ _ _ => allocRevise_late, fun _ _ _ _ => allocRevise_notNext,
    fun _ _ _ _ => allocRevise_withdraws⟩

end Sys2Proof.Machine

/-! SUPPORT. How the channel frames of a wave are taken, and what is dropped before classification (02_line_format.md, R45 to R52;
07_downstream_classification.md, R177, R207). -/

namespace Sys2Proof.Machine

section
variable {s t : State} {l g : Leg} {R : Row} {v i k w off h cause src det : Nat} {hdr next : BitVec 64} {payload : List Byte} {ecc : Option Nat}

/-! ### The packet buffer, past what counts and reports -/

theorem State.evtLog_buf : (s.evtLog src det).host.buf = s.host.buf := by
  unfold State.evtLog
  dsimp only
  split <;> rfl

theorem State.eqWrite_buf {e : Nat} {body : List Byte} : (s.eqWrite e body).host.buf = s.host.buf := by
  unfold State.eqWrite
  extract_lets r sz own phase w0 entry addr s₁ s₂ s₃ full fire s₄
  have h₄ : s₄.host.buf = s.host.buf := rfl
  split
  · rw [(State.msix_foot ..).host rfl, h₄]
  · exact h₄

/-- An event may add to an event ring and to the log; it leaves the packet buffer. -/
theorem State.raiseFuel_buf {fuel : Nat} {own : Option Nat} {detL : Nat} : (s.raiseFuel fuel src own det detL).host.buf = s.host.buf := by
  induction fuel generalizing s src own det detL with
  | zero =>
    unfold State.raiseFuel
    dsimp only
    split
    · exact State.evtLog_buf
    · split
      · exact State.evtLog_buf
      · split
        · exact State.evtLog_buf
        · split
          · exact State.eqWrite_buf.trans State.evtLog_buf
          · exact State.evtLog_buf
  | succ n ih =>
    unfold State.raiseFuel
    dsimp only
    split
    · exact State.evtLog_buf
    · split
      · exact State.evtLog_buf
      · split
        · split
          · exact State.evtLog_buf
          · exact ih.trans State.evtLog_buf
        · split
          · exact State.eqWrite_buf.trans State.evtLog_buf
          · exact State.evtLog_buf

@[simp] theorem State.event_buf : (s.event src det).host.buf = s.host.buf := State.raiseFuel_buf

theorem State.once_buf : (s.once l src det).host.buf = s.host.buf := by
  unfold State.once
  split
  · rfl
  · rw [State.event_buf, State.upd_host]

theorem State.pmCount_buf {n : Nat} : (s.pmCount l w k n).host.buf = s.host.buf := by
  unfold State.pmCount
  dsimp only
  split
  · rfl
  · split
    · exact State.event_buf
    · rfl

theorem State.idleExit_buf {code : Nat} : (s.idleExit code).host.buf = s.host.buf := by
  unfold State.idleExit State.recordWake State.setPower
  split
  · rw [State.event_buf, State.event_buf, State.wr_host]
    split
    · rfl
    · rw [State.event_buf, State.wr_host]
  · rfl

/-! ### One drop -/

/-- The drop is counted for its leg under its cause and for its wave. -/
def State.countDrop (s : State) (l : Leg) (w cause : Nat) : State :=
  match l with
  | .a => (s.inc Reg.STBL_SPILL_A_DROPS 0 cause).inc Reg.STBL_SPILLW_A_DROPS 0 w
  | .b => (s.inc Reg.STBL_SPILL_B_DROPS 0 cause).inc Reg.STBL_SPILLW_B_DROPS 0 w

theorem State.countDrop_dropped (hc : cause < 17) : Dropped l cause s (s.countDrop l w cause) := by
  cases l
  · exact counted_of_rd_after (State.rd_inc_shared rfl) (counted_inc_at hc)
  · exact counted_of_rd_after (State.rd_inc_shared rfl) (counted_inc_at hc)

theorem State.countDrop_leg : (s.countDrop l w cause).leg g = s.leg g := by
  cases l <;> exact State.inc_leg.trans State.inc_leg

theorem State.countDrop_host : (s.countDrop l w cause).host = s.host := by
  cases l <;> rfl

/-- What a drop leads to once it is counted: the performance bin, the leg's drops of the superframe, and their threshold. -/
theorem State.spill_eq : ∃ u, Foot fp12 (s.countDrop l w cause) u ∧ u.host.buf = s.host.buf ∧ s.spill l w cause =
    (let d := u.upd l fun g => { g with drops := g.drops + 1 }
     let d := if w ≥ 4 then d.once l (Ev.wave l w 7) 0 else d
     if d.rd Reg.STBL_SPILL_CTL_THRESH ≠ 0 && (d.leg l).drops > d.rd Reg.STBL_SPILL_CTL_THRESH then d.once l (Ev.cls (13 + l.n)) 0 else d) :=
  ⟨(s.countDrop l w cause).pmCount l w 5 1, State.pmCount_foot .., by rw [State.pmCount_buf, State.countDrop_host], by cases l <;> rfl⟩

theorem State.once_waves : ((s.once l src det).leg l).waves = (s.leg l).waves := by
  obtain ⟨raised, hleg⟩ := s.once_leg (l := l) (src := src) (det := det)
  rw [hleg]

theorem State.spill_waves : ((s.spill l w cause).leg l).waves = (s.leg l).waves := by
  obtain ⟨u, hfoot, -, heq⟩ := s.spill_eq (l := l) (w := w) (cause := cause)
  have hu : u.leg l = s.leg l := (hfoot.leg_keeps rfl).trans State.countDrop_leg
  rw [heq]
  dsimp only
  split <;> split <;> simp only [State.once_waves, State.upd_leg_same, hu]

theorem State.spill_wave {v : Nat} : (s.spill l w cause).wave l v = s.wave l v := by
  rw [State.wave, State.spill_waves, State.wave]

theorem State.spill_buf : (s.spill l w cause).host.buf = s.host.buf := by
  obtain ⟨u, -, hu, heq⟩ := s.spill_eq (l := l) (w := w) (cause := cause)
  rw [heq]
  dsimp only
  split <;> split <;> simp only [State.once_buf, State.upd_host, hu]

theorem State.once_spillRow : (s.once g src det).rd (spillRow l) 0 cause = s.rd (spillRow l) 0 cause := by
  cases l <;> exact (State.once_foot ..).rd_at rfl

theorem State.spill_dropped (hc : cause < 17) : Dropped l cause s (s.spill l w cause) := by
  obtain ⟨u, hfoot, -, heq⟩ := s.spill_eq (l := l) (w := w) (cause := cause)
  have counted : u.rd (spillRow l) 0 cause = (s.countDrop l w cause).rd (spillRow l) 0 cause := by
    cases l <;> exact hfoot.rd_at rfl
  refine counted_of_rd_after ?_ (State.countDrop_dropped (w := w) hc)
  rw [heq]
  dsimp only
  split <;> split <;> simp only [State.once_spillRow, State.rd_upd, counted]

/-! ### The commands -/

theorem exec_channelFrame : exec (.channelFrame l w off hdr payload next ecc) s =
    .next (s.channelFrame l w off hdr.toNat payload next.toNat ecc) := rfl

theorem channelFrame_ignored (h : ¬Reads s l w off) : exec (.channelFrame l w off hdr payload next ecc) s = .next s := by
  refine congrArg Host.Outcome.next (if_pos ?_)
  by_contra hno
  simp only [not_or, not_and, not_not, Nat.not_lt, Nat.not_le, ge_iff_le] at hno
  obtain ⟨hdeln, hpart, hbase, hmod, hpwr⟩ := hno
  refine h ⟨hdeln, ?_, hpwr, hbase, hmod⟩
  by_cases hw : w = 0
  · exact Or.inr (by simpa using hpart hw)
  · exact Or.inl hw

/-- A frame that the wave takes outside a hunt. -/
theorem State.channelFrame_taken {next : Nat} (hr : Reads s l w off) (hh : (s.wave l w).hunting = false) :
    s.channelFrame l w off h payload next ecc =
      if !hecOk h then ((s.inc Reg.LINE_WCNT_CF_HEC_ERR l.n w).pmCount l w 4 1).huntFrom l w
      else if hdrBad off h then (s.inc Reg.LINE_WCNT_CF_INVALID l.n w).huntFrom l w
      else if (s.wave l w).seqBad h then (s.inc Reg.LINE_WCNT_CF_INVALID l.n w).spill l w 2
      else s.frameIn l w off h payload ecc := by
  obtain ⟨hdeln, hpart, hpwr, hbase, hmod⟩ := hr
  unfold State.channelFrame
  dsimp only
  rw [if_neg, hh, if_neg Bool.false_ne_true]
  rintro (hd | ⟨hw, hp⟩ | hb | hm | hs)
  · exact hd hdeln
  · exact hpart.elim (fun hne => hne hw) fun hok => Bool.false_ne_true (hp.symm.trans hok)
  · exact Nat.not_lt.2 hbase hb
  · exact hm hmod
  · exact Nat.not_lt.2 hs hpwr

/-- A hunt that begins is one LINE_HEC drop. -/
theorem State.huntFrom_hunts (hw : w < 4) : ((s.huntFrom l w).wave l w).hunting = true ∧ Dropped l 1 s (s.huntFrom l w) := by
  unfold State.huntFrom
  refine ⟨?_, counted_of_rd_before State.rd_updWave (State.spill_dropped (by decide))⟩
  rw [State.spill_wave, State.wave_updWave_same hw]

theorem State.huntFrom_rd (hk : keepsRow fp14 R = true) : (s.huntFrom l w).rd R l.n i = s.rd R l.n i := by
  rw [State.huntFrom, (State.spill_foot ..).rd_leg hk, State.rd_updWave]

theorem channelFrame_hecErr (hw : w < 4) (hr : Reads s l w off) (hh : (s.wave l w).hunting = false) (hhec : hecOk hdr.toNat = false) :
    ∃ t, exec (.channelFrame l w off hdr payload next ecc) s = .next t ∧ Counted Reg.LINE_WCNT_CF_HEC_ERR l.n w 1 s t ∧
    (t.wave l w).hunting = true ∧ Dropped l 1 s t := by
  rw [exec_channelFrame, State.channelFrame_taken hr hh, if_pos (by simp [hhec])]
  obtain ⟨hhunt, hdrop⟩ := ((s.inc Reg.LINE_WCNT_CF_HEC_ERR l.n w).pmCount l w 4 1).huntFrom_hunts (l := l) hw
  refine ⟨_, rfl, counted_of_rd_after (State.huntFrom_rd rfl) ((State.pmCount_foot ..).counted_after rfl (counted_inc_at hw)), hhunt,
    counted_of_rd_before ?_ hdrop⟩
  cases l
  · exact ((State.pmCount_foot ..).rd_at rfl).trans (State.rd_inc_row_shared rfl)
  · exact ((State.pmCount_foot ..).rd_at rfl).trans (State.rd_inc_row_shared rfl)

theorem State.inc_invalid_spillRow : (s.inc Reg.LINE_WCNT_CF_INVALID l.n w).rd (spillRow l) 0 cause = s.rd (spillRow l) 0 cause := by
  cases l
  · exact State.rd_inc_row_shared rfl
  · exact State.rd_inc_row_shared rfl

theorem channelFrame_invalid (hw : w < 4) (hr : Reads s l w off) (hh : (s.wave l w).hunting = false) (hhec : hecOk hdr.toNat = true)
    (hbad : hdrBad off hdr.toNat = true) : ∃ t, exec (.channelFrame l w off hdr payload next ecc) s = .next t ∧
    Counted Reg.LINE_WCNT_CF_INVALID l.n w 1 s t ∧ (t.wave l w).hunting = true ∧ Dropped l 1 s t := by
  rw [exec_channelFrame, State.channelFrame_taken hr hh, if_neg (by simp [hhec]), if_pos hbad]
  obtain ⟨hhunt, hdrop⟩ := (s.inc Reg.LINE_WCNT_CF_INVALID l.n w).huntFrom_hunts (l := l) hw
  exact ⟨_, rfl, counted_of_rd_after (State.huntFrom_rd rfl) (counted_inc_at hw), hhunt, counted_of_rd_before State.inc_invalid_spillRow hdrop⟩

theorem channelFrame_seqBad (hw : w < 4) (hr : Reads s l w off) (hh : (s.wave l w).hunting = false) (hhec : hecOk hdr.toNat = true)
    (hbad : hdrBad off hdr.toNat = false) (hseq : (s.wave l w).seqBad hdr.toNat = true) :
    ∃ t, exec (.channelFrame l w off hdr payload next ecc) s = .next t ∧ Counted Reg.LINE_WCNT_CF_INVALID l.n w 1 s t ∧ Dropped l 2 s t := by
  rw [exec_channelFrame, State.channelFrame_taken hr hh, if_neg (by simp [hhec]), if_neg (by simp [hbad]), if_pos hseq]
  exact ⟨_, rfl, (State.spill_foot ..).counted_after rfl (counted_inc_at hw),
    counted_of_rd_before State.inc_invalid_spillRow (State.spill_dropped (by decide))⟩

theorem channelFrame_huntSkips (hh : (s.wave l w).hunting = true) (hres : (s.wave l w).resumes off hdr.toNat next.toNat = false) :
    exec (.channelFrame l w off hdr payload next ecc) s = .next s := by
  rw [exec_channelFrame, State.channelFrame]
  rw [hh, hres, if_pos rfl, if_neg Bool.false_ne_true, ite_self]

/-! ### Frames whose header stands -/

/-- A header that stands ends a hunt, and that of a data frame leaves its SEQ (R50). -/
def State.noteHeader (s : State) (l : Leg) (w h : Nat) : State :=
  s.updWave l w fun v => { v with hunting := false, lastSeq := if isData h then some (hdrSeq h) else v.lastSeq }

theorem State.channelFrame_stands {next : Nat} (hr : Reads s l w off) (hh : (s.wave l w).hunting = false) (hs : Stands s l w off h) :
    s.channelFrame l w off h payload next ecc =
      if (s.wave l w).badSpan off h then (s.noteHeader l w h).spill l w 3
      else if hdrPti h = 3 then s.noteHeader l w h
      else if !(s.wave l w).deliver then (s.noteHeader l w h).standbyFrame l w h payload
      else ((s.noteHeader l w h).idleExit 9).activeFrame l w h payload ecc := by
  obtain ⟨hhec, hbad, hseq⟩ := hs
  rw [State.channelFrame_taken hr hh, if_neg (by simp [hhec]), if_neg (by simp [hbad]), if_neg (by simp [hseq])]
  rfl

theorem State.noteHeader_rd : (s.noteHeader l w h).rd R k i = s.rd R k i := State.rd_updWave

theorem channelFrame_badSpan (hw : w < 4) (hr : Reads s l w off) (hh : (s.wave l w).hunting = false) (hs : Stands s l w off hdr.toNat)
    (hspan : (s.wave l w).badSpan off hdr.toNat = true) : ∃ t, exec (.channelFrame l w off hdr payload next ecc) s = .next t ∧
    (t.wave l w).lastSeq = (if isData hdr.toNat then some (hdrSeq hdr.toNat) else (s.wave l w).lastSeq) ∧ Dropped l 3 s t := by
  rw [exec_channelFrame, State.channelFrame_stands hr hh hs, if_pos hspan]
  refine ⟨_, rfl, ?_, counted_of_rd_before State.noteHeader_rd (State.spill_dropped (by decide))⟩
  rw [State.spill_wave, State.noteHeader, State.wave_updWave_same hw]

/-- An update that changes nothing of the wave leaves the state. -/
theorem State.updWave_self {f : Wave → Wave} (hw : w < 4) (hf : f (s.wave l w) = s.wave l w) : s.updWave l w f = s := by
  have four : ∀ x : Four Wave, f (x.get w) = x.get w → x.upd w f = x := fun x hx => by
    match w, hw with
    | 0, _ => exact congrArg (fun y => { x with w0 := y }) hx
    | 1, _ => exact congrArg (fun y => { x with w1 := y }) hx
    | 2, _ => exact congrArg (fun y => { x with w2 := y }) hx
    | 3, _ => exact congrArg (fun y => { x with w3 := y }) hx
  cases l
  · exact congrArg (fun y => { s with la := { s.la with waves := y } }) (four s.la.waves hf)
  · exact congrArg (fun y => { s with lb := { s.lb with waves := y } }) (four s.lb.waves hf)

/-- A fill frame has no SEQ to leave. -/
theorem State.noteHeader_fill (hw : w < 4) (hh : (s.wave l w).hunting = false) (hfill : hdrPti h = 3) : s.noteHeader l w h = s := by
  refine State.updWave_self hw ?_
  have hdata : isData h = false := by simp [isData, hfill]
  rw [hdata, if_neg Bool.false_ne_true, ← hh]

theorem channelFrame_fill (hw : w < 4) (hr : Reads s l w off) (hh : (s.wave l w).hunting = false) (hs : Stands s l w off hdr.toNat)
    (hspan : (s.wave l w).badSpan off hdr.toNat = false) (hfill : hdrPti hdr.toNat = 3) :
    exec (.channelFrame l w off hdr payload next ecc) s = .next s := by
  rw [exec_channelFrame, State.channelFrame_stands hr hh hs, if_neg (by simp [hspan]), if_pos hfill, State.noteHeader_fill hw hh hfill]

/-- Before the pipeline: the header is noted and idle ends. Tables, keys and the packet buffer are as they were. -/
def State.headed (s : State) (l : Leg) (w h : Nat) : State := (s.noteHeader l w h).idleExit 9

theorem State.headed_rd (hk : keepsRow fp21 R = true) : (s.headed l w h).rd R 0 i = s.rd R 0 i := by
  rw [State.headed, (State.idleExit_foot ..).rd_at hk, State.noteHeader_rd]

theorem State.headed_stream {x : Nat} : (s.headed l w h).stream x = s.stream x := by
  rw [State.stream, State.headed, (State.idleExit_foot ..).cls rfl, State.noteHeader, State.updWave, State.upd_cls, State.stream]

theorem State.headed_downKey {slot kidx : Nat} : (s.headed l w h).downKey l slot kidx = s.downKey l slot kidx := by
  have hciph : (s.headed l w h).ciph = s.ciph := by
    rw [State.headed, (State.idleExit_foot ..).ciph rfl, State.noteHeader, State.updWave, State.upd_ciph]
  have hret : ((s.headed l w h).leg l).dnRet = (s.leg l).dnRet := by
    rw [State.headed, (State.idleExit_foot ..).leg_keeps rfl, State.noteHeader, State.updWave, State.upd_leg_same]
  rw [State.downKey, State.lineKey, hciph, hret, State.downKey, State.lineKey]

theorem State.headed_buf : (s.headed l w h).host.buf = s.host.buf := by
  rw [State.headed, State.idleExit_buf, State.noteHeader, State.updWave, State.upd_host]

theorem State.headed_spillRow : (s.headed l w h).rd (spillRow l) 0 cause = s.rd (spillRow l) 0 cause := by
  cases l <;> exact State.headed_rd rfl

theorem State.headed_isOn (hk : keepsRow fp21 R = true) : (s.headed l w h).isOn R = s.isOn R := by
  rw [State.isOn, State.headed_rd hk, State.isOn]

/-- A drop of the pipeline's first steps is counted, and nothing enters the packet buffer. -/
theorem State.headed_spill (hc : cause < 17) : ((s.headed l w h).spill l w cause).host.buf = s.host.buf ∧
    Dropped l cause s ((s.headed l w h).spill l w cause) :=
  ⟨State.spill_buf.trans State.headed_buf, counted_of_rd_before State.headed_spillRow (State.spill_dropped hc)⟩

theorem channelFrame_unknownStream (hr : Reads s l w off) (hh : (s.wave l w).hunting = false) (hs : Stands s l w off hdr.toNat)
    (hspan : (s.wave l w).badSpan off hdr.toNat = false) (hdel : (s.wave l w).deliver = true) (hpti : hdrPti hdr.toNat < 2)
    (hecc : ecc ≠ some (1 + l.n)) (hentry : bit (s.stream (hdrStream hdr.toNat)) 0 = 0) (hlearn : s.isOn Reg.STBL_LEARN_CTL_EN = false)
    (hdrop : s.isOn Reg.STBL_UNK_CTL_ACTION = false) : ∃ t, exec (.channelFrame l w off hdr payload next ecc) s = .next t ∧
    t.host.buf = s.host.buf ∧ Dropped l 4 s t := by
  have unlearned : (s.headed l w hdr.toNat).learn l w hdr.toNat payload = s.headed l w hdr.toNat :=
    if_pos (by rw [State.headed_isOn rfl, hlearn]; rfl)
  have heq : s.channelFrame l w off hdr.toNat payload next.toNat ecc = (s.headed l w hdr.toNat).spill l w 4 := by
    rw [State.channelFrame_stands hr hh hs, if_neg (by simp [hspan]), if_neg (by omega), if_neg (by simp [hdel]), ← State.headed,
      State.activeFrame, if_neg hecc]
    dsimp only
    rw [State.headed_stream, if_pos hentry, State.unknownStream, unlearned, State.headed_isOn rfl, hdrop]
    rfl
  rw [exec_channelFrame, heq]
  exact ⟨_, rfl, State.headed_spill (by decide)⟩

theorem channelFrame_keyInvalid (hr : Reads s l w off) (hh : (s.wave l w).hunting = false) (hs : Stands s l w off hdr.toNat)
    (hspan : (s.wave l w).badSpan off hdr.toNat = false) (hdel : (s.wave l w).deliver = true) (hpti : hdrPti hdr.toNat = 1)
    (hecc : ecc ≠ some (1 + l.n)) (hentry : bit (s.stream (hdrStream hdr.toNat)) 0 = 1)
    (hkey : s.downKey l (bits (s.stream (hdrStream hdr.toNat)) 28 20) (hdrKidx hdr.toNat) = none) :
    ∃ t, exec (.channelFrame l w off hdr payload next ecc) s = .next t ∧ t.host.buf = s.host.buf ∧ Dropped l 6 s t := by
  have heq : s.channelFrame l w off hdr.toNat payload next.toNat ecc = (s.headed l w hdr.toNat).spill l w 6 := by
    rw [State.channelFrame_stands hr hh hs, if_neg (by simp [hspan]), if_neg (by omega), if_neg (by simp [hdel]), ← State.headed,
      State.activeFrame, if_neg hecc]
    dsimp only
    rw [State.headed_stream, if_neg (by omega), if_neg (by omega), State.headed_downKey, hkey]
  rw [exec_channelFrame, heq]
  exact ⟨_, rfl, State.headed_spill (by decide)⟩

end

/-- Settles O13, by where the header leaves the frame. -/
theorem channelFramesAreDelineated : Obligations.ChannelFramesAreDelineated := by
  unfold Obligations.ChannelFramesAreDelineated
  exact ⟨fun _ _ _ _ _ _ _ _ => channelFrame_ignored, fun _ _ _ _ _ _ _ _ => channelFrame_hecErr,
    fun _ _ _ _ _ _ _ _ => channelFrame_invalid, fun _ _ _ _ _ _ _ _ => channelFrame_seqBad,
    fun _ _ _ _ _ _ _ _ => channelFrame_huntSkips, fun _ _ _ _ _ _ _ _ => channelFrame_badSpan,
    fun _ _ _ _ _ _ _ _ => channelFrame_fill, fun _ _ _ _ _ _ _ _ _ => channelFrame_unknownStream,
    fun _ _ _ _ _ _ _ _ _ => channelFrame_keyInvalid⟩

end Sys2Proof.Machine

/-! SUPPORT. The partitions of a D0 frame: its header, the time announcement, the BWmap and the sluice region (02_line_format.md, R36 to
R44). -/

namespace Sys2Proof.Machine

section
variable {s t : State} {l : Leg} {k i : Nat}

/-! ### The partition header -/

theorem exec_partitionHeader {word : BitVec 64} : exec (.partitionHeader l word) s = .next (s.partition l word.toNat) := rfl

theorem partitionHeader_announces {word : BitVec 64} (hdeln : (s.wave l 0).deln = .sync) (hdet : s.detecting l 0 = true)
    (hcrc : crc16 (msbBits 48 (word.toNat / 65536)) = word.toNat % 65536) (hnslot : bits word.toNat 45 33 ≤ 4096) :
    ∃ t, exec (.partitionHeader l word) s = .next t ∧ (t.leg l).partOk = true ∧ (t.leg l).bwLeft = bits word.toNat 63 53 ∧
    (t.leg l).nslot = bits word.toNat 45 33 := by
  refine ⟨_, exec_partitionHeader, ?_⟩
  rw [State.partition, if_neg (by simp [hdeln, hdet]), if_neg (by simp [hcrc, hnslot])]
  simp only [State.upd_leg_same, and_self]

theorem partitionHeader_crcErr {word : BitVec 64} (hdeln : (s.wave l 0).deln = .sync) (hdet : s.detecting l 0 = true)
    (hcrc : crc16 (msbBits 48 (word.toNat / 65536)) ≠ word.toNat % 65536) : ∃ t, exec (.partitionHeader l word) s = .next t ∧
    Counted Reg.LINE_D0CNT_PART_CRC_ERR l.n 0 1 s t ∧ (t.leg l).partOk = false := by
  refine ⟨_, exec_partitionHeader, ?_⟩
  rw [State.partition, if_neg (by simp [hdeln, hdet]), if_pos (by simp [hcrc])]
  constructor
  · exact (State.dropFrame_foot ..).counted_after rfl ((State.spill_foot ..).counted_after rfl
      ((State.pmCount_foot ..).counted_after rfl (counted_inc_at (by decide))))
  · rw [State.dropFrame, State.upd_leg_same]

/-! ### The time announcement -/

/-- How many superframes ago the last announcement was accepted, and whether its absence was raised. -/
def LegSt.sinceTod (g : LegSt) : Option Nat × Bool := (g.todSince, g.todRaised)

theorem State.takeTheta_sinceTod {x : Int} : ((s.takeTheta l x).leg l).sinceTod = (s.leg l).sinceTod := by
  unfold State.takeTheta
  extract_lets ok s₁ s₂ s₃ lock unl
  have h₃ : (s₃.leg l).sinceTod = (s.leg l).sinceTod := by
    rw [State.inc_leg, State.wr_leg, State.upd_leg_same, LegSt.sinceTod, LegSt.sinceTod]
  split
  · exact h₃
  · cases l <;> exact h₃

theorem State.estimate_sinceTod {ref t16 : Nat} : ((s.estimate l ref t16).leg l).sinceTod = (s.leg l).sinceTod := by
  unfold State.estimate
  split
  · split
    · rw [State.upd_leg_same, LegSt.sinceTod, LegSt.sinceTod]
    · rfl
  · split
    · rw [State.inc_leg]
    · split
      · rfl
      · exact State.takeTheta_sinceTod

theorem State.setTime_leg {x : TimeSt} : State.leg { s with time := x } l = s.leg l := by cases l <;> rfl

theorem exec_todAnnouncement {word : BitVec 256} : exec (.todAnnouncement l word) s = .next (s.todAnnounce l word.toNat) := rfl

/-- REF_SFC is the announcement's first 48 bits. -/
theorem refSfc_eq (word : BitVec 256) : word.toNat / 2 ^ (8 * (32 - 0 - 6)) % 2 ^ (8 * 6) = word.toNat / 2 ^ 208 :=
  Nat.mod_eq_of_lt (Nat.div_lt_of_lt_mul word.isLt)

theorem todAnnouncement_rejected {word : BitVec 256} (hdeln : (s.wave l 0).deln = .sync) (hpart : (s.leg l).partOk = true)
    (htodp : (s.leg l).todp = true) (hcrc : crc32 (msbBits 224 (word.toNat / 2 ^ 32)) ≠ word.toNat % 2 ^ 32) :
    ∃ t, exec (.todAnnouncement l word) s = .next t ∧ Counted Reg.LINE_D0CNT_TOD_REJECT l.n 0 1 s t ∧
    (t.leg l).todSince = (s.leg l).todSince := by
  refine ⟨_, exec_todAnnouncement, ?_⟩
  unfold State.todAnnounce
  dsimp only
  rw [if_neg (by simp [hdeln, hpart, htodp]), bne_iff_ne.2 hcrc, Bool.true_or, Bool.true_or, if_pos rfl]
  refine ⟨counted_of_rd_before (State.rd_upd ..) (counted_inc_at (by decide)), ?_⟩
  rw [State.inc_leg, State.upd_leg_same]

theorem State.upd_cur {f : LegSt → LegSt} (hf : (f (s.leg l)).waves = (s.leg l).waves) : (s.upd l f).cur l = s.cur l := by
  rw [State.cur, State.wave, State.upd_leg_same, hf, State.cur, State.wave]

theorem todAnnouncement_accepted {word : BitVec 256} (hdeln : (s.wave l 0).deln = .sync) (hpart : (s.leg l).partOk = true)
    (htodp : (s.leg l).todp = true) (hcrc : crc32 (msbBits 224 (word.toNat / 2 ^ 32)) = word.toNat % 2 ^ 32)
    (hlate : word.toNat / 2 ^ 208 ≤ s.cur l + 8) (hearly : s.cur l ≤ word.toNat / 2 ^ 208 + 8) :
    ∃ t, exec (.todAnnouncement l word) s = .next t ∧ (t.leg l).todSince = some 0 ∧ (t.leg l).todRaised = false := by
  have since : ((s.todAnnounce l word.toNat).leg l).sinceTod = (some 0, false) := by
    unfold State.todAnnounce
    extract_lets fld ref s₁ flags s₂ utc time s₃ s₄
    have href : ref = word.toNat / 2 ^ 208 := refSfc_eq word
    have hcur : s₁.cur l = s.cur l := State.upd_cur rfl
    have h₂ : (s₂.leg l).sinceTod = (some 0, false) := by rw [State.upd_leg_same, LegSt.sinceTod]
    have h₃ : (s₃.leg l).sinceTod = (some 0, false) := by
      simp only [s₃]
      split
      · rw [State.setTime_leg, (State.copyUtc_foot ..).leg_keeps rfl, h₂]
      · exact h₂
    have h₄ : (s₄.leg l).sinceTod = (some 0, false) := by
      simp only [s₄]
      split
      · rw [State.estimate_sinceTod, h₃]
      · exact h₃
    rw [if_neg (by simp [hdeln, hpart, htodp]), bne_eq_false_iff_eq.2 hcrc, href, hcur,
      if_neg (by simp only [gt_iff_lt, Nat.not_lt.2 hlate, Nat.not_lt.2 hearly, decide_false, Bool.or_self, not_false_eq_true,
        Bool.false_eq_true]),
      (State.settleTime_foot _).leg_keeps rfl, h₄]
  obtain ⟨hs, hr⟩ := Prod.mk.inj since
  exact ⟨_, exec_todAnnouncement, hs, hr⟩

/-! ### The BWmap -/

theorem exec_allocationStructure {word : BitVec 64} : exec (.allocationStructure l word) s = .next (s.allocStruct l word.toNat) := rfl

theorem allocationStructure_hecErr {word : BitVec 64} (hpart : (s.leg l).partOk = true) (hleft : (s.leg l).bwLeft ≠ 0)
    (hhec : hecOk word.toNat = false) : ∃ t, exec (.allocationStructure l word) s = .next t ∧
    Counted Reg.LINE_D0CNT_ALLOC_HEC_ERR l.n 0 1 s t := by
  refine ⟨_, exec_allocationStructure, ?_⟩
  unfold State.allocStruct
  extract_lets key s₁ last s₂
  have h₁ : Counted Reg.LINE_D0CNT_ALLOC_HEC_ERR l.n 0 1 s s₁ := by
    simp only [s₁]
    rw [if_pos (by simp [hhec])]
    exact (State.pmCount_foot ..).counted_after rfl (counted_inc_at (by decide))
  have h₂ : Counted Reg.LINE_D0CNT_ALLOC_HEC_ERR l.n 0 1 s s₂ := counted_of_rd_after (State.rd_upd ..) h₁
  rw [if_neg (by simp [hpart, hleft])]
  split
  · exact (State.decideAll_foot ..).counted_after rfl h₂
  · exact h₂

/-- The allocations after a structure that is not the BWmap's last: what R41 and R42 make of it. -/
theorem State.allocStruct_notLast {w : Nat} (hpart : (s.leg l).partOk = true) (hleft : (s.leg l).bwLeft ≠ 0) (hhec : hecOk w = true)
    (hacc : s.accept l (bits w 63 50) (bit w 49) (bits w 48 32) (bits w 31 15) (bits w 14 13) (bits w 12 11) ((s.d0Key l + 2) / 8)
      ((s.d0Key l + 2) % 8) = t) (hmore : 2 ≤ (t.leg l).bwLeft) :
    s.allocStruct l w = t.upd l fun g => { g with bwLeft := g.bwLeft - 1 } := by
  unfold State.allocStruct
  dsimp only
  rw [if_neg (by simp [hpart, hleft]), if_neg (by simp [hhec] : ¬(!hecOk w) = true), hacc]
  exact if_neg (by simpa using Nat.lt_of_succ_le hmore)

theorem allocationStructure_passedOver {word : BitVec 64} (hpart : (s.leg l).partOk = true) (hleft : (s.leg l).bwLeft ≠ 0)
    (hmore : 2 ≤ (s.leg l).bwLeft) (hhec : hecOk word.toNat = true)
    (hnone : s.addressee l (bits word.toNat 63 50) ((s.d0Key l + 2) / 8) = none) : ∃ t, exec (.allocationStructure l word) s = .next t ∧
    (t.leg l).bwLeft = (s.leg l).bwLeft - 1 ∧ (t.leg l).allocs = (s.leg l).allocs := by
  have hacc : s.accept l (bits word.toNat 63 50) (bit word.toNat 49) (bits word.toNat 48 32) (bits word.toNat 31 15) (bits word.toNat 14 13)
      (bits word.toNat 12 11) ((s.d0Key l + 2) / 8) ((s.d0Key l + 2) % 8) = s := by
    rw [State.accept, hnone]
  rw [exec_allocationStructure, State.allocStruct_notLast hpart hleft hhec hacc hmore]
  exact ⟨_, rfl, by rw [State.upd_leg_same], by rw [State.upd_leg_same]⟩

/-- The leg's own number names RANGE and SLUICE windows (R41). -/
theorem State.addressee_own {id sfc tn : Nat} (htn : s.hasTn l = true) (hnum : s.rd Reg.ACT_STATUS_TN l.n = tn) (hid : id = 0x3000 + tn)
    (hlt : tn < 0x3FE) : s.addressee l id sfc = some fun t => if t = 3 then some .range else if t = 2 then some .sluice else none := by
  unfold State.addressee
  rw [if_neg (by omega), if_neg (by omega), if_pos (by omega), if_pos (by simp [htn, hnum, hid])]

/-- A RANGE structure that passes R42 is added, and ends the gap of RANGE (R86). -/
theorem State.accept_range {w tn : Nat} (hgrant : s.grantSf l ((s.d0Key l + 2) / 8) = true) (htyp : bits w 14 13 = 3)
    (htn : s.hasTn l = true) (hnum : s.rd Reg.ACT_STATUS_TN l.n = tn) (hid : bits w 63 50 = 0x3000 + tn) (hlt : tn < 0x3FE)
    (hok : s.allocOk l (rangeAlloc s l w) = true) :
    s.accept l (bits w 63 50) (bit w 49) (bits w 48 32) (bits w 31 15) (bits w 14 13) (bits w 12 11) ((s.d0Key l + 2) / 8)
      ((s.d0Key l + 2) % 8) =
    (s.upd l fun g => { g with allocs := g.allocs ++ [rangeAlloc s l w] }).upd l fun g => { g with rangeMissed := false } := by
  have htaken : s.grantSf l (rangeAlloc s l w).sfc = true := hgrant
  unfold State.accept
  rw [State.addressee_own htn hnum hid hlt]
  dsimp only
  rw [if_pos htyp]
  dsimp only
  change (if !s.allocOk l (rangeAlloc s l w) then _ else if !s.grantSf l (rangeAlloc s l w).sfc then _ else _) = _
  rw [if_neg (by simp [hok]), if_neg (by simp [htaken])]
  rfl

theorem allocationStructure_range {word : BitVec 64} (hpart : (s.leg l).partOk = true) (hleft : (s.leg l).bwLeft ≠ 0)
    (hgrant : s.grantSf l ((s.d0Key l + 2) / 8) = true) (hmore : 2 ≤ (s.leg l).bwLeft) (hhec : hecOk word.toNat = true)
    (htyp : bits word.toNat 14 13 = 3) (htn : s.hasTn l = true) (hid : bits word.toNat 63 50 = 0x3000 + s.rd Reg.ACT_STATUS_TN l.n)
    (hlt : s.rd Reg.ACT_STATUS_TN l.n < 0x3FE) (hok : s.allocOk l (rangeAlloc s l word.toNat) = true) :
    ∃ t, exec (.allocationStructure l word) s = .next t ∧ (t.leg l).allocs = (s.leg l).allocs ++ [rangeAlloc s l word.toNat] := by
  rw [exec_allocationStructure, State.allocStruct_notLast hpart hleft hhec (State.accept_range hgrant htyp htn rfl hid hlt hok)
    (by rwa [State.upd_leg_same, State.upd_leg_same])]
  exact ⟨_, rfl, by simp only [State.upd_leg_same]⟩

/-! ### The sluice region -/

theorem exec_sluiceRegion {slots : List (BitVec 128)} {crc : BitVec 32} :
    exec (.sluiceRegion l slots crc) s = .next (s.sluiceRegion l slots crc.toNat) := rfl

/-- Read by position, a list of the announced length is the list. -/
theorem map_getD_range {n : Nat} {slots : List (BitVec 128)} (hn : slots.length = n) :
    (List.range n).map (fun i => (slots.getD i 0).toNat) = slots.map fun x => x.toNat := by
  subst hn
  apply List.ext_getElem (by simp)
  intro i h₁ h₂
  simp [List.getElem?_eq_getElem (by simpa using h₂ : i < slots.length)]

theorem sluiceRegion_gives {slots : List (BitVec 128)} {crc : BitVec 32} (hpart : (s.leg l).partOk = true) (hn : (s.leg l).nslot ≠ 0)
    (hseen : (s.leg l).slotsSeen = false) (hdeln : (s.wave l 0).deln = .sync) (hlen : slots.length = (s.leg l).nslot)
    (hcrc : crc32 ((slots.map fun x => x.toNat).flatMap fun x => msbBits 128 x) = crc.toNat) :
    ∃ t, exec (.sluiceRegion l slots crc) s = .next t ∧ (t.leg l).slots = slots.map (fun x => x.toNat) ∧ (t.leg l).sluBad = false ∧
    (t.leg l).slotsSeen = true := by
  refine ⟨_, exec_sluiceRegion, ?_⟩
  unfold State.sluiceRegion
  extract_lets g xs bad s₁ s₂ mapped
  have hxs : xs = slots.map fun x => x.toNat := map_getD_range hlen
  have hbad : bad = false := by simp [bad, hxs, hcrc]
  have h₂ : (s₂.leg l).slots = xs ∧ (s₂.leg l).sluBad = false ∧ (s₂.leg l).slotsSeen = true := by
    simp only [s₂, State.upd_leg_same, hbad, and_self]
  rw [if_neg (by simp [g, hpart, hn, hseen, hdeln]), ← hxs]
  split
  · exact h₂
  · simpa only [State.inc_leg] using h₂

end

/-- Settles O7, one partition at a time. -/
theorem partitionsOfAFrameAreRead : Obligations.PartitionsOfAFrameAreRead := by
  unfold Obligations.PartitionsOfAFrameAreRead
  exact ⟨fun _ _ _ => partitionHeader_announces, fun _ _ _ => partitionHeader_crcErr, fun _ _ _ => todAnnouncement_rejected,
    fun _ _ _ => todAnnouncement_accepted, fun _ _ _ => allocationStructure_hecErr, fun _ _ _ => allocationStructure_passedOver,
    fun _ _ _ => allocationStructure_range, fun _ _ _ _ => sluiceRegion_gives⟩

end Sys2Proof.Machine

/-! SUPPORT. The quality states and the holdover count of the time engine, the missing announcement and INCR_HO (04_time_transfer.md, R108,
R120 to R122; 02_line_format.md, R39). -/

namespace Sys2Proof.Machine

section
variable {s t : State} {l : Leg} {q b0 src det : Nat}

@[simp] theorem State.event_time : (s.event src det).time = s.time := (State.event_foot ..).time rfl

/-! ### What following R108 leaves -/

/-- How many estimates in a row lay in the lock window, and outside the unlock window. -/
def TimeSt.lockRuns (x : TimeSt) : Nat × Nat := (x.lockRun, x.unlockRun)

theorem State.settleHo_lockRuns : (s.settleHo b0).time.lockRuns = s.time.lockRuns := by
  unfold State.settleHo
  dsimp only
  split
  · rfl
  · split <;> rfl

theorem State.settleBound_lockRuns : s.settleBound.time.lockRuns = s.time.lockRuns := by
  unfold State.settleBound
  dsimp only
  split
  · rfl
  · split
    · rw [State.event_time]
      rfl
    · rfl

theorem State.settleTime_lockRuns : s.settleTime.time.lockRuns = s.time.lockRuns := by
  unfold State.settleTime
  extract_lets s₁ u s₂ s₃ s₄ s₅
  have h₂ : s₂.time = s.time := (State.settleSource_foot _).time rfl
  have h₃ : s₃.time = s.time := by
    simp only [s₃]
    split
    · rw [State.event_time, h₂]
    · exact h₂
  have h₄ : s₄.time.lockRuns = s.time.lockRuns := by
    simp only [s₄]
    split
    · have hset : (s₃.setTgt s₃.time.incrHo).time.lockRuns = s₃.time.lockRuns := rfl
      exact hset.trans (congrArg TimeSt.lockRuns h₃)
    · exact congrArg TimeSt.lockRuns h₃
  rw [State.settleBound_lockRuns, State.settleHo_lockRuns]
  exact h₄

/-- Whether a leg is usable for time is nothing that following R108 changes. -/
theorem State.settleTime_legUsable : s.settleTime.legUsable l = s.legUsable l := by
  have h := s.settleTime_foot
  simp only [State.legUsable, State.teqShort, State.eqdNow, State.isOn, h.wave_keeps (l := l) rfl, h.leg_keeps (l := l) rfl,
    h.rd_leg (R := Reg.ACT_STATUS_STATE) (l := l) rfl, h.rd_leg (R := Reg.TIME_LEG_TEQ_TEQ_VALID) (l := l) rfl,
    h.rd_leg (R := Reg.TIME_LEG_TEQ) (l := l) rfl, h.rd_leg (R := Reg.ACT_EQD_EQD_FINE) (l := l) rfl,
    h.rd_leg (R := Reg.ACT_EQD_EQD_GRAINS) (l := l) rfl]
  rfl

theorem State.settleTime_active : s.settleTime.active = s.active := by
  rw [State.active, s.settleTime_foot.rd_keeps rfl, State.active]

/-! ### Quality states -/

theorem exec_qualityEvaluate (hrun : s.runs .mgmt = true) (hfw : s.fwPresent = true) :
    exec .qualityEvaluate s = .next s.settleTime.evaluate.settleTime :=
  congrArg Host.Outcome.next ((if_pos hrun).trans (if_pos hfw))

theorem State.evaluate_locks (hu : s.legUsable s.active = true) (hq : s.rd Reg.TIME_QUAL_QUALITY = 1)
    (hdone : s.isOn Reg.TIME_QUAL_STEP_DONE = true) (hrun : max 1 (s.rd Reg.TIME_SERVO_CTL_LOCK_SF) ≤ s.time.lockRun) :
    s.evaluate = s.setQuality 2 := by
  simp only [State.evaluate, hu, if_true, hq, hdone, Bool.not_true, Bool.and_true, Bool.false_and, Bool.false_eq_true, if_false]
  exact if_pos hrun

theorem State.evaluate_unlocks (hu : s.legUsable s.active = true) (hq : s.rd Reg.TIME_QUAL_QUALITY = 2)
    (hrun : max 1 (s.rd Reg.TIME_SERVO_CTL_UNLOCK_SF) ≤ s.time.unlockRun) : s.evaluate = s.setQuality 1 := by
  unfold State.evaluate
  dsimp only
  rw [hu, if_pos rfl, hq]
  exact if_pos hrun

theorem State.settleTime_quality : s.settleTime.rd Reg.TIME_QUAL_QUALITY = s.rd Reg.TIME_QUAL_QUALITY := s.settleTime_foot.rd_keeps rfl

/-- The quality that firmware enters shows after the command. -/
theorem qualityEvaluate_enters (hrun : s.runs .mgmt = true) (hfw : s.fwPresent = true) (hq : q < 8)
    (heq : s.settleTime.evaluate = s.settleTime.setQuality q) : ∃ t, exec .qualityEvaluate s = .next t ∧ t.rd Reg.TIME_QUAL_QUALITY = q := by
  rw [exec_qualityEvaluate hrun hfw, heq]
  exact ⟨_, rfl, State.settleTime_quality.trans (State.setQuality_quality hq)⟩

theorem qualityEvaluate_locks (hrun : s.runs .mgmt = true) (hfw : s.fwPresent = true) (hu : s.legUsable s.active = true)
    (hq : s.rd Reg.TIME_QUAL_QUALITY = 1) (hdone : s.isOn Reg.TIME_QUAL_STEP_DONE = true)
    (hlock : max 1 (s.rd Reg.TIME_SERVO_CTL_LOCK_SF) ≤ s.time.lockRun) :
    ∃ t, exec .qualityEvaluate s = .next t ∧ t.rd Reg.TIME_QUAL_QUALITY = 2 := by
  have hruns : s.settleTime.time.lockRun = s.time.lockRun := congrArg Prod.fst State.settleTime_lockRuns
  refine qualityEvaluate_enters hrun hfw (by decide) (State.evaluate_locks ?_ (State.settleTime_quality.trans hq) ?_ ?_)
  · rw [State.settleTime_active, State.settleTime_legUsable, hu]
  · rwa [State.isOn, s.settleTime_foot.rd_keeps rfl]
  · rwa [s.settleTime_foot.rd_keeps rfl, hruns]

theorem qualityEvaluate_unlocks (hrun : s.runs .mgmt = true) (hfw : s.fwPresent = true) (hu : s.legUsable s.active = true)
    (hq : s.rd Reg.TIME_QUAL_QUALITY = 2) (hlost : max 1 (s.rd Reg.TIME_SERVO_CTL_UNLOCK_SF) ≤ s.time.unlockRun) :
    ∃ t, exec .qualityEvaluate s = .next t ∧ t.rd Reg.TIME_QUAL_QUALITY = 1 := by
  have hruns : s.settleTime.time.unlockRun = s.time.unlockRun := congrArg Prod.snd State.settleTime_lockRuns
  refine qualityEvaluate_enters hrun hfw (by decide) (State.evaluate_unlocks ?_ (State.settleTime_quality.trans hq) ?_)
  · rw [State.settleTime_active, State.settleTime_legUsable, hu]
  · rwa [s.settleTime_foot.rd_keeps rfl, hruns]

theorem qualityEvaluate_absent (hfw : s.fwPresent = false) : exec .qualityEvaluate s = .next s := by
  refine congrArg Host.Outcome.next ?_
  rw [State.inDom, hfw, if_neg Bool.false_ne_true, ite_self]

/-! ### Holdover -/

theorem State.settleHo_elapsed (h : s.time.hoOn = true ∨ s.rd Reg.TIME_QUAL_QUALITY = 0) :
    (s.settleHo b0).rd Reg.TIME_HO_ELAPSED = s.rd Reg.TIME_HO_ELAPSED := by
  unfold State.settleHo
  dsimp only
  split
  next hstart =>
    obtain ⟨hwant, hoff⟩ := Bool.and_eq_true_iff.1 hstart
    rcases h with hon | hq
    · simp [hon] at hoff
    · simp [hq] at hwant
  next =>
    split
    · rfl
    · rfl

/-- What a change of the quality changes before holdover follows it; bit 243 is TIME_CNT_HOLDOVER_ENTRIES. -/
def fpQualityShown : Nat := fp8 ||| fp13 ||| fp151 ||| fp153 ||| 2 ^ 243

/-- A change of the quality restarts the count of holdover only as holdover begins. -/
theorem State.setQuality_elapsed (h : s.time.hoOn = true ∨ q = 0) :
    (s.setQuality q).rd Reg.TIME_HO_ELAPSED = s.rd Reg.TIME_HO_ELAPSED := by
  by_cases hq : s.rd Reg.TIME_QUAL_QUALITY = q
  · rw [State.setQuality, if_pos hq]
  rw [State.setQuality, if_neg hq]
  extract_lets b0 _ _ entered marked held target _ ended _ lifted
  have hentered : Foot fpQualityShown (s.wr Reg.TIME_QUAL_QUALITY q) entered := .step (State.event_foot ..) rfl (.setTime rfl .refl)
  have hmarked : Foot fpQualityShown (s.wr Reg.TIME_QUAL_QUALITY q) marked := .ite hentered (.step (State.markBins_foot ..) rfl hentered)
  have hheld : Foot fpQualityShown (s.wr Reg.TIME_QUAL_QUALITY q) held :=
    .ite (.step (State.event_foot ..) rfl (.inc rfl (Or.inr rfl) hmarked)) hmarked
  have htarget : Foot fpQualityShown (s.wr Reg.TIME_QUAL_QUALITY q) target := .ite (.step (State.setTgt_foot ..) rfl hheld) hheld
  have hended : Foot fpQualityShown (s.wr Reg.TIME_QUAL_QUALITY q) ended :=
    .ite (.step (State.event_foot ..) rfl (.setTime rfl htarget)) htarget
  have hlifted : Foot fpQualityShown (s.wr Reg.TIME_QUAL_QUALITY q) lifted := .ite (.setTime rfl hended) hended
  have hshown : Foot fpQualityShown (s.wr Reg.TIME_QUAL_QUALITY q) lifted.settleSquelch := .step (State.settleSquelch_foot _) rfl hlifted
  have onEntered : entered.time.hoOn = s.time.hoOn := by
    simp only [entered, State.event_time]
    rfl
  have onMarked : marked.time.hoOn = s.time.hoOn := by
    simp only [marked]
    split
    · exact onEntered
    · rwa [(State.markBins_foot ..).time rfl]
  have onHeld : held.time.hoOn = s.time.hoOn := by
    simp only [held]
    split
    · rwa [State.event_time]
    · exact onMarked
  have onTarget : target.time.hoOn = s.time.hoOn := by
    simp only [target]
    split <;> exact onHeld
  have onEnded : ended.time.hoOn = s.time.hoOn := by
    simp only [ended]
    split
    · rwa [State.event_time]
    · exact onTarget
  have onLifted : lifted.settleSquelch.time.hoOn = s.time.hoOn := by
    rw [(State.settleSquelch_foot _).time rfl]
    simp only [lifted]
    split <;> exact onEnded
  have stays : lifted.settleSquelch.time.hoOn = true ∨ lifted.settleSquelch.rd Reg.TIME_QUAL_QUALITY = 0 := by
    rcases h with hon | rfl
    · exact Or.inl (onLifted.trans hon)
    · refine Or.inr ((hshown.rd_keeps rfl).trans (State.rd_wr_same (by decide)))
  rw [(State.settleBound_foot _).rd_keeps rfl, State.settleHo_elapsed stays, hshown.rd_keeps rfl]
  exact State.rd_wr_shared rfl

/-- The rows of R120 that the own bound decides leave the count. -/
theorem State.holdoverJudge_elapsed (h : s.time.hoOn = true) : s.holdoverJudge.rd Reg.TIME_HO_ELAPSED = s.rd Reg.TIME_HO_ELAPSED := by
  unfold State.holdoverJudge
  extract_lets own exceeded
  have hexceeded : exceeded.rd Reg.TIME_HO_ELAPSED = s.rd Reg.TIME_HO_ELAPSED := by
    simp only [exceeded]
    split
    · exact State.setQuality_elapsed (Or.inl h)
    · rfl
  split
  · exact (State.setQuality_elapsed (Or.inr rfl)).trans hexceeded
  · exact hexceeded

theorem State.settleBound_hoOn : s.settleBound.time.hoOn = s.time.hoOn := by
  unfold State.settleBound
  dsimp only
  split
  · rfl
  · split
    · rw [State.event_time]
    · rfl

theorem holdoverBoundAdvance_off (h : s.time.hoOn = false) : exec .holdoverBoundAdvance s = .next s := by
  refine congrArg Host.Outcome.next ?_
  rw [State.inDom, State.holdoverTick, h]
  exact ite_self _

theorem holdoverBoundAdvance_counts (hrun : s.runs .time = true) (h : s.time.hoOn = true) : ∃ t, exec .holdoverBoundAdvance s = .next t ∧
    t.rd Reg.TIME_HO_ELAPSED = min (s.rd Reg.TIME_HO_ELAPSED + 1) (2 ^ Reg.TIME_HO_ELAPSED.width - 1) := by
  have hex : exec .holdoverBoundAdvance s = .next s.holdoverTick := congrArg Host.Outcome.next (if_pos hrun)
  have htick : s.holdoverTick = (s.incSat Reg.TIME_HO_ELAPSED).settleBound.holdoverJudge := if_neg (by simp [h])
  refine ⟨_, hex, ?_⟩
  rw [htick, State.holdoverJudge_elapsed ((State.settleBound_hoOn (s := s.incSat Reg.TIME_HO_ELAPSED)).trans h),
    (State.settleBound_foot _).rd_keeps rfl, State.incSat, State.rd_wr_same (by decide)]
  exact Nat.mod_eq_of_lt (lt_of_le_of_lt (min_le_right ..) (by decide))

/-! ### The missing announcement -/

theorem exec_todMissing : exec (.todMissing l) s = .next (s.todMissing l) := rfl

theorem todMissing_raises {n : Nat} (hr : (s.leg l).todRaised = false) (hs : (s.leg l).todSince = some n) (hn : 8 ≤ n) :
    ∃ t, exec (.todMissing l) s = .next t ∧ (t.leg l).todRaised = true ∧ (t.leg l).todSince = some n := by
  refine ⟨_, exec_todMissing, ?_⟩
  rw [State.todMissing, if_neg (by simp [hr, hs, hn]), (State.settleTime_foot _).leg_keeps rfl, State.event_leg, State.upd_leg_same]
  exact ⟨rfl, hs⟩

theorem todMissing_once (hr : (s.leg l).todRaised = true) : exec (.todMissing l) s = .next s :=
  congrArg Host.Outcome.next (if_pos (by simp [hr]))

/-! ### INCR_HO -/

section
variable {incrF : BitVec 48} {yref : Int} {y0 : Nat}

/-- The estimate before the limiter's target follows it: INCR_HO, y_REF, and the request for a replacement (R121, R275). -/
def State.noteRef (s : State) (f : Nat) (y : Int) (y0 : Nat) : State :=
  let s := { s with time := { s.time with incrHo := incrHoOf f y, y0Next := y0 % 2 ^ 32 } }.wr Reg.TIME_REF_OFS (unsigned 32 y)
  if absNat y > 40000000 then s.replaceRequest 4 else s

/-- In holdover the limiter's target follows INCR_HO (R120). -/
def State.aimHoldover (s : State) : State :=
  if !s.legUsable s.active && s.isOn Reg.TIME_CTL_SERVO_EN && s.rd Reg.TIME_QUAL_QUALITY ≥ 3 then s.setTgt s.time.incrHo else s

theorem exec_incrHoUpdate (hfw : s.fwPresent = true) (hu : s.legUsable .a = true ∨ s.legUsable .b = true) : ∃ t,
    exec (.incrHoUpdate incrF yref y0) s = .next t ∧ t.time.incrHo = (s.noteRef incrF.toNat yref y0).time.incrHo ∧
    t.regs = (s.noteRef incrF.toNat yref y0).regs := by
  have hex : exec (.incrHoUpdate incrF yref y0) s = .next (s.incrHoUpdate incrF.toNat yref y0) := rfl
  have hgo : ¬(!s.fwPresent || !(s.legUsable .a || s.legUsable .b)) = true := by
    rcases hu with h | h <;> simp [hfw, h]
  have heq : s.incrHoUpdate incrF.toNat yref y0 = (s.noteRef incrF.toNat yref y0).aimHoldover := if_neg hgo
  rw [hex, heq]
  generalize s.noteRef incrF.toNat yref y0 = u
  refine ⟨_, rfl, ?_⟩
  unfold State.aimHoldover
  split <;> exact ⟨rfl, rfl⟩

theorem State.noteRef_incrHo {f : Nat} : (s.noteRef f yref y0).time.incrHo = incrHoOf f yref := by
  unfold State.noteRef
  dsimp only
  split
  · rw [(State.replaceRequest_foot ..).time rfl]
    rfl
  · rfl

theorem unsigned_lt (w : Nat) (x : Int) : unsigned w x < 2 ^ w := by
  unfold unsigned
  have hpos : (0 : Int) < 2 ^ w := by positivity
  have := Int.emod_lt_of_pos x hpos
  have := Int.emod_nonneg x hpos.ne'
  zify
  omega

theorem State.noteRef_ofs {f : Nat} : (s.noteRef f yref y0).rd Reg.TIME_REF_OFS = unsigned 32 yref := by
  have written : ∀ u : State, (u.wr Reg.TIME_REF_OFS (unsigned 32 yref)).rd Reg.TIME_REF_OFS = unsigned 32 yref := fun u =>
    (State.rd_wr_same (by decide)).trans (Nat.mod_eq_of_lt (unsigned_lt ..))
  unfold State.noteRef
  dsimp only
  split
  · exact ((State.replaceRequest_foot ..).rd_keeps rfl).trans (written _)
  · exact written _

/-- A reason that is requested stands. -/
theorem State.replaceRequest_stands : bit ((s.replaceRequest 4).rd Reg.PROT_RR_STATUS_REASONS) 4 = 1 := by
  unfold State.replaceRequest
  dsimp only
  split
  next h => exact h
  next h =>
    rw [(State.event_foot ..).rd_keeps rfl, State.rd_wr_same (by decide)]
    have hw : Reg.PROT_RR_STATUS_REASONS.width = 6 := rfl
    simp only [bit, hw] at h ⊢
    omega

theorem incrHoUpdate_sets (hfw : s.fwPresent = true) (hu : s.legUsable .a = true ∨ s.legUsable .b = true) :
    ∃ t, exec (.incrHoUpdate incrF yref y0) s = .next t ∧ t.time.incrHo = incrHoOf incrF.toNat yref ∧
    t.rd Reg.TIME_REF_OFS = unsigned 32 yref := by
  obtain ⟨t, hex, hho, hregs⟩ := exec_incrHoUpdate (incrF := incrF) (yref := yref) (y0 := y0) hfw hu
  refine ⟨t, hex, hho.trans State.noteRef_incrHo, ?_⟩
  rw [State.rd, hregs]
  exact State.noteRef_ofs

theorem incrHoUpdate_ages (hfw : s.fwPresent = true) (hu : s.legUsable .a = true ∨ s.legUsable .b = true)
    (hy : 40000000 < yref ∨ yref < -40000000) : ∃ t, exec (.incrHoUpdate incrF yref y0) s = .next t ∧
    bit (t.rd Reg.PROT_RR_STATUS_REASONS) 4 = 1 := by
  obtain ⟨t, hex, -, hregs⟩ := exec_incrHoUpdate (incrF := incrF) (yref := yref) (y0 := y0) hfw hu
  have hfar : absNat yref > 40000000 := by
    unfold absNat
    omega
  refine ⟨t, hex, ?_⟩
  rw [State.rd, hregs, State.noteRef]
  dsimp only
  rw [if_pos hfar]
  exact State.replaceRequest_stands

theorem incrHoUpdate_absent (hfw : s.fwPresent = false) : exec (.incrHoUpdate incrF yref y0) s = .next s :=
  congrArg Host.Outcome.next (if_pos (by simp [hfw]))

end

end

/-- Settles O20: what follows R108 leaves the runs of estimates and the quality, and the quality's change leaves the count of holdover. -/
theorem qualityHoldoverAndAnnouncements : Obligations.QualityHoldoverAndAnnouncements := by
  unfold Obligations.QualityHoldoverAndAnnouncements
  exact ⟨fun _ => qualityEvaluate_locks, fun _ => qualityEvaluate_unlocks, fun _ => qualityEvaluate_absent, fun _ => holdoverBoundAdvance_off,
    fun _ => holdoverBoundAdvance_counts, fun _ _ _ => todMissing_raises, fun _ _ => todMissing_once, fun _ _ _ _ => incrHoUpdate_sets,
    fun _ _ _ _ => incrHoUpdate_ages, fun _ _ _ _ => incrHoUpdate_absent⟩

end Sys2Proof.Machine

/-! SUPPORT. The terminal's requests and the sleep cycle: a request closes, is sent again or is given up; the grant of sleep, its frames and
its end (02_line_format.md, R70, R71; 14_power_clocks_reset.md, R369 to R373). -/

namespace Sys2Proof.Machine

section
variable {s t u : State} {l k : Leg} {m msg : BitVec 384} {typ frag st code txid : Nat} {act : State → Took × State}

/-! ### What a message leaves outside the legs -/

@[simp] theorem State.heard_pwr : (s.heard l).pwr = s.pwr := State.upd_pwr ..

@[simp] theorem State.heard_fwPresent : (s.heard l).fwPresent = s.fwPresent := State.heard_isOn

theorem State.ack_keeps : (s.ack l txid typ st).pwr = s.pwr ∧ (s.ack l txid typ st).regs = s.regs := by
  unfold State.ack
  split
  · exact ⟨State.upd_pwr .., State.upd_regs ..⟩
  · exact ⟨rfl, rfl⟩

/-- What is remembered and acknowledged of a message that is answered stands on the leg alone. -/
theorem State.onMsg_answered_keeps (h : s.takes l typ m false frag = true) (ha : act s = (.answered st, t)) :
    (s.onMsg l typ m false frag act).pwr = t.pwr ∧ (s.onMsg l typ m false frag act).regs = t.regs := by
  rw [State.onMsg_answered h ha, State.ack_keeps.1, State.ack_keeps.2]
  exact ⟨State.upd_pwr .., State.upd_regs ..⟩

theorem State.upd_acks {f : LegSt → LegSt} (hf : ∀ g, (f g).acks = g.acks) : ((s.upd l f).leg k).acks = (s.leg k).acks := by
  by_cases hk : k = l
  · rw [hk, State.upd_leg_same, hf]
  · rw [State.upd_leg_ne hk]

theorem State.heard_acks : ((s.heard l).leg k).acks = (s.leg k).acks := State.upd_acks fun _ => rfl

/-! ### RESPONSE -/

/-- RESPONSE's own effect, by the request that it closes. -/
def State.respond (s : State) (l : Leg) (msg : BitVec 384) : State :=
  s.onMsg l 0x0E msg false 0 fun s => match s.reqs.find? fun q => q.txid == msgTxid msg with
    | none => (.ignored, s)
    | some q =>
      let s := s.dropReq q.txid
      let s := if q.code = 1 then s.wakeAnswered else if q.code = 2 then s.closeSleep q (some (mfield msg 6 1)) else s
      (.silent, s)

theorem exec_response (hm : Hears s l) (hfw : s.fwPresent = true) : exec (.response l msg) s = .next ((s.heard l).respond l msg) :=
  congrArg Host.Outcome.next ((State.inFrame_of_hears hm _).trans (State.fwMsg_present (State.heard_fwPresent.trans hfw)))

theorem State.respond_closes {q : Req} (ht : s.takes l 0x0E msg false 0 = true)
    (hq : s.reqs.find? (fun q => q.txid == msgTxid msg) = some q) (h₁ : q.code ≠ 1) (h₂ : q.code ≠ 2) :
    s.respond l msg = (s.dropReq q.txid).taken l msg 0x0E 0 none :=
  State.onMsg_silent ht (by simp only [hq, h₁, h₂, if_false])

theorem response_closes {q : Req} (hm : Hears s l) (ht : s.takes l 0x0E msg false 0 = true) (hfw : s.fwPresent = true)
    (hq : s.reqs.find? (fun q => q.txid == msgTxid msg) = some q) (h₁ : q.code ≠ 1) (h₂ : q.code ≠ 2) :
    ∃ t, exec (.response l msg) s = .next t ∧ t.reqs = s.reqs.filter (fun p => p.txid != q.txid) ∧ t.regs = s.regs := by
  have hreqs : (s.heard l).reqs = s.reqs := State.upd_reqs ..
  rw [exec_response hm hfw, State.respond_closes (State.heard_takes.trans ht) (by rwa [hreqs]) h₁ h₂]
  refine ⟨_, rfl, (State.upd_reqs ..).trans ?_, (State.upd_regs ..).trans (State.upd_regs ..)⟩
  rw [State.dropReq, hreqs]

theorem response_unasked (hm : Hears s l) (ht : s.takes l 0x0E msg false 0 = true) (hfw : s.fwPresent = true)
    (hq : s.reqs.find? (fun q => q.txid == msgTxid msg) = none) :
    ∃ t, exec (.response l msg) s = .next t ∧ t.reqs = s.reqs ∧ t.regs = s.regs ∧ t.out = s.out := by
  have hreqs : (s.heard l).reqs = s.reqs := State.upd_reqs ..
  have hign : (s.heard l).respond l msg = s.heard l :=
    State.onMsg_ignored (State.heard_takes.trans ht) (by simp only [hreqs, hq])
  rw [exec_response hm hfw, hign]
  exact ⟨_, rfl, hreqs, State.upd_regs .., State.upd_out ..⟩

/-! ### A request's retries -/

theorem exec_requestRetryTimer : exec (.requestRetryTimer txid) s = .next (s.requestRetry txid) := rfl

/-- A request that was sent, is not due and is no WAKE: given up, or sent again. -/
theorem State.requestRetry_sent {q : Req} (hq : s.reqs.find? (fun q => q.txid == txid) = some q) (h₁ : q.code ≠ 1) (hdue : q.due = false)
    (hsent : q.sent = true) : s.requestRetry txid = if q.retries ≥ s.rd Reg.LINE_REQ_CTL_RETRIES q.leg.n then
      (if q.code = 2 then ((s.dropReq txid).event (Ev.leg q.leg 9)).closeSleep q none else (s.dropReq txid).event (Ev.leg q.leg 9))
    else s.resend q q.leg := by
  unfold State.requestRetry
  rw [hq]
  exact if_neg (by simp [h₁, hdue, hsent])

theorem requestRetryTimer_resends {q : Req} (hq : s.reqs.find? (fun q => q.txid == txid) = some q) (h₁ : q.code ≠ 1) (hdue : q.due = false)
    (hsent : q.sent = true) (hleft : q.retries < s.rd Reg.LINE_REQ_CTL_RETRIES q.leg.n) : ∃ t, exec (.requestRetryTimer txid) s = .next t ∧
    t.reqs = s.reqs.map (fun p => if p.txid = q.txid then { p with leg := q.leg, retries := p.retries + 1, due := true } else p) ∧
    t.regs = s.regs := by
  rw [exec_requestRetryTimer, State.requestRetry_sent hq h₁ hdue hsent, if_neg (Nat.not_le.2 hleft)]
  exact ⟨_, rfl, State.upd_reqs .., State.upd_regs ..⟩

theorem requestRetryTimer_givesUp {q : Req} (hq : s.reqs.find? (fun q => q.txid == txid) = some q) (h₁ : q.code ≠ 1) (hdue : q.due = false)
    (hsent : q.sent = true) (h₂ : q.code ≠ 2) (hnone : s.rd Reg.LINE_REQ_CTL_RETRIES q.leg.n ≤ q.retries) :
    ∃ t, exec (.requestRetryTimer txid) s = .next t ∧ t.reqs = s.reqs.filter fun p => p.txid != txid := by
  rw [exec_requestRetryTimer, State.requestRetry_sent hq h₁ hdue hsent, if_pos hnone, if_neg h₂]
  exact ⟨_, rfl, (State.event_foot ..).reqs rfl⟩

theorem requestRetryTimer_none (hq : s.reqs.find? (fun q => q.txid == txid) = none) : exec (.requestRetryTimer txid) s = .next s := by
  rw [exec_requestRetryTimer, State.requestRetry, hq]

/-! ### SLEEP -/

/-- SLEEP's own effect, by its OP. -/
def State.sleepOp (s : State) (l : Leg) (msg : BitVec 384) : Took × State :=
  if mfield msg 6 1 % 2 = 1 then s.sleepGrant l (mfield msg 7 2) (mfield msg 9 6)
  else if !s.effOk l (mfield msg 9 6) then (.answered St.outOfWindow, s)
  else (.answered St.ok, s.sleepEnd l)

theorem exec_sleep (hm : Hears s l) (hfw : s.fwPresent = true) :
    exec (.sleep l msg) s = .next ((s.heard l).onMsg l 0x0C msg false 0 fun s => s.sleepOp l msg) :=
  congrArg Host.Outcome.next ((State.inFrame_of_hears hm _).trans (State.fwMsg_present (State.heard_fwPresent.trans hfw)))

/-- A SLEEP that is answered is acknowledged, and what it did to power and registers stands. -/
theorem sleep_answered (hm : Hears s l) (ht : s.takes l 0x0C msg false 0 = true) (hfw : s.fwPresent = true)
    (ha : (s.heard l).sleepOp l msg = (.answered st, u)) (htn : u.hasTn l = true) (hacks : (u.leg l).acks = (s.leg l).acks) :
    ∃ t, exec (.sleep l msg) s = .next t ∧ t.pwr = u.pwr ∧ t.regs = u.regs ∧ Acked l msg 0x0C st s t := by
  obtain ⟨hpwr, hregs⟩ := State.onMsg_answered_keeps (act := fun s => s.sleepOp l msg) (State.heard_takes.trans ht) ha
  exact ⟨_, exec_sleep hm hfw, hpwr, hregs, State.onMsg_acked ht ha htn hacks⟩

theorem State.sleepOp_grant (h : mfield msg 6 1 % 2 = 1) : s.sleepOp l msg = s.sleepGrant l (mfield msg 7 2) (mfield msg 9 6) := if_pos h

/-- A grant of sleep is held and shown. -/
def State.holdGrant (s : State) (l : Leg) (cycle eff : Nat) : State :=
  let s := { s with pwr := { s.pwr with granted := some (cycle, eff) } }
  (((s.wr Reg.PWR_SLEEP_CTL_CYCLE_SF cycle).wr2 Reg.PWR_SLEEP_EFF_LO Reg.PWR_SLEEP_EFF_HI eff).wr Reg.PWR_STATUS_KEPT_LEG l.n).event (Ev.pwr 3)

section
variable {cycle eff : Nat}

theorem State.sleepGrant_range (h₁ : 2 ≤ cycle) (h₂ : cycle ≤ 16) : ¬(decide (cycle < 2) || decide (cycle > 16)) = true := by
  simp only [Bool.or_eq_true, decide_eq_true_eq]
  omega

theorem State.sleepGrant_ok (h₁ : 2 ≤ cycle) (h₂ : cycle ≤ 16) (htgt : s.rd Reg.PWR_CTL_TARGET = 1) (hcause : s.pwr.cause ≠ 0)
    (hw : s.pwr.wakeArisen = false) (heff : s.effOk l eff = true) : s.sleepGrant l cycle eff = (.answered St.ok, s.holdGrant l cycle eff) := by
  unfold State.sleepGrant
  rw [if_neg (State.sleepGrant_range h₁ h₂), if_neg (by simp [htgt, hcause]), if_neg (by simp [hw]), if_neg (by simp [heff])]
  rfl

theorem State.sleepGrant_invalid (htn : s.hasTn l = true) (h : cycle < 2 ∨ 16 < cycle) :
    s.sleepGrant l cycle eff = (.answered St.invalid, s) := by
  unfold State.sleepGrant
  rw [if_pos (by simpa using h)]
  exact if_pos (by simp [htn])

theorem State.sleepGrant_denied (h₁ : 2 ≤ cycle) (h₂ : cycle ≤ 16) (h : s.rd Reg.PWR_CTL_TARGET ≠ 1 ∨ s.pwr.cause = 0) :
    s.sleepGrant l cycle eff = (.answered St.denied, s) := by
  unfold State.sleepGrant
  rw [if_neg (State.sleepGrant_range h₁ h₂), if_pos (by simpa using h)]

theorem State.holdGrant_pwr : (s.holdGrant l cycle eff).pwr.granted = some (cycle, eff) :=
  congrArg PwrSt.granted ((State.event_foot ..).pwr rfl)

theorem State.holdGrant_cycle (h : cycle ≤ 16) : (s.holdGrant l cycle eff).rd Reg.PWR_SLEEP_CTL_CYCLE_SF = cycle := by
  rw [State.holdGrant, (State.event_foot ..).rd_keeps rfl, State.rd_wr_shared rfl, State.wr2, State.rd_wr_shared rfl, State.rd_wr_shared rfl,
    State.rd_wr_same (by decide)]
  exact Nat.mod_eq_of_lt (h.trans_lt (by decide))

theorem State.holdGrant_leg : (s.holdGrant l cycle eff).rd Reg.PWR_STATUS_KEPT_LEG = l.n := by
  rw [State.holdGrant, (State.event_foot ..).rd_keeps rfl, State.rd_wr_same (by decide)]
  cases l <;> rfl

theorem State.holdGrant_eff (h : eff < 2 ^ 48) : (s.holdGrant l cycle eff).rd2 Reg.PWR_SLEEP_EFF_LO Reg.PWR_SLEEP_EFF_HI = eff := by
  rw [State.rd2, State.holdGrant, (State.event_foot ..).rd_keeps rfl, (State.event_foot ..).rd_keeps rfl, State.rd_wr_shared rfl,
    State.rd_wr_shared rfl, State.wr2, State.rd_wr_shared rfl, State.rd_wr_same (by decide), State.rd_wr_same (by decide)]
  have hlo : Reg.PWR_SLEEP_EFF_LO.width = 32 := rfl
  have hhi : Reg.PWR_SLEEP_EFF_HI.width = 16 := rfl
  rw [hlo, hhi]
  omega

end

theorem sleep_granted (hm : Hears s l) (ht : s.takes l 0x0C msg false 0 = true) (hfw : s.fwPresent = true) (htn : s.hasTn l = true)
    (hop : mfield msg 6 1 % 2 = 1) (h₁ : 2 ≤ mfield msg 7 2) (h₂ : mfield msg 7 2 ≤ 16) (htgt : s.rd Reg.PWR_CTL_TARGET = 1)
    (hcause : s.pwr.cause ≠ 0) (hw : s.pwr.wakeArisen = false) (heff : s.effOk l (mfield msg 9 6) = true) :
    ∃ t, exec (.sleep l msg) s = .next t ∧ t.pwr.granted = some (mfield msg 7 2, mfield msg 9 6) ∧
    t.rd Reg.PWR_SLEEP_CTL_CYCLE_SF = mfield msg 7 2 ∧ t.rd Reg.PWR_STATUS_KEPT_LEG = l.n ∧
    t.rd2 Reg.PWR_SLEEP_EFF_LO Reg.PWR_SLEEP_EFF_HI = mfield msg 9 6 ∧ Acked l msg 0x0C 0 s t := by
  have hgrant : (s.heard l).sleepOp l msg = (.answered St.ok, (s.heard l).holdGrant l (mfield msg 7 2) (mfield msg 9 6)) :=
    (State.sleepOp_grant hop).trans <| State.sleepGrant_ok h₁ h₂ (State.heard_rd.trans htgt) (by rwa [State.heard_pwr])
      (by rwa [State.heard_pwr]) (State.heard_effOk.trans heff)
  have hown : ((s.heard l).holdGrant l (mfield msg 7 2) (mfield msg 9 6)).hasTn l = true := by
    rw [State.hasTn_congr, State.heard_hasTn, htn]
    rw [State.holdGrant, (State.event_foot ..).rd_leg rfl, State.rd_wr_shared_row rfl, State.wr2, State.rd_wr_shared_row rfl,
      State.rd_wr_shared_row rfl, State.rd_wr_shared_row rfl]
    rfl
  have hacks : (((s.heard l).holdGrant l (mfield msg 7 2) (mfield msg 9 6)).leg l).acks = (s.leg l).acks := by
    rw [State.holdGrant, State.event_leg, State.wr_leg, State.wr2, State.wr_leg, State.wr_leg, State.wr_leg]
    exact State.heard_acks
  obtain ⟨t, hex, hpwr, hregs, hacked⟩ := sleep_answered hm ht hfw hgrant hown hacks
  refine ⟨t, hex, by rw [hpwr, State.holdGrant_pwr], ?_, ?_, ?_, hacked⟩
  · rw [State.rd, hregs]
    exact State.holdGrant_cycle h₂
  · rw [State.rd, hregs]
    exact State.holdGrant_leg
  · rw [State.rd2, State.rd, State.rd, hregs]
    exact State.holdGrant_eff (Nat.mod_lt _ (by decide))

theorem sleep_invalid (hm : Hears s l) (ht : s.takes l 0x0C msg false 0 = true) (hfw : s.fwPresent = true) (htn : s.hasTn l = true)
    (hop : mfield msg 6 1 % 2 = 1) (h : mfield msg 7 2 < 2 ∨ 16 < mfield msg 7 2) :
    ∃ t, exec (.sleep l msg) s = .next t ∧ Acked l msg 0x0C 2 s t ∧ t.pwr = s.pwr ∧ t.regs = s.regs := by
  have hown := State.heard_hasTn.trans htn
  obtain ⟨t, hex, hpwr, hregs, hacked⟩ :=
    sleep_answered hm ht hfw ((State.sleepOp_grant hop).trans (State.sleepGrant_invalid hown h)) hown State.heard_acks
  exact ⟨t, hex, hacked, hpwr.trans State.heard_pwr, hregs.trans (State.upd_regs ..)⟩

theorem sleep_denied (hm : Hears s l) (ht : s.takes l 0x0C msg false 0 = true) (hfw : s.fwPresent = true) (htn : s.hasTn l = true)
    (hop : mfield msg 6 1 % 2 = 1) (h₁ : 2 ≤ mfield msg 7 2) (h₂ : mfield msg 7 2 ≤ 16)
    (h : s.rd Reg.PWR_CTL_TARGET ≠ 1 ∨ s.pwr.cause = 0) :
    ∃ t, exec (.sleep l msg) s = .next t ∧ Acked l msg 0x0C 3 s t ∧ t.pwr = s.pwr := by
  have hdenied : (s.heard l).sleepOp l msg = (.answered St.denied, s.heard l) :=
    (State.sleepOp_grant hop).trans (State.sleepGrant_denied h₁ h₂ (by rwa [State.heard_rd, State.heard_pwr]))
  obtain ⟨t, hex, hpwr, -, hacked⟩ := sleep_answered hm ht hfw hdenied (State.heard_hasTn.trans htn) State.heard_acks
  exact ⟨t, hex, hacked, hpwr.trans State.heard_pwr⟩

theorem State.setPwr_leg {x : PwrSt} : ({ s with pwr := x } : State).leg k = s.leg k := by cases k <;> rfl

/-- The wake request that is answered leaves the grant, and the ACKs that are held. -/
theorem State.wakeAnswered_keeps : s.wakeAnswered.pwr.granted = s.pwr.granted ∧ (s.wakeAnswered.leg k).acks = (s.leg k).acks := by
  unfold State.wakeAnswered
  extract_lets s₁ _ s₂
  have dropped : s₁.pwr = s.pwr ∧ s₁.leg k = s.leg k := by
    simp only [s₁]
    split
    · exact ⟨rfl, by cases k <;> rfl⟩
    · exact ⟨rfl, rfl⟩
  have left : s₂.pwr = s₁.pwr ∧ (s₂.leg k).acks = (s₁.leg k).acks := by
    simp only [s₂]
    split
    · exact ⟨State.upd_pwr .., State.upd_acks fun _ => rfl⟩
    · exact ⟨rfl, rfl⟩
  constructor
  · have kept : s₂.pwr.granted = s.pwr.granted := congrArg PwrSt.granted (left.1.trans dropped.1)
    rwa [State.upd_pwr]
  · refine (State.upd_acks ?_).trans ?_
    · exact fun _ => rfl
    · rw [State.setPwr_leg, left.2, dropped.2]

theorem State.wakeCause_leg : (s.wakeCause code).leg k = s.leg k := (State.wakeCause_foot ..).leg_keeps rfl

/-- A SLEEP with OP = 0 leaves no grant, and the ACKs that were held. -/
theorem State.sleepEnd_keeps : (s.sleepEnd l).pwr.granted = none ∧ ((s.sleepEnd l).leg k).acks = (s.leg k).acks := by
  unfold State.sleepEnd
  extract_lets s₁ _ s₂
  have caused : s₁.leg k = s.leg k := by
    simp only [s₁]
    split
    · exact State.wakeCause_leg
    · rfl
  have ended : (s₂.leg k).acks = (s.leg k).acks := by rw [State.setPwr_leg, caused]
  split
  · exact ⟨(State.wakeAnswered_keeps (k := k)).1, State.wakeAnswered_keeps.2.trans ended⟩
  · exact ⟨rfl, ended⟩

theorem sleep_withdrawn (hm : Hears s l) (ht : s.takes l 0x0C msg false 0 = true) (hfw : s.fwPresent = true) (htn : s.hasTn l = true)
    (hop : mfield msg 6 1 % 2 = 0) (heff : s.effOk l (mfield msg 9 6) = true) :
    ∃ t, exec (.sleep l msg) s = .next t ∧ t.pwr.granted = none ∧ Acked l msg 0x0C 0 s t := by
  have hend : (s.heard l).sleepOp l msg = (.answered St.ok, (s.heard l).sleepEnd l) := by
    rw [State.sleepOp, if_neg (by omega), if_neg (by simp [heff])]
  have hown : ((s.heard l).sleepEnd l).hasTn l = true := by
    rw [State.hasTn_congr ((State.sleepEnd_foot ..).rd_leg rfl), State.heard_hasTn, htn]
  obtain ⟨hgranted, hacks⟩ := (s.heard l).sleepEnd_keeps (l := l) (k := l)
  obtain ⟨t, hex, hpwr, -, hacked⟩ := sleep_answered hm ht hfw hend hown (hacks.trans State.heard_acks)
  exact ⟨t, hex, by rw [hpwr, hgranted], hacked⟩

/-! ### The cycle -/

/-- A power state that is entered shows. -/
theorem State.setPower_state (h : st < 8) : (s.setPower st).rd Reg.PWR_STATUS_STATE = st := by
  unfold State.setPower
  split
  next hold => exact hold
  next =>
    rw [(State.event_foot ..).rd_keeps rfl, State.rd_wr_same (by decide)]
    exact Nat.mod_eq_of_lt h

/-- The lanes and the time source follow a change of the cycle's state; power and its rows stay. -/
theorem State.settleBoth_keeps : s.settleBoth.pwr = s.pwr ∧ s.settleBoth.rd Reg.PWR_STATUS_STATE = s.rd Reg.PWR_STATUS_STATE :=
  ⟨(State.settleBoth_foot _).pwr rfl, (State.settleBoth_foot _).rd_keeps rfl⟩

theorem State.setPower_pwr : (s.setPower st).pwr = s.pwr := (State.setPower_foot ..).pwr rfl

/-- What precedes a count of the cycle's counters, and what follows it, leaves their rows. -/
theorem counted_in_cycle {R : Row} (hr : R = Reg.PWR_CNT_SLEEP_ENTRIES ∨ R = Reg.PWR_CNT_AWAKE_SF) (h : Counted R 0 0 1 (s.setPower 3) t) :
    Counted R 0 0 1 s t.settleBoth := by
  rcases hr with rfl | rfl <;>
    exact counted_of_rd_after ((State.settleBoth_foot _).rd_at rfl) (counted_of_rd_before ((State.setPower_foot ..).rd_at rfl) h)

/-- SLEEP_START's change of power. -/
def PwrSt.fallAsleep (w : PwrSt) : PwrSt := { w with granted := none, asleep := true, awake := true, firstMark := false, pendWake := [] }

theorem exec_sleepStart {c e : Nat} (hg : s.pwr.granted = some (c, e)) (he : 8 * e ≤ s.d0Key s.kept) (ha : s.pwr.asleep = false) :
    exec .sleepStart s = .next
      ((({ s with pwr := s.pwr.fallAsleep }.setPower 3).inc Reg.PWR_CNT_SLEEP_ENTRIES).inc Reg.PWR_CNT_AWAKE_SF).settleBoth :=
  congrArg Host.Outcome.next (if_neg (by simp [hg, he, ha]))

theorem sleepStart_starts {c e : Nat} (hg : s.pwr.granted = some (c, e)) (he : 8 * e ≤ s.d0Key s.kept) (ha : s.pwr.asleep = false) :
    ∃ t, exec .sleepStart s = .next t ∧ t.pwr.asleep = true ∧ t.pwr.awake = true ∧ t.pwr.granted = none ∧ t.rd Reg.PWR_STATUS_STATE = 3 ∧
    Counted Reg.PWR_CNT_SLEEP_ENTRIES 0 0 1 s t ∧ Counted Reg.PWR_CNT_AWAKE_SF 0 0 1 s t := by
  rw [exec_sleepStart hg he ha]
  generalize hx : s.pwr.fallAsleep = x
  have fell : x.asleep = true ∧ x.awake = true ∧ x.granted = none := hx ▸ ⟨rfl, rfl, rfl⟩
  obtain ⟨hasleep, hawake, hgranted⟩ := fell
  have hpwr : ((({ s with pwr := x }.setPower 3).inc Reg.PWR_CNT_SLEEP_ENTRIES).inc Reg.PWR_CNT_AWAKE_SF).settleBoth.pwr = x := by
    rw [State.settleBoth_keeps.1, State.inc_pwr, State.inc_pwr, State.setPower_pwr]
  refine ⟨_, rfl, by rw [hpwr, hasleep], by rw [hpwr, hawake], by rw [hpwr, hgranted], ?_, ?_, ?_⟩
  · rw [State.settleBoth_keeps.2, State.rd_inc_shared rfl, State.rd_inc_shared rfl, State.setPower_state (by decide)]
  · exact counted_of_rd_before rfl (counted_in_cycle (s := { s with pwr := x }) (Or.inl rfl)
      (counted_of_rd_after (State.rd_inc_shared rfl) (counted_inc_at (by decide))))
  · exact counted_of_rd_before rfl (counted_in_cycle (s := { s with pwr := x }) (Or.inr rfl)
      (counted_of_rd_before (State.rd_inc_shared rfl) (counted_inc_at (by decide))))

theorem sleepStart_ungranted (hg : s.pwr.granted = none) : exec .sleepStart s = .next s :=
  congrArg Host.Outcome.next (if_pos (by simp [hg]))

theorem exec_awakeStart (ha : s.pwr.asleep = true) (hd : s.pwr.awake = false)
    (hsf : s.awakeSf ((s.d0Key s.kept + s.leadFrames + 2) / 8) = true) :
    exec .awakeStart s = .next (({ s with pwr := { s.pwr with awake := true } }.setPower 3).inc Reg.PWR_CNT_AWAKE_SF).settleBoth :=
  congrArg Host.Outcome.next (if_neg (by simp [ha, hd, hsf]))

theorem awakeStart_wakes (ha : s.pwr.asleep = true) (hd : s.pwr.awake = false)
    (hsf : s.awakeSf ((s.d0Key s.kept + s.leadFrames + 2) / 8) = true) : ∃ t, exec .awakeStart s = .next t ∧ t.pwr.awake = true ∧
    t.rd Reg.PWR_STATUS_STATE = 3 ∧ Counted Reg.PWR_CNT_AWAKE_SF 0 0 1 s t := by
  rw [exec_awakeStart ha hd hsf]
  refine ⟨_, rfl, ?_, ?_, ?_⟩
  · rw [State.settleBoth_keeps.1, State.inc_pwr, State.setPower_pwr]
  · rw [State.settleBoth_keeps.2, State.rd_inc_shared rfl, State.setPower_state (by decide)]
  · exact counted_of_rd_before rfl (counted_in_cycle (s := { s with pwr := { s.pwr with awake := true } }) (Or.inr rfl)
      (counted_inc_at (by decide)))

theorem awakeStart_off (ha : s.pwr.asleep = false) : exec .awakeStart s = .next s :=
  congrArg Host.Outcome.next (if_pos (by simp [ha]))

theorem exec_dozeStart (ha : s.pwr.asleep = true) (hd : s.pwr.awake = true) (hfn : s.d0Key s.kept % 8 = 7)
    (hsf : s.awakeSf (s.d0Key s.kept / 8) = true) :
    exec .dozeStart s = .next ({ s with pwr := { s.pwr with awake := false, firstMark := true } }.setPower 2).settleBoth :=
  congrArg Host.Outcome.next (if_neg (by simp [ha, hd, hfn, hsf]))

theorem dozeStart_dozes (ha : s.pwr.asleep = true) (hd : s.pwr.awake = true) (hfn : s.d0Key s.kept % 8 = 7)
    (hsf : s.awakeSf (s.d0Key s.kept / 8) = true) :
    ∃ t, exec .dozeStart s = .next t ∧ t.pwr.awake = false ∧ t.rd Reg.PWR_STATUS_STATE = 2 := by
  rw [exec_dozeStart ha hd hfn hsf]
  refine ⟨_, rfl, ?_, ?_⟩
  · rw [State.settleBoth_keeps.1, State.setPower_pwr]
  · rw [State.settleBoth_keeps.2, State.setPower_state (by decide)]

theorem dozeStart_off (ha : s.pwr.asleep = false) : exec .dozeStart s = .next s :=
  congrArg Host.Outcome.next (if_pos (by simp [ha]))

/-! ### The end of sleep -/

theorem State.actCtl_asleep : (s.actCtl l 1).pwr.asleep = s.pwr.asleep := by
  unfold State.actCtl
  split
  · rfl
  · rw [if_pos rfl]
    extract_lets s₁ s₂
    have entered : s₂.pwr = s.pwr := by
      simp only [s₂]
      split
      · exact (State.setAct_foot ..).pwr rfl
      · rfl
    rw [Settles.settleDef.asleep, Settles.settleLanes.asleep, (State.pmAcquire_foot ..).pwr rfl, entered]

/-- A leg that comes back into service leaves the cycle and the rows that show its end. -/
theorem State.rejoinLeg_keeps : (s.rejoinLeg l).pwr.asleep = s.pwr.asleep ∧
    (s.rejoinLeg l).rd Reg.PWR_STATUS_STATE = s.rd Reg.PWR_STATUS_STATE ∧
    (s.rejoinLeg l).rd Reg.PWR_STATUS_LAST_WAKE = s.rd Reg.PWR_STATUS_LAST_WAKE := by
  refine ⟨?_, (State.rejoinLeg_foot ..).rd_keeps rfl, (State.rejoinLeg_foot ..).rd_keeps rfl⟩
  unfold State.rejoinLeg
  split
  · rw [State.actCtl_asleep, State.upd_pwr]
  · rfl

/-- Sleep is over in power and in the rows that show it, before the kept leg's request and the legs that come back. -/
def State.endSleep (s : State) (code : Nat) : State :=
  let s := { s with pwr := { s.pwr with asleep := false, awake := false, firstMark := false, pendWake := [],
                                        retryAt := if code = 6 then s.runNs else s.pwr.retryAt } }
  (((s.setPower 0).recordWake code).settleBoth).event (Ev.pwr 5)

/-- The wake request of R373 on the kept leg; the SLEEP of the head end that ends sleep asks for none. -/
def State.askWake (s : State) (code : Nat) : State :=
  let l := s.kept
  if code = 6 then s else
    { s.sendReq l 1 [] with pwr := { s.pwr with wakeReq := some s.txid } }.upd l fun g => { g with wakeN := 0, wakeSkip := 0 }

theorem exec_sleepEnded (ha : s.pwr.asleep = true) (hw : has s.pwr.pendWake code = true) :
    exec (.sleepEnded code) s = .next ((((s.endSleep code).askWake code).rejoinLeg .a).rejoinLeg .b) :=
  congrArg Host.Outcome.next (if_neg (by simp [ha, hw]))

theorem State.endSleep_shows (hc : code < 16) : (s.endSleep code).pwr.asleep = false ∧ (s.endSleep code).rd Reg.PWR_STATUS_STATE = 0 ∧
    (s.endSleep code).rd Reg.PWR_STATUS_LAST_WAKE = code := by
  unfold State.endSleep
  refine ⟨?_, ?_, ?_⟩
  · rw [(State.event_foot ..).pwr rfl, State.settleBoth_keeps.1, (State.recordWake_foot ..).pwr rfl, State.setPower_pwr]
  · rw [(State.event_foot ..).rd_keeps rfl, State.settleBoth_keeps.2, (State.recordWake_foot ..).rd_keeps rfl, State.setPower_state (by decide)]
  · rw [(State.event_foot ..).rd_keeps rfl, (State.settleBoth_foot _).rd_keeps rfl, State.recordWake, (State.event_foot ..).rd_keeps rfl,
      State.rd_wr_same (by decide)]
    exact Nat.mod_eq_of_lt hc

theorem State.askWake_keeps : (s.askWake code).pwr.asleep = s.pwr.asleep ∧ (s.askWake code).regs = s.regs := by
  unfold State.askWake
  dsimp only
  split
  · exact ⟨rfl, rfl⟩
  · exact ⟨by rw [State.upd_pwr], State.upd_regs ..⟩

theorem sleepEnded_ends (ha : s.pwr.asleep = true) (hw : has s.pwr.pendWake code = true) (hc : code < 16) :
    ∃ t, exec (.sleepEnded code) s = .next t ∧ t.pwr.asleep = false ∧ t.rd Reg.PWR_STATUS_STATE = 0 ∧
    t.rd Reg.PWR_STATUS_LAST_WAKE = code := by
  obtain ⟨hasleep, hstate, hlast⟩ := s.endSleep_shows hc
  obtain ⟨hpwr, hregs⟩ := (s.endSleep code).askWake_keeps (code := code)
  have asked : ∀ R : Row, ((s.endSleep code).askWake code).rd R = (s.endSleep code).rd R := fun R => by
    rw [State.rd, hregs, State.rd]
  obtain ⟨hasleep₁, hstate₁, hlast₁⟩ := ((s.endSleep code).askWake code).rejoinLeg_keeps (l := .a)
  obtain ⟨hasleep₂, hstate₂, hlast₂⟩ := (((s.endSleep code).askWake code).rejoinLeg .a).rejoinLeg_keeps (l := .b)
  refine ⟨_, exec_sleepEnded ha hw, ?_, ?_, ?_⟩
  · rw [hasleep₂, hasleep₁, hpwr, hasleep]
  · rw [hstate₂, hstate₁, asked, hstate]
  · rw [hlast₂, hlast₁, asked, hlast]

theorem sleepEnded_off (ha : s.pwr.asleep = false) : exec (.sleepEnded code) s = .next s :=
  congrArg Host.Outcome.next (if_pos (by simp [ha]))

/-! ### Asking again -/

theorem State.sleepOn_unranged {mode : Nat} (h : s.rd Reg.ACT_STATUS_STATE l.n ≠ 5) : s.sleepOn l mode = s := if_pos h

theorem State.sleepOn_ranged {mode : Nat} (h : s.rd Reg.ACT_STATUS_STATE l.n = 5) : s.sleepOn l mode =
    { s.sendReq l 2 (BitVec.ofNat 8 mode :: beBytes 2 s.cycleReq) with pwr := { s.pwr with sleepReq := s.pwr.sleepReq ++ [s.txid] } } :=
  if_neg (not_not.2 h)

/-- Of two legs the one that is RANGED asks. -/
theorem State.sleepOn_onA {x y : Nat} (ha : s.rd Reg.ACT_STATUS_STATE 0 = 5) (hb : s.rd Reg.ACT_STATUS_STATE 1 ≠ 5) :
    (s.sleepOn .a x).sleepOn .b y =
      { s.sendReq .a 2 (BitVec.ofNat 8 x :: beBytes 2 s.cycleReq) with pwr := { s.pwr with sleepReq := s.pwr.sleepReq ++ [s.txid] } } := by
  have asked := State.sleepOn_ranged (s := s) (l := .a) (mode := x) ha
  have rest : (s.sleepOn .a x).rd Reg.ACT_STATUS_STATE Leg.b.n ≠ 5 := by rwa [asked]
  rw [State.sleepOn_unranged rest, asked]

/-- A new request for sleep forgets the wake causes that arose before it. -/
def PwrSt.askAnew (w : PwrSt) : PwrSt := { w with wakeArisen := false, entering := false, pendWake := [] }

theorem State.askSleep_onA (ht : s.rd Reg.PWR_CTL_TARGET = 1) (ha : s.rd Reg.ACT_STATUS_STATE 0 = 5) (hb : s.rd Reg.ACT_STATUS_STATE 1 ≠ 5) :
    s.askSleep = { s.sendReq .a 2 (BitVec.ofNat 8 (b2n (s.active == .a)) :: beBytes 2 s.cycleReq) with
      pwr := { s.pwr.askAnew with sleepReq := s.pwr.sleepReq ++ [s.txid] } } := by
  have asked : s.askSleep =
      (({ s with pwr := s.pwr.askAnew } : State).sleepOn Leg.a (b2n (s.active == .a))).sleepOn Leg.b (b2n (s.active == .b)) := by
    unfold State.askSleep
    dsimp only
    rw [ht]
    rfl
  exact asked.trans (State.sleepOn_onA ha hb)

theorem exec_sleepRetry (hfw : s.fwPresent = true) (ht : s.rd Reg.PWR_CTL_TARGET = 1) (hc : s.pwr.cause ≠ 0) (hidle : s.moveIdle = true)
    (hdue : s.retryDue = true) : exec .sleepRetry s = .next s.askSleep :=
  congrArg Host.Outcome.next (if_pos (by simp [hfw, ht, hc, hidle, hdue]))

theorem State.sleepReq_of_moveIdle (h : s.moveIdle = true) : s.pwr.sleepReq = [] := by
  simp only [State.moveIdle, Bool.and_eq_true] at h
  obtain ⟨⟨⟨⟨hreq, -⟩, -⟩, -⟩, -⟩ := h
  exact List.isEmpty_iff.1 hreq

theorem sleepRetry_asks (hfw : s.fwPresent = true) (ht : s.rd Reg.PWR_CTL_TARGET = 1) (hc : s.pwr.cause ≠ 0) (hidle : s.moveIdle = true)
    (hdue : s.retryDue = true) (ha : s.rd Reg.ACT_STATUS_STATE 0 = 5) (hb : s.rd Reg.ACT_STATUS_STATE 1 ≠ 5) :
    ∃ t, exec .sleepRetry s = .next t ∧ t.reqs = s.reqs ++
    [{ txid := s.txid, leg := .a, code := 2, msg := mkMsg 0x83 s.txid (2 :: BitVec.ofNat 8 (b2n (s.active == .a)) :: beBytes 2 s.cycleReq) }] ∧
    t.pwr.sleepReq = [s.txid] ∧ t.regs = s.regs := by
  rw [exec_sleepRetry hfw ht hc hidle hdue, State.askSleep_onA ht ha hb, State.sleepReq_of_moveIdle hidle]
  exact ⟨_, rfl, rfl, rfl, rfl⟩

theorem sleepRetry_absent (hfw : s.fwPresent = false) : exec .sleepRetry s = .next s :=
  congrArg Host.Outcome.next (if_neg (by simp [hfw]))

end

/-- Settles O48: what follows a step of the cycle leaves power and its rows, and a message's answer stands on its leg alone. -/
theorem requestsAndTheSleepCycle : Obligations.RequestsAndTheSleepCycle := by
  unfold Obligations.RequestsAndTheSleepCycle
  exact ⟨fun _ _ _ _ => response_closes, fun _ _ _ => response_unasked, fun _ _ _ => requestRetryTimer_resends,
    fun _ _ _ => requestRetryTimer_givesUp, fun _ _ => requestRetryTimer_none, fun _ _ _ => sleep_granted, fun _ _ _ => sleep_invalid,
    fun _ _ _ => sleep_denied, fun _ _ _ => sleep_withdrawn, fun _ _ _ => sleepStart_starts, fun _ => sleepStart_ungranted,
    fun _ => awakeStart_wakes, fun _ => awakeStart_off, fun _ => dozeStart_dozes, fun _ => dozeStart_off, fun _ _ => sleepEnded_ends,
    fun _ _ => sleepEnded_off, fun _ => sleepRetry_asks, fun _ => sleepRetry_absent⟩

end Sys2Proof.Machine

/-! SUPPORT. The state after reset, field by field; a release of the headgate's stops that brings about a switch of legs
(03_activation_and_headgate.md, R74, R81, R96; 10_protection_and_monitoring.md, R264). -/

namespace Sys2Proof.Machine

/-! ### Reset -/

/-- The register store of reset lists nothing, so every field reads its reset value. -/
@[simp] theorem State.reset_rd {R : Row} {l i : Nat} : State.reset.rd R l i = R.reset := by
  unfold State.rd Row.get
  split
  · exact Nat.zero_xor _
  · rfl

/-- Settles O4: each field holds its row's reset value, and each store of its own is empty. -/
theorem resetLeavesTheValuesOfTheSpec : Obligations.ResetLeavesTheValuesOfTheSpec := by
  unfold Obligations.ResetLeavesTheValuesOfTheSpec
  simp only [State.reset_rd]
  exact ⟨rfl, rfl, rfl, rfl, fun _ => ⟨rfl, rfl, rfl, rfl, rfl, rfl, rfl⟩, rfl, rfl, rfl, rfl, rfl, rfl, rfl, rfl⟩

/-! ### A release that brings about a switch -/

theorem exec_rogueRelease {s : State} {l : Leg} {msg : BitVec 384} (h : Hears s l) : exec (.rogueRelease l msg) s =
    .next ((s.heard l).onMsg l 0x07 msg true 0 fun s => (.answered St.ok, s.rogueRelease l)) :=
  congrArg Host.Outcome.next (State.inFrame_of_hears h _)

/-- ROGUE_RELEASE with TXID 7, for every terminal. -/
def releaseMsg : BitVec 384 := BitVec.ofNat 384 (finishMsg 0x3FF (mkMsg 0x07 7 []))

/-- The ACK of a KEEP_RANGED with TXID 5. -/
def takenAck : Nat := mkMsg 0x81 5 [0, 0x09]

/-- A reserved burst of leg A that has taken that ACK for its message block. -/
def ackBurst : Burst where
  leg := .a
  alloc := { sfc := 0, fn := 2, id := 5, wave := 0, start := 100, len := 40, typ := 1, prof := {}, kind := .data }
  frames := []
  msg := some (0, takenAck)
  snap := { slot := 0, rr := 0, v := 0, qs := [] }
  bufrep := 0
  capacity := 0
  header := 56
  cells := 0

/-- Leg A, active, has a number, the rogue latch and that burst, and one message is announced in its D0 frame. LOF stands on it, for which
protection switches without a hold-off, and leg B is enabled and RANGED. -/
def switchStands : State :=
  { ((((((State.reset.wr Reg.HG_STATUS_ROGUE 1).wr Reg.ACT_STATUS_TN_VALID 1).wr Reg.PROT_DEF_LOF 1).wr Reg.PROT_AUTO_CTL_MASK 2).wr
      Reg.PROT_CTL_HOLDOFF 0).wr Reg.ACT_CTL_ENABLE 1 1).wr Reg.ACT_STATUS_STATE 5 1 |>.upd .a fun g => { g with partOk := true, nmsg := 1 }
    with bursts := [ackBurst] }

theorem switchStands_hears : Hears switchStands .a := ⟨rfl, Nat.one_ne_zero⟩

theorem switchStands_takes : switchStands.takes .a 0x07 releaseMsg true 0 = true := by decide +kernel

theorem switchStands_hasTn : switchStands.hasTn .a = true := by decide +kernel

/-- The switch unwinds the burst (R264), whose ACK goes back to the head of the pending ones (R162), before that of the release. -/
theorem switchStands_released : (((switchStands.heard .a).onMsg .a 0x07 releaseMsg true 0 fun s =>
    (.answered St.ok, s.rogueRelease .a)).leg .a).acks = [takenAck, mkMsg 0x81 7 [0, 0x07]] := by decide +kernel

/-- Refutes O11, by its clause for a ROGUE_RELEASE on a leg with a number: it has the release add its ACK and nothing else to the leg's list,
but where protection has a switch to make, the release brings it about, and the ACK of a burst that the switch unwinds is put back. -/
theorem not_headgateOpensEndsAndStops : ¬ Obligations.HeadgateOpensEndsAndStops := by
  unfold Obligations.HeadgateOpensEndsAndStops
  rintro ⟨-, -, -, -, -, -, -, -, hrelease, -⟩
  obtain ⟨t, hnext, -, -, hacked⟩ := hrelease .a releaseMsg switchStands switchStands_hears switchStands_takes switchStands_hasTn
  rw [exec_rogueRelease switchStands_hears] at hnext
  obtain rfl := Host.Outcome.next.inj hnext
  rw [Acked, switchStands_released] at hacked
  exact absurd (congrArg List.length hacked) (by decide)

end Sys2Proof.Machine

/-! SUPPORT. The rogue latch and the emergency stop stand (`StopsStand`): over every operation that neither releases them nor starts the
machine anew (03_activation_and_headgate.md, R95, R96). -/

namespace Sys2Proof.Machine

/-- The rogue latch and the emergency stop of a leg that stand before stand after. -/
structure StopsStand (k : Leg) (s t : State) : Prop where
  rogue : s.isOn Reg.HG_STATUS_ROGUE k.n = true → t.isOn Reg.HG_STATUS_ROGUE k.n = true
  estop : s.isOn Reg.HG_STATUS_ESTOP k.n = true → t.isOn Reg.HG_STATUS_ESTOP k.n = true

/-- A mask names neither stop. -/
def keepsStops (m : Nat) : Bool := keepsRow m Reg.HG_STATUS_ROGUE && keepsRow m Reg.HG_STATUS_ESTOP

/-- A field that is neither stop. -/
def otherThanStops (R : Row) : Bool := otherRow Reg.HG_STATUS_ROGUE R && otherRow Reg.HG_STATUS_ESTOP R

section
variable {m i v n w : Nat} {s t u : State} {k l : Leg} {R : Row}

/-! ### Closure -/

theorem StopsStand.refl : StopsStand k s s := ⟨id, id⟩

/-- One more operation. -/
theorem StopsStand.step (g : StopsStand k t u) (h : StopsStand k s t) : StopsStand k s u :=
  ⟨fun hr => g.rogue (h.rogue hr), fun he => g.estop (h.estop he)⟩

theorem StopsStand.ite {c : Prop} [Decidable c] (h : StopsStand k s t) (g : StopsStand k s u) : StopsStand k s (if c then t else u) := by
  split <;> assumption

theorem StopsStand.foldl_mem {α : Type} {f : State → α → State} {xs : List α} (hf : ∀ y ∈ xs, ∀ x, StopsStand k x (f x y)) :
    StopsStand k s (xs.foldl f s) := by
  induction xs generalizing s with
  | nil => exact .refl
  | cons y r ih => exact (ih fun z hz => hf z (List.mem_cons_of_mem _ hz)).step (hf y List.mem_cons_self s)

theorem StopsStand.foldl {α : Type} {f : State → α → State} {xs : List α} (hf : ∀ x y, StopsStand k x (f x y)) :
    StopsStand k s (xs.foldl f s) := .foldl_mem fun y _ x => hf x y

theorem StopsStand.of_rd (hr : t.rd Reg.HG_STATUS_ROGUE k.n = s.rd Reg.HG_STATUS_ROGUE k.n)
    (he : t.rd Reg.HG_STATUS_ESTOP k.n = s.rd Reg.HG_STATUS_ESTOP k.n) : StopsStand k s t :=
  ⟨by rw [State.isOn, State.isOn, hr]; exact id, by rw [State.isOn, State.isOn, he]; exact id⟩

/-- The register store is as it was. -/
theorem StopsStand.of_regs (h : t.regs = s.regs) : StopsStand k s t :=
  .of_rd (by rw [State.rd, h, State.rd]) (by rw [State.rd, h, State.rd])

theorem StopsStand.set (h : StopsStand k s t) (hu : u.regs = t.regs) : StopsStand k s u := .step (.of_regs hu) h

/-- By a footprint that names neither stop. -/
theorem Foot.stopsStand (h : Foot m s t) (hm : keepsStops m = true) : StopsStand k s t := by
  obtain ⟨hr, he⟩ := Bool.and_eq_true_iff.1 hm
  exact .of_rd (h.rd_leg hr) (h.rd_leg he)

theorem StopsStand.wr (hR : otherThanStops R = true) : StopsStand k s (s.wr R v l.n i) := by
  obtain ⟨hr, he⟩ := Bool.and_eq_true_iff.1 hR
  exact .of_rd (State.rd_wr_row hr) (State.rd_wr_row he)

theorem StopsStand.wr_shared (hR : otherThanStops R = true) : StopsStand k s (s.wr R v 0 i) := .wr (l := .a) hR

theorem StopsStand.inc (hR : otherThanStops R = true) : StopsStand k s (s.inc R l.n i n) := .wr hR

theorem StopsStand.inc_shared (hR : otherThanStops R = true) : StopsStand k s (s.inc R 0 i n) := .wr_shared hR

theorem StopsStand.upd {f : LegSt → LegSt} : StopsStand k s (s.upd l f) := .of_regs (State.upd_regs ..)

theorem StopsStand.updWave {f : Wave → Wave} : StopsStand k s (s.updWave l w f) := .upd

theorem StopsStand.event {src det : Nat} : StopsStand k s (s.event src det) := (State.event_foot ..).stopsStand rfl

theorem StopsStand.wr_lt {j : Nat} (hR : otherThanStops R = true) (hj : j < 2) : StopsStand k s (s.wr R v j i) := by
  have hl : j = (Leg.ofBit j).n := by interval_cases j <;> rfl
  rw [hl]
  exact .wr hR

/-- A write of a field that an agent may have as its own; firmware's is not in the register store. -/
theorem StopsStand.wrA {ag : Agent} {j : Nat} (hR : otherThanStops R = true) (hj : j < 2) : StopsStand k s (s.wrA ag R v j i) := by
  unfold State.wrA
  exact .ite (.of_regs rfl) (.wr_lt hR hj)

theorem StopsStand.inDom {d : Dom} {f : State → State} (hf : ∀ x, StopsStand k x (f x)) : StopsStand k s (s.inDom d f) :=
  .ite (hf s) .refl

theorem StopsStand.reg {ag : Agent} {f : State → State} (hf : ∀ x, StopsStand k x (f x)) : StopsStand k s (s.reg ag f) :=
  .ite (hf s) .refl

/-! ### Messages -/

variable {typ frag : Nat} {msg : BitVec 384} {serialAt : Bool} {act : State → Took × State} {f : State → State}

theorem StopsStand.ack {txid st : Nat} : StopsStand k s (s.ack l txid typ st) := (State.ack_foot ..).stopsStand rfl

theorem StopsStand.remember {e : Seen} : StopsStand k s (s.remember l e) := .upd

/-- A message that is not acted on, or whose action leaves the stops. -/
theorem StopsStand.onMsg (ha : s.takes l typ msg serialAt frag = true → StopsStand k s (act s).2) :
    StopsStand k s (s.onMsg l typ msg serialAt frag act) := by
  by_cases ht : s.takes l typ msg serialAt frag = true
  · rw [State.onMsg_of_takes ht]
    have acted := ha ht
    split
    · exact acted
    · exact .step .remember acted
    · exact .step .ack (.step .remember acted)
  · unfold State.onMsg
    split
    · exact .refl
    split
    · exact .inc rfl
    split
    · exact .refl
    next htyp hcrc haddr =>
      split
      · dsimp only
        split
        · exact .step .ack (.inc rfl)
        · exact .inc rfl
      next hdup => exact absurd (State.takes_iff.2 ⟨not_not.1 htyp, by simpa using hcrc, by simpa using haddr, hdup⟩) ht

theorem StopsStand.fwMsg (hf : StopsStand k s (f s)) : StopsStand k s (s.fwMsg l typ msg f) :=
  .ite hf (.ite .refl (.ite (.inc rfl) (.ite .refl (.ite (.inc rfl) (.of_regs rfl)))))

theorem StopsStand.inFrame (hf : Hears s l → StopsStand k (s.heard l) (f (s.heard l))) : StopsStand k s (s.inFrame l f) := by
  by_cases h : Hears s l
  · rw [State.inFrame_of_hears h]
    exact .step (hf h) .upd
  · unfold State.inFrame
    rw [if_neg (by simpa [Hears] using h)]
    exact .refl

/-! ### Defects and departures -/

/-- A defect that follows a stop does not change the stop. -/
theorem StopsStand.followLatch {latch defect : Row} {place : Nat} (hd : otherThanStops defect = true) :
    StopsStand k s (s.followLatch l latch defect place) :=
  .ite (.wr hd) (.ite .refl (.step (.ite .refl (.wr rfl)) (.wr hd)))

theorem StopsStand.settleDef : StopsStand k s (s.settleDef l) := by
  unfold State.settleDef
  extract_lets s₁ s₂ s₃
  have h₁ : StopsStand k s s₁ := .step ((State.settleAvail_foot ..).stopsStand rfl) (.step ((State.settlePm_foot ..).stopsStand rfl)
    (.step (.followLatch rfl) (.followLatch rfl)))
  have h₂ : StopsStand k s s₂ := .step ((State.settleSluice_foot _).stopsStand rfl) h₁
  have h₃ : StopsStand k s s₃ := .ite (.step ((State.wakeCause_foot ..).stopsStand rfl) h₂) h₂
  exact .step ((State.settleProt_foot _).stopsStand rfl) (.step ((State.settleTime_foot _).stopsStand rfl)
    (.step ((State.settleSet_foot ..).stopsStand rfl) h₃))

theorem StopsStand.settleLanes : StopsStand k s (s.settleLanes l) := (State.settleLanes_foot ..).stopsStand rfl

theorem StopsStand.setAct : StopsStand k s (s.setAct l v) := (State.setAct_foot ..).stopsStand rfl

theorem StopsStand.depart : StopsStand k s (s.depart l v) :=
  .step .settleDef (.step .settleLanes (.step .setAct (.step ((State.dropNumber_foot ..).stopsStand rfl) ((State.cutWindows_foot ..).stopsStand rfl))))

theorem StopsStand.actCtl : StopsStand k s (s.actCtl l v) := by
  unfold State.actCtl
  have enabled : StopsStand k s (s.wr Reg.ACT_CTL_ENABLE 1 l.n) := .wr rfl
  refine .ite .refl (.ite (.step .settleDef (.step .settleLanes (.step ((State.pmAcquire_foot ..).stopsStand rfl) ?_))) (.ite ?_ .refl))
  · exact .ite (.step .setAct (.step (.wr rfl) (.step (.wr rfl) enabled))) enabled
  · exact .step .depart (.wr rfl)

theorem StopsStand.deactivate : StopsStand k s (s.deactivate l) := by
  unfold State.deactivate
  exact .ite .refl (.step .depart (.inc rfl))

theorem StopsStand.retireLeg : StopsStand k s (s.retireLeg l) := .ite .actCtl .refl

theorem StopsStand.legFailed : StopsStand k s (s.legFailed l) :=
  .step .retireLeg (.step .upd ((State.replaceLeg_foot ..).stopsStand rfl))

theorem StopsStand.rejoinLeg : StopsStand k s (s.rejoinLeg l) := .ite (.step .actCtl .upd) .refl

/-! ### Activation -/

theorem StopsStand.assignTn : StopsStand k s (s.assignTn l msg).2 := by
  unfold State.assignTn
  have latched : ∀ {x : State} {tn txid : Nat}, StopsStand k x (x.latchTn l tn txid) := (State.latchTn_foot ..).stopsStand rfl
  dsimp only
  split
  · exact (State.fieldBad_foot ..).stopsStand rfl
  split
  · exact latched
  split
  · exact .step .settleDef (.step .setAct (.step (.wr rfl) (.step (.wr rfl) (.step latched .upd))))
  · exact .refl

theorem StopsStand.assignMsg : StopsStand k s (s.assignMsg l msg) := by
  unfold State.assignMsg
  exact .ite .refl (.ite (.step .upd (.onMsg fun _ => .assignTn)) (.onMsg fun _ => .assignTn))

theorem StopsStand.eqdApply : StopsStand k s (s.eqdApply l) := by
  unfold State.eqdApply
  split
  · exact .refl
  next p r _ =>
    refine .ite .refl ?_
    extract_lets _ _ s₁ s₂ s₃
    have h₃ : StopsStand k s s₃ := .step .event (.step (.inc rfl) (.step ((State.showEqd_foot ..).stopsStand rfl) (.step .upd
      (.step (.wr rfl) (.step (.wr rfl) (.wr rfl))))))
    exact .ite (.step .settleDef (.step .settleLanes (.step .event (.step .setAct h₃)))) (.step ((State.settleTime_foot _).stopsStand rfl) h₃)

theorem StopsStand.rangingTimeout : StopsStand k s (s.rangingTimeout l) :=
  .ite .refl (.step .settleDef (.step .event (.step .setAct ((State.dropNumber_foot ..).stopsStand rfl))))

theorem StopsStand.declareLeg {place ev : Nat} (hR : otherThanStops R = true) : StopsStand k s (s.declareLeg l R place ev) :=
  .ite .refl (.step .event (.step (.ite .refl (.wr rfl)) (.wr hR)))

theorem StopsStand.rangeMiss : StopsStand k s (s.rangeMiss l) := by
  unfold State.rangeMiss
  exact .ite .refl (.step .settleDef (.step (.declareLeg rfl) (.step .event (.step (.inc rfl) .upd))))

/-! ### Delineation -/

theorem StopsStand.decideAll : StopsStand k s (s.decideAll l) := (State.decideAll_foot ..).stopsStand rfl

theorem StopsStand.toHunt : StopsStand k s (s.toHunt l w) := (State.toHunt_foot ..).stopsStand rfl

/-- A defect of a wave, or its place in LATCHED, is neither stop. -/
theorem StopsStand.declare {d : WaveDef} (hd : otherThanStops d.row = true) : StopsStand k s (s.declare l w d) := by
  unfold State.declare
  extract_lets s₁ s₂ s₃
  have h₂ : StopsStand k s s₂ := .step ((State.once_foot ..).stopsStand rfl) (.step (.ite .refl (.wr rfl)) (.ite .refl (.wr hd)))
  have h₃ : StopsStand k s s₃ := .ite (.step ((State.pmCount_foot ..).stopsStand rfl) h₂) h₂
  exact .ite .refl (.ite (.step .updWave h₃) h₃)

theorem StopsStand.clearDefect {d : WaveDef} (hd : otherThanStops d.row = true) : StopsStand k s (s.clearDefect l w d) := by
  unfold State.clearDefect
  have cleared : StopsStand k s (s.clrBit d.row l.n w) := .ite (.wr hd) .refl
  exact .ite .refl (.ite cleared (.step .event cleared))

theorem StopsStand.inSync {key idle : Nat} {received : Bool} {rel words : Int} :
    StopsStand k s (s.inSync l w key idle received rel words) := by
  unfold State.inSync
  extract_lets s₁ s₂ s₃ s₄ s₅ s₆
  have h₁ : StopsStand k s s₁ := .ite .decideAll .refl
  have h₂ : StopsStand k s s₂ := .step ((State.frameStart_foot ..).stopsStand rfl) h₁
  have h₃ : StopsStand k s s₃ := .ite (.step ((State.measure_foot ..).stopsStand rfl) h₂) h₂
  have h₄ : StopsStand k s s₄ := .ite (.step ((State.d0Start_foot ..).stopsStand rfl) h₃) h₃
  have h₅ : StopsStand k s s₅ := .ite (.step ((State.latchMark_foot ..).stopsStand rfl) h₄) h₄
  have h₆ : StopsStand k s s₆ := .ite (.step (.clearDefect rfl) h₅) h₅
  exact .step .settleDef h₆

theorem StopsStand.loseSync : StopsStand k s (s.loseSync l w) := by
  unfold State.loseSync
  extract_lets s₁ s₂ s₃ s₄
  have h₂ : StopsStand k s s₂ := .step .toHunt (.ite .decideAll .refl)
  have h₃ : StopsStand k s s₃ := .ite (.step (.declare rfl) h₂) h₂
  have h₄ : StopsStand k s s₄ := .ite (.step ((State.wakeCause_foot ..).stopsStand rfl) h₃) h₃
  exact .step .settleDef h₄

theorem StopsStand.presync {h : Nat} {ok : Bool} {rel words : Int} : StopsStand k s (s.presync l w h ok rel words) :=
  .ite (.step .updWave .toHunt) (.ite (.step .inSync (.step ((State.once_foot ..).stopsStand rfl) .updWave)) .updWave)

theorem StopsStand.syncStep {h : Nat} {found ok strict : Bool} {rel words : Int} :
    StopsStand k s (s.syncStep l w h found ok strict rel words) := by
  unfold State.syncStep
  have counted : StopsStand k s (if found then s.inc Reg.LINE_WCNT_HDR_MISMATCH l.n w else s) := .ite (.wr rfl) .refl
  exact .ite (.step .inSync .updWave) (.ite (.step .inSync (.step .updWave (.wr rfl)))
    (.ite (.step .loseSync counted) (.step .inSync (.step .updWave counted))))

theorem StopsStand.flywheel : StopsStand k s (s.flywheel l w) := by
  unfold State.flywheel
  have turned : StopsStand k s (s.updWave l w fun v => { v with sfc := nextKey v.key / 8, fn := nextKey v.key % 8 }) := .updWave
  exact .ite turned (.ite (.step .settleDef (.step ((State.d0Start_foot ..).stopsStand rfl) turned))
    (.ite (.step (.wr rfl) (.step .upd turned)) turned))

theorem StopsStand.marker {raw h : Nat} {rel words ofs : Int} : StopsStand k s (s.marker l w raw h rel words ofs) := by
  unfold State.marker
  refine .ite .refl ?_
  dsimp only
  split
  · exact .ite .flywheel .refl
  · exact .presync
  · exact .ite .flywheel (.step .syncStep (.ite (.of_regs rfl) .refl))

/-! ### The headgate -/

theorem StopsStand.sendRange {a : Alloc} : StopsStand k s (s.sendRange l a) := by
  unfold State.sendRange
  extract_lets tn
  split
  next m s₁ hs =>
  extract_lets s₂ s₃
  have h₁ : StopsStand k s s₁ := by
    have sent : StopsStand k s (s.rangeMsg l).2 := (State.rangeMsg_foot ..).stopsStand rfl
    rwa [hs] at sent
  have h₃ : StopsStand k s s₃ := .step ((State.sendBurst_foot ..).stopsStand rfl) (.step .upd (.step (.wr rfl) (.step (.inc rfl) h₁)))
  exact .ite (.step .settleDef (.step (.wr rfl) h₃)) h₃

theorem StopsStand.sendWindow {a : Alloc} : StopsStand k s (s.sendWindow l a) := by
  unfold State.sendWindow
  split
  · exact (State.sendRegistration_foot ..).stopsStand rfl
  · exact (State.sendWake_foot ..).stopsStand rfl
  · exact .sendRange
  · exact (State.sendSluice_foot ..).stopsStand rfl
  · exact (State.sendData_foot ..).stopsStand rfl

theorem StopsStand.openWindow {a : Alloc} : StopsStand k s (s.openWindow l w a) := by
  unfold State.openWindow
  extract_lets s₁ s₂ s₃
  have h₂ : StopsStand k s s₂ := .step (.inc rfl) (.step (.inc rfl) (.step ((State.setWin_foot ..).stopsStand rfl)
    ((State.setAlloc_foot ..).stopsStand rfl)))
  exact .step .sendWindow (.ite (.step ((State.txLane_foot ..).stopsStand rfl) h₂) h₂)

/-- A refusal is counted in a field that is neither stop. -/
theorem refusal_row_otherThanStops {a : Alloc} {slot : Option Nat} {cap : Bool} {used : Nat} (h : s.refusal l a slot cap used = some R) :
    otherThanStops R = true := by
  unfold State.refusal at h
  split_ifs at h <;> cases h <;> rfl

theorem StopsStand.stayDark {a : Alloc} (hR : otherThanStops R = true) : StopsStand k s (s.stayDark l a R) := by
  unfold State.stayDark State.refuse
  extract_lets s₁ s₂ s₃
  have h₂ : StopsStand k s s₂ := .ite (.step .event (.inc hR)) (.inc hR)
  have h₃ : StopsStand k s s₃ := .step .upd (.step ((State.attemptDark_foot ..).stopsStand rfl) (.step ((State.once_foot ..).stopsStand rfl) h₂))
  exact .ite (.step ((State.unwindAlloc_foot ..).stopsStand rfl) h₃) h₃

theorem StopsStand.windowOpen {start : Nat} : StopsStand k s (s.windowOpen l w start) := by
  unfold State.windowOpen
  dsimp only
  split
  · exact .refl
  · split
    next h => exact .stayDark (refusal_row_otherThanStops h)
    next => exact .step .openWindow ((State.windowEnd_foot ..).stopsStand rfl)

theorem StopsStand.settlePins : StopsStand k s (s.settlePins l) := .ite (.wr rfl) (.ite (.wr rfl) .refl)

theorem StopsStand.stopPins : StopsStand k s (s.stopPins l) :=
  .step .settleDef (.step .settleLanes (.step .settlePins ((State.cutWindows_foot ..).stopsStand rfl)))

/-- A stop that is set on one leg stands there, and the other leg's is as it was. -/
theorem State.isOn_wr_one (hn : 0 < R.n) (hw : R.width = 1) (hl : R.legStride ≠ 0) (h : s.isOn R k.n = true) :
    (s.wr R 1 l.n).isOn R k.n = true := by
  by_cases hk : k = l
  · rw [hk, State.isOn, State.rd_wr_same hn, hw]
    rfl
  · rwa [State.isOn, State.rd_wr_otherLeg hl hk]

theorem StopsStand.wr_rogue : StopsStand k s (s.wr Reg.HG_STATUS_ROGUE 1 l.n) where
  rogue := State.isOn_wr_one (by decide) rfl (by decide)
  estop h := by rwa [State.isOn, State.rd_wr_row rfl]

theorem StopsStand.wr_estop : StopsStand k s (s.wr Reg.HG_STATUS_ESTOP 1 l.n) where
  rogue h := by rwa [State.isOn, State.rd_wr_row rfl]
  estop := State.isOn_wr_one (by decide) rfl (by decide)

theorem StopsStand.rogueCount : StopsStand k s (s.rogueCount l) := by
  unfold State.rogueCount
  exact .ite (.step .legFailed .upd) .upd

theorem StopsStand.rogueLatch {samples : Nat} : StopsStand k s (s.rogueLatch l w samples) := by
  unfold State.rogueLatch
  exact .ite .refl (.step .rogueCount (.step .stopPins (.step .event (.step (.inc rfl) .wr_rogue))))

theorem StopsStand.emergencyStop : StopsStand k s (s.emergencyStop l) :=
  .ite .refl (.step .stopPins (.step .event .wr_estop))

/-- A release on the other leg. -/
theorem StopsStand.rogueRelease (hk : k ≠ l) : StopsStand k s (s.rogueRelease l) := by
  refine .step .settleDef (.step .settleLanes (.step .settlePins (.of_rd ?_ ?_)))
  · rw [State.rd_wr_row rfl, State.rd_wr_otherLeg (by decide) hk]
  · rw [State.rd_wr_otherLeg (by decide) hk, State.rd_wr_row rfl]

/-! ### Requests and the sleep cycle -/

theorem StopsStand.sleepRefused : StopsStand k s s.sleepRefused := by
  unfold State.sleepRefused
  exact .step .rejoinLeg (.step .rejoinLeg (.step .event (.of_regs rfl)))

theorem StopsStand.closeSleep {q : Req} {status : Option Nat} : StopsStand k s (s.closeSleep q status) := by
  unfold State.closeSleep
  extract_lets pwr s₁
  have h₁ : StopsStand k s s₁ := .of_regs rfl
  exact .ite (.ite h₁ (.step .sleepRefused h₁)) (.ite (.step .actCtl (.step .upd h₁)) h₁)

theorem StopsStand.response : StopsStand k s (s.response l msg) := by
  refine .fwMsg (.onMsg fun _ => ?_)
  split
  · exact .refl
  next q _ =>
    have dropped : StopsStand k s (s.dropReq q.txid) := (State.dropReq_foot ..).stopsStand rfl
    exact .ite (.step ((State.wakeAnswered_foot _).stopsStand rfl) dropped) (.ite (.step .closeSleep dropped) dropped)

theorem StopsStand.requestRetry {txid : Nat} : StopsStand k s (s.requestRetry txid) := by
  unfold State.requestRetry
  split
  · exact .refl
  next q _ =>
    have dropped : StopsStand k s ((s.dropReq txid).event (Ev.leg q.leg 9)) := .step .event ((State.dropReq_foot ..).stopsStand rfl)
    exact .ite .refl (.ite (.ite (.step .closeSleep dropped) dropped) ((State.resend_foot ..).stopsStand rfl))

theorem StopsStand.sleepEnded {code : Nat} : StopsStand k s (s.sleepEnded code) := by
  unfold State.sleepEnded
  extract_lets pwr s₁ s₂ leg s₃ pwr₂ s₄
  have h₁ : StopsStand k s s₁ := .of_regs rfl
  have h₂ : StopsStand k s s₂ := .step .event (.step ((State.settleBoth_foot _).stopsStand rfl) (.step ((State.recordWake_foot ..).stopsStand rfl)
    (.step ((State.setPower_foot ..).stopsStand rfl) h₁)))
  have h₄ : StopsStand k s s₄ := .ite h₂ (.step .upd (h₂.set rfl))
  exact .ite .refl (.step .rejoinLeg (.step .rejoinLeg h₄))

/-! ### Protection and modules -/

theorem StopsStand.switchDone : StopsStand k s s.switchDone := by
  unfold State.switchDone
  extract_lets leg s₁ s₂ ack wait prot s₃ s₄ s₅ s₆ s₇
  have request : ∀ (x : State) (r : ProtReq), StopsStand k x (x.request r) := fun _ _ => (State.request_foot ..).stopsStand rfl
  have h₂ : StopsStand k s s₂ := .step .event (.step .updWave (.step (.wr_shared rfl) (.step (.wr_shared rfl) (.wr_shared rfl))))
  have h₃ : StopsStand k s s₃ := h₂.set rfl
  have h₄ : StopsStand k s s₄ := .step ((State.roleNotices_foot _).stopsStand rfl) (.step ((State.answer_foot ..).stopsStand rfl) h₃)
  have h₆ : StopsStand k s s₆ := .step .settleDef (.step .settleDef (.step (.foldl request) h₄))
  have h₇ : StopsStand k s s₇ := .step (.foldl request) h₆
  exact .ite .refl (.ite (.step ((State.protResume_foot _).stopsStand rfl) h₇) h₇)

theorem StopsStand.bringupOver : StopsStand k s (s.bringupOver l) := .step .settleDef (.step .settleLanes (.step (.wr rfl) (.wr rfl)))

theorem StopsStand.presence {present : Bool} : StopsStand k s (s.presence l present) := by
  unfold State.presence
  extract_lets s₁
  have h₁ : StopsStand k s s₁ := .step .upd (.wr rfl)
  exact .ite .refl (.ite (.step .settleDef (.step .settleLanes (.step ((State.wakeCause_foot ..).stopsStand rfl) h₁)))
    (.step .bringupOver (.step (.wr rfl) h₁)))

theorem StopsStand.attempt : StopsStand k s (s.attempt l) :=
  .step .settleDef (.step .settleLanes (.step .upd (.step (.wr rfl) (.step (.wr rfl) (.wr rfl)))))

theorem StopsStand.optCtl : StopsStand k s (s.optCtl l v) := by
  unfold State.optCtl
  extract_lets s₁
  have h₁ : StopsStand k s s₁ := .step (.wr rfl) (.step (.wr rfl) (.wr rfl))
  exact .ite (.step .bringupOver h₁) (.ite (.step .attempt h₁) (.step .settleDef (.step .settleLanes h₁)))

theorem StopsStand.attemptFail : StopsStand k s (s.attemptFail l) := by
  unfold State.attemptFail
  extract_lets b s₁
  have h₁ : StopsStand k s s₁ := .step .bringupOver (.step (.inc rfl) (.wr rfl))
  exact .ite .refl (.ite (.step .legFailed h₁) h₁)

theorem StopsStand.retryBringup : StopsStand k s (s.retryBringup l) := .ite .attempt .refl

theorem StopsStand.rehuntWave : StopsStand k s (s.rehuntWave l w) := by
  unfold State.rehuntWave
  extract_lets s₁
  have h₁ : StopsStand k s s₁ := .step .upd (.wr rfl)
  exact .ite (.step .loseSync h₁) (.step .toHunt h₁)

theorem StopsStand.slipWrite {ag : Agent} {slip : Nat} : StopsStand k s (s.slipWrite ag l w slip) := by
  unfold State.slipWrite
  extract_lets s₁
  have h₁ : StopsStand k s s₁ := .ite .refl .upd
  exact .ite .refl (.step .rehuntWave (.step (.inc rfl) (.step (.wr rfl) h₁)))

theorem StopsStand.rehunt {ag : Agent} {mask : Nat} : StopsStand k s (s.rehunt ag l mask) :=
  .ite .refl (.foldl fun _ _ => .step .rehuntWave (.inc rfl))

/-! ### Long operations -/

theorem StopsStand.endOp {status result : Nat} : StopsStand k s (s.endOp i status result) := (State.endOp_foot ..).stopsStand rfl

theorem StopsStand.selfTestEnd {fin : OpFinish} : StopsStand k s (s.selfTestEnd i fin) := by
  unfold State.selfTestEnd
  dsimp only
  split
  · exact .ite (.step .legFailed .endOp) .endOp
  · exact .endOp

theorem StopsStand.completeOp {h : Nat} {fin : OpFinish} : StopsStand k s (s.completeOp h fin) := by
  unfold State.completeOp
  split
  · exact .refl
  next i _ =>
    refine .ite .refl ?_
    extract_lets c st other
    have well : ∀ {t}, StopsStand k s t → StopsStand k s (if st = 0 then t else s.endOp i st 0) := fun ht => .ite ht .endOp
    refine .ite ?_ (.ite ?_ (.ite ?_ (.ite ?_ (.ite ?_ (.ite ?_ (.ite ?_ (.ite ?_ .refl)))))))
    · exact (State.downloadEnd_foot ..).stopsStand rfl
    · exact well ((State.verifyEnd_foot ..).stopsStand rfl)
    · exact well .endOp
    · exact (State.bulkEnd_foot ..).stopsStand rfl
    · exact well ((State.sweepEnd_foot ..).stopsStand rfl)
    · exact well ((State.laserEnd_foot ..).stopsStand rfl)
    · exact well .selfTestEnd
    · exact well ((State.exportEnd_foot ..).stopsStand rfl)

/-! ### Firmware returns -/

/-- No setting lies where a stop is kept (R358). -/
theorem stops_not_settings : isSetting (Reg.HG_STATUS_ROGUE.key k.n 0) = false ∧ isSetting (Reg.HG_STATUS_ESTOP.key k.n 0) = false := by
  cases k <;> decide

/-- By the two places of the register store. -/
theorem StopsStand.of_get (h : ∀ j, isSetting j = false → Tab.get 0 j t.regs = Tab.get 0 j s.regs) : StopsStand k s t := by
  obtain ⟨hr, he⟩ := stops_not_settings (k := k)
  exact .of_rd (by simp only [State.rd, Row.get, h _ hr]) (by simp only [State.rd, Row.get, h _ he])

theorem State.applyTrims_regs (s : State) : s.applyTrims.regs = s.regs := rfl

theorem StopsStand.restore {x : Settings} {p : Nat → Bool} : StopsStand k s (s.restore x p) :=
  .of_get fun _ hj => get_restored hj p x.fields s.regs

theorem StopsStand.restoreAll {deep : Bool} : StopsStand k s (s.restoreAll deep) := by
  unfold State.restoreAll
  extract_lets s₁
  have h₁ : StopsStand k s s₁ := by
    unfold s₁
    split
    · exact .restore
    · exact .ite .refl ((State.defaultOwners_foot _).stopsStand rfl)
  exact h₁.set (State.applyTrims_regs s₁)

theorem StopsStand.firstBoot : StopsStand k s s.firstBoot := by
  unfold State.firstBoot
  extract_lets deep fw s₁ s₂
  have h₂ : StopsStand k s s₂ := .step (.wr_shared rfl) (.step .restoreAll (.step ((State.finishPending_foot _).stopsStand rfl) (.of_regs rfl)))
  exact .ite (.step .event h₂) h₂

theorem StopsStand.runReset : StopsStand k s s.runReset :=
  .of_get fun j hj => Tab.get_filter_of_kept 0 (fun p => !isSetting p.1) (fun _ => by simp [hj]) s.regs

theorem StopsStand.restarted : StopsStand k s s.restarted := .ite (.step .event .runReset) .refl

/-- No message that the autopilot keeps for firmware releases a stop (R25). -/
theorem StopsStand.takeBuffered : StopsStand k s (s.takeBuffered l msg) := by
  unfold State.takeBuffered
  split
  · exact (State.container_foot ..).stopsStand rfl
  · exact (State.keyExchange_foot ..).stopsStand rfl
  · exact (State.sleepMsg_foot ..).stopsStand rfl
  · exact (State.protSwitch_foot ..).stopsStand rfl
  · exact .response
  · exact .refl

theorem StopsStand.fwResume : StopsStand k s s.fwResume := by
  unfold State.fwResume
  extract_lets s₀ fw s₁ s₂ s₃ w pwr s₄ s₅
  have h₀ : StopsStand k s s₀ := .step (.wr_shared rfl) (.wr_shared rfl)
  have h₁ : StopsStand k s s₁ := h₀.set rfl
  have h₂ : StopsStand k s s₂ := .step ((State.flushEnded_foot _).stopsStand rfl) (.step (.foldl fun _ _ => .takeBuffered) (h₁.set rfl))
  have h₃ : StopsStand k s s₃ := .step .retireLeg (.step .retireLeg (.step ((State.safeRelease_foot ..).stopsStand rfl)
    (.step ((State.safeRelease_foot ..).stopsStand rfl) (.step ((State.protResume_foot _).stopsStand rfl) h₂))))
  have h₄ : StopsStand k s s₄ := .step (.foldl fun _ _ => (State.bmcTake_foot ..).stopsStand rfl) (h₃.set rfl)
  have h₅ : StopsStand k s s₅ := .ite (.step ((State.move_foot _).stopsStand rfl) h₄) h₄
  exact .step ((State.settleActivate_foot _).stopsStand rfl) (.step ((State.bootRefresh_foot _).stopsStand rfl) h₅)

theorem StopsStand.heartbeat : StopsStand k s (s.heartbeat v) := by
  unfold State.heartbeat
  extract_lets s₁ host s₂ st s₃
  have h₁ : StopsStand k s s₁ := .wr_shared rfl
  have h₂ : StopsStand k s s₂ := h₁.set rfl
  have h₃ : StopsStand k s s₃ := .step ((State.autopilotOff_foot _).stopsStand rfl) h₂
  exact .ite .refl (.ite (.inc_shared rfl) (.ite h₃ (.ite h₂ (.step .fwResume (.ite (.step .firstBoot h₃) (.step .restarted h₃))))))


/-! ### Register writes -/

/-- A field that no write through a window changes where it is a stop: both stops are read-only (R8). -/
def sparesStops (R : Row) : Bool := R.ty == .ro || otherThanStops R

theorem tree_sparesStops : fieldTree.toList.all sparesStops = true := by decide +kernel

theorem windowRows_sparesStops {a : Nat} (h : R ∈ windowRows a) : sparesStops R = true := by
  rw [windowRows_tab] at h
  exact List.all_eq_true.1 tree_sparesStops R (mem_tree (List.all_eq_true.1 (tabRows_known a) R h))

theorem StopsStand.fieldWrite {ag : Agent} {own locked : Bool} {j : Nat} (hR : sparesStops R = true) (hj : j < 2) :
    StopsStand k s (s.fieldWrite ag own locked R j i v) := by
  unfold State.fieldWrite
  extract_lets x old put
  have written : R.ty ≠ .ro → ∀ n, StopsStand k s (put n) := fun hro n => by
    have hother : otherThanStops R = true := by simpa [sparesStops, hro] using hR
    exact .ite (.wrA hother hj) (.wr_lt hother hj)
  split
  next h => exact written (by simp [h]) _
  next h => exact written (by simp [h]) _
  next h => exact written (by simp [h]) _
  next h => exact written (by simp [h]) _
  next h => exact .ite .refl (written (by simp [h]) _)
  next => exact .refl

theorem StopsStand.wordWrite {ag : Agent} {a : Nat} : StopsStand k s (s.wordWrite ag a v) := by
  unfold State.wordWrite
  refine .foldl_mem fun R hR x => ?_
  split
  next h => exact .fieldWrite (windowRows_sparesStops hR) (reach_leg h)
  · exact .refl

/-! ### The windows -/

variable {ag : Agent} {off a : Nat}

theorem StopsStand.settleTime : StopsStand k s s.settleTime := (State.settleTime_foot _).stopsStand rfl

theorem StopsStand.timeWrite : StopsStand k s (s.timeWrite ag off v) := by
  unfold State.timeWrite
  split
  · extract_lets s₁ s₂ s₃
    have h₁ : StopsStand k s s₁ := .wordWrite
    have h₂ : StopsStand k s s₂ := .ite (.step ((State.snap_foot ..).stopsStand rfl) h₁) h₁
    have h₃ : StopsStand k s s₃ := .ite (.step ((State.timeCancel_foot _).stopsStand rfl) h₂) h₂
    exact .ite (.step ((State.timeApply_foot ..).stopsStand rfl) h₃) h₃
  · exact .step ((State.settleSquelch_foot _).stopsStand rfl) .wordWrite
  · exact .step .settleTime .wordWrite
  · exact .step .settleTime .wordWrite
  · exact .ite ((State.stageWrite_foot ..).stopsStand rfl) .wordWrite

theorem StopsStand.tevWrite : StopsStand k s (s.tevWrite ag off v) :=
  .ite (.ite ((State.chCtl_foot ..).stopsStand rfl) ((State.tevConfig_foot ..).stopsStand rfl))
    (.ite (.step ((State.ptmTrigger_foot _).stopsStand rfl) .wordWrite) .wordWrite)

theorem StopsStand.uschWrite : StopsStand k s (s.uschWrite ag off v) := by
  unfold State.uschWrite
  refine .ite ((State.slotWrite_foot ..).stopsStand rfl) ?_
  split
  · exact .ite ((State.uschReset_foot _).stopsStand rfl) .refl
  · split
    · exact (State.queueRead_foot ..).stopsStand rfl
    · exact (State.queueWrite_foot ..).stopsStand rfl
    · exact (State.resetBuckets_foot ..).stopsStand rfl
    · exact .wrA rfl (by decide)
  · exact (State.uschSnap_foot ..).stopsStand rfl
  · exact .wordWrite

theorem StopsStand.stblWriteReg : StopsStand k s (s.stblWriteReg ag off v) := by
  unfold State.stblWriteReg
  split
  · dsimp only
    split
    · exact (State.stblRead_foot ..).stopsStand rfl
    · exact (State.stblCmd_foot (m := fp220) rfl (fun _ hx => Foot.step (State.stblWrite_foot ..) rfl hx) Foot.refl).stopsStand rfl
    · exact (State.stblCmd_foot (m := fp220) rfl (fun _ hx => Foot.step (State.stblInvalidate_foot ..) rfl hx) Foot.refl).stopsStand rfl
    · exact (State.stblCmd_foot (m := fp222) rfl (fun _ hx => Foot.step (State.stblCompare_foot ..) rfl hx) Foot.refl).stopsStand rfl
    · exact (State.stblCmd_foot (m := fp216) rfl (fun _ hx => hx) Foot.refl).stopsStand rfl
  · exact .ite (.step ((State.rearm_foot _).stopsStand rfl) .wordWrite) .wordWrite
  · exact (State.statLatch_foot ..).stopsStand rfl
  · exact .wordWrite

theorem StopsStand.clsWrite : StopsStand k s (s.clsWrite ag off v) := by
  unfold State.clsWrite
  split
  · split
    · exact (State.readNode_foot ..).stopsStand rfl
    · exact (State.writeNode_foot ..).stopsStand rfl
    · exact (State.readRoot_foot ..).stopsStand rfl
    · exact (State.writeRoot_foot ..).stopsStand rfl
    · exact (State.readProf_foot ..).stopsStand rfl
    · exact (State.writeProf_foot ..).stopsStand rfl
    · exact (State.clsCmd_foot (m := fp226) rfl (fun _ hx => hx) Foot.refl).stopsStand rfl
  · exact (State.commitWrite_foot ..).stopsStand rfl
  · exact .wordWrite

theorem StopsStand.ciphWrite : StopsStand k s (s.ciphWrite ag off v) := by
  unfold State.ciphWrite
  split
  · exact (State.keyRefresh_foot ..).stopsStand rfl
  · split
    · exact (State.slotQuery_foot ..).stopsStand rfl
    · exact (State.slotRead_foot ..).stopsStand rfl
    · exact (State.slotErase_foot ..).stopsStand rfl
    · exact (State.slotCmd_foot (m := fp107) rfl (fun _ hx => hx) Foot.refl).stopsStand rfl
  · exact .wordWrite

theorem laneRows_werr_otherThanStops (up : Bool) : otherThanStops (laneRows up).werr = true := by cases up <;> rfl

theorem StopsStand.laneWrite : StopsStand k s (s.laneWrite ag a v) := by
  unfold State.laneWrite
  exact .ite (.step .event (.wr_shared (laneRows_werr_otherThanStops _)))
    (.ite (.step ((State.laneSettle_foot ..).stopsStand rfl) .wordWrite) .wordWrite)

theorem StopsStand.settleSluiceProt : StopsStand k s s.settleSluice.settleProt :=
  .step ((State.settleProt_foot _).stopsStand rfl) ((State.settleSluice_foot _).stopsStand rfl)

theorem StopsStand.sluWrite : StopsStand k s (s.sluWrite ag off v) := by
  unfold State.sluWrite
  refine .ite (.step .settleSluiceProt .laneWrite) ?_
  split
  · extract_lets s₁
    have h₁ : StopsStand k s s₁ := .ite ((State.swapRequest_foot ..).stopsStand rfl) (.step (.wr_shared rfl) (.wr_shared rfl))
    exact .ite (.step ((State.swapCancel_foot _).stopsStand rfl) h₁) h₁
  · dsimp only
    split
    · exact (State.cmRead_foot ..).stopsStand rfl
    · exact (State.cmWrite_foot ..).stopsStand rfl
    · exact (State.cmCopy_foot ..).stopsStand rfl
    · exact (State.cmClear_foot ..).stopsStand rfl
  · exact .step .settleSluiceProt .wordWrite

theorem StopsStand.protWrite : StopsStand k s (s.protWrite ag off v) := by
  unfold State.protWrite
  have command : ∀ {cause : Nat} {leg : Leg}, StopsStand k s (s.protCmd cause leg) := (State.protCmd_foot ..).stopsStand rfl
  split
  · split
    · exact command
    · exact command
    · exact command
    · exact command
    · exact command
    · exact .wr_shared rfl
  · exact .step ((State.settleProt_foot _).stopsStand rfl) .wordWrite

theorem StopsStand.pmWrite : StopsStand k s (s.pmWrite ag off v) := by
  unfold State.pmWrite
  split
  · exact (State.pmTest_foot ..).stopsStand rfl
  · exact (State.pmTest_foot ..).stopsStand rfl
  · exact (State.binLatch_foot ..).stopsStand rfl
  · exact .wordWrite

theorem StopsStand.optWrite : StopsStand k s (s.optWrite ag off v) :=
  .ite .refl (.ite .optCtl (.ite .slipWrite (.ite .rehunt .wordWrite)))

theorem StopsStand.hifWrite : StopsStand k s (s.hifWrite ag a v) := by
  unfold State.hifWrite
  have ring : ∀ {kind : RingKind} {r o : Nat}, StopsStand k s (s.ringWrite ag kind r o v) := (State.ringWrite_foot ..).stopsStand rfl
  refine .ite ring (.ite ring (.ite ring (.ite ring ?_)))
  split
  · extract_lets s₁ s₂
    have h₁ : StopsStand k s s₁ := .wordWrite
    have h₂ : StopsStand k s s₂ := .ite (.step ((State.resume_foot _).stopsStand rfl) h₁) h₁
    exact .ite (.step ((State.discard_foot _).stopsStand rfl) h₂) h₂
  · exact (State.replayCopy_foot ..).stopsStand rfl
  · exact (State.hifSnap_foot ..).stopsStand rfl
  · exact .wordWrite

theorem StopsStand.mbxWrite : StopsStand k s (s.mbxWrite ag off v) :=
  .ite ((State.viewWrite_foot ..).stopsStand rfl) (.ite .refl (.ite ((State.mbxOwnWrite_foot ..).stopsStand rfl) .wordWrite))

theorem StopsStand.ringField {kind : RingKind} {ring : Nat} (hR : otherThanStops R = true) : StopsStand k s (s.ringField kind R ring v) :=
  .ite (.ite .refl (.wr_shared rfl)) (.wr_shared hR)

theorem StopsStand.admWriteReg : StopsStand k s (s.admWriteReg ag off v) := by
  unfold State.admWriteReg
  refine .ite .refl ?_
  split
  · exact .ringField rfl
  · exact .ringField rfl
  · exact (State.ringCtl_foot ..).stopsStand rfl
  · exact (State.doorbell_foot ..).stopsStand rfl
  · exact .ringField rfl
  · exact .ringField rfl
  · exact (State.ringCtl_foot ..).stopsStand rfl
  · exact (State.doorbell_foot ..).stopsStand rfl
  · exact .wordWrite

theorem StopsStand.fwWrite : StopsStand k s (s.fwWrite ag off v) := by
  unfold State.fwWrite
  split
  · exact .ite .heartbeat .refl
  · split
    · exact .ite (.step (.wr_shared rfl) (.wr_shared rfl)) (.wr_shared rfl)
    · exact (State.lcArm_foot ..).stopsStand rfl
    · exact .wordWrite
  · exact .refl

/-- A write of the reset register by another than the PF asks for no cold reset (R382). -/
theorem StopsStand.pwrWrite (h : ag = .pf → off ≠ 0x20) : StopsStand k s (s.pwrWrite ag off v) := by
  unfold State.pwrWrite
  split
  next hoff =>
    have notCold : s.askCold ag v = s := if_neg fun hc => h hc.1 hoff
    rw [notCold]
    exact (State.askWarm_foot ..).stopsStand rfl
  next => exact .wordWrite

/-- A write through the PF's or firmware's port, but for the PF's of the reset register. -/
theorem StopsStand.winWrite (h : ag = .pf → a ≠ 0x010020) : StopsStand k s (s.winWrite ag a v) := by
  unfold State.winWrite
  have headgate : ∀ {leg : Leg}, StopsStand k s (s.hgCtl leg v) := (State.hgCtl_foot ..).stopsStand rfl
  refine .ite .refl ?_
  split
  next hw => exact .pwrWrite fun hag hoff => h hag (by omega)
  next => exact .ite .actCtl (.ite .actCtl .wordWrite)
  next => exact .ite headgate (.ite headgate .wordWrite)
  next => exact .timeWrite
  next => exact .tevWrite
  next => exact .uschWrite
  next => exact .stblWriteReg
  next => exact .clsWrite
  next => exact .ciphWrite
  next => exact .sluWrite
  next => exact .protWrite
  next => exact .pmWrite
  next => exact .optWrite
  next => exact .mbxWrite
  next => exact .admWriteReg
  next => exact .fwWrite
  next => exact .ite .hifWrite .wordWrite

theorem StopsStand.regWrite (h : ag = .pf → a ≠ 0x010020) : StopsStand k s (s.regWrite ag a v) := by
  unfold State.regWrite
  split
  · exact .ite ((State.bar2Write_foot ..).stopsStand rfl) (.step (.winWrite h) (.ite ((State.idleExit_foot ..).stopsStand rfl) .refl))
  · exact .winWrite nofun
  · exact .ite ((State.vfWrite_foot ..).stopsStand rfl) .refl
  · exact .refl

theorem StopsStand.fcTake {p q r o : Nat} : StopsStand k s (s.fcTake p q r o) := (State.fcTake_foot ..).stopsStand rfl

theorem StopsStand.barred {write : Bool} {f : State → State} (hf : ∀ x, StopsStand k x (f x)) : StopsStand k s (s.barred ag write f) := by
  unfold State.barred
  dsimp only
  split
  · exact .reg hf
  · refine .ite .refl (.inDom fun x => ?_)
    have taken : StopsStand k x (if write = true then x.fcTake 1 1 0 0 else x.fcTake 0 0 1 0) := .ite .fcTake .fcTake
    exact .ite (.step (hf _) taken) (taken.set rfl)

/-! ### Configuration writes (R278) -/

theorem StopsStand.configWrite {fn : Nat} {item : ConfigItem} : StopsStand k s (s.configWrite fn item v) := by
  have event : ∀ {x : State} {src det : Nat}, StopsStand k x (x.pfEvent src det) := (State.pfEvent_foot ..).stopsStand rfl
  have flushed : ∀ {x : State}, StopsStand k x (x.msixFlushAll fn) := (State.msixFlushAll_foot ..).stopsStand rfl
  have configured : ∀ {f c x : Nat}, StopsStand k s (s.setCfg f c x) := (State.setCfg_foot ..).stopsStand rfl
  refine .ite .refl ?_
  cases item with
  | busMasterEnable =>
    exact .ite ((State.bmeSet_foot ..).stopsStand rfl) (.ite (.step event (.step event (.wr_shared rfl))) .refl)
  | vfEnable =>
    exact .ite .refl (.step event ((State.vfEnable_foot ..).stopsStand rfl))
  | msixEnable => exact .ite .refl (.step event (.step flushed (.of_regs rfl)))
  | relaxedOrdering => exact .of_regs rfl
  | ptmEnable => exact .ite (.of_regs rfl) .refl
  | aerCorr => exact .ite (.of_regs rfl) .refl
  | aerUncorr => exact .ite (.of_regs rfl) .refl
  | maxPayload => exact .ite configured .refl
  | maxReadRequest => exact .ite configured .refl
  | completionTimeout => exact .ite configured .refl
  | powerState => exact .ite configured .refl
  | aspm => exact .ite configured .refl
  | ltrEnable => exact .ite configured .refl
  | tag10Enable => exact .ite configured .refl
  | tag14Enable => exact .ite configured .refl
  | msixFunctionMask => exact .step flushed configured


/-! ### The commands -/

/-- A command answers its next state. -/
theorem StopsStand.of_next {φ ρ : Type} (h : (.next u : Host.Outcome State φ ρ) = .next t) (hu : StopsStand k s u) : StopsStand k s t :=
  Host.Outcome.next.inj h ▸ hu

theorem execSfEvaluate_stopsStand (h : execSfEvaluate l w s = .next t) : StopsStand k s t := by
  have judged : StopsStand k s (((s.sfStep l w (s.wave l w).uncorr).sdStep l w (s.wave l w).uncorr).settleDef l) :=
    .step .settleDef (.step ((State.sdStep_foot ..).stopsStand rfl) ((State.sfStep_foot ..).stopsStand rfl))
  exact .of_next h (.ite .refl (.step .updWave (.ite judged .refl)))

end

/-- Every command but a release that the terminal accepts on the leg, and those a cold reset can be a part of. -/
theorem exec_stopsStand {c : Instr} {k : Leg} {s t : State} (h : exec c s = .next t) (hp : mayLosePower c = false)
    (hrel : ∀ m, c = .rogueRelease k m → ¬(Hears s k ∧ s.takes k 0x07 m true 0 = true)) : StopsStand k s t := by
  cases c with
  | syncCandidate => exact (execSyncCandidate_foot (ht := h) ..).stopsStand rfl
  | delineationMarker => exact .of_next h .marker
  | codewordDecode => exact (execCodewordDecode_foot (ht := h) ..).stopsStand rfl
  | partitionHeader => exact (execPartitionHeader_foot (ht := h) ..).stopsStand rfl
  | todAnnouncement => exact (execTodAnnouncement_foot (ht := h) ..).stopsStand rfl
  | allocationStructure => exact (execAllocationStructure_foot (ht := h) ..).stopsStand rfl
  | sluiceRegion => exact (execSluiceRegion_foot (ht := h) ..).stopsStand rfl
  | channelFrame => exact (execChannelFrame_foot (ht := h) ..).stopsStand rfl
  | frameDelivery => exact (execFrameDelivery_foot (ht := h) ..).stopsStand rfl
  | burstProfile => exact (execBurstProfile_foot (ht := h) ..).stopsStand rfl
  | profileEffective => exact (execProfileEffective_foot (ht := h) ..).stopsStand rfl
  | assignTn => exact .of_next h (.inFrame fun _ => .assignMsg)
  | eqdSet => exact (execEqdSet_foot (ht := h) ..).stopsStand rfl
  | eqdApply => exact .of_next h .eqdApply
  | container => exact (execContainer_foot (ht := h) ..).stopsStand rfl
  | containerEffective => exact (execContainerEffective_foot (ht := h) ..).stopsStand rfl
  | deactivate => exact .of_next h (.inFrame fun _ => .onMsg fun _ => .deactivate)
  | emergencyStop => exact .of_next h (.inFrame fun _ => .onMsg fun _ => .emergencyStop)
  | rogueRelease l msg =>
    refine .of_next h (.inFrame fun hears => .onMsg fun takes => .rogueRelease ?_)
    rintro rfl
    exact hrel msg rfl ⟨hears, State.heard_takes.symm.trans takes⟩
  | allocRevise => exact (execAllocRevise_foot (ht := h) ..).stopsStand rfl
  | keepRanged => exact (execKeepRanged_foot (ht := h) ..).stopsStand rfl
  | keyExchange => exact (execKeyExchange_foot (ht := h) ..).stopsStand rfl
  | keySwitch => exact (execKeySwitch_foot (ht := h) ..).stopsStand rfl
  | keySwitchUpEffective => exact (execKeySwitchUpEffective_foot (ht := h) ..).stopsStand rfl
  | keySwitchDnEffective => exact (execKeySwitchDnEffective_foot (ht := h) ..).stopsStand rfl
  | generationErase => exact (execGenerationErase_foot (ht := h) ..).stopsStand rfl
  | sleep => exact (execSleep_foot (ht := h) ..).stopsStand rfl
  | protSwitch => exact (execProtSwitch_foot (ht := h) ..).stopsStand rfl
  | response => exact .of_next h (.inFrame fun _ => .response)
  | msgUnknown => exact (execMsgUnknown_foot (ht := h) ..).stopsStand rfl
  | requestRetryTimer => exact .of_next h .requestRetry
  | actCtlWrite => exact .of_next h (.reg fun _ => .actCtl)
  | registrationTimeout => exact (execRegistrationTimeout_foot (ht := h) ..).stopsStand rfl
  | rangingTimeout => exact .of_next h .rangingTimeout
  | rangeMiss => exact .of_next h .rangeMiss
  | wakeAttemptTimeout => exact (execWakeAttemptTimeout_foot (ht := h) ..).stopsStand rfl
  | upstreamFrameStart => exact (execUpstreamFrameStart_foot (ht := h) ..).stopsStand rfl
  | lanePowerUp => exact (execLanePowerUp_foot (ht := h) ..).stopsStand rfl
  | windowOpen => exact .of_next h .windowOpen
  | windowEnd => exact (execWindowEnd_foot (ht := h) ..).stopsStand rfl
  | rogueLatch => exact .of_next h .rogueLatch
  | hgCtlWrite => exact (execHgCtlWrite_foot (ht := h) ..).stopsStand rfl
  | limiterStep => exact (execLimiterStep_foot (ht := h) ..).stopsStand rfl
  | servoUpdate => exact (execServoUpdate_foot (ht := h) ..).stopsStand rfl
  | qualityEvaluate => exact (execQualityEvaluate_foot (ht := h) ..).stopsStand rfl
  | todMissing => exact (execTodMissing_foot (ht := h) ..).stopsStand rfl
  | holdoverBoundAdvance => exact (execHoldoverBoundAdvance_foot (ht := h) ..).stopsStand rfl
  | incrHoUpdate => exact (execIncrHoUpdate_foot (ht := h) ..).stopsStand rfl
  | dispersionFit => exact (execDispersionFit_foot (ht := h) ..).stopsStand rfl
  | laserLowConf => exact (execLaserLowConf_foot (ht := h) ..).stopsStand rfl
  | laserConfRestored => exact (execLaserConfRestored_foot (ht := h) ..).stopsStand rfl
  | timeVote => exact (execTimeVote_foot (ht := h) ..).stopsStand rfl
  | timeSnap => exact (execTimeSnap_foot (ht := h) ..).stopsStand rfl
  | timeApply => exact (execTimeApply_foot (ht := h) ..).stopsStand rfl
  | timeCancel => exact (execTimeCancel_foot (ht := h) ..).stopsStand rfl
  | applyTick => exact (execApplyTick_foot (ht := h) ..).stopsStand rfl
  | timeStageWrite => exact (execTimeStageWrite_foot (ht := h) ..).stopsStand rfl
  | tevArm => exact (execTevArm_foot (ht := h) ..).stopsStand rfl
  | tevDisarm => exact (execTevDisarm_foot (ht := h) ..).stopsStand rfl
  | tevConfigWrite => exact (execTevConfigWrite_foot (ht := h) ..).stopsStand rfl
  | tevFire => exact (execTevFire_foot (ht := h) ..).stopsStand rfl
  | tevPulseEnd => exact (execTevPulseEnd_foot (ht := h) ..).stopsStand rfl
  | ppsOutPulse => exact (execPpsOutPulse_foot (ht := h) ..).stopsStand rfl
  | ppsPulseEnd => exact (execPpsPulseEnd_foot (ht := h) ..).stopsStand rfl
  | tcapEdge => exact (execTcapEdge_foot (ht := h) ..).stopsStand rfl
  | tcapHeadPop => exact (execTcapHeadPop_foot (ht := h) ..).stopsStand rfl
  | ptmAutoTimer => exact (execPtmAutoTimer_foot (ht := h) ..).stopsStand rfl
  | ptmTrigger => exact (execPtmTrigger_foot (ht := h) ..).stopsStand rfl
  | ptmResponse => exact (execPtmResponse_foot (ht := h) ..).stopsStand rfl
  | ptmTimeout => exact (execPtmTimeout_foot (ht := h) ..).stopsStand rfl
  | latchedRead => exact (execLatchedRead_foot (ht := h) ..).stopsStand rfl
  | doorbell => exact (execDoorbell_foot (ht := h) ..).stopsStand rfl
  | descriptorFetch => exact (execDescriptorFetch_foot (ht := h) ..).stopsStand rfl
  | hostReadCompletion => exact (execHostReadCompletion_foot (ht := h) ..).stopsStand rfl
  | completionTimeout => exact (execCompletionTimeout_foot (ht := h) ..).stopsStand rfl
  | tokenRefill => exact (execTokenRefill_foot (ht := h) ..).stopsStand rfl
  | burstBuild => exact (execBurstBuild_foot (ht := h) ..).stopsStand rfl
  | buildDeadline => exact (execBuildDeadline_foot (ht := h) ..).stopsStand rfl
  | fallbackEnd => exact (execFallbackEnd_foot (ht := h) ..).stopsStand rfl
  | uschReset => exact (execUschReset_foot (ht := h) ..).stopsStand rfl
  | uschResetDone => exact (execUschResetDone_foot (ht := h) ..).stopsStand rfl
  | queueRead => exact (execQueueRead_foot (ht := h) ..).stopsStand rfl
  | queueWrite => exact (execQueueWrite_foot (ht := h) ..).stopsStand rfl
  | resetBuckets => exact (execResetBuckets_foot (ht := h) ..).stopsStand rfl
  | containerSlotWrite => exact (execContainerSlotWrite_foot (ht := h) ..).stopsStand rfl
  | uschAuditSnap => exact (execUschAuditSnap_foot (ht := h) ..).stopsStand rfl
  | stblRead => exact (execStblRead_foot (ht := h) ..).stopsStand rfl
  | stblWrite => exact (execStblWrite_foot (ht := h) ..).stopsStand rfl
  | stblInvalidate => exact (execStblInvalidate_foot (ht := h) ..).stopsStand rfl
  | compareAndWrite => exact (execCompareAndWrite_foot (ht := h) ..).stopsStand rfl
  | stblCmdDone => exact (execStblCmdDone_foot (ht := h) ..).stopsStand rfl
  | learnHoldExpiry => exact (execLearnHoldExpiry_foot (ht := h) ..).stopsStand rfl
  | learnRearm => exact (execLearnRearm_foot (ht := h) ..).stopsStand rfl
  | statLatch => exact (execStatLatch_foot (ht := h) ..).stopsStand rfl
  | readNode => exact (execReadNode_foot (ht := h) ..).stopsStand rfl
  | writeNode => exact (execWriteNode_foot (ht := h) ..).stopsStand rfl
  | readRoot => exact (execReadRoot_foot (ht := h) ..).stopsStand rfl
  | writeRoot => exact (execWriteRoot_foot (ht := h) ..).stopsStand rfl
  | readProf => exact (execReadProf_foot (ht := h) ..).stopsStand rfl
  | writeProf => exact (execWriteProf_foot (ht := h) ..).stopsStand rfl
  | clsCmdDone => exact (execClsCmdDone_foot (ht := h) ..).stopsStand rfl
  | commitOpen => exact (execCommitOpen_foot (ht := h) ..).stopsStand rfl
  | commit => exact (execCommit_foot (ht := h) ..).stopsStand rfl
  | commitCancel => exact (execCommitCancel_foot (ht := h) ..).stopsStand rfl
  | commitEffective => exact (execCommitEffective_foot (ht := h) ..).stopsStand rfl
  | drainDone => exact (execDrainDone_foot (ht := h) ..).stopsStand rfl
  | versionExpired => exact (execVersionExpired_foot (ht := h) ..).stopsStand rfl
  | pipelineCompare => exact (execPipelineCompare_foot (ht := h) ..).stopsStand rfl
  | lookasideRequest => exact (execLookasideRequest_foot (ht := h) ..).stopsStand rfl
  | lookasideDone => exact (execLookasideDone_foot (ht := h) ..).stopsStand rfl
  | query => exact (execQuery_foot (ht := h) ..).stopsStand rfl
  | slotRead => exact (execSlotRead_foot (ht := h) ..).stopsStand rfl
  | slotErase => exact (execSlotErase_foot (ht := h) ..).stopsStand rfl
  | slotCmdDone => exact (execSlotCmdDone_foot (ht := h) ..).stopsStand rfl
  | keyRefresh => exact (execKeyRefresh_foot (ht := h) ..).stopsStand rfl
  | ciphLock => exact (execCiphLock_foot (ht := h) ..).stopsStand rfl
  | rngFail => exact (execRngFail_foot (ht := h) ..).stopsStand rfl
  | rngRecover => exact (execRngRecover_foot (ht := h) ..).stopsStand rfl
  | sluiceRecordWrite => exact (execSluiceRecordWrite_foot (ht := h) ..).stopsStand rfl
  | sluiceRecordRead => exact (execSluiceRecordRead_foot (ht := h) ..).stopsStand rfl
  | swapRequest => exact (execSwapRequest_foot (ht := h) ..).stopsStand rfl
  | swapCancel => exact (execSwapCancel_foot (ht := h) ..).stopsStand rfl
  | swapEffective => exact (execSwapEffective_foot (ht := h) ..).stopsStand rfl
  | cmRead => exact (execCmRead_foot (ht := h) ..).stopsStand rfl
  | cmWrite => exact (execCmWrite_foot (ht := h) ..).stopsStand rfl
  | cmCopy => exact (execCmCopy_foot (ht := h) ..).stopsStand rfl
  | cmClear => exact (execCmClear_foot (ht := h) ..).stopsStand rfl
  | cmCmdDone => exact (execCmCmdDone_foot (ht := h) ..).stopsStand rfl
  | losDeclare => exact .of_next h (.ite (.step .settleDef (.declare rfl)) .refl)
  | losClear => exact .of_next h (.ite (.step .settleDef (.clearDefect rfl)) .refl)
  | sfEvaluate => exact execSfEvaluate_stopsStand h
  | holdoffExpiry => exact (execHoldoffExpiry_foot (ht := h) ..).stopsStand rfl
  | clear => exact (execClear_foot (ht := h) ..).stopsStand rfl
  | forced => exact (execForced_foot (ht := h) ..).stopsStand rfl
  | manual => exact (execManual_foot (ht := h) ..).stopsStand rfl
  | fwForced => exact (execFwForced_foot (ht := h) ..).stopsStand rfl
  | switchDone => exact .of_next h .switchDone
  | wtrExpiry => exact (execWtrExpiry_foot (ht := h) ..).stopsStand rfl
  | pmSecond => exact (execPmSecond_foot (ht := h) ..).stopsStand rfl
  | pmSecondCommit => exact (execPmSecondCommit_foot (ht := h) ..).stopsStand rfl
  | binRoll => exact (execBinRoll_foot (ht := h) ..).stopsStand rfl
  | pmBinLatch => exact (execPmBinLatch_foot (ht := h) ..).stopsStand rfl
  | pmTestWrite => exact (execPmTestWrite_foot (ht := h) ..).stopsStand rfl
  | linkDown => exact (execLinkDown_foot (ht := h) ..).stopsStand rfl
  | linkTrained => exact (execLinkTrained_foot (ht := h) ..).stopsStand rfl
  | resume => exact (execResume_foot (ht := h) ..).stopsStand rfl
  | discard => exact (execDiscard_foot (ht := h) ..).stopsStand rfl
  | linkHoldExpired => exact (execLinkHoldExpired_foot (ht := h) ..).stopsStand rfl
  | bmeSet => exact (execBmeSet_foot (ht := h) ..).stopsStand rfl
  | ringEnable => exact (execRingEnable_foot (ht := h) ..).stopsStand rfl
  | ringDisable => exact (execRingDisable_foot (ht := h) ..).stopsStand rfl
  | flush => exact (execFlush_foot (ht := h) ..).stopsStand rfl
  | flushDone => exact (execFlushDone_foot (ht := h) ..).stopsStand rfl
  | completionWrite => exact (execCompletionWrite_foot (ht := h) ..).stopsStand rfl
  | msixModerationTimer => exact (execMsixModerationTimer_foot (ht := h) ..).stopsStand rfl
  | rxStarved => exact (execRxStarved_foot (ht := h) ..).stopsStand rfl
  | replay => exact (execReplay_foot (ht := h) ..).stopsStand rfl
  | vfFlr => exact (execVfFlr_foot (ht := h) ..).stopsStand rfl
  | pfFlr => exact (execPfFlr_foot (ht := h) ..).stopsStand rfl
  | flrDone => exact (execFlrDone_foot (ht := h) ..).stopsStand rfl
  | hifAuditCheck => exact (execHifAuditCheck_foot (ht := h) ..).stopsStand rfl
  | hifAuditSnap => exact (execHifAuditSnap_foot (ht := h) ..).stopsStand rfl
  | evtLogPop => exact (execEvtLogPop_foot (ht := h) ..).stopsStand rfl
  | errlogPop => exact (execErrlogPop_foot (ht := h) ..).stopsStand rfl
  | barAccess => exact (execBarAccess_foot (ht := h) ..).stopsStand rfl
  | mbxSend => exact (execMbxSend_foot (ht := h) ..).stopsStand rfl
  | mbxStatusRead => exact (execMbxStatusRead_foot (ht := h) ..).stopsStand rfl
  | mbxAck => exact (execMbxAck_foot (ht := h) ..).stopsStand rfl
  | mbxFetch => exact (execMbxFetch_foot (ht := h) ..).stopsStand rfl
  | mbxFetchDone => exact (execMbxFetchDone_foot (ht := h) ..).stopsStand rfl
  | mbxSwAccess => exact (execMbxSwAccess_foot (ht := h) ..).stopsStand rfl
  | mbxOwnerWrite => exact (execMbxOwnerWrite_foot (ht := h) ..).stopsStand rfl
  | mctpMbxSend => exact (execMctpMbxSend_foot (ht := h) ..).stopsStand rfl
  | mctpMbxRead => exact (execMctpMbxRead_foot (ht := h) ..).stopsStand rfl
  | mctpMbxAck => exact (execMctpMbxAck_foot (ht := h) ..).stopsStand rfl
  | swWrite => exact (execSwWrite_foot (ht := h) ..).stopsStand rfl
  | swRead => exact (execSwRead_foot (ht := h) ..).stopsStand rfl
  | nop => exact (execNop_foot (ht := h) ..).stopsStand rfl
  | identify => exact (execIdentify_foot (ht := h) ..).stopsStand rfl
  | queryOp => exact (execQueryOp_foot (ht := h) ..).stopsStand rfl
  | suspend => exact (execSuspend_foot (ht := h) ..).stopsStand rfl
  | resumeOp => exact (execResumeOp_foot (ht := h) ..).stopsStand rfl
  | cancel => exact (execCancel_foot (ht := h) ..).stopsStand rfl
  | settingsSave => exact (execSettingsSave_foot (ht := h) ..).stopsStand rfl
  | keyLoadCmd => exact (execKeyLoadCmd_foot (ht := h) ..).stopsStand rfl
  | keyErase => exact (execKeyErase_foot (ht := h) ..).stopsStand rfl
  | fwActivate => exact (execFwActivate_foot (ht := h) ..).stopsStand rfl
  | fwConfirm => exact (execFwConfirm_foot (ht := h) ..).stopsStand rfl
  | lcTransition => exact (execLcTransition_foot (ht := h) ..).stopsStand rfl
  | cosignEnrol => exact (execCosignEnrol_foot (ht := h) ..).stopsStand rfl
  | fwDownload => exact (execFwDownload_foot (ht := h) ..).stopsStand rfl
  | fwVerify => exact (execFwVerify_foot (ht := h) ..).stopsStand rfl
  | scrubFull => exact (execScrubFull_foot (ht := h) ..).stopsStand rfl
  | tableBulkLoad => exact (execTableBulkLoad_foot (ht := h) ..).stopsStand rfl
  | dispersionSweep => exact (execDispersionSweep_foot (ht := h) ..).stopsStand rfl
  | laserCharacterise => exact (execLaserCharacterise_foot (ht := h) ..).stopsStand rfl
  | selfTest => exact (execSelfTest_foot (ht := h) ..).stopsStand rfl
  | pmExport => exact (execPmExport_foot (ht := h) ..).stopsStand rfl
  | longOpProgress => exact (execLongOpProgress_foot (ht := h) ..).stopsStand rfl
  | longOpSafePoint => exact (execLongOpSafePoint_foot (ht := h) ..).stopsStand rfl
  | longOpComplete => exact .of_next h .completeOp
  | suspendTimeout => exact (execSuspendTimeout_foot (ht := h) ..).stopsStand rfl
  | heartbeat => exact .of_next h (.inDom fun _ => .heartbeat)
  | hbLost => exact (execHbLost_foot (ht := h) ..).stopsStand rfl
  | autopilotExpired => exact (execAutopilotExpired_foot (ht := h) ..).stopsStand rfl
  | firstHeartbeatLate => exact (execFirstHeartbeatLate_foot (ht := h) ..).stopsStand rfl
  | plannedAbsence => exact (execPlannedAbsence_foot (ht := h) ..).stopsStand rfl
  | microcodeBankSwitch => exact (execMicrocodeBankSwitch_foot (ht := h) ..).stopsStand rfl
  | trialWindowExpiry => exact (execTrialWindowExpiry_foot (ht := h) ..).stopsStand rfl
  | lcArm => exact (execLcArm_foot (ht := h) ..).stopsStand rfl
  | idleEnter => exact (execIdleEnter_foot (ht := h) ..).stopsStand rfl
  | perstAssert => exact (execPerstAssert_foot (ht := h) ..).stopsStand rfl
  | perstDeassert => exact (execPerstDeassert_foot (ht := h) ..).stopsStand rfl
  | bmcPowerRequest => exact (execBmcPowerRequest_foot (ht := h) ..).stopsStand rfl
  | sleepStart => exact (execSleepStart_foot (ht := h) ..).stopsStand rfl
  | awakeStart => exact (execAwakeStart_foot (ht := h) ..).stopsStand rfl
  | dozeStart => exact (execDozeStart_foot (ht := h) ..).stopsStand rfl
  | sleepEnded => exact .of_next h .sleepEnded
  | sleepRetry => exact (execSleepRetry_foot (ht := h) ..).stopsStand rfl
  | wakeIn => cases hp
  | aonTimer => exact (execAonTimer_foot (ht := h) ..).stopsStand rfl
  | modulePresence => exact .of_next h .presence
  | deepSleepEntry => cases hp
  | deepSleepExit => cases hp
  | brownOut => cases hp
  | pwrGoodRise => cases hp
  | pwrGoodFall => cases hp
  | cold => cases hp
  | warm => exact (execWarm_foot (ht := h) ..).stopsStand rfl
  | refLoss => exact (execRefLoss_foot (ht := h) ..).stopsStand rfl
  | refRestored => exact (execRefRestored_foot (ht := h) ..).stopsStand rfl
  | bringupStart => exact .of_next h (.reg fun _ => .optCtl)
  | bringupAttemptFail => exact .of_next h .attemptFail
  | bringupRetry => exact .of_next h .retryBringup
  | slipWrite => exact .of_next h (.reg fun _ => .slipWrite)
  | rehunt => exact .of_next h (.reg fun _ => .rehunt)
  | safetyPoll => exact (execSafetyPoll_foot (ht := h) ..).stopsStand rfl
  | moduleInterrupt => exact (execModuleInterrupt_foot (ht := h) ..).stopsStand rfl
  | telemetryRead => exact (execTelemetryRead_foot (ht := h) ..).stopsStand rfl
  | rxovl => exact (execRxovl_foot (ht := h) ..).stopsStand rfl
  | lifeRecordWrite => exact (execLifeRecordWrite_foot (ht := h) ..).stopsStand rfl
  | biasSample => exact (execBiasSample_foot (ht := h) ..).stopsStand rfl
  | scrubVisit => exact (execScrubVisit_foot (ht := h) ..).stopsStand rfl
  | registerWrite ag addr v =>
    refine .of_next h (.barred fun _ => .regWrite ?_)
    rintro rfl rfl
    cases hp
  | timeTick => exact (execTimeTick_foot (ht := h) ..).stopsStand rfl
  | msgCrcErr => exact (execMsgCrcErr_foot (ht := h) ..).stopsStand rfl
  | cdrLock => exact (execCdrLock_foot (ht := h) ..).stopsStand rfl
  | moduleIdentityRead => exact (execModuleIdentityRead_foot (ht := h) ..).stopsStand rfl
  | railLoss => exact (execRailLoss_foot (ht := h) ..).stopsStand rfl
  | configurationWrite => exact .of_next h (.inDom fun _ => .step .configWrite .fcTake)
  | unsupportedRequest f kind => exact (execUnsupportedRequest_foot (_kind := kind) (ht := h) ..).stopsStand rfl
  | registerAccess => exact (execRegisterAccess_foot (ht := h) ..).stopsStand rfl
  | activateWarmReset => exact (execActivateWarmReset_foot (ht := h) ..).stopsStand rfl
  | xt32kStable => exact (execXt32kStable_foot (ht := h) ..).stopsStand rfl

/-- Settles O5: each command keeps both stops on every leg, by its footprint or by what it comes to on the way. -/
theorem onlyReleaseOrColdResetEndsAnEmissionStop : Obligations.OnlyReleaseOrColdResetEndsAnEmissionStop := by
  unfold Obligations.OnlyReleaseOrColdResetEndsAnEmissionStop
  intro c l s t h hp hrel
  have stand := exec_stopsStand h hp hrel
  exact ⟨stand.rogue, stand.estop⟩
end Sys2Proof.Machine

/-! SUPPORT. The counter and its limiter, the vote over three copies, and the servo's target (04_time_transfer.md, R98, R101, R103, R435). -/

namespace Sys2Proof.Machine

section
variable {s : State} {c0 c1 c2 v base : Nat} {i0 i1 i2 : BitVec 48} {th : Int}

/-! ### The tick and the limiter -/

theorem exec_timeTick (hrun : s.runs .time = true) : exec .timeTick s = .next s.tick := congrArg Host.Outcome.next (if_pos hrun)

theorem timeTick_counts (hrun : s.runs .time = true) : ∃ t, exec .timeTick s = .next t ∧
    t.time.now40 = (s.time.now40 + s.time.incr) % (2 ^ 48 * 1000000000 * 2 ^ 40) ∧ t.time.run40 = s.time.run40 + s.time.incr ∧
    t.time.incr = s.time.incr ∧ t.regs = s.regs := ⟨_, exec_timeTick hrun, rfl, rfl, rfl, rfl⟩

theorem exec_limiterStep (hrun : s.runs .time = true) : exec .limiterStep s = .next s.limiterStep :=
  congrArg Host.Outcome.next (if_pos hrun)

theorem limiterStep_moves (hrun : s.runs .time = true) : ∃ t, exec .limiterStep s = .next t ∧
    t.time.incr = (if s.time.incr ≤ clampIncr s.time.tgt then min (clampIncr s.time.tgt) (s.time.incr + 16967)
      else max (clampIncr s.time.tgt) (s.time.incr - 16967)) ∧
    t.regs = s.regs ∧ t.time.now40 = s.time.now40 := ⟨_, exec_limiterStep hrun, rfl, rfl, rfl⟩

/-! ### What three copies give -/

theorem vote_equal : vote v v v = (v, none, none) := if_pos ⟨rfl, rfl⟩

/-- Exactly two copies hold a value, and the third differs. -/
def TwoHold (v c0 c1 c2 : Nat) : Prop := (c0 = v ∧ c1 = v ∧ c2 ≠ v) ∨ (c0 = v ∧ c2 = v ∧ c1 ≠ v) ∨ (c1 = v ∧ c2 = v ∧ c0 ≠ v)

theorem vote_twoHold (h : TwoHold v c0 c1 c2) : ∃ k, vote c0 c1 c2 = (v, some k, none) := by
  rcases h with ⟨rfl, rfl, hne⟩ | ⟨rfl, rfl, hne⟩ | ⟨rfl, rfl, hne⟩
  · exact ⟨2, by rw [vote, if_neg fun e => hne e.2.symm, if_pos rfl]⟩
  · exact ⟨1, by rw [vote, if_neg fun e => hne e.1.symm, if_neg hne.symm, if_pos rfl]⟩
  · exact ⟨0, by rw [vote, if_neg fun e => hne e.1, if_neg hne, if_neg hne, if_pos rfl]⟩

theorem vote_apart (h₀₁ : c0 ≠ c1) (h₁₂ : c1 ≠ c2) (h₀₂ : c0 ≠ c2) : ∃ d, vote c0 c1 c2 = (median c0 c1 c2, none, some d) :=
  ⟨_, by rw [vote, if_neg fun e => h₀₁ e.1, if_neg h₀₁, if_neg h₀₂, if_neg h₁₂]⟩

/-! ### What a vote counts -/

/-- The counter and INCR, which a vote loads. -/
def TimeSt.voted (x : TimeSt) : Nat × Nat := (x.now40, x.incr)

theorem State.settleBound_voted : s.settleBound.time.voted = s.time.voted := by
  unfold State.settleBound
  dsimp only
  split
  · rfl
  · split
    · rw [State.event_time]
      rfl
    · rfl

/-- The record of the last second, a copy that disagrees now among it. -/
def State.oddLog (s : State) (copy : Nat) : List (Nat × Nat) := (copy, s.runMs) :: s.time.voteLog.filter fun e => s.runMs < e.2 + 1000

/-- A copy that disagrees goes into the record and is counted. -/
def State.noteOdd (s : State) (copy : Nat) : State :=
  ({ s with time := { s.time with voteLog := s.oddLog copy } }.inc Reg.TIME_CNT_VOTE_CORR).event (Ev.time 9)

/-- A copy that has disagreed too often leaves the record, and a replacement is requested. -/
def State.giveUpCopy (s : State) (copy : Nat) : State :=
  ({ s.noteOdd copy with time := { (s.noteOdd copy).time with voteLog := (s.oddLog copy).filter fun e => e.1 != copy } }.event
    (Ev.time 10)).replaceRequest 2

theorem State.voteResult_odd {k : Nat} : s.voteResult base (some k) none =
    if ((s.oddLog (base + k)).filter fun e => e.1 == base + k).length ≥ max 1 ((s.noteOdd (base + k)).rd Reg.TIME_VOTE_CTL_PERSIST) then
      s.giveUpCopy (base + k)
    else s.noteOdd (base + k) := rfl

theorem State.noteOdd_counts {copy : Nat} : Counted Reg.TIME_CNT_VOTE_CORR 0 0 1 s (s.noteOdd copy) :=
  counted_of_foot_after (State.event_foot ..) rfl (counted_of_rd_before (State.rd_set_time ..) (counted_inc Nat.one_pos))

theorem State.noteOdd_voted {copy : Nat} : (s.noteOdd copy).time.voted = s.time.voted := by
  rw [State.noteOdd, State.event_time]
  rfl

theorem State.giveUpCopy_counts {copy : Nat} : Counted Reg.TIME_CNT_VOTE_CORR 0 0 1 s (s.giveUpCopy copy) :=
  counted_of_foot_after (State.replaceRequest_foot ..) rfl (counted_of_foot_after (State.event_foot ..) rfl
    (counted_of_rd_after (State.rd_set_time ..) State.noteOdd_counts))

theorem State.giveUpCopy_voted {copy : Nat} : (s.giveUpCopy copy).time.voted = s.time.voted := by
  rw [State.giveUpCopy, (State.replaceRequest_foot ..).time rfl, State.event_time]
  exact State.noteOdd_voted

/-- A correction is counted and leaves what the vote loaded. -/
theorem State.voteResult_corrects {k : Nat} : Counted Reg.TIME_CNT_VOTE_CORR 0 0 1 s (s.voteResult base (some k) none) ∧
    (s.voteResult base (some k) none).time.voted = s.time.voted := by
  rw [State.voteResult_odd]
  split
  · exact ⟨State.giveUpCopy_counts, State.giveUpCopy_voted⟩
  · exact ⟨State.noteOdd_counts, State.noteOdd_voted⟩

/-- A term of the bound, in units of 0.25 ns; a term that stands already is widened again (R117). -/
def State.addVoter (s : State) (units : Nat) : State :=
  let seen := s.time.widened - s.time.widened / 4 % 2 * 4
  if s.time.hoOn then { s with time := { s.time with hoVoter := s.time.hoVoter + units, hoSeen := false, widened := seen } }
  else { s with time := { s.time with voter := s.time.voter + units, widened := seen } }

theorem State.voteResult_apart {d : Nat} : s.voteResult base none (some d) =
    ((((s.addVoter ((d + 2 ^ 38 - 1) / 2 ^ 38)).inc Reg.TIME_CNT_VOTE_FAIL).wr Reg.TIME_STATUS_VOTE_FAIL 1).event
      (Ev.time 11)).settleBound := rfl

theorem State.addVoter_keeps (units : Nat) : (s.addVoter units).regs = s.regs ∧ (s.addVoter units).time.voted = s.time.voted := by
  unfold State.addVoter
  dsimp only
  split <;> exact ⟨rfl, rfl⟩

/-- A vote without a majority is counted and shown, and leaves what the vote loaded. -/
theorem State.voteResult_fails {d : Nat} : Counted Reg.TIME_CNT_VOTE_FAIL 0 0 1 s (s.voteResult base none (some d)) ∧
    (s.voteResult base none (some d)).rd Reg.TIME_STATUS_VOTE_FAIL = 1 ∧ (s.voteResult base none (some d)).time.voted = s.time.voted := by
  rw [State.voteResult_apart]
  generalize (d + 2 ^ 38 - 1) / 2 ^ 38 = units
  obtain ⟨hregs, hvoted⟩ := s.addVoter_keeps units
  refine ⟨?_, ?_, ?_⟩
  · have counted : Counted Reg.TIME_CNT_VOTE_FAIL 0 0 1 s ((s.addVoter units).inc Reg.TIME_CNT_VOTE_FAIL) :=
      counted_of_rd_before (by rw [State.rd, hregs, State.rd]) (counted_inc Nat.one_pos)
    exact counted_of_foot_after (State.settleBound_foot _) rfl (counted_of_foot_after (State.event_foot ..) rfl
      (counted_of_rd_after (State.rd_wr_shared rfl) counted))
  · rw [(State.settleBound_foot _).rd_keeps rfl, (State.event_foot ..).rd_keeps rfl, State.rd_wr_same (by decide)]
    rfl
  · rw [State.settleBound_voted, State.event_time]
    exact hvoted

/-! ### The vote -/

/-- The counter and INCR loaded with a vote's values. -/
def State.loadVote (s : State) (c i : Nat) : State := { s with time := { s.time with now40 := c % counterMod, incr := i } }

/-- With INCR's copies equal, only the counter's copies are counted. -/
theorem State.timeVote_incrEqual {i : Nat} {odd fail : Option Nat} (h : vote c0 c1 c2 = (v, odd, fail)) :
    s.timeVote c0 c1 c2 i i i = (s.loadVote v i).voteResult 0 odd fail := by
  rw [State.timeVote, h, vote_equal]
  rfl

theorem exec_timeVote {odd fail : Option Nat} (hrun : s.runs .time = true) (h₁ : i1 = i0) (h₂ : i2 = i0)
    (h : vote c0 c1 c2 = (v, odd, fail)) :
    exec (.timeVote c0 c1 c2 i0 i1 i2) s = .next ((s.loadVote v i0.toNat).voteResult 0 odd fail) := by
  subst h₁ h₂
  have hex : exec (.timeVote c0 c1 c2 i2 i2 i2) s = .next (s.timeVote c0 c1 c2 i2.toNat i2.toNat i2.toNat) :=
    congrArg Host.Outcome.next (if_pos hrun)
  rw [hex, State.timeVote_incrEqual h]

theorem timeVote_equal (hrun : s.runs .time = true) (hc₁ : c1 = c0) (hc₂ : c2 = c0) (hi₁ : i1 = i0) (hi₂ : i2 = i0) :
    ∃ t, exec (.timeVote c0 c1 c2 i0 i1 i2) s = .next t ∧ t.time.now40 = c0 % counterMod ∧ t.time.incr = i0.toNat ∧ t.regs = s.regs := by
  subst hc₁ hc₂
  exact ⟨_, exec_timeVote hrun hi₁ hi₂ vote_equal, rfl, rfl, rfl⟩

theorem timeVote_corrects (hrun : s.runs .time = true) (hc : TwoHold v c0 c1 c2) (hi₁ : i1 = i0) (hi₂ : i2 = i0) :
    ∃ t, exec (.timeVote c0 c1 c2 i0 i1 i2) s = .next t ∧ t.time.now40 = v % counterMod ∧ t.time.incr = i0.toNat ∧
    Counted Reg.TIME_CNT_VOTE_CORR 0 0 1 s t := by
  obtain ⟨k, hvote⟩ := vote_twoHold hc
  obtain ⟨counted, loaded⟩ := State.voteResult_corrects (s := s.loadVote v i0.toNat) (base := 0) (k := k)
  exact ⟨_, exec_timeVote hrun hi₁ hi₂ hvote, congrArg Prod.fst loaded, congrArg Prod.snd loaded, counted⟩

theorem timeVote_fails (hrun : s.runs .time = true) (h₀₁ : c0 ≠ c1) (h₁₂ : c1 ≠ c2) (h₀₂ : c0 ≠ c2) (hi₁ : i1 = i0) (hi₂ : i2 = i0) :
    ∃ t, exec (.timeVote c0 c1 c2 i0 i1 i2) s = .next t ∧ t.time.now40 = median c0 c1 c2 % counterMod ∧
    Counted Reg.TIME_CNT_VOTE_FAIL 0 0 1 s t ∧ t.rd Reg.TIME_STATUS_VOTE_FAIL = 1 := by
  obtain ⟨d, hvote⟩ := vote_apart h₀₁ h₁₂ h₀₂
  obtain ⟨counted, shown, loaded⟩ := State.voteResult_fails (s := s.loadVote (median c0 c1 c2) i0.toNat) (base := 0) (d := d)
  exact ⟨_, exec_timeVote hrun hi₁ hi₂ hvote, congrArg Prod.fst loaded, counted, shown⟩

/-! ### The servo's target (R435) -/

theorem incrMin_le_clampIncr (x : Nat) : incrMin ≤ clampIncr x := le_max_left ..

theorem clampIncr_le_incrMax (x : Nat) : clampIncr x ≤ incrMax := max_le (by decide) (min_le_right ..)

/-- The firmware's servo runs: the management domain, firmware and SERVO_EN. -/
structure ServoRuns (s : State) : Prop where
  runs : s.runs .mgmt = true
  present : s.fwPresent = true
  enabled : s.isOn Reg.TIME_CTL_SERVO_EN = true

theorem exec_servoUpdate (h : ServoRuns s) : exec .servoUpdate s = .next s.servo := congrArg Host.Outcome.next (if_pos h.runs)

theorem ServoRuns.goes (h : ServoRuns s) : ¬(!s.fwPresent || !s.isOn Reg.TIME_CTL_SERVO_EN) = true := by simp [h.present, h.enabled]

theorem State.servo_holdover (h : ServoRuns s) (hq : s.rd Reg.TIME_QUAL_QUALITY = 3) : s.servo = s.setTgt s.time.incrHo := by
  rw [State.servo, if_neg h.goes, hq]
  rfl

theorem State.servo_acquiring (h : ServoRuns s) (hq : s.rd Reg.TIME_QUAL_QUALITY = 1) (hth : (s.leg s.active).theta = some th) :
    s.servo = s.setTgt (slewTarget th s.freqNow s.time.incr (s.rd Reg.TIME_SERVO_CTL_LOCK_Q)) := by
  rw [State.servo, if_neg h.goes, hq, hth]
  rfl

/-- LOCKED: the target stays or is set anew. -/
theorem State.servo_locked (h : ServoRuns s) (hq : s.rd Reg.TIME_QUAL_QUALITY = 2) : s.servo = s ∨ ∃ x, s.servo = s.setTgt x := by
  rw [State.servo, if_neg h.goes, hq]
  cases (s.leg s.active).theta with
  | none => exact Or.inl rfl
  | some _ => exact Or.inr ⟨_, rfl⟩

/-- Past the lock window, with INCR not below the estimate, a positive offset is removed at the lowest INCR. -/
theorem slewTarget_down {f incr q : Nat} (hth : (q : Int) * 16384 < th) (hf : f ≤ incr) : slewTarget th f incr q = incrMin := by
  have hpos : th > 0 := by omega
  have hfar : ¬(absNat th ≤ q * 16384 ∨ (0 < f - incr ∧ absNat th ≤ rampTheta (f - incr))) := by
    unfold absNat
    omega
  simp only [slewTarget, if_pos hpos, if_neg hfar]

/-- Past the lock window, with INCR not above the estimate, a negative offset is removed at the highest INCR. -/
theorem slewTarget_up {f incr q : Nat} (hth : th < -((q : Int) * 16384)) (hf : incr ≤ f) : slewTarget th f incr q = incrMax := by
  have hneg : ¬th > 0 := by omega
  have hfar : ¬(absNat th ≤ q * 16384 ∨ (0 < incr - f ∧ absNat th ≤ rampTheta (incr - f))) := by
    unfold absNat
    omega
  simp only [slewTarget, if_neg hneg, if_neg hfar]

theorem servoUpdate_holdover (h : ServoRuns s) (hq : s.rd Reg.TIME_QUAL_QUALITY = 3) :
    ∃ t, exec .servoUpdate s = .next t ∧ t.time.tgt = clampIncr s.time.incrHo ∧ t.time.incr = s.time.incr := by
  rw [exec_servoUpdate h, State.servo_holdover h hq]
  exact ⟨_, rfl, rfl, rfl⟩

theorem servoUpdate_slowest (h : ServoRuns s) (hq : s.rd Reg.TIME_QUAL_QUALITY = 1) (hth : (s.leg s.active).theta = some th)
    (hfar : (s.rd Reg.TIME_SERVO_CTL_LOCK_Q : Int) * 16384 < th) (hf : s.freqNow ≤ s.time.incr) :
    ∃ t, exec .servoUpdate s = .next t ∧ t.time.tgt = incrMin ∧ t.time.incr = s.time.incr := by
  rw [exec_servoUpdate h, State.servo_acquiring h hq hth, slewTarget_down hfar hf]
  exact ⟨_, rfl, rfl, rfl⟩

theorem servoUpdate_fastest (h : ServoRuns s) (hq : s.rd Reg.TIME_QUAL_QUALITY = 1) (hth : (s.leg s.active).theta = some th)
    (hfar : th < -((s.rd Reg.TIME_SERVO_CTL_LOCK_Q : Int) * 16384)) (hf : s.time.incr ≤ s.freqNow) :
    ∃ t, exec .servoUpdate s = .next t ∧ t.time.tgt = incrMax ∧ t.time.incr = s.time.incr := by
  rw [exec_servoUpdate h, State.servo_acquiring h hq hth, slewTarget_up hfar hf]
  exact ⟨_, rfl, rfl, rfl⟩

theorem servoUpdate_locked (h : ServoRuns s) (hq : s.rd Reg.TIME_QUAL_QUALITY = 2) (hmin : incrMin ≤ s.time.tgt)
    (hmax : s.time.tgt ≤ incrMax) :
    ∃ t, exec .servoUpdate s = .next t ∧ incrMin ≤ t.time.tgt ∧ t.time.tgt ≤ incrMax ∧ t.time.incr = s.time.incr := by
  refine ⟨_, exec_servoUpdate h, ?_⟩
  rcases State.servo_locked h hq with heq | ⟨x, heq⟩
  · rw [heq]
    exact ⟨hmin, hmax, rfl⟩
  · rw [heq]
    exact ⟨incrMin_le_clampIncr x, clampIncr_le_incrMax x, rfl⟩

theorem servoUpdate_stands (h : s.fwPresent = false ∨ s.isOn Reg.TIME_CTL_SERVO_EN = false) : exec .servoUpdate s = .next s := by
  have hstop : (!s.fwPresent || !s.isOn Reg.TIME_CTL_SERVO_EN) = true := by
    rcases h with h | h <;> simp [h]
  refine congrArg Host.Outcome.next ?_
  rw [State.inDom, State.servo, if_pos hstop, ite_self]

end

/-- Settles O19: the vote by what its three copies give, the servo by the quality state and the side of the offset. -/
theorem theCounterTicksAndTheLimiterMoves : Obligations.TheCounterTicksAndTheLimiterMoves := by
  unfold Obligations.TheCounterTicksAndTheLimiterMoves
  exact ⟨fun _ => timeTick_counts, fun _ => limiterStep_moves, fun _ _ _ _ _ _ _ => timeVote_equal, fun _ _ _ _ _ _ _ _ => timeVote_corrects,
    fun _ _ _ _ _ _ _ => timeVote_fails, fun _ hrun hfw hon => servoUpdate_holdover ⟨hrun, hfw, hon⟩,
    fun _ _ hrun hfw hon => servoUpdate_slowest ⟨hrun, hfw, hon⟩, fun _ _ hrun hfw hon => servoUpdate_fastest ⟨hrun, hfw, hon⟩,
    fun _ hrun hfw hon => servoUpdate_locked ⟨hrun, hfw, hon⟩, fun _ => servoUpdate_stands⟩

end Sys2Proof.Machine

/-! SUPPORT. The dispersion fit of a leg, and the confidence in its laser model (04_time_transfer.md, R113, R114, R116). -/

namespace Sys2Proof.Machine

section
variable {s : State} {l : Leg} {f : Fit}

/-! ### The dispersion fit -/

theorem exec_dispersionFit : exec (.dispersionFit l) s = .next (s.dispersionFit l) := rfl

/-- A fit may be computed: firmware is present, and the leg is RANGED and holds T_EQ. -/
structure FitDue (s : State) (l : Leg) : Prop where
  present : s.fwPresent = true
  ranged : s.rd Reg.ACT_STATUS_STATE l.n = 5
  teq : s.isOn Reg.TIME_LEG_TEQ_TEQ_VALID l.n = true

theorem FitDue.goes (h : FitDue s l) :
    ¬(!s.fwPresent || s.rd Reg.ACT_STATUS_STATE l.n != 5 || !s.isOn Reg.TIME_LEG_TEQ_TEQ_VALID l.n) = true := by
  simp [h.present, h.ranged, h.teq]

/-- The leg stands without a valid fit. -/
def State.noFit (s : State) (l : Leg) : State :=
  ((s.wr Reg.TIME_LEG_STATUS_FIT_VALID 0 l.n).upd l fun g => { g with fitBad := true }).event (Ev.timeLeg l 1)

theorem State.dispersionFit_short (h : FitDue s l) (ht : s.teqShort l = true) : s.dispersionFit l = (s.noFit l).settleTime := by
  rw [State.dispersionFit, if_neg h.goes, if_pos ht, State.noFit]

theorem State.dispersionFit_broken (h : FitDue s l) (ht : s.teqShort l = false) (hw : s.windowWhole l (s.fitWindow l) = false) :
    s.dispersionFit l = (s.upd l fun g => { g with fitBad := true }).settleTime := by
  rw [State.dispersionFit, if_neg h.goes, if_neg (by simp [ht]), if_pos (by simp [hw])]

theorem State.dispersionFit_whole (h : FitDue s l) (ht : s.teqShort l = false) (hw : s.windowWhole l (s.fitWindow l) = true) :
    s.dispersionFit l = (s.adoptFit l (s.fit l (s.fitWindow l))).settleTime := by
  rw [State.dispersionFit, if_neg h.goes, if_neg (by simp [ht]), if_neg (by simp [hw])]

/-- Following R108 leaves whether the fit is valid. -/
theorem State.settleTime_fitValid : s.settleTime.rd Reg.TIME_LEG_STATUS_FIT_VALID l.n = s.rd Reg.TIME_LEG_STATUS_FIT_VALID l.n :=
  s.settleTime_foot.rd_leg rfl

theorem State.settleTime_leg : s.settleTime.leg l = s.leg l := s.settleTime_foot.leg_keeps rfl

theorem State.noFit_shows : (s.noFit l).rd Reg.TIME_LEG_STATUS_FIT_VALID l.n = 0 ∧ ((s.noFit l).leg l).fitBad = true := by
  constructor
  · rw [State.noFit, (State.event_foot ..).rd_leg rfl, State.rd_upd, State.rd_wr_same (by decide), Nat.zero_mod]
  · rw [State.noFit, State.event_leg, State.upd_leg_same]

/-- A valid fit taken into service shows as valid, and the leg is noted with a fit. -/
theorem State.adoptFit_valid (h : s.fitOk l f = true) :
    (s.adoptFit l f).rd Reg.TIME_LEG_STATUS_FIT_VALID l.n = 1 ∧ ((s.adoptFit l f).leg l).fitBad = false := by
  unfold State.adoptFit
  rw [if_pos h]
  constructor
  · rw [(State.event_foot ..).rd_leg rfl, (State.putAsym_foot ..).rd_leg rfl, State.rd_upd, State.rd_wr_same (by decide)]
    rfl
  · rw [State.event_leg, (State.putAsym_foot ..).leg_keeps rfl, State.upd_leg_same]

theorem State.adoptFit_shows : (s.adoptFit l f).rd Reg.TIME_LEG_STATUS_FIT_VALID l.n = b2n (s.fitOk l f) ∧
    ((s.adoptFit l f).leg l).fitBad = !s.fitOk l f := by
  cases h : s.fitOk l f with
  | true => exact State.adoptFit_valid h
  | false =>
    have hbad : s.adoptFit l f = s.noFit l := if_neg (by simp [h])
    rw [hbad]
    exact State.noFit_shows

theorem dispersionFit_short (h : FitDue s l) (ht : s.teqShort l = true) : ∃ t, exec (.dispersionFit l) s = .next t ∧
    t.rd Reg.TIME_LEG_STATUS_FIT_VALID l.n = 0 ∧ (t.leg l).fitBad = true := by
  refine ⟨_, exec_dispersionFit, ?_⟩
  rw [State.dispersionFit_short h ht, State.settleTime_fitValid, State.settleTime_leg]
  exact State.noFit_shows

theorem dispersionFit_broken (h : FitDue s l) (ht : s.teqShort l = false) (hw : s.windowWhole l (s.fitWindow l) = false) :
    ∃ t, exec (.dispersionFit l) s = .next t ∧
    t.rd Reg.TIME_LEG_STATUS_FIT_VALID l.n = s.rd Reg.TIME_LEG_STATUS_FIT_VALID l.n ∧ (t.leg l).fitBad = true := by
  refine ⟨_, exec_dispersionFit, ?_⟩
  rw [State.dispersionFit_broken h ht hw, State.settleTime_fitValid, State.settleTime_leg, State.rd_upd, State.upd_leg_same]
  exact ⟨rfl, rfl⟩

theorem dispersionFit_whole (h : FitDue s l) (ht : s.teqShort l = false) (hw : s.windowWhole l (s.fitWindow l) = true) :
    ∃ t, exec (.dispersionFit l) s = .next t ∧
    t.rd Reg.TIME_LEG_STATUS_FIT_VALID l.n = b2n (s.fitOk l (s.fit l (s.fitWindow l))) ∧
    (t.leg l).fitBad = !(s.fitOk l (s.fit l (s.fitWindow l))) := by
  refine ⟨_, exec_dispersionFit, ?_⟩
  rw [State.dispersionFit_whole h ht hw, State.settleTime_fitValid, State.settleTime_leg]
  exact State.adoptFit_shows

theorem dispersionFit_stands
    (h : s.fwPresent = false ∨ s.rd Reg.ACT_STATUS_STATE l.n ≠ 5 ∨ s.isOn Reg.TIME_LEG_TEQ_TEQ_VALID l.n = false) :
    exec (.dispersionFit l) s = .next s := by
  refine congrArg Host.Outcome.next (if_pos ?_)
  rcases h with h | h | h <;> simp [h]

/-! ### The confidence in the laser model -/

theorem laserLowConf_widens (h : s.isOn Reg.TIME_LEG_STATUS_LASER_LOW l.n = false) : ∃ t, exec (.laserLowConf l) s = .next t ∧
    t.rd Reg.TIME_LEG_STATUS_LASER_LOW l.n = 1 ∧ (t.leg l).laserTerm = s.laserWidening l := by
  have hex : exec (.laserLowConf l) s = .next (s.laserLow l) := rfl
  refine ⟨_, hex, ?_⟩
  rw [State.laserLow, if_neg (by simp [h])]
  constructor
  · rw [(State.settleBound_foot _).rd_leg rfl, (State.event_foot ..).rd_leg rfl, State.rd_upd, State.rd_wr_same (by decide)]
    rfl
  · rw [(State.settleBound_foot _).leg_keeps rfl, State.event_leg, State.upd_leg_same]

theorem laserLowConf_stands (h : s.isOn Reg.TIME_LEG_STATUS_LASER_LOW l.n = true) : exec (.laserLowConf l) s = .next s :=
  congrArg Host.Outcome.next (if_pos h)

/-- Following telemetry moves the wavelengths and leaves the term of the bound. -/
theorem State.followLaser_laserTerm : ((s.followLaser l).leg l).laserTerm = (s.leg l).laserTerm := by
  unfold State.followLaser
  split
  · rfl
  · rw [(State.putAsym_foot ..).leg_keeps rfl, State.upd_leg_same]

theorem laserConfRestored_clears (h : s.isOn Reg.TIME_LEG_STATUS_LASER_LOW l.n = true) (ht : (s.leg l).telemOut = false) :
    ∃ t, exec (.laserConfRestored l) s = .next t ∧ t.rd Reg.TIME_LEG_STATUS_LASER_LOW l.n = 0 ∧ (t.leg l).laserTerm = 0 := by
  have hex : exec (.laserConfRestored l) s = .next (s.laserBack l) := rfl
  refine ⟨_, hex, ?_⟩
  rw [State.laserBack, if_neg (by simp [h, ht])]
  constructor
  · rw [(State.settleBound_foot _).rd_leg rfl, (State.followLaser_foot ..).rd_leg rfl, State.rd_upd, State.rd_wr_same (by decide),
      Nat.zero_mod]
  · rw [(State.settleBound_foot _).leg_keeps rfl, State.followLaser_laserTerm, State.upd_leg_same]

theorem laserConfRestored_stands (h : s.isOn Reg.TIME_LEG_STATUS_LASER_LOW l.n = false ∨ (s.leg l).telemOut = true) :
    exec (.laserConfRestored l) s = .next s := by
  refine congrArg Host.Outcome.next (if_pos ?_)
  rcases h with h | h <;> simp [h]

end

/-- Settles O21: the fit by its branches, each followed by R108, which leaves FIT_VALID and the leg; the laser model by LASER_LOW. -/
theorem dispersionFitsAndLaserConfidence : Obligations.DispersionFitsAndLaserConfidence := by
  unfold Obligations.DispersionFitsAndLaserConfidence
  exact ⟨fun _ _ hfw hact hteq => dispersionFit_short ⟨hfw, hact, hteq⟩, fun _ _ hfw hact hteq => dispersionFit_broken ⟨hfw, hact, hteq⟩,
    fun _ _ hfw hact hteq => dispersionFit_whole ⟨hfw, hact, hteq⟩, fun _ _ => dispersionFit_stands, fun _ _ => laserLowConf_widens,
    fun _ _ => laserLowConf_stands, fun _ _ => laserConfRestored_clears, fun _ _ => laserConfRestored_stands⟩

end Sys2Proof.Machine

/-! SUPPORT. Snapshots, and staged writes: armed, refused, cancelled and applied (04_time_transfer.md, R126 to R128). First an agent's own
registers (R408): a read after a write. -/

namespace Sys2Proof.Machine

section
variable {s : State} {ag : Agent} {R Q : Row} {v mode off st : Nat}

/-! ### An agent's own registers (R408) -/

theorem State.rdA_fw (h : ag.isFw = true) : s.rdA ag R = State.rd { s with regs := s.fwRegs } R := if_pos h

theorem State.rdA_pf (h : ag.isFw = false) : s.rdA ag R = s.rd R := if_neg (by simp [h])

theorem State.wrA_fw (h : ag.isFw = true) : s.wrA ag R v = { s with fwRegs := (State.wr { s with regs := s.fwRegs } R v).regs } := if_pos h

theorem State.wrA_pf (h : ag.isFw = false) : s.wrA ag R v = s.wr R v := if_neg (by simp [h])

theorem State.rdA_wrA_same (h : 0 < R.n) : (s.wrA ag R v).rdA ag R = v % 2 ^ R.width := by
  cases hag : ag.isFw with
  | true =>
    rw [State.rdA_fw hag, State.wrA_fw hag]
    exact State.rd_wr_same (s := { s with regs := s.fwRegs }) h
  | false => rw [State.rdA_pf hag, State.wrA_pf hag, State.rd_wr_same h]

theorem State.rdA_wrA_key (h : Q.key 0 0 ≠ R.key 0 0) : (s.wrA ag R v).rdA ag Q = s.rdA ag Q := by
  cases hag : ag.isFw with
  | true =>
    rw [State.rdA_fw hag, State.wrA_fw hag, State.rdA_fw hag]
    exact State.rd_wr_key (s := { s with regs := s.fwRegs }) h
  | false => rw [State.rdA_pf hag, State.wrA_pf hag, State.rdA_pf hag, State.rd_wr_key h]

theorem State.rdA_wr (h : otherRow Q R = true) : (s.wr R v).rdA ag Q = s.rdA ag Q := by
  cases hag : ag.isFw with
  | true => rw [State.rdA_fw hag, State.rdA_fw hag]; rfl
  | false => rw [State.rdA_pf hag, State.rdA_pf hag, State.rd_wr_shared h]

theorem State.isOn_wr_shared {i : Nat} {l : Leg} (h : otherRow Q R = true) : (s.wr R v).isOn Q l.n i = s.isOn Q l.n i := by
  rw [State.isOn, State.rd_wr_shared_row h, State.isOn]

/-! ### An apply that is not due -/

theorem State.applyTick_idle (h : s.time.arm.all (fun a => !a.due) = true) : s.applyTick = s := by
  unfold State.applyTick
  cases harm : s.time.arm with
  | none => rfl
  | some a =>
    rw [harm, Option.all_some] at h
    exact if_pos h

theorem applyTick_stands (h : s.time.arm.all (fun a => !a.due) = true) : exec .applyTick s = .next s := by
  refine congrArg Host.Outcome.next ?_
  rw [State.inDom, State.applyTick_idle h, ite_self]

/-! ### The snapshot (R126) -/

theorem exec_timeSnap (hreach : s.reach ag = true) (hidle : s.time.arm.all (fun a => !a.due) = true) :
    exec (.timeSnap ag) s = .next (s.snap ag) :=
  congrArg Host.Outcome.next ((if_pos hreach).trans (congrArg (State.snap · ag) (State.applyTick_idle hidle)))

theorem timeSnap_takes (hreach : s.reach ag = true) (hidle : s.time.arm.all (fun a => !a.due) = true) :
    ∃ t, exec (.timeSnap ag) s = .next t ∧ t.rdA ag Reg.TIME_SNAP_SEC_LO = s.secNow % 2 ^ 32 ∧
    t.rdA ag Reg.TIME_SNAP_SEC_HI = s.secNow / 2 ^ 32 % 2 ^ Reg.TIME_SNAP_SEC_HI.width ∧
    t.rdA ag Reg.TIME_SNAP_NS = s.nsNow % 1000000000 % 2 ^ Reg.TIME_SNAP_NS.width ∧
    t.rdA ag Reg.TIME_SNAP_FRAC = s.time.now40 / 256 % 2 ^ Reg.TIME_SNAP_FRAC.width ∧
    t.rdA ag Reg.TIME_SNAP_INCR_LO = s.time.incr % 2 ^ 32 ∧
    t.rdA ag Reg.TIME_SNAP_INCR_HI = s.time.incr / 2 ^ 32 % 2 ^ Reg.TIME_SNAP_INCR_HI.width ∧
    t.rdA ag Reg.TIME_SNAP_QUAL = (s.rd Reg.TIME_QUAL_QUALITY + 8 * s.rd Reg.TIME_QUAL_STEP_DONE + 65536 * s.rd Reg.TIME_QUAL_GEN) %
      2 ^ Reg.TIME_SNAP_QUAL.width ∧
    t.rdA ag Reg.TIME_SNAP_BOUND = (s.rd Reg.TIME_BOUND + 65536 * s.rd Reg.TIME_BOUND_OWN) % 2 ^ Reg.TIME_SNAP_BOUND.width ∧
    t.rdA ag Reg.TIME_SNAP_SEC_HI_SNAP_SEQ = (s.rdA ag Reg.TIME_SNAP_SEC_HI_SNAP_SEQ + 1) % 2 ^ Reg.TIME_SNAP_SEC_HI_SNAP_SEQ.width := by
  refine ⟨_, exec_timeSnap hreach hidle, ?_⟩
  unfold State.snap
  refine ⟨?_, ?_, ?_, ?_, ?_, ?_, ?_, ?_, ?_⟩ <;> simp (disch := decide) only [State.rdA_wrA_key, State.rdA_wrA_same] <;> rfl

/-! ### A refused apply (R128) -/

theorem State.applyRefuse_result (hst : st < 256) : (s.applyRefuse st).rd Reg.TIME_STATUS_APPLY_RESULT = st := by
  rw [State.applyRefuse, (State.event_foot ..).rd_keeps rfl, State.inc, State.rd_wr_shared rfl, State.rd_wr_same (by decide)]
  exact Nat.mod_eq_of_lt hst

theorem State.applyRefuse_counts : Counted Reg.TIME_CNT_APPLY_REFUSED 0 0 1 s (s.applyRefuse st) :=
  counted_of_foot_after (State.event_foot ..) rfl (counted_of_rd_before (State.rd_wr_shared rfl) (counted_inc Nat.one_pos))

theorem State.applyRefuse_arm : (s.applyRefuse st).time.arm = s.time.arm := by
  rw [State.applyRefuse, State.event_time, State.inc_time, State.wr_time]

/-! ### TIME_APPLY (R127, R128) -/

theorem exec_timeApply (hreach : s.reach ag = true) : exec (.timeApply ag mode) s = .next (s.timeApply ag mode) :=
  congrArg Host.Outcome.next (if_pos hreach)

/-- A request that is refused: the mode shows, and the status is reported. -/
def State.refuseApply (s : State) (mode st : Nat) : State := (s.wr Reg.TIME_CTL_APPLY_MODE mode).applyRefuse st

/-- How far ahead of the counter a target of AT_TICK lies, on the circle of 40 bits. -/
def State.applyAhead (s : State) (ag : Agent) : Nat :=
  (s.rdA ag Reg.TIME_APPLY_AT_LO + 2 ^ 32 * s.rdA ag Reg.TIME_APPLY_AT_HI + 2 ^ 40 - s.nsNow % 2 ^ 40) % 2 ^ 40

/-- The selection of an agent's staging set. -/
def State.stagedSel (s : State) (ag : Agent) : Nat := s.rdA ag Reg.TIME_STAGE_SEL

/-- What makes a staged write invalid (R128): a selection refused at this moment, both REBASE items, or too many nanoseconds. -/
def State.stagedInvalid (s : State) (ag : Agent) : Bool :=
  s.selRefused (s.stagedSel ag) || (bit (s.stagedSel ag) 2 == 1 && bit (s.stagedSel ag) 3 == 1) || s.rdA ag Reg.TIME_STAGE_NS ≥ 1000000000

/-- The staged write that a request arms. -/
def State.newArm (s : State) (ag : Agent) (mode : Nat) : Arm where
  fw := ag.isFw
  pps := mode % 4 ≠ 0
  sel := s.stagedSel ag
  target := if mode % 4 ≠ 0 then s.time.run40 + 2 * incrMin else s.rdA ag Reg.TIME_APPLY_AT_LO + 2 ^ 32 * s.rdA ag Reg.TIME_APPLY_AT_HI

/-- A request that is armed. -/
def State.armApply (s : State) (ag : Agent) (mode : Nat) : State :=
  { s.wr Reg.TIME_CTL_APPLY_MODE mode with time := { s.time with arm := some (s.newArm ag mode) } }.wr Reg.TIME_STATUS_APPLY_PENDING 1

/-- A mask names nothing of what R128 judges a selection by. -/
def keepsJudged (m : Nat) : Bool :=
  keepsLegs m && keepsRow m Reg.TIME_CTL_SERVO_EN && keepsRow m Reg.PROT_STATUS_ACTIVE && keepsRow m Reg.ACT_STATUS_STATE &&
  keepsRow m Reg.TIME_LEG_TEQ_TEQ_VALID && keepsRow m Reg.TIME_LEG_TEQ && keepsRow m Reg.ACT_EQD_EQD_FINE &&
  keepsRow m Reg.ACT_EQD_EQD_GRAINS

theorem Foot.selRefused {m sel : Nat} {t : State} (h : Foot m s t) (hk : keepsJudged m = true) : t.selRefused sel = s.selRefused sel := by
  simp only [keepsJudged, Bool.and_eq_true] at hk
  obtain ⟨⟨⟨⟨⟨⟨⟨hlegs, hservo⟩, hact⟩, hstate⟩, hvalid⟩, hteq⟩, hfine⟩, hgrains⟩ := hk
  simp only [State.selRefused, State.legUsable, State.teqShort, State.eqdNow, State.active, State.isOn, h.rd_keeps hservo, h.rd_keeps hact,
    h.rd_leg hstate, h.rd_leg hvalid, h.rd_leg hteq, h.rd_leg hfine, h.rd_leg hgrains, h.leg_keeps hlegs, h.wave_keeps hlegs]
  rfl

/-- APPLY_MODE decides nothing that R128 judges. -/
theorem State.selRefused_mode {sel : Nat} : (s.wr Reg.TIME_CTL_APPLY_MODE mode).selRefused sel = s.selRefused sel :=
  (Foot.wr (m := fp181) rfl (Or.inr rfl) .refl).selRefused rfl

theorem State.timeApply_pending (h : s.isOn Reg.TIME_STATUS_APPLY_PENDING = true) : s.timeApply ag mode = s.refuseApply mode St.busy :=
  if_pos ((State.isOn_wr_shared (l := .a) rfl).trans h)

theorem State.timeApply_idle (h : s.isOn Reg.TIME_STATUS_APPLY_PENDING = false) : s.timeApply ag mode =
    if mode % 4 = 0 ∧ 2 ^ 39 < s.applyAhead ag then s.refuseApply mode St.outOfWindow
    else if s.stagedInvalid ag then s.refuseApply mode St.invalid else s.armApply ag mode := by
  have hp : (s.wr Reg.TIME_CTL_APPLY_MODE mode).isOn Reg.TIME_STATUS_APPLY_PENDING = false := (State.isOn_wr_shared (l := .a) rfl).trans h
  have lo : (s.wr Reg.TIME_CTL_APPLY_MODE mode).rdA ag Reg.TIME_APPLY_AT_LO = s.rdA ag Reg.TIME_APPLY_AT_LO := State.rdA_wr rfl
  have hi : (s.wr Reg.TIME_CTL_APPLY_MODE mode).rdA ag Reg.TIME_APPLY_AT_HI = s.rdA ag Reg.TIME_APPLY_AT_HI := State.rdA_wr rfl
  have sel : (s.wr Reg.TIME_CTL_APPLY_MODE mode).rdA ag Reg.TIME_STAGE_SEL = s.rdA ag Reg.TIME_STAGE_SEL := State.rdA_wr rfl
  have ns : (s.wr Reg.TIME_CTL_APPLY_MODE mode).rdA ag Reg.TIME_STAGE_NS = s.rdA ag Reg.TIME_STAGE_NS := State.rdA_wr rfl
  have tick : ((mode % 4 ≠ 0) = (false = true)) = (mode % 4 = 0) := by simp
  rw [State.timeApply]
  dsimp only
  rw [hp, if_neg Bool.false_ne_true, lo, hi, sel, ns, State.selRefused_mode]
  by_cases hbehind : mode % 4 = 0 ∧ 2 ^ 39 < s.applyAhead ag
  · rw [if_pos hbehind]
    exact if_pos (tick ▸ hbehind)
  · rw [if_neg hbehind]
    exact if_neg (tick ▸ hbehind)

/-- The three statuses of a refusal, BUSY, INVALID and OUT_OF_WINDOW, fit their field. -/
theorem timeApply_refused (hreach : s.reach ag = true) (hst : st < 256) (heq : s.timeApply ag mode = s.refuseApply mode st) :
    ∃ t, exec (.timeApply ag mode) s = .next t ∧ t.rd Reg.TIME_STATUS_APPLY_RESULT = st ∧
    Counted Reg.TIME_CNT_APPLY_REFUSED 0 0 1 s t ∧ t.time.arm = s.time.arm := by
  rw [exec_timeApply hreach, heq]
  exact ⟨_, rfl, State.applyRefuse_result hst, counted_of_rd_before (State.rd_wr_shared rfl) State.applyRefuse_counts,
    State.applyRefuse_arm⟩

theorem timeApply_busy (hreach : s.reach ag = true) (hp : s.isOn Reg.TIME_STATUS_APPLY_PENDING = true) :
    ∃ t, exec (.timeApply ag mode) s = .next t ∧ t.rd Reg.TIME_STATUS_APPLY_RESULT = 1 ∧
    Counted Reg.TIME_CNT_APPLY_REFUSED 0 0 1 s t ∧ t.time.arm = s.time.arm :=
  timeApply_refused hreach (by decide) (State.timeApply_pending hp)

theorem timeApply_behind (hreach : s.reach ag = true) (hp : s.isOn Reg.TIME_STATUS_APPLY_PENDING = false) (hmode : mode % 4 = 0)
    (hahead : 2 ^ 39 < s.applyAhead ag) : ∃ t, exec (.timeApply ag mode) s = .next t ∧ t.rd Reg.TIME_STATUS_APPLY_RESULT = 14 ∧
    Counted Reg.TIME_CNT_APPLY_REFUSED 0 0 1 s t ∧ t.time.arm = s.time.arm :=
  timeApply_refused hreach (by decide) ((State.timeApply_idle hp).trans (if_pos ⟨hmode, hahead⟩))

theorem State.stagedInvalid_iff : s.stagedInvalid ag = true ↔ s.selRefused (s.stagedSel ag) = true ∨
    (bit (s.stagedSel ag) 2 = 1 ∧ bit (s.stagedSel ag) 3 = 1) ∨ 1000000000 ≤ s.rdA ag Reg.TIME_STAGE_NS := by
  simp [State.stagedInvalid, or_assoc]

theorem timeApply_invalid (hreach : s.reach ag = true) (hp : s.isOn Reg.TIME_STATUS_APPLY_PENDING = false) (hmode : mode % 4 ≠ 0)
    (hbad : s.selRefused (s.stagedSel ag) = true ∨ (bit (s.stagedSel ag) 2 = 1 ∧ bit (s.stagedSel ag) 3 = 1) ∨
      1000000000 ≤ s.rdA ag Reg.TIME_STAGE_NS) : ∃ t, exec (.timeApply ag mode) s = .next t ∧
    t.rd Reg.TIME_STATUS_APPLY_RESULT = 2 ∧ Counted Reg.TIME_CNT_APPLY_REFUSED 0 0 1 s t ∧ t.time.arm = s.time.arm := by
  refine timeApply_refused hreach (by decide) ?_
  rw [State.timeApply_idle hp, if_neg fun e => hmode e.1, if_pos (State.stagedInvalid_iff.2 hbad)]
  rfl

theorem timeApply_arms (hreach : s.reach ag = true) (hp : s.isOn Reg.TIME_STATUS_APPLY_PENDING = false)
    (hahead : mode % 4 ≠ 0 ∨ s.applyAhead ag ≤ 2 ^ 39) (hsel : s.selRefused (s.stagedSel ag) = false)
    (hone : bit (s.stagedSel ag) 2 = 0 ∨ bit (s.stagedSel ag) 3 = 0) (hns : s.rdA ag Reg.TIME_STAGE_NS < 1000000000) :
    ∃ t, exec (.timeApply ag mode) s = .next t ∧ t.rd Reg.TIME_STATUS_APPLY_PENDING = 1 ∧
    t.time.arm.map (fun a => (a.pps, a.sel)) = some (decide (mode % 4 ≠ 0), s.stagedSel ag) ∧ t.time.now40 = s.time.now40 := by
  have hin : ¬(mode % 4 = 0 ∧ 2 ^ 39 < s.applyAhead ag) := by
    rintro ⟨hmode, hlt⟩
    exact hahead.elim (fun h => h hmode) fun h => Nat.not_lt.2 h hlt
  have hgood : ¬s.stagedInvalid ag = true := by
    rw [State.stagedInvalid_iff, hsel]
    rintro (h | ⟨h₂, h₃⟩ | h)
    · exact Bool.false_ne_true h
    · omega
    · omega
  refine ⟨_, exec_timeApply hreach, ?_⟩
  rw [State.timeApply_idle hp, if_neg hin, if_neg hgood]
  exact ⟨State.rd_wr_same Nat.one_pos, rfl, rfl⟩

/-! ### TIME_CANCEL -/

theorem State.disarmApply_pending : s.disarmApply.rd Reg.TIME_STATUS_APPLY_PENDING = 0 := by
  rw [State.disarmApply, State.rd_wr_same (by decide), Nat.zero_mod]

theorem timeCancel_ends (hreach : s.reach ag = true) (harm : s.time.arm.isSome = true) : ∃ t, exec (.timeCancel ag) s = .next t ∧
    t.time.arm = none ∧ t.rd Reg.TIME_STATUS_APPLY_PENDING = 0 ∧ t.rd Reg.TIME_STATUS_APPLY_RESULT = 6 := by
  have hex : exec (.timeCancel ag) s = .next (s.disarmApply.applyRefuse St.cancelled) :=
    congrArg Host.Outcome.next ((if_pos hreach).trans (if_pos harm))
  refine ⟨_, hex, State.applyRefuse_arm, ?_, State.applyRefuse_result (by decide)⟩
  rw [(State.applyRefuse_foot ..).rd_keeps rfl, State.disarmApply_pending]

theorem timeCancel_stands (harm : s.time.arm = none) : exec (.timeCancel ag) s = .next s := by
  refine congrArg Host.Outcome.next ?_
  rw [State.reg, State.timeCancel, harm]
  exact ite_self _

/-! ### TIME_STAGE_WRITE -/

theorem stageRow_single (h : stageRow off = some R) : R.n = 1 := by
  unfold stageRow at h
  split at h <;> cases h <;> rfl

theorem exec_timeStageWrite {w : BitVec 32} (hreach : s.reach ag = true) (hrow : stageRow off = some R) :
    exec (.timeStageWrite ag off w) s =
      .next (if s.isOn Reg.TIME_STATUS_APPLY_PENDING then s.wr Reg.TIME_STATUS_STAGE_WERR 1 else s.wrA ag R w.toNat) := by
  refine congrArg Host.Outcome.next ((if_pos hreach).trans ?_)
  dsimp only
  rw [State.stageWrite, hrow]

theorem timeStageWrite_taken {w : BitVec 32} (hreach : s.reach ag = true) (hp : s.isOn Reg.TIME_STATUS_APPLY_PENDING = false)
    (hrow : stageRow off = some R) : ∃ t, exec (.timeStageWrite ag off w) s = .next t ∧ t.rdA ag R = w.toNat % 2 ^ R.width := by
  refine ⟨_, exec_timeStageWrite hreach hrow, ?_⟩
  rw [hp, if_neg Bool.false_ne_true, State.rdA_wrA_same (by rw [stageRow_single hrow]; exact Nat.one_pos)]

theorem timeStageWrite_pending {w : BitVec 32} (hreach : s.reach ag = true) (hp : s.isOn Reg.TIME_STATUS_APPLY_PENDING = true)
    (hrow : stageRow off = some R) : exec (.timeStageWrite ag off w) s = .next (s.wr Reg.TIME_STATUS_STAGE_WERR 1) := by
  rw [exec_timeStageWrite hreach hrow, hp, if_pos rfl]

/-! ### APPLY_TICK (R127) -/

/-- A selection of INCR alone. -/
theorem bits_incrAlone {sel : Nat} (h : sel % 16 = 1) : bit sel 0 = 1 ∧ bit sel 1 = 0 ∧ bit sel 2 = 0 ∧ bit sel 3 = 0 := by
  unfold bit
  omega

theorem State.selRefused_incrAlone {sel : Nat} (h : sel % 16 = 1) (hservo : s.isOn Reg.TIME_CTL_SERVO_EN = false) :
    s.selRefused sel = false := by
  obtain ⟨-, -, h₂, -⟩ := bits_incrAlone h
  simp [State.selRefused, hservo, h₂]

theorem State.applyItems_incrAlone {sel : Nat} (h : sel % 16 = 1) :
    s.applyItems ag sel = s.setTgt (s.rdA ag Reg.TIME_STAGE_INCR_LO + 2 ^ 32 * s.rdA ag Reg.TIME_STAGE_INCR_HI) := by
  obtain ⟨h₀, h₁, h₂, h₃⟩ := bits_incrAlone h
  simp [State.applyItems, h₀, h₁, h₂, h₃]

/-- An apply that has been done: its result, its count and its event. -/
def State.applyDone (s : State) : State :=
  ((s.wr Reg.TIME_STATUS_APPLY_RESULT St.ok).inc Reg.TIME_CNT_APPLY_DONE).event (Ev.time 4)

theorem State.applyDone_result : s.applyDone.rd Reg.TIME_STATUS_APPLY_RESULT = 0 := by
  rw [State.applyDone, (State.event_foot ..).rd_keeps rfl, State.inc, State.rd_wr_shared rfl, State.rd_wr_same (by decide)]
  rfl

theorem State.applyDone_counts : Counted Reg.TIME_CNT_APPLY_DONE 0 0 1 s s.applyDone :=
  counted_of_foot_after (State.event_foot ..) rfl (counted_of_rd_before (State.rd_wr_shared rfl) (counted_inc Nat.one_pos))

/-- What is done leaves the apply disarmed. -/
theorem State.applyDone_pending : s.applyDone.rd Reg.TIME_STATUS_APPLY_PENDING = s.rd Reg.TIME_STATUS_APPLY_PENDING := by
  rw [State.applyDone, (State.event_foot ..).rd_keeps rfl, State.inc, State.rd_wr_shared rfl, State.rd_wr_shared rfl]

theorem State.applyDone_time : s.applyDone.time = s.time := by rw [State.applyDone, State.event_time, State.inc_time, State.wr_time]

theorem State.applyTick_incrAlone {a : Arm} (harm : s.time.arm = some a) (hdue : a.due = true) (hsel : a.sel % 16 = 1)
    (hservo : s.isOn Reg.TIME_CTL_SERVO_EN = false) (hpf : a.fw = false) : s.applyTick =
    (s.disarmApply.setTgt (s.rd Reg.TIME_STAGE_INCR_LO + 2 ^ 32 * s.rd Reg.TIME_STAGE_INCR_HI)).applyDone := by
  have hgood : s.disarmApply.selRefused a.sel = false :=
    ((State.disarmApply_foot s).selRefused rfl).trans (State.selRefused_incrAlone hsel hservo)
  have lo : s.disarmApply.rdA .pf Reg.TIME_STAGE_INCR_LO = s.rd Reg.TIME_STAGE_INCR_LO :=
    (State.rdA_pf rfl).trans ((State.disarmApply_foot s).rd_keeps rfl)
  have hi : s.disarmApply.rdA .pf Reg.TIME_STAGE_INCR_HI = s.rd Reg.TIME_STAGE_INCR_HI :=
    (State.rdA_pf rfl).trans ((State.disarmApply_foot s).rd_keeps rfl)
  unfold State.applyTick
  rw [harm]
  dsimp only
  rw [hdue, hgood, hpf, if_neg Bool.false_ne_true, State.applyItems_incrAlone hsel, if_neg Bool.false_ne_true, lo, hi]
  rfl

theorem applyTick_applies {a : Arm} (hrun : s.runs .time = true) (harm : s.time.arm = some a) (hdue : a.due = true)
    (hsel : a.sel % 16 = 1) (hservo : s.isOn Reg.TIME_CTL_SERVO_EN = false) (hpf : a.fw = false) :
    ∃ t, exec .applyTick s = .next t ∧ t.time.arm = none ∧
    t.time.tgt = clampIncr (s.rd Reg.TIME_STAGE_INCR_LO + 2 ^ 32 * s.rd Reg.TIME_STAGE_INCR_HI) ∧
    t.rd Reg.TIME_STATUS_APPLY_PENDING = 0 ∧ t.rd Reg.TIME_STATUS_APPLY_RESULT = 0 ∧ Counted Reg.TIME_CNT_APPLY_DONE 0 0 1 s t := by
  have hex : exec .applyTick s = .next s.applyTick := congrArg Host.Outcome.next (if_pos hrun)
  rw [hex, State.applyTick_incrAlone harm hdue hsel hservo hpf]
  generalize s.rd Reg.TIME_STAGE_INCR_LO + 2 ^ 32 * s.rd Reg.TIME_STAGE_INCR_HI = x
  refine ⟨_, rfl, ?_, ?_, ?_, State.applyDone_result, ?_⟩
  · rw [State.applyDone_time]
    rfl
  · rw [State.applyDone_time]
    rfl
  · rw [State.applyDone_pending, (State.setTgt_foot ..).rd_keeps rfl, State.disarmApply_pending]
  · exact counted_of_foot_before (.step (State.setTgt_foot ..) rfl (State.disarmApply_foot s)) rfl State.applyDone_counts

end

/-- Settles O22: TIME_APPLY by what R128 judges, which the write of APPLY_MODE leaves; an apply of INCR alone by its selection's bits. -/
theorem snapshotsAndStagedTimeWrites : Obligations.SnapshotsAndStagedTimeWrites := by
  unfold Obligations.SnapshotsAndStagedTimeWrites
  exact ⟨fun _ _ => timeSnap_takes, fun _ _ _ => timeApply_busy, fun _ _ _ => timeApply_behind, fun _ _ _ => timeApply_invalid,
    fun _ _ _ => timeApply_arms, fun _ _ => timeCancel_ends, fun _ _ => timeCancel_stands, fun _ _ _ _ _ => timeStageWrite_taken,
    fun _ _ _ _ _ => timeStageWrite_pending, fun _ _ => applyTick_applies, fun _ => applyTick_stands⟩

end Sys2Proof.Machine

/-! SUPPORT. Timer channels: armed, fired, stopped and configured (05_time_outputs_and_triggers.md, R130 to R135). First what the delivery of
an event leaves, and one channel's state after an update. -/

namespace Sys2Proof.Machine

section
variable {s t : State} {n k v base at16 st src det fuel off : Nat} {own : Option Nat} {R : Row} {f : Chan → Chan}

/-- An operation that would change nothing changes nothing, whether its domain runs or not. -/
theorem State.inDom_still {d : Dom} {g : State → State} (h : g s = s) : s.inDom d g = s := by rw [State.inDom, h, ite_self]

/-! ### What the delivery of an event leaves, and what it adds to the trace -/

@[simp] theorem State.event_tev : (s.event src det).tev = s.tev := (State.event_foot ..).tev rfl

theorem State.evtLog_out : s.out <+: (s.evtLog src det).out := by
  unfold State.evtLog
  dsimp only
  split <;> exact List.prefix_rfl

theorem State.msix_out {f vec : Nat} : s.out <+: (s.msix f vec).out := by
  unfold State.msix
  split
  · split
    · exact List.prefix_rfl
    · exact List.prefix_append ..
  · exact List.prefix_rfl

theorem State.eqWrite_out {e : Nat} {body : List Byte} : s.out <+: (s.eqWrite e body).out := by
  unfold State.eqWrite
  extract_lets r sz own phase w0 entry addr s₁ s₂ s₃ full fire s₄
  have h₄ : s.out <+: s₄.out := List.prefix_append ..
  split
  · exact h₄.trans State.msix_out
  · exact h₄

/-- The trace only grows: an event adds what its entry and its message write. The sixth case writes an entry; the fifth raises EQ_OVERFLOW
for a full ring; the others write to no ring. -/
theorem State.raiseFuel_out {detL : Nat} : s.out <+: (s.raiseFuel fuel src own det detL).out := by
  fun_induction State.raiseFuel fuel s src own det detL with
  | case1 | case2 | case3 | case4 | case7 => exact State.evtLog_out
  | case5 =>
    rename_i overflow
    exact State.evtLog_out.trans overflow
  | case6 => exact State.evtLog_out.trans State.eqWrite_out

theorem State.event_out : s.out <+: (s.event src det).out := State.raiseFuel_out

/-! ### One channel's state, after an update -/

@[simp] theorem State.setCh_ch : (s.setCh n f).ch n = f (s.ch n) := Tab.get_put_self ..

@[simp] theorem State.rd_setCh {i j : Nat} : (s.setCh n f).rd R i j = s.rd R i j := rfl

@[simp] theorem State.setCh_chMode : (s.setCh n f).chMode k = s.chMode k := rfl

theorem State.ch_of_tev (h : t.tev = s.tev) : t.ch n = s.ch n := by rw [State.ch, h, State.ch]

@[simp] theorem State.wr_ch {l i : Nat} : (s.wr R v l i).ch n = s.ch n := rfl

@[simp] theorem State.chEvent_ch : (s.chEvent k).ch n = s.ch n := State.ch_of_tev State.event_tev

@[simp] theorem State.chEdge_ch {b : Bool} : (s.chEdge k b v).ch n = s.ch n := State.ch_of_tev ((State.chEdge_foot ..).tev rfl)

@[simp] theorem State.setNext_ch : (s.setNext n k at16).ch n = { s.ch n with k := k, next := at16 } := by
  rw [State.setNext, State.wr_ch, State.wr_ch, State.setCh_ch]

@[simp] theorem State.chIdle_ch :
    (s.chIdle n).ch n = { s.ch n with stopping := false, rebase := 0, pulse := false, shown := false } := State.setCh_ch

/-- What a channel that starts its active part holds, but for the times of it. -/
theorem State.chPulse_ch : ((s.chPulse n at16).ch n).pulse = true ∧ ((s.chPulse n at16).ch n).shown = !s.tevSquelched n := by
  unfold State.chPulse
  dsimp only
  split <;> simp

@[simp] theorem State.chFall_ch : (s.chFall n).ch n = { s.ch n with pulse := false, shown := false } := by
  unfold State.chFall
  dsimp only
  split <;> simp

/-! ### A channel's fields, after an operation on it -/

theorem State.chIdle_state (hn : n < 16) : (s.chIdle n).rd Reg.TEV_CH_STATUS_STATE 0 n = 0 := by
  rw [State.chIdle, State.rd_setCh, State.rd_wr_same hn, Nat.zero_mod]

/-- The copies of a field for two channels lie apart. -/
theorem State.rd_wr_otherCopy {i j : Nat} (h : R.stride ≠ 0) (hne : j ≠ i) : (s.wr R v 0 i).rd R 0 j = s.rd R 0 j := by
  refine State.rd_wr_key fun e => hne ?_
  simp only [Row.key] at e
  exact Nat.eq_of_mul_eq_mul_right (Nat.pos_of_ne_zero h) (by omega)

/-! ### Arming (R130, R131) -/

theorem exec_tevArm (hrun : s.runs .time = true) : exec (.tevArm n) s = .next (s.tevArm n) := congrArg Host.Outcome.next (if_pos hrun)

/-- A channel's target, in 2^-16 ns. -/
def State.chTarget (s : State) (n : Nat) : Nat :=
  (s.rd2 Reg.TEV_CH_TGT_SEC_LO Reg.TEV_CH_TGT_SEC_HI 0 n * 1000000000 + s.rd Reg.TEV_CH_TGT_NS 0 n) * 65536

/-- The fields of a channel that has been armed. -/
def State.showArmed (s : State) (n : Nat) : State :=
  ((s.wr Reg.TEV_CH_STATUS_STATE 1 0 n).wr Reg.TEV_CH_STATUS_RESULT St.ok 0 n).wr Reg.TEV_CH_FIRED 0 0 n

/-- A channel whose target lies less than 16 ticks ahead shows LATE. -/
def State.showLate (s : State) (n : Nat) : State := s.wr Reg.TEV_CH_STATUS_LATE 1 0 n

/-- A channel starts anew, with its target and the compare of one action. -/
def State.setSingle (s : State) (n base at16 : Nat) : State := (s.setCh n fun _ => { base := base }).setNext n 0 at16

theorem State.tevArm_refused (hn : n < 16) (h : s.armRefused n = some st) : s.tevArm n = s.refuseArm n st := by
  rw [State.tevArm, if_neg (Nat.not_le.2 hn), h]

theorem State.showArmed_chMode : (s.showArmed n).chMode n = s.chMode n := by
  rw [State.chMode, State.showArmed, State.rd_wr_shared rfl, State.rd_wr_shared rfl, State.rd_wr_shared rfl, State.chMode]

theorem State.showLate_chMode : (s.showLate n).chMode n = s.chMode n := State.rd_wr_shared rfl

/-- One action, armed. A target that comes too soon fires 16 ticks ahead of now (DEDUCED, log 31). -/
theorem State.tevArm_single (hn : n < 16) (h : s.armRefused n = none) (hwin : s.chTarget n * 2 ^ 24 ≤ s.time.now40 + 2 ^ 79)
    (hmode : seqMode (s.chMode n) = false) : s.tevArm n =
      if s.chTarget n < s.ns16 + ticks16 then ((s.showArmed n).showLate n).setSingle n (s.chTarget n) (s.ns16 + ticks16)
      else (s.showArmed n).setSingle n (s.chTarget n) (s.chTarget n) := by
  unfold State.tevArm
  rw [if_neg (Nat.not_le.2 hn), h, ← State.chTarget]
  extract_lets base late s₁ s₂ s₃
  have hin : ¬base * 2 ^ 24 > s.time.now40 + 2 ^ 79 := Nat.not_lt.2 hwin
  have shown : s₂.chMode n = s.chMode n := by
    unfold s₂
    split
    · exact State.showLate_chMode.trans State.showArmed_chMode
    · exact State.showArmed_chMode
  have single : ¬seqMode (s₃.chMode n) = true := by rw [State.setCh_chMode, shown, hmode]; exact Bool.false_ne_true
  rw [if_neg hin, if_neg single]
  unfold s₃ s₂
  by_cases hlate : late
  · rw [if_pos hlate, if_pos hlate, if_pos hlate]
    rfl
  · rw [if_neg hlate, if_neg hlate, if_neg hlate]
    rfl

theorem State.setSingle_foot : Foot fp134 s (s.setSingle n base at16) :=
  .step (State.setNext_foot ..) rfl ((State.setCh_foot ..).mono rfl)

theorem State.setSingle_next : ((s.setSingle n base at16).ch n).next = at16 := by rw [State.setSingle, State.setNext_ch]

theorem State.showArmed_shows (hn : n < 16) : (s.showArmed n).rd Reg.TEV_CH_STATUS_STATE 0 n = 1 ∧
    (s.showArmed n).rd Reg.TEV_CH_STATUS_RESULT 0 n = 0 ∧ (s.showArmed n).rd Reg.TEV_CH_FIRED 0 n = 0 := by
  unfold State.showArmed
  refine ⟨?_, ?_, ?_⟩
  · rw [State.rd_wr_shared rfl, State.rd_wr_shared rfl, State.rd_wr_same hn]
    rfl
  · rw [State.rd_wr_shared rfl, State.rd_wr_same hn]
    rfl
  · rw [State.rd_wr_same hn, Nat.zero_mod]

/-- An arm that no rule refuses, of one action with its target in the window. -/
structure ArmsSingle (s : State) (n : Nat) : Prop where
  runs : s.runs .time = true
  channel : n < 16
  accepted : s.armRefused n = none
  inWindow : s.chTarget n * 2 ^ 24 ≤ s.time.now40 + 2 ^ 79
  single : seqMode (s.chMode n) = false

theorem tevArm_ahead (h : ArmsSingle s n) (hahead : s.ns16 + ticks16 ≤ s.chTarget n) : ∃ t, exec (.tevArm n) s = .next t ∧
    t.rd Reg.TEV_CH_STATUS_STATE 0 n = 1 ∧ t.rd Reg.TEV_CH_STATUS_RESULT 0 n = 0 ∧ t.rd Reg.TEV_CH_FIRED 0 n = 0 ∧
    (t.ch n).next = s.chTarget n := by
  refine ⟨_, exec_tevArm h.runs, ?_⟩
  rw [State.tevArm_single h.channel h.accepted h.inWindow h.single, if_neg (Nat.not_lt.2 hahead), State.setSingle_foot.rd_at rfl,
    State.setSingle_foot.rd_at rfl, State.setSingle_foot.rd_at rfl]
  obtain ⟨state, result, fired⟩ := s.showArmed_shows h.channel
  exact ⟨state, result, fired, State.setSingle_next⟩

theorem tevArm_late (h : ArmsSingle s n) (hlate : s.chTarget n < s.ns16 + ticks16) : ∃ t, exec (.tevArm n) s = .next t ∧
    t.rd Reg.TEV_CH_STATUS_STATE 0 n = 1 ∧ t.rd Reg.TEV_CH_STATUS_RESULT 0 n = 0 ∧ t.rd Reg.TEV_CH_FIRED 0 n = 0 ∧
    t.rd Reg.TEV_CH_STATUS_LATE 0 n = 1 ∧ (t.ch n).next = s.ns16 + ticks16 := by
  refine ⟨_, exec_tevArm h.runs, ?_⟩
  rw [State.tevArm_single h.channel h.accepted h.inWindow h.single, if_pos hlate, State.setSingle_foot.rd_at rfl,
    State.setSingle_foot.rd_at rfl, State.setSingle_foot.rd_at rfl, State.setSingle_foot.rd_at rfl, State.showLate,
    State.rd_wr_shared rfl, State.rd_wr_shared rfl, State.rd_wr_shared rfl, State.rd_wr_same h.channel]
  obtain ⟨state, result, fired⟩ := s.showArmed_shows h.channel
  exact ⟨state, result, fired, rfl, State.setSingle_next⟩

theorem tevArm_refuses (hrun : s.runs .time = true) (hn : n < 16) (h : s.armRefused n = some st) : ∃ t, exec (.tevArm n) s = .next t ∧
    t.rd Reg.TEV_CH_STATUS_RESULT 0 n = st % 2 ^ Reg.TEV_CH_STATUS_RESULT.width ∧ Counted Reg.TEV_CNT_ARM_REFUSED 0 0 1 s t ∧
    t.tev = s.tev := by
  refine ⟨_, exec_tevArm hrun, ?_⟩
  rw [State.tevArm_refused hn h, State.refuseArm]
  refine ⟨?_, counted_of_rd_before (State.rd_wr_shared rfl) (counted_inc Nat.one_pos), rfl⟩
  rw [State.rd_inc_shared rfl, State.rd_wr_same hn]

/-! ### Firing (R131 to R133) -/

theorem exec_tevFire (hrun : s.runs .time = true) (hidle : s.time.arm.all (fun a => !a.due) = true) :
    exec (.tevFire n) s = .next (s.tevFire n) :=
  congrArg Host.Outcome.next ((if_pos hrun).trans (congrArg (State.tevFire · n) (State.applyTick_idle hidle)))

/-- A channel whose compare is due, that is not stopping and has no pulse, in a tick without an apply. -/
structure FireDue (s : State) (n : Nat) : Prop where
  runs : s.runs .time = true
  noApply : s.time.arm.all (fun a => !a.due) = true
  channel : n < 16
  active : s.chState n ≠ 0
  goesOn : (s.ch n).stopping = false
  due : s.chDue n = true
  noPulse : (s.ch n).pulse = false

theorem FireDue.fires (h : FireDue s n) (hleft : (seqMode (s.chMode n) && s.chSpent n (s.ch n).k) = false) :
    ¬(n ≥ 16 || s.chState n = 0 || (s.ch n).stopping || !s.chDue n || (s.ch n).pulse || (seqMode (s.chMode n) && s.chSpent n (s.ch n).k)) =
      true := by
  simp [hleft, h.channel, h.active, h.goesOn, h.due, h.noPulse]

/-- FIRED goes up by one. -/
def State.countFired (s : State) (n : Nat) : State := s.incSat Reg.TEV_CH_FIRED 0 n

theorem State.countFired_chMode : (s.countFired n).chMode n = s.chMode n := State.rd_wr_shared rfl

theorem State.countFired_fired (hn : n < 16) :
    (s.countFired n).rd Reg.TEV_CH_FIRED 0 n = min (s.rd Reg.TEV_CH_FIRED 0 n + 1) (2 ^ Reg.TEV_CH_FIRED.width - 1) := by
  rw [State.countFired, State.incSat, State.rd_wr_same hn]
  exact Nat.mod_eq_of_lt (lt_of_le_of_lt (min_le_right ..) (by decide))

/-- The edge of a latch: placed unless the pin is squelched or latched already (R123). -/
def State.latchEdge (s : State) (n at16 : Nat) : State :=
  if s.tevSquelched n || s.isOn Reg.TEV_CH_STATUS_LATCHED 0 n then s else s.chEdge n true (nearestStep at16)

/-- A channel that has fired is RUNNING. -/
def State.showRunning (s : State) (n : Nat) : State := (s.countFired n).wr Reg.TEV_CH_STATUS_STATE 2 0 n

/-- Its pulse has started. -/
def State.startPulse (s : State) (n : Nat) : State := (s.showRunning n).chPulse n (s.ch n).next

/-- The edge after the one that fires now, of a channel's sequence. -/
def State.edgeAfter (s : State) (n : Nat) : Nat :=
  edgeAt (s.isOn Reg.TEV_CH_CTL_RESYNC 0 n) (s.ch n).base (s.chPeriod n) ((s.ch n).k + 1)

theorem State.showRunning_foot : Foot fp142 s (s.showRunning n) := .wr rfl (Or.inr rfl) (.incSat rfl (Or.inr rfl) .refl)

theorem State.startPulse_foot : Foot fp142 s (s.startPulse n) := .step (State.chPulse_foot ..) rfl State.showRunning_foot

/-- What squelches a pin is none of a channel's own fields. -/
theorem State.showRunning_tevSquelched : (s.showRunning n).tevSquelched n = s.tevSquelched n := by
  rw [State.tevSquelched, State.showRunning_foot.rd_keeps rfl, State.showRunning_foot.time rfl, State.tevSquelched]

theorem State.tevFire_compare (h : FireDue s n) (hm : s.chMode n = 0) :
    s.tevFire n = (((s.countFired n).chIdle n).chEvent n).stopPartner n := by
  rw [State.tevFire, if_neg (h.fires (by rw [hm]; rfl)), ← State.countFired]
  dsimp only
  rw [State.countFired_chMode, hm]
  rfl

theorem State.tevFire_pulse (h : FireDue s n) (hm : s.chMode n = 1) : s.tevFire n = (s.startPulse n).chEvent n := by
  rw [State.tevFire, if_neg (h.fires (by rw [hm]; rfl)), ← State.countFired]
  dsimp only
  rw [State.countFired_chMode, hm]
  rfl

theorem State.tevFire_latch (h : FireDue s n) (hm : s.chMode n = 4) :
    s.tevFire n = ((((s.countFired n).latchEdge n (s.ch n).next).wr Reg.TEV_CH_STATUS_LATCHED 1 0 n).chIdle n).chEvent n := by
  rw [State.tevFire, if_neg (h.fires (by rw [hm]; rfl)), ← State.countFired]
  dsimp only
  rw [State.countFired_chMode, hm]
  rfl

theorem seqMode_iff {m : Nat} : seqMode m = true ↔ m = 2 ∨ m = 3 := by simp [seqMode]

theorem State.tevFire_sequence (h : FireDue s n) (hm : seqMode (s.chMode n) = true) (hleft : s.chSpent n (s.ch n).k = false) :
    s.tevFire n = if (s.ch n).sent then (s.startPulse n).setNext n ((s.ch n).k + 1) (s.edgeAfter n)
      else ((s.startPulse n).setNext n ((s.ch n).k + 1) (s.edgeAfter n)).chEvent n := by
  have resync : (s.startPulse n).isOn Reg.TEV_CH_CTL_RESYNC 0 n = s.isOn Reg.TEV_CH_CTL_RESYNC 0 n := by
    rw [State.isOn, State.startPulse_foot.rd_at rfl, State.isOn]
  have period : (s.startPulse n).chPeriod n = s.chPeriod n := by
    rw [State.chPeriod, State.startPulse_foot.rd_at rfl, State.startPulse_foot.rd_at rfl, State.chPeriod]
  rw [State.tevFire, if_neg (h.fires (by rw [hleft, Bool.and_false])), ← State.countFired]
  dsimp only
  rw [State.countFired_chMode, State.edgeAfter, ← resync, ← period]
  rcases seqMode_iff.1 hm with h₂ | h₃
  · rw [h₂]
    rfl
  · rw [h₃]
    rfl

theorem State.chStop_state_other (hne : n ≠ k) : (s.chStop k).rd Reg.TEV_CH_STATUS_STATE 0 n = s.rd Reg.TEV_CH_STATUS_STATE 0 n := by
  have idle : (s.chIdle k).rd Reg.TEV_CH_STATUS_STATE 0 n = s.rd Reg.TEV_CH_STATUS_STATE 0 n := State.rd_wr_otherCopy (by decide) hne
  unfold State.chStop
  split
  · rfl
  · split
    · rfl
    · split
      · rw [(State.chEvent_foot ..).rd_at rfl, idle]
      · exact idle

/-- The channel that another one stops is eight below it. -/
theorem State.stopPartner_state : (s.stopPartner n).rd Reg.TEV_CH_STATUS_STATE 0 n = s.rd Reg.TEV_CH_STATUS_STATE 0 n := by
  unfold State.stopPartner
  split
  case isTrue h =>
    simp only [Bool.and_eq_true, decide_eq_true_eq] at h
    obtain ⟨⟨hn, -⟩, -⟩ := h
    exact State.chStop_state_other (by omega)
  case isFalse => rfl

theorem tevFire_compares (h : FireDue s n) (hm : s.chMode n = 0) : ∃ t, exec (.tevFire n) s = .next t ∧
    t.rd Reg.TEV_CH_STATUS_STATE 0 n = 0 ∧
    t.rd Reg.TEV_CH_FIRED 0 n = min (s.rd Reg.TEV_CH_FIRED 0 n + 1) (2 ^ Reg.TEV_CH_FIRED.width - 1) := by
  refine ⟨_, exec_tevFire h.runs h.noApply, ?_⟩
  rw [State.tevFire_compare h hm]
  constructor
  · rw [State.stopPartner_state, (State.chEvent_foot ..).rd_at rfl, State.chIdle_state h.channel]
  · rw [(State.stopPartner_foot ..).rd_at rfl, (State.chEvent_foot ..).rd_at rfl, (State.chIdle_foot ..).rd_at rfl,
      State.countFired_fired h.channel]

theorem State.startPulse_state (hn : n < 16) : (s.startPulse n).rd Reg.TEV_CH_STATUS_STATE 0 n = 2 := by
  rw [State.startPulse, (State.chPulse_foot ..).rd_at rfl, State.showRunning, State.rd_wr_same hn]
  rfl

theorem State.startPulse_ch : ((s.startPulse n).ch n).pulse = true ∧ ((s.startPulse n).ch n).shown = !s.tevSquelched n := by
  rw [← State.showRunning_tevSquelched]
  exact State.chPulse_ch

theorem tevFire_pulses (h : FireDue s n) (hm : s.chMode n = 1) : ∃ t, exec (.tevFire n) s = .next t ∧
    t.rd Reg.TEV_CH_STATUS_STATE 0 n = 2 ∧ (t.ch n).pulse = true ∧ (t.ch n).shown = !(s.tevSquelched n) := by
  refine ⟨_, exec_tevFire h.runs h.noApply, ?_⟩
  rw [State.tevFire_pulse h hm, (State.chEvent_foot ..).rd_at rfl, State.chEvent_ch]
  exact ⟨State.startPulse_state h.channel, State.startPulse_ch⟩

/-- The leading edge of a pulse, on a pin that is not squelched. -/
theorem State.chPulse_out (hn : n < 8) (hsq : s.tevSquelched n = false) : (s.chPulse n at16).out = s.out ++
    [.edge n (!(s.isOn Reg.TEV_CH_CTL_POL 0 n)) (withComp (nearestStep at16) (s.rd Reg.TEV_CH_COMP 0 n))] := by
  unfold State.chPulse State.chEdge
  rw [hsq, if_neg Bool.false_ne_true, if_neg (Nat.not_le.2 hn), State.emit_out, Bool.true_bne]
  rfl

theorem State.startPulse_out (hn : n < 8) (hsq : s.tevSquelched n = false) : (s.startPulse n).out = s.out ++
    [.edge n (!(s.isOn Reg.TEV_CH_CTL_POL 0 n)) (withComp (nearestStep (s.ch n).next) (s.rd Reg.TEV_CH_COMP 0 n))] := by
  rw [State.startPulse, State.chPulse_out hn (State.showRunning_tevSquelched.trans hsq), State.isOn, State.showRunning_foot.rd_at rfl,
    State.showRunning_foot.rd_at rfl, State.isOn]
  rfl

theorem tevFire_edge (h : FireDue s n) (hm : s.chMode n = 1) (hn : n < 8) (hsq : s.tevSquelched n = false) :
    ∃ t, exec (.tevFire n) s = .next t ∧ t.out.take (s.out.length + 1) = s.out ++
      [.edge n (!(s.isOn Reg.TEV_CH_CTL_POL 0 n)) (withComp (nearestStep (s.ch n).next) (s.rd Reg.TEV_CH_COMP 0 n))] := by
  refine ⟨_, exec_tevFire h.runs h.noApply, ?_⟩
  rw [State.tevFire_pulse h hm, ← State.startPulse_out hn hsq]
  have grown : (s.startPulse n).out <+: ((s.startPulse n).chEvent n).out := State.event_out
  have len : (s.startPulse n).out.length = s.out.length + 1 := by rw [State.startPulse_out hn hsq, List.length_append, List.length_singleton]
  rw [← len]
  exact (List.prefix_iff_eq_take.1 grown).symm

theorem tevFire_latches (h : FireDue s n) (hm : s.chMode n = 4) : ∃ t, exec (.tevFire n) s = .next t ∧
    t.rd Reg.TEV_CH_STATUS_STATE 0 n = 0 ∧ t.rd Reg.TEV_CH_STATUS_LATCHED 0 n = 1 := by
  refine ⟨_, exec_tevFire h.runs h.noApply, ?_⟩
  rw [State.tevFire_latch h hm]
  constructor
  · rw [(State.chEvent_foot ..).rd_at rfl, State.chIdle_state h.channel]
  · rw [(State.chEvent_foot ..).rd_at rfl, (State.chIdle_foot ..).rd_at rfl, State.rd_wr_same h.channel]
    rfl

theorem tevFire_goesOn (h : FireDue s n) (hm : seqMode (s.chMode n) = true) (hleft : s.chSpent n (s.ch n).k = false) :
    ∃ t, exec (.tevFire n) s = .next t ∧ t.rd Reg.TEV_CH_STATUS_STATE 0 n = 2 ∧ (t.ch n).pulse = true ∧ (t.ch n).k = (s.ch n).k + 1 ∧
    (t.ch n).next = s.edgeAfter n := by
  refine ⟨_, exec_tevFire h.runs h.noApply, ?_⟩
  have edge : ((s.startPulse n).setNext n ((s.ch n).k + 1) (s.edgeAfter n)).rd Reg.TEV_CH_STATUS_STATE 0 n = 2 := by
    rw [(State.setNext_foot ..).rd_at rfl, State.startPulse_state h.channel]
  rw [State.tevFire_sequence h hm hleft]
  split
  · rw [State.setNext_ch]
    exact ⟨edge, State.startPulse_ch.1, rfl, rfl⟩
  · rw [State.chEvent_ch, State.setNext_ch, (State.chEvent_foot ..).rd_at rfl]
    exact ⟨edge, State.startPulse_ch.1, rfl, rfl⟩

theorem tevFire_stands (hidle : s.time.arm.all (fun a => !a.due) = true) (h : s.chState n = 0 ∨ s.chDue n = false) :
    exec (.tevFire n) s = .next s := by
  have still : s.tevFire n = s := by
    refine if_pos ?_
    rcases h with h | h <;> simp [h]
  exact congrArg Host.Outcome.next (State.inDom_still ((congrArg (State.tevFire · n) (State.applyTick_idle hidle)).trans still))

/-! ### The end of a pulse (R134) -/

theorem exec_tevPulseEnd (hrun : s.runs .time = true) : exec (.tevPulseEnd n) s = .next (s.tevPulseEnd n) :=
  congrArg Host.Outcome.next (if_pos hrun)

theorem exec_tevPulseEnd_stands (h : s.tevPulseEnd n = s) : exec (.tevPulseEnd n) s = .next s :=
  congrArg Host.Outcome.next (State.inDom_still h)

theorem State.tevPulseEnd_early (hp : (s.ch n).pulse = true) (hlt : s.run16 < (s.ch n).endAt) : s.tevPulseEnd n = s := by
  rw [State.tevPulseEnd, if_pos hp, if_pos hlt, ite_self]

theorem State.tevPulseEnd_quiet (hp : (s.ch n).pulse = false) (hstop : (s.ch n).stopping = false) : s.tevPulseEnd n = s := by
  rw [State.tevPulseEnd, hp, hstop, if_neg Bool.false_ne_true, Bool.false_and, if_neg Bool.false_ne_true, ite_self]

/-- A pulse that has had its length, on a channel of the part. -/
structure PulseOver (s : State) (n : Nat) : Prop where
  runs : s.runs .time = true
  channel : n < 16
  pulse : (s.ch n).pulse = true
  ended : (s.ch n).endAt ≤ s.run16

theorem State.chFall_chMode : (s.chFall n).chMode n = s.chMode n := (State.chFall_foot ..).rd_at rfl

theorem State.chFall_chSpent : (s.chFall n).chSpent n k = s.chSpent n k := by
  rw [State.chSpent, State.isOn, (State.chFall_foot ..).rd_at rfl, State.chSpent, State.isOn]

/-- The pulse falls first; what follows goes by the mode, and by what is left of the sequence. -/
theorem State.tevPulseEnd_over (h : PulseOver s n) : s.tevPulseEnd n =
    if !seqMode (s.chMode n) || (s.ch n).rebase ≠ 0 then (s.chFall n).chIdle n
    else if s.chSpent n (s.ch n).k || ((s.ch n).stopping && !(s.chFall n).chRuns n) then ((s.chFall n).chIdle n).chEvent n
    else s.chFall n := by
  rw [State.tevPulseEnd, if_neg (Nat.not_le.2 h.channel), if_pos h.pulse, if_neg (Nat.not_lt.2 h.ended)]
  dsimp only
  rw [State.chFall_chMode, State.chFall_chSpent]

theorem tevPulseEnd_single (h : PulseOver s n) (hm : seqMode (s.chMode n) = false) : ∃ t, exec (.tevPulseEnd n) s = .next t ∧
    t.rd Reg.TEV_CH_STATUS_STATE 0 n = 0 ∧ (t.ch n).pulse = false ∧ (t.ch n).shown = false := by
  have single : (!seqMode (s.chMode n) || (s.ch n).rebase ≠ 0) = true := by simp [hm]
  refine ⟨_, exec_tevPulseEnd h.runs, ?_⟩
  rw [State.tevPulseEnd_over h, if_pos single, State.chIdle_ch]
  exact ⟨State.chIdle_state h.channel, rfl, rfl⟩

theorem tevPulseEnd_goesOn (h : PulseOver s n) (hm : seqMode (s.chMode n) = true) (hrebase : (s.ch n).rebase = 0)
    (hstop : (s.ch n).stopping = false) (hleft : s.chSpent n (s.ch n).k = false) : ∃ t, exec (.tevPulseEnd n) s = .next t ∧
    (t.ch n).pulse = false ∧ (t.ch n).shown = false ∧
    t.rd Reg.TEV_CH_STATUS_STATE 0 n = s.rd Reg.TEV_CH_STATUS_STATE 0 n ∧ (t.ch n).next = (s.ch n).next := by
  have sequence : ¬(!seqMode (s.chMode n) || (s.ch n).rebase ≠ 0) = true := by simp [hm, hrebase]
  have left : ¬(s.chSpent n (s.ch n).k || ((s.ch n).stopping && !(s.chFall n).chRuns n)) = true := by simp [hleft, hstop]
  refine ⟨_, exec_tevPulseEnd h.runs, ?_⟩
  rw [State.tevPulseEnd_over h, if_neg sequence, if_neg left, State.chFall_ch]
  exact ⟨rfl, rfl, (State.chFall_foot ..).rd_at rfl, rfl⟩

/-! ### Disarming (R134) -/

theorem exec_tevDisarm (hrun : s.runs .time = true) (hn : n < 16) :
    exec (.tevDisarm n) s = .next ((s.chStop n).wr Reg.TEV_CH_STATUS_LATCHED 0 0 n) :=
  congrArg Host.Outcome.next ((if_pos hrun).trans (if_neg (Nat.not_le.2 hn)))

/-- Stopped with nothing running, a channel is idle. -/
theorem State.chStop_state (hn : n < 16) (h : s.chRuns n = false) : (s.chStop n).rd Reg.TEV_CH_STATUS_STATE 0 n = 0 := by
  unfold State.chStop
  rw [h, if_neg Bool.false_ne_true]
  split
  case isTrue idle => exact idle
  case isFalse =>
    split
    · rw [(State.chEvent_foot ..).rd_at rfl, State.chIdle_state hn]
    · exact State.chIdle_state hn

theorem tevDisarm_idle (hrun : s.runs .time = true) (hn : n < 16) (h : s.chRuns n = false) : ∃ t, exec (.tevDisarm n) s = .next t ∧
    t.rd Reg.TEV_CH_STATUS_STATE 0 n = 0 ∧ t.rd Reg.TEV_CH_STATUS_LATCHED 0 n = 0 := by
  refine ⟨_, exec_tevDisarm hrun hn, ?_⟩
  rw [State.rd_wr_shared rfl, State.rd_wr_same hn, Nat.zero_mod]
  exact ⟨State.chStop_state hn h, rfl⟩

theorem tevDisarm_running (hrun : s.runs .time = true) (hn : n < 16) (hst : s.chState n ≠ 0) (h : s.chRuns n = true) :
    ∃ t, exec (.tevDisarm n) s = .next t ∧ (t.ch n).stopping = true ∧
    t.rd Reg.TEV_CH_STATUS_STATE 0 n = s.rd Reg.TEV_CH_STATUS_STATE 0 n := by
  refine ⟨_, exec_tevDisarm hrun hn, ?_⟩
  rw [State.chStop, if_neg hst, if_pos h, State.wr_ch, State.setCh_ch, State.rd_wr_shared rfl, State.rd_setCh]
  exact ⟨rfl, rfl⟩

/-! ### Configuration (R135) -/

theorem exec_tevConfigWrite {w : BitVec 32} (hrun : s.runs .time = true) :
    exec (.tevConfigWrite n off w) s = .next (s.tevConfig n off w.toNat) := congrArg Host.Outcome.next (if_pos hrun)

theorem tevConfigWrite_target {w : BitVec 32} (hrun : s.runs .time = true) (hn : n < 16) (hoff : off = 16) (hidle : s.chState n = 0) :
    exec (.tevConfigWrite n off w) s = .next (s.wr Reg.TEV_CH_TGT_NS w.toNat 0 n) := by
  have idle : ¬(decide (s.chState n ≠ 0) && s.rd Reg.TEV_CH_TGT_NS 0 n != w.toNat % 2 ^ Reg.TEV_CH_TGT_NS.width) = true := by simp [hidle]
  rw [exec_tevConfigWrite hrun, hoff, State.tevConfig, if_neg (Nat.not_le.2 hn)]
  exact congrArg Host.Outcome.next (if_neg idle)

theorem tevConfigWrite_mode {w : BitVec 32} (hrun : s.runs .time = true) (hn : n < 16) (hoff : off = 0) (hbusy : s.chState n ≠ 0)
    (hmode : bits w.toNat 6 4 ≠ s.chMode n) : exec (.tevConfigWrite n off w) s = .next (s.wr Reg.TEV_CH_STATUS_WERR 1 0 n) := by
  have locked : (decide (s.chState n ≠ 0) && s.chMode n != bits w.toNat 6 4) = true := by simp [hbusy, hmode.symm]
  rw [exec_tevConfigWrite hrun, hoff, State.tevConfig, if_neg (Nat.not_le.2 hn)]
  exact congrArg Host.Outcome.next (if_pos locked)

end

/-- Settles O23: an arm by its refusal and its lateness (16 ticks ahead by log 31, the model's own), a fire by the mode, a pulse's end by what
is left of the sequence. -/
theorem timerChannelsArmFireAndStop : Obligations.TimerChannelsArmFireAndStop := by
  unfold Obligations.TimerChannelsArmFireAndStop
  exact ⟨fun _ _ hrun hn hok hwin hone => tevArm_ahead ⟨hrun, hn, hok, hwin, hone⟩,
    fun _ _ hrun hn hok hwin hone => tevArm_late ⟨hrun, hn, hok, hwin, hone⟩, fun _ _ _ => tevArm_refuses,
    fun _ _ hrun hno hn hact hgo hdue hp => tevFire_compares ⟨hrun, hno, hn, hact, hgo, hdue, hp⟩,
    fun _ _ hrun hno hn hact hgo hdue hp => tevFire_pulses ⟨hrun, hno, hn, hact, hgo, hdue, hp⟩,
    fun _ _ hrun hno hn hact hgo hdue hp => tevFire_edge ⟨hrun, hno, hn, hact, hgo, hdue, hp⟩,
    fun _ _ hrun hno hn hact hgo hdue hp => tevFire_latches ⟨hrun, hno, hn, hact, hgo, hdue, hp⟩,
    fun _ _ hrun hno hn hact hgo hdue hp => tevFire_goesOn ⟨hrun, hno, hn, hact, hgo, hdue, hp⟩,
    fun _ _ => tevFire_stands, fun _ _ hp hlt => exec_tevPulseEnd_stands (State.tevPulseEnd_early hp hlt),
    fun _ _ hrun hn hp hover => tevPulseEnd_single ⟨hrun, hn, hp, hover⟩,
    fun _ _ hrun hn hp hover => tevPulseEnd_goesOn ⟨hrun, hn, hp, hover⟩,
    fun _ _ hp hstop => exec_tevPulseEnd_stands (State.tevPulseEnd_quiet hp hstop), fun _ _ => tevDisarm_idle, fun _ _ => tevDisarm_running,
    fun _ _ _ _ => tevConfigWrite_target, fun _ _ _ _ => tevConfigWrite_mode⟩

end Sys2Proof.Machine

/-! SUPPORT. PPS_OUT, captures and PTM dialogues (05_time_outputs_and_triggers.md, R138 to R143). -/

namespace Sys2Proof.Machine

section
variable {s t : State} {i k w st fine : Nat} {rising wide : Bool} {R : Row} {f : Cap → Cap}

/-! ### PPS_OUT (R138, R139) -/

theorem exec_ppsOutPulse (hrun : s.runs .time = true) : exec .ppsOutPulse s = .next s.ppsPulse := congrArg Host.Outcome.next (if_pos hrun)

theorem exec_ppsPulseEnd (hrun : s.runs .time = true) : exec .ppsPulseEnd s = .next s.ppsFall := congrArg Host.Outcome.next (if_pos hrun)

theorem ppsOutPulse_starts (hrun : s.runs .time = true) (hroll : s.time.rolled = true) (hen : s.isOn Reg.TEV_PPS_CTL_EN = true)
    (hsq : s.ppsSquelched = false) (hpps : s.tev.pps = false) : ∃ t, exec .ppsOutPulse s = .next t ∧ t.tev.pps = true ∧ t.out = s.out ++
      [.edge 8 (!(s.isOn Reg.TEV_PPS_CTL_POL)) (withComp (s.secNow * 40000000000) (s.rd Reg.TEV_PPS_CTL_COMP))] := by
  have starts : ¬(!s.time.rolled || !s.isOn Reg.TEV_PPS_CTL_EN || s.ppsSquelched || s.tev.pps) = true := by simp [hroll, hen, hsq, hpps]
  refine ⟨_, exec_ppsOutPulse hrun, ?_⟩
  rw [State.ppsPulse, if_neg starts, ← Bool.true_bne]
  exact ⟨rfl, rfl⟩

theorem ppsOutPulse_stands (h : s.time.rolled = false ∨ s.isOn Reg.TEV_PPS_CTL_EN = false ∨ s.ppsSquelched = true) :
    exec .ppsOutPulse s = .next s := by
  have still : s.ppsPulse = s := by
    refine if_pos ?_
    rcases h with h | h | h <;> simp [h]
  exact congrArg Host.Outcome.next (State.inDom_still still)

theorem ppsPulseEnd_ends (hrun : s.runs .time = true) (hpps : s.tev.pps = true) (hend : s.tev.ppsEnd ≤ s.run16) :
    ∃ t, exec .ppsPulseEnd s = .next t ∧ t.tev.pps = false := by
  have ended : ¬(!s.tev.pps || decide (s.run16 < s.tev.ppsEnd)) = true := by simp [hpps, hend]
  refine ⟨_, exec_ppsPulseEnd hrun, ?_⟩
  rw [State.ppsFall, if_neg ended]
  rfl

theorem ppsPulseEnd_stands (h : s.tev.pps = false ∨ s.run16 < s.tev.ppsEnd) : exec .ppsPulseEnd s = .next s := by
  have still : s.ppsFall = s := by
    refine if_pos ?_
    rcases h with h | h <;> simp [h]
  exact congrArg Host.Outcome.next (State.inDom_still still)

/-! ### Captures (R140, R141) -/

@[simp] theorem State.setCap_cap : (s.setCap i f).cap i = f (s.cap i) := Tab.get_put_self ..

theorem exec_tcapEdge (hrun : s.runs .time = true) (hidle : s.time.arm.all (fun a => !a.due) = true) :
    exec (.tcapEdge i rising w wide fine) s = .next (s.tcapEdge i rising w wide fine) :=
  congrArg Host.Outcome.next ((if_pos hrun).trans (congrArg (State.tcapEdge · i rising w wide fine) (State.applyTick_idle hidle)))

/-- An edge of an enabled input, to the level the input does not have, in a tick without an apply. -/
structure EdgeSeen (s : State) (i : Nat) (rising : Bool) : Prop where
  runs : s.runs .time = true
  noApply : s.time.arm.all (fun a => !a.due) = true
  input : i < 8
  level : s.rd Reg.TEV_TCAP_STATUS_PIN 0 i ≠ b2n rising
  enabled : s.isOn Reg.TEV_TCAP_CTL_EN 0 i = true

theorem EdgeSeen.turns (h : EdgeSeen s i rising) : ¬(decide (i ≥ 8) || decide (s.rd Reg.TEV_TCAP_STATUS_PIN 0 i = b2n rising)) = true := by
  simp [h.input, h.level]

theorem State.tcapEdge_narrow (h : EdgeSeen s i rising) (hw : w < 2000) :
    s.tcapEdge i rising w wide fine = s.inc Reg.TEV_TCAP_CNT_NARROW 0 i := by
  have narrow : (w < 2000 || (w ≤ 2200 && !wide)) = true := by simp [hw]
  rw [State.tcapEdge, if_neg h.turns, if_pos narrow, if_pos h.enabled]

/-- The level of an input, followed. -/
def State.followPin (s : State) (i : Nat) (rising : Bool) : State := s.wr Reg.TEV_TCAP_STATUS_PIN (b2n rising) 0 i

theorem State.followPin_pin (hi : i < 8) : (s.followPin i rising).rd Reg.TEV_TCAP_STATUS_PIN 0 i = b2n rising := by
  rw [State.followPin, State.rd_wr_same hi]
  exact Nat.mod_eq_of_lt (Nat.lt_succ_of_le (b2n_le_one rising))

/-- An edge that is captured: it holds for more than 2.2 ns, in a direction of EDGE. -/
theorem State.tcapEdge_captured (h : EdgeSeen s i rising) (hw : 2200 < w)
    (hdir : bit (s.rd Reg.TEV_TCAP_CTL_EDGE 0 i) (if rising then 0 else 1) = 1) :
    s.tcapEdge i rising w wide fine = (s.followPin i rising).capture i rising fine := by
  have broad : ¬(w < 2000 || (w ≤ 2200 && !wide)) = true := by simp; omega
  have captured : ((s.followPin i rising).isOn Reg.TEV_TCAP_CTL_EN 0 i &&
      bit ((s.followPin i rising).rd Reg.TEV_TCAP_CTL_EDGE 0 i) (if rising then 0 else 1) == 1) = true := by
    rw [State.isOn, State.followPin, State.rd_wr_shared rfl, State.rd_wr_shared rfl, hdir, ← State.isOn, h.enabled]
    rfl
  rw [State.tcapEdge, if_neg h.turns, if_neg broad]
  exact if_pos captured

/-- An entry stands last in the FIFO. -/
def State.pushEntry (s : State) (i : Nat) (entry : List Nat) : State :=
  s.setCap i fun c => { c with fifo := c.fifo ++ [entry], seq := (c.seq + 1) % 65536 }

/-- An entry is lost, counted, and sets OVF. -/
def State.loseEntry (s : State) (i : Nat) : State :=
  ((s.inc Reg.TEV_TCAP_CNT_LOST 0 i).wr Reg.TEV_TCAP_STATUS_OVF 1 0 i).setCap i fun c => { c with seq := (c.seq + 1) % 65536 }

/-- With room in the FIFO, nothing but an event follows the entry. -/
theorem State.capture_room (hroom : (s.cap i).fifo.length < 64) :
    ∃ entry, Foot fp8 ((s.inc Reg.TEV_TCAP_CNT_CAPTURED 0 i).pushEntry i entry) (s.capture i rising fine) := by
  unfold State.capture
  rw [if_neg (Nat.not_le.2 hroom)]
  exact ⟨_, .ite (State.event_foot ..) .refl⟩

/-- With the FIFO full, nothing but an event follows the loss. -/
theorem State.capture_full (hfull : 64 ≤ (s.cap i).fifo.length) :
    Foot fp8 ((s.inc Reg.TEV_TCAP_CNT_CAPTURED 0 i).loseEntry i) (s.capture i rising fine) := by
  unfold State.capture
  rw [if_pos hfull]
  exact .ite .refl (State.event_foot ..)

theorem Foot.cap_keeps (h : Foot fp8 s t) : t.cap i = s.cap i := by rw [State.cap, h.tev rfl, State.cap]

theorem State.rd_loseEntry (hlost : otherRow R Reg.TEV_TCAP_CNT_LOST = true) (hovf : otherRow R Reg.TEV_TCAP_STATUS_OVF = true) :
    (s.loseEntry i).rd R 0 k = s.rd R 0 k := (State.rd_wr_shared hovf).trans (State.rd_inc_shared hlost)

theorem State.loseEntry_cap : (s.loseEntry i).cap i = { s.cap i with seq := ((s.cap i).seq + 1) % 65536 } := State.setCap_cap

theorem State.loseEntry_ovf (hi : i < 8) : (s.loseEntry i).rd Reg.TEV_TCAP_STATUS_OVF 0 i = 1 :=
  State.rd_wr_same (s := s.inc Reg.TEV_TCAP_CNT_LOST 0 i) (v := 1) hi

theorem State.loseEntry_counts (hi : i < 8) : Counted Reg.TEV_TCAP_CNT_LOST 0 i 1 s (s.loseEntry i) :=
  counted_of_rd_after (State.rd_wr_shared (s := s.inc Reg.TEV_TCAP_CNT_LOST 0 i) rfl) (counted_inc_at hi)

theorem tcapEdge_enters (h : EdgeSeen s i rising) (hw : 2200 < w)
    (hdir : bit (s.rd Reg.TEV_TCAP_CTL_EDGE 0 i) (if rising then 0 else 1) = 1) (hroom : (s.cap i).fifo.length < 64) :
    ∃ t, exec (.tcapEdge i rising w wide fine) s = .next t ∧ Counted Reg.TEV_TCAP_CNT_CAPTURED 0 i 1 s t ∧
    (t.cap i).fifo.length = (s.cap i).fifo.length + 1 ∧ (t.cap i).fifo.take (s.cap i).fifo.length = (s.cap i).fifo ∧
    t.rd Reg.TEV_TCAP_STATUS_PIN 0 i = b2n rising := by
  obtain ⟨entry, after⟩ := State.capture_room (s := s.followPin i rising) (rising := rising) (fine := fine) hroom
  refine ⟨_, exec_tcapEdge h.runs h.noApply, ?_⟩
  rw [State.tcapEdge_captured h hw hdir, after.cap_keeps, State.pushEntry, State.setCap_cap, after.rd_at rfl]
  refine ⟨?_, List.length_append, List.take_left, ?_⟩
  · exact counted_of_rd_after (after.rd_at rfl) (counted_of_rd_before (State.rd_wr_shared rfl) (counted_inc_at h.input))
  · exact (State.rd_inc_shared rfl).trans (State.followPin_pin h.input)

theorem tcapEdge_loses (h : EdgeSeen s i rising) (hw : 2200 < w)
    (hdir : bit (s.rd Reg.TEV_TCAP_CTL_EDGE 0 i) (if rising then 0 else 1) = 1) (hfull : 64 ≤ (s.cap i).fifo.length) :
    ∃ t, exec (.tcapEdge i rising w wide fine) s = .next t ∧ Counted Reg.TEV_TCAP_CNT_CAPTURED 0 i 1 s t ∧
    Counted Reg.TEV_TCAP_CNT_LOST 0 i 1 s t ∧ t.rd Reg.TEV_TCAP_STATUS_OVF 0 i = 1 ∧ (t.cap i).fifo = (s.cap i).fifo ∧
    t.rd Reg.TEV_TCAP_STATUS_PIN 0 i = b2n rising := by
  have after := State.capture_full (s := s.followPin i rising) (rising := rising) (fine := fine) hfull
  refine ⟨_, exec_tcapEdge h.runs h.noApply, ?_⟩
  rw [State.tcapEdge_captured h hw hdir, after.cap_keeps, State.loseEntry_cap, after.rd_at rfl, after.rd_at rfl]
  refine ⟨?_, ?_, State.loseEntry_ovf h.input, rfl, ?_⟩
  · exact counted_of_rd_after ((after.rd_at rfl).trans (State.rd_loseEntry rfl rfl))
      (counted_of_rd_before (State.rd_wr_shared rfl) (counted_inc_at h.input))
  · exact counted_of_rd_after (after.rd_at rfl) (counted_of_rd_before
      ((State.rd_inc_shared rfl).trans (State.rd_wr_shared rfl)) (State.loseEntry_counts h.input))
  · exact (State.rd_loseEntry rfl rfl).trans ((State.rd_inc_shared rfl).trans (State.followPin_pin h.input))

theorem tcapEdge_ignored (h : EdgeSeen s i rising) (hw : w < 2000) : ∃ t, exec (.tcapEdge i rising w wide fine) s = .next t ∧
    Counted Reg.TEV_TCAP_CNT_NARROW 0 i 1 s t ∧ t.tev = s.tev := by
  refine ⟨_, exec_tcapEdge h.runs h.noApply, ?_⟩
  rw [State.tcapEdge_narrow h hw]
  exact ⟨counted_inc_at h.input, rfl⟩

theorem exec_tcapHeadPop (hrun : s.runs .time = true) : exec (.tcapHeadPop i) s = .next (s.tcapPop i) :=
  congrArg Host.Outcome.next (if_pos hrun)

/-- The five words of HEAD. -/
def State.showHead (s : State) (i : Nat) (entry : List Nat) : State :=
  ((((s.wr Reg.TEV_TCAP_HEAD0 (entry.getD 0 0) 0 i).wr Reg.TEV_TCAP_HEAD1 (entry.getD 1 0) 0 i).wr Reg.TEV_TCAP_HEAD2 (entry.getD 2 0) 0 i).wr
    Reg.TEV_TCAP_HEAD3 (entry.getD 3 0) 0 i).wr Reg.TEV_TCAP_HEAD4 (entry.getD 4 0) 0 i

theorem State.showHead_shows {entry : List Nat} (hi : i < 8) : (s.showHead i entry).rd Reg.TEV_TCAP_HEAD0 0 i = entry.getD 0 0 % 2 ^ 32 ∧
    (s.showHead i entry).rd Reg.TEV_TCAP_HEAD1 0 i = entry.getD 1 0 % 2 ^ 32 ∧
    (s.showHead i entry).rd Reg.TEV_TCAP_HEAD2 0 i = entry.getD 2 0 % 2 ^ 32 ∧
    (s.showHead i entry).rd Reg.TEV_TCAP_HEAD3 0 i = entry.getD 3 0 % 2 ^ 32 ∧
    (s.showHead i entry).rd Reg.TEV_TCAP_HEAD4 0 i = entry.getD 4 0 % 2 ^ 32 := by
  unfold State.showHead
  refine ⟨?_, ?_, ?_, ?_, State.rd_wr_same hi⟩
  · rw [State.rd_wr_shared rfl, State.rd_wr_shared rfl, State.rd_wr_shared rfl, State.rd_wr_shared rfl]
    exact State.rd_wr_same hi
  · rw [State.rd_wr_shared rfl, State.rd_wr_shared rfl, State.rd_wr_shared rfl]
    exact State.rd_wr_same hi
  · rw [State.rd_wr_shared rfl, State.rd_wr_shared rfl]
    exact State.rd_wr_same hi
  · rw [State.rd_wr_shared rfl]
    exact State.rd_wr_same hi

/-- The oldest entry of a FIFO, or one without VALID. -/
def Cap.head (c : Cap) : List Nat := (c.fifo.head?).getD [0, 0, 0, 0, 0]

/-- A FIFO without its oldest entry. -/
def State.dropHead (s : State) (i : Nat) : State := s.setCap i fun c => { c with fifo := c.fifo.drop 1 }

theorem State.tcapPop_eq (hi : i < 8) : s.tcapPop i = ((s.dropHead i).showHead i (s.cap i).head).emit
    (.regRead (Reg.TEV_TCAP_HEAD0.addr + Reg.TEV_TCAP_HEAD0.stride * i) ((s.cap i).head.getD 0 0)) := by
  rw [State.tcapPop, if_neg (Nat.not_le.2 hi)]
  rfl

theorem State.dropHead_cap : (s.dropHead i).cap i = { s.cap i with fifo := (s.cap i).fifo.drop 1 } := State.setCap_cap

theorem State.showHead_cap {entry : List Nat} : (s.showHead i entry).cap i = s.cap i := rfl

@[simp] theorem State.emit_cap {o : Output} : (s.emit o).cap i = s.cap i := rfl

theorem tcapHeadPop_takes (hrun : s.runs .time = true) (hi : i < 8) : ∃ t, exec (.tcapHeadPop i) s = .next t ∧
    (t.cap i).fifo = (s.cap i).fifo.drop 1 ∧
    t.rd Reg.TEV_TCAP_HEAD0 0 i = (s.cap i).head.getD 0 0 % 2 ^ 32 ∧ t.rd Reg.TEV_TCAP_HEAD1 0 i = (s.cap i).head.getD 1 0 % 2 ^ 32 ∧
    t.rd Reg.TEV_TCAP_HEAD2 0 i = (s.cap i).head.getD 2 0 % 2 ^ 32 ∧ t.rd Reg.TEV_TCAP_HEAD3 0 i = (s.cap i).head.getD 3 0 % 2 ^ 32 ∧
    t.rd Reg.TEV_TCAP_HEAD4 0 i = (s.cap i).head.getD 4 0 % 2 ^ 32 := by
  refine ⟨_, exec_tcapHeadPop hrun, ?_⟩
  rw [State.tcapPop_eq hi, State.emit_cap, State.showHead_cap, State.dropHead_cap]
  simp only [State.rd_emit, true_and]
  exact State.showHead_shows hi

/-! ### PTM dialogues (R143) -/

theorem exec_ptmAutoTimer (hrun : s.runs .time = true) : exec .ptmAutoTimer s = .next s.ptmAuto := congrArg Host.Outcome.next (if_pos hrun)

theorem exec_ptmTrigger (hrun : s.runs .time = true) : exec .ptmTrigger s = .next s.ptmTrigger := congrArg Host.Outcome.next (if_pos hrun)

theorem exec_ptmResponse {master : BitVec 64} {pdelay : BitVec 32} (hrun : s.runs .time = true) :
    exec (.ptmResponse master pdelay) s = .next (s.ptmResponse master.toNat pdelay.toNat) := congrArg Host.Outcome.next (if_pos hrun)

theorem exec_ptmTimeout (hrun : s.runs .time = true) : exec .ptmTimeout s = .next s.ptmTimeout := congrArg Host.Outcome.next (if_pos hrun)

theorem State.ptmStart_busy : s.ptmStart.rd Reg.TEV_PTM_STATUS_BUSY = 1 :=
  State.rd_wr_same (R := Reg.TEV_PTM_STATUS_BUSY) (v := 1) Nat.one_pos

theorem State.ptmStart_out : s.ptmStart.out = s.out ++ [.ptmRequest] := rfl

theorem ptmAutoTimer_starts (hrun : s.runs .time = true) (hauto : s.isOn Reg.TEV_PTM_CTL_AUTO = true) (hon : s.tev.ptmOn = true)
    (hfree : s.isOn Reg.TEV_PTM_STATUS_BUSY = false) (hdue : s.ptmDue = true) (hlink : s.linkOk = true) :
    ∃ t, exec .ptmAutoTimer s = .next t ∧ t.rd Reg.TEV_PTM_STATUS_BUSY = 1 ∧ t.out = s.out ++ [.ptmRequest] := by
  have starts : (s.isOn Reg.TEV_PTM_CTL_AUTO && s.tev.ptmOn && !s.isOn Reg.TEV_PTM_STATUS_BUSY && s.ptmDue && s.linkOk) = true := by
    simp [hauto, hon, hfree, hdue, hlink]
  refine ⟨_, exec_ptmAutoTimer hrun, ?_⟩
  rw [State.ptmAuto, if_pos starts]
  exact ⟨State.ptmStart_busy, State.ptmStart_out⟩

theorem ptmTrigger_starts (hrun : s.runs .time = true) (hon : s.tev.ptmOn = true) (hfree : s.isOn Reg.TEV_PTM_STATUS_BUSY = false)
    (hlink : s.linkOk = true) : ∃ t, exec .ptmTrigger s = .next t ∧ t.rd Reg.TEV_PTM_STATUS_BUSY = 1 ∧ t.out = s.out ++ [.ptmRequest] := by
  have starts : s.ptmTrigger = s.ptmStart := by simp [State.ptmTrigger, hon, hfree, hlink]
  refine ⟨_, exec_ptmTrigger hrun, ?_⟩
  rw [starts]
  exact ⟨State.ptmStart_busy, State.ptmStart_out⟩

/-- The fields of a dialogue that has ended. -/
def State.showEnd (s : State) (st : Nat) : State := (s.wr Reg.TEV_PTM_STATUS_BUSY 0).wr Reg.TEV_PTM_STATUS_RESULT st

theorem State.showEnd_shows (hst : st < 256) : (s.showEnd st).rd Reg.TEV_PTM_STATUS_BUSY = 0 ∧
    (s.showEnd st).rd Reg.TEV_PTM_STATUS_RESULT = st := by
  rw [State.showEnd, State.rd_wr_shared rfl, State.rd_wr_same Nat.one_pos, State.rd_wr_same Nat.one_pos]
  exact ⟨Nat.zero_mod _, Nat.mod_eq_of_lt hst⟩

/-- The counter of the dialogues that end as one with this status does. -/
def ptmCounter (st : Nat) : Row := if st = St.ok then Reg.TEV_CNT_PTM_DIALOGUES else Reg.TEV_CNT_PTM_FAILED

theorem State.ptmEnd_eq : s.ptmEnd st = ((s.showEnd st).inc (ptmCounter st)).pfEvent 3 st := rfl

@[simp] theorem State.ptmEnd_tev : (s.ptmEnd st).tev = s.tev := (State.ptmEnd_foot ..).tev rfl

theorem State.ptmEnd_shows (hst : st < 256) : (s.ptmEnd st).rd Reg.TEV_PTM_STATUS_BUSY = 0 ∧
    (s.ptmEnd st).rd Reg.TEV_PTM_STATUS_RESULT = st := by
  have busy : otherRow Reg.TEV_PTM_STATUS_BUSY (ptmCounter st) = true := by unfold ptmCounter; split <;> rfl
  have result : otherRow Reg.TEV_PTM_STATUS_RESULT (ptmCounter st) = true := by unfold ptmCounter; split <;> rfl
  rw [State.ptmEnd_eq, (State.pfEvent_foot ..).rd_keeps rfl, (State.pfEvent_foot ..).rd_keeps rfl, State.rd_inc_shared busy,
    State.rd_inc_shared result]
  exact State.showEnd_shows hst

theorem State.ptmEnd_counts : Counted (ptmCounter st) 0 0 1 s (s.ptmEnd st) := by
  have single : 0 < (ptmCounter st).n := by unfold ptmCounter; split <;> exact Nat.one_pos
  have kept : keepsRow fp8 (ptmCounter st) = true := by unfold ptmCounter; split <;> rfl
  have shown : (s.showEnd st).rd (ptmCounter st) = s.rd (ptmCounter st) := by
    unfold ptmCounter
    split <;> exact (State.rd_wr_shared rfl).trans (State.rd_wr_shared rfl)
  exact counted_of_foot_after (State.pfEvent_foot ..) kept (counted_of_rd_before shown (counted_inc single))

theorem ptmTrigger_off (hrun : s.runs .time = true) (hoff : s.tev.ptmOn = false) : ∃ t, exec .ptmTrigger s = .next t ∧
    t.rd Reg.TEV_PTM_STATUS_BUSY = 0 ∧ t.rd Reg.TEV_PTM_STATUS_RESULT = 2 ∧ Counted Reg.TEV_CNT_PTM_FAILED 0 0 1 s t := by
  have refused : s.ptmTrigger = s.ptmEnd St.invalid := by simp [State.ptmTrigger, hoff]
  obtain ⟨busy, result⟩ := s.ptmEnd_shows (st := St.invalid) (by decide)
  refine ⟨_, exec_ptmTrigger hrun, ?_⟩
  rw [refused]
  exact ⟨busy, result, State.ptmEnd_counts (st := St.invalid)⟩

theorem ptmTrigger_busy (hrun : s.runs .time = true) (hon : s.tev.ptmOn = true) (hbusy : s.isOn Reg.TEV_PTM_STATUS_BUSY = true) :
    ∃ t, exec .ptmTrigger s = .next t ∧ t.rd Reg.TEV_PTM_STATUS_BUSY = 1 ∧ t.rd Reg.TEV_PTM_STATUS_RESULT = 2 ∧
    Counted Reg.TEV_CNT_PTM_FAILED 0 0 1 s t ∧ t.tev = s.tev := by
  have refused : s.ptmTrigger = (s.ptmEnd St.invalid).wr Reg.TEV_PTM_STATUS_BUSY 1 := by simp [State.ptmTrigger, hon, hbusy]
  obtain ⟨-, result⟩ := s.ptmEnd_shows (st := St.invalid) (by decide)
  refine ⟨_, exec_ptmTrigger hrun, ?_⟩
  rw [refused, State.rd_wr_same Nat.one_pos, State.rd_wr_shared rfl, State.wr_tev, State.ptmEnd_tev]
  exact ⟨rfl, result, counted_of_rd_after (State.rd_wr_shared rfl) (State.ptmEnd_counts (st := St.invalid)), rfl⟩

/-- The record of a dialogue that has been answered; the one before moves to PREV. -/
def State.keepRecord (s : State) (master pdelay : Nat) : State :=
  { s with tev := { s.tev with
      ptmPrev := s.tev.ptmCur.take 10
      ptmCur := s.tev.ptmT1 ++ s.ptmStamp (s.tev.ptmT1.getD 4 0 / 65536) ++ [master % 2 ^ 32, master / 2 ^ 32, pdelay]
      ptmT1 := [] } }

theorem ptmResponse_ends {master : BitVec 64} {pdelay : BitVec 32} (hrun : s.runs .time = true)
    (hbusy : s.isOn Reg.TEV_PTM_STATUS_BUSY = true) : ∃ t, exec (.ptmResponse master pdelay) s = .next t ∧
    t.rd Reg.TEV_PTM_STATUS_BUSY = 0 ∧ t.rd Reg.TEV_PTM_STATUS_RESULT = 0 ∧ Counted Reg.TEV_CNT_PTM_DIALOGUES 0 0 1 s t ∧
    t.tev.ptmPrev = s.tev.ptmCur.take 10 := by
  have answered : s.ptmResponse master.toNat pdelay.toNat = (s.keepRecord master.toNat pdelay.toNat).ptmEnd St.ok := by
    rw [State.ptmResponse, hbusy]
    rfl
  obtain ⟨busy, result⟩ := (s.keepRecord master.toNat pdelay.toNat).ptmEnd_shows (st := St.ok) (by decide)
  refine ⟨_, exec_ptmResponse hrun, ?_⟩
  rw [answered, State.ptmEnd_tev]
  exact ⟨busy, result, counted_of_rd_before (State.rd_set_tev ..) (State.ptmEnd_counts (st := St.ok)), rfl⟩

theorem ptmTimeout_ends (hrun : s.runs .time = true) (hbusy : s.isOn Reg.TEV_PTM_STATUS_BUSY = true) :
    ∃ t, exec .ptmTimeout s = .next t ∧ t.rd Reg.TEV_PTM_STATUS_BUSY = 0 ∧ t.rd Reg.TEV_PTM_STATUS_RESULT = 7 ∧
    Counted Reg.TEV_CNT_PTM_FAILED 0 0 1 s t := by
  obtain ⟨busy, result⟩ := s.ptmEnd_shows (st := St.timeout) (by decide)
  refine ⟨_, exec_ptmTimeout hrun, ?_⟩
  rw [State.ptmTimeout, if_pos hbusy]
  exact ⟨busy, result, State.ptmEnd_counts (st := St.timeout)⟩

end

/-- Settles O24: PPS_OUT by its guards, a capture by the room in its FIFO, after which only an event may follow, and a dialogue's end by the
counter of its status. -/
theorem pulsesCapturesAndPtm : Obligations.PulsesCapturesAndPtm := by
  unfold Obligations.PulsesCapturesAndPtm
  exact ⟨fun _ => ppsOutPulse_starts, fun _ => ppsOutPulse_stands, fun _ => ppsPulseEnd_ends, fun _ => ppsPulseEnd_stands,
    fun _ _ _ _ _ _ hrun hno hi hpin hen => tcapEdge_enters ⟨hrun, hno, hi, hpin, hen⟩,
    fun _ _ _ _ _ _ hrun hno hi hpin hen => tcapEdge_loses ⟨hrun, hno, hi, hpin, hen⟩,
    fun _ _ _ _ _ _ hrun hno hi hpin hen => tcapEdge_ignored ⟨hrun, hno, hi, hpin, hen⟩,
    fun _ _ => tcapHeadPop_takes, fun _ => ptmAutoTimer_starts, fun _ => ptmTrigger_starts, fun _ => ptmTrigger_off, fun _ => ptmTrigger_busy,
    fun _ _ _ => ptmResponse_ends, fun _ => ptmTimeout_ends⟩

end Sys2Proof.Machine

/-! SUPPORT. The shapers' refill and the scheduler's reset (06_upstream_scheduling.md, R151, R152, R155, R176). First what an access of an
agent comes to outside idle, and the queues and slots after an update. -/

namespace Sys2Proof.Machine

section
variable {s t : State} {ag : Agent} {R : Row} {f : State → State} {g : TxQ → TxQ} {h : SlotSt → SlotSt} {q k c v l i n : Nat}

/-! ### An access outside idle (R367) -/

theorem State.idleExit_awake (hawake : s.rd Reg.PWR_STATUS_STATE ≠ 1) : s.idleExit v = s := if_neg hawake

/-- An agent that reaches the registers, outside idle, meets the state as it stands. -/
theorem State.gated_awake (hreach : s.reach ag = true) (hawake : s.rd Reg.PWR_STATUS_STATE ≠ 1) : s.gated ag f = f s := by
  rw [State.gated, State.reg, if_pos hreach, State.idleExit_awake hawake, ite_self]

/-! ### Queues and slots after an update -/

theorem State.txq_of_host (hh : t.host = s.host) : t.txq q = s.txq q := by rw [State.txq, hh, State.txq]

theorem State.slotSt_of_slots (hs : t.slots = s.slots) : t.slotSt c = s.slotSt c := by rw [State.slotSt, hs, State.slotSt]

@[simp] theorem State.setTxq_txq : (s.setTxq q g).txq q = g (s.txq q) := Tab.get_put_self ..

theorem State.setTxq_txq_ne (hne : q ≠ k) : (s.setTxq k g).txq q = s.txq q := Tab.get_put_ne _ hne ..

@[simp] theorem State.setSlot_slotSt : (s.setSlot c h).slotSt c = h (s.slotSt c) := Tab.get_put_self ..

theorem State.setSlot_slotSt_ne (hne : c ≠ k) : (s.setSlot k h).slotSt c = s.slotSt c := Tab.get_put_ne _ hne ..

@[simp] theorem State.setSlot_txq : (s.setSlot c h).txq q = s.txq q := rfl

@[simp] theorem State.wr_txq : (s.wr R v l i).txq q = s.txq q := rfl

@[simp] theorem State.inc_txq : (s.inc R l i n).txq q = s.txq q := rfl

@[simp] theorem State.wrA_txq : (s.wrA ag R v l i).txq q = s.txq q := by
  unfold State.wrA
  split <;> rfl

/-! ### TOKEN_REFILL (R152) -/

/-- What a microsecond brings the buckets of a queue. -/
def TxQ.refilled (x : TxQ) : TxQ :=
  if !x.cfg.shapeEn then x else
  { x with b0 := x.b0.refill (rateOf x.cfg.rate0) x.cfg.size0,
           b1 := if x.cfg.mode = 2 then x.b1.refill (rateOf x.cfg.rate1) x.cfg.size1 else x.b1 }

/-- Every queue's buckets refilled. -/
def State.refillQueues (s : State) : State :=
  { s with host := { s.host with txq := Tab.mapv {} (fun _ (x : TxQ) => x.refilled) s.host.txq } }

/-- What a microsecond brings the buckets of a shaped container slot. -/
def State.slotRefilled (s : State) (c : Nat) (y : SlotSt) : SlotSt :=
  { y with b0 := y.b0.refill (rateOf (s.rd Reg.USCH_CT_RATE0 0 c)) (s.ctSize0 c),
           b1 := if s.rd Reg.USCH_CT_CTL_SMODE 0 c = 2 then y.b1.refill (rateOf (s.rd Reg.USCH_CT_RATE1 0 c)) (s.ctSize1 c) else y.b1 }

/-- One container slot's buckets refilled. -/
def State.refillSlot (s : State) (c : Nat) : State :=
  if !s.isOn Reg.USCH_CT_CTL_SHAPE_EN 0 c then s else s.setSlot c (s.slotRefilled c)

theorem State.refillAll_eq : s.refillAll = (List.range 128).foldl State.refillSlot s.refillQueues := rfl

theorem State.refillQueues_txq : s.refillQueues.txq q = (s.txq q).refilled :=
  Tab.get_mapv (d := ({} : TxQ)) (f := fun _ x => x.refilled) q rfl s.host.txq

theorem State.refillSlot_regs : (s.refillSlot c).regs = s.regs := by
  unfold State.refillSlot
  split <;> rfl

theorem State.refillSlot_host : (s.refillSlot c).host = s.host := by
  unfold State.refillSlot
  split <;> rfl

theorem State.refillSlot_same (hon : s.isOn Reg.USCH_CT_CTL_SHAPE_EN 0 c = true) :
    (s.refillSlot c).slotSt c = s.slotRefilled c (s.slotSt c) := by
  rw [State.refillSlot, hon, Bool.not_true, if_neg Bool.false_ne_true, State.setSlot_slotSt]

theorem State.refillSlot_ne (hne : c ≠ k) : (s.refillSlot k).slotSt c = s.slotSt c := by
  unfold State.refillSlot
  split
  · rfl
  · exact State.setSlot_slotSt_ne hne

theorem State.refillSlots_host {ks : List Nat} : (ks.foldl State.refillSlot s).host = s.host := by
  induction ks generalizing s with
  | nil => rfl
  | cons k r ih => exact ih.trans State.refillSlot_host

theorem State.refillSlots_notMem {ks : List Nat} (hc : c ∉ ks) : (ks.foldl State.refillSlot s).slotSt c = s.slotSt c := by
  induction ks generalizing s with
  | nil => rfl
  | cons k r ih =>
    rw [List.mem_cons, not_or] at hc
    exact (ih hc.2).trans (State.refillSlot_ne hc.1)

/-- What a slot gains and whether it is shaped rests on the register fields alone. -/
theorem State.slotRefilled_of_regs (hr : t.regs = s.regs) : t.slotRefilled c = s.slotRefilled c := by
  have other : t.slotRefilled c = State.slotRefilled { s with regs := t.regs } c := rfl
  rw [other, hr]

theorem State.isOn_of_regs (hr : t.regs = s.regs) : t.isOn R l i = s.isOn R l i := by rw [State.isOn, State.rd, hr, State.isOn, State.rd]

/-- A pass over different slots refills each of them once. -/
theorem State.refillSlots_mem {ks : List Nat} (hnd : ks.Nodup) (hc : c ∈ ks) (hon : s.isOn Reg.USCH_CT_CTL_SHAPE_EN 0 c = true) :
    (ks.foldl State.refillSlot s).slotSt c = s.slotRefilled c (s.slotSt c) := by
  induction ks generalizing s with
  | nil => exact absurd hc List.not_mem_nil
  | cons k r ih =>
    obtain ⟨hk, hnd'⟩ := List.nodup_cons.1 hnd
    rcases List.mem_cons.1 hc with rfl | hr
    · exact (State.refillSlots_notMem hk).trans (State.refillSlot_same hon)
    · have hne : c ≠ k := fun e => hk (e ▸ hr)
      rw [List.foldl_cons, ih hnd' hr ((State.isOn_of_regs State.refillSlot_regs).trans hon),
        State.slotRefilled_of_regs State.refillSlot_regs, State.refillSlot_ne hne]

theorem exec_tokenRefill (hrun : s.runs .core = true) : exec .tokenRefill s = .next s.refillAll := congrArg Host.Outcome.next (if_pos hrun)

theorem State.refillAll_txq : s.refillAll.txq q = (s.txq q).refilled := by
  rw [State.refillAll_eq, State.txq_of_host State.refillSlots_host, State.refillQueues_txq]

theorem TxQ.refilled_shaped {x : TxQ} (hen : x.cfg.shapeEn = true) : x.refilled =
    { x with b0 := x.b0.refill (rateOf x.cfg.rate0) x.cfg.size0,
             b1 := if x.cfg.mode = 2 then x.b1.refill (rateOf x.cfg.rate1) x.cfg.size1 else x.b1 } := by
  rw [TxQ.refilled, hen, Bool.not_true, if_neg Bool.false_ne_true]

theorem TxQ.refilled_unshaped {x : TxQ} (hen : x.cfg.shapeEn = false) : x.refilled = x := by
  rw [TxQ.refilled, hen, Bool.not_false, if_pos rfl]

theorem tokenRefill_queue (hrun : s.runs .core = true) (hen : (s.txq q).cfg.shapeEn = true) : ∃ t, exec .tokenRefill s = .next t ∧
    (t.txq q).b0 = (s.txq q).b0.refill (rateOf (s.txq q).cfg.rate0) (s.txq q).cfg.size0 ∧
    (t.txq q).b1 = (if (s.txq q).cfg.mode = 2 then (s.txq q).b1.refill (rateOf (s.txq q).cfg.rate1) (s.txq q).cfg.size1
      else (s.txq q).b1) ∧
    (t.txq q).cfg = (s.txq q).cfg ∧ (t.txq q).frames = (s.txq q).frames := by
  refine ⟨_, exec_tokenRefill hrun, ?_⟩
  rw [State.refillAll_txq, TxQ.refilled_shaped hen]
  exact ⟨rfl, rfl, rfl, rfl⟩

theorem tokenRefill_slot (hrun : s.runs .core = true) (hc : c < 128) (hon : s.isOn Reg.USCH_CT_CTL_SHAPE_EN 0 c = true) :
    ∃ t, exec .tokenRefill s = .next t ∧
    (t.slotSt c).b0 = (s.slotSt c).b0.refill (rateOf (s.rd Reg.USCH_CT_RATE0 0 c)) (s.ctSize0 c) ∧
    (t.slotSt c).b1 = (if s.rd Reg.USCH_CT_CTL_SMODE 0 c = 2 then (s.slotSt c).b1.refill (rateOf (s.rd Reg.USCH_CT_RATE1 0 c)) (s.ctSize1 c)
      else (s.slotSt c).b1) := by
  have refilled : s.refillAll.slotSt c = s.slotRefilled c (s.slotSt c) :=
    State.refillSlots_mem (s := s.refillQueues) List.nodup_range (List.mem_range.2 hc) hon
  refine ⟨_, exec_tokenRefill hrun, ?_⟩
  rw [refilled]
  exact ⟨rfl, rfl⟩

/-- A queue without a shaper keeps its buckets, whether or not the core runs. -/
theorem tokenRefill_unshaped (hen : (s.txq q).cfg.shapeEn = false) : ∃ t, exec .tokenRefill s = .next t ∧ t.txq q = s.txq q := by
  refine ⟨_, rfl, ?_⟩
  rw [State.inDom]
  split
  · rw [State.refillAll_txq, TxQ.refilled_unshaped hen]
  · rfl

/-! ### RESET_BUCKETS (R155) -/

theorem exec_resetBuckets (hreach : s.reach ag = true) (hawake : s.rd Reg.PWR_STATUS_STATE ≠ 1) :
    exec (.resetBuckets ag) s = .next (s.resetBuckets ag) := congrArg Host.Outcome.next (State.gated_awake hreach hawake)

theorem resetBuckets_fills (hreach : s.reach ag = true) (hawake : s.rd Reg.PWR_STATUS_STATE ≠ 1) :
    ∃ t, exec (.resetBuckets ag) s = .next t ∧ t.rdA ag Reg.USCH_QCMD_STATUS = 0 ∧ (t.txq (s.rdA ag Reg.USCH_QIDX)).credit = 0 ∧
    (t.txq (s.rdA ag Reg.USCH_QIDX)).b0 = (s.txq (s.rdA ag Reg.USCH_QIDX)).b0.full (s.txq (s.rdA ag Reg.USCH_QIDX)).cfg.size0 ∧
    (t.txq (s.rdA ag Reg.USCH_QIDX)).b1 = (if (s.txq (s.rdA ag Reg.USCH_QIDX)).cfg.mode = 2
      then (s.txq (s.rdA ag Reg.USCH_QIDX)).b1.full (s.txq (s.rdA ag Reg.USCH_QIDX)).cfg.size1
      else (s.txq (s.rdA ag Reg.USCH_QIDX)).b1) := by
  refine ⟨_, exec_resetBuckets hreach hawake, State.rdA_wrA_same Nat.one_pos, ?_⟩
  rw [State.resetBuckets, State.wrA_txq, State.setTxq_txq]
  exact ⟨rfl, rfl, rfl⟩

/-! ### USCH_RESET (R158, R176) -/

theorem State.setTxq_credit (hg : ∀ x : TxQ, x.credit = 0 → (g x).credit = 0) (h0 : (s.txq q).credit = 0) :
    ((s.setTxq k g).txq q).credit = 0 := by
  by_cases hq : q = k
  · subst hq
    rw [State.setTxq_txq]
    exact hg _ h0
  · rwa [State.setTxq_txq_ne hq]

theorem State.newHead_credit (h0 : (s.txq q).credit = 0) : ((s.newHead k).txq q).credit = 0 := by
  unfold State.newHead
  split
  · exact h0
  · extract_lets x
    split
    · exact h0
    · exact State.setTxq_credit (fun _ hx => hx) h0

/-- An entry to VTIME leaves no queue more credit than 0. -/
theorem State.enterVtime_credit (h0 : (s.txq q).credit = 0) : ((s.enterVtime c).txq q).credit = 0 := by
  unfold State.enterVtime
  extract_lets qs s₁ s₂ s₃
  have cleared : (s₂.txq q).credit = 0 :=
    List.foldlRecOn qs _ (motive := fun x : State => (x.txq q).credit = 0) h0 fun _ hx _ _ =>
      State.setTxq_credit (fun x e => by rw [e]; rfl) hx
  exact List.foldlRecOn qs _ (motive := fun x : State => (x.txq q).credit = 0) cleared fun _ hx _ _ => State.newHead_credit hx

/-- A slot's automatic fall-back begins. -/
def State.beginFallback (s : State) (c : Nat) : State :=
  ((s.setSlot c fun y => { y with fb := 3 }).wr Reg.USCH_CT_STATUS_FB_AUTO 1 0 c).enterVtime c

theorem State.fallback_eq {cs : List Nat} : s.fallback cs = cs.foldl State.beginFallback (s.inc Reg.USCH_CNT_FB_ENTRIES) := rfl

theorem State.fallback_credit {cs : List Nat} (h0 : (s.txq q).credit = 0) : ((s.fallback cs).txq q).credit = 0 :=
  List.foldlRecOn cs State.beginFallback (motive := fun x : State => (x.txq q).credit = 0) h0 fun _ hx _ _ => State.enterVtime_credit hx

theorem State.beginFallback_entries : (s.beginFallback c).rd Reg.USCH_CNT_FB_ENTRIES = s.rd Reg.USCH_CNT_FB_ENTRIES := by
  rw [State.beginFallback, (State.enterVtime_foot ..).rd_keeps rfl, State.rd_wr_shared rfl]
  rfl

/-- A fall-back is one entry, however many slots it takes. -/
theorem State.fallback_counts {cs : List Nat} : Counted Reg.USCH_CNT_FB_ENTRIES 0 0 1 s (s.fallback cs) :=
  counted_of_rd_after (State.rd_foldl fun _ _ => State.beginFallback_entries) (counted_inc Nat.one_pos)

/-- What a reset leaves of a queue: its buckets full where it is shaped, no credit and no tags. -/
def TxQ.restarted (x : TxQ) : TxQ :=
  { x with credit := 0, s := 0, f := 0, fLast := 0,
           b0 := if x.cfg.shapeEn then x.b0.full x.cfg.size0 else x.b0,
           b1 := if x.cfg.shapeEn && x.cfg.mode == 2 then x.b1.full x.cfg.size1 else x.b1 }

def State.restartQueues (s : State) : State :=
  { s with host := { s.host with txq := Tab.mapv {} (fun _ (x : TxQ) => x.restarted) s.host.txq } }

/-- What a reset leaves of a container slot: its virtual time at 0, its buckets full where it is shaped. -/
def State.restartSlot (s : State) (c : Nat) : State :=
  let s := s.setSlot c fun y => { y with v := 0 }
  if !s.isOn Reg.USCH_CT_CTL_SHAPE_EN 0 c then s else
  s.setSlot c fun y => { y with b0 := y.b0.full (s.ctSize0 c),
                                b1 := if s.rd Reg.USCH_CT_CTL_SMODE 0 c = 2 then y.b1.full (s.ctSize1 c) else y.b1 }

/-- The scheduler with its bursts unwound and its queues and slots restarted. -/
def State.restartAll (s : State) : State := (List.range 128).foldl State.restartSlot ((s.unwindAll .a 6).unwindAll .b 6).restartQueues

theorem State.schedReset_eq : s.schedReset = s.restartAll.fallback (List.range 128) := rfl

theorem State.restartQueues_txq : s.restartQueues.txq q = (s.txq q).restarted :=
  Tab.get_mapv (d := ({} : TxQ)) (f := fun _ x => x.restarted) q rfl s.host.txq

theorem State.restartSlot_keeps : (s.restartSlot c).host = s.host ∧ (s.restartSlot c).regs = s.regs := by
  unfold State.restartSlot
  extract_lets s₁
  split <;> exact ⟨rfl, rfl⟩

theorem State.restartSlot_rd : (s.restartSlot c).rd R l i = s.rd R l i := by rw [State.rd, State.restartSlot_keeps.2, State.rd]

theorem State.restartAll_credit : (s.restartAll.txq q).credit = 0 :=
  List.foldlRecOn _ State.restartSlot (motive := fun x : State => (x.txq q).credit = 0)
    (by rw [State.restartQueues_txq]; rfl)
    fun _ hx _ _ => by rwa [State.txq_of_host State.restartSlot_keeps.1]

theorem State.restartAll_entries : s.restartAll.rd Reg.USCH_CNT_FB_ENTRIES = s.rd Reg.USCH_CNT_FB_ENTRIES :=
  calc s.restartAll.rd Reg.USCH_CNT_FB_ENTRIES
    _ = ((s.unwindAll .a 6).unwindAll .b 6).restartQueues.rd Reg.USCH_CNT_FB_ENTRIES := State.rd_foldl fun _ _ => State.restartSlot_rd
    _ = ((s.unwindAll .a 6).unwindAll .b 6).rd Reg.USCH_CNT_FB_ENTRIES := rfl
    _ = s.rd Reg.USCH_CNT_FB_ENTRIES := by rw [(State.unwindAll_foot ..).rd_keeps rfl, (State.unwindAll_foot ..).rd_keeps rfl]

theorem exec_uschReset (hreach : s.reach ag = true) (hawake : s.rd Reg.PWR_STATUS_STATE ≠ 1) :
    exec (.uschReset ag) s = .next s.uschReset := congrArg Host.Outcome.next (State.gated_awake hreach hawake)

theorem uschReset_starts (hreach : s.reach ag = true) (hawake : s.rd Reg.PWR_STATUS_STATE ≠ 1)
    (hfree : s.isOn Reg.USCH_STATUS_RESET_BUSY = false) : ∃ t, exec (.uschReset ag) s = .next t ∧
    t.rd Reg.USCH_STATUS_RESET_BUSY = 1 ∧ (t.txq q).credit = 0 ∧ Counted Reg.USCH_CNT_FB_ENTRIES 0 0 1 s t := by
  refine ⟨_, exec_uschReset hreach hawake, ?_⟩
  rw [State.uschReset, hfree, if_neg Bool.false_ne_true, State.schedReset_eq, State.wr_txq]
  exact ⟨State.rd_wr_same Nat.one_pos, State.fallback_credit State.restartAll_credit,
    counted_of_rd_after (State.rd_wr_shared rfl) (counted_of_rd_before State.restartAll_entries State.fallback_counts)⟩

theorem uschReset_busy (hreach : s.reach ag = true) (hawake : s.rd Reg.PWR_STATUS_STATE ≠ 1)
    (hbusy : s.isOn Reg.USCH_STATUS_RESET_BUSY = true) : exec (.uschReset ag) s = .next s :=
  (exec_uschReset hreach hawake).trans (congrArg Host.Outcome.next (if_pos hbusy))

end

/-- Settles O16: refill slot by slot over different slots, RESET_BUCKETS by its update of the queue selected, and USCH_RESET by what restarts
the queues, after which a fall-back gives no credit back. -/
theorem shapersRefillAndReset : Obligations.ShapersRefillAndReset := by
  unfold Obligations.ShapersRefillAndReset
  exact ⟨fun _ _ => tokenRefill_queue, fun _ _ => tokenRefill_slot, fun _ _ => tokenRefill_unshaped, fun _ _ => resetBuckets_fills,
    fun _ _ _ => uschReset_starts, fun _ _ => uschReset_busy, fun _ => rfl⟩

end Sys2Proof.Machine

/-! SUPPORT. The queue table, container slots, the end of a fall-back and the audit's snapshot (06_upstream_scheduling.md, R147, R150, R151,
R155, R158, R173, R175). -/

namespace Sys2Proof.Machine

section
variable {s t : State} {ag : Agent} {R : Row} {c q i v : Nat} {w : BitVec 32}

/-! ### QUEUE_WRITE and QUEUE_READ (R151, R155) -/

/-- The configuration that an agent's words spell; MODE 3 acts as 0. -/
def State.spelled (s : State) (ag : Agent) : QCfg :=
  ⟨if s.rdA ag Reg.USCH_QDATA0_MODE = 3 then 0 else s.rdA ag Reg.USCH_QDATA0_MODE, decide (s.rdA ag Reg.USCH_QDATA0_SHAPE_EN ≠ 0),
    s.rdA ag Reg.USCH_QDATA0_OVH, s.rdA ag Reg.USCH_QDATA0_WEIGHT, s.rdA ag Reg.USCH_QDATA1_RATE0, s.rdA ag Reg.USCH_QDATA2_BURST0,
    s.rdA ag Reg.USCH_QDATA3_RATE1, s.rdA ag Reg.USCH_QDATA4_BURST1⟩

/-- The queue that an agent has selected. -/
def State.queueSelected (s : State) (ag : Agent) : TxQ := s.txq (s.rdA ag Reg.USCH_QIDX)

theorem State.queueWrite_eq : s.queueWrite ag =
    if (s.spelled ag).mode ≠ (s.queueSelected ag).cfg.mode ∧ ((s.queueSelected ag).b0.resv ≠ 0 ∨ (s.queueSelected ag).b1.resv ≠ 0)
    then s.wrA ag Reg.USCH_QCMD_STATUS St.busy
    else (s.setTxq (s.rdA ag Reg.USCH_QIDX) fun x => x.reconf (s.spelled ag)).wrA ag Reg.USCH_QCMD_STATUS St.ok := rfl

theorem exec_queueWrite (hreach : s.reach ag = true) (hawake : s.rd Reg.PWR_STATUS_STATE ≠ 1) :
    exec (.queueWrite ag) s = .next (s.queueWrite ag) := congrArg Host.Outcome.next (State.gated_awake hreach hawake)

theorem queueWrite_takes (hreach : s.reach ag = true) (hawake : s.rd Reg.PWR_STATUS_STATE ≠ 1)
    (hmode : (s.spelled ag).mode = (s.queueSelected ag).cfg.mode ∨ ((s.queueSelected ag).b0.resv = 0 ∧ (s.queueSelected ag).b1.resv = 0)) :
    ∃ t, exec (.queueWrite ag) s = .next t ∧ t.rdA ag Reg.USCH_QCMD_STATUS = 0 ∧
    t.txq (s.rdA ag Reg.USCH_QIDX) = (s.queueSelected ag).reconf (s.spelled ag) := by
  refine ⟨_, exec_queueWrite hreach hawake, ?_⟩
  rw [State.queueWrite_eq, if_neg (by tauto), State.wrA_txq, State.setTxq_txq]
  exact ⟨State.rdA_wrA_same Nat.one_pos, rfl⟩

theorem queueWrite_busy (hreach : s.reach ag = true) (hawake : s.rd Reg.PWR_STATUS_STATE ≠ 1)
    (hresv : (s.queueSelected ag).b0.resv ≠ 0 ∨ (s.queueSelected ag).b1.resv ≠ 0)
    (hmode : (s.spelled ag).mode ≠ (s.queueSelected ag).cfg.mode) : ∃ t, exec (.queueWrite ag) s = .next t ∧ t.rdA ag Reg.USCH_QCMD_STATUS = 1 ∧
    t.txq (s.rdA ag Reg.USCH_QIDX) = s.txq (s.rdA ag Reg.USCH_QIDX) := by
  refine ⟨_, exec_queueWrite hreach hawake, ?_⟩
  rw [State.queueWrite_eq, if_pos ⟨hmode, hresv⟩, State.wrA_txq]
  exact ⟨State.rdA_wrA_same Nat.one_pos, rfl⟩

theorem exec_queueRead (hreach : s.reach ag = true) (hawake : s.rd Reg.PWR_STATUS_STATE ≠ 1) :
    exec (.queueRead ag) s = .next (s.queueRead ag) := congrArg Host.Outcome.next (State.gated_awake hreach hawake)

/-- The agent's words are different registers, so each holds what was put into it. -/
theorem queueRead_shows (hreach : s.reach ag = true) (hawake : s.rd Reg.PWR_STATUS_STATE ≠ 1) :
    ∃ t, exec (.queueRead ag) s = .next t ∧ t.rdA ag Reg.USCH_QCMD_STATUS = 0 ∧
    t.rdA ag Reg.USCH_QDATA0_MODE = (s.queueSelected ag).cfg.mode % 2 ^ Reg.USCH_QDATA0_MODE.width ∧
    t.rdA ag Reg.USCH_QDATA0_SHAPE_EN = b2n (s.queueSelected ag).cfg.shapeEn % 2 ^ Reg.USCH_QDATA0_SHAPE_EN.width ∧
    t.rdA ag Reg.USCH_QDATA0_OVH = (s.queueSelected ag).cfg.ovh % 2 ^ Reg.USCH_QDATA0_OVH.width ∧
    t.rdA ag Reg.USCH_QDATA0_WEIGHT = (s.queueSelected ag).cfg.weight % 2 ^ Reg.USCH_QDATA0_WEIGHT.width ∧
    t.rdA ag Reg.USCH_QDATA1_RATE0 = (s.queueSelected ag).cfg.rate0 % 2 ^ Reg.USCH_QDATA1_RATE0.width ∧
    t.rdA ag Reg.USCH_QDATA2_BURST0 = (s.queueSelected ag).cfg.burst0 % 2 ^ Reg.USCH_QDATA2_BURST0.width ∧
    t.rdA ag Reg.USCH_QDATA3_RATE1 = (s.queueSelected ag).cfg.rate1 % 2 ^ Reg.USCH_QDATA3_RATE1.width ∧
    t.rdA ag Reg.USCH_QDATA4_BURST1 = (s.queueSelected ag).cfg.burst1 % 2 ^ Reg.USCH_QDATA4_BURST1.width ∧
    t.rdA ag Reg.USCH_QDATA5_LEVEL0 = (s.queueSelected ag).b0.level / 500 % 2 ^ Reg.USCH_QDATA5_LEVEL0.width ∧
    t.rdA ag Reg.USCH_QDATA6_LEVEL1 = (s.queueSelected ag).b1.level / 500 % 2 ^ Reg.USCH_QDATA6_LEVEL1.width ∧
    t.rdA ag Reg.USCH_QDATA7_RESV0 = (s.queueSelected ag).b0.resv / 500 % 2 ^ Reg.USCH_QDATA7_RESV0.width ∧
    t.rdA ag Reg.USCH_QDATA8_CREDIT = unsigned 32 (s.queueSelected ag).credit % 2 ^ Reg.USCH_QDATA8_CREDIT.width ∧
    t.rdA ag Reg.USCH_QDATA9_HEAD = b2n (s.queueSelected ag).head.isSome % 2 ^ Reg.USCH_QDATA9_HEAD.width ∧
    t.rdA ag Reg.USCH_QDATA9_BLOCK = s.blockOf (s.rdA ag Reg.USCH_QIDX) % 2 ^ Reg.USCH_QDATA9_BLOCK.width := by
  refine ⟨_, exec_queueRead hreach hawake, State.rdA_wrA_same Nat.one_pos, ?_⟩
  unfold State.queueRead
  simp (disch := decide) only [State.rdA_wrA_key, State.rdA_wrA_same, State.queueSelected, and_self]

/-! ### Container slots (R147, R155) -/

theorem bit_mod_two {x : Nat} : bit x i % 2 = bit x i := Nat.mod_mod ..

theorem bits_mod_width {x hi lo : Nat} : bits x hi lo % 2 ^ (hi + 1 - lo) = bits x hi lo := Nat.mod_mod ..

theorem exec_containerSlotWrite {off : Nat} (hreach : s.reach ag = true) (hawake : s.rd Reg.PWR_STATUS_STATE ≠ 1) :
    exec (.containerSlotWrite ag c off w) s = .next (s.slotWrite c off w.toNat) :=
  congrArg Host.Outcome.next (State.gated_awake hreach hawake)

theorem State.slotWrite_rate0 (hc : c < 128) : s.slotWrite c 4 v = s.wr Reg.USCH_CT_RATE0 v 0 c := if_neg (Nat.not_le.2 hc)

theorem containerSlotWrite_rate0 {off : Nat} (hreach : s.reach ag = true) (hawake : s.rd Reg.PWR_STATUS_STATE ≠ 1) (hc : c < 128)
    (hoff : off = 4) : ∃ t, exec (.containerSlotWrite ag c off w) s = .next t ∧
    t.rd Reg.USCH_CT_RATE0 0 c = w.toNat % 2 ^ Reg.USCH_CT_RATE0.width ∧ t.slots = s.slots := by
  subst hoff
  refine ⟨_, exec_containerSlotWrite hreach hawake, ?_⟩
  rw [State.slotWrite_rate0 hc]
  exact ⟨State.rd_wr_same hc, rfl⟩

/-- The fields of a slot's first word, taken from it. -/
def State.takeCtl (s : State) (c v : Nat) : State :=
  ((((s.wr Reg.USCH_CT_CTL_DISC (bit v 0) 0 c).wr Reg.USCH_CT_CTL_SHAPE_EN (bit v 1) 0 c).wr Reg.USCH_CT_CTL_SMODE
    (bits v 3 2) 0 c).wr Reg.USCH_CT_CTL_OVH (bits v 11 4) 0 c).wr Reg.USCH_CT_CTL_OWNER (bits v 23 16) 0 c

/-- The buckets of a slot whose first word has been written: full where its shaper has started, else trimmed. -/
def State.settleSlotBuckets (s : State) (c v : Nat) (was : Bool) : State :=
  if bit v 1 = 1 && !was then
    s.setSlot c fun y => { y with b0 := y.b0.full (s.ctSize0 c),
                                  b1 := if s.rd Reg.USCH_CT_CTL_SMODE 0 c = 2 then y.b1.full (s.ctSize1 c) else y.b1 }
  else s.setSlot c fun y => { y with b0 := y.b0.trim (s.ctSize0 c), b1 := y.b1.trim (s.ctSize1 c) }

/-- The discipline of a slot whose first word has been written: VTIME entered, or FB shown. -/
def State.settleDiscipline (s : State) (c : Nat) (was : Bool) : State :=
  if s.inVtime c && !was then s.enterVtime c else s.wr Reg.USCH_CT_STATUS_FB (b2n (s.inVtime c)) 0 c

theorem State.slotWrite_ctl (hc : c < 128) (hown : s.ownerRefused c (bits v 23 16) = none) : s.slotWrite c 0 v =
    ((s.takeCtl c v).settleSlotBuckets c v (s.isOn Reg.USCH_CT_CTL_SHAPE_EN 0 c)).settleDiscipline c (s.inVtime c) := by
  unfold State.slotWrite
  rw [if_neg (Nat.not_le.2 hc), hown]
  rfl

theorem State.slotWrite_refused (hc : c < 128) (hown : s.ownerRefused c (bits v 23 16) = some R) : s.slotWrite c 0 v = s.wr R 1 := by
  unfold State.slotWrite
  rw [if_neg (Nat.not_le.2 hc), hown]
  rfl

theorem State.settleSlotBuckets_foot {was : Bool} : Foot fp22 s (s.settleSlotBuckets c v was) :=
  .ite (State.setSlot_foot ..) (State.setSlot_foot ..)

theorem State.settleDiscipline_foot {was : Bool} : Foot fp24 s (s.settleDiscipline c was) :=
  .ite (State.enterVtime_foot ..) (.wr rfl (Or.inr rfl) .refl)

/-- Past the fields taken, a write of the first word touches buckets, credits and FB alone. -/
theorem State.slotWrite_ctl_foot (hc : c < 128) (hown : s.ownerRefused c (bits v 23 16) = none) :
    Foot fp24 (s.takeCtl c v) (s.slotWrite c 0 v) := by
  rw [State.slotWrite_ctl hc hown]
  exact .step State.settleDiscipline_foot rfl (State.settleSlotBuckets_foot.mono rfl)

theorem State.takeCtl_shows (hc : c < 128) : (s.takeCtl c v).rd Reg.USCH_CT_CTL_DISC 0 c = bit v 0 ∧
    (s.takeCtl c v).rd Reg.USCH_CT_CTL_SHAPE_EN 0 c = bit v 1 ∧ (s.takeCtl c v).rd Reg.USCH_CT_CTL_SMODE 0 c = bits v 3 2 ∧
    (s.takeCtl c v).rd Reg.USCH_CT_CTL_OVH 0 c = bits v 11 4 ∧ (s.takeCtl c v).rd Reg.USCH_CT_CTL_OWNER 0 c = bits v 23 16 := by
  unfold State.takeCtl
  refine ⟨?_, ?_, ?_, ?_, ?_⟩
  · rw [State.rd_wr_shared rfl, State.rd_wr_shared rfl, State.rd_wr_shared rfl, State.rd_wr_shared rfl, State.rd_wr_same hc]
    exact bit_mod_two
  · rw [State.rd_wr_shared rfl, State.rd_wr_shared rfl, State.rd_wr_shared rfl, State.rd_wr_same hc]
    exact bit_mod_two
  · rw [State.rd_wr_shared rfl, State.rd_wr_shared rfl, State.rd_wr_same hc]
    exact bits_mod_width
  · rw [State.rd_wr_shared rfl, State.rd_wr_same hc]
    exact bits_mod_width
  · rw [State.rd_wr_same hc]
    exact bits_mod_width

theorem containerSlotWrite_ctl {off : Nat} (hreach : s.reach ag = true) (hawake : s.rd Reg.PWR_STATUS_STATE ≠ 1) (hc : c < 128)
    (hoff : off = 0) (hown : s.ownerRefused c (bits w.toNat 23 16) = none) : ∃ t, exec (.containerSlotWrite ag c off w) s = .next t ∧
    t.rd Reg.USCH_CT_CTL_DISC 0 c = bit w.toNat 0 ∧ t.rd Reg.USCH_CT_CTL_SHAPE_EN 0 c = bit w.toNat 1 ∧
    t.rd Reg.USCH_CT_CTL_SMODE 0 c = bits w.toNat 3 2 ∧ t.rd Reg.USCH_CT_CTL_OVH 0 c = bits w.toNat 11 4 ∧
    t.rd Reg.USCH_CT_CTL_OWNER 0 c = bits w.toNat 23 16 := by
  subst hoff
  have foot := State.slotWrite_ctl_foot hc hown
  refine ⟨_, exec_containerSlotWrite hreach hawake, ?_⟩
  rw [foot.rd_at rfl, foot.rd_at rfl, foot.rd_at rfl, foot.rd_at rfl, foot.rd_at rfl]
  exact State.takeCtl_shows hc

theorem containerSlotWrite_refused {off : Nat} (hreach : s.reach ag = true) (hawake : s.rd Reg.PWR_STATUS_STATE ≠ 1) (hc : c < 128)
    (hoff : off = 0) (hown : s.ownerRefused c (bits w.toNat 23 16) = some R) :
    exec (.containerSlotWrite ag c off w) s = .next (s.wr R 1) := by
  subst hoff
  rw [exec_containerSlotWrite hreach hawake, State.slotWrite_refused hc hown]

/-! ### The audit's snapshot (R173, R175) -/

/-- The slot and bucket that a snapshot is taken of. -/
def State.selectAudit (s : State) (v : Nat) : State :=
  ((s.wr Reg.USCH_AUD_CTL_SLOT (bits v 14 8)).wr Reg.USCH_AUD_CTL_BUCKET (bits v 29 16)).wr Reg.USCH_AUD_CTL_B1 (bit v 30)

theorem State.uschSnap_latches (hsnap : bit v 0 = 1) : s.uschSnap v = (s.selectAudit v).auditLatch.inc Reg.USCH_AUD_STATUS_SNAP_SEQ :=
  if_pos hsnap

theorem State.auditLatch_cells : s.auditLatch.rd Reg.USCH_AUD_CELL_FREE = s.led.cellFree % 2 ^ Reg.USCH_AUD_CELL_FREE.width ∧
    s.auditLatch.rd Reg.USCH_AUD_CELL_RESERVED = s.cellsIn false % 2 ^ Reg.USCH_AUD_CELL_RESERVED.width ∧
    s.auditLatch.rd Reg.USCH_AUD_CELL_COMMITTED = s.cellsIn true % 2 ^ Reg.USCH_AUD_CELL_COMMITTED.width := by
  unfold State.auditLatch
  extract_lets b d e put
  simp only [List.foldl_cons, List.foldl_nil, put]
  simp (disch := decide) only [State.rd_wr_key, State.rd_wr_same, e, and_self]

theorem State.auditLatch_slot : s.auditLatch.rd Reg.USCH_AUD_CTL_SLOT = s.rd Reg.USCH_AUD_CTL_SLOT := by
  unfold State.auditLatch
  extract_lets b d e put
  simp only [List.foldl_cons, List.foldl_nil, put]
  simp (disch := decide) only [State.rd_wr_key]

theorem exec_uschAuditSnap (hreach : s.reach ag = true) (hawake : s.rd Reg.PWR_STATUS_STATE ≠ 1) :
    exec (.uschAuditSnap ag w) s = .next (s.uschSnap w.toNat) := congrArg Host.Outcome.next (State.gated_awake hreach hawake)

theorem uschAuditSnap_latches (hreach : s.reach ag = true) (hawake : s.rd Reg.PWR_STATUS_STATE ≠ 1) (hsnap : bit w.toNat 0 = 1) :
    ∃ t, exec (.uschAuditSnap ag w) s = .next t ∧ t.rd Reg.USCH_AUD_CTL_SLOT = bits w.toNat 14 8 ∧
    t.rd Reg.USCH_AUD_CTL_BUCKET = bits w.toNat 29 16 ∧ Counted Reg.USCH_AUD_STATUS_SNAP_SEQ 0 0 1 s t ∧
    t.rd Reg.USCH_AUD_CELL_FREE = s.led.cellFree % 2 ^ Reg.USCH_AUD_CELL_FREE.width ∧
    t.rd Reg.USCH_AUD_CELL_RESERVED = s.cellsIn false % 2 ^ Reg.USCH_AUD_CELL_RESERVED.width ∧
    t.rd Reg.USCH_AUD_CELL_COMMITTED = s.cellsIn true % 2 ^ Reg.USCH_AUD_CELL_COMMITTED.width := by
  have foot := State.auditLatch_foot (s.selectAudit w.toNat)
  have seq : (s.selectAudit w.toNat).auditLatch.rd Reg.USCH_AUD_STATUS_SNAP_SEQ = s.rd Reg.USCH_AUD_STATUS_SNAP_SEQ := by
    rw [foot.rd_keeps rfl, State.selectAudit, State.rd_wr_shared rfl, State.rd_wr_shared rfl, State.rd_wr_shared rfl]
  refine ⟨_, exec_uschAuditSnap hreach hawake, ?_⟩
  rw [State.uschSnap_latches hsnap]
  refine ⟨?_, ?_, counted_of_rd_before seq (counted_inc Nat.one_pos), ?_⟩
  · rw [State.rd_inc_shared rfl, State.auditLatch_slot, State.selectAudit, State.rd_wr_shared rfl, State.rd_wr_shared rfl,
      State.rd_wr_same Nat.one_pos]
    exact bits_mod_width
  · rw [State.rd_inc_shared rfl, foot.rd_keeps rfl, State.selectAudit, State.rd_wr_shared rfl, State.rd_wr_same Nat.one_pos]
    exact bits_mod_width
  · rw [State.rd_inc_shared rfl, State.rd_inc_shared rfl, State.rd_inc_shared rfl]
    exact State.auditLatch_cells

/-! ### FALLBACK_END (R158) -/

theorem fallbackEnd_ends (hc : c < 128) (hfb : (s.slotSt c).fb = 1) : ∃ t, exec (.fallbackEnd c) s = .next t ∧
    t.rd Reg.USCH_CT_STATUS_FB_AUTO 0 c = 0 ∧
    t.rd Reg.USCH_CT_STATUS_FB 0 c = s.rd Reg.USCH_CT_CTL_DISC 0 c % 2 ^ Reg.USCH_CT_STATUS_FB.width ∧ (t.slotSt c).fb = 0 := by
  refine ⟨s.fallbackEnd c, rfl, ?_⟩
  rw [State.fallbackEnd, if_neg (not_not.2 hfb)]
  refine ⟨?_, ?_, ?_⟩
  · rw [State.rd_wr_shared rfl, State.rd_wr_same hc]
    rfl
  · rw [State.rd_wr_same hc, State.rd_wr_shared rfl]
    rfl
  · rw [State.slotSt_of_slots (State.wr_slots ..), State.slotSt_of_slots (State.wr_slots ..), State.setSlot_slotSt]

theorem fallbackEnd_stands (hfb : (s.slotSt c).fb ≠ 1) : exec (.fallbackEnd c) s = .next s := congrArg Host.Outcome.next (if_pos hfb)

end

/-- Settles O17: the queue's words and the slot's fields are different registers, each of which holds what was put into it, and what a write
of the first word does after it has taken them touches none of them. -/
theorem queueAndContainerTablesAreWritten : Obligations.QueueAndContainerTablesAreWritten := by
  unfold Obligations.QueueAndContainerTablesAreWritten
  exact ⟨fun _ _ => queueWrite_takes, fun _ _ => queueWrite_busy, fun _ _ => queueRead_shows, fun _ _ _ _ _ => containerSlotWrite_rate0,
    fun _ _ _ _ _ => containerSlotWrite_ctl, fun _ _ _ _ _ _ => containerSlotWrite_refused, fun _ _ _ => uschAuditSnap_latches,
    fun _ _ => fallbackEnd_ends, fun _ _ => fallbackEnd_stands⟩

end Sys2Proof.Machine

/-! SUPPORT. The burst of the next grant, and the deadline that cuts a burst short (06_upstream_scheduling.md, R161, R163 to R165, R167,
R169). -/

namespace Sys2Proof.Machine

section
variable {s t : State} {l : Leg} {a : Alloc} {b : Burst} {u c start finished cause : Nat} {mem : List (Nat × List Byte)}
  {failed : List (Nat × ReadFault)} {ecc : List Nat}

/-! ### BURST_BUILD (R163, R164) -/

/-- A built burst is held, after the others, and counted. -/
def State.hold (s : State) (b : Burst) : State := State.inc { s with bursts := s.bursts ++ [b] } Reg.USCH_CNT_BURSTS_BUILT

/-- What the choice and the encoding of a burst's frames can change: neither the bursts held nor their count. -/
def fpBuilding : Nat := fp4 ||| fp26 ||| fp33 ||| fp34 ||| fp35 ||| fp36

theorem State.hold_counts : Counted Reg.USCH_CNT_BURSTS_BUILT 0 0 1 s (s.hold b) :=
  counted_of_rd_before (State.rd_set_bursts ..) (counted_inc Nat.one_pos)

/-- A slot whose build found no frame to place, though some wait. -/
def State.reportStarved (s : State) (c : Nat) : State :=
  ((s.wr Reg.USCH_CT_STATUS_STARVED 1 0 c).inc Reg.USCH_SCNT_STARVED 0 c).slotEvent c 1 0

/-- The bursts held and their count are the same. -/
def State.sameBuilt (s t : State) : Prop := t.bursts = s.bursts ∧ t.rd Reg.USCH_CNT_BURSTS_BUILT = s.rd Reg.USCH_CNT_BURSTS_BUILT

theorem State.reportStarved_sameBuilt : s.sameBuilt (s.reportStarved c) := by
  refine ⟨(State.slotEvent_foot ..).bursts rfl, ?_⟩
  rw [State.reportStarved, (State.slotEvent_foot ..).rd_keeps rfl, State.rd_inc_shared rfl, State.rd_wr_shared rfl]

/-- A build chooses and encodes frames, holds the burst, and reports its slot where it starved. -/
theorem State.build_holds : ∃ (x : State) (b : Burst), (b.leg, b.alloc) = (l, a) ∧ Foot fpBuilding s x ∧
    (x.hold b).sameBuilt (s.build l a mem failed ecc) := by
  unfold State.build
  extract_lets snap off enc keyOk fuel cleared
  have hcleared : Foot fpBuilding s cleared := (State.clearBlocks_foot ..).mono rfl
  split
  next ps chosen hps =>
  have hchosen : Foot fpBuilding s chosen := by
    refine .ofPair hps ?_
    split
    · exact .step (State.selectFrames_foot ..) rfl hcleared
    · exact .step (State.noteBlocks_foot ..) rfl (.step (State.denyFrames_foot ..) rfl hcleared)
  split
  next ps' encoded henc =>
  have hencoded : Foot fpBuilding s encoded := .step (.ofPair henc (State.encodeFrames_foot ..)) rfl hchosen
  split
  next msg taken hmsg =>
  have htaken : Foot fpBuilding s taken := .ofPair hmsg (.ite2 (.step (State.takeMsg_foot ..) rfl hencoded) hencoded)
  extract_lets built held
  refine ⟨taken, built, rfl, htaken, ?_⟩
  split
  · exact State.reportStarved_sameBuilt
  · exact ⟨rfl, rfl⟩

theorem exec_burstBuild (hrun : s.runs .core = true) (hnext : s.nextBuild l u start = some a) :
    exec (.burstBuild l u start mem failed ecc) s = .next (s.build l a mem failed ecc) := by
  refine congrArg Host.Outcome.next ((if_pos hrun).trans ?_)
  simp only [hnext]

theorem burstBuild_stands (hnext : s.nextBuild l u start = none) : exec (.burstBuild l u start mem failed ecc) s = .next s := by
  refine congrArg Host.Outcome.next (State.inDom_still ?_)
  rw [hnext]

theorem burstBuild_holds (hrun : s.runs .core = true) (hnext : s.nextBuild l u start = some a) :
    ∃ t, exec (.burstBuild l u start mem failed ecc) s = .next t ∧ Counted Reg.USCH_CNT_BURSTS_BUILT 0 0 1 s t ∧
    t.bursts.map (fun b => (b.leg, b.alloc)) = s.bursts.map (fun b => (b.leg, b.alloc)) ++ [(l, a)] := by
  obtain ⟨x, b, hb, before, sameBursts, sameCount⟩ := State.build_holds (s := s) (l := l) (a := a) (mem := mem) (failed := failed) (ecc := ecc)
  have held : (x.hold b).bursts = s.bursts ++ [b] := by rw [State.hold, State.inc_bursts, before.bursts rfl]
  refine ⟨_, exec_burstBuild hrun hnext, ?_, ?_⟩
  · exact counted_of_rd_after sameCount (counted_of_foot_before before rfl State.hold_counts)
  · rw [sameBursts, held, List.map_append, List.map_singleton, hb]

/-! ### The burst that a deadline cuts (R165, R167 to R169) -/

theorem Alloc.same_self : a.same a = true := by simp [Alloc.same]

/-- The reserved bursts of a leg, where there is one burst and it is among them. -/
theorem State.reserved_only {p : Burst → Bool} (hfind : (s.reserved l).find? p = some b) (honly : s.bursts = [b]) :
    s.reserved l = [b] ∧ b.leg = l := by
  have hmem := List.mem_of_find?_eq_some hfind
  rw [State.reserved, List.mem_filter] at hmem
  refine ⟨?_, ?_⟩
  · rw [State.reserved, honly, List.filter_singleton, hmem.2]
    rfl
  · have hleg := hmem.2
    rw [Bool.and_eq_true, beq_iff_eq] at hleg
    exact hleg.1

theorem burstsFrom_only : burstsFrom [b] b.alloc = [b] := by simp [burstsFrom, Alloc.same_self]

theorem unwoundSlots_only (hframes : b.frames ≠ []) : unwoundSlots [b] = [b.alloc.slot] := by
  simp only [unwoundSlots, List.filter_singleton, List.isEmpty_eq_false_iff.2 hframes, Bool.not_false]
  rfl

/-- The frames of a burst that were not finished go back to their queues. -/
def State.unplaceLate (s : State) (b : Burst) (finished : Nat) : State :=
  ((b.frames.drop finished).reverse.foldl State.unplace s).restoreSnap b.snap

/-- A burst that keeps its finished frames only. -/
def Burst.cut (b : Burst) (s : State) (finished : Nat) : Burst :=
  { b with frames := b.frames.take finished, cells := (b.frames.take finished).foldl (fun n p => n + (p.e + 255) / 256) 0,
           bufrep := s.bufrep b.alloc.slot (b.frames.take finished) }

/-- The one burst held keeps its finished frames only. -/
def State.cutShort (s : State) (b : Burst) (finished : Nat) : State :=
  { s.unplaceLate b finished with bursts := [b.cut (s.unplaceLate b finished) finished] }

/-- A late burst is counted, and reported once a superframe. -/
def State.countLate (s : State) (l : Leg) (u : Nat) : State :=
  ((s.inc Reg.USCH_CNT_UNWOUND_BURSTS).inc Reg.USCH_CNT_BUILD_LATE).once l (Ev.wave l (4 + u) 5) 0

/-- What the return of a late burst's frames can change: no burst held. -/
def fpUnplaced : Nat := fp23 ||| fp28

theorem State.unplaceLate_foot : Foot fpUnplaced s (s.unplaceLate b finished) :=
  .step (State.restoreSnap_foot ..) rfl (.foldl (fun _ _ => .step (State.unplace_foot ..) rfl) .refl)

theorem State.cutShort_rd {R : Row} {i : Nat} (hk : keepsRow fpUnplaced R = true) :
    (s.cutShort b finished).rd R 0 i = s.rd R 0 i := State.unplaceLate_foot.rd_at hk

/-- The deadline of the one burst held: no other is unwound, its late frames go back, it keeps the others, and its slot is told. -/
theorem State.buildDeadline_only (hfind : (s.reserved l).find? (fun b => b.alloc.wave == u && b.alloc.start == start) = some b)
    (honly : s.bursts = [b]) (hlate : finished < b.frames.length) : s.buildDeadline l u start finished =
    ((s.cutShort b finished).countLate l u).unwindSlot b.alloc.slot 5 := by
  obtain ⟨hres, hleg⟩ := State.reserved_only hfind honly
  have held : (s.unplaceLate b finished).bursts = [b] := (State.unplaceLate_foot.bursts rfl).trans honly
  have hframes : b.frames ≠ [] := List.ne_nil_of_length_pos (Nat.zero_lt_of_lt hlate)
  have others : [b].filter (fun x => !x.alloc.same b.alloc) = [] := by simp [Alloc.same_self]
  have kept : (s.unplaceLate b finished).bursts.map (fun x : Burst =>
      if x.leg == l && x.alloc.same b.alloc then b.cut (s.unplaceLate b finished) finished else x) =
      [b.cut (s.unplaceLate b finished) finished] := by simp [held, hleg, Alloc.same_self]
  unfold State.buildDeadline
  rw [hfind]
  simp only [hres, burstsFrom_only, others, unwoundSlots_only hframes]
  rw [if_neg (Nat.not_le.2 hlate), State.cutShort, ← kept]
  rfl

theorem buildDeadline_stands (hfind : (s.reserved l).find? (fun b => b.alloc.wave == u && b.alloc.start == start) = some b)
    (hdone : b.frames.length ≤ finished) : exec (.buildDeadline l u start finished) s = .next s := by
  refine congrArg Host.Outcome.next (State.inDom_still ?_)
  unfold State.buildDeadline
  rw [hfind]
  exact if_pos hdone

theorem exec_buildDeadline (hrun : s.runs .core = true) :
    exec (.buildDeadline l u start finished) s = .next (s.buildDeadline l u start finished) := congrArg Host.Outcome.next (if_pos hrun)

theorem State.unwindSlot_cause (hc : c < 128) (hcause : cause < 16) :
    (s.unwindSlot c cause).rd Reg.USCH_CT_STATUS_LAST_CAUSE 0 c = cause := by
  rw [State.unwindSlot, (State.slotEvent_foot ..).rd_at rfl, State.rd_inc_shared rfl, State.rd_wr_same hc]
  exact Nat.mod_eq_of_lt hcause

theorem State.unwindSlot_counts (hc : c < 128) : Counted Reg.USCH_SCNT_UNWINDS 0 c 1 s (s.unwindSlot c cause) :=
  counted_of_rd_after ((State.slotEvent_foot ..).rd_at rfl) (counted_of_rd_before (State.rd_wr_shared rfl) (counted_inc_at hc))

theorem State.countLate_counts : Counted Reg.USCH_CNT_BUILD_LATE 0 0 1 s (s.countLate l u) :=
  counted_of_foot_after (State.once_foot ..) rfl (counted_of_rd_before (State.rd_inc_shared rfl) (counted_inc Nat.one_pos))

theorem State.countLate_unwinds : (s.countLate l u).rd Reg.USCH_SCNT_UNWINDS 0 c = s.rd Reg.USCH_SCNT_UNWINDS 0 c := by
  rw [State.countLate, (State.once_foot ..).rd_at rfl, State.rd_inc_shared rfl, State.rd_inc_shared rfl]

theorem State.countLate_bursts : (s.countLate l u).bursts = s.bursts := by
  rw [State.countLate, (State.once_foot ..).bursts rfl, State.inc_bursts, State.inc_bursts]

theorem buildDeadline_cuts (hrun : s.runs .core = true)
    (hfind : (s.reserved l).find? (fun b => b.alloc.wave == u && b.alloc.start == start) = some b) (honly : s.bursts = [b])
    (hlate : finished < b.frames.length) (hc : b.alloc.slot < 128) : ∃ t, exec (.buildDeadline l u start finished) s = .next t ∧
    Counted Reg.USCH_CNT_BUILD_LATE 0 0 1 s t ∧ t.bursts.map (fun x => (x.alloc, x.frames)) = [(b.alloc, b.frames.take finished)] ∧
    t.rd Reg.USCH_CT_STATUS_LAST_CAUSE 0 b.alloc.slot = 5 ∧ Counted Reg.USCH_SCNT_UNWINDS 0 b.alloc.slot 1 s t := by
  refine ⟨_, exec_buildDeadline hrun, ?_⟩
  rw [State.buildDeadline_only hfind honly hlate]
  refine ⟨?_, ?_, State.unwindSlot_cause hc (by decide), ?_⟩
  · exact counted_of_foot_after (State.unwindSlot_foot ..) rfl (counted_of_rd_before (State.cutShort_rd rfl) State.countLate_counts)
  · rw [(State.unwindSlot_foot ..).bursts rfl, State.countLate_bursts]
    rfl
  · exact counted_of_rd_before (State.countLate_unwinds.trans (State.cutShort_rd rfl)) (State.unwindSlot_counts hc)

end

/-- Settles O18: a build holds one burst more, past a footprint that names neither the bursts nor their count; the deadline of the one burst
held unwinds no other and tells one slot. -/
theorem burstsAreBuilt : Obligations.BurstsAreBuilt := by
  unfold Obligations.BurstsAreBuilt
  exact ⟨fun _ _ _ _ _ _ _ => burstBuild_stands, fun _ _ _ _ _ _ _ _ => burstBuild_holds, fun _ _ _ _ _ _ => buildDeadline_stands,
    fun _ _ _ _ _ _ => buildDeadline_cuts⟩

end Sys2Proof.Machine

/-! SUPPORT. Every step keeps the invariant: a footprint carries it (`Foot.inv`), and every command has one. -/

namespace Sys2Proof.Machine

section
variable {c : Instr} {s t : State}

/-- Whatever command is run, some footprint covers what it changes. -/
theorem exec_foot (h : exec c s = .next t) : ∃ m, Foot m s t := by
  cases c with
  | syncCandidate => exact ⟨_, execSyncCandidate_foot (ht := h) ..⟩
  | delineationMarker => exact ⟨_, execDelineationMarker_foot (ht := h) ..⟩
  | codewordDecode => exact ⟨_, execCodewordDecode_foot (ht := h) ..⟩
  | partitionHeader => exact ⟨_, execPartitionHeader_foot (ht := h) ..⟩
  | todAnnouncement => exact ⟨_, execTodAnnouncement_foot (ht := h) ..⟩
  | allocationStructure => exact ⟨_, execAllocationStructure_foot (ht := h) ..⟩
  | sluiceRegion => exact ⟨_, execSluiceRegion_foot (ht := h) ..⟩
  | channelFrame => exact ⟨_, execChannelFrame_foot (ht := h) ..⟩
  | frameDelivery => exact ⟨_, execFrameDelivery_foot (ht := h) ..⟩
  | burstProfile => exact ⟨_, execBurstProfile_foot (ht := h) ..⟩
  | profileEffective => exact ⟨_, execProfileEffective_foot (ht := h) ..⟩
  | assignTn => exact ⟨_, execAssignTn_foot (ht := h) ..⟩
  | eqdSet => exact ⟨_, execEqdSet_foot (ht := h) ..⟩
  | eqdApply => exact ⟨_, execEqdApply_foot (ht := h) ..⟩
  | container => exact ⟨_, execContainer_foot (ht := h) ..⟩
  | containerEffective => exact ⟨_, execContainerEffective_foot (ht := h) ..⟩
  | deactivate => exact ⟨_, execDeactivate_foot (ht := h) ..⟩
  | emergencyStop => exact ⟨_, execEmergencyStop_foot (ht := h) ..⟩
  | rogueRelease => exact ⟨_, execRogueRelease_foot (ht := h) ..⟩
  | allocRevise => exact ⟨_, execAllocRevise_foot (ht := h) ..⟩
  | keepRanged => exact ⟨_, execKeepRanged_foot (ht := h) ..⟩
  | keyExchange => exact ⟨_, execKeyExchange_foot (ht := h) ..⟩
  | keySwitch => exact ⟨_, execKeySwitch_foot (ht := h) ..⟩
  | keySwitchUpEffective => exact ⟨_, execKeySwitchUpEffective_foot (ht := h) ..⟩
  | keySwitchDnEffective => exact ⟨_, execKeySwitchDnEffective_foot (ht := h) ..⟩
  | generationErase => exact ⟨_, execGenerationErase_foot (ht := h) ..⟩
  | sleep => exact ⟨_, execSleep_foot (ht := h) ..⟩
  | protSwitch => exact ⟨_, execProtSwitch_foot (ht := h) ..⟩
  | response => exact ⟨_, execResponse_foot (ht := h) ..⟩
  | msgUnknown => exact ⟨_, execMsgUnknown_foot (ht := h) ..⟩
  | requestRetryTimer => exact ⟨_, execRequestRetryTimer_foot (ht := h) ..⟩
  | actCtlWrite => exact ⟨_, execActCtlWrite_foot (ht := h) ..⟩
  | registrationTimeout => exact ⟨_, execRegistrationTimeout_foot (ht := h) ..⟩
  | rangingTimeout => exact ⟨_, execRangingTimeout_foot (ht := h) ..⟩
  | rangeMiss => exact ⟨_, execRangeMiss_foot (ht := h) ..⟩
  | wakeAttemptTimeout => exact ⟨_, execWakeAttemptTimeout_foot (ht := h) ..⟩
  | upstreamFrameStart => exact ⟨_, execUpstreamFrameStart_foot (ht := h) ..⟩
  | lanePowerUp => exact ⟨_, execLanePowerUp_foot (ht := h) ..⟩
  | windowOpen => exact ⟨_, execWindowOpen_foot (ht := h) ..⟩
  | windowEnd => exact ⟨_, execWindowEnd_foot (ht := h) ..⟩
  | rogueLatch => exact ⟨_, execRogueLatch_foot (ht := h) ..⟩
  | hgCtlWrite => exact ⟨_, execHgCtlWrite_foot (ht := h) ..⟩
  | limiterStep => exact ⟨_, execLimiterStep_foot (ht := h) ..⟩
  | servoUpdate => exact ⟨_, execServoUpdate_foot (ht := h) ..⟩
  | qualityEvaluate => exact ⟨_, execQualityEvaluate_foot (ht := h) ..⟩
  | todMissing => exact ⟨_, execTodMissing_foot (ht := h) ..⟩
  | holdoverBoundAdvance => exact ⟨_, execHoldoverBoundAdvance_foot (ht := h) ..⟩
  | incrHoUpdate => exact ⟨_, execIncrHoUpdate_foot (ht := h) ..⟩
  | dispersionFit => exact ⟨_, execDispersionFit_foot (ht := h) ..⟩
  | laserLowConf => exact ⟨_, execLaserLowConf_foot (ht := h) ..⟩
  | laserConfRestored => exact ⟨_, execLaserConfRestored_foot (ht := h) ..⟩
  | timeVote => exact ⟨_, execTimeVote_foot (ht := h) ..⟩
  | timeSnap => exact ⟨_, execTimeSnap_foot (ht := h) ..⟩
  | timeApply => exact ⟨_, execTimeApply_foot (ht := h) ..⟩
  | timeCancel => exact ⟨_, execTimeCancel_foot (ht := h) ..⟩
  | applyTick => exact ⟨_, execApplyTick_foot (ht := h) ..⟩
  | timeStageWrite => exact ⟨_, execTimeStageWrite_foot (ht := h) ..⟩
  | tevArm => exact ⟨_, execTevArm_foot (ht := h) ..⟩
  | tevDisarm => exact ⟨_, execTevDisarm_foot (ht := h) ..⟩
  | tevConfigWrite => exact ⟨_, execTevConfigWrite_foot (ht := h) ..⟩
  | tevFire => exact ⟨_, execTevFire_foot (ht := h) ..⟩
  | tevPulseEnd => exact ⟨_, execTevPulseEnd_foot (ht := h) ..⟩
  | ppsOutPulse => exact ⟨_, execPpsOutPulse_foot (ht := h) ..⟩
  | ppsPulseEnd => exact ⟨_, execPpsPulseEnd_foot (ht := h) ..⟩
  | tcapEdge => exact ⟨_, execTcapEdge_foot (ht := h) ..⟩
  | tcapHeadPop => exact ⟨_, execTcapHeadPop_foot (ht := h) ..⟩
  | ptmAutoTimer => exact ⟨_, execPtmAutoTimer_foot (ht := h) ..⟩
  | ptmTrigger => exact ⟨_, execPtmTrigger_foot (ht := h) ..⟩
  | ptmResponse => exact ⟨_, execPtmResponse_foot (ht := h) ..⟩
  | ptmTimeout => exact ⟨_, execPtmTimeout_foot (ht := h) ..⟩
  | latchedRead => exact ⟨_, execLatchedRead_foot (ht := h) ..⟩
  | doorbell => exact ⟨_, execDoorbell_foot (ht := h) ..⟩
  | descriptorFetch => exact ⟨_, execDescriptorFetch_foot (ht := h) ..⟩
  | hostReadCompletion => exact ⟨_, execHostReadCompletion_foot (ht := h) ..⟩
  | completionTimeout => exact ⟨_, execCompletionTimeout_foot (ht := h) ..⟩
  | tokenRefill => exact ⟨_, execTokenRefill_foot (ht := h) ..⟩
  | burstBuild => exact ⟨_, execBurstBuild_foot (ht := h) ..⟩
  | buildDeadline => exact ⟨_, execBuildDeadline_foot (ht := h) ..⟩
  | fallbackEnd => exact ⟨_, execFallbackEnd_foot (ht := h) ..⟩
  | uschReset => exact ⟨_, execUschReset_foot (ht := h) ..⟩
  | uschResetDone => exact ⟨_, execUschResetDone_foot (ht := h) ..⟩
  | queueRead => exact ⟨_, execQueueRead_foot (ht := h) ..⟩
  | queueWrite => exact ⟨_, execQueueWrite_foot (ht := h) ..⟩
  | resetBuckets => exact ⟨_, execResetBuckets_foot (ht := h) ..⟩
  | containerSlotWrite => exact ⟨_, execContainerSlotWrite_foot (ht := h) ..⟩
  | uschAuditSnap => exact ⟨_, execUschAuditSnap_foot (ht := h) ..⟩
  | stblRead => exact ⟨_, execStblRead_foot (ht := h) ..⟩
  | stblWrite => exact ⟨_, execStblWrite_foot (ht := h) ..⟩
  | stblInvalidate => exact ⟨_, execStblInvalidate_foot (ht := h) ..⟩
  | compareAndWrite => exact ⟨_, execCompareAndWrite_foot (ht := h) ..⟩
  | stblCmdDone => exact ⟨_, execStblCmdDone_foot (ht := h) ..⟩
  | learnHoldExpiry => exact ⟨_, execLearnHoldExpiry_foot (ht := h) ..⟩
  | learnRearm => exact ⟨_, execLearnRearm_foot (ht := h) ..⟩
  | statLatch => exact ⟨_, execStatLatch_foot (ht := h) ..⟩
  | readNode => exact ⟨_, execReadNode_foot (ht := h) ..⟩
  | writeNode => exact ⟨_, execWriteNode_foot (ht := h) ..⟩
  | readRoot => exact ⟨_, execReadRoot_foot (ht := h) ..⟩
  | writeRoot => exact ⟨_, execWriteRoot_foot (ht := h) ..⟩
  | readProf => exact ⟨_, execReadProf_foot (ht := h) ..⟩
  | writeProf => exact ⟨_, execWriteProf_foot (ht := h) ..⟩
  | clsCmdDone => exact ⟨_, execClsCmdDone_foot (ht := h) ..⟩
  | commitOpen => exact ⟨_, execCommitOpen_foot (ht := h) ..⟩
  | commit => exact ⟨_, execCommit_foot (ht := h) ..⟩
  | commitCancel => exact ⟨_, execCommitCancel_foot (ht := h) ..⟩
  | commitEffective => exact ⟨_, execCommitEffective_foot (ht := h) ..⟩
  | drainDone => exact ⟨_, execDrainDone_foot (ht := h) ..⟩
  | versionExpired => exact ⟨_, execVersionExpired_foot (ht := h) ..⟩
  | pipelineCompare => exact ⟨_, execPipelineCompare_foot (ht := h) ..⟩
  | lookasideRequest => exact ⟨_, execLookasideRequest_foot (ht := h) ..⟩
  | lookasideDone => exact ⟨_, execLookasideDone_foot (ht := h) ..⟩
  | query => exact ⟨_, execQuery_foot (ht := h) ..⟩
  | slotRead => exact ⟨_, execSlotRead_foot (ht := h) ..⟩
  | slotErase => exact ⟨_, execSlotErase_foot (ht := h) ..⟩
  | slotCmdDone => exact ⟨_, execSlotCmdDone_foot (ht := h) ..⟩
  | keyRefresh => exact ⟨_, execKeyRefresh_foot (ht := h) ..⟩
  | ciphLock => exact ⟨_, execCiphLock_foot (ht := h) ..⟩
  | rngFail => exact ⟨_, execRngFail_foot (ht := h) ..⟩
  | rngRecover => exact ⟨_, execRngRecover_foot (ht := h) ..⟩
  | sluiceRecordWrite => exact ⟨_, execSluiceRecordWrite_foot (ht := h) ..⟩
  | sluiceRecordRead => exact ⟨_, execSluiceRecordRead_foot (ht := h) ..⟩
  | swapRequest => exact ⟨_, execSwapRequest_foot (ht := h) ..⟩
  | swapCancel => exact ⟨_, execSwapCancel_foot (ht := h) ..⟩
  | swapEffective => exact ⟨_, execSwapEffective_foot (ht := h) ..⟩
  | cmRead => exact ⟨_, execCmRead_foot (ht := h) ..⟩
  | cmWrite => exact ⟨_, execCmWrite_foot (ht := h) ..⟩
  | cmCopy => exact ⟨_, execCmCopy_foot (ht := h) ..⟩
  | cmClear => exact ⟨_, execCmClear_foot (ht := h) ..⟩
  | cmCmdDone => exact ⟨_, execCmCmdDone_foot (ht := h) ..⟩
  | losDeclare => exact ⟨_, execLosDeclare_foot (ht := h) ..⟩
  | losClear => exact ⟨_, execLosClear_foot (ht := h) ..⟩
  | sfEvaluate => exact ⟨_, execSfEvaluate_foot (ht := h) ..⟩
  | holdoffExpiry => exact ⟨_, execHoldoffExpiry_foot (ht := h) ..⟩
  | clear => exact ⟨_, execClear_foot (ht := h) ..⟩
  | forced => exact ⟨_, execForced_foot (ht := h) ..⟩
  | manual => exact ⟨_, execManual_foot (ht := h) ..⟩
  | fwForced => exact ⟨_, execFwForced_foot (ht := h) ..⟩
  | switchDone => exact ⟨_, execSwitchDone_foot (ht := h) ..⟩
  | wtrExpiry => exact ⟨_, execWtrExpiry_foot (ht := h) ..⟩
  | pmSecond => exact ⟨_, execPmSecond_foot (ht := h) ..⟩
  | pmSecondCommit => exact ⟨_, execPmSecondCommit_foot (ht := h) ..⟩
  | binRoll => exact ⟨_, execBinRoll_foot (ht := h) ..⟩
  | pmBinLatch => exact ⟨_, execPmBinLatch_foot (ht := h) ..⟩
  | pmTestWrite => exact ⟨_, execPmTestWrite_foot (ht := h) ..⟩
  | linkDown => exact ⟨_, execLinkDown_foot (ht := h) ..⟩
  | linkTrained => exact ⟨_, execLinkTrained_foot (ht := h) ..⟩
  | resume => exact ⟨_, execResume_foot (ht := h) ..⟩
  | discard => exact ⟨_, execDiscard_foot (ht := h) ..⟩
  | linkHoldExpired => exact ⟨_, execLinkHoldExpired_foot (ht := h) ..⟩
  | bmeSet => exact ⟨_, execBmeSet_foot (ht := h) ..⟩
  | ringEnable => exact ⟨_, execRingEnable_foot (ht := h) ..⟩
  | ringDisable => exact ⟨_, execRingDisable_foot (ht := h) ..⟩
  | flush => exact ⟨_, execFlush_foot (ht := h) ..⟩
  | flushDone => exact ⟨_, execFlushDone_foot (ht := h) ..⟩
  | completionWrite => exact ⟨_, execCompletionWrite_foot (ht := h) ..⟩
  | msixModerationTimer => exact ⟨_, execMsixModerationTimer_foot (ht := h) ..⟩
  | rxStarved => exact ⟨_, execRxStarved_foot (ht := h) ..⟩
  | replay => exact ⟨_, execReplay_foot (ht := h) ..⟩
  | vfFlr => exact ⟨_, execVfFlr_foot (ht := h) ..⟩
  | pfFlr => exact ⟨_, execPfFlr_foot (ht := h) ..⟩
  | flrDone => exact ⟨_, execFlrDone_foot (ht := h) ..⟩
  | hifAuditCheck => exact ⟨_, execHifAuditCheck_foot (ht := h) ..⟩
  | hifAuditSnap => exact ⟨_, execHifAuditSnap_foot (ht := h) ..⟩
  | evtLogPop => exact ⟨_, execEvtLogPop_foot (ht := h) ..⟩
  | errlogPop => exact ⟨_, execErrlogPop_foot (ht := h) ..⟩
  | barAccess => exact ⟨_, execBarAccess_foot (ht := h) ..⟩
  | mbxSend => exact ⟨_, execMbxSend_foot (ht := h) ..⟩
  | mbxStatusRead => exact ⟨_, execMbxStatusRead_foot (ht := h) ..⟩
  | mbxAck => exact ⟨_, execMbxAck_foot (ht := h) ..⟩
  | mbxFetch => exact ⟨_, execMbxFetch_foot (ht := h) ..⟩
  | mbxFetchDone => exact ⟨_, execMbxFetchDone_foot (ht := h) ..⟩
  | mbxSwAccess => exact ⟨_, execMbxSwAccess_foot (ht := h) ..⟩
  | mbxOwnerWrite => exact ⟨_, execMbxOwnerWrite_foot (ht := h) ..⟩
  | mctpMbxSend => exact ⟨_, execMctpMbxSend_foot (ht := h) ..⟩
  | mctpMbxRead => exact ⟨_, execMctpMbxRead_foot (ht := h) ..⟩
  | mctpMbxAck => exact ⟨_, execMctpMbxAck_foot (ht := h) ..⟩
  | swWrite => exact ⟨_, execSwWrite_foot (ht := h) ..⟩
  | swRead => exact ⟨_, execSwRead_foot (ht := h) ..⟩
  | nop => exact ⟨_, execNop_foot (ht := h) ..⟩
  | identify => exact ⟨_, execIdentify_foot (ht := h) ..⟩
  | queryOp => exact ⟨_, execQueryOp_foot (ht := h) ..⟩
  | suspend => exact ⟨_, execSuspend_foot (ht := h) ..⟩
  | resumeOp => exact ⟨_, execResumeOp_foot (ht := h) ..⟩
  | cancel => exact ⟨_, execCancel_foot (ht := h) ..⟩
  | settingsSave => exact ⟨_, execSettingsSave_foot (ht := h) ..⟩
  | keyLoadCmd => exact ⟨_, execKeyLoadCmd_foot (ht := h) ..⟩
  | keyErase => exact ⟨_, execKeyErase_foot (ht := h) ..⟩
  | fwActivate => exact ⟨_, execFwActivate_foot (ht := h) ..⟩
  | fwConfirm => exact ⟨_, execFwConfirm_foot (ht := h) ..⟩
  | lcTransition => exact ⟨_, execLcTransition_foot (ht := h) ..⟩
  | cosignEnrol => exact ⟨_, execCosignEnrol_foot (ht := h) ..⟩
  | fwDownload => exact ⟨_, execFwDownload_foot (ht := h) ..⟩
  | fwVerify => exact ⟨_, execFwVerify_foot (ht := h) ..⟩
  | scrubFull => exact ⟨_, execScrubFull_foot (ht := h) ..⟩
  | tableBulkLoad => exact ⟨_, execTableBulkLoad_foot (ht := h) ..⟩
  | dispersionSweep => exact ⟨_, execDispersionSweep_foot (ht := h) ..⟩
  | laserCharacterise => exact ⟨_, execLaserCharacterise_foot (ht := h) ..⟩
  | selfTest => exact ⟨_, execSelfTest_foot (ht := h) ..⟩
  | pmExport => exact ⟨_, execPmExport_foot (ht := h) ..⟩
  | longOpProgress => exact ⟨_, execLongOpProgress_foot (ht := h) ..⟩
  | longOpSafePoint => exact ⟨_, execLongOpSafePoint_foot (ht := h) ..⟩
  | longOpComplete => exact ⟨_, execLongOpComplete_foot (ht := h) ..⟩
  | suspendTimeout => exact ⟨_, execSuspendTimeout_foot (ht := h) ..⟩
  | heartbeat => exact ⟨_, execHeartbeat_foot (ht := h) ..⟩
  | hbLost => exact ⟨_, execHbLost_foot (ht := h) ..⟩
  | autopilotExpired => exact ⟨_, execAutopilotExpired_foot (ht := h) ..⟩
  | firstHeartbeatLate => exact ⟨_, execFirstHeartbeatLate_foot (ht := h) ..⟩
  | plannedAbsence => exact ⟨_, execPlannedAbsence_foot (ht := h) ..⟩
  | microcodeBankSwitch => exact ⟨_, execMicrocodeBankSwitch_foot (ht := h) ..⟩
  | trialWindowExpiry => exact ⟨_, execTrialWindowExpiry_foot (ht := h) ..⟩
  | lcArm => exact ⟨_, execLcArm_foot (ht := h) ..⟩
  | idleEnter => exact ⟨_, execIdleEnter_foot (ht := h) ..⟩
  | perstAssert => exact ⟨_, execPerstAssert_foot (ht := h) ..⟩
  | perstDeassert => exact ⟨_, execPerstDeassert_foot (ht := h) ..⟩
  | bmcPowerRequest => exact ⟨_, execBmcPowerRequest_foot (ht := h) ..⟩
  | sleepStart => exact ⟨_, execSleepStart_foot (ht := h) ..⟩
  | awakeStart => exact ⟨_, execAwakeStart_foot (ht := h) ..⟩
  | dozeStart => exact ⟨_, execDozeStart_foot (ht := h) ..⟩
  | sleepEnded => exact ⟨_, execSleepEnded_foot (ht := h) ..⟩
  | sleepRetry => exact ⟨_, execSleepRetry_foot (ht := h) ..⟩
  | wakeIn => exact ⟨_, execWakeIn_foot (ht := h) ..⟩
  | aonTimer => exact ⟨_, execAonTimer_foot (ht := h) ..⟩
  | modulePresence => exact ⟨_, execModulePresence_foot (ht := h) ..⟩
  | deepSleepEntry => exact ⟨_, execDeepSleepEntry_foot (ht := h) ..⟩
  | deepSleepExit => exact ⟨_, execDeepSleepExit_foot (ht := h) ..⟩
  | brownOut => exact ⟨_, execBrownOut_foot (ht := h) ..⟩
  | pwrGoodRise => exact ⟨_, execPwrGoodRise_foot (ht := h) ..⟩
  | pwrGoodFall => exact ⟨_, execPwrGoodFall_foot (ht := h) ..⟩
  | cold => exact ⟨_, execCold_foot (ht := h) ..⟩
  | warm => exact ⟨_, execWarm_foot (ht := h) ..⟩
  | refLoss => exact ⟨_, execRefLoss_foot (ht := h) ..⟩
  | refRestored => exact ⟨_, execRefRestored_foot (ht := h) ..⟩
  | bringupStart => exact ⟨_, execBringupStart_foot (ht := h) ..⟩
  | bringupAttemptFail => exact ⟨_, execBringupAttemptFail_foot (ht := h) ..⟩
  | bringupRetry => exact ⟨_, execBringupRetry_foot (ht := h) ..⟩
  | slipWrite => exact ⟨_, execSlipWrite_foot (ht := h) ..⟩
  | rehunt => exact ⟨_, execRehunt_foot (ht := h) ..⟩
  | safetyPoll => exact ⟨_, execSafetyPoll_foot (ht := h) ..⟩
  | moduleInterrupt => exact ⟨_, execModuleInterrupt_foot (ht := h) ..⟩
  | telemetryRead => exact ⟨_, execTelemetryRead_foot (ht := h) ..⟩
  | rxovl => exact ⟨_, execRxovl_foot (ht := h) ..⟩
  | lifeRecordWrite => exact ⟨_, execLifeRecordWrite_foot (ht := h) ..⟩
  | biasSample => exact ⟨_, execBiasSample_foot (ht := h) ..⟩
  | scrubVisit => exact ⟨_, execScrubVisit_foot (ht := h) ..⟩
  | registerWrite => exact ⟨_, execRegisterWrite_foot (ht := h) ..⟩
  | timeTick => exact ⟨_, execTimeTick_foot (ht := h) ..⟩
  | msgCrcErr => exact ⟨_, execMsgCrcErr_foot (ht := h) ..⟩
  | cdrLock => exact ⟨_, execCdrLock_foot (ht := h) ..⟩
  | moduleIdentityRead => exact ⟨_, execModuleIdentityRead_foot (ht := h) ..⟩
  | railLoss => exact ⟨_, execRailLoss_foot (ht := h) ..⟩
  | configurationWrite => exact ⟨_, execConfigurationWrite_foot (ht := h) ..⟩
  | unsupportedRequest f kind => exact ⟨_, execUnsupportedRequest_foot (_kind := kind) (ht := h) ..⟩
  | registerAccess => exact ⟨_, execRegisterAccess_foot (ht := h) ..⟩
  | activateWarmReset => exact ⟨_, execActivateWarmReset_foot (ht := h) ..⟩
  | xt32kStable => exact ⟨_, execXt32kStable_foot (ht := h) ..⟩

theorem exec_keeps_inv (hi : Inv s) (h : exec c s = .next t) : Inv t := by
  obtain ⟨m, hfoot⟩ := exec_foot h
  exact hfoot.inv hi

/-- The queue is no part of the invariant. -/
theorem Inv.of_pending {q : List Instr} (hi : Inv s) : Inv { s with pending := q } := by
  obtain ⟨⟨hregs, hfw, hsw⟩, hbounded⟩ := hi
  exact ⟨⟨hregs, hfw, hsw⟩, hbounded⟩

end

/-- Settles O3: a step with an empty queue changes nothing, and any other runs the front command, whose footprint keeps the invariant. -/
theorem everyStepKeepsTheInvariant : Obligations.EveryStepKeepsTheInvariant := by
  unfold Obligations.EveryStepKeepsTheInvariant
  intro s t hi h
  unfold step at h
  split at h
  case h_1 =>
    cases h
    exact hi
  case h_2 => exact exec_keeps_inv hi.of_pending h

end Sys2Proof.Machine

/-! SUPPORT. What becomes of a frame in the pipeline of the active leg (07_downstream_classification.md, R177, R178, R190, R207, R213). -/

namespace Sys2Proof.Machine

section
variable {s t : State} {l : Leg} {R : Row} {k w off h e cause key : Nat} {hdr next : BitVec 64} {payload data : List Byte} {f : Leaf}

/-! ### Into the pipeline -/

/-- A wave's frame enters the active leg's pipeline: its header stands, its codewords are whole and its leg is active. -/
structure EntersPipeline (s : State) (l : Leg) (w off h : Nat) : Prop where
  reads : Reads s l w off
  settled : (s.wave l w).hunting = false
  stands : Stands s l w off h
  whole : (s.wave l w).badSpan off h = false
  delivered : (s.wave l w).deliver = true

theorem exec_channelFrame_active {ecc : Option Nat} (hp : EntersPipeline s l w off hdr.toNat) (hpti : hdrPti hdr.toNat < 2) :
    exec (.channelFrame l w off hdr payload next ecc) s = .next ((s.headed l w hdr.toNat).activeFrame l w hdr.toNat payload ecc) := by
  obtain ⟨hreads, hsettled, hstands, hwhole, hdel⟩ := hp
  rw [exec_channelFrame, State.channelFrame_stands hreads hsettled hstands, if_neg (by simp [hwhole]), if_neg (by omega),
    if_neg (by simp [hdel]), State.headed]

/-! ### What the pipeline reads, past the noted header -/

theorem State.headed_cls : (s.headed l w h).cls = s.cls := by
  rw [State.headed, (State.idleExit_foot ..).cls rfl, State.noteHeader, State.updWave, State.upd_cls]

theorem State.fieldValue_of_cls (hc : t.cls = s.cls) : t.fieldValue = s.fieldValue := by
  funext prof k data
  rw [State.fieldValue, hc, State.fieldValue]

theorem State.walk_of_cls (hc : t.cls = s.cls) {root : Nat} : ∀ fuel rel, t.walk root data fuel rel = s.walk root data fuel rel
  | 0, _ => rfl
  | k + 1, rel => by
    unfold State.walk
    dsimp only
    rw [hc, State.fieldValue_of_cls hc, State.walk_of_cls hc k]

/-- A frame's leaf depends on the tables alone. -/
theorem State.classify_of_cls (hc : t.cls = s.cls) : t.classify e data = s.classify e data := by
  unfold State.classify
  dsimp only
  rw [hc, State.walk_of_cls hc]

theorem State.headed_classify : (s.headed l w h).classify e data = s.classify e data := State.classify_of_cls State.headed_cls

theorem State.headed_wave_frame (hw : w < 4) : ((s.headed l w h).wave l w).sfc = (s.wave l w).sfc ∧
    ((s.headed l w h).wave l w).fn = (s.wave l w).fn := by
  rw [State.headed, (State.idleExit_foot ..).wave_keeps rfl, State.noteHeader, State.wave_updWave_same hw]
  exact ⟨rfl, rfl⟩

theorem State.headed_decrypt (hw : w < 4) : (s.headed l w h).decrypt l w key h payload = s.decrypt l w key h payload := by
  obtain ⟨hsfc, hfn⟩ := s.headed_wave_frame (l := l) (h := h) hw
  unfold State.decrypt
  dsimp only
  rw [hsfc, hfn]

theorem State.headed_plainFrame : plainFrame (s.headed l w h) l w h e f data = plainFrame s l w h e f data := by
  have htime : (s.headed l w h).time = s.time := by
    rw [State.headed, (State.idleExit_foot ..).time rfl, State.noteHeader, State.updWave, State.upd_time]
  unfold plainFrame
  dsimp only
  rw [State.headed_rd rfl, State.headed_rd rfl, State.headed_rd rfl, State.headed_rd rfl, State.headed_rd rfl, htime]

/-! ### Steps 4 to 9, with the pipeline's memories whole -/

theorem exec_channelFrame_clear (hp : EntersPipeline s l w off hdr.toNat) (hpti : hdrPti hdr.toNat = 0)
    (hentry : bit (s.stream (hdrStream hdr.toNat)) 0 = 1) (hclear : bit (s.stream (hdrStream hdr.toNat)) 53 = 0) :
    exec (.channelFrame l w off hdr payload next none) s = .next ((s.headed l w hdr.toNat).classified l w hdr.toNat
      (s.stream (hdrStream hdr.toNat)) none (slice payload 0 (hdrPlen hdr.toNat)) true) := by
  rw [exec_channelFrame_active hp (by omega), State.activeFrame, if_neg nofun]
  dsimp only
  rw [State.headed_stream, if_neg (by omega), if_pos hpti, if_neg (by omega)]

theorem exec_channelFrame_refused (hp : EntersPipeline s l w off hdr.toNat) (hpti : hdrPti hdr.toNat = 0)
    (hentry : bit (s.stream (hdrStream hdr.toNat)) 0 = 1) (hsecret : bit (s.stream (hdrStream hdr.toNat)) 53 = 1) :
    exec (.channelFrame l w off hdr payload next none) s =
      .next (((s.headed l w hdr.toNat).spill l w 5).event (Ev.cls 18)) := by
  rw [exec_channelFrame_active hp (by omega), State.activeFrame, if_neg nofun]
  dsimp only
  rw [State.headed_stream, if_neg (by omega), if_pos hpti, if_pos hsecret]

theorem exec_channelFrame_encrypted (hw : w < 4) (hp : EntersPipeline s l w off hdr.toNat) (hpti : hdrPti hdr.toNat = 1)
    (hentry : bit (s.stream (hdrStream hdr.toNat)) 0 = 1)
    (hkey : s.downKey l (bits (s.stream (hdrStream hdr.toNat)) 28 20) (hdrKidx hdr.toNat) = some key) (hlen : 16 ≤ hdrPlen hdr.toNat) :
    exec (.channelFrame l w off hdr payload next none) s = .next (((s.headed l w hdr.toNat).inc Reg.CIPH_CNT_DN_FRAMES).classified l w
      hdr.toNat (s.stream (hdrStream hdr.toNat)) none (s.decrypt l w key hdr.toNat payload).1 (s.decrypt l w key hdr.toNat payload).2) := by
  rw [exec_channelFrame_active hp (by omega), State.activeFrame, if_neg nofun]
  dsimp only
  rw [State.headed_stream, if_neg (by omega), if_neg (by omega), State.headed_downKey, hkey]
  dsimp only
  rw [if_neg (Nat.not_lt.2 hlen), State.headed_decrypt hw]

theorem State.classified_leaf {auth : Bool} (hf : s.classify e data = some f) : s.classified l w h e none data auth =
    if auth then s.frameOut l w h e f data else s.spill l w 7 := by
  rw [State.classified, if_neg (fun hc => nomatch hc.2), hf]

theorem State.classified_lost {auth : Bool} (hf : s.classify e data = none) : s.classified l w h e none data auth = s.clsFault l w := by
  rw [State.classified, if_neg (fun hc => nomatch hc.2), hf]

/-! ### Steps 10 to 13 -/

/-- Step 10 of R177: the frame is counted in its entry's statistics, where it has them. -/
def State.countStream (s : State) (e n : Nat) : State :=
  if bit e 78 = 0 then s else
  let c := Tab.get (0, 0) (bits e 77 64) s.cls.stats
  { s with cls := { s.cls with stats := Tab.put (0, 0) (bits e 77 64) ((c.1 + 1) % 2 ^ 64, (c.2 + n) % 2 ^ 64) s.cls.stats } }

theorem State.countStream_host {n : Nat} : (s.countStream e n).host = s.host := by
  unfold State.countStream
  split <;> rfl

theorem State.countStream_rd {n i : Nat} : (s.countStream e n).rd R k i = s.rd R k i := by
  unfold State.countStream
  split <;> rfl

theorem State.frameOut_dropped (hdrop : f.action = 0) : s.frameOut l w h e f data = (s.countStream e data.length).spill l w 8 := if_pos hdrop

theorem State.frameOut_admitted (hact : f.action = 1) (hvlan : bit e 108 = 0) :
    s.frameOut l w h e f data = (s.countStream e data.length).takeIn (plainFrame s l w h e f data) := by
  have hframe : plainFrame (s.countStream e data.length) l w h e f data = plainFrame s l w h e f data := by
    unfold State.countStream
    split <;> rfl
  rw [← hframe, State.frameOut]
  dsimp only
  rw [if_neg (by omega), if_neg (by omega), if_neg (by omega)]
  rfl

theorem State.takeIn_buf {b : BufFrame} (hroom : s.bufUsed + bufCells b.data.length ≤ 196608) :
    (s.takeIn b).host.buf = s.host.buf ++ [b] := by
  have hfull : s.bufFull b = false := decide_eq_false (Nat.not_lt.2 hroom)
  rw [State.takeIn, hfull, if_neg Bool.false_ne_true]

/-! ### Drops -/

/-- From s to t the packet buffer stays and one frame of the leg is dropped under a cause. -/
def DropsOne (l : Leg) (cause : Nat) (s t : State) : Prop := t.host.buf = s.host.buf ∧ Dropped l cause s t

theorem DropsOne.spill (hc : cause < 17) : DropsOne l cause s (s.spill l w cause) := ⟨State.spill_buf, State.spill_dropped hc⟩

theorem DropsOne.of_before {u : State} (hbuf : u.host.buf = s.host.buf)
    (hrow : u.rd (spillRow l) 0 cause = s.rd (spillRow l) 0 cause) (hd : DropsOne l cause u t) : DropsOne l cause s t :=
  ⟨hd.1.trans hbuf, counted_of_rd_before hrow hd.2⟩

theorem DropsOne.headed (hd : DropsOne l cause (s.headed l w h) t) : DropsOne l cause s t :=
  hd.of_before State.headed_buf State.headed_spillRow

theorem DropsOne.event {src : Nat} (hd : DropsOne l cause s t) : DropsOne l cause s (t.event src) := by
  refine ⟨State.event_buf.trans hd.1, counted_of_rd_after ?_ hd.2⟩
  cases l <;> exact (State.event_foot ..).rd_at rfl

theorem DropsOne.inc {j n : Nat} (hother : otherRow (spillRow l) R = true) (hd : DropsOne l cause s t) : DropsOne l cause s (t.inc R 0 j n) :=
  ⟨hd.1, counted_of_rd_after (State.rd_inc_shared hother) hd.2⟩

theorem DropsOne.clsFault : DropsOne l 9 s (s.clsFault l w) := by
  unfold State.clsFault
  cases l
  · exact (DropsOne.spill (by decide)).event.inc rfl
  · exact (DropsOne.spill (by decide)).event.inc rfl

theorem State.inc_deciphered_spillRow : (s.inc Reg.CIPH_CNT_DN_FRAMES).rd (spillRow l) 0 cause = s.rd (spillRow l) 0 cause := by
  cases l <;> exact State.rd_inc_shared rfl

/-! ### CHANNEL_FRAME -/

theorem channelFrame_admitted (hp : EntersPipeline s l w off hdr.toNat) (hpti : hdrPti hdr.toNat = 0)
    (hentry : bit (s.stream (hdrStream hdr.toNat)) 0 = 1) (hclear : bit (s.stream (hdrStream hdr.toNat)) 53 = 0)
    (hf : s.classify (s.stream (hdrStream hdr.toNat)) (slice payload 0 (hdrPlen hdr.toNat)) = some f) (hact : f.action = 1)
    (hvlan : bit (s.stream (hdrStream hdr.toNat)) 108 = 0)
    (hroom : s.bufUsed + bufCells (slice payload 0 (hdrPlen hdr.toNat)).length ≤ 196608) :
    ∃ t, exec (.channelFrame l w off hdr payload next none) s = .next t ∧ t.host.buf = s.host.buf ++
      [plainFrame s l w hdr.toNat (s.stream (hdrStream hdr.toNat)) f (slice payload 0 (hdrPlen hdr.toNat))] := by
  refine ⟨_, exec_channelFrame_clear hp hpti hentry hclear, ?_⟩
  rw [State.classified_leaf (State.headed_classify.trans hf), if_pos rfl, State.frameOut_admitted hact hvlan, State.takeIn_buf,
    State.countStream_host, State.headed_buf, State.headed_plainFrame]
  rw [State.bufUsed, State.countStream_host, State.headed_buf]
  exact hroom

theorem channelFrame_leafDrops (hp : EntersPipeline s l w off hdr.toNat) (hpti : hdrPti hdr.toNat = 0)
    (hentry : bit (s.stream (hdrStream hdr.toNat)) 0 = 1) (hclear : bit (s.stream (hdrStream hdr.toNat)) 53 = 0)
    (hf : s.classify (s.stream (hdrStream hdr.toNat)) (slice payload 0 (hdrPlen hdr.toNat)) = some f) (hact : f.action = 0) :
    ∃ t, exec (.channelFrame l w off hdr payload next none) s = .next t ∧ DropsOne l 8 s t := by
  refine ⟨_, exec_channelFrame_clear hp hpti hentry hclear, ?_⟩
  rw [State.classified_leaf (State.headed_classify.trans hf), if_pos rfl, State.frameOut_dropped hact]
  exact ((DropsOne.spill (by decide)).of_before (congrArg HostSt.buf State.countStream_host) State.countStream_rd).headed

theorem channelFrame_noLeaf (hp : EntersPipeline s l w off hdr.toNat) (hpti : hdrPti hdr.toNat = 0)
    (hentry : bit (s.stream (hdrStream hdr.toNat)) 0 = 1) (hclear : bit (s.stream (hdrStream hdr.toNat)) 53 = 0)
    (hf : s.classify (s.stream (hdrStream hdr.toNat)) (slice payload 0 (hdrPlen hdr.toNat)) = none) :
    ∃ t, exec (.channelFrame l w off hdr payload next none) s = .next t ∧ DropsOne l 9 s t := by
  refine ⟨_, exec_channelFrame_clear hp hpti hentry hclear, ?_⟩
  rw [State.classified_lost (State.headed_classify.trans hf)]
  exact DropsOne.clsFault.headed

theorem channelFrame_clearRefused (hp : EntersPipeline s l w off hdr.toNat) (hpti : hdrPti hdr.toNat = 0)
    (hentry : bit (s.stream (hdrStream hdr.toNat)) 0 = 1) (hsecret : bit (s.stream (hdrStream hdr.toNat)) 53 = 1) :
    ∃ t, exec (.channelFrame l w off hdr payload next none) s = .next t ∧ DropsOne l 5 s t :=
  ⟨_, exec_channelFrame_refused hp hpti hentry hsecret, (DropsOne.spill (by decide)).event.headed⟩

theorem channelFrame_authFail (hw : w < 4) (hp : EntersPipeline s l w off hdr.toNat) (hpti : hdrPti hdr.toNat = 1)
    (hentry : bit (s.stream (hdrStream hdr.toNat)) 0 = 1)
    (hkey : s.downKey l (bits (s.stream (hdrStream hdr.toNat)) 28 20) (hdrKidx hdr.toNat) = some key) (hlen : 16 ≤ hdrPlen hdr.toNat)
    (htag : (s.decrypt l w key hdr.toNat payload).2 = false)
    (hf : (s.classify (s.stream (hdrStream hdr.toNat)) (s.decrypt l w key hdr.toNat payload).1).isSome = true) :
    ∃ t, exec (.channelFrame l w off hdr payload next none) s = .next t ∧ Counted Reg.CIPH_CNT_DN_FRAMES 0 0 1 s t ∧ DropsOne l 7 s t := by
  obtain ⟨f, hf⟩ := Option.isSome_iff_exists.1 hf
  refine ⟨_, exec_channelFrame_encrypted hw hp hpti hentry hkey hlen, ?_⟩
  rw [State.classified_leaf ((State.classify_of_cls ((State.inc_cls ..).trans State.headed_cls)).trans hf), htag, if_neg Bool.false_ne_true]
  constructor
  · exact (State.spill_foot ..).counted_after (l := .a) rfl (counted_of_rd_before (State.headed_rd rfl) (counted_inc Nat.one_pos))
  · exact ((DropsOne.spill (by decide)).of_before (congrArg HostSt.buf (State.inc_host ..)) State.inc_deciphered_spillRow).headed

end

/-- Settles O14, by where the frame leaves the pipeline of the active leg. -/
theorem channelFramesAreClassifiedAndAdmitted : Obligations.ChannelFramesAreClassifiedAndAdmitted := by
  unfold Obligations.ChannelFramesAreClassifiedAndAdmitted
  refine ⟨?_, ?_, ?_, ?_, ?_⟩
  · rintro l w off hdr payload next _ f s - hr hh hs hb hd hpti rfl hentry hclear hf hact hvlan hroom
    exact channelFrame_admitted ⟨hr, hh, hs, hb, hd⟩ hpti hentry hclear hf hact hvlan hroom
  · rintro l w off hdr payload next _ f s - hr hh hs hb hd hpti rfl hentry hclear hf hact
    exact channelFrame_leafDrops ⟨hr, hh, hs, hb, hd⟩ hpti hentry hclear hf hact
  · rintro l w off hdr payload next _ s - hr hh hs hb hd hpti rfl hentry hclear hf
    exact channelFrame_noLeaf ⟨hr, hh, hs, hb, hd⟩ hpti hentry hclear hf
  · rintro l w off hdr payload next _ s - hr hh hs hb hd hpti rfl hentry hsecret
    exact channelFrame_clearRefused ⟨hr, hh, hs, hb, hd⟩ hpti hentry hsecret
  · rintro l w off hdr payload next _ key s hw hr hh hs hb hd hpti rfl hentry hkey hlen htag hf
    exact channelFrame_authFail hw ⟨hr, hh, hs, hb, hd⟩ hpti hentry hkey hlen htag hf

end Sys2Proof.Machine

/-! SUPPORT. The delivery of a buffered frame to its receive ring, and a ring without posts (07_downstream_classification.md, R195, R196;
11_host_interface_and_rings.md, R296, R297). First what the delivery of an event leaves of the receive rings. -/

namespace Sys2Proof.Machine

section
variable {s t u : State} {ring c src det : Nat} {ecc : Bool} {b : BufFrame} {used left : List Post}

/-! ### Receive and completion rings after an update -/

theorem State.evtLog_rxr : (s.evtLog src det).host.rxr = s.host.rxr := by
  unfold State.evtLog
  dsimp only
  split <;> rfl

theorem State.eqWrite_rxr {e : Nat} {body : List Byte} : (s.eqWrite e body).host.rxr = s.host.rxr := by
  unfold State.eqWrite
  extract_lets r sz own phase w0 entry addr s₁ s₂ s₃ full fire s₄
  have h₄ : s₄.host.rxr = s.host.rxr := rfl
  split
  · rw [(State.msix_foot ..).host rfl, h₄]
  · exact h₄

/-- An event may add to an event ring and to the log; it leaves the receive rings. The sixth case writes an entry; the fifth raises
EQ_OVERFLOW for a full ring. -/
theorem State.raiseFuel_rxr {fuel detL : Nat} {own : Option Nat} :
    (s.raiseFuel fuel src own det detL).host.rxr = s.host.rxr := by
  fun_induction State.raiseFuel fuel s src own det detL with
  | case1 | case2 | case3 | case4 | case7 => exact State.evtLog_rxr
  | case5 =>
    rename_i overflow
    exact overflow.trans State.evtLog_rxr
  | case6 => exact State.eqWrite_rxr.trans State.evtLog_rxr

theorem State.rxr_of_host (hh : t.host.rxr = s.host.rxr) : t.rxr ring = s.rxr ring := by rw [State.rxr, hh, State.rxr]

theorem State.cq_of_host (hh : t.host.cqs = s.host.cqs) : t.cq c = s.cq c := by rw [State.cq, hh, State.cq]

@[simp] theorem State.setRxr_rxr {f : RxR → RxR} : (s.setRxr ring f).rxr ring = f (s.rxr ring) := Tab.get_put_self ..

@[simp] theorem State.setCq_cq {f : CqR → CqR} : (s.setCq c f).cq c = f (s.cq c) := Tab.get_put_self ..

/-! ### The posts that a frame fills (R296, R298) -/

/-- A ring's own state once posts are used. -/
def RxR.usePosts (used left : List Post) (x : RxR) : RxR := { x with posts := left, used := x.used + used.length }

/-- A ring's posts filled, and the completion left that carries what was written into them. -/
def State.fillPosts (s : State) (ring c : Nat) (used left : List Post) (ws : List Output) (entry : List Byte) : State :=
  ((((s.emits ws).setRxr ring (RxR.usePosts used left)).inc Reg.HIF_RX_IDX_CONS 0 ring
    used.length).dec Reg.HIF_RX_HELD 0 ring used.length).cqPush c { body := entry, data := ws }

/-- A ring whose function may issue requests, with room in its completion ring and posts that cover the data, takes the frame. -/
theorem State.toRing_fills {data : List Byte} {ntag tci0 tci1 status : Nat} {mirror : Bool}
    (hdma : s.canDma (s.rd Reg.HIF_RX_CTL_OWNER 0 ring) = true) (hcq : s.cqFull (s.rd Reg.HIF_RX_CQ 0 ring) = false)
    (htake : takePosts data.length (s.rxr ring).posts = some (used, left)) :
    ∃ ws entry, s.toRing b ring data ntag tci0 tci1 status mirror =
      some (s.fillPosts ring (s.rd Reg.HIF_RX_CQ 0 ring) used left ws entry) := by
  unfold State.toRing State.fillPosts
  dsimp only
  rw [if_neg (by simp [hdma, hcq]), htake, Option.map_some]
  exact ⟨_, _, rfl⟩

variable {ws : List Output} {entry : List Byte}

theorem State.fillPosts_posts : ((s.fillPosts ring c used left ws entry).rxr ring).posts = left := by
  rw [State.rxr_of_host (t := s.fillPosts ..) (s := (s.emits ws).setRxr ring (RxR.usePosts used left)) rfl, State.setRxr_rxr]
  rfl

theorem State.fillPosts_counts (hring : ring < 4096) :
    Counted Reg.HIF_RX_IDX_CONS 0 ring used.length s (s.fillPosts ring c used left ws entry) :=
  (State.cqPush_foot ..).counted_after (l := .a) rfl (counted_of_rd_after (State.rd_wr_shared rfl) (counted_inc_at hring))

theorem State.fillPosts_waiting : ((s.fillPosts ring c used left ws entry).cq c).waiting.length = (s.cq c).waiting.length + 1 := by
  rw [State.fillPosts, State.cqPush, State.setCq_cq, List.length_append]
  rfl

theorem State.fillPosts_buf : (s.fillPosts ring c used left ws entry).host.buf = s.host.buf := rfl

/-! ### FRAME_DELIVERY -/

theorem exec_frameDelivery (hrun : s.runs .core = true) : exec (.frameDelivery ring ecc) s = .next (s.deliver ring ecc) :=
  congrArg Host.Outcome.next (if_pos hrun)

theorem frameDelivery_empty (hfind : s.host.buf.find? (fun b => s.bufRing b == ring) = none) :
    exec (.frameDelivery ring ecc) s = .next s := by
  refine congrArg Host.Outcome.next (State.inDom_still ?_)
  rw [State.deliver, hfind]

theorem State.mirrorCopy_none (hmirror : b.mirror = none) : s.mirrorCopy b = s := by rw [State.mirrorCopy, hmirror]

theorem State.deliver_refused (hfind : s.host.buf.find? (fun b => s.bufRing b == ring) = some b) (hmirror : b.mirror = none)
    (hrefuse : s.ringTakes ring b.func = false) : s.deliver ring ecc = (s.unbuffer b).spill b.leg b.wave 12 := by
  rw [State.deliver, hfind]
  dsimp only
  rw [hrefuse, Bool.not_false, if_pos rfl, State.mirrorCopy_none hmirror, ite_self]

theorem frameDelivery_refused (hrun : s.runs .core = true) (hfind : s.host.buf.find? (fun b => s.bufRing b == ring) = some b)
    (hmirror : b.mirror = none) (hrefuse : s.ringTakes ring b.func = false) :
    ∃ t, exec (.frameDelivery ring ecc) s = .next t ∧ t.host.buf = s.host.buf.erase b ∧ Dropped b.leg 12 s t := by
  refine ⟨_, exec_frameDelivery hrun, ?_⟩
  rw [State.deliver_refused hfind hmirror hrefuse]
  exact ⟨State.spill_buf, counted_of_rd_before rfl (State.spill_dropped (by decide))⟩

theorem State.unbuffer_rxr : (s.unbuffer b).host.rxr = s.host.rxr := rfl

theorem State.unbuffer_cqs : (s.unbuffer b).host.cqs = s.host.cqs := rfl

/-- A delivery is counted as a replay or as a processor's copy, where it is one. -/
def State.countDelivery (s : State) (b : BufFrame) : State :=
  let s := if b.replayed then s.inc Reg.HIF_CNT_REPLAYED else s
  if b.grp.isNone then s.inc Reg.CLS_CNT_PROC_COPIES else s

theorem State.countDelivery_host : (s.countDelivery b).host = s.host := by
  unfold State.countDelivery
  split <;> split <;> rfl

theorem State.countDelivery_cons : (s.countDelivery b).rd Reg.HIF_RX_IDX_CONS 0 ring = s.rd Reg.HIF_RX_IDX_CONS 0 ring := by
  unfold State.countDelivery
  split <;> split <;> simp (disch := decide) only [State.rd_inc_shared]

theorem State.deliver_taken (hfind : s.host.buf.find? (fun b => s.bufRing b == ring) = some b) (hmirror : b.mirror = none)
    (htakes : s.ringTakes ring b.func = true) (hring : s.toRing b ring (dropTags b.ntag b.data) b.ntag b.tci0 b.tci1 St.ok false = some u) :
    s.deliver ring false = (u.unbuffer b).countDelivery b := by
  rw [State.deliver, hfind]
  dsimp only
  rw [htakes, if_neg (by decide), if_neg Bool.false_ne_true, hring]
  exact State.mirrorCopy_none hmirror

theorem State.ringTakes_owner {f : Nat} (htakes : s.ringTakes ring f = true) : s.rd Reg.HIF_RX_CTL_OWNER 0 ring = f := by
  simp only [State.ringTakes, Bool.and_eq_true, beq_iff_eq] at htakes
  exact htakes.2

theorem frameDelivery_taken (hrun : s.runs .core = true) (hfind : s.host.buf.find? (fun b => s.bufRing b == ring) = some b)
    (hring : ring < 1024) (htakes : s.ringTakes ring b.func = true) (hdma : s.canDma b.func = true)
    (hcq : s.cqFull (s.rd Reg.HIF_RX_CQ 0 ring) = false)
    (htake : takePosts (dropTags b.ntag b.data).length (s.rxr ring).posts = some (used, left)) (hmirror : b.mirror = none)
    (hecc : ecc = false) : ∃ t, exec (.frameDelivery ring ecc) s = .next t ∧ t.host.buf = s.host.buf.erase b ∧ (t.rxr ring).posts = left ∧
    Counted Reg.HIF_RX_IDX_CONS 0 ring used.length s t ∧
    (t.cq (s.rd Reg.HIF_RX_CQ 0 ring)).waiting.length = (s.cq (s.rd Reg.HIF_RX_CQ 0 ring)).waiting.length + 1 := by
  subst hecc
  obtain ⟨ws, entry, hfill⟩ := s.toRing_fills (b := b) (ntag := b.ntag) (tci0 := b.tci0) (tci1 := b.tci1) (status := St.ok) (mirror := false)
    (by rw [State.ringTakes_owner htakes, hdma]) hcq htake
  refine ⟨_, exec_frameDelivery hrun, ?_⟩
  rw [State.deliver_taken hfind hmirror htakes hfill]
  have counts := s.fillPosts_counts (c := s.rd Reg.HIF_RX_CQ 0 ring) (used := used) (left := left) (ws := ws) (entry := entry)
    (Nat.lt_trans hring (by decide))
  refine ⟨?_, ?_, counted_of_rd_after State.countDelivery_cons counts, ?_⟩
  · rw [State.countDelivery_host, State.unbuffer, State.fillPosts_buf]
  · rw [State.rxr_of_host (congrArg HostSt.rxr State.countDelivery_host), State.rxr_of_host State.unbuffer_rxr, State.fillPosts_posts]
  · rw [State.cq_of_host (congrArg HostSt.cqs State.countDelivery_host), State.cq_of_host State.unbuffer_cqs, State.fillPosts_waiting]

/-! ### RX_STARVED -/

theorem State.starved_marks (hfind : s.host.buf.find? (fun b => s.bufRing b == ring) = some b) (htakes : s.ringTakes ring b.func = true)
    (hposts : takePosts (dropTags b.ntag b.data).length (s.rxr ring).posts = none) (hnew : (s.rxr ring).starvedMs ≠ some s.msNow) :
    s.starved ring = (s.setRxr ring fun x => { x with starvedMs := some s.msNow }).hostEvent 16 (s.rd Reg.HIF_RX_CTL_OWNER 0 ring)
      (s.rd Reg.HIF_RX_CTL_OWNER 0 ring + 65536 * ring)
      (s.rd Reg.HIF_RX_CTL_OWNER 0 ring + 65536 * s.localIdx .rx (s.rd Reg.HIF_RX_CTL_OWNER 0 ring) ring) := by
  rw [State.starved, hfind]
  exact if_neg (by simp [htakes, hposts, hnew])

theorem rxStarved_marks (hfind : s.host.buf.find? (fun b => s.bufRing b == ring) = some b) (htakes : s.ringTakes ring b.func = true)
    (hposts : takePosts (dropTags b.ntag b.data).length (s.rxr ring).posts = none) (hnew : (s.rxr ring).starvedMs ≠ some s.msNow) :
    ∃ t, exec (.rxStarved ring) s = .next t ∧ (t.rxr ring).starvedMs = some s.msNow ∧ t.host.buf = s.host.buf := by
  refine ⟨_, congrArg Host.Outcome.next (State.starved_marks hfind htakes hposts hnew), ?_, State.raiseFuel_buf⟩
  rw [State.rxr_of_host (t := State.hostEvent ..) State.raiseFuel_rxr, State.setRxr_rxr]

theorem rxStarved_stands (hmarked : (s.rxr ring).starvedMs = some s.msNow) : exec (.rxStarved ring) s = .next s := by
  refine congrArg Host.Outcome.next ?_
  unfold State.starved
  split
  · rfl
  · exact if_pos (by simp [hmarked])

end

/-- Settles O15: the oldest frame of the ring goes, dropped where its ring does not take it, else past the posts it fills; an event leaves
the ring's mark. -/
theorem framesAreDeliveredToRings : Obligations.FramesAreDeliveredToRings := by
  unfold Obligations.FramesAreDeliveredToRings
  exact ⟨fun _ _ _ => frameDelivery_empty, fun _ _ _ _ => frameDelivery_refused, fun _ _ _ _ _ _ => frameDelivery_taken,
    fun _ _ _ => rxStarved_marks, fun _ _ => rxStarved_stands⟩

end Sys2Proof.Machine

/-! SUPPORT. A commit that takes effect while CUR_VER holds more than its width (07_downstream_classification.md, R203). -/

namespace Sys2Proof.Machine

/-- The version that was current drains: its number moves into DRAIN_VER, at that field's width. -/
theorem State.commitEffective_drainVer {s : State} (hgroup : s.rd Reg.CLS_COMMIT_STATUS_GROUP = 2) (hframe : (s.wave s.active 0).fn = 0)
    (hdue : s.cls.commitAt + 50000 ≤ s.runNs) : s.commitEffective.rd Reg.CLS_COMMIT_STATUS_DRAIN_VER =
      s.rd Reg.CLS_COMMIT_STATUS_CUR_VER % 2 ^ Reg.CLS_COMMIT_STATUS_DRAIN_VER.width := by
  unfold State.commitEffective
  rw [if_neg (by simp [hgroup, hframe, hdue])]
  dsimp only
  rw [(State.bulkPassed_foot ..).rd_keeps rfl, (State.event_foot ..).rd_keeps rfl, State.rd_inc_shared rfl, State.wr2, State.rd_wr_shared rfl,
    State.rd_wr_shared rfl, State.rd_wr_shared rfl, State.rd_wr_shared rfl, State.rd_wr_shared rfl, State.rd_wr_shared rfl,
    State.rd_wr_same Nat.one_pos, State.rd_set_cls, (State.applyStaged_foot ..).rd_keeps rfl]

/-- A pending commit 50 us after its acceptance, at frame 0 of the active leg: the state after reset, but for the running time, GROUP, and
the eight-bit field CUR_VER, which holds 256. -/
def wideVersion : State :=
  { State.reset with
    regs := [(Reg.CLS_COMMIT_STATUS_GROUP.key 0 0, 2), (Reg.CLS_COMMIT_STATUS_CUR_VER.key 0 0, 256)]
    time := { State.reset.time with run40 := 50000 * 2 ^ 40 } }

/-- The invariant does not exclude the state. -/
theorem wideVersion_inv : Inv wideVersion := ⟨⟨rfl, rfl, rfl⟩, bounded_reset⟩

theorem wideVersion_version : wideVersion.rd Reg.CLS_COMMIT_STATUS_CUR_VER = 256 := rfl

theorem wideVersion_drains : wideVersion.commitEffective.rd Reg.CLS_COMMIT_STATUS_DRAIN_VER = 0 :=
  State.commitEffective_drainVer rfl rfl (by decide)

/-- Refutes O36, by its clause for a commit that takes effect: it has DRAIN_VER read what CUR_VER read, with no bound on that. CUR_VER holds
256, past its eight bits; the model moves it into DRAIN_VER at that field's width, which reads 0. -/
theorem not_versionsAreCommittedAndDrained : ¬ Obligations.VersionsAreCommittedAndDrained := by
  unfold Obligations.VersionsAreCommittedAndDrained
  rintro ⟨-, -, -, -, -, -, -, -, -, heffective, -⟩
  obtain ⟨t, ht, -, hdrain, -⟩ := heffective wideVersion rfl rfl (by decide)
  obtain rfl : wideVersion.commitEffective = t := Host.Outcome.next.inj ht
  rw [wideVersion_drains, wideVersion_version] at hdrain
  exact absurd hdrain (by decide)

end Sys2Proof.Machine

/-! SUPPORT. What the commands over the stream table and over the trees share (07_downstream_classification.md, R187, R410; R25): an
agent's own registers by number, and the state that an access of an agent meets. -/

namespace Sys2Proof.Machine

section
variable {s t : State} {ag : Agent} {R Q : Row} {v i j m : Nat} {f : State → State}

/-! ### An agent's own registers, by number (R408) -/

theorem State.rdA_wrA_at (h : i < R.n) : (s.wrA ag R v 0 i).rdA ag R 0 i = v % 2 ^ R.width := by
  unfold State.rdA State.wrA
  cases ag.isFw
  · exact State.rd_wr_same h
  · exact State.rd_wr_same (s := { s with regs := s.fwRegs }) h

theorem State.rdA_wrA_instance (h : R.key 0 j ≠ R.key 0 i) : (s.wrA ag R v 0 i).rdA ag R 0 j = s.rdA ag R 0 j := by
  unfold State.rdA State.wrA
  cases ag.isFw
  · exact State.rd_wr_key h
  · exact State.rd_wr_key (s := { s with regs := s.fwRegs }) h

theorem State.rdA_wrA_row (h : otherRow Q R = true) : (s.wrA ag R v 0 i).rdA ag Q 0 j = s.rdA ag Q 0 j := by
  unfold State.rdA State.wrA
  cases ag.isFw
  · exact State.rd_wr_shared h
  · exact State.rd_wr_shared (s := { s with regs := s.fwRegs }) h

theorem State.rd_wrA (h : otherRow Q R = true) : (s.wrA ag R v 0 i).rd Q 0 j = s.rd Q 0 j := by
  unfold State.wrA
  cases ag.isFw
  · exact State.rd_wr_shared h
  · rfl

@[simp] theorem State.wrA_cls {l : Nat} : (s.wrA ag R v l i).cls = s.cls := by
  unfold State.wrA
  cases ag.isFw <;> rfl

/-- A footprint that keeps firmware's own instances and the field keeps what any agent reads. -/
theorem Foot.rdA_keeps (h : Foot m s t) (hk : keepsRow m R = true) (hfw : m.testBit 1000 = false) : t.rdA ag R 0 i = s.rdA ag R 0 i := by
  have hpf := h.rd_at (i := i) hk
  unfold State.rdA
  rw [h.fwRegs hfw]
  cases ag.isFw
  · exact hpf
  · rfl

/-! ### Four words -/

/-- Instances of a field lie apart. -/
theorem Row.key_instance_ne (hstride : 0 < R.stride) (h : i ≠ j) : R.key 0 i ≠ R.key 0 j := by
  unfold Row.key
  intro hkey
  exact h (Nat.eq_of_mul_eq_mul_right hstride (by omega))

theorem State.wrWords_eq : s.wrWords ag R v = (((s.wrA ag R (bits v 31 0) 0 0).wrA ag R (bits v 63 32) 0 1).wrA ag R (bits v 95 64) 0 2).wrA
    ag R (bits v 127 96) 0 3 := rfl

@[simp] theorem State.wrWords_cls : (s.wrWords ag R v).cls = s.cls := by
  simp only [State.wrWords_eq, State.wrA_cls]

/-- Each of four 32-bit words holds its part of the number. -/
theorem State.rdA_wrWords (hn : R.n = 4) (hwidth : R.width = 32) (hstride : 0 < R.stride) (hi : i < 4) :
    (s.wrWords ag R v).rdA ag R 0 i = bits v (32 * i + 31) (32 * i) := by
  have apart : ∀ {j}, i ≠ j → R.key 0 i ≠ R.key 0 j := Row.key_instance_ne hstride
  rw [State.wrWords_eq]
  interval_cases i
  · rw [State.rdA_wrA_instance (apart (by decide)), State.rdA_wrA_instance (apart (by decide)), State.rdA_wrA_instance (apart (by decide)),
      State.rdA_wrA_at (by omega), hwidth]
    exact bits_mod_width
  · rw [State.rdA_wrA_instance (apart (by decide)), State.rdA_wrA_instance (apart (by decide)), State.rdA_wrA_at (by omega), hwidth]
    exact bits_mod_width
  · rw [State.rdA_wrA_instance (apart (by decide)), State.rdA_wrA_at (by omega), hwidth]
    exact bits_mod_width
  · rw [State.rdA_wrA_at (by omega), hwidth]
    exact bits_mod_width

/-! ### The state that an access meets (R367) -/

/-- What an agent's access to a block that idle gates meets: one from the host has ended idle. -/
def State.met (s : State) (ag : Agent) : State := if ag = .pf then s.idleExit 11 else s

theorem State.met_foot : Foot fp21 s (s.met ag) := .ite (State.idleExit_foot ..) .refl

theorem State.gated_met (hreach : s.reach ag = true) : s.gated ag f = f (s.met ag) := if_pos hreach

@[simp] theorem State.met_cls : (s.met ag).cls = s.cls := State.met_foot.cls rfl

theorem State.met_rd (hk : keepsRow fp21 R = true) : (s.met ag).rd R 0 i = s.rd R 0 i := State.met_foot.rd_at hk

theorem State.met_rdA (hk : keepsRow fp21 R = true) : (s.met ag).rdA ag R 0 i = s.rdA ag R 0 i := State.met_foot.rdA_keeps hk rfl

theorem State.met_rdWords (hk : keepsRow fp21 R = true) : (s.met ag).rdWords ag R = s.rdWords ag R := by
  unfold State.rdWords
  exact congrArg (List.foldr · 0 _) (funext fun k => funext fun n => by rw [State.met_rdA hk])

@[simp] theorem State.met_fwPresent : (s.met ag).fwPresent = s.fwPresent := by
  rw [State.fwPresent, State.isOn, State.met_rd rfl, State.fwPresent, State.isOn]

end

end Sys2Proof.Machine

/-! SUPPORT. The stream table's commands (07_downstream_classification.md, R182, R184, R187 to R189). -/

namespace Sys2Proof.Machine

section
variable {s : State} {ag : Agent} {R : Row} {i e idx st view : Nat} {stage : Bool} {act : State → Nat × State}

/-! ### A command that runs, and one that does not (R187, R25) -/

/-- The status that an agent's running stream command will report. -/
abbrev State.stblHeld (s : State) (ag : Agent) : Option Nat := if ag.isFw then s.cls.stblStFw else s.cls.stblSt

/-- The agent's registers are BUSY, with the status to report. -/
def State.stblStarted (s : State) (ag : Agent) (st : Nat) : State := (s.wrA ag Reg.STBL_CMD_BUSY 1).holdStbl ag (some st)

@[simp] theorem State.holdStbl_held {h : Option Nat} : (s.holdStbl ag h).stblHeld ag = h := by
  unfold State.stblHeld State.holdStbl
  cases ag.isFw <;> rfl

theorem State.holdStbl_streams {h : Option Nat} : (s.holdStbl ag h).cls.streams = s.cls.streams := by
  unfold State.holdStbl
  cases ag.isFw <;> rfl

theorem State.holdStbl_staged {h : Option Nat} : (s.holdStbl ag h).cls.staged = s.cls.staged := by
  unfold State.holdStbl
  cases ag.isFw <;> rfl

theorem State.rdA_holdStbl {h : Option Nat} : (s.holdStbl ag h).rdA ag R 0 i = s.rdA ag R 0 i := by
  unfold State.holdStbl State.rdA
  cases ag.isFw <;> rfl

theorem State.rd_holdStbl {h : Option Nat} : (s.holdStbl ag h).rd R 0 i = s.rd R 0 i := by
  unfold State.holdStbl
  cases ag.isFw <;> rfl

theorem State.stblStarted_held : (s.stblStarted ag st).stblHeld ag = some st := State.holdStbl_held

theorem State.stblStarted_busy : (s.stblStarted ag st).rdA ag Reg.STBL_CMD_BUSY = 1 :=
  State.rdA_holdStbl.trans (State.rdA_wrA_at Nat.one_pos)

theorem State.stblStarted_streams : (s.stblStarted ag st).cls.streams = s.cls.streams := by
  rw [State.stblStarted, State.holdStbl_streams, State.wrA_cls]

theorem State.stblStarted_staged : (s.stblStarted ag st).cls.staged = s.cls.staged := by
  rw [State.stblStarted, State.holdStbl_staged, State.wrA_cls]

theorem State.rdA_stblStarted (h : otherRow R Reg.STBL_CMD_BUSY = true) : (s.stblStarted ag st).rdA ag R 0 i = s.rdA ag R 0 i :=
  State.rdA_holdStbl.trans (State.rdA_wrA_row h)

theorem State.rd_stblStarted (h : otherRow R Reg.STBL_CMD_BUSY = true) : (s.stblStarted ag st).rd R 0 i = s.rd R 0 i :=
  State.rd_holdStbl.trans (State.rd_wrA h)

/-- A command written while BUSY shows BUSY. -/
theorem stblCmd_busy (hreach : s.reach ag = true) (hbusy : s.rdA ag Reg.STBL_CMD_BUSY ≠ 0) :
    ∃ t, (.next (s.gated ag fun s => s.stblCmd ag act) : Out) = .next t ∧ t.rdA ag Reg.STBL_CMD_STATUS = 1 ∧ t.cls = s.cls := by
  have heq : s.gated ag (fun s => s.stblCmd ag act) = (s.met ag).wrA ag Reg.STBL_CMD_STATUS St.busy :=
    (State.gated_met hreach).trans (if_pos (by rwa [State.met_rdA rfl]))
  refine ⟨_, congrArg _ heq, State.rdA_wrA_at Nat.one_pos, ?_⟩
  rw [State.wrA_cls, State.met_cls]

/-- Without firmware a command will report BUSY_RESTARTING. -/
theorem stblCmd_absent (hreach : s.reach ag = true) (hidle : s.rdA ag Reg.STBL_CMD_BUSY = 0) (hfw : s.fwPresent = false) :
    ∃ t, (.next (s.gated ag fun s => s.stblCmd ag act) : Out) = .next t ∧ t.rdA ag Reg.STBL_CMD_BUSY = 1 ∧ t.stblHeld ag = some 11 ∧
    t.cls.streams = s.cls.streams ∧ t.cls.staged = s.cls.staged := by
  have heq : s.gated ag (fun s => s.stblCmd ag act) = (s.met ag).stblStarted ag St.busyRestarting := by
    rw [State.gated_met hreach, State.stblCmd, if_neg (not_not.2 ((State.met_rdA rfl).trans hidle)), State.met_fwPresent, hfw]
    rfl
  refine ⟨_, congrArg _ heq, State.stblStarted_busy, State.stblStarted_held, ?_, ?_⟩
  · rw [State.stblStarted_streams, State.met_cls]
  · rw [State.stblStarted_staged, State.met_cls]

/-- A command on idle registers, with firmware present, acts on the state it meets, and will report the status that this gives. -/
theorem State.stblCmd_runs (hreach : s.reach ag = true) (hidle : s.rdA ag Reg.STBL_CMD_BUSY = 0) (hfw : s.fwPresent = true) :
    s.gated ag (fun s => s.stblCmd ag act) = (act (s.met ag)).2.stblStarted ag (act (s.met ag)).1 := by
  rw [State.gated_met hreach, State.stblCmd, if_neg (not_not.2 ((State.met_rdA rfl).trans hidle)), State.met_fwPresent, hfw]
  rfl

/-- A command whose action gives x and the status st. -/
theorem stblCmd_gives {x : State} (hreach : s.reach ag = true) (hidle : s.rdA ag Reg.STBL_CMD_BUSY = 0) (hfw : s.fwPresent = true)
    (hact : act (s.met ag) = (st, x)) : (.next (s.gated ag fun s => s.stblCmd ag act) : Out) = .next (x.stblStarted ag st) := by
  rw [State.stblCmd_runs hreach hidle hfw, hact]

/-! ### What a write, or a compare and write, comes to -/

theorem State.met_stream : (s.met ag).stream idx = s.stream idx := by rw [State.stream, State.met_cls, State.stream]

theorem State.met_streamDrain : (s.met ag).streamDrain idx = s.streamDrain idx := by
  unfold State.streamDrain
  rw [State.met_cls, State.met_stream]

theorem State.met_streamStaged : (s.met ag).streamStaged idx = s.streamStaged idx := by
  unfold State.streamStaged
  rw [State.met_cls, State.met_stream]

theorem State.met_streamView : (s.met ag).streamView view idx = s.streamView view idx := by
  unfold State.streamView
  rw [State.met_stream, State.met_streamDrain, State.met_streamStaged]

theorem State.met_entryRefused : (s.met ag).entryRefused e = s.entryRefused e := by
  rw [State.entryRefused, State.groupSize, State.met_rd rfl, State.entryRefused, State.groupSize]

/-- A write of an agent's words is INVALID outside a group where it is staged, and where R182 refuses the entry. -/
theorem State.met_stblWrite : (s.met ag).stblWrite ag stage =
    if stage && s.rd Reg.CLS_COMMIT_STATUS_GROUP != 1 then (St.invalid, s.met ag)
    else if s.entryRefused (s.rdWords ag Reg.STBL_DATA) then (St.invalid, s.met ag)
    else (s.met ag).putStream stage (s.rdA ag Reg.STBL_IDX) (s.rdWords ag Reg.STBL_DATA) := by
  unfold State.stblWrite
  dsimp only
  rw [State.met_rdWords rfl, State.met_rd rfl, State.met_entryRefused, State.met_rdA rfl]

theorem State.met_stblCompare : (s.met ag).stblCompare ag stage =
    if stage && s.rd Reg.CLS_COMMIT_STATUS_GROUP != 1 then (St.invalid, s.met ag)
    else if s.entryRefused (s.rdWords ag Reg.STBL_DATA) then (St.invalid, s.met ag)
    else if s.streamView (if stage then 2 else 0) (s.rdA ag Reg.STBL_IDX) ≠ s.rdWords ag Reg.STBL_CMP then
      (St.notFound, (s.met ag).wrWords ag Reg.STBL_DATA (s.streamView (if stage then 2 else 0) (s.rdA ag Reg.STBL_IDX)))
    else (s.met ag).putStream stage (s.rdA ag Reg.STBL_IDX) (s.rdWords ag Reg.STBL_DATA) := by
  unfold State.stblCompare
  dsimp only
  rw [State.met_rdWords rfl, State.met_rdWords rfl, State.met_rd rfl, State.met_entryRefused, State.met_rdA rfl, State.met_streamView]

/-! ### Entries that R182 refuses -/

theorem State.met_stblWrite_refused (h : s.entryRefused (s.rdWords ag Reg.STBL_DATA) = true) :
    (s.met ag).stblWrite ag stage = (St.invalid, s.met ag) := by
  rw [State.met_stblWrite, if_pos h, ite_self]

theorem State.met_stblCompare_refused (h : s.entryRefused (s.rdWords ag Reg.STBL_DATA) = true) :
    (s.met ag).stblCompare ag stage = (St.invalid, s.met ag) := by
  rw [State.met_stblCompare, if_pos h, ite_self]

/-- A command that will report a refusal has moved nothing. -/
theorem stblCmd_invalid (hreach : s.reach ag = true) (hidle : s.rdA ag Reg.STBL_CMD_BUSY = 0) (hfw : s.fwPresent = true)
    (hact : act (s.met ag) = (st, s.met ag)) : ∃ t, (.next (s.gated ag fun s => s.stblCmd ag act) : Out) = .next t ∧
    t.cls.streams = s.cls.streams ∧ t.cls.staged = s.cls.staged ∧ t.stblHeld ag = some st := by
  refine ⟨_, stblCmd_gives hreach hidle hfw hact, ?_, ?_, State.stblStarted_held⟩
  · rw [State.stblStarted_streams, State.met_cls]
  · rw [State.stblStarted_staged, State.met_cls]

theorem State.entryRefused_iff : s.entryRefused e = true ↔ bits e 9 2 > 128 ∨ bits e 42 39 > 4 ∨
    ((bits e 45 44 = 1 ∨ bits e 45 44 = 3) ∧ bits e 51 46 ≥ s.groupSize (bits e 19 10)) ∨
    bits e 31 29 ≠ 0 ∨ bits e 63 54 ≠ 0 ∨ bits e 95 79 ≠ 0 ∨ bits e 127 109 ≠ 0 := by
  simp only [State.entryRefused, Bool.or_eq_true, Bool.and_eq_true, decide_eq_true_eq, beq_iff_eq, bne_iff_ne, or_assoc]

theorem stblWrite_refused (hreach : s.reach ag = true) (hidle : s.rdA ag Reg.STBL_CMD_BUSY = 0) (hfw : s.fwPresent = true)
    (hentry : s.entryRefused (s.rdWords ag Reg.STBL_DATA) = true) : ∃ t, exec (.stblWrite ag stage) s = .next t ∧
    t.cls.streams = s.cls.streams ∧ t.cls.staged = s.cls.staged ∧ t.stblHeld ag = some 2 :=
  stblCmd_invalid hreach hidle hfw (State.met_stblWrite_refused hentry)

theorem compareAndWrite_refused (hreach : s.reach ag = true) (hidle : s.rdA ag Reg.STBL_CMD_BUSY = 0) (hfw : s.fwPresent = true)
    (hentry : s.entryRefused (s.rdWords ag Reg.STBL_DATA) = true) : ∃ t, exec (.compareAndWrite ag stage) s = .next t ∧
    t.cls.streams = s.cls.streams ∧ t.cls.staged = s.cls.staged ∧ t.stblHeld ag = some 2 :=
  stblCmd_invalid hreach hidle hfw (State.met_stblCompare_refused hentry)

end

/-- Settles O55: each case of R182 makes `entryRefused` true, before either command looks at the table. -/
theorem streamEntriesOutOfRangeAreRefused : Obligations.StreamEntriesOutOfRangeAreRefused := by
  unfold Obligations.StreamEntriesOutOfRangeAreRefused
  refine ⟨?_, ?_, ?_, ?_, ?_, ?_, ?_, ?_⟩ <;> rintro ag stage _ s hreach hidle hfw rfl
  · exact fun hfunc => stblWrite_refused hreach hidle hfw (State.entryRefused_iff.2 (.inl hfunc))
  · exact fun htag => stblWrite_refused hreach hidle hfw (State.entryRefused_iff.2 (.inr (.inl htag)))
  · exact fun hact hring => stblWrite_refused hreach hidle hfw (State.entryRefused_iff.2 (.inr (.inr (.inl ⟨hact, hring⟩))))
  · exact fun hres => stblWrite_refused hreach hidle hfw (State.entryRefused_iff.2 (.inr (.inr (.inr hres))))
  · exact fun hfunc => compareAndWrite_refused hreach hidle hfw (State.entryRefused_iff.2 (.inl hfunc))
  · exact fun htag => compareAndWrite_refused hreach hidle hfw (State.entryRefused_iff.2 (.inr (.inl htag)))
  · exact fun hact hring => compareAndWrite_refused hreach hidle hfw (State.entryRefused_iff.2 (.inr (.inr (.inl ⟨hact, hring⟩))))
  · exact fun hres => compareAndWrite_refused hreach hidle hfw (State.entryRefused_iff.2 (.inr (.inr (.inr hres))))

end Sys2Proof.Machine

/-! SUPPORT. The stream table's commands, by what they do to the entry selected (07_downstream_classification.md, R184, R187 to R189). -/

namespace Sys2Proof.Machine

section
variable {s t : State} {ag : Agent} {R : Row} {i e idx st view sid : Nat} {stage : Bool}

/-! ### Reads -/

theorem stblRead_shows (hreach : s.reach ag = true) (hidle : s.rdA ag Reg.STBL_CMD_BUSY = 0) (hfw : s.fwPresent = true) :
    ∃ t, exec (.stblRead ag view) s = .next t ∧ t.rdA ag Reg.STBL_CMD_BUSY = 1 ∧ t.stblHeld ag = some 0 ∧
    ∀ i ∈ List.range 4, t.rdA ag Reg.STBL_DATA 0 i = bits (s.streamView view (s.rdA ag Reg.STBL_IDX)) (32 * i + 31) (32 * i) := by
  refine ⟨_, stblCmd_gives hreach hidle hfw rfl, State.stblStarted_busy, State.stblStarted_held, fun i hi => ?_⟩
  rw [State.rdA_stblStarted rfl, State.rdA_wrWords rfl rfl (by decide) (List.mem_range.1 hi), State.met_streamView, State.met_rdA rfl]

/-! ### Immediate writes (R188) -/

/-- An entry inserted: it has no before-image, and its pending bit of LEARN goes. -/
def State.inserted (s : State) (idx e : Nat) : State :=
  { s with cls := { s.cls with streams := Tab.put 0 idx e s.cls.streams, before := Tab.put 0 idx 0 s.cls.before } }.unlearn idx

theorem State.insertStream_new (hcur : bit (s.stream idx) 0 = 0) (hdrain : bit (s.streamDrain idx) 0 = 0)
    (hstaged : Tab.get 0 idx s.cls.staged = 0) : s.insertStream idx e = (St.ok, s.inserted idx e) := if_neg (by omega)

theorem State.insertStream_valid (hcur : bit (s.stream idx) 0 = 1) : s.insertStream idx e = (St.versionMismatch, s) := if_pos (.inl hcur)

theorem stblWrite_inserts (hreach : s.reach ag = true) (hidle : s.rdA ag Reg.STBL_CMD_BUSY = 0) (hfw : s.fwPresent = true)
    (hstage : stage = false) (hentry : s.entryRefused (s.rdWords ag Reg.STBL_DATA) = false)
    (hcur : bit (s.stream (s.rdA ag Reg.STBL_IDX)) 0 = 0) (hdrain : bit (s.streamDrain (s.rdA ag Reg.STBL_IDX)) 0 = 0)
    (hstaged : Tab.get 0 (s.rdA ag Reg.STBL_IDX) s.cls.staged = 0) : ∃ t, exec (.stblWrite ag stage) s = .next t ∧
    t.stream (s.rdA ag Reg.STBL_IDX) = s.rdWords ag Reg.STBL_DATA ∧ t.stblHeld ag = some 0 ∧ t.rdA ag Reg.STBL_CMD_BUSY = 1 := by
  subst hstage
  have hact : (s.met ag).stblWrite ag false =
      (St.ok, (s.met ag).inserted (s.rdA ag Reg.STBL_IDX) (s.rdWords ag Reg.STBL_DATA)) := by
    rw [State.met_stblWrite, Bool.false_and, if_neg Bool.false_ne_true, hentry, if_neg Bool.false_ne_true]
    exact State.insertStream_new (by rw [State.met_stream, hcur]) (by rw [State.met_streamDrain, hdrain]) (by rw [State.met_cls, hstaged])
  refine ⟨_, stblCmd_gives hreach hidle hfw hact, ?_, State.stblStarted_held, State.stblStarted_busy⟩
  rw [State.stream, State.stblStarted_streams]
  exact Tab.get_put_self ..

theorem stblWrite_valid (hreach : s.reach ag = true) (hidle : s.rdA ag Reg.STBL_CMD_BUSY = 0) (hfw : s.fwPresent = true)
    (hstage : stage = false) (hentry : s.entryRefused (s.rdWords ag Reg.STBL_DATA) = false)
    (hcur : bit (s.stream (s.rdA ag Reg.STBL_IDX)) 0 = 1) : ∃ t, exec (.stblWrite ag stage) s = .next t ∧
    t.cls.streams = s.cls.streams ∧ t.stblHeld ag = some 8 := by
  subst hstage
  have hact : (s.met ag).stblWrite ag false = (St.versionMismatch, s.met ag) := by
    rw [State.met_stblWrite, Bool.false_and, if_neg Bool.false_ne_true, hentry, if_neg Bool.false_ne_true]
    exact State.insertStream_valid (by rw [State.met_stream, hcur])
  obtain ⟨t, ht, hstreams, -, hheld⟩ := stblCmd_invalid (act := fun s => s.stblWrite ag false) hreach hidle hfw hact
  exact ⟨t, ht, hstreams, hheld⟩

/-! ### Staged writes (R189) -/

/-- An entry staged in place of what was staged for its stream. -/
def State.setStaged (s : State) (idx e : Nat) : State := { s with cls := { s.cls with staged := Tab.put 0 idx (e + 1) s.cls.staged } }

theorem State.stageStream_new (hgroup : s.rd Reg.CLS_COMMIT_STATUS_GROUP = 1) (hnew : Tab.get 0 idx s.cls.staged = 0)
    (hroom : s.rd Reg.CLS_STAGE_CNT_STAGED < 4096) :
    s.stageStream idx e = (St.ok, (s.inc Reg.CLS_STAGE_CNT_STAGED).setStaged idx e) := by
  rw [State.stageStream, if_neg (not_not.2 hgroup), if_neg (by omega), if_pos hnew]
  rfl

theorem State.stageStream_again (hgroup : s.rd Reg.CLS_COMMIT_STATUS_GROUP = 1) (hold : Tab.get 0 idx s.cls.staged ≠ 0) :
    s.stageStream idx e = (St.ok, s.setStaged idx e) := by
  rw [State.stageStream, if_neg (not_not.2 hgroup), if_neg (fun h => hold h.1), if_neg hold]
  rfl

theorem State.setStaged_streams : (s.setStaged idx e).cls.streams = s.cls.streams := rfl

theorem State.setStaged_staged : (s.setStaged idx e).streamStaged idx = e := by
  unfold State.streamStaged State.setStaged
  rw [Tab.get_put_self]

theorem State.stblStarted_streamStaged : (s.stblStarted ag st).streamStaged idx = s.streamStaged idx := by
  unfold State.streamStaged State.stream
  rw [State.stblStarted_staged, State.stblStarted_streams]

/-- A stream's first change in the group is staged and counted. -/
theorem stblCmd_stages {act : State → Nat × State} (hreach : s.reach ag = true) (hidle : s.rdA ag Reg.STBL_CMD_BUSY = 0)
    (hfw : s.fwPresent = true) (hgroup : s.rd Reg.CLS_COMMIT_STATUS_GROUP = 1) (hnew : Tab.get 0 idx s.cls.staged = 0)
    (hroom : s.rd Reg.CLS_STAGE_CNT_STAGED < 4096) (hact : act (s.met ag) = (s.met ag).stageStream idx e) :
    ∃ t, (.next (s.gated ag fun s => s.stblCmd ag act) : Out) = .next t ∧ t.streamStaged idx = e ∧
    t.rd Reg.CLS_STAGE_CNT_STAGED = s.rd Reg.CLS_STAGE_CNT_STAGED + 1 ∧ t.stblHeld ag = some 0 ∧ t.cls.streams = s.cls.streams := by
  have hstage : (s.met ag).stageStream idx e = (St.ok, ((s.met ag).inc Reg.CLS_STAGE_CNT_STAGED).setStaged idx e) :=
    State.stageStream_new (by rw [State.met_rd rfl, hgroup]) (by rw [State.met_cls, hnew]) (by rwa [State.met_rd rfl])
  refine ⟨_, stblCmd_gives hreach hidle hfw (hact.trans hstage), ?_, ?_, State.stblStarted_held, ?_⟩
  · rw [State.stblStarted_streamStaged, State.setStaged_staged]
  · rw [State.rd_stblStarted rfl, State.setStaged, State.rd_set_cls, State.rd_inc_same Nat.one_pos, State.met_rd rfl]
    exact Nat.mod_eq_of_lt (Nat.lt_trans (Nat.succ_lt_succ hroom) (by decide))
  · rw [State.stblStarted_streams, State.setStaged_streams, State.inc_cls, State.met_cls]

theorem stblWrite_stages (hreach : s.reach ag = true) (hidle : s.rdA ag Reg.STBL_CMD_BUSY = 0) (hfw : s.fwPresent = true)
    (hstage : stage = true) (hentry : s.entryRefused (s.rdWords ag Reg.STBL_DATA) = false) (hgroup : s.rd Reg.CLS_COMMIT_STATUS_GROUP = 1)
    (hnew : Tab.get 0 (s.rdA ag Reg.STBL_IDX) s.cls.staged = 0) (hroom : s.rd Reg.CLS_STAGE_CNT_STAGED < 4096) :
    ∃ t, exec (.stblWrite ag stage) s = .next t ∧ t.streamStaged (s.rdA ag Reg.STBL_IDX) = s.rdWords ag Reg.STBL_DATA ∧
    t.rd Reg.CLS_STAGE_CNT_STAGED = s.rd Reg.CLS_STAGE_CNT_STAGED + 1 ∧ t.stblHeld ag = some 0 ∧ t.cls.streams = s.cls.streams := by
  subst hstage
  refine stblCmd_stages hreach hidle hfw hgroup hnew hroom ?_
  rw [State.met_stblWrite, hgroup, if_neg (by decide), hentry, if_neg Bool.false_ne_true]
  rfl

theorem stblWrite_noGroup (hreach : s.reach ag = true) (hidle : s.rdA ag Reg.STBL_CMD_BUSY = 0) (hfw : s.fwPresent = true)
    (hstage : stage = true) (hgroup : s.rd Reg.CLS_COMMIT_STATUS_GROUP ≠ 1) : ∃ t, exec (.stblWrite ag stage) s = .next t ∧
    t.cls.streams = s.cls.streams ∧ t.cls.staged = s.cls.staged ∧ t.stblHeld ag = some 2 :=
  stblCmd_invalid hreach hidle hfw (State.met_stblWrite.trans (if_pos (by simp [hstage, hgroup])))

/-! ### INVALIDATE -/

theorem stblInvalidate_immediate (hreach : s.reach ag = true) (hidle : s.rdA ag Reg.STBL_CMD_BUSY = 0) (hfw : s.fwPresent = true)
    (hstage : stage = false) : ∃ t, exec (.stblInvalidate ag stage) s = .next t ∧ t.cls.streams = s.cls.streams ∧ t.stblHeld ag = some 8 := by
  subst hstage
  obtain ⟨t, ht, hstreams, -, hheld⟩ := stblCmd_invalid (act := fun s => s.stblInvalidate ag false) hreach hidle hfw rfl
  exact ⟨t, ht, hstreams, hheld⟩

theorem stblInvalidate_stages (hreach : s.reach ag = true) (hidle : s.rdA ag Reg.STBL_CMD_BUSY = 0) (hfw : s.fwPresent = true)
    (hstage : stage = true) (hgroup : s.rd Reg.CLS_COMMIT_STATUS_GROUP = 1) (hnew : Tab.get 0 (s.rdA ag Reg.STBL_IDX) s.cls.staged = 0)
    (hroom : s.rd Reg.CLS_STAGE_CNT_STAGED < 4096) : ∃ t, exec (.stblInvalidate ag stage) s = .next t ∧
    t.streamStaged (s.rdA ag Reg.STBL_IDX) = 0 ∧ t.rd Reg.CLS_STAGE_CNT_STAGED = s.rd Reg.CLS_STAGE_CNT_STAGED + 1 ∧ t.stblHeld ag = some 0 := by
  subst hstage
  obtain ⟨t, ht, hentry, hcount, hheld, -⟩ := stblCmd_stages (act := fun s => s.stblInvalidate ag true) (e := 0) hreach hidle hfw hgroup hnew
    hroom (by rw [State.stblInvalidate, if_pos rfl, State.met_rdA rfl])
  exact ⟨t, ht, hentry, hcount, hheld⟩

/-! ### COMPARE_AND_WRITE -/

theorem compareAndWrite_differs (hreach : s.reach ag = true) (hidle : s.rdA ag Reg.STBL_CMD_BUSY = 0) (hfw : s.fwPresent = true)
    (hstage : stage = false) (hentry : s.entryRefused (s.rdWords ag Reg.STBL_DATA) = false)
    (hdiffers : s.stream (s.rdA ag Reg.STBL_IDX) ≠ s.rdWords ag Reg.STBL_CMP) : ∃ t, exec (.compareAndWrite ag stage) s = .next t ∧
    t.cls.streams = s.cls.streams ∧ t.stblHeld ag = some 4 ∧
    t.rdA ag Reg.STBL_DATA 0 0 = bits (s.stream (s.rdA ag Reg.STBL_IDX)) 31 0 := by
  subst hstage
  have hact : (s.met ag).stblCompare ag false =
      (St.notFound, (s.met ag).wrWords ag Reg.STBL_DATA (s.stream (s.rdA ag Reg.STBL_IDX))) := by
    rw [State.met_stblCompare, Bool.false_and, if_neg Bool.false_ne_true, hentry, if_neg Bool.false_ne_true]
    exact if_pos hdiffers
  refine ⟨_, stblCmd_gives hreach hidle hfw hact, ?_, State.stblStarted_held, ?_⟩
  · rw [State.stblStarted_streams, State.wrWords_cls, State.met_cls]
  · rw [State.rdA_stblStarted rfl, State.rdA_wrWords rfl rfl (by decide) (by decide)]

theorem compareAndWrite_restages (hreach : s.reach ag = true) (hidle : s.rdA ag Reg.STBL_CMD_BUSY = 0) (hfw : s.fwPresent = true)
    (hstage : stage = true) (hentry : s.entryRefused (s.rdWords ag Reg.STBL_DATA) = false) (hgroup : s.rd Reg.CLS_COMMIT_STATUS_GROUP = 1)
    (hagrees : s.streamStaged (s.rdA ag Reg.STBL_IDX) = s.rdWords ag Reg.STBL_CMP)
    (hold : Tab.get 0 (s.rdA ag Reg.STBL_IDX) s.cls.staged ≠ 0) : ∃ t, exec (.compareAndWrite ag stage) s = .next t ∧
    t.streamStaged (s.rdA ag Reg.STBL_IDX) = s.rdWords ag Reg.STBL_DATA ∧
    t.rd Reg.CLS_STAGE_CNT_STAGED = s.rd Reg.CLS_STAGE_CNT_STAGED ∧ t.stblHeld ag = some 0 := by
  subst hstage
  have hact : (s.met ag).stblCompare ag true =
      (St.ok, (s.met ag).setStaged (s.rdA ag Reg.STBL_IDX) (s.rdWords ag Reg.STBL_DATA)) := by
    rw [State.met_stblCompare, hgroup, if_neg (by decide), hentry, if_neg Bool.false_ne_true]
    exact (if_neg (not_not.2 hagrees)).trans (State.stageStream_again (by rw [State.met_rd rfl, hgroup]) (by rwa [State.met_cls]))
  refine ⟨_, stblCmd_gives hreach hidle hfw hact, ?_, ?_, State.stblStarted_held⟩
  · rw [State.stblStarted_streamStaged, State.setStaged_staged]
  · rw [State.rd_stblStarted rfl, State.setStaged, State.rd_set_cls, State.met_rd rfl]

/-! ### The end of a command -/

theorem State.stblDone_of_held (hheld : s.stblHeld ag = some st) : s.stblDone ag =
    (((s.holdStbl ag none).wrA ag Reg.STBL_CMD_BUSY 0).wrA ag Reg.STBL_CMD_STATUS st).event (Ev.cls 2) := by
  rw [State.stblHeld] at hheld
  rw [State.stblDone, hheld]

theorem State.stblDone_of_none (hheld : s.stblHeld ag = none) : s.stblDone ag = s := by
  rw [State.stblHeld] at hheld
  rw [State.stblDone, hheld]

theorem stblCmdDone_shows (hreach : s.reach ag = true) (hheld : s.stblHeld ag = some st) (hst : st < 16) :
    ∃ t, exec (.stblCmdDone ag) s = .next t ∧ t.rdA ag Reg.STBL_CMD_BUSY = 0 ∧ t.rdA ag Reg.STBL_CMD_STATUS = st ∧ t.stblHeld ag = none := by
  refine ⟨s.stblDone ag, congrArg Host.Outcome.next (if_pos hreach), ?_⟩
  rw [State.stblDone_of_held hheld]
  refine ⟨?_, ?_, ?_⟩
  · rw [(State.event_foot ..).rdA_keeps rfl rfl, State.rdA_wrA_row rfl, State.rdA_wrA_at Nat.one_pos]
    rfl
  · rw [(State.event_foot ..).rdA_keeps rfl rfl, State.rdA_wrA_at Nat.one_pos]
    exact Nat.mod_eq_of_lt (Nat.lt_trans hst (by decide))
  · rw [State.stblHeld, (State.event_foot ..).cls rfl, State.wrA_cls, State.wrA_cls]
    exact State.holdStbl_held

theorem stblCmdDone_stands (hheld : s.stblHeld ag = none) : exec (.stblCmdDone ag) s = .next s := by
  refine congrArg Host.Outcome.next ?_
  rw [State.reg, State.stblDone_of_none hheld, ite_self]

/-! ### Statistics and LEARN's pending bits (R181, R184) -/

theorem statLatch_shows (hreach : s.reach ag = true) (hidx : idx < 16384) : ∃ t, exec (.statLatch ag idx) s = .next t ∧
    t.rdA ag Reg.STBL_STAT_FRAMES = (Tab.get (0, 0) idx s.cls.stats).1 % 2 ^ Reg.STBL_STAT_FRAMES.width ∧
    t.rdA ag Reg.STBL_STAT_BYTES = (Tab.get (0, 0) idx s.cls.stats).2 % 2 ^ Reg.STBL_STAT_BYTES.width := by
  refine ⟨_, congrArg Host.Outcome.next (State.gated_met (f := fun s => s.statLatch ag idx) hreach), ?_⟩
  unfold State.statLatch
  rw [State.rdA_wrA_row rfl, State.rdA_wrA_at Nat.one_pos, State.rdA_wrA_at Nat.one_pos, State.met_cls, Nat.mod_eq_of_lt hidx]
  exact ⟨rfl, rfl⟩

theorem learnRearm_clears (hreach : s.reach ag = true) : ∃ t, exec (.learnRearm ag) s = .next t ∧ t.cls = { s.cls with learnPend := [] } := by
  refine ⟨_, congrArg Host.Outcome.next (State.gated_met (f := State.rearm) hreach), ?_⟩
  rw [State.rearm, State.met_cls]

end

/-- Settles O34: the registers' BUSY and firmware's presence decide whether a command runs at all; one that runs, by its case of R188 and
R189. -/
theorem streamEntriesAreReadAndWritten : Obligations.StreamEntriesAreReadAndWritten := by
  unfold Obligations.StreamEntriesAreReadAndWritten
  exact ⟨fun _ _ _ => stblRead_shows, fun _ _ _ => stblCmd_busy, fun _ _ _ => stblCmd_absent, fun _ _ _ => stblCmd_busy,
    fun _ _ _ => stblCmd_absent, fun _ _ _ => stblCmd_busy, fun _ _ _ => stblCmd_absent, fun _ _ _ => stblCmd_busy,
    fun _ _ _ => stblCmd_absent, fun _ _ _ => stblWrite_inserts, fun _ _ _ => stblWrite_valid, fun _ _ _ => stblWrite_stages,
    fun _ _ _ => stblWrite_noGroup, fun _ _ _ => stblInvalidate_immediate, fun _ _ _ => stblInvalidate_stages,
    fun _ _ _ => compareAndWrite_differs, fun _ _ _ => compareAndWrite_restages, fun _ _ _ => stblCmdDone_shows,
    fun _ _ => stblCmdDone_stands, fun _ _ _ => statLatch_shows, fun _ _ => rfl, fun _ _ => learnRearm_clears⟩

end Sys2Proof.Machine

/-! SUPPORT. The commands over nodes, roots and field descriptors (07_downstream_classification.md, R190 to R194, R410). -/

namespace Sys2Proof.Machine

section
variable {s t : State} {ag : Agent} {R : Row} {i n v st bank : Nat} {act : State → Nat × State} {held : Option Nat}

/-! ### A command that runs, and one that does not (R410, R25) -/

/-- The status that an agent's running classifier command will report. -/
abbrev State.clsHeld (s : State) (ag : Agent) : Option Nat := if ag.isFw then s.cls.clsStFw else s.cls.clsSt

/-- The agent's registers are BUSY, with the status to report. -/
def State.clsStarted (s : State) (ag : Agent) (st : Nat) : State := (s.wrA ag Reg.CLS_CMD_BUSY 1).holdCls ag (some st)

@[simp] theorem State.holdCls_held : (s.holdCls ag held).clsHeld ag = held := by
  unfold State.clsHeld State.holdCls
  cases ag.isFw <;> rfl

theorem State.rdA_holdCls : (s.holdCls ag held).rdA ag R 0 i = s.rdA ag R 0 i := by
  unfold State.holdCls State.rdA
  cases ag.isFw <;> rfl

theorem State.clsStarted_held : (s.clsStarted ag st).clsHeld ag = some st := State.holdCls_held

theorem State.clsStarted_busy : (s.clsStarted ag st).rdA ag Reg.CLS_CMD_BUSY = 1 := State.rdA_holdCls.trans (State.rdA_wrA_at Nat.one_pos)

theorem State.rdA_clsStarted (h : otherRow R Reg.CLS_CMD_BUSY = true) : (s.clsStarted ag st).rdA ag R 0 i = s.rdA ag R 0 i :=
  State.rdA_holdCls.trans (State.rdA_wrA_row h)

/-- Two states with the same trees: nodes, and the current and the staged roots and field descriptors. -/
structure SameTrees (s t : State) : Prop where
  nodes : t.cls.nodes = s.cls.nodes
  roots : t.cls.roots = s.cls.roots
  rootsS : t.cls.rootsS = s.cls.rootsS
  profs : t.cls.profs = s.cls.profs
  profsS : t.cls.profsS = s.cls.profsS

theorem SameTrees.of_cls (h : t.cls = s.cls) : SameTrees s t := by constructor <;> rw [h]

theorem SameTrees.clsStarted : SameTrees s (s.clsStarted ag st) := by
  unfold State.clsStarted State.holdCls
  cases ag.isFw <;> constructor <;> simp only [State.wrA_cls, if_true, if_false, Bool.false_eq_true]

theorem SameTrees.trans {u : State} (h : SameTrees s t) (h' : SameTrees t u) : SameTrees s u where
  nodes := h'.nodes.trans h.nodes
  roots := h'.roots.trans h.roots
  rootsS := h'.rootsS.trans h.rootsS
  profs := h'.profs.trans h.profs
  profsS := h'.profsS.trans h.profsS

/-- A command written while BUSY shows BUSY. -/
theorem clsCmd_busy (hreach : s.reach ag = true) (hbusy : s.rdA ag Reg.CLS_CMD_BUSY ≠ 0) :
    ∃ t, (.next (s.gated ag fun s => s.clsCmd ag act) : Out) = .next t ∧ t.rdA ag Reg.CLS_CMD_STATUS = 1 ∧
    t.cls.nodes = s.cls.nodes ∧ t.cls.rootsS = s.cls.rootsS ∧ t.cls.profsS = s.cls.profsS := by
  have heq : s.gated ag (fun s => s.clsCmd ag act) = (s.met ag).wrA ag Reg.CLS_CMD_STATUS St.busy :=
    (State.gated_met hreach).trans (if_pos (by rwa [State.met_rdA rfl]))
  refine ⟨_, congrArg _ heq, State.rdA_wrA_at Nat.one_pos, ?_⟩
  rw [State.wrA_cls, State.met_cls]
  exact ⟨rfl, rfl, rfl⟩

/-- A command on idle registers: without firmware it will report BUSY_RESTARTING, with firmware what its action gives on the state it meets. -/
theorem State.clsCmd_idle (hreach : s.reach ag = true) (hidle : s.rdA ag Reg.CLS_CMD_BUSY = 0) :
    s.gated ag (fun s => s.clsCmd ag act) = if s.fwPresent then (act (s.met ag)).2.clsStarted ag (act (s.met ag)).1
      else (s.met ag).clsStarted ag St.busyRestarting := by
  rw [State.gated_met hreach, State.clsCmd, if_neg (not_not.2 ((State.met_rdA rfl).trans hidle)), State.met_fwPresent]
  cases s.fwPresent <;> rfl

theorem clsCmd_absent (hreach : s.reach ag = true) (hidle : s.rdA ag Reg.CLS_CMD_BUSY = 0) (hfw : s.fwPresent = false) :
    ∃ t, (.next (s.gated ag fun s => s.clsCmd ag act) : Out) = .next t ∧ t.rdA ag Reg.CLS_CMD_BUSY = 1 ∧ t.clsHeld ag = some 11 ∧
    t.cls.nodes = s.cls.nodes ∧ t.cls.rootsS = s.cls.rootsS ∧ t.cls.profsS = s.cls.profsS := by
  have hsame : SameTrees s ((s.met ag).clsStarted ag St.busyRestarting) := (SameTrees.of_cls State.met_cls).trans .clsStarted
  refine ⟨_, congrArg _ ((State.clsCmd_idle hreach hidle).trans (if_neg (by simp [hfw]))), State.clsStarted_busy, State.clsStarted_held,
    hsame.nodes, hsame.rootsS, hsame.profsS⟩

/-- A command whose action gives x and the status st. -/
theorem clsCmd_gives {x : State} (hreach : s.reach ag = true) (hidle : s.rdA ag Reg.CLS_CMD_BUSY = 0) (hfw : s.fwPresent = true)
    (hact : act (s.met ag) = (st, x)) : (.next (s.gated ag fun s => s.clsCmd ag act) : Out) = .next (x.clsStarted ag st) := by
  rw [State.clsCmd_idle hreach hidle, if_pos hfw, hact]

/-- A command that will report a refusal has moved nothing. -/
theorem clsCmd_refuses (hreach : s.reach ag = true) (hidle : s.rdA ag Reg.CLS_CMD_BUSY = 0) (hfw : s.fwPresent = true)
    (hact : act (s.met ag) = (st, s.met ag)) : ∃ t, (.next (s.gated ag fun s => s.clsCmd ag act) : Out) = .next t ∧
    SameTrees s t ∧ t.rdA ag Reg.CLS_DATA 0 0 = s.rdA ag Reg.CLS_DATA 0 0 ∧ t.clsHeld ag = some st := by
  refine ⟨_, clsCmd_gives hreach hidle hfw hact, (SameTrees.of_cls State.met_cls).trans .clsStarted, ?_, State.clsStarted_held⟩
  rw [State.rdA_clsStarted rfl, State.met_rdA rfl]

/-! ### Nodes (R190) -/

theorem readNode_shows (hreach : s.reach ag = true) (hidle : s.rdA ag Reg.CLS_CMD_BUSY = 0) (hfw : s.fwPresent = true) :
    ∃ t, exec (.readNode ag) s = .next t ∧ t.rdA ag Reg.CLS_CMD_BUSY = 1 ∧ t.clsHeld ag = some 0 ∧
    ∀ i ∈ List.range 4, t.rdA ag Reg.CLS_DATA 0 i = bits (Tab.get 0 (s.rdA ag Reg.CLS_IDX) s.cls.nodes) (32 * i + 31) (32 * i) := by
  refine ⟨_, clsCmd_gives hreach hidle hfw rfl, State.clsStarted_busy, State.clsStarted_held, fun i hi => ?_⟩
  rw [State.rdA_clsStarted rfl, State.rdA_wrWords rfl rfl (by decide) (List.mem_range.1 hi), State.met_cls, State.met_rdA rfl]

theorem State.met_nodeLive : (s.met ag).nodeLive n = s.nodeLive n := by rw [State.nodeLive, State.met_cls, State.nodeLive]

/-- A node written by an agent's index and words. -/
def State.nodeGiven (ag : Agent) (s : State) : Nat × State := s.nodeWrite (s.rdA ag Reg.CLS_IDX) (s.rdWords ag Reg.CLS_DATA)

theorem State.nodeGiven_met : State.nodeGiven ag (s.met ag) = (s.met ag).nodeWrite (s.rdA ag Reg.CLS_IDX) (s.rdWords ag Reg.CLS_DATA) := by
  rw [State.nodeGiven, State.met_rdA rfl, State.met_rdWords rfl]

theorem writeNode_outside (hreach : s.reach ag = true) (hidle : s.rdA ag Reg.CLS_CMD_BUSY = 0) (hfw : s.fwPresent = true)
    (hlive : s.nodeLive (s.rdA ag Reg.CLS_IDX) = false) : ∃ t, exec (.writeNode ag) s = .next t ∧
    Tab.get 0 (s.rdA ag Reg.CLS_IDX) t.cls.nodes = s.rdWords ag Reg.CLS_DATA % 2 ^ 128 ∧ t.clsHeld ag = some 0 := by
  have hact := State.nodeGiven_met.trans (if_neg (c := (s.met ag).nodeLive (s.rdA ag Reg.CLS_IDX) = true) (by simp [State.met_nodeLive, hlive]))
  refine ⟨_, clsCmd_gives hreach hidle hfw hact, ?_, State.clsStarted_held⟩
  rw [SameTrees.clsStarted.nodes]
  exact Tab.get_put_self ..

theorem writeNode_live (hreach : s.reach ag = true) (hidle : s.rdA ag Reg.CLS_CMD_BUSY = 0) (hfw : s.fwPresent = true)
    (hlive : s.nodeLive (s.rdA ag Reg.CLS_IDX) = true) : ∃ t, exec (.writeNode ag) s = .next t ∧
    t.cls.nodes = s.cls.nodes ∧ t.clsHeld ag = some 1 := by
  have hact := State.nodeGiven_met.trans (if_pos (State.met_nodeLive.trans hlive))
  obtain ⟨t, ht, hsame, -, hheld⟩ := clsCmd_refuses hreach hidle hfw hact
  exact ⟨t, ht, hsame.nodes, hheld⟩

/-! ### Reads of a bank (R191, R192) -/

theorem State.met_bankRoots : (s.met ag).bankRoots bank = s.bankRoots bank := by
  unfold State.bankRoots
  rw [State.met_cls]

theorem State.met_bankProfs : (s.met ag).bankProfs bank = s.bankProfs bank := by
  unfold State.bankProfs
  rw [State.met_cls]

theorem State.rdA_readPair : (s.readPair ag v).rdA ag Reg.CLS_DATA 0 0 = v % 2 ^ 32 ∧
    (s.readPair ag v).rdA ag Reg.CLS_DATA 0 1 = v / 2 ^ 32 % 2 ^ Reg.CLS_DATA.width := by
  unfold State.readPair
  constructor
  · rw [State.rdA_wrA_instance (Row.key_instance_ne (by decide) (by decide)), State.rdA_wrA_at (by decide)]
    exact Nat.mod_mod ..
  · exact State.rdA_wrA_at (by decide)

/-- The entry of a bank that an agent's index and bank select, below a bound, as a pair of words. -/
def State.pairRead (bound : Nat) (bankOf : State → Nat → Tab Nat) (ag : Agent) (s : State) : Nat × State :=
  if s.rdA ag Reg.CLS_IDX ≥ bound then (St.invalid, s)
  else (St.ok, s.readPair ag (Tab.get 0 (s.rdA ag Reg.CLS_IDX) (bankOf s (s.rdA ag Reg.CLS_IDX_BANK))))

/-- A read below the bound shows the pair of the entry selected. -/
theorem pairRead_shows {bound : Nat} {bankOf : State → Nat → Tab Nat} (hbank : ∀ bank, bankOf (s.met ag) bank = bankOf s bank)
    (hreach : s.reach ag = true) (hidle : s.rdA ag Reg.CLS_CMD_BUSY = 0) (hfw : s.fwPresent = true) (hidx : s.rdA ag Reg.CLS_IDX < bound) :
    ∃ t, (.next (s.gated ag fun s => s.clsCmd ag (State.pairRead bound bankOf ag)) : Out) = .next t ∧
    t.rdA ag Reg.CLS_DATA 0 0 = Tab.get 0 (s.rdA ag Reg.CLS_IDX) (bankOf s (s.rdA ag Reg.CLS_IDX_BANK)) % 2 ^ 32 ∧
    t.rdA ag Reg.CLS_DATA 0 1 =
      Tab.get 0 (s.rdA ag Reg.CLS_IDX) (bankOf s (s.rdA ag Reg.CLS_IDX_BANK)) / 2 ^ 32 % 2 ^ Reg.CLS_DATA.width ∧
    t.clsHeld ag = some 0 := by
  have hact : State.pairRead bound bankOf ag (s.met ag) =
      (St.ok, (s.met ag).readPair ag (Tab.get 0 (s.rdA ag Reg.CLS_IDX) (bankOf s (s.rdA ag Reg.CLS_IDX_BANK)))) := by
    rw [State.pairRead, State.met_rdA rfl, State.met_rdA rfl, hbank, if_neg (Nat.not_le.2 hidx)]
  refine ⟨_, clsCmd_gives hreach hidle hfw hact, ?_, ?_, State.clsStarted_held⟩
  · exact (State.rdA_clsStarted rfl).trans State.rdA_readPair.1
  · exact (State.rdA_clsStarted rfl).trans State.rdA_readPair.2

/-- A read past the bound is INVALID, with DATA as it was. -/
theorem pairRead_past {bound : Nat} {bankOf : State → Nat → Tab Nat} (hreach : s.reach ag = true) (hidle : s.rdA ag Reg.CLS_CMD_BUSY = 0)
    (hfw : s.fwPresent = true) (hidx : bound ≤ s.rdA ag Reg.CLS_IDX) :
    ∃ t, (.next (s.gated ag fun s => s.clsCmd ag (State.pairRead bound bankOf ag)) : Out) = .next t ∧ t.clsHeld ag = some 2 ∧
    t.rdA ag Reg.CLS_DATA 0 0 = s.rdA ag Reg.CLS_DATA 0 0 := by
  have hact : State.pairRead bound bankOf ag (s.met ag) = (St.invalid, s.met ag) := if_pos (by rwa [State.met_rdA rfl])
  obtain ⟨t, ht, -, hdata, hheld⟩ := clsCmd_refuses hreach hidle hfw hact
  exact ⟨t, ht, hheld, hdata⟩

/-! ### Writes of a root (R191) -/

/-- The root that the words v give, as stored. -/
def storedRoot (v : Nat) : Nat := bits v 18 0 + 2 ^ 32 * bits v 51 32 + 2 ^ 52 * bits v 55 52 + 2 ^ 63 * bit v 63

theorem bits_lt {hi lo : Nat} : bits v hi lo < 2 ^ (hi + 1 - lo) := Nat.mod_lt _ (Nat.two_pow_pos _)

theorem rootBase_storedRoot : rootBase (storedRoot v) = bits v 18 0 := by
  have hbase : bits v 18 0 < 2 ^ 19 := bits_lt
  unfold rootBase storedRoot
  generalize bits v 18 0 = b at *
  unfold bits
  omega

theorem rootCount_storedRoot : rootCount (storedRoot v) = bits v 51 32 := by
  have hbase : bits v 18 0 < 2 ^ 19 := bits_lt
  have hcount : bits v 51 32 < 2 ^ 20 := bits_lt
  unfold rootCount storedRoot
  generalize bits v 18 0 = b at *
  generalize bits v 51 32 = c at *
  generalize bits v 55 52 = p
  generalize bit v 63 = x
  unfold bits
  omega

theorem State.rootWrite_eq : s.rootWrite i v = if i ≥ 64 ∨ bits v 51 32 = 0 ∨ bits v 18 0 + bits v 51 32 > 524288 then (St.invalid, s)
    else (St.ok, { s with cls := { s.cls with rootsS := Tab.put 0 i (storedRoot v) s.cls.rootsS } }) := by
  rw [← rootCount_storedRoot, ← rootBase_storedRoot]
  rfl

/-- A root written by an agent's index and words. -/
def State.rootGiven (ag : Agent) (s : State) : Nat × State := s.rootWrite (s.rdA ag Reg.CLS_IDX) (s.rdWords ag Reg.CLS_DATA)

theorem State.rootGiven_met : State.rootGiven ag (s.met ag) = (s.met ag).rootWrite (s.rdA ag Reg.CLS_IDX) (s.rdWords ag Reg.CLS_DATA) := by
  rw [State.rootGiven, State.met_rdA rfl, State.met_rdWords rfl]

theorem writeRoot_stages (hreach : s.reach ag = true) (hidle : s.rdA ag Reg.CLS_CMD_BUSY = 0) (hfw : s.fwPresent = true)
    (hidx : s.rdA ag Reg.CLS_IDX < 64) (hcount : 1 ≤ bits (s.rdWords ag Reg.CLS_DATA) 51 32)
    (hrange : bits (s.rdWords ag Reg.CLS_DATA) 18 0 + bits (s.rdWords ag Reg.CLS_DATA) 51 32 ≤ 524288) :
    ∃ t, exec (.writeRoot ag) s = .next t ∧
    rootBase (Tab.get 0 (s.rdA ag Reg.CLS_IDX) t.cls.rootsS) = bits (s.rdWords ag Reg.CLS_DATA) 18 0 ∧
    rootCount (Tab.get 0 (s.rdA ag Reg.CLS_IDX) t.cls.rootsS) = bits (s.rdWords ag Reg.CLS_DATA) 51 32 ∧
    t.cls.roots = s.cls.roots ∧ t.clsHeld ag = some 0 := by
  have hact := (State.rootGiven_met (s := s) (ag := ag)).trans (State.rootWrite_eq.trans (if_neg (by omega)))
  refine ⟨_, clsCmd_gives hreach hidle hfw hact, ?_, ?_, ?_, State.clsStarted_held⟩
  · rw [SameTrees.clsStarted.rootsS, Tab.get_put_self, rootBase_storedRoot]
  · rw [SameTrees.clsStarted.rootsS, Tab.get_put_self, rootCount_storedRoot]
  · rw [SameTrees.clsStarted.roots, State.met_cls]

theorem writeRoot_refused (hreach : s.reach ag = true) (hidle : s.rdA ag Reg.CLS_CMD_BUSY = 0) (hfw : s.fwPresent = true)
    (hbad : 64 ≤ s.rdA ag Reg.CLS_IDX ∨ bits (s.rdWords ag Reg.CLS_DATA) 51 32 = 0 ∨
      524288 < bits (s.rdWords ag Reg.CLS_DATA) 18 0 + bits (s.rdWords ag Reg.CLS_DATA) 51 32) :
    ∃ t, exec (.writeRoot ag) s = .next t ∧ t.cls.rootsS = s.cls.rootsS ∧ t.clsHeld ag = some 2 := by
  have hact := State.rootGiven_met.trans (State.rootWrite_eq.trans (if_pos hbad))
  obtain ⟨t, ht, hsame, -, hheld⟩ := clsCmd_refuses hreach hidle hfw hact
  exact ⟨t, ht, hsame.rootsS, hheld⟩

/-! ### Writes of a field descriptor (R192) -/

/-- A field descriptor written by an agent's index and words. -/
def State.profGiven (ag : Agent) (s : State) : Nat × State := s.profWrite (s.rdA ag Reg.CLS_IDX) (s.rdWords ag Reg.CLS_DATA)

theorem State.profGiven_met : State.profGiven ag (s.met ag) = (s.met ag).profWrite (s.rdA ag Reg.CLS_IDX) (s.rdWords ag Reg.CLS_DATA) := by
  rw [State.profGiven, State.met_rdA rfl, State.met_rdWords rfl]

theorem writeProf_stages (hreach : s.reach ag = true) (hidle : s.rdA ag Reg.CLS_CMD_BUSY = 0) (hfw : s.fwPresent = true)
    (hidx : s.rdA ag Reg.CLS_IDX < 512) (hwidth : bits (s.rdWords ag Reg.CLS_DATA) 7 6 < 3)
    (hend : bits (s.rdWords ag Reg.CLS_DATA) 5 0 + 2 ^ bits (s.rdWords ag Reg.CLS_DATA) 7 6 ≤ 64) :
    ∃ t, exec (.writeProf ag) s = .next t ∧ Tab.get 0 (s.rdA ag Reg.CLS_IDX) t.cls.profsS =
      bits (s.rdWords ag Reg.CLS_DATA) 8 0 + 2 ^ 32 * bits (s.rdWords ag Reg.CLS_DATA) 63 32 ∧
    t.cls.profs = s.cls.profs ∧ t.clsHeld ag = some 0 := by
  have hact := State.profGiven_met.trans (if_neg (not_or.2 ⟨Nat.not_le.2 hidx, not_or.2 ⟨Nat.ne_of_lt hwidth, Nat.not_lt.2 hend⟩⟩))
  refine ⟨_, clsCmd_gives hreach hidle hfw hact, ?_, ?_, State.clsStarted_held⟩
  · rw [SameTrees.clsStarted.profsS, Tab.get_put_self]
  · rw [SameTrees.clsStarted.profs, State.met_cls]

theorem writeProf_refused (hreach : s.reach ag = true) (hidle : s.rdA ag Reg.CLS_CMD_BUSY = 0) (hfw : s.fwPresent = true)
    (hbad : 512 ≤ s.rdA ag Reg.CLS_IDX ∨ bits (s.rdWords ag Reg.CLS_DATA) 7 6 = 3 ∨
      64 < bits (s.rdWords ag Reg.CLS_DATA) 5 0 + 2 ^ bits (s.rdWords ag Reg.CLS_DATA) 7 6) :
    ∃ t, exec (.writeProf ag) s = .next t ∧ t.cls.profsS = s.cls.profsS ∧ t.clsHeld ag = some 2 := by
  have hact := State.profGiven_met.trans (if_pos hbad)
  obtain ⟨t, ht, hsame, -, hheld⟩ := clsCmd_refuses hreach hidle hfw hact
  exact ⟨t, ht, hsame.profsS, hheld⟩

/-! ### The end of a command -/

theorem State.clsDone_of_held (hheld : s.clsHeld ag = some st) : s.clsDone ag =
    (((s.holdCls ag none).wrA ag Reg.CLS_CMD_BUSY 0).wrA ag Reg.CLS_CMD_STATUS st).event (Ev.cls 3) := by
  rw [State.clsHeld] at hheld
  rw [State.clsDone, hheld]

theorem State.clsDone_of_none (hheld : s.clsHeld ag = none) : s.clsDone ag = s := by
  rw [State.clsHeld] at hheld
  rw [State.clsDone, hheld]

theorem clsCmdDone_shows (hreach : s.reach ag = true) (hheld : s.clsHeld ag = some st) (hst : st < 16) :
    ∃ t, exec (.clsCmdDone ag) s = .next t ∧ t.rdA ag Reg.CLS_CMD_BUSY = 0 ∧ t.rdA ag Reg.CLS_CMD_STATUS = st ∧ t.clsHeld ag = none := by
  refine ⟨s.clsDone ag, congrArg Host.Outcome.next (if_pos hreach), ?_⟩
  rw [State.clsDone_of_held hheld]
  refine ⟨?_, ?_, ?_⟩
  · rw [(State.event_foot ..).rdA_keeps rfl rfl, State.rdA_wrA_row rfl, State.rdA_wrA_at Nat.one_pos]
    rfl
  · rw [(State.event_foot ..).rdA_keeps rfl rfl, State.rdA_wrA_at Nat.one_pos]
    exact Nat.mod_eq_of_lt (Nat.lt_trans hst (by decide))
  · rw [State.clsHeld, (State.event_foot ..).cls rfl, State.wrA_cls, State.wrA_cls]
    exact State.holdCls_held

theorem clsCmdDone_stands (hheld : s.clsHeld ag = none) : exec (.clsCmdDone ag) s = .next s := by
  refine congrArg Host.Outcome.next ?_
  rw [State.reg, State.clsDone_of_none hheld, ite_self]

end

/-- Settles O35: a command on idle registers with firmware acts by its index and words; every other one moves no tree. -/
theorem treesAndProfilesAreReadAndWritten : Obligations.TreesAndProfilesAreReadAndWritten := by
  unfold Obligations.TreesAndProfilesAreReadAndWritten
  exact ⟨fun _ _ => readNode_shows, fun _ _ => clsCmd_absent, fun _ _ => clsCmd_busy, fun _ _ => clsCmd_absent, fun _ _ => clsCmd_busy,
    fun _ _ => clsCmd_absent, fun _ _ => clsCmd_busy, fun _ _ => clsCmd_absent, fun _ _ => clsCmd_busy, fun _ _ => clsCmd_absent,
    fun _ _ => clsCmd_busy, fun _ _ => clsCmd_absent, fun _ _ => clsCmd_busy, fun _ _ => writeNode_outside, fun _ _ => writeNode_live,
    fun _ _ => pairRead_shows (bankOf := State.bankRoots) fun _ => State.met_bankRoots, fun _ _ => pairRead_past (bankOf := State.bankRoots),
    fun _ _ => pairRead_shows (bankOf := State.bankProfs) fun _ => State.met_bankProfs, fun _ _ => pairRead_past (bankOf := State.bankProfs),
    fun _ _ => writeRoot_stages,
    fun _ _ => writeRoot_refused, fun _ _ => writeProf_stages, fun _ _ => writeProf_refused, fun _ _ _ => clsCmdDone_shows,
    fun _ _ => clsCmdDone_stands⟩

end Sys2Proof.Machine

/-! SUPPORT. A key switch that takes effect while UP_NEXT holds more than its width (08_line_cipher.md, R226). -/

namespace Sys2Proof.Machine

/-- The pending generation becomes current: its number moves into UP_CUR, at that field's width. -/
theorem State.upSwitch_cur {s : State} {l : Leg} (hpend : s.isOn Reg.CIPH_GEN_UP_PEND l.n = true) (hframe : (s.leg l).upFn = 0)
    (hdue : s.rd2 Reg.CIPH_UP_EFF_LO Reg.CIPH_UP_EFF_HI l.n ≤ (s.leg l).upSfc) :
    (s.upSwitch l).rd Reg.CIPH_GEN_UP_CUR l.n = s.rd Reg.CIPH_GEN_UP_NEXT l.n % 2 ^ Reg.CIPH_GEN_UP_CUR.width := by
  unfold State.upSwitch
  rw [if_neg (by simp [hpend, hframe, hdue])]
  dsimp only
  rw [(State.event_foot ..).rd_leg rfl, State.rd_wr_row rfl, State.rd_wr_same Nat.one_pos, State.rd_upd, (State.eraseRetired_foot ..).rd_leg rfl]

/-- A switch pending for superframe 0 on leg A, whose upstream frame is (0, 0): the state after reset, but for UP_PEND, and the two-bit field
UP_NEXT, which holds 4. -/
def wideGeneration : State :=
  { State.reset with regs := [(Reg.CIPH_GEN_UP_PEND.key 0 0, 1), (Reg.CIPH_GEN_UP_NEXT.key 0 0, 4)] }

/-- The invariant does not exclude the state. -/
theorem wideGeneration_inv : Inv wideGeneration := ⟨⟨rfl, rfl, rfl⟩, bounded_reset⟩

theorem wideGeneration_next : wideGeneration.rd Reg.CIPH_GEN_UP_NEXT = 4 := rfl

theorem wideGeneration_switches : (wideGeneration.upSwitch .a).rd Reg.CIPH_GEN_UP_CUR = 0 :=
  State.upSwitch_cur (l := .a) rfl rfl (by decide)

/-- Refutes O32, by its clause for an upstream switch that is effective: it has UP_CUR read what UP_NEXT read, with no bound on that. UP_NEXT
holds 4, past its two bits; the model moves it into UP_CUR at that field's width, which reads 0. -/
theorem not_keysAreExchangedAndSwitched : ¬ Obligations.KeysAreExchangedAndSwitched := by
  unfold Obligations.KeysAreExchangedAndSwitched
  rintro ⟨-, -, -, -, -, -, -, heffective, -⟩
  obtain ⟨t, ht, hcur, -⟩ := heffective .a wideGeneration rfl rfl (by decide)
  obtain rfl : wideGeneration.upSwitch .a = t := Host.Outcome.next.inj ht
  exact absurd (wideGeneration_switches.symm.trans (hcur.trans wideGeneration_next)) (by decide)

end Sys2Proof.Machine

/-! SUPPORT. The key slots' commands, KEY_REFRESH, the cipher lock and the generator's health (08_line_cipher.md, R232, R233, R236;
R9, R410). -/

namespace Sys2Proof.Machine

section
variable {s x : State} {ag : Agent} {R : Row} {i n v st mask : Nat} {act : State → Nat × State} {held : Option Nat}

/-! ### Registers and slots after an update -/

@[simp] theorem State.wrA_ciph : (s.wrA ag R v 0 i).ciph = s.ciph := by
  unfold State.wrA
  cases ag.isFw <;> rfl

@[simp] theorem State.wrA_out : (s.wrA ag R v 0 i).out = s.out := by
  unfold State.wrA
  cases ag.isFw <;> rfl

@[simp] theorem State.met_ciph : (s.met ag).ciph = s.ciph := State.met_foot.ciph rfl

theorem State.met_slot : (s.met ag).slot n = s.slot n := by rw [State.slot, State.met_ciph, State.slot]

/-- An erasure of keys leaves a slot those that were not selected; a slot that it leaves none is EMPTY. -/
theorem State.eraseKeys_slot {p : Nat → Slot → Nat → Bool} : (s.eraseKeys p).slot n =
    ({ s.slot n with keys := (s.slot n).keys.filter fun q => !p n (s.slot n) q.1 } : Slot).settle :=
  Tab.get_mapv ({} : Slot) (fun i k => ({ k with keys := k.keys.filter fun q => !p i k q.1 } : Slot).settle) n rfl s.ciph.slots

theorem State.eraseSlot_slot : (s.eraseSlot n).slot n = {} := by
  rw [State.eraseSlot, State.eraseKeys_slot]
  simp [Slot.settle]

/-! ### A command that runs, and one that does not (R233, R410) -/

/-- The status that an agent's running slot command will report. -/
abbrev State.slotHeld (s : State) (ag : Agent) : Option Nat := if ag.isFw then s.ciph.cmdStFw else s.ciph.cmdSt

/-- The status to report is set, or removed. -/
def State.holdSlot (s : State) (ag : Agent) (held : Option Nat) : State :=
  if ag.isFw then { s with ciph := { s.ciph with cmdStFw := held } } else { s with ciph := { s.ciph with cmdSt := held } }

/-- The agent's registers are BUSY, with the status to report. -/
def State.slotStarted (s : State) (ag : Agent) (st : Nat) : State := (s.wrA ag Reg.CIPH_SLOT_CMD_BUSY 1).holdSlot ag (some st)

@[simp] theorem State.holdSlot_held : (s.holdSlot ag held).slotHeld ag = held := by
  unfold State.slotHeld State.holdSlot
  cases ag.isFw <;> rfl

theorem State.holdSlot_slots : (s.holdSlot ag held).ciph.slots = s.ciph.slots := by
  unfold State.holdSlot
  cases ag.isFw <;> rfl

theorem State.holdSlot_out : (s.holdSlot ag held).out = s.out := by
  unfold State.holdSlot
  cases ag.isFw <;> rfl

theorem State.rdA_holdSlot : (s.holdSlot ag held).rdA ag R 0 i = s.rdA ag R 0 i := by
  unfold State.holdSlot State.rdA
  cases ag.isFw <;> rfl

theorem State.rd_holdSlot : (s.holdSlot ag held).rd R 0 i = s.rd R 0 i := by
  unfold State.holdSlot
  cases ag.isFw <;> rfl

theorem State.slotStarted_held : (s.slotStarted ag st).slotHeld ag = some st := State.holdSlot_held

theorem State.slotStarted_busy : (s.slotStarted ag st).rdA ag Reg.CIPH_SLOT_CMD_BUSY = 1 :=
  State.rdA_holdSlot.trans (State.rdA_wrA_at Nat.one_pos)

theorem State.slotStarted_slots : (s.slotStarted ag st).ciph.slots = s.ciph.slots := by
  rw [State.slotStarted, State.holdSlot_slots, State.wrA_ciph]

theorem State.slotStarted_slot : (s.slotStarted ag st).slot n = s.slot n := by rw [State.slot, State.slotStarted_slots, State.slot]

theorem State.slotStarted_out : (s.slotStarted ag st).out = s.out := by rw [State.slotStarted, State.holdSlot_out, State.wrA_out]

theorem State.rdA_slotStarted (h : otherRow R Reg.CIPH_SLOT_CMD_BUSY = true) : (s.slotStarted ag st).rdA ag R 0 i = s.rdA ag R 0 i :=
  State.rdA_holdSlot.trans (State.rdA_wrA_row h)

/-- A command written while BUSY shows BUSY. -/
theorem slotCmd_busy (hreach : s.reach ag = true) (hbusy : s.rdA ag Reg.CIPH_SLOT_CMD_BUSY ≠ 0) :
    ∃ t, (.next (s.gated ag fun s => s.slotCmd ag act) : Out) = .next t ∧ t.rdA ag Reg.CIPH_SLOT_CMD_STATUS = 1 ∧
    t.ciph = s.ciph := by
  have heq : s.gated ag (fun s => s.slotCmd ag act) = (s.met ag).wrA ag Reg.CIPH_SLOT_CMD_STATUS St.busy :=
    (State.gated_met hreach).trans (if_pos (by rwa [State.met_rdA rfl]))
  refine ⟨_, congrArg _ heq, State.rdA_wrA_at Nat.one_pos, ?_⟩
  rw [State.wrA_ciph, State.met_ciph]

/-- A command on idle registers acts on the state it meets: one whose action gives x and the status st. -/
theorem slotCmd_gives (hreach : s.reach ag = true) (hidle : s.rdA ag Reg.CIPH_SLOT_CMD_BUSY = 0) (hact : act (s.met ag) = (st, x)) :
    (.next (s.gated ag fun s => s.slotCmd ag act) : Out) = .next (x.slotStarted ag st) := by
  rw [State.gated_met hreach, State.slotCmd, if_neg (not_not.2 ((State.met_rdA rfl).trans hidle)), hact]
  rfl

/-- A command that will report DENIED has moved nothing. -/
theorem slotCmd_denied (hreach : s.reach ag = true) (hidle : s.rdA ag Reg.CIPH_SLOT_CMD_BUSY = 0)
    (hact : act (s.met ag) = (St.denied, s.met ag)) : ∃ t, (.next (s.gated ag fun s => s.slotCmd ag act) : Out) = .next t ∧
    t.rdA ag Reg.CIPH_SLOT_CMD_BUSY = 1 ∧ t.slotHeld ag = some 3 ∧ t.ciph.slots = s.ciph.slots ∧ t.out = (s.met ag).out := by
  refine ⟨_, slotCmd_gives hreach hidle hact, State.slotStarted_busy, State.slotStarted_held, ?_, State.slotStarted_out⟩
  rw [State.slotStarted_slots, State.met_ciph]

/-! ### QUERY, READ and ERASE (R232, R233) -/

theorem query_shows (hreach : s.reach ag = true) (hidle : s.rdA ag Reg.CIPH_SLOT_CMD_BUSY = 0) : ∃ t, exec (.query ag) s = .next t ∧
    t.rdA ag Reg.CIPH_SLOT_CMD_BUSY = 1 ∧
    t.rdA ag Reg.CIPH_SLOT_INFO_KIND = (s.slot (s.rdA ag Reg.CIPH_SLOT_IDX)).kind % 2 ^ Reg.CIPH_SLOT_INFO_KIND.width ∧
    t.rdA ag Reg.CIPH_SLOT_INFO_OWNER = (s.slot (s.rdA ag Reg.CIPH_SLOT_IDX)).owner % 2 ^ Reg.CIPH_SLOT_INFO_OWNER.width ∧
    t.rdA ag Reg.CIPH_SLOT_INFO_LOADED = loadedBits (s.slot (s.rdA ag Reg.CIPH_SLOT_IDX)) % 2 ^ Reg.CIPH_SLOT_INFO_LOADED.width ∧
    t.ciph.slots = s.ciph.slots := by
  have hslot : (s.met ag).slot ((s.met ag).rdA ag Reg.CIPH_SLOT_IDX) = s.slot (s.rdA ag Reg.CIPH_SLOT_IDX) := by
    rw [State.met_rdA rfl, State.met_slot]
  refine ⟨_, slotCmd_gives hreach hidle rfl, State.slotStarted_busy, ?_, ?_, ?_, ?_⟩
  · rw [State.rdA_slotStarted rfl, State.rdA_wrA_row rfl, State.rdA_wrA_row rfl, State.rdA_wrA_at Nat.one_pos, hslot]
  · rw [State.rdA_slotStarted rfl, State.rdA_wrA_row rfl, State.rdA_wrA_at Nat.one_pos, hslot]
  · rw [State.rdA_slotStarted rfl, State.rdA_wrA_at Nat.one_pos, hslot]
  · rw [State.slotStarted_slots, State.wrA_ciph, State.wrA_ciph, State.wrA_ciph, State.met_ciph]

theorem slotRead_denied (hreach : s.reach ag = true) (hidle : s.rdA ag Reg.CIPH_SLOT_CMD_BUSY = 0) :
    ∃ t, exec (.slotRead ag) s = .next t ∧ t.rdA ag Reg.CIPH_SLOT_CMD_BUSY = 1 ∧ t.slotHeld ag = some 3 ∧ t.ciph.slots = s.ciph.slots ∧
    t.out = (s.met ag).out :=
  slotCmd_denied hreach hidle rfl

/-- What ERASE does to the slot that an agent's index names. -/
def State.eraseGiven (ag : Agent) (s : State) : Nat × State := s.eraseNamed (s.rdA ag Reg.CIPH_SLOT_IDX)

theorem State.eraseGiven_met : State.eraseGiven ag (s.met ag) =
    if (s.slot (s.rdA ag Reg.CIPH_SLOT_IDX)).kind = 2 then (St.ok, (s.met ag).eraseSlot (s.rdA ag Reg.CIPH_SLOT_IDX))
    else (St.denied, s.met ag) := by
  rw [State.eraseGiven, State.eraseNamed, State.met_rdA rfl, State.met_slot]

theorem slotErase_erases (hreach : s.reach ag = true) (hidle : s.rdA ag Reg.CIPH_SLOT_CMD_BUSY = 0)
    (hkind : (s.slot (s.rdA ag Reg.CIPH_SLOT_IDX)).kind = 2) : ∃ t, exec (.slotErase ag) s = .next t ∧
    t.slot (s.rdA ag Reg.CIPH_SLOT_IDX) = {} ∧ t.rdA ag Reg.CIPH_SLOT_CMD_BUSY = 1 ∧ t.slotHeld ag = some 0 :=
  ⟨_, slotCmd_gives hreach hidle (State.eraseGiven_met.trans (if_pos hkind)), State.slotStarted_slot.trans State.eraseSlot_slot,
    State.slotStarted_busy, State.slotStarted_held⟩

theorem slotErase_denied (hreach : s.reach ag = true) (hidle : s.rdA ag Reg.CIPH_SLOT_CMD_BUSY = 0)
    (hkind : (s.slot (s.rdA ag Reg.CIPH_SLOT_IDX)).kind ≠ 2) : ∃ t, exec (.slotErase ag) s = .next t ∧
    t.ciph.slots = s.ciph.slots ∧ t.slotHeld ag = some 3 := by
  obtain ⟨t, ht, -, hheld, hslots, -⟩ := slotCmd_denied hreach hidle (State.eraseGiven_met.trans (if_neg hkind))
  exact ⟨t, ht, hslots, hheld⟩

/-! ### The end of a command -/

theorem State.slotDone_of_held (hheld : s.slotHeld ag = some st) : s.slotDone ag =
    (((s.holdSlot ag none).wrA ag Reg.CIPH_SLOT_CMD_BUSY 0).wrA ag Reg.CIPH_SLOT_CMD_STATUS st).countDenied st := by
  rw [State.slotHeld] at hheld
  rw [State.slotDone, hheld]
  rfl

theorem State.slotDone_of_none (hheld : s.slotHeld ag = none) : s.slotDone ag = s := by
  rw [State.slotHeld] at hheld
  rw [State.slotDone, hheld]

/-- A DENIED is counted, and no other status. -/
theorem State.countDenied_counts : Counted Reg.CIPH_CNT_DENIED 0 0 (if st = 3 then 1 else 0) s (s.countDenied st) := by
  unfold State.countDenied
  by_cases h : st = 3
  · rw [if_pos h, if_pos (show st = St.denied from h)]
    exact counted_of_foot_after (State.event_foot ..) rfl (counted_inc Nat.one_pos)
  · rw [if_neg h, if_neg (show st ≠ St.denied from h)]
    exact rfl

theorem slotCmdDone_shows (hreach : s.reach ag = true) (hheld : s.slotHeld ag = some st) (hst : st < 16) :
    ∃ t, exec (.slotCmdDone ag) s = .next t ∧ t.rdA ag Reg.CIPH_SLOT_CMD_BUSY = 0 ∧ t.rdA ag Reg.CIPH_SLOT_CMD_STATUS = st ∧
    t.slotHeld ag = none ∧ Counted Reg.CIPH_CNT_DENIED 0 0 (if st = 3 then 1 else 0) s t := by
  refine ⟨s.slotDone ag, congrArg Host.Outcome.next (if_pos hreach), ?_⟩
  rw [State.slotDone_of_held hheld]
  refine ⟨?_, ?_, ?_, counted_of_rd_before ?_ State.countDenied_counts⟩
  · rw [(State.countDenied_foot ..).rdA_keeps rfl rfl, State.rdA_wrA_row rfl, State.rdA_wrA_at Nat.one_pos]
    rfl
  · rw [(State.countDenied_foot ..).rdA_keeps rfl rfl, State.rdA_wrA_at Nat.one_pos]
    exact Nat.mod_eq_of_lt (Nat.lt_trans hst (by decide))
  · rw [State.slotHeld, (State.countDenied_foot ..).ciph rfl, State.wrA_ciph, State.wrA_ciph]
    exact State.holdSlot_held
  · rw [State.rd_wrA rfl, State.rd_wrA rfl, State.rd_holdSlot]

theorem slotCmdDone_stands (hheld : s.slotHeld ag = none) : exec (.slotCmdDone ag) s = .next s := by
  refine congrArg Host.Outcome.next ?_
  rw [State.reg, State.slotDone_of_none hheld, ite_self]

/-! ### KEY_REFRESH, the lock and the generator's health (R70, R9, R236) -/

/-- Of the mask only its two bits count. -/
theorem State.keyRefresh_mod : s.keyRefresh mask = s.keyRefresh (mask % 4) := by
  have h0 : bit (mask % 4) 0 = bit mask 0 := by unfold bit; omega
  have h1 : bit (mask % 4) 1 = bit mask 1 := by unfold bit; omega
  unfold State.keyRefresh
  rw [h0, h1]

theorem exec_keyRefresh (hreach : s.reach ag = true) (hmask : mask % 4 = n) : exec (.keyRefresh ag mask) s =
    .next ((s.met ag).keyRefresh n) := by
  rw [← hmask, ← State.keyRefresh_mod]
  exact congrArg Host.Outcome.next (State.gated_met hreach)

theorem exec_ciphLock (hreach : s.reach ag = true) : exec (.ciphLock ag) s = .next ((s.met ag).wr Reg.CIPH_PART_LOCK 1) :=
  congrArg Host.Outcome.next (State.gated_met hreach)

theorem rngFail_shows : ∃ t, exec .rngFail s = .next t ∧ t.rd Reg.CIPH_STATUS_RNG_FAIL = 1 ∧ t.ciph = s.ciph := by
  refine ⟨_, rfl, ?_, (State.event_foot ..).ciph rfl⟩
  rw [(State.event_foot ..).rd_keeps rfl, State.rd_wr_same Nat.one_pos]
  rfl

end

end Sys2Proof.Machine

/-! SUPPORT. The lookaside service: a request taken in its ring's turn, and its end (08_line_cipher.md, R229 to R231;
11_host_interface_and_rings.md, R298). -/

namespace Sys2Proof.Machine

section
variable {s x : State} {R : Row} {ring idx c l i : Nat} {src : HostRead} {e b : List Byte} {rest : List (Nat × List Byte)}
  {r : LaReq} {later : List LaReq}

/-! ### The checks of a request (R230) -/

/-- The service is enabled, and the fields of an entry are within their ranges. -/
structure LaServes (s : State) (e : List Byte) : Prop where
  enabled : s.isOn Reg.CIPH_CTL_LA_EN = true
  aad : leNat (slice e 18 2) ≤ 4096
  key : leNat (slice e 20 2) < 1024
  reserved : leNat (slice e 36 28) = 0

/-- The slot that an entry names is a lookaside slot of the ring's owner. -/
structure LaOwns (s : State) (ring : Nat) (e : List Byte) : Prop where
  kind : (s.slot (leNat (slice e 20 2) % 512)).kind = 2
  owner : (s.slot (leNat (slice e 20 2) % 512)).owner = s.rd Reg.HIF_RX_CTL_OWNER 0 ring

theorem LaServes.accepted (h : LaServes s e) : ¬(!s.isOn Reg.CIPH_CTL_LA_EN || decide (leNat (slice e 18 2) % 8192 > 4096) ||
    decide (leNat (slice e 18 2) ≥ 8192) || decide (leNat (slice e 20 2) ≥ 1024) || leNat (slice e 36 28) != 0) = true := by
  obtain ⟨henabled, haad, hkey, hreserved⟩ := h
  simp only [henabled, hreserved, bne_self_eq_false, Bool.not_true, Bool.false_or, Bool.or_false, Bool.or_eq_true, decide_eq_true_eq]
  omega

theorem LaServes.aadLen (h : LaServes s e) : leNat (slice e 18 2) % 8192 = leNat (slice e 18 2) :=
  Nat.mod_eq_of_lt (Nat.lt_of_le_of_lt h.aad (by decide))

/-- A request of an entry, with its status and output. -/
def laReq (idx : Nat) (e : List Byte) (status : Nat) (authFail : Bool) (output : List Byte) : LaReq :=
  { idx := idx, reqId := leNat (slice e 22 2), len := leNat (slice e 16 2), status := status, authFail := authFail,
    dst := leNat (slice e 8 8), output := output }

/-- A slot that is no lookaside slot of the ring's owner is DENIED. -/
theorem State.lookaside_denied (hs : LaServes s e) (hown : (s.slot (leNat (slice e 20 2) % 512)).kind ≠ 2 ∨
    (s.slot (leNat (slice e 20 2) % 512)).owner ≠ s.rd Reg.HIF_RX_CTL_OWNER 0 ring) :
    s.lookaside ring idx e src = (laReq idx e St.denied false [], s) := by
  unfold State.lookaside
  dsimp only
  rw [if_neg hs.accepted, if_pos hown]
  rfl

/-- The read of a request's bytes. -/
def State.laAsks (s : State) (ring : Nat) (e : List Byte) : State :=
  s.askHost (s.rd Reg.HIF_RX_CTL_OWNER 0 ring) (leNat (slice e 0 8))
    (leNat (slice e 18 2) + leNat (slice e 16 2) + 16 * bit (leNat (slice e 20 2)) 9)

/-- The key of the slot that an entry names. -/
abbrev State.laKey (s : State) (e : List Byte) : Nat := Tab.get 1 0 (s.slot (leNat (slice e 20 2) % 512)).keys - 1

/-- The bytes that an entry has encrypted, with their tag. -/
abbrev State.laSealed (s : State) (e b : List Byte) : List Byte × List Byte :=
  Crypto.gcmEnc (s.laKey e) (beNat (slice e 24 12)) (slice b 0 (leNat (slice e 18 2)))
    (slice b (leNat (slice e 18 2)) (leNat (slice e 16 2)))

/-- The bytes that an entry has decrypted, where their tag is right. -/
abbrev State.laOpened (s : State) (e b : List Byte) : Option (List Byte) :=
  Crypto.gcmDec (s.laKey e) (beNat (slice e 24 12)) (slice b 0 (leNat (slice e 18 2)))
    (slice b (leNat (slice e 18 2)) (leNat (slice e 16 2))) (slice b (leNat (slice e 18 2) + leNat (slice e 16 2)) 16)

theorem State.lookaside_encrypts (hs : LaServes s e) (ho : LaOwns s ring e) (hrng : s.isOn Reg.CIPH_STATUS_RNG_FAIL = false)
    (hop : bit (leNat (slice e 20 2)) 9 = 0) :
    s.lookaside ring idx e (.data b) = (laReq idx e St.ok false ((s.laSealed e b).1 ++ (s.laSealed e b).2), s.laAsks ring e) := by
  unfold State.lookaside
  dsimp only
  rw [if_neg hs.accepted, if_neg (by simp [ho.kind, ho.owner]), if_neg (by simp [hrng]), if_pos hop, hs.aadLen]
  rfl

theorem State.lookaside_authFails (hs : LaServes s e) (ho : LaOwns s ring e) (hrng : s.isOn Reg.CIPH_STATUS_RNG_FAIL = false)
    (hop : bit (leNat (slice e 20 2)) 9 ≠ 0) (htag : s.laOpened e b = none) : s.lookaside ring idx e (.data b) =
      (laReq idx e St.invalid true [], (s.laAsks ring e).inc Reg.CIPH_CNT_LA_AUTH_FAIL) := by
  unfold State.laOpened State.laKey at htag
  unfold State.lookaside
  dsimp only
  rw [if_neg hs.accepted, if_neg (by simp [ho.kind, ho.owner]), if_neg (by simp [hrng]), if_neg hop, hs.aadLen, htag]
  rfl

/-! ### LOOKASIDE_REQUEST (R231) -/

/-- The request at the head of the ring is taken, with its result. -/
def State.laTaken (s : State) (ring : Nat) (rest : List (Nat × List Byte)) (r : LaReq) : State :=
  { s with ciph := { s.ciph with laLast := ring } }.setRxr ring fun x => { x with reqs := rest, la := [r] }

theorem State.laTaken_reqs : ((s.laTaken ring rest r).rxr ring).reqs = rest := congrArg RxR.reqs State.setRxr_rxr

theorem State.laTaken_la : ((s.laTaken ring rest r).rxr ring).la = [r] := congrArg RxR.la State.setRxr_rxr

/-- The core runs, and the entry stands at the head of the ring whose turn it is. -/
structure LaHead (s : State) (ring idx : Nat) (e : List Byte) (rest : List (Nat × List Byte)) : Prop where
  runs : s.runs .core = true
  turn : s.laTurn = some ring
  head : (s.rxr ring).reqs = (idx, e) :: rest

theorem exec_lookasideRequest (hh : LaHead s ring idx e rest) (hla : s.lookaside ring idx e src = (r, x)) :
    exec (.lookasideRequest ring src) s = .next (x.laTaken ring rest r) := by
  have htake : s.takeLookaside ring src = x.laTaken ring rest r := by
    unfold State.takeLookaside
    rw [if_neg (not_not.2 hh.turn), hh.head]
    dsimp only
    rw [hla]
    rfl
  exact congrArg Host.Outcome.next ((if_pos hh.runs).trans htake)

theorem lookasideRequest_encrypts (hh : LaHead s ring idx e rest) (hs : LaServes s e) (ho : LaOwns s ring e)
    (hrng : s.isOn Reg.CIPH_STATUS_RNG_FAIL = false) (hop : leNat (slice e 20 2) < 512) :
    ∃ t, exec (.lookasideRequest ring (.data b)) s = .next t ∧ (t.rxr ring).reqs = rest ∧
    (t.rxr ring).la = [laReq idx e 0 false ((s.laSealed e b).1 ++ (s.laSealed e b).2)] ∧ t.regs = s.regs := by
  have hbit : bit (leNat (slice e 20 2)) 9 = 0 := by unfold bit; omega
  exact ⟨_, exec_lookasideRequest hh (State.lookaside_encrypts hs ho hrng hbit), State.laTaken_reqs, State.laTaken_la, rfl⟩

theorem lookasideRequest_authFails (hh : LaHead s ring idx e rest) (hs : LaServes s e) (ho : LaOwns s ring e)
    (hrng : s.isOn Reg.CIPH_STATUS_RNG_FAIL = false) (hop : 512 ≤ leNat (slice e 20 2)) (htag : s.laOpened e b = none) :
    ∃ t, exec (.lookasideRequest ring (.data b)) s = .next t ∧ (t.rxr ring).reqs = rest ∧
    (t.rxr ring).la = [laReq idx e 2 true []] ∧ Counted Reg.CIPH_CNT_LA_AUTH_FAIL 0 0 1 s t := by
  have hkey := hs.key
  have hbit : bit (leNat (slice e 20 2)) 9 ≠ 0 := by unfold bit; omega
  exact ⟨_, exec_lookasideRequest hh (State.lookaside_authFails hs ho hrng hbit htag), State.laTaken_reqs, State.laTaken_la,
    counted_inc (s := s.laAsks ring e) Nat.one_pos⟩

theorem lookasideRequest_denied (hh : LaHead s ring idx e rest) (hs : LaServes s e)
    (hown : (s.slot (leNat (slice e 20 2) % 512)).owner ≠ s.rd Reg.HIF_RX_CTL_OWNER 0 ring) :
    ∃ t, exec (.lookasideRequest ring src) s = .next t ∧ (t.rxr ring).reqs = rest ∧ (t.rxr ring).la = [laReq idx e 3 false []] :=
  ⟨_, exec_lookasideRequest hh (State.lookaside_denied hs (.inr hown)), State.laTaken_reqs, State.laTaken_la⟩

theorem lookasideRequest_stands (hturn : s.laTurn ≠ some ring) : exec (.lookasideRequest ring src) s = .next s :=
  congrArg Host.Outcome.next (State.inDom_still (if_pos hturn))

/-! ### LOOKASIDE_DONE (R298) -/

/-- A request that ended OK, and its bytes, are counted. -/
def State.laCounted (s : State) (r : LaReq) : State := (s.inc Reg.CIPH_CNT_LA_REQUESTS).inc Reg.CIPH_CNT_LA_BYTES 0 0 r.len

/-- The completion of a request (R298). -/
abbrev laCpl (ring : Nat) (r : LaReq) : Cpl := { body := laEntry ring r, live := true, pass := some (.rx, ring, 1) }

theorem State.laCounted_request : Counted Reg.CIPH_CNT_LA_REQUESTS 0 0 1 s (s.laCounted r) :=
  counted_of_rd_after (State.rd_inc_shared rfl) (counted_inc Nat.one_pos)

theorem State.laCounted_bytes : Counted Reg.CIPH_CNT_LA_BYTES 0 0 r.len s (s.laCounted r) :=
  counted_of_rd_before (State.rd_inc_shared rfl) (counted_inc_at Nat.one_pos)

/-- The request at the head of a ring has ended OK: counted, completed on the ring c, and off its own. -/
def State.laEnded (s : State) (c ring : Nat) (r : LaReq) : State :=
  ((s.laCounted r).cqPush c (laCpl ring r)).setRxr ring fun x => { x with la := x.la.drop 1 }

theorem State.laEnded_la : ((s.laEnded c ring r).rxr ring).la = (s.rxr ring).la.drop 1 := congrArg RxR.la State.setRxr_rxr

theorem State.laEnded_rd : (s.laEnded c ring r).rd R l i = (s.laCounted r).rd R l i := rfl

theorem State.laEnded_waiting : laCpl ring r ∈ ((s.laEnded c ring r).cq c).waiting := by
  rw [State.cq_of_host (t := s.laEnded c ring r) (s := (s.laCounted r).cqPush c (laCpl ring r)) rfl, State.cqPush, State.setCq_cq]
  exact List.mem_append_right _ (List.mem_singleton_self _)

theorem State.laComplete_ok (hst : r.status = 0) : s.laComplete ring r = s.laEnded (s.rd Reg.HIF_RX_CQ 0 ring) ring r := by
  have hcq : (s.laCounted r).rd Reg.HIF_RX_CQ 0 ring = s.rd Reg.HIF_RX_CQ 0 ring := by
    rw [State.laCounted, State.rd_inc_shared rfl, State.rd_inc_shared rfl]
  rw [← hcq]
  unfold State.laComplete
  rw [hst]
  rfl

theorem State.laDone_of_cons (hla : (s.rxr ring).la = r :: later) (hdma : s.canDma (s.rd Reg.HIF_RX_CTL_OWNER 0 ring) = true) :
    ∃ ws, s.laDone ring = (s.emits ws).laComplete ring r := by
  unfold State.laDone
  dsimp only
  rw [hla]
  exact ⟨_, if_neg (by simp [hdma])⟩

theorem lookasideDone_completes (hrun : s.runs .core = true) (hla : (s.rxr ring).la = r :: later)
    (hdma : s.canDma (s.rd Reg.HIF_RX_CTL_OWNER 0 ring) = true) (hst : r.status = 0) : ∃ t, exec (.lookasideDone ring) s = .next t ∧
    (t.rxr ring).la = later ∧ Counted Reg.CIPH_CNT_LA_REQUESTS 0 0 1 s t ∧ Counted Reg.CIPH_CNT_LA_BYTES 0 0 r.len s t ∧
    laCpl ring r ∈ (t.cq (s.rd Reg.HIF_RX_CQ 0 ring)).waiting := by
  obtain ⟨ws, hdone⟩ := State.laDone_of_cons hla hdma
  refine ⟨s.laDone ring, congrArg Host.Outcome.next (if_pos hrun), ?_⟩
  rw [hdone, State.laComplete_ok hst]
  refine ⟨?_, counted_of_rd_after State.laEnded_rd (State.laCounted_request (s := s.emits ws)),
    counted_of_rd_after State.laEnded_rd (State.laCounted_bytes (s := s.emits ws)), State.laEnded_waiting (s := s.emits ws)⟩
  rw [State.laEnded_la, State.rxr_of_host (t := s.emits ws) (s := s) rfl, hla]
  rfl

theorem lookasideDone_stands (hla : (s.rxr ring).la = []) : exec (.lookasideDone ring) s = .next s := by
  refine congrArg Host.Outcome.next (State.inDom_still ?_)
  unfold State.laDone
  rw [hla]

end

/-- Settles O33: an idle slot command acts on the state it meets and leaves its status to its end; a lookaside request is judged by R230's
checks in order. -/
theorem keySlotsAnswerAndLookasideRuns : Obligations.KeySlotsAnswerAndLookasideRuns := by
  unfold Obligations.KeySlotsAnswerAndLookasideRuns
  refine ⟨fun _ _ => query_shows, fun _ _ => slotCmd_busy, fun _ _ => slotRead_denied, fun _ _ => slotErase_erases,
    fun _ _ => slotErase_denied, fun _ _ _ => slotCmdDone_shows, fun _ _ => slotCmdDone_stands, fun _ _ _ => exec_keyRefresh,
    fun _ _ _ => exec_keyRefresh, fun _ _ _ => exec_keyRefresh, fun _ _ _ => exec_keyRefresh, fun _ _ => exec_ciphLock,
    fun _ => rngFail_shows, fun _ => rfl, ?_, ?_, ?_, fun _ _ _ => lookasideRequest_stands, fun _ _ _ _ => lookasideDone_completes,
    fun _ _ => lookasideDone_stands⟩
  · rintro ring _ idx e rest b s hrun hturn hreqs hen haad hkey hres hkind howner hrng rfl
    have hslot := Nat.mod_eq_of_lt hkey
    have ho : LaOwns s ring e := ⟨by rwa [hslot], by rwa [hslot]⟩
    have hdone := lookasideRequest_encrypts (b := b) ⟨hrun, hturn, hreqs⟩ ⟨hen, haad, by omega, hres⟩ ho hrng hkey
    rwa [State.laSealed, State.laKey, hslot] at hdone
  · rintro ring _ idx e rest b s hrun hturn hreqs hen haad hop hkey hres hkind howner hrng rfl htag
    exact lookasideRequest_authFails ⟨hrun, hturn, hreqs⟩ ⟨hen, haad, hkey, hres⟩ ⟨hkind, howner⟩ hrng hop htag
  · rintro ring src idx e rest s hrun hturn hreqs hen haad hkey hres - howner
    exact lookasideRequest_denied ⟨hrun, hturn, hreqs⟩ ⟨hen, haad, by omega, hres⟩ (by rwa [Nat.mod_eq_of_lt hkey])

end Sys2Proof.Machine

/-! SUPPORT. The cross-connect maps: their entries by page and position, and the commands that read and change them
(09_sluice_lanes.md, R239, R240, R248, R410). -/

namespace Sys2Proof.Machine

/-! ### The table of entries -/

/-- A key whose entries are all dropped reads as the default. -/
theorem Tab.get_filter_of_dropped {α : Type} (d : α) (p : Nat × α → Bool) {k : Nat} (hk : ∀ v, p (k, v) = false) (t : Tab α) :
    Tab.get d k (List.filter p t : Tab α) = d := by
  induction t with
  | nil => rfl
  | cons q t ih =>
    obtain ⟨j, v⟩ := q
    rw [List.filter_cons]
    split
    case isTrue hkept =>
      have hj : j ≠ k := fun e => Bool.false_ne_true ((hk v).symm.trans (e ▸ hkept))
      rw [Tab.get_cons, if_neg hj, ih]
    case isFalse => exact ih

/-- Entries that are put elsewhere leave a key as it was. -/
theorem Tab.get_foldr_put_of_ne {α : Type} [DecidableEq α] (d : α) (f : Nat → Nat) (base : Tab α) {j : Nat} (src : Tab α)
    (hne : ∀ p ∈ src, j ≠ f p.1) : Tab.get d j (src.foldr (fun p t => Tab.put d (f p.1) p.2 t) base) = Tab.get d j base := by
  induction src with
  | nil => rfl
  | cons p src ih =>
    rw [List.foldr_cons, Tab.get_put_ne d (hne p List.mem_cons_self), ih fun q hq => hne q (List.mem_cons_of_mem _ hq)]

/-- Entries that are put at their keys' images read there as they did, where the images lie apart and held nothing. -/
theorem Tab.get_foldr_put {α : Type} [DecidableEq α] (d : α) (f : Nat → Nat) (base : Tab α) {k : Nat} (hbase : Tab.get d (f k) base = d)
    (src : Tab α) (hapart : ∀ p ∈ src, f k = f p.1 → p.1 = k) :
    Tab.get d (f k) (src.foldr (fun p t => Tab.put d (f p.1) p.2 t) base) = Tab.get d k src := by
  induction src with
  | nil => exact hbase
  | cons p src ih =>
    obtain ⟨j, v⟩ := p
    rw [List.foldr_cons, Tab.get_cons]
    by_cases hj : j = k
    · subst hj
      rw [if_pos rfl, Tab.get_put_self]
    · rw [if_neg hj, Tab.get_put_ne d fun e => hj (hapart (j, v) List.mem_cons_self e)]
      exact ih fun q hq => hapart q (List.mem_cons_of_mem _ hq)

section
variable {s x : State} {ag : Agent} {R : Row} {up active : Bool} {page other pos pos' i v st : Nat} {tab : Tab Nat}
  {act : State → Nat × State} {held : Option Nat}

theorem cmKey_page (hpos : pos < 4096) : cmKey up page pos / 4096 = 2 * b2n up + page := by
  unfold cmKey
  omega

theorem cmKey_pos (hpos : pos < 4096) : cmKey up page pos % 4096 = pos := by
  unfold cmKey
  omega

theorem cmKey_ne_of_page (hpos : pos < 4096) (hpos' : pos' < 4096) (hne : page ≠ other) : cmKey up page pos ≠ cmKey up other pos' := by
  unfold cmKey
  omega

theorem cmClearPage_same (hpos : pos < 4096) : Tab.get 0 (cmKey up page pos) (cmClearPage up page tab) = 0 :=
  Tab.get_filter_of_dropped 0 _ (fun _ => by simp [cmKey_page hpos]) tab

theorem cmClearPage_other (hpos : pos < 4096) (hne : page ≠ other) :
    Tab.get 0 (cmKey up page pos) (cmClearPage up other tab) = Tab.get 0 (cmKey up page pos) tab :=
  Tab.get_filter_of_kept 0 _ (fun _ => by simp [cmKey_page hpos, hne]) tab

/-- The entries of a page. -/
def cmPageOf (up : Bool) (page : Nat) (tab : Tab Nat) : Tab Nat := tab.filter fun p => p.1 / 4096 == 2 * b2n up + page

theorem cmPageOf_get (hpos : pos < 4096) : Tab.get 0 (cmKey up page pos) (cmPageOf up page tab) = Tab.get 0 (cmKey up page pos) tab :=
  Tab.get_filter_of_kept 0 _ (fun _ => by simp [cmKey_page hpos]) tab

/-- The entries of one page given to another page, which held others. -/
def cmCopyPage (up : Bool) (page other : Nat) (tab : Tab Nat) : Tab Nat :=
  (cmPageOf up other tab).foldr (fun p t => Tab.put 0 (cmKey up page (p.1 % 4096)) p.2 t) (cmClearPage up page tab)

theorem cmCopyPage_same (hpos : pos < 4096) :
    Tab.get 0 (cmKey up page pos) (cmCopyPage up page other tab) = Tab.get 0 (cmKey up other pos) tab := by
  have hkey : cmKey up page pos = cmKey up page (cmKey up other pos % 4096) := by rw [cmKey_pos hpos]
  rw [← cmPageOf_get (page := other) hpos, hkey]
  refine Tab.get_foldr_put 0 (fun k => cmKey up page (k % 4096)) _ ?_ _ ?_
  · exact hkey ▸ cmClearPage_same hpos
  · intro p hp hsame
    have hpage : p.1 / 4096 = 2 * b2n up + other := by simpa using (List.mem_filter.1 hp).2
    simp only [cmKey] at hsame ⊢
    omega

theorem cmCopyPage_other (hpos : pos < 4096) (hne : other ≠ page) :
    Tab.get 0 (cmKey up other pos) (cmCopyPage up page other tab) = Tab.get 0 (cmKey up other pos) tab := by
  refine (Tab.get_foldr_put_of_ne 0 (fun k => cmKey up page (k % 4096)) _ _ ?_).trans (cmClearPage_other hpos hne)
  exact fun p _ => cmKey_ne_of_page hpos (Nat.mod_lt _ (by decide)) hne

/-! ### A command that runs, and one that does not (R410) -/

/-- The status that an agent's running cross-connect command will report. -/
abbrev State.cmHeld (s : State) (ag : Agent) : Option Nat := if ag.isFw then s.slu.cmStFw else s.slu.cmSt

/-- The agent's registers are BUSY, with the status to report. -/
def State.cmStarted (s : State) (ag : Agent) (st : Nat) : State := (s.wrA ag Reg.SLU_CM_CMD_BUSY 1).holdCm ag (some st)

@[simp] theorem State.wrA_slu : (s.wrA ag R v 0 i).slu = s.slu := by
  unfold State.wrA
  cases ag.isFw <;> rfl

@[simp] theorem State.holdCm_held : (s.holdCm ag held).cmHeld ag = held := by
  unfold State.cmHeld State.holdCm
  cases ag.isFw <;> rfl

theorem State.holdCm_cm : (s.holdCm ag held).slu.cm = s.slu.cm := by
  unfold State.holdCm
  cases ag.isFw <;> rfl

theorem State.rdA_holdCm : (s.holdCm ag held).rdA ag R 0 i = s.rdA ag R 0 i := by
  unfold State.holdCm State.rdA
  cases ag.isFw <;> rfl

theorem State.cmStarted_held : (s.cmStarted ag st).cmHeld ag = some st := State.holdCm_held

theorem State.cmStarted_busy : (s.cmStarted ag st).rdA ag Reg.SLU_CM_CMD_BUSY = 1 := State.rdA_holdCm.trans (State.rdA_wrA_at Nat.one_pos)

theorem State.cmStarted_cm : (s.cmStarted ag st).slu.cm = s.slu.cm := by rw [State.cmStarted, State.holdCm_cm, State.wrA_slu]

theorem State.cmStarted_entry : (s.cmStarted ag st).cmEntry up page pos = s.cmEntry up page pos := by
  rw [State.cmEntry, State.cmStarted_cm, State.cmEntry]

theorem State.rdA_cmStarted (h : otherRow R Reg.SLU_CM_CMD_BUSY = true) : (s.cmStarted ag st).rdA ag R 0 i = s.rdA ag R 0 i :=
  State.rdA_holdCm.trans (State.rdA_wrA_row h)

/-- A command written while BUSY shows BUSY. -/
theorem cmCmd_busy (hreach : s.reach ag = true) (hbusy : s.rdA ag Reg.SLU_CM_CMD_BUSY ≠ 0) :
    ∃ t, (.next (s.reg ag fun s => s.cmCmd ag act) : Out) = .next t ∧ t.rdA ag Reg.SLU_CM_CMD_STATUS = 1 ∧ t.slu = s.slu :=
  ⟨_, congrArg Host.Outcome.next ((if_pos hreach).trans (if_pos hbusy)), State.rdA_wrA_at Nat.one_pos, State.wrA_slu⟩

/-- A command on idle registers whose action gives x and the status st. -/
theorem cmCmd_gives (hreach : s.reach ag = true) (hidle : s.rdA ag Reg.SLU_CM_CMD_BUSY = 0) (hact : act s = (st, x)) :
    (.next (s.reg ag fun s => s.cmCmd ag act) : Out) = .next (x.cmStarted ag st) := by
  rw [State.reg, if_pos hreach, State.cmCmd, if_neg (not_not.2 hidle), hact]
  rfl

/-- A command that will report BUSY has changed no entry. -/
theorem cmCmd_refuses (hreach : s.reach ag = true) (hidle : s.rdA ag Reg.SLU_CM_CMD_BUSY = 0) (hact : act s = (St.busy, s)) :
    ∃ t, (.next (s.reg ag fun s => s.cmCmd ag act) : Out) = .next t ∧ t.slu.cm = s.slu.cm ∧ t.cmHeld ag = some 1 :=
  ⟨_, cmCmd_gives hreach hidle hact, State.cmStarted_cm, State.cmStarted_held⟩

/-! ### READ, WRITE, COPY and CLEAR (R239, R248) -/

theorem cmRead_shows (hreach : s.reach ag = true) (hidle : s.rdA ag Reg.SLU_CM_CMD_BUSY = 0) :
    ∃ t, exec (.cmRead ag up active) s = .next t ∧ t.rdA ag Reg.SLU_CM_DATA =
      s.cmEntry up (if active then s.cmPage up else 1 - s.cmPage up) (s.rdA ag Reg.SLU_CM_IDX) % 2 ^ Reg.SLU_CM_DATA.width ∧
    t.rdA ag Reg.SLU_CM_CMD_BUSY = 1 ∧ t.cmHeld ag = some 0 ∧ t.slu.cm = s.slu.cm := by
  refine ⟨_, cmCmd_gives hreach hidle rfl, ?_, State.cmStarted_busy, State.cmStarted_held, ?_⟩
  · rw [State.rdA_cmStarted rfl, State.rdA_wrA_at Nat.one_pos]
  · rw [State.cmStarted_cm, State.wrA_slu]

/-- A change of the standby page while a swap is pending is BUSY. -/
theorem State.cmChange_pending {f : Nat → Tab Nat → Tab Nat} (hpend : s.swapPending = true) : s.cmChange up f = (St.busy, s) := if_pos hpend

/-- The entries of the map replaced. -/
def State.setCm (s : State) (tab : Tab Nat) : State := { s with slu := { s.slu with cm := tab } }

theorem State.cmChange_free {f : Nat → Tab Nat → Tab Nat} (hfree : s.swapPending = false) :
    s.cmChange up f = (St.ok, s.setCm (f (1 - s.cmPage up) s.slu.cm)) := if_neg (by simp [hfree])

/-- An entry written by an agent's index and data. -/
def State.cmGiven (ag : Agent) (up : Bool) (s : State) : Nat × State :=
  if s.rdA ag Reg.SLU_CM_DATA ≥ 16384 then (if s.swapPending then St.busy else St.invalid, s)
  else s.cmChange up fun page t => Tab.put 0 (cmKey up page (s.rdA ag Reg.SLU_CM_IDX)) (s.rdA ag Reg.SLU_CM_DATA) t

theorem State.cmGiven_word (hdata : s.rdA ag Reg.SLU_CM_DATA < 16384) : State.cmGiven ag up s =
    s.cmChange up fun page t => Tab.put 0 (cmKey up page (s.rdA ag Reg.SLU_CM_IDX)) (s.rdA ag Reg.SLU_CM_DATA) t :=
  if_neg (Nat.not_le.2 hdata)

theorem State.cmGiven_pending (hpend : s.swapPending = true) : State.cmGiven ag up s = (St.busy, s) := by
  rw [State.cmGiven, State.cmChange_pending hpend, if_pos hpend, ite_self]

/-- The active page and the standby page are two. -/
theorem State.cmPage_ne (hpage : s.cmPage up ≤ 1) : s.cmPage up ≠ 1 - s.cmPage up := by omega

theorem cmWrite_sets (hreach : s.reach ag = true) (hidle : s.rdA ag Reg.SLU_CM_CMD_BUSY = 0) (hdata : s.rdA ag Reg.SLU_CM_DATA < 16384)
    (hidx : s.rdA ag Reg.SLU_CM_IDX < 4096) (hpos : pos < 4096) (hfree : s.swapPending = false) (hpage : s.cmPage up ≤ 1) :
    ∃ t, exec (.cmWrite ag up) s = .next t ∧ t.cmEntry up (1 - s.cmPage up) (s.rdA ag Reg.SLU_CM_IDX) = s.rdA ag Reg.SLU_CM_DATA ∧
    t.cmEntry up (s.cmPage up) pos = s.cmEntry up (s.cmPage up) pos ∧ t.cmHeld ag = some 0 := by
  have hact := (State.cmGiven_word (up := up) hdata).trans (State.cmChange_free hfree)
  refine ⟨_, cmCmd_gives hreach hidle hact, ?_, ?_, State.cmStarted_held⟩
  · exact State.cmStarted_entry.trans (Tab.get_put_self ..)
  · exact State.cmStarted_entry.trans (Tab.get_put_ne 0 (cmKey_ne_of_page hpos hidx (State.cmPage_ne hpage)) ..)

theorem cmWrite_pending (hreach : s.reach ag = true) (hidle : s.rdA ag Reg.SLU_CM_CMD_BUSY = 0) (hpend : s.swapPending = true) :
    ∃ t, exec (.cmWrite ag up) s = .next t ∧ t.slu.cm = s.slu.cm ∧ t.cmHeld ag = some 1 :=
  cmCmd_refuses (act := State.cmGiven ag up) hreach hidle (State.cmGiven_pending hpend)

/-- The standby page given the active page's entries. -/
def State.cmCopied (up : Bool) (s : State) : Nat × State := s.cmChange up fun page t => cmCopyPage up page (1 - page) t

theorem cmCopy_copies (hreach : s.reach ag = true) (hidle : s.rdA ag Reg.SLU_CM_CMD_BUSY = 0) (hpos : pos < 4096)
    (hfree : s.swapPending = false) (hpage : s.cmPage up ≤ 1) : ∃ t, exec (.cmCopy ag up) s = .next t ∧
    t.cmEntry up (1 - s.cmPage up) pos = s.cmEntry up (s.cmPage up) pos ∧
    t.cmEntry up (s.cmPage up) pos = s.cmEntry up (s.cmPage up) pos ∧ t.cmHeld ag = some 0 := by
  have hact : State.cmCopied up s = (St.ok, s.setCm (cmCopyPage up (1 - s.cmPage up) (s.cmPage up) s.slu.cm)) := by
    rw [State.cmCopied, State.cmChange_free hfree, Nat.sub_sub_self hpage]
  refine ⟨_, cmCmd_gives (act := State.cmCopied up) hreach hidle hact, ?_, ?_, State.cmStarted_held⟩
  · exact State.cmStarted_entry.trans (cmCopyPage_same hpos)
  · exact State.cmStarted_entry.trans (cmCopyPage_other hpos (State.cmPage_ne hpage))

theorem cmCopy_pending (hreach : s.reach ag = true) (hidle : s.rdA ag Reg.SLU_CM_CMD_BUSY = 0) (hpend : s.swapPending = true) :
    ∃ t, exec (.cmCopy ag up) s = .next t ∧ t.slu.cm = s.slu.cm ∧ t.cmHeld ag = some 1 :=
  cmCmd_refuses (act := State.cmCopied up) hreach hidle (State.cmChange_pending hpend)

/-- The standby page emptied. -/
def State.cmCleared (up : Bool) (s : State) : Nat × State := s.cmChange up fun page t => cmClearPage up page t

theorem cmClear_empties (hreach : s.reach ag = true) (hidle : s.rdA ag Reg.SLU_CM_CMD_BUSY = 0) (hpos : pos < 4096)
    (hfree : s.swapPending = false) (hpage : s.cmPage up ≤ 1) : ∃ t, exec (.cmClear ag up) s = .next t ∧
    t.cmEntry up (1 - s.cmPage up) pos = 0 ∧ t.cmEntry up (s.cmPage up) pos = s.cmEntry up (s.cmPage up) pos ∧ t.cmHeld ag = some 0 := by
  refine ⟨_, cmCmd_gives (act := State.cmCleared up) hreach hidle (State.cmChange_free hfree), ?_, ?_, State.cmStarted_held⟩
  · exact State.cmStarted_entry.trans (cmClearPage_same hpos)
  · exact State.cmStarted_entry.trans (cmClearPage_other hpos (State.cmPage_ne hpage))

theorem cmClear_pending (hreach : s.reach ag = true) (hidle : s.rdA ag Reg.SLU_CM_CMD_BUSY = 0) (hpend : s.swapPending = true) :
    ∃ t, exec (.cmClear ag up) s = .next t ∧ t.slu.cm = s.slu.cm ∧ t.cmHeld ag = some 1 :=
  cmCmd_refuses (act := State.cmCleared up) hreach hidle (State.cmChange_pending hpend)

/-! ### The end of a command -/

theorem State.cmDone_of_held (hheld : s.cmHeld ag = some st) : s.cmDone ag =
    ((s.holdCm ag none).wrA ag Reg.SLU_CM_CMD_BUSY 0).wrA ag Reg.SLU_CM_CMD_STATUS st := by
  rw [State.cmHeld] at hheld
  rw [State.cmDone, hheld]

theorem State.cmDone_of_none (hheld : s.cmHeld ag = none) : s.cmDone ag = s := by
  rw [State.cmHeld] at hheld
  rw [State.cmDone, hheld]

theorem cmCmdDone_shows (hreach : s.reach ag = true) (hheld : s.cmHeld ag = some st) (hst : st < 16) :
    ∃ t, exec (.cmCmdDone ag) s = .next t ∧ t.rdA ag Reg.SLU_CM_CMD_BUSY = 0 ∧ t.rdA ag Reg.SLU_CM_CMD_STATUS = st ∧ t.cmHeld ag = none := by
  refine ⟨s.cmDone ag, congrArg Host.Outcome.next (if_pos hreach), ?_⟩
  rw [State.cmDone_of_held hheld]
  refine ⟨?_, ?_, ?_⟩
  · rw [State.rdA_wrA_row rfl, State.rdA_wrA_at Nat.one_pos]
    rfl
  · rw [State.rdA_wrA_at Nat.one_pos]
    exact Nat.mod_eq_of_lt (Nat.lt_trans hst (by decide))
  · rw [State.cmHeld, State.wrA_slu, State.wrA_slu]
    exact State.holdCm_held

theorem cmCmdDone_stands (hheld : s.cmHeld ag = none) : exec (.cmCmdDone ag) s = .next s := by
  refine congrArg Host.Outcome.next ?_
  rw [State.reg, State.cmDone_of_none hheld, ite_self]

end

end Sys2Proof.Machine

/-! SUPPORT. Swaps of the cross-connect maps: their request, their cancellation and their effect (09_sluice_lanes.md, R246, R247). -/

namespace Sys2Proof.Machine

section
variable {s t u : State} {ag : Agent} {R : Row} {up : Bool} {src det lane page v st g : Nat}

@[simp] theorem State.event_slu : (s.event src det).slu = s.slu := (State.event_foot ..).slu rfl

/-! ### A request, judged (R246) -/

/-- The directions that a request names, shown. -/
def State.swapNamed (s : State) (v : Nat) : State := (s.wr Reg.SLU_SWAP_CTL_DN (bit v 1)).wr Reg.SLU_SWAP_CTL_UP (bit v 2)

/-- A field other than those that hold the directions named. -/
abbrev otherThanNamed (R : Row) : Bool := otherRow R Reg.SLU_SWAP_CTL_DN && otherRow R Reg.SLU_SWAP_CTL_UP

theorem State.swapNamed_rd {i : Nat} (h : otherThanNamed R = true) : (s.swapNamed v).rd R 0 i = s.rd R 0 i := by
  obtain ⟨hdn, hup⟩ := Bool.and_eq_true_iff.1 h
  rw [State.swapNamed, State.rd_wr_shared hup, State.rd_wr_shared hdn]

theorem State.swapNamed_widthOf : (s.swapNamed v).widthOf up lane = s.widthOf up lane := by
  rw [State.widthOf, State.swapNamed_rd rfl, State.swapNamed_rd rfl, State.widthOf]

theorem State.swapNamed_wellFormedPage : (s.swapNamed v).wellFormedPage up page = s.wellFormedPage up page := by
  unfold State.wellFormedPage
  simp only [State.swapNamed_widthOf]
  rfl

theorem State.swapNamed_cmPage : (s.swapNamed v).cmPage up = s.cmPage up := by
  rw [State.cmPage, State.swapNamed_rd rfl, State.swapNamed_rd rfl, State.cmPage]

theorem State.swapNamed_swapPending : (s.swapNamed v).swapPending = s.swapPending := by
  rw [State.swapPending, State.isOn, State.swapNamed_rd rfl, State.swapPending, State.isOn]

/-- The superframe that a request names. -/
abbrev State.swapSfc (s : State) : Nat := s.rd2 Reg.SLU_SWAP_SFC_LO_EFF_LO Reg.SLU_SWAP_SFC_HI_EFF_HI

theorem State.swapNamed_swapSfc : (s.swapNamed v).swapSfc = s.swapSfc := by
  rw [State.swapSfc, State.rd2, State.swapNamed_rd rfl, State.swapNamed_rd rfl, State.swapSfc, State.rd2]

theorem State.swapNamed_cur : (s.swapNamed v).cur (s.swapNamed v).active = s.cur s.active := by
  rw [State.active, State.swapNamed_rd rfl, State.swapNamed, State.cur, State.wr_wave, State.wr_wave, State.cur, State.active]

/-- A request is judged alike with its directions shown. -/
theorem State.swapNamed_swapRefusal {dn up : Bool} : (s.swapNamed v).swapRefusal dn up = s.swapRefusal dn up := by
  have hsfc : (s.swapNamed v).rd2 Reg.SLU_SWAP_SFC_LO_EFF_LO Reg.SLU_SWAP_SFC_HI_EFF_HI = _ := State.swapNamed_swapSfc
  unfold State.swapRefusal
  dsimp only
  rw [State.swapNamed_swapPending, State.swapNamed_wellFormedPage, State.swapNamed_wellFormedPage, State.swapNamed_cmPage,
    State.swapNamed_cmPage, State.swapNamed_cur, hsfc]

/-- What becomes of a request with the word v. -/
abbrev State.swapJudged (s : State) (v : Nat) : Nat := s.swapRefusal (bit v 1 == 1) (bit v 2 == 1)

/-- The request does not name the direction, or its standby page is well formed. -/
abbrev State.standbyFits (s : State) (v : Nat) (up : Bool) : Prop :=
  bit v (if up then 2 else 1) = 0 ∨ s.wellFormedPage up (1 - s.cmPage up) = true

theorem bit_beq_one {i : Nat} : (bit v i == 1) = !(bit v i == 0) := by
  obtain h | h : bit v i = 0 ∨ bit v i = 1 := Nat.mod_two_eq_zero_or_one _ <;> rw [h] <;> rfl

/-- R246's checks in order. -/
theorem State.swapJudged_eq : s.swapJudged v =
    if s.swapPending = true then St.busy
    else if bit v 1 = 0 ∧ bit v 2 = 0 then St.invalid
    else if ¬s.standbyFits v false ∨ ¬s.standbyFits v true then St.invalid
    else if s.swapSfc < s.cur s.active + 2 ∨ s.cur s.active + 4096 < s.swapSfc then St.outOfWindow
    else St.ok := by
  unfold State.swapJudged State.swapRefusal State.standbyFits
  simp only [bit_beq_one, Bool.and_eq_true, Bool.or_eq_true, Bool.not_eq_true', decide_eq_true_eq, Bool.not_not, beq_iff_eq, not_or,
    beq_eq_false_iff_ne, Bool.not_eq_true, if_true, if_false, Bool.false_eq_true, ne_eq, gt_iff_lt]

theorem State.swapJudged_pending (hpend : s.swapPending = true) : s.swapJudged v = St.busy := if_pos hpend

theorem State.swapJudged_invalid (hfree : s.swapPending = false)
    (hbad : (bit v 1 = 0 ∧ bit v 2 = 0) ∨ ¬s.standbyFits v false ∨ ¬s.standbyFits v true) : s.swapJudged v = St.invalid := by
  rw [State.swapJudged_eq, if_neg (by simp [hfree])]
  obtain hnone | hpages := hbad
  · exact if_pos hnone
  · rw [if_pos hpages, ite_self]

/-- A request that names well-formed pages, with no swap pending, is judged by its superframe. -/
theorem State.swapJudged_named (hfree : s.swapPending = false) (hnames : bit v 1 + bit v 2 ≠ 0) (hdn : s.standbyFits v false)
    (hup : s.standbyFits v true) : s.swapJudged v =
      if s.swapSfc < s.cur s.active + 2 ∨ s.cur s.active + 4096 < s.swapSfc then St.outOfWindow else St.ok := by
  rw [State.swapJudged_eq, if_neg (by simp [hfree]), if_neg (by omega), if_neg (not_or.2 ⟨not_not.2 hdn, not_not.2 hup⟩)]

/-! ### A request, refused and accepted (R246, R247) -/

/-- A request's directions and its result, shown. -/
abbrev State.swapShown (s : State) (v st : Nat) : State := (s.swapNamed v).wr Reg.SLU_SWAP_CTL_RESULT st

/-- A swap of the directions that the word v names waits for the superframe named. -/
def State.swapHeld (s : State) (v : Nat) : State :=
  { s with slu := { s.slu with swapEff := s.swapSfc, swapDn := bit v 1 == 1, swapUp := bit v 2 == 1, dnDone := false, upDone := false } }.wr
    Reg.SLU_STATUS_SWAP_PEND 1

theorem State.swapShown_swapSfc : (s.swapShown v st).swapSfc = s.swapSfc := by
  rw [State.swapSfc, State.rd2, State.rd_wr_shared rfl, State.rd_wr_shared rfl]
  exact State.swapNamed_swapSfc

theorem State.swapRequest_eq : s.swapRequest v =
    if s.swapJudged v ≠ 0 then (s.swapShown v (s.swapJudged v)).event (Ev.slu 1) else (s.swapShown v (s.swapJudged v)).swapHeld v := by
  have hjudged : (s.swapNamed v).swapJudged v = s.swapJudged v := State.swapNamed_swapRefusal
  rw [← hjudged]
  rfl

theorem swapRequest_refused {v : BitVec 32} (hreach : s.reach ag = true) (hst : s.swapJudged v.toNat = st) (hne : st ≠ 0) (hlt : st < 16) :
    ∃ t, exec (.swapRequest ag v) s = .next t ∧ t.rd Reg.SLU_SWAP_CTL_RESULT = st ∧ t.slu = s.slu ∧
    t.rd Reg.SLU_STATUS_SWAP_PEND = s.rd Reg.SLU_STATUS_SWAP_PEND := by
  subst hst
  refine ⟨_, congrArg Host.Outcome.next ((if_pos hreach).trans (State.swapRequest_eq.trans (if_pos hne))), ?_, State.event_slu, ?_⟩
  · rw [(State.event_foot ..).rd_keeps rfl, State.rd_wr_same Nat.one_pos]
    exact Nat.mod_eq_of_lt (Nat.lt_trans hlt (by decide))
  · rw [(State.event_foot ..).rd_keeps rfl, State.rd_wr_shared rfl, State.swapNamed_rd rfl]

theorem swapRequest_accepted {v : BitVec 32} (hreach : s.reach ag = true) (hok : s.swapJudged v.toNat = 0) :
    ∃ t, exec (.swapRequest ag v) s = .next t ∧ t.rd Reg.SLU_STATUS_SWAP_PEND = 1 ∧ t.rd Reg.SLU_SWAP_CTL_RESULT = 0 ∧
    t.slu.swapDn = (bit v.toNat 1 == 1) ∧ t.slu.swapUp = (bit v.toNat 2 == 1) ∧ t.slu.swapEff = s.swapSfc ∧ t.slu.cm = s.slu.cm := by
  refine ⟨_, congrArg Host.Outcome.next ((if_pos hreach).trans (State.swapRequest_eq.trans (if_neg (not_not.2 hok)))),
    State.rd_wr_same Nat.one_pos, ?_, rfl, rfl, State.swapShown_swapSfc, rfl⟩
  rw [hok, State.swapHeld, State.rd_wr_shared rfl, State.rd_set_slu, State.rd_wr_same Nat.one_pos]
  rfl

/-! ### CANCEL (R246) -/

theorem swapCancel_cancels (hreach : s.reach ag = true) (hpend : s.swapPending = true) (hdn : s.slu.dnDone = false)
    (hup : s.slu.upDone = false) : ∃ t, exec (.swapCancel ag) s = .next t ∧ t.rd Reg.SLU_STATUS_SWAP_PEND = 0 ∧
    t.rd Reg.SLU_SWAP_CTL_RESULT = 6 ∧ t.slu = s.slu := by
  have hcancel : s.swapCancel = s.swapDrop := if_neg (by simp [hdn, hup])
  have hdrop := hcancel.trans (if_neg (c := (!s.swapPending) = true) (by simp [hpend]))
  refine ⟨_, congrArg Host.Outcome.next ((if_pos hreach).trans hdrop), ?_, ?_, State.event_slu⟩
  · rw [(State.event_foot ..).rd_keeps rfl, State.rd_wr_shared rfl, State.rd_wr_same Nat.one_pos, Nat.zero_mod]
  · rw [(State.event_foot ..).rd_keeps rfl, State.rd_wr_same Nat.one_pos]
    rfl

theorem swapCancel_stands (hdone : s.slu.dnDone = true ∨ s.slu.upDone = true) : exec (.swapCancel ag) s = .next s := by
  have hcancel : s.swapCancel = s := if_pos (by simpa using hdone)
  refine congrArg Host.Outcome.next ?_
  rw [State.reg, hcancel, ite_self]

/-! ### What the groups leave when they follow a swap (R249, R250) -/

/-- Two states with the same map, and the same upstream direction swapped or not. -/
structure SameMap (s t : State) : Prop where
  cm : t.slu.cm = s.slu.cm
  upDone : t.slu.upDone = s.slu.upDone

theorem SameMap.refl : SameMap s s := ⟨rfl, rfl⟩

theorem SameMap.trans (h : SameMap s t) (h' : SameMap t u) : SameMap s u := ⟨h'.cm.trans h.cm, h'.upDone.trans h.upDone⟩

theorem SameMap.of_slu (h : t.slu = s.slu) : SameMap s t := by constructor <;> rw [h]

theorem SameMap.event (h : SameMap s t) : SameMap s (t.event src det) := h.trans (.of_slu State.event_slu)

theorem SameMap.aisEnd : SameMap s (s.aisEnd g) := by
  unfold State.aisEnd
  dsimp only
  split
  · exact SameMap.event ⟨rfl, rfl⟩
  · exact ⟨rfl, rfl⟩

theorem SameMap.settleGroup : SameMap s (s.settleGroup g) := by
  unfold State.settleGroup
  extract_lets hit ask s₁ slu₁ s₂
  have h₂ : SameMap s s₂ := by
    unfold s₂
    split
    · exact SameMap.event ⟨rfl, rfl⟩
    · split <;> exact ⟨rfl, rfl⟩
  split
  · split
    · exact h₂.trans .aisEnd
    · exact h₂
  · split
    · exact h₂.trans ⟨rfl, rfl⟩
    · exact h₂

theorem SameMap.foldl {gs : List Nat} (h : SameMap s t) : SameMap s (gs.foldl State.settleGroup t) := by
  induction gs generalizing t with
  | nil => exact h
  | cons g gs ih => exact ih (h.trans .settleGroup)

theorem SameMap.settleGroups : SameMap s s.settleGroups := by
  unfold State.settleGroups
  split
  · exact SameMap.refl.foldl
  · exact .refl

/-! ### A swap's frame (R247) -/

/-- What a swap has left to do when a direction has swapped: the others to wait for, or its end. -/
def State.swapFollowed (s : State) : State :=
  if (s.slu.swapDn && !s.slu.dnDone) || (s.slu.swapUp && !s.slu.upDone) then s.settleGroups
  else (((s.wr Reg.SLU_STATUS_SWAP_PEND 0).inc Reg.SLU_CNT_SWAPS).event (Ev.slu 0)).settleGroups

/-- The pending swap names the direction, which has not swapped yet. -/
def State.swapWaits (s : State) (up : Bool) : Bool := if up then s.slu.swapUp && !s.slu.upDone else s.slu.swapDn && !s.slu.dnDone

theorem State.swapEffective_due (hpend : s.swapPending = true) (hwaits : s.swapWaits up = true) (hdue : s.swapDue up = true) :
    s.swapEffective up = (s.swapPages up).swapFollowed := by
  refine if_neg ?_
  cases up <;> simp_all [State.swapWaits]

theorem State.swapFollowed_ends (hdn : s.slu.swapDn = false ∨ s.slu.dnDone = true) (hup : s.slu.swapUp = false ∨ s.slu.upDone = true) :
    s.swapFollowed = (((s.wr Reg.SLU_STATUS_SWAP_PEND 0).inc Reg.SLU_CNT_SWAPS).event (Ev.slu 0)).settleGroups := if_neg (by grind)

theorem State.swapFollowed_waits (hdn : s.slu.swapDn = true) (hdone : s.slu.dnDone = false) : s.swapFollowed = s.settleGroups :=
  if_pos (by simp [hdn, hdone])

/-- A direction's page after the exchange. -/
theorem page_swapped {p : Nat} (hp : p ≤ 1) : (1 - p) % 2 ^ 1 = 1 - p := by omega

theorem swapEffective_ends (hdue : s.swapDue false = true) (hpend : s.swapPending = true) (hnamed : s.slu.swapDn = true)
    (hwaits : s.slu.dnDone = false) (hlast : s.slu.swapUp = false ∨ s.slu.upDone = true) (hpage : s.rd Reg.SLU_STATUS_DN_PAGE ≤ 1) :
    ∃ t, exec (.swapEffective false) s = .next t ∧ t.rd Reg.SLU_STATUS_DN_PAGE = 1 - s.rd Reg.SLU_STATUS_DN_PAGE ∧
    t.rd Reg.SLU_STATUS_SWAP_PEND = 0 ∧ Counted Reg.SLU_CNT_SWAPS 0 0 1 s t ∧ t.slu.cm = s.slu.cm := by
  have hswap := (State.swapEffective_due hpend (by simp [State.swapWaits, hnamed, hwaits]) hdue).trans
    (State.swapFollowed_ends (s := s.swapPages false) (.inr rfl) hlast)
  refine ⟨_, congrArg Host.Outcome.next hswap, ?_, ?_, ?_, ?_⟩
  · rw [(State.settleGroups_foot _).rd_keeps rfl, (State.event_foot ..).rd_keeps rfl, State.rd_inc_shared rfl, State.rd_wr_shared rfl]
    exact (State.rd_wr_same Nat.one_pos).trans (page_swapped hpage)
  · rw [(State.settleGroups_foot _).rd_keeps rfl, (State.event_foot ..).rd_keeps rfl, State.rd_inc_shared rfl, State.rd_wr_same Nat.one_pos,
      Nat.zero_mod]
  · refine counted_of_foot_after (State.settleGroups_foot _) rfl (counted_of_foot_after (State.event_foot ..) rfl ?_)
    refine counted_of_rd_before ?_ (counted_inc Nat.one_pos)
    rw [State.rd_wr_shared rfl, (State.swapPages_foot ..).rd_keeps rfl]
  · rw [SameMap.settleGroups.cm, State.event_slu]
    rfl

theorem swapEffective_waits (hdue : s.swapDue true = true) (hpend : s.swapPending = true) (hnamed : s.slu.swapUp = true)
    (hwaits : s.slu.upDone = false) (hdn : s.slu.swapDn = true) (hdone : s.slu.dnDone = false) (hpage : s.rd Reg.SLU_STATUS_UP_PAGE ≤ 1) :
    ∃ t, exec (.swapEffective true) s = .next t ∧ t.rd Reg.SLU_STATUS_UP_PAGE = 1 - s.rd Reg.SLU_STATUS_UP_PAGE ∧
    t.rd Reg.SLU_STATUS_SWAP_PEND = s.rd Reg.SLU_STATUS_SWAP_PEND ∧ t.slu.upDone = true := by
  have hswap := (State.swapEffective_due hpend (by simp [State.swapWaits, hnamed, hwaits]) hdue).trans
    (State.swapFollowed_waits (s := s.swapPages true) hdn hdone)
  refine ⟨_, congrArg Host.Outcome.next hswap, ?_, ?_, SameMap.settleGroups.upDone⟩
  · rw [(State.settleGroups_foot _).rd_keeps rfl]
    exact (State.rd_wr_same Nat.one_pos).trans (page_swapped hpage)
  · rw [(State.settleGroups_foot _).rd_keeps rfl, (State.swapPages_foot ..).rd_keeps rfl]

theorem swapEffective_stands (hno : s.swapPending = false ∨ s.swapDue up = false) : exec (.swapEffective up) s = .next s := by
  refine congrArg Host.Outcome.next (if_pos ?_)
  obtain h | h := hno <;> simp [h]

end

/-- Settles O37: a command on idle registers acts on the standby page alone, and a pending swap ends with its last direction. -/
theorem crossConnectMapsAreEditedAndSwapped : Obligations.CrossConnectMapsAreEditedAndSwapped := by
  unfold Obligations.CrossConnectMapsAreEditedAndSwapped
  refine ⟨?_, ?_, fun _ _ _ _ => cmCmd_busy, fun _ _ _ => cmCmd_busy, fun _ _ _ => cmCmd_busy, fun _ _ _ => cmCmd_busy,
    fun _ _ _ _ => cmWrite_sets, fun _ _ _ => cmWrite_pending, fun _ _ _ _ => cmCopy_copies, fun _ _ _ => cmCopy_pending,
    fun _ _ _ _ => cmClear_empties, fun _ _ _ => cmClear_pending, fun _ _ _ => cmCmdDone_shows, fun _ _ => cmCmdDone_stands,
    ?_, ?_, ?_, ?_, fun _ _ => swapCancel_cancels, fun _ _ => swapCancel_stands, ?_, ?_, fun _ _ => swapEffective_stands⟩
  · rintro ag up _ s hreach hidle rfl
    exact cmRead_shows hreach hidle
  · rintro ag up _ s hreach hidle rfl
    obtain ⟨t, ht, hdata, -, hheld, hcm⟩ := cmRead_shows (up := up) (active := false) hreach hidle
    exact ⟨t, ht, hdata, hheld, hcm⟩
  · intro ag v s hreach hfree hnames hdn hup hfrom hto
    have hinside := not_or.2 ⟨Nat.not_lt.2 hfrom, Nat.not_lt.2 hto⟩
    exact swapRequest_accepted hreach ((State.swapJudged_named hfree hnames hdn hup).trans (if_neg hinside))
  · intro ag v s hreach hpend
    exact swapRequest_refused hreach (State.swapJudged_pending hpend) (by decide) (by decide)
  · intro ag v s hreach hfree hbad
    exact swapRequest_refused hreach (State.swapJudged_invalid hfree hbad) (by decide) (by decide)
  · intro ag v s hreach hfree hnames hdn hup hsfc
    exact swapRequest_refused hreach ((State.swapJudged_named hfree hnames hdn hup).trans (if_pos hsfc)) (by decide) (by decide)
  · rintro _ s rfl
    exact swapEffective_ends
  · rintro _ s rfl
    exact swapEffective_waits

end Sys2Proof.Machine

/-! SUPPORT. The records of the sluice lanes: one to the owner of a downstream lane, one from the owner of an upstream lane
(09_sluice_lanes.md, R241 to R244, R252). -/

namespace Sys2Proof.Machine

section
variable {s x : State} {l : Leg} {lane key addr k g : Nat} {lost good : Bool} {r b : List Byte} {data : HostRead}

theorem has_of_not_mem {ns : List Nat} {n : Nat} (h : n ∉ ns) : has ns n = false := by
  rw [has, List.any_beq']
  simpa using h

/-! ### What a record's counts and events add to the trace -/

theorem State.event_out_of {src det : Nat} (hx : x.out = s.out) : s.out <+: (x.event src det).out := hx ▸ State.event_out

theorem State.sluOnce_out : s.out <+: (s.sluOnce k).out := by
  unfold State.sluOnce
  split
  · exact List.prefix_rfl
  · exact State.event_out_of rfl

theorem State.aisEnd_out : s.out <+: (s.aisEnd g).out := by
  unfold State.aisEnd
  dsimp only
  split
  · exact State.event_out_of rfl
  · exact List.prefix_rfl

theorem State.aisStep_out : s.out <+: (s.aisStep lane good).2.out := by
  unfold State.aisStep
  extract_lets group slu
  split
  · exact List.prefix_rfl
  · split
    · exact State.aisEnd_out
    · split
      · exact List.prefix_rfl
      · dsimp only
        split
        · exact List.prefix_rfl
        · exact State.event_out_of rfl

theorem State.countSlots_out : s.out <+: (s.countSlots lane l lost).out := by
  unfold State.countSlots
  extract_lets leg mapped short err s₁ s₂
  have h₂ : s.out <+: s₂.out := by
    unfold s₂
    split
    · exact List.prefix_rfl
    · exact State.sluOnce_out (s := s₁)
  split
  · exact h₂
  · exact h₂.trans State.event_out

/-! ### A record written in host memory -/

theorem pieces_ne_nil {size fuel len : Nat} (hlen : len ≠ 0) : pieces size (fuel + 1) addr len ≠ [] := by
  rw [pieces, if_neg hlen]
  exact nofun

/-- Bytes written to host memory leave in one request at least. -/
theorem State.dmaWrites_length_pos {f : Nat} {relaxed : Bool} (hr : r ≠ []) : 0 < (s.dmaWrites f addr relaxed r).length := by
  rw [State.dmaWrites, List.length_map]
  exact List.length_pos_of_ne_nil (pieces_ne_nil (List.length_eq_zero_iff.not.2 hr))

theorem State.emits_longer {f : Nat} {relaxed : Bool} (hx : s.out <+: x.out) (hr : r ≠ []) :
    s.out.length < (x.emits (x.dmaWrites f addr relaxed r)).out.length := by
  rw [State.emits, List.length_append]
  exact Nat.lt_of_le_of_lt hx.length_le (Nat.lt_add_of_pos_right (State.dmaWrites_length_pos hr))

theorem State.laneRecord_ne_nil {ais : Bool} : s.laneRecord lane l key ais lost ≠ [] := by
  unfold State.laneRecord
  simp [leBytes_succ]

/-- The counts of a record on its way to the lane's owner: AIS, errored and missing slots. -/
def State.recordCounted (s : State) (lane : Nat) (l : Leg) (lost : Bool) : State :=
  let step := s.aisStep lane (!lost && s.sluGood)
  let counted := step.2.countSlots lane l lost
  if step.1 then counted.inc Reg.SLU_CNT_AIS_RECORDS else counted

theorem State.recordCounted_out : s.out <+: (s.recordCounted lane l lost).out := by
  have hcounted := (State.aisStep_out (s := s) (lane := lane) (good := !lost && s.sluGood)).trans
    (State.countSlots_out (lane := lane) (l := l) (lost := lost))
  unfold State.recordCounted
  dsimp only
  split <;> exact hcounted

theorem State.recordCounted_overrun : (s.recordCounted lane l lost).rd Reg.SLU_CNT_DN_OVERRUN = s.rd Reg.SLU_CNT_DN_OVERRUN := by
  have hcounted : ((s.aisStep lane (!lost && s.sluGood)).2.countSlots lane l lost).rd Reg.SLU_CNT_DN_OVERRUN =
      s.rd Reg.SLU_CNT_DN_OVERRUN := by
    rw [(State.countSlots_foot ..).rd_keeps rfl, (State.aisStep_foot ..).rd_keeps rfl]
  unfold State.recordCounted
  dsimp only
  split
  · exact (State.rd_inc_shared rfl).trans hcounted
  · exact hcounted

/-- The owner of a downstream lane. -/
abbrev State.dnOwner (s : State) (lane : Nat) : Nat := s.rd Reg.SLU_DLANE_CTL_OWNER 0 lane

/-- A function that can take a record and has room for it gets one, of some bytes at some address, and PROD advances. -/
theorem State.frameRecord_gives (hfn : s.dnOwner lane ≠ 255) (hup : s.laneOwnerUp (s.dnOwner lane) = true) (hroom : s.laneFull lane = false) :
    ∃ addr r, r ≠ [] ∧ s.frameRecord lane l key lost =
      ((s.recordCounted lane l lost).emits ((s.recordCounted lane l lost).dmaWrites (s.dnOwner lane) addr false r)).wr Reg.SLU_DLANE_PROD
        (s.rd Reg.SLU_DLANE_PROD 0 lane + 1) 0 lane := by
  unfold State.frameRecord State.putRecord
  dsimp only
  rw [if_neg (by simp [hfn]), if_neg (by simp [hup, hroom]), if_neg hfn]
  exact ⟨_, _, State.laneRecord_ne_nil, rfl⟩

/-- A record that its function cannot take, or has no room for, is an overrun. -/
theorem State.frameRecord_drops (hfn : s.dnOwner lane ≠ 255) (hbad : s.laneOwnerUp (s.dnOwner lane) = false ∨ s.laneFull lane = true) :
    s.frameRecord lane l key lost = (s.inc Reg.SLU_CNT_DN_OVERRUN).sluOnce 8 := by
  unfold State.frameRecord
  dsimp only
  rw [if_neg (by simp [hfn]), if_pos (by simpa using hbad)]

/-! ### SLUICE_RECORD_WRITE (R243) -/

/-- The frame that the downstream records describe. -/
abbrev State.dnFrame (s : State) : Nat := 8 * (s.wave s.sluLeg 0).sfc + (s.wave s.sluLeg 0).fn

/-- The lane's record of the current frame is dealt with. -/
def State.recordMarked (s : State) (lane : Nat) : State := { s with slu := { s.slu with wrote := lane :: s.slu.wrote } }

/-- An enabled downstream lane of a function, whose record of the current frame is due and no earlier one. -/
structure WritesLane (s : State) (lane : Nat) : Prop where
  on : s.isOn Reg.SLU_CTL_EN = true
  enabled : s.isOn Reg.SLU_DLANE_CTL_EN 0 lane = true
  late : s.slu.late = []
  due : lane ∉ s.slu.wrote
  function : s.dnOwner lane ≠ 255

theorem exec_sluiceRecordWrite (hw : WritesLane s lane) : exec (.sluiceRecordWrite lane) s =
    .next ((s.recordMarked lane).frameRecord lane s.sluLeg s.dnFrame s.sluLost) := by
  obtain ⟨hon, hen, hlate, hdue, -⟩ := hw
  refine congrArg Host.Outcome.next ?_
  unfold State.recordWrite
  rw [if_neg (by simp [hon, hen]), hlate]
  exact if_neg (by simp [has_of_not_mem hdue])

theorem sluiceRecordWrite_gives (hlane : lane < 128) (hw : WritesLane s lane) (hup : s.laneOwnerUp (s.dnOwner lane) = true)
    (hroom : s.laneFull lane = false) : ∃ t, exec (.sluiceRecordWrite lane) s = .next t ∧
    t.rd Reg.SLU_DLANE_PROD 0 lane = (s.rd Reg.SLU_DLANE_PROD 0 lane + 1) % 65536 ∧
    t.rd Reg.SLU_CNT_DN_OVERRUN = s.rd Reg.SLU_CNT_DN_OVERRUN ∧ s.out.length < t.out.length := by
  obtain ⟨addr, r, hr, hgives⟩ := State.frameRecord_gives (s := s.recordMarked lane) (l := s.sluLeg) (key := s.dnFrame)
    (lost := s.sluLost) hw.function hup hroom
  refine ⟨_, (exec_sluiceRecordWrite hw).trans (congrArg _ hgives), State.rd_wr_same hlane, ?_, ?_⟩
  · exact (State.rd_wr_shared rfl).trans State.recordCounted_overrun
  · exact State.emits_longer (State.recordCounted_out (s := s.recordMarked lane)) hr

theorem sluiceRecordWrite_drops (hw : WritesLane s lane) (hbad : s.laneOwnerUp (s.dnOwner lane) = false ∨ s.laneFull lane = true) :
    ∃ t, exec (.sluiceRecordWrite lane) s = .next t ∧ Counted Reg.SLU_CNT_DN_OVERRUN 0 0 1 s t ∧
    t.rd Reg.SLU_DLANE_PROD 0 lane = s.rd Reg.SLU_DLANE_PROD 0 lane := by
  have hdrops := State.frameRecord_drops (s := s.recordMarked lane) (l := s.sluLeg) (key := s.dnFrame)
    (lost := s.sluLost) hw.function hbad
  refine ⟨_, (exec_sluiceRecordWrite hw).trans (congrArg _ hdrops), ?_, ?_⟩
  · exact counted_of_foot_after (State.sluOnce_foot ..) rfl (counted_inc (s := s.recordMarked lane) Nat.one_pos)
  · exact ((State.sluOnce_foot ..).rd_at rfl).trans (State.rd_inc_shared rfl)

theorem sluiceRecordWrite_disabled (hoff : s.isOn Reg.SLU_DLANE_CTL_EN 0 lane = false) : exec (.sluiceRecordWrite lane) s = .next s :=
  congrArg Host.Outcome.next (if_pos (by simp [hoff]))

/-! ### The read of a lane's record (R244) -/

/-- The owner of an upstream lane. -/
abbrev State.upOwner (s : State) (lane : Nat) : Nat := s.rd Reg.SLU_ULANE_CTL_OWNER 0 lane

theorem State.underrun_counts : Counted Reg.SLU_CNT_UP_UNDERRUN 0 0 1 s s.underrun :=
  counted_of_foot_after (State.sluOnce_foot ..) rfl (counted_inc Nat.one_pos)

/-- A lane with nothing to send has an underrun, whether its owner can give a record or not. -/
theorem State.laneRead_empty (hempty : s.rd Reg.SLU_ULANE_CONS 0 lane = s.rd Reg.SLU_ULANE_PROD 0 lane) :
    s.laneRead lane data = s.underrun := if_pos (by simp [hempty])

/-- The read of the entry at CONS asked of the owner's memory. -/
def State.recordAsked (s : State) (lane : Nat) : State :=
  s.askHost (s.upOwner lane) (s.rd2 Reg.SLU_ULANE_BASE_LO Reg.SLU_ULANE_BASE_HI 0 lane + 16 * s.widthOf true lane *
    (s.rd Reg.SLU_ULANE_CONS 0 lane % 2 ^ laneLog (s.rd Reg.SLU_ULANE_SIZE 0 lane))) (16 * s.widthOf true lane)

section
variable (hfn : s.upOwner lane ≠ 255) (hup : s.laneOwnerUp (s.upOwner lane) = true)
  (hmore : s.rd Reg.SLU_ULANE_CONS 0 lane ≠ s.rd Reg.SLU_ULANE_PROD 0 lane)
include hfn hup hmore

/-- A function's record that its memory gives. -/
theorem State.laneRead_data : s.laneRead lane (.data b) =
    { (s.recordAsked lane).wr Reg.SLU_ULANE_CONS (s.rd Reg.SLU_ULANE_CONS 0 lane + 1) 0 lane with
      slu := { s.slu with nextRecs := Tab.put [] lane (slice b 0 (16 * s.widthOf true lane)) s.slu.nextRecs } } := by
  unfold State.laneRead
  dsimp only
  rw [if_neg (by simp [hup, hmore]), if_neg hfn]
  rfl

/-- A function's record whose read fails. -/
theorem State.laneRead_fails {why : ReadFault} : ∃ addr, s.laneRead lane (.fail why) =
    ((s.recordAsked lane).underrun.inc Reg.SLU_CNT_UP_FETCH_FAIL).readFault (s.upOwner lane) lane lane 3 addr why := by
  unfold State.laneRead
  dsimp only
  rw [if_neg (by simp [hup, hmore]), if_neg hfn]
  exact ⟨_, rfl⟩

end

/-! ### SLUICE_RECORD_READ (R244, R252) -/

/-- The number of a frame of the active leg, as the records read ahead are kept. -/
abbrev State.frameOf (s : State) (key : Nat) : Nat := 2 * key + s.active.n

/-- The records read ahead, for a frame: those of another frame are dropped. -/
def State.readSlu (s : State) (key : Nat) : SluSt :=
  if s.slu.nextFor = s.frameOf key then s.slu else { s.slu with nextFor := s.frameOf key, nextRecs := [], nextSeen := [] }

theorem State.readSlu_nextFor : (s.readSlu key).nextFor = s.frameOf key := by
  unfold State.readSlu
  split
  · assumption
  · rfl

theorem State.readSlu_nextSeen : (s.readSlu key).nextSeen = if s.slu.nextFor = s.frameOf key then s.slu.nextSeen else [] := by
  unfold State.readSlu
  split <;> rfl

/-- The lane is served for a frame. -/
def State.readMarked (s : State) (lane key : Nat) : State :=
  { s with slu := { s.readSlu key with nextSeen := lane :: (s.readSlu key).nextSeen } }

/-- An enabled upstream lane of a function, not yet read for a frame of the active leg that has not started. -/
structure ReadsLane (s : State) (lane key : Nat) : Prop where
  on : s.isOn Reg.SLU_CTL_EN = true
  enabled : s.isOn Reg.SLU_ULANE_CTL_EN 0 lane = true
  ahead : 8 * (s.leg s.active).upSfc + (s.leg s.active).upFn < key
  fresh : lane ∉ if s.slu.nextFor = s.frameOf key then s.slu.nextSeen else []
  function : s.upOwner lane ≠ 255

theorem State.recordRead_reads (hr : ReadsLane s lane key) : s.recordRead lane key data = (s.readMarked lane key).laneRead lane data := by
  obtain ⟨hon, hen, hahead, hfresh, hfn⟩ := hr
  rw [← State.readSlu_nextSeen] at hfresh
  have hslu : (if s.slu.nextFor = s.frameOf key then s else
      { s with slu := { s.slu with nextFor := s.frameOf key, nextRecs := [], nextSeen := [] } }) = { s with slu := s.readSlu key } := by
    unfold State.readSlu
    split <;> rfl
  unfold State.recordRead
  dsimp only
  rw [if_neg (by simp [hon, hen, hfn]; omega), hslu]
  exact if_neg (by simp [has_of_not_mem hfresh])

section
variable {sfc : BitVec 48} {fn : Nat} (hr : ReadsLane s lane (8 * sfc.toNat + fn % 8))
include hr

theorem exec_sluiceRecordRead : exec (.sluiceRecordRead lane sfc fn data) s =
    .next ((s.readMarked lane (8 * sfc.toNat + fn % 8)).laneRead lane data) :=
  congrArg Host.Outcome.next (State.recordRead_reads hr)

theorem sluiceRecordRead_takes (hlane : lane < 128) (hup : s.laneOwnerUp (s.upOwner lane) = true)
    (hmore : s.rd Reg.SLU_ULANE_CONS 0 lane ≠ s.rd Reg.SLU_ULANE_PROD 0 lane) :
    ∃ t, exec (.sluiceRecordRead lane sfc fn (.data b)) s = .next t ∧
    t.rd Reg.SLU_ULANE_CONS 0 lane = (s.rd Reg.SLU_ULANE_CONS 0 lane + 1) % 65536 ∧
    Tab.get [] lane t.slu.nextRecs = slice b 0 (16 * s.widthOf true lane) ∧ t.slu.nextFor = s.frameOf (8 * sfc.toNat + fn % 8) ∧
    t.host = s.host := by
  have hdata := State.laneRead_data (s := s.readMarked lane (8 * sfc.toNat + fn % 8)) (b := b) hr.function hup hmore
  exact ⟨_, (exec_sluiceRecordRead hr).trans (congrArg _ hdata), State.rd_wr_same hlane, Tab.get_put_self .., State.readSlu_nextFor, rfl⟩

theorem sluiceRecordRead_underruns (hempty : s.rd Reg.SLU_ULANE_CONS 0 lane = s.rd Reg.SLU_ULANE_PROD 0 lane) :
    ∃ t, exec (.sluiceRecordRead lane sfc fn data) s = .next t ∧ Counted Reg.SLU_CNT_UP_UNDERRUN 0 0 1 s t ∧
    t.rd Reg.SLU_ULANE_CONS 0 lane = s.rd Reg.SLU_ULANE_CONS 0 lane := by
  have hread := State.laneRead_empty (s := s.readMarked lane (8 * sfc.toNat + fn % 8)) (data := data) hempty
  exact ⟨_, (exec_sluiceRecordRead hr).trans (congrArg _ hread), State.underrun_counts (s := s.readMarked ..),
    (State.underrun_foot _).rd_at rfl⟩

theorem sluiceRecordRead_fails {why : ReadFault} (hup : s.laneOwnerUp (s.upOwner lane) = true)
    (hmore : s.rd Reg.SLU_ULANE_CONS 0 lane ≠ s.rd Reg.SLU_ULANE_PROD 0 lane) :
    ∃ t, exec (.sluiceRecordRead lane sfc fn (.fail why)) s = .next t ∧ Counted Reg.SLU_CNT_UP_UNDERRUN 0 0 1 s t ∧
    Counted Reg.SLU_CNT_UP_FETCH_FAIL 0 0 1 s t ∧ t.rd Reg.SLU_ULANE_CONS 0 lane = s.rd Reg.SLU_ULANE_CONS 0 lane := by
  obtain ⟨addr, hfails⟩ := State.laneRead_fails (s := s.readMarked lane (8 * sfc.toNat + fn % 8)) (why := why) hr.function hup hmore
  refine ⟨_, (exec_sluiceRecordRead hr).trans (congrArg _ hfails), ?_, ?_, ?_⟩
  · refine counted_of_foot_after (State.readFault_foot ..) rfl (counted_of_rd_after (State.rd_inc_shared rfl) ?_)
    exact State.underrun_counts (s := (s.readMarked ..).recordAsked lane)
  · refine counted_of_foot_after (State.readFault_foot ..) rfl (counted_of_rd_before ?_ (counted_inc Nat.one_pos))
    exact (State.underrun_foot ((s.readMarked ..).recordAsked lane)).rd_keeps rfl
  · rw [(State.readFault_foot ..).rd_at rfl, State.rd_inc_shared rfl]
    exact (State.underrun_foot ((s.readMarked ..).recordAsked lane)).rd_at rfl

end

theorem sluiceRecordRead_disabled {sfc : BitVec 48} {fn : Nat} (hoff : s.isOn Reg.SLU_CTL_EN = false ∨ s.isOn Reg.SLU_ULANE_CTL_EN 0 lane = false) :
    exec (.sluiceRecordRead lane sfc fn data) s = .next s := by
  refine congrArg Host.Outcome.next (if_pos ?_)
  obtain h | h := hoff <;> simp [h]

end

/-- Settles O38: a lane that is due gives or takes one record, or counts why it did not. -/
theorem sluiceRecordsMove : Obligations.SluiceRecordsMove := by
  unfold Obligations.SluiceRecordsMove
  refine ⟨?_, ?_, fun _ _ => sluiceRecordWrite_disabled, ?_, ?_, ?_, fun _ _ _ _ _ => sluiceRecordRead_disabled⟩
  · intro lane s hlane hon hen hlate hdue hfn
    exact sluiceRecordWrite_gives hlane ⟨hon, hen, hlate, hdue, hfn⟩
  · intro lane s _ hon hen hlate hdue hfn
    exact sluiceRecordWrite_drops ⟨hon, hen, hlate, hdue, hfn⟩
  · rintro lane sfc fn _ b s hlane hon hen hahead hfresh hfn hup hmore rfl
    exact sluiceRecordRead_takes ⟨hon, hen, hahead, hfresh, hfn⟩ hlane hup hmore
  · intro lane sfc fn data s _ hon hen hahead hfresh hfn
    exact sluiceRecordRead_underruns ⟨hon, hen, hahead, hfresh, hfn⟩
  · rintro lane sfc fn _ why s _ hon hen hahead hfresh hfn hup hmore rfl
    exact sluiceRecordRead_fails ⟨hon, hen, hahead, hfresh, hfn⟩ hup hmore

end Sys2Proof.Machine

/-! SUPPORT. Leg protection: the switch in its parts, and what evaluating the standing requests keeps (10_protection_and_monitoring.md, R258,
R263, R264, R267). -/

namespace Sys2Proof.Machine

section
variable {m cause : Nat} {s t : State} {l old new : Leg}

/-! ### The switch in its parts (R264) -/

/-- What a switch records at its instant: its registers and the protection unit's own state. -/
def State.decideSwitch (s : State) (cause : Nat) (new : Leg) : State :=
  let shown := ((s.wtrCancel.wr Reg.PROT_STATUS_ACTIVE new.n).wr Reg.PROT_STATUS_SWITCHING 1).wr Reg.PROT_STATUS_LAST_CAUSE cause
  let counted := ((shown.wr Reg.HG_STATUS_ACTIVE 0 s.active.n).wr Reg.HG_STATUS_ACTIVE 1 new.n).inc Reg.PROT_CNT_SWITCHES 0 (cause - 1)
  { counted with prot := { counted.prot with lastAuto := cause ≤ 3, holdDone := false, roleAt := counted.runNs } }.wr Reg.PROT_STATUS_HOLDOFF 0

/-- What a switch does to the two legs' traffic before their lanes follow. -/
def State.handOver (s : State) (old new : Leg) : State :=
  let told := ((s.event (Ev.prot 0)).event (Ev.leg old 11)).event (Ev.leg new 11)
  let moved := ((((told.unwindAll old 2).fallback (List.range 128)).redecide new).commitSwitch.swapDrop).moveReqs old new
  (moved.markBins (fun _ => true) fun b => { b with roleMixed := true }).endLaser new

theorem State.doSwitch_eq : s.doSwitch cause new =
    ((((s.decideSwitch cause new).handOver s.active new).settleLanes s.active).settleLanes new).settleSluice.settleTime := rfl

/-- The footprint of `handOver`. -/
def fpHandOver : Nat := fp8 ||| fp31 ||| fp25 ||| fp297 ||| fp213 ||| fp275 ||| fp26 ||| fp13 ||| fp308

theorem State.handOver_foot : Foot fpHandOver s (s.handOver old new) :=
  .step (State.endLaser_foot ..) rfl (.step (State.markBins_foot ..) rfl (.step (State.moveReqs_foot ..) rfl (.step (State.swapDrop_foot _) rfl
    (.step (State.commitSwitch_foot _) rfl (.step (State.redecide_foot ..) rfl (.step (State.fallback_foot ..) rfl
    (.step (State.unwindAll_foot ..) rfl (.step (State.event_foot ..) rfl (.step (State.event_foot ..) rfl
    ((State.event_foot ..).mono rfl))))))))))

/-- The footprint of all that follows the decision. -/
def fpFollowed : Nat := fpHandOver ||| fp291 ||| fp278 ||| fp158

theorem State.doSwitch_foot_decided : Foot fpFollowed (s.decideSwitch cause new) (s.doSwitch cause new) :=
  .step (State.settleTime_foot _) rfl (.step (State.settleSluice_foot _) rfl (.step (State.settleLanes_foot ..) rfl
    (.step (State.settleLanes_foot ..) rfl (State.handOver_foot.mono rfl))))

theorem Leg.n_mod_two : l.n % 2 = l.n := Nat.mod_eq_of_lt (Leg.n_lt l)

theorem State.wtrCancel_wtr : s.wtrCancel.rd Reg.PROT_STATUS_WTR = 0 := by
  unfold State.wtrCancel
  split
  next h => simpa [State.isOn] using h
  next => rw [(State.event_foot ..).rd_keeps rfl, State.rd_inc_shared rfl, State.rd_wr_shared rfl, State.rd_wr_same (by decide), Nat.zero_mod]

theorem State.decideSwitch_shows (hc : cause < 16) : (s.decideSwitch cause new).rd Reg.PROT_STATUS_ACTIVE = new.n ∧
    (s.decideSwitch cause new).rd Reg.PROT_STATUS_SWITCHING = 1 ∧ (s.decideSwitch cause new).rd Reg.PROT_STATUS_LAST_CAUSE = cause := by
  refine ⟨?_, ?_, ?_⟩ <;> unfold State.decideSwitch <;>
    rw [State.rd_wr_shared rfl, State.rd_set_prot, State.rd_inc_shared rfl, State.rd_wr_row_shared rfl, State.rd_wr_row_shared rfl]
  · rw [State.rd_wr_shared rfl, State.rd_wr_shared rfl, State.rd_wr_same (by decide)]
    exact Leg.n_mod_two
  · rw [State.rd_wr_shared rfl, State.rd_wr_same (by decide)]
    rfl
  · rw [State.rd_wr_same (by decide)]
    exact Nat.mod_eq_of_lt hc

/-- A switch makes its leg active, with SWITCHING set and its cause shown. -/
theorem State.doSwitch_shows (hc : cause < 16) : (s.doSwitch cause new).rd Reg.PROT_STATUS_ACTIVE = new.n ∧
    (s.doSwitch cause new).rd Reg.PROT_STATUS_SWITCHING = 1 ∧ (s.doSwitch cause new).rd Reg.PROT_STATUS_LAST_CAUSE = cause := by
  have follows := State.doSwitch_foot_decided (s := s) (cause := cause) (new := new)
  rw [follows.rd_keeps rfl, follows.rd_keeps rfl, follows.rd_keeps rfl]
  exact State.decideSwitch_shows hc

/-- A switch ends the hold-off. -/
theorem State.doSwitch_holdoff : (s.doSwitch cause new).rd Reg.PROT_STATUS_HOLDOFF = 0 := by
  rw [State.doSwitch_foot_decided.rd_keeps rfl, State.decideSwitch, State.rd_wr_same (by decide), Nat.zero_mod]

/-- A switch ends wait-to-restore. -/
theorem State.doSwitch_wtr : (s.doSwitch cause new).rd Reg.PROT_STATUS_WTR = 0 := by
  rw [State.doSwitch_foot_decided.rd_keeps rfl, State.decideSwitch, State.rd_wr_shared rfl, State.rd_set_prot, State.rd_inc_shared rfl,
    State.rd_wr_row_shared rfl, State.rd_wr_row_shared rfl, State.rd_wr_shared rfl, State.rd_wr_shared rfl, State.rd_wr_shared rfl]
  exact State.wtrCancel_wtr

/-! ### Evaluating the standing requests (R263) -/

/-- The standing requests reviewed: FORCED, the hold-off, NO_PROT and wait-to-restore follow their conditions. -/
def State.reviewed (s : State) : State := s.settleForced.settleHold.settleNoProt.settleWtr

/-- During a switch nothing is evaluated; else the requests are reviewed, and one of them may start a switch. -/
theorem State.settleProt_cases : s.settleProt = s ∨ s.settleProt = s.reviewed ∨
    ∃ cause, s.settleProt = s.reviewed.doSwitch cause s.reviewed.active.other := by
  unfold State.settleProt
  extract_lets x other
  split
  · exact .inl rfl
  · split
    · exact .inr (.inl rfl)
    · split
      · exact .inr (.inr ⟨_, rfl⟩)
      · split
        · exact .inr (.inr ⟨_, rfl⟩)
        · exact .inr (.inl rfl)

theorem State.settleForced_of_none (h : s.rd Reg.PROT_STATUS_FORCED = 0) : s.settleForced = s := by
  simp [State.settleForced, h]

/-- No evaluation brings FORCED about. -/
theorem State.settleProt_forced (h : s.rd Reg.PROT_STATUS_FORCED = 0) : s.settleProt.rd Reg.PROT_STATUS_FORCED = 0 := by
  have reviewed : s.reviewed.rd Reg.PROT_STATUS_FORCED = 0 := by
    rw [State.reviewed, (State.settleWtr_foot _).rd_keeps rfl, (State.settleNoProt_foot _).rd_keeps rfl,
      (State.settleHold_foot _).rd_keeps rfl, State.settleForced_of_none h, h]
  obtain hs | hs | ⟨cause, hs⟩ := s.settleProt_cases <;> rw [hs]
  · exact h
  · exact reviewed
  · rw [(State.doSwitch_foot ..).rd_keeps rfl, reviewed]

/-- A hold-off that is over does not start again. -/
theorem State.settleHold_holdoff (h : s.rd Reg.PROT_STATUS_HOLDOFF = 0) (hdone : s.prot.holdDone = true) :
    s.settleHold.rd Reg.PROT_STATUS_HOLDOFF = 0 := by
  have off : s.isOn Reg.PROT_STATUS_HOLDOFF = false := by simp [State.isOn, h]
  unfold State.settleHold
  dsimp only
  split
  · rw [if_pos (by simp [hdone]), h]
  · exact (congrArg (State.rd · _) (if_neg (ne_true_of_eq_false off))).trans h

theorem State.settleProt_holdoff (h : s.rd Reg.PROT_STATUS_HOLDOFF = 0) (hdone : s.prot.holdDone = true) :
    s.settleProt.rd Reg.PROT_STATUS_HOLDOFF = 0 := by
  have hoff : s.settleForced.rd Reg.PROT_STATUS_HOLDOFF = 0 := by rw [(State.settleForced_foot _).rd_keeps rfl, h]
  have done : s.settleForced.prot.holdDone = true := by rw [(State.settleForced_foot _).prot rfl, hdone]
  have reviewed : s.reviewed.rd Reg.PROT_STATUS_HOLDOFF = 0 := by
    rw [State.reviewed, (State.settleWtr_foot _).rd_keeps rfl, (State.settleNoProt_foot _).rd_keeps rfl, State.settleHold_holdoff hoff done]
  obtain hs | hs | ⟨cause, hs⟩ := s.settleProt_cases <;> rw [hs]
  · exact h
  · exact reviewed
  · exact State.doSwitch_holdoff

/-! ### What waits for firmware or for the end of a switch (R263, R267) -/

/-- The held commands, the PROT_SWITCH to acknowledge, and the requests that came during a switch. -/
def ProtSt.orders (p : ProtSt) : List (Nat × Leg) × Option (Leg × Nat) × List ProtReq := (p.deferred, p.cmdAck, p.waiting)

theorem Foot.orders (h : Foot m s t) (hk : m.testBit 1014 = false) : t.prot.orders = s.prot.orders := by rw [h.prot hk]

theorem State.decideSwitch_orders : (s.decideSwitch cause new).prot.orders = s.prot.orders := State.wtrCancel_foot _ |>.orders rfl

theorem State.doSwitch_orders : (s.doSwitch cause new).prot.orders = s.prot.orders := by
  rw [State.doSwitch_foot_decided.orders rfl, State.decideSwitch_orders]

theorem State.settleHold_orders : s.settleHold.prot.orders = s.prot.orders := by
  unfold State.settleHold
  dsimp only
  split_ifs
  · rfl
  · rfl
  · exact (State.event_foot ..).orders rfl
  · exact (State.event_foot ..).orders rfl
  · rfl

/-- Evaluating the standing requests leaves what waits. -/
theorem State.settleProt_orders : s.settleProt.prot.orders = s.prot.orders := by
  have reviewed : s.reviewed.prot.orders = s.prot.orders := by
    rw [State.reviewed, (State.settleWtr_foot _).orders rfl, (State.settleNoProt_foot _).orders rfl, State.settleHold_orders,
      (State.settleForced_foot _).orders rfl]
  obtain hs | hs | ⟨cause, hs⟩ := s.settleProt_cases <;> rw [hs]
  · exact reviewed
  · rw [State.doSwitch_orders, reviewed]

/-- The consequences of a change in a leg's defects leave what waits. -/
theorem State.settleDef_orders : (s.settleDef l).prot.orders = s.prot.orders := by
  unfold State.settleDef
  extract_lets x y z
  have hy : y.prot.orders = s.prot.orders := by
    rw [(State.settleSluice_foot _).orders rfl, (State.settleAvail_foot ..).orders rfl, (State.settlePm_foot ..).orders rfl,
      (State.settleLatches_foot ..).orders rfl]
  have hz : z.prot.orders = s.prot.orders := ((Foot.ite (State.wakeCause_foot ..) .refl).orders rfl).trans hy
  rw [State.settleProt_orders, (State.settleTime_foot _).orders rfl, (State.settleSet_foot ..).orders rfl, hz]

end

end Sys2Proof.Machine

/-! SUPPORT. The defects of a wave whose lanes are lit: LOS, SF and the end of the hold-off (10_protection_and_monitoring.md, R254, R255,
R258, R277). -/

namespace Sys2Proof.Machine

section
variable {m w n i v cause : Nat} {s t u : State} {l k new : Leg} {R : Row}

/-! ### Lanes that are lit (R391) -/

/-- The receive lanes of a leg run: they are on, and the part has power, outside deep sleep and sleep. -/
structure State.Lit (s : State) (l : Leg) : Prop where
  lanes : s.lanesOn l = true
  power : s.rd Reg.PWR_STATUS_STATE < 4
  on : s.pwr.off = false
  awake : s.pwr.asleep = false

/-- The waves of a leg with LOS, and those with SF. -/
def State.losSf (s : State) (l : Leg) : Nat × Nat := (s.rd Reg.PROT_DEF_LOS l.n, s.rd Reg.PROT_DEF_SF l.n)

/-- Lit lanes stay lit, and their LOS and SF stay. -/
structure StaysLit (l : Leg) (s t : State) : Prop where
  lit : s.Lit l → t.Lit l
  defects : s.Lit l → t.losSf l = s.losSf l

/-- A mask names nothing that `State.Lit` asks. -/
def keepsLit (m : Nat) : Bool :=
  keepsRow m Reg.OPT_STATUS_PRESENT && keepsRow m Reg.OPT_CTL_LANES_EN && keepsRow m Reg.OPT_STATUS_BRINGUP &&
  keepsRow m Reg.PWR_STATUS_STATE && !m.testBit 1019

/-- A mask names neither LOS nor SF. -/
def keepsLosSf (m : Nat) : Bool := keepsRow m Reg.PROT_DEF_LOS && keepsRow m Reg.PROT_DEF_SF

theorem Foot.lit (h : Foot m s t) (hk : keepsLit m = true) (hl : s.Lit l) : t.Lit l := by
  simp only [keepsLit, Bool.and_eq_true, Bool.not_eq_true'] at hk
  obtain ⟨⟨⟨⟨hpresent, hlanes⟩, hbringup⟩, hstate⟩, hpwr⟩ := hk
  have lanes : t.lanesOn l = s.lanesOn l := by
    simp only [State.lanesOn, State.isOn, h.rd_leg hpresent, h.rd_leg hlanes, h.rd_leg hbringup]
  have pwr := h.pwr hpwr
  exact ⟨lanes.trans hl.lanes, (h.rd_keeps hstate).trans_lt hl.power, (congrArg PwrSt.off pwr).trans hl.on,
    (congrArg PwrSt.asleep pwr).trans hl.awake⟩

theorem Foot.losSf (h : Foot m s t) (hk : keepsLosSf m = true) : t.losSf l = s.losSf l := by
  obtain ⟨hlos, hsf⟩ := Bool.and_eq_true_iff.1 hk
  rw [State.losSf, h.rd_leg hlos, h.rd_leg hsf, State.losSf]

theorem Foot.staysLit (h : Foot m s t) (hk : (keepsLit m && keepsLosSf m) = true) : StaysLit l s t := by
  obtain ⟨hlit, hdef⟩ := Bool.and_eq_true_iff.1 hk
  exact ⟨h.lit hlit, fun _ => h.losSf hdef⟩

theorem StaysLit.refl : StaysLit l s s := ⟨id, fun _ => rfl⟩

/-- One more operation. -/
theorem StaysLit.step (g : StaysLit l t u) (h : StaysLit l s t) : StaysLit l s u :=
  ⟨fun hl => g.lit (h.lit hl), fun hl => (g.defects (h.lit hl)).trans (h.defects hl)⟩

theorem StaysLit.ite {c : Prop} [Decidable c] (h : StaysLit l s t) (g : StaysLit l s u) : StaysLit l s (if c then t else u) := by
  split <;> assumption

/-- A lit receive lane runs in FULL or TRACK. -/
theorem State.rxMode_of_lit (h : s.Lit l) : s.rxMode l w = 1 ∨ s.rxMode l w = 2 := by
  have lit : ¬(!s.lanesOn l || decide (s.rd Reg.PWR_STATUS_STATE ≥ 4) || s.pwr.off) = true := by
    simp [h.lanes, h.on, h.power]
  unfold State.rxMode
  rw [if_neg lit, if_neg (by simp [h.awake])]
  split
  · exact .inl rfl
  · exact .inr rfl

/-- Of a lit receive lane only the mode is set. -/
theorem State.settleRx_of_lit (h : s.Lit l) (hw : w < 6) : s.settleRx l w = s.wr Reg.OPT_LANE_MODE (s.rxMode l w) l.n w := by
  unfold State.settleRx
  extract_lets old new ran s₁ s₂ s₃ s₄
  have mode : new = 1 ∨ new = 2 := State.rxMode_of_lit h
  have runs : s₁.detecting l w = true := by
    rw [State.detecting, State.rd_wr_same hw]
    obtain hm | hm := mode <;> rw [hm] <;> rfl
  have nonzero : new ≠ 0 := by omega
  have h₂ : s₂ = s₁ := if_neg (by simp [runs])
  have h₃ : s₃ = s₂ := if_neg fun hc => by
    simp only [Bool.and_eq_true, decide_eq_true_eq] at hc
    obtain ⟨rfl, hdark⟩ := hc
    simp [h₂, runs] at hdark
  have h₄ : s₄ = s₃ := if_neg (by simp [nonzero])
  rw [if_pos nonzero, h₄, h₃, h₂]

/-! ### The other leg's lanes -/

theorem State.losSf_wr (hlos : otherRow Reg.PROT_DEF_LOS R = true) (hsf : otherRow Reg.PROT_DEF_SF R = true) :
    (s.wr R v k.n i).losSf l = s.losSf l := by
  rw [State.losSf, State.rd_wr_row hlos, State.rd_wr_row hsf, State.losSf]

/-- The defects of the two legs lie apart. -/
theorem State.losSf_wr_other {d : WaveDef} (hne : l ≠ k) (hd : d ∈ [defLos, defLof, defSf, defSd]) : (s.wr d.row v k.n).losSf l = s.losSf l := by
  have apart : ∀ d ∈ [defLos, defLof, defSf, defSd], ∀ x ∈ [(0, 1), (1, 0)],
      Reg.PROT_DEF_LOS.key x.1 0 ≠ d.row.key x.2 0 ∧ Reg.PROT_DEF_SF.key x.1 0 ≠ d.row.key x.2 0 := by decide
  have legs : (l.n, k.n) ∈ [(0, 1), (1, 0)] := by
    cases l <;> cases k <;> simp [Leg.n] at hne ⊢
  obtain ⟨hlos, hsf⟩ := apart d hd _ legs
  exact Prod.ext (State.rd_wr_key hlos) (State.rd_wr_key hsf)

theorem State.clrBit_losSf_other {d : WaveDef} (hne : l ≠ k) (hd : d ∈ [defLos, defLof, defSf, defSd]) :
    (s.clrBit d.row k.n w).losSf l = s.losSf l := by
  unfold State.clrBit
  split
  · exact State.losSf_wr_other hne hd
  · rfl

theorem State.setBit_losSf_other {d : WaveDef} (hne : l ≠ k) (hd : d ∈ [defLos, defLof, defSf, defSd]) :
    (s.setBit d.row k.n w).losSf l = s.losSf l := by
  unfold State.setBit
  split
  · rfl
  · exact State.losSf_wr_other hne hd

theorem State.stopDetectors_losSf_other (hne : l ≠ k) : (s.stopDetectors k w).losSf l = s.losSf l := by
  unfold State.stopDetectors
  rw [(State.updWave_foot ..).losSf rfl]
  simp only [List.foldl_cons, List.foldl_nil]
  rw [State.clrBit_losSf_other hne (by simp), State.clrBit_losSf_other hne (by simp), State.clrBit_losSf_other hne (by simp),
    State.clrBit_losSf_other hne (by simp)]

/-- Beside the wave's bit of its defect, a declaration writes no defect. -/
theorem State.declare_foot_set {d : WaveDef} : Foot fp279 (s.setBit d.row l.n w) (s.declare l w d) := by
  by_cases hset : bit (s.rd d.row l.n) w = 1
  · rw [State.declare, if_pos hset, State.setBit, if_pos hset]
    exact .refl
  · rw [State.declare, if_neg hset]
    extract_lets x y z
    have hx : Foot fp279 (s.setBit d.row l.n w) x := State.setBit_foot rfl (Or.inl (Leg.n_lt l)) .refl
    have hy : Foot fp279 (s.setBit d.row l.n w) y := .step (State.once_foot ..) rfl hx
    have hz : Foot fp279 (s.setBit d.row l.n w) z := .ite (.step (State.pmCount_foot ..) rfl hy) hy
    exact .ite (.step (State.updWave_foot ..) rfl hz) hz

theorem State.declareLos_losSf_other (hne : l ≠ k) : (s.declare k w defLos).losSf l = s.losSf l := by
  rw [State.declare_foot_set.losSf rfl, State.setBit_losSf_other hne (by simp)]

/-- A lane of the other leg takes its mode. -/
theorem State.settleRx_losSf_other (hne : l ≠ k) : (s.settleRx k w).losSf l = s.losSf l := by
  unfold State.settleRx
  extract_lets old new ran s₁ s₂ s₃ s₄
  have h₁ : s₁.losSf l = s.losSf l := State.losSf_wr rfl rfl
  have h₂ : s₂.losSf l = s.losSf l := by
    refine Eq.trans ?_ h₁
    dsimp only [s₂]
    split
    · exact State.stopDetectors_losSf_other hne
    · rfl
  have h₃ : s₃.losSf l = s.losSf l := ((Foot.ite (State.dropFrame_foot ..) .refl).losSf rfl).trans h₂
  have h₄ : s₄.losSf l = s.losSf l := ((Foot.ite (State.toHunt_foot ..) .refl).losSf rfl).trans h₃
  split
  · exact h₄
  · split
    · exact (State.declareLos_losSf_other hne).trans h₄
    · exact (State.clrBit_losSf_other (d := defLos) hne (by simp)).trans h₄

theorem StaysLit.settleRx (hw : w < 6) : StaysLit l s (s.settleRx k w) where
  lit h := (State.settleRx_foot ..).lit rfl h
  defects h := by
    by_cases hk : l = k
    · subst hk
      rw [State.settleRx_of_lit h hw]
      exact State.losSf_wr rfl rfl
    · exact State.settleRx_losSf_other hk

theorem StaysLit.settleLanes : StaysLit l s (s.settleLanes k) :=
  .step ((State.settleTx_foot ..).staysLit rfl) (.step ((State.settleTx_foot ..).staysLit rfl) (.step (.settleRx (by decide))
    (.step (.settleRx (by decide)) (.step (.settleRx (by decide)) (.settleRx (by decide))))))

/-! ### The consequences of a change in a leg's defects (R256 to R264) -/

/-- The footprint of `decideSwitch`. -/
def fpDecided : Nat := 0x1004400000000000000000000001c0000000000000000000000000000000000000001c100000000000000000000000000000000900000060f000000000000000000000000000000000000000000000000000000000000000000000000000000000000000000000000000000000000000000008000000000000000000000000000

theorem State.decideSwitch_foot : Foot fpDecided s (s.decideSwitch cause new) :=
  .wr rfl (Or.inr rfl) (.setProt rfl (.inc rfl (Or.inr rfl) (.wr rfl (Or.inl (Leg.n_lt _)) (.wr rfl (Or.inl (Leg.n_lt _))
    (.wr rfl (Or.inr rfl) (.wr rfl (Or.inr rfl) (.wr rfl (Or.inr rfl) ((State.wtrCancel_foot _).mono rfl))))))))

theorem StaysLit.doSwitch : StaysLit l s (s.doSwitch cause new) := by
  rw [State.doSwitch_eq]
  exact .step ((State.settleTime_foot _).staysLit rfl) (.step ((State.settleSluice_foot _).staysLit rfl) (.step .settleLanes
    (.step .settleLanes (.step (State.handOver_foot.staysLit rfl) (State.decideSwitch_foot.staysLit rfl)))))

theorem StaysLit.settleProt : StaysLit l s s.settleProt := by
  have reviewed : StaysLit l s s.reviewed :=
    .step ((State.settleWtr_foot _).staysLit rfl) (.step ((State.settleNoProt_foot _).staysLit rfl)
      (.step ((State.settleHold_foot _).staysLit rfl) ((State.settleForced_foot _).staysLit rfl)))
  obtain hs | hs | ⟨cause, hs⟩ := s.settleProt_cases <;> rw [hs]
  · exact .refl
  · exact reviewed
  · exact .step .doSwitch reviewed

/-- A wake cause is noted; the lanes know nothing of it. -/
theorem StaysLit.wakeCause : StaysLit l s (s.wakeCause i) := by
  unfold State.wakeCause
  exact .ite .refl ⟨fun h => ⟨h.lanes, h.power, h.on, h.awake⟩, fun _ => rfl⟩

theorem StaysLit.settleDef : StaysLit l s (s.settleDef k) := by
  unfold State.settleDef
  extract_lets x y z
  have hy : StaysLit l s y := .step ((State.settleSluice_foot _).staysLit rfl) (.step ((State.settleAvail_foot ..).staysLit rfl)
    (.step ((State.settlePm_foot ..).staysLit rfl) ((State.settleLatches_foot ..).staysLit rfl)))
  have hz : StaysLit l s z := .ite (.step .wakeCause hy) hy
  exact .step .settleProt (.step ((State.settleTime_foot _).staysLit rfl) (.step ((State.settleSet_foot ..).staysLit rfl) hz))

/-! ### One bit of a field -/

theorem bit_eq_testBit {x : Nat} : bit x i = (x.testBit i).toNat := (Nat.toNat_testBit x i).symm

theorem bit_lt_two {x : Nat} : bit x i < 2 := Nat.mod_lt _ Nat.two_pos

/-- A number cut to a width keeps its bits below. -/
theorem bit_mod_width {x : Nat} (hi : i < w) : bit (x % 2 ^ w) i = bit x i := by
  simp [bit_eq_testBit, Nat.testBit_mod_two_pow, hi]

theorem bit_add_two_pow {x : Nat} (h : bit x i ≠ 1) : bit (x + 2 ^ i) i = 1 := by
  have hx := bit_lt_two (x := x) (i := i)
  unfold bit at h hx ⊢
  rw [Nat.add_div_right _ (Nat.two_pow_pos i)]
  omega

theorem two_pow_le_of_bit {x : Nat} (h : bit x i = 1) : 2 ^ i ≤ x := by
  by_contra hlt
  rw [bit, Nat.div_eq_of_lt (by omega)] at h
  exact absurd h (by decide)

theorem bit_sub_two_pow {x : Nat} (h : bit x i = 1) : bit (x - 2 ^ i) i = 0 := by
  have hle := two_pow_le_of_bit h
  by_contra hne
  have hx := bit_lt_two (x := x - 2 ^ i) (i := i)
  unfold bit at h hx hne
  rw [show x = x - 2 ^ i + 2 ^ i by omega, Nat.add_div_right _ (Nat.two_pow_pos i)] at h
  omega

theorem State.setBit_stands {j : Nat} (hn : 0 < R.n) (hi : i < R.width) : bit ((s.setBit R j i).rd R j) i = 1 := by
  unfold State.setBit
  split
  next h => exact h
  next h => rw [State.rd_wr_same hn, bit_mod_width hi, bit_add_two_pow h]

theorem State.clrBit_clears {j : Nat} (hn : 0 < R.n) (hi : i < R.width) : bit ((s.clrBit R j i).rd R j) i = 0 := by
  unfold State.clrBit
  split
  next h => rw [State.rd_wr_same hn, bit_mod_width hi, bit_sub_two_pow h]
  next h =>
    have hx := bit_lt_two (x := s.rd R j) (i := i)
    omega

/-! ### LOS and SF (R255) -/

/-- Beside the wave's bit of its defect, the end of a defect raises an event at most. -/
theorem State.clearDefect_foot_clr {d : WaveDef} : Foot fp8 (s.clrBit d.row l.n w) (s.clearDefect l w d) := by
  by_cases hclear : bit (s.rd d.row l.n) w = 0
  · have hbit : bit (s.rd d.row l.n) w ≠ 1 := by omega
    rw [State.clearDefect, if_pos hclear, State.clrBit, if_neg hbit]
    exact .refl
  · rw [State.clearDefect, if_neg hclear]
    exact .ite .refl (State.event_foot ..)

theorem State.declareLos_stands (hw : w < 4) : bit ((s.declare l w defLos).losSf l).1 w = 1 := by
  rw [State.declare_foot_set.losSf rfl]
  exact State.setBit_stands (R := Reg.PROT_DEF_LOS) (by decide) hw

theorem State.clearLos_clears (hw : w < 4) : bit ((s.clearDefect l w defLos).losSf l).1 w = 0 := by
  rw [State.clearDefect_foot_clr.losSf rfl]
  exact State.clrBit_clears (R := Reg.PROT_DEF_LOS) (by decide) hw

theorem State.declareSf_stands (hw : w < 4) : bit ((s.declare l w defSf).losSf l).2 w = 1 := by
  rw [State.declare_foot_set.losSf rfl]
  exact State.setBit_stands (R := Reg.PROT_DEF_SF) (by decide) hw

theorem State.declareLos_lit (h : s.Lit l) : (s.declare l w defLos).Lit l := (State.declare_foot (m := fp291) rfl rfl .refl).lit rfl h

theorem State.clearLos_lit (h : s.Lit l) : (s.clearDefect l w defLos).Lit l := (State.clearDefect_foot (m := fp291) rfl rfl .refl).lit rfl h

theorem State.sfStep_lit (h : s.Lit l) : (s.sfStep l w n).Lit l := (State.sfStep_foot ..).lit rfl h

theorem losDeclare_stands (hw : w < 4) (hdet : s.detecting l w = true) (hl : s.Lit l) : ∃ t, exec (.losDeclare l w) s = .next t ∧
    bit (t.rd Reg.PROT_DEF_LOS l.n) w = 1 := by
  refine ⟨_, congrArg Host.Outcome.next (if_pos (by simp [hw, hdet])), ?_⟩
  have stays := (StaysLit.settleDef (l := l) (k := l)).defects (State.declareLos_lit (w := w) hl)
  exact (congrArg (bit ·.1 w) stays).trans (State.declareLos_stands hw)

theorem losClear_clears (hw : w < 4) (hdet : s.detecting l w = true) (hl : s.Lit l) : ∃ t, exec (.losClear l w) s = .next t ∧
    bit (t.rd Reg.PROT_DEF_LOS l.n) w = 0 := by
  refine ⟨_, congrArg Host.Outcome.next (if_pos (by simp [hw, hdet])), ?_⟩
  have stays := (StaysLit.settleDef (l := l) (k := l)).defects (State.clearLos_lit (w := w) hl)
  exact (congrArg (bit ·.1 w) stays).trans (State.clearLos_clears hw)

/-- No report comes of a lane that is not D0 to D3 or whose detectors do not run. -/
theorem State.not_reporting (h : s.detecting l w = false ∨ 4 ≤ w) : ¬(decide (w < 4) && s.detecting l w) = true := by
  rw [Bool.and_eq_true, decide_eq_true_eq]
  rintro ⟨hw, hdet⟩
  obtain h | h := h
  · rw [hdet] at h
    cases h
  · omega

theorem losDeclare_ignored (h : s.detecting l w = false ∨ 4 ≤ w) : exec (.losDeclare l w) s = .next s :=
  congrArg Host.Outcome.next (if_neg (State.not_reporting h))

theorem losClear_ignored (h : s.detecting l w = false ∨ 4 ≤ w) : exec (.losClear l w) s = .next s :=
  congrArg Host.Outcome.next (if_neg (State.not_reporting h))

/-! ### The end of a superframe -/

/-- The next superframe of a wave begins: its count is zero, and it is whole so far where the wave is in SYNC. -/
def State.nextSuperframe (s : State) (l : Leg) (w : Nat) : State := s.updWave l w fun v => { v with uncorr := 0, whole := v.deln == .sync }

/-- The superframe that has ended is judged for SF and SD, and the consequences follow. -/
def State.judgeSuperframe (s : State) (l : Leg) (w : Nat) : State :=
  ((s.sfStep l w (s.wave l w).uncorr).sdStep l w (s.wave l w).uncorr).settleDef l

theorem exec_sfEvaluate (hw : w < 4) : exec (.sfEvaluate l w) s = .next
    (State.nextSuperframe (if (s.wave l w).whole && s.detecting l w then s.judgeSuperframe l w else s) l w) :=
  congrArg Host.Outcome.next (if_neg (Nat.not_le.2 hw))

theorem sfEvaluate_otherWave (hw : 4 ≤ w) : exec (.sfEvaluate l w) s = .next s := congrArg Host.Outcome.next (if_pos hw)

theorem sfEvaluate_broken (hw : w < 4) (hwhole : (s.wave l w).whole = false) : ∃ t, exec (.sfEvaluate l w) s = .next t ∧
    (t.wave l w).uncorr = 0 ∧ (t.wave l w).whole = ((s.wave l w).deln == .sync) ∧ t.regs = s.regs := by
  rw [exec_sfEvaluate hw, if_neg (by simp [hwhole])]
  refine ⟨_, rfl, ?_, ?_, State.upd_regs ..⟩ <;> rw [State.nextSuperframe, State.wave_updWave_same hw]

/-- As many uncorrected codewords as SF_CW, and at least 1, are SF. -/
theorem State.sfStep_declares (hn : max 1 (s.rd Reg.PROT_SF_CTL_SF_CW) ≤ n) :
    s.sfStep l w n = (s.updWave l w fun v => { v with sfGood := 0 }).declare l w defSf := if_pos hn

theorem State.judgeSuperframe_sf (hw : w < 4) (hl : s.Lit l) (hn : max 1 (s.rd Reg.PROT_SF_CTL_SF_CW) ≤ (s.wave l w).uncorr) :
    bit ((s.judgeSuperframe l w).losSf l).2 w = 1 := by
  have sd : ∀ x : State, Foot fp327 x (x.sdStep l w (s.wave l w).uncorr) := fun _ => State.sdStep_foot ..
  rw [State.judgeSuperframe, StaysLit.settleDef.defects ((sd _).lit rfl (State.sfStep_lit hl)), (sd _).losSf rfl, State.sfStep_declares hn]
  exact State.declareSf_stands hw

theorem sfEvaluate_declares (hw : w < 4) (hwhole : (s.wave l w).whole = true) (hdet : s.detecting l w = true) (hl : s.Lit l)
    (hn : max 1 (s.rd Reg.PROT_SF_CTL_SF_CW) ≤ (s.wave l w).uncorr) : ∃ t, exec (.sfEvaluate l w) s = .next t ∧
    bit (t.rd Reg.PROT_DEF_SF l.n) w = 1 ∧ (t.wave l w).uncorr = 0 := by
  rw [exec_sfEvaluate hw, if_pos (by simp [hwhole, hdet])]
  refine ⟨_, rfl, ?_, ?_⟩
  · rw [State.nextSuperframe, State.rd_updWave]
    exact State.judgeSuperframe_sf hw hl hn
  · rw [State.nextSuperframe, State.wave_updWave_same hw]

/-! ### The end of the hold-off (R258) -/

theorem holdoffExpiry_ends (h : s.isOn Reg.PROT_STATUS_HOLDOFF = true) : ∃ t, exec .holdoffExpiry s = .next t ∧
    t.rd Reg.PROT_STATUS_HOLDOFF = 0 := by
  refine ⟨_, congrArg Host.Outcome.next (if_pos h), State.settleProt_holdoff ?_ rfl⟩
  rw [State.rd_set_prot, State.rd_wr_same (by decide), Nat.zero_mod]

theorem holdoffExpiry_idle (h : s.isOn Reg.PROT_STATUS_HOLDOFF = false) : exec .holdoffExpiry s = .next s :=
  congrArg Host.Outcome.next (if_neg (ne_true_of_eq_false h))

end

/-- Settles O39: lit lanes stay lit through all that follows a defect, and none of it writes their LOS and SF. -/
theorem defectsAreDeclaredAndCleared : Obligations.DefectsAreDeclaredAndCleared := by
  unfold Obligations.DefectsAreDeclaredAndCleared
  refine ⟨?_, fun _ _ _ => losDeclare_ignored, ?_, fun _ _ _ => losClear_ignored, fun _ _ _ => sfEvaluate_otherWave,
    fun _ _ _ => sfEvaluate_broken, ?_, fun _ => holdoffExpiry_ends, fun _ => holdoffExpiry_idle⟩
  · intro l w s hw hdet hlanes hpower hon hawake
    exact losDeclare_stands hw hdet ⟨hlanes, hpower, hon, hawake⟩
  · intro l w s hw hdet hlanes hpower hon hawake
    exact losClear_clears hw hdet ⟨hlanes, hpower, hon, hawake⟩
  · intro l w s hw hwhole hdet hlanes hpower hon hawake
    exact sfEvaluate_declares hw hwhole hdet ⟨hlanes, hpower, hon, hawake⟩

end Sys2Proof.Machine

/-! SUPPORT. The commands and requests that switch the leg: what a request is judged by, PROT_CMD, PROT_SWITCH, firmware's requests, the end
of a switch and of wait-to-restore (10_protection_and_monitoring.md, R257, R259, R260, R261, R263, R264, R267). -/

namespace Sys2Proof.Machine

section
variable {m cause w : Nat} {s t : State} {l k new : Leg} {r : ProtReq} {msg : BitVec 384} {R : Row}

/-! ### What a request is judged by (R256, R257) -/

/-- A mask names nothing of what says which leg is active, which are available, and which requests stand. -/
def keepsRequests (m : Nat) : Bool :=
  (keepsRow m Reg.PROT_STATUS_ACTIVE && keepsRow m Reg.ACT_CTL_ENABLE && keepsRow m Reg.ACT_STATUS_STATE && keepsRow m Reg.PROT_STATUS_FORCED &&
    keepsRow m Reg.PROT_AUTO_CTL_MASK && keepsRow m Reg.PROT_CTL_SD_SWITCH && keepsRow m Reg.ADM_STATUS_FW_PRESENT) &&
  (keepsRow m Reg.PROT_DEF_LOS && keepsRow m Reg.PROT_DEF_LOF && keepsRow m Reg.PROT_DEF_SF && keepsRow m Reg.PROT_DEF_SD &&
    keepsRow m Reg.PROT_DEF_LOSS_OF_SYNC && keepsRow m Reg.PROT_DEF_ROGUE && keepsRow m Reg.PROT_DEF_ESTOP) &&
  (keepsRow m Reg.SLU_STATUS_FAIL && keepsRow m Reg.SLU_GRP_FAILED && keepsRow m Reg.SLU_GRP_ACTION)

/-- What keeps those fields, and whether the hold-off is over, keeps the judgement. -/
theorem Foot.judges (h : Foot m s t) (hk : keepsRequests m = true) (hd : t.prot.holdDone = s.prot.holdDone) :
    t.active = s.active ∧ t.available k = s.available k ∧ t.standing = s.standing := by
  simp only [keepsRequests, Bool.and_eq_true] at hk
  obtain ⟨⟨hcontrol, hdefects⟩, hsluice⟩ := hk
  obtain ⟨⟨⟨⟨⟨⟨hact, hen⟩, hstate⟩, hforced⟩, hmask⟩, hsdSwitch⟩, hfw⟩ := hcontrol
  obtain ⟨⟨⟨⟨⟨⟨hlos, hlof⟩, hsf⟩, hsd⟩, hsync⟩, hrogue⟩, hestop⟩ := hdefects
  obtain ⟨⟨hfail, hfailed⟩, haction⟩ := hsluice
  have active : t.active = s.active := by rw [State.active, h.rd_keeps hact, State.active]
  refine ⟨active, ?_, ?_⟩
  · simp only [State.available, State.hard, State.isOn, h.rd_leg hen, h.rd_leg hstate, h.rd_leg hlos, h.rd_leg hlof, h.rd_leg hsf,
      h.rd_leg hsync, h.rd_leg hrogue, h.rd_leg hestop]
  · simp only [State.standing, State.rank4, State.autoHard, State.autoSd, State.sluProtect, State.fwPresent, State.isOn, active, hd,
      h.rd_keeps hforced, h.rd_keeps hmask, h.rd_keeps hsdSwitch, h.rd_keeps hfw, h.rd_keeps hfail, h.rd_at hfailed, h.rd_at haction,
      h.rd_leg hlos, h.rd_leg hlof, h.rd_leg hsf, h.rd_leg hsd, h.rd_leg hsync, h.rd_leg hrogue, h.rd_leg hestop]
    rfl

/-- What a request for the other leg meets: a PROT_SWITCH has raised COMMANDED. -/
def State.heeded (s : State) (r : ProtReq) : State := if r.cause = 6 && r.target ≠ s.active then s.event (Ev.prot 10) else s

theorem State.heeded_foot : Foot fp8 s (s.heeded r) := .ite (State.event_foot ..) .refl

/-- A request as its switch begins: the PROT_SWITCH to acknowledge at the end is noted. -/
def State.granted (s : State) (r : ProtReq) : State := { s.heeded r with prot := { (s.heeded r).prot with cmdAck := r.ack } }

/-! ### A one-shot request (R257, R260) -/

theorem State.oneShot_own (h : r.target = s.active) : s.oneShot r = (some St.ok, s) := by
  simp [State.oneShot, h]

theorem State.oneShot_eq : s.oneShot r =
    if r.target = (s.heeded r).active then (some St.ok, s.heeded r)
    else if (s.heeded r).standing < rankOf r.cause then (some St.denied, (s.heeded r).switchRefused)
    else if !(s.heeded r).available r.target then (some St.invalid, (s.heeded r).switchRefused)
    else (none, (s.granted r).doSwitch r.cause r.target) := rfl

theorem State.heeded_judges : (s.heeded r).active = s.active ∧ (s.heeded r).available k = s.available k ∧
    (s.heeded r).standing = s.standing := State.heeded_foot.judges rfl (congrArg ProtSt.holdDone (State.heeded_foot.prot rfl))

/-- A request for an available leg that is not active starts a switch, where nothing of a smaller rank stands. -/
theorem State.oneShot_switches (hother : r.target ≠ s.active) (havail : s.available r.target = true) (hrank : rankOf r.cause ≤ s.standing) :
    s.oneShot r = (none, (s.granted r).doSwitch r.cause r.target) := by
  obtain ⟨active, available, standing⟩ := State.heeded_judges (s := s) (r := r) (k := r.target)
  rw [State.oneShot_eq, active, available, standing, if_neg hother, if_neg (Nat.not_lt.2 hrank), if_neg (by simp [havail])]

/-- MANUAL of the other leg under a smaller rank. -/
theorem State.oneShot_denied (hother : r.target ≠ s.active) (hcause : r.cause ≠ 6) (hrank : s.standing < rankOf r.cause) :
    s.oneShot r = (some St.denied, s.switchRefused) := by
  have heeded : s.heeded r = s := if_neg (by simp [hcause])
  rw [State.oneShot_eq, heeded, if_neg hother, if_pos hrank]

theorem State.request_switches (hidle : s.isOn Reg.PROT_STATUS_SWITCHING = false) (hother : r.target ≠ s.active)
    (havail : s.available r.target = true) (hrank : rankOf r.cause ≤ s.standing) :
    s.request r = (s.granted r).doSwitch r.cause r.target := by
  rw [State.request, if_neg (ne_true_of_eq_false hidle), State.oneShot_switches hother havail hrank]

/-- A request that comes during a switch waits for its end (R263). -/
theorem State.request_waits (hbusy : s.isOn Reg.PROT_STATUS_SWITCHING = true) :
    s.request r = { s with prot := { s.prot with waiting := s.prot.waiting ++ [r] } } := if_pos hbusy

/-! ### PROT_CMD (R259, R260, R263, R267) -/

theorem State.protCmd_busy (hbusy : s.isOn Reg.PROT_STATUS_SWITCHING = true) : s.protCmd cause l = s.wr Reg.PROT_CMD_RESULT 1 := if_pos hbusy

theorem State.protCmd_held (hidle : s.isOn Reg.PROT_STATUS_SWITCHING = false) (hfw : s.fwPresent = false) : s.protCmd cause l =
    { s.wr Reg.PROT_STATUS_CMD_PEND 1 with prot := { s.prot with deferred := s.prot.deferred ++ [(cause, l)] } } := by
  rw [State.protCmd, if_neg (ne_true_of_eq_false hidle), if_neg (ne_true_of_eq_false hfw)]

theorem State.protCmd_taken (hidle : s.isOn Reg.PROT_STATUS_SWITCHING = false) (hfw : s.fwPresent = true) :
    s.protCmd cause l = s.protEval cause l := by
  rw [State.protCmd, if_neg (ne_true_of_eq_false hidle), if_pos hfw]

theorem State.protEval_clear (hidle : s.isOn Reg.PROT_STATUS_SWITCHING = false) :
    s.protEval 0 l = ((s.wr Reg.PROT_STATUS_FORCED 0).wr Reg.PROT_CMD_RESULT 0).settleProt := if_neg (ne_true_of_eq_false hidle)

theorem clear_ends (hidle : s.isOn Reg.PROT_STATUS_SWITCHING = false) (hfw : s.fwPresent = true) : ∃ t, exec .clear s = .next t ∧
    t.rd Reg.PROT_STATUS_FORCED = 0 ∧ t.rd Reg.PROT_CMD_RESULT = 0 := by
  refine ⟨_, congrArg Host.Outcome.next ((State.protCmd_taken hidle hfw).trans (State.protEval_clear hidle)), ?_, ?_⟩
  · refine State.settleProt_forced ?_
    rw [State.rd_wr_shared rfl, State.rd_wr_same (by decide), Nat.zero_mod]
  · rw [(State.settleProt_foot _).rd_keeps rfl, State.rd_wr_same (by decide), Nat.zero_mod]

/-- FORCED is shown for the leg, and wait-to-restore is over. -/
def State.forcing (s : State) (l : Leg) : State := s.wtrCancel.wr Reg.PROT_STATUS_FORCED (l.n + 1)

theorem State.forcing_active : (s.forcing l).active = s.active := by
  rw [State.active, State.forcing, State.rd_wr_shared rfl, (State.wtrCancel_foot _).rd_keeps rfl, State.active]

theorem State.protEval_forced (hidle : s.isOn Reg.PROT_STATUS_SWITCHING = false) (hranged : s.rd Reg.ACT_STATUS_STATE l.n = 5)
    (hother : l ≠ s.active) : s.protEval 4 l = ((s.forcing l).doSwitch 4 l).wr Reg.PROT_CMD_RESULT 0 := by
  have other : ¬l = (s.forcing l).active := by rwa [State.forcing_active]
  rw [State.protEval, if_neg (ne_true_of_eq_false hidle), if_neg (by decide), if_pos rfl, if_neg (by simp [hranged])]
  exact if_neg other

theorem State.protEval_forced_unranged (hidle : s.isOn Reg.PROT_STATUS_SWITCHING = false) (hranged : s.rd Reg.ACT_STATUS_STATE l.n ≠ 5) :
    s.protEval 4 l = s.switchRefused.wr Reg.PROT_CMD_RESULT 2 := by
  rw [State.protEval, if_neg (ne_true_of_eq_false hidle), if_neg (by decide), if_pos rfl, if_pos hranged]
  rfl

/-- A switch that a command started, and the command's RESULT. -/
theorem State.doSwitch_result {v : Nat} (hc : cause < 16) :
    ((s.doSwitch cause new).wr Reg.PROT_CMD_RESULT v).rd Reg.PROT_STATUS_ACTIVE = new.n ∧
    ((s.doSwitch cause new).wr Reg.PROT_CMD_RESULT v).rd Reg.PROT_STATUS_SWITCHING = 1 ∧
    ((s.doSwitch cause new).wr Reg.PROT_CMD_RESULT v).rd Reg.PROT_STATUS_LAST_CAUSE = cause := by
  rw [State.rd_wr_shared rfl, State.rd_wr_shared rfl, State.rd_wr_shared rfl]
  exact State.doSwitch_shows hc

theorem State.doSwitch_forcing : ((s.forcing l).doSwitch cause new).rd Reg.PROT_STATUS_FORCED = l.n + 1 := by
  rw [(State.doSwitch_foot ..).rd_keeps rfl, State.forcing, State.rd_wr_same (by decide)]
  cases l <;> rfl

theorem forced_switches (hidle : s.isOn Reg.PROT_STATUS_SWITCHING = false) (hfw : s.fwPresent = true)
    (hranged : s.rd Reg.ACT_STATUS_STATE l.n = 5) (hother : l ≠ s.active) : ∃ t, exec (.forced l) s = .next t ∧
    t.rd Reg.PROT_STATUS_ACTIVE = l.n ∧ t.rd Reg.PROT_STATUS_SWITCHING = 1 ∧ t.rd Reg.PROT_STATUS_LAST_CAUSE = 4 ∧
    t.rd Reg.PROT_STATUS_FORCED = l.n + 1 ∧ t.rd Reg.PROT_CMD_RESULT = 0 := by
  obtain ⟨hactive, hswitching, hcause⟩ := State.doSwitch_result (s := s.forcing l) (new := l) (v := 0) (by decide : 4 < 16)
  refine ⟨_, congrArg Host.Outcome.next ((State.protCmd_taken hidle hfw).trans (State.protEval_forced hidle hranged hother)), hactive,
    hswitching, hcause, ?_, ?_⟩
  · rw [State.rd_wr_shared rfl, State.doSwitch_forcing]
  · rw [State.rd_wr_same (by decide), Nat.zero_mod]

/-- A refusal is counted, its RESULT is shown, and the active leg stays. -/
theorem State.refused_shows {v : Nat} (hv : v < 256) : (s.switchRefused.wr Reg.PROT_CMD_RESULT v).rd Reg.PROT_CMD_RESULT = v ∧
    Counted Reg.PROT_CNT2_REFUSED 0 0 1 s (s.switchRefused.wr Reg.PROT_CMD_RESULT v) ∧
    (s.switchRefused.wr Reg.PROT_CMD_RESULT v).rd Reg.PROT_STATUS_ACTIVE = s.rd Reg.PROT_STATUS_ACTIVE := by
  refine ⟨?_, ?_, ?_⟩
  · rw [State.rd_wr_same (by decide)]
    exact Nat.mod_eq_of_lt hv
  · refine counted_of_rd_after (State.rd_wr_shared rfl) ?_
    exact counted_of_foot_after (State.event_foot ..) rfl (counted_inc (by decide))
  · rw [State.rd_wr_shared rfl, (State.switchRefused_foot _).rd_keeps rfl]

theorem forced_invalid (hidle : s.isOn Reg.PROT_STATUS_SWITCHING = false) (hfw : s.fwPresent = true)
    (hranged : s.rd Reg.ACT_STATUS_STATE l.n ≠ 5) : ∃ t, exec (.forced l) s = .next t ∧ t.rd Reg.PROT_CMD_RESULT = 2 ∧
    Counted Reg.PROT_CNT2_REFUSED 0 0 1 s t ∧ t.rd Reg.PROT_STATUS_ACTIVE = s.rd Reg.PROT_STATUS_ACTIVE :=
  ⟨_, congrArg Host.Outcome.next ((State.protCmd_taken hidle hfw).trans (State.protEval_forced_unranged hidle hranged)),
    State.refused_shows (by decide)⟩

/-- MANUAL is a one-shot request of cause 7, whose status is its RESULT. -/
theorem State.protEval_manual (hidle : s.isOn Reg.PROT_STATUS_SWITCHING = false) : s.protEval 7 l =
    match s.oneShot { cause := 7, target := l } with
    | (some st, s) => s.wr Reg.PROT_CMD_RESULT st
    | (none, s) => s.wr Reg.PROT_CMD_RESULT 0 := by
  rw [State.protEval, if_neg (ne_true_of_eq_false hidle), if_neg (by decide), if_neg (by decide)]
  rfl

theorem exec_manual {st : Option Nat} (hidle : s.isOn Reg.PROT_STATUS_SWITCHING = false) (hfw : s.fwPresent = true)
    (h : s.oneShot { cause := 7, target := l } = (st, t)) : exec (.manual l) s = .next (t.wr Reg.PROT_CMD_RESULT (st.getD 0)) := by
  refine congrArg Host.Outcome.next (((State.protCmd_taken hidle hfw).trans (State.protEval_manual hidle)).trans ?_)
  rw [h]
  cases st <;> rfl

theorem manual_switches (hidle : s.isOn Reg.PROT_STATUS_SWITCHING = false) (hfw : s.fwPresent = true) (hother : l ≠ s.active)
    (havail : s.available l = true) (hrank : 6 ≤ s.standing) : ∃ t, exec (.manual l) s = .next t ∧ t.rd Reg.PROT_STATUS_ACTIVE = l.n ∧
    t.rd Reg.PROT_STATUS_SWITCHING = 1 ∧ t.rd Reg.PROT_STATUS_LAST_CAUSE = 7 ∧ t.rd Reg.PROT_CMD_RESULT = 0 := by
  obtain ⟨hactive, hswitching, hcause⟩ := State.doSwitch_result (s := s.granted { cause := 7, target := l }) (new := l) (v := 0)
    (by decide : 7 < 16)
  refine ⟨_, exec_manual hidle hfw (State.oneShot_switches hother havail hrank), hactive, hswitching, hcause, ?_⟩
  rw [State.rd_wr_same (by decide)]
  rfl

theorem manual_own (hidle : s.isOn Reg.PROT_STATUS_SWITCHING = false) (hfw : s.fwPresent = true) (hown : l = s.active) :
    exec (.manual l) s = .next (s.wr Reg.PROT_CMD_RESULT 0) := exec_manual hidle hfw (State.oneShot_own hown)

theorem manual_denied (hidle : s.isOn Reg.PROT_STATUS_SWITCHING = false) (hfw : s.fwPresent = true) (hother : l ≠ s.active)
    (hrank : s.standing < 6) : ∃ t, exec (.manual l) s = .next t ∧ t.rd Reg.PROT_CMD_RESULT = 3 ∧
    Counted Reg.PROT_CNT2_REFUSED 0 0 1 s t ∧ t.rd Reg.PROT_STATUS_ACTIVE = s.rd Reg.PROT_STATUS_ACTIVE :=
  ⟨_, exec_manual hidle hfw (State.oneShot_denied hother (by decide : 7 ≠ 6) hrank), State.refused_shows (by decide)⟩

/-! ### Firmware's requests -/

theorem exec_fwForced (hon : s.isOn Reg.PROT_CTL_FW_SWITCH = true) (hfw : s.fwPresent = true) :
    exec (.fwForced l) s = .next (s.request { cause := 5, target := l }) := congrArg Host.Outcome.next (if_pos (by simp [hon, hfw]))

theorem fwForced_switches (hon : s.isOn Reg.PROT_CTL_FW_SWITCH = true) (hfw : s.fwPresent = true)
    (hidle : s.isOn Reg.PROT_STATUS_SWITCHING = false) (hother : l ≠ s.active) (havail : s.available l = true) (hrank : 2 ≤ s.standing) :
    ∃ t, exec (.fwForced l) s = .next t ∧ t.rd Reg.PROT_STATUS_ACTIVE = l.n ∧ t.rd Reg.PROT_STATUS_SWITCHING = 1 ∧
    t.rd Reg.PROT_STATUS_LAST_CAUSE = 5 :=
  ⟨_, (exec_fwForced hon hfw).trans (congrArg Host.Outcome.next (State.request_switches hidle hother havail hrank)),
    State.doSwitch_shows (by decide : 5 < 16)⟩

theorem fwForced_ignored (h : s.isOn Reg.PROT_CTL_FW_SWITCH = false ∨ s.fwPresent = false) : exec (.fwForced l) s = .next s := by
  refine congrArg Host.Outcome.next (if_neg ?_)
  obtain h | h := h <;> simp [h]

/-! ### PROT_SWITCH (R260) -/

/-- The leg that a PROT_SWITCH asks for: ROLE 1 the one it comes on, 0 the other. -/
def wantedLeg (l : Leg) (msg : BitVec 384) : Leg := if mfield msg 6 1 % 2 = 1 then l else l.other

/-- The request that a PROT_SWITCH makes. -/
def protSwitchReq (l : Leg) (msg : BitVec 384) : ProtReq := { cause := 6, target := wantedLeg l msg, ack := some (l, msgTxid msg) }

/-- PROT_SWITCH's own effect. -/
def State.takeProtSwitch (s : State) (l : Leg) (msg : BitVec 384) : Took × State :=
  if s.isOn Reg.PROT_STATUS_SWITCHING then (.silent, { s with prot := { s.prot with waiting := s.prot.waiting ++ [protSwitchReq l msg] } })
  else match s.oneShot (protSwitchReq l msg) with
    | (some st, s) => (.answered st, s)
    | (none, s) => (.silent, s)

theorem exec_protSwitch (hm : Hears s l) (hfw : s.fwPresent = true) :
    exec (.protSwitch l msg) s = .next ((s.heard l).onMsg l 0x0D msg false 0 fun s => s.takeProtSwitch l msg) :=
  congrArg Host.Outcome.next ((State.inFrame_of_hears hm _).trans (if_pos (State.heard_fwPresent.trans hfw)))

theorem State.takeProtSwitch_switches (hidle : s.isOn Reg.PROT_STATUS_SWITCHING = false) (hother : wantedLeg l msg ≠ s.active)
    (havail : s.available (wantedLeg l msg) = true) (hrank : 3 ≤ s.standing) :
    s.takeProtSwitch l msg = (.silent, (s.granted (protSwitchReq l msg)).doSwitch 6 (wantedLeg l msg)) := by
  rw [State.takeProtSwitch, if_neg (ne_true_of_eq_false hidle), State.oneShot_switches (r := protSwitchReq l msg) hother havail hrank]
  rfl

theorem State.takeProtSwitch_own (hidle : s.isOn Reg.PROT_STATUS_SWITCHING = false) (hown : wantedLeg l msg = s.active) :
    s.takeProtSwitch l msg = (.answered St.ok, s) := by
  rw [State.takeProtSwitch, if_neg (ne_true_of_eq_false hidle), State.oneShot_own (r := protSwitchReq l msg) hown]

/-- Taking up a message's place decides nothing that a request is judged by. -/
theorem State.heard_judges : (s.heard l).active = s.active ∧ (s.heard l).available k = s.available k ∧ (s.heard l).standing = s.standing :=
  (Foot.upd (m := fp1) rfl rfl .refl).judges rfl (congrArg ProtSt.holdDone (State.upd_prot ..))

theorem State.doSwitch_granted_ack : ((s.granted r).doSwitch cause new).prot.cmdAck = r.ack :=
  congrArg (·.2.1) (State.doSwitch_orders (s := s.granted r))

theorem protSwitch_switches (hm : Hears s l) (ht : s.takes l 0x0D msg false 0 = true) (hfw : s.fwPresent = true)
    (hidle : s.isOn Reg.PROT_STATUS_SWITCHING = false) (hother : wantedLeg l msg ≠ s.active) (havail : s.available (wantedLeg l msg) = true)
    (hrank : 3 ≤ s.standing) : ∃ t, exec (.protSwitch l msg) s = .next t ∧ t.rd Reg.PROT_STATUS_ACTIVE = (wantedLeg l msg).n ∧
    t.rd Reg.PROT_STATUS_SWITCHING = 1 ∧ t.rd Reg.PROT_STATUS_LAST_CAUSE = 6 ∧ t.prot.cmdAck = some (l, msgTxid msg) ∧
    t.rd Reg.PROT_CNT2_REFUSED = s.rd Reg.PROT_CNT2_REFUSED := by
  obtain ⟨active, available, standing⟩ := State.heard_judges (s := s) (l := l) (k := wantedLeg l msg)
  have taken := State.takeProtSwitch_switches (s := s.heard l) (State.heard_isOn.trans hidle) (active ▸ hother) (available.trans havail)
    (standing ▸ hrank)
  obtain ⟨hactive, hswitching, hcause⟩ := State.doSwitch_shows (s := (s.heard l).granted (protSwitchReq l msg)) (new := wantedLeg l msg)
    (by decide : 6 < 16)
  rw [exec_protSwitch hm hfw, State.onMsg_silent (State.heard_takes.trans ht) taken]
  refine ⟨_, rfl, State.taken_rd.trans hactive, State.taken_rd.trans hswitching, State.taken_rd.trans hcause, ?_, ?_⟩
  · rw [State.taken, State.remember, State.upd_prot]
    exact State.doSwitch_granted_ack
  · rw [State.taken_rd, (State.doSwitch_foot ..).rd_keeps rfl, State.granted, State.rd_set_prot, State.heeded_foot.rd_keeps rfl,
      State.heard_rd]

theorem protSwitch_own (hm : Hears s l) (ht : s.takes l 0x0D msg false 0 = true) (hfw : s.fwPresent = true) (htn : s.hasTn l = true)
    (hidle : s.isOn Reg.PROT_STATUS_SWITCHING = false) (hown : wantedLeg l msg = s.active) : ∃ t, exec (.protSwitch l msg) s = .next t ∧
    Acked l msg 0x0D 0 s t ∧ t.regs = s.regs := by
  have own : wantedLeg l msg = (s.heard l).active := hown.trans (State.heard_judges (k := l)).1.symm
  have taken := State.takeProtSwitch_own (s := s.heard l) (State.heard_isOn.trans hidle) own
  rw [exec_protSwitch hm hfw]
  refine ⟨_, rfl, State.onMsg_acked ht taken (State.heard_hasTn.trans htn) State.heard_acks, ?_⟩
  exact (State.onMsg_answered_keeps (State.heard_takes.trans ht) taken).2.trans (State.upd_regs ..)

/-! ### The end of a switch (R263, R264) -/

/-- The superframe of the leg's delivery is recorded. -/
def State.switchShown (s : State) : State :=
  (s.wr Reg.PROT_STATUS_SWITCHING 0).wr2 Reg.PROT_LAST_SFC_LO Reg.PROT_LAST_SFC_HI (s.cur s.active)

/-- The delivery goes on with the leg's own superframe, and the end is told. -/
def State.switchTold (s : State) : State :=
  (s.switchShown.updWave s.active 0 fun v => { v with deliver := v.deln == .sync }).event (Ev.prot 1)

/-- Nothing waits for the switch any more. -/
def State.endSwitch (s : State) : State := { s.switchTold with prot := { s.switchTold.prot with cmdAck := none, waiting := [] } }

/-- What follows the end: the answer to the PROT_SWITCH `ack`, the notices, and the requests `wait`, around the defects that came meanwhile. -/
def State.resumeAfter (s : State) (ack : Option (Leg × Nat)) (wait : List ProtReq) : State :=
  let s := (s.answer ack St.ok).roleNotices
  let s := (wait.filter fun r => rankOf r.cause < 4).foldl (fun s r => s.request r) s
  let s := ((s.settleDef .a).settleDef .b)
  let s := (wait.filter fun r => rankOf r.cause ≥ 4).foldl (fun s r => s.request r) s
  if s.fwPresent && !s.prot.deferred.isEmpty then s.protResume else s

/-- The answer, the notices and the defects, where no request waits. -/
def State.afterSwitch (s : State) (ack : Option (Leg × Nat)) : State := (((s.answer ack St.ok).roleNotices.settleDef .a).settleDef .b)

theorem State.switchDone_eq : s.switchDone = if !s.isOn Reg.PROT_STATUS_SWITCHING then s else
    s.endSwitch.resumeAfter s.switchTold.prot.cmdAck s.switchTold.prot.waiting := rfl

theorem State.switchTold_prot : s.switchTold.prot = s.prot :=
  ((State.event_foot ..).prot rfl).trans (State.upd_prot ..)

/-- The answer, the notices and the defects leave what waits. -/
theorem State.afterSwitch_orders {ack : Option (Leg × Nat)} : (s.afterSwitch ack).prot.orders = s.prot.orders := by
  rw [State.afterSwitch, State.settleDef_orders, State.settleDef_orders, (State.roleNotices_foot _).orders rfl, (State.answer_foot ..).orders rfl]

theorem State.endSwitch_orders : s.endSwitch.prot.orders = (s.prot.deferred, none, []) :=
  congrArg (fun p : ProtSt => { p with cmdAck := none, waiting := [] }.orders) State.switchTold_prot

/-- Where nothing waits and no command is held, the end of a switch is its record and what follows from it. -/
theorem State.switchDone_alone (hbusy : s.isOn Reg.PROT_STATUS_SWITCHING = true) (hwait : s.prot.waiting = []) (hheld : s.prot.deferred = []) :
    s.switchDone = s.endSwitch.afterSwitch s.switchTold.prot.cmdAck := by
  have wait : s.switchTold.prot.waiting = [] := (congrArg ProtSt.waiting State.switchTold_prot).trans hwait
  have held : (s.endSwitch.afterSwitch s.switchTold.prot.cmdAck).prot.deferred = [] :=
    (congrArg (·.1) (State.afterSwitch_orders.trans State.endSwitch_orders)).trans hheld
  have none_held : ¬((s.endSwitch.afterSwitch s.switchTold.prot.cmdAck).fwPresent &&
      !(s.endSwitch.afterSwitch s.switchTold.prot.cmdAck).prot.deferred.isEmpty) = true := by simp [held]
  rw [State.switchDone_eq, if_neg (by simp [hbusy]), wait]
  exact if_neg none_held

/-- The end of a switch tells nothing but the superframe's record. -/
theorem State.endSwitch_rd (hk : keepsRow fp8 R = true) : s.endSwitch.rd R = s.switchShown.rd R :=
  ((State.event_foot ..).rd_keeps hk).trans State.rd_updWave

theorem State.endSwitch_sfc (h : s.cur s.active < 2 ^ 48) : s.endSwitch.rd2 Reg.PROT_LAST_SFC_LO Reg.PROT_LAST_SFC_HI = s.cur s.active := by
  rw [State.rd2, State.endSwitch_rd rfl, State.endSwitch_rd rfl, State.switchShown, State.wr2, State.rd_wr_shared rfl,
    State.rd_wr_same (by decide), State.rd_wr_same (by decide), show Reg.PROT_LAST_SFC_LO.width = 32 from rfl,
    show Reg.PROT_LAST_SFC_HI.width = 16 from rfl]
  omega

/-- The record of a switch stays through what follows it. -/
theorem State.afterSwitch_foot {ack : Option (Leg × Nat)} : Foot (fp319 ||| fp103) s (s.afterSwitch ack) :=
  .step (State.settleDef_foot ..) rfl (.step (State.settleDef_foot ..) rfl (.step (State.roleNotices_foot _) rfl ((State.answer_foot ..).mono rfl)))

theorem switchDone_ends (hbusy : s.isOn Reg.PROT_STATUS_SWITCHING = true) (hwait : s.prot.waiting = []) (hheld : s.prot.deferred = [])
    (hsfc : s.cur s.active < 2 ^ 48) : ∃ t, exec .switchDone s = .next t ∧
    t.rd2 Reg.PROT_LAST_SFC_LO Reg.PROT_LAST_SFC_HI = s.cur s.active ∧ t.prot.cmdAck = none ∧ t.prot.waiting = [] := by
  have orders := (State.afterSwitch_orders (s := s.endSwitch) (ack := s.switchTold.prot.cmdAck)).trans State.endSwitch_orders
  refine ⟨_, congrArg Host.Outcome.next (State.switchDone_alone hbusy hwait hheld), ?_, congrArg (·.2.1) orders, congrArg (·.2.2) orders⟩
  rw [State.rd2, State.afterSwitch_foot.rd_keeps rfl, State.afterSwitch_foot.rd_keeps rfl]
  exact State.endSwitch_sfc hsfc

theorem switchDone_idle (hidle : s.isOn Reg.PROT_STATUS_SWITCHING = false) : exec .switchDone s = .next s :=
  congrArg Host.Outcome.next (if_pos (by simp [hidle]))

/-! ### The end of wait-to-restore (R261, R267) -/

/-- Wait-to-restore is over. -/
def State.wtrOver (s : State) : State := ((s.wr Reg.PROT_STATUS_WTR 0).wr Reg.PROT_WTR_LEFT_SECONDS 0).event (Ev.prot 7)

/-- The REVERT request is being made. -/
def State.reverting (s : State) : State := { s.wtrOver with prot := { s.wtrOver.prot with revertDue := false } }

theorem State.wtrOver_foot : Foot fp310 s s.wtrOver :=
  .step (State.event_foot ..) rfl (.wr rfl (Or.inr rfl) (.wr rfl (Or.inr rfl) .refl))

theorem State.wtrOver_prot : s.wtrOver.prot = s.prot := State.wtrOver_foot.prot rfl

theorem State.wtrOver_shows : s.wtrOver.rd Reg.PROT_STATUS_WTR = 0 ∧ s.wtrOver.rd Reg.PROT_WTR_LEFT_SECONDS = 0 := by
  rw [State.wtrOver, (State.event_foot ..).rd_keeps rfl, (State.event_foot ..).rd_keeps rfl, State.rd_wr_shared rfl,
    State.rd_wr_same (by decide), State.rd_wr_same (by decide)]
  exact ⟨rfl, rfl⟩

theorem exec_wtrExpiry (hon : s.isOn Reg.PROT_STATUS_WTR = true) : exec .wtrExpiry s =
    .next (if s.wtrOver.fwPresent then s.reverting.request { cause := 8, target := s.reverting.pref }
      else { s.wtrOver with prot := { s.wtrOver.prot with revertDue := true } }) :=
  congrArg Host.Outcome.next (if_neg (by simp [hon]))

theorem State.wtrOver_fwPresent : s.wtrOver.fwPresent = s.fwPresent := by
  rw [State.fwPresent, State.isOn, State.wtrOver_foot.rd_keeps rfl, State.fwPresent, State.isOn]

theorem wtrExpiry_switches (hon : s.isOn Reg.PROT_STATUS_WTR = true) (hfw : s.fwPresent = true)
    (hidle : s.isOn Reg.PROT_STATUS_SWITCHING = false) (hother : s.pref ≠ s.active) (havail : s.available s.pref = true)
    (hrank : 7 ≤ s.standing) : ∃ t, exec .wtrExpiry s = .next t ∧ t.rd Reg.PROT_STATUS_ACTIVE = s.pref.n ∧
    t.rd Reg.PROT_STATUS_SWITCHING = 1 ∧ t.rd Reg.PROT_STATUS_LAST_CAUSE = 8 ∧ t.rd Reg.PROT_STATUS_WTR = 0 := by
  have reverting : Foot fpDecided s s.reverting := .setProt rfl (State.wtrOver_foot.mono rfl)
  have ended : Foot fp310 s s.wtrOver := State.wtrOver_foot
  obtain ⟨active, available, standing⟩ := ended.judges (k := s.pref) rfl (congrArg ProtSt.holdDone State.wtrOver_prot)
  have pref : s.reverting.pref = s.pref := congrArg Leg.ofBit (ended.rd_keeps rfl)
  have idle : s.reverting.isOn Reg.PROT_STATUS_SWITCHING = false := by
    rw [State.isOn]
    exact (congrArg (fun x : Nat => decide (x ≠ 0)) (ended.rd_keeps (R := Reg.PROT_STATUS_SWITCHING) rfl)).trans hidle
  have switches := State.request_switches (s := s.reverting) (r := { cause := 8, target := s.pref }) idle (active.symm ▸ hother)
    (available.trans havail) (standing.symm ▸ hrank)
  rw [exec_wtrExpiry hon, if_pos (State.wtrOver_fwPresent.trans hfw), pref, switches]
  obtain ⟨hactive, hswitching, hcause⟩ := State.doSwitch_shows (s := s.reverting.granted { cause := 8, target := s.pref }) (new := s.pref)
    (by decide : 8 < 16)
  exact ⟨_, rfl, hactive, hswitching, hcause, State.doSwitch_wtr⟩

theorem wtrExpiry_waits (hon : s.isOn Reg.PROT_STATUS_WTR = true) (hfw : s.fwPresent = false) : ∃ t, exec .wtrExpiry s = .next t ∧
    t.rd Reg.PROT_STATUS_WTR = 0 ∧ t.rd Reg.PROT_WTR_LEFT_SECONDS = 0 ∧ t.prot.revertDue = true ∧
    t.rd Reg.PROT_STATUS_ACTIVE = s.rd Reg.PROT_STATUS_ACTIVE := by
  rw [exec_wtrExpiry hon, if_neg (ne_true_of_eq_false (State.wtrOver_fwPresent.trans hfw))]
  obtain ⟨hwtr, hleft⟩ := s.wtrOver_shows
  exact ⟨_, rfl, hwtr, hleft, rfl, State.wtrOver_foot.rd_keeps rfl⟩

theorem wtrExpiry_off (hoff : s.isOn Reg.PROT_STATUS_WTR = false) : exec .wtrExpiry s = .next s :=
  congrArg Host.Outcome.next (if_pos (by simp [hoff]))

end

/-- Settles O40: a request that its rank and the leg's availability admit is one switch, whose record stays through all that follows. -/
theorem protectionCommandsSwitchTheLeg : Obligations.ProtectionCommandsSwitchTheLeg := by
  unfold Obligations.ProtectionCommandsSwitchTheLeg
  exact ⟨fun _ => clear_ends, fun _ h => congrArg Host.Outcome.next (State.protCmd_busy h),
    fun _ h hfw => congrArg Host.Outcome.next (State.protCmd_held h hfw),
    fun _ _ h => congrArg Host.Outcome.next (State.protCmd_busy h), fun _ _ h hfw => congrArg Host.Outcome.next (State.protCmd_held h hfw),
    fun _ _ h => congrArg Host.Outcome.next (State.protCmd_busy h), fun _ _ h hfw => congrArg Host.Outcome.next (State.protCmd_held h hfw),
    fun _ _ => forced_switches, fun _ _ => forced_invalid, fun _ _ => manual_switches, fun _ _ => manual_own, fun _ _ => manual_denied,
    fun _ _ => fwForced_switches, fun _ _ hon hfw h => (exec_fwForced hon hfw).trans (congrArg Host.Outcome.next (State.request_waits h)),
    fun _ _ => fwForced_ignored, fun _ _ _ => protSwitch_switches, fun _ _ _ => protSwitch_own, fun _ => switchDone_ends,
    fun _ => switchDone_idle, fun _ => wtrExpiry_switches, fun _ => wtrExpiry_waits, fun _ => wtrExpiry_off⟩

end Sys2Proof.Machine

/-! SUPPORT. Seconds, their commitment, bins and test mode (10_protection_and_monitoring.md, R261, R268 to R271, R273, R274). -/

namespace Sys2Proof.Machine

/-! ### A fold over elements with keys of their own -/

section
variable {σ β κ : Type} {f : σ → β → σ} {key : β → κ} {x : β} {P Q : σ → Prop}

/-- What an element of another key keeps, a fold without the key keeps. -/
theorem foldl_keeps (other : ∀ s y, key y ≠ key x → P s → P (f s y)) {xs : List β} {s : σ} (hx : key x ∉ xs.map key) (hs : P s) :
    P (xs.foldl f s) := by
  induction xs generalizing s with
  | nil => exact hs
  | cons y ys ih =>
    obtain ⟨hne, hys⟩ := not_or.1 (List.mem_cons.not.1 hx)
    exact ih hys (other s y (Ne.symm hne) hs)

/-- `P` stands until the fold comes to `x`, which brings about `Q`; and `Q` stands to the end. -/
theorem foldl_reaches (before : ∀ s y, key y ≠ key x → P s → P (f s y)) (here : ∀ s, P s → Q (f s x))
    (after : ∀ s y, key y ≠ key x → Q s → Q (f s y)) {xs : List β} {s : σ} (hnd : (xs.map key).Nodup) (hx : x ∈ xs) (hs : P s) :
    Q (xs.foldl f s) := by
  induction xs generalizing s with
  | nil => exact absurd hx List.not_mem_nil
  | cons y ys ih =>
    obtain ⟨hy, hnd⟩ := List.nodup_cons.1 hnd
    rw [List.foldl_cons]
    obtain rfl | hx := List.mem_cons.1 hx
    · exact foldl_keeps after hy (here s hs)
    · exact ih hnd hx (before s y (fun e => hy (e ▸ List.mem_map_of_mem hx)) hs)

end

section
variable {s t u : State} {l k : Leg} {w j i n v : Nat} {R Q : Row} {ag : Agent} {p : Leg → Bool} {f : Bin → Bin} {x : Sec} {ten : List Sec}

/-! ### The current bins of a wave (R269, R270) -/

/-- The two current bins of a wave: 15 minutes and 24 hours. -/
def State.bins (s : State) (l : Leg) (w : Nat) : Bin × Bin := (Tab.get {} (pmKey l w) s.pm.cur15, Tab.get {} (pmKey l w) s.pm.cur24)

theorem State.bins_of_pm (h : t.pm = s.pm) : t.bins l w = s.bins l w := by rw [State.bins, h, State.bins]

/-- The number of a leg and wave in the tables of bins. -/
def binKey (x : Leg × Nat) : Nat := pmKey x.1 x.2

theorem binKeys_nodup : (binWaves.map binKey).Nodup := by decide

theorem mem_binWaves (hw : w < 6) : (l, w) ∈ binWaves := by
  cases l <;> interval_cases w <;> decide

/-- A fold over the waves with bins comes to each once. -/
theorem foldl_binWaves {g : State → Leg × Nat → State} {P Q : State → Prop} (hw : w < 6)
    (before : ∀ t y, binKey y ≠ binKey (l, w) → P t → P (g t y)) (here : ∀ t, P t → Q (g t (l, w)))
    (after : ∀ t y, binKey y ≠ binKey (l, w) → Q t → Q (g t y)) : P s → Q (binWaves.foldl g s) :=
  foldl_reaches before here after binKeys_nodup (mem_binWaves hw)

/-- One wave's part of `markBins`. -/
def State.markWave (p : Leg → Bool) (f : Bin → Bin) (s : State) (x : Leg × Nat) : State :=
  if !p x.1 then s else
    { s with pm := { s.pm with
      cur15 := Tab.put {} (binKey x) (f (s.bins x.1 x.2).1) s.pm.cur15
      cur24 := Tab.put {} (binKey x) (f (s.bins x.1 x.2).2) s.pm.cur24 } }

theorem State.markBins_eq : s.markBins p f = binWaves.foldl (State.markWave p f) s := rfl

theorem State.markWave_bins_other {y : Leg × Nat} (h : binKey y ≠ binKey (l, w)) : (s.markWave p f y).bins l w = s.bins l w := by
  unfold State.markWave
  split
  · rfl
  · exact Prod.ext (Tab.get_put_ne _ h.symm ..) (Tab.get_put_ne _ h.symm ..)

theorem State.markWave_bins_same : (s.markWave p f (l, w)).bins l w = if p l then (f (s.bins l w).1, f (s.bins l w).2) else s.bins l w := by
  unfold State.markWave
  cases p l
  · rfl
  · exact Prod.ext (Tab.get_put_self ..) (Tab.get_put_self ..)

/-- Every current bin of a leg that is selected changes, and no other. -/
theorem State.markBins_bins (hw : w < 6) :
    (s.markBins p f).bins l w = if p l then (f (s.bins l w).1, f (s.bins l w).2) else s.bins l w := by
  rw [State.markBins_eq]
  refine foldl_binWaves (l := l) (P := fun t => t.bins l w = s.bins l w)
    (Q := fun t => t.bins l w = if p l then (f (s.bins l w).1, f (s.bins l w).2) else s.bins l w) hw (fun t y hy ht => ?_) (fun t ht => ?_)
    (fun t y hy ht => ?_) rfl
  · exact (State.markWave_bins_other hy).trans ht
  · rw [State.markWave_bins_same, ht]
  · exact (State.markWave_bins_other hy).trans ht

/-! ### A leg's second (R261, R268, R273) -/

/-- A state other than IN_SERVICE makes only its own leg's bins partial; IN_SERVICE makes none. -/
theorem State.setPm_bins (hw : w < 6) (h : l ≠ k ∨ n = 0) : (s.setPm k n).bins l w = s.bins l w := by
  unfold State.setPm
  refine (State.bins_of_pm ((State.event_foot ..).pm rfl)).trans ?_
  refine (State.bins_of_pm (State.wr_pm ..)).trans ?_
  split
  next hout =>
    have hn : n ≠ 0 := by simpa using (Bool.and_eq_true_iff.1 hout).2
    rw [State.markBins_bins hw, if_neg (by simpa using h.resolve_right hn)]
  next => rfl

/-- The leg's second joins those that wait for commitment. -/
def State.queueSecond (s : State) (l : Leg) : State :=
  let inSvc := s.rd Reg.PM_LEG_STATE l.n = 0
  if !s.isOn Reg.PM_CTL_EN || (inSvc && !(s.pm.secs.get l).any fun x => x.counts) then s
  else { s with pm := { s.pm with secs := s.pm.secs.upd l fun q => s.secondOf l (!inSvc) :: q } }

/-- With monitoring on, a leg in service gains its second; the next one begins. -/
def State.serveSecond (s : State) (l : Leg) : State :=
  (if (s.queueSecond l).isOn Reg.PM_CTL_EN && s.rd Reg.PM_LEG_STATE l.n = 0 then (s.queueSecond l).inService l else s.queueSecond l).nextSecond l

/-- The run of seconds without a hard defect. -/
def State.cleanRun (s : State) (l : Leg) : Nat := if s.hard l then 0 else min 11 (s.pm.clean.get l + 1)

/-- A leg's second, before the leg may go into service. -/
def State.endSecond (s : State) (l : Leg) : State :=
  { s.serveSecond l with pm := { (s.serveSecond l).pm with clean := (s.serveSecond l).pm.clean.upd l fun _ => (s.serveSecond l).cleanRun l } }

theorem State.pmLegSecond_eq : s.pmLegSecond l =
    if ((s.endSecond l).rd Reg.PM_LEG_STATE l.n = 1 || (s.endSecond l).rd Reg.PM_LEG_STATE l.n = 3) && (s.serveSecond l).cleanRun l ≥ 11 &&
      (s.endSecond l).rd Reg.ACT_STATUS_STATE l.n = 5 then (s.endSecond l).setPm l 0 else s.endSecond l := rfl

theorem State.queueSecond_bins : (s.queueSecond k).bins l w = s.bins l w := by
  unfold State.queueSecond
  dsimp only
  split <;> rfl

theorem State.queueSecond_foot : Foot fp13 s (s.queueSecond k) := .ite .refl (.setPm rfl .refl)

theorem State.serveSecond_foot : Foot (fp13 ||| fp1) s (s.serveSecond k) :=
  .step (State.nextSecond_foot ..) rfl
    (.ite (.step (State.inService_foot ..) rfl (State.queueSecond_foot.mono rfl)) (State.queueSecond_foot.mono rfl))

theorem State.endSecond_foot : Foot (fp13 ||| fp1) s (s.endSecond k) := .setPm rfl State.serveSecond_foot

/-- One more second in service. -/
def Bin.served (b : Bin) : Bin := { b with insvc := b.insvc + 1, valid := true }

theorem State.serveSecond_bins_own (hw : w < 6) (hen : s.isOn Reg.PM_CTL_EN = true) (hin : s.rd Reg.PM_LEG_STATE l.n = 0) :
    (s.serveSecond l).bins l w = ((s.bins l w).1.served, (s.bins l w).2.served) := by
  have queued : (s.queueSecond l).isOn Reg.PM_CTL_EN = true := (congrArg (decide <| · ≠ 0) (State.queueSecond_foot.rd_keeps rfl)).trans hen
  unfold State.serveSecond
  rw [State.bins_of_pm ((State.nextSecond_foot ..).pm rfl), if_pos (by simp [queued, hin]), State.inService,
    State.markBins_bins hw, if_pos (beq_self_eq_true l), State.queueSecond_bins]
  rfl

theorem State.serveSecond_bins_other (hw : w < 6) (h : l ≠ k) : (s.serveSecond k).bins l w = s.bins l w := by
  unfold State.serveSecond
  rw [State.bins_of_pm ((State.nextSecond_foot ..).pm rfl)]
  split
  · rw [State.inService, State.markBins_bins hw, if_neg (by simpa using h), State.queueSecond_bins]
  · exact State.queueSecond_bins

/-- A leg that goes into service leaves what its bins have gained. -/
theorem State.pmLegSecond_bins (hw : w < 6) : (s.pmLegSecond k).bins l w = (s.serveSecond k).bins l w := by
  rw [State.pmLegSecond_eq]
  split
  · exact State.setPm_bins hw (Or.inr rfl)
  · rfl

theorem State.pmLegSecond_state (h : l ≠ k) : (s.pmLegSecond k).rd Reg.PM_LEG_STATE l.n = s.rd Reg.PM_LEG_STATE l.n := by
  have ended : (s.endSecond k).rd Reg.PM_LEG_STATE l.n = s.rd Reg.PM_LEG_STATE l.n := State.endSecond_foot.rd_leg rfl
  rw [State.pmLegSecond_eq]
  split
  · unfold State.setPm
    rw [(State.event_foot ..).rd_leg rfl, State.rd_wr_otherLeg (by decide) h]
    split
    · exact ((State.markBins_foot ..).rd_leg rfl).trans ended
    · exact ended
  · exact ended

/-- Wait-to-restore counts down with the second. -/
def State.wtrSecond (s : State) : State := if s.isOn Reg.PROT_STATUS_WTR then s.dec Reg.PROT_WTR_LEFT_SECONDS else s

theorem exec_pmSecond : exec .pmSecond s = .next ((s.wtrSecond.pmLegSecond .a).pmLegSecond .b) := rfl

theorem pmSecond_wtr (h : s.isOn Reg.PROT_STATUS_WTR = true) : ∃ t, exec .pmSecond s = .next t ∧
    t.rd Reg.PROT_WTR_LEFT_SECONDS = (s.rd Reg.PROT_WTR_LEFT_SECONDS - 1) % 2 ^ Reg.PROT_WTR_LEFT_SECONDS.width := by
  refine ⟨_, exec_pmSecond, ?_⟩
  rw [(State.pmLegSecond_foot ..).rd_keeps rfl, (State.pmLegSecond_foot ..).rd_keeps rfl, State.wtrSecond, if_pos h]
  exact State.rd_wr_same (by decide)

theorem State.wtrSecond_foot : Foot fp310 s s.wtrSecond := .ite (.dec rfl (Or.inr rfl) .refl) .refl

/-- Both legs' seconds end, and the bins of each gain only from its own. -/
theorem State.pmSecond_bins (hw : w < 6) (hen : s.isOn Reg.PM_CTL_EN = true) (hin : s.rd Reg.PM_LEG_STATE l.n = 0) :
    ((s.pmLegSecond .a).pmLegSecond .b).bins l w = ((s.bins l w).1.served, (s.bins l w).2.served) := by
  cases l
  case a => rw [State.pmLegSecond_bins hw, State.serveSecond_bins_other hw (by decide), State.pmLegSecond_bins hw,
      State.serveSecond_bins_own hw hen hin]
  case b =>
    have en : (s.pmLegSecond .a).isOn Reg.PM_CTL_EN = true := (congrArg (decide <| · ≠ 0) ((State.pmLegSecond_foot ..).rd_keeps rfl)).trans hen
    rw [State.pmLegSecond_bins hw, State.serveSecond_bins_own hw en ((State.pmLegSecond_state (by decide)).trans hin), State.pmLegSecond_bins hw,
      State.serveSecond_bins_other hw (by decide)]

theorem pmSecond_serves (hw : w < 6) (hen : s.isOn Reg.PM_CTL_EN = true) (hin : s.rd Reg.PM_LEG_STATE l.n = 0) : ∃ t, exec .pmSecond s = .next t ∧
    (Tab.get {} (pmKey l w) t.pm.cur15).insvc = (Tab.get {} (pmKey l w) s.pm.cur15).insvc + 1 ∧
    (Tab.get {} (pmKey l w) t.pm.cur24).insvc = (Tab.get {} (pmKey l w) s.pm.cur24).insvc + 1 := by
  have en : s.wtrSecond.isOn Reg.PM_CTL_EN = true := (congrArg (decide <| · ≠ 0) (State.wtrSecond_foot.rd_keeps rfl)).trans hen
  have gained := State.pmSecond_bins (s := s.wtrSecond) hw en ((State.wtrSecond_foot.rd_leg rfl).trans hin)
  rw [State.bins_of_pm (State.wtrSecond_foot.pm rfl)] at gained
  exact ⟨_, exec_pmSecond, congrArg (·.1.insvc) gained, congrArg (·.2.insvc) gained⟩

/-! ### One bit of a field -/

theorem bit_add_other {x : Nat} (h : bit x i ≠ 1) (hne : j ≠ i) : bit (x + 2 ^ i) j = bit x j := by
  obtain hlt | hgt := Nat.lt_or_gt_of_ne hne
  · rw [bit_eq_testBit, Nat.add_comm, Nat.testBit_two_pow_add_gt hlt, bit_eq_testBit]
  · obtain ⟨d, rfl⟩ := Nat.exists_eq_add_of_lt hgt
    have hx := bit_lt_two (x := x) (i := i)
    unfold bit at h hx ⊢
    have carry : (x / 2 ^ i + 1) / 2 = x / 2 ^ i / 2 := by omega
    rw [Nat.add_assoc i d 1, Nat.pow_add, Nat.add_comm d 1, Nat.pow_add, Nat.pow_one, ← Nat.div_div_eq_div_mul, ← Nat.div_div_eq_div_mul,
      ← Nat.div_div_eq_div_mul, ← Nat.div_div_eq_div_mul, Nat.add_div_right _ (Nat.two_pow_pos i), carry]

theorem bit_sub_other {x : Nat} (h : bit x i = 1) (hne : j ≠ i) : bit (x - 2 ^ i) j = bit x j := by
  have hback := bit_add_other (x := x - 2 ^ i) (i := i) (by rw [bit_sub_two_pow h]; decide) hne
  rw [Nat.sub_add_cancel (two_pow_le_of_bit h)] at hback
  exact hback.symm

/-! ### The oldest second is committed (R273, R274) -/

/-- The counters of a wave's seconds. -/
def secRows : List Row := [Reg.PM_SEC_SECONDS, Reg.PM_SEC_ES, Reg.PM_SEC_SES, Reg.PM_SEC_UAS]

theorem secRows_apart : ∀ Q ∈ secRows, ∀ R ∈ secRows, Q = R ∨ otherRow Q R = true := by decide

theorem secRows_stride : ∀ R ∈ secRows, R.stride ≠ 0 := by decide

theorem secRows_unavail : ∀ R ∈ secRows, otherRow Reg.PM_LEG_UNAVAIL R = true ∧ otherRow R Reg.PM_LEG_UNAVAIL = true := by decide

/-- A counter of one wave leaves every counter of another. -/
theorem State.rd_wr_otherWave (hQ : Q ∈ secRows) (hR : R ∈ secRows) (hne : j ≠ i) : (s.wr R v l.n i).rd Q l.n j = s.rd Q l.n j := by
  obtain rfl | hrow := secRows_apart Q hQ R hR
  · refine State.rd_wr_key fun e => hne ?_
    simp only [Row.key] at e
    exact Nat.eq_of_mul_eq_mul_right (Nat.pos_of_ne_zero (secRows_stride Q hQ)) (by omega)
  · exact State.rd_wr_row hrow

/-- From s to t a wave's counters stay, and whether it is available. -/
structure SameWave (l : Leg) (w : Nat) (s t : State) : Prop where
  unavail : bit (t.rd Reg.PM_LEG_UNAVAIL l.n) w = bit (s.rd Reg.PM_LEG_UNAVAIL l.n) w
  counts : ∀ R ∈ secRows, t.rd R l.n w = s.rd R l.n w

theorem SameWave.refl : SameWave l w s s := ⟨rfl, fun _ _ => rfl⟩

theorem SameWave.step (g : SameWave l w t u) (h : SameWave l w s t) : SameWave l w s u :=
  ⟨g.unavail.trans h.unavail, fun R hR => (g.counts R hR).trans (h.counts R hR)⟩

theorem SameWave.ite {c : Prop} [Decidable c] (h : SameWave l w s t) (g : SameWave l w s u) : SameWave l w s (if c then t else u) := by
  split
  · exact h
  · exact g

theorem SameWave.inc (hR : R ∈ secRows) (hne : w ≠ j) : SameWave l w s (s.inc R l.n j) :=
  ⟨congrArg (bit · w) (State.rd_wr_row (secRows_unavail R hR).1), fun _ hQ => State.rd_wr_otherWave hQ hR hne⟩

theorem SameWave.event {src det : Nat} : SameWave l w s (s.event src det) where
  unavail := congrArg (bit · w) ((State.event_foot ..).rd_leg rfl)
  counts R hR := (State.event_foot ..).rd_leg (List.all_eq_true.1 (show secRows.all (keepsRow fp8) = true from rfl) R hR)

theorem SameWave.wrUnavail (hw : w < 5) (hv : bit v w = bit (s.rd Reg.PM_LEG_UNAVAIL l.n) w) :
    SameWave l w s (s.wr Reg.PM_LEG_UNAVAIL v l.n) where
  unavail := by rw [State.rd_wr_same (by decide), bit_mod_width (show w < Reg.PM_LEG_UNAVAIL.width from hw), hv]
  counts R hR := State.rd_wr_row (secRows_unavail R hR).2

theorem SameWave.setBit (hw : w < 5) (hne : w ≠ j) : SameWave l w s (s.setBit Reg.PM_LEG_UNAVAIL l.n j) := by
  unfold State.setBit
  split
  next => exact .refl
  next h => exact .wrUnavail hw (bit_add_other h hne)

theorem SameWave.clrBit (hw : w < 5) (hne : w ≠ j) : SameWave l w s (s.clrBit Reg.PM_LEG_UNAVAIL l.n j) := by
  unfold State.clrBit
  split
  next h => exact .wrUnavail hw (bit_sub_other h hne)
  next => exact .refl

/-- Whether a wave is unavailable after the oldest second. -/
def State.unavailNext (s : State) (l : Leg) (ten : List Sec) (w : Nat) : Bool :=
  if bit (s.rd Reg.PM_LEG_UNAVAIL l.n) w == 1 then !(ten.all fun y => bit y.ses w == 0) else ten.all fun y => bit y.ses w == 1

/-- The wave's class is shown, and the leg's change told. -/
def State.classSec (s : State) (l : Leg) (w : Nat) (was now : Bool) : State :=
  let s := if now && !was then s.setBit Reg.PM_LEG_UNAVAIL l.n w else if was && !now then s.clrBit Reg.PM_LEG_UNAVAIL l.n w else s
  if w = 4 && now ≠ was then s.event (Ev.leg l (if now then 7 else 8)) else s

/-- The oldest second is counted under its class. -/
def State.countSec (s : State) (l : Leg) (x : Sec) (w : Nat) (now : Bool) : State :=
  if !x.counts then s else
  let s := s.inc Reg.PM_SEC_SECONDS l.n w
  if now then s.inc Reg.PM_SEC_UAS l.n w
  else
    let s := if bit x.es w = 1 then s.inc Reg.PM_SEC_ES l.n w else s
    if bit x.ses w = 1 then s.inc Reg.PM_SEC_SES l.n w else s

theorem State.commitSec_eq : s.commitSec l x ten w =
    (s.classSec l w (bit (s.rd Reg.PM_LEG_UNAVAIL l.n) w == 1) (s.unavailNext l ten w)).countSec l x w (s.unavailNext l ten w) := rfl

theorem SameWave.classSec {was now : Bool} (hw : w < 5) (hne : w ≠ j) : SameWave l w s (s.classSec l j was now) := by
  have shown : SameWave l w s (if now && !was then s.setBit Reg.PM_LEG_UNAVAIL l.n j
      else if was && !now then s.clrBit Reg.PM_LEG_UNAVAIL l.n j else s) := .ite (.setBit hw hne) (.ite (.clrBit hw hne) .refl)
  exact .ite (.step .event shown) shown

theorem SameWave.countSec {now : Bool} (hne : w ≠ j) : SameWave l w s (s.countSec l x j now) := by
  have second : SameWave l w s (s.inc Reg.PM_SEC_SECONDS l.n j) := .inc (by decide) hne
  have errored : SameWave l w s (if bit x.es j = 1 then (s.inc Reg.PM_SEC_SECONDS l.n j).inc Reg.PM_SEC_ES l.n j
    else s.inc Reg.PM_SEC_SECONDS l.n j) := .ite (.step (.inc (by decide) hne) second) second
  exact .ite .refl (.ite (.step (.inc (by decide) hne) second) (.ite (.step (.inc (by decide) hne) errored) errored))

/-- Committing one wave's second leaves another's. -/
theorem SameWave.commitSec (hw : w < 5) (hne : w ≠ j) : SameWave l w s (s.commitSec l x ten j) :=
  .step (.countSec hne) (.classSec hw hne)

/-- An available wave stays so through a second in which it was not severely errored. -/
theorem State.unavailNext_of_available (havail : bit (s.rd Reg.PM_LEG_UNAVAIL l.n) w = 0) (hx : x ∈ ten) (hses : bit x.ses w = 0) :
    s.unavailNext l ten w = false := by
  rw [State.unavailNext, havail]
  exact List.all_eq_false.2 ⟨x, hx, by simp [hses]⟩

theorem State.commitSec_available (hcounts : x.counts = true) (havail : bit (s.rd Reg.PM_LEG_UNAVAIL l.n) w = 0) (hx : x ∈ ten)
    (hses : bit x.ses w = 0) : s.commitSec l x ten w =
    if bit x.es w = 1 then (s.inc Reg.PM_SEC_SECONDS l.n w).inc Reg.PM_SEC_ES l.n w else s.inc Reg.PM_SEC_SECONDS l.n w := by
  rw [State.commitSec_eq, State.unavailNext_of_available havail hx hses, havail]
  simp [State.classSec, State.countSec, hcounts, hses]

/-- A wave's oldest second is counted: SECONDS, ES as it was errored, and no UAS. -/
def Committed (l : Leg) (w es : Nat) (s t : State) : Prop :=
  Counted Reg.PM_SEC_SECONDS l.n w 1 s t ∧ Counted Reg.PM_SEC_ES l.n w es s t ∧ t.rd Reg.PM_SEC_UAS l.n w = s.rd Reg.PM_SEC_UAS l.n w

theorem Committed.before (hc : Committed l w n t u) (h : SameWave l w s t) : Committed l w n s u := by
  obtain ⟨hseconds, hes, huas⟩ := hc
  exact ⟨counted_of_rd_before (h.counts _ (by decide)) hseconds, counted_of_rd_before (h.counts _ (by decide)) hes,
    huas.trans (h.counts _ (by decide))⟩

theorem Committed.after (h : SameWave l w t u) (hc : Committed l w n s t) : Committed l w n s u := by
  obtain ⟨hseconds, hes, huas⟩ := hc
  exact ⟨counted_of_rd_after (h.counts _ (by decide)) hseconds, counted_of_rd_after (h.counts _ (by decide)) hes,
    (h.counts _ (by decide)).trans huas⟩

theorem State.commitSec_committed (hw : w < 5) (hcounts : x.counts = true) (havail : bit (s.rd Reg.PM_LEG_UNAVAIL l.n) w = 0) (hx : x ∈ ten)
    (hses : bit x.ses w = 0) : Committed l w (bit x.es w) s (s.commitSec l x ten w) := by
  rw [State.commitSec_available hcounts havail hx hses]
  split
  next hes =>
    rw [hes]
    exact ⟨counted_of_rd_after (State.rd_inc_row rfl) (counted_inc_at hw), counted_of_rd_before (State.rd_inc_row rfl) (counted_inc_at hw),
      (State.rd_inc_row rfl).trans (State.rd_inc_row rfl)⟩
  next hes =>
    have hzero : bit x.es w = 0 := by
      have := bit_lt_two (x := x.es) (i := w)
      omega
    rw [hzero]
    exact ⟨counted_inc_at hw, congrArg (· % _) (State.rd_inc_row rfl), State.rd_inc_row rfl⟩

/-- The leg's oldest second is committed for every wave, and for the leg. -/
def State.commitWaves (s : State) (l : Leg) (x : Sec) (ten : List Sec) : State := [0, 1, 2, 3, 4].foldl (fun s w => s.commitSec l x ten w) s

theorem State.commitWaves_foot : Foot fp331 s (s.commitWaves l x ten) :=
  .foldl (fun _ _ h => .step (State.commitSec_foot ..) rfl h) .refl

theorem State.commitWaves_committed (hw : w < 5) (hcounts : x.counts = true) (havail : bit (s.rd Reg.PM_LEG_UNAVAIL l.n) w = 0) (hx : x ∈ ten)
    (hses : bit x.ses w = 0) : Committed l w (bit x.es w) s (s.commitWaves l x ten) :=
  foldl_reaches (P := SameWave l w s) (Q := Committed l w (bit x.es w) s) (key := id) (x := w)
    (fun _ _ hy ht => .step (.commitSec hw (Ne.symm hy)) ht)
    (fun _ ht => .before (State.commitSec_committed hw hcounts (ht.unavail.trans havail) hx hses) ht)
    (fun _ _ hy ht => .after (.commitSec hw (Ne.symm hy)) ht) (by decide) (by simpa using by omega) .refl

/-- The seconds that wait, without the oldest; none is kept where none counts. -/
def State.dropOldest (s : State) (l : Leg) (q : List Sec) : State :=
  { s with pm := { s.pm with secs := s.pm.secs.upd l fun _ => if (q.take (q.length - 1)).any fun y => y.counts then q.take (q.length - 1) else [] } }

theorem State.dropOldest_length {q : List Sec} (hq : q.length = 11) : ((s.dropOldest l q).pm.secs.get l).length < 11 := by
  have kept : ((s.dropOldest l q).pm.secs.get l) = if (q.take (q.length - 1)).any fun y => y.counts then q.take (q.length - 1) else [] := by
    cases l <;> rfl
  rw [kept]
  split
  · simp [hq]
  · exact Nat.zero_lt_succ _

theorem State.dropOldest_other {q : List Sec} : (s.dropOldest .a q).pm.secs.get .b = s.pm.secs.get .b := rfl

theorem State.commitLeg_short (h : (s.pm.secs.get l).length < 11) : State.commitLeg n s l = s := by
  cases n with
  | zero => rfl
  | succ n => exact if_pos h

/-- With eleven seconds waiting, one is committed. -/
theorem State.commitLeg_eleven (hlen : (s.pm.secs.get l).length = 11) (hlast : (s.pm.secs.get l).getLast? = some x) :
    s.commitLeg (s.pm.secs.get l).length l = (s.commitWaves l x ((s.pm.secs.get l).drop 1)).dropOldest l (s.pm.secs.get l) := by
  have last : ((s.pm.secs.get l).drop ((s.pm.secs.get l).length - 10)).getLast? = some x := by
    rw [List.getLast?_drop, if_neg (by omega), hlast]
  have step : State.commitLeg (10 + 1) s l =
      State.commitLeg 10 ((s.commitWaves l x ((s.pm.secs.get l).drop ((s.pm.secs.get l).length - 10))).dropOldest l (s.pm.secs.get l)) l := by
    rw [State.commitLeg]
    dsimp only
    rw [if_neg (by omega), last]
    rfl
  rw [hlen] at step ⊢
  rw [step, State.commitLeg_short (State.dropOldest_length hlen)]

theorem pmSecondCommit_counts (hlen : (s.pm.secs.get .a).length = 11) (hb : (s.pm.secs.get .b).length < 11)
    (hlast : (s.pm.secs.get .a).getLast? = some x) (hcounts : x.counts = true) (hw : w ≤ 4)
    (havail : bit (s.rd Reg.PM_LEG_UNAVAIL 0) w = 0) (hses : bit x.ses w = 0) : ∃ t, exec .pmSecondCommit s = .next t ∧
    Counted Reg.PM_SEC_SECONDS 0 w 1 s t ∧ Counted Reg.PM_SEC_ES 0 w (bit x.es w) s t ∧ t.rd Reg.PM_SEC_UAS 0 w = s.rd Reg.PM_SEC_UAS 0 w := by
  have hx : x ∈ (s.pm.secs.get .a).drop 1 := List.mem_of_getLast? (by rw [List.getLast?_drop, if_neg (by omega), hlast])
  have kept : (s.commitWaves .a x ((s.pm.secs.get .a).drop 1)).pm = s.pm := State.commitWaves_foot.pm rfl
  have waiting : ((s.commitWaves .a x ((s.pm.secs.get .a).drop 1)).dropOldest .a (s.pm.secs.get .a)).pm.secs.get .b = s.pm.secs.get .b :=
    State.dropOldest_other.trans (congrArg (fun p : PmSt => p.secs.b) kept)
  have done : s.pmCommit = (s.commitWaves .a x ((s.pm.secs.get .a).drop 1)).dropOldest .a (s.pm.secs.get .a) := by
    rw [State.pmCommit, State.commitLeg_eleven hlen hlast]
    exact State.commitLeg_short (waiting ▸ hb)
  have committed : Committed .a w (bit x.es w) s (s.commitWaves .a x ((s.pm.secs.get .a).drop 1)) :=
    State.commitWaves_committed (by omega) hcounts havail hx hses
  exact ⟨_, congrArg Host.Outcome.next done, committed⟩

theorem pmSecondCommit_idle (ha : (s.pm.secs.get .a).length < 11) (hb : (s.pm.secs.get .b).length < 11) : exec .pmSecondCommit s = .next s := by
  refine congrArg Host.Outcome.next ?_
  rw [State.pmCommit, State.commitLeg_short ha]
  exact State.commitLeg_short hb

/-! ### The bins roll (R269 to R271) -/

/-- One wave's part of `rollBins15`. -/
def State.rollWave (step : Bool) (s : State) (x : Leg × Nat) : State :=
  { s with pm := { s.pm with
    cur15 := Tab.put {} (binKey x) (s.openBin x.1 step) s.pm.cur15
    hist15 := Tab.put [] (binKey x)
      ((s.closeBin x.1 step (Tab.get {} (binKey x) s.pm.cur15) :: Tab.get [] (binKey x) s.pm.hist15).take 96) s.pm.hist15 } }

theorem State.rollBins15_eq {step : Bool} : s.rollBins15 step = binWaves.foldl (State.rollWave step) s := rfl

/-- The newest of a wave's 15-minute history. -/
def State.newest (s : State) (l : Leg) (w : Nat) : Option Bin := (Tab.get [] (pmKey l w) s.pm.hist15).head?

theorem State.rollWave_hist {step : Bool} {y : Leg × Nat} : (s.rollWave step y).pm.hist15 = Tab.put [] (binKey y)
    ((s.closeBin y.1 step (Tab.get {} (binKey y) s.pm.cur15) :: Tab.get [] (binKey y) s.pm.hist15).take 96) s.pm.hist15 := rfl

/-- What a wave's roll meets: its own current bin, and the active leg. -/
theorem State.rollWave_other {step : Bool} {y : Leg × Nat} (h : binKey y ≠ binKey (l, w)) : (s.rollWave step y).active = s.active ∧
    Tab.get {} (pmKey l w) (s.rollWave step y).pm.cur15 = Tab.get {} (pmKey l w) s.pm.cur15 ∧ (s.rollWave step y).newest l w = s.newest l w := by
  have apart : pmKey l w ≠ binKey y := h.symm
  refine ⟨rfl, Tab.get_put_ne _ apart .., ?_⟩
  rw [State.newest, State.rollWave_hist, Tab.get_put_ne [] apart, State.newest]

theorem State.closeBin_of_active {step : Bool} {b : Bin} (h : t.active = s.active) : t.closeBin l step b = s.closeBin l step b := by
  rw [State.closeBin, h, State.closeBin]

theorem State.rollWave_newest {step : Bool} :
    (s.rollWave step (l, w)).newest l w = some (s.closeBin l step (Tab.get {} (pmKey l w) s.pm.cur15)) :=
by
  rw [State.newest, State.rollWave_hist, binKey, Tab.get_put_self]
  rfl

/-- Every wave's current 15-minute bin closes as the newest of its history. -/
theorem State.rollBins15_newest {step : Bool} (hw : w < 6) :
    (s.rollBins15 step).newest l w = some (s.closeBin l step (Tab.get {} (pmKey l w) s.pm.cur15)) := by
  rw [State.rollBins15_eq]
  refine foldl_binWaves (l := l)
    (P := fun t => t.active = s.active ∧ Tab.get {} (pmKey l w) t.pm.cur15 = Tab.get {} (pmKey l w) s.pm.cur15)
    (Q := fun t => t.newest l w = some (s.closeBin l step (Tab.get {} (pmKey l w) s.pm.cur15))) hw (fun t y hy ht => ?_) (fun t ht => ?_)
    (fun t y hy ht => ?_) ⟨rfl, rfl⟩
  · obtain ⟨hactive, hcur, -⟩ := State.rollWave_other (s := t) (step := step) hy
    exact ⟨hactive.trans ht.1, hcur.trans ht.2⟩
  · rw [State.rollWave_newest, ht.2, State.closeBin_of_active ht.1]
  · obtain ⟨-, -, hnewest⟩ := State.rollWave_other (s := t) (step := step) hy
    exact hnewest.trans ht

/-- The 15-minute roll is counted and told; the replacement reasons and PM_EXPORT follow it. -/
def State.tellRoll (s : State) : State := (((s.inc Reg.PM_CNT_BINS_15M).event (Ev.prot 12)).reviewReasons).exportRoll

theorem State.tellRoll_foot : Foot (fp16 ||| fp309) (s.inc Reg.PM_CNT_BINS_15M) s.tellRoll :=
  .step (State.exportRoll_foot _) rfl (.step (State.reviewReasons_foot _) rfl (.step (State.event_foot ..) rfl .refl))

theorem State.tellRoll_pm : s.tellRoll.pm = s.pm := (State.tellRoll_foot.pm rfl).trans (State.inc_pm ..)

theorem State.binRoll_eq : s.binRoll = if !s.isOn Reg.PM_CTL_EN || s.alignedSec % 900 ≠ 0 then s
    else if (s.rollBins15 false).tellRoll.alignedSec % 86400 ≠ 0 then (s.rollBins15 false).tellRoll
    else (((s.rollBins15 false).tellRoll.rollBins24 false).inc Reg.PM_CNT_BINS_24H).event (Ev.prot 13) := rfl

theorem State.alignedSec_of (htime : t.time = s.time) (hofs : t.rd Reg.PM_CTL_ALIGN_OFS = s.rd Reg.PM_CTL_ALIGN_OFS) :
    t.alignedSec = s.alignedSec := by
  rw [State.alignedSec, State.secNow, State.nsNow, htime, hofs, State.alignedSec, State.secNow, State.nsNow]

theorem State.rolled_alignedSec : (s.rollBins15 false).tellRoll.alignedSec = s.alignedSec :=
  State.alignedSec_of (((State.tellRoll_foot.time rfl).trans (State.inc_time ..)).trans ((State.rollBins15_foot ..).time rfl))
    ((State.tellRoll_foot.rd_keeps rfl).trans ((State.rd_inc_shared rfl).trans ((State.rollBins15_foot ..).rd_keeps rfl)))

theorem binRoll_closes (hw : w < 6) (hen : s.isOn Reg.PM_CTL_EN = true) (hquarter : s.alignedSec % 900 = 0) (hday : s.alignedSec % 86400 ≠ 0) :
    ∃ t, exec .binRoll s = .next t ∧
    (Tab.get [] (pmKey l w) t.pm.hist15).head? = some (s.closeBin l false (Tab.get {} (pmKey l w) s.pm.cur15)) ∧
    Counted Reg.PM_CNT_BINS_15M 0 0 1 s t ∧ t.rd Reg.PM_CNT_BINS_24H = s.rd Reg.PM_CNT_BINS_24H := by
  have done : s.binRoll = (s.rollBins15 false).tellRoll := by
    rw [State.binRoll_eq, if_neg (by simp [hen, hquarter]), State.rolled_alignedSec, if_pos hday]
  refine ⟨_, congrArg Host.Outcome.next done, ?_, ?_, ?_⟩
  · rw [State.tellRoll_pm]
    exact State.rollBins15_newest hw
  · exact counted_of_foot_before (State.rollBins15_foot ..) rfl (counted_of_foot_after State.tellRoll_foot rfl (counted_inc (by decide)))
  · rw [State.tellRoll_foot.rd_keeps rfl, State.rd_inc_shared rfl, (State.rollBins15_foot ..).rd_keeps rfl]

theorem binRoll_idle (h : s.isOn Reg.PM_CTL_EN = false ∨ s.alignedSec % 900 ≠ 0) : exec .binRoll s = .next s := by
  refine congrArg Host.Outcome.next (if_pos ?_)
  obtain h | h := h <;> simp [h]

/-! ### A bin is latched (R271) -/

/-- PM_BIN_SEL as it is written. -/
def State.selectBin (s : State) (ag : Agent) (v : Nat) : State :=
  (((s.wrA ag Reg.PM_BIN_SEL_LEG (bit v 0)).wrA ag Reg.PM_BIN_SEL_WAVE (bits v 3 1)).wrA ag Reg.PM_BIN_SEL_KIND (bit v 4)).wrA ag
    Reg.PM_BIN_SEL_INDEX (bits v 14 8)

/-- One word of PM_BIN_DATA, of those listed. -/
def State.showWord (ag : Agent) (ws : List Nat) (s : State) (i : Nat) : State := s.wrA ag Reg.PM_BIN_DATA (ws.getD i 0) 0 i

/-- The sixteen words of PM_BIN_DATA. -/
def State.showWords (s : State) (ag : Agent) (ws : List Nat) : State := (List.range 16).foldl (State.showWord ag ws) s

/-- The bin that a PM_BIN_SEL names. -/
def State.selectedBin (s : State) (v : Nat) : Option Bin := s.binAt (Leg.ofBit (bit v 0)) (bits v 3 1) (bit v 4) (bits v 14 8)

/-- The words of a selection: zeros where there is no bin. -/
def selectedWords (b : Option Bin) : List Nat :=
  match b with
  | some b => b.words
  | none => []

theorem State.binLatch_eq : s.binLatch ag v = (s.selectBin ag v).showWords ag (selectedWords ((s.selectBin ag v).selectedBin v)) := rfl

theorem State.showWord_same {ws : List Nat} (hi : i < 16) :
    (s.showWord ag ws i).rdA ag Reg.PM_BIN_DATA 0 i = ws.getD i 0 % 2 ^ 32 := State.rdA_wrA_at hi

theorem State.showWord_other {ws : List Nat} (hne : j ≠ i) : (s.showWord ag ws j).rdA ag Reg.PM_BIN_DATA 0 i = s.rdA ag Reg.PM_BIN_DATA 0 i :=
  State.rdA_wrA_instance (Row.key_instance_ne (by decide) hne.symm)

/-- Every word is shown. -/
theorem State.showWords_data {ws : List Nat} (hi : i < 16) : (s.showWords ag ws).rdA ag Reg.PM_BIN_DATA 0 i = ws.getD i 0 % 2 ^ 32 :=
  foldl_reaches (f := State.showWord ag ws) (xs := List.range 16) (s := s) (x := i) (key := id) (P := fun _ => True)
    (Q := fun t => t.rdA ag Reg.PM_BIN_DATA 0 i = ws.getD i 0 % 2 ^ 32) (fun _ _ _ _ => trivial) (fun _ _ => State.showWord_same hi)
    (fun _ _ hne ht => (State.showWord_other hne).trans ht) (by decide) (List.mem_range.2 hi) trivial

/-- Showing the words leaves an agent's other fields. -/
theorem State.showWords_rdA {ws : List Nat} (h : otherRow R Reg.PM_BIN_DATA = true) : (s.showWords ag ws).rdA ag R = s.rdA ag R :=
  List.foldlRecOn (motive := fun t : State => t.rdA ag R = s.rdA ag R) _ _ rfl fun _ ht _ _ => (State.rdA_wrA_row h).trans ht

theorem State.wrA_pm : (s.wrA ag R v).pm = s.pm := by
  unfold State.wrA
  cases ag.isFw <;> rfl

theorem State.binAt_of {kind idx : Nat} (hpm : t.pm = s.pm) (hactive : t.active = s.active) : t.binAt l w kind idx = s.binAt l w kind idx := by
  rw [State.binAt, hpm, hactive, State.binAt]

/-- The selection itself changes no bin. -/
theorem State.selectBin_selected : (s.selectBin ag v).selectedBin v = s.selectedBin v := by
  refine State.binAt_of ?_ (congrArg Leg.ofBit ?_)
  · rw [State.selectBin, State.wrA_pm, State.wrA_pm, State.wrA_pm, State.wrA_pm]
  · rw [State.selectBin, State.rd_wrA rfl, State.rd_wrA rfl, State.rd_wrA rfl, State.rd_wrA rfl]

theorem State.selectBin_wave : (s.selectBin ag v).rdA ag Reg.PM_BIN_SEL_WAVE = bits v 3 1 := by
  rw [State.selectBin, State.rdA_wrA_row rfl, State.rdA_wrA_row rfl, State.rdA_wrA_at (by decide)]
  exact bits_mod_width

theorem exec_pmBinLatch {v : BitVec 32} (hreach : s.reach ag = true) : exec (.pmBinLatch ag v) s =
    .next ((s.selectBin ag v.toNat).showWords ag (selectedWords (s.selectedBin v.toNat))) := by
  refine congrArg Host.Outcome.next ((if_pos hreach).trans ?_)
  exact State.binLatch_eq.trans (by rw [State.selectBin_selected])

theorem Bin.words_start {b : Bin} : b.words.getD 0 0 = b.start % 2 ^ 32 := rfl

theorem Bin.words_count {b : Bin} : b.words.getD 4 0 = b.cnt.getD 0 0 % 2 ^ 32 := by
  rw [show b.words.getD 4 0 = b.cnt.getD 0 0 / 2 ^ 0 % 2 ^ 32 from rfl, Nat.pow_zero, Nat.div_one]

theorem pmBinLatch_shows {v : BitVec 32} {b : Bin} (hreach : s.reach ag = true) (hb : s.selectedBin v.toNat = some b) :
    ∃ t, exec (.pmBinLatch ag v) s = .next t ∧ t.rdA ag Reg.PM_BIN_DATA 0 0 = b.start % 2 ^ 32 ∧
    t.rdA ag Reg.PM_BIN_DATA 0 4 = b.cnt.getD 0 0 % 2 ^ 32 ∧ t.rdA ag Reg.PM_BIN_SEL_WAVE = bits v.toNat 3 1 := by
  rw [exec_pmBinLatch hreach, hb]
  refine ⟨_, rfl, ?_, ?_, ?_⟩
  · rw [State.showWords_data (by decide), selectedWords, Bin.words_start, Nat.mod_mod]
  · rw [State.showWords_data (by decide), selectedWords, Bin.words_count, Nat.mod_mod]
  · rw [State.showWords_rdA rfl, State.selectBin_wave]

theorem pmBinLatch_zeros {v : BitVec 32} (hreach : s.reach ag = true) (hb : s.selectedBin v.toNat = none) :
    ∃ t, exec (.pmBinLatch ag v) s = .next t ∧ t.rdA ag Reg.PM_BIN_DATA 0 0 = 0 ∧ t.rdA ag Reg.PM_BIN_DATA 0 15 = 0 := by
  rw [exec_pmBinLatch hreach, hb]
  exact ⟨_, rfl, State.showWords_data (by decide), State.showWords_data (by decide)⟩

/-! ### TEST (R268) -/

theorem State.setPm_state : (s.setPm l n).rd Reg.PM_LEG_STATE l.n = n % 4 := by
  unfold State.setPm
  rw [(State.event_foot ..).rd_leg rfl]
  exact State.rd_wr_same (by decide)

theorem pmTestWrite_tests {v : BitVec 32} (hreach : s.reach ag = true) (hv : bit v.toNat 2 = 1) : ∃ t, exec (.pmTestWrite ag l v) s = .next t ∧
    t.rd Reg.PM_LEG_STATE l.n = 2 ∧ t.rd Reg.PM_LEG_TEST l.n = 1 := by
  refine ⟨_, congrArg Host.Outcome.next ((if_pos hreach).trans (if_pos hv)), State.setPm_state, ?_⟩
  rw [(State.setPm_foot ..).rd_leg rfl, State.rd_wr_same (by decide), hv]
  rfl

theorem pmTestWrite_unreached {v : BitVec 32} (hreach : s.reach ag = false) : exec (.pmTestWrite ag l v) s = .next s :=
  congrArg Host.Outcome.next (if_neg (ne_true_of_eq_false hreach))

end

/-- Settles O41: each fold over waves, or over words, comes to every one of them once, and leaves the others as they are. -/
theorem secondsAndBinsAreKept : Obligations.SecondsAndBinsAreKept := by
  unfold Obligations.SecondsAndBinsAreKept
  exact ⟨fun _ => pmSecond_wtr, fun _ _ _ => pmSecond_serves, fun _ _ _ => pmSecondCommit_counts, fun _ => pmSecondCommit_idle,
    fun _ _ _ => binRoll_closes, fun _ => binRoll_idle, fun _ _ _ _ => pmBinLatch_shows, fun _ _ _ => pmBinLatch_zeros,
    fun _ _ _ _ => pmTestWrite_tests, fun _ _ _ _ => pmTestWrite_unreached⟩

end Sys2Proof.Machine

/-! SUPPORT. The step of the queue, and the frames of the commands: the footprint of each command (`exec…_foot`) against the rows and parts
that its frame names (`covers`, `coversParts`), which the kernel compares as masks. -/

namespace Sys2Proof.Machine

/-- Settles O1: both clauses are the two branches of `step`. -/
theorem aStepRunsTheCommandAtTheFront : Obligations.AStepRunsTheCommandAtTheFront := by
  unfold Obligations.AStepRunsTheCommandAtTheFront step
  constructor
  · intro c rest s hqueue
    rw [hqueue]
  · intro s hqueue
    rw [hqueue]

/-- Settles O56, by the footprint of each command, which its frame covers. -/
theorem frameOfLineAndTimeCommands : Obligations.FrameOfLineAndTimeCommands := by
  unfold Obligations.FrameOfLineAndTimeCommands
  exact ⟨
    fun _ _ _ _ _ _ h => (execSyncCandidate_foot (ht := h) ..).unchanged (by decide +kernel),
    fun _ _ _ _ _ _ _ _ _ h => (execDelineationMarker_foot (ht := h) ..).unchanged (by decide +kernel),
    fun _ _ _ _ _ _ _ h => (execCodewordDecode_foot (ht := h) ..).unchanged (by decide +kernel),
    fun _ _ _ _ h => (execPartitionHeader_foot (ht := h) ..).unchanged (by decide +kernel),
    fun _ _ _ _ h => (execTodAnnouncement_foot (ht := h) ..).unchanged (by decide +kernel),
    fun _ _ _ _ h => (execAllocationStructure_foot (ht := h) ..).unchanged (by decide +kernel),
    fun _ _ _ _ h => (execBurstProfile_foot (ht := h) ..).unchanged (by decide +kernel),
    fun _ _ _ _ h => (execProfileEffective_foot (ht := h) ..).unchanged (by decide +kernel),
    fun _ _ _ _ h => (execAssignTn_foot (ht := h) ..).unchanged (by decide +kernel),
    fun _ _ _ _ h => (execEqdSet_foot (ht := h) ..).unchanged (by decide +kernel),
    fun _ _ _ h => (execEqdApply_foot (ht := h) ..).unchanged (by decide +kernel),
    fun _ _ _ _ h => (execContainer_foot (ht := h) ..).unchanged (by decide +kernel),
    fun _ _ _ _ h => (execContainerEffective_foot (ht := h) ..).unchanged (by decide +kernel),
    fun _ _ _ _ h => (execDeactivate_foot (ht := h) ..).unchanged (by decide +kernel),
    fun _ _ _ _ h => (execEmergencyStop_foot (ht := h) ..).unchanged (by decide +kernel),
    fun _ _ _ _ h => (execRogueRelease_foot (ht := h) ..).unchanged (by decide +kernel),
    fun _ _ _ _ h => (execAllocRevise_foot (ht := h) ..).unchanged (by decide +kernel),
    fun _ _ _ _ h => (execKeepRanged_foot (ht := h) ..).unchanged (by decide +kernel),
    fun _ _ _ _ h => (execMsgUnknown_foot (ht := h) ..).unchanged (by decide +kernel),
    fun _ _ _ _ _ h => (execActCtlWrite_foot (ht := h) ..).unchanged (by decide +kernel),
    fun _ _ _ h => (execRegistrationTimeout_foot (ht := h) ..).unchanged (by decide +kernel),
    fun _ _ _ h => (execRangingTimeout_foot (ht := h) ..).unchanged (by decide +kernel),
    fun _ _ _ h => (execRangeMiss_foot (ht := h) ..).unchanged (by decide +kernel),
    fun _ _ _ h => (execWakeAttemptTimeout_foot (ht := h) ..).unchanged (by decide +kernel),
    fun _ _ _ _ _ h => (execUpstreamFrameStart_foot (ht := h) ..).unchanged (by decide +kernel),
    fun _ _ _ _ h => (execLanePowerUp_foot (ht := h) ..).unchanged (by decide +kernel),
    fun _ _ _ _ _ h => (execWindowOpen_foot (ht := h) ..).unchanged (by decide +kernel),
    fun _ _ _ _ _ h => (execWindowEnd_foot (ht := h) ..).unchanged (by decide +kernel),
    fun _ _ _ _ _ h => (execRogueLatch_foot (ht := h) ..).unchanged (by decide +kernel),
    fun _ _ _ _ _ h => (execHgCtlWrite_foot (ht := h) ..).unchanged (by decide +kernel),
    fun _ _ h => (execLimiterStep_foot (ht := h) ..).unchanged (by decide +kernel),
    fun _ _ h => (execServoUpdate_foot (ht := h) ..).unchanged (by decide +kernel),
    fun _ _ h => (execQualityEvaluate_foot (ht := h) ..).unchanged (by decide +kernel),
    fun _ _ _ h => (execTodMissing_foot (ht := h) ..).unchanged (by decide +kernel),
    fun _ _ h => (execHoldoverBoundAdvance_foot (ht := h) ..).unchanged (by decide +kernel),
    fun _ _ _ _ _ h => (execIncrHoUpdate_foot (ht := h) ..).unchanged (by decide +kernel),
    fun _ _ _ h => (execDispersionFit_foot (ht := h) ..).unchanged (by decide +kernel),
    fun _ _ _ h => (execLaserLowConf_foot (ht := h) ..).unchanged (by decide +kernel),
    fun _ _ _ h => (execLaserConfRestored_foot (ht := h) ..).unchanged (by decide +kernel),
    fun _ _ _ _ _ _ _ _ h => (execTimeVote_foot (ht := h) ..).unchanged (by decide +kernel),
    fun _ _ _ h => (execTimeSnap_foot (ht := h) ..).unchanged (by decide +kernel),
    fun _ _ _ _ h => (execTimeApply_foot (ht := h) ..).unchanged (by decide +kernel),
    fun _ _ _ h => (execTimeCancel_foot (ht := h) ..).unchanged (by decide +kernel),
    fun _ _ h => (execApplyTick_foot (ht := h) ..).unchanged (by decide +kernel),
    fun _ _ _ _ _ h => (execTimeStageWrite_foot (ht := h) ..).unchanged (by decide +kernel),
    fun _ _ _ h => (execTevArm_foot (ht := h) ..).unchanged (by decide +kernel),
    fun _ _ _ h => (execTevDisarm_foot (ht := h) ..).unchanged (by decide +kernel),
    fun _ _ _ _ _ h => (execTevConfigWrite_foot (ht := h) ..).unchanged (by decide +kernel),
    fun _ _ _ h => (execTevFire_foot (ht := h) ..).unchanged (by decide +kernel),
    fun _ _ _ h => (execTevPulseEnd_foot (ht := h) ..).unchanged (by decide +kernel),
    fun _ _ h => (execPpsOutPulse_foot (ht := h) ..).unchanged (by decide +kernel),
    fun _ _ h => (execPpsPulseEnd_foot (ht := h) ..).unchanged (by decide +kernel),
    fun _ _ _ _ _ _ _ h => (execTcapEdge_foot (ht := h) ..).unchanged (by decide +kernel),
    fun _ _ _ h => (execTcapHeadPop_foot (ht := h) ..).unchanged (by decide +kernel),
    fun _ _ h => (execPtmAutoTimer_foot (ht := h) ..).unchanged (by decide +kernel),
    fun _ _ h => (execPtmTrigger_foot (ht := h) ..).unchanged (by decide +kernel),
    fun _ _ _ _ h => (execPtmResponse_foot (ht := h) ..).unchanged (by decide +kernel),
    fun _ _ h => (execPtmTimeout_foot (ht := h) ..).unchanged (by decide +kernel),
    fun _ _ h => (execTimeTick_foot (ht := h) ..).unchanged (by decide +kernel),
    fun _ _ _ _ h => (execMsgCrcErr_foot (ht := h) ..).unchanged (by decide +kernel)⟩

/-- Settles O57, by the footprint of each command, which its frame covers. -/
theorem frameOfPathCommands : Obligations.FrameOfPathCommands := by
  unfold Obligations.FrameOfPathCommands
  exact ⟨
    fun _ _ _ _ _ h => (execSluiceRegion_foot (ht := h) ..).unchanged (by decide +kernel),
    fun _ _ _ _ _ _ _ _ _ h => (execChannelFrame_foot (ht := h) ..).unchanged (by decide +kernel),
    fun _ _ _ _ h => (execFrameDelivery_foot (ht := h) ..).unchanged (by decide +kernel),
    fun _ _ _ _ h => (execKeyExchange_foot (ht := h) ..).unchanged (by decide +kernel),
    fun _ _ _ _ h => (execKeySwitch_foot (ht := h) ..).unchanged (by decide +kernel),
    fun _ _ _ h => (execKeySwitchUpEffective_foot (ht := h) ..).unchanged (by decide +kernel),
    fun _ _ _ h => (execKeySwitchDnEffective_foot (ht := h) ..).unchanged (by decide +kernel),
    fun _ _ _ _ h => (execGenerationErase_foot (ht := h) ..).unchanged (by decide +kernel),
    fun _ _ h => (execTokenRefill_foot (ht := h) ..).unchanged (by decide +kernel),
    fun _ _ _ _ _ _ _ _ h => (execBurstBuild_foot (ht := h) ..).unchanged (by decide +kernel),
    fun _ _ _ _ _ _ h => (execBuildDeadline_foot (ht := h) ..).unchanged (by decide +kernel),
    fun _ _ _ h => (execFallbackEnd_foot (ht := h) ..).unchanged (by decide +kernel),
    fun _ _ _ h => (execUschReset_foot (ht := h) ..).unchanged (by decide +kernel),
    fun _ _ h => (execUschResetDone_foot (ht := h) ..).unchanged (by decide +kernel),
    fun _ _ _ h => (execQueueRead_foot (ht := h) ..).unchanged (by decide +kernel),
    fun _ _ _ h => (execQueueWrite_foot (ht := h) ..).unchanged (by decide +kernel),
    fun _ _ _ h => (execResetBuckets_foot (ht := h) ..).unchanged (by decide +kernel),
    fun _ _ _ _ _ _ h => (execContainerSlotWrite_foot (ht := h) ..).unchanged (by decide +kernel),
    fun _ _ _ _ h => (execUschAuditSnap_foot (ht := h) ..).unchanged (by decide +kernel),
    fun _ _ _ _ h => (execStblRead_foot (ht := h) ..).unchanged (by decide +kernel),
    fun _ _ _ _ h => (execStblWrite_foot (ht := h) ..).unchanged (by decide +kernel),
    fun _ _ _ _ h => (execStblInvalidate_foot (ht := h) ..).unchanged (by decide +kernel),
    fun _ _ _ _ h => (execCompareAndWrite_foot (ht := h) ..).unchanged (by decide +kernel),
    fun _ _ _ h => (execStblCmdDone_foot (ht := h) ..).unchanged (by decide +kernel),
    fun _ _ _ h => (execLearnHoldExpiry_foot (ht := h) ..).unchanged (by decide +kernel),
    fun _ _ _ h => (execLearnRearm_foot (ht := h) ..).unchanged (by decide +kernel),
    fun _ _ _ _ h => (execStatLatch_foot (ht := h) ..).unchanged (by decide +kernel),
    fun _ _ _ h => (execReadNode_foot (ht := h) ..).unchanged (by decide +kernel),
    fun _ _ _ h => (execWriteNode_foot (ht := h) ..).unchanged (by decide +kernel),
    fun _ _ _ h => (execReadRoot_foot (ht := h) ..).unchanged (by decide +kernel),
    fun _ _ _ h => (execWriteRoot_foot (ht := h) ..).unchanged (by decide +kernel),
    fun _ _ _ h => (execReadProf_foot (ht := h) ..).unchanged (by decide +kernel),
    fun _ _ _ h => (execWriteProf_foot (ht := h) ..).unchanged (by decide +kernel),
    fun _ _ _ h => (execClsCmdDone_foot (ht := h) ..).unchanged (by decide +kernel),
    fun _ _ _ h => (execCommitOpen_foot (ht := h) ..).unchanged (by decide +kernel),
    fun _ _ _ _ h => (execCommit_foot (ht := h) ..).unchanged (by decide +kernel),
    fun _ _ _ h => (execCommitCancel_foot (ht := h) ..).unchanged (by decide +kernel),
    fun _ _ h => (execCommitEffective_foot (ht := h) ..).unchanged (by decide +kernel),
    fun _ _ h => (execDrainDone_foot (ht := h) ..).unchanged (by decide +kernel),
    fun _ _ h => (execVersionExpired_foot (ht := h) ..).unchanged (by decide +kernel),
    fun _ _ _ h => (execPipelineCompare_foot (ht := h) ..).unchanged (by decide +kernel),
    fun _ _ _ _ h => (execLookasideRequest_foot (ht := h) ..).unchanged (by decide +kernel),
    fun _ _ _ h => (execLookasideDone_foot (ht := h) ..).unchanged (by decide +kernel),
    fun _ _ _ h => (execQuery_foot (ht := h) ..).unchanged (by decide +kernel),
    fun _ _ _ h => (execSlotRead_foot (ht := h) ..).unchanged (by decide +kernel),
    fun _ _ _ h => (execSlotErase_foot (ht := h) ..).unchanged (by decide +kernel),
    fun _ _ _ h => (execSlotCmdDone_foot (ht := h) ..).unchanged (by decide +kernel),
    fun _ _ _ _ h => (execKeyRefresh_foot (ht := h) ..).unchanged (by decide +kernel),
    fun _ _ _ h => (execCiphLock_foot (ht := h) ..).unchanged (by decide +kernel),
    fun _ _ h => (execRngFail_foot (ht := h) ..).unchanged (by decide +kernel),
    fun _ _ h => (execRngRecover_foot (ht := h) ..).unchanged (by decide +kernel),
    fun _ _ _ h => (execSluiceRecordWrite_foot (ht := h) ..).unchanged (by decide +kernel),
    fun _ _ _ _ _ _ h => (execSluiceRecordRead_foot (ht := h) ..).unchanged (by decide +kernel),
    fun _ _ _ _ h => (execSwapRequest_foot (ht := h) ..).unchanged (by decide +kernel),
    fun _ _ _ h => (execSwapCancel_foot (ht := h) ..).unchanged (by decide +kernel),
    fun _ _ _ h => (execSwapEffective_foot (ht := h) ..).unchanged (by decide +kernel),
    fun _ _ _ _ _ h => (execCmRead_foot (ht := h) ..).unchanged (by decide +kernel),
    fun _ _ _ _ h => (execCmWrite_foot (ht := h) ..).unchanged (by decide +kernel),
    fun _ _ _ _ h => (execCmCopy_foot (ht := h) ..).unchanged (by decide +kernel),
    fun _ _ _ _ h => (execCmClear_foot (ht := h) ..).unchanged (by decide +kernel),
    fun _ _ _ h => (execCmCmdDone_foot (ht := h) ..).unchanged (by decide +kernel),
    fun _ _ _ h => (execRxStarved_foot (ht := h) ..).unchanged (by decide +kernel)⟩

/-- Settles O58, by the footprint of each command, which its frame covers. -/
theorem frameOfProtectionAndModuleCommands : Obligations.FrameOfProtectionAndModuleCommands := by
  unfold Obligations.FrameOfProtectionAndModuleCommands
  exact ⟨
    fun _ _ _ _ h => (execSleep_foot (ht := h) ..).unchanged (by decide +kernel),
    fun _ _ _ _ h => (execProtSwitch_foot (ht := h) ..).unchanged (by decide +kernel),
    fun _ _ _ _ h => (execResponse_foot (ht := h) ..).unchanged (by decide +kernel),
    fun _ _ _ h => (execRequestRetryTimer_foot (ht := h) ..).unchanged (by decide +kernel),
    fun _ _ _ _ h => (execLosDeclare_foot (ht := h) ..).unchanged (by decide +kernel),
    fun _ _ _ _ h => (execLosClear_foot (ht := h) ..).unchanged (by decide +kernel),
    fun _ _ _ _ h => (execSfEvaluate_foot (ht := h) ..).unchanged (by decide +kernel),
    fun _ _ h => (execHoldoffExpiry_foot (ht := h) ..).unchanged (by decide +kernel),
    fun _ _ h => (execClear_foot (ht := h) ..).unchanged (by decide +kernel),
    fun _ _ _ h => (execForced_foot (ht := h) ..).unchanged (by decide +kernel),
    fun _ _ _ h => (execManual_foot (ht := h) ..).unchanged (by decide +kernel),
    fun _ _ _ h => (execFwForced_foot (ht := h) ..).unchanged (by decide +kernel),
    fun _ _ h => (execSwitchDone_foot (ht := h) ..).unchanged (by decide +kernel),
    fun _ _ h => (execWtrExpiry_foot (ht := h) ..).unchanged (by decide +kernel),
    fun _ _ h => (execPmSecond_foot (ht := h) ..).unchanged (by decide +kernel),
    fun _ _ h => (execPmSecondCommit_foot (ht := h) ..).unchanged (by decide +kernel),
    fun _ _ h => (execBinRoll_foot (ht := h) ..).unchanged (by decide +kernel),
    fun _ _ _ _ h => (execPmBinLatch_foot (ht := h) ..).unchanged (by decide +kernel),
    fun _ _ _ _ _ h => (execPmTestWrite_foot (ht := h) ..).unchanged (by decide +kernel),
    fun _ _ h => (execSleepStart_foot (ht := h) ..).unchanged (by decide +kernel),
    fun _ _ h => (execAwakeStart_foot (ht := h) ..).unchanged (by decide +kernel),
    fun _ _ h => (execDozeStart_foot (ht := h) ..).unchanged (by decide +kernel),
    fun _ _ _ h => (execSleepEnded_foot (ht := h) ..).unchanged (by decide +kernel),
    fun _ _ h => (execSleepRetry_foot (ht := h) ..).unchanged (by decide +kernel),
    fun _ _ _ _ h => (execModulePresence_foot (ht := h) ..).unchanged (by decide +kernel),
    fun _ _ _ _ _ h => (execBringupStart_foot (ht := h) ..).unchanged (by decide +kernel),
    fun _ _ _ h => (execBringupAttemptFail_foot (ht := h) ..).unchanged (by decide +kernel),
    fun _ _ _ h => (execBringupRetry_foot (ht := h) ..).unchanged (by decide +kernel),
    fun _ _ _ _ _ _ h => (execSlipWrite_foot (ht := h) ..).unchanged (by decide +kernel),
    fun _ _ _ _ _ h => (execRehunt_foot (ht := h) ..).unchanged (by decide +kernel),
    fun _ _ _ _ _ _ _ h => (execSafetyPoll_foot (ht := h) ..).unchanged (by decide +kernel),
    fun _ _ _ h => (execModuleInterrupt_foot (ht := h) ..).unchanged (by decide +kernel),
    fun _ _ _ _ h => (execTelemetryRead_foot (ht := h) ..).unchanged (by decide +kernel),
    fun _ _ _ _ _ h => (execRxovl_foot (ht := h) ..).unchanged (by decide +kernel),
    fun _ _ _ _ h => (execLifeRecordWrite_foot (ht := h) ..).unchanged (by decide +kernel),
    fun _ _ _ h => (execBiasSample_foot (ht := h) ..).unchanged (by decide +kernel),
    fun _ _ _ _ h => (execCdrLock_foot (ht := h) ..).unchanged (by decide +kernel),
    fun _ _ _ _ h => (execModuleIdentityRead_foot (ht := h) ..).unchanged (by decide +kernel)⟩

/-- Settles O60, by the footprint of each command, which its frame covers. -/
theorem frameOfManagementCommands : Obligations.FrameOfManagementCommands := by
  unfold Obligations.FrameOfManagementCommands
  exact ⟨
    fun _ _ _ h => (execNop_foot (ht := h) ..).unchanged (by decide +kernel),
    fun _ _ _ h => (execIdentify_foot (ht := h) ..).unchanged (by decide +kernel),
    fun _ _ _ h => (execQueryOp_foot (ht := h) ..).unchanged (by decide +kernel),
    fun _ _ _ h => (execSuspend_foot (ht := h) ..).unchanged (by decide +kernel),
    fun _ _ _ h => (execResumeOp_foot (ht := h) ..).unchanged (by decide +kernel),
    fun _ _ _ h => (execCancel_foot (ht := h) ..).unchanged (by decide +kernel),
    fun _ _ _ h => (execSettingsSave_foot (ht := h) ..).unchanged (by decide +kernel),
    fun _ _ _ _ h => (execKeyLoadCmd_foot (ht := h) ..).unchanged (by decide +kernel),
    fun _ _ _ h => (execKeyErase_foot (ht := h) ..).unchanged (by decide +kernel),
    fun _ _ _ h => (execFwActivate_foot (ht := h) ..).unchanged (by decide +kernel),
    fun _ _ _ h => (execFwConfirm_foot (ht := h) ..).unchanged (by decide +kernel),
    fun _ _ _ h => (execLcTransition_foot (ht := h) ..).unchanged (by decide +kernel),
    fun _ _ _ _ h => (execCosignEnrol_foot (ht := h) ..).unchanged (by decide +kernel),
    fun _ _ _ _ h => (execFwDownload_foot (ht := h) ..).unchanged (by decide +kernel),
    fun _ _ _ h => (execFwVerify_foot (ht := h) ..).unchanged (by decide +kernel),
    fun _ _ _ h => (execScrubFull_foot (ht := h) ..).unchanged (by decide +kernel),
    fun _ _ _ h => (execTableBulkLoad_foot (ht := h) ..).unchanged (by decide +kernel),
    fun _ _ _ h => (execDispersionSweep_foot (ht := h) ..).unchanged (by decide +kernel),
    fun _ _ _ h => (execLaserCharacterise_foot (ht := h) ..).unchanged (by decide +kernel),
    fun _ _ _ h => (execSelfTest_foot (ht := h) ..).unchanged (by decide +kernel),
    fun _ _ _ h => (execPmExport_foot (ht := h) ..).unchanged (by decide +kernel),
    fun _ _ _ _ h => (execLongOpProgress_foot (ht := h) ..).unchanged (by decide +kernel),
    fun _ _ _ h => (execLongOpSafePoint_foot (ht := h) ..).unchanged (by decide +kernel),
    fun _ _ _ _ h => (execLongOpComplete_foot (ht := h) ..).unchanged (by decide +kernel),
    fun _ _ _ h => (execSuspendTimeout_foot (ht := h) ..).unchanged (by decide +kernel),
    fun _ _ _ h => (execHeartbeat_foot (ht := h) ..).partsBut (by decide +kernel),
    fun _ _ h => (execHbLost_foot (ht := h) ..).unchanged (by decide +kernel),
    fun _ _ h => (execAutopilotExpired_foot (ht := h) ..).unchanged (by decide +kernel),
    fun _ _ h => (execFirstHeartbeatLate_foot (ht := h) ..).unchanged (by decide +kernel),
    fun _ _ h => (execPlannedAbsence_foot (ht := h) ..).unchanged (by decide +kernel),
    fun _ _ _ h => (execMicrocodeBankSwitch_foot (ht := h) ..).unchanged (by decide +kernel),
    fun _ _ h => (execTrialWindowExpiry_foot (ht := h) ..).unchanged (by decide +kernel),
    fun _ _ _ _ h => (execLcArm_foot (ht := h) ..).unchanged (by decide +kernel),
    fun _ _ h => (execIdleEnter_foot (ht := h) ..).unchanged (by decide +kernel),
    fun _ _ h => (execPerstAssert_foot (ht := h) ..).unchanged (by decide +kernel),
    fun _ _ h => (execPerstDeassert_foot (ht := h) ..).unchanged (by decide +kernel),
    fun _ _ _ h => (execBmcPowerRequest_foot (ht := h) ..).unchanged (by decide +kernel),
    fun _ _ h => (execWakeIn_foot (ht := h) ..).partsBut (by decide +kernel),
    fun _ _ h => (execAonTimer_foot (ht := h) ..).unchanged (by decide +kernel),
    fun _ _ h => (execDeepSleepEntry_foot (ht := h) ..).partsBut (by decide +kernel),
    fun _ _ _ _ h => (execDeepSleepExit_foot (ht := h) ..).partsBut (by decide +kernel),
    fun _ _ h => (execBrownOut_foot (ht := h) ..).partsBut (by decide +kernel),
    fun _ _ _ h => (execPwrGoodRise_foot (ht := h) ..).partsBut (by decide +kernel),
    fun _ _ h => (execPwrGoodFall_foot (ht := h) ..).partsBut (by decide +kernel),
    fun _ _ _ _ h => (execCold_foot (ht := h) ..).partsBut (by decide +kernel),
    fun _ _ _ _ h => (execWarm_foot (ht := h) ..).unchanged (by decide +kernel),
    fun _ _ h => (execRefLoss_foot (ht := h) ..).unchanged (by decide +kernel),
    fun _ _ h => (execRefRestored_foot (ht := h) ..).unchanged (by decide +kernel),
    fun _ _ _ h => (execRailLoss_foot (ht := h) ..).unchanged (by decide +kernel),
    fun _ _ h => (execActivateWarmReset_foot (ht := h) ..).unchanged (by decide +kernel),
    fun _ _ h => (execXt32kStable_foot (ht := h) ..).unchanged (by decide +kernel)⟩

/-! ### The frame of a register write, read at a leg that does not exist

A field that is kept once, with a leg stride of 0, has its copies at every leg in the terms of `Row.copy`, and they all lie at one key of the
register store. `Row.reach` gives the leg of such a field as 0, so the frame takes in its copy at leg 2, which is the very field written. -/

/-- The state after reset, after management core 0 wrote zero to MEM_SCRUB_CTL. -/
def scrubSwitchedOff : State := State.reset.regWrite (.fw 0) 0x330000 0

theorem reset_scrub_on_legTwo : State.reset.rd Reg.MEM_SCRUB_CTL_EN 2 0 = 1 := rfl

theorem scrubSwitchedOff_legTwo : scrubSwitchedOff.rd Reg.MEM_SCRUB_CTL_EN 2 0 = 0 := rfl

/-- Refutes O59, by its clause for REGISTER_WRITE: a write of MEM_SCRUB_CTL by firmware changes EN, and the copy of EN at leg 2, which the
clause's `Row.copy` admits and its `Row.reach` does not name, is the same field. -/
theorem not_frameOfHostCommands : ¬ Obligations.FrameOfHostCommands := by
  unfold Obligations.FrameOfHostCommands
  rintro ⟨-, -, -, -, -, -, -, -, -, -, -, -, -, -, -, -, -, -, -, -, -, -, -, -, -, -, -, -, -, -, -, -, -, -, -, -, -, -, -, hwrite, -⟩
  have hnext : exec (.registerWrite (.fw 0) 0x330000 0) State.reset = .next scrubSwitchedOff := exec_registerWrite_fw rfl 0x330000 0
  have hframe := (hwrite _ _ _ _ _ (Or.inr rfl) (by decide) (by decide) hnext).1
  have hkept := hframe Reg.MEM_SCRUB_CTL_EN 2 0 (by decide) ⟨by decide, Or.inr rfl⟩ (by decide)
  rw [scrubSwitchedOff_legTwo, reset_scrub_on_legTwo] at hkept
  exact absurd hkept (by decide)

end Sys2Proof.Machine


/-! SUPPORT. Mailboxes: what an agent's view, a mailbox and the shared window hold after an operation; sends, reads, acknowledgements and
ownership (12_mailboxes_and_admin.md, R319 to R324). -/

namespace Sys2Proof.Machine

section
variable {s t u : State} {ag : Agent} {n k seq ptr len space rsvd : Nat} {v : BitVec 32} {f : View → View} {g : Mbox → Mbox} {x : Mbox}
  {R : Row}

/-! ### Views and mailboxes after an update -/

@[simp] theorem State.setView_view : (s.setView ag f).view ag = f (s.view ag) := Tab.get_put_self ..

@[simp] theorem State.setView_box : (s.setView ag f).box n = s.box n := rfl

@[simp] theorem State.setView_boxes : (s.setView ag f).mbx.box = s.mbx.box := rfl

@[simp] theorem State.setView_out : (s.setView ag f).out = s.out := rfl

@[simp] theorem State.setView_regs : (s.setView ag f).regs = s.regs := rfl

@[simp] theorem State.setView_rd {l i : Nat} : (s.setView ag f).rd R l i = s.rd R l i := rfl

@[simp] theorem State.setView_ownsBox {b : Agent} : (s.setView ag f).ownsBox b n = s.ownsBox b n := rfl

@[simp] theorem State.setView_swRead {off : Nat} : (s.setView ag f).swRead off len = s.swRead off len := rfl

@[simp] theorem State.setBox_box : (s.setBox n g).box n = g (s.box n) := Tab.get_put_self ..

@[simp] theorem State.setBox_view : (s.setBox n g).view ag = s.view ag := rfl

@[simp] theorem State.inc_view {l i m : Nat} : (s.inc R l i m).view ag = s.view ag := rfl

@[simp] theorem State.inc_box {l i m : Nat} : (s.inc R l i m).box n = s.box n := rfl

@[simp] theorem State.emit_view {o : Output} : (s.emit o).view ag = s.view ag := rfl

@[simp] theorem State.emit_box {o : Output} : (s.emit o).box n = s.box n := rfl

theorem State.box_of_mbx (h : t.mbx = s.mbx) : t.box n = s.box n := by rw [State.box, h, State.box]

theorem State.view_of_mbx (h : t.mbx = s.mbx) : t.view ag = s.view ag := by rw [State.view, h, State.view]

@[simp] theorem State.raiseFor_mbx {src det detL : Nat} {own : Option Nat} : (s.raiseFor src own det detL).mbx = s.mbx :=
  (State.raiseFor_foot ..).mbx rfl

/-- The alert's output changes nothing but the trace. -/
theorem State.withAlert_cases : s.withAlert t = t ∨ s.withAlert t = t.emit (.i3cAlert t.bmcAlert) := by
  unfold State.withAlert
  split
  · exact .inl rfl
  · exact .inr rfl

@[simp] theorem State.withAlert_mbx : (s.withAlert t).mbx = t.mbx := by
  rcases State.withAlert_cases (s := s) (t := t) with h | h <;> simp only [h, State.emit_mbx]

@[simp] theorem State.withAlert_regs : (s.withAlert t).regs = t.regs := by
  rcases State.withAlert_cases (s := s) (t := t) with h | h <;> simp only [h, State.emit_regs]

@[simp] theorem State.withAlert_view : (s.withAlert t).view ag = t.view ag := State.view_of_mbx State.withAlert_mbx

@[simp] theorem State.withAlert_box : (s.withAlert t).box n = t.box n := State.box_of_mbx State.withAlert_mbx

@[simp] theorem State.withAlert_rd {l i : Nat} : (s.withAlert t).rd R l i = t.rd R l i := by rw [State.rd, State.withAlert_regs, State.rd]

/-- An operation over a path that runs is the operation. -/
theorem State.via_runs (h : s.path ag = true) (op : State → State) : s.via ag op = op s := if_pos h

/-! ### A message put in a mailbox (R321, R322) -/

@[simp] theorem State.mbxPut_view : (s.mbxPut n x).view ag = s.view ag := by
  unfold State.mbxPut
  extract_lets b s₁ m det
  have h₁ : s₁.view ag = s.view ag := by unfold s₁; split <;> rfl
  rw [State.view_of_mbx State.raiseFor_mbx, State.setBox_view, h₁]

/-- The mailbox holds the message, FULL, beside what it says of the one overwritten. -/
theorem State.mbxPut_box : (s.mbxPut n x).box n = { x with
    full := true, collided := (s.box n).full || (s.box n).collided,
    lostSeq := if (s.box n).full then (s.box n).seq else (s.box n).lostSeq,
    lostSrc := if (s.box n).full then (s.box n).src else (s.box n).lostSrc } := by
  unfold State.mbxPut
  dsimp only
  rw [State.box_of_mbx State.raiseFor_mbx, State.setBox_box]

/-! ### MBX_SEND (R320, R321) -/

theorem State.mbxSend_refused (h : s.sendRefused ag n ptr len space rsvd = true) :
    s.mbxSend ag n ptr len space rsvd = (s.inc Reg.MBX_CNT_REFUSED).setView ag fun v => { v with result := St.invalid } := if_pos h

/-- The state of a send that is not refused, before the alert follows it. -/
def State.sent (s : State) (ag : Agent) (n ptr len space : Nat) : State :=
  ((s.inc Reg.MBX_CNT_MESSAGES).mbxPut n
    { seq := ((s.box n).cnt + 1) % 256, src := ag.id, ptr := ptr, len := len, space := space, cnt := ((s.box n).cnt + 1) % 256 }).setView ag
    fun v => { v with result := St.ok, seq := ((s.box n).cnt + 1) % 256, overwrote := (s.box n).full }

theorem State.mbxSend_sends (h : s.sendRefused ag n ptr len space rsvd = false) :
    s.mbxSend ag n ptr len space rsvd = s.withAlert (s.sent ag n ptr len space) := if_neg (by rw [h]; decide)

theorem State.sent_box : ((s.sent ag n ptr len space).box n).full = true ∧
    ((s.sent ag n ptr len space).box n).seq = ((s.box n).cnt + 1) % 256 ∧
    ((s.sent ag n ptr len space).box n).src = ag.id ∧ ((s.sent ag n ptr len space).box n).len = len := by
  unfold State.sent
  rw [State.setView_box, State.mbxPut_box]
  exact ⟨rfl, rfl, rfl, rfl⟩

theorem State.sent_result : ((s.sent ag n ptr len space).view ag).result = 0 := by
  rw [State.sent, State.setView_view]
  rfl

theorem State.sent_counts : Counted Reg.MBX_CNT_MESSAGES 0 0 1 s (s.sent ag n ptr len space) := by
  unfold State.sent
  have hinc : Counted Reg.MBX_CNT_MESSAGES 0 0 1 s (s.inc Reg.MBX_CNT_MESSAGES) := counted_inc (by decide)
  have hput := counted_of_foot_after (State.mbxPut_foot (s.inc Reg.MBX_CNT_MESSAGES) n
    { seq := ((s.box n).cnt + 1) % 256, src := ag.id, ptr := ptr, len := len, space := space, cnt := ((s.box n).cnt + 1) % 256 }) rfl hinc
  exact hput

theorem mbxSend_fills (hpath : s.path ag = true) (hsend : s.sendRefused ag (bits v.toNat 21 16) (s.view ag).ptr (bits v.toNat 15 0)
      (bits v.toNat 23 22) (bits v.toNat 31 24) = false) :
    ∃ t, exec (.mbxSend ag v) s = .next t ∧ (t.box (bits v.toNat 21 16)).full = true ∧
      (t.box (bits v.toNat 21 16)).seq = ((s.box (bits v.toNat 21 16)).cnt + 1) % 256 ∧ (t.box (bits v.toNat 21 16)).src = ag.id ∧
      (t.box (bits v.toNat 21 16)).len = bits v.toNat 15 0 ∧ (t.view ag).result = 0 ∧ Counted Reg.MBX_CNT_MESSAGES 0 0 1 s t := by
  refine ⟨_, congrArg Host.Outcome.next ((State.via_runs hpath _).trans (State.mbxSend_sends hsend)), ?_⟩
  simp only [State.withAlert_box, State.withAlert_view, Counted, State.withAlert_rd]
  obtain ⟨hfull, hseq, hsrc, hlen⟩ := State.sent_box (s := s) (ag := ag) (n := bits v.toNat 21 16) (ptr := (s.view ag).ptr)
    (len := bits v.toNat 15 0) (space := bits v.toNat 23 22)
  exact ⟨hfull, hseq, hsrc, hlen, State.sent_result, State.sent_counts⟩

theorem mbxSend_refuses (hpath : s.path ag = true) (hsend : s.sendRefused ag (bits v.toNat 21 16) (s.view ag).ptr (bits v.toNat 15 0)
      (bits v.toNat 23 22) (bits v.toNat 31 24) = true) :
    ∃ t, exec (.mbxSend ag v) s = .next t ∧ t.mbx.box = s.mbx.box ∧ (t.view ag).result = 2 ∧ Counted Reg.MBX_CNT_REFUSED 0 0 1 s t := by
  refine ⟨_, congrArg Host.Outcome.next ((State.via_runs hpath _).trans (State.mbxSend_refused hsend)), rfl, ?_, counted_inc (by decide)⟩
  rw [State.setView_view]
  rfl

/-! ### Reads of STATUS (R323) -/

theorem State.mbxLatch_owner (h : s.ownsBox ag n = true) :
    s.mbxLatch ag n = (mboxWords (s.box n), s.setView ag fun v => { v with latch := Tab.put none n (some (s.box n)) v.latch }) := if_pos h

theorem State.mbxLatch_other (h : s.ownsBox ag n = false) : s.mbxLatch ag n = ([b2n (s.box n).full, 0, 0, 0, 0], s) :=
  if_neg (by rw [h]; decide)

/-- The latch holds the message. -/
theorem State.latched_view : Tab.get none n ((s.setView ag fun v => { v with latch := Tab.put none n (some (s.box n)) v.latch }).view ag).latch =
    some (s.box n) := by
  rw [State.setView_view, Tab.get_put_self]

theorem mbxStatusRead_latches (hpath : s.path ag = true) (howner : s.ownsBox ag n = true) :
    ∃ t, exec (.mbxStatusRead ag n) s = .next t ∧ Tab.get none n (t.view ag).latch = some (s.box n) ∧
      t.out = s.out ++ [.regRead (0x300000 + 0x20 * n) ((mboxWords (s.box n)).getD 0 0)] ∧ t.mbx.box = s.mbx.box := by
  refine ⟨_, congrArg Host.Outcome.next ((State.via_runs hpath _).trans
    (congrArg (fun p : List Nat × State => p.2.emit (.regRead _ (p.1.getD 0 0))) (State.mbxLatch_owner howner))),
    State.latched_view, rfl, rfl⟩

theorem mbxStatusRead_shows_full (hpath : s.path ag = true) (hother : s.ownsBox ag n = false) :
    exec (.mbxStatusRead ag n) s = .next (s.emit (.regRead (0x300000 + 0x20 * n) (b2n (s.box n).full))) := by
  refine congrArg Host.Outcome.next ((State.via_runs hpath _).trans ?_)
  rw [State.mbxLatch_other hother]
  rfl

/-! ### Acknowledgements (R324) -/

/-- The state after the acknowledgement of a mailbox's message, before the alert follows it. -/
def State.emptied (s : State) (n : Nat) : State := s.setBox n fun b => { b with full := false, collided := false }

theorem State.emptied_box : ((s.emptied n).box n).full = false ∧ ((s.emptied n).box n).collided = false := by
  rw [State.emptied, State.setBox_box]
  exact ⟨rfl, rfl⟩

theorem State.mbxAck_empties (howner : s.ownsBox ag n = true) (hfull : (s.box n).full = true) (hseq : (s.box n).seq = seq % 256) :
    s.mbxAck ag n seq = (St.ok, s.withAlert (s.emptied n)) := by
  unfold State.mbxAck
  simp only [howner, hfull, hseq, Bool.not_true, Bool.false_eq_true, ↓reduceIte, beq_self_eq_true, Bool.and_self, State.emptied]

theorem State.mbxAck_stale (howner : s.ownsBox ag n = true) (hmiss : ¬((s.box n).full = true ∧ (s.box n).seq = seq % 256)) :
    s.mbxAck ag n seq = (St.notFound, s.inc Reg.MBX_CNT_ACK_STALE) := by
  unfold State.mbxAck
  simp only [howner, Bool.not_true, Bool.false_eq_true, ↓reduceIte, Bool.and_eq_true, beq_iff_eq, hmiss]

theorem State.mbxAck_denied (hother : s.ownsBox ag n = false) : s.mbxAck ag n seq = (St.denied, s) := by
  unfold State.mbxAck
  simp only [hother, Bool.not_false, ↓reduceIte]

/-- An acknowledgement by the owner of the message that stands (R324): FULL and COLLIDED clear, and no field changes. -/
theorem mbxAck_clears (hpath : s.path ag = true) (howner : s.ownsBox ag n = true) (hfull : (s.box n).full = true)
    (hseq : (s.box n).seq = seq % 256) :
    ∃ t, exec (.mbxAck ag n seq) s = .next t ∧ t.mbx = (s.emptied n).mbx ∧ t.regs = s.regs := by
  refine ⟨_, congrArg Host.Outcome.next ((State.via_runs hpath _).trans
    (congrArg Prod.snd (State.mbxAck_empties howner hfull hseq))), ?_, ?_⟩
  · exact State.withAlert_mbx
  · exact State.withAlert_regs

theorem mbxAck_counts_stale (hpath : s.path ag = true) (howner : s.ownsBox ag n = true)
    (hmiss : ¬((s.box n).full = true ∧ (s.box n).seq = seq % 256)) : exec (.mbxAck ag n seq) s = .next (s.inc Reg.MBX_CNT_ACK_STALE) :=
  congrArg Host.Outcome.next ((State.via_runs hpath _).trans (congrArg Prod.snd (State.mbxAck_stale howner hmiss)))

theorem mbxAck_of_other (hother : s.ownsBox ag n = false) : exec (.mbxAck ag n seq) s = .next s := by
  refine congrArg Host.Outcome.next ?_
  rw [State.via, State.mbxAck_denied hother, ite_self]

/-- The BMC's acknowledgement is answered with the status of R324's. -/
theorem exec_mctpMbxAck (hpath : s.path .bmc = true) :
    exec (.mctpMbxAck n seq) s = .next ((s.mbxAck .bmc n seq).2.emit (.mctp (s.mbxAck .bmc n seq).1 [])) :=
  congrArg Host.Outcome.next (State.via_runs hpath _)

theorem mctpMbxAck_clears (hpath : s.path .bmc = true) (howner : s.ownsBox .bmc n = true) (hfull : (s.box n).full = true)
    (hseq : (s.box n).seq = seq % 256) :
    ∃ t, exec (.mctpMbxAck n seq) s = .next t ∧ t.mbx = (s.emptied n).mbx ∧ t.regs = s.regs ∧ t.out.getLast? = some (.mctp 0 []) := by
  rw [exec_mctpMbxAck hpath, State.mbxAck_empties howner hfull hseq]
  exact ⟨_, rfl, State.withAlert_mbx, State.withAlert_regs, List.getLast?_concat ..⟩

theorem mctpMbxAck_counts_stale (hpath : s.path .bmc = true) (howner : s.ownsBox .bmc n = true)
    (hmiss : ¬((s.box n).full = true ∧ (s.box n).seq = seq % 256)) :
    ∃ t, exec (.mctpMbxAck n seq) s = .next t ∧ t.mbx = s.mbx ∧ t.regs = (s.inc Reg.MBX_CNT_ACK_STALE).regs := by
  rw [exec_mctpMbxAck hpath, State.mbxAck_stale howner hmiss]
  exact ⟨_, rfl, rfl, rfl⟩

/-! ### Ownership (R319) -/

theorem exec_mbxOwnerWrite_pf {owner : Nat} (hpath : s.path .pf = true) :
    exec (.mbxOwnerWrite .pf n owner) s = .next (s.mbxOwnWrite n (owner % 256)) :=
  congrArg Host.Outcome.next ((State.via_runs hpath _).trans (if_pos rfl))

theorem mbxOwnerWrite_moves {owner : Nat} (hpath : s.path ag = true) (hpf : ag = .pf) (hn : n < 64) (hold : fnOwner (s.mbxOwner n) = true)
    (hnew : fnOwner (owner % 256) = true) (hne : owner % 256 ≠ s.mbxOwner n) (hempty : (s.box n).full = false) :
    ∃ t, exec (.mbxOwnerWrite ag n owner) s = .next t ∧ t.rd Reg.MBX_OWN_OWNER 0 n = owner % 256 ∧ t.mbx = s.mbx := by
  subst hpf
  have hmove : s.mbxOwnWrite n (owner % 256) = s.wr Reg.MBX_OWN_OWNER (owner % 256) 0 n := by
    unfold State.mbxOwnWrite
    rw [if_neg hne, if_pos (by rw [hold, hnew, hempty]; rfl)]
  rw [exec_mbxOwnerWrite_pf hpath, hmove]
  exact ⟨_, rfl, (State.rd_wr_same hn).trans (Nat.mod_mod ..), rfl⟩

theorem mbxOwnerWrite_refuses {owner : Nat} (hpath : s.path ag = true) (hpf : ag = .pf)
    (hbad : fnOwner (owner % 256) = false ∨ (s.box n).full = true) :
    exec (.mbxOwnerWrite ag n owner) s = .next (s.wr Reg.MBX_STATUS_WERR 1) := by
  subst hpf
  have hno : (fnOwner (owner % 256) && !(s.box n).full) = false := by
    rcases hbad with h | h <;> rw [h]
    · rfl
    · exact Bool.and_false _
  rw [exec_mbxOwnerWrite_pf hpath, State.mbxOwnWrite, Bool.and_assoc, hno, Bool.and_false]
  simp only [Bool.false_eq_true, ↓reduceIte, ite_self]

theorem mbxOwnerWrite_of_other {owner : Nat} (hne : ag ≠ .pf) : exec (.mbxOwnerWrite ag n owner) s = .next s := by
  refine congrArg Host.Outcome.next ?_
  rw [State.via, if_neg hne, ite_self]

end

/-- Settles O30: a send by the two branches of `mbxSend`, a read by the two of `mbxLatch`, an acknowledgement by the three of `mbxAck`, and
a move of the owner by those of `mbxOwnWrite`. -/
theorem mailboxesCarryMessages : Obligations.MailboxesCarryMessages := by
  unfold Obligations.MailboxesCarryMessages
  refine ⟨fun _ _ _ => mbxSend_fills, fun _ _ _ => mbxSend_refuses, fun _ _ _ => mbxStatusRead_latches,
    fun _ _ _ => mbxStatusRead_shows_full, fun ag n seq s hpath howner hfull hseq => ?_, fun ag n seq s hpath howner hmiss => ?_,
    fun _ _ _ _ => mbxAck_of_other, fun _ _ _ _ => mbxOwnerWrite_moves, fun _ _ _ _ => mbxOwnerWrite_refuses,
    fun _ _ _ _ => mbxOwnerWrite_of_other⟩
  · obtain ⟨t, ht, hmbx, hregs⟩ := mbxAck_clears hpath howner hfull hseq
    refine ⟨t, ht, ?_⟩
    have hbox : t.box n = (s.emptied n).box n := State.box_of_mbx hmbx
    rw [hbox]
    exact ⟨State.emptied_box.1, State.emptied_box.2, hregs⟩
  · refine mbxAck_counts_stale hpath howner fun ⟨hfull, hseq⟩ => ?_
    rcases hmiss with h | h
    · rw [hfull] at h
      cases h
    · exact h hseq

/-- Settles O54: the acknowledgement that names the message, and any other, by register and by the BMC's command. -/
theorem anAcknowledgementMatchesItsMessage : Obligations.AnAcknowledgementMatchesItsMessage := by
  unfold Obligations.AnAcknowledgementMatchesItsMessage
  refine ⟨fun _ _ _ _ => mbxAck_clears, fun _ _ _ _ => mbxAck_counts_stale, fun n seq s hpath howner hfull hseq => ?_,
    fun _ _ _ => mctpMbxAck_counts_stale⟩
  obtain ⟨t, ht, hmbx, hregs, -⟩ := mctpMbxAck_clears hpath howner hfull hseq
  exact ⟨t, ht, hmbx, hregs⟩

end Sys2Proof.Machine

/-! SUPPORT. Bodies of messages and the shared window: what the window reads after a write, the fetch of a body and its end, a word at
SW_ADDR, and the BMC's commands (12_mailboxes_and_admin.md, R325 to R327, R329). -/

namespace Sys2Proof.Machine

section
variable {s t : State} {ag : Agent} {n k off off₁ len seq : Nat} {m : Mbox} {v : BitVec 32} {d : BitVec 32} {l data : List Byte}
  {result : HostRead} {write : Bool}

/-! ### The shared window (R327) -/

@[simp] theorem State.swRead_length : (s.swRead off len).length = len := by rw [State.swRead, List.length_map, List.length_range]

/-- A write of the window changes the mailboxes' part alone. -/
theorem State.swWrite_regs : (s.swWrite off l).regs = s.regs := by
  fun_induction State.swWrite s off l with
  | case1 => rfl
  | case2 s off b r t ih => exact ih

theorem State.swWrite_rd {R : Row} {j i : Nat} : (s.swWrite off l).rd R j i = s.rd R j i := by rw [State.rd, State.swWrite_regs, State.rd]

theorem State.swWrite_out : (s.swWrite off l).out = s.out := by
  fun_induction State.swWrite s off l with
  | case1 => rfl
  | case2 s off b r t ih => exact ih

theorem State.swWrite_view : (s.swWrite off l).view ag = s.view ag := by
  fun_induction State.swWrite s off l with
  | case1 => rfl
  | case2 s off b r t ih => exact ih

/-- A byte that the write does not reach reads as before. -/
theorem State.swWrite_outside (h : ∀ i < l.length, k ≠ (off + i) % 1048576) :
    Tab.get 0 k (s.swWrite off l).mbx.sw = Tab.get 0 k s.mbx.sw := by
  fun_induction State.swWrite s off l with
  | case1 => rfl
  | case2 s off b r t ih =>
    rw [ih fun i hi => ?_]
    · exact Tab.get_put_ne 0 (h 0 (Nat.zero_lt_succ _)) _ _
    · rw [Nat.add_assoc, Nat.add_comm 1 i]
      exact h (i + 1) (Nat.succ_lt_succ hi)

/-- Two offsets less than the window's size apart lie at two places. -/
theorem swPlace_ne (h₀ : 0 < k) (h₁ : k < 1048576) : off % 1048576 ≠ (off + k) % 1048576 := by omega

/-- The bytes of a write no longer than the window read as written. -/
theorem State.swWrite_inside (hl : l.length ≤ 1048576) (hk : k < l.length) :
    Tab.get 0 ((off + k) % 1048576) (s.swWrite off l).mbx.sw = (l[k]).toNat := by
  fun_induction State.swWrite s off l generalizing k with
  | case1 => cases hk
  | case2 s off b r t =>
    rename_i ih
    rw [List.length_cons] at hl hk
    cases k with
    | zero =>
      rw [State.swWrite_outside fun i hi => ?_]
      · exact Tab.get_put_self ..
      · rw [Nat.add_assoc, Nat.add_zero]
        exact swPlace_ne (by omega) (by omega)
    | succ j =>
      have hj := ih (k := j) (by omega) (by omega)
      rwa [Nat.add_assoc, Nat.add_comm 1 j] at hj

/-- The window reads, where a write no longer than it went, what was written. -/
theorem State.swRead_swWrite (hl : l.length ≤ 1048576) : (s.swWrite off l).swRead off l.length = l := by
  refine List.ext_getElem State.swRead_length fun i hi hi' => ?_
  simp only [State.swRead, List.getElem_map, List.getElem_range]
  rw [State.swWrite_inside hl hi', BitVec.ofNat_toNat]
  exact BitVec.setWidth_eq _

theorem slice_whole (h : data.length = n) : slice data 0 n = data := by
  subst h
  simpa using slice_middle [] data []

/-! ### MBX_FETCH (R325, R326) -/

theorem State.fetchFail_view {status : Nat} :
    ((s.fetchFail ag status).view ag).busy = false ∧ ((s.fetchFail ag status).view ag).fstatus = status := by
  rw [State.fetchFail, State.setView_view]
  exact ⟨rfl, rfl⟩

theorem State.fetchFail_counts {status : Nat} : Counted Reg.MBX_CNT_FETCH_FAILS 0 0 1 s (s.fetchFail ag status) := counted_inc (by decide)

theorem State.mbxFetch_busy (h : (s.view ag).busy = true) : s.mbxFetch ag k = s := if_pos h

/-- A fetch from the shared window into it: nothing stands in its way, and no host memory is read. -/
theorem State.mbxFetch_starts (hidle : (s.view ag).busy = false) (hgo : bit k 8 = 1)
    (hlatch : Tab.get none (bits k 5 0) (s.view ag).latch = some m) (howner : s.ownsBox ag (bits k 5 0) = true) (hds : bits k 7 6 = 1)
    (hfit : (s.view ag).dst % 1048576 + m.len ≤ 1048576) (hspace : m.space = 1) :
    s.mbxFetch ag k = (s.setView ag fun v => { v with fMbx := bits k 5 0, dspace := bits k 7 6 }).setView ag fun v =>
      { v with busy := true, fstatus := St.ok, cur := some m, curBox := bits k 5 0, curDst := v.dst, curSpace := bits k 7 6 } := by
  have hsender : ∀ x : State, x.senderOk m = true := fun x => by rw [State.senderOk, hspace]; rfl
  have hhost : onHost m 1 = false := by rw [onHost, hspace]; exact Bool.and_false _
  have hplace : decide ((s.view ag).dst % 1048576 + m.len > 1048576) = false := decide_eq_false (by omega)
  unfold State.mbxFetch
  simp only [hidle, hgo, State.setView_view, hlatch, State.setView_ownsBox, howner, hds, spaceOk, hplace, hsender, hhost, hspace,
    Bool.false_eq_true, ↓reduceIte, Bool.not_true, Bool.or_self, Bool.and_false, Bool.false_and, Nat.one_ne_zero]

theorem mbxFetch_keeps_its_message (hpath : s.path ag = true) (hidle : (s.view ag).busy = false) (hgo : bit v.toNat 8 = 1)
    (hlatch : Tab.get none (bits v.toNat 5 0) (s.view ag).latch = some m) (howner : s.ownsBox ag (bits v.toNat 5 0) = true)
    (hds : bits v.toNat 7 6 = 1) (hfit : (s.view ag).dst % 1048576 + m.len ≤ 1048576) (hspace : m.space = 1) :
    ∃ t, exec (.mbxFetch ag v) s = .next t ∧ (t.view ag).busy = true ∧ (t.view ag).cur = some m ∧
      (t.view ag).curDst = (s.view ag).dst ∧ t.out = s.out ∧ t.regs = s.regs := by
  refine ⟨_, congrArg Host.Outcome.next ((State.via_runs hpath _).trans
    (State.mbxFetch_starts hidle hgo hlatch howner hds hfit hspace)), ?_⟩
  simp only [State.setView_view]
  exact ⟨trivial, trivial, trivial, rfl, rfl⟩

theorem mbxFetch_without_latch (hpath : s.path ag = true) (hidle : (s.view ag).busy = false) (hgo : bit v.toNat 8 = 1)
    (hlatch : Tab.get none (bits v.toNat 5 0) (s.view ag).latch = none) :
    ∃ t, exec (.mbxFetch ag v) s = .next t ∧ (t.view ag).fstatus = 2 ∧ (t.view ag).busy = false ∧
      Counted Reg.MBX_CNT_FETCH_FAILS 0 0 1 s t := by
  have hfail : s.mbxFetch ag v.toNat =
      (s.setView ag fun w => { w with fMbx := bits v.toNat 5 0, dspace := bits v.toNat 7 6 }).fetchFail ag St.invalid := by
    unfold State.mbxFetch
    simp only [hidle, hgo, State.setView_view, hlatch, Bool.false_eq_true, ↓reduceIte, Nat.one_ne_zero]
  refine ⟨_, congrArg Host.Outcome.next ((State.via_runs hpath _).trans hfail), ?_⟩
  exact ⟨State.fetchFail_view.2, State.fetchFail_view.1, State.fetchFail_counts⟩

theorem mbxFetch_while_busy (hbusy : (s.view ag).busy = true) : exec (.mbxFetch ag v) s = .next s := by
  refine congrArg Host.Outcome.next ?_
  rw [State.via, State.mbxFetch_busy hbusy, ite_self]

/-! ### MBX_FETCH_DONE -/

theorem State.fetchDone_copies (hcur : (s.view ag).cur = some m) (hspace : m.space = 1) (hdst : (s.view ag).curSpace = 1) :
    s.fetchDone ag result = ((s.swWrite ((s.view ag).curDst % 1048576) (s.swRead (m.ptr % 1048576) m.len)).inc
      Reg.MBX_CNT_FETCHES).setView ag fun v => { v with busy := false, fstatus := St.ok, cur := none } := by
  have hsender : s.senderOk m = true := by rw [State.senderOk, hspace]; rfl
  have hbytes : slice (s.swRead (m.ptr % 1048576) m.len) 0 m.len = s.swRead (m.ptr % 1048576) m.len :=
    slice_whole State.swRead_length
  unfold State.fetchDone
  simp only [hcur, hsender, hspace, State.fetchOk, hdst, hbytes, Bool.not_true, Bool.false_eq_true, ↓reduceIte, Nat.one_ne_zero,
    decide_false, Bool.false_and]

theorem mbxFetchDone_copies (hcur : (s.view ag).cur = some m) (hspace : m.space = 1) (hlen : m.len ≤ 1048576)
    (hdst : (s.view ag).curSpace = 1) :
    ∃ t, exec (.mbxFetchDone ag result) s = .next t ∧ t.swRead ((s.view ag).curDst % 1048576) m.len = s.swRead (m.ptr % 1048576) m.len ∧
      (t.view ag).busy = false ∧ (t.view ag).fstatus = 0 ∧ Counted Reg.MBX_CNT_FETCHES 0 0 1 s t := by
  refine ⟨_, congrArg Host.Outcome.next (State.fetchDone_copies hcur hspace hdst), ?_, ?_, ?_, ?_⟩
  · have hbody := State.swRead_swWrite (s := s) (off := (s.view ag).curDst % 1048576) (l := s.swRead (m.ptr % 1048576) m.len)
      (State.swRead_length.trans_le hlen)
    rwa [State.swRead_length] at hbody
  · rw [State.setView_view]
  · rw [State.setView_view]
    rfl
  · exact counted_of_rd_before State.swWrite_rd (counted_inc (by decide))

theorem mbxFetchDone_idle (hcur : (s.view ag).cur = none) : exec (.mbxFetchDone ag result) s = .next s := by
  refine congrArg Host.Outcome.next ?_
  rw [State.fetchDone, hcur]

/-! ### A word at SW_ADDR -/

theorem mbxSwAccess_writes (hpath : s.path ag = true) (hwrite : write = true) (hlast : (s.view ag).swAddr < 1048576 - 4) :
    ∃ t, exec (.mbxSwAccess ag write v) s = .next t ∧ t.swRead (s.view ag).swAddr 4 = leBytes 4 v.toNat ∧
      (t.view ag).swAddr = (s.view ag).swAddr + 4 ∧ t.regs = s.regs := by
  subst hwrite
  refine ⟨_, congrArg Host.Outcome.next ((State.via_runs hpath _).trans rfl), ?_, ?_, State.swWrite_regs⟩
  · have hword := State.swRead_swWrite (s := s) (off := (s.view ag).swAddr) (l := leBytes 4 v.toNat) (by rw [leBytes_length]; decide)
    rwa [leBytes_length] at hword
  · unfold State.swAccess
    rw [State.setView_view]
    exact Nat.mod_eq_of_lt (by omega)

theorem mbxSwAccess_reads (hpath : s.path ag = true) (hread : write = false) :
    ∃ t, exec (.mbxSwAccess ag write v) s = .next t ∧ t.out = s.out ++ [.regRead 0x300824 (leNat (s.swRead (s.view ag).swAddr 4))] ∧
      t.mbx.sw = s.mbx.sw ∧ (t.view ag).swAddr = ((s.view ag).swAddr + 4) % 1048576 := by
  subst hread
  refine ⟨_, congrArg Host.Outcome.next ((State.via_runs hpath _).trans rfl), rfl, rfl, ?_⟩
  unfold State.swAccess
  rw [State.setView_view]

/-! ### The BMC's commands (R329) -/

theorem swWrite_puts (hpath : s.path .bmc = true) (hrange : swRange d.toNat data.length = true) :
    ∃ t, exec (.swWrite d data) s = .next t ∧ t.swRead d.toNat data.length = data ∧ t.out = s.out ++ [.mctp 0 []] ∧ t.regs = s.regs := by
  have hlen : data.length ≤ 1048576 := by
    simp only [swRange, Bool.and_eq_true, decide_eq_true_eq] at hrange
    omega
  refine ⟨_, congrArg Host.Outcome.next ((State.via_runs hpath _).trans (if_pos hrange)), State.swRead_swWrite hlen, ?_, State.swWrite_regs⟩
  exact congrArg (· ++ _) State.swWrite_out

theorem swWrite_invalid (hpath : s.path .bmc = true) (hrange : swRange d.toNat data.length = false) :
    exec (.swWrite d data) s = .next (s.emit (.mctp 2 [])) :=
  congrArg Host.Outcome.next ((State.via_runs hpath _).trans (if_neg (by rw [hrange]; decide)))

theorem swRead_answers (hpath : s.path .bmc = true) (hrange : swRange d.toNat len = true) :
    exec (.swRead d len) s = .next (s.emit (.mctp 0 (s.swRead d.toNat len))) :=
  congrArg Host.Outcome.next ((State.via_runs hpath _).trans (if_pos hrange))

theorem swRead_invalid (hpath : s.path .bmc = true) (hrange : swRange d.toNat len = false) :
    exec (.swRead d len) s = .next (s.emit (.mctp 2 [])) :=
  congrArg Host.Outcome.next ((State.via_runs hpath _).trans (if_neg (by rw [hrange]; decide)))

/-- The BMC's send: the one of R320, or one beyond the window that is refused. -/
def State.bmcSend (s : State) (n off len : Nat) : State :=
  if len ≠ 0 && off + len > 1048576 then (s.inc Reg.MBX_CNT_REFUSED).setView .bmc fun v => { v with result := St.invalid }
  else s.mbxSend .bmc n off (len % 65536) 1 (len / 65536)

theorem exec_mctpMbxSend (hpath : s.path .bmc = true) : exec (.mctpMbxSend n d len) s = .next ((s.bmcSend n d.toNat len).emit
    (.mctp ((s.bmcSend n d.toNat len).view .bmc).result (if ((s.bmcSend n d.toNat len).view .bmc).result = St.ok
      then leBytes 1 ((s.bmcSend n d.toNat len).view .bmc).seq else []))) :=
  congrArg Host.Outcome.next (State.via_runs hpath _)

theorem mctpMbxSend_fills (hpath : s.path .bmc = true) (hfit : d.toNat + len ≤ 1048576)
    (hsend : s.sendRefused .bmc n d.toNat (len % 65536) 1 (len / 65536) = false) :
    ∃ t, exec (.mctpMbxSend n d len) s = .next t ∧ (t.box n).full = true ∧ (t.box n).src = Agent.bmc.id ∧
      (t.box n).seq = ((s.box n).cnt + 1) % 256 ∧ (t.view .bmc).result = 0 := by
  have hput : s.bmcSend n d.toNat len = s.withAlert (s.sent .bmc n d.toNat (len % 65536) 1) := by
    have hin : (len ≠ 0 && d.toNat + len > 1048576) = false := by
      rw [decide_eq_false (by omega : ¬d.toNat + len > 1048576), Bool.and_false]
    rw [State.bmcSend, hin]
    exact State.mbxSend_sends hsend
  obtain ⟨hfull, hseq, hsrc, -⟩ := State.sent_box (s := s) (ag := .bmc) (n := n) (ptr := d.toNat) (len := len % 65536) (space := 1)
  refine ⟨_, exec_mctpMbxSend hpath, ?_⟩
  rw [State.emit_box, State.emit_view, hput, State.withAlert_box, State.withAlert_view]
  exact ⟨hfull, hsrc, hseq, State.sent_result⟩

theorem mctpMbxSend_beyond (hpath : s.path .bmc = true) (hlen : len ≠ 0) (hpast : d.toNat + len > 1048576) :
    ∃ t, exec (.mctpMbxSend n d len) s = .next t ∧ t.mbx.box = s.mbx.box ∧ t.out = s.out ++ [.mctp 2 []] ∧
      Counted Reg.MBX_CNT_REFUSED 0 0 1 s t := by
  have hput : s.bmcSend n d.toNat len = (s.inc Reg.MBX_CNT_REFUSED).setView .bmc fun v => { v with result := St.invalid } := by
    rw [State.bmcSend, decide_eq_true hlen, decide_eq_true hpast]
    rfl
  refine ⟨_, exec_mctpMbxSend hpath, ?_⟩
  rw [hput, State.setView_view]
  exact ⟨rfl, rfl, counted_inc (by decide)⟩

theorem mctpMbxRead_latches (hpath : s.path .bmc = true) (howner : s.ownsBox .bmc n = true) :
    ∃ t, exec (.mctpMbxRead n) s = .next t ∧ t.out = s.out ++ [.mctp 0 ((mboxWords (s.box n)).flatMap (leBytes 4))] ∧
      Tab.get none n (t.view .bmc).latch = some (s.box n) :=
  ⟨_, congrArg Host.Outcome.next ((State.via_runs hpath _).trans
    (congrArg (fun p : List Nat × State => p.2.emit (.mctp St.ok (p.1.flatMap (leBytes 4)))) (State.mbxLatch_owner howner))), rfl,
    State.latched_view⟩

theorem mctpMbxAck_denied (hpath : s.path .bmc = true) (hother : s.ownsBox .bmc n = false) :
    exec (.mctpMbxAck n seq) s = .next (s.emit (.mctp 3 [])) := by
  rw [exec_mctpMbxAck hpath, State.mbxAck_denied hother]
  rfl

end

/-- Settles O31, by the fetch and its end over the shared window, whose writes read back, and the BMC's commands one by one. -/
theorem mailboxBodiesAndTheSharedWindow : Obligations.MailboxBodiesAndTheSharedWindow := by
  unfold Obligations.MailboxBodiesAndTheSharedWindow
  refine ⟨fun _ _ _ _ => mbxFetch_keeps_its_message, fun _ _ _ => mbxFetch_without_latch, fun _ _ _ => mbxFetch_while_busy,
    fun _ _ _ _ => mbxFetchDone_copies, fun _ _ _ => mbxFetchDone_idle, fun _ _ _ _ => mbxSwAccess_writes,
    fun _ _ _ _ => mbxSwAccess_reads, fun _ _ _ => swWrite_puts, fun _ _ _ => swWrite_invalid, fun _ _ _ => swRead_answers,
    fun _ _ _ => swRead_invalid, fun _ _ _ _ => mctpMbxSend_fills, fun _ _ _ _ => mctpMbxSend_beyond, fun _ _ => mctpMbxRead_latches,
    fun n seq s hpath howner hfull hseq => ?_, fun _ _ _ => mctpMbxAck_denied⟩
  obtain ⟨t, ht, hmbx, -, hlast⟩ := mctpMbxAck_clears hpath howner hfull hseq
  refine ⟨t, ht, ?_, hlast⟩
  rw [State.box_of_mbx hmbx]
  exact State.emptied_box.1

end Sys2Proof.Machine

/-! SUPPORT. Scrub visits: a row's age, what a visit finds, and a spare taken (16_register_map_and_wrap.md, R412 to R414). -/

namespace Sys2Proof.Machine

section
variable {s t : State} {inst row err table idx n i r det : Nat}

/-! ### The age of a row -/

theorem State.rowAge_of_mem (h : t.mem = s.mem) : t.rowAge inst row = s.rowAge inst row := by rw [State.rowAge, h, State.rowAge]

@[simp] theorem State.setRowAge_rowAge : (s.setRowAge inst row n).rowAge inst row = n := Tab.get_put_self ..

theorem State.event_mem {src : Nat} : (s.event src det).mem = s.mem := (State.event_foot ..).mem rfl

/-- The note of the rows visited leaves their ages. -/
theorem State.scrubCover_rowAge : (s.scrubCover inst row).rowAge i r = s.rowAge i r := by
  unfold State.scrubCover
  dsimp only
  split
  · rfl
  · split
    · rfl
    · simp only [State.rowAge, State.event_mem, State.wr_mem]

theorem State.eccUncorr_rowAge : (s.eccUncorr inst det).rowAge i r = s.rowAge i r := State.rowAge_of_mem ((State.eccUncorr_foot ..).mem rfl)

/-- A row that does not ask for a spare takes none. -/
theorem State.spareRow_young (h : s.rowAge inst row = 0) : s.spareRow inst row = s := if_pos (by rw [h]; rfl)

/-! ### A visit with scrubbing on -/

theorem exec_scrubVisit (hinst : inst < 8) (hon : s.isOn Reg.MEM_SCRUB_CTL_EN = true) :
    exec (.scrubVisit inst row err table idx) s = .next (((s.spareRow inst row).scrubFind inst row err table idx).scrubCover inst row) :=
  congrArg Host.Outcome.next (if_neg (by rw [hon, decide_eq_false (by omega : ¬inst ≥ 8)]; decide))

/-- A memory's count stands past the note of the rows visited. -/
theorem State.scrubCover_rd {R : Row} (hk : keepsRow fp526 R = true) : (s.scrubCover inst row).rd R 0 i = s.rd R 0 i :=
  (State.scrubCover_foot ..).rd_at hk

theorem State.eccUncorr_counts (hinst : inst < 8) : Counted Reg.MEM_INSTC_UNCORR 0 inst 1 s (s.eccUncorr inst det) :=
  counted_of_rd_after ((State.event_foot ..).rd_at rfl) (counted_inc_at hinst)

/-- The finding of an uncorrectable error, before the consequences of its memory: the row named and aged. -/
def State.foundBad (s : State) (inst row : Nat) : State := (s.wr Reg.MEM_INST_STATUS_LAST_ROW row 0 inst).setRowAge inst row 2

theorem State.foundBad_rd : (s.foundBad inst row).rd Reg.MEM_INSTC_UNCORR 0 i = s.rd Reg.MEM_INSTC_UNCORR 0 i := State.rd_wr_shared rfl

theorem scrubVisit_corrects (hinst : inst < 8) (hon : s.isOn Reg.MEM_SCRUB_CTL_EN = true) (herr : err = 1) (hage : s.rowAge inst row = 0) :
    ∃ t, exec (.scrubVisit inst row err table idx) s = .next t ∧ Counted Reg.MEM_INSTC_CORR 0 inst 1 s t ∧
      t.rd Reg.MEM_INST_STATUS_LAST_ROW 0 inst = row % 2 ^ Reg.MEM_INST_STATUS_LAST_ROW.width ∧ t.rowAge inst row = 1 := by
  subst herr
  have hfind : (s.scrubFind inst row 1 table idx) = (((s.inc Reg.MEM_INSTC_CORR 0 inst).wr Reg.MEM_INST_STATUS_LAST_ROW row 0 inst).event
      (Ev.mem (2 * eccPair inst))).setRowAge inst row 1 := by
    have hage' : (((s.inc Reg.MEM_INSTC_CORR 0 inst).wr Reg.MEM_INST_STATUS_LAST_ROW row 0 inst).event
        (Ev.mem (2 * eccPair inst))).rowAge inst row = 0 := (State.rowAge_of_mem State.event_mem).trans hage
    rw [State.scrubFind, if_pos rfl]
    dsimp only
    rw [hage']
    rfl
  refine ⟨_, exec_scrubVisit hinst hon, ?_⟩
  rw [State.spareRow_young hage, hfind, State.scrubCover_rd rfl, State.scrubCover_rowAge, State.setRowAge_rowAge]
  refine ⟨counted_of_rd_after ?_ (counted_inc_at (s := s) hinst), ?_, rfl⟩
  · rw [State.scrubCover_rd rfl]
    exact ((State.event_foot ..).rd_at rfl).trans (State.rd_wr_shared rfl)
  · exact ((State.event_foot ..).rd_at rfl).trans (State.rd_wr_same hinst)

theorem scrubVisit_counts_uncorrectable (hinst : inst < 8) (hon : s.isOn Reg.MEM_SCRUB_CTL_EN = true) (herr : err = 2)
    (hplain : inst = 0 ∨ inst = 6) (hage : s.rowAge inst row = 0) :
    ∃ t, exec (.scrubVisit inst row err table idx) s = .next t ∧ Counted Reg.MEM_INSTC_UNCORR 0 inst 1 s t ∧ t.rowAge inst row = 2 := by
  subst herr
  have hfind : s.scrubFind inst row 2 table idx = (s.foundBad inst row).eccUncorr inst 0 := by
    rcases hplain with rfl | rfl <;> rfl
  refine ⟨_, exec_scrubVisit hinst hon, ?_⟩
  rw [State.spareRow_young hage, hfind, State.scrubCover_rowAge, State.eccUncorr_rowAge]
  exact ⟨counted_of_rd_after (State.scrubCover_rd rfl) (counted_of_rd_before State.foundBad_rd (State.eccUncorr_counts hinst)),
    State.setRowAge_rowAge⟩

theorem scrubVisit_empties_slot (hinst : inst < 8) (hon : s.isOn Reg.MEM_SCRUB_CTL_EN = true) (herr : err = 2) (hkeys : inst = 7)
    (htable : table = 4) :
    ∃ t, exec (.scrubVisit inst row err table idx) s = .next t ∧ Counted Reg.MEM_INSTC_UNCORR 0 7 1 s t ∧ t.slot idx = {} := by
  subst herr hkeys htable
  refine ⟨_, exec_scrubVisit hinst hon, ?_⟩
  have hfind : (s.spareRow 7 row).scrubFind 7 row 2 4 idx = (((s.spareRow 7 row).foundBad 7 row).eccUncorr 7 0).eraseSlot idx := rfl
  have hcount : Counted Reg.MEM_INSTC_UNCORR 0 7 1 s (((s.spareRow 7 row).foundBad 7 row).eccUncorr 7 0) :=
    counted_of_rd_before (State.foundBad_rd.trans ((State.spareRow_foot ..).rd_at rfl)) (State.eccUncorr_counts hinst)
  rw [hfind]
  refine ⟨counted_of_rd_after ((State.scrubCover_rd rfl).trans ((State.eraseSlot_foot ..).rd_at rfl)) hcount, ?_⟩
  have hciph := (State.scrubCover_foot ((((s.spareRow 7 row).foundBad 7 row).eccUncorr 7 0).eraseSlot idx) 7 row).ciph rfl
  rw [State.slot, hciph]
  exact State.eraseSlot_slot

/-! ### A spare taken (R412) -/

theorem scrubVisit_spares (hinst : inst < 8) (hon : s.isOn Reg.MEM_SCRUB_CTL_EN = true) (herr : err = 0) (hage : 2 ≤ s.rowAge inst row)
    (hleft : s.rd Reg.MEM_INST_SPARES_USED 0 inst < s.rd Reg.MEM_INST_SPARES_TOTAL 0 inst)
    (htotal : s.rd Reg.MEM_INST_SPARES_TOTAL 0 inst < 2 ^ Reg.MEM_INST_SPARES_USED.width) :
    ∃ t, exec (.scrubVisit inst row err table idx) s = .next t ∧
      t.rd Reg.MEM_INST_SPARES_USED 0 inst = s.rd Reg.MEM_INST_SPARES_USED 0 inst + 1 ∧ t.rowAge inst row = 0 := by
  subst herr
  have htakes : s.spareRow inst row =
      (((s.setRowAge inst row 0).inc Reg.MEM_INST_SPARES_USED 0 inst).event (Ev.mem 10)).settleSpares inst := by
    rw [State.spareRow, decide_eq_false (by omega), decide_eq_false (by omega)]
    rfl
  have hmem : (s.spareRow inst row).mem = (s.setRowAge inst row 0).mem := by
    rw [htakes]
    exact ((State.settleSpares_foot ..).mem rfl).trans ((State.event_foot ..).mem rfl)
  have hused : (s.spareRow inst row).rd Reg.MEM_INST_SPARES_USED 0 inst = (s.rd Reg.MEM_INST_SPARES_USED 0 inst + 1) % 2 ^ 16 := by
    rw [htakes]
    exact ((State.settleSpares_foot ..).rd_at rfl).trans (((State.event_foot ..).rd_at rfl).trans (State.rd_inc_same hinst))
  refine ⟨_, exec_scrubVisit hinst hon, ?_, ?_⟩
  · rw [State.scrubCover_rd rfl]
    exact hused.trans (Nat.mod_eq_of_lt (Nat.lt_of_le_of_lt hleft htotal))
  · rw [State.scrubCover_rowAge]
    exact (State.rowAge_of_mem hmem).trans State.setRowAge_rowAge

theorem scrubVisit_off (hoff : s.isOn Reg.MEM_SCRUB_CTL_EN = false) : exec (.scrubVisit inst row err table idx) s = .next s :=
  congrArg Host.Outcome.next (if_pos (by rw [hoff, Bool.not_false, Bool.or_true]))

end

/-- Settles O52, by what the visit finds: a corrected error, an uncorrectable one, that of a key slot, and a row that asks for a spare. -/
theorem scrubVisitsCountAndSpare : Obligations.ScrubVisitsCountAndSpare := by
  unfold Obligations.ScrubVisitsCountAndSpare
  exact ⟨fun _ _ _ _ _ _ hinst hon herr _ hage => scrubVisit_corrects hinst hon herr hage,
    fun _ _ _ _ _ _ => scrubVisit_counts_uncorrectable, fun _ _ _ _ _ _ => scrubVisit_empties_slot, fun _ _ _ _ _ _ => scrubVisit_spares,
    fun _ _ _ _ _ _ => scrubVisit_off⟩

end Sys2Proof.Machine

/-! SUPPORT. A doorbell that is discarded on the very event ring that its own event is written to (11_host_interface_and_rings.md, R289,
R309, R313). -/

namespace Sys2Proof.Machine

/-- The link is up with nothing in hold, the PF may issue requests, its event ring 0 is enabled and takes DOORBELL_DISCARDED (source 580).
Nothing has been written to the ring yet. -/
def eventRingOpen : State :=
  (((((State.reset.wr Reg.PWR_STATUS_PERST 0).wr Reg.HIF_LINK_UP 1).wr Reg.HIF_LINK_USABLE 1).wr Reg.HIF_FN_STATUS_BME 1).wr
    Reg.HIF_EQ_CTL_EN 1).wr Reg.EVT_ROUTE_EN 1 0 580

/-- That state after the PF rang the ring's doorbell with a CONS of 1, past its PROD of 0. -/
def eventRingRung : State := (eventRingOpen.fcTake 1 1 0 0).doorbell 0 .eq 0 1 32 false

theorem eventRingOpen_runs : eventRingOpen.runs .pcie = true := by decide +kernel

theorem eventRingOpen_d0 : eventRingOpen.cfg 0 Cfg.d3hot = 0 := by decide +kernel

theorem eventRingOpen_unfit : eventRingOpen.dbFits .eq 0 1 = false := by decide +kernel

theorem eventRingOpen_prod : eventRingOpen.rd Reg.HIF_EQ_IDX_PROD = 0 := by decide +kernel

/-- The event of the discard went to the ring, and moved its PROD. -/
theorem eventRingRung_prod : eventRingRung.rd Reg.HIF_EQ_IDX_PROD = 1 := by decide +kernel

theorem exec_doorbell_eventRingOpen : exec (.doorbell 0 .eq 0 1 32 false) eventRingOpen = .next eventRingRung :=
  congrArg Host.Outcome.next ((if_pos eventRingOpen_runs).trans (if_pos eventRingOpen_d0))

/-- Refutes O25, by its clause that a ring keeps its indices where the index of its doorbell does not fit: a discarded doorbell raises
DOORBELL_DISCARDED, and where the PF's event ring 0 takes that event, its entry moves PROD of the very ring that was rung. -/
theorem not_doorbellsAreTakenOrDiscarded : ¬ Obligations.DoorbellsAreTakenOrDiscarded := by
  unfold Obligations.DoorbellsAreTakenOrDiscarded
  rintro ⟨-, -, -, -, -, hkeeps, -⟩
  obtain ⟨t, ht, hprod, -⟩ := hkeeps 0 .eq 0 1 32 false 0 eventRingOpen eventRingOpen_runs eventRingOpen_d0 rfl rfl eventRingOpen_unfit
  obtain rfl : eventRingRung = t := Host.Outcome.next.inj (exec_doorbell_eventRingOpen.symm.trans ht)
  exact absurd (eventRingRung_prod.symm.trans (hprod.trans eventRingOpen_prod)) (by decide)

end Sys2Proof.Machine

/-! SUPPORT. Two relations that rings are carried along: what events, error logs and AER reports leave of host state (`Reports`), and what the
completion and the unwinding of frames leave of a transmit queue (`KeepsFetch`). -/

namespace Sys2Proof.Machine

section
variable {s t u : State} {R : Row} {v l i n : Nat}

/-! ### What a report leaves of host state (R282, R309 to R316) -/

/-- Host state is as before but for the logs, the event rings and the error status. -/
def Reports (s t : State) : Prop :=
  t.host = { s.host with log := t.host.log, logSeq := t.host.logSeq, eqs := t.host.eqs, errs := t.host.errs,
                         errLost := t.host.errLost, aerC := t.host.aerC, aerU := t.host.aerU }

theorem Reports.host (h : Reports s t) : t.host =
    { s.host with log := t.host.log, logSeq := t.host.logSeq, eqs := t.host.eqs, errs := t.host.errs,
                  errLost := t.host.errLost, aerC := t.host.aerC, aerU := t.host.aerU } := h

theorem Reports.of_host (h : t.host = s.host) : Reports s t := by rw [Reports, h]

theorem Reports.refl : Reports s s := rfl

theorem Reports.trans (h : Reports s t) (g : Reports t u) : Reports s u := by
  unfold Reports at h g ⊢
  rw [g, h]

theorem Reports.txq (h : Reports s t) : t.host.txq = s.host.txq := by rw [h.host]

theorem Reports.rxr (h : Reports s t) : t.host.rxr = s.host.rxr := by rw [h.host]

theorem Reports.reads (h : Reports s t) : t.host.reads = s.host.reads := by rw [h.host]

theorem Reports.cfg (h : Reports s t) : t.host.cfg = s.host.cfg := by rw [h.host]

theorem Reports.msixEn (h : Reports s t) : t.host.msixEn = s.host.msixEn := by rw [h.host]

theorem reports_wr : Reports s (s.wr R v l i) := .of_host rfl

theorem reports_inc : Reports s (s.inc R l i n) := .of_host rfl

theorem reports_evtLog {src det : Nat} : Reports s (s.evtLog src det) := by
  unfold State.evtLog
  dsimp only
  split <;> rfl

theorem reports_eqWrite {e : Nat} {body : List Byte} : Reports s (s.eqWrite e body) := by
  unfold State.eqWrite
  extract_lets r sz own phase w0 entry addr s₁ s₂ s₃ full fire s₄
  have h₄ : Reports s s₄ := rfl
  split
  · exact h₄.trans (.of_host ((State.msix_foot ..).host rfl))
  · exact h₄

theorem reports_raiseFuel {fuel src det detL : Nat} {own : Option Nat} : Reports s (s.raiseFuel fuel src own det detL) := by
  fun_induction State.raiseFuel fuel s src own det detL with
  | case1 | case2 | case3 | case4 | case7 => exact reports_evtLog.trans rfl
  | case5 =>
    rename_i overflow
    exact (reports_evtLog.trans rfl).trans overflow
  | case6 => exact reports_evtLog.trans reports_eqWrite

theorem reports_raiseFor {src det detL : Nat} {own : Option Nat} : Reports s (s.raiseFor src own det detL) := reports_raiseFuel

theorem reports_event {src det : Nat} : Reports s (s.event src det) := reports_raiseFor

theorem reports_hostEvent {k f det detL : Nat} : Reports s (s.hostEvent k f det detL) := reports_raiseFor

theorem reports_pfEvent {k det : Nat} : Reports s (s.pfEvent k det) := reports_hostEvent

theorem reports_errLog {f code status ring value : Nat} : Reports s (s.errLog f code status ring value) := by
  unfold State.errLog
  dsimp only
  split
  · refine Reports.trans ?_ reports_hostEvent
    split <;> rfl
  · rfl

theorem reports_aerReport {k : Nat} {advisory : Bool} : Reports s (s.aerReport k advisory) := by
  unfold State.aerReport
  dsimp only
  split <;> exact Reports.trans rfl reports_pfEvent

theorem reports_readFault {own ring loc kind addr : Nat} {why : ReadFault} : Reports s (s.readFault own ring loc kind addr why) := by
  unfold State.readFault
  extract_lets s₁
  have h₁ : Reports s s₁ := by
    unfold s₁
    cases why with
    | errored => exact reports_hostEvent
    | malformed => exact (reports_inc.trans reports_aerReport).trans reports_pfEvent
    | timedOut => exact reports_inc.trans reports_hostEvent
    | linkLost => exact .refl
  split
  · exact h₁
  · cases why <;> exact h₁.trans reports_errLog

theorem reports_setRingErr {kind : RingKind} {ring on status : Nat} : Reports s (s.setRingErr kind ring on status) := by
  cases kind <;> rfl

theorem reports_ringFail {kind : RingKind} {ring status : Nat} : Reports s (s.ringFail kind ring status) :=
  (reports_setRingErr.trans reports_errLog).trans reports_hostEvent

/-! ### What the completion and the unwinding of frames leave of a transmit queue -/

/-- A queue's fetching: its next descriptor, the chain begun, and the flush that runs. -/
def TxQ.fetching (x : TxQ) : Nat × List Desc × Option Nat × Bool := (x.fetchIdx, x.part, x.flushTo, x.disabling)

/-- Every queue fetches as before. -/
def KeepsFetch (s t : State) : Prop := ∀ q, (t.txq q).fetching = (s.txq q).fetching

variable {q k : Nat} {g : TxQ → TxQ} {p : Placed} {b : Burst} {bs : List Burst} {f : TxFrame}

theorem KeepsFetch.refl : KeepsFetch s s := fun _ => rfl

theorem KeepsFetch.trans (h : KeepsFetch s t) (h' : KeepsFetch t u) : KeepsFetch s u := fun q => (h' q).trans (h q)

theorem KeepsFetch.of_txq (h : t.host.txq = s.host.txq) : KeepsFetch s t := fun q => by rw [State.txq, h, State.txq]

theorem Reports.keepsFetch (h : Reports s t) : KeepsFetch s t := .of_txq h.txq

theorem KeepsFetch.foldl {α : Type} {op : State → α → State} {xs : List α} (h : ∀ x a, KeepsFetch x (op x a)) :
    KeepsFetch s (xs.foldl op s) := by
  induction xs generalizing s with
  | nil => exact .refl
  | cons a r ih => exact (h s a).trans ih

/-- An update of a queue that leaves its fetching. -/
theorem KeepsFetch.setTxq (hg : ∀ x : TxQ, (g x).fetching = x.fetching) (h : KeepsFetch s t) : KeepsFetch s (t.setTxq k g) := by
  refine h.trans fun q => ?_
  by_cases hq : q = k
  · subst hq
    rw [State.setTxq_txq]
    exact hg _
  · rw [State.setTxq_txq_ne hq]

theorem keepsFetch_newHead : KeepsFetch s (s.newHead q) := by
  unfold State.newHead
  split
  · exact .refl
  · extract_lets x
    split
    · exact .refl
    · exact .setTxq (fun _ => rfl) .refl

theorem keepsFetch_popDone : KeepsFetch s (s.popDone k q) := by
  induction k generalizing s with
  | zero => exact .refl
  | succ k ih =>
    unfold State.popDone
    split
    · split
      · exact .refl
      · extract_lets n s₁
        have h₁ : KeepsFetch s s₁ := .of_txq rfl
        refine KeepsFetch.trans ?_ ih
        exact .setTxq (fun _ => rfl) h₁
    · exact .refl

theorem keepsFetch_complete : KeepsFetch s (s.complete q) := keepsFetch_popDone

theorem keepsFetch_finish {didx status : Nat} : KeepsFetch s (s.finish q didx status) := by
  unfold State.finish
  extract_lets wasHead s₁ s₂
  have h₁ : KeepsFetch s s₁ := .setTxq (fun _ => rfl) .refl
  have h₂ : KeepsFetch s s₂ := h₁.trans keepsFetch_complete
  split
  · exact h₂.trans keepsFetch_newHead
  · exact h₂

theorem keepsFetch_addFrame : KeepsFetch s (s.addFrame q f) := by
  unfold State.addFrame
  extract_lets fresh s₁
  have h₁ : KeepsFetch s s₁ := .setTxq (fun _ => rfl) .refl
  split
  · split
    · exact h₁.trans keepsFetch_newHead
    · exact h₁
  · exact h₁.trans keepsFetch_complete

theorem keepsFetch_chainInvalid {ds : List Desc} : KeepsFetch s (s.chainInvalid q ds) := by
  cases ds with
  | nil => exact .refl
  | cons d r => exact keepsFetch_addFrame.trans reports_hostEvent.keepsFetch

theorem keepsFetch_chainWhole {ds : List Desc} : KeepsFetch s (s.chainWhole q ds) := by
  unfold State.chainWhole
  split
  · exact .refl
  · split
    extract_lets raw
    split
    · exact keepsFetch_chainInvalid
    · split
      · exact reports_inc.keepsFetch.trans keepsFetch_addFrame
      · split <;> exact keepsFetch_addFrame

theorem keepsFetch_charge {cost cpay : Nat × Nat} {op : Bucket → Nat → Bucket} : KeepsFetch s (s.charge q cost cpay op) :=
  KeepsFetch.setTxq (g := fun x => { x with b0 := op x.b0 cost.1, b1 := op x.b1 cost.2 }) (fun _ => rfl) .refl

theorem keepsFetch_unplace : KeepsFetch s (s.unplace p) := by
  unfold State.unplace
  extract_lets s₁ s₂ s₃
  have h₁ : KeepsFetch s s₁ := .setTxq (fun _ => rfl) .refl
  have h₂ : KeepsFetch s s₂ := h₁.trans keepsFetch_charge
  exact h₂.trans (.of_txq rfl)

theorem keepsFetch_restoreSnap {m : SchedSnap} : KeepsFetch s (s.restoreSnap m) := by
  unfold State.restoreSnap
  extract_lets s₁
  have h₁ : KeepsFetch s s₁ := .of_txq rfl
  refine h₁.trans (.foldl fun x q => ?_)
  split
  · exact .refl
  · split <;> exact .setTxq (fun _ => rfl) .refl

theorem keepsFetch_untakeMsg {g : Leg} {m : Option (Nat × Nat)} : KeepsFetch s (s.untakeMsg g m) := by
  unfold State.untakeMsg
  split
  · exact .of_txq (congrArg HostSt.txq (State.upd_host ..))
  · exact .of_txq (congrArg HostSt.txq (State.upd_host ..))
  · exact .of_txq rfl
  · exact .of_txq (congrArg HostSt.txq (State.upd_host ..))
  · exact .refl

theorem keepsFetch_unwindBurst : KeepsFetch s (s.unwindBurst b) := by
  unfold State.unwindBurst
  extract_lets s₁ s₂ s₃ s₄
  have h₁ : KeepsFetch s s₁ := .of_txq rfl
  have h₂ : KeepsFetch s₁ s₂ := .foldl fun _ _ => keepsFetch_unplace
  exact ((h₁.trans h₂).trans (keepsFetch_restoreSnap.trans keepsFetch_untakeMsg)).trans (.of_txq rfl)

theorem keepsFetch_unwindSlot {c cause : Nat} : KeepsFetch s (s.unwindSlot c cause) :=
  ((reports_wr.trans reports_inc).trans reports_raiseFor).keepsFetch

theorem keepsFetch_unwindList {cause : Nat} : KeepsFetch s (s.unwindList bs cause) :=
  (KeepsFetch.foldl fun _ _ => keepsFetch_unwindBurst).trans (.foldl fun _ _ => keepsFetch_unwindSlot)

theorem keepsFetch_unwindWhere {g : Leg} {sel : Burst → Bool} {cause : Nat} : KeepsFetch s (s.unwindWhere g sel cause) := by
  unfold State.unwindWhere State.unwindAlloc
  split
  · split
    · exact keepsFetch_unwindList
    · exact .refl
  · exact .refl

end

end Sys2Proof.Machine

/-! SUPPORT. Entries of rings are fetched: the descriptor or post that arrives, the completion of a read, and its failure
(11_host_interface_and_rings.md, R282, R288, R292, R293, R295). -/

namespace Sys2Proof.Machine

section
variable {s t u : State} {kind : RingKind} {ring q r i n tag status : Nat} {b bytes : List Byte} {data : Option (List Byte)}
  {mine lenOk good : Bool} {rd : Read} {e c R : Row} {why : ReadFault}

/-! ### A ring in ERR (R288) -/

/-- The fields ERR and ERRCODE of a ring: two fields, one copy for each ring, kept by what reports an error. -/
theorem errRows_kept (h : (ringRows kind).err = some (e, c)) : otherRow e c = true ∧ c.n = e.n ∧ e.width = 1 ∧ c.width = 8 ∧
    keepsRow fp9 e = true ∧ keepsRow fp9 c = true ∧ keepsRow fp8 e = true ∧ keepsRow fp8 c = true := by
  cases kind <;> cases h <;> decide +kernel

theorem State.setRingErr_shows {on : Nat} (h : (ringRows kind).err = some (e, c)) (hring : ring < e.n) :
    (s.setRingErr kind ring on status).rd e 0 ring = on % 2 ∧ (s.setRingErr kind ring on status).rd c 0 ring = status % 256 := by
  rw [show (2 : Nat) = 2 ^ 1 from rfl, show (256 : Nat) = 2 ^ 8 from rfl]
  obtain ⟨hne, hn, hw, hw', -⟩ := errRows_kept h
  have hset : s.setRingErr kind ring on status = (s.wr e on 0 ring).wr c status 0 ring := by rw [State.setRingErr, h]
  rw [hset]
  constructor
  · rw [State.rd_wr_shared hne, State.rd_wr_same hring, hw]
  · rw [State.rd_wr_same (hn ▸ hring), hw']

theorem State.ringFail_shows (h : (ringRows kind).err = some (e, c)) (hring : ring < e.n) :
    (s.ringFail kind ring status).rd e 0 ring = 1 ∧ (s.ringFail kind ring status).rd c 0 ring = status % 256 := by
  obtain ⟨-, -, -, -, he, hc, he', hc'⟩ := errRows_kept h
  obtain ⟨hon, hcode⟩ := State.setRingErr_shows (s := s) (on := 1) (status := status) h hring
  have hkeep : ∀ {R : Row}, keepsRow fp9 R = true → keepsRow fp8 R = true →
      (s.ringFail kind ring status).rd R 0 ring = (s.setRingErr kind ring 1 status).rd R 0 ring := fun h9 h8 =>
    ((State.hostEvent_foot ..).rd_at h8).trans ((State.errLog_foot ..).rd_at h9)
  exact ⟨(hkeep he he').trans hon, (hkeep hc hc').trans hcode⟩

/-! ### A transmit descriptor joins its chain (R293) -/

/-- The descriptor is counted and held, and the queue's fetch index passes it. -/
def State.descTaken (s : State) (q : Nat) : State :=
  ((s.inc Reg.HIF_CNT_DESC_FETCHED).inc Reg.HIF_TX_HELD 0 q).setTxq q fun x => { x with fetchIdx := (x.fetchIdx + 1) % 65536 }

/-- The fetch index of a queue and the count of descriptors fetched stand. -/
def DescStands (q : Nat) (s t : State) : Prop :=
  (t.txq q).fetchIdx = (s.txq q).fetchIdx ∧ t.rd Reg.HIF_CNT_DESC_FETCHED = s.rd Reg.HIF_CNT_DESC_FETCHED

theorem DescStands.refl : DescStands q s s := ⟨rfl, rfl⟩

theorem DescStands.trans (h : DescStands q s t) (g : DescStands q t u) : DescStands q s u := ⟨g.1.trans h.1, g.2.trans h.2⟩

theorem DescStands.withPart {part : List Desc} (h : DescStands q s t) :
    DescStands q s (t.setTxq q fun x => { x with part := part }) := by
  refine h.trans ⟨?_, rfl⟩
  rw [State.setTxq_txq]

theorem DescStands.chainInvalid {ds : List Desc} (h : DescStands q s t) : DescStands q s (t.chainInvalid q ds) :=
  h.trans ⟨congrArg Prod.fst (keepsFetch_chainInvalid q), (State.chainInvalid_foot ..).rd_keeps rfl⟩

theorem DescStands.chainWhole {ds : List Desc} (h : DescStands q s t) : DescStands q s (t.chainWhole q ds) :=
  h.trans ⟨congrArg Prod.fst (keepsFetch_chainWhole q), (State.chainWhole_foot ..).rd_keeps rfl⟩

/-- However the chain goes on, ends or fails, the fetch index and the count stand from when the descriptor was taken. -/
theorem State.txDesc_stands : DescStands q (s.descTaken q) (s.txDesc q b) := by
  unfold State.txDesc
  extract_lets x d s₁ s₂
  have h₂ : DescStands q (s.descTaken q) s₂ := .refl
  clear_value s₂
  split
  · exact h₂.chainInvalid
  · split
    rename_i s₃ part hjoin
    have h₃ : DescStands q (s.descTaken q) s₃ := by
      split at hjoin <;> cases hjoin
      · exact h₂.withPart.chainInvalid
      · exact h₂
    extract_lets ds
    split
    · exact h₃.withPart.chainWhole
    · split
      · exact h₃.withPart.chainInvalid
      · exact h₃.withPart

theorem State.txDesc_takes : ((s.txDesc q b).txq q).fetchIdx = ((s.txq q).fetchIdx + 1) % 65536 ∧
    Counted Reg.HIF_CNT_DESC_FETCHED 0 0 1 s (s.txDesc q b) := by
  obtain ⟨hidx, hcount⟩ := State.txDesc_stands (s := s) (q := q) (b := b)
  refine ⟨hidx.trans ?_, counted_of_rd_after (hcount.trans (State.rd_inc_shared rfl)) (counted_inc (by decide))⟩
  rw [State.descTaken, State.setTxq_txq]
  rfl

/-! ### Posts and lookaside requests (R295, R297) -/

theorem State.rxPost_takes (hlow : 64 ≤ leNat (slice b 8 2) % 16384) (hhigh : leNat (slice b 8 2) < 16384)
    (hrsvd : leNat (slice b 10 6) = 0) : Counted Reg.HIF_CNT_DESC_FETCHED 0 0 1 s (s.rxPost r b) ∧
      ((s.rxPost r b).rxr r).posts = (s.rxr r).posts ++ [⟨(s.rxr r).fetchIdx, leNat (slice b 0 8), leNat (slice b 8 2) % 16384⟩] ∧
      ((s.rxPost r b).rxr r).fetchIdx = ((s.rxr r).fetchIdx + 1) % 65536 := by
  unfold State.rxPost
  extract_lets w s₁ x
  rw [if_neg (show ¬(w % 16384 < 64 ∨ w ≥ 16384 ∨ leNat (slice b 10 6) ≠ 0) by omega), State.setRxr_rxr]
  exact ⟨counted_of_rd_after (State.rd_inc_shared (R := Reg.HIF_RX_HELD) rfl) (counted_inc (by decide)), rfl, rfl⟩

theorem State.rxRequest_takes : Counted Reg.HIF_CNT_DESC_FETCHED 0 0 1 s (s.rxRequest r b) ∧
    ((s.rxRequest r b).rxr r).reqs = (s.rxr r).reqs ++ [((s.rxr r).fetchIdx, slice b 0 64)] := by
  unfold State.rxRequest
  extract_lets x
  rw [State.setRxr_rxr]
  exact ⟨counted_of_rd_after (State.rd_inc_shared (R := Reg.HIF_RX_HELD) rfl) (counted_inc (by decide)), rfl⟩

/-! ### DESCRIPTOR_FETCH -/

/-- The read of a ring's next entry leaves the part. -/
def State.asksEntry (s : State) (kind : RingKind) (ring i n : Nat) : State :=
  s.emit (.hostRead s.freshTag (s.ringOwner kind ring)
    (s.rd2 (ringRows kind).baseLo (ringRows kind).baseHi 0 ring + n * (i % 2 ^ s.ringBits kind ring)) n)

theorem descriptorFetch_without_entry (hnone : s.fetchNext kind ring = none) : exec (.descriptorFetch kind ring data) s = .next s := by
  refine congrArg Host.Outcome.next (State.inDom_still ?_)
  rw [State.descriptorFetch, hnone]

theorem descriptorFetch_asks (hrun : s.runs .core = true) (hnext : s.fetchNext kind ring = some (i, n))
    (hcan : s.canRead (s.ringOwner kind ring) n = true) (hlater : data = none) :
    ∃ t, exec (.descriptorFetch kind ring data) s = .next t ∧ t.host.reads.length = s.host.reads.length + 1 ∧
      t.out = s.out ++ [.hostRead s.freshTag (s.ringOwner kind ring) (s.rd2 (ringRows kind).baseLo (ringRows kind).baseHi 0 ring +
        n * (i % 2 ^ s.ringBits kind ring)) n] ∧ t.regs = s.regs := by
  subst hlater
  refine ⟨_, congrArg Host.Outcome.next (if_pos hrun), ?_⟩
  unfold State.descriptorFetch
  simp only [hnext, hcan, Bool.not_true, Bool.false_eq_true, ↓reduceIte]
  exact ⟨List.length_append, rfl, rfl⟩

theorem exec_descriptorFetch_data (hrun : s.runs .core = true) (hnext : s.fetchNext kind ring = some (i, n))
    (hcan : s.canRead (s.ringOwner kind ring) n = true) :
    exec (.descriptorFetch kind ring (some b)) s = .next ((s.asksEntry kind ring i n).fetched kind ring b) := by
  refine congrArg Host.Outcome.next ((if_pos hrun).trans ?_)
  unfold State.descriptorFetch
  simp only [hnext, hcan, Bool.not_true, Bool.false_eq_true, ↓reduceIte]
  rfl

theorem descriptorFetch_takes_post (hrun : s.runs .core = true) (hkind : kind = .rx) (hnext : s.fetchNext kind ring = some (i, 16))
    (hcan : s.canRead (s.ringOwner kind ring) 16 = true) (hdata : data = some b) (hlow : 64 ≤ leNat (slice b 8 2) % 16384)
    (hhigh : leNat (slice b 8 2) < 16384) (hrsvd : leNat (slice b 10 6) = 0) (hplain : s.isOn Reg.HIF_RX_CTL_LA 0 ring = false) :
    ∃ t, exec (.descriptorFetch kind ring data) s = .next t ∧ Counted Reg.HIF_CNT_DESC_FETCHED 0 0 1 s t ∧
      (t.rxr ring).posts = (s.rxr ring).posts ++ [⟨(s.rxr ring).fetchIdx, leNat (slice b 0 8), leNat (slice b 8 2) % 16384⟩] ∧
      (t.rxr ring).fetchIdx = ((s.rxr ring).fetchIdx + 1) % 65536 := by
  subst hkind hdata
  have hfetched : (s.asksEntry .rx ring i 16).fetched .rx ring b = (s.asksEntry .rx ring i 16).rxPost ring b :=
    if_neg (by rw [Bool.not_eq_true]; exact hplain)
  refine ⟨_, exec_descriptorFetch_data hrun hnext hcan, ?_⟩
  rw [hfetched]
  exact State.rxPost_takes (s := s.asksEntry .rx ring i 16) hlow hhigh hrsvd

theorem descriptorFetch_takes_descriptor (hrun : s.runs .core = true) (hkind : kind = .tx) (hnext : s.fetchNext kind ring = some (i, 32))
    (hcan : s.canRead (s.ringOwner kind ring) 32 = true) (hdata : data = some b) :
    ∃ t, exec (.descriptorFetch kind ring data) s = .next t ∧ Counted Reg.HIF_CNT_DESC_FETCHED 0 0 1 s t ∧
      (t.txq ring).fetchIdx = ((s.txq ring).fetchIdx + 1) % 65536 := by
  subst hkind hdata
  obtain ⟨hidx, hcount⟩ := State.txDesc_takes (s := s.asksEntry .tx ring i 32) (q := ring) (b := b)
  exact ⟨_, exec_descriptorFetch_data hrun hnext hcan, hcount, hidx⟩

/-! ### HOST_READ_COMPLETION and COMPLETION_TIMEOUT (R282) -/

theorem State.unexpectedCpl_counts : Counted Reg.HIF_CNT_CPL_UNEXPECTED 0 0 1 s s.unexpectedCpl ∧
    s.unexpectedCpl.host.reads = s.host.reads :=
  ⟨counted_of_foot_after (State.aerReport_foot ..) rfl (counted_inc (by decide)), (reports_inc.trans reports_aerReport).reads⟩

theorem hostReadCompletion_unexpected (hrun : s.runs .pcie = true)
    (hmiss : s.host.reads.find? (fun r => r.tag == tag) = none ∨ mine = false) :
    ∃ t, exec (.hostReadCompletion tag mine bytes lenOk good) s = .next t ∧ Counted Reg.HIF_CNT_CPL_UNEXPECTED 0 0 1 s t ∧
      t.host.reads = s.host.reads := by
  have hunexp : s.readCompletion tag mine bytes lenOk good = s.unexpectedCpl := by
    unfold State.readCompletion
    split
    · rfl
    · rename_i rd hfound
      have hmine : mine = false := hmiss.resolve_left (by rw [hfound]; exact Option.some_ne_none rd)
      rw [hmine]
      rfl
  exact ⟨_, congrArg Host.Outcome.next ((if_pos hrun).trans hunexp), State.unexpectedCpl_counts⟩

theorem hostReadCompletion_takes_request (hrun : s.runs .pcie = true) (hfound : s.host.reads.find? (fun r => r.tag == tag) = some rd)
    (hmine : mine = true) (hlen : lenOk = true) (hgood : good = true) (hrx : rd.kind = 1)
    (hla : s.isOn Reg.HIF_RX_CTL_LA 0 rd.ring = true) :
    ∃ t, exec (.hostReadCompletion tag mine bytes lenOk good) s = .next t ∧
      t.host.reads = s.host.reads.filter (fun r => r.tag != tag) ∧ Counted Reg.HIF_CNT_DESC_FETCHED 0 0 1 s t ∧
      (t.rxr rd.ring).reqs = (s.rxr rd.ring).reqs ++ [((s.rxr rd.ring).fetchIdx, slice bytes 0 64)] := by
  subst hmine hlen hgood
  have htaken : s.readCompletion tag true bytes true true = (s.closeRead tag).rxRequest rd.ring bytes := by
    unfold State.readCompletion
    rw [hfound]
    simp only [Bool.not_true, Bool.false_eq_true, ↓reduceIte, readKind, hrx, State.fetched]
    exact if_pos hla
  refine ⟨_, congrArg Host.Outcome.next ((if_pos hrun).trans htaken), rfl, ?_⟩
  exact State.rxRequest_takes (s := s.closeRead tag)

/-- A read that fails closes, and its ring is in ERR with the failure's status. -/
theorem State.readFail_shows (hfound : s.host.reads.find? (fun r => r.tag == tag) = some rd)
    (hrows : (ringRows (readKind rd)).err = some (e, c)) (hring : rd.ring < e.n) :
    (s.readFail rd why).host.reads = s.host.reads.filter (fun r => r.tag != tag) ∧
      (s.readFail rd why).rd e 0 rd.ring = 1 ∧ (s.readFail rd why).rd c 0 rd.ring = why.status % 256 := by
  have htag : rd.tag = tag := eq_of_beq (List.find?_some (p := fun r : Read => r.tag == tag) hfound)
  refine ⟨?_, State.ringFail_shows hrows hring⟩
  rw [← htag]
  exact (reports_readFault.trans reports_ringFail).reads

theorem hostReadCompletion_errored (hrun : s.runs .pcie = true) (hfound : s.host.reads.find? (fun r => r.tag == tag) = some rd)
    (hmine : mine = true) (hlen : lenOk = true) (hbad : good = false) (hrx : rd.kind = 1) (hring : rd.ring < 4096) :
    ∃ t, exec (.hostReadCompletion tag mine bytes lenOk good) s = .next t ∧
      t.host.reads = s.host.reads.filter (fun r => r.tag != tag) ∧ t.rd Reg.HIF_RX_CTL_ERR 0 rd.ring = 1 ∧
      t.rd Reg.HIF_RX_CTL_ERRCODE 0 rd.ring = 2 := by
  subst hmine hlen hbad
  have hfail : s.readCompletion tag true bytes true false = s.readFail rd .errored := by
    rw [State.readCompletion, hfound]
    rfl
  have hrows : (ringRows (readKind rd)).err = some (Reg.HIF_RX_CTL_ERR, Reg.HIF_RX_CTL_ERRCODE) := by rw [readKind, hrx]; rfl
  exact ⟨_, congrArg Host.Outcome.next ((if_pos hrun).trans hfail), State.readFail_shows hfound hrows hring⟩

theorem completionTimeout_fails_ring (hrun : s.runs .pcie = true) (hfound : s.host.reads.find? (fun r => r.tag == tag) = some rd)
    (htx : rd.kind = 0) (hring : rd.ring < 8192) :
    ∃ t, exec (.completionTimeout tag) s = .next t ∧ t.host.reads = s.host.reads.filter (fun r => r.tag != tag) ∧
      t.rd Reg.HIF_TX_CTL_ERR 0 rd.ring = 1 ∧ t.rd Reg.HIF_TX_CTL_ERRCODE 0 rd.ring = 7 ∧ Counted Reg.HIF_CNT_CPL_TIMEOUT 0 0 1 s t := by
  have hfail : s.readTimeout tag = s.readFail rd .timedOut := by rw [State.readTimeout, hfound]
  have hrows : (ringRows (readKind rd)).err = some (Reg.HIF_TX_CTL_ERR, Reg.HIF_TX_CTL_ERRCODE) := by rw [readKind, htx]; rfl
  obtain ⟨hreads, herr, hcode⟩ := State.readFail_shows (why := .timedOut) hfound hrows hring
  refine ⟨_, congrArg Host.Outcome.next ((if_pos hrun).trans hfail), hreads, herr, hcode, ?_⟩
  refine counted_of_foot_after (State.ringFail_foot ..) rfl ?_
  unfold State.readFault
  dsimp only
  have hcount : ∀ k f det detL, Counted Reg.HIF_CNT_CPL_TIMEOUT 0 0 1 s
      (((s.closeRead rd.tag).inc Reg.HIF_CNT_CPL_TIMEOUT).hostEvent k f det detL) :=
    fun _ _ _ _ => counted_of_foot_after (State.hostEvent_foot ..) rfl (counted_inc (s := s.closeRead rd.tag) (by decide))
  split
  · exact hcount ..
  · exact counted_of_foot_after (State.errLog_foot ..) rfl (hcount ..)

theorem completionTimeout_of_none (hnone : s.host.reads.find? (fun r => r.tag == tag) = none) :
    exec (.completionTimeout tag) s = .next s := by
  refine congrArg Host.Outcome.next (State.inDom_still ?_)
  rw [State.readTimeout, hnone]

end

/-- Settles O26: a fetch by what it asks or takes in, a completion by the branches of `readCompletion`, and a timeout. -/
theorem ringEntriesAreFetched : Obligations.RingEntriesAreFetched := by
  unfold Obligations.RingEntriesAreFetched
  exact ⟨fun _ _ _ _ => descriptorFetch_without_entry, fun _ _ _ _ _ _ => descriptorFetch_asks,
    fun _ _ _ _ _ _ hrun hkind _ => descriptorFetch_takes_post hrun hkind,
    fun _ _ _ _ _ _ hrun hkind _ => descriptorFetch_takes_descriptor hrun hkind,
    fun _ _ _ _ _ _ => hostReadCompletion_unexpected,
    fun _ _ _ _ _ _ _ hrun hfound hmine hlen hgood hrx _ => hostReadCompletion_takes_request hrun hfound hmine hlen hgood hrx,
    fun _ _ _ _ _ _ _ => hostReadCompletion_errored, fun _ _ _ => completionTimeout_fails_ring, fun _ _ => completionTimeout_of_none⟩

end Sys2Proof.Machine

/-! SUPPORT. Rings start, stop and flush (11_host_interface_and_rings.md, R285, R287, R300, R303). -/

namespace Sys2Proof.Machine

section
variable {s t u : State} {ag : Agent} {kind : RingKind} {ring q v l i : Nat} {w : BitVec 32} {e c R Q : Row}

/-! ### Writing a field what it reads -/

/-- Every place of the register store but INT_EN of the admin completion ring reads the same. -/
def ReadsSame (s t : State) : Prop := ∀ Q j, otherRow Q Reg.ADM_CQ_CTL_INT_EN = true → t.rd Q 0 j = s.rd Q 0 j

theorem ReadsSame.refl : ReadsSame s s := fun _ _ _ => rfl

theorem ReadsSame.trans (h : ReadsSame s t) (g : ReadsSame t u) : ReadsSame s u := fun Q j hQ => (g Q j hQ).trans (h Q j hQ)

theorem readsSame_intEn : ReadsSame s (s.wr Reg.ADM_CQ_CTL_INT_EN v) := fun _ _ hQ => State.rd_wr_shared hQ

/-- A field written what it reads, a value of its width, leaves every field. -/
theorem State.rd_wr_self {j : Nat} (hv : s.rd R l i = v) (hfits : v < 2 ^ R.width) : (s.wr R v l i).rd Q 0 j = s.rd Q 0 j := by
  by_cases hi : i < R.n
  · by_cases hkey : Q.key 0 j = R.key l i
    · have hplace : (v % 2 ^ R.width).xor R.reset = Tab.get 0 (R.key l i) s.regs := by
        rw [Nat.mod_eq_of_lt hfits, ← hv, State.rd, Row.get, if_pos hi]
        exact Nat.xor_xor_cancel_right ..
      have hget : Tab.get 0 (Q.key 0 j) (Tab.put 0 (R.key l i) ((v % 2 ^ R.width).xor R.reset) s.regs) = Tab.get 0 (Q.key 0 j) s.regs := by
        rw [hkey, Tab.get_put_self, hplace]
      unfold State.rd State.wr Row.get Row.set
      rw [if_pos hi]
      dsimp only
      rw [hget]
    · exact State.rd_wr_key hkey
  · rw [State.wr_none hi]

theorem readsSame_wr (hv : s.rd R l i = v) (hfits : v < 2 ^ R.width) : ReadsSame s (s.wr R v l i) := fun _ _ _ => State.rd_wr_self hv hfits

/-! ### A control word that changes none of SIZE, LA and OWNER (R287) -/

theorem State.ctlChanges_eq_false (h : s.ctlChanges ag kind ring v = false) : s.rd (ringRows kind).size 0 ring = v % sizeWidth kind ∧
    (kind = .rx → s.rd Reg.HIF_RX_CTL_LA 0 ring = bit v 12) ∧
    (∀ R lim o, ownerAsked ag kind v = some (R, lim, o) → s.rd R 0 ring = o) := by
  unfold State.ctlChanges at h
  simp only [Bool.or_eq_false_iff, bne_eq_false_iff_eq, Bool.and_eq_false_imp, beq_iff_eq] at h
  obtain ⟨⟨hsize, hla⟩, howner⟩ := h
  refine ⟨hsize, hla, fun R lim o ho => ?_⟩
  rw [ho] at howner
  exact bne_eq_false_iff_eq.mp howner

theorem State.ownerFull_of_unchanged (h : s.ctlChanges ag kind ring v = false) : s.ownerFull ag kind ring v = false := by
  obtain ⟨-, -, howner⟩ := State.ctlChanges_eq_false h
  unfold State.ownerFull
  split
  next R lim o ho => rw [howner R lim o ho, bne_self_eq_false]; rfl
  next => rfl

theorem sizeWidth_eq : sizeWidth kind = 2 ^ (ringRows kind).size.width := by cases kind <;> rfl

theorem ownerAsked_lt {lim o : Nat} (h : ownerAsked ag kind v = some (R, lim, o)) : o < 2 ^ R.width := by
  unfold ownerAsked at h
  split at h
  · cases h
  · cases kind <;> cases h <;> exact bits_lt

/-- The fields of a control word that changes none of them are written what they read. -/
theorem State.readsSame_ctlFields (h : s.ctlChanges ag kind ring v = false) : ReadsSame s (s.ctlFields ag kind ring v) := by
  obtain ⟨hsize, hla, howner⟩ := State.ctlChanges_eq_false h
  have hsame : ∀ {R lim o}, ownerAsked ag kind v = some (R, lim, o) → ∀ {t}, (∀ Q j, t.rd Q 0 j = s.rd Q 0 j) →
      ReadsSame t (t.wr R o 0 ring) := fun ho _ ht => readsSame_wr ((ht ..).trans (howner _ _ _ ho)) (ownerAsked_lt ho)
  have h₁ : ∀ Q j, (s.wr (ringRows kind).size (v % sizeWidth kind) 0 ring).rd Q 0 j = s.rd Q 0 j := fun _ _ =>
    State.rd_wr_self hsize (sizeWidth_eq ▸ Nat.mod_lt _ (by rw [sizeWidth_eq]; exact Nat.two_pow_pos _))
  have h₂ : ∀ t : State, (∀ Q j, t.rd Q 0 j = s.rd Q 0 j) → ∀ Q j,
      (if kind = .rx then t.wr Reg.HIF_RX_CTL_LA (bit v 12) 0 ring else t).rd Q 0 j = s.rd Q 0 j := by
    intro t ht Q j
    split
    next hrx => exact (State.rd_wr_self ((ht ..).trans (hla hrx)) bit_lt_two).trans (ht ..)
    next => exact ht ..
  unfold State.ctlFields
  extract_lets s₁ s₂
  have h₁₂ : ∀ Q j, s₂.rd Q 0 j = s.rd Q 0 j := h₂ s₁ h₁
  split
  next ho => exact ReadsSame.trans (fun _ _ _ => h₁₂ ..) (hsame ho h₁₂)
  next => exact fun _ _ _ => h₁₂ ..

/-- The VEC and INT_EN that stand in the admin completion ring's control word (R330). -/
def State.vecFields (s : State) (kind : RingKind) (v : Nat) : State :=
  if kind = .acq then (s.wr Reg.ADM_CQ_CTL_VEC (bits v 22 16)).wr Reg.ADM_CQ_CTL_INT_EN (bit v 23) else s

theorem State.vecFields_ne (h : kind ≠ .acq) : s.vecFields kind v = s := if_neg h

theorem State.readsSame_vecFields (h : kind ≠ .acq ∨ s.rd Reg.ADM_CQ_CTL_VEC = bits v 22 16) : ReadsSame s (s.vecFields kind v) := by
  unfold State.vecFields
  split
  next hacq => exact (readsSame_wr (h.resolve_left fun hne => hne hacq) bits_lt).trans readsSame_intEn
  next => exact .refl

theorem State.startRefused_of_readsSame (h : ReadsSame s t) : t.startRefused kind ring = s.startRefused kind ring := by
  unfold State.startRefused
  cases kind <;>
    simp only [State.ringOwner, State.txOwner, State.isOn, ringRows, h Reg.HIF_TX_BASE_LO _ rfl, h Reg.HIF_RX_BASE_LO _ rfl,
      h Reg.HIF_CQ_BASE_LO _ rfl, h Reg.HIF_EQ_BASE_LO _ rfl, h Reg.ADM_SQ_BASE_LO _ rfl, h Reg.ADM_CQ_BASE_LO _ rfl,
      h Reg.USCH_CT_CTL_OWNER _ rfl, h Reg.HIF_RX_CTL_OWNER _ rfl, h Reg.HIF_CQ_CTL_OWNER _ rfl, h Reg.HIF_EQ_CTL_OWNER _ rfl,
      h Reg.HIF_CQ_CTL_EN _ rfl, h Reg.HIF_TX_CQ _ rfl, h Reg.HIF_RX_CQ _ rfl, h Reg.HIF_CQ_INT_VEC _ rfl, h Reg.HIF_EQ_INT_VEC _ rfl,
      h Reg.ADM_CQ_CTL_CQ_EN _ rfl, h Reg.ADM_CQ_CTL_VEC _ rfl]
  all_goals rfl

/-! ### The branches of a control word -/

theorem State.ringCtl_denied (h : s.mayRing ag kind ring = false) : s.ringCtl ag kind ring v = s := by rw [State.ringCtl, h]; rfl

theorem State.ringCtl_changing (hmay : s.mayRing ag kind ring = true) (hen : s.isOn (ringRows kind).en 0 ring = true)
    (hch : s.ctlChanges ag kind ring v = true) : s.ringCtl ag kind ring v = s.wr Reg.HIF_STATUS_WERR 1 := by
  unfold State.ringCtl
  rw [hmay, hen, hch]
  rfl

theorem State.ringCtl_stops (hmay : s.mayRing ag kind ring = true) (hen : s.isOn (ringRows kind).en 0 ring = true)
    (hch : s.ctlChanges ag kind ring v = false) (hoff : bit v 8 = 0) :
    s.ringCtl ag kind ring v = (s.vecFields kind v).ringStop kind ring := by
  unfold State.ringCtl
  rw [hmay, hen, hch, hoff]
  rfl

theorem State.ringCtl_starts (hmay : s.mayRing ag kind ring = true) (hen : s.isOn (ringRows kind).en 0 ring = false)
    (hch : s.ctlChanges ag kind ring v = false) (hon : bit v 8 = 1) :
    s.ringCtl ag kind ring v = ((s.ctlFields ag kind ring v).vecFields kind v).ringStart kind ring := by
  unfold State.ringCtl
  rw [hmay, hen, State.ownerFull_of_unchanged hch, hon]
  rfl

/-! ### EN from 0 to 1 (R287) -/

/-- EN, PROD and CONS of a ring are fields of their own, one copy for each ring. -/
theorem ringRows_apart : (ringRows kind).prod.n = (ringRows kind).en.n ∧ (ringRows kind).cons.n = (ringRows kind).en.n ∧
    otherRow (ringRows kind).en (ringRows kind).prod = true ∧ otherRow (ringRows kind).en (ringRows kind).cons = true ∧
    otherRow (ringRows kind).prod (ringRows kind).cons = true ∧ (ringRows kind).en.width = 1 := by
  cases kind <;> decide +kernel

/-- EN is set, and PROD and CONS are zero. -/
def RingFresh (kind : RingKind) (ring : Nat) (t : State) : Prop :=
  t.rd (ringRows kind).en 0 ring = 1 ∧ t.rd (ringRows kind).prod 0 ring = 0 ∧ t.rd (ringRows kind).cons 0 ring = 0

theorem ringFresh_wr (hring : ring < (ringRows kind).en.n) :
    RingFresh kind ring (((s.wr (ringRows kind).en 1 0 ring).wr (ringRows kind).prod 0 0 ring).wr (ringRows kind).cons 0 0 ring) := by
  obtain ⟨hprod, hcons, hep, hec, hpc, hw⟩ := ringRows_apart (kind := kind)
  refine ⟨?_, ?_, ?_⟩
  · rw [State.rd_wr_shared hec, State.rd_wr_shared hep, State.rd_wr_same hring, hw]
    rfl
  · rw [State.rd_wr_shared hpc, State.rd_wr_same (hprod ▸ hring), Nat.zero_mod]
  · rw [State.rd_wr_same (hcons ▸ hring), Nat.zero_mod]

/-- A field that is none of EN, PROD and CONS may be written besides. -/
theorem RingFresh.wr (h : RingFresh kind ring t) (he : otherRow (ringRows kind).en R = true) (hp : otherRow (ringRows kind).prod R = true)
    (hc : otherRow (ringRows kind).cons R = true) : RingFresh kind ring (t.wr R v 0 i) := by
  obtain ⟨hen, hprod, hcons⟩ := h
  exact ⟨(State.rd_wr_shared he).trans hen, (State.rd_wr_shared hp).trans hprod, (State.rd_wr_shared hc).trans hcons⟩

/-- A ring that starts is fresh, and a receive ring holds nothing. -/
theorem State.ringStart_fresh (hring : ring < (ringRows kind).en.n) (hok : s.startRefused kind ring = false) :
    RingFresh kind ring (s.ringStart kind ring) ∧ (kind = .rx → ((s.ringStart kind ring).rxr ring).posts = [] ∧
      ((s.ringStart kind ring).rxr ring).fetchIdx = 0 ∧ (s.ringStart kind ring).rd Reg.HIF_RX_HELD 0 ring = 0) := by
  unfold State.ringStart
  rw [hok, if_neg Bool.false_ne_true]
  dsimp only
  have hfresh := ringFresh_wr (s := s.setRingErr kind ring 0 0) hring
  revert hfresh
  generalize ((((s.setRingErr kind ring 0 0).wr (ringRows kind).en 1 0 ring).wr (ringRows kind).prod 0 0 ring).wr
    (ringRows kind).cons 0 0 ring) = t
  intro hfresh
  cases kind with
  | tx => exact ⟨hfresh.wr (R := Reg.HIF_TX_HELD) rfl rfl rfl, nofun⟩
  | rx =>
    refine ⟨hfresh.wr (R := Reg.HIF_RX_HELD) rfl rfl rfl, fun _ => ?_⟩
    rw [State.setRxr_rxr]
    exact ⟨rfl, rfl, State.rd_wr_same hring⟩
  | cq => exact ⟨hfresh.wr (R := Reg.HIF_CQ_SEQ) rfl rfl rfl, nofun⟩
  | eq => exact ⟨hfresh.wr (R := Reg.HIF_EQ_SEQ) rfl rfl rfl, nofun⟩
  | asq => exact ⟨hfresh, nofun⟩
  | acq => exact ⟨hfresh, nofun⟩

/-- A ring whose start is refused stays as it was but for its ERR and ERRCODE. -/
theorem State.ringStart_refused (h : (ringRows kind).err = some (e, c)) (hring : ring < e.n) (hno : s.startRefused kind ring = true) :
    (s.ringStart kind ring).rd (ringRows kind).en 0 ring = s.rd (ringRows kind).en 0 ring ∧
      (s.ringStart kind ring).rd e 0 ring = 1 ∧ (s.ringStart kind ring).rd c 0 ring = 2 := by
  have hstart : s.ringStart kind ring = s.setRingErr kind ring 1 St.invalid := if_pos hno
  rw [hstart]
  refine ⟨?_, State.setRingErr_shows h hring⟩
  have hapart : otherRow (ringRows kind).en e = true ∧ otherRow (ringRows kind).en c = true := by
    cases kind <;> cases h <;> decide +kernel
  rw [State.setRingErr, h]
  exact (State.rd_wr_shared hapart.2).trans (State.rd_wr_shared hapart.1)

/-! ### RING_ENABLE and RING_DISABLE -/

/-- Bit 8 of an enabling word is 1, of a disabling word 0, and the bits above stand. -/
theorem bit_enableWord : bit (v / 512 * 512 + 256 + v % 256) 8 = 1 ∧ bit (v / 512 * 512 + v % 256) 8 = 0 ∧
    bits (v / 512 * 512 + 256 + v % 256) 22 16 = bits v 22 16 := by
  unfold bit bits
  omega

theorem ringEnable_starts (hpath : s.path ag = true) (hmay : s.mayRing ag kind ring = true) (hen : s.isOn (ringRows kind).en 0 ring = false)
    (hring : ring < (ringRows kind).en.n) (hch : s.ctlChanges ag kind ring (w.toNat / 512 * 512 + 256 + w.toNat % 256) = false)
    (hvec : kind ≠ .acq ∨ s.rd Reg.ADM_CQ_CTL_VEC = bits w.toNat 22 16) (hok : s.startRefused kind ring = false) :
    ∃ t, exec (.ringEnable ag kind ring w) s = .next t ∧ t.rd (ringRows kind).en 0 ring = 1 ∧ t.rd (ringRows kind).prod 0 ring = 0 ∧
      t.rd (ringRows kind).cons 0 ring = 0 ∧ (kind = .rx → (t.rxr ring).posts = [] ∧ (t.rxr ring).fetchIdx = 0 ∧
        t.rd Reg.HIF_RX_HELD 0 ring = 0) := by
  obtain ⟨hon, -, hbits⟩ := bit_enableWord (v := w.toNat)
  have hfields := State.readsSame_ctlFields hch
  have hsame := hfields.trans (State.readsSame_vecFields (v := w.toNat / 512 * 512 + 256 + w.toNat % 256)
    (hvec.imp_right fun h => (hfields _ _ rfl).trans (h.trans hbits.symm)))
  refine ⟨_, congrArg Host.Outcome.next ((State.via_runs hpath _).trans (State.ringCtl_starts hmay hen hch hon)), ?_⟩
  obtain ⟨⟨hon, hprod, hcons⟩, hrx⟩ := State.ringStart_fresh hring ((State.startRefused_of_readsSame hsame).trans hok)
  exact ⟨hon, hprod, hcons, hrx⟩

theorem ringEnable_refused (hpath : s.path ag = true) (hmay : s.mayRing ag kind ring = true) (hen : s.isOn (ringRows kind).en 0 ring = false)
    (hring : ring < (ringRows kind).en.n) (hch : s.ctlChanges ag kind ring (w.toNat / 512 * 512 + 256 + w.toNat % 256) = false)
    (hacq : kind ≠ .acq) (herr : (ringRows kind).err = some (e, c)) (hno : s.startRefused kind ring = true) :
    ∃ t, exec (.ringEnable ag kind ring w) s = .next t ∧ t.rd (ringRows kind).en 0 ring = 0 ∧ t.rd e 0 ring = 1 ∧ t.rd c 0 ring = 2 := by
  have hctl := State.ringCtl_starts hmay hen hch bit_enableWord.1
  have hfields := State.readsSame_ctlFields hch
  have hrows : e.n = (ringRows kind).en.n ∧ otherRow (ringRows kind).en Reg.ADM_CQ_CTL_INT_EN = true := by
    cases kind <;> cases herr <;> decide +kernel
  rw [State.vecFields_ne hacq] at hctl
  refine ⟨_, congrArg Host.Outcome.next ((State.via_runs hpath _).trans hctl), ?_⟩
  obtain ⟨hstands, hshow⟩ := State.ringStart_refused herr (hrows.1 ▸ hring) ((State.startRefused_of_readsSame hfields).trans hno)
  have hoff : s.rd (ringRows kind).en 0 ring = 0 := by
    simpa only [State.isOn, ne_eq, decide_not, Bool.not_eq_false', decide_eq_true_eq] using hen
  exact ⟨hstands.trans ((hfields _ _ hrows.2).trans hoff), hshow⟩

theorem ringEnable_changing (hpath : s.path ag = true) (hmay : s.mayRing ag kind ring = true) (hen : s.isOn (ringRows kind).en 0 ring = true)
    (hch : s.ctlChanges ag kind ring (w.toNat / 512 * 512 + 256 + w.toNat % 256) = true) :
    exec (.ringEnable ag kind ring w) s = .next (s.wr Reg.HIF_STATUS_WERR 1) :=
  congrArg Host.Outcome.next ((State.via_runs hpath _).trans (State.ringCtl_changing hmay hen hch))

theorem State.via_ringCtl_bmc (hbmc : ag = .bmc) : s.via ag (fun s => s.ringCtl ag kind ring v) = s := by
  unfold State.via
  split
  · exact State.ringCtl_denied (by rw [hbmc]; rfl)
  · rfl

theorem exec_ringDisable (hpath : s.path ag = true) (hmay : s.mayRing ag kind ring = true) (hen : s.isOn (ringRows kind).en 0 ring = true)
    (hch : s.ctlChanges ag kind ring (w.toNat / 512 * 512 + w.toNat % 256) = false) (hacq : kind ≠ .acq) :
    exec (.ringDisable ag kind ring w) s = .next (s.ringStop kind ring) := by
  have hctl := State.ringCtl_stops hmay hen hch bit_enableWord.2.1
  rw [State.vecFields_ne hacq] at hctl
  exact congrArg Host.Outcome.next ((State.via_runs hpath _).trans hctl)

theorem ringDisable_changing (hpath : s.path ag = true) (hmay : s.mayRing ag kind ring = true) (hen : s.isOn (ringRows kind).en 0 ring = true)
    (hch : s.ctlChanges ag kind ring (w.toNat / 512 * 512 + w.toNat % 256) = true) :
    exec (.ringDisable ag kind ring w) s = .next (s.wr Reg.HIF_STATUS_WERR 1) :=
  congrArg Host.Outcome.next ((State.via_runs hpath _).trans (State.ringCtl_changing hmay hen hch))

theorem State.rxDrop_drops (hring : ring < 4096) : (s.rxDrop ring).rd Reg.HIF_RX_CTL_EN 0 ring = 0 ∧
    (s.rxDrop ring).rd Reg.HIF_RX_HELD 0 ring = 0 ∧ ((s.rxDrop ring).rxr ring).posts = [] := by
  unfold State.rxDrop
  dsimp only
  rw [State.setRxr_rxr]
  exact ⟨(State.rd_wr_shared (R := Reg.HIF_RX_HELD) rfl).trans (State.rd_wr_same hring), State.rd_wr_same hring, rfl⟩

theorem ringDisable_receive (hpath : s.path ag = true) (hmay : s.mayRing ag kind ring = true) (hen : s.isOn (ringRows kind).en 0 ring = true)
    (hch : s.ctlChanges ag kind ring (w.toNat / 512 * 512 + w.toNat % 256) = false) (hrx : kind = .rx) (hring : ring < 4096) :
    ∃ t, exec (.ringDisable ag kind ring w) s = .next t ∧ t.rd Reg.HIF_RX_CTL_EN 0 ring = 0 ∧ t.rd Reg.HIF_RX_HELD 0 ring = 0 ∧
      (t.rxr ring).posts = [] := by
  subst hrx
  exact ⟨_, exec_ringDisable hpath hmay hen hch nofun, State.rxDrop_drops hring⟩

theorem ringDisable_clears_en (hpath : s.path ag = true) (hmay : s.mayRing ag kind ring = true) (hen : s.isOn (ringRows kind).en 0 ring = true)
    (hch : s.ctlChanges ag kind ring (w.toNat / 512 * 512 + w.toNat % 256) = false) (hkind : kind = .eq ∨ kind = .asq)
    (hring : ring < (ringRows kind).en.n) : ∃ t, exec (.ringDisable ag kind ring w) s = .next t ∧ t.rd (ringRows kind).en 0 ring = 0 := by
  refine ⟨_, exec_ringDisable hpath hmay hen hch (by rintro rfl; simp at hkind), ?_⟩
  rcases hkind with rfl | rfl
  · exact State.rd_wr_same hring
  · obtain rfl : ring = 0 := Nat.lt_one_iff.mp hring
    exact State.rd_wr_same hring

theorem ringDisable_completion {b : Bool} (hpath : s.path ag = true) (hmay : s.mayRing ag kind ring = true)
    (hen : s.isOn (ringRows kind).en 0 ring = true) (hch : s.ctlChanges ag kind ring (w.toNat / 512 * 512 + w.toNat % 256) = false)
    (hcq : kind = .cq) (hnamed : s.cqNamed ring = b) :
    exec (.ringDisable ag kind ring w) s = .next (if b then s.wr Reg.HIF_STATUS_WERR 1 else s.wr Reg.HIF_CQ_CTL_EN 0 0 ring) := by
  subst hcq hnamed
  exact exec_ringDisable hpath hmay hen hch nofun

/-! ### FLUSH and FLUSH_DONE (R303) -/

theorem State.foldl_finish_foot (fs : List TxFrame) (s : State) : Foot fp4 s (fs.foldl (fun s f => s.finish q f.didx St.cancelled) s) := by
  induction fs generalizing s with
  | nil => exact Foot.refl
  | cons f fs ih => exact (State.finish_foot ..).trans (ih _)

theorem State.flushStart_starts (hq : q < 8192) {disable : Bool} (hidle : s.isOn Reg.HIF_TX_CTL_FLUSH_BUSY 0 q = false) :
    (s.flushStart q disable).rd Reg.HIF_TX_CTL_FLUSH_BUSY 0 q = 1 ∧
      ((s.flushStart q disable).txq q).flushTo = some (s.rd Reg.HIF_TX_IDX_PROD 0 q) := by
  unfold State.flushStart
  rw [hidle, if_neg Bool.false_ne_true]
  extract_lets p s₁ s₂
  constructor
  · exact ((State.foldl_finish_foot ..).rd_at rfl).trans (((State.unwindWhere_foot ..).rd_at rfl).trans (State.rd_wr_same hq))
  · have hkeeps : KeepsFetch s₁ (((s₂.txq q).frames.filter fun f => f.st == .head).foldl
        (fun s f => s.finish q f.didx St.cancelled) s₂) :=
      keepsFetch_unwindWhere.trans (.foldl fun _ _ => keepsFetch_finish)
    have hto := congrArg (fun x => x.2.2.1) (hkeeps q)
    refine Eq.trans hto ?_
    unfold s₁
    rw [State.setTxq_txq]
    rfl

theorem flush_starts (hpath : s.path ag = true) (hag : ag = .pf ∨ ag.isFw = true ∨ ag = .vf (s.txOwner q)) (hq : q < 8192)
    (hen : s.isOn Reg.HIF_TX_CTL_EN 0 q = true) (hidle : s.isOn Reg.HIF_TX_CTL_FLUSH_BUSY 0 q = false) :
    ∃ t, exec (.flush ag q) s = .next t ∧ t.rd Reg.HIF_TX_CTL_FLUSH_BUSY 0 q = 1 ∧
      (t.txq q).flushTo = some (s.rd Reg.HIF_TX_IDX_PROD 0 q) := by
  have hexec : exec (.flush ag q) s = .next (s.flushStart q false) := by
    refine congrArg Host.Outcome.next ((State.via_runs hpath _).trans ?_)
    cases ag with
    | vf n =>
      obtain h | h | h := hag
      · cases h
      · cases h
      · cases h
        exact if_pos ⟨rfl, hen⟩
    | bmc => obtain h | h | h := hag <;> cases h
    | pf => exact if_pos hen
    | fw m => exact if_pos hen
  exact ⟨_, hexec, State.flushStart_starts hq hidle⟩

theorem flush_of_disabled (hen : s.isOn Reg.HIF_TX_CTL_EN 0 q = false) : exec (.flush ag q) s = .next s := by
  refine congrArg Host.Outcome.next ?_
  unfold State.via
  cases ag <;> simp only [hen, Bool.false_eq_true, and_false, ↓reduceIte, ite_self]

theorem State.hostEvent_txq {k f det detL : Nat} : (s.hostEvent k f det detL).txq q = s.txq q := by
  rw [State.txq, reports_hostEvent.txq, State.txq]

/-- A flush that saw its last descriptor, with no partial chain, ends. -/
theorem State.flushEnd_ends (hq : q < 8192) (hto : (s.txq q).flushTo = some (s.txq q).fetchIdx) (hpart : (s.txq q).part = []) :
    (s.flushEnd q).rd Reg.HIF_TX_CTL_FLUSH_BUSY 0 q = 0 ∧ ((s.flushEnd q).txq q).flushTo = none ∧
      (s.flushEnd q).rd Reg.HIF_TX_CTL_EN 0 q = if (s.txq q).disabling then 0 else s.rd Reg.HIF_TX_CTL_EN 0 q := by
  unfold State.flushEnd
  dsimp only
  rw [if_neg fun h => h.1 hto, hpart]
  dsimp only
  have hrd : ∀ {R : Row} {s : State} {k f det detL : Nat}, keepsRow fp8 R = true → (s.hostEvent k f det detL).rd R 0 q = s.rd R 0 q :=
    fun h => (State.hostEvent_foot ..).rd_at h
  rw [hrd rfl, hrd rfl, State.hostEvent_txq]
  split
  · refine ⟨(State.rd_wr_shared (R := Reg.HIF_TX_CTL_EN) rfl).trans (State.rd_wr_same hq), ?_, State.rd_wr_same hq⟩
    rw [State.wr_txq, State.wr_txq, State.setTxq_txq]
  · refine ⟨State.rd_wr_same hq, ?_, State.rd_wr_shared (R := Reg.HIF_TX_CTL_FLUSH_BUSY) rfl⟩
    rw [State.wr_txq, State.setTxq_txq]

theorem flushDone_without_flush (hnone : (s.txq q).flushTo = none) : exec (.flushDone q) s = .next s := by
  refine congrArg Host.Outcome.next (State.inDom_still ?_)
  exact if_pos ⟨by rw [hnone]; exact nofun, .inl hnone⟩

end

/-- Settles O27: a control word by its branches, a start by the fields it writes what they read, a flush by what unwinding keeps. -/
theorem ringsStartStopAndFlush : Obligations.RingsStartStopAndFlush := by
  unfold Obligations.RingsStartStopAndFlush
  exact ⟨fun _ _ _ _ _ => ringEnable_starts, fun _ _ _ _ _ _ _ => ringEnable_refused, fun _ _ _ _ _ => ringEnable_changing,
    fun _ _ _ _ _ hbmc => congrArg Host.Outcome.next (State.via_ringCtl_bmc hbmc), fun _ _ _ _ _ => ringDisable_receive,
    fun _ _ _ _ _ => ringDisable_clears_en,
    fun _ _ _ _ _ hpath hmay hen hch hcq _ hnamed => ringDisable_completion hpath hmay hen hch hcq hnamed,
    fun _ _ _ _ _ hpath hmay hen hch hcq _ hnamed => ringDisable_completion hpath hmay hen hch hcq hnamed,
    fun _ _ _ _ _ => ringDisable_changing,
    fun _ _ _ _ _ hbmc => congrArg Host.Outcome.next (State.via_ringCtl_bmc hbmc), fun _ _ _ => flush_starts,
    fun _ _ _ => flush_of_disabled, fun _ _ hrun hq hto hpart =>
      ⟨_, congrArg Host.Outcome.next (if_pos hrun), State.flushEnd_ends hq hto hpart⟩,
    fun _ _ => flushDone_without_flush⟩

end Sys2Proof.Machine

/-! SUPPORT. The link lost, resumed and reset; functions reset and configured (11_host_interface_and_rings.md, R278 to R281, R304 to R307). -/

namespace Sys2Proof.Machine

section
variable {s t u : State} {ag : Agent} {f v i rate width : Nat} {item : ConfigItem} {R : Row} {p : Nat → Bool}

theorem State.rd_of_regs {l : Nat} (h : t.regs = s.regs) : t.rd R l i = s.rd R l i := by rw [State.rd, h, State.rd]

theorem State.isOn_false_iff {l : Nat} : s.isOn R l i = false ↔ s.rd R l i = 0 := by
  simp only [State.isOn, ne_eq, decide_not, Bool.not_eq_false', decide_eq_true_eq]

/-! ### Link loss and training (R278, R304) -/

/-- The link lost, with every function's configuration reset and the outstanding reads abandoned. -/
def State.readsLost (s : State) : State :=
  let s := ((s.wr Reg.HIF_LINK_USABLE 0).wr Reg.HIF_LINK_HOLD 1).configReset
  { s with host := { s.host with reads := [], buf := s.host.buf.map fun (b : BufFrame) => { b with replayed := true } } }

theorem State.readsLost_regs : s.readsLost.regs = ((s.wr Reg.HIF_LINK_USABLE 0).wr Reg.HIF_LINK_HOLD 1).configReset.regs := by
  unfold State.readsLost
  dsimp only

theorem State.linkLost_eq : s.linkLost = (if s.readsLost.laLost.mbxLinkLost.isOn Reg.TEV_PTM_STATUS_BUSY then
    s.readsLost.laLost.mbxLinkLost.ptmEnd St.hostLinkLost else s.readsLost.laLost.mbxLinkLost).pfEvent 0 := rfl

/-- The link's own fields, which what a link loss ends does not touch. -/
theorem State.rd_linkLost (hconfig : keepsRow fp190 R = true) (hla : keepsRow fp132 R = true) (hmbx : keepsRow fp95 R = true)
    (hptm : keepsRow fp148 R = true) (hevent : keepsRow fp8 R = true) :
    s.linkLost.rd R = ((s.wr Reg.HIF_LINK_USABLE 0).wr Reg.HIF_LINK_HOLD 1).rd R := by
  have hheld : s.readsLost.laLost.mbxLinkLost.rd R = ((s.wr Reg.HIF_LINK_USABLE 0).wr Reg.HIF_LINK_HOLD 1).rd R :=
    ((State.mbxLinkLost_foot _).rd_at hmbx).trans (((State.laLost_foot _).rd_at hla).trans
      ((State.rd_of_regs (t := s.readsLost) State.readsLost_regs).trans ((State.configReset_foot _).rd_at hconfig)))
  rw [State.linkLost_eq]
  refine ((State.pfEvent_foot ..).rd_at hevent).trans ?_
  split
  · exact ((State.ptmEnd_foot ..).rd_at hptm).trans hheld
  · exact hheld

theorem State.linkLost_shows : s.linkLost.rd Reg.HIF_LINK_USABLE = 0 ∧ s.linkLost.rd Reg.HIF_LINK_HOLD = 1 ∧
    s.linkLost.rd Reg.HIF_LINK_UP = s.rd Reg.HIF_LINK_UP ∧ s.linkLost.rd Reg.HIF_CNT_LINK_DOWNS = s.rd Reg.HIF_CNT_LINK_DOWNS := by
  refine ⟨?_, ?_, ?_, ?_⟩ <;> rw [State.rd_linkLost rfl rfl rfl rfl rfl]
  · exact (State.rd_wr_shared rfl).trans (State.rd_wr_same (by decide))
  · exact State.rd_wr_same (by decide)
  · exact (State.rd_wr_shared rfl).trans (State.rd_wr_shared rfl)
  · exact (State.rd_wr_shared rfl).trans (State.rd_wr_shared rfl)

theorem linkDown_of_up (hup : s.isOn Reg.HIF_LINK_UP = true) : ∃ t, exec .linkDown s = .next t ∧ t.rd Reg.HIF_LINK_UP = 0 ∧
    t.rd Reg.HIF_LINK_USABLE = 0 ∧ t.rd Reg.HIF_LINK_HOLD = 1 ∧ Counted Reg.HIF_CNT_LINK_DOWNS 0 0 1 s t := by
  have hdown : s.linkDown = ((s.wr Reg.HIF_LINK_UP 0).inc Reg.HIF_CNT_LINK_DOWNS).linkLost := if_neg (by rw [hup]; decide)
  obtain ⟨husable, hhold, hup', hcount⟩ := State.linkLost_shows (s := (s.wr Reg.HIF_LINK_UP 0).inc Reg.HIF_CNT_LINK_DOWNS)
  refine ⟨_, congrArg Host.Outcome.next hdown, hup'.trans ?_, husable, hhold, counted_of_rd_after hcount ?_⟩
  · exact (State.rd_inc_shared rfl).trans (State.rd_wr_same (by decide))
  · exact counted_of_rd_before (State.rd_wr_shared rfl) (counted_inc (by decide))

theorem linkDown_of_down (hdown : s.isOn Reg.HIF_LINK_UP = false) : exec .linkDown s = .next s :=
  congrArg Host.Outcome.next (if_pos (by rw [hdown]; rfl))

/-- What training shows before it is known whether the link is in service. -/
def State.trainedAt (s : State) (rate width : Nat) : State :=
  (((s.wr Reg.HIF_LINK_RATE rate).wr Reg.HIF_LINK_WIDTH width).wr Reg.HIF_LINK_UP 1).wr Reg.HIF_FN_STATUS_ENABLED 1 0 0

theorem State.trainedAt_up : (s.trainedAt rate width).rd Reg.HIF_LINK_UP = 1 :=
  (State.rd_wr_shared (R := Reg.HIF_FN_STATUS_ENABLED) rfl).trans (State.rd_wr_same (by decide))

theorem linkTrained_in_service (hrun : s.runs .pcie = true) (hin : linkInService rate width = true) :
    ∃ t, exec (.linkTrained rate width) s = .next t ∧ t.rd Reg.HIF_LINK_UP = 1 ∧ t.rd Reg.HIF_LINK_USABLE = 1 ∧
      t.rd Reg.HIF_LINK_RATE = rate % 2 ^ Reg.HIF_LINK_RATE.width ∧ t.rd Reg.HIF_LINK_WIDTH = width % 2 ^ Reg.HIF_LINK_WIDTH.width := by
  have htrained : s.linkTrained rate width = (s.trainedAt rate width).wr Reg.HIF_LINK_USABLE 1 := if_pos hin
  refine ⟨_, congrArg Host.Outcome.next ((if_pos hrun).trans htrained), (State.rd_wr_shared rfl).trans State.trainedAt_up,
    State.rd_wr_same (by decide), ?_, ?_⟩
  · exact (State.rd_wr_shared rfl).trans ((State.rd_wr_shared (R := Reg.HIF_FN_STATUS_ENABLED) rfl).trans ((State.rd_wr_shared rfl).trans
      ((State.rd_wr_shared rfl).trans (State.rd_wr_same (by decide)))))
  · exact (State.rd_wr_shared rfl).trans ((State.rd_wr_shared (R := Reg.HIF_FN_STATUS_ENABLED) rfl).trans ((State.rd_wr_shared rfl).trans
      (State.rd_wr_same (by decide))))

theorem linkTrained_out_of_service (hrun : s.runs .pcie = true) (hout : linkInService rate width = false) :
    ∃ t, exec (.linkTrained rate width) s = .next t ∧ t.rd Reg.HIF_LINK_UP = 1 ∧ t.rd Reg.HIF_LINK_USABLE = 0 := by
  refine ⟨_, congrArg Host.Outcome.next (if_pos hrun), ?_⟩
  unfold State.linkTrained
  dsimp only
  rw [hout, if_neg Bool.false_ne_true]
  generalize hs₃ : ((((s.wr Reg.HIF_LINK_RATE rate).wr Reg.HIF_LINK_WIDTH width).wr Reg.HIF_LINK_UP 1).wr Reg.HIF_FN_STATUS_ENABLED 1 0 0
    |>.wr Reg.HIF_LINK_USABLE 0).pfEvent 2 (rate % 16 + 16 * (width % 32)) = s₃
  have hup : s₃.rd Reg.HIF_LINK_UP = 1 := by
    rw [← hs₃]
    exact ((State.pfEvent_foot ..).rd_at rfl).trans ((State.rd_wr_shared rfl).trans State.trainedAt_up)
  have husable : s₃.rd Reg.HIF_LINK_USABLE = 0 := by
    rw [← hs₃]
    exact ((State.pfEvent_foot ..).rd_at rfl).trans (State.rd_wr_same (by decide))
  split
  · obtain ⟨hlost, -, hstands, -⟩ := State.linkLost_shows (s := s₃)
    exact ⟨hstands.trans hup, hlost⟩
  · exact ⟨hup, husable⟩

/-! ### RESUME, DISCARD and the hold's end (R305, R306) -/

/-- RESUME after the holds are set: what waited is written and reported, the link's and the functions' own fields kept. -/
theorem State.rd_resumed (hheld : keepsRow fp201 R = true) (hrx : keepsRow fp202 R = true) (hevent : keepsRow fp8 R = true) :
    (((List.range 129).foldl State.resumeRx ((List.range 129).foldl State.resumeHeld s)).pfEvent 1).rd R 0 i = s.rd R 0 i :=
  ((State.pfEvent_foot ..).rd_at hevent).trans ((State.rd_foldl fun x f => (State.resumeRx_foot x f).rd_at hrx).trans
    (State.rd_foldl fun x f => (State.resumeHeld_foot x f).rd_at hheld))

/-- Every function's hold is set exactly where it has no Bus Master Enable; function 0 comes first. -/
theorem State.holdFns_shows :
    ((List.range 129).foldl (fun (s : State) f => s.wr Reg.HIF_FN_STATUS_HOLD (1 - s.rd Reg.HIF_FN_STATUS_BME 0 f) 0 f) s).rd
    Reg.HIF_FN_STATUS_HOLD 0 0 = (1 - s.rd Reg.HIF_FN_STATUS_BME 0 0) % 2 ^ Reg.HIF_FN_STATUS_HOLD.width := by
  have hlater : ∀ (x : State) k, (x.wr Reg.HIF_FN_STATUS_HOLD (1 - x.rd Reg.HIF_FN_STATUS_BME 0 (k + 1)) 0 (k + 1)).rd
      Reg.HIF_FN_STATUS_HOLD 0 0 = x.rd Reg.HIF_FN_STATUS_HOLD 0 0 := fun _ _ => State.rd_wr_otherCopy (by decide) (by simp)
  rw [List.range_succ_eq_map, List.foldl_cons, List.foldl_map, State.rd_foldl hlater]
  exact State.rd_wr_same (by decide)

theorem resume_ends_hold (hreach : s.reach ag = true) (hhold : s.isOn Reg.HIF_LINK_HOLD = true) (hup : s.isOn Reg.HIF_LINK_UP = true)
    (husable : s.isOn Reg.HIF_LINK_USABLE = true) : ∃ t, exec (.resume ag) s = .next t ∧ t.rd Reg.HIF_LINK_HOLD = 0 ∧
      t.rd Reg.HIF_FN_STATUS_HOLD 0 0 = (1 - s.rd Reg.HIF_FN_STATUS_BME 0 0) % 2 ^ Reg.HIF_FN_STATUS_HOLD.width := by
  refine ⟨_, congrArg Host.Outcome.next (if_pos hreach), ?_⟩
  unfold State.resume
  dsimp only
  rw [hhold, hup, husable, if_neg (by decide)]
  rw [State.rd_resumed rfl rfl rfl, State.rd_resumed rfl rfl rfl, State.holdFns_shows, State.rd_wr_shared rfl]
  exact ⟨(State.rd_foldl fun _ _ => State.rd_wr_shared rfl).trans (State.rd_wr_same (by decide)), rfl⟩

theorem State.reg_still {g : State → State} (h : g s = s) : s.reg ag g = s := by
  unfold State.reg
  rw [h, ite_self]

theorem resume_without_hold (hhold : s.isOn Reg.HIF_LINK_HOLD = false) : exec (.resume ag) s = .next s :=
  congrArg Host.Outcome.next (State.reg_still (if_pos (by rw [hhold]; rfl)))

/-- Dropping held state disables the admin submission ring, empties what waits for the completion ring, and leaves the hold's field. -/
theorem State.dropHeld_shows : s.dropHeld.rd Reg.ADM_SQ_CTL_SQ_EN = 0 ∧ s.dropHeld.adm.cqWait = [] ∧
    s.dropHeld.rd Reg.HIF_LINK_HOLD = s.rd Reg.HIF_LINK_HOLD := by
  refine ⟨?_, by unfold State.dropHeld; dsimp only, (State.dropHeld_foot _).rd_at rfl⟩
  exact (State.rd_of_regs (t := s.dropHeld) (s := ((s.dropRings fun _ => true).wr Reg.ADM_SQ_CTL_SQ_EN 0).wr Reg.ADM_CQ_CTL_CQ_EN 0)
    (by unfold State.dropHeld; dsimp only)).trans
    ((State.rd_wr_shared (R := Reg.ADM_CQ_CTL_CQ_EN) rfl).trans (State.rd_wr_same (by decide)))

theorem discard_ends_hold (hreach : s.reach ag = true) (hhold : s.isOn Reg.HIF_LINK_HOLD = true) : ∃ t, exec (.discard ag) s = .next t ∧
    t.rd Reg.HIF_LINK_HOLD = 0 ∧ t.rd Reg.ADM_SQ_CTL_SQ_EN = 0 ∧ t.adm.cqWait = [] := by
  obtain ⟨hsq, hwait, hstands⟩ := State.dropHeld_shows (s := s.wr Reg.HIF_LINK_HOLD 0)
  exact ⟨_, congrArg Host.Outcome.next ((if_pos hreach).trans (if_pos hhold)), hstands.trans (State.rd_wr_same (by decide)), hsq, hwait⟩

theorem discard_without_hold (hhold : s.isOn Reg.HIF_LINK_HOLD = false) : exec (.discard ag) s = .next s :=
  congrArg Host.Outcome.next (State.reg_still (if_neg (by rw [hhold]; decide)))

theorem linkHoldExpired_ends_hold (hhold : s.isOn Reg.HIF_LINK_HOLD = true) : ∃ t, exec .linkHoldExpired s = .next t ∧
    t.rd Reg.HIF_LINK_HOLD = 0 ∧ t.rd Reg.ADM_SQ_CTL_SQ_EN = 0 := by
  obtain ⟨hsq, -, hstands⟩ := State.dropHeld_shows (s := s.wr Reg.HIF_LINK_HOLD 0)
  refine ⟨_, congrArg Host.Outcome.next (if_pos hhold), ?_, ?_⟩
  · exact ((State.pfEvent_foot ..).rd_at rfl).trans (((State.quietOps_foot _).rd_at rfl).trans (hstands.trans (State.rd_wr_same (by decide))))
  · exact ((State.pfEvent_foot ..).rd_at rfl).trans (((State.quietOps_foot _).rd_at rfl).trans hsq)

theorem linkHoldExpired_without_hold (hhold : s.isOn Reg.HIF_LINK_HOLD = false) : exec .linkHoldExpired s = .next s :=
  congrArg Host.Outcome.next (if_neg (by rw [hhold]; decide))

/-! ### Bus Master Enable and function-level reset (R281, R307) -/

theorem State.bmeSet_sets (hf : f ≤ 128) (hoff : s.isOn Reg.HIF_FN_STATUS_BME 0 f = false) :
    (s.bmeSet f).rd Reg.HIF_FN_STATUS_BME 0 f = 1 ∧ (s.bmeSet f).rd Reg.HIF_FN_STATUS_HOLD 0 f = 0 := by
  unfold State.bmeSet
  rw [hoff, if_neg (by simpa using hf)]
  extract_lets held s₁
  have hbme : s₁.rd Reg.HIF_FN_STATUS_BME 0 f = 1 :=
    ((State.pfEvent_foot ..).rd_at rfl).trans ((State.rd_wr_shared rfl).trans (State.rd_wr_same (Nat.lt_succ_of_le hf)))
  have hhold : s₁.rd Reg.HIF_FN_STATUS_HOLD 0 f = 0 := ((State.pfEvent_foot ..).rd_at rfl).trans (State.rd_wr_same (Nat.lt_succ_of_le hf))
  split
  · exact ⟨((State.fnResume_foot ..).rd_at rfl).trans hbme, ((State.fnResume_foot ..).rd_at rfl).trans hhold⟩
  · exact ⟨hbme, hhold⟩

theorem bmeSet_of_set (hon : s.isOn Reg.HIF_FN_STATUS_BME 0 f = true) : exec (.bmeSet f) s = .next s :=
  congrArg Host.Outcome.next (State.inDom_still (if_pos (by rw [hon]; rfl)))

theorem State.mbxFlr_host : (s.mbxFlr f).host = s.host := by
  unfold State.mbxFlr
  dsimp only
  split <;> rfl

/-- A function's configuration is reset: Bus Master Enable and MSI-X enable clear, FLR_BUSY and the error log stand. -/
theorem State.fnConfigReset_shows (hf : f ≤ 128) : (s.fnConfigReset f).rd Reg.HIF_FN_STATUS_BME 0 f = 0 ∧
    Tab.get 0 f (s.fnConfigReset f).host.msixEn = 0 ∧ (s.fnConfigReset f).host.errs = s.host.errs :=
  ⟨(State.rd_of_regs (s := s.wr Reg.HIF_FN_STATUS_BME 0 0 f) rfl).trans (State.rd_wr_same (Nat.lt_succ_of_le hf)),
    Tab.get_put_self 0 f 0 s.host.msixEn, rfl⟩

/-- A VF's reset up to its mailboxes and its configuration: what it holds dropped, its error log emptied. -/
def State.vfDropped (s : State) (f : Nat) : State :=
  let s := (((s.wr Reg.HIF_FN_STATUS_FLR_BUSY 1 0 f).pfEvent 12 f).dropRings fun o => o == f).eraseLookaside fun o => o == f
  { s with host := { s.host with errs := Tab.put [] f [] s.host.errs, errPop := Tab.put [] f [] s.host.errPop,
                                 rsel := Tab.put 0 f 0 s.host.rsel } }

theorem State.vfDropped_shows (hf : f ≤ 128) : (s.vfDropped f).rd Reg.HIF_FN_STATUS_FLR_BUSY 0 f = 1 ∧
    Tab.get [] f (s.vfDropped f).host.errs = [] := by
  refine ⟨(State.rd_of_regs (t := s.vfDropped f) (s := (((s.wr Reg.HIF_FN_STATUS_FLR_BUSY 1 0 f).pfEvent 12 f).dropRings
    fun o => o == f).eraseLookaside fun o => o == f) (by unfold State.vfDropped; dsimp only)).trans
    (((State.eraseLookaside_foot ..).rd_at rfl).trans (((State.dropRings_foot ..).rd_at rfl).trans
    (((State.pfEvent_foot ..).rd_at rfl).trans (State.rd_wr_same (Nat.lt_succ_of_le hf))))), ?_⟩
  unfold State.vfDropped
  dsimp only
  exact Tab.get_put_self [] f [] _

theorem State.vfFlr_eq (hpos : 1 ≤ f) (hf : f ≤ 128) : s.vfFlr f = ((s.vfDropped f).mbxFlr f).fnConfigReset f :=
  if_neg (by simp only [Bool.or_eq_true, decide_eq_true_eq]; omega)

theorem vfFlr_resets (hrun : s.runs .pcie = true) (hpos : 1 ≤ f) (hf : f ≤ 128) : ∃ t, exec (.vfFlr f) s = .next t ∧
    t.rd Reg.HIF_FN_STATUS_FLR_BUSY 0 f = 1 ∧ t.rd Reg.HIF_FN_STATUS_BME 0 f = 0 ∧ Tab.get [] f t.host.errs = [] ∧
      Tab.get 0 f t.host.msixEn = 0 := by
  refine ⟨s.vfFlr f, congrArg Host.Outcome.next (if_pos hrun), ?_⟩
  rw [State.vfFlr_eq hpos hf]
  obtain ⟨hbme, hmsix, herrs⟩ := State.fnConfigReset_shows (s := (s.vfDropped f).mbxFlr f) hf
  refine ⟨?_, hbme, ?_, hmsix⟩
  · exact ((State.fnConfigReset_foot ..).rd_at rfl).trans (((State.mbxFlr_foot ..).rd_at rfl).trans (State.vfDropped_shows hf).1)
  · rw [herrs, State.mbxFlr_host]
    exact (State.vfDropped_shows hf).2

theorem vfFlr_of_no_vf (hf : f = 0 ∨ 128 < f) : exec (.vfFlr f) s = .next s :=
  congrArg Host.Outcome.next (State.inDom_still (if_pos (by simpa using hf)))

/-- A reset of every function's configuration clears the PF's Bus Master Enable, and keeps fields that are not of the configuration. -/
theorem State.resetFns_bme : ((List.range 129).foldl (fun s f => (s.mbxFlr f).fnConfigReset f) s).rd Reg.HIF_FN_STATUS_BME 0 0 = 0 := by
  have hlater : ∀ (x : State) k, ((x.mbxFlr (k + 1)).fnConfigReset (k + 1)).rd Reg.HIF_FN_STATUS_BME 0 0 = x.rd Reg.HIF_FN_STATUS_BME 0 0 :=
    fun x k => (State.rd_of_regs (s := (x.mbxFlr (k + 1)).wr Reg.HIF_FN_STATUS_BME 0 0 (k + 1)) rfl).trans
      ((State.rd_wr_otherCopy (by decide) (by simp)).trans ((State.mbxFlr_foot ..).rd_at rfl))
  rw [List.range_succ_eq_map, List.foldl_cons, List.foldl_map, State.rd_foldl hlater]
  exact (State.fnConfigReset_shows (Nat.zero_le _)).1

theorem State.rd_resetFns (hmbx : keepsRow fp94 R = true) (hconfig : keepsRow fp208 R = true) :
    ((List.range 129).foldl (fun s f => (s.mbxFlr f).fnConfigReset f) s).rd R 0 i = s.rd R 0 i :=
  State.rd_foldl fun _ _ => ((State.fnConfigReset_foot ..).rd_at hconfig).trans ((State.mbxFlr_foot ..).rd_at hmbx)

/-- The PF's reset up to the functions' mailboxes and configurations: all held state dropped. -/
def State.pfDropped (s : State) : State :=
  ((s.wr Reg.HIF_FN_STATUS_FLR_BUSY 1 0 0).pfEvent 12 0).dropHeld.quietOps.eraseLookaside fun _ => true

theorem State.pfDropped_shows : s.pfDropped.rd Reg.HIF_FN_STATUS_FLR_BUSY 0 0 = 1 ∧ s.pfDropped.rd Reg.ADM_SQ_CTL_SQ_EN = 0 := by
  have hfoot : ∀ {R : Row}, keepsRow fp105 R = true → keepsRow fp196 R = true →
      s.pfDropped.rd R = ((s.wr Reg.HIF_FN_STATUS_FLR_BUSY 1 0 0).pfEvent 12 0).dropHeld.rd R := fun h₁ h₂ =>
    ((State.eraseLookaside_foot ..).rd_at h₁).trans ((State.quietOps_foot _).rd_at h₂)
  refine ⟨(hfoot rfl rfl).trans (((State.dropHeld_foot _).rd_at rfl).trans (((State.pfEvent_foot ..).rd_at rfl).trans ?_)),
    (hfoot rfl rfl).trans State.dropHeld_shows.1⟩
  exact State.rd_wr_same (by decide)

/-- The PF's reset before PTM is off. -/
def State.pfReset (s : State) : State := ((List.range 129).foldl (fun s f => (s.mbxFlr f).fnConfigReset f) s.pfDropped).vfsOff

theorem State.pfFlr_resets : s.pfFlr.rd Reg.HIF_FN_STATUS_FLR_BUSY 0 0 = 1 ∧ s.pfFlr.rd Reg.HIF_FN_STATUS_BME 0 0 = 0 ∧
    s.pfFlr.rd Reg.ADM_SQ_CTL_SQ_EN = 0 ∧ s.pfFlr.tev.ptmOn = false := by
  have hpart : ∀ {R : Row}, s.pfFlr.rd R = s.pfReset.rd R :=
    State.rd_of_regs (t := s.pfFlr) (s := s.pfReset) (by unfold State.pfFlr State.pfReset; dsimp only; rfl)
  obtain ⟨hbusy, hsq⟩ := State.pfDropped_shows (s := s)
  refine ⟨?_, ?_, ?_, rfl⟩ <;> rw [hpart]
  · exact ((State.vfsOff_foot _).rd_at rfl).trans ((State.rd_resetFns rfl rfl).trans hbusy)
  · exact ((State.vfsOff_foot _).rd_at rfl).trans State.resetFns_bme
  · exact ((State.vfsOff_foot _).rd_at rfl).trans ((State.rd_resetFns rfl rfl).trans hsq)

theorem flrDone_ends (hrun : s.runs .pcie = true) (hf : f ≤ 128) (hbusy : s.isOn Reg.HIF_FN_STATUS_FLR_BUSY 0 f = true) :
    ∃ t, exec (.flrDone f) s = .next t ∧ t.rd Reg.HIF_FN_STATUS_FLR_BUSY 0 f = 0 ∧ Counted Reg.HIF_CNT_FLRS 0 0 1 s t := by
  refine ⟨_, congrArg Host.Outcome.next ((if_pos hrun).trans (if_pos hbusy)), ?_, ?_⟩
  · exact ((State.pfEvent_foot ..).rd_at rfl).trans ((State.rd_inc_shared rfl).trans (State.rd_wr_same (Nat.lt_succ_of_le hf)))
  · exact counted_of_foot_after (State.pfEvent_foot ..) rfl (counted_of_rd_before (State.rd_wr_shared rfl) (counted_inc (by decide)))

theorem flrDone_without_flr (hidle : s.isOn Reg.HIF_FN_STATUS_FLR_BUSY 0 f = false) : exec (.flrDone f) s = .next s :=
  congrArg Host.Outcome.next (State.inDom_still (if_neg (by rw [hidle]; decide)))

/-! ### Configuration writes (R278, R279, R281) -/

theorem exec_configurationWrite (hrun : s.runs .pcie = true) (item : ConfigItem) :
    exec (.configurationWrite f item v) s = .next ((s.fcTake 0 0 1 1).configWrite f item v) := congrArg Host.Outcome.next (if_pos hrun)

theorem State.configWrite_bme_off (hf : f ≤ 128) : (s.configWrite f .busMasterEnable 0).rd Reg.HIF_FN_STATUS_BME 0 f = 0 := by
  unfold State.configWrite
  rw [if_neg (Nat.not_lt.mpr hf)]
  dsimp only
  rw [if_neg (fun h => h rfl)]
  split
  · exact ((State.pfEvent_foot ..).rd_at rfl).trans (((State.pfEvent_foot ..).rd_at rfl).trans (State.rd_wr_same (Nat.lt_succ_of_le hf)))
  next hoff => exact State.isOn_false_iff.mp (Bool.eq_false_of_not_eq_true hoff)

theorem State.configWrite_bme_on (hf : f ≤ 128) (hv : v ≠ 0) : s.configWrite f .busMasterEnable v = s.bmeSet f :=
  (if_neg (Nat.not_lt.mpr hf)).trans (if_pos hv)

theorem State.configWrite_msixEnable (hf : f ≤ 128) : Tab.get 0 f (s.configWrite f .msixEnable v).host.msixEn = b2n (v ≠ 0) := by
  unfold State.configWrite
  rw [if_neg (Nat.not_lt.mpr hf)]
  dsimp only
  split
  next hsame => exact hsame
  next =>
    rw [reports_pfEvent.msixEn, (State.msixFlushAll_foot ..).host rfl]
    exact Tab.get_put_self ..

theorem State.configWrite_vfEnable (hpos : 1 ≤ f) (hf : f ≤ 128) :
    (s.configWrite f .vfEnable v).rd Reg.HIF_FN_STATUS_ENABLED 0 f = b2n (v ≠ 0) := by
  have hvf : (s.vfEnable f v).rd Reg.HIF_FN_STATUS_ENABLED 0 f = b2n (v ≠ 0) := by
    unfold State.vfEnable
    rw [if_neg (Nat.one_le_iff_ne_zero.mp hpos), State.rd_wr_same (Nat.lt_succ_of_le hf)]
    cases decide (v ≠ 0) <;> rfl
  unfold State.configWrite
  rw [if_neg (Nat.not_lt.mpr hf)]
  dsimp only
  split
  next hsame => exact hsame ▸ hvf
  next => exact ((State.pfEvent_foot ..).rd_at rfl).trans hvf

theorem State.configWrite_powerState (hf : f ≤ 128) (hv : v % 4 = 0 ∨ v % 4 = 3) :
    (s.configWrite f .powerState v).cfg f Cfg.d3hot = v % 4 ∧ (s.configWrite f .powerState v).regs = s.regs := by
  have hset : s.configWrite f .powerState v = s.setCfg f Cfg.d3hot (v % 4) := (if_neg (Nat.not_lt.mpr hf)).trans (if_pos hv)
  rw [hset]
  refine ⟨?_, rfl⟩
  unfold State.cfg State.setCfg
  rw [Tab.get_put_self]
  exact Nat.xor_xor_cancel_right ..

end

/-- Settles O29: the link by what its loss keeps, the holds by folding over the functions, a configuration write by its item. -/
theorem theLinkIsLostResumedAndReset : Obligations.TheLinkIsLostResumedAndReset := by
  unfold Obligations.TheLinkIsLostResumedAndReset
  refine ⟨fun _ => linkDown_of_up, fun _ => linkDown_of_down, fun _ _ _ => linkTrained_in_service, fun _ _ _ => linkTrained_out_of_service,
    fun _ _ => resume_ends_hold, fun _ _ => resume_without_hold, fun _ _ => discard_ends_hold, fun _ _ => discard_without_hold,
    fun _ => linkHoldExpired_ends_hold, fun _ => linkHoldExpired_without_hold,
    fun _ _ hrun hf hoff => ⟨_, congrArg Host.Outcome.next (if_pos hrun), State.bmeSet_sets hf hoff⟩, fun _ _ => bmeSet_of_set,
    fun _ _ => vfFlr_resets, fun _ _ => vfFlr_of_no_vf, fun _ hrun => ⟨_, congrArg Host.Outcome.next (if_pos hrun), State.pfFlr_resets⟩,
    fun _ _ => flrDone_ends, fun _ _ => flrDone_without_flr, ?_, ?_, ?_, ?_, ?_, ?_, ?_, ?_,
    fun _ _ _ hrun => congrArg Host.Outcome.next (if_pos hrun)⟩
  · rintro f _ _ s hrun hf rfl rfl
    exact ⟨_, exec_configurationWrite hrun _, State.configWrite_bme_off hf⟩
  · rintro f _ v s hrun hf rfl hv hoff
    refine ⟨_, exec_configurationWrite hrun _, ?_⟩
    rw [State.configWrite_bme_on hf hv]
    exact (State.bmeSet_sets (s := s.fcTake 0 0 1 1) hf hoff).1
  · rintro f _ v s hrun hf rfl
    refine ⟨_, exec_configurationWrite hrun _, ?_⟩
    have hset : (s.fcTake 0 0 1 1).configWrite f .relaxedOrdering v = _ := if_neg (Nat.not_lt.mpr hf)
    rw [hset]
    exact ⟨Tab.get_put_self .., rfl⟩
  · rintro f _ v s hrun hf rfl
    exact ⟨_, exec_configurationWrite hrun _, State.configWrite_msixEnable hf⟩
  · rintro _ _ v s hrun rfl rfl
    exact ⟨_, exec_configurationWrite hrun _, rfl, rfl⟩
  · rintro f _ v s hrun hf rfl hv
    exact ⟨_, exec_configurationWrite hrun _, State.configWrite_powerState hf hv⟩
  · rintro f _ v s hrun hpos hf rfl
    exact ⟨_, exec_configurationWrite hrun _, State.configWrite_vfEnable hpos hf⟩
  · rintro f item v s hrun hf
    exact (exec_configurationWrite hrun item).trans (congrArg Host.Outcome.next (if_pos hf))

end Sys2Proof.Machine

/-! SUPPORT. The cold start and the power states: idle, PERST#, the BMC's request, wake sources, deep sleep (14_power_clocks_reset.md,
R366 to R368, R374 to R385). -/

namespace Sys2Proof.Machine

section
variable {s t u : State} {ag : Agent} {n v i l cause code wake ticks : Nat} {leg : Leg} {R : Row} {b : BootInput} {target : Option Nat}

/-! ### What the levels and the settling of a leg leave of the power state -/

@[simp] theorem State.withAlert_pwr : (s.withAlert t).pwr = t.pwr := by
  rcases State.withAlert_cases (s := s) (t := t) with h | h <;> simp only [h, State.emit_pwr]

/-- The levels outside, which no event of the machine sets. -/
def PwrSt.levels (w : PwrSt) : Bool × BootInput := (w.held, w.bootIn)

theorem State.settleDef_levels : (s.settleDef leg).pwr.levels = s.pwr.levels := by
  unfold State.settleDef
  extract_lets s₁ s₂ s₃
  have h₂ : s₂.pwr = s.pwr := ((State.settleSluice_foot _).pwr rfl).trans (((State.settleAvail_foot ..).pwr rfl).trans
    (((State.settlePm_foot ..).pwr rfl).trans ((State.settleLatches_foot ..).pwr rfl)))
  have h₃ : s₃.pwr.levels = s.pwr.levels := by
    rw [← h₂]
    unfold s₃
    split
    · unfold State.wakeCause
      split <;> rfl
    · rfl
  exact (congrArg PwrSt.levels (((State.settleProt_foot _).pwr rfl).trans (((State.settleTime_foot _).pwr rfl).trans
    ((State.settleSet_foot ..).pwr rfl)))).trans h₃

theorem State.startLegs_levels : s.startLegs.pwr.levels = s.pwr.levels := by
  unfold State.startLegs
  exact State.settleDef_levels.trans (State.settleDef_levels.trans (congrArg PwrSt.levels
    (((State.settleLanes_foot ..).pwr rfl).trans ((State.settleLanes_foot ..).pwr rfl))))

/-! ### The cold reset (R380, R385) -/

/-- A cold reset leaves a field at its reset value, where it is none of the levels outside. -/
theorem State.cleared_rd (hpin : (pinRows.any fun Q => Row.covers Q (R.key l i)) = false) : s.cleared.rd R l i = R.reset := by
  unfold State.cleared State.rd Row.get
  rw [State.withAlert_regs]
  split
  · dsimp only
    rw [Tab.get_filter_of_dropped 0 _ (fun _ => hpin)]
    exact Nat.zero_xor _
  · rfl

/-- The start of the machine with its cause, before the wake code and the sequence of R385. -/
def State.coldBegun (s : State) (cause : Nat) : State :=
  let s := ((s.tearFlash.cleared.startLegs).pmAcquire .a).pmAcquire .b
  { s with pwr := { s.pwr with poweredOnce := true, brownCell := false } }.wr Reg.PWR_RST_CAUSE cause

/-- A cold start without a brown-out reports its own cause and wake code. -/
theorem State.coldStart_eq (hclean : s.pwr.brownCell = false) :
    s.coldStart cause wake = (if wake = 0 then s.coldBegun cause else (s.coldBegun cause).recordWake wake).bootUp := by
  unfold State.coldStart State.coldBegun
  rw [hclean]
  rfl

/-- A cold start after a brown-out reports that. -/
theorem State.coldStart_eq_brown (hbrown : s.pwr.brownCell = true) : s.coldStart cause wake =
    (((((s.coldBegun 2).wr Reg.PWR_STATUS_BROWN_OUT 1).inc Reg.PWR_CNT_BROWN_OUTS).event (Ev.pwr 7)).recordWake 12).bootUp := by
  unfold State.coldStart State.coldBegun
  rw [hbrown]
  rfl

theorem State.coldBegun_cause (hcause : cause < 16) : (s.coldBegun cause).rd Reg.PWR_RST_CAUSE = cause :=
  (State.rd_wr_same (by decide)).trans (Nat.mod_eq_of_lt hcause)

/-- Fields that the start of the legs and of their monitoring does not reach are at their reset values. -/
theorem State.coldBegun_rd (hpin : (pinRows.any fun Q => Row.covers Q (R.key 0 0)) = false) (hcause : otherRow R Reg.PWR_RST_CAUSE = true)
    (hlegs : keepsRow fp319 R = true) (hpm : keepsRow fp305 R = true) : (s.coldBegun cause).rd R = R.reset :=
  (State.rd_wr_shared hcause).trans (((State.pmAcquire_foot ..).rd_at hpm).trans (((State.pmAcquire_foot ..).rd_at hpm).trans
    (((State.startLegs_foot _).rd_at hlegs).trans (State.cleared_rd hpin))))

theorem State.coldBegun_levels : (s.coldBegun cause).pwr.levels = s.pwr.levels := by
  have hbegun : (s.coldBegun cause).pwr.levels = (((s.tearFlash.cleared.startLegs).pmAcquire .a).pmAcquire .b).pwr.levels := rfl
  rw [hbegun, (State.pmAcquire_foot ..).pwr rfl, (State.pmAcquire_foot ..).pwr rfl, State.startLegs_levels]
  unfold State.cleared
  rw [State.withAlert_pwr, ← (State.tearFlash_foot s).pwr rfl]
  rfl

theorem State.recordWake_shows (hcode : code < 16) : (s.recordWake code).rd Reg.PWR_STATUS_LAST_WAKE = code :=
  ((State.event_foot ..).rd_at rfl).trans ((State.rd_wr_same (by decide)).trans (Nat.mod_eq_of_lt hcode))

/-- Hardware's sequence once REF is there: its presence shows, and the fuses and flash are read. -/
theorem State.bootUp_shows (href : s.pwr.bootIn.refOk = true) : s.bootUp.rd Reg.PWR_STATUS_REF_OK = 1 ∧ s.bootUp.pwr.bootWait = false ∧
    s.bootUp.pwr.held = s.pwr.held := by
  unfold State.bootUp
  dsimp only
  rw [href, if_neg (by decide)]
  generalize hs : ({ s with pwr := { s.pwr with bootWait := !true } } : State).wr Reg.PWR_STATUS_REF_OK 1 = s₁
  have href₁ : s₁.rd Reg.PWR_STATUS_REF_OK = 1 := by rw [← hs]; exact State.rd_wr_same (by decide)
  have hpwr₁ : s₁.pwr.bootWait = false ∧ s₁.pwr.held = s.pwr.held := by rw [← hs]; exact ⟨rfl, rfl⟩
  rw [← hpwr₁.1, ← hpwr₁.2, ← href₁]
  generalize hs : (s₁.wr Reg.FW_LC_MARGIN_LOW (b2n s.pwr.bootIn.marginLow)).settleLc = s₂
  have h₂ : s₂.rd Reg.PWR_STATUS_REF_OK = s₁.rd Reg.PWR_STATUS_REF_OK ∧ s₂.pwr = s₁.pwr := by
    rw [← hs]
    exact ⟨((State.settleLc_foot _).rd_at rfl).trans (State.rd_wr_shared rfl), (State.settleLc_foot _).pwr rfl⟩
  generalize hs : (if s.pwr.bootIn.marginLow = true then s₂.replaceRequest 5 else s₂) = s₃
  have h₃ : s₃.rd Reg.PWR_STATUS_REF_OK = s₁.rd Reg.PWR_STATUS_REF_OK ∧ s₃.pwr = s₁.pwr := by
    rw [← hs]
    split
    · exact ⟨((State.replaceRequest_foot ..).rd_at rfl).trans h₂.1, ((State.replaceRequest_foot ..).pwr rfl).trans h₂.2⟩
    · exact h₂
  generalize hs : (if s.pwr.bootIn.fuseEcc = true then s₃.event (Ev.mem 14) else s₃) = s₄
  have h₄ : s₄.rd Reg.PWR_STATUS_REF_OK = s₁.rd Reg.PWR_STATUS_REF_OK ∧ s₄.pwr = s₁.pwr := by
    rw [← hs]
    split
    · exact ⟨((State.event_foot ..).rd_at rfl).trans h₃.1, ((State.event_foot ..).pwr rfl).trans h₃.2⟩
    · exact h₃
  rw [((State.release_foot s₄).pwr rfl).trans h₄.2]
  exact ⟨((State.release_foot _).rd_at rfl).trans h₄.1, rfl, rfl⟩

theorem State.coldStart_cause (hclean : s.pwr.brownCell = false) (hcause : cause < 16) :
    (s.coldStart cause wake).rd Reg.PWR_RST_CAUSE = cause := by
  rw [State.coldStart_eq hclean]
  refine ((State.bootUp_foot _).rd_at rfl).trans ?_
  split
  · exact State.coldBegun_cause hcause
  · exact ((State.recordWake_foot ..).rd_at rfl).trans (State.coldBegun_cause hcause)

theorem State.coldStart_wake (hclean : s.pwr.brownCell = false) (hpos : wake ≠ 0) (hwake : wake < 16) :
    (s.coldStart cause wake).rd Reg.PWR_STATUS_LAST_WAKE = wake := by
  rw [State.coldStart_eq hclean, if_neg hpos]
  exact ((State.bootUp_foot _).rd_at rfl).trans (State.recordWake_shows hwake)

/-- Firmware is absent once the part has started. -/
theorem State.coldStart_absent : (s.coldStart cause wake).rd Reg.ADM_STATUS_FW_PRESENT = 0 := by
  have hbegun : ∀ c, (s.coldBegun c).rd Reg.ADM_STATUS_FW_PRESENT = 0 := fun _ => State.coldBegun_rd (by decide +kernel) rfl rfl rfl
  cases hcell : s.pwr.brownCell
  · rw [State.coldStart_eq hcell]
    refine ((State.bootUp_foot _).rd_at rfl).trans ?_
    split
    · exact hbegun _
    · exact ((State.recordWake_foot ..).rd_at rfl).trans (hbegun _)
  · rw [State.coldStart_eq_brown hcell]
    exact ((State.bootUp_foot _).rd_at rfl).trans (((State.recordWake_foot ..).rd_at rfl).trans (((State.event_foot ..).rd_at rfl).trans
      ((State.rd_inc_shared rfl).trans ((State.rd_wr_shared rfl).trans (hbegun _)))))

/-! ### Idle (R366) -/

theorem idleEnter_enters (hrun : s.rd Reg.PWR_STATUS_STATE = 0) (hen : s.isOn Reg.PWR_CTL_IDLE_EN = true) (hready : s.idleReady = true) :
    ∃ t, exec .idleEnter s = .next t ∧ t.rd Reg.PWR_STATUS_STATE = 1 ∧ Counted Reg.PWR_CNT_IDLE_ENTRIES 0 0 1 s t := by
  have henter : s.idleEnter = ((s.setPower 1).inc Reg.PWR_CNT_IDLE_ENTRIES).event (Ev.pwr 1) :=
    if_neg (by rw [hrun, hen, hready]; decide)
  refine ⟨_, congrArg Host.Outcome.next henter, ?_, ?_⟩
  · exact ((State.event_foot ..).rd_at rfl).trans ((State.rd_inc_shared rfl).trans (State.setPower_state (by decide)))
  · exact counted_of_foot_after (State.event_foot ..) rfl (counted_of_foot_before (State.setPower_foot ..) rfl (counted_inc (by decide)))

theorem idleEnter_unready (hready : s.idleReady = false) : exec .idleEnter s = .next s :=
  congrArg Host.Outcome.next (if_pos (by rw [hready]; simp))

/-! ### PERST# (R383, R384) -/

/-- The link lost, what is held dropped, and every function's mailboxes and configuration reset. -/
def State.perstReset (s : State) : State :=
  let s := (((((s.wr Reg.PWR_STATUS_PERST 1).event (Ev.pwr 11)).linkDown.wr Reg.HIF_LINK_HOLD 0).dropHeld.quietOps).eraseLookaside
    fun _ => true)
  ((List.range 129).foldl (fun s f => (s.mbxFlr f).fnConfigReset f) s).vfsOff

/-- The cause of the move that PERST# brings. -/
def State.perstMoves (s : State) : State :=
  let s := { s with tev := { s.tev with ptmOn := false } }
  { s with pwr := { s.pwr with cause := if s.pwr.cause = 2 then 2 else 1 } }

theorem State.perstMoves_rd : s.perstMoves.rd R l i = s.rd R l i := rfl

theorem State.perstAssert_eq (hhigh : s.isOn Reg.PWR_STATUS_PERST = false) : s.perstAssert = s.perstReset.perstMoves.move := by
  unfold State.perstAssert State.perstMoves State.perstReset
  rw [hhigh, if_neg Bool.false_ne_true]

/-- A link that goes down, or was down, is not up. -/
theorem State.linkDown_up : s.linkDown.rd Reg.HIF_LINK_UP = 0 := by
  unfold State.linkDown
  split
  next hdown => exact State.isOn_false_iff.mp (by simpa using hdown)
  next => exact State.linkLost_shows.2.2.1.trans ((State.rd_inc_shared rfl).trans (State.rd_wr_same (by decide)))

theorem State.rd_perstReset (hvfs : keepsRow fp189 R = true) (hmbx : keepsRow fp94 R = true) (hconfig : keepsRow fp208 R = true)
    (herase : keepsRow fp105 R = true) (hquiet : keepsRow fp196 R = true) (hdrop : keepsRow fp195 R = true) :
    s.perstReset.rd R = (((s.wr Reg.PWR_STATUS_PERST 1).event (Ev.pwr 11)).linkDown.wr Reg.HIF_LINK_HOLD 0).rd R :=
  ((State.vfsOff_foot _).rd_at hvfs).trans ((State.rd_resetFns hmbx hconfig).trans (((State.eraseLookaside_foot ..).rd_at herase).trans
    (((State.quietOps_foot _).rd_at hquiet).trans ((State.dropHeld_foot _).rd_at hdrop))))

theorem perstAssert_shows (hhigh : s.isOn Reg.PWR_STATUS_PERST = false) : ∃ t, exec .perstAssert s = .next t ∧
    t.rd Reg.PWR_STATUS_PERST = 1 ∧ t.rd Reg.HIF_LINK_UP = 0 ∧ t.rd Reg.HIF_LINK_HOLD = 0 ∧ t.tev.ptmOn = false := by
  refine ⟨_, congrArg Host.Outcome.next (State.perstAssert_eq hhigh), ?_, ?_, ?_, ?_⟩
  · refine ((State.move_foot _).rd_at rfl).trans (State.perstMoves_rd.trans ((State.rd_perstReset rfl rfl rfl rfl rfl rfl).trans
      ((State.rd_wr_shared rfl).trans (((State.linkDown_foot _).rd_at rfl).trans (((State.event_foot ..).rd_at rfl).trans ?_)))))
    exact State.rd_wr_same (by decide)
  · exact ((State.move_foot _).rd_at rfl).trans (State.perstMoves_rd.trans ((State.rd_perstReset rfl rfl rfl rfl rfl rfl).trans
      ((State.rd_wr_shared rfl).trans State.linkDown_up)))
  · refine ((State.move_foot _).rd_at rfl).trans (State.perstMoves_rd.trans ((State.rd_perstReset rfl rfl rfl rfl rfl rfl).trans ?_))
    exact State.rd_wr_same (by decide)
  · rw [(State.move_foot _).tev rfl]
    rfl

theorem perstAssert_of_asserted (hlow : s.isOn Reg.PWR_STATUS_PERST = true) : exec .perstAssert s = .next s :=
  congrArg Host.Outcome.next (if_pos hlow)

theorem perstDeassert_shows (hlow : s.isOn Reg.PWR_STATUS_PERST = true) : ∃ t, exec .perstDeassert s = .next t ∧
    t.rd Reg.PWR_STATUS_PERST = 0 := by
  refine ⟨_, congrArg Host.Outcome.next (if_neg (by rw [hlow]; decide)), ?_⟩
  refine ((State.wakeCause_foot ..).rd_at rfl).trans (((State.event_foot ..).rd_at rfl).trans ?_)
  exact State.rd_wr_same (by decide)

theorem perstDeassert_of_deasserted (hhigh : s.isOn Reg.PWR_STATUS_PERST = false) : exec .perstDeassert s = .next s :=
  congrArg Host.Outcome.next (if_pos (by rw [hhigh]; rfl))

/-! ### The BMC's request (R368) -/

theorem State.sleepOn_cause {mode : Nat} : (s.sleepOn leg mode).pwr.cause = s.pwr.cause := by
  unfold State.sleepOn
  split <;> rfl

theorem State.move_cause : s.move.pwr.cause = s.pwr.cause := by
  unfold State.move
  dsimp only
  split
  · rfl
  · split
    · unfold State.askSleep
      dsimp only
      split
      · rfl
      · rw [State.sleepOn_cause, State.sleepOn_cause]
    · rfl

theorem bmcPowerRequest_taken (hrun : s.runs .side = true) (hpresent : s.fwPresent = true) (htarget : target = some n) (hn : n < 4) :
    ∃ t, exec (.bmcPowerRequest target) s = .next t ∧ t.rd Reg.PWR_CTL_TARGET = n ∧ t.pwr.cause = 2 := by
  subst htarget
  refine ⟨_, congrArg Host.Outcome.next ((if_pos hrun).trans (if_pos hpresent)), ?_, ?_⟩
  · refine ((State.move_foot _).rd_at rfl).trans (((State.linkDown_foot _).rd_at rfl).trans ?_)
    exact (State.rd_wr_same (by decide)).trans (Nat.mod_eq_of_lt hn)
  · exact State.move_cause.trans (congrArg PwrSt.cause ((State.linkDown_foot _).pwr rfl))

theorem bmcPowerRequest_waits (hrun : s.runs .side = true) (habsent : s.fwPresent = false) : exec (.bmcPowerRequest target) s =
    .next { s with pwr := { s.pwr with bmcWait := s.pwr.bmcWait ++ [target] } } :=
  congrArg Host.Outcome.next ((if_pos hrun).trans (if_neg (by rw [habsent]; decide)))

/-! ### Wake sources (R381) -/

/-- An enabled source in sleep is noted. -/
theorem State.wakeCause_noted (hen : s.wakeEnabled code = true) (hasleep : s.pwr.asleep = true) :
    s.wakeCause code = { s with pwr := { s.pwr with wakeArisen := true, pendWake := s.pwr.pendWake ++ [code] } } := by
  unfold State.wakeCause
  rw [hen]
  dsimp only
  rw [hasleep]
  rfl

theorem State.wakeCause_ignored (hoff : s.wakeEnabled code = false) : s.wakeCause code = s := if_pos (by rw [hoff]; rfl)

theorem State.wakeIn_on (hon : s.pwr.off = false) : s.wakeIn = s.wakeCause 1 := if_neg (by rw [hon]; decide)

theorem aonTimer_noted (hset : s.isOn Reg.PWR_AON_TIMER_SECONDS = true) (hasleep : s.pwr.asleep = true) (hon : s.pwr.off = false)
    (hen : s.wakeEnabled 3 = true) : exec .aonTimer s =
      .next { s with pwr := { s.pwr with wakeArisen := true, pendWake := s.pwr.pendWake ++ [3] } } :=
  congrArg Host.Outcome.next ((if_pos (by rw [hset, hasleep, hon]; rfl)).trans (State.wakeCause_noted hen hasleep))

theorem aonTimer_of_zero (hzero : s.isOn Reg.PWR_AON_TIMER_SECONDS = false) : exec .aonTimer s = .next s :=
  congrArg Host.Outcome.next (if_neg (by rw [hzero]; exact Bool.false_ne_true))

/-! ### Deep sleep entered (R374) -/

/-- An erasure of all keys leaves every slot EMPTY. -/
theorem State.zeroiseKeys_slot : s.zeroiseKeys.slot n = {} := by
  have hslot : s.zeroiseKeys.slot n = s.eraseAll.slot n := rfl
  rw [hslot, State.eraseAll, State.eraseKeys_slot]
  simp [Slot.settle]

theorem State.fetchLost_sw : (s.fetchLost ag n).mbx.sw = s.mbx.sw := by
  have hfail : (s.fetchLost ag n).mbx.sw = (s.readFault ag.id n n 4 0 .linkLost).mbx.sw := rfl
  rw [hfail, (State.readFault_foot ..).mbx rfl]

/-- A link loss leaves the shared window. -/
theorem State.mbxLinkLost_sw : s.mbxLinkLost.mbx.sw = s.mbx.sw := by
  unfold State.mbxLinkLost
  generalize [Agent.pf, .fw 0, .fw 1, .fw 2, .fw 3, .bmc] ++ (List.range 128).map (fun k => Agent.vf (k + 1)) = ags
  induction ags generalizing s with
  | nil => rfl
  | cons ag ags ih =>
    refine ih.trans ?_
    dsimp only
    split
    · exact State.fetchLost_sw
    · rfl

theorem State.readsLost_mbx : s.readsLost.mbx = ((s.wr Reg.HIF_LINK_USABLE 0).wr Reg.HIF_LINK_HOLD 1).configReset.mbx := by
  unfold State.readsLost
  dsimp only

theorem State.linkLost_sw : s.linkLost.mbx.sw = s.mbx.sw := by
  have hheld : s.readsLost.laLost.mbxLinkLost.mbx.sw = s.mbx.sw := by
    rw [State.mbxLinkLost_sw, (State.laLost_foot _).mbx rfl]
    rw [State.readsLost_mbx, (State.configReset_foot _).mbx rfl]
    rfl
  rw [State.linkLost_eq, (State.pfEvent_foot ..).mbx rfl]
  split
  · exact (congrArg MbxSt.sw ((State.ptmEnd_foot ..).mbx rfl)).trans hheld
  · exact hheld

theorem State.linkDown_sw : s.linkDown.mbx.sw = s.mbx.sw := by
  unfold State.linkDown
  split
  · rfl
  · exact State.linkLost_sw

/-- Steps 2 to 4 of the entry: the legs leave, both transmitters are disabled, channels are idle, and no key is left. -/
def State.deepQuiet (s : State) : State :=
  (((((s.actCtl .a 0).actCtl .b 0).wr Reg.HG_STATUS_TXDIS 1 0).wr Reg.HG_STATUS_TXDIS 1 1).tevSleep).zeroiseKeys

/-- What the entry stores and forgets, with firmware absent and the shared window zero. -/
def State.deepStored (s : State) : State :=
  let en := (s.rd Reg.ACT_CTL_ENABLE 0, s.rd Reg.ACT_CTL_ENABLE 1)
  let s := s.deepQuiet.setFlash fun f => { f with going := none }
  let s := { s with mbx := { s.mbx with sw := [] } }
  { s with pwr := { s.pwr with savedEnable := en, coarse := s.time.now40, entryBound := s.rd Reg.TIME_BOUND_OWN, entering := false,
                               granted := none, wakeReq := none, off := false } }.wr Reg.ADM_STATUS_FW_PRESENT 0

theorem State.deepEntry_eq (hentering : s.pwr.entering = true) (hclosed : s.pwr.sleepReq = []) (hpresent : s.fwPresent = true)
    (hawake : s.pwr.asleep = false) (htarget : s.rd Reg.PWR_CTL_TARGET ≠ 3) : s.deepEntry =
      ((((s.deepStored.linkDown.wr Reg.PWR_STATUS_LP_MODE 1).inc Reg.PWR_CNT_DEEP_ENTRIES).setPower 4).settleBoth) := by
  unfold State.deepEntry
  rw [hentering, hclosed, hpresent, hawake, if_neg (by decide), beq_false_of_ne htarget]
  rfl

/-- The rows that the rest of the entry leaves: what precedes the link's loss, and what follows it. -/
theorem State.rd_deepEnds (htail : keepsRow fp398 R = true) (hpower : keepsRow fp18 R = true)
    (hcount : otherRow R Reg.PWR_CNT_DEEP_ENTRIES = true) (hlp : otherRow R Reg.PWR_STATUS_LP_MODE = true) (hlink : keepsRow fp198 R = true) :
    (((((s.linkDown.wr Reg.PWR_STATUS_LP_MODE 1).inc Reg.PWR_CNT_DEEP_ENTRIES).setPower 4).settleBoth)).rd R leg.n i = s.rd R leg.n i :=
  ((State.settleBoth_foot _).rd_leg htail).trans (((State.setPower_foot ..).rd_leg hpower).trans
    ((State.rd_wr_shared_row hcount).trans ((State.rd_wr_shared_row hlp).trans ((State.linkDown_foot _).rd_leg hlink))))

theorem State.rd_deepStored (hpresent : otherRow R Reg.ADM_STATUS_FW_PRESENT = true) : s.deepStored.rd R leg.n i = s.deepQuiet.rd R leg.n i :=
  State.rd_wr_shared_row hpresent

theorem State.deepQuiet_txdis : s.deepQuiet.rd Reg.HG_STATUS_TXDIS leg.n = 1 := by
  refine ((State.zeroiseKeys_foot _).rd_leg rfl).trans (((State.tevSleep_foot _).rd_leg rfl).trans ?_)
  cases leg
  · exact (State.rd_wr_otherLeg (l := .b) (k := .a) (by decide) (by decide)).trans (State.rd_wr_same (by decide))
  · exact State.rd_wr_same (by decide)

theorem deepSleepEntry_enters (hentering : s.pwr.entering = true) (hclosed : s.pwr.sleepReq = []) (hpresent : s.fwPresent = true)
    (hawake : s.pwr.asleep = false) (htarget : s.rd Reg.PWR_CTL_TARGET ≠ 3) : ∃ t, exec .deepSleepEntry s = .next t ∧
      t.rd Reg.PWR_STATUS_STATE = 4 ∧ t.rd Reg.PWR_STATUS_LP_MODE = 1 ∧ Counted Reg.PWR_CNT_DEEP_ENTRIES 0 0 1 s t ∧
      t.rd Reg.HG_STATUS_TXDIS 0 = 1 ∧ t.rd Reg.HG_STATUS_TXDIS 1 = 1 ∧ t.rd Reg.ADM_STATUS_FW_PRESENT = 0 ∧ t.slot n = {} ∧
      t.mbx.sw = [] := by
  refine ⟨_, congrArg Host.Outcome.next (State.deepEntry_eq hentering hclosed hpresent hawake htarget), ?_, ?_, ?_, ?_, ?_, ?_, ?_, ?_⟩
  · exact ((State.settleBoth_foot _).rd_at rfl).trans (State.setPower_state (by decide))
  · refine ((State.settleBoth_foot _).rd_at rfl).trans (((State.setPower_foot ..).rd_at rfl).trans ((State.rd_inc_shared rfl).trans ?_))
    exact State.rd_wr_same (by decide)
  · refine counted_of_foot_after (State.settleBoth_foot _) rfl (counted_of_foot_after (State.setPower_foot ..) rfl
      (counted_of_rd_before ?_ (counted_inc (by decide))))
    refine (State.rd_wr_shared rfl).trans (((State.linkDown_foot _).rd_at rfl).trans ((State.rd_deepStored (leg := .a) rfl).trans ?_))
    exact ((State.zeroiseKeys_foot _).rd_at rfl).trans (((State.tevSleep_foot _).rd_at rfl).trans
      ((State.rd_wr_row (l := .b) (k := .a) rfl).trans ((State.rd_wr_shared rfl).trans (((State.actCtl_foot ..).rd_at rfl).trans
        ((State.actCtl_foot ..).rd_at rfl)))))
  · exact (State.rd_deepEnds (leg := .a) rfl rfl rfl rfl rfl).trans ((State.rd_deepStored (leg := .a) rfl).trans
      (State.deepQuiet_txdis (leg := .a)))
  · exact (State.rd_deepEnds (leg := .b) rfl rfl rfl rfl rfl).trans ((State.rd_deepStored (leg := .b) rfl).trans
      (State.deepQuiet_txdis (leg := .b)))
  · exact (State.rd_deepEnds (leg := .a) rfl rfl rfl rfl rfl).trans (State.rd_wr_same (by decide))
  · rw [State.slot, (State.settleBoth_foot _).ciph rfl, (State.setPower_foot ..).ciph rfl]
    have hciph : ((s.deepStored.linkDown.wr Reg.PWR_STATUS_LP_MODE 1).inc Reg.PWR_CNT_DEEP_ENTRIES).ciph = s.deepQuiet.ciph :=
      (State.linkDown_foot _).ciph rfl
    rw [hciph]
    exact State.zeroiseKeys_slot
  · rw [(State.settleBoth_foot _).mbx rfl, (State.setPower_foot ..).mbx rfl]
    exact State.linkDown_sw

theorem deepSleepEntry_not_due (hentering : s.pwr.entering = false) : exec .deepSleepEntry s = .next s :=
  congrArg Host.Outcome.next (if_pos (by rw [hentering]; rfl))

/-! ### Deep sleep left (R375, R377) -/

/-- A field that is neither retained nor a level outside comes back at its reset value. -/
theorem State.retained_rd (hret : isRetained (R.key 0 0) = false) (hpin : (pinRows.any fun Q => Row.covers Q (R.key 0 0)) = false)
    (hq : otherRow R Reg.TIME_QUAL_QUALITY = true) (hown : otherRow R Reg.TIME_BOUND_OWN = true) (hbound : otherRow R Reg.TIME_BOUND = true) :
    (s.retained ticks).rd R = R.reset := by
  unfold State.retained
  dsimp only
  rw [State.applyTrims_rd, State.rd_wr_shared hbound, State.rd_wr_shared hown, State.rd_wr_shared hq]
  unfold State.rd Row.get
  split
  · dsimp only
    rw [Tab.get_filter_of_dropped 0 _ (fun _ => by rw [Bool.or_eq_false_iff]; exact ⟨hret, hpin⟩)]
    exact Nat.zero_xor _
  · rfl

/-- The exit with good retained data, up to the release of the cores. -/
def State.deepWoken (s : State) (ticks code : Nat) : State :=
  let en := s.pwr.savedEnable
  let s := ((s.retained ticks).event (Ev.pwr 0)).recordWake code
  let s := (s.wr Reg.PWR_STATUS_REF_OK (b2n s.pwr.bootIn.refOk)).settleLc
  ((s.reEnable .a en.1).reEnable .b en.2).startLegs.settleSquelch

theorem State.rd_deepWoken (hsq : keepsRow fp153 R = true) (hlegs : keepsRow fp319 R = true) (hact : keepsRow fp350 R = true)
    (hlc : keepsRow fp408 R = true) (href : otherRow R Reg.PWR_STATUS_REF_OK = true) :
    (s.deepWoken ticks code).rd R = (((s.retained ticks).event (Ev.pwr 0)).recordWake code).rd R :=
  ((State.settleSquelch_foot _).rd_at hsq).trans (((State.startLegs_foot _).rd_at hlegs).trans (((State.reEnable_foot ..).rd_at hact).trans
    (((State.reEnable_foot ..).rd_at hact).trans (((State.settleLc_foot _).rd_at hlc).trans (State.rd_wr_shared href)))))

theorem State.deepExit_due (hdeep : s.rd Reg.PWR_STATUS_STATE = 4) (hon : s.pwr.off = false) (hgood : s.pwr.held = false)
    (hwake : s.pwr.pendWake = [code]) {crcOk : Bool} : s.deepExit ticks crcOk = if crcOk then (s.deepWoken ticks code).release
      else ((s.coldStart 4 code).event (Ev.pwr 8)).event (Ev.mem 15) := by
  unfold State.deepExit
  rw [hdeep, hon, hgood, hwake, if_neg (by decide)]
  cases crcOk <;> rfl

theorem deepSleepExit_wakes {crcOk : Bool} (hdeep : s.rd Reg.PWR_STATUS_STATE = 4) (hon : s.pwr.off = false) (hgood : s.pwr.held = false)
    (hwake : s.pwr.pendWake = [code]) (hcode : code < 16) (hcrc : crcOk = true) : ∃ t, exec (.deepSleepExit ticks crcOk) s = .next t ∧
      t.rd Reg.PWR_STATUS_STATE = 0 ∧ t.rd Reg.PWR_STATUS_LAST_WAKE = code := by
  subst hcrc
  refine ⟨_, congrArg Host.Outcome.next ((State.deepExit_due hdeep hon hgood hwake).trans (if_pos rfl)), ?_, ?_⟩
  · refine ((State.release_foot _).rd_at rfl).trans ((State.rd_deepWoken rfl rfl rfl rfl rfl).trans
      (((State.recordWake_foot ..).rd_at rfl).trans (((State.event_foot ..).rd_at rfl).trans ?_)))
    exact State.retained_rd (by decide +kernel) (by decide +kernel) rfl rfl rfl
  · exact ((State.release_foot _).rd_at rfl).trans ((State.rd_deepWoken rfl rfl rfl rfl rfl).trans (State.recordWake_shows hcode))

theorem deepSleepExit_restarts {crcOk : Bool} (hdeep : s.rd Reg.PWR_STATUS_STATE = 4) (hon : s.pwr.off = false) (hgood : s.pwr.held = false)
    (hwake : s.pwr.pendWake = [code]) (hpos : 1 ≤ code) (hcode : code < 16) (hcrc : crcOk = false) (hclean : s.pwr.brownCell = false) :
    ∃ t, exec (.deepSleepExit ticks crcOk) s = .next t ∧ t.rd Reg.PWR_RST_CAUSE = 4 ∧ t.rd Reg.PWR_STATUS_LAST_WAKE = code := by
  subst hcrc
  refine ⟨_, congrArg Host.Outcome.next ((State.deepExit_due hdeep hon hgood hwake).trans (if_neg Bool.false_ne_true)), ?_, ?_⟩
  · exact ((State.event_foot ..).rd_at rfl).trans (((State.event_foot ..).rd_at rfl).trans (State.coldStart_cause hclean (by decide)))
  · exact ((State.event_foot ..).rd_at rfl).trans (((State.event_foot ..).rd_at rfl).trans
      (State.coldStart_wake hclean (Nat.one_le_iff_ne_zero.mp hpos) hcode))

theorem deepSleepExit_not_due {crcOk : Bool} (hother : s.rd Reg.PWR_STATUS_STATE ≠ 4) : exec (.deepSleepExit ticks crcOk) s = .next s :=
  congrArg Host.Outcome.next (if_pos (by simp [hother]))

end

/-- Settles O46: idle, PERST#, the BMC's request and the wake sources by their branches, deep sleep by its steps. -/
theorem powerStatesAreEnteredAndLeft : Obligations.PowerStatesAreEnteredAndLeft := by
  unfold Obligations.PowerStatesAreEnteredAndLeft
  exact ⟨fun _ => idleEnter_enters, fun _ => idleEnter_unready, fun _ => perstAssert_shows, fun _ => perstAssert_of_asserted,
    fun _ => perstDeassert_shows, fun _ => perstDeassert_of_deasserted, fun _ _ _ => bmcPowerRequest_taken,
    fun _ _ => bmcPowerRequest_waits,
    fun _ hon hasleep hen => congrArg Host.Outcome.next ((State.wakeIn_on hon).trans (State.wakeCause_noted hen hasleep)),
    fun _ hon hoff => congrArg Host.Outcome.next ((State.wakeIn_on hon).trans (State.wakeCause_ignored hoff)),
    fun _ => aonTimer_noted, fun _ => aonTimer_of_zero, fun _ _ => deepSleepEntry_enters, fun _ => deepSleepEntry_not_due,
    fun _ _ _ _ => deepSleepExit_wakes, fun _ _ _ _ => deepSleepExit_restarts, fun _ _ _ => deepSleepExit_not_due⟩

end Sys2Proof.Machine

/-! SUPPORT. Resets, the reference, the crystal and the rails (14_power_clocks_reset.md, R378 to R386, R423). -/

namespace Sys2Proof.Machine

section
variable {s t : State} {ag : Agent} {v : BitVec 32} {i q cause wake : Nat} {leg : Leg} {R : Row} {boot : BootInput} {rail : Rail}

/-! ### Brown-out and PWR_GOOD (R378, R380, R385) -/

theorem brownOut_restarts (hon : s.pwr.off = false) (hgood : s.pwr.held = false) : ∃ t, exec .brownOut s = .next t ∧
    t.rd Reg.PWR_RST_CAUSE = 2 ∧ t.rd Reg.PWR_STATUS_BROWN_OUT = 1 ∧ t.rd Reg.PWR_STATUS_LAST_WAKE = 12 ∧ t.rd Reg.PWR_CNT_BROWN_OUTS = 1 ∧
      t.rd Reg.ADM_STATUS_FW_PRESENT = 0 := by
  have hout : s.brownOut = ({ s with pwr := { s.pwr with brownCell := true } } : State).coldStart 2 12 :=
    (if_neg (by rw [hon]; decide)).trans (if_neg (by rw [hgood]; decide))
  refine ⟨_, congrArg Host.Outcome.next hout, ?_, ?_, ?_, ?_, State.coldStart_absent⟩ <;>
    rw [State.coldStart_eq_brown rfl, (State.bootUp_foot _).rd_at rfl]
  · exact ((State.recordWake_foot ..).rd_at rfl).trans (((State.event_foot ..).rd_at rfl).trans ((State.rd_inc_shared rfl).trans
      ((State.rd_wr_shared rfl).trans (State.coldBegun_cause (by decide)))))
  · refine ((State.recordWake_foot ..).rd_at rfl).trans (((State.event_foot ..).rd_at rfl).trans ((State.rd_inc_shared rfl).trans ?_))
    exact State.rd_wr_same (by decide)
  · exact State.recordWake_shows (by decide)
  · refine ((State.recordWake_foot ..).rd_at rfl).trans (((State.event_foot ..).rd_at rfl).trans ((State.rd_inc_same (by decide)).trans ?_))
    rw [State.rd_wr_shared rfl, State.coldBegun_rd (by decide +kernel) rfl rfl rfl]
    rfl

/-- PWR_GOOD is high, with what the start finds. -/
def State.powerGood (s : State) (boot : BootInput) : State := { s with pwr := { s.pwr with held := false, bootIn := boot } }

theorem State.pwrGoodRise_on (hlow : s.pwr.held = true) (hon : s.pwr.off = false) :
    s.pwrGoodRise boot = (s.powerGood boot).coldStart (if s.pwr.poweredOnce then 1 else 0) 0 := by
  have hgood : ¬(s.powerGood boot).pwr.off = true := by rw [State.powerGood, hon]; decide
  exact (if_neg (by rw [hlow]; decide)).trans (if_neg hgood)

theorem pwrGoodRise_starts (hlow : s.pwr.held = true) (hon : s.pwr.off = false) (honce : s.pwr.poweredOnce = true) (href : boot.refOk = true)
    (hclean : s.pwr.brownCell = false) : ∃ t, exec (.pwrGoodRise boot) s = .next t ∧ t.rd Reg.PWR_RST_CAUSE = 1 ∧ t.pwr.held = false ∧
      t.rd Reg.PWR_STATUS_REF_OK = 1 := by
  have hrise : s.pwrGoodRise boot = ((s.powerGood boot).coldBegun 1).bootUp := by
    rw [State.pwrGoodRise_on hlow hon, honce, if_pos rfl, State.coldStart_eq (s := s.powerGood boot) hclean, if_pos rfl]
  have hbegun : ((s.powerGood boot).coldBegun 1).pwr.levels = (false, boot) := State.coldBegun_levels.trans rfl
  have hheld : ((s.powerGood boot).coldBegun 1).pwr.held = false := congrArg Prod.fst hbegun
  have hboot : ((s.powerGood boot).coldBegun 1).pwr.bootIn = boot := congrArg Prod.snd hbegun
  obtain ⟨hok, -, hkept⟩ := State.bootUp_shows (s := (s.powerGood boot).coldBegun 1) (by rw [hboot]; exact href)
  exact ⟨_, congrArg Host.Outcome.next hrise, ((State.bootUp_foot _).rd_at rfl).trans (State.coldBegun_cause (by decide)),
    hkept.trans hheld, hok⟩

theorem pwrGoodRise_of_good (hgood : s.pwr.held = false) : exec (.pwrGoodRise boot) s = .next s :=
  congrArg Host.Outcome.next (if_pos (by rw [hgood]; rfl))

@[simp] theorem State.withAlert_fw : (s.withAlert t).fw = t.fw := by
  rcases State.withAlert_cases (s := s) (t := t) with h | h <;> simp only [h, State.emit_fw]

/-- With nothing being written, a power loss tears nothing. -/
theorem State.tearFlash_idle (hidle : s.fw.flash.going = none) : s.tearFlash = s := by rw [State.tearFlash, hidle]

theorem State.tearFlash_fuse : s.tearFlash.fw.fuse = s.fw.fuse := by
  unfold State.tearFlash
  split <;> rfl

theorem State.cleared_fw : s.cleared.fw.flash = { s.fw.flash with going := none } ∧ s.cleared.fw.fuse = s.fw.fuse := by
  unfold State.cleared
  rw [State.withAlert_fw]
  exact ⟨rfl, rfl⟩

/-- The part held in reset, before the cause is reported. -/
def State.heldReset (s : State) : State := ({ s.tearFlash with pwr := { s.pwr with held := true } } : State).cleared

theorem pwrGoodFall_holds (hon : s.pwr.off = false) : ∃ t, exec .pwrGoodFall s = .next t ∧ t.pwr.held = true ∧ t.rd Reg.PWR_RST_CAUSE = 1 ∧
    t.rd Reg.HG_STATUS_TXDIS 0 = 1 ∧ t.rd Reg.HG_STATUS_TXDIS 1 = 1 ∧ t.rd Reg.ADM_STATUS_FW_PRESENT = 0 ∧
      (s.fw.flash.going = none → t.fw.flash = s.fw.flash) ∧ t.fw.fuse = s.fw.fuse := by
  have hfall : s.pwrGoodFall = s.heldReset.wr Reg.PWR_RST_CAUSE 1 := if_neg (by rw [hon]; decide)
  refine ⟨_, congrArg Host.Outcome.next hfall, ?_, State.rd_wr_same (by decide), ?_, ?_, ?_, fun hidle => ?_, ?_⟩
  · have hheld : s.heldReset.pwr.held = true := by
      unfold State.heldReset State.cleared
      rw [State.withAlert_pwr]
    exact hheld
  · exact (State.rd_wr_shared rfl).trans (State.cleared_rd (by decide +kernel))
  · exact (State.rd_wr_shared_row (k := .b) rfl).trans (State.cleared_rd (by decide +kernel))
  · exact (State.rd_wr_shared rfl).trans (State.cleared_rd (by decide +kernel))
  · have hflash : s.heldReset.fw.flash = { s.fw.flash with going := none } := by
      unfold State.heldReset
      rw [State.tearFlash_idle hidle, State.cleared_fw.1]
    exact hflash.trans (by rw [← hidle])
  · exact State.cleared_fw.2.trans State.tearFlash_fuse

/-! ### COLD and WARM (R382, R383) -/

theorem cold_restarts (hpf : ag = .pf) (hreach : s.reach .pf = true) (hcold : v.toNat % 4 = 2) (hkey : bits v.toNat 15 8 = 0xC5)
    (hclean : s.pwr.brownCell = false) : ∃ t, exec (.cold ag v) s = .next t ∧ t.rd Reg.PWR_RST_CAUSE = 5 ∧
      t.rd Reg.ADM_STATUS_FW_PRESENT = 0 := by
  subst hpf
  exact ⟨_, congrArg Host.Outcome.next ((if_pos hreach).trans (if_pos ⟨rfl, hcold, hkey⟩)), State.coldStart_cause hclean (by decide),
    State.coldStart_absent⟩

theorem cold_without_key (hkey : bits v.toNat 15 8 ≠ 0xC5) : exec (.cold ag v) s = .next s :=
  congrArg Host.Outcome.next (State.reg_still (if_neg fun ⟨_, _, h⟩ => hkey h))

theorem warm_without_warm (hother : v.toNat % 4 ≠ 1) : exec (.warm ag v) s = .next s :=
  congrArg Host.Outcome.next (State.reg_still (if_neg fun ⟨_, h, _⟩ => hother h))

/-- A warm reset begins: autopilot runs, and no activation is under way. -/
def State.warmBegun (s : State) : State :=
  let s := if s.fw.autopilot then s else s.autopilotOn
  { s with fw := { s.fw with activate := none, warmAt := false } }

/-- What a warm reset stops, with its cause still to be reported: the scheduler and firmware. -/
def State.warmStopped (s : State) : State :=
  let s := (s.warmBegun.schedReset).fwStop 2
  { s with host := { s.host with fwQueue := [] } }

theorem State.warmBegun_keeps : s.warmBegun.regs = (if s.fw.autopilot then s else s.autopilotOn).regs ∧ s.warmBegun.cls = s.cls := by
  unfold State.warmBegun
  dsimp only
  refine ⟨rfl, ?_⟩
  split
  · rfl
  · exact (State.autopilotOn_foot _).cls rfl

theorem State.warmStopped_keeps : s.warmStopped.regs = ((s.warmBegun.schedReset).fwStop 2).regs ∧
    s.warmStopped.cls = ((s.warmBegun.schedReset).fwStop 2).cls := by
  unfold State.warmStopped
  dsimp only
  exact ⟨rfl, rfl⟩

theorem State.warmReset_eq : s.warmReset cause =
    ((((s.warmStopped.wr Reg.PWR_RST_CAUSE cause).inc Reg.PWR_CNT_WARM_RESETS).event (Ev.pwr 9)).bootRom false).restoreTrial := by
  unfold State.warmReset State.warmStopped State.warmBegun
  dsimp only

theorem State.warmReset_cause (hcause : cause < 16) : (s.warmReset cause).rd Reg.PWR_RST_CAUSE = cause := by
  rw [State.warmReset_eq]
  exact ((State.restoreTrial_foot _).rd_at rfl).trans (((State.bootRom_foot ..).rd_at rfl).trans (((State.event_foot ..).rd_at rfl).trans
    ((State.rd_inc_shared rfl).trans ((State.rd_wr_same (by decide)).trans (Nat.mod_eq_of_lt hcause)))))

/-- Fields that stopping firmware and the scheduler does not reach stand. -/
theorem State.rd_warmStopped (hstop : keepsRow fp422 R = true) (hsched : keepsRow fp42 R = true) (hauto : keepsRow fp423 R = true) :
    s.warmStopped.rd R = s.rd R := by
  have hbegun : s.warmBegun.rd R = s.rd R := by
    rw [State.rd_of_regs State.warmBegun_keeps.1]
    split
    · rfl
    · exact (State.autopilotOn_foot _).rd_at hauto
  exact (State.rd_of_regs State.warmStopped_keeps.1).trans (((State.fwStop_foot ..).rd_at hstop).trans
    (((State.schedReset_foot _).rd_at hsched).trans hbegun))

theorem State.warmReset_counts : Counted Reg.PWR_CNT_WARM_RESETS 0 0 1 s (s.warmReset cause) := by
  have hcount : Counted Reg.PWR_CNT_WARM_RESETS 0 0 1 s ((s.warmStopped.wr Reg.PWR_RST_CAUSE cause).inc Reg.PWR_CNT_WARM_RESETS) :=
    counted_of_rd_before ((State.rd_wr_shared rfl).trans (State.rd_warmStopped rfl rfl rfl)) (counted_inc (by decide))
  rw [State.warmReset_eq]
  exact counted_of_foot_after (State.restoreTrial_foot _) rfl (counted_of_foot_after (State.bootRom_foot ..) rfl
    (counted_of_foot_after (State.event_foot ..) rfl hcount))

theorem State.warmReset_absent : (s.warmReset cause).rd Reg.ADM_STATUS_FW_PRESENT = 0 := by
  rw [State.warmReset_eq]
  refine ((State.restoreTrial_foot _).rd_at rfl).trans (((State.bootRom_foot ..).rd_at rfl).trans (((State.event_foot ..).rd_at rfl).trans
    ((State.rd_inc_shared rfl).trans ((State.rd_wr_shared rfl).trans ((State.rd_of_regs State.warmStopped_keeps.1).trans
      (((State.stopOps_foot _).rd_at rfl).trans ((State.rd_wr_shared rfl).trans ?_)))))))
  exact State.rd_wr_same (by decide)

/-! What a warm reset leaves of the stream table -/

theorem State.commitCancel_streams : s.commitCancel.cls.streams = s.cls.streams := by
  unfold State.commitCancel
  split
  · rfl
  · dsimp only
    rw [(State.event_foot ..).cls rfl]
    rfl

theorem State.undoOp_streams : (s.undoOp i).cls.streams = s.cls.streams := by
  unfold State.undoOp
  split
  · exact State.commitCancel_streams
  · rfl

theorem State.stopOp_streams : (s.stopOp i).cls.streams = s.cls.streams := by
  unfold State.stopOp
  dsimp only
  rw [(State.freeOp_foot ..).cls rfl]
  exact State.undoOp_streams (s := { s with adm := _ })

theorem State.stopOps_streams : s.stopOps.cls.streams = s.cls.streams := by
  unfold State.stopOps
  generalize s.adm.ops = ops
  induction ops generalizing s with
  | nil => rfl
  | cons op ops ih =>
    refine ih.trans ?_
    dsimp only
    split
    · rfl
    · exact State.stopOp_streams

theorem State.warmStopped_streams : s.warmStopped.cls.streams = s.cls.streams := by
  have hstop : ∀ x : State, (x.fwStop 2).cls.streams = x.cls.streams := fun x => by
    rw [State.fwStop, State.stopOps_streams]
    rfl
  rw [State.warmStopped_keeps.2, hstop, (State.schedReset_foot _).cls rfl, State.warmBegun_keeps.2]

theorem State.warmReset_streams : (s.warmReset cause).cls.streams = s.cls.streams := by
  rw [State.warmReset_eq, (State.restoreTrial_foot _).cls rfl, (State.bootRom_foot ..).cls rfl, (State.event_foot ..).cls rfl,
    State.inc_cls, State.wr_cls, State.warmStopped_streams]

theorem warm_restarts (hpf : ag = .pf) (hreach : s.reach .pf = true) (hwarm : v.toNat % 4 = 1) (hkey : bits v.toNat 15 8 = 0xC5) :
    ∃ t, exec (.warm ag v) s = .next t ∧ t.rd Reg.PWR_RST_CAUSE = 6 ∧ Counted Reg.PWR_CNT_WARM_RESETS 0 0 1 s t ∧
      t.rd Reg.ADM_STATUS_FW_PRESENT = 0 ∧ t.rd Reg.HIF_LINK_UP = s.rd Reg.HIF_LINK_UP ∧
      t.rd Reg.HIF_TX_CTL_EN 0 q = s.rd Reg.HIF_TX_CTL_EN 0 q ∧ t.rd Reg.HG_STATUS_ROGUE 0 = s.rd Reg.HG_STATUS_ROGUE 0 ∧
      t.rd Reg.HG_STATUS_ROGUE 1 = s.rd Reg.HG_STATUS_ROGUE 1 ∧ t.cls.streams = s.cls.streams ∧ t.tev = s.tev ∧ t.time = s.time := by
  subst hpf
  have htear := s.tearFlash_foot
  have hreset := s.tearFlash.warmReset_foot 6
  refine ⟨_, congrArg Host.Outcome.next ((if_pos hreach).trans (if_pos ⟨rfl, hwarm, hkey⟩)), State.warmReset_cause (by decide),
    counted_of_foot_before htear rfl State.warmReset_counts, State.warmReset_absent, ?_, ?_, ?_, ?_, ?_, ?_, ?_⟩
  · exact (hreset.rd_at rfl).trans (htear.rd_at rfl)
  · exact (hreset.rd_at rfl).trans (htear.rd_at rfl)
  · exact (hreset.rd_at rfl).trans (htear.rd_at rfl)
  · exact (hreset.rd_leg (l := .b) rfl).trans (htear.rd_leg (l := .b) rfl)
  · exact State.warmReset_streams.trans (congrArg ClsSt.streams (htear.cls rfl))
  · exact (hreset.tev rfl).trans (htear.tev rfl)
  · exact (hreset.time rfl).trans (htear.time rfl)

theorem activateWarmReset_due (hdue : s.fw.warmAt = true) : ∃ t, exec .activateWarmReset s = .next t ∧ t.rd Reg.PWR_RST_CAUSE = 7 ∧
    Counted Reg.PWR_CNT_WARM_RESETS 0 0 1 s t ∧ Counted Reg.FW_CNT_ACTIVATIONS 0 0 1 s t := by
  have hreset : ((s.warmReset 7).inc Reg.FW_CNT_ACTIVATIONS).rd Reg.PWR_RST_CAUSE = 7 ∧
      Counted Reg.PWR_CNT_WARM_RESETS 0 0 1 s ((s.warmReset 7).inc Reg.FW_CNT_ACTIVATIONS) ∧
      Counted Reg.FW_CNT_ACTIVATIONS 0 0 1 s ((s.warmReset 7).inc Reg.FW_CNT_ACTIVATIONS) :=
    ⟨(State.rd_inc_shared rfl).trans (State.warmReset_cause (by decide)),
      counted_of_rd_after (State.rd_inc_shared rfl) State.warmReset_counts,
      counted_of_foot_before (State.warmReset_foot ..) rfl (counted_inc (by decide))⟩
  obtain ⟨hcause, hwarm, hact⟩ := hreset
  refine ⟨_, congrArg Host.Outcome.next (if_neg (by rw [hdue]; decide)), ?_⟩
  dsimp only
  split
  · exact ⟨((State.event_foot ..).rd_at rfl).trans hcause, counted_of_foot_after (State.event_foot ..) rfl hwarm,
      counted_of_foot_after (State.event_foot ..) rfl hact⟩
  · exact ⟨hcause, hwarm, hact⟩

theorem activateWarmReset_not_due (hnone : s.fw.warmAt = false) : exec .activateWarmReset s = .next s :=
  congrArg Host.Outcome.next (if_pos (by rw [hnone]; rfl))

/-! ### REF and the rails (R385, R386) -/

theorem refLoss_shows (hthere : s.isOn Reg.PWR_STATUS_REF_OK = true) : ∃ t, exec .refLoss s = .next t ∧ t.rd Reg.PWR_STATUS_REF_OK = 0 := by
  refine ⟨_, congrArg Host.Outcome.next (if_neg (by rw [hthere]; decide)), ?_⟩
  have hlost : ((s.wr Reg.PWR_STATUS_REF_OK 0).event (Ev.pwr 10)).rd Reg.PWR_STATUS_REF_OK = 0 :=
    ((State.event_foot ..).rd_at rfl).trans (State.rd_wr_same (by decide))
  dsimp only
  split
  · exact hlost
  · exact ((State.holdoverJudge_foot _).rd_at rfl).trans (((State.settleBound_foot _).rd_at rfl).trans hlost)

theorem refLoss_of_missing (hgone : s.isOn Reg.PWR_STATUS_REF_OK = false) : exec .refLoss s = .next s :=
  congrArg Host.Outcome.next (if_pos (by rw [hgone]; rfl))

theorem refRestored_shows (hgood : s.pwr.held = false) (hstarted : s.pwr.bootWait = false) : ∃ t, exec .refRestored s = .next t ∧
    t.rd Reg.PWR_STATUS_REF_OK = 1 := by
  have hback : s.refRestored = (s.wr Reg.PWR_STATUS_REF_OK 1).settleBound :=
    (if_neg (by rw [hgood]; decide)).trans (if_neg (by rw [hstarted]; decide))
  exact ⟨_, congrArg Host.Outcome.next hback, ((State.settleBound_foot _).rd_at rfl).trans (State.rd_wr_same (by decide))⟩

theorem refRestored_goes_on (hgood : s.pwr.held = false) (hwaits : s.pwr.bootWait = true) : ∃ t, exec .refRestored s = .next t ∧
    t.rd Reg.PWR_STATUS_REF_OK = 1 ∧ t.pwr.bootWait = false := by
  have hback : s.refRestored = ({ s with pwr := { s.pwr with bootIn := { s.pwr.bootIn with refOk := true } } } : State).bootUp :=
    (if_neg (by rw [hgood]; decide)).trans (if_pos hwaits)
  obtain ⟨hok, hwait, -⟩ := State.bootUp_shows (s := { s with pwr := { s.pwr with bootIn := { s.pwr.bootIn with refOk := true } } }) rfl
  exact ⟨_, congrArg Host.Outcome.next hback, hok, hwait⟩

theorem railLoss_disables (hrail : rail = .vddCore ∨ rail = .vddh ∨ rail = .vddio) : ∃ t, exec (.railLoss rail) s = .next t ∧
    t.rd Reg.HG_STATUS_TXDIS 0 = 1 ∧ t.rd Reg.HG_STATUS_TXDIS 1 = 1 :=
  ⟨_, congrArg Host.Outcome.next (if_pos hrail),
    (State.rd_wr_otherLeg (l := .b) (k := .a) (by decide) (by decide)).trans (State.rd_wr_same (by decide)), State.rd_wr_same (by decide)⟩

end

/-- Settles O47: the resets by the steps of a cold and a warm start, the reference and the rails by their branches. -/
theorem resetsAndTheClocksSupervision : Obligations.ResetsAndTheClocksSupervision := by
  unfold Obligations.ResetsAndTheClocksSupervision
  exact ⟨fun _ => brownOut_restarts, fun _ hoff => congrArg Host.Outcome.next (if_pos hoff), fun _ _ => pwrGoodRise_starts,
    fun _ _ => pwrGoodRise_of_good, fun _ => pwrGoodFall_holds, fun _ _ _ => cold_restarts, fun _ _ _ => cold_without_key,
    fun _ _ _ _ => warm_restarts, fun _ _ _ => warm_without_warm, fun _ => activateWarmReset_due, fun _ => activateWarmReset_not_due,
    fun _ => refLoss_shows, fun _ => refLoss_of_missing, fun _ => refRestored_shows, fun _ => refRestored_goes_on, fun _ => rfl,
    fun _ _ => railLoss_disables⟩

end Sys2Proof.Machine

/-! SUPPORT. Optical modules come up: presence, identity, bring-up, slip and rehunt (15_optical_modules.md, R390 to R397, R402, R404). -/

namespace Sys2Proof.Machine

section
variable {s t : State} {ag : Agent} {l : Leg} {w i j k v slip mask : Nat} {R : Row} {m : Nat} {x : BitVec 32} {id : ModuleId}
  {page serial c₀ c₁ : List Byte}

/-! ### Fields of a leg with several copies -/

/-- The copies of a leg's field lie apart. -/
theorem State.rd_wr_otherLane (h : R.stride ≠ 0) (hne : j ≠ i) : (s.wr R v k i).rd R k j = s.rd R k j := by
  refine State.rd_wr_key fun e => hne ?_
  simp only [Row.key] at e
  exact Nat.eq_of_mul_eq_mul_right (Nat.pos_of_ne_zero h) (by omega)

/-- A leg's count stands from before an operation that keeps the field. -/
theorem Foot.counted_before {u : State} {n : Nat} (h : Foot m s t) (hk : keepsRow m R = true) (hc : Counted R l.n i n t u) :
    Counted R l.n i n s u := counted_of_rd_before (h.rd_leg hk) hc

/-- A one-bit field of a leg reads a bit written to it. -/
theorem State.rd_wr_bit {b : Nat} (hn : i < R.n) (hw : R.width = 1) (hb : b < 2) : (s.wr R b k i).rd R k i = b := by
  rw [State.rd_wr_same hn, hw]
  exact Nat.mod_eq_of_lt hb

/-! ### What the end and the start of a bring-up show (R395) -/

theorem State.bringupOver_shows : (s.bringupOver l).rd Reg.OPT_STATUS_BRINGUP l.n = 0 ∧
    (s.bringupOver l).rd Reg.OPT_STATUS_CDR_LOCK l.n = 0 := by
  have hkeep : ∀ {R : Row}, keepsRow fp319 R = true → keepsRow fp291 R = true → (s.bringupOver l).rd R l.n =
      ((s.wr Reg.OPT_STATUS_BRINGUP 0 l.n).wr Reg.OPT_STATUS_CDR_LOCK 0 l.n).rd R l.n := fun h₁ h₂ =>
    ((State.settleDef_foot ..).rd_leg h₁).trans ((State.settleLanes_foot ..).rd_leg h₂)
  exact ⟨(hkeep rfl rfl).trans ((State.rd_wr_row rfl).trans (State.rd_wr_same (by decide))),
    (hkeep rfl rfl).trans (State.rd_wr_same (by decide))⟩

theorem State.attempt_shows : (s.attempt l).rd Reg.OPT_STATUS_BRINGUP l.n = 1 ∧ (s.attempt l).rd Reg.OPT_STATUS_CDR_LOCK l.n = 0 := by
  have hkeep : ∀ {R : Row}, keepsRow fp319 R = true → keepsRow fp291 R = true → otherRow R Reg.OPT_DSK_CMD_ALIGNED = true →
      (s.attempt l).rd R l.n = ((s.wr Reg.OPT_STATUS_BRINGUP 1 l.n).wr Reg.OPT_STATUS_CDR_LOCK 0 l.n).rd R l.n := fun h₁ h₂ h₃ =>
    ((State.settleDef_foot ..).rd_leg h₁).trans (((State.settleLanes_foot ..).rd_leg h₂).trans ((State.rd_upd ..).trans
      (State.rd_wr_row h₃)))
  exact ⟨(hkeep rfl rfl rfl).trans ((State.rd_wr_row rfl).trans (State.rd_wr_same (by decide))),
    (hkeep rfl rfl rfl).trans (State.rd_wr_same (by decide))⟩

/-! ### Presence (R402) -/

theorem modulePresence_inserted {present : Bool} (hin : present = true) (hout : s.isOn Reg.OPT_STATUS_PRESENT l.n = false) :
    ∃ t, exec (.modulePresence l present) s = .next t ∧ t.rd Reg.OPT_STATUS_PRESENT l.n = 1 := by
  subst hin
  refine ⟨_, congrArg Host.Outcome.next ((if_neg (by rw [hout]; decide)).trans (if_pos rfl)), ?_⟩
  refine ((State.settleDef_foot ..).rd_leg rfl).trans (((State.settleLanes_foot ..).rd_leg rfl).trans
    (((State.wakeCause_foot ..).rd_leg rfl).trans ((State.rd_upd ..).trans ?_)))
  exact State.rd_wr_bit (by decide) rfl (by decide)

theorem modulePresence_removed {present : Bool} (hout : present = false) (hin : s.isOn Reg.OPT_STATUS_PRESENT l.n = true) :
    ∃ t, exec (.modulePresence l present) s = .next t ∧ t.rd Reg.OPT_STATUS_PRESENT l.n = 0 ∧ t.rd Reg.OPT_STATUS_ID_VALID l.n = 0 ∧
      t.rd Reg.OPT_STATUS_BRINGUP l.n = 0 := by
  subst hout
  refine ⟨_, congrArg Host.Outcome.next ((if_neg (by rw [hin]; decide)).trans (if_neg (by decide))), ?_, ?_, State.bringupOver_shows.1⟩
  · refine ((State.bringupOver_foot ..).rd_leg rfl).trans ((State.rd_wr_row rfl).trans ((State.rd_upd ..).trans ?_))
    exact State.rd_wr_bit (by decide) rfl (by decide)
  · exact ((State.bringupOver_foot ..).rd_leg rfl).trans (State.rd_wr_same (by decide))

theorem modulePresence_stands {present : Bool} (hout : present = false) (hstands : s.isOn Reg.OPT_STATUS_PRESENT l.n = false) :
    exec (.modulePresence l present) s = .next s := congrArg Host.Outcome.next (if_pos (hstands.trans hout.symm))

/-! ### Identity (R390, R404) -/

/-- Words of an identity field: the first reads the first four bytes, and other fields stand. -/
theorem State.idWords_first {b : List Byte} (hn : 0 < R.n) (hstride : R.stride ≠ 0) :
    (s.idWords l R b).rd R l.n 0 = leNat (slice b 0 4) % 2 ^ R.width := by
  unfold State.idWords
  obtain ⟨n, hlen⟩ := Nat.exists_eq_add_of_lt hn
  have hlater : ∀ (x : State) k, (x.wr R (leNat (slice b (4 * (k + 1)) 4)) l.n (k + 1)).rd R l.n 0 = x.rd R l.n 0 :=
    fun _ _ => State.rd_wr_otherLane hstride (by simp)
  rw [hlen, Nat.zero_add, List.range_succ_eq_map, List.foldl_cons, List.foldl_map, State.rd_foldl hlater]
  exact State.rd_wr_same hn

theorem State.rd_idWords {Q : Row} {b : List Byte} (h : otherRow Q R = true) : (s.idWords l R b).rd Q l.n j = s.rd Q l.n j :=
  State.rd_foldl fun _ _ => State.rd_wr_row h

/-- The identity registers hold the module's revision and the first word of its serial number. -/
theorem State.putIdentity_shows (hrev : id.cmisRev < 2 ^ Reg.OPT_ID_CMIS_CMIS_REV.width) :
    (s.putIdentity l id).rd Reg.OPT_ID_CMIS_CMIS_REV l.n = id.cmisRev ∧
      (s.putIdentity l id).rd Reg.OPT_ID_SERIAL l.n 0 = leNat (slice id.serial 0 4) % 2 ^ 32 := by
  unfold State.putIdentity
  extract_lets s₁ s₂
  constructor
  · exact (State.rd_wr_row rfl).trans ((State.rd_wr_same (by decide)).trans (Nat.mod_eq_of_lt hrev))
  · refine (State.rd_wr_row rfl).trans ((State.rd_wr_row rfl).trans ((State.rd_idWords rfl).trans ((State.rd_wr_row rfl).trans ?_)))
    exact State.idWords_first (by decide) (by decide)

theorem lifeInForce_first (h₀ : lifeOk c₀ = true) (h₁ : lifeOk c₁ = false) {choice : Bool} : lifeInForce c₀ c₁ choice = some 0 := by
  rw [lifeInForce, h₀, h₁]

/-- Where the first life record alone is valid, laser 0's counter resumes from it, with a known history. -/
theorem State.loadLife_first (h₀ : lifeOk (slice page 0 32) = true) (h₁ : lifeOk (slice page 32 32) = false) :
    (s.loadLife l page).rd Reg.OPT_LIFE_ON_NS l.n 0 = leNat (slice (slice page 0 32) 0 8) % 2 ^ 64 ∧
      (s.loadLife l page).rd Reg.OPT_STATUS_HIST_UNKNOWN l.n = 0 := by
  unfold State.loadLife
  dsimp only
  rw [lifeInForce_first h₀ h₁]
  dsimp only
  rw [if_neg (by decide)]
  constructor
  · refine (State.rd_upd ..).trans ((State.rd_wr_row rfl).trans (((State.setBol_foot ..).rd_leg rfl).trans
      (((State.setBol_foot ..).rd_leg rfl).trans ((State.rd_wr_otherLane (by decide) (by decide)).trans ?_))))
    exact State.rd_wr_same (by decide)
  · exact (State.rd_upd ..).trans (State.rd_wr_same (by decide))

/-- The identity taken in, with the counters that its life record gives, before its laser coefficients. -/
def State.lifeTaken (s : State) (l : Leg) (id : ModuleId) : State :=
  (((s.newModule l id.serial).putIdentity l id).upd l fun g => { g with biasHigh := (id.biasHigh0, id.biasHigh1) }).loadLife l id.life

theorem State.identity_eq (hin : s.isOn Reg.OPT_STATUS_PRESENT l.n = true) (hfw : s.fwPresent = true) (hrev : 0x50 ≤ id.cmisRev) :
    s.identity l id = ((((s.lifeTaken l id).upd l fun g => { g with onLog := [((s.lifeTaken l id).rd Reg.OPT_LIFE_ON_NS l.n 0,
      (s.lifeTaken l id).rd Reg.OPT_LIFE_ON_NS l.n 1)] }).loadLaser l id.laser).followLaser l).wr Reg.OPT_STATUS_ID_VALID 1 l.n := by
  unfold State.identity
  rw [hin, hfw, if_neg (by decide), if_neg (Nat.not_lt.mpr hrev)]
  rfl

theorem moduleIdentityRead_shows (hin : s.isOn Reg.OPT_STATUS_PRESENT l.n = true) (hfw : s.fwPresent = true) (hrev : 0x50 ≤ id.cmisRev)
    (hfits : id.cmisRev < 2 ^ Reg.OPT_ID_CMIS_CMIS_REV.width) (h₀ : lifeOk (slice id.life 0 32) = true)
    (h₁ : lifeOk (slice id.life 32 32) = false) : ∃ t, exec (.moduleIdentityRead l id) s = .next t ∧
      t.rd Reg.OPT_STATUS_ID_VALID l.n = 1 ∧ t.rd Reg.OPT_ID_CMIS_CMIS_REV l.n = id.cmisRev ∧
      t.rd Reg.OPT_ID_SERIAL l.n 0 = leNat (slice id.serial 0 4) % 2 ^ 32 ∧
      t.rd Reg.OPT_LIFE_ON_NS l.n 0 = leNat (slice (slice id.life 0 32) 0 8) % 2 ^ 64 ∧ t.rd Reg.OPT_STATUS_HIST_UNKNOWN l.n = 0 := by
  obtain ⟨hshow, hserial⟩ := State.putIdentity_shows (s := s.newModule l id.serial) (l := l) hfits
  obtain ⟨hon, hhist⟩ := State.loadLife_first (l := l) h₀ h₁
    (s := ((s.newModule l id.serial).putIdentity l id).upd l fun g => { g with biasHigh := (id.biasHigh0, id.biasHigh1) })
  have htaken : ∀ {Q : Row} {j : Nat}, keepsRow fp493 Q = true →
      (s.lifeTaken l id).rd Q l.n j = ((s.newModule l id.serial).putIdentity l id).rd Q l.n j := fun h =>
    ((State.loadLife_foot ..).rd_leg h).trans (State.rd_upd ..)
  have hrest : ∀ {Q : Row} {j : Nat}, otherRow Q Reg.OPT_STATUS_ID_VALID = true → keepsRow fp170 Q = true → keepsRow fp495 Q = true →
      (s.identity l id).rd Q l.n j = (s.lifeTaken l id).rd Q l.n j := fun h₂ h₃ h₄ => by
    rw [State.identity_eq hin hfw hrev]
    exact (State.rd_wr_row h₂).trans (((State.followLaser_foot ..).rd_leg h₃).trans (((State.loadLaser_foot ..).rd_leg h₄).trans
      (State.rd_upd ..)))
  refine ⟨_, rfl, ?_, ?_, ?_, ?_, ?_⟩
  · rw [State.identity_eq hin hfw hrev]
    exact State.rd_wr_same (by decide)
  · exact (hrest rfl rfl rfl).trans ((htaken rfl).trans hshow)
  · exact (hrest rfl rfl rfl).trans ((htaken rfl).trans hserial)
  · exact (hrest rfl rfl rfl).trans hon
  · exact (hrest rfl rfl rfl).trans hhist

theorem moduleIdentityRead_refused (hin : s.isOn Reg.OPT_STATUS_PRESENT l.n = true) (hfw : s.fwPresent = true) (hrev : id.cmisRev < 0x50) :
    exec (.moduleIdentityRead l id) s = .next (s.wr Reg.OPT_STATUS_ID_VALID 0 l.n) :=
  congrArg Host.Outcome.next ((if_neg (by rw [hin, hfw]; decide)).trans (if_pos hrev))

/-! ### Bring-up (R394, R395) -/

/-- A write of OPT_CTL before it acts. -/
def State.optWritten (s : State) (l : Leg) (v : Nat) : State :=
  ((s.wr Reg.OPT_CTL_LANES_EN (bit v 0) l.n).wr Reg.OPT_CTL_AUTO_RETRY (bit v 1) l.n).wr Reg.OPT_CTL_LOCK_MS (bits v 7 4) l.n

theorem State.optWritten_shows : (s.optWritten l v).rd Reg.OPT_CTL_LANES_EN l.n = bit v 0 ∧
    (s.optWritten l v).rd Reg.OPT_CTL_AUTO_RETRY l.n = bit v 1 :=
  ⟨(State.rd_wr_row rfl).trans ((State.rd_wr_row rfl).trans (State.rd_wr_bit (by decide) rfl bit_lt_two)),
    (State.rd_wr_row rfl).trans (State.rd_wr_bit (by decide) rfl bit_lt_two)⟩

theorem State.rd_optWritten (h₁ : otherRow R Reg.OPT_CTL_LANES_EN = true) (h₂ : otherRow R Reg.OPT_CTL_AUTO_RETRY = true)
    (h₃ : otherRow R Reg.OPT_CTL_LOCK_MS = true) : (s.optWritten l v).rd R l.n = s.rd R l.n :=
  (State.rd_wr_row h₃).trans ((State.rd_wr_row h₂).trans (State.rd_wr_row h₁))

theorem State.optWritten_moduleReady : (s.optWritten l v).moduleReady l = s.moduleReady l := by
  unfold State.moduleReady State.isOn
  rw [State.rd_optWritten rfl rfl rfl, State.rd_optWritten rfl rfl rfl]

theorem bringupStart_starts (hreach : s.reach ag = true) (hon : bit x.toNat 0 = 1) (hrest : s.rd Reg.OPT_STATUS_BRINGUP l.n = 0)
    (hready : s.moduleReady l = true) : ∃ t, exec (.bringupStart ag l x) s = .next t ∧ t.rd Reg.OPT_STATUS_BRINGUP l.n = 1 ∧
      t.rd Reg.OPT_CTL_LANES_EN l.n = 1 ∧ t.rd Reg.OPT_CTL_AUTO_RETRY l.n = bit x.toNat 1 ∧ t.rd Reg.OPT_STATUS_CDR_LOCK l.n = 0 := by
  obtain ⟨hlanes, hauto⟩ := State.optWritten_shows (s := s) (l := l) (v := x.toNat)
  have hidle : (s.optWritten l x.toNat).rd Reg.OPT_STATUS_BRINGUP l.n = 0 := (State.rd_optWritten rfl rfl rfl).trans hrest
  have hstart : s.optCtl l x.toNat = (s.optWritten l x.toNat).attempt l :=
    (if_neg (by rw [hon]; decide)).trans (if_pos (by
      rw [Bool.and_eq_true, decide_eq_true_eq]
      exact ⟨hidle, State.optWritten_moduleReady.trans hready⟩))
  obtain ⟨hbegun, hlock⟩ := State.attempt_shows (s := s.optWritten l x.toNat) (l := l)
  exact ⟨_, congrArg Host.Outcome.next ((if_pos hreach).trans hstart), hbegun,
    ((State.attempt_foot ..).rd_leg rfl).trans (hlanes.trans hon), ((State.attempt_foot ..).rd_leg rfl).trans hauto, hlock⟩

theorem bringupStart_ends (hreach : s.reach ag = true) (hoff : bit x.toNat 0 = 0) : ∃ t, exec (.bringupStart ag l x) s = .next t ∧
    t.rd Reg.OPT_STATUS_BRINGUP l.n = 0 ∧ t.rd Reg.OPT_CTL_LANES_EN l.n = 0 ∧ t.rd Reg.OPT_STATUS_CDR_LOCK l.n = 0 := by
  obtain ⟨hlanes, -⟩ := State.optWritten_shows (s := s) (l := l) (v := x.toNat)
  obtain ⟨hover, hlock⟩ := State.bringupOver_shows (s := s.optWritten l x.toNat) (l := l)
  exact ⟨_, congrArg Host.Outcome.next ((if_pos hreach).trans (if_pos hoff)), hover,
    ((State.bringupOver_foot ..).rd_leg rfl).trans (hlanes.trans hoff), hlock⟩

/-- A bit that is missing to 15 is set by adding it. -/
theorem bit_missing (hw : w < 4) : bit (15 - 2 ^ w) w ≠ 1 ∧ 15 - 2 ^ w + 2 ^ w = 15 := by
  have hcases : w = 0 ∨ w = 1 ∨ w = 2 ∨ w = 3 := by omega
  rcases hcases with rfl | rfl | rfl | rfl <;> decide

theorem cdrLock_last (hw : w < 4) (hdet : s.detecting l w = true) (hlocks : s.rd Reg.OPT_STATUS_CDR_LOCK l.n = 15 - 2 ^ w)
    (hlocking : s.rd Reg.OPT_STATUS_BRINGUP l.n = 1) : ∃ t, exec (.cdrLock l w) s = .next t ∧ t.rd Reg.OPT_STATUS_CDR_LOCK l.n = 15 ∧
      t.rd Reg.OPT_STATUS_BRINGUP l.n = 2 := by
  obtain ⟨hmissing, hfull⟩ := bit_missing hw
  have hset : s.setBit Reg.OPT_STATUS_CDR_LOCK l.n w = s.wr Reg.OPT_STATUS_CDR_LOCK 15 l.n := by
    unfold State.setBit
    rw [hlocks, if_neg hmissing, hfull]
  have hall : (s.wr Reg.OPT_STATUS_CDR_LOCK 15 l.n).rd Reg.OPT_STATUS_CDR_LOCK l.n = 15 := State.rd_wr_same (by decide)
  have hstill : (s.wr Reg.OPT_STATUS_CDR_LOCK 15 l.n).rd Reg.OPT_STATUS_BRINGUP l.n = 1 := (State.rd_wr_row rfl).trans hlocking
  have hlock : s.cdrLock l w = (s.wr Reg.OPT_STATUS_CDR_LOCK 15 l.n).wr Reg.OPT_STATUS_BRINGUP 2 l.n := by
    unfold State.cdrLock
    rw [hdet, if_neg (by simpa using hw), hset]
    exact if_pos (by rw [hall, hstill]; decide)
  exact ⟨_, congrArg Host.Outcome.next hlock, (State.rd_wr_row rfl).trans hall, State.rd_wr_same (by decide)⟩

theorem cdrLock_undetected (hdet : s.detecting l w = false) : exec (.cdrLock l w) s = .next s :=
  congrArg Host.Outcome.next (if_pos (by rw [hdet]; simp))

theorem bringupAttemptFail_counts (hbegun : s.rd Reg.OPT_STATUS_BRINGUP l.n = 1 ∨ s.rd Reg.OPT_STATUS_BRINGUP l.n = 2)
    (hlit : s.isOn Reg.PROT_DEF_LOS l.n = false) : ∃ t, exec (.bringupAttemptFail l) s = .next t ∧ t.rd Reg.OPT_STATUS_BRINGUP l.n = 0 ∧
      Counted Reg.OPT_CNT_BRINGUP_FAILS l.n 0 1 s t ∧ t.rd Reg.OPT_STATUS_FAILS l.n = min (s.rd Reg.OPT_STATUS_FAILS l.n + 1) 3 := by
  have hend : s.attemptFail l = _ := if_neg (by rcases hbegun with h | h <;> rw [h, hlit] <;> decide)
  generalize hs₁ : ((s.incSat Reg.OPT_STATUS_FAILS l.n).inc Reg.OPT_CNT_BRINGUP_FAILS l.n).bringupOver l = s₁
  have hover : s₁.rd Reg.OPT_STATUS_BRINGUP l.n = 0 := by rw [← hs₁]; exact State.bringupOver_shows.1
  have hcount : Counted Reg.OPT_CNT_BRINGUP_FAILS l.n 0 1 s s₁ := by
    rw [← hs₁]
    exact (State.bringupOver_foot ..).counted_after rfl (counted_of_rd_before (State.rd_wr_row rfl) (counted_inc_at (by decide)))
  have hfails : s₁.rd Reg.OPT_STATUS_FAILS l.n = min (s.rd Reg.OPT_STATUS_FAILS l.n + 1) 3 := by
    rw [← hs₁]
    refine ((State.bringupOver_foot ..).rd_leg rfl).trans ((State.rd_wr_row rfl).trans ((State.rd_wr_same (by decide)).trans ?_))
    exact Nat.mod_eq_of_lt (Nat.lt_succ_of_le (Nat.min_le_right ..))
  refine ⟨_, congrArg Host.Outcome.next hend, ?_⟩
  rw [hs₁]
  split
  · exact ⟨((State.legFailed_foot ..).rd_leg rfl).trans hover, (State.legFailed_foot ..).counted_after rfl hcount,
      ((State.legFailed_foot ..).rd_leg rfl).trans hfails⟩
  · exact ⟨hover, hcount, hfails⟩

theorem bringupAttemptFail_aligned (haligned : s.rd Reg.OPT_STATUS_BRINGUP l.n = 3) : exec (.bringupAttemptFail l) s = .next s :=
  congrArg Host.Outcome.next (if_pos (by rw [haligned]; rfl))

theorem bringupRetry_starts (hlanes : s.isOn Reg.OPT_CTL_LANES_EN l.n = true) (hauto : s.isOn Reg.OPT_CTL_AUTO_RETRY l.n = true)
    (hrest : s.rd Reg.OPT_STATUS_BRINGUP l.n = 0) (hready : s.moduleReady l = true) (hsome : 1 ≤ s.rd Reg.OPT_STATUS_FAILS l.n)
    (hfew : s.rd Reg.OPT_STATUS_FAILS l.n < 3) : ∃ t, exec (.bringupRetry l) s = .next t ∧ t.rd Reg.OPT_STATUS_BRINGUP l.n = 1 ∧
      t.rd Reg.OPT_STATUS_FAILS l.n = s.rd Reg.OPT_STATUS_FAILS l.n := by
  have hstart : s.retryBringup l = s.attempt l := if_pos (by
    rw [hlanes, hauto, hrest, hready, decide_eq_true (Nat.lt_of_succ_le hsome), decide_eq_true hfew]
    rfl)
  exact ⟨_, congrArg Host.Outcome.next hstart, State.attempt_shows.1, (State.attempt_foot ..).rd_leg rfl⟩

theorem bringupRetry_without_auto (hauto : s.isOn Reg.OPT_CTL_AUTO_RETRY l.n = false) : exec (.bringupRetry l) s = .next s :=
  congrArg Host.Outcome.next (if_neg (by rw [hauto]; simp))

/-! ### Slip and rehunt (R396, R397) -/

theorem State.rehuntWave_aligned : (s.rehuntWave l w).rd Reg.OPT_DSK_CMD_ALIGNED l.n = 0 := by
  have hcleared : ((s.wr Reg.OPT_DSK_CMD_ALIGNED 0 l.n).upd l fun g => { g with alignRun := 0 }).rd Reg.OPT_DSK_CMD_ALIGNED l.n = 0 :=
    (State.rd_upd ..).trans (State.rd_wr_same (by decide))
  unfold State.rehuntWave
  dsimp only
  split
  · exact ((State.loseSync_foot ..).rd_leg rfl).trans hcleared
  · exact ((State.toHunt_foot ..).rd_leg rfl).trans hcleared

theorem slipWrite_slips (hreach : s.reach ag = true) (hw : w < 4) (hmay : s.mayDeskew ag l = true) : ∃ t,
    exec (.slipWrite ag l w slip) s = .next t ∧ t.rd Reg.OPT_DSK_SLIP l.n w = slip % 64 ∧ Counted Reg.OPT_CNT_SLIPS l.n 0 1 s t ∧
      t.rd Reg.OPT_DSK_CMD_ALIGNED l.n = 0 := by
  have hgo : ¬(decide (w ≥ 4) || !s.mayDeskew ag l) = true := by rw [hmay]; simpa using hw
  refine ⟨_, congrArg Host.Outcome.next ((if_pos hreach).trans (if_neg hgo)), ?_, ?_, State.rehuntWave_aligned⟩
  · exact ((State.rehuntWave_foot ..).rd_leg rfl).trans ((State.rd_wr_row rfl).trans (State.rd_wr_same hw))
  · refine (State.rehuntWave_foot ..).counted_after rfl (counted_of_rd_before ((State.rd_wr_row rfl).trans ?_) (counted_inc_at (by decide)))
    split
    · rfl
    · exact State.rd_upd ..

theorem slipWrite_enabled (hpf : ag = .pf) (hen : s.isOn Reg.ACT_CTL_ENABLE l.n = true) : exec (.slipWrite ag l w slip) s = .next s := by
  have hdenied : s.mayDeskew ag l = false := by rw [State.mayDeskew, hen, hpf]; rfl
  exact congrArg Host.Outcome.next (State.reg_still (if_pos (by rw [hdenied]; simp)))

/-- The waves that a mask names depend on its four bits. -/
theorem rehuntMask (hm : mask % 16 = v) : ((List.range 4).filter fun w => bit mask w == 1) = (List.range 4).filter fun w => bit v w == 1 := by
  refine List.filter_congr fun w hw => ?_
  rw [← hm, ← bit_mod_width (x := mask) (w := 4) (List.mem_range.mp hw)]
  rfl

theorem rehunt_last (hreach : s.reach ag = true) (hm : mask % 16 = 8) (hmay : s.mayDeskew ag l = true) : ∃ t,
    exec (.rehunt ag l mask) s = .next t ∧ Counted Reg.OPT_CNT_REHUNTS l.n 0 1 s t ∧ t.rd Reg.OPT_DSK_CMD_ALIGNED l.n = 0 := by
  have hhunt : s.rehunt ag l mask = (s.inc Reg.OPT_CNT_REHUNTS l.n).rehuntWave l 3 := by
    unfold State.rehunt
    rw [hmay, if_neg (by decide), rehuntMask hm]
    rfl
  exact ⟨_, congrArg Host.Outcome.next ((if_pos hreach).trans hhunt),
    (State.rehuntWave_foot ..).counted_after rfl (counted_inc_at (by decide)), State.rehuntWave_aligned⟩

theorem rehunt_of_none (hm : mask % 16 = 0) : exec (.rehunt ag l mask) s = .next s := by
  refine congrArg Host.Outcome.next (State.reg_still ?_)
  unfold State.rehunt
  rw [rehuntMask hm]
  exact ite_self _

end

/-- Settles O49: each operation of the bring-up by its branches, the leg's settling by what it keeps. -/
theorem modulesComeUp : Obligations.ModulesComeUp := by
  unfold Obligations.ModulesComeUp
  exact ⟨fun _ _ _ => modulePresence_inserted, fun _ _ _ => modulePresence_removed, fun _ _ _ => modulePresence_stands,
    fun _ _ _ => moduleIdentityRead_shows, fun _ _ _ => moduleIdentityRead_refused, fun _ _ _ _ => bringupStart_starts,
    fun _ _ _ _ => bringupStart_ends, fun _ _ _ => cdrLock_last, fun _ _ _ => cdrLock_undetected, fun _ _ => bringupAttemptFail_counts,
    fun _ _ => bringupAttemptFail_aligned, fun _ _ => bringupRetry_starts, fun _ _ => bringupRetry_without_auto,
    fun _ _ _ _ _ => slipWrite_slips, fun _ _ _ _ _ => slipWrite_enabled, fun _ _ _ _ => rehunt_last,
    fun _ _ _ _ _ hm => rehunt_of_none hm⟩

end Sys2Proof.Machine

/-! SUPPORT. Optical modules are watched and accounted: receive overload, safety polls, telemetry, life records and bias samples
(15_optical_modules.md, R398 to R405). -/

namespace Sys2Proof.Machine

section
variable {s t : State} {l : Leg} {w i u v clipped c : Nat} {R : Row} {ack txFault ready duringTelem acked : Bool} {m : Telemetry}
  {g : LegSt → LegSt}

/-! ### Receive overload (R398) -/

theorem State.wave_of_waves (h : (t.leg l).waves = (s.leg l).waves) : t.wave l w = s.wave l w := by rw [State.wave, h, State.wave]

/-- The wave shown in RXOVL, with its event raised once. -/
def State.overShown (s : State) (l : Leg) (w : Nat) : State := (s.setBit Reg.OPT_STATUS_RXOVL l.n w).once l (Ev.wave l w 7) 0

theorem State.overShown_wave : (s.overShown l w).wave l w = s.wave l w :=
  State.wave_of_waves (by rw [State.overShown, State.once_waves, State.setBit_leg])

theorem rxovl_marks (hw : w < 4) (hdet : s.detecting l w = true) (hover : max 1 (s.rd Reg.OPT_OVL_CTL_THRESH l.n) < clipped)
    (hfresh : (s.wave l w).rxovl = false) : ∃ t, exec (.rxovl l w clipped) s = .next t ∧ bit (t.rd Reg.OPT_STATUS_RXOVL l.n) w = 1 ∧
      Counted Reg.OPT_CNT_OVL_FRAMES l.n 0 1 s t ∧ (t.wave l w).rxovl = true := by
  have hgo : ¬(decide (w ≥ 4) || !s.detecting l w || decide (clipped ≤ max 1 (s.rd Reg.OPT_OVL_CTL_THRESH l.n))) = true := by
    rw [hdet]
    simp only [Bool.or_eq_true, decide_eq_true_eq, Bool.not_true, Bool.false_eq_true, or_false]
    omega
  have hnew : ¬((s.overShown l w).wave l w).rxovl = true := by rw [State.overShown_wave, hfresh]; decide
  have hmark : s.overload l w clipped = _ := (if_neg hgo).trans (if_neg hnew)
  have hstands : bit ((s.overShown l w).rd Reg.OPT_STATUS_RXOVL l.n) w = 1 := by
    rw [State.overShown, (State.once_foot ..).rd_leg rfl]
    exact State.setBit_stands (by decide) hw
  have hbefore : (s.overShown l w).rd Reg.OPT_CNT_OVL_FRAMES l.n = s.rd Reg.OPT_CNT_OVL_FRAMES l.n :=
    ((State.once_foot ..).rd_leg rfl).trans (by
      unfold State.setBit
      split
      · rfl
      · exact State.rd_wr_row rfl)
  generalize hex : (if ((s.overShown l w).leg l).waves.toList.any (fun x => x.rxovl && x.key == ((s.overShown l w).wave l w).key) = true
    then s.overShown l w else (s.overShown l w).upd l fun g => g.excludeMarks ((s.overShown l w).wave l w).key) = x
  have hx : ∀ {R : Row}, x.rd R l.n = (s.overShown l w).rd R l.n := by
    intro R
    rw [← hex]
    split
    · rfl
    · exact State.rd_upd ..
  refine ⟨(x.inc Reg.OPT_CNT_OVL_FRAMES l.n).updWave l w fun v => { v with rxovl := true },
    congrArg Host.Outcome.next (hmark.trans ?_), ?_, ?_, ?_⟩
  · rw [← hex]
    rfl
  · rw [State.rd_updWave, State.inc, State.rd_wr_row rfl, hx]
    exact hstands
  · exact counted_of_rd_after State.rd_updWave (counted_of_rd_before (hx.trans hbefore) (counted_inc_at (by decide)))
  · rw [State.wave_updWave_same hw]

theorem rxovl_below (hfew : clipped ≤ s.rd Reg.OPT_OVL_CTL_THRESH l.n) : exec (.rxovl l w clipped) s = .next s :=
  congrArg Host.Outcome.next (if_pos (by
    rw [decide_eq_true (hfew.trans (Nat.le_max_right ..)), Bool.or_true]))

/-! ### Safety polls (R401, R402) -/

/-- A poll's counts: the poll or the bus error, and the telemetry's age where it is no extra poll. -/
theorem State.pollCount_polls (h : R = if ack then Reg.OPT_CNT_SAFETY_POLLS else Reg.OPT_CNT_BUS_ERRORS) :
    Counted R l.n 0 1 s (s.pollCount l ack false) := by
  unfold State.pollCount
  dsimp only
  have hcount : Counted R l.n 0 1 s (s.inc R l.n) := counted_inc_at (by rw [h]; cases ack <;> decide)
  have hage : otherRow R Reg.OPT_TELEM_AGE_AGE_MS = true := by rw [h]; cases ack <;> rfl
  rw [if_neg Bool.false_ne_true, ← h]
  refine counted_of_rd_after ((State.rd_upd ..).trans ?_) hcount
  split
  · rfl
  · exact State.rd_wr_row hage

theorem State.pollCount_foot_rd (h₁ : otherRow R Reg.OPT_TELEM_AGE_AGE_MS = true) (h₂ : otherRow R Reg.OPT_CNT_TELEM_PREEMPT = true)
    (h₃ : otherRow R (if ack then Reg.OPT_CNT_SAFETY_POLLS else Reg.OPT_CNT_BUS_ERRORS) = true) :
    (s.pollCount l ack duringTelem).rd R l.n = s.rd R l.n := by
  unfold State.pollCount
  extract_lets s₁ s₂ s₃
  have hs₁ : s₁.rd R l.n = s.rd R l.n := by
    unfold s₁
    split
    · exact State.rd_wr_row h₂
    · rfl
  have hs₃ : s₃.rd R l.n = s₂.rd R l.n := by
    unfold s₃
    split
    · rfl
    · exact State.rd_wr_row h₁
  exact (State.rd_upd ..).trans (hs₃.trans ((State.rd_wr_row h₃).trans hs₁))

theorem State.pollCount_acked : ((s.pollCount l true duringTelem).leg l).pollFail = 0 := by
  unfold State.pollCount
  dsimp only
  rw [State.upd_leg_same]
  rfl

/-- The telemetry ages by a millisecond to its limit in a poll that no interrupt brought. -/
theorem State.pollCount_age (hdue : (s.leg l).pollDue = false) : (s.pollCount l true false).rd Reg.OPT_TELEM_AGE_AGE_MS l.n =
    min (s.rd Reg.OPT_TELEM_AGE_AGE_MS l.n + 1) (2 ^ Reg.OPT_TELEM_AGE_AGE_MS.width - 1) := by
  unfold State.pollCount
  dsimp only
  rw [if_neg Bool.false_ne_true, State.inc_leg, hdue, if_neg Bool.false_ne_true, State.rd_upd, if_pos rfl, State.incSat,
    State.rd_wr_same (by decide), State.inc, State.rd_wr_row rfl]
  exact Nat.mod_eq_of_lt (lt_of_le_of_lt (Nat.min_le_right ..) (by decide))

theorem safetyPoll_clean (hack : ack = true) (htx : txFault = false) (hready : ready = true) (hquiet : duringTelem = false)
    (hin : s.isOn Reg.OPT_STATUS_PRESENT l.n = true) (hdue : (s.leg l).pollDue = false) : ∃ t,
      exec (.safetyPoll l ack txFault ready duringTelem) s = .next t ∧ Counted Reg.OPT_CNT_SAFETY_POLLS l.n 0 1 s t ∧
      t.rd Reg.OPT_TELEM_AGE_AGE_MS l.n = min (s.rd Reg.OPT_TELEM_AGE_AGE_MS l.n + 1) (2 ^ Reg.OPT_TELEM_AGE_AGE_MS.width - 1) ∧
      t.rd Reg.OPT_CNT_SAFETY_FAULTS l.n = s.rd Reg.OPT_CNT_SAFETY_FAULTS l.n := by
  subst hack htx hready hquiet
  have hthere : (s.pollCount l true false).isOn Reg.OPT_STATUS_PRESENT l.n = true := by
    rw [State.isOn, State.pollCount_foot_rd rfl rfl rfl]
    exact hin
  have hcause : (s.pollCount l true false).pollCause l true false true = 0 := by
    rw [State.pollCause, hthere, State.pollCount_acked]
    rfl
  have hclean : s.safetyPoll l true false true false = (s.pollCount l true false).cleanPoll l :=
    (if_neg (fun h => h hcause)).trans (if_neg (by decide))
  exact ⟨_, congrArg Host.Outcome.next hclean, (State.cleanPoll_foot ..).counted_after rfl (State.pollCount_polls rfl),
    ((State.cleanPoll_foot ..).rd_leg rfl).trans (State.pollCount_age hdue),
    ((State.cleanPoll_foot ..).rd_leg rfl).trans (State.pollCount_foot_rd rfl rfl rfl)⟩

theorem State.forceTxdis_on : (s.forceTxdis l).isOn Reg.HG_CTL_FORCE_TXDIS l.n = true := by
  unfold State.forceTxdis
  split
  next hon => exact hon
  next =>
    have hset : (((s.wr Reg.HG_CTL_FORCE_TXDIS 1 l.n).cutWindows l |>.settlePins l).settleLanes l).rd Reg.HG_CTL_FORCE_TXDIS l.n = 1 :=
      ((State.settleLanes_foot ..).rd_leg rfl).trans (((State.settlePins_foot ..).rd_leg rfl).trans
        (((State.cutWindows_foot ..).rd_leg rfl).trans (State.rd_wr_same (by decide))))
    rw [State.isOn, hset]
    rfl

/-- A fault found where no cause stood is counted, shows with its causes, and forces transmit disable. -/
theorem State.safetyFault_shows (hnone : s.rd Reg.OPT_SAFE_CAUSE l.n = 0) (hc : c ≠ 0) (hfits : c < 16) :
    (s.safetyFault l c).rd Reg.OPT_SAFE_FAULT l.n = 1 ∧ (s.safetyFault l c).rd Reg.OPT_SAFE_CAUSE l.n = c ∧
      (s.safetyFault l c).isOn Reg.HG_CTL_FORCE_TXDIS l.n = true ∧ Counted Reg.OPT_CNT_SAFETY_FAULTS l.n 0 1 s (s.safetyFault l c) := by
  unfold State.safetyFault
  dsimp only
  have hor : c.lor 0 = c := Nat.or_zero c
  rw [hnone, hor, if_neg hc]
  refine ⟨?_, ?_, State.forceTxdis_on, ?_⟩
  · exact ((State.forceTxdis_foot ..).rd_leg rfl).trans ((State.rd_upd ..).trans (State.rd_wr_same (by decide)))
  · exact ((State.forceTxdis_foot ..).rd_leg rfl).trans ((State.rd_upd ..).trans ((State.rd_wr_row rfl).trans
      ((State.rd_wr_same (by decide)).trans (Nat.mod_eq_of_lt hfits))))
  · exact (State.forceTxdis_foot ..).counted_after rfl (counted_of_rd_after ((State.rd_upd ..).trans ((State.rd_wr_row rfl).trans
      (State.rd_wr_row rfl))) (counted_inc_at (by decide)))

/-- What a poll that finds a transmit fault finds: bit 0 of its causes. -/
theorem State.pollCause_txFault : bit (s.pollCause l true true ready) 0 = 1 ∧ s.pollCause l true true ready < 16 := by
  have h₁ := b2n_le_one (true && !ready)
  have h₂ := b2n_le_one (!s.isOn Reg.OPT_STATUS_PRESENT l.n)
  have h₃ := b2n_le_one (decide ((s.leg l).pollFail ≥ 3))
  have hfault : b2n (true && true) = 1 := rfl
  unfold State.pollCause bit
  omega

theorem safetyPoll_txFault (hack : ack = true) (htx : txFault = true) (hnone : s.rd Reg.OPT_SAFE_CAUSE l.n = 0) : ∃ t,
    exec (.safetyPoll l ack txFault ready duringTelem) s = .next t ∧ t.rd Reg.OPT_SAFE_FAULT l.n = 1 ∧
      bit (t.rd Reg.OPT_SAFE_CAUSE l.n) 0 = 1 ∧ t.isOn Reg.HG_CTL_FORCE_TXDIS l.n = true ∧
      Counted Reg.OPT_CNT_SAFETY_FAULTS l.n 0 1 s t := by
  subst hack htx
  obtain ⟨hbit, hfits⟩ := State.pollCause_txFault (s := s.pollCount l true duringTelem) (l := l) (ready := ready)
  have hsome : (s.pollCount l true duringTelem).pollCause l true true ready ≠ 0 := fun h => by rw [h] at hbit; exact absurd hbit (by decide)
  obtain ⟨hfault, hcause, hforced, hcount⟩ :=
    State.safetyFault_shows ((State.pollCount_foot_rd (ack := true) rfl rfl rfl).trans hnone) hsome hfits
  exact ⟨_, congrArg Host.Outcome.next (if_pos hsome), hfault, by rw [hcause]; exact hbit, hforced,
    counted_of_rd_before (State.pollCount_foot_rd rfl rfl rfl) hcount⟩

theorem safetyPoll_unacked (hack : ack = false) (hquiet : duringTelem = false) : ∃ t,
    exec (.safetyPoll l ack txFault ready duringTelem) s = .next t ∧ Counted Reg.OPT_CNT_BUS_ERRORS l.n 0 1 s t ∧
      t.rd Reg.OPT_CNT_SAFETY_POLLS l.n = s.rd Reg.OPT_CNT_SAFETY_POLLS l.n := by
  subst hack hquiet
  have hcount : Counted Reg.OPT_CNT_BUS_ERRORS l.n 0 1 s (s.pollCount l false false) := State.pollCount_polls rfl
  have hpolls : (s.pollCount l false false).rd Reg.OPT_CNT_SAFETY_POLLS l.n = s.rd Reg.OPT_CNT_SAFETY_POLLS l.n :=
    State.pollCount_foot_rd rfl rfl rfl
  refine ⟨_, rfl, ?_⟩
  unfold State.safetyPoll
  dsimp only
  split
  · exact ⟨(State.safetyFault_foot ..).counted_after rfl hcount, ((State.safetyFault_foot ..).rd_leg rfl).trans hpolls⟩
  · exact ⟨counted_of_rd_after (State.rd_upd ..) hcount, (State.rd_upd ..).trans hpolls⟩

/-! ### Telemetry (R403) -/

/-- What a telemetry read puts in the registers. -/
def State.telemetryPut (s : State) (l : Leg) (m : Telemetry) : State :=
  let case := b2n m.vdm.isNone
  let lt := m.vdm.getD (m.modTemp, m.modTemp)
  let s := ((s.wr Reg.OPT_TELEM_TEMP_MOD_TEMP m.modTemp l.n).putLaser l 0 lt.1 case m.bias0).putLaser l 1 lt.2 case m.bias1
  let s := [0, 1, 2, 3].foldl (fun s w => s.wr Reg.OPT_TELEM_RXP_RX_POWER (m.rxPower.get w) l.n w) s
  s.wr Reg.OPT_TELEM_AGE_AGE_MS 0 l.n

/-- Each wave's received power is written to its own copy. -/
theorem State.rxPower_put (hw : w < 4) (hfits : m.rxPower.get w < 2 ^ 16) :
    ([0, 1, 2, 3].foldl (fun (s : State) w => s.wr Reg.OPT_TELEM_RXP_RX_POWER (m.rxPower.get w) l.n w) s).rd
      Reg.OPT_TELEM_RXP_RX_POWER l.n w = m.rxPower.get w := by
  have hother : ∀ {s : State} {v i j : Nat}, j ≠ i → (s.wr Reg.OPT_TELEM_RXP_RX_POWER v l.n i).rd Reg.OPT_TELEM_RXP_RX_POWER l.n j =
      s.rd Reg.OPT_TELEM_RXP_RX_POWER l.n j := fun h => State.rd_wr_otherLane (by decide) h
  have hsame : ∀ {s : State}, (s.wr Reg.OPT_TELEM_RXP_RX_POWER (m.rxPower.get w) l.n w).rd Reg.OPT_TELEM_RXP_RX_POWER l.n w =
      m.rxPower.get w := (State.rd_wr_same hw).trans (Nat.mod_eq_of_lt hfits)
  have hcases : w = 0 ∨ w = 1 ∨ w = 2 ∨ w = 3 := by omega
  simp only [List.foldl_cons, List.foldl_nil]
  rcases hcases with rfl | rfl | rfl | rfl
  · rw [hother (by decide), hother (by decide), hother (by decide), hsame]
  · rw [hother (by decide), hother (by decide), hsame]
  · rw [hother (by decide), hsame]
  · exact hsame

theorem State.telemetryPut_shows (htemp : m.modTemp < 2 ^ 16) (hbias : m.bias0 < 2 ^ 16) (hw : w < 4) (hpow : m.rxPower.get w < 2 ^ 16) :
    (s.telemetryPut l m).rd Reg.OPT_TELEM_TEMP_MOD_TEMP l.n = m.modTemp ∧ (s.telemetryPut l m).rd Reg.OPT_TELEM_BIAS l.n 0 = m.bias0 ∧
      (s.telemetryPut l m).rd Reg.OPT_TELEM_RXP_RX_POWER l.n w = m.rxPower.get w ∧
      (s.telemetryPut l m).rd Reg.OPT_TELEM_AGE_AGE_MS l.n = 0 := by
  unfold State.telemetryPut
  dsimp only
  refine ⟨?_, ?_, ?_, State.rd_wr_same (by decide)⟩
  · refine (State.rd_wr_row rfl).trans ((State.rd_foldl fun _ _ => State.rd_wr_row rfl).trans ?_)
    unfold State.putLaser
    rw [State.rd_wr_row rfl, State.rd_wr_row rfl, State.rd_wr_row rfl, State.rd_wr_row rfl, State.rd_wr_row rfl, State.rd_wr_row rfl,
      State.rd_wr_same (by decide)]
    exact Nat.mod_eq_of_lt htemp
  · refine (State.rd_wr_row rfl).trans ((State.rd_foldl fun _ _ => State.rd_wr_row rfl).trans ?_)
    unfold State.putLaser
    rw [State.rd_wr_otherLane (by decide) (by decide), State.rd_wr_row rfl, State.rd_wr_row rfl, State.rd_wr_same (by decide)]
    exact Nat.mod_eq_of_lt hbias
  · exact (State.rd_wr_row rfl).trans (State.rxPower_put hw hpow)

theorem telemetryRead_shows (hready : s.moduleReady l = true) (hfw : s.fwPresent = true) (htemp : m.modTemp < 2 ^ 16)
    (hbias : m.bias0 < 2 ^ 16) (hw : w < 4) (hpow : m.rxPower.get w < 2 ^ 16) : ∃ t, exec (.telemetryRead l m) s = .next t ∧
      t.rd Reg.OPT_TELEM_TEMP_MOD_TEMP l.n = m.modTemp ∧ t.rd Reg.OPT_TELEM_BIAS l.n 0 = m.bias0 ∧
      t.rd Reg.OPT_TELEM_RXP_RX_POWER l.n w = m.rxPower.get w ∧ t.rd Reg.OPT_TELEM_AGE_AGE_MS l.n = 0 := by
  obtain ⟨h₁, h₂, h₃, h₄⟩ := State.telemetryPut_shows (s := s) (l := l) htemp hbias hw hpow
  have hread : s.telemetry l m = if (s.telemetryPut l m).laserOut l then
      ((s.telemetryPut l m).upd l fun g => { g with telemOut := (s.telemetryPut l m).laserOut l }).laserLow l
    else ((s.telemetryPut l m).upd l fun g => { g with telemOut := (s.telemetryPut l m).laserOut l }).followLaser l :=
    if_neg (by rw [hready, hfw]; decide)
  have hkeep : ∀ {R : Row} {i : Nat}, keepsRow fp173 R = true → keepsRow fp170 R = true →
      (s.telemetry l m).rd R l.n i = (s.telemetryPut l m).rd R l.n i := fun hlow hfollow => by
    rw [hread]
    split
    · exact ((State.laserLow_foot ..).rd_leg hlow).trans (State.rd_upd ..)
    · exact ((State.followLaser_foot ..).rd_leg hfollow).trans (State.rd_upd ..)
  exact ⟨_, rfl, (hkeep rfl rfl).trans h₁, (hkeep rfl rfl).trans h₂, (hkeep rfl rfl).trans h₃, (hkeep rfl rfl).trans h₄⟩

theorem telemetryRead_unready (hnot : s.moduleReady l = false ∨ s.fwPresent = false) : exec (.telemetryRead l m) s = .next s :=
  congrArg Host.Outcome.next (if_pos (by rcases hnot with h | h <;> rw [h] <;> simp))

/-! ### Life records (R404) -/

theorem State.emit_leg {o : Output} : (s.emit o).leg l = s.leg l := by cases l <;> rfl

theorem State.lifeWrite_of_ready (hready : s.moduleReady l = true) (hfw : s.fwPresent = true) : s.lifeWrite l acked =
    (if !acked then (s.emit (.moduleWrite l 3 (128 + 32 * (s.leg l).lifeCopy) (s.lifeBody l ++ beBytes 2 (crc16 (byteBits (s.lifeBody l)))))).inc
        Reg.OPT_CNT_BUS_ERRORS l.n
      else ((s.emit (.moduleWrite l 3 (128 + 32 * (s.leg l).lifeCopy) (s.lifeBody l ++ beBytes 2 (crc16 (byteBits (s.lifeBody l)))))).inc
        Reg.OPT_CNT_PAGE_WRITES l.n).upd l fun g => { g with lifeCount := (g.lifeCount + 1) % 256, lifeCopy := 1 - g.lifeCopy }) :=
  if_neg (by rw [hready, hfw]; decide)

theorem lifeRecordWrite_acked (hack : acked = true) (hready : s.moduleReady l = true) (hfw : s.fwPresent = true) : ∃ t,
    exec (.lifeRecordWrite l acked) s = .next t ∧ t.out = s.out ++ [.moduleWrite l 3 (128 + 32 * (s.leg l).lifeCopy)
      (s.lifeBody l ++ beBytes 2 (crc16 (byteBits (s.lifeBody l))))] ∧ Counted Reg.OPT_CNT_PAGE_WRITES l.n 0 1 s t ∧
      (t.leg l).lifeCount = ((s.leg l).lifeCount + 1) % 256 ∧ (t.leg l).lifeCopy = 1 - (s.leg l).lifeCopy := by
  subst hack
  refine ⟨_, congrArg Host.Outcome.next ((State.lifeWrite_of_ready hready hfw).trans (if_neg (by decide))), ?_, ?_, ?_, ?_⟩
  · rw [State.upd_out]
    rfl
  · exact counted_of_rd_after (State.rd_upd ..) (counted_of_rd_before (State.rd_emit ..) (counted_inc_at (by decide)))
  · rw [State.upd_leg_same, State.inc_leg, State.emit_leg]
  · rw [State.upd_leg_same, State.inc_leg, State.emit_leg]

theorem lifeRecordWrite_unacked (hack : acked = false) (hready : s.moduleReady l = true) (hfw : s.fwPresent = true) : ∃ t,
    exec (.lifeRecordWrite l acked) s = .next t ∧ Counted Reg.OPT_CNT_BUS_ERRORS l.n 0 1 s t ∧
      (t.leg l).lifeCount = (s.leg l).lifeCount ∧ (t.leg l).lifeCopy = (s.leg l).lifeCopy := by
  subst hack
  refine ⟨_, congrArg Host.Outcome.next ((State.lifeWrite_of_ready hready hfw).trans (if_pos rfl)), ?_, ?_, ?_⟩
  · exact counted_of_rd_before (State.rd_emit ..) (counted_inc_at (by decide))
  · rw [State.inc_leg, State.emit_leg]
  · rw [State.inc_leg, State.emit_leg]

/-! ### Bias samples (R405) -/

/-- A sample of laser 0 near the reference temperature joins the samples, at their head. -/
theorem State.sample_joins (hnear : (signed 16 (s.rd Reg.OPT_TELEM_LASER_LASER_T l.n 0) -
    signed 16 (s.rd Reg.TIME_LEG_LASER_REF_T_REF l.n)).natAbs ≤ 512) :
    ((s.sample l 0).leg l).bias0.head? = some (s.rd Reg.OPT_LIFE_ON_NS l.n 0, s.rd Reg.OPT_TELEM_BIAS l.n 0) := by
  unfold State.sample
  extract_lets s₁ d b s₂ p s₃
  have hnear' : ¬(d < -512 ∨ 512 < d) := by
    have hd : d = signed 16 (s.rd Reg.OPT_TELEM_LASER_LASER_T l.n 0) - signed 16 (s.rd Reg.TIME_LEG_LASER_REF_T_REF l.n) := by
      unfold d s₁
      rw [State.rd_wr_row rfl, State.rd_wr_row rfl]
    omega
  have hp : p = (s.rd Reg.OPT_LIFE_ON_NS l.n 0, s.rd Reg.OPT_TELEM_BIAS l.n 0) := by
    have hon : s₂.rd Reg.OPT_LIFE_ON_NS l.n 0 = s.rd Reg.OPT_LIFE_ON_NS l.n 0 := by
      have h₁ : s₁.rd Reg.OPT_LIFE_ON_NS l.n 0 = s.rd Reg.OPT_LIFE_ON_NS l.n 0 := State.rd_wr_row rfl
      unfold s₂
      split
      · exact ((State.setBol_foot ..).rd_leg rfl).trans h₁
      · exact h₁
    have hb : b = s.rd Reg.OPT_TELEM_BIAS l.n 0 := State.rd_wr_row rfl
    unfold p
    rw [hon, hb]
  rw [if_neg hnear', (State.project_foot ..).leg_keeps rfl]
  unfold s₃
  rw [State.upd_leg_same, if_pos rfl, hp]
  rfl

/-- A sample of laser 1 leaves those of laser 0. -/
theorem State.sample_other : ((s.sample l 1).leg l).bias0 = (s.leg l).bias0 := by
  unfold State.sample
  extract_lets s₁ d b s₂ p s₃
  have h₁ : s₁.leg l = s.leg l := State.wr_leg
  have h₂ : s₂.leg l = s.leg l := by
    unfold s₂
    split
    · exact ((State.setBol_foot ..).leg_keeps rfl).trans h₁
    · exact h₁
  split
  · rw [h₁]
  · rw [(State.project_foot ..).leg_keeps rfl]
    unfold s₃
    rw [State.upd_leg_same, if_neg (by decide)]
    show (s₂.leg l).bias0 = _
    rw [h₂]

theorem biasSample_joins (hready : s.moduleReady l = true) (hfw : s.fwPresent = true)
    (hnear : (signed 16 (s.rd Reg.OPT_TELEM_LASER_LASER_T l.n 0) - signed 16 (s.rd Reg.TIME_LEG_LASER_REF_T_REF l.n)).natAbs ≤ 512) :
    ∃ t, exec (.biasSample l) s = .next t ∧
      (t.leg l).bias0.head? = some (s.rd Reg.OPT_LIFE_ON_NS l.n 0, s.rd Reg.OPT_TELEM_BIAS l.n 0) ∧
      (t.leg l).onLog.head? = some (s.rd Reg.OPT_LIFE_ON_NS l.n 0, s.rd Reg.OPT_LIFE_ON_NS l.n 1) := by
  generalize hlog : ((s.sample l 0).sample l 1).upd l
    (fun g => { g with onLog := ((s.rd Reg.OPT_LIFE_ON_NS l.n 0, s.rd Reg.OPT_LIFE_ON_NS l.n 1) :: g.onLog).take 24 }) = x
  have hbias : s.biasSample l = if x.rd Reg.OPT_LIFE_STAT_DAYS_LEFT l.n 0 < 90 ∨ x.rd Reg.OPT_LIFE_STAT_DAYS_LEFT l.n 1 < 90 then
      (x.wr Reg.PROT_RR_DETAIL_LEG l.n).replaceRequest 3 else x := by
    rw [← hlog]
    exact if_neg (by rw [hready, hfw]; decide)
  have hleg : (s.biasSample l).leg l = x.leg l := by
    rw [hbias]
    split
    · exact ((State.replaceRequest_foot ..).leg_keeps rfl).trans State.wr_leg
    · rfl
  refine ⟨_, rfl, ?_, ?_⟩ <;> rw [hleg, ← hlog, State.upd_leg_same]
  · exact (congrArg List.head? State.sample_other).trans (State.sample_joins hnear)
  · rfl

theorem biasSample_unready (hnot : s.moduleReady l = false) : exec (.biasSample l) s = .next s :=
  congrArg Host.Outcome.next (if_pos (by rw [hnot]; rfl))

end

/-- Settles O50: overload and polls by what they count and mark, telemetry and samples by what they put in the leg's records. -/
theorem modulesAreWatchedAndAccounted : Obligations.ModulesAreWatchedAndAccounted := by
  unfold Obligations.ModulesAreWatchedAndAccounted
  exact ⟨fun _ _ _ _ => rxovl_marks, fun _ _ _ _ => rxovl_below,
    fun _ _ _ _ _ _ hack htx hready hquiet hin hdue _ => safetyPoll_clean hack htx hready hquiet hin hdue,
    fun _ _ _ _ _ _ => safetyPoll_txFault, fun _ _ _ _ _ _ => safetyPoll_unacked, fun _ _ => rfl, fun _ _ _ _ => telemetryRead_shows,
    fun _ _ _ => telemetryRead_unready, fun _ _ _ => lifeRecordWrite_acked, fun _ _ _ => lifeRecordWrite_unacked,
    fun _ _ => biasSample_joins, fun _ _ => biasSample_unready⟩

end Sys2Proof.Machine

/-! SUPPORT. Progress of a long operation whose TOTAL is wider than its field (12_mailboxes_and_admin.md, R331). A state is any list of
register fields, and nothing in the statement says that a field lies below two to the power of its width. -/

namespace Sys2Proof.Machine

/-- A scrub runs in entry 0 of ADM_LOP under handle 1, with PROGRESS entries off and a TOTAL of 2^32 that its 32-bit field cannot hold. -/
def overfullScrub : State :=
  let s := (((State.reset.wr Reg.ADM_LOP0_HANDLE 1).wr Reg.ADM_LOP0_STATE 1).wr Reg.ADM_LOP0_OPCODE 0x42).wr Reg.ADM_CTL_PROG_MS 0
  { s with regs := Tab.put 0 (Reg.ADM_LOP3_TOTAL.key 0 0) (2 ^ 32) s.regs }

/-- The invariant does not exclude the state. -/
theorem overfullScrub_inv : Inv overfullScrub := ⟨⟨by decide +kernel, by decide +kernel, by decide +kernel⟩, bounded_reset⟩

theorem overfullScrub_op : overfullScrub.opOf 1 = some 0 := by decide +kernel

theorem overfullScrub_running : overfullScrub.opState 0 = 1 := by decide +kernel

theorem overfullScrub_code : overfullScrub.opCode 0 ≠ 0x47 := by decide +kernel

theorem overfullScrub_quiet : overfullScrub.isOn Reg.ADM_CTL_PROG_MS = false := by decide +kernel

theorem overfullScrub_bounds :
    min (overfullScrub.rd Reg.ADM_LOP3_TOTAL 0 0) (overfullScrub.rd Reg.ADM_LOP2_DONE 0 0 + 2 ^ 32) = 2 ^ 32 := by decide +kernel

/-- All the units done leave DONE at zero: the write keeps the field's 32 bits. -/
theorem overfullScrub_done : (overfullScrub.progress 1 (.units (2 ^ 32))).rd Reg.ADM_LOP2_DONE 0 0 = 0 := by decide +kernel

/-- Refutes O44, by its clause that progress counts the units done up to the total: where TOTAL stands above its field's width, the least of
both does not fit the 32 bits of DONE, and the write cuts it off. -/
theorem not_longOperationsSuspendWorkAndEnd : ¬ Obligations.LongOperationsSuspendWorkAndEnd := by
  unfold Obligations.LongOperationsSuspendWorkAndEnd
  rintro ⟨-, -, -, -, -, -, -, -, hprogress, -⟩
  obtain ⟨t, ht, hdone, -⟩ := hprogress 1 (.units (2 ^ 32)) 0 (2 ^ 32) overfullScrub overfullScrub_op overfullScrub_running
    overfullScrub_code rfl overfullScrub_quiet
  obtain rfl : overfullScrub.progress 1 (.units (2 ^ 32)) = t := Host.Outcome.next.inj ht
  exact absurd (overfullScrub_done.symm.trans (hdone.trans overfullScrub_bounds)) (by decide)

end Sys2Proof.Machine

/-! SUPPORT. Taking a command of the admin queue and answering it (12_mailboxes_and_admin.md, R330, R331, R333): what a completion entry
rests on, what keeps it, and the three ways in which `admTake` goes on. -/

namespace Sys2Proof.Machine

section
variable {s t u x : State} {R : Row} {e b : List Byte} {v i n st r op cid m : Nat} {used : List (Nat × Nat)}
  {act : State → Option (Nat × Nat) × State}

/-! ### What a completion entry rests on -/

/-- The fields of the admin completion ring and of the PF's way to host memory. -/
def completionRows : List Row :=
  [Reg.ADM_CQ_CTL_CQ_EN, Reg.ADM_CQ_CTL_CQ_SIZE, Reg.ADM_CQ_IDX_CQ_PROD, Reg.ADM_CQ_IDX_CQ_CONS, Reg.ADM_CQ_BASE_LO, Reg.ADM_CQ_BASE_HI,
  Reg.HIF_LINK_UP, Reg.HIF_LINK_USABLE, Reg.HIF_LINK_HOLD, Reg.HIF_FN_STATUS_BME, Reg.HIF_FN_STATUS_HOLD, Reg.HIF_FN_STATUS_FLR_BUSY]

/-- The admin completion ring stands as it did, nothing new waits for it, and the trace has only grown. -/
structure Unanswered (s t : State) : Prop where
  rows : ∀ R ∈ completionRows, t.rd R = s.rd R
  cfg : t.host.cfg = s.host.cfg
  wait : t.adm.cqWait = s.adm.cqWait
  out : s.out <+: t.out

theorem Unanswered.refl : Unanswered s s := ⟨fun _ _ => rfl, rfl, rfl, List.prefix_rfl⟩

theorem Unanswered.trans (h : Unanswered s t) (g : Unanswered t u) : Unanswered s u :=
  ⟨fun R hR => (g.rows R hR).trans (h.rows R hR), g.cfg.trans h.cfg, g.wait.trans h.wait, h.out.trans g.out⟩

theorem Unanswered.rd (h : Unanswered s t) (hR : completionRows.contains R = true) : t.rd R = s.rd R :=
  h.rows R (List.mem_of_elem_eq_true hR)

theorem Unanswered.isOn (h : Unanswered s t) (hR : completionRows.contains R = true) : t.isOn R = s.isOn R := by
  rw [State.isOn, h.rd hR, State.isOn]

theorem Unanswered.canDma (h : Unanswered s t) : t.canDma 0 = s.canDma 0 := by
  have hcfg : t.cfg 0 Cfg.d3hot = s.cfg 0 Cfg.d3hot := by rw [State.cfg, h.cfg, State.cfg]
  rw [State.canDma, State.linkOk, h.isOn rfl, h.isOn rfl, h.isOn rfl, h.isOn rfl, h.isOn rfl, h.isOn rfl, hcfg, State.canDma, State.linkOk]

theorem Unanswered.ringBits (h : Unanswered s t) : t.ringBits .acq 0 = s.ringBits .acq 0 := by
  unfold State.ringBits ringRows
  dsimp only
  rw [h.rd rfl]

theorem Unanswered.admCan (h : Unanswered s t) : t.admCan = s.admCan := by
  rw [State.admCan, h.isOn rfl, h.canDma, h.rd rfl, h.rd rfl, State.ringRoom, h.ringBits, State.admCan, State.ringRoom]

theorem Unanswered.admWritten (h : Unanswered s t) : admWritten t e = admWritten s e := by
  unfold Machine.admWritten
  rw [h.rd rfl, h.ringBits, State.rd2, h.rd rfl, h.rd rfl, State.rd2]

/-- A completion that comes later is one of the state before. -/
theorem Unanswered.completed (h : Unanswered s t) (hc : Completed e t u) : Completed e s u := by
  obtain ⟨hwritten, hwaits⟩ := hc
  refine ⟨fun hnone hcan => ?_, fun hcan => ?_⟩
  · have hmem := hwritten (h.wait.trans hnone) (h.admCan.trans hcan)
    obtain ⟨more, hmore⟩ := h.out
    rw [h.admWritten, ← hmore, List.length_append, ← List.drop_drop] at hmem
    exact List.mem_of_mem_drop hmem
  · rw [hwaits (h.admCan.trans hcan), h.wait]

/-- A completion stands whatever the trace gets after it. -/
theorem completed_of_after (hc : Completed e s t) (hout : t.out <+: u.out) (hwait : u.adm.cqWait = t.adm.cqWait) : Completed e s u := by
  obtain ⟨hwritten, hwaits⟩ := hc
  refine ⟨fun hnone hcan => ?_, fun hcan => hwait.trans (hwaits hcan)⟩
  have hmem := hwritten hnone hcan
  obtain ⟨more, hmore⟩ := hout
  rw [← hmore]
  by_cases hlen : s.out.length ≤ t.out.length
  · rw [List.drop_append_of_le_length hlen]
    exact List.mem_append_left _ hmem
  · rw [List.drop_of_length_le (by omega)] at hmem
    exact absurd hmem List.not_mem_nil

/-! ### What leaves the completion ring alone -/

theorem Unanswered.of_foot (h : Foot m s t) (hrows : completionRows.all (keepsRow m) = true) (hadm : m.testBit 1017 = false)
    (hcfg : t.host.cfg = s.host.cfg) (hout : s.out <+: t.out) : Unanswered s t :=
  ⟨fun R hR => h.rd_keeps (List.all_eq_true.mp hrows R hR), hcfg, congrArg AdmSt.cqWait (h.adm hadm), hout⟩

/-- An operation that writes nothing but registers and parts outside the host's, the admin queue's and the trace. -/
theorem Unanswered.of_inner (h : Foot m s t) (hrows : completionRows.all (keepsRow m) = true) (hadm : m.testBit 1017 = false)
    (hhost : m.testBit 1010 = false) (hout : m.testBit 1024 = false) : Unanswered s t :=
  .of_foot h hrows hadm (congrArg HostSt.cfg (h.host hhost)) (by rw [(h.out hout).1])

theorem unanswered_wr (h : completionRows.all (fun Q => otherRow Q R) = true) : Unanswered s (s.wr R v 0 i) :=
  ⟨fun Q hQ => State.rd_wr_row (l := .a) (k := .a) (List.all_eq_true.mp h Q hQ), rfl, rfl, List.prefix_rfl⟩

theorem unanswered_inc (h : completionRows.all (fun Q => otherRow Q R) = true) : Unanswered s (s.inc R 0 i n) := unanswered_wr h

theorem unanswered_emits {os : List Output} : Unanswered s (s.emits os) := ⟨fun _ _ => rfl, rfl, rfl, List.prefix_append ..⟩

theorem unanswered_raiseFor {src det detL : Nat} {own : Option Nat} : Unanswered s (s.raiseFor src own det detL) :=
  .of_foot (State.raiseFor_foot ..) rfl rfl reports_raiseFor.cfg State.raiseFuel_out

theorem unanswered_event {src det : Nat} : Unanswered s (s.event src det) := unanswered_raiseFor

theorem unanswered_hostEvent {k f det detL : Nat} : Unanswered s (s.hostEvent k f det detL) := unanswered_raiseFor

/-! ### Writing a completion (R330) -/

theorem State.admCqFull_cqWait : s.admCqFull.adm.cqWait = s.adm.cqWait := by
  unfold State.admCqFull
  split
  · rfl
  · exact unanswered_hostEvent.wait

/-- Where the ring cannot take an entry, every entry goes on waiting. -/
theorem State.admFlush_stuck (hcan : s.admCan = false) : (s.admFlush n).adm.cqWait = s.adm.cqWait := by
  cases n with
  | zero => rfl
  | succ n =>
    unfold State.admFlush
    split
    · rfl
    · extract_lets prod sz phase addr entry x y
      have hno : (!s.isOn Reg.ADM_CQ_CTL_CQ_EN || !s.canDma 0) = true ∨ sub16 prod (s.rd Reg.ADM_CQ_IDX_CQ_CONS) ≥ s.ringRoom .acq 0 := by
        rw [State.admCan] at hcan
        rcases hen : s.isOn Reg.ADM_CQ_CTL_CQ_EN
        · exact .inl rfl
        · rcases hdma : s.canDma 0
          · exact .inl rfl
          · rw [hen, hdma] at hcan
            exact .inr (Nat.le_of_not_lt (of_decide_eq_false hcan))
      rcases hno with h | h
      · rw [if_pos h]
      · rw [if_pos h]
        split
        · rfl
        · exact State.admCqFull_cqWait

theorem State.msix_out_of {f vec : Nat} {os : List Output} (h : s.out = os) : os <+: (s.msix f vec).out := h ▸ State.msix_out

/-- Where the ring can take an entry, it is written at once. -/
theorem State.admFlush_writes (hcan : s.admCan = true) (hone : s.adm.cqWait = [e]) :
    admWritten s e ∈ (s.admFlush 1).out.drop s.out.length := by
  rw [State.admCan, Bool.and_eq_true, Bool.and_eq_true] at hcan
  obtain ⟨⟨hen, hdma⟩, hroom⟩ := hcan
  have hroom' := of_decide_eq_true hroom
  unfold State.admFlush
  rw [hone]
  dsimp only
  rw [if_neg (by rw [hen, hdma]; decide), if_neg (Nat.not_le_of_lt hroom')]
  have hstep : ∀ {y : State}, s.out ++ [admWritten s e] <+: y.out → admWritten s e ∈ (State.admFlush 0 y).out.drop s.out.length := by
    rintro y ⟨more, hmore⟩
    rw [State.admFlush, ← hmore, List.append_assoc, List.drop_left']
    · exact List.mem_append_left _ (List.mem_singleton_self _)
    · rfl
  refine hstep ?_
  dsimp only
  split
  · exact State.msix_out_of rfl
  · exact List.prefix_rfl

/-- The entry stands last of those that wait. -/
def State.awaiting (s : State) (e : List Byte) : State := { s with adm := { s.adm with cqWait := s.adm.cqWait ++ [e] } }

theorem State.admPush_eq : s.admPush e = (s.awaiting e).admFlush (s.awaiting e).adm.cqWait.length := rfl

theorem State.awaiting_admCan : (s.awaiting e).admCan = s.admCan := rfl

theorem completed_admPush : Completed e s (s.admPush e) := by
  rw [State.admPush_eq]
  refine ⟨fun hnone hcan => ?_, fun hcan => State.admFlush_stuck (State.awaiting_admCan.trans hcan)⟩
  have hone : (s.awaiting e).adm.cqWait = [e] := congrArg (· ++ [e]) hnone
  rw [hone]
  exact State.admFlush_writes (State.awaiting_admCan.trans hcan) hone

theorem completed_admDone : Completed (admEntry cid true false st 0 0 r) s (s.admDone cid st r) := by
  unfold State.admDone
  extract_lets y
  have hy : Completed (admEntry cid true false st 0 0 r) s y := completed_admPush
  split
  · exact hy
  · exact completed_of_after hy List.prefix_rfl rfl

theorem counted_admDone_refused (h : st ≠ 0) : Counted Reg.ADM_CNT_REFUSED 0 0 1 s (s.admDone cid st r) :=
  (State.admPush_foot ..).counted_before (l := .a) rfl (by
    rw [show s.admDone cid st r = (s.admPush _).inc Reg.ADM_CNT_REFUSED from if_neg h]
    exact counted_inc_at (by decide))

/-! ### Taking a command (R330, R331, R333) -/

/-- The command is counted and taken from the ring. -/
def State.admTaken (s : State) : State := (s.inc Reg.ADM_CNT_COMMANDS).wr Reg.ADM_SQ_IDX_SQ_CONS (s.rd Reg.ADM_SQ_IDX_SQ_CONS + 1)

theorem unanswered_admTaken : Unanswered s s.admTaken := (unanswered_inc rfl).trans (unanswered_wr rfl)

theorem State.admTaken_rd {l : Leg} (h₁ : otherRow R Reg.ADM_CNT_COMMANDS = true) (h₂ : otherRow R Reg.ADM_SQ_IDX_SQ_CONS = true) :
    s.admTaken.rd R l.n i = s.rd R l.n i := (State.rd_wr_row (l := .a) h₂).trans (State.rd_wr_row (l := .a) h₁)

theorem State.admTaken_rd_at (h₁ : otherRow R Reg.ADM_CNT_COMMANDS = true) (h₂ : otherRow R Reg.ADM_SQ_IDX_SQ_CONS = true) :
    s.admTaken.rd R 0 i = s.rd R 0 i := State.admTaken_rd (l := .a) h₁ h₂

theorem State.admTaken_isOn (h₁ : otherRow R Reg.ADM_CNT_COMMANDS = true) (h₂ : otherRow R Reg.ADM_SQ_IDX_SQ_CONS = true) :
    s.admTaken.isOn R 0 i = s.isOn R 0 i := by rw [State.isOn, State.admTaken_rd_at h₁ h₂, State.isOn]

theorem counted_admTaken : Counted Reg.ADM_CNT_COMMANDS 0 0 1 s s.admTaken :=
  counted_of_rd_after (State.rd_wr_row (l := .a) (k := .a) rfl) (counted_inc_at (by decide))

theorem State.admTaken_admGate : s.admTaken.admGate op = s.admGate op := by
  unfold State.admGate State.fwPresent
  rw [State.admTaken_rd_at rfl rfl, State.admTaken_isOn rfl rfl]
  rfl

theorem State.admTake_of_gate (hr : s.admReady = true) (hg : s.admGate op = some st) :
    s.admTake e op used act = s.admTaken.admDone (admCid e) st 0 := by
  have hgate : s.admTaken.admGate op = some st := State.admTaken_admGate.trans hg
  unfold State.admTake
  rw [if_neg (by rw [hr]; decide)]
  show (match s.admTaken.admGate op with | some st => _ | none => _) = _
  rw [hgate]
  rfl

theorem State.admTake_of_open (hr : s.admReady = true) (hg : s.admGate op = none) :
    s.admTake e op used act = if admOp e ≠ op || !admClean e used then s.admTaken.admDone (admCid e) St.invalid 0 else
      match act s.admTaken with
      | (some (st, r), y) => y.admDone (admCid e) st r
      | (none, y) => y := by
  have hgate : s.admTaken.admGate op = none := State.admTaken_admGate.trans hg
  unfold State.admTake
  rw [if_neg (by rw [hr]; decide)]
  show (match s.admTaken.admGate op with | some st => _ | none => _) = _
  rw [hgate]
  rfl

theorem State.admTake_malformed (hr : s.admReady = true) (hg : s.admGate op = none) (hbad : admOp e ≠ op ∨ admClean e used = false) :
    s.admTake e op used act = s.admTaken.admDone (admCid e) St.invalid 0 :=
  (State.admTake_of_open hr hg).trans (if_pos (by
    rcases hbad with h | h
    · rw [decide_eq_true h, Bool.true_or]
    · rw [h, Bool.not_false, Bool.or_true]))

/-- A command that is well formed and not refused by the terminal's state. -/
structure Admitted (s : State) (e : List Byte) (op : Nat) (used : List (Nat × Nat)) : Prop where
  ready : s.admReady = true
  gate : s.admGate op = none
  code : admOp e = op
  clean : admClean e used = true

theorem Admitted.take (h : Admitted s e op used) : s.admTake e op used act =
    match act s.admTaken with
    | (some (st, r), y) => y.admDone (admCid e) st r
    | (none, y) => y :=
  (State.admTake_of_open h.ready h.gate).trans (if_neg (by rw [h.code, h.clean]; simp))

theorem Admitted.answers (h : Admitted s e op used) (hact : act s.admTaken = (some (st, r), x)) :
    s.admTake e op used act = x.admDone (admCid e) st r := by rw [h.take, hact]

theorem Admitted.goes (h : Admitted s e op used) (hact : act s.admTaken = (none, x)) : s.admTake e op used act = x := by rw [h.take, hact]

/-! ### What an answer shows -/

theorem counted_of_admTaken (hrd : x.rd Reg.ADM_CNT_COMMANDS = s.admTaken.rd Reg.ADM_CNT_COMMANDS) (h : Foot m x t)
    (hk : keepsRow m Reg.ADM_CNT_COMMANDS = true) : Counted Reg.ADM_CNT_COMMANDS 0 0 1 s t :=
  h.counted_after (l := .a) hk (counted_of_rd_after hrd counted_admTaken)

/-- What a short command shows whose work left the completion ring alone. -/
theorem answered_of_admTaken (h : Unanswered s.admTaken x) (hrd : x.rd Reg.ADM_CNT_COMMANDS = s.admTaken.rd Reg.ADM_CNT_COMMANDS) :
    Answered e st r s (x.admDone (admCid e) st r) ∧ Counted Reg.ADM_CNT_COMMANDS 0 0 1 s (x.admDone (admCid e) st r) :=
  ⟨(unanswered_admTaken.trans h).completed completed_admDone, counted_of_admTaken hrd (State.admDone_foot ..) rfl⟩

theorem refused_of_unanswered (h : st ≠ 0) (hrd : x.rd Reg.ADM_CNT_REFUSED = s.admTaken.rd Reg.ADM_CNT_REFUSED) :
    Counted Reg.ADM_CNT_REFUSED 0 0 1 s (x.admDone cid st r) :=
  counted_of_rd_before (hrd.trans (State.admTaken_rd_at rfl rfl)) (counted_admDone_refused h)

/-- A command refused at once: its answer, counted as taken and as refused. -/
theorem refused_admTaken (h : st ≠ 0) (ht : t = s.admTaken.admDone (admCid e) st r) :
    Answered e st r s t ∧ Counted Reg.ADM_CNT_COMMANDS 0 0 1 s t ∧ Counted Reg.ADM_CNT_REFUSED 0 0 1 s t := by
  subst ht
  obtain ⟨hanswer, hcount⟩ := answered_of_admTaken (s := s) (e := e) (st := st) (r := r) .refl rfl
  exact ⟨hanswer, hcount, refused_of_unanswered h rfl⟩

theorem admTake_gate_refuses (hr : s.admReady = true) (hg : s.admGate op = some st) (h : st ≠ 0) : ∃ t,
    (Host.Outcome.next (s.admTake e op used act) : Out) = .next t ∧ Answered e st 0 s t ∧ Counted Reg.ADM_CNT_COMMANDS 0 0 1 s t ∧
      Counted Reg.ADM_CNT_REFUSED 0 0 1 s t := ⟨_, rfl, refused_admTaken h (State.admTake_of_gate hr hg)⟩

theorem admTake_form_refuses (hr : s.admReady = true) (hg : s.admGate op = none) (hbad : admOp e ≠ op ∨ admClean e used = false) : ∃ t,
    (Host.Outcome.next (s.admTake e op used act) : Out) = .next t ∧ Answered e 2 0 s t ∧ Counted Reg.ADM_CNT_COMMANDS 0 0 1 s t ∧
      Counted Reg.ADM_CNT_REFUSED 0 0 1 s t := ⟨_, rfl, refused_admTaken (by decide) (State.admTake_malformed hr hg hbad)⟩

end

end Sys2Proof.Machine

/-! SUPPORT. The short commands of the admin queue (12_mailboxes_and_admin.md, R333, R334, R342, R356, R358 to R362): what the work of each
leaves of the completion ring, and what it shows. -/

namespace Sys2Proof.Machine

section
variable {s t x : State} {R : Row} {e b : List Byte} {v i n k st r op cid : Nat} {used : List (Nat × Nat)} {key : HostRead} {y : Settings}

/-! ### The work leaves the completion ring alone -/

theorem unanswered_setFuse {f : FuseSt → FuseSt} : Unanswered s (s.setFuse f) := ⟨fun _ _ => rfl, rfl, rfl, List.prefix_rfl⟩

theorem unanswered_saveSettings : Unanswered s (s.saveSettings n) := .of_inner (State.saveSettings_foot ..) rfl rfl rfl rfl

theorem unanswered_saveNow : Unanswered s s.saveNow := unanswered_saveSettings

theorem unanswered_writeRec {rec' : BootRec} : Unanswered s (s.writeRec rec') := .of_inner (State.writeRec_foot ..) rfl rfl rfl rfl

theorem unanswered_countDenied : Unanswered s (s.countDenied st) := by
  unfold State.countDenied
  split
  · exact (unanswered_inc rfl).trans unanswered_event
  · exact .refl

theorem State.hostEvent_out_of {f det detL : Nat} {o : List Output} (h : s.out = o) : o <+: (s.hostEvent k f det detL).out :=
  h ▸ State.raiseFuel_out

theorem unanswered_errLog {f code status ring value : Nat} : Unanswered s (s.errLog f code status ring value) := by
  refine .of_foot (State.errLog_foot ..) rfl rfl reports_errLog.cfg ?_
  unfold State.errLog
  dsimp only
  split
  · refine State.hostEvent_out_of ?_
    split <;> rfl
  · exact List.prefix_rfl

theorem unanswered_confirm : Unanswered s s.confirm := by
  have hevent : Unanswered s (((s.writeRec { s.bootRec with trial := false }).wr Reg.FW_STATUS_TRIAL 0).event (Ev.fw 8)) :=
    (unanswered_writeRec.trans (unanswered_wr rfl)).trans unanswered_event
  unfold State.confirm
  dsimp only
  split
  · exact hevent
  · exact hevent.trans unanswered_saveSettings

theorem unanswered_zeroise : Unanswered s s.zeroise := by
  have hkeys : s.zeroiseKeys.host = s.host := (State.zeroiseKeys_foot s).host rfl
  have hwipe {x : State} {l : Leg} : (x.wipeHeKey l).host = x.host := (State.wipeHeKey_foot x l).host rfl
  refine .of_foot (State.zeroise_foot s) rfl rfl ?_ (by rw [((State.zeroise_foot s).out rfl).1])
  simp only [State.zeroise, State.setFlash, State.setFuse, hwipe, hkeys]

theorem unanswered_lcRun : Unanswered s (s.lcRun k) := by
  have hwork {x : State} : Unanswered x (x.lcWork k) := by
    unfold State.lcWork
    split
    · exact unanswered_setFuse
    · split
      · exact unanswered_zeroise
      · exact .refl
  have hsettle {x : State} : Unanswered x x.settleLc := .of_inner (State.settleLc_foot ..) rfl rfl rfl rfl
  exact ((unanswered_setFuse.trans hwork).trans (unanswered_setFuse.trans hsettle)).trans unanswered_event

/-! ### NOP -/

theorem nop_answers (h : Admitted s e 0x00 []) : ∃ t, exec (.nop e) s = .next t ∧ Answered e 0 0 s t ∧
    Counted Reg.ADM_CNT_COMMANDS 0 0 1 s t ∧ t.rd Reg.ADM_CNT_REFUSED = s.rd Reg.ADM_CNT_REFUSED := by
  obtain ⟨hanswer, hcount⟩ := answered_of_admTaken (s := s) (e := e) (st := 0) (r := 0) .refl rfl
  refine ⟨_, congrArg Host.Outcome.next (h.answers rfl), hanswer, hcount, ?_⟩
  exact ((State.admPush_foot ..).rd_at rfl).trans (State.admTaken_rd_at rfl rfl)

theorem nop_still (h : s.admReady = false) : exec (.nop e) s = .next s :=
  congrArg Host.Outcome.next (if_pos (by rw [h]; rfl))

/-! ### What is read from flash -/

section
variable (h : t.fw.flash = s.fw.flash)
include h

theorem State.flashRead_congr : t.flashRead i n = s.flashRead i n := by
  unfold State.flashRead State.regionBytes State.imgBytes State.img
  simp only [h]

theorem State.hdr_congr : t.hdr k = s.hdr k := State.flashRead_congr h

theorem State.settingsCopy_congr : t.settingsCopy k = s.settingsCopy k := by
  unfold State.settingsCopy
  simp only [State.flashRead_congr h]

theorem State.settingsOf_congr : t.settingsOf k = s.settingsOf k := by
  unfold State.settingsOf State.readable
  simp only [State.settingsCopy_congr h, State.hdr_congr h]

end

theorem State.admTaken_hdr : s.admTaken.hdr n = s.hdr n := State.hdr_congr rfl

theorem State.admTaken_settingsOf : s.admTaken.settingsOf n = s.settingsOf n := State.settingsOf_congr rfl

/-! ### IDENTIFY and QUERY_OP -/

/-- The GEN block is read from its own fields alone. -/
theorem State.genBytes_congr (h : ∀ R ∈ Reg.tableGEN0, ∀ i, t.rd R 0 i = s.rd R 0 i) : t.genBytes = s.genBytes := by
  have hword : ∀ addr, t.genWord addr = s.genWord addr := fun addr =>
    List.foldl_ext _ _ _ fun n R hR => List.foldl_ext _ _ _ fun m i _ => by rw [h R hR i]
  unfold State.genBytes
  simp only [hword]

theorem State.admTaken_genBytes : s.admTaken.genBytes = s.genBytes := by
  have hother : ∀ R ∈ Reg.tableGEN0, otherRow R Reg.ADM_CNT_COMMANDS = true ∧ otherRow R Reg.ADM_SQ_IDX_SQ_CONS = true := by decide +kernel
  exact State.genBytes_congr fun R hR i => State.admTaken_rd_at (hother R hR).1 (hother R hR).2

theorem State.admTaken_idHeader : s.admTaken.idHeader k = s.idHeader k := by
  rw [State.idHeader, State.admTaken_isOn rfl rfl, State.admTaken_hdr, State.idHeader]

theorem State.admCqFull_out : s.out <+: s.admCqFull.out := by
  unfold State.admCqFull
  split
  · exact List.prefix_rfl
  · exact State.hostEvent_out_of rfl

theorem State.admFlush_out {o : List Output} (h : o <+: s.out) : o <+: (s.admFlush n).out := by
  induction n generalizing s with
  | zero => exact h
  | succ n ih =>
    unfold State.admFlush
    split
    · exact h
    · extract_lets prod sz phase addr entry x y
      have hx : o <+: x.out := h.trans (List.prefix_append ..)
      have hy : o <+: y.out := by
        unfold y
        split
        · exact hx.trans State.msix_out
        · exact hx
      split
      · exact h
      · split
        · exact h.trans State.admCqFull_out
        · exact ih hy

theorem State.admPush_out : s.out <+: (s.admPush b).out := State.admFlush_out (s := s.awaiting b) List.prefix_rfl

theorem State.admDone_out : s.out <+: (s.admDone cid st r).out := by
  unfold State.admDone
  dsimp only
  split <;> exact State.admPush_out

/-- What IDENTIFY writes to host memory. -/
def State.identifyWrites (s : State) (addr : Nat) : List Output := s.dmaWrites 0 addr false (s.genBytes ++ s.idHeader 0 ++ s.idHeader 1)

theorem State.admTaken_identifyWrites : s.admTaken.identifyWrites n = s.identifyWrites n := by
  rw [State.identifyWrites, State.admTaken_genBytes, State.admTaken_idHeader, State.admTaken_idHeader, State.identifyWrites]
  rfl

theorem identify_writes (h : Admitted s e 0x01 (wholeBytes 16 8)) (hdma : s.canDma 0 = true) : ∃ t, exec (.identify e) s = .next t ∧
    (t.out.drop s.out.length).take (s.identifyWrites (admPar e 16 8)).length = s.identifyWrites (admPar e 16 8) ∧
    Counted Reg.ADM_CNT_COMMANDS 0 0 1 s t := by
  have hwrite : s.admTaken.admWrite (admPar e 16 8) (s.admTaken.genBytes ++ s.admTaken.idHeader 0 ++ s.admTaken.idHeader 1) =
      (St.ok, s.admTaken.emits (s.identifyWrites (admPar e 16 8))) := by
    rw [← State.admTaken_identifyWrites]
    exact if_pos (unanswered_admTaken.canDma.trans hdma)
  obtain ⟨-, hcount⟩ := answered_of_admTaken (s := s) (e := e) (st := 0) (r := 0)
    (unanswered_emits (os := s.identifyWrites (admPar e 16 8))) rfl
  refine ⟨_, congrArg Host.Outcome.next (h.answers (by dsimp only; rw [hwrite]; rfl)), ?_, hcount⟩
  obtain ⟨more, hmore⟩ := State.admDone_out (s := s.admTaken.emits (s.identifyWrites (admPar e 16 8))) (cid := admCid e)
    (st := St.ok) (r := 0)
  have hout : s.out ++ s.identifyWrites (admPar e 16 8) ++ more =
      ((s.admTaken.emits (s.identifyWrites (admPar e 16 8))).admDone (admCid e) St.ok 0).out := hmore
  show ((State.admDone _ _ St.ok 0).out.drop s.out.length).take _ = _
  rw [← hout, List.append_assoc, List.drop_left, List.take_left]

theorem identify_linkLost (h : Admitted s e 0x01 (wholeBytes 16 8)) (hdma : s.canDma 0 = false) : ∃ t, exec (.identify e) s = .next t ∧
    Answered e 9 0 s t ∧ Counted Reg.ADM_CNT_COMMANDS 0 0 1 s t := by
  have hwrite : ∀ data, s.admTaken.admWrite (admPar e 16 8) data = (St.hostLinkLost, s.admTaken) := fun data =>
    if_neg (by rw [unanswered_admTaken.canDma, hdma]; decide)
  exact ⟨_, congrArg Host.Outcome.next (h.answers (by dsimp only; rw [hwrite]; rfl)), answered_of_admTaken .refl rfl⟩

theorem State.opOf_congr (h : ∀ i, t.rd Reg.ADM_LOP0_HANDLE 0 i = s.rd Reg.ADM_LOP0_HANDLE 0 i) : t.opOf n = s.opOf n := by
  unfold State.opOf
  simp only [h]

theorem State.admTaken_opOf : s.admTaken.opOf n = s.opOf n := State.opOf_congr fun _ => State.admTaken_rd_at rfl rfl

theorem State.admTaken_opCode : s.admTaken.opCode i = s.opCode i := State.admTaken_rd_at rfl rfl

theorem State.admTaken_opState : s.admTaken.opState i = s.opState i := State.admTaken_rd_at rfl rfl

theorem queryOp_live (h : Admitted s e 0x02 []) (hop : s.opOf (admHandle e) = some i) : ∃ t, exec (.queryOp e) s = .next t ∧
    Answered e 0 (s.opState i + 256 * s.opCode i + 65536 * s.rd Reg.ADM_LOP1_PERMILLE 0 i) s t ∧
    Counted Reg.ADM_CNT_COMMANDS 0 0 1 s t := by
  refine ⟨_, congrArg Host.Outcome.next (h.answers (by rw [State.admTaken_opOf, hop])), ?_⟩
  rw [State.admTaken_opState, State.admTaken_opCode, State.admTaken_rd_at rfl rfl]
  exact answered_of_admTaken .refl rfl

theorem queryOp_dead (h : Admitted s e 0x02 []) (hop : s.opOf (admHandle e) = none) : ∃ t, exec (.queryOp e) s = .next t ∧
    Answered e 4 0 s t ∧ Counted Reg.ADM_CNT_COMMANDS 0 0 1 s t :=
  ⟨_, congrArg Host.Outcome.next (h.answers (by rw [State.admTaken_opOf, hop]; rfl)), answered_of_admTaken .refl rfl⟩

/-! ### SETTINGS_SAVE (R358, R359) -/

theorem Tab.filter_ins_of_not {α : Type} {p : Nat × α → Bool} {v : α} {t : Tab α} (hp : ∀ w, p (k, w) = false) :
    (Tab.ins k v t).filter p = t.filter p := by
  induction t with
  | nil => simp [Tab.ins, hp]
  | cons a t ih =>
    obtain ⟨j, w⟩ := a
    unfold Tab.ins
    split
    next heq =>
      subst heq
      simp [hp]
    next =>
      split
      · simp [hp]
      · simp only [List.filter_cons, ih]

theorem Tab.filter_del_of_not {α : Type} {p : Nat × α → Bool} {t : Tab α} (hp : ∀ w, p (k, w) = false) :
    (Tab.del k t).filter p = t.filter p := by
  induction t with
  | nil => rfl
  | cons a t ih =>
    obtain ⟨j, w⟩ := a
    unfold Tab.del
    split
    next heq =>
      subst heq
      simp [hp, ih]
    next => simp only [List.filter_cons, ih]

/-- The stored fields are as they were after a write of a field that is not stored. -/
theorem State.stored_wr (h : isStored (R.key 0 i) = false) :
    (s.wr R v 0 i).regs.filter (fun p => isStored p.1) = s.regs.filter (fun p => isStored p.1) := by
  unfold State.wr Row.set
  dsimp only
  split
  · unfold Tab.put
    split
    · exact Tab.filter_del_of_not fun _ => h
    · exact Tab.filter_ins_of_not fun _ => h
  · rfl

theorem State.admTaken_stored : s.admTaken.regs.filter (fun p => isStored p.1) = s.regs.filter (fun p => isStored p.1) :=
  (State.stored_wr (by decide +kernel)).trans (State.stored_wr (by decide +kernel))

theorem State.admTaken_runSlot : s.admTaken.runSlot = s.runSlot := State.admTaken_rd_at rfl rfl

/-- The copy that SETTINGS_SAVE writes where the image reads one. -/
def State.savedCopy (s : State) (y : Settings) : Settings :=
  { schema := (if s.isOn Reg.FW_STATUS_TRIAL = true then y.schema else hLe (s.hdr s.runSlot) 52 2), seq := (y.seq + 1) % 2 ^ 32,
    fields := s.regs.filter fun p => isStored p.1 }

theorem State.saveNow_programs (h : s.settingsOf s.runSlot = some (y, n)) :
    s.admTaken.saveNow = s.admTaken.program (if n = 0 then 6 else 5) (s.savedCopy y).bytes := by
  have htrial : s.admTaken.isOn Reg.FW_STATUS_TRIAL = s.isOn Reg.FW_STATUS_TRIAL := State.admTaken_isOn rfl rfl
  unfold State.saveNow State.saveSettings State.savedCopy
  simp only [State.admTaken_runSlot, htrial, State.admTaken_stored, State.admTaken_hdr, h, Option.map_some,
    Option.getD_some, State.admTaken_settingsOf]

theorem settingsSave_saves (h : Admitted s e 0x06 []) (hread : s.settingsOf s.runSlot = some (y, n)) : ∃ t,
    exec (.settingsSave e) s = .next t ∧ Answered e 0 0 s t ∧
      t.fw = (s.admTaken.program (if n = 0 then 6 else 5) (s.savedCopy y).bytes).fw ∧ Counted Reg.ADM_CNT_COMMANDS 0 0 1 s t := by
  obtain ⟨hanswer, hcount⟩ := answered_of_admTaken (s := s) (e := e) (st := St.ok) (r := 0) unanswered_saveNow
    ((State.saveNow_foot ..).rd_at rfl)
  refine ⟨_, congrArg Host.Outcome.next (h.answers (if_neg ?_)), hanswer, ?_, hcount⟩
  · rw [State.admTaken_runSlot, State.unreadable, State.admTaken_settingsOf, hread]
    exact Bool.false_ne_true
  · rw [(State.admDone_foot ..).fw rfl, State.saveNow_programs hread]

theorem settingsSave_second (h : Admitted s e 0x06 []) (hread : s.settingsOf s.runSlot = some (y, 0)) : ∃ t,
    exec (.settingsSave e) s = .next t ∧ Answered e 0 0 s t ∧ t.fw.flash.set1 = (s.savedCopy y).bytes ∧
      t.fw.flash.set0 = s.fw.flash.set0 ∧ Counted Reg.ADM_CNT_COMMANDS 0 0 1 s t := by
  obtain ⟨t, ht, hanswer, hfw, hcount⟩ := settingsSave_saves h hread
  exact ⟨t, ht, hanswer, congrArg (·.flash.set1) hfw, congrArg (·.flash.set0) hfw, hcount⟩

theorem settingsSave_first (h : Admitted s e 0x06 []) (hread : s.settingsOf s.runSlot = some (y, 1)) : ∃ t,
    exec (.settingsSave e) s = .next t ∧ Answered e 0 0 s t ∧ t.fw.flash.set0 = (s.savedCopy y).bytes ∧
      t.fw.flash.set1 = s.fw.flash.set1 ∧ Counted Reg.ADM_CNT_COMMANDS 0 0 1 s t := by
  obtain ⟨t, ht, hanswer, hfw, hcount⟩ := settingsSave_saves h hread
  exact ⟨t, ht, hanswer, congrArg (·.flash.set0) hfw, congrArg (·.flash.set1) hfw, hcount⟩

theorem settingsSave_unreadable (h : Admitted s e 0x06 []) (hno : s.unreadable s.runSlot = true) : ∃ t, exec (.settingsSave e) s = .next t ∧
    Answered e 12 0 s t ∧ t.fw = s.fw ∧ Counted Reg.ADM_CNT_COMMANDS 0 0 1 s t := by
  obtain ⟨hanswer, hcount⟩ := answered_of_admTaken (s := s) (e := e) (st := St.settingsUnreadable) (r := 0) .refl rfl
  have hno' : s.admTaken.unreadable s.admTaken.runSlot = true := by
    rw [State.admTaken_runSlot, State.unreadable, State.admTaken_settingsOf]
    exact hno
  exact ⟨_, congrArg Host.Outcome.next (h.answers (if_pos hno')), hanswer, (State.admDone_foot ..).fw rfl, hcount⟩

/-! ### KEY_LOAD and KEY_ERASE (R232, R334) -/

theorem State.slot_of_ciph (h : t.ciph = s.ciph) : t.slot n = s.slot n := by rw [State.slot, h, State.slot]

theorem State.setKeySlot_slot {c : Slot} : (s.setKeySlot n c).slot n = c := Tab.get_put_self ..

theorem State.admTaken_slot : s.admTaken.slot n = s.slot n := State.slot_of_ciph rfl

theorem State.admTaken_lineSlots : s.admTaken.lineSlots = s.lineSlots := by rw [State.lineSlots, State.admTaken_rd_at rfl rfl, State.lineSlots]

/-- The bits of KEY_LOAD and KEY_ERASE that carry a parameter. -/
abbrev keyBits : List (Nat × Nat) := [(8, 255), (9, 1), (10, 255)] ++ wholeBytes 16 8

/-- A key of the host's memory is read where the PF may issue requests. -/
theorem State.admRead_data (hdma : s.canDma 0 = true) : s.admTaken.admRead i n (.data b) = (.data b, s.admTaken.askHost 0 i n) := by
  unfold State.admRead
  rw [unanswered_admTaken.canDma, hdma]
  rfl

theorem State.admRead_linkLost {r : HostRead} (hdma : s.canDma 0 = false) :
    s.admTaken.admRead i n r = (.fail .linkLost, s.admTaken.errLog 0 6 ReadFault.linkLost.status 0 0) := by
  unfold State.admRead
  rw [unanswered_admTaken.canDma, hdma]
  rfl

theorem keyLoad_fills (h : Admitted s e 0x08 keyBits) (hdma : s.canDma 0 = true) (hkey : key = .data b) (hown : admPar e 10 1 ≤ 128)
    (hline : s.lineSlots ≤ admPar e 8 2 % 512) (hempty : (s.slot (admPar e 8 2 % 512)).kind = 0) : ∃ t,
      exec (.keyLoadCmd e key) s = .next t ∧ t.slot (admPar e 8 2 % 512) =
        { kind := 2, owner := admPar e 10 1, keys := [(0, beNat (slice b 0 32) + 1)] } ∧ Answered e 0 0 s t ∧
      Counted Reg.ADM_CNT_COMMANDS 0 0 1 s t := by
  subst hkey
  have hfree : ¬(admPar e 8 2 % 512 < (s.admTaken.askHost 0 (admPar e 16 8) 32).lineSlots ∨ admPar e 8 2 % 512 ≥ 512 ∨
      ((s.admTaken.askHost 0 (admPar e 16 8) 32).slot (admPar e 8 2 % 512)).kind ≠ 0) := by
    have hslots : (s.admTaken.askHost 0 (admPar e 16 8) 32).lineSlots = s.lineSlots := State.admTaken_lineSlots
    have hslot : (s.admTaken.askHost 0 (admPar e 16 8) 32).slot (admPar e 8 2 % 512) = s.slot (admPar e 8 2 % 512) := State.slot_of_ciph rfl
    rw [hslots, hslot]
    omega
  obtain ⟨hanswer, hcount⟩ := answered_of_admTaken (s := s) (e := e) (st := St.ok) (r := 0)
    (x := (s.admTaken.askHost 0 (admPar e 16 8) 32).setKeySlot (admPar e 8 2 % 512)
      { kind := 2, owner := admPar e 10 1, keys := [(0, beNat (slice b 0 32) + 1)] })
    ⟨fun _ _ => rfl, rfl, rfl, List.prefix_append ..⟩ rfl
  refine ⟨_, congrArg Host.Outcome.next (h.answers ((if_neg (by omega)).trans ?_)), ?_, hanswer, hcount⟩
  · rw [State.admRead_data hdma]
    dsimp only
    rw [State.loadLookaside, if_neg hfree]
    rfl
  · exact (State.slot_of_ciph ((State.admDone_foot ..).ciph rfl)).trans State.setKeySlot_slot

/-- A command on a slot that is not its kind: the answer DENIED, counted with the cipher's refusals. -/
theorem answered_denied (h : Unanswered s.admTaken x) (hrd : ∀ R, keepsRow fp105 R = true → x.rd R = s.admTaken.rd R) :
    Answered e 3 0 s ((x.countDenied St.denied).admDone (admCid e) 3 0) ∧
      Counted Reg.CIPH_CNT_DENIED 0 0 1 s ((x.countDenied St.denied).admDone (admCid e) 3 0) ∧
      Counted Reg.ADM_CNT_COMMANDS 0 0 1 s ((x.countDenied St.denied).admDone (admCid e) 3 0) := by
  obtain ⟨hanswer, hcount⟩ := answered_of_admTaken (s := s) (e := e) (st := 3) (r := 0) (h.trans (unanswered_countDenied (st := St.denied)))
    (((State.countDenied_foot ..).rd_at rfl).trans (hrd _ rfl))
  refine ⟨hanswer, (State.admDone_foot ..).counted_after (l := .a) rfl ?_, hcount⟩
  exact counted_of_rd_before ((hrd _ rfl).trans (State.admTaken_rd_at rfl rfl))
    ((State.event_foot ..).counted_after (l := .a) rfl (counted_inc_at (by decide)))

theorem State.denied_slots (h : x.ciph = s.ciph) :
    ((x.countDenied st).admDone cid k r).ciph.slots = s.ciph.slots := by
  rw [(State.admDone_foot ..).ciph rfl, (State.countDenied_foot ..).ciph rfl, h]

theorem keyLoad_denied (h : Admitted s e 0x08 keyBits) (hdma : s.canDma 0 = true) (hkey : key = .data b) (hown : admPar e 10 1 ≤ 128)
    (hfull : (s.slot (admPar e 8 2 % 512)).kind ≠ 0) : ∃ t, exec (.keyLoadCmd e key) s = .next t ∧ t.ciph.slots = s.ciph.slots ∧
      Answered e 3 0 s t ∧ Counted Reg.CIPH_CNT_DENIED 0 0 1 s t ∧ Counted Reg.ADM_CNT_COMMANDS 0 0 1 s t := by
  subst hkey
  have hslot : (s.admTaken.askHost 0 (admPar e 16 8) 32).slot (admPar e 8 2 % 512) = s.slot (admPar e 8 2 % 512) := State.slot_of_ciph rfl
  refine ⟨_, congrArg Host.Outcome.next (h.answers ((if_neg (by omega)).trans ?_)),
    State.denied_slots (x := s.admTaken.askHost 0 (admPar e 16 8) 32) (st := St.denied) rfl,
    answered_denied unanswered_emits fun _ _ => rfl⟩
  rw [State.admRead_data hdma]
  dsimp only
  rw [State.loadLookaside, if_pos (.inr (.inr (by rw [hslot]; exact hfull)))]
  rfl

theorem keyLoad_linkLost (h : Admitted s e 0x08 keyBits) (hdma : s.canDma 0 = false) (hown : admPar e 10 1 ≤ 128) : ∃ t,
    exec (.keyLoadCmd e key) s = .next t ∧ t.ciph.slots = s.ciph.slots ∧ Answered e 9 0 s t ∧ Counted Reg.ADM_CNT_COMMANDS 0 0 1 s t := by
  refine ⟨_, congrArg Host.Outcome.next (h.answers ((if_neg (by omega)).trans ?_)), ?_,
    answered_of_admTaken (x := s.admTaken.errLog 0 6 ReadFault.linkLost.status 0 0) (st := 9) (r := 0) unanswered_errLog
      ((State.errLog_foot ..).rd_at rfl)⟩
  · rw [State.admRead_linkLost hdma]
    rfl
  · rw [(State.admDone_foot ..).ciph rfl, (State.errLog_foot ..).ciph rfl]
    rfl

theorem keyErase_empties (h : Admitted s e 0x09 [(8, 255), (9, 1)]) (hkind : (s.slot (admPar e 8 2 % 512)).kind = 2) : ∃ t,
    exec (.keyErase e) s = .next t ∧ t.slot (admPar e 8 2 % 512) = {} ∧ Answered e 0 0 s t ∧ Counted Reg.ADM_CNT_COMMANDS 0 0 1 s t := by
  obtain ⟨hanswer, hcount⟩ := answered_of_admTaken (s := s) (e := e) (st := St.ok) (r := 0)
    (x := s.admTaken.eraseSlot (admPar e 8 2 % 512)) (.of_inner (State.eraseSlot_foot ..) rfl rfl rfl rfl)
    ((State.eraseSlot_foot ..).rd_at rfl)
  refine ⟨_, congrArg Host.Outcome.next (h.answers ?_), ?_, hanswer, hcount⟩
  · rw [State.eraseNamed, State.admTaken_slot, if_pos hkind]
    rfl
  · exact (State.slot_of_ciph ((State.admDone_foot ..).ciph rfl)).trans State.eraseSlot_slot

theorem keyErase_denied (h : Admitted s e 0x09 [(8, 255), (9, 1)]) (hkind : (s.slot (admPar e 8 2 % 512)).kind ≠ 2) : ∃ t,
    exec (.keyErase e) s = .next t ∧ t.ciph.slots = s.ciph.slots ∧ Answered e 3 0 s t ∧ Counted Reg.CIPH_CNT_DENIED 0 0 1 s t ∧
      Counted Reg.ADM_CNT_COMMANDS 0 0 1 s t := by
  refine ⟨_, congrArg Host.Outcome.next (h.answers ?_), State.denied_slots (x := s.admTaken) (st := St.denied) rfl,
    answered_denied .refl fun _ _ => rfl⟩
  rw [State.eraseNamed, State.admTaken_slot, if_neg hkind]
  rfl

/-! ### FW_CONFIRM (R356) -/

theorem bootRecOf_active {c : BootRec} (h : bootRecOf b = some c) : c.active < 2 := by
  unfold bootRecOf at h
  split at h
  · cases h
    exact Nat.mod_lt _ (by decide)
  · cases h

theorem State.bootRec_active : s.bootRec.active < 2 := by
  rw [State.bootRec]
  cases hin : s.bootIn with
  | none => exact Nat.zero_lt_two
  | some p =>
    have hcopy : s.bootCopy 0 = some p.1 ∨ s.bootCopy 1 = some p.1 := by
      unfold State.bootIn at hin
      split at hin
      · split at hin <;> cases hin
        · exact .inr (by assumption)
        · exact .inl (by assumption)
      · cases hin
        exact .inl (by assumption)
      · cases hin
        exact .inr (by assumption)
      · cases hin
    rcases hcopy with h | h <;> exact bootRecOf_active h

/-- The confirmed image's record is the one in force, off trial. -/
def State.confirmed (s : State) : State :=
  ((s.writeRec { s.bootRec with trial := false }).wr Reg.FW_STATUS_TRIAL 0).event (Ev.fw 8)

theorem State.confirm_of (s : State) : s.confirm = s.confirmed ∨ ∃ n, s.confirm = s.confirmed.saveSettings n := by
  unfold State.confirm
  dsimp only
  split
  · exact .inl rfl
  · exact .inr ⟨_, rfl⟩

theorem State.saveSettings_bootRec : (s.saveSettings n).bootRec = s.bootRec := by
  unfold State.saveSettings
  split
  · dsimp only
    split <;> exact State.bootRec_congr rfl rfl
  · rfl

theorem State.confirmed_fw : s.confirmed.fw = (s.writeRec { s.bootRec with trial := false }).fw := by
  rw [State.confirmed, State.event_fw]
  exact State.wr_fw ..

theorem State.confirm_bootRec (hseq : s.bootRec.seq < 2 ^ 32 - 1) :
    s.confirm.bootRec = { s.bootRec with trial := false, seq := s.bootRec.seq + 1 }.held := by
  have hrec : s.confirmed.bootRec = (s.writeRec { s.bootRec with trial := false }).bootRec :=
    State.bootRec_of_carried (State.carried_of_fw State.confirmed_fw)
  have hconfirm : s.confirm.bootRec = s.confirmed.bootRec := by
    rcases s.confirm_of with h | ⟨n, h⟩ <;> rw [h]
    exact State.saveSettings_bootRec
  rw [hconfirm, hrec, State.writeRec_bootRec _ _ hseq]

theorem State.confirm_trial : s.confirm.rd Reg.FW_STATUS_TRIAL = 0 := by
  have hclear : s.confirmed.rd Reg.FW_STATUS_TRIAL = 0 := ((State.event_foot ..).rd_at rfl).trans (State.rd_wr_same (by decide))
  rcases s.confirm_of with h | ⟨n, h⟩ <;> rw [h]
  · exact hclear
  · exact ((State.saveSettings_foot ..).rd_at rfl).trans hclear

theorem State.admTaken_bootRec : s.admTaken.bootRec = s.bootRec := State.bootRec_congr rfl rfl

theorem fwConfirm_confirms (h : Admitted s e 0x0B []) (htrial : s.isOn Reg.FW_STATUS_TRIAL = true) (hseq : s.bootRec.seq < 2 ^ 32 - 1) :
    ∃ t, exec (.fwConfirm e) s = .next t ∧ t.rd Reg.FW_STATUS_TRIAL = 0 ∧ t.bootRec.trial = false ∧
      t.bootRec.active = s.bootRec.active ∧ Answered e 0 1 s t ∧ Counted Reg.ADM_CNT_COMMANDS 0 0 1 s t := by
  obtain ⟨hanswer, hcount⟩ := answered_of_admTaken (s := s) (e := e) (st := St.ok) (r := 1) unanswered_confirm
    ((State.confirm_foot ..).rd_at rfl)
  have hfw : (s.admTaken.confirm.admDone (admCid e) St.ok 1).fw = s.admTaken.confirm.fw := (State.admDone_foot ..).fw rfl
  have hrec : (s.admTaken.confirm.admDone (admCid e) St.ok 1).bootRec =
      { s.bootRec with trial := false, seq := s.bootRec.seq + 1 }.held := by
    rw [State.bootRec_of_carried (State.carried_of_fw hfw), State.confirm_bootRec (by rw [State.admTaken_bootRec]; exact hseq),
      State.admTaken_bootRec]
  have hon : s.admTaken.isOn Reg.FW_STATUS_TRIAL = true := by rw [State.admTaken_isOn rfl rfl]; exact htrial
  have hexec : exec (.fwConfirm e) s = .next (s.admTaken.confirm.admDone (admCid e) St.ok 1) :=
    congrArg Host.Outcome.next (h.answers (if_pos hon))
  refine ⟨_, hexec, ?_, ?_, ?_, hanswer, hcount⟩
  · exact ((State.admDone_foot ..).rd_at rfl).trans State.confirm_trial
  · rw [hrec]
    rfl
  · rw [hrec]
    exact Nat.mod_eq_of_lt State.bootRec_active

theorem fwConfirm_still (h : Admitted s e 0x0B []) (htrial : s.isOn Reg.FW_STATUS_TRIAL = false) : ∃ t, exec (.fwConfirm e) s = .next t ∧
    Answered e 0 0 s t ∧ t.fw = s.fw ∧ Counted Reg.ADM_CNT_COMMANDS 0 0 1 s t := by
  obtain ⟨hanswer, hcount⟩ := answered_of_admTaken (s := s) (e := e) (st := St.ok) (r := 0) .refl rfl
  exact ⟨_, congrArg Host.Outcome.next (h.answers (if_neg (by rw [State.admTaken_isOn rfl rfl, htrial]; decide))), hanswer,
    (State.admDone_foot ..).fw rfl, hcount⟩

/-! ### LC_TRANSITION (R362) -/

/-- The commit fuses of the three transitions. -/
def FuseSt.commits (f : FuseSt) : List Nat × List Nat × List Nat := (f.commit1, f.commit2, f.commit3)

/-- The commit fuses of a transition. -/
def FuseSt.commitOf (f : FuseSt) (k : Nat) : List Nat := if k = 1 then f.commit1 else if k = 2 then f.commit2 else f.commit3

theorem FuseSt.commit_eq {f : FuseSt} : f.commit k = present commitBits (f.commitOf k) := rfl

theorem FuseSt.commitOf_congr {f g : FuseSt} (h : g.commits = f.commits) : g.commitOf k = f.commitOf k := by
  simp only [FuseSt.commits, Prod.mk.injEq] at h
  obtain ⟨h₁, h₂, h₃⟩ := h
  rw [FuseSt.commitOf, h₁, h₂, h₃, FuseSt.commitOf]

theorem FuseSt.commit_congr {f g : FuseSt} (h : g.commits = f.commits) : g.commit k = f.commit k := by
  rw [FuseSt.commit_eq, FuseSt.commitOf_congr h, FuseSt.commit_eq]

theorem FuseSt.commitOf_blowCommit {f : FuseSt} : (f.blowCommit k).commitOf k = blown commitBits (f.commitOf k) := by
  unfold FuseSt.blowCommit FuseSt.commitOf
  split_ifs <;> rfl

theorem FuseSt.lc_lt {f : FuseSt} : f.lc < 4 := by
  unfold FuseSt.lc
  split_ifs <;> decide

/-- The next commit, blown, moves the life cycle one step ahead. -/
theorem FuseSt.lc_blowCommit {f g : FuseSt} (hg : g.commits = f.commits) (hk : k = f.lc + 1) (hle : k ≤ 3)
    (hblown : present commitBits (blown commitBits (f.commitOf k)) = true) : (g.blowCommit k).lc = k := by
  have hsame : ∀ j, g.commit j = f.commit j := fun j => FuseSt.commit_congr hg
  have hnew : (g.blowCommit k).commit k = true := by
    rw [FuseSt.commit_eq, FuseSt.commitOf_blowCommit, FuseSt.commitOf_congr hg]
    exact hblown
  have hlc : f.lc = if f.commit 3 then 3 else if f.commit 2 then 2 else if f.commit 1 then 1 else 0 := rfl
  have hcases : k = 1 ∨ k = 2 ∨ k = 3 := by omega
  rcases hcases with rfl | rfl | rfl
  · have h3 : f.commit 3 = false := by by_contra h; rw [if_pos (by simpa using h)] at hlc; omega
    have h2 : f.commit 2 = false := by
      by_contra h
      rw [h3, if_neg Bool.false_ne_true, if_pos (by simpa using h)] at hlc
      omega
    have h3' : (g.blowCommit 1).commit 3 = false := (hsame 3).trans h3
    have h2' : (g.blowCommit 1).commit 2 = false := (hsame 2).trans h2
    rw [FuseSt.lc, h3', h2', hnew]
    rfl
  · have h3 : f.commit 3 = false := by by_contra h; rw [if_pos (by simpa using h)] at hlc; omega
    have h3' : (g.blowCommit 2).commit 3 = false := (hsame 3).trans h3
    rw [FuseSt.lc, h3', hnew]
    rfl
  · rw [FuseSt.lc, hnew]
    rfl

theorem State.lcWork_commits : (s.lcWork k).fw.fuse.commits = s.fw.fuse.commits := by
  have hkeys : s.zeroiseKeys.fw = s.fw := (State.zeroiseKeys_foot s).fw rfl
  have hwipe (x : State) (l : Leg) : (x.wipeHeKey l).fw = x.fw := (State.wipeHeKey_foot x l).fw rfl
  unfold State.lcWork
  split
  · rfl
  · split
    · simp only [State.zeroise, State.setFlash, State.setFuse, hwipe, hkeys]
      rfl
    · rfl

theorem FuseSt.blowIntent_commits {f : FuseSt} : (f.blowIntent k).commits = f.commits := by
  unfold FuseSt.blowIntent
  split_ifs <;> rfl

theorem State.lcRun_fuse : ∃ g : FuseSt, g.commits = s.fw.fuse.commits ∧ (s.lcRun k).fw.fuse = g.blowCommit k := by
  refine ⟨((s.setFuse fun f => f.blowIntent k).lcWork k).fw.fuse, State.lcWork_commits.trans FuseSt.blowIntent_commits, ?_⟩
  rw [State.lcRun, State.event_fw, State.settleLc_fw]
  rfl

theorem State.settleLc_state : s.settleLc.rd Reg.FW_LC_STATE = s.fw.fuse.lc := by
  have hset : ∀ {x : State}, (x.wr Reg.FW_LC_STATE x.fw.fuse.lc).rd Reg.FW_LC_STATE = x.fw.fuse.lc := fun {x} =>
    (State.rd_wr_same (by decide)).trans (Nat.mod_eq_of_lt FuseSt.lc_lt)
  have hother : ∀ {x : State} {Q : Row} {n : Nat}, otherRow Reg.FW_LC_STATE Q = true →
      (x.wr Q n).rd Reg.FW_LC_STATE = x.rd Reg.FW_LC_STATE := fun h => State.rd_wr_row (l := .a) (k := .a) h
  unfold State.settleLc
  dsimp only
  split
  · rw [hother rfl, hother rfl, hother rfl, hother rfl, hother rfl, hset]
  · rw [hother rfl, hother rfl, hother rfl, hother rfl, hother rfl, hother rfl, hset]

theorem State.lcRun_moves (hk : k = s.fw.fuse.lc + 1) (hle : k ≤ 3)
    (hblown : present commitBits (blown commitBits (s.fw.fuse.commitOf k)) = true) :
    (s.lcRun k).fw.fuse.lc = k ∧ (s.lcRun k).rd Reg.FW_LC_STATE = k := by
  obtain ⟨g, hg, hfuse⟩ := State.lcRun_fuse (s := s) (k := k)
  have hlc : (s.lcRun k).fw.fuse.lc = k := by rw [hfuse, FuseSt.lc_blowCommit hg hk hle hblown]
  refine ⟨hlc, ?_⟩
  rw [State.lcRun, (State.event_foot ..).rd_at rfl, State.settleLc_state]
  rw [State.lcRun, State.event_fw, State.settleLc_fw] at hlc
  exact hlc

/-- A byte of which only the low two bits carry a parameter is at most 3. -/
theorem admPar_le_three (h : admClean e [(8, 3)] = true) : admPar e 8 1 ≤ 3 := by
  simp only [admClean, Bool.and_eq_true, List.all_eq_true, List.mem_range, beq_iff_eq] at h
  have hbyte := h.2 0 (by decide)
  have hmask : (admPar e 8 1).land 3 = admPar e 8 1 := hbyte
  rw [← hmask]
  exact Nat.and_le_right

theorem State.admTaken_liveOps : s.admTaken.liveOps = s.liveOps := by
  unfold State.liveOps
  congr 1
  funext i
  exact State.admTaken_isOn rfl rfl

theorem State.admTaken_lcRefusal : s.admTaken.lcRefusal k = s.lcRefusal k := by
  unfold State.lcRefusal
  rw [State.admTaken_liveOps]
  rfl

theorem State.lcRefusal_target (h : s.lcRefusal k = none) : k = s.fw.fuse.lc + 1 := by
  by_contra hne
  have hrefuse : s.lcRefusal k = some St.invalid := if_pos (by rw [decide_eq_true hne, Bool.true_or])
  rw [hrefuse] at h
  cases h

theorem lcTransition_moves (h : Admitted s e 0x0C [(8, 3)]) (hgo : s.lcRefusal (admPar e 8 1) = none)
    (hblown : present commitBits (blown commitBits (s.fw.fuse.commitOf (admPar e 8 1))) = true) : ∃ t,
      exec (.lcTransition e) s = .next t ∧ t.fw.fuse.lc = admPar e 8 1 ∧ t.rd Reg.FW_LC_STATE = admPar e 8 1 ∧ Answered e 0 0 s t ∧
        Counted Reg.ADM_CNT_COMMANDS 0 0 1 s t := by
  obtain ⟨hlc, hstate⟩ := State.lcRun_moves (s := s.admTaken) (State.lcRefusal_target (State.admTaken_lcRefusal.trans hgo))
    (admPar_le_three h.clean) hblown
  obtain ⟨hanswer, hcount⟩ := answered_of_admTaken (s := s) (e := e) (st := St.ok) (r := 0) (unanswered_lcRun (k := admPar e 8 1))
    ((State.lcRun_foot ..).rd_at rfl)
  refine ⟨_, congrArg Host.Outcome.next (h.answers ?_), ?_, ?_, hanswer, hcount⟩
  · rw [State.admTaken_lcRefusal, hgo]
  · rw [(State.admDone_foot ..).fw rfl, hlc]
  · exact ((State.admDone_foot ..).rd_at rfl).trans hstate

theorem lcTransition_unarmed (h : Admitted s e 0x0C [(8, 3)]) (harm : s.fw.lcArm = none) : ∃ t, exec (.lcTransition e) s = .next t ∧
    t.fw = s.fw ∧ Answered e 2 0 s t ∧ Counted Reg.ADM_CNT_COMMANDS 0 0 1 s t := by
  have hrefuse : s.lcRefusal (admPar e 8 1) = some St.invalid := if_pos (by rw [harm]; simp)
  refine ⟨_, congrArg Host.Outcome.next (h.answers (x := s.admTaken) (st := St.invalid) (r := 0) ?_), (State.admDone_foot ..).fw rfl,
    answered_of_admTaken .refl rfl⟩
  rw [State.admTaken_lcRefusal, hrefuse]

/-! ### COSIGN_ENROL (R342) -/

/-- The record is blown, and the registers follow the fuses. -/
def State.enrolled (s : State) (b : List Byte) : State :=
  (s.setFuse fun f => { f with cosign := f.cosign ++ [Crypto.sha384 (slice b 0 96)] }).settleLc

theorem State.enrolled_cosign : (s.enrolled b).fw.fuse.cosign = s.fw.fuse.cosign ++ [Crypto.sha384 (slice b 0 96)] := by
  rw [State.enrolled, State.settleLc_fw]
  rfl

theorem State.settleLc_used : s.settleLc.rd Reg.FW_LC_COSIGN_USED = s.fw.fuse.cosign.length % 2 ^ Reg.FW_LC_COSIGN_USED.width := by
  have hset : ∀ {x : State} {n : Nat}, (x.wr Reg.FW_LC_COSIGN_USED n).rd Reg.FW_LC_COSIGN_USED = n % 2 ^ Reg.FW_LC_COSIGN_USED.width :=
    State.rd_wr_same (by decide)
  have hother : ∀ {x : State} {Q : Row} {n : Nat}, otherRow Reg.FW_LC_COSIGN_USED Q = true →
      (x.wr Q n).rd Reg.FW_LC_COSIGN_USED = x.rd Reg.FW_LC_COSIGN_USED := fun h => State.rd_wr_row (l := .a) (k := .a) h
  unfold State.settleLc
  dsimp only
  split
  · rw [hother rfl, hother rfl, hother rfl, hset]
  · rw [hother rfl, hother rfl, hother rfl, hother rfl, hset]

theorem State.enrolled_used : (s.enrolled b).rd Reg.FW_LC_COSIGN_USED =
    (s.fw.fuse.cosign.length + 1) % 2 ^ Reg.FW_LC_COSIGN_USED.width := by
  rw [State.enrolled, State.settleLc_used]
  simp only [State.setFuse, List.length_append, List.length_singleton]

/-- An enrolment under a key that verifies the running image: the status, and the record and the count of the fuses. -/
theorem State.enrol_shows (hroom : s.fw.fuse.cosign.length < 4)
    (hver : Crypto.ecdsaVerify (beNat (slice b 0 48)) (beNat (slice b 48 48)) (hdrDigest (s.hdr s.runSlot))
      (beNat (slice (s.hdr s.runSlot) 2496 48)) (beNat (slice (s.hdr s.runSlot) 2544 48)) = true) : (s.enrol b).1 = St.ok ∧
      (s.enrol b).2.fw.fuse.cosign = s.fw.fuse.cosign ++ [Crypto.sha384 (slice b 0 96)] ∧
      (s.enrol b).2.rd Reg.FW_LC_COSIGN_USED = (s.fw.fuse.cosign.length + 1) % 2 ^ Reg.FW_LC_COSIGN_USED.width := by
  have hdone : s.enrol b = (St.ok, if cosigOk ((s.enrolled b).hdr (1 - (s.enrolled b).runSlot)) (Crypto.sha384 (slice b 0 96)) then s.enrolled b
      else ((s.enrolled b).setVerified (1 - (s.enrolled b).runSlot) none).settleSlot (1 - (s.enrolled b).runSlot)) := by
    unfold State.enrol
    dsimp only
    rw [if_neg (by rw [hver]; decide), if_neg (by omega)]
    rfl
  rw [hdone]
  refine ⟨rfl, ?_⟩
  dsimp only
  split
  · exact ⟨State.enrolled_cosign, State.enrolled_used⟩
  · refine ⟨?_, ?_⟩
    · rw [(State.settleSlot_foot ..).fw rfl]
      exact State.enrolled_cosign
    · exact ((State.settleSlot_foot ..).rd_at rfl).trans (((State.setVerified_foot ..).rd_at rfl).trans State.enrolled_used)

theorem cosignEnrol_enrols (h : Admitted s e 0x0D (wholeBytes 16 8)) (hdma : s.canDma 0 = true) (hkey : key = .data b)
    (hprov : s.provisioned = true) (hroom : s.fw.fuse.cosign.length < 4)
    (hver : Crypto.ecdsaVerify (beNat (slice b 0 48)) (beNat (slice b 48 48)) (hdrDigest (s.hdr s.runSlot))
      (beNat (slice (s.hdr s.runSlot) 2496 48)) (beNat (slice (s.hdr s.runSlot) 2544 48)) = true) : ∃ t, exec (.cosignEnrol e key) s = .next t ∧
      t.fw.fuse.cosign = s.fw.fuse.cosign ++ [Crypto.sha384 (slice b 0 96)] ∧
      t.rd Reg.FW_LC_COSIGN_USED = (s.fw.fuse.cosign.length + 1) % 2 ^ Reg.FW_LC_COSIGN_USED.width ∧ Answered e 0 0 s t ∧
      Counted Reg.ADM_CNT_COMMANDS 0 0 1 s t := by
  subst hkey
  have hhdr : ∀ n, (s.admTaken.askHost 0 (admPar e 16 8) 96).hdr n = s.hdr n := fun n => State.hdr_congr rfl
  have hslot : (s.admTaken.askHost 0 (admPar e 16 8) 96).runSlot = s.runSlot := State.admTaken_runSlot
  obtain ⟨hok, hcosign, hused⟩ := State.enrol_shows (s := s.admTaken.askHost 0 (admPar e 16 8) 96) (b := b) hroom
    (by rw [hslot, hhdr]; exact hver)
  have hun : Unanswered s.admTaken ((s.admTaken.askHost 0 (admPar e 16 8) 96).enrol b).2 :=
    unanswered_emits.trans (.of_inner (State.enrol_foot ..) rfl rfl rfl rfl)
  obtain ⟨hanswer, hcount⟩ := answered_of_admTaken (e := e) (st := St.ok) (r := 0) hun ((State.enrol_foot ..).rd_at rfl)
  refine ⟨_, congrArg Host.Outcome.next (h.answers ?_), ?_, ?_, hanswer, hcount⟩
  · rw [if_neg (by rw [show s.admTaken.provisioned = s.provisioned from rfl, hprov]; decide), State.admRead_data hdma]
    dsimp only
    rw [hok]
  · rw [(State.admDone_foot ..).fw rfl, hcosign]
    rfl
  · exact ((State.admDone_foot ..).rd_at rfl).trans hused

theorem cosignEnrol_denied (h : Admitted s e 0x0D (wholeBytes 16 8)) (hprov : s.provisioned = false) : ∃ t,
    exec (.cosignEnrol e key) s = .next t ∧ t.fw = s.fw ∧ Answered e 3 0 s t ∧ Counted Reg.ADM_CNT_COMMANDS 0 0 1 s t := by
  refine ⟨_, congrArg Host.Outcome.next (h.answers (x := s.admTaken) (st := St.denied) (r := 0) (if_pos ?_)), (State.admDone_foot ..).fw rfl,
    answered_of_admTaken .refl rfl⟩
  rw [show s.admTaken.provisioned = s.provisioned from rfl, hprov]
  rfl

end

/-- Settles O42: what `admTake` refuses it answers at once; the work of the others leaves the completion ring alone until the answer. -/
theorem shortAdminCommandsAreAnswered : Obligations.ShortAdminCommandsAreAnswered := by
  unfold Obligations.ShortAdminCommandsAreAnswered
  refine ⟨fun _ _ _ => admTake_gate_refuses, fun _ _ => admTake_form_refuses, fun _ _ _ => admTake_gate_refuses,
    fun _ _ => admTake_form_refuses, fun _ _ _ => admTake_gate_refuses, fun _ _ => admTake_form_refuses, fun _ _ _ => admTake_gate_refuses,
    fun _ _ => admTake_form_refuses, fun _ _ _ _ => admTake_gate_refuses, fun _ _ _ => admTake_form_refuses,
    fun _ _ _ => admTake_gate_refuses, fun _ _ => admTake_form_refuses, fun _ _ _ => admTake_gate_refuses,
    fun _ _ => admTake_form_refuses, fun _ _ _ => admTake_gate_refuses, fun _ _ => admTake_form_refuses,
    fun _ _ _ _ => admTake_gate_refuses, fun _ _ _ => admTake_form_refuses, fun _ _ => nop_still, ?_⟩
  exact ⟨fun _ _ h₁ h₂ h₃ h₄ => nop_answers ⟨h₁, h₂, h₃, h₄⟩, fun _ _ h₁ h₂ h₃ h₄ => identify_writes ⟨h₁, h₂, h₃, h₄⟩,
    fun _ _ h₁ h₂ h₃ h₄ => identify_linkLost ⟨h₁, h₂, h₃, h₄⟩, fun _ _ _ h₁ h₂ h₃ h₄ => queryOp_live ⟨h₁, h₂, h₃, h₄⟩,
    fun _ _ h₁ h₂ h₃ h₄ => queryOp_dead ⟨h₁, h₂, h₃, h₄⟩, fun _ _ _ h₁ h₂ h₃ h₄ => settingsSave_second ⟨h₁, h₂, h₃, h₄⟩,
    fun _ _ _ h₁ h₂ h₃ h₄ => settingsSave_first ⟨h₁, h₂, h₃, h₄⟩, fun _ _ h₁ h₂ h₃ h₄ => settingsSave_unreadable ⟨h₁, h₂, h₃, h₄⟩,
    fun _ _ _ _ h₁ h₂ h₃ h₄ => keyLoad_fills ⟨h₁, h₂, h₃, h₄⟩, fun _ _ _ _ h₁ h₂ h₃ h₄ => keyLoad_denied ⟨h₁, h₂, h₃, h₄⟩,
    fun _ _ _ h₁ h₂ h₃ h₄ => keyLoad_linkLost ⟨h₁, h₂, h₃, h₄⟩, fun _ _ h₁ h₂ h₃ h₄ => keyErase_empties ⟨h₁, h₂, h₃, h₄⟩,
    fun _ _ h₁ h₂ h₃ h₄ => keyErase_denied ⟨h₁, h₂, h₃, h₄⟩, fun _ _ h₁ h₂ h₃ h₄ => fwConfirm_confirms ⟨h₁, h₂, h₃, h₄⟩,
    fun _ _ h₁ h₂ h₃ h₄ => fwConfirm_still ⟨h₁, h₂, h₃, h₄⟩, fun _ _ h₁ h₂ h₃ h₄ => lcTransition_moves ⟨h₁, h₂, h₃, h₄⟩,
    fun _ _ h₁ h₂ h₃ h₄ => lcTransition_unarmed ⟨h₁, h₂, h₃, h₄⟩, fun _ _ _ _ h₁ h₂ h₃ h₄ => cosignEnrol_enrols ⟨h₁, h₂, h₃, h₄⟩,
    fun _ _ _ h₁ h₂ h₃ h₄ => cosignEnrol_denied ⟨h₁, h₂, h₃, h₄⟩⟩

end Sys2Proof.Machine

/-! SUPPORT. Starting a long operation (12_mailboxes_and_admin.md, R331, R333): the entry of ADM_LOP that it takes, its STARTED completion,
and what keeps both. -/

namespace Sys2Proof.Machine

section
variable {s t u x : State} {R Q : Row} {e : List Byte} {v i j k n st op m h total : Nat} {used : List (Nat × Nat)} {l : Leg}
  {refusal : State → Option Nat} {amount : State → Nat} {go : State → Nat → State}

/-! ### What keeps a started operation -/

/-- The fields of an entry of ADM_LOP that a start shows. -/
def entryRows : List Row := [Reg.ADM_LOP0_HANDLE, Reg.ADM_LOP0_OPCODE, Reg.ADM_LOP0_STATE, Reg.ADM_LOP1_CID, Reg.ADM_LOP3_TOTAL]

/-- The counters of commands taken and of operations started. -/
def startCounts : List Row := [Reg.ADM_CNT_COMMANDS, Reg.ADM_CNT_LONG_STARTED]

/-- Entry i of ADM_LOP, its operation and the completions stand. -/
structure OpStands (i : Nat) (s t : State) : Prop where
  entry : ∀ R ∈ entryRows, t.rd R 0 i = s.rd R 0 i
  counts : ∀ R ∈ startCounts, t.rd R = s.rd R
  op : t.op i = s.op i
  wait : t.adm.cqWait = s.adm.cqWait
  out : s.out <+: t.out

theorem OpStands.refl : OpStands i s s := ⟨fun _ _ => rfl, fun _ _ => rfl, rfl, rfl, List.prefix_rfl⟩

theorem OpStands.trans (h : OpStands i s t) (g : OpStands i t u) : OpStands i s u :=
  ⟨fun R hR => (g.entry R hR).trans (h.entry R hR), fun R hR => (g.counts R hR).trans (h.counts R hR), g.op.trans h.op, g.wait.trans h.wait,
    h.out.trans g.out⟩

theorem OpStands.rd (h : OpStands i s t) (hR : entryRows.contains R = true) : t.rd R 0 i = s.rd R 0 i :=
  h.entry R (List.mem_of_elem_eq_true hR)

theorem OpStands.count (h : OpStands i s t) (hR : startCounts.contains R = true) : t.rd R = s.rd R :=
  h.counts R (List.mem_of_elem_eq_true hR)

/-- A mask that leaves out the entries of ADM_LOP, the counters of starts and the admin queue's part. -/
def keepsEntries (m : Nat) : Bool := entryRows.all (keepsRow m) && startCounts.all (keepsRow m) && !m.testBit 1017

theorem OpStands.of_foot (h : Foot m s t) (hk : keepsEntries m = true) (hout : s.out <+: t.out) : OpStands i s t := by
  simp only [keepsEntries, Bool.and_eq_true, Bool.not_eq_true', List.all_eq_true] at hk
  obtain ⟨⟨hentry, hcounts⟩, hadm⟩ := hk
  exact ⟨fun R hR => h.rd_at (hentry R hR), fun R hR => h.rd_at (hcounts R hR), by rw [State.op, h.adm hadm, State.op], by rw [h.adm hadm], hout⟩

/-- The start that a state shows is shown by every state after it that keeps the operation. -/
theorem Started.stands (hs : Started e op i s t) (h : OpStands i t u) : Started e op i s u := by
  obtain ⟨hcode, hstate, hcid, hparams, hcount, hdone⟩ := hs
  refine ⟨(h.rd rfl).trans hcode, (h.rd rfl).trans hstate, (h.rd rfl).trans hcid, by rw [h.op]; exact hparams,
    counted_of_rd_after (h.count rfl) hcount, ?_⟩
  rw [h.rd rfl]
  exact completed_of_after hdone h.out h.wait

/-- A write of a field without legs leaves the other fields without legs. -/
theorem State.rd_wr_plain (h : otherRow R Q = true) : (s.wr Q v 0 i).rd R 0 j = s.rd R 0 j := State.rd_wr_row (l := .a) (k := .a) h

/-! ### The entry taken (R331, R333) -/

/-- What a start writes of entry i, with its count. -/
def State.entryShown (s : State) (e : List Byte) (i total h : Nat) : State :=
  (((((s.wr Reg.ADM_LOP0_HANDLE h 0 i).wr Reg.ADM_LOP0_OPCODE (admOp e) 0 i).wr Reg.ADM_LOP0_STATE 1 0 i).wr Reg.ADM_LOP1_CID (admCid e) 0 i).wr
    Reg.ADM_LOP3_TOTAL total 0 i).inc Reg.ADM_CNT_LONG_STARTED

/-- The handle that a start takes. -/
def State.newHandle (s : State) : Nat := s.freshHandle 9 s.adm.nextHandle

/-- The entry taken, with the operation's parameters. -/
def State.opEntered (s : State) (e : List Byte) (i total : Nat) : State :=
  (((((({ s with adm := { s.adm with nextHandle := (s.newHandle + 1) % 65536 } } : State).wr Reg.ADM_LOP0_HANDLE s.newHandle 0 i).wr
    Reg.ADM_LOP0_OPCODE (admOp e) 0 i).wr Reg.ADM_LOP0_STATE 1 0 i).wr Reg.ADM_LOP1_CID (admCid e) 0 i).wr Reg.ADM_LOP3_TOTAL total 0 i
    |>.setOp i fun _ => { params := slice e 8 56 }).inc Reg.ADM_CNT_LONG_STARTED

theorem State.opEntered_regs : (s.opEntered e i total).regs = (s.entryShown e i total s.newHandle).regs := by
  unfold State.opEntered State.entryShown
  rfl

theorem State.opEntered_rd {q : Nat} : (s.opEntered e i total).rd R 0 q = (s.entryShown e i total s.newHandle).rd R 0 q :=
  State.rd_of_regs State.opEntered_regs

/-- The entry and its STARTED completion. -/
def State.opAnnounced (s : State) (e : List Byte) (i total : Nat) : State :=
  (s.opEntered e i total).admPush (admEntry (admCid e) false false St.ok s.newHandle 0 0)

/-- The leg that the operation holds is in TEST (R268). -/
def State.legTested (s : State) (i : Nat) : State :=
  match s.opLeg i with
  | some l => s.testBegin l
  | none => s

theorem State.startLong_goes {free : Option Nat} (hfree : (List.range 8).find? (fun i => !s.isOn Reg.ADM_LOP0_HANDLE 0 i) = some i)
    (hno : free = none) : s.startLong e free total go = go ((s.opAnnounced e i total).legTested i) i := by
  subst hno
  unfold State.startLong
  rw [hfree]
  rfl

theorem State.entryShown_other {q : Nat} (h₁ : entryRows.all (otherRow R) = true) (h₂ : otherRow R Reg.ADM_CNT_LONG_STARTED = true) :
    (s.entryShown e i total h).rd R 0 q = s.rd R 0 q := by
  have hrow : ∀ Q ∈ entryRows, otherRow R Q = true := List.all_eq_true.mp h₁
  unfold State.entryShown State.inc
  rw [State.rd_wr_plain h₂, State.rd_wr_plain (hrow _ (by decide)), State.rd_wr_plain (hrow _ (by decide)),
    State.rd_wr_plain (hrow _ (by decide)), State.rd_wr_plain (hrow _ (by decide)), State.rd_wr_plain (hrow _ (by decide))]

/-- What the entry shows, each field at its width. -/
theorem State.entryShown_entry (hi : i < 8) : (s.entryShown e i total h).opCode i = admOp e % 2 ^ 8 ∧
    (s.entryShown e i total h).opState i = 1 ∧ (s.entryShown e i total h).rd Reg.ADM_LOP1_CID 0 i = admCid e % 2 ^ 16 ∧
    (s.entryShown e i total h).rd Reg.ADM_LOP0_HANDLE 0 i = h % 2 ^ 16 ∧
    (s.entryShown e i total h).rd Reg.ADM_LOP3_TOTAL 0 i = total % 2 ^ 32 := by
  unfold State.opCode State.opState State.entryShown State.inc
  refine ⟨?_, ?_, ?_, ?_, ?_⟩
  · rw [State.rd_wr_plain rfl, State.rd_wr_plain rfl, State.rd_wr_plain rfl, State.rd_wr_plain rfl]
    exact State.rd_wr_same hi
  · rw [State.rd_wr_plain rfl, State.rd_wr_plain rfl, State.rd_wr_plain rfl]
    exact State.rd_wr_same hi
  · rw [State.rd_wr_plain rfl, State.rd_wr_plain rfl]
    exact State.rd_wr_same hi
  · rw [State.rd_wr_plain rfl, State.rd_wr_plain rfl, State.rd_wr_plain rfl, State.rd_wr_plain rfl, State.rd_wr_plain rfl]
    exact State.rd_wr_same hi
  · rw [State.rd_wr_plain rfl]
    exact State.rd_wr_same hi

theorem counted_entryShown : Counted Reg.ADM_CNT_LONG_STARTED 0 0 1 s (s.entryShown e i total h) :=
  counted_of_rd_before (by
    rw [State.rd_wr_plain rfl, State.rd_wr_plain rfl, State.rd_wr_plain rfl, State.rd_wr_plain rfl, State.rd_wr_plain rfl])
    (counted_inc_at (by decide))

theorem unanswered_opEntered : Unanswered s (s.opEntered e i total) := by
  have hother : ∀ R ∈ completionRows, entryRows.all (otherRow R) = true ∧ otherRow R Reg.ADM_CNT_LONG_STARTED = true := by decide +kernel
  refine ⟨fun R hR => State.opEntered_rd.trans (State.entryShown_other (hother R hR).1 (hother R hR).2), ?_, ?_, ?_⟩
  · rfl
  · rfl
  · exact List.prefix_rfl

theorem State.opEntered_op : ((s.opEntered e i total).op i).params = slice e 8 56 :=
  congrArg LongOp.params (Tab.get_put_self ({ params := [] } : LongOp) i _ _)

theorem State.opEntered_op_ne (hne : j ≠ i) : (s.opEntered e i total).op j = s.op j :=
  Tab.get_put_ne ({ params := [] } : LongOp) hne _ _

/-! ### Its STARTED completion -/

theorem State.hostEvent_ops {f det detL : Nat} : (s.hostEvent k f det detL).adm.ops = s.adm.ops :=
  congrArg AdmSt.ops ((State.hostEvent_foot ..).adm rfl)

theorem State.admCqFull_ops : s.admCqFull.adm.ops = s.adm.ops := by
  unfold State.admCqFull
  split
  · rfl
  · exact State.hostEvent_ops

theorem State.admFlush_ops : (s.admFlush n).adm.ops = s.adm.ops := by
  induction n generalizing s with
  | zero => rfl
  | succ n ih =>
    unfold State.admFlush
    split
    · rfl
    · extract_lets prod sz phase addr entry x y
      have hy : y.adm = s.adm := by
        unfold y
        split
        · exact (State.msix_foot ..).adm rfl
        · rfl
      split
      · rfl
      · split
        · exact State.admCqFull_ops
        · exact ih.trans (show y.adm.ops = s.adm.ops from congrArg AdmSt.ops hy)

theorem State.admPush_ops : (s.admPush e).adm.ops = s.adm.ops := State.admFlush_ops (s := s.awaiting e)

theorem State.admPush_op : (s.admPush e).op i = s.op i := by rw [State.op, State.admPush_ops, State.op]

theorem leBytes_two_mod : leBytes 2 (n % 2 ^ 16) = leBytes 2 n := by
  simp only [leBytes_succ]
  have hlow : BitVec.ofNat 8 (n % 2 ^ 16) = BitVec.ofNat 8 n := by apply BitVec.eq_of_toNat_eq; simp only [BitVec.toNat_ofNat]; omega
  have hhigh : BitVec.ofNat 8 (n % 2 ^ 16 / 256) = BitVec.ofNat 8 (n / 256) := by
    apply BitVec.eq_of_toNat_eq
    simp only [BitVec.toNat_ofNat]
    omega
  rw [hlow, hhigh]
  rfl

theorem admEntry_handle {final progress : Bool} {permille result : Nat} :
    admEntry n final progress st (h % 2 ^ 16) permille result = admEntry n final progress st h permille result := by
  rw [admEntry, leBytes_two_mod, admEntry]

/-- The entry taken shows the start. -/
theorem started_opAnnounced (hi : i < 8) (hcode : admOp e % 2 ^ 8 = op) : Started e op i s (s.opAnnounced e i total) := by
  have hrd : ∀ {R : Row} {q : Nat}, keepsRow fp58 R = true →
      (s.opAnnounced e i total).rd R 0 q = (s.entryShown e i total s.newHandle).rd R 0 q :=
    fun hk => ((State.admPush_foot ..).rd_at hk).trans State.opEntered_rd
  obtain ⟨hshown, hstate, hcid, hhandle, -⟩ := State.entryShown_entry (s := s) (e := e) (total := total) (h := s.newHandle) hi
  refine ⟨(hrd rfl).trans (hshown.trans hcode), (hrd rfl).trans hstate, (hrd rfl).trans hcid,
    (congrArg LongOp.params State.admPush_op).trans State.opEntered_op, counted_of_rd_after (hrd rfl) counted_entryShown, ?_⟩
  rw [hrd rfl, hhandle, admEntry_handle]
  exact unanswered_opEntered.completed completed_admPush

theorem State.opAnnounced_total (hi : i < 8) : (s.opAnnounced e i total).rd Reg.ADM_LOP3_TOTAL 0 i = total % 2 ^ 32 := by
  obtain ⟨-, -, -, -, htotal⟩ := State.entryShown_entry (s := s) (e := e) (total := total) (h := s.newHandle) hi
  exact ((State.admPush_foot ..).rd_at rfl).trans (State.opEntered_rd.trans htotal)

theorem State.opAnnounced_fw : (s.opAnnounced e i total).fw = s.fw := (State.admPush_foot ..).fw rfl

theorem State.opAnnounced_rd {q : Nat} (hk : keepsRow fp58 R = true) (h₁ : entryRows.all (otherRow R) = true)
    (h₂ : otherRow R Reg.ADM_CNT_LONG_STARTED = true) : (s.opAnnounced e i total).rd R 0 q = s.rd R 0 q :=
  ((State.admPush_foot ..).rd_at hk).trans (State.opEntered_rd.trans (State.entryShown_other h₁ h₂))

/-! ### The leg in TEST (R268) -/

theorem State.setPm_out : s.out <+: (s.setPm l n).out := by
  unfold State.setPm
  extract_lets y
  have hy : y.out = s.out := by
    unfold y
    split
    · exact ((State.markBins_foot ..).out rfl).1
    · rfl
  exact State.event_out_of hy

theorem State.setPm_out_of {o : List Output} (h : s.out = o) : o <+: (s.setPm l n).out := h ▸ State.setPm_out

theorem State.testBegin_out : s.out <+: (s.testBegin l).out := State.setPm_out

theorem opStands_legTested : OpStands i s (s.legTested j) := by
  unfold State.legTested
  split
  · exact .of_foot (State.testBegin_foot ..) rfl State.testBegin_out
  · exact .refl

theorem State.legTested_fw : (s.legTested i).fw = s.fw := by
  unfold State.legTested
  split
  · exact (State.testBegin_foot ..).fw rfl
  · rfl

theorem State.legTested_state (hleg : s.opLeg i = some l) : (s.legTested i).rd Reg.PM_LEG_STATE l.n = 2 := by
  rw [State.legTested, hleg]
  exact State.setPm_state

end

end Sys2Proof.Machine

/-! SUPPORT. The long commands of the admin queue (12_mailboxes_and_admin.md, R331, R333, R336, R337; 13_firmware_and_lifecycle.md, R351 to
R353): what each start shows, and what a hitless activation ends. -/

namespace Sys2Proof.Machine

section
variable {s t u x y : State} {R Q : Row} {e b : List Byte} {v i j k n st op m h total : Nat} {used : List (Nat × Nat)} {l : Leg}
  {refusal : State → Option Nat} {amount : State → Nat} {go : State → Nat → State} {o : LongOp}

/-! ### A long command that starts, and one that does not -/

/-- The first entry of ADM_LOP that is free. -/
abbrev State.freeEntry (s : State) : Option Nat := (List.range 8).find? fun i => !s.isOn Reg.ADM_LOP0_HANDLE 0 i

theorem State.freeEntry_lt (h : s.freeEntry = some i) : i < 8 := List.mem_range.mp (List.mem_of_find?_eq_some h)

theorem State.admTaken_freeEntry : s.admTaken.freeEntry = s.freeEntry := by
  unfold State.freeEntry
  congr 1
  funext i
  rw [State.admTaken_isOn rfl rfl]

theorem State.admTaken_running : s.admTaken.running op = s.running op := by
  unfold State.running
  rw [State.admTaken_liveOps]
  simp only [State.admTaken_opCode]

theorem State.admTaken_opLeg : s.admTaken.opLeg i = s.opLeg i := by
  unfold State.opLeg
  rw [State.admTaken_opCode]
  rfl

theorem State.admTaken_runningOn : s.admTaken.runningOn op l = s.runningOn op l := by
  unfold State.runningOn
  rw [State.admTaken_liveOps]
  simp only [State.admTaken_opCode, State.admTaken_opLeg]

theorem Admitted.codeByte (h : Admitted s e op used) (hop : op < 256) : admOp e % 2 ^ 8 = op := by
  rw [h.code]
  exact Nat.mod_eq_of_lt hop

theorem Admitted.starts (h : Admitted s e op used) (hfree : s.freeEntry = some i) (hno : refusal s.admTaken = none) :
    s.longTake e op used refusal amount go = go ((s.admTaken.opAnnounced e i (amount s.admTaken)).legTested i) i :=
  h.goes (congrArg (Prod.mk none) (State.startLong_goes (State.admTaken_freeEntry.trans hfree) hno))

theorem Admitted.refuses (h : Admitted s e op used) (hr : refusal s.admTaken = some st) :
    s.longTake e op used refusal amount go = s.admTaken.admDone (admCid e) st 0 :=
  h.goes (congrArg (Prod.mk none) (by rw [hr]; rfl))

theorem Admitted.full (h : Admitted s e op used) (hfree : s.freeEntry = none) (hno : refusal s.admTaken = none) :
    s.longTake e op used refusal amount go = s.admTaken.admDone (admCid e) St.noResources 0 := by
  refine h.goes (congrArg (Prod.mk none) ?_)
  unfold State.startLong
  rw [hno]
  show (match s.admTaken.freeEntry with | none => _ | some i => _) = _
  rw [State.admTaken_freeEntry, hfree]

theorem longTake_refused (h : Admitted s e op used) (hr : refusal s.admTaken = some st) (hne : st ≠ 0) : ∃ t,
    (Host.Outcome.next (s.longTake e op used refusal amount go) : Out) = .next t ∧ Answered e st 0 s t ∧
      Counted Reg.ADM_CNT_COMMANDS 0 0 1 s t ∧ Counted Reg.ADM_CNT_REFUSED 0 0 1 s t := ⟨_, rfl, refused_admTaken hne (h.refuses hr)⟩

/-- What a start shows from the state in which the command was taken, whatever was read since. -/
theorem started_since (hy : Unanswered s.admTaken y) (hregs : y.regs = s.admTaken.regs) (hi : i < 8) (hcode : admOp e % 2 ^ 8 = op)
    (hgo : OpStands i ((y.opAnnounced e i total).legTested i) t) :
    Started e op i s t ∧ Counted Reg.ADM_CNT_COMMANDS 0 0 1 s t ∧ t.rd Reg.ADM_LOP3_TOTAL 0 i = total % 2 ^ 32 := by
  have hstands : OpStands i (y.opAnnounced e i total) t := opStands_legTested.trans hgo
  obtain ⟨hshown, hstate, hcid, hparams, hcount, hdone⟩ := (started_opAnnounced (s := y) (total := total) hi hcode).stands hstands
  have hbefore : y.rd Reg.ADM_CNT_LONG_STARTED = s.rd Reg.ADM_CNT_LONG_STARTED := (State.rd_of_regs hregs).trans (State.admTaken_rd_at rfl rfl)
  refine ⟨⟨hshown, hstate, hcid, hparams, counted_of_rd_before hbefore hcount, (unanswered_admTaken.trans hy).completed hdone⟩, ?_, ?_⟩
  · refine counted_of_rd_after ((hstands.count rfl).trans ?_) counted_admTaken
    exact (State.opAnnounced_rd rfl (by decide +kernel) rfl).trans (State.rd_of_regs hregs)
  · exact (hstands.rd rfl).trans (State.opAnnounced_total hi)

theorem Admitted.started (h : Admitted s e op used) (hop : op < 256) (hfree : s.freeEntry = some i)
    (hgo : OpStands i ((s.admTaken.opAnnounced e i total).legTested i) t) :
    Started e op i s t ∧ Counted Reg.ADM_CNT_COMMANDS 0 0 1 s t ∧ t.rd Reg.ADM_LOP3_TOTAL 0 i = total % 2 ^ 32 :=
  started_since .refl rfl (State.freeEntry_lt hfree) (h.codeByte hop) hgo

/-! ### The leg that an operation holds -/

theorem slice_slice_one : slice (slice e 8 56) 0 1 = slice e 8 1 := by
  unfold slice
  rcases e.drop 8 with _ | ⟨b, r⟩ <;> simp [zeros]

theorem LongOp.par_of_params (hp : o.params = slice e 8 56) : o.par 8 1 = admPar e 8 1 := by
  rw [LongOp.par, hp, slice_slice_one, admPar]

/-- The leg of the operation that a command starts. -/
theorem State.opAnnounced_opLeg (hi : i < 8) (hcode : admOp e % 2 ^ 8 = op) : (s.opAnnounced e i total).opLeg i =
    if op = 0x44 ∨ op = 0x45 then some (Leg.ofBit (admPar e 8 1 % 2))
    else if op = 0x46 ∧ admPar e 8 1 ≤ 1 then some (Leg.ofBit (admPar e 8 1)) else none := by
  obtain ⟨hshown, -, -, hparams, -⟩ := started_opAnnounced (s := s) (total := total) hi hcode
  unfold State.opLeg
  rw [hshown, LongOp.par_of_params hparams]

theorem Leg.ofBit_n (hb : k < 2) : (Leg.ofBit k).n = k := by
  have hcases : k = 0 ∨ k = 1 := by omega
  rcases hcases with rfl | rfl <;> rfl

/-- A sweep or a laser's characterisation puts its leg in TEST. -/
theorem State.started_tests (hi : i < 8) (hcode : admOp e % 2 ^ 8 = op) (hop : op = 0x44 ∨ op = 0x45) :
    ((s.opAnnounced e i total).legTested i).rd Reg.PM_LEG_STATE (admPar e 8 1 % 2) = 2 := by
  have hleg : (s.opAnnounced e i total).opLeg i = some (Leg.ofBit (admPar e 8 1 % 2)) := (State.opAnnounced_opLeg hi hcode).trans (if_pos hop)
  have hstate := State.legTested_state hleg
  rwa [Leg.ofBit_n (Nat.mod_lt _ Nat.zero_lt_two)] at hstate

/-! ### FW_VERIFY, SCRUB_FULL, TABLE_BULK_LOAD -/

theorem fwVerify_starts (h : Admitted s e 0x41 [(8, 1)]) (hfree : s.freeEntry = some i) (h₁ : s.running 0x40 = false)
    (h₂ : s.running 0x41 = false) : ∃ t, exec (.fwVerify e) s = .next t ∧ Started e 0x41 i s t ∧ Counted Reg.ADM_CNT_COMMANDS 0 0 1 s t ∧
      t.fw = s.fw := by
  obtain ⟨hstart, hcount, -⟩ := h.started (by decide) hfree .refl
  refine ⟨_, congrArg Host.Outcome.next (h.starts hfree (if_neg ?_)), hstart, hcount, ?_⟩
  · rw [State.admTaken_running, State.admTaken_running, h₁, h₂]
    decide
  · rw [State.legTested_fw, State.opAnnounced_fw]
    rfl

theorem scrubFull_starts (h : Admitted s e 0x42 [(8, 31)]) (hfree : s.freeEntry = some i) (hno : s.running 0x42 = false) : ∃ t,
    exec (.scrubFull e) s = .next t ∧ Started e 0x42 i s t ∧ Counted Reg.ADM_CNT_COMMANDS 0 0 1 s t := by
  obtain ⟨hstart, hcount, -⟩ := h.started (by decide) hfree .refl
  refine ⟨_, congrArg Host.Outcome.next (h.starts hfree (if_neg ?_)), hstart, hcount⟩
  rw [State.admTaken_running, hno]
  decide

theorem scrubFull_full (h : Admitted s e 0x42 [(8, 31)]) (hno : s.running 0x42 = false) (hfree : s.freeEntry = none) : ∃ t,
    exec (.scrubFull e) s = .next t ∧ Answered e 15 0 s t ∧ Counted Reg.ADM_CNT_COMMANDS 0 0 1 s t ∧ Counted Reg.ADM_CNT_REFUSED 0 0 1 s t := by
  refine ⟨_, rfl, refused_admTaken (by decide) (h.full hfree (if_neg ?_))⟩
  rw [State.admTaken_running, hno]
  decide

theorem scrubFull_busy (h : Admitted s e 0x42 [(8, 31)]) (hlive : s.running 0x42 = true) : ∃ t,
    exec (.scrubFull e) s = .next t ∧ Answered e 1 0 s t ∧ Counted Reg.ADM_CNT_COMMANDS 0 0 1 s t ∧ Counted Reg.ADM_CNT_REFUSED 0 0 1 s t :=
  longTake_refused h (if_pos (State.admTaken_running.trans hlive)) (by decide)

/-- Firmware is present where a bulk load is not refused by the terminal's state. -/
theorem State.fwPresent_of_bulkGate (hg : s.admGate 0x43 = none) : s.fwPresent = true := by
  by_contra hno
  have habsent : (!s.fwPresent || s.fw.fuse.pendingTarget.isSome) = true := by rw [Bool.eq_false_of_not_eq_true hno]; rfl
  unfold State.admGate at hg
  dsimp only at hg
  split_ifs at hg with h₁ h₂ h₃ h₄
  · exact absurd h₂ (by decide)
  · exact absurd h₄ (by decide)

theorem State.commitOpen_opens (hfw : s.fwPresent = true) (hgroup : s.rd Reg.CLS_COMMIT_STATUS_GROUP = 0) :
    s.commitOpen.rd Reg.CLS_COMMIT_STATUS_GROUP = 1 ∧ s.out <+: s.commitOpen.out := by
  have hopen : s.commitOpen = _ := (if_neg (by rw [hfw]; decide)).trans (if_neg (fun hne => hne hgroup))
  rw [hopen]
  refine ⟨?_, List.prefix_rfl⟩
  exact (State.rd_wr_plain rfl).trans ((State.rd_wr_plain rfl).trans (State.rd_wr_same (by decide)))

theorem leNat_lt : leNat b < 256 ^ b.length := by
  induction b with
  | nil => exact Nat.one_pos
  | cons c b ih =>
    have hc : c.toNat < 256 := c.isLt
    rw [leNat, List.length_cons, Nat.pow_succ]
    omega

theorem slice_length : (slice b i n).length = n := by
  simp only [slice, zeros, List.length_append, List.length_take, List.length_replicate]
  omega

theorem admPar_lt : admPar e k n < 256 ^ n := by
  have hlt := leNat_lt (b := slice e k n)
  rwa [slice_length] at hlt

theorem admPar_four_lt : admPar e k 4 < 2 ^ 32 := admPar_lt (n := 4)

theorem tableBulkLoad_starts (h : Admitted s e 0x43 (wholeBytes 16 8 ++ wholeBytes 24 4)) (hfree : s.freeEntry = some i)
    (hno : s.running 0x43 = false) (hgroup : s.rd Reg.CLS_COMMIT_STATUS_GROUP = 0) : ∃ t, exec (.tableBulkLoad e) s = .next t ∧
      Started e 0x43 i s t ∧ Counted Reg.ADM_CNT_COMMANDS 0 0 1 s t ∧ t.rd Reg.CLS_COMMIT_STATUS_GROUP = 1 ∧
      t.rd Reg.ADM_LOP3_TOTAL 0 i = admPar e 24 4 := by
  have hi := State.freeEntry_lt hfree
  have hcode : admOp e % 2 ^ 8 = 0x43 := h.codeByte (by decide)
  have hleg : (s.admTaken.opAnnounced e i (admPar e 24 4)).legTested i = s.admTaken.opAnnounced e i (admPar e 24 4) := by
    rw [State.legTested, State.opAnnounced_opLeg hi hcode]
    rfl
  have hrd : ∀ {R : Row}, keepsRow fp58 R = true → entryRows.all (otherRow R) = true → otherRow R Reg.ADM_CNT_LONG_STARTED = true →
      otherRow R Reg.ADM_CNT_COMMANDS = true → otherRow R Reg.ADM_SQ_IDX_SQ_CONS = true →
      ((s.admTaken.opAnnounced e i (admPar e 24 4)).legTested i).rd R = s.rd R := fun h₁ h₂ h₃ h₄ h₅ => by
    rw [hleg]
    exact (State.opAnnounced_rd h₁ h₂ h₃).trans (State.admTaken_rd_at h₄ h₅)
  obtain ⟨hopens, hout⟩ := State.commitOpen_opens (s := (s.admTaken.opAnnounced e i (admPar e 24 4)).legTested i)
    (by rw [State.fwPresent, State.isOn, hrd rfl (by decide +kernel) rfl rfl rfl]; exact State.fwPresent_of_bulkGate h.gate)
    ((hrd rfl (by decide +kernel) rfl rfl rfl).trans hgroup)
  obtain ⟨hstart, hcount, htotal⟩ := h.started (by decide) hfree (.of_foot (State.commitOpen_foot ..) rfl hout)
  refine ⟨_, congrArg Host.Outcome.next (h.starts hfree (if_neg ?_)), hstart, hcount, hopens, htotal.trans (Nat.mod_eq_of_lt admPar_four_lt)⟩
  rw [State.admTaken_running, State.admTaken_rd_at rfl rfl, hno, hgroup]
  decide

/-! ### DISPERSION_SWEEP, LASER_CHARACTERISE, SELF_TEST, PM_EXPORT -/

theorem opStands_upd {f : LegSt → LegSt} : OpStands i s (s.upd l f) := by
  cases l <;> exact ⟨fun _ _ => rfl, fun _ _ => rfl, rfl, rfl, List.prefix_rfl⟩

/-- The bits of DISPERSION_SWEEP that carry a parameter. -/
abbrev sweepBits : List (Nat × Nat) := [(8, 3), (10, 255), (11, 255)] ++ wholeBytes 16 8

theorem dispersionSweep_starts (h : Admitted s e 0x44 sweepBits) (hfree : s.freeEntry = some i) (hlong : 1024 ≤ admPar e 10 2)
    (hno : s.runningOn 0x44 (Leg.ofBit (admPar e 8 1 % 2)) = false) : ∃ t, exec (.dispersionSweep e) s = .next t ∧ Started e 0x44 i s t ∧
      Counted Reg.ADM_CNT_COMMANDS 0 0 1 s t ∧ t.rd Reg.PM_LEG_STATE (admPar e 8 1 % 2) = 2 ∧ t.rd Reg.ADM_LOP3_TOTAL 0 i = admPar e 10 2 := by
  have hfits : admPar e 10 2 < 2 ^ 32 := (admPar_lt (n := 2)).trans (by decide)
  obtain ⟨hstart, hcount, htotal⟩ := h.started (by decide) hfree opStands_upd
  refine ⟨_, congrArg Host.Outcome.next (h.starts hfree ((if_neg (by omega)).trans (if_neg ?_))), hstart, hcount, ?_,
    htotal.trans (Nat.mod_eq_of_lt hfits)⟩
  · rw [State.admTaken_runningOn, hno]
    exact Bool.false_ne_true
  · exact (State.rd_upd ..).trans (State.started_tests (State.freeEntry_lt hfree) (h.codeByte (by decide)) (.inl rfl))

theorem dispersionSweep_short (h : Admitted s e 0x44 sweepBits) (hshort : admPar e 10 2 < 1024) : ∃ t, exec (.dispersionSweep e) s = .next t ∧
    Answered e 2 0 s t ∧ Counted Reg.ADM_CNT_COMMANDS 0 0 1 s t ∧ Counted Reg.ADM_CNT_REFUSED 0 0 1 s t :=
  longTake_refused h (if_pos hshort) (by decide)

theorem State.admTaken_active : s.admTaken.active = s.active := by rw [State.active, State.admTaken_rd_at rfl rfl, State.active]

theorem laserCharacterise_starts (h : Admitted s e 0x45 ([(8, 7)] ++ wholeBytes 16 8)) (hfree : s.freeEntry = some i)
    (hidle : s.active ≠ Leg.ofBit (admPar e 8 1 % 2)) (hno : s.runningOn 0x45 (Leg.ofBit (admPar e 8 1 % 2)) = false) : ∃ t,
      exec (.laserCharacterise e) s = .next t ∧ Started e 0x45 i s t ∧ Counted Reg.ADM_CNT_COMMANDS 0 0 1 s t ∧
        t.rd Reg.PM_LEG_STATE (admPar e 8 1 % 2) = 2 := by
  obtain ⟨hstart, hcount, -⟩ := h.started (by decide) hfree .refl
  refine ⟨_, congrArg Host.Outcome.next (h.starts hfree ((if_neg ?_).trans (if_neg ?_))), hstart, hcount,
    State.started_tests (State.freeEntry_lt hfree) (h.codeByte (by decide)) (.inr rfl)⟩
  · rw [State.admTaken_active]
    exact hidle
  · rw [State.admTaken_runningOn, hno]
    exact Bool.false_ne_true

theorem selfTest_starts (h : Admitted s e 0x46 [(8, 3), (9, 15)]) (hfree : s.freeEntry = some i) (hgroup : admPar e 8 1 = 3)
    (hno : s.running 0x46 = false) : ∃ t, exec (.selfTest e) s = .next t ∧ Started e 0x46 i s t ∧ Counted Reg.ADM_CNT_COMMANDS 0 0 1 s t ∧
      t.rd Reg.ADM_LOP3_TOTAL 0 i = popcount 4 (admPar e 9 1) % 2 ^ Reg.ADM_LOP3_TOTAL.width := by
  obtain ⟨hstart, hcount, htotal⟩ := h.started (by decide) hfree .refl
  refine ⟨_, congrArg Host.Outcome.next (h.starts hfree ((if_neg ?_).trans (if_neg ?_))), hstart, hcount, htotal⟩
  · rw [hgroup]
    simp
  · rw [State.admTaken_running, hno]
    exact Bool.false_ne_true

theorem selfTest_ownGroup (h : Admitted s e 0x46 [(8, 3), (9, 15)]) (hgroup : admPar e 8 1 = 2) : ∃ t, exec (.selfTest e) s = .next t ∧
    Answered e 2 0 s t ∧ Counted Reg.ADM_CNT_COMMANDS 0 0 1 s t ∧ Counted Reg.ADM_CNT_REFUSED 0 0 1 s t :=
  longTake_refused h (if_pos (by rw [hgroup]; rfl)) (by decide)

/-- The bits of PM_EXPORT that carry a parameter. -/
abbrev exportBits : List (Nat × Nat) := [(8, 3), (9, 63), (10, 3)] ++ wholeBytes 16 8 ++ wholeBytes 24 4

theorem pmExport_starts (h : Admitted s e 0x47 exportBits) (hfree : s.freeEntry = some i) (hno : s.running 0x47 = false)
    (hroom : 64 * (exportSel (admPar e 8 1) (admPar e 9 1) (admPar e 10 1)).length ≤ admPar e 24 4) : ∃ t,
      exec (.pmExport e) s = .next t ∧ Started e 0x47 i s t ∧ Counted Reg.ADM_CNT_COMMANDS 0 0 1 s t ∧ t.rd Reg.ADM_LOP3_TOTAL 0 i =
        (exportSel (admPar e 8 1) (admPar e 9 1) (admPar e 10 1)).length % 2 ^ Reg.ADM_LOP3_TOTAL.width := by
  obtain ⟨hstart, hcount, htotal⟩ := h.started (by decide) hfree .refl
  refine ⟨_, congrArg Host.Outcome.next (h.starts hfree ((if_neg (Nat.not_lt_of_le hroom)).trans (if_neg ?_))), hstart, hcount, htotal⟩
  rw [State.admTaken_running, hno]
  exact Bool.false_ne_true

/-! ### FW_DOWNLOAD (R351) -/

/-- The bits of FW_DOWNLOAD that carry a parameter. -/
abbrev downloadBits : List (Nat × Nat) := [(8, 1)] ++ wholeBytes 16 8 ++ wholeBytes 24 4

theorem State.admTaken_downloadBusy : s.admTaken.downloadBusy = s.downloadBusy := by
  rw [State.downloadBusy, State.admTaken_running, State.admTaken_running, State.admTaken_running, State.admTaken_isOn rfl rfl,
    State.admTaken_rd_at rfl rfl, State.downloadBusy]

theorem fwDownload_busy {hdr : HostRead} (h : Admitted s e 0x40 downloadBits) (hbusy : s.downloadBusy = true) : ∃ t,
    exec (.fwDownload e hdr) s = .next t ∧ Answered e 1 0 s t ∧ Counted Reg.ADM_CNT_COMMANDS 0 0 1 s t ∧
      Counted Reg.ADM_CNT_REFUSED 0 0 1 s t :=
  ⟨_, rfl, refused_admTaken (by decide) (h.goes (congrArg (Prod.mk none) (if_pos (State.admTaken_downloadBusy.trans hbusy))))⟩

/-- Of a new image the refusal rests on its header alone. -/
theorem State.downloadRefusal_congr (hnew : admPar e 8 1 ≠ 0) : t.downloadRefusal e (.data b) = s.downloadRefusal e (.data b) := by
  unfold State.downloadRefusal
  simp only [decide_eq_false hnew, Bool.false_and]

/-- A new image: the slot's record and the journal are erased, and the journal's header programmed. -/
theorem State.downloadGo_new (hnew : admPar e 8 1 ≠ 0) : s.downloadGo e (.data b) i =
    ((s.setVerified s.target none).program 4 (beBytes 48 (hdrDigest b) ++ leBytes 4 (admPar e 24 4))).settleSlot s.target := if_neg hnew

theorem opStands_inner (h : Foot m s t) (hk : keepsEntries m = true) (hout : m.testBit 1024 = false) : OpStands i s t :=
  .of_foot h hk (by rw [(h.out hout).1])

theorem opStands_program : OpStands i s (s.program n b) := ⟨fun _ _ => rfl, fun _ _ => rfl, rfl, rfl, List.prefix_rfl⟩

theorem fwDownload_starts {hdr : HostRead} (h : Admitted s e 0x40 downloadBits) (hfree : s.freeEntry = some i) (hdma : s.canDma 0 = true)
    (hidle : s.downloadBusy = false) (hhdr : hdr = .data b) (hfits : s.downloadRefusal e hdr = none) (hnew : admPar e 8 1 ≠ 0) : ∃ t,
      exec (.fwDownload e hdr) s = .next t ∧ Started e 0x40 i s t ∧ Counted Reg.ADM_CNT_COMMANDS 0 0 1 s t ∧
        t.rd Reg.ADM_LOP3_TOTAL 0 i = admPar e 24 4 ∧ t.fw.flash.jour = beBytes 48 (hdrDigest b) ++ leBytes 4 (admPar e 24 4) := by
  subst hhdr
  have hstart : s.admTaken.downloadStart e (.data b) = _ := (if_neg (by rw [State.admTaken_downloadBusy, hidle]; exact Bool.false_ne_true)).trans
    (by rw [State.admRead_data hdma])
  obtain ⟨hshown, hcount, htotal⟩ := started_since (s := s) (e := e) (y := s.admTaken.askHost 0 (admPar e 16 8) 2400) (total := admPar e 24 4)
    (op := 0x40) (t := State.downloadGo _ e (.data b) i) unanswered_emits rfl (State.freeEntry_lt hfree) (h.codeByte (by decide)) (by
      rw [State.downloadGo_new hnew]
      exact ((opStands_inner (State.setVerified_foot ..) rfl rfl).trans opStands_program).trans
        (opStands_inner (State.settleSlot_foot ..) rfl rfl))
  refine ⟨_, congrArg Host.Outcome.next (h.goes (congrArg (Prod.mk none) (hstart.trans (State.startLong_goes
    (State.admTaken_freeEntry.trans hfree) ((State.downloadRefusal_congr hnew).trans hfits))))), hshown, hcount,
    htotal.trans (Nat.mod_eq_of_lt admPar_four_lt), ?_⟩
  rw [State.downloadGo_new hnew, (State.settleSlot_foot ..).fw rfl]
  rfl

end

end Sys2Proof.Machine

/-! SUPPORT. FW_ACTIVATE (13_firmware_and_lifecycle.md, R353, R354): its refusal, and the operations that a hitless activation ends. -/

namespace Sys2Proof.Machine

section
variable {s t u x : State} {R Q : Row} {e : List Byte} {v i j k n st m : Nat} {o : LongOp} {ops : List (Nat × LongOp)}

/-! ### An operation that ends leaves the others -/

/-- The fields of an entry of ADM_LOP that its end clears. -/
def clearedRows : List Row :=
  [Reg.ADM_LOP0_HANDLE, Reg.ADM_LOP0_OPCODE, Reg.ADM_LOP0_STATE, Reg.ADM_LOP1_PERMILLE, Reg.ADM_LOP1_CID, Reg.ADM_LOP2_DONE,
  Reg.ADM_LOP3_TOTAL]

/-- A write to another entry. -/
theorem opStands_clear (hQ : clearedRows.contains Q = true) (hne : i ≠ j) : OpStands i s (s.wr Q v 0 j) := by
  have hall : ∀ Q ∈ clearedRows, Q.stride ≠ 0 ∧ (∀ R ∈ entryRows, R = Q ∨ otherRow R Q = true) ∧ ∀ R ∈ startCounts, otherRow R Q = true := by
    decide +kernel
  obtain ⟨hstride, hentry, hcounts⟩ := hall Q (List.mem_of_elem_eq_true hQ)
  refine ⟨fun R hR => ?_, fun R hR => State.rd_wr_plain (hcounts R hR), rfl, rfl, List.prefix_rfl⟩
  rcases hentry R hR with rfl | hother
  · exact State.rd_wr_otherCopy hstride hne
  · exact State.rd_wr_plain hother

theorem opStands_setOp {f : LongOp → LongOp} (hne : i ≠ j) : OpStands i s (s.setOp j f) :=
  ⟨fun _ _ => rfl, fun _ _ => rfl, Tab.get_put_ne _ hne _ _, rfl, List.prefix_rfl⟩

theorem opStands_inc (h₁ : entryRows.all (fun Q => otherRow Q R) = true) (h₂ : startCounts.all (fun Q => otherRow Q R) = true) :
    OpStands i s (s.inc R) :=
  ⟨fun Q hQ => State.rd_wr_plain (List.all_eq_true.mp h₁ Q hQ), fun Q hQ => State.rd_wr_plain (List.all_eq_true.mp h₂ Q hQ), rfl, rfl,
    List.prefix_rfl⟩

/-- The leg that an operation held is free of it. -/
def State.legFreed (s : State) (j : Nat) : State :=
  match s.opLeg j with
  | some l => (if s.opCode j = 0x44 then s.upd l fun g => { g with dtKeep := 0 } else s).testEnd l
  | none => s

/-- The entry's fields are clear. -/
def State.entryCleared (s : State) (j : Nat) : State :=
  ((((((s.wr Reg.ADM_LOP0_HANDLE 0 0 j).wr Reg.ADM_LOP0_OPCODE 0 0 j).wr Reg.ADM_LOP0_STATE 0 0 j).wr Reg.ADM_LOP1_PERMILLE 0 0 j).wr
    Reg.ADM_LOP1_CID 0 0 j).wr Reg.ADM_LOP2_DONE 0 0 j).wr Reg.ADM_LOP3_TOTAL 0 0 j

theorem State.freeOp_eq : s.freeOp j = ((s.legFreed j).entryCleared j).setOp j fun _ => { params := [] } := rfl

theorem opStands_entryCleared (hne : i ≠ j) : OpStands i s (s.entryCleared j) :=
  ((((((opStands_clear rfl hne).trans (opStands_clear rfl hne)).trans (opStands_clear rfl hne)).trans (opStands_clear rfl hne)).trans
    (opStands_clear rfl hne)).trans (opStands_clear rfl hne)).trans (opStands_clear rfl hne)

theorem State.testEnd_out {l : Leg} : s.out <+: (s.testEnd l).out := by
  unfold State.testEnd State.testOver
  split
  · exact List.prefix_rfl
  · exact State.setPm_out_of rfl

theorem opStands_legFreed : OpStands i s (s.legFreed j) := by
  unfold State.legFreed
  split
  · refine OpStands.trans ?_ (.of_foot (State.testEnd_foot ..) rfl State.testEnd_out)
    split
    · exact opStands_upd
    · exact .refl
  · exact .refl

theorem opStands_freeOp (hne : i ≠ j) : OpStands i s (s.freeOp j) := by
  rw [State.freeOp_eq]
  exact (opStands_legFreed.trans (opStands_entryCleared hne)).trans (opStands_setOp hne)

theorem State.commitCancel_out : s.out <+: s.commitCancel.out := by
  unfold State.commitCancel
  split
  · exact List.prefix_rfl
  · exact State.event_out_of rfl

theorem opStands_undoOp : OpStands i s (s.undoOp j) := by
  unfold State.undoOp
  split
  · exact .of_foot (State.commitCancel_foot ..) rfl State.commitCancel_out
  · exact .refl

/-- An operation that firmware ends leaves the other operations. -/
theorem opStands_stopOp (hne : i ≠ j) : OpStands i s (s.stopOp j) := by
  have hended : ∀ {x : State} {l : List (Nat × Nat)}, OpStands i x { x with adm := { x.adm with ended := l } } :=
    ⟨fun _ _ => rfl, fun _ _ => rfl, rfl, rfl, List.prefix_rfl⟩
  exact ((hended.trans opStands_undoOp).trans (opStands_inc (by decide +kernel) (by decide +kernel))).trans (opStands_freeOp hne)

theorem State.freeOp_handle (hj : j < 8) : (s.freeOp j).rd Reg.ADM_LOP0_HANDLE 0 j = 0 := by
  have hcleared : ∀ {x : State}, (x.entryCleared j).rd Reg.ADM_LOP0_HANDLE 0 j = 0 := fun {x} => by
    unfold State.entryCleared
    rw [State.rd_wr_plain rfl, State.rd_wr_plain rfl, State.rd_wr_plain rfl, State.rd_wr_plain rfl, State.rd_wr_plain rfl,
      State.rd_wr_plain rfl]
    exact State.rd_wr_same hj
  rw [State.freeOp_eq]
  exact hcleared

theorem State.stopOp_handle (hj : j < 8) : (s.stopOp j).rd Reg.ADM_LOP0_HANDLE 0 j = 0 := State.freeOp_handle hj

/-- An entry that is free stays free when an operation ends. -/
theorem State.stopOp_free (hj : j < 8) (h : s.rd Reg.ADM_LOP0_HANDLE 0 j = 0) : (s.stopOp k).rd Reg.ADM_LOP0_HANDLE 0 j = 0 := by
  by_cases hk : j = k
  · subst hk
    exact State.stopOp_handle hj
  · exact ((opStands_stopOp hk).rd rfl).trans h

/-! ### A hitless activation ends every other operation (R354) -/

/-- Every operation of a list but one ends. -/
def State.othersStopped (s : State) (i : Nat) (ops : List (Nat × LongOp)) : State :=
  ops.foldl (fun s p => if p.1 = i then s else s.stopOp p.1) s

theorem State.activateGo_eq : s.activateGo n i = if n = 1 then s else s.othersStopped i s.adm.ops := rfl

theorem opStands_othersStopped : OpStands i s (s.othersStopped i ops) := by
  induction ops generalizing s with
  | nil => exact .refl
  | cons p r ih =>
    rw [State.othersStopped, List.foldl_cons]
    split
    · exact ih
    next hp => exact (opStands_stopOp (Ne.symm hp)).trans ih

theorem State.othersStopped_fw : (s.othersStopped i ops).fw = s.fw := by
  induction ops generalizing s with
  | nil => rfl
  | cons p r ih =>
    rw [State.othersStopped, List.foldl_cons]
    split
    · exact ih
    · exact ih.trans ((State.stopOp_foot ..).fw rfl)

theorem State.othersStopped_free (hj : j < 8) (h : s.rd Reg.ADM_LOP0_HANDLE 0 j = 0) :
    (s.othersStopped i ops).rd Reg.ADM_LOP0_HANDLE 0 j = 0 := by
  induction ops generalizing s with
  | nil => exact h
  | cons p r ih =>
    rw [State.othersStopped, List.foldl_cons]
    split
    · exact ih h
    · exact ih (State.stopOp_free hj h)

theorem State.othersStopped_ends (hj : j < 8) (hne : j ≠ i) (hmem : (j, o) ∈ ops) : (s.othersStopped i ops).rd Reg.ADM_LOP0_HANDLE 0 j = 0 := by
  induction ops generalizing s with
  | nil => exact absurd hmem List.not_mem_nil
  | cons p r ih =>
    rw [State.othersStopped, List.foldl_cons]
    rcases List.mem_cons.mp hmem with rfl | hr
    · rw [if_neg hne]
      exact State.othersStopped_free hj (State.stopOp_handle hj)
    · exact ih hr

theorem Tab.mem_of_get_ne {α : Type} {d : α} {tab : Tab α} (h : Tab.get d k tab ≠ d) : ∃ w, (k, w) ∈ tab := by
  induction tab with
  | nil => exact absurd rfl h
  | cons p r ih =>
    obtain ⟨q, w⟩ := p
    rw [Tab.get_cons] at h
    split at h
    next hq =>
      subst hq
      exact ⟨w, List.mem_cons_self⟩
    next =>
      obtain ⟨w', hw⟩ := ih h
      exact ⟨w', List.mem_cons_of_mem _ hw⟩

theorem State.op_mem (h : (s.op j).params ≠ []) : ∃ o, (j, o) ∈ s.adm.ops :=
  Tab.mem_of_get_ne (d := { params := [] }) fun heq => h (by rw [State.op, heq])

/-- The operations but the one started are those before. -/
theorem State.started_op_ne {total : Nat} (hne : j ≠ i) : ((s.opAnnounced e i total).legTested i).op j = s.op j := by
  rw [(opStands_legTested (i := j) (j := i)).op]
  exact State.admPush_op.trans (State.opEntered_op_ne hne)

/-! ### FW_ACTIVATE -/

theorem State.activateRefusal_ne (h : s.activateRefusal k n = some st) : st ≠ 0 := by
  unfold State.activateRefusal at h
  dsimp only at h
  split_ifs at h <;> cases h <;> decide

theorem State.admTaken_verified : s.admTaken.verified k = s.verified k := by
  have hflash : s.admTaken.fw.flash = s.fw.flash := rfl
  rw [State.verified, State.flashRead_congr hflash, State.hdr_congr hflash, State.verified]

theorem State.admTaken_consistent : s.admTaken.consistent k = s.consistent k := by
  have hstep : s.admTaken.stepping = s.stepping := State.admTaken_rd_at rfl rfl
  unfold State.consistent
  rw [hstep, State.admTaken_hdr]

theorem State.admTaken_tested : s.admTaken.tested k = s.tested k := by
  have hstep : s.admTaken.stepping = s.stepping := State.admTaken_rd_at rfl rfl
  unfold State.tested
  rw [hstep, State.admTaken_hdr]

theorem State.admTaken_activateRefusal : s.admTaken.activateRefusal k n = s.activateRefusal k n := by
  unfold State.activateRefusal
  rw [State.admTaken_rd_at rfl rfl, State.admTaken_runSlot, State.admTaken_verified, State.admTaken_consistent, State.admTaken_running,
    State.admTaken_running, State.admTaken_running, State.admTaken_tested, State.admTaken_isOn rfl rfl]
  rfl

theorem fwActivate_starts (h : Admitted s e 0x0A [(8, 1), (9, 1)]) (hfree : s.freeEntry = some i)
    (hno : s.activateRefusal (admPar e 8 1) (admPar e 9 1) = none) : ∃ t, exec (.fwActivate e) s = .next t ∧ Started e 0x0A i s t ∧
      Counted Reg.ADM_CNT_COMMANDS 0 0 1 s t ∧ t.fw.flash = s.fw.flash ∧
      (admPar e 9 1 = 0 → ∀ j ∈ List.range 8, j ≠ i → (s.op j).params ≠ [] → t.rd Reg.ADM_LOP0_HANDLE 0 j = 0) := by
  have hstands : ∀ {y : State}, OpStands i y (y.activateGo (admPar e 9 1) i) := fun {y} => by
    rw [State.activateGo_eq]
    split
    · exact .refl
    · exact opStands_othersStopped
  have hfw : ∀ {y : State}, (y.activateGo (admPar e 9 1) i).fw = y.fw := fun {y} => by
    rw [State.activateGo_eq]
    split
    · rfl
    · exact State.othersStopped_fw
  obtain ⟨hstart, hcount, -⟩ := h.started (total := 1) (by decide) hfree hstands
  refine ⟨_, congrArg Host.Outcome.next (h.starts hfree (State.admTaken_activateRefusal.trans hno)), hstart, hcount, ?_, ?_⟩
  · rw [hfw, State.legTested_fw, State.opAnnounced_fw]
    rfl
  · intro hhitless j hj hne hlive
    have hop : ((s.admTaken.opAnnounced e i 1).legTested i).op j = s.op j := State.started_op_ne hne
    obtain ⟨o, hmem⟩ := State.op_mem (s := (s.admTaken.opAnnounced e i 1).legTested i) (j := j) (by rw [hop]; exact hlive)
    rw [State.activateGo_eq, if_neg (by omega)]
    exact State.othersStopped_ends (List.mem_range.mp hj) hne hmem

theorem fwActivate_refused (h : Admitted s e 0x0A [(8, 1), (9, 1)]) (hr : s.activateRefusal (admPar e 8 1) (admPar e 9 1) = some st) :
    ∃ t, exec (.fwActivate e) s = .next t ∧ Answered e st 0 s t ∧ Counted Reg.ADM_CNT_COMMANDS 0 0 1 s t ∧
      Counted Reg.ADM_CNT_REFUSED 0 0 1 s t := longTake_refused h (State.admTaken_activateRefusal.trans hr) (State.activateRefusal_ne hr)

end

/-- Settles O43: each start takes the first free entry and keeps it through the rest of its work; what is refused is answered at once. -/
theorem longAdminCommandsStart : Obligations.LongAdminCommandsStart := by
  unfold Obligations.LongAdminCommandsStart
  refine ⟨fun _ _ _ _ => admTake_gate_refuses, fun _ _ _ => admTake_form_refuses, fun _ _ _ => admTake_gate_refuses,
    fun _ _ => admTake_form_refuses, fun _ _ _ => admTake_gate_refuses, fun _ _ => admTake_form_refuses, fun _ _ _ => admTake_gate_refuses,
    fun _ _ => admTake_form_refuses, fun _ _ _ => admTake_gate_refuses, fun _ _ => admTake_form_refuses, fun _ _ _ => admTake_gate_refuses,
    fun _ _ => admTake_form_refuses, fun _ _ _ => admTake_gate_refuses, fun _ _ => admTake_form_refuses, fun _ _ _ => admTake_gate_refuses,
    fun _ _ => admTake_form_refuses, fun _ _ _ => admTake_gate_refuses, fun _ _ => admTake_form_refuses, ?_⟩
  exact ⟨fun _ _ _ _ _ h₁ h₂ h₃ h₄ => fwDownload_starts ⟨h₁, h₂, h₃, h₄⟩, fun _ _ _ h₁ h₂ h₃ h₄ => fwVerify_starts ⟨h₁, h₂, h₃, h₄⟩,
    fun _ _ _ h₁ h₂ h₃ h₄ => fwActivate_starts ⟨h₁, h₂, h₃, h₄⟩, fun _ _ _ h₁ h₂ h₃ h₄ => scrubFull_starts ⟨h₁, h₂, h₃, h₄⟩,
    fun _ _ _ h₁ h₂ h₃ h₄ => tableBulkLoad_starts ⟨h₁, h₂, h₃, h₄⟩, fun _ _ _ h₁ h₂ h₃ h₄ => dispersionSweep_starts ⟨h₁, h₂, h₃, h₄⟩,
    fun _ _ _ h₁ h₂ h₃ h₄ => laserCharacterise_starts ⟨h₁, h₂, h₃, h₄⟩, fun _ _ _ h₁ h₂ h₃ h₄ => selfTest_starts ⟨h₁, h₂, h₃, h₄⟩,
    fun _ _ _ h₁ h₂ h₃ h₄ => pmExport_starts ⟨h₁, h₂, h₃, h₄⟩, fun _ _ h₁ h₂ h₃ h₄ => scrubFull_full ⟨h₁, h₂, h₃, h₄⟩,
    fun _ _ h₁ h₂ h₃ h₄ => scrubFull_busy ⟨h₁, h₂, h₃, h₄⟩, fun _ _ _ h₁ h₂ h₃ h₄ => fwDownload_busy ⟨h₁, h₂, h₃, h₄⟩,
    fun _ _ h₁ h₂ h₃ h₄ => dispersionSweep_short ⟨h₁, h₂, h₃, h₄⟩, fun _ _ h₁ h₂ h₃ h₄ => selfTest_ownGroup ⟨h₁, h₂, h₃, h₄⟩,
    fun _ _ _ h₁ h₂ h₃ h₄ => fwActivate_refused ⟨h₁, h₂, h₃, h₄⟩⟩

end Sys2Proof.Machine
